-- ==== Sys2Proof/Word.lean ====
section
/-! DEFINITION. The words of the block: bytes, bus addresses, descriptors and their plainest
arithmetic. A descriptor is 64 bytes (spec/02, R54). -/

namespace Sys2Proof

/-- One byte. -/
abbrev Byte := BitVec 8

/-- A 64-byte Obdex descriptor; byte `n` is bits 8n+7 to 8n (spec/00, little-endian). -/
abbrev Desc := BitVec 512

/-- A 128-bit value: a CRC tag, a key half, a Philox block. -/
abbrev Word128 := BitVec 128

/-- Lowest value of a counter that saturates (spec/00, R29). -/
def satMax (w : Nat) : Nat := 2 ^ w - 1

/-- Addition that saturates at the width (R29). -/
def satAdd (w a b : Nat) : Nat := min (a + b) (2 ^ w - 1)

/-- Bits [hi:lo] of a number, as the manual's `bits(x)[m:l]`. -/
def bitsOf (x hi lo : Nat) : Nat := x / 2 ^ lo % 2 ^ (hi + 1 - lo)

/-- One bit of a number. -/
def bitAt (x n : Nat) : Bool := x / 2 ^ n % 2 = 1

/-- Number of a Boolean. -/
def b2n (b : Bool) : Nat := if b then 1 else 0

/-- Ceiling division for a positive divisor. -/
def ceilDiv' (a b : Nat) : Nat := (a + b - 1) / b

end Sys2Proof
end

