-- ==== Sys2Proof/Syntax.lean ====
section
/-! DEFINITION. The commands of the block: one constructor per row of spec/opcode_table.json.
A `k` operand is the number of an accepted command; `dt` is reference clock cycles that have passed;
`value` is the word written to the register the row names. -/

namespace Sys2Proof

/-- What a gore reports of a torn tile (R133 to R136): column, 0 CRC, 1 format or identity, 2 ECC, the
point of use, the half, the layer and the KV head. -/
structure TornFound where
  column : Nat
  kind : Nat
  point : Nat
  half : Nat
  layer : Nat
  head : Nat
  deriving DecidableEq, Repr

/-- What the boot ROM finds of a firmware copy (R424): 0 it verifies, 1 absent, 2 bad format, 3 bad signature; its SVN, version and
SHA-384. -/
structure BootCopy where
  result : Nat
  svn : Nat
  version : Nat
  hash : Nat
  deriving DecidableEq, Repr

/-- A namespace that Identify reports (R144): NSID, capacity in pages, bytes of its LBA format, whether it has metadata or protection
information. -/
structure NameSpace where
  nsid : Nat
  pages : Nat
  lba : Nat
  metadata : Bool
  protection : Bool
  deriving DecidableEq, Repr

/-- A page, named by its owner: a session handle, or an index slot when `index` is set, and the page's key
in the owner's page table (R145). -/
structure PageRef where
  index : Bool
  own : Nat
  key : Nat
  deriving DecidableEq, Repr

/-- A frame of a transfer on VC2 (R98): a tile with its tag, index and place in the session (column × head-layers +
head-layer), or the spool with the session's settings. -/
inductive ShipFrame where
  | tile (index key data len crc fill : Nat) (sealed : Bool)
  | spool (entries : List (Nat × Nat × Nat)) (seeds : List (Nat × Nat)) (settings : List Nat)
  deriving DecidableEq, Repr

/-- What a read of an image or a part gives: its bytes as a little-endian number, a failed read, poison or a failed
object met in a region (R338: object, kind as in R166). -/
inductive SrcRead where
  | data (bytes : Nat)
  | failed
  | poison (obj kind : Nat)
  | objFail (obj kind : Nat)
  deriving DecidableEq, Repr

/-- What a region's home and a Flewick that attaches say to each other (R333, R337, R339): take (the current generation, or
one that a context of the sender holds) or release a hold for a holder, destroy; the answer is 0 done, 1 no such region, 2 no right, 3 generation 0, 4 holds remain, then a generation
or a count, and bytes. -/
inductive HoldMsg where
  | take (holder ctx : Nat) (mgmt : Bool) (gen : Option Nat)
  | release (holder : Nat)
  | destroy
  | answer (code value bytes : Nat)
  deriving DecidableEq, Repr

/-- A ring frame: the header fields of R346, `yfirst` ORDER, `len` LEN, `msg` MSG. `data` is its payload as it stands: of a frame that
travels with ENC set, the ciphertext with the tag after it; of a frame that this Flewick has still to send, the payload itself. -/
structure RFrame where
  vc : Nat
  ctx : Nat
  dst : Nat
  src : Nat
  boot : Nat
  enc : Bool
  fabric : Bool
  key : Nat
  colour : Nat
  hops : Nat
  set : Bool
  xneg : Bool
  yneg : Bool
  yfirst : Bool
  dateline : Bool
  first : Bool
  last : Bool
  kind : Nat
  len : Nat
  seq : Nat
  ivc : Nat
  msg : Nat
  offset : Nat
  data : Nat
  deriving DecidableEq, Repr

/-- A change of the fabric map (R356 to R359). -/
inductive MapEdit where
  | joined (id boot links : Nat)
  | leaving (id : Nat)
  | left (id : Nat)
  | lost (id : Nat)
  | leader (id : Nat)
  deriving DecidableEq, Repr

/-- An entry of the whole map: ID, boot generation, STATE of RING_MAP, port bits, partner. -/
structure MapEntry where
  id : Nat
  boot : Nat
  state : Nat
  links : Nat
  partner : Option Nat
  deriving DecidableEq, Repr

/-- What a commit brings: one change, or the whole map for a Flewick that joins or lags, with the inheritance entries (ID,
boot generation, inheritor) and the leader. -/
inductive MapMsg where
  | change (edits : List MapEdit)
  | whole (entries : List MapEntry) (inherit : List (Nat × Nat × Nat)) (leader : Nat)
  deriving DecidableEq, Repr

/-- An instruction of the JTAG TAP (R530): BYPASS, IDCODE or any other, with the bits scanned through the data register. -/
inductive TapOp where
  | bypass (data : Nat)
  | idcode
  | other (code data : Nat)
  deriving DecidableEq, Repr

/-- What a notice of a session's creation or of a new mirror says (R89, R90, R540): the record and what the spool holder needs;
`pending` while the record's copy at the mirror is not acknowledged, `lost` while the mirror lacks spool entries. -/
structure SessNote where
  shape : Nat
  kvLen : Nat
  epoch : Nat
  owner : Nat
  mirror : Nat
  noMirror : Bool
  interactive : Bool
  seed : Nat
  pending : Bool
  lost : Bool
  deriving DecidableEq, Repr

/-- A METER_READ carried to another Flewick, and its answer (R407): OP, context (0xFF for every one), COUNT, SEQ, the
requester's own context and right; status, CAUSE, result words and records. -/
inductive MeterMsg where
  | request (src cmd op ctx count seq own : Nat) (mgmt : Bool)
  | answer (cmd status cause r0 r1 r2 : Nat) (records : List Nat) (wrote : Bool)
  deriving DecidableEq, Repr

/-- An SPDM request (R431): certificate slots, the measurement asked for (0 none, 0xFF all), session numbers, whether FINISH
verifies and the SHA-384 of the key that the requester proved, whether a vendor-defined request comes inside a session. -/
inductive SpdmReq where
  | version | capabilities | algorithms
  | digests
  | certificate (slot : Nat)
  | challenge (slot : Nat)
  | measurements (index : Nat) (signed : Bool)
  | keyExchange (id : Nat)
  | finish (id : Nat) (good : Bool) (proved : Option Nat)
  | heartbeat (id : Nat)
  | keyUpdate (id : Nat)
  | endSession (id : Nat)
  | chunkSend | chunkGet
  | vendorDefined (id : Nat)
  | other
  deriving DecidableEq, Repr

/-- An IDE_KM request (R433): stream, key set, direction (true is received), key. -/
inductive IdeReq where
  | query
  | keyProg (stream set : Nat) (rx : Bool) (key : Nat)
  | go (stream set : Nat) (rx : Bool)
  | stop (stream set : Nat) (rx : Bool)
  deriving DecidableEq, Repr

/-- One command of the block. -/
inductive Instr where
  /-- REGISTER_WRITE (R17). A write to a register field with no row of its own updates the field as its type states, or is dropped where a rule refuses it. -/
  | registerWrite (bar port offset size value : Nat)
  /-- HTI_W_SQDB_WRITE (R48). A submission doorbell write sets a new TAIL for a pair, or is dropped and logged as DB_RANGE or DB_CLOSED. -/
  | htiWSqdbWrite (port ctx pair value : Nat) (entries : List Desc)
  /-- HTI_W_CQDB_WRITE (R50). A completion doorbell write sets a new HEAD, which frees ring room and releases held completions, or is dropped and logged. -/
  | htiWCqdbWrite (port ctx pair value : Nat)
  /-- PAIR0_OPEN (R46). A write of HTI_W_AQCFG.EN = 1 opens pair 0 when readiness and the ring settings are valid, and otherwise sets FAULT. -/
  | pair0Open (port ctx value : Nat)
  /-- PAIR0_CLOSE (R46). A write of HTI_W_AQCFG.EN = 0 closes every pair of the context and ends its accepted commands without writing completions. -/
  | pair0Close (port ctx value : Nat)
  /-- CONTEXT_PAIRS_CLOSED (R46). Once every command of a closing context has ended, the Flewick clears RDY, FAULT and QFAULT and stops using the rings. -/
  | contextPairsClosed (ctx : Nat)
  /-- SUBMISSION_FETCH_FAIL (R53). A failed or poisoned submission read faults the pair, is logged as FETCH_FAIL and writes a fault record. -/
  | submissionFetchFail (ctx pair : Nat)
  /-- COMPLETION_POST_FAIL (R53). A failed completion write faults the pair, is logged as POST_FAIL and holds the pair's later completions. -/
  | completionPostFail (ctx pair : Nat)
  /-- COALESCING_TIME_EXPIRY (R66). The oldest unsignalled completion reaches the coalescing time, and the pair's interrupt is raised. -/
  | coalescingTimeExpiry (dt ctx pair : Nat)
  /-- QUEUE_OPEN (R69). Opens pair q with the given rings, weight and vector, and returns the chosen version. -/
  | queueOpen (k : Nat)
  /-- QUEUE_CLOSE (R70). Stops fetching from pair q, lets its accepted commands finish or aborts them, and closes the pair. -/
  | queueClose (k : Nat)
  /-- CAPS_GET (R72). Writes the eight capability words into the given buffer. -/
  | capsGet (k : Nat) (wrote : Bool)
  /-- CTX_FENCE (R73). Completes after every command fetched earlier for the context, from any pair, has completed. -/
  | ctxFence (k : Nat)
  /-- NOOP (R58). Completes with OK and echoes its bytes 16–31. -/
  | noop (k : Nat)
  /-- STATS_GET (R74). Writes the context's eight HTI counters taken at one instant, and optionally subtracts the written values. -/
  | statsGet (k : Nat) (wrote : Bool)
  /-- HTI_ERRLOG_CLR (R17). A write of 1 to HTI_ERRLOG_CTL.CLR invalidates every error-log entry and zeroes NEXT and COUNT. -/
  | htiErrlogClr (value : Nat)
  /-- HTI_CNT_CLR (R29). A W1S write zeroes the eight HTI counters of each named context as one action. -/
  | htiCntClr (value : Nat)
  /-- HTI_CTX_WRITE (R78). Changes a context's binding, or drops the write as CTX_BUSY while its pair 0 is open. -/
  | htiCtxWrite (ctx value : Nat)
  /-- FUNCTION_LEVEL_RESET (R45). A host function-level reset acts as a CTX reset of the virtual function's context, or of every context bound to the port. -/
  | functionLevelReset (port : Nat) (vf : Option Nat)
  /-- SESS_CREATE (R110). Takes a descriptor and creates a session ALOFT, or PARKED at the ALOFT limit, with its tether, mirror and seed. -/
  | sessCreate (k : Nat)
  /-- SESS_DESTROY (R91). Frees a session, or every session of the context with ALL, and releases its holders. -/
  | sessDestroy (k : Nat) (reads : List (Option Nat))
  /-- SESS_PARK (R90). Parks an ALOFT or REBUILDING session, or deflates it under the pause policy. -/
  | sessPark (k : Nat)
  /-- SESS_REVIVE (R95). Chooses between revive and rebuild by the cost estimate, and starts REVIVING or REBUILDING. -/
  | sessRevive (k : Nat)
  /-- REVIVE_DONE (R90). The last page of a reviving session reaches T1, the session becomes ALOFT and SESS_REVIVE completes. -/
  | reviveDone (handle : Nat)
  /-- SESS_DEFLATE (R90). Drops every tile of the session and keeps only its spool. -/
  | sessDeflate (k : Nat)
  /-- SESS_REBUILD (R96). Drops K/V from START onwards and sets a rebuild span. -/
  | sessRebuild (k : Nat)
  /-- SESS_QUERY (R109). Copies the descriptor, spool entries or seed changes into a buffer. -/
  | sessQuery (k : Nat) (wrote : Bool)
  /-- SESS_SHIP (R99). Moves the session to SHIPPING and sends SHIP_OFFER to the destination. -/
  | sessShip (k : Nat)
  /-- SESS_TETHER_QUERY (R110). Returns the tether record as known here, without reconciling it. -/
  | sessTetherQuery (k : Nat)
  /-- SESS_TETHER_RESOLVE (R104). Reconciles the local copy with the home's committed record. -/
  | sessTetherResolve (k : Nat)
  /-- SESS_CANCEL (R108). Cancels every command accepted for the handle at once. -/
  | sessCancel (k : Nat)
  /-- SESS_POLICY (R110). Sets a session's pause action, auto-deflate, class, idle time, rebuild rate and seed, or the context defaults. -/
  | sessPolicy (k : Nat)
  /-- IDLE_PARK_EXPIRY (R90). An ALOFT session that has been idle for IDLE_PARK_MS is paused under its policy, and IDLE_PAUSED is raised. -/
  | idleParkExpiry (dt handle : Nat)
  /-- SHIP_OFFER_RECEIVED (R99). The receiver checks SHIP_IN, a descriptor, room and the shape, then answers SHIP_ACCEPT or SHIP_REFUSE. -/
  | shipOfferReceived (handle epoch sender receiver ret tiles bytes spoolLen kvLen shape : Nat) (geom : List Nat) (interactive evac : Bool)
  /-- SHIP_ACCEPT_RECEIVED (R99). The sender starts streaming every tile and the spool on VC2. -/
  | shipAcceptReceived (handle epoch sender receiver : Nat) (torn : Option TornFound)
  /-- SHIP_REFUSE_RECEIVED (R103). The sender returns to its return state, and SESS_SHIP completes with the refusal status. -/
  | shipRefuseReceived (handle epoch sender receiver reason : Nat)
  /-- SHIP_FRAME_RECEIVED (R99). The receiver verifies a shipped tile's CRC, asks for one resend on a mismatch, and sends COMMIT_REQ once every tile is verified. -/
  | shipFrameReceived (handle epoch sender receiver : Nat) (frame : ShipFrame)
  /-- SHIP_RESEND_RECEIVED (R98). The sender sends the named tile again. -/
  | shipResendReceived (handle epoch sender receiver index : Nat) (torn : Option TornFound)
  /-- SHIP_ABORT_RECEIVED (R103). The peer ends the transfer: the receiver discards its copy, or the sender returns to its return state. -/
  | shipAbortReceived (handle epoch sender receiver reason index kind : Nat)
  /-- COMMIT_REQ_RECEIVED (R99). The home compares the record with (E, sender) and replicates the proposal, or answers COMMIT_NAK. -/
  | commitReqReceived (handle epoch sender receiver : Nat) (again : Bool)
  /-- REPLICATE_RECEIVED (R102). The mirror stores the proposed tether record and acknowledges it. -/
  | replicateReceived (src handle epoch sender owner : Nat)
  /-- REPLICATE_ACK_RECEIVED (R99). The home commits (E+1, receiver) and sends COMMIT_ACK to both parties. -/
  | replicateAckReceived (handle epoch sender owner : Nat)
  /-- COMMIT_ACK_RECEIVED (R99). The receiver takes ownership with the new epoch, or the sender drops its copy and completes SESS_SHIP. -/
  | commitAckReceived (handle sender receiver epoch owner : Nat) (read : Option Nat)
  /-- COMMIT_NAK_RECEIVED (R103). The receiver discards its copy, and the sender applies the record and completes SESS_SHIP with OWNER_CONFLICT. -/
  | commitNakReceived (handle offered sender receiver epoch owner : Nat)
  /-- TETHER_QUERY_RECEIVED (R102). The home, or the inheritor, answers with TETHER_RECORD. -/
  | tetherQueryReceived (src handle : Nat)
  /-- TETHER_RECORD_RECEIVED (R104). The Flewick reconciles its copy with the committed record. -/
  | tetherRecordReceived (handle epoch owner : Nat) (present inheritor : Bool) (read : Option Nat)
  /-- TETHER_MSG_TIMEOUT (R102). An unanswered tether message is resent, or after TETHER_TRIES sends the home is queried. -/
  | tetherMsgTimeout (dt handle : Nat)
  /-- SHIP_RESOLVE_TIMEOUT (R103). SESS_SHIP completes with BUSY_TETHER, CAUSE 0x0003, while the sender keeps querying. -/
  | shipResolveTimeout (dt handle : Nat)
  /-- SPOOL_ENTRIES_RECEIVED (R88). The other spool holder stores written-through spool entries and sends SPOOL_ACK. -/
  | spoolEntriesReceived (src handle first kvLen : Nat) (entries : List (Nat × Nat × Nat)) (seeds : List (Nat × Nat))
  /-- SPOOL_ACK_RECEIVED (R88). The owner completes an appending command that waited for the mirror, or clears MIRROR_LOST. -/
  | spoolAckReceived (handle upto : Nat)
  /-- MIRROR_ACK_TIMEOUT (R88). MIRROR_ACK_LIMIT passes, so the session sets MIRROR_LOST and the appending command completes without waiting. -/
  | mirrorAckTimeout (dt handle : Nat)
  /-- MIRROR_RESEND_PERIOD (R89). For a session with MIRROR_LOST, the owner resends the whole spool to the current spool holder. -/
  | mirrorResendPeriod (dt handle : Nat)
  /-- SPOOL_GATHER_DONE (R165). A spool gathered from the other holder is written into new pages, and the commands that waited for it go on. -/
  | spoolGatherDone (handle kvLen : Nat) (entries : List (Nat × Nat × Nat)) (seeds : List (Nat × Nat))
  /-- WORK_TILE_END (R186). A gore finishes a work tile and reaches a tile boundary, where pre-emption, a switch or a yield may happen. -/
  | workTileEnd (dt gore : Nat) (torn : Option TornFound)
  /-- ITEM_END (R189). A work item's last tile finishes, its results are written and its gore is released for dispatch. -/
  | itemEnd (dt gore : Nat)
  /-- ITEM_YIELD (R188). An item whose inputs have waited longer than YIELD_US yields its gore at a tile boundary. -/
  | itemYield (dt gore : Nat)
  /-- ITEM_INPUTS_ARRIVE (R188). The pages an item waited for arrive, and the item becomes dispatchable. -/
  | itemInputsArrive (item : Nat)
  /-- PREEMPT_TIMEOUT (R196). A class below its floor has waited PREEMPT_US, so gores of the most over-served class are pre-empted. -/
  | preemptTimeout (dt cls : Nat)
  /-- PANEL_IDLE_GATE (R182). A panel idle for GORE_GATE.IDLE_US is power-gated. -/
  | panelIdleGate (dt panel : Nat)
  /-- PANEL_READY (R182). A woken panel becomes ready 5 µs after the drogue admits it, and takes items. -/
  | panelReady (panel : Nat)
  /-- GORE_FENCE (R184). An uncorrectable store error, a parity failure or a DMA error fences the gore, and its item is rerun elsewhere. -/
  | goreFence (gore cause : Nat)
  /-- PANEL_POWER_FAULT (R184). A panel power fault sets FAULT, clears the panel's ready bit and reruns its items elsewhere. -/
  | panelPowerFault (panel : Nat)
  /-- GORE_TILE_CNT_CLR (R29). Zeroes every GORE_TILE_CNT counter as one action. -/
  | goreTileCntClr (value : Nat)
  /-- GORE_TILE_INJ_ARM (R138). Arms an injection that alters the next tile sealed for the chosen context. -/
  | goreTileInjArm (value : Nat)
  /-- GORE_SHARE_WRITE (R198). Sets a context's weight and cap, and a lowered cap pre-empts the excess gores. -/
  | goreShareWrite (ctx value : Nat)
  /-- GORE_ROLE_MIX_WRITE (R200). Sets the MIXED floors, or is dropped when they do not sum to 100. -/
  | goreRoleMixWrite (value : Nat)
  /-- GORE_CNT_CLR (R29). Zeroes every GORE_CNT and GORE_CLASS_NS counter as one action. -/
  | goreCntClr (value : Nat)
  /-- GORE_CTX_CNT_CLR (R29). Zeroes the four GORE_CTX_CNT counters of each named context as one action. -/
  | goreCtxCntClr (value : Nat)
  /-- DEMOTION_START (R157). A watermark or quota is crossed, and demotion of candidate pages from T1 or T2 begins. -/
  | demotionStart (tier region : Nat)
  /-- DEMOTE_AFTER_EXPIRY (R154). A PARKED session in OBJECT mode whose DEMOTE_AFTER_MS has passed is demoted as a whole. -/
  | demoteAfterExpiry (dt handle : Nat)
  /-- DEMOTION_WRITE_DONE (R150). A demotion write completes, and the page becomes CLEAN, or stays DIRTY if it was written again meanwhile. -/
  | demotionWriteDone (page : PageRef)
  /-- PROMOTION_READ_DONE (R156). A promotion read completes, and the page becomes CLEAN in T1 with its former copy as the lower copy. -/
  | promotionReadDone (page : PageRef) (poison : Bool)
  /-- READ_THROUGH_DONE (R155). A read-through completes into a staging page, serves the work item and keeps nothing. -/
  | readThroughDone (page : PageRef) (poison : Bool)
  /-- HEAT_DECAY_TICK (R155). Every DECAY_MS, the heat counter of every page of a HEAT region is halved. -/
  | heatDecayTick (dt : Nat)
  /-- TIER_ACCESS_TIMEOUT (R164). An access outstanding longer than TIER_STALL_LIMIT declares its tier object failed. -/
  | tierAccessTimeout (dt obj : Nat)
  /-- TIER_OBJECT_FAULT (R164). Link down, CXL viral, controller fatal or a lost namespace declares the object failed, and its pages become LOST. -/
  | tierObjectFault (obj : Nat) (up : Bool)
  /-- T1_STALL_TIMEOUT (R160). A step item or a revive that gains no T1 page within the limit completes with RETRY_LATER. -/
  | t1StallTimeout (dt handle : Nat)
  /-- WEAR_BUDGET_TICK (R169). Every second, each drive's write budget accrues its share of the daily cap. -/
  | wearBudgetTick (dt : Nat)
  /-- WEAR_BUDGET_SAVE (R169). Every 60 s, the wear budgets are saved to the archive. -/
  | wearBudgetSave (dt : Nat)
  /-- FLASH_CONTROLLER_ENUMERATED (R170). A flash controller is enumerated, and its identity is matched against the port's wear record. -/
  | flashControllerEnumerated (port ident : Nat) (spaces : List NameSpace)
  /-- TIER_POLICY (R175). Sets the placement mode, hints, allowed objects and quota of a region or session, and returns its page counts. -/
  | tierPolicy (k : Nat)
  /-- TIER_FLUSH (R176). Writes the DIRTY pages of a region or session down, and optionally drops their T1 copies. -/
  | tierFlush (k : Nat)
  /-- TIER_OBJ_FAILED_CLEAR (R168). A write of 1 to FAILED returns the object to use with every place free. -/
  | tierObjFailedClear (obj value : Nat)
  /-- TIER_OBJ_EN_WRITE (R168). EN = 0 stops new writes to the object and starts vacating it, and EN = 1 stops the vacating. -/
  | tierObjEnWrite (obj value : Nat)
  /-- TIER_WM_WRITE (R536). Sets the tier watermarks, or drops the write when a pair would be inconsistent. -/
  | tierWmWrite (value : Nat)
  /-- TIER_CNT_CLR (R29). Zeroes every TIER_CNT counter as one action. -/
  | tierCntClr (value : Nat)
  /-- TIER_STALL_CLR (R29). Zeroes the nine stall counters of each named context as one action. -/
  | tierStallClr (value : Nat)
  /-- MODEL_SHAPE_DECLARE (R215). Declares a shape slot, or updates it when the geometry matches. -/
  | modelShapeDeclare (k : Nat) (table : Option (List Nat))
  /-- MODEL_SHAPE_UPDATE (R215). Replaces the sinks, scale, soft-cap and layer table of a declared slot. -/
  | modelShapeUpdate (k : Nat) (table : Option (List Nat))
  /-- MODEL_SHAPE_REMOVE (R215). Frees a slot that no session uses. -/
  | modelShapeRemove (k : Nat)
  /-- STEP_SUBMIT (R223). Checks and admits a batch step, writes the records of admission and the first flag. -/
  | stepSubmit (k : Nat) (list : Option (List Nat))
  /-- ATTEND (R228). Kicks one layer of a step, and completes after that layer's flag. -/
  | attend (k : Nat)
  /-- HTI_W_BRKICK_WRITE (R228). A register write kicks a layer as ATTEND does, or is refused and recorded in HTI_W_BRSTS. -/
  | htiWBrkickWrite (port ctx value : Nat)
  /-- LAYER_COMPLETE (R226). Every entry of a kicked layer is written or marked, and the flag is written with the new DONE. -/
  | layerComplete (ctx stepId : Nat)
  /-- STEP_ITEM_END (R191). A session's step item ends: its rows take effect, seals are formed and sampled tokens enter the spool. -/
  | stepItemEnd (ctx stepId entry : Nat) (read : Option Nat)
  /-- STEP_END (R227). Every step item has ended: the last flag is written, STEP_SUBMIT completes and a step boundary is reached. -/
  | stepEnd (dt ctx stepId : Nat)
  /-- KICK_LIMIT_TIMEOUT (R231). No kick or SAMPLE arrives within KICK_LIMIT_MS, so the step is abandoned. -/
  | kickLimitTimeout (dt ctx stepId : Nat)
  /-- STEP_OUTPUT_WRITE_FAIL (R232). A failed output, log-sum-exp or flag write ends the step as an abandonment does. -/
  | stepOutputWriteFail (ctx stepId : Nat)
  /-- KV_APPEND_APPEND (R235). Appends prefill or rebuild rows to a session. -/
  | kvAppendAppend (k : Nat) (rows : Option (List Nat))
  /-- KV_APPEND_STREAM (R236). Streams stored history out in BF16 or graded form. -/
  | kvAppendStream (k : Nat)
  /-- GORE_BRIDLE_WRITE (R217). Sets a context's backed bridle MiB and zero-fills the area, or is dropped. -/
  | goreBridleWrite (ctx value : Nat)
  /-- BAR4_UNBACKED_ACCESS (R218). An access to an unbacked BAR4 offset reads zero or is dropped, and is counted. -/
  | bar4UnbackedAccess (port : Nat) (vf : Option Nat) (offset len value : Nat) (isWrite : Bool)
  /-- GORE_ATTN_CNT_CLR (R29). Zeroes every GORE_ATTN_CNT counter as one action. -/
  | goreAttnCntClr (value : Nat)
  /-- TEXT_APPEND (R255). Tokenises text, or takes raw token IDs, and appends them to the spool as a whole. -/
  | textAppend (k busy : Nat) (input : Option (List Nat))
  /-- TEXT_TOKENIZE (R256). Tokenises text into a buffer without touching any session. -/
  | textTokenize (k busy : Nat) (input : Option (List Nat)) (wrote : Bool)
  /-- TABLE_LOAD_LOAD (R257). Loads or replaces a table image after checking it. -/
  | tableLoadLoad (k : Nat) (src : SrcRead)
  /-- TABLE_LOAD_REMOVE (R257). Frees a table slot that has no users. -/
  | tableLoadRemove (k : Nat)
  /-- TOKENISER_LANE_FAULT (R259). An uncorrectable lane error fences the lane and reruns its piece on another lane. -/
  | tokeniserLaneFault (lane ctx handle : Nat)
  /-- TXT_CNT_CLR (R29). Zeroes every TXT_CNT counter as one action. -/
  | txtCntClr (value : Nat)
  /-- STREAM_CONF_OPEN (R261). Opens a stream for a session. -/
  | streamConfOpen (k : Nat) (block : Option Nat)
  /-- STREAM_CONF_UPDATE (R261). Replaces a stream's configuration and keeps its holdback and grammar. -/
  | streamConfUpdate (k : Nat) (block : Option Nat)
  /-- STREAM_CONF_RESTART (R261). Flushes the holdback, ends the stream with RESTARTED if it is open, and reopens it. -/
  | streamConfRestart (k : Nat) (block read : Option Nat)
  /-- STREAM_CONF_CLOSE (R261). Flushes and frees a stream. -/
  | streamConfClose (k : Nat) (read : Option Nat)
  /-- SAMPLE (R276). Samples one token per entry from logit rows, in STEP or LIST mode. -/
  | sample (k : Nat) (list : Option (List Nat)) (rows : List (List Nat)) (reads : List (Option Nat))
  /-- OUTPUT_RING_BACKLOG_POLL (R265). Every 100 µs, READ is reread and backlogged records are written as room appears. -/
  | outputRingBacklogPoll (dt handle : Nat) (read : Option Nat)
  /-- GRAMMAR_LOAD_LOAD (R286). Loads or replaces a grammar image after checking it. -/
  | grammarLoadLoad (k : Nat) (src : SrcRead)
  /-- GRAMMAR_LOAD_REMOVE (R286). Frees a grammar slot that no stream is bound to. -/
  | grammarLoadRemove (k : Nat)
  /-- GRAMMAR_BIND_BIND (R287). Binds a grammar to a stream after replaying the spool through it. -/
  | grammarBindBind (k : Nat)
  /-- GRAMMAR_BIND_UNBIND (R287). Removes a stream's grammar binding. -/
  | grammarBindUnbind (k : Nat)
  /-- MASK_LANE_FAULT (R288). An uncorrectable error fences a mask lane and reruns its entry on another lane. -/
  | maskLaneFault (lane ctx handle : Nat)
  /-- DEC_CNT_CLR (R29). Zeroes every DEC_CNT counter as one action. -/
  | decCntClr (value : Nat)
  /-- INDEX_CREATE_CREATE (R317). Creates a recall index and returns its ID. -/
  | indexCreateCreate (k : Nat)
  /-- INDEX_CREATE_DESTROY (R318). Destroys an index once its accepted commands end. -/
  | indexCreateDestroy (k : Nat)
  /-- CODEBOOK_LOAD (R293). Loads the coarse centroids or the product codebook of an empty index. -/
  | codebookLoad (k : Nat) (src : SrcRead)
  /-- INDEX_INSERT (R305). Encodes and writes entries under a new commit sequence. -/
  | indexInsert (k : Nat) (src : Option (List (List Nat))) (metas : List (List Nat))
  /-- INDEX_DELETE (R305). Tombstones item IDs under a new commit sequence. -/
  | indexDelete (k : Nat) (ids : Option (List Nat))
  /-- INDEX_COMMIT (R303). Once sequence n − 1 has committed, sequence n applies its tombstones and sets CSEQ. -/
  | indexCommit (index : Nat)
  /-- RECALL_QUERY (R307). Runs a batch of filtered nearest-neighbour queries at one snapshot. -/
  | recallQuery (k : Nat) (queries : Option (List (List Nat))) (filters : List Nat)
  /-- QUERY_ROUND_END (R307). A scan round ends: queries close or widen, and results or refinement follow. -/
  | queryRoundEnd (dt k : Nat) (unread : List (Nat × Nat))
  /-- COMPACTION_START (R306). A list reaches COMPACT_PCT reclaimable entries and is rewritten without them. -/
  | compactionStart (slot list : Nat)
  /-- COMPACTION_OLD_CHAIN_FREE (R306). Every query that started before the swap has ended, and the old chain is freed. -/
  | compactionOldChainFree (slot list : Nat)
  /-- HELPER_LOAD_LOAD (R318). Loads or replaces a helper model image. -/
  | helperLoadLoad (k : Nat) (src : SrcRead)
  /-- HELPER_LOAD_REMOVE (R318). Frees a helper slot. -/
  | helperLoadRemove (k : Nat)
  /-- ENCODER_RUN (R316). Embeds token sequences with a helper model. -/
  | encoderRun (k : Nat) (tokens : Option (List Nat)) (offs : List Nat)
  /-- RCL_CNT_CLR (R29). Zeroes every RCL_CNT counter as one action. -/
  | rclCntClr (value : Nat)
  /-- RCL_CTX_CNT_CLR (R29). Zeroes the four RCL_CTX_CNT counters of each named context as one action. -/
  | rclCtxCntClr (value : Nat)
  /-- LEND_SET (R326). Sets the lendable T1, T2 and region-store capacity, reclaiming room or releasing extents. -/
  | lendSet (k : Nat)
  /-- LEND_RECLAIM_TIMEOUT (R328). RECLAIM_MS passes with extents still granted, and they are revoked or LEND_SET completes PARTIAL. -/
  | lendReclaimTimeout (dt : Nat)
  /-- EXTENT_ADD_REQUEST (R326). The fabric manager asks to add an extent, and the lender grants it zero-filled or refuses it. -/
  | extentAddRequest (port ld gib : Nat)
  /-- EXTENT_RELEASED_BY_BORROWER (R328). A borrower releases a lent extent, which is zero-filled and freed. -/
  | extentReleasedByBorrower (port ld base : Nat)
  /-- EXTENT_RELEASE_REQUEST (R325). A device asks the borrower to release an extent, and its pages are moved off before the release. -/
  | extentReleaseRequest (obj : Nat)
  /-- POOL_RANGE_APPEARS (R323). A CXL range or extent reached by a root port becomes a tier object or a window object. -/
  | poolRangeAppears (port dpa bytes kind lender : Nat)
  /-- CXL_MEM_REQUEST (R329). A lending endpoint answers a CXL.mem read or write with data or poison. -/
  | cxlMemRequest (port ld addr : Nat) (store ecc bad : Bool) (write : Option Nat)
  /-- REGION_MAP_CREATE (R339). Creates a published region homed on this Flewick. -/
  | regionMapCreate (k : Nat)
  /-- REGION_MAP_DESTROY (R339). Frees a region that no hold keeps. -/
  | regionMapDestroy (k : Nat)
  /-- REGION_PUBLISH (R334). Sends PUBLISH_OPEN to the region's home. -/
  | regionPublish (k : Nat)
  /-- PUBLISH_OPEN_RECEIVED (R334). The home checks EXPECT and allocates staging pages, or answers PUBLISH_NAK. -/
  | publishOpenReceived (src token region expect bytes : Nat)
  /-- PUBLISH_READY_RECEIVED (R334). The publisher reads its source and sends the content to the home. -/
  | publishReadyReceived (token : Nat) (data : Option Nat)
  /-- PUBLISH_COMMIT_RECEIVED (R335). The home commits a new generation by compare-and-swap, or frees the staging. -/
  | publishCommitReceived (src token region expect data : Nat)
  /-- PUBLISH_ANSWER_RECEIVED (R335). A PUBLISH_ACK or PUBLISH_NAK completes REGION_PUBLISH. -/
  | publishAnswerReceived (token ans gen : Nat)
  /-- PUBLISH_COMMIT_RESEND (R336). With no PUBLISH_ACK after 1 ms, the commit is resent. -/
  | publishCommitResend (dt token : Nat)
  /-- STAGE_LIMIT_EXPIRY (R336). Staging that sees no commit within STAGE_LIMIT_MS is freed. -/
  | stageLimitExpiry (dt slot src token : Nat)
  /-- REGION_ATTACH_ATTACH (R337). Gives the context a hold on the current generation. -/
  | regionAttachAttach (k : Nat)
  /-- REGION_ATTACH_DETACH (R337). Releases the context's hold. -/
  | regionAttachDetach (k : Nat)
  /-- POOL_CNT_CLR (R29). Zeroes every POOL_CNT counter as one action. -/
  | poolCntClr (value : Nat)
  /-- RING_FRAME_RECEIVED (R353). A frame reaching its destination is checked, policed and delivered in flow order, or held for a gap. -/
  | ringFrameReceived (port : Nat) (frame : RFrame)
  /-- RING_FRAME_FORWARD (R352). A transit frame is forwarded on its fixed route, with HOPS incremented. -/
  | ringFrameForward (port : Nat) (frame : RFrame)
  /-- LINK_FRAME_ERROR (R345). A frame with an uncorrectable codeword or a CRC mismatch is acknowledged negatively and replayed. -/
  | linkFrameError (port : Nat) (fec sent : Bool)
  /-- RING_LINK_RETRAIN (R344). After four replays, a ring link retrains, or goes down if retraining fails. -/
  | ringLinkRetrain (port lanes fails : Nat)
  /-- RING_LINK_DOWN (R364). A ring port goes down, and routes move once the map shows the segment down. -/
  | ringLinkDown (port : Nat)
  /-- RING_CABLE_PLUG (R364). RING_PRES_N asserts and the port trains. -/
  | ringCablePlug (port : Nat) (plugged : Bool)
  /-- REORDER_GAP_TIMEOUT (R353). A gap not filled within GAP_US loses its frames, and their messages are discarded. -/
  | reorderGapTimeout (dt src ctx vc : Nat)
  /-- ROUTE_HOLD_TIMEOUT (R355). A frame without a route is discarded after HOLD_MS. -/
  | routeHoldTimeout (dt : Nat)
  /-- HELLO_RECEIVED (R357). A neighbour's HELLO is counted towards forming the first map. -/
  | helloReceived (member : Bool) (leader : Nat) (ids : List (Nat × Nat × Nat))
  /-- MAP_FORM_TIMEOUT (R357). FORM_S has passed, and the lowest ID heard proposes the first map. -/
  | mapFormTimeout (dt : Nat)
  /-- JOIN_RECEIVED (R357). The leader commits a joining Flewick as JOINED. -/
  | joinReceived (src boot links : Nat)
  /-- MAP_CHANGE_ACK_RECEIVED (R356). A member acknowledges a proposed map change, which commits once it has a majority. -/
  | mapChangeAckReceived (src : Nat)
  /-- MAP_COMMIT_RECEIVED (R356). A committed map change raises the epoch and updates membership, partners and inheritance. -/
  | mapCommitReceived (src epoch : Nat) (msg : MapMsg)
  /-- MAP_BEAT_PERIOD (R356). Every HB_MS, the leader sends MAP_BEAT and every member sends HEARTBEAT. -/
  | mapBeatPeriod (dt : Nat)
  /-- MAP_BEAT_RECEIVED (R356). A member compares the epoch, requests the map if it lags, and ends isolation. -/
  | mapBeatReceived (src epoch : Nat) (links : List (Nat × Nat))
  /-- HEARTBEAT_RECEIVED (R356). The leader records the member as alive. -/
  | heartbeatReceived (src boot links want : Nat)
  /-- MEMBER_LOSS_TIMEOUT (R357). The leader, having had no HEARTBEAT for LOSS_MS, commits the member LOST. -/
  | memberLossTimeout (dt member : Nat)
  /-- LEADER_CANDIDACY_TIMEOUT (R357). A member without MAP_BEAT for (r + 1) × LOSS_MS proposes itself as leader. -/
  | leaderCandidacyTimeout (dt : Nat)
  /-- LEADER_PROPOSAL_RECEIVED (R357). A member acknowledges a leader proposal, or answers with its own from a lower ID. -/
  | leaderProposalReceived (src : Nat) (candidate : Bool)
  /-- ISOLATE_TIMEOUT (R360). No MAP_BEAT, or too few heartbeats, for ISOLATE_MS isolates the Flewick. -/
  | isolateTimeout (dt : Nat)
  /-- EXPELLED_RECEIVED (R360). An expelled Flewick drops every descriptor, closes its bypasses and raises FABRIC_EXPELLED. -/
  | expelledReceived 
  /-- BYPASS_LOOPBACK_TRAINED (R362). Both own ports train in loopback, and the pair enters OPENING and sends PAUSE. -/
  | bypassLoopbackTrained (pair : Nat)
  /-- PAUSE_RECEIVED (R362). A neighbour stops sending on the joined link, empties its replay buffer and answers PAUSE_ACK. -/
  | pauseReceived (port : Nat)
  /-- PAUSE_ACK_RECEIVED (R362). Once both present neighbours have answered, the pair opens. -/
  | pauseAckReceived (pair side : Nat)
  /-- BYPASS_OPENING_TIMEOUT (R362). Without PAUSE_ACK within 100 ms, the pair returns to CLOSED. -/
  | bypassOpeningTimeout (dt pair : Nat)
  /-- BYPASS_OPEN_TRAIN_TIMEOUT (R362). An own port that fails to train within 20 ms of opening returns the pair to CLOSED. -/
  | bypassOpenTrainTimeout (dt pair : Nat)
  /-- BYPASS_RETRY_TIMEOUT (R362). After 1 s in CLOSED, opening is tried again. -/
  | bypassRetryTimeout (dt pair : Nat)
  /-- RING_BYP_FORCE_CLOSE (R363). A write of 1 to FORCE_CLOSE closes that pair's bypass. -/
  | ringBypForceClose (value : Nat)
  /-- RETENTION_HEARTBEAT_LOSS (R363). With no control-island heartbeat for 10 ms, the retention island closes every bypass. -/
  | retentionHeartbeatLoss (dt : Nat)
  /-- EVACUATE (R365). Starts an evacuation of this Flewick from the fabric. -/
  | evacuate (k : Nat)
  /-- EVACUATION_TRANSFERS_DONE (R365). Sessions and extents are all moved, so the leader commits LEFT and the bypasses close. -/
  | evacuationTransfersDone 
  /-- EVACUATION_LIMIT_EXPIRY (R365). At the limit, the remaining extents are revoked, LEFT is committed and the rest is orphaned. -/
  | evacuationLimitExpiry (dt : Nat)
  /-- RING_VC_WRITE (R368). Sets the receive shares of the VCs, or drops the write. -/
  | ringVcWrite (vc value : Nat)
  /-- RING_MAP_CFG_WRITE (R368). Sets the map timings, or drops the write when they break their relation. -/
  | ringMapCfgWrite (value : Nat)
  /-- RING_CNT_CLR (R29). Zeroes every RING_CNT and RING_PORT_CNT counter as one action. -/
  | ringCntClr (value : Nat)
  /-- REFILL_INSTANT (R371). Applies pending SHP settings, then adds credit to every bucket and meter, and re-meters deferred frames. -/
  | refillInstant (dt : Nat)
  /-- PORT_FRAME_START (R374). A ring port picks the next VC and frame by privileged share and deficit round robin. -/
  | portFrameStart (dt port : Nat) (credit : List Nat)
  /-- DEFER_TIMEOUT (R380). A deferred frame held for DEFER_US is delivered uncharged and red. -/
  | deferTimeout (dt src ctx vc : Nat)
  /-- POLICE_NACK_RECEIVED (R380). The source counts NACKS_RX, and the lost frame's VC protocol recovers it. -/
  | policeNackReceived (src ctx vc seq hint : Nat)
  /-- QUEUE_SAMPLE_TICK (R381). Every TICKS-th refill instant, every queue's depth and delay are sampled into histograms. -/
  | queueSampleTick (dt : Nat)
  /-- SHAPER_SET (R383). Writes a queue's, a VC's or a port's shaper fields from a command. -/
  | shaperSet (k : Nat)
  /-- POLICER_SET (R383). Writes a host or ring policer from a command. -/
  | policerSet (k : Nat)
  /-- SHP_HIST_CLR (R381). Zeroes every histogram cell and maximum as one action. -/
  | shpHistClr (value : Nat)
  /-- SHP_CNT_CLR (R29). Zeroes every SHP_CNT counter as one action. -/
  | shpCntClr (value : Nat)
  /-- SHP_CTX_CNT_CLR (R29). Zeroes the eight SHP_CTX_CNT counters of each named context as one action. -/
  | shpCtxCntClr (value : Nat)
  /-- ROLE_SET (R388). Requests a new role, which takes effect at the next step boundary. -/
  | roleSet (k : Nat)
  /-- ADMISSION_EVALUATION (R392). Every 1 ms, the admission gauges are evaluated and SHORT is set or cleared. -/
  | admissionEvaluation (dt : Nat)
  /-- STORAGE_METER_TICK (R401). Every 1 ms, the places each context occupies are added to its tier page meters. -/
  | storageMeterTick (dt : Nat)
  /-- METER_CHECKPOINT (R402). Every CKPT_S, live meters are saved into the archive checkpoints. -/
  | meterCheckpoint (dt : Nat)
  /-- METER_READ_LIVE (R406). Signs and writes an interim record of the open composition. -/
  | meterReadLive (k : Nat) (wrote : Bool)
  /-- METER_READ_FETCH (R406). Writes final meter records from a given sequence onwards. -/
  | meterReadFetch (k : Nat) (wrote : Bool)
  /-- METER_READ_ACK (R406). Acknowledges final records up to a sequence. -/
  | meterReadAck (k : Nat)
  /-- REMOTE_METER_REQUEST (R407). A METER_READ carried on VC6 is applied at the source Flewick and answered. -/
  | remoteMeterRequest (msg : MeterMsg)
  /-- REMOTE_METER_TIMEOUT (R407). An unanswered remote METER_READ is resent once, then completes with RETRY_LATER. -/
  | remoteMeterTimeout (dt k : Nat)
  /-- MTR_COMP_TAG_WRITE (R400). Sets the label of the next bound composition, or is dropped while the context is enabled. -/
  | mtrCompTagWrite (ctx value : Nat)
  /-- CTL_ADM_CNT_CLR (R29). Zeroes every CTL_ADM_CNT counter as one action. -/
  | ctlAdmCntClr (value : Nat)
  /-- MTR_CNT_CLR (R29). Zeroes every MTR_CNT counter as one action. -/
  | mtrCntClr (value : Nat)
  /-- CTL_SES_CNT_CLR (R29). Zeroes every CTL_SES_CNT counter as one action. -/
  | ctlSesCntClr (value : Nat)
  /-- JOB_KEY_SET (R416). Installs a job key or a fabric key into an empty slot. -/
  | jobKeySet (k : Nat)
  /-- JOB_KEY_RETIRE (R418). Makes a slot RETIRING, optionally aborting the commands that hold it. -/
  | jobKeyRetire (k : Nat)
  /-- KEY_SLOT_EMPTIED (R418). Once no command holds a RETIRING slot, its key is erased and JOB_KEY_RETIRE completes. -/
  | keySlotEmptied (ctx slot : Nat)
  /-- SEC_FABRIC_TX_SLOT_WRITE (R419). Selects the fabric slot used to send, or is dropped if that slot is empty. -/
  | secFabricTxSlotWrite (value : Nat)
  /-- SEC_CNT_CLR (R29). Zeroes every SEC_CNT counter as one action. -/
  | secCntClr (value : Nat)
  /-- SPDM_REQUEST (R431). An SPDM request over DOE or MCTP is answered, or refused with UnsupportedRequest. -/
  | spdmRequest (path : Nat) (req : SpdmReq)
  /-- IDE_KM_REQUEST (R433). An IDE_KM request queries, programs, starts or stops IDE key sets. -/
  | ideKmRequest (port session : Nat) (req : IdeReq)
  /-- IDE_STREAM_FAILURE (R434). A stream leaving secure state drops the request, reports AER and moves dependent TDIs to ERROR. -/
  | ideStreamFailure (port stream : Nat)
  /-- LOCK_INTERFACE_REQUEST (R436). Locks a TDI after scrubbing the context, replacing its storage key and freezing its fields. -/
  | lockInterfaceRequest (port session ctx stream : Nat)
  /-- START_INTERFACE_REQUEST (R435). Moves a locked TDI to RUN. -/
  | startInterfaceRequest (port session ctx : Nat)
  /-- STOP_INTERFACE_REQUEST (R439). Destroys the context's objects, erases its keys and returns the TDI to CONFIG_UNLOCKED. -/
  | stopInterfaceRequest (port session ctx : Nat) (reads : List (Option Nat))
  /-- TDISP_GET_REQUEST (R435). Answers a TDISP version, capabilities, report or state request. -/
  | tdispGetRequest (port session ctx kind : Nat)
  /-- SVN_COMMIT (R426). Raises the anti-rollback counter to the running image's SVN. -/
  | svnCommit (chan : Nat)
  /-- FW_STAGE (R429). Writes a chunk of firmware copy A or B to SPI NOR, and verifies the copy on the last chunk. -/
  | fwStage (chan : Nat) (good : Bool)
  /-- IMPORT_KEY_SET (R429). Installs or replaces a context's import key. -/
  | importKeySet (chan : Nat)
  /-- FABRIC_KEY_SET (R421). Installs a fabric key into an empty slot, optionally persisted. -/
  | fabricKeySet (chan : Nat)
  /-- OWNER_TRANSFER (R429). Replaces the owner and manager key hashes under the current owner's signature. -/
  | ownerTransfer (chan : Nat) (good : Bool)
  /-- DEBUG_UNLOCK (R440). Issues a nonce, or with a valid token erases keys, frees external places and unlocks debug. -/
  | debugUnlock (chan : Nat) (good : Bool)
  /-- ZEROIZE (R429). Erases every key and the settings store, and then a WARM follows. -/
  | zeroize (chan : Nat)
  /-- MB_INFO (R445). Returns boot status, firmware version and the image hash. -/
  | mbInfo (chan : Nat)
  /-- MB_ECHO (R445). Returns the request's bytes. -/
  | mbEcho (chan : Nat)
  /-- FAULT_ARCHIVE_READ (R457). Returns records from the fault archive. -/
  | faultArchiveRead (chan : Nat)
  /-- RESET_CAUSE (R493). Returns the reset cause and the fault capture of the retention island. -/
  | resetCause (chan : Nat)
  /-- HTI_W_MBREQ_SEAL (R442). A seal write submits a mailbox request, or is rejected. -/
  | htiWMbreqSeal (port chan value : Nat)
  /-- MAILBOX_RESPONSE_READY (R443). Firmware writes the response, sets FULL and clears BUSY, and MB signals. -/
  | mailboxResponseReady (chan : Nat)
  /-- HTI_W_MBRSP_READ (R443). A read returns FULL, LEN and TOKEN and clears FULL in the same action. -/
  | htiWMbrspRead (port chan : Nat)
  /-- MCTP_SECURE_MESSAGE (R446). A secure-channel request arrives over MCTP on I3C and is sealed, or rejected while the channel is held. -/
  | mctpSecureMessage (k value data : Nat)
  /-- MBX_SUM_ACK (R450). A W1C write clears doorbell-word bits without writing host memory. -/
  | mbxSumAck (port value : Nat)
  /-- DOORBELL_WORD_WRITE_DONE (R450). A doorbell-word write completes, the vector is raised, and bits that rose meanwhile are written next. -/
  | doorbellWordWriteDone (port : Nat)
  /-- DOORBELL_WORD_WRITE_FAIL (R451). A failed doorbell-word write sets SUM_FAIL and moves the port to interrupt-on-full signalling. -/
  | doorbellWordWriteFail (port : Nat)
  /-- HTI_W_EVT_ENABLE (R452). A write of EN = 1 enables the event ring with HEAD and TAIL at 0, or sets FAULT. -/
  | htiWEvtEnable (port ctx value : Nat)
  /-- HTI_W_EVT_DISABLE (R452). A write of EN = 0 disables the event ring and clears FAULT. -/
  | htiWEvtDisable (port ctx value : Nat)
  /-- HTI_W_EVT_HEAD_WRITE (R541). Advances HEAD, draining the backlog into the freed room, or drops an out-of-range write. -/
  | htiWEvtHeadWrite (port ctx value : Nat)
  /-- EVENT_RECORD_WRITE_FAIL (R452). A failed event-record or TAIL write disables the ring, sets FAULT and returns the record to the backlog. -/
  | eventRecordWriteFail (ctx : Nat)
  /-- HTI_W_FLT_HEAD_WRITE (R448). Advances the fault ring's HEAD, and signals again if the ring is still non-empty. -/
  | htiWFltHeadWrite (port ctx value : Nat)
  /-- MBX_CNT_CLR (R29). Zeroes every MBX_CNT counter as one action. -/
  | mbxCntClr (value : Nat)
  /-- POWER_UP (R462). The input rail passes 40 V, and the converter and the retention island start. -/
  | powerUp (dt : Nat)
  /-- POR_RELEASE (R462). The rails are in regulation and REFCLK is running, so POR is released and the boot ROM starts. -/
  | porRelease (dt cables flash : Nat) (perst spiReq : Bool)
  /-- BOOT_ROM_VERIFY (R424). The boot ROM verifies firmware copies A and B and the patch, and starts firmware or enters RECOVERY. -/
  | bootRomVerify (dt : Nat) (a b : BootCopy) (patch : Option (Nat × Nat))
  /-- PERST_N_DEASSERT (R463). Once PERST_N is released after boot, the configuration image is read and the NVM fields are set. -/
  | perstNDeassert (dt image : Nat) (bad0 bad1 : Bool)
  /-- HBM_STACK_TRAINED (R462). A stack finishes training and its T1 bit is set, and with all stacks CONTROL follows. -/
  | hbmStackTrained (stack : Nat)
  /-- PANEL_TEST_DONE (R464). A woken panel passes its test and its GORES bit is set, or it fails and FAULT is set. -/
  | panelTestDone (panel : Nat) (pass : Bool)
  /-- T1_TRAINING_LIMIT_EXPIRY (R464). A stack not trained by the bring-up limit stops bring-up with T1_FAIL set. -/
  | t1TrainingLimitExpiry (dt : Nat)
  /-- NVM_STORE_STORE (R470). Captures the NVM fields of the named groups into a new settings bank. -/
  | nvmStoreStore (k : Nat) (wrote : Bool)
  /-- NVM_STORE_CLEAR (R470). Removes the store entries of the named groups into a new bank. -/
  | nvmStoreClear (k : Nat) (wrote : Bool)
  /-- NVM_CNT_CLR (R29). Zeroes every NVM_CNT counter as one action. -/
  | nvmCntClr (value : Nat)
  /-- CTL_FN_DISABLE_STOP (R474). Closes a function's intake and ends its accepted work at the next boundary. -/
  | ctlFnDisableStop (f value : Nat)
  /-- CTL_FN_DISABLE_DRAIN (R474). Closes a function's intake and lets its accepted work finish. -/
  | ctlFnDisableDrain (f value : Nat)
  /-- CTL_FN_ENABLE (R475). Reopens a function's intake at once, or when its disable ends. -/
  | ctlFnEnable (f value : Nat)
  /-- FN_ACCEPTED_WORK_DONE (R474). The last accepted command of a disabling function ends, and STATE reads DISABLED. -/
  | fnAcceptedWorkDone (f : Nat)
  /-- FN_DISABLE_TIMEOUT (R474). TIMEOUT_MS passes during a disable, so a function reset begins and the remaining commands complete with DISABLED. -/
  | fnDisableTimeout (dt f : Nat)
  /-- CTL_RESET_SOFT (R485). Starts a SOFT reset of the keel engines, keeping T1, the control island and the links. -/
  | ctlResetSoft (value : Nat)
  /-- SOFT_RESET_END (R485). Every descriptor has been re-verified, and CTL_RESET.SOFT reads 0. -/
  | softResetEnd 
  /-- CTL_RESET_WARM (R477). Starts a WARM reset. -/
  | ctlResetWarm (value : Nat)
  /-- CTL_FN_RST (R482). Starts an FN reset of a function. -/
  | ctlFnRst (value : Nat)
  /-- FN_RESET_END (R479). A function reset ends, and its ready bits are set again. -/
  | fnResetEnd (f : Nat)
  /-- CTL_CTX_RST (R483). Starts a CTX reset of a context. -/
  | ctlCtxRst (value : Nat)
  /-- CTX_RESET_END (R477). A CTX reset ends, and its CTL_CTX_RST bit clears. -/
  | ctxResetEnd (ctx : Nat)
  /-- CTL_RST_CNT_CLR (R29). Zeroes every CTL_RST_CNT counter as one action. -/
  | ctlRstCntClr (value : Nat)
  /-- P2_IDLE_ENTRY (R487). After P2_IDLE_MS of idleness, panels are gated and stacks enter self-refresh. -/
  | p2IdleEntry (dt : Nat)
  /-- P2_EXIT (R487). A fetched command, a delivered frame or a P3 request ends P2 and asks the drogue for every stack. -/
  | p2Exit 
  /-- P3_REQ (R488). A P3 request is refused, or it starts parking, writing down, saving and powering off. -/
  | p3Req (value : Nat)
  /-- P3_ENTRY_COMPLETE (R488). The saving steps finish, the bypasses close, and the keel, stacks and gondolas power off. -/
  | p3EntryComplete 
  /-- P3_LIMIT_EXPIRY (R488). P3_LIMIT_S passes before power-off, so the entry is abandoned and the Flewick returns to P0. -/
  | p3LimitExpiry (dt : Nat)
  /-- PM_WAKE_N_ASSERT (R489). PM_WAKE_N held for 10 µs ends P3, or abandons a P3 entry in progress. -/
  | pmWakeNAssert (dt : Nat) (held : Bool)
  /-- PERST_N_ASSERT (R527). PERST_N asserted for at least 1 µs begins a WARM. -/
  | perstNAssert (dt : Nat)
  /-- WHOLE_FLEWICK_FAILURE (R492). An unconfinable fault is captured in the retention island, and the Flewick stays failed with bypasses closed and lent memory poisoned. -/
  | wholeFlewickFailure (die unit code : Nat)
  /-- REFCLK_LOSS (R511). REFCLK stopping for 10 µs, or the root PLL losing lock, is a whole-Flewick failure. -/
  | refclkLoss 
  /-- INPUT_LOW_VIN (R500). The input below 42 V for 1 µs sets LOW_VIN and asserts PWR_ALERT_N. -/
  | inputLowVin (dt : Nat)
  /-- LOW_VIN_CLEAR (R500). The input above 42.5 V for 1 ms clears LOW_VIN. -/
  | lowVinClear (dt : Nat)
  /-- INPUT_UNDERVOLTAGE (R500). The undervoltage response switches off the rails and holds POR. -/
  | inputUndervoltage (dt : Nat)
  /-- INPUT_OVERVOLTAGE (R500). The overvoltage response switches off the rails and holds POR. -/
  | inputOvervoltage (dt : Nat)
  /-- DROGUE_ADMIT (R503). With zero debt, the drogue admits the oldest queued wake request. -/
  | drogueAdmit (dt : Nat)
  /-- LIMITER_TICK (R505). Every 10 µs, the limiter adjusts the root clock, sheds panels or queues a step up. -/
  | limiterTick (dt p100 i10 p1 vin : Nat)
  /-- THERMAL_TICK (R508). Every 1 ms, the thermal ceiling falls or rises by the sensor readings. -/
  | thermalTick (dt : Nat) (temps : List (Option Nat))
  /-- THERMAL_TRIP (R510). A sensor at its trip temperature switches off the rails and asserts THERM_TRIP_N. -/
  | thermalTrip (dt sensor : Nat)
  /-- TRIP_LOCKOUT_END (R510). 10 s after a trip, PERST_N and CTL_RESET are heeded again. -/
  | tripLockoutEnd (dt : Nat)
  /-- PWR_STEP_WRITE (R504). Sets the drogue budget from the next admission decision, keeping debt and order. -/
  | pwrStepWrite (value : Nat)
  /-- PWR_CLK_MAX_WRITE (R512). Sets the root ceiling, effective at the next limiter tick. -/
  | pwrClkMaxWrite (value : Nat)
  /-- PWR_CNT_CLR (R29). Zeroes every PWR_CNT counter, MAX_WAIT and every MAX_C as one action. -/
  | pwrCntClr (value : Nat)
  /-- FLASH_PRSNT_CHANGE (R521). A debounced change of FLASH_PRSNT_N starts or stops the drive's clock and reset sequence. -/
  | flashPrsntChange (dt port : Nat) (present : Bool)
  /-- FLASH_PERST_RELEASE (R521). 1 ms after the drive clock is stable and CONTROL is set, FLASH_PERST_N is released. -/
  | flashPerstRelease (dt port : Nat)
  /-- FLASH_BRINGUP_RETRY (R521). Every 1 s, a present drive with no link repeats the reset sequence. -/
  | flashBringupRetry (dt port : Nat)
  /-- POOL_PERST_N_INPUT (R523). An asserted POOL_PERST_N on an endpoint port holds its link down. -/
  | poolPerstNInput (port : Nat) (asserted : Bool)
  /-- SPI_REQ_ASSERT (R524). The board requests the SPI bus, and the grant follows outside drive periods. -/
  | spiReqAssert 
  /-- SPI_REQ_DEASSERT (R524). The board releases the SPI bus, and the grant is withdrawn. -/
  | spiReqDeassert 
  /-- SVC_ATTN_PRESS (R528). A debounced press held for 1 s starts an evacuation, or blinks the service LED. -/
  | svcAttnPress (dt : Nat) (held : Bool)
  /-- I3C_ENTDAA (R526). The I3C controller assigns the target its dynamic address. -/
  | i3cEntdaa (addr : Nat)
  /-- CTL_PIN_CNT_CLR (R29). Zeroes every CTL_PIN_CNT counter as one action. -/
  | ctlPinCntClr (value : Nat)
  /-- HOST_PORT_LINK_CHANGE (R41). A host port's link trains, retrains, changes L0p width or goes down, updating HTI_PORT_STS and raising SerDes wake requests when it widens. -/
  | hostPortLinkChange (port rate width : Nat) (cxl : Bool)
  /-- POOL_PORT_LINK_CHANGE (R322). A pool port trains in root or endpoint mode, or its link goes down, setting or clearing its CTL_READY.POOL bit, with a borrower's surprise removal handled as release of every extent. -/
  | poolPortLinkChange (port rate width : Nat) (up : Bool)
  /-- RING_PORT_TRAINED (R342). A ring port finishes training with a peer, exchanging IDs, setting UP or MISCABLED, and neighbours resume held frames after a bypass change. -/
  | ringPortTrained (port peer peerPort lanes fails : Nat)
  /-- LOGICAL_DEVICE_BIND (R328). The fabric manager binds or unbinds a logical device of an endpoint port, updating POOL_PORT_STS.BOUND and freeing revoked ranges on unbind. -/
  | logicalDeviceBind (port ld : Nat) (bind : Bool)
  /-- ENGINE_LANE_TEST_DONE (R464). Tokeniser and mask lanes finish their bring-up test, and TXT, DEC and RCL are set or failed lanes are fenced. -/
  | engineLaneTestDone (txt dec : Nat)
  /-- VIN_HIGH_RIDE_THROUGH (R500). The input rail rises above 60 V but not beyond 63 V for up to 100 µs, and PWR_ALERT_N is asserted while it is ridden through. -/
  | vinHighRideThrough (dt : Nat) (high : Bool)
  /-- JTAG_TAP_OPERATION (R530). A JTAG TAP operation runs BYPASS or IDCODE while debug is locked, or reaches the DBG block once it is unlocked. -/
  | jtagTapOperation (op : TapOp)
  /-- REGISTER_READ_LOGGED (R13). A misaligned read, or a BAR2 read through the unbound port, returns all ones and is logged in the host-interface error log. -/
  | registerReadLogged (bar port offset size : Nat)
  /-- REGION_HOLD_MESSAGE_RECEIVED (R333). A region's home takes a hold, a released hold or a forwarded REGION_MAP DESTROY from another Flewick, counting holds and freeing unheld generations. -/
  | regionHoldMessageReceived (src token region : Nat) (msg : HoldMsg)
  /-- MAP_REQUEST_RECEIVED (R356). The leader receives a lagging member's request for the fabric map and sends it the committed map. -/
  | mapRequestReceived (src : Nat)
  /-- SPOOL_GATHER_REQUEST_RECEIVED (R105). A surviving spool holder receives a request to gather a session's spool and sends the spool on VC5. -/
  | spoolGatherRequestReceived (src handle : Nat)
  /-- SESSION_ROLE_NOTICE_RECEIVED (R90). A home, mirror or spool holder receives the owner's notice of a session's creation or destruction and takes or frees its descriptor. -/
  | sessionRoleNoticeReceived (src handle : Nat) (note : Option SessNote)
  /-- SERVICE_LED_BLINK_END (R366). After 5 s, the service LED shown for a refused button press returns to its previous state. -/
  | serviceLedBlinkEnd (dt : Nat)
  deriving DecidableEq, Repr

end Sys2Proof
end

