-- ==== Sys2Proof/Decode.lean ====
section
/-! DEFINITION. Words that spell a command: spec/opcode_table.json gives no row any bits, so none does. -/

namespace Sys2Proof

/-- The command that a word spells by the table's bits. No row of the table gives bits. -/
def decodeTableWord (_nbits _w : Nat) : Option Instr := none

end Sys2Proof
end

