-- ==== Sys2Proof/Machine/Regs.lean ====
section
/-! DEFINITION. The register fields of spec/02 to spec/20: one name per field, and the row of its
register table (block, offset, instances, bits, type, Reset, Cleared by). Written from the tables. -/

namespace Sys2Proof.Machine

/-- The register blocks of the BAR0 table (spec/02), and the per-context window of BAR2 (`HTIW`). -/
inductive Blk where
  | CTL | PWR | NVM | SEC | HTI | MBX | TIER | GORE | TXT | DEC | RCL | POOL | RING | SHP | MTR | DBG
  | HTIW
  deriving DecidableEq, Repr

/-- BAR0 offset of a block (spec/02, "Address windows"). The window block has none. -/
def Blk.base : Blk → Nat
  | .CTL => 0x00000000 | .PWR => 0x00100000 | .NVM => 0x00200000 | .SEC => 0x00300000
  | .HTI => 0x00400000 | .MBX => 0x00500000 | .TIER => 0x00600000 | .GORE => 0x00800000
  | .TXT => 0x00A00000 | .DEC => 0x00B00000 | .RCL => 0x00C00000 | .POOL => 0x00D00000
  | .RING => 0x00E00000 | .SHP => 0x00F00000 | .MTR => 0x01000000 | .DBG => 0x01100000
  | .HTIW => 0

/-- Group number of a block for NVM_STORE: its place in the BAR0 table (spec/17, R470). -/
def Blk.group : Blk → Nat
  | .CTL => 0 | .PWR => 1 | .NVM => 2 | .SEC => 3 | .HTI => 4 | .MBX => 5 | .TIER => 6 | .GORE => 7
  | .TXT => 8 | .DEC => 9 | .RCL => 10 | .POOL => 11 | .RING => 12 | .SHP => 13 | .MTR => 14
  | .DBG => 15 | .HTIW => 16

/-- The blocks in BAR0 order. -/
def Blk.bar0 : List Blk :=
  [.CTL, .PWR, .NVM, .SEC, .HTI, .MBX, .TIER, .GORE, .TXT, .DEC, .RCL, .POOL, .RING, .SHP, .MTR, .DBG]

/-- The six field types of R17. -/
inductive FTy where
  | rw | ro | w1c | w1s | wo | nv
  deriving DecidableEq, Repr

/-- The Cleared by column (R24). -/
inductive Clr where
  | fn | ctx | soft | p3 | warm | por | none
  deriving DecidableEq, Repr

/-- One row of a register table. `nvm` marks a Reset of "NVM"; `rst` is then the default that Meaning
states. `iN`, `jN` count the instances; `iS`, `jS` are their strides. In the window block the first
index is the context. -/
structure FInfo where
  blk : Blk
  off : Nat
  iN : Nat
  iS : Nat
  jN : Nat
  jS : Nat
  bits : Nat
  lo : Nat
  w : Nat
  ty : FTy
  nvm : Bool
  rst : Nat
  clr : Clr
  deriving DecidableEq, Repr

/-- Every register field of the specification, named as its table names it. -/
inductive Fld where
  | HTI_W_SQDB_TAIL | HTI_W_CQDB_HEAD | HTI_W_ASQ_BASE | HTI_W_ACQ_BASE
  | HTI_W_AQCFG_SQLOG | HTI_W_AQCFG_CQLOG | HTI_W_AQCFG_EN | HTI_W_AQCFG_RDY
  | HTI_W_AQCFG_FAULT | HTI_W_AQCFG_VEC | HTI_W_QFAULT_PAIR | HTI_ID_DEVICE
  | HTI_ID_REV | HTI_TIME_COUNT | HTI_PORT_CTL_MODE | HTI_PORT_CTL_SPEED_MAX
  | HTI_PORT_CTL_B4SZ | HTI_PORT_CTL_SRIOV | HTI_PORT_STS_UP | HTI_PORT_STS_MODE
  | HTI_PORT_STS_RATE | HTI_PORT_STS_WIDTH | HTI_ERRLOG_CTL_NEXT | HTI_ERRLOG_CTL_COUNT
  | HTI_ERRLOG_CTL_OVF | HTI_ERRLOG_CTL_CLR | HTI_ERRLOG_A_KIND | HTI_ERRLOG_A_CTX
  | HTI_ERRLOG_A_PORT | HTI_ERRLOG_A_TIME | HTI_ERRLOG_B_OFFSET | HTI_ERRLOG_B_BAR
  | HTI_CTX_EN | HTI_CTX_PORT | HTI_CTX_MGMT | HTI_CTX_QMAX
  | HTI_CNT_CLR_CTX | HTI_CNT_COUNT | CTL_SES_CFG_TETHER_MSG_LIMIT | CTL_SES_CFG_TETHER_TRIES
  | CTL_SES_CFG_MIRROR_ACK_LIMIT | CTL_SES_CFG_SHIP_RESOLVE_LIMIT | CTL_SES_PARTNER_PARTNER | CTL_SES_PARTNER_VALID
  | CTL_SES_PARTNER_BOOTGEN | CTL_SES_COST_T2_RATE | CTL_SES_COST_T3_RATE | CTL_SES_COST_REBUILD_RATE
  | CTL_SES_COST_T3_LAT_US | CTL_SES_GAUGE_LIVE | CTL_SES_GAUGE_ALOFT | CTL_SES_CTX_MAX_SESS
  | CTL_SES_CTX_SHIP_IN | CTL_SES_CNT_CLR_CLR | CTL_SES_CNT_COUNT | GORE_TILE_CNT_COUNT
  | GORE_TILE_CNT_CLR_CLR | GORE_TILE_LAST_A_HANDLE | GORE_TILE_LAST_B_COLUMN | GORE_TILE_LAST_B_POINT
  | GORE_TILE_LAST_B_KIND | GORE_TILE_LAST_B_LAYER | GORE_TILE_LAST_B_KV_HEAD | GORE_TILE_LAST_B_HALF
  | GORE_TILE_LAST_B_VALID | GORE_TILE_INJ_ARM | GORE_TILE_INJ_MODE | GORE_TILE_INJ_CTX
  | TIER_STALL_LIMIT_LIMIT | TIER_CFG_T2_EXPECT_US | TIER_CFG_T3_EXPECT_US | TIER_WM_T1_HIGH
  | TIER_WM_T1_LOW | TIER_WM_T2_HIGH | TIER_WM_T2_LOW | TIER_HEAT_DECAY_MS
  | TIER_HEAT_PROMOTE1 | TIER_HEAT_PROMOTE2 | TIER_HEAT_DEMOTE1 | TIER_HEAT_DEMOTE2
  | TIER_OCC_T1_PAGES | TIER_OCC_T2_PAGES | TIER_OCC3_T3_PAGES | TIER_RSV_USED_MIB
  | TIER_RSV_PEAK_MIB | TIER_RSV_FULLS | TIER_OBJ_A_PRESENT | TIER_OBJ_A_UP
  | TIER_OBJ_A_EN | TIER_OBJ_A_FAILED | TIER_OBJ_A_REASON | TIER_OBJ_A_PORT
  | TIER_OBJ_A_NSID | TIER_OBJ_B_CAP_PAGES | TIER_DRV_CAP_GIB_DAY | TIER_DRV_CAP_EN
  | TIER_DRV_WEAR_BUDGET_MIB | TIER_DRV_WEAR_WRITTEN_GIB | TIER_CNT_COUNT | TIER_CNT_CLR_CLR
  | TIER_STALL_COUNT | TIER_STALL_CLR_CTX | GORE_CFG_SEG_TILES | GORE_CFG_PREEMPT_US
  | GORE_CFG_YIELD_US | GORE_STEP_LIM_PER_CTX | GORE_ROLE_ROLE | GORE_ROLE_PENDING
  | GORE_ROLE_PENDING_VALID | GORE_ROLE_MIX_ATTN | GORE_ROLE_MIX_ASSIST | GORE_ROLE_MIX_RECALL
  | GORE_GATE_EN | GORE_GATE_IDLE_US | GORE_HELPER_T1_GIB | GORE_PANEL_FENCED
  | GORE_PANEL_GATED | GORE_PANEL_FAULT | GORE_PANEL_USABLE | GORE_SHARE_WEIGHT
  | GORE_SHARE_CAP | GORE_CTX_STS_HELD | GORE_CNT_COUNT | GORE_CNT_CLR_CLR
  | GORE_CLASS_NS_COUNT | GORE_CTX_CNT_COUNT | GORE_CTX_CNT_CLR_CTX | GORE_ATTN_CFG_KICK_LIMIT_MS
  | GORE_BRIDLE_MIB | GORE_BRIDLE_EFF_MIB | GORE_SHAPE_A_DECLARED | GORE_SHAPE_A_OWNER
  | GORE_SHAPE_A_LATENT | GORE_SHAPE_A_LAYERS | GORE_SHAPE_A_QHEADS | GORE_SHAPE_A_KVHEADS
  | GORE_SHAPE_A_DK | GORE_SHAPE_A_DV | GORE_SHAPE_A_SINKS | GORE_SHAPE_B_SESSIONS
  | GORE_SHAPE_B_KV_BYTES | GORE_ATTN_CNT_COUNT | GORE_ATTN_CNT_CLR_CLR | HTI_W_BRKICK_STEP_ID
  | HTI_W_BRKICK_LAYER | HTI_W_BRKICK_MBZ | HTI_W_BRSTS_STEP_ID | HTI_W_BRSTS_LAYER
  | HTI_W_BRSTS_REASON | HTI_W_BRSTS_ERRORS | HTI_W_BRSTS_VALID | TXT_CFG_T1_MIB
  | TXT_LANES_EN | TXT_LANES_FENCED | TXT_SLOT_A_LOADED | TXT_SLOT_A_OWNER
  | TXT_SLOT_A_MODEL | TXT_SLOT_A_INVALID | TXT_SLOT_A_TOKENS | TXT_SLOT_A_UNICODE
  | TXT_SLOT_B_BYTES | TXT_SLOT_B_USERS | TXT_CTX_MAX_MIB | TXT_CNT_COUNT
  | TXT_CNT_CLR_CLR | DEC_CFG_GRAM_MIB | DEC_LANES_EN | DEC_LANES_FENCED
  | DEC_GAUGE_STREAMS | DEC_GAUGE_ENDED | DEC_GAUGE_BACKLOGGED | DEC_GRAM_A_LOADED
  | DEC_GRAM_A_OWNER | DEC_GRAM_A_TOKENS | DEC_GRAM_A_STATES | DEC_GRAM_B_BYTES
  | DEC_GRAM_B_USERS | DEC_CTX_MAX_STREAMS | DEC_CNT_COUNT | DEC_CNT_CLR_CLR
  | RCL_CFG_COMPACT_PCT | RCL_GAUGE_ENTRIES | RCL_GAUGE_INDEXES | RCL_GAUGE_HELPERS
  | RCL_CTX_MAX_ENTRIES | RCL_IDX_A_LIVE | RCL_IDX_A_READY | RCL_IDX_A_FAILED
  | RCL_IDX_A_LOSS | RCL_IDX_A_OWNER | RCL_IDX_A_DIM | RCL_IDX_A_M
  | RCL_IDX_A_METRIC | RCL_IDX_A_TAGS | RCL_IDX_A_REFINE | RCL_IDX_A_NLIST
  | RCL_IDX_B_ENTRIES | RCL_IDX_SEQ_CSEQ | RCL_HELPER_LOADED | RCL_HELPER_OWNER
  | RCL_HELPER_IN_T2 | RCL_HELPER_PARAMS | RCL_CNT_COUNT | RCL_CNT_CLR_CLR
  | RCL_CTX_CNT_COUNT | RCL_CTX_CNT_CLR_CTX | POOL_CFG_STAGE_LIMIT_MS | POOL_PORT_CTL_MODE
  | POOL_PORT_CTL_SPEED_MAX | POOL_PORT_CTL_LDS | POOL_PORT_STS_UP | POOL_PORT_STS_MODE
  | POOL_PORT_STS_RATE | POOL_PORT_STS_WIDTH | POOL_PORT_STS_VIRAL_IN | POOL_PORT_STS_VIRAL_OUT
  | POOL_PORT_STS_BOUND | POOL_LEND_T1_GIB | POOL_LEND_T2_GIB | POOL_LEND_REGION_GIB
  | POOL_LEND_USE_T1_GRANTED | POOL_LEND_USE_T2_GRANTED | POOL_LEND_USE_REGION_MIB | POOL_OBJ_WINDOW
  | POOL_OBJ_HOME | POOL_OBJ_LENDER | POOL_OBJ_LENDER_ID | POOL_REGION_A_LIVE
  | POOL_REGION_A_OWNER | POOL_REGION_A_HELD | POOL_REGION_A_KIB | POOL_REGION_B_GEN
  | POOL_REGION_B_HOLDS | POOL_CNT_COUNT | POOL_CNT_CLR_CLR | RING_CFG_XPOS
  | RING_CFG_YPOS | RING_CFG_XDIM | RING_CFG_YDIM | RING_CFG_FABRIC_ENC
  | RING_CFG_GAP_US | RING_CFG_HOLD_MS | RING_MAP_CFG_HB_MS | RING_MAP_CFG_ISOLATE_MS
  | RING_MAP_CFG_LOSS_MS | RING_MAP_CFG_FORM_S | RING_MAP_CFG_EXPECT | RING_STS_MEMBER
  | RING_STS_LEADER | RING_STS_IS_LEADER | RING_STS_CFG_BAD | RING_STS_ID
  | RING_MAP_EPOCH_EPOCH | RING_PORT_CTL_EN | RING_PORT_STS_PRESENT | RING_PORT_STS_UP
  | RING_PORT_STS_WIDTH | RING_PORT_STS_MISCABLED | RING_PORT_STS_LANE_FAIL | RING_PORT_STS_PEER
  | RING_VC_BUF_KIB | RING_BYP_STATE | RING_BYP_FORCE_CLOSE | RING_EVAC_BTN_EN
  | RING_EVAC_MODE | RING_EVAC_LIMIT_S | RING_EVAC_STS_STEP | RING_EVAC_STS_LEFT_TO_GO
  | RING_LED_IDENT | RING_LED_SERVICE | RING_LED_FAULT | RING_CNT_COUNT
  | RING_CNT_CLR_CLR | RING_PORT_CNT_COUNT | RING_MAP_STATE | RING_MAP_BOOTGEN
  | RING_MAP_PARTNER | RING_MAP_PARTNER_VALID | RING_MAP_LINKS | RING_INHERIT_LOST_ID
  | RING_INHERIT_BOOTGEN | RING_INHERIT_INHERITOR | RING_INHERIT_VALID | SHP_PORT_OVH
  | SHP_PORT_PRIV_PCT | SHP_PORT_PRIV_BURST_KIB | SHP_VC_PRIV | SHP_VC_WEIGHT
  | SHP_VC_RED_ACT | SHP_VC_DEFER_US | SHP_SAMPLE_TICKS | SHP_SAMPLE_EN
  | SHP_HIST_CLR_CLR | SHP_CTXQ_RATE | SHP_CTXQ_BURST_KIB | SHP_CTXQ_WEIGHT
  | SHP_HPOL_A_MODE | SHP_HPOL_A_CIR | SHP_HPOL_A_CBS | SHP_HPOL_B_RATE2
  | SHP_HPOL_B_BURST2 | SHP_RPOL_MODE | SHP_RPOL_CIR | SHP_RPOL_CBS
  | SHP_RPOL_RATE2 | SHP_RPOL_BURST2 | SHP_CNT_COUNT | SHP_CNT_CLR_CLR
  | SHP_CTX_CNT_COUNT | SHP_CTX_CNT_CLR_CTX | SHP_HIST_DEPTH_COUNT | SHP_HIST_DELAY_COUNT
  | SHP_HIST_MAX_MAX_DEPTH | SHP_HIST_MAX_MAX_DELAY | CTL_ADM_CFG_AUTO_SHIFT | CTL_ADM_CFG_SHIFT_PCT
  | CTL_ADM_CFG_MAX_SHIFT_PCT | CTL_ADM_CFG_MIN_FLOOR | CTL_ADM_CFG_RELAX_MS | CTL_ADM_CFG_BACKOFF_MS
  | CTL_ADM_CFG_SHIFT_EVENT_MS | CTL_ADM_LIM_DESC_MIN | CTL_ADM_LIM_ALOFT_HEAD | CTL_ADM_LIM_T1_PCT
  | CTL_ADM_LIM_ATTN_WAIT_US | CTL_ADM_STS_SHORT | CTL_ADM_STS_CAUSE | CTL_ADM_STS_SHIFT
  | CTL_ADM_STS_EFF_ATTN | CTL_ADM_STS_EFF_ASSIST | CTL_ADM_STS_EFF_RECALL | CTL_ADM_CNT_COUNT
  | CTL_ADM_CNT_CLR_CLR | MTR_CFG_CKPT_S | MTR_SEQ_NEXT | MTR_ARCH_HELD
  | MTR_ARCH_UNACKED | MTR_COMP_TAG | MTR_COMP_STS_UNBOUND | MTR_COMP_STS_START
  | MTR_LIVE_COUNT | MTR_CNT_COUNT | MTR_CNT_CLR_CLR | SEC_ID_SERIAL
  | SEC_BOOT_STS_COPY | SEC_BOOT_STS_RECOVERY | SEC_BOOT_STS_A_RESULT | SEC_BOOT_STS_B_RESULT
  | SEC_BOOT_STS_SVN_RUNNING | SEC_BOOT_STS_PATCH | SEC_SVN_COUNTER | SEC_OWNER_ENROLLED
  | SEC_OWNER_MANAGER | SEC_CFG_PLAIN_KEYS | SEC_CFG_SPDM_MCTP | SEC_DEBUG_STATE
  | SEC_FABRIC_TX_SLOT | SEC_FABRIC_VALID0 | SEC_FABRIC_VALID1 | SEC_FABRIC_PERSIST0
  | SEC_FABRIC_PERSIST1 | SEC_FABRIC_LEFT0 | SEC_FABRIC_LEFT1 | SEC_FABRIC_NO_KEY
  | SEC_FABRIC_ID_KEY_ID0 | SEC_FABRIC_ID_KEY_ID1 | SEC_IDE_LINK | SEC_IDE_SELECTIVE
  | SEC_CTX_ACTIVE | SEC_CTX_RETIRING | SEC_CTX_IMPORT | SEC_CTX_STORAGE
  | SEC_CTX_TDI | SEC_CTX_KEYID_KEY_ID | SEC_CNT_COUNT | SEC_CNT_CLR_CLR
  | HTI_W_MBREQ_LEN | HTI_W_MBREQ_TOKEN | HTI_W_MBRSP_LEN | HTI_W_MBRSP_TOKEN
  | HTI_W_MBRSP_FULL | HTI_W_MBSTS_BUSY | HTI_W_MBSTS_REJECT | HTI_W_MBSTS_FLT_OVF
  | HTI_W_MBSTS_EVT_LOST | HTI_W_MBVEC_MBX | HTI_W_MBVEC_EVT | HTI_W_MBVEC_FLT
  | HTI_W_EVT_BASE_BASE | HTI_W_EVT_CFG_LOG | HTI_W_EVT_CFG_EN | HTI_W_EVT_CFG_FAULT
  | HTI_W_EVT_IDX_HEAD | HTI_W_EVT_IDX_TAIL | HTI_W_FLT_IDX_HEAD | HTI_W_FLT_IDX_NEXT
  | MBX_PORT_CFG_COMPACT_EN | MBX_PORT_CFG_SUM_VEC | MBX_SUM_ADDR_BASE | MBX_SUM_BITS
  | MBX_MODE_COMPACT0 | MBX_MODE_COMPACT1 | MBX_MODE_SUM_FAIL0 | MBX_MODE_SUM_FAIL1
  | MBX_CTX_POS | MBX_CTX_VALID | MBX_S_REQ_LEN | MBX_S_REQ_TOKEN
  | MBX_S_RSP_LEN | MBX_S_RSP_TOKEN | MBX_S_RSP_FULL | MBX_S_STS_BUSY
  | MBX_S_STS_REJECT | MBX_S_STS_PATH | MBX_CNT_COUNT | MBX_CNT_CLR_CLR
  | CTL_READY_CONTROL | CTL_READY_NVM | CTL_READY_SEC | CTL_READY_HTI
  | CTL_READY_MBX | CTL_READY_TXT | CTL_READY_DEC | CTL_READY_RCL
  | CTL_READY_T1 | CTL_READY_T2 | CTL_READY_T3 | CTL_READY_GORES
  | CTL_READY_RING | CTL_READY_POOL | CTL_BOOT_STS_IMAGE | CTL_BOOT_STS_STORE
  | CTL_BOOT_STS_APPLIED | CTL_BOOT_STS_SKIPPED | CTL_BOOT_STS_T1_FAIL | CTL_BOOT_STS_T1_STACK
  | CTL_BOOT_VER_VERSION | CTL_FN_EN | CTL_FN_MODE | CTL_FN_TIMEOUT_MS
  | CTL_FN_STATE | NVM_SS_STS_GROUPS | NVM_SS_STS_BANK | NVM_SS_STS_DEGRADED
  | NVM_SS_STS_COMMIT | NVM_SS_USE_ENTRIES | NVM_CNT_COUNT | NVM_CNT_CLR_CLR
  | CTL_RESET_SOFT | CTL_RESET_WARM | CTL_RESET_KEY | CTL_FN_RST_FN
  | CTL_CTX_RST_CTX | CTL_PM_P2_EN | CTL_PM_P2_IDLE_MS | CTL_PM_P3_REQ
  | CTL_PM_P3_LIMIT_S | CTL_PM_STS_STATE | CTL_PM_STS_P3_REFUSED | CTL_PM_STS_REFUSE_WHY
  | CTL_RST_CAUSE_LAST | CTL_RST_CAUSE_FAILED | CTL_RST_CAUSE_FAIL_DIE | CTL_RST_CAUSE_WARMS
  | CTL_RST_CAUSE_SOFTS | CTL_RT_TIME_COUNT | CTL_RST_CNT_COUNT | CTL_RST_CNT_CLR_CLR
  | PWR_STEP_WATTS | PWR_STEP_WINDOW_US | PWR_LIMIT_TDP_W | PWR_LIMIT_PEAK_W
  | PWR_CLK_MAX_MHZ | PWR_CLK_ROOT_MHZ | PWR_THERM_J_THROTTLE_C | PWR_THERM_H_THROTTLE_C
  | PWR_STS_CAUSE | PWR_STS_VIN_MV | PWR_STS_IIN_MA | PWR_STS_PIN_W
  | PWR_DROGUE_QUEUED | PWR_DROGUE_QUEUED_W | PWR_DROGUE_MAX_WAIT | PWR_TEMP_TEMP
  | PWR_TEMP_VALID | PWR_TEMP_MAX_C | PWR_CNT_COUNT | PWR_CNT_CLR_CLR
  | CTL_PIN_STS_PERST | CTL_PIN_STS_PM_WAKE | CTL_PIN_STS_SVC_ATTN | CTL_PIN_STS_SPI_REQ
  | CTL_PIN_STS_SPI_GNT | CTL_PIN_STS_PWR_ALERT | CTL_PIN_STS_THERM_TRIP | CTL_PIN_STS_FLASH_PRSNT
  | CTL_PIN_STS_FLASH_PERST | CTL_PIN_STS_POOL_PERST | CTL_PIN_CNT_COUNT | CTL_PIN_CNT_CLR_CLR
  deriving DecidableEq, Repr

/-- The table row of each field. -/
def Fld.info : Fld → FInfo
  | .HTI_W_SQDB_TAIL => ⟨.HTIW, 0x0, 64, 0x0, 256, 0x8, 32, 0, 12, .wo, false, 0, .ctx⟩
  | .HTI_W_CQDB_HEAD => ⟨.HTIW, 0x800, 64, 0x0, 256, 0x8, 32, 0, 12, .wo, false, 0, .ctx⟩
  | .HTI_W_ASQ_BASE => ⟨.HTIW, 0x1000, 64, 0x0, 1, 0x0, 64, 12, 52, .rw, false, 0, .ctx⟩
  | .HTI_W_ACQ_BASE => ⟨.HTIW, 0x1008, 64, 0x0, 1, 0x0, 64, 12, 52, .rw, false, 0, .ctx⟩
  | .HTI_W_AQCFG_SQLOG => ⟨.HTIW, 0x1010, 64, 0x0, 1, 0x0, 32, 0, 4, .rw, false, 0, .ctx⟩
  | .HTI_W_AQCFG_CQLOG => ⟨.HTIW, 0x1010, 64, 0x0, 1, 0x0, 32, 4, 4, .rw, false, 0, .ctx⟩
  | .HTI_W_AQCFG_EN => ⟨.HTIW, 0x1010, 64, 0x0, 1, 0x0, 32, 8, 1, .rw, false, 0, .ctx⟩
  | .HTI_W_AQCFG_RDY => ⟨.HTIW, 0x1010, 64, 0x0, 1, 0x0, 32, 9, 1, .ro, false, 0, .ctx⟩
  | .HTI_W_AQCFG_FAULT => ⟨.HTIW, 0x1010, 64, 0x0, 1, 0x0, 32, 10, 1, .ro, false, 0, .ctx⟩
  | .HTI_W_AQCFG_VEC => ⟨.HTIW, 0x1010, 64, 0x0, 1, 0x0, 32, 16, 11, .rw, false, 0, .ctx⟩
  | .HTI_W_QFAULT_PAIR => ⟨.HTIW, 0x1020, 64, 0x0, 4, 0x8, 64, 0, 64, .ro, false, 0, .ctx⟩
  | .HTI_ID_DEVICE => ⟨.HTI, 0x0, 1, 0x0, 1, 0x0, 32, 0, 16, .ro, false, 4608, .none⟩
  | .HTI_ID_REV => ⟨.HTI, 0x0, 1, 0x0, 1, 0x0, 32, 16, 4, .ro, false, 1, .none⟩
  | .HTI_TIME_COUNT => ⟨.HTI, 0x8, 1, 0x0, 1, 0x0, 64, 0, 64, .ro, false, 0, .warm⟩
  | .HTI_PORT_CTL_MODE => ⟨.HTI, 0x100, 2, 0x10, 1, 0x0, 32, 0, 1, .rw, true, 0, .warm⟩
  | .HTI_PORT_CTL_SPEED_MAX => ⟨.HTI, 0x100, 2, 0x10, 1, 0x0, 32, 1, 3, .rw, true, 0, .warm⟩
  | .HTI_PORT_CTL_B4SZ => ⟨.HTI, 0x100, 2, 0x10, 1, 0x0, 32, 4, 3, .rw, true, 0, .warm⟩
  | .HTI_PORT_CTL_SRIOV => ⟨.HTI, 0x100, 2, 0x10, 1, 0x0, 32, 7, 1, .rw, true, 0, .warm⟩
  | .HTI_PORT_STS_UP => ⟨.HTI, 0x108, 2, 0x10, 1, 0x0, 32, 0, 1, .ro, false, 0, .warm⟩
  | .HTI_PORT_STS_MODE => ⟨.HTI, 0x108, 2, 0x10, 1, 0x0, 32, 1, 1, .ro, false, 0, .warm⟩
  | .HTI_PORT_STS_RATE => ⟨.HTI, 0x108, 2, 0x10, 1, 0x0, 32, 2, 3, .ro, false, 0, .warm⟩
  | .HTI_PORT_STS_WIDTH => ⟨.HTI, 0x108, 2, 0x10, 1, 0x0, 32, 5, 5, .ro, false, 0, .warm⟩
  | .HTI_ERRLOG_CTL_NEXT => ⟨.HTI, 0x200, 1, 0x0, 1, 0x0, 32, 0, 4, .ro, false, 0, .warm⟩
  | .HTI_ERRLOG_CTL_COUNT => ⟨.HTI, 0x200, 1, 0x0, 1, 0x0, 32, 4, 5, .ro, false, 0, .warm⟩
  | .HTI_ERRLOG_CTL_OVF => ⟨.HTI, 0x200, 1, 0x0, 1, 0x0, 32, 9, 1, .w1c, false, 0, .warm⟩
  | .HTI_ERRLOG_CTL_CLR => ⟨.HTI, 0x200, 1, 0x0, 1, 0x0, 32, 10, 1, .w1s, false, 0, .warm⟩
  | .HTI_ERRLOG_A_KIND => ⟨.HTI, 0x300, 16, 0x10, 1, 0x0, 64, 0, 8, .ro, false, 0, .warm⟩
  | .HTI_ERRLOG_A_CTX => ⟨.HTI, 0x300, 16, 0x10, 1, 0x0, 64, 8, 6, .ro, false, 0, .warm⟩
  | .HTI_ERRLOG_A_PORT => ⟨.HTI, 0x300, 16, 0x10, 1, 0x0, 64, 14, 1, .ro, false, 0, .warm⟩
  | .HTI_ERRLOG_A_TIME => ⟨.HTI, 0x300, 16, 0x10, 1, 0x0, 64, 16, 48, .ro, false, 0, .warm⟩
  | .HTI_ERRLOG_B_OFFSET => ⟨.HTI, 0x308, 16, 0x10, 1, 0x0, 64, 0, 32, .ro, false, 0, .warm⟩
  | .HTI_ERRLOG_B_BAR => ⟨.HTI, 0x308, 16, 0x10, 1, 0x0, 64, 32, 3, .ro, false, 0, .warm⟩
  | .HTI_CTX_EN => ⟨.HTI, 0x1000, 64, 0x8, 1, 0x0, 32, 0, 1, .rw, true, 0, .warm⟩
  | .HTI_CTX_PORT => ⟨.HTI, 0x1000, 64, 0x8, 1, 0x0, 32, 1, 1, .rw, true, 0, .warm⟩
  | .HTI_CTX_MGMT => ⟨.HTI, 0x1000, 64, 0x8, 1, 0x0, 32, 2, 1, .rw, true, 0, .warm⟩
  | .HTI_CTX_QMAX => ⟨.HTI, 0x1000, 64, 0x8, 1, 0x0, 32, 3, 9, .rw, true, 256, .warm⟩
  | .HTI_CNT_CLR_CTX => ⟨.HTI, 0x1800, 1, 0x0, 1, 0x0, 64, 0, 64, .w1s, false, 0, .warm⟩
  | .HTI_CNT_COUNT => ⟨.HTI, 0x2000, 64, 0x40, 8, 0x8, 64, 0, 64, .ro, false, 0, .ctx⟩
  | .CTL_SES_CFG_TETHER_MSG_LIMIT => ⟨.CTL, 0x4000, 1, 0x0, 1, 0x0, 32, 0, 8, .rw, true, 10, .soft⟩
  | .CTL_SES_CFG_TETHER_TRIES => ⟨.CTL, 0x4000, 1, 0x0, 1, 0x0, 32, 8, 4, .rw, true, 3, .soft⟩
  | .CTL_SES_CFG_MIRROR_ACK_LIMIT => ⟨.CTL, 0x4000, 1, 0x0, 1, 0x0, 32, 12, 8, .rw, true, 10, .soft⟩
  | .CTL_SES_CFG_SHIP_RESOLVE_LIMIT => ⟨.CTL, 0x4000, 1, 0x0, 1, 0x0, 32, 20, 8, .rw, true, 100, .soft⟩
  | .CTL_SES_PARTNER_PARTNER => ⟨.CTL, 0x4008, 1, 0x0, 1, 0x0, 32, 0, 10, .ro, false, 0, .warm⟩
  | .CTL_SES_PARTNER_VALID => ⟨.CTL, 0x4008, 1, 0x0, 1, 0x0, 32, 10, 1, .ro, false, 0, .warm⟩
  | .CTL_SES_PARTNER_BOOTGEN => ⟨.CTL, 0x4008, 1, 0x0, 1, 0x0, 32, 16, 6, .ro, false, 0, .none⟩
  | .CTL_SES_COST_T2_RATE => ⟨.CTL, 0x4010, 1, 0x0, 1, 0x0, 64, 0, 16, .rw, true, 64, .soft⟩
  | .CTL_SES_COST_T3_RATE => ⟨.CTL, 0x4010, 1, 0x0, 1, 0x0, 64, 16, 16, .rw, true, 110, .soft⟩
  | .CTL_SES_COST_REBUILD_RATE => ⟨.CTL, 0x4010, 1, 0x0, 1, 0x0, 64, 32, 16, .rw, true, 20, .soft⟩
  | .CTL_SES_COST_T3_LAT_US => ⟨.CTL, 0x4010, 1, 0x0, 1, 0x0, 64, 48, 16, .rw, true, 100, .soft⟩
  | .CTL_SES_GAUGE_LIVE => ⟨.CTL, 0x4018, 1, 0x0, 1, 0x0, 64, 0, 23, .ro, false, 0, .warm⟩
  | .CTL_SES_GAUGE_ALOFT => ⟨.CTL, 0x4018, 1, 0x0, 1, 0x0, 64, 23, 17, .ro, false, 0, .warm⟩
  | .CTL_SES_CTX_MAX_SESS => ⟨.CTL, 0x4100, 64, 0x8, 1, 0x0, 32, 0, 23, .rw, true, 4194304, .warm⟩
  | .CTL_SES_CTX_SHIP_IN => ⟨.CTL, 0x4100, 64, 0x8, 1, 0x0, 32, 23, 1, .rw, true, 0, .warm⟩
  | .CTL_SES_CNT_CLR_CLR => ⟨.CTL, 0x4880, 1, 0x0, 1, 0x0, 32, 0, 1, .w1s, false, 0, .warm⟩
  | .CTL_SES_CNT_COUNT => ⟨.CTL, 0x4800, 14, 0x8, 1, 0x0, 64, 0, 64, .ro, false, 0, .warm⟩
  | .GORE_TILE_CNT_COUNT => ⟨.GORE, 0x40000, 12, 0x8, 1, 0x0, 64, 0, 64, .ro, false, 0, .warm⟩
  | .GORE_TILE_CNT_CLR_CLR => ⟨.GORE, 0x40080, 1, 0x0, 1, 0x0, 32, 0, 1, .w1s, false, 0, .warm⟩
  | .GORE_TILE_LAST_A_HANDLE => ⟨.GORE, 0x40090, 1, 0x0, 1, 0x0, 64, 0, 64, .ro, false, 0, .warm⟩
  | .GORE_TILE_LAST_B_COLUMN => ⟨.GORE, 0x40098, 1, 0x0, 1, 0x0, 64, 0, 13, .ro, false, 0, .warm⟩
  | .GORE_TILE_LAST_B_POINT => ⟨.GORE, 0x40098, 1, 0x0, 1, 0x0, 64, 16, 2, .ro, false, 0, .warm⟩
  | .GORE_TILE_LAST_B_KIND => ⟨.GORE, 0x40098, 1, 0x0, 1, 0x0, 64, 18, 2, .ro, false, 0, .warm⟩
  | .GORE_TILE_LAST_B_LAYER => ⟨.GORE, 0x40098, 1, 0x0, 1, 0x0, 64, 20, 16, .ro, false, 0, .warm⟩
  | .GORE_TILE_LAST_B_KV_HEAD => ⟨.GORE, 0x40098, 1, 0x0, 1, 0x0, 64, 36, 16, .ro, false, 0, .warm⟩
  | .GORE_TILE_LAST_B_HALF => ⟨.GORE, 0x40098, 1, 0x0, 1, 0x0, 64, 52, 1, .ro, false, 0, .warm⟩
  | .GORE_TILE_LAST_B_VALID => ⟨.GORE, 0x40098, 1, 0x0, 1, 0x0, 64, 63, 1, .w1c, false, 0, .warm⟩
  | .GORE_TILE_INJ_ARM => ⟨.GORE, 0x400A0, 1, 0x0, 1, 0x0, 32, 0, 1, .w1s, false, 0, .soft⟩
  | .GORE_TILE_INJ_MODE => ⟨.GORE, 0x400A0, 1, 0x0, 1, 0x0, 32, 1, 2, .rw, false, 0, .soft⟩
  | .GORE_TILE_INJ_CTX => ⟨.GORE, 0x400A0, 1, 0x0, 1, 0x0, 32, 3, 6, .rw, false, 0, .soft⟩
  | .TIER_STALL_LIMIT_LIMIT => ⟨.TIER, 0x0, 1, 0x0, 1, 0x0, 32, 0, 8, .rw, true, 20, .soft⟩
  | .TIER_CFG_T2_EXPECT_US => ⟨.TIER, 0x8, 1, 0x0, 1, 0x0, 32, 0, 8, .rw, true, 4, .soft⟩
  | .TIER_CFG_T3_EXPECT_US => ⟨.TIER, 0x8, 1, 0x0, 1, 0x0, 32, 8, 12, .rw, true, 200, .soft⟩
  | .TIER_WM_T1_HIGH => ⟨.TIER, 0x10, 1, 0x0, 1, 0x0, 32, 0, 7, .rw, true, 95, .soft⟩
  | .TIER_WM_T1_LOW => ⟨.TIER, 0x10, 1, 0x0, 1, 0x0, 32, 8, 7, .rw, true, 90, .soft⟩
  | .TIER_WM_T2_HIGH => ⟨.TIER, 0x10, 1, 0x0, 1, 0x0, 32, 16, 7, .rw, true, 95, .soft⟩
  | .TIER_WM_T2_LOW => ⟨.TIER, 0x10, 1, 0x0, 1, 0x0, 32, 24, 7, .rw, true, 90, .soft⟩
  | .TIER_HEAT_DECAY_MS => ⟨.TIER, 0x18, 1, 0x0, 1, 0x0, 64, 0, 16, .rw, true, 1000, .soft⟩
  | .TIER_HEAT_PROMOTE1 => ⟨.TIER, 0x18, 1, 0x0, 1, 0x0, 64, 16, 8, .rw, true, 4, .soft⟩
  | .TIER_HEAT_PROMOTE2 => ⟨.TIER, 0x18, 1, 0x0, 1, 0x0, 64, 24, 8, .rw, true, 2, .soft⟩
  | .TIER_HEAT_DEMOTE1 => ⟨.TIER, 0x18, 1, 0x0, 1, 0x0, 64, 32, 8, .rw, true, 0, .soft⟩
  | .TIER_HEAT_DEMOTE2 => ⟨.TIER, 0x18, 1, 0x0, 1, 0x0, 64, 40, 8, .rw, true, 0, .soft⟩
  | .TIER_OCC_T1_PAGES => ⟨.TIER, 0x20, 1, 0x0, 1, 0x0, 64, 0, 23, .ro, false, 0, .warm⟩
  | .TIER_OCC_T2_PAGES => ⟨.TIER, 0x20, 1, 0x0, 1, 0x0, 64, 23, 27, .ro, false, 0, .warm⟩
  | .TIER_OCC3_T3_PAGES => ⟨.TIER, 0x28, 1, 0x0, 1, 0x0, 64, 0, 35, .ro, false, 0, .warm⟩
  | .TIER_RSV_USED_MIB => ⟨.TIER, 0x30, 1, 0x0, 1, 0x0, 64, 0, 16, .ro, false, 0, .warm⟩
  | .TIER_RSV_PEAK_MIB => ⟨.TIER, 0x30, 1, 0x0, 1, 0x0, 64, 16, 16, .ro, false, 0, .warm⟩
  | .TIER_RSV_FULLS => ⟨.TIER, 0x30, 1, 0x0, 1, 0x0, 64, 32, 32, .ro, false, 0, .warm⟩
  | .TIER_OBJ_A_PRESENT => ⟨.TIER, 0x100, 64, 0x10, 1, 0x0, 64, 0, 1, .ro, false, 0, .warm⟩
  | .TIER_OBJ_A_UP => ⟨.TIER, 0x100, 64, 0x10, 1, 0x0, 64, 1, 1, .ro, false, 0, .warm⟩
  | .TIER_OBJ_A_EN => ⟨.TIER, 0x100, 64, 0x10, 1, 0x0, 64, 2, 1, .rw, true, 1, .warm⟩
  | .TIER_OBJ_A_FAILED => ⟨.TIER, 0x100, 64, 0x10, 1, 0x0, 64, 3, 1, .w1c, false, 0, .warm⟩
  | .TIER_OBJ_A_REASON => ⟨.TIER, 0x100, 64, 0x10, 1, 0x0, 64, 4, 2, .ro, false, 0, .warm⟩
  | .TIER_OBJ_A_PORT => ⟨.TIER, 0x100, 64, 0x10, 1, 0x0, 64, 6, 4, .ro, false, 0, .warm⟩
  | .TIER_OBJ_A_NSID => ⟨.TIER, 0x100, 64, 0x10, 1, 0x0, 64, 10, 32, .ro, false, 0, .warm⟩
  | .TIER_OBJ_B_CAP_PAGES => ⟨.TIER, 0x108, 64, 0x10, 1, 0x0, 64, 0, 35, .ro, false, 0, .warm⟩
  | .TIER_DRV_CAP_GIB_DAY => ⟨.TIER, 0x800, 8, 0x10, 1, 0x0, 64, 0, 16, .rw, true, 2048, .warm⟩
  | .TIER_DRV_CAP_EN => ⟨.TIER, 0x800, 8, 0x10, 1, 0x0, 64, 16, 1, .rw, true, 1, .warm⟩
  | .TIER_DRV_WEAR_BUDGET_MIB => ⟨.TIER, 0x808, 8, 0x10, 1, 0x0, 64, 0, 32, .ro, false, 0, .none⟩
  | .TIER_DRV_WEAR_WRITTEN_GIB => ⟨.TIER, 0x808, 8, 0x10, 1, 0x0, 64, 32, 32, .ro, false, 0, .none⟩
  | .TIER_CNT_COUNT => ⟨.TIER, 0x1000, 16, 0x8, 1, 0x0, 64, 0, 64, .ro, false, 0, .warm⟩
  | .TIER_CNT_CLR_CLR => ⟨.TIER, 0x1080, 1, 0x0, 1, 0x0, 32, 0, 1, .w1s, false, 0, .warm⟩
  | .TIER_STALL_COUNT => ⟨.TIER, 0x2000, 64, 0x80, 9, 0x8, 64, 0, 64, .ro, false, 0, .ctx⟩
  | .TIER_STALL_CLR_CTX => ⟨.TIER, 0x4000, 1, 0x0, 1, 0x0, 64, 0, 64, .w1s, false, 0, .warm⟩
  | .GORE_CFG_SEG_TILES => ⟨.GORE, 0x0, 1, 0x0, 1, 0x0, 32, 0, 9, .rw, true, 64, .soft⟩
  | .GORE_CFG_PREEMPT_US => ⟨.GORE, 0x0, 1, 0x0, 1, 0x0, 32, 16, 8, .rw, true, 20, .soft⟩
  | .GORE_CFG_YIELD_US => ⟨.GORE, 0x0, 1, 0x0, 1, 0x0, 32, 24, 8, .rw, true, 4, .soft⟩
  | .GORE_STEP_LIM_PER_CTX => ⟨.GORE, 0x8, 1, 0x0, 1, 0x0, 32, 0, 5, .rw, true, 8, .soft⟩
  | .GORE_ROLE_ROLE => ⟨.GORE, 0x10, 1, 0x0, 1, 0x0, 32, 0, 2, .ro, true, 3, .warm⟩
  | .GORE_ROLE_PENDING => ⟨.GORE, 0x10, 1, 0x0, 1, 0x0, 32, 2, 2, .ro, false, 0, .warm⟩
  | .GORE_ROLE_PENDING_VALID => ⟨.GORE, 0x10, 1, 0x0, 1, 0x0, 32, 4, 1, .ro, false, 0, .warm⟩
  | .GORE_ROLE_MIX_ATTN => ⟨.GORE, 0x18, 1, 0x0, 1, 0x0, 32, 0, 7, .rw, true, 50, .soft⟩
  | .GORE_ROLE_MIX_ASSIST => ⟨.GORE, 0x18, 1, 0x0, 1, 0x0, 32, 8, 7, .rw, true, 20, .soft⟩
  | .GORE_ROLE_MIX_RECALL => ⟨.GORE, 0x18, 1, 0x0, 1, 0x0, 32, 16, 7, .rw, true, 30, .soft⟩
  | .GORE_GATE_EN => ⟨.GORE, 0x20, 1, 0x0, 1, 0x0, 32, 0, 1, .rw, true, 1, .soft⟩
  | .GORE_GATE_IDLE_US => ⟨.GORE, 0x20, 1, 0x0, 1, 0x0, 32, 1, 10, .rw, true, 50, .soft⟩
  | .GORE_HELPER_T1_GIB => ⟨.GORE, 0x28, 1, 0x0, 1, 0x0, 32, 0, 6, .rw, true, 16, .warm⟩
  | .GORE_PANEL_FENCED => ⟨.GORE, 0x100, 30, 0x8, 1, 0x0, 64, 0, 40, .ro, false, 0, .warm⟩
  | .GORE_PANEL_GATED => ⟨.GORE, 0x100, 30, 0x8, 1, 0x0, 64, 40, 1, .ro, false, 0, .soft⟩
  | .GORE_PANEL_FAULT => ⟨.GORE, 0x100, 30, 0x8, 1, 0x0, 64, 41, 1, .ro, false, 0, .warm⟩
  | .GORE_PANEL_USABLE => ⟨.GORE, 0x100, 30, 0x8, 1, 0x0, 64, 42, 6, .ro, false, 0, .warm⟩
  | .GORE_SHARE_WEIGHT => ⟨.GORE, 0x1000, 64, 0x8, 1, 0x0, 32, 0, 8, .rw, true, 1, .warm⟩
  | .GORE_SHARE_CAP => ⟨.GORE, 0x1000, 64, 0x8, 1, 0x0, 32, 8, 11, .rw, true, 0, .warm⟩
  | .GORE_CTX_STS_HELD => ⟨.GORE, 0x1400, 64, 0x8, 1, 0x0, 32, 0, 11, .ro, false, 0, .soft⟩
  | .GORE_CNT_COUNT => ⟨.GORE, 0x3000, 15, 0x8, 1, 0x0, 64, 0, 64, .ro, false, 0, .warm⟩
  | .GORE_CNT_CLR_CLR => ⟨.GORE, 0x3080, 1, 0x0, 1, 0x0, 32, 0, 1, .w1s, false, 0, .warm⟩
  | .GORE_CLASS_NS_COUNT => ⟨.GORE, 0x3100, 3, 0x8, 1, 0x0, 64, 0, 64, .ro, false, 0, .warm⟩
  | .GORE_CTX_CNT_COUNT => ⟨.GORE, 0x8000, 64, 0x20, 4, 0x8, 64, 0, 64, .ro, false, 0, .ctx⟩
  | .GORE_CTX_CNT_CLR_CTX => ⟨.GORE, 0x8800, 1, 0x0, 1, 0x0, 64, 0, 64, .w1s, false, 0, .warm⟩
  | .GORE_ATTN_CFG_KICK_LIMIT_MS => ⟨.GORE, 0x50000, 1, 0x0, 1, 0x0, 32, 0, 16, .rw, true, 1000, .soft⟩
  | .GORE_BRIDLE_MIB => ⟨.GORE, 0x50100, 64, 0x8, 1, 0x0, 32, 0, 14, .rw, true, 128, .warm⟩
  | .GORE_BRIDLE_EFF_MIB => ⟨.GORE, 0x50100, 64, 0x8, 1, 0x0, 32, 14, 14, .ro, false, 0, .warm⟩
  | .GORE_SHAPE_A_DECLARED => ⟨.GORE, 0x51000, 64, 0x10, 1, 0x0, 64, 0, 1, .ro, false, 0, .warm⟩
  | .GORE_SHAPE_A_OWNER => ⟨.GORE, 0x51000, 64, 0x10, 1, 0x0, 64, 1, 6, .ro, false, 0, .warm⟩
  | .GORE_SHAPE_A_LATENT => ⟨.GORE, 0x51000, 64, 0x10, 1, 0x0, 64, 7, 1, .ro, false, 0, .warm⟩
  | .GORE_SHAPE_A_LAYERS => ⟨.GORE, 0x51000, 64, 0x10, 1, 0x0, 64, 8, 9, .ro, false, 0, .warm⟩
  | .GORE_SHAPE_A_QHEADS => ⟨.GORE, 0x51000, 64, 0x10, 1, 0x0, 64, 17, 9, .ro, false, 0, .warm⟩
  | .GORE_SHAPE_A_KVHEADS => ⟨.GORE, 0x51000, 64, 0x10, 1, 0x0, 64, 26, 7, .ro, false, 0, .warm⟩
  | .GORE_SHAPE_A_DK => ⟨.GORE, 0x51000, 64, 0x10, 1, 0x0, 64, 33, 11, .ro, false, 0, .warm⟩
  | .GORE_SHAPE_A_DV => ⟨.GORE, 0x51000, 64, 0x10, 1, 0x0, 64, 44, 11, .ro, false, 0, .warm⟩
  | .GORE_SHAPE_A_SINKS => ⟨.GORE, 0x51000, 64, 0x10, 1, 0x0, 64, 55, 5, .ro, false, 0, .warm⟩
  | .GORE_SHAPE_B_SESSIONS => ⟨.GORE, 0x51008, 64, 0x10, 1, 0x0, 64, 0, 23, .ro, false, 0, .warm⟩
  | .GORE_SHAPE_B_KV_BYTES => ⟨.GORE, 0x51008, 64, 0x10, 1, 0x0, 64, 32, 32, .ro, false, 0, .warm⟩
  | .GORE_ATTN_CNT_COUNT => ⟨.GORE, 0x52000, 12, 0x8, 1, 0x0, 64, 0, 64, .ro, false, 0, .warm⟩
  | .GORE_ATTN_CNT_CLR_CLR => ⟨.GORE, 0x52080, 1, 0x0, 1, 0x0, 32, 0, 1, .w1s, false, 0, .warm⟩
  | .HTI_W_BRKICK_STEP_ID => ⟨.HTIW, 0x4000, 64, 0x0, 1, 0x0, 32, 0, 16, .wo, false, 0, .ctx⟩
  | .HTI_W_BRKICK_LAYER => ⟨.HTIW, 0x4000, 64, 0x0, 1, 0x0, 32, 16, 9, .wo, false, 0, .ctx⟩
  | .HTI_W_BRKICK_MBZ => ⟨.HTIW, 0x4000, 64, 0x0, 1, 0x0, 32, 25, 7, .wo, false, 0, .ctx⟩
  | .HTI_W_BRSTS_STEP_ID => ⟨.HTIW, 0x4008, 64, 0x0, 1, 0x0, 64, 0, 16, .ro, false, 0, .ctx⟩
  | .HTI_W_BRSTS_LAYER => ⟨.HTIW, 0x4008, 64, 0x0, 1, 0x0, 64, 16, 9, .ro, false, 0, .ctx⟩
  | .HTI_W_BRSTS_REASON => ⟨.HTIW, 0x4008, 64, 0x0, 1, 0x0, 64, 25, 2, .ro, false, 0, .ctx⟩
  | .HTI_W_BRSTS_ERRORS => ⟨.HTIW, 0x4008, 64, 0x0, 1, 0x0, 64, 32, 16, .ro, false, 0, .ctx⟩
  | .HTI_W_BRSTS_VALID => ⟨.HTIW, 0x4008, 64, 0x0, 1, 0x0, 64, 63, 1, .w1c, false, 0, .ctx⟩
  | .TXT_CFG_T1_MIB => ⟨.TXT, 0x0, 1, 0x0, 1, 0x0, 32, 0, 10, .rw, true, 512, .warm⟩
  | .TXT_LANES_EN => ⟨.TXT, 0x8, 1, 0x0, 1, 0x0, 32, 0, 16, .rw, true, 65535, .soft⟩
  | .TXT_LANES_FENCED => ⟨.TXT, 0x8, 1, 0x0, 1, 0x0, 32, 16, 16, .ro, false, 0, .warm⟩
  | .TXT_SLOT_A_LOADED => ⟨.TXT, 0x100, 32, 0x10, 1, 0x0, 64, 0, 1, .ro, false, 0, .warm⟩
  | .TXT_SLOT_A_OWNER => ⟨.TXT, 0x100, 32, 0x10, 1, 0x0, 64, 1, 6, .ro, false, 0, .warm⟩
  | .TXT_SLOT_A_MODEL => ⟨.TXT, 0x100, 32, 0x10, 1, 0x0, 64, 7, 2, .ro, false, 0, .warm⟩
  | .TXT_SLOT_A_INVALID => ⟨.TXT, 0x100, 32, 0x10, 1, 0x0, 64, 9, 1, .ro, false, 0, .warm⟩
  | .TXT_SLOT_A_TOKENS => ⟨.TXT, 0x100, 32, 0x10, 1, 0x0, 64, 10, 20, .ro, false, 0, .warm⟩
  | .TXT_SLOT_A_UNICODE => ⟨.TXT, 0x100, 32, 0x10, 1, 0x0, 64, 30, 24, .ro, false, 0, .warm⟩
  | .TXT_SLOT_B_BYTES => ⟨.TXT, 0x108, 32, 0x10, 1, 0x0, 64, 0, 32, .ro, false, 0, .warm⟩
  | .TXT_SLOT_B_USERS => ⟨.TXT, 0x108, 32, 0x10, 1, 0x0, 64, 32, 16, .ro, false, 0, .warm⟩
  | .TXT_CTX_MAX_MIB => ⟨.TXT, 0x800, 64, 0x8, 1, 0x0, 32, 0, 12, .rw, true, 256, .warm⟩
  | .TXT_CNT_COUNT => ⟨.TXT, 0x1000, 16, 0x8, 1, 0x0, 64, 0, 64, .ro, false, 0, .warm⟩
  | .TXT_CNT_CLR_CLR => ⟨.TXT, 0x1080, 1, 0x0, 1, 0x0, 32, 0, 1, .w1s, false, 0, .warm⟩
  | .DEC_CFG_GRAM_MIB => ⟨.DEC, 0x0, 1, 0x0, 1, 0x0, 32, 0, 13, .rw, true, 2048, .warm⟩
  | .DEC_LANES_EN => ⟨.DEC, 0x8, 1, 0x0, 1, 0x0, 64, 0, 32, .rw, true, 4294967295, .soft⟩
  | .DEC_LANES_FENCED => ⟨.DEC, 0x8, 1, 0x0, 1, 0x0, 64, 32, 32, .ro, false, 0, .warm⟩
  | .DEC_GAUGE_STREAMS => ⟨.DEC, 0x10, 1, 0x0, 1, 0x0, 64, 0, 17, .ro, false, 0, .warm⟩
  | .DEC_GAUGE_ENDED => ⟨.DEC, 0x10, 1, 0x0, 1, 0x0, 64, 17, 17, .ro, false, 0, .warm⟩
  | .DEC_GAUGE_BACKLOGGED => ⟨.DEC, 0x10, 1, 0x0, 1, 0x0, 64, 34, 17, .ro, false, 0, .warm⟩
  | .DEC_GRAM_A_LOADED => ⟨.DEC, 0x100, 64, 0x10, 1, 0x0, 64, 0, 1, .ro, false, 0, .warm⟩
  | .DEC_GRAM_A_OWNER => ⟨.DEC, 0x100, 64, 0x10, 1, 0x0, 64, 1, 6, .ro, false, 0, .warm⟩
  | .DEC_GRAM_A_TOKENS => ⟨.DEC, 0x100, 64, 0x10, 1, 0x0, 64, 7, 20, .ro, false, 0, .warm⟩
  | .DEC_GRAM_A_STATES => ⟨.DEC, 0x100, 64, 0x10, 1, 0x0, 64, 27, 21, .ro, false, 0, .warm⟩
  | .DEC_GRAM_B_BYTES => ⟨.DEC, 0x108, 64, 0x10, 1, 0x0, 64, 0, 32, .ro, false, 0, .warm⟩
  | .DEC_GRAM_B_USERS => ⟨.DEC, 0x108, 64, 0x10, 1, 0x0, 64, 32, 17, .ro, false, 0, .warm⟩
  | .DEC_CTX_MAX_STREAMS => ⟨.DEC, 0x800, 64, 0x8, 1, 0x0, 32, 0, 17, .rw, true, 65536, .warm⟩
  | .DEC_CNT_COUNT => ⟨.DEC, 0x1000, 20, 0x8, 1, 0x0, 64, 0, 64, .ro, false, 0, .warm⟩
  | .DEC_CNT_CLR_CLR => ⟨.DEC, 0x1100, 1, 0x0, 1, 0x0, 32, 0, 1, .w1s, false, 0, .warm⟩
  | .RCL_CFG_COMPACT_PCT => ⟨.RCL, 0x0, 1, 0x0, 1, 0x0, 32, 0, 7, .rw, true, 25, .soft⟩
  | .RCL_GAUGE_ENTRIES => ⟨.RCL, 0x8, 1, 0x0, 1, 0x0, 64, 0, 33, .ro, false, 0, .warm⟩
  | .RCL_GAUGE_INDEXES => ⟨.RCL, 0x8, 1, 0x0, 1, 0x0, 64, 33, 11, .ro, false, 0, .warm⟩
  | .RCL_GAUGE_HELPERS => ⟨.RCL, 0x8, 1, 0x0, 1, 0x0, 64, 44, 5, .ro, false, 0, .warm⟩
  | .RCL_CTX_MAX_ENTRIES => ⟨.RCL, 0x100, 64, 0x8, 1, 0x0, 64, 0, 33, .rw, true, 4294967296, .warm⟩
  | .RCL_IDX_A_LIVE => ⟨.RCL, 0x1000, 1024, 0x10, 1, 0x0, 64, 0, 1, .ro, false, 0, .warm⟩
  | .RCL_IDX_A_READY => ⟨.RCL, 0x1000, 1024, 0x10, 1, 0x0, 64, 1, 1, .ro, false, 0, .warm⟩
  | .RCL_IDX_A_FAILED => ⟨.RCL, 0x1000, 1024, 0x10, 1, 0x0, 64, 2, 1, .ro, false, 0, .warm⟩
  | .RCL_IDX_A_LOSS => ⟨.RCL, 0x1000, 1024, 0x10, 1, 0x0, 64, 3, 1, .w1c, false, 0, .warm⟩
  | .RCL_IDX_A_OWNER => ⟨.RCL, 0x1000, 1024, 0x10, 1, 0x0, 64, 4, 6, .ro, false, 0, .warm⟩
  | .RCL_IDX_A_DIM => ⟨.RCL, 0x1000, 1024, 0x10, 1, 0x0, 64, 10, 12, .ro, false, 0, .warm⟩
  | .RCL_IDX_A_M => ⟨.RCL, 0x1000, 1024, 0x10, 1, 0x0, 64, 22, 2, .ro, false, 0, .warm⟩
  | .RCL_IDX_A_METRIC => ⟨.RCL, 0x1000, 1024, 0x10, 1, 0x0, 64, 24, 1, .ro, false, 0, .warm⟩
  | .RCL_IDX_A_TAGS => ⟨.RCL, 0x1000, 1024, 0x10, 1, 0x0, 64, 25, 4, .ro, false, 0, .warm⟩
  | .RCL_IDX_A_REFINE => ⟨.RCL, 0x1000, 1024, 0x10, 1, 0x0, 64, 29, 1, .ro, false, 0, .warm⟩
  | .RCL_IDX_A_NLIST => ⟨.RCL, 0x1000, 1024, 0x10, 1, 0x0, 64, 30, 21, .ro, false, 0, .warm⟩
  | .RCL_IDX_B_ENTRIES => ⟨.RCL, 0x1008, 1024, 0x10, 1, 0x0, 64, 0, 33, .ro, false, 0, .warm⟩
  | .RCL_IDX_SEQ_CSEQ => ⟨.RCL, 0x5000, 1024, 0x8, 1, 0x0, 64, 0, 64, .ro, false, 0, .warm⟩
  | .RCL_HELPER_LOADED => ⟨.RCL, 0x7000, 16, 0x8, 1, 0x0, 64, 0, 1, .ro, false, 0, .warm⟩
  | .RCL_HELPER_OWNER => ⟨.RCL, 0x7000, 16, 0x8, 1, 0x0, 64, 1, 6, .ro, false, 0, .warm⟩
  | .RCL_HELPER_IN_T2 => ⟨.RCL, 0x7000, 16, 0x8, 1, 0x0, 64, 7, 1, .ro, false, 0, .warm⟩
  | .RCL_HELPER_PARAMS => ⟨.RCL, 0x7000, 16, 0x8, 1, 0x0, 64, 8, 30, .ro, false, 0, .warm⟩
  | .RCL_CNT_COUNT => ⟨.RCL, 0x8000, 16, 0x8, 1, 0x0, 64, 0, 64, .ro, false, 0, .warm⟩
  | .RCL_CNT_CLR_CLR => ⟨.RCL, 0x8080, 1, 0x0, 1, 0x0, 32, 0, 1, .w1s, false, 0, .warm⟩
  | .RCL_CTX_CNT_COUNT => ⟨.RCL, 0x9000, 64, 0x20, 4, 0x8, 64, 0, 64, .ro, false, 0, .ctx⟩
  | .RCL_CTX_CNT_CLR_CTX => ⟨.RCL, 0x9800, 1, 0x0, 1, 0x0, 64, 0, 64, .w1s, false, 0, .warm⟩
  | .POOL_CFG_STAGE_LIMIT_MS => ⟨.POOL, 0x0, 1, 0x0, 1, 0x0, 32, 0, 16, .rw, true, 5000, .soft⟩
  | .POOL_PORT_CTL_MODE => ⟨.POOL, 0x100, 4, 0x10, 1, 0x0, 32, 0, 2, .rw, true, 1, .warm⟩
  | .POOL_PORT_CTL_SPEED_MAX => ⟨.POOL, 0x100, 4, 0x10, 1, 0x0, 32, 2, 2, .rw, true, 0, .warm⟩
  | .POOL_PORT_CTL_LDS => ⟨.POOL, 0x100, 4, 0x10, 1, 0x0, 32, 4, 5, .rw, true, 16, .warm⟩
  | .POOL_PORT_STS_UP => ⟨.POOL, 0x108, 4, 0x10, 1, 0x0, 32, 0, 1, .ro, false, 0, .warm⟩
  | .POOL_PORT_STS_MODE => ⟨.POOL, 0x108, 4, 0x10, 1, 0x0, 32, 1, 2, .ro, false, 0, .warm⟩
  | .POOL_PORT_STS_RATE => ⟨.POOL, 0x108, 4, 0x10, 1, 0x0, 32, 3, 3, .ro, false, 0, .warm⟩
  | .POOL_PORT_STS_WIDTH => ⟨.POOL, 0x108, 4, 0x10, 1, 0x0, 32, 6, 4, .ro, false, 0, .warm⟩
  | .POOL_PORT_STS_VIRAL_IN => ⟨.POOL, 0x108, 4, 0x10, 1, 0x0, 32, 10, 1, .w1c, false, 0, .warm⟩
  | .POOL_PORT_STS_VIRAL_OUT => ⟨.POOL, 0x108, 4, 0x10, 1, 0x0, 32, 11, 1, .ro, false, 0, .warm⟩
  | .POOL_PORT_STS_BOUND => ⟨.POOL, 0x108, 4, 0x10, 1, 0x0, 32, 12, 16, .ro, false, 0, .warm⟩
  | .POOL_LEND_T1_GIB => ⟨.POOL, 0x200, 1, 0x0, 1, 0x0, 64, 0, 9, .ro, true, 0, .warm⟩
  | .POOL_LEND_T2_GIB => ⟨.POOL, 0x200, 1, 0x0, 1, 0x0, 64, 9, 13, .ro, true, 0, .warm⟩
  | .POOL_LEND_REGION_GIB => ⟨.POOL, 0x200, 1, 0x0, 1, 0x0, 64, 22, 8, .ro, true, 0, .warm⟩
  | .POOL_LEND_USE_T1_GRANTED => ⟨.POOL, 0x208, 1, 0x0, 1, 0x0, 64, 0, 9, .ro, false, 0, .warm⟩
  | .POOL_LEND_USE_T2_GRANTED => ⟨.POOL, 0x208, 1, 0x0, 1, 0x0, 64, 9, 13, .ro, false, 0, .warm⟩
  | .POOL_LEND_USE_REGION_MIB => ⟨.POOL, 0x208, 1, 0x0, 1, 0x0, 64, 22, 18, .ro, false, 0, .warm⟩
  | .POOL_OBJ_WINDOW => ⟨.POOL, 0x400, 32, 0x8, 1, 0x0, 32, 0, 1, .ro, false, 0, .warm⟩
  | .POOL_OBJ_HOME => ⟨.POOL, 0x400, 32, 0x8, 1, 0x0, 32, 1, 10, .ro, false, 0, .warm⟩
  | .POOL_OBJ_LENDER => ⟨.POOL, 0x400, 32, 0x8, 1, 0x0, 32, 11, 1, .ro, false, 0, .warm⟩
  | .POOL_OBJ_LENDER_ID => ⟨.POOL, 0x400, 32, 0x8, 1, 0x0, 32, 12, 10, .ro, false, 0, .warm⟩
  | .POOL_REGION_A_LIVE => ⟨.POOL, 0x10000, 4096, 0x10, 1, 0x0, 64, 0, 1, .ro, false, 0, .warm⟩
  | .POOL_REGION_A_OWNER => ⟨.POOL, 0x10000, 4096, 0x10, 1, 0x0, 64, 1, 6, .ro, false, 0, .warm⟩
  | .POOL_REGION_A_HELD => ⟨.POOL, 0x10000, 4096, 0x10, 1, 0x0, 64, 7, 4, .ro, false, 0, .warm⟩
  | .POOL_REGION_A_KIB => ⟨.POOL, 0x10000, 4096, 0x10, 1, 0x0, 64, 11, 27, .ro, false, 0, .warm⟩
  | .POOL_REGION_B_GEN => ⟨.POOL, 0x10008, 4096, 0x10, 1, 0x0, 64, 0, 32, .ro, false, 0, .warm⟩
  | .POOL_REGION_B_HOLDS => ⟨.POOL, 0x10008, 4096, 0x10, 1, 0x0, 64, 32, 16, .ro, false, 0, .warm⟩
  | .POOL_CNT_COUNT => ⟨.POOL, 0x20000, 14, 0x8, 1, 0x0, 64, 0, 64, .ro, false, 0, .warm⟩
  | .POOL_CNT_CLR_CLR => ⟨.POOL, 0x20080, 1, 0x0, 1, 0x0, 32, 0, 1, .w1s, false, 0, .warm⟩
  | .RING_CFG_XPOS => ⟨.RING, 0x0, 1, 0x0, 1, 0x0, 64, 0, 5, .rw, true, 0, .warm⟩
  | .RING_CFG_YPOS => ⟨.RING, 0x0, 1, 0x0, 1, 0x0, 64, 5, 5, .rw, true, 0, .warm⟩
  | .RING_CFG_XDIM => ⟨.RING, 0x0, 1, 0x0, 1, 0x0, 64, 10, 5, .rw, true, 0, .warm⟩
  | .RING_CFG_YDIM => ⟨.RING, 0x0, 1, 0x0, 1, 0x0, 64, 15, 5, .rw, true, 0, .warm⟩
  | .RING_CFG_FABRIC_ENC => ⟨.RING, 0x0, 1, 0x0, 1, 0x0, 64, 20, 1, .rw, true, 1, .warm⟩
  | .RING_CFG_GAP_US => ⟨.RING, 0x0, 1, 0x0, 1, 0x0, 64, 21, 11, .rw, true, 100, .warm⟩
  | .RING_CFG_HOLD_MS => ⟨.RING, 0x0, 1, 0x0, 1, 0x0, 64, 32, 8, .rw, true, 20, .warm⟩
  | .RING_MAP_CFG_HB_MS => ⟨.RING, 0x8, 1, 0x0, 1, 0x0, 64, 0, 8, .rw, true, 5, .warm⟩
  | .RING_MAP_CFG_ISOLATE_MS => ⟨.RING, 0x8, 1, 0x0, 1, 0x0, 64, 8, 8, .rw, true, 25, .warm⟩
  | .RING_MAP_CFG_LOSS_MS => ⟨.RING, 0x8, 1, 0x0, 1, 0x0, 64, 16, 8, .rw, true, 50, .warm⟩
  | .RING_MAP_CFG_FORM_S => ⟨.RING, 0x8, 1, 0x0, 1, 0x0, 64, 24, 4, .rw, true, 10, .warm⟩
  | .RING_MAP_CFG_EXPECT => ⟨.RING, 0x8, 1, 0x0, 1, 0x0, 64, 32, 11, .rw, true, 1, .warm⟩
  | .RING_STS_MEMBER => ⟨.RING, 0x10, 1, 0x0, 1, 0x0, 32, 0, 3, .ro, false, 0, .warm⟩
  | .RING_STS_LEADER => ⟨.RING, 0x10, 1, 0x0, 1, 0x0, 32, 3, 10, .ro, false, 0, .warm⟩
  | .RING_STS_IS_LEADER => ⟨.RING, 0x10, 1, 0x0, 1, 0x0, 32, 13, 1, .ro, false, 0, .warm⟩
  | .RING_STS_CFG_BAD => ⟨.RING, 0x10, 1, 0x0, 1, 0x0, 32, 14, 1, .ro, false, 0, .warm⟩
  | .RING_STS_ID => ⟨.RING, 0x10, 1, 0x0, 1, 0x0, 32, 15, 10, .ro, false, 0, .warm⟩
  | .RING_MAP_EPOCH_EPOCH => ⟨.RING, 0x18, 1, 0x0, 1, 0x0, 64, 0, 64, .ro, false, 0, .warm⟩
  | .RING_PORT_CTL_EN => ⟨.RING, 0x100, 8, 0x10, 1, 0x0, 32, 0, 1, .rw, true, 1, .warm⟩
  | .RING_PORT_STS_PRESENT => ⟨.RING, 0x108, 8, 0x10, 1, 0x0, 32, 0, 1, .ro, false, 0, .warm⟩
  | .RING_PORT_STS_UP => ⟨.RING, 0x108, 8, 0x10, 1, 0x0, 32, 1, 1, .ro, false, 0, .warm⟩
  | .RING_PORT_STS_WIDTH => ⟨.RING, 0x108, 8, 0x10, 1, 0x0, 32, 2, 4, .ro, false, 0, .warm⟩
  | .RING_PORT_STS_MISCABLED => ⟨.RING, 0x108, 8, 0x10, 1, 0x0, 32, 6, 1, .ro, false, 0, .warm⟩
  | .RING_PORT_STS_LANE_FAIL => ⟨.RING, 0x108, 8, 0x10, 1, 0x0, 32, 7, 8, .ro, false, 0, .warm⟩
  | .RING_PORT_STS_PEER => ⟨.RING, 0x108, 8, 0x10, 1, 0x0, 32, 15, 10, .ro, false, 0, .warm⟩
  | .RING_VC_BUF_KIB => ⟨.RING, 0x200, 8, 0x8, 1, 0x0, 32, 0, 11, .rw, true, 0, .warm⟩
  | .RING_BYP_STATE => ⟨.RING, 0x300, 1, 0x0, 1, 0x0, 32, 0, 8, .ro, false, 0, .por⟩
  | .RING_BYP_FORCE_CLOSE => ⟨.RING, 0x300, 1, 0x0, 1, 0x0, 32, 8, 4, .rw, false, 0, .por⟩
  | .RING_EVAC_BTN_EN => ⟨.RING, 0x310, 1, 0x0, 1, 0x0, 32, 0, 1, .rw, true, 1, .warm⟩
  | .RING_EVAC_MODE => ⟨.RING, 0x310, 1, 0x0, 1, 0x0, 32, 1, 1, .rw, true, 0, .warm⟩
  | .RING_EVAC_LIMIT_S => ⟨.RING, 0x310, 1, 0x0, 1, 0x0, 32, 2, 12, .rw, true, 120, .warm⟩
  | .RING_EVAC_STS_STEP => ⟨.RING, 0x318, 1, 0x0, 1, 0x0, 64, 0, 3, .ro, false, 0, .warm⟩
  | .RING_EVAC_STS_LEFT_TO_GO => ⟨.RING, 0x318, 1, 0x0, 1, 0x0, 64, 3, 20, .ro, false, 0, .warm⟩
  | .RING_LED_IDENT => ⟨.RING, 0x320, 1, 0x0, 1, 0x0, 32, 0, 1, .rw, false, 0, .por⟩
  | .RING_LED_SERVICE => ⟨.RING, 0x320, 1, 0x0, 1, 0x0, 32, 1, 2, .ro, false, 0, .por⟩
  | .RING_LED_FAULT => ⟨.RING, 0x320, 1, 0x0, 1, 0x0, 32, 3, 2, .ro, false, 0, .por⟩
  | .RING_CNT_COUNT => ⟨.RING, 0x1000, 16, 0x8, 1, 0x0, 64, 0, 64, .ro, false, 0, .warm⟩
  | .RING_CNT_CLR_CLR => ⟨.RING, 0x1100, 1, 0x0, 1, 0x0, 32, 0, 1, .w1s, false, 0, .warm⟩
  | .RING_PORT_CNT_COUNT => ⟨.RING, 0x1200, 8, 0x40, 8, 0x8, 64, 0, 64, .ro, false, 0, .warm⟩
  | .RING_MAP_STATE => ⟨.RING, 0x10000, 1024, 0x8, 1, 0x0, 64, 0, 3, .ro, false, 0, .warm⟩
  | .RING_MAP_BOOTGEN => ⟨.RING, 0x10000, 1024, 0x8, 1, 0x0, 64, 3, 6, .ro, false, 0, .warm⟩
  | .RING_MAP_PARTNER => ⟨.RING, 0x10000, 1024, 0x8, 1, 0x0, 64, 9, 10, .ro, false, 0, .warm⟩
  | .RING_MAP_PARTNER_VALID => ⟨.RING, 0x10000, 1024, 0x8, 1, 0x0, 64, 19, 1, .ro, false, 0, .warm⟩
  | .RING_MAP_LINKS => ⟨.RING, 0x10000, 1024, 0x8, 1, 0x0, 64, 20, 8, .ro, false, 0, .warm⟩
  | .RING_INHERIT_LOST_ID => ⟨.RING, 0x20000, 8192, 0x4, 1, 0x0, 32, 0, 10, .ro, false, 0, .warm⟩
  | .RING_INHERIT_BOOTGEN => ⟨.RING, 0x20000, 8192, 0x4, 1, 0x0, 32, 10, 6, .ro, false, 0, .warm⟩
  | .RING_INHERIT_INHERITOR => ⟨.RING, 0x20000, 8192, 0x4, 1, 0x0, 32, 16, 10, .ro, false, 0, .warm⟩
  | .RING_INHERIT_VALID => ⟨.RING, 0x20000, 8192, 0x4, 1, 0x0, 32, 26, 1, .ro, false, 0, .warm⟩
  | .SHP_PORT_OVH => ⟨.SHP, 0x0, 8, 0x8, 1, 0x0, 32, 0, 8, .rw, true, 20, .warm⟩
  | .SHP_PORT_PRIV_PCT => ⟨.SHP, 0x0, 8, 0x8, 1, 0x0, 32, 8, 7, .rw, true, 50, .warm⟩
  | .SHP_PORT_PRIV_BURST_KIB => ⟨.SHP, 0x0, 8, 0x8, 1, 0x0, 32, 15, 13, .rw, true, 256, .warm⟩
  | .SHP_VC_PRIV => ⟨.SHP, 0x40, 8, 0x8, 1, 0x0, 32, 0, 1, .rw, true, 0, .warm⟩
  | .SHP_VC_WEIGHT => ⟨.SHP, 0x40, 8, 0x8, 1, 0x0, 32, 1, 8, .rw, true, 1, .warm⟩
  | .SHP_VC_RED_ACT => ⟨.SHP, 0x40, 8, 0x8, 1, 0x0, 32, 9, 2, .rw, true, 0, .warm⟩
  | .SHP_VC_DEFER_US => ⟨.SHP, 0x40, 8, 0x8, 1, 0x0, 32, 11, 16, .rw, true, 1000, .warm⟩
  | .SHP_SAMPLE_TICKS => ⟨.SHP, 0x80, 1, 0x0, 1, 0x0, 32, 0, 16, .rw, true, 4, .warm⟩
  | .SHP_SAMPLE_EN => ⟨.SHP, 0x80, 1, 0x0, 1, 0x0, 32, 16, 1, .rw, true, 1, .warm⟩
  | .SHP_HIST_CLR_CLR => ⟨.SHP, 0x88, 1, 0x0, 1, 0x0, 32, 0, 1, .w1s, false, 0, .warm⟩
  | .SHP_CTXQ_RATE => ⟨.SHP, 0x1000, 64, 0x40, 8, 0x8, 64, 0, 17, .rw, true, 0, .warm⟩
  | .SHP_CTXQ_BURST_KIB => ⟨.SHP, 0x1000, 64, 0x40, 8, 0x8, 64, 17, 14, .rw, true, 64, .warm⟩
  | .SHP_CTXQ_WEIGHT => ⟨.SHP, 0x1000, 64, 0x40, 8, 0x8, 64, 31, 8, .rw, true, 1, .warm⟩
  | .SHP_HPOL_A_MODE => ⟨.SHP, 0x2000, 64, 0x10, 1, 0x0, 64, 0, 2, .rw, true, 0, .warm⟩
  | .SHP_HPOL_A_CIR => ⟨.SHP, 0x2000, 64, 0x10, 1, 0x0, 64, 2, 24, .rw, true, 1000000, .warm⟩
  | .SHP_HPOL_A_CBS => ⟨.SHP, 0x2000, 64, 0x10, 1, 0x0, 64, 26, 16, .rw, true, 1024, .warm⟩
  | .SHP_HPOL_B_RATE2 => ⟨.SHP, 0x2008, 64, 0x10, 1, 0x0, 64, 0, 24, .rw, true, 0, .warm⟩
  | .SHP_HPOL_B_BURST2 => ⟨.SHP, 0x2008, 64, 0x10, 1, 0x0, 64, 24, 16, .rw, true, 0, .warm⟩
  | .SHP_RPOL_MODE => ⟨.SHP, 0x3000, 8, 0x200, 64, 0x8, 64, 0, 2, .rw, true, 0, .warm⟩
  | .SHP_RPOL_CIR => ⟨.SHP, 0x3000, 8, 0x200, 64, 0x8, 64, 2, 17, .rw, true, 1000, .warm⟩
  | .SHP_RPOL_CBS => ⟨.SHP, 0x3000, 8, 0x200, 64, 0x8, 64, 19, 13, .rw, true, 1024, .warm⟩
  | .SHP_RPOL_RATE2 => ⟨.SHP, 0x3000, 8, 0x200, 64, 0x8, 64, 32, 17, .rw, true, 0, .warm⟩
  | .SHP_RPOL_BURST2 => ⟨.SHP, 0x3000, 8, 0x200, 64, 0x8, 64, 49, 13, .rw, true, 0, .warm⟩
  | .SHP_CNT_COUNT => ⟨.SHP, 0x4000, 10, 0x8, 1, 0x0, 64, 0, 64, .ro, false, 0, .warm⟩
  | .SHP_CNT_CLR_CLR => ⟨.SHP, 0x4080, 1, 0x0, 1, 0x0, 32, 0, 1, .w1s, false, 0, .warm⟩
  | .SHP_CTX_CNT_COUNT => ⟨.SHP, 0x5000, 64, 0x40, 8, 0x8, 64, 0, 64, .ro, false, 0, .ctx⟩
  | .SHP_CTX_CNT_CLR_CTX => ⟨.SHP, 0x6000, 1, 0x0, 1, 0x0, 64, 0, 64, .w1s, false, 0, .warm⟩
  | .SHP_HIST_DEPTH_COUNT => ⟨.SHP, 0x60000, 4160, 0x90, 16, 0x4, 32, 0, 32, .ro, false, 0, .warm⟩
  | .SHP_HIST_DELAY_COUNT => ⟨.SHP, 0x60040, 4160, 0x90, 16, 0x4, 32, 0, 32, .ro, false, 0, .warm⟩
  | .SHP_HIST_MAX_MAX_DEPTH => ⟨.SHP, 0x60080, 4160, 0x90, 1, 0x0, 64, 0, 32, .ro, false, 0, .warm⟩
  | .SHP_HIST_MAX_MAX_DELAY => ⟨.SHP, 0x60080, 4160, 0x90, 1, 0x0, 64, 32, 32, .ro, false, 0, .warm⟩
  | .CTL_ADM_CFG_AUTO_SHIFT => ⟨.CTL, 0x5000, 1, 0x0, 1, 0x0, 64, 0, 1, .rw, true, 0, .soft⟩
  | .CTL_ADM_CFG_SHIFT_PCT => ⟨.CTL, 0x5000, 1, 0x0, 1, 0x0, 64, 1, 7, .rw, true, 10, .soft⟩
  | .CTL_ADM_CFG_MAX_SHIFT_PCT => ⟨.CTL, 0x5000, 1, 0x0, 1, 0x0, 64, 8, 7, .rw, true, 30, .soft⟩
  | .CTL_ADM_CFG_MIN_FLOOR => ⟨.CTL, 0x5000, 1, 0x0, 1, 0x0, 64, 16, 4, .rw, true, 5, .soft⟩
  | .CTL_ADM_CFG_RELAX_MS => ⟨.CTL, 0x5000, 1, 0x0, 1, 0x0, 64, 20, 12, .rw, true, 100, .soft⟩
  | .CTL_ADM_CFG_BACKOFF_MS => ⟨.CTL, 0x5000, 1, 0x0, 1, 0x0, 64, 32, 14, .rw, true, 50, .soft⟩
  | .CTL_ADM_CFG_SHIFT_EVENT_MS => ⟨.CTL, 0x5000, 1, 0x0, 1, 0x0, 64, 46, 16, .rw, true, 100, .soft⟩
  | .CTL_ADM_LIM_DESC_MIN => ⟨.CTL, 0x5008, 1, 0x0, 1, 0x0, 64, 0, 23, .rw, true, 65536, .soft⟩
  | .CTL_ADM_LIM_ALOFT_HEAD => ⟨.CTL, 0x5008, 1, 0x0, 1, 0x0, 64, 23, 17, .rw, true, 1024, .soft⟩
  | .CTL_ADM_LIM_T1_PCT => ⟨.CTL, 0x5008, 1, 0x0, 1, 0x0, 64, 40, 7, .rw, true, 98, .soft⟩
  | .CTL_ADM_LIM_ATTN_WAIT_US => ⟨.CTL, 0x5008, 1, 0x0, 1, 0x0, 64, 48, 16, .rw, true, 500, .soft⟩
  | .CTL_ADM_STS_SHORT => ⟨.CTL, 0x5010, 1, 0x0, 1, 0x0, 64, 0, 1, .ro, false, 0, .soft⟩
  | .CTL_ADM_STS_CAUSE => ⟨.CTL, 0x5010, 1, 0x0, 1, 0x0, 64, 1, 4, .ro, false, 0, .soft⟩
  | .CTL_ADM_STS_SHIFT => ⟨.CTL, 0x5010, 1, 0x0, 1, 0x0, 64, 5, 7, .ro, false, 0, .soft⟩
  | .CTL_ADM_STS_EFF_ATTN => ⟨.CTL, 0x5010, 1, 0x0, 1, 0x0, 64, 12, 7, .ro, true, 50, .soft⟩
  | .CTL_ADM_STS_EFF_ASSIST => ⟨.CTL, 0x5010, 1, 0x0, 1, 0x0, 64, 19, 7, .ro, true, 20, .soft⟩
  | .CTL_ADM_STS_EFF_RECALL => ⟨.CTL, 0x5010, 1, 0x0, 1, 0x0, 64, 26, 7, .ro, true, 30, .soft⟩
  | .CTL_ADM_CNT_COUNT => ⟨.CTL, 0x5100, 10, 0x8, 1, 0x0, 64, 0, 64, .ro, false, 0, .warm⟩
  | .CTL_ADM_CNT_CLR_CLR => ⟨.CTL, 0x5180, 1, 0x0, 1, 0x0, 32, 0, 1, .w1s, false, 0, .warm⟩
  | .MTR_CFG_CKPT_S => ⟨.MTR, 0x0, 1, 0x0, 1, 0x0, 32, 0, 8, .rw, true, 60, .warm⟩
  | .MTR_SEQ_NEXT => ⟨.MTR, 0x8, 1, 0x0, 1, 0x0, 64, 0, 64, .ro, false, 0, .none⟩
  | .MTR_ARCH_HELD => ⟨.MTR, 0x10, 1, 0x0, 1, 0x0, 32, 0, 12, .ro, false, 0, .none⟩
  | .MTR_ARCH_UNACKED => ⟨.MTR, 0x10, 1, 0x0, 1, 0x0, 32, 12, 12, .ro, false, 0, .none⟩
  | .MTR_COMP_TAG => ⟨.MTR, 0x100, 64, 0x8, 1, 0x0, 64, 0, 64, .rw, true, 0, .warm⟩
  | .MTR_COMP_STS_UNBOUND => ⟨.MTR, 0x400, 64, 0x8, 1, 0x0, 64, 0, 1, .ro, false, 0, .warm⟩
  | .MTR_COMP_STS_START => ⟨.MTR, 0x400, 64, 0x8, 1, 0x0, 64, 1, 48, .ro, false, 0, .warm⟩
  | .MTR_LIVE_COUNT => ⟨.MTR, 0x1000, 64, 0x80, 14, 0x8, 64, 0, 64, .ro, false, 0, .warm⟩
  | .MTR_CNT_COUNT => ⟨.MTR, 0x4000, 8, 0x8, 1, 0x0, 64, 0, 64, .ro, false, 0, .warm⟩
  | .MTR_CNT_CLR_CLR => ⟨.MTR, 0x4080, 1, 0x0, 1, 0x0, 32, 0, 1, .w1s, false, 0, .warm⟩
  | .SEC_ID_SERIAL => ⟨.SEC, 0x0, 1, 0x0, 1, 0x0, 64, 0, 64, .ro, false, 0, .none⟩
  | .SEC_BOOT_STS_COPY => ⟨.SEC, 0x8, 1, 0x0, 1, 0x0, 32, 0, 1, .ro, false, 0, .warm⟩
  | .SEC_BOOT_STS_RECOVERY => ⟨.SEC, 0x8, 1, 0x0, 1, 0x0, 32, 1, 1, .ro, false, 0, .warm⟩
  | .SEC_BOOT_STS_A_RESULT => ⟨.SEC, 0x8, 1, 0x0, 1, 0x0, 32, 2, 3, .ro, false, 0, .warm⟩
  | .SEC_BOOT_STS_B_RESULT => ⟨.SEC, 0x8, 1, 0x0, 1, 0x0, 32, 5, 3, .ro, false, 0, .warm⟩
  | .SEC_BOOT_STS_SVN_RUNNING => ⟨.SEC, 0x8, 1, 0x0, 1, 0x0, 32, 8, 8, .ro, false, 0, .warm⟩
  | .SEC_BOOT_STS_PATCH => ⟨.SEC, 0x8, 1, 0x0, 1, 0x0, 32, 16, 1, .ro, false, 0, .warm⟩
  | .SEC_SVN_COUNTER => ⟨.SEC, 0x10, 1, 0x0, 1, 0x0, 32, 0, 8, .nv, false, 0, .none⟩
  | .SEC_OWNER_ENROLLED => ⟨.SEC, 0x18, 1, 0x0, 1, 0x0, 32, 0, 1, .nv, false, 0, .none⟩
  | .SEC_OWNER_MANAGER => ⟨.SEC, 0x18, 1, 0x0, 1, 0x0, 32, 1, 1, .nv, false, 0, .none⟩
  | .SEC_CFG_PLAIN_KEYS => ⟨.SEC, 0x20, 1, 0x0, 1, 0x0, 32, 0, 1, .rw, true, 1, .warm⟩
  | .SEC_CFG_SPDM_MCTP => ⟨.SEC, 0x20, 1, 0x0, 1, 0x0, 32, 1, 1, .rw, true, 1, .warm⟩
  | .SEC_DEBUG_STATE => ⟨.SEC, 0x28, 1, 0x0, 1, 0x0, 32, 0, 1, .ro, false, 0, .warm⟩
  | .SEC_FABRIC_TX_SLOT => ⟨.SEC, 0x40, 1, 0x0, 1, 0x0, 32, 0, 1, .rw, true, 0, .warm⟩
  | .SEC_FABRIC_VALID0 => ⟨.SEC, 0x40, 1, 0x0, 1, 0x0, 32, 1, 1, .ro, false, 0, .none⟩
  | .SEC_FABRIC_VALID1 => ⟨.SEC, 0x40, 1, 0x0, 1, 0x0, 32, 2, 1, .ro, false, 0, .none⟩
  | .SEC_FABRIC_PERSIST0 => ⟨.SEC, 0x40, 1, 0x0, 1, 0x0, 32, 3, 1, .ro, false, 0, .none⟩
  | .SEC_FABRIC_PERSIST1 => ⟨.SEC, 0x40, 1, 0x0, 1, 0x0, 32, 4, 1, .ro, false, 0, .none⟩
  | .SEC_FABRIC_LEFT0 => ⟨.SEC, 0x40, 1, 0x0, 1, 0x0, 32, 5, 7, .ro, false, 0, .none⟩
  | .SEC_FABRIC_LEFT1 => ⟨.SEC, 0x40, 1, 0x0, 1, 0x0, 32, 12, 7, .ro, false, 0, .none⟩
  | .SEC_FABRIC_NO_KEY => ⟨.SEC, 0x40, 1, 0x0, 1, 0x0, 32, 19, 1, .ro, false, 0, .warm⟩
  | .SEC_FABRIC_ID_KEY_ID0 => ⟨.SEC, 0x48, 1, 0x0, 1, 0x0, 64, 0, 32, .ro, false, 0, .none⟩
  | .SEC_FABRIC_ID_KEY_ID1 => ⟨.SEC, 0x48, 1, 0x0, 1, 0x0, 64, 32, 32, .ro, false, 0, .none⟩
  | .SEC_IDE_LINK => ⟨.SEC, 0x100, 2, 0x10, 1, 0x0, 64, 0, 1, .ro, false, 0, .warm⟩
  | .SEC_IDE_SELECTIVE => ⟨.SEC, 0x100, 2, 0x10, 1, 0x0, 64, 1, 16, .ro, false, 0, .warm⟩
  | .SEC_CTX_ACTIVE => ⟨.SEC, 0x1000, 64, 0x8, 1, 0x0, 64, 0, 16, .ro, false, 0, .warm⟩
  | .SEC_CTX_RETIRING => ⟨.SEC, 0x1000, 64, 0x8, 1, 0x0, 64, 16, 16, .ro, false, 0, .warm⟩
  | .SEC_CTX_IMPORT => ⟨.SEC, 0x1000, 64, 0x8, 1, 0x0, 64, 32, 1, .ro, false, 0, .warm⟩
  | .SEC_CTX_STORAGE => ⟨.SEC, 0x1000, 64, 0x8, 1, 0x0, 64, 33, 1, .ro, false, 0, .warm⟩
  | .SEC_CTX_TDI => ⟨.SEC, 0x1000, 64, 0x8, 1, 0x0, 64, 34, 3, .ro, false, 0, .warm⟩
  | .SEC_CTX_KEYID_KEY_ID => ⟨.SEC, 0x2000, 64, 0x40, 16, 0x4, 32, 0, 32, .ro, false, 0, .warm⟩
  | .SEC_CNT_COUNT => ⟨.SEC, 0x3000, 12, 0x8, 1, 0x0, 64, 0, 64, .ro, false, 0, .warm⟩
  | .SEC_CNT_CLR_CLR => ⟨.SEC, 0x3080, 1, 0x0, 1, 0x0, 32, 0, 1, .w1s, false, 0, .warm⟩
  | .HTI_W_MBREQ_LEN => ⟨.HTIW, 0x2000, 64, 0x0, 1, 0x0, 32, 0, 12, .wo, false, 0, .ctx⟩
  | .HTI_W_MBREQ_TOKEN => ⟨.HTIW, 0x2000, 64, 0x0, 1, 0x0, 32, 16, 8, .wo, false, 0, .ctx⟩
  | .HTI_W_MBRSP_LEN => ⟨.HTIW, 0x2008, 64, 0x0, 1, 0x0, 32, 0, 12, .ro, false, 0, .ctx⟩
  | .HTI_W_MBRSP_TOKEN => ⟨.HTIW, 0x2008, 64, 0x0, 1, 0x0, 32, 16, 8, .ro, false, 0, .ctx⟩
  | .HTI_W_MBRSP_FULL => ⟨.HTIW, 0x2008, 64, 0x0, 1, 0x0, 32, 31, 1, .ro, false, 0, .ctx⟩
  | .HTI_W_MBSTS_BUSY => ⟨.HTIW, 0x2010, 64, 0x0, 1, 0x0, 32, 0, 1, .ro, false, 0, .ctx⟩
  | .HTI_W_MBSTS_REJECT => ⟨.HTIW, 0x2010, 64, 0x0, 1, 0x0, 32, 1, 1, .w1c, false, 0, .ctx⟩
  | .HTI_W_MBSTS_FLT_OVF => ⟨.HTIW, 0x2010, 64, 0x0, 1, 0x0, 32, 2, 1, .w1c, false, 0, .ctx⟩
  | .HTI_W_MBSTS_EVT_LOST => ⟨.HTIW, 0x2010, 64, 0x0, 1, 0x0, 32, 3, 1, .w1c, false, 0, .ctx⟩
  | .HTI_W_MBVEC_MBX => ⟨.HTIW, 0x2018, 64, 0x0, 1, 0x0, 32, 0, 5, .rw, false, 31, .ctx⟩
  | .HTI_W_MBVEC_EVT => ⟨.HTIW, 0x2018, 64, 0x0, 1, 0x0, 32, 8, 5, .rw, false, 30, .ctx⟩
  | .HTI_W_MBVEC_FLT => ⟨.HTIW, 0x2018, 64, 0x0, 1, 0x0, 32, 16, 5, .rw, false, 29, .ctx⟩
  | .HTI_W_EVT_BASE_BASE => ⟨.HTIW, 0x2020, 64, 0x0, 1, 0x0, 64, 12, 52, .rw, false, 0, .ctx⟩
  | .HTI_W_EVT_CFG_LOG => ⟨.HTIW, 0x2028, 64, 0x0, 1, 0x0, 32, 0, 4, .rw, false, 0, .ctx⟩
  | .HTI_W_EVT_CFG_EN => ⟨.HTIW, 0x2028, 64, 0x0, 1, 0x0, 32, 4, 1, .rw, false, 0, .ctx⟩
  | .HTI_W_EVT_CFG_FAULT => ⟨.HTIW, 0x2028, 64, 0x0, 1, 0x0, 32, 5, 1, .ro, false, 0, .ctx⟩
  | .HTI_W_EVT_IDX_HEAD => ⟨.HTIW, 0x2030, 64, 0x0, 1, 0x0, 32, 0, 12, .rw, false, 0, .ctx⟩
  | .HTI_W_EVT_IDX_TAIL => ⟨.HTIW, 0x2030, 64, 0x0, 1, 0x0, 32, 16, 12, .ro, false, 0, .ctx⟩
  | .HTI_W_FLT_IDX_HEAD => ⟨.HTIW, 0x2038, 64, 0x0, 1, 0x0, 32, 0, 6, .rw, false, 0, .ctx⟩
  | .HTI_W_FLT_IDX_NEXT => ⟨.HTIW, 0x2038, 64, 0x0, 1, 0x0, 32, 8, 6, .ro, false, 0, .ctx⟩
  | .MBX_PORT_CFG_COMPACT_EN => ⟨.MBX, 0x0, 2, 0x10, 1, 0x0, 32, 0, 1, .rw, true, 1, .warm⟩
  | .MBX_PORT_CFG_SUM_VEC => ⟨.MBX, 0x0, 2, 0x10, 1, 0x0, 32, 1, 11, .rw, true, 0, .warm⟩
  | .MBX_SUM_ADDR_BASE => ⟨.MBX, 0x8, 2, 0x10, 1, 0x0, 64, 3, 61, .rw, false, 0, .warm⟩
  | .MBX_SUM_BITS => ⟨.MBX, 0x100, 2, 0x8, 1, 0x0, 64, 0, 64, .w1c, false, 0, .warm⟩
  | .MBX_MODE_COMPACT0 => ⟨.MBX, 0x200, 1, 0x0, 1, 0x0, 32, 0, 1, .ro, false, 0, .warm⟩
  | .MBX_MODE_COMPACT1 => ⟨.MBX, 0x200, 1, 0x0, 1, 0x0, 32, 1, 1, .ro, false, 0, .warm⟩
  | .MBX_MODE_SUM_FAIL0 => ⟨.MBX, 0x200, 1, 0x0, 1, 0x0, 32, 2, 1, .w1c, false, 0, .warm⟩
  | .MBX_MODE_SUM_FAIL1 => ⟨.MBX, 0x200, 1, 0x0, 1, 0x0, 32, 3, 1, .w1c, false, 0, .warm⟩
  | .MBX_CTX_POS => ⟨.MBX, 0x400, 64, 0x8, 1, 0x0, 32, 0, 4, .ro, false, 0, .warm⟩
  | .MBX_CTX_VALID => ⟨.MBX, 0x400, 64, 0x8, 1, 0x0, 32, 4, 1, .ro, false, 0, .warm⟩
  | .MBX_S_REQ_LEN => ⟨.MBX, 0x10000, 8, 0x2000, 1, 0x0, 32, 0, 12, .wo, false, 0, .warm⟩
  | .MBX_S_REQ_TOKEN => ⟨.MBX, 0x10000, 8, 0x2000, 1, 0x0, 32, 16, 8, .wo, false, 0, .warm⟩
  | .MBX_S_RSP_LEN => ⟨.MBX, 0x10008, 8, 0x2000, 1, 0x0, 32, 0, 12, .ro, false, 0, .warm⟩
  | .MBX_S_RSP_TOKEN => ⟨.MBX, 0x10008, 8, 0x2000, 1, 0x0, 32, 16, 8, .ro, false, 0, .warm⟩
  | .MBX_S_RSP_FULL => ⟨.MBX, 0x10008, 8, 0x2000, 1, 0x0, 32, 31, 1, .ro, false, 0, .warm⟩
  | .MBX_S_STS_BUSY => ⟨.MBX, 0x10010, 8, 0x2000, 1, 0x0, 32, 0, 1, .ro, false, 0, .warm⟩
  | .MBX_S_STS_REJECT => ⟨.MBX, 0x10010, 8, 0x2000, 1, 0x0, 32, 1, 1, .w1c, false, 0, .warm⟩
  | .MBX_S_STS_PATH => ⟨.MBX, 0x10010, 8, 0x2000, 1, 0x0, 32, 2, 1, .ro, false, 0, .warm⟩
  | .MBX_CNT_COUNT => ⟨.MBX, 0x20000, 8, 0x8, 1, 0x0, 64, 0, 64, .ro, false, 0, .warm⟩
  | .MBX_CNT_CLR_CLR => ⟨.MBX, 0x20080, 1, 0x0, 1, 0x0, 32, 0, 1, .w1s, false, 0, .warm⟩
  | .CTL_READY_CONTROL => ⟨.CTL, 0x0, 1, 0x0, 1, 0x0, 64, 0, 1, .ro, false, 0, .warm⟩
  | .CTL_READY_NVM => ⟨.CTL, 0x0, 1, 0x0, 1, 0x0, 64, 1, 1, .ro, false, 0, .warm⟩
  | .CTL_READY_SEC => ⟨.CTL, 0x0, 1, 0x0, 1, 0x0, 64, 2, 1, .ro, false, 0, .warm⟩
  | .CTL_READY_HTI => ⟨.CTL, 0x0, 1, 0x0, 1, 0x0, 64, 3, 1, .ro, false, 0, .p3⟩
  | .CTL_READY_MBX => ⟨.CTL, 0x0, 1, 0x0, 1, 0x0, 64, 4, 1, .ro, false, 0, .p3⟩
  | .CTL_READY_TXT => ⟨.CTL, 0x0, 1, 0x0, 1, 0x0, 64, 5, 1, .ro, false, 0, .fn⟩
  | .CTL_READY_DEC => ⟨.CTL, 0x0, 1, 0x0, 1, 0x0, 64, 6, 1, .ro, false, 0, .fn⟩
  | .CTL_READY_RCL => ⟨.CTL, 0x0, 1, 0x0, 1, 0x0, 64, 7, 1, .ro, false, 0, .fn⟩
  | .CTL_READY_T1 => ⟨.CTL, 0x0, 1, 0x0, 1, 0x0, 64, 8, 8, .ro, false, 0, .soft⟩
  | .CTL_READY_T2 => ⟨.CTL, 0x0, 1, 0x0, 1, 0x0, 64, 16, 1, .ro, false, 0, .p3⟩
  | .CTL_READY_T3 => ⟨.CTL, 0x0, 1, 0x0, 1, 0x0, 64, 17, 1, .ro, false, 0, .p3⟩
  | .CTL_READY_GORES => ⟨.CTL, 0x0, 1, 0x0, 1, 0x0, 64, 18, 30, .ro, false, 0, .fn⟩
  | .CTL_READY_RING => ⟨.CTL, 0x0, 1, 0x0, 1, 0x0, 64, 48, 8, .ro, false, 0, .p3⟩
  | .CTL_READY_POOL => ⟨.CTL, 0x0, 1, 0x0, 1, 0x0, 64, 56, 4, .ro, false, 0, .p3⟩
  | .CTL_BOOT_STS_IMAGE => ⟨.CTL, 0x10, 1, 0x0, 1, 0x0, 64, 0, 3, .ro, false, 0, .warm⟩
  | .CTL_BOOT_STS_STORE => ⟨.CTL, 0x10, 1, 0x0, 1, 0x0, 64, 3, 2, .ro, false, 0, .warm⟩
  | .CTL_BOOT_STS_APPLIED => ⟨.CTL, 0x10, 1, 0x0, 1, 0x0, 64, 5, 16, .ro, false, 0, .warm⟩
  | .CTL_BOOT_STS_SKIPPED => ⟨.CTL, 0x10, 1, 0x0, 1, 0x0, 64, 21, 16, .ro, false, 0, .warm⟩
  | .CTL_BOOT_STS_T1_FAIL => ⟨.CTL, 0x10, 1, 0x0, 1, 0x0, 64, 37, 1, .ro, false, 0, .warm⟩
  | .CTL_BOOT_STS_T1_STACK => ⟨.CTL, 0x10, 1, 0x0, 1, 0x0, 64, 38, 3, .ro, false, 0, .warm⟩
  | .CTL_BOOT_VER_VERSION => ⟨.CTL, 0x18, 1, 0x0, 1, 0x0, 64, 0, 64, .ro, false, 0, .warm⟩
  | .CTL_FN_EN => ⟨.CTL, 0x100, 8, 0x8, 1, 0x0, 32, 0, 1, .rw, true, 1, .warm⟩
  | .CTL_FN_MODE => ⟨.CTL, 0x100, 8, 0x8, 1, 0x0, 32, 1, 1, .rw, true, 0, .warm⟩
  | .CTL_FN_TIMEOUT_MS => ⟨.CTL, 0x100, 8, 0x8, 1, 0x0, 32, 2, 16, .rw, true, 1000, .warm⟩
  | .CTL_FN_STATE => ⟨.CTL, 0x100, 8, 0x8, 1, 0x0, 32, 18, 3, .ro, false, 0, .warm⟩
  | .NVM_SS_STS_GROUPS => ⟨.NVM, 0x0, 1, 0x0, 1, 0x0, 64, 0, 16, .ro, false, 0, .none⟩
  | .NVM_SS_STS_BANK => ⟨.NVM, 0x0, 1, 0x0, 1, 0x0, 64, 16, 1, .ro, false, 0, .none⟩
  | .NVM_SS_STS_DEGRADED => ⟨.NVM, 0x0, 1, 0x0, 1, 0x0, 64, 17, 1, .ro, false, 0, .warm⟩
  | .NVM_SS_STS_COMMIT => ⟨.NVM, 0x0, 1, 0x0, 1, 0x0, 64, 32, 32, .ro, false, 0, .none⟩
  | .NVM_SS_USE_ENTRIES => ⟨.NVM, 0x8, 1, 0x0, 1, 0x0, 32, 0, 16, .ro, false, 0, .none⟩
  | .NVM_CNT_COUNT => ⟨.NVM, 0x100, 6, 0x8, 1, 0x0, 64, 0, 64, .ro, false, 0, .warm⟩
  | .NVM_CNT_CLR_CLR => ⟨.NVM, 0x180, 1, 0x0, 1, 0x0, 32, 0, 1, .w1s, false, 0, .warm⟩
  | .CTL_RESET_SOFT => ⟨.CTL, 0x200, 1, 0x0, 1, 0x0, 32, 0, 1, .w1s, false, 0, .warm⟩
  | .CTL_RESET_WARM => ⟨.CTL, 0x200, 1, 0x0, 1, 0x0, 32, 1, 1, .w1s, false, 0, .warm⟩
  | .CTL_RESET_KEY => ⟨.CTL, 0x200, 1, 0x0, 1, 0x0, 32, 8, 8, .wo, false, 0, .warm⟩
  | .CTL_FN_RST_FN => ⟨.CTL, 0x208, 1, 0x0, 1, 0x0, 32, 0, 8, .w1s, false, 0, .warm⟩
  | .CTL_CTX_RST_CTX => ⟨.CTL, 0x210, 1, 0x0, 1, 0x0, 64, 0, 64, .w1s, false, 0, .warm⟩
  | .CTL_PM_P2_EN => ⟨.CTL, 0x218, 1, 0x0, 1, 0x0, 32, 0, 1, .rw, true, 1, .warm⟩
  | .CTL_PM_P2_IDLE_MS => ⟨.CTL, 0x218, 1, 0x0, 1, 0x0, 32, 1, 15, .rw, true, 100, .warm⟩
  | .CTL_PM_P3_REQ => ⟨.CTL, 0x218, 1, 0x0, 1, 0x0, 32, 16, 1, .w1s, false, 0, .warm⟩
  | .CTL_PM_P3_LIMIT_S => ⟨.CTL, 0x218, 1, 0x0, 1, 0x0, 32, 17, 7, .rw, true, 60, .warm⟩
  | .CTL_PM_STS_STATE => ⟨.CTL, 0x220, 1, 0x0, 1, 0x0, 32, 0, 3, .ro, false, 0, .warm⟩
  | .CTL_PM_STS_P3_REFUSED => ⟨.CTL, 0x220, 1, 0x0, 1, 0x0, 32, 3, 1, .w1c, false, 0, .warm⟩
  | .CTL_PM_STS_REFUSE_WHY => ⟨.CTL, 0x220, 1, 0x0, 1, 0x0, 32, 4, 3, .ro, false, 0, .warm⟩
  | .CTL_RST_CAUSE_LAST => ⟨.CTL, 0x228, 1, 0x0, 1, 0x0, 64, 0, 4, .ro, false, 0, .por⟩
  | .CTL_RST_CAUSE_FAILED => ⟨.CTL, 0x228, 1, 0x0, 1, 0x0, 64, 4, 1, .ro, false, 0, .por⟩
  | .CTL_RST_CAUSE_FAIL_DIE => ⟨.CTL, 0x228, 1, 0x0, 1, 0x0, 64, 5, 3, .ro, false, 0, .por⟩
  | .CTL_RST_CAUSE_WARMS => ⟨.CTL, 0x228, 1, 0x0, 1, 0x0, 64, 16, 16, .ro, false, 0, .por⟩
  | .CTL_RST_CAUSE_SOFTS => ⟨.CTL, 0x228, 1, 0x0, 1, 0x0, 64, 32, 16, .ro, false, 0, .por⟩
  | .CTL_RT_TIME_COUNT => ⟨.CTL, 0x230, 1, 0x0, 1, 0x0, 64, 0, 64, .ro, false, 0, .por⟩
  | .CTL_RST_CNT_COUNT => ⟨.CTL, 0x240, 8, 0x8, 1, 0x0, 64, 0, 64, .ro, false, 0, .warm⟩
  | .CTL_RST_CNT_CLR_CLR => ⟨.CTL, 0x280, 1, 0x0, 1, 0x0, 32, 0, 1, .w1s, false, 0, .warm⟩
  | .PWR_STEP_WATTS => ⟨.PWR, 0x0, 1, 0x0, 1, 0x0, 32, 0, 10, .rw, true, 150, .warm⟩
  | .PWR_STEP_WINDOW_US => ⟨.PWR, 0x0, 1, 0x0, 1, 0x0, 32, 10, 10, .rw, true, 10, .warm⟩
  | .PWR_LIMIT_TDP_W => ⟨.PWR, 0x8, 1, 0x0, 1, 0x0, 32, 0, 11, .rw, true, 1050, .warm⟩
  | .PWR_LIMIT_PEAK_W => ⟨.PWR, 0x8, 1, 0x0, 1, 0x0, 32, 11, 11, .rw, true, 1250, .warm⟩
  | .PWR_CLK_MAX_MHZ => ⟨.PWR, 0x10, 1, 0x0, 1, 0x0, 32, 0, 13, .rw, true, 4800, .warm⟩
  | .PWR_CLK_ROOT_MHZ => ⟨.PWR, 0x10, 1, 0x0, 1, 0x0, 32, 13, 13, .ro, false, 4800, .warm⟩
  | .PWR_THERM_J_THROTTLE_C => ⟨.PWR, 0x18, 1, 0x0, 1, 0x0, 32, 0, 7, .rw, true, 95, .warm⟩
  | .PWR_THERM_H_THROTTLE_C => ⟨.PWR, 0x18, 1, 0x0, 1, 0x0, 32, 8, 7, .rw, true, 85, .warm⟩
  | .PWR_STS_CAUSE => ⟨.PWR, 0x20, 1, 0x0, 1, 0x0, 64, 0, 7, .ro, false, 0, .warm⟩
  | .PWR_STS_VIN_MV => ⟨.PWR, 0x20, 1, 0x0, 1, 0x0, 64, 8, 16, .ro, false, 0, .warm⟩
  | .PWR_STS_IIN_MA => ⟨.PWR, 0x20, 1, 0x0, 1, 0x0, 64, 24, 16, .ro, false, 0, .warm⟩
  | .PWR_STS_PIN_W => ⟨.PWR, 0x20, 1, 0x0, 1, 0x0, 64, 40, 12, .ro, false, 0, .warm⟩
  | .PWR_DROGUE_QUEUED => ⟨.PWR, 0x28, 1, 0x0, 1, 0x0, 64, 0, 7, .ro, false, 0, .warm⟩
  | .PWR_DROGUE_QUEUED_W => ⟨.PWR, 0x28, 1, 0x0, 1, 0x0, 64, 8, 10, .ro, false, 0, .warm⟩
  | .PWR_DROGUE_MAX_WAIT => ⟨.PWR, 0x28, 1, 0x0, 1, 0x0, 64, 32, 32, .ro, false, 0, .warm⟩
  | .PWR_TEMP_TEMP => ⟨.PWR, 0x100, 52, 0x8, 1, 0x0, 32, 0, 12, .ro, false, 0, .warm⟩
  | .PWR_TEMP_VALID => ⟨.PWR, 0x100, 52, 0x8, 1, 0x0, 32, 12, 1, .ro, false, 0, .warm⟩
  | .PWR_TEMP_MAX_C => ⟨.PWR, 0x100, 52, 0x8, 1, 0x0, 32, 16, 8, .ro, false, 0, .warm⟩
  | .PWR_CNT_COUNT => ⟨.PWR, 0x400, 10, 0x8, 1, 0x0, 64, 0, 64, .ro, false, 0, .warm⟩
  | .PWR_CNT_CLR_CLR => ⟨.PWR, 0x480, 1, 0x0, 1, 0x0, 32, 0, 1, .w1s, false, 0, .warm⟩
  | .CTL_PIN_STS_PERST => ⟨.CTL, 0x300, 1, 0x0, 1, 0x0, 32, 0, 1, .ro, false, 0, .warm⟩
  | .CTL_PIN_STS_PM_WAKE => ⟨.CTL, 0x300, 1, 0x0, 1, 0x0, 32, 1, 1, .ro, false, 0, .warm⟩
  | .CTL_PIN_STS_SVC_ATTN => ⟨.CTL, 0x300, 1, 0x0, 1, 0x0, 32, 2, 1, .ro, false, 0, .warm⟩
  | .CTL_PIN_STS_SPI_REQ => ⟨.CTL, 0x300, 1, 0x0, 1, 0x0, 32, 3, 1, .ro, false, 0, .warm⟩
  | .CTL_PIN_STS_SPI_GNT => ⟨.CTL, 0x300, 1, 0x0, 1, 0x0, 32, 4, 1, .ro, false, 0, .warm⟩
  | .CTL_PIN_STS_PWR_ALERT => ⟨.CTL, 0x300, 1, 0x0, 1, 0x0, 32, 5, 1, .ro, false, 0, .warm⟩
  | .CTL_PIN_STS_THERM_TRIP => ⟨.CTL, 0x300, 1, 0x0, 1, 0x0, 32, 6, 1, .ro, false, 0, .warm⟩
  | .CTL_PIN_STS_FLASH_PRSNT => ⟨.CTL, 0x300, 1, 0x0, 1, 0x0, 32, 8, 8, .ro, false, 0, .warm⟩
  | .CTL_PIN_STS_FLASH_PERST => ⟨.CTL, 0x300, 1, 0x0, 1, 0x0, 32, 16, 8, .ro, false, 0, .warm⟩
  | .CTL_PIN_STS_POOL_PERST => ⟨.CTL, 0x300, 1, 0x0, 1, 0x0, 32, 24, 4, .ro, false, 0, .warm⟩
  | .CTL_PIN_CNT_COUNT => ⟨.CTL, 0x310, 4, 0x8, 1, 0x0, 64, 0, 64, .ro, false, 0, .warm⟩
  | .CTL_PIN_CNT_CLR_CLR => ⟨.CTL, 0x330, 1, 0x0, 1, 0x0, 32, 0, 1, .w1s, false, 0, .warm⟩

/-- The fields, in table order, part 0. -/
def fields0 : List Fld :=
  [.HTI_W_SQDB_TAIL, .HTI_W_CQDB_HEAD, .HTI_W_ASQ_BASE, .HTI_W_ACQ_BASE,
   .HTI_W_AQCFG_SQLOG, .HTI_W_AQCFG_CQLOG, .HTI_W_AQCFG_EN, .HTI_W_AQCFG_RDY,
   .HTI_W_AQCFG_FAULT, .HTI_W_AQCFG_VEC, .HTI_W_QFAULT_PAIR, .HTI_ID_DEVICE,
   .HTI_ID_REV, .HTI_TIME_COUNT, .HTI_PORT_CTL_MODE, .HTI_PORT_CTL_SPEED_MAX,
   .HTI_PORT_CTL_B4SZ, .HTI_PORT_CTL_SRIOV, .HTI_PORT_STS_UP, .HTI_PORT_STS_MODE,
   .HTI_PORT_STS_RATE, .HTI_PORT_STS_WIDTH, .HTI_ERRLOG_CTL_NEXT, .HTI_ERRLOG_CTL_COUNT,
   .HTI_ERRLOG_CTL_OVF, .HTI_ERRLOG_CTL_CLR, .HTI_ERRLOG_A_KIND, .HTI_ERRLOG_A_CTX,
   .HTI_ERRLOG_A_PORT, .HTI_ERRLOG_A_TIME, .HTI_ERRLOG_B_OFFSET, .HTI_ERRLOG_B_BAR,
   .HTI_CTX_EN, .HTI_CTX_PORT, .HTI_CTX_MGMT, .HTI_CTX_QMAX,
   .HTI_CNT_CLR_CTX, .HTI_CNT_COUNT, .CTL_SES_CFG_TETHER_MSG_LIMIT, .CTL_SES_CFG_TETHER_TRIES,
   .CTL_SES_CFG_MIRROR_ACK_LIMIT, .CTL_SES_CFG_SHIP_RESOLVE_LIMIT, .CTL_SES_PARTNER_PARTNER, .CTL_SES_PARTNER_VALID,
   .CTL_SES_PARTNER_BOOTGEN, .CTL_SES_COST_T2_RATE, .CTL_SES_COST_T3_RATE, .CTL_SES_COST_REBUILD_RATE,
   .CTL_SES_COST_T3_LAT_US, .CTL_SES_GAUGE_LIVE]

/-- The fields, in table order, part 1. -/
def fields1 : List Fld :=
  [.CTL_SES_GAUGE_ALOFT, .CTL_SES_CTX_MAX_SESS, .CTL_SES_CTX_SHIP_IN, .CTL_SES_CNT_CLR_CLR,
   .CTL_SES_CNT_COUNT, .GORE_TILE_CNT_COUNT, .GORE_TILE_CNT_CLR_CLR, .GORE_TILE_LAST_A_HANDLE,
   .GORE_TILE_LAST_B_COLUMN, .GORE_TILE_LAST_B_POINT, .GORE_TILE_LAST_B_KIND, .GORE_TILE_LAST_B_LAYER,
   .GORE_TILE_LAST_B_KV_HEAD, .GORE_TILE_LAST_B_HALF, .GORE_TILE_LAST_B_VALID, .GORE_TILE_INJ_ARM,
   .GORE_TILE_INJ_MODE, .GORE_TILE_INJ_CTX, .TIER_STALL_LIMIT_LIMIT, .TIER_CFG_T2_EXPECT_US,
   .TIER_CFG_T3_EXPECT_US, .TIER_WM_T1_HIGH, .TIER_WM_T1_LOW, .TIER_WM_T2_HIGH,
   .TIER_WM_T2_LOW, .TIER_HEAT_DECAY_MS, .TIER_HEAT_PROMOTE1, .TIER_HEAT_PROMOTE2,
   .TIER_HEAT_DEMOTE1, .TIER_HEAT_DEMOTE2, .TIER_OCC_T1_PAGES, .TIER_OCC_T2_PAGES,
   .TIER_OCC3_T3_PAGES, .TIER_RSV_USED_MIB, .TIER_RSV_PEAK_MIB, .TIER_RSV_FULLS,
   .TIER_OBJ_A_PRESENT, .TIER_OBJ_A_UP, .TIER_OBJ_A_EN, .TIER_OBJ_A_FAILED,
   .TIER_OBJ_A_REASON, .TIER_OBJ_A_PORT, .TIER_OBJ_A_NSID, .TIER_OBJ_B_CAP_PAGES,
   .TIER_DRV_CAP_GIB_DAY, .TIER_DRV_CAP_EN, .TIER_DRV_WEAR_BUDGET_MIB, .TIER_DRV_WEAR_WRITTEN_GIB,
   .TIER_CNT_COUNT, .TIER_CNT_CLR_CLR]

/-- The fields, in table order, part 2. -/
def fields2 : List Fld :=
  [.TIER_STALL_COUNT, .TIER_STALL_CLR_CTX, .GORE_CFG_SEG_TILES, .GORE_CFG_PREEMPT_US,
   .GORE_CFG_YIELD_US, .GORE_STEP_LIM_PER_CTX, .GORE_ROLE_ROLE, .GORE_ROLE_PENDING,
   .GORE_ROLE_PENDING_VALID, .GORE_ROLE_MIX_ATTN, .GORE_ROLE_MIX_ASSIST, .GORE_ROLE_MIX_RECALL,
   .GORE_GATE_EN, .GORE_GATE_IDLE_US, .GORE_HELPER_T1_GIB, .GORE_PANEL_FENCED,
   .GORE_PANEL_GATED, .GORE_PANEL_FAULT, .GORE_PANEL_USABLE, .GORE_SHARE_WEIGHT,
   .GORE_SHARE_CAP, .GORE_CTX_STS_HELD, .GORE_CNT_COUNT, .GORE_CNT_CLR_CLR,
   .GORE_CLASS_NS_COUNT, .GORE_CTX_CNT_COUNT, .GORE_CTX_CNT_CLR_CTX, .GORE_ATTN_CFG_KICK_LIMIT_MS,
   .GORE_BRIDLE_MIB, .GORE_BRIDLE_EFF_MIB, .GORE_SHAPE_A_DECLARED, .GORE_SHAPE_A_OWNER,
   .GORE_SHAPE_A_LATENT, .GORE_SHAPE_A_LAYERS, .GORE_SHAPE_A_QHEADS, .GORE_SHAPE_A_KVHEADS,
   .GORE_SHAPE_A_DK, .GORE_SHAPE_A_DV, .GORE_SHAPE_A_SINKS, .GORE_SHAPE_B_SESSIONS,
   .GORE_SHAPE_B_KV_BYTES, .GORE_ATTN_CNT_COUNT, .GORE_ATTN_CNT_CLR_CLR, .HTI_W_BRKICK_STEP_ID,
   .HTI_W_BRKICK_LAYER, .HTI_W_BRKICK_MBZ, .HTI_W_BRSTS_STEP_ID, .HTI_W_BRSTS_LAYER,
   .HTI_W_BRSTS_REASON, .HTI_W_BRSTS_ERRORS]

/-- The fields, in table order, part 3. -/
def fields3 : List Fld :=
  [.HTI_W_BRSTS_VALID, .TXT_CFG_T1_MIB, .TXT_LANES_EN, .TXT_LANES_FENCED,
   .TXT_SLOT_A_LOADED, .TXT_SLOT_A_OWNER, .TXT_SLOT_A_MODEL, .TXT_SLOT_A_INVALID,
   .TXT_SLOT_A_TOKENS, .TXT_SLOT_A_UNICODE, .TXT_SLOT_B_BYTES, .TXT_SLOT_B_USERS,
   .TXT_CTX_MAX_MIB, .TXT_CNT_COUNT, .TXT_CNT_CLR_CLR, .DEC_CFG_GRAM_MIB,
   .DEC_LANES_EN, .DEC_LANES_FENCED, .DEC_GAUGE_STREAMS, .DEC_GAUGE_ENDED,
   .DEC_GAUGE_BACKLOGGED, .DEC_GRAM_A_LOADED, .DEC_GRAM_A_OWNER, .DEC_GRAM_A_TOKENS,
   .DEC_GRAM_A_STATES, .DEC_GRAM_B_BYTES, .DEC_GRAM_B_USERS, .DEC_CTX_MAX_STREAMS,
   .DEC_CNT_COUNT, .DEC_CNT_CLR_CLR, .RCL_CFG_COMPACT_PCT, .RCL_GAUGE_ENTRIES,
   .RCL_GAUGE_INDEXES, .RCL_GAUGE_HELPERS, .RCL_CTX_MAX_ENTRIES, .RCL_IDX_A_LIVE,
   .RCL_IDX_A_READY, .RCL_IDX_A_FAILED, .RCL_IDX_A_LOSS, .RCL_IDX_A_OWNER,
   .RCL_IDX_A_DIM, .RCL_IDX_A_M, .RCL_IDX_A_METRIC, .RCL_IDX_A_TAGS,
   .RCL_IDX_A_REFINE, .RCL_IDX_A_NLIST, .RCL_IDX_B_ENTRIES, .RCL_IDX_SEQ_CSEQ,
   .RCL_HELPER_LOADED, .RCL_HELPER_OWNER]

/-- The fields, in table order, part 4. -/
def fields4 : List Fld :=
  [.RCL_HELPER_IN_T2, .RCL_HELPER_PARAMS, .RCL_CNT_COUNT, .RCL_CNT_CLR_CLR,
   .RCL_CTX_CNT_COUNT, .RCL_CTX_CNT_CLR_CTX, .POOL_CFG_STAGE_LIMIT_MS, .POOL_PORT_CTL_MODE,
   .POOL_PORT_CTL_SPEED_MAX, .POOL_PORT_CTL_LDS, .POOL_PORT_STS_UP, .POOL_PORT_STS_MODE,
   .POOL_PORT_STS_RATE, .POOL_PORT_STS_WIDTH, .POOL_PORT_STS_VIRAL_IN, .POOL_PORT_STS_VIRAL_OUT,
   .POOL_PORT_STS_BOUND, .POOL_LEND_T1_GIB, .POOL_LEND_T2_GIB, .POOL_LEND_REGION_GIB,
   .POOL_LEND_USE_T1_GRANTED, .POOL_LEND_USE_T2_GRANTED, .POOL_LEND_USE_REGION_MIB, .POOL_OBJ_WINDOW,
   .POOL_OBJ_HOME, .POOL_OBJ_LENDER, .POOL_OBJ_LENDER_ID, .POOL_REGION_A_LIVE,
   .POOL_REGION_A_OWNER, .POOL_REGION_A_HELD, .POOL_REGION_A_KIB, .POOL_REGION_B_GEN,
   .POOL_REGION_B_HOLDS, .POOL_CNT_COUNT, .POOL_CNT_CLR_CLR, .RING_CFG_XPOS,
   .RING_CFG_YPOS, .RING_CFG_XDIM, .RING_CFG_YDIM, .RING_CFG_FABRIC_ENC,
   .RING_CFG_GAP_US, .RING_CFG_HOLD_MS, .RING_MAP_CFG_HB_MS, .RING_MAP_CFG_ISOLATE_MS,
   .RING_MAP_CFG_LOSS_MS, .RING_MAP_CFG_FORM_S, .RING_MAP_CFG_EXPECT, .RING_STS_MEMBER,
   .RING_STS_LEADER, .RING_STS_IS_LEADER]

/-- The fields, in table order, part 5. -/
def fields5 : List Fld :=
  [.RING_STS_CFG_BAD, .RING_STS_ID, .RING_MAP_EPOCH_EPOCH, .RING_PORT_CTL_EN,
   .RING_PORT_STS_PRESENT, .RING_PORT_STS_UP, .RING_PORT_STS_WIDTH, .RING_PORT_STS_MISCABLED,
   .RING_PORT_STS_LANE_FAIL, .RING_PORT_STS_PEER, .RING_VC_BUF_KIB, .RING_BYP_STATE,
   .RING_BYP_FORCE_CLOSE, .RING_EVAC_BTN_EN, .RING_EVAC_MODE, .RING_EVAC_LIMIT_S,
   .RING_EVAC_STS_STEP, .RING_EVAC_STS_LEFT_TO_GO, .RING_LED_IDENT, .RING_LED_SERVICE,
   .RING_LED_FAULT, .RING_CNT_COUNT, .RING_CNT_CLR_CLR, .RING_PORT_CNT_COUNT,
   .RING_MAP_STATE, .RING_MAP_BOOTGEN, .RING_MAP_PARTNER, .RING_MAP_PARTNER_VALID,
   .RING_MAP_LINKS, .RING_INHERIT_LOST_ID, .RING_INHERIT_BOOTGEN, .RING_INHERIT_INHERITOR,
   .RING_INHERIT_VALID, .SHP_PORT_OVH, .SHP_PORT_PRIV_PCT, .SHP_PORT_PRIV_BURST_KIB,
   .SHP_VC_PRIV, .SHP_VC_WEIGHT, .SHP_VC_RED_ACT, .SHP_VC_DEFER_US,
   .SHP_SAMPLE_TICKS, .SHP_SAMPLE_EN, .SHP_HIST_CLR_CLR, .SHP_CTXQ_RATE,
   .SHP_CTXQ_BURST_KIB, .SHP_CTXQ_WEIGHT, .SHP_HPOL_A_MODE, .SHP_HPOL_A_CIR,
   .SHP_HPOL_A_CBS, .SHP_HPOL_B_RATE2]

/-- The fields, in table order, part 6. -/
def fields6 : List Fld :=
  [.SHP_HPOL_B_BURST2, .SHP_RPOL_MODE, .SHP_RPOL_CIR, .SHP_RPOL_CBS,
   .SHP_RPOL_RATE2, .SHP_RPOL_BURST2, .SHP_CNT_COUNT, .SHP_CNT_CLR_CLR,
   .SHP_CTX_CNT_COUNT, .SHP_CTX_CNT_CLR_CTX, .SHP_HIST_DEPTH_COUNT, .SHP_HIST_DELAY_COUNT,
   .SHP_HIST_MAX_MAX_DEPTH, .SHP_HIST_MAX_MAX_DELAY, .CTL_ADM_CFG_AUTO_SHIFT, .CTL_ADM_CFG_SHIFT_PCT,
   .CTL_ADM_CFG_MAX_SHIFT_PCT, .CTL_ADM_CFG_MIN_FLOOR, .CTL_ADM_CFG_RELAX_MS, .CTL_ADM_CFG_BACKOFF_MS,
   .CTL_ADM_CFG_SHIFT_EVENT_MS, .CTL_ADM_LIM_DESC_MIN, .CTL_ADM_LIM_ALOFT_HEAD, .CTL_ADM_LIM_T1_PCT,
   .CTL_ADM_LIM_ATTN_WAIT_US, .CTL_ADM_STS_SHORT, .CTL_ADM_STS_CAUSE, .CTL_ADM_STS_SHIFT,
   .CTL_ADM_STS_EFF_ATTN, .CTL_ADM_STS_EFF_ASSIST, .CTL_ADM_STS_EFF_RECALL, .CTL_ADM_CNT_COUNT,
   .CTL_ADM_CNT_CLR_CLR, .MTR_CFG_CKPT_S, .MTR_SEQ_NEXT, .MTR_ARCH_HELD,
   .MTR_ARCH_UNACKED, .MTR_COMP_TAG, .MTR_COMP_STS_UNBOUND, .MTR_COMP_STS_START,
   .MTR_LIVE_COUNT, .MTR_CNT_COUNT, .MTR_CNT_CLR_CLR, .SEC_ID_SERIAL,
   .SEC_BOOT_STS_COPY, .SEC_BOOT_STS_RECOVERY, .SEC_BOOT_STS_A_RESULT, .SEC_BOOT_STS_B_RESULT,
   .SEC_BOOT_STS_SVN_RUNNING, .SEC_BOOT_STS_PATCH]

/-- The fields, in table order, part 7. -/
def fields7 : List Fld :=
  [.SEC_SVN_COUNTER, .SEC_OWNER_ENROLLED, .SEC_OWNER_MANAGER, .SEC_CFG_PLAIN_KEYS,
   .SEC_CFG_SPDM_MCTP, .SEC_DEBUG_STATE, .SEC_FABRIC_TX_SLOT, .SEC_FABRIC_VALID0,
   .SEC_FABRIC_VALID1, .SEC_FABRIC_PERSIST0, .SEC_FABRIC_PERSIST1, .SEC_FABRIC_LEFT0,
   .SEC_FABRIC_LEFT1, .SEC_FABRIC_NO_KEY, .SEC_FABRIC_ID_KEY_ID0, .SEC_FABRIC_ID_KEY_ID1,
   .SEC_IDE_LINK, .SEC_IDE_SELECTIVE, .SEC_CTX_ACTIVE, .SEC_CTX_RETIRING,
   .SEC_CTX_IMPORT, .SEC_CTX_STORAGE, .SEC_CTX_TDI, .SEC_CTX_KEYID_KEY_ID,
   .SEC_CNT_COUNT, .SEC_CNT_CLR_CLR, .HTI_W_MBREQ_LEN, .HTI_W_MBREQ_TOKEN,
   .HTI_W_MBRSP_LEN, .HTI_W_MBRSP_TOKEN, .HTI_W_MBRSP_FULL, .HTI_W_MBSTS_BUSY,
   .HTI_W_MBSTS_REJECT, .HTI_W_MBSTS_FLT_OVF, .HTI_W_MBSTS_EVT_LOST, .HTI_W_MBVEC_MBX,
   .HTI_W_MBVEC_EVT, .HTI_W_MBVEC_FLT, .HTI_W_EVT_BASE_BASE, .HTI_W_EVT_CFG_LOG,
   .HTI_W_EVT_CFG_EN, .HTI_W_EVT_CFG_FAULT, .HTI_W_EVT_IDX_HEAD, .HTI_W_EVT_IDX_TAIL,
   .HTI_W_FLT_IDX_HEAD, .HTI_W_FLT_IDX_NEXT, .MBX_PORT_CFG_COMPACT_EN, .MBX_PORT_CFG_SUM_VEC,
   .MBX_SUM_ADDR_BASE, .MBX_SUM_BITS]

/-- The fields, in table order, part 8. -/
def fields8 : List Fld :=
  [.MBX_MODE_COMPACT0, .MBX_MODE_COMPACT1, .MBX_MODE_SUM_FAIL0, .MBX_MODE_SUM_FAIL1,
   .MBX_CTX_POS, .MBX_CTX_VALID, .MBX_S_REQ_LEN, .MBX_S_REQ_TOKEN,
   .MBX_S_RSP_LEN, .MBX_S_RSP_TOKEN, .MBX_S_RSP_FULL, .MBX_S_STS_BUSY,
   .MBX_S_STS_REJECT, .MBX_S_STS_PATH, .MBX_CNT_COUNT, .MBX_CNT_CLR_CLR,
   .CTL_READY_CONTROL, .CTL_READY_NVM, .CTL_READY_SEC, .CTL_READY_HTI,
   .CTL_READY_MBX, .CTL_READY_TXT, .CTL_READY_DEC, .CTL_READY_RCL,
   .CTL_READY_T1, .CTL_READY_T2, .CTL_READY_T3, .CTL_READY_GORES,
   .CTL_READY_RING, .CTL_READY_POOL, .CTL_BOOT_STS_IMAGE, .CTL_BOOT_STS_STORE,
   .CTL_BOOT_STS_APPLIED, .CTL_BOOT_STS_SKIPPED, .CTL_BOOT_STS_T1_FAIL, .CTL_BOOT_STS_T1_STACK,
   .CTL_BOOT_VER_VERSION, .CTL_FN_EN, .CTL_FN_MODE, .CTL_FN_TIMEOUT_MS,
   .CTL_FN_STATE, .NVM_SS_STS_GROUPS, .NVM_SS_STS_BANK, .NVM_SS_STS_DEGRADED,
   .NVM_SS_STS_COMMIT, .NVM_SS_USE_ENTRIES, .NVM_CNT_COUNT, .NVM_CNT_CLR_CLR,
   .CTL_RESET_SOFT, .CTL_RESET_WARM]

/-- The fields, in table order, part 9. -/
def fields9 : List Fld :=
  [.CTL_RESET_KEY, .CTL_FN_RST_FN, .CTL_CTX_RST_CTX, .CTL_PM_P2_EN,
   .CTL_PM_P2_IDLE_MS, .CTL_PM_P3_REQ, .CTL_PM_P3_LIMIT_S, .CTL_PM_STS_STATE,
   .CTL_PM_STS_P3_REFUSED, .CTL_PM_STS_REFUSE_WHY, .CTL_RST_CAUSE_LAST, .CTL_RST_CAUSE_FAILED,
   .CTL_RST_CAUSE_FAIL_DIE, .CTL_RST_CAUSE_WARMS, .CTL_RST_CAUSE_SOFTS, .CTL_RT_TIME_COUNT,
   .CTL_RST_CNT_COUNT, .CTL_RST_CNT_CLR_CLR, .PWR_STEP_WATTS, .PWR_STEP_WINDOW_US,
   .PWR_LIMIT_TDP_W, .PWR_LIMIT_PEAK_W, .PWR_CLK_MAX_MHZ, .PWR_CLK_ROOT_MHZ,
   .PWR_THERM_J_THROTTLE_C, .PWR_THERM_H_THROTTLE_C, .PWR_STS_CAUSE, .PWR_STS_VIN_MV,
   .PWR_STS_IIN_MA, .PWR_STS_PIN_W, .PWR_DROGUE_QUEUED, .PWR_DROGUE_QUEUED_W,
   .PWR_DROGUE_MAX_WAIT, .PWR_TEMP_TEMP, .PWR_TEMP_VALID, .PWR_TEMP_MAX_C,
   .PWR_CNT_COUNT, .PWR_CNT_CLR_CLR, .CTL_PIN_STS_PERST, .CTL_PIN_STS_PM_WAKE,
   .CTL_PIN_STS_SVC_ATTN, .CTL_PIN_STS_SPI_REQ, .CTL_PIN_STS_SPI_GNT, .CTL_PIN_STS_PWR_ALERT,
   .CTL_PIN_STS_THERM_TRIP, .CTL_PIN_STS_FLASH_PRSNT, .CTL_PIN_STS_FLASH_PERST, .CTL_PIN_STS_POOL_PERST,
   .CTL_PIN_CNT_COUNT, .CTL_PIN_CNT_CLR_CLR]

/-- Every field. -/
def allFields : List Fld :=
  fields0 ++ fields1 ++ fields2 ++ fields3 ++ fields4 ++ fields5 ++ fields6 ++ fields7 ++ fields8 ++ fields9

/-- Reset value of one instance of a field: the Reset column, or the default that Meaning states, with
the defaults that differ between instances (HTI_CTX of context 0; SHP_VC and RING_VC per VC). -/
def Fld.dflt (f : Fld) (i : Nat) : Nat :=
  match f with
  | .HTI_CTX_EN => if i = 0 then 1 else 0
  | .HTI_CTX_MGMT => if i = 0 then 1 else 0
  | .SHP_VC_PRIV => if i ≤ 1 then 1 else 0
  | .SHP_VC_WEIGHT => if i = 1 then 4 else if i = 2 then 8 else if i = 4 then 2 else if i = 5 then 4 else 1
  | .SHP_VC_RED_ACT => if i = 2 then 1 else if i = 5 then 1 else if i = 4 then 2 else 0
  | .RING_VC_BUF_KIB =>
    if i = 0 then 64 else if i = 1 then 128 else if i = 2 then 384 else if i = 4 then 192
    else if i = 5 then 192 else if i = 6 then 64 else 0
  | f => f.info.rst

/-- The encodings that a field's Meaning lists (R22). A field with no entry lists every value of its
width. PWR_CLK.MAX_MHZ moves in steps of 100. -/
def Fld.legal (f : Fld) (v : Nat) : Bool :=
  match f with
  | .HTI_PORT_CTL_SPEED_MAX => decide (v ≤ 3)
  | .HTI_PORT_CTL_B4SZ => decide (v ≤ 5)
  | .HTI_CTX_QMAX => decide (1 ≤ v ∧ v ≤ 256)
  | .CTL_SES_CFG_TETHER_MSG_LIMIT => decide (1 ≤ v ∧ v ≤ 255)
  | .CTL_SES_CFG_TETHER_TRIES => decide (1 ≤ v ∧ v ≤ 15)
  | .CTL_SES_CFG_MIRROR_ACK_LIMIT => decide (1 ≤ v ∧ v ≤ 255)
  | .CTL_SES_CFG_SHIP_RESOLVE_LIMIT => decide (1 ≤ v ∧ v ≤ 255)
  | .CTL_SES_COST_T2_RATE => decide (1 ≤ v ∧ v ≤ 65535)
  | .CTL_SES_COST_T3_RATE => decide (1 ≤ v ∧ v ≤ 65535)
  | .CTL_SES_COST_REBUILD_RATE => decide (1 ≤ v ∧ v ≤ 65535)
  | .CTL_SES_CTX_MAX_SESS => decide (v ≤ 4194304)
  | .GORE_TILE_INJ_MODE => decide (v ≤ 2)
  | .TIER_STALL_LIMIT_LIMIT => decide (1 ≤ v ∧ v ≤ 255)
  | .TIER_CFG_T2_EXPECT_US => decide (1 ≤ v ∧ v ≤ 255)
  | .TIER_CFG_T3_EXPECT_US => decide (1 ≤ v ∧ v ≤ 4095)
  | .TIER_WM_T1_HIGH => decide (2 ≤ v ∧ v ≤ 100)
  | .TIER_WM_T1_LOW => decide (1 ≤ v ∧ v ≤ 99)
  | .TIER_WM_T2_HIGH => decide (2 ≤ v ∧ v ≤ 100)
  | .TIER_WM_T2_LOW => decide (1 ≤ v ∧ v ≤ 99)
  | .TIER_HEAT_DECAY_MS => decide (1 ≤ v ∧ v ≤ 65535)
  | .TIER_HEAT_PROMOTE1 => decide (1 ≤ v ∧ v ≤ 255)
  | .TIER_HEAT_PROMOTE2 => decide (1 ≤ v ∧ v ≤ 255)
  | .TIER_DRV_CAP_GIB_DAY => decide (1 ≤ v ∧ v ≤ 65535)
  | .GORE_CFG_SEG_TILES => decide (16 ≤ v ∧ v ≤ 256)
  | .GORE_CFG_PREEMPT_US => decide (1 ≤ v ∧ v ≤ 255)
  | .GORE_CFG_YIELD_US => decide (1 ≤ v ∧ v ≤ 255)
  | .GORE_STEP_LIM_PER_CTX => decide (1 ≤ v ∧ v ≤ 16)
  | .GORE_ROLE_MIX_ATTN => decide (v ≤ 100)
  | .GORE_ROLE_MIX_ASSIST => decide (v ≤ 100)
  | .GORE_ROLE_MIX_RECALL => decide (v ≤ 100)
  | .GORE_GATE_IDLE_US => decide (1 ≤ v ∧ v ≤ 1023)
  | .GORE_HELPER_T1_GIB => decide (v ≤ 32)
  | .GORE_SHARE_CAP => decide (v ≤ 1200)
  | .GORE_ATTN_CFG_KICK_LIMIT_MS => decide (1 ≤ v ∧ v ≤ 65535)
  | .GORE_BRIDLE_MIB => decide (v ≤ 8192)
  | .TXT_CFG_T1_MIB => decide (16 ≤ v ∧ v ≤ 1023)
  | .TXT_CTX_MAX_MIB => decide (1 ≤ v ∧ v ≤ 4095)
  | .DEC_CFG_GRAM_MIB => decide (64 ≤ v ∧ v ≤ 8191)
  | .DEC_CTX_MAX_STREAMS => decide (v ≤ 65536)
  | .RCL_CFG_COMPACT_PCT => decide (1 ≤ v ∧ v ≤ 100)
  | .RCL_CTX_MAX_ENTRIES => decide (v ≤ 4294967296)
  | .POOL_CFG_STAGE_LIMIT_MS => decide (1 ≤ v ∧ v ≤ 65535)
  | .POOL_PORT_CTL_MODE => decide (v ≤ 2)
  | .POOL_PORT_CTL_LDS => decide (1 ≤ v ∧ v ≤ 16)
  | .RING_CFG_GAP_US => decide (10 ≤ v ∧ v ≤ 2047)
  | .RING_CFG_HOLD_MS => decide (1 ≤ v ∧ v ≤ 255)
  | .RING_MAP_CFG_HB_MS => decide (1 ≤ v ∧ v ≤ 255)
  | .RING_MAP_CFG_LOSS_MS => decide (25 ≤ v ∧ v ≤ 255)
  | .RING_MAP_CFG_FORM_S => decide (1 ≤ v ∧ v ≤ 15)
  | .RING_MAP_CFG_EXPECT => decide (1 ≤ v ∧ v ≤ 1024)
  | .RING_VC_BUF_KIB => decide (v ≤ 1024)
  | .RING_EVAC_LIMIT_S => decide (1 ≤ v ∧ v ≤ 3600)
  | .SHP_PORT_PRIV_PCT => decide (1 ≤ v ∧ v ≤ 100)
  | .SHP_PORT_PRIV_BURST_KIB => decide (1 ≤ v ∧ v ≤ 8191)
  | .SHP_VC_WEIGHT => decide (1 ≤ v ∧ v ≤ 255)
  | .SHP_VC_RED_ACT => decide (v ≤ 2)
  | .SHP_VC_DEFER_US => decide (1 ≤ v ∧ v ≤ 65535)
  | .SHP_SAMPLE_TICKS => decide (1 ≤ v ∧ v ≤ 65535)
  | .SHP_CTXQ_BURST_KIB => decide (1 ≤ v ∧ v ≤ 16383)
  | .SHP_CTXQ_WEIGHT => decide (1 ≤ v ∧ v ≤ 255)
  | .SHP_HPOL_A_MODE => decide (v ≤ 2)
  | .SHP_HPOL_A_CIR => decide (1 ≤ v ∧ v ≤ 16777215)
  | .SHP_HPOL_A_CBS => decide (1 ≤ v ∧ v ≤ 65535)
  | .SHP_RPOL_MODE => decide (v ≤ 2)
  | .SHP_RPOL_CIR => decide (1 ≤ v ∧ v ≤ 131071)
  | .SHP_RPOL_CBS => decide (1 ≤ v ∧ v ≤ 8191)
  | .CTL_ADM_CFG_SHIFT_PCT => decide (1 ≤ v ∧ v ≤ 50)
  | .CTL_ADM_CFG_MAX_SHIFT_PCT => decide (v ≤ 90)
  | .CTL_ADM_CFG_MIN_FLOOR => decide (1 ≤ v ∧ v ≤ 15)
  | .CTL_ADM_CFG_RELAX_MS => decide (1 ≤ v ∧ v ≤ 4095)
  | .CTL_ADM_CFG_BACKOFF_MS => decide (1 ≤ v ∧ v ≤ 16383)
  | .CTL_ADM_CFG_SHIFT_EVENT_MS => decide (1 ≤ v ∧ v ≤ 65535)
  | .CTL_ADM_LIM_DESC_MIN => decide (v ≤ 4194304)
  | .CTL_ADM_LIM_ALOFT_HEAD => decide (v ≤ 65536)
  | .CTL_ADM_LIM_T1_PCT => decide (v ≤ 100)
  | .MTR_CFG_CKPT_S => decide (1 ≤ v ∧ v ≤ 255)
  | .CTL_FN_TIMEOUT_MS => decide (1 ≤ v ∧ v ≤ 65535)
  | .CTL_PM_P2_IDLE_MS => decide (1 ≤ v ∧ v ≤ 32767)
  | .CTL_PM_P3_LIMIT_S => decide (1 ≤ v ∧ v ≤ 127)
  | .PWR_STEP_WATTS => decide (40 ≤ v ∧ v ≤ 1023)
  | .PWR_STEP_WINDOW_US => decide (1 ≤ v ∧ v ≤ 1023)
  | .PWR_LIMIT_TDP_W => decide (600 ≤ v ∧ v ≤ 1050)
  | .PWR_LIMIT_PEAK_W => decide (v ≤ 1250)
  | .PWR_CLK_MAX_MHZ => decide (2400 ≤ v ∧ v ≤ 4800 ∧ v % 100 = 0)
  | .PWR_THERM_J_THROTTLE_C => decide (70 ≤ v ∧ v ≤ 105)
  | .PWR_THERM_H_THROTTLE_C => decide (70 ≤ v ∧ v ≤ 95)
  | _ => true

/-- Number of a field, its place in the tables. -/
def Fld.num (f : Fld) : Nat := f.ctorIdx

/-- The key of one instance of a field in the register file. -/
def Fld.key (f : Fld) (i j : Nat) : Nat := (f.num * 65536 + i % 65536) * 65536 + j % 65536

/-- The field of a number. -/
def Fld.ofNum (n : Nat) : Option Fld := allFields[n]?

/-- The key's field, first index and second index. -/
def keyField (k : Nat) : Option Fld := Fld.ofNum (k / 4294967296)
def keyI (k : Nat) : Nat := k / 65536 % 65536
def keyJ (k : Nat) : Nat := k % 65536

/-- What the register file reads at a key that lists nothing: the field's Reset value or default. -/
def regDefault (k : Nat) : Nat :=
  match keyField k with
  | some f => f.dflt (keyI k)
  | none => 0

/-- Width of the field at a key. -/
def regWidth (k : Nat) : Nat :=
  match keyField k with
  | some f => f.info.w
  | none => 0

/-- Offset of one instance of a field's register, within its block or window. -/
def Fld.offset (f : Fld) (i j : Nat) : Nat := f.info.off + f.info.iS * i + f.info.jS * j

/-- BAR0 offset of one instance of a field's register. -/
def Fld.bar0 (f : Fld) (i j : Nat) : Nat := f.info.blk.base + f.offset i j

/-- The instance of a field's register at an offset of its block, if there is one. The second index
runs fastest; SHP_RPOL starts at VC 1. -/
def Fld.instAt (f : Fld) (off : Nat) : Option (Nat × Nat) :=
  let n := f.info
  if off < n.off then none else
    let d := off - n.off
    let i := if n.iS = 0 then 0 else if n.jS = 0 then d / n.iS else if n.iS ≥ n.jS then d / n.iS else
      d % n.jS / n.iS
    let r := d - i * n.iS
    let j := if n.jS = 0 then 0 else r / n.jS
    if i * n.iS + j * n.jS = d ∧ i < n.iN ∧ j < n.jN ∧ (f.info.blk ≠ .SHP ∨ n.off ≠ 0x3000 ∨ 1 ≤ i) then
      some (i, j)
    else none

/-- The fields of the register at an offset of a block, with the instance. -/
def regFieldsAt (b : Blk) (off : Nat) : List (Fld × Nat × Nat) :=
  allFields.filterMap fun f =>
    if f.info.blk = b then (f.instAt off).map fun p => (f, p.1, p.2) else none

end Sys2Proof.Machine
end

