-- ==== Sys2Proof/Machine/Types.lean ====
section
/-! DEFINITION. The data structures of the block's state: queues and commands (spec/02), sessions and
tethers (spec/03), tiles (spec/04), pages and tier objects (spec/05), gores and items (spec/06), steps and
shapes (spec/07), mailboxes, events and fault records (spec/16), the settings store (spec/17). Plain data. -/

namespace Sys2Proof.Machine

/-- A sparse table: pairs of key and value, keys strictly rising. -/
abbrev Map (α : Type) := List (Nat × α)

/-- Bytes by address, in one canonical form: addresses strictly rising, no entry 0, which is what an unlisted address reads as (R219). -/
abbrev Memory := List Host.Cell

/-- Status codes of R76. -/
inductive Status where
  | ok | partialDone | cancelled
  | retryLater | busyTether
  | badOpcode | badVersion | reservedNonzero | badHandle
  | tornTile | poison | grammarStuck | tierFail | ownerConflict | regionConflict | orphaned
  | notReady | disabled
  | keyFail | authFail
  deriving DecidableEq, Repr

/-- A declared model shape (R213). `grades` and `wins` are the layer table. -/
structure Shape where
  owner : Nat
  layers : Nat
  hq : Nat
  hkv : Nat
  latent : Bool
  dk : Nat
  dv : Nat
  sinks : Nat
  scale : Nat
  softcap : Nat
  grades : List Nat
  wins : List Nat
  deriving DecidableEq, Repr

/-- Where an accepted command stands: it waits to start (R61 to R63), it runs, or it has ended and its
completion waits for ring room (R52). -/
inductive CmdPhase where
  | waiting | running | done
  deriving DecidableEq, Repr

/-- An accepted command (R58, R534). `id` numbers commands in the order of their fetch; `ahead` counts the
context's commands whose completion was not yet written at the fetch (R73); `colour` is the policer's; `shape` the declared shape that a
STEP_SUBMIT or KV_APPEND uses, as it stood at the acceptance (R119, R216). -/
structure Cmd where
  id : Nat
  ctx : Nat
  pair : Nat
  op : Nat
  desc : Desc
  phase : CmdPhase
  ahead : Nat
  colour : Nat
  at_ : Nat
  shape : Option Shape
  cancels : List Nat
  deriving DecidableEq, Repr

/-- A completion entry before its phase bit and time are added (R55). -/
structure Cpl where
  cmd : Nat
  tag : Nat
  status : Status
  cause : Nat
  r0 : Nat
  r1 : Nat
  r2 : Nat
  quiet : Bool
  deriving DecidableEq, Repr

/-- An open queue pair (R46 to R53, R66, R69, R70). `waitq` holds the bytes of the entries between the
fetch index and TAIL. `closer` is the QUEUE_CLOSE that closes it, with its two counts. -/
structure Pair where
  sqBase : Nat
  cqBase : Nat
  sqLog : Nat
  cqLog : Nat
  ver : Nat
  weight : Nat
  vec : Nat
  coCount : Nat
  coTime : Nat
  fetch : Nat
  tail : Nat
  widx : Nat
  head : Nat
  phase : Bool
  faulted : Bool
  postFail : Bool
  waitq : List Desc
  held : List Cpl
  unsig : Nat
  oldest : Nat
  closer : Option Nat
  closeOk : Nat
  closeCan : Nat
  deriving DecidableEq, Repr

/-- Messages to other Flewicks and their VC (spec/03 R98, spec/11, spec/12, spec/14). -/
inductive MsgKind where
  | shipOffer | shipAccept | shipRefuse | tileFrame | spoolFrame | shipResend | shipAbort
  | commitReq | replicate | replicateAck | commitAck | commitNak | tetherQuery | tetherRecord
  | spoolEntries | spoolAck | gatherReq | gatherSpool | sessionNotice
  | publishOpen | publishReady | publishContent | publishCommit | publishAck | publishNak
  | holdTake | holdRelease | holdAnswer | regionDestroy | regionAnswer
  | hello | join | mapChange | mapChangeAck | mapCommit | mapRequest | mapBeat | heartbeat
  | leaderPropose | leaderAck | expelled
  | pause | pauseAck | meterReq | meterAnswer | nack
  deriving DecidableEq, Repr

/-- What the block puts on its interfaces, in order (R64). `write` is a write to host or accelerator
memory through the context's port: address, length in bytes, little-endian content. A `ctx` of 64 + p is port
p's doorbell word. -/
inductive Out where
  | write (ctx addr len data : Nat)
  | irq (port : Nat) (vf : Option Nat) (vec : Nat)
  | msg (dst vc : Nat) (kind : MsgKind) (handle epoch a b : Nat) (args : List Nat)
  | frame (port : Nat) (bytes : Nat)
  | pageWrite (obj idx data : Nat)
  | pageRead (obj idx : Nat)
  | dealloc (obj idx : Nat)
  | deallocAll (obj : Nat)
  | flush (obj : Nat)
  | cxl (port : Nat) (poison : Bool) (data : Nat)
  | answer (path : Nat) (code : Nat) (len data : Nat)
  | busRead (value : Nat)
  | aer (port code : Nat)
  | fm (port ld code base : Nat)
  | serial (pin value : Nat)
  | nor (copy addr len data : Nat)
  deriving DecidableEq, Repr

/-! ### Mailboxes, events, fault records (spec/16) -/

/-- One mailbox channel: the request and response data areas as little-endian numbers, the sealed
request's length (0 with none) and token, the path that holds a secure channel (R446), and the answer that firmware has
made and not yet written, as length and content (R443). -/
structure Chan where
  req : Nat
  rsp : Nat
  len : Nat
  token : Nat
  path : Nat
  ans : Option (Nat × Nat)
  deriving DecidableEq, Repr

/-- An event record before it is written (R454). `data` is bytes 32 to 63. -/
structure EvtRec where
  kind : Nat
  seq : Nat
  handle : Nat
  time : Nat
  data : Nat
  deriving DecidableEq, Repr

/-- A context's events: backlog, number raised, number dropped since the last record written, the ring as
enabled (depth log and base), its phase, and the last record written with the number of drops that it told of (R452). -/
structure EvtCtx where
  backlog : List EvtRec
  seq : Nat
  dropped : Nat
  on : Bool
  log : Nat
  base : Nat
  phase : Bool
  last : Option (EvtRec × Nat)
  deriving DecidableEq, Repr

/-- A fault record (R456). `detail` is bytes 32 to 63. -/
structure FaultRec where
  kind : Nat
  archived : Bool
  ctx : Nat
  seq : Nat
  handle : Nat
  time : Nat
  status : Nat
  cause : Nat
  detail : Nat
  deriving DecidableEq, Repr

/-- A context's fault ring (R455): 64 slots and the number of faults raised. -/
structure FltCtx where
  slots : Map FaultRec
  seq : Nat
  deriving DecidableEq, Repr

/-- Mailboxes, events, faults, doorbell words. Channels 0–63 are the contexts', 64–71 the secure ones. -/
structure Mbx where
  chans : Map Chan
  evts : Map EvtCtx
  flts : Map FltCtx
  archive : List FaultRec
  archNext : Nat
  sumBusy : Nat
  sumPend : Nat
  deriving DecidableEq, Repr

/-! ### The settings store, the image, bring-up (spec/17) -/

/-- One entry of the store or image in force: register offset, width flag, value, mask (R466, R468). -/
structure SetEntry where
  off : Nat
  wide : Bool
  value : Nat
  mask : Nat
  deriving DecidableEq, Repr

/-- A bank of the settings store (R468): present and valid, COMMIT, entries in ascending offset. -/
structure Bank where
  valid : Bool
  commit : Nat
  entries : List SetEntry
  deriving DecidableEq, Repr

/-- Where the bring-up sequence of R462 stands; `failed` after a whole-Flewick failure (R492). -/
inductive Boot where
  | off | rails | rom | waitPerst | configured | recovery | p3 | failed
  deriving DecidableEq, Repr

/-- Bring-up and resets: sequence, banks (bank in force in NVM_SS_STS.BANK), the image values kept in the control island per
field key (R467), functions to enable again as a bit set, due times of the disable timers; `b4` is B4SZ in force per host
port and `lds` LDS per pool port, and at 4 + its number its SPEED_MAX (R322), since the last WARM; whether the lanes of TXT and DEC
have passed their test; the fault capture (R492, R493): UNIT, CODE, CTL_RT_TIME and HTI_TIME; CTL_RT_TIME at the last reset; whether the dies other than the retention island's are off; the limit of a P3 entry. -/
structure BootSt where
  stage : Boot
  bank0 : Bank
  bank1 : Bank
  image : Map Nat
  fnAgain : Nat
  fnTimer : Map Nat
  b4 : Map Nat
  lds : Map Nat
  lanesOk : Bool
  failUnit : Nat
  failCode : Nat
  failRt : Nat
  failHti : Nat
  resetAt : Nat
  diesOff : Bool
  p3Due : Nat
  deriving DecidableEq, Repr

/-! ### Sessions (spec/03) -/

/-- Session states of R86. -/
inductive SState where
  | free | aloft | parked | deflated | reviving | shipping | rebuilding | orphaned | failed | remote
  deriving DecidableEq, Repr

/-- One spool entry (R87): token, from the sampler or not, visible-text offset after it. -/
structure SpoolEntry where
  token : Nat
  sampled : Bool
  visible : Nat
  deriving DecidableEq, Repr

/-- Where a page has a place: T1, or an object and a page index in it. -/
inductive Place where
  | t1
  | obj (o idx : Nat)
  deriving DecidableEq, Repr

/-- Kinds of page (R145). -/
inductive PKind where
  | sealed | opened | map | spool | index
  deriving DecidableEq, Repr

/-- Page states (R150). EMPTY pages are not listed. -/
inductive PState where
  | dirty | clean | lower | lost
  deriving DecidableEq, Repr

/-- A page that is not EMPTY. `writing` is the place of a demotion write in flight and `again` says that
the page was written since that write started (R150, R174); `sink` drops the upper copy once the write is done.
`reading` marks a read in flight, requested at `readAt` (R163), `up` that it brings the page into T1. -/
structure Page where
  kind : PKind
  num : Nat
  st : PState
  upper : Place
  lower : Option Place
  heat : Nat
  touched : Nat
  writing : Option Place
  again : Bool
  sink : Bool
  reading : Bool
  readAt : Nat
  up : Bool
  deriving DecidableEq, Repr

/-- A tile with its tag (R130). `data` is the stored form, `len` bytes, little-endian; `off` its offset in
the sealed-tile stream (R146). -/
structure Tile where
  sealed : Bool
  data : Nat
  len : Nat
  crc : Nat
  crcValid : Bool
  torn : Bool
  fill : Nat
  off : Nat
  deriving DecidableEq, Repr

/-- Phases of a transfer (R99): the sender has offered, reads its pages, has sent everything; the receiver verifies
frames, has sent COMMIT_REQ. -/
inductive XPhase where
  | offered | streaming | sent | receiving | committing
  deriving DecidableEq, Repr

/-- A transfer in progress (R98 to R103, R539): epoch E, the other party, the key slot (below 16 a job key), the
command; tiles and bytes offered; the sender's tile keys in the order of their index; at the receiver the indexes verified and
those asked for again, and whether the spool is here; sends of the message that waits, the time of the last; the time
from which SHIP_RESOLVE_LIMIT counts. `follow` is set once the home's record alone decides: SOFT, the receiver gone;
`lostHome` once the home that was asked first is lost. `carried` is the rebuild that was pending when the transfer began, as start,
end and cause; `lostCol` the lowest column whose pages were lost during it (R539). -/
structure Xfer where
  sender : Bool
  phase : XPhase
  epoch : Nat
  peer : Nat
  key : Nat
  cmd : Nat
  total : Nat
  bytes : Nat
  keys : List Nat
  got : List Nat
  again : List Nat
  spoolGot : Bool
  tries : Nat
  at_ : Nat
  start : Nat
  unresolved : Bool
  follow : Bool
  lostHome : Bool
  evac : Bool
  carried : Option (Nat × Nat × Nat)
  lostCol : Option Nat
  deriving DecidableEq, Repr

/-- A proposal at the home: epoch E, sender, receiver; tries made (R99 steps 6 and 7, R101). -/
structure Proposal where
  epoch : Nat
  sender : Nat
  receiver : Nat
  at_ : Nat
  deriving DecidableEq, Repr

/-- What the rows of a step item or KV_APPEND that has not ended replaced (R116): KV_LEN, the stream's length, the rebuild cursor, the tiles; `rows` and `replaced` are the head-layer rows and torn tiles that count
once it ends with OK. -/
structure Undo where
  kvLen : Nat
  streamLen : Nat
  rbStart : Nat
  tiles : Map Tile
  rows : Nat
  replaced : Nat
  deriving DecidableEq, Repr

/-- A session descriptor with its spool, tiles and pages (R85 to R87, R113, R145 to R149). `resentAt` is the time from which the next resend of the
spool counts (R89); `undo` what a command's rows replaced, until it ends (R116); `gainAt` the last time at which
a page of it came into T1 (R160). -/
structure Session where
  handle : Nat
  st : SState
  ret : SState
  owner_ : Bool
  home : Bool
  mirror_ : Bool
  spool_ : Bool
  incoming : Bool
  inherited : Bool
  shape : Nat
  interactive : Bool
  noMirror : Bool
  mirrorLost : Bool
  autoDeflate : Bool
  pauseDeflate : Bool
  rbPending : Bool
  epoch : Nat
  owner : Nat
  mirror : Nat
  kvLen : Nat
  rbStart : Nat
  rbEnd : Nat
  deflReason : Nat
  rbCause : Nat
  seed : Nat
  visible : Nat
  idlePark : Nat
  rbRate : Nat
  lastStep : Nat
  created : Nat
  entered : Nat
  spool : List SpoolEntry
  seeds : List (Nat × Nat)
  tiles : Map Tile
  streamLen : Nat
  pages : Map Page
  pin : Nat
  neverT3 : Bool
  demoteAfter : Nat
  lastObj : Option Nat
  xfer : Option Xfer
  prop : Option Proposal
  gathering : Bool
  lostOwner : Nat
  recPending : Bool
  resentAt : Nat
  madeHere : Bool
  undo : Option Undo
  gainAt : Nat
  deriving DecidableEq, Repr

/-- Defaults that SESS_POLICY with CTX_DEFAULT (R110) and TIER_POLICY SCOPE 0 (R175) set for a context. -/
structure CtxDflt where
  pauseDeflate : Bool
  autoDeflate : Bool
  interactive : Bool
  idlePark : Nat
  rbRate : Nat
  pin : Nat
  neverT3 : Bool
  demoteAfter : Nat
  deriving DecidableEq, Repr

/-- What waits for the mirror's acknowledgement of a spool length (R88): a command's completion, one of the appends of
a SAMPLE in LIST mode, or a step item; `at_` is the time of the append. -/
inductive AckWait where
  | cmd (handle upto : Nat) (c : Cpl) (at_ : Nat)
  | part (handle upto : Nat) (c : Cpl) (at_ : Nat)
  | item (handle upto step entry at_ : Nat)
  deriving DecidableEq, Repr

/-- Sessions and tethers. `tab` is keyed by local descriptor index. -/
structure Ses where
  tab : Map Session
  reuse : Map Nat
  dflt : Map CtxDflt
  acks : List AckWait
  deriving DecidableEq, Repr

/-! ### Tiers (spec/05) -/

/-- A region's placement settings (R154, R175). Regions 0–63 are the session regions of the contexts;
64 + s is recall index s. -/
structure Region where
  heat : Bool
  pin : Nat
  neverT3 : Bool
  allow : Nat
  quotaGib : Nat
  lastObj : Option Nat
  deriving DecidableEq, Repr

/-- A flash port's wear record (R169, R170), live and as last saved. Budget in units of 2^-16 MiB; with the cap not enforced it goes below
zero. -/
structure Wear where
  ident : Nat
  budget : Int
  acc : Nat
  written : Nat
  sIdent : Nat
  sBudget : Int
  sAcc : Nat
  sWritten : Nat
  deriving DecidableEq, Repr

/-- A TIER_FLUSH in progress (R176): command, drop, the owners covered, pages still to be written, counts,
causes. Owners are 2 × handle, or 2 × index slot + 1. -/
structure FlushRun where
  cmd : Nat
  drop : Bool
  owners : List Nat
  wait : List (Nat × Nat)
  wrote : Nat
  left : Nat
  dropped : Nat
  why : Nat
  deriving DecidableEq, Repr

/-- The tier engine. `idxPages` holds the pages of recall indexes, keyed by index slot, `rawCap` each
object's pages as found, `vacating` the objects being vacated as a bit set, `lent`
the pages of each T2 object that are lent (R326). `rsv` counts the
bytes that the allocated parts of the T1 reserve take (R141). -/
structure Tier where
  regions : Map Region
  wear : Map Wear
  rawCap : Map Nat
  idxPages : Map (Map Page)
  vacating : Nat
  lent : Map Nat
  flushes : List FlushRun
  rsv : Nat
  deriving DecidableEq, Repr

/-! ### Gores and the winch (spec/06) -/

/-- Item kinds, in the order of R186. -/
inductive IKind where
  | attnSeg | attnMerge | append | seal | unseal | scan | helperLayer
  deriving DecidableEq, Repr

/-- Work classes of R186. -/
inductive WClass where
  | attn | assist | recall
  deriving DecidableEq, Repr

/-- Where an item stands: its turn has not come, dispatchable, on a gore, pre-empted with saved state,
waiting for inputs after a yield. -/
inductive IState where
  | held | ready | running | saved | waiting
  deriving DecidableEq, Repr

/-- A work item (R186 to R189). `step` orders items by age: a step's number, or the command's. `pages` are the
page keys that its work reads, `staged` those that a read-through holds ready for it (R155). `ix` is the
recall index of a SCAN. `saved` is set while a gore's save area holds the item's state, `gore` naming it; `tileAt` is the time of the last
tile boundary or dispatch (R188). -/
structure Item where
  id : Nat
  kind : IKind
  cls : WClass
  ctx : Nat
  step : Nat
  handle : Nat
  layer : Nat
  head : Nat
  seg : Nat
  st : IState
  gore : Nat
  since : Nat
  preempt : Bool
  readyAt : Nat
  ix : Option Nat
  pages : List Nat
  staged : List Nat
  saved : Bool
  tileAt : Nat
  deriving DecidableEq, Repr

/-- The winch: items, virtual times by 4 × context + class, and the vt of the last dispatch of each class (R195),
the context of the last item of each gore (R188), panels whose wake is asked for, as a bit set, the last time at which each panel was not
idle (R182), the last time at which a gore was pre-empted for each class (R196). -/
structure Gore where
  items : List Item
  nextItem : Nat
  vt : Map Rat
  vlast : Map Rat
  lastCtx : Map Nat
  waking : Nat
  busyAt : Map Nat
  preAt : Map Nat
  deriving DecidableEq, Repr

/-! ### Attention (spec/07) -/

/-- One session entry of a step (R224, R225). `admitted` entries have a step item; `gone` is set when it has
left or has ended and its record is written; `sealing` from the moment its rows took effect until the seals
and the mirror's acknowledgement are done; `leftAt` is the number of layers flagged when it left. `rows`
holds the provisional rows (R116) of each head-layer; `sampled` is the token drawn, and whether it is an end token
emitted under R275. -/
structure SEntry where
  handle : Nat
  pos0 : Nat
  admitted : Bool
  gone : Bool
  sealing : Bool
  acked : Bool
  leftAt : Option Nat
  status : Status
  cause : Nat
  layers : Nat
  waiting : Bool
  cancel : Bool
  sampleDone : Bool
  sampled : Option (Nat × Bool)
  rows : Map (List Nat)
  deriving DecidableEq, Repr

/-- A batch step in flight (R190 to R193, R216, R220 to R232). `geo` is the shape as at admission; `lastFlag`
the time of the last flag; `attends` the ATTEND commands by layer; `verdict` the status with which an aborted STEP_SUBMIT
ends; `seq` is the number of the next command to be fetched at the admission, which orders it among accepted commands (R238). -/
structure Step where
  id : Nat
  seq : Nat
  ctx : Nat
  stepId : Nat
  cmd : Nat
  pair : Nat
  shape : Nat
  geo : Shape
  segTiles : Nat
  ntok : Nat
  nslot : Nat
  records : Nat
  inOff : Nat
  out : Nat
  flag : Nat
  sample : Bool
  admittedAt : Nat
  kicked : Nat
  done : Nat
  lastFlag : Nat
  mute : Bool
  entries : List SEntry
  attends : List (Nat × Nat)
  verdict : Option (Status × Nat)
  deriving DecidableEq, Repr

/-- A KV_APPEND in progress (R234 to R238): its rows by head-layer, whether it serves a rebuild, whether they
took effect, tiles sealed, whether it is a STREAM. `geo` is the shape at acceptance (R119). -/
structure KvRun where
  cmd : Nat
  handle : Nat
  first : Nat
  count : Nat
  geo : Shape
  rows : Map (List Nat)
  rb : Bool
  sealing : Bool
  sealed : Nat
  stream : Bool
  deriving DecidableEq, Repr

/-- The attention service: shape slots, steps in flight, KV_APPEND runs, and the backed bytes of the bridle areas, offset o of context c at
address c × 2^34 + o (R217). -/
structure Attn where
  shapes : Map Shape
  steps : List Step
  nextStep : Nat
  kvRuns : List KvRun
  bridle : Memory
  deriving DecidableEq, Repr

end Sys2Proof.Machine
end

