-- ==== Sys2Proof/Machine/Operands.lean ====
section
/-! DEFINITION. Operand forms: the fields of descriptors (R54), session handles (R79), and the layout
checks of step 3 of R58 (R59, R533). -/

namespace Sys2Proof.Machine

/-- The `n` bytes of a descriptor from byte `lo`, little-endian. -/
def Desc.num (d : Desc) (lo n : Nat) : Nat := d.toNat / 2 ^ (8 * lo) % 2 ^ (8 * n)

/-- One byte of a descriptor. -/
def Desc.byte (d : Desc) (n : Nat) : Nat := Desc.num d n 1

def Desc.opcode (d : Desc) : Nat := Desc.byte d 0
def Desc.version (d : Desc) : Nat := Desc.byte d 1
def Desc.flags (d : Desc) : Nat := Desc.num d 2 2
def Desc.flag (d : Desc) (n : Nat) : Bool := bitAt (Desc.flags d) n
def Desc.fence (d : Desc) : Bool := Desc.flag d 0
def Desc.quiet (d : Desc) : Bool := Desc.flag d 1
def Desc.tag (d : Desc) : Nat := Desc.num d 4 4
def Desc.handle (d : Desc) : Nat := Desc.num d 8 8

/-- A form that bits of FLAGS select. -/
def opOf (hi lo : Nat) (v : Nat) (d : Desc) : Bool := bitsOf (Desc.flags d) hi lo = v

/-- Session handle fields (R79). -/
def hGen (h : Nat) : Nat := bitsOf h 63 60
def hHome (h : Nat) : Nat := bitsOf h 59 50
def hCtx (h : Nat) : Nat := bitsOf h 49 44
def hSlot (h : Nat) : Nat := bitsOf h 43 22
def hBootgen (h : Nat) : Nat := bitsOf h 21 16
def hReuse (h : Nat) : Nat := bitsOf h 15 0

/-- The handle with the given fields (R79): generation 0x1. -/
def mkHandle (home ctx slot bootgen reuse : Nat) : Nat :=
  2 ^ 60 + home * 2 ^ 50 + ctx * 2 ^ 44 + slot * 2 ^ 22 + bootgen * 2 ^ 16 + reuse

/-- A list of layout faults: the offsets found. R533 reports the lowest. -/
abbrev Faults := List Nat

/-- Reserved bytes: offsets `lo` to `hi` whose byte is not zero. -/
def rsvBytes (d : Desc) (lo hi : Nat) : Faults :=
  ((List.range (hi + 1)).filter fun n => lo ≤ n && Desc.byte d n != 0)

/-- Reserved bits [hi:lo] of a byte. -/
def rsvBits (d : Desc) (byte hi lo : Nat) : Faults :=
  if bitsOf (Desc.byte d byte) hi lo = 0 then [] else [byte]

/-- A field of `n` bytes that must lie in a range; a fault is reported at its first byte (R533). -/
def inRange (d : Desc) (lo n a b : Nat) : Faults :=
  let v := Desc.num d lo n
  if a ≤ v ∧ v ≤ b then [] else [lo]

/-- A field that must satisfy a condition, reported at an offset. -/
def must (off : Nat) (ok : Bool) : Faults := if ok then [] else [off]

/-- Reserved bits of FLAGS: bits 2 to 7 in byte 2 for every command, and the bits of byte 3 that the
opcode does not use. -/
def flagsRsv (d : Desc) (used : Nat) : Faults :=
  rsvBits d 2 7 2 ++
    (if Nat.land (Desc.byte d 3) (255 - used) = 0 then [] else [3])

/-- The lowest offset of a list of faults. -/
def firstFault : Faults → Option Nat
  | [] => none
  | n :: t => some (t.foldl min n)

end Sys2Proof.Machine
end

