-- ==== Sys2Proof/Machine/Flags.lean ====
section
/-! DEFINITION. Status codes and CAUSE encodings (R76), back-off hints, completion words (R55), and the
status classes that counters and R77 use. -/

namespace Sys2Proof.Machine

/-- The code of a status (R76). -/
def Status.code : Status → Nat
  | .ok => 0x0000 | .partialDone => 0x0001 | .cancelled => 0x0002
  | .retryLater => 0x0010 | .busyTether => 0x0011
  | .badOpcode => 0x0020 | .badVersion => 0x0021 | .reservedNonzero => 0x0022 | .badHandle => 0x0023
  | .tornTile => 0x0030 | .poison => 0x0031 | .grammarStuck => 0x0032 | .tierFail => 0x0033
  | .ownerConflict => 0x0034 | .regionConflict => 0x0035 | .orphaned => 0x0036
  | .notReady => 0x0040 | .disabled => 0x0041
  | .keyFail => 0x0050 | .authFail => 0x0051

/-- Class 0x002x: a driver error (R76). -/
def Status.driverErr (st : Status) : Bool := st.code / 16 = 2

/-- Back-off hints of RETRY_LATER: unit in [15:14], count in [13:0]. -/
def hintUs (n : Nat) : Nat := n
def hintMs (n : Nat) : Nat := 0x4000 + n
def hintS (n : Nat) : Nat := 0x8000 + n

/-- CAUSE values of CANCELLED (R76). -/
def causeQueueClose : Nat := 1
def causeCancel : Nat := 2

/-- CAUSE of TORN_TILE (R136): column, format flag, point. -/
def causeTorn (column : Nat) (format : Bool) (point : Nat) : Nat :=
  column % 8192 + b2n format * 2 ^ 13 + point % 4 * 2 ^ 14

/-- CAUSE of TIER_FAIL and POISON (R166): object, tier 2 or 3, kind. -/
def causeTier (obj kind : Nat) : Nat :=
  obj % 64 + (if obj < 32 then 2 else 3) * 64 + kind % 4 * 256

/-- PHASE_HEAD (R55). -/
def phaseHead (phase : Bool) (fetch : Nat) : Nat := b2n phase * 0x8000 + fetch % 4096

/-- The 32 bytes of a completion entry (R55), little-endian. -/
def cplBytes (c : Cpl) (time : Nat) (phase : Bool) (fetch : Nat) : Nat :=
  c.tag % 2 ^ 32 + c.status.code * 2 ^ 32 + c.cause % 2 ^ 16 * 2 ^ 48 + c.r0 % 2 ^ 64 * 2 ^ 64 +
    c.r1 % 2 ^ 32 * 2 ^ 128 + c.r2 % 2 ^ 32 * 2 ^ 160 + time % 2 ^ 48 * 2 ^ 192 +
    phaseHead phase fetch * 2 ^ 240

/-- The 64 bytes of an event record (R454). -/
def evtBytes (e : EvtRec) (phase : Bool) (dropped : Nat) : Nat :=
  e.kind % 2 ^ 16 + (b2n phase + 2 * b2n (decide (0 < dropped))) * 2 ^ 16 + e.seq % 2 ^ 32 * 2 ^ 32 +
    e.handle % 2 ^ 64 * 2 ^ 64 + e.time % 2 ^ 48 * 2 ^ 128 + dropped % 2 ^ 32 * 2 ^ 192 +
    e.data % 2 ^ 256 * 2 ^ 256

/-- The 64 bytes of a fault record (R456). -/
def fltBytes (f : FaultRec) : Nat :=
  f.kind % 2 ^ 16 + b2n f.archived * 2 ^ 16 + f.ctx % 2 ^ 8 * 2 ^ 24 + f.seq % 2 ^ 32 * 2 ^ 32 +
    f.handle % 2 ^ 64 * 2 ^ 64 + f.time % 2 ^ 48 * 2 ^ 128 + f.status % 2 ^ 16 * 2 ^ 192 +
    f.cause % 2 ^ 16 * 2 ^ 208 + f.detail % 2 ^ 256 * 2 ^ 256

/-- Numbers laid out as little-endian fields: (offset in bytes, value). -/
def packBytes (l : List (Nat × Nat)) : Nat := l.foldl (fun a p => a + p.2 * 2 ^ (8 * p.1)) 0

/-- Little-endian words of `n` bytes each, in order. -/
def packWords (n : Nat) (l : List Nat) : Nat :=
  l.foldr (fun v a => v % 2 ^ (8 * n) + a * 2 ^ (8 * n)) 0

/-- The `n` little-endian words of `w` bytes of a number. -/
def unpackWords (w n x : Nat) : List Nat := (List.range n).map fun i => x / 2 ^ (8 * w * i) % 2 ^ (8 * w)

end Sys2Proof.Machine
end

