-- ==== Sys2Proof/Config.lean ====
section
/-! DEFINITION. What an implementation fixes and the free values: constants with no body, so that a
statement about them holds whatever they are. Numbers that the specification fixes stand here too. -/

namespace Sys2Proof.Config

/-- A fresh value for each use (log 8): the random source (spec/03 SESS_CREATE, spec/15), the choice of a
free slot (R79), and every other value that the specification leaves open. Applied to `State.fresh`. -/
opaque freeNat : Nat → Nat

/-- The attention output bits that R209 to R211 bound and do not fix (log 9), as a function of everything that
R180 lets them depend on: queries, the attended tiles and rows, scale, soft-cap, SEG_TILES. One call gives an
entry's outputs of one layer as a number, the next its log-sum-exps. -/
opaque attnOut : List Nat → List Nat → Nat
opaque attnLse : List Nat → List Nat → Nat

/-- Bytes of the T1 reserve that a shape descriptor and its layer table take, from LAYERS (log 17). -/
opaque shapeBytes : Nat → Nat

/-- Bytes of the T1 reserve that a loaded image and the structures built from it take (log 34): 0 table, 1 grammar,
2 helper, and the image's length. -/
opaque imageBytes : Nat → Nat → Nat

/-- Pages of an index's map from item ID to entry, whose form is not visible (R296, log 52), from its entries. -/
opaque idMapPages : Nat → Nat

/-- Recall values that no rule gives (log 53): the order of a distance that is not a number, and a distance built on a
table that is not finite. -/
opaque nanOrder : Nat → Int
opaque openDist : List Nat → Nat → Nat

/-- FP32 computations of a helper model whose sequence of operations no rule gives, and the order of `n` cycles of a reduction (R179, R316,
log 54): the kind of the computation, its operands. -/
opaque helperFp : Nat → List Nat → List Nat
opaque cycleOrder : Nat → List Nat

/-- Number of payload bytes of a ring message, and the bytes, whose layout is the firmware's own (R346, log 62): KIND code, then its content. -/
opaque msgBytes : Nat → List Nat → Nat
opaque msgPayload : Nat → List Nat → Nat

/-- Code lengths that the Pewter encoder chooses (R124), for the exponent symbols of a half (log 10). -/
opaque pewterLengths : List Nat → List Nat

/-- Stored bytes of a spool (R537), from its length and number of seed changes (log 11). -/
opaque spoolBytes : Nat → Nat → Nat

/-- Bytes of pages whose layout is the Flewick's own (log 190): the 16 bytes of a map entry (R148), from what the entry says; and the content
of a spool, ID map or refinement page, from what it holds (R296, R309, R537). -/
opaque mapEntry : List Nat → Nat
opaque openForm : Nat → List Nat → Nat
/-- What stands in dead bytes of a stream or in a page's unused bytes (R146, log 190): owner, page key. -/
opaque deadBytes : Nat → Nat → Nat

/-- The device identity key's private half, made at manufacture (spec/15, log 12); it counts modulo the order of P-384. -/
opaque deviceKey : Nat

/-- The fused serial number of SEC_ID, the SHA-384 of the boot ROM (log 13). -/
opaque serial : Nat
/-- The 32 bits that IDCODE shifts out (R530), which the spec does not give. -/
opaque idcode : Nat
opaque romHash : Nat

/-- HBM4 state area in pages, and pages of T2 and T3 at most (R139, R140). -/
def t1Pages : Nat := 7536640
def t2PagesMax : Nat := 67108864
def t3PagesMax : Nat := 17179869184

/-- Descriptors and sessions ALOFT at once (R39). -/
def descriptors : Nat := 4194304
def aloftMax : Nat := 65536

/-- Longest spool and context (R87). -/
def maxTokens : Nat := 1048576

/-- Gores, panels, gores of a panel (R177, R181). -/
def gores : Nat := 1200
def panels : Nat := 30
def panelGores : Nat := 40

/-- Places in the event backlog, the fault archive (R452, R457). -/
def backlogMax : Nat := 1024
def archiveMax : Nat := 4096

end Sys2Proof.Config
end

