-- ==== Sys2Proof/Machine/Types2.lean ====
section
/-! DEFINITION. The data structures of the block's state, continued: power and the drogue (spec/19), the
fabric map (spec/12). -/

namespace Sys2Proof.Machine

/-- Loads whose switch-on is a wake request, in the order of R502 for requests of one moment. -/
inductive Load where
  | stack | keel | panel | host | pool | flash | ring | clock
  deriving DecidableEq, Repr

/-- A queued wake request (R502): load, number, tenths of a watt, time of the request. -/
structure Wake where
  load : Load
  num : Nat
  deci : Nat
  at_ : Nat
  deriving DecidableEq, Repr

/-- Power (R502 to R508): queued wake requests, requests admitted whose load is not yet ready; the debt in watts at
`paidAt` (CTL_RT_TIME), tenths of a watt admitted and not yet counted; the thermal ceiling and the time it last changed; times
at which the root last changed and last dropped fast; the last 1,000 limiter ticks, bit 0 the latest, set where the 1 ms
average was above TDP_W; panels shed, as a bit set; the 10 s after a thermal trip; the last time at which a command was accepted, a frame
delivered or P2 left (R487). -/
structure Pwr where
  wakes : List Wake
  admitted : List Wake
  debt : Rat
  paidAt : Nat
  deciRem : Nat
  tceil : Nat
  tceilAt : Nat
  rootAt : Nat
  dropAt : Option Nat
  overs : Nat
  shed : Nat
  lockout : Bool
  calledAt : Nat
  deriving DecidableEq, Repr

/-- Pins (spec/20): running drive clocks as a bit set, the service LED before a button blink, the dynamic I3C address. -/
structure Pins where
  refclk : Nat
  blink : Option Nat
  i3c : Option Nat
  deriving DecidableEq, Repr

/-- A map change under way at its proposer (R356, R357): edits, members and IDs that acknowledged, time, whether it is
the first map or a candidacy. -/
structure Change where
  edits : List MapEdit
  acks : List Nat
  at_ : Nat
  form : Bool
  candidate : Bool
  deriving DecidableEq, Repr

/-- An evacuation in progress (R365): command, MODE, deadline, counts. `committed` is set once LEAVING is committed, `asked`
once LEFT is asked for, `closing` is the time of its commit; `tries` lists by handle the targets that had no descriptor. -/
structure EvacRun where
  cmd : List Nat
  spoolOnly : Bool
  due : Nat
  shipped : Nat
  spools : Nat
  left : Nat
  committed : Bool
  asked : Bool
  closing : Option Nat
  tries : Map (List Nat)
  deriving DecidableEq, Repr

/-- The fabric (R356 to R365): members, inherited IDs as (ID, BOOTGEN, inheritor) oldest first, IDs heard with their boot
generations and port bits (boot + 64 × bits), times of the last beat of the leader and of each member, the change under way and those that wait, the
proposer last acknowledged, isolation, whether this Flewick has left or was expelled in this boot generation, bypass pairs
with the time at which they are tried again, neighbours that answered PAUSE_ACK by pair × 2 + side, ports
that answered one themselves and hold their frames as a bit set, the time CONTROL came up, the evacuation. -/
structure Fab where
  members : List Nat
  inherit : List (Nat × Nat × Nat)
  heard : Map Nat
  beat : Nat
  beats : Map Nat
  change : Option Change
  todo : List MapEdit
  acked : Option Nat
  isolated : Bool
  gone : Bool
  since : Map Nat
  paused : List Nat
  quiet : Nat
  controlAt : Nat
  evac : Option EvacRun
  deriving DecidableEq, Repr

/-- An open composition of a context (R400): label, boot generation and time at its opening. Its meters are MTR_LIVE. -/
structure MComp where
  tag : Nat
  bootgen : Nat
  start : Nat
  unbound : Bool
  deriving DecidableEq, Repr

/-- A checkpoint slot (R402): the composition, the time of the checkpoint, its meters and the port bound. -/
structure Ckpt where
  comp : MComp
  at_ : Nat
  port : Nat
  meters : List Nat
  deriving DecidableEq, Repr

/-- A final meter record in the archive (R403, R405): sequence, context, acknowledged, its 288 bytes. -/
structure MRec where
  seq : Nat
  ctx : Nat
  acked : Bool
  data : Nat
  deriving DecidableEq, Repr

/-- A METER_READ carried to another Flewick (R407): command, time of the last send, sends. -/
structure RemRun where
  cmd : Nat
  at_ : Nat
  sends : Nat
  deriving DecidableEq, Repr

/-- Roles, admission and meters (spec/14): points that the auto-shift has taken, last first, true from RECALL and false
from ASSIST; gore time not yet a whole µs by context; the time at which SHORT last cleared, that of the last
ROLE_SHIFT_REQUEST, the counters as SHORT last rose (R395), whether an INTERACTIVE session was ALOFT or admitted since the
last moment of R396; the ROLE_SET that waits with its mix; open compositions, checkpoints, records, remote reads; the time up to which
the Flewick was last at work (R487). -/
structure Fleet where
  taken : List (Bool × Nat)
  goreRem : Map Nat
  clearAt : Nat
  asked : Option Nat
  shortInt : Nat
  shortBatch : Nat
  seen : Bool
  roleSet : Option Nat
  comps : Map MComp
  ckpts : Map Ckpt
  arch : List MRec
  remote : List RemRun
  workedAt : Nat
  deriving DecidableEq, Repr

/-! ### Text intake (spec/08) -/

/-- An image that a replacement put aside (R258): commands fetched before `before` run on it. -/
structure OldImage where
  before : Nat
  data : Nat
  bytes : Nat
  deriving DecidableEq, Repr

/-- A loaded table slot: loading context, image, bytes of the T1 reserve. -/
structure TableSlot where
  owner : Nat
  data : Nat
  bytes : Nat
  olds : List OldImage
  deriving DecidableEq, Repr

/-! ### Decoding (spec/09) -/

/-- A stream's configuration (R262). FP32 fields are encodings. -/
structure StreamConf where
  table : Nat
  keepStop : Bool
  output : Bool
  showControl : Bool
  stops : List (List Nat)
  temp : Nat
  topP : Nat
  minP : Nat
  topK : Nat
  penWindow : Nat
  repetition : Nat
  presence : Nat
  frequency : Nat
  biases : List (Nat × Nat)
  maxTokens : Nat
  ringHdr : Nat
  ringData : Nat
  ringLog : Nat
  deriving DecidableEq, Repr

/-- A bound grammar: slot, automaton state, stack with its top first (R280, R283). -/
structure Binding where
  slot : Nat
  state : Nat
  stack : List Nat
  deriving DecidableEq, Repr

/-- A stream (R260): `draws` counts since OPEN or RESTART, `write` is WRITE of its ring, the backlog holds
records as length and content, `lastPos` the position of the last token drawn; a `freed` stream only has records still to
write (log 41). -/
structure Stream where
  handle : Nat
  conf : StreamConf
  ended : Bool
  held : List Nat
  draws : Nat
  write : Nat
  backlog : List (Nat × Nat)
  lastPos : Option Nat
  gram : Option Binding
  freed : Bool
  why : Nat
  deriving DecidableEq, Repr

/-- A loaded grammar slot: loading context, the table slot named at its load, image, bytes of the T1 reserve. -/
structure GramSlot where
  owner : Nat
  table : Nat
  data : Nat
  bytes : Nat
  deriving DecidableEq, Repr

/-- Text intake and decoding: table slots, grammar slots, streams. -/
structure Dec where
  tables : Map TableSlot
  grams : Map GramSlot
  streams : List Stream
  deriving DecidableEq, Repr

/-! ### The pool (spec/11) -/

/-- A kept generation of a region (R333). -/
structure Gener where
  gen : Nat
  bytes : Nat
  data : Nat
  deriving DecidableEq, Repr

/-- A hold at the home (R333): Flewick, holder (a context, or 64 + index slot), generation. -/
structure RHold where
  flewick : Nat
  holder : Nat
  gen : Nat
  deriving DecidableEq, Repr

/-- A publish staged at the home (R334). `data` is none until the content has arrived. -/
structure Staging where
  flewick : Nat
  token : Nat
  expect : Nat
  bytes : Nat
  data : Option Nat
  since : Nat
  deriving DecidableEq, Repr

/-- A region at its home (R331 to R333). `last` names the publish that made the current generation. -/
structure PRegion where
  id : Nat
  owner : Nat
  readers : Nat
  maxBytes : Nat
  gen : Nat
  gens : List Gener
  holds : List RHold
  staged : List Staging
  last : Nat × Nat
  deriving DecidableEq, Repr

/-- An attachment of a context here (R337): region, generation held, its bytes; `window` none at the home. -/
structure Attach where
  ctx : Nat
  region : Nat
  gen : Nat
  bytes : Nat
  window : Option Nat
  deriving DecidableEq, Repr

/-- Phases of a publish at the publisher (R334). -/
inductive PubPhase where
  | opening | sending | committing
  deriving DecidableEq, Repr

/-- A REGION_PUBLISH in progress: command, region, EXPECT, BYTES, phase, time of the last commit sent. -/
structure PubRun where
  cmd : Nat
  region : Nat
  expect : Nat
  bytes : Nat
  phase : PubPhase
  sent : Nat
  deriving DecidableEq, Repr

/-- An extent that a logical device holds (R326 to R328). `t2` says where it comes from; `asked` that its release
was requested; addresses count GiB of device physical address; `parts` are the pages taken from T2 objects. -/
structure Extent where
  port : Nat
  ld : Nat
  base : Nat
  gib : Nat
  t2 : Bool
  asked : Bool
  revoked : Bool
  seq : Nat
  parts : List (Nat × Nat)
  deriving DecidableEq, Repr

/-- A LEND_SET in progress: command, FORCE, the figures asked for, its deadline. -/
structure LendRun where
  cmd : Nat
  force : Bool
  t1 : Nat
  t2 : Nat
  region : Nat
  due : Nat
  room : Bool
  deriving DecidableEq, Repr

/-- The pool: regions by slot, REUSE by slot, attachments, publishes, extents granted, the lines that borrowers wrote
by (port × 16 + logical device) × 2^40 + line, objects whose release is asked for as a bit set, LEND_SET in progress,
T2_ALLOW of the last one. -/
structure Pool where
  regions : Map PRegion
  reuse : Map Nat
  attached : List Attach
  pubs : List PubRun
  extents : List Extent
  nextExt : Nat
  lines : Map Nat
  leaving : Nat
  lend : Option LendRun
  t2Allow : Nat
  deriving DecidableEq, Repr

/-! ### The recall engine (spec/10) -/

/-- An entry of a list block (R295): codes as M bytes, tag words, SEQ and DEL; `vec` the full vector of a REFINE index
(BF16), `vpage` the page that holds it. -/
structure REntry where
  codes : Nat
  attr : Nat
  tags : List Nat
  id : Nat
  seq : Nat
  del : Nat
  vec : List Nat
  vpage : Option Nat
  deriving DecidableEq, Repr

/-- A list block: its index page number and its entries. -/
structure RBlock where
  page : Nat
  entries : List REntry
  deriving DecidableEq, Repr

/-- A sequence taken and not yet committed (R303): the status with which a void one ends, the item IDs it names, the
largest code error. -/
structure RPend where
  seq : Nat
  cmd : Nat
  ctx : Nat
  isDel : Bool
  void : Option (Status × Nat × Nat)
  ids : List Nat
  err : Nat
  deriving DecidableEq, Repr

/-- A chain that compaction replaced (R306): list, blocks, the queries that still read it. -/
structure ROld where
  list : Nat
  blocks : List RBlock
  readers : List Nat
  deriving DecidableEq, Repr

/-- A codebook part: content, bytes of the T1 reserve, the region used in place with its generation. -/
structure RPart where
  data : Nat
  bytes : Nat
  region : Option (Nat × Nat)
  deriving DecidableEq, Repr

/-- A recall index (R290 to R293). `failed` is the CAUSE object once it has failed; `nextPage` numbers block pages,
`nextVec` refinement pages. -/
structure RIndex where
  id : Nat
  dim : Nat
  m : Nat
  ip : Bool
  nlist : Nat
  tags : Nat
  refine : Bool
  cen : Option RPart
  prod : Option RPart
  lists : Map (List RBlock)
  olds : List ROld
  cseq : Nat
  nextSeq : Nat
  pend : List RPend
  nextPage : Nat
  nextVec : Nat
  failed : Option Nat
  deriving DecidableEq, Repr

/-- A candidate of a query: distance, item ID, full vector and its page. -/
structure RCand where
  dist : Nat
  id : Nat
  vec : List Nat
  vpage : Option Nat
  deriving DecidableEq, Repr

/-- A query of a batch (R307): elements as FP32, its filter block or the offset at which it is invalid, its lists in
order, the lists probed before this round and in it, its counts and best candidates. -/
structure RQuery where
  vec : List Nat
  filter : Nat
  bad : Option Nat
  order : List Nat
  probed : Nat
  named : List Nat
  scanned : Nat
  matched : Nat
  best : List RCand
  widened : Bool
  lost : Option (Status × Nat)
  closed : Bool
  ok : Bool
  deriving DecidableEq, Repr

/-- A RECALL_QUERY in progress: command, context, index slot, snapshot, parameters, list blocks read. -/
structure RRun where
  cmd : Nat
  ctx : Nat
  slot : Nat
  snap : Nat
  k : Nat
  nprobe : Nat
  widen : Nat
  refine : Nat
  results : Nat
  round : Nat
  blocks : Nat
  queries : List RQuery
  deriving DecidableEq, Repr

/-- A helper slot: loading context, image, bytes of the T1 reserve, pages taken from T2 objects, images put aside. -/
structure HelperSlot where
  owner : Nat
  data : Nat
  bytes : Nat
  t2 : List (Nat × Nat)
  olds : List OldImage
  deriving DecidableEq, Repr

/-- An ENCODER_RUN in progress: command, slot, image, layers done, token IDs of each sequence. -/
structure EncRun where
  cmd : Nat
  slot : Nat
  image : Nat
  layer : Nat
  seqs : List (List Nat)
  deriving DecidableEq, Repr

/-- The recall engine: indexes by slot, REUSE by slot, queries in flight, helper slots, encoder runs. -/
structure Rcl where
  indexes : Map RIndex
  reuse : Map Nat
  runs : List RRun
  helpers : Map HelperSlot
  encs : List EncRun
  deriving DecidableEq, Repr

/-! ### The ring and its shaper (spec/12, spec/13) -/

/-- A frame in a queue of a port: charged length (R370), time of entry, start tag (R373). -/
structure QFrame where
  f : RFrame
  l : Nat
  at_ : Nat
  tag : Nat
  deriving DecidableEq, Repr

/-- A received frame held for its turn: 0 beyond a gap, 1 deferred (R380), 2 lost. -/
structure HeldFrame where
  f : RFrame
  l : Nat
  at_ : Nat
  mode : Nat
  colour : Nat
  deriving DecidableEq, Repr

/-- A flow at its destination (R353): source boot generation, next SEQ, held frames in SEQ order. -/
structure RxFlow where
  boot : Nat
  next : Nat
  held : List HeldFrame
  deriving DecidableEq, Repr

/-- A meter's credit (R377): tc, and te or tp. -/
structure Meter where
  tc : Nat
  te : Nat
  deriving DecidableEq, Repr

/-- A region message under way on VC4 (R354): flow, first and last SEQ, region. -/
structure SentMsg where
  flow : Nat
  lo : Nat
  hi : Nat
  region : Nat
  deriving DecidableEq, Repr

/-- The ring. Local queues by (port × 8 + VC) × 64 + context, transit queues by port × 8 + VC; frames without a route and
frames that wait for queue room; next SEQ, MSG and IVC; flows received by (source × 64 + context) × 8 + VC; buckets (absent
is full), finish tags, virtual times, privileged credit (absent is full), deficits, the VC in turn by port × 2 + class, the
last context served, local minus transit bytes; meters (absent is full); values still in force of fields written since the
last refill instant; SHAPER_SET and POLICER_SET commands that wait for it; refill instants since the last sample; ports
whose head frame lacked credit; consecutive replays; next link sequence numbers by port. -/
structure Ring where
  locals : Map (List QFrame)
  transit : Map (List QFrame)
  unrouted : List (RFrame × Nat)
  blocked : List RFrame
  txSeq : Map Nat
  txMsg : Map Nat
  ivc : Map Nat
  sent : List SentMsg
  rx : Map RxFlow
  tok : Map Int
  fin : Map Nat
  vtime : Map Nat
  pcap : Map Int
  deficit : Map Nat
  turn : Map Nat
  lastCtx : Map Nat
  bal : Map Int
  hmet : Map Meter
  rmet : Map Meter
  inForce : Map Nat
  setters : List Nat
  ticks : Nat
  short : Nat
  replays : Map Nat
  lseq : Map Nat
  deriving DecidableEq, Repr

end Sys2Proof.Machine
end

