-- ==== Sys2Proof/Machine/Types3.lean ====
section
/-! DEFINITION. The data structures of the block's state, continued: keys, the secure path, SPDM, IDE and TDISP (spec/15). -/

namespace Sys2Proof.Machine

/-- An SPDM session (R430): transport 0 and 1 the DOE of a port, 2 MCTP; its number; whether it is established; whether
the requester proved the security manager key (R428). -/
structure SpdmSess where
  path : Nat
  id : Nat
  open_ : Bool
  manager : Bool
  deriving DecidableEq, Repr

/-- An IDE stream of a host port (R433): 0 the link stream, 1 + n selective stream n; key sets programmed as a bit set by
2 × set + direction, the set that runs in each direction, whether the security manager's session keyed it. -/
structure IdeStream where
  port : Nat
  num : Nat
  keys : Map Nat
  rxOn : Option Nat
  txOn : Option Nat
  manager : Bool
  deriving DecidableEq, Repr

/-- A firmware copy being staged (R429, R445): copy, TOTAL, bytes so far. -/
structure FwStage where
  copy : Nat
  total : Nat
  len : Nat
  deriving DecidableEq, Repr

/-- A JOB_KEY_RETIRE in progress (R418): command, context, slot, the commands that hold the key, those waited for and those
that ABORT ended. -/
structure Retire where
  cmd : Nat
  ctx : Nat
  slot : Nat
  holders : List Nat
  waited : Nat
  aborted : Nat
  deriving DecidableEq, Repr

/-- Keys and attestation: job keys by 16 × context + slot, import and storage keys by context, fabric keys by slot, boot
generations used by a persisted slot as a bit set (R421), hashes of the owner and security manager keys, the nonce that
DEBUG_UNLOCK gave out, the copy being staged, the contents of the two copies in the SPI NOR as staged, SPDM sessions, IDE
streams, the selective stream of each locked TDI (log 99), retires in progress, measurement blocks (R432), the version of the running
firmware (R445). -/
structure Sec where
  keys : Map Nat
  imports : Map Nat
  storage : Map Nat
  fabric : Map Nat
  used : Map Nat
  owner : Option Nat
  manager : Option Nat
  nonce : Option Nat
  stage : Option FwStage
  sessions : List SpdmSess
  streams : List IdeStream
  tdiStream : Map Nat
  retires : List Retire
  meas : Map Nat
  version : Nat
  deriving DecidableEq, Repr

end Sys2Proof.Machine
end

