-- ==== Sys2Proof/Machine/State.lean ====
section
/-! DEFINITION. The block's whole state, its faults and refusals, and the state at reset. -/

namespace Sys2Proof.Machine

/-- Faults. No command of the table ends in one. -/
inductive Fault where
  /-- Raised by no command: every command has an effect or leaves the state as it is (log 3). Safe. -/
  | none_
  deriving DecidableEq, Repr

/-- Refusals. -/
inductive Refusal where
  /-- A command that has no meaning yet, by its mnemonic. Raised in Dispatch.lean alone. Safe. -/
  | notModelled (mnemonic : String)
  deriving DecidableEq, Repr

/-- Queue pairs by 256 × context + pair, accepted commands in fetch order, and the number of the next. -/
structure Hti where
  pairs : Map Pair
  cmds : List Cmd
  nextCmd : Nat
  deriving DecidableEq, Repr

/-- The state of the block. `regs` holds every register field that differs from its Reset value or default;
`latch` the lower halves of R14, by BAR0 offset or 2^26 + BAR2 offset. `out`, `fresh` and `pending` are the model's own: the bus
output in order, the free-value counter, the commands that wait, first in first out. -/
structure State where
  regs : Map Nat
  latch : Map Nat
  hti : Hti
  mbx : Mbx
  boot : BootSt
  ses : Ses
  tier : Tier
  gore : Gore
  attn : Attn
  pwr : Pwr
  pins : Pins
  fab : Fab
  fleet : Fleet
  dec : Dec
  pool : Pool
  rcl : Rcl
  ring : Ring
  sec : Sec
  out : List Out
  fresh : Nat
  pending : List Instr
  deriving DecidableEq, Repr

/-- The machine right after reset: a part fresh from manufacture, before its rails come up (log 2). Every
register reads its Reset value or default; nothing is held. -/
def State.reset : State where
  regs := []
  latch := []
  hti := { pairs := [], cmds := [], nextCmd := 0 }
  mbx := { chans := [], evts := [], flts := [], archive := [], archNext := 0, sumBusy := 0, sumPend := 0 }
  boot :=
    { stage := .off, bank0 := ⟨false, 0, []⟩, bank1 := ⟨false, 0, []⟩, image := [], fnAgain := 0,
      fnTimer := [], b4 := [], lds := [], lanesOk := false, failUnit := 0, failCode := 0, failRt := 0, failHti := 0, resetAt := 0,
      diesOff := false, p3Due := 0 }
  ses := { tab := [], reuse := [], dflt := [], acks := [] }
  tier := { regions := [], wear := [], rawCap := [], idxPages := [], vacating := 0, lent := [], flushes := [], rsv := 0 }
  gore :=
    { items := [], nextItem := 0, vt := [], vlast := [], lastCtx := [], waking := 0, busyAt := [], preAt := [] }
  attn := { shapes := [], steps := [], nextStep := 0, kvRuns := [], bridle := [] }
  pwr :=
    { wakes := [], admitted := [], debt := 0, paidAt := 0, deciRem := 0, tceil := 4800, tceilAt := 0, rootAt := 0,
      dropAt := none, overs := 0, shed := 0, lockout := false, calledAt := 0 }
  pins := { refclk := 0, blink := none, i3c := none }
  fab :=
    { members := [], inherit := [], heard := [], beat := 0, beats := [], change := none, todo := [], acked := none,
      isolated := false, gone := false, since := [], paused := [], quiet := 0, controlAt := 0, evac := none }
  fleet :=
    { taken := [], goreRem := [], clearAt := 0, asked := none, shortInt := 0, shortBatch := 0, seen := false,
      roleSet := none, comps := [], ckpts := [], arch := [], remote := [], workedAt := 0 }
  dec := { tables := [], grams := [], streams := [] }
  pool :=
    { regions := [], reuse := [], attached := [], pubs := [], extents := [], nextExt := 0, lines := [],
      leaving := 0, lend := none, t2Allow := 0 }
  rcl := { indexes := [], reuse := [], runs := [], helpers := [], encs := [] }
  ring :=
    { locals := [], transit := [], unrouted := [], blocked := [], txSeq := [], txMsg := [], ivc := [], sent := [], rx := [],
      tok := [], fin := [], vtime := [], pcap := [], deficit := [], turn := [], lastCtx := [], bal := [], hmet := [],
      rmet := [], inForce := [], setters := [], ticks := 0, short := 0, replays := [], lseq := [] }
  sec :=
    { keys := [], imports := [], storage := [], fabric := [], used := [], owner := none, manager := none, nonce := none,
      stage := none, sessions := [], streams := [], tdiStream := [], retires := [], meas := [], version := 0 }
  out := []
  fresh := 0
  pending := []

end Sys2Proof.Machine
end

