-- ==== Sys2Proof/Machine/Ops.lean ====
section
/-! DEFINITION. The named operations over the state: sparse tables, registers, time, output, the error log,
interrupts and signals, events, fault records, completions and commands. -/

namespace Sys2Proof.Machine

/-! ### Sparse tables -/

/-- The value at a key. -/
def Map.find {α : Type} : Map α → Nat → Option α
  | [], _ => none
  | (a, v) :: t, k => if a = k then some v else Map.find t k

/-- Set the value at a key, keeping keys strictly rising. -/
def Map.put {α : Type} : Map α → Nat → α → Map α
  | [], k, v => [(k, v)]
  | (a, x) :: t, k, v =>
    if k < a then (k, v) :: (a, x) :: t else if a = k then (k, v) :: t else (a, x) :: Map.put t k v

/-- Remove a key. -/
def Map.del {α : Type} (m : Map α) (k : Nat) : Map α := m.filter fun p => p.1 != k

/-- Change the value at a key, if it is listed. -/
def Map.upd {α : Type} (m : Map α) (k : Nat) (f : α → α) : Map α :=
  match Map.find m k with
  | some v => Map.put m k (f v)
  | none => m

/-- Whether a key is listed. -/
def Map.has {α : Type} (m : Map α) (k : Nat) : Bool := (Map.find m k).isSome

/-- The listed values. -/
def Map.vals {α : Type} (m : Map α) : List α := m.map Prod.snd

/-- The canonical form: keys strictly rising. -/
def Map.wf {α : Type} (m : Map α) : Bool := decide (m.Pairwise fun a b => a.1 < b.1)

/-- Stable insertion sort. -/
def insertBy {α : Type} (le : α → α → Bool) (x : α) : List α → List α
  | [] => [x]
  | y :: t => if le x y then x :: y :: t else y :: insertBy le x t
def sortBy {α : Type} (le : α → α → Bool) (l : List α) : List α := l.foldr (insertBy le) []

/-! ### Registers -/

/-- The register file at a key. -/
def regGet (r : Map Nat) (k : Nat) : Nat := (Map.find r k).getD (regDefault k)

/-- Set a field: the value is cut to the field's width, and a value equal to the default is not listed. -/
def regSet (r : Map Nat) (k v : Nat) : Map Nat :=
  if v % 2 ^ regWidth k = regDefault k then Map.del r k else Map.put r k (v % 2 ^ regWidth k)

/-- The register file's canonical form: keys rise, no entry equals its default, values fit their width. -/
def regsWf (r : Map Nat) : Bool :=
  Map.wf r && r.all fun p => p.2 != regDefault p.1 && decide (p.2 < 2 ^ regWidth p.1)

/-- Read one instance of a field. -/
def State.rd (s : State) (f : Fld) (i : Nat := 0) (j : Nat := 0) : Nat := regGet s.regs (f.key i j)

/-- Write one instance of a field, as hardware does. -/
def State.wr (s : State) (f : Fld) (i j v : Nat) : State := { s with regs := regSet s.regs (f.key i j) v }

/-- A one-bit field as a condition. -/
def State.on (s : State) (f : Fld) (i : Nat := 0) (j : Nat := 0) : Bool := s.rd f i j != 0

/-- One bit of a field. -/
def State.bit (s : State) (f : Fld) (n : Nat) (i : Nat := 0) : Bool := bitAt (s.rd f i 0) n

/-- Set or clear one bit of a field. -/
def setBitN (x n : Nat) (b : Bool) : Nat :=
  if bitAt x n = b then x else if b then x + 2 ^ n else x - 2 ^ n

def State.wrBit (s : State) (f : Fld) (i n : Nat) (b : Bool) : State := s.wr f i 0 (setBitN (s.rd f i 0) n b)

/-- Count `n` events in a counter, which saturates (R29). -/
def State.bump (s : State) (f : Fld) (i j n : Nat) : State :=
  s.wr f i j (min (s.rd f i j + n) (2 ^ f.info.w - 1))

/-- Write several instances of a field with one value. -/
def State.wrAll (s : State) (f : Fld) (l : List (Nat × Nat)) (v : Nat) : State :=
  l.foldl (fun s p => s.wr f p.1 p.2 v) s

/-- All instances of a field: rows `i`, columns `j`. -/
def instances (iN jN : Nat) : List (Nat × Nat) :=
  (List.range iN).flatMap fun i => (List.range jN).map fun j => (i, j)

/-- The value that a register word gives to a field (R17). -/
def fieldOf (f : Fld) (word : Nat) : Nat := bitsOf word (f.info.lo + f.info.w - 1) f.info.lo

/-- A host write to a field (R17, R22): an encoding that the field does not list leaves it unchanged. -/
def State.put (s : State) (f : Fld) (i j v : Nat) : State := if f.legal v then s.wr f i j v else s
/-- Several fields of one register, from one written word. -/
def State.putWord (s : State) (fs : List Fld) (i j word : Nat) : State :=
  fs.foldl (fun s f => s.put f i j (fieldOf f word)) s

/-- Whether a block can be reached (R16, log 16): its power domain is on and its readiness bit is set. -/
def State.blkOn (s : State) (b : Blk) : Bool :=
  (s.boot.stage = .configured || s.boot.stage = .recovery) &&
    (match b with
     | .HTI | .HTIW => s.on .CTL_READY_HTI
     | .MBX => s.on .CTL_READY_MBX
     | .SEC => s.on .CTL_READY_SEC
     | .NVM => s.on .CTL_READY_NVM
     | .TXT => s.on .CTL_READY_TXT
     | .DEC => s.on .CTL_READY_DEC
     | .RCL => s.on .CTL_READY_RCL
     | .GORE => s.on .CTL_READY_GORES
     | _ => true)

/-- Whether a read of a block shows its registers: where it can be reached, and in P3 in the blocks that the control island keeps
powered (R26). Both host ports are down in P3, so no write arrives there (R490, log 169). -/
def State.blkShows (s : State) (b : Blk) : Bool :=
  s.blkOn b || (s.boot.stage = .p3 && (b = .CTL || (b = .NVM && s.on .CTL_READY_NVM) || (b = .SEC && s.on .CTL_READY_SEC)))

/-- A write that reaches a register of a block: dropped where the block cannot be reached (R16). -/
def State.hostWrite (s : State) (b : Blk) (f : State → State) : State := if s.blkOn b then f s else s

/-- Zero every counter of a group as one action (R29). -/
def State.zeroAll (s : State) (f : Fld) : State := s.wrAll f (instances f.info.iN f.info.jN) 0
/-- Zero row `c` of a counter group for each bit `c` of a word (R29). -/
def State.zeroRows (s : State) (f : Fld) (word : Nat) : State :=
  (List.range f.info.iN).foldl (fun s c =>
    if bitAt word c then (List.range f.info.jN).foldl (fun s k => s.wr f c k 0) s else s) s

/-- A 64-bit register written whole: its lower half is the one most recently written (R14). -/
def State.latched (s : State) (key word : Nat) : State := { s with latch := Map.put s.latch key (word % 2 ^ 32) }

def State.unlatch (s : State) (key : Nat) : State := { s with latch := Map.del s.latch key }
/-- A write of a whole 64-bit BAR0 register (R14, R16). -/
def State.hostWrite64 (s : State) (r : Fld) (i word : Nat) (f : State → State) : State :=
  s.hostWrite r.info.blk fun s => f (s.latched (r.bar0 i 0) word)

/-! ### Time, free values, output -/

/-- HTI_TIME: reference clock cycles of 10 ns (spec/02). -/
def State.now (s : State) : Nat := s.rd .HTI_TIME_COUNT

/-- Let `dt` reference clock cycles pass: HTI_TIME and the retention island's CTL_RT_TIME. -/
def State.advance (s : State) (dt : Nat) : State :=
  (s.wr .HTI_TIME_COUNT 0 0 (s.now + dt)).wr .CTL_RT_TIME_COUNT 0 0 (s.rd .CTL_RT_TIME_COUNT + dt)

/-- The next free value (log 8). -/
def State.free (s : State) : Nat := Config.freeNat s.fresh
def State.tickFree (s : State) : State := { s with fresh := s.fresh + 1 }

/-- Put an item on the output. -/
def State.emit (s : State) (o : Out) : State := { s with out := s.out ++ [o] }

/-- This Flewick's ID: its position in the torus (spec/12; RING_STS.ID). -/
def State.myId (s : State) : Nat := s.rd .RING_STS_ID

/-- The host port bound to a context (R44). -/
def State.port (s : State) (c : Nat) : Nat := s.rd .HTI_CTX_PORT c

/-! ### The host-interface error log (spec/02) -/

/-- Kinds of the error log. -/
def kMisaligned : Nat := 0x01
def kDbRange : Nat := 0x02
def kDbClosed : Nat := 0x03
def kWrongPort : Nat := 0x04
def kCtxBusy : Nat := 0x05
def kFetchFail : Nat := 0x06
def kPostFail : Nat := 0x07
def kUnmapped : Nat := 0x08
def kQueueBusy : Nat := 0x09

/-- Record an error: entry NEXT of the ring of 16; OVF when a valid entry is overwritten. -/
def State.errlog (s : State) (kind ctx port bar off : Nat) : State :=
  let n := s.rd .HTI_ERRLOG_CTL_NEXT
  let cnt := s.rd .HTI_ERRLOG_CTL_COUNT
  let s := s.wr .HTI_ERRLOG_A_KIND n 0 kind
  let s := s.wr .HTI_ERRLOG_A_CTX n 0 ctx
  let s := s.wr .HTI_ERRLOG_A_PORT n 0 port
  let s := s.wr .HTI_ERRLOG_A_TIME n 0 s.now
  let s := s.wr .HTI_ERRLOG_B_OFFSET n 0 off
  let s := s.wr .HTI_ERRLOG_B_BAR n 0 bar
  let s := s.wr .HTI_ERRLOG_CTL_NEXT 0 0 ((n + 1) % 16)
  if cnt = 16 then s.wr .HTI_ERRLOG_CTL_OVF 0 0 1 else s.wr .HTI_ERRLOG_CTL_COUNT 0 0 (cnt + 1)

/-! ### Interrupts and signals (R447 to R451) -/

/-- The context's TDI is in ERROR: the Flewick issues no request for it (R439). -/
def State.inError (s : State) (c : Nat) : Bool := s.rd .SEC_CTX_TDI c = 4
/-- Raise vector `v` of a context's range (R447), counted in IRQS. A vector outside the context's 32 is none of its own (log 168). -/
def State.raiseVec (s : State) (c v : Nat) : State :=
  if s.inError c || decide (32 ≤ v) then s else
  let p := s.port c
  let s := s.bump .HTI_CNT_COUNT c 7 1
  if s.on .HTI_PORT_CTL_SRIOV p then s.emit (.irq p (some c) v) else s.emit (.irq p none (32 * c + v))

/-- Whether a port uses compact signalling, as MBX_MODE shows it. -/
def State.compact (s : State) (p : Nat) : Bool :=
  if p = 0 then s.on .MBX_MODE_COMPACT0 else s.on .MBX_MODE_COMPACT1

/-- Write the doorbell word of a port, unless a write is in flight (R450). -/
def State.sumWrite (s : State) (p : Nat) : State :=
  if bitAt s.mbx.sumBusy p then { s with mbx := { s.mbx with sumPend := setBitN s.mbx.sumPend p true } }
  else
    let s := s.emit (.write (64 + p) (s.rd .MBX_SUM_ADDR_BASE p * 8) 8 (s.rd .MBX_SUM_BITS p))
    { s with mbx := { s.mbx with sumBusy := setBitN s.mbx.sumBusy p true } }

/-- A source of a context fires: 0 MB, 1 EVT, 2 FLT, 3 QF (R448, R450, R451). -/
def State.signal (s : State) (c src : Nat) : State :=
  let p := s.port c
  if s.compact p && s.on .MBX_CTX_VALID c then
    let n := 4 * s.rd .MBX_CTX_POS c + src
    if s.bit .MBX_SUM_BITS n p then s else (s.wrBit .MBX_SUM_BITS p n true).sumWrite p
  else
    match src with
    | 0 => s.raiseVec c (s.rd .HTI_W_MBVEC_MBX c)
    | 1 => s.raiseVec c (s.rd .HTI_W_MBVEC_EVT c)
    | 2 => s.raiseVec c (s.rd .HTI_W_MBVEC_FLT c)
    | _ => s

/-! ### Events (R452 to R454) -/

/-- A context's event state; a context never heard of has the empty one. -/
def EvtCtx.empty : EvtCtx := ⟨[], 0, 0, false, 0, 0, true, none⟩
def State.evt (s : State) (c : Nat) : EvtCtx := (Map.find s.mbx.evts c).getD EvtCtx.empty
def State.setEvt (s : State) (c : Nat) (e : EvtCtx) : State :=
  { s with mbx := { s.mbx with evts := Map.put s.mbx.evts c e } }

/-- Write the first record of the backlog into the ring while there is room; signal on empty to non-empty. -/
def State.drainEvts (s : State) (c : Nat) : Nat → State
  | 0 => s
  | fuel + 1 =>
    let e := s.evt c
    let head := s.rd .HTI_W_EVT_IDX_HEAD c
    let tail := s.rd .HTI_W_EVT_IDX_TAIL c
    match e.backlog with
    | [] => s
    | r :: rest =>
      if !e.on || s.inError c || (tail + 1) % 2 ^ e.log = head then s
      else
        let s := s.emit (.write c (e.base + 64 * tail) 64 (evtBytes r e.phase e.dropped))
        let t' := (tail + 1) % 2 ^ e.log
        let s := s.wr .HTI_W_EVT_IDX_TAIL c 0 t'
        let s := s.setEvt c { e with
          backlog := rest, dropped := 0, phase := (if t' = 0 then !e.phase else e.phase), last := some (r, e.dropped) }
        let s := if tail = head then s.signal c 1 else s
        State.drainEvts s c fuel

/-- Raise an event for a context (R452 to R454). -/
def State.event (s : State) (c kind handle data : Nat) : State :=
  let e := s.evt c
  let s := s.bump .MBX_CNT_COUNT 3 0 1
  if e.backlog.length ≥ Config.backlogMax then
    let s := s.setEvt c { e with seq := e.seq + 1, dropped := e.dropped + 1 }
    (s.bump .MBX_CNT_COUNT 4 0 1).wr .HTI_W_MBSTS_EVT_LOST c 0 1
  else
    let r : EvtRec := ⟨kind, e.seq + 1, handle, s.now, data⟩
    (s.setEvt c { e with seq := e.seq + 1, backlog := e.backlog ++ [r] }).drainEvts c (e.backlog.length + 1)

/-- Raise a management event: to every context with HTI_CTX.MGMT set (R453). -/
def State.mgmtEvent (s : State) (kind data : Nat) : State :=
  (List.range 64).foldl (fun s c => if s.on .HTI_CTX_MGMT c then s.event c kind 0 data else s) s

/-! ### Fault records (R455 to R457) -/

def State.flt (s : State) (c : Nat) : FltCtx := (Map.find s.mbx.flts c).getD ⟨[], 0⟩

/-- Kinds that are archived (R456): all but GRAMMAR_STUCK. -/
def archivedKind (kind : Nat) : Bool := kind != 4

/-- Write a fault record to a context's fault ring and, for an archived kind, to the archive. -/
def State.fault (s : State) (c kind handle : Nat) (status : Option Status) (cause detail : Nat) : State :=
  let fl := s.flt c
  let code := match status with | some st => st.code | none => 0
  let r : FaultRec := ⟨kind, archivedKind kind, c, fl.seq + 1, handle, s.now % 2 ^ 48, code, cause, detail⟩
  let s := s.bump .MBX_CNT_COUNT 5 0 1
  let s := if archivedKind kind then
      let a := s.mbx.archive ++ [r]
      let a := if a.length > Config.archiveMax then a.drop 1 else a
      ({ s with mbx := { s.mbx with archive := a, archNext := s.mbx.archNext + 1 } }).bump .MBX_CNT_COUNT 7 0 1
    else s
  let nxt := s.rd .HTI_W_FLT_IDX_NEXT c
  let head := s.rd .HTI_W_FLT_IDX_HEAD c
  if (nxt + 1) % 64 = head then
    let s := { s with mbx := { s.mbx with flts := Map.put s.mbx.flts c { fl with seq := fl.seq + 1 } } }
    (s.bump .MBX_CNT_COUNT 6 0 1).wr .HTI_W_MBSTS_FLT_OVF c 0 1
  else
    let fl' : FltCtx := ⟨Map.put fl.slots nxt r, fl.seq + 1⟩
    let s := { s with mbx := { s.mbx with flts := Map.put s.mbx.flts c fl' } }
    let s := s.wr .HTI_W_FLT_IDX_NEXT c 0 ((nxt + 1) % 64)
    if nxt = head then s.signal c 2 else s

/-! ### Queue pairs and completions (R46 to R57, R66) -/

def pairKey (c q : Nat) : Nat := 256 * c + q
def State.pair (s : State) (c q : Nat) : Option Pair := if q < 256 then Map.find s.hti.pairs (pairKey c q) else none
def State.setPair (s : State) (c q : Nat) (p : Pair) : State :=
  { s with hti := { s.hti with pairs := Map.put s.hti.pairs (pairKey c q) p } }
def State.dropPair (s : State) (c q : Nat) : State :=
  { s with hti := { s.hti with pairs := Map.del s.hti.pairs (pairKey c q) } }
def State.setCmds (s : State) (l : List Cmd) : State := { s with hti := { s.hti with cmds := l } }

/-- The accepted command with a number. -/
def State.cmd (s : State) (k : Nat) : Option Cmd := s.hti.cmds.find? fun c => c.id = k
def State.dropCmd (s : State) (k : Nat) : State := s.setCmds (s.hti.cmds.filter fun c => c.id != k)
def State.setPhase (s : State) (k : Nat) (ph : CmdPhase) : State :=
  s.setCmds (s.hti.cmds.map fun c => if c.id = k then { c with phase := ph } else c)

/-- The pair of a command whose pairs were closed by a write of EN = 0: it runs on to its end and writes no completion (R46). -/
def noPair : Nat := 256

/-- Mark a pair faulted in HTI_W_QFAULT (R53); a faulted pair 0 fetches nothing, so RDY reads 0 (log 157). -/
def State.setQfault (s : State) (c q : Nat) : State :=
  let w := s.rd .HTI_W_QFAULT_PAIR c (q / 64)
  let s := s.wr .HTI_W_QFAULT_PAIR c (q / 64) (setBitN w (q % 64) true)
  if q = 0 then (s.wr .HTI_W_AQCFG_FAULT c 0 1).wr .HTI_W_AQCFG_RDY c 0 0 else s

/-- A completion ring has room (R48). -/
def Pair.room (p : Pair) : Bool := (p.widx + 1) % 2 ^ p.cqLog != p.head

/-- Write one completion into a pair's ring that has room: the entry, the write index and phase (R51), the
counters, then the interrupt (R64, R66). -/
def State.postOne (s : State) (c q : Nat) (p : Pair) (e : Cpl) : State :=
  let s := s.emit (.write c (p.cqBase + 32 * p.widx) 32 (cplBytes e s.now p.phase p.fetch))
  let w := (p.widx + 1) % 2 ^ p.cqLog
  let s := s.bump .HTI_CNT_COUNT c 1 1
  let s := if e.status.driverErr then s.bump .HTI_CNT_COUNT c 2 1 else s
  let s := if e.status = .retryLater then s.bump .HTI_CNT_COUNT c 3 1 else s
  let p := { p with widx := w, phase := if w = 0 then !p.phase else p.phase }
  let p := match p.closer with
    | some _ => if e.status = .cancelled then { p with closeCan := p.closeCan + 1 } else { p with closeOk := p.closeOk + 1 }
    | none => p
  let s := s.dropCmd e.cmd
  if e.quiet then s.setPair c q p
  else
    let p := { p with unsig := p.unsig + 1, oldest := if p.unsig = 0 then s.now else p.oldest }
    if q = 0 || p.coCount ≤ 1 || p.unsig ≥ p.coCount then
      (s.setPair c q { p with unsig := 0 }).raiseVec c (if q = 0 then s.rd .HTI_W_AQCFG_VEC c else p.vec)
    else s.setPair c q p

/-- Write held completions in order while the ring has room (R52, R53). -/
def State.drainCq (s : State) (c q : Nat) : Nat → State
  | 0 => s
  | fuel + 1 =>
    match s.pair c q with
    | none => s
    | some p =>
      match p.held with
      | [] => s
      | e :: rest =>
        if p.postFail || s.inError c || !p.room then s
        else State.drainCq (s.postOne c q { p with held := rest } e) c q fuel

/-- Credit of a host meter, full when it is not listed, and its bursts in units of 10^-9 command (R377). -/
def State.inForce (s : State) (f : Fld) (i : Nat := 0) (j : Nat := 0) : Nat :=
  (Map.find s.ring.inForce (f.key i j)).getD (s.rd f i j)
def State.hostBursts (s : State) (c : Nat) : Nat × Nat :=
  let m2 := s.inForce .SHP_HPOL_A_MODE c = 2
  let b2 := s.inForce .SHP_HPOL_B_BURST2 c
  (s.inForce .SHP_HPOL_A_CBS c * 10 ^ 9, (if m2 then max b2 1 else b2) * 10 ^ 9)
def State.hostMeter (s : State) (c : Nat) : Meter :=
  (Map.find s.ring.hmet c).getD ⟨(s.hostBursts c).1, (s.hostBursts c).2⟩
def State.setHostMeter (s : State) (c : Nat) (m : Meter) : State :=
  { s with ring := { s.ring with hmet := Map.put s.ring.hmet c m } }
/-- A command that the host policer coloured completes: it is counted, or its credit returns on a status of class
0x002x (R377). Colours: 0 green, 1 yellow, 2 exempt, 3 red or not policed. -/
def State.colourDone (s : State) (c : Cmd) (st : Status) : State :=
  if !st.driverErr then (if c.colour ≤ 2 then s.bump .SHP_CTX_CNT_COUNT c.ctx c.colour 1 else s)
  else
    let m := s.hostMeter c.ctx
    let b := s.hostBursts c.ctx
    let tc := min (m.tc + 10 ^ 9) b.1
    let te := min (m.te + 10 ^ 9) b.2
    match s.inForce .SHP_HPOL_A_MODE c.ctx, c.colour with
    | 1, 0 => s.setHostMeter c.ctx { m with tc := tc }
    | 1, 1 => s.setHostMeter c.ctx { m with te := te }
    | 2, 0 => s.setHostMeter c.ctx ⟨tc, te⟩
    | 2, 1 => s.setHostMeter c.ctx { m with te := te }
    | _, _ => s

/-- Count a fetched entry in CMD_ACCEPTED and FETCH_BYTES. -/
def State.countFetch (s : State) (ctx : Nat) : State := (s.bump .HTI_CNT_COUNT ctx 0 1).bump .HTI_CNT_COUNT ctx 6 64

/-- End a command: its completion is written or held; without a pair none is written (R46). The fetch of a STATS_GET counts only
now (R74). -/
def State.finish1 (s : State) (k : Nat) (st : Status) (cause r0 r1 r2 : Nat) : State :=
  match s.cmd k with
  | none => s
  | some c =>
    let s := if c.op = 0x06 then s.countFetch c.ctx else s
    match s.pair c.ctx c.pair with
    | none => s.dropCmd k
    | some p =>
      let e : Cpl := ⟨k, Desc.tag c.desc, st, cause, r0, r1, r2, Desc.quiet c.desc⟩
      let s := (s.setPhase k .done).colourDone c st
      let s := if st = .keyFail then s.bump .SEC_CNT_COUNT 2 0 1 else s
      let s := s.setPair c.ctx c.pair { p with held := p.held ++ [e] }
      s.drainCq c.ctx c.pair (p.held.length + 1)

/-- A fence or a close that waits and whose condition now holds (R70, R73). -/
def State.ripe (s : State) (c : Cmd) : Bool :=
  c.phase = .running &&
    ((c.op = 0x04 && s.hti.cmds.all fun d => d.ctx != c.ctx || d.pair = noPair || d.id ≥ c.id) ||
     (c.op = 0x02 && s.hti.cmds.all fun d =>
        d.ctx != c.ctx || d.pair != Desc.byte c.desc 8 || d.id = c.id || (d.phase = .done &&
          (match s.pair c.ctx (Desc.byte c.desc 8) with | some p => p.postFail | none => true))))

/-- Complete a ripe fence or close. A close drops the pair; completions that a failed ring cannot take count
as CANCELLED (R71). -/
def State.finishRipe (s : State) (c : Cmd) : State :=
  if c.op = 0x04 then s.finish1 c.id .ok 0 c.ahead 0 0
  else
    let q := Desc.byte c.desc 8
    match s.pair c.ctx q with
    | none => s.finish1 c.id .ok 0 0 0 0
    | some p =>
      let s := s.setCmds (s.hti.cmds.filter fun d => d.id = c.id || d.ctx != c.ctx || d.pair != q)
      let w := s.rd .HTI_W_QFAULT_PAIR c.ctx (q / 64)
      let s := s.wr .HTI_W_QFAULT_PAIR c.ctx (q / 64) (setBitN w (q % 64) false)
      (s.dropPair c.ctx q).finish1 c.id .ok 0 p.closeOk (p.closeCan + p.held.length) 0

/-- Complete every fence and close that has become ripe. -/
def State.settle (s : State) : Nat → State
  | 0 => s
  | fuel + 1 =>
    match s.hti.cmds.find? s.ripe with
    | some c => State.settle (s.finishRipe c) fuel
    | none => s

/-- End a command with a status, a cause and result words, and let what waited for it complete. -/
def State.finish (s : State) (k : Nat) (st : Status) (cause : Nat := 0) (r0 : Nat := 0) (r1 : Nat := 0)
    (r2 : Nat := 0) : State :=
  let s := s.finish1 k st cause r0 r1 r2
  s.settle s.hti.cmds.length

/-- Raise QF and the fault record of a faulted pair (R53). -/
def State.faultPair (s : State) (c q kind slot : Nat) : State :=
  let s := s.setQfault c q
  let s := s.errlog kind c (s.port c) 7 q
  let s := s.fault c 5 0 none 0 (packBytes [(0, q), (1, kind), (4, slot)])
  if s.compact (s.port c) then s.signal c 3 else s

end Sys2Proof.Machine
end

