-- ==== Sys2Proof/Machine/Gating.lean ====
section
/-! DEFINITION. Opcodes and the functions that gate them (spec/02 R75), functions and their readiness (spec/17 R472, R481). -/

namespace Sys2Proof.Machine

/-- The function that gates an opcode, numbered as CTL_FN; 8 is HTI. None: the opcode is not assigned. -/
def fnOf (op : Nat) : Option Nat :=
  if 0x01 ≤ op ∧ op ≤ 0x06 then some 8
  else if 0x10 ≤ op ∧ op ≤ 0x1A then some 0
  else if 0x20 ≤ op ∧ op ≤ 0x22 then some 3
  else if op = 0x23 ∨ (0x33 ≤ op ∧ op ≤ 0x35) then some 4
  else if (0x30 ≤ op ∧ op ≤ 0x32) ∨ op = 0x36 then some 6
  else if 0x40 ≤ op ∧ op ≤ 0x46 then some 5
  else if (0x50 ≤ op ∧ op ≤ 0x52) ∨ op = 0x55 then some 7
  else if op = 0x53 ∨ op = 0x54 ∨ op = 0x62 ∨ op = 0x63 ∨ (0x71 ≤ op ∧ op ≤ 0x73) then some 0
  else if op = 0x60 ∨ op = 0x61 then some 2
  else if op = 0x70 then some 1
  else none

/-- Opcodes marked management-only. -/
def mgmtOnly (op : Nat) : Bool := [0x55, 0x62, 0x63, 0x70, 0x71, 0x73].contains op

/-- Index of a function in CTL_READY (R472). -/
def fnIndex (f : Nat) : Nat := [0, 1, 2, 5, 6, 7, 18, 56, 3].getD f 0

/-- A function is ready; GORES and POOL with one panel or port. -/
def State.fnReady (s : State) (f : Nat) : Bool :=
  match f with
  | 0 => s.on .CTL_READY_CONTROL
  | 1 => s.on .CTL_READY_NVM
  | 2 => s.on .CTL_READY_SEC
  | 3 => s.on .CTL_READY_TXT
  | 4 => s.on .CTL_READY_DEC
  | 5 => s.on .CTL_READY_RCL
  | 6 => s.on .CTL_READY_GORES
  | 7 => s.on .CTL_READY_POOL
  | _ => s.on .CTL_READY_HTI

/-- Commands of a function that are accepted and have not completed. -/
def State.fnCmds (s : State) (f : Nat) : List Cmd := s.hti.cmds.filter fun c => fnOf c.op = some f && c.phase != .done
/-- A command of a function other than HTI is accepted and has not completed. -/
def State.anyWork (s : State) : Bool := s.hti.cmds.any fun c => fnOf c.op != some 8 && c.phase != .done

end Sys2Proof.Machine
end

