-- ==== Sys2Proof/Machine/RingQ.lean ====
section
/-! DEFINITION. Sending on the ring: routes (spec/12 R352), frames (R346, R347), local queues with their lengths, limits
and start tags (spec/13 R369, R370, R373). -/

namespace Sys2Proof.Machine

def State.setRing (s : State) (r : Ring) : State := { s with ring := r }

/-! ### Routes -/

def State.dimX (s : State) : Nat := s.inForce .RING_CFG_XDIM + 1
def State.dimY (s : State) : Nat := s.inForce .RING_CFG_YDIM + 1
def ringPort (set ydim neg : Bool) : Nat := 4 * b2n set + 2 * b2n ydim + (if ydim then b2n (!neg) else b2n neg)

/-- A member of the fabric map (JOINED or LEAVING, log 63). -/
def State.isMember (s : State) (n : Nat) : Bool := s.fab.members.contains n
/-- Whether a member's port is up: the own ports as they are, the others as the map shows them. -/
def State.portUp (s : State) (n p : Nat) : Bool :=
  if n = s.myId then s.on .RING_PORT_STS_UP p else s.bit .RING_MAP_LINKS p n

/-- A position one step on in a ring of `dim` positions. -/
def stepPos (dim a : Nat) (neg : Bool) : Nat := if neg then (a + dim - 1) % dim else (a + 1) % dim
/-- Whether every segment from `cur` to `target` is up; `id` gives the Flewick at a position, `prev` the last position that
trains, `n` the positions left. A position without a member, or with both its ports down, is passed by its bypass. -/
def State.legUp (s : State) (dim : Nat) (id : Nat → Nat) (set ydim neg : Bool) (target : Nat) : Nat → Nat → Nat → Bool
  | 0, _, _ => false
  | n + 1, prev, cur =>
    let nx := stepPos dim cur neg
    let pin := ringPort set ydim (!neg)
    let pout := ringPort set ydim neg
    let joined := s.portUp (id prev) pout && s.portUp (id nx) pin
    if nx = target then joined && s.isMember (id nx)
    else if s.isMember (id nx) && (s.portUp (id nx) pin || s.portUp (id nx) pout) then
      joined && State.legUp s dim id set ydim neg target n nx nx
    else State.legUp s dim id set ydim neg target n prev nx

/-- One leg of a route: direction and set (R352); an empty leg takes the set given. -/
def State.leg (s : State) (dim : Nat) (id : Nat → Nat) (ydim set : Bool) (a b : Nat) : Option (Bool × Bool) :=
  if a = b then some (false, set)
  else
    let e := (b + dim - a) % dim
    let neg := decide (dim - e < e)
    [(neg, set), (neg, !set), (!neg, set), (!neg, !set)].find? fun (t : Bool × Bool) =>
      s.legUp dim id t.2 ydim t.1 b dim a a

/-- A route: first port, and the ROUTE bits. `set` is the set of the last leg that moves (log 64). -/
structure Route where
  port : Nat
  set : Bool
  xneg : Bool
  yneg : Bool
  yfirst : Bool
  deriving DecidableEq, Repr

/-- The route of one ORDER, or none. -/
def State.routeBy (s : State) (dst : Nat) (set yfirst : Bool) : Option Route :=
  let sx := s.myId % 32
  let sy := s.myId / 32
  let dx := dst % 32
  let dy := dst / 32
  let turn := if yfirst then 32 * dy + sx else 32 * sy + dx
  if !s.isMember turn && turn != s.myId && turn != dst then none
  else
    let rowOf (y x : Nat) : Nat := 32 * y + x
    let colOf (x y : Nat) : Nat := 32 * y + x
    let xl := s.leg s.dimX (rowOf (if yfirst then dy else sy)) false set sx dx
    let yl := s.leg s.dimY (colOf (if yfirst then sx else dx)) true set sy dy
    match xl, yl with
    | some x, some y =>
      let xp := ringPort x.2 false x.1
      let yp := ringPort y.2 true y.1
      let port := if yfirst then (if sy = dy then xp else yp) else (if sx = dx then yp else xp)
      let last := if yfirst then (if sx = dx then y.2 else x.2) else (if sy = dy then x.2 else y.2)
      some ⟨port, last, x.1, y.1, yfirst⟩
    | _, _ => none
/-- The route to a Flewick for a context and a VC (R352). -/
def State.route (s : State) (dst ctx vc : Nat) : Option Route :=
  let set := bitAt (Nat.xor (Nat.xor s.myId dst) (Nat.xor ctx vc)) 0
  match s.routeBy dst set false with
  | some r => some r
  | none => s.routeBy dst set true

/-! ### Local queues (R369, R370, R373) -/

def localKey (p v c : Nat) : Nat := (p * 8 + v) * 64 + c
def State.localQ (s : State) (q : Nat) : List QFrame := (Map.find s.ring.locals q).getD []
def State.transitQ (s : State) (q : Nat) : List QFrame := (Map.find s.ring.transit q).getD []
def putQ (m : Map (List QFrame)) (q : Nat) (l : List QFrame) : Map (List QFrame) := if l.isEmpty then Map.del m q else Map.put m q l
def chargedLen (f : RFrame) (ovh : Nat) : Nat := 32 + f.len + 16 * b2n f.enc + ovh
def queueLen (l : List QFrame) : Nat := l.foldl (fun a q => a + q.l) 0
/-- Charged bytes in the local queues of one gondola die. -/
def State.dieLen (s : State) (die : Nat) : Nat :=
  s.ring.locals.foldl (fun a (p : Nat × List QFrame) => if p.1 / 2048 = die then a + queueLen p.2 else a) 0
def State.localRoom (s : State) (q l : Nat) : Bool :=
  decide (queueLen (s.localQ q) + l ≤ 2 ^ 20) && decide (s.dieLen (q / 2048) + l ≤ 2 ^ 26)
def State.isPriv (s : State) (v : Nat) : Bool := s.inForce .SHP_VC_PRIV v != 0

/-- Tag a frame that enters local queue `q` (R373): its start tag, and the queue's new finish tag. -/
def State.tagOf (s : State) (q l : Nat) : Nat × Nat :=
  let f := (Map.find s.ring.fin q).getD 0
  let v := (Map.find s.ring.vtime (q / 64)).getD 0
  let st := if (s.localQ q).isEmpty then max v f else f
  (st, st + (l * 65536 + s.inForce .SHP_CTXQ_WEIGHT (q % 64) (q / 64 % 8) - 1) / max 1 (s.inForce .SHP_CTXQ_WEIGHT (q % 64) (q / 64 % 8)))
/-- V of a port's VC rises to its greatest finish tag while no local queue of it holds a frame (R373). -/
def State.settleV (s : State) (pv : Nat) : State :=
  if s.ring.locals.any fun (q : Nat × List QFrame) => q.1 / 64 = pv then s
  else
    let v := s.ring.fin.foldl (fun a (q : Nat × Nat) => if q.1 / 64 = pv then max a q.2 else a) 0
    if v = 0 then s else s.setRing { s.ring with vtime := Map.put s.ring.vtime pv v }
/-- Put a frame at the tail of a local queue. -/
def State.enterLocal (s : State) (q : Nat) (f : RFrame) : State :=
  let s := if s.isPriv (q / 64 % 8) then s.settleV (q / 64) else s
  let l := chargedLen f (s.inForce .SHP_PORT_OVH (q / 512))
  let t := if s.isPriv (q / 64 % 8) then s.tagOf q l else (0, (Map.find s.ring.fin q).getD 0)
  s.setRing { s.ring with
    locals := putQ s.ring.locals q (s.localQ q ++ [⟨f, l, s.now, t.1⟩])
    fin := if t.2 = 0 then s.ring.fin else Map.put s.ring.fin q t.2 }

/-- A frame that this Flewick sources takes its route: into a local queue, to wait for room or for a route (R355, R369). -/
def State.routeFrame (s : State) (f : RFrame) : State :=
  match s.route f.dst f.ctx f.vc with
  | none => s.setRing { s.ring with unrouted := s.ring.unrouted ++ [(f, s.now)] }
  | some r =>
    let f := { f with set := r.set, xneg := r.xneg, yneg := r.yneg, yfirst := r.yfirst }
    let q := localKey r.port f.vc f.ctx
    if s.ring.blocked.any (fun b => b.ctx = f.ctx && b.vc = f.vc) || !s.localRoom q (chargedLen f (s.inForce .SHP_PORT_OVH r.port)) then
      s.setRing { s.ring with blocked := s.ring.blocked ++ [f] }
    else s.enterLocal q f

/-! ### Messages become frames (R346, R347, R376) -/

/-- KIND codes of the model's messages (the codes are the firmware's own, log 62). -/
def MsgKind.code : MsgKind → Nat
  | .shipOffer => 1 | .shipAccept => 2 | .shipRefuse => 3 | .tileFrame => 4 | .spoolFrame => 5 | .shipResend => 6
  | .shipAbort => 7 | .commitReq => 8 | .replicate => 9 | .replicateAck => 10 | .commitAck => 11 | .commitNak => 12
  | .tetherQuery => 13 | .tetherRecord => 14 | .spoolEntries => 15 | .spoolAck => 16 | .gatherReq => 17 | .gatherSpool => 18
  | .sessionNotice => 19 | .publishOpen => 20 | .publishReady => 21 | .publishContent => 22 | .publishCommit => 23
  | .publishAck => 24 | .publishNak => 25 | .holdTake => 26 | .holdRelease => 27 | .holdAnswer => 28 | .regionDestroy => 29
  | .regionAnswer => 30 | .hello => 31 | .join => 32 | .mapChange => 33 | .mapChangeAck => 34 | .mapCommit => 35
  | .mapRequest => 36 | .mapBeat => 37 | .heartbeat => 38 | .leaderPropose => 39 | .leaderAck => 40 | .expelled => 41
  | .pause => 42 | .pauseAck => 43 | .meterReq => 44 | .meterAnswer => 45 | .nack => 46

/-- The colour that the running command behind a message was given (R376): a command on its handle, or a step with it. -/
def State.causeColour (s : State) (c handle : Nat) : Nat :=
  match s.hti.cmds.find? fun d => d.ctx = c && d.phase = .running &&
      ((handle != 0 && Desc.handle d.desc = handle) || s.attn.steps.any fun t => t.cmd = d.id && t.entries.any fun e => e.handle = handle) with
  | some d => if d.colour = 1 then 1 else 0
  | none => 0

/-- The job key slot of a transfer's frames (R347): VC2 frames of a session whose transfer names one. -/
def State.jobKey (s : State) (vc handle : Nat) : Option Nat :=
  if vc != 2 then none
  else match s.ses.tab.find? fun p => p.2.handle = handle && p.2.st != .free with
    | some p => (match p.2.xfer with | some t => if t.key < 16 then some t.key else none | none => none)
    | none => none

/-- Frames of `n` payload bytes: offset and length of each. -/
def cutFrames : Nat → Nat → Nat → List (Nat × Nat)
  | 0, off, n => [(off, n)]
  | fuel + 1, off, n => if n ≤ 4096 then [(off, n)] else (off, 4096) :: cutFrames fuel (off + 4096) (n - 4096)

def flowKey (peer c v : Nat) : Nat := (peer * 64 + c) * 8 + v

/-- Source the frames of one message. -/
def State.sourceFrames (s : State) (dst vc ctx : Nat) (k : MsgKind) (handle : Nat) (content : List Nat) : State :=
  let n := Config.msgBytes k.code content
  let bytes := Config.msgPayload k.code content
  let cuts := cutFrames (n / 4096 + 1) 0 n
  let fk := flowKey dst ctx vc
  let seq := (Map.find s.ring.txSeq fk).getD 0
  let msg := (Map.find s.ring.txMsg fk).getD 0
  let key := s.jobKey vc handle
  let enc := key.isSome || s.inForce .RING_CFG_FABRIC_ENC != 0
  let slot := s.rd .SEC_FABRIC_TX_SLOT
  let ik := ctx * 32 + (match key with | some j => j | none => 16 + slot)
  let iv := (Map.find s.ring.ivc ik).getD 0
  let colour := s.causeColour ctx handle
  let s := s.setRing { s.ring with
    txSeq := Map.put s.ring.txSeq fk (seq + cuts.length)
    txMsg := Map.put s.ring.txMsg fk (msg + 1)
    ivc := if enc then Map.put s.ring.ivc ik (iv + cuts.length) else s.ring.ivc
    sent := if vc = 4 then s.ring.sent ++ [⟨fk, seq, seq + cuts.length - 1, handle⟩] else s.ring.sent }
  let s := s.bump .RING_CNT_COUNT 0 0 cuts.length
  if !s.isMember dst then s.bump .RING_CNT_COUNT 7 0 cuts.length
  else cuts.zipIdx.foldl (fun s (p : (Nat × Nat) × Nat) =>
    s.routeFrame ⟨vc, ctx, dst, s.myId, s.rd .CTL_SES_PARTNER_BOOTGEN, enc, enc && key.isNone, key.getD (if enc then slot else 0), colour, 0, false, false,
      false, false, false, p.2 = 0, p.2 + 1 = cuts.length, k.code, p.1.2, seq + p.2, if enc then iv + 1 + p.2 else 0, msg,
      p.1.1, bytes / 2 ^ (8 * p.1.1) % 2 ^ (8 * p.1.2)⟩) s

/-- Send a message to a neighbour by its link or its sideband, outside the map's routes (R357, R362). -/
def State.sendRaw (s : State) (dst vc : Nat) (k : MsgKind) (handle epoch a b : Nat) (args : List Nat) : State :=
  s.emit (.msg dst vc k handle epoch a b args)

/-- No frame is sourced while FABRIC_ENC is 1 and the TX slot is empty (R422). -/
def State.noKey (s : State) : Bool :=
  s.inForce .RING_CFG_FABRIC_ENC != 0 && (if s.rd .SEC_FABRIC_TX_SLOT = 0 then !s.on .SEC_FABRIC_VALID0 else !s.on .SEC_FABRIC_VALID1)

/-- Send a message to another Flewick on a VC (R98, R350): its content goes out as the model's message, its frames enter
the ring's local queues. A message to this Flewick itself takes no frame. -/
def State.send (s : State) (dst vc : Nat) (k : MsgKind) (handle epoch a b : Nat) (args : List Nat) : State :=
  if s.noKey && dst != s.myId then s
  else
  let s := s.sendRaw dst vc k handle epoch a b args
  if dst = s.myId then s else s.sourceFrames dst vc (bitsOf handle 49 44) k handle (handle :: epoch :: a :: b :: args)

end Sys2Proof.Machine
end

