-- ==== Sys2Proof/Machine/Handles.lean ====
section
/-! DEFINITION. Sessions by handle, liveness (R81), ownership (R84), the state names of the descriptor
(R86), and when an accepted command starts (R61 to R63, R534). -/

namespace Sys2Proof.Machine

/-- Local descriptor index of a handle, for a descriptor that is not FREE (R81). -/
def State.sesKey (s : State) (h : Nat) : Option Nat :=
  (s.ses.tab.find? fun p => p.2.handle = h && p.2.st != .free).map Prod.fst

def State.sess (s : State) (h : Nat) : Option Session :=
  (s.ses.tab.find? fun p => p.2.handle = h && p.2.st != .free).map Prod.snd

/-- Replace the descriptor of a handle. -/
def State.setSess (s : State) (x : Session) : State :=
  match s.sesKey x.handle with
  | some k => { s with ses := { s.ses with tab := Map.put s.ses.tab k x } }
  | none => s

def State.updSess (s : State) (h : Nat) (f : Session → Session) : State :=
  match s.sess h with
  | some x => s.setSess (f x)
  | none => s

/-- A handle names a live session of a context here (R81; step 8 of R58). -/
def State.liveSess (s : State) (c h : Nat) : Bool := hGen h = 1 && hCtx h = c && (s.sess h).isSome

/-- STATE codes of the descriptor (R86). -/
def SState.code : SState → Nat
  | .free => 0 | .aloft => 1 | .parked => 2 | .deflated => 3 | .reviving => 4 | .shipping => 5
  | .rebuilding => 6 | .orphaned => 7 | .failed => 8 | .remote => 9

def SState.ofCode : Nat → SState
  | 1 => .aloft | 2 => .parked | 3 => .deflated | 4 => .reviving | 5 => .shipping | 6 => .rebuilding
  | 7 => .orphaned | 8 => .failed | 9 => .remote | _ => .free

/-- CAUSE of OWNER_CONFLICT (R84): the owner last recorded, bit 15 clear at the home or its inheritor. -/
def Session.ownerCause (x : Session) : Nat :=
  x.owner % 1024 + (if x.home || x.inherited then 0 else 0x8000)

/-- Sessions ALOFT, and descriptors not FREE (CTL_SES_GAUGE). -/
def State.aloftCount (s : State) : Nat := (s.ses.tab.filter fun p => p.2.st = .aloft).length
def State.liveCount (s : State) : Nat := (s.ses.tab.filter fun p => p.2.st != .free).length

/-- The state a session takes when it would be ALOFT: PARKED at the ALOFT limit (R90). -/
def State.aloftOrParked (s : State) : SState :=
  if s.aloftCount < Config.aloftMax then .aloft else .parked

/-- A step item of the session is in flight (R92). -/
def State.itemInFlight (s : State) (h : Nat) : Bool :=
  s.attn.steps.any fun st => st.entries.any fun e => e.handle = h && e.admitted && !e.gone

/-- The session's spool is not being gathered: commands that read or append to it may run (R165). -/
def State.spoolHere (s : State) (h : Nat) : Bool :=
  match s.sess h with
  | some x => !x.gathering
  | none => true

/-- A KV_APPEND of the session is running (R238). -/
def State.kvInFlight (s : State) (h : Nat) : Bool := s.attn.kvRuns.any fun r => r.handle = h

/-- SESS_CANCEL, and QUEUE_CLOSE with ABORT, are not held behind a command of the same handle (R61). -/
def neverHeld (c : Cmd) : Bool := c.op = 0x19 || (c.op = 0x02 && Desc.flag c.desc 8)

/-- Whether an accepted command may start now: R61 within its ring, R63 across rings, R62 for FENCE. -/
def State.startable (s : State) (c : Cmd) : Bool :=
  s.hti.cmds.all fun d =>
    !(d.id < c.id && d.ctx = c.ctx) ||
      (!(!neverHeld c && Desc.handle c.desc != 0 && Desc.handle d.desc = Desc.handle c.desc &&
          (d.pair = c.pair || d.phase != .done)) &&
       !(Desc.fence c.desc && d.pair = c.pair))

/-- Opcodes that name sessions: they wait until SOFT has re-verified the descriptors (R93, R485). -/
def namesSession (op : Nat) : Bool :=
  decide (0x11 ≤ op ∧ op ≤ 0x1A) || [0x20, 0x23, 0x30, 0x31, 0x32, 0x33, 0x35, 0x53, 0x54].contains op

/-! ### TDISP (R437, R438) -/

/-- An IDE stream is in secure state while a key set runs in each direction (R433). -/
def IdeStream.secure (t : IdeStream) : Bool := t.rxOn.isSome && t.txOn.isSome
/-- A selective stream of the port is in secure state. -/
def State.teeOn (s : State) (p : Nat) : Bool := s.sec.streams.any fun (t : IdeStream) => t.port = p && decide (1 ≤ t.num) && t.secure
/-- The context's TDI is in CONFIG_LOCKED, RUN or ERROR. -/
def State.locked (s : State) (c : Nat) : Bool := decide (2 ≤ s.rd .SEC_CTX_TDI c)
/-- A BAR0 write to a field that R437 freezes. -/
def State.lockWrite (s : State) (c : Nat) (f : State → State) : State :=
  if s.locked c then s.bump .SEC_CNT_COUNT 9 0 1 else f s

/-- The owner of the slot that a command names, and whether the command changes the slot. -/
def State.slotOwner (s : State) (c : Cmd) : Option (Nat × Bool) :=
  let b := Desc.byte c.desc 16
  let h := Desc.handle c.desc
  let shape (n : Nat) (w : Bool) : Option (Nat × Bool) := (Map.find s.attn.shapes n).map fun g => (g.owner, w)
  let table (n : Nat) (w : Bool) : Option (Nat × Bool) := (Map.find s.dec.tables n).map fun t => (t.owner, w)
  let gram (n : Nat) (w : Bool) : Option (Nat × Bool) := (Map.find s.dec.grams n).map fun g => (g.owner, w)
  let helper (n : Nat) (w : Bool) : Option (Nat × Bool) := (Map.find s.rcl.helpers n).map fun g => (g.owner, w)
  match c.op with
  | 0x10 => shape b false
  | 0x30 => shape (Desc.byte c.desc 18) false
  | 0x36 => shape (h % 64) true
  | 0x20 | 0x21 => table b false
  | 0x22 => table (h % 32) true
  | 0x34 => gram (h % 64) true
  | 0x35 => if opOf 8 8 0 c.desc then gram b false else none
  | 0x45 => helper b false
  | 0x46 => helper (h % 16) true
  | _ => none

/-- CAUSE of the AUTH_FAIL with which TDISP turns a command away (R437, R438). -/
def State.tdiRefuse (s : State) (c : Cmd) : Option Nat :=
  let slot := match s.slotOwner c with
    | some o => o.1 != c.ctx && (s.locked c.ctx || (o.2 && s.locked o.1))
    | none => false
  let rate := (c.op = 0x63 || (c.op = 0x62 && opOf 9 8 0 c.desc)) && s.locked (Desc.byte c.desc 16)
  if slot || rate then some 5
  else if s.rd .SEC_CTX_TDI c.ctx = 3 && !s.teeOn (s.rd .HTI_CTX_PORT c.ctx) then some 6
  else none

/-- Start the accepted command `k` if it has the opcode and form of the row, may start, and the row's own
wait is over; the handle is checked again (R534). Otherwise the state stays as it is (log 3). -/
def State.begin (s : State) (k op : Nat) (form : Desc → Bool) (ready : Cmd → Bool) (live : Cmd → Bool)
    (body : Cmd → State → State) : State :=
  match s.cmd k with
  | none => s
  | some c =>
    if c.op = op && form c.desc && c.phase = .waiting && s.startable c && ready c &&
        !(s.on .CTL_RESET_SOFT && namesSession op) then
      if live c then
        match s.tdiRefuse c with
        | some cause => s.finish k .authFail cause
        | none => body c (s.setPhase k .running)
      else s.finish k .badHandle
    else s

/-- Every command form, and a command with no wait or object of its own. -/
def anyForm (_ : Desc) : Bool := true
def anyCmd (_ : Cmd) : Bool := true

/-- The command's HANDLE names a live session of its context. -/
def State.sessLive (s : State) (c : Cmd) : Bool := s.liveSess c.ctx (Desc.handle c.desc)

/-- The status with which the state table of R91 turns a command away in ORPHANED or FAILED: the lost owner,
or 0xFFFF. -/
def Session.orphanCause (x : Session) : Nat := if x.st = .failed then 0xFFFF else x.lostOwner % 1024

/-- CAUSE of BUSY_TETHER (R91): 1 at a sender, 2 at a receiver, 3 while the transfer is unresolved. -/
def Session.busyCause (x : Session) : Nat :=
  match x.xfer with
  | some t => if t.unresolved then 3 else if t.sender then 1 else 2
  | none => 1

end Sys2Proof.Machine
end

