-- ==== Sys2Proof/Machine/TileOps.lean ====
section
/-! DEFINITION. Tiles (spec/04): geometry, CRC-32C (R131), the grades Pewter, Brass and Tin (R120 to R129),
the sealed layout (R121 to R123), checks at use (R133, R134). BF16 values are integers in units of 2^-133,
E4M3 values in units of 2^-9, so that every quotient is an exact comparison of integers. -/

namespace Sys2Proof.Machine

/-- Head-layers, halves, raw bytes of a tile (R112 to R114). -/
def Shape.headLayers (g : Shape) : Nat := g.layers * g.hkv
def Shape.halves (g : Shape) : Nat := if g.latent then 1 else 2
def Shape.rawBytes (g : Shape) : Nat := 256 * g.dk * g.halves
/-- Bytes of one new row of one KV head: K then V, or K alone (R220). -/
def Shape.rowBytes (g : Shape) : Nat := if g.latent then 2 * g.dk else 2 * (g.dk + g.dv)
/-- Raw K/V bytes per position (MODEL_SHAPE_SET RESULT0). -/
def Shape.kvBytes (g : Shape) : Nat := g.headLayers * g.rowBytes
def pad64 (n : Nat) : Nat := (n + 63) / 64 * 64
def pad4k (n : Nat) : Nat := (n + 4095) / 4096 * 4096
def pad64k (n : Nat) : Nat := (n + 65535) / 65536 * 65536

/-- One step of CRC-32C over a byte, reflected (R131). -/
def crcBit (c : Nat) : Nat := if c % 2 = 1 then Nat.xor (c / 2) 0x82F63B78 else c / 2
def crcByte (c b : Nat) : Nat :=
  crcBit (crcBit (crcBit (crcBit (crcBit (crcBit (crcBit (crcBit (Nat.xor c b))))))))
def crcGo : Nat → Nat → Nat → Nat
  | 0, _, c => c
  | n + 1, x, c => crcGo n (x / 256) (crcByte c (x % 256))
/-- CRC-32C of `n` bytes of a little-endian number (R131). -/
def crc32c (n x : Nat) : Nat := Nat.xor (crcGo n x 0xFFFFFFFF) 0xFFFFFFFF

/-- Magnitude of a finite BF16 encoding without its sign, in units of 2^-133. -/
def bf16Mag (k : Nat) : Nat :=
  let e := k / 128 % 256
  let m := k % 128
  if e = 0 then m else (128 + m) * 2 ^ (e - 1)
def bf16Sign (x : Nat) : Bool := bitAt x 15
def bf16Exp (x : Nat) : Nat := bitsOf x 14 7
def bf16Finite (x : Nat) : Bool := bf16Exp x != 255
/-- Value of a finite BF16 encoding in units of 2^-133. -/
def bf16Int (x : Nat) : Int := if bf16Sign x then -(bf16Mag (x % 32768) : Int) else bf16Mag (x % 32768)

/-- Magnitude of an E4M3 encoding without its sign, in units of 2^-9. -/
def e4m3Mag (k : Nat) : Nat :=
  let e := k / 8 % 16
  let m := k % 8
  if e = 0 then m else (8 + m) * 2 ^ (e - 1)

/-- Greatest code below 2^bits for which a monotone test holds; 0 when none does. -/
def searchCode (p : Nat → Bool) : Nat → Nat → Nat
  | 0, acc => acc
  | b + 1, acc => if p (acc + 2 ^ b) then searchCode p b (acc + 2 ^ b) else searchCode p b acc

/-- Least BF16 encoding whose value is at least num ÷ den units (num > 0): ru_bf16. -/
def ruBf16 (num den : Nat) : Nat := searchCode (fun k => decide (bf16Mag k * den < num)) 15 0 + 1
/-- Least finite E4M3 encoding whose value is at least num ÷ den units of 2^-9: ru_e4m3. -/
def ruE4m3 (num den : Nat) : Nat := searchCode (fun k => decide (e4m3Mag k * den < num)) 7 0 + 1
/-- Nearest finite E4M3 encoding to num ÷ den, ties to the even significand: rne_e4m3 of a magnitude. -/
def rneE4m3 (num den : Nat) : Nat :=
  let lo := searchCode (fun k => decide (e4m3Mag k * den ≤ num)) 7 0
  let dl := num - e4m3Mag lo * den
  let dh := e4m3Mag (lo + 1) * den - num
  if lo ≥ 126 then 126 else if dl < dh then lo else if dh < dl then lo + 1
  else if lo % 2 = 0 then lo else lo + 1
/-- Nearest integer to num ÷ den, ties to even: rne of a magnitude. -/
def rneDiv (num den : Nat) : Nat :=
  let q := num / den
  let r := num % den
  if 2 * r < den then q else if 2 * r > den then q + 1 else if q % 2 = 0 then q else q + 1

/-- Element `ch` of row `r` of half `v` of a raw tile (R114). -/
def rawElem (d raw : Nat) (v : Bool) (r ch : Nat) : Nat :=
  raw / 2 ^ (8 * ((if v then 256 * d else 0) + 2 * d * r + 2 * ch)) % 65536

/-- A half as a matrix of BF16 encodings by row. -/
def halfOf (d raw : Nat) (v : Bool) : List (List Nat) :=
  (List.range 128).map fun r => (List.range d).map fun ch => rawElem d raw v r ch

/-- The first rule of R120: magnitudes below 2^-96 count as zero. -/
def r120 (x : Nat) : Nat := if bf16Mag (x % 32768) < 2 ^ 37 then 0 else x
/-- The second rule of R120: a NaN, an infinity or a magnitude of 2^120 or more. -/
def r120bad (x : Nat) : Bool := !bf16Finite x || decide (bf16Mag (x % 32768) ≥ 2 ^ 253)

def maxMag (l : List Nat) : Nat := l.foldl (fun a x => max a (bf16Mag (x % 32768))) 0
def column (h : List (List Nat)) (ch : Nat) : List Nat := h.map fun r => r.getD ch 0

/-- Code of one element in a channel of scale `s`, given by its encoding (R125). -/
def brassCode (s x : Nat) : Nat :=
  if s = 0 then 0 else
    let q := rneE4m3 (bf16Mag (x % 32768) * 512) (bf16Mag s)
    if q = 0 then 0 else if bf16Sign x then q + 128 else q

/-- BF16 scale of a channel (R125). -/
def brassScale (col : List Nat) : Nat := if maxMag col = 0 then 0 else ruBf16 (maxMag col) 448

/-- A section: its length in bytes and its content. -/
abbrev Sect := Nat × Nat
def joinSects (l : List Sect) : Sect := l.foldr (fun a b => (a.1 + b.1, a.2 + b.2 * 2 ^ (8 * a.1))) (0, 0)
def padSect (a : Sect) : Sect := (pad64 a.1, a.2)

/-- The Brass half (R123, R125) after R120: SCALES padded, then CODES. -/
def brassHalf (d : Nat) (h : List (List Nat)) : Sect :=
  let sc := (List.range d).map fun ch => brassScale (column h ch)
  joinSects
    [padSect (2 * d, packWords 2 sc),
     (128 * d, packWords 1 (h.flatMap fun r => (r.zip sc).map fun p => brassCode p.2 p.1))]

/-- The four outlier channels: largest column maxima, ties to the lower index, in ascending order (R127). -/
def outliers (d : Nat) (h : List (List Nat)) : List Nat :=
  let m := (List.range d).map fun ch => maxMag (column h ch)
  let rank (ch : Nat) : Nat :=
    ((List.range d).filter fun c2 => m.getD c2 0 > m.getD ch 0 || (m.getD c2 0 = m.getD ch 0 && c2 < ch)).length
  (List.range d).filter fun ch => rank ch < 4

/-- The Tin half (R127): base, directory entries (channel, scale), and the sections of R123. -/
def tinHalf (d : Nat) (h : List (List Nat)) : Nat × List (Nat × Nat) × Sect :=
  let g := (d + 31) / 32
  let out := outliers d h
  let isOut (ch : Nat) : Bool := out.contains ch
  let m := h.foldl (fun a r => (r.zipIdx.foldl (fun a p => if isOut p.2 then a else max a (bf16Mag (p.1 % 32768))) a)) 0
  let b := if m = 0 then 0 else ruBf16 m 3136
  let bm := bf16Mag b
  let scales := h.map fun r => (List.range g).map fun j =>
    let gm := r.zipIdx.foldl (fun a p => if isOut p.2 || p.2 / 32 != j then a else max a (bf16Mag (p.1 % 32768))) 0
    if gm = 0 then 0 else ruE4m3 (gm * 512) (7 * bm)
  let code (r : List Nat) (e : List Nat) (ch : Nat) : Nat :=
    let x := r.getD ch 0
    let sm := bm * e4m3Mag (e.getD (ch / 32) 0)
    if isOut ch || sm = 0 then 0 else
      let q := rneDiv (bf16Mag (x % 32768) * 512) sm
      if q = 0 then 0 else if bf16Sign x then 16 - q else q
  let rows := (h.zip scales).flatMap fun p =>
    (List.range (d / 2)).map fun k => code p.1 p.2 (2 * k) + 16 * code p.1 p.2 (2 * k + 1)
  let dir := out.map fun ch => (ch, brassScale (column h ch))
  let ol := dir.flatMap fun p => (column h p.1).map fun x => brassCode p.2 x
  (b, dir, joinSects
    [(64 * d, packWords 1 rows), padSect (128 * g, packWords 1 (scales.flatMap id)), (512, packWords 1 ol)])

/-- Canonical Huffman codes from lengths (RFC 1951, section 3.2.2): (length, code) of a symbol. -/
def blCount (ls : List Nat) (n : Nat) : Nat := (ls.filter fun l => l = n).length
def firstCode (ls : List Nat) : Nat → Nat
  | 0 => 0
  | n + 1 => (firstCode ls n + (if n = 0 then 0 else blCount ls n)) * 2
def huffCode (ls : List Nat) (sym : Nat) : Nat :=
  let l := ls.getD sym 0
  firstCode ls l + ((ls.take sym).filter fun x => x = l).length

/-- The lengths meet R124 for a list of exponents: 256 lengths of 0 to 15, complete, every symbol present
has a code; a half of one symbol has length 1. -/
def lengthsOk (ls exps : List Nat) : Bool :=
  ls.length = 256 && ls.all (fun l => l ≤ 15) && exps.all (fun e => ls.getD e 0 != 0) &&
    ((ls.foldl (fun a l => if l = 0 then a else a + 2 ^ (15 - l)) 0 = 2 ^ 15) ||
     (ls.filter fun l => l != 0) = [1] && exps.all fun e => ls.getD e 0 = 1)

/-- The lengths used: the encoder's free choice (log 10) where it meets R124, else 8 for every symbol. -/
def pewterLens (exps : List Nat) : List Nat :=
  let c := Config.pewterLengths exps
  match exps with
  | e :: t => if t.all (fun x => x = e) then (List.range 256).map fun k => if k = e then 1 else 0
      else if lengthsOk c exps && decide ((c.filter fun l => l != 0).length > 1) then c else List.replicate 256 8
  | [] => List.replicate 256 8

/-- Bits of a stream, most significant first in each byte (R124). -/
def streamBits (ls exps : List Nat) : List Bool :=
  exps.flatMap fun e => (List.range (ls.getD e 0)).map fun i => bitAt (huffCode ls e) (ls.getD e 0 - 1 - i)
def bitsToBytes : Nat → List Bool → List Nat
  | 0, _ => []
  | _, [] => []
  | n + 1, bs =>
    let b := bs.take 8
    ((List.range 8).foldl (fun a i => 2 * a + b2n (b.getD i false)) 0) :: bitsToBytes n (bs.drop 8)

/-- The Pewter half (R124): EXP_RAW, EXP_BYTES, sections. Elements in channel-major order. -/
def pewterHalf (d : Nat) (h : List (List Nat)) : Bool × Nat × Sect :=
  let els := (List.range d).flatMap fun ch => column h ch
  let exps := els.map bf16Exp
  let sm := (128 * d, packWords 1 (els.map fun x => (if bf16Sign x then 128 else 0) + x % 128))
  let ls := pewterLens exps
  let nbits := exps.foldl (fun a e => a + ls.getD e 0) 0
  let nb := (nbits + 7) / 8
  if nb > 128 * d then (true, 0, joinSects [(128, 0), (128 * d, packWords 1 exps), sm])
  else
    let lens := packWords 1 ((List.range 128).map fun k => ls.getD (2 * k) 0 + 16 * ls.getD (2 * k + 1) 0)
    let bytes := bitsToBytes nb (streamBits ls exps)
    (false, nb, joinSects [(128, lens), padSect (nb, packWords 1 bytes), sm])

/-- One half as sealed: fallback, EXP_RAW, EXP_BYTES, base, directory, sections. -/
structure HalfOut where
  fallback : Bool
  expRaw : Bool
  expBytes : Nat
  base : Nat
  dir : List (Nat × Nat)
  sect : Sect

/-- Seal one half at its declared grade (R120, R123): 0 Pewter, 1 Brass, 2 Tin. -/
def sealHalf (d grade : Nat) (h : List (List Nat)) : HalfOut :=
  let bad := grade != 0 && h.any fun r => r.any r120bad
  if grade = 0 || bad then
    let p := pewterHalf d h
    ⟨bad, p.1, p.2.1, 0, [], p.2.2⟩
  else
    let z := h.map fun r => r.map r120
    if grade = 1 then ⟨false, false, 0, 0, [], brassHalf d z⟩
    else
      let t := tinHalf d z
      ⟨false, false, 0, t.1, t.2.1, t.2.2⟩

/-- Directory entries of a half: four of 8 bytes (R122). -/
def dirBytes (l : List (Nat × Nat)) : Nat := packWords 8 (l.map fun p => p.1 % 65536 + p.2 % 65536 * 65536)

/-- The sealed form of a raw tile (R121 to R123): length and content, and the two halves. -/
def sealTile (g : Shape) (slot layer head col handle raw : Nat) : Nat × Nat × List HalfOut :=
  let gr := g.grades.getD layer 0
  let kg := gr % 4
  let vg := gr / 4 % 4
  let k := sealHalf g.dk kg (halfOf g.dk raw false)
  let vs := if g.latent then [] else [sealHalf g.dk vg (halfOf g.dk raw true)]
  let v := vs.head?
  let len := 128 + k.sect.1 + (match v with | some v => v.sect.1 | none => 0)
  let vOff := match v with | some _ => 128 + k.sect.1 | none => 0
  let vf (f : HalfOut → Nat) : Nat := match v with | some v => f v | none => 0
  let hdr := packBytes
    [(0, 1), (1, kg + (if g.latent then 0 else 4 * vg) + 16 * b2n g.latent + 32 * b2n k.expRaw + 64 * vf (fun v => b2n v.expRaw)),
     (2, b2n k.fallback + 2 * vf fun v => b2n v.fallback), (3, slot % 64), (4, g.dk), (6, layer), (8, head),
     (10, col), (12, len), (16, handle), (24, k.base), (26, vf HalfOut.base), (28, k.expBytes),
     (32, vf HalfOut.expBytes), (36, vOff), (64, dirBytes k.dir), (96, vf fun v => dirBytes v.dir)]
  let body := joinSects ((128, hdr) :: k.sect :: (match v with | some v => [v.sect] | none => []))
  (len, body.2, k :: vs)

/-- Byte field of a stored tile. -/
def tileField (data off n : Nat) : Nat := data / 2 ^ (8 * off) % 2 ^ (8 * n)

/-- Size that R123 gives a half of a stored tile. -/
def halfSize (d grade : Nat) (fallback raw : Bool) (expBytes : Nat) : Nat :=
  if grade = 0 || fallback then (if raw then 128 + 256 * d else 128 + pad64 expBytes + 128 * d)
  else if grade = 1 then pad64 (2 * d) + 128 * d
  else 64 * d + pad64 (128 * ((d + 31) / 32)) + 512

/-- Decode symbols of a canonical code from bits: the symbols decoded within the bits (R134). -/
def huffDecode (ls : List Nat) : Nat → List Bool → Nat → Nat → List Nat
  | 0, _, _, _ => []
  | _, [], _, _ => []
  | fuel + 1, b :: bs, code, len =>
    let code := 2 * code + b2n b
    let len := len + 1
    match (List.range 256).find? fun s => ls.getD s 0 = len && huffCode ls s = code with
    | some s => s :: huffDecode ls fuel bs 0 0
    | none => huffDecode ls fuel bs code len

/-- The bits left once `n` symbols of a canonical code are decoded; none when they do not last. -/
def huffRest (ls : List Nat) (n : Nat) : List Bool → Nat → Nat → Option (List Bool)
  | [], _, _ => if n = 0 then some [] else none
  | b :: bs, code, len =>
    if n = 0 then some (b :: bs)
    else
      let code := 2 * code + b2n b
      let len := len + 1
      match (List.range 256).find? fun s => ls.getD s 0 = len && huffCode ls s = code with
      | some _ => huffRest ls (n - 1) bs 0 0
      | none => huffRest ls n bs code len

/-- The Pewter exponent stream of a half decodes exactly 128 × d symbols within EXP_BYTES: the last of them ends in the last byte, and the bits
after it are zero (R124, R134). -/
def expStreamOk (d data off expBytes : Nat) : Bool :=
  let ls := (List.range 256).map fun s => tileField data (off + s / 2) 1 / (if s % 2 = 0 then 1 else 16) % 16
  let bs := (List.range (8 * expBytes)).map fun i => bitAt (tileField data (off + 128 + i / 8) 1) (7 - i % 8)
  match huffRest ls (128 * d) bs 0 0 with
  | some r => decide (r.length < 8) && r.all fun b => !b
  | none => false

/-- The fields that R121 and R122 want zero for a half: base, EXP_BYTES and directory unless it is stored as they need. -/
def zeroFields (data grade : Nat) (here fallback raw : Bool) (base expBytes dir : Nat) : Bool :=
  let f := tileField data
  let tin := here && grade = 2 && !fallback
  let coded := here && (grade = 0 || fallback) && !raw
  (tin || f base 2 = 0) && (coded || f expBytes 4 = 0) &&
    (List.range 4).all fun k => f (dir + 8 * k + 4) 4 = 0 && (tin || f (dir + 8 * k) 4 = 0)

/-- Format and identity of a sealed tile at its expected place (R134). -/
def formatOk (g : Shape) (slot layer head col handle tagLen data : Nat) : Bool :=
  let f := tileField data
  let gr := f 1 1
  let kg := gr % 4
  let vg := gr / 4 % 4
  let latent := bitAt gr 4
  let kf := bitAt (f 2 1) 0
  let vf := bitAt (f 2 1) 1
  let ks := halfSize g.dk kg kf (bitAt gr 5) (f 28 4)
  let vs := if latent then 0 else halfSize g.dk vg vf (bitAt gr 6) (f 32 4)
  f 0 1 = 1 && kg != 3 && vg != 3 && gr < 128 && f 2 1 < 4 && latent = g.latent &&
    (!kf || kg != 0) && (!vf || vg != 0) && f 40 24 = 0 && (!latent || (vg = 0 && !bitAt gr 6)) &&
    zeroFields data kg true kf (bitAt gr 5) 24 28 64 && zeroFields data vg (!latent) vf (bitAt gr 6) 26 32 96 &&
    f 16 8 = handle && f 3 1 = slot && f 6 2 = layer && f 8 2 = head && f 10 2 = col && f 4 2 = g.dk &&
    f 12 4 = tagLen && 128 + ks + vs = tagLen && f 36 4 = (if latent then 0 else 128 + ks) &&
    (!(kg = 0 || kf) || bitAt gr 5 || expStreamOk g.dk data 128 (f 28 4)) &&
    (latent || !(vg = 0 || vf) || bitAt gr 6 || expStreamOk g.dk data (128 + ks) (f 32 4))

/-- The check of a tile at use (R133, R134): none when it passes, else the KIND of GORE_TILE_LAST_B. -/
def tileFault (g : Shape) (slot layer head col handle : Nat) (t : Tile) : Option Nat :=
  if t.crcValid && crc32c t.len t.data != t.crc then some 0
  else if t.sealed && !formatOk g slot layer head col handle t.len t.data then some 1
  else none

/-- Key of a tile in its session: column × head-layers + layer × KV heads + KV head (R148). -/
def tileKey (g : Shape) (col layer head : Nat) : Nat := col * g.headLayers + layer * g.hkv + head
def keyCol (g : Shape) (k : Nat) : Nat := k / g.headLayers
def keyLayer (g : Shape) (k : Nat) : Nat := k % g.headLayers / g.hkv
def keyHead (g : Shape) (k : Nat) : Nat := k % g.headLayers % g.hkv

/-- An open tile fresh from allocation: zero-filled (R114). -/
def Tile.fresh (g : Shape) : Tile := ⟨false, 0, g.rawBytes, 0, false, false, 0, 0⟩

/-- Write one row (K then V) into an open tile at row `r` (R114). -/
def Tile.putRow (g : Shape) (t : Tile) (r row : Nat) : Tile :=
  let kb := 2 * g.dk
  let k := row % 2 ^ (8 * kb)
  let v := row / 2 ^ (8 * kb) % 2 ^ (8 * kb)
  let clear (x off : Nat) : Nat := x - x / 2 ^ (8 * off) % 2 ^ (8 * kb) * 2 ^ (8 * off)
  let d := clear t.data (kb * r) + k * 2 ^ (8 * (kb * r))
  let d := if g.latent then d else clear d (256 * g.dk + kb * r) + v * 2 ^ (8 * (256 * g.dk + kb * r))
  { t with data := d, fill := max t.fill (r + 1), crcValid := false }

/-- Give an open tile its CRC at park or at ship (R118); one that has it keeps it. -/
def Tile.stamp (t : Tile) : Tile :=
  if t.sealed || t.torn || t.crcValid then t else { t with crc := crc32c t.len t.data, crcValid := true }

/-- The 16-byte tag of a tile (R130). -/
def Tile.tag (t : Tile) : Nat :=
  packBytes [(0, t.crc), (4, t.len), (8, b2n t.sealed), (9, b2n t.torn + 2 * b2n t.crcValid), (10, t.fill)]

end Sys2Proof.Machine
end

