-- ==== Sys2Proof/Machine/Xts.lean ====
section
/-! DEFINITION. XTS-AES-256 (IEEE 1619, FIPS 197), with which every page in T2 and T3 is encrypted (spec/05 R172). A block is a number
below 2^128 and a byte string a number, the first byte lowest, as everywhere in the model. -/

namespace Sys2Proof.Machine

/-- The S-box of FIPS 197, byte `b` at bits 8 × b and up. -/
def aesTable : Nat :=
  0xc072a49cafa2d4adf04759fa7dc982ca76abd7fe2b670130c56f6bf27b777c63 +
  0x75b227ebe28012079a059618c323c7041531d871f1e5a534ccf73f362693fdb7 * 2 ^ 256 +
  0xcf584c4a39becb6a5bb1fc20ed00d153842fe329b3d63b52a05a6e1b1a2c8309 * 2 ^ 512 +
  0xd2f3ff1021dab6bcf5389d928f40a351a89f3c507f02f94585334d43fbaaefd0 * 2 ^ 768 +
  0xdb0b5ede14b8ee4688902a22dc4f816073195d643d7ea7c41744975fec130ccd * 2 ^ 1024 +
  0x08ae7a65eaf4566ca94ed58d6d37c8e779e4959162acd3c25c2406490a3a32e0 * 2 ^ 1280 +
  0x9e1dc186b95735610ef6034866b53e708a8bbd4b1f74dde8c6b4a61c2e2578ba * 2 ^ 1536 +
  0x16bb54b00f2d99416842e6bf0d89a18cdf2855cee9871e9b948ed9691198f8e1 * 2 ^ 1792
def aesSub (b : Nat) : Nat := tileField aesTable (b % 256) 1
/-- Multiplication by x in the field of FIPS 197. -/
def aesTime (b : Nat) : Nat := if b < 128 then 2 * b else Nat.xor (2 * b) 0x11B

/-- SubBytes and ShiftRows: byte r + 4c takes its value from column c + r. -/
def aesShift (x : Nat) : Nat :=
  packWords 1 ((List.range 16).map fun i => aesSub (tileField x (i % 4 + 4 * ((i / 4 + i % 4) % 4)) 1))
/-- MixColumns. -/
def aesMix (x : Nat) : Nat :=
  packWords 1 ((List.range 16).map fun i =>
    let a (k : Nat) : Nat := tileField x (i / 4 * 4 + (i + k) % 4) 1
    Nat.xor (Nat.xor (aesTime (a 0)) (Nat.xor (aesTime (a 1)) (a 1))) (Nat.xor (a 2) (a 3)))

/-- The next words of the key schedule: `w` holds the last eight, the newest first; `i` is the number of the next word. -/
def aesWords : Nat → Nat → List Nat → List Nat
  | 0, _, _ => []
  | fuel + 1, i, w =>
    let sub (t : Nat) : Nat := packWords 1 ((List.range 4).map fun b => aesSub (tileField t b 1))
    let t := w.headD 0
    let t := if i % 8 = 0 then Nat.xor (sub (t / 256 + t % 256 * 2 ^ 24)) (2 ^ (i / 8 - 1))
      else if i % 8 = 4 then sub t else t
    let v := Nat.xor (w.getD 7 0) t
    v :: aesWords fuel (i + 1) (v :: w.take 7)
/-- The fifteen round keys of a 256-bit key. -/
def aesKeys (key : Nat) : List Nat :=
  let w := (List.range 8).map fun i => tileField key (4 * i) 4
  let all := w ++ aesWords 52 8 w.reverse
  (List.range 15).map fun r => packWords 4 ((all.drop (4 * r)).take 4)
/-- The rounds after the first key: the last one mixes no columns. -/
def aesRounds : Nat → List Nat → Nat
  | x, [] => x
  | x, [k] => Nat.xor (aesShift x) k
  | x, k :: t => aesRounds (Nat.xor (aesMix (aesShift x)) k) t
/-- One block under its round keys. -/
def aesBlock (keys : List Nat) (x : Nat) : Nat := aesRounds (Nat.xor x (keys.headD 0)) keys.tail

/-- Multiplication of a tweak by α (IEEE 1619). -/
def xtsNext (t : Nat) : Nat := if t < 2 ^ 127 then 2 * t else Nat.xor (2 * t % 2 ^ 128) 0x87
/-- The blocks of a data unit. -/
def xtsBlocks (keys : List Nat) : Nat → Nat → Nat → Nat
  | 0, _, _ => 0
  | fuel + 1, t, x => Nat.xor (aesBlock keys (Nat.xor (x % 2 ^ 128) t)) t + xtsBlocks keys fuel (xtsNext t) (x / 2 ^ 128) * 2 ^ 128
/-- A data unit of `n` blocks under a tweak; the key's first half encrypts the data, its second half the tweak. -/
def xtsUnit (key n tweak x : Nat) : Nat :=
  xtsBlocks (aesKeys (key % 2 ^ 256)) n (aesBlock (aesKeys (key / 2 ^ 256 % 2 ^ 256)) (tweak % 2 ^ 128)) x
/-- The page at place `a` of object `o`: sixteen data units of 4,096 bytes, unit u under the tweak o × 2^64 + a × 16 + u (R172). -/
def xtsPage (key o a x : Nat) : Nat :=
  (List.range 16).foldl (fun r u => r + xtsUnit key 256 (o * 2 ^ 64 + a * 16 + u) (tileField x (4096 * u) 4096) * 2 ^ (8 * 4096 * u)) 0

end Sys2Proof.Machine
end

