-- ==== Sys2Proof/Machine/Gcm.lean ====
section
/-! DEFINITION. AES-256-GCM (NIST SP 800-38D), which protects ring frames (spec/12 R347), and AES Key Wrap (RFC 3394), which wraps job and
fabric keys (spec/15 R416). A byte string is a number, the first byte lowest; the blocks of GCM are numbers with the first byte highest. -/

namespace Sys2Proof.Machine

/-- The number whose `n` bytes are those of `x` in the opposite order. -/
def flipBytes : Nat → Nat → Nat
  | 0, _ => 0
  | n + 1, x => x % 256 * 2 ^ (8 * n) + flipBytes n (x / 256)

/-! ### GCM -/

/-- Multiplication by x in the field of GHASH. -/
def ghashHalf (v : Nat) : Nat := if v % 2 = 0 then v / 2 else Nat.xor (v / 2) (0xE1 * 2 ^ 120)
/-- The product of two blocks: `n` bits of `x` from bit n − 1 down, with `v` times the power of x that belongs to it. -/
def ghashMul : Nat → Nat → Nat → Nat → Nat
  | 0, _, _, z => z
  | n + 1, x, v, z => ghashMul n x (ghashHalf v) (if x / 2 ^ n % 2 = 1 then Nat.xor z v else z)
/-- GHASH over a byte string of at most 16 × `k` bytes, zeros after its end. -/
def ghash (h : Nat) : Nat → Nat → Nat → Nat
  | 0, _, y => y
  | k + 1, x, y => ghash h k (x / 2 ^ 128) (ghashMul 128 (Nat.xor y (flipBytes 16 (x % 2 ^ 128))) h 0)
/-- A block under the cipher, the first byte highest. -/
def aesBig (keys : List Nat) (x : Nat) : Nat := flipBytes 16 (aesBlock keys (flipBytes 16 x))
/-- `k` blocks of key stream from counter `i`, for the 96-bit `iv`. -/
def gcmStream (keys : List Nat) (iv : Nat) : Nat → Nat → Nat
  | 0, _ => 0
  | k + 1, i => flipBytes 16 (aesBig keys (iv * 2 ^ 32 + i % 2 ^ 32)) + gcmStream keys iv k (i + 1) * 2 ^ 128
/-- Encryption and decryption of `n` bytes. -/
def gcmCrypt (key iv n x : Nat) : Nat := Nat.xor x (gcmStream (aesKeys key) iv ((n + 15) / 16) 2 % 2 ^ (8 * n))
/-- The tag of a ciphertext of `n` bytes with `m` bytes of additional data. -/
def gcmTag (key iv m aad n x : Nat) : Nat :=
  let keys := aesKeys key
  let h := aesBig keys 0
  let y := ghash h ((n + 15) / 16) x (ghash h ((m + 15) / 16) aad 0)
  flipBytes 16 (Nat.xor (ghashMul 128 (Nat.xor y (8 * m * 2 ^ 64 + 8 * n)) h 0) (aesBig keys (iv * 2 ^ 32 + 1)))
/-- `n` bytes sealed: the ciphertext with its 16-byte tag after it. -/
def gcmSeal (key iv m aad n x : Nat) : Nat :=
  let c := gcmCrypt key iv n (x % 2 ^ (8 * n))
  c + gcmTag key iv m aad n c * 2 ^ (8 * n)
/-- What stands sealed in `n` bytes and a tag, or none where the tag fails. -/
def gcmOpen (key iv m aad n x : Nat) : Option Nat :=
  let c := x % 2 ^ (8 * n)
  if gcmTag key iv m aad n c = tileField x n 16 then some (gcmCrypt key iv n c) else none

/-! ### Key wrap -/

/-- The inverse S-box of FIPS 197. -/
def aesTableInv : Nat :=
  0xcbe9dec444438e3487ff2f9b8239e37cfbd7f3819ea340bf38a53630d56a0952 +
  0x25d18b6d49a25b76b224d92866a12e084ec3fa420b954cee3d23c2a632947b54 * 2 ^ 256 +
  0x849d8da75746155edab9edfd5048706c92b6655dcc5ca4d41698688664f6f872 * 2 ^ 512 +
  0x6b8a130103bdafc1020f3fca8f1e2cd00645b3b80558e4f70ad3bc8c00abd890 * 2 ^ 768 +
  0x6edf751ce837f9e28535ade72274ac9673e6b4f0cecff297eadc674f4111913a * 2 ^ 1024 +
  0xf45acd78fec0db9a2079d2c64b3e56fc1bbe18aa0e62b76f89c5291d711af147 * 2 ^ 1280 +
  0xef9cc9939f7ae52d0d4ab519a97f51605fec8027591012b131c7078833a8dd1f * 2 ^ 1536 +
  0x7d0c2155631469e126d677ba7e042b17619953833cbbebc8b0f52aae4d3be0a0 * 2 ^ 1792
def aesSubInv (b : Nat) : Nat := tileField aesTableInv (b % 256) 1
/-- The product of two bytes in the field of FIPS 197, over `n` bits of the first. -/
def aesTimes : Nat → Nat → Nat → Nat
  | 0, _, _ => 0
  | n + 1, a, b => Nat.xor (if a % 2 = 1 then b else 0) (aesTimes n (a / 2) (aesTime b))
/-- InvShiftRows and InvSubBytes. -/
def aesShiftInv (x : Nat) : Nat :=
  packWords 1 ((List.range 16).map fun i => aesSubInv (tileField x (i % 4 + 4 * ((i / 4 + 4 - i % 4) % 4)) 1))
/-- InvMixColumns. -/
def aesMixInv (x : Nat) : Nat :=
  packWords 1 ((List.range 16).map fun i =>
    let a (k : Nat) : Nat := tileField x (i / 4 * 4 + (i + k) % 4) 1
    Nat.xor (Nat.xor (aesTimes 4 14 (a 0)) (aesTimes 4 11 (a 1))) (Nat.xor (aesTimes 4 13 (a 2)) (aesTimes 4 9 (a 3))))
/-- The rounds of the inverse cipher, with the round keys in the opposite order. -/
def aesRoundsInv : Nat → List Nat → Nat
  | x, [] => x
  | x, [k] => Nat.xor (aesShiftInv x) k
  | x, k :: t => aesRoundsInv (aesMixInv (Nat.xor (aesShiftInv x) k)) t
/-- One block of the inverse cipher. -/
def aesBlockInv (keys : List Nat) (x : Nat) : Nat :=
  let l := keys.reverse
  aesRoundsInv (Nat.xor x (l.headD 0)) l.tail

/-- The steps t = `n` down to 1 of an unwrap of four 64-bit words (RFC 3394 2.2.2): `a` the integrity register, `r` the words. -/
def unwrapSteps (keys : List Nat) : Nat → Nat → Nat → Nat × Nat
  | 0, a, r => (a, r)
  | n + 1, a, r =>
    let i := n % 4
    let w := tileField r (8 * i) 8
    let b := aesBlockInv keys (Nat.xor a ((n + 1) * 2 ^ 56) + w * 2 ^ 64)
    unwrapSteps keys n (b % 2 ^ 64) (r + b / 2 ^ 64 * 2 ^ (64 * i) - w * 2 ^ (64 * i))
/-- AES Key Wrap opened (RFC 3394): a 256-bit key under a 256-bit key, from its 40 bytes. None when the integrity check fails. -/
def keyUnwrap (key x : Nat) : Option Nat :=
  let p := unwrapSteps (aesKeys key) 24 (x % 2 ^ 64) (tileField x 8 32)
  if p.1 = 0xA6A6A6A6A6A6A6A6 then some p.2 else none

end Sys2Proof.Machine
end

