-- ==== Sys2Proof/Machine/FrameBytes.lean ====
section
/-! DEFINITION. The bytes of a ring frame (spec/12 R345 to R348): header, payload sealed under a job key or the fabric key, trailer. -/

namespace Sys2Proof.Machine

/-- ROUTE of a header. -/
def frameRoute (f : RFrame) : Nat :=
  b2n f.set + 2 * b2n f.xneg + 4 * b2n f.yneg + 8 * b2n f.dateline + 16 * b2n f.fabric + 32 * b2n f.first + 64 * b2n f.last + 128 * b2n f.yfirst
/-- Fields one after the other: each with its number of bytes. -/
def joinFields : List (Nat × Nat) → Nat
  | [] => 0
  | p :: t => p.1 + 2 ^ (8 * p.2) * joinFields t
/-- The 32 bytes of a header (R346). -/
def frameHeader (f : RFrame) : Nat :=
  joinFields [(1, 1), (f.vc + 8 * b2n f.enc + 16 * f.key, 1), (f.colour + 4 * f.hops, 1), (frameRoute f, 1), (f.dst, 2), (f.src + f.boot * 2 ^ 10, 2),
    (f.ctx, 1), (f.kind, 1), (f.len, 2), (f.seq % 2 ^ 32, 4), (f.ivc % 2 ^ 64, 8), (f.msg % 2 ^ 32, 4), (f.offset % 2 ^ 32, 4)]
/-- The additional authenticated data (R347): what may change in transit is zero. -/
def frameAad (f : RFrame) : Nat := frameHeader { f with colour := 0, hops := 0, dateline := false }
/-- The 96-bit IV (R347). -/
def frameIv (f : RFrame) : Nat :=
  f.src * 2 ^ 86 + f.boot * 2 ^ 80 + f.ctx * 2 ^ 74 + b2n f.fabric * 2 ^ 73 + f.key * 2 ^ 69 + f.ivc % 2 ^ 64
/-- Bytes of a frame before its trailer. -/
def frameBytes (f : RFrame) : Nat := 32 + f.len + 16 * b2n f.enc

/-- The key that a frame's slot holds. -/
def State.frameKey (s : State) (f : RFrame) : Option Nat :=
  if f.fabric then Map.find s.sec.fabric (f.key % 2) else Map.find s.sec.keys (16 * f.ctx + f.key)
/-- Whether the key of a frame's tag is there (R348): a job key slot of its context, or a fabric key. -/
def State.keyHere (s : State) (f : RFrame) : Bool :=
  if f.fabric then (if f.key % 2 = 0 then s.on .SEC_FABRIC_VALID0 else s.on .SEC_FABRIC_VALID1)
  else s.bit .SEC_CTX_ACTIVE f.key f.ctx || s.bit .SEC_CTX_RETIRING f.key f.ctx
/-- Whether a received frame passes (R348): it is not encrypted, or its slot holds a key and its tag is right. -/
def State.tagGood (s : State) (f : RFrame) : Bool :=
  !f.enc || s.keyHere f && match s.frameKey f with
    | some k => (gcmOpen k (frameIv f) 32 (frameAad f) f.len f.data).isSome
    | none => false
/-- The payload of an own frame as it leaves (R347): sealed where it is encrypted. A slot emptied since the frame was queued
leaves the bytes open (log 194). -/
def State.sealed (s : State) (f : RFrame) : Nat :=
  if f.enc then
    match s.frameKey f with
    | some k => gcmSeal k (frameIv f) 32 (frameAad f) f.len f.data
    | none => s.free % 2 ^ (8 * f.len + 128)
  else f.data

/-- A frame goes out on a port, with its trailer: CRC-32C and the link sequence number (R345, log 194). -/
def State.putFrame (s : State) (p : Nat) (f : RFrame) : State :=
  let n := frameBytes f
  let x := frameHeader f + 2 ^ 256 * f.data
  let q := (Map.find s.ring.lseq p).getD 0
  let s := s.setRing { s.ring with lseq := Map.put s.ring.lseq p ((q + 1) % 4096) }
  s.emit (.frame p (x + 2 ^ (8 * n) * joinFields [(crc32c n x, 4), (q % 4096, 2), (0, 2)]))

end Sys2Proof.Machine
end

