-- ==== Sys2Proof/Machine/Bridle.lean ====
section
/-! DEFINITION. The bridle pages (spec/07 R217 to R219): bytes of memory in canonical form, the backed bytes of a context's area. -/

namespace Sys2Proof.Machine

/-! ### Memory -/

/-- The byte at an address: 0 where none is listed (R219). -/
def Memory.get : Memory → Nat → BitVec 8
  | [], _ => 0
  | (a, b) :: t, k => if a = k then b else Memory.get t k

/-- Write one byte; a byte 0 is not listed. -/
def Memory.set : Memory → Nat → BitVec 8 → Memory
  | [], k, v => if v = 0 then [] else [(k, v)]
  | (a, b) :: t, k, v =>
    if k < a then (if v = 0 then (a, b) :: t else (k, v) :: (a, b) :: t)
    else if a = k then (if v = 0 then t else (k, v) :: t)
    else (a, b) :: Memory.set t k v

/-- `n` bytes from an address, as a little-endian number, and their write. -/
def Memory.read (m : Memory) (a : Nat) : Nat → Nat
  | 0 => 0
  | n + 1 => (m.get a).toNat + 256 * Memory.read m (a + 1) n
def Memory.write (m : Memory) (a : Nat) : Nat → Nat → Memory
  | 0, _ => m
  | n + 1, v => Memory.write (m.set a (BitVec.ofNat 8 v)) (a + 1) n (v / 256)

/-- The addresses from `lo` to `hi` − 1 read 0. -/
def Memory.clear (m : Memory) (lo hi : Nat) : Memory := m.filter fun p => decide (p.1 < lo) || decide (hi ≤ p.1)

/-- The canonical form: addresses strictly rising, no entry 0. -/
def Memory.wf (m : Memory) : Bool := decide (m.Pairwise fun a b => a.1 < b.1) && m.all fun p => p.2 != 0

/-! ### Bridle areas -/

/-- MiB of a context area for a B4SZ code: B4SZ ÷ 64 (R217). -/
def areaMib (b4 : Nat) : Nat := if b4 = 0 then 0 else 16 * 2 ^ (b4 - 1) * 1024 / 64
def State.b4 (s : State) (p : Nat) : Nat := (Map.find s.boot.b4 p).getD 0
/-- Backed MiB for a requested number, and backed bytes, of a context. -/
def State.effMib (s : State) (c mib : Nat) : Nat := min mib (areaMib (s.b4 (s.port c)))
def State.backed (s : State) (c : Nat) : Nat := s.rd .GORE_BRIDLE_EFF_MIB c * 2 ^ 20

/-- Address of an offset of a context's area. -/
def bridleAddr (c off : Nat) : Nat := c * 2 ^ 34 + off
/-- Read `n` bytes of a context's area: bytes that are not backed read 0 (R218). -/
def State.bridleGet (s : State) (c off n : Nat) : Nat := s.attn.bridle.read (bridleAddr c off) (min n (s.backed c - off))
/-- Write `n` bytes: those that are not backed are dropped (R218). -/
def State.bridlePut (s : State) (c off n v : Nat) : State :=
  { s with attn := { s.attn with bridle := s.attn.bridle.write (bridleAddr c off) (min n (s.backed c - off)) v } }
/-- Zero-fill a context's area, and every area (R219). -/
def State.bridleZero (s : State) (c : Nat) : State :=
  { s with attn := { s.attn with bridle := s.attn.bridle.clear (bridleAddr c 0) (bridleAddr (c + 1) 0) } }
def State.bridleClear (s : State) : State := { s with attn := { s.attn with bridle := [] } }

/-- A place in the bridle pages or at a bus address: write it (SAMPLE's TOK_BRIDLE and STREAM's BRIDLE). -/
def State.putAt (s : State) (bridle : Bool) (c addr n v : Nat) : State :=
  if bridle then s.bridlePut c addr n v else s.emit (.write c addr n v)

end Sys2Proof.Machine
end

