-- ==== Sys2Proof/Machine/PageBytes.lean ====
section
/-! DEFINITION. The bytes of a state page: the sealed-tile stream, open tiles, the records of a map and the blocks of an index (spec/05
R146 to R148, spec/04 R130, spec/10 R295), and what of them goes to a place in T2 or T3 (R172). -/

namespace Sys2Proof.Machine

/-- Keys of pages in a page table: kind, then number. -/
def PKind.num : PKind → Nat
  | .sealed => 0 | .opened => 1 | .map => 2 | .spool => 3 | .index => 4
def pageKey (k : PKind) (n : Nat) : Nat := k.num * 2 ^ 40 + n

/-- Pages of an open tile (R147). -/
def Shape.openPages (g : Shape) : Nat := (g.rawBytes + 65535) / 65536
/-- The shape slot's descriptor, or an empty one (a session's slot is declared while it lives, R215). -/
def Shape.none_ : Shape := ⟨0, 0, 1, 1, false, 0, 0, 0, 0, 0, [], []⟩
def State.shape (s : State) (n : Nat) : Shape := (Map.find s.attn.shapes n).getD Shape.none_

/-- Put `n` bytes at a byte offset of a number. -/
def putBytes (x at_ n d : Nat) : Nat :=
  x % 2 ^ (8 * at_) + d % 2 ^ (8 * n) * 2 ^ (8 * at_) + x / 2 ^ (8 * (at_ + n)) * 2 ^ (8 * (at_ + n))

/-! ### Sessions -/

/-- Put a sealed tile's part of the page that starts at stream byte `start`. -/
def Tile.lay (start x : Nat) (t : Tile) : Nat :=
  if t.off + t.len ≤ start ∨ start + 65536 ≤ t.off then x
  else if start ≤ t.off then putBytes x (t.off - start) (min t.len (start + 65536 - t.off)) t.data
  else putBytes x 0 (min 65536 (t.off + t.len - start)) (t.data / 2 ^ (8 * (start - t.off)))
/-- Sealed page `n`: its tiles, dead bytes between them, zero beyond the stream's end (R146). -/
def Session.sealedPage (x : Session) (n dead : Nat) : Nat :=
  ((x.tiles.map Prod.snd).filter Tile.sealed).foldl (Tile.lay (65536 * n)) (dead % 2 ^ (8 * (x.streamLen - 65536 * n)))
/-- Open page `n`: a part of the open tile of its head-layer, of the higher column where two are held (R147). -/
def Session.openPage (x : Session) (g : Shape) (n dead : Nat) : Nat :=
  let hl := n / g.openPages
  match (x.tiles.filter fun (p : Nat × Tile) => !p.2.sealed && p.1 % g.headLayers = hl).getLast? with
  | some p => putBytes dead 0 (min 65536 (p.2.len - 65536 * (n % g.openPages))) (p.2.data / 2 ^ (8 * 65536 * (n % g.openPages)))
  | none => dead
/-- What a page entry says (R148): location, state, lower copy, heat. -/
def Place.words : Place → List Nat
  | .t1 => [0, 0]
  | .obj o i => [o + 1, i]
def Page.entry (p : Page) : Nat :=
  Config.mapEntry (p.upper.words ++ [match p.st with | .dirty => 0 | .clean => 1 | .lower => 2 | .lost => 3] ++
    (match p.lower with | some l => 1 :: l.words | none => [0]) ++ [p.heat])
/-- Record `i` of an array of the map: sealed page entries, open page entries, tile tags (R148). -/
def Session.record (x : Session) (arr i : Nat) : Nat :=
  let entry (k : PKind) : Nat := match Map.find x.pages (pageKey k i) with | some p => p.entry | none => Config.mapEntry []
  match arr with
  | 0 => entry .sealed
  | 1 => entry .opened
  | _ => match Map.find x.tiles i with | some t => t.tag | none => Config.mapEntry []
def Session.mapPage (x : Session) (n : Nat) : Nat :=
  packWords 16 ((List.range 4096).map fun i => x.record (n / 2 ^ 32) (n % 2 ^ 32 * 4096 + i))
def Session.spoolForm (x : Session) (n : Nat) : Nat :=
  Config.openForm 0 (n :: (x.spool.flatMap fun e => [e.token, b2n e.sampled, e.visible]) ++
    x.seeds.flatMap fun (p : Nat × Nat) => [p.1, p.2])

/-! ### Indexes -/

/-- Entries of a block (R295). -/
def capOf (m t : Nat) : Nat := 16 * (65472 / (16 * (m + 32 + 4 * t)))
def RIndex.cap (ix : RIndex) : Nat := capOf ix.m ix.tags
def RIndex.chain (ix : RIndex) (l : Nat) : List RBlock := (Map.find ix.lists l).getD []

/-- The number of the block after one in its chain. -/
def nextBlock (page : Nat) : List RBlock → Nat
  | b :: c :: t => if b.page = page then c.page else nextBlock page (c :: t)
  | _ => 2 ^ 64 - 1
/-- A list block (R295): its header, its six planes, zero after them. -/
def RIndex.blockPage (ix : RIndex) (l : Nat) (bs : List RBlock) (b : RBlock) (dead : Nat) : Nat :=
  let cap := ix.cap
  let n := b.entries.length
  let plane (x off w : Nat) (f : REntry → Nat) : Nat := putBytes x off (w * n) (packWords w (b.entries.map f))
  let dels := (b.entries.map REntry.del).filter fun d => d != 0
  let x := dead % 2 ^ (8 * (64 + cap * (ix.m + 32 + 4 * ix.tags)))
  let x := putBytes x 0 64 (packBytes [(0, l % 2 ^ 32), (4, n), (6, cap), (8, nextBlock b.page bs),
    (16, (b.entries.map REntry.seq).foldl max 0), (24, dels.foldl min (2 ^ 64 - 1)), (32, ix.id)])
  let x := plane x 64 ix.m REntry.codes
  let x := plane x (64 + cap * ix.m) 8 REntry.attr
  let x := plane x (64 + cap * (ix.m + 8)) (4 * ix.tags) fun e => packWords 4 (e.tags.takeD ix.tags 0)
  let x := plane x (64 + cap * (ix.m + 8 + 4 * ix.tags)) 8 REntry.id
  let x := plane x (64 + cap * (ix.m + 16 + 4 * ix.tags)) 8 REntry.seq
  plane x (64 + cap * (ix.m + 24 + 4 * ix.tags)) 8 REntry.del
/-- Every chain of an index, old ones included, with its list. -/
def RIndex.chains (ix : RIndex) : List (Nat × List RBlock) := ix.lists ++ ix.olds.map fun o => (o.list, o.blocks)
/-- An index page: a list block, a page of the ID map, or one of refinement vectors. -/
def RIndex.pageAt (ix : RIndex) (n dead : Nat) : Nat :=
  let es := ix.chains.flatMap fun p => p.2.flatMap RBlock.entries
  if n < 2 ^ 32 then
    match ix.chains.find? fun p => p.2.any fun b => b.page = n with
    | some p => (match p.2.find? fun b => b.page = n with | some b => ix.blockPage p.1 p.2 b dead | none => dead)
    | none => dead
  else if n < 2 ^ 36 then Config.openForm 1 (n :: es.map REntry.id)
  else Config.openForm 2 ((es.filter fun e => e.vpage = some n).flatMap REntry.vec)

/-! ### Pages and places -/

/-- The 65,536 bytes of a page of a session or an index. Bytes that no rule gives are free (log 190). -/
def State.pageBytes (s : State) (ref : PageRef) : Nat :=
  let dead := Config.deadBytes ref.own ref.key % 2 ^ 524288
  let n := ref.key % 2 ^ 40
  (if ref.index then
    match Map.find s.rcl.indexes ref.own with | some ix => ix.pageAt n dead | none => dead
  else match s.sess ref.own with
    | none => dead
    | some x => match ref.key / 2 ^ 40 with
      | 0 => x.sealedPage n dead
      | 1 => x.openPage (s.shape x.shape) n dead
      | 2 => x.mapPage n
      | _ => x.spoolForm n) % 2 ^ 524288
/-- The context that owns a page's session or index. -/
def State.pageCtx (s : State) (ref : PageRef) : Nat :=
  if ref.index then (match Map.find s.rcl.indexes ref.own with | some ix => hCtx ix.id | none => 64) else hCtx ref.own
/-- A page goes to a place in T2 or T3, encrypted for it under the storage key of its context (R172, R173); a copy to another place is
encrypted again. Key1 of XTS is the key's lower half (log 190). -/
def State.emitPage (s : State) (ref : PageRef) (o i : Nat) : State :=
  s.emit (.pageWrite o i (xtsPage ((Map.find s.sec.storage (s.pageCtx ref)).getD 0) o i (s.pageBytes ref)))

end Sys2Proof.Machine
end

