-- ==== Sys2Proof/Machine/PageOps.lean ====
section
/-! DEFINITION. State pages and placement (spec/05): regions, tier use, the choice of places (R152, R159),
writes, demotion, drops, release, loss (R150 to R171). -/

namespace Sys2Proof.Machine

/-! ### Regions and objects -/

/-- Region of a context's sessions, and of a recall index. A region never set is in OBJECT mode and allows
every object (log 14). -/
def Region.dflt : Region := ⟨false, 0, false, 0, 0, none⟩
def State.region (s : State) (r : Nat) : Region := (Map.find s.tier.regions r).getD Region.dflt
def State.setRegion (s : State) (r : Nat) (x : Region) : State :=
  { s with tier := { s.tier with regions := Map.put s.tier.regions r x } }

/-- Bit i of ALLOW; 0 allows every object. -/
def Region.allows (r : Region) (o : Nat) : Bool := r.allow = 0 || bitAt r.allow o

/-- Every page with its owner: sessions by handle, the spool copies of holders among them, indexes by slot. -/
def State.allPages (s : State) : List (Bool × Nat × Nat × Page) :=
  (s.ses.tab.flatMap fun p => p.2.pages.map fun q => (false, p.2.handle, q.1, q.2)) ++
    s.tier.idxPages.flatMap fun p => p.2.map fun q => (true, p.1, q.1, q.2)

/-- The places a page holds: its upper place, its lower place, and the place of a write in flight. -/
def Page.places (p : Page) : List Place :=
  (if p.st = .lost then [] else [p.upper]) ++ p.lower.toList ++
    (match p.writing with | some w => if p.lower = some w then [] else [w] | none => [])

/-- Indexes in use in an object. -/
def State.placesIn (s : State) (o : Nat) : List Nat :=
  s.allPages.flatMap fun e => e.2.2.2.places.filterMap fun
    | .obj o2 i => if o2 = o then some i else none
    | .t1 => none

/-- Pages in use in T1, T2 and T3 (TIER_OCC, TIER_OCC3). -/
def State.t1Used (s : State) : Nat := (s.allPages.filter fun e => e.2.2.2.upper = .t1 && e.2.2.2.st != .lost).length
def State.t2Used (s : State) : Nat := (List.range 32).foldl (fun a o => a + (s.placesIn o).length) 0
def State.t3Used (s : State) : Nat := (List.range 32).foldl (fun a o => a + (s.placesIn (32 + o)).length) 0
def State.t2Cap (s : State) : Nat := (List.range 32).foldl (fun a o => a + s.rd .TIER_OBJ_B_CAP_PAGES o) 0

/-- An object is present, up and not failed. -/
def State.objUsable (s : State) (o : Nat) : Bool :=
  s.on .TIER_OBJ_A_PRESENT o && s.on .TIER_OBJ_A_UP o && !s.on .TIER_OBJ_A_FAILED o
/-- New writes to it are allowed too (R168). -/
def State.objEnabled (s : State) (o : Nat) : Bool := s.objUsable o && s.on .TIER_OBJ_A_EN o
def State.objWritable (s : State) (o : Nat) : Bool := s.objEnabled o && !bitAt s.pool.leaving o
def State.objRoom (s : State) (o : Nat) : Bool :=
  decide ((s.placesIn o).length + (Map.find s.tier.lent o).getD 0 < s.rd .TIER_OBJ_B_CAP_PAGES o)

/-- CTL_READY.T2 and T3 follow the objects (R143). -/
def State.refreshTierReady (s : State) : State :=
  let any (l : List Nat) := l.any s.objEnabled
  (s.wr .CTL_READY_T2 0 0 (b2n (any (List.range 32)))).wr .CTL_READY_T3 0 0
    (b2n (any ((List.range 32).map (· + 32))))

def State.setPool (s : State) (p : Pool) : State := { s with pool := p }
/-- GiB granted of T1 or T2. -/
def State.granted (s : State) (t2 : Bool) : Nat :=
  (s.pool.extents.filter fun e => e.t2 = t2 && !e.revoked).foldl (fun a e => a + e.gib) 0
/-- T1 state pages left to the Flewick: lendable capacity, what is granted beyond it (R328) and the region store are taken off (R326). -/
def State.t1Cap (s : State) : Nat :=
  Config.t1Pages - 16384 * (max (s.rd .POOL_LEND_T1_GIB) (s.granted false) + s.rd .POOL_LEND_REGION_GIB)

/-- Lowest index of an object that no place uses (log 15). -/
def lowestFree (used : List Nat) : Nat → Nat → Nat
  | 0, n => n
  | fuel + 1, n => if used.contains n then lowestFree used fuel (n + 1) else n
def State.newIdx (s : State) (o : Nat) : Nat :=
  let u := s.placesIn o
  lowestFree u (u.length + 1) 0

/-! ### The T1 reserve (R141) -/

/-- Bytes of the fixed parts, and of the whole reserve. -/
def rsvFixed : Nat := 2 ^ 30 + 2 ^ 30 + 1200 * 32768 + 160 * 2 ^ 20 + 3 * 2 ^ 30
def rsvTotal : Nat := 52 * 2 ^ 30
def State.refreshRsv (s : State) : State :=
  let u := (rsvFixed + s.tier.rsv + 2 ^ 20 - 1) / 2 ^ 20
  (s.wr .TIER_RSV_USED_MIB 0 0 u).wr .TIER_RSV_PEAK_MIB 0 0 (max u (s.rd .TIER_RSV_PEAK_MIB))
/-- Whether the reserve can take `n` bytes more when `old` are given back. -/
def State.rsvFits (s : State) (old n : Nat) : Bool := decide (rsvFixed + (s.tier.rsv - old) + n ≤ rsvTotal)
def State.rsvSwap (s : State) (old n : Nat) : State :=
  ({ s with tier := { s.tier with rsv := s.tier.rsv - old + n } }).refreshRsv
/-- An allocation that the reserve cannot take counts in FULLS. -/
def State.rsvFull (s : State) : State := s.bump .TIER_RSV_FULLS 0 0 1

/-! ### Wear budgets (R169 to R171) -/

def Wear.empty : Wear := ⟨0, 0, 0, 0, 0, 0, 0, 0⟩
def State.wear (s : State) (j : Nat) : Wear := (Map.find s.tier.wear j).getD Wear.empty
def State.setWear (s : State) (j : Nat) (w : Wear) : State :=
  let s := { s with tier := { s.tier with wear := Map.put s.tier.wear j w } }
  (s.wr .TIER_DRV_WEAR_BUDGET_MIB j 0 (w.budget / 65536).toNat).wr .TIER_DRV_WEAR_WRITTEN_GIB j 0 (w.written / 16384)

/-- Drive of a T3 object. -/
def driveOf (o : Nat) : Nat := (o - 32) / 4
/-- Whether the drive has budget for one page, 4,096 units (R169). T2 has no budget. -/
def State.budgetOk (s : State) (o : Nat) : Bool :=
  o < 32 || !s.on .TIER_DRV_CAP_EN (driveOf o) || decide ((s.wear (driveOf o)).budget ≥ 4096)
/-- Take the budget of one 64 KiB write and count it as written. -/
def State.takeBudget (s : State) (o : Nat) : State :=
  if o < 32 then s else
    let w := s.wear (driveOf o)
    s.setWear (driveOf o) { w with budget := w.budget - 4096, written := w.written + 1 }

/-! ### Capacity of tier objects -/

/-- CAP_PAGES of every object after R140, in ascending index order within each tier. -/
def State.refreshCaps (s : State) : State :=
  let go (lo : Nat) (limit : Nat) (s : State) : State :=
    ((List.range 32).foldl (fun a i =>
      let raw := (Map.find s.tier.rawCap (lo + i)).getD 0
      let n := min raw (limit - a.2)
      (a.1.wr .TIER_OBJ_B_CAP_PAGES (lo + i) 0 n, a.2 + n)) (s, 0)).1
  (go 32 Config.t3PagesMax (go 0 Config.t2PagesMax s)).refreshTierReady

/-! ### Borrowed objects that leave (R325) -/

/-- An object index becomes free. -/
def State.dropObject (s : State) (o : Nat) : State :=
  let s := { s with
    tier := { s.tier with rawCap := Map.del s.tier.rawCap o, lent := Map.del s.tier.lent o }
    pool := { s.pool with leaving := setBitN s.pool.leaving o false } }
  let s := [Fld.TIER_OBJ_A_PRESENT, .TIER_OBJ_A_UP, .TIER_OBJ_A_FAILED, .TIER_OBJ_A_REASON, .TIER_OBJ_A_PORT].foldl
    (fun s f => s.wr f o 0 0) s
  let s := [Fld.POOL_OBJ_WINDOW, .POOL_OBJ_HOME, .POOL_OBJ_LENDER, .POOL_OBJ_LENDER_ID].foldl (fun s f => s.wr f o 0 0) s
  s.refreshCaps

/-- A leaving extent that holds no current copy any more is released. -/
def State.checkLeaving (s : State) : State :=
  if s.pool.leaving = 0 then s
  else (List.range 32).foldl (fun s o =>
    if bitAt s.pool.leaving o && (s.placesIn o).isEmpty then
      let p := s.rd .TIER_OBJ_A_PORT o
      ((s.dropObject o).bump .POOL_CNT_COUNT 7 0 1).emit (.fm p 0 4 o)
    else s) s

/-! ### Choosing a place (R159) -/

/-- A T2 object for a page of a region: allowed, writable, with room, within T2_HIGH; of several the lowest index (log 176). -/
def State.pickT2 (s : State) (r : Region) : Option Nat :=
  if s.t2Used * 100 + 100 ≤ s.rd .TIER_WM_T2_HIGH * s.t2Cap then
    (List.range 32).find? fun o => r.allows o && s.objWritable o && s.objRoom o
  else none

/-- T3 objects in striping order after `last` (R159), or from the lowest. -/
def t3Order (last : Option Nat) : List Nat :=
  let base := (List.range 32).map (· + 32)
  match last with
  | none => base
  | some l => (base.filter fun o => o > l) ++ base.filter fun o => o ≤ l

/-- Allowed T3 objects with room; then the first of them with budget (R171). -/
def State.t3Cands (s : State) (r : Region) (last : Option Nat) : List Nat :=
  (t3Order last).filter fun o => r.allows o && s.objWritable o && s.objRoom o
def State.pickT3 (s : State) (r : Region) (last : Option Nat) : Option Nat := (s.t3Cands r last).find? s.budgetOk

/-- Why no place was found: bit 0 wear cap, bit 1 no room, bit 2 a failed object among those that could have taken the page (R176).
`t2` and `t3` say which tiers it may go to. -/
def State.whyNone (s : State) (r : Region) (last : Option Nat) (t2 t3 : Bool) : Nat :=
  if t3 && !(s.t3Cands r last).isEmpty then 1
  else
    let may := (if t2 then List.range 32 else []) ++ if t3 then (List.range 32).map (· + 32) else []
    if may.any fun o => r.allows o && s.on .TIER_OBJ_A_FAILED o then 4 else 2

/-! ### Pages of an owner -/

/-- An owner's page table, settings and striping cursor. -/
def State.ownerPages (s : State) (ix : Bool) (own : Nat) : Map Page :=
  if ix then (Map.find s.tier.idxPages own).getD [] else
    match s.sess own with | some x => x.pages | none => []
def State.setOwnerPages (s : State) (ix : Bool) (own : Nat) (m : Map Page) : State :=
  if ix then { s with tier := { s.tier with idxPages := Map.put s.tier.idxPages own m } }
  else s.updSess own fun x => { x with pages := m }
def ownerRegion (ix : Bool) (own : Nat) : Nat := if ix then 64 + own else hCtx own
def State.ownerPin (s : State) (ix : Bool) (own : Nat) : Nat :=
  if ix then (s.region (ownerRegion ix own)).pin else match s.sess own with | some x => x.pin | none => 0
def State.ownerNoT3 (s : State) (ix : Bool) (own : Nat) : Bool :=
  if ix then (s.region (ownerRegion ix own)).neverT3 else match s.sess own with | some x => x.neverT3 | none => false
def State.ownerLast (s : State) (ix : Bool) (own : Nat) : Option Nat :=
  let r := (s.region (ownerRegion ix own)).lastObj
  if ix then r else match s.sess own with | some x => (match x.lastObj with | some o => some o | none => r) | none => r
def State.setLast (s : State) (ix : Bool) (own o : Nat) : State :=
  if o < 32 then s else
    let rg := ownerRegion ix own
    let s := s.setRegion rg { s.region rg with lastObj := some o }
    if ix then s else s.updSess own fun x => { x with lastObj := some o }

def State.page (s : State) (p : PageRef) : Option Page := Map.find (s.ownerPages p.index p.own) p.key
def State.putPage (s : State) (p : PageRef) (x : Page) : State :=
  s.setOwnerPages p.index p.own (Map.put (s.ownerPages p.index p.own) p.key x)

/-- Release a place: a T3 place is deallocated (R153). -/
def State.releasePlace (s : State) (pl : Option Place) : State :=
  match pl with
  | some (.obj o i) => if o ≥ 32 then s.emit (.dealloc o i) else s
  | _ => s

/-- A page becomes EMPTY: every copy released (R150, R153). -/
def State.emptyPage (s : State) (p : PageRef) : State :=
  match s.page p with
  | none => s
  | some x =>
    let s := x.places.foldl (fun s pl => s.releasePlace (some pl)) s
    (s.setOwnerPages p.index p.own (Map.del (s.ownerPages p.index p.own) p.key)).checkLeaving

/-- Release every page of an owner (deflation, destruction, an index freed). -/
def State.emptyAll (s : State) (ix : Bool) (own : Nat) : State :=
  (s.ownerPages ix own).foldl (fun s q => s.emptyPage ⟨ix, own, q.1⟩) s

/-- A write to a page: an EMPTY page becomes DIRTY; a page below T1 is brought up first; its former upper
place is then its stale lower copy (R149, R150). -/
def Page.written (x : Page) : Page :=
  match x.st with
  | .lost => { x with st := .dirty, upper := .t1, lower := none, writing := none, again := false }
  | .lower => { x with st := .dirty, upper := .t1, lower := some x.upper, again := x.writing.isSome }
  | _ => { x with
      st := .dirty, again := x.writing.isSome
      lower := if x.upper = .t1 then x.lower else some x.upper
      upper := .t1 }
def State.writePage (s : State) (ix : Bool) (own : Nat) (k : PKind) (n : Nat) : State :=
  let ref : PageRef := ⟨ix, own, pageKey k n⟩
  match s.page ref with
  | none => s.putPage ref ⟨k, n, .dirty, .t1, none, 0, 0, none, false, false, false, 0, false⟩
  | some x =>
    -- an upper copy in T2 with a T3 lower copy releases the T3 place (R156)
    let s := if x.upper != .t1 then s.releasePlace x.lower else s
    s.putPage ref x.written

/-- Write a span of pages of one kind. -/
def State.writePages (s : State) (ix : Bool) (own : Nat) (k : PKind) (l : List Nat) : State :=
  l.foldl (fun s n => s.writePage ix own k n) s

/-- Whether a work item on a gore reads the page (R151). -/
def State.pageInUse (s : State) (ref : PageRef) : Bool :=
  s.gore.items.any fun i =>
    i.st = .running && i.pages.contains ref.key &&
      (if ref.index then i.ix = some ref.own else i.ix = none && i.handle = ref.own)

/-- Drop the upper copy of a CLEAN page that no item uses (R150, R151): LOWER. -/
def State.dropClean (s : State) (ref : PageRef) : State :=
  match s.page ref with
  | some x =>
    match x.st, x.lower with
    | .clean, some l =>
      if !s.pageInUse ref then
        ((s.putPage ref { x with st := .lower, upper := l, lower := none }).bump .TIER_CNT_COUNT 6 0 1).checkLeaving
      else s
    | _, _ => s
  | none => s

/-- Start writing a DIRTY page down to an object: its stale place is rewritten when it lies there and is
usable (R152), and otherwise a new place is taken and the old one released. -/
def State.startWrite (s : State) (ref : PageRef) (x : Page) (o : Nat) (reuse : Option Nat) (sink : Bool) : State :=
  let i := match reuse with | some i => i | none => s.newIdx o
  let s := if reuse.isSome then s else s.releasePlace x.lower
  let s := s.takeBudget o
  let s := s.emitPage ref o i
  let s := if reuse.isSome then s else s.setLast ref.index ref.own o
  let s := s.bump .TIER_CNT_COUNT (if o < 32 then 4 else 5) 0 1
  s.putPage ref { x with
    writing := some (.obj o i), again := false, sink := sink
    lower := if reuse.isSome then x.lower else none }

/-- The stale lower place of a DIRTY page, when R152 rewrites it there. -/
def State.staleUsable (s : State) (x : Page) (target : Nat) : Option (Nat × Nat) :=
  match x.lower with
  | some (.obj o i) =>
    if s.objWritable o && s.budgetOk o && (target = 0 || (target = 2 && o < 32) || (target = 3 && o ≥ 32)) then some (o, i) else none
  | _ => none

/-- Where a DIRTY page would be written: the object and the index to rewrite, or the reason (R176 causes).
`target` 0 places by R159, 2 and 3 force a tier; a refinement page stays in T2 (R309). PIN 2 of a session counts in OBJECT mode
only (R155). -/
def State.choose (s : State) (ref : PageRef) (x : Page) (target0 : Nat) : Sum (Nat × Option Nat) Nat :=
  let target := if ref.index && x.num ≥ 2 ^ 36 then 2 else target0
  let r := s.region (ownerRegion ref.index ref.own)
  let last := s.ownerLast ref.index ref.own
  let t3ok := !s.ownerNoT3 ref.index ref.own && !(s.ownerPin ref.index ref.own = 2 && (ref.index || !r.heat))
  let stale := match s.staleUsable x target with
    | some p => if t3ok || p.1 < 32 then some p else none
    | none => none
  match stale with
  | some (o, i) => .inl (o, some i)
  | none =>
    let t2 := if target = 3 then none else s.pickT2 r
    match t2 with
    | some o => .inl (o, none)
    | none =>
      if target = 2 then .inr (s.whyNone r last true false)
      else if !t3ok then .inr (if target = 3 then 8 else s.whyNone r last true false)
      else match s.pickT3 r last with
        | some o => .inl (o, none)
        | none => .inr (s.whyNone r last (target != 3) true)

/-- A write that a drive's cap refused goes elsewhere or nowhere: CAP_REFUSED counts the page (R171). -/
def State.capCount (s : State) (ref : PageRef) (where_ : Sum (Nat × Option Nat) Nat) : State :=
  let first := (s.t3Cands (s.region (ownerRegion ref.index ref.own)) (s.ownerLast ref.index ref.own)).head?
  let refused := match where_ with
    | .inl (o, reuse) => decide (32 ≤ o) && reuse.isNone && first != some o
    | .inr w => bitAt w 0
  if refused then s.bump .TIER_CNT_COUNT 8 0 1 else s

/-- Demote one page (R157, R159, R160): a CLEAN page is dropped, a DIRTY one starts its write; a page with
no place counts NO_ROOM and stays. -/
def State.demotePage (s : State) (ref : PageRef) (target : Nat) : State :=
  match s.page ref with
  | none => s
  | some x =>
    match x.st with
    | .clean => s.dropClean ref
    | .dirty =>
      if x.writing.isSome then s.putPage ref { x with sink := true }
      else
        let w := s.choose ref x target
        let s := s.capCount ref w
        match w with
        | .inl (o, reuse) => s.startWrite ref x o reuse true
        | .inr _ => s.bump .TIER_CNT_COUNT 9 0 1
    | _ => s

/-- The whole of an owner's pages, demoted. -/
def State.demoteAll (s : State) (ix : Bool) (own target : Nat) : State :=
  (s.ownerPages ix own).foldl (fun s q => s.demotePage ⟨ix, own, q.1⟩ target) s

/-- An index in OBJECT mode with PIN 2 keeps its pages in T2 (R154). -/
def State.sinkIndex (s : State) (n : Nat) : State :=
  if !(s.region (64 + n)).heat && s.ownerPin true n = 2 then s.demoteAll true n 2 else s

/-- An access of a work item: heat rises in both modes (R155, R174). -/
def State.touch (s : State) (ref : PageRef) : State :=
  match s.page ref with
  | some x => s.putPage ref { x with heat := min (x.heat + 1) 255, touched := s.now }
  | none => s

/-- Start a promotion read of a page into T1 (R156), or a read-through (R155). A read already in flight serves both. -/
def State.startRead (s : State) (up : Bool) (ref : PageRef) : State :=
  match s.page ref with
  | some x =>
    match x.upper with
    | .obj o i =>
      if x.st = .lost then s
      else if x.reading then (if up then s.putPage ref { x with up := true } else s)
      else (s.putPage ref { x with reading := true, readAt := s.now, up := up }).emit (.pageRead o i)
    | .t1 => s
  | none => s

/-- A promotion read completes: CLEAN in T1, the copy read is the lower copy; a further T3 copy is released
(R150, R156). -/
def State.promoted (s : State) (ref : PageRef) : State :=
  match s.page ref with
  | some x =>
    match x.upper with
    | .obj _ _ =>
      let s := s.releasePlace x.lower
      let s := (s.putPage ref { x with st := .clean, upper := .t1, lower := some x.upper, reading := false, up := false }).bump
        .TIER_CNT_COUNT 0 0 1
      if ref.index then s else s.updSess ref.own fun y => { y with gainAt := s.now }
    | .t1 => s.putPage ref { x with reading := false, up := false }
  | none => s

/-! ### The pages of a session (R146 to R149, R537) -/

/-- Stored spool pages (R537): the free stored size, bounded, at least one page. -/
def spoolPages (len seeds : Nat) : Nat :=
  max 1 ((min (Config.spoolBytes len seeds) (16 * len + 16 * seeds + 4096) + 65535) / 65536)

/-- Map page number: array 0 sealed entries, 1 open entries, 2 tags; 4,096 records a page (R148). -/
def mapNum (arr i : Nat) : Nat := arr * 2 ^ 32 + i / 4096

/-- The pages that hold stream bytes `a` to `b` − 1. -/
def pagesOfSpan (a b : Nat) : List Nat :=
  if b ≤ a then [] else (List.range ((b - 1) / 65536 - a / 65536 + 1)).map fun i => a / 65536 + i

/-- Write the spool pages of a session: all of them, since the stored form is open (R537, log 177). -/
def State.writeSpool (s : State) (h : Nat) : State :=
  match s.sess h with
  | some x => s.writePages false h .spool (List.range (spoolPages x.spool.length x.seeds.length))
  | none => s

/-- Write the pages of the open tiles of some head-layers, and the map pages that locate them and their
tags. -/
def State.writeOpen (s : State) (h : Nat) (g : Shape) (col : Nat) (hls : List Nat) : State :=
  let ps := hls.flatMap fun k => (List.range g.openPages).map fun i => k * g.openPages + i
  let s := s.writePages false h .opened ps
  let s := s.writePages false h .map ((ps.map (mapNum 1)).eraseDups)
  s.writePages false h .map ((hls.map fun k => mapNum 2 (col * g.headLayers + k)).eraseDups)

/-- Write the sealed pages of stream bytes, and their map pages. -/
def State.writeStream (s : State) (h a b : Nat) : State :=
  let ps := pagesOfSpan a b
  let s := s.writePages false h .sealed ps
  s.writePages false h .map ((ps.map (mapNum 0)).eraseDups)

/-- Sealed pages that hold no byte of a kept tile become EMPTY (R146). -/
def Session.keepsPage (x : Session) (n : Nat) : Bool :=
  x.tiles.any fun p => p.2.sealed && (pagesOfSpan p.2.off (p.2.off + p.2.len)).contains n
def State.sweepStream (s : State) (h : Nat) : State :=
  match s.sess h with
  | none => s
  | some x =>
    x.pages.foldl (fun s q =>
      if q.2.kind = .sealed && !x.keepsPage q.2.num then s.emptyPage ⟨false, h, q.1⟩ else s) s

/-- Tier of a page's upper copy: 1, 2 or 3; 0 for a LOST page. -/
def Page.tier (p : Page) : Nat :=
  if p.st = .lost then 0 else match p.upper with | .t1 => 1 | .obj o _ => if o < 32 then 2 else 3

/-- The tier of the session's tiles: the highest that holds a sealed or open page; 0 with none. -/
def Session.topTier (x : Session) : Nat :=
  let l := x.pages.filterMap fun q =>
    if (q.2.kind = .sealed || q.2.kind = .opened) && q.2.st != .lost then some q.2.tier else none
  match l with | [] => 0 | a :: t => t.foldl min a

/-- A map or spool page that the session keeps with its tiles: it does not go below them (R149). -/
def Session.keptHigh (x : Session) (p : Page) : Bool := (p.kind = .map || p.kind = .spool) && x.topTier != 0 && decide (x.topTier ≤ p.tier)

/-- Stored bytes of tiles and open tiles in a tier, in KiB rounded up (R86): a tile counts in the tier of the
upper copy of its first page. -/
def Session.tileTier (x : Session) (g : Shape) (k : Nat) (t : Tile) : Nat :=
  let pk := if t.sealed then pageKey .sealed (t.off / 65536) else pageKey .opened (k % g.headLayers * g.openPages)
  match Map.find x.pages pk with | some p => p.tier | none => 1
def Session.kib (x : Session) (g : Shape) (tier : Nat) : Nat :=
  ((x.tiles.foldl (fun a p => if x.tileTier g p.1 p.2 = tier then a + p.2.len else a) 0) + 1023) / 1024
def Session.kibAll (x : Session) : Nat := ((x.tiles.foldl (fun a p => a + p.2.len) 0) + 1023) / 1024
def Session.sealedTiles (x : Session) : Nat := (x.tiles.filter fun p => p.2.sealed).length


end Sys2Proof.Machine
end

