-- ==== Sys2Proof/Machine/Room.lean ====
section
/-! DEFINITION. Room in T1 (spec/05 R141, R154, R155, R157): what regions hold, the candidates of demotion in their order, the places left for
promotions and for the pages that step items write. -/

namespace Sys2Proof.Machine

/-- The owners of a region: sessions owned here, or the index. -/
def State.ownersOf (s : State) (r : Nat) : List (Bool × Nat) :=
  if r ≥ 64 then (if Map.has s.tier.idxPages (r - 64) then [(true, r - 64)] else [])
  else (List.filter (fun (p : Nat × Session) => p.2.owner_ && hCtx p.2.handle = r) s.ses.tab).map fun (p : Nat × Session) => (false, p.2.handle)

/-- Pages of a region in a tier, not counting those on their way down. -/
def State.regionUse (s : State) (r tier : Nat) : Nat :=
  (s.ownersOf r).foldl (fun a o =>
    a + ((s.ownerPages o.1 o.2).filter fun q => q.2.tier = tier && !q.2.sink).length) 0

/-- Regions that hold something. -/
def State.regionsUsed (s : State) : List Nat :=
  ((s.ses.tab.map fun (p : Nat × Session) => hCtx p.2.handle) ++ s.tier.idxPages.map fun (p : Nat × Map Page) => 64 + p.1).eraseDups

/-- Pages by which a region exceeds its T1 quota (16,384 pages a GiB). -/
def State.overQuota (s : State) (r : Nat) : Nat :=
  let q := (s.region r).quotaGib
  if q = 0 then 0 else s.regionUse r 1 - 16384 * q

/-- The region that gives candidates (R157). -/
def State.pressRegion (s : State) (tier : Nat) : Option Nat :=
  match s.regionsUsed with
  | [] => none
  | r :: t =>
    let excess (r : Nat) : Nat := if tier = 1 then s.overQuota r else 0
    let m := t.foldl (fun a b => if excess b > excess a then b else a) r
    if excess m > 0 then some m
    else some (t.foldl (fun a b => if s.regionUse b tier > s.regionUse a tier then b else a) r)

/-- Lexicographic order. -/
def lexLt : List Nat → List Nat → Bool
  | a :: s, b :: t => if a < b then true else if b < a then false else lexLt s t
  | [], _ :: _ => true
  | _, [] => false

/-- Keep the least of a list by an order key. -/
def leastBy {α : Type} (key : α → List Nat) : List α → Option α
  | [] => none
  | a :: t => some (t.foldl (fun x y => if lexLt (key y) (key x) then y else x) a)

/-- A session's DEMOTE_AFTER_MS has passed. -/
def State.demoteDue (s : State) (x : Session) : Bool :=
  x.demoteAfter != 0 && decide (x.entered + 100000 * x.demoteAfter ≤ s.now)

/-- The next session to demote in an OBJECT region (R157): one with a page in the tier that can still go. -/
def State.nextSession (s : State) (r tier : Nat) (tried : List Nat) : Option Session :=
  leastBy (fun x => [if s.demoteDue x then 0 else 1, x.entered, x.handle])
    ((s.ses.tab.map Prod.snd).filter fun x =>
      x.owner_ && hCtx x.handle = r && (x.st = .parked || x.st = .deflated) && x.pin != 1 && !tried.contains x.handle &&
        x.pages.any fun q => q.2.tier = tier && !q.2.sink)

/-- A page that HEAT mode may demote (R157, R158). -/
def State.heatCand (s : State) (ix : Bool) (own tier : Nat) (q : Nat × Page) : Bool :=
  let lim := if tier = 1 then s.rd .TIER_HEAT_DEMOTE1 else s.rd .TIER_HEAT_DEMOTE2
  let kept := !ix && (match s.sess own with
    | some x => (x.st = .aloft && q.2.kind != .sealed) || x.keptHigh q.2
    | none => true)
  q.2.tier = tier && !q.2.sink && q.2.heat ≤ lim && !kept && !(ix && q.2.num ≥ 2 ^ 36) && s.ownerPin ix own != 1 && !s.pageInUse ⟨ix, own, q.1⟩
def State.nextPage (s : State) (r tier : Nat) (tried : List PageRef) : Option PageRef :=
  ((leastBy (fun e : PageRef × Page => [e.2.heat, e.2.touched, e.1.own, e.1.key])
    ((s.ownersOf r).flatMap fun o => ((s.ownerPages o.1 o.2).filter fun q =>
      s.heatCand o.1 o.2 tier q && !tried.contains ⟨o.1, o.2, q.1⟩).map fun q => (⟨o.1, o.2, q.1⟩, q.2)))).map Prod.fst

/-! ### Places in T1 -/

/-- A page takes a place in T1: it lies there, or a read under way brings it there. -/
def Page.holdsT1 (p : Page) : Bool := p.st != .lost && (p.upper = .t1 || (p.reading && p.up))
/-- Places of T1 taken, of all owners and of a region. -/
def State.t1Held (s : State) : Nat := (s.allPages.filter fun e => e.2.2.2.holdsT1).length
def State.regionHeld (s : State) (r : Nat) : Nat :=
  (s.ownersOf r).foldl (fun a o => a + ((s.ownerPages o.1 o.2).filter fun q => q.2.holdsT1).length) 0
/-- A region's quota in pages; 0 for none (R157). -/
def State.quota (s : State) (r : Nat) : Nat := 16384 * (s.region r).quotaGib
/-- T1 can take `n` more pages of a region, within its quota (R141, R157). -/
def State.t1Room (s : State) (r n : Nat) : Bool :=
  n = 0 || (decide (s.t1Held + n ≤ s.t1Cap) && (s.quota r = 0 || decide (s.regionHeld r + n ≤ s.quota r)))
/-- Room can be made (R157): it is there, a page is on its way down, or there is a candidate. -/
def State.roomCan (s : State) (r : Nat) : Bool :=
  s.t1Room r 1 ||
    (let rs := if s.quota r != 0 && decide (s.quota r < s.regionHeld r + 1) then [r] else s.regionsUsed
     rs.any fun q =>
       (s.ownersOf q).any (fun o => (s.ownerPages o.1 o.2).any fun p => p.2.upper = .t1 && p.2.sink) ||
         (if (s.region q).heat then (s.nextPage q 1 []).isSome else (s.nextSession q 1 []).isSome))

/-- Of the pages named, those that a write would bring into T1: EMPTY, LOST, or lying lower. -/
def State.newPages (s : State) (ix : Bool) (own : Nat) (keys : List Nat) : Nat :=
  (keys.eraseDups.filter fun k =>
    match s.page ⟨ix, own, k⟩ with | some p => !p.holdsT1 | none => true).length

/-- A work item's read of a page promotes it (R155): in OBJECT mode, and in HEAT mode once it is hot enough; an index in OBJECT mode keeps its
pages where its PIN names (R154); a PARKED session's pages are read through (R236). -/
def State.promotes (s : State) (ref : PageRef) (x : Page) : Bool :=
  if (s.region (ownerRegion ref.index ref.own)).heat then decide (s.rd .TIER_HEAT_PROMOTE1 ≤ x.heat)
  else if ref.index then s.ownerPin true ref.own != 2
  else match s.sess ref.own with
    | some y => y.st != .parked
    | none => true

/-- Bring a page below T1 to a reader: promote it while T1 has a place; in HEAT mode read it through where no room can be made; else it waits
for a place (R155, R157, R160). -/
def State.want (s : State) (ref : PageRef) : State :=
  match s.page ref with
  | none => s
  | some p =>
    if p.holdsT1 || p.st = .lost then s
    else
      let r := ownerRegion ref.index ref.own
      if !s.promotes ref p then s.startRead false ref
      else if s.t1Room r 1 then s.startRead true ref
      else if (s.region r).heat && !s.roomCan r then s.startRead false ref
      else s
/-- Bring a page of a REVIVING session into T1 once there is a place (R95, R160). -/
def State.wantUp (s : State) (ref : PageRef) : State :=
  match s.page ref with
  | none => s
  | some p => if p.holdsT1 || !s.t1Room (ownerRegion ref.index ref.own) 1 then s else s.startRead true ref

end Sys2Proof.Machine
end

