-- ==== Sys2Proof/Machine/WinchOps.lean ====
section
/-! DEFINITION. The winch (spec/06): panels and gores, class floors, dispatch (R195), release and charging
(R204), pre-emption (R196, R198), panel wakes (R182), items. -/

namespace Sys2Proof.Machine

/-! ### Panels and gores -/

def goreX (g : Nat) : Nat := g % 40
def panelOf (g : Nat) : Nat := g / 40

/-- Whether a gore is of a ready panel and not fenced: `avail` of R195. -/
def State.goreAvail (s : State) (g : Nat) : Bool :=
  s.bit .CTL_READY_GORES (panelOf g) && !bitAt (s.rd .GORE_PANEL_FENCED (panelOf g)) (goreX g)
def State.avail (s : State) : Nat := ((List.range Config.gores).filter s.goreAvail).length

def State.itemOn (s : State) (g : Nat) : Option Item :=
  s.gore.items.find? fun i => i.st = .running && i.gore = g

/-- Free gores of ungated panels, lowest first. -/
def State.freeGore (s : State) : Option Nat :=
  (List.range Config.gores).find? fun g =>
    s.goreAvail g && !s.on .GORE_PANEL_GATED (panelOf g) && !bitAt s.pwr.shed (panelOf g) && (s.itemOn g).isNone

/-- Recompute a panel's USABLE and its CTL_READY bit (R184, R185). -/
def popcount (w x : Nat) : Nat := ((List.range w).filter fun i => bitAt x i).length
def State.refreshPanel (s : State) (p : Nat) : State :=
  let n := if s.on .GORE_PANEL_FAULT p then 0 else 40 - popcount 40 (s.rd .GORE_PANEL_FENCED p)
  let s := s.wr .GORE_PANEL_USABLE p 0 n
  if n = 0 then s.wrBit .CTL_READY_GORES 0 p false else s

/-- Requests raised at the same moment: the order of their loads (R502). -/
def Load.ord : Load → Nat
  | .stack => 0 | .keel => 1 | .panel => 2 | .host => 3 | .pool => 4 | .flash => 5 | .ring => 6 | .clock => 7
def Wake.le (a b : Wake) : Bool :=
  if a.at_ != b.at_ then decide (a.at_ < b.at_)
  else if a.load.ord != b.load.ord then decide (a.load.ord < b.load.ord)
  else decide (a.num ≤ b.num)
/-- A request takes its place behind those before it. -/
def insertWake (x : Wake) : List Wake → List Wake
  | [] => [x]
  | y :: t => if Wake.le y x then y :: insertWake x t else x :: y :: t
/-- Show the drogue's queue (log 92). -/
def State.refreshDrogue (s : State) : State :=
  (s.wr .PWR_DROGUE_QUEUED 0 0 s.pwr.wakes.length).wr .PWR_DROGUE_QUEUED_W 0 0 (s.pwr.wakes.foldl (fun a w => a + w.deci) 0 / 10)
def State.setPwr (s : State) (p : Pwr) : State := { s with pwr := p }
/-- Queue a wake request at the drogue (R502). -/
def State.askWake (s : State) (l : Load) (n deci : Nat) : State :=
  ((s.setPwr { s.pwr with wakes := insertWake ⟨l, n, deci, s.now⟩ s.pwr.wakes }).bump .PWR_CNT_COUNT 0 0 1).refreshDrogue

/-- A load that the drogue has admitted and that is not yet ready; and its becoming ready. -/
def State.isAdmitted (s : State) (l : Load) (n : Nat) : Bool :=
  s.pwr.admitted.any fun w => w.load = l && w.num = n
def State.unadmit (s : State) (l : Load) (n : Nat) : State :=
  { s with pwr := { s.pwr with admitted := s.pwr.admitted.filter fun w => !(w.load = l && w.num = n) } }

/-! ### Classes and contexts -/

def WClass.idx : WClass → Nat
  | .attn => 0 | .assist => 1 | .recall => 2
def classes : List WClass := [.attn, .assist, .recall]

/-- The class floor in force, in percent (R194, R397). -/
def State.floor (s : State) (k : WClass) : Nat :=
  match k with
  | .attn => s.rd .CTL_ADM_STS_EFF_ATTN
  | .assist => s.rd .CTL_ADM_STS_EFF_ASSIST
  | .recall => s.rd .CTL_ADM_STS_EFF_RECALL

/-- The floors of the role in force (R194): ATTN, ASSIST, RECALL. -/
def State.baseFloors (s : State) : Nat × Nat × Nat :=
  match s.rd .GORE_ROLE_ROLE with
  | 0 => (85, 10, 5)
  | 1 => (20, 75, 5)
  | 2 => (10, 5, 85)
  | _ => (s.rd .GORE_ROLE_MIX_ATTN, s.rd .GORE_ROLE_MIX_ASSIST, s.rd .GORE_ROLE_MIX_RECALL)

/-- Points that the shift has taken from RECALL (true) or ASSIST, and a list of takings, last first, with `n` points of
one of them given up. -/
def takenOf (r : Bool) (l : List (Bool × Nat)) : Nat := (l.filter fun (p : Bool × Nat) => p.1 = r).foldl (fun a p => a + p.2) 0
def trimTaken (r : Bool) : Nat → List (Bool × Nat) → List (Bool × Nat)
  | 0, l => l
  | _, [] => []
  | n + 1, p :: t =>
    if p.1 != r then p :: trimTaken r (n + 1) t
    else if p.2 ≤ n + 1 then trimTaken r (n + 1 - p.2) t
    else (p.1, p.2 - (n + 1)) :: t
  termination_by structural _ l => l

/-- Apply the shift to the base floors, reduced as far as MIN_FLOOR requires (R396, R397), and show them. -/
def State.refreshFloors (s : State) : State :=
  let b := s.baseFloors
  let m := s.rd .CTL_ADM_CFG_MIN_FLOOR
  let l := trimTaken true (takenOf true s.fleet.taken - (b.2.2 - m)) s.fleet.taken
  let l := trimTaken false (takenOf false l - (b.2.1 - m)) l
  let r := takenOf true l
  let a := takenOf false l
  let s := { s with fleet := { s.fleet with taken := l } }
  let s := s.wr .CTL_ADM_STS_EFF_ATTN 0 0 (b.1 + r + a)
  let s := s.wr .CTL_ADM_STS_EFF_ASSIST 0 0 (b.2.1 - a)
  let s := s.wr .CTL_ADM_STS_EFF_RECALL 0 0 (b.2.2 - r)
  s.wr .CTL_ADM_STS_SHIFT 0 0 (r + a)

def State.held (s : State) (k : WClass) : Nat :=
  (s.gore.items.filter fun i => i.st = .running && i.cls = k).length
def State.heldCtx (s : State) (c : Nat) : Nat :=
  (s.gore.items.filter fun i => i.st = .running && i.ctx = c).length

/-- An item may be given a gore. -/
def Item.dispatchable (i : Item) : Bool := i.st = .ready || i.st = .saved

def State.capOk (s : State) (c : Nat) : Bool :=
  s.rd .GORE_SHARE_CAP c = 0 || decide (s.heldCtx c < s.rd .GORE_SHARE_CAP c)
/-- GORES is stopped, disabled or being reset: no item takes a gore (R203, R474, log 187). -/
def State.goresOff (s : State) : Bool := let t := s.rd .CTL_FN_STATE 6; t = 1 || t = 3 || t = 4
def State.eligible (s : State) (c : Nat) (k : WClass) : Bool :=
  (s.gore.items.any fun i => i.ctx = c && i.cls = k && i.dispatchable) && s.capOk c && !s.goresOff
def State.eligibles (s : State) (k : WClass) : List Nat := (List.range 64).filter fun c => s.eligible c k

def vtKey (c : Nat) (k : WClass) : Nat := 4 * c + k.idx
def State.vt (s : State) (c : Nat) (k : WClass) : Rat := (Map.find s.gore.vt (vtKey c k)).getD 0
def State.setVt (s : State) (c : Nat) (k : WClass) (v : Rat) : State :=
  { s with gore := { s.gore with vt := Map.put s.gore.vt (vtKey c k) v } }

/-- V[k] of R195, from the contexts that were eligible before. -/
def State.vMin (s : State) (k : WClass) (before : List Nat) : Rat :=
  match before.map (s.vt · k) with
  | [] => (Map.find s.gore.vlast k.idx).getD 0
  | v :: t => t.foldl min v

/-- Contexts that became eligible take their place from the present (R195). -/
def State.rejoin (old s : State) : State :=
  classes.foldl (fun s k =>
    let before := old.eligibles k
    (s.eligibles k).foldl (fun s c =>
      if before.contains c then s else s.setVt c k (max (s.vt c k) (s.vMin k before))) s) s

/-- The class that takes the next gore (R195). -/
def State.pickClass (s : State) : Option WClass :=
  let e := classes.filter fun k => !(s.eligibles k).isEmpty
  let av := s.avail
  let lack (k : WClass) : Nat := av * s.floor k / 100 - s.held k
  let short := e.filter fun k => decide (0 < lack k)
  match short with
  | k :: t => some (t.foldl (fun a b => if lack b > lack a then b else a) k)
  | [] =>
    match e with
    | [] => none
    | k :: t =>
      -- held ÷ FLOOR, compared by cross products; a floor of 0 is infinite
      let less (b a : WClass) : Bool :=
        if s.floor b = 0 then false else if s.floor a = 0 then true
        else decide (s.held b * s.floor a < s.held a * s.floor b)
      some (t.foldl (fun a b => if less b a then b else a) k)

/-- The context of a class that takes the gore (R195). -/
def State.pickCtx (s : State) (k : WClass) : Option Nat :=
  let e := s.eligibles k
  let heavy := e.filter fun c => s.rd .GORE_SHARE_WEIGHT c != 0
  let l := if heavy.isEmpty then e else heavy
  match l with
  | [] => none
  | c :: t => some (t.foldl (fun a b => if s.vt b k < s.vt a k then b else a) c)

/-- Order of age of items: earliest step, then lowest session, layer, KV head, segment (R195). -/
def Item.age (i : Item) : List Nat := [i.step, i.handle, i.layer, i.head, i.seg, i.id]
def State.pickItem (s : State) (c : Nat) (k : WClass) : Option Item :=
  match s.gore.items.filter fun i => i.ctx = c && i.cls = k && i.dispatchable with
  | [] => none
  | i :: t => some (t.foldl (fun a b => if lexLt b.age a.age then b else a) i)

def State.setItems (s : State) (l : List Item) : State := { s with gore := { s.gore with items := l } }
def State.mapItems (s : State) (p : Item → Bool) (f : Item → Item) : State :=
  s.setItems (s.gore.items.map fun i => if p i then f i else i)
def State.refreshHeld (s : State) (c : Nat) : State := s.wr .GORE_CTX_STS_HELD c 0 (s.heldCtx c)

/-- The page that a key of an item names. -/
def Item.ref (i : Item) (key : Nat) : PageRef := match i.ix with | some x => ⟨true, x, key⟩ | none => ⟨false, i.handle, key⟩
/-- The page lies in T1, or a read-through holds it for the item. -/
def State.pageHere (s : State) (i : Item) (key : Nat) : Bool :=
  i.staged.contains key ||
    (match s.page (i.ref key) with
     | some p => p.upper = .t1 && p.st != .lost
     | none => true)
/-- Ask for the pages of an item that are not there (R155, R191 step 2). -/
def State.fetchPages (s : State) (i : Item) : State :=
  i.pages.foldl (fun s key => if s.pageHere i key then s else s.want (i.ref key)) s

/-- A switch of a gore to another item takes up to 3 µs; how long, in units of 10 ns, is a free value (R188, R204, log 178). -/
def State.countSwitch (s : State) (g : Nat) : State :=
  if Map.has s.gore.lastCtx g then s.tickFree.bump .GORE_CNT_COUNT 7 0 (s.free % 301) else s

/-- Put an item on a gore (R188): the store is zeroed when the context changes. Staged copies that were not saved are fetched again. -/
def State.dispatchTo (s : State) (g : Nat) (i : Item) : State :=
  let s := s.countSwitch g
  let s := if (Map.find s.gore.lastCtx g).getD i.ctx = i.ctx then s else s.bump .GORE_CNT_COUNT 6 0 1
  let s := s.mapItems (fun j => j.id = i.id) fun j =>
    { j with st := .running, gore := g, since := s.now, preempt := false, saved := false, tileAt := s.now }
  let s := { s with gore := { s.gore with
    lastCtx := Map.put s.gore.lastCtx g i.ctx
    vlast := Map.put s.gore.vlast i.cls.idx (s.vt i.ctx i.cls) } }
  (s.refreshHeld i.ctx).fetchPages i

/-- The next gore to give, and the item that takes it (R195). -/
def State.nextPick (s : State) : Option (Nat × Item) := do
  let g ← s.freeGore
  let k ← s.pickClass
  let c ← s.pickCtx k
  let i ← s.pickItem c k
  pure (g, i)

/-- Give free gores to items while there are both (R195). -/
def State.dispatch (s : State) : Nat → State
  | 0 => s
  | fuel + 1 => s.nextPick.elim s fun p => State.dispatch (s.dispatchTo p.1 p.2) fuel

/-- Ask the drogue for gated panels while items are dispatchable and no ungated gore is free (R182). -/
def State.askPanels (s : State) : State :=
  if s.pickClass.isNone then s
  else
    (List.range Config.panels).foldl (fun s p =>
      if s.bit .CTL_READY_GORES p && s.on .GORE_PANEL_GATED p && !bitAt s.gore.waking p && !bitAt s.pwr.shed p then
        let s := { s with gore := { s.gore with waking := setBitN s.gore.waking p true } }
        (s.bump .GORE_CNT_COUNT 8 0 1).askWake .panel p 120
      else s) s

/-- P1 while a panel is gated, else P0 (R477). -/
def State.refreshPm (s : State) : State :=
  if s.rd .CTL_PM_STS_STATE ≤ 1 then
    s.wr .CTL_PM_STS_STATE 0 0 (b2n ((List.range Config.panels).any fun p => s.on .GORE_PANEL_GATED p))
  else s

/-- Loads of a kind that were admitted and are not yet ready have to be asked for again. -/
def State.dropAdmitted (s : State) (l : Load) : State :=
  s.setPwr { s.pwr with admitted := s.pwr.admitted.filter fun w => w.load != l }
/-- A load is asked of the drogue; a request of it that is queued already keeps its place (R513). -/
def State.askOnce (s : State) (l : Load) (n deci : Nat) : State :=
  if s.pwr.wakes.any fun w => w.load = l && w.num = n then s else s.askWake l n deci
/-- Every stack is asked of the drogue. -/
def State.askStacks (s : State) : State := (List.range 8).foldl (fun s n => s.askOnce .stack n 320) (s.dropAdmitted .stack)
/-- What ends an idle time (R487): a command accepted, a frame delivered, the end of P2. -/
def State.called (s : State) : State := s.setPwr { s.pwr with calledAt := s.now }
/-- P2 ends (R487): every stack is asked of the drogue. -/
def State.leaveP2 (s : State) : State :=
  if s.rd .CTL_PM_STS_STATE = 2 then (s.wr .CTL_PM_STS_STATE 0 0 0).refreshPm.askStacks.called else s

/-- Shed panels that no item holds any more are gated (R506). -/
def State.gateShed (s : State) : State :=
  if s.pwr.shed = 0 then s
  else
    (List.range Config.panels).foldl (fun s p =>
      if bitAt s.pwr.shed p && !s.on .GORE_PANEL_GATED p && !s.gore.items.any (fun i => i.st = .running && panelOf i.gore = p) then
        let s := { s with gore := { s.gore with lastCtx := s.gore.lastCtx.filter fun q => panelOf q.1 != p } }
        ((s.wr .GORE_PANEL_GATED p 0 1).bump .GORE_CNT_COUNT 9 0 1).refreshPm
      else s) s

/-- A panel whose gores hold an item, or an item's saved state, is not idle (R182). -/
def Item.onPanel (i : Item) (p : Nat) : Bool := (i.st = .running || i.saved) && panelOf i.gore = p
/-- The panels that were not idle before or after a change. -/
def State.markBusy (s old : State) : State :=
  let ps := (((old.gore.items ++ s.gore.items).filter fun i => i.st = .running || i.saved).map fun i => panelOf i.gore).eraseDups
  { s with gore := { s.gore with busyAt := ps.foldl (fun m p => Map.put m p s.now) s.gore.busyAt } }

/-- Pages that belong in T1 and lie lower: those of a REVIVING session (R95), map and spool pages of a session with tiles in T1 (R149), and an
index's in OBJECT mode but for PIN 2 (R154). -/
def State.lowPages (s : State) : List PageRef :=
  ((List.filter (fun (p : Nat × Session) => p.2.owner_) s.ses.tab).flatMap fun (p : Nat × Session) =>
    (p.2.pages.filter fun q => p.2.st = .reviving || (p.2.topTier = 1 && (q.2.kind = .map || q.2.kind = .spool))).map
      fun q => PageRef.mk false p.2.handle q.1) ++
  (s.tier.idxPages.filter fun (p : Nat × Map Page) => !(s.region (64 + p.1)).heat && s.ownerPin true p.1 != 2).flatMap fun (p : Nat × Map Page) =>
    (p.2.filter fun q => q.2.num < 2 ^ 36).map fun q => PageRef.mk true p.1 q.1
/-- Reads that waited for a place in T1. -/
def State.retryReads (s : State) : State :=
  let s := (s.gore.items.filter fun i => i.st = .held || i.st = .waiting).foldl State.fetchPages s
  if s.rd .CTL_PM_STS_STATE ≤ 2 then s.lowPages.foldl State.wantUp s else s

/-- What the winch does after any change of items, gores or shares. `old` is the state before the change. -/
def State.winch (s old : State) : State :=
  let s := (State.rejoin old s).gateShed.retryReads
  ((s.dispatch (s.gore.items.length + 1)).askPanels).markBusy old

/-- The gore-time meter, in whole µs with the remainder carried (R401). -/
def State.meterGore (s : State) (c t : Nat) : State :=
  let n := (Map.find s.fleet.goreRem c).getD 0 + t
  ({ s with fleet := { s.fleet with goreRem := Map.put s.fleet.goreRem c (n % 100) } }).bump .MTR_LIVE_COUNT c 0 (n / 100)

/-- A running item's gore is charged to its context and class for `dt` (R204). -/
def State.chargeGore (s : State) (dt : Nat) (i : Item) : State :=
  if i.st = .running then
    ((s.bump .GORE_CTX_CNT_COUNT i.ctx 0 dt).bump .GORE_CLASS_NS_COUNT i.cls.idx 0 dt).meterGore i.ctx dt
  else s

/-- An item leaves its gore: virtual time (R195). -/
def State.release (s : State) (i : Item) (f : Item → Option Item) : State :=
  let t := s.now - i.since
  let s := if i.st = .running then
      s.setVt i.ctx i.cls (s.vt i.ctx i.cls + (t : Rat) / ((max (s.rd .GORE_SHARE_WEIGHT i.ctx) 1 : Nat) : Rat))
    else s
  let s := s.setItems (s.gore.items.filterMap fun j => if j.id = i.id then f j else some j)
  s.refreshHeld i.ctx

/-- An item ends: it is counted and dropped. -/
def State.dropItem (s : State) (i : Item) : State :=
  let s := s.release i fun _ => none
  (s.bump .GORE_CNT_COUNT 2 0 1).bump .GORE_CTX_CNT_COUNT i.ctx 1 1

/-- Items that end at their next tile boundary with no result (R193): they are dropped, and counted as ended. -/
def State.killItems (s : State) (p : Item → Bool) : State :=
  (s.gore.items.filter p).foldl (fun s i => (s.release i fun _ => none).bump .GORE_CTX_CNT_COUNT i.ctx 1 1) s

/-- Save a pre-empted item's state (R188, R196, R198). -/
def State.saveItem (s : State) (i : Item) : State :=
  let s := s.release i fun j => some { j with st := .saved, preempt := false, readyAt := s.now, saved := true, staged := [] }
  (s.bump .GORE_CNT_COUNT 4 0 1).bump .GORE_CTX_CNT_COUNT i.ctx 3 1

/-- An item is rerun from its start (R184). -/
def State.rerunItem (s : State) (i : Item) : State :=
  let s := s.release i fun j => some { j with st := .ready, preempt := false, readyAt := s.now, saved := false }
  s.bump .GORE_CNT_COUNT 11 0 1

/-- Add an item. -/
def State.addItem (s : State) (i : Item) : State :=
  { s with gore := { s.gore with
    items := s.gore.items ++ [{ i with id := s.gore.nextItem, readyAt := s.now }], nextItem := s.gore.nextItem + 1 } }

/-- An item of a kind with nothing else said. -/
def Item.new (k : IKind) (cls : WClass) (ctx step handle layer head seg : Nat) (st : IState) : Item :=
  ⟨0, k, cls, ctx, step, handle, layer, head, seg, st, 0, 0, false, 0, none, [], [], false, 0⟩

/-- An item whose turn has come waits until its pages are there (R191 step 4). -/
def State.turn (s : State) (p : Item → Bool) : State :=
  s.mapItems (fun i => i.st = .held && p i) fun i =>
    { i with st := if i.pages.all (s.pageHere i) then .ready else .waiting, readyAt := s.now }

/-- Request the pages that an item needs and that lie outside T1 (R155, R191 step 2): the access counts first; a HEAT region promotes
the pages that are hot enough and reads the others through; an OBJECT region promotes. -/
def State.request (s : State) (i : Item) : State :=
  i.pages.foldl (fun s key => (s.touch (i.ref key)).want (i.ref key)) s

end Sys2Proof.Machine
end

