-- ==== Sys2Proof/Machine/ShpOps.lean ====
section
/-! DEFINITION. The shaper's and policers' operations (spec/13): fields in force (R371), buckets (R372), tags (R373), meters
(R377, R378), frames received in flow order (spec/12 R353), frames sent. -/

namespace Sys2Proof.Machine

/-! ### Fields in force (R371) -/

/-- Write an SHP configuration field: it takes effect at the next refill instant. -/
def State.shpPut (s : State) (f : Fld) (i j v : Nat) : State :=
  if !f.legal v then s
  else
    let k := f.key i j
    let s := if Map.has s.ring.inForce k then s else s.setRing { s.ring with inForce := Map.put s.ring.inForce k (s.rd f i j) }
    s.wr f i j v
def State.shpWord (s : State) (fs : List Fld) (i j word : Nat) : State :=
  fs.foldl (fun s f => s.shpPut f i j (fieldOf f word)) s

/-! ### Buckets (R372, R375) -/

def State.rateOf (s : State) (q : Nat) : Nat := s.inForce .SHP_CTXQ_RATE (q % 64) (q / 64 % 8)
def State.burstOf (s : State) (q : Nat) : Int := (s.inForce .SHP_CTXQ_BURST_KIB (q % 64) (q / 64 % 8) : Int) * 1024000
def State.tok (s : State) (q : Nat) : Int := (Map.find s.ring.tok q).getD (s.burstOf q)
def State.setTok (s : State) (q : Nat) (t : Int) : State := s.setRing { s.ring with tok := Map.put s.ring.tok q t }
/-- An ordinary queue may serve. -/
def State.mayServe (s : State) (q : Nat) : Bool := s.rateOf q = 0 || decide (0 < s.tok q)
/-- A bucket holds frames of the queue back. -/
def State.tokHeld (s : State) (q : Nat) : Bool :=
  !s.isPriv (q / 64 % 8) && !(s.localQ q).isEmpty && s.rateOf q != 0 && decide (s.tok q ≤ 0)
/-- The VC's ordinary local queues of a context hold a frame back at some port (R375). -/
def State.vcHeld (s : State) (c v : Nat) : Bool := (List.range 8).any fun p => s.tokHeld (localKey p v c)
def State.ctxHeld (s : State) (c : Nat) : Bool := s.ring.locals.any fun (p : Nat × List QFrame) => p.1 % 64 = c && s.tokHeld p.1

/-- `dt` reference clock cycles of HOLD_NS (R375) and CREDIT_STALL (spec/12). -/
def State.chargeRing (s : State) (dt : Nat) : State :=
  let cs := ((s.ring.locals.filter fun (p : Nat × List QFrame) => s.tokHeld p.1).map fun (p : Nat × List QFrame) => p.1 % 64).eraseDups
  let s := cs.foldl (fun s c => s.bump .SHP_CTX_CNT_COUNT c 6 dt) s
  (List.range 8).foldl (fun s p => if bitAt s.ring.short p then s.bump .RING_PORT_CNT_COUNT p 5 dt else s) s

/-! ### Meters (R377, R378) -/

/-- A meter's settings in credit units: MODE, CIR and PIR a refill instant's credit, bursts. -/
structure MeterCfg where
  mode : Nat
  cir : Nat
  pir : Nat
  cbs : Nat
  ebs : Nat
  deriving DecidableEq, Repr

def meterCfg (mode cir cbs rate2 burst2 unit : Nat) : MeterCfg :=
  ⟨mode, cir * 1024, max rate2 cir * 1024, cbs * unit, (if mode = 2 then max burst2 1 else burst2) * unit⟩
def State.hostCfg (s : State) (c : Nat) : MeterCfg :=
  meterCfg (s.inForce .SHP_HPOL_A_MODE c) (s.inForce .SHP_HPOL_A_CIR c) (s.inForce .SHP_HPOL_A_CBS c) (s.inForce .SHP_HPOL_B_RATE2 c)
    (s.inForce .SHP_HPOL_B_BURST2 c) (10 ^ 9)
def State.ringCfg (s : State) (v c : Nat) : MeterCfg :=
  meterCfg (s.inForce .SHP_RPOL_MODE v c) (s.inForce .SHP_RPOL_CIR v c) (s.inForce .SHP_RPOL_CBS v c) (s.inForce .SHP_RPOL_RATE2 v c)
    (s.inForce .SHP_RPOL_BURST2 v c) 1024000
def MeterCfg.full (g : MeterCfg) : Meter := ⟨g.cbs, g.ebs⟩
def State.ringMeter (s : State) (v c : Nat) : Meter := (Map.find s.ring.rmet (64 * v + c)).getD (s.ringCfg v c).full

/-- One refill instant's credit. -/
def MeterCfg.refill (g : MeterCfg) (m : Meter) : Meter :=
  if g.mode = 1 then
    let tc := m.tc + g.cir
    if g.cbs < tc then ⟨g.cbs, min (m.te + (tc - g.cbs)) g.ebs⟩ else ⟨tc, m.te⟩
  else if g.mode = 2 then ⟨min (m.tc + g.cir) g.cbs, min (m.te + g.pir) g.ebs⟩
  else m
/-- The colour of `b` credit with a pre-colour, and the meter after it. -/
def MeterCfg.colour (g : MeterCfg) (m : Meter) (pre b : Nat) : Nat × Meter :=
  if g.mode = 1 then
    if pre = 0 && decide (b ≤ m.tc) then (0, { m with tc := m.tc - b })
    else if pre < 2 && decide (b ≤ m.te) then (1, { m with te := m.te - b })
    else (2, m)
  else if g.mode = 2 then
    if pre ≥ 2 || decide (m.te < b) then (2, m)
    else if pre = 1 || decide (m.tc < b) then (1, { m with te := m.te - b })
    else (0, ⟨m.tc - b, m.te - b⟩)
  else (0, m)

/-- The HTI_TIME of refill instant `k`. -/
def refillTime (k : Nat) : Nat := k * 512 / 5
/-- The number of the first refill instant after a time. -/
def nextRefill (now : Nat) : Nat := ((now + 1) * 5 + 511) / 512
/-- RETRY_LATER hint of a time in 10 ns (R76, R378). -/
def hintOf (cycles : Nat) : Nat :=
  let us := max 1 ((cycles + 99) / 100)
  if us < 16384 then hintUs us
  else if (us + 999) / 1000 < 16384 then hintMs ((us + 999) / 1000)
  else hintS (min 16383 ((us + 999999) / 1000000))
/-- The hint of a red decision: when the meter would next colour `b` other than red (R378). -/
def MeterCfg.hint (g : MeterCfg) (m : Meter) (b now : Nat) : Nat :=
  let have_ := if g.mode = 1 then m.tc else m.te
  let cap := if g.mode = 1 then g.cbs else g.ebs
  let rate := if g.mode = 1 then g.cir else g.pir
  if cap < b || rate = 0 then hintS 16383
  else
    let n := max 1 ((b - have_ + rate - 1) / rate)
    hintOf (refillTime (nextRefill now + n - 1) - now)

/-- The host policer on a command that reaches step 7 of R58: its colour (2 exempt, 3 red) and, when red, its hint. -/
def exemptOps : List Nat := [0x02, 0x04, 0x19, 0x11, 0x61, 0x73]
def State.police (s : State) (c op : Nat) : State × Nat × Nat :=
  if exemptOps.contains op then (s, 2, 0)
  else
    let g := s.hostCfg c
    if g.mode = 0 then (s, 0, 0)
    else
      let r := g.colour (s.hostMeter c) 0 (10 ^ 9)
      if r.1 = 2 then (s, 3, g.hint (s.hostMeter c) (10 ^ 9) s.now) else (s.setHostMeter c r.2, r.1, 0)

/-! ### Frames received (R353, R379, R380) -/

def State.flow (s : State) (k boot : Nat) : RxFlow :=
  match Map.find s.ring.rx k with
  | some f => if f.boot = boot then f else ⟨boot, 0, []⟩
  | none => ⟨boot, 0, []⟩
def State.setFlow (s : State) (k : Nat) (f : RxFlow) : State := s.setRing { s.ring with rx := Map.put s.ring.rx k f }
def flowOf (f : RFrame) : Nat := flowKey f.src f.ctx f.vc
def RxFlow.size (f : RxFlow) (p : HeldFrame → Bool) : Nat := (f.held.filter p).foldl (fun a h => a + 32 + h.f.len + 16 * b2n h.f.enc) 0
/-- Bytes of the reorder store in use. -/
def State.storeUsed (s : State) (p : HeldFrame → Bool) : Nat := s.ring.rx.foldl (fun a (q : Nat × RxFlow) => a + q.2.size p) 0

/-- A frame is delivered with a colour: 0 green, 1 yellow, 2 red, 3 not metered. It ends P2. -/
def State.deliver (s : State) (f : RFrame) (colour : Nat) : State :=
  let s := s.leaveP2.called.bump .RING_CNT_COUNT 1 0 1
  if colour = 0 then s.bump .SHP_CTX_CNT_COUNT f.ctx 3 1 else if colour = 1 then s.bump .SHP_CTX_CNT_COUNT f.ctx 4 1 else s
/-- Deliver the held frames of a flow whose turn has come; lost ones are passed over. -/
def State.drainFlow (s : State) (k : Nat) : Nat → State
  | 0 => s
  | fuel + 1 =>
    match Map.find s.ring.rx k with
    | none => s
    | some f =>
      match f.held with
      | h :: t =>
        if h.f.seq = f.next && h.mode != 1 then
          let s := s.setFlow k { f with next := f.next + 1, held := t }
          State.drainFlow (if h.mode = 2 then s else s.deliver h.f h.colour) k fuel
        else s
      | [] => s
/-- Put a frame among the held ones of its flow, in SEQ order. -/
def RxFlow.hold (f : RxFlow) (h : HeldFrame) : RxFlow :=
  if h.f.seq < f.next || f.held.any (fun x => x.f.seq = h.f.seq) then f
  else { f with held := insertBy (fun a b => decide (a.f.seq ≤ b.f.seq)) h f.held }
/-- Hold a frame; a full store discards its newest frame held for a gap as lost (R353). -/
def State.holdFrame (s : State) (h : HeldFrame) : State :=
  let k := flowOf h.f
  let s := s.setFlow k ((s.flow k h.f.boot).hold h)
  let s :=
    if s.storeUsed (fun x => x.mode != 2) ≤ 2 ^ 25 then s
    else
      let all := s.ring.rx.flatMap fun (q : Nat × RxFlow) => (q.2.held.filter fun x => x.mode = 0).map fun x => (q.1, x)
      match all with
      | [] => s
      | a :: t =>
        let n := t.foldl (fun (a b : Nat × HeldFrame) => if a.2.at_ ≤ b.2.at_ then b else a) a
        let g := s.flow n.1 n.2.f.boot
        let s := s.setFlow n.1 { g with held := g.held.map fun x => if x.f.seq = n.2.f.seq then { x with mode := 2 } else x }
        (s.bump .RING_CNT_COUNT 6 0 1).bump .RING_CNT_COUNT 5 0 1
  s.drainFlow k ((s.flow k h.f.boot).held.length + 1)
/-- A frame counts as lost at once (R348, R380). -/
def State.loseFrame (s : State) (f : RFrame) : State := (s.bump .RING_CNT_COUNT 5 0 1).holdFrame ⟨f, 0, s.now, 2, 2⟩
/-- A frame takes its place in its flow: delivered when its turn has come, held beyond a gap. -/
def State.acceptFrame (s : State) (f : RFrame) (l colour : Nat) : State :=
  let k := flowOf f
  let g := s.flow k f.boot
  if f.seq = g.next then
    ((s.deliver f colour).setFlow k { g with next := g.next + 1 }).drainFlow k (g.held.length + 1)
  else if f.seq < g.next then s
  else
    s.holdFrame ⟨f, l, s.now, 0, colour⟩

/-! ### Frames sent (R351, R374) -/

/-- Coordinate and dimension of a port's ring, and whether it leads in the negative direction. -/
def portNeg (p : Nat) : Bool := p % 4 = 1 || p % 4 = 2
def portY (p : Nat) : Bool := decide (2 ≤ p % 4)
/-- A frame as it leaves a port: DATELINE is set on the link between coordinates DIM − 1 and 0 (R350). -/
def State.onLink (s : State) (f : RFrame) (p : Nat) : RFrame :=
  let dim := if portY p then s.dimY else s.dimX
  let at_ := if portY p then s.myId / 32 else s.myId % 32
  if if portNeg p then at_ = 0 else at_ + 1 = dim then { f with dateline := true } else f
/-- Credit class of a frame, and whether the next hop has credit for it (R350). -/
def creditClass (f : RFrame) : Nat := f.vc * 4 + 2 * b2n f.yfirst + b2n f.dateline
def State.hasCredit (s : State) (p : Nat) (credit : List Nat) (q : QFrame) : Bool :=
  let f := s.onLink q.f p
  decide ((32 + f.len + 16 * b2n f.enc + 63) / 64 ≤ credit.getD (creditClass f) 0)

/-- The local frame that VC `v` of a port would send: its queue and frame (R372, R373). -/
def State.pickLocal (s : State) (p v : Nat) (credit : List Nat) : Option (Nat × QFrame) :=
  let heads := (List.range 64).filterMap fun c =>
    match s.localQ (localKey p v c) with
    | h :: _ => if s.hasCredit p credit h && (s.isPriv v || s.mayServe (localKey p v c)) then some (localKey p v c, h) else none
    | [] => none
  if s.isPriv v then
    match heads with
    | [] => none
    | a :: t => some (t.foldl (fun (a b : Nat × QFrame) => if b.2.tag < a.2.tag then b else a) a)
  else
    let last := (Map.find s.ring.lastCtx (p * 8 + v)).getD 63
    match heads.find? fun (h : Nat × QFrame) => decide (last < h.1 % 64) with
    | some h => some h
    | none => heads.head?
/-- What VC `v` of a port would send: from the transit queue (true) or a local queue. -/
def State.pickVc (s : State) (p v : Nat) (credit : List Nat) : Option (Bool × Nat × QFrame) :=
  let tr := match s.transitQ (p * 8 + v) with
    | h :: _ => if s.hasCredit p credit h then some (true, p * 8 + v, h) else none
    | [] => none
  let lo := (s.pickLocal p v credit).map fun (h : Nat × QFrame) => (false, h.1, h.2)
  match tr, lo with
  | some t, some l => if (Map.find s.ring.bal (p * 8 + v)).getD 0 ≥ 0 then some t else some l
  | some t, none => some t
  | none, l => l

/-- The next ready VC of the round takes its quantum (R374). -/
def State.drrNext (s : State) (p : Nat) (ready : List (Nat × Nat)) (cur : Nat) : State × Nat :=
  let nx := match ready.find? fun (r : Nat × Nat) => decide (cur < r.1) with
    | some r => r.1
    | none => (ready.head?.map Prod.fst).getD 0
  let d := (Map.find s.ring.deficit (p * 8 + nx)).getD 0 + s.inForce .SHP_VC_WEIGHT nx * 4096
  (s.setRing { s.ring with deficit := Map.put s.ring.deficit (p * 8 + nx) d }, nx)
/-- Deficit round robin over the ready VCs of one class (R374): the VC that stands in the round sends while its deficit covers its
frame. -/
def State.drr (s : State) (p cls : Nat) (ready : List (Nat × Nat)) : Nat → Nat → State × Option Nat
  | 0, _ => (s, none)
  | fuel + 1, cur =>
    let d := (Map.find s.ring.deficit (p * 8 + cur)).getD 0
    let n := s.drrNext p ready cur
    match ready.find? fun (r : Nat × Nat) => r.1 = cur with
    | some r =>
      if r.2 ≤ d then
        (s.setRing { s.ring with deficit := Map.put s.ring.deficit (p * 8 + cur) (d - r.2), turn := Map.put s.ring.turn (p * 2 + cls) cur }, some cur)
      else State.drr n.1 p cls ready fuel n.2
    | none => State.drr n.1 p cls ready fuel n.2

def State.linkRate (s : State) (p : Nat) : Nat := if s.rd .RING_PORT_STS_WIDTH p = 8 then 120900 else if s.rd .RING_PORT_STS_WIDTH p = 4 then 60450 else 0
def State.pcapFull (s : State) (p : Nat) : Int := (s.inForce .SHP_PORT_PRIV_BURST_KIB p : Int) * 1024000
def State.pcap (s : State) (p : Nat) : Int := (Map.find s.ring.pcap p).getD (s.pcapFull p)
def State.setPcap (s : State) (p : Nat) (v : Int) : State := s.setRing { s.ring with pcap := Map.put s.ring.pcap p v }

/-- A frame of VC `v` leaves a port: queue, bucket or virtual time, the balance of R351, counters. -/
def State.depart (s : State) (p v : Nat) (c : Bool × Nat × QFrame) : State :=
  let q := c.2.1
  let x := c.2.2
  let f := s.onLink x.f p
  let bytes := frameBytes f
  let other := if c.1 then (List.range 64).any fun k => !(s.localQ (localKey p v k)).isEmpty else !(s.transitQ (p * 8 + v)).isEmpty
  let b := (Map.find s.ring.bal (p * 8 + v)).getD 0
  let s := s.setRing { s.ring with
    bal := Map.put s.ring.bal (p * 8 + v) (if !other then 0 else if c.1 then b - bytes else b + bytes) }
  let s := if c.1 then s.putFrame p f else (s.putFrame p { f with data := s.sealed f }).tickFree
  let s := s.bump .RING_PORT_CNT_COUNT p 6 bytes
  if c.1 then s.setRing { s.ring with transit := putQ s.ring.transit q (s.transitQ q).tail }
  else
    let s := s.setRing { s.ring with
      locals := putQ s.ring.locals q (s.localQ q).tail, lastCtx := Map.put s.ring.lastCtx (p * 8 + v) (q % 64) }
    let s := (s.bump .SHP_CNT_COUNT 0 0 1).bump .SHP_CTX_CNT_COUNT f.ctx 7 x.l
    let s := s.bump .MTR_LIVE_COUNT f.ctx (4 + v) bytes
    if s.isPriv v then
      (s.setRing { s.ring with vtime := Map.put s.ring.vtime (p * 8 + v) x.tag }).settleV (p * 8 + v)
    else if s.rateOf q = 0 then s
    else s.setTok q (s.tok q - x.l * 1000)

/-- Frames that waited for room enter their queues (R369). -/
def State.unblock (s : State) : State :=
  let l := s.ring.blocked
  l.foldl State.routeFrame (s.setRing { s.ring with blocked := [] })

end Sys2Proof.Machine
end

