-- ==== Sys2Proof/Machine/StepOps.lean ====
section
/-! DEFINITION. Steps (spec/06 R190 to R193, spec/07): columns and segments, forming items, flags and records,
markers, rows taking effect, seals, leaving a step, time passing with its stall charges (R161 to R163). -/

namespace Sys2Proof.Machine

/-! ### Columns and segments (R187, R208) -/

/-- Whether column `c` holds a position that some query of positions P to P + n − 1 attends (R205, R208). -/
def colRead (w sinks p n c : Nat) : Bool :=
  decide (128 * c ≤ p + n - 1) && (w = 0 || decide (128 * c + 127 + w > p) || decide (128 * c < sinks))
def colsRead (w sinks p n : Nat) : List Nat :=
  (List.range ((p + n - 1) / 128 + 1)).filter (colRead w sinks p n)
def segmentsOf (segTiles : Nat) (cols : List Nat) : List Nat := (cols.map (· / segTiles)).eraseDups

/-- The pages that hold a tile. -/
def Session.tilePages (x : Session) (g : Shape) (key : Nat) : List Nat :=
  match Map.find x.tiles key with
  | none => []
  | some t =>
    if t.sealed then (pagesOfSpan t.off (t.off + t.len)).map (pageKey .sealed)
    else (List.range g.openPages).map fun i => pageKey .opened (key % g.headLayers * g.openPages + i)

/-! ### Steps and entries -/

def State.setSteps (s : State) (l : List Step) : State := { s with attn := { s.attn with steps := l } }
def State.step? (s : State) (c sid : Nat) : Option Step := s.attn.steps.find? fun t => t.ctx = c && t.stepId = sid
def State.stepById (s : State) (n : Nat) : Option Step := s.attn.steps.find? fun t => t.id = n
def State.updStep (s : State) (n : Nat) (f : Step → Step) : State :=
  s.setSteps (s.attn.steps.map fun t => if t.id = n then f t else t)
def Step.updEntry (t : Step) (h : Nat) (f : SEntry → SEntry) : Step :=
  { t with entries := t.entries.map fun e => if e.handle = h && e.admitted then f e else e }
def State.updEntry (s : State) (n h : Nat) (f : SEntry → SEntry) : State := s.updStep n fun t => t.updEntry h f
def SEntry.inStep (e : SEntry) : Bool := e.admitted && !e.gone
def Step.entryIdx (t : Step) (h : Nat) : Nat := t.entries.findIdx fun e => e.handle = h && e.admitted

/-- Slot sizes of R220. -/
def Step.n (t : Step) : Nat := t.entries.length * t.ntok
def qbOf (g : Shape) (n : Nat) : Nat := pad4k (n * g.hq * g.dk * 2)
def islotOf (g : Shape) (n : Nat) : Nat := pad64k (qbOf g n + n * g.hkv * g.rowBytes)
def obOf (g : Shape) (n : Nat) : Nat := pad4k (n * g.hq * g.dv * 2)
def oslotOf (g : Shape) (n : Nat) : Nat := pad64k (obOf g n + n * g.hq * 4)

/-- The flag value (R226). ACTIVE counts the admitted entries that have not left, one that ran to its end counting whatever its status, CANCELLED
too (log 20). -/
def Step.active (t : Step) : Nat := (t.entries.filter fun e => e.admitted && e.leftAt.isNone).length
def Step.flagValue (t : Step) (done : Nat) (fin : Bool) : Nat :=
  t.stepId + done * 2 ^ 16 + t.active * 2 ^ 32 + b2n fin * 2 ^ 63
def State.writeFlag (s : State) (t : Step) (done : Nat) (fin : Bool) : State :=
  if t.mute then s else s.emit (.write t.ctx t.flag 8 (t.flagValue done fin))

/-- The status record of entry `i` (R225). -/
def SEntry.record (e : SEntry) : Nat :=
  e.status.code + e.cause % 65536 * 2 ^ 16 + e.layers * 2 ^ 32 +
    b2n (e.sampled.isSome && e.status = .ok) * 2 ^ 48
def State.writeRecord (s : State) (t : Step) (i : Nat) (e : SEntry) : State := s.emit (.write t.ctx (t.records + 8 * i) 8 e.record)

/-- Write one entry's part of the output slot of layer `l` (R220), and its markers (R230). -/
def State.writeOut (s : State) (t : Step) (l i : Nat) (o lse : List Nat) : State :=
  let base := t.out + l % t.nslot * oslotOf t.geo t.n
  let r := i * t.ntok * t.geo.hq
  let s := s.emit (.write t.ctx (base + r * t.geo.dv * 2) (2 * o.length) (packWords 2 o))
  s.emit (.write t.ctx (base + obOf t.geo t.n + r * 4) (4 * lse.length) (packWords 4 lse))
def State.writeMarker (s : State) (t : Step) (l i : Nat) : State :=
  let n := t.ntok * t.geo.hq
  (s.writeOut t l i (List.replicate (n * t.geo.dv) 0) (List.replicate n 0xFFFFFFFF)).bump .GORE_ATTN_CNT_COUNT 7 0 n

/-! ### Forming items -/

/-- The ATTN_SEG items of one layer for an entry, with their page requests (R191 step 2). -/
def State.formLayer (s : State) (t : Step) (e : SEntry) (l : Nat) : State :=
  if l ≥ t.geo.layers then s else
  match s.sess e.handle with
  | none => s
  | some x =>
    let cols := colsRead (t.geo.wins.getD l 0) t.geo.sinks e.pos0 t.ntok
    (List.range t.geo.hkv).foldl (fun s g =>
      (segmentsOf t.segTiles cols).foldl (fun s sg =>
        let ps := ((cols.filter fun c => c / t.segTiles = sg).flatMap fun c =>
          x.tilePages t.geo (tileKey t.geo c l g)).eraseDups
        let i := { Item.new .attnSeg .attn t.ctx t.id e.handle l g sg .held with pages := ps }
        (s.addItem i).request i) s) s

/-- The APPEND items of a kicked layer for an entry (R191 step 3). -/
def State.kickEntry (s : State) (t : Step) (e : SEntry) (l : Nat) : State :=
  (List.range t.geo.hkv).foldl (fun s g =>
    s.addItem (Item.new .append .attn t.ctx t.id e.handle l g 0 .ready)) s

/-- An admitted entry whose turn under R192 and R238 has come: items of the kicked layers and of the next. -/
def State.startEntry (s : State) (t : Step) (e : SEntry) : State :=
  let s := s.updEntry t.id e.handle fun e => { e with waiting := false }
  let s := (List.range (t.kicked + 1)).foldl (fun s l => s.formLayer t e l) s
  (List.range t.kicked).foldl (fun s l => s.kickEntry t e l) s

/-- Work of the session that runs now: a step item or a KV_APPEND (R192, R238). -/
def State.sessBusy (s : State) (h : Nat) : Bool :=
  s.kvInFlight h || s.attn.steps.any fun t => t.entries.any fun e => e.handle = h && e.inStep && !e.waiting
/-- A KV_APPEND of the session was accepted before command number `k` and has not ended. -/
def State.kvBefore (s : State) (h k : Nat) : Bool :=
  s.hti.cmds.any fun c => c.op = 0x32 && Desc.handle c.desc = h && c.phase != .done && c.id < k
/-- A step item of the session was admitted before the command numbered `k` was accepted, and has not ended (R238). -/
def State.itemBefore (s : State) (h k : Nat) : Bool :=
  s.attn.steps.any fun t => t.seq ≤ k && t.entries.any fun e => e.handle = h && e.inStep

/-- The items of an entry are those of its step and session. -/
def entryItem (n h : Nat) (i : Item) : Bool := i.cls = .attn && i.step = n && i.handle = h

/-! ### Leaving a step (R193) and ending an item -/

/-- The answer to a step item in a state that lets none in (R91, R224): none in ALOFT. -/
def State.itemRefuse (s : State) (x : Session) : Option (Status × Nat) :=
  if x.st = .orphaned || x.st = .failed then some (.orphaned, x.orphanCause)
  else if x.st = .shipping then some (.busyTether, x.busyCause)
  else if !x.owner_ then some (.ownerConflict, x.ownerCause)
  else if s.fab.isolated then some (.retryLater, hintMs 10)
  else if x.st != .aloft then some (.retryLater, hintMs 1)
  else none

/-- The step item has a status: its record is written, and an acknowledgement is no longer awaited. -/
def State.endEntry (s : State) (n h : Nat) (st : Status) (cause : Nat) : State :=
  let s := s.updEntry n h fun e => { e with gone := true, sealing := false, waiting := false, status := st, cause := cause }
  match s.stepById n with
  | none => s
  | some t =>
    let i := t.entryIdx h
    let s := match t.entries[i]? with | some e => s.writeRecord t i e | none => s
    let s := { s with ses := { s.ses with acks := s.ses.acks.filter fun w => match w with | .item a _ m _ _ => !(a = h && m = n) | _ => true } }
    s.updSess h fun x => { x with lastStep := s.now }

/-- The next step item of a session begins when its turn has come; one whose session no longer lets it in ends (R91). -/
def State.nextItem (s : State) (h : Nat) : Nat → State
  | 0 => s
  | fuel + 1 =>
    if s.sessBusy h then s
    else match s.attn.steps.find? fun t => t.entries.any fun e => e.handle = h && e.inStep && e.waiting with
      | none => s
      | some t =>
        match t.entries.find? (fun e => e.handle = h && e.inStep && e.waiting), s.sess h with
        | some e, some x =>
          if s.kvBefore h t.seq then s
          else match s.itemRefuse x with
            | none => s.startEntry t e
            | some r =>
              State.nextItem ((s.updEntry t.id h fun e => { e with leftAt := some t.done, rows := [], sampled := none }).endEntry t.id h r.1 r.2)
                h fuel
        | _, _ => s
def State.startNext (s : State) (h : Nat) : State := s.nextItem h (s.attn.steps.length + 1)

/-- A step item ends with a status, and its session's next one may begin. -/
def State.closeEntry (s : State) (n h : Nat) (st : Status) (cause : Nat) : State := (s.endEntry n h st cause).startNext h

/-- Columns that positions p to p + n − 1 fill to their last row. -/
def filledCols (p n : Nat) : List Nat :=
  (List.range (n / 128 + 2)).filterMap fun i =>
    let c := p / 128 + i
    if 128 * c + 128 ≤ p + n then some c else none
/-- Halves of the tiles that rows delivered for `hls` head-layers filled (SEAL_DISCARDED, spec/04). -/
def filledHalves (g : Shape) (p n hls : Nat) : Nat := hls * g.halves * (filledCols p n).length
/-- The head-layers of an entry whose rows an APPEND item has written. -/
def State.rowsWritten (s : State) (t : Step) (e : SEntry) : Nat :=
  if e.sealing then t.geo.headLayers
  else if e.waiting then 0
  else t.kicked * t.geo.hkv - (s.gore.items.filter fun i => entryItem t.id e.handle i && i.kind = .append).length

/-- What the rows of a command that did not end with OK had replaced comes back (R116). -/
def State.undoRows (s : State) (h : Nat) : State :=
  match s.sess h with
  | none => s
  | some x =>
    match x.undo with
    | none => s
    | some u =>
      (s.setSess { x with kvLen := u.kvLen, streamLen := u.streamLen, rbStart := u.rbStart, tiles := u.tiles, undo := none }).sweepStream h
/-- The rows of a command that ended with OK stay, and count (R116). -/
def State.keepRows (s : State) (h : Nat) : State :=
  match s.sess h with
  | none => s
  | some x =>
    match x.undo with
    | none => s
    | some u =>
      ((s.setSess { x with undo := none }).bump .GORE_ATTN_CNT_COUNT 5 0 u.rows).bump .GORE_TILE_CNT_COUNT 10 0 u.replaced

/-- A session leaves a step before the end: its items end, its rows and seals are discarded (R116, R193). An item whose rows have taken
effect leaves only where `deep` says so. A token that it has appended stays in the spool (log 175). -/
def State.leaveStep (s : State) (n h : Nat) (st : Status) (cause : Nat) (deep : Bool := true) : State :=
  match s.stepById n with
  | none => s
  | some t =>
    match t.entries.find? fun e => e.handle = h && e.inStep && (deep || !e.sealing) with
    | none => s
    | some e =>
      let s := s.bump .GORE_TILE_CNT_COUNT 4 0 (filledHalves t.geo e.pos0 t.ntok (s.rowsWritten t e))
      let s := s.killItems (entryItem n h)
      let s := if e.sealing then s.undoRows h else s
      let s := s.updEntry n h fun e => { e with leftAt := if e.sealing then e.leftAt else some t.done, rows := [], sampled := none }
      s.closeEntry n h st cause

/-- Every step item of a session that runs leaves. -/
def State.leaveAll (s : State) (h : Nat) (st : Status) (cause : Nat) : State :=
  (s.attn.steps.filter fun t => t.entries.any fun e => e.handle = h && e.inStep && !e.waiting).foldl
    (fun s t => s.leaveStep t.id h st cause) s

/-! ### Rows and seals (R116, R119, R138) -/

/-- Write rows of one head-layer at positions from `p` into the session's tiles; the keys written. -/
def Session.putRows (x : Session) (g : Shape) (hl : Nat) : Nat → List Nat → Session
  | _, [] => x
  | p, r :: t =>
    let key := p / 128 * g.headLayers + hl
    let tile := (Map.find x.tiles key).getD (Tile.fresh g)
    Session.putRows { x with tiles := Map.put x.tiles key (tile.putRow g (p % 128) r) } g hl (p + 1) t

/-- SEAL items for the head-layers of a column (R191 step 7): `seg` holds the column. -/
def State.formSeals (s : State) (cls : WClass) (c step h : Nat) (g : Shape) (col : Nat) (hls : List Nat) : State :=
  hls.foldl (fun s hl => s.addItem (Item.new .seal cls c step h (hl / g.hkv) (hl % g.hkv) col .ready)) s

/-- The pages that the rows of a head-layer write (R147, R148): its open tile, and the map pages that locate it and hold its tag. -/
def openKeys (g : Shape) (col hl : Nat) : List Nat :=
  let ps := (List.range g.openPages).map fun i => hl * g.openPages + i
  ps.map (pageKey .opened) ++ ((ps.map (mapNum 1)) ++ [mapNum 2 (col * g.headLayers + hl)]).eraseDups.map (pageKey .map)
/-- A work item has written pages: each access counts (R155). -/
def State.touchAll (s : State) (h : Nat) (keys : List Nat) : State := keys.foldl (fun s k => s.touch ⟨false, h, k⟩) s
/-- APPEND items write their head-layers' pages. -/
def State.appendPages (s : State) (h : Nat) (g : Shape) (col : Nat) (hls : List Nat) : State :=
  hls.foldl (fun s hl => (s.touchAll h (openKeys g col hl)).writeOpen h g col [hl]) s

/-- T1 has places for the pages that rows will write (R157, R160). -/
def State.rowRoom (s : State) (h : Nat) (g : Shape) (col : Nat) (hls : List Nat) : Bool :=
  s.t1Room (hCtx h) (s.newPages false h (hls.flatMap (openKeys g col)))

/-- An entry that has run through its layers may end, but for places in T1 for its rows (R160). -/
def State.entryRoom (s : State) (t : Step) (e : SEntry) : Bool :=
  s.rowRoom e.handle t.geo ((e.pos0 + t.ntok - 1) / 128) (List.range t.geo.headLayers)
def Step.atEnd (t : Step) (e : SEntry) : Bool :=
  e.inStep && !e.waiting && !e.sealing && !e.cancel && t.done = t.geo.layers && (!t.sample || e.sampleDone)

/-- Rows of a step item or of an APPEND at KV_LEN take effect: KV_LEN, the open tiles, the next open tiles, the
pages, and SEAL items for the tiles filled. What they replace is kept until the command ends (R116). -/
def State.takeRows (s : State) (cls : WClass) (c step h : Nat) (g : Shape) (p n : Nat) (rows : Map (List Nat)) :
    State :=
  match s.sess h with
  | none => s
  | some x =>
    let hls := List.range g.headLayers
    let u : Undo := ⟨x.kvLen, x.streamLen, x.rbStart, x.tiles, n * g.headLayers, 0⟩
    let x := hls.foldl (fun x hl => x.putRows g hl p ((Map.find rows hl).getD [])) x
    let s := s.setSess { x with kvLen := p + n, undo := some u }
    let s := s.appendPages h g ((p + n - 1) / 128) hls
    (filledCols p n).foldl (fun s col => s.formSeals cls c step h g col hls) s

/-- Alter a seal under an armed injection (R138): tag CRC, content. -/
def injectSeal (mode len col data crc : Nat) : Nat × Nat :=
  let flip (d byte : Nat) : Nat := setBitN d (8 * byte) (!bitAt d (8 * byte))
  if mode = 0 then (crc, flip data (len - 1))
  else if mode = 1 then (setBitN crc 0 (!bitAt crc 0), data)
  else
    let d := data - tileField data 10 2 * 2 ^ 80 + (col + 1) % 65536 * 2 ^ 80
    (crc32c len d, d)

/-- The pages that a seal writes: those of its place in the stream, and their map pages. -/
def sealKeys (off len key : Nat) : List Nat :=
  let ps := pagesOfSpan off (off + len)
  ps.map (pageKey .sealed) ++ (mapNum 2 key :: ps.map (mapNum 0)).eraseDups.map (pageKey .map)
/-- T1 has places for the pages that a SEAL item will write (R157, R160). -/
def State.sealRoom (s : State) (i : Item) (g : Shape) : Bool :=
  match s.sess i.handle with
  | none => true
  | some x =>
    let off := pad64 x.streamLen
    s.t1Room (hCtx i.handle) (s.newPages false i.handle (sealKeys off g.rawBytes (tileKey g i.seg i.layer i.head)))

/-- A SEAL item has finished: the tile is graded, checksummed and stored at the end of the stream (R146). -/
def State.sealNow (s : State) (i : Item) (g : Shape) : State :=
  match s.sess i.handle with
  | none => s
  | some x =>
    let key := tileKey g i.seg i.layer i.head
    match Map.find x.tiles key with
    | none => s
    | some t =>
      let r := sealTile g x.shape i.layer i.head i.seg x.handle t.data
      let len := r.1
      let crc := crc32c len r.2.1
      let armed := s.on .GORE_TILE_INJ_ARM && s.rd .GORE_TILE_INJ_CTX = i.ctx
      let cd := if armed then injectSeal (s.rd .GORE_TILE_INJ_MODE) len i.seg r.2.1 crc else (crc, r.2.1)
      let s := if armed then (s.wr .GORE_TILE_INJ_ARM 0 0 0).bump .GORE_TILE_CNT_COUNT 11 0 1 else s
      let gr := g.grades.getD i.layer 0
      let s := r.2.2.zipIdx.foldl (fun s p =>
        s.bump .GORE_TILE_CNT_COUNT (if p.1.fallback then 3 else (if p.2 = 0 then gr % 4 else gr / 4 % 4)) 0 1) s
      let s := s.bump .GORE_TILE_CNT_COUNT 5 0 len
      let off := pad64 x.streamLen
      let tile : Tile := ⟨true, cd.2, len, cd.1, true, false, 128, off⟩
      let s := s.setSess { x with tiles := Map.put x.tiles key tile, streamLen := off + len }
      let s := s.touchAll i.handle (sealKeys off len key)
      let s := s.writeStream i.handle off (off + len)
      s.writePage false i.handle .map (mapNum 2 key)

/-- Seals of a command or step item still to finish. -/
def State.sealsLeft (s : State) (cls : WClass) (step h : Nat) : Bool :=
  s.gore.items.any fun i => i.kind = .seal && i.cls = cls && i.step = step && i.handle = h

/-- A step item whose rows took effect ends once its seals and its acknowledgement are done. -/
def State.settleEntry (s : State) (n h : Nat) : State :=
  match s.stepById n with
  | none => s
  | some t =>
    match t.entries.find? fun e => e.handle = h && e.inStep && e.sealing with
    | some e => if e.acked && !s.sealsLeft .attn n h then (s.keepRows h).closeEntry n h .ok 0 else s
    | none => s

/-! ### Time passing -/

/-- Charge one span to a stall counter. -/
def State.stall (s : State) (c k n : Nat) : State := s.bump .TIER_STALL_COUNT c k n

/-- A wake that the drogue holds or whose load is not yet ready. -/
def State.wakePending (s : State) (l : Load) (n : Nat) : Bool := s.isAdmitted l n || s.pwr.wakes.any fun w => w.load = l && w.num = n
/-- A wake that an access to an object waits for: a stack of T1, or the SerDes of the object's link (R162, R174). -/
def State.accessHeld (s : State) (o : Nat) : Bool :=
  (s.pwr.wakes ++ s.pwr.admitted).any (fun w => w.load = .stack) ||
    (if o < 32 then s.wakePending .pool (s.rd .TIER_OBJ_A_PORT o) else s.wakePending .flash (driveOf o))

/-- A cause of a stall: since when it holds, its number, and the late one with the moment from which that counts. -/
structure StallWhy where
  since : Nat
  k : Nat
  lateAt : Nat
  late : Nat
  deriving DecidableEq, Repr

/-- What a waiting item waits for (R162, R163): of the pages that are not there, a T3 one before a T2 one, the one asked for first
(log 179); a page that is not being read waits for a place in T1. -/
def State.pageWhy (s : State) (i : Item) : StallWhy :=
  let l := i.pages.filterMap fun key => if s.pageHere i key then none else s.page (i.ref key)
  let l := l.filter fun (p : Page) => p.reading
  let far := l.filter fun (p : Page) => p.tier = 3
  match (if far.isEmpty then l else far) with
  | [] => ⟨i.readyAt, 0, 0, 0⟩
  | p :: t =>
    let p := t.foldl (fun (a b : Page) => if b.readAt < a.readAt then b else a) p
    let o := match p.upper with | .obj o _ => o | .t1 => 0
    if s.accessHeld o then ⟨i.readyAt, 7, 0, 0⟩
    else if p.tier = 3 then ⟨i.readyAt, 0, p.readAt + 100 * s.rd .TIER_CFG_T3_EXPECT_US, 2⟩
    else ⟨i.readyAt, 0, p.readAt + 100 * s.rd .TIER_CFG_T2_EXPECT_US, 1⟩

/-- The causes of a stall of a step (R161, R162, R183, R191): a kick that has not come; else items that wait for pages, items that a waking panel
holds, and acknowledgements. -/
def State.stallWhys (s : State) (t : Step) : List StallWhy :=
  if t.kicked ≤ t.done && t.done < t.geo.layers then [⟨t.lastFlag, 8, 0, 0⟩]
  else
    let its := s.gore.items.filter fun i => i.cls = .attn && i.step = t.id
    let pages := (its.filter fun i => i.st = .waiting).map s.pageWhy
    let wakes := if s.gore.waking != 0 && s.freeGore.isNone then
        (its.filter Item.dispatchable).map fun i => StallWhy.mk i.readyAt 7 0 0
      else []
    let acks := s.ses.acks.filterMap fun
      | .item h _ n _ t0 =>
        if n = t.id && t.entries.any (fun e => e.handle = h && e.inStep && e.sealing && !e.acked) then
          some ⟨t0, if s.vcHeld t.ctx 1 then 6 else 5, 0, 0⟩
        else none
      | _ => none
    let rows := if t.entries.any fun e => t.atEnd e && !s.entryRoom t e then [⟨t.lastFlag, 0, 0, 0⟩] else []
    pages ++ wakes ++ acks ++ rows

/-- A step that runs, that gore time alone holds back, or that its context's share holds back is not stalled (R161, R198). -/
def State.notStalled (s : State) (t : Step) : Bool :=
  (s.gore.items.filter fun i => i.cls = .attn && i.step = t.id).any fun i =>
    i.st = .running || (i.dispatchable && (!s.capOk i.ctx || s.gore.waking = 0 || s.freeGore.isSome))

/-- Charge a stalled step for `dt` (R161 to R163): the item that has waited longest gives the cause, ties to the lower k. -/
def State.chargeStep (s : State) (t : Step) (dt : Nat) : State :=
  if s.notStalled t then s
  else match s.stallWhys t with
    | [] => s
    | w :: r =>
      let w := r.foldl (fun a b => if b.since < a.since || (b.since = a.since && b.k < a.k) then b else a) w
      let early := if w.late = 0 then dt else min dt (w.lateAt - s.now)
      (s.stall t.ctx w.k early).stall t.ctx w.late (dt - early)

/-- A wake hold (R505). -/
def State.wakeHold (s : State) : Bool := decide (s.rd .PWR_LIMIT_TDP_W < s.rd .PWR_STS_PIN_W) && s.rd .PWR_CLK_ROOT_MHZ = 2400
/-- A drive period waits while the board holds the SPI bus (R524): bring-up before its reads. -/
def State.spiWaits (s : State) : Bool := s.on .CTL_PIN_STS_SPI_GNT && (s.boot.stage = .rom || (s.boot.stage = .waitPerst && !s.on .CTL_PIN_STS_PERST))
/-- `dt` reference clock cycles of THROTTLED, LIMIT_HOLD, P2_NS and SPI_WAIT. -/
def State.chargePower (s : State) (dt : Nat) : State :=
  let s := if s.rd .PWR_CLK_ROOT_MHZ < s.rd .PWR_CLK_MAX_MHZ then s.bump .PWR_CNT_COUNT 5 0 dt else s
  let s := if s.wakeHold then s.bump .PWR_CNT_COUNT 9 0 dt else s
  let s := if s.rd .CTL_PM_STS_STATE = 2 then s.bump .CTL_RST_CNT_COUNT 4 0 dt else s
  if s.spiWaits then s.bump .CTL_PIN_CNT_COUNT 2 0 dt else s

/-- A page moves between tiers. -/
def State.moving (s : State) : Bool := s.allPages.any fun e => e.2.2.2.writing.isSome || e.2.2.2.reading
/-- An extent is granted or the region store holds a generation. -/
def State.lending (s : State) : Bool := !s.pool.extents.isEmpty || s.pool.regions.any fun (p : Nat × PRegion) => !p.2.gens.isEmpty
/-- The Flewick is not idle (R487): a command of a function other than HTI is accepted, a step is in flight, a page moves, memory is lent. -/
def State.atWork (s : State) : Bool := s.anyWork || !s.attn.steps.isEmpty || s.moving || s.lending
/-- `dt` cycles pass at work, or idle. -/
def State.passWork (s : State) (dt : Nat) : State :=
  if s.atWork then { s with fleet := { s.fleet with workedAt := s.now + dt } } else s
/-- `dt` reference clock cycles pass with nothing else happening: stalls, gore time (R204), CAP_HOLD (R198), CQ_HOLD (R52), HOLD_NS
(R375), CREDIT_STALL. -/
def State.pass (s : State) (dt : Nat) : State :=
  let s := s.passWork dt
  let s := s.attn.steps.foldl (fun s t => s.chargeStep t dt) s
  let s := s.gore.items.foldl (fun s i => s.chargeGore dt i) s
  let s := (List.range 64).foldl (fun s c =>
    if !s.capOk c && s.gore.items.any (fun i => i.ctx = c && i.dispatchable) then s.bump .GORE_CTX_CNT_COUNT c 2 dt
    else s) s
  let cs := ((s.hti.pairs.filter fun p =>
    !p.2.held.isEmpty && !p.2.room && !p.2.postFail && !s.inError (p.1 / 256)).map fun p => p.1 / 256).eraseDups
  let s := cs.foldl (fun s c => s.bump .HTI_CNT_COUNT c 4 dt) s
  ((s.chargeRing dt).chargePower dt).advance dt

end Sys2Proof.Machine
end

