-- ==== Sys2Proof/Machine/SesOps.lean ====
section
/-! DEFINITION. Sessions (spec/03): slots, roles and holders, the spool, parking, deflation, rebuild spans
(R96), torn tiles (R135), lost pages (R165, R539), the ends of a transfer (R100, R103, R104). -/

namespace Sys2Proof.Machine

/-! ### Roles -/

/-- The Flewick that answers for a handle's home: the home, or its inheritor (R106). -/
def State.homeId (s : State) (h : Nat) : Nat :=
  match s.fab.inherit.find? fun e => e.1 = hHome h && e.2.1 = hBootgen h with
  | some e => e.2.2
  | none => hHome h

/-- An evacuation of this Flewick runs (R365). -/
def State.evacuating (s : State) : Bool := s.fab.evac.isSome
/-- A command that an evacuation turns away (R365 step 1). -/
def notEvacuating (body : Cmd → State → State) (c : Cmd) (s : State) : State :=
  if s.evacuating then s.finish c.id .retryLater (hintS 1) else body c s
/-- A member of the fabric map. -/
def State.present (s : State) (n : Nat) : Bool := s.fab.members.contains n

/-- Spool holders for an owner (R83). -/
def Session.holders (x : Session) (home owner : Nat) : List Nat :=
  if x.noMirror then [owner] else if owner = x.mirror then [x.mirror, home] else [owner, x.mirror]
/-- The other spool holder, seen from this Flewick. -/
def State.otherHolder (s : State) (x : Session) : Option Nat :=
  (x.holders (s.homeId x.handle) x.owner).find? fun n => n != s.myId

/-- The answer to an owner's command in a state that does not let it run (R84, R91, R107); an isolated Flewick runs none
(R360). -/
def State.refusal (s : State) (x : Session) : Option (Status × Nat) :=
  if x.st = .orphaned || x.st = .failed then some (.orphaned, x.orphanCause)
  else if x.st = .shipping then some (.busyTether, x.busyCause)
  else if !x.owner_ then some (.ownerConflict, x.ownerCause)
  else if s.fab.isolated then some (.retryLater, hintMs 10)
  else none

/-- A descriptor slot (R80): free, and not retired. -/
def State.slotFree (s : State) (n : Nat) : Bool :=
  !Map.has s.ses.tab n && decide ((Map.find s.ses.reuse n).getD 0 ≤ 0xFFFF)
def State.findSlot (s : State) : Nat → Nat → Option Nat
  | 0, _ => none
  | fuel + 1, n => if s.slotFree n then some n else State.findSlot s fuel ((n + 1) % Config.descriptors)
def State.newSlot (s : State) : Option Nat :=
  s.findSlot (s.ses.tab.length + s.ses.reuse.length + 1) (s.free % Config.descriptors)

def State.putSess (s : State) (slot : Nat) (x : Session) : State :=
  { s with ses := { s.ses with tab := Map.put s.ses.tab slot x } }

def State.refreshGauge (s : State) : State :=
  (s.wr .CTL_SES_GAUGE_LIVE 0 0 s.liveCount).wr .CTL_SES_GAUGE_ALOFT 0 0 s.aloftCount

/-- Sessions that use a shape slot (GORE_SHAPE_B.SESSIONS). -/
def State.shapeUsers (s : State) (n : Nat) : Nat :=
  (s.ses.tab.filter fun p => p.2.shape = n && p.2.st != .free && (p.2.owner_ || p.2.incoming)).length
def State.refreshShape (s : State) (n : Nat) : State :=
  (s.wr .GORE_SHAPE_B_SESSIONS n 0 (s.shapeUsers n)).refreshGauge

/-- Free a descriptor: every page released, REUSE of the slot one higher (R80). -/
def State.freeSess (s : State) (h : Nat) : State :=
  match s.sesKey h, s.sess h with
  | some k, some x =>
    let s := s.emptyAll false h
    let s := { s with ses := { s.ses with
      tab := Map.del s.ses.tab k
      reuse := Map.put s.ses.reuse k ((Map.find s.ses.reuse k).getD 0 + 1) } }
    s.refreshShape x.shape
  | _, _ => s

/-- Pages on their way down stay in T1 (R151, R158, R174). -/
def Session.stayUp (x : Session) : Session := { x with pages := x.pages.map fun (q : Nat × Page) => (q.1, { q.2 with sink := false }) }
/-- Enter a state. A session that is used again keeps its pages in T1. -/
def State.enter (s : State) (h : Nat) (st : SState) : State :=
  let s := (s.updSess h fun x =>
    let x := if st = .aloft || st = .reviving || st = .rebuilding then x.stayUp else x
    { x with st := st, entered := s.now }).refreshGauge
  match s.sess h with
  | some x => if st = .aloft && x.interactive then { s with fleet := { s.fleet with seen := true } } else s
  | none => s

/-- A session that would be ALOFT: PARKED at the limit of ALOFT sessions (R39, log 18). -/
def State.enterAloft (s : State) (h : Nat) : State :=
  let st := match s.sess h with | some x => if x.st = .aloft then .aloft else s.aloftOrParked | none => .aloft
  s.enter h st

/-! ### The spool (R87, R88) -/

/-- Map and spool pages above the session's tiles go down at once (R149); those of an ALOFT session stay (R158). -/
def State.sinkSmall (s : State) (h : Nat) : State :=
  match s.sess h with
  | none => s
  | some x =>
    if x.topTier ≤ 1 || x.st = .aloft then s
    else x.pages.foldl (fun s q =>
      if (q.2.kind = .map || q.2.kind = .spool) && q.2.tier < x.topTier then s.demotePage ⟨false, h, q.1⟩ x.topTier else s) s

/-- Spool entries as a message carries them: KV_LEN, the seed changes, the entries from `first` on (R87, log 73). -/
def Session.spoolArgs (x : Session) (es : List SpoolEntry) : List Nat :=
  x.kvLen :: x.seeds.length :: (x.seeds.flatMap fun (p : Nat × Nat) => [p.1, p.2]) ++ es.flatMap fun e => [e.token, b2n e.sampled, e.visible]
def State.sendSpool (s : State) (x : Session) (first : Nat) (es : List SpoolEntry) : State :=
  match s.otherHolder x with
  | some n => s.send n 1 .spoolEntries x.handle x.epoch first es.length (x.spoolArgs es)
  | none => s

/-- Append entries to the spool and write them through to the other holder (R88). -/
def State.spoolAppend (s : State) (h : Nat) (es : List SpoolEntry) : State :=
  match s.sess h with
  | none => s
  | some x =>
    let first := x.spool.length
    let vis := match es.getLast? with | some e => if e.sampled then e.visible else x.visible | none => x.visible
    let y := { x with spool := x.spool ++ es, visible := vis }
    (((s.setSess y).writeSpool h).sinkSmall h).sendSpool y first es

/-- Whether an append waits for the other holder's acknowledgement (R88). -/
def Session.waitsAck (x : Session) (other : Option Nat) : Bool := other.isSome && !x.mirrorLost

/-! ### Table slots and the images in force (R258) -/

def State.setTable (s : State) (n : Nat) (t : Option TableSlot) : State :=
  { s with dec := { s.dec with tables := match t with
    | some x => Map.put s.dec.tables n x
    | none => Map.del s.dec.tables n } }

/-- A command that runs on the image of table slot `n`. STREAM_CONF may name any slot in the block that it reads. A SAMPLE draws from the
image in force (R288). -/
def State.readsTable (s : State) (n : Nat) (c : Cmd) : Bool :=
  match c.op with
  | 0x20 | 0x21 => Desc.byte c.desc 16 = n
  | 0x23 => bitsOf (Desc.flags c.desc) 10 8 != 3
  | 0x34 => !Desc.flag c.desc 8 && Desc.byte c.desc 36 = n
  | 0x35 => s.dec.streams.any fun x => x.handle = Desc.handle c.desc && !x.freed && x.conf.table = n
  | _ => false
/-- Whether an accepted command still runs on an image put aside before command `b` (R258). -/
def State.usesOld (s : State) (n b : Nat) : Bool := s.hti.cmds.any fun c => c.phase != .done && decide (c.id < b) && s.readsTable n c

/-- Free the images put aside that no command uses any more. -/
def State.sweepImages (s : State) : State :=
  s.dec.tables.foldl (fun s (p : Nat × TableSlot) =>
    let gone := p.2.olds.filter fun o => !s.usesOld p.1 o.before
    if gone.isEmpty then s
    else
      let s := s.setTable p.1 (some { p.2 with olds := p.2.olds.filter fun o => s.usesOld p.1 o.before })
      gone.foldl (fun s (o : OldImage) => s.rsvSwap o.bytes 0) s) s

/-! ### Acknowledgements (R88) -/

/-- Finish a command whose spool entries were written: at once, or when they are acknowledged. -/
def State.finishSpool (s : State) (h k : Nat) (r0 r1 r2 : Nat) : State :=
  match s.sess h, s.cmd k with
  | some x, some c =>
    if x.waitsAck (s.otherHolder x) then
      { s with ses := { s.ses with acks := s.ses.acks ++
        [.cmd h x.spool.length ⟨k, Desc.tag c.desc, .ok, 0, r0, r1, r2, Desc.quiet c.desc⟩ s.now] } }
    else s.finish k .ok 0 r0 r1 r2
  | _, _ => s.finish k .ok 0 r0 r1 r2

/-- The acknowledgement waits of a session up to a length are over. -/
def AckWait.dueFor (h upto : Nat) : AckWait → Bool
  | .cmd h2 n _ _ => h2 = h && decide (n ≤ upto)
  | .part h2 n _ _ => h2 = h && decide (n ≤ upto)
  | .item h2 n _ _ _ => h2 = h && decide (n ≤ upto)
/-- The command that a wait belongs to. -/
def AckWait.cmdOf : AckWait → Option Nat
  | .cmd _ _ c _ => some c.cmd
  | .part _ _ c _ => some c.cmd
  | .item _ _ _ _ _ => none
/-- The time from which a wait has waited. -/
def AckWait.since : AckWait → Nat
  | .cmd _ _ _ t => t
  | .part _ _ _ t => t
  | .item _ _ _ _ t => t
def State.endWait (s : State) : AckWait → State
  | .part _ _ c _ =>
    if s.ses.acks.any fun w => w.cmdOf = some c.cmd then s else s.finish c.cmd c.status c.cause c.r0 c.r1 c.r2
  | .cmd _ _ c _ => s.finish c.cmd .ok 0 c.r0 c.r1 c.r2
  | .item h _ n _ _ => (s.updEntry n h fun e => { e with acked := true }).settleEntry n h
def State.ackUpTo (s : State) (h upto : Nat) : State :=
  let due := s.ses.acks.filter (AckWait.dueFor h upto)
  let s := { s with ses := { s.ses with acks := s.ses.acks.filter fun w => !AckWait.dueFor h upto w } }
  (due.foldl State.endWait s).sweepImages

/-! ### Parking and deflation (R90, R94) -/

/-- Stamp the open tiles with their CRC (R118). -/
def State.stampOpen (s : State) (h : Nat) : State :=
  match s.sess h with
  | none => s
  | some x =>
    let ks := (x.tiles.filter fun p => !p.2.sealed && !p.2.torn).map Prod.fst
    let s := s.setSess { x with tiles := x.tiles.map fun p => (p.1, p.2.stamp) }
    s.writePages false h .map ((ks.map (mapNum 2)).eraseDups)

/-- Park an ALOFT or REBUILDING session. -/
def State.park (s : State) (h : Nat) : State :=
  match s.sess h with
  | none => s
  | some x =>
    let s := s.stampOpen h
    let s := (s.enter h .parked).bump .CTL_SES_CNT_COUNT 2 0 1
    let s := s.updSess h fun y => { y with rbPending := y.rbPending || x.st = .rebuilding }
    if x.pin = 2 && !(s.region (hCtx h)).heat then s.demoteAll false h 2 else s

/-- Deflate a session: every tile dropped, the stream and the open pages released, the span forgotten; the
KiB released are `Session.kibAll` before it. -/
def State.deflate (s : State) (h reason : Nat) : State :=
  match s.sess h with
  | none => s
  | some x =>
    let s := x.pages.foldl (fun s q =>
      if q.2.kind = .sealed || q.2.kind = .opened then s.emptyPage ⟨false, h, q.1⟩ else s) s
    let s := s.updSess h fun y => { y with
      tiles := [], streamLen := 0, rbPending := false, rbStart := 0, rbEnd := 0, deflReason := reason }
    s.enter h .deflated

/-- The Flewick deflates a PARKED session on its own (R94): counted, with its event. -/
def State.autoDeflate (s : State) (h reason : Nat) : State :=
  let s := (s.deflate h reason).bump .CTL_SES_CNT_COUNT 3 0 1
  s.event (hCtx h) 6 h reason

/-- Pause under the session's pause action (R90, R94). -/
def State.pause (s : State) (h : Nat) : State :=
  match s.sess h with
  | some x => if x.pauseDeflate then s.deflate h 2 else s.park h
  | none => s

/-! ### Rebuild (R96, R97) -/

/-- Drop the tiles of columns from `col` on, and the sealed pages left with no kept tile (R146). -/
def State.dropFrom (s : State) (h col : Nat) : State :=
  match s.sess h with
  | none => s
  | some x =>
    let g := s.shape x.shape
    (s.setSess { x with tiles := x.tiles.filter fun p => decide (keyCol g p.1 < col) }).sweepStream h

/-- Start a rebuild of positions a to b − 1, or widen the one pending or under way (R96). In SHIPPING it is
recorded as pending (R539). An empty span leaves the session ALOFT at once, or PARKED at the ALOFT limit (R39). -/
def State.startRebuild (s : State) (h a b cause : Nat) : State :=
  match s.sess h with
  | none => s
  | some x =>
    let wide := x.st = .rebuilding || x.rbPending
    let a2 := if wide then min a x.rbStart else a
    let b2 := if wide then max b x.rbEnd else b
    let c2 := if wide then x.rbCause else cause
    if x.st = .shipping then
      s.setSess { x with rbPending := true, rbStart := a2, rbEnd := b2, rbCause := c2
                         xfer := x.xfer.map fun (t : Xfer) => { t with
                           lostCol := if cause = 0x30 then t.lostCol
                             else some (match t.lostCol with | some n => min n (a / 128) | none => a / 128) } }
    else if b2 ≤ a2 then
      (s.setSess { x with rbPending := false, rbStart := b2, rbEnd := b2 }).enterAloft h
    else
      let s := if x.st = .rebuilding then s else s.bump .CTL_SES_CNT_COUNT 5 0 1
      let s := s.setSess { x with rbPending := false, rbStart := a2, rbEnd := b2, rbCause := c2 }
      if x.st = .rebuilding then s else s.enter h .rebuilding

/-- A tile's rows are still wanted in a rebuild (R97): it is gone, torn, or not yet filled again. -/
def Session.wants (x : Session) (key col : Nat) : Bool :=
  match Map.find x.tiles key with
  | none => true
  | some t => t.torn || (!t.sealed && decide (t.fill < min 128 (x.kvLen - 128 * col)))

/-! ### Torn tiles (R135) -/

/-- A torn tile is found: TORN, the LAST registers, the counter, the fault record, the rebuild. The user of the
tile ends with TORN_TILE and CAUSE `causeTorn`. -/
def State.tornFound (s : State) (h col layer head kind half point : Nat) : State :=
  match s.sess h with
  | none => s
  | some x =>
    let g := s.shape x.shape
    let key := tileKey g col layer head
    let s := s.setSess { x with tiles := Map.upd x.tiles key fun t => { t with torn := true } }
    let s := s.wr .GORE_TILE_LAST_A_HANDLE 0 0 h
    let s := s.wr .GORE_TILE_LAST_B_COLUMN 0 0 col
    let s := s.wr .GORE_TILE_LAST_B_POINT 0 0 point
    let s := s.wr .GORE_TILE_LAST_B_KIND 0 0 kind
    let s := s.wr .GORE_TILE_LAST_B_LAYER 0 0 layer
    let s := s.wr .GORE_TILE_LAST_B_KV_HEAD 0 0 head
    let s := s.wr .GORE_TILE_LAST_B_HALF 0 0 half
    let s := s.wr .GORE_TILE_LAST_B_VALID 0 0 1
    let s := s.bump .GORE_TILE_CNT_COUNT (7 + kind) 0 1
    let s := s.bump .CTL_SES_CNT_COUNT 6 0 1
    let s := s.fault (hCtx h) 1 h (some .tornTile) (causeTorn col (kind = 1) point)
      (packBytes [(0, col), (2, layer), (4, head), (6, kind), (7, half)])
    s.startRebuild h (128 * col) (min (128 * col + 128) x.kvLen) 0x30

/-- Check a tile of a session at use (R133, R134, R118): CRC_VALID of an open tile is cleared, VERIFIED counts
sealed tiles; or the KIND of the fault. -/
def State.checkTile (s : State) (h key : Nat) : State × Option Nat :=
  match s.sess h with
  | none => (s, none)
  | some x =>
    let g := s.shape x.shape
    match Map.find x.tiles key with
    | none => (s, none)
    | some t =>
      match tileFault g x.shape (keyLayer g key) (keyHead g key) (keyCol g key) h t with
      | some k => (s, some k)
      | none =>
        if t.sealed then (s.bump .GORE_TILE_CNT_COUNT 6 0 1, none)
        else (s.setSess { x with tiles := Map.put x.tiles key { t with crcValid := false } }, none)

/-- Check tiles in order up to the first fault. -/
def State.checkTiles (s : State) (h : Nat) : List Nat → State × Option (Nat × Nat)
  | [] => (s, none)
  | k :: t =>
    match s.checkTile h k with
    | (s, some f) => (s, some (k, f))
    | (s, none) => State.checkTiles s h t

/-! ### Ending the users of a session -/

/-- A KV_APPEND run, by session. -/
def State.kvRun (s : State) (h : Nat) : Option KvRun := s.attn.kvRuns.find? fun r => r.handle = h
def State.dropKv (s : State) (k : Nat) : State :=
  { s with attn := { s.attn with kvRuns := s.attn.kvRuns.filter fun r => r.cmd != k } }
def kvItem (k h : Nat) (i : Item) : Bool := i.cls = .assist && i.step = k && i.handle = h

/-- Tiles that the rows of a KV_APPEND have filled so far (SEAL_DISCARDED): once they took effect, those with a seal; before, those of the
head-layers whose APPEND item has ended, in a rebuild the wanted ones. -/
def State.kvFilled (s : State) (r : KvRun) : Nat :=
  let left := s.gore.items.filter (kvItem r.cmd r.handle)
  if r.stream then 0
  else if r.sealing then r.sealed + (left.filter fun i => i.kind = .seal).length
  else
    let hls := (List.range r.geo.headLayers).filter fun hl => !left.any fun i => i.kind = .append && i.layer * r.geo.hkv + i.head = hl
    let fills (col hl : Nat) : Bool := !r.rb || match s.sess r.handle with
      | some x => x.wants (col * r.geo.headLayers + hl) col
      | none => false
    (filledCols r.first r.count).foldl (fun a col => a + (hls.filter (fills col)).length) 0
/-- End a KV_APPEND with a status: rows and seals discarded (R116). -/
def State.endKv (s : State) (r : KvRun) (st : Status) (cause : Nat) : State :=
  let s := s.bump .GORE_TILE_CNT_COUNT 4 0 (s.kvFilled r * r.geo.halves)
  let s := s.killItems (kvItem r.cmd r.handle)
  let s := if r.sealing then s.undoRows r.handle else s
  let s := (s.dropKv r.cmd).finish r.cmd st cause
  s.startNext r.handle

/-- A running command of an opcode for a handle. -/
def State.runningOp (s : State) (op h : Nat) : Option Cmd :=
  s.hti.cmds.find? fun c => c.op = op && Desc.handle c.desc = h && c.phase = .running

/-- Commands that use the session end with a status: step items, KV_APPEND, SESS_REVIVE (R165). -/
def State.endUsers (s : State) (h : Nat) (st : Status) (cause : Nat) : State :=
  let s := s.leaveAll h st cause
  let s := match s.kvRun h with | some r => s.endKv r st cause | none => s
  match s.runningOp 0x13 h with
  | some c => s.finish c.id st cause
  | none => s

def State.hasUsers (s : State) (h : Nat) : Bool :=
  s.itemInFlight h || s.kvInFlight h || (s.runningOp 0x13 h).isSome

/-! ### Failure and orphans (R105, R107) -/

/-- A session enters FAILED: its K/V and spool are lost. -/
def State.failSess (s : State) (h : Nat) : State :=
  match s.sess h with
  | none => s
  | some x =>
    let s := s.emptyAll false h
    let s := s.updSess h fun y => { y with tiles := [], streamLen := 0, spool := [], seeds := [], rbPending := false, gathering := false, undo := none }
    let s := (s.enter h .failed).bump .CTL_SES_CNT_COUNT 13 0 1
    s.event (hCtx h) 3 h (packBytes [(4, if x.st = .orphaned then x.lostOwner else x.owner)])

/-! ### Transfers -/

def Session.receiving (x : Session) : Bool :=
  match x.xfer with | some t => !t.sender | none => false

/-- K/V from the first column whose pages were lost during the transfer goes (R165, R539). -/
def State.dropLost (s : State) (h : Nat) (t : Option Xfer) : State :=
  match t.bind fun (t : Xfer) => t.lostCol with
  | some col => s.dropFrom h col
  | none => s
/-- The sender leaves SHIPPING for its return state; a pending rebuild takes effect, or stays pending where that is PARKED (R539). -/
def State.shipReturn (s : State) (h : Nat) : State :=
  match s.sess h with
  | none => s
  | some x =>
    let s := ((s.setSess { x with xfer := none }).enter h x.ret).dropLost h x.xfer
    if x.rbPending && x.ret != .parked then
      (s.updSess h fun y => { y with rbPending := false }).startRebuild h x.rbStart x.rbEnd x.rbCause
    else s

/-- Drop the tiles of a copy, keep the spool where R83 says so, and keep or free the descriptor (R100, R540). -/
def State.dropCopy (s : State) (h : Nat) (epoch owner : Nat) : State :=
  match s.sess h with
  | none => s
  | some x =>
    let keep := (x.holders (s.homeId h) owner).contains s.myId
    let s := x.pages.foldl (fun s q => if keep && q.2.kind = .spool then s else s.emptyPage ⟨false, h, q.1⟩) s
    let s := s.updSess h fun y => { y with
      owner_ := false, incoming := false, spool_ := keep, xfer := none, tiles := [], streamLen := 0,
      rbPending := false, rbStart := 0, rbEnd := 0, epoch := epoch, owner := owner
      spool := if keep then y.spool else [], seeds := if keep then y.seeds else [] }
    if x.home || x.mirror_ || keep || x.inherited then (s.enter h .remote).refreshShape x.shape
    else s.freeSess h

/-- The receiver discards what it received: INCOMING ends, and a descriptor with another role reads REMOTE. -/
def State.discardIncoming (s : State) (h : Nat) : State :=
  match s.sess h with
  | none => s
  | some x => s.dropCopy h x.epoch x.owner

/-- The transfer's outcome at the sender (R103). After BUSY_TETHER it arrives as SHIP_RESOLVED (R453); a transfer of an
evacuation has no command. -/
def State.shipDone (s : State) (x : Session) (t : Xfer) (st : Status) (cause epoch owner r0 r1 r2 : Nat) : State :=
  if t.evac then s
  else if t.unresolved then
    s.event (hCtx x.handle) 8 x.handle (packBytes [(0, st.code), (4, epoch), (8, owner)])
  else s.finish t.cmd st cause r0 r1 r2

/-! ### Lost pages (R165, R167) -/

/-- The lowest column with a tile in a page, by page kind. -/
def Session.lostCol (x : Session) (g : Shape) (p : Page) : Option Nat :=
  match p.kind with
  | .sealed =>
    let l := x.tiles.filterMap fun q =>
      if q.2.sealed && (pagesOfSpan q.2.off (q.2.off + q.2.len)).contains p.num then some (keyCol g q.1) else none
    match l with | [] => none | a :: t => some (t.foldl min a)
  | .opened =>
    let l := x.tiles.filterMap fun q =>
      if !q.2.sealed && q.1 % g.headLayers = p.num / g.openPages then some (keyCol g q.1) else none
    match l with | [] => none | a :: t => some (t.foldl min a)
  | .map => some 0
  | _ => none

/-- A session has LOST pages (R165, R539): `keys` are their page keys. Its users end; K/V from the first
affected column is dropped; a lost spool is gathered from the other holder, or the session fails. -/
def State.lostPages (s : State) (h : Nat) (keys : List Nat) (st : Status) (cause : Nat) : State :=
  match s.sess h with
  | none => s
  | some x =>
    let g := s.shape x.shape
    let ps := keys.filterMap fun k => Map.find x.pages k
    let cols := ps.filterMap (x.lostCol g)
    let spoolLost := ps.any fun p => p.kind = .spool
    let s :=
      match cols with
      | [] => s
      | a :: t =>
        let col := t.foldl min a
        if x.receiving then
          match x.xfer with
          | some f =>
            if f.phase = .receiving then
              (s.send f.peer 0 .shipAbort h f.epoch f.peer s.myId [4, 0, 0]).discardIncoming h
            else s.startRebuild h (128 * col) x.kvLen st.code
          | none => s
        else if x.st = .shipping then s.startRebuild h (128 * col) x.kvLen st.code
        else
          let used := s.hasUsers h
          let s := (s.undoRows h).dropFrom h col
          let s := s.startRebuild h (128 * col) (match s.sess h with | some y => y.kvLen | none => 0) st.code
          let s := s.endUsers h st cause
          if used then s
          else
            match s.sess h with
            | some y => s.event (hCtx h) 7 h (packBytes [(0, cause), (4, y.rbStart), (8, y.rbEnd)])
            | none => s
    if spoolLost then
      match s.sess h with
      | none => s
      | some y =>
        match s.otherHolder y with
        | some n => (s.setSess { y with gathering := true }).send n 5 .gatherReq h y.epoch s.myId 0 []
        | none => (s.failSess h).endUsers h .orphaned 0xFFFF
    else s

end Sys2Proof.Machine
end

