-- ==== Sys2Proof/Machine/Float.lean ====
section
/-! DEFINITION. FP32 arithmetic (spec/00, spec/08 R249, spec/09 R272): values as exact integers in units of 2^-149,
results rounded to nearest, ties to even. Encodings are numbers below 2^32. -/

namespace Sys2Proof.Machine

/-- Magnitude of a finite FP32 encoding without its sign, in units of 2^-149. The infinity reads as 2^128. -/
def f32Mag (k : Nat) : Nat :=
  let e := k / 2 ^ 23 % 256
  let m := k % 2 ^ 23
  if e = 0 then m else (2 ^ 23 + m) * 2 ^ (e - 1)
def f32Neg (x : Nat) : Bool := bitAt x 31
def f32IsNan (x : Nat) : Bool := decide (x % 2 ^ 31 > 0x7F800000)
def f32IsInf (x : Nat) : Bool := x % 2 ^ 31 = 0x7F800000
/-- Value of an FP32 encoding that is not a NaN, in units of 2^-149. -/
def f32Int (x : Nat) : Int := if f32Neg x then -(f32Mag (x % 2 ^ 31) : Int) else f32Mag (x % 2 ^ 31)

/-- FP32 magnitude nearest to num ÷ den units, ties to even; from 2^128 − half a unit on, the infinity. -/
def rneF32 (num den : Nat) : Nat :=
  let lo := searchCode (fun k => decide (k ≤ 0x7F800000 ∧ f32Mag k * den ≤ num)) 31 0
  if lo ≥ 0x7F800000 then 0x7F800000
  else
    let dl := num - f32Mag lo * den
    let dh := f32Mag (lo + 1) * den - num
    if dl < dh then lo else if dh < dl then lo + 1 else if lo % 2 = 0 then lo else lo + 1

/-- FP32 of a signed quotient. An exact zero is positive. -/
def f32OfRatio (num : Int) (den : Nat) : Nat :=
  rneF32 num.natAbs den + (if num < 0 then 2 ^ 31 else 0)

/-- FP32 of a quotient with its sign apart, so that a negative zero keeps its own. -/
def f32Signed (neg : Bool) (num den : Nat) : Nat := rneF32 num den + (if neg then 2 ^ 31 else 0)

def f32Nan : Nat := 0x7FC00000

/-- FP32 sum: an exact zero is negative only where both terms are. -/
def f32Add (a b : Nat) : Nat :=
  if f32IsNan a || f32IsNan b then f32Nan
  else if f32IsInf a then (if f32IsInf b && f32Neg a != f32Neg b then f32Nan else a)
  else if f32IsInf b then b
  else f32Signed (if f32Int a + f32Int b = 0 then f32Neg a && f32Neg b else decide (f32Int a + f32Int b < 0)) (f32Int a + f32Int b).natAbs 1

/-- Negation of an FP32 encoding. -/
def f32Negate (x : Nat) : Nat := if f32Neg x then x - 2 ^ 31 else x + 2 ^ 31
def f32Sub (a b : Nat) : Nat := f32Add a (f32Negate b)

/-- FP32 product. -/
def f32Mul (a b : Nat) : Nat :=
  if f32IsNan a || f32IsNan b then f32Nan
  else if f32IsInf a || f32IsInf b then
    (if f32Mag (a % 2 ^ 31) = 0 || f32Mag (b % 2 ^ 31) = 0 then f32Nan
     else 0x7F800000 + (if f32Neg a != f32Neg b then 2 ^ 31 else 0))
  else
    f32Signed (f32Neg a != f32Neg b) (f32Mag (a % 2 ^ 31) * f32Mag (b % 2 ^ 31)) (2 ^ 149)

/-- FP32 quotient of finite encodings, the divisor not zero. -/
def f32Div (a b : Nat) : Nat :=
  if f32IsNan a || f32IsNan b || f32Mag (b % 2 ^ 31) = 0 then f32Nan
  else if f32IsInf b then (if f32IsInf a then f32Nan else if f32Neg a != f32Neg b then 2 ^ 31 else 0)
  else if f32IsInf a then 0x7F800000 + (if f32Neg a != f32Neg b then 2 ^ 31 else 0)
  else
    f32Signed (f32Neg a != f32Neg b) (f32Mag (a % 2 ^ 31) * 2 ^ 149) (f32Mag (b % 2 ^ 31))

/-- Numeric order of encodings; a NaN is in none. -/
def f32Lt (a b : Nat) : Bool := !f32IsNan a && !f32IsNan b && decide (f32Int a < f32Int b)
def f32Le (a b : Nat) : Bool := !f32IsNan a && !f32IsNan b && decide (f32Int a ≤ f32Int b)
def f32Eq (a b : Nat) : Bool := decide (f32Int a = f32Int b)

/-- FP32 of a BF16 encoding, and of a natural number. -/
def f32OfBf16 (x : Nat) : Nat := x % 65536 * 65536
def f32OfNat (n : Nat) : Nat := rneF32 (n * 2 ^ 149) 1

end Sys2Proof.Machine
end

