-- ==== Sys2Proof/Machine/TxtOps.lean ====
section
/-! DEFINITION. The text engine (spec/08): table images and their sections (R242, R243), UTF-8 decoding (R246),
normalisation (R244, R245), pre-tokens (R247), the three models (R248 to R250), the checks at load (R251), cuts and
reset points (R252, R253). Images are little-endian numbers; bytes beyond a section read as they stand. -/

namespace Sys2Proof.Machine

/-! ### Table images -/

/-- A loaded or offered image. -/
abbrev Img := Nat
def Img.u8 (m : Img) (off : Nat) : Nat := tileField m off 1
def Img.u16 (m : Img) (off : Nat) : Nat := tileField m off 2
def Img.u32 (m : Img) (off : Nat) : Nat := tileField m off 4
def Img.model (m : Img) : Nat := Img.u8 m 5
def Img.fallback (m : Img) : Bool := Img.u8 m 6 = 1
def Img.unkBytes (m : Img) : Bool := bitAt (Img.u8 m 7) 0
def Img.tokens (m : Img) : Nat := Img.u32 m 8
def Img.unk (m : Img) : Nat := Img.u32 m 12
def Img.endTok (m : Img) : Nat := Img.u32 m 16
def Img.size (m : Img) : Nat := Img.u32 m 24
/-- Offset and length of section kind `k`; 0, 0 when absent. -/
def Img.sOff (m : Img) (k : Nat) : Nat := Img.u32 m (128 + 8 * k)
def Img.sLen (m : Img) (k : Nat) : Nat := Img.u32 m (132 + 8 * k)
def Img.has (m : Img) (k : Nat) : Bool := Img.sOff m k != 0 || Img.sLen m k != 0

/-- Value of a code point in the trie of section `k` (R243). -/
def Img.trie (m : Img) (k u : Nat) : Nat :=
  let o := Img.sOff m k
  Img.u32 m (o + 8708 + 1024 * Img.u16 m (o + 4 + 2 * (u / 256)) + 4 * (u % 256))
def Img.ccc (m : Img) (u : Nat) : Nat := Img.trie m 1 u % 256
def Img.ws (m : Img) (u : Nat) : Bool := bitAt (Img.trie m 1 u) 8
def Img.cls (m : Img) (u : Nat) : Nat := bitsOf (Img.trie m 1 u) 23 16

/-- The code points that MAPn gives for one code point. -/
def Img.mapped (m : Img) (n u : Nat) : List Nat :=
  let v := Img.trie m (2 + n) u
  if bitAt v 31 then (List.range (bitsOf v 30 26)).map fun i => Img.u32 m (Img.sOff m 14 + 4 * (bitsOf v 25 0 + i)) else [u]

/-- The composite of a pair, by the COMPOSE section. -/
def Img.compose (m : Img) (a b : Nat) : Option Nat :=
  let o := Img.sOff m 8
  ((List.range (Img.u32 m o)).find? fun i => Img.u32 m (o + 4 + 12 * i) = a && Img.u32 m (o + 8 + 12 * i) = b).map
    fun i => Img.u32 m (o + 12 + 12 * i)

/-- The split automaton: classes, next state, ACCEPT. -/
def Img.classes (m : Img) : Nat := Img.u8 m (Img.sOff m 9 + 2) + 1
def Img.states (m : Img) : Nat := Img.u16 m (Img.sOff m 9)
def Img.next (m : Img) (s c : Nat) : Nat := Img.u16 m (Img.sOff m 9 + 4 + 2 * (s * Img.classes m + c))
def Img.accept (m : Img) (s : Nat) : Bool :=
  bitAt (Img.u8 m (Img.sOff m 9 + 4 + 2 * Img.states m * Img.classes m + s)) 0

/-- The vocabulary: flag bits CONT, BYTE, CONTROL, and the string of a token. -/
def pad4 (n : Nat) : Nat := (n + 3) / 4 * 4
def Img.vflag (m : Img) (t n : Nat) : Bool := bitAt (Img.u8 m (Img.sOff m 10 + 4 * (Img.tokens m + 1) + t)) n
def Img.poolOff (m : Img) : Nat := Img.sOff m 10 + pad4 (4 * (Img.tokens m + 1) + Img.tokens m)
def Img.strAt (m : Img) (t : Nat) : Nat := Img.u32 m (Img.sOff m 10 + 4 * t)
def Img.str (m : Img) (t : Nat) : List Nat :=
  (List.range (Img.strAt m (t + 1) - Img.strAt m t)).map fun i => Img.u8 m (Img.poolOff m + Img.strAt m t + i)
def Img.control (m : Img) (t : Nat) : Bool := Img.vflag m t 2
def Img.score (m : Img) (t : Nat) : Nat := Img.u32 m (Img.sOff m 11 + 4 * t)
def Img.byteTok (m : Img) (b : Nat) : Nat := Img.u32 m (Img.sOff m 13 + 4 * b)

/-! ### Input to code points (R244 op 1, R246) -/

/-- A code point, or a fallback byte (`raw`), with the span of input bytes from which it comes. -/
structure TCell where
  cp : Nat
  lo : Nat
  hi : Nat
  raw : Bool
  deriving DecidableEq, Repr

/-- Steps of STEPS up to the first END: op and argument. -/
def Img.steps (m : Img) : List (Nat × Nat) :=
  ((List.range 8).map fun k => (Img.u8 m (40 + k) % 16, Img.u8 m (40 + k) / 16)).takeWhile fun p => p.1 != 0

/-- Input bytes with their offsets, after BYTE_MAP. -/
def Img.bytesIn (m : Img) (input : List Nat) : List (Nat × Nat) :=
  let l := input.zipIdx
  match (Img.steps m).head? with
  | some (1, _) =>
    l.flatMap fun p =>
      let o := Img.sOff m 0 + 8 * p.1
      let n := Img.u8 m o
      if n = 0xFF then [p] else (List.range (min n 4)).map fun i => (Img.u8 m (o + 1 + i), p.2)
  | _ => l

/-- The UTF-8 decoder between bytes: bytes still wanted, value so far, bytes of the sequence, range allowed next. -/
structure Utf where
  need : Nat
  val : Nat
  buf : List (Nat × Nat)
  lo : Nat
  hi : Nat
  out : List TCell
  bad : Nat

/-- A maximal ill-formed subpart ends (R246). -/
def Utf.flush (fallback : Bool) (u : Utf) : Utf :=
  match u.buf with
  | [] => u
  | b :: _ =>
    let last := match u.buf.getLast? with | some x => x.2 | none => b.2
    let cells := if fallback then u.buf.map fun (x : Nat × Nat) => (⟨x.1, x.2, x.2, true⟩ : TCell)
      else [⟨0xFFFD, b.2, last, false⟩]
    { u with need := 0, buf := [], out := u.out ++ cells, bad := u.bad + 1 }

/-- A byte that begins a sequence: length and the range of its second byte (Unicode Standard, table 3-7). -/
def utfLead (b : Nat) : Option (Nat × Nat × Nat × Nat) :=
  if 0xC2 ≤ b ∧ b ≤ 0xDF then some (1, b % 32, 0x80, 0xBF)
  else if b = 0xE0 then some (2, 0, 0xA0, 0xBF)
  else if b = 0xED then some (2, 13, 0x80, 0x9F)
  else if 0xE1 ≤ b ∧ b ≤ 0xEF then some (2, b % 16, 0x80, 0xBF)
  else if b = 0xF0 then some (3, 0, 0x90, 0xBF)
  else if b = 0xF4 then some (3, 4, 0x80, 0x8F)
  else if 0xF1 ≤ b ∧ b ≤ 0xF3 then some (3, b % 8, 0x80, 0xBF)
  else none
def Utf.start (fallback : Bool) (u : Utf) (b : Nat × Nat) : Utf :=
  if b.1 < 0x80 then { u with out := u.out ++ [⟨b.1, b.2, b.2, false⟩] }
  else match utfLead b.1 with
    | some (n, v, lo, hi) => { u with need := n, val := v, buf := [b], lo := lo, hi := hi }
    | none => Utf.flush fallback { u with buf := [b] }
def Utf.byte (fallback : Bool) (u : Utf) (b : Nat × Nat) : Utf :=
  if u.need = 0 then u.start fallback b
  else if u.lo ≤ b.1 ∧ b.1 ≤ u.hi then
    let v := u.val * 64 + b.1 % 64
    if u.need = 1 then
      let lo := match u.buf with | x :: _ => x.2 | [] => b.2
      { u with need := 0, buf := [], out := u.out ++ [⟨v, lo, b.2, false⟩] }
    else { u with need := u.need - 1, val := v, buf := u.buf ++ [b], lo := 0x80, hi := 0xBF }
  else (u.flush fallback).start fallback b
/-- The cells of the input and the count of ill-formed subparts. -/
def Img.decode (m : Img) (input : List Nat) : List TCell × Nat :=
  let u := (Img.bytesIn m input).foldl (Utf.byte (Img.fallback m)) ⟨0, 0, [], 0, 0, [], 0⟩
  let u := u.flush (Img.fallback m)
  (u.out, u.bad)

/-! ### Normalisation (R244, R245) -/

/-- The span of a run of cells. -/
abbrev Span := Nat × Nat
def spanOf (l : List TCell) : Span :=
  (l.foldl (fun a c => min a c.lo) (match l with | c :: _ => c.lo | [] => 0), l.foldl (fun a c => max a c.hi) 0)

/-- Cells on their way through the steps: spans that no reset point may cut, and runs cut under R245. -/
structure Norm where
  cells : List TCell
  spans : List Span
  cuts : Nat

/-- Runs of R245: a starter and the non-starters after it, cut after each 32nd when more follow. Answers the runs and
the cuts. -/
structure RunAcc where
  done : List (List TCell)
  cur : List TCell
  ns : Nat
  cuts : Nat
def RunAcc.close (a : RunAcc) : List (List TCell) := if a.cur.isEmpty then a.done else a.done ++ [a.cur]
def RunAcc.add (m : Img) (a : RunAcc) (c : TCell) : RunAcc :=
  if Img.ccc m c.cp = 0 then ⟨a.close, [c], 0, a.cuts⟩
  else if a.ns = 32 then ⟨a.close, [c], 1, a.cuts + 1⟩
  else { a with cur := a.cur ++ [c], ns := a.ns + 1 }
def runsOf (m : Img) (l : List TCell) : List (List TCell) × Nat :=
  let a := l.foldl (RunAcc.add m) ⟨[], [], 0, 0⟩
  (a.close, a.cuts)

/-- REORDER within a run. -/
def reorderRun (m : Img) (l : List TCell) : List TCell :=
  let le (a b : TCell) : Bool := decide (Img.ccc m a.cp ≤ Img.ccc m b.cp)
  match l with
  | c :: t => if Img.ccc m c.cp = 0 then c :: sortBy le t else sortBy le l
  | [] => []

/-- COMPOSE under way: the last starter, the non-starters kept after it, the class of the last of them. -/
structure Comp where
  out : List TCell
  spans : List Span
  star : Option TCell
  rest : List TCell
  span : Span
def Comp.close (a : Comp) : Comp :=
  { a with
    out := a.out ++ a.star.toList ++ a.rest, spans := a.spans ++ [a.span], star := none, rest := [] }
def joinSpan (a b : Span) : Span := (min a.1 b.1, max a.2 b.2)
/-- A non-starter after the current starter (Unicode Standard Annex #15). -/
def Comp.mark (m : Img) (a : Comp) (c : TCell) : Comp :=
  let blocked := match a.rest.getLast? with
    | some r => decide (Img.ccc m r.cp ≥ Img.ccc m c.cp)
    | none => false
  match a.star with
  | some l =>
    match (if blocked then none else Img.compose m l.cp c.cp) with
    | some p => { a with star := some { l with cp := p, lo := min l.lo c.lo, hi := max l.hi c.hi } }
    | none => { a with rest := a.rest ++ [c] }
  | none => { a with rest := a.rest ++ [c] }
/-- A run: its starter may join the one before; without a starter (a cut of R245) nothing joins. -/
def Comp.run (m : Img) (a : Comp) (l : List TCell) : Comp :=
  match l with
  | [] => a
  | c :: t =>
    if Img.ccc m c.cp = 0 then
      let joined := match a.star, a.rest with
        | some p, [] => (Img.compose m p.cp c.cp).map fun q => ({ p with cp := q, lo := min p.lo c.lo, hi := max p.hi c.hi } : TCell)
        | _, _ => none
      match joined with
      | some q => t.foldl (Comp.mark m) { a with star := some q, span := joinSpan a.span (spanOf l) }
      | none => t.foldl (Comp.mark m) { a.close with star := some c, rest := [], span := spanOf l }
    else { a.close with star := none, rest := l, span := spanOf l }

/-- COLLAPSE: runs of WS become one code point. -/
def collapseStep (m : Img) (a : List TCell × Bool) (c : TCell) : List TCell × Bool :=
  if Img.ws m c.cp then
    match a.2, a.1.getLast? with
    | true, some p => (a.1.dropLast ++ [{ p with hi := max p.hi c.hi }], true)
    | _, _ => (a.1 ++ [{ c with cp := Img.u32 m 36 }], true)
  else (a.1 ++ [c], false)

/-- One step on a stretch of code points. -/
def Img.normStep (m : Img) (n : Norm) (st : Nat × Nat) : Norm :=
  match st.1 with
  | 2 => { n with cells := n.cells.flatMap fun c => (Img.mapped m st.2 c.cp).map fun u => { c with cp := u } }
  | 3 =>
    let r := runsOf m n.cells
    ⟨r.1.flatMap (reorderRun m), n.spans ++ r.1.map spanOf, n.cuts + r.2⟩
  | 4 =>
    let r := runsOf m n.cells
    let c := (r.1.foldl (Comp.run m) ⟨[], [], none, [], (0, 0)⟩).close
    ⟨c.out, n.spans ++ c.spans, n.cuts + r.2⟩
  | 5 =>
    let cells := (n.cells.foldl (collapseStep m) ([], false)).1
    { n with cells := cells, spans := n.spans ++ cells.map fun c => (c.lo, c.hi) }
  | _ => n

/-- Stretches between fallback bytes; a fallback byte stands alone. -/
def stretches : List TCell → List (List TCell)
  | [] => []
  | c :: t =>
    match stretches t with
    | [] => [[c]]
    | l :: r =>
      match l with
      | d :: _ => if c.raw || d.raw then [c] :: l :: r else (c :: l) :: r
      | [] => [c] :: r

/-! ### Pre-tokens (R247) -/

/-- Longest match from a state: characters of the last ACCEPT (0 for none), and whether the limit of 16,384 was
reached alive. -/
def Img.match_ (m : Img) : Nat → Nat → Nat → List TCell → Nat × Bool
  | _, j, last, [] => (last, j = 16384)
  | s, j, last, c :: t =>
    if j = 16384 then (last, true)
    else
      let n := Img.next m s (Img.cls m c.cp)
      if n = 0xFFFF then (last, false)
      else Img.match_ m n (j + 1) (if Img.accept m n then j + 1 else last) t
/-- Pre-tokens of a stretch, and how many reached the limit. -/
def Img.split (m : Img) : Nat → List TCell → List (List TCell) × Nat
  | 0, _ => ([], 0)
  | _, [] => ([], 0)
  | fuel + 1, l =>
    let r := Img.match_ m 0 0 0 l
    let n := max r.1 1
    let rest := Img.split m fuel (l.drop n)
    (l.take n :: rest.1, rest.2 + b2n r.2)

/-- UTF-8 of a code point. -/
def utf8 (u : Nat) : List Nat :=
  if u < 0x80 then [u]
  else if u < 0x800 then [0xC0 + u / 64, 0x80 + u % 64]
  else if u < 0x10000 then [0xE0 + u / 4096, 0x80 + u / 64 % 64, 0x80 + u % 64]
  else [0xF0 + u / 262144 % 8, 0x80 + u / 4096 % 64, 0x80 + u / 64 % 64, 0x80 + u % 64]

/-! ### Models -/

/-- Tokens of a pre-token with the byte at which each starts, and UNK_TOKENS. -/
abbrev Toks := List (Nat × Nat) × Nat

/-- Rank of an adjacent pair (R248). -/
def Img.rank (m : Img) (a b : Nat) : Option Nat :=
  let o := Img.sOff m 12
  (List.range (Img.u32 m o)).find? fun i => Img.u32 m (o + 4 + 12 * i) = a && Img.u32 m (o + 8 + 12 * i) = b
/-- The lowest rank among adjacent pairs. -/
def Img.bestRank (m : Img) : List (Nat × Nat) → Option Nat
  | a :: b :: t =>
    match Img.rank m a.1 b.1, Img.bestRank m (b :: t) with
    | some x, some y => some (min x y)
    | some x, none => some x
    | none, r => r
  | _ => none
/-- Replace the first pair of a rank. -/
def Img.mergeFirst (m : Img) (r : Nat) : List (Nat × Nat) → List (Nat × Nat)
  | a :: b :: t =>
    if Img.rank m a.1 b.1 = some r then (Img.u32 m (Img.sOff m 12 + 12 + 12 * r), a.2) :: t
    else a :: Img.mergeFirst m r (b :: t)
  | l => l
def Img.bpeLoop (m : Img) : Nat → List (Nat × Nat) → List (Nat × Nat)
  | 0, l => l
  | fuel + 1, l =>
    match Img.bestRank m l with
    | some r => Img.bpeLoop m fuel (Img.mergeFirst m r l)
    | none => l
/-- Byte-level BPE (R248). -/
def Img.bpe (m : Img) (bytes : List Nat) : Toks :=
  (Img.bpeLoop m bytes.length (bytes.zipIdx.map fun p => (Img.byteTok m p.1, p.2)), 0)

/-- A path of the unigram search: sum, edge lengths, tokens, unknown yields. -/
structure UPath where
  sum : Nat
  lens : List Nat
  toks : List (Nat × Nat)
  unk : Nat
def lexGe : List Nat → List Nat → Bool
  | a :: s, b :: t => if a > b then true else if a < b then false else lexGe s t
  | _, [] => true
  | [], _ :: _ => false
/-- Keep one path per distinct sum: the lexicographically greatest. -/
def addPath (p : UPath) : List UPath → List UPath
  | [] => [p]
  | q :: t => if f32Eq q.sum p.sum then (if lexGe q.lens p.lens then q :: t else p :: t) else q :: addPath p t
/-- Edges from character `i`: length in characters, score, tokens with their byte offsets, unknown yields (R249). -/
def Img.edges (m : Img) (chars : List (List Nat)) (byteAt i : Nat) : List (Nat × Nat × List (Nat × Nat) × Nat) :=
  let rest := chars.drop i
  let known := (List.range (Img.tokens m)).flatMap fun t =>
    if Img.control m t then [] else
      let s := Img.str m t
      (List.range rest.length).filterMap fun n =>
        if (rest.take (n + 1)).flatten = s then some (n + 1, Img.score m t, [(t, byteAt)], 0) else none
  if known.isEmpty then
    let bs := (rest.take 1).flatten
    let toks := if Img.unkBytes m then bs.zipIdx.map fun p => (Img.byteTok m p.1, byteAt + p.2) else [(Img.unk m, byteAt)]
    [(1, Img.u32 m 32, toks, 1)]
  else known
/-- The search from character to character; `tab` holds the paths that reach each boundary from `i` on. -/
def Img.viterbi (m : Img) (chars : List (List Nat)) : Nat → Nat → List (List UPath) → List UPath
  | 0, _, tab => tab.headD []
  | n + 1, i, tab =>
    match tab with
    | [] => []
    | here :: rest =>
      let at_ := (chars.take i).flatten.length
      let rest := (Img.edges m chars at_ i).foldl (fun r e =>
        r.zipIdx.map fun (q : List UPath × Nat) =>
          if q.2 + 1 = e.1 then
            here.foldl (fun acc p => addPath ⟨f32Add p.sum e.2.1, p.lens ++ [e.1], p.toks ++ e.2.2.1, p.unk + e.2.2.2⟩ acc) q.1
          else q.1) rest
      Img.viterbi m chars n (i + 1) rest
/-- Unigram (R249). -/
def Img.unigram (m : Img) (chars : List (List Nat)) : Toks :=
  let n := chars.length
  match Img.viterbi m chars n 0 ([⟨0, [], [], 0⟩] :: List.replicate n []) with
  | [] => ([], 0)
  | p :: t =>
    let b := t.foldl (fun a q => if f32Lt a.sum q.sum then q else a) p
    (b.toks, b.unk)

/-- WordPiece (R250): greedy longest match; equal strings give the lowest ID (log 35). -/
def Img.longest (m : Img) (first : Bool) (rest : List Nat) : Option (Nat × Nat) :=
  (List.range (Img.tokens m)).foldl (fun a t =>
    let s := Img.str m t
    if !Img.control m t && Img.vflag m t 0 != first && decide (0 < s.length) && s.isPrefixOf rest then
      match a with
      | some b => if s.length > b.2 then some (t, s.length) else a
      | none => some (t, s.length)
    else a) none
def Img.wpLoop (m : Img) : Nat → Nat → List Nat → Option (List (Nat × Nat))
  | 0, _, _ => some []
  | _, _, [] => some []
  | fuel + 1, pos, rest =>
    match Img.longest m (pos = 0) rest with
    | none => none
    | some (t, n) => (Img.wpLoop m fuel (pos + n) (rest.drop n)).map fun l => (t, pos) :: l
def Img.wordPiece (m : Img) (chars : List (List Nat)) : Toks :=
  if chars.length > Img.u32 m 28 then ([(Img.unk m, 0)], 0)
  else
    let bytes := chars.flatten
    match Img.wpLoop m bytes.length 0 bytes with
    | some l => (l, 0)
    | none => ([(Img.unk m, 0)], 1)

/-- Tokens of one pre-token (R248 to R250). -/
def Img.model_ (m : Img) (cells : List TCell) : Toks :=
  let chars := cells.map fun c => utf8 c.cp
  match Img.model m with
  | 0 => Img.bpe m chars.flatten
  | 1 => Img.unigram m chars
  | _ => Img.wordPiece m chars

/-! ### A run of the engine -/

/-- A token: ID, source offset, and the start of its pre-token's input (R256). -/
structure Tok where
  id : Nat
  src : Nat
  pre : Nat
  deriving DecidableEq, Repr

/-- What a run gives: tokens, spans that no reset point cuts, counts. -/
structure TxtRun where
  toks : List Tok
  spans : List Span
  invalid : Nat
  fallback : Nat
  unk : Nat
  longPre : Nat
  longRuns : Nat

/-- The source of byte `n` of a pre-token. -/
def srcAt : List TCell → Nat → Nat
  | [], _ => 0
  | c :: t, n => let k := (utf8 c.cp).length; if n < k then c.lo else srcAt t (n - k)

/-- Add one stretch to a run. -/
def Img.stretch (m : Img) (r : TxtRun) (l : List TCell) : TxtRun :=
  match l with
  | [] => r
  | c :: _ =>
    if c.raw then
      { r with toks := r.toks ++ [⟨Img.byteTok m c.cp, c.lo, c.lo⟩], fallback := r.fallback + 1 }
    else
      let n := (Img.steps m).foldl (Img.normStep m) ⟨l, [], 0⟩
      let ps := Img.split m n.cells.length n.cells
      let r := { r with
        spans := r.spans ++ n.spans ++ ps.1.map spanOf, longPre := r.longPre + ps.2, longRuns := r.longRuns + n.cuts }
      ps.1.foldl (fun r p =>
        let t := Img.model_ m p
        { r with
          toks := r.toks ++ t.1.map fun x => ⟨x.1, srcAt p x.2, (spanOf p).1⟩
          unk := r.unk + t.2 }) r

/-- A single-lane run over the input (R240, R241). -/
def Img.run (m : Img) (input : List Nat) : TxtRun :=
  let d := Img.decode m input
  let r : TxtRun := ⟨[], d.1.map fun c => (c.lo, c.hi), d.2, 0, 0, 0, 0⟩
  (stretches d.1).foldl (Img.stretch m) r

/-- A lane stands in the reset state at input offset y (R253): no character, run or pre-token lies across it. -/
def TxtRun.resetAt (r : TxtRun) (y : Nat) : Bool := r.spans.all fun p => !(decide (p.1 < y) && decide (y ≤ p.2))

/-- The greatest reset point at or before an offset. -/
def TxtRun.resetBefore (r : TxtRun) : Nat → Nat
  | 0 => 0
  | n + 1 => if r.resetAt (n + 1) then n + 1 else r.resetBefore n

/-! ### Cuts (R252, R253) -/

/-- First offset at or after `x` whose byte is no continuation byte. -/
def cutAt (input : List Nat) (x : Nat) : Nat :=
  x + ((input.drop x).takeWhile fun b => decide (0x80 ≤ b ∧ b ≤ 0xBF)).length
/-- The cuts of a request, each a piece of `piece` bytes nominally. -/
def cutsOf (piece : Nat) (input : List Nat) : List Nat :=
  let l := ((List.range ((input.length - 1) / piece)).map fun k => cutAt input ((k + 1) * piece))
  (l.filter fun x => decide (x < input.length)).eraseDups
/-- Bytes that the lane before a cut reads past it: up to the first common reset point, or the later piece's end. -/
def resyncBytes (r later : TxtRun) (x stop : Nat) : Nat :=
  ((List.range (stop - x)).find? fun i => r.resetAt (x + i) && later.resetAt i).getD (stop - x)
def pieceBytes : Nat := 1048576
def Img.resync (m : Img) (input : List Nat) (r : TxtRun) (cuts : List Nat) : Nat :=
  (cuts.zipIdx).foldl (fun a p =>
    let stop := cuts.getD (p.2 + 1) input.length
    a + resyncBytes r (Img.run m (input.drop p.1)) p.1 stop) 0

/-! ### Checks at load (R251) -/

def zeroBytes (m : Img) (lo hi : Nat) : Bool := tileField m lo (hi + 1 - lo) = 0
def finiteF32 (x : Nat) : Bool := bitsOf x 30 23 != 255
/-- Blocks of a trie, and the values that they hold. -/
def Img.blocks (m : Img) (k : Nat) : Nat := Img.u32 m (Img.sOff m k)
def Img.trieVals (m : Img) (k : Nat) : List Nat :=
  (List.range (256 * Img.blocks m k)).map fun i => Img.u32 m (Img.sOff m k + 8708 + 4 * i)
def trieKinds : List Nat := [1, 2, 3, 4, 5, 6, 7]
def Img.tries (m : Img) : List Nat := trieKinds.filter (Img.has m)
def Img.mapRefs (m : Img) : List Nat := ((Img.tries m).filter fun k => k != 1).flatMap fun k => (Img.trieVals m k).filter fun v => bitAt v 31
def Img.strLen (m : Img) (t : Nat) : Nat := Img.strAt m (t + 1) - Img.strAt m t

def Img.okHead (m : Img) : Bool :=
  Img.u32 m 0 = 0x4C42544E && Img.u8 m 4 = 1 && decide (Img.model m ≤ 2) && decide (Img.u8 m 6 ≤ 1) &&
    decide (Img.u8 m 7 < 2) && Img.u8 m 23 = 0 && zeroBytes m 48 123 &&
    (Img.model m = 2 || Img.u32 m 28 = 0) && (Img.model m = 1 || Img.u32 m 32 = 0)
/-- CRC over every byte but 124 to 127. -/
def imageCrc (m size : Nat) : Nat := crc32c (size - 4) (m % 2 ^ 992 + m / 2 ^ 1024 * 2 ^ 992)
def Img.okCrc (m : Img) (size : Nat) : Bool := Img.u32 m 124 = imageCrc m size
def Img.okRange (m : Img) : Bool :=
  decide (1 ≤ Img.tokens m ∧ Img.tokens m ≤ 524288) &&
    (!Img.has m 9 || decide (1 ≤ Img.states m ∧ Img.states m ≤ 16384)) &&
    (!Img.has m 8 || decide (Img.u32 m (Img.sOff m 8) ≤ 65536)) &&
    (!Img.has m 12 || decide (1 ≤ Img.u32 m (Img.sOff m 12) ∧ Img.u32 m (Img.sOff m 12) ≤ 1048576)) &&
    (Img.model m != 2 || decide (1 ≤ Img.u32 m 28 ∧ Img.u32 m 28 ≤ 1024)) && finiteF32 (Img.u32 m 32) &&
    (!Img.has m 0 || (List.range 256).all fun b => let n := Img.u8 m (Img.sOff m 0 + 8 * b); decide (n ≤ 4) || n = 0xFF) &&
    ((Img.mapRefs m).all fun v => decide (bitsOf v 30 26 ≤ 18)) &&
    (!Img.has m 10 || (List.range (Img.tokens m)).all fun t => decide (1 ≤ Img.strLen m t ∧ Img.strLen m t ≤ 256)) &&
    (!Img.has m 11 || (List.range (Img.tokens m)).all fun t => finiteF32 (Img.score m t))
/-- Length that a section's format implies; the VOCAB's string pool and MAPPOOL end where they end. -/
def Img.lenOk (m : Img) (k : Nat) : Bool :=
  let o := Img.sOff m k
  let n := Img.sLen m k
  match k with
  | 0 => n = 2048
  | 8 => n = 4 + 12 * Img.u32 m o
  | 9 => n = 4 + 2 * Img.states m * Img.classes m + Img.states m
  | 10 => decide (pad4 (4 * (Img.tokens m + 1) + Img.tokens m) ≤ n)
  | 11 => n = 4 * Img.tokens m
  | 12 => n = 4 + 12 * Img.u32 m o
  | 13 => n = 1024
  | 14 => n % 4 = 0
  | 15 => false
  | _ => decide (1 ≤ Img.blocks m k ∧ Img.blocks m k ≤ 4352) && n = 8708 + 1024 * Img.blocks m k
def Img.okSects (m : Img) (size : Nat) : Bool :=
  Img.size m = size && decide (256 ≤ size ∧ size ≤ 67108864) && (List.range 16).all fun k =>
    !Img.has m k || (Img.sOff m k % 4 = 0 && decide (256 ≤ Img.sOff m k ∧ Img.sOff m k + Img.sLen m k ≤ size) && Img.lenOk m k)
def Img.okTries (m : Img) : Bool :=
  ((Img.tries m).all fun k => (List.range 4352).all fun i => decide (Img.u16 m (Img.sOff m k + 4 + 2 * i) < Img.blocks m k)) &&
    (Img.mapRefs m).all fun v => decide (4 * (bitsOf v 25 0 + bitsOf v 30 26) ≤ Img.sLen m 14)
def Img.okSplit (m : Img) : Bool :=
  !Img.has m 9 || (((List.range (Img.states m * Img.classes m)).all fun i =>
      let n := Img.u16 m (Img.sOff m 9 + 4 + 2 * i); decide (n < Img.states m) || n = 0xFFFF) &&
    (!Img.has m 1 || (Img.trieVals m 1).all fun v => decide (bitsOf v 23 16 < Img.classes m)))
def Img.idOk (m : Img) (t : Nat) : Bool := decide (t < Img.tokens m) || t = 0xFFFFFFFF
def Img.okVocab (m : Img) : Bool :=
  (!Img.has m 10 || (((List.range (Img.tokens m)).all fun t => decide (Img.strAt m t ≤ Img.strAt m (t + 1))) &&
      decide (Img.poolOff m + Img.strAt m (Img.tokens m) ≤ Img.sOff m 10 + Img.sLen m 10) &&
      (List.range (Img.tokens m)).all fun t => !Img.vflag m t 1 || Img.strLen m t = 1)) &&
    Img.idOk m (Img.unk m) && Img.idOk m (Img.endTok m) &&
    (!(Img.model m = 2 || (Img.model m = 1 && !Img.unkBytes m)) || Img.unk m != 0xFFFFFFFF)
def Img.okMerges (m : Img) : Bool :=
  !Img.has m 12 || (List.range (Img.u32 m (Img.sOff m 12))).all fun i =>
    let o := Img.sOff m 12 + 4 + 12 * i
    Img.rank m (Img.u32 m o) (Img.u32 m (o + 4)) = some i &&
      Img.str m (Img.u32 m (o + 8)) = Img.str m (Img.u32 m o) ++ Img.str m (Img.u32 m (o + 4))
def Img.okPresent (m : Img) : Bool :=
  let needs := [1, 9, 10] ++ (if Img.model m = 0 then [12, 13] else if Img.model m = 1 then [11] else []) ++
    (if Img.fallback m || (Img.model m = 1 && Img.unkBytes m) then [13] else []) ++
    (Img.steps m).flatMap fun p => if p.1 = 1 then [0] else if p.1 = 2 then [2 + p.2, 14] else if p.1 = 4 then [8] else []
  needs.all (Img.has m)
def Img.okSteps (m : Img) : Bool :=
  (((List.range 8).find? fun k => Img.u8 m (40 + k) % 16 = 0).elim true fun k => Img.u8 m (40 + k) = 0) && (Img.steps m).zipIdx.all fun p =>
    match p.1.1 with
    | 1 => p.2 = 0 && p.1.2 = 0
    | 2 => decide (p.1.2 ≤ 5)
    | 3 => p.1.2 = 0
    | 4 => p.1.2 = 0
    | 5 => p.1.2 = 0
    | _ => false

/-- The first failing code of R251, but for 10. -/
def Img.check (m : Img) (size : Nat) (fits : Bool) : Option Nat :=
  if !Img.okHead m then some 1 else if !Img.okCrc m size then some 2 else if !Img.okRange m then some 3
  else if !Img.okSects m size then some 4 else if !Img.okTries m then some 5 else if !Img.okSplit m then some 6
  else if !Img.okVocab m then some 7 else if !Img.okMerges m then some 8 else if !Img.okPresent m then some 9
  else if !fits then some 10 else if !Img.okSteps m then some 11 else none

end Sys2Proof.Machine
end

