-- ==== Sys2Proof/Machine/Images.lean ====
section
/-! DEFINITION. What loads share: reading an image from host memory or from the region generation that the context
holds (R337, R338), table slots and the images in force (R257, R258). -/

namespace Sys2Proof.Machine

/-! ### Reading an image -/

/-- The attachment of a context to a region. -/
def State.attachOf (s : State) (c rid : Nat) : Option Attach := s.pool.attached.find? fun a => a.ctx = c && a.region = rid

/-- Region ID fields (R331). -/
def rHome (r : Nat) : Nat := bitsOf r 59 50
def rCtx (r : Nat) : Nat := bitsOf r 49 44
def rSlot (r : Nat) : Nat := bitsOf r 43 32
def rBootgen (r : Nat) : Nat := bitsOf r 31 26

/-- A region here, by ID. -/
def State.regionHere (s : State) (rid : Nat) : Option PRegion :=
  match Map.find s.pool.regions (rSlot rid) with
  | some r => if r.id = rid then some r else none
  | none => none

/-- The bytes of an image of `len` bytes, or the status and CAUSE with which the load ends. -/
def State.readImage (s : State) (c : Nat) (region : Bool) (rid off len : Nat) (src : SrcRead) : Sum Nat (Status × Nat) :=
  let outside : Sum Nat (Status × Nat) := match src with
    | .data n => .inl (n % 2 ^ (8 * len))
    | .failed => .inr (.retryLater, hintMs 1)
    | .poison o k => if region then .inr (.poison, causeTier o k) else .inr (.retryLater, hintMs 1)
    | .objFail o k => if region then .inr (.tierFail, causeTier o k) else .inr (.retryLater, hintMs 1)
  if !region then outside
  else match s.attachOf c rid with
    | none => .inr (.badHandle, 0)
    | some a =>
      if a.window.isSome then outside
      else match s.regionHere rid with
        | some r =>
          match r.gens.find? fun g => g.gen = a.gen with
          | some g => .inl (g.data / 2 ^ (8 * off) % 2 ^ (8 * len))
          | none => .inr (.badHandle, 0)
        | none => .inr (.badHandle, 0)

/-! ### Table slots -/

/-- Streams and grammars bound to a table slot: streams configured with it (TABLE_LOAD RESULT2). -/
def State.tableUsers (s : State) (n : Nat) : Nat :=
  (s.dec.streams.filter fun x => !x.freed && x.conf.table = n).length +
    (s.dec.grams.filter fun (p : Nat × GramSlot) => p.2.table = n).length

/-- The image on which a command runs (R258). -/
def State.imageFor (s : State) (n k : Nat) : Option Img :=
  match Map.find s.dec.tables n with
  | none => none
  | some t =>
    match t.olds.find? fun o => decide (k < o.before) with
    | some o => some o.data
    | none => some t.data

/-- The image in force of a slot. -/
def State.image (s : State) (n : Nat) : Option Img := (Map.find s.dec.tables n).map TableSlot.data

/-- Bytes of the T1 reserve that table images take, those put aside included. -/
def TableSlot.allBytes (t : TableSlot) : Nat := t.olds.foldl (fun a o => a + o.bytes) t.bytes
def State.tableBytes (s : State) : Nat :=
  s.dec.tables.foldl (fun a (p : Nat × TableSlot) => a + p.2.allBytes) 0

/-- Show a slot in TXT_SLOT_A and B. -/
def State.showTable (s : State) (n : Nat) : State :=
  let v (f : TableSlot → Nat) : Nat := match Map.find s.dec.tables n with | some t => f t | none => 0
  let s := (s.wr .TXT_SLOT_A_LOADED n 0 (v fun _ => 1)).wr .TXT_SLOT_A_OWNER n 0 (v TableSlot.owner)
  let s := (s.wr .TXT_SLOT_A_MODEL n 0 (v fun t => Img.model t.data)).wr .TXT_SLOT_A_INVALID n 0 (v fun t => Img.u8 t.data 6)
  let s := (s.wr .TXT_SLOT_A_TOKENS n 0 (v fun t => Img.tokens t.data)).wr .TXT_SLOT_A_UNICODE n 0 (v fun t => tileField t.data 20 3)
  (s.wr .TXT_SLOT_B_BYTES n 0 (v TableSlot.bytes)).wr .TXT_SLOT_B_USERS n 0 (s.tableUsers n)

/-- Users of every table slot, after a change of streams. -/
def State.showUsers (s : State) : State :=
  s.dec.tables.foldl (fun s (p : Nat × TableSlot) => s.wr .TXT_SLOT_B_USERS p.1 0 (s.tableUsers p.1)) s

/-- A slot loaded by another context may be changed by a management context alone (R257, R286). -/
def State.foreign (s : State) (c : Cmd) (owner : Nat) : Bool := owner != c.ctx && !s.on .HTI_CTX_MGMT c.ctx

/-- A lane may take a request: allowed and not fenced. -/
def State.lanesFree (s : State) (en fenced : Fld) : Bool := Nat.land (s.rd en) (s.rd fenced) != s.rd en

/-- Fence a lane of an engine: its fault record goes to the context of the work that it ran (R456). -/
def State.fenceLane (s : State) (f : Fld) (width engine lane ctx handle : Nat) : State :=
  let s := if ctx < 64 then s.fault ctx 6 handle none 0 (packBytes [(0, engine), (1, lane)]) else s
  let s := s.wr f 0 0 (setBitN (s.rd f) lane true)
  if s.rd f = 2 ^ width - 1 then s.wr (if engine = 0 then .CTL_READY_TXT else .CTL_READY_DEC) 0 0 0 else s

end Sys2Proof.Machine
end

