-- ==== Sys2Proof/Machine/DecOps.lean ====
section
/-! DEFINITION. The decoding engine (spec/09): the exponential and Philox (R272, R273), grammar images and automata
(R280 to R285), the sampler (R270, R272, R275), the detokeniser, the output ring and the ends of streams (R264 to
R269). -/

namespace Sys2Proof.Machine

/-! ### Numbers -/

/-- Fixed point of the exponential: 512 fractional bits, 96 terms after division of the argument by 256. -/
def expBits : Nat := 512
/-- Σ (−y)^k ÷ k! for a fixed-point y below 1: (sum of even terms, sum of odd terms). -/
def expTerms : Nat → Nat → Nat → Nat → Bool → Nat × Nat → Nat × Nat
  | 0, _, _, _, _, a => a
  | n + 1, k, y, t, even, a =>
    let a := if even then (a.1 + t, a.2) else (a.1, a.2 + t)
    expTerms n (k + 1) y (t * y / 2 ^ expBits / (k + 1)) (!even) a
/-- e^−t for t = `num` × 2^-149, in fixed point. -/
def expNeg (num : Nat) : Nat :=
  let y := num * 2 ^ expBits / 2 ^ 157
  let a := expTerms 96 0 y (2 ^ expBits) true (0, 0)
  (List.range 8).foldl (fun e _ => e * e / 2 ^ expBits) (a.1 - a.2)
/-- The exponential of a value that is not positive, correctly rounded to FP32 (R272). From −104 down it is below half
the least value. -/
def f32Exp (x : Nat) : Nat :=
  if f32IsNan x then f32Nan
  else if f32IsInf x then (if f32Neg x then 0 else x)
  else
    let n := f32Mag (x % 2 ^ 31)
    if n ≥ 104 * 2 ^ 149 then 0 else rneF32 (expNeg n) (2 ^ (expBits - 149))

/-- One round of Philox-4×32 (R273). -/
structure Philox where
  c0 : Nat
  c1 : Nat
  c2 : Nat
  c3 : Nat
  k0 : Nat
  k1 : Nat
def Philox.round (p : Philox) : Philox :=
  let a := 0xD2511F53 * p.c0
  let b := 0xCD9E8D57 * p.c2
  ⟨Nat.xor (Nat.xor (b / 2 ^ 32) p.c1) p.k0, b % 2 ^ 32, Nat.xor (Nat.xor (a / 2 ^ 32) p.c3) p.k1, a % 2 ^ 32,
   (p.k0 + 0x9E3779B9) % 2 ^ 32, (p.k1 + 0xBB67AE85) % 2 ^ 32⟩
/-- Word 0 of Philox-4×32-10 for a seed and a position. -/
def philox (seed pos : Nat) : Nat :=
  ((List.range 10).foldl (fun p _ => Philox.round p) ⟨pos % 2 ^ 32, 0, 0, 0, seed % 2 ^ 32, seed / 2 ^ 32 % 2 ^ 32⟩).c0

/-- The seed in force at a position (R87, R273). -/
def Session.seedAt (x : Session) (pos : Nat) : Nat :=
  match (x.seeds.filter fun p => decide (p.1 ≤ pos)).getLast? with
  | some p => p.2
  | none => x.seed

/-! ### Grammar images (R284, R285) -/

abbrev Gram := Nat
def Gram.tokens (g : Gram) : Nat := Img.u32 g 8
def Gram.states (g : Gram) : Nat := Img.u32 g 12
def Gram.start (g : Gram) : Nat := Img.u32 g 16
def Gram.edges (g : Gram) : Nat := Img.u32 g 20
def Gram.calls (g : Gram) : Nat := Img.u32 g 24
def Gram.bitmaps (g : Gram) : Nat := Img.u32 g 28
def Gram.checks (g : Gram) : Nat := Img.u32 g 32
/-- Offset of section `k`: 0 STATE, 1 EDGE, 2 CALL, 3 BITMAP, 4 CHECK. -/
def Gram.off (g : Gram) (k : Nat) : Nat := Img.u32 g (40 + 4 * k)
def Gram.st (g : Gram) (s : Nat) : Nat := Gram.off g 0 + 24 * s
def Gram.edgeFirst (g : Gram) (s : Nat) : Nat := Img.u32 g (Gram.st g s)
def Gram.callFirst (g : Gram) (s : Nat) : Nat := Img.u32 g (Gram.st g s + 4)
def Gram.edgeCount (g : Gram) (s : Nat) : Nat := Img.u16 g (Gram.st g s + 8)
def Gram.callCount (g : Gram) (s : Nat) : Nat := Img.u8 g (Gram.st g s + 10)
def Gram.accept (g : Gram) (s : Nat) : Bool := bitAt (Img.u8 g (Gram.st g s + 11)) 0
def Gram.exit (g : Gram) (s : Nat) : Bool := bitAt (Img.u8 g (Gram.st g s + 11)) 1
def Gram.bitmap (g : Gram) (s : Nat) : Nat := Img.u16 g (Gram.st g s + 12)
def Gram.checkFirst (g : Gram) (s : Nat) : Nat := Img.u32 g (Gram.st g s + 16)
def Gram.checkCount (g : Gram) (s : Nat) : Nat := Img.u32 g (Gram.st g s + 20)
def Gram.bitBytes (g : Gram) : Nat := pad64 ((Gram.tokens g + 7) / 8)
def Gram.bitSet (g : Gram) (s t : Nat) : Bool :=
  Gram.bitmap g s != 0xFFFF && bitAt (Img.u8 g (Gram.off g 3 + Gram.bitBytes g * Gram.bitmap g s + t / 8)) (t % 8)
def Gram.checkList (g : Gram) (s : Nat) : List Nat :=
  (List.range (Gram.checkCount g s)).map fun i => Img.u32 g (Gram.off g 4 + 4 * (Gram.checkFirst g s + i))

def Gram.secLen (g : Gram) : Nat → Nat
  | 0 => 24 * Gram.states g
  | 1 => 8 * Gram.edges g
  | 2 => 8 * Gram.calls g
  | 3 => Gram.bitBytes g * Gram.bitmaps g
  | _ => 4 * Gram.checks g
def Gram.okHead (g : Gram) : Bool :=
  Img.u32 g 0 = 0x4C424147 && Img.u8 g 4 = 1 && zeroBytes g 5 7 && zeroBytes g 60 123 &&
    ((List.range (Gram.states g)).all fun s => Img.u8 g (Gram.st g s + 11) < 4 && Img.u16 g (Gram.st g s + 14) = 0) &&
    (List.range (Gram.edges g)).all fun i => Img.u16 g (Gram.off g 1 + 8 * i + 2) = 0
def Gram.okRange (g : Gram) (tokens : Option Nat) : Bool :=
  tokens = some (Gram.tokens g) && decide (1 ≤ Gram.states g ∧ Gram.states g ≤ 1048576) &&
    decide (Gram.edges g ≤ 16777216 ∧ Gram.calls g ≤ 16777216 ∧ Gram.bitmaps g ≤ 4096 ∧ Gram.checks g ≤ 67108864) &&
    ((List.range (Gram.states g)).all fun s => decide (Gram.edgeCount g s ≤ 256 ∧ Gram.callCount g s ≤ 64)) &&
    (List.range (Gram.edges g)).all fun i => decide (Img.u8 g (Gram.off g 1 + 8 * i) ≤ Img.u8 g (Gram.off g 1 + 8 * i + 1))
def Gram.okSects (g : Gram) (size : Nat) : Bool :=
  Img.u32 g 36 = size && decide (128 ≤ size ∧ size ≤ 536870912) && (List.range 5).all fun k =>
    Gram.off g k % 8 = 0 && decide (Gram.off g k + Gram.secLen g k ≤ size)
def Gram.okRefs (g : Gram) : Bool :=
  decide (Gram.start g < Gram.states g) &&
    ((List.range (Gram.edges g)).all fun i => decide (Img.u32 g (Gram.off g 1 + 8 * i + 4) < Gram.states g)) &&
    (List.range (2 * Gram.calls g)).all fun i => decide (Img.u32 g (Gram.off g 2 + 4 * i) < Gram.states g)
def Gram.okSpans (g : Gram) : Bool :=
  (List.range (Gram.states g)).all fun s =>
    decide (Gram.edgeFirst g s + Gram.edgeCount g s ≤ Gram.edges g) &&
      decide (Gram.callFirst g s + Gram.callCount g s ≤ Gram.calls g) &&
      decide (Gram.checkFirst g s + Gram.checkCount g s ≤ Gram.checks g) &&
      (decide (Gram.bitmap g s < Gram.bitmaps g) || Gram.bitmap g s = 0xFFFF)
def ascending : List Nat → Bool
  | a :: b :: t => decide (a < b) && ascending (b :: t)
  | _ => true
def Gram.okChecks (g : Gram) : Bool :=
  (List.range (Gram.states g)).all fun s =>
    ascending (Gram.checkList g s) && (Gram.checkList g s).all fun t => decide (t < Gram.tokens g) && !Gram.bitSet g s t
/-- The first failing code of R285. `tokens` is TOKENS of the table: none of a free slot. -/
def Gram.check (g : Gram) (size : Nat) (tokens : Option Nat) (fits : Bool) : Option Nat :=
  if !Gram.okHead g then some 1 else if Img.u32 g 124 != imageCrc g size then some 2
  else if !Gram.okRange g tokens then some 3 else if !Gram.okSects g size then some 4
  else if !Gram.okRefs g then some 5 else if !Gram.okSpans g then some 6 else if !Gram.okChecks g then some 7
  else if !fits then some 8 else none

/-! ### The automaton (R280) -/

/-- What stepping counts: eps of the current byte, STACK_LIMIT, EPS_LIMIT. -/
structure GCnt where
  eps : Nat
  stack : Nat
  limit : Nat
def GCnt.zero : GCnt := ⟨0, 0, 0⟩
/-- A configuration: state and stack, top first. -/
abbrev GConf := Nat × List Nat

/-- `step` of R280. Every call raises eps, so 1,025 levels are enough. -/
def Gram.step (g : Gram) (b : Nat) : Nat → Nat → List Nat → GCnt → Option GConf × GCnt
  | 0, _, _, n => (none, n)
  | fuel + 1, s, stack, n =>
    let o := Gram.off g 1
    match (List.range (Gram.edgeCount g s)).find? fun i =>
        let e := o + 8 * (Gram.edgeFirst g s + i)
        decide (Img.u8 g e ≤ b) && decide (b ≤ Img.u8 g (e + 1)) with
    | some i => (some (Img.u32 g (o + 8 * (Gram.edgeFirst g s + i) + 4), stack), n)
    | none =>
      let r := (List.range (Gram.callCount g s)).foldl (fun (a : Option GConf × GCnt) i =>
        if a.1.isSome then a
        else if stack.length = 256 then (none, { a.2 with stack := a.2.stack + 1 })
        else if a.2.eps < 1024 then
          let c := Gram.off g 2 + 8 * (Gram.callFirst g s + i)
          Gram.step g b fuel (Img.u32 g c) (Img.u32 g (c + 4) :: stack) { a.2 with eps := a.2.eps + 1 }
        else a) (none, n)
      if r.1.isSome then r
      else
        match stack with
        | top :: rest =>
          if Gram.exit g s && decide (r.2.eps < 1024) then Gram.step g b fuel top rest { r.2 with eps := r.2.eps + 1 }
          else (none, if r.2.eps = 1024 then { r.2 with limit := r.2.limit + 1 } else r.2)
        | [] => (none, if r.2.eps = 1024 then { r.2 with limit := r.2.limit + 1 } else r.2)

/-- Step over bytes. -/
def Gram.walk (g : Gram) : List Nat → GConf → GCnt → Option GConf × GCnt
  | [], c, n => (some c, n)
  | b :: t, c, n =>
    match Gram.step g b 1026 c.1 c.2 { n with eps := 0 } with
    | (some c, n) => Gram.walk g t c n
    | r => r

def Gram.accepting (g : Gram) : Nat → List Nat → Bool
  | s, [] => Gram.accept g s
  | s, top :: rest => Gram.exit g s && Gram.accepting g top rest

/-- The tokens but the end token that a configuration admits (R281), the tokens checked, and the counts. -/
def Gram.admitted (g : Gram) (m : Img) (c : GConf) : List Nat × Nat × GCnt :=
  let plain := (List.range (Img.tokens m)).filter fun t => t != Img.endTok m && !Img.control m t && Gram.bitSet g c.1 t
  (Gram.checkList g c.1).foldl (fun (a : List Nat × Nat × GCnt) t =>
    if t = Img.endTok m || Img.control m t then a
    else
      let r := Gram.walk g (Img.str m t) c a.2.2
      (if r.1.isSome then a.1 ++ [t] else a.1, a.2.1 + 1, r.2)) (plain, 0, GCnt.zero)

/-! ### The sampler (R270, R272, R275) -/

/-- FP32 of an FP16 encoding, exact. -/
def f32OfF16 (x : Nat) : Nat :=
  let sign := if bitAt x 15 then 2 ^ 31 else 0
  let e := bitsOf x 14 10
  let f := bitsOf x 9 0
  if e = 31 then sign + (if f = 0 then 0x7F800000 else f32Nan)
  else sign + rneF32 ((if e = 0 then f else (1024 + f) * 2 ^ (e - 1)) * 2 ^ 125) 1
/-- An element of a row to FP32 (R270). -/
def logitF32 (fmt x : Nat) : Nat := if fmt = 0 then f32OfBf16 x else if fmt = 1 then f32OfF16 x else x
/-- Candidates: token and FP32 logit, in ascending order of token. -/
abbrev Cands := List (Nat × Nat)
def f32MinusInf : Nat := 0xFF800000
/-- Neither NaN nor −∞. -/
def candOk (x : Nat) : Bool := !f32IsNan x && x != f32MinusInf
def f32Cap (x : Nat) : Nat := if x = 0x7F800000 then 0x7F7FFFFF else x

def pairUp : List Nat → List (Nat × Nat)
  | a :: b :: t => (a, b) :: pairUp t
  | _ => []
/-- The row of an entry as token and FP32 logit. -/
def rowOf (fmt : Nat) (row : List Nat) : List (Nat × Nat) :=
  if fmt = 3 then sortBy (fun (a b : Nat × Nat) => decide (a.1 ≤ b.1)) (pairUp row)
  else row.zipIdx.map fun p => (p.2, logitF32 fmt p.1)
/-- A TOPK row with a duplicate ID, or one at or above TOKENS. -/
def badTopk (tokens : Nat) (l : List (Nat × Nat)) : Bool :=
  l.any (fun p => decide (p.1 ≥ tokens)) || !ascending (l.map Prod.fst)

/-- Bias (step 1). -/
def biasCands (bs : List (Nat × Nat)) (z : Cands) : Cands :=
  (z.map fun p =>
    match bs.find? fun b => b.1 = p.1 with
    | some b => (p.1, f32Add p.2 b.2)
    | none => p).filter fun p => candOk p.2
/-- Penalties (step 3). -/
def penalise (c : StreamConf) (window : List Nat) (z : Cands) : Cands :=
  (z.map fun p =>
    let n := window.count p.1
    if n = 0 then p
    else
      let v := if f32Lt 0 p.2 then f32Div p.2 c.repetition else f32Mul p.2 c.repetition
      (p.1, f32Sub (f32Sub v c.presence) (f32Mul c.frequency (f32OfNat n)))).filter fun p => candOk p.2
/-- Greatest value, ties to the lowest ID. -/
def greatest : Cands → Option (Nat × Nat)
  | [] => none
  | p :: t => some (t.foldl (fun a b => if f32Lt a.2 b.2 then b else a) p)
def sumW (l : Cands) : Nat := l.foldl (fun a p => f32Add a p.2) 0
/-- The tokens of step 6: kept up to the first at which the sum reaches the bound. -/
def topP (bound : Nat) : Nat → Cands → List Nat
  | _, [] => []
  | c, p :: t =>
    let c := f32Add c p.2
    p.1 :: (if f32Le bound c then [] else topP bound c t)
/-- The draw (step 8). -/
def drawFrom (target : Nat) : Nat → Cands → Option Nat
  | _, [] => none
  | c, p :: t =>
    let c := f32Add c p.2
    if f32Lt target c then some p.1 else drawFrom target c t
/-- In descending order of value; NaN values, all or none, keep the order of the tokens. -/
def byValue (z : Cands) : Cands := if z.any fun p => f32IsNan p.2 then z else byOrder z
where byOrder (z : Cands) : Cands := sortBy (fun (a b : Nat × Nat) => f32Le b.2 a.2) z

/-- Steps 4 to 8 of R272. Where every quotient is −∞, the weights are no numbers and the highest of the candidates kept before min-p is
drawn (log 188). -/
def drawToken (c : StreamConf) (z : Cands) (x : Nat) : Nat :=
  let z := z.map fun p => (p.1, f32Cap (f32Div p.2 c.temp))
  let top := ((byValue z).take c.topK).map Prod.fst
  let z := if c.topK = 0 then z else z.filter fun p => top.contains p.1
  let m := match greatest z with | some p => p.2 | none => 0
  let w := z.map fun p => (p.1, f32Exp (f32Sub p.2 m))
  let w := if f32Lt c.topP 0x3F800000 then
      let keep := topP (f32Mul c.topP (sumW w)) 0 (byValue w)
      w.filter fun p => keep.contains p.1
    else w
  let w := if f32Lt 0 c.minP && !w.all fun p => f32IsNan p.2 then w.filter fun p => f32Le c.minP p.2 else w
  let u := rneF32 (x / 256 * 2 ^ 125) 1
  match drawFrom (f32Mul u (sumW w)) 0 w with
  | some t => t
  | none => match w.getLast? with | some p => p.1 | none => 0

/-- What the sampler answers for an entry. -/
inductive Drawn where
  | token (t : Nat) (greedy : Bool)
  | gramEnd (t : Nat)
  | noFinite
  | stuck
  deriving DecidableEq, Repr

/-- The sampler (R272, R275), with the admitted tokens and whether the end token is admitted. -/
def sampleRow (c : StreamConf) (endTok : Nat) (mask : Option (List Nat × Bool)) (window : List Nat) (x : Nat)
    (row : List (Nat × Nat)) : Drawn :=
  let z := (row.filter fun p => candOk p.2).map fun p => (p.1, f32Cap p.2)
  let z := biasCands c.biases z
  let only := match mask with | some k => k.1.isEmpty | none => false
  if only then (if (match mask with | some k => k.2 | none => false) then .gramEnd endTok else .stuck)
  else
    let z := match mask with
      | some k => z.filter fun p => k.1.contains p.1 || (k.2 && p.1 = endTok)
      | none => z
    let z := penalise c window z
    if !z.any fun p => bitsOf p.2 30 23 != 255 then .noFinite
    else if f32Mag (c.temp % 2 ^ 31) = 0 then
      match greatest z with | some p => .token p.1 true | none => .noFinite
    else .token (drawToken c z x) false

/-! ### The detokeniser (R266 to R269) -/

/-- A proper prefix of a well-formed UTF-8 sequence. -/
def utfPrefix : List Nat → Bool
  | [] => false
  | b :: t =>
    match utfLead b with
    | none => false
    | some (n, _, lo, hi) =>
      decide (t.length < n) && (match t with
        | [] => true
        | c :: r => decide (lo ≤ c ∧ c ≤ hi) && r.all fun d => decide (0x80 ≤ d ∧ d ≤ 0xBF))
/-- Text that ends inside an incomplete sequence (RAGGED). -/
def ragged (p : List Nat) : Bool := (List.range 3).any fun i => utfPrefix (p.drop (p.length - (i + 1)))
/-- Longest suffix of `p`, up to `n` bytes, with a property. -/
def longestSuffix (ok : List Nat → Bool) (p : List Nat) : Nat → Nat
  | 0 => 0
  | n + 1 => if decide (n + 1 ≤ p.length) && ok (p.drop (p.length - (n + 1))) then n + 1 else longestSuffix ok p n
/-- Occurrences of the stop strings: (end, start, index). -/
def stopHits (stops : List (List Nat)) (p : List Nat) : List (List Nat) :=
  stops.zipIdx.flatMap fun s =>
    (List.range (p.length + 1)).filterMap fun a =>
      if s.1.isPrefixOf (p.drop a) then some [a + s.1.length, a, s.2] else none
def lexLeast : List (List Nat) → Option (List Nat)
  | [] => none
  | a :: t => some (t.foldl (fun x y => if lexLt y x then y else x) a)

/-- Text of a token (R266). -/
def tokenText (m : Img) (x : Stream) (t : Nat) : List Nat :=
  if t = Img.endTok m then []
  else if Img.control m t && !x.conf.showControl then []
  else if Img.model m = 2 && !Img.vflag m t 0 && x.draws != 0 then 0x20 :: Img.str m t
  else Img.str m t

/-- What the detokeniser does for one token: texts released with their flags, the bytes held after it, which an end but STOP releases (R269),
the end, bytes discarded. -/
structure Detok where
  texts : List (List Nat × Nat)
  held : List Nat
  fin : Option (Nat × Nat)
  lost : Nat

def textFlags (old : Bool) (t : List Nat) : Nat := b2n old + 2 * b2n (ragged t)
def keepText (old : Bool) (t : List Nat) : List (List Nat × Nat) := if t.isEmpty then [] else [(t, textFlags old t)]

/-- R267 and the ends of R269 that a token brings: STOP first, then END or GRAMMAR_END, then LENGTH. -/
def detok (m : Img) (x : Stream) (t : Nat) (gramEnd : Bool) : Detok :=
  let p := x.held ++ tokenText m x t
  let old := !x.held.isEmpty
  match lexLeast (stopHits x.conf.stops p) with
  | some [e, a, k] =>
    let rel := p.take (if x.conf.keepStop then e else a)
    ⟨keepText old rel, [], some (3, k), p.length - rel.length⟩
  | _ =>
    let h1 := longestSuffix (fun q => x.conf.stops.any fun st => decide (q.length < st.length) && q.isPrefixOf st) p 63
    let h2 := longestSuffix utfPrefix p 3
    let h := max h1 h2
    let rel := p.take (p.length - h)
    let held := p.drop (p.length - h)
    let fin := if gramEnd then some (2, 0xFF) else if t = Img.endTok m then some (1, 0xFF)
      else if x.conf.maxTokens != 0 && x.draws + 1 ≥ x.conf.maxTokens then some (4, 0xFF) else none
    ⟨keepText old rel, held, fin, 0⟩

/-! ### Streams -/

def State.setStreams (s : State) (l : List Stream) : State := { s with dec := { s.dec with streams := l } }
def State.stream (s : State) (h : Nat) : Option Stream := s.dec.streams.find? fun x => x.handle = h && !x.freed
def State.updStream (s : State) (h : Nat) (f : Stream → Stream) : State :=
  s.setStreams (s.dec.streams.map fun x => if x.handle = h && !x.freed then f x else x)
def State.streamsLive (s : State) : Nat := (s.dec.streams.filter fun x => !x.freed).length
/-- DEC_GAUGE, the users of table slots and the streams bound to grammar slots. -/
def State.refreshStreams (s : State) : State :=
  let s := s.wr .DEC_GAUGE_STREAMS 0 0 s.streamsLive
  let s := s.wr .DEC_GAUGE_ENDED 0 0 (s.dec.streams.filter fun x => !x.freed && x.ended).length
  let s := s.wr .DEC_GAUGE_BACKLOGGED 0 0 (s.dec.streams.filter fun x => !x.backlog.isEmpty).length
  let s := s.dec.grams.foldl (fun s (p : Nat × GramSlot) => s.wr .DEC_GRAM_B_USERS p.1 0
    (s.dec.streams.filter fun x => !x.freed && (match x.gram with | some b => b.slot = p.1 | none => false)).length) s
  s.showUsers

/-! ### The output ring (R264, R265) -/

/-- Records as length and content. -/
def textRec (t : List Nat) (flags pos vis : Nat) : Nat × Nat :=
  let n := (t.length + 15) / 16 * 16
  (16 + n, packBytes [(0, 1), (1, flags), (2, t.length), (4, pos), (8, vis % 2 ^ 64), (16, packWords 1 t)])
def endRec (reason k pos vis : Nat) : Nat × Nat := (16, packBytes [(0, 2), (1, reason), (2, k), (4, pos), (8, vis % 2 ^ 64)])
def padRec (n : Nat) : Nat × Nat := (n, packBytes [(0, 3), (2, n - 16)])

/-- Free bytes of the ring, from READ (R265). An unreadable READ counts as a full ring (R288). -/
def Stream.room (x : Stream) (read : Option Nat) : Nat :=
  match read with
  | none => 0
  | some r => if r > x.write || x.write - r > 2 ^ x.conf.ringLog then 0 else 2 ^ x.conf.ringLog - (x.write - r)
/-- Write one record and the WRITE value that covers it. -/
def State.ringWrite (s : State) (x : Stream) (r : Nat × Nat) : State × Stream :=
  let c := hCtx x.handle
  let s := s.emit (.write c (x.conf.ringData + x.write % 2 ^ x.conf.ringLog) r.1 r.2)
  let x := { x with write := x.write + r.1 }
  (s.emit (.write c x.conf.ringHdr 8 x.write), x)
/-- Write records of the backlog while they fit, with a PAD record where one does not fit before the end. -/
def State.ringDrain (s : State) (x : Stream) (read : Option Nat) : Nat → State × Stream
  | 0 => (s, x)
  | fuel + 1 =>
    let read := if s.inError (hCtx x.handle) then none else read
    match x.backlog with
    | [] => (s, x)
    | r :: rest =>
      let size := 2 ^ x.conf.ringLog
      let off := x.write % size
      if off + r.1 > size then
        if x.room read < size - off then (s, x)
        else
          let a := s.ringWrite x (padRec (size - off))
          State.ringDrain a.1 a.2 read fuel
      else if x.room read < r.1 then (s, x)
      else
        let a := s.ringWrite x r
        State.ringDrain a.1 { a.2 with backlog := rest } read fuel
def Stream.backBytes (x : Stream) : Nat := x.backlog.foldl (fun a r => a + r.1) 0
/-- A record goes out or into the backlog; false when the backlog cannot take it. The records of an end are always
taken (log 42). -/
def State.record (s : State) (x : Stream) (read : Option Nat) (r : Nat × Nat) (force : Bool) : State × Stream × Bool :=
  if !x.conf.output then (s, x, true)
  else
    let a := s.ringDrain { x with backlog := x.backlog ++ [r] } read (2 * x.backlog.length + 4)
    if force || a.2.backlog.isEmpty || decide (a.2.backBytes ≤ 16384) then (a.1, a.2, true)
    else (a.1, { a.2 with backlog := a.2.backlog.dropLast }, false)

/-- POS of a stream's END record. -/
def Stream.pos (x : Stream) : Nat := x.lastPos.getD 0xFFFFFFFF

/-- Write back a stream. -/
def State.putStream (s : State) (x : Stream) : State := s.updStream x.handle fun _ => x

/-- Release held bytes as a final TEXT record; the visible offset grows. -/
def State.flushHeld (s : State) (x : Stream) (read : Option Nat) : State × Stream :=
  if x.held.isEmpty then (s, x)
  else
    let s := s.updSess x.handle fun y => { y with visible := y.visible + x.held.length }
    let vis := match s.sess x.handle with | some y => y.visible | none => 0
    let s := if x.conf.output then s.bump .DEC_CNT_COUNT 13 0 x.held.length else s
    let a := s.record x read (textRec x.held (textFlags true x.held) x.pos vis) true
    (a.1, { a.2.1 with held := [] })

/-- Counter of an end reason. -/
def endCounter : Nat → Option Nat
  | 1 => some 9 | 2 => some 8 | 3 => some 10 | 4 => some 11 | 5 => some 12 | _ => none

/-- A stream ends (R269): held bytes for every reason but STOP, END record, STREAM_END event, ENDED. -/
def State.endStream (s : State) (h : Nat) (reason k : Nat) (read : Option Nat) : State :=
  match s.stream h with
  | none => s
  | some x =>
    let a := if reason = 3 then (s, x) else s.flushHeld x read
    let vis := match a.1.sess h with | some y => y.visible | none => 0
    let b := a.1.record a.2 read (endRec reason k a.2.pos vis) true
    let s := b.1.putStream { b.2.1 with ended := true, held := [], why := reason }
    let s := s.event (hCtx h) 9 h (packBytes [(0, reason), (1, k), (4, a.2.pos), (8, vis)])
    let s := match endCounter reason with | some n => s.bump .DEC_CNT_COUNT n 0 1 | none => s
    s.refreshStreams

/-- An OPEN stream ends for a reason; an ENDED one stays. -/
def State.endOpen (s : State) (h reason : Nat) (read : Option Nat) : State :=
  match s.stream h with
  | some x => if x.ended then s else s.endStream h reason 0xFF read
  | none => s
/-- The stream of a session is freed; records in its backlog are still written (log 41). -/
def State.freeStream (s : State) (h : Nat) : State :=
  (s.setStreams (s.dec.streams.filterMap fun x =>
    if x.handle = h && !x.freed then (if x.backlog.isEmpty then none else some { x with freed := true }) else some x)).refreshStreams

/-- Put the texts of a token into records; none fits beyond 16 KiB of backlog: the stream ends with OVERRUN. -/
def State.putTexts (s : State) (h pos : Nat) (read : Option Nat) : Nat → List (List Nat × Nat) → State × Bool
  | _, [] => (s, true)
  | vis, t :: rest =>
    match s.stream h with
    | none => (s, true)
    | some x =>
      let v := vis + t.1.length
      let a := s.record x read (textRec t.1 t.2 pos v) false
      let s := a.1.putStream a.2.1
      if a.2.2 then State.putTexts (if x.conf.output then s.bump .DEC_CNT_COUNT 13 0 t.1.length else s) h pos read v rest
      else (s, false)

/-- A sampled token is appended to the spool (R268, R278, R282): the detokeniser, the grammar, the spool, the records, the
end of the stream. A stream that cannot be found any more leaves the token without text. -/
def State.appendSampled (s : State) (h tok : Nat) (gramEnd : Bool) (read : Option Nat) : State :=
  match s.sess h with
  | none => s
  | some x =>
    let s := s.bump .MTR_LIVE_COUNT (hCtx h) 13 1
    let pos := x.spool.length
    match s.stream h with
    | none => s.spoolAppend h [⟨tok, true, x.visible⟩]
    | some st =>
      match s.image st.conf.table with
      | none => s.spoolAppend h [⟨tok, true, x.visible⟩]
      | some m =>
        let d := detok m st tok gramEnd
        let vis := d.texts.foldl (fun a t => a + t.1.length) x.visible
        let last := match d.fin with | some f => if f.1 = 3 then 0 else d.held.length | none => 0
        let gram := match st.gram with
          | none => none
          | some b =>
            if tok = Img.endTok m then some b
            else match (Map.find s.dec.grams b.slot).map fun g => (Gram.walk g.data (Img.str m tok) (b.state, b.stack) GCnt.zero).1 with
              | some (some c) => some { b with state := c.1, stack := c.2 }
              | _ => some b
        let s := s.putStream { st with held := d.held, draws := st.draws + 1, lastPos := some pos, gram := gram }
        let s := (s.spoolAppend h [⟨tok, true, vis + last⟩]).updSess h fun y => { y with visible := vis }
        let s := s.bump .DEC_CNT_COUNT 14 0 d.lost
        let r := s.putTexts h pos read x.visible d.texts
        if !r.2 then (r.1.endStream h 5 0xFF read)
        else match d.fin with
          | some f => r.1.endStream h f.1 f.2 read
          | none => r.1.refreshStreams

end Sys2Proof.Machine
end

