-- ==== Sys2Proof/Machine/TileDecode.lean ====
section
/-! DEFINITION. Reading stored tiles back (spec/04 R124, R125, R127, R129) as BF16, for STREAM in BF16 form
(R237): Pewter and open tiles as delivered, Brass and Tin reconstructions rounded to the nearest BF16. -/

namespace Sys2Proof.Machine

/-- Nearest BF16 magnitude to num ÷ den units of 2^-133, ties to the even significand. -/
def rneBf16 (num den : Nat) : Nat :=
  let lo := searchCode (fun k => decide (bf16Mag k * den ≤ num)) 15 0
  let dl := num - bf16Mag lo * den
  let dh := bf16Mag (lo + 1) * den - num
  if dl < dh then lo else if dh < dl then lo + 1 else if lo % 2 = 0 then lo else lo + 1

/-- Sign bit of BF16 for a magnitude that is not zero. -/
def signed (neg : Bool) (m : Nat) : Nat := if m = 0 then 0 else if neg then m + 32768 else m

/-- An element of a stored or delivered half: a BF16 encoding as delivered, or a reconstruction x' of R125 and R127,
exact in units of 2^-142. -/
inductive HVal where
  | raw (code : Nat)
  | fix (neg : Bool) (mag : Nat)
  deriving DecidableEq, Repr
/-- The nearest BF16 encoding (R237). -/
def HVal.bf16 : HVal → Nat
  | .raw c => c
  | .fix n m => signed n (rneBf16 m 512)
/-- The exact value in units of 2^-142, where it is finite (R206). -/
def HVal.int : HVal → Option Int
  | .raw c => if bf16Finite c then some (bf16Int c * 512) else none
  | .fix n m => some (if n then -(m : Int) else m)

/-- Value of an E4M3 code under a BF16 scale. -/
def brassVal (s q : Nat) : HVal := .fix (bitAt q 7) (bf16Mag s * e4m3Mag (q % 128))

/-- A Pewter half: elements by channel, from its section at `off`. -/
def pewterElems (d data off : Nat) (raw : Bool) (expBytes : Nat) : List Nat :=
  let n := 128 * d
  let exps :=
    if raw then (List.range n).map fun i => tileField data (off + 128 + i) 1
    else
      let ls := (List.range 256).map fun s => tileField data (off + s / 2) 1 / (if s % 2 = 0 then 1 else 16) % 16
      let bs := (List.range (8 * expBytes)).map fun i => bitAt (tileField data (off + 128 + i / 8) 1) (7 - i % 8)
      huffDecode ls (8 * expBytes) bs 0 0
  let smOff := off + 128 + (if raw then n else pad64 expBytes)
  (List.range n).map fun i =>
    let sm := tileField data (smOff + i) 1
    sm / 128 * 32768 + exps.getD i 0 * 128 + sm % 128

/-- One element of a stored half at row r, channel ch. `el` is the Pewter plane, decoded once. -/
def halfElem (d grade data off dirOff base : Nat) (el : List Nat) (r ch : Nat) : HVal :=
  if grade = 0 then .raw (el.getD (128 * ch + r) 0)
  else if grade = 1 then
    brassVal (tileField data (off + 2 * ch) 2) (tileField data (off + pad64 (2 * d) + d * r + ch) 1)
  else
    let g := (d + 31) / 32
    let dir := (List.range 4).map fun k => tileField data (dirOff + 8 * k) 2
    match dir.findIdx? fun c => c = ch with
    | some k =>
      brassVal (tileField data (dirOff + 8 * k + 2) 2)
        (tileField data (off + 64 * d + pad64 (128 * g) + 128 * k + r) 1)
    | none =>
      let b := tileField data (off + d / 2 * r + ch / 2) 1
      let c := if ch % 2 = 0 then b % 16 else b / 16
      let m := if c ≥ 8 then 16 - c else c
      let e := e4m3Mag (tileField data (off + 64 * d + g * r + ch / 32) 1)
      .fix (decide (c ≥ 8)) (m * bf16Mag base * e)

/-- The elements of the K and of the V row r of a tile; a latent tile has no V row. -/
def tileVals (g : Shape) (t : Tile) (r : Nat) : List HVal × List HVal :=
  if !t.sealed then
    let row (at_ : Nat) : List HVal := (unpackWords 2 g.dk (tileField t.data at_ (2 * g.dk))).map HVal.raw
    (row (2 * g.dk * r), if g.latent then [] else row (256 * g.dk + 2 * g.dk * r))
  else
    let f := tileField t.data
    let gr := f 1 1
    let fb := f 2 1
    let kg := if bitAt fb 0 then 0 else gr % 4
    let vg := if bitAt fb 1 then 0 else gr / 4 % 4
    let vOff := f 36 4
    let kEl := if kg = 0 then pewterElems g.dk t.data 128 (bitAt gr 5) (f 28 4) else []
    let k := (List.range g.dk).map fun ch => halfElem g.dk kg t.data 128 64 (f 24 2) kEl r ch
    if g.latent then (k, [])
    else
      let vEl := if vg = 0 then pewterElems g.dk t.data vOff (bitAt gr 6) (f 32 4) else []
      (k, (List.range g.dk).map fun ch => halfElem g.dk vg t.data vOff 96 (f 26 2) vEl r ch)

/-- The K (and V) row r of a stored tile, as the bytes of R234. -/
def tileRow (g : Shape) (t : Tile) (r : Nat) : Nat :=
  let kv := tileVals g t r
  packWords 2 ((kv.1 ++ kv.2).map HVal.bf16)

end Sys2Proof.Machine
end

