-- ==== Sys2Proof/Machine/AttnMath.lean ====
section
/-! DEFINITION. The attention arithmetic (spec/07 R205 to R212): the exact output and log-sum-exp of one query head, the
bounds within which the delivered values lie, and a delivered value within its bound. The exponential and the
logarithm are computed in fixed point with 512 fractional bits (log 9). -/

namespace Sys2Proof.Machine

/-- e^−y of a fixed-point number; below 2^−369 it counts as 0. -/
def expFix (y : Nat) : Nat :=
  if y ≥ 256 * 2 ^ expBits then 0
  else
    let a := expTerms 160 0 (y / 256) (2 ^ expBits) true (0, 0)
    (List.range 8).foldl (fun e _ => e * e / 2 ^ expBits) (a.1 - a.2)

/-- Σ t^(2i+1) ÷ (2i + 1) in fixed point: the inverse hyperbolic tangent of t ≤ 1 ÷ 3. -/
def atanhTerms : Nat → Nat → Nat → Nat → Nat → Nat
  | 0, _, _, _, a => a
  | n + 1, i, t2, p, a => atanhTerms n (i + 1) t2 (p * t2 / 2 ^ expBits) (a + p / (2 * i + 1))
def atanhFix (t : Nat) : Nat := atanhTerms 170 0 (t * t / 2 ^ expBits) t 0
/-- Natural logarithm of a fixed-point number that is at least 1. -/
def lnFix (w : Nat) : Nat :=
  let k := Nat.log2 (w / 2 ^ expBits)
  let u := w / 2 ^ k
  2 * atanhFix ((u - 2 ^ expBits) * 2 ^ expBits / (u + 2 ^ expBits)) + k * (2 * atanhFix (2 ^ expBits / 3))

/-- The positions that the query at position `i` attends (R205). -/
def attends (w sinks i j : Nat) : Bool := decide (j ≤ i) && (w = 0 || decide (i < j + w) || decide (j < sinks))

/-- The parameters of a result. -/
structure AttnPar where
  scale : Nat
  softcap : Nat
  segTiles : Nat
  deriving DecidableEq, Repr

/-- One attended position: its segment, its key and its value, elements in units of 2^−142. -/
structure AttnPos where
  seg : Nat
  k : List Int
  v : List Int
  deriving DecidableEq, Repr

/-- A result with its bounds. -/
structure AttnRes where
  out : List (Rat × Rat)
  lse : Rat × Rat
  deriving DecidableEq, Repr

/-- Score of a position in fixed point, and its δ (R205, R209). -/
def scoreFix (p : AttnPar) (q k : List Int) : Int × Rat :=
  let prods := List.zipWith (fun (a b : Int) => a * b) q k
  let sc : Int := f32Mag p.scale * 2 ^ 79
  let z := sc * prods.foldl (fun (a b : Int) => a + b) 0
  let ab := sc.natAbs * prods.foldl (fun (a : Nat) (b : Int) => a + b.natAbs) 0
  let d : Rat := ((((q.length + 15) / 16 + 4) * ab : Nat) : Rat) / (2 : Rat) ^ (expBits + 24)
  let cap := f32Mag p.softcap
  if cap = 0 then (z, d)
  else
    let e := expFix (2 * (z.natAbs * 2 ^ 149 / cap))
    let m : Int := (cap * 2 ^ (expBits - 149) * (2 ^ expBits - e) / (2 ^ expBits + e) : Nat)
    (if z < 0 then -m else m, d + (cap : Rat) / (2 : Rat) ^ 171)

/-- The exact result over the attended positions, with the bounds of R210 and R211: none out of the range of R209. -/
def attnExact (p : AttnPar) (dv : Nat) (q : List Int) (pos : List AttnPos) : Option AttnRes :=
  let zs := pos.map fun (j : AttnPos) => scoreFix p q j.k
  if zs.any fun (z : Int × Rat) => decide ((2 : Int) ^ (expBits + 64) < z.1.natAbs) then none
  else
    let m := match zs with
      | [] => 0
      | z :: t => t.foldl (fun (a : Int) (b : Int × Rat) => max a b.1) z.1
    let delta := zs.foldl (fun (a : Rat) (b : Int × Rat) => max a b.2) 0
    let ws := zs.map fun (z : Int × Rat) => expFix (m - z.1).natAbs
    let w := max (ws.foldl (fun (a b : Nat) => a + b) 0) (2 ^ expBits)
    let l : Rat := ((m + lnFix w : Int) : Rat) / (2 : Rat) ^ expBits
    let segs := (pos.map AttnPos.seg).eraseDups.length
    let slack : Rat := 1 / (2 : Rat) ^ 200
    let outs := (List.range dv).map fun c =>
      let vs := pos.map fun (j : AttnPos) => j.v.getD c 0
      let o : Rat := (((List.zipWith (fun (a : Nat) (b : Int) => (a : Int) * b) ws vs).foldl (fun (a b : Int) => a + b) 0 : Int) : Rat)
        / ((w : Rat) * (2 : Rat) ^ 142)
      let vmax : Rat := ((vs.foldl (fun (a : Nat) (b : Int) => max a b.natAbs) 0 : Nat) : Rat) / (2 : Rat) ^ 142
      let b := (max o (-o)) / 512 +
        (201 / 100 * delta + ((8 * p.segTiles + 3 * segs + 18 : Nat) : Rat) / (2 : Rat) ^ 24 + slack) * vmax
      (o, b)
    some ⟨outs, l, delta + ((8 * p.segTiles + 3 * segs + 16 : Nat) : Rat) / (2 : Rat) ^ 24 + (max l (-l)) / (2 : Rat) ^ 24 + slack⟩

/-- Values of finite encodings. -/
def bf16Val (x : Nat) : Rat :=
  let m : Rat := (bf16Mag (x % 32768) : Rat) / (2 : Rat) ^ 133
  if bitAt x 15 then -m else m
def f32Val (x : Nat) : Rat := (f32Int x : Rat) / (2 : Rat) ^ 149

/-- A delivered value: the free one where it lies within the bound, else the nearest encoding (R210, R211). -/
def pickBf16 (o b : Rat) (cand : Nat) : Nat :=
  let d := bf16Val cand - o
  if bf16Exp cand != 255 && decide (max d (-d) ≤ b) then cand
  else signed (decide (o < 0)) (rneBf16 (o.num.natAbs * 2 ^ 133) o.den)
def pickF32 (o b : Rat) (cand : Nat) : Nat :=
  let d := f32Val cand - o
  if bitsOf cand 30 23 != 255 && decide (max d (-d) ≤ b) then cand
  else f32OfRatio (o.num * 2 ^ 149) o.den

/-- The list of values when every element is finite. -/
def allInts : List HVal → Option (List Int)
  | [] => some []
  | x :: t =>
    match x.int, allInts t with
    | some a, some l => some (a :: l)
    | _, _ => none

end Sys2Proof.Machine
end

