-- ==== Sys2Proof/Machine/KvOps.lean ====
section
/-! DEFINITION. KV_APPEND runs (R97, R116, R137, R234 to R238): rows taking effect, seals, the end. -/

namespace Sys2Proof.Machine

def State.updKv (s : State) (k : Nat) (f : KvRun → KvRun) : State :=
  { s with attn := { s.attn with kvRuns := s.attn.kvRuns.map fun r => if r.cmd = k then f r else r } }

/-- Put the rows of a rebuild where they are wanted (R97, R137): a torn or missing tile gives way to a fresh
one. Answers the session, the keys filled, torn tiles replaced, rows taken. -/
def Session.rebuildRows (x0 : Session) (g : Shape) (hl : Nat) :
    Nat → List Nat → Session × Nat × Nat → Session × Nat × Nat
  | _, [], a => a
  | p, r :: t, a =>
    let key := p / 128 * g.headLayers + hl
    if x0.wants key (p / 128) then
      let x := a.1
      let old := Map.find x.tiles key
      let torn := match old with | some o => o.torn | none => false
      let tile := match old with | some o => if o.torn then Tile.fresh g else o | none => Tile.fresh g
      let x := { x with tiles := Map.put x.tiles key (tile.putRow g (p % 128) r) }
      Session.rebuildRows x0 g hl (p + 1) t (x, a.2.1 + b2n torn, a.2.2 + 1)
    else Session.rebuildRows x0 g hl (p + 1) t a

/-- The keys of a session's open tiles that are full and wait for their seal. -/
def Session.fullTiles (x : Session) : List Nat :=
  (x.tiles.filter fun p => !p.2.sealed && !p.2.torn && p.2.fill ≥ 128).map Prod.fst

/-- Rebuild rows take effect: tiles, cursor, pages, seals. What they replace is kept until the command ends (R116). -/
def State.takeRebuild (s : State) (r : KvRun) : State :=
  match s.sess r.handle, s.cmd r.cmd with
  | some x, some c =>
    let g := r.geo
    let a := (List.range g.headLayers).foldl
      (fun a hl => Session.rebuildRows x g hl r.first ((Map.find r.rows hl).getD []) a) (x, 0, 0)
    let u : Undo := ⟨x.kvLen, x.streamLen, x.rbStart, x.tiles, a.2.2, a.2.1⟩
    let y := { a.1 with rbStart := r.first + r.count, undo := some u }
    let s := (s.setSess y).appendPages r.handle g ((r.first + r.count - 1) / 128) (List.range g.headLayers)
    y.fullTiles.foldl (fun s key =>
      s.addItem (Item.new .seal .assist c.ctx r.cmd r.handle (keyLayer g key) (keyHead g key) (keyCol g key) .ready)) s
  | _, _ => s

/-- The last APPEND item of a KV_APPEND has ended: its rows take effect. -/
def State.takeKv (s : State) (r : KvRun) : State :=
  match s.cmd r.cmd with
  | none => s
  | some c =>
    let s := if r.rb then s.takeRebuild r
      else s.takeRows .assist c.ctx r.cmd r.handle r.geo r.first r.count r.rows
    s.updKv r.cmd fun q => { q with sealing := true }

/-- A KV_APPEND ends once its seals have finished (R116); a rebuild whose span is delivered leaves the session ALOFT (R97). -/
def State.settleKv (s : State) (k : Nat) : State :=
  match s.attn.kvRuns.find? fun r => r.cmd = k with
  | none => s
  | some r =>
    if !r.sealing || s.sealsLeft .assist k r.handle then s
    else
      let s := (s.keepRows r.handle).sweepStream r.handle
      match s.sess r.handle with
      | none => s
      | some x =>
        let whole := r.rb && decide (x.rbEnd ≤ x.rbStart)
        let s := if whole then (s.updSess r.handle fun z => { z with rbPending := false, rbCause := 0 }).enterAloft r.handle else s
        let r0 := if r.rb then (if whole then r.first + r.count else x.rbStart) else x.kvLen
        let up := whole && (match s.sess r.handle with | some y => y.st = .aloft | none => false)
        let s := (s.dropKv k).finish k .ok 0 r0 r.sealed (b2n up)
        s.startNext r.handle

end Sys2Proof.Machine
end

