-- ==== Sys2Proof/Machine/Queues.lean ====
section
/-! DEFINITION. Queue pairs and the HTI opcodes (spec/02): pair 0, faults, coalescing, QUEUE_OPEN, CAPS_GET,
CTX_FENCE, NOOP, STATS_GET, the HTI clears. -/

namespace Sys2Proof.Machine

/-- A write in a context's window. `port` is 0 or 1, and 2 more for a request with the T bit set on a secure stream (R438).
Through the unbound port it is logged and dropped (R44), in RUN without the T bit it is refused, while a CTX reset runs it is
logged and dropped (R484). -/
def State.window (s : State) (port ctx off : Nat) (f : State → State) : State :=
  if !s.blkOn .HTIW then s
  else if s.port ctx != port % 2 then s.errlog kWrongPort ctx (port % 2) 2 off
  else if s.rd .SEC_CTX_TDI ctx = 3 && !(decide (2 ≤ port) && s.teeOn (port % 2)) then s.bump .SEC_CNT_COUNT 11 0 1
  else if s.bit .CTL_CTX_RST_CTX ctx then s.errlog kCtxBusy ctx (port % 2) 2 off
  else f s

def Pair.new (sq cq sl cl w v cc ct : Nat) : Pair :=
  ⟨sq, cq, sl, cl, 0x10, w, v, cc, ct, 0, 0, 0, 0, true, false, false, [], [], 0, 0, none, 0, 0⟩

/-- The setup fields of pair 0 as a word writes them (R22). -/
def State.putAqcfg (s : State) (ctx value : Nat) : State :=
  s.putWord [.HTI_W_AQCFG_SQLOG, .HTI_W_AQCFG_CQLOG, .HTI_W_AQCFG_VEC] ctx 0 value

/-- The conditions of R46, on the values that the register holds. -/
def State.aqcfgOk (s : State) (ctx : Nat) : Bool :=
  let sl := s.rd .HTI_W_AQCFG_SQLOG ctx
  let cl := s.rd .HTI_W_AQCFG_CQLOG ctx
  s.on .CTL_READY_HTI && s.on .HTI_CTX_EN ctx && decide (4 ≤ sl ∧ sl ≤ 12 ∧ sl ≤ cl ∧ cl ≤ 12) &&
    decide (s.rd .HTI_W_AQCFG_VEC ctx ≤ 31)

/-- FAULT and every bit of HTI_W_QFAULT read 0. -/
def State.clearQfault (s : State) (ctx : Nat) : State :=
  (s.wr .HTI_W_AQCFG_FAULT ctx 0 0).wrAll .HTI_W_QFAULT_PAIR ((List.range 4).map fun n => (ctx, n)) 0
/-- A pair of the context is open. -/
def State.anyPair (s : State) (ctx : Nat) : Bool := s.hti.pairs.any fun (p : Nat × Pair) => p.1 / 256 = ctx

/-- PAIR0_OPEN (R46, R47): a write of HTI_W_AQCFG with EN = 1, also while earlier commands still end (log 32). On an open pair a VEC of 32 or
more sets FAULT (R22) and the pair stays open (log 168). -/
def openPair0 (ctx value : Nat) (s : State) : State :=
  if s.on .HTI_W_AQCFG_EN ctx then
    if fieldOf .HTI_W_AQCFG_SQLOG value != s.rd .HTI_W_AQCFG_SQLOG ctx ||
        fieldOf .HTI_W_AQCFG_CQLOG value != s.rd .HTI_W_AQCFG_CQLOG ctx then
      s.errlog kQueueBusy ctx (s.port ctx) 2 0x1010
    else
      let s := s.put .HTI_W_AQCFG_VEC ctx 0 (fieldOf .HTI_W_AQCFG_VEC value)
      if decide (s.rd .HTI_W_AQCFG_VEC ctx ≤ 31) then s else s.wr .HTI_W_AQCFG_FAULT ctx 0 1
  else
    let s := (s.putAqcfg ctx value).wr .HTI_W_AQCFG_EN ctx 0 1
    if s.aqcfgOk ctx then
      let p := Pair.new (s.rd .HTI_W_ASQ_BASE ctx * 4096) (s.rd .HTI_W_ACQ_BASE ctx * 4096)
        (s.rd .HTI_W_AQCFG_SQLOG ctx) (s.rd .HTI_W_AQCFG_CQLOG ctx) 1 (s.rd .HTI_W_AQCFG_VEC ctx) 0 0
      let s := (s.setPair ctx 0 p).wr .HTI_W_AQCFG_RDY ctx 0 1
      s.clearQfault ctx
    else s.wr .HTI_W_AQCFG_FAULT ctx 0 1
def execPair0Open (port ctx value : Nat) (s : State) : Host.Outcome State Fault Refusal :=
  .next (if ctx < 64 && bitAt value 8 then s.window port ctx 0x1010 (openPair0 ctx value) else s)

/-- CONTEXT_PAIRS_CLOSED (R46): every command of a context whose pairs were closed has ended. -/
def execContextPairsClosed (ctx : Nat) (s : State) : Host.Outcome State Fault Refusal :=
  .next (
    if s.on .HTI_W_AQCFG_RDY ctx && !s.anyPair ctx && s.hti.cmds.all fun d => d.ctx != ctx then
      let bad := s.on .HTI_W_AQCFG_EN ctx
      let s := (s.wr .HTI_W_AQCFG_RDY ctx 0 0).clearQfault ctx
      if bad then s.wr .HTI_W_AQCFG_FAULT ctx 0 1 else s
    else s)

/-- The Flewick may fetch from a pair: its completion ring has room for all that it holds (R52), it is not faulted (R53), it is
not being closed (R70), and TDISP lets the context send and receive. -/
def State.mayFetch (s : State) (ctx : Nat) (p : Pair) : Bool :=
  !p.faulted && p.room && p.held.isEmpty && p.closer.isNone && s.rd .SEC_CTX_TDI ctx != 4

/-- SUBMISSION_FETCH_FAIL (R53): the next entry between the fetch index and TAIL could not be read. -/
def execSubmissionFetchFail (ctx pair : Nat) (s : State) : Host.Outcome State Fault Refusal :=
  .next (
    match s.pair ctx pair with
    | some p =>
      if s.mayFetch ctx p && p.waitq.isEmpty && p.fetch != p.tail then
        (s.setPair ctx pair { p with faulted := true }).faultPair ctx pair kFetchFail p.fetch
      else s
    | none => s)

/-- COMPLETION_POST_FAIL (R53): the next completion write of the pair fails; it and later ones are held. -/
def execCompletionPostFail (ctx pair : Nat) (s : State) : Host.Outcome State Fault Refusal :=
  .next (
    match s.pair ctx pair with
    | some p =>
      if !p.postFail then
        (s.setPair ctx pair { p with faulted := true, postFail := true }).faultPair ctx pair kPostFail p.widx
      else s
    | none => s)

/-- COALESCING_TIME_EXPIRY (R66): the oldest unsignalled completion has waited CO_TIME µs. -/
def execCoalescingTimeExpiry (dt ctx pair : Nat) (s : State) : Host.Outcome State Fault Refusal :=
  .next (
    match s.pair ctx pair with
    | some p =>
      if pair != 0 && p.unsig != 0 && p.coTime != 0 && decide (p.oldest + 100 * p.coTime ≤ s.now + dt) then
        ((s.pass dt).setPair ctx pair { p with unsig := 0 }).raiseVec ctx p.vec
      else s.pass dt
    | none => s.pass dt)

/-- QUEUE_OPEN (R67, R69). -/
def queueOpenBody (c : Cmd) (s : State) : State :=
  let d := c.desc
  let q := Desc.byte d 8
  if Desc.byte d 34 / 16 = 0 then s.finish c.id .badVersion 0x0010
  else
    let p := Pair.new (Desc.num d 16 8) (Desc.num d 24 8) (Desc.byte d 32) (Desc.byte d 33) (Desc.byte d 35)
      (Desc.num d 36 2) (Desc.byte d 38) (Desc.num d 40 2)
    (s.setPair c.ctx q p).finish c.id .ok 0 0x10 (8 * q) (0x800 + 8 * q)
/-- The pair that QUEUE_OPEN names may be opened (R69). -/
def State.mayOpen (s : State) (c : Cmd) : Bool :=
  let q := Desc.byte c.desc 8
  decide (q < s.rd .HTI_CTX_QMAX c.ctx) && (s.pair c.ctx q).isNone
def execQueueOpen (k : Nat) (s : State) : Host.Outcome State Fault Refusal :=
  .next (s.begin k 0x01 anyForm anyCmd s.mayOpen queueOpenBody)

/-- Capability words 0 to 7 (CAPS_GET). -/
def State.capWords (s : State) (c : Nat) : List Nat :=
  let bits (l : List Nat) : Nat := l.foldl (fun a n => a + 2 ^ n) 0
  [0x10 + 2 ^ 8 + s.myId * 2 ^ 12 + c * 2 ^ 22 + s.rd .HTI_CTX_MGMT c * 2 ^ 28,
   bits ([1, 2, 3, 4, 5, 6] ++ (List.range 11).map (· + 0x10) ++ (List.range 4).map (· + 0x20) ++
     (List.range 7).map (· + 0x30)),
   bits (List.range 7 ++ (List.range 6).map (· + 0x10) ++ (List.range 4).map (· + 0x20) ++
     (List.range 4).map (· + 0x30)),
   s.rd .HTI_CTX_QMAX c + 12 * 2 ^ 9 + 4 * 2 ^ 13,
   bits (List.range 14),
   bits [0, 1, 2, 3] + 19 * 2 ^ 4,
   bits (List.range 6),
   bits (List.range 5)]
/-- CAPS_GET (R72, R535). -/
def capsGetBody (wrote : Bool) (c : Cmd) (s : State) : State :=
  let w := s.capWords c.ctx
  if wrote then
    (s.emit (.write c.ctx (Desc.num c.desc 16 8) 64 (packWords 8 w))).finish c.id .ok 0 (w.getD 0 0)
  else s.finish c.id .retryLater (hintMs 1)
def execCapsGet (k : Nat) (wrote : Bool) (s : State) : Host.Outcome State Fault Refusal :=
  .next (s.begin k 0x03 anyForm anyCmd anyCmd (capsGetBody wrote))

/-- CTX_FENCE (R73): it runs until every command of the context fetched before it has completed. -/
def execCtxFence (k : Nat) (s : State) : Host.Outcome State Fault Refusal :=
  .next (s.begin k 0x04 anyForm anyCmd anyCmd fun _ s => s.settle s.hti.cmds.length)

/-- NOOP. -/
def execNoop (k : Nat) (s : State) : Host.Outcome State Fault Refusal :=
  .next (s.begin k 0x05 anyForm anyCmd anyCmd fun c s =>
    s.finish c.id .ok 0 (Desc.num c.desc 16 8) (Desc.num c.desc 24 4) (Desc.num c.desc 28 4))

/-- The values that STATS_GET takes: its own fetch is counted when it ends (R74). -/
def State.statWords (s : State) (c : Nat) : List Nat := (List.range 8).map fun k => s.rd .HTI_CNT_COUNT c k
def statsGetBody (wrote : Bool) (c : Cmd) (s : State) : State :=
  let w := s.statWords c.ctx
  if wrote then
    let s := s.emit (.write c.ctx (Desc.num c.desc 16 8) 64 (packWords 8 w))
    let s := if Desc.flag c.desc 8 then
        w.zipIdx.foldl (fun s p => s.wr .HTI_CNT_COUNT c.ctx p.2 (s.rd .HTI_CNT_COUNT c.ctx p.2 - p.1)) s
      else s
    s.finish c.id .ok
  else s.finish c.id .retryLater (hintMs 1)
def execStatsGet (k : Nat) (wrote : Bool) (s : State) : Host.Outcome State Fault Refusal :=
  .next (s.begin k 0x06 anyForm anyCmd anyCmd (statsGetBody wrote))

/-- HTI_ERRLOG_CLR: a write of HTI_ERRLOG_CTL with CLR set; OVF is W1C in the same word. -/
def clearErrlog (value : Nat) (s : State) : State :=
  let s := if bitAt value 9 then s.wr .HTI_ERRLOG_CTL_OVF 0 0 0 else s
  let all := instances 16 1
  let s := (s.wrAll .HTI_ERRLOG_A_KIND all 0).wrAll .HTI_ERRLOG_A_CTX all 0
  let s := (s.wrAll .HTI_ERRLOG_A_PORT all 0).wrAll .HTI_ERRLOG_A_TIME all 0
  let s := (s.wrAll .HTI_ERRLOG_B_OFFSET all 0).wrAll .HTI_ERRLOG_B_BAR all 0
  (s.wr .HTI_ERRLOG_CTL_NEXT 0 0 0).wr .HTI_ERRLOG_CTL_COUNT 0 0 0
def execHtiErrlogClr (value : Nat) (s : State) : Host.Outcome State Fault Refusal :=
  .next (s.hostWrite .HTI fun s => if bitAt value 10 then clearErrlog value s else s)

/-- HTI_CNT_CLR (R29). -/
def execHtiCntClr (value : Nat) (s : State) : Host.Outcome State Fault Refusal :=
  .next (s.hostWrite64 .HTI_CNT_CLR_CTX 0 value fun s => s.zeroRows .HTI_CNT_COUNT value)

end Sys2Proof.Machine
end

