-- ==== Sys2Proof/Machine/Attention.lean ====
section
/-! DEFINITION. The attention service (spec/07): shapes, step admission, kicks, layers, abandoned steps, KV_APPEND,
bridle pages. -/

namespace Sys2Proof.Machine

/-! ### MODEL_SHAPE_SET (R213 to R216) -/

/-- 1 ÷ sqrt(DK) as FP32 when it is asked for with SCALE 0: nearest value, by exact comparison. The result m × 2^-e
has m in [2^23, 2^24) with (2m − 1)² × dk < 2^(2e + 2) ≤ (2m + 1)² × dk. -/
def rsqrtF32 (dk : Nat) : Nat :=
  let e := (List.range 40).find? fun e => decide ((2 ^ 24) ^ 2 * dk > 2 ^ (2 * e) ∧ 2 ^ (2 * e) ≥ (2 ^ 23) ^ 2 * dk)
  match e with
  | some e =>
    let m := searchCode (fun m => decide ((2 * m - 1) ^ 2 * dk < 2 ^ (2 * e + 2))) 25 0
    if m = 2 ^ 24 then (127 + 24 - e) * 2 ^ 23 else (127 + 23 - e) * 2 ^ 23 + (m - 2 ^ 23)
  | none => 0

/-- The descriptor's shape with its layer table of LAYERS 8-byte entries (R213). -/
def shapeOf (ctx : Nat) (d : Desc) (table : List Nat) : Shape :=
  let sc := Desc.num d 28 4
  ⟨ctx, Desc.num d 16 2, Desc.num d 18 2, Desc.byte d 20, Desc.byte d 21 = 1, Desc.num d 22 2, Desc.num d 24 2,
   Desc.byte d 26, if sc = 0 then rsqrtF32 (Desc.num d 22 2) else sc, Desc.num d 32 4,
   table.map fun e => e % 256, table.map fun e => e / 2 ^ 32 % 2 ^ 32⟩

/-- A layer-table entry is good (R213). -/
def layerOk (latent : Bool) (e : Nat) : Bool :=
  e % 4 != 3 && e / 4 % 4 != 3 && e / 16 % 16 = 0 && e / 256 % 2 ^ 24 = 0 && decide (e / 2 ^ 32 % 2 ^ 32 ≤ 1048576) &&
    (!latent || e / 4 % 4 = 0)

/-- The offset of the first geometry field that differs (R215). -/
def geoDiff (a b : Shape) : Option Nat :=
  if a.layers != b.layers then some 16 else if a.hq != b.hq then some 18 else if a.hkv != b.hkv then some 20
  else if a.latent != b.latent then some 21 else if a.dk != b.dk then some 22
  else if a.dv != b.dv then some 24 else none

def slotOf (d : Desc) : Nat := Desc.num d 8 8 % 64

/-- Show a slot in GORE_SHAPE_A and B. -/
def State.showShape (s : State) (n : Nat) (g : Option Shape) : State :=
  let v (f : Shape → Nat) : Nat := match g with | some x => f x | none => 0
  let s := (s.wr .GORE_SHAPE_A_DECLARED n 0 (b2n g.isSome)).wr .GORE_SHAPE_A_OWNER n 0 (v Shape.owner)
  let s := (s.wr .GORE_SHAPE_A_LATENT n 0 (v fun x => b2n x.latent)).wr .GORE_SHAPE_A_LAYERS n 0 (v Shape.layers)
  let s := (s.wr .GORE_SHAPE_A_QHEADS n 0 (v Shape.hq)).wr .GORE_SHAPE_A_KVHEADS n 0 (v Shape.hkv)
  let s := (s.wr .GORE_SHAPE_A_DK n 0 (v Shape.dk)).wr .GORE_SHAPE_A_DV n 0 (v Shape.dv)
  let s := (s.wr .GORE_SHAPE_A_SINKS n 0 (v Shape.sinks)).wr .GORE_SHAPE_B_KV_BYTES n 0 (v Shape.kvBytes)
  s.wr .GORE_SHAPE_B_SESSIONS n 0 (if g.isSome then s.shapeUsers n else 0)
def State.setShape (s : State) (n : Nat) (g : Option Shape) : State :=
  let m := match g with | some x => Map.put s.attn.shapes n x | none => Map.del s.attn.shapes n
  ({ s with attn := { s.attn with shapes := m } }).showShape n g

/-- A slot of another context may not be set, unless by a management context (R214). -/
def State.shapeForeign (s : State) (c : Cmd) (g : Shape) : Bool := g.owner != c.ctx && !s.on .HTI_CTX_MGMT c.ctx

/-- DECLARE and UPDATE after the intake steps. -/
def shapeSet (update : Bool) (table : Option (List Nat)) (c : Cmd) (s : State) : State :=
  let n := slotOf c.desc
  let old := Map.find s.attn.shapes n
  match old, table with
  | none, t =>
    if update then s.finish c.id .badHandle
    else match t with
      | none => s.finish c.id .retryLater (hintMs 1)
      | some l =>
        let g := shapeOf c.ctx c.desc l
        let sz := Config.shapeBytes g.layers
        if !l.all (layerOk g.latent) then s.finish c.id .reservedNonzero 40
        else if !s.rsvFits 0 sz then s.rsvFull.finish c.id .retryLater (hintMs 1)
        else ((s.rsvSwap 0 sz).setShape n (some g)).finish c.id .ok 0 g.kvBytes (s.shapeUsers n)
  | some o, t =>
    if s.shapeForeign c o then s.finish c.id .authFail 3
    else match geoDiff o (shapeOf c.ctx c.desc []) with
      | some off => s.finish c.id .reservedNonzero off
      | none =>
        match t with
        | none => s.finish c.id .retryLater (hintMs 1)
        | some l =>
          if !l.all (layerOk o.latent) then s.finish c.id .reservedNonzero 40
          else
            let g := { shapeOf c.ctx c.desc l with owner := o.owner }
            (s.setShape n (some g)).finish c.id .ok 0 g.kvBytes (s.shapeUsers n)

def execModelShapeDeclare (k : Nat) (table : Option (List Nat)) (s : State) : Host.Outcome State Fault Refusal :=
  .next (s.begin k 0x36 (opOf 9 8 0) anyCmd anyCmd (shapeSet false table))
def execModelShapeUpdate (k : Nat) (table : Option (List Nat)) (s : State) : Host.Outcome State Fault Refusal :=
  .next (s.begin k 0x36 (opOf 9 8 1) anyCmd anyCmd (shapeSet true table))

/-- REMOVE (R215). -/
def shapeRemove (c : Cmd) (s : State) : State :=
  let n := slotOf c.desc
  match Map.find s.attn.shapes n with
  | none => s.finish c.id .badHandle
  | some o =>
    if s.shapeForeign c o then s.finish c.id .authFail 3
    else if s.shapeUsers n != 0 then s.finish c.id .reservedNonzero 2 0 (s.shapeUsers n)
    else ((s.rsvSwap (Config.shapeBytes o.layers) 0).setShape n none).finish c.id .ok 0 o.kvBytes
def execModelShapeRemove (k : Nat) (s : State) : Host.Outcome State Fault Refusal :=
  .next (s.begin k 0x36 (opOf 9 8 2) anyCmd anyCmd shapeRemove)

/-! ### STEP_SUBMIT (R190, R223 to R226) -/

/-- The check of one entry (R224): none when it is admitted. `seen` are the earlier handles of the list. -/
def State.refuseEntry (s : State) (ctx shape ntok : Nat) (seen : List Nat) (h : Nat) : Option (Status × Nat) :=
  if !s.liveSess ctx h || seen.contains h then some (.badHandle, 0)
  else
    match s.sess h with
    | none => some (.badHandle, 0)
    | some x =>
      if (s.itemRefuse x).isSome then s.itemRefuse x
      else if x.shape != shape then some (.reservedNonzero, 18)
      else if x.kvLen + ntok > x.spool.length || x.kvLen + ntok > Config.maxTokens then some (.reservedNonzero, 19)
      else none

/-- The entries of a step from its list, in list order. -/
def State.makeEntries (s : State) (ctx shape ntok k : Nat) : List Nat → List Nat → List SEntry
  | _, [] => []
  | seen, h :: t =>
    let e : SEntry :=
      match s.refuseEntry ctx shape ntok seen h with
      | some r => ⟨h, 0, false, true, false, false, none, r.1, r.2, 0, false, false, false, none, []⟩
      | none =>
        ⟨h, (match s.sess h with | some x => x.kvLen | none => 0), true, false, false, false, none, .ok, 0, 0,
         s.sessBusy h || s.kvBefore h k, false, false, none, []⟩
    e :: State.makeEntries s ctx shape ntok k (h :: seen) t

/-- The information record of an entry (R225). -/
def State.infoRecord (s : State) (e : SEntry) : Nat :=
  if !e.admitted then 2 ^ 64 - 1
  else match s.sess e.handle with
    | some x => e.pos0 + (match x.spool[e.pos0]? with | some t => t.token % 2 ^ 19 | none => 0) * 2 ^ 32
    | none => e.pos0

def State.stepsOf (s : State) (c : Nat) : Nat := (s.attn.steps.filter fun t => t.ctx = c).length

/-- Write the information records of a step, and the status records of its refused entries. -/
def State.writeAdmission (s : State) (t : Step) : State :=
  let s := t.entries.zipIdx.foldl (fun s p => if p.1.admitted then s else s.writeRecord t p.2 p.1) s
  t.entries.zipIdx.foldl (fun s p =>
    s.emit (.write t.ctx (t.records + 8 * (t.entries.length + p.2)) 8 (s.infoRecord p.1))) s

/-- STEP_SUBMIT after the checks of R58. The grades are those of its acceptance (R119), the rest of the shape that of its admission (R216). -/
def stepSubmit (list : Option (List Nat)) (c : Cmd) (s : State) : State :=
  let d := c.desc
  let sid := Desc.num d 16 2
  let sh := Desc.byte d 18
  let ntok := Desc.byte d 19
  let count := Desc.num d 20 2
  let nslot := Desc.byte d 22
  let inOff := Desc.num d 40 4
  if (s.step? c.ctx sid).isSome then s.finish c.id .reservedNonzero 16
  else match Map.find s.attn.shapes sh with
    | none => s.finish c.id .reservedNonzero 18
    | some g =>
      if inOff + nslot * islotOf g (count * ntok) > s.backed c.ctx then s.finish c.id .reservedNonzero 40
      else if s.attn.steps.length ≥ 64 || s.stepsOf c.ctx ≥ s.rd .GORE_STEP_LIM_PER_CTX then
        (s.bump .GORE_CNT_COUNT 1 0 1).finish c.id .retryLater (hintUs 100)
      else match list with
        | none => s.finish c.id .retryLater (hintMs 1)
        | some l =>
          let hs := (List.range count).map fun i => l.getD i 0
          let es := s.makeEntries c.ctx sh ntok s.hti.nextCmd [] hs
          let g := { g with grades := match c.shape with | some a => a.grades | none => g.grades }
          let t : Step :=
            ⟨s.attn.nextStep, s.hti.nextCmd, c.ctx, sid, c.id, c.pair, sh, g, s.rd .GORE_CFG_SEG_TILES, ntok, nslot, Desc.num d 32 8,
             inOff, Desc.num d 48 8, Desc.num d 56 8, Desc.flag d 8, s.now, 0, 0, s.now, false, es, [], none⟩
          if es.all fun e => !e.admitted then
            (s.writeAdmission t).finish c.id .partialDone 0 0 count
          else
            let old := s
            let s := { s with attn := { s.attn with steps := s.attn.steps ++ [t], nextStep := t.id + 1 } }
            let s := s.bump .GORE_CNT_COUNT 0 0 1
            let s := (s.writeAdmission t).writeFlag t 0 false
            let s := es.foldl (fun s e => if e.admitted && !e.waiting then s.formLayer t e 0 else s) s
            s.winch old
def execStepSubmit (k : Nat) (list : Option (List Nat)) (s : State) : Host.Outcome State Fault Refusal :=
  .next (s.begin k 0x30 anyForm anyCmd anyCmd (stepSubmit list))

/-! ### Kicks (R228) -/

/-- Layer `l` of a step is kicked: APPEND items of layer l, segments of layer l + 1 (R191). -/
def State.kick (s : State) (t : Step) (l : Nat) : State :=
  let old := s
  let s := s.updStep t.id fun t => { t with kicked := l + 1 }
  let es := t.entries.filter fun e => e.inStep && !e.waiting && !e.sealing
  let s := es.foldl (fun s e => (s.kickEntry t e l).formLayer t e (l + 1)) s
  s.winch old

/-- ATTEND. -/
def attendBody (c : Cmd) (s : State) : State :=
  let l := Desc.num c.desc 18 2
  match s.step? c.ctx (Desc.num c.desc 16 2) with
  | none => (s.bump .GORE_ATTN_CNT_COUNT 3 0 1).finish c.id .reservedNonzero 16
  | some t =>
    if l != t.kicked || l ≥ t.geo.layers then (s.bump .GORE_ATTN_CNT_COUNT 3 0 1).finish c.id .reservedNonzero 18
    else
      let s := s.bump .GORE_ATTN_CNT_COUNT 1 0 1
      (s.updStep t.id fun t => { t with attends := t.attends ++ [(l, c.id)] }).kick t l
def execAttend (k : Nat) (s : State) : Host.Outcome State Fault Refusal :=
  .next (s.begin k 0x31 anyForm anyCmd anyCmd attendBody)

/-- A refused register kick (R228). -/
def State.badKick (s : State) (ctx sid l reason : Nat) : State :=
  let s := (s.wr .HTI_W_BRSTS_STEP_ID ctx 0 sid).wr .HTI_W_BRSTS_LAYER ctx 0 l
  let s := (s.wr .HTI_W_BRSTS_REASON ctx 0 reason).wr .HTI_W_BRSTS_VALID ctx 0 1
  (s.bump .HTI_W_BRSTS_ERRORS ctx 0 1).bump .GORE_ATTN_CNT_COUNT 3 0 1

/-- HTI_W_BRKICK_WRITE. With several faults MBZ is reported first, then the STEP_ID (log 23). -/
def regKick (ctx value : Nat) (s : State) : State :=
  let sid := bitsOf value 15 0
  let l := bitsOf value 24 16
  if bitsOf value 31 25 != 0 then s.badKick ctx sid l 3
  else match s.step? ctx sid with
    | none => s.badKick ctx sid l 1
    | some t =>
      if l != t.kicked || l ≥ t.geo.layers then s.badKick ctx sid l 2
      else (s.bump .GORE_ATTN_CNT_COUNT 2 0 1).kick t l
def execHtiWBrkickWrite (port ctx value : Nat) (s : State) : Host.Outcome State Fault Refusal :=
  .next (if ctx < 64 then s.window port ctx 0x4000 (regKick ctx value) else s)

/-! ### Layers (R205 to R212, R221, R226, R229, R230) -/

/-- NaNs are written in their canonical form (R212). -/
def canonBf16 (x : Nat) : Nat := if bf16Exp x = 255 && x % 128 != 0 then 0x7FC0 else x
def canonF32 (x : Nat) : Nat := if bitsOf x 30 23 = 255 && x % 2 ^ 23 != 0 then 0x7FC00000 else x
def f32Finite (x : Nat) : Bool := bitsOf x 30 23 != 255

/-- What the outputs of an entry's layer depend on (R180): queries and new rows, then the stored tiles of the
layer's columns and the parameters. -/
def State.layerInputs (s : State) (t : Step) (e : SEntry) (l : Nat) : List Nat :=
  match s.sess e.handle with
  | none => []
  | some x =>
    let cols := colsRead (t.geo.wins.getD l 0) t.geo.sinks e.pos0 t.ntok
    [t.geo.scale, t.geo.softcap, t.geo.wins.getD l 0, t.geo.sinks, t.segTiles, e.pos0, t.ntok] ++
      (List.range t.geo.hkv).flatMap fun g => cols.map fun c =>
        match Map.find x.tiles (tileKey t.geo c l g) with | some q => q.data | none => 0

/-- The K and V elements of position `j` of a session (R206): rows of the same step item as delivered, then the
stored tiles. -/
def posVals (x : Session) (t : Step) (e : SEntry) (l g : Nat) (given : List Nat) (j : Nat) : List HVal × List HVal :=
  if j < e.pos0 then
    tileVals t.geo ((Map.find x.tiles (tileKey t.geo (j / 128) l g)).getD (Tile.fresh t.geo)) (j % 128)
  else
    let row := given.getD (1 + g * t.ntok + (j - e.pos0)) 0
    let w := t.geo.rowBytes / 2
    let el := (unpackWords 2 w row).map HVal.raw
    (el.take t.geo.dk, el.drop t.geo.dk)

/-- The exact result of query token `k` and head `h` (R205), where its operands are finite and in range. -/
def attnResult (x : Session) (t : Step) (e : SEntry) (l : Nat) (given : List Nat) (k h : Nat) : Option AttnRes :=
  let g := if t.geo.latent then 0 else h / (t.geo.hq / t.geo.hkv)
  let q := (unpackWords 2 t.geo.dk (given.getD 0 0 / 2 ^ (16 * ((k * t.geo.hq + h) * t.geo.dk)))).map HVal.raw
  let js := (List.range (e.pos0 + k + 1)).filter (attends (t.geo.wins.getD l 0) t.geo.sinks (e.pos0 + k))
  let pos := js.map fun j =>
    let kv := posVals x t e l g given j
    match allInts kv.1, allInts (if t.geo.latent then kv.1.take t.geo.dv else kv.2) with
    | some a, some b => some (AttnPos.mk (j / 128 / t.segTiles) a b)
    | _, _ => none
  match allInts q with
  | some q => if pos.all Option.isSome then
      attnExact ⟨t.geo.scale, t.geo.softcap, t.segTiles⟩ t.geo.dv q (pos.filterMap id) else none
  | none => none

/-- What a value is to IEEE 754 arithmetic: 0 zero, 1 another number, 2 an infinity, 3 a NaN; and its sign. -/
def HVal.kind : HVal → Nat × Bool
  | .raw b => (if bf16Exp b = 255 then (if b % 128 = 0 then 2 else 3) else if bf16Mag (b % 32768) = 0 then 0 else 1, bf16Sign b)
  | .fix n m => (if m = 0 then 0 else 1, n)
/-- The kind of a sum of products of two rows of values: a NaN factor, an infinity by a zero, and infinities of both signs give NaN. -/
def dotKind (a b : List HVal) : Nat × Bool :=
  let ps := (a.zip b).map fun (p : HVal × HVal) =>
    let x := p.1.kind
    let y := p.2.kind
    (if x.1 = 3 ∨ y.1 = 3 ∨ (x.1 = 2 ∧ y.1 = 0) ∨ (x.1 = 0 ∧ y.1 = 2) then 3 else if x.1 = 2 ∨ y.1 = 2 then 2 else 1, x.2 != y.2)
  let infs := ps.filter fun p => p.1 = 2
  if ps.any (fun p => p.1 = 3) || (infs.any Prod.snd && infs.any fun p => !p.2) then (3, false)
  else match infs with
    | [] => (1, false)
    | p :: _ => p
/-- What IEEE 754 propagation fixes of a result with a non-finite operand (R212): whether every output is NaN, and for each element
whether it is NaN and whether it is not finite. A NaN score, without SOFTCAP a score of +∞ or none but −∞, makes m or z − m NaN. -/
def attnKinds (x : Session) (t : Step) (e : SEntry) (l : Nat) (given : List Nat) (k h : Nat) : Bool × List (Bool × Bool) :=
  let g := if t.geo.latent then 0 else h / (t.geo.hq / t.geo.hkv)
  let q := (unpackWords 2 t.geo.dk (given.getD 0 0 / 2 ^ (16 * ((k * t.geo.hq + h) * t.geo.dk)))).map HVal.raw
  let js := (List.range (e.pos0 + k + 1)).filter (attends (t.geo.wins.getD l 0) t.geo.sinks (e.pos0 + k))
  let kvs := js.map (posVals x t e l g given)
  let zs := kvs.map fun kv => dotKind q kv.1
  let all := zs.any (fun z => z.1 = 3) ||
    (f32Mag (t.geo.softcap % 2 ^ 31) = 0 && (zs.any (fun z => z.1 = 2 && !z.2) || zs.all fun z => z.1 = 2))
  (all, (List.range t.geo.dv).map fun c =>
    let vs := kvs.map fun kv => ((if t.geo.latent then kv.1 else kv.2).getD c (.raw 0)).kind.1
    (vs.any (· = 3), vs.any fun v => decide (2 ≤ v)))
/-- A BF16 output of a result with a non-finite operand, where its NaNs are canonical (R212). -/
def openBf16 (all : Bool) (v : Bool × Bool) (c : Nat) : Nat :=
  if all || v.1 then 0x7FC0
  else if v.2 && bf16Exp c != 255 then 0x7F80 + c / 32768 % 2 * 32768
  else canonBf16 c

/-- Outputs of an entry's layer: n × Hq × DV BF16 values and n × Hq FP32 log-sum-exps. Each is a free value within the
bound of R210 or R211; without one, what IEEE 754 propagation fixes, else a free encoding with its NaNs canonical (R212, log 9). -/
def State.layerOut (s : State) (t : Step) (e : SEntry) (l : Nat) (given : List Nat) : List Nat × List Nat :=
  let ins := s.layerInputs t e l
  let n := t.ntok * t.geo.hq
  let fo := unpackWords 2 (n * t.geo.dv) (Config.attnOut given ins)
  let fl := unpackWords 4 n (Config.attnLse given ins)
  match s.sess e.handle with
  | none => (fo.map canonBf16, fl.map canonF32)
  | some x =>
    let rs := (List.range n).map fun i => attnResult x t e l given (i / t.geo.hq) (i % t.geo.hq)
    (rs.zipIdx.flatMap fun (r : Option AttnRes × Nat) =>
      let cand := (fo.drop (r.2 * t.geo.dv)).take t.geo.dv
      match r.1 with
      | some a => List.zipWith (fun (p : Rat × Rat) c => pickBf16 p.1 p.2 c) a.out cand
      | none =>
        let ks := attnKinds x t e l given (r.2 / t.geo.hq) (r.2 % t.geo.hq)
        List.zipWith (openBf16 ks.1) ks.2 cand,
     List.zipWith (fun (r : Option AttnRes × Nat) c => match r.1 with
       | some a => pickF32 a.lse.1 a.lse.2 c
       | none => if (attnKinds x t e l given (r.2 / t.geo.hq) (r.2 % t.geo.hq)).1 then f32Nan else canonF32 c) rs.zipIdx fl)

/-- Results with a non-finite element (R212). -/
def nonFinite (dv : Nat) (o l : List Nat) : Nat :=
  (l.zipIdx.filter fun p =>
    !f32Finite p.1 || ((o.drop (p.2 * dv)).take dv).any fun x => !bf16Finite x).length

/-- What entry `i` finds in the input slot of layer `l` (R220, R221): its queries as one number, then its new rows by KV head and token. It is
read when the layer completes (log 28). -/
def State.slotInput (s : State) (t : Step) (l i : Nat) : List Nat :=
  let base := t.inOff + l % t.nslot * islotOf t.geo t.n
  let qb := t.ntok * t.geo.hq * t.geo.dk * 2
  s.bridleGet t.ctx (base + i * qb) qb ::
    (List.range t.geo.hkv).flatMap fun g => (List.range t.ntok).map fun k =>
      s.bridleGet t.ctx (base + qbOf t.geo t.n + ((i * t.ntok + k) * t.geo.hkv + g) * t.geo.rowBytes) t.geo.rowBytes

/-- One entry of a completing layer: its computed result, or its marker (R230). `given` is the queries, then the
new rows by KV head and token. -/
def State.layerEntry (s : State) (t : Step) (l i : Nat) (e : SEntry) (given : List Nat) : State :=
  let n := t.ntok * t.geo.hq
  if e.inStep then
    let r := s.layerOut t e l given
    let s := s.writeOut t l i r.1 r.2
    let s := (s.bump .GORE_ATTN_CNT_COUNT 6 0 n).bump .GORE_ATTN_CNT_COUNT 8 0 (nonFinite t.geo.dv r.1 r.2)
    s.updEntry t.id e.handle fun e => { e with
      layers := e.layers + 1
      rows := (List.range t.geo.hkv).foldl (fun m g =>
        Map.put m (l * t.geo.hkv + g) ((List.range t.ntok).map fun k => given.getD (1 + g * t.ntok + k) 0)) e.rows }
  else s.writeMarker t l i

/-- The layer is done for every entry still in the step. -/
def State.layerReady (s : State) (t : Step) (l : Nat) : Bool :=
  t.entries.all fun e => !e.inStep || (!e.waiting &&
    !s.gore.items.any fun i => entryItem t.id e.handle i && i.layer = l && i.kind != .seal)

/-- Complete the ATTENDs of a layer (R229). -/
def State.endAttends (s : State) (t : Step) (l : Nat) : State :=
  let ok := (t.entries.filter SEntry.inStep).length
  let left := (t.entries.filter fun e => e.leftAt = some l).length
  (t.attends.filter fun p => p.1 = l).foldl (fun s p => s.finish p.2 .ok 0 ok left) s

/-- LAYER_COMPLETE (R226, R229, R230). -/
def layerComplete (ctx sid : Nat) (s : State) : State :=
  match s.step? ctx sid with
  | none => s
  | some t =>
    let l := t.done
    if l < t.kicked && s.layerReady t l then
      let s := t.entries.zipIdx.foldl (fun s p => s.layerEntry t l p.2 p.1 (s.slotInput t l p.2)) s
      let s := s.writeFlag t (l + 1) false
      let s := if t.mute then s else s.bump .GORE_ATTN_CNT_COUNT 0 0 1
      let s := s.updStep t.id fun t => { t with done := l + 1, lastFlag := s.now }
      s.endAttends t l
    else s
def execLayerComplete (ctx stepId : Nat) (s : State) : Host.Outcome State Fault Refusal := .next (layerComplete ctx stepId s)

/-! ### Abandoned steps (R231, R232) -/

/-- Every step item not yet ended ends with RETRY_LATER, hint 1 ms. -/
def State.abandon (s : State) (t : Step) : State :=
  let old := s
  (t.entries.foldl (fun s e => s.leaveStep t.id e.handle .retryLater (hintMs 1)) s).winch old

/-- KICK_LIMIT_TIMEOUT (R231). -/
def kickLimit (ctx sid : Nat) (s : State) : State :=
  match s.step? ctx sid with
  | none => s
  | some t =>
    let late := decide (t.lastFlag + 100000 * s.rd .GORE_ATTN_CFG_KICK_LIMIT_MS ≤ s.now)
    let noKick := t.kicked ≤ t.done && t.done < t.geo.layers
    let noSample := t.sample && t.done = t.geo.layers && t.entries.any fun e => e.inStep && !e.sampleDone
    if late && (noKick || noSample) && t.entries.any SEntry.inStep then
      (s.bump .GORE_ATTN_CNT_COUNT 4 0 1).abandon t
    else s
def execKickLimitTimeout (dt ctx stepId : Nat) (s : State) : Host.Outcome State Fault Refusal :=
  .next (kickLimit ctx stepId (s.pass dt))

/-- STEP_OUTPUT_WRITE_FAIL (R232). -/
def stepOutFail (ctx sid : Nat) (s : State) : State :=
  match s.step? ctx sid with
  | none => s
  | some t => ((s.bump .GORE_ATTN_CNT_COUNT 11 0 1).emit (.aer (s.port ctx) 1)).abandon t
def execStepOutputWriteFail (ctx stepId : Nat) (s : State) : Host.Outcome State Fault Refusal :=
  .next (stepOutFail ctx stepId s)

/-! ### KV_APPEND (R234 to R238) -/

/-- The state's answer to a KV_APPEND that it does not let in (R235, R91). -/
def State.kvRefuse (s : State) (x : Session) (stream : Bool) : Option (Status × Nat) :=
  if (s.refusal x).isSome then s.refusal x
  else if x.st = .aloft || x.st = .rebuilding || (stream && x.st = .parked) then none
  else some (.retryLater, hintMs 1)

/-- A KV_APPEND waits for step items and KV_APPENDs before it (R238), for a revive (R63) and for a spool gathering. -/
def State.kvReady (s : State) (c : Cmd) : Bool :=
  let h := Desc.handle c.desc
  !s.sessBusy h && !s.itemBefore h c.id && (s.runningOp 0x13 h).isNone

/-- The rows of an APPEND source by head-layer and position (R234): of the bridle area with BRIDLE, else of the read at ADDR. -/
def State.kvSource (s : State) (c : Cmd) (g : Shape) (count : Nat) (rows : Option (List Nat)) : Option (Nat → Nat → Nat) :=
  if Desc.flag c.desc 10 then
    some fun hl p => s.bridleGet c.ctx (Desc.num c.desc 32 8 + (hl * count + p) * g.rowBytes) g.rowBytes
  else rows.map fun l hl p => l.getD (hl * count + p) 0

/-- APPEND after the intake steps. A source that cannot be read completes with RETRY_LATER, 1 ms (log 24). Of several faults that R234 and R235
name, LEN is reported first, then FIRST, then COUNT (log 182). The grades are those of the acceptance (R119). -/
def kvAppend (rows : Option (List Nat)) (c : Cmd) (s : State) : State :=
  let d := c.desc
  let h := Desc.handle d
  let first := Desc.num d 16 4
  let count := Desc.num d 20 4
  match s.sess h with
  | none => s.finish c.id .badHandle
  | some x =>
    match s.kvRefuse x false with
    | some r => s.finish c.id r.1 r.2
    | none =>
      let g := c.shape.getD (s.shape x.shape)
      let rb := x.st = .rebuilding
      if Desc.num d 40 8 < count * g.kvBytes then s.finish c.id .reservedNonzero 40
      else if first != (if rb then x.rbStart else x.kvLen) then s.finish c.id .reservedNonzero 16
      else if (if rb then first + count > x.rbEnd
          else first + count > x.spool.length || first + count > Config.maxTokens) then
        s.finish c.id .reservedNonzero 20
      else match s.kvSource c g count rows with
        | none => s.finish c.id .retryLater (hintMs 1)
        | some row =>
          let m : Map (List Nat) := (List.range g.headLayers).map fun hl => (hl, (List.range count).map fun p => row hl p)
          let old := s
          let run : KvRun := ⟨c.id, h, first, count, g, m, rb, false, 0, false⟩
          let s := { s with attn := { s.attn with kvRuns := s.attn.kvRuns ++ [run] } }
          let s := (List.range g.headLayers).foldl (fun s hl =>
            s.addItem (Item.new .append .assist c.ctx c.id h (hl / g.hkv) (hl % g.hkv) 0 .ready)) s
          s.winch old
def execKvAppendAppend (k : Nat) (rows : Option (List Nat)) (s : State) : Host.Outcome State Fault Refusal :=
  .next (s.begin k 0x32 (opOf 8 8 0) s.kvReady s.sessLive (kvAppend rows))

/-- The columns of a range, and the keys of a STREAM's tiles in its order (R237). -/
def streamCols (first count : Nat) : List Nat := (List.range ((first + count - 1) / 128 - first / 128 + 1)).map fun i => first / 128 + i
def streamKeys (g : Shape) (lf lc first count : Nat) : List Nat :=
  (List.range lc).flatMap fun l => (List.range g.hkv).flatMap fun hd => (streamCols first count).map fun col => tileKey g col (lf + l) hd

/-- One graded record: tag, stored bytes, padded to 64 (R237). The padding after the last record counts in the size too (log 183). -/
def gradedRecord (t : Tile) : Nat × Nat :=
  let t := if t.sealed then t else t.stamp
  (pad64 (16 + t.len), t.tag + t.data * 2 ^ 128)

/-- What a STREAM writes, as lengths and contents in order. -/
def streamRecords (x : Session) (g : Shape) (d : Desc) : List (Nat × Nat) :=
  let first := Desc.num d 16 4
  let count := Desc.num d 20 4
  let lf := Desc.num d 24 2
  let lc := Desc.num d 26 2
  let tile (k : Nat) : Tile := (Map.find x.tiles k).getD (Tile.fresh g)
  if Desc.flag d 9 then (streamKeys g lf lc first count).map fun k => gradedRecord (tile k)
  else (List.range lc).flatMap fun l => (List.range g.hkv).flatMap fun hd =>
    (List.range count).map fun p => (g.rowBytes, tileRow g (tile (tileKey g ((first + p) / 128) (lf + l) hd)) ((first + p) % 128))

/-- STREAM after the intake steps: UNSEAL items read and check the tiles of each head-layer (R186, R236). -/
def kvStream (c : Cmd) (s : State) : State :=
  let d := c.desc
  let h := Desc.handle d
  let first := Desc.num d 16 4
  let count := Desc.num d 20 4
  let lf := Desc.num d 24 2
  let lc := Desc.num d 26 2
  match s.sess h with
  | none => s.finish c.id .badHandle
  | some x =>
    match s.kvRefuse x true with
    | some r => s.finish c.id r.1 r.2
    | none =>
      let g := s.shape x.shape
      let pend := x.st = .rebuilding || x.rbPending
      if lf ≥ g.layers then s.finish c.id .reservedNonzero 24
      else if lf + lc > g.layers then s.finish c.id .reservedNonzero 26
      else if first + count > x.kvLen || (pend && first < x.rbEnd && x.rbStart < first + count) then
        s.finish c.id .reservedNonzero 16
      else
        let need := (streamRecords x g d).foldl (fun a r => a + r.1) 0
        if Desc.num d 40 8 < need then s.finish c.id .reservedNonzero 40 need 0
        else
          let old := s
          let run : KvRun := ⟨c.id, h, first, count, g, [], false, false, 0, true⟩
          let s := { s with attn := { s.attn with kvRuns := s.attn.kvRuns ++ [run] } }
          let s := (List.range lc).foldl (fun s l => (List.range g.hkv).foldl (fun s hd =>
            let ps := ((streamCols first count).flatMap fun col => x.tilePages g (tileKey g col (lf + l) hd)).eraseDups
            let i := { Item.new .unseal .assist c.ctx c.id h (lf + l) hd 0 .held with pages := ps }
            (s.addItem i).request i) s) s
          (s.turn (kvItem c.id h)).winch old
def execKvAppendStream (k : Nat) (s : State) : Host.Outcome State Fault Refusal :=
  .next (s.begin k 0x32 (opOf 8 8 1) s.kvReady s.sessLive kvStream)

/-! ### Bridle pages (R217 to R219) -/

/-- Set EFF_MIB from MIB and the port's window, with the reserve it takes. -/
def State.refreshBridle (s : State) (c : Nat) : State :=
  let e := s.effMib c (s.rd .GORE_BRIDLE_MIB c)
  let s := if e = s.rd .GORE_BRIDLE_EFF_MIB c then s else s.bridleZero c
  (s.rsvSwap (s.backed c) (e * 2 ^ 20)).wr .GORE_BRIDLE_EFF_MIB c 0 e

/-- GORE_BRIDLE_WRITE: dropped with a step of the context in flight, over the sum, or for want of reserve. A change zero-fills the area (R219). -/
def bridleWrite (ctx value : Nat) (s : State) : State :=
  let m := fieldOf .GORE_BRIDLE_MIB value
  let sum := (List.range 64).foldl (fun a c => a + if c = ctx then m else s.rd .GORE_BRIDLE_MIB c) 0
  let drop := s.bump .GORE_CNT_COUNT 13 0 1
  if s.stepsOf ctx != 0 || sum > 8192 then drop
  else if !s.rsvFits (s.backed ctx) (s.effMib ctx m * 2 ^ 20) then drop.rsvFull
  else ((if m = s.rd .GORE_BRIDLE_MIB ctx then s else s.bridleZero ctx).put .GORE_BRIDLE_MIB ctx 0 m).refreshBridle ctx
def execGoreBridleWrite (ctx value : Nat) (s : State) : Host.Outcome State Fault Refusal :=
  .next (if ctx < 64 then s.hostWrite .GORE fun s => s.lockWrite ctx (bridleWrite ctx value) else s)

/-- An access to the bridle window (R217, R218). The physical function reaches every area, a virtual function its own context's; a backed offset
reads and takes bytes, another one is counted, reads zero and drops a write. The table has no other row for this window (log 28). -/
def bar4Access (port : Nat) (vf : Option Nat) (offset len value : Nat) (isWrite : Bool) (s : State) : State :=
  let area := areaMib (s.b4 (port % 2)) * 2 ^ 20
  let c := if area = 0 then 64 else offset / area
  let mine := c < 64 && s.port c = port % 2 && (match vf with | some v => v = c | none => true)
  let run := mine && s.rd .SEC_CTX_TDI c = 3
  if area = 0 then s
  else if run && !(decide (2 ≤ port) && s.teeOn (port % 2)) then s.bump .SEC_CNT_COUNT 11 0 1
  else if mine && offset % area < s.backed c then
    if isWrite then s.bridlePut c (offset % area) len value else s.emit (.busRead (s.bridleGet c (offset % area) len))
  else
    let s := s.bump .GORE_ATTN_CNT_COUNT 10 0 1
    if isWrite then s else s.emit (.busRead 0)
def execBar4UnbackedAccess (port : Nat) (vf : Option Nat) (offset len value : Nat) (isWrite : Bool) (s : State) :
    Host.Outcome State Fault Refusal :=
  .next (bar4Access port vf offset len value isWrite s)

end Sys2Proof.Machine
end

