-- ==== Sys2Proof/Machine/Decoding.lean ====
section
/-! DEFINITION. Constrained sampling and streamed output (spec/09): STREAM_CONF, SAMPLE, the backlog, GRAMMAR_LOAD,
GRAMMAR_BIND, lane faults, the clear. -/

namespace Sys2Proof.Machine

/-! ### STREAM_CONF (R260 to R263) -/

/-- The configuration block as fields (R262); `b` is the block of 3,200 bytes. -/
def confOf (b : Nat) : StreamConf :=
  let f := tileField b
  ⟨f 0 1, bitAt (f 1 1) 0, bitAt (f 1 1) 1, bitAt (f 1 1) 2,
   (List.range (min (f 2 1) 16)).map fun k => (List.range (f (64 + k) 1)).map fun i => f (128 + 64 * k + i) 1,
   f 4 4, f 8 4, f 12 4, f 16 2, f 18 2, f 20 4, f 24 4, f 28 4,
   (List.range (min (f 32 2) 256)).map fun i => (f (1152 + 8 * i) 4, f (1156 + 8 * i) 4),
   f 36 4, f 40 8, f 48 8, f 56 1⟩

/-- Offsets at which a block that command `k` read fails R262 and R263; the first offending byte is the least of them. -/
def State.confFaults (s : State) (k b : Nat) : Faults :=
  let f := tileField b
  let zero (lo hi : Nat) : Faults := (List.range (hi + 1 - lo)).filterMap fun i => if f (lo + i) 1 = 0 then none else some (lo + i)
  let nonneg (x : Nat) : Bool := f32Finite x && !(f32Neg x && f32Mag (x % 2 ^ 31) != 0)
  let out := bitAt (f 1 1) 1
  let stops := f 2 1
  let biases := f 32 2
  let tokens := match s.imageFor (f 0 1) k with | some m => Img.tokens m | none => 0
  let bid (i : Nat) : Nat := f (1152 + 8 * i) 4
  must 0 (decide (f 0 1 < 32) && (s.imageFor (f 0 1) k).isSome) ++ must 1 (decide (f 1 1 < 8)) ++ must 2 (decide (stops ≤ 16)) ++
    zero 3 3 ++ must 4 (nonneg (f 4 4)) ++
    must 8 (!f32IsNan (f 8 4) && f32Lt 0 (f 8 4) && f32Le (f 8 4) 0x3F800000) ++
    must 12 (!f32IsNan (f 12 4) && f32Le 0 (f 12 4) && f32Lt (f 12 4) 0x3F800000) ++
    must 16 (decide (f 16 2 ≤ 1024)) ++ must 18 (decide (f 18 2 ≤ 4096)) ++
    must 20 (f32Finite (f 20 4) && f32Lt 0 (f 20 4)) ++ must 24 (f32Finite (f 24 4)) ++ must 28 (f32Finite (f 28 4)) ++
    must 32 (decide (biases ≤ 256)) ++ zero 34 35 ++ must 36 (decide (f 36 4 ≤ 1048576)) ++
    (if out then must 40 (f 40 8 % 64 = 0) ++ must 48 (f 48 8 % 4096 = 0) ++ must 56 (decide (12 ≤ f 56 1 ∧ f 56 1 ≤ 24))
     else zero 40 56) ++
    zero 57 63 ++
    ((List.range 16).flatMap fun k =>
      must (64 + k) (if k < stops then decide (1 ≤ f (64 + k) 1 ∧ f (64 + k) 1 ≤ 64) else f (64 + k) 1 = 0)) ++
    zero 80 127 ++
    ((List.range 16).flatMap fun k => zero (128 + 64 * k + f (64 + k) 1) (128 + 64 * k + 63)) ++
    ((List.range 256).flatMap fun i =>
      if i < biases then
        must (1152 + 8 * i) (decide (bid i < tokens) && (List.range i).all fun j => bid j != bid i) ++
          must (1156 + 8 * i) (f32Finite (f (1156 + 8 * i) 4) || f (1156 + 8 * i) 4 = f32MinusInf)
      else zero (1152 + 8 * i) (1159 + 8 * i))

/-- STREAM_CONF and GRAMMAR_BIND wait for a step item in flight (R261, R287). -/
def State.streamReady (s : State) (c : Cmd) : Bool :=
  s.lanesFree .DEC_LANES_EN .DEC_LANES_FENCED && !s.itemInFlight (Desc.handle c.desc)

/-- The session's answer to GRAMMAR_BIND, which only the owner serves (R84, R287, R360). -/
def State.ownerRefuse (s : State) (x : Session) : Option (Status × Nat) :=
  if x.st = .orphaned || x.st = .failed then some (.orphaned, x.orphanCause)
  else if !x.owner_ then some (.ownerConflict, x.ownerCause)
  else if s.fab.isolated then some (.retryLater, hintMs 10) else none

/-- Completion of a STREAM_CONF. -/
def State.finishConf (s : State) (c : Cmd) : State :=
  let h := Desc.handle c.desc
  let vis := match s.sess h with | some x => x.visible | none => 0
  let held := match s.stream h with | some x => x.held.length | none => 0
  s.finish c.id .ok 0 vis held s.streamsLive

/-- Run `body` with the stream's session served here; a block is read and checked where the form has one. -/
def streamOp (needBlock : Bool) (block : Option Nat) (okState : Option Stream → Bool) (c : Cmd) (s : State)
    (body : Option StreamConf → State → State) : State :=
  let h := Desc.handle c.desc
  match s.sess h with
  | none => s.finish c.id .badHandle
  | some x =>
    match s.refusal x with
    | some r => s.finish c.id r.1 r.2
    | none =>
      if !okState (s.stream h) then s.finish c.id .reservedNonzero 2
      else if !needBlock then (body none s).finishConf c
      else match block with
        | none => s.finish c.id .retryLater (hintMs 1)
        | some b =>
          match firstFault (s.confFaults c.id b) with
          | some off => s.finish c.id .reservedNonzero 16 0 off
          | none =>
            let other := match Map.find s.dec.tables (confOf b).table with | some t => t.owner != c.ctx | none => false
            if s.locked c.ctx && other then s.finish c.id .authFail 5
            else (body (some (confOf b)) s).finishConf c

def Stream.new (h : Nat) (c : StreamConf) : Stream := ⟨h, c, false, [], 0, 0, [], none, none, false, 0⟩

/-- Streams of a context, open or ended. -/
def State.streamsOf (s : State) (c : Nat) : Nat := (s.dec.streams.filter fun x => !x.freed && hCtx x.handle = c).length

/-- OPEN. -/
def streamOpen (block : Option Nat) (c : Cmd) (s : State) : State :=
  let h := Desc.handle c.desc
  if (s.stream h).isNone && (s.streamsLive ≥ 65536 || s.streamsOf c.ctx ≥ s.rd .DEC_CTX_MAX_STREAMS c.ctx) then
    match s.sess h with
    | some x => match s.refusal x with
      | some r => s.finish c.id r.1 r.2
      | none => s.finish c.id .retryLater (hintMs 1)
    | none => s.finish c.id .badHandle
  else streamOp true block Option.isNone c s fun conf s =>
    match conf with
    | some f => (s.setStreams (s.dec.streams ++ [Stream.new h f])).refreshStreams
    | none => s
def execStreamConfOpen (k : Nat) (block : Option Nat) (s : State) : Host.Outcome State Fault Refusal :=
  .next (s.begin k 0x23 (opOf 10 8 0) s.streamReady s.sessLive (streamOpen block)).sweepImages

/-- UPDATE. -/
def streamUpdate (block : Option Nat) (c : Cmd) (s : State) : State :=
  streamOp true block Option.isSome c s fun conf s =>
    match conf with
    | some f => (s.updStream (Desc.handle c.desc) fun x => { x with conf := f }).refreshStreams
    | none => s
def execStreamConfUpdate (k : Nat) (block : Option Nat) (s : State) : Host.Outcome State Fault Refusal :=
  .next (s.begin k 0x23 (opOf 10 8 1) s.streamReady s.sessLive (streamUpdate block)).sweepImages

/-- RESTART: reopens with an empty holdback, no count and no WordPiece history; from OPEN it ends the stream first and
drops the grammar, from ENDED it keeps the grammar. -/
def streamRestart (block read : Option Nat) (c : Cmd) (s : State) : State :=
  let h := Desc.handle c.desc
  streamOp (Desc.num c.desc 16 8 != 0) block Option.isSome c s fun conf s =>
    let wasOpen := match s.stream h with | some x => !x.ended | none => false
    let s := s.endOpen h 7 read
    (s.updStream h fun x => { x with
      conf := conf.getD x.conf, ended := false, held := [], draws := 0, lastPos := none
      gram := if wasOpen then none else x.gram }).refreshStreams
def execStreamConfRestart (k : Nat) (block read : Option Nat) (s : State) : Host.Outcome State Fault Refusal :=
  .next (s.begin k 0x23 (opOf 10 8 2) s.streamReady s.sessLive (streamRestart block read)).sweepImages

/-- CLOSE. -/
def streamClose (read : Option Nat) (c : Cmd) (s : State) : State :=
  let h := Desc.handle c.desc
  streamOp false none Option.isSome c s fun _ s => (s.endOpen h 6 read).freeStream h
def execStreamConfClose (k : Nat) (read : Option Nat) (s : State) : Host.Outcome State Fault Refusal :=
  .next (s.begin k 0x23 (opOf 10 8 3) s.streamReady s.sessLive (streamClose read)).sweepImages

/-! ### SAMPLE (R270 to R279) -/

/-- What an entry's RES record holds. -/
structure SampRes where
  token : Nat
  st : Status
  cause : Nat
  detail : Nat
  fin : Nat
  pos : Nat
def SampRes.refused (st : Status) (cause detail : Nat) : SampRes := ⟨0xFFFFFFFF, st, cause, detail, 0, 0xFFFFFFFF⟩
def SampRes.bytes (r : SampRes) : Nat :=
  packBytes [(0, r.token), (4, r.st.code), (6, r.cause % 65536), (8, r.detail), (9, r.fin), (12, r.pos)]

/-- A SAMPLE under way: entries drawn, refused, ended; handles seen; spool lengths whose acknowledgement is awaited. -/
structure SampRun where
  ok : Nat
  bad : Nat
  ended : Nat
  seen : List Nat
  waits : List (Nat × Nat)
def SampRun.empty : SampRun := ⟨0, 0, 0, [], []⟩

/-- The stream, its image and its grammar, with the checks of details 6 to 9 and the row (R277). -/
def State.sampleCheck (s : State) (d : Desc) (h : Nat) (expect : Option Nat) (row : List (Nat × Nat)) :
    Sum (Stream × Img × Option (Gram × Binding)) SampRes :=
  let fmt := bitsOf (Desc.flags d) 10 9
  match s.stream h, s.sess h with
  | some x, some y =>
    if x.ended then .inr (.refused .reservedNonzero 24 6)
    else match s.image x.conf.table with
      | none => .inr (.refused .reservedNonzero 24 7)
      | some m =>
        let g := match x.gram with
          | some b => (Map.find s.dec.grams b.slot).map fun g => (g.data, b)
          | none => none
        let gBad := match g with | some p => Gram.tokens p.1 != Img.tokens m || fmt = 3 | none => false
        if (fmt != 3 && Desc.num d 24 4 != Img.tokens m) || gBad then .inr (.refused .reservedNonzero 24 7)
        else if (match expect with | some n => y.spool.length != n | none => false) then .inr (.refused .reservedNonzero 19 8)
        else if y.spool.length ≥ Config.maxTokens then .inr (.refused .reservedNonzero 19 9)
        else if fmt = 3 && badTopk (Img.tokens m) row then .inr (.refused .reservedNonzero 22 10)
        else .inl (x, m, g)
  | _, _ => .inr (.refused .reservedNonzero 24 6)

/-- GRAMMAR_STUCK of an entry: counters and the fault record (R275). -/
def State.stuck (s : State) (c : Cmd) (h pos : Nat) (g : Option (Gram × Binding)) (noFinite mismatch : Bool) : State × Nat :=
  let depth := match g with | some p => p.2.stack.length | none => 0
  let cause := depth + b2n mismatch * 2 ^ 14 + b2n noFinite * 2 ^ 15
  let s := (s.bump .DEC_CNT_COUNT 5 0 1).bump .DEC_CNT_COUNT 6 0 (b2n noFinite)
  let s := s.bump .DEC_CNT_COUNT 7 0 (b2n mismatch)
  let st := match g with | some p => p.2.state | none => 0
  let slot := match g with | some p => p.2.slot | none => 0xFF
  (s.fault c.ctx 4 h (some .grammarStuck) cause (packBytes [(0, pos), (4, st), (8, depth), (10, slot)]), cause)

/-- Draw for one entry that passed the checks: the token and whether it is emitted under R275, or GRAMMAR_STUCK. -/
def State.drawEntry (s : State) (c : Cmd) (h : Nat) (x : Stream) (m : Img) (g : Option (Gram × Binding))
    (row : List (Nat × Nat)) : State × Sum (Nat × Bool) Nat :=
  match s.sess h with
  | none => (s, .inr 0)
  | some y =>
    let pos := y.spool.length
    let s := s.bump .DEC_CNT_COUNT 15 0 (b2n (row.any fun p => f32IsNan p.2))
    let adm := match g with | some p => some (Gram.admitted p.1 m (p.2.state, p.2.stack)) | none => none
    let s := match adm with
      | some a => ((s.bump .DEC_CNT_COUNT 3 0 1).bump .DEC_CNT_COUNT 4 0 a.2.1).bump .DEC_CNT_COUNT 16 0 a.2.2.stack
      | none => s
    let s := match adm with | some a => s.bump .DEC_CNT_COUNT 17 0 a.2.2.limit | none => s
    let endOk := match g with
      | some p => decide (Img.endTok m < Img.tokens m) && Gram.accepting p.1 p.2.state p.2.stack
      | none => false
    let mask := match adm with | some a => some (a.1, endOk) | none => none
    let window := y.spool.drop (pos - x.conf.penWindow) |>.map SpoolEntry.token
    match sampleRow x.conf (Img.endTok m) mask window (philox (y.seedAt pos) pos) row with
    | .gramEnd t => (s, .inl (t, true))
    | .stuck => let r := s.stuck c h pos g false false; (r.1, .inr r.2)
    | .noFinite => let r := s.stuck c h pos g true false; (r.1, .inr r.2)
    | .token t greedy =>
      let w := match g with
        | some p => if t = Img.endTok m then none else some (Gram.walk p.1 (Img.str m t) (p.2.state, p.2.stack) GCnt.zero)
        | none => none
      let s := match w with
        | some r => (s.bump .DEC_CNT_COUNT 16 0 r.2.stack).bump .DEC_CNT_COUNT 17 0 r.2.limit
        | none => s
      let bad := match w with | some r => r.1.isNone | none => false
      if bad then let r := s.stuck c h pos g false true; (r.1, .inr r.2)
      else ((s.bump .DEC_CNT_COUNT 1 0 1).bump .DEC_CNT_COUNT 2 0 (b2n greedy), .inl (t, false))

/-- Write TOK and RES of entry `r` and count it (R278). -/
def State.sampleOut (s : State) (c : Cmd) (r : Nat) (v : SampRes) (a : SampRun) : State × SampRun :=
  let d := c.desc
  let s := s.putAt (Desc.flag d 12) c.ctx (Desc.num d 48 8 + 4 * r) 4 v.token
  let s := s.emit (.write c.ctx (Desc.num d 56 8 + 16 * r) 16 v.bytes)
  (s, { a with
    ok := a.ok + b2n (v.token != 0xFFFFFFFF), bad := a.bad + b2n (v.token = 0xFFFFFFFF)
    ended := a.ended + b2n (v.fin != 0) })

/-- The reason with which the stream of a session ended, or 0. -/
def endReason (m : Img) (x : Stream) (t : Nat) (gramEnd : Bool) : Nat :=
  match (detok m x t gramEnd).fin with | some f => f.1 | none => 0

/-- LIST: checks 1 to 3 of R277. A draw that SESS_CANCEL reached ends before them (R279). -/
def State.listRefuse (s : State) (ctx h : Nat) (seen : List Nat) : Option SampRes :=
  if !s.liveSess ctx h || seen.contains h then some (.refused .badHandle 0 1)
  else match s.sess h with
    | none => some (.refused .badHandle 0 1)
    | some x =>
      if !x.owner_ then some (.refused .ownerConflict x.ownerCause 2)
      else if x.st = .orphaned || x.st = .failed then some (.refused .orphaned x.orphanCause 3)
      else if x.st = .shipping then some (.refused .busyTether x.busyCause 3)
      else if s.fab.isolated then some (.refused .retryLater (hintMs 10) 2)
      else if x.st != .aloft then some (.refused .retryLater (hintMs 1) 3) else none

/-- One LIST entry: drawn and appended at once. -/
def sampleList (c : Cmd) (h : Nat) (row : List (Nat × Nat)) (read : Option Nat) (r : Nat) (p : State × SampRun) :
    State × SampRun :=
  let s := p.1.bump .DEC_CNT_COUNT 0 0 1
  let a := { p.2 with seen := h :: p.2.seen }
  if c.cancels.contains h then s.sampleOut c r (.refused .cancelled 2 0) a
  else match s.listRefuse c.ctx h p.2.seen with
  | some v => s.sampleOut c r v a
  | none =>
    match s.sampleCheck c.desc h none row with
    | .inr v => s.sampleOut c r v a
    | .inl (x, m, g) =>
      match s.drawEntry c h x m g row with
      | (s, .inr cause) => s.sampleOut c r (.refused .grammarStuck cause 0) a
      | (s, .inl (t, ge)) =>
        match s.sess h with
        | none => (s, a)
        | some y =>
          let s := s.appendSampled h t ge read
          let fin := match s.stream h with | some z => if z.ended then z.why else 0 | none => 0
          let a := if y.waitsAck (s.otherHolder y) then { a with waits := a.waits ++ [(h, y.spool.length + 1)] } else a
          s.sampleOut c r ⟨t, .ok, 0, 0, fin, y.spool.length⟩ a

/-- One STEP entry: the drawn token waits for the end of the step item. -/
def sampleStep (c : Cmd) (n i : Nat) (row : List (Nat × Nat)) (r : Nat) (p : State × SampRun) : State × SampRun :=
  let s := p.1.bump .DEC_CNT_COUNT 0 0 1
  let a := p.2
  match s.stepById n with
  | none => (s, a)
  | some t =>
    match t.entries[i]? with
    | none => (s, a)
    | some e =>
      if !e.admitted || e.leftAt.isSome then s.sampleOut c r (.refused e.status e.cause 4) a
      else if e.sampleDone || e.gone then s.sampleOut c r (.refused .reservedNonzero 18 5) a
      else if e.cancel then
        (s.updEntry n e.handle fun e => { e with sampleDone := true }).sampleOut c r (.refused .cancelled 2 0) a
      else match s.sampleCheck c.desc e.handle (some (e.pos0 + t.ntok)) row with
        | .inr v => s.sampleOut c r v a
        | .inl (x, m, g) =>
          match s.drawEntry c e.handle x m g row with
          | (s, .inr cause) =>
            (s.leaveStep n e.handle .grammarStuck cause).sampleOut c r (.refused .grammarStuck cause 0) a
          | (s, .inl (tok, ge)) =>
            let s := s.updEntry n e.handle fun e => { e with sampled := some (tok, ge), sampleDone := true }
            let pos := match s.sess e.handle with | some y => y.spool.length | none => 0
            s.sampleOut c r ⟨tok, .ok, 0, 0, endReason m x tok ge, pos⟩ a

/-- Bytes of a row (R270). -/
def rowBytes (d : Desc) : Nat :=
  match bitsOf (Desc.flags d) 10 9 with
  | 2 => 4 * Desc.num d 24 4
  | 3 => 8 * Desc.num d 22 2
  | _ => 2 * Desc.num d 24 4

/-- SAMPLE ends: at once, or when the appends of its LIST entries are acknowledged (R278). -/
def State.endSample (s : State) (c : Cmd) (a : SampRun) : State :=
  let st : Status := if a.bad = 0 then .ok else .partialDone
  if a.waits.isEmpty then s.finish c.id st 0 a.ok a.bad a.ended
  else
    let cpl : Cpl := ⟨c.id, Desc.tag c.desc, st, 0, a.ok, a.bad, a.ended, Desc.quiet c.desc⟩
    { s with ses := { s.ses with acks := s.ses.acks ++ a.waits.map fun (w : Nat × Nat) => AckWait.part w.1 w.2 cpl s.now } }

/-- Elements of a row of the bridle area (R270): logits, or ID and logit in turn. -/
def State.bridleRow (s : State) (c : Cmd) (r : Nat) : List Nat :=
  let d := c.desc
  let w := if bitsOf (Desc.flags d) 10 9 < 2 then 2 else 4
  unpackWords w (rowBytes d / w) (s.bridleGet c.ctx (Desc.num d 32 8 + r * Desc.num d 28 4) (rowBytes d))
/-- SAMPLE (R276). -/
def sampleBody (list : Option (List Nat)) (rows : List (List Nat)) (reads : List (Option Nat)) (c : Cmd) (s : State) : State :=
  let d := c.desc
  let count := Desc.num d 20 2
  let first := Desc.num d 18 2
  let stride := Desc.num d 28 4
  let fmt := bitsOf (Desc.flags d) 10 9
  let s0 := s
  let row (r : Nat) : List (Nat × Nat) := rowOf fmt (if Desc.flag d 11 then s0.bridleRow c r else rows.getD r [])
  let backed := s.backed c.ctx
  let bridle (s : State) (k : State → State) : State :=
    if Desc.flag d 11 && Desc.num d 32 8 + (count - 1) * stride + rowBytes d > backed then s.finish c.id .reservedNonzero 32
    else if Desc.flag d 12 && Desc.num d 48 8 + 4 * count > backed then s.finish c.id .reservedNonzero 48
    else k s
  if Desc.flag d 8 then
    bridle s fun s =>
      match list with
      | none => s.finish c.id .retryLater (hintMs 1)
      | some l =>
        let p := (List.range count).foldl (fun p r => sampleList c (l.getD r 0) (row r) (reads.getD r none) r p)
          (s, SampRun.empty)
        p.1.endSample c p.2
  else
    match s.step? c.ctx (Desc.num d 16 2) with
    | none => s.finish c.id .reservedNonzero 16
    | some t =>
      if !t.sample then s.finish c.id .reservedNonzero 16
      else if first + count > t.entries.length then s.finish c.id .reservedNonzero 18
      else bridle s fun s =>
        let p := (List.range count).foldl (fun p r => sampleStep c t.id (first + r) (row r) r p) (s, SampRun.empty)
        p.1.endSample c p.2
/-- SAMPLE starts once the step's last layer is flagged; in LIST mode once no entry's session has a step item or a
KV_APPEND in flight (R276, R277). -/
def State.sampleReady (s : State) (list : Option (List Nat)) (c : Cmd) : Bool :=
  s.lanesFree .DEC_LANES_EN .DEC_LANES_FENCED &&
    (if Desc.flag c.desc 8 then (list.getD []).all fun h => !s.itemInFlight h && !s.kvInFlight h && s.spoolHere h
     else match s.step? c.ctx (Desc.num c.desc 16 2) with
       | some t => !t.sample || (t.done = t.geo.layers &&
           ((t.entries.drop (Desc.num c.desc 18 2)).take (Desc.num c.desc 20 2)).all fun e => e.gone || s.spoolHere e.handle)
       | none => true)
def execSample (k : Nat) (list : Option (List Nat)) (rows : List (List Nat)) (reads : List (Option Nat)) (s : State) :
    Host.Outcome State Fault Refusal :=
  .next (s.begin k 0x33 anyForm (s.sampleReady list) anyCmd (sampleBody list rows reads))

/-- OUTPUT_RING_BACKLOG_POLL (R265): READ is read again and backlogged records are written in order. -/
def backlogPoll (h : Nat) (read : Option Nat) (s : State) : State :=
  match s.dec.streams.find? fun x => x.handle = h && !x.backlog.isEmpty with
  | none => s
  | some x =>
    if !s.on .CTL_READY_DEC then s
    else
      let a := s.ringDrain x read (2 * x.backlog.length + 2)
      let n := s.dec.streams.findIdx fun y => y.handle = h && !y.backlog.isEmpty
      let l := if a.2.freed && a.2.backlog.isEmpty then s.dec.streams.eraseIdx n else s.dec.streams.set n a.2
      (a.1.setStreams l).refreshStreams
def execOutputRingBacklogPoll (dt handle : Nat) (read : Option Nat) (s : State) : Host.Outcome State Fault Refusal :=
  .next (backlogPoll handle read (s.pass dt))

/-! ### Grammars (R284 to R287) -/

def State.setGram (s : State) (n : Nat) (g : Option GramSlot) : State :=
  { s with dec := { s.dec with grams := match g with
    | some x => Map.put s.dec.grams n x
    | none => Map.del s.dec.grams n } }
/-- Show a slot in DEC_GRAM_A and B. -/
def State.showGram (s : State) (n : Nat) : State :=
  let v (f : GramSlot → Nat) : Nat := match Map.find s.dec.grams n with | some g => f g | none => 0
  let s := (s.wr .DEC_GRAM_A_LOADED n 0 (v fun _ => 1)).wr .DEC_GRAM_A_OWNER n 0 (v GramSlot.owner)
  let s := (s.wr .DEC_GRAM_A_TOKENS n 0 (v fun g => Gram.tokens g.data)).wr .DEC_GRAM_A_STATES n 0 (v fun g => Gram.states g.data)
  let s := (s.wr .DEC_GRAM_B_BYTES n 0 (v GramSlot.bytes)).wr .DEC_GRAM_B_USERS n 0 0
  s.refreshStreams
def State.gramUsers (s : State) (n : Nat) : Nat :=
  (s.dec.streams.filter fun x => !x.freed && (match x.gram with | some b => b.slot = n | none => false)).length
def State.gramBytes (s : State) : Nat := s.dec.grams.foldl (fun a (p : Nat × GramSlot) => a + p.2.bytes) 0

/-- GRAMMAR_LOAD LOAD. -/
def gramLoad (src : SrcRead) (c : Cmd) (s : State) : State :=
  let d := c.desc
  let n := Desc.num d 8 8 % 64
  let len := Desc.num d 32 4
  let old := Map.find s.dec.grams n
  let oldBytes := match old with | some g => g.bytes | none => 0
  if (match old with | some g => s.foreign c g.owner | none => false) then s.finish c.id .authFail 3
  else if s.gramUsers n != 0 then s.finish c.id .reservedNonzero 8 0 0 (s.gramUsers n)
  else match s.readImage c.ctx (Desc.flag d 9) (Desc.num d 16 8) (Desc.num d 24 8) len src with
    | .inr r => s.finish c.id r.1 r.2
    | .inl g =>
      let bytes := Config.imageBytes 1 len
      let tokens := (s.imageFor (Desc.byte d 36) c.id).map Img.tokens
      match Gram.check g len tokens (decide (s.gramBytes - oldBytes + bytes ≤ s.rd .DEC_CFG_GRAM_MIB * 2 ^ 20)) with
      | some e => (s.bump .DEC_CNT_COUNT 18 0 1).finish c.id .reservedNonzero 32 0 e
      | none =>
        if !s.rsvFits oldBytes bytes then s.rsvFull.finish c.id .retryLater (hintMs 1)
        else (((s.rsvSwap oldBytes bytes).setGram n (some ⟨c.ctx, Desc.byte d 36, g, bytes⟩)).showGram n).finish c.id .ok 0 bytes
def execGrammarLoadLoad (k : Nat) (src : SrcRead) (s : State) : Host.Outcome State Fault Refusal :=
  .next (s.begin k 0x34 (opOf 8 8 0) anyCmd anyCmd (gramLoad src)).sweepImages

/-- GRAMMAR_LOAD REMOVE. -/
def gramRemove (c : Cmd) (s : State) : State :=
  let n := Desc.num c.desc 8 8 % 64
  match Map.find s.dec.grams n with
  | none => s.finish c.id .badHandle
  | some g =>
    if s.foreign c g.owner then s.finish c.id .authFail 3
    else if s.gramUsers n != 0 then s.finish c.id .reservedNonzero 8 0 0 (s.gramUsers n)
    else (((s.rsvSwap g.bytes 0).setGram n none).showGram n).finish c.id .ok
def execGrammarLoadRemove (k : Nat) (s : State) : Host.Outcome State Fault Refusal :=
  .next (s.begin k 0x34 (opOf 8 8 1) anyCmd anyCmd gramRemove)

/-- RESULT0 of GRAMMAR_BIND. -/
def confWord (g : Gram) (c : GConf) : Nat := c.1 % 2 ^ 20 + c.2.length % 2 ^ 9 * 2 ^ 20 + b2n (Gram.accepting g c.1 c.2) * 2 ^ 29
/-- Replay of spool tokens (R287): the configuration, tokens replayed, or the position of the rejected one. -/
def replay (g : Gram) (m : Img) : Nat → List Nat → GConf → GCnt → Nat → Sum (GConf × Nat) (GConf × Nat) × GCnt
  | _, [], c, n, done => (.inl (c, done), n)
  | pos, t :: rest, c, n, done =>
    if Img.control m t then replay g m (pos + 1) rest c n done
    else match Gram.walk g (Img.str m t) c n with
      | (some c2, n) => replay g m (pos + 1) rest c2 n (done + 1)
      | (none, n) => (.inr (c, pos), n)

/-- GRAMMAR_BIND BIND. -/
def gramBind (c : Cmd) (s : State) : State :=
  let d := c.desc
  let h := Desc.handle d
  let from_ := Desc.num d 20 4
  match s.sess h with
  | none => s.finish c.id .badHandle
  | some y =>
    match s.ownerRefuse y with
    | some r => s.finish c.id r.1 r.2
    | none =>
      match s.stream h with
      | none => s.finish c.id .reservedNonzero 2
      | some x =>
        match Map.find s.dec.grams (Desc.byte d 16), s.imageFor x.conf.table c.id with
        | some g, some m =>
          if Gram.tokens g.data != Img.tokens m then s.finish c.id .reservedNonzero 16
          else if from_ > y.spool.length then s.finish c.id .reservedNonzero 20
          else
            let r := replay g.data m from_ ((y.spool.drop from_).map SpoolEntry.token) (Gram.start g.data, []) GCnt.zero 0
            let s := (s.bump .DEC_CNT_COUNT 16 0 r.2.stack).bump .DEC_CNT_COUNT 17 0 r.2.limit
            match r.1 with
            | .inl (f, n) =>
              let s := s.updStream h fun x => { x with gram := some ⟨Desc.byte d 16, f.1, f.2⟩ }
              s.refreshStreams.finish c.id .ok 0 (confWord g.data f) n
            | .inr (f, pos) =>
              let k := s.stuck c h pos (some (g.data, ⟨Desc.byte d 16, f.1, f.2⟩)) false false
              k.1.finish c.id .grammarStuck k.2 (confWord g.data f) pos
        | _, _ => s.finish c.id .reservedNonzero 16
def State.bindReady (s : State) (c : Cmd) : Bool := s.streamReady c && s.spoolHere (Desc.handle c.desc)
def execGrammarBindBind (k : Nat) (s : State) : Host.Outcome State Fault Refusal :=
  .next (s.begin k 0x35 (opOf 8 8 0) s.bindReady s.sessLive gramBind).sweepImages

/-- GRAMMAR_BIND UNBIND. RESULT0 shows no configuration. -/
def gramUnbind (c : Cmd) (s : State) : State :=
  let h := Desc.handle c.desc
  match s.sess h with
  | none => s.finish c.id .badHandle
  | some y =>
    match s.ownerRefuse y with
    | some r => s.finish c.id r.1 r.2
    | none =>
      if (s.stream h).isNone then s.finish c.id .reservedNonzero 2
      else ((s.updStream h fun x => { x with gram := none }).refreshStreams).finish c.id .ok
def execGrammarBindUnbind (k : Nat) (s : State) : Host.Outcome State Fault Refusal :=
  .next (s.begin k 0x35 (opOf 8 8 1) s.streamReady s.sessLive gramUnbind)

/-- MASK_LANE_FAULT (R288): the lane is fenced; the entry is rerun on another with the same result (R274). -/
def execMaskLaneFault (lane ctx handle : Nat) (s : State) : Host.Outcome State Fault Refusal :=
  .next (if lane < 32 then (s.bump .DEC_CNT_COUNT 19 0 1).fenceLane .DEC_LANES_FENCED 32 1 lane ctx handle else s)

/-- DEC_CNT_CLR (R29). -/
def execDecCntClr (value : Nat) (s : State) : Host.Outcome State Fault Refusal :=
  .next (s.hostWrite .DEC fun s => if bitAt value 0 then s.zeroAll .DEC_CNT_COUNT else s)

end Sys2Proof.Machine
end

