-- ==== Sys2Proof/Machine/Cells.lean ====
section
/-! DEFINITION. The MAC cells of a gore (spec/06 R178, R179): operand formats, modes, and exact products summed into an FP32 accumulator. -/

namespace Sys2Proof.Machine

/-- Operand formats (R178). -/
inductive CellFmt where
  | bf16 | e4m3 | e5m2 | int8 | int4
  deriving DecidableEq, Repr
/-- Modes of the cells, and no other. -/
inductive CellMode where
  | fp8 | bf16x8 | bf16 | int4
  deriving DecidableEq, Repr
/-- The operand formats that a mode takes. -/
def CellMode.takes : CellMode → CellFmt → CellFmt → Bool
  | .fp8, a, b => (a = .e4m3 || a = .e5m2) && (b = .e4m3 || b = .e5m2)
  | .bf16x8, a, b => a = .bf16 && (b = .e4m3 || b = .int8)
  | .bf16, a, b => a = .bf16 && b = .bf16
  | .int4, a, b => a = .int4 && b = .bf16
/-- MACs per cycle of a mode. -/
def CellMode.rate : CellMode → Nat
  | .bf16 => 128
  | _ => 256

/-- Two's complement of `w` bits as FP32. -/
def f32OfInt (w x : Nat) : Nat :=
  let v := x % 2 ^ w
  if v < 2 ^ (w - 1) then f32Signed false (v * 2 ^ 149) 1 else f32Signed true ((2 ^ w - v) * 2 ^ 149) 1
/-- E5M2 in units of 2^-16, without its sign. -/
def e5m2Mag (k : Nat) : Nat :=
  let e := k / 4 % 32
  let m := k % 4
  if e = 0 then m else (4 + m) * 2 ^ (e - 1)
/-- An operand as FP32, which holds every value of every format. -/
def CellFmt.f32 : CellFmt → Nat → Nat
  | .bf16, x => f32OfBf16 x
  | .e4m3, x => if x % 128 = 127 then f32Nan else f32Signed (bitAt x 7) (e4m3Mag (x % 128) * 2 ^ 140) 1
  | .e5m2, x =>
    if x / 4 % 32 = 31 then (if x % 4 = 0 then 0x7F800000 + (if bitAt x 7 then 2 ^ 31 else 0) else f32Nan)
    else f32Signed (bitAt x 7) (e5m2Mag (x % 128) * 2 ^ 133) 1
  | .int8, x => f32OfInt 8 x
  | .int4, x => f32OfInt 4 x

/-- One cycle of a cell column (R179): the exact sum of its products, added to the accumulator with one rounding. A NaN operand, an
infinity by a zero, and infinities of both signs give NaN. -/
def cellCycle (acc : Nat) (ps : List (Nat × Nat)) : Nat :=
  let zero (x : Nat) : Bool := x % 2 ^ 31 = 0
  let bad (p : Nat × Nat) : Bool :=
    f32IsNan p.1 || f32IsNan p.2 || (f32IsInf p.1 && zero p.2) || (f32IsInf p.2 && zero p.1)
  let neg (p : Nat × Nat) : Bool := f32Neg p.1 != f32Neg p.2
  let infs := ((ps.filter fun p => f32IsInf p.1 || f32IsInf p.2).map neg) ++ (if f32IsInf acc then [f32Neg acc] else [])
  if f32IsNan acc || ps.any bad || (infs.contains true && infs.contains false) then f32Nan
  else match infs with
    | n :: _ => 0x7F800000 + (if n then 2 ^ 31 else 0)
    | [] =>
      let sum := ps.foldl (fun a p => a + f32Int p.1 * f32Int p.2) (f32Int acc * 2 ^ 149)
      f32Signed (if sum = 0 then f32Neg acc && ps.all neg else decide (sum < 0)) sum.natAbs (2 ^ 149)

/-- The order of `n` cycles, which no rule gives for a helper layer: a free permutation (log 54). -/
def cellOrder (n : Nat) : List Nat :=
  let o := Config.cycleOrder n
  if sortBy (fun a b => decide (a ≤ b)) o = List.range n then o else List.range n
/-- The products of cycle `i`: 16 consecutive reduction elements. -/
def cellSlice (l : List (Nat × Nat)) (i : Nat) : List (Nat × Nat) := (l.drop (16 * i)).take 16
/-- A reduction of pairs of operands. -/
def cellSum (l : List (Nat × Nat)) : Nat :=
  (cellOrder ((l.length + 15) / 16)).foldl (fun acc i => cellCycle acc (cellSlice l i)) 0
/-- A reduction in INT4 × BF16-group mode: each group's partial sum starts at zero and is scaled once (R179). -/
def cellSumInt4 (l : List (Nat × Nat)) (scale : Nat → Nat) : Nat :=
  (cellOrder ((l.length + 31) / 32)).foldl (fun acc g =>
    f32Add acc (f32Mul ((cellOrder 2).foldl (fun p j => cellCycle p (cellSlice l (2 * g + j))) 0) (scale g))) 0

end Sys2Proof.Machine
end

