-- ==== Sys2Proof/Machine/Helper.lean ====
section
/-! DEFINITION. Helper images (spec/10 R313 to R315): header, tensor directory, checks. -/

namespace Sys2Proof.Machine

def helperCrc (m size : Nat) : Nat := crc32c (size - 4) (m % 2 ^ 2016 + m / 2 ^ 2048 * 2 ^ 2016)
def hTdir (m : Img) : Nat := Img.u32 m 52
def hTensors (m : Img) : Nat := Img.u32 m 48
def hDir (m : Img) (i off n : Nat) : Nat := tileField m (hTdir m + 32 * i + off) n
def hWidth (m : Img) : Nat := Img.u16 m 10
def hOutDim (m : Img) : Nat := if Img.u16 m 24 = 0 then hWidth m else Img.u16 m 24

/-- Bytes that FMT implies for a tensor (R314). -/
def tensorBytes (fmt rows cols : Nat) : Nat :=
  match fmt with
  | 0 => 2 * rows * cols
  | 1 => rows * cols + 2 * rows
  | 2 => rows * cols + 2 * rows
  | _ => (rows * cols + 1) / 2 + 2 * rows * (cols / 32)

/-- Shape that R314 gives a kind, or none for an unknown kind. -/
def tensorShape (m : Img) (kind : Nat) : Option (Nat × Nat) :=
  let w := hWidth m
  let f := Img.u16 m 14
  match kind with
  | 1 => some (Img.u32 m 16, w) | 2 => some (Img.u16 m 20, w) | 3 => some (1, w) | 4 => some (1, w)
  | 10 => some (w, w) | 11 => some (w, w) | 12 => some (w, w) | 13 => some (w, w)
  | 14 => some (1, w) | 15 => some (1, w) | 16 => some (1, w) | 17 => some (1, w)
  | 18 => some (1, w) | 19 => some (1, w) | 20 => some (f, w) | 21 => some (f, w) | 22 => some (w, f)
  | 23 => some (1, f) | 24 => some (1, w) | 25 => some (1, w) | 26 => some (1, w) | 30 => some (1, w) | 31 => some (1, w)
  | 32 => some (Img.u16 m 24, w) | 33 => some (1, Img.u16 m 24)
  | _ => none
/-- 2 required, 1 optional, 0 not to be present (R314). -/
def tensorNeed (m : Img) (kind : Nat) : Nat :=
  let ln := Img.u8 m 5 = 0
  match kind with
  | 1 => 2 | 2 => if Img.u8 m 22 = 0 then 2 else 0
  | 10 => 2 | 11 => 2 | 12 => 2 | 13 => 2 | 18 => 2 | 20 => 2 | 22 => 2 | 25 => 2
  | 19 => if ln then 2 else 0 | 26 => if ln then 2 else 0
  | 21 => if Img.u8 m 7 = 2 then 2 else 0
  | 32 => if Img.u16 m 24 != 0 then 2 else 0 | 33 => if Img.u16 m 24 != 0 then 1 else 0
  | _ => 1
def layerKind (kind : Nat) : Bool := decide (10 ≤ kind ∧ kind ≤ 26)
def allKinds : List Nat := [1, 2, 3, 4] ++ (List.range 17).map (· + 10) ++ [30, 31, 32, 33]
def helperCount (m : Img) (kind layer : Nat) : Nat :=
  ((List.range (hTensors m)).filter fun i => hDir m i 0 2 = kind && hDir m i 2 2 = layer).length
def isGain (kind : Nat) : Bool :=
  [3, 4, 14, 15, 16, 17, 18, 19, 23, 24, 25, 26, 30, 31, 33].contains kind

def helperHead (m : Img) : Bool :=
  Img.u32 m 0 = 0x4C424C48 && Img.u8 m 4 = 1 && decide (Img.u8 m 5 ≤ 1) && decide (Img.u8 m 6 ≤ 1) && decide (Img.u8 m 7 ≤ 2) &&
    decide (Img.u8 m 22 ≤ 1) && decide (Img.u8 m 23 ≤ 2) && decide (Img.u8 m 26 ≤ 1) && Img.u8 m 27 = 0 && zeroBytes m 56 251 &&
    (List.range (min (hTensors m) 1024)).all fun i => hDir m i 5 3 = 0
def posFinite (x : Nat) : Bool := decide (0 < x ∧ x < 0x7F800000)
def helperRange (m : Img) (len : Nat) : Bool :=
  let w := hWidth m
  let h := Img.u16 m 12
  let od := Img.u16 m 24
  let f := Img.u16 m 14
  let sum := (List.range (hTensors m)).foldl (fun a i => a + hDir m i 8 4 * hDir m i 12 4) 0
  decide (1 ≤ Img.u16 m 8 ∧ Img.u16 m 8 ≤ 32) && decide (64 ≤ w ∧ w ≤ 2048 ∧ w % 64 = 0) &&
    decide (0 < h ∧ w % h = 0 ∧ 32 ≤ w / h ∧ w / h ≤ 128 ∧ w / h % 16 = 0) && decide (64 ≤ f ∧ f ≤ 8192 ∧ f % 64 = 0) &&
    decide (1 ≤ Img.u32 m 16 ∧ Img.u32 m 16 ≤ 524288) && decide (1 ≤ Img.u16 m 20 ∧ Img.u16 m 20 ≤ 8192) &&
    (od = 0 || decide (16 ≤ od ∧ od ≤ 2048)) && (if Img.u8 m 22 = 1 then posFinite (Img.u32 m 28) else Img.u32 m 28 = 0) &&
    posFinite (Img.u32 m 32) && decide (1 ≤ Img.u32 m 36 ∧ Img.u32 m 36 ≤ 1000000000) && Img.u32 m 36 = sum &&
    tileField m 40 8 = len && decide (256 ≤ len ∧ len ≤ 2 ^ 32) && decide (1 ≤ hTensors m ∧ hTensors m ≤ 1024) && hTdir m % 8 = 0
def helperSizes (m : Img) (len : Nat) : Bool :=
  decide (hTdir m + 32 * hTensors m ≤ len) && (List.range (hTensors m)).all fun i =>
    let fmt := hDir m i 4 1
    decide (fmt ≤ 3) && hDir m i 16 8 % 64 = 0 && decide (hDir m i 16 8 + hDir m i 24 8 ≤ len) &&
      hDir m i 24 8 = tensorBytes fmt (hDir m i 8 4) (hDir m i 12 4) && (fmt != 3 || hDir m i 12 4 % 32 = 0)
def helperTensors (m : Img) : Bool :=
  (allKinds.all fun k =>
    (if layerKind k then List.range (Img.u16 m 8) else [0xFFFF]).all fun l =>
      let n := helperCount m k l
      match tensorNeed m k with | 2 => n = 1 | 1 => decide (n ≤ 1) | _ => n = 0) &&
    helperCount m 30 0xFFFF = helperCount m 31 0xFFFF &&
    (List.range (hTensors m)).all fun i =>
      let k := hDir m i 0 2
      tensorShape m k = some (hDir m i 8 4, hDir m i 12 4) && (!isGain k || hDir m i 4 1 = 0) &&
        (if layerKind k then decide (hDir m i 2 2 < Img.u16 m 8) else hDir m i 2 2 = 0xFFFF)
def finiteBf16 (x : Nat) : Bool := bitsOf x 14 7 != 255
def helperFinite (m : Img) : Bool :=
  (List.range (hTensors m)).all fun i =>
    let fmt := hDir m i 4 1
    let n := hDir m i 8 4 * hDir m i 12 4
    let skip := match fmt with | 0 => 0 | 3 => (n + 1) / 2 | _ => n
    (List.range ((hDir m i 24 8 - skip) / 2)).all fun e => finiteBf16 (tileField m (hDir m i 16 8 + skip + 2 * e) 2)
/-- The first failing code of R315, 1 to 6. -/
def helperCheck (m : Img) (len : Nat) : Option Nat :=
  if !helperHead m then some 1
  else if Img.u32 m 252 != helperCrc m len then some 2
  else if !helperRange m len then some 3
  else if !helperSizes m len then some 4
  else if !helperTensors m then some 5
  else if !helperFinite m then some 6
  else none

end Sys2Proof.Machine
end

