-- ==== Sys2Proof/Machine/Encoder.lean ====
section
/-! DEFINITION. ENCODER_RUN's computation (spec/10 R316): matrix products in the cell modes of R178, single FP32 sums and products as they
stand; an FP32 computation whose sequence of operations no rule gives is a free function of its operands (log 54). Values are FP32
encodings, rows are lists of them. -/

namespace Sys2Proof.Machine

/-! ### Tensors (R314) -/

/-- The directory entry of a tensor of a kind; layer 0xFFFF outside the layers. -/
def tensorAt (m : Img) (kind layer : Nat) : Option Nat :=
  (List.range (hTensors m)).find? fun i => hDir m i 0 2 = kind && hDir m i 2 2 = layer
def tFmt (m : Img) (t : Nat) : Nat := hDir m t 4 1
def tRows (m : Img) (t : Nat) : Nat := hDir m t 8 4
def tCols (m : Img) (t : Nat) : Nat := hDir m t 12 4
/-- The format of a tensor's codes. -/
def codeFmt : Nat → CellFmt
  | 0 => .bf16 | 1 => .e4m3 | 2 => .int8 | _ => .int4
/-- Code `c` of row `r`, as FP32. -/
def tCode (m : Img) (t r c : Nat) : Nat :=
  let e := r * tCols m t + c
  let o := hDir m t 16 8
  (codeFmt (tFmt m t)).f32 (match tFmt m t with
    | 0 => tileField m (o + 2 * e) 2
    | 3 => tileField m (o + e / 2) 1 / 16 ^ (e % 2) % 16
    | _ => tileField m (o + e) 1)
def tRow (m : Img) (t r : Nat) : List Nat := (List.range (tCols m t)).map (tCode m t r)
/-- The scale of row `r`, or of its group `g`, as FP32; one without scales. -/
def tScale (m : Img) (t r g : Nat) : Nat :=
  let n := tRows m t * tCols m t
  let o := hDir m t 16 8
  match tFmt m t with
  | 0 => 0x3F800000
  | 3 => f32OfBf16 (tileField m (o + (n + 1) / 2 + 2 * (r * (tCols m t / 32) + g)) 2)
  | _ => f32OfBf16 (tileField m (o + n + 2 * r) 2)
/-- A gain or bias, where the image has it. -/
def tVec (m : Img) (kind layer : Nat) : Option (List Nat) := (tensorAt m kind layer).map fun t => tRow m t 0
/-- Element values of a row: each code by its scale, exact in FP32. -/
def tValues (m : Img) (t r : Nat) : List Nat := ((tRow m t r).zipIdx).map fun p => f32Mul p.1 (tScale m t r (p.2 / 32))

/-! ### Matrix products -/

/-- A free FP32 computation of kind `k` that yields `n` values. -/
def openFp (k n : Nat) (args : List Nat) : List Nat := ((Config.helperFp k args).takeD n 0).map (· % 2 ^ 32)
def openFp1 (k : Nat) (args : List Nat) : Nat := (openFp k 1 args).headD 0
/-- An activation as a BF16 operand. -/
def bf16Act (x : Nat) : Nat := f32OfBf16 (openFp1 0 [x])
/-- A row quantised to E4M3 as R125 quantises one channel: codes as FP32, and the scale. -/
def e4m3Act (x : List Nat) : List Nat × Nat :=
  let mx := x.foldl (fun a e => max a (f32Mag (e % 2 ^ 31))) 0
  let s := if mx = 0 then 0 else ruBf16 mx (448 * 2 ^ 16)
  (x.map fun e =>
    let q := if s = 0 then 0 else rneE4m3 (f32Mag (e % 2 ^ 31) * 512) (bf16Mag s * 2 ^ 16)
    if q = 0 then 0 else CellFmt.f32 .e4m3 (if f32Neg e then q + 128 else q), f32OfBf16 s)
/-- One output feature: weight row `r` of tensor `t` against a row of activations, in the cell mode that matches FMT (R178, R316). -/
def feature (m : Img) (t : Nat) (x : List Nat) (r : Nat) : Nat :=
  let w := tRow m t r
  match tFmt m t with
  | 0 => cellSum ((x.map bf16Act).zip w)
  | 1 =>
    if x.all fun e => !f32IsNan e && !f32IsInf e then
      let a := e4m3Act x
      openFp1 1 [cellSum (a.1.zip w), a.2, tScale m t r 0]
    else openFp1 2 (tScale m t r 0 :: x ++ w)
  | 2 => f32Mul (cellSum ((x.map bf16Act).zip w)) (tScale m t r 0)
  | _ => cellSumInt4 (w.zip (x.map bf16Act)) (tScale m t r)
def addRow (a b : List Nat) : List Nat := List.zipWith f32Add a b
/-- A linear layer: the weights of one kind, with the bias of another where present. -/
def linear (m : Img) (kind bias layer : Nat) (x : List Nat) : List Nat :=
  match tensorAt m kind layer with
  | none => []
  | some t =>
    let y := (List.range (tRows m t)).map (feature m t x)
    match tVec m bias layer with
    | some b => addRow y b
    | none => y

/-! ### Layers -/

/-- A norm of a row, by NORM and EPS, with its gain and bias. -/
def normRow (m : Img) (gain bias layer : Nat) (x : List Nat) : List Nat :=
  openFp 3 x.length (Img.u8 m 5 :: Img.u32 m 32 :: (tVec m gain layer).getD [] ++ (tVec m bias layer).getD [] ++ x)
/-- Bidirectional attention of a sequence (R316): position `p` attends every position; rotary positions where POS is 1. -/
def attention (m : Img) (layer : Nat) (rows : List (List Nat)) : List (List Nat) :=
  let q := rows.map (linear m 10 14 layer)
  let kv := rows.flatMap (linear m 11 15 layer) ++ rows.flatMap (linear m 12 16 layer)
  let one (p : List Nat × Nat) : List Nat :=
    linear m 13 17 layer (openFp 4 (hWidth m) ([Img.u16 m 12, Img.u8 m 22, Img.u32 m 28, rows.length, p.2] ++ p.1 ++ kv))
  q.zipIdx.map one
/-- The feed-forward part of a row: gated for ACT 2. -/
def feedForward (m : Img) (layer : Nat) (x : List Nat) : List Nat :=
  let up := linear m 20 23 layer x
  let gate := if Img.u8 m 7 = 2 then linear m 21 0 layer x else []
  linear m 22 24 layer (openFp 5 up.length (Img.u8 m 7 :: up ++ gate))
/-- One layer: the norms stand before its two parts or after them (ORDER). -/
def encoderLayer (m : Img) (rows : List (List Nat)) (layer : Nat) : List (List Nat) :=
  if Img.u8 m 6 = 0 then
    let x := List.zipWith addRow rows (attention m layer (rows.map (normRow m 18 19 layer)))
    x.map fun r => addRow r (feedForward m layer (normRow m 25 26 layer r))
  else
    let x := (List.zipWith addRow rows (attention m layer rows)).map (normRow m 18 19 layer)
    x.map fun r => normRow m 25 26 layer (addRow r (feedForward m layer r))

/-! ### A sequence -/

/-- The embedding of the token at a position, with its position row for POS 0 and the embedding norm where present. -/
def embedRow (m : Img) (p : Nat × Nat) : List Nat :=
  let row (kind r : Nat) : List Nat := match tensorAt m kind 0xFFFF with | some t => tValues m t r | none => []
  let x := if Img.u8 m 22 = 0 then addRow (row 1 p.1) (row 2 p.2) else row 1 p.1
  if (tensorAt m 3 0xFFFF).isSome then normRow m 3 4 0xFFFF x else x
/-- The pooled row of a sequence (POOL). -/
def poolRows (m : Img) (rows : List (List Nat)) : List Nat :=
  match Img.u8 m 23 with
  | 0 => rows.headD []
  | 1 => openFp 6 (hWidth m) (rows.length :: rows.flatten)
  | _ => rows.getLastD []
/-- The output row of a sequence of token IDs: layers, final norm, pooling, projection, L2 normalisation, as OUTFMT bytes (R316). -/
def encodeSeq (m : Img) (tokens : List Nat) (fmt : Nat) : Nat :=
  let rows := (List.range (Img.u16 m 8)).foldl (encoderLayer m) (tokens.zipIdx.map (embedRow m))
  let rows := if (tensorAt m 30 0xFFFF).isSome then rows.map (normRow m 30 31 0xFFFF) else rows
  let x := poolRows m rows
  let x := if (tensorAt m 32 0xFFFF).isSome then linear m 32 33 0xFFFF x else x
  let x := if bitAt (Img.u8 m 26) 0 then openFp 7 x.length x else x
  if fmt = 0 then packWords 4 x else packWords 2 (x.map fun e => bf16Act e / 65536)

end Sys2Proof.Machine
end

