-- ==== Sys2Proof/Machine/PoolOps.lean ====
section
/-! DEFINITION. The pool's operations (spec/11): capacity of objects, leaving objects (R325), lending and its extents
(R326 to R328), regions at their home, holds and generations (R331 to R333, R337). -/

namespace Sys2Proof.Machine

/-! ### Lending (R326 to R328) -/

/-- Logical devices that an endpoint port presents (R321, R322). -/
def State.lds (s : State) (p : Nat) : Nat := (Map.find s.boot.lds p).getD 16

def State.refreshLend (s : State) : State :=
  (s.wr .POOL_LEND_USE_T1_GRANTED 0 0 (s.granted false)).wr .POOL_LEND_USE_T2_GRANTED 0 0 (s.granted true)

/-- Pages of the region store in use, staging included, and REGION_MIB. -/
def pages64k (n : Nat) : Nat := (n + 65535) / 65536
def PRegion.pages (r : PRegion) : Nat :=
  r.staged.foldl (fun a g => a + pages64k g.bytes) (r.gens.foldl (fun a g => a + pages64k g.bytes) 0)
def State.storePages (s : State) : Nat := s.pool.regions.foldl (fun a (p : Nat × PRegion) => a + p.2.pages) 0

/-- GiB granted beyond the figures asked for, not counting what is revoked. -/
def State.excess (s : State) (r : LendRun) : Nat := (s.granted false - r.t1) + (s.granted true - r.t2)

/-- Room in T1 for the figures of a LEND_SET. -/
def State.lendRoom (s : State) (t1 region : Nat) : Bool :=
  decide (s.t1Used + 16384 * (max t1 (s.granted false) + region) ≤ Config.t1Pages)
/-- Put lendable figures into effect. -/
def State.putLend (s : State) (t1 t2 region : Nat) : State :=
  ((s.wr .POOL_LEND_T1_GIB 0 0 t1).wr .POOL_LEND_T2_GIB 0 0 t2).wr .POOL_LEND_REGION_GIB 0 0 region
/-- The figures reached where the room for higher ones was not made: a figure that is not raised holds, T1 comes before the region store, and
neither goes below what was in effect (log 47). -/
def State.reached (s : State) (r : LendRun) : Nat × Nat :=
  let gib := (Config.t1Pages - s.t1Used) / 16384
  let t1was := s.rd .POOL_LEND_T1_GIB
  let rgwas := s.rd .POOL_LEND_REGION_GIB
  let t1 := if r.t1 ≤ t1was then r.t1 else max t1was (min r.t1 (gib - min r.region rgwas))
  (t1, if r.region ≤ rgwas then r.region else max rgwas (min r.region (gib - max t1 (s.granted false))))
/-- LEND_SET ends. -/
def State.endLend (s : State) (r : LendRun) (st : Status) (cause revoked : Nat) : State :=
  let s := s.setPool { s.pool with lend := none }
  s.finish r.cmd st cause (s.rd .POOL_LEND_T1_GIB + s.rd .POOL_LEND_T2_GIB * 2 ^ 9) (s.excess r) revoked
/-- A LEND_SET whose room is made and whose excess is released completes with OK. -/
def State.checkLend (s : State) : State :=
  match s.pool.lend with
  | none => s
  | some r =>
    let s :=
      if !r.room && s.lendRoom r.t1 r.region then
        (s.putLend r.t1 r.t2 r.region).setPool { s.pool with lend := some { r with room := true } }
      else s
    match s.pool.lend with
    | some r => if r.room && s.excess r = 0 then s.endLend r .ok 0 0 else s
    | none => s

/-- What waits for a demotion write: leaving extents, LEND_SET. -/
def State.afterWrite (s : State) : State := s.checkLeaving.checkLend

/-- Pages of `gib` GiB from the objects that T2 lending may use, lowest first: the pages taken of each, or none. -/
def State.takeT2 (s : State) (gib : Nat) : Option (List (Nat × Nat)) :=
  let ok (o : Nat) : Bool := s.objWritable o && !s.on .POOL_OBJ_WINDOW o && (s.pool.t2Allow = 0 || bitAt s.pool.t2Allow o)
  let r := (List.range 32).foldl (fun (a : Nat × List (Nat × Nat)) o =>
    let free := s.rd .TIER_OBJ_B_CAP_PAGES o - (s.placesIn o).length - (Map.find s.tier.lent o).getD 0
    let n := if ok o then min a.1 free else 0
    if n = 0 then a else (a.1 - n, a.2 ++ [(o, n)])) (16384 * gib, [])
  if r.1 = 0 then some r.2 else none
def State.lendPages (s : State) (l : List (Nat × Nat)) (give : Bool) : State :=
  l.foldl (fun s (p : Nat × Nat) =>
    let n := (Map.find s.tier.lent p.1).getD 0
    { s with tier := { s.tier with lent := Map.put s.tier.lent p.1 (if give then n - p.2 else n + p.2) } }) s

/-- Key of a line that a borrower wrote; the lines of an extent are zero-filled (R327). -/
def lineKey (port ld line : Nat) : Nat := (port * 16 + ld) * 2 ^ 40 + line
def State.zeroExtent (s : State) (e : Extent) : State :=
  let lo := lineKey e.port e.ld (e.base * 2 ^ 24)
  s.setPool { s.pool with lines := s.pool.lines.filter fun p => decide (p.1 < lo) || decide (lo + e.gib * 2 ^ 24 ≤ p.1) }
/-- An extent is freed. -/
def State.freeExtent (s : State) (e : Extent) : State :=
  let s := s.zeroExtent e
  let s := s.setPool { s.pool with extents := s.pool.extents.filter fun x => x.seq != e.seq }
  ((s.lendPages e.parts true).refreshLend).checkLend

/-! ### Regions at their home (R331 to R333) -/

def State.bootgen (s : State) : Nat := s.rd .CTL_SES_PARTNER_BOOTGEN
/-- A Flewick in a boot generation is present (R332). -/
def State.presentBoot (s : State) (n bg : Nat) : Bool :=
  if n = s.myId then bg = s.bootgen else s.present n && s.rd .RING_MAP_BOOTGEN n = bg

def State.showRegion (s : State) (n : Nat) : State :=
  let v (f : PRegion → Nat) : Nat := match Map.find s.pool.regions n with | some r => f r | none => 0
  let cur (r : PRegion) : Nat := match r.gens.find? fun g => g.gen = r.gen with | some g => (g.bytes + 1023) / 1024 | none => 0
  let s := (s.wr .POOL_REGION_A_LIVE n 0 (v fun _ => 1)).wr .POOL_REGION_A_OWNER n 0 (v PRegion.owner)
  let s := (s.wr .POOL_REGION_A_HELD n 0 (v fun r => r.gens.length)).wr .POOL_REGION_A_KIB n 0 (v cur)
  let s := (s.wr .POOL_REGION_B_GEN n 0 (v PRegion.gen)).wr .POOL_REGION_B_HOLDS n 0
    (v fun r => min (r.holds.filter fun h => h.gen = r.gen).length 0xFFFF)
  s.wr .POOL_LEND_USE_REGION_MIB 0 0 ((s.storePages + 15) / 16)
def State.putRegion (s : State) (r : PRegion) : State :=
  (s.setPool { s.pool with regions := Map.put s.pool.regions (rSlot r.id) r }).showRegion (rSlot r.id)

/-- Free the generations that are neither current nor held (R333). -/
def State.freeGens (s : State) (r : PRegion) : State :=
  let keep (g : Gener) : Bool := g.gen = r.gen || r.holds.any fun h => h.gen = g.gen
  let gone := (r.gens.filter fun g => !keep g).length
  (s.bump .POOL_CNT_COUNT 3 0 gone).putRegion { r with gens := r.gens.filter keep }

/-- Take a hold on the current generation for a holder; an earlier hold of the same holder ends (R337). -/
def State.takeHold (s : State) (r : PRegion) (fl holder : Nat) : State :=
  let hs := r.holds.filter fun h => !(h.flewick = fl && h.holder = holder)
  s.freeGens { r with holds := hs ++ [⟨fl, holder, r.gen⟩] }
/-- A hold on a kept generation that a context already holds, for an index that uses it in place (R333). -/
def State.addHold (s : State) (r : PRegion) (fl holder gen : Nat) : State :=
  let hs := r.holds.filter fun h => !(h.flewick = fl && h.holder = holder)
  s.putRegion { r with holds := hs ++ [⟨fl, holder, gen⟩] }
def State.dropHold (s : State) (r : PRegion) (fl holder : Nat) : State :=
  s.freeGens { r with holds := r.holds.filter fun h => !(h.flewick = fl && h.holder = holder) }

/-- Bytes of a kept generation. -/
def PRegion.genBytes (r : PRegion) (g : Nat) : Nat :=
  match r.gens.find? fun x => x.gen = g with | some x => x.bytes | none => 0

/-- A usable window object that reaches a home, the lowest (R338). -/
def State.windowTo (s : State) (home : Nat) : Option Nat :=
  (List.range 32).find? fun o => s.on .POOL_OBJ_WINDOW o && s.rd .POOL_OBJ_HOME o = home && s.objUsable o

/-- A holder here lets go of its hold on a region: at the home at once, else by message (R337). -/
def State.letGo (s : State) (rid holder : Nat) : State :=
  if rHome rid = s.myId then
    match s.regionHere rid with
    | some r => s.dropHold r s.myId holder
    | none => s
  else s.send (rHome rid) 4 .holdRelease rid 0 holder s.myId []

/-- The attachments that satisfy a test end, and their holds are let go. -/
def State.detachAll (s : State) (p : Attach → Bool) : State :=
  let gone := s.pool.attached.filter p
  let s := s.setPool { s.pool with attached := s.pool.attached.filter fun a => !p a }
  gone.foldl (fun s a => s.letGo a.region a.ctx) s

/-- Free staging at the home. -/
def State.dropStaging (s : State) (r : PRegion) (src token : Nat) : State :=
  s.putRegion { r with staged := r.staged.filter fun g => !(g.flewick = src && g.token = token) }

/-- A publish of this Flewick ends. -/
def State.endPub (s : State) (p : PubRun) (st : Status) (cause r0 r1 : Nat) : State :=
  let s := s.setPool { s.pool with pubs := s.pool.pubs.filter fun q => q.cmd != p.cmd }
  let s := match s.regionHere p.region with
    | some r => if rHome p.region = s.myId then s.dropStaging r s.myId p.cmd else s
    | none => s
  s.finish p.cmd st cause r0 r1

end Sys2Proof.Machine
end

