-- ==== Sys2Proof/Machine/RclOps.lean ====
section
/-! DEFINITION. The recall engine's operations (spec/10): indexes and their entries, distances (R294, R297), filters
(R300 to R302), scans, records (R310, R311), commits (R303, R305), lost pages (R312), helper images (R313 to R315). -/

namespace Sys2Proof.Machine

/-! ### Indexes -/

/-- Fields of an index ID (R290). -/
def xSlot (x : Nat) : Nat := bitsOf x 41 32
def mkIndexId (fl ctx slot bootgen reuse : Nat) : Nat :=
  2 ^ 60 + fl * 2 ^ 50 + ctx * 2 ^ 44 + slot * 2 ^ 32 + bootgen * 2 ^ 26 + reuse

def State.setRcl (s : State) (r : Rcl) : State := { s with rcl := r }
def State.index (s : State) (slot : Nat) : Option RIndex := Map.find s.rcl.indexes slot
/-- The live index that an ID names for a context (R291). -/
def State.indexOf (s : State) (c x : Nat) : Option RIndex :=
  match s.index (xSlot x) with
  | some ix => if ix.id = x && hCtx x = c then some ix else none
  | none => none

def RBlock.count (b : RBlock) : Nat := b.entries.length
def chainEntries (bs : List RBlock) : List REntry := bs.flatMap RBlock.entries
/-- Entries held: those of the lists' chains (R292). -/
def RIndex.held (ix : RIndex) : Nat :=
  ix.lists.foldl (fun a (p : Nat × List RBlock) => a + (chainEntries p.2).length) 0
def State.heldBy (s : State) (c : Nat) : Nat :=
  s.rcl.indexes.foldl (fun a (p : Nat × RIndex) => if hCtx p.2.id = c then a + p.2.held else a) 0
def State.heldAll (s : State) : Nat := s.rcl.indexes.foldl (fun a (p : Nat × RIndex) => a + p.2.held) 0
def RIndex.ready (ix : RIndex) : Bool := ix.cen.isSome && ix.prod.isSome
/-- Page numbers of an index: blocks from 0, the ID map from 2^32, refinement vectors from 2^36. -/
def mapPage (i : Nat) : Nat := 2 ^ 32 + i
def vecPage (i : Nat) : Nat := 2 ^ 36 + i
/-- Full vectors of one refinement page. -/
def RIndex.vecsPerPage (ix : RIndex) : Nat := 65536 / (2 * ix.dim)

/-- Show an index in its registers, and the gauge. -/
def State.showIndex (s : State) (n : Nat) : State :=
  let v (f : RIndex → Nat) : Nat := match s.index n with | some x => f x | none => 0
  let s := (s.wr .RCL_IDX_A_LIVE n 0 (v fun _ => 1)).wr .RCL_IDX_A_READY n 0 (v fun x => b2n x.ready)
  let s := (s.wr .RCL_IDX_A_FAILED n 0 (v fun x => b2n x.failed.isSome)).wr .RCL_IDX_A_OWNER n 0 (v fun x => hCtx x.id)
  let s := (s.wr .RCL_IDX_A_DIM n 0 (v RIndex.dim)).wr .RCL_IDX_A_M n 0
    (v fun x => if x.m = 64 then 2 else if x.m = 32 then 1 else 0)
  let s := (s.wr .RCL_IDX_A_METRIC n 0 (v fun x => b2n x.ip)).wr .RCL_IDX_A_TAGS n 0 (v RIndex.tags)
  let s := (s.wr .RCL_IDX_A_REFINE n 0 (v fun x => b2n x.refine)).wr .RCL_IDX_A_NLIST n 0 (v RIndex.nlist)
  let s := (s.wr .RCL_IDX_B_ENTRIES n 0 (v RIndex.held)).wr .RCL_IDX_SEQ_CSEQ n 0 (v RIndex.cseq)
  let s := if (s.index n).isNone then s.wr .RCL_IDX_A_LOSS n 0 0 else s
  (s.wr .RCL_GAUGE_ENTRIES 0 0 s.heldAll).wr .RCL_GAUGE_INDEXES 0 0 s.rcl.indexes.length
def State.setIndex (s : State) (n : Nat) (ix : RIndex) : State :=
  (s.setRcl { s.rcl with indexes := Map.put s.rcl.indexes n ix }).showIndex n

/-- CAUSE offset with which a part's region window was lost, or the object of the loss (R166 KIND 0b11). -/
def RIndex.failCause (ix : RIndex) : Nat := causeTier (ix.failed.getD 0) 3

/-! ### Arithmetic (R294, R297) -/

/-- Sums in ascending order: squared distance, and negated inner product. -/
def sumSq (a b : List Nat) : Nat := (a.zip b).foldl (fun t (p : Nat × Nat) => let d := f32Sub p.1 p.2; f32Add t (f32Mul d d)) 0
def negDot (a b : List Nat) : Nat := f32Negate ((a.zip b).foldl (fun t (p : Nat × Nat) => f32Add t (f32Mul p.1 p.2)) 0)

/-- Order of distances: a distance that is not a number has a free place (log 53). -/
def distKey (d : Nat) : Int := if f32IsNan d then Config.nanOrder d else f32Int d

/-- Row `l` of the centroids as FP32, and codeword `j` of subspace `m`. -/
def RIndex.row (ix : RIndex) (l : Nat) : List Nat :=
  let d := match ix.cen with | some p => p.data | none => 0
  (List.range ix.dim).map fun c => f32OfBf16 (tileField d (2 * (l * ix.dim + c)) 2)
def RIndex.dsub (ix : RIndex) : Nat := ix.dim / ix.m
def RIndex.word (ix : RIndex) (m j : Nat) : List Nat :=
  let d := match ix.prod with | some p => p.data | none => 0
  (List.range ix.dsub).map fun c => tileField d (4 * ((m * 256 + j) * ix.dsub + c)) 4
def RIndex.coarse (ix : RIndex) (x : List Nat) (l : Nat) : Nat := if ix.ip then negDot x (ix.row l) else sumSq x (ix.row l)
def subvec (x : List Nat) (m n : Nat) : List Nat := (x.drop (m * n)).take n

/-- The first index of 0 .. n − 1 with the smallest key. -/
def argMin (n : Nat) (key : Nat → Int) : Nat :=
  ((List.range n).foldl (fun (a : Nat × Int) i => let k := key i; if k < a.2 then (i, k) else a) (0, key 0)).1

/-- Encode a vector (R294): its list, its codes as bytes, its error. -/
def RIndex.encode (ix : RIndex) (x : List Nat) : Nat × Nat × Nat :=
  let l := argMin ix.nlist fun l => distKey (ix.coarse x l)
  let codes := (List.range ix.m).map fun m =>
    let xs := subvec x m ix.dsub
    argMin 256 fun j => distKey (sumSq xs (ix.word m j))
  let errs := (codes.zip (List.range ix.m)).map fun (p : Nat × Nat) => sumSq (subvec x p.2 ix.dsub) (ix.word p.2 p.1)
  (l, packWords 1 codes, errs.foldl f32Add 0)

/-- FP16 nearest to num ÷ den units of 2^-24, ties to even, in those units. -/
def rneF16 (num den : Nat) : Nat :=
  let q := num / den
  let e := Nat.log2 q - 10
  let unit := den * 2 ^ e
  let lo := num / unit
  let r := num % unit
  (if 2 * r < unit then lo else if unit < 2 * r then lo + 1 else if lo % 2 = 0 then lo else lo + 1) * 2 ^ e

/-- The exponent s of R297: least with mx × 2^-s < 2^15, `mx` in units of 2^-149. -/
def scaleOf (mx : Nat) : Int := if mx = 0 then 0 else (Nat.log2 mx : Int) + 1 - 164

/-- The distance table of a query (R297): its FP16 entries as FP32 encodings, row after row, and s; none when it is not finite. -/
def RIndex.table (ix : RIndex) (q : List Nat) : Option (List Nat × Int) :=
  let t := (List.range ix.m).flatMap fun m =>
    let qs := subvec q m ix.dsub
    (List.range 256).map fun j => if ix.ip then negDot qs (ix.word m j) else sumSq qs (ix.word m j)
  if t.all finiteF32 then
    let mx := t.foldl (fun a x => max a (f32Mag (x % 2 ^ 31))) 0
    let sc := scaleOf mx
    let num (x : Nat) : Nat := f32Mag (x % 2 ^ 31) * 2 ^ (-(sc + 125)).toNat
    some (t.map fun x => f32Signed (f32Neg x) (rneF16 (num x) (2 ^ (sc + 125).toNat) * 2 ^ 125) 1, sc)
  else none

/-- The distance of an entry (R297). -/
def RIndex.dist (ix : RIndex) (q : List Nat) (t : Option (List Nat × Int)) (codes : Nat) : Nat :=
  match t with
  | none => Config.openDist q codes
  | some (tab, sc) =>
    let v (m : Nat) : Nat := tab.getD (m * 256 + tileField codes m 1) 0
    let a := (List.range (ix.m - 1)).foldl (fun a m => f32Add a (v (m + 1))) (v 0)
    f32Signed (f32Neg a) (f32Mag (a % 2 ^ 31) * 2 ^ sc.toNat) (2 ^ (-sc).toNat)

/-! ### Filters (R300 to R302) -/

def clOff (k : Nat) : Nat := 64 + 24 * k
/-- Non-zero bytes of a range. -/
def dirty (b lo hi : Nat) : List Nat := (List.range hi).filter fun i => lo ≤ i && tileField b i 1 != 0
/-- Offending bytes of clause `k` of a filter block. -/
def clauseFaults (b k t vals : Nat) : List Nat :=
  let o := clOff k
  let kind := tileField b o 1
  let x := tileField b (o + 8) 8
  let y := tileField b (o + 16) 8
  let sh := tileField b (o + 4) 1
  let w := tileField b (o + 5) 1
  (if 1 ≤ kind ∧ kind ≤ 3 then [] else [o]) ++ (if tileField b (o + 1) 1 ≤ 7 then [] else [o + 1]) ++
  (if tileField b (o + 2) 1 ≤ 1 then [] else [o + 2]) ++ dirty b (o + 3) (o + 4) ++ dirty b (o + 6) (o + 8) ++
  (match kind with
   | 1 => dirty b (o + 4) (o + 6) ++ ((List.range 8).filter fun i =>
       Nat.land (tileField b (o + 16 + i) 1) (255 - tileField b (o + 8 + i) 1) != 0).map (o + 16 + ·)
   | 2 => (if 1 ≤ w ∧ w ≤ 64 then [] else [o + 5]) ++ (if sh + w ≤ 64 then [] else [o + 4]) ++
       (if x ≤ y then [] else [o + 8]) ++ (if y < 2 ^ w then [] else [o + 16])
   | 3 => dirty b (o + 5) (o + 6) ++ (if 1 ≤ y then [] else [o + 16]) ++ (if x + y ≤ vals then [] else [o + 8]) ++
       (if sh < 2 ^ t then [] else [o + 4]) ++
       (if x + y ≤ vals then
          ((List.range y).filter fun i =>
            let v := tileField b (256 + 4 * (x + i)) 4
            v = 0 || (i != 0 && decide (v ≤ tileField b (256 + 4 * (x + i - 1)) 4))).map fun i => 256 + 4 * (x + i)
        else [])
   | _ => [])
/-- The first offending byte of a filter block; none when it is valid. -/
def filterFault (b stride t : Nat) : Option Nat :=
  let n := tileField b 0 1
  let vals := tileField b 2 2
  firstFault ((if n ≤ 8 then [] else [0]) ++ dirty b 1 2 ++
    (if vals ≤ 1024 ∧ 256 + 4 * vals ≤ stride then [] else [2]) ++ dirty b 4 64 ++
    (List.range (min n 8)).flatMap (clauseFaults b · t vals) ++ dirty b (clOff (min n 8)) 256)

/-- Whether clause `k` holds for an entry, NEGATE applied. -/
def clauseHolds (b k : Nat) (e : REntry) : Bool :=
  let o := clOff k
  let x := tileField b (o + 8) 8
  let y := tileField b (o + 16) 8
  let sh := tileField b (o + 4) 1
  let r := match tileField b o 1 with
    | 1 => Nat.land e.attr x = y
    | 2 => let v := e.attr / 2 ^ sh % 2 ^ tileField b (o + 5) 1; decide (x ≤ v ∧ v ≤ y)
    | _ => (List.range 8).any fun w => bitAt sh w && (e.tags.getD w 0) != 0 &&
        (List.range y).any fun i => tileField b (256 + 4 * (x + i)) 4 = e.tags.getD w 0
  if tileField b (o + 2) 1 = 1 then !r else r
/-- Whether an entry passes a filter block (R301). -/
def passes (b : Nat) (e : REntry) : Bool :=
  let ks := List.range (tileField b 0 1)
  ks.isEmpty || (List.range 8).any fun t =>
    let cs := ks.filter fun k => tileField b (clOff k + 1) 1 = t
    !cs.isEmpty && cs.all fun k => clauseHolds b k e

/-! ### Scanning -/

/-- Visibility at a snapshot (R304). -/
def REntry.visible (e : REntry) (snap : Nat) : Bool := decide (e.seq ≤ snap) && (e.del = 0 || decide (snap < e.del))

/-- The chain that a query scans: the old chain where a swap came after its start (R306). -/
def RIndex.chainFor (ix : RIndex) (cmd l : Nat) : List RBlock :=
  match ix.olds.find? fun o => o.list = l && o.readers.contains cmd with
  | some o => o.blocks
  | none => ix.chain l

/-- Candidates in order: distance, then the lower item ID (R299). -/
def RCand.le (a b : RCand) : Bool :=
  distKey a.dist < distKey b.dist || (distKey a.dist = distKey b.dist && decide (a.id ≤ b.id))

/-- Counts of a scan: hidden pairs, filter rejects. -/
def RQuery.scan (q : RQuery) (r : RRun) (ix : RIndex) : RQuery × Nat × Nat :=
  let tab := ix.table q.vec
  let es := q.named.flatMap fun l => chainEntries (ix.chainFor r.cmd l)
  let vis := es.filter fun e => e.visible r.snap
  let hit := vis.filter (passes q.filter)
  let cs := hit.map fun e => (⟨ix.dist q.vec tab e.codes, e.id, e.vec, e.vpage⟩ : RCand)
  ({ q with
      scanned := q.scanned + es.length, matched := q.matched + hit.length, probed := q.probed + q.named.length
      best := (sortBy RCand.le (q.best ++ cs)).take (max r.k r.refine), named := [] },
    es.length - vis.length, vis.length - hit.length)

/-- The next lists that a query names (R307 step 5). -/
def RQuery.next (q : RQuery) (r : RRun) : RQuery :=
  { q with named := (q.order.drop q.probed).take (min r.nprobe (r.widen - q.probed)) }

/-- Results after refinement (R309): each with its distance and its REFINED and UNREFINED bits. -/
def RIndex.refined (ix : RIndex) (q : RQuery) (r : RRun) (unread : List Nat) : List (RCand × Nat) :=
  if ix.refine && decide (0 < r.refine) then
    let cs := (q.best.take r.refine).map fun c =>
      match c.vpage with
      | some p =>
        if unread.contains p then (c, 2)
        else
          let v := c.vec.map f32OfBf16
          ({ c with dist := if ix.ip then negDot q.vec v else sumSq q.vec v }, 1)
      | none => (c, 2)
    (sortBy (fun (a b : RCand × Nat) => a.1.le b.1) cs).take r.k
  else (q.best.take r.k).map fun c => (c, 0)

/-- STATUS and CAUSE of a query that ran to its end (R311). -/
def RQuery.verdict (q : RQuery) (r : RRun) (nlist n : Nat) : Status × Nat :=
  match q.lost with
  | some l => l
  | none => if n < r.k then (.partialDone, b2n (decide (r.widen ≤ q.probed)) + 2 * b2n (decide (nlist ≤ q.probed))) else (.ok, 0)

/-- Write a query's record (R310). -/
def State.writeQuery (s : State) (r : RRun) (qn : Nat) (q : RQuery) (st : Status) (cause : Nat) (res : List (RCand × Nat))
    (unref : Bool) : State :=
  let flags := b2n q.widened + 2 * b2n q.lost.isSome + 4 * b2n unref
  let head := packBytes [(0, st.code), (2, cause), (4, res.length), (8, q.probed), (12, flags), (16, q.scanned), (24, q.matched)]
  let body := res.foldr (fun (p : RCand × Nat) a => p.1.id % 2 ^ 64 + p.1.dist % 2 ^ 32 * 2 ^ 64 + p.2 * 2 ^ 96 + a * 2 ^ 128) 0
  s.emit (.write r.ctx (r.results + qn * (64 + 16 * r.k)) (64 + 16 * res.length) (head + body * 2 ^ 512))

def State.setRun (s : State) (r : RRun) : State :=
  s.setRcl { s.rcl with runs := s.rcl.runs.map fun x => if x.cmd = r.cmd then r else x }
def State.run? (s : State) (k : Nat) : Option RRun := s.rcl.runs.find? fun r => r.cmd = k
def runItem (k : Nat) (i : Item) : Bool := i.cls = .recall && i.step = k

/-- A query is closed with a record and no further scan: invalid, cancelled, disabled, failed index (R311). -/
def State.shutQuery (s : State) (r : RRun) (qn : Nat) (q : RQuery) (st : Status) (cause : Nat) : State × RQuery :=
  (s.writeQuery r qn q st cause [] false, { q with closed := true, ok := false })
/-- Apply a closing step to every query of a run that is still open, in order. -/
def State.shutAll (s : State) (r : RRun) (st : Status) (cause : Nat) : State × RRun :=
  let go := r.queries.foldl (fun (a : State × List RQuery) q =>
    if q.closed then (a.1, a.2 ++ [q])
    else let b := a.1.shutQuery r a.2.length q st cause; (b.1, a.2 ++ [b.2])) (s, [])
  (go.1, { r with queries := go.2 })

/-- End a run: its items and its hold on old chains go, the command completes, PARTIAL where a query's STATUS is not OK (R307 step 7,
R311). -/
def State.endRun (s : State) (r : RRun) : State :=
  let bad := (r.queries.filter fun q => !q.ok).length
  let s := s.killItems (runItem r.cmd)
  let s := s.setRcl { s.rcl with runs := s.rcl.runs.filter fun x => x.cmd != r.cmd }
  s.finish r.cmd (if bad = 0 then .ok else .partialDone) 0 r.snap bad r.blocks
/-- Close every open query with a status and end the run. -/
def State.failRun (s : State) (r : RRun) (st : Status) (cause : Nat) : State :=
  let a := s.shutAll r st cause
  a.1.endRun a.2

/-- Queries that read a block together (R307 step 4). -/
def groupOf (m : Nat) : Nat := if m = 64 then 4 else if m = 32 then 8 else 16
/-- Form the items of a round: the first round's tables are built before its scans (R307 steps 2 to 4). -/
def State.formRound (s : State) (r : RRun) (ix : RIndex) : State :=
  let ls := (r.queries.flatMap RQuery.named).eraseDups
  let first := r.round = 1
  let build := if first then (r.queries.zip (List.range r.queries.length)).filterMap fun (p : RQuery × Nat) =>
      if p.1.closed then none else some { Item.new .scan .recall r.ctx r.cmd 0 1 0 p.2 .ready with ix := some r.slot }
    else []
  let scans := ls.flatMap fun l =>
    let n := (r.queries.filter fun q => q.named.contains l).length
    (ix.chainFor r.cmd l).flatMap fun b => (List.range (ceilDiv' n (groupOf ix.m))).map fun g =>
      { Item.new .scan .recall r.ctx r.cmd 0 r.round (g + 1) b.page .held with ix := some r.slot, pages := [pageKey .index b.page] }
  let s := scans.foldl (fun s i => (s.addItem i).request i) s
  let s := build.foldl State.addItem s
  let s := s.setRun { r with blocks := r.blocks + (ls.flatMap fun l => ix.chainFor r.cmd l).length }
  let s := s.bump .RCL_CNT_COUNT 4 0 (ls.flatMap fun l => ix.chainFor r.cmd l).length
  if build.isEmpty then s.turn (runItem r.cmd) else s
/-! ### Commits (R303, R305) -/

/-- Tombstone every earlier entry with one of the IDs: the chain, and how many entries. -/
def REntry.bury (n : Nat) (ids : List Nat) (e : REntry) : REntry :=
  if e.del = 0 && decide (e.seq < n) && ids.contains e.id then { e with del := n } else e
def tombstone (n : Nat) (ids : List Nat) (bs : List RBlock) : List RBlock :=
  bs.map fun b => { b with entries := b.entries.map (REntry.bury n ids) }
/-- A void sequence: its entries are never visible. -/
def voidBlocks (n : Nat) (bs : List RBlock) : List RBlock :=
  bs.map fun b => { b with entries := b.entries.map fun e => if e.seq = n then { e with del := n } else e }
/-- Pages of the blocks that changed. -/
def changedPages (a b : List RBlock) : List Nat :=
  (a.zip b).filterMap fun (p : RBlock × RBlock) => if p.1 = p.2 then none else some p.1.page
def mapChains (f : List RBlock → List RBlock) (m : Map (List RBlock)) : Map (List RBlock) :=
  m.map fun (p : Nat × List RBlock) => (p.1, f p.2)
def RIndex.tombed (ix : RIndex) (n : Nat) : Nat :=
  ix.lists.foldl (fun a (p : Nat × List RBlock) => a + ((chainEntries p.2).filter fun e => e.del = n && e.seq != n).length) 0

/-- The ID map's pages follow the entries (R296). -/
def State.mapWritten (s : State) (n : Nat) : State :=
  match s.index n with
  | some ix => (s.writePages true n .index ((List.range (Config.idMapPages ix.held)).map mapPage)).sinkIndex n
  | none => s

/-- Commit the sequence CSEQ + 1 of an index, if its command is at that point: void, or its item has ended (R186, R303, R305). -/
def State.commitNext (s : State) (n : Nat) : State :=
  match s.index n with
  | none => s
  | some ix =>
    match ix.pend.find? fun p => p.seq = ix.cseq + 1 && (p.void.isSome || !s.gore.items.any (runItem p.cmd)) with
    | none => s
    | some p =>
      let f := match p.void with | some _ => voidBlocks p.seq | none => tombstone p.seq p.ids
      let lists := mapChains f ix.lists
      let olds := ix.olds.map fun o => { o with blocks := f o.blocks }
      let pages := (ix.lists.zip lists).flatMap fun (q : (Nat × List RBlock) × Nat × List RBlock) => changedPages q.1.2 q.2.2
      let ix2 := { ix with lists := lists, olds := olds, cseq := p.seq, pend := ix.pend.filter fun q => q.seq != p.seq }
      let s := ((s.setIndex n ix2).writePages true n .index pages).mapWritten n
      match p.void with
      | some v => (s.bump .RCL_CNT_COUNT 12 0 1).finish p.cmd v.1 v.2.1 0 v.2.2
      | none =>
        let t := ix2.tombed p.seq
        if p.isDel then
          let gone := (p.ids.eraseDups.filter fun i => (lists.any fun (q : Nat × List RBlock) =>
            (chainEntries q.2).any fun e => e.id = i && e.del = p.seq)).length
          (s.bump .RCL_CNT_COUNT 11 0 gone).finish p.cmd .ok 0 p.seq gone (p.ids.length - gone)
        else
          let s := (s.bump .RCL_CNT_COUNT 9 0 p.ids.length).bump .RCL_CNT_COUNT 10 0 t
          (s.bump .RCL_CTX_CNT_COUNT p.ctx 2 p.ids.length).finish p.cmd .ok 0 p.seq t p.err
/-- Make the taken sequences that satisfy a test void, ending with a status (R305, R319). -/
def State.voidPend (s : State) (t : RPend → Bool) (st : Status) (cause : Nat) : State :=
  s.setRcl { s.rcl with indexes := s.rcl.indexes.map fun (p : Nat × RIndex) =>
    (p.1, { p.2 with pend := p.2.pend.map fun q => if t q && q.void.isNone then { q with void := some (st, cause, 0) } else q }) }
/-- Commit every taken sequence of every index, in order (R319, SOFT). -/
def State.commitAll (s : State) : State :=
  s.rcl.indexes.foldl (fun s (p : Nat × RIndex) => p.2.pend.foldl (fun s _ => s.commitNext p.1) s) s

/-- Take the next sequence (R303). -/
def State.takeSeq (s : State) (n : Nat) (ix : RIndex) (p : Nat → RPend) : State :=
  s.setIndex n { ix with nextSeq := ix.nextSeq + 1, pend := ix.pend ++ [p (ix.nextSeq + 1)] }

/-- Put an entry into the last block of its list's chain, or into a new block (R296). -/
def RIndex.append (ix : RIndex) (l : Nat) (e : REntry) : RIndex :=
  let bs := ix.chain l
  match bs.getLast? with
  | some b =>
    if b.count < ix.cap then { ix with lists := Map.put ix.lists l (bs.dropLast ++ [{ b with entries := b.entries ++ [e] }]) }
    else { ix with lists := Map.put ix.lists l (bs ++ [⟨ix.nextPage, [e]⟩]), nextPage := ix.nextPage + 1 }
  | none => { ix with lists := Map.put ix.lists l [⟨ix.nextPage, [e]⟩], nextPage := ix.nextPage + 1 }

/-! ### Compaction (R306) -/

/-- F: the smallest snapshot of the index's queries in flight, or CSEQ. -/
def State.floorSeq (s : State) (n : Nat) (ix : RIndex) : Nat :=
  match (s.rcl.runs.filter fun r => r.slot = n).map RRun.snap with
  | [] => ix.cseq
  | a :: t => t.foldl min a
def REntry.reclaimable (e : REntry) (f : Nat) : Bool := e.del != 0 && (e.del = e.seq || decide (e.del ≤ f))
/-- Blocks of at most `cap` entries each, numbered from `page`. -/
def packBlocks (cap : Nat) : Nat → Nat → List REntry → List RBlock
  | 0, _, _ => []
  | fuel + 1, page, es => if es.isEmpty then [] else ⟨page, es.take cap⟩ :: packBlocks cap fuel (page + 1) (es.drop cap)
/-- The new chain of a list, without the entries that are reclaimable at this moment (log 189), is swapped in as one action. -/
def State.swapList (s : State) (n l : Nat) : State :=
  match s.index n with
  | none => s
  | some ix =>
    let es := chainEntries (ix.chain l)
    let f := s.floorSeq n ix
    let keep := es.filter fun e => !e.reclaimable f
    let bs := packBlocks ix.cap (keep.length + 1) ix.nextPage keep
    let readers := (s.rcl.runs.filter fun r => r.slot = n).map RRun.cmd
    let lists := if bs.isEmpty then Map.del ix.lists l else Map.put ix.lists l bs
    let ix2 := { ix with lists := lists, nextPage := ix.nextPage + bs.length, olds := ix.olds ++ [⟨l, ix.chain l, readers⟩] }
    let s := ((s.setIndex n ix2).writePages true n .index (bs.map RBlock.page)).mapWritten n
    (s.bump .RCL_CNT_COUNT 13 0 1).bump .RCL_CNT_COUNT 14 0 (es.length - keep.length)

/-- A SCAN item has ended: a compaction swaps its list; once every table of a query round is built its scans take their turn. -/
def State.scanEnd (s : State) (i : Item) : State :=
  let s := s.dropItem i
  if 2 ^ 60 ≤ i.step then (match i.ix with | some n => s.swapList n (i.step - 2 ^ 60) | none => s)
  else if i.head = 0 && !(s.gore.items.any fun j => runItem i.step j && j.head = 0) then s.turn (runItem i.step) else s

/-- The refinement pages that an index's entries use, old chains included. -/
def RIndex.vecPages (ix : RIndex) : List Nat :=
  (((ix.lists.flatMap fun (p : Nat × List RBlock) => chainEntries p.2) ++ ix.olds.flatMap fun o => chainEntries o.blocks).filterMap
    REntry.vpage).eraseDups
/-- Release the refinement pages that no entry uses. -/
def State.sweepVecs (s : State) (n : Nat) : State :=
  match s.index n with
  | none => s
  | some ix =>
    let keep := ix.vecPages
    (s.ownerPages true n).foldl (fun s (q : Nat × Page) =>
      if q.2.num ≥ 2 ^ 36 && !keep.contains q.2.num then s.emptyPage ⟨true, n, q.1⟩ else s) s

/-- Free the old chains of a list that no query reads any more (R306). -/
def State.freeOld (s : State) (n l : Nat) : State :=
  match s.index n with
  | none => s
  | some ix =>
    let done (o : ROld) : Bool := o.list = l && !(o.readers.any fun k => s.rcl.runs.any fun r => r.cmd = k)
    let pages := (ix.olds.filter done).flatMap fun o => o.blocks.map RBlock.page
    let s := s.setIndex n { ix with olds := ix.olds.filter fun o => !done o }
    (pages.foldl (fun s p => s.emptyPage ⟨true, n, pageKey .index p⟩) s).sweepVecs n

/-- Free every old chain that no query reads any more. -/
def State.freeOlds (s : State) : State :=
  s.rcl.indexes.foldl (fun s (p : Nat × RIndex) =>
    ((p.2.olds.map fun (o : ROld) => o.list).eraseDups).foldl (fun s l => s.freeOld p.1 l) s) s

/-! ### Lost pages (R312) -/

/-- An index fails: its queries complete every record with TIER_FAIL, and its sequences not yet committed are void with it. -/
def State.failIndex (s : State) (n obj : Nat) : State :=
  match s.index n with
  | none => s
  | some ix =>
    if ix.failed.isSome then s
    else
      let s := s.setIndex n { ix with failed := some obj }
      let s := (s.rcl.runs.filter fun r => r.slot = n).foldl (fun s r => s.failRun r .tierFail (causeTier obj 3)) s
      (s.killItems fun i => i.ix = some n).voidPend (fun p => ix.pend.any fun q => q.cmd = p.cmd) .tierFail (causeTier obj 3)
/-- A list block is unlinked; the queries that probe its list report the loss. -/
def State.loseBlock (s : State) (n page : Nat) (st : Status) (cause : Nat) : State :=
  match s.index n with
  | none => s
  | some ix =>
    let hit := ((ix.lists.map fun (p : Nat × List RBlock) => (p.1, p.2)) ++ ix.olds.map fun o => (o.list, o.blocks)).filterMap
      fun (p : Nat × List RBlock) => if p.2.any fun b => b.page = page then some p.1 else none
    let cut (bs : List RBlock) : List RBlock := bs.filter fun b => b.page != page
    let ix2 := { ix with
      lists := ((mapChains cut ix.lists).filter fun (p : Nat × List RBlock) => !p.2.isEmpty)
      olds := ix.olds.map fun o => { o with blocks := cut o.blocks } }
    let s := (s.setIndex n ix2).emptyPage ⟨true, n, pageKey .index page⟩
    let s := (s.bump .RCL_CNT_COUNT 15 0 1).wr .RCL_IDX_A_LOSS n 0 1
    let s := s.mapItems (fun i => i.ix = some n && i.seg = page && i.head != 0) fun i => { i with pages := [], st := if i.st = .waiting then .ready else i.st }
    s.setRcl { s.rcl with runs := s.rcl.runs.map fun r =>
      if r.slot = n then { r with queries := r.queries.map fun q =>
        if !q.closed && q.lost.isNone && hit.any q.named.contains then { q with lost := some (st, cause) } else q }
      else r }
/-- A page of an index becomes LOST. -/
def State.indexLost (s : State) (n page : Nat) (st : Status) (cause : Nat) : State :=
  if page < 2 ^ 32 then s.loseBlock n page st cause
  else if page < 2 ^ 36 then s.failIndex n (cause % 64)
  else s
/-- A window object fails: indexes that use a codebook in place through it fail (R338). -/
def State.windowLost (s : State) (obj : Nat) : State :=
  let home := s.rd .POOL_OBJ_HOME obj
  s.rcl.indexes.foldl (fun s (p : Nat × RIndex) =>
    if ([p.2.cen, p.2.prod].filterMap id).any fun (q : RPart) =>
        (match q.region with | some r => rHome r.1 = home && home != s.myId | none => false) then s.failIndex p.1 obj
    else s) s

/-! ### Helper slots (R202, R318) -/

def State.setHelper (s : State) (n : Nat) (h : Option HelperSlot) : State :=
  let s := s.setRcl { s.rcl with helpers := match h with
    | some x => Map.put s.rcl.helpers n x
    | none => Map.del s.rcl.helpers n }
  let v (f : HelperSlot → Nat) : Nat := match h with | some x => f x | none => 0
  let s := (s.wr .RCL_HELPER_LOADED n 0 (v fun _ => 1)).wr .RCL_HELPER_OWNER n 0 (v HelperSlot.owner)
  let s := (s.wr .RCL_HELPER_IN_T2 n 0 (v fun x => b2n (!x.t2.isEmpty))).wr .RCL_HELPER_PARAMS n 0 (v fun x => Img.u32 x.data 36)
  s.wr .RCL_GAUGE_HELPERS 0 0 s.rcl.helpers.length

/-- Weights of helpers in the T1 reserve. -/
def State.helperBytes (s : State) : Nat := s.rcl.helpers.foldl (fun a (p : Nat × HelperSlot) => a + p.2.bytes) 0
/-- Pages for helper weights from usable T2 objects, lowest first (R202). -/
def State.helperT2 (s : State) (n : Nat) : Option (List (Nat × Nat)) :=
  let r := (List.range 32).foldl (fun (a : Nat × List (Nat × Nat)) o =>
    let room := s.rd .TIER_OBJ_B_CAP_PAGES o - (s.placesIn o).length - (Map.find s.tier.lent o).getD 0
    let k := if s.objWritable o && !s.on .POOL_OBJ_WINDOW o then min a.1 room else 0
    if k = 0 then a else (a.1 - k, a.2 ++ [(o, k)])) (n, [])
  if r.1 = 0 then some r.2 else none

/-- The image on which an encoder run of a slot works (R318). -/
def State.helperFor (s : State) (n k : Nat) : Option Img :=
  match Map.find s.rcl.helpers n with
  | none => none
  | some t =>
    match t.olds.find? fun o => decide (k < o.before) with
    | some o => some o.data
    | none => some t.data

/-- The next layer of an encoder run: one HELPER_LAYER item. -/
def State.layerItem (s : State) (c : Nat) (r : EncRun) : State :=
  s.addItem (Item.new .helperLayer .recall c r.cmd 0 r.layer 0 0 .ready)
def State.endEnc (s : State) (k : Nat) : State :=
  (s.killItems (runItem k)).setRcl { s.rcl with encs := s.rcl.encs.filter fun r => r.cmd != k }
/-- A HELPER_LAYER item has ended: the next layer, or the outputs and the completion (R316, R317). -/
def State.helperEnd (s : State) (i : Item) : State :=
  let s := s.dropItem i
  match s.rcl.encs.find? fun r => r.cmd = i.step, s.cmd i.step with
  | some r, some c =>
    let r2 := { r with layer := r.layer + 1 }
    if r2.layer < Img.u16 r.image 8 then
      (s.setRcl { s.rcl with encs := s.rcl.encs.map fun x => if x.cmd = r.cmd then r2 else x }).layerItem c.ctx r2
    else
      let fmt := Desc.byte c.desc 17
      let row := pad64 (hOutDim r.image * (if fmt = 0 then 4 else 2))
      let used := hOutDim r.image * (if fmt = 0 then 4 else 2)
      let data := r.seqs.foldr (fun q a => encodeSeq r.image q fmt % 2 ^ (8 * used) + a * 2 ^ (8 * row)) 0
      let n := r.seqs.foldl (fun a q => a + q.length) 0
      let s := s.emit (.write c.ctx (Desc.num c.desc 40 8) (row * r.seqs.length) data)
      let s := { s with rcl := { s.rcl with encs := s.rcl.encs.filter fun x => x.cmd != r.cmd } }
      (s.bump .RCL_CTX_CNT_COUNT c.ctx 3 n).finish c.id .ok 0 n (hOutDim r.image)
  | _, _ => s

end Sys2Proof.Machine
end

