-- ==== Sys2Proof/Machine/Recall.lean ====
section
/-! DEFINITION. The recall engine's commands (spec/10): indexes, codebooks, inserts, deletes, commits, queries, compaction,
helper models, the clears. -/

namespace Sys2Proof.Machine

/-! ### Indexes -/

/-- A destroy of the index was accepted earlier (R318). -/
def State.doomed (s : State) (c : Cmd) (x : Nat) : Bool :=
  s.hti.cmds.any fun d => d.op = 0x40 && Desc.flag d.desc 8 && Desc.handle d.desc = x && d.ctx = c.ctx && decide (d.id < c.id) && d.phase != .done
/-- The index that a command names in a field. -/
def idxField (c : Cmd) : Nat := Desc.num c.desc 16 8
def State.idxLive (s : State) (x : Cmd → Nat) (c : Cmd) : Bool := (s.indexOf c.ctx (x c)).isSome && !s.doomed c (x c)
/-- The index ID that a command stands for: the HANDLE of 0x40 and 0x44, a field of the others (R317). -/
def cmdIndex (c : Cmd) : Option Nat :=
  match c.op with
  | 0x40 => some (Desc.handle c.desc) | 0x44 => some (Desc.handle c.desc)
  | 0x41 => some (idxField c) | 0x42 => some (idxField c) | 0x43 => some (idxField c)
  | _ => none

/-- A free index slot, the lowest (log 48). -/
def State.newIndexSlot (s : State) : Option Nat :=
  (List.range 1024).find? fun n => !Map.has s.rcl.indexes n && decide ((Map.find s.rcl.reuse n).getD 0 < 2 ^ 26)

/-- INDEX_CREATE CREATE (R290, R317, R318). -/
def indexCreate (c : Cmd) (s : State) : State :=
  let d := c.desc
  let refine := bitAt (Desc.byte d 25) 0
  match s.newIndexSlot with
  | none => s.finish c.id .retryLater (hintMs 1)
  | some n =>
    if refine && !((List.range 32).any fun o => (s.region c.ctx).allows o && s.on .TIER_OBJ_A_PRESENT o && !s.on .POOL_OBJ_WINDOW o) then
      s.finish c.id .reservedNonzero 25
    else
      let id := mkIndexId s.myId c.ctx n s.bootgen ((Map.find s.rcl.reuse n).getD 0)
      let ix : RIndex := ⟨id, Desc.num d 16 2, Desc.byte d 18, Desc.byte d 19 = 1, Desc.num d 20 4, Desc.byte d 24, refine,
        none, none, [], [], 0, 0, [], 0, 0, none⟩
      let s := { s with tier := { s.tier with idxPages := Map.put s.tier.idxPages n [], regions := Map.del s.tier.regions (64 + n) } }
      (s.setIndex n ix).finish c.id .ok 0 id ix.cap
def execIndexCreateCreate (k : Nat) (s : State) : Host.Outcome State Fault Refusal :=
  .next (s.begin k 0x40 (opOf 8 8 0) anyCmd anyCmd (notEvacuating indexCreate))

/-- The holds of an index on regions used in place end (R333). -/
def State.dropParts (s : State) (n : Nat) (ix : RIndex) : State :=
  [(0, ix.cen), (1, ix.prod)].foldl (fun s (p : Nat × Option RPart) =>
    match p.2 with
    | some q =>
      let s := s.rsvSwap q.bytes 0
      match q.region with
      | some r => s.letGo r.1 (64 + n + 1024 * p.1)
      | none => s
    | none => s) s
/-- INDEX_CREATE DESTROY (R291, R318): it waits for the index's commands accepted before it. -/
def indexDestroy (c : Cmd) (s : State) : State :=
  let n := xSlot (Desc.handle c.desc)
  match s.index n with
  | none => s.finish c.id .badHandle
  | some ix =>
    let freed := (s.ownerPages true n).length
    let s := ((s.killItems fun i => i.ix = some n).emptyAll true n).dropParts n ix
    let s := { s with tier := { s.tier with idxPages := Map.del s.tier.idxPages n, regions := Map.del s.tier.regions (64 + n) } }
    let s := s.setRcl { s.rcl with
      indexes := Map.del s.rcl.indexes n, reuse := Map.put s.rcl.reuse n ((Map.find s.rcl.reuse n).getD 0 + 1) }
    (s.showIndex n).finish c.id .ok 0 freed
def State.indexIdle (s : State) (c : Cmd) : Bool :=
  s.hti.cmds.all fun d => !(decide (d.id < c.id) && d.phase != .done && d.ctx = c.ctx && cmdIndex d = some (Desc.handle c.desc))
def execIndexCreateDestroy (k : Nat) (s : State) : Host.Outcome State Fault Refusal :=
  .next (s.begin k 0x40 (opOf 8 8 1) s.indexIdle (s.idxLive fun c => Desc.handle c.desc) (notEvacuating indexDestroy))

/-- Bytes of a codebook part. -/
def RIndex.partBytes (ix : RIndex) (part : Nat) : Nat := if part = 0 then ix.nlist * ix.dim * 2 else 256 * ix.dim * 4
/-- The first non-finite element of a part. -/
def badElement (part bytes data : Nat) : Option Nat :=
  if part = 0 then (List.range (bytes / 2)).find? fun i => !finiteBf16 (tileField data (2 * i) 2)
  else (List.range (bytes / 4)).find? fun i => !finiteF32 (tileField data (4 * i) 4)

/-- CODEBOOK_LOAD (R293, R317, R318). -/
def codebookLoad (src : SrcRead) (c : Cmd) (s : State) : State :=
  let d := c.desc
  let n := xSlot (Desc.handle d)
  let part := Desc.byte d 16
  let rid := Desc.num d 24 8
  let len := Desc.num d 40 8
  let region := Desc.flag d 8
  let shared := Desc.flag d 9
  match s.index n with
  | none => s.finish c.id .badHandle
  | some ix =>
    if ix.held != 0 then s.finish c.id .reservedNonzero 8
    else if len != ix.partBytes part then s.finish c.id .reservedNonzero 40
    else match s.readImage c.ctx region rid (Desc.num d 32 8) len src with
      | .inr r => s.finish c.id r.1 r.2
      | .inl data =>
        match badElement part len data with
        | some e => s.finish c.id .reservedNonzero 32 0 e
        | none =>
          let old := if part = 0 then ix.cen else ix.prod
          let oldBytes := match old with | some p => p.bytes | none => 0
          let bytes := if shared then 0 else len
          if !s.rsvFits oldBytes bytes then s.rsvFull.finish c.id .retryLater (hintMs 1)
          else
            let holder := 64 + n + 1024 * part
            let s := match old with
              | some p => (match p.region with | some r => s.letGo r.1 holder | none => s)
              | none => s
            let att := s.attachOf c.ctx rid
            let gen := match att with | some a => a.gen | none => 0
            let s :=
              if !shared then s
              else if rHome rid = s.myId then
                match s.regionHere rid with | some r => s.addHold r s.myId holder gen | none => s
              else s.send (rHome rid) 4 .holdTake rid 0 holder c.id [c.ctx, b2n (s.on .HTI_CTX_MGMT c.ctx), gen]
            let p : RPart := ⟨data, bytes, if shared then some (rid, gen) else none⟩
            let ix := if part = 0 then { ix with cen := some p } else { ix with prod := some p }
            ((s.rsvSwap oldBytes bytes).setIndex n ix).finish c.id .ok 0 len
def execCodebookLoad (k : Nat) (src : SrcRead) (s : State) : Host.Outcome State Fault Refusal :=
  .next (s.begin k 0x44 anyForm anyCmd (s.idxLive fun c => Desc.handle c.desc) (codebookLoad src))

/-! ### Inserts, deletes, commits -/

/-- How an index turns a command away (R293, R312). -/
def RIndex.refuse (ix : RIndex) : Option (Status × Nat) :=
  if ix.failed.isSome then some (.tierFail, ix.failCause)
  else if !ix.ready then some (.reservedNonzero, 16) else none

/-- An item of INDEX_INSERT before it is written: its list and codes, its error, its full vector. -/
structure NewItem where
  list : Nat
  codes : Nat
  err : Nat
  vec : List Nat
  deriving DecidableEq, Repr
/-- BF16 nearest to an FP32 encoding, ties to even (log 55). -/
def f32ToBf16 (x : Nat) : Nat :=
  let lo := x / 65536
  let r := x % 65536
  if r < 32768 then lo else if 32768 < r then lo + 1 else if lo % 2 = 0 then lo else lo + 1
def RIndex.item (ix : RIndex) (coded bf16 : Bool) (src : List Nat) : NewItem :=
  if coded then ⟨src.headD 0, packWords 1 (src.tail.takeD ix.m 0), 0, []⟩
  else
    let x := (src.takeD ix.dim 0).map fun e => if bf16 then f32OfBf16 e else e
    let r := ix.encode x
    ⟨r.1, r.2.1, r.2.2, if ix.refine then (src.takeD ix.dim 0).map (fun e => if bf16 then e else f32ToBf16 e) else []⟩
/-- The first item that the checks of R318 refuse: the CAUSE and the item. -/
def RIndex.badItem (ix : RIndex) (coded bf16 : Bool) (src : List (List Nat)) (ids : List Nat) (metas : List (List Nat)) :
    Option (Nat × Nat) :=
  let bad1 (l : List Nat) : Bool :=
    if coded then decide (l.headD 0 ≥ ix.nlist) else (l.takeD ix.dim 0).any fun e => if bf16 then !finiteBf16 e else !finiteF32 e
  let bad2 (i : Nat) : Bool :=
    ids.getD i 0 = 2 ^ 64 - 1 || (ids.take i).contains (ids.getD i 0) || ((metas.getD i []).drop (2 + ix.tags)).any (· != 0)
  match src.findIdx? bad1 with
  | some i => some (32, i)
  | none => ((List.range ids.length).find? bad2).map fun i => (40, i)

/-- Put one item into the index, with its refinement vector's page (R296, R309). -/
def RIndex.insert (ix : RIndex) (n : Nat) (x : NewItem) (mt : List Nat) : RIndex :=
  let vp := if ix.refine then some (vecPage (ix.nextVec / ix.vecsPerPage)) else none
  let ix := { ix with nextVec := ix.nextVec + b2n ix.refine }
  ix.append x.list ⟨x.codes, mt.getD 1 0, (mt.drop 2).take ix.tags, mt.headD 0, n, 0, x.vec, vp⟩

/-- Write the refinement pages of an insert, each new one in a T2 object of the index's region; none without room. -/
def State.writeVecs (s : State) (n : Nat) : List Nat → Option State
  | [] => some s
  | p :: t =>
    let ref : PageRef := ⟨true, n, pageKey .index p⟩
    match s.page ref with
    | some x =>
      (match x.upper with
       | .obj o i => State.writeVecs (s.emitPage ref o i) n t
       | .t1 => State.writeVecs s n t)
    | none =>
      match s.pickT2 (s.region (64 + n)) with
      | none => none
      | some o =>
        let i := s.newIdx o
        State.writeVecs ((s.putPage ref ⟨.index, p, .lower, .obj o i, none, 0, s.now, none, false, false, false, 0, false⟩).emitPage
          ref o i) n t

/-- INDEX_INSERT (R294, R296, R303, R305, R318): its entries are written, its encoding is a RECALL item of the winch (R186), and its
sequence waits for its commit. -/
def indexInsert (src : Option (List (List Nat))) (metas : List (List Nat)) (c : Cmd) (s : State) : State :=
  let d := c.desc
  let n := xSlot (idxField c)
  let coded := Desc.byte d 28 = 1
  let bf16 := Desc.byte d 29 = 1
  let count := Desc.num d 24 4
  match s.index n with
  | none => s.finish c.id .badHandle
  | some ix =>
    match ix.refuse with
    | some r => s.finish c.id r.1 r.2
    | none =>
      if coded && ix.refine then s.finish c.id .reservedNonzero 28
      else
        let mt := metas.takeD count []
        let ids := mt.map fun m => m.headD 0
        let pend (v : Option (Status × Nat × Nat)) (err : Nat) (q : Nat) : RPend := ⟨q, c.id, c.ctx, false, v, ids, err⟩
        let void (st : Status) (cause r1 : Nat) : State := s.takeSeq n ix (pend (some (st, cause, r1)) 0)
        match src with
        | none => void .retryLater (hintMs 1) 0
        | some l =>
          let l := l.takeD count []
          match ix.badItem coded bf16 l ids mt with
          | some b => void .reservedNonzero b.1 b.2
          | none =>
            let left := min (s.rd .RCL_CTX_MAX_ENTRIES c.ctx - s.heldBy c.ctx) (2 ^ 32 - s.heldAll)
            if left < count then void .reservedNonzero 24 left
            else
              let items := l.map (ix.item coded bf16)
              let q := ix.nextSeq + 1
              let ix2 := (items.zip mt).foldl (fun ix (p : NewItem × List Nat) => ix.insert q p.1 p.2) ix
              let vps := if ix.refine then (List.range count).map (fun i => vecPage ((ix.nextVec + i) / ix.vecsPerPage)) else []
              let blocks := (ix2.lists.filterMap fun (p : Nat × List RBlock) =>
                if ix.chain p.1 = p.2 then none else some ((p.2.filter fun b => b.entries.any fun e => e.seq = q).map RBlock.page)).flatten
              if s.t1Cap < s.t1Used + (ix2.nextPage - ix.nextPage) then void .retryLater (hintMs 1) 0
              else match (s.setIndex n ix2).writeVecs n vps.eraseDups with
                | none => void .retryLater (hintMs 1) 0
                | some t =>
                  let err := items.foldl (fun a x => if f32Lt a x.err then x.err else a) 0
                  let t := ((t.takeSeq n ix2 (pend none err)).writePages true n .index blocks).sinkIndex n
                  (t.addItem { Item.new .scan .recall c.ctx c.id 0 0 0 0 .ready with ix := some n }).winch s
def execIndexInsert (k : Nat) (src : Option (List (List Nat))) (metas : List (List Nat)) (s : State) :
    Host.Outcome State Fault Refusal :=
  .next (s.begin k 0x41 anyForm anyCmd (s.idxLive idxField) (indexInsert src metas))

/-- INDEX_DELETE (R303, R305). -/
def indexDelete (ids : Option (List Nat)) (c : Cmd) (s : State) : State :=
  let n := xSlot (idxField c)
  match s.index n with
  | none => s.finish c.id .badHandle
  | some ix =>
    match ix.refuse with
    | some r => s.finish c.id r.1 r.2
    | none =>
      match ids with
      | none => s.takeSeq n ix fun q => ⟨q, c.id, c.ctx, true, some (.retryLater, hintMs 1, 0), [], 0⟩
      | some l => s.takeSeq n ix fun q => ⟨q, c.id, c.ctx, true, none, l.takeD (Desc.num c.desc 24 4) 0, 0⟩
def execIndexDelete (k : Nat) (ids : Option (List Nat)) (s : State) : Host.Outcome State Fault Refusal :=
  .next (s.begin k 0x42 anyForm anyCmd (s.idxLive idxField) (indexDelete ids))

/-- INDEX_COMMIT (R303, R305): the next sequence of an index commits. -/
def execIndexCommit (index : Nat) (s : State) : Host.Outcome State Fault Refusal :=
  .next (match s.index (xSlot index) with
    | some ix => if ix.id = index then s.commitNext (xSlot index) else s
    | none => s)

/-! ### Queries -/

/-- A query as it starts (R302, R307 steps 1 to 3). -/
def RIndex.query (ix : RIndex) (bf16 : Bool) (nprobe widen stride : Nat) (raw : List Nat) (filter : Nat) : RQuery :=
  let x := (raw.takeD ix.dim 0).map fun e => if bf16 then f32OfBf16 e else e
  let f := if stride = 0 then 0 else filter % 2 ^ (8 * stride)
  let bad := if stride = 0 then none else filterFault f stride ix.tags
  let keys := (List.range ix.nlist).map fun l => (distKey (ix.coarse x l), l)
  let order := ((sortBy (fun (a b : Int × Nat) => decide (a.1 ≤ b.1)) keys).take widen).map Prod.snd
  ⟨x, f, bad, order, 0, if bad.isSome then [] else order.take nprobe, 0, 0, [], false, none, false, false⟩

/-- Invalid queries are closed with their record at once (R302, R311). -/
def State.closeBad (s : State) (r : RRun) : State × RRun :=
  let go := r.queries.foldl (fun (a : State × List RQuery) q =>
    match q.bad with
    | some o => let b := a.1.shutQuery r a.2.length q .reservedNonzero o; (b.1, a.2 ++ [b.2])
    | none => (a.1, a.2 ++ [q])) (s, [])
  (go.1, { r with queries := go.2 })

/-- RECALL_QUERY (R293, R304, R307). -/
def recallQuery (queries : Option (List (List Nat))) (filters : List Nat) (c : Cmd) (s : State) : State :=
  let d := c.desc
  let n := xSlot (idxField c)
  let nq := Desc.num d 24 2
  let np := Desc.num d 28 2
  let wl := Desc.num d 32 4
  let stride := Desc.num d 36 4
  match s.index n with
  | none => s.finish c.id .badHandle
  | some ix =>
    if !ix.ready then s.finish c.id .reservedNonzero 16
    else if ix.nlist < np then s.finish c.id .reservedNonzero 28
    else if ix.nlist < wl then s.finish c.id .reservedNonzero 32
    else match queries with
      | none => s.finish c.id .retryLater (hintMs 1)
      | some l =>
        let qs := ((l.takeD nq []).zip (filters.takeD nq 0)).map fun (p : List Nat × Nat) =>
          ix.query (Desc.flag d 8) np wl stride p.1 p.2
        let r : RRun := ⟨c.id, c.ctx, n, ix.cseq, Desc.num d 26 2, np, wl, Desc.num d 30 2, Desc.num d 56 8, 1, 0, qs⟩
        let s := (s.bump .RCL_CNT_COUNT 0 0 nq).bump .RCL_CTX_CNT_COUNT c.ctx 1 nq
        if ix.failed.isSome then
          s.failRun r .tierFail ix.failCause
        else
          let a := s.closeBad r
          let s := a.1.setRcl { a.1.rcl with runs := a.1.rcl.runs ++ [a.2] }
          if a.2.queries.all RQuery.closed then s.endRun a.2
          else
            let old := s
            (s.formRound a.2 ix).winch old
def execRecallQuery (k : Nat) (queries : Option (List (List Nat))) (filters : List Nat) (s : State) :
    Host.Outcome State Fault Refusal :=
  .next (s.begin k 0x43 anyForm anyCmd (s.idxLive idxField) (recallQuery queries filters))

/-- A query that is closed: refinement, its record, its counters (R307 step 6, R309 to R311). -/
def State.closeQuery (s : State) (ix : RIndex) (r : RRun) (qn : Nat) (q : RQuery) (unread : List Nat) : State × RQuery :=
  let res := ix.refined q r unread
  let all := if ix.refine && decide (0 < r.refine) then q.best.take r.refine else []
  let missed := (all.filter fun c => match c.vpage with | some p => unread.contains p | none => true).length
  let v := q.verdict r ix.nlist res.length
  let s := (s.bump .RCL_CNT_COUNT 7 0 (all.length - missed)).bump .RCL_CNT_COUNT 8 0 missed
  let s := s.bump .RCL_CNT_COUNT 1 0 (b2n (decide (v.1 = .partialDone)))
  (s.writeQuery r qn q v.1 v.2 res (decide (0 < missed)), { q with closed := true, ok := v.1 = .ok })

/-- One open query at the end of a round (R307 step 5): closed, or its next lists. -/
def State.roundQuery (s : State) (ix : RIndex) (r : RRun) (unread : List Nat) (qn : Nat) (q : RQuery) : State × RQuery :=
  if q.closed then (s, q)
  else
    let a := q.scan r ix
    let s := (s.bump .RCL_CNT_COUNT 3 0 (a.1.scanned - q.scanned)).bump .RCL_CTX_CNT_COUNT r.ctx 0 (a.1.scanned - q.scanned)
    let s := s.bump .MTR_LIVE_COUNT r.ctx 12 (a.1.scanned - q.scanned)
    let s := (s.bump .RCL_CNT_COUNT 6 0 a.2.1).bump .RCL_CNT_COUNT 5 0 a.2.2
    if r.k ≤ a.1.matched ∨ r.widen ≤ a.1.probed ∨ ix.nlist ≤ a.1.probed then s.closeQuery ix r qn a.1 unread
    else (s.bump .RCL_CNT_COUNT 2 0 1, { a.1.next r with widened := true })

/-- The refinement pages that a round could not read become LOST (R309, R167). -/
def State.loseVecs (s : State) (n : Nat) (ps : List Nat) : State :=
  ps.foldl (fun s p =>
    let ref : PageRef := ⟨true, n, pageKey .index p⟩
    match s.page ref with
    | some x => (s.putPage ref { x with st := .lost }).bump .TIER_CNT_COUNT 11 0 1
    | none => s) s
/-- The pages of refinement vectors that are LOST. -/
def State.lostVecs (s : State) (n : Nat) : List Nat :=
  (s.ownerPages true n).filterMap fun (q : Nat × Page) => if q.2.st = .lost && q.2.num ≥ 2 ^ 36 then some q.2.num else none

/-- QUERY_ROUND_END (R307): `unread` are the refinement pages whose read failed, with the object of each. -/
def queryRoundEnd (k : Nat) (unread : List (Nat × Nat)) (s : State) : State :=
  match s.run? k with
  | none => s
  | some r =>
    if s.gore.items.any (runItem k) then s
    else match s.index r.slot with
      | none => s
      | some ix =>
        let s := s.loseVecs r.slot (unread.map Prod.fst)
        let lost := s.lostVecs r.slot
        let go := r.queries.foldl (fun (a : State × List RQuery) q =>
          let b := a.1.roundQuery ix r lost a.2.length q
          (b.1, a.2 ++ [b.2])) (s, [])
        let r := { r with queries := go.2, round := r.round + 1 }
        let s := go.1.setRun r
        if r.queries.all RQuery.closed then s.endRun r
        else (s.formRound r ix).winch s
def execQueryRoundEnd (dt k : Nat) (unread : List (Nat × Nat)) (s : State) : Host.Outcome State Fault Refusal :=
  .next (queryRoundEnd k unread (s.pass dt))

/-! ### Compaction (R306) -/

/-- COMPACTION_START: the compaction of a list whose reclaimable entries reach COMPACT_PCT becomes a RECALL item of the owning context.
The item stands for no command: its step is 2^60 + the list. -/
def compactionStart (n l : Nat) (s : State) : State :=
  match s.index n with
  | none => s
  | some ix =>
    let es := chainEntries (ix.chain l)
    let f := s.floorSeq n ix
    let dead := (es.filter fun e => e.reclaimable f).length
    if dead = 0 || dead * 100 < s.rd .RCL_CFG_COMPACT_PCT * es.length || ix.failed.isSome ||
        s.gore.items.any (fun i => runItem (2 ^ 60 + l) i && i.ix = some n) then s
    else (s.addItem { Item.new .scan .recall (hCtx ix.id) (2 ^ 60 + l) 0 0 0 0 .ready with ix := some n }).winch s
def execCompactionStart (slot list : Nat) (s : State) : Host.Outcome State Fault Refusal :=
  .next (compactionStart slot list s)

/-- COMPACTION_OLD_CHAIN_FREE (R306). -/
def execCompactionOldChainFree (slot list : Nat) (s : State) : Host.Outcome State Fault Refusal := .next (s.freeOld slot list)

/-! ### Helper models -/

/-- No encoder run of the slot that was accepted before is under way (R318). -/
def State.encIdle (s : State) (c : Cmd) : Bool :=
  !(s.rcl.encs.any fun r => r.slot = Desc.handle c.desc % 16)
/-- Images put aside that no accepted run uses any more are freed. -/
def HelperSlot.drop (s : State) (n : Nat) (h : HelperSlot) : HelperSlot × Nat :=
  let used (o : OldImage) : Bool :=
    s.hti.cmds.any fun d => d.op = 0x45 && d.phase != .done && Desc.byte d.desc 16 = n && decide (d.id < o.before)
  ({ h with olds := h.olds.filter used }, (h.olds.filter fun o => !used o).foldl (fun a o => a + o.bytes) 0)

/-- HELPER_LOAD LOAD (R202, R313 to R315, R318). -/
def helperLoad (src : SrcRead) (c : Cmd) (s : State) : State :=
  let d := c.desc
  let n := Desc.handle d % 16
  let len := Desc.num d 32 8
  let old := Map.find s.rcl.helpers n
  if (match old with | some h => s.foreign c h.owner | none => false) then s.finish c.id .authFail 3
  else match s.readImage c.ctx (Desc.flag d 9) (Desc.num d 16 8) (Desc.num d 24 8) len src with
    | .inr r => s.finish c.id r.1 r.2
    | .inl m =>
      let fail (code : Nat) : State := s.finish c.id .reservedNonzero 32 0 code
      match helperCheck m len with
      | some e => fail e
      | none =>
        let bytes := Config.imageBytes 2 len
        let oldBytes := match old with | some h => h.bytes | none => 0
        let inLimit := decide (s.helperBytes - oldBytes + bytes ≤ s.rd .GORE_HELPER_T1_GIB * 2 ^ 30)
        let inRsv := s.rsvFits oldBytes bytes
        let s := if inLimit && !inRsv then s.rsvFull else s
        let put (b : Nat) (t2 : List (Nat × Nat)) : State :=
          let aside : List OldImage := match old with
            | some h => if s.hti.cmds.any (fun e => e.op = 0x45 && e.phase = .waiting && Desc.byte e.desc 16 = n)
                then h.olds ++ [⟨s.hti.nextCmd, h.data, 0⟩] else h.olds
            | none => []
          let s := (match old with | some h => s.lendPages h.t2 true | none => s)
          let s := ((s.rsvSwap oldBytes b).lendPages t2 false).setHelper n (some ⟨c.ctx, m, b, t2, aside⟩)
          s.finish c.id .ok 0 bytes 0 (b2n (!t2.isEmpty))
        if inLimit && inRsv then put bytes []
        else match s.helperT2 ((bytes + 65535) / 65536) with
          | some t2 => put 0 t2
          | none => if inLimit then s.finish c.id .retryLater (hintMs 1) else fail 7
def execHelperLoadLoad (k : Nat) (src : SrcRead) (s : State) : Host.Outcome State Fault Refusal :=
  .next (s.begin k 0x46 (opOf 8 8 0) s.encIdle anyCmd (helperLoad src))

/-- HELPER_LOAD REMOVE (R318). -/
def helperRemove (c : Cmd) (s : State) : State :=
  let n := Desc.handle c.desc % 16
  match Map.find s.rcl.helpers n with
  | none => s.finish c.id .badHandle
  | some h =>
    if s.foreign c h.owner then s.finish c.id .authFail 3
    else (((s.rsvSwap h.bytes 0).lendPages h.t2 true).setHelper n none).finish c.id .ok
def execHelperLoadRemove (k : Nat) (s : State) : Host.Outcome State Fault Refusal :=
  .next (s.begin k 0x46 (opOf 8 8 1) s.encIdle anyCmd helperRemove)

/-- ENCODER_RUN (R316 to R318). -/
def encoderRun (tokens : Option (List Nat)) (offs : List Nat) (c : Cmd) (s : State) : State :=
  let d := c.desc
  let n := Desc.byte d 16
  let ns := Desc.num d 18 2
  match s.helperFor n c.id with
  | none => s.finish c.id .reservedNonzero 16
  | some m =>
    match tokens with
    | none => s.finish c.id .retryLater (hintMs 1)
    | some l =>
      let o := offs.takeD (ns + 1) 0
      let l := l.takeD (o.getD ns 0) 0
      let len (i : Nat) : Nat := if i = 0 && o.getD 0 0 != 0 then 0 else o.getD (i + 1) 0 - o.getD i 0
      match (List.range ns).find? fun i => len i = 0 || decide (Img.u16 m 20 < len i) || decide (262144 < o.getD (i + 1) 0) with
      | some i => s.finish c.id .reservedNonzero 32 i
      | none =>
        match l.findIdx? fun t => decide (Img.u32 m 16 ≤ t) with
        | some i => s.finish c.id .reservedNonzero 24 i
        | none =>
          let r : EncRun := ⟨c.id, n, m, 0, (List.range ns).map fun i => (l.drop (o.getD i 0)).take (len i)⟩
          let s := s.setRcl { s.rcl with encs := s.rcl.encs ++ [r] }
          (s.layerItem c.ctx r).winch s
def execEncoderRun (k : Nat) (tokens : Option (List Nat)) (offs : List Nat) (s : State) : Host.Outcome State Fault Refusal :=
  .next (s.begin k 0x45 anyForm anyCmd anyCmd (encoderRun tokens offs))

/-! ### Clears -/

/-- RCL_CNT_CLR and RCL_CTX_CNT_CLR (R29). -/
def execRclCntClr (value : Nat) (s : State) : Host.Outcome State Fault Refusal :=
  .next (s.hostWrite .RCL fun s => if bitAt value 0 then s.zeroAll .RCL_CNT_COUNT else s)
def execRclCtxCntClr (value : Nat) (s : State) : Host.Outcome State Fault Refusal :=
  .next (s.hostWrite64 .RCL_CTX_CNT_CLR_CTX 0 value fun s => s.zeroRows .RCL_CTX_CNT_COUNT value)

end Sys2Proof.Machine
end

