-- ==== Sys2Proof/Machine/Sha.lean ====
section
/-! DEFINITION. SHA-384 (FIPS 180-4), of which the specification makes measurements, key hashes and signatures (spec/14 R404, spec/15 R427,
R432, spec/17 R467, R468). A byte string is a number, the first byte lowest. -/

namespace Sys2Proof.Machine

/-- The constants K of the eighty rounds. -/
def shaK0 : List Nat :=
  [0x428a2f98d728ae22, 0x7137449123ef65cd, 0xb5c0fbcfec4d3b2f, 0xe9b5dba58189dbbc,
    0x3956c25bf348b538, 0x59f111f1b605d019, 0x923f82a4af194f9b, 0xab1c5ed5da6d8118,
    0xd807aa98a3030242, 0x12835b0145706fbe, 0x243185be4ee4b28c, 0x550c7dc3d5ffb4e2,
    0x72be5d74f27b896f, 0x80deb1fe3b1696b1, 0x9bdc06a725c71235, 0xc19bf174cf692694]
def shaK1 : List Nat :=
  [0xe49b69c19ef14ad2, 0xefbe4786384f25e3, 0x0fc19dc68b8cd5b5, 0x240ca1cc77ac9c65,
    0x2de92c6f592b0275, 0x4a7484aa6ea6e483, 0x5cb0a9dcbd41fbd4, 0x76f988da831153b5,
    0x983e5152ee66dfab, 0xa831c66d2db43210, 0xb00327c898fb213f, 0xbf597fc7beef0ee4,
    0xc6e00bf33da88fc2, 0xd5a79147930aa725, 0x06ca6351e003826f, 0x142929670a0e6e70]
def shaK2 : List Nat :=
  [0x27b70a8546d22ffc, 0x2e1b21385c26c926, 0x4d2c6dfc5ac42aed, 0x53380d139d95b3df,
    0x650a73548baf63de, 0x766a0abb3c77b2a8, 0x81c2c92e47edaee6, 0x92722c851482353b,
    0xa2bfe8a14cf10364, 0xa81a664bbc423001, 0xc24b8b70d0f89791, 0xc76c51a30654be30,
    0xd192e819d6ef5218, 0xd69906245565a910, 0xf40e35855771202a, 0x106aa07032bbd1b8]
def shaK3 : List Nat :=
  [0x19a4c116b8d2d0c8, 0x1e376c085141ab53, 0x2748774cdf8eeb99, 0x34b0bcb5e19b48a8,
    0x391c0cb3c5c95a63, 0x4ed8aa4ae3418acb, 0x5b9cca4f7763e373, 0x682e6ff3d6b2b8a3,
    0x748f82ee5defb2fc, 0x78a5636f43172f60, 0x84c87814a1f0ab72, 0x8cc702081a6439ec,
    0x90befffa23631e28, 0xa4506cebde82bde9, 0xbef9a3f7b2c67915, 0xc67178f2e372532b]
def shaK4 : List Nat :=
  [0xca273eceea26619c, 0xd186b8c721c0c207, 0xeada7dd6cde0eb1e, 0xf57d4f7fee6ed178,
    0x06f067aa72176fba, 0x0a637dc5a2c898a6, 0x113f9804bef90dae, 0x1b710b35131c471b,
    0x28db77f523047d84, 0x32caab7b40c72493, 0x3c9ebe0a15c9bebc, 0x431d67c49c100d4c,
    0x4cc5d4becb3e42b6, 0x597f299cfc657e2a, 0x5fcb6fab3ad6faec, 0x6c44198c4a475817]
def shaK : List Nat := shaK0 ++ shaK1 ++ shaK2 ++ shaK3 ++ shaK4
/-- The first hash value of SHA-384. -/
def shaInit : List Nat :=
  [0xcbbb9d5dc1059ed8, 0x629a292a367cd507, 0x9159015a3070dd17, 0x152fecd8f70e5939,
    0x67332667ffc00b31, 0x8eb44a8768581511, 0xdb0c2e0d64f98fa7, 0x47b5481dbefa4fa4]

def rotr64 (n x : Nat) : Nat := x / 2 ^ n + x % 2 ^ n * 2 ^ (64 - n)
def xor3 (a b c : Nat) : Nat := Nat.xor (Nat.xor a b) c
/-- The words of the message schedule: `w` holds the last sixteen, the newest first. -/
def shaSchedule : Nat → List Nat → List Nat
  | 0, _ => []
  | n + 1, w =>
    let a := w.getD 1 0
    let b := w.getD 14 0
    let v := (xor3 (rotr64 19 a) (rotr64 61 a) (a / 2 ^ 6) + w.getD 6 0 + xor3 (rotr64 1 b) (rotr64 8 b) (b / 2 ^ 7) + w.getD 15 0) % 2 ^ 64
    v :: shaSchedule n (v :: w.take 15)
/-- The rounds: the eight working variables, each round's constant with its word. -/
def shaRounds : List Nat → List (Nat × Nat) → List Nat
  | [a, b, c, d, e, f, g, h], kw :: t =>
    let t1 := h + xor3 (rotr64 14 e) (rotr64 18 e) (rotr64 41 e) + Nat.xor (Nat.land e f) (Nat.land (2 ^ 64 - 1 - e) g) + kw.1 + kw.2
    let t2 := xor3 (rotr64 28 a) (rotr64 34 a) (rotr64 39 a) + xor3 (Nat.land a b) (Nat.land a c) (Nat.land b c)
    shaRounds [(t1 + t2) % 2 ^ 64, a, b, c, (d + t1) % 2 ^ 64, e, f, g] t
  | l, _ => l
/-- One 128-byte block. -/
def shaBlock (h : List Nat) (x : Nat) : List Nat :=
  let w := (List.range 16).map fun i => flipBytes 8 (tileField x (8 * i) 8)
  ((shaRounds h (shaK.zip (w ++ shaSchedule 64 w.reverse))).zip h).map fun (p : Nat × Nat) => (p.1 + p.2) % 2 ^ 64
/-- `k` blocks. -/
def shaBlocks : Nat → Nat → List Nat → List Nat
  | 0, _, h => h
  | k + 1, x, h => shaBlocks k (x / 2 ^ 1024) (shaBlock h (x % 2 ^ 1024))
/-- SHA-384 of `n` bytes: its 48 bytes. -/
def sha384 (n x : Nat) : Nat :=
  let k := (n + 144) / 128
  let h := shaBlocks k (x + 0x80 * 2 ^ (8 * n) + flipBytes 16 (8 * n) * 2 ^ (8 * (128 * k - 16))) shaInit
  packWords 8 ((h.take 6).map fun v => flipBytes 8 v)

end Sys2Proof.Machine
end

