-- ==== Sys2Proof/Machine/P384.lean ====
section
/-! DEFINITION. ECDSA on P-384 (FIPS 186-5, SP 800-186), with which the Flewick signs meter records and measurement reports and verifies
configuration images (spec/14 R404, spec/15 R427, R432, spec/17 R467). A point is a pair of coordinates, none at infinity. -/

namespace Sys2Proof.Machine

/-- The field, the coefficient b, the order and the base point of the curve y² = x³ − 3x + b. -/
def p384P : Nat := 2 ^ 384 - 2 ^ 128 - 2 ^ 96 + 2 ^ 32 - 1
def p384B : Nat := 0xb3312fa7e23ee7e4988e056be3f82d19181d9c6efe8141120314088f5013875ac656398d8a2ed19d2a85c8edd3ec2aef
def p384N : Nat := 0xffffffffffffffffffffffffffffffffffffffffffffffffc7634d81f4372ddf581a0db248b0a77aecec196accc52973
def p384G : Nat × Nat :=
  (0xaa87ca22be8b05378eb1c71ef320ad746e1d3b628ba79b9859f741e082542a385502f25dbf55296c3a545e3872760ab7,
    0x3617de4a96262c6f5d9e98bf9292dc29f8f41dbd289a147ce9da3113b5f0b8c00a60b1ce1d7e819d7a431d7c90ea0e5f)

/-- The power of `a` with the lowest `n` bits of the exponent `e`, times `z`, modulo `m`. -/
def powMod (m : Nat) : Nat → Nat → Nat → Nat → Nat
  | 0, _, _, z => z
  | n + 1, a, e, z => powMod m n (a * a % m) (e / 2) (if e % 2 = 1 then z * a % m else z)
/-- The inverse modulo a prime below 2^384. -/
def invMod (m a : Nat) : Nat := powMod m 384 (a % m) (m - 2) 1
def subMod (m a b : Nat) : Nat := (a + (m - b % m)) % m

/-- Whether a pair is a point of the curve. -/
def p384On (q : Nat × Nat) : Bool :=
  decide (q.1 < p384P) && decide (q.2 < p384P) && decide ((q.2 * q.2 + 3 * q.1) % p384P = (q.1 * q.1 * q.1 + p384B) % p384P)
/-- The third point of the line with slope `l` through `a`, mirrored. -/
def p384Third (l : Nat) (a b : Nat × Nat) : Option (Nat × Nat) :=
  let x := subMod p384P (subMod p384P (l * l) a.1) b.1
  some (x, subMod p384P (l * subMod p384P a.1 x) a.2)
/-- The sum of two points. -/
def p384Add : Option (Nat × Nat) → Option (Nat × Nat) → Option (Nat × Nat)
  | none, q => q
  | q, none => q
  | some a, some b =>
    if a.1 = b.1 then
      if (a.2 + b.2) % p384P = 0 then none
      else p384Third (subMod p384P (3 * a.1 * a.1) 3 * invMod p384P (2 * a.2) % p384P) a b
    else p384Third (subMod p384P b.2 a.2 * invMod p384P (subMod p384P b.1 a.1) % p384P) a b
/-- `z` and the multiple of `q` by the lowest `n` bits of `k`. -/
def p384Mul : Nat → Nat → Option (Nat × Nat) → Option (Nat × Nat) → Option (Nat × Nat)
  | 0, _, _, z => z
  | n + 1, k, q, z => p384Mul n (k / 2) (p384Add q q) (if k % 2 = 1 then p384Add z q else z)

/-- The pair that 96 bytes give: each coordinate the most significant byte first. -/
def pairOfBytes (x : Nat) : Nat × Nat := (flipBytes 48 (tileField x 0 48), flipBytes 48 (tileField x 48 48))
/-- Whether 96 bytes are a point of P-384 (R467). -/
def onCurve (key : Nat) : Bool := p384On (pairOfBytes key)
/-- Whether 96 bytes are a signature of a hash under a public key. -/
def ecdsaVerify (key hash sig : Nat) : Bool :=
  let q := pairOfBytes key
  let r := pairOfBytes sig
  let w := invMod p384N r.2
  p384On q && decide (0 < r.1 ∧ r.1 < p384N ∧ 0 < r.2 ∧ r.2 < p384N) &&
    match p384Mul 384 (r.1 * w % p384N) (some q) (p384Mul 384 (flipBytes 48 hash * w % p384N) (some p384G) none) with
    | some t => decide (t.1 % p384N = r.1)
    | none => false
/-- The signature of a hash by a private key with the secret number `k` (log 12): 96 bytes. -/
def ecdsaSign (d hash k : Nat) : Nat :=
  match p384Mul 384 k (some p384G) none with
  | some t =>
    let r := t.1 % p384N
    flipBytes 48 r + flipBytes 48 (invMod p384N k * ((flipBytes 48 hash + r * d) % p384N) % p384N) * 2 ^ 384
  | none => 0
/-- A signature by the device identity key (R404), its secret number drawn from the random source. -/
def deviceSign (hash draw : Nat) : Nat := ecdsaSign (1 + Config.deviceKey % (p384N - 1)) hash (1 + draw % (p384N - 1))

end Sys2Proof.Machine
end

