-- ==== Sys2Proof/Machine/FleetOps.lean ====
section
/-! DEFINITION. Roles, admission and metering (spec/14): the role taking effect (R388, R199), the auto-shift (R396, R397),
running short (R392 to R395), compositions and meter records (R400 to R405). -/

namespace Sys2Proof.Machine

def State.setFleet (s : State) (f : Fleet) : State := { s with fleet := f }

/-! ### Running short (R392 to R395) -/

def State.isShort (s : State) : Bool := s.on .CTL_ADM_STS_SHORT
/-- Free session descriptors: slots neither in use nor retired (R80). -/
def State.freeDescs (s : State) : Nat :=
  Config.descriptors - s.liveCount - (List.filter (fun (p : Nat × Nat) => decide (p.2 > 0xFFFF)) s.ses.reuse).length
/-- An INTERACTIVE session is ALOFT. -/
def State.interAloft (s : State) : Bool := s.ses.tab.any fun p => p.2.st = .aloft && p.2.interactive
/-- The sum of the three BATCH counters. -/
def State.batchSum (s : State) : Nat := s.rd .CTL_ADM_CNT_COUNT 2 + s.rd .CTL_ADM_CNT_COUNT 3 + s.rd .CTL_ADM_CNT_COUNT 4

/-- Raise ROLE_SHIFT_REQUEST, at most once per SHIFT_EVENT_MS (R395). -/
def State.askShift (s : State) : State :=
  let early := match s.fleet.asked with
    | some t => decide (s.now < t + 100000 * s.rd .CTL_ADM_CFG_SHIFT_EVENT_MS)
    | none => false
  if early then s
  else
    let s := (s.setFleet { s.fleet with asked := some s.now }).bump .CTL_ADM_CNT_COUNT 6 0 1
    s.mgmtEvent 0x10 (packBytes [(0, s.rd .CTL_ADM_STS_CAUSE), (1, s.rd .GORE_ROLE_ROLE), (2, s.floor .attn),
      (3, s.floor .assist), (4, s.floor .recall), (8, s.aloftCount), (12, s.freeDescs),
      (16, s.rd .CTL_ADM_CNT_COUNT 5 - s.fleet.shortInt), (24, s.batchSum - s.fleet.shortBatch)])

/-- An INTERACTIVE create, revive or arrival is admitted (R395, R396). -/
def State.admitInter (s : State) : State :=
  let s := s.setFleet { s.fleet with seen := true }
  if s.isShort then (s.bump .CTL_ADM_CNT_COUNT 5 0 1).askShift else s

/-- Gauges crossed (R392): DESC, ALOFT, T1, ATTN. -/
def State.gauges (s : State) : Nat :=
  let lim := s.rd .CTL_ADM_LIM_DESC_MIN
  let head := s.rd .CTL_ADM_LIM_ALOFT_HEAD
  let pct := s.rd .CTL_ADM_LIM_T1_PCT
  let us := s.rd .CTL_ADM_LIM_ATTN_WAIT_US
  b2n (lim != 0 && decide (s.freeDescs < lim)) +
    2 * b2n (head != 0 && decide (s.aloftCount > Config.aloftMax - head)) +
    4 * b2n (pct != 0 && decide (s.t1Used * 100 ≥ pct * s.t1Cap)) +
    8 * b2n (us != 0 && s.gore.items.any fun i =>
      i.cls = .attn && i.dispatchable && decide (s.now - i.readyAt > 100 * us))

/-! ### Roles and the auto-shift -/

/-- One shift of SHIFT_PCT points (R396): from RECALL, then from ASSIST, within MIN_FLOOR and MAX_SHIFT_PCT. -/
def State.shiftUp (s : State) : State :=
  let b := s.baseFloors
  let m := s.rd .CTL_ADM_CFG_MIN_FLOOR
  let l := s.fleet.taken
  let total := takenOf true l + takenOf false l
  let n := min (s.rd .CTL_ADM_CFG_SHIFT_PCT) (s.rd .CTL_ADM_CFG_MAX_SHIFT_PCT - total)
  let r := min n (b.2.2 - takenOf true l - m)
  let a := min (n - r) (b.2.1 - takenOf false l - m)
  let add (q : Bool) (k : Nat) (l : List (Bool × Nat)) : List (Bool × Nat) := if k = 0 then l else (q, k) :: l
  if r + a = 0 then s
  else ((s.setFleet { s.fleet with taken := add false a (add true r l) }).refreshFloors).bump .CTL_ADM_CNT_COUNT 7 0 1

/-- Points of a list of takings given back, last first. -/
def giveBack : Nat → List (Bool × Nat) → List (Bool × Nat)
  | _, [] => []
  | n, p :: t => if n = 0 then p :: t else if p.2 ≤ n then giveBack (n - p.2) t else (p.1, p.2 - n) :: t

/-- A moment of R396 and R397: a step boundary, or an evaluation with no step in flight. -/
def State.autoShift (s : State) : State :=
  let s :=
    if s.isShort then
      if s.on .CTL_ADM_CFG_AUTO_SHIFT && (s.fleet.seen || s.interAloft) then s.shiftUp else s
    else if !s.fleet.taken.isEmpty && decide (s.fleet.clearAt + 100000 * s.rd .CTL_ADM_CFG_RELAX_MS ≤ s.now) then
      ((s.setFleet { s.fleet with taken := giveBack (s.rd .CTL_ADM_CFG_SHIFT_PCT) s.fleet.taken }).refreshFloors).bump
        .CTL_ADM_CNT_COUNT 8 0 1
    else s
  s.setFleet { s.fleet with seen := s.interAloft }

/-- The mix that a ROLE_SET would write (R388): none with KEEP_MIX or a role other than MIXED. -/
def mixOf (d : Desc) : Option (Nat × Nat × Nat) :=
  if Desc.byte d 16 = 3 && !Desc.flag d 8 then some (Desc.byte d 17, Desc.byte d 18, Desc.byte d 19) else none

/-- The waiting role takes effect and its ROLE_SET completes (R388, R199). -/
def State.roleNow (s : State) : State :=
  match s.fleet.roleSet with
  | none => s
  | some k =>
    match s.cmd k with
    | none => (s.setFleet { s.fleet with roleSet := none }).wr .GORE_ROLE_PENDING_VALID 0 0 0
    | some c =>
      let before := s.rd .GORE_ROLE_ROLE
      let s := (s.wr .GORE_ROLE_ROLE 0 0 (Desc.byte c.desc 16)).wr .GORE_ROLE_PENDING_VALID 0 0 0
      let s := match mixOf c.desc with
        | some m => ((s.wr .GORE_ROLE_MIX_ATTN 0 0 m.1).wr .GORE_ROLE_MIX_ASSIST 0 0 m.2.1).wr .GORE_ROLE_MIX_RECALL 0 0 m.2.2
        | none => s
      let s := ((s.setFleet { s.fleet with roleSet := none, taken := [] }).refreshFloors).bump .GORE_CNT_COUNT 12 0 1
      s.finish k .ok 0 (before + 4 * s.rd .GORE_ROLE_ROLE)

/-! ### Metering (R400 to R405) -/

def MComp.first : MComp := ⟨0, 0, 0, true⟩
def State.comp (s : State) (c : Nat) : MComp := (Map.find s.fleet.comps c).getD MComp.first
def State.meters (s : State) (c : Nat) : List Nat := (List.range 14).map fun k => s.rd .MTR_LIVE_COUNT c k
/-- The host port bound to a context, or 0xFF. -/
def State.boundPort (s : State) (c : Nat) : Nat := if s.on .HTI_CTX_EN c then s.port c else 0xFF

/-- The 288 bytes of a meter record with its signature by the device identity key (R403, R404). -/
def State.meterRecord (s : State) (c kind why : Nat) (p : MComp) (port seq end_ : Nat) (gap : Bool) (ms : List Nat) : Nat :=
  let body := packBytes [(0, 0x4C42524D), (4, 1), (5, kind), (6, why), (7, c), (8, s.myId), (10, p.bootgen),
    (11, s.rd .GORE_ROLE_ROLE), (12, port), (13, b2n gap + 2 * b2n p.unbound), (16, p.tag), (24, seq),
    (32, p.start % 2 ^ 48), (40, end_ % 2 ^ 48), (64, packWords 8 ms)]
  body + deviceSign (sha384 192 body) s.free * 2 ^ 1536

/-- Records held, and of those the ones not acknowledged (MTR_ARCH). -/
def State.unacked (s : State) : Nat := (s.fleet.arch.filter fun r => !r.acked).length
def State.refreshArch (s : State) : State :=
  (s.wr .MTR_ARCH_HELD 0 0 s.fleet.arch.length).wr .MTR_ARCH_UNACKED 0 0 s.unacked

/-- Put a final record in the archive (R405). -/
def State.archive (s : State) (r : MRec) : State :=
  let l := s.fleet.arch
  if l.length < 2696 then (s.setFleet { s.fleet with arch := l ++ [r] }).refreshArch
  else
    match l.findIdx? fun q => q.acked with
    | some i => (s.setFleet { s.fleet with arch := l.eraseIdx i ++ [r] }).refreshArch
    | none =>
      let s := ((s.setFleet { s.fleet with arch := l.drop 1 ++ [r] }).refreshArch).bump .MTR_CNT_COUNT 3 0 1
      s.mgmtEvent 0x14 (packBytes [(0, match l.head? with | some q => q.seq | none => 0)])

/-- Close a composition with its final record (R400): END_REASON 1 UNBOUND, 2 RESET, 3 BOUND. -/
def State.closeComp (s : State) (c why : Nat) (p : MComp) (port end_ : Nat) (gap : Bool) (ms : List Nat) : State :=
  if p.unbound && ms.all (· = 0) then s.bump .MTR_CNT_COUNT 2 0 1
  else
    let seq := s.rd .MTR_SEQ_NEXT
    let r : MRec := ⟨seq, c, false, s.meterRecord c 2 why p port seq end_ gap ms⟩
    let s := ((s.tickFree.wr .MTR_SEQ_NEXT 0 0 (seq + 1)).bump .MTR_CNT_COUNT 0 0 1).archive r
    if gap then s.bump .MTR_CNT_COUNT 5 0 1 else s

/-- Save a context's checkpoint (R402). -/
def State.checkpoint (s : State) (c : Nat) : State :=
  s.setFleet { s.fleet with ckpts := Map.put s.fleet.ckpts c ⟨s.comp c, s.now, s.boundPort c, s.meters c⟩ }

/-- Open the next composition of a context: its meters are zero. -/
def State.openComp (s : State) (c : Nat) (bound : Bool) : State :=
  let p : MComp := ⟨if bound then s.rd .MTR_COMP_TAG c else 0, s.bootgen, s.now, !bound⟩
  let s := s.setFleet { s.fleet with comps := Map.put s.fleet.comps c p, goreRem := Map.del s.fleet.goreRem c }
  let s := (List.range 14).foldl (fun s k => s.wr .MTR_LIVE_COUNT c k 0) s
  let s := (s.wr .MTR_COMP_STS_UNBOUND c 0 (b2n p.unbound)).wr .MTR_COMP_STS_START c 0 s.now
  s.checkpoint c

/-- HTI_CTX[c].EN has changed (R400); `port` is the port of the binding that ends. -/
def State.rebind (s : State) (c port : Nat) : State :=
  let p := s.comp c
  let s := s.closeComp c (if p.unbound then 3 else 1) p (if p.unbound then 0xFF else port) s.now false (s.meters c)
  s.openComp c (s.on .HTI_CTX_EN c)

end Sys2Proof.Machine
end

