-- ==== Sys2Proof/Machine/LinkOps.lean ====
section
/-! DEFINITION. Ring links and bypasses (spec/12 R342 to R345, R353 to R355, R362, R363): links up and down, frames that move,
pairs that open and close. -/

namespace Sys2Proof.Machine

/-! ### Frames that move or are lost -/

/-- A lost frame of a publish ends the publish (R354, VC4). -/
def State.regionLost (s : State) (flow seq : Nat) : State :=
  match s.ring.sent.find? fun m => m.flow = flow && decide (m.lo ≤ seq ∧ seq ≤ m.hi) with
  | none => s
  | some m =>
    let s := s.setRing { s.ring with sent := s.ring.sent.filter fun x => x != m }
    match s.pool.pubs.find? fun p => p.region = m.region with
    | some p => s.endPub p .retryLater (hintMs 1) 0 0
    | none => s

/-- Frames that waited for a route are discarded as unreachable, and a publish that loses one ends (R355, R354). -/
def State.unreachable (s : State) (l : List (RFrame × Nat)) : State :=
  l.foldl (fun s (e : RFrame × Nat) => if e.1.vc = 4 then s.regionLost (flowKey e.1.dst e.1.ctx 4) e.1.seq else s)
    (s.bump .RING_CNT_COUNT 7 0 l.length)
/-- Frames without a route to a Flewick that is not JOINED any more are discarded at once (R355). -/
def State.dropGone (s : State) : State :=
  (s.setRing { s.ring with unrouted := s.ring.unrouted.filter fun (e : RFrame × Nat) => s.isMember e.1.dst }).unreachable
    (s.ring.unrouted.filter fun (e : RFrame × Nat) => !s.isMember e.1.dst)
/-- Frames without a route look for one again. -/
def State.reroute (s : State) : State :=
  let l := s.ring.unrouted
  l.foldl (fun s (e : RFrame × Nat) =>
    match s.route e.1.dst e.1.ctx e.1.vc with
    | some _ => s.routeFrame e.1
    | none => s.setRing { s.ring with unrouted := s.ring.unrouted ++ [e] }) (s.setRing { s.ring with unrouted := [] })

/-- A ring port goes down: its local queues' frames move to their new routes (R369). -/
def State.linkDown (s : State) (p : Nat) : State :=
  if !s.on .RING_PORT_STS_UP p then s
  else
    let s := ((s.wr .RING_PORT_STS_UP p 0 0).wr .RING_PORT_STS_WIDTH p 0 0).bump .RING_PORT_CNT_COUNT p 4 1
    let s := s.wrBit .CTL_READY_RING 0 p false
    let mine := s.ring.locals.filter fun (q : Nat × List QFrame) => q.1 / 512 = p
    let s := s.setRing { s.ring with
      locals := s.ring.locals.filter fun (q : Nat × List QFrame) => q.1 / 512 != p, short := setBitN s.ring.short p false
      replays := Map.del s.ring.replays p }
    mine.foldl (fun s (q : Nat × List QFrame) => q.2.foldl (fun s x => s.routeFrame x.f) s) s

/-! ### HELLO (R357) -/

/-- The member that the map names as leader (R356). -/
def State.leader (s : State) : Nat := s.rd .RING_STS_LEADER
/-- Firmware messages over links and sidebands; none without a fabric key (R422). -/
def State.sendLink (s : State) (dst : Nat) (k : MsgKind) (epoch a b : Nat) (args : List Nat) : State :=
  if s.noKey then s else s.sendRaw dst 0 k 0 epoch a b args
/-- Port bits of this Flewick. -/
def State.linkBits (s : State) : Nat := (List.range 8).foldl (fun a p => a + s.rd .RING_PORT_STS_UP p * 2 ^ p) 0
/-- HELLO to a neighbour: whether this Flewick is a member, its leader, the IDs that it has heard, its own first. -/
def State.sendHello (s : State) (dst : Nat) : State :=
  s.sendLink dst .hello 0 (b2n (s.isMember s.myId)) s.leader
    ([s.myId, s.bootgen, s.linkBits] ++ s.fab.heard.flatMap fun (e : Nat × Nat) => [e.1, e.2 % 64, e.2 / 64])
/-- HELLO to every neighbour that has trained. -/
def State.helloAll (s : State) : State :=
  (List.range 8).foldl (fun s p => if s.on .RING_PORT_STS_UP p then s.sendHello (s.rd .RING_PORT_STS_PEER p) else s) s

/-! ### Bypass pairs (R362, R363) -/

/-- Ports of a pair. -/
def pairPorts (k : Nat) : Nat × Nat := if k = 0 then (0, 1) else if k = 1 then (4, 5) else if k = 2 then (2, 3) else (6, 7)
def pairOf (p : Nat) : Nat := if p % 4 < 2 then p / 4 else 2 + p / 4
def State.bypass (s : State) (k : Nat) : Nat := bitsOf (s.rd .RING_BYP_STATE) (2 * k + 1) (2 * k)
def State.setBypass (s : State) (k v : Nat) : State :=
  let w := s.rd .RING_BYP_STATE
  let s := s.wr .RING_BYP_STATE 0 0 (w - s.bypass k * 2 ^ (2 * k) + v * 2 ^ (2 * k))
  { s with fab := { s.fab with since := Map.put s.fab.since k s.now, paused := s.fab.paused.filter fun x => x / 2 != k } }
def State.present? (s : State) (p : Nat) : Bool := s.on .RING_PORT_STS_PRESENT p
/-- The neighbour beside a port. -/
def State.beside (s : State) (p : Nat) : Nat :=
  let x := s.myId % 32
  let y := s.myId / 32
  if portY p then 32 * stepPos s.dimY y (portNeg p) + x else 32 * y + stepPos s.dimX x (portNeg p)

/-- Close one pair. -/
def State.closePair (s : State) (k : Nat) : State :=
  if s.bypass k = 0 then s
  else
    let s := (s.setBypass k 0).bump .RING_CNT_COUNT 13 0 1
    (s.linkDown (pairPorts k).1).linkDown (pairPorts k).2
def State.closeAll (s : State) : State := (List.range 4).foldl State.closePair s

/-- Whether a pair may leave CLOSED (R362). -/
def State.mayOpen? (s : State) (k : Nat) : Bool :=
  !s.on .RING_STS_CFG_BAD && !s.fab.gone && s.bypass k = 0 && (s.present? (pairPorts k).1 || s.present? (pairPorts k).2)
/-- Start opening: PAUSE goes to each present neighbour on the sideband. -/
def State.startOpen (s : State) (k : Nat) : State :=
  let s := s.setBypass k 1
  [(pairPorts k).1, (pairPorts k).2].foldl (fun s p =>
    if s.present? p then s.sendRaw (s.beside p) 0 .pause 0 0 k p [] else s) s
/-- Every present neighbour of a pair has answered. -/
def State.allPaused (s : State) (k : Nat) : Bool :=
  (!s.present? (pairPorts k).1 || s.fab.paused.contains (2 * k)) && (!s.present? (pairPorts k).2 || s.fab.paused.contains (2 * k + 1))

end Sys2Proof.Machine
end

