-- ==== Sys2Proof/Machine/Failure.lean ====
section
/-! DEFINITION. What lives in the powered dies is lost (spec/18 R491, R494), and the failure of the whole Flewick (spec/01 R37,
spec/18 R492, spec/11 R329, spec/19 R510). -/

namespace Sys2Proof.Machine

/-- All that neither the retention island nor the NVM holds, registers apart: at WARM, POR and a whole-Flewick failure it is
lost. Checkpoints, archives, fabric and enrolled keys stay, and a wear budget resumes as last saved (R169). Links are down: frames on their way
are lost. -/
def State.loseState (s : State) : State :=
  { State.reset with
    regs := s.regs
    boot := s.boot
    pins := s.pins
    pwr := { State.reset.pwr with debt := s.pwr.debt, paidAt := s.pwr.paidAt, lockout := s.pwr.lockout }
    hti := { State.reset.hti with nextCmd := s.hti.nextCmd }
    mbx := { State.reset.mbx with archive := s.mbx.archive, archNext := s.mbx.archNext }
    tier := { State.reset.tier with wear := s.tier.wear.map fun (p : Nat × Wear) =>
      (p.1, { p.2 with ident := p.2.sIdent, budget := p.2.sBudget, acc := p.2.sAcc, written := p.2.sWritten }) }
    fleet := { State.reset.fleet with comps := s.fleet.comps, ckpts := s.fleet.ckpts, arch := s.fleet.arch }
    sec := { State.reset.sec with
      fabric := s.sec.fabric, used := s.sec.used, owner := s.sec.owner, manager := s.sec.manager }
    out := s.out
    fresh := s.fresh
    pending := s.pending }

/-- Root-mode pool ports, as a bit set. -/
def State.rootPorts (s : State) : Nat :=
  (List.range 4).foldl (fun a p => a + b2n (decide (s.rd .POOL_PORT_STS_MODE p = 1)) * 2 ^ p) 0

/-- The Flewick fails as a whole: the capture of R492, the fault LED, closed bypasses, poison and viral on lent memory
while a gondola die has power, drives and switches in reset. Nothing completes any more. -/
def State.wholeFailure (s : State) (die unit code : Nat) (off : Bool) : State :=
  if s.boot.stage = .off || s.boot.stage = .rails then s
  else
    let s := (s.wr .CTL_RST_CAUSE_FAILED 0 0 1).wr .CTL_RST_CAUSE_FAIL_DIE 0 0 die
    let s := { s with boot := { s.boot with
      stage := .failed, failUnit := unit, failCode := code, failRt := s.rd .CTL_RT_TIME_COUNT, failHti := s.now, diesOff := off } }
    let s := s.closeAll.wr .RING_LED_FAULT 0 0 3
    let s := (List.range 4).foldl (fun s p =>
      if !off && s.on .POOL_PORT_STS_UP p && s.rd .POOL_PORT_STS_MODE p = 2 then s.wr .POOL_PORT_STS_VIRAL_OUT p 0 1
      else s.wr .POOL_PORT_STS_UP p 0 0) s
    let s := s.wr .CTL_PIN_STS_FLASH_PERST 0 0 255
    let s := s.wr .CTL_PIN_STS_POOL_PERST 0 0 (Nat.lor (s.rd .CTL_PIN_STS_POOL_PERST) s.rootPorts)
    let lent := s.pool.extents
    let t := s.loseState
    { t with pins := ⟨0, none, none⟩, pool := { t.pool with extents := if off then [] else lent } }

end Sys2Proof.Machine
end

