-- ==== Sys2Proof/Machine/Tiers.lean ====
section
/-! DEFINITION. State tiers (spec/05): pressure and demotion, write-back, heat, wear, TIER_POLICY, TIER_FLUSH, tier
object controls. -/

namespace Sys2Proof.Machine

/-! ### Pressure (R154, R157, R160) -/

/-- A PARKED session with AUTO_DEFLATE whose page can be placed nowhere for want of room or of wear budget is deflated; any other page
stays where it is, and NO_ROOM counts (R94, R160). -/
def State.noPlace (s : State) (ref : PageRef) (w : Nat) : State :=
  let give := !ref.index && !s.ownerNoT3 false ref.own && w != 8 && (match s.sess ref.own with
    | some x => x.owner_ && x.st = .parked && x.autoDeflate && x.pin != 2
    | none => false)
  if give then s.autoDeflate ref.own (if bitAt w 0 then 4 else 3) else s.bump .TIER_CNT_COUNT 9 0 1

/-- A T2 page goes down to T3: its T3 copy stays when it has one, else it is written (R157). -/
def State.demoteT2 (s : State) (ref : PageRef) : State :=
  match s.page ref with
  | none => s
  | some x =>
    match x.st with
    | .clean => s.dropClean ref
    | .lower =>
      if x.writing.isSome || (ref.index && x.num ≥ 2 ^ 36) then s
      else
        let w := s.choose ref { x with lower := none } 3
        let s := s.capCount ref w
        match w with
        | .inl (o, _) =>
          let i := s.newIdx o
          let s := (((s.takeBudget o).emitPage ref o i).setLast ref.index ref.own o).bump .TIER_CNT_COUNT 5 0 1
          s.putPage ref { x with writing := some (.obj o i), again := false, sink := true }
        | .inr w => s.noPlace ref w
    | _ => s

/-- Why a page of T1 cannot go down: 0 when it can. -/
def State.downWhy (s : State) (ref : PageRef) : Nat :=
  match s.page ref with
  | some x =>
    if x.st = .dirty && x.writing.isNone then (match s.choose ref x 0 with | .inl _ => 0 | .inr w => w) else 0
  | none => 0
def State.demoteFrom (s : State) (tier : Nat) (ref : PageRef) : State :=
  if tier != 1 then s.demoteT2 ref
  else
    let w := s.downWhy ref
    if w != 0 then s.noPlace ref w else s.demotePage ref 0

/-- A PARKED session goes down as a whole; with a page that has no place it may be deflated (R94, R160). -/
def State.demoteSession (s : State) (tier : Nat) (x : Session) : State :=
  let refs := (x.pages.filter fun q => q.2.tier = tier).map fun q => PageRef.mk false x.handle q.1
  match (if tier = 1 && x.autoDeflate then refs.find? fun r => s.downWhy r != 0 else none) with
  | some r =>
    let s := s.noPlace r (s.downWhy r)
    refs.foldl (fun s r => s.demoteFrom tier r) s
  | none => refs.foldl (fun s r => s.demoteFrom tier r) s

/-- T1 or T2 pages in use, those on their way down not counted. -/
def State.tierUse (s : State) (tier : Nat) : Nat :=
  (s.allPages.filter fun e => e.2.2.2.tier = tier && !e.2.2.2.sink).length

/-- Demote candidates of a region, or of the region of R157, until the target is reached. The run ends where the region chosen has no candidate
left (log 184). -/
def State.press (s : State) (tier : Nat) (only : Option Nat) (goal : State → Bool) : Nat → List PageRef → List Nat → State
  | 0, _, _ => s
  | fuel + 1, pages, sess =>
    if goal s then s
    else
      match (match only with | some r => some r | none => s.pressRegion tier) with
      | none => s
      | some r =>
        if (s.region r).heat then
          match s.nextPage r tier pages with
          | some ref => State.press (s.demoteFrom tier ref) tier only goal fuel (ref :: pages) sess
          | none => s
        else
          match s.nextSession r tier sess with
          | some x => State.press (s.demoteSession tier x) tier only goal fuel pages (x.handle :: sess)
          | none => s

/-! ### What waits for a place in T1 (R157, R160) -/

/-- The pages of a region that readers wait to bring into T1: those of items, and of REVIVING sessions. -/
def State.wantedReads (s : State) (r : Nat) : Nat :=
  let items := (s.gore.items.filter fun i => i.st = .held || i.st = .waiting).flatMap fun i =>
    (i.pages.filter fun k => !s.pageHere i k).map i.ref
  let rev := (s.ses.tab.filter fun p => p.2.st = .reviving).flatMap fun p => p.2.pages.map fun q => PageRef.mk false p.2.handle q.1
  ((items ++ rev).eraseDups.filter fun ref =>
    ownerRegion ref.index ref.own = r && (match s.page ref with | some p => !p.holdsT1 && !p.reading && p.st != .lost | none => false)).length
/-- The pages that ending step items, KV_APPENDs and seals of a region wait to write. -/
def State.wantedRows (s : State) (r : Nat) : Nat :=
  let need (h : Nat) (keys : List Nat) : Nat := if hCtx h = r then s.newPages false h keys else 0
  let a := s.attn.steps.foldl (fun a t => t.entries.foldl (fun a e =>
    if t.atEnd e then
      a + need e.handle ((List.range t.geo.headLayers).flatMap (openKeys t.geo ((e.pos0 + t.ntok - 1) / 128)))
    else a) a) 0
  let b := s.attn.kvRuns.foldl (fun a k =>
    if k.sealing || k.stream then a
    else a + need k.handle ((List.range k.geo.headLayers).flatMap (openKeys k.geo ((k.first + k.count - 1) / 128)))) 0
  let c := s.gore.items.foldl (fun a i =>
    if i.kind = .seal && i.st = .running then
      (match s.sess i.handle with
       | some x =>
         let g := s.shape x.shape
         a + need i.handle (sealKeys (pad64 x.streamLen) g.rawBytes (tileKey g i.seg i.layer i.head))
       | none => a)
    else a) 0
  a + b + c
/-- Transfers that arrive in a region want a place for the next tile (log 180). -/
def State.wantedShips (s : State) (r : Nat) : Nat :=
  (s.ses.tab.filter fun p => hCtx p.2.handle = r && (match p.2.xfer with | some t => !t.sender && t.phase = .receiving | none => false)).length
def State.wanted (s : State) (r : Nat) : Nat := s.wantedReads r + s.wantedRows r + s.wantedShips r
def State.wantedAll (s : State) : Nat := s.regionsUsed.foldl (fun a r => a + s.wanted r) 0

def State.highUse (s : State) (tier : Nat) : Bool :=
  if tier = 1 then decide (100 * s.tierUse 1 > s.rd .TIER_WM_T1_HIGH * s.t1Cap)
  else decide (100 * s.tierUse 2 > s.rd .TIER_WM_T2_HIGH * s.t2Cap)
def State.lowUse (s : State) (tier : Nat) : Bool :=
  if tier = 1 then decide (100 * s.tierUse 1 ≤ s.rd .TIER_WM_T1_LOW * s.t1Cap)
  else decide (100 * s.tierUse 2 ≤ s.rd .TIER_WM_T2_LOW * s.t2Cap)

/-! ### Vacating (R168) -/

/-- Move one page off an object that takes no new writes. -/
def State.vacatePage (s : State) (o : Nat) (ref : PageRef) : State :=
  match s.page ref with
  | none => s
  | some x =>
    let here (p : Place) : Bool := match p with | .obj o2 _ => o2 = o | .t1 => false
    let low := match x.lower with | some p => here p | none => false
    if x.st = .dirty && low && x.writing.isNone then (s.releasePlace x.lower).putPage ref { x with lower := none }
    else if ((x.st = .lower && here x.upper) || (x.st = .clean && low)) && x.writing.isNone then
      let w := s.choose ref { x with lower := none } 0
      let s := s.capCount ref w
      match w with
      | .inl (o2, _) =>
        let i := s.newIdx o2
        let s := ((s.takeBudget o2).emitPage ref o2 i).setLast ref.index ref.own o2
        let s := s.bump .TIER_CNT_COUNT (if o2 < 32 then 4 else 5) 0 1
        s.putPage ref { x with writing := some (.obj o2 i), again := false }
      | .inr _ => s.bump .TIER_CNT_COUNT 9 0 1
    else s
def State.vacate (s : State) (o : Nat) : State :=
  s.allPages.foldl (fun s e => s.vacatePage o ⟨e.1, e.2.1, e.2.2.1⟩) s
def State.vacateAll (s : State) : State :=
  (List.range 64).foldl (fun s o => if bitAt s.tier.vacating o || bitAt s.pool.leaving o then s.vacate o else s) s

/-- GiB that a LEND_SET still waits for, and whether T1 has room for them once the pages on their way down are gone (R326). -/
def State.lendWaits (s : State) : Nat :=
  match s.pool.lend with | some r => if r.room then 0 else max r.t1 (s.granted false) + r.region | none => 0
def State.lendFits (s : State) : Bool := decide (s.tierUse 1 + 16384 * s.lendWaits ≤ Config.t1Pages)

/-- DEMOTION_START (R157): a watermark of a tier (1 or 2) is exceeded, or a promotion or allocation would take a region beyond its quota or
T1 beyond its pages, or a LEND_SET waits for room. -/
def demotionStart (tier region : Nat) (s : State) : State :=
  let fuel := s.allPages.length + 1
  let w := s.wanted region
  let quota := s.quota region
  let s :=
    if tier = 1 && quota != 0 && decide (quota < s.regionHeld region + w) then
      s.press 1 (some region) (fun s => decide (s.regionUse region 1 + w ≤ quota)) fuel [] []
    else if (tier = 1 || tier = 2) && s.highUse tier then s.press tier none (fun s => s.lowUse tier) fuel [] []
    else if tier = 1 && s.lendWaits != 0 && !s.lendFits then s.press 1 none State.lendFits fuel [] []
    else if tier = 1 && s.wantedAll != 0 && decide (s.t1Cap < s.t1Held + s.wantedAll) then
      let n := s.wantedAll
      s.press 1 none (fun s => decide (s.tierUse 1 + n ≤ s.t1Cap)) fuel [] []
    else s
  s.vacateAll
def execDemotionStart (tier region : Nat) (s : State) : Host.Outcome State Fault Refusal :=
  .next ((demotionStart tier region s).winch s)

/-- DEMOTE_AFTER_EXPIRY (R154). -/
def demoteAfterExpiry (h : Nat) (s : State) : State :=
  match s.sess h with
  | some x =>
    if x.owner_ && x.st = .parked && !(s.region (hCtx h)).heat && x.pin != 1 && s.demoteDue x then s.demoteSession 1 x
    else s
  | none => s
def execDemoteAfterExpiry (dt handle : Nat) (s : State) : Host.Outcome State Fault Refusal :=
  .next ((demoteAfterExpiry handle (s.pass dt)).winch (s.pass dt))

/-! ### TIER_FLUSH (R176) -/

def ownerCode (ix : Bool) (own : Nat) : Nat := 2 * own + b2n ix

/-- Drop the T1 copies that DROP may drop: CLEAN pages of owners that are not ALOFT nor pinned to T1. -/
def State.flushDrop (s : State) (owners : List Nat) : State × Nat :=
  owners.foldl (fun a oc =>
    let ix := oc % 2 = 1
    let own := oc / 2
    let keep := a.1.ownerPin ix own = 1 || (!ix && match a.1.sess own with | some x => x.st = .aloft | none => true)
    if keep then a
    else (a.1.ownerPages ix own).foldl (fun b q =>
      if q.2.st = .clean && q.2.upper = .t1 && !b.1.pageInUse ⟨ix, own, q.1⟩ then (b.1.dropClean ⟨ix, own, q.1⟩, b.2 + 1)
      else b) a) (s, 0)

/-- A flush whose writes are all done completes. -/
def State.endFlush (s : State) (r : FlushRun) : State :=
  let s := { s with tier := { s.tier with flushes := s.tier.flushes.filter fun f => f.cmd != r.cmd } }
  let d := if r.drop then s.flushDrop r.owners else (s, 0)
  if r.left = 0 then d.1.finish r.cmd .ok 0 r.wrote 0 d.2
  else d.1.finish r.cmd .partialDone r.why r.wrote r.left d.2

/-- A page's write has ended: flushes that waited for it. `clean` says that the page was not written again since the write started: one that
was stays DIRTY, and is counted as left (log 185). -/
def State.flushStep (s : State) (ref : PageRef) (clean : Bool) : State :=
  let e := (ownerCode ref.index ref.own, ref.key)
  s.tier.flushes.foldl (fun s r =>
    if r.wait.contains e then
      let r := { r with wait := r.wait.filter fun w => w != e, wrote := r.wrote + b2n clean, left := r.left + b2n (!clean) }
      let s := if clean then s.bump .TIER_CNT_COUNT 13 0 1 else s
      let s := { s with tier := { s.tier with flushes := s.tier.flushes.map fun f => if f.cmd = r.cmd then r else f } }
      if r.wait.isEmpty then s.endFlush r else s
    else s) s

/-- Start the write of a DIRTY page of a flush, or count it as left with its reason. -/
def State.flushPage (s : State) (r : FlushRun) (target : Nat) (ref : PageRef) (x : Page) : State × FlushRun :=
  let e := (ownerCode ref.index ref.own, ref.key)
  if target = 3 && (s.ownerNoT3 ref.index ref.own || s.ownerPin ref.index ref.own = 2) then
    (s, { r with left := r.left + 1, why := Nat.lor r.why 8 })
  else
    let w := s.choose ref x target
    let s := s.capCount ref w
    match w with
    | .inl (o, reuse) => (s.startWrite ref x o reuse false, { r with wait := r.wait ++ [e] })
    | .inr w => (s.bump .TIER_CNT_COUNT 9 0 1, { r with left := r.left + 1, why := Nat.lor r.why w })
/-- Start the writes of one owner's DIRTY pages. -/
def State.flushOwner (s : State) (r : FlushRun) (target : Nat) (ix : Bool) (own : Nat) : State × FlushRun :=
  (s.ownerPages ix own).foldl (fun a q =>
    if q.2.st != .dirty then a
    else if q.2.writing.isSome then (a.1, { a.2 with wait := a.2.wait ++ [(ownerCode ix own, q.1)] })
    else a.1.flushPage a.2 target ⟨ix, own, q.1⟩ q.2) (s, r)

/-- The owners that a TIER_FLUSH covers. -/
def State.flushOwners (s : State) (c : Cmd) : List (Bool × Nat) :=
  let h := Desc.handle c.desc
  if Desc.flag c.desc 8 then
    ((List.filter (fun (p : Nat × Session) => p.2.owner_ && hCtx p.2.handle = c.ctx) s.ses.tab).map fun (p : Nat × Session) => (false, p.2.handle))
  else if Desc.byte c.desc 16 = 1 then [(true, bitsOf h 41 32)] else [(false, h)]

/-- It waits for step items in flight of the sessions that it covers (R92). -/
def State.flushReady (s : State) (c : Cmd) : Bool :=
  (s.flushOwners c).all fun o => o.1 || !s.itemInFlight o.2

/-- An index ID that is live for the context: every field of it counts (R291). -/
def State.liveIndex (s : State) (ctx h : Nat) : Bool :=
  match Map.find s.rcl.indexes (bitsOf h 41 32) with
  | some ix => ix.id = h && hCtx h = ctx
  | none => false
/-- The object that a tier opcode names is live. -/
def State.tierLive (s : State) (c : Cmd) : Bool :=
  match Desc.byte c.desc 16 with
  | 1 => s.liveIndex c.ctx (Desc.handle c.desc)
  | 2 => if c.op = 0x54 && Desc.flag c.desc 8 then true else s.sessLive c
  | _ => true

/-- Whether the session that a tier opcode names is owned here. -/
def State.tierOwner (s : State) (c : Cmd) : Option Nat :=
  if Desc.byte c.desc 16 = 2 && Desc.handle c.desc != 0 then
    match s.sess (Desc.handle c.desc) with
    | some x => if x.owner_ then none else some x.ownerCause
    | none => none
  else none

def tierFlush (c : Cmd) (s : State) : State :=
  match s.tierOwner c with
  | some w => s.finish c.id .ownerConflict w
  | none =>
    let os := s.flushOwners c
    let r : FlushRun := ⟨c.id, Desc.flag c.desc 9, os.map fun o => ownerCode o.1 o.2, [], 0, 0, 0, 0⟩
    let a := os.foldl (fun a o => a.1.flushOwner a.2 (Desc.byte c.desc 17) o.1 o.2) (s, r)
    let s := { a.1 with tier := { a.1.tier with flushes := a.1.tier.flushes ++ [a.2] } }
    if a.2.wait.isEmpty then s.endFlush a.2 else s
def execTierFlush (k : Nat) (s : State) : Host.Outcome State Fault Refusal :=
  .next (s.begin k 0x54 anyForm s.flushReady s.tierLive tierFlush)

/-! ### Write-back (R150, R152, R153) -/

/-- DEMOTION_WRITE_DONE. -/
def demotionWriteDone (ref : PageRef) (s : State) : State :=
  match s.page ref with
  | none => s
  | some x =>
    match x.writing with
    | none => s
    | some pl =>
      let o := match pl with | .obj o _ => o | .t1 => 0
      let s := if x.sink && !x.again then s.bump .TIER_CNT_COUNT (if o < 32 then 2 else 3) 0 1 else s
      let s :=
        match x.st with
        | .lower =>
          -- a page that moves between lower places: the old place is released
          let s := s.releasePlace (some x.upper)
          s.putPage ref { x with upper := pl, lower := none, writing := none, sink := false }
        | .clean =>
          let s := if x.lower = some pl then s else s.releasePlace x.lower
          s.putPage ref { x with lower := some pl, writing := none, sink := false }
        | _ =>
          if x.again then
            let s := if x.lower = some pl then s else s.releasePlace x.lower
            s.putPage ref { x with lower := some pl, writing := none, again := false, sink := false }
          else
            let s := s.putPage ref { x with st := .clean, lower := some pl, writing := none, sink := false }
            if x.sink && !s.pageInUse ref then
              match s.page ref with
              | some y => s.putPage ref { y with st := .lower, upper := pl, lower := none }
              | none => s
            else s
      let s := if ref.index || !(x.kind = .sealed || x.kind = .opened) then s else s.sinkSmall ref.own
      s.flushStep ref (!x.again)
def execDemotionWriteDone (page : PageRef) (s : State) : Host.Outcome State Fault Refusal :=
  .next ((demotionWriteDone page s).winch s).afterWrite

/-- HEAT_DECAY_TICK (R155). -/
def heatDecay (s : State) : State :=
  s.allPages.foldl (fun s e =>
    if (s.region (ownerRegion e.1 e.2.1)).heat then
      s.putPage ⟨e.1, e.2.1, e.2.2.1⟩ { e.2.2.2 with heat := e.2.2.2.heat / 2 }
    else s) s
def execHeatDecayTick (dt : Nat) (s : State) : Host.Outcome State Fault Refusal := .next (heatDecay (s.pass dt))

/-- The time from which a session's step item has waited for a place in T1 with none gained: a page of a waiting item that no read brings, a seal
or the item's rows without their places. -/
def State.t1Waits (s : State) (h : Nat) : List Nat :=
  let its := s.gore.items.filter fun i => i.handle = h && i.cls = .attn && i.ix.isNone
  let reads := (its.filter fun i => i.st = .waiting && i.pages.any fun k =>
    !s.pageHere i k && (match s.page (i.ref k) with | some p => !p.reading && p.st != .lost | none => false)).map Item.readyAt
  let seals := (its.filter fun i => i.kind = .seal && i.st = .running && (match s.stepById i.step with
    | some t => !s.sealRoom i t.geo
    | none => false)).map Item.tileAt
  let rows := (s.attn.steps.filter fun t => t.entries.any fun e => e.handle = h && t.atEnd e && !s.entryRoom t e).map Step.lastFlag
  reads ++ seals ++ rows
/-- T1_STALL_TIMEOUT (R160): a step item or a revive has gained no T1 page within the limit. -/
def t1Stall (h : Nat) (s : State) : State :=
  let old := s
  let gain := match s.sess h with | some x => x.gainAt | none => 0
  let late (t : Nat) : Bool := decide (max t gain + 10000 * s.rd .TIER_STALL_LIMIT_LIMIT ≤ s.now)
  let s := if (s.t1Waits h).any late then (s.leaveAll h .retryLater (hintMs 1)).bump .TIER_CNT_COUNT 14 0 1 else s
  match s.sess h, s.runningOp 0x13 h with
  | some x, some c =>
    if x.st = .reviving && late x.entered && x.pages.any (fun q => q.2.upper != .t1 && q.2.st != .lost && !q.2.reading) then
      (((s.enter h .parked).finish c.id .retryLater (hintMs 1)).bump .TIER_CNT_COUNT 14 0 1).winch old
    else s.winch old
  | _, _ => s.winch old
def execT1StallTimeout (dt handle : Nat) (s : State) : Host.Outcome State Fault Refusal :=
  .next (t1Stall handle (s.pass dt))

/-! ### Wear (R169, R170) -/

/-- One day's cap of a drive, in units of 2^-16 MiB. -/
def State.capUnits (s : State) (j : Nat) : Nat := s.rd .TIER_DRV_CAP_GIB_DAY j * 1024 * 65536

/-- WEAR_BUDGET_TICK (R169): one second of HTI_TIME. -/
def wearTick (s : State) : State :=
  s.tier.wear.foldl (fun s p =>
    let cap := s.capUnits p.1
    let acc := p.2.acc + cap
    s.setWear p.1 { p.2 with budget := min (p.2.budget + (acc / 86400 : Nat)) cap, acc := acc % 86400 }) s
def execWearBudgetTick (dt : Nat) (s : State) : Host.Outcome State Fault Refusal := .next (wearTick (s.pass dt))

/-- WEAR_BUDGET_SAVE (R169). -/
def State.saveWear (s : State) : State :=
  { s with tier := { s.tier with wear := s.tier.wear.map fun p =>
    (p.1, { p.2 with sIdent := p.2.ident, sBudget := p.2.budget, sAcc := p.2.acc, sWritten := p.2.written }) } }
def execWearBudgetSave (dt : Nat) (s : State) : Host.Outcome State Fault Refusal := .next (s.pass dt).saveWear

/-- Set an object up as found: pages of it, behind a port. -/
def State.findObject (s : State) (o port nsid pages : Nat) : State :=
  let s := { s with tier := { s.tier with rawCap := Map.put s.tier.rawCap o pages } }
  let s := (s.wr .TIER_OBJ_A_PRESENT o 0 1).wr .TIER_OBJ_A_UP o 0 1
  (s.wr .TIER_OBJ_A_PORT o 0 port).wr .TIER_OBJ_A_NSID o 0 nsid

/-- A namespace that meets the last row of R144. -/
def NameSpace.usable (n : NameSpace) : Bool := decide (n.pages ≥ 16384) && (n.lba = 512 || n.lba = 4096) && !n.metadata && !n.protection
/-- An index of a drive that has no namespace for it shows none. -/
def State.loseObject (s : State) (o : Nat) : State :=
  let s := (s.wr .TIER_OBJ_A_PRESENT o 0 0).wr .TIER_OBJ_A_UP o 0 0
  { s.wr .TIER_OBJ_A_NSID o 0 0 with tier := { s.tier with rawCap := Map.del s.tier.rawCap o } }
/-- FLASH_CONTROLLER_ENUMERATED (R142, R144, R170): the wear record, and up to four usable namespaces in ascending
NSID order. Namespaces are deallocated unless the drive is the one that was there before a
P3 entry, whose places are kept (R494). -/
def flashEnumerated (port ident : Nat) (spaces : List NameSpace) (s : State) : State :=
  let w := s.wear port
  let s := if Map.has s.tier.wear port && w.sIdent = ident then
      s.setWear port { w with ident := ident, budget := w.sBudget, acc := w.sAcc, written := w.sWritten }
    else s.setWear port ⟨ident, s.capUnits port, 0, 0, ident, s.capUnits port, 0, 0⟩
  let ok := (sortBy (fun (a b : NameSpace) => decide (a.nsid ≤ b.nsid)) (spaces.filter NameSpace.usable)).take 4
  let s := ((List.range 4).drop ok.length).foldl (fun s n => s.loseObject (32 + 4 * port + n)) s
  let s := ok.zipIdx.foldl (fun s p =>
    let o := 32 + 4 * port + p.2
    let kept := s.on .TIER_OBJ_A_PRESENT o && w.ident = ident
    let s := s.findObject o port p.1.nsid p.1.pages
    if kept then s else s.emit (.deallocAll o)) s
  s.refreshCaps.unadmit .flash port
/-- A drive's reset is released and CONTROL is up (R521). -/
def State.driveUp (s : State) (j : Nat) : Bool :=
  s.on .CTL_READY_CONTROL && s.bit .CTL_PIN_STS_FLASH_PRSNT j && bitAt s.pins.refclk j && !s.bit .CTL_PIN_STS_FLASH_PERST j
def execFlashControllerEnumerated (port ident : Nat) (spaces : List NameSpace) (s : State) :
    Host.Outcome State Fault Refusal :=
  .next (if port < 8 && s.driveUp port then flashEnumerated port ident spaces s else s)

/-! ### TIER_POLICY (R175) -/

def CtxDflt.zero : CtxDflt := ⟨false, false, false, 0, 0, 0, false, 0⟩
def State.dflt (s : State) (c : Nat) : CtxDflt := (Map.find s.ses.dflt c).getD CtxDflt.zero
def State.setDflt (s : State) (c : Nat) (d : CtxDflt) : State :=
  { s with ses := { s.ses with dflt := Map.put s.ses.dflt c d } }

/-- Pages of owners whose upper copy lies in a tier. -/
def State.pagesIn (s : State) (os : List (Bool × Nat)) (tier : Nat) : Nat :=
  os.foldl (fun a o => a + ((s.ownerPages o.1 o.2).filter fun q => q.2.tier = tier).length) 0

def regionWith (r : Region) (d : Desc) : Region :=
  if bitAt (Desc.byte d 19) 1 then r
  else { r with heat := Desc.byte d 17 = 1, allow := Desc.num d 24 8, quotaGib := Desc.num d 32 4 }

def tierPolicy (c : Cmd) (s : State) : State :=
  let d := c.desc
  let h := Desc.handle d
  let pin := Desc.byte d 18
  let no3 := bitAt (Desc.byte d 19) 0
  let after := Desc.num d 20 4
  match s.tierOwner c with
  | some w => s.finish c.id .ownerConflict w
  | none =>
    let p := match Desc.byte d 16 with
      | 0 =>
        let s := s.setRegion c.ctx (regionWith (s.region c.ctx) d)
        (s.setDflt c.ctx { s.dflt c.ctx with pin := pin, neverT3 := no3, demoteAfter := after }, s.ownersOf c.ctx)
      | 1 =>
        let r := 64 + bitsOf h 41 32
        ((s.setRegion r { regionWith (s.region r) d with pin := pin, neverT3 := no3 }).sinkIndex (bitsOf h 41 32), [(true, bitsOf h 41 32)])
      | _ => (s.updSess h fun x => { x with pin := pin, neverT3 := no3, demoteAfter := after }, [(false, h)])
    (p.1.finish c.id .ok 0 (p.1.pagesIn p.2 1) (p.1.pagesIn p.2 2) (min (p.1.pagesIn p.2 3) 0xFFFFFFFF)).winch s
def execTierPolicy (k : Nat) (s : State) : Host.Outcome State Fault Refusal :=
  .next (s.begin k 0x53 anyForm anyCmd s.tierLive tierPolicy)

/-! ### Registers -/

/-- A write of TIER_OBJ_A[i]: FAILED is W1C and returns the object empty; EN starts or stops vacating (R168). -/
def objWrite (o value : Nat) (s : State) : State :=
  let s := if bitAt value 3 && s.on .TIER_OBJ_A_FAILED o then
      (if o ≥ 32 then s.emit (.deallocAll o) else s).wr .TIER_OBJ_A_FAILED o 0 0
    else s
  let en := bitAt value 2 && !(o < 32 && s.on .POOL_OBJ_WINDOW o)
  let was := s.on .TIER_OBJ_A_EN o
  let s := s.wr .TIER_OBJ_A_EN o 0 (b2n en)
  let s := { s with tier := { s.tier with vacating := setBitN s.tier.vacating o (!en) } }
  (if was && !en then s.vacate o else s).refreshTierReady
def execTierObjFailedClear (obj value : Nat) (s : State) : Host.Outcome State Fault Refusal :=
  .next (if obj < 64 && bitAt value 3 then s.hostWrite64 .TIER_OBJ_A_PRESENT obj value (objWrite obj value) else s)
def execTierObjEnWrite (obj value : Nat) (s : State) : Host.Outcome State Fault Refusal :=
  .next (if obj < 64 && !bitAt value 3 then s.hostWrite64 .TIER_OBJ_A_PRESENT obj value (objWrite obj value) else s)

/-- TIER_WM_WRITE (R536): dropped as a whole unless both pairs hold; one with a field above 100 is dropped as a whole too, where R22 alone would
leave only that field (log 186). -/
def wmWrite (value : Nat) (s : State) : State :=
  let h1 := fieldOf .TIER_WM_T1_HIGH value
  let l1 := fieldOf .TIER_WM_T1_LOW value
  let h2 := fieldOf .TIER_WM_T2_HIGH value
  let l2 := fieldOf .TIER_WM_T2_LOW value
  if 1 ≤ l1 ∧ l1 < h1 ∧ h1 ≤ 100 ∧ 1 ≤ l2 ∧ l2 < h2 ∧ h2 ≤ 100 then
    s.putWord [.TIER_WM_T1_HIGH, .TIER_WM_T1_LOW, .TIER_WM_T2_HIGH, .TIER_WM_T2_LOW] 0 0 value
  else s
def execTierWmWrite (value : Nat) (s : State) : Host.Outcome State Fault Refusal :=
  .next (s.hostWrite .TIER (wmWrite value))

/-- TIER_CNT_CLR and TIER_STALL_CLR (R29). -/
def execTierCntClr (value : Nat) (s : State) : Host.Outcome State Fault Refusal :=
  .next (s.hostWrite .TIER fun s => if bitAt value 0 then s.zeroAll .TIER_CNT_COUNT else s)
def execTierStallClr (value : Nat) (s : State) : Host.Outcome State Fault Refusal :=
  .next (s.hostWrite64 .TIER_STALL_CLR_CTX 0 value fun s => s.zeroRows .TIER_STALL_COUNT value)

end Sys2Proof.Machine
end

