-- ==== Sys2Proof/Machine/TetherOps.lean ====
section
/-! DEFINITION. Tether transfers and the home's record (spec/03 R98 to R107): offers, frames, the receiver's copy, proposals
and their commit, reconciling, orphans, destruction. -/

namespace Sys2Proof.Machine

/-- A Flewick whose entry of the fabric map is JOINED. -/
def State.joined (s : State) (n : Nat) : Bool := s.present n && s.rd .RING_MAP_STATE n = 1
/-- The home of the session answers here: HOME with the home not lost, or INHERITED. -/
def Session.isHome (x : Session) : Bool := x.home || x.inherited
/-- Ticks of CTL_SES_CFG.TETHER_MSG_LIMIT, in units of 100 µs. -/
def State.msgLimit (s : State) : Nat := 10000 * s.rd .CTL_SES_CFG_TETHER_MSG_LIMIT

/-! ### The sender (R99 steps 1 and 3) -/

/-- The geometry of a shape, which both ends of a transfer compare (spec/07, after R216). -/
def Shape.geom (g : Shape) : List Nat := [g.layers, g.hq, g.hkv, b2n g.latent, g.dk, g.dv]

/-- The state in which the session arrives: PARKED with PARK_ON_ARRIVAL of an ALOFT one, else the return state. -/
def arriveState (ret : SState) (park : Bool) : SState := if park && ret = .aloft then .parked else ret

def State.sendOffer (s : State) (x : Session) (t : Xfer) (park : Bool) : State :=
  s.send t.peer 0 .shipOffer x.handle t.epoch s.myId t.peer ([(arriveState x.ret park).code, t.total, t.bytes,
    x.spool.length, x.kvLen, x.shape, b2n x.interactive, b2n t.evac] ++ (s.shape x.shape).geom)

/-- The tiles that a transfer offers: none of a DEFLATED session, and no torn one (its rebuild is pending). -/
def Session.shipKeys (x : Session) : List Nat := (x.tiles.filter fun (p : Nat × Tile) => !p.2.torn).map fun (p : Nat × Tile) => p.1
def Session.shipBytes (x : Session) : Nat := (x.tiles.filter fun (p : Nat × Tile) => !p.2.torn).foldl (fun a (p : Nat × Tile) => a + p.2.len) 0

/-- SHIPPING begins: the return state is recorded and SHIP_OFFER sent. A key from 16 is the fabric key. -/
def State.startShip (s : State) (h peer key cmd : Nat) (park evac : Bool) : State :=
  match s.sess h with
  | none => s
  | some x =>
    let t : Xfer := ⟨true, .offered, x.epoch, peer, key, cmd, x.shipKeys.length, x.shipBytes, x.shipKeys, [], [], false, 1,
      s.now, s.now, false, false, false, evac, if x.rbPending then some (x.rbStart, x.rbEnd, x.rbCause) else none, none⟩
    let y := { x with ret := x.st, xfer := some t }
    ((s.setSess y).enter h .shipping).sendOffer y t park

def State.updXfer (s : State) (h : Nat) (f : Xfer → Xfer) : State :=
  s.updSess h fun x => { x with xfer := x.xfer.map f }

/-- One tile frame: an open tile goes raw with a CRC computed at send. -/
def State.sendTile (s : State) (x : Session) (t : Xfer) (i : Nat) : State :=
  match t.keys[i]? with
  | some k =>
    match Map.find x.tiles k with
    | some q =>
      let q := if q.sealed then q else q.stamp
      s.send t.peer 2 .tileFrame x.handle t.epoch s.myId t.peer [i, k, q.data, q.len, q.crc, q.fill, b2n q.sealed]
    | none => s
  | none => s

/-- The settings that travel with a session, with the rebuild that was pending when the transfer began. One recorded during the
transfer stays with the sender's copy (R539). -/
def Session.settings (x : Session) (t : Xfer) : List Nat :=
  let p := t.carried.getD (0, 0, 0)
  [b2n x.interactive, b2n x.noMirror, b2n x.mirrorLost, b2n x.autoDeflate, b2n x.pauseDeflate, b2n t.carried.isSome, x.mirror,
   p.1, p.2.1, p.2.2, x.deflReason, x.seed, x.visible, x.idlePark, x.rbRate, x.lastStep, x.pin, b2n x.neverT3,
   x.demoteAfter]
def Session.withSettings (x : Session) (l : List Nat) : Session :=
  let g (i : Nat) : Nat := l.getD i 0
  { x with
    interactive := g 0 != 0, noMirror := g 1 != 0, mirrorLost := g 2 != 0, autoDeflate := g 3 != 0, pauseDeflate := g 4 != 0
    rbPending := g 5 != 0, mirror := g 6, rbStart := g 7, rbEnd := g 8, rbCause := g 9, deflReason := g 10, seed := g 11
    visible := g 12, idlePark := g 13, rbRate := g 14, lastStep := g 15, pin := g 16, neverT3 := g 17 != 0
    demoteAfter := g 18 }

def State.sendSpoolFrame (s : State) (x : Session) (t : Xfer) : State :=
  s.send t.peer 2 .spoolFrame x.handle t.epoch s.myId t.peer
    ([x.spool.length, x.seeds.length] ++ x.settings t ++ x.spoolArgs x.spool)

/-- The sender's reads are done: every tile and the spool go out (R99 step 3). From then on the transfer counts as having
reached step 5 (log 74). -/
def State.shipGo (s : State) (h : Nat) : State :=
  match s.sess h with
  | none => s
  | some x =>
    match x.xfer with
    | none => s
    | some t =>
      if t.sender && t.phase = .streaming && x.st = .shipping && !x.pages.any fun (q : Nat × Page) => q.2.reading then
        let s := (List.range t.total).foldl (fun s i => s.sendTile x t i) s
        (s.sendSpoolFrame x t).updXfer h fun t => { t with phase := .sent, start := s.now, tries := 1, at_ := s.now }
      else s

def State.updEvac (s : State) (f : EvacRun → EvacRun) : State := { s with fab := { s.fab with evac := s.fab.evac.map f } }
/-- The transfer ends with COMMIT_ACK at the sender (R99 step 9). -/
def State.shipped (s : State) (h epoch owner : Nat) (read : Option Nat) : State :=
  match s.sess h with
  | none => s
  | some x =>
    match x.xfer with
    | none => s
    | some t =>
      let s := ((s.endOpen h 8 read).freeStream h).bump .CTL_SES_CNT_COUNT 7 0 1
      let s := if t.evac then s.updEvac fun e =>
          if t.total = 0 then { e with spools := e.spools + 1 } else { e with shipped := e.shipped + 1 } else s
      (s.dropCopy h epoch owner).shipDone x t .ok 0 epoch owner epoch t.total ((t.bytes + 1023) / 1024)

/-- The transfer failed: the sender returns to its return state and SESS_SHIP completes. -/
def State.shipFail (s : State) (h : Nat) (st : Status) (cause : Nat) : State :=
  match s.sess h with
  | none => s
  | some x =>
    match x.xfer with
    | none => s
    | some t => (s.shipReturn h).shipDone x t st cause x.epoch x.owner 0 0 0

/-- A torn tile ends a transfer at its sender (R103, R135): the tile is found, and SESS_SHIP completes with TORN_TILE. -/
def State.shipTorn (s : State) (x : Session) (t : Xfer) (key kind half point : Nat) : State :=
  let g := s.shape x.shape
  let s := s.shipReturn x.handle
  let s := s.tornFound x.handle (keyCol g key) (keyLayer g key) (keyHead g key) kind half point
  s.shipDone x t .tornTile (causeTorn (keyCol g key) (kind = 1) point) x.epoch x.owner 0 0 0
/-- The sender's own read of a tile finds it torn: it ends the transfer with SHIP_ABORT (R118, R134). -/
def State.sendTorn (s : State) (x : Session) (t : Xfer) (key kind half point : Nat) : State :=
  (s.send t.peer 0 .shipAbort x.handle t.epoch s.myId t.peer [2, 0, 0]).shipTorn x t key kind half point
/-- The POINT of a tile that the sender finds torn: 3 for an open one, 2 for a sealed one, whose read at the sender the table does not list
(R136, log 181). -/
def Session.shipPoint (x : Session) (key : Nat) : Nat :=
  match Map.find x.tiles key with | some t => if t.sealed then 2 else 3 | none => 2

/-- The tile of a transfer that an uncorrectable ECC error on the sender's read makes torn (R134). -/
def State.shipEcc (s : State) (x : Session) (t : Xfer) (torn : Option TornFound) : Option (Nat × TornFound) :=
  match torn with
  | none => none
  | some f =>
    let key := tileKey (s.shape x.shape) f.column f.layer f.head
    if f.kind = 2 && t.keys.contains key then some (key, f) else none

/-- SHIP_ACCEPT: open tiles that have a CRC are verified, all are stamped (R118), pages outside T1 are read, and the frames follow. -/
def State.shipStream (s : State) (h : Nat) : State :=
  match s.sess h with
  | none => s
  | some x =>
    match x.xfer with
    | none => s
    | some t =>
      let ks := (x.tiles.filter fun p => !p.2.sealed && !p.2.torn && p.2.crcValid).map Prod.fst
      match s.checkTiles h ks with
      | (s, some (key, kind)) => s.sendTorn x t key kind 0 3
      | (s, none) =>
        let s := (s.updXfer h fun t => { t with phase := .streaming }).stampOpen h
        let s := x.pages.foldl (fun s (q : Nat × Page) => s.startRead false ⟨false, h, q.1⟩) s
        s.shipGo h

/-- A record that names another owner than either party: the copy is dropped (R103, R104, log 75). R103 gives OWNER_CONFLICT no CAUSE here;
the model gives the record's owner with bit 15 clear, since the record is the home's committed one (DESIGN CHOICE, log 171). -/
def State.shipTaken (s : State) (h epoch owner : Nat) : State :=
  match s.sess h with
  | none => s
  | some x =>
    match x.xfer with
    | none => s
    | some t => ((s.freeStream h).dropCopy h epoch owner).shipDone x t .ownerConflict (owner % 1024) epoch owner 0 0 0

/-- The sender gives up before step 5: SHIP_ABORT, return state, status. -/
def State.shipAbort (s : State) (h : Nat) (st : Status) (cause : Nat) : State :=
  match s.sess h with
  | none => s
  | some x =>
    match x.xfer with
    | none => s
    | some t => (s.send t.peer 0 .shipAbort h t.epoch s.myId t.peer [2, 0, 0]).shipFail h st cause
/-- The transfer of a sender has not reached step 5. -/
def Session.beforeFive (x : Session) : Bool :=
  match x.xfer with | some t => t.sender && (t.phase = .offered || t.phase = .streaming) | none => false

/-! ### The receiver (R99 steps 2, 4, 5, 8) -/

/-- Pages free for what arrives: T1, and the T2 objects that the session region allows, counted together. -/
def State.shipRoom (s : State) (c bytes : Nat) : Bool :=
  let r := s.region c
  let t2 := (List.range 32).foldl (fun a o =>
    if r.allows o && s.objWritable o then
      a + (s.rd .TIER_OBJ_B_CAP_PAGES o - (s.placesIn o).length - (Map.find s.tier.lent o).getD 0)
    else a) 0
  decide ((bytes + 65535) / 65536 ≤ (s.t1Cap - s.t1Used) + t2)

/-- A descriptor as it is taken for a handle that another Flewick names (R85). -/
def Session.blank (h shape now : Nat) : Session :=
  { handle := h, st := .remote, ret := .free, owner_ := false, home := false, mirror_ := false, spool_ := false
    incoming := false, inherited := false, shape := shape, interactive := false, noMirror := true, mirrorLost := false
    autoDeflate := false, pauseDeflate := false, rbPending := false, epoch := 0, owner := hHome h, mirror := 0, kvLen := 0
    rbStart := 0, rbEnd := 0, deflReason := 0, rbCause := 0, seed := 0, visible := 0, idlePark := 0, rbRate := 0
    lastStep := 0, created := now, entered := now, spool := [], seeds := [], tiles := [], streamLen := 0, pages := []
    pin := 0, neverT3 := false, demoteAfter := 0, lastObj := none, xfer := none, prop := none, gathering := false
    lostOwner := 0, recPending := false, resentAt := now, madeHere := false, undo := none, gainAt := now }

/-- Take a descriptor for a handle, if it has none and one is free. -/
def State.takeDesc (s : State) (h shape : Nat) : State :=
  if (s.sess h).isSome then s
  else match s.newSlot with
    | none => s
    | some n => (s.tickFree.putSess n (Session.blank h shape s.now)).refreshGauge

/-- Ask the home to commit (R99 step 5). -/
def State.sendCommitReq (s : State) (h : Nat) (t : Xfer) : State :=
  s.send (s.homeId h) 0 .commitReq h t.epoch t.peer s.myId [b2n t.lostHome]

/-- Every tile and the spool are verified: COMMIT_REQ (R99 step 5). -/
def State.checkAll (s : State) (h : Nat) : State :=
  match s.sess h with
  | none => s
  | some x =>
    match x.xfer with
    | none => s
    | some t =>
      if !t.sender && t.phase = .receiving && t.spoolGot && t.got.length = t.total then
        (s.updXfer h fun t => { t with phase := .committing, tries := 1, at_ := s.now }).sendCommitReq h t
      else s

/-- Put a verified tile in its place in the receiver's copy. -/
def State.placeTile (s : State) (x : Session) (key : Nat) (q : Tile) : State :=
  let g := s.shape x.shape
  if q.sealed then
    let off := pad64 x.streamLen
    let s := s.setSess { x with tiles := Map.put x.tiles key { q with off := off }, streamLen := off + q.len }
    (s.writeStream x.handle off (off + q.len)).writePage false x.handle .map (mapNum 2 key)
  else
    let s := s.setSess { x with tiles := Map.put x.tiles key q }
    s.writeOpen x.handle g (keyCol g key) [key % g.headLayers]

/-- The owner sends the whole spool to the other holder (R89). -/
def State.resend (s : State) (x : Session) : State := (s.setSess { x with resentAt := s.now }).sendSpool x 0 x.spool

/-- The committed record names this Flewick as receiver: it becomes the owner (R99 step 8); pages lost since COMMIT_REQ send it to
REBUILDING in place of its return state (R539). -/
def State.arrive (s : State) (h epoch : Nat) : State :=
  match s.sess h with
  | none => s
  | some x =>
    match x.xfer with
    | none => s
    | some t =>
      let st := if x.ret = .aloft then s.aloftOrParked else x.ret
      let lost := t.lostCol.isSome
      let s := s.updSess h fun y => { y with
        owner_ := true, incoming := false, xfer := none, epoch := epoch, owner := s.myId
        spool_ := (x.holders (s.homeId h) s.myId).contains s.myId }
      let s := s.bump .CTL_SES_CNT_COUNT 8 0 1
      let s := (s.enter h st).dropLost h x.xfer
      let s := if x.rbPending && (lost || st != .parked) then
          (s.updSess h fun y => { y with rbPending := false }).startRebuild h x.rbStart x.rbEnd x.rbCause
        else s
      let after := match s.sess h with | some y => y.st.code | none => 0
      let s := (s.event (hCtx h) 1 h (packBytes [(0, epoch), (4, t.peer), (6, after)])).refreshShape x.shape
      let s := if x.interactive then s.admitInter else s
      match s.sess h with
      | some y => if y.mirrorLost || y.mirror = s.myId then s.resend y else s
      | none => s

/-! ### The home's record (R99 steps 6 and 7, R101, R105) -/

/-- The mirror whose REPLICATE_ACK a commit needs: one that is present and not this Flewick (R101). -/
def State.needsMirror (s : State) (x : Session) : Bool := !x.noMirror && x.mirror != s.myId && s.present x.mirror

/-- The spool is here: an orphan's rebuild starts (R105 steps 4 and 5). -/
def State.orphanGo (s : State) (h : Nat) : State :=
  match s.sess h with
  | none => s
  | some x =>
    let s := s.updSess h fun y => { y with gathering := false, spool_ := true, rbPending := false }
    let s := (s.enter h .parked).startRebuild h 0 x.kvLen 0x36
    let s := s.bump .CTL_SES_CNT_COUNT 10 0 1
    s.event (hCtx h) 2 h (packBytes [(0, x.epoch), (4, x.lostOwner), (8, x.kvLen)])

/-- The other spool holder that survives: the mirror while it is present and has the spool (R89, R90, R107). -/
def State.spoolSource (s : State) (x : Session) : Option Nat :=
  if !x.noMirror && x.mirror != s.myId && s.present x.mirror && !x.mirrorLost then some x.mirror else none

/-- The orphan is committed to the home: the spool is gathered (R105 step 3), or the session fails (R107). -/
def State.orphanGather (s : State) (h : Nat) : State :=
  match s.sess h with
  | none => s
  | some x =>
    if x.spool_ then s.orphanGo h
    else match s.spoolSource x with
      | some m => (s.setSess { x with gathering := true }).send m 5 .gatherReq h x.epoch s.myId 0 []
      | none => s.failSess h

/-- Tell both parties what the record says. -/
def State.sendAcks (s : State) (h epoch owner sender : Nat) : State :=
  let s := s.send owner 0 .commitAck h epoch sender owner []
  if sender = owner then s else s.send sender 0 .commitAck h epoch sender owner []
def State.sendNaks (s : State) (x : Session) (epoch sender receiver : Nat) : State :=
  let s := s.bump .CTL_SES_CNT_COUNT 9 0 1
  let l := [x.epoch, x.owner]
  (s.send receiver 0 .commitNak x.handle epoch sender receiver l).send sender 0 .commitNak x.handle epoch sender receiver l

/-- Copy the tether record to the mirror, or tell the owner of its new mirror (R89, R106): a notice, then REPLICATE. -/
def State.sendNote (s : State) (x : Session) (dst : Nat) : State :=
  s.send dst 0 .sessionNotice x.handle x.epoch 1 0 [x.shape, x.kvLen, x.epoch, x.owner, x.mirror, b2n x.noMirror,
    b2n x.interactive, x.seed, b2n x.recPending, b2n x.mirrorLost]
/-- The mirror partner of a member (R358). -/
def State.partnerOf (s : State) (n : Nat) : Option Nat := if s.on .RING_MAP_PARTNER_VALID n then some (s.rd .RING_MAP_PARTNER n) else none
/-- A copy of the record goes to a new mirror, the partner, and the owner copies the spool to it (R89, R106); a Flewick alone has none
(R38). -/
def State.newMirror (s : State) (x : Session) : State :=
  match s.partnerOf s.myId with
  | none => s.setSess { x with noMirror := true, mirror := 0, recPending := false }
  | some p =>
    let y := { x with noMirror := false, mirror := p, recPending := true, mirrorLost := true }
    let s := s.setSess y
    let s := (s.sendNote y p).send p 0 .replicate y.handle y.epoch y.owner y.owner []
    let s := if y.owner_ then (s.ackUpTo y.handle (2 ^ 64)).resend y
      else if s.present y.owner then s.sendNote y y.owner else s
    if x.mirrorLost || x.noMirror || !y.owner_ then s
    else (s.bump .CTL_SES_CNT_COUNT 11 0 1).event (hCtx y.handle) 4 y.handle (packBytes [(4, x.mirror)])

/-- The home commits a proposal; an isolated one waits (R360). A home that is no spool holder any more gives its spool up (R83). A session
without a mirror that moved to another Flewick takes one, if the home has a partner (R38, log 174). -/
def State.commitProp (s : State) (h : Nat) : State :=
  match s.sess h with
  | none => s
  | some x =>
    match x.prop with
    | none => s
    | some p =>
      if s.fab.isolated then s
      else if x.st = .orphaned then
        (s.setSess { x with prop := none, epoch := p.epoch, owner := s.myId, owner_ := true }).orphanGather h
      else
        let keep := x.owner_ || x.incoming || (x.holders s.myId p.receiver).contains s.myId
        let s := if keep then s else x.pages.foldl (fun s (q : Nat × Page) => s.emptyPage ⟨false, h, q.1⟩) s
        let s := s.updSess h fun y => { y with
          prop := none, epoch := p.epoch, owner := p.receiver
          spool_ := y.spool_ && keep, spool := if keep then y.spool else [], seeds := if keep then y.seeds else [] }
        let s := s.sendAcks h p.epoch p.receiver p.sender
        match s.sess h with
        | some y => if y.noMirror && p.sender != p.receiver then s.newMirror y else s
        | none => s

/-- Propose (E + 1, receiver): replicated to the mirror first, or committed at once without one (R101). -/
def State.propose (s : State) (h sender receiver : Nat) : State :=
  match s.sess h with
  | none => s
  | some x =>
    let s := s.setSess { x with prop := some ⟨x.epoch + 1, sender, receiver, s.now⟩ }
    if s.needsMirror x then s.send x.mirror 0 .replicate h (x.epoch + 1) sender receiver [] else s.commitProp h

/-- The recorded owner has left the fabric map: the home orphans the session (R105, R107). -/
def State.orphan (s : State) (h : Nat) : State :=
  match s.sess h with
  | none => s
  | some x =>
    if x.st = .orphaned || x.st = .failed then s
    else
      let lost := x.owner
      let s := (s.updSess h fun y => { y with lostOwner := lost, xfer := none, incoming := false, prop := none }).enter h .orphaned
      if !x.spool_ && (s.spoolSource x).isNone then s.failSess h else s.propose h lost s.myId

/-! ### Reconciling (R104) -/

/-- What the record makes of the copy here, with no transfer in progress: 0 none, 1 copy dropped, 2 confirmed, 3 orphan
declared. -/
def State.reconcile (s : State) (h epoch owner : Nat) (present : Bool) : State × Nat :=
  match s.sess h with
  | none => (s, 0)
  | some x =>
    if owner = s.myId then (if x.owner_ then (s.setSess { x with epoch := epoch }, 2) else (s, 0))
    else if !present && x.isHome then (if x.st != .orphaned && x.st != .failed then (s.orphan h, 3) else (s, 0))
    else if x.owner_ then ((s.freeStream h).dropCopy h epoch owner, 1)
    else if x.st = .remote && x.spool_ && !(x.holders (s.homeId h) owner).contains s.myId then (s.dropCopy h epoch owner, 0)
    else (s.setSess { x with epoch := epoch, owner := owner }, 0)

/-! ### Destruction (R90) -/

/-- Flushes do not wait for pages that are gone (R176). -/
def State.flushGone (s : State) : State :=
  s.tier.flushes.foldl (fun s r =>
    let alive (w : Nat × Nat) : Bool := match s.page ⟨w.1 % 2 = 1, w.1 / 2, w.2⟩ with | some p => p.writing.isSome | none => false
    let w := r.wait.filter alive
    if w.length = r.wait.length then s
    else
      let r := { r with wait := w }
      let s := { s with tier := { s.tier with flushes := s.tier.flushes.map fun f => if f.cmd = r.cmd then r else f } }
      if w.isEmpty then s.endFlush r else s) s

/-- Free a session: its stream ends with CLOSED, the other holders release theirs. -/
def State.destroySess (s : State) (h : Nat) (read : Option Nat) : State :=
  match s.sess h with
  | none => s
  | some x =>
    let s := (s.endOpen h 6 read).freeStream h
    let s := s.endUsers h .badHandle 0
    let s := s.ackUpTo h (2 ^ 64)
    let dsts := ([s.homeId h] ++ (if x.noMirror then [] else [x.mirror])).eraseDups.filter fun n => n != s.myId
    let s := dsts.foldl (fun s n => s.send n 0 .sessionNotice h x.epoch 0 0 []) s
    ((s.freeSess h).bump .CTL_SES_CNT_COUNT 1 0 1).flushGone

/-! ### The transfers of an evacuation (R365 step 2) -/

/-- The members that are JOINED. -/
def State.joinedIds (s : State) : List Nat := s.fab.members.filter fun n => s.rd .RING_MAP_STATE n = 1
/-- IDs in ascending cyclic order after one. -/
def cyclicAfter (n : Nat) (l : List Nat) : List Nat :=
  let l := sortBy (fun (a b : Nat) => decide (a ≤ b)) l
  (l.filter fun x => decide (n < x)) ++ l.filter fun x => decide (x < n)

/-- The sessions owned here that are not transferred yet; a FAILED one has nothing to transfer. -/
def State.toEvacuate (s : State) : List Session :=
  (s.ses.tab.map fun (p : Nat × Session) => p.2).filter fun x => x.owner_ && x.st != .failed && x.st != .free
/-- RING_EVAC_STS. -/
def State.showEvac (s : State) (step : Nat) : State :=
  (s.wr .RING_EVAC_STS_STEP 0 0 step).wr .RING_EVAC_STS_LEFT_TO_GO 0 0 s.toEvacuate.length

/-- The target of a session: its mirror, this Flewick's partner, then the members in ascending order; eight at most. -/
def State.evacTarget (s : State) (x : Session) (tried : List Nat) : Option Nat :=
  let l := (if x.noMirror then [] else [x.mirror]) ++ (s.partnerOf s.myId).toList ++ cyclicAfter s.myId s.joinedIds
  if tried.length ≥ 8 then none else l.find? fun n => n != s.myId && s.joined n && !tried.contains n
/-- A session that may be transferred now. -/
def State.evacReady (s : State) (x : Session) : Bool :=
  x.xfer.isNone && x.st != .shipping && x.st != .orphaned && x.st != .reviving && !s.itemInFlight x.handle && !s.kvInFlight x.handle
/-- The deflation of an evacuation; no DEFLATE_REASON is listed for it, so the reason is free (log 128). -/
def State.evacDeflate (s : State) (h : Nat) : State := ((s.deflate h (s.free % 256)).tickFree).flushGone
/-- Start the transfer of a session. -/
def State.evacShip (s : State) (e : EvacRun) (x : Session) : State :=
  match s.evacTarget x ((Map.find e.tries x.handle).getD []) with
  | none => s
  | some n =>
    let s := if x.st != .deflated && (e.spoolOnly || x.st = .rebuilding) then s.evacDeflate x.handle else s
    s.startShip x.handle n 16 0 false true
/-- Transfers under way. -/
def State.evacBusy (s : State) : Nat :=
  (s.ses.tab.filter fun (p : Nat × Session) => match p.2.xfer with | some t => t.evac && t.sender | none => false).length
/-- Keep up to 16 transfers under way: INTERACTIVE sessions first, then by the most recent LAST_STEP. -/
def State.pump (s : State) : State :=
  match s.fab.evac with
  | none => s
  | some e =>
    let s := s.showEvac (s.rd .RING_EVAC_STS_STEP)
    if !e.committed || e.asked || s.fab.isolated then s
    else
      let first (a b : Session) : Bool :=
        if a.interactive = b.interactive then decide (b.lastStep ≤ a.lastStep) else a.interactive
      let l := (sortBy first (s.toEvacuate.filter fun x => s.evacReady x && (s.evacTarget x ((Map.find e.tries x.handle).getD [])).isSome)).take
        (16 - s.evacBusy)
      l.foldl (fun s x => s.evacShip e x) s
/-- A transfer of an evacuation was refused: for room, the session goes spool only to the same target; else the next one. -/
def State.evacRefused (s : State) (h peer reason total : Nat) : State :=
  let s := s.shipFail h .retryLater (hintMs 1)
  let s := if reason = 3 && total != 0 then s.evacDeflate h
    else s.updEvac fun e => { e with tries := Map.put e.tries h ((Map.find e.tries h).getD [] ++ [peer]) }
  s.pump

end Sys2Proof.Machine
end

