-- ==== Sys2Proof/Machine/TierFaults.lean ====
section
/-! DEFINITION. Reads from the tiers and the failure of tier objects (spec/05 R155, R156, R164 to R167; spec/14 R389). -/

namespace Sys2Proof.Machine

/-- A record of kind TIER_FAIL for a context (R456). -/
def State.tierRecord (s : State) (c obj kind lost : Nat) : State :=
  s.fault c 2 0 (some (if kind = 0 then .poison else .tierFail)) (causeTier obj kind)
    (packBytes [(0, obj), (1, if obj < 32 then 2 else 3), (2, kind), (8, lost)])
/-- The context of an owner. -/
def State.ownerCtx (s : State) (ix : Bool) (own : Nat) : Nat :=
  if ix then match s.index own with | some x => hCtx x.id | none => 0 else hCtx own

/-- A session whose pages are LOST: the sender of a transfer in step 3 aborts it first (R389). -/
def State.sessLost (s : State) (h : Nat) (keys : List Nat) (st : Status) (cause : Nat) : State :=
  match s.sess h with
  | none => s
  | some x =>
    let tile := keys.any fun k => match Map.find x.pages k with | some p => p.kind != .spool | none => false
    match x.xfer with
    | some t =>
      if x.st = .shipping && t.sender && t.phase = .streaming && tile then
        let s := (s.send t.peer 0 .shipAbort h t.epoch s.myId t.peer [4, 0, 0]).shipReturn h
        (s.lostPages h keys st cause).shipDone x t st cause t.epoch s.myId 0 0 0
      else s.lostPages h keys st cause
    | none => s.lostPages h keys st cause

/-- LOST pages of one owner are acted on. -/
def State.ownerLost (s : State) (ix : Bool) (own : Nat) (keys : List Nat) (st : Status) (cause : Nat) : State :=
  if keys.isEmpty then s
  else if ix then keys.foldl (fun s k => s.indexLost own (k % 2 ^ 40) st cause) s
  else s.sessLost own keys st cause

/-! ### Reads (R155, R156, R167) -/

def placeObj (p : Place) : Nat := match p with | .obj o _ => o | .t1 => 0

/-- A read meets poison or a media error (R167). -/
def State.poisoned (s : State) (ref : PageRef) (x : Page) : State :=
  let s := s.bump .TIER_CNT_COUNT 11 0 1
  match x.upper with
  | .t1 =>
    (s.releasePlace x.lower).putPage ref { x with st := if x.st = .clean then .dirty else x.st, lower := none, reading := false, up := false }
  | .obj o _ =>
    let s := x.places.foldl (fun s pl => s.releasePlace (some pl)) s
    let s := s.putPage ref { x with st := .lost, lower := none, reading := false, up := false, writing := none, sink := false }
    let s := s.bump .TIER_CNT_COUNT 12 0 1
    let s := s.checkLeaving.tierRecord (s.ownerCtx ref.index ref.own) o 0 1
    s.ownerLost ref.index ref.own [ref.key] .poison (causeTier o 0)

/-- PROMOTION_READ_DONE. -/
def promotionReadDone (ref : PageRef) (poison : Bool) (s : State) : State :=
  match s.page ref with
  | none => s
  | some x =>
    if !x.reading then s
    else
      let old := s
      let s := if poison then (s.poisoned ref x).winch old else (s.promoted ref).winch old
      if ref.index then s else s.shipGo ref.own
def execPromotionReadDone (page : PageRef) (poison : Bool) (s : State) : Host.Outcome State Fault Refusal :=
  .next (match s.page page with
    | some x => if x.up || x.upper = .t1 then promotionReadDone page poison s else s
    | none => s)

/-- The items that wait for a page read through hold it in a staging page (R155). -/
def State.stage (s : State) (ref : PageRef) : State :=
  s.mapItems (fun i => i.pages.contains ref.key && i.ref ref.key = ref)
    fun i => { i with staged := i.staged ++ [ref.key] }
/-- Copy a T3 page into T2. -/
def State.copyT2 (s : State) (ref : PageRef) (x : Page) : State :=
  if x.tier != 3 || x.writing.isSome then s
  else match s.pickT2 (s.region (ownerRegion ref.index ref.own)) with
    | some o =>
      let i := s.newIdx o
      let s := ((s.emitPage ref o i).bump .TIER_CNT_COUNT 1 0 1).bump .TIER_CNT_COUNT 4 0 1
      s.putPage ref { x with st := .clean, upper := .obj o i, lower := some x.upper, reading := false }
    | none => s
/-- A T3 page hot enough gets a copy in T2 (R155), and so do the session's map and spool pages, which lie with its highest tile (R149). -/
def State.copyUp (s : State) (ref : PageRef) (x : Page) : State :=
  if x.tier = 3 && decide (s.rd .TIER_HEAT_PROMOTE2 ≤ x.heat) && x.writing.isNone then
    let s := s.copyT2 ref x
    match (if ref.index then none else s.sess ref.own) with
    | some y =>
      if y.topTier != 2 then s
      else y.pages.foldl (fun s q => if q.2.kind = .map || q.2.kind = .spool then s.copyT2 ⟨false, ref.own, q.1⟩ q.2 else s) s
    | none => s
  else s
/-- READ_THROUGH_DONE. -/
def readThroughDone (ref : PageRef) (poison : Bool) (s : State) : State :=
  match s.page ref with
  | none => s
  | some x =>
    if !x.reading then s
    else if poison then (s.poisoned ref x).winch s
    else
      let old := s
      let s := (s.stage ref).bump .TIER_CNT_COUNT 7 0 1
      let y := { x with reading := false }
      let s := ((s.putPage ref y).copyUp ref y).winch old
      if ref.index then s else s.shipGo ref.own
def execReadThroughDone (page : PageRef) (poison : Bool) (s : State) : Host.Outcome State Fault Refusal :=
  .next (match s.page page with
    | some x => if x.up then s else readThroughDone page poison s
    | none => s)

/-! ### Failure of an object (R164, R165) -/

def Place.isIn (o : Nat) : Place → Bool
  | .obj o2 _ => o2 = o
  | .t1 => false
/-- What the loss of an object makes of a page. -/
def Page.afterLoss (o : Nat) (x : Page) : Page :=
  let x := match x.writing with | some w => if w.isIn o then { x with writing := none, sink := false, again := false } else x | none => x
  let low := match x.lower with | some p => p.isIn o | none => false
  if x.st = .lost then x
  else if x.upper.isIn o then
    match x.lower with
    | some p => if low then { x with st := .lost, lower := none, writing := none, reading := false, up := false }
        else { x with st := .lower, upper := p, lower := none, reading := false, up := false }
    | none => { x with st := .lost, writing := none, reading := false, up := false }
  else if low then { x with st := if x.st = .clean && x.upper = .t1 then .dirty else x.st, lower := none }
  else x

/-- Writes of flushes that ended with the object: a page still DIRTY is rewritten elsewhere, or is left with its reason (R174, R176). -/
def State.flushLost (s : State) : State :=
  s.tier.flushes.foldl (fun s r =>
    let ref (w : Nat × Nat) : PageRef := ⟨w.1 % 2 = 1, w.1 / 2, w.2⟩
    let alive (w : Nat × Nat) : Bool := match s.page (ref w) with | some p => p.writing.isSome | none => false
    let gone := r.wait.filter fun w => !alive w
    if gone.isEmpty then s
    else
      let target := match s.cmd r.cmd with | some c => Desc.byte c.desc 17 | none => 0
      let a := gone.foldl (fun (a : State × FlushRun) w =>
        match a.1.page (ref w) with
        | some x => if x.st = .dirty && x.writing.isNone then a.1.flushPage a.2 target (ref w) x else a
        | none => a) (s, { r with wait := r.wait.filter alive })
      let s := { a.1 with tier := { a.1.tier with flushes := a.1.tier.flushes.map fun f => if f.cmd = r.cmd then a.2 else f } }
      if a.2.wait.isEmpty then s.endFlush a.2 else s) s

/-- Declare a tier object failed: `kind` as CAUSE [9:8] of R166. -/
def State.failObject (s : State) (o kind : Nat) (up : Bool) : State :=
  if !s.on .TIER_OBJ_A_PRESENT o || s.on .TIER_OBJ_A_FAILED o then s
  else
    let held := s.allPages.filter fun e => e.2.2.2.places.any (Place.isIn o)
    let s := ((s.wr .TIER_OBJ_A_FAILED o 0 1).wr .TIER_OBJ_A_REASON o 0 kind).wr .TIER_OBJ_A_UP o 0 (b2n up)
    let s := s.bump .TIER_CNT_COUNT 10 0 1
    let s := held.foldl (fun s e => s.putPage ⟨e.1, e.2.1, e.2.2.1⟩ (e.2.2.2.afterLoss o)) s
    let lost := held.filter fun e => (e.2.2.2.afterLoss o).st = .lost
    let s := s.bump .TIER_CNT_COUNT 12 0 lost.length
    let cs := (List.range 64).filter fun c => held.any fun e => s.ownerCtx e.1 e.2.1 = c
    let s := cs.foldl (fun s c => s.tierRecord c o kind (lost.filter fun e => s.ownerCtx e.1 e.2.1 = c).length) s
    let owners := (lost.map fun e => (e.1, e.2.1)).eraseDups
    let s := owners.foldl (fun s w =>
      s.ownerLost w.1 w.2 ((lost.filter fun e => e.1 = w.1 && e.2.1 = w.2).map fun e => e.2.2.1) .tierFail (causeTier o kind)) s
    let s := { s with tier := { s.tier with vacating := setBitN s.tier.vacating o false } }
    let s := if s.on .POOL_OBJ_WINDOW o then s.windowLost o else s
    let ships := s.ses.tab.filter fun (p : Nat × Session) =>
      match p.2.xfer with | some t => t.sender && t.phase = .streaming | none => false
    let s := ships.foldl (fun s (p : Nat × Session) => s.shipStream p.2.handle) s
    (s.flushLost.refreshTierReady).checkLeaving.checkLend

/-- TIER_ACCESS_TIMEOUT (R164). -/
def execTierAccessTimeout (dt obj : Nat) (s : State) : Host.Outcome State Fault Refusal :=
  .next (if obj < 64 then ((s.pass dt).failObject obj 1 true).winch (s.pass dt) else s)
/-- TIER_OBJECT_FAULT (R164): `up` says whether the link and the controller can still be used; a T2 object whose link is up has
signalled viral (log 158). -/
def execTierObjectFault (obj : Nat) (up : Bool) (s : State) : Host.Outcome State Fault Refusal :=
  .next (
    if obj < 64 then
      let t := (s.failObject obj 2 up).winch s
      if obj < 32 && up && s.on .TIER_OBJ_A_PRESENT obj then t.wr .POOL_PORT_STS_VIRAL_IN (s.rd .TIER_OBJ_A_PORT obj) 0 1 else t
    else s)

end Sys2Proof.Machine
end

