-- ==== Sys2Proof/Machine/Steps.lean ====
section
/-! DEFINITION. Step items and steps that end (spec/06 R191, R192; spec/07 R227), gores and panels that fail (R184, R185). -/

namespace Sys2Proof.Machine

/-- A cancelled session's item has run to its end: its rows and seals are discarded (R108, R116, R193). -/
def State.endCancelled (s : State) (t : Step) (e : SEntry) : State :=
  let s := s.bump .GORE_TILE_CNT_COUNT 4 0 (filledHalves t.geo e.pos0 t.ntok t.geo.headLayers)
  let s := s.updEntry t.id e.handle fun e => { e with rows := [], sampled := none }
  s.closeEntry t.id e.handle .cancelled causeCancel

/-- The rows of a step item take effect (R116), seals are formed, the sampled token enters the spool, and the other holder's
acknowledgement is awaited (R88). -/
def State.itemDone (s : State) (t : Step) (e : SEntry) (read : Option Nat) : State :=
  let h := e.handle
  let s := s.takeRows .attn t.ctx t.id h t.geo e.pos0 t.ntok e.rows
  let s := match e.sampled with | some p => s.appendSampled h p.1 p.2 read | none => s
  let wait := match s.sess h with
    | some x => if e.sampled.isSome && x.waitsAck (s.otherHolder x) then some x.spool.length else none
    | none => none
  let s := s.updEntry t.id h fun e => { e with sealing := true, acked := wait.isNone }
  let s := match wait with
    | some n => { s with ses := { s.ses with acks := s.ses.acks ++ [AckWait.item h n t.id (t.entryIdx h) s.now] } }
    | none => s
  s.settleEntry t.id h

/-- STEP_ITEM_END (R191 step 7). Rows that need pages of T1 wait for their places (R160). -/
def stepItemEnd (ctx sid i : Nat) (read : Option Nat) (s : State) : State :=
  match s.step? ctx sid with
  | none => s
  | some t =>
    match t.entries[i]? with
    | none => s
    | some e =>
      if e.inStep && !e.waiting && !e.sealing && t.done = t.geo.layers && (!t.sample || e.sampleDone) &&
          (e.sampled.isSome || !t.sample || e.cancel) then
        let old := s
        if e.cancel then (s.endCancelled t e).winch old
        else if s.entryRoom t e then (s.itemDone t e read).winch old
        else s
      else s
def execStepItemEnd (ctx stepId entry : Nat) (read : Option Nat) (s : State) : Host.Outcome State Fault Refusal :=
  .next (stepItemEnd ctx stepId entry read s).pump

/-- The step has ended (R226, R227, R191 step 8): the last flag, ATTENDs of layers that never complete, STEP_SUBMIT.
A waiting role takes effect at the end of the earliest step in flight (R199, log 162). -/
def State.endStep (s : State) (t : Step) : State :=
  -- a layer kicked that never completes is marked for every entry (R230)
  let s := (List.range (t.kicked - t.done)).foldl (fun s l =>
    (List.range t.entries.length).foldl (fun s i => s.writeMarker t (t.done + l) i) s) s
  let s := s.writeFlag t t.done true
  let s := s.setSteps (s.attn.steps.filter fun (u : Step) => u.id != t.id)
  let left := (t.entries.filter fun (e : SEntry) => e.leftAt.isSome).length
  let s := (t.attends.filter fun p => t.done ≤ p.1).foldl (fun s p => s.finish p.2 .ok 0 0 left) s
  let good := (t.entries.filter fun (e : SEntry) => e.status = .ok).length
  let us := (s.now - t.admittedAt) / 100
  let v := t.verdict.getD (if good = t.entries.length then .ok else .partialDone, 0)
  let s := s.finish t.cmd v.1 v.2 good (t.entries.length - good) us
  if s.attn.steps.any fun (u : Step) => u.id < t.id then s.autoShift else s.roleNow.autoShift
def stepEnd (ctx sid : Nat) (s : State) : State :=
  match s.step? ctx sid with
  | none => s
  | some t => if t.entries.any SEntry.inStep then s else s.endStep t
def execStepEnd (dt ctx stepId : Nat) (s : State) : Host.Outcome State Fault Refusal :=
  .next (stepEnd ctx stepId (s.pass dt)).pump

/-! ### Gores and panels that fail -/

/-- The object that a record of an item's fault names (R456). -/
def State.itemObj (s : State) (i : Item) : Nat :=
  match i.ix with
  | some x => (match s.index x with | some y => y.id | none => 0)
  | none => i.handle
def State.goreFault (s : State) (i : Item) (gore cause : Nat) : State :=
  s.fault i.ctx 3 (s.itemObj i) none 0 (packBytes [(0, gore), (2, cause), (3, i.kind.ctorIdx)])

/-- No panel has power and an unfenced gore: the loss of the whole Flewick (R185). The firmware's code is free. -/
def State.noPanel (s : State) : Bool :=
  (List.range Config.panels).all fun p => s.on .GORE_PANEL_FAULT p || popcount 40 (s.rd .GORE_PANEL_FENCED p) = 40
def State.checkPanels (s : State) : State :=
  if s.noPanel then s.tickFree.wholeFailure 0 0 (s.free % 2 ^ 32) false else s

/-- GORE_FENCE (R184). -/
def goreFence (gore cause : Nat) (s : State) : State :=
  let p := panelOf gore
  if bitAt (s.rd .GORE_PANEL_FENCED p) (goreX gore) then s
  else
    let old := s
    let held := s.itemOn gore
    let s := (s.wr .GORE_PANEL_FENCED p 0 (setBitN (s.rd .GORE_PANEL_FENCED p) (goreX gore) true)).bump .GORE_CNT_COUNT 10 0 1
    let s := match held with | some i => (s.goreFault i gore cause).rerunItem i | none => s
    ((s.refreshPanel p).winch old).checkPanels
def execGoreFence (gore cause : Nat) (s : State) : Host.Outcome State Fault Refusal :=
  .next (if gore < Config.gores && cause < 3 && s.boot.stage = .configured then goreFence gore cause s else s)

/-- PANEL_POWER_FAULT (R184). -/
def panelPowerFault (p : Nat) (s : State) : State :=
  if s.on .GORE_PANEL_FAULT p then s
  else
    let old := s
    let held := s.gore.items.filter fun i => i.st = .running && panelOf i.gore = p
    let s := ((s.wr .GORE_PANEL_FAULT p 0 1).wr .RING_LED_FAULT 0 0 3).refreshPanel p
    let s := held.foldl (fun s i => (s.goreFault i i.gore 3).rerunItem i) s
    (s.winch old).checkPanels
def execPanelPowerFault (panel : Nat) (s : State) : Host.Outcome State Fault Refusal :=
  .next (if panel < Config.panels && s.boot.stage = .configured then panelPowerFault panel s else s)

end Sys2Proof.Machine
end

