-- ==== Sys2Proof/Machine/Abort.lean ====
section
/-! DEFINITION. Commands that end before their time: QUEUE_CLOSE with ABORT (spec/02 R70), pair 0 closing (R46), SESS_CANCEL
(spec/03 R108), disabled functions and resets (spec/17 R474, spec/18 R482, R483). -/

namespace Sys2Proof.Machine

/-- How commands end: at their next boundary; in a CTX reset, where transfers run on (R93); in an FN reset. -/
inductive EndMode where
  | boundary | ctx | fn
  deriving DecidableEq, Repr

/-- The acknowledgement waits that satisfy a test are dropped. -/
def State.dropAcks (s : State) (p : AckWait → Bool) : State :=
  { s with ses := { s.ses with acks := s.ses.acks.filter fun w => !p w } }

/-- A STEP_SUBMIT ends with a status: its entries leave (R193), and a CTX reset writes no further flag (R239). An item that only waits for the
mirror's acknowledgement is past its last boundary (log 98). The step ends once no entry is left. -/
def State.abortStep (s : State) (t : Step) (st : Status) (cause : Nat) (m : EndMode) : State :=
  let s := s.updStep t.id fun t => { t with verdict := some (st, cause), mute := t.mute || m = .ctx }
  let s := t.entries.foldl (fun s (e : SEntry) =>
    s.leaveStep t.id e.handle st cause (m != .boundary || s.sealsLeft .attn t.id e.handle)) s
  match s.stepById t.id with
  | some u => if u.entries.any SEntry.inStep then s else s.endStep u
  | none => s

/-- SESS_REVIVE stops: the session is PARKED again and keeps the pages already promoted (R108). -/
def State.stopRevive (s : State) (h : Nat) : State :=
  match s.sess h with
  | some x =>
    if x.st = .reviving then
      (s.setSess { x with pages := x.pages.map fun (q : Nat × Page) => (q.1, { q.2 with reading := false }) }).enter h .parked
    else s
  | none => s

/-- A SESS_SHIP ends: before step 5 of R99 the transfer is given up, except in a CTX reset; afterwards it runs on (R93, R103).
An FN reset of CONTROL settles it by a tether query (R482). -/
def State.abortShip (s : State) (c : Cmd) (st : Status) (cause : Nat) (m : EndMode) : State :=
  let h := Desc.handle c.desc
  match s.sess h with
  | some x =>
    if m = .ctx then s.finish c.id st cause
    else if m = .fn then (s.updXfer h fun t => { t with follow := true }).finish c.id st cause
    else if x.beforeFive then s.shipAbort h st cause
    else s.finish c.id st cause
  | none => s.finish c.id st cause

/-- A KV_APPEND ends: its rows and seals are discarded (R116). -/
def State.abortKv (s : State) (c : Cmd) (st : Status) (cause : Nat) : State :=
  match s.attn.kvRuns.find? fun (r : KvRun) => r.cmd = c.id with
  | none => s.finish c.id st cause
  | some r => s.endKv r st cause

/-- The tokens of a TEXT_APPEND that waits for its acknowledgement leave the spool again, here and at the other holder (R108, R259): while
they are its last ones. -/
def State.unappend (s : State) (k : Nat) : Option State :=
  match s.ses.acks.find? fun w => w.cmdOf = some k with
  | some (.cmd h upto c _) =>
    match s.sess h with
    | some x =>
      if x.spool.length = upto then
        let y := { x with spool := x.spool.take (upto - c.r0) }
        some ((((s.dropAcks fun w => w.cmdOf = some k).setSess y).writeSpool h).sendSpool y y.spool.length [])
      else none
    | none => none
  | _ => none
/-- A TEXT_APPEND that has begun ends in a reset: nothing is appended (R259). -/
def State.abortText (s : State) (c : Cmd) (st : Status) (cause : Nat) (m : EndMode) : State :=
  if m = .boundary then s
  else match s.unappend c.id with
    | some t => t.finish c.id st cause
    | none => s

/-- Commit the sequences of an index up to and with that of a command (R303). -/
def State.commitThrough (s : State) (n k : Nat) : Nat → State
  | 0 => s
  | fuel + 1 =>
    match s.index n with
    | some ix => if ix.pend.any fun p => p.cmd = k then State.commitThrough (s.commitNext n) n k fuel else s
    | none => s
/-- An INDEX_INSERT or INDEX_DELETE ends: its sequence commits void (R305, R319). -/
def State.abortSeq (s : State) (c : Cmd) (st : Status) (cause : Nat) (m : EndMode) : State :=
  let s := (s.killItems (runItem c.id)).voidPend (fun p => p.cmd = c.id) st cause
  if m = .boundary then s
  else s.rcl.indexes.foldl (fun s (p : Nat × RIndex) => s.commitThrough p.1 c.id p.2.pend.length) s

/-- A SAMPLE ends before its draw. Its entries end with the status in TOK and RES, but for a CTX reset, which takes the queues
away; a disabled DEC ends the step items that they name too (R278, R288). -/
def State.abortSample (s : State) (c : Cmd) (st : Status) (cause : Nat) (m : EndMode) : State :=
  let d := c.desc
  let s := if m = .ctx then s
    else ((List.range (Desc.num d 20 2)).foldl (fun (p : State × SampRun) r => p.1.sampleOut c r (.refused st cause 0) p.2) (s, SampRun.empty)).1
  let s : State := match s.step? c.ctx (Desc.num d 16 2) with
    | some t =>
      if st = .disabled && t.sample && !Desc.flag d 8 then
        (((t.entries.drop (Desc.num d 18 2)).take (Desc.num d 20 2)).filter fun e => !e.sampleDone).foldl
          (fun s (e : SEntry) => s.leaveStep t.id e.handle st cause) s
      else s
    | none => s
  s.finish c.id st cause

/-- A command that has started ends with a status. -/
def State.endRunning (s : State) (c : Cmd) (st : Status) (cause : Nat) (m : EndMode) : State :=
  let k := c.id
  let h := Desc.handle c.desc
  match c.op with
  | 0x02 => s
  | 0x13 => (s.stopRevive h).finish k st cause
  | 0x17 => s.abortShip c st cause m
  | 0x20 => s.abortText c st cause m
  | 0x1A | 0x33 =>
    if m = .boundary then s else (s.dropAcks fun w => w.cmdOf = some k).finish k st cause
  | 0x30 => match s.attn.steps.find? fun (t : Step) => t.cmd = k with
    | some t => s.abortStep t st cause m
    | none => s.finish k st cause
  | 0x31 => (s.setSteps (s.attn.steps.map fun (t : Step) => { t with attends := t.attends.filter fun p => p.2 != k })).finish k st cause
  | 0x32 => s.abortKv c st cause
  | 0x41 | 0x42 => s.abortSeq c st cause m
  | 0x43 => match s.run? k with
    | some r => s.failRun r st cause
    | none => s.finish k st cause
  | 0x45 => (s.endEnc k).finish k st cause
  | 0x51 => match s.pool.pubs.find? fun (p : PubRun) => p.cmd = k with
    | some p => s.endPub p st cause 0 0
    | none => s.finish k st cause
  | 0x54 =>
    ({ s with tier := { s.tier with flushes := s.tier.flushes.filter fun f => f.cmd != k } }).finish k st cause
  | 0x55 => match s.pool.lend with
    | some r => if r.cmd = k then s.endLend r st cause 0 else s.finish k st cause
    | none => s.finish k st cause
  | 0x62 | 0x63 => (s.setRing { s.ring with setters := s.ring.setters.filter fun n => n != k }).finish k st cause
  | 0x70 => if m = .boundary then s else s.finish k st cause
  | 0x71 =>
    (s.setFleet { s.fleet with roleSet := if s.fleet.roleSet = some k then none else s.fleet.roleSet }).finish k st cause
  | 0x72 => (s.setFleet { s.fleet with remote := s.fleet.remote.filter fun r => r.cmd != k }).finish k st cause
  | 0x73 =>
    ({ s with fab := { s.fab with evac := s.fab.evac.map fun (e : EvacRun) => { e with cmd := e.cmd.filter fun n => n != k } } }).finish k st cause
  | _ => s.finish k st cause

/-- A command that is accepted and not complete ends with a status. -/
def State.endCmd (s : State) (k : Nat) (st : Status) (cause : Nat) (m : EndMode) : State :=
  let old := s
  match s.cmd k with
  | none => s
  | some c =>
    match c.phase with
    | .done => s
    | .waiting => ((if c.op = 0x33 then s.abortSample c st cause m else s.finish k st cause).sweepImages).winch old
    | .running => ((s.endRunning c st cause m).sweepImages).winch old

/-- Every command that satisfies a test ends, in the order of acceptance. -/
def State.endCmds (s : State) (p : Cmd → Bool) (st : Status) (cause : Nat) (m : EndMode) : State :=
  ((s.hti.cmds.filter p).map fun c => c.id).foldl (fun s k => s.endCmd k st cause m) s

/-! ### QUEUE_CLOSE (R70, R71) and PAIR0_CLOSE (R46, R47) -/

/-- A second close of a pair waits until the first completes (R71). -/
def State.closeReady (s : State) (c : Cmd) : Bool :=
  match s.pair c.ctx (Desc.byte c.desc 8) with
  | some p => (match p.closer with | some n => n = c.id | none => true)
  | none => true
def State.mayClose (s : State) (c : Cmd) : Bool := Desc.byte c.desc 8 != 0 && (s.pair c.ctx (Desc.byte c.desc 8)).isSome
def queueClose (c : Cmd) (s : State) : State :=
  let q := Desc.byte c.desc 8
  match s.pair c.ctx q with
  | none => s.finish c.id .badHandle
  | some p =>
    let s := s.setPair c.ctx q { p with closer := some c.id, waitq := [] }
    let s := if Desc.flag c.desc 8 then
        s.endCmds (fun d => d.ctx = c.ctx && d.pair = q && d.id != c.id) .cancelled causeQueueClose .boundary
      else s
    s.settle s.hti.cmds.length
/-- A write of HTI_W_AQCFG with EN = 0. With no pair open it only takes its fields, and a failed setting's FAULT clears; else every pair
closes and its commands end without a completion. -/
def closePair0 (ctx value : Nat) (s : State) : State :=
  let s := (s.wr .HTI_W_AQCFG_EN ctx 0 0).putAqcfg ctx value
  if !s.anyPair ctx then s.wr .HTI_W_AQCFG_FAULT ctx 0 0
  else
    let left := (s.hti.cmds.filter fun (d : Cmd) => d.ctx != ctx || d.phase != .done).map fun (d : Cmd) =>
      if d.ctx = ctx then { d with pair := noPair } else d
    let s := { s with hti := { s.hti with pairs := s.hti.pairs.filter fun (p : Nat × Pair) => p.1 / 256 != ctx, cmds := left } }
    let s := (s.wr .HTI_W_AQCFG_RDY ctx 0 1).endCmds (fun d => d.ctx = ctx) .cancelled causeQueueClose .boundary
    s.settle s.hti.cmds.length
def execPair0Close (port ctx value : Nat) (s : State) : Host.Outcome State Fault Refusal :=
  .next (if ctx < 64 && !bitAt value 8 then s.window port ctx 0x1010 (closePair0 ctx value) else s)

/-! ### SESS_CANCEL (R108) -/

/-- One accepted command of the handle: the state, whether it was cancelled, whether it is a transfer that runs on. -/
def State.cancelCmd (s : State) (d : Cmd) : State × Bool × Bool :=
  let go := (s.endCmd d.id .cancelled causeCancel .boundary, true, false)
  match d.phase with
  | .done => (s, false, false)
  | .waiting => go
  | .running =>
    if d.op = 0x17 then
      match s.sess (Desc.handle d.desc) with
      | some x => if x.beforeFive then go else (s, false, true)
      | none => go
    else if d.op = 0x20 then
      match s.unappend d.id with
      | some t => ((t.finish d.id .cancelled causeCancel).sweepImages, true, false)
      | none => (s, false, false)
    else if d.op = 0x1A then (s, false, false)
    else go
/-- Step items of a session run to their end with nothing appended; how many. -/
def State.cancelItems (s : State) (h : Nat) : State × Nat :=
  let hit (e : SEntry) : Bool := e.handle = h && e.inStep && !e.sealing
  let n := s.attn.steps.foldl (fun a (t : Step) => a + (t.entries.filter hit).length) 0
  (s.setSteps (s.attn.steps.map fun (t : Step) =>
    { t with entries := t.entries.map fun (e : SEntry) => if hit e then { e with cancel := true } else e }), n)
/-- Undrawn entries of waiting LIST SAMPLEs that may name the session are to end with CANCELLED (R279): the lists are read at the draw. -/
def State.cancelDraws (s : State) (c : Cmd) (h : Nat) : State :=
  s.setCmds (s.hti.cmds.map fun (d : Cmd) =>
    if d.ctx = c.ctx && d.id < c.id && d.op = 0x33 && d.phase = .waiting && Desc.flag d.desc 8 then { d with cancels := h :: d.cancels } else d)
def sessCancel (c : Cmd) (s : State) : State :=
  let h := Desc.handle c.desc
  match s.sess h with
  | none => s.finish c.id .badHandle
  | some x =>
    if x.st = .orphaned || x.st = .failed then s.finish c.id .orphaned x.orphanCause
    else if x.receiving then s.finish c.id .busyTether x.busyCause
    else if !x.owner_ then s.finish c.id .ownerConflict x.ownerCause
    else if s.fab.isolated then s.finish c.id .retryLater (hintMs 10)
    else
      let a := (s.cancelDraws c h).cancelItems h
      let ks := s.hti.cmds.filter fun (d : Cmd) => d.ctx = c.ctx && d.id < c.id && Desc.handle d.desc = h
      let b := ks.foldl (fun (r : State × Nat × Bool) d =>
        let t := r.1.cancelCmd d
        (t.1, r.2.1 + b2n t.2.1, r.2.2 || t.2.2)) (a.1, a.2, false)
      b.1.finish c.id .ok 0 b.2.1 (b2n b.2.2)
def execSessCancel (k : Nat) (s : State) : Host.Outcome State Fault Refusal :=
  .next (s.begin k 0x19 anyForm anyCmd s.sessLive sessCancel)

end Sys2Proof.Machine
end

