-- ==== Sys2Proof/Machine/Fleet.lean ====
section
/-! DEFINITION. Roles, admission and metering across the fleet (spec/14): ROLE_SET, the evaluation of the gauges, storage meters
and checkpoints, METER_READ here and at another Flewick, its registers. -/

namespace Sys2Proof.Machine

/-! ### Roles (R387, R388) -/

def State.mixNow (s : State) : Nat × Nat × Nat := (s.rd .GORE_ROLE_MIX_ATTN, s.rd .GORE_ROLE_MIX_ASSIST, s.rd .GORE_ROLE_MIX_RECALL)

/-- The ROLE_SET that waits is replaced: it completes with OK, superseded. -/
def State.supersede (s : State) : State :=
  match s.fleet.roleSet with
  | some k =>
    let r := s.rd .GORE_ROLE_ROLE
    (((s.setFleet { s.fleet with roleSet := none }).wr .GORE_ROLE_PENDING_VALID 0 0 0).finish k .ok 0 (r + 4 * r) 1)
  | none => s

/-- ROLE_SET after the intake steps. -/
def roleSet (c : Cmd) (s : State) : State :=
  let role := Desc.byte c.desc 16
  match mixOf c.desc with
  | some m =>
    if m.1 + m.2.1 + m.2.2 != 100 then s.finish c.id .reservedNonzero 17
    else roleAsk c role (s.rd .GORE_ROLE_ROLE = role && s.mixNow = m) s
  | none => roleAsk c role (s.rd .GORE_ROLE_ROLE = role) s
where
  roleAsk (c : Cmd) (role : Nat) (same : Bool) (s : State) : State :=
    let s := (s.bump .CTL_ADM_CNT_COUNT 9 0 1).supersede
    if same then s.finish c.id .ok 0 (role + 4 * role)
    else
      let s := (s.wr .GORE_ROLE_PENDING 0 0 role).wr .GORE_ROLE_PENDING_VALID 0 0 1
      let s := s.setFleet { s.fleet with roleSet := some c.id }
      if s.attn.steps.isEmpty then s.roleNow.winch s else s
def execRoleSet (k : Nat) (s : State) : Host.Outcome State Fault Refusal :=
  .next (s.begin k 0x71 anyForm anyCmd anyCmd roleSet)

/-! ### Admission (R392, R395 to R397) -/

/-- ADMISSION_EVALUATION. -/
def admissionEval (s : State) : State :=
  let g := s.gauges
  let was := s.isShort
  let s := s.wr .CTL_ADM_STS_CAUSE 0 0 g
  let s :=
    if g != 0 then
      let s := (s.wr .CTL_ADM_STS_SHORT 0 0 1).bump .CTL_ADM_CNT_COUNT 1 0 1
      if was then s
      else
        let s := s.bump .CTL_ADM_CNT_COUNT 0 0 1
        let s := s.setFleet { s.fleet with shortInt := s.rd .CTL_ADM_CNT_COUNT 5, shortBatch := s.batchSum }
        if s.interAloft then s.askShift else s
    else if was then (s.wr .CTL_ADM_STS_SHORT 0 0 0).setFleet { s.fleet with clearAt := s.now }
    else s
  if s.attn.steps.isEmpty then s.autoShift else s
def execAdmissionEvaluation (dt : Nat) (s : State) : Host.Outcome State Fault Refusal :=
  .next (let s := s.pass dt; if s.on .CTL_READY_CONTROL then admissionEval s else s)

/-! ### Meters (R401, R402) -/

/-- 64 KiB places of each context in T1, T2 and T3. -/
def Place.tier : Place → Nat
  | .t1 => 0
  | .obj o _ => if o < 32 then 1 else 2
def State.placesOf (s : State) (c tier : Nat) : Nat :=
  let pages := s.allPages.foldl (fun a e =>
    if s.ownerCtx e.1 e.2.1 = c then a + (e.2.2.2.places.filter fun p => Place.tier p = tier).length else a) 0
  let store := s.pool.regions.foldl (fun a (p : Nat × PRegion) => if p.2.owner = c then a + p.2.pages else a) 0
  pages + if tier = 0 then 16 * s.rd .GORE_BRIDLE_EFF_MIB c + store else 0
/-- STORAGE_METER_TICK. -/
def storageTick (s : State) : State :=
  (List.range 64).foldl (fun s c =>
    (List.range 3).foldl (fun s t => s.bump .MTR_LIVE_COUNT c (1 + t) (s.placesOf c t)) s) s
def execStorageMeterTick (dt : Nat) (s : State) : Host.Outcome State Fault Refusal := .next (storageTick (s.pass dt))

/-- METER_CHECKPOINT. -/
def State.checkpointAll (s : State) : State :=
  ((List.range 64).foldl (fun s c => s.checkpoint c) s).bump .MTR_CNT_COUNT 4 0 1
def execMeterCheckpoint (dt : Nat) (s : State) : Host.Outcome State Fault Refusal := .next (s.pass dt).checkpointAll

/-! ### METER_READ (R406, R407) -/

/-- What a METER_READ gives at its source: status, CAUSE, result words, records. -/
structure MeterRes where
  st : Status
  cause : Nat
  r0 : Nat
  r1 : Nat
  r2 : Nat
  records : List Nat

/-- The operation at the source: `op` 0 LIVE, 1 FETCH, 2 ACK; `own` says that CTX is the requester's on this Flewick. -/
def State.meterOp (s : State) (op ctx count seq : Nat) (right : Bool) : State × MeterRes :=
  let res (s : State) (r0 : Nat) (l : List Nat) : State × MeterRes :=
    (s, ⟨.ok, 0, r0, s.unacked, s.rd .MTR_CNT_COUNT 3 % 2 ^ 32, l⟩)
  if !right then (s, ⟨.authFail, 4, 0, 0, 0, []⟩)
  else if op = 0 then
    let p := s.comp ctx
    let r := s.meterRecord ctx 1 0 p (s.boundPort ctx) 0 s.now false (s.meters ctx)
    res (s.tickFree.bump .MTR_CNT_COUNT 1 0 1) 1 [r]
  else if op = 1 then
    let l := (s.fleet.arch.filter fun (r : MRec) => (ctx = 255 || r.ctx = ctx) && decide (seq ≤ r.seq)).take count
    res s l.length (l.map MRec.data)
  else
    let n := (s.fleet.arch.filter fun (r : MRec) => !r.acked && decide (r.seq ≤ seq)).length
    let s := (s.setFleet { s.fleet with arch := s.fleet.arch.map fun (r : MRec) => if r.seq ≤ seq then { r with acked := true } else r }).refreshArch
    res s n []

/-- The records reach the buffer and the command completes. -/
def State.meterDone (s : State) (c : Cmd) (r : MeterRes) (wrote : Bool) : State :=
  if r.st != .ok then s.finish c.id r.st r.cause
  else if !r.records.isEmpty && !wrote then s.finish c.id .retryLater (hintMs 1)
  else
    let s := if r.records.isEmpty then s
      else s.emit (.write c.ctx (Desc.num c.desc 24 8) (288 * r.records.length) (packWords 288 r.records))
    s.finish c.id .ok 0 r.r0 r.r1 r.r2

def meterArgs (c : Cmd) (mgmt : Bool) : List Nat :=
  [c.id, bitsOf (Desc.flags c.desc) 9 8, Desc.byte c.desc 16, Desc.num c.desc 20 4, Desc.num c.desc 32 8, c.ctx, b2n mgmt]
def State.askMeter (s : State) (c : Cmd) : State :=
  s.send (Desc.num c.desc 18 2) 6 .meterReq 0 0 0 0 (meterArgs c (s.on .HTI_CTX_MGMT c.ctx))

/-- METER_READ after the intake steps. -/
def meterRead (wrote : Bool) (c : Cmd) (s : State) : State :=
  let src := Desc.num c.desc 18 2
  let op := bitsOf (Desc.flags c.desc) 9 8
  let ctx := Desc.byte c.desc 16
  let right := s.on .HTI_CTX_MGMT c.ctx || (src = s.myId && ctx = c.ctx && op != 2)
  if !right then s.finish c.id .authFail 4
  else if src = s.myId then
    let r := s.meterOp op ctx (Desc.num c.desc 20 4) (Desc.num c.desc 32 8) true
    r.1.meterDone c r.2 wrote
  else if !s.joined src then s.finish c.id .reservedNonzero 18
  else (s.setFleet { s.fleet with remote := s.fleet.remote ++ [⟨c.id, s.now, 1⟩] }).askMeter c
def execMeterReadLive (k : Nat) (wrote : Bool) (s : State) : Host.Outcome State Fault Refusal :=
  .next (s.begin k 0x72 (opOf 9 8 0) anyCmd anyCmd (meterRead wrote))
def execMeterReadFetch (k : Nat) (wrote : Bool) (s : State) : Host.Outcome State Fault Refusal :=
  .next (s.begin k 0x72 (opOf 9 8 1) anyCmd anyCmd (meterRead wrote))
def execMeterReadAck (k : Nat) (s : State) : Host.Outcome State Fault Refusal :=
  .next (s.begin k 0x72 (opOf 9 8 2) anyCmd anyCmd (meterRead true))

/-- REMOTE_METER_REQUEST (R407): the request at the source, or its answer (log 90). -/
def remoteMeter (m : MeterMsg) (s : State) : State :=
  match m with
  | .request src cmd op ctx count seq _ mgmt =>
    let r := s.meterOp op ctx count seq mgmt
    let v := r.2
    (r.1.bump .MTR_CNT_COUNT 6 0 1).send src 6 .meterAnswer 0 0 cmd v.st.code
      ([v.cause, v.r0, v.r1, v.r2, v.records.length] ++ v.records)
  | .answer cmd st cause r0 r1 r2 records wrote =>
    match s.fleet.remote.find? fun (r : RemRun) => r.cmd = cmd, s.cmd cmd with
    | some _, some c =>
      let s := s.setFleet { s.fleet with remote := s.fleet.remote.filter fun (r : RemRun) => r.cmd != cmd }
      s.meterDone c ⟨if st = 0 then .ok else .authFail, cause, r0, r1, r2, records⟩ wrote
    | _, _ => s
def execRemoteMeterRequest (msg : MeterMsg) (s : State) : Host.Outcome State Fault Refusal := .next (remoteMeter msg s)

/-- REMOTE_METER_TIMEOUT (R407). -/
def remoteTimeout (k : Nat) (s : State) : State :=
  match s.fleet.remote.find? fun (r : RemRun) => r.cmd = k, s.cmd k with
  | some r, some c =>
    if r.at_ + 1000000 ≤ s.now then
      if r.sends < 2 then
        (s.setFleet { s.fleet with remote := s.fleet.remote.map fun (q : RemRun) => if q.cmd = k then ⟨k, s.now, q.sends + 1⟩ else q }).askMeter c
      else
        (s.setFleet { s.fleet with remote := s.fleet.remote.filter fun (q : RemRun) => q.cmd != k }).finish k .retryLater (hintMs 10)
    else s
  | _, _ => s
def execRemoteMeterTimeout (dt k : Nat) (s : State) : Host.Outcome State Fault Refusal := .next (remoteTimeout k (s.pass dt))

/-! ### Registers -/

/-- MTR_COMP_TAG_WRITE (R400). -/
def compTag (ctx value : Nat) (s : State) : State :=
  if s.on .HTI_CTX_EN ctx then s.bump .MTR_CNT_COUNT 7 0 1 else s.put .MTR_COMP_TAG ctx 0 value
def execMtrCompTagWrite (ctx value : Nat) (s : State) : Host.Outcome State Fault Refusal :=
  .next (if ctx < 64 then s.hostWrite64 .MTR_COMP_TAG ctx value fun s => s.lockWrite ctx (compTag ctx value) else s)
/-- CTL_ADM_CNT_CLR and MTR_CNT_CLR (R29). -/
def execCtlAdmCntClr (value : Nat) (s : State) : Host.Outcome State Fault Refusal :=
  .next (s.hostWrite .CTL fun s => if bitAt value 0 then s.zeroAll .CTL_ADM_CNT_COUNT else s)
def execMtrCntClr (value : Nat) (s : State) : Host.Outcome State Fault Refusal :=
  .next (s.hostWrite .MTR fun s => if bitAt value 0 then s.zeroAll .MTR_CNT_COUNT else s)

end Sys2Proof.Machine
end

