-- ==== Sys2Proof/Machine/MbxOps.lean ====
section
/-! DEFINITION. Mailbox channels, compact signalling and event rings (spec/16). -/

namespace Sys2Proof.Machine

def State.setMbx (s : State) (m : Mbx) : State := { s with mbx := m }
def Chan.blank : Chan := ⟨0, 0, 0, 0, 0, none⟩
/-- A channel: 0 to 63 those of the contexts, 64 to 71 the secure ones. -/
def State.chan (s : State) (ch : Nat) : Chan := (Map.find s.mbx.chans ch).getD Chan.blank
def State.setChan (s : State) (ch : Nat) (c : Chan) : State := s.setMbx { s.mbx with chans := Map.put s.mbx.chans ch c }

/-! ### The channel's registers -/

def State.chanBusy (s : State) (ch : Nat) : Bool :=
  if ch < 64 then s.on .HTI_W_MBSTS_BUSY ch else s.on .MBX_S_STS_BUSY (ch - 64)
def State.setBusy (s : State) (ch : Nat) (b : Bool) : State :=
  if ch < 64 then s.wr .HTI_W_MBSTS_BUSY ch 0 (b2n b) else s.wr .MBX_S_STS_BUSY (ch - 64) 0 (b2n b)
def State.chanFull (s : State) (ch : Nat) : Bool :=
  if ch < 64 then s.on .HTI_W_MBRSP_FULL ch else s.on .MBX_S_RSP_FULL (ch - 64)
def State.setReject (s : State) (ch : Nat) : State :=
  if ch < 64 then s.wr .HTI_W_MBSTS_REJECT ch 0 1 else s.wr .MBX_S_STS_REJECT (ch - 64) 0 1
/-- FULL, LEN and TOKEN of the response seal. -/
def State.setRsp (s : State) (ch : Nat) (full : Bool) (len token : Nat) : State :=
  if ch < 64 then
    ((s.wr .HTI_W_MBRSP_FULL ch 0 (b2n full)).wr .HTI_W_MBRSP_LEN ch 0 len).wr .HTI_W_MBRSP_TOKEN ch 0 token
  else
    ((s.wr .MBX_S_RSP_FULL (ch - 64) 0 (b2n full)).wr .MBX_S_RSP_LEN (ch - 64) 0 len).wr .MBX_S_RSP_TOKEN (ch - 64) 0 token
/-- The word that a read of the response seal returns. -/
def State.rspWord (s : State) (ch : Nat) : Nat :=
  if ch < 64 then s.rd .HTI_W_MBRSP_LEN ch + s.rd .HTI_W_MBRSP_TOKEN ch * 2 ^ 16 + s.rd .HTI_W_MBRSP_FULL ch * 2 ^ 31
  else s.rd .MBX_S_RSP_LEN (ch - 64) + s.rd .MBX_S_RSP_TOKEN (ch - 64) * 2 ^ 16 + s.rd .MBX_S_RSP_FULL (ch - 64) * 2 ^ 31

/-- A write of the seal word (R442), by path 0 host or 1 MCTP (R446). -/
def State.seal (s : State) (ch path value : Nat) : State :=
  let len := bitsOf value 11 0
  if s.chanBusy ch || s.chanFull ch || len = 0 || len > 1024 then (s.setReject ch).bump .MBX_CNT_COUNT 1 0 1
  else
    let c := s.chan ch
    let s := s.setChan ch { c with len := len, token := bitsOf value 23 16, path := path, ans := none }
    let s := if ch < 64 then s else s.wr .MBX_S_STS_PATH (ch - 64) 0 path
    (s.setBusy ch true).bump .MBX_CNT_COUNT 0 0 1

/-! ### Requests and answers (R445) -/

/-- A byte and a little-endian number of the request. -/
def Chan.byte (c : Chan) (i : Nat) : Nat := tileField c.req i 1
def Chan.num (c : Chan) (i n : Nat) : Nat := tileField c.req i n
/-- Firmware's answer: STATUS, CAUSE and results of `n` bytes. -/
def State.reply (s : State) (ch : Nat) (st : Status) (cause n results : Nat) : State :=
  let c := s.chan ch
  s.setChan ch { c with ans := some (4 + n, st.code + cause % 2 ^ 16 * 2 ^ 16 + results % 2 ^ (8 * n) * 2 ^ 32) }

/-- The first argument byte of a request that is out of range: non-zero zero bytes, ranges (R445). -/
def Chan.argFault (c : Chan) (secure : Bool) : Option Nat :=
  let z (l : List Nat) : Option Nat := l.find? fun i => c.byte i != 0
  match z [2, 3] with
  | some i => some i
  | none =>
    match secure, c.byte 0 with
    | false, 3 => if c.byte 8 = 0 || c.byte 8 > 31 then some 8 else none
    | true, 2 =>
      if c.byte 4 > 1 then some 4 else if c.byte 5 > 1 then some 5
      else match z [6, 7] with
        | some i => some i
        | none => if c.num 12 4 = 0 || c.num 12 4 > 2 ^ 24 then some 12 else none
    | true, 3 => if c.byte 4 > 63 then some 4 else z [5, 6, 7]
    | true, 4 => if c.byte 4 > 1 then some 4 else if c.byte 5 > 1 then some 5 else z [6, 7]
    | true, 6 => if c.byte 4 > 1 then some 4 else none
    | _, _ => none
/-- The procedures of a kind of channel. -/
def procKnown (secure : Bool) (p : Nat) : Bool := if secure then decide (1 ≤ p ∧ p ≤ 7) else decide (1 ≤ p ∧ p ≤ 4)
/-- Status and CAUSE with which R445 turns a request away. -/
def State.reqFault (s : State) (ch : Nat) : Option (Status × Nat) :=
  let c := s.chan ch
  let secure := decide (64 ≤ ch)
  if c.byte 1 != 1 then some (.badVersion, 1)
  else if !procKnown secure (c.byte 0) then some (.badOpcode, 0)
  else match c.argFault secure with
    | some i => some (.reservedNonzero, i)
    | none => if !secure && (c.byte 0 = 3 || c.byte 0 = 4) && !s.on .HTI_CTX_MGMT ch then some (.authFail, 1) else none

/-- Firmware runs a procedure on a channel: its request is sealed, not yet answered, names the procedure and passes R445. -/
def State.procedure (s : State) (ch p : Nat) (f : Chan → State → State) : State :=
  let c := s.chan ch
  if ch < 72 && c.len != 0 && c.ans.isNone && c.byte 0 = p && (s.reqFault ch).isNone then f c s else s

/-! ### Compact signalling (R449 to R451) -/

/-- The enabled contexts of a port. -/
def State.portCtxs (s : State) (p : Nat) : List Nat := (List.range 64).filter fun c => s.on .HTI_CTX_EN c && s.port c = p
/-- A context takes the lowest free position of its port. -/
def State.takePos (s : State) (c : Nat) : State :=
  let used := ((s.portCtxs (s.port c)).filter fun d => d != c && s.on .MBX_CTX_VALID d).map fun d => s.rd .MBX_CTX_POS d
  match (List.range 16).find? fun n => !used.contains n with
  | some n => (s.wr .MBX_CTX_POS c 0 n).wr .MBX_CTX_VALID c 0 1
  | none => s
/-- A context gives its position up; the lowest context of the port that has none takes it. -/
def State.dropPos (s : State) (c p : Nat) : State :=
  if !s.on .MBX_CTX_VALID c then s
  else
    let n := s.rd .MBX_CTX_POS c
    let s := (s.wr .MBX_CTX_POS c 0 0).wr .MBX_CTX_VALID c 0 0
    let s := s.wr .MBX_SUM_BITS p 0 (s.rd .MBX_SUM_BITS p - bitsOf (s.rd .MBX_SUM_BITS p) (4 * n + 3) (4 * n) * 2 ^ (4 * n))
    match (s.portCtxs p).find? fun d => d != c && !s.on .MBX_CTX_VALID d with
    | some d => (s.wr .MBX_CTX_POS d 0 n).wr .MBX_CTX_VALID d 0 1
    | none => s

/-- The conditions of R449. -/
def State.mayCompact (s : State) (p : Nat) : Bool :=
  s.on .MBX_PORT_CFG_COMPACT_EN p && !s.on .HTI_PORT_CTL_SRIOV p && s.rd .MBX_SUM_ADDR_BASE p != 0 &&
    !(if p = 0 then s.on .MBX_MODE_SUM_FAIL0 else s.on .MBX_MODE_SUM_FAIL1) && (s.portCtxs p).all fun c => s.on .MBX_CTX_VALID c
/-- A source has an unread record or response. -/
def State.unread (s : State) (c src : Nat) : Bool :=
  match src with
  | 0 => s.on .HTI_W_MBRSP_FULL c
  | 1 => (s.evt c).on && s.rd .HTI_W_EVT_IDX_HEAD c != s.rd .HTI_W_EVT_IDX_TAIL c
  | 2 => s.rd .HTI_W_FLT_IDX_HEAD c != s.rd .HTI_W_FLT_IDX_NEXT c
  | _ => false
/-- MBX_MODE follows R449; a change acts as R451 states. -/
def State.refreshMode (s : State) (p : Nat) : State :=
  let was := s.compact p
  let now := s.mayCompact p
  let s := s.wr (if p = 0 then .MBX_MODE_COMPACT0 else .MBX_MODE_COMPACT1) 0 0 (b2n now)
  if was && !now then
    let bits := s.rd .MBX_SUM_BITS p
    let s := (s.portCtxs p).foldl (fun s c =>
      if !s.on .MBX_CTX_VALID c then s
      else (List.range 3).foldl (fun s src => if bitAt bits (4 * s.rd .MBX_CTX_POS c + src) then s.signal c src else s) s) s
    let s := s.wr .MBX_SUM_BITS p 0 0
    s.setMbx { s.mbx with sumPend := setBitN s.mbx.sumPend p false }
  else if !was && now then
    let bits := (s.portCtxs p).foldl (fun a c => (List.range 3).foldl (fun a src =>
      if s.unread c src then setBitN a (4 * s.rd .MBX_CTX_POS c + src) true else a) a) 0
    let s := s.wr .MBX_SUM_BITS p 0 bits
    if bits = 0 then s else s.sumWrite p
  else s

/-! ### A channel's reset (R459) -/

/-- The channel's data areas and fault ring are zero-filled and a conversation ends; its registers take their Reset
values with the context's fields. -/
def State.clearChannel (s : State) (c : Nat) : State :=
  let fl := s.flt c
  s.setMbx { s.mbx with chans := Map.del s.mbx.chans c, flts := Map.put s.mbx.flts c { fl with slots := [] } }
/-- The event ring of a context is off; its backlog stays. -/
def State.evtOff (s : State) (c : Nat) : State := s.setEvt c { s.evt c with on := false, log := 0, base := 0, phase := true, last := none }

end Sys2Proof.Machine
end

