-- ==== Sys2Proof/Machine/SecOps.lean ====
section
/-! DEFINITION. Keys, IDE streams, TDISP states and debug unlock (spec/15 R412 to R440). -/

namespace Sys2Proof.Machine

def State.setSec (s : State) (c : Sec) : State := { s with sec := c }

/-! ### Register words -/

/-- The value of the register at an offset of a block. -/
def State.regWord (s : State) (b : Blk) (off : Nat) : Nat :=
  (regFieldsAt b off).foldl (fun a (p : Fld × Nat × Nat) => a + s.rd p.1 p.2.1 p.2.2 * 2 ^ p.1.info.lo) 0

/-! ### Fabric keys (R419 to R422) -/

/-- SEC_FABRIC from the keys held. -/
def State.showFabric (s : State) : State :=
  let used (i : Nat) : Nat := (Map.find s.sec.used i).getD 0
  let left (i : Nat) : Nat := if Map.has s.sec.fabric i && Map.has s.sec.used i then 64 - popcount 64 (used i) else 0
  let s := (s.wr .SEC_FABRIC_VALID0 0 0 (b2n (Map.has s.sec.fabric 0))).wr .SEC_FABRIC_VALID1 0 0 (b2n (Map.has s.sec.fabric 1))
  let s := (s.wr .SEC_FABRIC_PERSIST0 0 0 (b2n (Map.has s.sec.used 0))).wr .SEC_FABRIC_PERSIST1 0 0 (b2n (Map.has s.sec.used 1))
  let s := (s.wr .SEC_FABRIC_LEFT0 0 0 (left 0)).wr .SEC_FABRIC_LEFT1 0 0 (left 1)
  s.wr .SEC_FABRIC_NO_KEY 0 0 (b2n s.noKey)
/-- SEC_FABRIC anew; where a key ends NO_KEY, joining proceeds with HELLO to the neighbours (R422). -/
def State.keyedFabric (s : State) : State :=
  let was := s.on .SEC_FABRIC_NO_KEY
  let s := s.showFabric
  if was && !s.on .SEC_FABRIC_NO_KEY then s.helloAll else s
/-- Install a fabric key. -/
def State.setFabric (s : State) (i key id : Nat) (persist : Bool) : State :=
  let s := s.setSec { s.sec with
    fabric := Map.put s.sec.fabric i key
    used := if persist then Map.put s.sec.used i (2 ^ s.bootgen) else Map.del s.sec.used i }
  (s.wr (if i = 0 then .SEC_FABRIC_ID_KEY_ID0 else .SEC_FABRIC_ID_KEY_ID1) 0 0 id).keyedFabric
def State.dropFabric (s : State) (i : Nat) : State :=
  let s := s.setSec { s.sec with fabric := Map.del s.sec.fabric i, used := Map.del s.sec.used i }
  (s.wr (if i = 0 then .SEC_FABRIC_ID_KEY_ID0 else .SEC_FABRIC_ID_KEY_ID1) 0 0 0).showFabric
/-- WARM and POR: unpersisted fabric keys go, and a persisted one whose bit of the new boot generation is set (R421). -/
def State.fabricBoot (s : State) : State :=
  (List.range 2).foldl (fun s i =>
    match Map.find s.sec.used i with
    | some u => if bitAt u s.bootgen then s.dropFabric i else (s.setSec { s.sec with used := Map.put s.sec.used i (u + 2 ^ s.bootgen) }).showFabric
    | none => if Map.has s.sec.fabric i then s.dropFabric i else s) s

/-! ### Keys of contexts -/

/-- A job key enters its slot, or leaves it. -/
def State.setJobKey (s : State) (c i key id : Nat) : State :=
  let s := s.setSec { s.sec with keys := Map.put s.sec.keys (16 * c + i) key }
  ((s.wrBit .SEC_CTX_ACTIVE c i true).wrBit .SEC_CTX_RETIRING c i false).wr .SEC_CTX_KEYID_KEY_ID c i id
def State.dropJobKey (s : State) (c i : Nat) : State :=
  let s := s.setSec { s.sec with keys := Map.del s.sec.keys (16 * c + i) }
  ((s.wrBit .SEC_CTX_ACTIVE c i false).wrBit .SEC_CTX_RETIRING c i false).wr .SEC_CTX_KEYID_KEY_ID c i 0
def State.setImport (s : State) (c : Nat) (key : Option Nat) : State :=
  (s.setSec { s.sec with imports := match key with | some k => Map.put s.sec.imports c k | none => Map.del s.sec.imports c }).wr
    .SEC_CTX_IMPORT c 0 (b2n key.isSome)
/-- A new storage key for a context (R173). -/
def State.newStorage (s : State) (c : Nat) : State :=
  ((s.setSec { s.sec with storage := Map.put s.sec.storage c s.free }).tickFree).wr .SEC_CTX_STORAGE c 0 1
/-- The job keys and the import key of a context are erased. -/
def State.eraseKeys (s : State) (c : Nat) : State := ((List.range 16).foldl (fun s i => s.dropJobKey c i) s).setImport c none

/-- A KEY_FAIL's CAUSE (R417). -/
def keyCause (slot : Nat) (fabric : Bool) (kind : Nat) : Nat := slot % 16 + b2n fabric * 16 + kind * 256

/-- A slot whose retire has run its course becomes EMPTY; its JOB_KEY_RETIRE completes (R418). -/
def State.retired (s : State) (c i : Nat) : State :=
  let mine (r : Retire) : Bool := r.ctx = c && r.slot = i
  let rs := s.sec.retires.filter mine
  let s := s.setSec { s.sec with retires := s.sec.retires.filter fun r => !mine r }
  let s := (s.dropJobKey c i).bump .SEC_CNT_COUNT 1 0 1
  rs.foldl (fun s (r : Retire) => s.finish r.cmd .ok 0 r.waited r.aborted) s

/-! ### TDISP (R435 to R439) -/

/-- SEC_CTX.TDI of a context that is not locked: CONFIG_UNLOCKED while it has a virtual function. -/
def State.refreshTdi (s : State) (c : Nat) : State :=
  if s.locked c then s
  else s.wr .SEC_CTX_TDI c 0 (b2n (s.on .HTI_CTX_EN c && s.on .HTI_PORT_CTL_SRIOV (s.port c)))
/-- A locked or running TDI enters ERROR: its commands end as in a CTX reset. -/
def State.tdiError (s : State) (c : Nat) : State :=
  let t := s.rd .SEC_CTX_TDI c
  if t = 2 || t = 3 then
    ((s.endCmds (fun d => d.ctx = c) .cancelled causeQueueClose .ctx).wr .SEC_CTX_TDI c 0 4).bump .SEC_CNT_COUNT 8 0 1
  else s
def State.tdiErrors (s : State) (p : Nat → Bool) : State := ((List.range 64).filter p).foldl (fun s c => s.tdiError c) s

/-- The context holds an object (R436). -/
def State.holdsAny (s : State) (c : Nat) : Bool :=
  s.ses.tab.any (fun (p : Nat × Session) => hCtx p.2.handle = c) || s.rcl.indexes.any (fun (p : Nat × RIndex) => hCtx p.2.id = c) ||
    s.dec.streams.any (fun (x : Stream) => hCtx x.handle = c) || s.pool.attached.any (fun (a : Attach) => a.ctx = c) ||
    s.attn.shapes.any (fun (p : Nat × Shape) => p.2.owner = c) || s.dec.tables.any (fun (p : Nat × TableSlot) => p.2.owner = c) ||
    s.dec.grams.any (fun (p : Nat × GramSlot) => p.2.owner = c) || s.rcl.helpers.any (fun (p : Nat × HelperSlot) => p.2.owner = c)

/-- An index is destroyed. -/
def State.freeIndex (s : State) (n : Nat) (ix : RIndex) : State :=
  let s := (s.emptyAll true n).dropParts n ix
  let s := { s with tier := { s.tier with idxPages := Map.del s.tier.idxPages n, regions := Map.del s.tier.regions (64 + n) } }
  let s := s.setRcl { s.rcl with
    indexes := Map.del s.rcl.indexes n, reuse := Map.put s.rcl.reuse n ((Map.find s.rcl.reuse n).getD 0 + 1) }
  s.showIndex n
/-- The slots that a context owns are emptied. -/
def State.freeSlots (s : State) (c : Nat) : State :=
  let s := s.dec.grams.foldl (fun s (p : Nat × GramSlot) =>
    if p.2.owner = c then ((s.rsvSwap p.2.bytes 0).setGram p.1 none).showGram p.1 else s) s
  let s := s.dec.tables.foldl (fun s (p : Nat × TableSlot) =>
    if p.2.owner = c then ((s.rsvSwap p.2.allBytes 0).setTable p.1 none).showTable p.1 else s) s
  let s := s.rcl.helpers.foldl (fun s (p : Nat × HelperSlot) =>
    if p.2.owner = c then ((s.rsvSwap p.2.bytes 0).lendPages p.2.t2 true).setHelper p.1 none else s) s
  s.attn.shapes.foldl (fun s (p : Nat × Shape) =>
    if p.2.owner = c then (s.rsvSwap (Config.shapeBytes p.2.layers) 0).setShape p.1 none else s) s
/-- Everything that a context holds is destroyed (R439); `reads` are the READ values of the output rings of its sessions. -/
def State.scrub (s : State) (c : Nat) (reads : List (Option Nat)) : State :=
  let s := s.endCmds (fun d => d.ctx = c) .cancelled causeQueueClose .ctx
  let go := (s.ses.tab.map fun (p : Nat × Session) => p.2).filter fun x => x.owner_ && hCtx x.handle = c && x.st != .shipping
  let s := go.zipIdx.foldl (fun s (p : Session × Nat) => s.destroySess p.1.handle (reads.getD p.2 none)) s
  let s := (s.rcl.indexes.filter fun (p : Nat × RIndex) => hCtx p.2.id = c).foldl (fun s (p : Nat × RIndex) => s.freeIndex p.1 p.2) s
  let s := ((s.dec.streams.filter fun (x : Stream) => hCtx x.handle = c).map fun (x : Stream) => x.handle).foldl (fun s h => s.freeStream h) s
  (s.detachAll fun a => a.ctx = c).freeSlots c

/-! ### IDE (R433, R434) -/

/-- SEC_IDE of a port. -/
def State.showIde (s : State) (p : Nat) : State :=
  let on (n : Nat) : Bool := s.sec.streams.any fun (t : IdeStream) => t.port = p && t.num = n && t.secure
  let sel := (List.range 16).foldl (fun a n => a + b2n (on (n + 1)) * 2 ^ n) 0
  (s.wr .SEC_IDE_LINK p 0 (b2n (on 0))).wr .SEC_IDE_SELECTIVE p 0 sel
def State.ideStream (s : State) (p n : Nat) : Option IdeStream := s.sec.streams.find? fun (t : IdeStream) => t.port = p && t.num = n
def State.putIde (s : State) (t : IdeStream) : State :=
  (s.setSec { s.sec with streams := (s.sec.streams.filter fun (u : IdeStream) => !(u.port = t.port && u.num = t.num)) ++ [t] }).showIde t.port
/-- A stream has left secure state: AER, IDE_FAILS, its TDIs. -/
def State.ideLost (s : State) (p n : Nat) : State :=
  let s := (s.emit (.aer p 2)).bump .SEC_CNT_COUNT 10 0 1
  s.tdiErrors fun c => s.port c = p && Map.find s.sec.tdiStream c = some n && decide (1 ≤ n)

/-! ### The secure path (R425, R428) -/

/-- An access to a secure channel that comes by a path of R428: a host port with the T bit (2 or 3), or MCTP (4). -/
def State.securePath (s : State) (path : Nat) : Bool :=
  if path = 4 then s.sec.sessions.any fun (x : SpdmSess) => x.path = 2 && x.open_ && x.manager
  else decide (2 ≤ path) && s.sec.streams.any fun (t : IdeStream) => t.port = path % 2 && t.secure && t.manager
/-- Whether the path may carry a procedure: all of them once a manager key is enrolled and outside RECOVERY, else only FW_STAGE
and ZEROIZE, and without a manager only over MCTP. -/
def State.secureOk (s : State) (path proc : Nat) : Bool :=
  let two := proc = 2 || proc = 7
  if s.sec.manager.isNone then path = 4 && two
  else s.securePath path && (two || !s.on .SEC_BOOT_STS_RECOVERY)

/-! ### Debug unlock (R440) -/

/-- A page after every T2 and T3 place has become free. -/
def Page.afterUnlock (x : Page) : Page :=
  let x := { x with writing := none, sink := false, again := false, reading := false }
  match x.st, x.upper with
  | .lost, _ => x
  | _, .obj _ _ => { x with st := .lost, lower := none }
  | _, .t1 => { x with st := if x.st = .clean then .dirty else x.st, lower := none }
/-- Every T2 and T3 place becomes free; what lay only there is LOST (R165). The CAUSE names the object of the first page lost
of each owner. -/
def State.freePlaces (s : State) : State :=
  let held := s.allPages
  let lost := held.filter fun e => e.2.2.2.st != .lost && e.2.2.2.afterUnlock.st = .lost
  let s := held.foldl (fun s e => s.putPage ⟨e.1, e.2.1, e.2.2.1⟩ e.2.2.2.afterUnlock) s
  let s := s.bump .TIER_CNT_COUNT 12 0 lost.length
  let s := (List.range 32).foldl (fun s i => if s.on .TIER_OBJ_A_PRESENT (32 + i) then s.emit (.deallocAll (32 + i)) else s) s
  let owners := (lost.map fun e => (e.1, e.2.1)).eraseDups
  let s := owners.foldl (fun s w =>
    let l := lost.filter fun e => e.1 = w.1 && e.2.1 = w.2
    let o := match l.head? with | some e => placeObj e.2.2.2.upper | none => 0
    s.ownerLost w.1 w.2 (l.map fun e => e.2.2.1) .tierFail (causeTier o 2)) s
  s.flushLost.flushGone
/-- DEBUG_UNLOCK takes effect. -/
def State.unlockDebug (s : State) : State :=
  let s := (List.range 64).foldl (fun s c => s.eraseKeys c) s
  let s := (s.dropFabric 0).dropFabric 1
  let s := (List.range 64).foldl (fun s c => s.newStorage c) s
  let s := (s.freePlaces).tdiErrors fun _ => true
  let s := s.wr .SEC_DEBUG_STATE 0 0 1
  s.setSec { s.sec with meas := Map.put s.sec.meas 7 (1 + s.rd .SEC_BOOT_STS_RECOVERY * 256 + s.regWord .SEC 0x18 * 2 ^ 16), nonce := none }

end Sys2Proof.Machine
end

