-- ==== Sys2Proof/Machine/RegOps.lean ====
section
/-! DEFINITION. Registers cleared by an entry (spec/00 R24, spec/18 R494) and set again from the settings store, the
configuration image and the defaults (spec/00 R23, spec/17 R466 to R471). -/

namespace Sys2Proof.Machine

/-! ### Clearing (R24) -/

/-- Depth of an entry, as the Cleared by column names it. -/
def Clr.rank : Clr → Nat
  | .fn => 0 | .ctx => 1 | .soft => 2 | .p3 => 3 | .warm => 4 | .por => 5 | .none => 6
/-- The block and offset in it of a BAR0 offset. -/
def blkAt (off : Nat) : Option (Blk × Nat) :=
  (Blk.bar0.find? fun b => b.base ≤ off && decide (off < b.base + (if b = .TIER || b = .GORE then 0x200000 else 0x100000))).map
    fun b => (b, off - b.base)
/-- The fields of a 64-bit register whose lower half may be latched, with the first index: keys below 2^26 are BAR0 offsets, those
from it on 2^26 + 65536 × context + window offset. -/
def latchFields (k : Nat) : List (Fld × Nat) :=
  if k < 2 ^ 26 then
    match blkAt k with
    | some b => (regFieldsAt b.1 b.2).map fun (p : Fld × Nat × Nat) => (p.1, p.2.1)
    | none => []
  else (regFieldsAt .HTIW (k % 65536)).map fun (p : Fld × Nat × Nat) => (p.1, (k - 2 ^ 26) / 65536)
/-- Fields that satisfy a test take their Reset value; a register that does forgets its lower half (R14). -/
def State.clearRegs (s : State) (p : Fld → Nat → Bool) : State :=
  { s with
    regs := s.regs.filter fun (e : Nat × Nat) => match keyField e.1 with
      | some f => !p f (keyI e.1)
      | none => true
    latch := s.latch.filter fun (e : Nat × Nat) => !(latchFields e.1).any fun (q : Fld × Nat) => p q.1 q.2 }
/-- An entry of depth `r` clears every field that it or a shallower one clears. -/
def State.clearTo (s : State) (r : Nat) : State := s.clearRegs fun f _ => decide (f.info.clr.rank ≤ r)

/-! ### The settings store (R468) -/

def Bank.empty : Bank := ⟨false, 0, []⟩
/-- The bank in force. -/
def State.bank (s : State) : Bank := if s.rd .NVM_SS_STS_BANK = 0 then s.boot.bank0 else s.boot.bank1
def State.setBank (s : State) (n : Nat) (b : Bank) : State :=
  { s with boot := if n = 0 then { s.boot with bank0 := b } else { s.boot with bank1 := b } }
/-- The store's word for the register at a BAR0 offset. -/
def State.storeWord (s : State) (off : Nat) : Option Nat :=
  if s.bank.valid then (s.bank.entries.find? fun (e : SetEntry) => e.off = off).map fun (e : SetEntry) => e.value else none
/-- Blocks of NVM groups whose entries the bank in force holds, NVM_SS_STS and NVM_SS_USE. -/
def State.showBank (s : State) : State :=
  let b := s.bank
  let es := if b.valid then b.entries else []
  let g := es.foldl (fun a (e : SetEntry) => match blkAt e.off with
    | some p => setBitN a p.1.group true
    | none => a) 0
  ((s.wr .NVM_SS_STS_GROUPS 0 0 g).wr .NVM_SS_USE_ENTRIES 0 0 es.length).wr .NVM_SS_STS_COMMIT 0 0 (if b.valid then b.commit else 0)
/-- The bank in force at WARM and POR: the valid bank with the larger COMMIT; a bank found damaged is invalid from then on. -/
def State.chooseBank (s : State) (bad0 bad1 : Bool) : State :=
  let b0 := s.boot.bank0
  let b1 := s.boot.bank1
  let v0 := b0.valid && !bad0
  let v1 := b1.valid && !bad1
  let newer0 := decide (b1.commit ≤ b0.commit)
  let n := if v0 && v1 then (if newer0 then 0 else 1) else if v0 then 0 else if v1 then 1 else s.rd .NVM_SS_STS_BANK
  let old := (b0.valid && bad0 && v1 && (newer0 || !b1.valid)) || (b1.valid && bad1 && v0 && (!newer0 || !b0.valid))
  let s := if b0.valid && bad0 then s.setBank 0 Bank.empty else s
  let s := if b1.valid && bad1 then s.setBank 1 Bank.empty else s
  let s := (s.wr .NVM_SS_STS_BANK 0 0 n).wr .NVM_SS_STS_DEGRADED 0 0 (b2n old)
  let s := if old then s.bump .NVM_CNT_COUNT 5 0 1 else s
  s.showBank

/-! ### Setting the NVM fields (R469) -/

/-- Whether a register's own rule accepts what a write has made of it (R200, R368, R536, GORE_BRIDLE). -/
def State.regOk (s : State) : Fld → Bool
  | .GORE_ROLE_MIX_ATTN => s.rd .GORE_ROLE_MIX_ATTN + s.rd .GORE_ROLE_MIX_ASSIST + s.rd .GORE_ROLE_MIX_RECALL = 100
  | .RING_VC_BUF_KIB =>
    decide ((List.range 8).foldl (fun a k => a + s.rd .RING_VC_BUF_KIB k) 0 ≤ 1024) && decide (16 ≤ s.rd .RING_VC_BUF_KIB 0)
  | .RING_MAP_CFG_HB_MS =>
    let hb := s.rd .RING_MAP_CFG_HB_MS
    let iso := s.rd .RING_MAP_CFG_ISOLATE_MS
    decide (2 * hb ≤ iso) && decide (iso + 2 * hb ≤ s.rd .RING_MAP_CFG_LOSS_MS)
  | .TIER_WM_T1_HIGH =>
    decide (s.rd .TIER_WM_T1_LOW < s.rd .TIER_WM_T1_HIGH) && decide (s.rd .TIER_WM_T2_LOW < s.rd .TIER_WM_T2_HIGH)
  | .GORE_BRIDLE_MIB => decide ((List.range 64).foldl (fun a c => a + s.rd .GORE_BRIDLE_MIB c) 0 ≤ 8192)
  | _ => true

/-- Write a list of fields with their values; none where the register's rule drops the write. -/
def State.tryReg (s : State) (l : List ((Fld × Nat × Nat) × Nat)) : Option State :=
  let t := l.foldl (fun s (p : (Fld × Nat × Nat) × Nat) => s.wr p.1.1 p.1.2.1 p.1.2.2 p.2) s
  match l.head? with
  | some p => if t.regOk p.1.1 then some t else none
  | none => some t

/-- One register whose NVM fields an entry of depth `r` has cleared: from the store, else the image, else the defaults; each
fallback counts. A GORE_BRIDLE whose default does not fit takes 0. -/
def State.loadReg (s : State) (r : Nat) (b : Blk) (off : Nat) : State :=
  let fs := (regFieldsAt b off).filter fun (p : Fld × Nat × Nat) => p.1.info.nvm && decide (p.1.info.clr.rank ≤ r)
  let dflt := fs.map fun (p : Fld × Nat × Nat) => (p, p.1.dflt p.2.1)
  let image := fs.map fun (p : Fld × Nat × Nat) => (p, (Map.find s.boot.image (p.1.key p.2.1 p.2.2)).getD (p.1.dflt p.2.1))
  let last (s : State) : State := match s.tryReg dflt with
    | some t => t
    | none => (dflt.foldl (fun s (p : (Fld × Nat × Nat) × Nat) =>
        s.wr p.1.1 p.1.2.1 p.1.2.2 (if p.1.1 = .GORE_BRIDLE_MIB then 0 else p.2)) s)
  let drop (s : State) : State := s.bump .NVM_CNT_COUNT 3 0 1
  let fromImage (s : State) : State := match s.tryReg image with
    | some t => t
    | none => last (drop s)
  if fs.isEmpty then s
  else match s.storeWord (b.base + off) with
    | some w => match s.tryReg (fs.map fun (p : Fld × Nat × Nat) => (p, fieldOf p.1 w)) with
      | some t => t.bump .NVM_CNT_COUNT 2 0 1
      | none => fromImage (drop s)
    | none => fromImage s

/-- Registers that the load looks at, in ascending BAR0 offset: those of the store and of the image, and the two groups with a
sum limit. -/
def State.loadList (s : State) : List Nat :=
  let store := if s.bank.valid then s.bank.entries.map fun (e : SetEntry) => e.off else []
  let image := s.boot.image.filterMap fun (p : Nat × Nat) => (keyField p.1).map fun f => f.bar0 (keyI p.1) (keyJ p.1)
  let sums := (List.range 8).map (fun i => Fld.bar0 .RING_VC_BUF_KIB i 0) ++ (List.range 64).map fun i => Fld.bar0 .GORE_BRIDLE_MIB i 0
  sortBy (fun a b => decide (a ≤ b)) (store ++ image ++ sums).eraseDups

/-- Set every NVM field that an entry of depth `r` has cleared. Instances not yet set count as 0 in a sum. -/
def State.loadNvm (s : State) (r : Nat) : State :=
  let s := if 4 ≤ r then (s.wrAll .RING_VC_BUF_KIB (instances 8 1) 0).wrAll .GORE_BRIDLE_MIB (instances 64 1) 0 else s
  s.loadList.foldl (fun s off => match blkAt off with
    | some p => s.loadReg r p.1 p.2
    | none => s) s

/-! ### The configuration image (R465 to R467) -/

/-- An entry of the image: the fields that it gives a value, or none where it is skipped as a whole (R466). -/
def imageEntry (m i : Nat) : Option (List (Nat × Nat)) :=
  let at_ (o n : Nat) : Nat := tileField m (256 + 24 * i + o) n
  let off := at_ 0 4
  let wide := at_ 4 1
  let value := at_ 8 8
  let mask := at_ 16 8
  let bits := if wide = 0 then 32 else 64
  match blkAt off with
  | none => none
  | some (b, o) =>
    let fs := regFieldsAt b o
    let width (f : Fld) : Nat := (2 ^ f.info.w - 1) * 2 ^ f.info.lo
    let hit := fs.filter fun (p : Fld × Nat × Nat) => Nat.land mask (width p.1) != 0
    let ok := wide ≤ 1 && at_ 5 3 = 0 && (wide = 1 || (at_ 12 4 = 0 && at_ 20 4 = 0)) && !fs.isEmpty &&
      fs.all (fun (p : Fld × Nat × Nat) => p.1.info.bits = bits) &&
      hit.all fun (p : Fld × Nat × Nat) => Nat.land mask (width p.1) = width p.1 && p.1.info.nvm && p.1.legal (fieldOf p.1 value)
    if ok then some (hit.map fun (p : Fld × Nat × Nat) => (p.1.key p.2.1 p.2.2, fieldOf p.1 value)) else none

/-- What the check of an image finds (R427, R467): 0 absent, 1 good, 3 signature, 4 format. -/
def imageCheck (m : Nat) (enrolled : Option Nat) : Nat :=
  let n := tileField m 8 4
  let key := tileField m 24 96
  if tileField m 0 4 != 0x4C424643 then 0
  else if tileField m 4 1 != 1 || tileField m 5 3 != 0 || tileField m 168 88 != 0 || n != 352 + 24 * tileField m 12 4 ||
      n > 1048576 || !onCurve key then 4
  else if !ecdsaVerify key (sha384 (n - 96) (m % 2 ^ (8 * (n - 96)))) (tileField m (n - 96) 96) then 3
  else match enrolled with
    | some o => if sha384 96 key = o then 1 else 3
    | none => 1

/-- The image's values by field, entries applied, entries skipped. -/
def imageValues (m : Nat) : Map Nat × Nat × Nat :=
  (List.range (tileField m 12 4)).foldl (fun (a : Map Nat × Nat × Nat) i =>
    match imageEntry m i with
    | some l => (l.foldl (fun v (p : Nat × Nat) => Map.put v p.1 p.2) a.1, a.2.1 + 1, a.2.2)
    | none => (a.1, a.2.1, a.2.2 + 1)) ([], 0, 0)

/-! ### What NVM_STORE captures (R470) -/

/-- The context that indexes an instance of a field. -/
def ctxOf (f : Fld) (i j : Nat) : Option Nat :=
  if f.info.jN = 64 then some j
  else if f.info.iN = 64 && f != .TIER_OBJ_A_EN then some i
  else none
/-- The registers with NVM fields of the named groups, by BAR0 offset: with `only`, instances of contexts in it. -/
def nvmRegs (groups : Nat) (only : Option Nat) : List Nat :=
  let fs := allFields.filter fun f => f.info.nvm && bitAt groups f.info.blk.group
  let offs := fs.flatMap fun f => (instances f.info.iN f.info.jN).filterMap fun (p : Nat × Nat) =>
    let keep := match only with
      | none => true
      | some m => match ctxOf f p.1 p.2 with
        | some c => bitAt m c
        | none => false
    if keep && (f.instAt (f.offset p.1 p.2)).isSome then some (f.bar0 p.1 p.2) else none
  sortBy (fun a b => decide (a ≤ b)) offs.eraseDups
/-- The store entry of a register as it stands. -/
def State.captured (s : State) (off : Nat) : Option SetEntry :=
  (blkAt off).map fun (p : Blk × Nat) =>
    let fs := (regFieldsAt p.1 p.2).filter fun (q : Fld × Nat × Nat) => q.1.info.nvm
    let word := fs.foldl (fun a (q : Fld × Nat × Nat) => a + s.rd q.1 q.2.1 q.2.2 * 2 ^ q.1.info.lo) 0
    let mask := fs.foldl (fun a (q : Fld × Nat × Nat) => a + (2 ^ q.1.info.w - 1) * 2 ^ q.1.info.lo) 0
    ⟨off, fs.any fun (q : Fld × Nat × Nat) => q.1.info.bits = 64, word, mask⟩

/-! ### RING_CFG (R341) -/

/-- RING_STS.ID and CFG_BAD follow RING_CFG, and the LEDs show the state after bring-up's step 5 (R366, log 131). -/
def State.refreshPlace (s : State) : State :=
  let x := s.rd .RING_CFG_XPOS
  let y := s.rd .RING_CFG_YPOS
  let bad := decide (s.rd .RING_CFG_XDIM < x) || decide (s.rd .RING_CFG_YDIM < y)
  let s := (s.wr .RING_LED_FAULT 0 0 0).wr .RING_LED_SERVICE 0 0 (3 * b2n bad)
  (s.wr .RING_STS_ID 0 0 (32 * y + x)).wr .RING_STS_CFG_BAD 0 0 (b2n bad)

end Sys2Proof.Machine
end

