-- ==== Sys2Proof/Machine/Sessions.lean ====
section
/-! DEFINITION. Session commands (spec/03): create, destroy, park, revive, deflate, rebuild, query, ship, tether, policy, the
idle pause. -/

namespace Sys2Proof.Machine

/-! ### Refusals (R84, R91, R107) -/

/-- Run an owner's command on its session, or turn it away. -/
def onOwned (body : Cmd → Session → State → State) (c : Cmd) (s : State) : State :=
  match s.sess (Desc.handle c.desc) with
  | none => s.finish c.id .badHandle
  | some x => match s.refusal x with
    | some r => s.finish c.id r.1 r.2
    | none => body c x s

/-- The wait of R92: no step item of the session is in flight. -/
def State.noItem (s : State) (c : Cmd) : Bool := !s.itemInFlight (Desc.handle c.desc)

/-! ### SESS_CREATE (R38, R79 to R82, R87, R110, R393, R538) -/

/-- Sessions that the context created here. -/
def State.madeBy (s : State) (c : Nat) : Nat := (s.ses.tab.filter fun (p : Nat × Session) => p.2.madeHere && hCtx p.2.handle = c).length

def sessCreate (c : Cmd) (s : State) : State :=
  let d := c.desc
  let df := s.dflt c.ctx
  let cls := Desc.byte d 17
  let inter := bitAt cls 0 || df.interactive
  if s.evacuating || s.rd .RING_STS_MEMBER = 3 then s.finish c.id .retryLater (hintS 1)
  else if s.isShort && !inter then
    (s.bump .CTL_ADM_CNT_COUNT 2 0 1).finish c.id .retryLater (hintMs (s.rd .CTL_ADM_CFG_BACKOFF_MS))
  else if !Map.has s.attn.shapes (Desc.byte d 16) then s.finish c.id .reservedNonzero 16
  else match (if s.madeBy c.ctx < s.rd .CTL_SES_CTX_MAX_SESS c.ctx then s.newSlot else none) with
    | none => s.finish c.id .retryLater (hintMs 1)
    | some n =>
      let h := mkHandle s.myId c.ctx n s.bootgen ((Map.find s.ses.reuse n).getD 0)
      let s := s.tickFree
      let given := Desc.num d 24 8
      let seed := if given = 0 then s.free % 2 ^ 64 else given
      let s := if given = 0 then s.tickFree else s
      let mirror := s.on .CTL_SES_PARTNER_VALID && !bitAt cls 1
      let st := s.aloftOrParked
      let x := { Session.blank h (Desc.byte d 16) s.now with
        st := st, owner_ := true, home := true, spool_ := true, interactive := inter, noMirror := !mirror
        mirror := if mirror then s.rd .CTL_SES_PARTNER_PARTNER else 0
        owner := s.myId, seed := seed, seeds := [(0, seed)], madeHere := true
        autoDeflate := df.autoDeflate, pauseDeflate := df.pauseDeflate, idlePark := df.idlePark, rbRate := df.rbRate
        pin := df.pin, neverT3 := df.neverT3, demoteAfter := df.demoteAfter }
      let s := ((s.putSess n x).enter h st).writeSpool h
      let s := (s.refreshShape x.shape).bump .CTL_SES_CNT_COUNT 0 0 1
      let s := if mirror then s.sendNote x x.mirror else s
      let s := if inter then s.admitInter else s
      s.finish c.id .ok 0 h (if mirror then x.mirror else 2 ^ 31) (b2n (st = .parked))
def execSessCreate (k : Nat) (s : State) : Host.Outcome State Fault Refusal :=
  .next (s.begin k 0x10 anyForm anyCmd anyCmd sessCreate)

/-! ### SESS_DESTROY (R90, R91) -/

/-- The sessions that SESS_DESTROY with ALL concerns. -/
def State.ownedBy (s : State) (c : Nat) : List Session :=
  (s.ses.tab.map fun (p : Nat × Session) => p.2).filter fun x => x.owner_ && hCtx x.handle = c
def destroyAll (reads : List (Option Nat)) (c : Cmd) (s : State) : State :=
  let l := s.ownedBy c.ctx
  let go := l.filter fun x => x.st != .shipping
  let s' := go.zipIdx.foldl (fun s (p : Session × Nat) => s.destroySess p.1.handle (reads.getD p.2 none)) s
  (s'.finish c.id .ok 0 go.length (l.length - go.length)).winch s
def destroyOne (read : Option Nat) (c : Cmd) (s : State) : State :=
  match s.sess (Desc.handle c.desc) with
  | none => s.finish c.id .badHandle
  | some x =>
    let lost := x.st = .orphaned || x.st = .failed
    if x.st = .shipping then s.finish c.id .busyTether x.busyCause
    else if (lost && !x.isHome) || (!lost && !x.owner_) then s.finish c.id .ownerConflict x.ownerCause
    else ((s.destroySess x.handle read).finish c.id .ok 0 1).winch s
/-- Destruction waits for the step items of the sessions it frees (log 76). -/
def State.destroyReady (s : State) (c : Cmd) : Bool :=
  if Desc.flag c.desc 8 then (s.ownedBy c.ctx).all fun x => x.st = .shipping || !s.itemInFlight x.handle else s.noItem c
def execSessDestroy (k : Nat) (reads : List (Option Nat)) (s : State) : Host.Outcome State Fault Refusal :=
  .next (s.begin k 0x11 anyForm s.destroyReady (fun c => Desc.flag c.desc 8 || s.sessLive c) fun c s =>
    if s.fab.isolated then s.finish c.id .retryLater (hintMs 10)
    else if Desc.flag c.desc 8 then destroyAll reads c s else destroyOne (reads.getD 0 none) c s)

/-! ### SESS_PARK, SESS_DEFLATE, the idle pause (R90, R92, R94) -/

def sessPark (c : Cmd) (x : Session) (s : State) : State :=
  let h := x.handle
  if x.st = .parked || x.st = .deflated then s.finish c.id .ok
  else
    let s := if Desc.flag c.desc 8 then s.pause h else s.park h
    let st := match s.sess h with | some y => y.st.code | none => 0
    s.flushGone.finish c.id .ok 0 st
def execSessPark (k : Nat) (s : State) : Host.Outcome State Fault Refusal :=
  .next (s.begin k 0x12 anyForm s.noItem s.sessLive (onOwned sessPark))

def sessDeflate (c : Cmd) (x : Session) (s : State) : State :=
  if x.st = .deflated then s.finish c.id .ok
  else ((s.deflate x.handle 1).flushGone).finish c.id .ok 0 x.kibAll
def execSessDeflate (k : Nat) (s : State) : Host.Outcome State Fault Refusal :=
  .next (s.begin k 0x14 anyForm s.noItem s.sessLive (onOwned sessDeflate))

/-- IDLE_PARK_EXPIRY (R90, R94, R453). -/
def idlePark (h : Nat) (s : State) : State :=
  match s.sess h with
  | none => s
  | some x =>
    if x.owner_ && x.st = .aloft && x.idlePark != 0 && !s.itemInFlight h && !s.kvInFlight h &&
        decide (max x.lastStep x.entered + 100000 * x.idlePark ≤ s.now) then
      let s := (s.pause h).flushGone
      let st := match s.sess h with | some y => y.st.code | none => 0
      s.event (hCtx h) 5 h (packBytes [(6, st)])
    else s
def execIdleParkExpiry (dt handle : Nat) (s : State) : Host.Outcome State Fault Refusal := .next (idlePark handle (s.pass dt))

/-! ### SESS_REVIVE and SESS_REBUILD (R95, R96) -/

def ceilDivN (a b : Nat) : Nat := (a + b - 1) / b
/-- The estimate of R95: revive is no slower than rebuild. -/
def State.reviveFirst (s : State) (x : Session) : Bool :=
  let g := s.shape x.shape
  let k2 := x.kib g 2
  let k3 := x.kib g 3
  let revive := ceilDivN (k2 * 1024) (s.rd .CTL_SES_COST_T2_RATE * 1000) + ceilDivN (k3 * 1024) (s.rd .CTL_SES_COST_T3_RATE * 1000) +
    (if k3 > 0 then s.rd .CTL_SES_COST_T3_LAT_US else 0)
  let rate := if x.rbRate > 0 then x.rbRate else s.rd .CTL_SES_COST_REBUILD_RATE
  decide (revive ≤ ceilDivN (x.kvLen * 1000) rate)

/-- The completion of a command that started a rebuild, from the session as it now stands (R96). -/
def State.rebuildDone (s : State) (k h : Nat) (flag : Nat) : State :=
  match s.sess h with
  | none => s.finish k .badHandle
  | some y =>
    if y.st = .rebuilding then s.finish k .ok 0 flag y.rbStart y.rbEnd else s.finish k .ok 0 1 y.kvLen y.kvLen

def sessRevive (c : Cmd) (x : Session) (s : State) : State :=
  let h := x.handle
  if x.st = .aloft then s.finish c.id .ok
  else if x.st = .rebuilding then s.finish c.id .ok 0 1 x.rbStart x.rbEnd
  else if x.st = .reviving then s
  else if s.isShort && !x.interactive then
    (s.bump .CTL_ADM_CNT_COUNT 3 0 1).finish c.id .retryLater (hintMs (s.rd .CTL_ADM_CFG_BACKOFF_MS))
  else
    let s := if x.interactive then s.admitInter else s
    if x.rbPending then (s.startRebuild h x.rbStart x.rbEnd x.rbCause).rebuildDone c.id h 1
    else if x.st = .deflated || !(Desc.flag c.desc 8 || s.reviveFirst x) then
      (((s.dropFrom h 0).startRebuild h 0 x.kvLen 0).flushGone).rebuildDone c.id h 1
    else
      let s := s.enter h .reviving
      x.pages.foldl (fun s (q : Nat × Page) => s.wantUp ⟨false, h, q.1⟩) s
def execSessRevive (k : Nat) (s : State) : Host.Outcome State Fault Refusal :=
  .next (s.begin k 0x13 anyForm anyCmd s.sessLive (onOwned sessRevive))

/-- REVIVE_DONE (R90): every page of a REVIVING session lies in T1. At the limit of ALOFT sessions it is PARKED again and the command completes
with RETRY_LATER (R39, log 18). -/
def reviveDone (h : Nat) (s : State) : State :=
  match s.sess h with
  | none => s
  | some x =>
    if x.st = .reviving && x.pages.all (fun (q : Nat × Page) => q.2.upper = .t1 || q.2.st = .lost) then
      let s := (s.enterAloft h).bump .CTL_SES_CNT_COUNT 4 0 1
      let up : Bool := match s.sess h with | some y => y.st = .aloft | none => true
      match s.runningOp 0x13 h with
      | some c => if up then s.finish c.id .ok else s.finish c.id .retryLater (hintMs 1)
      | none => s
    else s
def execReviveDone (handle : Nat) (s : State) : Host.Outcome State Fault Refusal := .next (reviveDone handle s).pump

def sessRebuild (c : Cmd) (x : Session) (s : State) : State :=
  let h := x.handle
  let start := Desc.num c.desc 16 4
  if start > x.kvLen then s.finish c.id .reservedNonzero 16
  else
    let a := if x.st = .deflated then 0 else start / 128 * 128
    (((s.dropFrom h (a / 128)).startRebuild h a x.kvLen 0).flushGone).rebuildDone c.id h 0
def execSessRebuild (k : Nat) (s : State) : Host.Outcome State Fault Refusal :=
  .next (s.begin k 0x15 anyForm s.noItem s.sessLive (onOwned sessRebuild))

/-! ### SESS_QUERY (R86, R109, R535) -/

/-- The STATE byte: the return state shows while a transfer runs. -/
def Session.stateByte (x : Session) : Nat := x.st.code + (if x.st = .shipping then 16 * x.ret.code else 0)

/-- The copy of the descriptor (R86). -/
def State.descriptor (s : State) (x : Session) : Nat :=
  let g := s.shape x.shape
  packBytes [(0, x.handle), (8, x.stateByte),
    (9, b2n x.owner_ + 2 * b2n x.home + 4 * b2n x.mirror_ + 8 * b2n x.spool_ + 16 * b2n x.incoming + 32 * b2n x.inherited),
    (10, x.shape),
    (11, b2n x.interactive + 2 * b2n x.noMirror + 4 * b2n x.mirrorLost + 8 * b2n x.autoDeflate + 16 * b2n x.pauseDeflate +
      32 * b2n x.rbPending),
    (12, x.epoch), (16, x.owner), (18, if x.noMirror then 0x8000 else x.mirror), (20, x.kvLen), (24, x.spool.length),
    (28, x.rbStart), (32, x.rbEnd), (36, x.deflReason), (37, x.rbCause), (40, x.seed), (48, x.visible),
    (56, x.sealedTiles), (60, x.idlePark), (64, x.rbRate), (68, x.kib g 1), (72, x.kib g 2), (76, x.kib g 3),
    (80, x.lastStep % 2 ^ 48), (88, x.created % 2 ^ 48)]

/-- 16-byte entries of modes 1 and 2 (R109). -/
def SpoolEntry.word (e : SpoolEntry) : Nat := e.token % 2 ^ 19 + b2n e.sampled * 2 ^ 19 + e.visible * 2 ^ 64
def seedWord (p : Nat × Nat) : Nat := p.1 + p.2 * 2 ^ 64

def sessQuery (wrote : Bool) (c : Cmd) (s : State) : State :=
  let d := c.desc
  let buf := Desc.num d 24 8
  let first := Desc.num d 32 4
  let count := Desc.num d 36 4
  match s.sess (Desc.handle d) with
  | none => s.finish c.id .badHandle
  | some x =>
    let put (len data n : Nat) (st : Status) : State :=
      if wrote then (s.emit (.write c.ctx buf len data)).finish c.id st 0 n x.spool.length x.stateByte
      else s.finish c.id .retryLater (hintMs 1)
    if Desc.byte d 16 = 0 then put 256 (s.descriptor x) 1 .ok
    else if !x.spool_ then s.finish c.id .ownerConflict x.ownerCause
    else
      let all := if Desc.byte d 16 = 1 then x.spool.map SpoolEntry.word else x.seeds.map seedWord
      let l := (all.drop first).take count
      put (16 * l.length) (packWords 16 l) l.length (if first + count > all.length then .partialDone else .ok)
/-- The modes that read the spool wait for its gathering (R165). -/
def State.queryReady (s : State) (c : Cmd) : Bool := Desc.byte c.desc 16 = 0 || s.spoolHere (Desc.handle c.desc)
def execSessQuery (k : Nat) (wrote : Bool) (s : State) : Host.Outcome State Fault Refusal :=
  .next (s.begin k 0x16 anyForm s.queryReady s.sessLive (sessQuery wrote))

/-! ### SESS_SHIP and SESS_TETHER (R99, R104, R110, R417, R538) -/

/-- KEY_FAIL for a job key slot that is not ACTIVE (R417); a command accepted before the retire still holds the key (R418). -/
def State.jobKeyFail (s : State) (c slot k : Nat) : Option Nat :=
  if s.bit .SEC_CTX_ACTIVE slot c || s.sec.retires.any (fun (r : Retire) => r.ctx = c && r.slot = slot && r.holders.contains k) then none
  else some (slot + (if s.bit .SEC_CTX_RETIRING slot c then 2 else 0) * 256)

def sessShip (c : Cmd) (x : Session) (s : State) : State :=
  let d := c.desc
  let dest := Desc.num d 16 2
  let slot := Desc.byte d 18
  if x.st = .rebuilding then s.finish c.id .busyTether 1
  else if dest = s.myId || !s.joined dest then s.finish c.id .reservedNonzero 16
  else match s.jobKeyFail c.ctx slot c.id with
    | some cause => s.finish c.id .keyFail cause
    | none => s.startShip x.handle dest slot c.id (Desc.flag d 8) false
def State.shipReady (s : State) (c : Cmd) : Bool := s.noItem c && s.spoolHere (Desc.handle c.desc)
def execSessShip (k : Nat) (s : State) : Host.Outcome State Fault Refusal :=
  .next (s.begin k 0x17 anyForm s.shipReady s.sessLive (onOwned sessShip))

/-- RESULT0 of SESS_TETHER. -/
def tetherWord (epoch owner : Nat) (present inheritor : Bool) : Nat :=
  epoch % 2 ^ 32 + owner % 1024 * 2 ^ 32 + b2n present * 2 ^ 42 + b2n inheritor * 2 ^ 43
def State.hasOwner (s : State) (n : Nat) : Bool := n = s.myId || s.present n

/-- SESS_TETHER with OP QUERY: the record as known here, which is the committed one at the home (log 77). -/
def tetherQuery (c : Cmd) (s : State) : State :=
  match s.sess (Desc.handle c.desc) with
  | none => s.finish c.id .badHandle
  | some x => s.finish c.id .ok 0 (tetherWord x.epoch x.owner (s.hasOwner x.owner) x.inherited)
def execSessTetherQuery (k : Nat) (s : State) : Host.Outcome State Fault Refusal :=
  .next (s.begin k 0x18 (fun d => Desc.byte d 16 = 0) anyCmd s.sessLive tetherQuery)

/-- OP RESOLVE: the home reconciles with its own record; any other Flewick asks the home first. -/
def tetherResolve (c : Cmd) (s : State) : State :=
  match s.sess (Desc.handle c.desc) with
  | none => s.finish c.id .badHandle
  | some x =>
    if x.isHome then
      let r := s.reconcile x.handle x.epoch x.owner (s.hasOwner x.owner)
      r.1.finish c.id .ok 0 (tetherWord x.epoch x.owner (s.hasOwner x.owner) x.inherited) r.2
    else s.send (s.homeId x.handle) 0 .tetherQuery x.handle x.epoch s.myId 0 []
def execSessTetherResolve (k : Nat) (s : State) : Host.Outcome State Fault Refusal :=
  .next (s.begin k 0x18 (fun d => Desc.byte d 16 = 1) anyCmd s.sessLive tetherResolve)

/-! ### SESS_POLICY (R94, R110) -/

def policyDefault (c : Cmd) (s : State) : State :=
  let d := c.desc
  let f := { s.dflt c.ctx with
    pauseDeflate := Desc.byte d 16 = 1, autoDeflate := bitAt (Desc.byte d 17) 0, interactive := bitAt (Desc.byte d 17) 1
    idlePark := Desc.num d 20 4, rbRate := Desc.num d 24 2 }
  ({ s with ses := { s.ses with dflt := Map.put s.ses.dflt c.ctx f } }).finish c.id .ok
def policyBody (c : Cmd) (x : Session) (s : State) : State :=
  let d := c.desc
  let seed := Desc.num d 32 8
  let pos := x.spool.length
  let y := { x with
    pauseDeflate := Desc.byte d 16 = 1, autoDeflate := bitAt (Desc.byte d 17) 0, interactive := bitAt (Desc.byte d 17) 1
    idlePark := Desc.num d 20 4, rbRate := Desc.num d 24 2
    seed := if seed = 0 then x.seed else seed
    seeds := if seed = 0 then x.seeds else x.seeds ++ [(pos, seed)] }
  let s := s.setSess y
  let s := if y.interactive && y.st = .aloft then s.setFleet { s.fleet with seen := true } else s
  let s := if seed = 0 then s else ((s.writeSpool x.handle).sinkSmall x.handle).sendSpool y pos []
  s.finish c.id .ok
/-- A new seed goes into the spool, and waits for its gathering (R165). -/
def State.policyReady (s : State) (c : Cmd) : Bool :=
  Desc.flag c.desc 8 || Desc.num c.desc 32 8 = 0 || s.spoolHere (Desc.handle c.desc)
def execSessPolicy (k : Nat) (s : State) : Host.Outcome State Fault Refusal :=
  .next (s.begin k 0x1A anyForm s.policyReady (fun c => Desc.flag c.desc 8 || s.sessLive c) fun c s =>
    if Desc.flag c.desc 8 then policyDefault c s else onOwned policyBody c s)

/-! ### The clear -/

def execCtlSesCntClr (value : Nat) (s : State) : Host.Outcome State Fault Refusal :=
  .next (if bitAt value 0 then s.hostWrite .CTL fun s => s.zeroAll .CTL_SES_CNT_COUNT else s)

end Sys2Proof.Machine
end

