-- ==== Sys2Proof/Machine/Tether.lean ====
section
/-! DEFINITION. Tether messages (spec/03 R88, R89, R98 to R107; spec/14 R394): the transfer at both ends, the home, the mirror,
spool holders and their notices, the limits. -/

namespace Sys2Proof.Machine

/-! ### Offers and answers (R99 steps 1 to 3, R103) -/

/-- The codes of SHIP_REFUSE: 1 no SHIP_IN, 2 no descriptor, 3 no room, 4 shape absent (log 78). A transfer of an evacuation
needs no SHIP_IN, and a Flewick that evacuates has no room (R365). -/
def shipOffer (h epoch sender receiver ret tiles bytes spoolLen kvLen shape : Nat) (geom : List Nat) (inter evac : Bool) (s : State) : State :=
  let refuse (n : Nat) (s : State) : State := s.send sender 0 .shipRefuse h epoch sender s.myId [n]
  let c := hCtx h
  let again := match s.sess h with
    | some x => x.incoming && (match x.xfer with | some t => t.peer = sender && t.epoch = epoch | none => false)
    | none => false
  let busy := match s.sess h with | some x => x.incoming || x.owner_ | none => false
  if receiver != s.myId then s
  else if again then s.send sender 0 .shipAccept h epoch sender s.myId []
  else if busy then refuse 2 s
  else if !evac && !s.on .CTL_SES_CTX_SHIP_IN c then refuse 1 s
  else if s.evacuating || s.fab.gone then refuse 3 s
  else if (s.sess h).isNone && s.newSlot.isNone then refuse 2 s
  else if !s.shipRoom c bytes then refuse 3 s
  else if s.isShort && !inter && !evac then refuse 3 (s.bump .CTL_ADM_CNT_COUNT 4 0 1)
  else if (Map.find s.attn.shapes shape).map Shape.geom != some geom then refuse 4 s
  else
    let s := s.takeDesc h shape
    let t : Xfer := ⟨false, .receiving, epoch, sender, 16, 0, tiles, bytes, [], [], [], false, 1, s.now, s.now, false, false, false, evac, none, none⟩
    let s := s.updSess h fun x => { x with
      incoming := true, ret := SState.ofCode ret, xfer := some t, kvLen := kvLen, shape := shape, interactive := inter
      tiles := [], streamLen := 0, epoch := max x.epoch epoch, owner := if x.epoch ≤ epoch then sender else x.owner }
    let s := ((s.enter h .shipping).refreshShape shape)
    let _ := spoolLen
    s.send sender 0 .shipAccept h epoch sender s.myId []
def execShipOfferReceived (handle epoch sender receiver ret tiles bytes spoolLen kvLen shape : Nat) (geom : List Nat)
    (interactive evac : Bool) (s : State) : Host.Outcome State Fault Refusal :=
  .next (shipOffer handle epoch sender receiver ret tiles bytes spoolLen kvLen shape geom interactive evac s)

/-- The identity of a message is that of a transfer (R98): epoch E, sender, receiver. -/
def State.identOf (s : State) (t : Xfer) (epoch sender receiver : Nat) : Bool :=
  t.epoch = epoch && (if t.sender then sender = s.myId && receiver = t.peer else sender = t.peer && receiver = s.myId)
/-- The transfer of a sender, if the identity is the message's. -/
def State.sending (s : State) (h epoch sender receiver : Nat) : Option (Session × Xfer) :=
  match s.sess h with
  | some x => (match x.xfer with
    | some t => if t.sender && s.identOf t epoch sender receiver && x.st = .shipping then some (x, t) else none
    | none => none)
  | none => none
/-- The transfer of a receiver, if the identity is the message's. -/
def State.receivingX (s : State) (h epoch sender receiver : Nat) : Option (Session × Xfer) :=
  match s.sess h with
  | some x => (match x.xfer with
    | some t => if !t.sender && s.identOf t epoch sender receiver && x.incoming then some (x, t) else none
    | none => none)
  | none => none

/-- SHIP_ACCEPT. `torn` is a tile on whose read the sender meets an uncorrectable ECC error (R134). -/
def execShipAcceptReceived (handle epoch sender receiver : Nat) (torn : Option TornFound) (s : State) : Host.Outcome State Fault Refusal :=
  .next (match s.sending handle epoch sender receiver with
    | some (x, t) =>
      if t.phase != XPhase.offered then s
      else match s.shipEcc x t torn with
        | some (key, f) => s.sendTorn x t key 2 f.half (x.shipPoint key)
        | none => s.shipStream handle
    | none => s).pump

/-- The status of a refusal (R103). -/
def refusalOf : Nat → Status × Nat
  | 1 => (.authFail, 2) | 4 => (.reservedNonzero, 16) | _ => (.retryLater, hintMs 1)
def execShipRefuseReceived (handle epoch sender receiver reason : Nat) (s : State) : Host.Outcome State Fault Refusal :=
  .next (match s.sending handle epoch sender receiver with
    | some (_, t) =>
      if t.phase != XPhase.offered then s
      else if t.evac then s.evacRefused handle t.peer reason t.total
      else s.shipFail handle (refusalOf reason).1 (refusalOf reason).2
    | none => s)

/-! ### Frames (R99 step 4, R103) -/

/-- The receiver gives up before step 5: SHIP_ABORT with a reason, and its copy is discarded. -/
def State.abortIn (s : State) (x : Session) (t : Xfer) (reason index kind : Nat) : State :=
  (s.send t.peer 0 .shipAbort x.handle t.epoch t.peer s.myId [reason, index, kind]).discardIncoming x.handle

/-- T1 has places for the pages of an arriving tile. A tile that finds none is not taken, and is asked for again (R40, R98, log 180). -/
def State.tileRoom (s : State) (x : Session) (key : Nat) (q : Tile) : Bool :=
  let g := s.shape x.shape
  s.t1Room (hCtx x.handle) (s.newPages false x.handle
    (if q.sealed then sealKeys (pad64 x.streamLen) q.len key else openKeys g (keyCol g key) (key % g.headLayers)))

def shipTile (x : Session) (t : Xfer) (index key : Nat) (q : Tile) (s : State) : State :=
  let g := s.shape x.shape
  let h := x.handle
  if t.got.contains index || index ≥ t.total then s
  else match tileFault g x.shape (keyLayer g key) (keyHead g key) (keyCol g key) h q with
    | some kind =>
      if t.again.contains index then s.abortIn x t 1 index kind
      else (s.updXfer h fun t => { t with again := t.again ++ [index] }).send t.peer 0 .shipResend h t.epoch t.peer s.myId [index]
    | none =>
      if !s.shipRoom (hCtx h) q.len then s.abortIn x t 3 0 0
      else if !s.tileRoom x key q then s
      else
        let s := if q.sealed then s.bump .GORE_TILE_CNT_COUNT 6 0 1 else s
        ((s.placeTile x key q).updXfer h fun t => { t with got := t.got ++ [index], tries := 1, at_ := s.now }).checkAll h

def shipFrame (h epoch sender receiver : Nat) (f : ShipFrame) (s : State) : State :=
  match s.receivingX h epoch sender receiver with
  | none => s
  | some (x, t) =>
    if t.phase != .receiving then s
    else match f with
      | .tile index key data len crc fill sealed => shipTile x t index key ⟨sealed, data, len, crc, true, false, fill, 0⟩ s
      | .spool es seeds l =>
        let y := (x.withSettings l)
        let s := s.setSess { y with
          spool := es.map fun (e : Nat × Nat × Nat) => ⟨e.1, e.2.1 = 1, e.2.2⟩, seeds := seeds
          xfer := some { t with spoolGot := true } }
        (s.writeSpool h).checkAll h
def execShipFrameReceived (handle epoch sender receiver : Nat) (frame : ShipFrame) (s : State) : Host.Outcome State Fault Refusal :=
  .next (shipFrame handle epoch sender receiver frame s)

/-- SHIP_RESEND: an index beyond the tiles asks for the spool. `torn` as at SHIP_ACCEPT. -/
def execShipResendReceived (handle epoch sender receiver index : Nat) (torn : Option TornFound) (s : State) :
    Host.Outcome State Fault Refusal :=
  .next (match s.sending handle epoch sender receiver with
    | some (x, t) =>
      if t.phase != XPhase.sent then s
      else match s.shipEcc x t torn with
        | some (key, f) => if t.keys.getD index 0 = key then s.sendTorn x t key 2 f.half (x.shipPoint key) else s
        | none => if index < t.total then s.sendTile x t index else s.sendSpoolFrame x t
    | none => s).pump

/-- SHIP_ABORT (R103): reason 1 a tile torn twice, any other one hint 1 ms. The torn tile is found at the point of ship
receive; of the two Flewicks the sender, which holds the session, records and counts it (DESIGN CHOICE, log 172). A receiver whose copy is
verified keeps it (R100). -/
def shipAborted (h epoch sender receiver reason index kind : Nat) (s : State) : State :=
  match s.receivingX h epoch sender receiver with
  | some (_, t) => if t.phase = .receiving then s.discardIncoming h else s
  | none =>
    match s.sending h epoch sender receiver with
    | none => s
    | some (x, t) =>
      if reason = 1 then s.shipTorn x t (t.keys.getD index 0) kind 0 2
      else s.shipFail h .retryLater (hintMs 1)
def execShipAbortReceived (handle epoch sender receiver reason index kind : Nat) (s : State) : Host.Outcome State Fault Refusal :=
  .next (shipAborted handle epoch sender receiver reason index kind s).pump

/-! ### The home and the mirror (R99 steps 6 and 7, R101, R102, R103) -/

def commitReq (h epoch sender receiver : Nat) (again : Bool) (s : State) : State :=
  match s.sess h with
  | none => s
  | some x =>
    if !x.isHome then s
    else if x.epoch = epoch + 1 && x.owner = receiver then s.sendAcks h (epoch + 1) receiver sender
    else match x.prop with
      | some p => if p.epoch = epoch + 1 && p.sender = sender && p.receiver = receiver then s else s.sendNaks x epoch sender receiver
      | none =>
        if s.fab.isolated then s
        else if x.epoch = epoch && x.owner = sender && !again && x.st != .orphaned && x.st != .failed then s.propose h sender receiver
        else s.sendNaks x epoch sender receiver
def execCommitReqReceived (handle epoch sender receiver : Nat) (again : Bool) (s : State) : Host.Outcome State Fault Refusal :=
  .next (commitReq handle epoch sender receiver again s)

/-- REPLICATE: the mirror's replica takes the proposal and acknowledges it, a repeated one too. -/
def execReplicateReceived (src handle epoch sender owner : Nat) (s : State) : Host.Outcome State Fault Refusal :=
  .next (match s.sess handle with
    | none => s
    | some x =>
      (s.setSess { x with mirror_ := true, epoch := max x.epoch epoch, owner := if x.epoch ≤ epoch then owner else x.owner }).send
        src 0 .replicateAck handle epoch sender owner [])

/-- REPLICATE_ACK: the proposal is committed; or the record's copy to a new mirror is acknowledged (R89). -/
def replicateAck (h epoch sender owner : Nat) (s : State) : State :=
  match s.sess h with
  | none => s
  | some x =>
    let s := if x.recPending && x.isHome && epoch = x.epoch then
        let y := { x with recPending := false }
        let s := s.setSess y
        if y.owner_ || !s.present y.owner then s else s.sendNote y y.owner
      else s
    match x.prop with
    | some p => if p.epoch = epoch && p.sender = sender && p.receiver = owner then s.commitProp h else s
    | none => s
def execReplicateAckReceived (handle epoch sender owner : Nat) (s : State) : Host.Outcome State Fault Refusal :=
  .next (replicateAck handle epoch sender owner s)

def commitAck (h sender receiver epoch owner : Nat) (read : Option Nat) (s : State) : State :=
  match s.sess h with
  | none => s
  | some x =>
    match x.xfer with
    | none => if x.owner_ && owner != s.myId && epoch > x.epoch then (s.reconcile h epoch owner true).1 else s
    | some t =>
      if !s.identOf t (epoch - 1) sender receiver || epoch = 0 then s
      else if t.sender then (if owner = t.peer then s.shipped h epoch owner read else s)
      else if owner = s.myId then s.arrive h epoch else s
def execCommitAckReceived (handle sender receiver epoch owner : Nat) (read : Option Nat) (s : State) : Host.Outcome State Fault Refusal :=
  .next (commitAck handle sender receiver epoch owner read s).pump

def commitNak (h offered sender receiver epoch owner : Nat) (s : State) : State :=
  match s.sess h with
  | none => s
  | some x =>
    match x.xfer with
    | none => s
    | some t =>
      if !s.identOf t offered sender receiver then s
      else if !t.sender then (if owner = s.myId then s else (s.setSess { x with epoch := epoch, owner := owner }).discardIncoming h)
      else if owner = s.myId then
        (s.setSess { x with epoch := epoch }).shipFail h .ownerConflict (owner % 1024)
      else s.shipTaken h epoch owner
def execCommitNakReceived (handle offered sender receiver epoch owner : Nat) (s : State) : Host.Outcome State Fault Refusal :=
  .next (commitNak handle offered sender receiver epoch owner s).pump

/-- TETHER_QUERY: the home or inheritor answers, but not while a proposal is under way (log 79). -/
def execTetherQueryReceived (src handle : Nat) (s : State) : Host.Outcome State Fault Refusal :=
  .next (match s.sess handle with
    | none => s
    | some x =>
      if x.isHome && x.prop.isNone then
        s.send src 0 .tetherRecord handle x.epoch x.owner (b2n (s.hasOwner x.owner)) [b2n x.inherited]
      else s)

/-- SESS_TETHER commands with OP RESOLVE that wait for the record. -/
def State.endResolves (s : State) (h epoch owner : Nat) (present inheritor : Bool) (act : Nat) : State :=
  (s.hti.cmds.filter fun c => c.op = 0x18 && c.phase = .running && Desc.handle c.desc = h).foldl
    (fun s c => s.finish c.id .ok 0 (tetherWord epoch owner present inheritor) act) s

def tetherRecord (h epoch owner : Nat) (present inheritor : Bool) (read : Option Nat) (s : State) : State :=
  match s.sess h with
  | none => s.endResolves h epoch owner present inheritor 0
  | some x =>
    let r : State × Nat :=
      match x.xfer with
      | none => s.reconcile h epoch owner present
      | some t =>
        if !t.sender then
          if owner = s.myId && epoch = t.epoch + 1 then (s.arrive h epoch, 2)
          else if owner = s.myId || (t.phase = .receiving && epoch = t.epoch && owner = t.peer && !t.follow) then (s, 0)
          else ((s.setSess { x with epoch := epoch, owner := owner }).discardIncoming h, 1)
        else if owner = t.peer && epoch = t.epoch + 1 then (s.shipped h epoch owner read, 1)
        else if owner = s.myId then
          if !t.follow && s.hasOwner t.peer then (s, 0)
          else if t.lostHome then (s.shipFail h .ownerConflict (owner % 1024), 2)
          else (s.shipFail h .retryLater (hintMs 1), 2)
        else (s.shipTaken h epoch owner, 1)
    r.1.endResolves h epoch owner present inheritor r.2
def execTetherRecordReceived (handle epoch owner : Nat) (present inheritor : Bool) (read : Option Nat) (s : State) :
    Host.Outcome State Fault Refusal :=
  .next (tetherRecord handle epoch owner present inheritor read s).pump

/-! ### Limits (R101 to R103) -/

/-- A message or a query sent once more: the send is counted and timed. -/
def State.retry (s : State) (h : Nat) : State :=
  (s.updXfer h fun t => { t with tries := t.tries + 1, at_ := s.now }).bump .CTL_SES_CNT_COUNT 12 0 1
def State.askHome (s : State) (x : Session) : State := s.send (s.homeId x.handle) 0 .tetherQuery x.handle x.epoch s.myId 0 []

/-- Indexes that a receiver still lacks; the spool counts as the one after the tiles. -/
def Xfer.missing (t : Xfer) : List Nat :=
  ((List.range t.total).filter fun i => !t.got.contains i) ++ (if t.spoolGot then [] else [t.total])

/-- The SESS_SHIP of a transfer has PARK_ON_ARRIVAL set. -/
def State.parkOnArrival (s : State) (t : Xfer) : Bool :=
  !t.evac && (match s.cmd t.cmd with | some c => Desc.flag c.desc 8 | none => false)

/-- What a party to a transfer does when its limit has passed. -/
def xferTimeout (x : Session) (t : Xfer) (s : State) : State :=
  let h := x.handle
  let more := decide (t.tries < s.rd .CTL_SES_CFG_TETHER_TRIES)
  let s := s.retry h
  if t.sender then
    if t.phase = .offered && more then s.sendOffer x t (s.parkOnArrival t)
    else if t.phase = .streaming || (t.phase = .sent && more && !t.follow) then s
    else s.askHome x
  else
    match t.phase with
    | .receiving =>
      if t.follow then s.askHome x
      else if t.got.isEmpty && !t.spoolGot then
        (if more then s.send t.peer 0 .shipAccept h t.epoch t.peer s.myId [] else s.askHome x)
      else if more then t.missing.foldl (fun s i => s.send t.peer 0 .shipResend h t.epoch t.peer s.myId [i]) s
      else s.askHome x
    | _ => if more && !t.follow then s.sendCommitReq h t else s.askHome x

/-- TETHER_MSG_TIMEOUT. -/
def tetherTimeout (h : Nat) (s : State) : State :=
  match s.sess h with
  | none => s
  | some x =>
    let s := match x.prop with
      | some p =>
        if p.at_ + s.msgLimit ≤ s.now then
          let s := (s.setSess { x with prop := some { p with at_ := s.now } }).bump .CTL_SES_CNT_COUNT 12 0 1
          if s.needsMirror x then
            (if x.recPending then s.sendNote x x.mirror else s).send x.mirror 0 .replicate h p.epoch p.sender p.receiver []
          else s.commitProp h
        else s
      | none =>
        if x.recPending && x.isHome && s.needsMirror x then
          (s.sendNote x x.mirror).send x.mirror 0 .replicate h x.epoch x.owner x.owner []
        else s
    let s := match x.xfer with
      | some t => if t.at_ + s.msgLimit ≤ s.now then xferTimeout x t s else s
      | none => s
    let s := if x.gathering then
        match (if x.st = .orphaned then s.spoolSource x else s.otherHolder x) with
        | some n => (s.bump .CTL_SES_CNT_COUNT 12 0 1).send n 5 .gatherReq h x.epoch s.myId 0 []
        | none => s
      else s
    if x.isHome then s
    else (s.hti.cmds.filter fun c => c.op = 0x18 && c.phase = .running && Desc.handle c.desc = h).foldl (fun s _ => s.askHome x) s
def execTetherMsgTimeout (dt handle : Nat) (s : State) : Host.Outcome State Fault Refusal := .next (tetherTimeout handle (s.pass dt)).pump

/-- SHIP_RESOLVE_TIMEOUT (R103): SESS_SHIP completes and the sender goes on querying. -/
def shipResolve (h : Nat) (s : State) : State :=
  match s.sess h with
  | none => s
  | some x =>
    match x.xfer with
    | none => s
    | some t =>
      if t.sender && t.phase = .sent && !t.unresolved && decide (t.start + 1000000 * s.rd .CTL_SES_CFG_SHIP_RESOLVE_LIMIT ≤ s.now) then
        (s.updXfer h fun t => { t with unresolved := true }).finish t.cmd .busyTether 3
      else s
def execShipResolveTimeout (dt handle : Nat) (s : State) : Host.Outcome State Fault Refusal := .next (shipResolve handle (s.pass dt))

/-! ### The spool's other holder (R88, R89, R105, R165) -/

/-- The stored form of entries that a message carries. -/
def spoolOf (es : List (Nat × Nat × Nat)) : List SpoolEntry := es.map fun (e : Nat × Nat × Nat) => ⟨e.1, e.2.1 = 1, e.2.2⟩
/-- Put entries from `first` on into the spool of a holder, with its seed changes. -/
def State.storeSpool (s : State) (x : Session) (first kvLen : Nat) (es : List (Nat × Nat × Nat)) (seeds : List (Nat × Nat)) : State :=
  let sp := x.spool.take first ++ spoolOf es
  let y := { x with
    spool := sp, seeds := seeds, kvLen := max x.kvLen kvLen
    visible := match sp.getLast? with | some e => e.visible | none => 0
    seed := match seeds.getLast? with | some p => p.2 | none => x.seed }
  (s.setSess y).writeSpool x.handle

/-- SPOOL_ENTRIES: entries beyond a gap are not stored and not acknowledged. -/
def spoolEntries (src h first kvLen : Nat) (es : List (Nat × Nat × Nat)) (seeds : List (Nat × Nat)) (s : State) : State :=
  match s.sess h with
  | none => s
  | some x =>
    if x.owner_ || x.incoming || first > x.spool.length then s
    else
      let s := (s.setSess { x with spool_ := true }).storeSpool { x with spool_ := true } first kvLen es seeds
      s.send src 0 .spoolAck h x.epoch (first + es.length) 0 []
def execSpoolEntriesReceived (src handle first kvLen : Nat) (entries : List (Nat × Nat × Nat)) (seeds : List (Nat × Nat)) (s : State) :
    Host.Outcome State Fault Refusal :=
  .next (spoolEntries src handle first kvLen entries seeds s)

/-- SPOOL_ACK: what waited goes on; every entry acknowledged clears MIRROR_LOST. -/
def execSpoolAckReceived (handle upto : Nat) (s : State) : Host.Outcome State Fault Refusal :=
  .next (match s.sess handle with
    | none => s
    | some x =>
      let s := if x.mirrorLost && x.owner_ && !x.recPending && upto ≥ x.spool.length then
          let y := { x with mirrorLost := false }
          let s := s.setSess y
          if y.isHome || y.noMirror then s else s.sendNote y (s.homeId handle)
        else s
      s.ackUpTo handle upto)

/-- MIRROR_ACK_TIMEOUT (R88): an append has waited MIRROR_ACK_LIMIT, in units of 100 µs: MIRROR_LOST, and everything that waited goes
on. -/
def mirrorTimeout (h : Nat) (s : State) : State :=
  match s.sess h with
  | none => s
  | some x =>
    if s.ses.acks.any fun w => w.dueFor h (2 ^ 64) && decide (w.since + 10000 * s.rd .CTL_SES_CFG_MIRROR_ACK_LIMIT ≤ s.now) then
      let s := s.setSess { x with mirrorLost := true, resentAt := s.now }
      let s := if x.mirrorLost then s
        else (s.bump .CTL_SES_CNT_COUNT 11 0 1).event (hCtx h) 4 h (packBytes [(4, x.mirror)])
      s.ackUpTo h (2 ^ 64)
    else s
def execMirrorAckTimeout (dt handle : Nat) (s : State) : Host.Outcome State Fault Refusal := .next (mirrorTimeout handle (s.pass dt))

/-- MIRROR_RESEND_PERIOD (R89): the owner resends the whole spool once every TETHER_MSG_LIMIT × TETHER_TRIES. -/
def execMirrorResendPeriod (dt handle : Nat) (s : State) : Host.Outcome State Fault Refusal :=
  .next (
    let s := s.pass dt
    match s.sess handle with
    | some x =>
      if x.owner_ && x.mirrorLost && decide (x.resentAt + s.msgLimit * s.rd .CTL_SES_CFG_TETHER_TRIES ≤ s.now) then s.resend x else s
    | none => s)

/-- SPOOL_GATHER_REQUEST: a holder sends the whole spool on VC5. -/
def execSpoolGatherRequestReceived (src handle : Nat) (s : State) : Host.Outcome State Fault Refusal :=
  .next (match s.sess handle with
    | some x => if x.spool_ then s.send src 5 .gatherSpool handle x.epoch 0 x.spool.length (x.spoolArgs x.spool) else s
    | none => s)

/-- SPOOL_GATHER_DONE: the spool lies in new pages; an orphan's rebuild starts. -/
def gatherDone (h kvLen : Nat) (es : List (Nat × Nat × Nat)) (seeds : List (Nat × Nat)) (s : State) : State :=
  match s.sess h with
  | none => s
  | some x =>
    if !x.gathering then s
    else
      let y := { x with gathering := false }
      let s := (s.setSess y).storeSpool y 0 kvLen es seeds
      if x.st = .orphaned then s.orphanGo h else s
def execSpoolGatherDone (handle kvLen : Nat) (entries : List (Nat × Nat × Nat)) (seeds : List (Nat × Nat)) (s : State) :
    Host.Outcome State Fault Refusal :=
  .next (gatherDone handle kvLen entries seeds s)

/-- The owner learns from the home of a new mirror, to which it copies the spool (R89, R106), or that the record's copy is acknowledged. -/
def State.ownerNote (s : State) (x : Session) (n : SessNote) : State :=
  let h := x.handle
  let fresh := x.noMirror || x.mirror != n.mirror
  let y := { x with mirror := n.mirror, noMirror := n.noMirror, recPending := n.pending, mirrorLost := x.mirrorLost || fresh }
  let s := s.setSess y
  if fresh then (s.ackUpTo h (2 ^ 64)).resend y else s

/-- SESSION_ROLE_NOTICE (R90, R540): a descriptor taken or freed for another Flewick's session. The home learns so from the owner that
the mirror holds the spool. -/
def roleNotice (src h : Nat) (note : Option SessNote) (s : State) : State :=
  match note with
  | none =>
    match s.sess h with
    | some x => if x.owner_ || x.incoming then s else s.freeSess h
    | none => s
  | some n =>
    let s := s.takeDesc h n.shape
    match s.sess h with
    | none => s
    | some x =>
      if x.incoming then s
      else if x.owner_ then (if src = s.homeId h && src != s.myId && !n.noMirror then s.ownerNote x n else s)
      else if x.isHome then (if n.mirror = x.mirror && src = x.owner then s.setSess { x with mirrorLost := n.lost } else s)
      else
        let y := { x with
          shape := n.shape, kvLen := max x.kvLen n.kvLen, epoch := max x.epoch n.epoch
          owner := if x.epoch ≤ n.epoch then n.owner else x.owner, mirror := n.mirror, noMirror := n.noMirror
          interactive := n.interactive, seed := n.seed, seeds := if x.seeds.isEmpty then [(0, n.seed)] else x.seeds
          mirror_ := n.mirror = s.myId && !n.noMirror }
        s.setSess { y with spool_ := x.spool_ || (y.holders (s.homeId h) n.owner).contains s.myId }
def execSessionRoleNoticeReceived (src handle : Nat) (note : Option SessNote) (s : State) : Host.Outcome State Fault Refusal :=
  .next (roleNotice src handle note s)

end Sys2Proof.Machine
end

