-- ==== Sys2Proof/Machine/ResetOps.lean ====
section
/-! DEFINITION. What resets and low-power states do to the machine (spec/18): FN and CTX resets, SOFT, WARM, loss of power, the
readiness of functions (spec/17 R472 to R476). -/

namespace Sys2Proof.Machine

def State.setBoot (s : State) (b : BootSt) : State := { s with boot := b }
/-- A deeper entry than FN or CTX is under way: SOFT, P3 entry or exit (R496). -/
def State.deeper (s : State) : Bool := s.on .CTL_RESET_SOFT || decide (3 ≤ s.rd .CTL_PM_STS_STATE)

/-! ### Functions (R474, R475, R482) -/

/-- Work of a disabling function is gone: STATE reads DISABLED, or ENABLED where EN = 1 was written meanwhile. -/
def State.fnDone (s : State) (f : Nat) : State :=
  let again := bitAt s.boot.fnAgain f
  let s := s.setBoot { s.boot with fnAgain := setBitN s.boot.fnAgain f false, fnTimer := Map.del s.boot.fnTimer f }
  s.wr .CTL_FN_STATE f 0 (if again then 0 else 4)
/-- Every lane of a lane engine is fenced or off: the engine cannot be ready (R464). -/
def State.lanesLeft (s : State) (f : Nat) : Bool :=
  if f = 3 then Nat.land (s.rd .TXT_LANES_EN) (s.rd .TXT_LANES_FENCED) != s.rd .TXT_LANES_EN
  else if f = 4 then Nat.land (s.rd .DEC_LANES_EN) (s.rd .DEC_LANES_FENCED) != s.rd .DEC_LANES_EN
  else true
/-- TXT, DEC and RCL are set once their lanes have passed their test and CONTROL is set. -/
def State.readyEngine (s : State) (f : Nat) : State :=
  if s.boot.lanesOk && s.on .CTL_READY_CONTROL && s.lanesLeft f then
    if f = 3 then s.wr .CTL_READY_TXT 0 0 1 else if f = 4 then s.wr .CTL_READY_DEC 0 0 1
    else if f = 5 then s.wr .CTL_READY_RCL 0 0 1 else s
  else s
def State.readyEngines (s : State) : State := ((s.readyEngine 3).readyEngine 4).readyEngine 5
/-- The readiness bits that an FN reset of a function clears (R479). -/
def State.clearReady (s : State) (f : Nat) : State :=
  if f = 3 then s.wr .CTL_READY_TXT 0 0 0 else if f = 4 then s.wr .CTL_READY_DEC 0 0 0
  else if f = 5 then s.wr .CTL_READY_RCL 0 0 0 else if f = 6 then s.wr .CTL_READY_GORES 0 0 0 else s
/-- Every panel without a power fault is asked of the drogue, to be tested. -/
def State.askAllPanels (s : State) : State :=
  let s := s.dropAdmitted .panel
  let s := { s with gore := { s.gore with waking := 0 } }
  (List.range Config.panels).foldl (fun s p => if s.on .GORE_PANEL_FAULT p then s else s.askOnce .panel p 120) s
/-- Items leave the gores of a stopped GORES and are rerun when it runs again (R203, R482, log 187). -/
def State.offGores (s : State) : State :=
  (s.gore.items.filter fun i => i.st = .running || i.st = .saved).foldl (fun s i =>
    s.release i fun j => some { j with st := .ready, preempt := false, readyAt := s.now, saved := false }) s
/-- An FN reset of function `f` (R482): its commands end with DISABLED and its readiness bits clear; items of other functions
that a reset of GORES takes off their gores are rerun. -/
def State.fnReset (s : State) (f : Nat) : State :=
  let old := s
  let s := ((s.wrBit .CTL_FN_RST_FN 0 f true).bump .CTL_RST_CNT_COUNT 0 0 1).clearReady f
  let s := s.endCmds (fun d => fnOf d.op = some f) .disabled (fnIndex f) .fn
  let s := if f = 0 then
      (s.ses.tab.filter fun (p : Nat × Session) => p.2.st = .shipping).foldl (fun s (p : Nat × Session) =>
        (s.updXfer p.2.handle fun t => { t with follow := true }).askHome p.2) s
    else if f = 6 then
      let s := s.offGores
      { s with gore := { s.gore with lastCtx := [] } }.askAllPanels
    else s
  s.winch old

/-! ### CTX (R483) -/

/-- The shaper of a context starts over (R385): local queues discarded, buckets and meters full, deferred frames delivered
as under MARK. Finish tags stand (R373). -/
def State.resetShaper (s : State) (c : Nat) : State :=
  let mine (q : Nat) : Bool := q % 64 = c
  let s := s.setRing { s.ring with
    locals := s.ring.locals.filter fun (q : Nat × List QFrame) => !mine q.1
    blocked := s.ring.blocked.filter fun f => f.ctx != c
    unrouted := s.ring.unrouted.filter fun (e : RFrame × Nat) => e.1.ctx != c
    tok := s.ring.tok.filter fun (q : Nat × Int) => !mine q.1
    hmet := Map.del s.ring.hmet c
    rmet := s.ring.rmet.filter fun (q : Nat × Meter) => !mine q.1 }
  (s.ring.rx.filter fun (q : Nat × RxFlow) => q.1 / 8 % 64 = c).foldl (fun s (q : Nat × RxFlow) =>
    let n := (q.2.held.filter fun h => h.mode = 1).length
    let s := s.bump .SHP_CNT_COUNT 2 0 n
    let g : RxFlow := { q.2 with held := q.2.held.map fun h => if h.mode = 1 then { h with mode := 0, colour := 2 } else h }
    (s.setFlow q.1 g).drainFlow q.1 (g.held.length + 1)) s

/-- A CTX reset of context `c`: what it ends, frees and clears; its gores are zeroed before their next items (R203). -/
def State.ctxReset (s : State) (c : Nat) : State :=
  let old := s
  let s := (s.wrBit .CTL_CTX_RST_CTX 0 c true).bump .CTL_RST_CNT_COUNT 1 0 1
  let s := (s.endCmds (fun d => d.ctx = c) .cancelled causeQueueClose .ctx).tdiError c
  let s := { s with hti := { s.hti with
    pairs := s.hti.pairs.filter fun (p : Nat × Pair) => p.1 / 256 != c, cmds := s.hti.cmds.filter fun d => d.ctx != c } }
  let s := (s.setStreams (s.dec.streams.filter fun (x : Stream) => hCtx x.handle != c)).refreshStreams
  let s := ((s.killItems fun i => i.ctx = c).detachAll fun a => a.ctx = c).resetShaper c
  let s := { s with gore := { s.gore with lastCtx := s.gore.lastCtx.map fun (p : Nat × Nat) => (p.1, if p.2 = c then 64 else p.2) } }
  let s := ((s.clearChannel c).evtOff c).bridleZero c
  let s := s.clearRegs fun f i => f.info.clr = .ctx && i = c
  s.winch old

/-! ### SOFT (R485, R486) -/

/-- Rows of commands in flight are discarded, those that took effect among them, and their seals (R116, R137). -/
def State.discardRows (s : State) : State :=
  let s := s.attn.steps.foldl (fun s (t : Step) => (t.entries.filter SEntry.inStep).foldl (fun s (e : SEntry) =>
    let s := s.bump .GORE_TILE_CNT_COUNT 4 0 (filledHalves t.geo e.pos0 t.ntok (s.rowsWritten t e))
    if e.sealing then s.undoRows e.handle else s) s) s
  s.attn.kvRuns.foldl (fun s (r : KvRun) =>
    let s := s.bump .GORE_TILE_CNT_COUNT 4 0 (s.kvFilled r * r.geo.halves)
    if r.sealing then s.undoRows r.handle else s) s
/-- Commands, items, seals and transfers of pages in flight are discarded, with no completion. -/
def State.discardWork (s : State) : State :=
  let pubs := s.pool.pubs
  let s := { s with hti := { s.hti with pairs := [], cmds := [] } }
  let s := s.discardRows.killItems fun _ => true
  let s := { s with
    attn := { s.attn with steps := [], kvRuns := [] }
    gore := { s.gore with lastCtx := [], waking := 0, preAt := [] }
    ses := { s.ses with acks := [] }
    tier := { s.tier with flushes := [] } }
  let s := pubs.foldl (fun s (p : PubRun) => s.endPub p .cancelled 0 0 0) s
  let s := (s.voidPend (fun _ => true) .cancelled 0).commitAll
  let s := (s.setRcl { s.rcl with runs := [], encs := [] }).freeOlds
  let s := s.setPool { s.pool with lend := none }
  let s := (s.setFleet { s.fleet with roleSet := none, remote := [], taken := [] }).wr .GORE_ROLE_PENDING_VALID 0 0 0
  let s := s.setRing { s.ring with setters := [] }
  let s := { s with fab := { s.fab with evac := s.fab.evac.map fun (e : EvacRun) => { e with cmd := [] } } }
  let s := s.allPages.foldl (fun s e =>
    s.putPage ⟨e.1, e.2.1, e.2.2.1⟩ { e.2.2.2 with writing := none, again := false, sink := false, reading := false }) s
  let s := (s.ses.tab.filter fun (p : Nat × Session) => p.2.st = .reviving).foldl (fun s (p : Nat × Session) => s.enter p.2.handle .parked) s
  s.sweepImages

/-- Fields of an entry of depth `r` take their Reset values, and NVM fields their sources; the floors follow the role. -/
def State.clearAndLoad (s : State) (r : Nat) : State := ((s.clearTo r).loadNvm r).refreshFloors

/-- Unread fault records of a context, in order, with the slots that hold them. -/
def State.unreadFaults (s : State) (c : Nat) : List FaultRec :=
  let h := s.rd .HTI_W_FLT_IDX_HEAD c
  let n := (s.rd .HTI_W_FLT_IDX_NEXT c + 64 - h) % 64
  (List.range n).filterMap fun i => Map.find (s.flt c).slots ((h + i) % 64)
/-- Channels and rings of the contexts after the mailbox registers were cleared (R486): requests sealed before are still to be
answered, unread fault records are written again from slot 0, event rings are off. -/
def State.keepMailboxes (s old : State) : State :=
  (List.range 64).foldl (fun s c =>
    let s := if (s.chan c).len != 0 then s.setBusy c true else s
    let l := old.unreadFaults c
    let s := if Map.has s.mbx.flts c then
        let slots := l.zipIdx.map fun (p : FaultRec × Nat) => (p.2, p.1)
        (s.setMbx { s.mbx with flts := Map.put s.mbx.flts c ⟨slots, (s.flt c).seq⟩ }).wr .HTI_W_FLT_IDX_NEXT c 0 l.length
      else s
    if Map.has s.mbx.evts c then s.evtOff c else s) s

/-- SOFT begins: steps 1 to 3 of R485, and the wakes of steps 4 and 5. -/
def State.soft (s : State) : State :=
  let old := s
  let s := (((s.wr .CTL_RESET_SOFT 0 0 1).bump .CTL_RST_CNT_COUNT 2 0 1).bump .CTL_RST_CAUSE_SOFTS 0 0 1).wr .CTL_RST_CAUSE_LAST 0 0 1
  let s := (s.setBoot { s.boot with resetAt := s.rd .CTL_RT_TIME_COUNT, lanesOk := false }).discardWork
  let s := (s.tdiErrors fun _ => true).detachAll fun _ => true
  let s := (s.wr .CTL_FN_RST_FN 0 0 0).wr .CTL_CTX_RST_CTX 0 0 0
  let s := (s.ses.tab.filter fun (p : Nat × Session) => p.2.st = .shipping).foldl (fun s (p : Nat × Session) =>
    (s.updXfer p.2.handle fun t => { t with follow := true }).askHome p.2) s
  let s := (s.clearAndLoad 2).keepMailboxes old
  let s := if s.rd .CTL_PM_STS_STATE ≤ 2 then s.wr .CTL_PM_STS_STATE 0 0 0 else s
  if s.boot.stage = .configured then s.askStacks.askAllPanels else s

/-! ### WARM and the loss of power (R491, R494) -/

/-- Levels of input pins, presence and alarms, which stand after the registers were cleared. -/
def State.keepPins (s old : State) : State :=
  let s := [Fld.CTL_PIN_STS_PERST, .CTL_PIN_STS_PM_WAKE, .CTL_PIN_STS_SVC_ATTN, .CTL_PIN_STS_SPI_REQ, .CTL_PIN_STS_SPI_GNT,
    .CTL_PIN_STS_PWR_ALERT, .CTL_PIN_STS_FLASH_PRSNT].foldl (fun s f => s.wr f 0 0 (old.rd f)) s
  let s := (List.range 8).foldl (fun s p => s.wr .RING_PORT_STS_PRESENT p 0 (old.rd .RING_PORT_STS_PRESENT p)) s
  let s := s.wrBit .PWR_STS_CAUSE 0 6 (old.bit .PWR_STS_CAUSE 6)
  (s.wr .CTL_PIN_STS_FLASH_PERST 0 0 255).wr .CTL_PIN_STS_POOL_PERST 0 0 15
/-- The board's request for the SPI bus is granted (R524). -/
def State.grantSpi (s : State) : State :=
  if s.on .CTL_PIN_STS_SPI_REQ && !s.on .CTL_PIN_STS_SPI_GNT then (s.wr .CTL_PIN_STS_SPI_GNT 0 0 1).bump .CTL_PIN_CNT_COUNT 1 0 1 else s
/-- The boot generation advances, past those that the map still lists as inherited for this ID (R80). -/
def State.nextBootgen (s : State) (listed : List Nat) : State :=
  let b := ((List.range 64).map fun i => (s.bootgen + 1 + i) % 64).find? fun n => !listed.contains n
  s.wr .CTL_SES_PARTNER_BOOTGEN 0 0 (b.getD ((s.bootgen + 1) % 64))

/-- WARM begins: bypasses close, everything but the retention island and the NVM is cleared, the boot ROM starts again. -/
def State.warm (s : State) (cause : Nat) : State :=
  let old := s
  let failed := s.boot.stage = .failed
  let s := s.closeAll
  let s := if failed then s.wr .RING_LED_FAULT 0 0 0 else s
  let s := (s.bump .CTL_RST_CAUSE_WARMS 0 0 1).wr .CTL_RST_CAUSE_LAST 0 0 cause
  let listed := (old.fab.inherit.filter fun (e : Nat × Nat × Nat) => e.1 = old.myId).map fun (e : Nat × Nat × Nat) => e.2.1
  let s := (((s.loseState.clearTo 4).keepPins old).nextBootgen listed).fabricBoot
  let s := s.setBoot { s.boot with
    stage := .rom, image := [], fnAgain := 0, fnTimer := [], b4 := [], lds := [], lanesOk := false
    resetAt := s.rd .CTL_RT_TIME_COUNT, diesOff := false, p3Due := 0 }
  ({ s with pins := ⟨0, none, none⟩ }).grantSpi

/-- Undervoltage, overvoltage: only the NVM is kept. -/
def State.powerOff (s : State) : State :=
  let s := (s.loseState.clearTo 5)
  let s := s.setBoot { s.boot with
    stage := .off, image := [], fnAgain := 0, fnTimer := [], b4 := [], lds := [], lanesOk := false, failUnit := 0, failCode := 0, failRt := 0
    failHti := 0, resetAt := 0, diesOff := false, p3Due := 0 }
  { s with pins := ⟨0, none, none⟩, pwr := State.reset.pwr, sec := { s.sec with stage := none } }

end Sys2Proof.Machine
end

