-- ==== Sys2Proof/Machine/Resets.lean ====
section
/-! DEFINITION. Disabling of functions (spec/17 R474, R475), resets and low-power states (spec/18), loss of power (spec/19 R500). -/

namespace Sys2Proof.Machine

/-! ### CTL_FN (R474, R475) -/

/-- A disable begins. -/
def State.fnStop (s : State) (f state : Nat) : State :=
  let s := s.wr .CTL_FN_STATE f 0 state
  s.setBoot { s.boot with fnTimer := Map.put s.boot.fnTimer f (s.now + 100000 * s.rd .CTL_FN_TIMEOUT_MS f) }
/-- STOP ends the accepted work of the function at its next boundary. -/
def State.fnEnd (s : State) (f : Nat) : State :=
  let s := s.endCmds (fun d => fnOf d.op = some f) .disabled (fnIndex f) .boundary
  if f = 6 then s.offGores else s
/-- STATE reads DISABLED when no accepted work remains. -/
def State.fnCheck (s : State) (f : Nat) : State :=
  let t := s.rd .CTL_FN_STATE f
  if (t = 1 || t = 2) && (s.fnCmds f).isEmpty && !s.bit .CTL_FN_RST_FN f then (s.fnDone f).winch s else s
/-- A write of CTL_FN[f] puts its three fields. -/
def State.putFn (s : State) (f value : Nat) : State := s.putWord [.CTL_FN_EN, .CTL_FN_MODE, .CTL_FN_TIMEOUT_MS] f 0 value
def fnDisableStop (f value : Nat) (s : State) : State :=
  let s := s.putFn f value
  let s := s.setBoot { s.boot with fnAgain := setBitN s.boot.fnAgain f false }
  match s.rd .CTL_FN_STATE f with
  | 0 => ((s.fnStop f 1).fnEnd f).fnCheck f
  | 2 => ((s.wr .CTL_FN_STATE f 0 1).fnEnd f).fnCheck f
  | _ => s
def execCtlFnDisableStop (f value : Nat) (s : State) : Host.Outcome State Fault Refusal :=
  .next (if f < 8 && bitsOf value 1 0 = 0 then s.hostWrite .CTL (fnDisableStop f value) else s)
def fnDisableDrain (f value : Nat) (s : State) : State :=
  let s := s.putFn f value
  let s := s.setBoot { s.boot with fnAgain := setBitN s.boot.fnAgain f false }
  if s.rd .CTL_FN_STATE f = 0 then (s.fnStop f 2).fnCheck f else s
def execCtlFnDisableDrain (f value : Nat) (s : State) : Host.Outcome State Fault Refusal :=
  .next (if f < 8 && bitsOf value 1 0 = 2 then s.hostWrite .CTL (fnDisableDrain f value) else s)
def fnEnable (f value : Nat) (s : State) : State :=
  let s := s.putFn f value
  match s.rd .CTL_FN_STATE f with
  | 0 => s
  | 4 => s.wr .CTL_FN_STATE f 0 0
  | _ => s.setBoot { s.boot with fnAgain := setBitN s.boot.fnAgain f true }
def execCtlFnEnable (f value : Nat) (s : State) : Host.Outcome State Fault Refusal :=
  .next (if f < 8 && bitAt value 0 then s.hostWrite .CTL (fun s => (fnEnable f value s).winch s) else s)
/-- FN_ACCEPTED_WORK_DONE. -/
def execFnAcceptedWorkDone (f : Nat) (s : State) : Host.Outcome State Fault Refusal := .next (if f < 8 then s.fnCheck f else s)
/-- FN_DISABLE_TIMEOUT: a function reset begins, and STATE reads RESETTING. -/
def fnTimeout (f : Nat) (s : State) : State :=
  let t := s.rd .CTL_FN_STATE f
  match Map.find s.boot.fnTimer f with
  | some due =>
    if (t = 1 || t = 2) && due ≤ s.now && !s.deeper then (s.fnReset f).wr .CTL_FN_STATE f 0 3 else s
  | none => s
def execFnDisableTimeout (dt f : Nat) (s : State) : Host.Outcome State Fault Refusal :=
  .next (let s := s.pass dt; if f < 8 then fnTimeout f s else s)

/-! ### FN and CTX resets (R482, R483) -/

/-- CTL_FN_RST. -/
def fnRst (value : Nat) (s : State) : State :=
  if s.deeper then s
  else (List.range 8).foldl (fun s f => if bitAt value f && !s.bit .CTL_FN_RST_FN f then s.fnReset f else s) s
def execCtlFnRst (value : Nat) (s : State) : Host.Outcome State Fault Refusal := .next (s.hostWrite .CTL (fnRst value))
/-- FN_RESET_END: a reset of GORES ends once no panel is still to be tested. -/
def fnResetEnd (f : Nat) (s : State) : State :=
  let pending := s.pwr.wakes.any (fun w => w.load = .panel) || s.pwr.admitted.any fun w => w.load = .panel
  if !s.bit .CTL_FN_RST_FN f || (f = 6 && pending) then s
  else
    let old := s
    let s := (s.wrBit .CTL_FN_RST_FN 0 f false).readyEngine f
    let t := s.rd .CTL_FN_STATE f
    (if t = 1 || t = 2 || t = 3 then s.fnDone f else s).winch old
def execFnResetEnd (f : Nat) (s : State) : Host.Outcome State Fault Refusal := .next (if f < 8 then fnResetEnd f s else s)

/-- CTL_CTX_RST. -/
def ctxRst (value : Nat) (s : State) : State :=
  if s.deeper then s
  else (List.range 64).foldl (fun s c => if bitAt value c && !s.bit .CTL_CTX_RST_CTX c then s.ctxReset c else s) s
def execCtlCtxRst (value : Nat) (s : State) : Host.Outcome State Fault Refusal := .next (s.hostWrite64 .CTL_CTX_RST_CTX 0 value (ctxRst value))
def execCtxResetEnd (ctx : Nat) (s : State) : Host.Outcome State Fault Refusal :=
  .next (if ctx < 64 then s.wrBit .CTL_CTX_RST_CTX 0 ctx false else s)
/-- FUNCTION_LEVEL_RESET (R45): of a virtual function, or of a physical one. -/
def flr (port : Nat) (vf : Option Nat) (s : State) : State :=
  let l := (List.range 64).filter fun c => s.port c = port && (match vf with
    | some v => s.on .HTI_PORT_CTL_SRIOV port && c = v
    | none => true)
  if s.deeper then s else l.foldl (fun s c => s.ctxReset c) s
def execFunctionLevelReset (port : Nat) (vf : Option Nat) (s : State) : Host.Outcome State Fault Refusal :=
  .next (if port < 2 && s.blkOn .HTI then flr port vf s else s)

/-! ### SOFT and WARM (R477, R478, R485) -/

/-- A write of CTL_RESET without the key is dropped and counted; WARM wins over SOFT; after a thermal trip it is ignored. -/
def State.resetWrite (s : State) (value : Nat) : State :=
  if s.pwr.lockout then s
  else if bitsOf value 15 8 != 0x5A then s.bump .CTL_RST_CNT_COUNT 7 0 1
  else if bitAt value 1 then s.warm 3
  else if bitAt value 0 && !s.deeper then s.soft
  else s
def execCtlResetSoft (value : Nat) (s : State) : Host.Outcome State Fault Refusal :=
  .next (s.hostWrite .CTL fun s => s.resetWrite value)
def execCtlResetWarm (value : Nat) (s : State) : Host.Outcome State Fault Refusal :=
  .next (s.hostWrite .CTL fun s => s.resetWrite value)
/-- SOFT_RESET_END: step 6 of R485, once the stacks are back; functions that were being disabled take their state (R476). -/
def softEnd (s : State) : State :=
  if s.on .CTL_RESET_SOFT && (s.rd .CTL_READY_T1 = 255 || s.boot.stage != .configured) then
    (List.range 8).foldl (fun s f =>
      let t := s.rd .CTL_FN_STATE f
      if t = 1 || t = 2 || t = 3 then s.fnDone f else s) (s.wr .CTL_RESET_SOFT 0 0 0)
  else s
def execSoftResetEnd (s : State) : Host.Outcome State Fault Refusal := .next (softEnd s)
/-- CTL_RST_CNT_CLR (R29). -/
def execCtlRstCntClr (value : Nat) (s : State) : Host.Outcome State Fault Refusal :=
  .next (s.hostWrite .CTL fun s => if bitAt value 0 then s.zeroAll .CTL_RST_CNT_COUNT else s)
/-- PERST_N_ASSERT (R527). -/
def perstAssert (s : State) : State :=
  let s := s.wr .CTL_PIN_STS_PERST 0 0 1
  if s.pwr.lockout || s.boot.stage = .off || s.boot.stage = .rails then s else s.warm 2
def execPerstNAssert (dt : Nat) (s : State) : Host.Outcome State Fault Refusal :=
  .next (perstAssert (s.pass dt))
/-- INPUT_UNDERVOLTAGE and INPUT_OVERVOLTAGE (R500). -/
def execInputUndervoltage (dt : Nat) (s : State) : Host.Outcome State Fault Refusal := .next (s.pass dt).powerOff
def execInputOvervoltage (dt : Nat) (s : State) : Host.Outcome State Fault Refusal := .next (s.pass dt).powerOff

/-! ### P2 (R487) -/

/-- P2_IDLE_ENTRY: P2_IDLE_MS of idleness have passed. -/
def p2Entry (s : State) : State :=
  if s.boot.stage = .configured && s.on .CTL_READY_CONTROL && s.on .CTL_PM_P2_EN && s.rd .CTL_PM_STS_STATE ≤ 1 && !s.on .CTL_RESET_SOFT &&
      !s.atWork && decide (max s.fleet.workedAt s.pwr.calledAt + 100000 * s.rd .CTL_PM_P2_IDLE_MS ≤ s.now) then
    let s := (List.range Config.panels).foldl (fun s p =>
      if s.on .GORE_PANEL_GATED p || !s.bit .CTL_READY_GORES p then s
      else (s.wr .GORE_PANEL_GATED p 0 1).bump .GORE_CNT_COUNT 9 0 1) s
    let s := { s with gore := { s.gore with lastCtx := [] } }
    (s.wr .CTL_PM_STS_STATE 0 0 2).bump .CTL_RST_CNT_COUNT 3 0 1
  else s
def execP2IdleEntry (dt : Nat) (s : State) : Host.Outcome State Fault Refusal := .next (p2Entry (s.pass dt))
/-- P2_EXIT. -/
def execP2Exit (s : State) : Host.Outcome State Fault Refusal := .next s.leaveP2

/-! ### P3 (R488, R489, R496) -/

/-- The P3 request is refused or abandoned. -/
def State.noP3 (s : State) (why : Nat) : State :=
  ((s.wr .CTL_PM_P3_REQ 0 0 0).wr .CTL_PM_STS_P3_REFUSED 0 0 1).wr .CTL_PM_STS_REFUSE_WHY 0 0 why
/-- Steps 2 of R488: sessions are parked, pages written down and dropped. -/
def State.writeDown (s : State) : State :=
  let s := (s.ses.tab.filter fun (p : Nat × Session) => p.2.st = .aloft || p.2.st = .rebuilding).foldl
    (fun s (p : Nat × Session) => s.park p.2.handle) s
  s.allPages.foldl (fun s e => s.demotePage ⟨e.1, e.2.1, e.2.2.1⟩ 0) s
/-- DIRTY pages that found no place. -/
def State.unplaced (s : State) : List (Bool × Nat × Nat × Page) :=
  s.allPages.filter fun e => e.2.2.2.st = .dirty && e.2.2.2.writing.isNone
/-- Sessions with AUTO_DEFLATE that hold such a page, in the state before. -/
def State.mustDeflate (s t : State) : List Nat :=
  ((t.unplaced.filter fun e => !e.1).map fun e => e.2.1).eraseDups.filter fun h =>
    match s.sess h with
    | some x => x.autoDeflate && (x.st = .aloft || x.st = .rebuilding || x.st = .parked)
    | none => false
/-- Step 1 of R488: intake closes, readiness bits clear, TDIs enter ERROR (R439). -/
def State.startP3 (s : State) : State :=
  let s := (s.wr .CTL_PM_STS_STATE 0 0 3).wr .CTL_PM_P3_REQ 0 0 1
  let s := (s.setBoot { s.boot with p3Due := s.now + 100000000 * s.rd .CTL_PM_P3_LIMIT_S }).tdiErrors fun _ => true
  (s.clearRegs fun f _ => f = .CTL_READY_T1 || f = .CTL_READY_GORES || f = .CTL_READY_TXT || f = .CTL_READY_DEC || f = .CTL_READY_RCL)
/-- A P3 request (R488). -/
def p3Req (s : State) : State :=
  let refuse (s : State) (why : Nat) : State := (s.noP3 why).bump .TIER_CNT_COUNT 15 0 1
  let s := s.leaveP2
  if s.rd .RING_STS_MEMBER = 1 && s.fab.members.any (fun n => n != s.myId) then refuse s 1
  else if s.anyWork then refuse s 2
  else if s.lending then refuse s 3
  else
    let s := (s.mustDeflate s.writeDown).foldl (fun (s : State) (h : Nat) =>
      let t : State := match s.sess h with | some x => (if x.st = .parked then s else s.park h) | none => s
      t.autoDeflate h 5) s
    let t := s.writeDown
    if t.unplaced.isEmpty then t.startP3 else refuse s 4
def p3Write (value : Nat) (s : State) : State :=
  let s := s.putWord [.CTL_PM_P2_EN, .CTL_PM_P2_IDLE_MS, .CTL_PM_P3_LIMIT_S] 0 0 value
  if bitAt value 16 && !s.deeper && s.on .CTL_READY_CONTROL then p3Req s else s
def execP3Req (value : Nat) (s : State) : Host.Outcome State Fault Refusal := .next (s.hostWrite .CTL (p3Write value))

/-- P3 entry is abandoned: back to P0 with the readiness bits as the hardware gives them; pages being written stay CLEAN. -/
def State.abandonP3 (s : State) (why : Nat) : State :=
  let s := (s.noP3 why).wr .CTL_PM_STS_STATE 0 0 0
  let s := s.wr .CTL_READY_T1 0 0 255
  let s := (List.range Config.panels).foldl (fun s p =>
    if !s.on .GORE_PANEL_FAULT p && s.rd .GORE_PANEL_USABLE p != 0 then s.wrBit .CTL_READY_GORES 0 p true else s) s
  let s := s.allPages.foldl (fun s e => if e.2.2.2.sink then s.putPage ⟨e.1, e.2.1, e.2.2.1⟩ { e.2.2.2 with sink := false } else s) s
  s.readyEngines.refreshPm
/-- Links of a P3 entry go down; objects keep their places. -/
def State.linksOff (s : State) : State :=
  let s := (List.range 8).foldl (fun s p => s.linkDown p) s.closeAll
  let s := s.wrAll .HTI_PORT_STS_UP (instances 2 1) 0
  let s := s.wrAll .POOL_PORT_STS_UP (instances 4 1) 0
  let s := s.wrAll .TIER_OBJ_A_UP (instances 64 1) 0
  let s := (s.wr .CTL_PIN_STS_FLASH_PERST 0 0 255).wr .CTL_PIN_STS_POOL_PERST 0 0 (Nat.lor (s.rd .CTL_PIN_STS_POOL_PERST) s.rootPorts)
  { s with pins := { s.pins with refclk := 0 } }
/-- Steps 3 to 5 of R488: flush, checkpoint, wear budget, power off; what P3 takes away goes (R494). -/
def p3Complete (s : State) : State :=
  let pages := s.allPages
  let left := pages.any fun e => e.2.2.2.st != .lost && (e.2.2.2.upper = .t1 || e.2.2.2.writing.isSome)
  if s.rd .CTL_PM_STS_STATE != 3 || s.boot.stage != .configured || left then s
  else
    let old := s
    let s := (List.range 32).foldl (fun s i => if (s.placesIn (32 + i)).isEmpty then s else s.emit (.flush (32 + i))) s
    let s := s.checkpointAll.saveWear.linksOff
    let s := s.detachAll fun _ => true
    let s := { s with
      hti := { s.hti with pairs := [], cmds := [] }
      gore := { s.gore with lastCtx := [], waking := 0 }
      pwr := { s.pwr with wakes := [], admitted := [], shed := 0 } }
    let s := (s.setSec { s.sec with streams := [], sessions := s.sec.sessions.filter fun (x : SpdmSess) => x.path = 2 })
    let s := (s.showIde 0).showIde 1
    let s := s.setRing { s.ring with
      locals := [], transit := [], unrouted := [], blocked := [], tok := [], fin := [], vtime := [], pcap := [], hmet := [], rmet := [] }
    let s := s.setFleet { s.fleet with taken := [] }
    let s := { s with fab := { State.reset.fab with gone := s.fab.gone } }
    let s := (s.wr .RING_STS_MEMBER 0 0 (if s.fab.gone then s.rd .RING_STS_MEMBER else 0)).wr .RING_STS_IS_LEADER 0 0 0
    let s := s.refreshDrogue
    let s := ((s.clearTo 3).keepMailboxes old).bump .CTL_RST_CNT_COUNT 5 0 1
    s.setBoot { s.boot with stage := .p3, lanesOk := false }
def execP3EntryComplete (s : State) : Host.Outcome State Fault Refusal := .next (p3Complete s)
/-- P3_LIMIT_EXPIRY. -/
def p3Limit (s : State) : State :=
  if s.rd .CTL_PM_STS_STATE = 3 && s.boot.stage = .configured && s.boot.p3Due ≤ s.now then s.abandonP3 5 else s
def execP3LimitExpiry (dt : Nat) (s : State) : Host.Outcome State Fault Refusal := .next (p3Limit (s.pass dt))

/-- Loads asked of the drogue at boot and at P3 exit, in the order of R502. -/
def State.askAtBoot (s : State) : State :=
  let s := (List.range 3).foldl (fun s n => s.askWake .keel n 300) s.askStacks
  let s := s.askAllPanels
  let s := (List.range 2).foldl (fun s n => s.askWake .host n 256) s
  let s := (List.range 4).foldl (fun s n => if s.rd .POOL_PORT_STS_MODE n = 0 then s else s.askWake .pool n 72) s
  let s := (List.range 8).foldl (fun s n => if s.bit .CTL_PIN_STS_FLASH_PRSNT n then s.askWake .flash n 24 else s) s
  if s.on .RING_STS_CFG_BAD then s else (List.range 8).foldl (fun s n => s.askWake .ring n 128) s
/-- P3 exit (R489); the root restarts at its ceiling (R513). -/
def State.exitP3 (s : State) : State :=
  let s := (s.wr .CTL_PM_STS_STATE 0 0 4).wr .CTL_PM_P3_REQ 0 0 0
  let s := ((s.bridleClear.setBoot { s.boot with stage := .configured }).loadNvm 3).refreshFloors
  let s := { s with fab := { s.fab with controlAt := s.now }, pwr := { s.pwr with rootAt := s.now } }
  let s := s.wr .PWR_CLK_ROOT_MHZ 0 0 (min (s.rd .PWR_CLK_MAX_MHZ) s.pwr.tceil)
  ((s.wr .CTL_READY_HTI 0 0 1).wr .CTL_READY_MBX 0 0 1).askAtBoot.bump .CTL_RST_CNT_COUNT 6 0 1
/-- P3 exit has ended once the stacks and the lanes are back (log 110). -/
def State.exitDone (s : State) : State :=
  if s.rd .CTL_PM_STS_STATE = 4 && s.rd .CTL_READY_T1 = 255 && s.boot.lanesOk then (s.wr .CTL_PM_STS_STATE 0 0 0).refreshPm else s
/-- PM_WAKE_N_ASSERT: asserted for 10 µs; `held` says that it stays so. -/
def pmWake (held : Bool) (s : State) : State :=
  let s := if s.boot.stage = .off then s else s.wr .CTL_PIN_STS_PM_WAKE 0 0 (b2n held)
  if s.boot.stage = .p3 then s.exitP3
  else if s.boot.stage = .configured && s.rd .CTL_PM_STS_STATE = 3 then s.abandonP3 6
  else s
def execPmWakeNAssert (dt : Nat) (held : Bool) (s : State) : Host.Outcome State Fault Refusal := .next (pmWake held (s.pass dt))

end Sys2Proof.Machine
end

