-- ==== Sys2Proof/Machine/BringUp.lean ====
section
/-! DEFINITION. From 50 V to ready (spec/17 R460 to R464), the configuration image and the settings store at work (R465 to R471),
secure boot (spec/15 R424 to R427). -/

namespace Sys2Proof.Machine

/-! ### Power and the boot ROM (R462 steps 1 to 4) -/

/-- POWER_UP. -/
def powerUp (s : State) : State := if s.boot.stage = .off then s.setBoot { s.boot with stage := .rails } else s
def execPowerUp (dt : Nat) (s : State) : Host.Outcome State Fault Refusal := .next (powerUp (s.pass dt))

/-- POR_RELEASE: time counts from here; `cables` and `flash` are the presence inputs of ring and flash ports. -/
def porRelease (cables flash : Nat) (perst spiReq : Bool) (s : State) : State :=
  if s.boot.stage != .rails then s
  else
    let s := (s.wr .HTI_TIME_COUNT 0 0 0).wr .CTL_RT_TIME_COUNT 0 0 0
    let s := (s.setBoot { s.boot with stage := .rom, resetAt := 0 } |>.nextBootgen []).fabricBoot
    let s := (List.range 8).foldl (fun s p => s.wr .RING_PORT_STS_PRESENT p 0 (b2n (bitAt cables p))) s
    let s := ((s.wr .CTL_PIN_STS_PERST 0 0 (b2n perst)).wr .CTL_PIN_STS_SPI_REQ 0 0 (b2n spiReq)).wr .CTL_PIN_STS_FLASH_PRSNT 0 0 flash
    (s.wr .CTL_PIN_STS_FLASH_PERST 0 0 255).wr .CTL_PIN_STS_POOL_PERST 0 0 15
def execPorRelease (dt cables flash : Nat) (perst spiReq : Bool) (s : State) : Host.Outcome State Fault Refusal :=
  .next (porRelease cables flash perst spiReq (s.pass dt))

/-- The result that the boot ROM reports of a copy: a verified one may be below the counter. -/
def bootVerdict (c : BootCopy) (counter : Nat) : Nat := if c.result = 0 && decide (c.svn < counter) then 4 else c.result
/-- A copy runs, with the patch if it may be used: measurement blocks 1 to 4 (R432). -/
def State.runCopy (s : State) (n : Nat) (c : BootCopy) (patch : Option (Nat × Nat)) : State :=
  let counter := s.rd .SEC_SVN_COUNTER
  let p := match patch with
    | some q => if q.1 = c.svn && decide (counter ≤ q.1) then some q.2 else none
    | none => none
  let s := ((s.wr .SEC_BOOT_STS_COPY 0 0 n).wr .SEC_BOOT_STS_SVN_RUNNING 0 0 c.svn).wr .SEC_BOOT_STS_PATCH 0 0 (b2n p.isSome)
  s.setSec { s.sec with
    version := c.version
    meas := Map.put (Map.put (Map.put (Map.put s.sec.meas 1 Config.romHash) 2 c.hash) 3 (p.getD (sha384 0 0))) 4 (c.svn + 256 * counter) }
/-- BOOT_ROM_VERIFY: copy B is looked at only if copy A fails; with neither, RECOVERY. The drive period ends. -/
def bootRomVerify (a b : BootCopy) (patch : Option (Nat × Nat)) (s : State) : State :=
  if s.boot.stage != .rom || s.on .CTL_PIN_STS_SPI_GNT then s
  else
    let counter := s.rd .SEC_SVN_COUNTER
    let ra := bootVerdict a counter
    let rb := if ra = 0 then 0 else bootVerdict b counter
    let s := s.wr .SEC_ID_SERIAL 0 0 Config.serial
    let s := (s.wr .SEC_BOOT_STS_A_RESULT 0 0 ra).wr .SEC_BOOT_STS_B_RESULT 0 0 rb
    let s := if ra = 0 then s.runCopy 0 a patch
      else if rb = 0 then s.runCopy 1 b patch
      else (s.wr .SEC_BOOT_STS_RECOVERY 0 0 1).setSec { s.sec with meas := Map.put s.sec.meas 1 Config.romHash }
    let s := (s.wr .CTL_READY_NVM 0 0 1).wr .CTL_READY_SEC 0 0 1
    (s.setBoot { s.boot with stage := .waitPerst }).grantSpi
def execBootRomVerify (dt : Nat) (a b : BootCopy) (patch : Option (Nat × Nat)) (s : State) : Host.Outcome State Fault Refusal :=
  .next (bootRomVerify a b patch (s.pass dt))

/-! ### Step 5: the image, the store, the NVM fields -/

/-- The bytes of a bank up to its last entry, with their number (R468). -/
def Bank.bytes (b : Bank) : Nat × Nat :=
  let es := b.entries.zipIdx.foldl (fun a (p : SetEntry × Nat) =>
    a + (p.1.off + b2n p.1.wide * 2 ^ 32 + p.1.value * 2 ^ 64) * 2 ^ (128 * p.2)) 0
  let n := b.entries.length
  let head := packBytes [(0, 0x4C425353), (4, 1), (8, n), (16, b.commit)]
  (64 + 16 * n, head + crc32c (60 + 16 * n) (head + es * 2 ^ 480) * 2 ^ 480 + es * 2 ^ 512)
/-- An accepted image of a Flewick without an owner enrols its keys (R427). -/
def State.enrol (s : State) (image : Nat) : State :=
  let s := s.setSec { s.sec with owner := some (sha384 96 (tileField image 24 96)), manager := some (tileField image 120 48) }
  (s.wr .SEC_OWNER_ENROLLED 0 0 1).wr .SEC_OWNER_MANAGER 0 0 1
/-- Measurement blocks 5 to 8. -/
def State.measureConfig (s : State) (image found : Nat) : State :=
  let n := min (tileField image 8 4) (2 ^ 20)
  let h := if found = 0 then sha384 0 0 else sha384 n (image % 2 ^ (8 * n))
  let store := if s.bank.valid then sha384 s.bank.bytes.1 s.bank.bytes.2 else sha384 0 0
  let mode := s.rd .SEC_DEBUG_STATE + s.rd .SEC_BOOT_STS_RECOVERY * 256 + s.regWord .SEC 0x18 * 2 ^ 16
  let hw := packBytes [(0, s.regWord .RING 0), (8, s.regWord .SEC 0x20),
    (12, s.regWord .HTI (Fld.offset .HTI_PORT_CTL_B4SZ 0 0)), (16, s.regWord .HTI (Fld.offset .HTI_PORT_CTL_B4SZ 1 0))]
  s.setSec { s.sec with
    meas := Map.put (Map.put (Map.put (Map.put s.sec.meas 5 (h % 2 ^ 384 + (if 3 ≤ found then 2 ^ 384 else 0))) 6 store) 7 mode) 8 hw }
/-- CONFIG_IMAGE_READ: the image is read once and checked, its values kept in the control island. -/
def State.readConfig (s : State) (image : Nat) : State :=
  let found := if s.on .SEC_BOOT_STS_RECOVERY then 0 else imageCheck image s.sec.owner
  let first := found = 1 && s.sec.owner.isNone
  let s := if first then s.enrol image else s
  let v := if found = 1 then imageValues image else ([], 0, 0)
  let s := s.setBoot { s.boot with image := v.1 }
  let s := (s.wr .CTL_BOOT_STS_IMAGE 0 0 (if first then 2 else found)).wr .CTL_BOOT_VER_VERSION 0 0 (if found = 1 then tileField image 16 8 else 0)
  ((s.wr .CTL_BOOT_STS_APPLIED 0 0 v.2.1).wr .CTL_BOOT_STS_SKIPPED 0 0 v.2.2).bump .NVM_CNT_COUNT 4 0 v.2.2
/-- SETTINGS_STORE_LOAD at WARM and POR: the bank in force. -/
def State.loadStore (s : State) (bad0 bad1 : Bool) : State :=
  let s := s.chooseBank bad0 bad1
  s.wr .CTL_BOOT_STS_STORE 0 0 (if !s.bank.valid then 0 else if s.on .NVM_SS_STS_DEGRADED then 2 else 1)
/-- What the NVM fields set at step 5 put in force. -/
def State.applySettings (s : State) : State :=
  let s := s.refreshPlace.refreshFloors
  let s := s.setBoot { s.boot with
    b4 := [(0, s.rd .HTI_PORT_CTL_B4SZ 0), (1, s.rd .HTI_PORT_CTL_B4SZ 1)]
    lds := (List.range 8).map fun p => (p, if p < 4 then s.rd .POOL_PORT_CTL_LDS p else s.rd .POOL_PORT_CTL_SPEED_MAX (p - 4)) }
  let s := (List.range 8).foldl (fun s f => if s.on .CTL_FN_EN f then s else s.wr .CTL_FN_STATE f 0 4) s
  let s := (List.range 4).foldl (fun s p => s.wr .POOL_PORT_STS_MODE p 0 (s.rd .POOL_PORT_CTL_MODE p)) s
  let s := (List.range 64).foldl (fun s c =>
    let s := if s.on .HTI_CTX_EN c then (s.newStorage c).takePos c else s
    (s.refreshTdi c).refreshBridle c) s
  (((s.refreshMode 0).refreshMode 1).refreshRsv).refreshGauge
/-- Compositions that were open before the reset close with their last checkpoint, and new ones open (R402). -/
def State.openAll (s : State) : State :=
  let s := s.fleet.ckpts.foldl (fun s (p : Nat × Ckpt) => s.closeComp p.1 2 p.2.comp p.2.port p.2.at_ true p.2.meters) s
  (List.range 64).foldl (fun s c => s.openComp c (s.on .HTI_CTX_EN c)) s
/-- Steps 5 and 6 of R462, and the wakes of steps 7, 9 and 10. -/
def State.stepFive (s : State) (image : Nat) (bad0 bad1 : Bool) : State :=
  let s := ((s.readConfig image).loadStore bad0 bad1).loadNvm 5
  let s := (s.applySettings.measureConfig image (s.rd .CTL_BOOT_STS_IMAGE)).openAll
  let s := (s.wr .CTL_READY_HTI 0 0 1).wr .CTL_READY_MBX 0 0 1
  if s.on .SEC_BOOT_STS_RECOVERY then
    (List.range 2).foldl (fun s n => s.askWake .host n 256) (s.setBoot { s.boot with stage := .recovery })
  else (s.setBoot { s.boot with stage := .configured }).askAtBoot
/-- PERST_N_DEASSERT: step 5 runs after step 4 and waits for the board to give the SPI bus back (log 120). -/
def perstDeassert (image : Nat) (bad0 bad1 : Bool) (s : State) : State :=
  let s := s.wr .CTL_PIN_STS_PERST 0 0 0
  if s.boot.stage = .waitPerst && !s.on .CTL_PIN_STS_SPI_GNT then s.stepFive image bad0 bad1 else s
def execPerstNDeassert (dt image : Nat) (bad0 bad1 : Bool) (s : State) : Host.Outcome State Fault Refusal :=
  .next (perstDeassert image bad0 bad1 (s.pass dt))

/-! ### Steps 7 to 9 -/

/-- HBM_STACK_TRAINED. -/
def stackTrained (n : Nat) (s : State) : State :=
  if !s.isAdmitted .stack n || s.boot.stage != .configured then s
  else
    let s := s.unadmit .stack n
    if s.on .CTL_BOOT_STS_T1_FAIL then s
    else
      let s := s.wrBit .CTL_READY_T1 0 n true
      if s.rd .CTL_READY_T1 != 255 then s
      else
        let s := if s.on .CTL_READY_CONTROL then s
          else (({ s with fab := { s.fab with controlAt := s.now } } : State).wr .CTL_READY_CONTROL 0 0 1).readyEngines
        s.exitDone
def execHbmStackTrained (stack : Nat) (s : State) : Host.Outcome State Fault Refusal :=
  .next (if stack < 8 then stackTrained stack s else s)

/-- PANEL_TEST_DONE. -/
def panelTestDone (p : Nat) (pass : Bool) (s : State) : State :=
  if !s.isAdmitted .panel p || s.bit .CTL_READY_GORES p || s.boot.stage != .configured then s
  else
    let old := s
    let s := s.unadmit .panel p
    let s := if pass then (s.wrBit .CTL_READY_GORES 0 p true).wr .GORE_PANEL_GATED p 0 0 else (s.wr .GORE_PANEL_FAULT p 0 1).wr .RING_LED_FAULT 0 0 3
    (((s.refreshPanel p).refreshPm).winch old).checkPanels
def execPanelTestDone (panel : Nat) (pass : Bool) (s : State) : Host.Outcome State Fault Refusal :=
  .next (if panel < Config.panels then panelTestDone panel pass s else s)

/-- T1_TRAINING_LIMIT_EXPIRY: step 7's limit at bring-up. -/
def t1Limit (s : State) : State :=
  if s.boot.stage != .configured || s.on .CTL_READY_CONTROL || s.rd .CTL_READY_T1 = 255 || s.on .CTL_BOOT_STS_T1_FAIL then s
  else
    let n := ((List.range 8).find? fun n => !s.bit .CTL_READY_T1 n).getD 0
    (((s.wr .CTL_BOOT_STS_T1_FAIL 0 0 1).wr .CTL_BOOT_STS_T1_STACK 0 0 n).wr .RING_LED_FAULT 0 0 3).closeAll
def execT1TrainingLimitExpiry (dt : Nat) (s : State) : Host.Outcome State Fault Refusal := .next (t1Limit (s.pass dt))

/-- ENGINE_LANE_TEST_DONE: the lanes that failed are fenced. -/
def laneTestDone (txt dec : Nat) (s : State) : State :=
  if s.boot.stage != .configured then s
  else
    let s := s.wr .TXT_LANES_FENCED 0 0 (Nat.lor (s.rd .TXT_LANES_FENCED) txt)
    let s := s.wr .DEC_LANES_FENCED 0 0 (Nat.lor (s.rd .DEC_LANES_FENCED) dec)
    ((s.setBoot { s.boot with lanesOk := true }).readyEngines).exitDone
def execEngineLaneTestDone (txt dec : Nat) (s : State) : Host.Outcome State Fault Refusal := .next (laneTestDone txt dec s)

/-! ### NVM_STORE (R470, R471) -/

/-- NVM_STORE commands run one at a time, in fetch order. -/
def State.nvmTurn (s : State) (c : Cmd) : Bool := s.hti.cmds.all fun d => d.op != 0x70 || d.phase = .done || decide (c.id ≤ d.id)
/-- The store that the command would leave, and the entries that it writes or removes. -/
def State.nextStore (s : State) (clear : Bool) (d : Desc) : List SetEntry × Nat :=
  let regs := nvmRegs (Desc.num d 16 2) (if Desc.flag d 10 then some (Desc.num d 24 8) else none)
  let held := if s.bank.valid then s.bank.entries else []
  let kept := held.filter fun (e : SetEntry) => !regs.contains e.off
  if clear then (kept, held.length - kept.length)
  else
    let l := kept ++ regs.filterMap s.captured
    (sortBy (fun (a b : SetEntry) => decide (a.off ≤ b.off)) l, regs.length)
/-- NVM_STORE; `wrote` says whether the new bank was written. -/
def nvmStore (clear wrote : Bool) (c : Cmd) (s : State) : State :=
  let r := s.nextStore clear c.desc
  let commit := (if s.bank.valid then s.bank.commit else 0) + 1
  if !wrote then (s.bump .NVM_CNT_COUNT 5 0 1).finish c.id .retryLater (hintS 1)
  else
    let n := 1 - s.rd .NVM_SS_STS_BANK
    let s := ((s.setBank n ⟨true, commit, r.1⟩).wr .NVM_SS_STS_BANK 0 0 n).showBank
    (s.bump .NVM_CNT_COUNT (b2n clear) 0 1).finish c.id .ok 0 r.2 r.1.length (commit % 2 ^ 32)
def execNvmStoreStore (k : Nat) (wrote : Bool) (s : State) : Host.Outcome State Fault Refusal :=
  .next (s.begin k 0x70 (opOf 9 8 0) s.nvmTurn anyCmd (nvmStore false wrote))
def execNvmStoreClear (k : Nat) (wrote : Bool) (s : State) : Host.Outcome State Fault Refusal :=
  .next (s.begin k 0x70 (opOf 9 8 1) s.nvmTurn anyCmd (nvmStore true wrote))
/-- NVM_CNT_CLR (R29). -/
def execNvmCntClr (value : Nat) (s : State) : Host.Outcome State Fault Refusal :=
  .next (s.hostWrite .NVM fun s => if bitAt value 0 then s.zeroAll .NVM_CNT_COUNT else s)

end Sys2Proof.Machine
end

