-- ==== Sys2Proof/Machine/Pool.lean ====
section
/-! DEFINITION. The pool (spec/11): borrowing, LEND_SET and extents, CXL.mem answers, published regions. -/

namespace Sys2Proof.Machine

/-! ### Borrowing (R323 to R325) -/

/-- POOL_RANGE_APPEARS: kind 0 plain, 1 LEND, 2 REGION (R324). -/
def rangeAppears (port dpa bytes kind lender : Nat) (s : State) : State :=
  if port < 4 && s.on .POOL_PORT_STS_UP port && s.rd .POOL_PORT_STS_MODE port = 1 then
    let free := (List.range 32).find? fun o => !s.on .TIER_OBJ_A_PRESENT o
    match free with
    | none => s.bump .POOL_CNT_COUNT 5 0 1
    | some o =>
      if bytes < 2 ^ 30 || dpa % 2 ^ 28 != 0 || bytes % 2 ^ 28 != 0 then s.bump .POOL_CNT_COUNT 5 0 1
      else
        let s := s.findObject o port 0 (if kind = 2 then 0 else bytes / 65536)
        let s := (s.wr .POOL_OBJ_WINDOW o 0 (b2n (kind = 2))).wr .POOL_OBJ_HOME o 0 (if kind = 2 then lender else 0)
        let s := (s.wr .POOL_OBJ_LENDER o 0 (b2n (kind = 1))).wr .POOL_OBJ_LENDER_ID o 0 (if kind = 1 then lender else 0)
        (s.wr .TIER_OBJ_A_EN o 0 (b2n (kind != 2))).refreshCaps
  else s
def execPoolRangeAppears (port dpa bytes kind lender : Nat) (s : State) : Host.Outcome State Fault Refusal :=
  .next (rangeAppears port dpa bytes kind lender s)

/-- CLEAN pages whose upper copy lies in an object go down to their lower copy (R325 step 2). -/
def State.dropCleanIn (s : State) (o : Nat) : State :=
  s.allPages.foldl (fun s e =>
    match e.2.2.2.st, e.2.2.2.upper with
    | .clean, .obj o2 _ => if o2 = o then s.dropClean ⟨e.1, e.2.1, e.2.2.1⟩ else s
    | _, _ => s) s

/-- EXTENT_RELEASE_REQUEST (R325). -/
def extentReleaseRequest (obj : Nat) (s : State) : State :=
  if obj < 32 && s.on .TIER_OBJ_A_PRESENT obj && !bitAt s.pool.leaving obj then
    let s := s.setPool { s.pool with leaving := setBitN s.pool.leaving obj true }
    let s := (s.vacate obj).dropCleanIn obj
    -- a page that still lies there with no write under way waits for room
    let waits := s.allPages.any fun e =>
      e.2.2.2.writing.isNone && e.2.2.2.places.any fun p => match p with | .obj o _ => o = obj | .t1 => false
    let s := if waits then s.bump .POOL_CNT_COUNT 10 0 1 else s
    s.checkLeaving
  else s
def execExtentReleaseRequest (obj : Nat) (s : State) : Host.Outcome State Fault Refusal := .next (extentReleaseRequest obj s)

/-! ### Lending (R326 to R328) -/

/-- Ask for the release of extents granted beyond a limit, newest first; requests of an earlier command are forgotten. -/
def State.askBack (s : State) (t2 : Bool) (limit : Nat) : State :=
  let s := s.setPool { s.pool with extents := s.pool.extents.map fun x => if x.t2 = t2 then { x with asked := false } else x }
  (sortBy (fun (a b : Extent) => decide (a.seq ≥ b.seq)) (s.pool.extents.filter fun e => e.t2 = t2 && !e.revoked)).foldl
    (fun (a : State × Nat) e =>
      if a.2 ≤ limit then a
      else
        let s := a.1.setPool { a.1.pool with
          extents := a.1.pool.extents.map fun x => if x.seq = e.seq then { x with asked := true } else x }
        (s.emit (.fm e.port e.ld 2 e.base), a.2 - e.gib)) (s, s.granted t2) |>.1

/-- LEND_SET (R326, R328). -/
def lendSet (c : Cmd) (s : State) : State :=
  let d := c.desc
  let t1 := Desc.num d 16 4
  let t2 := Desc.num d 20 4
  let rg := Desc.num d 24 4
  if s.storePages > 16384 * rg then s.finish c.id .reservedNonzero 24
  else
    let room := s.lendRoom t1 rg
    let run : LendRun := ⟨c.id, Desc.flag d 8, t1, t2, rg, s.now + 100000 * Desc.num d 28 4, room⟩
    let s := s.setPool { s.pool with lend := some run, t2Allow := Desc.num d 32 8 }
    let s := if room then s.putLend t1 t2 rg
      else s.press 1 none State.lendFits (s.allPages.length + 1) [] []
    ((s.askBack false t1).askBack true t2).checkLend
def execLendSet (k : Nat) (s : State) : Host.Outcome State Fault Refusal :=
  .next (s.begin k 0x55 anyForm (fun _ => s.pool.lend.isNone) anyCmd lendSet)

/-- Extents whose release was asked for and has not come are revoked (R328). -/
def State.revokeAsked (s : State) : State × Nat :=
  let late := s.pool.extents.filter fun e => e.asked && !e.revoked
  let s := s.setPool { s.pool with extents := s.pool.extents.map fun e => if e.asked then { e with revoked := true } else e }
  let s := late.foldl State.zeroExtent s
  ((s.bump .POOL_CNT_COUNT 8 0 late.length).refreshLend, late.length)
/-- RECLAIM_MS has passed (R326, R328). Extents not released are revoked with FORCE, else the excess stands. Room not made even so: the figures
reached. -/
def lendTimeout (s : State) : State :=
  match s.pool.lend with
  | none => s
  | some r =>
    if s.now < r.due then s
    else
      let p := if r.force then s.revokeAsked else (s, 0)
      let s := p.1
      if !r.room && !s.lendRoom r.t1 r.region then
        let f := s.reached r
        (s.putLend f.1 r.t2 f.2).endLend r .partialDone 1 p.2
      else
        let s := s.putLend r.t1 r.t2 r.region
        if s.excess r = 0 then s.endLend r .ok 0 p.2 else s.endLend r .partialDone 2 0
def execLendReclaimTimeout (dt : Nat) (s : State) : Host.Outcome State Fault Refusal := .next (lendTimeout (s.pass dt))

/-- EXTENT_ADD_REQUEST (R326): from T1, else from T2, else refused. The extent follows the logical device's last one
(log 48). -/
def extentAdd (port ld gib : Nat) (s : State) : State :=
  if port < 4 && s.on .POOL_PORT_STS_UP port && s.rd .POOL_PORT_STS_MODE port = 2 && ld < s.lds port then
    let base := (s.pool.extents.filter fun e => e.port = port && e.ld = ld).foldl (fun a e => max a (e.base + e.gib)) 0
    let grant (t2 : Bool) (parts : List (Nat × Nat)) : State :=
      let e : Extent := ⟨port, ld, base, gib, t2, false, false, s.pool.nextExt, parts⟩
      let s := s.setPool { s.pool with extents := s.pool.extents ++ [e], nextExt := s.pool.nextExt + 1 }
      ((((s.lendPages parts false).zeroExtent e).refreshLend).bump .POOL_CNT_COUNT 6 0 1).emit (.fm port ld 0 base)
    if s.granted false + gib ≤ s.rd .POOL_LEND_T1_GIB then grant false []
    else if s.granted true + gib ≤ s.rd .POOL_LEND_T2_GIB then
      match s.takeT2 gib with
      | some parts => grant true parts
      | none => (s.bump .POOL_CNT_COUNT 9 0 1).emit (.fm port ld 1 0)
    else (s.bump .POOL_CNT_COUNT 9 0 1).emit (.fm port ld 1 0)
  else s
def execExtentAddRequest (port ld gib : Nat) (s : State) : Host.Outcome State Fault Refusal :=
  .next (extentAdd port ld gib s)

/-- EXTENT_RELEASED_BY_BORROWER (R327, R328). -/
def extentReleased (port ld base : Nat) (s : State) : State :=
  match s.pool.extents.find? fun e => e.port = port && e.ld = ld && e.base = base with
  | some e => s.freeExtent e
  | none => s
def execExtentReleasedByBorrower (port ld base : Nat) (s : State) : Host.Outcome State Fault Refusal :=
  .next (extentReleased port ld base s)

/-- CXL_MEM_REQUEST (R327 to R329): a 64-byte line of a logical device. `store` puts the address into the region store, whose layout is open
(log 49); `ecc` says that the lent bytes meet an uncorrectable error, `bad` that a lent T2 object answers with poison. -/
def cxlMem (port ld addr : Nat) (store ecc bad : Bool) (write : Option Nat) (s : State) : State :=
  let poison (s : State) : State := match write with | none => s.emit (.cxl port true 0) | some _ => s
  let sent (s : State) : State := s.bump .POOL_CNT_COUNT 11 0 (b2n write.isNone)
  if port < 4 && s.on .POOL_PORT_STS_UP port && s.rd .POOL_PORT_STS_MODE port = 2 then
    if s.on .POOL_PORT_STS_VIRAL_OUT port then poison (sent s)
    else if store then
      match write with
      | some _ => s.bump .POOL_CNT_COUNT 12 0 1
      | none => ((s.emit (.cxl port false (s.free % 2 ^ 512))).tickFree).bump .POOL_CNT_COUNT 13 0 64
    else
      match s.pool.extents.find? fun e => e.port = port && e.ld = ld && decide (e.base * 2 ^ 30 ≤ addr) &&
          decide (addr < (e.base + e.gib) * 2 ^ 30) with
      | none => poison (s.bump .POOL_CNT_COUNT 12 0 1)
      | some e =>
        if e.revoked then poison s
        else if e.t2 && (bad || e.parts.any fun p => s.on .TIER_OBJ_A_FAILED p.1) then poison (sent s)
        else
          match write with
          | none =>
            if ecc then poison (sent (s.emit (.fm port ld 3 addr)))
            else
              (s.emit (.cxl port false ((Map.find s.pool.lines (lineKey port ld (addr / 64))).getD 0))).bump
                .POOL_CNT_COUNT 13 0 64
          | some v =>
            let k := lineKey port ld (addr / 64)
            let v := v % 2 ^ 512
            let l := if v = 0 then Map.del s.pool.lines k else Map.put s.pool.lines k v
            (s.setPool { s.pool with lines := l }).bump .POOL_CNT_COUNT 13 0 64
  else s
def execCxlMemRequest (port ld addr : Nat) (store ecc bad : Bool) (write : Option Nat) (s : State) :
    Host.Outcome State Fault Refusal := .next (cxlMem port ld addr store ecc bad write s)

/-! ### REGION_MAP (R331, R332, R339) -/

/-- A context other than CTX may not command a region (R332). -/
def State.regionForeign (s : State) (c : Cmd) (rid : Nat) : Bool := rCtx rid != c.ctx && !s.on .HTI_CTX_MGMT c.ctx
/-- The answer to a region command before its home is asked. -/
def State.regionRefuse (s : State) (c : Cmd) (rid : Nat) (rights : Bool) : Option (Status × Nat) :=
  if bitsOf rid 63 60 != 1 then some (.badHandle, 0)
  else if !s.presentBoot (rHome rid) (rBootgen rid) then some (.orphaned, rHome rid)
  else if rHome rid = s.myId && (s.regionHere rid).isNone then some (.badHandle, 0)
  else if rights && s.regionForeign c rid then some (.authFail, 3)
  else none

/-- CREATE. -/
def regionCreate (c : Cmd) (s : State) : State :=
  match (List.range 4096).find? fun n => !Map.has s.pool.regions n with
  | none => s.finish c.id .retryLater (hintMs 1)
  | some n =>
    let reuse := (Map.find s.pool.reuse n).getD 0
    let rid := 2 ^ 60 + s.myId * 2 ^ 50 + c.ctx * 2 ^ 44 + n * 2 ^ 32 + s.bootgen * 2 ^ 26 + reuse % 2 ^ 26
    let r : PRegion := ⟨rid, c.ctx, Desc.num c.desc 16 8, Desc.num c.desc 24 8, 0, [], [], [], (0, 0)⟩
    (s.putRegion r).finish c.id .ok 0 rid
def execRegionMapCreate (k : Nat) (s : State) : Host.Outcome State Fault Refusal :=
  .next (s.begin k 0x50 (opOf 8 8 0) anyCmd anyCmd (notEvacuating regionCreate))

/-- Destroy a region at its home: the answer code, pages freed or holds remaining. Publishes still staging end with
BAD_HANDLE. -/
def State.destroyRegion (s : State) (r : PRegion) : State × Nat × Nat :=
  if !r.holds.isEmpty then (s, 4, r.holds.length)
  else
    let n := rSlot r.id
    let pages := r.gens.foldl (fun a g => a + pages64k g.bytes) 0
    let s := s.setPool { s.pool with
      regions := Map.del s.pool.regions n
      reuse := Map.put s.pool.reuse n ((Map.find s.pool.reuse n).getD 0 + 1) }
    let s := s.showRegion n
    let s := r.staged.foldl (fun s g =>
      if g.flewick = s.myId then
        match s.pool.pubs.find? fun p => p.cmd = g.token with
        | some p => s.endPub p .badHandle 0 0 0
        | none => s
      else s.send g.flewick 4 .publishNak r.id 0 g.token 0 [4]) s
    (s, 0, pages)
/-- Completion of a REGION_MAP DESTROY or of an attach, from the answer of the home. -/
def State.finishDestroy (s : State) (k code value : Nat) : State :=
  match code with
  | 0 => s.finish k .ok 0 value
  | 4 => s.finish k .reservedNonzero 2 0 value
  | 2 => s.finish k .authFail 3
  | _ => s.finish k .badHandle

/-- DESTROY. -/
def regionDestroy (c : Cmd) (s : State) : State :=
  let rid := Desc.handle c.desc
  match s.regionRefuse c rid true with
  | some r => s.finish c.id r.1 r.2
  | none =>
    if rHome rid = s.myId then
      match s.regionHere rid with
      | some r => let a := s.destroyRegion r; a.1.finishDestroy c.id a.2.1 a.2.2
      | none => s.finish c.id .badHandle
    else s.send (rHome rid) 4 .regionDestroy rid 0 c.id s.myId []
def execRegionMapDestroy (k : Nat) (s : State) : Host.Outcome State Fault Refusal :=
  .next (s.begin k 0x50 (opOf 8 8 1) anyCmd anyCmd (notEvacuating regionDestroy))

/-! ### REGION_PUBLISH (R333 to R336) -/

def State.updPub (s : State) (k : Nat) (f : PubRun → PubRun) : State :=
  s.setPool { s.pool with pubs := s.pool.pubs.map fun p => if p.cmd = k then f p else p }
def State.pub (s : State) (k : Nat) : Option PubRun := s.pool.pubs.find? fun p => p.cmd = k

/-- REGION_PUBLISH: PUBLISH_OPEN goes to the home; to this Flewick it is an internal message. -/
def regionPublish (c : Cmd) (s : State) : State :=
  let d := c.desc
  let rid := Desc.handle d
  let expect := Desc.num d 16 4
  let bytes := Desc.num d 32 8
  match s.regionRefuse c rid true with
  | some r => s.finish c.id r.1 r.2
  | none =>
    if expect = 0xFFFFFFFF then s.finish c.id .reservedNonzero 16
    else if bytes = 0 then s.finish c.id .reservedNonzero 32
    else
      let s := s.setPool { s.pool with pubs := s.pool.pubs ++ [⟨c.id, rid, expect, bytes, .opening, s.now⟩] }
      if rHome rid = s.myId then s else s.send (rHome rid) 4 .publishOpen rid 0 c.id s.myId [expect, bytes]
def execRegionPublish (k : Nat) (s : State) : Host.Outcome State Fault Refusal :=
  .next (s.begin k 0x51 anyForm anyCmd anyCmd regionPublish)

/-- The end of a publish at the publisher: 0 ACK, 1 and 2 conflict at the open and at the commit, 3 no room, 4 no such
region, 5 too many bytes. -/
def State.pubAnswer (s : State) (token ans gen : Nat) : State :=
  match s.pub token with
  | none => s
  | some p =>
    match ans with
    | 0 => s.endPub p .ok 0 gen 0
    | 1 => s.endPub p .regionConflict 1 0 gen
    | 2 => s.endPub p .regionConflict 2 0 gen
    | 3 => s.endPub p .retryLater (hintMs 1) 0 0
    | 5 => s.endPub p .reservedNonzero 32 0 0
    | _ => s.endPub p .badHandle 0 0 0
/-- The home answers a publisher. -/
def State.pubReply (s : State) (src token rid ans gen : Nat) : State :=
  if src = s.myId then s.pubAnswer token ans gen
  else s.send src 4 (if ans = 0 then .publishAck else .publishNak) rid 0 token 0 [ans, gen]

/-- A message to this Flewick itself arrives only while its publish stands at that step. -/
def State.selfOk (s : State) (src token rid : Nat) (ph : PubPhase) : Bool :=
  src != s.myId || (match s.pub token with | some p => p.region = rid && p.phase = ph | none => false)

/-- PUBLISH_OPEN_RECEIVED (R334 step 2, R336). -/
def publishOpenReceived (src token rid expect bytes : Nat) (s : State) : State :=
  if !s.selfOk src token rid .opening then s
  else match s.regionHere rid with
    | none => s.pubReply src token rid 4 0
    | some r =>
      if r.gen != expect then (s.bump .POOL_CNT_COUNT 1 0 1).pubReply src token rid 1 r.gen
      else if bytes = 0 || bytes > r.maxBytes then s.pubReply src token rid 5 r.gen
      else if r.gens.length ≥ 8 || s.storePages + pages64k bytes > 16384 * s.rd .POOL_LEND_REGION_GIB then
        s.pubReply src token rid 3 r.gen
      else
        let s := s.putRegion { r with staged := r.staged ++ [⟨src, token, expect, bytes, none, s.now⟩] }
        if src = s.myId then s.updPub token fun p => { p with phase := .sending }
        else s.send src 4 .publishReady rid 0 token 0 []
def execPublishOpenReceived (src token region expect bytes : Nat) (s : State) : Host.Outcome State Fault Refusal :=
  .next (publishOpenReceived src token region expect bytes s)

/-- PUBLISH_READY_RECEIVED (R334 steps 3 and 4): SRC is read and sent, then the commit. -/
def publishReadyReceived (token : Nat) (data : Option Nat) (s : State) : State :=
  match s.pub token with
  | none => s
  | some p =>
    if p.phase = .committing || (p.phase = .opening && rHome p.region = s.myId) then s
    else match data with
      | none => s.endPub p .retryLater (hintMs 1) 0 0
      | some n =>
        let n := n % 2 ^ (8 * p.bytes)
        let s := s.updPub token fun q => { q with phase := .committing, sent := s.now }
        if rHome p.region = s.myId then
          match s.regionHere p.region with
          | some r => s.putRegion { r with staged := r.staged.map fun g =>
              if g.flewick = s.myId && g.token = token then { g with data := some n } else g }
          | none => s
        else
          (s.send (rHome p.region) 4 .publishContent p.region 0 token s.myId [n]).send (rHome p.region) 4 .publishCommit
            p.region 0 token s.myId [p.expect]
def execPublishReadyReceived (token : Nat) (data : Option Nat) (s : State) : Host.Outcome State Fault Refusal :=
  .next (publishReadyReceived token data s)

/-- PUBLISH_COMMIT_RECEIVED (R335, R336): compare and commit; `data` is the content that arrived from another
Flewick before it. -/
def publishCommitReceived (src token rid expect data : Nat) (s : State) : State :=
  if !s.selfOk src token rid .committing then s
  else match s.regionHere rid with
    | none => s.pubReply src token rid 4 0
    | some r =>
      if r.last = (src + 1, token) then s.pubReply src token rid 0 r.gen
      else match r.staged.find? fun g => g.flewick = src && g.token = token with
        | some g =>
          let r := { r with staged := r.staged.filter fun x => !(x.flewick = src && x.token = token) }
          if r.gen = expect then
            let gn : Gener := ⟨expect + 1, g.bytes, g.data.getD data % 2 ^ (8 * g.bytes)⟩
            let s := s.freeGens { r with gen := expect + 1, gens := r.gens ++ [gn], last := (src + 1, token) }
            (s.bump .POOL_CNT_COUNT 0 0 1).pubReply src token rid 0 (expect + 1)
          else ((s.putRegion r).bump .POOL_CNT_COUNT 1 0 1).pubReply src token rid 2 r.gen
        | none => (s.bump .POOL_CNT_COUNT 1 0 1).pubReply src token rid 2 r.gen
def execPublishCommitReceived (src token region expect data : Nat) (s : State) : Host.Outcome State Fault Refusal :=
  .next (publishCommitReceived src token region expect data s)

/-- PUBLISH_ANSWER_RECEIVED (R334 step 6). -/
def execPublishAnswerReceived (token ans gen : Nat) (s : State) : Host.Outcome State Fault Refusal :=
  .next (s.pubAnswer token ans gen)

/-- PUBLISH_COMMIT_RESEND (R336): every 1 ms. -/
def publishResend (token : Nat) (s : State) : State :=
  match s.pub token with
  | some p =>
    if p.phase = .committing && rHome p.region != s.myId && decide (p.sent + 100000 ≤ s.now) then
      (s.updPub token fun q => { q with sent := s.now }).send (rHome p.region) 4 .publishCommit p.region 0 token s.myId [p.expect]
    else s
  | none => s
def execPublishCommitResend (dt token : Nat) (s : State) : Host.Outcome State Fault Refusal :=
  .next (publishResend token (s.pass dt))

/-- STAGE_LIMIT_EXPIRY (R336). -/
def stageExpiry (slot src token : Nat) (s : State) : State :=
  match Map.find s.pool.regions slot with
  | none => s
  | some r =>
    if r.staged.any fun g => g.flewick = src && g.token = token &&
        decide (g.since + 100000 * s.rd .POOL_CFG_STAGE_LIMIT_MS ≤ s.now) then
      (s.dropStaging r src token).bump .POOL_CNT_COUNT 4 0 1
    else s
def execStageLimitExpiry (dt slot src token : Nat) (s : State) : Host.Outcome State Fault Refusal :=
  .next (stageExpiry slot src token (s.pass dt))

/-! ### REGION_ATTACH (R337, R338) -/

/-- What the home says to an attach: code, generation, bytes. -/
def PRegion.attachCode (r : PRegion) (ctx : Nat) (mgmt : Bool) : Nat :=
  if ctx != r.owner && !mgmt && !bitAt r.readers ctx then 2 else if r.gen = 0 then 3 else 0
/-- An attach completes from the home's answer. -/
def State.finishAttach (s : State) (c : Cmd) (window : Option Nat) (code gen bytes : Nat) : State :=
  let rid := Desc.handle c.desc
  match code with
  | 0 =>
    let l := s.pool.attached.filter fun a => !(a.ctx = c.ctx && a.region = rid)
    let s := s.setPool { s.pool with attached := l ++ [⟨c.ctx, rid, gen, bytes, window⟩] }
    (s.bump .POOL_CNT_COUNT 2 0 1).finish c.id .ok 0 (gen + (bytes + 1023) / 1024 * 2 ^ 32) (window.getD 0xFFFFFFFF)
  | 2 => s.finish c.id .authFail 3
  | 3 => s.finish c.id .reservedNonzero 8 0 1
  | _ => s.finish c.id .badHandle

/-- ATTACH. -/
def regionAttach (c : Cmd) (s : State) : State :=
  let rid := Desc.handle c.desc
  match s.regionRefuse c rid false with
  | some r => s.finish c.id r.1 r.2
  | none =>
    let mgmt := s.on .HTI_CTX_MGMT c.ctx
    if rHome rid = s.myId then
      match s.regionHere rid with
      | none => s.finish c.id .badHandle
      | some r =>
        let code := r.attachCode c.ctx mgmt
        let s := if code = 0 then s.takeHold r s.myId c.ctx else s
        s.finishAttach c none code r.gen (r.genBytes r.gen)
    else match s.windowTo (rHome rid) with
      | none => s.finish c.id .reservedNonzero 8 0 2
      | some _ => s.send (rHome rid) 4 .holdTake rid 0 c.id s.myId [c.ctx, c.ctx, b2n mgmt]
def execRegionAttachAttach (k : Nat) (s : State) : Host.Outcome State Fault Refusal :=
  .next (s.begin k 0x52 (opOf 8 8 0) anyCmd anyCmd regionAttach)

/-- DETACH: the context's hold ends; with no hold it completes with OK. -/
def regionDetach (c : Cmd) (s : State) : State :=
  let rid := Desc.handle c.desc
  match s.regionRefuse c rid false with
  | some r => s.finish c.id r.1 r.2
  | none => (s.detachAll fun a => a.ctx = c.ctx && a.region = rid).finish c.id .ok
def execRegionAttachDetach (k : Nat) (s : State) : Host.Outcome State Fault Refusal :=
  .next (s.begin k 0x52 (opOf 8 8 1) anyCmd anyCmd regionDetach)

/-- REGION_HOLD_MESSAGE_RECEIVED (R333, R337, R339): at the home a hold taken or released, or a forwarded DESTROY; at the
asking Flewick the home's answer to the command `token`. -/
def holdMessage (src token rid : Nat) (msg : HoldMsg) (s : State) : State :=
  match msg with
  | .take holder ctx mgmt gen =>
    match s.regionHere rid with
    | none => s.send src 4 .holdAnswer rid 0 token 0 [1, 0, 0]
    | some r =>
      match gen with
      | some g => s.addHold r src holder g
      | none =>
      let code := r.attachCode ctx mgmt
      let s := if code = 0 then s.takeHold r src holder else s
      s.send src 4 .holdAnswer rid 0 token 0 [code, r.gen, r.genBytes r.gen]
  | .release holder =>
    match s.regionHere rid with
    | some r => s.dropHold r src holder
    | none => s
  | .destroy =>
    match s.regionHere rid with
    | none => s.send src 4 .regionAnswer rid 0 token 0 [1, 0]
    | some r => let a := s.destroyRegion r; a.1.send src 4 .regionAnswer rid 0 token 0 [a.2.1, a.2.2]
  | .answer code value bytes =>
    match s.cmd token with
    | some c =>
      if c.phase != .running || Desc.handle c.desc != rid then s
      else if c.op = 0x52 then s.finishAttach c (s.windowTo (rHome rid)) code value bytes
      else if c.op = 0x50 then s.finishDestroy c.id code value
      else s
    | none => s
def execRegionHoldMessageReceived (src token region : Nat) (msg : HoldMsg) (s : State) :
    Host.Outcome State Fault Refusal := .next (holdMessage src token region msg s)

/-- POOL_CNT_CLR (R29). -/
def execPoolCntClr (value : Nat) (s : State) : Host.Outcome State Fault Refusal :=
  .next (s.hostWrite .POOL fun s => if bitAt value 0 then s.zeroAll .POOL_CNT_COUNT else s)

end Sys2Proof.Machine
end

