-- ==== Sys2Proof/Machine/MapOps.lean ====
section
/-! DEFINITION. The fabric map's operations (spec/12 R356 to R360): its registers, partners and inheritance, what a member's
loss does here (spec/03 R89, R103, R105 to R107), changes proposed and committed. -/

namespace Sys2Proof.Machine

def State.setFab (s : State) (f : Fab) : State := { s with fab := f }
/-- Whether this Flewick may take part: it has CONTROL, a valid place, and has neither left nor been expelled. -/
def State.inFabric (s : State) : Bool := s.on .CTL_READY_CONTROL && !s.on .RING_STS_CFG_BAD && !s.fab.gone
/-- This Flewick leads. -/
def State.leads (s : State) : Bool := s.on .RING_STS_IS_LEADER
/-- A message of the map's firmware: by the ring to a member, else over the links. -/
def State.sendMap (s : State) (dst : Nat) (k : MsgKind) (epoch a b : Nat) (args : List Nat) : State :=
  if s.isMember dst then s.send dst 0 k 0 epoch a b args else s.sendLink dst k epoch a b args

/-! ### Registers of the map -/

/-- RING_STS.MEMBER as the map and isolation give it. -/
def State.showMember (s : State) : State :=
  let st := s.rd .RING_MAP_STATE s.myId
  let v := if s.fab.gone then s.rd .RING_STS_MEMBER
    else if !s.isMember s.myId then 0 else if s.fab.isolated then 4 else st
  s.wr .RING_STS_MEMBER 0 0 v
/-- RING_INHERIT, of which `n` entries were shown. -/
def State.showInherit (s : State) (n : Nat) : State :=
  (List.range (max n s.fab.inherit.length)).foldl (fun s i =>
    match s.fab.inherit[i]? with
    | some e => (((s.wr .RING_INHERIT_LOST_ID i 0 e.1).wr .RING_INHERIT_BOOTGEN i 0 e.2.1).wr .RING_INHERIT_INHERITOR i 0 e.2.2).wr
        .RING_INHERIT_VALID i 0 1
    | none => (((s.wr .RING_INHERIT_LOST_ID i 0 0).wr .RING_INHERIT_BOOTGEN i 0 0).wr .RING_INHERIT_INHERITOR i 0 0).wr
        .RING_INHERIT_VALID i 0 0) s
/-- A member's partner (R358); this Flewick's own shows in CTL_SES_PARTNER too. -/
def State.setPartner (s : State) (n : Nat) (p : Option Nat) : State :=
  let s := (s.wr .RING_MAP_PARTNER n 0 (p.getD 0)).wr .RING_MAP_PARTNER_VALID n 0 (b2n p.isSome)
  if n = s.myId then (s.wr .CTL_SES_PARTNER_PARTNER 0 0 (p.getD 0)).wr .CTL_SES_PARTNER_VALID 0 0 (b2n p.isSome) else s
/-- Members that satisfy a test take the first JOINED member after them as partner. -/
def State.newPartners (s : State) (p : Nat → Bool) : State :=
  (s.fab.members.filter p).foldl (fun s (n : Nat) => s.setPartner n (cyclicAfter n s.joinedIds).head?) s
/-- The leader of the map. -/
def State.setLeader (s : State) (n : Nat) : State :=
  (s.wr .RING_STS_LEADER 0 0 n).wr .RING_STS_IS_LEADER 0 0 (b2n (n = s.myId && s.isMember s.myId))

/-! ### What a loss does here -/

/-- Settle the transfer of a session whose peer or home was removed (R103, points 2 to 7). -/
def State.xferGone (s : State) (id : Nat) (homeWas : Nat) (x : Session) : State :=
  let h := x.handle
  match x.xfer with
  | none => s
  | some t =>
    let ask (s : State) : State := (s.updXfer h fun t => { t with follow := true, tries := 1, at_ := s.now }).askHome x
    if t.peer = id then
      if t.sender then (if x.beforeFive then s.shipFail h .retryLater (hintMs 1) else ask s)
      else if t.phase = .receiving then s.discardIncoming h
      else ask s
    else if homeWas = id then
      let s := s.updXfer h fun t => { t with lostHome := true, tries := 1, at_ := s.now }
      if !t.sender && t.phase = .committing then s.sendCommitReq h { t with lostHome := true }
      else if t.sender && t.phase = .sent then s.askHome x
      else s
    else s

/-- What the removal of a Flewick means for one session: `homeWas` answered for its home before. -/
def State.sessGone (s : State) (id : Nat) (h : Nat) (homeWas : Nat) : State :=
  match s.sess h with
  | none => s
  | some x =>
    let s := s.xferGone id homeWas x
    -- the inheritor takes the record (R106)
    let s : State := match s.sess h with
      | some y =>
        if homeWas = id && y.mirror_ && s.homeId h = s.myId && !y.isHome then
          (s.setSess { y with inherited := true, mirror_ := false }).newMirror { y with inherited := true, mirror_ := false }
        else s
      | none => s
    -- a gathering whose source is gone (R107)
    let s : State := match s.sess h with
      | some y =>
        if y.gathering && y.mirror = id && y.st = .orphaned then s.failSess h
        else if y.gathering && (y.mirror = id || homeWas = id) && y.st != .orphaned then
          (s.failSess h).endUsers h .orphaned 0xFFFF
        else s
      | none => s
    -- a proposal whose receiver is gone is void; one whose mirror is gone commits (R101)
    let s : State := match s.sess h with
      | some y => (match y.prop with
        | some p => if p.receiver = id then (s.setSess { y with prop := none }).sendNaks y (p.epoch - 1) p.sender p.receiver
            else if y.mirror = id then s.commitProp h else s
        | none => s)
      | none => s
    -- the owner is gone (R105)
    let s : State := match s.sess h with
      | some y => if y.isHome && y.owner = id && !y.owner_ then s.orphan h else s
      | none => s
    -- the mirror is gone (R89)
    match s.sess h with
    | some y =>
      if y.noMirror || y.mirror != id || y.st = .failed then s
      else if y.isHome then s.newMirror y
      else if y.owner_ && !y.mirrorLost then
        (((s.setSess { y with mirrorLost := true, resentAt := s.now }).ackUpTo h (2 ^ 64)).bump .CTL_SES_CNT_COUNT 11 0 1).event (hCtx h) 4 h
          (packBytes [(4, id)])
      else s
    | none => s

/-- Regions homed there are lost, and its holds and stagings at regions here (R332, R333, R336). -/
def State.poolGone (s : State) (id boot : Nat) : State :=
  let there (rid : Nat) : Bool := rHome rid = id && rBootgen rid = boot
  let s := (s.pool.pubs.filter fun (p : PubRun) => there p.region).foldl (fun s (p : PubRun) => s.endPub p .orphaned id 0 0) s
  let s := (s.hti.cmds.filter fun c => (c.op = 0x50 || c.op = 0x52) && c.phase = .running && there (Desc.handle c.desc)).foldl
    (fun s c => s.finish c.id .orphaned id) s
  let s := s.setPool { s.pool with attached := s.pool.attached.filter fun a => !there a.region }
  s.pool.regions.foldl (fun s (p : Nat × PRegion) =>
    let r := p.2
    if r.holds.any (fun (h : RHold) => h.flewick = id) || r.staged.any (fun (g : Staging) => g.flewick = id) then
      s.freeGens { r with
        holds := r.holds.filter (fun (h : RHold) => h.flewick != id), staged := r.staged.filter (fun (g : Staging) => g.flewick != id) }
    else s) s

/-- Sessions inherited under an entry that was evicted fail (R359). -/
def State.evictSess (s : State) (e : Nat × Nat × Nat) : State :=
  if e.2.2 != s.myId then s
  else (s.ses.tab.filter fun (p : Nat × Session) => p.2.inherited && hHome p.2.handle = e.1 && hBootgen p.2.handle = e.2.1).foldl
    (fun s (p : Nat × Session) => s.failSess p.2.handle) s

/-! ### Edits (R357 to R359) -/

/-- A member enters the map. -/
def State.addMember (s : State) (id boot links : Nat) : State :=
  let s := s.setFab { s.fab with
    members := if s.fab.members.contains id then s.fab.members else s.fab.members ++ [id], beats := Map.put s.fab.beats id s.now }
  let s := ((s.wr .RING_MAP_STATE id 0 1).wr .RING_MAP_BOOTGEN id 0 boot).wr .RING_MAP_LINKS id 0 links
  s.newPartners fun n => n = id || (s.partnerOf n).isNone
/-- A member leaves the map, LEFT (3) or LOST (4). -/
def State.dropMember (s : State) (id st : Nat) : State :=
  let boot := s.rd .RING_MAP_BOOTGEN id
  let p := s.partnerOf id
  let homes := s.ses.tab.map fun (q : Nat × Session) => (q.2.handle, s.homeId q.2.handle)
  let shown := s.fab.inherit.length
  let moved := s.fab.inherit.filterMap fun (e : Nat × Nat × Nat) => if e.2.2 = id then p.map fun n => (e.1, e.2.1, n) else some e
  let all := moved ++ (p.toList.map fun n => (id, boot, n))
  let over_ := all.length - 8192
  let s := s.setFab { s.fab with
    members := s.fab.members.filter (fun n => n != id), inherit := all.drop over_, beats := Map.del s.fab.beats id }
  let s := ((s.wr .RING_MAP_STATE id 0 st).wr .RING_MAP_LINKS id 0 0).setPartner id none
  let s := s.newPartners fun n => s.partnerOf n = some id
  let s := (s.showInherit shown).bump .RING_CNT_COUNT 14 0 over_
  let s := if st = 4 then s.bump .RING_CNT_COUNT 10 0 1 else s
  let s := (all.take over_).foldl State.evictSess s
  if id = s.myId then s else (homes.foldl (fun s (q : Nat × Nat) => s.sessGone id q.1 q.2) s).poolGone id boot

/-- The transfers of an evacuation to a Flewick that starts LEAVING and that are not committed pick a new target (R367). -/
def State.retarget (s : State) (id : Nat) : State :=
  ((s.ses.tab.filter fun (p : Nat × Session) => p.2.beforeFive && match p.2.xfer with | some t => t.evac && t.peer = id | none => false).foldl
    (fun s (p : Nat × Session) => s.shipAbort p.2.handle .retryLater (hintMs 1)) s).pump

/-- LEAVING of this Flewick is committed: release of every lent extent is asked for, and transfers start (R365 steps 2, 3). -/
def State.leavingNow (s : State) : State :=
  match s.fab.evac with
  | none => s
  | some _ => (((s.updEvac fun e => { e with committed := true }).showEvac 2).askBack false 0 |>.askBack true 0).pump

/-! ### LEFT, expulsion, the end of an evacuation (R360, R365 steps 5 and 6) -/

/-- Every session descriptor is dropped. -/
def State.dropAll (s : State) : State :=
  s.ses.tab.foldl (fun s (p : Nat × Session) =>
    let h := p.2.handle
    let s := ((s.freeStream h).endUsers h .badHandle 0).ackUpTo h (2 ^ 64)
    let s : State := match p.2.xfer with
      | some t => if t.sender then s.shipDone p.2 t .badHandle 0 p.2.epoch p.2.owner 0 0 0 else s
      | none => s
    (s.freeSess h).flushGone) s
/-- The map is gone: no member, no entry, no partner. -/
def State.forgetMap (s : State) : State :=
  let n := s.fab.inherit.length
  let s := s.setFab { s.fab with
    members := [], inherit := [], beats := [], change := none, todo := [], acked := none, isolated := false, gone := true }
  ((s.showInherit n).setPartner s.myId none).wr .RING_STS_IS_LEADER 0 0 0
/-- Every bypass closes, and the EVACUATE commands complete. -/
def State.evacFinish (s : State) : State :=
  match s.fab.evac with
  | none => s
  | some e =>
    let s := s.closeAll.forgetMap
    let s := s.setFab { s.fab with evac := none }
    let s := ((s.wr .RING_EVAC_STS_STEP 0 0 6).wr .RING_STS_MEMBER 0 0 3).wr .RING_LED_SERVICE 0 0 3
    let s := if e.left = 0 then s else s.wr .RING_LED_FAULT 0 0 1
    let s := e.cmd.foldl (fun s k => s.finish k (if e.left = 0 then .ok else .partialDone) 0 e.shipped e.spools e.left) s
    s.mgmtEvent 0x12 (packBytes [(0, e.shipped), (4, e.spools), (8, e.left)])
/-- Every present neighbour of every open pair has answered. -/
def State.allAnswered (s : State) : Bool := (List.range 4).all fun k => s.bypass k != 2 || s.allPaused k
/-- An evacuation in step 5 whose neighbours have answered ends. -/
def State.checkClosing (s : State) : State :=
  match s.fab.evac with
  | some e => if e.closing.isSome && s.allAnswered then s.evacFinish else s
  | none => s
/-- LEFT of this Flewick is committed: sessions still owned count, the descriptors go, PAUSE goes to the neighbours. -/
def State.leftNow (s : State) : State :=
  let n := s.toEvacuate.length
  let s := s.dropAll
  let s := (s.setFab { s.fab with gone := true, paused := [] }).wr .RING_STS_MEMBER 0 0 3
  let s := (s.updEvac fun e => { e with left := n, closing := some s.now }).showEvac 5
  let s := (List.range 4).foldl (fun s k =>
    if s.bypass k != 2 then s
    else [(pairPorts k).1, (pairPorts k).2].foldl (fun s p =>
      if s.present? p then s.sendRaw (s.beside p) 0 .pause 0 0 k p [] else s) s) s
  s.checkClosing

/-- One edit of the map. -/
def State.applyEdit (s : State) (e : MapEdit) : State :=
  match e with
  | .joined id boot links => s.addMember id boot links
  | .leaving id =>
    if s.rd .RING_MAP_STATE id != 1 then s
    else
      let s := (s.wr .RING_MAP_STATE id 0 2).showMember
      if id = s.myId then s.leavingNow else s.retarget id
  | .left id => if s.isMember id then s.dropMember id 3 else s
  | .lost id => if s.isMember id && id != s.myId then s.dropMember id 4 else s
  | .leader id => s.setLeader id
/-- The IDs that edits remove, and those that they add. -/
def editsDrop (l : List MapEdit) : List Nat := l.filterMap fun e => match e with | .left id => some id | .lost id => some id | _ => none
def editsJoin (l : List MapEdit) : List Nat := l.filterMap fun e => match e with | .joined id _ _ => some id | _ => none

/-- A commit of edits at every member: a leader that was removed is followed by the lowest JOINED member (R356). -/
def State.applyEdits (s : State) (epoch : Nat) (l : List MapEdit) : State :=
  let s := (s.wr .RING_MAP_EPOCH_EPOCH 0 0 epoch).bump .RING_CNT_COUNT 9 0 1
  let me := s.isMember s.myId
  let s := l.foldl State.applyEdit s
  let s := if s.isMember s.leader then s.setLeader s.leader
    else s.setLeader ((cyclicAfter 1024 s.joinedIds).headD 0)
  let s := s.setFab { s.fab with beat := s.now }
  let s := if s.leads then s.setFab { s.fab with beats := s.fab.members.foldl (fun m n => Map.put m n s.now) s.fab.beats } else s
  let s := s.showMember.dropGone.reroute
  if me && !s.isMember s.myId then s.leftNow else s

/-! ### Messages -/

/-- Codes of the model's map messages. -/
def MapEdit.words : MapEdit → List Nat
  | .joined id boot links => [1, id, boot + 64 * links]
  | .leaving id => [2, id, 0]
  | .left id => [3, id, 0]
  | .lost id => [4, id, 0]
  | .leader id => [5, id, 0]
def State.mapWords (s : State) : List Nat :=
  let ids := (List.range 1024).filter fun n => s.rd .RING_MAP_STATE n != 0
  ids.flatMap fun n => [n, s.rd .RING_MAP_STATE n + 8 * s.rd .RING_MAP_BOOTGEN n, s.rd .RING_MAP_LINKS n, match s.partnerOf n with | some p => p + 1 | none => 0]
/-- The whole map goes to a Flewick that joins or lags, over the links. -/
def State.sendWhole (s : State) (dst : Nat) : State :=
  s.sendLink dst .mapCommit (s.rd .RING_MAP_EPOCH_EPOCH) s.leader s.fab.inherit.length
    (s.mapWords ++ s.fab.inherit.flatMap fun (e : Nat × Nat × Nat) => [e.1, e.2.1, e.2.2])

/-- A HEARTBEAT to the leader: boot generation, port bits, and whether this Flewick wants LEAVING (1) or LEFT (2) committed
(log 130). -/
def State.evacWant (s : State) : Nat := match s.fab.evac with | some e => if e.asked then 2 else if e.committed then 0 else 1 | none => 0
def State.sendBeat (s : State) : State :=
  s.send s.leader 0 .heartbeat 0 (s.rd .RING_MAP_EPOCH_EPOCH) s.bootgen s.linkBits [s.evacWant]

/-! ### Changes (R356, R357) -/

/-- The members that a change needs: those JOINED that its new map keeps. -/
def State.needed (s : State) (l : List MapEdit) : List Nat := s.joinedIds.filter fun n => !(editsDrop l).contains n
/-- Send a proposal to those that have not acknowledged it. -/
def State.sendChange (s : State) (c : Change) : State :=
  let dsts := if c.form then editsJoin c.edits else s.fab.members.filter fun n => !(editsDrop c.edits).contains n
  (dsts.filter fun n => n != s.myId && !c.acks.contains n).foldl (fun s (n : Nat) =>
    s.sendMap n (if c.candidate then .leaderPropose else .mapChange) (s.rd .RING_MAP_EPOCH_EPOCH + 1) s.myId 0 (c.edits.flatMap MapEdit.words)) s

/-- The change under way commits once its majority has acknowledged: the edits it commits, or none. -/
def State.ripeEdits (s : State) (c : Change) : Option (List MapEdit) :=
  let j := s.joinedIds
  if c.form then (if s.rd .RING_MAP_CFG_EXPECT < 2 * c.acks.length then some c.edits else none)
  else if c.candidate then
    let ok := j.filter fun n => c.acks.contains n
    let low := j.filter fun n => decide (n < s.myId) && !c.acks.contains n
    if j.length < 2 * ok.length && (low.isEmpty || decide (c.at_ + 100000 * s.rd .RING_MAP_CFG_HB_MS ≤ s.now)) then
      some (low.map MapEdit.lost ++ [.leader s.myId])
    else none
  else
    let n := s.needed c.edits
    if n.all (fun m => c.acks.contains m) && j.length < 2 * n.length then some c.edits else none
/-- Start a change: it goes to the members, and waits for them. -/
def State.startChange (s : State) (l : List MapEdit) (form candidate : Bool) : State :=
  let c : Change := ⟨l, [s.myId], s.now, form, candidate⟩
  (s.setFab { s.fab with change := some c }).sendChange c
/-- Commit the change under way and, if it is ripe, those that wait behind it. -/
def State.checkChange (s : State) : Nat → State
  | 0 => s
  | fuel + 1 =>
    match s.fab.change with
    | none => s
    | some c =>
      match s.ripeEdits c with
      | none => s
      | some l =>
        let epoch := s.rd .RING_MAP_EPOCH_EPOCH + 1
        let old := s.fab.members.filter fun n => n != s.myId
        let gone := l.filterMap fun e => match e with | .lost id => some id | _ => none
        let s := s.setFab { s.fab with change := none, isolated := false }
        let s := (old.filter fun n => !gone.contains n).foldl (fun s (n : Nat) => s.sendMap n .mapCommit epoch s.myId 0 (l.flatMap MapEdit.words)) s
        let s := s.applyEdits epoch (if c.form then l ++ [.leader s.myId] else l)
        let s := ((editsJoin l).filter fun n => n != s.myId).foldl (fun s (n : Nat) => s.sendWhole n) s
        let s := if c.form then s.helloAll else s
        match s.fab.todo with
        | [] => s
        | e :: t =>
          let s := s.setFab { s.fab with todo := t }
          if s.leads then State.checkChange (s.startChange [e] false false) fuel else s.setFab { s.fab with todo := [] }
/-- The leader asks for an edit: alone, behind the change under way, or as part of it where it takes a member off that would
have to acknowledge it (log 129). -/
def State.askChange (s : State) (e : MapEdit) : State :=
  let s : State := match s.fab.change with
    | none => s.startChange [e] false false
    | some c =>
      if c.edits.contains e || s.fab.todo.contains e then s
      else if !(editsDrop [e]).isEmpty && !c.form && !c.candidate then s.startChange (c.edits ++ [e]) false false
      else s.setFab { s.fab with todo := s.fab.todo ++ [e] }
  s.checkChange (s.fab.todo.length + 1)

end Sys2Proof.Machine
end

