-- ==== Sys2Proof/Machine/RingFrames.lean ====
section
/-! DEFINITION. Ring frames and links (spec/12 R342 to R355, R364, R368): frames received and forwarded, errors, retraining,
cables, gaps, holds, POLICE_NACK, the configuration writes, the clear. -/

namespace Sys2Proof.Machine

/-! ### Frames -/

/-- A frame that has passed its tag is policed and takes its place in its flow (R379, R380). -/
def State.policeFrame (s : State) (f : RFrame) (l : Nat) : State :=
  let g := s.ringCfg f.vc f.ctx
  let behind := (s.flow (flowOf f) f.boot).held.any fun h => h.mode = 1
  if f.vc = 0 || g.mode = 0 then
    if behind then s.holdFrame ⟨f, l, s.now, 0, 3⟩ else s.acceptFrame f l 3
  else
    let s := s.bump .SHP_CNT_COUNT 8 0 (b2n (f.colour = 3))
    let m := s.ringMeter f.vc f.ctx
    let r := g.colour m (min f.colour 2) (l * 1000)
    let s := s.setRing { s.ring with rmet := Map.put s.ring.rmet (64 * f.vc + f.ctx) r.2 }
    if r.1 < 2 then s.acceptFrame f l r.1
    else
      let s := s.bump .SHP_CTX_CNT_COUNT f.ctx 5 1
      match s.inForce .SHP_VC_RED_ACT f.vc with
      | 1 =>
        if s.storeUsed (fun h => h.mode = 1) ≥ 2 ^ 24 then (s.bump .SHP_CNT_COUNT 5 0 1).acceptFrame f l 2
        else (s.bump .SHP_CNT_COUNT 3 0 1).holdFrame ⟨f, l, s.now, 1, 2⟩
      | 2 =>
        let s := (s.bump .SHP_CNT_COUNT 6 0 1).send f.src 0 .nack 0 0 f.ctx f.vc [f.seq, g.hint m (l * 1000) s.now]
        s.loseFrame f
      | _ => (s.bump .SHP_CNT_COUNT 2 0 1).acceptFrame f l 2

/-- RING_FRAME_RECEIVED (R348, R350, R353): the frame's passage to its delivery; during a reset of its context it is lost (R367). -/
def frameReceived (p : Nat) (f : RFrame) (s : State) : State :=
  let s := s.bump .RING_PORT_CNT_COUNT p 7 (frameBytes f)
  if f.vc = 3 || f.vc ≥ 7 then s.bump .RING_CNT_COUNT 8 0 1
  else if !s.tagGood f then (s.bump .RING_CNT_COUNT 4 0 1).loseFrame f
  else if s.bit .CTL_CTX_RST_CTX f.ctx then s.loseFrame f
  else s.policeFrame f (chargedLen f (s.inForce .SHP_PORT_OVH p))
def execRingFrameReceived (port : Nat) (frame : RFrame) (s : State) : Host.Outcome State Fault Refusal :=
  .next (if port < 8 && s.on .RING_PORT_STS_UP port && frame.dst = s.myId then frameReceived port frame s else s)

/-- The port by which a transit frame goes on, and whether it turns (R352, log 64). -/
def State.nextPort (s : State) (p : Nat) (f : RFrame) : Nat × Bool :=
  let x := s.myId % 32
  let y := s.myId / 32
  let set := decide (4 ≤ p)
  if portY p then
    if y != f.dst / 32 then (ringPort set true f.yneg, false) else (ringPort f.set false f.xneg, true)
  else
    if x != f.dst % 32 then (ringPort set false f.xneg, false) else (ringPort f.set true f.yneg, true)
/-- RING_FRAME_FORWARD. -/
def frameForward (p : Nat) (f : RFrame) (s : State) : State :=
  let s := s.bump .RING_PORT_CNT_COUNT p 7 (frameBytes f)
  if f.vc = 3 || f.vc ≥ 7 || f.hops ≥ 63 then s.bump .RING_CNT_COUNT 8 0 1
  else
    let n := s.nextPort p f
    let f := { f with hops := f.hops + 1, dateline := if n.2 then false else f.dateline }
    let k := n.1 * 8 + f.vc
    let s := (s.bump .RING_CNT_COUNT 2 0 1).bump .RING_CNT_COUNT 3 0 (frameBytes f)
    s.setRing { s.ring with
      transit := putQ s.ring.transit k (s.transitQ k ++ [⟨f, chargedLen f (s.inForce .SHP_PORT_OVH n.1), s.now, 0⟩]) }
def execRingFrameForward (port : Nat) (frame : RFrame) (s : State) : Host.Outcome State Fault Refusal :=
  .next (if port < 8 && s.on .RING_PORT_STS_UP port && frame.dst != s.myId then frameForward port frame s else s)

/-- LINK_FRAME_ERROR (R345): a frame received with an uncorrectable codeword or a CRC mismatch is acknowledged negatively;
a frame sent is replayed. -/
def linkError (p : Nat) (fec sent : Bool) (s : State) : State :=
  let s := if fec then s.bump .RING_PORT_CNT_COUNT p 1 1 else s
  if sent then
    let n := (Map.find s.ring.replays p).getD 0 + 1
    (s.setRing { s.ring with replays := Map.put s.ring.replays p n }).bump .RING_PORT_CNT_COUNT p 2 1
  else s
def execLinkFrameError (port : Nat) (fec sent : Bool) (s : State) : Host.Outcome State Fault Refusal :=
  .next (if port < 8 && s.on .RING_PORT_STS_UP port then linkError port fec sent s else s)

/-- RING_LINK_RETRAIN (R344, R345): 8 or 4 lanes; any other number fails, and the link goes down. -/
def linkRetrain (p lanes fails : Nat) (s : State) : State :=
  let s := (s.bump .RING_PORT_CNT_COUNT p 3 1).wr .RING_PORT_STS_LANE_FAIL p 0 fails
  let s := s.setRing { s.ring with replays := Map.del s.ring.replays p }
  if lanes = 8 || lanes = 4 then s.wr .RING_PORT_STS_WIDTH p 0 lanes else s.linkDown p
def execRingLinkRetrain (port lanes fails : Nat) (s : State) : Host.Outcome State Fault Refusal :=
  .next (if port < 8 && s.on .RING_PORT_STS_UP port then linkRetrain port lanes fails s else s)

/-- RING_LINK_DOWN (R364, R369). -/
def execRingLinkDown (port : Nat) (s : State) : Host.Outcome State Fault Refusal :=
  .next (if port < 8 then s.linkDown port else s)

/-- RING_CABLE_PLUG (R364, R532): a change of presence counts; a pull takes the port down, and an OPENING pair back to CLOSED. -/
def cablePlug (p : Nat) (plugged : Bool) (s : State) : State :=
  if s.boot.stage = .off || s.present? p = plugged then s
  else
    let s := (s.wr .RING_PORT_STS_PRESENT p 0 (b2n plugged)).bump .CTL_PIN_CNT_COUNT 3 0 1
    if plugged then s else if s.bypass (pairOf p) = 1 then s.setBypass (pairOf p) 0 else s.linkDown p
def execRingCablePlug (port : Nat) (plugged : Bool) (s : State) : Host.Outcome State Fault Refusal :=
  .next (if port < 8 then cablePlug port plugged s else s)

/-- RING_PORT_TRAINED (R342): the peer must be the opposite port of the same set in the same row or column. -/
def portTrained (p peer peerPort lanes fails : Nat) (s : State) : State :=
  let lined := if portY p then peer % 32 = s.myId % 32 else peer / 32 = s.myId / 32
  let opposite := peerPort = p + 1 && p % 2 = 0 || peerPort + 1 = p && p % 2 = 1
  let s := { s with fab := { s.fab with quiet := setBitN s.fab.quiet p false } }
  let s := ((s.wr .RING_PORT_STS_PEER p 0 peer).wr .RING_PORT_STS_LANE_FAIL p 0 fails)
  if !(lined && opposite) then s.wr .RING_PORT_STS_MISCABLED p 0 1
  else if lanes != 8 && lanes != 4 then s.linkDown p
  else
    let s := ((s.wr .RING_PORT_STS_MISCABLED p 0 0).wr .RING_PORT_STS_UP p 0 1).wr .RING_PORT_STS_WIDTH p 0 lanes
    let s := (s.wrBit .CTL_READY_RING 0 p true).unadmit .ring p
    (s.sendHello peer).reroute
def execRingPortTrained (port peer peerPort lanes fails : Nat) (s : State) : Host.Outcome State Fault Refusal :=
  .next (if port < 8 && !s.on .RING_STS_CFG_BAD && s.bypass (pairOf port) = 2 && s.on .RING_PORT_CTL_EN port && s.present? port &&
      (if portY port then s.dimY != 1 else s.dimX != 1) then portTrained port peer peerPort lanes fails s else s)

/-- REORDER_GAP_TIMEOUT (R353): the frames missing before the first held one are lost. -/
def gapTimeout (src ctx vc : Nat) (s : State) : State :=
  let k := flowKey src ctx vc
  match Map.find s.ring.rx k with
  | none => s
  | some f =>
    match f.held with
    | h :: _ =>
      if f.next < h.f.seq && h.at_ + 100 * s.inForce .RING_CFG_GAP_US ≤ s.now then
        let s := s.bump .RING_CNT_COUNT 5 0 (h.f.seq - f.next)
        (s.setFlow k { f with next := h.f.seq }).drainFlow k (f.held.length + 1)
      else s
    | [] => s
def execReorderGapTimeout (dt src ctx vc : Nat) (s : State) : Host.Outcome State Fault Refusal :=
  .next (gapTimeout src ctx vc (s.pass dt))

/-- ROUTE_HOLD_TIMEOUT (R355): frames that had no route for HOLD_MS are discarded. -/
def routeHold (s : State) : State :=
  let old (e : RFrame × Nat) : Bool := decide (e.2 + 100000 * s.inForce .RING_CFG_HOLD_MS ≤ s.now)
  let gone := s.ring.unrouted.filter old
  (s.setRing { s.ring with unrouted := s.ring.unrouted.filter fun e => !old e }).unreachable gone
def execRouteHoldTimeout (dt : Nat) (s : State) : Host.Outcome State Fault Refusal := .next (routeHold (s.pass dt))

/-- POLICE_NACK_RECEIVED (R380, R354). -/
def execPoliceNackReceived (src ctx vc seq hint : Nat) (s : State) : Host.Outcome State Fault Refusal :=
  .next (let s := s.bump .SHP_CNT_COUNT 7 0 1
    if vc = 4 && hint < 2 ^ 16 then s.regionLost (flowKey src ctx 4) seq else s)

/-! ### Bypasses (R362, R363) -/

/-- BYPASS_LOOPBACK_TRAINED: both own ports of a closed pair have trained behind it. -/
def execBypassLoopbackTrained (pair : Nat) (s : State) : Host.Outcome State Fault Refusal :=
  .next (if pair < 4 && s.mayOpen? pair && s.on .CTL_READY_CONTROL then s.startOpen pair else s)
/-- PAUSE_RECEIVED: this Flewick holds the frames of the joined link until it retrains. -/
def execPauseReceived (port : Nat) (s : State) : Host.Outcome State Fault Refusal :=
  .next (if port < 8 then
      ({ s with fab := { s.fab with quiet := setBitN s.fab.quiet port true } }).sendRaw (s.beside port) 0 .pauseAck 0 0 port 0 []
    else s)
/-- BYPASS_OPENING_TIMEOUT, of a pair that opens. -/
def openingTimeout (k : Nat) (s : State) : State :=
  if s.bypass k = 1 && (Map.find s.fab.since k).getD 0 + 10000000 ≤ s.now then s.setBypass k 0 else s
/-- BYPASS_OPEN_TRAIN_TIMEOUT: a port with a cable has not trained within 20 ms of opening. -/
def openTrainTimeout (k : Nat) (s : State) : State :=
  let bad (p : Nat) : Bool := s.present? p && !s.on .RING_PORT_STS_UP p
  if s.bypass k = 2 && (Map.find s.fab.since k).getD 0 + 2000000 ≤ s.now && (bad (pairPorts k).1 || bad (pairPorts k).2) then
    s.closePair k
  else s
def execBypassOpenTrainTimeout (dt pair : Nat) (s : State) : Host.Outcome State Fault Refusal :=
  .next (if pair < 4 then openTrainTimeout pair (s.pass dt) else s)
/-- BYPASS_RETRY_TIMEOUT. -/
def retryTimeout (k : Nat) (s : State) : State :=
  if s.mayOpen? k && s.on .CTL_READY_CONTROL && (Map.find s.fab.since k).getD 0 + 100000000 ≤ s.now then s.startOpen k else s
def execBypassRetryTimeout (dt pair : Nat) (s : State) : Host.Outcome State Fault Refusal :=
  .next (if pair < 4 then retryTimeout pair (s.pass dt) else s)
/-- RING_BYP_FORCE_CLOSE. -/
def execRingBypForceClose (value : Nat) (s : State) : Host.Outcome State Fault Refusal :=
  .next (s.hostWrite .RING fun s =>
    let s := s.wr .RING_BYP_FORCE_CLOSE 0 0 (fieldOf .RING_BYP_FORCE_CLOSE value)
    (List.range 4).foldl (fun s k => if bitAt value (8 + k) then s.closePair k else s) s)
/-- RETENTION_HEARTBEAT_LOSS (R363). -/
def execRetentionHeartbeatLoss (dt : Nat) (s : State) : Host.Outcome State Fault Refusal := .next (s.pass dt).closeAll

/-! ### Configuration, clear -/

/-- RING_VC_WRITE (R368). -/
def ringVcWrite (v value : Nat) (s : State) : State :=
  let t := s.put .RING_VC_BUF_KIB v 0 (fieldOf .RING_VC_BUF_KIB value)
  let sum := (List.range 8).foldl (fun a k => a + t.rd .RING_VC_BUF_KIB k) 0
  if sum ≤ 1024 ∧ 16 ≤ t.rd .RING_VC_BUF_KIB 0 then t else s.bump .RING_CNT_COUNT 15 0 1
def execRingVcWrite (vc value : Nat) (s : State) : Host.Outcome State Fault Refusal :=
  .next (s.hostWrite .RING fun s => if vc < 8 then ringVcWrite vc value s else s)
/-- RING_MAP_CFG_WRITE (R360, R368). -/
def ringMapCfg (value : Nat) (s : State) : State :=
  let t := s.putWord [.RING_MAP_CFG_HB_MS, .RING_MAP_CFG_ISOLATE_MS, .RING_MAP_CFG_LOSS_MS, .RING_MAP_CFG_FORM_S, .RING_MAP_CFG_EXPECT] 0 0 value
  let hb := t.rd .RING_MAP_CFG_HB_MS
  let iso := t.rd .RING_MAP_CFG_ISOLATE_MS
  if 2 * hb ≤ iso ∧ iso + 2 * hb ≤ t.rd .RING_MAP_CFG_LOSS_MS then t else s.bump .RING_CNT_COUNT 15 0 1
def execRingMapCfgWrite (value : Nat) (s : State) : Host.Outcome State Fault Refusal := .next (s.hostWrite64 .RING_MAP_CFG_HB_MS 0 value (ringMapCfg value))
/-- RING_CNT_CLR (R29). -/
def execRingCntClr (value : Nat) (s : State) : Host.Outcome State Fault Refusal :=
  .next (s.hostWrite .RING fun s => if bitAt value 0 then (s.zeroAll .RING_CNT_COUNT).zeroAll .RING_PORT_CNT_COUNT else s)

end Sys2Proof.Machine
end

