-- ==== Sys2Proof/Machine/Fabric.lean ====
section
/-! DEFINITION. The fabric map at work (spec/12 R356 to R362): HELLO and JOIN, changes and commits, beats, losses, candidacy,
isolation, expulsion, PAUSE answered. -/

namespace Sys2Proof.Machine

/-! ### HELLO, the first map, JOIN (R357) -/

/-- A Flewick that the map shows LEFT or LOST for its boot generation. -/
def State.outcast (s : State) (id boot : Nat) : Bool :=
  let st := s.rd .RING_MAP_STATE id
  (st = 3 || st = 4) && s.rd .RING_MAP_BOOTGEN id = boot % 64
/-- EXPELLED goes to a Flewick heard again. -/
def State.expel (s : State) (id : Nat) : State := s.sendLink id .expelled (s.rd .RING_MAP_EPOCH_EPOCH) s.leader 0 []
/-- HELLO_RECEIVED: `ids` lists the neighbour and what it has heard: ID, boot generation, port bits. -/
def helloReceived (member : Bool) (leader : Nat) (ids : List (Nat × Nat × Nat)) (s : State) : State :=
  if s.boot.stage != .configured || s.on .RING_STS_CFG_BAD || s.fab.gone then s
  else if s.isMember s.myId then
    match ids with
    | e :: _ => if s.leads && s.outcast e.1 e.2.1 then s.expel e.1 else s
    | [] => s
  else
    let known := s.fab.heard
    let heard := ids.foldl (fun (m : Map Nat) (e : Nat × Nat × Nat) =>
      if e.1 = s.myId then m else Map.put m e.1 (e.2.1 % 64 + 64 * e.2.2)) known
    let s := s.setFab { s.fab with heard := heard }
    let s := if heard = known then s else s.helloAll
    if member then s.sendLink leader .join 0 s.myId s.bootgen [s.linkBits] else s
def execHelloReceived (member : Bool) (leader : Nat) (ids : List (Nat × Nat × Nat)) (s : State) : Host.Outcome State Fault Refusal :=
  .next (helloReceived member leader ids s)

/-- MAP_FORM_TIMEOUT: the lowest ID heard proposes the first map of every ID heard. -/
def mapForm (s : State) : State :=
  if s.inFabric && s.fab.members.isEmpty && s.fab.change.isNone && !s.noKey &&
      decide (s.fab.controlAt + 100000000 * s.rd .RING_MAP_CFG_FORM_S ≤ s.now) &&
      decide (s.rd .RING_MAP_CFG_EXPECT < 2 * (s.fab.heard.length + 1)) &&
      s.fab.heard.all (fun (e : Nat × Nat) => decide (s.myId < e.1)) then
    let l := MapEdit.joined s.myId s.bootgen s.linkBits ::
      s.fab.heard.map fun (e : Nat × Nat) => MapEdit.joined e.1 (e.2 % 64) (e.2 / 64)
    (s.startChange l true false).checkChange 1
  else s
def execMapFormTimeout (dt : Nat) (s : State) : Host.Outcome State Fault Refusal := .next (mapForm (s.pass dt))

/-- JOIN_RECEIVED at the leader. -/
def joinReceived (src boot links : Nat) (s : State) : State :=
  if !s.leads || src = s.myId || src ≥ 1024 then s
  else if s.outcast src boot then s.expel src
  else if s.isMember src then
    if s.rd .RING_MAP_BOOTGEN src = boot % 64 then s.sendWhole src
    else
      let s := s.askChange (.lost src)
      s.askChange (.joined src (boot % 64) links)
  else s.askChange (.joined src (boot % 64) links)
def execJoinReceived (src boot links : Nat) (s : State) : Host.Outcome State Fault Refusal := .next (joinReceived src boot links s)

/-! ### Changes (R356, R357) -/

/-- MAP_CHANGE_ACK_RECEIVED: also the acknowledgement of a candidacy. -/
def changeAck (src : Nat) (s : State) : State :=
  match s.fab.change with
  | none => s
  | some c =>
    if c.acks.contains src then s
    else (s.setFab { s.fab with change := some { c with acks := c.acks ++ [src] } }).checkChange (s.fab.todo.length + 1)
def execMapChangeAckReceived (src : Nat) (s : State) : Host.Outcome State Fault Refusal := .next (changeAck src s)

/-- The edits that take this Flewick's map to a whole one. -/
def State.wholeEdits (s : State) (es : List MapEntry) (leader : Nat) : List MapEdit :=
  let live (n : Nat) : Bool := es.any fun e => e.id = n && (e.state = 1 || e.state = 2) && (n = s.myId || e.boot = s.rd .RING_MAP_BOOTGEN n)
  let left (n : Nat) : Bool := es.any fun e => e.id = n && e.state = 3
  ((s.fab.members.filter fun n => !live n).map fun (n : Nat) => if left n then MapEdit.left n else MapEdit.lost n) ++
    ((es.filter fun e => (e.state = 1 || e.state = 2) && !(s.isMember e.id && live e.id)).map fun e => MapEdit.joined e.id e.boot e.links) ++
    ((es.filter fun e => e.state = 2).map fun e => MapEdit.leaving e.id) ++ [.leader leader]
/-- Partners, states and inheritance of a whole map. -/
def State.takeWhole (s : State) (es : List MapEntry) (inherit : List (Nat × Nat × Nat)) : State :=
  let n := s.fab.inherit.length
  let s := es.foldl (fun s e =>
    (((s.wr .RING_MAP_STATE e.id 0 e.state).wr .RING_MAP_BOOTGEN e.id 0 e.boot).wr .RING_MAP_LINKS e.id 0 e.links).setPartner e.id e.partner) s
  ((s.setFab { s.fab with inherit := inherit.drop (inherit.length - 8192) }).showInherit n).showMember

/-- MAP_COMMIT_RECEIVED from a leader or a successful candidate. A change that does not follow the epoch here makes this
Flewick ask for the map. -/
def mapCommit (src epoch : Nat) (m : MapMsg) (s : State) : State :=
  if !s.inFabric || epoch ≤ s.rd .RING_MAP_EPOCH_EPOCH then s
  else
    let fresh (s : State) : State :=
      s.setFab { s.fab with change := none, todo := [], acked := none, isolated := s.fab.isolated && s.fab.acked != some src }
    match m with
    | .change l =>
      if epoch = s.rd .RING_MAP_EPOCH_EPOCH + 1 && s.isMember s.myId then (fresh s).applyEdits epoch l
      else s.sendMap src .mapRequest (s.rd .RING_MAP_EPOCH_EPOCH) s.myId 0 []
    | .whole es inh leader =>
      let was := s.isMember s.myId
      let s := ((fresh s).applyEdits epoch (s.wholeEdits es leader))
      let s := if s.fab.gone then s else s.takeWhole es inh
      if was then s else s.helloAll
def execMapCommitReceived (src epoch : Nat) (msg : MapMsg) (s : State) : Host.Outcome State Fault Refusal := .next (mapCommit src epoch msg s)
/-- MAP_REQUEST_RECEIVED. -/
def execMapRequestReceived (src : Nat) (s : State) : Host.Outcome State Fault Refusal :=
  .next (if s.leads && src < 1024 && src != s.myId then s.sendWhole src else s)

/-! ### Beats (R356) -/

/-- MAP_BEAT_PERIOD: the leader beats, unless it is isolated, every member sends HEARTBEAT, and a change waits for its answers. -/
def beatPeriod (s : State) : State :=
  if !s.isMember s.myId || s.fab.gone then s
  else
    let s := s.wr .RING_MAP_LINKS s.myId 0 s.linkBits
    let s := if s.leads && !s.fab.isolated then
        let links := s.fab.members.flatMap fun (n : Nat) => [n, s.rd .RING_MAP_LINKS n]
        (s.fab.members.filter fun n => n != s.myId).foldl (fun s (n : Nat) =>
          s.send n 0 .mapBeat 0 (s.rd .RING_MAP_EPOCH_EPOCH) s.myId 0 links) s
      else s
    let s := if s.leads then s else s.sendBeat
    match s.fab.change with
    | some c => (s.sendChange c).checkChange (s.fab.todo.length + 1)
    | none => s
def execMapBeatPeriod (dt : Nat) (s : State) : Host.Outcome State Fault Refusal := .next (beatPeriod (s.pass dt))

/-- MAP_BEAT_RECEIVED: `links` gives the port bits of the members. -/
def mapBeat (src epoch : Nat) (links : List (Nat × Nat)) (s : State) : State :=
  if !s.isMember s.myId || s.fab.gone || src = s.myId then s
  else
    let s := if src = s.leader then s.setFab { s.fab with beat := s.now, isolated := false } else s
    let s := s.showMember
    if s.rd .RING_MAP_EPOCH_EPOCH < epoch then s.sendMap src .mapRequest (s.rd .RING_MAP_EPOCH_EPOCH) s.myId 0 []
    else if src = s.leader then
      (links.foldl (fun s (e : Nat × Nat) => if s.isMember e.1 then s.wr .RING_MAP_LINKS e.1 0 e.2 else s) s).reroute
    else s
def execMapBeatReceived (src epoch : Nat) (links : List (Nat × Nat)) (s : State) : Host.Outcome State Fault Refusal :=
  .next (mapBeat src epoch links s)

/-- HEARTBEAT_RECEIVED at the leader: `want` 1 asks for LEAVING, 2 for LEFT. -/
def heartbeat (src boot links want : Nat) (s : State) : State :=
  if !s.leads || src = s.myId || src ≥ 1024 then s
  else if s.outcast src boot then s.expel src
  else if !s.isMember src || s.rd .RING_MAP_BOOTGEN src != boot % 64 then s
  else
    let s := (s.setFab { s.fab with beats := Map.put s.fab.beats src s.now }).wr .RING_MAP_LINKS src 0 links
    let st := s.rd .RING_MAP_STATE src
    if want = 1 && st = 1 then s.askChange (.leaving src)
    else if want = 2 && st = 2 then s.askChange (.left src)
    else s
def execHeartbeatReceived (src boot links want : Nat) (s : State) : Host.Outcome State Fault Refusal := .next (heartbeat src boot links want s)

/-! ### Losses, candidacy, isolation, expulsion (R357, R360) -/

/-- MEMBER_LOSS_TIMEOUT. -/
def memberLoss (m : Nat) (s : State) : State :=
  if s.leads && !s.fab.isolated && m != s.myId && s.isMember m &&
      decide ((Map.find s.fab.beats m).getD 0 + 100000 * s.rd .RING_MAP_CFG_LOSS_MS ≤ s.now) then s.askChange (.lost m)
  else s
def execMemberLossTimeout (dt member : Nat) (s : State) : Host.Outcome State Fault Refusal := .next (memberLoss member (s.pass dt))

/-- LEADER_CANDIDACY_TIMEOUT. -/
def candidacy (s : State) : State :=
  let r := (s.joinedIds.filter fun n => decide (n < s.myId)).length
  let standing := match s.fab.change with | some c => c.candidate | none => false
  if s.joined s.myId && !s.fab.gone && !s.leads && !standing && decide (s.fab.beat + 100000 * ((r + 1) * s.rd .RING_MAP_CFG_LOSS_MS) ≤ s.now) then
    (s.startChange [.leader s.myId] false true).checkChange 1
  else s
def execLeaderCandidacyTimeout (dt : Nat) (s : State) : Host.Outcome State Fault Refusal := .next (candidacy (s.pass dt))

/-- LEADER_PROPOSAL_RECEIVED: a candidacy, or a change that the leader or the first map's proposer sends (log 129). -/
def leaderProposal (src : Nat) (candidate : Bool) (s : State) : State :=
  if !s.inFabric || src = s.myId then s
  else if candidate then
    if !s.isMember s.myId || !s.isMember src then s
    else match s.fab.change with
      | some c =>
        if c.candidate && decide (s.myId < src) then s.send src 0 .leaderPropose 0 (s.rd .RING_MAP_EPOCH_EPOCH + 1) s.myId 0 []
        else (s.setFab { s.fab with acked := some src, change := if c.candidate then none else some c }).send src 0 .leaderAck 0
          (s.rd .RING_MAP_EPOCH_EPOCH + 1) s.myId 0 []
      | none => (s.setFab { s.fab with acked := some src }).send src 0 .leaderAck 0 (s.rd .RING_MAP_EPOCH_EPOCH + 1) s.myId 0 []
  else if (if s.isMember s.myId then src = s.leader else s.fab.members.isEmpty && decide (src < s.myId)) then
    (s.setFab { s.fab with acked := some src }).sendMap src .mapChangeAck (s.rd .RING_MAP_EPOCH_EPOCH + 1) s.myId 0 []
  else s
def execLeaderProposalReceived (src : Nat) (candidate : Bool) (s : State) : Host.Outcome State Fault Refusal :=
  .next (leaderProposal src candidate s)

/-- Isolation begins: step items end with RETRY_LATER, hint 10 ms. -/
def State.isolate (s : State) : State :=
  let old := s
  let s := ((s.setFab { s.fab with isolated := true }).showMember).bump .RING_CNT_COUNT 11 0 1
  let hs := (s.attn.steps.flatMap fun (t : Step) => (t.entries.filter fun (e : SEntry) => e.inStep).map fun (e : SEntry) => e.handle).eraseDups
  (hs.foldl (fun s (h : Nat) => s.leaveAll h .retryLater (hintMs 10)) s).winch old
/-- ISOLATE_TIMEOUT. A leader counts itself among those it has heard. -/
def isolateTimeout (s : State) : State :=
  let iso := 100000 * s.rd .RING_MAP_CFG_ISOLATE_MS
  let heard := (s.joinedIds.filter fun n => n = s.myId || decide (s.now < (Map.find s.fab.beats n).getD 0 + iso)).length
  if !s.isMember s.myId || s.fab.gone || s.fab.isolated then s
  else if (if s.leads then decide (2 * heard ≤ s.joinedIds.length) else decide (s.fab.beat + iso ≤ s.now)) then s.isolate
  else s
def execIsolateTimeout (dt : Nat) (s : State) : Host.Outcome State Fault Refusal := .next (isolateTimeout (s.pass dt))

/-- EXPELLED_RECEIVED: an evacuation that runs ends with what it has done. -/
def expelled (s : State) : State :=
  if s.boot.stage != .configured || s.fab.gone then s
  else
    let epoch := s.rd .RING_MAP_EPOCH_EPOCH
    let leader := s.leader
    let n := s.toEvacuate.length
    let e := s.fab.evac
    let old := s
    let s := s.dropAll.closeAll.forgetMap
    let s := (s.setFab { s.fab with evac := none }).wr .RING_STS_MEMBER 0 0 5
    let s := s.wr .RING_LED_FAULT 0 0 3
    let s : State := match e with
      | some r => (r.cmd.foldl (fun s k => s.finish k (if n = 0 then .ok else .partialDone) 0 r.shipped r.spools n) s).showEvac 0
      | none => s
    (s.mgmtEvent 0x13 (packBytes [(0, epoch), (8, leader)])).winch old
def execExpelledReceived (s : State) : Host.Outcome State Fault Refusal := .next (expelled s)

/-! ### PAUSE answered (R362, R365 steps 5 and 6) -/

/-- PAUSE_ACK_RECEIVED: `side` 0 or 1 is the port of the pair whose neighbour answered. -/
def pauseAck (k side : Nat) (s : State) : State :=
  let s := s.setFab { s.fab with paused := (s.fab.paused.filter fun n => n != 2 * k + side) ++ [2 * k + side] }
  if s.bypass k = 1 then (if s.allPaused k then s.setBypass k 2 else s) else s.checkClosing
def execPauseAckReceived (pair side : Nat) (s : State) : Host.Outcome State Fault Refusal :=
  .next (if pair < 4 && side < 2 then pauseAck pair side s else s)
/-- An evacuation's step 5 has lasted 100 ms. -/
def closingTimeout (s : State) : State :=
  match s.fab.evac with
  | some e => (match e.closing with | some t => if t + 10000000 ≤ s.now then s.evacFinish else s | none => s)
  | none => s
def execBypassOpeningTimeout (dt pair : Nat) (s : State) : Host.Outcome State Fault Refusal :=
  .next (let s := s.pass dt; closingTimeout (if pair < 4 then openingTimeout pair s else s))

end Sys2Proof.Machine
end

