-- ==== Sys2Proof/Machine/Evac.lean ====
section
/-! DEFINITION. Evacuation (spec/12 R364, R365, R367): its start by EVACUATE or the button, the end of its transfers, its limit. -/

namespace Sys2Proof.Machine

/-- An evacuation starts: SOURCE 0 the button, 1 EVACUATE. Without another member it is over at once. -/
def State.startEvac (s : State) (source : Nat) (cmds : List Nat) (spoolOnly : Bool) (limitS : Nat) : State :=
  let n := s.toEvacuate.length
  let e : EvacRun := ⟨cmds, spoolOnly, s.now + 100000000 * limitS, 0, 0, 0, false, false, none, []⟩
  let s := ((s.setFab { s.fab with evac := some e }).wr .RING_LED_SERVICE 0 0 2).showEvac 1
  let s := { s with pins := { s.pins with blink := none } }
  let s := (s.bump .RING_CNT_COUNT 12 0 1).mgmtEvent 0x11 (packBytes [(0, source), (1, b2n spoolOnly), (4, n)])
  if !s.fab.members.any fun m => m != s.myId then (s.updEvac fun e => { e with left := n }).evacFinish
  else if s.leads then s.askChange (.leaving s.myId)
  else s.sendBeat

/-- EVACUATE after the intake steps: during an evacuation it waits for its results. -/
def evacuate (c : Cmd) (s : State) : State :=
  match s.fab.evac with
  | some _ => s.updEvac fun e => { e with cmd := e.cmd ++ [c.id] }
  | none =>
    let l := Desc.num c.desc 16 4
    if s.fab.gone then s.finish c.id .ok
    else s.startEvac 1 [c.id] (Desc.byte c.desc 20 = 1) (if l = 0 then s.rd .RING_EVAC_LIMIT_S else l)
def execEvacuate (k : Nat) (s : State) : Host.Outcome State Fault Refusal :=
  .next (s.begin k 0x73 anyForm anyCmd anyCmd evacuate)

/-- LEFT is asked for: step 4. -/
def State.askLeft (s : State) : State :=
  let s := (s.updEvac fun e => { e with asked := true }).showEvac 4
  if s.leads then s.askChange (.left s.myId) else s.sendBeat
/-- Every session is transferred, every extent released, every home record acknowledged. -/
def State.evacDone (s : State) : Bool :=
  s.toEvacuate.isEmpty && s.pool.extents.all (fun e => e.revoked) &&
    s.ses.tab.all fun (p : Nat × Session) => !p.2.isHome || (p.2.prop.isNone && !p.2.recPending)
/-- EVACUATION_TRANSFERS_DONE. -/
def transfersDone (s : State) : State :=
  match s.fab.evac with
  | some e => if e.committed && !e.asked && s.evacDone then s.askLeft else s
  | none => s
def execEvacuationTransfersDone (s : State) : Host.Outcome State Fault Refusal := .next (transfersDone s)

/-- EVACUATION_LIMIT_EXPIRY: extents not released are revoked. -/
def evacLimit (s : State) : State :=
  match s.fab.evac with
  | some e =>
    if e.committed && !e.asked && e.due ≤ s.now then
      let late := s.pool.extents.filter fun x => !x.revoked
      let s := s.setPool { s.pool with extents := s.pool.extents.map fun (x : Extent) => { x with revoked := true } }
      let s := late.foldl State.zeroExtent s
      ((s.bump .POOL_CNT_COUNT 8 0 late.length).refreshLend).askLeft
    else s
  | none => s
def execEvacuationLimitExpiry (dt : Nat) (s : State) : Host.Outcome State Fault Refusal := .next (evacLimit (s.pass dt))

end Sys2Proof.Machine
end

