-- ==== Sys2Proof/Machine/Gores.lean ====
section
/-! DEFINITION. Gores and the winch (spec/06), torn tiles found by a gore (spec/04): work tiles, items, yields,
pre-emption, panels, shares, the clears of the GORE block. -/

namespace Sys2Proof.Machine

/-- A tile torn for a running item (R135, R193): the rows of its command are discarded, the session enters REBUILDING, and its step item or
KV_APPEND ends with TORN_TILE. -/
def State.tornItem (s : State) (i : Item) (col layer head kind half point : Nat) : State :=
  let cause := causeTorn col (kind = 1) point
  let s := (s.undoRows i.handle).tornFound i.handle col layer head kind half point
  if i.cls = .attn then s.leaveStep i.step i.handle .tornTile cause
  else match s.kvRun i.handle with
    | some r => s.endKv r .tornTile cause
    | none => s.killItems fun j => j.id = i.id

/-- WORK_TILE_END (R186, R188, R135): a tile boundary. An uncorrectable ECC error on a tile read ends the item; a
requested pre-emption saves it. The table of R136 lists no POINT for the read of a SEAL item; the model gives 0b00 (log 181). -/
def workTileEnd (gore : Nat) (torn : Option TornFound) (s : State) : State :=
  match s.itemOn gore with
  | none => s
  | some i =>
    let old := s
    let s := s.bump .GORE_CNT_COUNT 3 0 1
    match torn with
    | some t =>
      if t.kind = 2 && (i.kind = .attnSeg || i.kind = .append || i.kind = .seal || i.kind = .unseal) then
        (s.tornItem i t.column i.layer i.head 2 t.half (if i.kind = .append then 3 else if i.kind = .unseal then 1 else 0)).winch old
      else s
    | none =>
      if i.preempt then (s.saveItem i).winch old
      else s.mapItems (fun j => j.id = i.id) fun j => { j with tileAt := s.now }
def execWorkTileEnd (dt gore : Nat) (torn : Option TornFound) (s : State) : Host.Outcome State Fault Refusal :=
  .next (workTileEnd gore torn (s.pass dt))

/-- The tiles that a segment item reads, in ascending column order. -/
def State.segKeys (s : State) (t : Step) (i : Item) : List Nat :=
  match t.entries.find? fun e => e.handle = i.handle && e.admitted, s.sess i.handle with
  | some e, some x =>
    ((colsRead (t.geo.wins.getD i.layer 0) t.geo.sinks e.pos0 t.ntok).filter fun c => c / t.segTiles = i.seg).filterMap
      fun c =>
        let k := tileKey t.geo c i.layer i.head
        match Map.find x.tiles k with
        | some tile => if tile.torn then none else some k
        | none => none
  | _, _ => []

/-- Segments of a head-layer of an entry. -/
def Step.segCount (t : Step) (e : SEntry) (l : Nat) : Nat :=
  (segmentsOf t.segTiles (colsRead (t.geo.wins.getD l 0) t.geo.sinks e.pos0 t.ntok)).length

/-- Items of one head-layer of an entry. -/
def headItem (i : Item) (k : IKind) (j : Item) : Bool :=
  j.kind = k && j.cls = i.cls && j.step = i.step && j.handle = i.handle && j.layer = i.layer && j.head = i.head

/-- The column whose open tile an APPEND item continues: that of KV_LEN, or of the cursor of a rebuild. -/
def State.appendCol (s : State) (i : Item) (x : Session) : Nat :=
  if i.cls = .attn then x.kvLen / 128
  else match s.kvRun i.handle with
    | some r => r.first / 128
    | none => x.kvLen / 128
/-- The rows that a KV_APPEND's last APPEND item brings find their places in T1 (R160), or nothing of them is wanted yet. -/
def State.kvRoom (s : State) (i : Item) : Bool :=
  i.cls = .attn || (match s.kvRun i.handle with
    | some r => s.rowRoom i.handle r.geo ((r.first + r.count - 1) / 128) (List.range r.geo.headLayers)
    | none => true)
/-- APPEND ends: the CRC of an open tile that it continues is checked (R118), in a rebuild where rows of that tile are wanted; then the
segments' turn comes (R191 step 4). -/
def appendEnd (i : Item) (s : State) : State :=
  match s.sess i.handle with
  | none => s.dropItem i
  | some x =>
    let g := s.shape x.shape
    let col := s.appendCol i x
    let key := tileKey g col i.layer i.head
    let skip := i.cls != .attn && x.st = .rebuilding && !x.wants key col || (match Map.find x.tiles key with | some t => t.torn | none => false)
    match (if skip then (s, none) else s.checkTile i.handle key) with
    | (s, some f) => s.tornItem i col i.layer i.head f 0 3
    | (s, none) =>
      let s := s.dropItem i
      if i.cls = .attn then s.turn (headItem i .attnSeg)
      else if s.gore.items.any (fun j => j.kind = .append && kvItem i.step i.handle j) then s
      else match s.kvRun i.handle with
        | some r => (s.takeKv r).settleKv r.cmd
        | none => s

/-- ATTN_SEG ends: its tiles are verified (R133, R134); the last of several segments lets the merge start. -/
def segEnd (i : Item) (s : State) : State :=
  match s.stepById i.step with
  | none => s.dropItem i
  | some t =>
    match s.checkTiles i.handle (s.segKeys t i) with
    | (s, some (key, f)) => s.tornItem i (keyCol t.geo key) i.layer i.head f 0 0
    | (s, none) =>
      let s := s.dropItem i
      let more := s.gore.items.any (headItem i .attnSeg)
      match t.entries.find? fun e => e.handle = i.handle && e.admitted with
      | some e =>
        if !more && t.segCount e i.layer > 1 then
          s.addItem (Item.new .attnMerge .attn i.ctx i.step i.handle i.layer i.head 0 .ready)
        else s
      | none => s

/-- SEAL ends: the tile is stored; its step item or KV_APPEND may end. -/
def sealEnd (i : Item) (s : State) : State :=
  if i.cls = .attn then
    match s.stepById i.step with
    | some t => ((s.sealNow i t.geo).dropItem i).settleEntry i.step i.handle
    | none => s.dropItem i
  else
    match s.kvRun i.handle with
    | some r =>
      let s := (s.sealNow i r.geo).dropItem i
      (s.updKv r.cmd fun q => { q with sealed := q.sealed + 1 }).settleKv r.cmd
    | none => s.dropItem i

/-- The keys of the tiles that an UNSEAL item reads. -/
def streamItemKeys (g : Shape) (r : KvRun) (i : Item) : List Nat := (streamCols r.first r.count).map fun col => tileKey g col i.layer i.head
/-- UNSEAL ends: its tiles are verified (R133, R134); after the last one the bytes are written and the STREAM completes (R237). -/
def unsealEnd (i : Item) (s : State) : State :=
  match s.kvRun i.handle with
  | none => s.dropItem i
  | some r =>
    match s.checkTiles i.handle (streamItemKeys r.geo r i) with
    | (s, some (key, f)) => s.tornItem i (keyCol r.geo key) i.layer i.head f 0 1
    | (s, none) =>
      let s := s.dropItem i
      if s.gore.items.any (kvItem r.cmd r.handle) then s
      else match s.cmd r.cmd, s.sess r.handle with
        | some c, some x =>
          let l := streamRecords x r.geo c.desc
          let n := l.foldl (fun a q => a + q.1) 0
          let tiles := (streamKeys r.geo (Desc.num c.desc 24 2) (Desc.num c.desc 26 2) r.first r.count).length
          let s := s.bump .GORE_ATTN_CNT_COUNT 9 0 n
          let s := s.putAt (Desc.flag c.desc 10) c.ctx (Desc.num c.desc 32 8) n (joinSects l).2
          ((s.dropKv r.cmd).finish r.cmd .ok 0 n tiles).startNext r.handle
        | _, _ => s.dropKv r.cmd

/-- The item may end: its pages are there, and T1 has places for what it writes (R160, R188). -/
def State.mayEnd (s : State) (i : Item) : Bool :=
  i.pages.all (s.pageHere i) && (match i.kind with
    | .seal => (match s.sess i.handle with | some x => s.sealRoom i (s.shape x.shape) | none => true)
    | .append => s.kvRoom i || s.gore.items.any fun j => j.id != i.id && j.kind = .append && kvItem i.step i.handle j
    | _ => true)

/-- ITEM_END (R189, R195): the item's results are written and its gore is released. -/
def itemEnd (gore : Nat) (s : State) : State :=
  match s.itemOn gore with
  | none => s
  | some i =>
    if !s.mayEnd i then s else
    let old := s
    let s := s.bump .GORE_CNT_COUNT 3 0 1
    let s := match i.kind with
      | .append => appendEnd i s
      | .attnSeg => segEnd i s
      | .seal => sealEnd i s
      | .unseal => unsealEnd i s
      | .scan => s.scanEnd i
      | .helperLayer => s.helperEnd i
      | _ => s.dropItem i
    s.winch old
def execItemEnd (dt gore : Nat) (s : State) : Host.Outcome State Fault Refusal :=
  .next (itemEnd gore (s.pass dt))

/-- ITEM_YIELD (R188): the inputs of the item's next work tile have been waited for longer than YIELD_US; its state is saved. -/
def itemYield (gore : Nat) (s : State) : State :=
  match s.itemOn gore with
  | none => s
  | some i =>
    if i.tileAt + 100 * s.rd .GORE_CFG_YIELD_US < s.now then
      let old := s
      let s := s.release i fun j => some { j with st := .waiting, preempt := false, readyAt := s.now, saved := true, staged := [] }
      (s.bump .GORE_CNT_COUNT 5 0 1).winch old
    else s
def execItemYield (dt gore : Nat) (s : State) : Host.Outcome State Fault Refusal :=
  .next (itemYield gore (s.pass dt))

/-- ITEM_INPUTS_ARRIVE (R188, R191 step 4): the pages that the item waits for are in T1 or in staging pages. -/
def itemInputsArrive (item : Nat) (s : State) : State :=
  match s.gore.items.find? fun i => i.id = item with
  | none => s
  | some i =>
    if i.st = .waiting && i.pages.all (s.pageHere i) then
      (s.mapItems (fun j => j.id = item) fun j => { j with st := if j.saved then .saved else .ready, readyAt := s.now }).winch s
    else s
def execItemInputsArrive (item : Nat) (s : State) : Host.Outcome State Fault Refusal :=
  .next (itemInputsArrive item s)

/-- A class below its floor with an eligible item, and no free gore (R196). -/
def State.starved (s : State) (k : WClass) : Bool :=
  decide (s.held k < s.avail * s.floor k / 100) && !(s.eligibles k).isEmpty && s.freeGore.isNone

/-- The class whose held ÷ FLOOR is largest; ties to the first (log 22). -/
def State.overServed (s : State) : Option WClass :=
  match classes.filter fun k => decide (0 < s.held k) with
  | [] => none
  | k :: t =>
    let more (b a : WClass) : Bool :=
      if s.floor a = 0 then false else if s.floor b = 0 then true
      else decide (s.held b * s.floor a > s.held a * s.floor b)
    some (t.foldl (fun a b => if more b a then b else a) k)

/-- PREEMPT_TIMEOUT (R196): a gore of the most over-served class is pre-empted at its next boundary, one per µs, until as many are as the class
lacks. -/
def preemptTimeout (cls : Nat) (s : State) : State :=
  match classes[cls]? with
  | none => s
  | some k =>
    let waited := s.gore.items.any fun i => i.cls = k && i.dispatchable && s.capOk i.ctx &&
      decide (i.readyAt + 100 * s.rd .GORE_CFG_PREEMPT_US < s.now)
    let asked := (s.gore.items.filter fun i => i.st = .running && i.preempt).length
    let turn := match Map.find s.gore.preAt k.idx with | some t => decide (t + 100 ≤ s.now) | none => true
    if s.starved k && waited && turn && decide (s.held k + asked < s.avail * s.floor k / 100) then
      match s.overServed with
      | some v =>
        if v = k then s
        else match s.gore.items.find? fun i => i.st = .running && i.cls = v && !i.preempt with
          | some i =>
            let s := s.mapItems (fun j => j.id = i.id) fun j => { j with preempt := true }
            { s with gore := { s.gore with preAt := Map.put s.gore.preAt k.idx s.now } }
          | none => s
      | none => s
    else s
def execPreemptTimeout (dt cls : Nat) (s : State) : Host.Outcome State Fault Refusal :=
  .next (preemptTimeout cls (s.pass dt))

/-- PANEL_IDLE_GATE (R182): the panel has been idle for IDLE_US. -/
def panelIdleGate (panel : Nat) (s : State) : State :=
  let since := (Map.find s.gore.busyAt panel).getD 0
  let busy := s.gore.items.any (fun i => i.onPanel panel) || decide (s.now < since + 100 * s.rd .GORE_GATE_IDLE_US)
  if panel < Config.panels && s.on .GORE_GATE_EN && s.bit .CTL_READY_GORES panel && !s.on .GORE_PANEL_GATED panel &&
      !busy && s.pickClass.isNone then
    let s := s.wr .GORE_PANEL_GATED panel 0 1
    let s := { s with gore := { s.gore with lastCtx := s.gore.lastCtx.filter fun p => panelOf p.1 != panel } }
    (s.bump .GORE_CNT_COUNT 9 0 1).refreshPm
  else s
def execPanelIdleGate (dt panel : Nat) (s : State) : Host.Outcome State Fault Refusal :=
  .next (panelIdleGate panel (s.pass dt))

/-- PANEL_READY (R182): a panel that the drogue has admitted is ready and takes items. -/
def panelReady (panel : Nat) (s : State) : State :=
  if s.isAdmitted .panel panel && s.bit .CTL_READY_GORES panel then
    let old := s
    let s := s.unadmit .panel panel
    let s := { s with gore := { s.gore with
      waking := setBitN s.gore.waking panel false, busyAt := Map.put s.gore.busyAt panel s.now } }
    (s.wr .GORE_PANEL_GATED panel 0 0).refreshPm.winch old
  else s
def execPanelReady (panel : Nat) (s : State) : Host.Outcome State Fault Refusal :=
  .next (panelReady panel s)

/-- GORE_TILE_CNT_CLR, GORE_CNT_CLR, GORE_CTX_CNT_CLR, GORE_ATTN_CNT_CLR (R29). -/
def execGoreTileCntClr (value : Nat) (s : State) : Host.Outcome State Fault Refusal :=
  .next (s.hostWrite .GORE fun s => if bitAt value 0 then s.zeroAll .GORE_TILE_CNT_COUNT else s)
def execGoreCntClr (value : Nat) (s : State) : Host.Outcome State Fault Refusal :=
  .next (s.hostWrite .GORE fun s =>
    if bitAt value 0 then (s.zeroAll .GORE_CNT_COUNT).zeroAll .GORE_CLASS_NS_COUNT else s)
def execGoreCtxCntClr (value : Nat) (s : State) : Host.Outcome State Fault Refusal :=
  .next (s.hostWrite64 .GORE_CTX_CNT_CLR_CTX 0 value fun s => s.zeroRows .GORE_CTX_CNT_COUNT value)
def execGoreAttnCntClr (value : Nat) (s : State) : Host.Outcome State Fault Refusal :=
  .next (s.hostWrite .GORE fun s => if bitAt value 0 then s.zeroAll .GORE_ATTN_CNT_COUNT else s)

/-- GORE_TILE_INJ_ARM (R138): a write of GORE_TILE_INJ; ARM is W1S and stays set until the injection. -/
def goreTileInj (value : Nat) (s : State) : State :=
  let s := s.putWord [.GORE_TILE_INJ_MODE, .GORE_TILE_INJ_CTX] 0 0 value
  if bitAt value 0 then s.wr .GORE_TILE_INJ_ARM 0 0 1 else s
def execGoreTileInjArm (value : Nat) (s : State) : Host.Outcome State Fault Refusal :=
  .next (s.hostWrite .GORE (goreTileInj value))

/-- GORE_SHARE_WRITE (R198): excess gores of a lowered CAP are pre-empted, lowest gore numbers first (log 22). -/
def goreShare (ctx value : Nat) (s : State) : State :=
  let old := s
  let s := s.putWord [.GORE_SHARE_WEIGHT, .GORE_SHARE_CAP] ctx 0 value
  let cap := s.rd .GORE_SHARE_CAP ctx
  let run := s.gore.items.filter fun i => i.st = .running && i.ctx = ctx && !i.preempt
  let excess := if cap = 0 then [] else (run.take (run.length - cap)).map Item.id
  (s.mapItems (fun i => excess.contains i.id) fun i => { i with preempt := true }).winch old
def execGoreShareWrite (ctx value : Nat) (s : State) : Host.Outcome State Fault Refusal :=
  .next (if ctx < 64 then s.hostWrite .GORE fun s => s.lockWrite ctx (goreShare ctx value) else s)

/-- GORE_ROLE_MIX_WRITE (R200, R397): dropped as a whole unless the fields sum to 100. -/
def goreRoleMix (value : Nat) (s : State) : State :=
  if bitsOf value 6 0 + bitsOf value 14 8 + bitsOf value 22 16 = 100 then
    (s.putWord [.GORE_ROLE_MIX_ATTN, .GORE_ROLE_MIX_ASSIST, .GORE_ROLE_MIX_RECALL] 0 0 value).refreshFloors
  else s.bump .GORE_CNT_COUNT 13 0 1
def execGoreRoleMixWrite (value : Nat) (s : State) : Host.Outcome State Fault Refusal :=
  .next (s.hostWrite .GORE (goreRoleMix value))

end Sys2Proof.Machine
end

