-- ==== Sys2Proof/Machine/Layouts.lean ====
section
/-! DEFINITION. The layouts of the 49 opcodes, as step 3 of R58 checks them (R59, R533): each gives the offsets of the faults
that it finds. -/

namespace Sys2Proof.Machine

/-- A bus address or an offset of 8 bytes, aligned. -/
def aligned (d : Desc) (lo n : Nat) : Faults := must lo (Desc.num d lo 8 % n = 0)
/-- Bytes that the layout reserves unless a condition holds. -/
def rsvUnless (d : Desc) (ok : Bool) (lo hi : Nat) : Faults := if ok then [] else rsvBytes d lo hi
/-- A field of one command that the layout lists by its values. -/
def listed (d : Desc) (lo n : Nat) (l : List Nat) : Faults := must lo (l.contains (Desc.num d lo n))
/-- HANDLE reserved. -/
def noHandle (d : Desc) : Faults := rsvBytes d 8 15
/-- HANDLE holds a number in its low bits. -/
def slotHandle (d : Desc) (bits : Nat) : Faults := rsvBits d 8 7 bits ++ rsvBytes d 9 15
/-- A word of four bytes taken as fields of a register. -/
def subFields (d : Desc) (base : Nat) (fs : List Fld) : Faults :=
  fs.flatMap fun f => must (base + f.info.lo / 8) (f.legal (fieldOf f (Desc.num d base 4)))

/-! ### Queues and contexts (spec/02) -/

def layQueueOpen (d : Desc) : Faults :=
  inRange d 8 1 1 255 ++ rsvBytes d 9 15 ++ aligned d 16 4096 ++ aligned d 24 4096 ++ inRange d 32 1 4 12 ++
    inRange d 33 1 (Desc.byte d 32) 12 ++ inRange d 35 1 1 255 ++ inRange d 36 2 0 31 ++ rsvBytes d 39 39 ++
    inRange d 40 2 0 1000 ++ rsvBytes d 42 63
def layQueueClose (d : Desc) : Faults := inRange d 8 1 1 255 ++ rsvBytes d 9 63
def layBuf64 (d : Desc) : Faults := noHandle d ++ aligned d 16 64 ++ rsvBytes d 24 63
def layNoop (d : Desc) : Faults := noHandle d ++ rsvBytes d 32 63

/-! ### Sessions (spec/03) -/

def laySessCreate (d : Desc) : Faults :=
  noHandle d ++ inRange d 16 1 0 63 ++ rsvBits d 17 7 2 ++ rsvBytes d 18 23 ++ rsvBytes d 32 63
def laySessDestroy (d : Desc) : Faults := rsvUnless d (!Desc.flag d 8) 8 15 ++ rsvBytes d 16 63
def laySessQuery (d : Desc) : Faults :=
  inRange d 16 1 0 2 ++ rsvBytes d 17 23 ++ aligned d 24 64 ++ inRange d 36 4 1 65536 ++ rsvBytes d 40 63
def laySessShip (d : Desc) : Faults := inRange d 16 2 0 1023 ++ inRange d 18 1 0 15 ++ rsvBytes d 19 63
def laySessTether (d : Desc) : Faults := inRange d 16 1 0 1 ++ rsvBytes d 17 63
def laySessPolicy (d : Desc) : Faults :=
  let own := !Desc.flag d 8
  rsvUnless d own 8 15 ++ inRange d 16 1 0 1 ++ rsvBits d 17 7 2 ++ rsvBytes d 18 19 ++ inRange d 20 4 0 86400000 ++
    rsvBytes d 26 31 ++ rsvUnless d own 32 39 ++ rsvBytes d 40 63

/-! ### Tiers (spec/05) -/

def layTierPolicy (d : Desc) : Faults :=
  let scope := Desc.byte d 16
  rsvUnless d (scope != 0) 8 15 ++ inRange d 16 1 0 2 ++ (if scope = 2 then rsvBytes d 17 17 else inRange d 17 1 0 1) ++
    inRange d 18 1 0 2 ++ rsvBits d 19 7 2 ++ inRange d 20 4 0 86400000 ++ rsvUnless d (scope != 2) 24 35 ++
    inRange d 32 4 0 460 ++ rsvBytes d 36 63
def layTierFlush (d : Desc) : Faults :=
  let all := Desc.flag d 8
  rsvUnless d (!all) 8 15 ++ (if all then rsvBytes d 16 16 else inRange d 16 1 1 2) ++ listed d 17 1 [0, 2, 3] ++ rsvBytes d 18 63

/-! ### The attention service (spec/07) -/

/-- FP32, positive and finite, or 0. -/
def posFp32OrZero (x : Nat) : Bool := decide (x < 0x7F800000)
def layShapeSet (d : Desc) : Faults :=
  let op := bitsOf (Desc.flags d) 9 8
  let latent := Desc.byte d 21 = 1
  let kv := Desc.byte d 20
  let qh := Desc.num d 18 2
  let dk := Desc.num d 22 2
  let dv := Desc.num d 24 2
  let head := must 3 (op != 3) ++ slotHandle d 6
  if op = 2 then head ++ rsvBytes d 16 63
  else
    head ++ inRange d 16 2 1 256 ++ must 18 (decide (1 ≤ qh ∧ qh ≤ 256 ∧ qh % kv = 0)) ++
      must 20 (if latent then kv = 1 else decide (1 ≤ kv ∧ kv ≤ 64)) ++ inRange d 21 1 0 1 ++
      must 22 (if latent then decide (64 ≤ dk ∧ dk ≤ 1024 ∧ dk % 16 = 0) else [64, 80, 96, 128, 160, 192, 256].contains dk) ++
      must 24 (if latent then decide (16 ≤ dv ∧ dv ≤ dk ∧ dv % 16 = 0) else dv = dk) ++ inRange d 26 1 0 16 ++
      rsvBytes d 27 27 ++ must 28 (posFp32OrZero (Desc.num d 28 4)) ++ must 32 (posFp32OrZero (Desc.num d 32 4)) ++
      rsvBytes d 36 39 ++ aligned d 40 8 ++ rsvBytes d 48 63
def layStepSubmit (d : Desc) : Faults :=
  noHandle d ++ inRange d 18 1 0 63 ++ inRange d 19 1 1 64 ++ inRange d 20 2 1 4096 ++ inRange d 22 1 1 4 ++ rsvBytes d 23 23 ++
    aligned d 24 64 ++ aligned d 32 64 ++ must 40 (Desc.num d 40 4 % 65536 = 0) ++ rsvBytes d 44 47 ++ aligned d 48 4096 ++
    aligned d 56 8
def layKvAppend (d : Desc) : Faults :=
  let stream := Desc.flag d 8
  must 3 (stream || !Desc.flag d 9) ++ inRange d 20 4 1 8192 ++ rsvUnless d stream 24 27 ++
    must 26 (!stream || Desc.num d 26 2 != 0) ++ rsvBytes d 28 31 ++ aligned d 32 64 ++ rsvBytes d 48 63

/-! ### Text intake (spec/08) -/

def layTextAppend (d : Desc) : Faults :=
  let len := Desc.num d 32 4
  inRange d 16 1 0 31 ++ rsvBytes d 17 23 ++
    must 32 (if Desc.flag d 8 then decide (4 ≤ len ∧ len ≤ 4194304 ∧ len % 4 = 0) else decide (1 ≤ len ∧ len ≤ 67108864)) ++
    rsvBytes d 36 63
def layTextTokenize (d : Desc) : Faults :=
  noHandle d ++ inRange d 16 1 0 31 ++ rsvBytes d 17 23 ++ inRange d 32 4 1 268435456 ++ inRange d 36 4 1 67108864 ++
    aligned d 40 64 ++ rsvBytes d 48 63
/-- SRC and OFFSET of an image that may stand in a published region. -/
def laySrc (d : Desc) : Faults :=
  let region := Desc.flag d 9
  (if region then [] else aligned d 16 64) ++ rsvUnless d region 24 31
def layTableLoad (d : Desc) : Faults :=
  slotHandle d 5 ++ laySrc d ++ rsvUnless d (!Desc.flag d 8) 32 35 ++ rsvBytes d 36 63

/-! ### Sampling and streams (spec/09) -/

def layStreamConf (d : Desc) : Faults :=
  let op := bitsOf (Desc.flags d) 10 8
  must 3 (decide (op ≤ 3)) ++ (if op = 3 then rsvBytes d 16 23 else aligned d 16 64) ++ rsvBytes d 24 63
/-- Bytes of a logit row (R270). -/
def logitRowLen (d : Desc) : Nat :=
  match bitsOf (Desc.flags d) 10 9 with
  | 0 | 1 => 2 * Desc.num d 24 4
  | 2 => 4 * Desc.num d 24 4
  | _ => 8 * Desc.num d 22 2
def laySample (d : Desc) : Faults :=
  let list := Desc.flag d 8
  let topk := bitsOf (Desc.flags d) 10 9 = 3
  let stride := Desc.num d 28 4
  noHandle d ++ rsvUnless d (!list) 16 19 ++ inRange d 20 2 1 4096 ++
    (if topk then inRange d 22 2 1 4096 ++ rsvBytes d 24 27 else rsvBytes d 22 23 ++ inRange d 24 4 1 524288) ++
    must 28 (stride % 64 = 0 && decide (logitRowLen d ≤ stride)) ++ (if list then aligned d 40 64 else rsvBytes d 40 47) ++
    aligned d 48 64 ++ aligned d 56 64
def layGrammarLoad (d : Desc) : Faults :=
  let load := !Desc.flag d 8
  slotHandle d 6 ++ laySrc d ++ rsvUnless d load 32 35 ++ (if load then inRange d 36 1 0 31 else rsvBytes d 36 36) ++
    rsvBytes d 37 63
def layGrammarBind (d : Desc) : Faults :=
  let bind := !Desc.flag d 8
  (if bind then inRange d 16 1 0 63 else rsvBytes d 16 16) ++ rsvBytes d 17 19 ++ rsvUnless d bind 20 23 ++ rsvBytes d 24 63

/-! ### Recall (spec/10) -/

def layIndexCreate (d : Desc) : Faults :=
  let dim := Desc.num d 16 2
  let m := Desc.byte d 18
  if Desc.flag d 8 then rsvBytes d 16 63
  else
    noHandle d ++ must 16 (decide (16 ≤ dim ∧ dim ≤ 2048 ∧ dim % m = 0 ∧ dim / m ≤ 128)) ++ listed d 18 1 [16, 32, 64] ++
      inRange d 19 1 0 1 ++ inRange d 20 4 1 1048576 ++ inRange d 24 1 0 8 ++ rsvBits d 25 7 1 ++ rsvBytes d 26 63
def layCodebookLoad (d : Desc) : Faults :=
  let region := Desc.flag d 8
  must 3 (region || !Desc.flag d 9) ++ inRange d 16 1 0 1 ++ rsvBytes d 17 23 ++ (if region then [] else aligned d 24 64) ++
    rsvUnless d region 32 39 ++ rsvBytes d 48 63
def layIndexInsert (d : Desc) : Faults :=
  noHandle d ++ inRange d 24 4 1 65536 ++ inRange d 28 1 0 1 ++ (if Desc.byte d 28 = 1 then rsvBytes d 29 29 else inRange d 29 1 0 1) ++
    rsvBytes d 30 31 ++ aligned d 32 64 ++ aligned d 40 64 ++ rsvBytes d 48 63
def layIndexDelete (d : Desc) : Faults :=
  noHandle d ++ inRange d 24 4 1 65536 ++ rsvBytes d 28 31 ++ aligned d 32 64 ++ rsvBytes d 40 63
def layRecallQuery (d : Desc) : Faults :=
  let k := Desc.num d 26 2
  let np := Desc.num d 28 2
  let refine := Desc.num d 30 2
  let fs := Desc.num d 36 4
  noHandle d ++ inRange d 24 2 1 1024 ++ inRange d 26 2 1 1024 ++ inRange d 28 2 1 4096 ++
    must 30 (refine = 0 || decide (k ≤ refine ∧ refine ≤ 4096)) ++ inRange d 32 4 np 65536 ++
    must 36 (fs = 0 || decide (256 ≤ fs ∧ fs ≤ 4352 ∧ fs % 64 = 0)) ++ aligned d 40 64 ++ aligned d 48 64 ++ aligned d 56 64
def layHelperLoad (d : Desc) : Faults := slotHandle d 4 ++ laySrc d ++ rsvBytes d 40 63
def layEncoderRun (d : Desc) : Faults :=
  noHandle d ++ inRange d 16 1 0 15 ++ inRange d 17 1 0 1 ++ inRange d 18 2 1 256 ++ rsvBytes d 20 23 ++ aligned d 24 64 ++
    aligned d 32 64 ++ aligned d 40 64 ++ rsvBytes d 48 63

/-! ### Pool (spec/11) -/

def layLendSet (d : Desc) : Faults :=
  let t1 := Desc.num d 16 4
  let rg := Desc.num d 24 4
  noHandle d ++ inRange d 16 4 0 256 ++ inRange d 20 4 0 4096 ++ must 24 (decide (rg ≤ 128 ∧ t1 + rg ≤ 256)) ++
    inRange d 28 4 1 60000 ++ rsvBytes d 40 63
def layRegionMap (d : Desc) : Faults :=
  if Desc.flag d 8 then rsvBytes d 16 63
  else noHandle d ++ inRange d 24 8 65536 68719476736 ++ rsvBytes d 32 63
def layRegionPublish (d : Desc) : Faults := rsvBytes d 20 23 ++ aligned d 24 64 ++ rsvBytes d 40 63

/-! ### Keys, shaping, bring-up, fleet, ring (spec/12 to spec/17) -/

def layJobKeySet (d : Desc) : Faults :=
  let fabric := Desc.flag d 8
  must 3 (fabric || !Desc.flag d 9) ++ noHandle d ++ inRange d 16 1 0 (if fabric then 1 else 15) ++ inRange d 17 1 0 1 ++
    rsvBytes d 18 19 ++ rsvUnless d (Desc.byte d 17 != 0) 56 63
def layJobKeyRetire (d : Desc) : Faults :=
  noHandle d ++ inRange d 16 1 0 (if Desc.flag d 9 then 1 else 15) ++ rsvBytes d 17 63
def layShaperSet (d : Desc) : Faults :=
  let t := bitsOf (Desc.flags d) 9 8
  let zero (lo n : Nat) : Faults := inRange d lo n 0 0
  must 3 (t != 3) ++ noHandle d ++ (if t = 0 then inRange d 16 1 0 63 else zero 16 1) ++
    (if t ≤ 1 then inRange d 17 1 0 7 else zero 17 1) ++ (if t = 2 then inRange d 18 1 0 7 else zero 18 1) ++ rsvBytes d 19 19 ++
    (match t with
     | 0 => inRange d 20 4 0 131071 ++ inRange d 24 4 1 16383 ++ inRange d 28 1 1 255
     | 1 => subFields d 20 [.SHP_VC_PRIV, .SHP_VC_WEIGHT, .SHP_VC_RED_ACT, .SHP_VC_DEFER_US] ++ rsvBits d 23 7 3 ++ zero 24 4 ++ zero 28 1
     | _ => subFields d 20 [.SHP_PORT_OVH, .SHP_PORT_PRIV_PCT, .SHP_PORT_PRIV_BURST_KIB] ++ rsvBits d 23 7 4 ++ zero 24 4 ++
         zero 28 1) ++ rsvBytes d 29 63
def layPolicerSet (d : Desc) : Faults :=
  let ring := Desc.flag d 8
  let mode := Desc.byte d 18
  let cirMax := if ring then 131071 else 16777215
  let cbsMax := if ring then 8191 else 65535
  let zero (lo n : Nat) : Faults := inRange d lo n 0 0
  noHandle d ++ inRange d 16 1 0 63 ++ (if ring then inRange d 17 1 1 7 else zero 17 1) ++ inRange d 18 1 0 2 ++ rsvBytes d 19 19 ++
    (if mode = 0 then zero 20 4 ++ zero 24 4 else inRange d 20 4 1 cirMax ++ inRange d 24 4 1 cbsMax) ++
    (if mode = 2 then inRange d 28 4 (Desc.num d 20 4) cirMax else zero 28 4) ++
    (if mode = 1 then inRange d 32 4 0 cbsMax else if mode = 2 then inRange d 32 4 1 cbsMax else zero 32 4) ++ rsvBytes d 36 63
def layNvmStore (d : Desc) : Faults :=
  let only := Desc.flag d 10
  must 3 (decide (bitsOf (Desc.flags d) 9 8 ≤ 1)) ++ noHandle d ++ must 16 (Desc.num d 16 2 != 0) ++ rsvBytes d 18 23 ++
    (if only then must 24 (Desc.num d 24 8 != 0) else rsvBytes d 24 31) ++ rsvBytes d 32 63
/-- The three floors of MIXED must sum to 100 (R387). -/
def layRoleSet (d : Desc) : Faults :=
  let mix := Desc.byte d 16 = 3 && !Desc.flag d 8
  noHandle d ++ inRange d 16 1 0 3 ++
    (if mix then must 17 (Desc.byte d 17 + Desc.byte d 18 + Desc.byte d 19 = 100) else rsvBytes d 17 19) ++ rsvBytes d 20 63
def layMeterRead (d : Desc) : Faults :=
  let op := bitsOf (Desc.flags d) 9 8
  let c := Desc.byte d 16
  must 3 (op != 3) ++ noHandle d ++ must 16 (if op = 2 then c = 0 else c < 64 || (op = 1 && c = 255)) ++ rsvBytes d 17 17 ++
    rsvBits d 19 7 2 ++ (if op = 1 then inRange d 20 4 1 256 else rsvBytes d 20 23) ++
    (if op = 2 then rsvBytes d 24 31 else aligned d 24 64) ++ rsvUnless d (op != 0) 32 39 ++ rsvBytes d 40 63
def layEvacuate (d : Desc) : Faults := noHandle d ++ inRange d 16 4 0 3600 ++ inRange d 20 1 0 1 ++ rsvBytes d 21 63

/-- FLAGS [15:8] that an opcode uses, as a mask of byte 3. -/
def flagsUsed (op : Nat) : Nat :=
  if [0x02, 0x06, 0x11, 0x12, 0x13, 0x17, 0x1A, 0x20, 0x21, 0x30, 0x35, 0x40, 0x43, 0x50, 0x52, 0x55, 0x63, 0x71].contains op then 1
  else if [0x22, 0x34, 0x36, 0x44, 0x46, 0x54, 0x60, 0x61, 0x62, 0x72].contains op then 3
  else if [0x23, 0x32, 0x70].contains op then 7
  else if op = 0x33 then 31
  else 0

/-- The layout of an assigned opcode, past FLAGS. -/
def layoutOf (op : Nat) (d : Desc) : Faults :=
  match op with
  | 0x01 => layQueueOpen d | 0x02 => layQueueClose d | 0x03 => layBuf64 d | 0x04 => rsvBytes d 8 63 | 0x05 => layNoop d
  | 0x06 => layBuf64 d
  | 0x10 => laySessCreate d | 0x11 => laySessDestroy d | 0x15 => rsvBytes d 20 63 | 0x16 => laySessQuery d | 0x17 => laySessShip d
  | 0x18 => laySessTether d | 0x1A => laySessPolicy d
  | 0x20 => layTextAppend d | 0x21 => layTextTokenize d | 0x22 => layTableLoad d | 0x23 => layStreamConf d
  | 0x30 => layStepSubmit d | 0x31 => noHandle d ++ rsvBytes d 20 63 | 0x32 => layKvAppend d | 0x33 => laySample d
  | 0x34 => layGrammarLoad d | 0x35 => layGrammarBind d | 0x36 => layShapeSet d
  | 0x40 => layIndexCreate d | 0x41 => layIndexInsert d | 0x42 => layIndexDelete d | 0x43 => layRecallQuery d
  | 0x44 => layCodebookLoad d | 0x45 => layEncoderRun d | 0x46 => layHelperLoad d
  | 0x50 => layRegionMap d | 0x51 => layRegionPublish d | 0x53 => layTierPolicy d | 0x54 => layTierFlush d | 0x55 => layLendSet d
  | 0x60 => layJobKeySet d | 0x61 => layJobKeyRetire d | 0x62 => layShaperSet d | 0x63 => layPolicerSet d
  | 0x70 => layNvmStore d | 0x71 => layRoleSet d | 0x72 => layMeterRead d | 0x73 => layEvacuate d
  | _ => rsvBytes d 16 63

/-- Step 3 of R58: the CAUSE of RESERVED_NONZERO, if the descriptor breaks its layout. -/
def layoutFault (d : Desc) : Option Nat :=
  firstFault (flagsRsv d (flagsUsed (Desc.opcode d)) ++ layoutOf (Desc.opcode d) d)

end Sys2Proof.Machine
end

