-- ==== Sys2Proof/Machine/Intake.lean ====
section
/-! DEFINITION. The doorbells of queue pairs (spec/02 R48 to R52), the fetch of submission entries, and the checks that a command
passes at intake (R58). -/

namespace Sys2Proof.Machine

/-! ### Checks at intake (R58) -/

/-- Step 8: the object that the command names is live (R69, R71, R81, R291). A region of another home is checked there. -/
def State.objLive (s : State) (c : Cmd) : Bool :=
  let h := Desc.handle c.desc
  match c.op with
  | 0x01 => s.mayOpen c
  | 0x02 => s.mayClose c
  | 0x11 | 0x1A => Desc.flag c.desc 8 || s.sessLive c
  | 0x12 | 0x13 | 0x14 | 0x15 | 0x16 | 0x17 | 0x18 | 0x19 | 0x20 | 0x23 | 0x32 | 0x35 => s.sessLive c
  | 0x40 => !Desc.flag c.desc 8 || s.idxLive (fun c => Desc.handle c.desc) c
  | 0x44 => s.idxLive (fun c => Desc.handle c.desc) c
  | 0x41 | 0x42 | 0x43 => s.idxLive idxField c
  | 0x50 => !Desc.flag c.desc 8 || (hGen h = 1 && (rHome h != s.myId || (s.regionHere h).isSome))
  | 0x51 | 0x52 => hGen h = 1 && (rHome h != s.myId || (s.regionHere h).isSome)
  | 0x53 | 0x54 => s.tierLive c
  | _ => true

/-- Steps 1 to 6 of R58: the status and the cause of the first that fails. `ver` is the pair's version. -/
def State.intakeRefuse (s : State) (c : Cmd) (ver : Nat) : Option (Status × Nat) :=
  if Desc.version c.desc != ver then some (.badVersion, ver)
  else match fnOf c.op with
  | none => some (.badOpcode, 0)
  | some f =>
    if (c.op = 0x01 || c.op = 0x02) && c.pair != 0 then some (.badOpcode, 1)
    else match layoutFault c.desc with
    | some off => some (.reservedNonzero, off)
    | none =>
      if mgmtOnly c.op && !s.on .HTI_CTX_MGMT c.ctx then some (.authFail, 1)
      else if f < 8 && (!s.on .CTL_FN_EN f || s.rd .CTL_FN_STATE f != 0) then some (.disabled, fnIndex f)
      else if !s.fnReady f || (f != 8 && s.rd .CTL_PM_STS_STATE = 3) then some (.notReady, fnIndex f)
      else none

/-- The shape that an accepted STEP_SUBMIT or KV_APPEND keeps: that of its slot, or of its session's slot (R119, R216). -/
def State.shapeAt (s : State) (c : Cmd) : Option Shape :=
  match c.op with
  | 0x30 => Map.find s.attn.shapes (Desc.byte c.desc 18)
  | 0x32 => (s.sess (Desc.handle c.desc)).map fun x => s.shape x.shape
  | _ => none
/-- A fetched command passes R58, or completes at the step that fails. An accepted QUEUE_CLOSE stops the pair that it names (R70). -/
def State.intake (s : State) (c : Cmd) (ver : Nat) : State :=
  match s.intakeRefuse c ver with
  | some r => s.finish c.id r.1 r.2
  | none =>
    let p := s.police c.ctx c.op
    let s := p.1
    if p.2.1 = 3 then s.finish c.id .retryLater p.2.2
    else
      let c := { c with colour := p.2.1, shape := s.shapeAt c }
      let s := s.setCmds (s.hti.cmds.map fun (d : Cmd) => if d.id = c.id then c else d)
      let s := if fnOf c.op = some 8 then s else s.called
      if !s.objLive c then s.finish c.id .badHandle
      else if c.op = 0x02 then
        let q := Desc.byte c.desc 8
        match s.pair c.ctx q with
        | some t => if t.closer.isNone then s.setPair c.ctx q { t with closer := some c.id } else s
        | none => s
      else s

/-! ### Fetching (R48, R52, R60) -/

/-- Take one entry from a submission ring: it is counted (a STATS_GET when it ends, R74), given the next number, and checked. -/
def State.fetchOne (s : State) (ctx q : Nat) (p : Pair) (d : Desc) : State :=
  let k := s.hti.nextCmd
  let ahead := (s.hti.cmds.filter fun (x : Cmd) => x.ctx = ctx && x.pair != noPair).length
  let c : Cmd := ⟨k, ctx, q, Desc.opcode d, d, .waiting, ahead, 3, s.now, none, []⟩
  let s := s.setPair ctx q { p with fetch := (p.fetch + 1) % 2 ^ p.sqLog, waitq := p.waitq.drop 1 }
  let s := if c.op = 0x06 then s else s.countFetch ctx
  let s := s.leaveP2
  let s := { s with hti := { s.hti with cmds := s.hti.cmds ++ [c], nextCmd := k + 1 } }
  s.intake c p.ver

/-- Fetch in slot order while the pair allows it (R52, R60). -/
def State.fetchAll (s : State) (ctx q : Nat) : Nat → State
  | 0 => s
  | fuel + 1 =>
    match s.pair ctx q with
    | none => s
    | some p =>
      match p.waitq with
      | [] => s
      | d :: _ => if s.mayFetch ctx p then State.fetchAll (s.fetchOne ctx q p d) ctx q fuel else s

/-- A doorbell that is dropped: it is logged and counted (R50). -/
def State.badDoorbell (s : State) (kind port ctx off : Nat) : State :=
  (s.errlog kind ctx (port % 2) 2 off).bump .HTI_CNT_COUNT ctx 5 1

/-- HTI_W_SQDB: a new TAIL. `entries` are the entries that the Flewick can read from the slots it has not read yet, in slot order;
those past TAIL are not read (R48 to R50). -/
def submitDoorbell (port ctx q value : Nat) (entries : List Desc) (s : State) : State :=
  let tail := value % 4096
  match s.pair ctx q with
  | none => s.badDoorbell kDbClosed port ctx (8 * q)
  | some p =>
    if 2 ^ p.sqLog ≤ tail then s.badDoorbell kDbRange port ctx (8 * q)
    else
      let held := (tail + 2 ^ p.sqLog - p.fetch) % 2 ^ p.sqLog
      let s := s.setPair ctx q { p with tail := tail, waitq := (p.waitq ++ entries).take held }
      s.fetchAll ctx q held
def execHtiWSqdbWrite (port ctx pair value : Nat) (entries : List Desc) (s : State) : Host.Outcome State Fault Refusal :=
  .next (if ctx < 64 && pair < 256 then s.window port ctx (8 * pair) (submitDoorbell port ctx pair value entries) else s)

/-- HTI_W_CQDB: a new HEAD frees room; held completions are written, then fetching goes on (R48, R50, R52). -/
def completeDoorbell (port ctx q value : Nat) (s : State) : State :=
  let head := value % 4096
  let n : Nat := 0x800 + 8 * q
  match s.pair ctx q with
  | none => s.badDoorbell kDbClosed port ctx n
  | some p =>
    let depth := 2 ^ p.cqLog
    if depth ≤ head || (p.widx + depth - p.head) % depth < (head + depth - p.head) % depth then s.badDoorbell kDbRange port ctx n
    else
      let s := (s.setPair ctx q { p with head := head }).drainCq ctx q p.held.length
      let s := s.settle s.hti.cmds.length
      s.fetchAll ctx q p.waitq.length
def execHtiWCqdbWrite (port ctx pair value : Nat) (s : State) : Host.Outcome State Fault Refusal :=
  .next (if ctx < 64 && pair < 256 then s.window port ctx (0x800 + 8 * pair) (completeDoorbell port ctx pair value) else s)

/-! ### QUEUE_CLOSE -/

/-- A QUEUE_CLOSE that TDISP turned away after its acceptance (R437) no longer stops its pair, which fetches on. -/
def State.reopen (s : State) (c : Cmd) : State :=
  let q := Desc.byte c.desc 8
  match s.pair c.ctx q with
  | some p =>
    if p.closer = some c.id && !(s.hti.cmds.any fun (d : Cmd) => d.id = c.id && d.phase != .done) then
      (s.setPair c.ctx q { p with closer := none }).fetchAll c.ctx q p.waitq.length
    else s
  | none => s
def execQueueClose (k : Nat) (s : State) : Host.Outcome State Fault Refusal :=
  .next (
    let t := s.begin k 0x02 anyForm s.closeReady s.mayClose queueClose
    match s.cmd k with
    | some c => if c.op = 0x02 && (s.tdiRefuse c).isSome then t.reopen c else t
    | none => t)

end Sys2Proof.Machine
end

