-- ==== Sys2Proof/Machine/Spdm.lean ====
section
/-! DEFINITION. Messages of the SPDM responder, in the layouts of the published standards (spec/00 R9, spec/15 R430 to R436): SPDM of
DMTF DSP0274, IDE_KM and TDISP of the PCIe specification (log 101). An answer stands as its RequestResponseCode and its bytes from Param1
on; what the standards leave to the device's secrets or to the request's own bytes is free. -/

namespace Sys2Proof.Machine

/-- An answer: Param1, Param2 and `len` bytes after them. -/
def State.spdmMsg (s : State) (path code p1 p2 len body : Nat) : State :=
  s.emit (.answer path code (2 + len) (p1 % 256 + p2 % 256 * 256 + body % 2 ^ (8 * len) * 2 ^ 16))
/-- ERROR: the error code in Param1, its data in Param2. -/
def State.spdmError (s : State) (path code data : Nat) : State := (s.spdmMsg path 0x7F code data 0 0).bump .SEC_CNT_COUNT 5 0 1
/-- ERROR UnsupportedRequest: Param2 is the request's code (R431). -/
def State.spdmUnsupported (s : State) (path code : Nat) : State := s.spdmError path 7 code
/-- An answer whose length and content after Param2 are free. -/
def State.spdmFree (s : State) (path code p1 p2 : Nat) : State :=
  let n := s.free % 65536
  let s := s.tickFree
  (s.spdmMsg path code p1 p2 n s.free).tickFree
def State.spdmSess (s : State) (path id : Nat) : Option SpdmSess := s.sec.sessions.find? fun (x : SpdmSess) => x.path = path && x.id = id
/-- The responder answers on a path: 0 and 1 DOE, 2 MCTP. -/
def State.spdmOn (s : State) (path : Nat) : Bool :=
  if path < 2 then s.blkOn .HTI
  else path = 2 && s.on .CTL_READY_SEC && s.on .SEC_CFG_SPDM_MCTP && decide (s.boot.stage ∈ [.configured, .recovery, .p3])

/-- VERSION: the two entries 1.2 and 1.3. -/
def spdmVersions : Nat := packBytes [(1, 2), (2, 0x1200), (4, 0x1300)]
/-- CAPABILITIES: CTExponent is free, and so are the flags CACHE, MEAS_FRESH, HANDSHAKE_IN_THE_CLEAR and ALIAS_CERT, which no rule gives. -/
def State.spdmCaps (s : State) : Nat :=
  packBytes [(1, s.free % 256), (4, 0x273D6 + Nat.land (s.free / 256) 0x48021), (8, 4096), (12, 65536)]
/-- ALGORITHMS: DMTF measurements, SHA-384, ECDSA P-384, and the four tables DHE secp384r1, AEAD AES-256-GCM, requester ECDSA P-384, the SPDM
key schedule. OtherParamsSelection is free. -/
def State.spdmAlgs (s : State) : Nat :=
  packBytes [(0, 52), (2, 1), (3, s.free % 256), (4, 4), (8, 0x80), (12, 2), (32, 0x102002), (36, 0x22003), (40, 0x802004), (44, 0x12005)]

/-! ### Measurements (R432) -/

/-- The DMTF value type of a block, bit 7 for a raw value, and the bytes of its value. -/
def measForm (i v : Nat) : Nat × Nat :=
  match i with
  | 1 => (0x00, 48) | 2 => (0x01, 48) | 3 => (0x01, 48) | 4 => (0x87, 2)
  | 5 => (0x03, if 2 ^ 384 ≤ v then 49 else 48) | 6 => (0x03, 48) | 7 => (0x85, 6) | _ => (0x82, 20)
/-- A measurement block in the DMTF format: its bytes, and its length. -/
def measBlock (i v : Nat) : Nat × Nat :=
  let f := measForm i v
  (packBytes [(0, i), (1, 1), (2, 3 + f.2), (4, f.1), (5, f.2)] + v % 2 ^ (8 * f.2) * 2 ^ 56, 7 + f.2)
/-- The blocks that a report of `index` holds: all with 0xFF, none with 0. -/
def State.measBlocks (s : State) (index : Nat) : List (Nat × Nat) :=
  let l := if index = 0xFF then List.range 9 else [index]
  l.filterMap fun i => (Map.find s.sec.meas i).map (measBlock i)
/-- Byte strings with their lengths, one after the other. -/
def joinBytes (l : List (Nat × Nat)) : Nat × Nat := l.foldr (fun p a => (p.1 + a.1 * 2 ^ (8 * p.2), p.2 + a.2)) (0, 0)
/-- MEASUREMENTS: the blocks, a nonce, opaque data, and the signature where it is asked for, over a transcript that is not modelled. -/
def State.measurements (s : State) (path index : Nat) (signed : Bool) : State :=
  let l := s.measBlocks index
  let rec_ := joinBytes l
  let nonce := s.free
  let s := s.tickFree
  let opq := s.free
  let s := s.tickFree
  let n := opq % 1025
  let all := joinBytes ([(l.length, 1), (rec_.2, 3), rec_, (nonce % 2 ^ 256, 32), (n, 2), (opq / 2048 % 2 ^ (8 * n), n)] ++
    (if signed then [(deviceSign (s.free % 2 ^ 384) s.tickFree.free, 96)] else []))
  let s := if signed then s.tickFree.tickFree.bump .SEC_CNT_COUNT 6 0 1 else s
  s.spdmMsg path 0x60 (if index = 0 then s.sec.meas.length else 0) (s.free / 2 ^ 400 % 4 * 16) all.2 all.1

/-! ### Vendor-defined answers -/

/-- VENDOR_DEFINED_RESPONSE of the PCI-SIG: protocol 0 IDE_KM, 1 TDISP, and its message. -/
def State.pciMsg (s : State) (path protocol len body : Nat) : State :=
  s.spdmMsg path 0x7E 0 0 (8 + len) (packBytes [(0, 3), (2, 2), (3, 1), (5, 1 + len), (7, protocol)] + body % 2 ^ (8 * len) * 2 ^ 64)
/-- KP_ACK (object 3, with its status) and K_GOSTOP_ACK (object 6): stream, key set and direction. The sub-stream and the port index are those
of the request, which are free here. -/
def State.ideAck (s : State) (path object stream set : Nat) (rx : Bool) (status : Nat) : State :=
  (s.pciMsg path 0 7 (packBytes [(0, object), (3, stream % 256), (4, status), (5, set + (if rx then 0 else 2) + s.free % 3 * 16),
    (6, s.free / 4 % 256)])).tickFree
/-- A TDISP answer: version 1.0, its type, the interface's ID, and `len` bytes. FUNCTION_ID names the virtual function of the context, by a
requester ID that the host assigned. -/
def State.tdisp (s : State) (path type len body : Nat) : State :=
  (s.pciMsg path 1 (16 + len) (packBytes [(0, 0x10), (1, type), (4, s.free % 2 ^ 32)] + body % 2 ^ (8 * len) * 2 ^ 128)).tickFree
/-- TDISP_ERROR. -/
def State.tdispError (s : State) (path code : Nat) : State := s.tdisp path 0x7F 8 code

end Sys2Proof.Machine
end

