-- ==== Sys2Proof/Machine/Security.lean ====
section
/-! DEFINITION. Keys, SPDM, IDE, TDISP and the secure procedures (spec/15). -/

namespace Sys2Proof.Machine

/-! ### JOB_KEY_SET and JOB_KEY_RETIRE (R413 to R418) -/

/-- Job and fabric keys into an EMPTY slot, with the checks of R416 in order. -/
def jobKeySet (c : Cmd) (s : State) : State :=
  let d := c.desc
  let fab := Desc.flag d 8
  let i := Desc.byte d 16
  let full := if fab then Map.has s.sec.fabric i else s.bit .SEC_CTX_ACTIVE i c.ctx || s.bit .SEC_CTX_RETIRING i c.ctx
  let fail (kind : Nat) : State := s.finish c.id .keyFail (keyCause i fab kind)
  let put (key : Nat) : State :=
    let s := if fab then s.setFabric i key (Desc.num d 20 4) (Desc.flag d 9) else s.setJobKey c.ctx i key (Desc.num d 20 4)
    (s.bump .SEC_CNT_COUNT 0 0 1).finish c.id .ok 0 (i + b2n fab * 16) (Desc.num d 20 4)
  if fab && !s.on .HTI_CTX_MGMT c.ctx then s.finish c.id .authFail 1
  else if fab && s.locked c.ctx then s.finish c.id .authFail 5
  else if full then fail (if !fab && s.bit .SEC_CTX_RETIRING i c.ctx then 2 else 1)
  else if Desc.byte d 17 = 0 then
    if !s.on .SEC_CFG_PLAIN_KEYS && s.rd .SEC_CTX_TDI c.ctx != 3 then fail 5 else put (Desc.num d 24 32)
  else match (Map.find s.sec.imports c.ctx).map fun k => keyUnwrap k (Desc.num d 24 40) with
    | none => fail 4
    | some none => (s.bump .SEC_CNT_COUNT 3 0 1).finish c.id .keyFail (keyCause i fab 3)
    | some (some key) => put (key % 2 ^ 256)
def execJobKeySet (k : Nat) (s : State) : Host.Outcome State Fault Refusal :=
  .next (s.begin k 0x60 anyForm anyCmd anyCmd jobKeySet)

/-- The accepted SESS_SHIP commands that hold a slot. -/
def State.keyHolders (s : State) (c i : Nat) : List Nat :=
  (s.hti.cmds.filter fun (d : Cmd) => d.op = 0x17 && d.ctx = c && d.phase != .done && Desc.byte d.desc 18 = i).map fun (d : Cmd) => d.id
/-- Whether the holders of every retire of a slot have ended. -/
def State.keyFree (s : State) (c i : Nat) : Bool :=
  s.sec.retires.all fun (r : Retire) => !(r.ctx = c && r.slot = i) ||
    r.holders.all fun k => match s.cmd k with | some d => d.phase = .done | none => true
/-- ABORT ends the transfers that have not reached step 5 with KEY_FAIL (R418). -/
def State.abortHolders (s : State) (c i : Nat) (l : List Nat) : State × Nat :=
  l.foldl (fun (a : State × Nat) k =>
    match a.1.cmd k with
    | some d =>
      let early := d.phase = .waiting || (match a.1.sess (Desc.handle d.desc) with | some x => x.beforeFive | none => false)
      if d.ctx = c && early then (a.1.endCmd k .keyFail (keyCause i false 2) .boundary, a.2 + 1) else a
    | none => a) (s, 0)
def jobKeyRetire (c : Cmd) (s : State) : State :=
  let d := c.desc
  let i := Desc.byte d 16
  if Desc.flag d 9 then
    if !s.on .HTI_CTX_MGMT c.ctx then s.finish c.id .authFail 1
    else if s.rd .SEC_FABRIC_TX_SLOT = i then s.finish c.id .keyFail (keyCause i true 6)
    else
      let s := if Map.has s.sec.fabric i then (s.dropFabric i).bump .SEC_CNT_COUNT 1 0 1 else s
      s.finish c.id .ok
  else if !s.bit .SEC_CTX_ACTIVE i c.ctx && !s.bit .SEC_CTX_RETIRING i c.ctx then s.finish c.id .ok
  else
    let old := s
    let l := s.keyHolders c.ctx i
    let s := (s.wrBit .SEC_CTX_ACTIVE c.ctx i false).wrBit .SEC_CTX_RETIRING c.ctx i true
    let s := s.setSec { s.sec with retires := s.sec.retires ++ [⟨c.id, c.ctx, i, l, l.length, 0⟩] }
    let a := if Desc.flag d 8 then s.abortHolders c.ctx i l else (s, 0)
    let s := a.1.setSec { a.1.sec with retires := a.1.sec.retires.map fun (r : Retire) =>
      if r.cmd = c.id then { r with waited := l.length - a.2, aborted := a.2 } else r }
    (if s.keyFree c.ctx i then s.retired c.ctx i else s).winch old
def execJobKeyRetire (k : Nat) (s : State) : Host.Outcome State Fault Refusal :=
  .next (s.begin k 0x61 anyForm anyCmd anyCmd jobKeyRetire)

/-- KEY_SLOT_EMPTIED (R418): no command holds the RETIRING slot any more. -/
def execKeySlotEmptied (ctx slot : Nat) (s : State) : Host.Outcome State Fault Refusal :=
  .next (if ctx < 64 && slot < 16 && s.bit .SEC_CTX_RETIRING slot ctx && s.keyFree ctx slot then s.retired ctx slot else s)

/-- SEC_FABRIC_TX_SLOT_WRITE (R419, R422). -/
def txSlotWrite (value : Nat) (s : State) : State :=
  let i := fieldOf .SEC_FABRIC_TX_SLOT value
  if Map.has s.sec.fabric i then (s.wr .SEC_FABRIC_TX_SLOT 0 0 i).keyedFabric else s.bump .RING_CNT_COUNT 15 0 1
def execSecFabricTxSlotWrite (value : Nat) (s : State) : Host.Outcome State Fault Refusal :=
  .next (s.hostWrite .SEC (txSlotWrite value))

/-- SEC_CNT_CLR (R29). -/
def execSecCntClr (value : Nat) (s : State) : Host.Outcome State Fault Refusal :=
  .next (s.hostWrite .SEC fun s => if bitAt value 0 then s.zeroAll .SEC_CNT_COUNT else s)

/-! ### SPDM (R430 to R432) -/

/-- An SPDM request (R431). Error codes: 1 InvalidRequest, 2 InvalidSession, 4 UnexpectedRequest, 6 DecryptError, 7 UnsupportedRequest,
10 SessionLimitExceeded. The heartbeat period is 30 s. -/
def spdmRequest (path : Nat) (r : SpdmReq) (s : State) : State :=
  let live (id : Nat) : Bool := match s.spdmSess path id with | some x => x.open_ | none => false
  let without (id : Nat) : List SpdmSess := s.sec.sessions.filter fun (y : SpdmSess) => !(y.path = path && y.id = id)
  match r with
  | .version => s.spdmMsg path 0x04 0 0 6 spdmVersions
  | .capabilities => (s.spdmMsg path 0x61 0 0 16 s.spdmCaps).tickFree
  | .algorithms => (s.spdmMsg path 0x63 4 0 48 s.spdmAlgs).tickFree
  | .digests => (s.spdmMsg path 0x01 0 1 48 s.free).tickFree
  | .certificate slot => if slot = 0 then s.spdmFree path 0x02 0 0 else s.spdmError path 1 0
  | .challenge slot => if slot = 0 then s.spdmFree path 0x03 0 1 else s.spdmError path 1 0
  | .measurements index signed =>
    if index = 0 || index = 0xFF || Map.has s.sec.meas index then s.measurements path index signed else s.spdmError path 1 0
  | .keyExchange id =>
    if (s.spdmSess path id).isSome then s.spdmError path 1 0
    else if (s.sec.sessions.filter fun (x : SpdmSess) => x.path = path).length ≥ (if path = 2 then 2 else 4) then s.spdmError path 10 0
    else (s.setSec { s.sec with sessions := s.sec.sessions ++ [⟨path, id, false, false⟩] }).spdmFree path 0x64 30 0
  | .finish id good proved =>
    match s.spdmSess path id with
    | some x =>
      if x.open_ then s.spdmError path 4 0
      else if good then
        let m := match proved with | some h => s.sec.manager = some h | none => false
        ((s.setSec { s.sec with sessions := without id ++ [⟨path, id, true, m⟩] }).bump .SEC_CNT_COUNT 4 0 1).spdmFree path 0x65 0 0
      else (s.setSec { s.sec with sessions := without id }).spdmError path 6 0
    | none => s.spdmError path 2 0
  | .heartbeat id => if live id then s.spdmMsg path 0x68 0 0 0 0 else s.spdmError path 2 0
  | .keyUpdate id => if live id then (s.spdmMsg path 0x69 s.free (s.free / 256) 0 0).tickFree else s.spdmError path 2 0
  | .endSession id =>
    if live id then (s.setSec { s.sec with sessions := without id }).spdmMsg path 0x6C 0 0 0 0 else s.spdmError path 2 0
  | .chunkSend => s.spdmFree path 0x05 0 s.free
  | .chunkGet => s.spdmFree path 0x06 0 s.free
  | .vendorDefined _ => s.spdmUnsupported path 0xFE
  | .other => (s.spdmUnsupported path s.free).tickFree
def execSpdmRequest (path : Nat) (req : SpdmReq) (s : State) : Host.Outcome State Fault Refusal :=
  .next (if s.spdmOn path then spdmRequest path req s else s)

/-! ### IDE_KM (R433, R434) -/

/-- A vendor-defined request must come inside a session of the port's DOE, and is not supported elsewhere (R431). -/
def State.inSession (s : State) (port sid : Nat) (f : SpdmSess → State) : State :=
  if port < 2 && s.spdmOn port then
    match s.spdmSess port sid with
    | some x => if x.open_ then f x else s.spdmUnsupported port 0xFE
    | none => s.spdmUnsupported port 0xFE
  else s
def IdeStream.blank (p n : Nat) : IdeStream := ⟨p, n, [], none, none, false⟩
/-- IDE_KM: QUERY_RESP is free; KP_ACK status 3 is an unsupported value. A start or stop that names no stream or no key answers an error. -/
def ideKm (port : Nat) (r : IdeReq) (x : SpdmSess) (s : State) : State :=
  let get (n : Nat) : IdeStream := (s.ideStream port n).getD (IdeStream.blank port n)
  match r with
  | .query => (s.pciMsg port 0 (1 + s.free % 1024) (1 + s.free / 1024 * 256)).tickFree
  | .keyProg n set rx key =>
    if n ≤ 16 && set < 2 then
      (s.putIde { get n with keys := Map.put (get n).keys (2 * set + b2n rx) (key % 2 ^ 256), manager := x.manager }).ideAck port 3 n set rx 0
    else s.ideAck port 3 n (set % 2) rx 3
  | .go n set rx =>
    if n ≤ 16 && Map.has (get n).keys (2 * set + b2n rx) then
      (s.putIde (if rx then { get n with rxOn := some set } else { get n with txOn := some set })).ideAck port 6 n (set % 2) rx 0
    else s.spdmError port 1 0
  | .stop n set rx =>
    if n ≤ 16 then
      let u := (s.putIde (if rx then { get n with rxOn := none } else { get n with txOn := none })).ideAck port 6 n (set % 2) rx 0
      if (get n).secure then u.ideLost port n else u
    else s.spdmError port 1 0
def execIdeKmRequest (port session : Nat) (req : IdeReq) (s : State) : Host.Outcome State Fault Refusal :=
  .next (s.inSession port session fun x => ideKm port req x s)

/-- IDE_STREAM_FAILURE (R434): an integrity failure. -/
def execIdeStreamFailure (port stream : Nat) (s : State) : Host.Outcome State Fault Refusal :=
  .next (match s.ideStream port stream with
    | some t => if t.secure then (s.putIde { t with rxOn := none, txOn := none }).ideLost port stream else s
    | none => s)

/-! ### TDISP (R435 to R439) -/

/-- A request that names no TDI of the port, or comes in a state that does not let it in: the error codes INVALID_INTERFACE and
INVALID_INTERFACE_STATE. -/
def State.tdiMissing (s : State) (port : Nat) : State := s.tdispError port 0x101
def State.tdiState (s : State) (port : Nat) : State := s.tdispError port 4

/-- LOCK_INTERFACE_REQUEST (R436): the conditions of the context are the error INVALID_DEVICE_CONFIGURATION; the answer holds a fresh nonce. -/
def lockInterface (port c stream : Nat) (s : State) : State :=
  if s.rd .SEC_CTX_TDI c = 0 || s.port c != port then s.tdiMissing port
  else if s.rd .SEC_CTX_TDI c != 1 then s.tdiState port
  else if s.on .HTI_W_AQCFG_EN c || s.holdsAny c || s.on .SEC_DEBUG_STATE then s.tdispError port 0x104
  else
    let s := ((s.bridleZero c).eraseKeys c).newStorage c
    let s := s.setSec { s.sec with tdiStream := Map.put s.sec.tdiStream c stream }
    let s := (s.wr .SEC_CTX_TDI c 0 2).bump .SEC_CNT_COUNT 7 0 1
    (s.tdisp port 3 32 (s.free / 2 ^ 32)).tickFree
def execLockInterfaceRequest (port session ctx stream : Nat) (s : State) : Host.Outcome State Fault Refusal :=
  .next (s.inSession port session fun _ => if ctx < 64 then lockInterface port ctx stream s else s.tdiMissing port)

/-- START_INTERFACE_REQUEST: from CONFIG_LOCKED to RUN. -/
def execStartInterfaceRequest (port session ctx : Nat) (s : State) : Host.Outcome State Fault Refusal :=
  .next (s.inSession port session fun _ =>
    if ctx < 64 && s.port ctx = port && s.rd .SEC_CTX_TDI ctx != 0 then
      if s.rd .SEC_CTX_TDI ctx = 2 then (s.wr .SEC_CTX_TDI ctx 0 3).tdisp port 6 0 0 else s.tdiState port
    else s.tdiMissing port)

/-- STOP_INTERFACE_REQUEST (R439): everything of the context is destroyed. -/
def stopInterface (port c : Nat) (reads : List (Option Nat)) (s : State) : State :=
  let old := s
  let s := (((s.scrub c reads).eraseKeys c).newStorage c).bridleZero c
  let s := s.setSec { s.sec with tdiStream := Map.del s.sec.tdiStream c }
  (((s.wr .SEC_CTX_TDI c 0 1).refreshTdi c).tdisp port 7 0 0).winch old
def execStopInterfaceRequest (port session ctx : Nat) (reads : List (Option Nat)) (s : State) : Host.Outcome State Fault Refusal :=
  .next (s.inSession port session fun _ =>
    if ctx < 64 && s.port ctx = port && s.rd .SEC_CTX_TDI ctx != 0 then
      if s.locked ctx then stopInterface port ctx reads s else s.tdiState port
    else s.tdiMissing port)

/-- The registers whose values a lock freezes (R437), by their first field and instance. -/
def frozenRegs (c : Nat) : List (Fld × Nat × Nat) :=
  [(.HTI_CTX_EN, c, 0), (.GORE_BRIDLE_MIB, c, 0), (.GORE_SHARE_WEIGHT, c, 0), (.CTL_SES_CTX_MAX_SESS, c, 0), (.TXT_CTX_MAX_MIB, c, 0),
    (.DEC_CTX_MAX_STREAMS, c, 0), (.RCL_CTX_MAX_ENTRIES, c, 0), (.SHP_HPOL_A_MODE, c, 0), (.SHP_HPOL_B_RATE2, c, 0), (.MTR_COMP_TAG, c, 0)] ++
    ((List.range 8).map fun v => (.SHP_CTXQ_RATE, c, v)) ++ (List.range 7).map fun v => (.SHP_RPOL_MODE, v + 1, c)
/-- The interface report (R436): two MMIO ranges, the context's 16 pages of BAR2 and its backed BAR4 area, and the frozen values as
device-specific information. MSI-X, LNR and TPH controls and the reported addresses are free. -/
def State.tdiReport (s : State) (c : Nat) : Nat :=
  let vals := (frozenRegs c).map fun p => s.regWord p.1.info.blk (p.1.offset p.2.1 p.2.2)
  let n := 8 * vals.length
  let f (i : Nat) : Nat := s.free / 2 ^ (64 * i) % 2 ^ 64
  packBytes [(0, 52 + n), (4, f 0 % 2 ^ 16), (8, f 1 % 2 ^ 16), (10, f 2 % 2 ^ 16), (12, f 3 % 2 ^ 32), (16, 2),
    (20, f 4), (28, 16), (32, 2 * 2 ^ 16), (36, f 5), (44, 256 * s.rd .GORE_BRIDLE_EFF_MIB c), (48, 4 * 2 ^ 16), (52, n)] +
    packWords 8 vals * 2 ^ (8 * 56)
/-- TDISP_GET_REQUEST: version, capabilities, the report of a locked interface (R436), the state; any other is an error. The answers list the
seven requests of R435; the other capabilities are free. -/
def tdispGet (port c kind : Nat) (s : State) : State :=
  match kind with
  | 0 => s.tdisp port 1 2 0x1001
  | 1 =>
    let f := s.free / 2 ^ 32
    (s.tdisp port 2 28 (packBytes [(0, f % 2 ^ 32), (4, 0xFE), (20, f / 2 ^ 32 % 2 ^ 16), (25, f / 2 ^ 48 % 2 ^ 24)])).tickFree
  | 2 =>
    if s.locked c then
      (s.tdisp port 4 (56 + 8 * (frozenRegs c).length) (s.tdiReport c)).tickFree
    else s.tdiState port
  | 3 => s.tdisp port 5 1 (s.rd .SEC_CTX_TDI c - 1)
  | _ => s.tdispError port 7
def execTdispGetRequest (port session ctx kind : Nat) (s : State) : Host.Outcome State Fault Refusal :=
  .next (s.inSession port session fun _ =>
    if ctx < 64 && s.port ctx = port && s.rd .SEC_CTX_TDI ctx != 0 then tdispGet port ctx kind s else s.tdiMissing port)

/-! ### Secure procedures (R425 to R429, R445) -/

/-- A procedure that R429 refuses: AUTH_FAIL with a CAUSE that no rule gives (log 103). -/
def State.refuseProc (s : State) (ch : Nat) : State := (s.reply ch .authFail (s.free % 2 ^ 16) 0 0).tickFree

/-- SVN_COMMIT (R426): the counter never falls. -/
def execSvnCommit (chan : Nat) (s : State) : Host.Outcome State Fault Refusal :=
  .next (if 64 ≤ chan then s.procedure chan 1 fun _ s =>
      if s.on .SEC_BOOT_STS_RECOVERY then s.refuseProc chan
      else
        let s := s.wr .SEC_SVN_COUNTER 0 0 (max (s.rd .SEC_SVN_COUNTER) (s.rd .SEC_BOOT_STS_SVN_RUNNING))
        s.reply chan .ok 0 0 0
    else s)

/-- FW_STAGE (R429, R445, R525): chunks in order from 0; `good` is what the verification of the whole copy finds. -/
def fwStage (ch : Nat) (good : Bool) (c : Chan) (s : State) : State :=
  let copy := c.byte 4
  let last := bitAt (c.byte 5) 0
  let off := c.num 8 4
  let total := c.num 12 4
  let n := c.len - 16
  let have_ := match s.sec.stage with | some g => if g.copy = copy && g.total = total then g.len else 0 | none => 0
  if !s.on .SEC_BOOT_STS_RECOVERY && copy = s.rd .SEC_BOOT_STS_COPY then s.refuseProc ch
  else if s.on .CTL_PIN_STS_SPI_GNT then (s.setSec { s.sec with stage := none }).reply ch .retryLater (hintMs 10) 0 0
  else if off != have_ || off + n > total then (s.setSec { s.sec with stage := none }).reply ch .reservedNonzero 8 0 0
  else
    let s := s.emit (.nor copy off n (tileField c.req 16 n))
    let len := off + n
    if last then
      let s := s.setSec { s.sec with stage := none }
      if good && len = total then s.reply ch .ok 0 0 0
      else (s.emit (.nor copy 0 0 0)).reply ch .authFail 2 0 0
    else (s.setSec { s.sec with stage := some ⟨copy, total, len⟩ }).reply ch .ok 0 0 0
def execFwStage (chan : Nat) (good : Bool) (s : State) : Host.Outcome State Fault Refusal :=
  .next (if 64 ≤ chan then s.procedure chan 2 (fwStage chan good) else s)

/-- IMPORT_KEY_SET: refused while debug is unlocked (R440). -/
def execImportKeySet (chan : Nat) (s : State) : Host.Outcome State Fault Refusal :=
  .next (if 64 ≤ chan then s.procedure chan 3 fun c s =>
      if s.on .SEC_DEBUG_STATE then s.refuseProc chan else (s.setImport (c.byte 4) (some (c.num 8 32))).reply chan .ok 0 0 0
    else s)

/-- FABRIC_KEY_SET: as JOB_KEY_SET with FABRIC. -/
def execFabricKeySet (chan : Nat) (s : State) : Host.Outcome State Fault Refusal :=
  .next (if 64 ≤ chan then s.procedure chan 4 fun c s =>
      let i := c.byte 4
      if Map.has s.sec.fabric i then s.reply chan .keyFail (keyCause i true 1) 0 0
      else ((s.setFabric i (c.num 12 32) (c.num 8 4) (bitAt (c.byte 5) 0)).bump .SEC_CNT_COUNT 0 0 1).reply chan .ok 0 0 0
    else s)

/-- OWNER_TRANSFER: signed by the current owner, over the two hashes. The key itself is not held, only its hash: whether the
signature verifies under a key with that hash is what firmware finds. -/
def execOwnerTransfer (chan : Nat) (good : Bool) (s : State) : Host.Outcome State Fault Refusal :=
  .next (if 64 ≤ chan then s.procedure chan 5 fun c s =>
      if good && s.sec.owner.isSome then
        let s := s.setSec { s.sec with owner := some (c.num 4 48), manager := some (c.num 52 48) }
        ((s.wr .SEC_OWNER_ENROLLED 0 0 1).wr .SEC_OWNER_MANAGER 0 0 1).reply chan .ok 0 0 0
      else s.refuseProc chan
    else s)

/-- DEBUG_UNLOCK (R440): a nonce, or a token over SEC_ID and the nonce that verifies under the firmware root. -/
def debugUnlock (ch : Nat) (good : Bool) (c : Chan) (s : State) : State :=
  if c.byte 4 = 0 then
    let n := s.free % 2 ^ 384
    ((s.setSec { s.sec with nonce := some n }).tickFree).reply ch .ok 0 48 n
  else if good && s.sec.nonce.isSome then (s.unlockDebug.winch s).reply ch .ok 0 0 0
  else (s.setSec { s.sec with nonce := none }).refuseProc ch
def execDebugUnlock (chan : Nat) (good : Bool) (s : State) : Host.Outcome State Fault Refusal :=
  .next (if 64 ≤ chan then s.procedure chan 6 (debugUnlock chan good) else s)

/-- ZEROIZE (R429): the answer is written first, then the WARM follows. -/
def zeroize (ch : Nat) (s : State) : State :=
  let s := (List.range 64).foldl (fun s c => s.eraseKeys c) s
  let s := (s.dropFabric 0).dropFabric 1
  let s := s.wrAll .SEC_CTX_STORAGE (instances 64 1) 0
  let s := s.setSec { s.sec with storage := [], owner := none, manager := none }
  let s := (s.wr .SEC_OWNER_ENROLLED 0 0 0).wr .SEC_OWNER_MANAGER 0 0 0
  let s := { s with boot := { s.boot with bank0 := ⟨false, 0, []⟩, bank1 := ⟨false, 0, []⟩ } }
  let s := (s.wr .NVM_SS_STS_GROUPS 0 0 0).wr .NVM_SS_USE_ENTRIES 0 0 0
  s.reply ch .ok 0 0 0
def execZeroize (chan : Nat) (s : State) : Host.Outcome State Fault Refusal :=
  .next (if 64 ≤ chan then s.procedure chan 7 fun _ s => zeroize chan s else s)

end Sys2Proof.Machine
end

