-- ==== Sys2Proof/Machine/Mailboxes.lean ====
section
/-! DEFINITION. Mailboxes, doorbell words, event rings and fault rings at work (spec/16), RESET_CAUSE (spec/18 R493). -/

namespace Sys2Proof.Machine

/-! ### Procedures of the non-secure channels (R445) -/

/-- MB_INFO. -/
def execMbInfo (chan : Nat) (s : State) : Host.Outcome State Fault Refusal :=
  .next (if chan < 64 then s.procedure chan 1 fun _ s =>
      s.reply chan .ok 0 56 (packBytes [(0, s.regWord .SEC 8 % 2 ^ 16), (4, s.sec.version % 2 ^ 32), (8, (Map.find s.sec.meas 2).getD 0)])
    else s)
/-- MB_ECHO. -/
def execMbEcho (chan : Nat) (s : State) : Host.Outcome State Fault Refusal :=
  .next (if chan < 64 then s.procedure chan 2 fun c s => s.reply chan .ok 0 (c.len - 4) (c.num 4 (c.len - 4)) else s)
/-- FAULT_ARCHIVE_READ (R457): records that were overwritten are skipped. -/
def archiveRead (chan : Nat) (c : Chan) (s : State) : State :=
  let oldest := s.mbx.archNext - s.mbx.archive.length
  let l := (s.mbx.archive.drop (c.num 4 4 - oldest)).take (c.byte 8)
  s.reply chan .ok 0 (12 + 64 * l.length)
    (packBytes [(0, l.length), (4, oldest % 2 ^ 32), (8, s.mbx.archNext % 2 ^ 32), (12, packWords 64 (l.map fltBytes))])
def execFaultArchiveRead (chan : Nat) (s : State) : Host.Outcome State Fault Refusal :=
  .next (if chan < 64 then s.procedure chan 3 (archiveRead chan) else s)
/-- RESET_CAUSE (R493). -/
def resetCause (chan : Nat) (s : State) : State :=
  let b := s.boot
  let failed := s.on .CTL_RST_CAUSE_FAILED
  let capture := if failed then
      [(20, s.rd .CTL_RST_CAUSE_FAIL_DIE), (21, b.failUnit), (24, b.failCode % 2 ^ 32), (28, b.failRt % 2 ^ 64), (36, b.failHti % 2 ^ 64)]
    else []
  s.reply chan .ok 0 44 (packBytes ([(0, s.rd .CTL_RST_CAUSE_LAST), (1, b2n failed), (4, s.rd .CTL_RST_CAUSE_WARMS),
    (8, s.rd .CTL_RST_CAUSE_SOFTS), (12, b.resetAt % 2 ^ 64)] ++ capture))
def execResetCause (chan : Nat) (s : State) : Host.Outcome State Fault Refusal :=
  .next (if chan < 64 then s.procedure chan 4 fun _ s => resetCause chan s else s)

/-! ### Conversations (R441 to R444, R446) -/

/-- An access to a secure channel that R428 refuses: as an offset without a register, and counted. -/
def State.refusePath (s : State) (port off : Nat) : State :=
  (s.errlog kUnmapped 0 (port % 2) 0 off).bump .SEC_CNT_COUNT 11 0 1
/-- HTI_W_MBREQ_SEAL: the seal word of a context's channel, or of a secure one; `port` as in a window. -/
def mbreqSeal (port chan value : Nat) (s : State) : State :=
  if chan < 64 then s.window port chan 0x2000 fun s => s.seal chan 0 value
  else s.hostWrite .MBX fun s =>
    if s.secureOk port ((s.chan chan).byte 0) then s.seal chan 0 value
    else s.refusePath port (0x510000 + 0x2000 * (chan - 64))
def execHtiWMbreqSeal (port chan value : Nat) (s : State) : Host.Outcome State Fault Refusal :=
  .next (if port < 4 && chan < 72 then mbreqSeal port chan value s else s)

/-- MCTP_SECURE_MESSAGE: the seal word and the data in one message; a held channel keeps its request. -/
def mctpMessage (k value data : Nat) (s : State) : State :=
  let ch := 64 + k
  let len := bitsOf value 11 0
  if !s.spdmOn 2 then s
  else if !s.secureOk 4 (data % 256) then s.bump .SEC_CNT_COUNT 11 0 1
  else if s.chanBusy ch || s.chanFull ch || len = 0 || len > 1024 then s.seal ch 1 value
  else
    let c := s.chan ch
    (s.setChan ch { c with req := data % 2 ^ (8 * len) + c.req / 2 ^ (8 * len) * 2 ^ (8 * len) }).seal ch 1 value
def execMctpSecureMessage (k value data : Nat) (s : State) : Host.Outcome State Fault Refusal :=
  .next (if k < 8 then mctpMessage k value data s else s)

/-- MAILBOX_RESPONSE_READY: the answer of a procedure, or the one with which R445 turns the request away. Over MCTP the answer
goes out at once; the WARM of ZEROIZE follows its answer. -/
def responseReady (ch : Nat) (s : State) : State :=
  let c := s.chan ch
  let s := if c.ans.isNone then
      match s.reqFault ch with
      | some (st, cause) => s.reply ch st cause 0 0
      | none => s
    else s
  match (s.chan ch).ans with
  | none => s
  | some (n, data) =>
    let mctp := c.path = 1 && decide (64 ≤ ch)
    let s := s.setChan ch { c with len := 0, ans := none, rsp := data % 2 ^ (8 * n) + c.rsp / 2 ^ (8 * n) * 2 ^ (8 * n) }
    let s := (s.setRsp ch (!mctp) n c.token).setBusy ch false
    let s := if mctp then s.emit (.answer 4 (ch - 64) n data) else if ch < 64 then s.signal ch 0 else s
    if 64 ≤ ch && c.byte 0 = 7 && data % 2 ^ 16 = 0 then s.warm 4 else s
def execMailboxResponseReady (chan : Nat) (s : State) : Host.Outcome State Fault Refusal :=
  .next (if chan < 72 && (s.chan chan).len != 0 then responseReady chan s else s)

/-- A read in a context's window: the value, or ones in every lane (R16, R44, R438). -/
def State.windowRead (s : State) (port ctx off bytes : Nat) (f : State → State × Nat) : State :=
  let ones := Out.busRead (2 ^ (8 * bytes) - 1)
  if !s.blkOn .HTIW then s.emit ones
  else if s.port ctx != port % 2 then (s.errlog kWrongPort ctx (port % 2) 2 off).emit ones
  else if s.rd .SEC_CTX_TDI ctx = 3 && !(decide (2 ≤ port) && s.teeOn (port % 2)) then (s.bump .SEC_CNT_COUNT 11 0 1).emit ones
  else (f s).1.emit (.busRead (f s).2)
/-- The read of the response seal clears FULL in the same action. -/
def State.readSeal (s : State) (ch : Nat) : State × Nat :=
  (if ch < 64 then s.wr .HTI_W_MBRSP_FULL ch 0 0 else s.wr .MBX_S_RSP_FULL (ch - 64) 0 0, s.rspWord ch)
/-- HTI_W_MBRSP_READ. -/
def mbrspRead (port chan : Nat) (s : State) : State :=
  if chan < 64 then s.windowRead port chan 0x2008 4 fun s => s.readSeal chan
  else if !s.blkOn .MBX then s.emit (.busRead (2 ^ 32 - 1))
  else if s.securePath port then (s.readSeal chan).1.emit (.busRead (s.readSeal chan).2)
  else (s.bump .SEC_CNT_COUNT 11 0 1).emit (.busRead 0)
def execHtiWMbrspRead (port chan : Nat) (s : State) : Host.Outcome State Fault Refusal :=
  .next (if port < 4 && chan < 72 then mbrspRead port chan s else s)

/-! ### Doorbell words (R450, R451) -/

/-- MBX_SUM_ACK. -/
def sumAck (p value : Nat) (s : State) : State :=
  let b := s.rd .MBX_SUM_BITS p
  s.wr .MBX_SUM_BITS p 0 (b - Nat.land b value)
def execMbxSumAck (port value : Nat) (s : State) : Host.Outcome State Fault Refusal :=
  .next (if port < 2 then s.hostWrite64 .MBX_SUM_BITS port value (sumAck port value) else s)
/-- DOORBELL_WORD_WRITE_DONE. -/
def wordDone (p : Nat) (s : State) : State :=
  if !bitAt s.mbx.sumBusy p then s
  else
    let again := bitAt s.mbx.sumPend p
    let s := s.setMbx { s.mbx with sumBusy := setBitN s.mbx.sumBusy p false, sumPend := setBitN s.mbx.sumPend p false }
    let s := (s.bump .MBX_CNT_COUNT 2 0 1).emit (.irq p none (s.rd .MBX_PORT_CFG_SUM_VEC p))
    if again then s.sumWrite p else s
def execDoorbellWordWriteDone (port : Nat) (s : State) : Host.Outcome State Fault Refusal :=
  .next (if port < 2 then wordDone port s else s)
/-- DOORBELL_WORD_WRITE_FAIL. -/
def wordFail (p : Nat) (s : State) : State :=
  if !bitAt s.mbx.sumBusy p then s
  else
    let s := s.setMbx { s.mbx with sumBusy := setBitN s.mbx.sumBusy p false }
    (s.wr (if p = 0 then .MBX_MODE_SUM_FAIL0 else .MBX_MODE_SUM_FAIL1) 0 0 1).refreshMode p
def execDoorbellWordWriteFail (port : Nat) (s : State) : Host.Outcome State Fault Refusal :=
  .next (if port < 2 then wordFail port s else s)

/-! ### Event rings (R452, R541) -/

/-- Write what the backlog holds while there is room. -/
def State.drainAll (s : State) (c : Nat) : State := s.drainEvts c ((s.evt c).backlog.length + 1)
/-- HTI_W_EVT_ENABLE: a write of HTI_W_EVT_CFG with EN = 1. -/
def evtEnable (c value : Nat) (s : State) : State :=
  let log := fieldOf .HTI_W_EVT_CFG_LOG value
  if s.on .HTI_W_EVT_CFG_EN c then
    if log != s.rd .HTI_W_EVT_CFG_LOG c then s.errlog kQueueBusy c (s.port c) 2 0x2028 else s
  else
    let s := (s.wr .HTI_W_EVT_CFG_LOG c 0 log).wr .HTI_W_EVT_CFG_EN c 0 1
    if log < 4 || log > 12 then s.wr .HTI_W_EVT_CFG_FAULT c 0 1
    else
      let s := s.setEvt c { s.evt c with on := true, log := log, base := s.rd .HTI_W_EVT_BASE_BASE c * 4096, phase := true, last := none }
      ((s.wr .HTI_W_EVT_IDX_HEAD c 0 0).wr .HTI_W_EVT_IDX_TAIL c 0 0).drainAll c
def execHtiWEvtEnable (port ctx value : Nat) (s : State) : Host.Outcome State Fault Refusal :=
  .next (if ctx < 64 && bitAt value 4 then s.window port ctx 0x2028 (evtEnable ctx value) else s)
/-- HTI_W_EVT_DISABLE: a write with EN = 0. -/
def evtDisable (c value : Nat) (s : State) : State :=
  let s := s.wr .HTI_W_EVT_CFG_LOG c 0 (fieldOf .HTI_W_EVT_CFG_LOG value)
  ((s.wr .HTI_W_EVT_CFG_EN c 0 0).wr .HTI_W_EVT_CFG_FAULT c 0 0).evtOff c
def execHtiWEvtDisable (port ctx value : Nat) (s : State) : Host.Outcome State Fault Refusal :=
  .next (if ctx < 64 && !bitAt value 4 then s.window port ctx 0x2028 (evtDisable ctx value) else s)
/-- HTI_W_EVT_HEAD_WRITE. -/
def evtHead (c value : Nat) (s : State) : State :=
  let h := fieldOf .HTI_W_EVT_IDX_HEAD value
  let e := s.evt c
  let n := 2 ^ e.log
  let head := s.rd .HTI_W_EVT_IDX_HEAD c
  let tail := s.rd .HTI_W_EVT_IDX_TAIL c
  let drop (kind : Nat) : State := (s.errlog kind c (s.port c) 2 0x2030).bump .HTI_CNT_COUNT c 5 1
  if !e.on then drop kDbClosed
  else if n ≤ h || (h + n - head) % n > (tail + n - head) % n then drop kDbRange
  else
    let s := s.wr .HTI_W_EVT_IDX_HEAD c 0 h
    (if h = tail then s else s.signal c 1).drainAll c
def execHtiWEvtHeadWrite (port ctx value : Nat) (s : State) : Host.Outcome State Fault Refusal :=
  .next (if ctx < 64 then s.window port ctx 0x2030 (evtHead ctx value) else s)
/-- EVENT_RECORD_WRITE_FAIL: the last record written goes back to the head of the backlog. -/
def evtFail (c : Nat) (s : State) : State :=
  let e := s.evt c
  match e.last with
  | none => s
  | some (r, d) =>
    if !e.on then s
    else
      let n := 2 ^ e.log
      let s := s.wr .HTI_W_EVT_IDX_TAIL c 0 ((s.rd .HTI_W_EVT_IDX_TAIL c + n - 1) % n)
      let s := s.setEvt c { e with backlog := r :: e.backlog, dropped := e.dropped + d }
      (s.evtOff c).wr .HTI_W_EVT_CFG_FAULT c 0 1
def execEventRecordWriteFail (ctx : Nat) (s : State) : Host.Outcome State Fault Refusal :=
  .next (if ctx < 64 then evtFail ctx s else s)

/-! ### Fault rings (R448, R455) -/

/-- HTI_W_FLT_HEAD_WRITE. -/
def fltHead (c value : Nat) (s : State) : State :=
  let s := s.wr .HTI_W_FLT_IDX_HEAD c 0 (fieldOf .HTI_W_FLT_IDX_HEAD value)
  if s.rd .HTI_W_FLT_IDX_HEAD c = s.rd .HTI_W_FLT_IDX_NEXT c then s else s.signal c 2
def execHtiWFltHeadWrite (port ctx value : Nat) (s : State) : Host.Outcome State Fault Refusal :=
  .next (if ctx < 64 then s.window port ctx 0x2038 (fltHead ctx value) else s)
/-- MBX_CNT_CLR (R29). -/
def execMbxCntClr (value : Nat) (s : State) : Host.Outcome State Fault Refusal :=
  .next (s.hostWrite .MBX fun s => if bitAt value 0 then s.zeroAll .MBX_CNT_COUNT else s)

end Sys2Proof.Machine
end

