-- ==== Sys2Proof/Machine/Pins.lean ====
section
/-! DEFINITION. Pins (spec/20): drives, pool resets, the SPI handshake, the button, I3C, JTAG; host and pool links (spec/02 R41,
spec/11 R321, R322, R328, spec/19 R502). -/

namespace Sys2Proof.Machine

/-- The control island runs: from the power rails on, in P3 too. -/
def State.alive (s : State) : Bool := s.boot.stage != .off && s.boot.stage != .rails
def State.setPins (s : State) (p : Pins) : State := { s with pins := p }

/-! ### Drives (R521) -/

/-- The drive's reset is asserted and its clock stops; a wake that waits for it is withdrawn. -/
def State.driveDown (s : State) (j : Nat) : State :=
  let s := (s.wrBit .CTL_PIN_STS_FLASH_PERST 0 j true).setPins { s.pins with refclk := setBitN s.pins.refclk j false }
  let s := s.setPwr { s.pwr with wakes := s.pwr.wakes.filter fun w => !(w.load = .flash && w.num = j) }
  s.refreshDrogue.unadmit .flash j
/-- Tier objects of a flash port. -/
def driveObjects (j : Nat) : List Nat := [32 + 4 * j, 33 + 4 * j, 34 + 4 * j, 35 + 4 * j]
/-- FLASH_PRSNT_CHANGE: a debounced level. -/
def flashPrsnt (j : Nat) (present : Bool) (s : State) : State :=
  if !s.alive || s.boot.stage = .p3 || s.bit .CTL_PIN_STS_FLASH_PRSNT j = present then s
  else
    let old := s
    let s := (s.wrBit .CTL_PIN_STS_FLASH_PRSNT 0 j present).bump .CTL_PIN_CNT_COUNT 3 0 1
    if present then (if s.boot.stage = .configured then s.askWake .flash j 24 else s)
    else ((driveObjects j).foldl (fun s o => s.failObject o 2 false) (s.driveDown j)).winch old
def execFlashPrsntChange (dt port : Nat) (present : Bool) (s : State) : Host.Outcome State Fault Refusal :=
  .next (let s := s.pass dt; if port < 8 then flashPrsnt port present s else s)
/-- FLASH_PERST_RELEASE. -/
def flashRelease (j : Nat) (s : State) : State :=
  if s.on .CTL_READY_CONTROL && s.bit .CTL_PIN_STS_FLASH_PRSNT j && bitAt s.pins.refclk j then s.wrBit .CTL_PIN_STS_FLASH_PERST 0 j false else s
def execFlashPerstRelease (dt port : Nat) (s : State) : Host.Outcome State Fault Refusal :=
  .next (let s := s.pass dt; if port < 8 then flashRelease port s else s)
/-- FLASH_BRINGUP_RETRY: a present drive without a link. -/
def flashRetry (j : Nat) (s : State) : State :=
  let linked := (driveObjects j).any fun o => s.on .TIER_OBJ_A_UP o
  let asked := s.pwr.wakes.any fun w => w.load = .flash && w.num = j
  if s.boot.stage = .configured && s.bit .CTL_PIN_STS_FLASH_PRSNT j && !linked && !asked then (s.driveDown j).askWake .flash j 24 else s
def execFlashBringupRetry (dt port : Nat) (s : State) : Host.Outcome State Fault Refusal :=
  .next (let s := s.pass dt; if port < 8 then flashRetry port s else s)

/-! ### Host and pool links -/

/-- The mode in which a host port trains: CXL where MODE allows it and the partner speaks it. A retraining keeps the mode. -/
def State.linkMode (s : State) (p : Nat) (cxl : Bool) : Nat :=
  if s.on .HTI_PORT_STS_UP p then s.rd .HTI_PORT_STS_MODE p else b2n (cxl && s.on .HTI_PORT_CTL_MODE p)
/-- The highest RATE that SPEED_MAX lets a host port train at in a mode: CXL 3.1 goes up to 64 GT/s (R41). -/
def State.rateCap (s : State) (p mode : Nat) : Nat :=
  let m := s.rd .HTI_PORT_CTL_SPEED_MAX p
  min (if m = 0 then 5 else 5 - m) (if mode = 1 then 4 else 5)
/-- HOST_PORT_LINK_CHANGE: RATE as HTI_PORT_STS codes it, 0 down; `cxl` says that the link partner speaks CXL. Lanes added by L0p ask
for power. -/
def hostLink (p rate width : Nat) (cxl : Bool) (s : State) : State :=
  let waiting := s.pwr.wakes.any fun w => w.load = .host && w.num = p && w.deci = 256
  if (s.boot.stage != .configured && s.boot.stage != .recovery) || waiting then s
  else if rate = 0 then
    (((s.wr .HTI_PORT_STS_UP p 0 0).wr .HTI_PORT_STS_MODE p 0 0).wr .HTI_PORT_STS_RATE p 0 0).wr .HTI_PORT_STS_WIDTH p 0 0
  else if s.rateCap p (s.linkMode p cxl) < rate || !([1, 4, 8, 16].contains width) then s
  else
    let was := s.rd .HTI_PORT_STS_WIDTH p
    let up := s.on .HTI_PORT_STS_UP p
    let mode := s.linkMode p cxl
    let s := (((s.wr .HTI_PORT_STS_UP p 0 1).wr .HTI_PORT_STS_MODE p 0 mode).wr .HTI_PORT_STS_RATE p 0 rate).wr .HTI_PORT_STS_WIDTH p 0 width
    let s := s.unadmit .host p
    if up && decide (was < width) then s.askWake .host p (16 * (width - was)) else s
def execHostPortLinkChange (port rate width : Nat) (cxl : Bool) (s : State) : Host.Outcome State Fault Refusal :=
  .next (if port < 2 then hostLink port rate width cxl s else s)

/-- A pool link goes down: a root port's objects fail (R164), an endpoint's borrowers have released every extent (R321). -/
def State.poolDown (s : State) (p : Nat) : State :=
  if !s.on .POOL_PORT_STS_UP p then s
  else
    let old := s
    let s := (((s.wr .POOL_PORT_STS_UP p 0 0).wr .POOL_PORT_STS_RATE p 0 0).wr .POOL_PORT_STS_WIDTH p 0 0).wrBit .CTL_READY_POOL 0 p false
    if s.rd .POOL_PORT_STS_MODE p = 2 then
      ((s.pool.extents.filter fun e => e.port = p).foldl State.freeExtent s).winch old
    else
      let objs := (List.range 32).filter fun o => s.on .TIER_OBJ_A_PRESENT o && s.rd .TIER_OBJ_A_PORT o = p
      (objs.foldl (fun s o => s.failObject o 2 false) s).winch old
/-- A pool port trains. -/
def State.poolUp (s : State) (p rate width : Nat) : State :=
  let mode := s.rd .POOL_PORT_STS_MODE p
  let s := (((s.wr .POOL_PORT_STS_UP p 0 1).wr .POOL_PORT_STS_RATE p 0 rate).wr .POOL_PORT_STS_WIDTH p 0 width).wrBit .CTL_READY_POOL 0 p true
  let s := s.unadmit .pool p
  if mode = 2 then s
  else
    let s := s.wrBit .CTL_PIN_STS_POOL_PERST 0 p false
    let objs := (List.range 32).filter fun o => s.on .TIER_OBJ_A_PRESENT o && s.rd .TIER_OBJ_A_PORT o = p && !s.on .TIER_OBJ_A_FAILED o
    (objs.foldl (fun s o => s.wr .TIER_OBJ_A_UP o 0 1) s).refreshTierReady
/-- The highest RATE of a pool port: SPEED_MAX as it stood at the last WARM (R322). -/
def State.poolCap (s : State) (p : Nat) : Nat := 4 - (Map.find s.boot.lds (4 + p)).getD 0
/-- POOL_PORT_LINK_CHANGE: a mode-0 port stays idle, and an endpoint whose POOL_PERST_N is asserted stays down (R523). -/
def poolLink (p rate width : Nat) (up : Bool) (s : State) : State :=
  let mode := s.rd .POOL_PORT_STS_MODE p
  let waiting := s.pwr.wakes.any fun w => w.load = .pool && w.num = p
  if s.boot.stage != .configured || mode = 0 || waiting then s
  else if !up then s.poolDown p
  else if mode = 2 && s.bit .CTL_PIN_STS_POOL_PERST p then s
  else if 1 ≤ rate && rate ≤ s.poolCap p && (width = 4 || width = 8) then s.poolUp p rate width
  else s
def execPoolPortLinkChange (port rate width : Nat) (up : Bool) (s : State) : Host.Outcome State Fault Refusal :=
  .next (if port < 4 then poolLink port rate width up s else s)
/-- POOL_PERST_N_INPUT: of an endpoint port. -/
def poolPerst (p : Nat) (asserted : Bool) (s : State) : State :=
  if s.boot.stage = .configured && s.rd .POOL_PORT_STS_MODE p = 2 then
    let s := s.wrBit .CTL_PIN_STS_POOL_PERST 0 p asserted
    if asserted then s.poolDown p else s
  else s
def execPoolPerstNInput (port : Nat) (asserted : Bool) (s : State) : Host.Outcome State Fault Refusal :=
  .next (if port < 4 then poolPerst port asserted s else s)
/-- LOGICAL_DEVICE_BIND: an unbind frees the revoked ranges of the device (R328). -/
def ldBind (p ld : Nat) (bind : Bool) (s : State) : State :=
  if s.rd .POOL_PORT_STS_MODE p = 2 && s.on .POOL_PORT_STS_UP p && ld < s.lds p then
    let s := s.wrBit .POOL_PORT_STS_BOUND p ld bind
    if bind then s
    else (s.pool.extents.filter fun e => e.port = p && e.ld = ld && e.revoked).foldl State.freeExtent s
  else s
def execLogicalDeviceBind (port ld : Nat) (bind : Bool) (s : State) : Host.Outcome State Fault Refusal :=
  .next (if port < 4 then ldBind port ld bind s else s)

/-! ### SPI (R524, R525) -/

/-- SPI_REQ_ASSERT: the grant follows outside drive periods; the boot ROM's reads are one. -/
def execSpiReqAssert (s : State) : Host.Outcome State Fault Refusal :=
  .next (if s.alive then
      (let s := s.wr .CTL_PIN_STS_SPI_REQ 0 0 1; if s.boot.stage = .rom then s else s.grantSpi)
    else s)
/-- SPI_REQ_DEASSERT. -/
def execSpiReqDeassert (s : State) : Host.Outcome State Fault Refusal :=
  .next (if s.alive then (s.wr .CTL_PIN_STS_SPI_REQ 0 0 0).wr .CTL_PIN_STS_SPI_GNT 0 0 0 else s)

/-! ### The button and the LEDs (R364 to R366, R528) -/

/-- SVC_ATTN_PRESS: a whole press; `held` says that it lasted 1 s. A refused one blinks the service LED. -/
def attnPress (held : Bool) (s : State) : State :=
  if !(s.boot.stage = .configured || s.boot.stage = .recovery || s.boot.stage = .p3) then s
  else
    let s := s.bump .CTL_PIN_CNT_COUNT 0 0 1
    if !held then s
    else if s.evacuating then s
    else if s.on .RING_EVAC_BTN_EN && s.rd .RING_STS_MEMBER = 1 then s.startEvac 0 [] (s.on .RING_EVAC_MODE) (s.rd .RING_EVAC_LIMIT_S)
    else
      let old := s.pins.blink.getD (s.rd .RING_LED_SERVICE)
      (s.setPins { s.pins with blink := some old }).wr .RING_LED_SERVICE 0 0 1
def execSvcAttnPress (dt : Nat) (held : Bool) (s : State) : Host.Outcome State Fault Refusal := .next (attnPress held (s.pass dt))
/-- SERVICE_LED_BLINK_END. -/
def blinkEnd (s : State) : State :=
  match s.pins.blink with
  | some v => (s.setPins { s.pins with blink := none }).wr .RING_LED_SERVICE 0 0 v
  | none => s
def execServiceLedBlinkEnd (dt : Nat) (s : State) : Host.Outcome State Fault Refusal := .next (blinkEnd (s.pass dt))

/-! ### I3C, JTAG, the counters (R526, R530, R29) -/

/-- I3C_ENTDAA: a target that answers and has no address takes one. -/
def execI3cEntdaa (addr : Nat) (s : State) : Host.Outcome State Fault Refusal :=
  .next (let st := s.boot.stage
    if (st = .waitPerst || st = .configured || st = .recovery || st = .p3) && !s.pwr.lockout && s.pins.i3c.isNone then
      s.setPins { s.pins with i3c := some (addr % 128) }
    else s)
/-- JTAG_TAP_OPERATION: while debug is locked every code but IDCODE acts as BYPASS, a shift by one bit. What DBG answers is not
given: a free value (log 141). -/
def tapOp (op : TapOp) (s : State) : State :=
  match op with
  | .bypass d => s.emit (.serial 2 (2 * d))
  | .idcode => s.emit (.serial 2 Config.idcode)
  | .other _ d => if s.rd .SEC_DEBUG_STATE = 0 then s.emit (.serial 2 (2 * d)) else s.tickFree.emit (.serial 2 s.free)
def execJtagTapOperation (op : TapOp) (s : State) : Host.Outcome State Fault Refusal := .next (if s.alive then tapOp op s else s)
/-- CTL_PIN_CNT_CLR. -/
def execCtlPinCntClr (value : Nat) (s : State) : Host.Outcome State Fault Refusal :=
  .next (s.hostWrite .CTL fun s => if bitAt value 0 then s.zeroAll .CTL_PIN_CNT_COUNT else s)

end Sys2Proof.Machine
end

