-- ==== Sys2Proof/Machine/Power.lean ====
section
/-! DEFINITION. Power (spec/19): the drogue (R502 to R504), the limiter (R505, R506), temperature (R508, R510), the input rail
(R500), its registers, and the failures of the whole Flewick (R492, R511). -/

namespace Sys2Proof.Machine

/-- The part has its core rails (R462 step 2). -/
def State.powered (s : State) : Bool := s.boot.stage != .off && s.boot.stage != .rails

/-! ### The drogue (R503) -/

/-- Budget in watts per µs. -/
def State.wakeRate (s : State) : Rat := (s.rd .PWR_STEP_WATTS : Rat) / ((max (s.rd .PWR_STEP_WINDOW_US) 1 : Nat) : Rat)
/-- The debt is paid up to now. -/
def State.payDebt (s : State) : State :=
  let t := s.rd .CTL_RT_TIME_COUNT
  let d := s.pwr.debt - s.wakeRate * ((t - s.pwr.paidAt : Nat) : Rat) / 100
  s.setPwr { s.pwr with debt := if d < 0 then 0 else d, paidAt := t }

/-- Whether an admitted load has yet to report itself ready. -/
def State.notReadyYet (s : State) (w : Wake) : Bool :=
  match w.load with
  | .stack => !s.bit .CTL_READY_T1 w.num
  | .panel | .flash => true
  | .host => !s.on .HTI_PORT_STS_UP w.num
  | .pool => !s.on .POOL_PORT_STS_UP w.num
  | .ring => !s.on .RING_PORT_STS_UP w.num
  | _ => false

/-- The root clock changes. -/
def State.setRoot (s : State) (v : Nat) : State :=
  let r := s.rd .PWR_CLK_ROOT_MHZ
  if v = r then s
  else
    let s := (s.wr .PWR_CLK_ROOT_MHZ 0 0 v).setPwr { s.pwr with rootAt := s.now }
    if v < r then s.bump .PWR_CNT_COUNT 3 0 ((r - v) / 100) else s.bump .PWR_CNT_COUNT 4 0 ((v - r) / 100)

/-- What the admission of a request starts. -/
def State.startLoad (s : State) (w : Wake) : State :=
  let s := if s.notReadyYet w then s.setPwr { s.pwr with admitted := s.pwr.admitted ++ [w] } else s
  match w.load with
  | .clock => s.setRoot (s.rd .PWR_CLK_ROOT_MHZ + 100)
  | .flash => if s.bit .CTL_PIN_STS_FLASH_PRSNT w.num then { s with pins := { s.pins with refclk := setBitN s.pins.refclk w.num true } } else s
  | _ => s

/-- DROGUE_ADMIT. -/
def drogueAdmit (s : State) : State :=
  let s := s.payDebt
  if s.pwr.debt != 0 || s.wakeHold then s
  else match s.pwr.wakes with
    | [] => s
    | w :: t =>
      let deci := s.pwr.deciRem + w.deci
      let wait := s.now - w.at_
      let s := (s.setPwr { s.pwr with wakes := t, debt := (w.deci : Rat) / 10, deciRem := deci % 10 }).refreshDrogue
      let s := (s.bump .PWR_CNT_COUNT 1 0 (deci / 10)).bump .PWR_CNT_COUNT 2 0 wait
      (s.wr .PWR_DROGUE_MAX_WAIT 0 0 (max (s.rd .PWR_DROGUE_MAX_WAIT) (min wait (2 ^ 32 - 1)))).startLoad w
def execDrogueAdmit (dt : Nat) (s : State) : Host.Outcome State Fault Refusal :=
  .next (let s := s.pass dt; if s.powered then drogueAdmit s else s)

/-- PWR_STEP_WRITE (R504): debt owed stays owed. -/
def execPwrStepWrite (value : Nat) (s : State) : Host.Outcome State Fault Refusal :=
  .next (s.hostWrite .PWR fun s => s.payDebt.putWord [.PWR_STEP_WATTS, .PWR_STEP_WINDOW_US] 0 0 value)
/-- PWR_CLK_MAX_WRITE (R512): the next limiter tick uses it. -/
def execPwrClkMaxWrite (value : Nat) (s : State) : Host.Outcome State Fault Refusal :=
  .next (s.hostWrite .PWR fun s => s.put .PWR_CLK_MAX_MHZ 0 0 (fieldOf .PWR_CLK_MAX_MHZ value))
/-- PWR_CNT_CLR (R29): the counters, MAX_WAIT and every MAX_C. -/
def execPwrCntClr (value : Nat) (s : State) : Host.Outcome State Fault Refusal :=
  .next (s.hostWrite .PWR fun s =>
    if bitAt value 0 then ((s.zeroAll .PWR_CNT_COUNT).wr .PWR_DROGUE_MAX_WAIT 0 0 0).zeroAll .PWR_TEMP_MAX_C else s)

/-! ### The limiter (R505, R506) -/

/-- Causes of PWR_STS. -/
def cDriver : Nat := 0
def cAverage : Nat := 1
def cPeak : Nat := 2
def cShed : Nat := 3
def cJunction : Nat := 4
def cHbm : Nat := 5
def cLowVin : Nat := 6
def State.setCause (s : State) (n : Nat) (b : Bool) : State := s.wrBit .PWR_STS_CAUSE 0 n b
def State.rootCeiling (s : State) : Nat := min (s.rd .PWR_CLK_MAX_MHZ) s.pwr.tceil

/-- No fast drop in the last 1 ms. -/
def State.noDrop (s : State) : Bool := match s.pwr.dropAt with | some t => decide (t + 100000 ≤ s.now) | none => true
/-- The last branch of R505 holds. -/
def State.mayStepUp (s : State) (p1 : Nat) : Bool :=
  s.rd .PWR_CLK_ROOT_MHZ < s.rootCeiling && decide (p1 + 25 ≤ s.rd .PWR_LIMIT_TDP_W) && !s.bit .PWR_STS_CAUSE cLowVin &&
    decide (s.pwr.rootAt + 10000 ≤ s.now) && s.noDrop
def State.clockAsked (s : State) : Bool := s.pwr.wakes.any fun w => w.load = .clock
def State.withdrawClock (s : State) : State :=
  (s.setPwr { s.pwr with wakes := s.pwr.wakes.filter fun w => w.load != .clock }).refreshDrogue

/-- Shed the ungated panel with the highest number (R506). -/
def State.shedPanel (s : State) : State :=
  let l := (List.range Config.panels).filter fun p => s.bit .CTL_READY_GORES p && !s.on .GORE_PANEL_GATED p && !bitAt s.pwr.shed p
  match l.getLast? with
  | none => s
  | some p =>
    let old := s
    let s := s.setPwr { s.pwr with shed := setBitN s.pwr.shed p true }
    ((s.mapItems (fun i => i.st = .running && panelOf i.gore = p) fun i => { i with preempt := true }).winch old).setCause cShed true
/-- Shed panels may be woken again. -/
def State.unshed (s : State) : State :=
  if s.pwr.shed = 0 then s
  else
    let old := s
    ((s.setPwr { s.pwr with shed := 0 }).winch old).setCause cShed false

/-- LIMITER_TICK: `p100` and `p1` are the averages of input power over 100 µs and 1 ms in W, `i10` that of the current over
10 µs in mA, `vin` that of the voltage over 10 µs in mV. -/
def limiterTick (p100 i10 p1 vin : Nat) (s : State) : State :=
  let s := ((s.wr .PWR_STS_VIN_MV 0 0 vin).wr .PWR_STS_IIN_MA 0 0 i10).wr .PWR_STS_PIN_W 0 0 p1
  let tdp := s.rd .PWR_LIMIT_TDP_W
  let s := s.setPwr { s.pwr with overs := (s.pwr.overs * 2 + b2n (decide (tdp < p1))) % 2 ^ 1000 }
  let root := s.rd .PWR_CLK_ROOT_MHZ
  let s := s.setCause cDriver (decide (s.rd .PWR_CLK_MAX_MHZ < 4800))
  let s :=
    if s.rd .PWR_LIMIT_PEAK_W < p100 || 25000 < i10 then
      let s := (s.setRoot (max (root - 400) 2400)).bump .PWR_CNT_COUNT 6 0 1
      (s.setPwr { s.pwr with dropAt := some s.now }).setCause cPeak true
    else if popcount 1000 s.pwr.overs ≥ 500 then
      (if 2400 < root then s.setRoot (root - 100) else s.shedPanel).setCause cAverage true
    else if s.rootCeiling < root then s.setRoot (max (root - 100) s.rootCeiling)
    else if s.mayStepUp p1 && !s.clockAsked then s.askWake .clock 0 240
    else s
  let s := if s.clockAsked && !s.mayStepUp p1 then s.withdrawClock else s
  let s := if s.noDrop then s.setCause cPeak false else s
  if p1 + 25 ≤ tdp then (s.setCause cAverage false).unshed else s
def execLimiterTick (dt p100 i10 p1 vin : Nat) (s : State) : Host.Outcome State Fault Refusal :=
  .next (let s := s.pass dt; if s.powered && !s.boot.diesOff then limiterTick p100 i10 p1 vin s else s)

/-! ### Temperature (R508, R510) -/

/-- A 12-bit reading in units of 0.125 °C. -/
def tempOf (code : Nat) : Int := if code % 4096 < 2048 then (code % 4096 : Nat) else ((code % 4096 : Nat) : Int) - 4096
def tempC (code : Nat) : Nat := min 255 (tempOf code / 8).toNat
def State.throttleC (s : State) (n : Nat) : Nat := if n < 44 then s.rd .PWR_THERM_J_THROTTLE_C else s.rd .PWR_THERM_H_THROTTLE_C
/-- A sensor reports. -/
def State.putTemp (s : State) (n code : Nat) : State :=
  let s := (s.wr .PWR_TEMP_TEMP n 0 code).wr .PWR_TEMP_VALID n 0 1
  s.wr .PWR_TEMP_MAX_C n 0 (max (s.rd .PWR_TEMP_MAX_C n) (tempC code))
def State.hotAt (s : State) (n : Nat) : Bool := s.on .PWR_TEMP_VALID n && decide ((8 * s.throttleC n : Int) ≤ tempOf (s.rd .PWR_TEMP_TEMP n))
def State.coolAt (s : State) (n : Nat) : Bool :=
  !s.on .PWR_TEMP_VALID n || decide (tempOf (s.rd .PWR_TEMP_TEMP n) ≤ 8 * s.throttleC n - 40)
/-- A thermal cause rises or holds. -/
def State.heat (s : State) (c : Nat) (hot : Bool) : State :=
  if !hot then s
  else if s.bit .PWR_STS_CAUSE c then s
  else (s.setCause c true).bump .PWR_CNT_COUNT 8 0 1
def State.setTceil (s : State) (v : Nat) : State :=
  if v = s.pwr.tceil then s else s.setPwr { s.pwr with tceil := v, tceilAt := s.now }

/-- THERMAL_TICK: the sensors' readings in order, none where a sensor does not report. -/
def thermalTick (temps : List (Option Nat)) (s : State) : State :=
  let s := (temps.take 52).zipIdx.foldl (fun s (p : Option Nat × Nat) => match p.1 with | some c => s.putTemp p.2 c | none => s) s
  let j := (List.range 44).any s.hotAt
  let h := (List.range 8).any fun n => s.hotAt (44 + n)
  if j || h then (((s.setTceil (max (s.pwr.tceil - 100) 2400)).heat cJunction j).heat cHbm h)
  else if (List.range 52).all s.coolAt && s.pwr.tceilAt + 1000000 ≤ s.now then
    let s := s.setTceil (min (s.pwr.tceil + 100) 4800)
    if s.pwr.tceil = 4800 then (s.setCause cJunction false).setCause cHbm false else s
  else s
def execThermalTick (dt : Nat) (temps : List (Option Nat)) (s : State) : Host.Outcome State Fault Refusal :=
  .next (let s := s.pass dt; if s.powered && !s.boot.diesOff then thermalTick temps s else s)

/-- Die of a sensor (R493). -/
def sensorDie (n : Nat) : Nat := if n < 34 then 0 else if n < 38 then 1 else if n < 42 then 2 else if n < 44 then 3 else 5
/-- THERMAL_TRIP (R510). -/
def thermalTrip (n : Nat) (s : State) : State :=
  let s := s.wholeFailure (sensorDie n) (if 44 ≤ n then n - 44 else 0) (0x100 + n) true
  (s.wr .CTL_PIN_STS_THERM_TRIP 0 0 1).setPwr { s.pwr with lockout := true }
def execThermalTrip (dt sensor : Nat) (s : State) : Host.Outcome State Fault Refusal :=
  .next (let s := s.pass dt; if s.powered && !s.boot.diesOff && sensor < 52 then thermalTrip sensor s else s)
/-- TRIP_LOCKOUT_END (R510). -/
def execTripLockoutEnd (dt : Nat) (s : State) : Host.Outcome State Fault Refusal :=
  .next (let s := s.pass dt; s.setPwr { s.pwr with lockout := false })

/-! ### Failures of the whole Flewick (R37, R511) -/

/-- WHOLE_FLEWICK_FAILURE: die, stack and code as the firmware finds them (R493). -/
def execWholeFlewickFailure (die unit code : Nat) (s : State) : Host.Outcome State Fault Refusal :=
  .next (if die < 6 && s.boot.stage != .failed then s.wholeFailure die (if die = 5 then unit % 8 else 0) (code % 2 ^ 32) false else s)
/-- REFCLK_LOSS. -/
def execRefclkLoss (s : State) : Host.Outcome State Fault Refusal :=
  .next (if s.powered && s.boot.stage != .failed then s.tickFree.tickFree.wholeFailure (s.free % 5) 0 (s.tickFree.free % 2 ^ 32) false else s)

/-! ### The input rail (R500) -/

/-- INPUT_LOW_VIN. -/
def execInputLowVin (dt : Nat) (s : State) : Host.Outcome State Fault Refusal :=
  .next (let s := s.pass dt
    if s.powered then
      (((s.setCause cLowVin true).wr .CTL_PIN_STS_PWR_ALERT 0 0 1).bump .PWR_CNT_COUNT 7 0 1).withdrawClock
    else s)
/-- LOW_VIN_CLEAR. -/
def execLowVinClear (dt : Nat) (s : State) : Host.Outcome State Fault Refusal :=
  .next (let s := s.pass dt
    if s.powered then (s.setCause cLowVin false).wr .CTL_PIN_STS_PWR_ALERT 0 0 0 else s)
/-- VIN_HIGH_RIDE_THROUGH: the rail rises above 60 V, or is back within it and PWR_ALERT_N's 1 ms (R529) is over. -/
def execVinHighRideThrough (dt : Nat) (high : Bool) (s : State) : Host.Outcome State Fault Refusal :=
  .next (let s := s.pass dt
    if s.powered then s.wr .CTL_PIN_STS_PWR_ALERT 0 0 (b2n (high || s.bit .PWR_STS_CAUSE cLowVin)) else s)

end Sys2Proof.Machine
end

