-- ==== Sys2Proof/Machine/Shaper.lean ====
section
/-! DEFINITION. Shaping, policing and queue latency (spec/13): refill instants, frame starts, deferred frames, samples,
SHAPER_SET, POLICER_SET, the clears. -/

namespace Sys2Proof.Machine

/-! ### Refill instants (R371) -/

/-- The value that a field had in force, if it changes at this instant. -/
def State.oldOf (s : State) (f : Fld) (i j : Nat) : Option Nat :=
  match Map.find s.ring.inForce (f.key i j) with
  | some v => if v = s.rd f i j then none else some v
  | none => none
def State.changed (s : State) (fs : List Fld) (i j : Nat) : Bool := fs.any fun f => (s.oldOf f i j).isSome

/-- Buckets of one ordinary queue parameter set whose RATE or BURST changes (R372, R385). -/
def State.applyQueue (s new : State) (c v : Nat) : State :=
  if !s.changed [.SHP_CTXQ_RATE, .SHP_CTXQ_BURST_KIB] c v then new
  else
    let old := s.inForce .SHP_CTXQ_RATE c v
    (List.range 8).foldl (fun new p =>
      let q := localKey p v c
      if old = 0 then new.setRing { new.ring with tok := Map.del new.ring.tok q }
      else new.setTok q (min (s.tok q) ((new.rd .SHP_CTXQ_BURST_KIB c v : Int) * 1024000))) new

/-- Tag every queued frame of a VC that becomes privileged, in queue order (R385). -/
def State.retag (s : State) (p v : Nat) : State :=
  let s := s.setRing { s.ring with vtime := Map.del s.ring.vtime (p * 8 + v) }
  (List.range 64).foldl (fun s c =>
    let q := localKey p v c
    let w := max 1 (s.rd .SHP_CTXQ_WEIGHT c v)
    let r := (s.localQ q).foldl (fun (a : Nat × List QFrame) x => (a.1 + (x.l * 65536 + w - 1) / w, a.2 ++ [{ x with tag := a.1 }])) (0, [])
    s.setRing { s.ring with
      locals := putQ s.ring.locals q r.2, fin := if r.1 = 0 then Map.del s.ring.fin q else Map.put s.ring.fin q r.1 }) s
def State.applyVc (s new : State) (v : Nat) : State :=
  match s.oldOf .SHP_VC_PRIV v 0 with
  | none => new
  | some old =>
    (List.range 8).foldl (fun new p =>
      if old = 0 then new.retag p v
      else new.setRing { new.ring with tok := new.ring.tok.filter fun (q : Nat × Int) => !(q.1 / 64 = p * 8 + v) }) new

def State.applyPort (s new : State) (p : Nat) : State :=
  if s.changed [.SHP_PORT_PRIV_PCT, .SHP_PORT_PRIV_BURST_KIB] p 0 then new.setRing { new.ring with pcap := Map.del new.ring.pcap p } else new

/-- Meters: full when MODE changes, else their credit stands (R377, R384). -/
def State.applyHost (s new : State) (c : Nat) : State :=
  if (s.oldOf .SHP_HPOL_A_MODE c 0).isSome then new.setRing { new.ring with hmet := Map.del new.ring.hmet c }
  else if s.changed [.SHP_HPOL_A_CBS, .SHP_HPOL_B_BURST2] c 0 then new.setHostMeter c (s.hostMeter c)
  else new
def State.setRingMeter (s : State) (v c : Nat) (m : Meter) : State := s.setRing { s.ring with rmet := Map.put s.ring.rmet (64 * v + c) m }
def State.applyRing (s new : State) (v c : Nat) : State :=
  if (s.oldOf .SHP_RPOL_MODE v c).isSome then new.setRing { new.ring with rmet := Map.del new.ring.rmet (64 * v + c) }
  else if s.changed [.SHP_RPOL_CBS, .SHP_RPOL_BURST2] v c then new.setRingMeter v c (s.ringMeter v c)
  else new

/-- The settings written since the last instant take effect. -/
def State.applyShp (s : State) : State :=
  let new := s.setRing { s.ring with inForce := s.ring.inForce.filter fun (p : Nat × Nat) => decide (p.1 / 2 ^ 32 < Fld.num .SHP_PORT_OVH) }
  let new := (instances 64 8).foldl (fun n p => s.applyQueue n p.1 p.2) new
  let new := (List.range 8).foldl (fun n v => s.applyVc n v) new
  let new := (List.range 8).foldl (fun n p => s.applyPort n p) new
  let new := (List.range 64).foldl (fun n c => s.applyHost n c) new
  (instances 8 64).foldl (fun n p => s.applyRing n p.1 p.2) new

/-- Credit enters every bucket and meter that is not full. -/
def State.addCredit (s : State) : State :=
  let s := s.ring.tok.foldl (fun s (p : Nat × Int) =>
    if s.rateOf p.1 = 0 then s else s.setTok p.1 (min (p.2 + (s.rateOf p.1 : Int) * 1024) (s.burstOf p.1))) s
  let s := s.ring.pcap.foldl (fun s (p : Nat × Int) =>
    s.setPcap p.1 (min (p.2 + ((s.linkRate p.1 * s.inForce .SHP_PORT_PRIV_PCT p.1 * 1024 / 100 : Nat) : Int)) (s.pcapFull p.1))) s
  let s := s.ring.hmet.foldl (fun s (p : Nat × Meter) => s.setHostMeter p.1 ((s.hostCfg p.1).refill p.2)) s
  s.ring.rmet.foldl (fun s (p : Nat × Meter) => s.setRingMeter (p.1 / 64) (p.1 % 64) ((s.ringCfg (p.1 / 64) (p.1 % 64)).refill p.2)) s

/-- Deferred frames in the order of their arrival. -/
def State.deferred (s : State) : List (Nat × HeldFrame) :=
  sortBy (fun (a b : Nat × HeldFrame) => decide (a.2.at_ ≤ b.2.at_))
    (s.ring.rx.flatMap fun (q : Nat × RxFlow) => (q.2.held.filter fun h => h.mode = 1).map fun h => (q.1, h))
/-- A deferred frame is let through: delivered when its turn has come (R380). -/
def State.undefer (s : State) (k seq : Nat) (colour : Nat) : State :=
  match Map.find s.ring.rx k with
  | none => s
  | some f =>
    let s := s.setFlow k { f with held := f.held.map fun h => if h.f.seq = seq then { h with mode := 0, colour := colour } else h }
    s.drainFlow k (f.held.length + 1)
/-- Deferred frames are metered again, oldest first (R380). -/
def State.remeter (s : State) : State :=
  s.deferred.foldl (fun s (e : Nat × HeldFrame) =>
    let v := e.1 % 8
    let c := e.1 / 8 % 64
    let r := (s.ringCfg v c).colour (s.ringMeter v c) e.2.f.colour (e.2.l * 1000)
    if r.1 = 2 then s else (s.setRingMeter v c r.2).undefer e.1 e.2.f.seq r.1) s

/-- Whether HTI_TIME stands at a refill instant. -/
def State.atRefill (s : State) : Bool := refillTime ((s.now * 5 + 511) / 512) = s.now

/-- REFILL_INSTANT. -/
def refill (s : State) : State :=
  let s := s.applyShp
  let done := s.ring.setters
  let s := s.setRing { s.ring with setters := [], ticks := s.ring.ticks + 1 }
  let s := s.addCredit.remeter
  done.foldl (fun s k => s.finish k .ok 0 (s.now % 2 ^ 48)) s
def execRefillInstant (dt : Nat) (s : State) : Host.Outcome State Fault Refusal :=
  .next (let t := s.pass dt; if t.atRefill then refill t else s)

/-! ### Frame starts (R374) -/

/-- PORT_FRAME_START: `credit` is the credit that the next hop holds, in 64-byte units, by VC × 4 + class. -/
def frameStart (p : Nat) (credit : List Nat) (s : State) : State :=
  let waits := s.ring.locals.any (fun (q : Nat × List QFrame) => q.1 / 512 = p &&
      (match q.2 with | h :: _ => !s.hasCredit p credit h | [] => false)) ||
    s.ring.transit.any fun (q : Nat × List QFrame) => q.1 / 8 = p && (match q.2 with | h :: _ => !s.hasCredit p credit h | [] => false)
  let s := s.setRing { s.ring with short := setBitN s.ring.short p waits }
  let picks := (List.range 8).filterMap fun v => (s.pickVc p v credit).map fun c => (v, c)
  let keep := s.ring.deficit.filter fun (d : Nat × Nat) =>
    !(d.1 / 8 = p) || picks.any fun (x : Nat × Bool × Nat × QFrame) => x.1 = d.1 % 8
  let s := s.setRing { s.ring with deficit := keep }
  let pr := picks.filter fun (x : Nat × Bool × Nat × QFrame) => s.isPriv x.1
  let ord := picks.filter fun (x : Nat × Bool × Nat × QFrame) => !s.isPriv x.1
  let usePriv := !pr.isEmpty && (decide (0 < s.pcap p) || ord.isEmpty)
  let l := if usePriv then pr else ord
  if l.isEmpty then s
  else
    let cls := b2n (!usePriv)
    let sizes := l.map fun (x : Nat × Bool × Nat × QFrame) => (x.1, x.2.2.2.l)
    let r := s.drr p cls sizes 64 ((Map.find s.ring.turn (p * 2 + cls)).getD 7)
    match r.2 with
    | none => r.1
    | some v =>
      match l.find? fun (x : Nat × Bool × Nat × QFrame) => x.1 = v with
      | none => r.1
      | some x =>
        let s := r.1
        let cost : Int := (x.2.2.2.l : Int) * 1000
        let s :=
          if usePriv then s.setPcap p (if ord.isEmpty then max (s.pcap p - cost) 0 else s.pcap p - cost)
          else if !pr.isEmpty then s.bump .SHP_CNT_COUNT 1 0 1 else s
        (s.depart p v x.2).unblock
def execPortFrameStart (dt port : Nat) (credit : List Nat) (s : State) : Host.Outcome State Fault Refusal :=
  .next (let t := s.pass dt; if port < 8 && t.on .RING_PORT_STS_UP port && !bitAt t.fab.quiet port then frameStart port credit t else s)

/-! ### Policed frames (R380) -/

/-- DEFER_TIMEOUT: the first deferred frame of a flow has been held for DEFER_US. -/
def deferTimeout (src ctx vc : Nat) (s : State) : State :=
  let k := flowKey src ctx vc
  match Map.find s.ring.rx k with
  | none => s
  | some f =>
    match f.held.find? fun h => h.mode = 1 && decide (h.at_ + 100 * s.inForce .SHP_VC_DEFER_US vc ≤ s.now) with
    | some h => (s.bump .SHP_CNT_COUNT 4 0 1).undefer k h.f.seq 2
    | none => s
def execDeferTimeout (dt src ctx vc : Nat) (s : State) : Host.Outcome State Fault Refusal :=
  .next (deferTimeout src ctx vc (s.pass dt))

/-! ### Samples (R381, R382) -/

def dbucket (d : Nat) : Nat := if d = 0 then 0 else min 15 (1 + Nat.log2 (max d 64 / 64))
def tbucket (t : Nat) : Nat := if t < 128 then 0 else min 15 (1 + Nat.log2 (t / 128))
/-- One sample of one queue. -/
def State.sampleQueue (s : State) (i : Nat) (q : List QFrame) : State :=
  let d := queueLen q
  let s := s.bump .SHP_HIST_DEPTH_COUNT i (dbucket d) 1
  let s := s.wr .SHP_HIST_MAX_MAX_DEPTH i 0 (max (s.rd .SHP_HIST_MAX_MAX_DEPTH i) (min d (2 ^ 32 - 1)))
  match q with
  | [] => s
  | h :: _ =>
    let t := 10 * (s.now - h.at_)
    let s := s.bump .SHP_HIST_DELAY_COUNT i (tbucket t) 1
    s.wr .SHP_HIST_MAX_MAX_DELAY i 0 (max (s.rd .SHP_HIST_MAX_MAX_DELAY i) (min t (2 ^ 32 - 1)))
/-- QUEUE_SAMPLE_TICK: TICKS refill instants have passed since the last sample. -/
def sampleTick (s : State) : State :=
  if !s.atRefill || s.inForce .SHP_SAMPLE_EN = 0 || s.ring.ticks < s.inForce .SHP_SAMPLE_TICKS then s
  else
    let s := (List.range 4096).foldl (fun s q => s.sampleQueue q (s.localQ q)) s
    let s := (List.range 64).foldl (fun s q => s.sampleQueue (4096 + q) (s.transitQ q)) s
    (s.setRing { s.ring with ticks := 0 }).bump .SHP_CNT_COUNT 9 0 1
def execQueueSampleTick (dt : Nat) (s : State) : Host.Outcome State Fault Refusal := .next (sampleTick (s.pass dt))

/-! ### SHAPER_SET and POLICER_SET (R371, R383) -/

def shaperSet (c : Cmd) (s : State) : State :=
  let d := c.desc
  let a := Desc.num d 20 4
  let s := match bitsOf (Desc.flags d) 9 8 with
    | 0 =>
      let i := Desc.byte d 16
      let j := Desc.byte d 17
      ((s.shpPut .SHP_CTXQ_RATE i j a).shpPut .SHP_CTXQ_BURST_KIB i j (Desc.num d 24 4)).shpPut .SHP_CTXQ_WEIGHT i j (Desc.byte d 28)
    | 1 => s.shpWord [.SHP_VC_PRIV, .SHP_VC_WEIGHT, .SHP_VC_RED_ACT, .SHP_VC_DEFER_US] (Desc.byte d 17) 0 a
    | _ => s.shpWord [.SHP_PORT_OVH, .SHP_PORT_PRIV_PCT, .SHP_PORT_PRIV_BURST_KIB] (Desc.byte d 18) 0 a
  s.setRing { s.ring with setters := s.ring.setters ++ [c.id] }
def execShaperSet (k : Nat) (s : State) : Host.Outcome State Fault Refusal :=
  .next (s.begin k 0x62 anyForm anyCmd anyCmd shaperSet)

def policerSet (c : Cmd) (s : State) : State :=
  let d := c.desc
  let i := Desc.byte d 16
  let v := Desc.byte d 17
  let mode := Desc.byte d 18
  let off := mode = 0
  let s :=
    if Desc.flag d 8 then
      let s := s.shpPut .SHP_RPOL_MODE v i mode
      if off then s
      else (((s.shpPut .SHP_RPOL_CIR v i (Desc.num d 20 4)).shpPut .SHP_RPOL_CBS v i (Desc.num d 24 4)).shpPut
        .SHP_RPOL_RATE2 v i (Desc.num d 28 4)).shpPut .SHP_RPOL_BURST2 v i (Desc.num d 32 4)
    else
      let s := s.shpPut .SHP_HPOL_A_MODE i 0 mode
      if off then s
      else (((s.shpPut .SHP_HPOL_A_CIR i 0 (Desc.num d 20 4)).shpPut .SHP_HPOL_A_CBS i 0 (Desc.num d 24 4)).shpPut
        .SHP_HPOL_B_RATE2 i 0 (Desc.num d 28 4)).shpPut .SHP_HPOL_B_BURST2 i 0 (Desc.num d 32 4)
  s.setRing { s.ring with setters := s.ring.setters ++ [c.id] }
def execPolicerSet (k : Nat) (s : State) : Host.Outcome State Fault Refusal :=
  .next (s.begin k 0x63 anyForm anyCmd anyCmd policerSet)

/-! ### Clears -/

/-- SHP_HIST_CLR: every cell and maximum as one action. -/
def execShpHistClr (value : Nat) (s : State) : Host.Outcome State Fault Refusal :=
  .next (s.hostWrite .SHP fun s =>
    if bitAt value 0 then
      let gone (k : Nat) : Bool := [Fld.SHP_HIST_DEPTH_COUNT, .SHP_HIST_DELAY_COUNT, .SHP_HIST_MAX_MAX_DEPTH, .SHP_HIST_MAX_MAX_DELAY].any
        fun f => k / 4294967296 = f.num
      { s with regs := s.regs.filter fun p => !gone p.1 }
    else s)
def execShpCntClr (value : Nat) (s : State) : Host.Outcome State Fault Refusal :=
  .next (s.hostWrite .SHP fun s => if bitAt value 0 then s.zeroAll .SHP_CNT_COUNT else s)
def execShpCtxCntClr (value : Nat) (s : State) : Host.Outcome State Fault Refusal :=
  .next (s.hostWrite64 .SHP_CTX_CNT_CLR_CTX 0 value fun s => s.zeroRows .SHP_CTX_CNT_COUNT value)

end Sys2Proof.Machine
end

