-- ==== Sys2Proof/Machine/Text.lean ====
section
/-! DEFINITION. Text intake (spec/08): TEXT_APPEND, TEXT_TOKENIZE, TABLE_LOAD, lane faults, the clear. A request runs
on its lanes as one step (log 37). -/

namespace Sys2Proof.Machine

def State.txtLanes (s : State) : Bool := s.lanesFree .TXT_LANES_EN .TXT_LANES_FENCED

/-- Count a run of the engine. -/
def State.countRun (s : State) (m : Img) (input : List Nat) (r : TxtRun) (busy : Nat) : State :=
  let cuts := if input.length > pieceBytes then cutsOf pieceBytes input else []
  let s := (s.bump .TXT_CNT_COUNT 0 0 1).bump .TXT_CNT_COUNT 1 0 input.length
  let s := s.bump .TXT_CNT_COUNT 3 0 (b2n (decide (input.length > pieceBytes)))
  let s := (s.bump .TXT_CNT_COUNT 4 0 cuts.length).bump .TXT_CNT_COUNT 5 0 (if cuts.isEmpty then 0 else Img.resync m input r cuts)
  let s := (s.bump .TXT_CNT_COUNT 6 0 r.invalid).bump .TXT_CNT_COUNT 7 0 r.fallback
  let s := (s.bump .TXT_CNT_COUNT 8 0 r.unk).bump .TXT_CNT_COUNT 9 0 r.longPre
  (s.bump .TXT_CNT_COUNT 10 0 r.longRuns).bump .TXT_CNT_COUNT 15 0 busy

/-- TEXT_APPEND waits for a step item, a KV_APPEND is no bar (R254); a revive in progress ends first (R63). -/
def State.appendFree (s : State) (c : Cmd) : Bool :=
  let h := Desc.handle c.desc
  !s.itemInFlight h && (s.runningOp 0x13 h).isNone && s.spoolHere h &&
    (match s.sess h with | some x => x.st != .reviving | none => true)
/-- Requests take lanes in the order of acceptance, across all contexts (R240): an earlier one that could start goes first. -/
def State.txtReady (s : State) (c : Cmd) : Bool :=
  s.txtLanes && !s.hti.cmds.any fun (d : Cmd) =>
    d.id < c.id && d.phase = .waiting && s.startable d && (d.op = 0x21 || (d.op = 0x20 && s.appendFree d))
def State.appendReady (s : State) (c : Cmd) : Bool := s.txtReady c && s.appendFree c
/-- Input bytes of the context's requests that have started (MAX_MIB). -/
def State.bytesInFlight (s : State) (c : Cmd) : Nat :=
  s.hti.cmds.foldl (fun a (d : Cmd) =>
    if d.ctx = c.ctx && d.id != c.id && d.phase = .running && (d.op = 0x20 || d.op = 0x21) then a + Desc.num d.desc 32 4 else a) 0
def State.overMib (s : State) (c : Cmd) : Bool :=
  decide (s.rd .TXT_CTX_MAX_MIB c.ctx * 2 ^ 20 < s.bytesInFlight c + Desc.num c.desc 32 4)

/-- How a session's state turns a TEXT_APPEND away (R254, R84). -/
def State.appendRefuse (s : State) (x : Session) : Option (Status × Nat) :=
  if x.st = .orphaned || x.st = .failed then some (.orphaned, x.orphanCause)
  else if !x.owner_ then some (.ownerConflict, x.ownerCause)
  else if x.st = .shipping then some (.busyTether, 1)
  else if s.fab.isolated then some (.retryLater, hintMs 10)
  else if x.st = .rebuilding then some (.retryLater, hintMs 1)
  else none

/-- Tokens enter the spool as intake entries, with the offset of the entry before (R255). An append that is refused counts nothing but
SPOOL_REFUSED (R77). -/
def State.appendTokens (s : State) (c : Cmd) (h : Nat) (ids : List Nat) (invalid : Nat) (count : State → State) : State :=
  match s.sess h with
  | none => s.finish c.id .badHandle
  | some x =>
    if x.spool.length + ids.length > Config.maxTokens then
      (s.bump .TXT_CNT_COUNT 13 0 1).finish c.id .reservedNonzero 32 (Config.maxTokens - x.spool.length)
    else
      let vis := match x.spool.getLast? with | some e => e.visible | none => 0
      let s := (count s).spoolAppend h (ids.map fun t => ⟨t, false, vis⟩)
      s.finishSpool h c.id ids.length (x.spool.length + ids.length) invalid

/-- TEXT_APPEND (R254, R255). -/
def textAppend (busy : Nat) (input : Option (List Nat)) (c : Cmd) (s : State) : State :=
  let d := c.desc
  let h := Desc.handle d
  let len := Desc.num d 32 4
  match s.imageFor (Desc.byte d 16) c.id, s.sess h with
  | none, _ => s.finish c.id .reservedNonzero 16
  | _, none => s.finish c.id .badHandle
  | some m, some x =>
    match s.appendRefuse x with
    | some r => s.finish c.id r.1 r.2
    | none =>
      if s.overMib c then s.finish c.id .retryLater (hintUs 100)
      else match input with
        | none => s.finish c.id .retryLater (hintMs 1)
        | some l =>
          if Desc.flag d 8 then
            let ids := l.takeD (len / 4) 0
            match ids.findIdx? fun t => decide (t ≥ Img.tokens m) with
            | some i => s.finish c.id .reservedNonzero 24 i
            | none => s.appendTokens c h ids 0 fun s => s.bump .TXT_CNT_COUNT 0 0 1
          else
            let bytes := l.takeD len 0
            let r := Img.run m bytes
            s.appendTokens c h (r.toks.map Tok.id) r.invalid fun s => (s.countRun m bytes r busy).bump .TXT_CNT_COUNT 2 0 r.toks.length
def execTextAppend (k busy : Nat) (input : Option (List Nat)) (s : State) : Host.Outcome State Fault Refusal :=
  .next (s.begin k 0x20 anyForm s.appendReady s.sessLive (textAppend busy input)).sweepImages

/-- One entry of TEXT_TOKENIZE (R256). -/
def tokEntry (offsets : Bool) (t : Tok) : Nat := t.id % 2 ^ 32 + (if offsets then t.src % 2 ^ 32 * 2 ^ 32 else 0)

/-- TEXT_TOKENIZE (R256). -/
def textTokenize (busy : Nat) (input : Option (List Nat)) (wrote : Bool) (c : Cmd) (s : State) : State :=
  let d := c.desc
  let len := Desc.num d 32 4
  let cap := Desc.num d 36 4
  let off := Desc.flag d 8
  match s.imageFor (Desc.byte d 16) c.id with
  | none => s.finish c.id .reservedNonzero 16
  | some m =>
    if s.overMib c then s.finish c.id .retryLater (hintUs 100)
    else match input with
      | none => s.finish c.id .retryLater (hintMs 1)
      | some l =>
        let bytes := l.takeD len 0
        let r := Img.run m bytes
        if !wrote then s.finish c.id .retryLater (hintMs 1)
        else
          let s := s.countRun m bytes r busy
          let out := r.toks.take cap
          let w := if off then 8 else 4
          let s := s.emit (.write c.ctx (Desc.num d 40 8) (w * out.length) (packWords w (out.map (tokEntry off))))
          let s := s.bump .TXT_CNT_COUNT 2 0 out.length
          match (r.toks.drop cap).head? with
          | none => s.finish c.id .ok 0 out.length out.length len
          | some t =>
            let y := r.resetBefore t.src
            s.finish c.id .partialDone 0 ((r.toks.filter fun t => decide (t.pre < y)).length) out.length y
def execTextTokenize (k busy : Nat) (input : Option (List Nat)) (wrote : Bool) (s : State) :
    Host.Outcome State Fault Refusal :=
  .next (s.begin k 0x21 anyForm s.txtReady anyCmd (textTokenize busy input wrote)).sweepImages

/-- TABLE_LOAD LOAD (R251, R257, R258). -/
def tableLoad (src : SrcRead) (c : Cmd) (s0 : State) : State :=
  let s := s0.sweepImages
  let d := c.desc
  let n := Desc.num d 8 8 % 32
  let len := Desc.num d 32 4
  let old := Map.find s.dec.tables n
  match old with
  | some t => if s.foreign c t.owner then s.finish c.id .authFail 3 else go s d n len old
  | none => go s d n len old
where
  go (s : State) (d : Desc) (n len : Nat) (old : Option TableSlot) : State :=
    match s.readImage c.ctx (Desc.flag d 9) (Desc.num d 16 8) (Desc.num d 24 8) len src with
    | .inr r => s.finish c.id r.1 r.2
    | .inl m =>
      let bytes := Config.imageBytes 0 len
      match Img.check m len (decide (s.tableBytes + bytes ≤ s.rd .TXT_CFG_T1_MIB * 2 ^ 20)) with
      | some e => (s.bump .TXT_CNT_COUNT 12 0 1).finish c.id .reservedNonzero 32 0 e
      | none =>
        if !s.rsvFits 0 bytes then s.rsvFull.finish c.id .retryLater (hintMs 1)
        else
          let olds := match old with
            | some t => t.olds ++ [⟨s.hti.nextCmd, t.data, t.bytes⟩]
            | none => []
          let s := (s.rsvSwap 0 bytes).setTable n (some ⟨c.ctx, m, bytes, olds⟩)
          let s := ((s.sweepImages).showTable n).bump .TXT_CNT_COUNT 11 0 1
          s.finish c.id .ok 0 bytes 0 (s.tableUsers n)
def execTableLoadLoad (k : Nat) (src : SrcRead) (s : State) : Host.Outcome State Fault Refusal :=
  .next (s.begin k 0x22 (opOf 8 8 0) anyCmd anyCmd (tableLoad src))

/-- TABLE_LOAD REMOVE (R257). -/
def tableRemove (c : Cmd) (s : State) : State :=
  let n := Desc.num c.desc 8 8 % 32
  match Map.find s.dec.tables n with
  | none => s.finish c.id .badHandle
  | some t =>
    if s.foreign c t.owner then s.finish c.id .authFail 3
    else if s.tableUsers n != 0 then s.finish c.id .reservedNonzero 8 0 0 (s.tableUsers n)
    else (((s.rsvSwap t.allBytes 0).setTable n none).showTable n).finish c.id .ok
def execTableLoadRemove (k : Nat) (s : State) : Host.Outcome State Fault Refusal :=
  .next (s.begin k 0x22 (opOf 8 8 1) anyCmd anyCmd tableRemove)

/-- TOKENISER_LANE_FAULT (R259): the lane is fenced, its piece is rerun on another with the same result (R241). -/
def execTokeniserLaneFault (lane ctx handle : Nat) (s : State) : Host.Outcome State Fault Refusal :=
  .next (if lane < 16 then (s.bump .TXT_CNT_COUNT 14 0 1).fenceLane .TXT_LANES_FENCED 16 0 lane ctx handle else s)

/-- TXT_CNT_CLR (R29). -/
def execTxtCntClr (value : Nat) (s : State) : Host.Outcome State Fault Refusal :=
  .next (s.hostWrite .TXT fun s => if bitAt value 0 then s.zeroAll .TXT_CNT_COUNT else s)

end Sys2Proof.Machine
end

