-- ==== Sys2Proof/Machine/Registers.lean ====
section
/-! DEFINITION. Accesses to registers (spec/00 R13 to R22, spec/02 R43, R44): HTI_CTX, the writes that have no row of their own,
reads. -/

namespace Sys2Proof.Machine

/-! ### HTI_CTX (R78) -/

/-- The mailbox channel of a context whose EN has changed: data, registers and backlog go (R459). -/
def State.dropChannel (s : State) (c : Nat) : State :=
  let s := (s.clearChannel c).evtOff c
  let s := s.setEvt c { s.evt c with backlog := [], dropped := 0 }
  s.clearRegs fun f i => f.info.blk = .HTIW && decide (0x2000 ≤ f.info.off ∧ f.info.off < 0x2040) && i = c

/-- The binding of a context has changed from EN `en` and port `p` (R173, R400, R449, R459). -/
def State.bound (s : State) (c : Nat) (en : Bool) (p : Nat) : State :=
  let now := s.on .HTI_CTX_EN c
  let s := if en && (!now || s.port c != p) then s.dropPos c p else s
  let s := if !en && now then
      let s := s.takePos c
      if Map.has s.sec.storage c then s else s.newStorage c
    else s
  let s := if en != now then (s.dropChannel c).rebind c p else s
  let s := if s.port c != p then s.refreshBridle c else s
  ((s.refreshTdi c).refreshMode 0).refreshMode 1

/-- A write of HTI_CTX[c] through a port: frozen while the TDI is locked (R437), dropped as CTX_BUSY while it would change a binding under
pair 0 (R78). The entry's CTX is the context of the register, which no window names (DESIGN CHOICE, log 150). -/
def ctxWrite (port c value : Nat) (s : State) : State :=
  let t := s.putWord [.HTI_CTX_EN, .HTI_CTX_PORT, .HTI_CTX_MGMT, .HTI_CTX_QMAX] c 0 value
  let same (f : Fld) : Bool := t.rd f c = s.rd f c
  if s.on .HTI_W_AQCFG_EN c && !(same .HTI_CTX_EN && same .HTI_CTX_PORT && same .HTI_CTX_QMAX) then
    s.errlog kCtxBusy c port 0 (0x401000 + 8 * c)
  else t.bound c (s.on .HTI_CTX_EN c) (s.port c)
def State.htiCtx (s : State) (port ctx value : Nat) : State :=
  if ctx < 64 then s.hostWrite .HTI fun s => s.lockWrite ctx (ctxWrite port ctx value) else s
/-- HTI_CTX_WRITE: the row names no port, and the model takes the port that the context is bound to (log 150). -/
def execHtiCtxWrite (ctx value : Nat) (s : State) : Host.Outcome State Fault Refusal := .next (s.htiCtx (s.port ctx) ctx value)

/-! ### Which register an access meets (R12 to R14) -/

/-- What an access of `size` bytes meets at an offset: a register written whole or by a half, more or less than that, or none. -/
inductive Meet where
  | whole (reg : List (Fld × Nat × Nat))
  | lower (reg : List (Fld × Nat × Nat))
  | upper (reg : List (Fld × Nat × Nat))
  | part
  | nothing
  deriving DecidableEq, Repr

/-- Bytes of a register. -/
def regBytes (l : List (Fld × Nat × Nat)) : Nat :=
  match l with
  | p :: _ => p.1.info.bits / 8
  | [] => 0
/-- The register at an offset and what a naturally aligned access of its own width, or of one half, does with it. -/
def meet (b : Blk) (off size : Nat) : Meet :=
  let at_ := regFieldsAt b off
  let before := regFieldsAt b (off - 4)
  if regBytes at_ != 0 && regBytes at_ = size then .whole at_
  else if regBytes at_ = 8 && size = 4 then .lower at_
  else if size = 4 && 4 ≤ off && regBytes before = 8 then .upper before
  else
    let low := off / 4 * 4 - 4
    let n := min ((off + size - low + 3) / 4) 64
    if (List.range n).any fun k =>
        let r := low + 4 * k
        let w := regBytes (regFieldsAt b r)
        w != 0 && decide (r < off + size ∧ off < r + w) then .part else .nothing

/-- The instance of the fields: in a window the first index is the context. -/
def inCtx (ctx : Option Nat) (l : List (Fld × Nat × Nat)) : List (Fld × Nat × Nat) :=
  match ctx with
  | some c => l.map fun p => (p.1, c, p.2.2)
  | none => l

/-! ### Writes (R17, R22) -/

/-- One field takes a written word as its type states (R17); RO, NV and the fields of rows of their own do not change here. RING_CFG
keeps its values in force until the next WARM, and SHP fields until the next refill instant (R371). PEAK_W is at least the TDP_W that the same write
leaves (log 165). -/
def State.writeField (s : State) (p : Fld × Nat × Nat) (word : Nat) : State :=
  let f := p.1
  let v := fieldOf f word
  match f.info.ty with
  | .rw =>
    if f.info.blk = .SHP then s.shpPut f p.2.1 p.2.2 v
    else if f.info.blk = .RING && f.info.off = 0 then s.shpPut f p.2.1 p.2.2 v
    else if f = .PWR_LIMIT_PEAK_W && decide (v < s.rd .PWR_LIMIT_TDP_W) then s
    else s.put f p.2.1 p.2.2 v
  | .w1c =>
    let old := s.rd f p.2.1 p.2.2
    s.wr f p.2.1 p.2.2 (old - Nat.land old v)
  | _ => s

/-- The lower half that an upper write takes when none is latched: the RW fields as they stand (R14). -/
def State.keepLower (s : State) (l : List (Fld × Nat × Nat)) : Nat :=
  (l.foldl (fun a p => if p.1.info.ty = .rw then a + s.rd p.1 p.2.1 p.2.2 * 2 ^ p.1.info.lo else a) 0) % 2 ^ 32

/-- The context whose TDI freezes a register (R437), of those that have no row of their own. -/
def frozenBy (p : Fld × Nat × Nat) : Option Nat :=
  match p.1 with
  | .CTL_SES_CTX_MAX_SESS | .TXT_CTX_MAX_MIB | .DEC_CTX_MAX_STREAMS | .RCL_CTX_MAX_ENTRIES | .SHP_CTXQ_RATE | .SHP_HPOL_A_MODE
  | .SHP_HPOL_B_RATE2 => some p.2.1
  | .SHP_RPOL_MODE => some p.2.2
  | _ => none

/-- What follows a write of a register: signalling modes, TDI states, a ring port that is no longer used. -/
def State.afterRegWrite (s : State) (p : Fld × Nat × Nat) : State :=
  match p.1 with
  | .HTI_PORT_CTL_MODE => ((List.range 64).foldl (fun s c => s.refreshTdi c) s).refreshMode p.2.1
  | .MBX_PORT_CFG_COMPACT_EN | .MBX_SUM_ADDR_BASE => s.refreshMode p.2.1
  | .MBX_MODE_COMPACT0 => (s.refreshMode 0).refreshMode 1
  | .RING_PORT_CTL_EN => if s.on .RING_PORT_CTL_EN p.2.1 then s else s.linkDown p.2.1
  | _ => s

/-- A setup register that is frozen while its pair or ring is enabled refuses a change (R47, R452). -/
def State.setupBusy (s : State) (p : Fld × Nat × Nat) (word : Nat) : Bool :=
  let change := fieldOf p.1 word != s.rd p.1 p.2.1
  match p.1 with
  | .HTI_W_ASQ_BASE | .HTI_W_ACQ_BASE => s.on .HTI_W_AQCFG_EN p.2.1 && change
  | .HTI_W_EVT_BASE_BASE => s.on .HTI_W_EVT_CFG_EN p.2.1 && change
  | _ => false

/-- A register takes a word. -/
def writeReg (l : List (Fld × Nat × Nat)) (word : Nat) (s : State) : State :=
  match l with
  | [] => s
  | p :: _ =>
    if s.setupBusy p word then s.errlog kQueueBusy p.2.1 (s.port p.2.1) 2 p.1.info.off
    else
      let go (s : State) : State := (l.foldl (fun s q => s.writeField q word) s).afterRegWrite p
      match frozenBy p with
      | some c => s.lockWrite c go
      | none => go s

/-- The row that a write of a register has of its own, by the first field of the register. -/
def ownRow (port : Nat) (p : Fld × Nat × Nat) (v : Nat) : Option (State → Host.Outcome State Fault Refusal) :=
  let i := p.2.1
  let j := p.2.2
  match p.1 with
  | .HTI_W_SQDB_TAIL => some (execHtiWSqdbWrite port i j v [])
  | .HTI_W_CQDB_HEAD => some (execHtiWCqdbWrite port i j v)
  | .HTI_W_AQCFG_SQLOG => some (if bitAt v 8 then execPair0Open port i v else execPair0Close port i v)
  | .HTI_W_BRKICK_STEP_ID => some (execHtiWBrkickWrite port i v)
  | .HTI_W_MBREQ_LEN => some (execHtiWMbreqSeal port i v)
  | .HTI_W_EVT_CFG_LOG => some (if bitAt v 4 then execHtiWEvtEnable port i v else execHtiWEvtDisable port i v)
  | .HTI_W_EVT_IDX_HEAD => some (execHtiWEvtHeadWrite port i v)
  | .HTI_W_FLT_IDX_HEAD => some (execHtiWFltHeadWrite port i v)
  | .MBX_S_REQ_LEN => some (execHtiWMbreqSeal port (64 + i) v)
  | .MBX_SUM_BITS => some (execMbxSumAck i v)
  | .HTI_ERRLOG_CTL_NEXT => if bitAt v 10 then some (execHtiErrlogClr v) else none
  | .HTI_CTX_EN => some fun s => .next (s.htiCtx (port % 2) i v)
  | .GORE_TILE_INJ_ARM => some (execGoreTileInjArm v)
  | .GORE_SHARE_WEIGHT => some (execGoreShareWrite i v)
  | .GORE_ROLE_MIX_ATTN => some (execGoreRoleMixWrite v)
  | .GORE_BRIDLE_MIB => some (execGoreBridleWrite i v)
  | .TIER_OBJ_A_PRESENT => some (if bitAt v 3 then execTierObjFailedClear i v else execTierObjEnWrite i v)
  | .TIER_WM_T1_HIGH => some (execTierWmWrite v)
  | .RING_BYP_STATE => some (execRingBypForceClose v)
  | .RING_VC_BUF_KIB => some (execRingVcWrite i v)
  | .RING_MAP_CFG_HB_MS => some (execRingMapCfgWrite v)
  | .MTR_COMP_TAG => some (execMtrCompTagWrite i v)
  | .SEC_FABRIC_TX_SLOT => some (execSecFabricTxSlotWrite v)
  | .CTL_FN_EN => some (if bitAt v 0 then execCtlFnEnable i v
      else if bitAt v 1 then execCtlFnDisableDrain i v else execCtlFnDisableStop i v)
  | .CTL_RESET_SOFT => some (if bitAt v 1 then execCtlResetWarm v else execCtlResetSoft v)
  | .CTL_FN_RST_FN => some (execCtlFnRst v)
  | .CTL_CTX_RST_CTX => some (execCtlCtxRst v)
  | .CTL_PM_P2_EN => some (execP3Req v)
  | .PWR_STEP_WATTS => some (execPwrStepWrite v)
  | .PWR_CLK_MAX_MHZ => some (execPwrClkMaxWrite v)
  | .HTI_CNT_CLR_CTX => some (execHtiCntClr v)
  | .GORE_TILE_CNT_CLR_CLR => some (execGoreTileCntClr v)
  | .GORE_CNT_CLR_CLR => some (execGoreCntClr v)
  | .GORE_CTX_CNT_CLR_CTX => some (execGoreCtxCntClr v)
  | .GORE_ATTN_CNT_CLR_CLR => some (execGoreAttnCntClr v)
  | .TIER_CNT_CLR_CLR => some (execTierCntClr v)
  | .TIER_STALL_CLR_CTX => some (execTierStallClr v)
  | .TXT_CNT_CLR_CLR => some (execTxtCntClr v)
  | .DEC_CNT_CLR_CLR => some (execDecCntClr v)
  | .RCL_CNT_CLR_CLR => some (execRclCntClr v)
  | .RCL_CTX_CNT_CLR_CTX => some (execRclCtxCntClr v)
  | .POOL_CNT_CLR_CLR => some (execPoolCntClr v)
  | .RING_CNT_CLR_CLR => some (execRingCntClr v)
  | .SHP_HIST_CLR_CLR => some (execShpHistClr v)
  | .SHP_CNT_CLR_CLR => some (execShpCntClr v)
  | .SHP_CTX_CNT_CLR_CTX => some (execShpCtxCntClr v)
  | .CTL_ADM_CNT_CLR_CLR => some (execCtlAdmCntClr v)
  | .MTR_CNT_CLR_CLR => some (execMtrCntClr v)
  | .CTL_SES_CNT_CLR_CLR => some (execCtlSesCntClr v)
  | .SEC_CNT_CLR_CLR => some (execSecCntClr v)
  | .MBX_CNT_CLR_CLR => some (execMbxCntClr v)
  | .NVM_CNT_CLR_CLR => some (execNvmCntClr v)
  | .CTL_RST_CNT_CLR_CLR => some (execCtlRstCntClr v)
  | .PWR_CNT_CLR_CLR => some (execPwrCntClr v)
  | .CTL_PIN_CNT_CLR_CLR => some (execCtlPinCntClr v)
  | _ => none

/-- The state that an outcome goes on with. -/
def goOn (s : State) (o : Host.Outcome State Fault Refusal) : State :=
  match o with
  | .next t => t
  | _ => s

/-- A register of a block or of a window takes a word: through the row that it has of its own, or as its fields' types state. `guard`
is the check that the write passes first. -/
def storeReg (guard : State → (State → State) → State) (port : Nat) (l : List (Fld × Nat × Nat)) (word : Nat) (s : State) : State :=
  match l with
  | [] => s
  | p :: _ =>
    match ownRow port p word with
    | some f => goOn s (f s)
    | none => guard s (writeReg l word)

/-- A write that meets registers of a block (R13, R14, R43). -/
def writeMeet (guard : State → (State → State) → State) (err : Nat → State → State) (port key : Nat) (ctx : Option Nat) (m : Meet)
    (value : Nat) (s : State) : State :=
  match m with
  | .whole l =>
    storeReg (fun s f => guard s fun s => f (if regBytes l = 8 then s.latched key value else s)) port (inCtx ctx l) value s
  | .lower _ => guard s fun s => s.latched key value
  | .upper l =>
    let r := inCtx ctx l
    match Map.find s.latch (key - 4) with
    | some low => storeReg guard port r (low + value % 2 ^ 32 * 2 ^ 32) s
    | none => (storeReg guard port r (s.keepLower r + value % 2 ^ 32 * 2 ^ 32) s).unlatch (key - 4)
  | .part => guard s (err kMisaligned)
  | .nothing => guard s (err kUnmapped)

/-- Bytes that a write puts into a channel's request area. -/
def State.putRequest (s : State) (ch at_ size value : Nat) : State :=
  let c := s.chan ch
  let n := min size (1024 - at_)
  let old := tileField c.req at_ n
  s.setChan ch { c with req := c.req - old * 2 ^ (8 * at_) + value % 2 ^ (8 * n) * 2 ^ (8 * at_) }

/-- A write into a channel's areas: only the request data takes it (R441). -/
def channelWrite (err : Nat → State → State) (ch o size value : Nat) (s : State) : State :=
  if 0x400 ≤ o && o < 0x800 then s.putRequest ch (o - 0x400) size value else err kUnmapped s

/-- A write to a context's window. -/
def windowWrite (port ctx o size value : Nat) (s : State) : State :=
  let guard (s : State) (f : State → State) : State := s.window port ctx o f
  let err (kind : Nat) (s : State) : State := s.errlog kind ctx (port % 2) 2 o
  if 0x2400 ≤ o && o < 0x4000 then guard s (channelWrite err ctx (o - 0x2000) size value)
  else writeMeet guard err port (2 ^ 26 + 65536 * ctx + o) (some ctx) (meet .HTIW o size) value s

/-- A write to BAR0. A secure channel is reached only by a path of R428. -/
def bar0Write (port off size value : Nat) (s : State) : State :=
  let err (kind : Nat) (s : State) : State := if s.blkOn .HTI then s.errlog kind 0 (port % 2) 0 off else s
  match blkAt off with
  | none => err kUnmapped s
  | some (b, o) =>
    let secure := b = .MBX && decide (0x10000 ≤ o ∧ o < 0x20000)
    let guard (s : State) (f : State → State) : State :=
      s.hostWrite b fun s => if secure && !s.securePath port then s.refusePath port off else f s
    if secure && decide (0x400 ≤ o % 0x2000) then guard s (channelWrite err (64 + (o - 0x10000) / 0x2000) (o % 0x2000) size value)
    else if meet b o size = .nothing then err kUnmapped s
    else writeMeet guard err port off none (meet b o size) value s

/-- REGISTER_WRITE: `port` is 0 or 1, and 2 more with the T bit. BAR4 holds no register (R217). -/
def execRegisterWrite (bar port offset size value : Nat) (s : State) : Host.Outcome State Fault Refusal :=
  .next (
    if 4 ≤ port || size = 0 || 64 < size then s
    else if bar = 0 && offset < 0x4000000 then bar0Write port offset size value s
    else if bar = 2 && offset < 0x400000 then windowWrite port (offset / 65536) (offset % 65536) size value s
    else s)

/-! ### Reads -/

/-- What a read of a field gives: TIER_OCC and TIER_OCC3 count the pages in use at that moment, every other field is held. -/
def State.readField (s : State) (p : Fld × Nat × Nat) : Nat :=
  match p.1 with
  | .TIER_OCC_T1_PAGES => s.t1Used % 2 ^ 23
  | .TIER_OCC_T2_PAGES => s.t2Used % 2 ^ 27
  | .TIER_OCC3_T3_PAGES => s.t3Used % 2 ^ 35
  | f => s.rd f p.2.1 p.2.2
/-- The value of a register's fields. -/
def State.regValue (s : State) (l : List (Fld × Nat × Nat)) : Nat :=
  l.foldl (fun a p => a + s.readField p * 2 ^ p.1.info.lo) 0
/-- The content of a channel's areas from a channel offset. -/
def State.channelBytes (s : State) (ch o size : Nat) : Nat :=
  let c := s.chan ch
  let ring := (List.range 64).foldl (fun a n => match Map.find (s.flt ch).slots n with
    | some r => a + fltBytes r * 2 ^ (512 * n)
    | none => a) 0
  if o < 0x800 then tileField c.req (o - 0x400) (min size (0x800 - o))
  else if o < 0x1000 then tileField c.rsp (o - 0x800) (min size (0x1000 - o))
  else if ch < 64 then tileField ring (o - 0x1000) (min size (0x2000 - o)) else 0

/-- What a read returns, with the ring of errors: zero where there is no register (R43), ones and a log entry where it breaks R13. -/
def readMeet (err : Nat → State → State) (ctx : Option Nat) (m : Meet) (size : Nat) (s : State) : State × Nat :=
  match m with
  | .whole l => (s, s.regValue (inCtx ctx l))
  | .lower l => (s, s.regValue (inCtx ctx l) % 2 ^ 32)
  | .upper l => (s, s.regValue (inCtx ctx l) / 2 ^ 32)
  | .part => (err kMisaligned s, 2 ^ (8 * size) - 1)
  | .nothing => (s, 0)

/-- A read of a context's window (R44, R438, R441). -/
def readWindow (port ctx o size : Nat) (s : State) : State :=
  let err (kind : Nat) (s : State) : State := s.errlog kind ctx (port % 2) 2 o
  if 0x2400 ≤ o && o < 0x4000 then s.windowRead port ctx o size fun s => (s, s.channelBytes ctx (o - 0x2000) size)
  else if o = 0x2008 && size = 4 then goOn s (execHtiWMbrspRead port ctx s)
  else s.windowRead port ctx o size (readMeet err (some ctx) (meet .HTIW o size) size)

/-- A read of BAR0 (R16). -/
def readBar0 (port off size : Nat) (s : State) : State :=
  let err (kind : Nat) (s : State) : State := if s.blkOn .HTI then s.errlog kind 0 (port % 2) 0 off else s
  match blkAt off with
  | none => s.emit (.busRead 0)
  | some (b, o) =>
    let k := (o - 0x10000) / 0x2000
    let secure := b = .MBX && decide (0x10000 ≤ o ∧ o < 0x20000)
    let area := secure && decide (0x400 ≤ o % 0x2000)
    if !s.blkShows b && !area && meet b o size = .nothing then s.emit (.busRead 0)
    else if !s.blkShows b then s.emit (.busRead (2 ^ (8 * size) - 1))
    else if secure && !s.securePath port then (s.bump .SEC_CNT_COUNT 11 0 1).emit (.busRead 0)
    else if secure && decide (0x400 ≤ o % 0x2000) then s.emit (.busRead (s.channelBytes (64 + k) (o % 0x2000) size))
    else if secure && o % 0x2000 = 8 && size = 4 then goOn s (execHtiWMbrspRead port (64 + k) s)
    else
      let r := readMeet err none (meet b o size) size s
      r.1.emit (.busRead r.2)

/-- REGISTER_READ_LOGGED (R13, R44): a read, its answer on the bus, and the entry in the error log that it may leave. -/
def execRegisterReadLogged (bar port offset size : Nat) (s : State) : Host.Outcome State Fault Refusal :=
  .next (
    if 4 ≤ port || size = 0 || 64 < size then s
    else if bar = 0 && offset < 0x4000000 then readBar0 port offset size s
    else if bar = 2 && offset < 0x400000 then readWindow port (offset / 65536) (offset % 65536) size s
    else s)

end Sys2Proof.Machine
end

