-- ==== Sys2Proof/Machine/Dispatch.lean ====
section
/-! DEFINITION. The dispatch: one arm per command, each one direct call of its meaning. -/

namespace Sys2Proof.Machine

def exec (i : Instr) (s : State) : Host.Outcome State Fault Refusal :=
  match i with
  | .registerWrite bar port offset size value => Sys2Proof.Machine.execRegisterWrite bar port offset size value s
  | .htiWSqdbWrite port ctx pair value entries => Sys2Proof.Machine.execHtiWSqdbWrite port ctx pair value entries s
  | .htiWCqdbWrite port ctx pair value => Sys2Proof.Machine.execHtiWCqdbWrite port ctx pair value s
  | .pair0Open port ctx value => Sys2Proof.Machine.execPair0Open port ctx value s
  | .pair0Close port ctx value => Sys2Proof.Machine.execPair0Close port ctx value s
  | .contextPairsClosed ctx => Sys2Proof.Machine.execContextPairsClosed ctx s
  | .submissionFetchFail ctx pair => Sys2Proof.Machine.execSubmissionFetchFail ctx pair s
  | .completionPostFail ctx pair => Sys2Proof.Machine.execCompletionPostFail ctx pair s
  | .coalescingTimeExpiry dt ctx pair => Sys2Proof.Machine.execCoalescingTimeExpiry dt ctx pair s
  | .queueOpen k => Sys2Proof.Machine.execQueueOpen k s
  | .queueClose k => Sys2Proof.Machine.execQueueClose k s
  | .capsGet k wrote => Sys2Proof.Machine.execCapsGet k wrote s
  | .ctxFence k => Sys2Proof.Machine.execCtxFence k s
  | .noop k => Sys2Proof.Machine.execNoop k s
  | .statsGet k wrote => Sys2Proof.Machine.execStatsGet k wrote s
  | .htiErrlogClr value => Sys2Proof.Machine.execHtiErrlogClr value s
  | .htiCntClr value => Sys2Proof.Machine.execHtiCntClr value s
  | .htiCtxWrite ctx value => Sys2Proof.Machine.execHtiCtxWrite ctx value s
  | .functionLevelReset port vf => Sys2Proof.Machine.execFunctionLevelReset port vf s
  | .sessCreate k => Sys2Proof.Machine.execSessCreate k s
  | .sessDestroy k reads => Sys2Proof.Machine.execSessDestroy k reads s
  | .sessPark k => Sys2Proof.Machine.execSessPark k s
  | .sessRevive k => Sys2Proof.Machine.execSessRevive k s
  | .reviveDone handle => Sys2Proof.Machine.execReviveDone handle s
  | .sessDeflate k => Sys2Proof.Machine.execSessDeflate k s
  | .sessRebuild k => Sys2Proof.Machine.execSessRebuild k s
  | .sessQuery k wrote => Sys2Proof.Machine.execSessQuery k wrote s
  | .sessShip k => Sys2Proof.Machine.execSessShip k s
  | .sessTetherQuery k => Sys2Proof.Machine.execSessTetherQuery k s
  | .sessTetherResolve k => Sys2Proof.Machine.execSessTetherResolve k s
  | .sessCancel k => Sys2Proof.Machine.execSessCancel k s
  | .sessPolicy k => Sys2Proof.Machine.execSessPolicy k s
  | .idleParkExpiry dt handle => Sys2Proof.Machine.execIdleParkExpiry dt handle s
  | .shipOfferReceived handle epoch sender receiver ret tiles bytes spoolLen kvLen shape geom interactive evac => Sys2Proof.Machine.execShipOfferReceived handle epoch sender receiver ret tiles bytes spoolLen kvLen shape geom interactive evac s
  | .shipAcceptReceived handle epoch sender receiver torn => Sys2Proof.Machine.execShipAcceptReceived handle epoch sender receiver torn s
  | .shipRefuseReceived handle epoch sender receiver reason => Sys2Proof.Machine.execShipRefuseReceived handle epoch sender receiver reason s
  | .shipFrameReceived handle epoch sender receiver frame => Sys2Proof.Machine.execShipFrameReceived handle epoch sender receiver frame s
  | .shipResendReceived handle epoch sender receiver index torn => Sys2Proof.Machine.execShipResendReceived handle epoch sender receiver index torn s
  | .shipAbortReceived handle epoch sender receiver reason index kind => Sys2Proof.Machine.execShipAbortReceived handle epoch sender receiver reason index kind s
  | .commitReqReceived handle epoch sender receiver again => Sys2Proof.Machine.execCommitReqReceived handle epoch sender receiver again s
  | .replicateReceived src handle epoch sender owner => Sys2Proof.Machine.execReplicateReceived src handle epoch sender owner s
  | .replicateAckReceived handle epoch sender owner => Sys2Proof.Machine.execReplicateAckReceived handle epoch sender owner s
  | .commitAckReceived handle sender receiver epoch owner read => Sys2Proof.Machine.execCommitAckReceived handle sender receiver epoch owner read s
  | .commitNakReceived handle offered sender receiver epoch owner => Sys2Proof.Machine.execCommitNakReceived handle offered sender receiver epoch owner s
  | .tetherQueryReceived src handle => Sys2Proof.Machine.execTetherQueryReceived src handle s
  | .tetherRecordReceived handle epoch owner present inheritor read => Sys2Proof.Machine.execTetherRecordReceived handle epoch owner present inheritor read s
  | .tetherMsgTimeout dt handle => Sys2Proof.Machine.execTetherMsgTimeout dt handle s
  | .shipResolveTimeout dt handle => Sys2Proof.Machine.execShipResolveTimeout dt handle s
  | .spoolEntriesReceived src handle first kvLen entries seeds => Sys2Proof.Machine.execSpoolEntriesReceived src handle first kvLen entries seeds s
  | .spoolAckReceived handle upto => Sys2Proof.Machine.execSpoolAckReceived handle upto s
  | .mirrorAckTimeout dt handle => Sys2Proof.Machine.execMirrorAckTimeout dt handle s
  | .mirrorResendPeriod dt handle => Sys2Proof.Machine.execMirrorResendPeriod dt handle s
  | .spoolGatherDone handle kvLen entries seeds => Sys2Proof.Machine.execSpoolGatherDone handle kvLen entries seeds s
  | .workTileEnd dt gore torn => Sys2Proof.Machine.execWorkTileEnd dt gore torn s
  | .itemEnd dt gore => Sys2Proof.Machine.execItemEnd dt gore s
  | .itemYield dt gore => Sys2Proof.Machine.execItemYield dt gore s
  | .itemInputsArrive item => Sys2Proof.Machine.execItemInputsArrive item s
  | .preemptTimeout dt cls => Sys2Proof.Machine.execPreemptTimeout dt cls s
  | .panelIdleGate dt panel => Sys2Proof.Machine.execPanelIdleGate dt panel s
  | .panelReady panel => Sys2Proof.Machine.execPanelReady panel s
  | .goreFence gore cause => Sys2Proof.Machine.execGoreFence gore cause s
  | .panelPowerFault panel => Sys2Proof.Machine.execPanelPowerFault panel s
  | .goreTileCntClr value => Sys2Proof.Machine.execGoreTileCntClr value s
  | .goreTileInjArm value => Sys2Proof.Machine.execGoreTileInjArm value s
  | .goreShareWrite ctx value => Sys2Proof.Machine.execGoreShareWrite ctx value s
  | .goreRoleMixWrite value => Sys2Proof.Machine.execGoreRoleMixWrite value s
  | .goreCntClr value => Sys2Proof.Machine.execGoreCntClr value s
  | .goreCtxCntClr value => Sys2Proof.Machine.execGoreCtxCntClr value s
  | .demotionStart tier region => Sys2Proof.Machine.execDemotionStart tier region s
  | .demoteAfterExpiry dt handle => Sys2Proof.Machine.execDemoteAfterExpiry dt handle s
  | .demotionWriteDone page => Sys2Proof.Machine.execDemotionWriteDone page s
  | .promotionReadDone page poison => Sys2Proof.Machine.execPromotionReadDone page poison s
  | .readThroughDone page poison => Sys2Proof.Machine.execReadThroughDone page poison s
  | .heatDecayTick dt => Sys2Proof.Machine.execHeatDecayTick dt s
  | .tierAccessTimeout dt obj => Sys2Proof.Machine.execTierAccessTimeout dt obj s
  | .tierObjectFault obj up => Sys2Proof.Machine.execTierObjectFault obj up s
  | .t1StallTimeout dt handle => Sys2Proof.Machine.execT1StallTimeout dt handle s
  | .wearBudgetTick dt => Sys2Proof.Machine.execWearBudgetTick dt s
  | .wearBudgetSave dt => Sys2Proof.Machine.execWearBudgetSave dt s
  | .flashControllerEnumerated port ident spaces => Sys2Proof.Machine.execFlashControllerEnumerated port ident spaces s
  | .tierPolicy k => Sys2Proof.Machine.execTierPolicy k s
  | .tierFlush k => Sys2Proof.Machine.execTierFlush k s
  | .tierObjFailedClear obj value => Sys2Proof.Machine.execTierObjFailedClear obj value s
  | .tierObjEnWrite obj value => Sys2Proof.Machine.execTierObjEnWrite obj value s
  | .tierWmWrite value => Sys2Proof.Machine.execTierWmWrite value s
  | .tierCntClr value => Sys2Proof.Machine.execTierCntClr value s
  | .tierStallClr value => Sys2Proof.Machine.execTierStallClr value s
  | .modelShapeDeclare k table => Sys2Proof.Machine.execModelShapeDeclare k table s
  | .modelShapeUpdate k table => Sys2Proof.Machine.execModelShapeUpdate k table s
  | .modelShapeRemove k => Sys2Proof.Machine.execModelShapeRemove k s
  | .stepSubmit k list => Sys2Proof.Machine.execStepSubmit k list s
  | .attend k => Sys2Proof.Machine.execAttend k s
  | .htiWBrkickWrite port ctx value => Sys2Proof.Machine.execHtiWBrkickWrite port ctx value s
  | .layerComplete ctx stepId => Sys2Proof.Machine.execLayerComplete ctx stepId s
  | .stepItemEnd ctx stepId entry read => Sys2Proof.Machine.execStepItemEnd ctx stepId entry read s
  | .stepEnd dt ctx stepId => Sys2Proof.Machine.execStepEnd dt ctx stepId s
  | .kickLimitTimeout dt ctx stepId => Sys2Proof.Machine.execKickLimitTimeout dt ctx stepId s
  | .stepOutputWriteFail ctx stepId => Sys2Proof.Machine.execStepOutputWriteFail ctx stepId s
  | .kvAppendAppend k rows => Sys2Proof.Machine.execKvAppendAppend k rows s
  | .kvAppendStream k => Sys2Proof.Machine.execKvAppendStream k s
  | .goreBridleWrite ctx value => Sys2Proof.Machine.execGoreBridleWrite ctx value s
  | .bar4UnbackedAccess port vf offset len value isWrite => Sys2Proof.Machine.execBar4UnbackedAccess port vf offset len value isWrite s
  | .goreAttnCntClr value => Sys2Proof.Machine.execGoreAttnCntClr value s
  | .textAppend k busy input => Sys2Proof.Machine.execTextAppend k busy input s
  | .textTokenize k busy input wrote => Sys2Proof.Machine.execTextTokenize k busy input wrote s
  | .tableLoadLoad k src => Sys2Proof.Machine.execTableLoadLoad k src s
  | .tableLoadRemove k => Sys2Proof.Machine.execTableLoadRemove k s
  | .tokeniserLaneFault lane ctx handle => Sys2Proof.Machine.execTokeniserLaneFault lane ctx handle s
  | .txtCntClr value => Sys2Proof.Machine.execTxtCntClr value s
  | .streamConfOpen k block => Sys2Proof.Machine.execStreamConfOpen k block s
  | .streamConfUpdate k block => Sys2Proof.Machine.execStreamConfUpdate k block s
  | .streamConfRestart k block read => Sys2Proof.Machine.execStreamConfRestart k block read s
  | .streamConfClose k read => Sys2Proof.Machine.execStreamConfClose k read s
  | .sample k list rows reads => Sys2Proof.Machine.execSample k list rows reads s
  | .outputRingBacklogPoll dt handle read => Sys2Proof.Machine.execOutputRingBacklogPoll dt handle read s
  | .grammarLoadLoad k src => Sys2Proof.Machine.execGrammarLoadLoad k src s
  | .grammarLoadRemove k => Sys2Proof.Machine.execGrammarLoadRemove k s
  | .grammarBindBind k => Sys2Proof.Machine.execGrammarBindBind k s
  | .grammarBindUnbind k => Sys2Proof.Machine.execGrammarBindUnbind k s
  | .maskLaneFault lane ctx handle => Sys2Proof.Machine.execMaskLaneFault lane ctx handle s
  | .decCntClr value => Sys2Proof.Machine.execDecCntClr value s
  | .indexCreateCreate k => Sys2Proof.Machine.execIndexCreateCreate k s
  | .indexCreateDestroy k => Sys2Proof.Machine.execIndexCreateDestroy k s
  | .codebookLoad k src => Sys2Proof.Machine.execCodebookLoad k src s
  | .indexInsert k src metas => Sys2Proof.Machine.execIndexInsert k src metas s
  | .indexDelete k ids => Sys2Proof.Machine.execIndexDelete k ids s
  | .indexCommit index => Sys2Proof.Machine.execIndexCommit index s
  | .recallQuery k queries filters => Sys2Proof.Machine.execRecallQuery k queries filters s
  | .queryRoundEnd dt k unread => Sys2Proof.Machine.execQueryRoundEnd dt k unread s
  | .compactionStart slot list => Sys2Proof.Machine.execCompactionStart slot list s
  | .compactionOldChainFree slot list => Sys2Proof.Machine.execCompactionOldChainFree slot list s
  | .helperLoadLoad k src => Sys2Proof.Machine.execHelperLoadLoad k src s
  | .helperLoadRemove k => Sys2Proof.Machine.execHelperLoadRemove k s
  | .encoderRun k tokens offs => Sys2Proof.Machine.execEncoderRun k tokens offs s
  | .rclCntClr value => Sys2Proof.Machine.execRclCntClr value s
  | .rclCtxCntClr value => Sys2Proof.Machine.execRclCtxCntClr value s
  | .lendSet k => Sys2Proof.Machine.execLendSet k s
  | .lendReclaimTimeout dt => Sys2Proof.Machine.execLendReclaimTimeout dt s
  | .extentAddRequest port ld gib => Sys2Proof.Machine.execExtentAddRequest port ld gib s
  | .extentReleasedByBorrower port ld base => Sys2Proof.Machine.execExtentReleasedByBorrower port ld base s
  | .extentReleaseRequest obj => Sys2Proof.Machine.execExtentReleaseRequest obj s
  | .poolRangeAppears port dpa bytes kind lender => Sys2Proof.Machine.execPoolRangeAppears port dpa bytes kind lender s
  | .cxlMemRequest port ld addr store ecc bad write => Sys2Proof.Machine.execCxlMemRequest port ld addr store ecc bad write s
  | .regionMapCreate k => Sys2Proof.Machine.execRegionMapCreate k s
  | .regionMapDestroy k => Sys2Proof.Machine.execRegionMapDestroy k s
  | .regionPublish k => Sys2Proof.Machine.execRegionPublish k s
  | .publishOpenReceived src token region expect bytes => Sys2Proof.Machine.execPublishOpenReceived src token region expect bytes s
  | .publishReadyReceived token data => Sys2Proof.Machine.execPublishReadyReceived token data s
  | .publishCommitReceived src token region expect data => Sys2Proof.Machine.execPublishCommitReceived src token region expect data s
  | .publishAnswerReceived token ans gen => Sys2Proof.Machine.execPublishAnswerReceived token ans gen s
  | .publishCommitResend dt token => Sys2Proof.Machine.execPublishCommitResend dt token s
  | .stageLimitExpiry dt slot src token => Sys2Proof.Machine.execStageLimitExpiry dt slot src token s
  | .regionAttachAttach k => Sys2Proof.Machine.execRegionAttachAttach k s
  | .regionAttachDetach k => Sys2Proof.Machine.execRegionAttachDetach k s
  | .poolCntClr value => Sys2Proof.Machine.execPoolCntClr value s
  | .ringFrameReceived port frame => Sys2Proof.Machine.execRingFrameReceived port frame s
  | .ringFrameForward port frame => Sys2Proof.Machine.execRingFrameForward port frame s
  | .linkFrameError port fec sent => Sys2Proof.Machine.execLinkFrameError port fec sent s
  | .ringLinkRetrain port lanes fails => Sys2Proof.Machine.execRingLinkRetrain port lanes fails s
  | .ringLinkDown port => Sys2Proof.Machine.execRingLinkDown port s
  | .ringCablePlug port plugged => Sys2Proof.Machine.execRingCablePlug port plugged s
  | .reorderGapTimeout dt src ctx vc => Sys2Proof.Machine.execReorderGapTimeout dt src ctx vc s
  | .routeHoldTimeout dt => Sys2Proof.Machine.execRouteHoldTimeout dt s
  | .helloReceived member leader ids => Sys2Proof.Machine.execHelloReceived member leader ids s
  | .mapFormTimeout dt => Sys2Proof.Machine.execMapFormTimeout dt s
  | .joinReceived src boot links => Sys2Proof.Machine.execJoinReceived src boot links s
  | .mapChangeAckReceived src => Sys2Proof.Machine.execMapChangeAckReceived src s
  | .mapCommitReceived src epoch msg => Sys2Proof.Machine.execMapCommitReceived src epoch msg s
  | .mapBeatPeriod dt => Sys2Proof.Machine.execMapBeatPeriod dt s
  | .mapBeatReceived src epoch links => Sys2Proof.Machine.execMapBeatReceived src epoch links s
  | .heartbeatReceived src boot links want => Sys2Proof.Machine.execHeartbeatReceived src boot links want s
  | .memberLossTimeout dt member => Sys2Proof.Machine.execMemberLossTimeout dt member s
  | .leaderCandidacyTimeout dt => Sys2Proof.Machine.execLeaderCandidacyTimeout dt s
  | .leaderProposalReceived src candidate => Sys2Proof.Machine.execLeaderProposalReceived src candidate s
  | .isolateTimeout dt => Sys2Proof.Machine.execIsolateTimeout dt s
  | .expelledReceived  => Sys2Proof.Machine.execExpelledReceived  s
  | .bypassLoopbackTrained pair => Sys2Proof.Machine.execBypassLoopbackTrained pair s
  | .pauseReceived port => Sys2Proof.Machine.execPauseReceived port s
  | .pauseAckReceived pair side => Sys2Proof.Machine.execPauseAckReceived pair side s
  | .bypassOpeningTimeout dt pair => Sys2Proof.Machine.execBypassOpeningTimeout dt pair s
  | .bypassOpenTrainTimeout dt pair => Sys2Proof.Machine.execBypassOpenTrainTimeout dt pair s
  | .bypassRetryTimeout dt pair => Sys2Proof.Machine.execBypassRetryTimeout dt pair s
  | .ringBypForceClose value => Sys2Proof.Machine.execRingBypForceClose value s
  | .retentionHeartbeatLoss dt => Sys2Proof.Machine.execRetentionHeartbeatLoss dt s
  | .evacuate k => Sys2Proof.Machine.execEvacuate k s
  | .evacuationTransfersDone  => Sys2Proof.Machine.execEvacuationTransfersDone  s
  | .evacuationLimitExpiry dt => Sys2Proof.Machine.execEvacuationLimitExpiry dt s
  | .ringVcWrite vc value => Sys2Proof.Machine.execRingVcWrite vc value s
  | .ringMapCfgWrite value => Sys2Proof.Machine.execRingMapCfgWrite value s
  | .ringCntClr value => Sys2Proof.Machine.execRingCntClr value s
  | .refillInstant dt => Sys2Proof.Machine.execRefillInstant dt s
  | .portFrameStart dt port credit => Sys2Proof.Machine.execPortFrameStart dt port credit s
  | .deferTimeout dt src ctx vc => Sys2Proof.Machine.execDeferTimeout dt src ctx vc s
  | .policeNackReceived src ctx vc seq hint => Sys2Proof.Machine.execPoliceNackReceived src ctx vc seq hint s
  | .queueSampleTick dt => Sys2Proof.Machine.execQueueSampleTick dt s
  | .shaperSet k => Sys2Proof.Machine.execShaperSet k s
  | .policerSet k => Sys2Proof.Machine.execPolicerSet k s
  | .shpHistClr value => Sys2Proof.Machine.execShpHistClr value s
  | .shpCntClr value => Sys2Proof.Machine.execShpCntClr value s
  | .shpCtxCntClr value => Sys2Proof.Machine.execShpCtxCntClr value s
  | .roleSet k => Sys2Proof.Machine.execRoleSet k s
  | .admissionEvaluation dt => Sys2Proof.Machine.execAdmissionEvaluation dt s
  | .storageMeterTick dt => Sys2Proof.Machine.execStorageMeterTick dt s
  | .meterCheckpoint dt => Sys2Proof.Machine.execMeterCheckpoint dt s
  | .meterReadLive k wrote => Sys2Proof.Machine.execMeterReadLive k wrote s
  | .meterReadFetch k wrote => Sys2Proof.Machine.execMeterReadFetch k wrote s
  | .meterReadAck k => Sys2Proof.Machine.execMeterReadAck k s
  | .remoteMeterRequest msg => Sys2Proof.Machine.execRemoteMeterRequest msg s
  | .remoteMeterTimeout dt k => Sys2Proof.Machine.execRemoteMeterTimeout dt k s
  | .mtrCompTagWrite ctx value => Sys2Proof.Machine.execMtrCompTagWrite ctx value s
  | .ctlAdmCntClr value => Sys2Proof.Machine.execCtlAdmCntClr value s
  | .mtrCntClr value => Sys2Proof.Machine.execMtrCntClr value s
  | .ctlSesCntClr value => Sys2Proof.Machine.execCtlSesCntClr value s
  | .jobKeySet k => Sys2Proof.Machine.execJobKeySet k s
  | .jobKeyRetire k => Sys2Proof.Machine.execJobKeyRetire k s
  | .keySlotEmptied ctx slot => Sys2Proof.Machine.execKeySlotEmptied ctx slot s
  | .secFabricTxSlotWrite value => Sys2Proof.Machine.execSecFabricTxSlotWrite value s
  | .secCntClr value => Sys2Proof.Machine.execSecCntClr value s
  | .spdmRequest path req => Sys2Proof.Machine.execSpdmRequest path req s
  | .ideKmRequest port session req => Sys2Proof.Machine.execIdeKmRequest port session req s
  | .ideStreamFailure port stream => Sys2Proof.Machine.execIdeStreamFailure port stream s
  | .lockInterfaceRequest port session ctx stream => Sys2Proof.Machine.execLockInterfaceRequest port session ctx stream s
  | .startInterfaceRequest port session ctx => Sys2Proof.Machine.execStartInterfaceRequest port session ctx s
  | .stopInterfaceRequest port session ctx reads => Sys2Proof.Machine.execStopInterfaceRequest port session ctx reads s
  | .tdispGetRequest port session ctx kind => Sys2Proof.Machine.execTdispGetRequest port session ctx kind s
  | .svnCommit chan => Sys2Proof.Machine.execSvnCommit chan s
  | .fwStage chan good => Sys2Proof.Machine.execFwStage chan good s
  | .importKeySet chan => Sys2Proof.Machine.execImportKeySet chan s
  | .fabricKeySet chan => Sys2Proof.Machine.execFabricKeySet chan s
  | .ownerTransfer chan good => Sys2Proof.Machine.execOwnerTransfer chan good s
  | .debugUnlock chan good => Sys2Proof.Machine.execDebugUnlock chan good s
  | .zeroize chan => Sys2Proof.Machine.execZeroize chan s
  | .mbInfo chan => Sys2Proof.Machine.execMbInfo chan s
  | .mbEcho chan => Sys2Proof.Machine.execMbEcho chan s
  | .faultArchiveRead chan => Sys2Proof.Machine.execFaultArchiveRead chan s
  | .resetCause chan => Sys2Proof.Machine.execResetCause chan s
  | .htiWMbreqSeal port chan value => Sys2Proof.Machine.execHtiWMbreqSeal port chan value s
  | .mailboxResponseReady chan => Sys2Proof.Machine.execMailboxResponseReady chan s
  | .htiWMbrspRead port chan => Sys2Proof.Machine.execHtiWMbrspRead port chan s
  | .mctpSecureMessage k value data => Sys2Proof.Machine.execMctpSecureMessage k value data s
  | .mbxSumAck port value => Sys2Proof.Machine.execMbxSumAck port value s
  | .doorbellWordWriteDone port => Sys2Proof.Machine.execDoorbellWordWriteDone port s
  | .doorbellWordWriteFail port => Sys2Proof.Machine.execDoorbellWordWriteFail port s
  | .htiWEvtEnable port ctx value => Sys2Proof.Machine.execHtiWEvtEnable port ctx value s
  | .htiWEvtDisable port ctx value => Sys2Proof.Machine.execHtiWEvtDisable port ctx value s
  | .htiWEvtHeadWrite port ctx value => Sys2Proof.Machine.execHtiWEvtHeadWrite port ctx value s
  | .eventRecordWriteFail ctx => Sys2Proof.Machine.execEventRecordWriteFail ctx s
  | .htiWFltHeadWrite port ctx value => Sys2Proof.Machine.execHtiWFltHeadWrite port ctx value s
  | .mbxCntClr value => Sys2Proof.Machine.execMbxCntClr value s
  | .powerUp dt => Sys2Proof.Machine.execPowerUp dt s
  | .porRelease dt cables flash perst spiReq => Sys2Proof.Machine.execPorRelease dt cables flash perst spiReq s
  | .bootRomVerify dt a b patch => Sys2Proof.Machine.execBootRomVerify dt a b patch s
  | .perstNDeassert dt image bad0 bad1 => Sys2Proof.Machine.execPerstNDeassert dt image bad0 bad1 s
  | .hbmStackTrained stack => Sys2Proof.Machine.execHbmStackTrained stack s
  | .panelTestDone panel pass => Sys2Proof.Machine.execPanelTestDone panel pass s
  | .t1TrainingLimitExpiry dt => Sys2Proof.Machine.execT1TrainingLimitExpiry dt s
  | .nvmStoreStore k wrote => Sys2Proof.Machine.execNvmStoreStore k wrote s
  | .nvmStoreClear k wrote => Sys2Proof.Machine.execNvmStoreClear k wrote s
  | .nvmCntClr value => Sys2Proof.Machine.execNvmCntClr value s
  | .ctlFnDisableStop f value => Sys2Proof.Machine.execCtlFnDisableStop f value s
  | .ctlFnDisableDrain f value => Sys2Proof.Machine.execCtlFnDisableDrain f value s
  | .ctlFnEnable f value => Sys2Proof.Machine.execCtlFnEnable f value s
  | .fnAcceptedWorkDone f => Sys2Proof.Machine.execFnAcceptedWorkDone f s
  | .fnDisableTimeout dt f => Sys2Proof.Machine.execFnDisableTimeout dt f s
  | .ctlResetSoft value => Sys2Proof.Machine.execCtlResetSoft value s
  | .softResetEnd  => Sys2Proof.Machine.execSoftResetEnd  s
  | .ctlResetWarm value => Sys2Proof.Machine.execCtlResetWarm value s
  | .ctlFnRst value => Sys2Proof.Machine.execCtlFnRst value s
  | .fnResetEnd f => Sys2Proof.Machine.execFnResetEnd f s
  | .ctlCtxRst value => Sys2Proof.Machine.execCtlCtxRst value s
  | .ctxResetEnd ctx => Sys2Proof.Machine.execCtxResetEnd ctx s
  | .ctlRstCntClr value => Sys2Proof.Machine.execCtlRstCntClr value s
  | .p2IdleEntry dt => Sys2Proof.Machine.execP2IdleEntry dt s
  | .p2Exit  => Sys2Proof.Machine.execP2Exit  s
  | .p3Req value => Sys2Proof.Machine.execP3Req value s
  | .p3EntryComplete  => Sys2Proof.Machine.execP3EntryComplete  s
  | .p3LimitExpiry dt => Sys2Proof.Machine.execP3LimitExpiry dt s
  | .pmWakeNAssert dt held => Sys2Proof.Machine.execPmWakeNAssert dt held s
  | .perstNAssert dt => Sys2Proof.Machine.execPerstNAssert dt s
  | .wholeFlewickFailure die unit code => Sys2Proof.Machine.execWholeFlewickFailure die unit code s
  | .refclkLoss  => Sys2Proof.Machine.execRefclkLoss  s
  | .inputLowVin dt => Sys2Proof.Machine.execInputLowVin dt s
  | .lowVinClear dt => Sys2Proof.Machine.execLowVinClear dt s
  | .inputUndervoltage dt => Sys2Proof.Machine.execInputUndervoltage dt s
  | .inputOvervoltage dt => Sys2Proof.Machine.execInputOvervoltage dt s
  | .drogueAdmit dt => Sys2Proof.Machine.execDrogueAdmit dt s
  | .limiterTick dt p100 i10 p1 vin => Sys2Proof.Machine.execLimiterTick dt p100 i10 p1 vin s
  | .thermalTick dt temps => Sys2Proof.Machine.execThermalTick dt temps s
  | .thermalTrip dt sensor => Sys2Proof.Machine.execThermalTrip dt sensor s
  | .tripLockoutEnd dt => Sys2Proof.Machine.execTripLockoutEnd dt s
  | .pwrStepWrite value => Sys2Proof.Machine.execPwrStepWrite value s
  | .pwrClkMaxWrite value => Sys2Proof.Machine.execPwrClkMaxWrite value s
  | .pwrCntClr value => Sys2Proof.Machine.execPwrCntClr value s
  | .flashPrsntChange dt port present => Sys2Proof.Machine.execFlashPrsntChange dt port present s
  | .flashPerstRelease dt port => Sys2Proof.Machine.execFlashPerstRelease dt port s
  | .flashBringupRetry dt port => Sys2Proof.Machine.execFlashBringupRetry dt port s
  | .poolPerstNInput port asserted => Sys2Proof.Machine.execPoolPerstNInput port asserted s
  | .spiReqAssert  => Sys2Proof.Machine.execSpiReqAssert  s
  | .spiReqDeassert  => Sys2Proof.Machine.execSpiReqDeassert  s
  | .svcAttnPress dt held => Sys2Proof.Machine.execSvcAttnPress dt held s
  | .i3cEntdaa addr => Sys2Proof.Machine.execI3cEntdaa addr s
  | .ctlPinCntClr value => Sys2Proof.Machine.execCtlPinCntClr value s
  | .hostPortLinkChange port rate width cxl => Sys2Proof.Machine.execHostPortLinkChange port rate width cxl s
  | .poolPortLinkChange port rate width up => Sys2Proof.Machine.execPoolPortLinkChange port rate width up s
  | .ringPortTrained port peer peerPort lanes fails => Sys2Proof.Machine.execRingPortTrained port peer peerPort lanes fails s
  | .logicalDeviceBind port ld bind => Sys2Proof.Machine.execLogicalDeviceBind port ld bind s
  | .engineLaneTestDone txt dec => Sys2Proof.Machine.execEngineLaneTestDone txt dec s
  | .vinHighRideThrough dt high => Sys2Proof.Machine.execVinHighRideThrough dt high s
  | .jtagTapOperation op => Sys2Proof.Machine.execJtagTapOperation op s
  | .registerReadLogged bar port offset size => Sys2Proof.Machine.execRegisterReadLogged bar port offset size s
  | .regionHoldMessageReceived src token region msg => Sys2Proof.Machine.execRegionHoldMessageReceived src token region msg s
  | .mapRequestReceived src => Sys2Proof.Machine.execMapRequestReceived src s
  | .spoolGatherRequestReceived src handle => Sys2Proof.Machine.execSpoolGatherRequestReceived src handle s
  | .sessionRoleNoticeReceived src handle note => Sys2Proof.Machine.execSessionRoleNoticeReceived src handle note s
  | .serviceLedBlinkEnd dt => Sys2Proof.Machine.execServiceLedBlinkEnd dt s

end Sys2Proof.Machine
end

