-- ==== Sys2Proof/Machine/Pieces.lean ====
section
/-! DEFINITION. The pieces of the state, in which statements say what a command may change. -/

namespace Sys2Proof.Machine

/-- The pieces of the state that a command may change: the tables of `State`, and the registers in groups named as the specification
names them. -/
inductive Piece where
  | latch | hti | mbx | boot | ses | tier | gore | attn | pwr | pins | fab | fleet | dec | pool | rcl | ring | sec
  | HTI_W_SQDB | HTI_W_CQDB | HTI_W_ASQ | HTI_W_ACQ | HTI_W_AQCFG | HTI_W_QFAULT | HTI_ID | HTI_TIME | HTI_PORT | HTI_ERRLOG | HTI_CTX
  | HTI_CNT | CTL_SES | CTL_SES_CNT | GORE_TILE_CNT | GORE_TILE | TIER_STALL | TIER_CFG | TIER_WM | TIER_HEAT | TIER_OCC | TIER_OCC3
  | TIER_RSV | TIER_OBJ | TIER_DRV | TIER_CNT | GORE_CFG | GORE_STEP | GORE_ROLE | GORE_GATE | GORE_HELPER | GORE_PANEL | GORE_SHARE
  | GORE_CTX | GORE_CNT | GORE_CLASS | GORE_CTX_CNT | GORE_ATTN | GORE_BRIDLE | GORE_SHAPE | GORE_ATTN_CNT | HTI_W_BRKICK | HTI_W_BRSTS
  | TXT_CFG | TXT_LANES | TXT_SLOT | TXT_CTX | TXT_CNT | DEC_CFG | DEC_LANES | DEC_GAUGE | DEC_GRAM | DEC_CTX | DEC_CNT | RCL_CFG
  | RCL_GAUGE | RCL_CTX | RCL_IDX | RCL_HELPER | RCL_CNT | RCL_CTX_CNT | POOL_CFG | POOL_PORT | POOL_LEND | POOL_OBJ | POOL_REGION
  | POOL_CNT | RING_CFG | RING_MAP | RING_STS | RING_PORT | RING_VC | RING_BYP | RING_EVAC | RING_LED | RING_CNT | RING_PORT_CNT
  | RING_INHERIT | SHP_PORT | SHP_VC | SHP_SAMPLE | SHP_HIST | SHP_CTXQ | SHP_HPOL | SHP_RPOL | SHP_CNT | SHP_CTX_CNT | CTL_ADM
  | CTL_ADM_CNT | MTR_CFG | MTR_SEQ | MTR_ARCH | MTR_COMP | MTR_LIVE | MTR_CNT | SEC_ID | SEC_BOOT | SEC_SVN | SEC_OWNER | SEC_CFG
  | SEC_DEBUG | SEC_FABRIC | SEC_IDE | SEC_CTX | SEC_CNT | HTI_W_MBREQ | HTI_W_MBRSP | HTI_W_MBSTS | HTI_W_MBVEC | HTI_W_EVT | HTI_W_FLT
  | MBX_PORT | MBX_SUM | MBX_MODE | MBX_CTX | MBX_S | MBX_CNT | CTL_READY | CTL_BOOT | CTL_FN | NVM_SS | NVM_CNT | CTL_RESET | CTL_CTX
  | CTL_PM | CTL_RST | CTL_RT | CTL_RST_CNT | PWR_STEP | PWR_LIMIT | PWR_CLK | PWR_THERM | PWR_STS | PWR_DROGUE | PWR_TEMP | PWR_CNT
  | CTL_PIN | CTL_PIN_CNT
  deriving DecidableEq, Repr

/-- The group of a register field. -/
def Fld.piece (f : Fld) : Piece :=
  match f with
  | .HTI_W_SQDB_TAIL => .HTI_W_SQDB
  | .HTI_W_CQDB_HEAD => .HTI_W_CQDB
  | .HTI_W_ASQ_BASE => .HTI_W_ASQ
  | .HTI_W_ACQ_BASE => .HTI_W_ACQ
  | .HTI_W_AQCFG_SQLOG | .HTI_W_AQCFG_CQLOG | .HTI_W_AQCFG_EN | .HTI_W_AQCFG_RDY | .HTI_W_AQCFG_FAULT | .HTI_W_AQCFG_VEC => .HTI_W_AQCFG
  | .HTI_W_QFAULT_PAIR => .HTI_W_QFAULT
  | .HTI_ID_DEVICE | .HTI_ID_REV => .HTI_ID
  | .HTI_TIME_COUNT => .HTI_TIME
  | .HTI_PORT_CTL_MODE | .HTI_PORT_CTL_SPEED_MAX | .HTI_PORT_CTL_B4SZ | .HTI_PORT_CTL_SRIOV | .HTI_PORT_STS_UP | .HTI_PORT_STS_MODE
  | .HTI_PORT_STS_RATE | .HTI_PORT_STS_WIDTH => .HTI_PORT
  | .HTI_ERRLOG_CTL_NEXT | .HTI_ERRLOG_CTL_COUNT | .HTI_ERRLOG_CTL_OVF | .HTI_ERRLOG_CTL_CLR | .HTI_ERRLOG_A_KIND | .HTI_ERRLOG_A_CTX
  | .HTI_ERRLOG_A_PORT | .HTI_ERRLOG_A_TIME | .HTI_ERRLOG_B_OFFSET | .HTI_ERRLOG_B_BAR => .HTI_ERRLOG
  | .HTI_CTX_EN | .HTI_CTX_PORT | .HTI_CTX_MGMT | .HTI_CTX_QMAX => .HTI_CTX
  | .HTI_CNT_CLR_CTX | .HTI_CNT_COUNT => .HTI_CNT
  | .CTL_SES_CFG_TETHER_MSG_LIMIT | .CTL_SES_CFG_TETHER_TRIES | .CTL_SES_CFG_MIRROR_ACK_LIMIT | .CTL_SES_CFG_SHIP_RESOLVE_LIMIT
  | .CTL_SES_PARTNER_PARTNER | .CTL_SES_PARTNER_VALID | .CTL_SES_PARTNER_BOOTGEN | .CTL_SES_COST_T2_RATE | .CTL_SES_COST_T3_RATE
  | .CTL_SES_COST_REBUILD_RATE | .CTL_SES_COST_T3_LAT_US | .CTL_SES_GAUGE_LIVE | .CTL_SES_GAUGE_ALOFT | .CTL_SES_CTX_MAX_SESS
  | .CTL_SES_CTX_SHIP_IN => .CTL_SES
  | .CTL_SES_CNT_CLR_CLR | .CTL_SES_CNT_COUNT => .CTL_SES_CNT
  | .GORE_TILE_CNT_COUNT | .GORE_TILE_CNT_CLR_CLR => .GORE_TILE_CNT
  | .GORE_TILE_LAST_A_HANDLE | .GORE_TILE_LAST_B_COLUMN | .GORE_TILE_LAST_B_POINT | .GORE_TILE_LAST_B_KIND | .GORE_TILE_LAST_B_LAYER
  | .GORE_TILE_LAST_B_KV_HEAD | .GORE_TILE_LAST_B_HALF | .GORE_TILE_LAST_B_VALID | .GORE_TILE_INJ_ARM | .GORE_TILE_INJ_MODE
  | .GORE_TILE_INJ_CTX => .GORE_TILE
  | .TIER_STALL_LIMIT_LIMIT | .TIER_STALL_COUNT | .TIER_STALL_CLR_CTX => .TIER_STALL
  | .TIER_CFG_T2_EXPECT_US | .TIER_CFG_T3_EXPECT_US => .TIER_CFG
  | .TIER_WM_T1_HIGH | .TIER_WM_T1_LOW | .TIER_WM_T2_HIGH | .TIER_WM_T2_LOW => .TIER_WM
  | .TIER_HEAT_DECAY_MS | .TIER_HEAT_PROMOTE1 | .TIER_HEAT_PROMOTE2 | .TIER_HEAT_DEMOTE1 | .TIER_HEAT_DEMOTE2 => .TIER_HEAT
  | .TIER_OCC_T1_PAGES | .TIER_OCC_T2_PAGES => .TIER_OCC
  | .TIER_OCC3_T3_PAGES => .TIER_OCC3
  | .TIER_RSV_USED_MIB | .TIER_RSV_PEAK_MIB | .TIER_RSV_FULLS => .TIER_RSV
  | .TIER_OBJ_A_PRESENT | .TIER_OBJ_A_UP | .TIER_OBJ_A_EN | .TIER_OBJ_A_FAILED | .TIER_OBJ_A_REASON | .TIER_OBJ_A_PORT | .TIER_OBJ_A_NSID
  | .TIER_OBJ_B_CAP_PAGES => .TIER_OBJ
  | .TIER_DRV_CAP_GIB_DAY | .TIER_DRV_CAP_EN | .TIER_DRV_WEAR_BUDGET_MIB | .TIER_DRV_WEAR_WRITTEN_GIB => .TIER_DRV
  | .TIER_CNT_COUNT | .TIER_CNT_CLR_CLR => .TIER_CNT
  | .GORE_CFG_SEG_TILES | .GORE_CFG_PREEMPT_US | .GORE_CFG_YIELD_US => .GORE_CFG
  | .GORE_STEP_LIM_PER_CTX => .GORE_STEP
  | .GORE_ROLE_ROLE | .GORE_ROLE_PENDING | .GORE_ROLE_PENDING_VALID | .GORE_ROLE_MIX_ATTN | .GORE_ROLE_MIX_ASSIST | .GORE_ROLE_MIX_RECALL => .GORE_ROLE
  | .GORE_GATE_EN | .GORE_GATE_IDLE_US => .GORE_GATE
  | .GORE_HELPER_T1_GIB => .GORE_HELPER
  | .GORE_PANEL_FENCED | .GORE_PANEL_GATED | .GORE_PANEL_FAULT | .GORE_PANEL_USABLE => .GORE_PANEL
  | .GORE_SHARE_WEIGHT | .GORE_SHARE_CAP => .GORE_SHARE
  | .GORE_CTX_STS_HELD => .GORE_CTX
  | .GORE_CNT_COUNT | .GORE_CNT_CLR_CLR => .GORE_CNT
  | .GORE_CLASS_NS_COUNT => .GORE_CLASS
  | .GORE_CTX_CNT_COUNT | .GORE_CTX_CNT_CLR_CTX => .GORE_CTX_CNT
  | .GORE_ATTN_CFG_KICK_LIMIT_MS => .GORE_ATTN
  | .GORE_BRIDLE_MIB | .GORE_BRIDLE_EFF_MIB => .GORE_BRIDLE
  | .GORE_SHAPE_A_DECLARED | .GORE_SHAPE_A_OWNER | .GORE_SHAPE_A_LATENT | .GORE_SHAPE_A_LAYERS | .GORE_SHAPE_A_QHEADS
  | .GORE_SHAPE_A_KVHEADS | .GORE_SHAPE_A_DK | .GORE_SHAPE_A_DV | .GORE_SHAPE_A_SINKS | .GORE_SHAPE_B_SESSIONS | .GORE_SHAPE_B_KV_BYTES => .GORE_SHAPE
  | .GORE_ATTN_CNT_COUNT | .GORE_ATTN_CNT_CLR_CLR => .GORE_ATTN_CNT
  | .HTI_W_BRKICK_STEP_ID | .HTI_W_BRKICK_LAYER | .HTI_W_BRKICK_MBZ => .HTI_W_BRKICK
  | .HTI_W_BRSTS_STEP_ID | .HTI_W_BRSTS_LAYER | .HTI_W_BRSTS_REASON | .HTI_W_BRSTS_ERRORS | .HTI_W_BRSTS_VALID => .HTI_W_BRSTS
  | .TXT_CFG_T1_MIB => .TXT_CFG
  | .TXT_LANES_EN | .TXT_LANES_FENCED => .TXT_LANES
  | .TXT_SLOT_A_LOADED | .TXT_SLOT_A_OWNER | .TXT_SLOT_A_MODEL | .TXT_SLOT_A_INVALID | .TXT_SLOT_A_TOKENS | .TXT_SLOT_A_UNICODE
  | .TXT_SLOT_B_BYTES | .TXT_SLOT_B_USERS => .TXT_SLOT
  | .TXT_CTX_MAX_MIB => .TXT_CTX
  | .TXT_CNT_COUNT | .TXT_CNT_CLR_CLR => .TXT_CNT
  | .DEC_CFG_GRAM_MIB => .DEC_CFG
  | .DEC_LANES_EN | .DEC_LANES_FENCED => .DEC_LANES
  | .DEC_GAUGE_STREAMS | .DEC_GAUGE_ENDED | .DEC_GAUGE_BACKLOGGED => .DEC_GAUGE
  | .DEC_GRAM_A_LOADED | .DEC_GRAM_A_OWNER | .DEC_GRAM_A_TOKENS | .DEC_GRAM_A_STATES | .DEC_GRAM_B_BYTES | .DEC_GRAM_B_USERS => .DEC_GRAM
  | .DEC_CTX_MAX_STREAMS => .DEC_CTX
  | .DEC_CNT_COUNT | .DEC_CNT_CLR_CLR => .DEC_CNT
  | .RCL_CFG_COMPACT_PCT => .RCL_CFG
  | .RCL_GAUGE_ENTRIES | .RCL_GAUGE_INDEXES | .RCL_GAUGE_HELPERS => .RCL_GAUGE
  | .RCL_CTX_MAX_ENTRIES => .RCL_CTX
  | .RCL_IDX_A_LIVE | .RCL_IDX_A_READY | .RCL_IDX_A_FAILED | .RCL_IDX_A_LOSS | .RCL_IDX_A_OWNER | .RCL_IDX_A_DIM | .RCL_IDX_A_M
  | .RCL_IDX_A_METRIC | .RCL_IDX_A_TAGS | .RCL_IDX_A_REFINE | .RCL_IDX_A_NLIST | .RCL_IDX_B_ENTRIES | .RCL_IDX_SEQ_CSEQ => .RCL_IDX
  | .RCL_HELPER_LOADED | .RCL_HELPER_OWNER | .RCL_HELPER_IN_T2 | .RCL_HELPER_PARAMS => .RCL_HELPER
  | .RCL_CNT_COUNT | .RCL_CNT_CLR_CLR => .RCL_CNT
  | .RCL_CTX_CNT_COUNT | .RCL_CTX_CNT_CLR_CTX => .RCL_CTX_CNT
  | .POOL_CFG_STAGE_LIMIT_MS => .POOL_CFG
  | .POOL_PORT_CTL_MODE | .POOL_PORT_CTL_SPEED_MAX | .POOL_PORT_CTL_LDS | .POOL_PORT_STS_UP | .POOL_PORT_STS_MODE | .POOL_PORT_STS_RATE
  | .POOL_PORT_STS_WIDTH | .POOL_PORT_STS_VIRAL_IN | .POOL_PORT_STS_VIRAL_OUT | .POOL_PORT_STS_BOUND => .POOL_PORT
  | .POOL_LEND_T1_GIB | .POOL_LEND_T2_GIB | .POOL_LEND_REGION_GIB | .POOL_LEND_USE_T1_GRANTED | .POOL_LEND_USE_T2_GRANTED
  | .POOL_LEND_USE_REGION_MIB => .POOL_LEND
  | .POOL_OBJ_WINDOW | .POOL_OBJ_HOME | .POOL_OBJ_LENDER | .POOL_OBJ_LENDER_ID => .POOL_OBJ
  | .POOL_REGION_A_LIVE | .POOL_REGION_A_OWNER | .POOL_REGION_A_HELD | .POOL_REGION_A_KIB | .POOL_REGION_B_GEN | .POOL_REGION_B_HOLDS => .POOL_REGION
  | .POOL_CNT_COUNT | .POOL_CNT_CLR_CLR => .POOL_CNT
  | .RING_CFG_XPOS | .RING_CFG_YPOS | .RING_CFG_XDIM | .RING_CFG_YDIM | .RING_CFG_FABRIC_ENC | .RING_CFG_GAP_US | .RING_CFG_HOLD_MS => .RING_CFG
  | .RING_MAP_CFG_HB_MS | .RING_MAP_CFG_ISOLATE_MS | .RING_MAP_CFG_LOSS_MS | .RING_MAP_CFG_FORM_S | .RING_MAP_CFG_EXPECT
  | .RING_MAP_EPOCH_EPOCH | .RING_MAP_STATE | .RING_MAP_BOOTGEN | .RING_MAP_PARTNER | .RING_MAP_PARTNER_VALID | .RING_MAP_LINKS => .RING_MAP
  | .RING_STS_MEMBER | .RING_STS_LEADER | .RING_STS_IS_LEADER | .RING_STS_CFG_BAD | .RING_STS_ID => .RING_STS
  | .RING_PORT_CTL_EN | .RING_PORT_STS_PRESENT | .RING_PORT_STS_UP | .RING_PORT_STS_WIDTH | .RING_PORT_STS_MISCABLED
  | .RING_PORT_STS_LANE_FAIL | .RING_PORT_STS_PEER => .RING_PORT
  | .RING_VC_BUF_KIB => .RING_VC
  | .RING_BYP_STATE | .RING_BYP_FORCE_CLOSE => .RING_BYP
  | .RING_EVAC_BTN_EN | .RING_EVAC_MODE | .RING_EVAC_LIMIT_S | .RING_EVAC_STS_STEP | .RING_EVAC_STS_LEFT_TO_GO => .RING_EVAC
  | .RING_LED_IDENT | .RING_LED_SERVICE | .RING_LED_FAULT => .RING_LED
  | .RING_CNT_COUNT | .RING_CNT_CLR_CLR => .RING_CNT
  | .RING_PORT_CNT_COUNT => .RING_PORT_CNT
  | .RING_INHERIT_LOST_ID | .RING_INHERIT_BOOTGEN | .RING_INHERIT_INHERITOR | .RING_INHERIT_VALID => .RING_INHERIT
  | .SHP_PORT_OVH | .SHP_PORT_PRIV_PCT | .SHP_PORT_PRIV_BURST_KIB => .SHP_PORT
  | .SHP_VC_PRIV | .SHP_VC_WEIGHT | .SHP_VC_RED_ACT | .SHP_VC_DEFER_US => .SHP_VC
  | .SHP_SAMPLE_TICKS | .SHP_SAMPLE_EN => .SHP_SAMPLE
  | .SHP_HIST_CLR_CLR | .SHP_HIST_DEPTH_COUNT | .SHP_HIST_DELAY_COUNT | .SHP_HIST_MAX_MAX_DEPTH | .SHP_HIST_MAX_MAX_DELAY => .SHP_HIST
  | .SHP_CTXQ_RATE | .SHP_CTXQ_BURST_KIB | .SHP_CTXQ_WEIGHT => .SHP_CTXQ
  | .SHP_HPOL_A_MODE | .SHP_HPOL_A_CIR | .SHP_HPOL_A_CBS | .SHP_HPOL_B_RATE2 | .SHP_HPOL_B_BURST2 => .SHP_HPOL
  | .SHP_RPOL_MODE | .SHP_RPOL_CIR | .SHP_RPOL_CBS | .SHP_RPOL_RATE2 | .SHP_RPOL_BURST2 => .SHP_RPOL
  | .SHP_CNT_COUNT | .SHP_CNT_CLR_CLR => .SHP_CNT
  | .SHP_CTX_CNT_COUNT | .SHP_CTX_CNT_CLR_CTX => .SHP_CTX_CNT
  | .CTL_ADM_CFG_AUTO_SHIFT | .CTL_ADM_CFG_SHIFT_PCT | .CTL_ADM_CFG_MAX_SHIFT_PCT | .CTL_ADM_CFG_MIN_FLOOR | .CTL_ADM_CFG_RELAX_MS
  | .CTL_ADM_CFG_BACKOFF_MS | .CTL_ADM_CFG_SHIFT_EVENT_MS | .CTL_ADM_LIM_DESC_MIN | .CTL_ADM_LIM_ALOFT_HEAD | .CTL_ADM_LIM_T1_PCT
  | .CTL_ADM_LIM_ATTN_WAIT_US | .CTL_ADM_STS_SHORT | .CTL_ADM_STS_CAUSE | .CTL_ADM_STS_SHIFT | .CTL_ADM_STS_EFF_ATTN
  | .CTL_ADM_STS_EFF_ASSIST | .CTL_ADM_STS_EFF_RECALL => .CTL_ADM
  | .CTL_ADM_CNT_COUNT | .CTL_ADM_CNT_CLR_CLR => .CTL_ADM_CNT
  | .MTR_CFG_CKPT_S => .MTR_CFG
  | .MTR_SEQ_NEXT => .MTR_SEQ
  | .MTR_ARCH_HELD | .MTR_ARCH_UNACKED => .MTR_ARCH
  | .MTR_COMP_TAG | .MTR_COMP_STS_UNBOUND | .MTR_COMP_STS_START => .MTR_COMP
  | .MTR_LIVE_COUNT => .MTR_LIVE
  | .MTR_CNT_COUNT | .MTR_CNT_CLR_CLR => .MTR_CNT
  | .SEC_ID_SERIAL => .SEC_ID
  | .SEC_BOOT_STS_COPY | .SEC_BOOT_STS_RECOVERY | .SEC_BOOT_STS_A_RESULT | .SEC_BOOT_STS_B_RESULT | .SEC_BOOT_STS_SVN_RUNNING
  | .SEC_BOOT_STS_PATCH => .SEC_BOOT
  | .SEC_SVN_COUNTER => .SEC_SVN
  | .SEC_OWNER_ENROLLED | .SEC_OWNER_MANAGER => .SEC_OWNER
  | .SEC_CFG_PLAIN_KEYS | .SEC_CFG_SPDM_MCTP => .SEC_CFG
  | .SEC_DEBUG_STATE => .SEC_DEBUG
  | .SEC_FABRIC_TX_SLOT | .SEC_FABRIC_VALID0 | .SEC_FABRIC_VALID1 | .SEC_FABRIC_PERSIST0 | .SEC_FABRIC_PERSIST1 | .SEC_FABRIC_LEFT0
  | .SEC_FABRIC_LEFT1 | .SEC_FABRIC_NO_KEY | .SEC_FABRIC_ID_KEY_ID0 | .SEC_FABRIC_ID_KEY_ID1 => .SEC_FABRIC
  | .SEC_IDE_LINK | .SEC_IDE_SELECTIVE => .SEC_IDE
  | .SEC_CTX_ACTIVE | .SEC_CTX_RETIRING | .SEC_CTX_IMPORT | .SEC_CTX_STORAGE | .SEC_CTX_TDI | .SEC_CTX_KEYID_KEY_ID => .SEC_CTX
  | .SEC_CNT_COUNT | .SEC_CNT_CLR_CLR => .SEC_CNT
  | .HTI_W_MBREQ_LEN | .HTI_W_MBREQ_TOKEN => .HTI_W_MBREQ
  | .HTI_W_MBRSP_LEN | .HTI_W_MBRSP_TOKEN | .HTI_W_MBRSP_FULL => .HTI_W_MBRSP
  | .HTI_W_MBSTS_BUSY | .HTI_W_MBSTS_REJECT | .HTI_W_MBSTS_FLT_OVF | .HTI_W_MBSTS_EVT_LOST => .HTI_W_MBSTS
  | .HTI_W_MBVEC_MBX | .HTI_W_MBVEC_EVT | .HTI_W_MBVEC_FLT => .HTI_W_MBVEC
  | .HTI_W_EVT_BASE_BASE | .HTI_W_EVT_CFG_LOG | .HTI_W_EVT_CFG_EN | .HTI_W_EVT_CFG_FAULT | .HTI_W_EVT_IDX_HEAD | .HTI_W_EVT_IDX_TAIL => .HTI_W_EVT
  | .HTI_W_FLT_IDX_HEAD | .HTI_W_FLT_IDX_NEXT => .HTI_W_FLT
  | .MBX_PORT_CFG_COMPACT_EN | .MBX_PORT_CFG_SUM_VEC => .MBX_PORT
  | .MBX_SUM_ADDR_BASE | .MBX_SUM_BITS => .MBX_SUM
  | .MBX_MODE_COMPACT0 | .MBX_MODE_COMPACT1 | .MBX_MODE_SUM_FAIL0 | .MBX_MODE_SUM_FAIL1 => .MBX_MODE
  | .MBX_CTX_POS | .MBX_CTX_VALID => .MBX_CTX
  | .MBX_S_REQ_LEN | .MBX_S_REQ_TOKEN | .MBX_S_RSP_LEN | .MBX_S_RSP_TOKEN | .MBX_S_RSP_FULL | .MBX_S_STS_BUSY | .MBX_S_STS_REJECT
  | .MBX_S_STS_PATH => .MBX_S
  | .MBX_CNT_COUNT | .MBX_CNT_CLR_CLR => .MBX_CNT
  | .CTL_READY_CONTROL | .CTL_READY_NVM | .CTL_READY_SEC | .CTL_READY_HTI | .CTL_READY_MBX | .CTL_READY_TXT | .CTL_READY_DEC
  | .CTL_READY_RCL | .CTL_READY_T1 | .CTL_READY_T2 | .CTL_READY_T3 | .CTL_READY_GORES | .CTL_READY_RING | .CTL_READY_POOL => .CTL_READY
  | .CTL_BOOT_STS_IMAGE | .CTL_BOOT_STS_STORE | .CTL_BOOT_STS_APPLIED | .CTL_BOOT_STS_SKIPPED | .CTL_BOOT_STS_T1_FAIL
  | .CTL_BOOT_STS_T1_STACK | .CTL_BOOT_VER_VERSION => .CTL_BOOT
  | .CTL_FN_EN | .CTL_FN_MODE | .CTL_FN_TIMEOUT_MS | .CTL_FN_STATE | .CTL_FN_RST_FN => .CTL_FN
  | .NVM_SS_STS_GROUPS | .NVM_SS_STS_BANK | .NVM_SS_STS_DEGRADED | .NVM_SS_STS_COMMIT | .NVM_SS_USE_ENTRIES => .NVM_SS
  | .NVM_CNT_COUNT | .NVM_CNT_CLR_CLR => .NVM_CNT
  | .CTL_RESET_SOFT | .CTL_RESET_WARM | .CTL_RESET_KEY => .CTL_RESET
  | .CTL_CTX_RST_CTX => .CTL_CTX
  | .CTL_PM_P2_EN | .CTL_PM_P2_IDLE_MS | .CTL_PM_P3_REQ | .CTL_PM_P3_LIMIT_S | .CTL_PM_STS_STATE | .CTL_PM_STS_P3_REFUSED
  | .CTL_PM_STS_REFUSE_WHY => .CTL_PM
  | .CTL_RST_CAUSE_LAST | .CTL_RST_CAUSE_FAILED | .CTL_RST_CAUSE_FAIL_DIE | .CTL_RST_CAUSE_WARMS | .CTL_RST_CAUSE_SOFTS => .CTL_RST
  | .CTL_RT_TIME_COUNT => .CTL_RT
  | .CTL_RST_CNT_COUNT | .CTL_RST_CNT_CLR_CLR => .CTL_RST_CNT
  | .PWR_STEP_WATTS | .PWR_STEP_WINDOW_US => .PWR_STEP
  | .PWR_LIMIT_TDP_W | .PWR_LIMIT_PEAK_W => .PWR_LIMIT
  | .PWR_CLK_MAX_MHZ | .PWR_CLK_ROOT_MHZ => .PWR_CLK
  | .PWR_THERM_J_THROTTLE_C | .PWR_THERM_H_THROTTLE_C => .PWR_THERM
  | .PWR_STS_CAUSE | .PWR_STS_VIN_MV | .PWR_STS_IIN_MA | .PWR_STS_PIN_W => .PWR_STS
  | .PWR_DROGUE_QUEUED | .PWR_DROGUE_QUEUED_W | .PWR_DROGUE_MAX_WAIT => .PWR_DROGUE
  | .PWR_TEMP_TEMP | .PWR_TEMP_VALID | .PWR_TEMP_MAX_C => .PWR_TEMP
  | .PWR_CNT_COUNT | .PWR_CNT_CLR_CLR => .PWR_CNT
  | .CTL_PIN_STS_PERST | .CTL_PIN_STS_PM_WAKE | .CTL_PIN_STS_SVC_ATTN | .CTL_PIN_STS_SPI_REQ | .CTL_PIN_STS_SPI_GNT
  | .CTL_PIN_STS_PWR_ALERT | .CTL_PIN_STS_THERM_TRIP | .CTL_PIN_STS_FLASH_PRSNT | .CTL_PIN_STS_FLASH_PERST | .CTL_PIN_STS_POOL_PERST => .CTL_PIN
  | .CTL_PIN_CNT_COUNT | .CTL_PIN_CNT_CLR_CLR => .CTL_PIN_CNT

/-- Every group of registers. -/
def Piece.regs : List Piece :=
  [.HTI_W_SQDB, .HTI_W_CQDB, .HTI_W_ASQ, .HTI_W_ACQ, .HTI_W_AQCFG, .HTI_W_QFAULT, .HTI_ID, .HTI_TIME, .HTI_PORT, .HTI_ERRLOG, .HTI_CTX,
   .HTI_CNT, .CTL_SES, .CTL_SES_CNT, .GORE_TILE_CNT, .GORE_TILE, .TIER_STALL, .TIER_CFG, .TIER_WM, .TIER_HEAT, .TIER_OCC, .TIER_OCC3,
   .TIER_RSV, .TIER_OBJ, .TIER_DRV, .TIER_CNT, .GORE_CFG, .GORE_STEP, .GORE_ROLE, .GORE_GATE, .GORE_HELPER, .GORE_PANEL, .GORE_SHARE,
   .GORE_CTX, .GORE_CNT, .GORE_CLASS, .GORE_CTX_CNT, .GORE_ATTN, .GORE_BRIDLE, .GORE_SHAPE, .GORE_ATTN_CNT, .HTI_W_BRKICK, .HTI_W_BRSTS,
   .TXT_CFG, .TXT_LANES, .TXT_SLOT, .TXT_CTX, .TXT_CNT, .DEC_CFG, .DEC_LANES, .DEC_GAUGE, .DEC_GRAM, .DEC_CTX, .DEC_CNT, .RCL_CFG,
   .RCL_GAUGE, .RCL_CTX, .RCL_IDX, .RCL_HELPER, .RCL_CNT, .RCL_CTX_CNT, .POOL_CFG, .POOL_PORT, .POOL_LEND, .POOL_OBJ, .POOL_REGION,
   .POOL_CNT, .RING_CFG, .RING_MAP, .RING_STS, .RING_PORT, .RING_VC, .RING_BYP, .RING_EVAC, .RING_LED, .RING_CNT, .RING_PORT_CNT,
   .RING_INHERIT, .SHP_PORT, .SHP_VC, .SHP_SAMPLE, .SHP_HIST, .SHP_CTXQ, .SHP_HPOL, .SHP_RPOL, .SHP_CNT, .SHP_CTX_CNT, .CTL_ADM,
   .CTL_ADM_CNT, .MTR_CFG, .MTR_SEQ, .MTR_ARCH, .MTR_COMP, .MTR_LIVE, .MTR_CNT, .SEC_ID, .SEC_BOOT, .SEC_SVN, .SEC_OWNER, .SEC_CFG,
   .SEC_DEBUG, .SEC_FABRIC, .SEC_IDE, .SEC_CTX, .SEC_CNT, .HTI_W_MBREQ, .HTI_W_MBRSP, .HTI_W_MBSTS, .HTI_W_MBVEC, .HTI_W_EVT, .HTI_W_FLT,
   .MBX_PORT, .MBX_SUM, .MBX_MODE, .MBX_CTX, .MBX_S, .MBX_CNT, .CTL_READY, .CTL_BOOT, .CTL_FN, .NVM_SS, .NVM_CNT, .CTL_RESET, .CTL_CTX,
   .CTL_PM, .CTL_RST, .CTL_RT, .CTL_RST_CNT, .PWR_STEP, .PWR_LIMIT, .PWR_CLK, .PWR_THERM, .PWR_STS, .PWR_DROGUE, .PWR_TEMP, .PWR_CNT,
   .CTL_PIN, .CTL_PIN_CNT]
/-- Every group of registers, and more. -/
abbrev Piece.withRegs (l : List Piece) : List Piece := Piece.regs ++ l

/-- A piece reads the same in two states. A register group is the same where each instance of each of its fields is. -/
def Piece.same (p : Piece) (a b : State) : Prop :=
  match p with
  | .latch => b.latch = a.latch
  | .hti => b.hti = a.hti
  | .mbx => b.mbx = a.mbx
  | .boot => b.boot = a.boot
  | .ses => b.ses = a.ses
  | .tier => b.tier = a.tier
  | .gore => b.gore = a.gore
  | .attn => b.attn = a.attn
  | .pwr => b.pwr = a.pwr
  | .pins => b.pins = a.pins
  | .fab => b.fab = a.fab
  | .fleet => b.fleet = a.fleet
  | .dec => b.dec = a.dec
  | .pool => b.pool = a.pool
  | .rcl => b.rcl = a.rcl
  | .ring => b.ring = a.ring
  | .sec => b.sec = a.sec
  | p => ∀ (f : Fld) (i j : Nat), f.piece = p → b.rd f i j = a.rd f i j

/-- Of two states, every piece outside a list is the same. -/
def SameBut (l : List Piece) (a b : State) : Prop := ∀ p, p ∉ l → p.same a b

end Sys2Proof.Machine
end

