-- ==== Sys2Proof/Machine/MayChange.lean ====
section
/-! DEFINITION. The pieces of the state that each command may change, in its own effect and in what follows from it at once. -/

namespace Sys2Proof.Machine

/-- The pieces that a command may change. Every other piece, and every field of every other register group, is left as it is. -/
def mayChange (i : Instr) : List Piece :=
  match i with
  | .registerWrite .. | .mailboxResponseReady .. | .ctlResetSoft .. | .ctlResetWarm .. | .perstNAssert ..
  | .inputUndervoltage .. | .inputOvervoltage .. =>
    Piece.withRegs [.latch, .hti, .mbx, .boot, .ses, .tier, .gore, .attn, .pwr, .pins, .fab, .fleet, .dec, .pool, .rcl, .ring,
    .sec]
  | .htiWSqdbWrite .. | .htiWCqdbWrite .. =>
    [.hti, .pwr, .ring, .SHP_CTX_CNT, .SEC_CNT, .PWR_DROGUE, .PWR_CNT, .HTI_W_QFAULT, .HTI_ERRLOG, .HTI_CNT, .CTL_PM]
  | .pair0Open .. => [.hti, .SEC_CNT, .HTI_W_QFAULT, .HTI_W_AQCFG, .HTI_ERRLOG]
  | .pair0Close .. =>
    [.hti, .mbx, .ses, .tier, .gore, .attn, .pwr, .fab, .fleet, .dec, .pool, .rcl, .ring, .TIER_RSV, .TIER_OBJ, .TIER_DRV,
    .TIER_CNT, .SHP_CTX_CNT, .SEC_CNT, .RING_CNT, .RCL_IDX, .RCL_GAUGE, .RCL_CTX_CNT, .RCL_CNT, .PWR_DROGUE, .PWR_CNT,
    .POOL_REGION, .POOL_OBJ, .POOL_LEND, .POOL_CNT, .MBX_SUM, .MBX_CNT, .HTI_W_QFAULT, .HTI_W_MBSTS, .HTI_W_EVT, .HTI_W_AQCFG,
    .HTI_ERRLOG, .HTI_CNT, .GORE_TILE_CNT, .GORE_ROLE, .GORE_PANEL, .GORE_CTX, .GORE_CTX_CNT, .GORE_CNT, .GORE_ATTN_CNT,
    .CTL_SES, .CTL_SES_CNT, .CTL_READY, .CTL_PM, .CTL_ADM, .CTL_ADM_CNT]
  | .contextPairsClosed .. => [.HTI_W_QFAULT, .HTI_W_AQCFG]
  | .submissionFetchFail .. | .completionPostFail .. =>
    [.hti, .mbx, .MBX_SUM, .MBX_CNT, .HTI_W_QFAULT, .HTI_W_MBSTS, .HTI_W_FLT, .HTI_W_AQCFG, .HTI_ERRLOG, .HTI_CNT]
  | .coalescingTimeExpiry .. =>
    [.hti, .fleet, .TIER_STALL, .SHP_CTX_CNT, .RING_PORT_CNT, .PWR_CNT, .MTR_LIVE, .HTI_TIME, .HTI_CNT, .GORE_CTX_CNT,
    .GORE_CLASS, .CTL_RT, .CTL_RST_CNT, .CTL_PIN_CNT]
  | .queueOpen .. | .capsGet .. | .ctxFence .. | .noop .. | .statsGet .. | .sessQuery .. | .sessTetherQuery .. =>
    [.hti, .ring, .SHP_CTX_CNT, .SEC_CNT, .HTI_W_QFAULT, .HTI_CNT]
  | .queueClose .. | .sessCancel .. =>
    [.hti, .mbx, .ses, .tier, .gore, .attn, .pwr, .fab, .fleet, .dec, .pool, .rcl, .ring, .TIER_RSV, .TIER_OBJ, .TIER_DRV,
    .TIER_CNT, .SHP_CTX_CNT, .SEC_CNT, .RING_CNT, .RCL_IDX, .RCL_GAUGE, .RCL_CTX_CNT, .RCL_CNT, .PWR_DROGUE, .PWR_CNT,
    .POOL_REGION, .POOL_OBJ, .POOL_LEND, .POOL_CNT, .MBX_SUM, .MBX_CNT, .HTI_W_QFAULT, .HTI_W_MBSTS, .HTI_W_EVT, .HTI_CNT,
    .GORE_TILE_CNT, .GORE_ROLE, .GORE_PANEL, .GORE_CTX, .GORE_CTX_CNT, .GORE_CNT, .GORE_ATTN_CNT, .CTL_SES, .CTL_SES_CNT,
    .CTL_READY, .CTL_PM, .CTL_ADM, .CTL_ADM_CNT]
  | .htiErrlogClr .. => [.HTI_ERRLOG]
  | .htiCntClr .. => [.latch, .HTI_CNT]
  | .htiCtxWrite .. => Piece.withRegs [.latch, .mbx, .tier, .attn, .fleet, .sec]
  | .functionLevelReset .. | .ctlCtxRst .. =>
    Piece.withRegs [.latch, .hti, .mbx, .ses, .tier, .gore, .attn, .pwr, .fab, .fleet, .dec, .pool, .rcl, .ring]
  | .sessCreate .. =>
    [.hti, .mbx, .ses, .tier, .fleet, .ring, .SHP_CTX_CNT, .SEC_CNT, .RING_CNT, .MBX_SUM, .MBX_CNT, .HTI_W_QFAULT,
    .HTI_W_MBSTS, .HTI_W_EVT, .HTI_CNT, .GORE_SHAPE, .CTL_SES, .CTL_SES_CNT, .CTL_ADM_CNT]
  | .sessDestroy .. =>
    [.hti, .mbx, .ses, .tier, .gore, .attn, .pwr, .dec, .pool, .ring, .TXT_SLOT, .TIER_RSV, .TIER_OBJ, .TIER_CNT,
    .SHP_CTX_CNT, .SEC_CNT, .RING_CNT, .PWR_DROGUE, .PWR_CNT, .POOL_OBJ, .POOL_CNT, .MBX_SUM, .MBX_CNT, .HTI_W_QFAULT,
    .HTI_W_MBSTS, .HTI_W_EVT, .HTI_CNT, .GORE_TILE_CNT, .GORE_SHAPE, .GORE_PANEL, .GORE_CTX, .GORE_CTX_CNT, .GORE_CNT,
    .GORE_ATTN_CNT, .DEC_GRAM, .DEC_GAUGE, .DEC_CNT, .CTL_SES, .CTL_SES_CNT, .CTL_READY, .CTL_PM]
  | .sessPark .. =>
    [.hti, .ses, .tier, .fleet, .pool, .ring, .TIER_OBJ, .TIER_DRV, .TIER_CNT, .SHP_CTX_CNT, .SEC_CNT, .POOL_OBJ, .POOL_CNT,
    .HTI_W_QFAULT, .HTI_CNT, .CTL_SES, .CTL_SES_CNT, .CTL_READY]
  | .sessRevive .. =>
    [.hti, .mbx, .ses, .tier, .fleet, .pool, .ring, .TIER_OBJ, .TIER_CNT, .SHP_CTX_CNT, .SEC_CNT, .POOL_OBJ, .POOL_CNT,
    .MBX_SUM, .MBX_CNT, .HTI_W_QFAULT, .HTI_W_MBSTS, .HTI_W_EVT, .HTI_CNT, .CTL_SES, .CTL_SES_CNT, .CTL_READY, .CTL_ADM_CNT]
  | .reviveDone .. =>
    [.hti, .ses, .tier, .fleet, .pool, .ring, .TIER_OBJ, .TIER_CNT, .SHP_CTX_CNT, .SEC_CNT, .RING_EVAC, .RING_CNT, .POOL_OBJ,
    .POOL_CNT, .HTI_W_QFAULT, .HTI_CNT, .CTL_SES, .CTL_SES_CNT, .CTL_READY]
  | .sessDeflate .. =>
    [.hti, .ses, .tier, .fleet, .pool, .ring, .TIER_OBJ, .TIER_CNT, .SHP_CTX_CNT, .SEC_CNT, .POOL_OBJ, .POOL_CNT,
    .HTI_W_QFAULT, .HTI_CNT, .CTL_SES, .CTL_READY]
  | .sessRebuild .. =>
    [.hti, .ses, .tier, .fleet, .pool, .ring, .TIER_OBJ, .TIER_CNT, .SHP_CTX_CNT, .SEC_CNT, .POOL_OBJ, .POOL_CNT,
    .HTI_W_QFAULT, .HTI_CNT, .CTL_SES, .CTL_SES_CNT, .CTL_READY]
  | .sessShip .. => [.hti, .ses, .fleet, .ring, .SHP_CTX_CNT, .SEC_CNT, .RING_CNT, .HTI_W_QFAULT, .HTI_CNT, .CTL_SES]
  | .sessTetherResolve .. =>
    [.hti, .mbx, .ses, .tier, .gore, .attn, .fleet, .dec, .pool, .ring, .TXT_SLOT, .TIER_RSV, .TIER_OBJ, .SHP_CTX_CNT,
    .SEC_CNT, .RING_CNT, .POOL_OBJ, .POOL_CNT, .MBX_SUM, .MBX_CNT, .HTI_W_QFAULT, .HTI_W_MBSTS, .HTI_W_EVT, .HTI_CNT,
    .GORE_TILE_CNT, .GORE_SHAPE, .GORE_ATTN_CNT, .DEC_GRAM, .DEC_GAUGE, .CTL_SES, .CTL_SES_CNT, .CTL_READY]
  | .sessPolicy .. =>
    [.hti, .ses, .tier, .fleet, .pool, .ring, .TIER_OBJ, .TIER_DRV, .TIER_CNT, .SHP_CTX_CNT, .SEC_CNT, .RING_CNT, .POOL_OBJ,
    .POOL_CNT, .HTI_W_QFAULT, .HTI_CNT, .CTL_READY]
  | .idleParkExpiry .. =>
    [.hti, .mbx, .ses, .tier, .fleet, .pool, .ring, .TIER_STALL, .TIER_OBJ, .TIER_DRV, .TIER_CNT, .SHP_CTX_CNT, .SEC_CNT,
    .RING_PORT_CNT, .PWR_CNT, .POOL_OBJ, .POOL_CNT, .MTR_LIVE, .MBX_SUM, .MBX_CNT, .HTI_W_QFAULT, .HTI_W_MBSTS, .HTI_W_EVT,
    .HTI_TIME, .HTI_CNT, .GORE_CTX_CNT, .GORE_CLASS, .CTL_SES, .CTL_SES_CNT, .CTL_RT, .CTL_RST_CNT, .CTL_READY, .CTL_PIN_CNT]
  | .shipOfferReceived .. => [.ses, .fleet, .ring, .RING_CNT, .GORE_SHAPE, .CTL_SES, .CTL_ADM_CNT]
  | .shipAcceptReceived .. | .shipResendReceived .. =>
    [.hti, .mbx, .ses, .tier, .fleet, .pool, .ring, .TIER_OBJ, .TIER_CNT, .SHP_CTX_CNT, .SEC_CNT, .RING_EVAC, .RING_CNT,
    .POOL_OBJ, .POOL_CNT, .MBX_SUM, .MBX_CNT, .HTI_W_QFAULT, .HTI_W_MBSTS, .HTI_W_FLT, .HTI_W_EVT, .HTI_CNT, .GORE_TILE,
    .GORE_TILE_CNT, .CTL_SES, .CTL_SES_CNT, .CTL_READY]
  | .shipRefuseReceived .. =>
    [.hti, .mbx, .ses, .tier, .fab, .fleet, .pool, .ring, .TIER_OBJ, .TIER_CNT, .SHP_CTX_CNT, .SEC_CNT, .RING_EVAC, .RING_CNT,
    .POOL_OBJ, .POOL_CNT, .MBX_SUM, .MBX_CNT, .HTI_W_QFAULT, .HTI_W_MBSTS, .HTI_W_EVT, .HTI_CNT, .CTL_SES, .CTL_SES_CNT,
    .CTL_READY]
  | .shipFrameReceived .. =>
    [.ses, .tier, .fleet, .pool, .ring, .TIER_OBJ, .RING_CNT, .POOL_OBJ, .POOL_CNT, .GORE_TILE_CNT, .GORE_SHAPE, .CTL_SES,
    .CTL_READY]
  | .shipAbortReceived .. =>
    [.hti, .mbx, .ses, .tier, .fleet, .pool, .ring, .TIER_OBJ, .TIER_CNT, .SHP_CTX_CNT, .SEC_CNT, .RING_EVAC, .RING_CNT,
    .POOL_OBJ, .POOL_CNT, .MBX_SUM, .MBX_CNT, .HTI_W_QFAULT, .HTI_W_MBSTS, .HTI_W_FLT, .HTI_W_EVT, .HTI_CNT, .GORE_TILE,
    .GORE_TILE_CNT, .GORE_SHAPE, .CTL_SES, .CTL_SES_CNT, .CTL_READY]
  | .commitReqReceived .. | .replicateAckReceived .. =>
    [.hti, .mbx, .ses, .tier, .gore, .attn, .fleet, .dec, .pool, .ring, .TIER_RSV, .TIER_OBJ, .SHP_CTX_CNT, .SEC_CNT,
    .RING_CNT, .POOL_OBJ, .POOL_CNT, .MBX_SUM, .MBX_CNT, .HTI_W_QFAULT, .HTI_W_MBSTS, .HTI_W_EVT, .HTI_CNT, .GORE_TILE_CNT,
    .GORE_ATTN_CNT, .CTL_SES, .CTL_SES_CNT, .CTL_READY]
  | .replicateReceived .. => [.ses, .ring, .RING_CNT]
  | .commitAckReceived .. | .tetherRecordReceived .. =>
    [.hti, .mbx, .ses, .tier, .gore, .attn, .fab, .fleet, .dec, .pool, .ring, .TXT_SLOT, .TIER_RSV, .TIER_OBJ, .TIER_CNT,
    .SHP_CTX_CNT, .SEC_CNT, .RING_EVAC, .RING_CNT, .POOL_OBJ, .POOL_CNT, .MBX_SUM, .MBX_CNT, .HTI_W_QFAULT, .HTI_W_MBSTS,
    .HTI_W_EVT, .HTI_CNT, .GORE_TILE_CNT, .GORE_SHAPE, .GORE_ATTN_CNT, .DEC_GRAM, .DEC_GAUGE, .DEC_CNT, .CTL_SES,
    .CTL_SES_CNT, .CTL_READY, .CTL_ADM_CNT]
  | .commitNakReceived .. =>
    [.hti, .mbx, .ses, .tier, .fleet, .dec, .pool, .ring, .TXT_SLOT, .TIER_OBJ, .TIER_CNT, .SHP_CTX_CNT, .SEC_CNT, .RING_EVAC,
    .RING_CNT, .POOL_OBJ, .POOL_CNT, .MBX_SUM, .MBX_CNT, .HTI_W_QFAULT, .HTI_W_MBSTS, .HTI_W_EVT, .HTI_CNT, .GORE_SHAPE,
    .DEC_GRAM, .DEC_GAUGE, .CTL_SES, .CTL_SES_CNT, .CTL_READY]
  | .tetherQueryReceived .. | .spoolGatherRequestReceived .. => [.ring, .RING_CNT]
  | .tetherMsgTimeout .. =>
    [.hti, .mbx, .ses, .tier, .gore, .attn, .fleet, .dec, .pool, .ring, .TIER_STALL, .TIER_RSV, .TIER_OBJ, .TIER_CNT,
    .SHP_CTX_CNT, .SEC_CNT, .RING_PORT_CNT, .RING_EVAC, .RING_CNT, .PWR_CNT, .POOL_OBJ, .POOL_CNT, .MTR_LIVE, .MBX_SUM,
    .MBX_CNT, .HTI_W_QFAULT, .HTI_W_MBSTS, .HTI_W_EVT, .HTI_TIME, .HTI_CNT, .GORE_TILE_CNT, .GORE_CTX_CNT, .GORE_CLASS,
    .GORE_ATTN_CNT, .CTL_SES, .CTL_SES_CNT, .CTL_RT, .CTL_RST_CNT, .CTL_READY, .CTL_PIN_CNT]
  | .shipResolveTimeout .. =>
    [.hti, .ses, .fleet, .ring, .TIER_STALL, .SHP_CTX_CNT, .SEC_CNT, .RING_PORT_CNT, .PWR_CNT, .MTR_LIVE, .HTI_W_QFAULT,
    .HTI_TIME, .HTI_CNT, .GORE_CTX_CNT, .GORE_CLASS, .CTL_RT, .CTL_RST_CNT, .CTL_PIN_CNT]
  | .spoolEntriesReceived .. => [.ses, .tier, .ring, .RING_CNT]
  | .spoolAckReceived .. =>
    [.hti, .ses, .tier, .gore, .attn, .dec, .ring, .TIER_RSV, .SHP_CTX_CNT, .SEC_CNT, .RING_CNT, .HTI_W_QFAULT, .HTI_CNT,
    .GORE_TILE_CNT, .GORE_ATTN_CNT]
  | .mirrorAckTimeout .. =>
    [.hti, .mbx, .ses, .tier, .gore, .attn, .fleet, .dec, .ring, .TIER_STALL, .TIER_RSV, .SHP_CTX_CNT, .SEC_CNT,
    .RING_PORT_CNT, .PWR_CNT, .MTR_LIVE, .MBX_SUM, .MBX_CNT, .HTI_W_QFAULT, .HTI_W_MBSTS, .HTI_W_EVT, .HTI_TIME, .HTI_CNT,
    .GORE_TILE_CNT, .GORE_CTX_CNT, .GORE_CLASS, .GORE_ATTN_CNT, .CTL_SES_CNT, .CTL_RT, .CTL_RST_CNT, .CTL_PIN_CNT]
  | .mirrorResendPeriod .. =>
    [.ses, .fleet, .ring, .TIER_STALL, .SHP_CTX_CNT, .RING_PORT_CNT, .RING_CNT, .PWR_CNT, .MTR_LIVE, .HTI_TIME, .HTI_CNT,
    .GORE_CTX_CNT, .GORE_CLASS, .CTL_RT, .CTL_RST_CNT, .CTL_PIN_CNT]
  | .spoolGatherDone .. =>
    [.mbx, .ses, .tier, .fleet, .MBX_SUM, .MBX_CNT, .HTI_W_MBSTS, .HTI_W_EVT, .HTI_CNT, .CTL_SES, .CTL_SES_CNT]
  | .workTileEnd .. =>
    [.hti, .mbx, .ses, .tier, .gore, .attn, .pwr, .fleet, .pool, .ring, .TIER_STALL, .TIER_OBJ, .SHP_CTX_CNT, .SEC_CNT,
    .RING_PORT_CNT, .PWR_DROGUE, .PWR_CNT, .POOL_OBJ, .POOL_CNT, .MTR_LIVE, .MBX_SUM, .MBX_CNT, .HTI_W_QFAULT, .HTI_W_MBSTS,
    .HTI_W_FLT, .HTI_TIME, .HTI_CNT, .GORE_TILE, .GORE_TILE_CNT, .GORE_PANEL, .GORE_CTX, .GORE_CTX_CNT, .GORE_CNT,
    .GORE_CLASS, .CTL_SES, .CTL_SES_CNT, .CTL_RT, .CTL_RST_CNT, .CTL_READY, .CTL_PM, .CTL_PIN_CNT]
  | .itemEnd .. =>
    [.hti, .mbx, .ses, .tier, .gore, .attn, .pwr, .fleet, .pool, .rcl, .ring, .TIER_STALL, .TIER_OBJ, .TIER_DRV, .TIER_CNT,
    .SHP_CTX_CNT, .SEC_CNT, .RING_PORT_CNT, .RCL_IDX, .RCL_GAUGE, .RCL_CTX_CNT, .RCL_CNT, .PWR_DROGUE, .PWR_CNT, .POOL_OBJ,
    .POOL_CNT, .MTR_LIVE, .MBX_SUM, .MBX_CNT, .HTI_W_QFAULT, .HTI_W_MBSTS, .HTI_W_FLT, .HTI_TIME, .HTI_CNT, .GORE_TILE,
    .GORE_TILE_CNT, .GORE_PANEL, .GORE_CTX, .GORE_CTX_CNT, .GORE_CNT, .GORE_CLASS, .GORE_ATTN_CNT, .CTL_SES, .CTL_SES_CNT,
    .CTL_RT, .CTL_RST_CNT, .CTL_READY, .CTL_PM, .CTL_PIN_CNT]
  | .itemYield .. =>
    [.ses, .tier, .gore, .pwr, .fleet, .TIER_STALL, .SHP_CTX_CNT, .RING_PORT_CNT, .PWR_DROGUE, .PWR_CNT, .MTR_LIVE, .HTI_TIME,
    .HTI_CNT, .GORE_PANEL, .GORE_CTX, .GORE_CTX_CNT, .GORE_CNT, .GORE_CLASS, .CTL_RT, .CTL_RST_CNT, .CTL_PM, .CTL_PIN_CNT]
  | .itemInputsArrive .. | .panelReady .. | .compactionStart .. =>
    [.ses, .tier, .gore, .pwr, .PWR_DROGUE, .PWR_CNT, .GORE_PANEL, .GORE_CTX, .GORE_CNT, .CTL_PM]
  | .preemptTimeout .. =>
    [.gore, .fleet, .TIER_STALL, .SHP_CTX_CNT, .RING_PORT_CNT, .PWR_CNT, .MTR_LIVE, .HTI_TIME, .HTI_CNT, .GORE_CTX_CNT,
    .GORE_CLASS, .CTL_RT, .CTL_RST_CNT, .CTL_PIN_CNT]
  | .panelIdleGate .. | .p2IdleEntry .. =>
    [.gore, .fleet, .TIER_STALL, .SHP_CTX_CNT, .RING_PORT_CNT, .PWR_CNT, .MTR_LIVE, .HTI_TIME, .HTI_CNT, .GORE_PANEL,
    .GORE_CTX_CNT, .GORE_CNT, .GORE_CLASS, .CTL_RT, .CTL_RST_CNT, .CTL_PM, .CTL_PIN_CNT]
  | .goreFence .. | .panelPowerFault .. =>
    [.latch, .hti, .mbx, .boot, .ses, .tier, .gore, .attn, .pwr, .pins, .fab, .fleet, .dec, .pool, .rcl, .ring, .sec,
    .RING_PORT, .RING_PORT_CNT, .RING_LED, .RING_CNT, .RING_BYP, .PWR_DROGUE, .PWR_CNT, .POOL_PORT, .MBX_SUM, .MBX_CNT,
    .HTI_W_MBSTS, .HTI_W_FLT, .HTI_CNT, .GORE_PANEL, .GORE_CTX, .GORE_CNT, .CTL_RST, .CTL_READY, .CTL_PM, .CTL_PIN]
  | .goreTileCntClr .. => [.GORE_TILE_CNT]
  | .goreTileInjArm .. => [.GORE_TILE]
  | .goreShareWrite .. =>
    [.ses, .tier, .gore, .pwr, .SEC_CNT, .PWR_DROGUE, .PWR_CNT, .GORE_SHARE, .GORE_PANEL, .GORE_CTX, .GORE_CNT, .CTL_PM]
  | .goreRoleMixWrite .. => [.fleet, .GORE_ROLE, .GORE_CNT, .CTL_ADM]
  | .goreCntClr .. => [.GORE_CNT, .GORE_CLASS]
  | .goreCtxCntClr .. => [.latch, .GORE_CTX_CNT]
  | .demotionStart .. =>
    [.mbx, .ses, .tier, .gore, .pwr, .fleet, .pool, .TIER_OBJ, .TIER_DRV, .TIER_CNT, .PWR_DROGUE, .PWR_CNT, .POOL_OBJ,
    .POOL_CNT, .MBX_SUM, .MBX_CNT, .HTI_W_MBSTS, .HTI_W_EVT, .HTI_CNT, .GORE_PANEL, .GORE_CTX, .GORE_CNT, .CTL_SES,
    .CTL_SES_CNT, .CTL_READY, .CTL_PM]
  | .demoteAfterExpiry .. =>
    [.mbx, .ses, .tier, .gore, .pwr, .fleet, .pool, .TIER_STALL, .TIER_OBJ, .TIER_DRV, .TIER_CNT, .SHP_CTX_CNT,
    .RING_PORT_CNT, .PWR_DROGUE, .PWR_CNT, .POOL_OBJ, .POOL_CNT, .MTR_LIVE, .MBX_SUM, .MBX_CNT, .HTI_W_MBSTS, .HTI_W_EVT,
    .HTI_TIME, .HTI_CNT, .GORE_PANEL, .GORE_CTX, .GORE_CTX_CNT, .GORE_CNT, .GORE_CLASS, .CTL_SES, .CTL_SES_CNT, .CTL_RT,
    .CTL_RST_CNT, .CTL_READY, .CTL_PM, .CTL_PIN_CNT]
  | .demotionWriteDone .. =>
    [.hti, .ses, .tier, .gore, .pwr, .pool, .ring, .TIER_OBJ, .TIER_DRV, .TIER_CNT, .SHP_CTX_CNT, .SEC_CNT, .PWR_DROGUE,
    .PWR_CNT, .POOL_OBJ, .POOL_LEND, .POOL_CNT, .HTI_W_QFAULT, .HTI_CNT, .GORE_PANEL, .GORE_CTX, .GORE_CNT, .CTL_READY,
    .CTL_PM]
  | .promotionReadDone .. | .readThroughDone .. =>
    [.hti, .mbx, .ses, .tier, .gore, .attn, .pwr, .fleet, .pool, .rcl, .ring, .TIER_OBJ, .TIER_CNT, .SHP_CTX_CNT, .SEC_CNT,
    .RING_CNT, .RCL_IDX, .RCL_GAUGE, .RCL_CNT, .PWR_DROGUE, .PWR_CNT, .POOL_OBJ, .POOL_CNT, .MBX_SUM, .MBX_CNT, .HTI_W_QFAULT,
    .HTI_W_MBSTS, .HTI_W_FLT, .HTI_W_EVT, .HTI_CNT, .GORE_TILE_CNT, .GORE_SHAPE, .GORE_PANEL, .GORE_CTX, .GORE_CTX_CNT,
    .GORE_CNT, .CTL_SES, .CTL_SES_CNT, .CTL_READY, .CTL_PM]
  | .heatDecayTick .. =>
    [.ses, .tier, .fleet, .TIER_STALL, .SHP_CTX_CNT, .RING_PORT_CNT, .PWR_CNT, .MTR_LIVE, .HTI_TIME, .HTI_CNT, .GORE_CTX_CNT,
    .GORE_CLASS, .CTL_RT, .CTL_RST_CNT, .CTL_PIN_CNT]
  | .tierAccessTimeout .. =>
    [.hti, .mbx, .ses, .tier, .gore, .attn, .pwr, .fleet, .pool, .rcl, .ring, .TIER_STALL, .TIER_OBJ, .TIER_DRV, .TIER_CNT,
    .SHP_CTX_CNT, .SEC_CNT, .RING_PORT_CNT, .RING_CNT, .RCL_IDX, .RCL_GAUGE, .RCL_CNT, .PWR_DROGUE, .PWR_CNT, .POOL_OBJ,
    .POOL_LEND, .POOL_CNT, .MTR_LIVE, .MBX_SUM, .MBX_CNT, .HTI_W_QFAULT, .HTI_W_MBSTS, .HTI_W_FLT, .HTI_W_EVT, .HTI_TIME,
    .HTI_CNT, .GORE_TILE, .GORE_TILE_CNT, .GORE_SHAPE, .GORE_PANEL, .GORE_CTX, .GORE_CTX_CNT, .GORE_CNT, .GORE_CLASS,
    .CTL_SES, .CTL_SES_CNT, .CTL_RT, .CTL_RST_CNT, .CTL_READY, .CTL_PM, .CTL_PIN_CNT]
  | .tierObjectFault .. =>
    [.hti, .mbx, .ses, .tier, .gore, .attn, .pwr, .fleet, .pool, .rcl, .ring, .TIER_OBJ, .TIER_DRV, .TIER_CNT, .SHP_CTX_CNT,
    .SEC_CNT, .RING_CNT, .RCL_IDX, .RCL_GAUGE, .RCL_CNT, .PWR_DROGUE, .PWR_CNT, .POOL_PORT, .POOL_OBJ, .POOL_LEND, .POOL_CNT,
    .MBX_SUM, .MBX_CNT, .HTI_W_QFAULT, .HTI_W_MBSTS, .HTI_W_FLT, .HTI_W_EVT, .HTI_CNT, .GORE_TILE, .GORE_TILE_CNT,
    .GORE_SHAPE, .GORE_PANEL, .GORE_CTX, .GORE_CTX_CNT, .GORE_CNT, .CTL_SES, .CTL_SES_CNT, .CTL_READY, .CTL_PM]
  | .t1StallTimeout .. =>
    [.hti, .ses, .tier, .gore, .attn, .pwr, .fleet, .pool, .ring, .TIER_STALL, .TIER_OBJ, .TIER_CNT, .SHP_CTX_CNT, .SEC_CNT,
    .RING_PORT_CNT, .PWR_DROGUE, .PWR_CNT, .POOL_OBJ, .POOL_CNT, .MTR_LIVE, .HTI_W_QFAULT, .HTI_TIME, .HTI_CNT,
    .GORE_TILE_CNT, .GORE_PANEL, .GORE_CTX, .GORE_CTX_CNT, .GORE_CNT, .GORE_CLASS, .CTL_SES, .CTL_RT, .CTL_RST_CNT,
    .CTL_READY, .CTL_PM, .CTL_PIN_CNT]
  | .wearBudgetTick .. =>
    [.tier, .fleet, .TIER_STALL, .TIER_DRV, .SHP_CTX_CNT, .RING_PORT_CNT, .PWR_CNT, .MTR_LIVE, .HTI_TIME, .HTI_CNT,
    .GORE_CTX_CNT, .GORE_CLASS, .CTL_RT, .CTL_RST_CNT, .CTL_PIN_CNT]
  | .wearBudgetSave .. =>
    [.tier, .fleet, .TIER_STALL, .SHP_CTX_CNT, .RING_PORT_CNT, .PWR_CNT, .MTR_LIVE, .HTI_TIME, .HTI_CNT, .GORE_CTX_CNT,
    .GORE_CLASS, .CTL_RT, .CTL_RST_CNT, .CTL_PIN_CNT]
  | .flashControllerEnumerated .. => [.tier, .pwr, .TIER_OBJ, .TIER_DRV, .CTL_READY]
  | .tierPolicy .. =>
    [.hti, .ses, .tier, .gore, .pwr, .pool, .ring, .TIER_OBJ, .TIER_DRV, .TIER_CNT, .SHP_CTX_CNT, .SEC_CNT, .PWR_DROGUE,
    .PWR_CNT, .POOL_OBJ, .POOL_CNT, .HTI_W_QFAULT, .HTI_CNT, .GORE_PANEL, .GORE_CTX, .GORE_CNT, .CTL_READY, .CTL_PM]
  | .tierFlush .. =>
    [.hti, .ses, .tier, .pool, .ring, .TIER_OBJ, .TIER_DRV, .TIER_CNT, .SHP_CTX_CNT, .SEC_CNT, .POOL_OBJ, .POOL_CNT,
    .HTI_W_QFAULT, .HTI_CNT, .CTL_READY]
  | .tierObjFailedClear .. | .tierObjEnWrite .. => [.latch, .ses, .tier, .TIER_OBJ, .TIER_DRV, .TIER_CNT, .CTL_READY]
  | .tierWmWrite .. => [.TIER_WM]
  | .tierCntClr .. => [.TIER_CNT]
  | .tierStallClr .. => [.latch, .TIER_STALL]
  | .modelShapeDeclare .. | .modelShapeUpdate .. | .modelShapeRemove .. =>
    [.hti, .tier, .attn, .ring, .TIER_RSV, .SHP_CTX_CNT, .SEC_CNT, .HTI_W_QFAULT, .HTI_CNT, .GORE_SHAPE]
  | .stepSubmit .. | .kvAppendAppend .. | .kvAppendStream .. =>
    [.hti, .ses, .tier, .gore, .attn, .pwr, .ring, .SHP_CTX_CNT, .SEC_CNT, .PWR_DROGUE, .PWR_CNT, .HTI_W_QFAULT, .HTI_CNT,
    .GORE_PANEL, .GORE_CTX, .GORE_CNT, .CTL_PM]
  | .attend .. =>
    [.hti, .ses, .tier, .gore, .attn, .pwr, .ring, .SHP_CTX_CNT, .SEC_CNT, .PWR_DROGUE, .PWR_CNT, .HTI_W_QFAULT, .HTI_CNT,
    .GORE_PANEL, .GORE_CTX, .GORE_CNT, .GORE_ATTN_CNT, .CTL_PM]
  | .htiWBrkickWrite .. =>
    [.ses, .tier, .gore, .attn, .pwr, .SEC_CNT, .PWR_DROGUE, .PWR_CNT, .HTI_W_BRSTS, .HTI_ERRLOG, .GORE_PANEL, .GORE_CTX,
    .GORE_CNT, .GORE_ATTN_CNT, .CTL_PM]
  | .layerComplete .. => [.hti, .attn, .ring, .SHP_CTX_CNT, .SEC_CNT, .HTI_W_QFAULT, .HTI_CNT, .GORE_ATTN_CNT]
  | .stepItemEnd .. =>
    [.hti, .mbx, .ses, .tier, .gore, .attn, .pwr, .fleet, .dec, .pool, .ring, .TXT_SLOT, .TIER_OBJ, .TIER_DRV, .TIER_CNT,
    .SHP_CTX_CNT, .SEC_CNT, .RING_EVAC, .RING_CNT, .PWR_DROGUE, .PWR_CNT, .POOL_OBJ, .POOL_CNT, .MTR_LIVE, .MBX_SUM, .MBX_CNT,
    .HTI_W_QFAULT, .HTI_W_MBSTS, .HTI_W_EVT, .HTI_CNT, .GORE_TILE_CNT, .GORE_PANEL, .GORE_CTX, .GORE_CNT, .GORE_ATTN_CNT,
    .DEC_GRAM, .DEC_GAUGE, .DEC_CNT, .CTL_SES, .CTL_READY, .CTL_PM]
  | .stepEnd .. =>
    [.hti, .ses, .tier, .attn, .fleet, .pool, .ring, .TIER_STALL, .TIER_OBJ, .TIER_CNT, .SHP_CTX_CNT, .SEC_CNT,
    .RING_PORT_CNT, .RING_EVAC, .RING_CNT, .PWR_CNT, .POOL_OBJ, .POOL_CNT, .MTR_LIVE, .HTI_W_QFAULT, .HTI_TIME, .HTI_CNT,
    .GORE_ROLE, .GORE_CTX_CNT, .GORE_CNT, .GORE_CLASS, .GORE_ATTN_CNT, .CTL_SES, .CTL_RT, .CTL_RST_CNT, .CTL_READY,
    .CTL_PIN_CNT, .CTL_ADM, .CTL_ADM_CNT]
  | .kickLimitTimeout .. =>
    [.ses, .tier, .gore, .attn, .pwr, .fleet, .pool, .TIER_STALL, .TIER_OBJ, .SHP_CTX_CNT, .RING_PORT_CNT, .PWR_DROGUE,
    .PWR_CNT, .POOL_OBJ, .POOL_CNT, .MTR_LIVE, .HTI_TIME, .HTI_CNT, .GORE_TILE_CNT, .GORE_PANEL, .GORE_CTX, .GORE_CTX_CNT,
    .GORE_CNT, .GORE_CLASS, .GORE_ATTN_CNT, .CTL_RT, .CTL_RST_CNT, .CTL_READY, .CTL_PM, .CTL_PIN_CNT]
  | .stepOutputWriteFail .. =>
    [.ses, .tier, .gore, .attn, .pwr, .pool, .TIER_OBJ, .PWR_DROGUE, .PWR_CNT, .POOL_OBJ, .POOL_CNT, .GORE_TILE_CNT,
    .GORE_PANEL, .GORE_CTX, .GORE_CTX_CNT, .GORE_CNT, .GORE_ATTN_CNT, .CTL_READY, .CTL_PM]
  | .goreBridleWrite .. => [.tier, .attn, .TIER_RSV, .SEC_CNT, .GORE_CNT, .GORE_BRIDLE]
  | .bar4UnbackedAccess .. => [.attn, .SEC_CNT, .GORE_ATTN_CNT]
  | .goreAttnCntClr .. => [.GORE_ATTN_CNT]
  | .textAppend .. =>
    [.hti, .ses, .tier, .dec, .pool, .ring, .TXT_CNT, .TIER_RSV, .TIER_OBJ, .TIER_DRV, .TIER_CNT, .SHP_CTX_CNT, .SEC_CNT,
    .RING_CNT, .POOL_OBJ, .POOL_CNT, .HTI_W_QFAULT, .HTI_CNT, .CTL_READY]
  | .textTokenize .. => [.hti, .tier, .dec, .ring, .TXT_CNT, .TIER_RSV, .SHP_CTX_CNT, .SEC_CNT, .HTI_W_QFAULT, .HTI_CNT]
  | .tableLoadLoad .. =>
    [.hti, .tier, .dec, .ring, .TXT_SLOT, .TXT_CNT, .TIER_RSV, .SHP_CTX_CNT, .SEC_CNT, .HTI_W_QFAULT, .HTI_CNT]
  | .tableLoadRemove .. => [.hti, .tier, .dec, .ring, .TXT_SLOT, .TIER_RSV, .SHP_CTX_CNT, .SEC_CNT, .HTI_W_QFAULT, .HTI_CNT]
  | .tokeniserLaneFault .. => [.mbx, .TXT_LANES, .TXT_CNT, .MBX_SUM, .MBX_CNT, .HTI_W_MBSTS, .HTI_W_FLT, .HTI_CNT, .CTL_READY]
  | .txtCntClr .. => [.TXT_CNT]
  | .streamConfOpen .. | .streamConfUpdate .. | .grammarLoadRemove .. =>
    [.hti, .tier, .dec, .ring, .TXT_SLOT, .TIER_RSV, .SHP_CTX_CNT, .SEC_CNT, .HTI_W_QFAULT, .HTI_CNT, .DEC_GRAM, .DEC_GAUGE]
  | .streamConfRestart .. | .streamConfClose .. =>
    [.hti, .mbx, .ses, .tier, .dec, .ring, .TXT_SLOT, .TIER_RSV, .SHP_CTX_CNT, .SEC_CNT, .MBX_SUM, .MBX_CNT, .HTI_W_QFAULT,
    .HTI_W_MBSTS, .HTI_W_EVT, .HTI_CNT, .DEC_GRAM, .DEC_GAUGE, .DEC_CNT]
  | .sample .. =>
    [.hti, .mbx, .ses, .tier, .gore, .attn, .dec, .pool, .ring, .TXT_SLOT, .TIER_OBJ, .TIER_DRV, .TIER_CNT, .SHP_CTX_CNT,
    .SEC_CNT, .RING_CNT, .POOL_OBJ, .POOL_CNT, .MTR_LIVE, .MBX_SUM, .MBX_CNT, .HTI_W_QFAULT, .HTI_W_MBSTS, .HTI_W_FLT,
    .HTI_W_EVT, .HTI_CNT, .GORE_TILE_CNT, .GORE_CTX, .GORE_CTX_CNT, .DEC_GRAM, .DEC_GAUGE, .DEC_CNT, .CTL_READY]
  | .outputRingBacklogPoll .. =>
    [.fleet, .dec, .TXT_SLOT, .TIER_STALL, .SHP_CTX_CNT, .RING_PORT_CNT, .PWR_CNT, .MTR_LIVE, .HTI_TIME, .HTI_CNT,
    .GORE_CTX_CNT, .GORE_CLASS, .DEC_GRAM, .DEC_GAUGE, .CTL_RT, .CTL_RST_CNT, .CTL_PIN_CNT]
  | .grammarLoadLoad .. =>
    [.hti, .tier, .dec, .ring, .TXT_SLOT, .TIER_RSV, .SHP_CTX_CNT, .SEC_CNT, .HTI_W_QFAULT, .HTI_CNT, .DEC_GRAM, .DEC_GAUGE,
    .DEC_CNT]
  | .grammarBindBind .. =>
    [.hti, .mbx, .tier, .dec, .ring, .TXT_SLOT, .TIER_RSV, .SHP_CTX_CNT, .SEC_CNT, .MBX_SUM, .MBX_CNT, .HTI_W_QFAULT,
    .HTI_W_MBSTS, .HTI_W_FLT, .HTI_CNT, .DEC_GRAM, .DEC_GAUGE, .DEC_CNT]
  | .grammarBindUnbind .. =>
    [.hti, .dec, .ring, .TXT_SLOT, .SHP_CTX_CNT, .SEC_CNT, .HTI_W_QFAULT, .HTI_CNT, .DEC_GRAM, .DEC_GAUGE]
  | .maskLaneFault .. => [.mbx, .MBX_SUM, .MBX_CNT, .HTI_W_MBSTS, .HTI_W_FLT, .HTI_CNT, .DEC_LANES, .DEC_CNT, .CTL_READY]
  | .decCntClr .. => [.DEC_CNT]
  | .indexCreateCreate .. => [.hti, .tier, .rcl, .ring, .SHP_CTX_CNT, .SEC_CNT, .RCL_IDX, .RCL_GAUGE, .HTI_W_QFAULT, .HTI_CNT]
  | .indexCreateDestroy .. =>
    [.hti, .ses, .tier, .gore, .pool, .rcl, .ring, .TIER_RSV, .TIER_OBJ, .SHP_CTX_CNT, .SEC_CNT, .RING_CNT, .RCL_IDX,
    .RCL_GAUGE, .POOL_REGION, .POOL_OBJ, .POOL_LEND, .POOL_CNT, .HTI_W_QFAULT, .HTI_CNT, .GORE_CTX, .GORE_CTX_CNT, .CTL_READY]
  | .codebookLoad .. =>
    [.hti, .tier, .pool, .rcl, .ring, .TIER_RSV, .SHP_CTX_CNT, .SEC_CNT, .RING_CNT, .RCL_IDX, .RCL_GAUGE, .POOL_REGION,
    .POOL_LEND, .POOL_CNT, .HTI_W_QFAULT, .HTI_CNT]
  | .indexInsert .. =>
    [.hti, .ses, .tier, .gore, .pwr, .pool, .rcl, .ring, .TIER_OBJ, .TIER_DRV, .TIER_CNT, .SHP_CTX_CNT, .SEC_CNT, .RCL_IDX,
    .RCL_GAUGE, .PWR_DROGUE, .PWR_CNT, .POOL_OBJ, .POOL_CNT, .HTI_W_QFAULT, .HTI_CNT, .GORE_PANEL, .GORE_CTX, .GORE_CNT,
    .CTL_READY, .CTL_PM]
  | .indexDelete .. => [.hti, .rcl, .ring, .SHP_CTX_CNT, .SEC_CNT, .RCL_IDX, .RCL_GAUGE, .HTI_W_QFAULT, .HTI_CNT]
  | .indexCommit .. =>
    [.hti, .ses, .tier, .pool, .rcl, .ring, .TIER_OBJ, .TIER_DRV, .TIER_CNT, .SHP_CTX_CNT, .SEC_CNT, .RCL_IDX, .RCL_GAUGE,
    .RCL_CTX_CNT, .RCL_CNT, .POOL_OBJ, .POOL_CNT, .HTI_W_QFAULT, .HTI_CNT, .CTL_READY]
  | .recallQuery .. =>
    [.hti, .ses, .tier, .gore, .pwr, .rcl, .ring, .SHP_CTX_CNT, .SEC_CNT, .RCL_CTX_CNT, .RCL_CNT, .PWR_DROGUE, .PWR_CNT,
    .HTI_W_QFAULT, .HTI_CNT, .GORE_PANEL, .GORE_CTX, .GORE_CTX_CNT, .GORE_CNT, .CTL_PM]
  | .queryRoundEnd .. =>
    [.hti, .ses, .tier, .gore, .pwr, .fleet, .rcl, .ring, .TIER_STALL, .TIER_CNT, .SHP_CTX_CNT, .SEC_CNT, .RING_PORT_CNT,
    .RCL_CTX_CNT, .RCL_CNT, .PWR_DROGUE, .PWR_CNT, .MTR_LIVE, .HTI_W_QFAULT, .HTI_TIME, .HTI_CNT, .GORE_PANEL, .GORE_CTX,
    .GORE_CTX_CNT, .GORE_CNT, .GORE_CLASS, .CTL_RT, .CTL_RST_CNT, .CTL_PM, .CTL_PIN_CNT]
  | .compactionOldChainFree .. => [.ses, .tier, .pool, .rcl, .TIER_OBJ, .RCL_IDX, .RCL_GAUGE, .POOL_OBJ, .POOL_CNT, .CTL_READY]
  | .helperLoadLoad .. | .helperLoadRemove .. =>
    [.hti, .tier, .rcl, .ring, .TIER_RSV, .SHP_CTX_CNT, .SEC_CNT, .RCL_HELPER, .RCL_GAUGE, .HTI_W_QFAULT, .HTI_CNT]
  | .encoderRun .. =>
    [.hti, .ses, .tier, .gore, .pwr, .rcl, .ring, .SHP_CTX_CNT, .SEC_CNT, .PWR_DROGUE, .PWR_CNT, .HTI_W_QFAULT, .HTI_CNT,
    .GORE_PANEL, .GORE_CTX, .GORE_CNT, .CTL_PM]
  | .rclCntClr .. => [.RCL_CNT]
  | .rclCtxCntClr .. => [.latch, .RCL_CTX_CNT]
  | .lendSet .. =>
    [.hti, .mbx, .ses, .tier, .fleet, .pool, .ring, .TIER_OBJ, .TIER_DRV, .TIER_CNT, .SHP_CTX_CNT, .SEC_CNT, .POOL_OBJ,
    .POOL_LEND, .POOL_CNT, .MBX_SUM, .MBX_CNT, .HTI_W_QFAULT, .HTI_W_MBSTS, .HTI_W_EVT, .HTI_CNT, .CTL_SES, .CTL_SES_CNT,
    .CTL_READY]
  | .lendReclaimTimeout .. =>
    [.hti, .fleet, .pool, .ring, .TIER_STALL, .SHP_CTX_CNT, .SEC_CNT, .RING_PORT_CNT, .PWR_CNT, .POOL_LEND, .POOL_CNT,
    .MTR_LIVE, .HTI_W_QFAULT, .HTI_TIME, .HTI_CNT, .GORE_CTX_CNT, .GORE_CLASS, .CTL_RT, .CTL_RST_CNT, .CTL_PIN_CNT]
  | .extentAddRequest .. => [.tier, .pool, .POOL_LEND, .POOL_CNT]
  | .extentReleasedByBorrower .. => [.hti, .tier, .pool, .ring, .SHP_CTX_CNT, .SEC_CNT, .POOL_LEND, .HTI_W_QFAULT, .HTI_CNT]
  | .extentReleaseRequest .. => [.ses, .tier, .pool, .TIER_OBJ, .TIER_DRV, .TIER_CNT, .POOL_OBJ, .POOL_CNT, .CTL_READY]
  | .poolRangeAppears .. => [.tier, .TIER_OBJ, .POOL_OBJ, .POOL_CNT, .CTL_READY]
  | .cxlMemRequest .. => [.pool, .POOL_CNT]
  | .regionMapCreate .. | .publishAnswerReceived .. =>
    [.hti, .pool, .ring, .SHP_CTX_CNT, .SEC_CNT, .POOL_REGION, .POOL_LEND, .HTI_W_QFAULT, .HTI_CNT]
  | .regionMapDestroy .. | .publishReadyReceived .. =>
    [.hti, .pool, .ring, .SHP_CTX_CNT, .SEC_CNT, .RING_CNT, .POOL_REGION, .POOL_LEND, .HTI_W_QFAULT, .HTI_CNT]
  | .regionPublish .. => [.hti, .pool, .ring, .SHP_CTX_CNT, .SEC_CNT, .RING_CNT, .HTI_W_QFAULT, .HTI_CNT]
  | .publishOpenReceived .. | .publishCommitReceived .. | .regionAttachAttach .. | .regionAttachDetach ..
  | .regionHoldMessageReceived .. =>
    [.hti, .pool, .ring, .SHP_CTX_CNT, .SEC_CNT, .RING_CNT, .POOL_REGION, .POOL_LEND, .POOL_CNT, .HTI_W_QFAULT, .HTI_CNT]
  | .publishCommitResend .. =>
    [.fleet, .pool, .ring, .TIER_STALL, .SHP_CTX_CNT, .RING_PORT_CNT, .RING_CNT, .PWR_CNT, .MTR_LIVE, .HTI_TIME, .HTI_CNT,
    .GORE_CTX_CNT, .GORE_CLASS, .CTL_RT, .CTL_RST_CNT, .CTL_PIN_CNT]
  | .stageLimitExpiry .. =>
    [.fleet, .pool, .TIER_STALL, .SHP_CTX_CNT, .RING_PORT_CNT, .PWR_CNT, .POOL_REGION, .POOL_LEND, .POOL_CNT, .MTR_LIVE,
    .HTI_TIME, .HTI_CNT, .GORE_CTX_CNT, .GORE_CLASS, .CTL_RT, .CTL_RST_CNT, .CTL_PIN_CNT]
  | .poolCntClr .. => [.POOL_CNT]
  | .ringFrameReceived .. => [.pwr, .ring, .SHP_CTX_CNT, .SHP_CNT, .RING_PORT_CNT, .RING_CNT, .PWR_DROGUE, .PWR_CNT, .CTL_PM]
  | .ringFrameForward .. => [.ring, .RING_PORT_CNT, .RING_CNT]
  | .linkFrameError .. => [.ring, .RING_PORT_CNT]
  | .ringLinkRetrain .. | .ringLinkDown .. => [.ring, .RING_PORT, .RING_PORT_CNT, .CTL_READY]
  | .ringCablePlug .. => [.fab, .ring, .RING_PORT, .RING_PORT_CNT, .RING_BYP, .CTL_READY, .CTL_PIN_CNT]
  | .reorderGapTimeout .. =>
    [.pwr, .fleet, .ring, .TIER_STALL, .SHP_CTX_CNT, .RING_PORT_CNT, .RING_CNT, .PWR_DROGUE, .PWR_CNT, .MTR_LIVE, .HTI_TIME,
    .HTI_CNT, .GORE_CTX_CNT, .GORE_CLASS, .CTL_RT, .CTL_RST_CNT, .CTL_PM, .CTL_PIN_CNT]
  | .routeHoldTimeout .. =>
    [.hti, .fleet, .pool, .ring, .TIER_STALL, .SHP_CTX_CNT, .SEC_CNT, .RING_PORT_CNT, .RING_CNT, .PWR_CNT, .POOL_REGION,
    .POOL_LEND, .MTR_LIVE, .HTI_W_QFAULT, .HTI_TIME, .HTI_CNT, .GORE_CTX_CNT, .GORE_CLASS, .CTL_RT, .CTL_RST_CNT,
    .CTL_PIN_CNT]
  | .helloReceived .. | .pauseReceived .. => [.fab]
  | .mapFormTimeout .. | .mapBeatPeriod .. | .memberLossTimeout .. | .leaderCandidacyTimeout .. | .evacuationLimitExpiry .. =>
    [.hti, .mbx, .ses, .tier, .gore, .attn, .fab, .fleet, .dec, .pool, .ring, .TXT_SLOT, .TIER_STALL, .TIER_RSV, .TIER_OBJ,
    .TIER_CNT, .SHP_CTX_CNT, .SEC_CNT, .RING_STS, .RING_PORT, .RING_PORT_CNT, .RING_MAP, .RING_LED, .RING_INHERIT, .RING_EVAC,
    .RING_CNT, .RING_BYP, .PWR_CNT, .POOL_REGION, .POOL_OBJ, .POOL_LEND, .POOL_CNT, .MTR_LIVE, .MBX_SUM, .MBX_CNT,
    .HTI_W_QFAULT, .HTI_W_MBSTS, .HTI_W_EVT, .HTI_TIME, .HTI_CNT, .GORE_TILE_CNT, .GORE_SHAPE, .GORE_CTX, .GORE_CTX_CNT,
    .GORE_CLASS, .GORE_ATTN_CNT, .DEC_GRAM, .DEC_GAUGE, .CTL_SES, .CTL_SES_CNT, .CTL_RT, .CTL_RST_CNT, .CTL_READY,
    .CTL_PIN_CNT]
  | .joinReceived .. | .mapChangeAckReceived .. | .mapCommitReceived .. | .heartbeatReceived ..
  | .evacuationTransfersDone .. =>
    [.hti, .mbx, .ses, .tier, .gore, .attn, .fab, .fleet, .dec, .pool, .ring, .TXT_SLOT, .TIER_RSV, .TIER_OBJ, .TIER_CNT,
    .SHP_CTX_CNT, .SEC_CNT, .RING_STS, .RING_PORT, .RING_PORT_CNT, .RING_MAP, .RING_LED, .RING_INHERIT, .RING_EVAC, .RING_CNT,
    .RING_BYP, .POOL_REGION, .POOL_OBJ, .POOL_LEND, .POOL_CNT, .MBX_SUM, .MBX_CNT, .HTI_W_QFAULT, .HTI_W_MBSTS, .HTI_W_EVT,
    .HTI_CNT, .GORE_TILE_CNT, .GORE_SHAPE, .GORE_CTX, .GORE_CTX_CNT, .GORE_ATTN_CNT, .DEC_GRAM, .DEC_GAUGE, .CTL_SES,
    .CTL_SES_CNT, .CTL_READY]
  | .mapBeatReceived .. => [.fab, .ring, .RING_STS, .RING_MAP, .RING_CNT]
  | .leaderProposalReceived .. => [.fab, .ring, .RING_CNT]
  | .isolateTimeout .. =>
    [.ses, .tier, .gore, .attn, .pwr, .fab, .fleet, .pool, .TIER_STALL, .TIER_OBJ, .SHP_CTX_CNT, .RING_STS, .RING_PORT_CNT,
    .RING_CNT, .PWR_DROGUE, .PWR_CNT, .POOL_OBJ, .POOL_CNT, .MTR_LIVE, .HTI_TIME, .HTI_CNT, .GORE_TILE_CNT, .GORE_PANEL,
    .GORE_CTX, .GORE_CTX_CNT, .GORE_CNT, .GORE_CLASS, .CTL_RT, .CTL_RST_CNT, .CTL_READY, .CTL_PM, .CTL_PIN_CNT]
  | .expelledReceived .. =>
    [.hti, .mbx, .ses, .tier, .gore, .attn, .pwr, .fab, .dec, .pool, .ring, .TXT_SLOT, .TIER_RSV, .TIER_OBJ, .TIER_CNT,
    .SHP_CTX_CNT, .SEC_CNT, .RING_STS, .RING_PORT, .RING_PORT_CNT, .RING_MAP, .RING_LED, .RING_INHERIT, .RING_EVAC, .RING_CNT,
    .RING_BYP, .PWR_DROGUE, .PWR_CNT, .POOL_OBJ, .POOL_CNT, .MBX_SUM, .MBX_CNT, .HTI_W_QFAULT, .HTI_W_MBSTS, .HTI_W_EVT,
    .HTI_CNT, .GORE_TILE_CNT, .GORE_SHAPE, .GORE_PANEL, .GORE_CTX, .GORE_CTX_CNT, .GORE_CNT, .GORE_ATTN_CNT, .DEC_GRAM,
    .DEC_GAUGE, .CTL_SES, .CTL_READY, .CTL_PM]
  | .bypassLoopbackTrained .. => [.fab, .RING_BYP]
  | .pauseAckReceived .. =>
    [.hti, .mbx, .fab, .ring, .SHP_CTX_CNT, .SEC_CNT, .RING_STS, .RING_PORT, .RING_PORT_CNT, .RING_MAP, .RING_LED,
    .RING_INHERIT, .RING_EVAC, .RING_CNT, .RING_BYP, .MBX_SUM, .MBX_CNT, .HTI_W_QFAULT, .HTI_W_MBSTS, .HTI_W_EVT, .HTI_CNT,
    .CTL_SES, .CTL_READY]
  | .bypassOpeningTimeout .. =>
    [.hti, .mbx, .fab, .fleet, .ring, .TIER_STALL, .SHP_CTX_CNT, .SEC_CNT, .RING_STS, .RING_PORT, .RING_PORT_CNT, .RING_MAP,
    .RING_LED, .RING_INHERIT, .RING_EVAC, .RING_CNT, .RING_BYP, .PWR_CNT, .MTR_LIVE, .MBX_SUM, .MBX_CNT, .HTI_W_QFAULT,
    .HTI_W_MBSTS, .HTI_W_EVT, .HTI_TIME, .HTI_CNT, .GORE_CTX_CNT, .GORE_CLASS, .CTL_SES, .CTL_RT, .CTL_RST_CNT, .CTL_READY,
    .CTL_PIN_CNT]
  | .bypassOpenTrainTimeout .. | .retentionHeartbeatLoss .. =>
    [.fab, .fleet, .ring, .TIER_STALL, .SHP_CTX_CNT, .RING_PORT, .RING_PORT_CNT, .RING_CNT, .RING_BYP, .PWR_CNT, .MTR_LIVE,
    .HTI_TIME, .HTI_CNT, .GORE_CTX_CNT, .GORE_CLASS, .CTL_RT, .CTL_RST_CNT, .CTL_READY, .CTL_PIN_CNT]
  | .bypassRetryTimeout .. =>
    [.fab, .fleet, .TIER_STALL, .SHP_CTX_CNT, .RING_PORT_CNT, .RING_BYP, .PWR_CNT, .MTR_LIVE, .HTI_TIME, .HTI_CNT,
    .GORE_CTX_CNT, .GORE_CLASS, .CTL_RT, .CTL_RST_CNT, .CTL_PIN_CNT]
  | .ringBypForceClose .. => [.fab, .ring, .RING_PORT, .RING_PORT_CNT, .RING_CNT, .RING_BYP, .CTL_READY]
  | .evacuate .. =>
    [.hti, .mbx, .ses, .tier, .gore, .attn, .pins, .fab, .fleet, .dec, .pool, .ring, .TXT_SLOT, .TIER_RSV, .TIER_OBJ,
    .TIER_CNT, .SHP_CTX_CNT, .SEC_CNT, .RING_STS, .RING_PORT, .RING_PORT_CNT, .RING_MAP, .RING_LED, .RING_INHERIT, .RING_EVAC,
    .RING_CNT, .RING_BYP, .POOL_REGION, .POOL_OBJ, .POOL_LEND, .POOL_CNT, .MBX_SUM, .MBX_CNT, .HTI_W_QFAULT, .HTI_W_MBSTS,
    .HTI_W_EVT, .HTI_CNT, .GORE_TILE_CNT, .GORE_SHAPE, .GORE_CTX, .GORE_CTX_CNT, .GORE_ATTN_CNT, .DEC_GRAM, .DEC_GAUGE,
    .CTL_SES, .CTL_SES_CNT, .CTL_READY]
  | .ringVcWrite .. => [.RING_VC, .RING_CNT]
  | .ringMapCfgWrite .. => [.latch, .RING_MAP, .RING_CNT]
  | .ringCntClr .. => [.RING_PORT_CNT, .RING_CNT]
  | .refillInstant .. =>
    [.hti, .pwr, .fleet, .ring, .TIER_STALL, .SHP_CTX_CNT, .SEC_CNT, .RING_PORT_CNT, .RING_CNT, .PWR_DROGUE, .PWR_CNT,
    .MTR_LIVE, .HTI_W_QFAULT, .HTI_TIME, .HTI_CNT, .GORE_CTX_CNT, .GORE_CLASS, .CTL_RT, .CTL_RST_CNT, .CTL_PM, .CTL_PIN_CNT]
  | .portFrameStart .. =>
    [.fleet, .ring, .TIER_STALL, .SHP_CTX_CNT, .SHP_CNT, .RING_PORT_CNT, .PWR_CNT, .MTR_LIVE, .HTI_TIME, .HTI_CNT,
    .GORE_CTX_CNT, .GORE_CLASS, .CTL_RT, .CTL_RST_CNT, .CTL_PIN_CNT]
  | .deferTimeout .. =>
    [.pwr, .fleet, .ring, .TIER_STALL, .SHP_CTX_CNT, .SHP_CNT, .RING_PORT_CNT, .RING_CNT, .PWR_DROGUE, .PWR_CNT, .MTR_LIVE,
    .HTI_TIME, .HTI_CNT, .GORE_CTX_CNT, .GORE_CLASS, .CTL_RT, .CTL_RST_CNT, .CTL_PM, .CTL_PIN_CNT]
  | .policeNackReceived .. =>
    [.hti, .pool, .ring, .SHP_CTX_CNT, .SHP_CNT, .SEC_CNT, .POOL_REGION, .POOL_LEND, .HTI_W_QFAULT, .HTI_CNT]
  | .queueSampleTick .. =>
    [.fleet, .ring, .TIER_STALL, .SHP_HIST, .SHP_CTX_CNT, .SHP_CNT, .RING_PORT_CNT, .PWR_CNT, .MTR_LIVE, .HTI_TIME, .HTI_CNT,
    .GORE_CTX_CNT, .GORE_CLASS, .CTL_RT, .CTL_RST_CNT, .CTL_PIN_CNT]
  | .shaperSet .. => [.hti, .ring, .SHP_VC, .SHP_PORT, .SHP_CTX_CNT, .SHP_CTXQ, .SEC_CNT, .HTI_W_QFAULT, .HTI_CNT]
  | .policerSet .. => [.hti, .ring, .SHP_RPOL, .SHP_HPOL, .SHP_CTX_CNT, .SEC_CNT, .HTI_W_QFAULT, .HTI_CNT]
  | .shpHistClr .. => [.SHP_HIST]
  | .shpCntClr .. => [.SHP_CNT]
  | .shpCtxCntClr .. => [.latch, .SHP_CTX_CNT]
  | .roleSet .. =>
    [.hti, .ses, .tier, .gore, .pwr, .fleet, .ring, .SHP_CTX_CNT, .SEC_CNT, .PWR_DROGUE, .PWR_CNT, .HTI_W_QFAULT, .HTI_CNT,
    .GORE_ROLE, .GORE_PANEL, .GORE_CTX, .GORE_CNT, .CTL_PM, .CTL_ADM, .CTL_ADM_CNT]
  | .admissionEvaluation .. =>
    [.mbx, .fleet, .TIER_STALL, .SHP_CTX_CNT, .RING_PORT_CNT, .PWR_CNT, .MTR_LIVE, .MBX_SUM, .MBX_CNT, .HTI_W_MBSTS,
    .HTI_W_EVT, .HTI_TIME, .HTI_CNT, .GORE_CTX_CNT, .GORE_CLASS, .CTL_RT, .CTL_RST_CNT, .CTL_PIN_CNT, .CTL_ADM, .CTL_ADM_CNT]
  | .storageMeterTick .. =>
    [.fleet, .TIER_STALL, .SHP_CTX_CNT, .RING_PORT_CNT, .PWR_CNT, .MTR_LIVE, .HTI_TIME, .HTI_CNT, .GORE_CTX_CNT, .GORE_CLASS,
    .CTL_RT, .CTL_RST_CNT, .CTL_PIN_CNT]
  | .meterCheckpoint .. =>
    [.fleet, .TIER_STALL, .SHP_CTX_CNT, .RING_PORT_CNT, .PWR_CNT, .MTR_LIVE, .MTR_CNT, .HTI_TIME, .HTI_CNT, .GORE_CTX_CNT,
    .GORE_CLASS, .CTL_RT, .CTL_RST_CNT, .CTL_PIN_CNT]
  | .meterReadLive .. | .meterReadFetch .. | .meterReadAck .. | .remoteMeterRequest .. =>
    [.hti, .fleet, .ring, .SHP_CTX_CNT, .SEC_CNT, .RING_CNT, .MTR_CNT, .MTR_ARCH, .HTI_W_QFAULT, .HTI_CNT]
  | .remoteMeterTimeout .. =>
    [.hti, .fleet, .ring, .TIER_STALL, .SHP_CTX_CNT, .SEC_CNT, .RING_PORT_CNT, .RING_CNT, .PWR_CNT, .MTR_LIVE, .HTI_W_QFAULT,
    .HTI_TIME, .HTI_CNT, .GORE_CTX_CNT, .GORE_CLASS, .CTL_RT, .CTL_RST_CNT, .CTL_PIN_CNT]
  | .mtrCompTagWrite .. => [.latch, .SEC_CNT, .MTR_COMP, .MTR_CNT]
  | .ctlAdmCntClr .. => [.CTL_ADM_CNT]
  | .mtrCntClr .. => [.MTR_CNT]
  | .ctlSesCntClr .. => [.CTL_SES_CNT]
  | .jobKeySet .. => [.hti, .ring, .sec, .SHP_CTX_CNT, .SEC_FABRIC, .SEC_CTX, .SEC_CNT, .HTI_W_QFAULT, .HTI_CNT]
  | .jobKeyRetire .. =>
    [.hti, .mbx, .ses, .tier, .gore, .attn, .pwr, .fab, .fleet, .dec, .pool, .rcl, .ring, .sec, .TIER_RSV, .TIER_OBJ,
    .TIER_DRV, .TIER_CNT, .SHP_CTX_CNT, .SEC_FABRIC, .SEC_CTX, .SEC_CNT, .RING_CNT, .RCL_IDX, .RCL_GAUGE, .RCL_CTX_CNT,
    .RCL_CNT, .PWR_DROGUE, .PWR_CNT, .POOL_REGION, .POOL_OBJ, .POOL_LEND, .POOL_CNT, .MBX_SUM, .MBX_CNT, .HTI_W_QFAULT,
    .HTI_W_MBSTS, .HTI_W_EVT, .HTI_CNT, .GORE_TILE_CNT, .GORE_ROLE, .GORE_PANEL, .GORE_CTX, .GORE_CTX_CNT, .GORE_CNT,
    .GORE_ATTN_CNT, .CTL_SES, .CTL_SES_CNT, .CTL_READY, .CTL_PM, .CTL_ADM, .CTL_ADM_CNT]
  | .keySlotEmptied .. => [.hti, .ring, .sec, .SHP_CTX_CNT, .SEC_CTX, .SEC_CNT, .HTI_W_QFAULT, .HTI_CNT]
  | .secFabricTxSlotWrite .. => [.SEC_FABRIC, .RING_CNT]
  | .secCntClr .. | .tdispGetRequest .. => [.SEC_CNT]
  | .spdmRequest .. => [.sec, .SEC_CNT]
  | .ideKmRequest .. | .ideStreamFailure .. =>
    [.hti, .mbx, .ses, .tier, .gore, .attn, .pwr, .fab, .fleet, .dec, .pool, .rcl, .ring, .sec, .TIER_RSV, .TIER_OBJ,
    .TIER_DRV, .TIER_CNT, .SHP_CTX_CNT, .SEC_IDE, .SEC_CTX, .SEC_CNT, .RING_CNT, .RCL_IDX, .RCL_GAUGE, .RCL_CTX_CNT, .RCL_CNT,
    .PWR_DROGUE, .PWR_CNT, .POOL_REGION, .POOL_OBJ, .POOL_LEND, .POOL_CNT, .MBX_SUM, .MBX_CNT, .HTI_W_QFAULT, .HTI_W_MBSTS,
    .HTI_W_EVT, .HTI_CNT, .GORE_TILE_CNT, .GORE_ROLE, .GORE_PANEL, .GORE_CTX, .GORE_CTX_CNT, .GORE_CNT, .GORE_ATTN_CNT,
    .CTL_SES, .CTL_SES_CNT, .CTL_READY, .CTL_PM, .CTL_ADM, .CTL_ADM_CNT]
  | .lockInterfaceRequest .. => [.attn, .sec, .SEC_CTX, .SEC_CNT]
  | .startInterfaceRequest .. => [.SEC_CTX, .SEC_CNT]
  | .stopInterfaceRequest .. =>
    [.hti, .mbx, .ses, .tier, .gore, .attn, .pwr, .fab, .fleet, .dec, .pool, .rcl, .ring, .sec, .TXT_SLOT, .TIER_RSV,
    .TIER_OBJ, .TIER_DRV, .TIER_CNT, .SHP_CTX_CNT, .SEC_CTX, .SEC_CNT, .RING_CNT, .RCL_IDX, .RCL_HELPER, .RCL_GAUGE,
    .RCL_CTX_CNT, .RCL_CNT, .PWR_DROGUE, .PWR_CNT, .POOL_REGION, .POOL_OBJ, .POOL_LEND, .POOL_CNT, .MBX_SUM, .MBX_CNT,
    .HTI_W_QFAULT, .HTI_W_MBSTS, .HTI_W_EVT, .HTI_CNT, .GORE_TILE_CNT, .GORE_SHAPE, .GORE_ROLE, .GORE_PANEL, .GORE_CTX,
    .GORE_CTX_CNT, .GORE_CNT, .GORE_ATTN_CNT, .DEC_GRAM, .DEC_GAUGE, .DEC_CNT, .CTL_SES, .CTL_SES_CNT, .CTL_READY, .CTL_PM,
    .CTL_ADM, .CTL_ADM_CNT]
  | .svnCommit .. => [.mbx, .SEC_SVN]
  | .fwStage .. => [.mbx, .sec]
  | .importKeySet .. => [.mbx, .sec, .SEC_CTX]
  | .fabricKeySet .. => [.mbx, .sec, .SEC_FABRIC, .SEC_CNT]
  | .ownerTransfer .. => [.mbx, .sec, .SEC_OWNER]
  | .debugUnlock .. =>
    [.hti, .mbx, .ses, .tier, .gore, .attn, .pwr, .fab, .fleet, .dec, .pool, .rcl, .ring, .sec, .TIER_RSV, .TIER_OBJ,
    .TIER_DRV, .TIER_CNT, .SHP_CTX_CNT, .SEC_FABRIC, .SEC_DEBUG, .SEC_CTX, .SEC_CNT, .RING_CNT, .RCL_IDX, .RCL_GAUGE,
    .RCL_CTX_CNT, .RCL_CNT, .PWR_DROGUE, .PWR_CNT, .POOL_REGION, .POOL_OBJ, .POOL_LEND, .POOL_CNT, .MBX_SUM, .MBX_CNT,
    .HTI_W_QFAULT, .HTI_W_MBSTS, .HTI_W_EVT, .HTI_CNT, .GORE_TILE_CNT, .GORE_SHAPE, .GORE_ROLE, .GORE_PANEL, .GORE_CTX,
    .GORE_CTX_CNT, .GORE_CNT, .GORE_ATTN_CNT, .CTL_SES, .CTL_SES_CNT, .CTL_READY, .CTL_PM, .CTL_ADM, .CTL_ADM_CNT]
  | .zeroize .. => [.mbx, .boot, .sec, .SEC_OWNER, .SEC_FABRIC, .SEC_CTX, .NVM_SS]
  | .mbInfo .. | .mbEcho .. | .faultArchiveRead .. | .resetCause .. => [.mbx]
  | .htiWMbreqSeal .. => [.mbx, .SEC_CNT, .MBX_S, .MBX_CNT, .HTI_W_MBSTS, .HTI_ERRLOG]
  | .htiWMbrspRead .. | .registerReadLogged .. => [.SEC_CNT, .MBX_S, .HTI_W_MBRSP, .HTI_ERRLOG]
  | .mctpSecureMessage .. => [.mbx, .SEC_CNT, .MBX_S, .MBX_CNT, .HTI_W_MBSTS]
  | .mbxSumAck .. => [.latch, .MBX_SUM]
  | .doorbellWordWriteDone .. => [.mbx, .MBX_CNT]
  | .doorbellWordWriteFail .. => [.mbx, .MBX_SUM, .MBX_MODE, .HTI_CNT]
  | .htiWEvtEnable .. | .htiWEvtHeadWrite .. => [.mbx, .SEC_CNT, .MBX_SUM, .HTI_W_EVT, .HTI_ERRLOG, .HTI_CNT]
  | .htiWEvtDisable .. => [.mbx, .SEC_CNT, .HTI_W_EVT, .HTI_ERRLOG]
  | .eventRecordWriteFail .. => [.mbx, .HTI_W_EVT]
  | .htiWFltHeadWrite .. => [.mbx, .SEC_CNT, .MBX_SUM, .HTI_W_FLT, .HTI_ERRLOG, .HTI_CNT]
  | .mbxCntClr .. => [.MBX_CNT]
  | .powerUp .. =>
    [.boot, .fleet, .TIER_STALL, .SHP_CTX_CNT, .RING_PORT_CNT, .PWR_CNT, .MTR_LIVE, .HTI_TIME, .HTI_CNT, .GORE_CTX_CNT,
    .GORE_CLASS, .CTL_RT, .CTL_RST_CNT, .CTL_PIN_CNT]
  | .porRelease .. =>
    [.boot, .fleet, .sec, .TIER_STALL, .SHP_CTX_CNT, .SEC_FABRIC, .RING_PORT, .RING_PORT_CNT, .PWR_CNT, .MTR_LIVE, .HTI_TIME,
    .HTI_CNT, .GORE_CTX_CNT, .GORE_CLASS, .CTL_SES, .CTL_RT, .CTL_RST_CNT, .CTL_PIN, .CTL_PIN_CNT]
  | .bootRomVerify .. =>
    [.boot, .fleet, .sec, .TIER_STALL, .SHP_CTX_CNT, .SEC_ID, .SEC_BOOT, .RING_PORT_CNT, .PWR_CNT, .MTR_LIVE, .HTI_TIME,
    .HTI_CNT, .GORE_CTX_CNT, .GORE_CLASS, .CTL_RT, .CTL_RST_CNT, .CTL_READY, .CTL_PIN, .CTL_PIN_CNT]
  | .perstNDeassert .. => Piece.withRegs [.mbx, .boot, .tier, .gore, .attn, .pwr, .fleet, .sec]
  | .hbmStackTrained .. => [.pwr, .fab, .CTL_READY, .CTL_PM]
  | .panelTestDone .. =>
    [.latch, .hti, .mbx, .boot, .ses, .tier, .gore, .attn, .pwr, .pins, .fab, .fleet, .dec, .pool, .rcl, .ring, .sec,
    .RING_PORT, .RING_PORT_CNT, .RING_LED, .RING_CNT, .RING_BYP, .PWR_DROGUE, .PWR_CNT, .POOL_PORT, .GORE_PANEL, .GORE_CTX,
    .GORE_CNT, .CTL_RST, .CTL_READY, .CTL_PM, .CTL_PIN]
  | .t1TrainingLimitExpiry .. =>
    [.fab, .fleet, .ring, .TIER_STALL, .SHP_CTX_CNT, .RING_PORT, .RING_PORT_CNT, .RING_LED, .RING_CNT, .RING_BYP, .PWR_CNT,
    .MTR_LIVE, .HTI_TIME, .HTI_CNT, .GORE_CTX_CNT, .GORE_CLASS, .CTL_RT, .CTL_RST_CNT, .CTL_READY, .CTL_PIN_CNT, .CTL_BOOT]
  | .nvmStoreStore .. | .nvmStoreClear .. =>
    [.hti, .boot, .ring, .SHP_CTX_CNT, .SEC_CNT, .NVM_SS, .NVM_CNT, .HTI_W_QFAULT, .HTI_CNT]
  | .nvmCntClr .. => [.NVM_CNT]
  | .ctlFnDisableStop .. =>
    [.hti, .mbx, .boot, .ses, .tier, .gore, .attn, .pwr, .fab, .fleet, .dec, .pool, .rcl, .ring, .TIER_RSV, .TIER_OBJ,
    .TIER_DRV, .TIER_CNT, .SHP_CTX_CNT, .SEC_CNT, .RING_CNT, .RCL_IDX, .RCL_GAUGE, .RCL_CTX_CNT, .RCL_CNT, .PWR_DROGUE,
    .PWR_CNT, .POOL_REGION, .POOL_OBJ, .POOL_LEND, .POOL_CNT, .MBX_SUM, .MBX_CNT, .HTI_W_QFAULT, .HTI_W_MBSTS, .HTI_W_EVT,
    .HTI_CNT, .GORE_TILE_CNT, .GORE_ROLE, .GORE_PANEL, .GORE_CTX, .GORE_CTX_CNT, .GORE_CNT, .GORE_ATTN_CNT, .CTL_SES,
    .CTL_SES_CNT, .CTL_READY, .CTL_PM, .CTL_FN, .CTL_ADM, .CTL_ADM_CNT]
  | .ctlFnDisableDrain .. | .ctlFnEnable .. | .fnAcceptedWorkDone .. =>
    [.boot, .ses, .tier, .gore, .pwr, .PWR_DROGUE, .PWR_CNT, .GORE_PANEL, .GORE_CTX, .GORE_CNT, .CTL_PM, .CTL_FN]
  | .fnDisableTimeout .. =>
    [.hti, .mbx, .ses, .tier, .gore, .attn, .pwr, .fab, .fleet, .dec, .pool, .rcl, .ring, .TIER_STALL, .TIER_RSV, .TIER_OBJ,
    .TIER_DRV, .TIER_CNT, .SHP_CTX_CNT, .SEC_CNT, .RING_PORT_CNT, .RING_CNT, .RCL_IDX, .RCL_GAUGE, .RCL_CTX_CNT, .RCL_CNT,
    .PWR_DROGUE, .PWR_CNT, .POOL_REGION, .POOL_OBJ, .POOL_LEND, .POOL_CNT, .MTR_LIVE, .MBX_SUM, .MBX_CNT, .HTI_W_QFAULT,
    .HTI_W_MBSTS, .HTI_W_EVT, .HTI_TIME, .HTI_CNT, .GORE_TILE_CNT, .GORE_ROLE, .GORE_PANEL, .GORE_CTX, .GORE_CTX_CNT,
    .GORE_CNT, .GORE_CLASS, .GORE_ATTN_CNT, .CTL_SES, .CTL_SES_CNT, .CTL_RT, .CTL_RST_CNT, .CTL_READY, .CTL_PM, .CTL_PIN_CNT,
    .CTL_FN, .CTL_ADM, .CTL_ADM_CNT]
  | .softResetEnd .. => [.boot, .CTL_RESET, .CTL_FN]
  | .ctlFnRst .. =>
    [.hti, .mbx, .ses, .tier, .gore, .attn, .pwr, .fab, .fleet, .dec, .pool, .rcl, .ring, .TIER_RSV, .TIER_OBJ, .TIER_DRV,
    .TIER_CNT, .SHP_CTX_CNT, .SEC_CNT, .RING_CNT, .RCL_IDX, .RCL_GAUGE, .RCL_CTX_CNT, .RCL_CNT, .PWR_DROGUE, .PWR_CNT,
    .POOL_REGION, .POOL_OBJ, .POOL_LEND, .POOL_CNT, .MBX_SUM, .MBX_CNT, .HTI_W_QFAULT, .HTI_W_MBSTS, .HTI_W_EVT, .HTI_CNT,
    .GORE_TILE_CNT, .GORE_ROLE, .GORE_PANEL, .GORE_CTX, .GORE_CTX_CNT, .GORE_CNT, .GORE_ATTN_CNT, .CTL_SES, .CTL_SES_CNT,
    .CTL_RST_CNT, .CTL_READY, .CTL_PM, .CTL_FN, .CTL_ADM, .CTL_ADM_CNT]
  | .fnResetEnd .. =>
    [.boot, .ses, .tier, .gore, .pwr, .PWR_DROGUE, .PWR_CNT, .GORE_PANEL, .GORE_CTX, .GORE_CNT, .CTL_READY, .CTL_PM, .CTL_FN]
  | .ctxResetEnd .. => [.CTL_CTX]
  | .ctlRstCntClr .. => [.CTL_RST_CNT]
  | .p2Exit .. => [.pwr, .PWR_DROGUE, .PWR_CNT, .CTL_PM]
  | .p3Req .. =>
    Piece.withRegs [.latch, .hti, .mbx, .boot, .ses, .tier, .gore, .attn, .pwr, .fab, .fleet, .dec, .pool, .rcl, .ring]
  | .p3EntryComplete .. => Piece.withRegs [.latch, .hti, .mbx, .boot, .tier, .gore, .pwr, .pins, .fab, .fleet, .pool, .ring, .sec]
  | .p3LimitExpiry .. =>
    [.ses, .tier, .fleet, .TIER_STALL, .SHP_CTX_CNT, .RING_PORT_CNT, .PWR_CNT, .MTR_LIVE, .HTI_TIME, .HTI_CNT, .GORE_CTX_CNT,
    .GORE_CLASS, .CTL_RT, .CTL_RST_CNT, .CTL_READY, .CTL_PM, .CTL_PIN_CNT]
  | .pmWakeNAssert .. => Piece.withRegs [.boot, .ses, .tier, .gore, .attn, .pwr, .fab, .fleet]
  | .wholeFlewickFailure .. | .refclkLoss .. =>
    [.latch, .hti, .mbx, .boot, .ses, .tier, .gore, .attn, .pwr, .pins, .fab, .fleet, .dec, .pool, .rcl, .ring, .sec,
    .RING_PORT, .RING_PORT_CNT, .RING_LED, .RING_CNT, .RING_BYP, .POOL_PORT, .CTL_RST, .CTL_READY, .CTL_PIN]
  | .inputLowVin .. =>
    [.pwr, .fleet, .TIER_STALL, .SHP_CTX_CNT, .RING_PORT_CNT, .PWR_STS, .PWR_DROGUE, .PWR_CNT, .MTR_LIVE, .HTI_TIME, .HTI_CNT,
    .GORE_CTX_CNT, .GORE_CLASS, .CTL_RT, .CTL_RST_CNT, .CTL_PIN, .CTL_PIN_CNT]
  | .lowVinClear .. =>
    [.fleet, .TIER_STALL, .SHP_CTX_CNT, .RING_PORT_CNT, .PWR_STS, .PWR_CNT, .MTR_LIVE, .HTI_TIME, .HTI_CNT, .GORE_CTX_CNT,
    .GORE_CLASS, .CTL_RT, .CTL_RST_CNT, .CTL_PIN, .CTL_PIN_CNT]
  | .drogueAdmit .. =>
    [.pwr, .pins, .fleet, .TIER_STALL, .SHP_CTX_CNT, .RING_PORT_CNT, .PWR_DROGUE, .PWR_CNT, .PWR_CLK, .MTR_LIVE, .HTI_TIME,
    .HTI_CNT, .GORE_CTX_CNT, .GORE_CLASS, .CTL_RT, .CTL_RST_CNT, .CTL_PIN_CNT]
  | .limiterTick .. =>
    [.ses, .tier, .gore, .pwr, .fleet, .TIER_STALL, .SHP_CTX_CNT, .RING_PORT_CNT, .PWR_STS, .PWR_DROGUE, .PWR_CNT, .PWR_CLK,
    .MTR_LIVE, .HTI_TIME, .HTI_CNT, .GORE_PANEL, .GORE_CTX, .GORE_CTX_CNT, .GORE_CNT, .GORE_CLASS, .CTL_RT, .CTL_RST_CNT,
    .CTL_PM, .CTL_PIN_CNT]
  | .thermalTick .. =>
    [.pwr, .fleet, .TIER_STALL, .SHP_CTX_CNT, .RING_PORT_CNT, .PWR_TEMP, .PWR_STS, .PWR_CNT, .MTR_LIVE, .HTI_TIME, .HTI_CNT,
    .GORE_CTX_CNT, .GORE_CLASS, .CTL_RT, .CTL_RST_CNT, .CTL_PIN_CNT]
  | .thermalTrip .. =>
    [.latch, .hti, .mbx, .boot, .ses, .tier, .gore, .attn, .pwr, .pins, .fab, .fleet, .dec, .pool, .rcl, .ring, .sec,
    .TIER_STALL, .SHP_CTX_CNT, .RING_PORT, .RING_PORT_CNT, .RING_LED, .RING_CNT, .RING_BYP, .PWR_CNT, .POOL_PORT, .MTR_LIVE,
    .HTI_TIME, .HTI_CNT, .GORE_CTX_CNT, .GORE_CLASS, .CTL_RT, .CTL_RST_CNT, .CTL_RST, .CTL_READY, .CTL_PIN, .CTL_PIN_CNT]
  | .tripLockoutEnd .. =>
    [.pwr, .fleet, .TIER_STALL, .SHP_CTX_CNT, .RING_PORT_CNT, .PWR_CNT, .MTR_LIVE, .HTI_TIME, .HTI_CNT, .GORE_CTX_CNT,
    .GORE_CLASS, .CTL_RT, .CTL_RST_CNT, .CTL_PIN_CNT]
  | .pwrStepWrite .. => [.pwr, .PWR_STEP]
  | .pwrClkMaxWrite .. => [.PWR_CLK]
  | .pwrCntClr .. => [.PWR_TEMP, .PWR_DROGUE, .PWR_CNT]
  | .flashPrsntChange .. =>
    [.hti, .mbx, .ses, .tier, .gore, .attn, .pwr, .pins, .fleet, .pool, .rcl, .ring, .TIER_STALL, .TIER_OBJ, .TIER_DRV,
    .TIER_CNT, .SHP_CTX_CNT, .SEC_CNT, .RING_PORT_CNT, .RING_CNT, .RCL_IDX, .RCL_GAUGE, .RCL_CNT, .PWR_DROGUE, .PWR_CNT,
    .POOL_OBJ, .POOL_LEND, .POOL_CNT, .MTR_LIVE, .MBX_SUM, .MBX_CNT, .HTI_W_QFAULT, .HTI_W_MBSTS, .HTI_W_FLT, .HTI_W_EVT,
    .HTI_TIME, .HTI_CNT, .GORE_TILE, .GORE_TILE_CNT, .GORE_SHAPE, .GORE_PANEL, .GORE_CTX, .GORE_CTX_CNT, .GORE_CNT,
    .GORE_CLASS, .CTL_SES, .CTL_SES_CNT, .CTL_RT, .CTL_RST_CNT, .CTL_READY, .CTL_PM, .CTL_PIN, .CTL_PIN_CNT]
  | .flashPerstRelease .. | .vinHighRideThrough .. =>
    [.fleet, .TIER_STALL, .SHP_CTX_CNT, .RING_PORT_CNT, .PWR_CNT, .MTR_LIVE, .HTI_TIME, .HTI_CNT, .GORE_CTX_CNT, .GORE_CLASS,
    .CTL_RT, .CTL_RST_CNT, .CTL_PIN, .CTL_PIN_CNT]
  | .flashBringupRetry .. =>
    [.pwr, .pins, .fleet, .TIER_STALL, .SHP_CTX_CNT, .RING_PORT_CNT, .PWR_DROGUE, .PWR_CNT, .MTR_LIVE, .HTI_TIME, .HTI_CNT,
    .GORE_CTX_CNT, .GORE_CLASS, .CTL_RT, .CTL_RST_CNT, .CTL_PIN, .CTL_PIN_CNT]
  | .poolPerstNInput .. | .poolPortLinkChange .. =>
    [.hti, .mbx, .ses, .tier, .gore, .attn, .pwr, .fleet, .pool, .rcl, .ring, .TIER_OBJ, .TIER_DRV, .TIER_CNT, .SHP_CTX_CNT,
    .SEC_CNT, .RING_CNT, .RCL_IDX, .RCL_GAUGE, .RCL_CNT, .PWR_DROGUE, .PWR_CNT, .POOL_PORT, .POOL_OBJ, .POOL_LEND, .POOL_CNT,
    .MBX_SUM, .MBX_CNT, .HTI_W_QFAULT, .HTI_W_MBSTS, .HTI_W_FLT, .HTI_W_EVT, .HTI_CNT, .GORE_TILE, .GORE_TILE_CNT,
    .GORE_SHAPE, .GORE_PANEL, .GORE_CTX, .GORE_CTX_CNT, .GORE_CNT, .CTL_SES, .CTL_SES_CNT, .CTL_READY, .CTL_PM, .CTL_PIN]
  | .spiReqAssert .. => [.CTL_PIN, .CTL_PIN_CNT]
  | .spiReqDeassert .. => [.CTL_PIN]
  | .svcAttnPress .. =>
    [.hti, .mbx, .ses, .tier, .gore, .attn, .pins, .fab, .fleet, .dec, .pool, .ring, .TXT_SLOT, .TIER_STALL, .TIER_RSV,
    .TIER_OBJ, .TIER_CNT, .SHP_CTX_CNT, .SEC_CNT, .RING_STS, .RING_PORT, .RING_PORT_CNT, .RING_MAP, .RING_LED, .RING_INHERIT,
    .RING_EVAC, .RING_CNT, .RING_BYP, .PWR_CNT, .POOL_REGION, .POOL_OBJ, .POOL_LEND, .POOL_CNT, .MTR_LIVE, .MBX_SUM, .MBX_CNT,
    .HTI_W_QFAULT, .HTI_W_MBSTS, .HTI_W_EVT, .HTI_TIME, .HTI_CNT, .GORE_TILE_CNT, .GORE_SHAPE, .GORE_CTX, .GORE_CTX_CNT,
    .GORE_CLASS, .GORE_ATTN_CNT, .DEC_GRAM, .DEC_GAUGE, .CTL_SES, .CTL_SES_CNT, .CTL_RT, .CTL_RST_CNT, .CTL_READY,
    .CTL_PIN_CNT]
  | .i3cEntdaa .. => [.pins]
  | .ctlPinCntClr .. => [.CTL_PIN_CNT]
  | .hostPortLinkChange .. => [.pwr, .PWR_DROGUE, .PWR_CNT, .HTI_PORT]
  | .ringPortTrained .. => [.pwr, .fab, .ring, .RING_PORT, .RING_PORT_CNT, .CTL_READY]
  | .logicalDeviceBind .. => [.hti, .tier, .pool, .ring, .SHP_CTX_CNT, .SEC_CNT, .POOL_PORT, .POOL_LEND, .HTI_W_QFAULT, .HTI_CNT]
  | .engineLaneTestDone .. => [.boot, .TXT_LANES, .DEC_LANES, .CTL_READY, .CTL_PM]
  | .jtagTapOperation .. | .mapRequestReceived .. => []
  | .sessionRoleNoticeReceived .. =>
    [.hti, .ses, .tier, .gore, .attn, .dec, .pool, .ring, .TIER_RSV, .TIER_OBJ, .SHP_CTX_CNT, .SEC_CNT, .RING_CNT, .POOL_OBJ,
    .POOL_CNT, .HTI_W_QFAULT, .HTI_CNT, .GORE_TILE_CNT, .GORE_SHAPE, .GORE_ATTN_CNT, .CTL_SES, .CTL_READY]
  | .serviceLedBlinkEnd .. =>
    [.pins, .fleet, .TIER_STALL, .SHP_CTX_CNT, .RING_PORT_CNT, .RING_LED, .PWR_CNT, .MTR_LIVE, .HTI_TIME, .HTI_CNT,
    .GORE_CTX_CNT, .GORE_CLASS, .CTL_RT, .CTL_RST_CNT, .CTL_PIN_CNT]

end Sys2Proof.Machine
end

