-- ==== Sys2Proof/Safety.lean ====
section
/-! DEFINITION. What counts as a safe run, and the terms in which the statements speak of two states and of a command that may run. -/

namespace Sys2Proof.Machine

/-- The register file is canonical (log 7). -/
def State.regsOk (s : State) : Prop := regsWf s.regs = true

/-- A command completes: exec answers a next state. -/
def Completes (i : Instr) (s : State) : Prop := ∃ t, exec i s = .next t

/-- A run of `k` steps that stops nowhere. -/
def SafeRun (k : Nat) (s : State) : Prop := ∃ t, Sys2Proof.core.run k s = .next t

/-- From `s` to `t`, nothing but fields of a list changed. -/
def OnlyRegs (l : List Fld) (s t : State) : Prop :=
  (∃ r, t = { s with regs := r }) ∧ ∀ f, f ∉ l → ∀ i j, t.rd f i j = s.rd f i j

/-- The accepted command `k`, of opcode `op`, may run: it waits, nothing before it holds it (R61 to R63), no SOFT reset holds a command
that names sessions (R485), and TDISP lets it run (R437, R438). -/
def State.mayRun (s : State) (k op : Nat) (c : Cmd) : Prop :=
  s.cmd k = some c ∧ c.op = op ∧ c.phase = .waiting ∧ s.startable c = true ∧ (s.on .CTL_RESET_SOFT && namesSession op) = false ∧
    s.tdiRefuse c = none

/-- A write through a port meets the context's window: the window can be reached (R16), the port is the bound one (R44), TDISP lets the
write pass (R438), and no CTX reset of the context runs (R484). -/
def State.windowOpen (s : State) (port c : Nat) : Bool :=
  s.blkOn .HTIW && s.port c = port % 2 && !(s.rd .SEC_CTX_TDI c = 3 && !(decide (2 ≤ port) && s.teeOn (port % 2))) &&
    !s.bit .CTL_CTX_RST_CTX c

/-- A channel holds a sealed request of procedure `p` that is not yet answered and that R445 does not turn away. -/
def State.asked (s : State) (ch p : Nat) : Bool :=
  decide (ch < 72) && (s.chan ch).len != 0 && (s.chan ch).ans.isNone && decide ((s.chan ch).byte 0 = p) && (s.reqFault ch).isNone

end Sys2Proof.Machine
end

