-- ==== Sys2Proof/WellFormed.lean ====
section
/-! DEFINITION. Which commands are well formed: every operand within the range of what it names. -/

namespace Sys2Proof

/-- Port numbers (R36): host 0 and 1, pool 0 to 3, flash 0 to 7, ring 0 to 7, bypass pairs 0 to 3. -/
def isHostPort (n : Nat) : Bool := decide (n < 2)
/-- A host port by which an access comes, and 2 more where it carries the T bit (R438). -/
def isAccessPort (n : Nat) : Bool := decide (n < 4)
def isPoolPort (n : Nat) : Bool := decide (n < 4)
def isFlashPort (n : Nat) : Bool := decide (n < 8)
def isRingPort (n : Nat) : Bool := decide (n < 8)
def isBypassPair (n : Nat) : Bool := decide (n < 4)

/-- Contexts (spec/02), the functions they are bound to (spec/18), queue pairs of a context. -/
def isContext (n : Nat) : Bool := decide (n < 64)
def isFunction (n : Nat) : Bool := decide (n < 8)
def isPair (n : Nat) : Bool := decide (n < 256)
def isVf (v : Option Nat) : Bool := match v with | none => true | some n => isContext n

/-- Gores, panels, HBM4 stacks, tier objects, the three tiers (spec/05, spec/06). -/
def isGore (n : Nat) : Bool := decide (n < 1200)
def isPanel (n : Nat) : Bool := decide (n < 30)
def isStack (n : Nat) : Bool := decide (n < 8)
def isTierObject (n : Nat) : Bool := decide (n < 64)
def isTier (n : Nat) : Bool := decide (1 ≤ n ∧ n ≤ 3)

/-- Text or mask lanes (spec/08, spec/09) and sets of them. -/
def isLane (n : Nat) : Bool := decide (n < 16)
def isLaneSet (n : Nat) : Bool := decide (n < 2 ^ 16)

/-- Mailbox channels (spec/16), virtual channels of the ring (spec/12), Flewick IDs (R341), job key slots, IDE streams
(spec/15), dies, sensors (spec/19), work classes, logical devices. -/
def isChannel (n : Nat) : Bool := decide (n < 72)
def isVc (n : Nat) : Bool := decide (n < 8)
def isFlewick (n : Nat) : Bool := decide (n < 1024)
def isKeySlot (n : Nat) : Bool := decide (n < 16)
def isStream (n : Nat) : Bool := decide (n < 256)
def isDie (n : Nat) : Bool := decide (n < 6)
def isSensor (n : Nat) : Bool := decide (n < 52)
def isClass (n : Nat) : Bool := decide (n < 16)
def isLogicalDevice (n : Nat) : Bool := decide (n < 16)

/-- BARs of a host port and access sizes (R13), words of 8 to 64 bits. -/
def isBar (n : Nat) : Bool := decide (n = 0 ∨ n = 2 ∨ n = 4)
def isSize (n : Nat) : Bool := decide (1 ≤ n ∧ n ≤ 64)
def isWord8 (n : Nat) : Bool := decide (n < 2 ^ 8)
def isWord16 (n : Nat) : Bool := decide (n < 2 ^ 16)
def isWord32 (n : Nat) : Bool := decide (n < 2 ^ 32)
def isWord64 (n : Nat) : Bool := decide (n < 2 ^ 64)

/-- What a gore reports of a torn tile (R133 to R136): a cause of three, a half of two. -/
def isTorn (t : Option TornFound) : Bool :=
  match t with
  | none => true
  | some t => decide (t.kind < 3 ∧ t.half < 2)

/-- The header fields of a frame fit their widths, and its payload its length (R346). -/
def RFrame.wf (f : RFrame) : Bool :=
  isVc f.vc && isContext f.ctx && isFlewick f.dst && isFlewick f.src &&
    decide (f.boot < 64 ∧ f.key < 16 ∧ f.colour < 4 ∧ f.hops < 64 ∧ f.kind < 256 ∧ f.len ≤ 4096 ∧ f.data < 2 ^ (8 * f.len + if f.enc then 128 else 0)) &&
    isWord32 f.seq && isWord64 f.ivc && isWord32 f.msg && isWord32 f.offset

/-- The command's operands lie within their ranges. A command that is not well formed is none that its sender can
send. -/
def Instr.wf : Instr → Bool
  | .registerWrite bar port offset size value => isBar bar && isAccessPort port && isWord64 offset && isSize size && isWord64 value
  | .htiWSqdbWrite port ctx pair value _ => isAccessPort port && isContext ctx && isPair pair && isWord64 value
  | .htiWCqdbWrite port ctx pair value => isAccessPort port && isContext ctx && isPair pair && isWord64 value
  | .pair0Open port ctx value => isAccessPort port && isContext ctx && isWord64 value
  | .pair0Close port ctx value => isAccessPort port && isContext ctx && isWord64 value
  | .contextPairsClosed ctx => isContext ctx
  | .submissionFetchFail ctx pair => isContext ctx && isPair pair
  | .completionPostFail ctx pair => isContext ctx && isPair pair
  | .coalescingTimeExpiry _ ctx pair => isContext ctx && isPair pair
  | .queueOpen _ => true
  | .queueClose _ => true
  | .capsGet _ _ => true
  | .ctxFence _ => true
  | .noop _ => true
  | .statsGet _ _ => true
  | .htiErrlogClr value => isWord64 value
  | .htiCntClr value => isWord64 value
  | .htiCtxWrite ctx value => isContext ctx && isWord64 value
  | .functionLevelReset port vf => isHostPort port && isVf vf
  | .sessCreate _ => true
  | .sessDestroy _ _ => true
  | .sessPark _ => true
  | .sessRevive _ => true
  | .reviveDone handle => isWord64 handle
  | .sessDeflate _ => true
  | .sessRebuild _ => true
  | .sessQuery _ _ => true
  | .sessShip _ => true
  | .sessTetherQuery _ => true
  | .sessTetherResolve _ => true
  | .sessCancel _ => true
  | .sessPolicy _ => true
  | .idleParkExpiry _ handle => isWord64 handle
  | .shipOfferReceived handle epoch sender receiver ret _ _ _ _ _ _ _ _ => isWord64 handle && isWord32 epoch && isFlewick sender && isFlewick receiver && decide (ret < 16)
  | .shipAcceptReceived handle epoch sender receiver torn =>
    isWord64 handle && isWord32 epoch && isFlewick sender && isFlewick receiver && isTorn torn
  | .shipRefuseReceived handle epoch sender receiver _ => isWord64 handle && isWord32 epoch && isFlewick sender && isFlewick receiver
  | .shipFrameReceived handle epoch sender receiver _ => isWord64 handle && isWord32 epoch && isFlewick sender && isFlewick receiver
  | .shipResendReceived handle epoch sender receiver _ torn =>
    isWord64 handle && isWord32 epoch && isFlewick sender && isFlewick receiver && isTorn torn
  | .shipAbortReceived handle epoch sender receiver _ _ _ => isWord64 handle && isWord32 epoch && isFlewick sender && isFlewick receiver
  | .commitReqReceived handle epoch sender receiver _ => isWord64 handle && isWord32 epoch && isFlewick sender && isFlewick receiver
  | .replicateReceived src handle epoch sender owner => isFlewick src && isFlewick sender && isWord64 handle && isWord32 epoch && isWord16 owner
  | .replicateAckReceived handle epoch sender owner => isFlewick sender && isWord64 handle && isWord32 epoch && isWord16 owner
  | .commitAckReceived handle sender receiver epoch owner _ => isFlewick sender && isFlewick receiver && isWord64 handle && isWord32 epoch && isWord16 owner
  | .commitNakReceived handle offered sender receiver epoch owner => isWord32 offered && isFlewick sender && isFlewick receiver && isWord64 handle && isWord32 epoch && isWord16 owner
  | .tetherQueryReceived src handle => isFlewick src && isWord64 handle
  | .tetherRecordReceived handle epoch owner _ _ _ => isWord64 handle && isWord32 epoch && isWord16 owner
  | .tetherMsgTimeout _ handle => isWord64 handle
  | .shipResolveTimeout _ handle => isWord64 handle
  | .spoolEntriesReceived src handle _ _ _ _ => isFlewick src && isWord64 handle
  | .spoolAckReceived handle _ => isWord64 handle
  | .mirrorAckTimeout _ handle => isWord64 handle
  | .mirrorResendPeriod _ handle => isWord64 handle
  | .spoolGatherDone handle _ _ _ => isWord64 handle
  | .workTileEnd _ gore torn => isGore gore && isTorn torn
  | .itemEnd _ gore => isGore gore
  | .itemYield _ gore => isGore gore
  | .itemInputsArrive _ => true
  | .preemptTimeout _ cls => isClass cls
  | .panelIdleGate _ panel => isPanel panel
  | .panelReady panel => isPanel panel
  | .goreFence gore _ => isGore gore
  | .panelPowerFault panel => isPanel panel
  | .goreTileCntClr value => isWord64 value
  | .goreTileInjArm value => isWord64 value
  | .goreShareWrite ctx value => isContext ctx && isWord64 value
  | .goreRoleMixWrite value => isWord64 value
  | .goreCntClr value => isWord64 value
  | .goreCtxCntClr value => isWord64 value
  | .demotionStart tier _ => isTier tier
  | .demoteAfterExpiry _ handle => isWord64 handle
  | .demotionWriteDone _ => true
  | .promotionReadDone _ _ => true
  | .readThroughDone _ _ => true
  | .heatDecayTick _ => true
  | .tierAccessTimeout _ obj => isTierObject obj
  | .tierObjectFault obj _ => isTierObject obj
  | .t1StallTimeout _ handle => isWord64 handle
  | .wearBudgetTick _ => true
  | .wearBudgetSave _ => true
  | .flashControllerEnumerated port _ _ => isFlashPort port
  | .tierPolicy _ => true
  | .tierFlush _ => true
  | .tierObjFailedClear obj value => isTierObject obj && isWord64 value
  | .tierObjEnWrite obj value => isTierObject obj && isWord64 value
  | .tierWmWrite value => isWord64 value
  | .tierCntClr value => isWord64 value
  | .tierStallClr value => isWord64 value
  | .modelShapeDeclare _ _ => true
  | .modelShapeUpdate _ _ => true
  | .modelShapeRemove _ => true
  | .stepSubmit _ _ => true
  | .attend _ => true
  | .htiWBrkickWrite port ctx value => isAccessPort port && isContext ctx && isWord64 value
  | .layerComplete ctx _ => isContext ctx
  | .stepItemEnd ctx _ _ _ => isContext ctx
  | .stepEnd _ ctx _ => isContext ctx
  | .kickLimitTimeout _ ctx _ => isContext ctx
  | .stepOutputWriteFail ctx _ => isContext ctx
  | .kvAppendAppend _ _ => true
  | .kvAppendStream _ => true
  | .goreBridleWrite ctx value => isContext ctx && isWord64 value
  | .bar4UnbackedAccess port vf offset len _ _ => isAccessPort port && isVf vf && isWord64 offset && decide (1 ≤ len ∧ len ≤ 4096)
  | .goreAttnCntClr value => isWord64 value
  | .textAppend _ busy _ => isLaneSet busy
  | .textTokenize _ busy _ _ => isLaneSet busy
  | .tableLoadLoad _ _ => true
  | .tableLoadRemove _ => true
  | .tokeniserLaneFault lane ctx handle => isLane lane && isContext ctx && isWord64 handle
  | .txtCntClr value => isWord64 value
  | .streamConfOpen _ _ => true
  | .streamConfUpdate _ _ => true
  | .streamConfRestart _ _ _ => true
  | .streamConfClose _ _ => true
  | .sample _ _ _ _ => true
  | .outputRingBacklogPoll _ handle _ => isWord64 handle
  | .grammarLoadLoad _ _ => true
  | .grammarLoadRemove _ => true
  | .grammarBindBind _ => true
  | .grammarBindUnbind _ => true
  | .maskLaneFault lane ctx handle => decide (lane < 32) && isContext ctx && isWord64 handle
  | .decCntClr value => isWord64 value
  | .indexCreateCreate _ => true
  | .indexCreateDestroy _ => true
  | .codebookLoad _ _ => true
  | .indexInsert _ _ _ => true
  | .indexDelete _ _ => true
  | .indexCommit _ => true
  | .recallQuery _ _ _ => true
  | .queryRoundEnd _ _ _ => true
  | .compactionStart _ _ => true
  | .compactionOldChainFree _ _ => true
  | .helperLoadLoad _ _ => true
  | .helperLoadRemove _ => true
  | .encoderRun _ _ _ => true
  | .rclCntClr value => isWord64 value
  | .rclCtxCntClr value => isWord64 value
  | .lendSet _ => true
  | .lendReclaimTimeout _ => true
  | .extentAddRequest port ld _ => isPoolPort port && isLogicalDevice ld
  | .extentReleasedByBorrower port ld _ => isPoolPort port && isLogicalDevice ld
  | .extentReleaseRequest obj => isTierObject obj
  | .poolRangeAppears port _ _ _ _ => isPoolPort port
  | .cxlMemRequest port ld _ _ _ _ _ => isPoolPort port && isLogicalDevice ld
  | .regionMapCreate _ => true
  | .regionMapDestroy _ => true
  | .regionPublish _ => true
  | .publishOpenReceived src token _ _ _ => isFlewick src && isWord64 token
  | .publishReadyReceived token _ => isWord64 token
  | .publishCommitReceived src token _ _ _ => isFlewick src && isWord64 token
  | .publishAnswerReceived token _ _ => isWord64 token
  | .publishCommitResend _ token => isWord64 token
  | .stageLimitExpiry _ _ src token => isFlewick src && isWord64 token
  | .regionAttachAttach _ => true
  | .regionAttachDetach _ => true
  | .poolCntClr value => isWord64 value
  | .ringFrameReceived port frame => isRingPort port && RFrame.wf frame
  | .ringFrameForward port frame => isRingPort port && RFrame.wf frame
  | .linkFrameError port _ _ => isRingPort port
  | .ringLinkRetrain port lanes _ => isRingPort port && isWord8 lanes
  | .ringLinkDown port => isRingPort port
  | .ringCablePlug port _ => isRingPort port
  | .reorderGapTimeout _ src ctx vc => isFlewick src && isContext ctx && isVc vc
  | .routeHoldTimeout _ => true
  | .helloReceived _ leader _ => isWord16 leader
  | .mapFormTimeout _ => true
  | .joinReceived src _ _ => isFlewick src
  | .mapChangeAckReceived src => isFlewick src
  | .mapCommitReceived src epoch _ => isFlewick src && isWord32 epoch
  | .mapBeatPeriod _ => true
  | .mapBeatReceived src epoch _ => isFlewick src && isWord32 epoch
  | .heartbeatReceived src _ _ _ => isFlewick src
  | .memberLossTimeout _ member => isFlewick member
  | .leaderCandidacyTimeout _ => true
  | .leaderProposalReceived src _ => isFlewick src
  | .isolateTimeout _ => true
  | .expelledReceived => true
  | .bypassLoopbackTrained pair => isBypassPair pair
  | .pauseReceived port => isRingPort port
  | .pauseAckReceived pair _ => isBypassPair pair
  | .bypassOpeningTimeout _ pair => isBypassPair pair
  | .bypassOpenTrainTimeout _ pair => isBypassPair pair
  | .bypassRetryTimeout _ pair => isBypassPair pair
  | .ringBypForceClose value => isWord64 value
  | .retentionHeartbeatLoss _ => true
  | .evacuate _ => true
  | .evacuationTransfersDone => true
  | .evacuationLimitExpiry _ => true
  | .ringVcWrite vc value => isVc vc && isWord64 value
  | .ringMapCfgWrite value => isWord64 value
  | .ringCntClr value => isWord64 value
  | .refillInstant _ => true
  | .portFrameStart _ port _ => isRingPort port
  | .deferTimeout _ src ctx vc => isFlewick src && isContext ctx && isVc vc
  | .policeNackReceived src ctx vc _ _ => isFlewick src && isContext ctx && isVc vc
  | .queueSampleTick _ => true
  | .shaperSet _ => true
  | .policerSet _ => true
  | .shpHistClr value => isWord64 value
  | .shpCntClr value => isWord64 value
  | .shpCtxCntClr value => isWord64 value
  | .roleSet _ => true
  | .admissionEvaluation _ => true
  | .storageMeterTick _ => true
  | .meterCheckpoint _ => true
  | .meterReadLive _ _ => true
  | .meterReadFetch _ _ => true
  | .meterReadAck _ => true
  | .remoteMeterRequest _ => true
  | .remoteMeterTimeout _ _ => true
  | .mtrCompTagWrite ctx value => isContext ctx && isWord64 value
  | .ctlAdmCntClr value => isWord64 value
  | .mtrCntClr value => isWord64 value
  | .ctlSesCntClr value => isWord64 value
  | .jobKeySet _ => true
  | .jobKeyRetire _ => true
  | .keySlotEmptied ctx slot => isContext ctx && isKeySlot slot
  | .secFabricTxSlotWrite value => isWord64 value
  | .secCntClr value => isWord64 value
  | .spdmRequest _ _ => true
  | .ideKmRequest port _ _ => isHostPort port
  | .ideStreamFailure port stream => isHostPort port && isStream stream
  | .lockInterfaceRequest port _ ctx stream => isHostPort port && isContext ctx && isStream stream
  | .startInterfaceRequest port _ ctx => isHostPort port && isContext ctx
  | .stopInterfaceRequest port _ ctx _ => isHostPort port && isContext ctx
  | .tdispGetRequest port _ ctx _ => isHostPort port && isContext ctx
  | .svnCommit chan => isChannel chan
  | .fwStage chan _ => isChannel chan
  | .importKeySet chan => isChannel chan
  | .fabricKeySet chan => isChannel chan
  | .ownerTransfer chan _ => isChannel chan
  | .debugUnlock chan _ => isChannel chan
  | .zeroize chan => isChannel chan
  | .mbInfo chan => isChannel chan
  | .mbEcho chan => isChannel chan
  | .faultArchiveRead chan => isChannel chan
  | .resetCause chan => isChannel chan
  | .htiWMbreqSeal port chan value => isAccessPort port && isChannel chan && isWord64 value
  | .mailboxResponseReady chan => isChannel chan
  | .htiWMbrspRead port chan => isAccessPort port && isChannel chan
  | .mctpSecureMessage _ value _ => isWord64 value
  | .mbxSumAck port value => isHostPort port && isWord64 value
  | .doorbellWordWriteDone port => isHostPort port
  | .doorbellWordWriteFail port => isHostPort port
  | .htiWEvtEnable port ctx value => isAccessPort port && isContext ctx && isWord64 value
  | .htiWEvtDisable port ctx value => isAccessPort port && isContext ctx && isWord64 value
  | .htiWEvtHeadWrite port ctx value => isAccessPort port && isContext ctx && isWord64 value
  | .eventRecordWriteFail ctx => isContext ctx
  | .htiWFltHeadWrite port ctx value => isAccessPort port && isContext ctx && isWord64 value
  | .mbxCntClr value => isWord64 value
  | .powerUp _ => true
  | .porRelease _ cables flash _ _ => isWord8 cables && isWord8 flash
  | .bootRomVerify _ _ _ _ => true
  | .perstNDeassert _ _ _ _ => true
  | .hbmStackTrained stack => isStack stack
  | .panelTestDone panel _ => isPanel panel
  | .t1TrainingLimitExpiry _ => true
  | .nvmStoreStore _ _ => true
  | .nvmStoreClear _ _ => true
  | .nvmCntClr value => isWord64 value
  | .ctlFnDisableStop f value => isFunction f && isWord64 value
  | .ctlFnDisableDrain f value => isFunction f && isWord64 value
  | .ctlFnEnable f value => isFunction f && isWord64 value
  | .fnAcceptedWorkDone f => isFunction f
  | .fnDisableTimeout _ f => isFunction f
  | .ctlResetSoft value => isWord64 value
  | .softResetEnd => true
  | .ctlResetWarm value => isWord64 value
  | .ctlFnRst value => isWord64 value
  | .fnResetEnd f => isFunction f
  | .ctlCtxRst value => isWord64 value
  | .ctxResetEnd ctx => isContext ctx
  | .ctlRstCntClr value => isWord64 value
  | .p2IdleEntry _ => true
  | .p2Exit => true
  | .p3Req value => isWord64 value
  | .p3EntryComplete => true
  | .p3LimitExpiry _ => true
  | .pmWakeNAssert _ _ => true
  | .perstNAssert _ => true
  | .wholeFlewickFailure die _ _ => isDie die
  | .refclkLoss => true
  | .inputLowVin _ => true
  | .lowVinClear _ => true
  | .inputUndervoltage _ => true
  | .inputOvervoltage _ => true
  | .drogueAdmit _ => true
  | .limiterTick _ _ _ _ _ => true
  | .thermalTick _ _ => true
  | .thermalTrip _ sensor => isSensor sensor
  | .tripLockoutEnd _ => true
  | .pwrStepWrite value => isWord64 value
  | .pwrClkMaxWrite value => isWord64 value
  | .pwrCntClr value => isWord64 value
  | .flashPrsntChange _ port _ => isFlashPort port
  | .flashPerstRelease _ port => isFlashPort port
  | .flashBringupRetry _ port => isFlashPort port
  | .poolPerstNInput port _ => isPoolPort port
  | .spiReqAssert => true
  | .spiReqDeassert => true
  | .svcAttnPress _ _ => true
  | .i3cEntdaa _ => true
  | .ctlPinCntClr value => isWord64 value
  | .hostPortLinkChange port _ _ _ => isHostPort port
  | .poolPortLinkChange port _ _ _ => isPoolPort port
  | .ringPortTrained port peer peerPort lanes _ => isRingPort port && isFlewick peer && isRingPort peerPort && isWord8 lanes
  | .logicalDeviceBind port ld _ => isPoolPort port && isLogicalDevice ld
  | .engineLaneTestDone txt dec => isLaneSet txt && isWord8 dec
  | .vinHighRideThrough _ _ => true
  | .jtagTapOperation _ => true
  | .registerReadLogged bar port offset size => isBar bar && isAccessPort port && isWord64 offset && isSize size
  | .regionHoldMessageReceived src token _ _ => isFlewick src && isWord64 token
  | .mapRequestReceived src => isFlewick src
  | .spoolGatherRequestReceived src handle => isFlewick src && isWord64 handle
  | .sessionRoleNoticeReceived src handle _ => isFlewick src && isWord64 handle
  | .serviceLedBlinkEnd _ => true

end Sys2Proof
end

