-- ==== Sys2Proof/Certificates/Slice0/Obligations.lean ====
section
/-! DEFINITION. The statements for the provers. -/

open Sys2Proof Sys2Proof.Machine

/-- The model's choice (log 1): commands wait in a queue, and a step runs the first one on the state with the queue's rest. -/
def Obligations.StepRunsTheFront : Prop :=
  ∀ (c : Instr) (s : State), step { s with pending := c :: s.pending } = exec c s

/-- The model's choice (log 1): with no waiting command a step changes nothing. -/
def Obligations.IdleStep : Prop := ∀ s : State, s.pending = [] → step s = .next s

/-- The Reset columns of the register tables; that a part begins without power and with empty tables is the model's choice (log 2). -/
def Obligations.ResetLeaves : Prop :=
  (∀ (f : Fld) (i j : Nat), i < 65536 → State.reset.rd f i j = f.dflt i) ∧ State.reset.regsOk ∧
  State.reset.rd .HTI_ID_DEVICE = 0x1200 ∧ State.reset.rd .HTI_ID_REV = 1 ∧ State.reset.rd .TIER_WM_T1_HIGH = 95 ∧
  State.reset.pending = [] ∧ State.reset.boot.stage = .off ∧ State.reset.hti.cmds = [] ∧ State.reset.out = []

/-- The register file's form is the model's own (log 7): no step writes a value wider than its field. -/
def Obligations.RegistersStayCanonical : Prop := ∀ s t : State, s.regsOk → step s = .next t → t.regsOk

/-- The table of HTI registers: DEVICE and REV are RO with reset class none. -/
def Obligations.IdentityStays : Prop :=
  ∀ s t : State, s.rd .HTI_ID_DEVICE = 0x1200 ∧ s.rd .HTI_ID_REV = 1 → step s = .next t →
    t.rd .HTI_ID_DEVICE = 0x1200 ∧ t.rd .HTI_ID_REV = 1

/-- The model's own fields (logs 1, 6, 8): the queue, the counter of free values, the output. -/
def Obligations.OneCommandPerStep : Prop :=
  ∀ s t : State, step s = .next t → t.pending = s.pending.tail ∧ s.fresh ≤ t.fresh ∧ s.out <+: t.out

/-- The frame of every command: `mayChange` names the groups of registers and the tables that the rules let the command change. -/
def Obligations.CommandsChangeOnlyTheirPieces : Prop := ∀ (i : Instr) (s t : State), exec i s = .next t → SameBut (mayChange i) s t

/-- A command that writes the CLR bit of a group of counters of a block: what it does. -/
def ClearsGroup (row : Nat → Instr) (b : Blk) (l : List Fld) : Prop :=
  ∀ v s,
    (s.blkOn b = true → bitAt v 0 = true → ∃ t, exec (row v) s = .next t ∧
      (∀ f ∈ l, ∀ i j, i < f.info.iN → j < f.info.jN → t.rd f i j = 0) ∧ OnlyRegs l s t) ∧
    ((s.blkOn b = false ∨ bitAt v 0 = false) → exec (row v) s = .next s)

/-- R29: a counter returns to zero through the clear field that its block provides. R16: a write to a block that cannot be reached is
dropped. -/
def Obligations.CounterGroupsClear : Prop :=
  ClearsGroup .goreTileCntClr .GORE [.GORE_TILE_CNT_COUNT] ∧
  ClearsGroup .goreCntClr .GORE [.GORE_CNT_COUNT, .GORE_CLASS_NS_COUNT] ∧
  ClearsGroup .goreAttnCntClr .GORE [.GORE_ATTN_CNT_COUNT] ∧
  ClearsGroup .tierCntClr .TIER [.TIER_CNT_COUNT] ∧
  ClearsGroup .txtCntClr .TXT [.TXT_CNT_COUNT] ∧
  ClearsGroup .decCntClr .DEC [.DEC_CNT_COUNT] ∧
  ClearsGroup .rclCntClr .RCL [.RCL_CNT_COUNT] ∧
  ClearsGroup .poolCntClr .POOL [.POOL_CNT_COUNT] ∧
  ClearsGroup .ringCntClr .RING [.RING_CNT_COUNT, .RING_PORT_CNT_COUNT] ∧
  ClearsGroup .shpCntClr .SHP [.SHP_CNT_COUNT] ∧
  ClearsGroup .ctlAdmCntClr .CTL [.CTL_ADM_CNT_COUNT] ∧
  ClearsGroup .mtrCntClr .MTR [.MTR_CNT_COUNT] ∧
  ClearsGroup .ctlSesCntClr .CTL [.CTL_SES_CNT_COUNT] ∧
  ClearsGroup .secCntClr .SEC [.SEC_CNT_COUNT] ∧
  ClearsGroup .mbxCntClr .MBX [.MBX_CNT_COUNT] ∧
  ClearsGroup .nvmCntClr .NVM [.NVM_CNT_COUNT] ∧
  ClearsGroup .ctlRstCntClr .CTL [.CTL_RST_CNT_COUNT] ∧
  ClearsGroup .pwrCntClr .PWR [.PWR_CNT_COUNT, .PWR_DROGUE_MAX_WAIT, .PWR_TEMP_MAX_C] ∧
  ClearsGroup .ctlPinCntClr .CTL [.CTL_PIN_CNT_COUNT]

/-- A command that writes a clear register with a bit for each context: what it does. -/
def ClearsContexts (row : Nat → Instr) (r f : Fld) : Prop :=
  ∀ v s, s.blkOn r.info.blk = true → ∃ t, exec (row v) s = .next t ∧
    (∀ c j, c < 64 → j < f.info.jN → t.rd f c j = if bitAt v c then 0 else s.rd f c j) ∧ OnlyRegs [f] (s.latched (r.bar0 0 0) v) t

/-- R29, with the meanings of the clear registers: bit c clears the counters of context c. -/
def Obligations.ContextCountersClear : Prop :=
  ClearsContexts .htiCntClr .HTI_CNT_CLR_CTX .HTI_CNT_COUNT ∧ ClearsContexts .goreCtxCntClr .GORE_CTX_CNT_CLR_CTX .GORE_CTX_CNT_COUNT ∧
  ClearsContexts .tierStallClr .TIER_STALL_CLR_CTX .TIER_STALL_COUNT ∧ ClearsContexts .rclCtxCntClr .RCL_CTX_CNT_CLR_CTX .RCL_CTX_CNT_COUNT ∧
  ClearsContexts .shpCtxCntClr .SHP_CTX_CNT_CLR_CTX .SHP_CTX_CNT_COUNT

/-- The fields of the error log's entries. -/
def errlogFields : List Fld :=
  [.HTI_ERRLOG_A_KIND, .HTI_ERRLOG_A_CTX, .HTI_ERRLOG_A_PORT, .HTI_ERRLOG_A_TIME, .HTI_ERRLOG_B_OFFSET, .HTI_ERRLOG_B_BAR]
/-- The bins and maxima of the queue histograms. -/
def histFields : List Fld := [.SHP_HIST_DEPTH_COUNT, .SHP_HIST_DELAY_COUNT, .SHP_HIST_MAX_MAX_DEPTH, .SHP_HIST_MAX_MAX_DELAY]

/-- The meanings of HTI_ERRLOG_CTL.CLR (spec/02) and SHP_HIST_CLR.CLR (spec/13). -/
def Obligations.LogAndHistogramClear : Prop :=
  (∀ v s, s.blkOn .HTI = true → bitAt v 10 = true → ∃ t, exec (.htiErrlogClr v) s = .next t ∧
    t.rd .HTI_ERRLOG_CTL_NEXT = 0 ∧ t.rd .HTI_ERRLOG_CTL_COUNT = 0 ∧
    t.rd .HTI_ERRLOG_CTL_OVF = (if bitAt v 9 then 0 else s.rd .HTI_ERRLOG_CTL_OVF) ∧
    (∀ f ∈ errlogFields, ∀ i, i < 16 → t.rd f i = 0) ∧
    OnlyRegs ([.HTI_ERRLOG_CTL_NEXT, .HTI_ERRLOG_CTL_COUNT, .HTI_ERRLOG_CTL_OVF] ++ errlogFields) s t) ∧
  (∀ v s, s.blkOn .SHP = true → bitAt v 0 = true → ∃ t, exec (.shpHistClr v) s = .next t ∧
    (∀ f ∈ histFields, ∀ i j, t.rd f i j = 0) ∧ OnlyRegs histFields s t)

/-- R200. Counter 13 of GORE_CNT is CFG_REJECTED (spec/06). -/
def Obligations.RoleMixWrites : Prop :=
  ∀ v s, s.blkOn .GORE = true →
    (bitsOf v 6 0 + bitsOf v 14 8 + bitsOf v 22 16 ≠ 100 → exec (.goreRoleMixWrite v) s = .next (s.bump .GORE_CNT_COUNT 13 0 1)) ∧
    (bitsOf v 6 0 + bitsOf v 14 8 + bitsOf v 22 16 = 100 → ∃ t, exec (.goreRoleMixWrite v) s = .next t ∧
      t.rd .GORE_ROLE_MIX_ATTN = bitsOf v 6 0 ∧ t.rd .GORE_ROLE_MIX_ASSIST = bitsOf v 14 8 ∧ t.rd .GORE_ROLE_MIX_RECALL = bitsOf v 22 16)

/-- R536: the values that the register would hold are those of the word, which writes all four fields. -/
def Obligations.WatermarkWrites : Prop :=
  ∀ v s, s.blkOn .TIER = true →
    let h1 := fieldOf .TIER_WM_T1_HIGH v
    let l1 := fieldOf .TIER_WM_T1_LOW v
    let h2 := fieldOf .TIER_WM_T2_HIGH v
    let l2 := fieldOf .TIER_WM_T2_LOW v
    (1 ≤ l1 ∧ l1 < h1 ∧ h1 ≤ 100 ∧ 1 ≤ l2 ∧ l2 < h2 ∧ h2 ≤ 100 → ∃ t, exec (.tierWmWrite v) s = .next t ∧
      t.rd .TIER_WM_T1_HIGH = h1 ∧ t.rd .TIER_WM_T1_LOW = l1 ∧ t.rd .TIER_WM_T2_HIGH = h2 ∧ t.rd .TIER_WM_T2_LOW = l2 ∧
      OnlyRegs [.TIER_WM_T1_HIGH, .TIER_WM_T1_LOW, .TIER_WM_T2_HIGH, .TIER_WM_T2_LOW] s t) ∧
    (¬(1 ≤ l1 ∧ l1 < h1 ∧ h1 ≤ 100 ∧ 1 ≤ l2 ∧ l2 < h2 ∧ h2 ≤ 100) → exec (.tierWmWrite v) s = .next s)

/-- R368. Counter 15 of RING_CNT is CFG_REJECTED (spec/12). -/
def Obligations.RingConfigWrites : Prop :=
  (∀ vc v s, vc < 8 → s.blkOn .RING = true → fieldOf .RING_VC_BUF_KIB v ≤ 1024 →
    let k := fieldOf .RING_VC_BUF_KIB v
    let sum := (List.range 8).foldl (fun a n => a + if n = vc then k else s.rd .RING_VC_BUF_KIB n) 0
    (1024 < sum ∨ (vc = 0 ∧ k < 16) ∨ (vc ≠ 0 ∧ s.rd .RING_VC_BUF_KIB 0 < 16) → exec (.ringVcWrite vc v) s = .next (s.bump .RING_CNT_COUNT 15 0 1)) ∧
    (¬(1024 < sum ∨ (vc = 0 ∧ k < 16) ∨ (vc ≠ 0 ∧ s.rd .RING_VC_BUF_KIB 0 < 16)) → exec (.ringVcWrite vc v) s = .next (s.wr .RING_VC_BUF_KIB vc 0 k))) ∧
  (∀ v s, s.blkOn .RING = true →
    let hb := fieldOf .RING_MAP_CFG_HB_MS v
    let iso := fieldOf .RING_MAP_CFG_ISOLATE_MS v
    let loss := fieldOf .RING_MAP_CFG_LOSS_MS v
    let form := fieldOf .RING_MAP_CFG_FORM_S v
    let count := fieldOf .RING_MAP_CFG_EXPECT v
    let u := s.latched (Fld.bar0 .RING_MAP_CFG_HB_MS 0 0) v
    1 ≤ hb → 25 ≤ loss → 1 ≤ form → 1 ≤ count ∧ count ≤ 1024 →
    (¬(2 * hb ≤ iso ∧ iso + 2 * hb ≤ loss) → exec (.ringMapCfgWrite v) s = .next (u.bump .RING_CNT_COUNT 15 0 1)) ∧
    (2 * hb ≤ iso ∧ iso + 2 * hb ≤ loss → ∃ t, exec (.ringMapCfgWrite v) s = .next t ∧ t.rd .RING_MAP_CFG_HB_MS = hb ∧
      t.rd .RING_MAP_CFG_ISOLATE_MS = iso ∧ t.rd .RING_MAP_CFG_LOSS_MS = loss ∧ t.rd .RING_MAP_CFG_FORM_S = form ∧
      t.rd .RING_MAP_CFG_EXPECT = count ∧
      OnlyRegs [.RING_MAP_CFG_HB_MS, .RING_MAP_CFG_ISOLATE_MS, .RING_MAP_CFG_LOSS_MS, .RING_MAP_CFG_FORM_S, .RING_MAP_CFG_EXPECT] u t))

/-- The meanings of PWR_CLK, PWR_STEP (R504), GORE_TILE_INJ, MTR_COMP (R400), SEC_FABRIC (R419) and GORE_SHARE. -/
def Obligations.SettingsTakeEffect : Prop :=
  (∀ v s, s.blkOn .PWR = true →
    let m := fieldOf .PWR_CLK_MAX_MHZ v
    (2400 ≤ m ∧ m ≤ 4800 ∧ m % 100 = 0 → exec (.pwrClkMaxWrite v) s = .next (s.wr .PWR_CLK_MAX_MHZ 0 0 m)) ∧
    (¬(2400 ≤ m ∧ m ≤ 4800 ∧ m % 100 = 0) → exec (.pwrClkMaxWrite v) s = .next s)) ∧
  (∀ v s, s.blkOn .PWR = true → 40 ≤ fieldOf .PWR_STEP_WATTS v → 1 ≤ fieldOf .PWR_STEP_WINDOW_US v →
    ∃ t, exec (.pwrStepWrite v) s = .next t ∧ t.rd .PWR_STEP_WATTS = fieldOf .PWR_STEP_WATTS v ∧
      t.rd .PWR_STEP_WINDOW_US = fieldOf .PWR_STEP_WINDOW_US v ∧ t.pwr.wakes = s.pwr.wakes ∧ SameBut [.pwr, .PWR_STEP] s t) ∧
  (∀ v s, s.blkOn .GORE = true → fieldOf .GORE_TILE_INJ_MODE v ≤ 2 →
    ∃ t, exec (.goreTileInjArm v) s = .next t ∧ t.rd .GORE_TILE_INJ_MODE = fieldOf .GORE_TILE_INJ_MODE v ∧
      t.rd .GORE_TILE_INJ_CTX = fieldOf .GORE_TILE_INJ_CTX v ∧
      t.rd .GORE_TILE_INJ_ARM = (if bitAt v 0 then 1 else s.rd .GORE_TILE_INJ_ARM) ∧
      OnlyRegs [.GORE_TILE_INJ_MODE, .GORE_TILE_INJ_CTX, .GORE_TILE_INJ_ARM] s t) ∧
  (∀ c v s, c < 64 → s.blkOn .MTR = true → s.locked c = false →
    let u := s.latched (Fld.bar0 .MTR_COMP_TAG c 0) v
    (s.on .HTI_CTX_EN c = true → exec (.mtrCompTagWrite c v) s = .next (u.bump .MTR_CNT_COUNT 7 0 1)) ∧
    (s.on .HTI_CTX_EN c = false → exec (.mtrCompTagWrite c v) s = .next (u.wr .MTR_COMP_TAG c 0 v))) ∧
  (∀ v s, s.blkOn .SEC = true →
    (Map.has s.sec.fabric (fieldOf .SEC_FABRIC_TX_SLOT v) = false → exec (.secFabricTxSlotWrite v) s = .next (s.bump .RING_CNT_COUNT 15 0 1)) ∧
    (Map.has s.sec.fabric (fieldOf .SEC_FABRIC_TX_SLOT v) = true →
      ∃ t, exec (.secFabricTxSlotWrite v) s = .next t ∧ t.rd .SEC_FABRIC_TX_SLOT = fieldOf .SEC_FABRIC_TX_SLOT v ∧ SameBut [.SEC_FABRIC] s t)) ∧
  (∀ c v s, c < 64 → s.blkOn .GORE = true → s.locked c = false → fieldOf .GORE_SHARE_CAP v ≤ 1200 →
    ∃ t, exec (.goreShareWrite c v) s = .next t ∧ t.rd .GORE_SHARE_WEIGHT c = fieldOf .GORE_SHARE_WEIGHT v ∧
      t.rd .GORE_SHARE_CAP c = fieldOf .GORE_SHARE_CAP v)

/-- R12 to R17, R43, R45, R78, R437. -/
def Obligations.RegisterAccesses : Prop :=
  (∀ port off size v s b o p l, port < 4 → size ≠ 0 → size ≤ 64 → off < 0x4000000 → blkAt off = some (b, o) → b ≠ .MBX → s.blkOn b = true → s.blkOn .HTI = true →
    (meet b o size = .whole (p :: l) → ownRow port p v = none → exec (.registerWrite 0 port off size v) s =
      .next (writeReg (p :: l) v (if regBytes (p :: l) = 8 then s.latched off v else s))) ∧
    (∀ r, meet b o size = .lower r → exec (.registerWrite 0 port off size v) s = .next (s.latched off v)) ∧
    (meet b o size = .upper (p :: l) →
      let w := (Map.find s.latch (off - 4)).getD (s.keepLower (p :: l)) + v % 2 ^ 32 * 2 ^ 32
      ownRow port p w = none → exec (.registerWrite 0 port off size v) s = .next (if Map.has s.latch (off - 4) then writeReg (p :: l) w s
        else (writeReg (p :: l) w s).unlatch (off - 4))) ∧
    (meet b o size = .part → exec (.registerWrite 0 port off size v) s = .next (s.errlog kMisaligned 0 (port % 2) 0 off)) ∧
    (meet b o size = .nothing → exec (.registerWrite 0 port off size v) s = .next (s.errlog kUnmapped 0 (port % 2) 0 off)) ∧
    (∀ r, meet b o size = .whole r → exec (.registerReadLogged 0 port off size) s = .next (s.emit (.busRead (s.regValue r)))) ∧
    (∀ r, meet b o size = .lower r → exec (.registerReadLogged 0 port off size) s = .next (s.emit (.busRead (s.regValue r % 2 ^ 32)))) ∧
    (meet b o size = .part → exec (.registerReadLogged 0 port off size) s = .next
      ((s.errlog kMisaligned 0 (port % 2) 0 off).emit (.busRead (2 ^ (8 * size) - 1)))) ∧
    (meet b o size = .nothing → exec (.registerReadLogged 0 port off size) s = .next (s.emit (.busRead 0)))) ∧
  (∀ (f : Fld) i j w (s : State),
    (f.info.ty = .rw → f.info.blk ≠ .SHP → f.info.blk ≠ .RING → f ≠ .PWR_LIMIT_PEAK_W →
      s.writeField (f, i, j) w = if f.legal (fieldOf f w) then s.wr f i j (fieldOf f w) else s) ∧
    (f.info.ty = .w1c → s.writeField (f, i, j) w = s.wr f i j (s.rd f i j - Nat.land (s.rd f i j) (fieldOf f w)))) ∧
  (∀ c v s, c < 64 → s.locked c = true →
    let u := s.bump .SEC_CNT_COUNT 9 0 1
    (s.blkOn .HTI = true → exec (.htiCtxWrite c v) s = .next u) ∧
    (s.blkOn .GORE = true → exec (.goreBridleWrite c v) s = .next u ∧ exec (.goreShareWrite c v) s = .next u) ∧
    (s.blkOn .MTR = true → exec (.mtrCompTagWrite c v) s = .next ((s.latched (Fld.bar0 .MTR_COMP_TAG c 0) v).bump .SEC_CNT_COUNT 9 0 1))) ∧
  (∀ c v s, c < 64 → s.locked c = false → s.blkOn .HTI = true →
    let t := s.putWord [.HTI_CTX_EN, .HTI_CTX_PORT, .HTI_CTX_MGMT, .HTI_CTX_QMAX] c 0 v
    (s.on .HTI_W_AQCFG_EN c = true → (t.rd .HTI_CTX_EN c ≠ s.rd .HTI_CTX_EN c ∨ t.rd .HTI_CTX_PORT c ≠ s.rd .HTI_CTX_PORT c ∨ t.rd .HTI_CTX_QMAX c ≠ s.rd .HTI_CTX_QMAX c) →
      exec (.htiCtxWrite c v) s = .next (s.errlog kCtxBusy c (s.port c) 0 (0x401000 + 8 * c))) ∧
    (s.on .HTI_W_AQCFG_EN c = false → exec (.htiCtxWrite c v) s = .next (t.bound c (s.on .HTI_CTX_EN c) (s.port c)))) ∧
  (∀ port s, port < 2 → s.blkOn .HTI = true → s.deeper = false →
    exec (.functionLevelReset port none) s = .next (((List.range 64).filter fun c => s.port c = port).foldl (fun s c => s.ctxReset c) s) ∧
    (∀ v, s.on .HTI_PORT_CTL_SRIOV port = true → v < 64 → s.port v = port → exec (.functionLevelReset port (some v)) s = .next (s.ctxReset v)))

/-- R48 and R50. Counter 5 of HTI_CNT is DB_ERRORS. -/
def Obligations.Doorbells : Prop :=
  ∀ port c q v s, c < 64 → q < 256 → s.windowOpen port c = true →
    let tail := v % 4096
    (s.pair c q = none →
      (∀ es, exec (.htiWSqdbWrite port c q v es) s = .next ((s.errlog kDbClosed c (port % 2) 2 (8 * q)).bump .HTI_CNT_COUNT c 5 1)) ∧
      exec (.htiWCqdbWrite port c q v) s = .next ((s.errlog kDbClosed c (port % 2) 2 (0x800 + 8 * q)).bump .HTI_CNT_COUNT c 5 1)) ∧
    (∀ p, s.pair c q = some p →
      (2 ^ p.sqLog ≤ tail → ∀ es,
        exec (.htiWSqdbWrite port c q v es) s = .next ((s.errlog kDbRange c (port % 2) 2 (8 * q)).bump .HTI_CNT_COUNT c 5 1)) ∧
      (tail < 2 ^ p.sqLog → p.waitq = [] → exec (.htiWSqdbWrite port c q v []) s = .next (s.setPair c q { p with tail := tail })) ∧
      (tail < 2 ^ p.sqLog → p.waitq = [] → s.mayFetch c p = true → (tail + 2 ^ p.sqLog - p.fetch) % 2 ^ p.sqLog = 1 →
        ∀ d, exec (.htiWSqdbWrite port c q v [d]) s =
          .next ((s.setPair c q { p with tail := tail, waitq := [d] }).fetchOne c q { p with tail := tail, waitq := [d] } d)) ∧
      (2 ^ p.cqLog ≤ tail ∨ (p.widx + 2 ^ p.cqLog - p.head) % 2 ^ p.cqLog < (tail + 2 ^ p.cqLog - p.head) % 2 ^ p.cqLog →
        exec (.htiWCqdbWrite port c q v) s = .next ((s.errlog kDbRange c (port % 2) 2 (0x800 + 8 * q)).bump .HTI_CNT_COUNT c 5 1)) ∧
      (tail < 2 ^ p.cqLog → (tail + 2 ^ p.cqLog - p.head) % 2 ^ p.cqLog ≤ (p.widx + 2 ^ p.cqLog - p.head) % 2 ^ p.cqLog →
        p.held = [] → p.waitq = [] →
        exec (.htiWCqdbWrite port c q v) s = .next ((s.setPair c q { p with head := tail }).settle s.hti.cmds.length)))

/-- R46 and R47. -/
def Obligations.PairZero : Prop :=
  (∀ port c v s, c < 64 → s.windowOpen port c = true → bitAt v 8 = true →
    let sl := fieldOf .HTI_W_AQCFG_SQLOG v
    let cl := fieldOf .HTI_W_AQCFG_CQLOG v
    let vec := fieldOf .HTI_W_AQCFG_VEC v
    let good := s.on .CTL_READY_HTI = true ∧ s.on .HTI_CTX_EN c = true ∧ 4 ≤ sl ∧ sl ≤ 12 ∧ sl ≤ cl ∧ cl ≤ 12 ∧ vec ≤ 31
    (s.on .HTI_W_AQCFG_EN c = false → good → ∃ t, exec (.pair0Open port c v) s = .next t ∧ t.rd .HTI_W_AQCFG_EN c = 1 ∧
      t.rd .HTI_W_AQCFG_RDY c = 1 ∧ t.rd .HTI_W_AQCFG_FAULT c = 0 ∧
      t.pair c 0 = some (Pair.new (s.rd .HTI_W_ASQ_BASE c * 4096) (s.rd .HTI_W_ACQ_BASE c * 4096) sl cl 1 vec 0 0)) ∧
    (s.on .HTI_W_AQCFG_EN c = false → ¬good → ∃ t, exec (.pair0Open port c v) s = .next t ∧ t.rd .HTI_W_AQCFG_EN c = 1 ∧
      t.rd .HTI_W_AQCFG_RDY c = s.rd .HTI_W_AQCFG_RDY c ∧ t.rd .HTI_W_AQCFG_FAULT c = 1 ∧ t.hti = s.hti) ∧
    (s.on .HTI_W_AQCFG_EN c = true → (sl ≠ s.rd .HTI_W_AQCFG_SQLOG c ∨ cl ≠ s.rd .HTI_W_AQCFG_CQLOG c) →
      exec (.pair0Open port c v) s = .next (s.errlog kQueueBusy c (s.port c) 2 0x1010))) ∧
  (∀ port c v s, c < 64 → s.windowOpen port c = true → bitAt v 8 = false →
    (s.anyPair c = false → ∃ t, exec (.pair0Close port c v) s = .next t ∧ t.rd .HTI_W_AQCFG_EN c = 0 ∧ t.rd .HTI_W_AQCFG_FAULT c = 0 ∧ t.hti = s.hti) ∧
    (s.anyPair c = true → s.hti.cmds = [] → ∃ t, exec (.pair0Close port c v) s = .next t ∧ t.rd .HTI_W_AQCFG_EN c = 0 ∧
      t.rd .HTI_W_AQCFG_RDY c = 1 ∧ t.anyPair c = false ∧ t.out = s.out)) ∧
  (∀ c s, c < 64 → s.on .HTI_W_AQCFG_RDY c = true → s.anyPair c = false → (s.hti.cmds.all fun d => d.ctx != c) = true →
    ∃ t, exec (.contextPairsClosed c) s = .next t ∧ t.rd .HTI_W_AQCFG_RDY c = 0 ∧
      t.rd .HTI_W_AQCFG_FAULT c = (if s.on .HTI_W_AQCFG_EN c then 1 else 0) ∧ (∀ n, n < 4 → t.rd .HTI_W_QFAULT_PAIR c n = 0) ∧
      OnlyRegs [.HTI_W_AQCFG_RDY, .HTI_W_AQCFG_FAULT, .HTI_W_QFAULT_PAIR] s t)

/-- R53 and R66. -/
def Obligations.PairFaults : Prop :=
  (∀ c q s p, c < 64 → s.pair c q = some p → s.mayFetch c p = true → p.waitq = [] → p.fetch ≠ p.tail →
    ∃ t, exec (.submissionFetchFail c q) s = .next t ∧ t.pair c q = some { p with faulted := true } ∧
      bitAt (t.rd .HTI_W_QFAULT_PAIR c (q / 64)) (q % 64) = true ∧ (q = 0 → t.rd .HTI_W_AQCFG_FAULT c = 1) ∧
      t.rd .HTI_ERRLOG_A_KIND (s.rd .HTI_ERRLOG_CTL_NEXT) = kFetchFail ∧ t.hti.cmds = s.hti.cmds) ∧
  (∀ c q s p, c < 64 → s.pair c q = some p → p.postFail = false →
    ∃ t, exec (.completionPostFail c q) s = .next t ∧ t.pair c q = some { p with faulted := true, postFail := true } ∧
      bitAt (t.rd .HTI_W_QFAULT_PAIR c (q / 64)) (q % 64) = true ∧ (q = 0 → t.rd .HTI_W_AQCFG_FAULT c = 1) ∧
      t.rd .HTI_ERRLOG_A_KIND (s.rd .HTI_ERRLOG_CTL_NEXT) = kPostFail ∧ t.hti.cmds = s.hti.cmds) ∧
  (∀ dt c q s p, s.pair c q = some p → q ≠ 0 → p.unsig ≠ 0 → p.coTime ≠ 0 → p.oldest + 100 * p.coTime ≤ s.now + dt →
    exec (.coalescingTimeExpiry dt c q) s = .next (((s.pass dt).setPair c q { p with unsig := 0 }).raiseVec c p.vec))

/-- QUEUE_OPEN (R69), QUEUE_CLOSE (R70), CAPS_GET (R72), CTX_FENCE (R73), NOOP and STATS_GET (R74). -/
def Obligations.QueueOpcodes : Prop :=
  (∀ k c s, s.mayRun k 0x01 c → s.mayOpen c = true →
    let q := Desc.byte c.desc 8
    (Desc.byte c.desc 34 / 16 ≠ 0 → exec (.queueOpen k) s =
      .next (((s.setPhase k .running).setPair c.ctx q (Pair.new (Desc.num c.desc 16 8) (Desc.num c.desc 24 8) (Desc.byte c.desc 32)
        (Desc.byte c.desc 33) (Desc.byte c.desc 35) (Desc.num c.desc 36 2) (Desc.byte c.desc 38) (Desc.num c.desc 40 2))).finish k .ok 0
          0x10 (8 * q) (0x800 + 8 * q))) ∧
    (Desc.byte c.desc 34 / 16 = 0 → exec (.queueOpen k) s = .next ((s.setPhase k .running).finish k .badVersion 0x0010))) ∧
  (∀ k c s p, s.mayRun k 0x02 c → s.closeReady c = true → Desc.byte c.desc 8 ≠ 0 → s.pair c.ctx (Desc.byte c.desc 8) = some p →
    Desc.flag c.desc 8 = false → exec (.queueClose k) s =
      .next (((s.setPhase k .running).setPair c.ctx (Desc.byte c.desc 8) { p with closer := some k, waitq := [] }).settle s.hti.cmds.length)) ∧
  (∀ k c s, s.mayRun k 0x04 c → exec (.ctxFence k) s = .next ((s.setPhase k .running).settle s.hti.cmds.length)) ∧
  (∀ k c s, s.mayRun k 0x05 c → exec (.noop k) s =
    .next ((s.setPhase k .running).finish k .ok 0 (Desc.num c.desc 16 8) (Desc.num c.desc 24 4) (Desc.num c.desc 28 4))) ∧
  (∀ k c s, s.mayRun k 0x03 c →
    exec (.capsGet k true) s = .next (((s.setPhase k .running).emit
      (.write c.ctx (Desc.num c.desc 16 8) 64 (packWords 8 (s.capWords c.ctx)))).finish k .ok 0 ((s.capWords c.ctx).getD 0 0)) ∧
    exec (.capsGet k false) s = .next ((s.setPhase k .running).finish k .retryLater (hintMs 1))) ∧
  (∀ k c s, s.mayRun k 0x06 c →
    (Desc.flag c.desc 8 = false → exec (.statsGet k true) s = .next (((s.setPhase k .running).emit
      (.write c.ctx (Desc.num c.desc 16 8) 64 (packWords 8 (s.statWords c.ctx)))).finish k .ok)) ∧
    exec (.statsGet k false) s = .next ((s.setPhase k .running).finish k .retryLater (hintMs 1)))

/-- R48, R51 and R55, shown on NOOP. -/
def Obligations.CompletionEntries : Prop :=
  ∀ k c s p, s.mayRun k 0x05 c → s.pair c.ctx c.pair = some p → p.held = [] → p.postFail = false → p.room = true → s.inError c.ctx = false →
    ∃ t, exec (.noop k) s = .next t ∧
      s.out ++ [.write c.ctx (p.cqBase + 32 * p.widx) 32
        (cplBytes ⟨k, Desc.tag c.desc, .ok, 0, Desc.num c.desc 16 8, Desc.num c.desc 24 4, Desc.num c.desc 28 4, Desc.quiet c.desc⟩ s.now p.phase p.fetch)]
        <+: t.out

/-- A row that only the session's owner may run: how it is turned away. -/
def TurnsAway (row : Nat → Instr) (op : Nat) : Prop :=
  ∀ k c s, s.mayRun k op c → s.noItem c = true → s.spoolHere (Desc.handle c.desc) = true → (op = 0x1A → Desc.flag c.desc 8 = false) →
    (s.sessLive c = false → exec (row k) s = .next (s.finish k .badHandle)) ∧
    (∀ x, s.sessLive c = true → s.sess (Desc.handle c.desc) = some x →
      (x.st = .orphaned → exec (row k) s = .next ((s.setPhase k .running).finish k .orphaned (x.lostOwner % 1024))) ∧
      (x.st = .failed → exec (row k) s = .next ((s.setPhase k .running).finish k .orphaned 0xFFFF)) ∧
      (x.st = .shipping → exec (row k) s = .next ((s.setPhase k .running).finish k .busyTether x.busyCause)) ∧
      (x.st ≠ .orphaned → x.st ≠ .failed → x.st ≠ .shipping → x.owner_ = false →
        exec (row k) s = .next ((s.setPhase k .running).finish k .ownerConflict x.ownerCause)))

/-- R81, R84 and the last columns of R91's table. -/
def Obligations.OwnersCommands : Prop :=
  TurnsAway .sessPark 0x12 ∧ TurnsAway .sessRevive 0x13 ∧ TurnsAway .sessDeflate 0x14 ∧ TurnsAway .sessRebuild 0x15 ∧
  TurnsAway .sessShip 0x17 ∧ TurnsAway .sessPolicy 0x1A

/-- R90 and R91, with the result words of spec/03's command pages. -/
def Obligations.SessionCommands : Prop :=
  (∀ k c s n, s.mayRun k 0x10 c → s.evacuating = false → s.rd .RING_STS_MEMBER ≠ 3 → s.isShort = false →
    Map.has s.attn.shapes (Desc.byte c.desc 16) = true → s.madeBy c.ctx < s.rd .CTL_SES_CTX_MAX_SESS c.ctx → s.newSlot = some n →
    let mirror := s.on .CTL_SES_PARTNER_VALID && !bitAt (Desc.byte c.desc 17) 1
    ∃ v : State, exec (.sessCreate k) s = .next (v.finish k .ok 0 (mkHandle s.myId c.ctx n s.bootgen ((Map.find s.ses.reuse n).getD 0))
      (if mirror then s.rd .CTL_SES_PARTNER_PARTNER else 2 ^ 31) (b2n (decide (s.aloftOrParked = .parked))))) ∧
  (∀ k c s x reads, s.mayRun k 0x11 c → Desc.flag c.desc 8 = false → s.noItem c = true → s.sessLive c = true →
    s.sess (Desc.handle c.desc) = some x → s.fab.isolated = false → x.st ≠ .shipping → x.st ≠ .orphaned → x.st ≠ .failed → x.owner_ = true →
    exec (.sessDestroy k reads) s = .next
      ((((s.setPhase k .running).destroySess x.handle (reads.getD 0 none)).finish k .ok 0 1).winch (s.setPhase k .running))) ∧
  (∀ k c s x, s.sessLive c = true → s.sess (Desc.handle c.desc) = some x → s.refusal x = none →
    (s.mayRun k 0x12 c → s.noItem c = true →
      ((x.st = .parked ∨ x.st = .deflated) → exec (.sessPark k) s = .next ((s.setPhase k .running).finish k .ok)) ∧
      (x.st ≠ .parked → x.st ≠ .deflated → ∃ st, exec (.sessPark k) s = .next
        ((State.flushGone (if Desc.flag c.desc 8 then (s.setPhase k .running).pause x.handle else (s.setPhase k .running).park x.handle)).finish
          k .ok 0 st))) ∧
    (s.mayRun k 0x13 c →
      (x.st = .aloft → exec (.sessRevive k) s = .next ((s.setPhase k .running).finish k .ok)) ∧
      (x.st = .rebuilding → exec (.sessRevive k) s = .next ((s.setPhase k .running).finish k .ok 0 1 x.rbStart x.rbEnd)) ∧
      (x.st = .parked → x.interactive = false → s.isShort = false → x.rbPending = false → Desc.flag c.desc 8 = true →
        exec (.sessRevive k) s = .next
          (x.pages.foldl (fun s q => s.wantUp ⟨false, x.handle, q.1⟩) ((s.setPhase k .running).enter x.handle .reviving)))) ∧
    (s.mayRun k 0x14 c → s.noItem c = true →
      (x.st = .deflated → exec (.sessDeflate k) s = .next ((s.setPhase k .running).finish k .ok)) ∧
      (x.st ≠ .deflated → exec (.sessDeflate k) s =
        .next ((((s.setPhase k .running).deflate x.handle 1).flushGone).finish k .ok 0 x.kibAll))) ∧
    (s.mayRun k 0x15 c → s.noItem c = true →
      (x.kvLen < Desc.num c.desc 16 4 → exec (.sessRebuild k) s = .next ((s.setPhase k .running).finish k .reservedNonzero 16)) ∧
      (Desc.num c.desc 16 4 ≤ x.kvLen →
        let a := if x.st = .deflated then 0 else Desc.num c.desc 16 4 / 128 * 128
        exec (.sessRebuild k) s = .next
          (((((s.setPhase k .running).dropFrom x.handle (a / 128)).startRebuild x.handle a x.kvLen 0).flushGone).rebuildDone k x.handle 0))) ∧
    (s.mayRun k 0x19 c → x.receiving = false → (s.hti.cmds.all fun d => d.ctx != c.ctx || decide (c.id ≤ d.id)) = true → s.attn.steps = [] →
      exec (.sessCancel k) s = .next (((s.setPhase k .running).cancelDraws c (Desc.handle c.desc)).finish k .ok)) ∧
    (s.mayRun k 0x1A c → Desc.flag c.desc 8 = false → Desc.num c.desc 32 8 = 0 → x.st ≠ .aloft →
      exec (.sessPolicy k) s = .next (((s.setPhase k .running).setSess { x with
        pauseDeflate := Desc.byte c.desc 16 = 1, autoDeflate := bitAt (Desc.byte c.desc 17) 0, interactive := bitAt (Desc.byte c.desc 17) 1
        idlePark := Desc.num c.desc 20 4, rbRate := Desc.num c.desc 24 2 }).finish k .ok))) ∧
  (∀ k c s x, s.mayRun k 0x16 c → s.sessLive c = true → s.sess (Desc.handle c.desc) = some x → Desc.byte c.desc 16 = 0 →
    exec (.sessQuery k true) s = .next (((s.setPhase k .running).emit (.write c.ctx (Desc.num c.desc 24 8) 256 (s.descriptor x))).finish
      k .ok 0 1 x.spool.length x.stateByte)) ∧
  (∀ k c s, s.mayRun k 0x1A c → Desc.flag c.desc 8 = true → ∃ v : State, exec (.sessPolicy k) s = .next (v.finish k .ok) ∧
    v.dflt c.ctx = { s.dflt c.ctx with
      pauseDeflate := Desc.byte c.desc 16 = 1, autoDeflate := bitAt (Desc.byte c.desc 17) 0, interactive := bitAt (Desc.byte c.desc 17) 1
      idlePark := Desc.num c.desc 20 4, rbRate := Desc.num c.desc 24 2 })

/-- R38, R80, R82, R87, R110, R393 and R395. The free slot and a drawn seed are free values (logs 4 and 74). -/
def Obligations.SessionCreation : Prop := ∀ k c s, s.mayRun k 0x10 c →
  let r := s.setPhase k .running
  let inter := bitAt (Desc.byte c.desc 17) 0 || (s.dflt c.ctx).interactive
  (s.evacuating = true ∨ s.rd .RING_STS_MEMBER = 3 → exec (.sessCreate k) s = .next (r.finish k .retryLater (hintS 1))) ∧
  (s.evacuating = false → s.rd .RING_STS_MEMBER ≠ 3 →
    (s.isShort = true → inter = false → exec (.sessCreate k) s = .next
      ((r.bump .CTL_ADM_CNT_COUNT 2 0 1).finish k .retryLater (hintMs (s.rd .CTL_ADM_CFG_BACKOFF_MS)))) ∧
    (s.isShort = false ∨ inter = true →
      (Map.has s.attn.shapes (Desc.byte c.desc 16) = false → exec (.sessCreate k) s = .next (r.finish k .reservedNonzero 16)) ∧
      (Map.has s.attn.shapes (Desc.byte c.desc 16) = true →
        (s.rd .CTL_SES_CTX_MAX_SESS c.ctx ≤ s.madeBy c.ctx ∨ s.newSlot = none → exec (.sessCreate k) s = .next (r.finish k .retryLater (hintMs 1))) ∧
        (∀ n, s.madeBy c.ctx < s.rd .CTL_SES_CTX_MAX_SESS c.ctx → s.newSlot = some n →
          let given := Desc.num c.desc 24 8
          let u := if given = 0 then r.tickFree.tickFree else r.tickFree
          let seed := if given = 0 then r.tickFree.free % 2 ^ 64 else given
          let mirror := s.on .CTL_SES_PARTNER_VALID && !bitAt (Desc.byte c.desc 17) 1
          let x : Session := { Session.blank (mkHandle s.myId c.ctx n s.bootgen ((Map.find s.ses.reuse n).getD 0)) (Desc.byte c.desc 16) s.now with
            st := s.aloftOrParked, owner_ := true, home := true, spool_ := true, interactive := inter, noMirror := !mirror
            mirror := if mirror then s.rd .CTL_SES_PARTNER_PARTNER else 0
            owner := s.myId, seed := seed, seeds := [(0, seed)], madeHere := true
            autoDeflate := (s.dflt c.ctx).autoDeflate, pauseDeflate := (s.dflt c.ctx).pauseDeflate, idlePark := (s.dflt c.ctx).idlePark
            rbRate := (s.dflt c.ctx).rbRate, pin := (s.dflt c.ctx).pin, neverT3 := (s.dflt c.ctx).neverT3, demoteAfter := (s.dflt c.ctx).demoteAfter }
          let v := ((((u.putSess n x).enter x.handle x.st).writeSpool x.handle).refreshShape x.shape).bump .CTL_SES_CNT_COUNT 0 0 1
          let w := if mirror then v.sendNote x x.mirror else v
          exec (.sessCreate k) s = .next ((if inter then w.admitInter else w).finish k .ok 0 x.handle (if mirror then x.mirror else 2 ^ 31)
            (b2n (decide (x.st = .parked))))))))

/-- R91, R94 to R97 and R107 to R110. -/
def Obligations.SessionOutcomes : Prop :=
  (∀ k c s reads, s.mayRun k 0x11 c → s.destroyReady c = true →
    let r := s.setPhase k .running
    (Desc.flag c.desc 8 = true ∨ s.sessLive c = true → s.fab.isolated = true → exec (.sessDestroy k reads) s = .next (r.finish k .retryLater (hintMs 10))) ∧
    (s.fab.isolated = false →
      (Desc.flag c.desc 8 = true →
        let l := s.ownedBy c.ctx
        let out := l.filter fun x => x.st != .shipping
        let u := out.zipIdx.foldl (fun s (p : Session × Nat) => s.destroySess p.1.handle (reads.getD p.2 none)) r
        exec (.sessDestroy k reads) s = .next ((u.finish k .ok 0 out.length (l.length - out.length)).winch r)) ∧
      (∀ x, Desc.flag c.desc 8 = false → s.sessLive c = true → s.sess (Desc.handle c.desc) = some x →
        let lost := x.st = .orphaned ∨ x.st = .failed
        (x.st = .shipping → exec (.sessDestroy k reads) s = .next (r.finish k .busyTether x.busyCause)) ∧
        (x.st ≠ .shipping → (lost ∧ x.isHome = false) ∨ (¬lost ∧ x.owner_ = false) →
          exec (.sessDestroy k reads) s = .next (r.finish k .ownerConflict x.ownerCause)) ∧
        (x.st ≠ .shipping → (lost ∧ x.isHome = true) ∨ (¬lost ∧ x.owner_ = true) →
          exec (.sessDestroy k reads) s = .next (((r.destroySess x.handle (reads.getD 0 none)).finish k .ok 0 1).winch r))))) ∧
  (∀ k c s x, s.mayRun k 0x13 c → s.sessLive c = true → s.sess (Desc.handle c.desc) = some x → s.refusal x = none →
    let r := s.setPhase k .running
    let u := if x.interactive then r.admitInter else r
    (x.st = .reviving → exec (.sessRevive k) s = .next r) ∧
    (x.st = .parked ∨ x.st = .deflated →
      (s.isShort = true → x.interactive = false → exec (.sessRevive k) s = .next
        ((r.bump .CTL_ADM_CNT_COUNT 3 0 1).finish k .retryLater (hintMs (s.rd .CTL_ADM_CFG_BACKOFF_MS)))) ∧
      (s.isShort = false ∨ x.interactive = true →
        (x.rbPending = true → exec (.sessRevive k) s = .next ((u.startRebuild x.handle x.rbStart x.rbEnd x.rbCause).rebuildDone k x.handle 1)) ∧
        (x.rbPending = false → x.st = .deflated ∨ (Desc.flag c.desc 8 = false ∧ u.reviveFirst x = false) → exec (.sessRevive k) s = .next
          ((((u.dropFrom x.handle 0).startRebuild x.handle 0 x.kvLen 0).flushGone).rebuildDone k x.handle 1)) ∧
        (x.rbPending = false → x.st = .parked → Desc.flag c.desc 8 = true ∨ u.reviveFirst x = true → exec (.sessRevive k) s = .next
          (x.pages.foldl (fun s q => s.wantUp ⟨false, x.handle, q.1⟩) (u.enter x.handle .reviving)))))) ∧
  (∀ k c s x, s.mayRun k 0x16 c → s.sessLive c = true → s.sess (Desc.handle c.desc) = some x → s.queryReady c = true →
    let r := s.setPhase k .running
    let first := Desc.num c.desc 32 4
    let count := Desc.num c.desc 36 4
    let all := if Desc.byte c.desc 16 = 1 then x.spool.map SpoolEntry.word else x.seeds.map seedWord
    let l := (all.drop first).take count
    (Desc.byte c.desc 16 ≠ 0 → x.spool_ = false → ∀ wrote, exec (.sessQuery k wrote) s = .next (r.finish k .ownerConflict x.ownerCause)) ∧
    (Desc.byte c.desc 16 ≠ 0 → x.spool_ = true → exec (.sessQuery k true) s = .next
      ((r.emit (.write c.ctx (Desc.num c.desc 24 8) (16 * l.length) (packWords 16 l))).finish k
        (if all.length < first + count then .partialDone else .ok) 0 l.length x.spool.length x.stateByte)) ∧
    (Desc.byte c.desc 16 = 0 ∨ x.spool_ = true → exec (.sessQuery k false) s = .next (r.finish k .retryLater (hintMs 1)))) ∧
  (∀ k c s x, s.mayRun k 0x19 c → s.sessLive c = true → s.sess (Desc.handle c.desc) = some x →
    let r := s.setPhase k .running
    (x.st = .orphaned ∨ x.st = .failed → exec (.sessCancel k) s = .next (r.finish k .orphaned x.orphanCause)) ∧
    (x.st ≠ .orphaned → x.st ≠ .failed → x.receiving = true → exec (.sessCancel k) s = .next (r.finish k .busyTether x.busyCause)) ∧
    (x.st ≠ .orphaned → x.st ≠ .failed → x.receiving = false → x.owner_ = true → s.fab.isolated = false →
      let h := Desc.handle c.desc
      let a := (r.cancelDraws c h).cancelItems h
      let ks := r.hti.cmds.filter fun (d : Cmd) => d.ctx = c.ctx && d.id < c.id && Desc.handle d.desc = h
      let b := ks.foldl (fun (n : State × Nat × Bool) d => ((n.1.cancelCmd d).1, n.2.1 + b2n (n.1.cancelCmd d).2.1, n.2.2 || (n.1.cancelCmd d).2.2))
        (a.1, a.2, false)
      exec (.sessCancel k) s = .next (b.1.finish k .ok 0 b.2.1 (b2n b.2.2)))) ∧
  (∀ k c s x, s.mayRun k 0x1A c → Desc.flag c.desc 8 = false → s.policyReady c = true → s.sessLive c = true →
    s.sess (Desc.handle c.desc) = some x → s.refusal x = none →
    let r := s.setPhase k .running
    let seed := Desc.num c.desc 32 8
    let y := { x with
      pauseDeflate := Desc.byte c.desc 16 = 1, autoDeflate := bitAt (Desc.byte c.desc 17) 0, interactive := bitAt (Desc.byte c.desc 17) 1
      idlePark := Desc.num c.desc 20 4, rbRate := Desc.num c.desc 24 2
      seed := if seed = 0 then x.seed else seed
      seeds := if seed = 0 then x.seeds else x.seeds ++ [(x.spool.length, seed)] }
    let u := r.setSess y
    let v := if y.interactive && y.st = .aloft then u.setFleet { u.fleet with seen := true } else u
    exec (.sessPolicy k) s = .next ((if seed = 0 then v else ((v.writeSpool x.handle).sinkSmall x.handle).sendSpool y x.spool.length []).finish k .ok))

/-- R217 to R219. -/
def Obligations.BridleBytes : Prop :=
  ∀ s : State, s.attn.bridle.wf = true →
    (∀ port vf off len v area c, area = areaMib (s.b4 (port % 2)) * 2 ^ 20 → c = off / area → area ≠ 0 → c < 64 → s.port c = port % 2 →
      vf.all (fun w => decide (w = c)) = true → s.rd .SEC_CTX_TDI c ≠ 3 → 0 < len → off % area + len ≤ s.backed c →
      (∃ m : Memory, exec (.bar4UnbackedAccess port vf off len v true) s = .next { s with attn := { s.attn with bridle := m } } ∧ m.wf = true ∧
        ∀ a, m.get a = if bridleAddr c (off % area) ≤ a ∧ a < bridleAddr c (off % area) + len then
          BitVec.ofNat 8 (v / 256 ^ (a - bridleAddr c (off % area))) else s.attn.bridle.get a) ∧
      exec (.bar4UnbackedAccess port vf off len v false) s = .next (s.emit (.busRead (s.attn.bridle.read (bridleAddr c (off % area)) len)))) ∧
    (∀ c v, c < 64 → s.blkOn .GORE = true → s.locked c = false → s.stepsOf c = 0 →
      (List.range 64).foldl (fun a d => a + if d = c then fieldOf .GORE_BRIDLE_MIB v else s.rd .GORE_BRIDLE_MIB d) 0 ≤ 8192 →
      s.rsvFits (s.backed c) (s.effMib c (fieldOf .GORE_BRIDLE_MIB v) * 2 ^ 20) = true → fieldOf .GORE_BRIDLE_MIB v ≠ s.rd .GORE_BRIDLE_MIB c →
      ∃ t, exec (.goreBridleWrite c v) s = .next t ∧ t.attn.bridle.wf = true ∧
        ∀ a, t.attn.bridle.get a = if bridleAddr c 0 ≤ a ∧ a < bridleAddr (c + 1) 0 then 0 else s.attn.bridle.get a)

/-- R99 step 1, R104, R95, R94 and R90. -/
def Obligations.TetherCommands : Prop :=
  (∀ k c s x, s.mayRun k 0x17 c → s.shipReady c = true → s.sessLive c = true → s.sess (Desc.handle c.desc) = some x → s.refusal x = none →
    x.st ≠ .rebuilding → Desc.num c.desc 16 2 ≠ s.myId → s.joined (Desc.num c.desc 16 2) = true →
    s.jobKeyFail c.ctx (Desc.byte c.desc 18) c.id = none →
    exec (.sessShip k) s = .next ((s.setPhase k .running).startShip x.handle (Desc.num c.desc 16 2) (Desc.byte c.desc 18) k (Desc.flag c.desc 8) false)) ∧
  (∀ k c s x, s.mayRun k 0x18 c → s.sessLive c = true → s.sess (Desc.handle c.desc) = some x →
    (Desc.byte c.desc 16 = 0 → exec (.sessTetherQuery k) s =
      .next ((s.setPhase k .running).finish k .ok 0 (tetherWord x.epoch x.owner (s.hasOwner x.owner) x.inherited))) ∧
    (Desc.byte c.desc 16 = 1 → x.isHome = true → exec (.sessTetherResolve k) s =
      .next (((s.setPhase k .running).reconcile x.handle x.epoch x.owner (s.hasOwner x.owner)).1.finish k .ok 0
        (tetherWord x.epoch x.owner (s.hasOwner x.owner) x.inherited)
        ((s.setPhase k .running).reconcile x.handle x.epoch x.owner (s.hasOwner x.owner)).2)) ∧
    (Desc.byte c.desc 16 = 1 → x.isHome = false → exec (.sessTetherResolve k) s =
      .next ((s.setPhase k .running).send (s.homeId x.handle) 0 .tetherQuery x.handle x.epoch s.myId 0 []))) ∧
  (∀ h s x, s.sess h = some x → x.st = .reviving → (x.pages.all fun q => decide (q.2.upper = .t1) || decide (q.2.st = .lost)) = true →
    let u := (s.enterAloft h).bump .CTL_SES_CNT_COUNT 4 0 1
    (∀ c y, u.runningOp 0x13 h = some c → u.sess h = some y →
      (y.st = .aloft → exec (.reviveDone h) s = .next (u.finish c.id .ok).pump) ∧
      (y.st ≠ .aloft → exec (.reviveDone h) s = .next (u.finish c.id .retryLater (hintMs 1)).pump)) ∧
    (u.runningOp 0x13 h = none → exec (.reviveDone h) s = .next u.pump)) ∧
  (∀ dt h s x, (s.pass dt).sess h = some x → x.owner_ = true → x.st = .aloft → x.idlePark ≠ 0 → (s.pass dt).itemInFlight h = false →
    (s.pass dt).kvInFlight h = false → max x.lastStep x.entered + 100000 * x.idlePark ≤ (s.pass dt).now →
    ∃ st, exec (.idleParkExpiry dt h) s = .next ((((s.pass dt).pause h).flushGone).event (hCtx h) 5 h (packBytes [(6, st)]))) ∧
  (∀ src h s x, s.sess h = some x → x.owner_ = false → x.incoming = false →
    exec (.sessionRoleNoticeReceived src h none) s = .next (s.freeSess h))

/-- R99 steps 1 to 4 and R103. -/
def Obligations.TransferMessages : Prop :=
  (∀ h epoch sender ret tiles bytes spoolLen kvLen shape geom inter evac s, s.sess h = none → s.evacuating = false → s.fab.gone = false →
    (∀ n, s.on .CTL_SES_CTX_SHIP_IN (hCtx h) = true ∨ evac = true → s.newSlot = some n → s.shipRoom (hCtx h) bytes = true →
      (s.isShort && !inter && !evac) = false → (Map.find s.attn.shapes shape).map Shape.geom = some geom →
      let v := s.takeDesc h shape
      let u := ((v.updSess h fun x => { x with
          incoming := true, ret := SState.ofCode ret, kvLen := kvLen, shape := shape, interactive := inter, tiles := [], streamLen := 0
          epoch := max x.epoch epoch, owner := if x.epoch ≤ epoch then sender else x.owner
          xfer := some ⟨false, .receiving, epoch, sender, 16, 0, tiles, bytes, [], [], [], false, 1, v.now, v.now, false, false, false, evac, none,
            none⟩ }).enter h .shipping).refreshShape shape
      exec (.shipOfferReceived h epoch sender s.myId ret tiles bytes spoolLen kvLen shape geom inter evac) s =
        .next (u.send sender 0 .shipAccept h epoch sender u.myId [])) ∧
    (s.on .CTL_SES_CTX_SHIP_IN (hCtx h) = false → evac = false →
      exec (.shipOfferReceived h epoch sender s.myId ret tiles bytes spoolLen kvLen shape geom inter evac) s =
        .next (s.send sender 0 .shipRefuse h epoch sender s.myId [1])) ∧
    (∀ n, s.on .CTL_SES_CTX_SHIP_IN (hCtx h) = true ∨ evac = true → s.newSlot = some n → s.shipRoom (hCtx h) bytes = true →
      (s.isShort && !inter && !evac) = false → (Map.find s.attn.shapes shape).map Shape.geom ≠ some geom →
      exec (.shipOfferReceived h epoch sender s.myId ret tiles bytes spoolLen kvLen shape geom inter evac) s =
        .next (s.send sender 0 .shipRefuse h epoch sender s.myId [4]))) ∧
  (∀ h epoch sender receiver s x t, s.sending h epoch sender receiver = some (x, t) →
    (∀ torn, t.phase = .offered →
      (s.shipEcc x t torn = none → exec (.shipAcceptReceived h epoch sender receiver torn) s = .next (s.shipStream h).pump) ∧
      (∀ key f, s.shipEcc x t torn = some (key, f) →
        exec (.shipAcceptReceived h epoch sender receiver torn) s = .next (s.sendTorn x t key 2 f.half (x.shipPoint key)).pump)) ∧
    (t.phase = .offered → t.evac = false →
      exec (.shipRefuseReceived h epoch sender receiver 1) s = .next (s.shipFail h .authFail 2) ∧
      exec (.shipRefuseReceived h epoch sender receiver 2) s = .next (s.shipFail h .retryLater (hintMs 1)) ∧
      exec (.shipRefuseReceived h epoch sender receiver 3) s = .next (s.shipFail h .retryLater (hintMs 1)) ∧
      exec (.shipRefuseReceived h epoch sender receiver 4) s = .next (s.shipFail h .reservedNonzero 16)) ∧
    (∀ i torn, t.phase = .sent → s.shipEcc x t torn = none → exec (.shipResendReceived h epoch sender receiver i torn) s =
      .next (if i < t.total then s.sendTile x t i else s.sendSpoolFrame x t).pump) ∧
    (∀ r i kind, s.receivingX h epoch sender receiver = none →
      (r ≠ 1 → exec (.shipAbortReceived h epoch sender receiver r i kind) s = .next (s.shipFail h .retryLater (hintMs 1)).pump) ∧
      (r = 1 → exec (.shipAbortReceived h epoch sender receiver r i kind) s = .next (s.shipTorn x t (t.keys.getD i 0) kind 0 2).pump))) ∧
  (∀ h epoch sender receiver s x t, s.receivingX h epoch sender receiver = some (x, t) →
    (∀ r i kind,
      (t.phase = .receiving → exec (.shipAbortReceived h epoch sender receiver r i kind) s = .next (s.discardIncoming h).pump) ∧
      (t.phase ≠ .receiving → exec (.shipAbortReceived h epoch sender receiver r i kind) s = .next s.pump)) ∧
    (t.phase = .receiving →
      (∀ es seeds l, exec (.shipFrameReceived h epoch sender receiver (.spool es seeds l)) s = .next
        (((s.setSess { x.withSettings l with
          spool := es.map fun (e : Nat × Nat × Nat) => ⟨e.1, e.2.1 = 1, e.2.2⟩, seeds := seeds
          xfer := some { t with spoolGot := true } }).writeSpool h).checkAll h)) ∧
      (∀ i key data len crc fill sealed, i < t.total → t.got.contains i = false →
        let q : Tile := ⟨sealed, data, len, crc, true, false, fill, 0⟩
        let g := s.shape x.shape
        let bad := tileFault g x.shape (keyLayer g key) (keyHead g key) (keyCol g key) x.handle q
        (∀ kind, bad = some kind → t.again.contains i = false → exec (.shipFrameReceived h epoch sender receiver (.tile i key data len crc fill sealed)) s = .next
          ((s.updXfer x.handle fun t => { t with again := t.again ++ [i] }).send t.peer 0 .shipResend x.handle t.epoch t.peer s.myId [i])) ∧
        (∀ kind, bad = some kind → t.again.contains i = true →
          exec (.shipFrameReceived h epoch sender receiver (.tile i key data len crc fill sealed)) s = .next (s.abortIn x t 1 i kind)) ∧
        (bad = none → s.shipRoom (hCtx x.handle) len = true → s.tileRoom x key q = true →
          exec (.shipFrameReceived h epoch sender receiver (.tile i key data len crc fill sealed)) s =
            let u := if sealed then s.bump .GORE_TILE_CNT_COUNT 6 0 1 else s
            .next (((u.placeTile x key q).updXfer x.handle fun t => { t with got := t.got ++ [i], tries := 1, at_ := u.now }).checkAll x.handle)))))

/-- R99 steps 5 to 9, R101, R103 and R104. -/
def Obligations.CommitMessages : Prop :=
  (∀ h epoch sender receiver again s x, s.sess h = some x → x.isHome = true →
    (x.epoch = epoch + 1 → x.owner = receiver →
      exec (.commitReqReceived h epoch sender receiver again) s = .next (s.sendAcks h (epoch + 1) receiver sender)) ∧
    (∀ p, x.prop = some p → ¬ (x.epoch = epoch + 1 ∧ x.owner = receiver) →
      (p.epoch = epoch + 1 → p.sender = sender → p.receiver = receiver → exec (.commitReqReceived h epoch sender receiver again) s = .next s) ∧
      (p.epoch ≠ epoch + 1 → exec (.commitReqReceived h epoch sender receiver again) s = .next (s.sendNaks x epoch sender receiver))) ∧
    (x.prop = none → s.fab.isolated = false → ¬ (x.epoch = epoch + 1 ∧ x.owner = receiver) →
      (x.epoch = epoch → x.owner = sender → again = false → x.st ≠ .orphaned → x.st ≠ .failed →
        exec (.commitReqReceived h epoch sender receiver again) s = .next (s.propose h sender receiver)) ∧
      (x.epoch ≠ epoch ∨ x.owner ≠ sender →
        exec (.commitReqReceived h epoch sender receiver again) s = .next (s.sendNaks x epoch sender receiver)))) ∧
  (∀ src h epoch sender owner s x, s.sess h = some x →
    exec (.replicateReceived src h epoch sender owner) s = .next
      ((s.setSess { x with mirror_ := true, epoch := max x.epoch epoch, owner := if x.epoch ≤ epoch then owner else x.owner }).send
        src 0 .replicateAck h epoch sender owner []) ∧
    (x.isHome = true → x.prop = none → exec (.tetherQueryReceived src h) s = .next
      (s.send src 0 .tetherRecord h x.epoch x.owner (b2n (s.hasOwner x.owner)) [b2n x.inherited]))) ∧
  (∀ h epoch sender owner s x, s.sess h = some x →
    (∀ p, x.recPending = false → x.prop = some p → p.epoch = epoch → p.sender = sender → p.receiver = owner →
      exec (.replicateAckReceived h epoch sender owner) s = .next (s.commitProp h)) ∧
    (x.recPending = true → x.isHome = true → epoch = x.epoch → x.prop = none → x.owner_ = true →
      exec (.replicateAckReceived h epoch sender owner) s = .next (s.setSess { x with recPending := false }))) ∧
  (∀ h sender receiver owner read s x t, s.sess h = some x → x.xfer = some t → s.identOf t t.epoch sender receiver = true →
    (t.sender = true → owner = t.peer →
      exec (.commitAckReceived h sender receiver (t.epoch + 1) owner read) s = .next (s.shipped h (t.epoch + 1) owner read).pump) ∧
    (t.sender = false → owner = s.myId →
      exec (.commitAckReceived h sender receiver (t.epoch + 1) owner read) s = .next (s.arrive h (t.epoch + 1)).pump) ∧
    (∀ epoch, t.sender = true → owner = s.myId → exec (.commitNakReceived h t.epoch sender receiver epoch owner) s = .next
      ((s.setSess { x with epoch := epoch }).shipFail h .ownerConflict (owner % 1024)).pump) ∧
    (∀ epoch, t.sender = true → owner ≠ s.myId →
      exec (.commitNakReceived h t.epoch sender receiver epoch owner) s = .next (s.shipTaken h epoch owner).pump) ∧
    (∀ epoch, t.sender = false → owner ≠ s.myId → exec (.commitNakReceived h t.epoch sender receiver epoch owner) s = .next
      ((s.setSess { x with epoch := epoch, owner := owner }).discardIncoming h).pump)) ∧
  (∀ h epoch owner present inheritor read s x, s.sess h = some x → x.xfer = none →
    exec (.tetherRecordReceived h epoch owner present inheritor read) s = .next
      ((s.reconcile h epoch owner present).1.endResolves h epoch owner present inheritor (s.reconcile h epoch owner present).2).pump)

/-- R88, R89, R101 to R103 and R105. -/
def Obligations.TetherTimes : Prop :=
  (∀ dt h s x t, (s.pass dt).sess h = some x → x.prop = none → x.recPending = false → x.xfer = some t → x.isHome = true → x.gathering = false →
    t.at_ + (s.pass dt).msgLimit ≤ (s.pass dt).now → t.sender = true → t.phase = .offered → t.tries < (s.pass dt).rd .CTL_SES_CFG_TETHER_TRIES →
    exec (.tetherMsgTimeout dt h) s = .next (((s.pass dt).retry x.handle).sendOffer x t (((s.pass dt).retry x.handle).parkOnArrival t)).pump) ∧
  (∀ dt h s x t, (s.pass dt).sess h = some x → x.xfer = some t → t.sender = true → t.phase = .sent → t.unresolved = false →
    t.start + 1000000 * (s.pass dt).rd .CTL_SES_CFG_SHIP_RESOLVE_LIMIT ≤ (s.pass dt).now →
    exec (.shipResolveTimeout dt h) s = .next (((s.pass dt).updXfer h fun t => { t with unresolved := true }).finish t.cmd .busyTether 3)) ∧
  (∀ src h s x, s.sess h = some x →
    (∀ first kvLen es seeds, x.owner_ = false → x.incoming = false → first ≤ x.spool.length →
      exec (.spoolEntriesReceived src h first kvLen es seeds) s = .next
        (((s.setSess { x with spool_ := true }).storeSpool { x with spool_ := true } first kvLen es seeds).send src 0 .spoolAck h x.epoch
          (first + es.length) 0 [])) ∧
    (∀ upto, x.mirrorLost = false → exec (.spoolAckReceived h upto) s = .next (s.ackUpTo h upto)) ∧
    (∀ upto, x.mirrorLost = true → x.owner_ = true → x.recPending = false → x.spool.length ≤ upto →
      x.isHome = true ∨ x.noMirror = true → exec (.spoolAckReceived h upto) s = .next ((s.setSess { x with mirrorLost := false }).ackUpTo h upto)) ∧
    (x.spool_ = true → exec (.spoolGatherRequestReceived src h) s = .next
      (s.send src 5 .gatherSpool h x.epoch 0 x.spool.length (x.spoolArgs x.spool))) ∧
    (∀ kvLen es seeds, x.gathering = true →
      (x.st ≠ .orphaned → exec (.spoolGatherDone h kvLen es seeds) s = .next
        ((s.setSess { x with gathering := false }).storeSpool { x with gathering := false } 0 kvLen es seeds)) ∧
      (x.st = .orphaned → exec (.spoolGatherDone h kvLen es seeds) s = .next
        (((s.setSess { x with gathering := false }).storeSpool { x with gathering := false } 0 kvLen es seeds).orphanGo h)))) ∧
  (∀ dt h s x, (s.pass dt).sess h = some x →
    (((s.pass dt).ses.acks.any fun w => w.dueFor h (2 ^ 64) &&
        decide (w.since + 10000 * (s.pass dt).rd .CTL_SES_CFG_MIRROR_ACK_LIMIT ≤ (s.pass dt).now)) = true → x.mirrorLost = false → exec (.mirrorAckTimeout dt h) s = .next
      (((((s.pass dt).setSess { x with mirrorLost := true, resentAt := (s.pass dt).now }).bump .CTL_SES_CNT_COUNT 11 0 1).event (hCtx h) 4 h
        (packBytes [(4, x.mirror)])).ackUpTo h (2 ^ 64))) ∧
    (x.owner_ = true → x.mirrorLost = true →
      x.resentAt + (s.pass dt).msgLimit * (s.pass dt).rd .CTL_SES_CFG_TETHER_TRIES ≤ (s.pass dt).now →
      exec (.mirrorResendPeriod dt h) s = .next ((s.pass dt).resend x)))

/-- R182, R184, R188, R189, R195, R196. -/
def Obligations.WinchEvents : Prop :=
  (∀ dt g s i, (s.pass dt).itemOn g = some i →
    let p := s.pass dt
    let u := p.bump .GORE_CNT_COUNT 3 0 1
    (i.preempt = false → exec (.workTileEnd dt g none) s = .next
      (u.mapItems (fun j => decide (j.id = i.id)) fun j => { j with tileAt := u.now })) ∧
    (i.preempt = true → exec (.workTileEnd dt g none) s = .next ((u.saveItem i).winch p)) ∧
    (∀ t : TornFound, t.kind = 2 → i.kind = .attnSeg ∨ i.kind = .seal → exec (.workTileEnd dt g (some t)) s = .next
      ((u.tornItem i t.column i.layer i.head 2 t.half 0).winch p)) ∧
    (i.tileAt + 100 * p.rd .GORE_CFG_YIELD_US < p.now → exec (.itemYield dt g) s = .next
      (((p.release i fun j => some { j with st := .waiting, preempt := false, readyAt := p.now, saved := true, staged := [] }).bump
        .GORE_CNT_COUNT 5 0 1).winch p)) ∧
    (p.mayEnd i = true →
      (i.kind = .attnMerge → exec (.itemEnd dt g) s = .next ((u.dropItem i).winch p)) ∧
      (i.kind = .unseal → exec (.itemEnd dt g) s = .next ((unsealEnd i u).winch p)) ∧
      (i.kind = .append → exec (.itemEnd dt g) s = .next ((appendEnd i u).winch p)) ∧
      (i.kind = .attnSeg → exec (.itemEnd dt g) s = .next ((segEnd i u).winch p)) ∧
      (i.kind = .seal → exec (.itemEnd dt g) s = .next ((sealEnd i u).winch p)) ∧
      (i.kind = .scan → exec (.itemEnd dt g) s = .next ((u.scanEnd i).winch p)) ∧
      (i.kind = .helperLayer → exec (.itemEnd dt g) s = .next ((u.helperEnd i).winch p)))) ∧
  (∀ n s i, s.gore.items.find? (fun i => decide (i.id = n)) = some i → i.st = .waiting → i.pages.all (s.pageHere i) = true →
    exec (.itemInputsArrive n) s = .next ((s.mapItems (fun j => decide (j.id = n)) fun j =>
      { j with st := if j.saved then .saved else .ready, readyAt := s.now }).winch s)) ∧
  (∀ dt n s k v i, classes[n]? = some k → (s.pass dt).starved k = true →
    ((s.pass dt).gore.items.any fun i => decide (i.cls = k) && i.dispatchable && (s.pass dt).capOk i.ctx &&
      decide (i.readyAt + 100 * (s.pass dt).rd .GORE_CFG_PREEMPT_US < (s.pass dt).now)) = true →
    (Map.find (s.pass dt).gore.preAt k.idx).all (fun t => decide (t + 100 ≤ (s.pass dt).now)) = true →
    (s.pass dt).held k + ((s.pass dt).gore.items.filter fun i => decide (i.st = .running) && i.preempt).length <
      (s.pass dt).avail * (s.pass dt).floor k / 100 →
    (s.pass dt).overServed = some v → v ≠ k →
    (s.pass dt).gore.items.find? (fun i => decide (i.st = .running) && decide (i.cls = v) && !i.preempt) = some i →
    let u := (s.pass dt).mapItems (fun j => decide (j.id = i.id)) fun j => { j with preempt := true }
    exec (.preemptTimeout dt n) s = .next { u with gore := { u.gore with preAt := Map.put u.gore.preAt k.idx u.now } }) ∧
  (∀ dt p s, p < 30 → (s.pass dt).on .GORE_GATE_EN = true → (s.pass dt).bit .CTL_READY_GORES p = true → (s.pass dt).on .GORE_PANEL_GATED p = false →
    ((s.pass dt).gore.items.any fun i => i.onPanel p) = false →
    (Map.find (s.pass dt).gore.busyAt p).getD 0 + 100 * (s.pass dt).rd .GORE_GATE_IDLE_US ≤ (s.pass dt).now →
    (s.pass dt).pickClass = none →
    ∃ t, exec (.panelIdleGate dt p) s = .next t ∧ t.rd .GORE_PANEL_GATED p = 1 ∧ t.gore.items = (s.pass dt).gore.items) ∧
  (∀ p s, s.isAdmitted .panel p = true → s.bit .CTL_READY_GORES p = true →
    let u := s.unadmit .panel p
    exec (.panelReady p) s = .next
      ((({ u with gore := { u.gore with waking := setBitN u.gore.waking p false, busyAt := Map.put u.gore.busyAt p u.now } }).wr .GORE_PANEL_GATED p 0 0).refreshPm.winch s)) ∧
  (∀ g c s, g < 1200 → c < 3 → s.boot.stage = .configured → bitAt (s.rd .GORE_PANEL_FENCED (g / 40)) (g % 40) = false →
    let u := (s.wr .GORE_PANEL_FENCED (g / 40) 0 (setBitN (s.rd .GORE_PANEL_FENCED (g / 40)) (g % 40) true)).bump .GORE_CNT_COUNT 10 0 1
    (s.itemOn g = none → exec (.goreFence g c) s = .next ((u.refreshPanel (g / 40)).winch s).checkPanels) ∧
    (∀ i, s.itemOn g = some i →
      exec (.goreFence g c) s = .next (((((u.goreFault i g c).rerunItem i).refreshPanel (g / 40)).winch s).checkPanels))) ∧
  (∀ p s, p < 30 → s.boot.stage = .configured → s.on .GORE_PANEL_FAULT p = false →
    exec (.panelPowerFault p) s = .next
      ((((s.gore.items.filter fun i => decide (i.st = .running) && decide (panelOf i.gore = p)).foldl (fun s i => (s.goreFault i i.gore 3).rerunItem i)
        (((s.wr .GORE_PANEL_FAULT p 0 1).wr .RING_LED_FAULT 0 0 3).refreshPanel p)).winch s).checkPanels))

/-- R150, R154 to R157, R160, R164, R167. -/
def Obligations.PageMoves : Prop :=
  (∀ tier r s,
    let fuel := s.allPages.length + 1
    (tier = 1 → s.quota r ≠ 0 → s.quota r < s.regionHeld r + s.wanted r → exec (.demotionStart tier r) s = .next
      (((s.press 1 (some r) (fun u => decide (u.regionUse r 1 + s.wanted r ≤ s.quota r)) fuel [] []).vacateAll).winch s)) ∧
    ((tier = 1 ∧ (s.quota r = 0 ∨ s.regionHeld r + s.wanted r ≤ s.quota r)) ∨ tier = 2 → s.highUse tier = true →
      exec (.demotionStart tier r) s = .next (((s.press tier none (fun u => u.lowUse tier) fuel [] []).vacateAll).winch s)) ∧
    (tier = 1 → s.quota r = 0 → s.highUse 1 = false → s.lendWaits = 0 → s.wantedAll ≠ 0 → s.t1Cap < s.t1Held + s.wantedAll →
      exec (.demotionStart tier r) s = .next
        (((s.press 1 none (fun u => decide (u.tierUse 1 + s.wantedAll ≤ u.t1Cap)) fuel [] []).vacateAll).winch s))) ∧
  (∀ dt h s x, (s.pass dt).sess h = some x → x.owner_ = true → x.st = .parked → ((s.pass dt).region (hCtx h)).heat = false → x.pin ≠ 1 →
    (s.pass dt).demoteDue x = true →
    exec (.demoteAfterExpiry dt h) s = .next (((s.pass dt).demoteSession 1 x).winch (s.pass dt))) ∧
  (∀ ref s x pl, s.page ref = some x → x.st = .dirty → x.writing = some pl → x.sink = false →
    let small (u : State) : State := if ref.index || !(x.kind = .sealed || x.kind = .opened) then u else u.sinkSmall ref.own
    (x.again = false → exec (.demotionWriteDone ref) s = .next
      (((small (s.putPage ref { x with st := .clean, lower := some pl, writing := none, sink := false })).flushStep ref true).winch s).afterWrite) ∧
    (x.again = true → exec (.demotionWriteDone ref) s = .next
      (((small ((if x.lower = some pl then s else s.releasePlace x.lower).putPage ref
        { x with lower := some pl, writing := none, again := false, sink := false })).flushStep ref false).winch s).afterWrite)) ∧
  (∀ ref s x, s.page ref = some x → x.reading = true →
    (x.up = true ∨ x.upper = .t1 →
      exec (.promotionReadDone ref false) s = .next (if ref.index then (s.promoted ref).winch s else ((s.promoted ref).winch s).shipGo ref.own) ∧
      exec (.promotionReadDone ref true) s = .next (if ref.index then (s.poisoned ref x).winch s else ((s.poisoned ref x).winch s).shipGo ref.own)) ∧
    (x.up = false →
      exec (.readThroughDone ref true) s = .next ((s.poisoned ref x).winch s) ∧
      exec (.readThroughDone ref false) s = (let y := { x with reading := false }
        let u := (((((s.stage ref).bump .TIER_CNT_COUNT 7 0 1).putPage ref y).copyUp ref y).winch s)
        .next (if ref.index then u else u.shipGo ref.own)))) ∧
  (∀ dt s, exec (.heatDecayTick dt) s = .next ((s.pass dt).allPages.foldl (fun s e =>
    if (s.region (ownerRegion e.1 e.2.1)).heat then s.putPage ⟨e.1, e.2.1, e.2.2.1⟩ { e.2.2.2 with heat := e.2.2.2.heat / 2 } else s) (s.pass dt))) ∧
  (∀ dt o s, o < 64 → exec (.tierAccessTimeout dt o) s = .next (((s.pass dt).failObject o 1 true).winch (s.pass dt))) ∧
  (∀ o up s, o < 64 → (o < 32 && up && s.on .TIER_OBJ_A_PRESENT o) = false →
    exec (.tierObjectFault o up) s = .next ((s.failObject o 2 up).winch s)) ∧
  (∀ o s, o < 32 → s.on .TIER_OBJ_A_PRESENT o = true →
    exec (.tierObjectFault o true) s = .next (((s.failObject o 2 true).winch s).wr .POOL_PORT_STS_VIRAL_IN (s.rd .TIER_OBJ_A_PORT o) 0 1)) ∧
  (∀ dt h s x c, let p := s.pass dt
    (∀ w ∈ p.t1Waits h, p.now < max w x.gainAt + 10000 * p.rd .TIER_STALL_LIMIT_LIMIT) →
    p.sess h = some x → p.runningOp 0x13 h = some c → x.st = .reviving → max x.entered x.gainAt + 10000 * p.rd .TIER_STALL_LIMIT_LIMIT ≤ p.now →
    (x.pages.any fun q => q.2.upper != .t1 && q.2.st != .lost && !q.2.reading) = true →
    exec (.t1StallTimeout dt h) s = .next
      ((((p.enter h .parked).finish c.id .retryLater (hintMs 1)).bump .TIER_CNT_COUNT 14 0 1).winch p)) ∧
  (∀ dt h s x w, let p := s.pass dt
    p.sess h = some x → w ∈ p.t1Waits h → max w x.gainAt + 10000 * p.rd .TIER_STALL_LIMIT_LIMIT ≤ p.now →
    ((p.leaveAll h .retryLater (hintMs 1)).bump .TIER_CNT_COUNT 14 0 1).runningOp 0x13 h = none →
    exec (.t1StallTimeout dt h) s = .next (((p.leaveAll h .retryLater (hintMs 1)).bump .TIER_CNT_COUNT 14 0 1).winch p))

/-- R142, R168 to R170, R175, R176. -/
def Obligations.TierControls : Prop :=
  (∀ dt s, exec (.wearBudgetTick dt) s = .next ((s.pass dt).tier.wear.foldl (fun s p => s.setWear p.1 { p.2 with
      budget := min (p.2.budget + (p.2.acc + s.rd .TIER_DRV_CAP_GIB_DAY p.1 * 1024 * 65536) / 86400) (s.rd .TIER_DRV_CAP_GIB_DAY p.1 * 1024 * 65536)
      acc := (p.2.acc + s.rd .TIER_DRV_CAP_GIB_DAY p.1 * 1024 * 65536) % 86400 }) (s.pass dt))) ∧
  (∀ dt s, exec (.wearBudgetSave dt) s = .next { s.pass dt with tier := { (s.pass dt).tier with wear := (s.pass dt).tier.wear.map fun p =>
      (p.1, { p.2 with sIdent := p.2.ident, sBudget := p.2.budget, sAcc := p.2.acc, sWritten := p.2.written }) } }) ∧
  (∀ port ident s, port < 8 → s.driveUp port = true →
    (∀ spaces, exec (.flashControllerEnumerated port ident spaces) s = .next (flashEnumerated port ident spaces s)) ∧
    (Map.has s.tier.wear port = true → (s.wear port).sIdent = ident → exec (.flashControllerEnumerated port ident []) s = .next
      (([0, 1, 2, 3].foldl (fun s n => s.loseObject (32 + 4 * port + n)) (s.setWear port { s.wear port with
        ident := ident, budget := (s.wear port).sBudget, acc := (s.wear port).sAcc, written := (s.wear port).sWritten })).refreshCaps.unadmit
          .flash port))) ∧
  (∀ k c s, s.mayRun k 0x53 c → s.tierLive c = true → s.tierOwner c = none →
    let r := s.setPhase k .running
    let pin := Desc.byte c.desc 18
    let no3 := bitAt (Desc.byte c.desc 19) 0
    let after := Desc.num c.desc 20 4
    (Desc.byte c.desc 16 = 0 →
      let u := (r.setRegion c.ctx (regionWith (r.region c.ctx) c.desc)).setDflt c.ctx { s.dflt c.ctx with pin := pin, neverT3 := no3, demoteAfter := after }
      let os := (r.setRegion c.ctx (regionWith (r.region c.ctx) c.desc)).ownersOf c.ctx
      exec (.tierPolicy k) s = .next ((u.finish k .ok 0 (u.pagesIn os 1) (u.pagesIn os 2) (min (u.pagesIn os 3) 0xFFFFFFFF)).winch r)) ∧
    (Desc.byte c.desc 16 = 2 →
      let u := r.updSess (Desc.handle c.desc) fun x => { x with pin := pin, neverT3 := no3, demoteAfter := after }
      let os := [(false, Desc.handle c.desc)]
      exec (.tierPolicy k) s = .next ((u.finish k .ok 0 (u.pagesIn os 1) (u.pagesIn os 2) (min (u.pagesIn os 3) 0xFFFFFFFF)).winch r))) ∧
  (∀ k c s, s.mayRun k 0x54 c → s.flushReady c = true → s.tierLive c = true → s.tierOwner c = none →
    let r := s.setPhase k .running
    let os := r.flushOwners c
    let f : FlushRun := ⟨k, Desc.flag c.desc 9, os.map fun o => ownerCode o.1 o.2, [], 0, 0, 0, 0⟩
    let a := os.foldl (fun a o => a.1.flushOwner a.2 (Desc.byte c.desc 17) o.1 o.2) (r, f)
    let u := { a.1 with tier := { a.1.tier with flushes := a.1.tier.flushes ++ [a.2] } }
    exec (.tierFlush k) s = .next (if a.2.wait.isEmpty then u.endFlush a.2 else u)) ∧
  (∀ o v s, o < 64 → s.blkOn .TIER = true →
    (bitAt v 3 = true → ∃ t, exec (.tierObjFailedClear o v) s = .next t ∧ t.rd .TIER_OBJ_A_FAILED o = 0 ∧
      t.rd .TIER_OBJ_A_EN o = b2n (bitAt v 2 && !(o < 32 && s.on .POOL_OBJ_WINDOW o))) ∧
    (bitAt v 3 = false → ∃ t, exec (.tierObjEnWrite o v) s = .next t ∧ t.rd .TIER_OBJ_A_FAILED o = s.rd .TIER_OBJ_A_FAILED o ∧
      t.rd .TIER_OBJ_A_EN o = b2n (bitAt v 2 && !(o < 32 && s.on .POOL_OBJ_WINDOW o))))

/-- R213 to R218 and R234 to R238. -/
def Obligations.ShapesAndKv : Prop :=
  (∀ k c s l, s.mayRun k 0x36 c →
    let n := slotOf c.desc
    let r := s.setPhase k .running
    let g := shapeOf c.ctx c.desc l
    (opOf 9 8 0 c.desc = true → Map.find s.attn.shapes n = none → l.all (layerOk g.latent) = true → s.rsvFits 0 (Config.shapeBytes g.layers) = true →
      exec (.modelShapeDeclare k (some l)) s = .next
        (((r.rsvSwap 0 (Config.shapeBytes g.layers)).setShape n (some g)).finish k .ok 0 g.kvBytes (r.shapeUsers n))) ∧
    (opOf 9 8 0 c.desc = true → Map.find s.attn.shapes n = none → l.all (layerOk g.latent) = true → s.rsvFits 0 (Config.shapeBytes g.layers) = false →
      exec (.modelShapeDeclare k (some l)) s = .next (r.rsvFull.finish k .retryLater (hintMs 1))) ∧
    (∀ o, Map.find s.attn.shapes n = some o → s.shapeForeign c o = false →
      (opOf 9 8 1 c.desc = true → geoDiff o (shapeOf c.ctx c.desc []) = none → l.all (layerOk o.latent) = true →
        exec (.modelShapeUpdate k (some l)) s = .next
          ((r.setShape n (some { g with owner := o.owner })).finish k .ok 0 (Shape.kvBytes { g with owner := o.owner }) (r.shapeUsers n))) ∧
      (opOf 9 8 2 c.desc = true → s.shapeUsers n = 0 → exec (.modelShapeRemove k) s = .next
        (((r.rsvSwap (Config.shapeBytes o.layers) 0).setShape n none).finish k .ok 0 o.kvBytes)) ∧
      (opOf 9 8 2 c.desc = true → s.shapeUsers n ≠ 0 → exec (.modelShapeRemove k) s = .next
        (r.finish k .reservedNonzero 2 0 (r.shapeUsers n))))) ∧
  (∀ k c s x l, s.mayRun k 0x32 c → s.kvReady c = true → s.sessLive c = true → s.sess (Desc.handle c.desc) = some x → opOf 8 8 0 c.desc = true →
    s.kvRefuse x false = none → x.st = .aloft → Desc.num c.desc 20 4 * (c.shape.getD (s.shape x.shape)).kvBytes ≤ Desc.num c.desc 40 8 →
    Desc.num c.desc 16 4 = x.kvLen → Desc.num c.desc 16 4 + Desc.num c.desc 20 4 ≤ x.spool.length →
    Desc.num c.desc 16 4 + Desc.num c.desc 20 4 ≤ Config.maxTokens →
    let r := s.setPhase k .running
    let g := c.shape.getD (s.shape x.shape)
    let m (row : Nat → Nat → Nat) : Map (List Nat) := (List.range g.headLayers).map fun hl =>
      (hl, (List.range (Desc.num c.desc 20 4)).map fun p => row hl p)
    let q (row : Nat → Nat → Nat) : KvRun := ⟨k, Desc.handle c.desc, Desc.num c.desc 16 4, Desc.num c.desc 20 4, g, m row, false, false, 0, false⟩
    let u (row : Nat → Nat → Nat) : State := { r with attn := { r.attn with kvRuns := r.attn.kvRuns ++ [q row] } }
    let started (row : Nat → Nat → Nat) : State := ((List.range g.headLayers).foldl (fun (s : State) hl =>
        s.addItem (Item.new .append .assist c.ctx k (Desc.handle c.desc) (hl / g.hkv) (hl % g.hkv) 0 .ready)) (u row)).winch r
    (Desc.flag c.desc 10 = false → exec (.kvAppendAppend k (some l)) s = .next (started fun hl p => l.getD (hl * Desc.num c.desc 20 4 + p) 0)) ∧
    (Desc.flag c.desc 10 = true → exec (.kvAppendAppend k none) s = .next (started fun hl p =>
      s.bridleGet c.ctx (Desc.num c.desc 32 8 + (hl * Desc.num c.desc 20 4 + p) * g.rowBytes) g.rowBytes))) ∧
  (∀ k c s x, s.mayRun k 0x32 c → s.kvReady c = true → s.sessLive c = true → s.sess (Desc.handle c.desc) = some x → opOf 8 8 1 c.desc = true →
    s.kvRefuse x true = none →
    let r := s.setPhase k .running
    let g := s.shape x.shape
    let first := Desc.num c.desc 16 4
    let count := Desc.num c.desc 20 4
    let lf := Desc.num c.desc 24 2
    let lc := Desc.num c.desc 26 2
    let need := (streamRecords x g c.desc).foldl (fun a p => a + p.1) 0
    lf < g.layers → lf + lc ≤ g.layers → first + count ≤ x.kvLen →
    ((decide (x.st = .rebuilding) || x.rbPending) && decide (first < x.rbEnd) && decide (x.rbStart < first + count)) = false →
    need ≤ Desc.num c.desc 40 8 →
    let u : State := { r with attn := { r.attn with kvRuns := r.attn.kvRuns ++ [⟨k, Desc.handle c.desc, first, count, g, [], false, false, 0, true⟩] } }
    let w := (List.range lc).foldl (fun s l => (List.range g.hkv).foldl (fun s hd =>
      let i := { Item.new .unseal .assist c.ctx k (Desc.handle c.desc) (lf + l) hd 0 .held with
        pages := ((streamCols first count).flatMap fun col => x.tilePages g (tileKey g col (lf + l) hd)).eraseDups }
      (s.addItem i).request i) s) u
    exec (.kvAppendStream k) s = .next ((w.turn (kvItem k (Desc.handle c.desc))).winch r)) ∧
  (∀ c v s, c < 64 → s.blkOn .GORE = true → s.locked c = false → s.stepsOf c = 0 →
    (List.range 64).foldl (fun a d => a + if d = c then fieldOf .GORE_BRIDLE_MIB v else s.rd .GORE_BRIDLE_MIB d) 0 ≤ 8192 →
    s.rsvFits (s.backed c) (s.effMib c (fieldOf .GORE_BRIDLE_MIB v) * 2 ^ 20) = true → (Fld.GORE_BRIDLE_MIB).legal (fieldOf .GORE_BRIDLE_MIB v) = true →
    ∃ t, exec (.goreBridleWrite c v) s = .next t ∧ t.rd .GORE_BRIDLE_MIB c = fieldOf .GORE_BRIDLE_MIB v ∧
      t = ((if fieldOf .GORE_BRIDLE_MIB v = s.rd .GORE_BRIDLE_MIB c then s else s.bridleZero c).put
        .GORE_BRIDLE_MIB c 0 (fieldOf .GORE_BRIDLE_MIB v)).refreshBridle c) ∧
  (∀ port vf off len v s area c, area = areaMib (s.b4 (port % 2)) * 2 ^ 20 → c = off / area → area ≠ 0 →
    let mine := decide (c < 64) && decide (s.port c = port % 2) && vf.all (fun w => decide (w = c))
    (mine = false ∨ s.backed c ≤ off % area) → (mine = false ∨ s.rd .SEC_CTX_TDI c ≠ 3) →
    exec (.bar4UnbackedAccess port vf off len v false) s = .next ((s.bump .GORE_ATTN_CNT_COUNT 10 0 1).emit (.busRead 0)) ∧
    exec (.bar4UnbackedAccess port vf off len v true) s = .next (s.bump .GORE_ATTN_CNT_COUNT 10 0 1))

/-- R190 to R192, R223 to R232. -/
def Obligations.StepEvents : Prop :=
  (∀ k c s l g, s.mayRun k 0x30 c → s.step? c.ctx (Desc.num c.desc 16 2) = none → Map.find s.attn.shapes (Desc.byte c.desc 18) = some g →
    Desc.num c.desc 40 4 + Desc.byte c.desc 22 * islotOf g (Desc.num c.desc 20 2 * Desc.byte c.desc 19) ≤ s.backed c.ctx →
    s.attn.steps.length < 64 → s.stepsOf c.ctx < s.rd .GORE_STEP_LIM_PER_CTX →
    let r := s.setPhase k .running
    let es := r.makeEntries c.ctx (Desc.byte c.desc 18) (Desc.byte c.desc 19) s.hti.nextCmd [] ((List.range (Desc.num c.desc 20 2)).map fun i => l.getD i 0)
    let geo := { g with grades := match c.shape with | some a => a.grades | none => g.grades }
    let t : Step := ⟨s.attn.nextStep, s.hti.nextCmd, c.ctx, Desc.num c.desc 16 2, k, c.pair, Desc.byte c.desc 18, geo, s.rd .GORE_CFG_SEG_TILES,
      Desc.byte c.desc 19, Desc.byte c.desc 22, Desc.num c.desc 32 8, Desc.num c.desc 40 4, Desc.num c.desc 48 8, Desc.num c.desc 56 8,
      Desc.flag c.desc 8, s.now, 0, 0, s.now, false, es, [], none⟩
    ((es.all fun e => !e.admitted) = false →
      let u := ({ r with attn := { r.attn with steps := r.attn.steps ++ [t], nextStep := t.id + 1 } }).bump .GORE_CNT_COUNT 0 0 1
      exec (.stepSubmit k (some l)) s = .next
        ((es.foldl (fun s e => if e.admitted && !e.waiting then s.formLayer t e 0 else s) ((u.writeAdmission t).writeFlag t 0 false)).winch r)) ∧
    ((es.all fun e => !e.admitted) = true →
      exec (.stepSubmit k (some l)) s = .next ((r.writeAdmission t).finish k .partialDone 0 0 (Desc.num c.desc 20 2)))) ∧
  (∀ k c s t, s.mayRun k 0x31 c → s.step? c.ctx (Desc.num c.desc 16 2) = some t →
    let r := s.setPhase k .running
    let l := Desc.num c.desc 18 2
    (l = t.kicked → l < t.geo.layers → exec (.attend k) s = .next
      (((r.bump .GORE_ATTN_CNT_COUNT 1 0 1).updStep t.id fun t => { t with attends := t.attends ++ [(l, k)] }).kick t l)) ∧
    (l ≠ t.kicked → exec (.attend k) s = .next ((r.bump .GORE_ATTN_CNT_COUNT 3 0 1).finish k .reservedNonzero 18))) ∧
  (∀ port ctx v s t, ctx < 64 → s.windowOpen port ctx = true → bitsOf v 31 25 = 0 → s.step? ctx (bitsOf v 15 0) = some t →
    (bitsOf v 24 16 = t.kicked → bitsOf v 24 16 < t.geo.layers →
      exec (.htiWBrkickWrite port ctx v) s = .next ((s.bump .GORE_ATTN_CNT_COUNT 2 0 1).kick t (bitsOf v 24 16))) ∧
    (bitsOf v 24 16 ≠ t.kicked → exec (.htiWBrkickWrite port ctx v) s = .next (s.badKick ctx (bitsOf v 15 0) (bitsOf v 24 16) 2))) ∧
  (∀ ctx sid s t, s.step? ctx sid = some t →
    (t.done < t.kicked → s.layerReady t t.done = true →
      let u := (t.entries.zipIdx.foldl (fun s p => s.layerEntry t t.done p.2 p.1 (s.slotInput t t.done p.2)) s).writeFlag t (t.done + 1) false
      let w := if t.mute then u else u.bump .GORE_ATTN_CNT_COUNT 0 0 1
      exec (.layerComplete ctx sid) s = .next ((w.updStep t.id fun q => { q with done := t.done + 1, lastFlag := w.now }).endAttends t t.done)) ∧
    exec (.stepOutputWriteFail ctx sid) s = .next (((s.bump .GORE_ATTN_CNT_COUNT 11 0 1).emit (.aer (s.port ctx) 1)).abandon t) ∧
    (∀ i e read, t.entries[i]? = some e → e.inStep = true → e.waiting = false → e.sealing = false → t.done = t.geo.layers → t.sample = false →
      (e.cancel = true → exec (.stepItemEnd ctx sid i read) s = .next ((s.endCancelled t e).winch s).pump) ∧
      (e.cancel = false → s.entryRoom t e = true → exec (.stepItemEnd ctx sid i read) s = .next ((s.itemDone t e read).winch s).pump))) ∧
  (∀ dt ctx sid s t, (s.pass dt).step? ctx sid = some t →
    (t.entries.any SEntry.inStep = false → exec (.stepEnd dt ctx sid) s = .next ((s.pass dt).endStep t).pump) ∧
    (t.lastFlag + 100000 * (s.pass dt).rd .GORE_ATTN_CFG_KICK_LIMIT_MS ≤ (s.pass dt).now → t.kicked ≤ t.done → t.done < t.geo.layers →
      t.entries.any SEntry.inStep = true →
      exec (.kickLimitTimeout dt ctx sid) s = .next (((s.pass dt).bump .GORE_ATTN_CNT_COUNT 4 0 1).abandon t)))

/-- R251, R254 to R259. -/
def Obligations.TextIntake : Prop :=
  (∀ k busy l c s x m, s.mayRun k 0x20 c → s.appendReady c = true → s.sessLive c = true → s.imageFor (Desc.byte c.desc 16) k = some m →
    s.sess (Desc.handle c.desc) = some x → s.appendRefuse x = none →
    s.bytesInFlight c + Desc.num c.desc 32 4 ≤ s.rd .TXT_CTX_MAX_MIB c.ctx * 2 ^ 20 →
    let r := s.setPhase k .running
    (Desc.flag c.desc 8 = true → (l.takeD (Desc.num c.desc 32 4 / 4) 0).findIdx? (fun t => decide (t ≥ Img.tokens m)) = none →
      exec (.textAppend k busy (some l)) s = .next ((r.appendTokens c (Desc.handle c.desc)
        (l.takeD (Desc.num c.desc 32 4 / 4) 0) 0 fun s => s.bump .TXT_CNT_COUNT 0 0 1).sweepImages)) ∧
    (Desc.flag c.desc 8 = false →
      let b := l.takeD (Desc.num c.desc 32 4) 0
      exec (.textAppend k busy (some l)) s = .next ((r.appendTokens c (Desc.handle c.desc) ((Img.run m b).toks.map Tok.id) (Img.run m b).invalid
        fun s => (s.countRun m b (Img.run m b) busy).bump .TXT_CNT_COUNT 2 0 (Img.run m b).toks.length).sweepImages))) ∧
  (∀ (c : Cmd) (s : State) (h : Nat) (ids : List Nat) (n : Nat) (count : State → State) (x : Session), s.sess h = some x →
    x.spool.length + ids.length ≤ Config.maxTokens → s.appendTokens c h ids n count =
    ((count s).spoolAppend h (ids.map fun t => ⟨t, false, (x.spool.getLast?.map SpoolEntry.visible).getD 0⟩)).finishSpool h c.id ids.length (x.spool.length + ids.length) n) ∧
  (∀ k busy l c s m, s.mayRun k 0x21 c → s.txtReady c = true → s.imageFor (Desc.byte c.desc 16) k = some m →
    s.bytesInFlight c + Desc.num c.desc 32 4 ≤ s.rd .TXT_CTX_MAX_MIB c.ctx * 2 ^ 20 →
    let r := s.setPhase k .running
    let b := l.takeD (Desc.num c.desc 32 4) 0
    let out := (Img.run m b).toks.take (Desc.num c.desc 36 4)
    let w := if Desc.flag c.desc 8 then 8 else 4
    (Img.run m b).toks.length ≤ Desc.num c.desc 36 4 →
    exec (.textTokenize k busy (some l) true) s = .next (((((r.countRun m b (Img.run m b) busy).emit
      (.write c.ctx (Desc.num c.desc 40 8) (w * out.length) (packWords w (out.map (tokEntry (Desc.flag c.desc 8)))))).bump
        .TXT_CNT_COUNT 2 0 out.length).finish k .ok 0 out.length out.length (Desc.num c.desc 32 4)).sweepImages)) ∧
  (∀ k src c s m, s.mayRun k 0x22 c → opOf 8 8 0 c.desc = true →
    let r := (s.setPhase k .running).sweepImages
    let n := Desc.num c.desc 8 8 % 32
    let len := Desc.num c.desc 32 4
    let z := Config.imageBytes 0 len
    Map.find r.dec.tables n = none → r.readImage c.ctx (Desc.flag c.desc 9) (Desc.num c.desc 16 8) (Desc.num c.desc 24 8) len src = .inl m →
    (Img.check m len (decide (r.tableBytes + z ≤ r.rd .TXT_CFG_T1_MIB * 2 ^ 20)) = none → r.rsvFits 0 z = true →
      let v := ((((r.rsvSwap 0 z).setTable n (some ⟨c.ctx, m, z, []⟩)).sweepImages).showTable n).bump .TXT_CNT_COUNT 11 0 1
      exec (.tableLoadLoad k src) s = .next (v.finish k .ok 0 z 0 (v.tableUsers n))) ∧
    (∀ e, Img.check m len (decide (r.tableBytes + z ≤ r.rd .TXT_CFG_T1_MIB * 2 ^ 20)) = some e →
      exec (.tableLoadLoad k src) s = .next ((r.bump .TXT_CNT_COUNT 12 0 1).finish k .reservedNonzero 32 0 e))) ∧
  (∀ k c s t, s.mayRun k 0x22 c → opOf 8 8 1 c.desc = true → Map.find s.dec.tables (Desc.num c.desc 8 8 % 32) = some t → s.foreign c t.owner = false →
    (s.tableUsers (Desc.num c.desc 8 8 % 32) = 0 → exec (.tableLoadRemove k) s = .next
      (((((s.setPhase k .running).rsvSwap t.allBytes 0).setTable (Desc.num c.desc 8 8 % 32) none).showTable (Desc.num c.desc 8 8 % 32)).finish k .ok)) ∧
    (s.tableUsers (Desc.num c.desc 8 8 % 32) ≠ 0 → exec (.tableLoadRemove k) s = .next
      ((s.setPhase k .running).finish k .reservedNonzero 8 0 0 (s.tableUsers (Desc.num c.desc 8 8 % 32))))) ∧
  (∀ lane ctx h s, lane < 16 → exec (.tokeniserLaneFault lane ctx h) s =
    .next ((s.bump .TXT_CNT_COUNT 14 0 1).fenceLane .TXT_LANES_FENCED 16 0 lane ctx h))

/-- R260 to R262, R265, R270, R276 to R278, R285 to R288. -/
def Obligations.StreamsAndGrammars : Prop :=
  (∀ k c s x b, s.mayRun k 0x23 c → s.streamReady c = true → s.sessLive c = true → s.sess (Desc.handle c.desc) = some x → s.refusal x = none →
    firstFault (s.confFaults k b) = none → (s.locked c.ctx = false ∨ ∀ t, Map.find s.dec.tables (confOf b).table = some t → t.owner = c.ctx) →
    let r := s.setPhase k .running
    let h := Desc.handle c.desc
    (opOf 10 8 0 c.desc = true → s.stream h = none → s.streamsLive < 65536 → s.streamsOf c.ctx < s.rd .DEC_CTX_MAX_STREAMS c.ctx →
      exec (.streamConfOpen k (some b)) s = .next ((((r.setStreams (r.dec.streams ++ [Stream.new h (confOf b)])).refreshStreams).finishConf c).sweepImages)) ∧
    (∀ y, s.stream h = some y →
      (opOf 10 8 1 c.desc = true → exec (.streamConfUpdate k (some b)) s = .next
        ((((r.updStream h fun x => { x with conf := confOf b }).refreshStreams).finishConf c).sweepImages)) ∧
      (∀ read, opOf 10 8 2 c.desc = true → Desc.num c.desc 16 8 ≠ 0 → exec (.streamConfRestart k (some b) read) s = .next
        (((((r.endOpen h 7 read).updStream h fun x => { x with
          conf := confOf b, ended := false, held := [], draws := 0, lastPos := none, gram := if !y.ended then none else x.gram }).refreshStreams).finishConf c).sweepImages)) ∧
      (∀ read, opOf 10 8 3 c.desc = true → exec (.streamConfClose k read) s = .next ((((r.endOpen h 6 read).freeStream h).finishConf c).sweepImages)))) ∧
  (∀ k list rows reads c s, s.mayRun k 0x33 c → s.sampleReady list c = true →
    (Desc.flag c.desc 11 = true → Desc.num c.desc 32 8 + (Desc.num c.desc 20 2 - 1) * Desc.num c.desc 28 4 + rowBytes c.desc ≤ s.backed c.ctx) →
    (Desc.flag c.desc 12 = true → Desc.num c.desc 48 8 + 4 * Desc.num c.desc 20 2 ≤ s.backed c.ctx) →
    let r := s.setPhase k .running
    let row (n : Nat) : List (Nat × Nat) := rowOf (bitsOf (Desc.flags c.desc) 10 9) (if Desc.flag c.desc 11 then s.bridleRow c n else rows.getD n [])
    let n := Desc.num c.desc 20 2
    (∀ l, Desc.flag c.desc 8 = true → list = some l →
      let p := (List.range n).foldl (fun p i => sampleList c (l.getD i 0) (row i) (reads.getD i none) i p) (r, ⟨0, 0, 0, [], []⟩)
      exec (.sample k list rows reads) s = .next (p.1.endSample c p.2)) ∧
    (∀ t, Desc.flag c.desc 8 = false → s.step? c.ctx (Desc.num c.desc 16 2) = some t → t.sample = true →
      Desc.num c.desc 18 2 + n ≤ t.entries.length →
      let p := (List.range n).foldl (fun p i => sampleStep c t.id (Desc.num c.desc 18 2 + i) (row i) i p) (r, ⟨0, 0, 0, [], []⟩)
      exec (.sample k list rows reads) s = .next (p.1.endSample c p.2))) ∧
  (∀ dt h read s x, (s.pass dt).dec.streams.find? (fun x => decide (x.handle = h) && !x.backlog.isEmpty) = some x → (s.pass dt).on .CTL_READY_DEC = true →
    let a := (s.pass dt).ringDrain x read (2 * x.backlog.length + 2)
    let n := (s.pass dt).dec.streams.findIdx fun y => decide (y.handle = h) && !y.backlog.isEmpty
    exec (.outputRingBacklogPoll dt h read) s = .next ((a.1.setStreams (if a.2.freed && a.2.backlog.isEmpty then (s.pass dt).dec.streams.eraseIdx n
      else (s.pass dt).dec.streams.set n a.2)).refreshStreams)) ∧
  (∀ k src c s m, s.mayRun k 0x34 c → opOf 8 8 0 c.desc = true →
    let r := s.setPhase k .running
    let n := Desc.num c.desc 8 8 % 64
    let len := Desc.num c.desc 32 4
    let z := Config.imageBytes 1 len
    let tokens := (s.imageFor (Desc.byte c.desc 36) k).map Img.tokens
    Map.find s.dec.grams n = none → s.gramUsers n = 0 → r.readImage c.ctx (Desc.flag c.desc 9) (Desc.num c.desc 16 8) (Desc.num c.desc 24 8) len src = .inl m →
    (Gram.check m len tokens (decide (s.gramBytes - 0 + z ≤ s.rd .DEC_CFG_GRAM_MIB * 2 ^ 20)) = none → s.rsvFits 0 z = true →
      exec (.grammarLoadLoad k src) s = .next
        (((((r.rsvSwap 0 z).setGram n (some ⟨c.ctx, Desc.byte c.desc 36, m, z⟩)).showGram n).finish k .ok 0 z).sweepImages)) ∧
    (∀ e, Gram.check m len tokens (decide (s.gramBytes - 0 + z ≤ s.rd .DEC_CFG_GRAM_MIB * 2 ^ 20)) = some e →
      exec (.grammarLoadLoad k src) s = .next (((r.bump .DEC_CNT_COUNT 18 0 1).finish k .reservedNonzero 32 0 e).sweepImages))) ∧
  (∀ k c s g, s.mayRun k 0x34 c → opOf 8 8 1 c.desc = true → Map.find s.dec.grams (Desc.num c.desc 8 8 % 64) = some g → s.foreign c g.owner = false →
    s.gramUsers (Desc.num c.desc 8 8 % 64) = 0 → exec (.grammarLoadRemove k) s = .next
      (((((s.setPhase k .running).rsvSwap g.bytes 0).setGram (Desc.num c.desc 8 8 % 64) none).showGram (Desc.num c.desc 8 8 % 64)).finish k .ok)) ∧
  (∀ k c s x y, s.mayRun k 0x35 c → s.streamReady c = true → s.sessLive c = true → s.sess (Desc.handle c.desc) = some y → s.ownerRefuse y = none →
    s.stream (Desc.handle c.desc) = some x →
    let r := s.setPhase k .running
    let h := Desc.handle c.desc
    (opOf 8 8 1 c.desc = true → exec (.grammarBindUnbind k) s = .next
      (((r.updStream h fun x => { x with gram := none }).refreshStreams).finish k .ok)) ∧
    (∀ g m f n cnt, opOf 8 8 0 c.desc = true → s.spoolHere h = true → Map.find s.dec.grams (Desc.byte c.desc 16) = some g → s.imageFor x.conf.table k = some m →
      Gram.tokens g.data = Img.tokens m → Desc.num c.desc 20 4 ≤ y.spool.length →
      replay g.data m (Desc.num c.desc 20 4) ((y.spool.drop (Desc.num c.desc 20 4)).map SpoolEntry.token) (Gram.start g.data, []) GCnt.zero 0 = (.inl (f, n), cnt) →
      exec (.grammarBindBind k) s = .next
        ((((((r.bump .DEC_CNT_COUNT 16 0 cnt.stack).bump .DEC_CNT_COUNT 17 0 cnt.limit).updStream h fun x => { x with
          gram := some ⟨Desc.byte c.desc 16, f.1, f.2⟩ }).refreshStreams).finish k .ok 0 (confWord g.data f) n).sweepImages))) ∧
  (∀ lane ctx h s, lane < 32 → exec (.maskLaneFault lane ctx h) s =
    .next ((s.bump .DEC_CNT_COUNT 19 0 1).fenceLane .DEC_LANES_FENCED 32 1 lane ctx h))

/-- R290, R291, R293, R303, R305 to R307, R313 to R318. -/
def Obligations.RecallCommands : Prop :=
  (∀ k c s n, s.mayRun k 0x40 c → opOf 8 8 0 c.desc = true → s.evacuating = false → s.newIndexSlot = some n → bitAt (Desc.byte c.desc 25) 0 = false →
    let id := mkIndexId s.myId c.ctx n s.bootgen ((Map.find s.rcl.reuse n).getD 0)
    let ix : RIndex := ⟨id, Desc.num c.desc 16 2, Desc.byte c.desc 18, decide (Desc.byte c.desc 19 = 1), Desc.num c.desc 20 4, Desc.byte c.desc 24, false,
      none, none, [], [], 0, 0, [], 0, 0, none⟩
    let r := s.setPhase k .running
    let u : State := { r with tier := { r.tier with idxPages := Map.put r.tier.idxPages n [], regions := Map.del r.tier.regions (64 + n) } }
    exec (.indexCreateCreate k) s = .next ((u.setIndex n ix).finish k .ok 0 id ix.cap)) ∧
  (∀ k c s ix, s.mayRun k 0x40 c → opOf 8 8 1 c.desc = true → s.evacuating = false → s.indexIdle c = true →
    s.idxLive (fun c => Desc.handle c.desc) c = true → s.index (xSlot (Desc.handle c.desc)) = some ix →
    let n := xSlot (Desc.handle c.desc)
    let r := s.setPhase k .running
    let u := ((r.killItems fun i => decide (i.ix = some n)).emptyAll true n).dropParts n ix
    let v : State := { u with tier := { u.tier with idxPages := Map.del u.tier.idxPages n, regions := Map.del u.tier.regions (64 + n) } }
    let w := v.setRcl { v.rcl with indexes := Map.del v.rcl.indexes n, reuse := Map.put v.rcl.reuse n ((Map.find v.rcl.reuse n).getD 0 + 1) }
    exec (.indexCreateDestroy k) s = .next ((w.showIndex n).finish k .ok 0 (r.ownerPages true n).length)) ∧
  (∀ k src c s ix m, s.mayRun k 0x44 c → s.idxLive (fun c => Desc.handle c.desc) c = true → s.index (xSlot (Desc.handle c.desc)) = some ix →
    ix.held = 0 → Desc.num c.desc 40 8 = ix.partBytes (Desc.byte c.desc 16) → Desc.flag c.desc 9 = false → ix.cen = none → ix.prod = none →
    let r := s.setPhase k .running
    let n := xSlot (Desc.handle c.desc)
    let len := Desc.num c.desc 40 8
    r.readImage c.ctx (Desc.flag c.desc 8) (Desc.num c.desc 24 8) (Desc.num c.desc 32 8) len src = .inl m →
    (∀ e, badElement (Desc.byte c.desc 16) len m = some e → exec (.codebookLoad k src) s = .next (r.finish k .reservedNonzero 32 0 e)) ∧
    (badElement (Desc.byte c.desc 16) len m = none → r.rsvFits 0 len = true → exec (.codebookLoad k src) s = .next
      (((r.rsvSwap 0 len).setIndex n (if Desc.byte c.desc 16 = 0 then { ix with cen := some ⟨m, len, none⟩ } else { ix with prod := some ⟨m, len, none⟩ })).finish
        k .ok 0 len))) ∧
  (∀ k c s ix, s.mayRun k 0x41 c → s.idxLive idxField c = true → s.index (xSlot (idxField c)) = some ix → ix.refuse = none →
    (decide (Desc.byte c.desc 28 = 1) && ix.refine) = false →
    let r := s.setPhase k .running
    let n := xSlot (idxField c)
    let count := Desc.num c.desc 24 4
    (∀ metas, exec (.indexInsert k none metas) s = .next (r.takeSeq n ix fun q =>
      ⟨q, k, c.ctx, false, some (.retryLater, hintMs 1, 0), (metas.takeD count []).map fun m => m.headD 0, 0⟩)) ∧
    (∀ l metas b, ix.badItem (decide (Desc.byte c.desc 28 = 1)) (decide (Desc.byte c.desc 29 = 1)) (l.takeD count []) ((metas.takeD count []).map fun m => m.headD 0)
        (metas.takeD count []) = some b → exec (.indexInsert k (some l) metas) s = .next (r.takeSeq n ix fun q =>
      ⟨q, k, c.ctx, false, some (.reservedNonzero, b.1, b.2), (metas.takeD count []).map fun m => m.headD 0, 0⟩)) ∧
    (∀ l metas, ix.badItem (decide (Desc.byte c.desc 28 = 1)) (decide (Desc.byte c.desc 29 = 1)) (l.takeD count []) ((metas.takeD count []).map fun m => m.headD 0)
        (metas.takeD count []) = none → ix.refine = false → count ≤ min (s.rd .RCL_CTX_MAX_ENTRIES c.ctx - s.heldBy c.ctx) (2 ^ 32 - s.heldAll) →
      let items := (l.takeD count []).map (ix.item (decide (Desc.byte c.desc 28 = 1)) (decide (Desc.byte c.desc 29 = 1)))
      let q := ix.nextSeq + 1
      let ix2 := (items.zip (metas.takeD count [])).foldl (fun ix (p : NewItem × List Nat) => ix.insert q p.1 p.2) ix
      r.t1Used + (ix2.nextPage - ix.nextPage) ≤ r.t1Cap →
      let pages := (ix2.lists.filterMap fun (p : Nat × List RBlock) =>
        if ix.chain p.1 = p.2 then none else some ((p.2.filter fun b => b.entries.any fun e => decide (e.seq = q)).map RBlock.page)).flatten
      let err := items.foldl (fun a x => if f32Lt a x.err then x.err else a) 0
      let t := ((((r.setIndex n ix2).takeSeq n ix2 fun q =>
        ⟨q, k, c.ctx, false, none, (metas.takeD count []).map fun m => m.headD 0, err⟩).writePages true n .index pages).sinkIndex n)
      exec (.indexInsert k (some l) metas) s = .next
        ((t.addItem { Item.new .scan .recall c.ctx k 0 0 0 0 .ready with ix := some n }).winch r))) ∧
  (∀ k c s ix, s.mayRun k 0x42 c → s.idxLive idxField c = true → s.index (xSlot (idxField c)) = some ix → ix.refuse = none →
    let r := s.setPhase k .running
    let n := xSlot (idxField c)
    exec (.indexDelete k none) s = .next (r.takeSeq n ix fun q => ⟨q, k, c.ctx, true, some (.retryLater, hintMs 1, 0), [], 0⟩) ∧
    (∀ l, exec (.indexDelete k (some l)) s = .next (r.takeSeq n ix fun q => ⟨q, k, c.ctx, true, none, l.takeD (Desc.num c.desc 24 4) 0, 0⟩))) ∧
  (∀ x s ix, s.index (xSlot x) = some ix → (ix.id = x → exec (.indexCommit x) s = .next (s.commitNext (xSlot x))) ∧ (ix.id ≠ x → exec (.indexCommit x) s = .next s)) ∧
  (∀ k fl c s ix, s.mayRun k 0x43 c → s.idxLive idxField c = true → s.index (xSlot (idxField c)) = some ix → ix.ready = true →
    Desc.num c.desc 28 2 ≤ ix.nlist → Desc.num c.desc 32 4 ≤ ix.nlist → ix.failed = none →
    let r := s.setPhase k .running
    let nq := Desc.num c.desc 24 2
    exec (.recallQuery k none fl) s = .next (r.finish k .retryLater (hintMs 1)) ∧
    (∀ l, let qs := ((l.takeD nq []).zip (fl.takeD nq 0)).map fun (p : List Nat × Nat) =>
        ix.query (Desc.flag c.desc 8) (Desc.num c.desc 28 2) (Desc.num c.desc 32 4) (Desc.num c.desc 36 4) p.1 p.2
      let run : RRun := ⟨k, c.ctx, xSlot (idxField c), ix.cseq, Desc.num c.desc 26 2, Desc.num c.desc 28 2, Desc.num c.desc 32 4, Desc.num c.desc 30 2,
        Desc.num c.desc 56 8, 1, 0, qs⟩
      let a := ((r.bump .RCL_CNT_COUNT 0 0 nq).bump .RCL_CTX_CNT_COUNT c.ctx 1 nq).closeBad run
      let u := a.1.setRcl { a.1.rcl with runs := a.1.rcl.runs ++ [a.2] }
      exec (.recallQuery k (some l) fl) s = .next (if a.2.queries.all RQuery.closed then u.endRun a.2 else (u.formRound a.2 ix).winch u))) ∧
  (∀ dt k unread s r ix, (s.pass dt).run? k = some r → (s.pass dt).gore.items.any (runItem k) = false → (s.pass dt).index r.slot = some ix →
    let u := (s.pass dt).loseVecs r.slot (unread.map Prod.fst)
    let lost := u.lostVecs r.slot
    let a := r.queries.foldl (fun (a : State × List RQuery) q =>
      let b := a.1.roundQuery ix r lost a.2.length q
      (b.1, a.2 ++ [b.2])) (u, [])
    let r2 := { r with queries := a.2, round := r.round + 1 }
    let v := a.1.setRun r2
    exec (.queryRoundEnd dt k unread) s = .next (if r2.queries.all RQuery.closed then v.endRun r2 else (v.formRound r2 ix).winch v)) ∧
  (∀ n l s ix, s.index n = some ix → ix.failed = none →
    let es := chainEntries (ix.chain l)
    let dead := (es.filter fun e => e.reclaimable (s.floorSeq n ix)).length
    (dead ≠ 0 → s.rd .RCL_CFG_COMPACT_PCT * es.length ≤ dead * 100 →
      (s.gore.items.any fun i => runItem (2 ^ 60 + l) i && decide (i.ix = some n)) = false →
      exec (.compactionStart n l) s = .next
        ((s.addItem { Item.new .scan .recall (hCtx ix.id) (2 ^ 60 + l) 0 0 0 0 .ready with ix := some n }).winch s)) ∧
    (dead * 100 < s.rd .RCL_CFG_COMPACT_PCT * es.length → exec (.compactionStart n l) s = .next s) ∧
    (let done (o : ROld) : Bool := decide (o.list = l) && !(o.readers.any fun k => s.rcl.runs.any fun r => decide (r.cmd = k))
     exec (.compactionOldChainFree n l) s = .next
       (((((ix.olds.filter done).flatMap fun o => o.blocks.map RBlock.page).foldl (fun s p => s.emptyPage ⟨true, n, pageKey .index p⟩)
         (s.setIndex n { ix with olds := ix.olds.filter fun o => !done o }))).sweepVecs n))) ∧
  (∀ dt g n l s i ix, (s.pass dt).itemOn g = some i → i.kind = .scan → i.step = 2 ^ 60 + l → i.ix = some n → (s.pass dt).mayEnd i = true →
    let u := ((s.pass dt).bump .GORE_CNT_COUNT 3 0 1).dropItem i
    u.index n = some ix →
    let es := chainEntries (ix.chain l)
    let keep := es.filter fun e => !e.reclaimable (u.floorSeq n ix)
    let bs := packBlocks ix.cap (keep.length + 1) ix.nextPage keep
    let ix2 : RIndex := { ix with
      lists := if bs.isEmpty then Map.del ix.lists l else Map.put ix.lists l bs
      nextPage := ix.nextPage + bs.length
      olds := ix.olds ++ [⟨l, ix.chain l, (u.rcl.runs.filter fun r => decide (r.slot = n)).map RRun.cmd⟩] }
    exec (.itemEnd dt g) s = .next (((((((u.setIndex n ix2).writePages true n .index (bs.map RBlock.page)).mapWritten n).bump .RCL_CNT_COUNT 13 0 1).bump
      .RCL_CNT_COUNT 14 0 (es.length - keep.length))).winch (s.pass dt))) ∧
  (∀ k src c s m, s.mayRun k 0x46 c → opOf 8 8 0 c.desc = true → s.encIdle c = true →
    let r := s.setPhase k .running
    let n := Desc.handle c.desc % 16
    let len := Desc.num c.desc 32 8
    let z := Config.imageBytes 2 len
    Map.find s.rcl.helpers n = none → r.readImage c.ctx (Desc.flag c.desc 9) (Desc.num c.desc 16 8) (Desc.num c.desc 24 8) len src = .inl m →
    (∀ e, helperCheck m len = some e → exec (.helperLoadLoad k src) s = .next (r.finish k .reservedNonzero 32 0 e)) ∧
    (helperCheck m len = none → s.helperBytes - 0 + z ≤ s.rd .GORE_HELPER_T1_GIB * 2 ^ 30 → s.rsvFits 0 z = true →
      exec (.helperLoadLoad k src) s = .next ((((r.rsvSwap 0 z).lendPages [] false).setHelper n (some ⟨c.ctx, m, z, [], []⟩)).finish k .ok 0 z 0 0))) ∧
  (∀ k c s h, s.mayRun k 0x46 c → opOf 8 8 1 c.desc = true → s.encIdle c = true → Map.find s.rcl.helpers (Desc.handle c.desc % 16) = some h →
    let r := s.setPhase k .running
    (s.foreign c h.owner = true → exec (.helperLoadRemove k) s = .next (r.finish k .authFail 3)) ∧
    (s.foreign c h.owner = false → exec (.helperLoadRemove k) s = .next
      ((((r.rsvSwap h.bytes 0).lendPages h.t2 true).setHelper (Desc.handle c.desc % 16) none).finish k .ok))) ∧
  (∀ k c s m, s.mayRun k 0x45 c → s.helperFor (Desc.byte c.desc 16) k = some m →
    let r := s.setPhase k .running
    let ns := Desc.num c.desc 18 2
    (∀ offs, exec (.encoderRun k none offs) s = .next (r.finish k .retryLater (hintMs 1))) ∧
    (∀ l offs,
      let o := offs.takeD (ns + 1) 0
      let l' := l.takeD (o.getD ns 0) 0
      let len (i : Nat) : Nat := if decide (i = 0) && o.getD 0 0 != 0 then 0 else o.getD (i + 1) 0 - o.getD i 0
      (List.range ns).find? (fun i => decide (len i = 0) || decide (Img.u16 m 20 < len i) || decide (262144 < o.getD (i + 1) 0)) = none →
      l'.findIdx? (fun t => decide (Img.u32 m 16 ≤ t)) = none →
      let e : EncRun := ⟨k, Desc.byte c.desc 16, m, 0, (List.range ns).map fun i => (l'.drop (o.getD i 0)).take (len i)⟩
      let u := r.setRcl { r.rcl with encs := r.rcl.encs ++ [e] }
      exec (.encoderRun k (some l) offs) s = .next ((u.layerItem c.ctx e).winch u)))

/-- R323 to R329. -/
def Obligations.LendingAndExtents : Prop :=
  (∀ k c s, s.mayRun k 0x55 c → s.pool.lend = none →
    let r := s.setPhase k .running
    let t1 := Desc.num c.desc 16 4
    let t2 := Desc.num c.desc 20 4
    let rg := Desc.num c.desc 24 4
    (16384 * rg < s.storePages → exec (.lendSet k) s = .next (r.finish k .reservedNonzero 24)) ∧
    (s.storePages ≤ 16384 * rg →
      let run (room : Bool) : LendRun := ⟨k, Desc.flag c.desc 8, t1, t2, rg, s.now + 100000 * Desc.num c.desc 28 4, room⟩
      let u (room : Bool) := r.setPool { r.pool with lend := some (run room), t2Allow := Desc.num c.desc 32 8 }
      (s.lendRoom t1 rg = true → exec (.lendSet k) s = .next ((((((u true).wr .POOL_LEND_T1_GIB 0 0 t1).wr .POOL_LEND_T2_GIB 0 0 t2).wr
        .POOL_LEND_REGION_GIB 0 0 rg).askBack false t1).askBack true t2).checkLend) ∧
      (s.lendRoom t1 rg = false → exec (.lendSet k) s = .next
        (((((u false).press 1 none State.lendFits ((u false).allPages.length + 1) [] []).askBack false t1).askBack true t2).checkLend)))) ∧
  (∀ dt s r, (s.pass dt).pool.lend = some r →
    let p := s.pass dt
    let after (v : State) (revoked : Nat) : State :=
      if (v.putLend r.t1 r.t2 r.region).excess r = 0 then (v.putLend r.t1 r.t2 r.region).endLend r .ok 0 revoked
      else (v.putLend r.t1 r.t2 r.region).endLend r .partialDone 2 0
    let late := p.pool.extents.filter fun e => e.asked && !e.revoked
    let forced := ((late.foldl State.zeroExtent
      (p.setPool { p.pool with extents := p.pool.extents.map fun e => if e.asked then { e with revoked := true } else e })).bump
        .POOL_CNT_COUNT 8 0 late.length).refreshLend
    (p.now < r.due → exec (.lendReclaimTimeout dt) s = .next p) ∧
    (r.due ≤ p.now → r.force = false →
      (r.room = true ∨ p.lendRoom r.t1 r.region = true → exec (.lendReclaimTimeout dt) s = .next (after p 0)) ∧
      (r.room = false → p.lendRoom r.t1 r.region = false →
        exec (.lendReclaimTimeout dt) s = .next ((p.putLend (p.reached r).1 r.t2 (p.reached r).2).endLend r .partialDone 1 0))) ∧
    (r.due ≤ p.now → r.force = true →
      (r.room = true ∨ forced.lendRoom r.t1 r.region = true → exec (.lendReclaimTimeout dt) s = .next (after forced late.length)) ∧
      (r.room = false → forced.lendRoom r.t1 r.region = false →
        exec (.lendReclaimTimeout dt) s = .next ((forced.putLend (forced.reached r).1 r.t2 (forced.reached r).2).endLend r .partialDone 1 late.length)))) ∧
  (∀ port ld gib s, port < 4 → s.on .POOL_PORT_STS_UP port = true → s.rd .POOL_PORT_STS_MODE port = 2 → ld < s.lds port →
    let base := (s.pool.extents.filter fun e => decide (e.port = port) && decide (e.ld = ld)).foldl (fun a e => max a (e.base + e.gib)) 0
    let grant (t2 : Bool) (parts : List (Nat × Nat)) : State :=
      let e : Extent := ⟨port, ld, base, gib, t2, false, false, s.pool.nextExt, parts⟩
      let u := s.setPool { s.pool with extents := s.pool.extents ++ [e], nextExt := s.pool.nextExt + 1 }
      ((((u.lendPages parts false).zeroExtent e).refreshLend).bump .POOL_CNT_COUNT 6 0 1).emit (.fm port ld 0 base)
    let refuse := (s.bump .POOL_CNT_COUNT 9 0 1).emit (.fm port ld 1 0)
    (s.granted false + gib ≤ s.rd .POOL_LEND_T1_GIB → exec (.extentAddRequest port ld gib) s = .next (grant false [])) ∧
    (s.rd .POOL_LEND_T1_GIB < s.granted false + gib → s.granted true + gib ≤ s.rd .POOL_LEND_T2_GIB →
      (∀ parts, s.takeT2 gib = some parts → exec (.extentAddRequest port ld gib) s = .next (grant true parts)) ∧
      (s.takeT2 gib = none → exec (.extentAddRequest port ld gib) s = .next refuse)) ∧
    (s.rd .POOL_LEND_T1_GIB < s.granted false + gib → s.rd .POOL_LEND_T2_GIB < s.granted true + gib →
      exec (.extentAddRequest port ld gib) s = .next refuse)) ∧
  (∀ port ld base s e, s.pool.extents.find? (fun e => decide (e.port = port) && decide (e.ld = ld) && decide (e.base = base)) = some e →
    let u := s.zeroExtent e
    exec (.extentReleasedByBorrower port ld base) s = .next
      ((((u.setPool { u.pool with extents := u.pool.extents.filter fun x => x.seq != e.seq }).lendPages e.parts true).refreshLend).checkLend)) ∧
  (∀ o s, o < 32 → s.on .TIER_OBJ_A_PRESENT o = true → bitAt s.pool.leaving o = false →
    let u := ((s.setPool { s.pool with leaving := setBitN s.pool.leaving o true }).vacate o).dropCleanIn o
    ∃ v, (v = u ∨ v = u.bump .POOL_CNT_COUNT 10 0 1) ∧ exec (.extentReleaseRequest o) s = .next v.checkLeaving) ∧
  (∀ port dpa bytes kind lender s, port < 4 → s.on .POOL_PORT_STS_UP port = true → s.rd .POOL_PORT_STS_MODE port = 1 →
    ((∀ o, o < 32 → s.on .TIER_OBJ_A_PRESENT o = true) →
      exec (.poolRangeAppears port dpa bytes kind lender) s = .next (s.bump .POOL_CNT_COUNT 5 0 1)) ∧
    (∀ o, (List.range 32).find? (fun o => !s.on .TIER_OBJ_A_PRESENT o) = some o →
      (bytes < 2 ^ 30 ∨ dpa % 2 ^ 28 ≠ 0 ∨ bytes % 2 ^ 28 ≠ 0 → exec (.poolRangeAppears port dpa bytes kind lender) s = .next (s.bump .POOL_CNT_COUNT 5 0 1)) ∧
      (2 ^ 30 ≤ bytes → dpa % 2 ^ 28 = 0 → bytes % 2 ^ 28 = 0 →
        let u := s.findObject o port 0 (if kind = 2 then 0 else bytes / 65536)
        let v := (u.wr .POOL_OBJ_WINDOW o 0 (b2n (decide (kind = 2)))).wr .POOL_OBJ_HOME o 0 (if kind = 2 then lender else 0)
        let w := (v.wr .POOL_OBJ_LENDER o 0 (b2n (decide (kind = 1)))).wr .POOL_OBJ_LENDER_ID o 0 (if kind = 1 then lender else 0)
        exec (.poolRangeAppears port dpa bytes kind lender) s = .next ((w.wr .TIER_OBJ_A_EN o 0 (b2n (kind != 2))).refreshCaps)))) ∧
  (∀ port ld addr s ecc bad, port < 4 → s.on .POOL_PORT_STS_UP port = true → s.rd .POOL_PORT_STS_MODE port = 2 →
    let here (e : Extent) : Bool := decide (e.port = port) && decide (e.ld = ld) && decide (e.base * 2 ^ 30 ≤ addr) && decide (addr < (e.base + e.gib) * 2 ^ 30)
    let key := lineKey port ld (addr / 64)
    let reads (store : Bool) (t : State) : Prop := exec (.cxlMemRequest port ld addr store ecc bad none) s = .next t
    let writes (store : Bool) (v : Nat) (t : State) : Prop := exec (.cxlMemRequest port ld addr store ecc bad (some v)) s = .next t
    (s.on .POOL_PORT_STS_VIRAL_OUT port = true → ∀ store,
      reads store ((s.bump .POOL_CNT_COUNT 11 0 1).emit (.cxl port true 0)) ∧ ∀ v, writes store v (s.bump .POOL_CNT_COUNT 11 0 0)) ∧
    (s.on .POOL_PORT_STS_VIRAL_OUT port = false →
      (reads true (((s.emit (.cxl port false (s.free % 2 ^ 512))).tickFree).bump .POOL_CNT_COUNT 13 0 64) ∧
        ∀ v, writes true v (s.bump .POOL_CNT_COUNT 12 0 1)) ∧
      (s.pool.extents.find? here = none →
        reads false ((s.bump .POOL_CNT_COUNT 12 0 1).emit (.cxl port true 0)) ∧ ∀ v, writes false v (s.bump .POOL_CNT_COUNT 12 0 1)) ∧
      (∀ e, s.pool.extents.find? here = some e →
        (e.revoked = true → reads false (s.emit (.cxl port true 0)) ∧ ∀ v, writes false v s) ∧
        (e.revoked = false → e.t2 = true → bad = true ∨ (e.parts.any fun p => s.on .TIER_OBJ_A_FAILED p.1) = true →
          reads false ((s.bump .POOL_CNT_COUNT 11 0 1).emit (.cxl port true 0)) ∧ ∀ v, writes false v (s.bump .POOL_CNT_COUNT 11 0 0)) ∧
        (e.revoked = false → e.t2 = false ∨ (bad = false ∧ (e.parts.any fun p => s.on .TIER_OBJ_A_FAILED p.1) = false) →
          (ecc = false → reads false ((s.emit (.cxl port false ((Map.find s.pool.lines key).getD 0))).bump .POOL_CNT_COUNT 13 0 64)) ∧
          (ecc = true → reads false (((s.emit (.fm port ld 3 addr)).bump .POOL_CNT_COUNT 11 0 1).emit (.cxl port true 0))) ∧
          ∀ v, v % 2 ^ 512 ≠ 0 → writes false v
            ((s.setPool { s.pool with lines := Map.put s.pool.lines key (v % 2 ^ 512) }).bump .POOL_CNT_COUNT 13 0 64)))))

/-- R331 to R339. -/
def Obligations.Regions : Prop :=
  (∀ k c s n, s.mayRun k 0x50 c → opOf 8 8 0 c.desc = true → s.evacuating = false →
    (List.range 4096).find? (fun n => !Map.has s.pool.regions n) = some n →
    let rid := 2 ^ 60 + s.myId * 2 ^ 50 + c.ctx * 2 ^ 44 + n * 2 ^ 32 + s.bootgen * 2 ^ 26 + (Map.find s.pool.reuse n).getD 0 % 2 ^ 26
    exec (.regionMapCreate k) s = .next
      (((s.setPhase k .running).putRegion ⟨rid, c.ctx, Desc.num c.desc 16 8, Desc.num c.desc 24 8, 0, [], [], [], (0, 0)⟩).finish k .ok 0 rid)) ∧
  (∀ k c s x, s.mayRun k 0x50 c → opOf 8 8 1 c.desc = true → s.evacuating = false → s.regionRefuse c (Desc.handle c.desc) true = none →
    rHome (Desc.handle c.desc) = s.myId → s.regionHere (Desc.handle c.desc) = some x →
    let r := s.setPhase k .running
    (x.holds ≠ [] → exec (.regionMapDestroy k) s = .next (r.finish k .reservedNonzero 2 0 x.holds.length)) ∧
    (x.holds = [] → x.staged = [] →
      let n := rSlot x.id
      let u := r.setPool { r.pool with regions := Map.del r.pool.regions n, reuse := Map.put r.pool.reuse n ((Map.find r.pool.reuse n).getD 0 + 1) }
      exec (.regionMapDestroy k) s = .next ((u.showRegion n).finish k .ok 0 (x.gens.foldl (fun a g => a + pages64k g.bytes) 0)))) ∧
  (∀ k c s, s.mayRun k 0x51 c → s.regionRefuse c (Desc.handle c.desc) true = none →
    let r := s.setPhase k .running
    let rid := Desc.handle c.desc
    let e := Desc.num c.desc 16 4
    let b := Desc.num c.desc 32 8
    (e = 0xFFFFFFFF → exec (.regionPublish k) s = .next (r.finish k .reservedNonzero 16)) ∧
    (e ≠ 0xFFFFFFFF → b = 0 → exec (.regionPublish k) s = .next (r.finish k .reservedNonzero 32)) ∧
    (e ≠ 0xFFFFFFFF → b ≠ 0 →
      let u := r.setPool { r.pool with pubs := r.pool.pubs ++ [⟨k, rid, e, b, .opening, s.now⟩] }
      exec (.regionPublish k) s = .next (if rHome rid = s.myId then u else u.send (rHome rid) 4 .publishOpen rid 0 k s.myId [e, b]))) ∧
  (∀ src tok rid e b s r, s.selfOk src tok rid .opening = true → s.regionHere rid = some r →
    (r.gen ≠ e → exec (.publishOpenReceived src tok rid e b) s = .next ((s.bump .POOL_CNT_COUNT 1 0 1).pubReply src tok rid 1 r.gen)) ∧
    (r.gen = e → b = 0 ∨ r.maxBytes < b → exec (.publishOpenReceived src tok rid e b) s = .next (s.pubReply src tok rid 5 r.gen)) ∧
    (r.gen = e → b ≠ 0 → b ≤ r.maxBytes → r.gens.length < 8 → s.storePages + pages64k b ≤ 16384 * s.rd .POOL_LEND_REGION_GIB →
      let u := s.putRegion { r with staged := r.staged ++ [⟨src, tok, e, b, none, s.now⟩] }
      exec (.publishOpenReceived src tok rid e b) s = .next
        (if src = u.myId then u.updPub tok fun p => { p with phase := .sending } else u.send src 4 .publishReady rid 0 tok 0 []))) ∧
  (∀ tok s p, s.pub tok = some p → p.phase = .sending →
    exec (.publishReadyReceived tok none) s = .next (s.endPub p .retryLater (hintMs 1) 0 0) ∧
    (∀ n, rHome p.region ≠ s.myId →
      exec (.publishReadyReceived tok (some n)) s = .next
        (((s.updPub tok fun q => { q with phase := .committing, sent := s.now }).send (rHome p.region) 4 .publishContent p.region 0 tok s.myId
          [n % 2 ^ (8 * p.bytes)]).send (rHome p.region) 4 .publishCommit p.region 0 tok s.myId [p.expect]))) ∧
  (∀ src tok rid e d s r, s.selfOk src tok rid .committing = true → s.regionHere rid = some r → r.last ≠ (src + 1, tok) →
    (r.staged.find? (fun g => decide (g.flewick = src) && decide (g.token = tok)) = none →
      exec (.publishCommitReceived src tok rid e d) s = .next ((s.bump .POOL_CNT_COUNT 1 0 1).pubReply src tok rid 2 r.gen)) ∧
    (∀ g, r.staged.find? (fun g => decide (g.flewick = src) && decide (g.token = tok)) = some g →
      let r' := { r with staged := r.staged.filter fun x => !(decide (x.flewick = src) && decide (x.token = tok)) }
      (r.gen ≠ e → exec (.publishCommitReceived src tok rid e d) s = .next (((s.putRegion r').bump .POOL_CNT_COUNT 1 0 1).pubReply src tok rid 2 r.gen)) ∧
      (r.gen = e → exec (.publishCommitReceived src tok rid e d) s = .next
        (((s.freeGens { r' with gen := e + 1, gens := r.gens ++ [⟨e + 1, g.bytes, g.data.getD d % 2 ^ (8 * g.bytes)⟩], last := (src + 1, tok) }).bump
          .POOL_CNT_COUNT 0 0 1).pubReply src tok rid 0 (e + 1))))) ∧
  (∀ tok gen s p, s.pub tok = some p →
    exec (.publishAnswerReceived tok 0 gen) s = .next (s.endPub p .ok 0 gen 0) ∧
    exec (.publishAnswerReceived tok 1 gen) s = .next (s.endPub p .regionConflict 1 0 gen) ∧
    exec (.publishAnswerReceived tok 2 gen) s = .next (s.endPub p .regionConflict 2 0 gen) ∧
    exec (.publishAnswerReceived tok 3 gen) s = .next (s.endPub p .retryLater (hintMs 1) 0 0) ∧
    exec (.publishAnswerReceived tok 4 gen) s = .next (s.endPub p .badHandle 0 0 0)) ∧
  (∀ dt tok s p, (s.pass dt).pub tok = some p → p.phase = .committing → rHome p.region ≠ (s.pass dt).myId →
    let u := s.pass dt
    (p.sent + 100000 ≤ u.now → exec (.publishCommitResend dt tok) s = .next
      ((u.updPub tok fun q => { q with sent := u.now }).send (rHome p.region) 4 .publishCommit p.region 0 tok u.myId [p.expect])) ∧
    (u.now < p.sent + 100000 → exec (.publishCommitResend dt tok) s = .next u)) ∧
  (∀ dt slot src tok s r, Map.find (s.pass dt).pool.regions slot = some r →
    let u := s.pass dt
    let late (g : Staging) : Bool := decide (g.flewick = src) && decide (g.token = tok) && decide (g.since + 100000 * u.rd .POOL_CFG_STAGE_LIMIT_MS ≤ u.now)
    (r.staged.any late = true → exec (.stageLimitExpiry dt slot src tok) s = .next ((u.dropStaging r src tok).bump .POOL_CNT_COUNT 4 0 1)) ∧
    (r.staged.any late = false → exec (.stageLimitExpiry dt slot src tok) s = .next u)) ∧
  (∀ k c s x, s.mayRun k 0x52 c → opOf 8 8 0 c.desc = true → s.regionRefuse c (Desc.handle c.desc) false = none →
    rHome (Desc.handle c.desc) = s.myId → s.regionHere (Desc.handle c.desc) = some x →
    let r := s.setPhase k .running
    let rid := Desc.handle c.desc
    (x.attachCode c.ctx (s.on .HTI_CTX_MGMT c.ctx) = 2 → exec (.regionAttachAttach k) s = .next (r.finish k .authFail 3)) ∧
    (x.attachCode c.ctx (s.on .HTI_CTX_MGMT c.ctx) = 3 → exec (.regionAttachAttach k) s = .next (r.finish k .reservedNonzero 8 0 1)) ∧
    (x.attachCode c.ctx (s.on .HTI_CTX_MGMT c.ctx) = 0 →
      let u := r.takeHold x s.myId c.ctx
      let l := u.pool.attached.filter fun a => !(decide (a.ctx = c.ctx) && decide (a.region = rid))
      let v := u.setPool { u.pool with attached := l ++ [⟨c.ctx, rid, x.gen, x.genBytes x.gen, none⟩] }
      exec (.regionAttachAttach k) s = .next
        ((v.bump .POOL_CNT_COUNT 2 0 1).finish k .ok 0 (x.gen + (x.genBytes x.gen + 1023) / 1024 * 2 ^ 32) 0xFFFFFFFF))) ∧
  (∀ k c s, s.mayRun k 0x52 c → opOf 8 8 1 c.desc = true → s.regionRefuse c (Desc.handle c.desc) false = none →
    exec (.regionAttachDetach k) s = .next
      (((s.setPhase k .running).detachAll fun a => decide (a.ctx = c.ctx) && decide (a.region = Desc.handle c.desc)).finish k .ok)) ∧
  (∀ src tok rid s r, s.regionHere rid = some r →
    (∀ holder ctx mgmt, r.attachCode ctx mgmt = 0 → exec (.regionHoldMessageReceived src tok rid (.take holder ctx mgmt none)) s = .next
      ((s.takeHold r src holder).send src 4 .holdAnswer rid 0 tok 0 [0, r.gen, r.genBytes r.gen])) ∧
    (∀ holder ctx mgmt, r.attachCode ctx mgmt ≠ 0 → exec (.regionHoldMessageReceived src tok rid (.take holder ctx mgmt none)) s = .next
      (s.send src 4 .holdAnswer rid 0 tok 0 [r.attachCode ctx mgmt, r.gen, r.genBytes r.gen])) ∧
    (∀ holder, exec (.regionHoldMessageReceived src tok rid (.release holder)) s = .next (s.dropHold r src holder)) ∧
    (r.holds ≠ [] → exec (.regionHoldMessageReceived src tok rid .destroy) s = .next (s.send src 4 .regionAnswer rid 0 tok 0 [4, r.holds.length])))

/-- R342 to R345, R348, R350, R352 to R355, R364, R367, R380. -/
def Obligations.FramesAndLinks : Prop :=
  (∀ p f s, p < 8 → s.on .RING_PORT_STS_UP p = true → f.dst = s.myId →
    let u := s.bump .RING_PORT_CNT_COUNT p 7 (frameBytes f)
    let k := flowOf f
    (f.vc = 3 ∨ 7 ≤ f.vc → exec (.ringFrameReceived p f) s = .next (u.bump .RING_CNT_COUNT 8 0 1)) ∧
    (f.vc < 7 → f.vc ≠ 3 → u.tagGood f = false → exec (.ringFrameReceived p f) s = .next ((u.bump .RING_CNT_COUNT 4 0 1).loseFrame f)) ∧
    (f.vc < 7 → f.vc ≠ 3 → u.tagGood f = true → u.bit .CTL_CTX_RST_CTX f.ctx = true → exec (.ringFrameReceived p f) s = .next (u.loseFrame f)) ∧
    (f.vc < 7 → f.vc ≠ 3 → u.tagGood f = true → u.bit .CTL_CTX_RST_CTX f.ctx = false → f.vc = 0 ∨ (u.ringCfg f.vc f.ctx).mode = 0 → (u.flow k f.boot).held = [] → f.seq = (u.flow k f.boot).next →
      exec (.ringFrameReceived p f) s = .next
        (((u.deliver f 3).setFlow k { u.flow k f.boot with next := f.seq + 1 }).drainFlow k 1))) ∧
  (∀ p f s, p < 8 → s.on .RING_PORT_STS_UP p = true → f.dst ≠ s.myId →
    let u := s.bump .RING_PORT_CNT_COUNT p 7 (frameBytes f)
    (f.vc = 3 ∨ 7 ≤ f.vc ∨ 63 ≤ f.hops → exec (.ringFrameForward p f) s = .next (u.bump .RING_CNT_COUNT 8 0 1)) ∧
    (f.vc ≠ 3 → f.vc < 7 → f.hops < 63 →
      let n := u.nextPort p f
      let f' := { f with hops := f.hops + 1, dateline := if n.2 then false else f.dateline }
      let v := (u.bump .RING_CNT_COUNT 2 0 1).bump .RING_CNT_COUNT 3 0 (frameBytes f')
      exec (.ringFrameForward p f) s = .next (v.setRing { v.ring with
        transit := putQ v.ring.transit (n.1 * 8 + f.vc) (v.transitQ (n.1 * 8 + f.vc) ++ [⟨f', chargedLen f' (v.inForce .SHP_PORT_OVH n.1), v.now, 0⟩]) }))) ∧
  (∀ p s, p < 8 → s.on .RING_PORT_STS_UP p = true →
    let u := s.bump .RING_PORT_CNT_COUNT p 1 1
    exec (.linkFrameError p true false) s = .next u ∧
    exec (.linkFrameError p true true) s = .next
      ((u.setRing { u.ring with replays := Map.put u.ring.replays p ((Map.find u.ring.replays p).getD 0 + 1) }).bump .RING_PORT_CNT_COUNT p 2 1) ∧
    (∀ lanes fails,
      let v := (s.bump .RING_PORT_CNT_COUNT p 3 1).wr .RING_PORT_STS_LANE_FAIL p 0 fails
      let w := v.setRing { v.ring with replays := Map.del v.ring.replays p }
      (lanes = 8 ∨ lanes = 4 → exec (.ringLinkRetrain p lanes fails) s = .next (w.wr .RING_PORT_STS_WIDTH p 0 lanes)) ∧
      (lanes ≠ 8 → lanes ≠ 4 → exec (.ringLinkRetrain p lanes fails) s = .next (w.linkDown p))) ∧
    (let v := (((s.wr .RING_PORT_STS_UP p 0 0).wr .RING_PORT_STS_WIDTH p 0 0).bump .RING_PORT_CNT_COUNT p 4 1).wrBit .CTL_READY_RING 0 p false
     let mine := v.ring.locals.filter fun (q : Nat × List QFrame) => decide (q.1 / 512 = p)
     let w := v.setRing { v.ring with
       locals := v.ring.locals.filter fun (q : Nat × List QFrame) => q.1 / 512 != p, short := setBitN v.ring.short p false, replays := Map.del v.ring.replays p }
     exec (.ringLinkDown p) s = .next (mine.foldl (fun s (q : Nat × List QFrame) => q.2.foldl (fun s x => s.routeFrame x.f) s) w))) ∧
  (∀ p b s, p < 8 → s.boot.stage ≠ .off → s.present? p ≠ b →
    let u := (s.wr .RING_PORT_STS_PRESENT p 0 (b2n b)).bump .CTL_PIN_CNT_COUNT 3 0 1
    (b = true → exec (.ringCablePlug p b) s = .next u) ∧
    (b = false → u.bypass (pairOf p) = 1 → exec (.ringCablePlug p b) s = .next (u.setBypass (pairOf p) 0)) ∧
    (b = false → u.bypass (pairOf p) ≠ 1 → exec (.ringCablePlug p b) s = .next (u.linkDown p))) ∧
  (∀ p peer q lanes fails s, p < 8 → s.on .RING_STS_CFG_BAD = false → s.bypass (pairOf p) = 2 → s.on .RING_PORT_CTL_EN p = true → s.present? p = true →
    (portY p = true → s.dimY ≠ 1) → (portY p = false → s.dimX ≠ 1) →
    let q0 : State := { s with fab := { s.fab with quiet := setBitN s.fab.quiet p false } }
    let u := (q0.wr .RING_PORT_STS_PEER p 0 peer).wr .RING_PORT_STS_LANE_FAIL p 0 fails
    let lined := if portY p then peer % 32 = s.myId % 32 else peer / 32 = s.myId / 32
    let opposite := q = p + 1 ∧ p % 2 = 0 ∨ q + 1 = p ∧ p % 2 = 1
    (¬ (lined ∧ opposite) → exec (.ringPortTrained p peer q lanes fails) s = .next (u.wr .RING_PORT_STS_MISCABLED p 0 1)) ∧
    (lined → opposite → lanes ≠ 8 → lanes ≠ 4 → exec (.ringPortTrained p peer q lanes fails) s = .next (u.linkDown p)) ∧
    (lined → opposite → lanes = 8 ∨ lanes = 4 →
      let v := ((u.wr .RING_PORT_STS_MISCABLED p 0 0).wr .RING_PORT_STS_UP p 0 1).wr .RING_PORT_STS_WIDTH p 0 lanes
      exec (.ringPortTrained p peer q lanes fails) s = .next ((((v.wrBit .CTL_READY_RING 0 p true).unadmit .ring p).sendHello peer).reroute))) ∧
  (∀ dt src c v s f h t, Map.find (s.pass dt).ring.rx (flowKey src c v) = some f → f.held = h :: t →
    let u := s.pass dt
    (f.next < h.f.seq → h.at_ + 100 * u.inForce .RING_CFG_GAP_US ≤ u.now → exec (.reorderGapTimeout dt src c v) s = .next
      (((u.bump .RING_CNT_COUNT 5 0 (h.f.seq - f.next)).setFlow (flowKey src c v) { f with next := h.f.seq }).drainFlow (flowKey src c v) (f.held.length + 1))) ∧
    (u.now < h.at_ + 100 * u.inForce .RING_CFG_GAP_US → exec (.reorderGapTimeout dt src c v) s = .next u)) ∧
  (∀ dt s,
    let u := s.pass dt
    let old (e : RFrame × Nat) : Bool := decide (e.2 + 100000 * u.inForce .RING_CFG_HOLD_MS ≤ u.now)
    let gone := u.ring.unrouted.filter old
    exec (.routeHoldTimeout dt) s = .next
      (gone.foldl (fun s e => if e.1.vc = 4 then s.regionLost (flowKey e.1.dst e.1.ctx 4) e.1.seq else s)
        ((u.setRing { u.ring with unrouted := u.ring.unrouted.filter fun e => !old e }).bump .RING_CNT_COUNT 7 0 gone.length))) ∧
  (∀ src c v seq hint s,
    let u := s.bump .SHP_CNT_COUNT 7 0 1
    (v ≠ 4 → exec (.policeNackReceived src c v seq hint) s = .next u) ∧
    (v = 4 → hint < 2 ^ 16 → exec (.policeNackReceived src c v seq hint) s = .next (u.regionLost (flowKey src c 4) seq)))

/-- R369, R371 to R374, R380 to R385. -/
def Obligations.Shaping : Prop :=
  (∀ dt s,
    let p := s.pass dt
    let u := p.applyShp
    let v := (u.setRing { u.ring with setters := [], ticks := u.ring.ticks + 1 }).addCredit.remeter
    (p.atRefill = true → exec (.refillInstant dt) s = .next (u.ring.setters.foldl (fun s k => s.finish k .ok 0 (s.now % 2 ^ 48)) v)) ∧
    (p.atRefill = false → exec (.refillInstant dt) s = .next s)) ∧
  (∀ dt port credit s, port < 8 → (s.pass dt).on .RING_PORT_STS_UP port = true → bitAt (s.pass dt).fab.quiet port = false →
    let t := s.pass dt
    let w := (t.ring.locals.any fun (q : Nat × List QFrame) => decide (q.1 / 512 = port) && (q.2.head?.elim false fun h => !t.hasCredit port credit h)) ||
      t.ring.transit.any fun (q : Nat × List QFrame) => decide (q.1 / 8 = port) && (q.2.head?.elim false fun h => !t.hasCredit port credit h)
    let a := t.setRing { t.ring with short := setBitN t.ring.short port w }
    let picks := (List.range 8).filterMap fun v => (a.pickVc port v credit).map fun c => (v, c)
    let u := a.setRing { a.ring with deficit := a.ring.deficit.filter fun (d : Nat × Nat) =>
      !(decide (d.1 / 8 = port)) || picks.any fun (x : Nat × Bool × Nat × QFrame) => decide (x.1 = d.1 % 8) }
    (picks = [] → exec (.portFrameStart dt port credit) s = .next u) ∧
    (∀ z v x, picks ≠ [] → (∀ y ∈ picks, u.isPriv y.1 = false) →
      u.drr port 1 (picks.map fun (x : Nat × Bool × Nat × QFrame) => (x.1, x.2.2.2.l)) 64 ((Map.find u.ring.turn (port * 2 + 1)).getD 7) = (z, some v) →
      picks.find? (fun (x : Nat × Bool × Nat × QFrame) => decide (x.1 = v)) = some x →
      exec (.portFrameStart dt port credit) s = .next ((z.depart port v x.2).unblock)) ∧
    (∀ z v x, picks ≠ [] → (∀ y ∈ picks, u.isPriv y.1 = true) →
      u.drr port 0 (picks.map fun (x : Nat × Bool × Nat × QFrame) => (x.1, x.2.2.2.l)) 64 ((Map.find u.ring.turn (port * 2)).getD 7) = (z, some v) →
      picks.find? (fun (x : Nat × Bool × Nat × QFrame) => decide (x.1 = v)) = some x →
      exec (.portFrameStart dt port credit) s = .next
        (((z.setPcap port (max (z.pcap port - (x.2.2.2.l : Int) * 1000) 0)).depart port v x.2).unblock))) ∧
  (∀ dt src ctx vc s f, Map.find (s.pass dt).ring.rx (flowKey src ctx vc) = some f →
    let u := s.pass dt
    let due (h : HeldFrame) : Bool := decide (h.mode = 1) && decide (h.at_ + 100 * u.inForce .SHP_VC_DEFER_US vc ≤ u.now)
    (∀ h, f.held.find? due = some h → exec (.deferTimeout dt src ctx vc) s = .next ((u.bump .SHP_CNT_COUNT 4 0 1).undefer (flowKey src ctx vc) h.f.seq 2)) ∧
    (f.held.find? due = none → exec (.deferTimeout dt src ctx vc) s = .next u)) ∧
  (∀ dt s, (s.pass dt).atRefill = true → (s.pass dt).inForce .SHP_SAMPLE_EN ≠ 0 →
    let u := s.pass dt
    (u.ring.ticks < u.inForce .SHP_SAMPLE_TICKS → exec (.queueSampleTick dt) s = .next u) ∧
    (u.inForce .SHP_SAMPLE_TICKS ≤ u.ring.ticks →
      let a := (List.range 4096).foldl (fun s q => s.sampleQueue q (s.localQ q)) u
      let b := (List.range 64).foldl (fun s q => s.sampleQueue (4096 + q) (s.transitQ q)) a
      exec (.queueSampleTick dt) s = .next ((b.setRing { b.ring with ticks := 0 }).bump .SHP_CNT_COUNT 9 0 1))) ∧
  (∀ k c s, s.mayRun k 0x62 c →
    let r := s.setPhase k .running
    let i := Desc.byte c.desc 16
    let j := Desc.byte c.desc 17
    let a := Desc.num c.desc 20 4
    (bitsOf (Desc.flags c.desc) 9 8 = 0 →
      let u := ((r.shpPut .SHP_CTXQ_RATE i j a).shpPut .SHP_CTXQ_BURST_KIB i j (Desc.num c.desc 24 4)).shpPut .SHP_CTXQ_WEIGHT i j (Desc.byte c.desc 28)
      exec (.shaperSet k) s = .next (u.setRing { u.ring with setters := u.ring.setters ++ [k] })) ∧
    (bitsOf (Desc.flags c.desc) 9 8 = 1 →
      let u := r.shpWord [.SHP_VC_PRIV, .SHP_VC_WEIGHT, .SHP_VC_RED_ACT, .SHP_VC_DEFER_US] j 0 a
      exec (.shaperSet k) s = .next (u.setRing { u.ring with setters := u.ring.setters ++ [k] })) ∧
    (bitsOf (Desc.flags c.desc) 9 8 = 2 →
      let u := r.shpWord [.SHP_PORT_OVH, .SHP_PORT_PRIV_PCT, .SHP_PORT_PRIV_BURST_KIB] (Desc.byte c.desc 18) 0 a
      exec (.shaperSet k) s = .next (u.setRing { u.ring with setters := u.ring.setters ++ [k] }))) ∧
  (∀ k c s, s.mayRun k 0x63 c →
    let r := s.setPhase k .running
    let i := Desc.byte c.desc 16
    let v := Desc.byte c.desc 17
    let m := Desc.byte c.desc 18
    let n (o : Nat) : Nat := Desc.num c.desc o 4
    (Desc.flag c.desc 8 = true →
      let u := r.shpPut .SHP_RPOL_MODE v i m
      let w := if m = 0 then u else
        (((u.shpPut .SHP_RPOL_CIR v i (n 20)).shpPut .SHP_RPOL_CBS v i (n 24)).shpPut .SHP_RPOL_RATE2 v i (n 28)).shpPut .SHP_RPOL_BURST2 v i (n 32)
      exec (.policerSet k) s = .next (w.setRing { w.ring with setters := w.ring.setters ++ [k] })) ∧
    (Desc.flag c.desc 8 = false →
      let u := r.shpPut .SHP_HPOL_A_MODE i 0 m
      let w := if m = 0 then u else
        (((u.shpPut .SHP_HPOL_A_CIR i 0 (n 20)).shpPut .SHP_HPOL_A_CBS i 0 (n 24)).shpPut .SHP_HPOL_B_RATE2 i 0 (n 28)).shpPut .SHP_HPOL_B_BURST2 i 0 (n 32)
      exec (.policerSet k) s = .next (w.setRing { w.ring with setters := w.ring.setters ++ [k] })))

/-- R362 to R365, R367. -/
def Obligations.BypassesAndEvacuation : Prop :=
  (∀ k s, k < 4 → s.mayOpen? k = true → s.on .CTL_READY_CONTROL = true → exec (.bypassLoopbackTrained k) s = .next (s.startOpen k)) ∧
  (∀ p s, p < 8 → exec (.pauseReceived p) s = .next
    (({ s with fab := { s.fab with quiet := setBitN s.fab.quiet p true } } : State).sendRaw (s.beside p) 0 .pauseAck 0 0 p 0 [])) ∧
  (∀ k side s, k < 4 → side < 2 → s.bypass k = 1 →
    let u := s.setFab { s.fab with paused := (s.fab.paused.filter fun n => n != 2 * k + side) ++ [2 * k + side] }
    (u.allPaused k = true → exec (.pauseAckReceived k side) s = .next (u.setBypass k 2)) ∧
    (u.allPaused k = false → exec (.pauseAckReceived k side) s = .next u)) ∧
  (∀ dt k s, k < 4 → (s.pass dt).fab.evac = none →
    let u := s.pass dt
    let due := (Map.find u.fab.since k).getD 0 + 10000000
    (u.bypass k = 1 → due ≤ u.now → exec (.bypassOpeningTimeout dt k) s = .next (u.setBypass k 0)) ∧
    (u.now < due → exec (.bypassOpeningTimeout dt k) s = .next u)) ∧
  (∀ dt k s, k < 4 → (s.pass dt).bypass k = 2 →
    let u := s.pass dt
    let bad (p : Nat) : Bool := u.present? p && !u.on .RING_PORT_STS_UP p
    (bad (pairPorts k).1 = true ∨ bad (pairPorts k).2 = true → (Map.find u.fab.since k).getD 0 + 2000000 ≤ u.now →
      exec (.bypassOpenTrainTimeout dt k) s = .next
        ((((u.setBypass k 0).bump .RING_CNT_COUNT 13 0 1).linkDown (pairPorts k).1).linkDown (pairPorts k).2)) ∧
    (bad (pairPorts k).1 = false → bad (pairPorts k).2 = false → exec (.bypassOpenTrainTimeout dt k) s = .next u)) ∧
  (∀ dt k s, k < 4 → (s.pass dt).mayOpen? k = true → (s.pass dt).on .CTL_READY_CONTROL = true →
    let u := s.pass dt
    let due := (Map.find u.fab.since k).getD 0 + 100000000
    (due ≤ u.now → exec (.bypassRetryTimeout dt k) s = .next (u.startOpen k)) ∧
    (u.now < due → exec (.bypassRetryTimeout dt k) s = .next u)) ∧
  (∀ v s, s.blkOn .RING = true → exec (.ringBypForceClose v) s = .next
    ((List.range 4).foldl (fun s k => if bitAt v (8 + k) then s.closePair k else s) (s.wr .RING_BYP_FORCE_CLOSE 0 0 (fieldOf .RING_BYP_FORCE_CLOSE v)))) ∧
  (∀ dt s, exec (.retentionHeartbeatLoss dt) s = .next ((List.range 4).foldl State.closePair (s.pass dt))) ∧
  (∀ k c s, s.mayRun k 0x73 c →
    let r := s.setPhase k .running
    let l := Desc.num c.desc 16 4
    (∀ e, s.fab.evac = some e → exec (.evacuate k) s = .next (r.updEvac fun e => { e with cmd := e.cmd ++ [k] })) ∧
    (s.fab.evac = none → s.fab.gone = true → exec (.evacuate k) s = .next (r.finish k .ok)) ∧
    (s.fab.evac = none → s.fab.gone = false → exec (.evacuate k) s = .next
      (r.startEvac 1 [k] (decide (Desc.byte c.desc 20 = 1)) (if l = 0 then s.rd .RING_EVAC_LIMIT_S else l)))) ∧
  (∀ s e, s.fab.evac = some e → e.committed = true → e.asked = false →
    (s.evacDone = true → exec .evacuationTransfersDone s = .next s.askLeft) ∧ (s.evacDone = false → exec .evacuationTransfersDone s = .next s)) ∧
  (∀ dt s e, (s.pass dt).fab.evac = some e → e.committed = true → e.asked = false →
    let u := s.pass dt
    (u.now < e.due → exec (.evacuationLimitExpiry dt) s = .next u) ∧
    (e.due ≤ u.now →
      let late := u.pool.extents.filter fun x => !x.revoked
      let v := late.foldl State.zeroExtent (u.setPool { u.pool with extents := u.pool.extents.map fun x => { x with revoked := true } })
      exec (.evacuationLimitExpiry dt) s = .next (((v.bump .POOL_CNT_COUNT 8 0 late.length).refreshLend).askLeft)))

/-- R356 to R360. -/
def Obligations.FabricMap : Prop :=
  (∀ member leader ids s, s.boot.stage = .configured → s.on .RING_STS_CFG_BAD = false → s.fab.gone = false → s.isMember s.myId = false →
    let heard := ids.foldl (fun (m : Map Nat) (e : Nat × Nat × Nat) =>
      if e.1 = s.myId then m else Map.put m e.1 (e.2.1 % 64 + 64 * e.2.2)) s.fab.heard
    let u := s.setFab { s.fab with heard := heard }
    let v := if heard = s.fab.heard then u else u.helloAll
    (member = true → exec (.helloReceived member leader ids) s = .next (v.sendLink leader .join 0 v.myId v.bootgen [v.linkBits])) ∧
    (member = false → exec (.helloReceived member leader ids) s = .next v)) ∧
  (∀ dt s, (s.pass dt).inFabric = true → (s.pass dt).fab.members = [] → (s.pass dt).fab.change = none → (s.pass dt).noKey = false →
    let u := s.pass dt
    (u.fab.controlAt + 100000000 * u.rd .RING_MAP_CFG_FORM_S ≤ u.now → u.rd .RING_MAP_CFG_EXPECT < 2 * (u.fab.heard.length + 1) →
      (∀ e ∈ u.fab.heard, u.myId < e.1) →
      exec (.mapFormTimeout dt) s = .next ((u.startChange (MapEdit.joined u.myId u.bootgen u.linkBits ::
        u.fab.heard.map fun (e : Nat × Nat) => MapEdit.joined e.1 (e.2 % 64) (e.2 / 64)) true false).checkChange 1)) ∧
    (u.now < u.fab.controlAt + 100000000 * u.rd .RING_MAP_CFG_FORM_S → exec (.mapFormTimeout dt) s = .next u)) ∧
  (∀ src boot links s, s.leads = true → src ≠ s.myId → src < 1024 →
    (s.outcast src boot = true → exec (.joinReceived src boot links) s = .next (s.expel src)) ∧
    (s.outcast src boot = false → s.isMember src = false → exec (.joinReceived src boot links) s = .next (s.askChange (.joined src (boot % 64) links))) ∧
    (s.outcast src boot = false → s.isMember src = true → s.rd .RING_MAP_BOOTGEN src = boot % 64 →
      exec (.joinReceived src boot links) s = .next (s.sendWhole src)) ∧
    (s.outcast src boot = false → s.isMember src = true → s.rd .RING_MAP_BOOTGEN src ≠ boot % 64 →
      exec (.joinReceived src boot links) s = .next ((s.askChange (.lost src)).askChange (.joined src (boot % 64) links))) ∧
    exec (.mapRequestReceived src) s = .next (s.sendWhole src)) ∧
  (∀ src s c, s.fab.change = some c →
    (c.acks.contains src = true → exec (.mapChangeAckReceived src) s = .next s) ∧
    (c.acks.contains src = false → exec (.mapChangeAckReceived src) s = .next
      ((s.setFab { s.fab with change := some { c with acks := c.acks ++ [src] } }).checkChange (s.fab.todo.length + 1)))) ∧
  (∀ src epoch m s, s.inFabric = true →
    let f := s.setFab { s.fab with change := none, todo := [], acked := none, isolated := s.fab.isolated && s.fab.acked != some src }
    (epoch ≤ s.rd .RING_MAP_EPOCH_EPOCH → exec (.mapCommitReceived src epoch m) s = .next s) ∧
    (∀ l, m = .change l → epoch = s.rd .RING_MAP_EPOCH_EPOCH + 1 → s.isMember s.myId = true →
      exec (.mapCommitReceived src epoch m) s = .next (f.applyEdits epoch l)) ∧
    (∀ l, m = .change l → s.rd .RING_MAP_EPOCH_EPOCH + 1 < epoch →
      exec (.mapCommitReceived src epoch m) s = .next (s.sendMap src .mapRequest (s.rd .RING_MAP_EPOCH_EPOCH) s.myId 0 [])) ∧
    (∀ es inh leader, m = .whole es inh leader → s.rd .RING_MAP_EPOCH_EPOCH < epoch →
      let u := f.applyEdits epoch (s.wholeEdits es leader)
      let v := if u.fab.gone then u else u.takeWhole es inh
      exec (.mapCommitReceived src epoch m) s = .next (if s.isMember s.myId then v else v.helloAll))) ∧
  (∀ dt s, (s.pass dt).isMember (s.pass dt).myId = true → (s.pass dt).fab.gone = false →
    let u := (s.pass dt).wr .RING_MAP_LINKS (s.pass dt).myId 0 (s.pass dt).linkBits
    u.fab.change = none →
    (u.leads = false → exec (.mapBeatPeriod dt) s = .next u.sendBeat) ∧
    (u.leads = true → u.fab.isolated = true → exec (.mapBeatPeriod dt) s = .next u) ∧
    (u.leads = true → u.fab.isolated = false →
      let links := u.fab.members.flatMap fun (n : Nat) => [n, u.rd .RING_MAP_LINKS n]
      let v := (u.fab.members.filter fun n => n != u.myId).foldl (fun s (n : Nat) =>
        s.send n 0 .mapBeat 0 (s.rd .RING_MAP_EPOCH_EPOCH) s.myId 0 links) u
      v.leads = true → v.fab.change = none → exec (.mapBeatPeriod dt) s = .next v)) ∧
  (∀ src epoch links s, s.isMember s.myId = true → s.fab.gone = false → src ≠ s.myId → src = s.leader →
    let u := (s.setFab { s.fab with beat := s.now, isolated := false }).showMember
    (u.rd .RING_MAP_EPOCH_EPOCH < epoch → exec (.mapBeatReceived src epoch links) s = .next (u.sendMap src .mapRequest (u.rd .RING_MAP_EPOCH_EPOCH) u.myId 0 [])) ∧
    (epoch ≤ u.rd .RING_MAP_EPOCH_EPOCH → src = u.leader → exec (.mapBeatReceived src epoch links) s = .next
      ((links.foldl (fun s (e : Nat × Nat) => if s.isMember e.1 then s.wr .RING_MAP_LINKS e.1 0 e.2 else s) u).reroute))) ∧
  (∀ src boot links want s, s.leads = true → src ≠ s.myId → src < 1024 →
    (s.outcast src boot = true → exec (.heartbeatReceived src boot links want) s = .next (s.expel src)) ∧
    (s.outcast src boot = false → s.isMember src = true → s.rd .RING_MAP_BOOTGEN src = boot % 64 →
      let u := (s.setFab { s.fab with beats := Map.put s.fab.beats src s.now }).wr .RING_MAP_LINKS src 0 links
      (want = 0 → exec (.heartbeatReceived src boot links want) s = .next u) ∧
      (want = 1 → u.rd .RING_MAP_STATE src = 1 → exec (.heartbeatReceived src boot links want) s = .next (u.askChange (.leaving src))) ∧
      (want = 2 → u.rd .RING_MAP_STATE src = 2 → exec (.heartbeatReceived src boot links want) s = .next (u.askChange (.left src))))) ∧
  (∀ dt m s, (s.pass dt).leads = true → (s.pass dt).fab.isolated = false → m ≠ (s.pass dt).myId → (s.pass dt).isMember m = true →
    let u := s.pass dt
    let due := (Map.find u.fab.beats m).getD 0 + 100000 * u.rd .RING_MAP_CFG_LOSS_MS
    (due ≤ u.now → exec (.memberLossTimeout dt m) s = .next (u.askChange (.lost m))) ∧ (u.now < due → exec (.memberLossTimeout dt m) s = .next u)) ∧
  (∀ dt s, (s.pass dt).joined (s.pass dt).myId = true → (s.pass dt).fab.gone = false → (s.pass dt).leads = false → (s.pass dt).fab.change = none →
    let u := s.pass dt
    let due := u.fab.beat + 100000 * (((u.joinedIds.filter fun n => decide (n < u.myId)).length + 1) * u.rd .RING_MAP_CFG_LOSS_MS)
    (due ≤ u.now → exec (.leaderCandidacyTimeout dt) s = .next ((u.startChange [.leader u.myId] false true).checkChange 1)) ∧
    (u.now < due → exec (.leaderCandidacyTimeout dt) s = .next u)) ∧
  (∀ src s, s.inFabric = true → src ≠ s.myId → s.isMember s.myId = true →
    let u := s.setFab { s.fab with acked := some src }
    (s.isMember src = true → s.fab.change = none →
      exec (.leaderProposalReceived src true) s = .next (u.send src 0 .leaderAck 0 (u.rd .RING_MAP_EPOCH_EPOCH + 1) u.myId 0 [])) ∧
    (src = s.leader → exec (.leaderProposalReceived src false) s = .next (u.sendMap src .mapChangeAck (u.rd .RING_MAP_EPOCH_EPOCH + 1) u.myId 0 [])) ∧
    (src ≠ s.leader → exec (.leaderProposalReceived src false) s = .next s)) ∧
  (∀ dt s, (s.pass dt).isMember (s.pass dt).myId = true → (s.pass dt).fab.gone = false → (s.pass dt).fab.isolated = false →
    let u := s.pass dt
    let iso := 100000 * u.rd .RING_MAP_CFG_ISOLATE_MS
    (u.leads = false → u.fab.beat + iso ≤ u.now → exec (.isolateTimeout dt) s = .next u.isolate) ∧
    (u.leads = false → u.now < u.fab.beat + iso → exec (.isolateTimeout dt) s = .next u) ∧
    (u.leads = true →
      2 * (u.joinedIds.filter fun n => decide (n = u.myId) || decide (u.now < (Map.find u.fab.beats n).getD 0 + iso)).length ≤ u.joinedIds.length →
      exec (.isolateTimeout dt) s = .next u.isolate)) ∧
  (∀ s, s.boot.stage = .configured → s.fab.gone = false → s.fab.evac = none →
    let u := s.dropAll.closeAll.forgetMap
    let v := ((u.setFab { u.fab with evac := none }).wr .RING_STS_MEMBER 0 0 5).wr .RING_LED_FAULT 0 0 3
    exec .expelledReceived s = .next ((v.mgmtEvent 0x13 (packBytes [(0, s.rd .RING_MAP_EPOCH_EPOCH), (8, s.leader)])).winch s))

/-- R387, R388, R392, R395, R396, R401, R402, R406, R407. -/
def Obligations.RolesAndMeters : Prop :=
  (∀ k c s, s.mayRun k 0x71 c →
    let r := s.setPhase k .running
    let role := Desc.byte c.desc 16
    let u := (r.bump .CTL_ADM_CNT_COUNT 9 0 1).supersede
    let v := (u.wr .GORE_ROLE_PENDING 0 0 role).wr .GORE_ROLE_PENDING_VALID 0 0 1
    let w := v.setFleet { v.fleet with roleSet := some k }
    (∀ m, mixOf c.desc = some m → m.1 + m.2.1 + m.2.2 ≠ 100 → exec (.roleSet k) s = .next (r.finish k .reservedNonzero 17)) ∧
    (mixOf c.desc = none → r.rd .GORE_ROLE_ROLE = role → exec (.roleSet k) s = .next (u.finish k .ok 0 (role + 4 * role))) ∧
    ((∀ m, mixOf c.desc = some m → m.1 + m.2.1 + m.2.2 = 100) → r.rd .GORE_ROLE_ROLE ≠ role →
      (w.attn.steps ≠ [] → exec (.roleSet k) s = .next w) ∧ (w.attn.steps = [] → exec (.roleSet k) s = .next (w.roleNow.winch w)))) ∧
  (∀ dt s, (s.pass dt).on .CTL_READY_CONTROL = true →
    let u := s.pass dt
    let v := u.wr .CTL_ADM_STS_CAUSE 0 0 u.gauges
    let fin (x : State) : State := if x.attn.steps.isEmpty then x.autoShift else x
    let b := (v.wr .CTL_ADM_STS_SHORT 0 0 1).bump .CTL_ADM_CNT_COUNT 1 0 1
    (u.gauges = 0 → u.isShort = false → exec (.admissionEvaluation dt) s = .next (fin v)) ∧
    (u.gauges = 0 → u.isShort = true → exec (.admissionEvaluation dt) s = .next
      (fin ((v.wr .CTL_ADM_STS_SHORT 0 0 0).setFleet { v.fleet with clearAt := v.now }))) ∧
    (u.gauges ≠ 0 → u.isShort = true → exec (.admissionEvaluation dt) s = .next (fin b)) ∧
    (u.gauges ≠ 0 → u.isShort = false →
      let e := b.bump .CTL_ADM_CNT_COUNT 0 0 1
      let f := e.setFleet { e.fleet with shortInt := e.rd .CTL_ADM_CNT_COUNT 5, shortBatch := e.batchSum }
      exec (.admissionEvaluation dt) s = .next (fin (if f.interAloft then f.askShift else f)))) ∧
  (∀ dt s, exec (.storageMeterTick dt) s = .next ((List.range 64).foldl (fun s c =>
      (List.range 3).foldl (fun s t => s.bump .MTR_LIVE_COUNT c (1 + t) (s.placesOf c t)) s) (s.pass dt)) ∧
    exec (.meterCheckpoint dt) s = .next (((List.range 64).foldl (fun s c => s.checkpoint c) (s.pass dt)).bump .MTR_CNT_COUNT 4 0 1)) ∧
  (∀ k c s, s.mayRun k 0x72 c →
    let r := s.setPhase k .running
    let src := Desc.num c.desc 18 2
    let ctx := Desc.byte c.desc 16
    let at_ := Desc.num c.desc 24 8
    let lost (t : State) : Nat := t.rd .MTR_CNT_COUNT 3 % 2 ^ 32
    (bitsOf (Desc.flags c.desc) 9 8 = 0 → r.on .HTI_CTX_MGMT c.ctx = false → src ≠ r.myId ∨ ctx ≠ c.ctx → ∀ w,
      exec (.meterReadLive k w) s = .next (r.finish k .authFail 4)) ∧
    (bitsOf (Desc.flags c.desc) 9 8 = 0 → src = r.myId → ctx = c.ctx →
      let rec_ := r.meterRecord ctx 1 0 (r.comp ctx) (r.boundPort ctx) 0 r.now false (r.meters ctx)
      let u := r.tickFree.bump .MTR_CNT_COUNT 1 0 1
      exec (.meterReadLive k true) s = .next ((u.emit (.write c.ctx at_ 288 (packWords 288 [rec_]))).finish k .ok 0 1 u.unacked (lost u)) ∧
      exec (.meterReadLive k false) s = .next (u.finish k .retryLater (hintMs 1))) ∧
    (bitsOf (Desc.flags c.desc) 9 8 = 1 → src = r.myId → ctx = c.ctx →
      let l := (r.fleet.arch.filter fun (q : MRec) => (decide (ctx = 255) || decide (q.ctx = ctx)) && decide (Desc.num c.desc 32 8 ≤ q.seq)).take (Desc.num c.desc 20 4)
      (∀ w, l = [] → exec (.meterReadFetch k w) s = .next (r.finish k .ok 0 0 r.unacked (lost r))) ∧
      (l ≠ [] → exec (.meterReadFetch k true) s = .next
        ((r.emit (.write c.ctx at_ (288 * l.length) (packWords 288 (l.map MRec.data)))).finish k .ok 0 l.length r.unacked (lost r))) ∧
      (l ≠ [] → exec (.meterReadFetch k false) s = .next (r.finish k .retryLater (hintMs 1)))) ∧
    (bitsOf (Desc.flags c.desc) 9 8 = 2 → r.on .HTI_CTX_MGMT c.ctx = true → src = r.myId →
      let upto := Desc.num c.desc 32 8
      let n := (r.fleet.arch.filter fun (q : MRec) => !q.acked && decide (q.seq ≤ upto)).length
      let u := (r.setFleet { r.fleet with arch := r.fleet.arch.map fun (q : MRec) =>
        if q.seq ≤ upto then { q with acked := true } else q }).refreshArch
      exec (.meterReadAck k) s = .next (u.finish k .ok 0 n u.unacked (lost u))) ∧
    (bitsOf (Desc.flags c.desc) 9 8 = 2 → r.on .HTI_CTX_MGMT c.ctx = true → src ≠ r.myId →
      (r.joined src = false → exec (.meterReadAck k) s = .next (r.finish k .reservedNonzero 18)) ∧
      (r.joined src = true → exec (.meterReadAck k) s = .next
        ((r.setFleet { r.fleet with remote := r.fleet.remote ++ [⟨k, r.now, 1⟩] }).askMeter c)))) ∧
  (∀ src cmd op ctx count seq wr s,
    let m (right : Bool) := s.meterOp op ctx count seq right
    exec (.remoteMeterRequest (.request src cmd op ctx count seq wr true)) s = .next
      (((m true).1.bump .MTR_CNT_COUNT 6 0 1).send src 6 .meterAnswer 0 0 cmd (m true).2.st.code
        ([(m true).2.cause, (m true).2.r0, (m true).2.r1, (m true).2.r2, (m true).2.records.length] ++ (m true).2.records)) ∧
    exec (.remoteMeterRequest (.request src cmd op ctx count seq wr false)) s = .next
      ((s.bump .MTR_CNT_COUNT 6 0 1).send src 6 .meterAnswer 0 0 cmd Status.authFail.code [4, 0, 0, 0, 0])) ∧
  (∀ cmd cause r0 r1 r2 wrote s q c, (s.fleet.remote.find? fun (r : RemRun) => decide (r.cmd = cmd)) = some q → s.cmd cmd = some c →
    let u := s.setFleet { s.fleet with remote := s.fleet.remote.filter fun (r : RemRun) => r.cmd != cmd }
    exec (.remoteMeterRequest (.answer cmd 0 cause r0 r1 r2 [] wrote)) s = .next (u.finish c.id .ok 0 r0 r1 r2)) ∧
  (∀ dt k s q c, ((s.pass dt).fleet.remote.find? fun (r : RemRun) => decide (r.cmd = k)) = some q → (s.pass dt).cmd k = some c →
    let u := s.pass dt
    (u.now < q.at_ + 1000000 → exec (.remoteMeterTimeout dt k) s = .next u) ∧
    (q.at_ + 1000000 ≤ u.now → q.sends < 2 → exec (.remoteMeterTimeout dt k) s = .next
      ((u.setFleet { u.fleet with remote := u.fleet.remote.map fun (p : RemRun) => if p.cmd = k then ⟨k, u.now, p.sends + 1⟩ else p }).askMeter c)) ∧
    (q.at_ + 1000000 ≤ u.now → 2 ≤ q.sends → exec (.remoteMeterTimeout dt k) s = .next
      ((u.setFleet { u.fleet with remote := u.fleet.remote.filter fun (p : RemRun) => p.cmd != k }).finish k .retryLater (hintMs 10))))

/-- R413 to R418, R421. -/
def Obligations.JobKeys : Prop :=
  (∀ k c s, s.mayRun k 0x60 c →
    let r := s.setPhase k .running
    let i := Desc.byte c.desc 16
    let id := Desc.num c.desc 20 4
    let plain := Desc.num c.desc 24 32
    let fail (fab : Bool) (n : Nat) : Host.Outcome State Fault Refusal := .next (r.finish k .keyFail (keyCause i fab n))
    (Desc.flag c.desc 8 = false →
      (r.bit .SEC_CTX_RETIRING i c.ctx = true → exec (.jobKeySet k) s = fail false 2) ∧
      (r.bit .SEC_CTX_RETIRING i c.ctx = false → r.bit .SEC_CTX_ACTIVE i c.ctx = true → exec (.jobKeySet k) s = fail false 1) ∧
      (r.bit .SEC_CTX_RETIRING i c.ctx = false → r.bit .SEC_CTX_ACTIVE i c.ctx = false →
        let put (key : Nat) : Host.Outcome State Fault Refusal :=
          .next (((r.setJobKey c.ctx i key id).bump .SEC_CNT_COUNT 0 0 1).finish k .ok 0 i id)
        (Desc.byte c.desc 17 = 0 → r.on .SEC_CFG_PLAIN_KEYS = true ∨ r.rd .SEC_CTX_TDI c.ctx = 3 → exec (.jobKeySet k) s = put plain) ∧
        (Desc.byte c.desc 17 = 0 → r.on .SEC_CFG_PLAIN_KEYS = false → r.rd .SEC_CTX_TDI c.ctx ≠ 3 → exec (.jobKeySet k) s = fail false 5) ∧
        (Desc.byte c.desc 17 ≠ 0 → Map.find r.sec.imports c.ctx = none → exec (.jobKeySet k) s = fail false 4) ∧
        (∀ m, Desc.byte c.desc 17 ≠ 0 → Map.find r.sec.imports c.ctx = some m →
          (keyUnwrap m (Desc.num c.desc 24 40) = none →
            exec (.jobKeySet k) s = .next ((r.bump .SEC_CNT_COUNT 3 0 1).finish k .keyFail (keyCause i false 3))) ∧
          (∀ key, keyUnwrap m (Desc.num c.desc 24 40) = some key → exec (.jobKeySet k) s = put (key % 2 ^ 256))))) ∧
    (Desc.flag c.desc 8 = true →
      (r.on .HTI_CTX_MGMT c.ctx = false → exec (.jobKeySet k) s = .next (r.finish k .authFail 1)) ∧
      (r.on .HTI_CTX_MGMT c.ctx = true → r.locked c.ctx = true → exec (.jobKeySet k) s = .next (r.finish k .authFail 5)) ∧
      (r.on .HTI_CTX_MGMT c.ctx = true → r.locked c.ctx = false → Map.has r.sec.fabric i = true → exec (.jobKeySet k) s = fail true 1) ∧
      (r.on .HTI_CTX_MGMT c.ctx = true → r.locked c.ctx = false → Map.has r.sec.fabric i = false → Desc.byte c.desc 17 = 0 → r.on .SEC_CFG_PLAIN_KEYS = true →
        exec (.jobKeySet k) s = .next (((r.setFabric i plain id (Desc.flag c.desc 9)).bump .SEC_CNT_COUNT 0 0 1).finish k .ok 0 (i + 16) id)))) ∧
  (∀ k c s, s.mayRun k 0x61 c →
    let r := s.setPhase k .running
    let i := Desc.byte c.desc 16
    (Desc.flag c.desc 9 = true →
      (r.on .HTI_CTX_MGMT c.ctx = false → exec (.jobKeyRetire k) s = .next (r.finish k .authFail 1)) ∧
      (r.on .HTI_CTX_MGMT c.ctx = true → r.rd .SEC_FABRIC_TX_SLOT = i → exec (.jobKeyRetire k) s = .next (r.finish k .keyFail (keyCause i true 6))) ∧
      (r.on .HTI_CTX_MGMT c.ctx = true → r.rd .SEC_FABRIC_TX_SLOT ≠ i → Map.has r.sec.fabric i = true →
        exec (.jobKeyRetire k) s = .next (((r.dropFabric i).bump .SEC_CNT_COUNT 1 0 1).finish k .ok)) ∧
      (r.on .HTI_CTX_MGMT c.ctx = true → r.rd .SEC_FABRIC_TX_SLOT ≠ i → Map.has r.sec.fabric i = false → exec (.jobKeyRetire k) s = .next (r.finish k .ok))) ∧
    (Desc.flag c.desc 9 = false →
      (r.bit .SEC_CTX_ACTIVE i c.ctx = false → r.bit .SEC_CTX_RETIRING i c.ctx = false → exec (.jobKeyRetire k) s = .next (r.finish k .ok)) ∧
      (r.bit .SEC_CTX_ACTIVE i c.ctx = true ∨ r.bit .SEC_CTX_RETIRING i c.ctx = true → Desc.flag c.desc 8 = false →
        let l := r.keyHolders c.ctx i
        let u := (r.wrBit .SEC_CTX_ACTIVE c.ctx i false).wrBit .SEC_CTX_RETIRING c.ctx i true
        let v := u.setSec { u.sec with retires := u.sec.retires ++ [⟨k, c.ctx, i, l, l.length, 0⟩] }
        let w := v.setSec { v.sec with retires := v.sec.retires.map fun (q : Retire) => if q.cmd = k then { q with waited := l.length, aborted := 0 } else q }
        exec (.jobKeyRetire k) s = .next ((if w.keyFree c.ctx i then w.retired c.ctx i else w).winch r)))) ∧
  (∀ c i s, c < 64 → i < 16 → s.bit .SEC_CTX_RETIRING i c = true →
    (s.keyFree c i = true → exec (.keySlotEmptied c i) s = .next (s.retired c i)) ∧
    (s.keyFree c i = false → exec (.keySlotEmptied c i) s = .next s))

/-- R430 to R434. -/
def Obligations.SecureSessions : Prop :=
  (∀ path s, s.spdmOn path = true →
    let ask (r : SpdmReq) := exec (.spdmRequest path r) s
    ask .version = .next (s.spdmMsg path 0x04 0 0 6 spdmVersions) ∧
    ask .capabilities = .next (s.spdmMsg path 0x61 0 0 16 s.spdmCaps).tickFree ∧
    ask .algorithms = .next (s.spdmMsg path 0x63 4 0 48 s.spdmAlgs).tickFree ∧
    ask .digests = .next (s.spdmMsg path 0x01 0 1 48 s.free).tickFree ∧
    ask (.certificate 0) = .next (s.spdmFree path 0x02 0 0) ∧
    ask (.challenge 0) = .next (s.spdmFree path 0x03 0 1) ∧
    (∀ slot, slot ≠ 0 → ask (.certificate slot) = .next (s.spdmError path 1 0) ∧ ask (.challenge slot) = .next (s.spdmError path 1 0)) ∧
    (∀ n, ask (.vendorDefined n) = .next ((s.emit (.answer path 0x7F 2 0xFE07)).bump .SEC_CNT_COUNT 5 0 1)) ∧
    (∀ index signed, index = 0 ∨ index = 0xFF ∨ Map.has s.sec.meas index = true →
      ask (.measurements index signed) = .next (s.measurements path index signed)) ∧
    (∀ index signed, index ≠ 0 → index ≠ 0xFF → Map.has s.sec.meas index = false → ask (.measurements index signed) = .next (s.spdmError path 1 0)) ∧
    (∀ id, s.spdmSess path id = none →
      let held := (s.sec.sessions.filter fun (x : SpdmSess) => decide (x.path = path)).length
      let most := if path = 2 then 2 else 4
      (held < most → ask (.keyExchange id) = .next ((s.setSec { s.sec with sessions := s.sec.sessions ++ [⟨path, id, false, false⟩] }).spdmFree path 0x64 30 0)) ∧
      (most ≤ held → ask (.keyExchange id) = .next (s.spdmError path 10 0)) ∧
      ask (.finish id true none) = .next (s.spdmError path 2 0) ∧
      ask (.endSession id) = .next (s.spdmError path 2 0)) ∧
    (∀ id x, s.spdmSess path id = some x →
      let rest := s.sec.sessions.filter fun (y : SpdmSess) => !(decide (y.path = path) && decide (y.id = id))
      ask (.keyExchange id) = .next (s.spdmError path 1 0) ∧
      (x.open_ = false → ∀ proved,
        ask (.finish id true proved) = .next (((s.setSec { s.sec with
          sessions := rest ++ [⟨path, id, true, proved.elim false fun h => decide (s.sec.manager = some h)⟩] }).bump .SEC_CNT_COUNT 4 0 1).spdmFree path 0x65 0 0) ∧
        ask (.finish id false proved) = .next ((s.setSec { s.sec with sessions := rest }).spdmError path 6 0)) ∧
      (x.open_ = true →
        ask (.heartbeat id) = .next (s.spdmMsg path 0x68 0 0 0 0) ∧
        ask (.endSession id) = .next ((s.setSec { s.sec with sessions := rest }).spdmMsg path 0x6C 0 0 0 0)))) ∧
  (∀ path r s, s.spdmOn path = false → exec (.spdmRequest path r) s = .next s) ∧
  (∀ port sid s, port < 2 → s.spdmOn port = true →
    (∀ r, s.spdmSess port sid = none → exec (.ideKmRequest port sid r) s = .next ((s.emit (.answer port 0x7F 2 0xFE07)).bump .SEC_CNT_COUNT 5 0 1)) ∧
    (∀ x, s.spdmSess port sid = some x → x.open_ = true →
      let get (n : Nat) : IdeStream := (s.ideStream port n).getD (IdeStream.blank port n)
      exec (.ideKmRequest port sid .query) s = .next (s.pciMsg port 0 (1 + s.free % 1024) (1 + s.free / 1024 * 256)).tickFree ∧
      (∀ n set rx key, n ≤ 16 → set < 2 → exec (.ideKmRequest port sid (.keyProg n set rx key)) s = .next
        ((s.putIde { get n with keys := Map.put (get n).keys (2 * set + b2n rx) (key % 2 ^ 256), manager := x.manager }).ideAck port 3 n set rx 0)) ∧
      (∀ n set rx key, 16 < n ∨ 2 ≤ set → exec (.ideKmRequest port sid (.keyProg n set rx key)) s = .next (s.ideAck port 3 n (set % 2) rx 3)) ∧
      (∀ n set rx, n ≤ 16 → Map.has (get n).keys (2 * set + b2n rx) = true → exec (.ideKmRequest port sid (.go n set rx)) s = .next
        ((s.putIde (if rx then { get n with rxOn := some set } else { get n with txOn := some set })).ideAck port 6 n (set % 2) rx 0)) ∧
      (∀ n set rx, Map.has (get n).keys (2 * set + b2n rx) = false → exec (.ideKmRequest port sid (.go n set rx)) s = .next (s.spdmError port 1 0)) ∧
      (∀ n set rx, n ≤ 16 →
        let u := (s.putIde (if rx then { get n with rxOn := none } else { get n with txOn := none })).ideAck port 6 n (set % 2) rx 0
        exec (.ideKmRequest port sid (.stop n set rx)) s = .next (if (get n).secure then u.ideLost port n else u)))) ∧
  (∀ port n s,
    (∀ t, s.ideStream port n = some t → t.secure = true →
      exec (.ideStreamFailure port n) s = .next ((s.putIde { t with rxOn := none, txOn := none }).ideLost port n)) ∧
    ((s.ideStream port n).elim true (fun t => !t.secure) = true → exec (.ideStreamFailure port n) s = .next s))

/-- R425 to R429, R440, R445, R457, R493, R525. -/
def Obligations.Procedures : Prop :=
  (∀ ch s, ch < 64 →
    let c := s.chan ch
    (s.asked ch 1 = true → exec (.mbInfo ch) s = .next (s.reply ch .ok 0 56
      (packBytes [(0, s.regWord .SEC 8 % 2 ^ 16), (4, s.sec.version % 2 ^ 32), (8, (Map.find s.sec.meas 2).getD 0)]))) ∧
    (s.asked ch 2 = true → exec (.mbEcho ch) s = .next (s.reply ch .ok 0 (c.len - 4) (c.num 4 (c.len - 4)))) ∧
    (s.asked ch 3 = true →
      let oldest := s.mbx.archNext - s.mbx.archive.length
      let l := (s.mbx.archive.drop (c.num 4 4 - oldest)).take (c.byte 8)
      exec (.faultArchiveRead ch) s = .next (s.reply ch .ok 0 (12 + 64 * l.length)
        (packBytes [(0, l.length), (4, oldest % 2 ^ 32), (8, s.mbx.archNext % 2 ^ 32), (12, packWords 64 (l.map fltBytes))]))) ∧
    (s.asked ch 4 = true → s.on .CTL_RST_CAUSE_FAILED = false → exec (.resetCause ch) s = .next (s.reply ch .ok 0 44
      (packBytes [(0, s.rd .CTL_RST_CAUSE_LAST), (1, 0), (4, s.rd .CTL_RST_CAUSE_WARMS), (8, s.rd .CTL_RST_CAUSE_SOFTS), (12, s.boot.resetAt % 2 ^ 64)]))) ∧
    (s.asked ch 1 = false → s.asked ch 2 = false → exec (.mbInfo ch) s = .next s ∧ exec (.mbEcho ch) s = .next s)) ∧
  (∀ ch s, 64 ≤ ch →
    let c := s.chan ch
    let refuse := (s.reply ch .authFail (s.free % 2 ^ 16) 0 0).tickFree
    (s.asked ch 1 = true →
      (s.on .SEC_BOOT_STS_RECOVERY = true → exec (.svnCommit ch) s = .next refuse) ∧
      (s.on .SEC_BOOT_STS_RECOVERY = false → exec (.svnCommit ch) s = .next
        ((s.wr .SEC_SVN_COUNTER 0 0 (max (s.rd .SEC_SVN_COUNTER) (s.rd .SEC_BOOT_STS_SVN_RUNNING))).reply ch .ok 0 0 0))) ∧
    (s.asked ch 2 = true → ∀ good, s.on .SEC_BOOT_STS_RECOVERY = true ∨ c.byte 4 ≠ s.rd .SEC_BOOT_STS_COPY → s.on .CTL_PIN_STS_SPI_GNT = false →
      let n := c.len - 16
      let have_ := match s.sec.stage with | some g => if g.copy = c.byte 4 && g.total = c.num 12 4 then g.len else 0 | none => 0
      let u := s.emit (.nor (c.byte 4) (c.num 8 4) n (tileField c.req 16 n))
      let v := u.setSec { u.sec with stage := none }
      (c.num 8 4 ≠ have_ → exec (.fwStage ch good) s = .next ((s.setSec { s.sec with stage := none }).reply ch .reservedNonzero 8 0 0)) ∧
      (c.num 8 4 = have_ → c.num 8 4 + n ≤ c.num 12 4 → bitAt (c.byte 5) 0 = false → exec (.fwStage ch good) s = .next
        ((u.setSec { u.sec with stage := some ⟨c.byte 4, c.num 12 4, c.num 8 4 + n⟩ }).reply ch .ok 0 0 0)) ∧
      (c.num 8 4 = have_ → c.num 8 4 + n ≤ c.num 12 4 → bitAt (c.byte 5) 0 = true → good = true → c.num 8 4 + n = c.num 12 4 →
        exec (.fwStage ch good) s = .next (v.reply ch .ok 0 0 0)) ∧
      (c.num 8 4 = have_ → c.num 8 4 + n ≤ c.num 12 4 → bitAt (c.byte 5) 0 = true → good = false →
        exec (.fwStage ch good) s = .next ((v.emit (.nor (c.byte 4) 0 0 0)).reply ch .authFail 2 0 0))) ∧
    (s.asked ch 3 = true →
      (s.on .SEC_DEBUG_STATE = true → exec (.importKeySet ch) s = .next refuse) ∧
      (s.on .SEC_DEBUG_STATE = false → exec (.importKeySet ch) s = .next ((s.setImport (c.byte 4) (some (c.num 8 32))).reply ch .ok 0 0 0))) ∧
    (s.asked ch 4 = true →
      (Map.has s.sec.fabric (c.byte 4) = true → exec (.fabricKeySet ch) s = .next (s.reply ch .keyFail (keyCause (c.byte 4) true 1) 0 0)) ∧
      (Map.has s.sec.fabric (c.byte 4) = false → exec (.fabricKeySet ch) s = .next
        (((s.setFabric (c.byte 4) (c.num 12 32) (c.num 8 4) (bitAt (c.byte 5) 0)).bump .SEC_CNT_COUNT 0 0 1).reply ch .ok 0 0 0))) ∧
    (s.asked ch 5 = true →
      (s.sec.owner.isSome = true →
        let u := s.setSec { s.sec with owner := some (c.num 4 48), manager := some (c.num 52 48) }
        exec (.ownerTransfer ch true) s = .next (((u.wr .SEC_OWNER_ENROLLED 0 0 1).wr .SEC_OWNER_MANAGER 0 0 1).reply ch .ok 0 0 0)) ∧
      exec (.ownerTransfer ch false) s = .next refuse) ∧
    (s.asked ch 6 = true →
      (∀ good, c.byte 4 = 0 → exec (.debugUnlock ch good) s = .next
        (((s.setSec { s.sec with nonce := some (s.free % 2 ^ 384) }).tickFree).reply ch .ok 0 48 (s.free % 2 ^ 384))) ∧
      (c.byte 4 ≠ 0 → s.sec.nonce.isSome = true → exec (.debugUnlock ch true) s = .next ((s.unlockDebug.winch s).reply ch .ok 0 0 0)) ∧
      (c.byte 4 ≠ 0 → exec (.debugUnlock ch false) s = .next ((s.setSec { s.sec with nonce := none }).refuseProc ch))) ∧
    (s.asked ch 7 = true →
      let a := (((List.range 64).foldl (fun s c => s.eraseKeys c) s).dropFabric 0).dropFabric 1
      let b := a.wrAll .SEC_CTX_STORAGE (instances 64 1) 0
      let d := ((b.setSec { b.sec with storage := [], owner := none, manager := none }).wr .SEC_OWNER_ENROLLED 0 0 0).wr .SEC_OWNER_MANAGER 0 0 0
      let e : State := { d with boot := { d.boot with bank0 := ⟨false, 0, []⟩, bank1 := ⟨false, 0, []⟩ } }
      exec (.zeroize ch) s = .next (((e.wr .NVM_SS_STS_GROUPS 0 0 0).wr .NVM_SS_USE_ENTRIES 0 0 0).reply ch .ok 0 0 0)))

/-- R428, R438, R441 to R446, R449 to R451. -/
def Obligations.Conversations : Prop :=
  (∀ port ch v s, port < 4 → ch < 64 → s.windowOpen port ch = true →
    let len := bitsOf v 11 0
    (s.chanBusy ch = false → s.chanFull ch = false → len ≠ 0 → len ≤ 1024 → exec (.htiWMbreqSeal port ch v) s = .next
      (((s.setChan ch { s.chan ch with len := len, token := bitsOf v 23 16, path := 0, ans := none }).setBusy ch true).bump .MBX_CNT_COUNT 0 0 1)) ∧
    (s.chanBusy ch = true ∨ s.chanFull ch = true ∨ len = 0 ∨ 1024 < len →
      exec (.htiWMbreqSeal port ch v) s = .next ((s.setReject ch).bump .MBX_CNT_COUNT 1 0 1))) ∧
  (∀ port ch v s, port < 4 → 64 ≤ ch → ch < 72 → s.blkOn .MBX = true →
    (s.secureOk port ((s.chan ch).byte 0) = true → exec (.htiWMbreqSeal port ch v) s = .next (s.seal ch 0 v)) ∧
    (s.secureOk port ((s.chan ch).byte 0) = false → exec (.htiWMbreqSeal port ch v) s = .next
      ((s.errlog kUnmapped 0 (port % 2) 0 (0x510000 + 0x2000 * (ch - 64))).bump .SEC_CNT_COUNT 11 0 1))) ∧
  (∀ ch s, ch < 72 → (s.chan ch).len ≠ 0 →
    let c := s.chan ch
    ((s.chan ch).ans = none → s.reqFault ch = none → exec (.mailboxResponseReady ch) s = .next s) ∧
    (∀ n d, (s.chan ch).ans = some (n, d) →
      let u := s.setChan ch { c with len := 0, ans := none, rsp := d % 2 ^ (8 * n) + c.rsp / 2 ^ (8 * n) * 2 ^ (8 * n) }
      (ch < 64 → exec (.mailboxResponseReady ch) s = .next (((u.setRsp ch true n c.token).setBusy ch false).signal ch 0)) ∧
      (64 ≤ ch → c.path ≠ 1 → c.byte 0 ≠ 7 → exec (.mailboxResponseReady ch) s = .next ((u.setRsp ch true n c.token).setBusy ch false)) ∧
      (64 ≤ ch → c.path = 1 → c.byte 0 ≠ 7 → exec (.mailboxResponseReady ch) s = .next
        (((u.setRsp ch false n c.token).setBusy ch false).emit (.answer 4 (ch - 64) n d))) ∧
      (64 ≤ ch → c.path = 1 → c.byte 0 = 7 → d % 2 ^ 16 = 0 → exec (.mailboxResponseReady ch) s = .next
        ((((u.setRsp ch false n c.token).setBusy ch false).emit (.answer 4 (ch - 64) n d)).warm 4))) ∧
    (∀ st cause, (s.chan ch).ans = none → s.reqFault ch = some (st, cause) → ch < 64 →
      let r := s.reply ch st cause 0 0
      let d := st.code + cause % 2 ^ 16 * 2 ^ 16 + 0 % 2 ^ (8 * 0) * 2 ^ 32
      let u := r.setChan ch { c with len := 0, ans := none, rsp := d % 2 ^ (8 * (4 + 0)) + c.rsp / 2 ^ (8 * (4 + 0)) * 2 ^ (8 * (4 + 0)) }
      exec (.mailboxResponseReady ch) s = .next (((u.setRsp ch true (4 + 0) c.token).setBusy ch false).signal ch 0))) ∧
  (∀ port ch s, port < 4 → ch < 64 → s.blkOn .HTIW = true →
    (s.port ch = port % 2 → s.rd .SEC_CTX_TDI ch ≠ 3 →
      exec (.htiWMbrspRead port ch) s = .next ((s.wr .HTI_W_MBRSP_FULL ch 0 0).emit (.busRead (s.rspWord ch)))) ∧
    (s.port ch ≠ port % 2 → exec (.htiWMbrspRead port ch) s = .next
      ((s.errlog kWrongPort ch (port % 2) 2 0x2008).emit (.busRead (2 ^ (8 * 4) - 1))))) ∧
  (∀ port ch s, port < 4 → 64 ≤ ch → ch < 72 → s.blkOn .MBX = true →
    (s.securePath port = true → exec (.htiWMbrspRead port ch) s = .next ((s.wr .MBX_S_RSP_FULL (ch - 64) 0 0).emit (.busRead (s.rspWord ch)))) ∧
    (s.securePath port = false → exec (.htiWMbrspRead port ch) s = .next ((s.bump .SEC_CNT_COUNT 11 0 1).emit (.busRead 0)))) ∧
  (∀ k v data s, k < 8 → s.spdmOn 2 = true →
    let ch := 64 + k
    let len := bitsOf v 11 0
    (s.secureOk 4 (data % 256) = false → exec (.mctpSecureMessage k v data) s = .next (s.bump .SEC_CNT_COUNT 11 0 1)) ∧
    (s.secureOk 4 (data % 256) = true → s.chanBusy ch = true → exec (.mctpSecureMessage k v data) s = .next (s.seal ch 1 v)) ∧
    (s.secureOk 4 (data % 256) = true → s.chanBusy ch = false → s.chanFull ch = false → len ≠ 0 → len ≤ 1024 →
      let c := s.chan ch
      exec (.mctpSecureMessage k v data) s = .next
        ((s.setChan ch { c with req := data % 2 ^ (8 * len) + c.req / 2 ^ (8 * len) * 2 ^ (8 * len) }).seal ch 1 v))) ∧
  (∀ p v s, p < 2 → s.blkOn .MBX = true →
    exec (.mbxSumAck p v) s = .next ((s.latched (Fld.bar0 .MBX_SUM_BITS p 0) v).wr .MBX_SUM_BITS p 0 (s.rd .MBX_SUM_BITS p - Nat.land (s.rd .MBX_SUM_BITS p) v))) ∧
  (∀ p s, p < 2 →
    (bitAt s.mbx.sumBusy p = false → exec (.doorbellWordWriteDone p) s = .next s ∧ exec (.doorbellWordWriteFail p) s = .next s) ∧
    (bitAt s.mbx.sumBusy p = true →
      let u := s.setMbx { s.mbx with sumBusy := setBitN s.mbx.sumBusy p false, sumPend := setBitN s.mbx.sumPend p false }
      let v := (u.bump .MBX_CNT_COUNT 2 0 1).emit (.irq p none (u.rd .MBX_PORT_CFG_SUM_VEC p))
      let w := s.setMbx { s.mbx with sumBusy := setBitN s.mbx.sumBusy p false }
      (bitAt s.mbx.sumPend p = false → exec (.doorbellWordWriteDone p) s = .next v) ∧
      (bitAt s.mbx.sumPend p = true → exec (.doorbellWordWriteDone p) s = .next (v.sumWrite p)) ∧
      exec (.doorbellWordWriteFail p) s = .next ((w.wr (if p = 0 then .MBX_MODE_SUM_FAIL0 else .MBX_MODE_SUM_FAIL1) 0 0 1).refreshMode p)))

/-- R448, R452, R454, R455, R541. -/
def Obligations.EventRings : Prop :=
  (∀ port c v s, c < 64 → s.windowOpen port c = true → bitAt v 4 = true →
    let log := fieldOf .HTI_W_EVT_CFG_LOG v
    let u := (s.wr .HTI_W_EVT_CFG_LOG c 0 log).wr .HTI_W_EVT_CFG_EN c 0 1
    (s.on .HTI_W_EVT_CFG_EN c = true → log = s.rd .HTI_W_EVT_CFG_LOG c → exec (.htiWEvtEnable port c v) s = .next s) ∧
    (s.on .HTI_W_EVT_CFG_EN c = true → log ≠ s.rd .HTI_W_EVT_CFG_LOG c → exec (.htiWEvtEnable port c v) s = .next (s.errlog kQueueBusy c (s.port c) 2 0x2028)) ∧
    (s.on .HTI_W_EVT_CFG_EN c = false → log < 4 ∨ 12 < log → exec (.htiWEvtEnable port c v) s = .next (u.wr .HTI_W_EVT_CFG_FAULT c 0 1)) ∧
    (s.on .HTI_W_EVT_CFG_EN c = false → 4 ≤ log → log ≤ 12 →
      let e := u.setEvt c { u.evt c with on := true, log := log, base := u.rd .HTI_W_EVT_BASE_BASE c * 4096, phase := true, last := none }
      exec (.htiWEvtEnable port c v) s = .next (((e.wr .HTI_W_EVT_IDX_HEAD c 0 0).wr .HTI_W_EVT_IDX_TAIL c 0 0).drainAll c))) ∧
  (∀ port c v s, c < 64 → s.windowOpen port c = true → bitAt v 4 = false →
    exec (.htiWEvtDisable port c v) s = .next
      ((((s.wr .HTI_W_EVT_CFG_LOG c 0 (fieldOf .HTI_W_EVT_CFG_LOG v)).wr .HTI_W_EVT_CFG_EN c 0 0).wr .HTI_W_EVT_CFG_FAULT c 0 0).evtOff c)) ∧
  (∀ port c v s, c < 64 → s.windowOpen port c = true →
    let h := fieldOf .HTI_W_EVT_IDX_HEAD v
    let n := 2 ^ (s.evt c).log
    let head := s.rd .HTI_W_EVT_IDX_HEAD c
    let tail := s.rd .HTI_W_EVT_IDX_TAIL c
    let u := s.wr .HTI_W_EVT_IDX_HEAD c 0 h
    ((s.evt c).on = false → exec (.htiWEvtHeadWrite port c v) s = .next ((s.errlog kDbClosed c (s.port c) 2 0x2030).bump .HTI_CNT_COUNT c 5 1)) ∧
    ((s.evt c).on = true → n ≤ h ∨ (tail + n - head) % n < (h + n - head) % n →
      exec (.htiWEvtHeadWrite port c v) s = .next ((s.errlog kDbRange c (s.port c) 2 0x2030).bump .HTI_CNT_COUNT c 5 1)) ∧
    ((s.evt c).on = true → h < n → (h + n - head) % n ≤ (tail + n - head) % n →
      (h = tail → exec (.htiWEvtHeadWrite port c v) s = .next (u.drainAll c)) ∧
      (h ≠ tail → exec (.htiWEvtHeadWrite port c v) s = .next ((u.signal c 1).drainAll c)))) ∧
  (∀ c s, c < 64 →
    ((s.evt c).last = none → exec (.eventRecordWriteFail c) s = .next s) ∧
    (∀ r d, (s.evt c).last = some (r, d) → (s.evt c).on = true →
      let n := 2 ^ (s.evt c).log
      let u := s.wr .HTI_W_EVT_IDX_TAIL c 0 ((s.rd .HTI_W_EVT_IDX_TAIL c + n - 1) % n)
      let v := u.setEvt c { s.evt c with backlog := r :: (s.evt c).backlog, dropped := (s.evt c).dropped + d }
      exec (.eventRecordWriteFail c) s = .next ((v.evtOff c).wr .HTI_W_EVT_CFG_FAULT c 0 1))) ∧
  (∀ port c v s, c < 64 → s.windowOpen port c = true →
    let u := s.wr .HTI_W_FLT_IDX_HEAD c 0 (fieldOf .HTI_W_FLT_IDX_HEAD v)
    (u.rd .HTI_W_FLT_IDX_HEAD c = u.rd .HTI_W_FLT_IDX_NEXT c → exec (.htiWFltHeadWrite port c v) s = .next u) ∧
    (u.rd .HTI_W_FLT_IDX_HEAD c ≠ u.rd .HTI_W_FLT_IDX_NEXT c → exec (.htiWFltHeadWrite port c v) s = .next (u.signal c 2)))

/-- R424 to R427, R460 to R464, R468, R470, R471. -/
def Obligations.BringUp : Prop :=
  (∀ dt s, ((s.pass dt).boot.stage = .off → exec (.powerUp dt) s = .next ((s.pass dt).setBoot { (s.pass dt).boot with stage := .rails })) ∧
    ((s.pass dt).boot.stage ≠ .off → exec (.powerUp dt) s = .next (s.pass dt))) ∧
  (∀ dt cables flash perst spi s,
    let p := s.pass dt
    let a := (p.wr .HTI_TIME_COUNT 0 0 0).wr .CTL_RT_TIME_COUNT 0 0 0
    let b := ((a.setBoot { a.boot with stage := .rom, resetAt := 0 }).nextBootgen []).fabricBoot
    let d := (List.range 8).foldl (fun s n => s.wr .RING_PORT_STS_PRESENT n 0 (b2n (bitAt cables n))) b
    let e := ((d.wr .CTL_PIN_STS_PERST 0 0 (b2n perst)).wr .CTL_PIN_STS_SPI_REQ 0 0 (b2n spi)).wr .CTL_PIN_STS_FLASH_PRSNT 0 0 flash
    (p.boot.stage = .rails → exec (.porRelease dt cables flash perst spi) s = .next ((e.wr .CTL_PIN_STS_FLASH_PERST 0 0 255).wr .CTL_PIN_STS_POOL_PERST 0 0 15)) ∧
    (p.boot.stage ≠ .rails → exec (.porRelease dt cables flash perst spi) s = .next p)) ∧
  (∀ dt a b patch s, (s.pass dt).boot.stage = .rom → (s.pass dt).on .CTL_PIN_STS_SPI_GNT = false →
    let p := s.pass dt
    let ra := bootVerdict a (p.rd .SEC_SVN_COUNTER)
    let rb := bootVerdict b (p.rd .SEC_SVN_COUNTER)
    let q := p.wr .SEC_ID_SERIAL 0 0 Config.serial
    let fin (v : State) : Host.Outcome State Fault Refusal :=
      let w := (v.wr .CTL_READY_NVM 0 0 1).wr .CTL_READY_SEC 0 0 1
      .next ((w.setBoot { w.boot with stage := .waitPerst }).grantSpi)
    (ra = 0 → exec (.bootRomVerify dt a b patch) s = fin (((q.wr .SEC_BOOT_STS_A_RESULT 0 0 0).wr .SEC_BOOT_STS_B_RESULT 0 0 0).runCopy 0 a patch)) ∧
    (ra ≠ 0 → rb = 0 → exec (.bootRomVerify dt a b patch) s = fin (((q.wr .SEC_BOOT_STS_A_RESULT 0 0 ra).wr .SEC_BOOT_STS_B_RESULT 0 0 0).runCopy 1 b patch)) ∧
    (ra ≠ 0 → rb ≠ 0 →
      let v := (q.wr .SEC_BOOT_STS_A_RESULT 0 0 ra).wr .SEC_BOOT_STS_B_RESULT 0 0 rb
      exec (.bootRomVerify dt a b patch) s = fin ((v.wr .SEC_BOOT_STS_RECOVERY 0 0 1).setSec { v.sec with meas := Map.put v.sec.meas 1 Config.romHash }))) ∧
  (∀ dt image b0 b1 s,
    let u := (s.pass dt).wr .CTL_PIN_STS_PERST 0 0 0
    (u.boot.stage ≠ .waitPerst ∨ u.on .CTL_PIN_STS_SPI_GNT = true → exec (.perstNDeassert dt image b0 b1) s = .next u) ∧
    (u.boot.stage = .waitPerst → u.on .CTL_PIN_STS_SPI_GNT = false →
      let a := ((u.readConfig image).loadStore b0 b1).loadNvm 5
      let b := (a.applySettings.measureConfig image (a.rd .CTL_BOOT_STS_IMAGE)).openAll
      let c := (b.wr .CTL_READY_HTI 0 0 1).wr .CTL_READY_MBX 0 0 1
      exec (.perstNDeassert dt image b0 b1) s = .next (
        if c.on .SEC_BOOT_STS_RECOVERY then (List.range 2).foldl (fun s n => s.askWake .host n 256) (c.setBoot { c.boot with stage := .recovery })
        else (c.setBoot { c.boot with stage := .configured }).askAtBoot))) ∧
  (∀ n s, n < 8 → s.isAdmitted .stack n = true → s.boot.stage = .configured →
    let u := s.unadmit .stack n
    let v := u.wrBit .CTL_READY_T1 0 n true
    (u.on .CTL_BOOT_STS_T1_FAIL = true → exec (.hbmStackTrained n) s = .next u) ∧
    (u.on .CTL_BOOT_STS_T1_FAIL = false → v.rd .CTL_READY_T1 ≠ 255 → exec (.hbmStackTrained n) s = .next v) ∧
    (u.on .CTL_BOOT_STS_T1_FAIL = false → v.rd .CTL_READY_T1 = 255 → v.on .CTL_READY_CONTROL = true → exec (.hbmStackTrained n) s = .next v.exitDone) ∧
    (u.on .CTL_BOOT_STS_T1_FAIL = false → v.rd .CTL_READY_T1 = 255 → v.on .CTL_READY_CONTROL = false → exec (.hbmStackTrained n) s = .next
      (((({ v with fab := { v.fab with controlAt := v.now } } : State).wr .CTL_READY_CONTROL 0 0 1).readyEngines).exitDone))) ∧
  (∀ p s, p < Config.panels → s.isAdmitted .panel p = true → s.bit .CTL_READY_GORES p = false → s.boot.stage = .configured →
    let u := s.unadmit .panel p
    let fin (x : State) : Host.Outcome State Fault Refusal := .next (((x.refreshPanel p).refreshPm).winch s).checkPanels
    exec (.panelTestDone p true) s = fin ((u.wrBit .CTL_READY_GORES 0 p true).wr .GORE_PANEL_GATED p 0 0) ∧
    exec (.panelTestDone p false) s = fin ((u.wr .GORE_PANEL_FAULT p 0 1).wr .RING_LED_FAULT 0 0 3)) ∧
  (∀ dt s,
    let u := s.pass dt
    (u.on .CTL_READY_CONTROL = true → exec (.t1TrainingLimitExpiry dt) s = .next u) ∧
    (u.boot.stage = .configured → u.on .CTL_READY_CONTROL = false → u.rd .CTL_READY_T1 ≠ 255 → u.on .CTL_BOOT_STS_T1_FAIL = false →
      let n := ((List.range 8).find? fun n => !u.bit .CTL_READY_T1 n).getD 0
      exec (.t1TrainingLimitExpiry dt) s = .next ((((u.wr .CTL_BOOT_STS_T1_FAIL 0 0 1).wr .CTL_BOOT_STS_T1_STACK 0 0 n).wr .RING_LED_FAULT 0 0 3).closeAll))) ∧
  (∀ txt dec s, s.boot.stage = .configured →
    let u := s.wr .TXT_LANES_FENCED 0 0 (Nat.lor (s.rd .TXT_LANES_FENCED) txt)
    let v := u.wr .DEC_LANES_FENCED 0 0 (Nat.lor (u.rd .DEC_LANES_FENCED) dec)
    exec (.engineLaneTestDone txt dec) s = .next (((v.setBoot { v.boot with lanesOk := true }).readyEngines).exitDone)) ∧
  (∀ k c s, s.mayRun k 0x70 c → s.nvmTurn c = true →
    let r := s.setPhase k .running
    let commit := (if r.bank.valid then r.bank.commit else 0) + 1
    let fin (clear : Bool) : Host.Outcome State Fault Refusal :=
      let q := r.nextStore clear c.desc
      let u := ((r.setBank (1 - r.rd .NVM_SS_STS_BANK) ⟨true, commit, q.1⟩).wr .NVM_SS_STS_BANK 0 0 (1 - r.rd .NVM_SS_STS_BANK)).showBank
      .next ((u.bump .NVM_CNT_COUNT (b2n clear) 0 1).finish k .ok 0 q.2 q.1.length (commit % 2 ^ 32))
    (bitsOf (Desc.flags c.desc) 9 8 = 0 → exec (.nvmStoreStore k true) s = fin false ∧
      exec (.nvmStoreStore k false) s = .next ((r.bump .NVM_CNT_COUNT 5 0 1).finish k .retryLater (hintS 1))) ∧
    (bitsOf (Desc.flags c.desc) 9 8 = 1 → exec (.nvmStoreClear k true) s = fin true ∧
      exec (.nvmStoreClear k false) s = .next ((r.bump .NVM_CNT_COUNT 5 0 1).finish k .retryLater (hintS 1))))

/-- R474 to R478, R481 to R483, R485, R487. -/
def Obligations.FunctionsAndResets : Prop :=
  (∀ f v s, f < 8 → s.blkOn .CTL = true →
    let u := s.putFn f v
    let w := u.setBoot { u.boot with fnAgain := setBitN u.boot.fnAgain f false }
    (bitsOf v 1 0 = 0 →
      (w.rd .CTL_FN_STATE f = 0 → exec (.ctlFnDisableStop f v) s = .next (((w.fnStop f 1).fnEnd f).fnCheck f)) ∧
      (w.rd .CTL_FN_STATE f = 2 → exec (.ctlFnDisableStop f v) s = .next (((w.wr .CTL_FN_STATE f 0 1).fnEnd f).fnCheck f)) ∧
      (w.rd .CTL_FN_STATE f = 4 → exec (.ctlFnDisableStop f v) s = .next w)) ∧
    (bitsOf v 1 0 = 2 →
      (w.rd .CTL_FN_STATE f = 0 → exec (.ctlFnDisableDrain f v) s = .next ((w.fnStop f 2).fnCheck f)) ∧
      (w.rd .CTL_FN_STATE f ≠ 0 → exec (.ctlFnDisableDrain f v) s = .next w)) ∧
    (bitAt v 0 = true →
      (u.rd .CTL_FN_STATE f = 0 → exec (.ctlFnEnable f v) s = .next (u.winch s)) ∧
      (u.rd .CTL_FN_STATE f = 4 → exec (.ctlFnEnable f v) s = .next ((u.wr .CTL_FN_STATE f 0 0).winch s)) ∧
      (u.rd .CTL_FN_STATE f = 1 → exec (.ctlFnEnable f v) s = .next ((u.setBoot { u.boot with fnAgain := setBitN u.boot.fnAgain f true }).winch s)))) ∧
  (∀ f s, f < 8 →
    (s.rd .CTL_FN_STATE f = 1 ∨ s.rd .CTL_FN_STATE f = 2 → s.fnCmds f = [] → s.bit .CTL_FN_RST_FN f = false → exec (.fnAcceptedWorkDone f) s = .next ((s.fnDone f).winch s)) ∧
    (s.fnCmds f ≠ [] → exec (.fnAcceptedWorkDone f) s = .next s)) ∧
  (∀ dt f s, f < 8 →
    let u := s.pass dt
    (∀ due, Map.find u.boot.fnTimer f = some due → due ≤ u.now → u.deeper = false → u.rd .CTL_FN_STATE f = 1 ∨ u.rd .CTL_FN_STATE f = 2 →
      exec (.fnDisableTimeout dt f) s = .next ((u.fnReset f).wr .CTL_FN_STATE f 0 3)) ∧
    (Map.find u.boot.fnTimer f = none → exec (.fnDisableTimeout dt f) s = .next u)) ∧
  (∀ v s, s.blkOn .CTL = true → s.pwr.lockout = false →
    (bitsOf v 15 8 ≠ 0x5A → exec (.ctlResetSoft v) s = .next (s.bump .CTL_RST_CNT_COUNT 7 0 1) ∧ exec (.ctlResetWarm v) s = .next (s.bump .CTL_RST_CNT_COUNT 7 0 1)) ∧
    (bitsOf v 15 8 = 0x5A → bitAt v 1 = true → exec (.ctlResetWarm v) s = .next (s.warm 3)) ∧
    (bitsOf v 15 8 = 0x5A → bitAt v 1 = false → bitAt v 0 = true →
      (s.deeper = false → exec (.ctlResetSoft v) s = .next s.soft) ∧ (s.deeper = true → exec (.ctlResetSoft v) s = .next s))) ∧
  (∀ s, (s.on .CTL_RESET_SOFT = false → exec .softResetEnd s = .next s) ∧
    (s.on .CTL_RESET_SOFT = true → s.rd .CTL_READY_T1 = 255 ∨ s.boot.stage ≠ .configured → exec .softResetEnd s = .next
      ((List.range 8).foldl (fun (s : State) f => if s.rd .CTL_FN_STATE f = 1 || s.rd .CTL_FN_STATE f = 2 || s.rd .CTL_FN_STATE f = 3 then s.fnDone f else s)
        (s.wr .CTL_RESET_SOFT 0 0 0)))) ∧
  (∀ v s, s.blkOn .CTL = true →
    let l := s.latched (Fld.CTL_CTX_RST_CTX.bar0 0 0) v
    (s.deeper = true → exec (.ctlFnRst v) s = .next s ∧ exec (.ctlCtxRst v) s = .next l) ∧
    (s.deeper = false →
      exec (.ctlFnRst v) s = .next ((List.range 8).foldl (fun (s : State) f => if bitAt v f && !s.bit .CTL_FN_RST_FN f then s.fnReset f else s) s) ∧
      exec (.ctlCtxRst v) s = .next ((List.range 64).foldl (fun (s : State) c => if bitAt v c && !s.bit .CTL_CTX_RST_CTX c then s.ctxReset c else s) l))) ∧
  (∀ f s, f < 8 →
    (s.bit .CTL_FN_RST_FN f = false → exec (.fnResetEnd f) s = .next s) ∧
    (s.bit .CTL_FN_RST_FN f = true → f ≠ 6 →
      let u := (s.wrBit .CTL_FN_RST_FN 0 f false).readyEngine f
      (u.rd .CTL_FN_STATE f = 0 → exec (.fnResetEnd f) s = .next (u.winch s)) ∧
      (u.rd .CTL_FN_STATE f = 3 → exec (.fnResetEnd f) s = .next ((u.fnDone f).winch s)))) ∧
  (∀ c s, c < 64 → exec (.ctxResetEnd c) s = .next (s.wrBit .CTL_CTX_RST_CTX 0 c false))

/-- R37, R487 to R493, R496, R500, R511, R527. -/
def Obligations.LowPower : Prop :=
  (∀ dt s,
    let u := s.pass dt
    (u.on .CTL_PM_P2_EN = false → exec (.p2IdleEntry dt) s = .next u) ∧
    (u.boot.stage = .configured → u.on .CTL_READY_CONTROL = true → u.on .CTL_PM_P2_EN = true → u.rd .CTL_PM_STS_STATE ≤ 1 → u.on .CTL_RESET_SOFT = false →
      u.anyWork = false → u.attn.steps = [] → u.moving = false → u.lending = false →
      (max u.fleet.workedAt u.pwr.calledAt + 100000 * u.rd .CTL_PM_P2_IDLE_MS > u.now → exec (.p2IdleEntry dt) s = .next u) ∧
      (max u.fleet.workedAt u.pwr.calledAt + 100000 * u.rd .CTL_PM_P2_IDLE_MS ≤ u.now →
      let g := (List.range Config.panels).foldl (fun (s : State) p =>
        if s.on .GORE_PANEL_GATED p || !s.bit .CTL_READY_GORES p then s else (s.wr .GORE_PANEL_GATED p 0 1).bump .GORE_CNT_COUNT 9 0 1) u
      let h : State := { g with gore := { g.gore with lastCtx := [] } }
      exec (.p2IdleEntry dt) s = .next ((h.wr .CTL_PM_STS_STATE 0 0 2).bump .CTL_RST_CNT_COUNT 3 0 1)))) ∧
  (∀ s, (s.rd .CTL_PM_STS_STATE = 2 → exec .p2Exit s = .next ((s.wr .CTL_PM_STS_STATE 0 0 0).refreshPm.askStacks.called)) ∧
    (s.rd .CTL_PM_STS_STATE ≠ 2 → exec .p2Exit s = .next s)) ∧
  (∀ v s, s.blkOn .CTL = true →
    let w := s.putWord [.CTL_PM_P2_EN, .CTL_PM_P2_IDLE_MS, .CTL_PM_P3_LIMIT_S] 0 0 v
    let x := w.leaveP2
    let refuse (n : Nat) : Host.Outcome State Fault Refusal :=
      .next (((((x.wr .CTL_PM_P3_REQ 0 0 0).wr .CTL_PM_STS_P3_REFUSED 0 0 1).wr .CTL_PM_STS_REFUSE_WHY 0 0 n)).bump .TIER_CNT_COUNT 15 0 1)
    (bitAt v 16 = false → exec (.p3Req v) s = .next w) ∧
    (bitAt v 16 = true → w.deeper = false → w.on .CTL_READY_CONTROL = true →
      let others := decide (x.rd .RING_STS_MEMBER = 1) && x.fab.members.any (fun n => n != x.myId)
      (others = true → exec (.p3Req v) s = refuse 1) ∧
      (others = false → x.anyWork = true → exec (.p3Req v) s = refuse 2) ∧
      (others = false → x.anyWork = false → x.lending = true → exec (.p3Req v) s = refuse 3) ∧
      (others = false → x.anyWork = false → x.lending = false → x.mustDeflate x.writeDown = [] → x.writeDown.unplaced = [] →
        exec (.p3Req v) s = .next x.writeDown.startP3))) ∧
  (∀ s,
    (s.rd .CTL_PM_STS_STATE ≠ 3 → exec .p3EntryComplete s = .next s) ∧
    (s.rd .CTL_PM_STS_STATE = 3 → s.boot.stage = .configured →
      (s.allPages.any fun e => e.2.2.2.st != .lost && (decide (e.2.2.2.upper = .t1) || e.2.2.2.writing.isSome)) = false →
      ∃ t, exec .p3EntryComplete s = .next t ∧ t.boot.stage = .p3 ∧ t.boot.lanesOk = false)) ∧
  (∀ dt s,
    let u := s.pass dt
    (u.rd .CTL_PM_STS_STATE = 3 → u.boot.stage = .configured → u.boot.p3Due ≤ u.now → exec (.p3LimitExpiry dt) s = .next (u.abandonP3 5)) ∧
    (u.now < u.boot.p3Due → exec (.p3LimitExpiry dt) s = .next u)) ∧
  (∀ dt held s, (s.pass dt).boot.stage ≠ .off →
    let u := (s.pass dt).wr .CTL_PIN_STS_PM_WAKE 0 0 (b2n held)
    (u.boot.stage = .p3 → exec (.pmWakeNAssert dt held) s = .next u.exitP3) ∧
    (u.boot.stage = .configured → u.rd .CTL_PM_STS_STATE = 3 → exec (.pmWakeNAssert dt held) s = .next (u.abandonP3 6)) ∧
    (u.boot.stage = .configured → u.rd .CTL_PM_STS_STATE ≠ 3 → exec (.pmWakeNAssert dt held) s = .next u)) ∧
  (∀ dt s,
    let u := (s.pass dt).wr .CTL_PIN_STS_PERST 0 0 1
    (u.pwr.lockout = false → u.boot.stage ≠ .off → u.boot.stage ≠ .rails → exec (.perstNAssert dt) s = .next (u.warm 2)) ∧
    (u.pwr.lockout = true → exec (.perstNAssert dt) s = .next u) ∧
    exec (.inputUndervoltage dt) s = .next (s.pass dt).powerOff ∧ exec (.inputOvervoltage dt) s = .next (s.pass dt).powerOff ∧
    ((s.pass dt).powerOff).boot.stage = .off) ∧
  (∀ die unit code s, die < 6 → s.boot.stage ≠ .failed → s.boot.stage ≠ .off → s.boot.stage ≠ .rails →
    ∃ t, exec (.wholeFlewickFailure die unit code) s = .next t ∧ t.boot.stage = .failed ∧ t.boot.failUnit = (if die = 5 then unit % 8 else 0) ∧
      t.boot.failCode = code % 2 ^ 32 ∧ t.boot.failRt = s.rd .CTL_RT_TIME_COUNT ∧ t.boot.failHti = s.now ∧ t.hti.cmds = [] ∧ t.ses.tab = []) ∧
  (∀ s, s.powered = true → s.boot.stage ≠ .failed →
    exec .refclkLoss s = .next (s.tickFree.tickFree.wholeFailure (s.free % 5) 0 (s.tickFree.free % 2 ^ 32) false))

/-- R500, R502 to R506, R508, R510, R529. -/
def Obligations.PowerAndHeat : Prop :=
  (∀ dt s, (s.pass dt).powered = true →
    let u := s.pass dt
    exec (.inputLowVin dt) s = .next ((((u.setCause cLowVin true).wr .CTL_PIN_STS_PWR_ALERT 0 0 1).bump .PWR_CNT_COUNT 7 0 1).withdrawClock) ∧
    exec (.lowVinClear dt) s = .next ((u.setCause cLowVin false).wr .CTL_PIN_STS_PWR_ALERT 0 0 0) ∧
    exec (.vinHighRideThrough dt true) s = .next (u.wr .CTL_PIN_STS_PWR_ALERT 0 0 1) ∧
    exec (.vinHighRideThrough dt false) s = .next (u.wr .CTL_PIN_STS_PWR_ALERT 0 0 (b2n (u.bit .PWR_STS_CAUSE cLowVin)))) ∧
  (∀ dt s, (s.pass dt).powered = true →
    let u := (s.pass dt).payDebt
    (u.pwr.debt ≠ 0 → exec (.drogueAdmit dt) s = .next u) ∧
    (u.wakeHold = true → exec (.drogueAdmit dt) s = .next u) ∧
    (u.pwr.debt = 0 → u.wakeHold = false → u.pwr.wakes = [] → exec (.drogueAdmit dt) s = .next u) ∧
    (∀ w t, u.pwr.debt = 0 → u.wakeHold = false → u.pwr.wakes = w :: t →
      let deci := u.pwr.deciRem + w.deci
      let wait := u.now - w.at_
      let a := (u.setPwr { u.pwr with wakes := t, debt := (w.deci : Rat) / 10, deciRem := deci % 10 }).refreshDrogue
      let b := (a.bump .PWR_CNT_COUNT 1 0 (deci / 10)).bump .PWR_CNT_COUNT 2 0 wait
      exec (.drogueAdmit dt) s = .next ((b.wr .PWR_DROGUE_MAX_WAIT 0 0 (max (b.rd .PWR_DROGUE_MAX_WAIT) (min wait (2 ^ 32 - 1)))).startLoad w))) ∧
  (∀ dt p100 i10 p1 vin s, (s.pass dt).powered = true → (s.pass dt).boot.diesOff = false →
    let u := s.pass dt
    let a := ((u.wr .PWR_STS_VIN_MV 0 0 vin).wr .PWR_STS_IIN_MA 0 0 i10).wr .PWR_STS_PIN_W 0 0 p1
    let b := a.setPwr { a.pwr with overs := (a.pwr.overs * 2 + b2n (decide (a.rd .PWR_LIMIT_TDP_W < p1))) % 2 ^ 1000 }
    let c := b.setCause cDriver (decide (b.rd .PWR_CLK_MAX_MHZ < 4800))
    let fin (x : State) : Host.Outcome State Fault Refusal :=
      let y := if x.clockAsked && !x.mayStepUp p1 then x.withdrawClock else x
      let z := if y.noDrop then y.setCause cPeak false else y
      .next (if p1 + 25 ≤ a.rd .PWR_LIMIT_TDP_W then (z.setCause cAverage false).unshed else z)
    (c.rd .PWR_LIMIT_PEAK_W < p100 ∨ 25000 < i10 →
      let d := (c.setRoot (max (b.rd .PWR_CLK_ROOT_MHZ - 400) 2400)).bump .PWR_CNT_COUNT 6 0 1
      exec (.limiterTick dt p100 i10 p1 vin) s = fin ((d.setPwr { d.pwr with dropAt := some d.now }).setCause cPeak true)) ∧
    (p100 ≤ c.rd .PWR_LIMIT_PEAK_W → i10 ≤ 25000 → popcount 1000 c.pwr.overs < 500 → b.rd .PWR_CLK_ROOT_MHZ ≤ c.rootCeiling → c.mayStepUp p1 = false →
      exec (.limiterTick dt p100 i10 p1 vin) s = fin c)) ∧
  (∀ dt temps s, (s.pass dt).powered = true → (s.pass dt).boot.diesOff = false →
    let u := (temps.take 52).zipIdx.foldl (fun (s : State) (p : Option Nat × Nat) => p.1.elim s fun c => s.putTemp p.2 c) (s.pass dt)
    let j := (List.range 44).any u.hotAt
    let h := (List.range 8).any fun n => u.hotAt (44 + n)
    (j = true ∨ h = true → exec (.thermalTick dt temps) s = .next (((u.setTceil (max (u.pwr.tceil - 100) 2400)).heat cJunction j).heat cHbm h)) ∧
    (j = false → h = false → (List.range 52).all u.coolAt = false → exec (.thermalTick dt temps) s = .next u)) ∧
  (∀ dt n s, n < 52 → (s.pass dt).powered = true → (s.pass dt).boot.diesOff = false →
    let f := (s.pass dt).wholeFailure (sensorDie n) (if 44 ≤ n then n - 44 else 0) (0x100 + n) true
    let g := f.wr .CTL_PIN_STS_THERM_TRIP 0 0 1
    exec (.thermalTrip dt n) s = .next (g.setPwr { f.pwr with lockout := true })) ∧
  (∀ dt s, exec (.tripLockoutEnd dt) s = .next ((s.pass dt).setPwr { (s.pass dt).pwr with lockout := false }))

/-- R41, R164, R321, R322, R328, R364, R502, R521 to R526, R528, R530. -/
def Obligations.PinsAndLinks : Prop :=
  (∀ dt j s, j < 8 → (s.pass dt).boot.stage = .configured →
    let u := s.pass dt
    let p (b : Bool) := (u.wrBit .CTL_PIN_STS_FLASH_PRSNT 0 j b).bump .CTL_PIN_CNT_COUNT 3 0 1
    (∀ b, u.bit .CTL_PIN_STS_FLASH_PRSNT j = b → exec (.flashPrsntChange dt j b) s = .next u) ∧
    (u.bit .CTL_PIN_STS_FLASH_PRSNT j = false → (p true).boot.stage = .configured → exec (.flashPrsntChange dt j true) s = .next ((p true).askWake .flash j 24)) ∧
    (u.bit .CTL_PIN_STS_FLASH_PRSNT j = true → exec (.flashPrsntChange dt j false) s = .next
      (((driveObjects j).foldl (fun s o => s.failObject o 2 false) ((p false).driveDown j)).winch u)) ∧
    (u.on .CTL_READY_CONTROL = true → u.bit .CTL_PIN_STS_FLASH_PRSNT j = true → bitAt u.pins.refclk j = true →
      exec (.flashPerstRelease dt j) s = .next (u.wrBit .CTL_PIN_STS_FLASH_PERST 0 j false)) ∧
    (bitAt u.pins.refclk j = false → exec (.flashPerstRelease dt j) s = .next u) ∧
    (u.bit .CTL_PIN_STS_FLASH_PRSNT j = true → ((driveObjects j).any fun o => u.on .TIER_OBJ_A_UP o) = false →
      (u.pwr.wakes.any fun w => decide (w.load = .flash) && decide (w.num = j)) = false →
      exec (.flashBringupRetry dt j) s = .next ((u.driveDown j).askWake .flash j 24)) ∧
    (((driveObjects j).any fun o => u.on .TIER_OBJ_A_UP o) = true → exec (.flashBringupRetry dt j) s = .next u)) ∧
  (∀ p rate width cxl s, p < 2 → s.boot.stage = .configured →
    (s.pwr.wakes.any fun w => decide (w.load = .host) && decide (w.num = p) && decide (w.deci = 256)) = false →
    (exec (.hostPortLinkChange p 0 width cxl) s = .next
      ((((s.wr .HTI_PORT_STS_UP p 0 0).wr .HTI_PORT_STS_MODE p 0 0).wr .HTI_PORT_STS_RATE p 0 0).wr .HTI_PORT_STS_WIDTH p 0 0)) ∧
    (rate ≠ 0 → rate ≤ s.rateCap p (s.linkMode p cxl) → [1, 4, 8, 16].contains width = true → s.on .HTI_PORT_STS_UP p = false →
      exec (.hostPortLinkChange p rate width cxl) s = .next
        (((((s.wr .HTI_PORT_STS_UP p 0 1).wr .HTI_PORT_STS_MODE p 0 (s.linkMode p cxl)).wr .HTI_PORT_STS_RATE p 0 rate).wr
          .HTI_PORT_STS_WIDTH p 0 width).unadmit .host p)) ∧
    (rate ≠ 0 → s.rateCap p (s.linkMode p cxl) < rate → exec (.hostPortLinkChange p rate width cxl) s = .next s)) ∧
  (∀ p rate width s, p < 4 → s.boot.stage = .configured → s.rd .POOL_PORT_STS_MODE p ≠ 0 →
    (s.pwr.wakes.any fun w => decide (w.load = .pool) && decide (w.num = p)) = false →
    (s.rd .POOL_PORT_STS_MODE p = 1 → 1 ≤ rate → rate ≤ s.poolCap p → width = 4 ∨ width = 8 →
      exec (.poolPortLinkChange p rate width true) s = .next (s.poolUp p rate width)) ∧
    (s.rd .POOL_PORT_STS_MODE p = 2 → s.bit .CTL_PIN_STS_POOL_PERST p = true → exec (.poolPortLinkChange p rate width true) s = .next s) ∧
    (s.on .POOL_PORT_STS_UP p = false → exec (.poolPortLinkChange p rate width false) s = .next s) ∧
    (s.on .POOL_PORT_STS_UP p = true →
      let u := (((s.wr .POOL_PORT_STS_UP p 0 0).wr .POOL_PORT_STS_RATE p 0 0).wr .POOL_PORT_STS_WIDTH p 0 0).wrBit .CTL_READY_POOL 0 p false
      (u.rd .POOL_PORT_STS_MODE p = 2 → exec (.poolPortLinkChange p rate width false) s = .next
        (((u.pool.extents.filter fun e => decide (e.port = p)).foldl State.freeExtent u).winch s)) ∧
      (u.rd .POOL_PORT_STS_MODE p ≠ 2 → exec (.poolPortLinkChange p rate width false) s = .next
        ((((List.range 32).filter fun o => u.on .TIER_OBJ_A_PRESENT o && decide (u.rd .TIER_OBJ_A_PORT o = p)).foldl (fun s o => s.failObject o 2 false) u).winch s)))) ∧
  (∀ p s, p < 4 →
    (s.boot.stage = .configured → s.rd .POOL_PORT_STS_MODE p = 2 →
      exec (.poolPerstNInput p false) s = .next (s.wrBit .CTL_PIN_STS_POOL_PERST 0 p false) ∧
      exec (.poolPerstNInput p true) s = .next ((s.wrBit .CTL_PIN_STS_POOL_PERST 0 p true).poolDown p)) ∧
    (s.rd .POOL_PORT_STS_MODE p ≠ 2 → ∀ b, exec (.poolPerstNInput p b) s = .next s) ∧
    (∀ ld, s.rd .POOL_PORT_STS_MODE p = 2 → s.on .POOL_PORT_STS_UP p = true → ld < s.lds p →
      exec (.logicalDeviceBind p ld true) s = .next (s.wrBit .POOL_PORT_STS_BOUND p ld true) ∧
      (let u := s.wrBit .POOL_PORT_STS_BOUND p ld false
       exec (.logicalDeviceBind p ld false) s = .next
        ((u.pool.extents.filter fun e => decide (e.port = p) && decide (e.ld = ld) && e.revoked).foldl State.freeExtent u)))) ∧
  (∀ s, s.alive = true →
    let u := s.wr .CTL_PIN_STS_SPI_REQ 0 0 1
    (u.boot.stage = .rom → exec .spiReqAssert s = .next u) ∧
    (u.boot.stage ≠ .rom → u.on .CTL_PIN_STS_SPI_GNT = false → u.on .CTL_PIN_STS_SPI_REQ = true →
      exec .spiReqAssert s = .next ((u.wr .CTL_PIN_STS_SPI_GNT 0 0 1).bump .CTL_PIN_CNT_COUNT 1 0 1)) ∧
    exec .spiReqDeassert s = .next ((s.wr .CTL_PIN_STS_SPI_REQ 0 0 0).wr .CTL_PIN_STS_SPI_GNT 0 0 0) ∧
    (∀ d, exec (.jtagTapOperation (.bypass d)) s = .next (s.emit (.serial 2 (2 * d)))) ∧
    exec (.jtagTapOperation .idcode) s = .next (s.emit (.serial 2 Config.idcode)) ∧
    (∀ n d, s.rd .SEC_DEBUG_STATE = 0 → exec (.jtagTapOperation (.other n d)) s = .next (s.emit (.serial 2 (2 * d)))) ∧
    (∀ n d, s.rd .SEC_DEBUG_STATE ≠ 0 → exec (.jtagTapOperation (.other n d)) s = .next (s.tickFree.emit (.serial 2 s.free)))) ∧
  (∀ dt s, (s.pass dt).boot.stage = .configured →
    let u := (s.pass dt).bump .CTL_PIN_CNT_COUNT 0 0 1
    exec (.svcAttnPress dt false) s = .next u ∧
    (u.evacuating = true → exec (.svcAttnPress dt true) s = .next u) ∧
    (u.evacuating = false → u.on .RING_EVAC_BTN_EN = true → u.rd .RING_STS_MEMBER = 1 →
      exec (.svcAttnPress dt true) s = .next (u.startEvac 0 [] (u.on .RING_EVAC_MODE) (u.rd .RING_EVAC_LIMIT_S))) ∧
    (u.evacuating = false → u.on .RING_EVAC_BTN_EN = false → exec (.svcAttnPress dt true) s = .next
      ((u.setPins { u.pins with blink := some (u.pins.blink.getD (u.rd .RING_LED_SERVICE)) }).wr .RING_LED_SERVICE 0 0 1))) ∧
  (∀ dt s,
    let u := s.pass dt
    (∀ v, u.pins.blink = some v → exec (.serviceLedBlinkEnd dt) s = .next ((u.setPins { u.pins with blink := none }).wr .RING_LED_SERVICE 0 0 v)) ∧
    (u.pins.blink = none → exec (.serviceLedBlinkEnd dt) s = .next u)) ∧
  (∀ addr s, s.boot.stage = .configured → s.pwr.lockout = false →
    (s.pins.i3c = none → exec (.i3cEntdaa addr) s = .next (s.setPins { s.pins with i3c := some (addr % 128) })) ∧
    (∀ a, s.pins.i3c = some a → exec (.i3cEntdaa addr) s = .next s))

/-- R435 to R437, R439. -/
def Obligations.InterfaceStates : Prop :=
  ∀ port sid x s c, port < 2 → s.spdmOn port = true → s.spdmSess port sid = some x → x.open_ = true → c < 64 →
    let missing := s.tdispError port 0x101
    let wrong := s.tdispError port 4
    let reserved := s.on .HTI_W_AQCFG_EN c || s.holdsAny c || s.on .SEC_DEBUG_STATE
    (s.rd .SEC_CTX_TDI c = 0 ∨ s.port c ≠ port → ∀ stream reads kind,
      exec (.lockInterfaceRequest port sid c stream) s = .next missing ∧
      exec (.startInterfaceRequest port sid c) s = .next missing ∧
      exec (.stopInterfaceRequest port sid c reads) s = .next missing ∧
      exec (.tdispGetRequest port sid c kind) s = .next missing) ∧
    (s.rd .SEC_CTX_TDI c ≠ 0 → s.port c = port →
      (∀ stream, s.rd .SEC_CTX_TDI c = 1 →
        let v := ((s.bridleZero c).eraseKeys c).newStorage c
        let w := v.setSec { v.sec with tdiStream := Map.put v.sec.tdiStream c stream }
        let t := (w.wr .SEC_CTX_TDI c 0 2).bump .SEC_CNT_COUNT 7 0 1
        (reserved = false → exec (.lockInterfaceRequest port sid c stream) s = .next (t.tdisp port 3 32 (t.free / 2 ^ 32)).tickFree) ∧
        (reserved = true → exec (.lockInterfaceRequest port sid c stream) s = .next (s.tdispError port 0x104))) ∧
      (∀ stream, s.rd .SEC_CTX_TDI c ≠ 1 → exec (.lockInterfaceRequest port sid c stream) s = .next wrong) ∧
      (s.rd .SEC_CTX_TDI c = 2 → exec (.startInterfaceRequest port sid c) s = .next ((s.wr .SEC_CTX_TDI c 0 3).tdisp port 6 0 0)) ∧
      (s.rd .SEC_CTX_TDI c ≠ 2 → exec (.startInterfaceRequest port sid c) s = .next wrong) ∧
      (∀ reads, s.locked c = true →
        let u := (((s.scrub c reads).eraseKeys c).newStorage c).bridleZero c
        let v := u.setSec { u.sec with tdiStream := Map.del u.sec.tdiStream c }
        exec (.stopInterfaceRequest port sid c reads) s = .next ((((v.wr .SEC_CTX_TDI c 0 1).refreshTdi c).tdisp port 7 0 0).winch s)) ∧
      (∀ reads, s.locked c = false → exec (.stopInterfaceRequest port sid c reads) s = .next wrong) ∧
      exec (.tdispGetRequest port sid c 0) s = .next (s.tdisp port 1 2 0x1001) ∧
      exec (.tdispGetRequest port sid c 3) s = .next (s.tdisp port 5 1 (s.rd .SEC_CTX_TDI c - 1)) ∧
      (s.locked c = false → exec (.tdispGetRequest port sid c 2) s = .next wrong) ∧
      (s.locked c = true → exec (.tdispGetRequest port sid c 2) s = .next (s.tdisp port 4 (56 + 8 * (frozenRegs c).length) (s.tdiReport c)).tickFree) ∧
      (∀ kind, 3 < kind → exec (.tdispGetRequest port sid c kind) s = .next (s.tdispError port 7)))

/-- R347, R348. -/
def Obligations.SealedFramesOpen : Prop :=
  ∀ (s t : State) f k colour hops dateline, f.enc = true → f.data < 2 ^ (8 * f.len) → s.frameKey f = some k → t.frameKey f = some k → t.keyHere f = true →
    let g : RFrame := { f with colour := colour, hops := hops, dateline := dateline, data := s.sealed f }
    t.tagGood g = true ∧ gcmOpen k (frameIv g) 32 (frameAad g) g.len g.data = some f.data

/-- R345, R346. -/
def Obligations.FramesOnTheLink : Prop :=
  ∀ (s : State) p f, RFrame.wf f = true →
    let q := (Map.find s.ring.lseq p).getD 0
    let n := frameBytes f
    ∃ b, (s.putFrame p f).out = s.out ++ [.frame p b] ∧ Map.find (s.putFrame p f).ring.lseq p = some ((q + 1) % 4096) ∧
      tileField b 0 1 = 1 ∧
      tileField b 1 1 % 8 = f.vc ∧ tileField b 1 1 / 8 % 2 = b2n f.enc ∧ tileField b 1 1 / 16 = f.key ∧
      tileField b 2 1 % 4 = f.colour ∧ tileField b 2 1 / 4 = f.hops ∧
      (∀ i v, [f.set, f.xneg, f.yneg, f.dateline, f.fabric, f.first, f.last, f.yfirst][i]? = some v → tileField b 3 1 / 2 ^ i % 2 = b2n v) ∧
      tileField b 4 2 = f.dst ∧ tileField b 6 2 % 2 ^ 10 = f.src ∧ tileField b 6 2 / 2 ^ 10 = f.boot ∧
      tileField b 8 1 = f.ctx ∧ tileField b 9 1 = f.kind ∧ tileField b 10 2 = f.len ∧ tileField b 12 4 = f.seq ∧
      tileField b 16 8 = f.ivc ∧ tileField b 24 4 = f.msg ∧ tileField b 28 4 = f.offset ∧
      tileField b 32 (n - 32) = f.data ∧
      tileField b n 4 = crc32c n (tileField b 0 n) ∧ tileField b (n + 4) 2 = q % 4096 ∧ b / 2 ^ (8 * (n + 6)) = 0
end

