-- ==== Sys2Proof/Laws/Tables.lean ====
section
/-! SUPPORT. Sparse tables: what a lookup finds after an update, and that every update keeps the canonical form. -/

namespace Sys2Proof.Machine

theorem Map.find_put_same {α : Type} (m : Map α) (k : Nat) (v : α) : Map.find (Map.put m k v) k = some v := by
  induction m with
  | nil => simp [Map.put, Map.find]
  | cons p t ih =>
    obtain ⟨a, x⟩ := p
    by_cases h1 : k < a
    · simp [Map.put, h1, Map.find]
    · by_cases h2 : a = k
      · simp [Map.put, h2, Map.find]
      · simp [Map.put, h1, h2, Map.find, ih]

theorem Map.find_put_ne {α : Type} (m : Map α) {k k' : Nat} (v : α) (h : k ≠ k') :
    Map.find (Map.put m k v) k' = Map.find m k' := by
  induction m with
  | nil => simp [Map.put, Map.find, h]
  | cons p t ih =>
    obtain ⟨a, x⟩ := p
    by_cases h1 : k < a
    · simp [Map.put, h1, Map.find, h]
    · by_cases h2 : a = k
      · subst h2; simp [Map.put, Map.find, h]
      · simp [Map.put, h1, h2, Map.find, ih]

theorem Map.find_del_same {α : Type} (m : Map α) (k : Nat) : Map.find (Map.del m k) k = none := by
  induction m with
  | nil => rfl
  | cons p t ih =>
    obtain ⟨a, x⟩ := p
    by_cases h : a = k
    · simpa [Map.del, h] using ih
    · simp only [Map.del] at ih
      simp [Map.del, h, Map.find, ih]

theorem Map.find_del_ne {α : Type} (m : Map α) {k k' : Nat} (h : k ≠ k') :
    Map.find (Map.del m k) k' = Map.find m k' := by
  induction m with
  | nil => rfl
  | cons p t ih =>
    obtain ⟨a, x⟩ := p
    simp only [Map.del] at ih
    by_cases h2 : a = k
    · subst h2; simp [Map.del, Map.find, h, ih]
    · simp [Map.del, h2, Map.find, ih]

/-- A key is listed exactly where a lookup finds it. -/
theorem Map.find_mem {α : Type} {m : Map α} {k : Nat} {v : α} (h : Map.find m k = some v) : (k, v) ∈ m := by
  induction m with
  | nil => simp [Map.find] at h
  | cons p t ih =>
    obtain ⟨a, x⟩ := p
    by_cases h2 : a = k
    · simp only [Map.find, h2, if_true, Option.some.injEq] at h
      simp [h2, h]
    · simp only [Map.find, h2, if_false] at h
      exact List.mem_cons_of_mem _ (ih h)

/-- A listed pair of an updated table is the new one or an old one. -/
theorem Map.mem_put {α : Type} {m : Map α} {k : Nat} {v : α} {p : Nat × α} (h : p ∈ Map.put m k v) :
    p = (k, v) ∨ p ∈ m := by
  induction m with
  | nil => simpa [Map.put] using h
  | cons q t ih =>
    obtain ⟨a, x⟩ := q
    simp only [Map.put] at h
    split at h
    · simpa using h
    · split at h <;> simp only [List.mem_cons] at h ⊢
      · tauto
      · rcases h with h | h
        · exact .inr (.inl h)
        · rcases ih h with h | h <;> tauto

theorem Map.wf_put {α : Type} {m : Map α} (h : Map.wf m = true) (k : Nat) (v : α) : Map.wf (Map.put m k v) = true := by
  simp only [Map.wf, decide_eq_true_eq] at h ⊢
  induction m with
  | nil => simp [Map.put]
  | cons p t ih =>
    obtain ⟨a, x⟩ := p
    simp only [List.pairwise_cons] at h
    simp only [Map.put]
    split
    · simp only [List.pairwise_cons, List.mem_cons, forall_eq_or_imp]
      exact ⟨⟨by assumption, fun q hq => by have := h.1 q hq; omega⟩, h⟩
    · split
      · subst k; simpa using h
      · simp only [List.pairwise_cons]
        refine ⟨fun q hq => ?_, ih h.2⟩
        rcases Map.mem_put hq with rfl | hq
        · simp only; omega
        · exact h.1 q hq

theorem Map.wf_del {α : Type} {m : Map α} (h : Map.wf m = true) (k : Nat) : Map.wf (Map.del m k) = true := by
  simp only [Map.wf, decide_eq_true_eq] at h ⊢
  exact h.filter _

theorem Map.wf_upd {α : Type} {m : Map α} (h : Map.wf m = true) (k : Nat) (f : α → α) : Map.wf (Map.upd m k f) = true := by
  unfold Map.upd
  split
  · exact Map.wf_put h _ _
  · exact h

end Sys2Proof.Machine
end

