-- ==== Sys2Proof/Laws/Registers.lean ====
section
/-! SUPPORT. The register file: what a field reads after a write, and that every write keeps the canonical form. -/

namespace Sys2Proof.Machine

theorem allFields_num : allFields.map Fld.ctorIdx = List.range 500 := by decide +kernel
theorem num_lt (f : Fld) : f.ctorIdx < 500 := by cases f <;> decide

/-- The list of fields holds every field at its number. -/
theorem ofNum_num (f : Fld) : Fld.ofNum f.num = some f := by
  have hl := congrArg List.length allFields_num
  rw [List.length_map, List.length_range] at hl
  have hf : f.ctorIdx < allFields.length := by rw [hl]; exact num_lt f
  have he : (allFields[f.ctorIdx]'hf).ctorIdx = f.ctorIdx := by
    have h := List.getElem_map Fld.ctorIdx (l := allFields) (i := f.ctorIdx) (h := by simpa using hf)
    rw [← h]
    simp [allFields_num]
  have hg : allFields[f.ctorIdx]'hf = f := by rw [← Fld.ofNat_ctorIdx (allFields[f.ctorIdx]'hf), he, Fld.ofNat_ctorIdx]
  simp [Fld.ofNum, Fld.num, hg, hf]

theorem keyField_key (f : Fld) (i j : Nat) : keyField (f.key i j) = some f := by
  have : f.key i j / 4294967296 = f.num := by unfold Fld.key; omega
  rw [keyField, this, ofNum_num]

theorem keyI_key (f : Fld) (i j : Nat) : keyI (f.key i j) = i % 65536 := by unfold keyI Fld.key; omega
theorem keyJ_key (f : Fld) (i j : Nat) : keyJ (f.key i j) = j % 65536 := by unfold keyJ Fld.key; omega

/-- Two instances share a key only where they are one field and the same indexes. -/
theorem key_inj {f g : Fld} {i j i' j' : Nat} (h : f.key i j = g.key i' j') :
    f = g ∧ i % 65536 = i' % 65536 ∧ j % 65536 = j' % 65536 := by
  refine ⟨?_, ?_, ?_⟩
  · have := congrArg keyField h
    simpa [keyField_key] using this
  · have := congrArg keyI h
    simpa [keyI_key] using this
  · have := congrArg keyJ h
    simpa [keyJ_key] using this

theorem regDefault_key (f : Fld) (i j : Nat) : regDefault (f.key i j) = f.dflt (i % 65536) := by
  simp [regDefault, keyField_key, keyI_key]
theorem regWidth_key (f : Fld) (i j : Nat) : regWidth (f.key i j) = f.info.w := by simp [regWidth, keyField_key]

theorem regGet_regSet_same (r : Map Nat) (k v : Nat) : regGet (regSet r k v) k = v % 2 ^ regWidth k := by
  unfold regSet regGet
  split
  · simp [Map.find_del_same, *]
  · simp [Map.find_put_same]

theorem regGet_regSet_ne (r : Map Nat) {k k' : Nat} (v : Nat) (h : k ≠ k') : regGet (regSet r k v) k' = regGet r k' := by
  unfold regSet regGet
  split
  · rw [Map.find_del_ne _ h]
  · rw [Map.find_put_ne _ _ h]

/-- A write of a register keeps the register file's canonical form. -/
theorem regSet_wf {r : Map Nat} (h : regsWf r = true) (k v : Nat) : regsWf (regSet r k v) = true := by
  simp only [regsWf, Bool.and_eq_true, List.all_eq_true] at h ⊢
  unfold regSet
  split
  · refine ⟨Map.wf_del h.1 _, fun p hp => h.2 p ?_⟩
    exact List.mem_of_mem_filter hp
  · rename_i hne
    refine ⟨Map.wf_put h.1 _ _, fun p hp => ?_⟩
    rcases Map.mem_put hp with rfl | hp
    · simp only [Bool.and_eq_true, bne_iff_ne, ne_eq, decide_eq_true_eq]
      exact ⟨hne, Nat.mod_lt _ (Nat.two_pow_pos _)⟩
    · exact h.2 p hp

theorem regsWf_reset : regsWf State.reset.regs = true := by decide

/-- A field reads what was written, cut to its width. -/
@[simp] theorem rd_wr_same (s : State) (f : Fld) (i j v : Nat) : (s.wr f i j v).rd f i j = v % 2 ^ f.info.w := by
  simp [State.rd, State.wr, regGet_regSet_same, regWidth_key]

theorem rd_wr_ne (s : State) {f g : Fld} {i j i' j' : Nat} (v : Nat) (h : f.key i j ≠ g.key i' j') :
    (s.wr f i j v).rd g i' j' = s.rd g i' j' := by
  simp only [State.rd, State.wr]
  exact regGet_regSet_ne _ _ h

/-- A write of one field leaves every other field as it is. -/
theorem rd_wr_field (s : State) {f g : Fld} (i j v i' j' : Nat) (h : f ≠ g) :
    (s.wr f i j v).rd g i' j' = s.rd g i' j' :=
  rd_wr_ne s v fun e => h (key_inj e).1

/-- A field reads below two to the power of its width, in a canonical register file whose defaults fit. -/
theorem wr_regsWf {s : State} (h : regsWf s.regs = true) (f : Fld) (i j v : Nat) : regsWf (s.wr f i j v).regs = true :=
  regSet_wf h _ _

/-- A counter counts up to its largest value and stays there (R29). -/
theorem rd_bump_same (s : State) (f : Fld) (i j n : Nat) :
    (s.bump f i j n).rd f i j = min (s.rd f i j + n) (2 ^ f.info.w - 1) := by
  have h := Nat.two_pow_pos f.info.w
  rw [State.bump, rd_wr_same, Nat.mod_eq_of_lt]
  omega

theorem rd_bump_field (s : State) {f g : Fld} (i j n i' j' : Nat) (h : f ≠ g) : (s.bump f i j n).rd g i' j' = s.rd g i' j' :=
  rd_wr_field s _ _ _ _ _ h

/-- After one value is written to several instances of a field, each listed instance reads it. -/
theorem rd_wrAll_mem (s : State) (f : Fld) (l : List (Nat × Nat)) (v i j : Nat) (h : (i, j) ∈ l) :
    (s.wrAll f l v).rd f i j = v % 2 ^ f.info.w := by
  suffices H : ∀ (l : List (Nat × Nat)) (s : State), (s.rd f i j = v % 2 ^ f.info.w ∨ (i, j) ∈ l) →
      (s.wrAll f l v).rd f i j = v % 2 ^ f.info.w from H l s (.inr h)
  intro l
  induction l with
  | nil =>
    intro s h
    rcases h with h | h
    · exact h
    · simp at h
  | cons p t ih =>
    intro s h
    refine ih (s.wr f p.1 p.2 v) ?_
    by_cases hk : f.key p.1 p.2 = f.key i j
    · left
      have := rd_wr_same s f p.1 p.2 v
      simpa only [State.rd, hk] using this
    · rcases h with h | h
      · left; rw [rd_wr_ne s v hk, h]
      · rcases List.mem_cons.mp h with h | h
        · exact absurd (by rw [← h]) hk
        · exact .inr h

theorem rd_wrAll_field (s : State) {f g : Fld} (l : List (Nat × Nat)) (v i j : Nat) (h : f ≠ g) :
    (s.wrAll f l v).rd g i j = s.rd g i j := by
  induction l generalizing s with
  | nil => rfl
  | cons p t ih => exact (ih (s.wr f p.1 p.2 v)).trans (rd_wr_field s _ _ _ _ _ h)

theorem mem_instances {iN jN i j : Nat} (hi : i < iN) (hj : j < jN) : (i, j) ∈ instances iN jN := by
  simp only [instances, List.mem_flatMap, List.mem_map, List.mem_range]
  exact ⟨i, hi, j, hj, rfl⟩

/-- Every counter of a group reads zero once the group is cleared (R29). -/
theorem rd_zeroAll (s : State) (f : Fld) {i j : Nat} (hi : i < f.info.iN) (hj : j < f.info.jN) : (s.zeroAll f).rd f i j = 0 := by
  rw [State.zeroAll, rd_wrAll_mem s f _ 0 i j (mem_instances hi hj), Nat.zero_mod]

theorem rd_zeroAll_field (s : State) {f g : Fld} (i j : Nat) (h : f ≠ g) : (s.zeroAll f).rd g i j = s.rd g i j :=
  rd_wrAll_field s _ _ _ _ h

theorem wrAll_regsWf {s : State} (h : regsWf s.regs = true) (f : Fld) (l : List (Nat × Nat)) (v : Nat) :
    regsWf (s.wrAll f l v).regs = true := by
  induction l generalizing s with
  | nil => exact h
  | cons p t ih => exact ih (wr_regsWf h _ _ _ _)

end Sys2Proof.Machine
end

