-- ==== Sys2Proof/Laws/Changes.lean ====
section
/-! SUPPORT. `OnlyRegs` for the operations that write register fields, what a written word leaves in the fields of its register, and what
an open window and a command that may run come to. -/

namespace Sys2Proof.Machine

variable {l : List Fld} {a b c : State}

theorem OnlyRegs.refl (l : List Fld) (s : State) : OnlyRegs l s s := ⟨⟨_, rfl⟩, fun _ _ _ _ => rfl⟩

theorem OnlyRegs.trans (h : OnlyRegs l a b) (k : OnlyRegs l b c) : OnlyRegs l a c := by
  obtain ⟨⟨r, rfl⟩, h⟩ := h
  obtain ⟨⟨q, rfl⟩, k⟩ := k
  exact ⟨⟨q, rfl⟩, fun f hf i j => (k f hf i j).trans (h f hf i j)⟩

theorem OnlyRegs.mono {m : List Fld} (h : OnlyRegs l a b) (hm : l ⊆ m) : OnlyRegs m a b := ⟨h.1, fun f hf => h.2 f fun x => hf (hm x)⟩

theorem onlyRegs_wr (s : State) {f : Fld} (i j v : Nat) (hf : f ∈ l) : OnlyRegs l s (s.wr f i j v) :=
  ⟨⟨_, rfl⟩, fun g hg _ _ => rd_wr_field _ _ _ _ _ _ (by rintro rfl; exact hg hf)⟩

theorem onlyRegs_bump (s : State) {f : Fld} (i j n : Nat) (hf : f ∈ l) : OnlyRegs l s (s.bump f i j n) := onlyRegs_wr s i j _ hf

theorem onlyRegs_put (s : State) {f : Fld} (i j v : Nat) (hf : f ∈ l) : OnlyRegs l s (s.put f i j v) := by
  unfold State.put
  split
  · exact onlyRegs_wr s i j v hf
  · exact .refl _ _

theorem onlyRegs_wrAll (s : State) {f : Fld} (L : List (Nat × Nat)) (v : Nat) (hf : f ∈ l) : OnlyRegs l s (s.wrAll f L v) := by
  induction L generalizing s with
  | nil => exact .refl _ _
  | cons p t ih => exact (onlyRegs_wr s p.1 p.2 v hf).trans (ih _)

theorem onlyRegs_zeroAll (s : State) {f : Fld} (hf : f ∈ l) : OnlyRegs l s (s.zeroAll f) := onlyRegs_wrAll s _ _ hf

theorem onlyRegs_putWord (s : State) (fs : List Fld) (i j word : Nat) (hf : fs ⊆ l) : OnlyRegs l s (s.putWord fs i j word) := by
  induction fs generalizing s with
  | nil => exact .refl _ _
  | cons f t ih =>
    exact (onlyRegs_put s i j _ (hf List.mem_cons_self)).trans (ih _ fun x hx => hf (List.mem_cons_of_mem _ hx))

theorem widths_pos : ((List.range 500).all fun n => decide (0 < (Fld.ofNat n).info.w)) = true := by decide +kernel
theorem width_pos (f : Fld) : 0 < f.info.w := by
  have h := List.all_eq_true.mp widths_pos f.ctorIdx (List.mem_range.mpr (num_lt f))
  have e : Fld.ofNat f.ctorIdx = f := by cases f <;> rfl
  rw [e] at h
  exact of_decide_eq_true h

/-- What a word gives to a field fits the field. -/
theorem fieldOf_lt (f : Fld) (word : Nat) : fieldOf f word < 2 ^ f.info.w := by
  have h := width_pos f
  have e : f.info.lo + f.info.w - 1 + 1 - f.info.lo = f.info.w := by omega
  unfold fieldOf bitsOf
  rw [e]
  exact Nat.mod_lt _ (Nat.two_pow_pos _)

/-- A legal value that fits the field is what the field reads after the write. -/
theorem rd_put_same (s : State) (f : Fld) (i j word : Nat) (h : f.legal (fieldOf f word) = true) :
    (s.put f i j (fieldOf f word)).rd f i j = fieldOf f word := by
  rw [State.put, if_pos h, rd_wr_same, Nat.mod_eq_of_lt (fieldOf_lt f word)]

theorem rd_put_field (s : State) {f g : Fld} (i j v i' j' : Nat) (h : f ≠ g) : (s.put f i j v).rd g i' j' = s.rd g i' j' := by
  unfold State.put
  split
  · exact rd_wr_field _ _ _ _ _ _ h
  · rfl

/-- After a word is written to a register, each field whose value is legal reads its part of the word. -/
theorem rd_putWord (s : State) (fs : List Fld) (i j word : Nat) (hn : fs.Nodup) {f : Fld} (hf : f ∈ fs)
    (h : f.legal (fieldOf f word) = true) : (s.putWord fs i j word).rd f i j = fieldOf f word := by
  induction fs generalizing s with
  | nil => cases hf
  | cons g t ih =>
    rw [List.nodup_cons] at hn
    by_cases e : f ∈ t
    · exact ih (s.put g i j (fieldOf g word)) hn.2 e
    · have e' : f = g := by simpa [e] using hf
      subst e'
      exact ((onlyRegs_putWord (l := t) (s.put f i j (fieldOf f word)) t i j word fun _ x => x).2 f e i j).trans (rd_put_same s f i j word h)

/-! ### Windows and commands -/

/-- A write through an open window has its effect. -/
theorem window_of_open {s : State} {port c : Nat} (h : s.windowOpen port c = true) (off : Nat) (f : State → State) :
    s.window port c off f = f s := by
  simp only [State.windowOpen, Bool.and_eq_true, decide_eq_true_eq, Bool.not_eq_true'] at h
  obtain ⟨⟨⟨h1, h2⟩, h3⟩, h4⟩ := h
  simp only [State.window, h1, h2, Bool.not_true, Bool.false_eq_true, if_false, bne_self_eq_false, h4]
  rw [h3]
  rfl

/-- A write of a whole 64-bit register of a block that is on has its effect, on the state with its lower half latched. -/
theorem hostWrite64_of_on {s : State} {r : Fld} (i word : Nat) (f : State → State) (h : s.blkOn r.info.blk = true) :
    s.hostWrite64 r i word f = f (s.latched (r.bar0 i 0) word) := by
  simp only [State.hostWrite64, State.hostWrite, h, if_true]

/-- A command's own phase does not count in the bytes of its context's other requests. -/
theorem bytesInFlight_setPhase {s : State} {k : Nat} {p : CmdPhase} {c : Cmd} (h : c.id = k) :
    (s.setPhase k p).bytesInFlight c = s.bytesInFlight c := by
  subst h
  simp only [State.bytesInFlight, State.setPhase, State.setCmds, List.foldl_map]
  congr 1
  funext a d
  by_cases e : d.id = c.id <;> simp [e]

/-- A phase of a command leaves the backed bytes of every context. -/
@[simp] theorem backed_setPhase (s : State) (k : Nat) (p : CmdPhase) (c : Nat) : (s.setPhase k p).backed c = s.backed c := by
  unfold State.backed
  rfl

/-- The command found at a number has that number. -/
theorem cmd_id {s : State} {k : Nat} {c : Cmd} (h : s.cmd k = some c) : c.id = k := by
  have := List.find?_some h
  simpa using this

/-- A command that may run, of the row's form and with the row's own conditions met, runs the row's meaning. -/
theorem begin_of_mayRun {s : State} {k op : Nat} {c : Cmd} (h : s.mayRun k op c) {form : Desc → Bool} {ready live : Cmd → Bool}
    (body : Cmd → State → State) (hf : form c.desc = true) (hr : ready c = true) (hl : live c = true) :
    s.begin k op form ready live body = body c (s.setPhase k .running) := by
  obtain ⟨h1, h2, h3, h4, h5, h6⟩ := h
  have h5' : (!(s.on .CTL_RESET_SOFT && namesSession op)) = true := by rw [h5]; rfl
  simp only [State.begin, h1, h2, h3, h4, hf, hr, hl, h5', h6, decide_true, Bool.and_self, if_true]

/-- Such a command whose object is not live completes with BAD_HANDLE. -/
theorem begin_of_dead {s : State} {k op : Nat} {c : Cmd} (h : s.mayRun k op c) {form : Desc → Bool} {ready live : Cmd → Bool}
    (body : Cmd → State → State) (hf : form c.desc = true) (hr : ready c = true) (hl : live c = false) :
    s.begin k op form ready live body = s.finish k .badHandle := by
  obtain ⟨h1, h2, h3, h4, h5, h6⟩ := h
  have h5' : (!(s.on .CTL_RESET_SOFT && namesSession op)) = true := by rw [h5]; rfl
  simp only [State.begin, h1, h2, h3, h4, hf, hr, hl, h5', decide_true, Bool.and_self, if_true, Bool.false_eq_true, if_false]

end Sys2Proof.Machine
end

