-- ==== Sys2Proof/Laws/Keeps.lean ====
section
/-! SUPPORT. What every operation of the block keeps: the register file stays canonical, the identity register keeps
its constants, no command enters or leaves the queue, free values are drawn in order, the output only grows, and
nothing changes outside the pieces that the operation may change. Each shared operation has one lemma of this form, from which
a statement about a whole step follows. -/

namespace Sys2Proof.Machine

/-- The fields of the identity register, which nothing writes. -/
def Fld.fixed (f : Fld) : Bool := f = .HTI_ID_DEVICE || f = .HTI_ID_REV

/-- From `a` to `b`, as an operation goes that may change the pieces `F`. -/
structure Keeps (F : List Piece) (a b : State) : Prop where
  regs : regsWf a.regs = true → regsWf b.regs = true
  device : a.rd .HTI_ID_DEVICE = 0x1200 → b.rd .HTI_ID_DEVICE = 0x1200
  rev : a.rd .HTI_ID_REV = 1 → b.rd .HTI_ID_REV = 1
  pending : b.pending = a.pending
  fresh : a.fresh ≤ b.fresh
  out : a.out <+: b.out
  rd : ∀ f : Fld, f.piece ∉ F → ∀ i j, b.rd f i j = a.rd f i j
  latch : .latch ∉ F → b.latch = a.latch
  hti : .hti ∉ F → b.hti = a.hti
  mbx : .mbx ∉ F → b.mbx = a.mbx
  boot : .boot ∉ F → b.boot = a.boot
  ses : .ses ∉ F → b.ses = a.ses
  tier : .tier ∉ F → b.tier = a.tier
  gore : .gore ∉ F → b.gore = a.gore
  attn : .attn ∉ F → b.attn = a.attn
  pwr : .pwr ∉ F → b.pwr = a.pwr
  pins : .pins ∉ F → b.pins = a.pins
  fab : .fab ∉ F → b.fab = a.fab
  fleet : .fleet ∉ F → b.fleet = a.fleet
  dec : .dec ∉ F → b.dec = a.dec
  pool : .pool ∉ F → b.pool = a.pool
  rcl : .rcl ∉ F → b.rcl = a.rcl
  ring : .ring ∉ F → b.ring = a.ring
  sec : .sec ∉ F → b.sec = a.sec

/-- The same for an operation that answers the state and a result. -/
def KeepsP {α : Type} (F : List Piece) (a : State) (p : State × α) : Prop := Keeps F a p.1
/-- The same for an operation that may answer no state. -/
def KeepsM (F : List Piece) (a : State) (p : Option State) : Prop := ∀ b, p = some b → Keeps F a b
/-- The same for the meaning of a command. -/
def KeepsO (F : List Piece) (a : State) (o : Host.Outcome State Fault Refusal) : Prop := ∀ b, o = .next b → Keeps F a b

variable {F : List Piece} {a b c s : State}

theorem Keeps.refl (F : List Piece) (a : State) : Keeps F a a :=
  ⟨id, id, id, rfl, le_rfl, List.prefix_rfl, fun _ _ _ _ => rfl, fun _ => rfl, fun _ => rfl, fun _ => rfl, fun _ => rfl, fun _ => rfl, fun _ =>
    rfl, fun _ => rfl, fun _ => rfl, fun _ => rfl, fun _ => rfl, fun _ => rfl, fun _ => rfl, fun _ => rfl, fun _ => rfl, fun _ => rfl, fun _ =>
      rfl, fun _ => rfl⟩

theorem Keeps.trans (h : Keeps F a b) (k : Keeps F b c) : Keeps F a c :=
  ⟨fun x => k.regs (h.regs x), fun x => k.device (h.device x), fun x => k.rev (h.rev x), k.pending.trans h.pending,
    h.fresh.trans k.fresh, h.out.trans k.out, fun f x i j => (k.rd f x i j).trans (h.rd f x i j), fun x => (k.latch x).trans (h.latch x), fun x
      => (k.hti x).trans (h.hti x), fun x => (k.mbx x).trans (h.mbx x), fun x => (k.boot x).trans (h.boot x), fun x => (k.ses x).trans (h.ses x),
        fun x => (k.tier x).trans (h.tier x), fun x => (k.gore x).trans (h.gore x), fun x => (k.attn x).trans (h.attn x), fun x => (k.pwr
          x).trans (h.pwr x), fun x => (k.pins x).trans (h.pins x), fun x => (k.fab x).trans (h.fab x), fun x => (k.fleet x).trans (h.fleet x),
            fun x => (k.dec x).trans (h.dec x), fun x => (k.pool x).trans (h.pool x), fun x => (k.rcl x).trans (h.rcl x), fun x => (k.ring
              x).trans (h.ring x), fun x => (k.sec x).trans (h.sec x)⟩

/-- What an operation keeps, in the words of the definitions. -/
theorem Keeps.sameBut (h : Keeps F a b) : SameBut F a b := by
  intro p hp
  cases p <;> first
    | exact fun f i j e => h.rd f (e ▸ hp) i j
    | exact h.latch hp
    | exact h.hti hp
    | exact h.mbx hp
    | exact h.boot hp
    | exact h.ses hp
    | exact h.tier hp
    | exact h.gore hp
    | exact h.attn hp
    | exact h.pwr hp
    | exact h.pins hp
    | exact h.fab hp
    | exact h.fleet hp
    | exact h.dec hp
    | exact h.pool hp
    | exact h.rcl hp
    | exact h.ring hp
    | exact h.sec hp

/-- A change of the tables alone. -/
theorem Keeps.other (h : Keeps F a b) {xlatch : Map Nat} {xhti : Hti} {xmbx : Mbx} {xboot : BootSt} {xses : Ses} {xtier : Tier} {xgore : Gore}
  {xattn : Attn} {xpwr : Pwr} {xpins : Pins} {xfab : Fab} {xfleet : Fleet} {xdec : Dec} {xpool : Pool} {xrcl : Rcl} {xring : Ring} {xsec : Sec}
    (hlatch : xlatch = b.latch ∨ .latch ∈ F := by exact .inl rfl)
    (hhti : xhti = b.hti ∨ .hti ∈ F := by exact .inl rfl)
    (hmbx : xmbx = b.mbx ∨ .mbx ∈ F := by exact .inl rfl)
    (hboot : xboot = b.boot ∨ .boot ∈ F := by exact .inl rfl)
    (hses : xses = b.ses ∨ .ses ∈ F := by exact .inl rfl)
    (htier : xtier = b.tier ∨ .tier ∈ F := by exact .inl rfl)
    (hgore : xgore = b.gore ∨ .gore ∈ F := by exact .inl rfl)
    (hattn : xattn = b.attn ∨ .attn ∈ F := by exact .inl rfl)
    (hpwr : xpwr = b.pwr ∨ .pwr ∈ F := by exact .inl rfl)
    (hpins : xpins = b.pins ∨ .pins ∈ F := by exact .inl rfl)
    (hfab : xfab = b.fab ∨ .fab ∈ F := by exact .inl rfl)
    (hfleet : xfleet = b.fleet ∨ .fleet ∈ F := by exact .inl rfl)
    (hdec : xdec = b.dec ∨ .dec ∈ F := by exact .inl rfl)
    (hpool : xpool = b.pool ∨ .pool ∈ F := by exact .inl rfl)
    (hrcl : xrcl = b.rcl ∨ .rcl ∈ F := by exact .inl rfl)
    (hring : xring = b.ring ∨ .ring ∈ F := by exact .inl rfl)
    (hsec : xsec = b.sec ∨ .sec ∈ F := by exact .inl rfl) :
    Keeps F a ⟨b.regs, xlatch, xhti, xmbx, xboot, xses, xtier, xgore, xattn, xpwr, xpins, xfab, xfleet, xdec, xpool, xrcl, xring, xsec, b.out,
      b.fresh, b.pending⟩ :=
  ⟨h.regs, h.device, h.rev, h.pending, h.fresh, h.out, h.rd,
    fun x => (hlatch.resolve_right x).trans (h.latch x),
    fun x => (hhti.resolve_right x).trans (h.hti x),
    fun x => (hmbx.resolve_right x).trans (h.mbx x),
    fun x => (hboot.resolve_right x).trans (h.boot x),
    fun x => (hses.resolve_right x).trans (h.ses x),
    fun x => (htier.resolve_right x).trans (h.tier x),
    fun x => (hgore.resolve_right x).trans (h.gore x),
    fun x => (hattn.resolve_right x).trans (h.attn x),
    fun x => (hpwr.resolve_right x).trans (h.pwr x),
    fun x => (hpins.resolve_right x).trans (h.pins x),
    fun x => (hfab.resolve_right x).trans (h.fab x),
    fun x => (hfleet.resolve_right x).trans (h.fleet x),
    fun x => (hdec.resolve_right x).trans (h.dec x),
    fun x => (hpool.resolve_right x).trans (h.pool x),
    fun x => (hrcl.resolve_right x).trans (h.rcl x),
    fun x => (hring.resolve_right x).trans (h.ring x),
    fun x => (hsec.resolve_right x).trans (h.sec x)⟩

/-- A change of the register file alone, which reads the same outside `F`. -/
theorem Keeps.file (h : Keeps F a b) {r : Map Nat} (hw : regsWf b.regs = true → regsWf r = true)
    (hd : b.rd .HTI_ID_DEVICE = 0x1200 → regGet r (Fld.key .HTI_ID_DEVICE 0 0) = 0x1200)
    (hr : b.rd .HTI_ID_REV = 1 → regGet r (Fld.key .HTI_ID_REV 0 0) = 1)
    (hk : ∀ f : Fld, f.piece ∉ F → ∀ i j, regGet r (f.key i j) = b.rd f i j) : Keeps F a { b with regs := r } :=
  ⟨fun x => hw (h.regs x), fun x => hd (h.device x), fun x => hr (h.rev x), h.pending, h.fresh, h.out,
    fun f x i j => (hk f x i j).trans (h.rd f x i j), h.latch, h.hti, h.mbx, h.boot, h.ses, h.tier, h.gore, h.attn, h.pwr, h.pins, h.fab,
      h.fleet, h.dec, h.pool, h.rcl, h.ring, h.sec⟩

/-- A field that an operation may write: not one of the identity register, and of a group in `F`. -/
def Fld.free (F : List Piece) (f : Fld) : Prop := f.fixed = false ∧ f.piece ∈ F

/-- A list of groups as a bit set. -/
def Piece.mask : List Piece → Nat
  | [] => 0
  | p :: t => Nat.lor (2 ^ p.ctorIdx) (Piece.mask t)
theorem Piece.mask_testBit (l : List Piece) (p : Piece) : (Piece.mask l).testBit p.ctorIdx = decide (p ∈ l) := by
  induction l with
  | nil => simp [Piece.mask]
  | cons q t ih =>
    have hq : q.ctorIdx = p.ctorIdx ↔ p = q := by
      constructor
      · intro h
        rw [← Piece.ofNat_ctorIdx p, ← Piece.ofNat_ctorIdx q, h]
      · rintro rfl; rfl
    have : Piece.mask (q :: t) = 2 ^ q.ctorIdx ||| Piece.mask t := rfl
    rw [this, Nat.testBit_or, Nat.testBit_two_pow, ih]
    by_cases h : p = q
    · simp [h]
    · have := mt hq.mp h
      simp [h, this]
/-- `l` lies within `m`, read off their bit sets. -/
def Piece.within (l m : List Piece) : Bool := Nat.land (Piece.mask l) (Piece.mask m) == Piece.mask l
theorem Piece.sub {l m : List Piece} (h : m ⊆ F) (k : Piece.within l m = true) : l ⊆ F := fun p hp => by
  have e : Piece.mask l &&& Piece.mask m = Piece.mask l := by simpa [Piece.within] using k
  have := congrArg (fun n => n.testBit p.ctorIdx) e
  simp only [Nat.testBit_and, Piece.mask_testBit, hp, decide_true, Bool.true_and, decide_eq_true_eq] at this
  exact h this
theorem Piece.fields {l : List Fld} {m : List Piece} (h : m ⊆ F) (k : (l.all fun f => !f.fixed && m.contains f.piece) = true) :
    ∀ f ∈ l, f.free F := fun f hf => by
  have := List.all_eq_true.mp k f hf
  simp only [Bool.and_eq_true, Bool.not_eq_true', List.contains_iff_mem] at this
  exact ⟨this.1, h this.2⟩
theorem pieces_all : ((List.range 500).all fun n => Piece.regs.contains (Fld.ofNat n).piece) = true := by decide +kernel
theorem Fld.piece_mem (f : Fld) : f.piece ∈ Piece.regs := by
  have h := List.all_eq_true.mp pieces_all f.ctorIdx (List.mem_range.mpr (num_lt f))
  simpa [Fld.ofNat_ctorIdx] using h

/-- A write of a field. -/
theorem keeps_wr {f : Fld} {i j v : Nat} (h : Keeps F a s) (hf : f.free F) : Keeps F a (s.wr f i j v) := by
  obtain ⟨hf, hF⟩ := hf
  simp only [Fld.fixed, Bool.or_eq_false_iff, decide_eq_false_iff_not] at hf
  refine h.file (fun x => regSet_wf x _ _) (fun x => ?_) (fun x => ?_) (fun g hg i' j' => ?_)
  · exact (rd_wr_field s _ _ _ _ _ hf.1).trans x
  · exact (rd_wr_field s _ _ _ _ _ hf.2).trans x
  · exact rd_wr_field s _ _ _ _ _ fun e => hg (e ▸ hF)

theorem Map.find_filter {α : Type} (r : Map α) (q : Nat → Bool) (k : Nat) :
    Map.find (r.filter fun p => q p.1) k = if q k then Map.find r k else none := by
  induction r with
  | nil => simp [Map.find]
  | cons p t ih =>
    obtain ⟨x, v⟩ := p
    by_cases hx : x = k
    · subst hx
      cases hq : q x <;> simp_all [Map.find]
    · cases hq : q x <;> simp_all [Map.find]

/-- Fields of the register file, chosen by their keys, take their Reset values. -/
theorem Keeps.filter {q : Nat → Bool} (h : Keeps F a b) (hq : ∀ f : Fld, f.piece ∉ F → ∀ i j, q (f.key i j) = true) :
    Keeps F a { b with regs := b.regs.filter fun p => q p.1 } := by
  refine h.file (fun x => ?_) (fun x => ?_) (fun x => ?_) (fun f hf i j => ?_)
  · simp only [regsWf, Bool.and_eq_true, List.all_eq_true, Map.wf, decide_eq_true_eq] at x ⊢
    exact ⟨x.1.filter _, fun p hp => x.2 p (List.mem_of_mem_filter hp)⟩
  · simp only [State.rd, regGet, Map.find_filter, regDefault_key] at x ⊢
    split
    · exact x
    · rfl
  · simp only [State.rd, regGet, Map.find_filter, regDefault_key] at x ⊢
    split
    · exact x
    · rfl
  · simp only [State.rd, regGet, Map.find_filter, hq f hf i j, if_true]

theorem KeepsP.mk {α : Type} {x : α} (h : Keeps F a s) : KeepsP F a (s, x) := h
theorem KeepsP.fst {α : Type} {x : α} {p : State × α} (e : p = (s, x)) (h : KeepsP F a p) : Keeps F a s := by
  subst e; exact h
theorem KeepsP.proj {α : Type} {p : State × α} (h : KeepsP F a p) : Keeps F a p.1 := h
theorem KeepsM.mk (h : Keeps F a s) : KeepsM F a (some s) := fun _ e => by cases e; exact h
theorem KeepsM.nil : KeepsM F a none := fun _ e => by cases e
theorem KeepsM.get {p : Option State} (e : p = some s) (h : KeepsM F a p) : Keeps F a s := h s e
theorem KeepsO.mk (h : Keeps F a s) : KeepsO F a (.next s) := fun _ e => by cases e; exact h
theorem KeepsO.get {p : Host.Outcome State Fault Refusal} (e : p = .next s) (h : KeepsO F a p) : Keeps F a s := h s e

theorem keeps_ite {q : Prop} [Decidable q] {x y : State} (hx : q → Keeps F a x) (hy : ¬ q → Keeps F a y) :
    Keeps F a (if q then x else y) := by
  split
  · exact hx ‹_›
  · exact hy ‹_›
theorem keeps_elim {α : Type} {o : Option α} {d : State} {f : α → State} (h0 : Keeps F a d) (h1 : ∀ x, Keeps F a (f x)) :
    Keeps F a (o.elim d f) := by
  cases o
  · exact h0
  · exact h1 _
theorem keepsP_ite {γ : Type} {q : Prop} [Decidable q] {x y : State × γ} (hx : q → KeepsP F a x) (hy : ¬ q → KeepsP F a y) :
    KeepsP F a (if q then x else y) := by
  split
  · exact hx ‹_›
  · exact hy ‹_›
theorem keepsP_elim {γ : Type} {α : Type} {o : Option α} {d : State × γ} {f : α → State × γ} (h0 : KeepsP F a d) (h1 : ∀ x, KeepsP F a (f x)) :
    KeepsP F a (o.elim d f) := by
  cases o
  · exact h0
  · exact h1 _
theorem keepsM_ite {q : Prop} [Decidable q] {x y : Option State} (hx : q → KeepsM F a x) (hy : ¬ q → KeepsM F a y) :
    KeepsM F a (if q then x else y) := by
  split
  · exact hx ‹_›
  · exact hy ‹_›
theorem keepsM_elim {α : Type} {o : Option α} {d : Option State} {f : α → Option State} (h0 : KeepsM F a d) (h1 : ∀ x, KeepsM F a (f x)) :
    KeepsM F a (o.elim d f) := by
  cases o
  · exact h0
  · exact h1 _
theorem keepsO_ite {q : Prop} [Decidable q] {x y : Host.Outcome State Fault Refusal} (hx : q → KeepsO F a x) (hy : ¬ q → KeepsO F a y) :
    KeepsO F a (if q then x else y) := by
  split
  · exact hx ‹_›
  · exact hy ‹_›
theorem keepsO_elim {α : Type} {o : Option α} {d : Host.Outcome State Fault Refusal} {f : α → Host.Outcome State Fault Refusal} (h0 : KeepsO F a d) (h1 : ∀ x, KeepsO F a (f x)) :
    KeepsO F a (o.elim d f) := by
  cases o
  · exact h0
  · exact h1 _
theorem keeps_foldl {α : Type} {f : State → α → State} {l : List α} (hf : ∀ s x, Keeps F a s → Keeps F a (f s x))
    (h : Keeps F a s) : Keeps F a (l.foldl f s) := by
  induction l generalizing s with
  | nil => exact h
  | cons x t ih => exact ih (hf s x h)
theorem keeps_fields {f : State → Fld → State} {l : List Fld}
    (hf : ∀ s x, x.free F → Keeps F a s → Keeps F a (f s x)) (hl : ∀ x ∈ l, x.free F) (h : Keeps F a s) :
    Keeps F a (l.foldl f s) := by
  induction l generalizing s with
  | nil => exact h
  | cons x t ih =>
    exact ih (fun y hy => hl y (List.mem_cons_of_mem _ hy)) (hf s x (hl x List.mem_cons_self) h)
theorem keeps_foldp {α γ : Type} {f : State × γ → α → State × γ} {l : List α} {s : State × γ}
    (hf : ∀ s x, KeepsP F a s → KeepsP F a (f s x)) (h : KeepsP F a s) : KeepsP F a (l.foldl f s) := by
  induction l generalizing s with
  | nil => exact h
  | cons x t ih => exact ih (hf s x h)

end Sys2Proof.Machine
end

