-- ==== Sys2Proof/Laws/KeepsOps.lean ====
section
/-! SUPPORT. `Keeps` for the operations and meanings of Machine/: Ops, RingQ, Handles, PageBytes, Bridle, PageOps, Room, WinchOps, FrameBytes, ShpOps, StepOps, SesOps, Images, PoolOps, FleetOps, LinkOps, Failure. Each lemma says what an operation may change, and
that it keeps the rest. -/

namespace Sys2Proof.Machine

set_option Elab.async false

/-! ### Ops -/

theorem keeps_tickFree {F : List Piece} {a s : State} (hs : Keeps F a s) :
    Keeps F a (State.tickFree s) := by
  exact ⟨hs.regs, hs.device, hs.rev, hs.pending, hs.fresh.trans (Nat.le_succ _), hs.out, hs.rd, hs.latch, hs.hti, hs.mbx, hs.boot, hs.ses,
      hs.tier, hs.gore, hs.attn, hs.pwr, hs.pins, hs.fab, hs.fleet, hs.dec, hs.pool, hs.rcl, hs.ring, hs.sec⟩

theorem keeps_setPair {F : List Piece} {a s : State} {c q : ℕ} {p : Pair} (hF : [.hti] ⊆ F) (hs : Keeps F a s) :
    Keeps F a (State.setPair s c q p) := by
  delta State.setPair
  exact Keeps.other hs (hhti := .inr (hF (by decide +kernel)))

theorem keeps_unlatch {F : List Piece} {a s : State} {key : ℕ} (hF : [.latch] ⊆ F) (hs : Keeps F a s) :
    Keeps F a (State.unlatch s key) := by
  delta State.unlatch
  exact Keeps.other hs (hlatch := .inr (hF (by decide +kernel)))

theorem keeps_setQfault {F : List Piece} {a s : State} {c q : ℕ} (hF : [.HTI_W_QFAULT, .HTI_W_AQCFG] ⊆ F) (hs : Keeps F a s) :
    Keeps F a (State.setQfault s c q) := by
  delta State.setQfault
  extract_lets +onlyGivenNames -merge -lift -underBinder v1
  clear_value v1
  extract_lets +onlyGivenNames -merge -lift -underBinder s2
  have h3 : Keeps F a s2 := by
    unfold s2
    exact keeps_wr hs ⟨rfl, hF (by decide +kernel)⟩
  clear_value s2
  exact keeps_ite (fun _ => keeps_wr (keeps_wr h3 ⟨rfl, hF (by decide +kernel)⟩) ⟨rfl, hF (by decide +kernel)⟩) (fun _ => h3)

theorem keeps_emit {F : List Piece} {a s : State} {o : Out} (hs : Keeps F a s) :
    Keeps F a (State.emit s o) := by
  exact ⟨hs.regs, hs.device, hs.rev, hs.pending, hs.fresh, hs.out.trans (List.prefix_append _ _), hs.rd, hs.latch, hs.hti, hs.mbx, hs.boot,
      hs.ses, hs.tier, hs.gore, hs.attn, hs.pwr, hs.pins, hs.fab, hs.fleet, hs.dec, hs.pool, hs.rcl, hs.ring, hs.sec⟩

theorem keeps_bump {F : List Piece} {a s : State} {f : Fld} {i j n : ℕ} (hs : Keeps F a s) (hf : f.free F) :
    Keeps F a (State.bump s f i j n) := by
  delta State.bump
  exact keeps_wr hs hf

theorem keeps_raiseVec {F : List Piece} {a s : State} {c v : ℕ} (hF : [.HTI_CNT] ⊆ F) (hs : Keeps F a s) :
    Keeps F a (State.raiseVec s c v) := by
  delta State.raiseVec
  refine keeps_ite (fun _ => hs) (fun _ => ?_)
  extract_lets +onlyGivenNames -merge -lift -underBinder v1
  clear_value v1
  extract_lets +onlyGivenNames -merge -lift -underBinder s2
  have h3 : Keeps F a s2 := by
    unfold s2
    exact keeps_bump hs ⟨rfl, hF (by decide +kernel)⟩
  clear_value s2
  exact keeps_ite (fun _ => keeps_emit h3) (fun _ => keeps_emit h3)

theorem keeps_wrBit {F : List Piece} {a s : State} {f : Fld} {i n : ℕ} {b : Bool} (hs : Keeps F a s) (hf : f.free F) :
    Keeps F a (State.wrBit s f i n b) := by
  delta State.wrBit
  exact keeps_wr hs hf

theorem keeps_sumWrite {F : List Piece} {a s : State} {p : ℕ} (hF : [.mbx] ⊆ F) (hs : Keeps F a s) :
    Keeps F a (State.sumWrite s p) := by
  delta State.sumWrite
  refine keeps_ite (fun _ => Keeps.other hs (hmbx := .inr (hF (by decide +kernel)))) (fun _ => ?_)
  extract_lets +onlyGivenNames -merge -lift -underBinder s1
  have h2 : Keeps F a s1 := by
    unfold s1
    exact keeps_emit hs
  clear_value s1
  exact Keeps.other h2 (hmbx := .inr (hF (by decide +kernel)))

theorem keeps_signal {F : List Piece} {a s : State} {c src : ℕ} (hF : [.mbx, .MBX_SUM, .HTI_CNT] ⊆ F) (hs : Keeps F a s) :
    Keeps F a (State.signal s c src) := by
  delta State.signal
  extract_lets +onlyGivenNames -merge -lift -underBinder v1
  clear_value v1
  refine keeps_ite (fun _ => ?_) (fun _ => ?_)
  · extract_lets +onlyGivenNames -merge -lift -underBinder v2
    clear_value v2
    exact keeps_ite (fun _ => hs) (fun _ => keeps_sumWrite (Piece.sub hF (by decide +kernel)) (keeps_wrBit hs ⟨rfl, hF (by decide +kernel)⟩))
  · split
    · exact keeps_raiseVec (Piece.sub hF (by decide +kernel)) hs
    · exact keeps_raiseVec (Piece.sub hF (by decide +kernel)) hs
    · exact keeps_raiseVec (Piece.sub hF (by decide +kernel)) hs
    · exact hs

theorem keeps_setEvt {F : List Piece} {a s : State} {c : ℕ} {e : EvtCtx} (hF : [.mbx] ⊆ F) (hs : Keeps F a s) :
    Keeps F a (State.setEvt s c e) := by
  delta State.setEvt
  exact Keeps.other hs (hmbx := .inr (hF (by decide +kernel)))

theorem keeps_drainEvts {F : List Piece} {a s : State} {c x0 : ℕ} (hF : [.mbx, .MBX_SUM, .HTI_W_EVT, .HTI_CNT] ⊆ F) (hs : Keeps F a s) :
    Keeps F a (State.drainEvts s c x0) := by
  induction x0 generalizing s c with
  | zero =>
    rw [State.drainEvts.eq_1]
    exact hs
  | succ _ ih =>
    rw [State.drainEvts.eq_2]
    split
    · exact hs
    · refine keeps_ite (fun _ => hs) (fun _ => ?_)
      extract_lets +onlyGivenNames -merge -lift -underBinder s1
      have h2 : Keeps F a s1 := by
        unfold s1
        exact keeps_emit hs
      clear_value s1
      extract_lets +onlyGivenNames -merge -lift -underBinder v3
      clear_value v3
      extract_lets +onlyGivenNames -merge -lift -underBinder s4
      have h5 : Keeps F a s4 := by
        unfold s4
        exact keeps_wr h2 ⟨rfl, hF (by decide +kernel)⟩
      clear_value s4
      extract_lets +onlyGivenNames -merge -lift -underBinder s6
      have h7 : Keeps F a s6 := by
        unfold s6
        exact keeps_setEvt (Piece.sub hF (by decide +kernel)) h5
      clear_value s6
      extract_lets +onlyGivenNames -merge -lift -underBinder s8
      have h9 : Keeps F a s8 := by
        unfold s8
        exact keeps_ite (fun _ => keeps_signal (Piece.sub hF (by decide +kernel)) h7) (fun _ => h7)
      clear_value s8
      exact ih h9

theorem keeps_event {F : List Piece} {a s : State} {c kind handle data : ℕ} (hF : [.mbx, .MBX_SUM, .MBX_CNT, .HTI_W_MBSTS, .HTI_W_EVT, .HTI_CNT]
    ⊆ F) (hs : Keeps F a s) :
    Keeps F a (State.event s c kind handle data) := by
  delta State.event
  extract_lets +onlyGivenNames -merge -lift -underBinder v1
  clear_value v1
  extract_lets +onlyGivenNames -merge -lift -underBinder s2
  have h3 : Keeps F a s2 := by
    unfold s2
    exact keeps_bump hs ⟨rfl, hF (by decide +kernel)⟩
  clear_value s2
  refine keeps_ite (fun _ => ?_) (fun _ => ?_)
  · extract_lets +onlyGivenNames -merge -lift -underBinder s4
    have h5 : Keeps F a s4 := by
      unfold s4
      exact keeps_setEvt (Piece.sub hF (by decide +kernel)) h3
    clear_value s4
    exact keeps_wr (keeps_bump h5 ⟨rfl, hF (by decide +kernel)⟩) ⟨rfl, hF (by decide +kernel)⟩
  · extract_lets +onlyGivenNames -merge -lift -underBinder v6
    clear_value v6
    exact keeps_drainEvts (Piece.sub hF (by decide +kernel)) (keeps_setEvt (Piece.sub hF (by decide +kernel)) h3)

theorem keeps_latched {F : List Piece} {a s : State} {key word : ℕ} (hF : [.latch] ⊆ F) (hs : Keeps F a s) :
    Keeps F a (State.latched s key word) := by
  delta State.latched
  exact Keeps.other hs (hlatch := .inr (hF (by decide +kernel)))

theorem keeps_hostWrite {F : List Piece} {a s : State} {b : Blk} {f : State → State} (hs : Keeps F a s) (hf : ∀ y0, Keeps F a y0 → Keeps F a (f y0)) :
    Keeps F a (State.hostWrite s b f) := by
  delta State.hostWrite
  exact keeps_ite (fun _ => hf _ hs) (fun _ => hs)

theorem keeps_hostWrite64 {F : List Piece} {a s : State} {r : Fld} {i word : ℕ} {f : State → State} (hF : [.latch] ⊆ F) (hs : Keeps F a s) (hr :
    r.free F) (hf : ∀ y0, Keeps F a y0 → Keeps F a (f y0)) :
    Keeps F a (State.hostWrite64 s r i word f) := by
  delta State.hostWrite64
  exact keeps_hostWrite hs (fun y1 h2 => hf _ (keeps_latched (Piece.sub hF (by decide +kernel)) h2))

theorem keeps_setCmds {F : List Piece} {a s : State} {l : List Cmd} (hF : [.hti] ⊆ F) (hs : Keeps F a s) :
    Keeps F a (State.setCmds s l) := by
  delta State.setCmds
  exact Keeps.other hs (hhti := .inr (hF (by decide +kernel)))

theorem keeps_dropCmd {F : List Piece} {a s : State} {k : ℕ} (hF : [.hti] ⊆ F) (hs : Keeps F a s) :
    Keeps F a (State.dropCmd s k) := by
  delta State.dropCmd
  exact keeps_setCmds (Piece.sub hF (by decide +kernel)) hs

theorem keeps_postOne {F : List Piece} {a s : State} {c q : ℕ} {p : Pair} {e : Cpl} (hF : [.hti, .HTI_CNT] ⊆ F) (hs : Keeps F a s) :
    Keeps F a (State.postOne s c q p e) := by
  delta State.postOne
  extract_lets +onlyGivenNames -merge -lift -underBinder s1
  have h2 : Keeps F a s1 := by
    unfold s1
    exact keeps_emit hs
  clear_value s1
  extract_lets +onlyGivenNames -merge -lift -underBinder v3
  clear_value v3
  extract_lets +onlyGivenNames -merge -lift -underBinder s4
  have h5 : Keeps F a s4 := by
    unfold s4
    exact keeps_bump h2 ⟨rfl, hF (by decide +kernel)⟩
  clear_value s4
  extract_lets +onlyGivenNames -merge -lift -underBinder s6
  have h7 : Keeps F a s6 := by
    unfold s6
    exact keeps_ite (fun _ => keeps_bump h5 ⟨rfl, hF (by decide +kernel)⟩) (fun _ => h5)
  clear_value s6
  extract_lets +onlyGivenNames -merge -lift -underBinder s8
  have h9 : Keeps F a s8 := by
    unfold s8
    exact keeps_ite (fun _ => keeps_bump h7 ⟨rfl, hF (by decide +kernel)⟩) (fun _ => h7)
  clear_value s8
  extract_lets +onlyGivenNames -merge -lift -underBinder v10 v11
  clear_value v10 v11
  extract_lets +onlyGivenNames -merge -lift -underBinder s12
  have h13 : Keeps F a s12 := by
    unfold s12
    exact keeps_dropCmd (Piece.sub hF (by decide +kernel)) h9
  clear_value s12
  refine keeps_ite (fun _ => keeps_setPair (Piece.sub hF (by decide +kernel)) h13) (fun _ => ?_)
  extract_lets +onlyGivenNames -merge -lift -underBinder v14
  clear_value v14
  exact keeps_ite (fun _ => keeps_raiseVec (Piece.sub hF (by decide +kernel)) (keeps_setPair (Piece.sub hF (by decide +kernel)) h13)) (fun _ =>
      keeps_setPair (Piece.sub hF (by decide +kernel)) h13)

theorem keeps_drainCq {F : List Piece} {a s : State} {c q x0 : ℕ} (hF : [.hti, .HTI_CNT] ⊆ F) (hs : Keeps F a s) :
    Keeps F a (State.drainCq s c q x0) := by
  induction x0 generalizing s c q with
  | zero =>
    rw [State.drainCq.eq_1]
    exact hs
  | succ _ ih =>
    rw [State.drainCq.eq_2]
    split
    · exact hs
    · split
      · exact hs
      · exact keeps_ite (fun _ => hs) (fun _ => ih (keeps_postOne (Piece.sub hF (by decide +kernel)) hs))

theorem keeps_setPhase {F : List Piece} {a s : State} {k : ℕ} {ph : CmdPhase} (hF : [.hti] ⊆ F) (hs : Keeps F a s) :
    Keeps F a (State.setPhase s k ph) := by
  delta State.setPhase
  exact keeps_setCmds (Piece.sub hF (by decide +kernel)) hs

theorem keeps_setHostMeter {F : List Piece} {a s : State} {c : ℕ} {m : Meter} (hF : [.ring] ⊆ F) (hs : Keeps F a s) :
    Keeps F a (State.setHostMeter s c m) := by
  delta State.setHostMeter
  exact Keeps.other hs (hring := .inr (hF (by decide +kernel)))

theorem keeps_colourDone {F : List Piece} {a s : State} {c : Cmd} {st : Status} (hF : [.ring, .SHP_CTX_CNT] ⊆ F) (hs : Keeps F a s) :
    Keeps F a (State.colourDone s c st) := by
  delta State.colourDone
  refine keeps_ite (fun _ => keeps_ite (fun _ => keeps_bump hs ⟨rfl, hF (by decide +kernel)⟩) (fun _ => hs)) (fun _ => ?_)
  extract_lets +onlyGivenNames -merge -lift -underBinder v1 v2 v3 v4
  clear_value v1 v2 v3 v4
  split
  · exact keeps_setHostMeter (Piece.sub hF (by decide +kernel)) hs
  · exact keeps_setHostMeter (Piece.sub hF (by decide +kernel)) hs
  · exact keeps_setHostMeter (Piece.sub hF (by decide +kernel)) hs
  · exact keeps_setHostMeter (Piece.sub hF (by decide +kernel)) hs
  · exact hs

theorem keeps_countFetch {F : List Piece} {a s : State} {ctx : ℕ} (hF : [.HTI_CNT] ⊆ F) (hs : Keeps F a s) :
    Keeps F a (State.countFetch s ctx) := by
  delta State.countFetch
  exact keeps_bump (keeps_bump hs ⟨rfl, hF (by decide +kernel)⟩) ⟨rfl, hF (by decide +kernel)⟩

theorem keeps_finish1 {F : List Piece} {a s : State} {k : ℕ} {st : Status} {cause r0 r1 r2 : ℕ} (hF : [.hti, .ring, .SHP_CTX_CNT, .SEC_CNT,
    .HTI_CNT] ⊆ F) (hs : Keeps F a s) :
    Keeps F a (State.finish1 s k st cause r0 r1 r2) := by
  delta State.finish1
  split
  · exact hs
  · extract_lets +onlyGivenNames -merge -lift -underBinder s1
    have h2 : Keeps F a s1 := by
      unfold s1
      exact keeps_ite (fun _ => keeps_countFetch (Piece.sub hF (by decide +kernel)) hs) (fun _ => hs)
    clear_value s1
    split
    · exact keeps_dropCmd (Piece.sub hF (by decide +kernel)) h2
    · extract_lets +onlyGivenNames -merge -lift -underBinder v3
      clear_value v3
      extract_lets +onlyGivenNames -merge -lift -underBinder s4
      have h5 : Keeps F a s4 := by
        unfold s4
        exact keeps_colourDone (Piece.sub hF (by decide +kernel)) (keeps_setPhase (Piece.sub hF (by decide +kernel)) h2)
      clear_value s4
      extract_lets +onlyGivenNames -merge -lift -underBinder s6
      have h7 : Keeps F a s6 := by
        unfold s6
        exact keeps_ite (fun _ => keeps_bump h5 ⟨rfl, hF (by decide +kernel)⟩) (fun _ => h5)
      clear_value s6
      extract_lets +onlyGivenNames -merge -lift -underBinder s8
      have h9 : Keeps F a s8 := by
        unfold s8
        exact keeps_setPair (Piece.sub hF (by decide +kernel)) h7
      clear_value s8
      exact keeps_drainCq (Piece.sub hF (by decide +kernel)) h9

theorem keeps_put {F : List Piece} {a s : State} {f : Fld} {i j v : ℕ} (hs : Keeps F a s) (hf : f.free F) :
    Keeps F a (State.put s f i j v) := by
  delta State.put
  exact keeps_ite (fun _ => keeps_wr hs hf) (fun _ => hs)

theorem keeps_dropPair {F : List Piece} {a s : State} {c q : ℕ} (hF : [.hti] ⊆ F) (hs : Keeps F a s) :
    Keeps F a (State.dropPair s c q) := by
  delta State.dropPair
  exact Keeps.other hs (hhti := .inr (hF (by decide +kernel)))

theorem keeps_advance {F : List Piece} {a s : State} {dt : ℕ} (hF : [.HTI_TIME, .CTL_RT] ⊆ F) (hs : Keeps F a s) :
    Keeps F a (State.advance s dt) := by
  delta State.advance
  exact keeps_wr (keeps_wr hs ⟨rfl, hF (by decide +kernel)⟩) ⟨rfl, hF (by decide +kernel)⟩

theorem keeps_putWord {F : List Piece} {a s : State} {fs : List Fld} {i j word : ℕ} (hs : Keeps F a s) (hfs : ∀ f ∈ fs, f.free F) :
    Keeps F a (State.putWord s fs i j word) := by
  unfold State.putWord
  induction fs generalizing s with
  | nil => exact hs
  | cons f t ih => exact ih (keeps_put hs (hfs f List.mem_cons_self)) fun g hg => hfs g (List.mem_cons_of_mem _ hg)

theorem keeps_finishRipe {F : List Piece} {a s : State} {c : Cmd} (hF : [.hti, .ring, .SHP_CTX_CNT, .SEC_CNT, .HTI_W_QFAULT, .HTI_CNT] ⊆ F) (hs :
    Keeps F a s) :
    Keeps F a (State.finishRipe s c) := by
  delta State.finishRipe
  refine keeps_ite (fun _ => keeps_finish1 (Piece.sub hF (by decide +kernel)) hs) (fun _ => ?_)
  extract_lets +onlyGivenNames -merge -lift -underBinder v1
  clear_value v1
  split
  · exact keeps_finish1 (Piece.sub hF (by decide +kernel)) hs
  · extract_lets +onlyGivenNames -merge -lift -underBinder s2
    have h3 : Keeps F a s2 := by
      unfold s2
      exact keeps_setCmds (Piece.sub hF (by decide +kernel)) hs
    clear_value s2
    extract_lets +onlyGivenNames -merge -lift -underBinder v4
    clear_value v4
    extract_lets +onlyGivenNames -merge -lift -underBinder s5
    have h6 : Keeps F a s5 := by
      unfold s5
      exact keeps_wr h3 ⟨rfl, hF (by decide +kernel)⟩
    clear_value s5
    exact keeps_finish1 (Piece.sub hF (by decide +kernel)) (keeps_dropPair (Piece.sub hF (by decide +kernel)) h6)

theorem keeps_fault {F : List Piece} {a s : State} {c kind handle : ℕ} {status : Option Status} {cause detail : ℕ} (hF : [.mbx, .MBX_SUM,
    .MBX_CNT, .HTI_W_MBSTS, .HTI_W_FLT, .HTI_CNT] ⊆ F) (hs : Keeps F a s) :
    Keeps F a (State.fault s c kind handle status cause detail) := by
  delta State.fault
  extract_lets +onlyGivenNames -merge -lift -underBinder v1 v2 v3
  clear_value v1 v2 v3
  extract_lets +onlyGivenNames -merge -lift -underBinder s4
  have h5 : Keeps F a s4 := by
    unfold s4
    exact keeps_bump hs ⟨rfl, hF (by decide +kernel)⟩
  clear_value s4
  extract_lets +onlyGivenNames -merge -lift -underBinder v6 v7 v8
  clear_value v6 v7 v8
  extract_lets +onlyGivenNames -merge -lift -underBinder s9
  have h10 : Keeps F a s9 := by
    unfold s9
    exact keeps_ite (fun _ => keeps_bump (Keeps.other h5 (hmbx := .inr (hF (by decide +kernel)))) ⟨rfl, hF (by decide +kernel)⟩) (fun _ => h5)
  clear_value s9
  extract_lets +onlyGivenNames -merge -lift -underBinder v11 v12
  clear_value v11 v12
  refine keeps_ite (fun _ => ?_) (fun _ => ?_)
  · extract_lets +onlyGivenNames -merge -lift -underBinder v13
    clear_value v13
    extract_lets +onlyGivenNames -merge -lift -underBinder s14
    have h15 : Keeps F a s14 := by
      unfold s14
      exact Keeps.other h10 (hmbx := .inr (hF (by decide +kernel)))
    clear_value s14
    exact keeps_wr (keeps_bump h15 ⟨rfl, hF (by decide +kernel)⟩) ⟨rfl, hF (by decide +kernel)⟩
  · extract_lets +onlyGivenNames -merge -lift -underBinder v16 v17
    clear_value v16 v17
    extract_lets +onlyGivenNames -merge -lift -underBinder s18
    have h19 : Keeps F a s18 := by
      unfold s18
      exact Keeps.other h10 (hmbx := .inr (hF (by decide +kernel)))
    clear_value s18
    extract_lets +onlyGivenNames -merge -lift -underBinder s20
    have h21 : Keeps F a s20 := by
      unfold s20
      exact keeps_wr h19 ⟨rfl, hF (by decide +kernel)⟩
    clear_value s20
    exact keeps_ite (fun _ => keeps_signal (Piece.sub hF (by decide +kernel)) h21) (fun _ => h21)

theorem keeps_wrAll {F : List Piece} {a s : State} {f : Fld} {l : List (ℕ × ℕ)} {v : ℕ} (hs : Keeps F a s) (hf : f.free F) :
    Keeps F a (State.wrAll s f l v) := by
  delta State.wrAll
  exact keeps_foldl (fun s1 x2 h3 => keeps_wr h3 hf) hs

theorem keeps_mgmtEvent {F : List Piece} {a s : State} {kind data : ℕ} (hF : [.mbx, .MBX_SUM, .MBX_CNT, .HTI_W_MBSTS, .HTI_W_EVT, .HTI_CNT] ⊆ F)
    (hs : Keeps F a s) :
    Keeps F a (State.mgmtEvent s kind data) := by
  delta State.mgmtEvent
  exact keeps_foldl (fun s1 x2 h3 => keeps_ite (fun _ => keeps_event (Piece.sub hF (by decide +kernel)) h3) (fun _ => h3)) hs

theorem keeps_errlog {F : List Piece} {a s : State} {kind ctx port bar off : ℕ} (hF : [.HTI_ERRLOG] ⊆ F) (hs : Keeps F a s) :
    Keeps F a (State.errlog s kind ctx port bar off) := by
  delta State.errlog
  extract_lets +onlyGivenNames -merge -lift -underBinder v1 v2
  clear_value v1 v2
  extract_lets +onlyGivenNames -merge -lift -underBinder s3
  have h4 : Keeps F a s3 := by
    unfold s3
    exact keeps_wr hs ⟨rfl, hF (by decide +kernel)⟩
  clear_value s3
  extract_lets +onlyGivenNames -merge -lift -underBinder s5
  have h6 : Keeps F a s5 := by
    unfold s5
    exact keeps_wr h4 ⟨rfl, hF (by decide +kernel)⟩
  clear_value s5
  extract_lets +onlyGivenNames -merge -lift -underBinder s7
  have h8 : Keeps F a s7 := by
    unfold s7
    exact keeps_wr h6 ⟨rfl, hF (by decide +kernel)⟩
  clear_value s7
  extract_lets +onlyGivenNames -merge -lift -underBinder s9
  have h10 : Keeps F a s9 := by
    unfold s9
    exact keeps_wr h8 ⟨rfl, hF (by decide +kernel)⟩
  clear_value s9
  extract_lets +onlyGivenNames -merge -lift -underBinder s11
  have h12 : Keeps F a s11 := by
    unfold s11
    exact keeps_wr h10 ⟨rfl, hF (by decide +kernel)⟩
  clear_value s11
  extract_lets +onlyGivenNames -merge -lift -underBinder s13
  have h14 : Keeps F a s13 := by
    unfold s13
    exact keeps_wr h12 ⟨rfl, hF (by decide +kernel)⟩
  clear_value s13
  extract_lets +onlyGivenNames -merge -lift -underBinder s15
  have h16 : Keeps F a s15 := by
    unfold s15
    exact keeps_wr h14 ⟨rfl, hF (by decide +kernel)⟩
  clear_value s15
  exact keeps_ite (fun _ => keeps_wr h16 ⟨rfl, hF (by decide +kernel)⟩) (fun _ => keeps_wr h16 ⟨rfl, hF (by decide +kernel)⟩)

theorem keeps_settle {F : List Piece} {a s : State} {x0 : ℕ} (hF : [.hti, .ring, .SHP_CTX_CNT, .SEC_CNT, .HTI_W_QFAULT, .HTI_CNT] ⊆ F) (hs :
    Keeps F a s) :
    Keeps F a (State.settle s x0) := by
  induction x0 generalizing s with
  | zero =>
    rw [State.settle.eq_1]
    exact hs
  | succ _ ih =>
    rw [State.settle.eq_2]
    split
    · exact ih (keeps_finishRipe (Piece.sub hF (by decide +kernel)) hs)
    · exact hs

theorem keeps_faultPair {F : List Piece} {a s : State} {c q kind slot : ℕ} (hF : [.mbx, .MBX_SUM, .MBX_CNT, .HTI_W_QFAULT, .HTI_W_MBSTS,
    .HTI_W_FLT, .HTI_W_AQCFG, .HTI_ERRLOG, .HTI_CNT] ⊆ F) (hs : Keeps F a s) :
    Keeps F a (State.faultPair s c q kind slot) := by
  delta State.faultPair
  extract_lets +onlyGivenNames -merge -lift -underBinder s1
  have h2 : Keeps F a s1 := by
    unfold s1
    exact keeps_setQfault (Piece.sub hF (by decide +kernel)) hs
  clear_value s1
  extract_lets +onlyGivenNames -merge -lift -underBinder s3
  have h4 : Keeps F a s3 := by
    unfold s3
    exact keeps_errlog (Piece.sub hF (by decide +kernel)) h2
  clear_value s3
  extract_lets +onlyGivenNames -merge -lift -underBinder s5
  have h6 : Keeps F a s5 := by
    unfold s5
    exact keeps_fault (Piece.sub hF (by decide +kernel)) h4
  clear_value s5
  exact keeps_ite (fun _ => keeps_signal (Piece.sub hF (by decide +kernel)) h6) (fun _ => h6)

theorem keeps_zeroRows {F : List Piece} {a s : State} {f : Fld} {word : ℕ} (hs : Keeps F a s) (hf : f.free F) :
    Keeps F a (State.zeroRows s f word) := by
  delta State.zeroRows
  exact keeps_foldl (fun s1 x2 h3 => keeps_ite (fun _ => keeps_foldl (fun s4 x5 h6 => keeps_wr h6 hf) h3) (fun _ => h3)) hs

theorem keeps_finish {F : List Piece} {a s : State} {k : ℕ} {st : Status} {cause r0 r1 r2 : optParam ℕ 0} (hF : [.hti, .ring, .SHP_CTX_CNT,
    .SEC_CNT, .HTI_W_QFAULT, .HTI_CNT] ⊆ F) (hs : Keeps F a s) :
    Keeps F a (State.finish s k st cause r0 r1 r2) := by
  delta State.finish
  extract_lets +onlyGivenNames -merge -lift -underBinder s1
  have h2 : Keeps F a s1 := by
    unfold s1
    exact keeps_finish1 (Piece.sub hF (by decide +kernel)) hs
  clear_value s1
  exact keeps_settle (Piece.sub hF (by decide +kernel)) h2

theorem keeps_zeroAll {F : List Piece} {a s : State} {f : Fld} (hs : Keeps F a s) (hf : f.free F) :
    Keeps F a (State.zeroAll s f) := by
  delta State.zeroAll
  exact keeps_wrAll hs hf

/-! ### RingQ -/

theorem keeps_setRing {F : List Piece} {a s : State} {r : Machine.Ring} (hF : [.ring] ⊆ F) (hs : Keeps F a s) :
    Keeps F a (State.setRing s r) := by
  delta State.setRing
  exact Keeps.other hs (hring := .inr (hF (by decide +kernel)))

theorem keeps_settleV {F : List Piece} {a s : State} {pv : ℕ} (hF : [.ring] ⊆ F) (hs : Keeps F a s) :
    Keeps F a (State.settleV s pv) := by
  delta State.settleV
  refine keeps_ite (fun _ => hs) (fun _ => ?_)
  extract_lets +onlyGivenNames -merge -lift -underBinder v1
  clear_value v1
  exact keeps_ite (fun _ => hs) (fun _ => keeps_setRing (Piece.sub hF (by decide +kernel)) hs)

theorem keeps_enterLocal {F : List Piece} {a s : State} {q : ℕ} {f : RFrame} (hF : [.ring] ⊆ F) (hs : Keeps F a s) :
    Keeps F a (State.enterLocal s q f) := by
  delta State.enterLocal
  extract_lets +onlyGivenNames -merge -lift -underBinder s1
  have h2 : Keeps F a s1 := by
    unfold s1
    exact keeps_ite (fun _ => keeps_settleV (Piece.sub hF (by decide +kernel)) hs) (fun _ => hs)
  clear_value s1
  extract_lets +onlyGivenNames -merge -lift -underBinder v3 v4
  clear_value v3 v4
  exact keeps_setRing (Piece.sub hF (by decide +kernel)) h2

theorem keeps_routeFrame {F : List Piece} {a s : State} {f : RFrame} (hF : [.ring] ⊆ F) (hs : Keeps F a s) :
    Keeps F a (State.routeFrame s f) := by
  delta State.routeFrame
  split
  · exact keeps_setRing (Piece.sub hF (by decide +kernel)) hs
  · extract_lets +onlyGivenNames -merge -lift -underBinder v1 v2
    clear_value v1 v2
    exact keeps_ite (fun _ => keeps_setRing (Piece.sub hF (by decide +kernel)) hs) (fun _ => keeps_enterLocal (Piece.sub hF (by decide +kernel)) hs)

theorem keeps_sourceFrames {F : List Piece} {a s : State} {dst vc ctx : ℕ} {k : MsgKind} {handle : ℕ} {content : List ℕ} (hF : [.ring, .RING_CNT]
    ⊆ F) (hs : Keeps F a s) :
    Keeps F a (State.sourceFrames s dst vc ctx k handle content) := by
  delta State.sourceFrames
  extract_lets +onlyGivenNames -merge -lift -underBinder v1 v2 v3 v4 v5 v6 v7 v8 v9 v10 v11 v12 v13
  clear_value v1 v2 v3 v4 v5 v6 v7 v8 v9 v10 v11 v12 v13
  extract_lets +onlyGivenNames -merge -lift -underBinder s14
  have h15 : Keeps F a s14 := by
    unfold s14
    exact keeps_setRing (Piece.sub hF (by decide +kernel)) hs
  clear_value s14
  extract_lets +onlyGivenNames -merge -lift -underBinder s16
  have h17 : Keeps F a s16 := by
    unfold s16
    exact keeps_bump h15 ⟨rfl, hF (by decide +kernel)⟩
  clear_value s16
  exact keeps_ite (fun _ => keeps_bump h17 ⟨rfl, hF (by decide +kernel)⟩) (fun _ => keeps_foldl (fun s18 x19 h20 => keeps_routeFrame (Piece.sub
      hF (by decide +kernel)) h20) h17)

theorem keeps_sendRaw {F : List Piece} {a s : State} {dst vc : ℕ} {k : MsgKind} {handle epoch x0 b : ℕ} {args : List ℕ} (hs : Keeps F a s) :
    Keeps F a (State.sendRaw s dst vc k handle epoch x0 b args) := by
  delta State.sendRaw
  exact keeps_emit hs

theorem keeps_send {F : List Piece} {a s : State} {dst vc : ℕ} {k : MsgKind} {handle epoch x0 b : ℕ} {args : List ℕ} (hF : [.ring, .RING_CNT] ⊆
    F) (hs : Keeps F a s) :
    Keeps F a (State.send s dst vc k handle epoch x0 b args) := by
  delta State.send
  refine keeps_ite (fun _ => hs) (fun _ => ?_)
  extract_lets +onlyGivenNames -merge -lift -underBinder s1
  have h2 : Keeps F a s1 := by
    unfold s1
    exact keeps_sendRaw hs
  clear_value s1
  exact keeps_ite (fun _ => h2) (fun _ => keeps_sourceFrames (Piece.sub hF (by decide +kernel)) h2)

/-! ### Handles -/

theorem keeps_setSess {F : List Piece} {a s : State} {x0 : Session} (hF : [.ses] ⊆ F) (hs : Keeps F a s) :
    Keeps F a (State.setSess s x0) := by
  delta State.setSess
  split
  · exact Keeps.other hs (hses := .inr (hF (by decide +kernel)))
  · exact hs

theorem keeps_lockWrite {F : List Piece} {a s : State} {c : ℕ} {f : State → State} (hF : [.SEC_CNT] ⊆ F) (hs : Keeps F a s) (hf : ∀ y0, Keeps F a
    y0 → Keeps F a (f y0)) :
    Keeps F a (State.lockWrite s c f) := by
  delta State.lockWrite
  exact keeps_ite (fun _ => keeps_bump hs ⟨rfl, hF (by decide +kernel)⟩) (fun _ => hf _ hs)

theorem keeps_updSess {F : List Piece} {a s : State} {h : ℕ} {f : Session → Session} (hF : [.ses] ⊆ F) (hs : Keeps F a s) :
    Keeps F a (State.updSess s h f) := by
  delta State.updSess
  split
  · exact keeps_setSess (Piece.sub hF (by decide +kernel)) hs
  · exact hs

theorem keeps_begin {F : List Piece} {a s : State} {k op : ℕ} {form : Desc → Bool} {ready live : Cmd → Bool} {body : Cmd → State → State} (hF :
    [.hti, .ring, .SHP_CTX_CNT, .SEC_CNT, .HTI_W_QFAULT, .HTI_CNT] ⊆ F) (hs : Keeps F a s) (hbody : ∀ y0 y1, Keeps F a y1 → Keeps F a (body y0 y1)) :
    Keeps F a (State.begin s k op form ready live body) := by
  delta State.begin
  split
  · exact hs
  · refine keeps_ite (fun _ => ?_) (fun _ => hs)
    refine keeps_ite (fun _ => ?_) (fun _ => keeps_finish (Piece.sub hF (by decide +kernel)) hs)
    split
    · exact keeps_finish (Piece.sub hF (by decide +kernel)) hs
    · exact hbody _ _ (keeps_setPhase (Piece.sub hF (by decide +kernel)) hs)

/-! ### PageBytes -/

theorem keeps_emitPage {F : List Piece} {a s : State} {ref : PageRef} {o i : ℕ} (hs : Keeps F a s) :
    Keeps F a (State.emitPage s ref o i) := by
  delta State.emitPage
  exact keeps_emit hs

/-! ### Bridle -/

theorem keeps_bridlePut {F : List Piece} {a s : State} {c off n v : ℕ} (hF : [.attn] ⊆ F) (hs : Keeps F a s) :
    Keeps F a (State.bridlePut s c off n v) := by
  delta State.bridlePut
  exact Keeps.other hs (hattn := .inr (hF (by decide +kernel)))

theorem keeps_putAt {F : List Piece} {a s : State} {bridle : Bool} {c addr n v : ℕ} (hF : [.attn] ⊆ F) (hs : Keeps F a s) :
    Keeps F a (State.putAt s bridle c addr n v) := by
  delta State.putAt
  exact keeps_ite (fun _ => keeps_bridlePut (Piece.sub hF (by decide +kernel)) hs) (fun _ => keeps_emit hs)

theorem keeps_bridleZero {F : List Piece} {a s : State} {c : ℕ} (hF : [.attn] ⊆ F) (hs : Keeps F a s) :
    Keeps F a (State.bridleZero s c) := by
  delta State.bridleZero
  exact Keeps.other hs (hattn := .inr (hF (by decide +kernel)))

theorem keeps_bridleClear {F : List Piece} {a s : State} (hF : [.attn] ⊆ F) (hs : Keeps F a s) :
    Keeps F a (State.bridleClear s) := by
  delta State.bridleClear
  exact Keeps.other hs (hattn := .inr (hF (by decide +kernel)))

/-! ### PageOps -/

theorem keeps_releasePlace {F : List Piece} {a s : State} {pl : Option Place} (hs : Keeps F a s) :
    Keeps F a (State.releasePlace s pl) := by
  delta State.releasePlace
  split
  · exact keeps_ite (fun _ => keeps_emit hs) (fun _ => hs)
  · exact hs

theorem keeps_setOwnerPages {F : List Piece} {a s : State} {ix : Bool} {own : ℕ} {m : Map Page} (hF : [.ses, .tier] ⊆ F) (hs : Keeps F a s) :
    Keeps F a (State.setOwnerPages s ix own m) := by
  delta State.setOwnerPages
  exact keeps_ite (fun _ => Keeps.other hs (htier := .inr (hF (by decide +kernel)))) (fun _ => keeps_updSess (Piece.sub hF (by decide +kernel)) hs)

theorem keeps_putPage {F : List Piece} {a s : State} {p : PageRef} {x0 : Page} (hF : [.ses, .tier] ⊆ F) (hs : Keeps F a s) :
    Keeps F a (State.putPage s p x0) := by
  delta State.putPage
  exact keeps_setOwnerPages (Piece.sub hF (by decide +kernel)) hs

theorem keeps_writePage {F : List Piece} {a s : State} {ix : Bool} {own : ℕ} {k : PKind} {n : ℕ} (hF : [.ses, .tier] ⊆ F) (hs : Keeps F a s) :
    Keeps F a (State.writePage s ix own k n) := by
  delta State.writePage
  extract_lets +onlyGivenNames -merge -lift -underBinder v1
  clear_value v1
  split
  · exact keeps_putPage (Piece.sub hF (by decide +kernel)) hs
  · extract_lets +onlyGivenNames -merge -lift -underBinder s2
    have h3 : Keeps F a s2 := by
      unfold s2
      exact keeps_ite (fun _ => keeps_releasePlace hs) (fun _ => hs)
    clear_value s2
    exact keeps_putPage (Piece.sub hF (by decide +kernel)) h3

theorem keeps_writePages {F : List Piece} {a s : State} {ix : Bool} {own : ℕ} {k : PKind} {l : List ℕ} (hF : [.ses, .tier] ⊆ F) (hs : Keeps F a s) :
    Keeps F a (State.writePages s ix own k l) := by
  delta State.writePages
  exact keeps_foldl (fun s1 x2 h3 => keeps_writePage (Piece.sub hF (by decide +kernel)) h3) hs

theorem keeps_writeOpen {F : List Piece} {a s : State} {h : ℕ} {g : Shape} {col : ℕ} {hls : List ℕ} (hF : [.ses, .tier] ⊆ F) (hs : Keeps F a s) :
    Keeps F a (State.writeOpen s h g col hls) := by
  delta State.writeOpen
  extract_lets +onlyGivenNames -merge -lift -underBinder v1
  clear_value v1
  extract_lets +onlyGivenNames -merge -lift -underBinder s2
  have h3 : Keeps F a s2 := by
    unfold s2
    exact keeps_writePages (Piece.sub hF (by decide +kernel)) hs
  clear_value s2
  extract_lets +onlyGivenNames -merge -lift -underBinder s4
  have h5 : Keeps F a s4 := by
    unfold s4
    exact keeps_writePages (Piece.sub hF (by decide +kernel)) h3
  clear_value s4
  exact keeps_writePages (Piece.sub hF (by decide +kernel)) h5

theorem keeps_writeStream {F : List Piece} {a s : State} {h x0 b : ℕ} (hF : [.ses, .tier] ⊆ F) (hs : Keeps F a s) :
    Keeps F a (State.writeStream s h x0 b) := by
  delta State.writeStream
  extract_lets +onlyGivenNames -merge -lift -underBinder v1
  clear_value v1
  extract_lets +onlyGivenNames -merge -lift -underBinder s2
  have h3 : Keeps F a s2 := by
    unfold s2
    exact keeps_writePages (Piece.sub hF (by decide +kernel)) hs
  clear_value s2
  exact keeps_writePages (Piece.sub hF (by decide +kernel)) h3

theorem keeps_touch {F : List Piece} {a s : State} {ref : PageRef} (hF : [.ses, .tier] ⊆ F) (hs : Keeps F a s) :
    Keeps F a (State.touch s ref) := by
  delta State.touch
  split
  · exact keeps_putPage (Piece.sub hF (by decide +kernel)) hs
  · exact hs

theorem keeps_refreshRsv {F : List Piece} {a s : State} (hF : [.TIER_RSV] ⊆ F) (hs : Keeps F a s) :
    Keeps F a (State.refreshRsv s) := by
  delta State.refreshRsv
  extract_lets +onlyGivenNames -merge -lift -underBinder v1
  clear_value v1
  exact keeps_wr (keeps_wr hs ⟨rfl, hF (by decide +kernel)⟩) ⟨rfl, hF (by decide +kernel)⟩

theorem keeps_setRegion {F : List Piece} {a s : State} {r : ℕ} {x0 : Region} (hF : [.tier] ⊆ F) (hs : Keeps F a s) :
    Keeps F a (State.setRegion s r x0) := by
  delta State.setRegion
  exact Keeps.other hs (htier := .inr (hF (by decide +kernel)))

theorem keeps_setLast {F : List Piece} {a s : State} {ix : Bool} {own o : ℕ} (hF : [.ses, .tier] ⊆ F) (hs : Keeps F a s) :
    Keeps F a (State.setLast s ix own o) := by
  delta State.setLast
  refine keeps_ite (fun _ => hs) (fun _ => ?_)
  extract_lets +onlyGivenNames -merge -lift -underBinder v1 v2
  clear_value v1 v2
  extract_lets +onlyGivenNames -merge -lift -underBinder s3
  have h4 : Keeps F a s3 := by
    unfold s3
    exact keeps_setRegion (Piece.sub hF (by decide +kernel)) hs
  clear_value s3
  exact keeps_ite (fun _ => h4) (fun _ => keeps_updSess (Piece.sub hF (by decide +kernel)) h4)

theorem keeps_setWear {F : List Piece} {a s : State} {j : ℕ} {w : Wear} (hF : [.tier, .TIER_DRV] ⊆ F) (hs : Keeps F a s) :
    Keeps F a (State.setWear s j w) := by
  delta State.setWear
  extract_lets +onlyGivenNames -merge -lift -underBinder v1
  clear_value v1
  extract_lets +onlyGivenNames -merge -lift -underBinder s2
  have h3 : Keeps F a s2 := by
    unfold s2
    exact Keeps.other hs (htier := .inr (hF (by decide +kernel)))
  clear_value s2
  exact keeps_wr (keeps_wr h3 ⟨rfl, hF (by decide +kernel)⟩) ⟨rfl, hF (by decide +kernel)⟩

theorem keeps_takeBudget {F : List Piece} {a s : State} {o : ℕ} (hF : [.tier, .TIER_DRV] ⊆ F) (hs : Keeps F a s) :
    Keeps F a (State.takeBudget s o) := by
  delta State.takeBudget
  refine keeps_ite (fun _ => hs) (fun _ => ?_)
  extract_lets +onlyGivenNames -merge -lift -underBinder v1
  clear_value v1
  exact keeps_setWear (Piece.sub hF (by decide +kernel)) hs

theorem keeps_startWrite {F : List Piece} {a s : State} {ref : PageRef} {x0 : Page} {o : ℕ} {reuse : Option ℕ} {sink : Bool} (hF : [.ses, .tier,
    .TIER_DRV, .TIER_CNT] ⊆ F) (hs : Keeps F a s) :
    Keeps F a (State.startWrite s ref x0 o reuse sink) := by
  delta State.startWrite
  extract_lets +onlyGivenNames -merge -lift -underBinder v1
  clear_value v1
  extract_lets +onlyGivenNames -merge -lift -underBinder s2
  have h3 : Keeps F a s2 := by
    unfold s2
    exact keeps_ite (fun _ => hs) (fun _ => keeps_releasePlace hs)
  clear_value s2
  extract_lets +onlyGivenNames -merge -lift -underBinder s4
  have h5 : Keeps F a s4 := by
    unfold s4
    exact keeps_takeBudget (Piece.sub hF (by decide +kernel)) h3
  clear_value s4
  extract_lets +onlyGivenNames -merge -lift -underBinder s6
  have h7 : Keeps F a s6 := by
    unfold s6
    exact keeps_emitPage h5
  clear_value s6
  extract_lets +onlyGivenNames -merge -lift -underBinder s8
  have h9 : Keeps F a s8 := by
    unfold s8
    exact keeps_ite (fun _ => h7) (fun _ => keeps_setLast (Piece.sub hF (by decide +kernel)) h7)
  clear_value s8
  extract_lets +onlyGivenNames -merge -lift -underBinder s10
  have h11 : Keeps F a s10 := by
    unfold s10
    exact keeps_bump h9 ⟨rfl, hF (by decide +kernel)⟩
  clear_value s10
  exact keeps_putPage (Piece.sub hF (by decide +kernel)) h11

theorem keeps_capCount {F : List Piece} {a s : State} {ref : PageRef} {where_ : ℕ × Option ℕ ⊕ ℕ} (hF : [.TIER_CNT] ⊆ F) (hs : Keeps F a s) :
    Keeps F a (State.capCount s ref where_) := by
  delta State.capCount
  extract_lets +onlyGivenNames -merge -lift -underBinder v1 v2
  clear_value v1 v2
  exact keeps_ite (fun _ => keeps_bump hs ⟨rfl, hF (by decide +kernel)⟩) (fun _ => hs)

theorem keeps_refreshTierReady {F : List Piece} {a s : State} (hF : [.CTL_READY] ⊆ F) (hs : Keeps F a s) :
    Keeps F a (State.refreshTierReady s) := by
  delta State.refreshTierReady
  extract_lets +onlyGivenNames -merge -lift -underBinder v1
  clear_value v1
  exact keeps_wr (keeps_wr hs ⟨rfl, hF (by decide +kernel)⟩) ⟨rfl, hF (by decide +kernel)⟩

theorem keeps_refreshCaps {F : List Piece} {a s : State} (hF : [.TIER_OBJ, .CTL_READY] ⊆ F) (hs : Keeps F a s) :
    Keeps F a (State.refreshCaps s) := by
  delta State.refreshCaps
  extract_lets +onlyGivenNames -merge -lift -underBinder f11
  unfold f11
  beta_reduce
  refine keeps_refreshTierReady (Piece.sub hF (by decide +kernel)) ?_
  refine KeepsP.proj ?_
  refine keeps_foldp (fun s1 x2 h3 => ?_) ?_
  · extract_lets +onlyGivenNames -merge -lift -underBinder v4 v5
    clear_value v4 v5
    exact KeepsP.mk (keeps_wr (KeepsP.proj h3) ⟨rfl, hF (by decide +kernel)⟩)
  · refine KeepsP.mk ?_
    refine KeepsP.proj ?_
    refine keeps_foldp (fun s6 x7 h8 => ?_) (KeepsP.mk hs)
    extract_lets +onlyGivenNames -merge -lift -underBinder v9 v10
    clear_value v9 v10
    exact KeepsP.mk (keeps_wr (KeepsP.proj h8) ⟨rfl, hF (by decide +kernel)⟩)

theorem keeps_dropObject {F : List Piece} {a s : State} {o : ℕ} (hF : [.tier, .pool, .TIER_OBJ, .POOL_OBJ, .CTL_READY] ⊆ F) (hs : Keeps F a s) :
    Keeps F a (State.dropObject s o) := by
  delta State.dropObject
  extract_lets +onlyGivenNames -merge -lift -underBinder v1 v2
  clear_value v1 v2
  extract_lets +onlyGivenNames -merge -lift -underBinder s3
  have h4 : Keeps F a s3 := by
    unfold s3
    exact Keeps.other hs (htier := .inr (hF (by decide +kernel))) (hpool := .inr (hF (by decide +kernel)))
  clear_value s3
  extract_lets +onlyGivenNames -merge -lift -underBinder s5
  have h6 : Keeps F a s5 := by
    unfold s5
    exact keeps_fields (fun s7 f8 k10 h9 => keeps_wr h9 k10) ((Piece.fields hF (by decide +kernel))) h4
  clear_value s5
  extract_lets +onlyGivenNames -merge -lift -underBinder s11
  have h12 : Keeps F a s11 := by
    unfold s11
    exact keeps_fields (fun s13 f14 k16 h15 => keeps_wr h15 k16) ((Piece.fields hF (by decide +kernel))) h6
  clear_value s11
  exact keeps_refreshCaps (Piece.sub hF (by decide +kernel)) h12

theorem keeps_checkLeaving {F : List Piece} {a s : State} (hF : [.tier, .pool, .TIER_OBJ, .POOL_OBJ, .POOL_CNT, .CTL_READY] ⊆ F) (hs : Keeps F a s) :
    Keeps F a (State.checkLeaving s) := by
  delta State.checkLeaving
  refine keeps_ite (fun _ => hs) (fun _ => ?_)
  refine keeps_foldl (fun s1 x2 h3 => ?_) hs
  refine keeps_ite (fun _ => ?_) (fun _ => h3)
  extract_lets +onlyGivenNames -merge -lift -underBinder v4
  clear_value v4
  exact keeps_emit (keeps_bump (keeps_dropObject (Piece.sub hF (by decide +kernel)) h3) ⟨rfl, hF (by decide +kernel)⟩)

theorem keeps_dropClean {F : List Piece} {a s : State} {ref : PageRef} (hF : [.ses, .tier, .pool, .TIER_OBJ, .TIER_CNT, .POOL_OBJ, .POOL_CNT,
    .CTL_READY] ⊆ F) (hs : Keeps F a s) :
    Keeps F a (State.dropClean s ref) := by
  delta State.dropClean
  split
  · split
    · exact keeps_ite (fun _ => keeps_checkLeaving (Piece.sub hF (by decide +kernel)) (keeps_bump (keeps_putPage (Piece.sub hF
          (by decide +kernel)) hs) ⟨rfl, hF (by decide +kernel)⟩)) (fun _ => hs)
    · exact hs
  · exact hs

theorem keeps_demotePage {F : List Piece} {a s : State} {ref : PageRef} {target : ℕ} (hF : [.ses, .tier, .pool, .TIER_OBJ, .TIER_DRV, .TIER_CNT,
    .POOL_OBJ, .POOL_CNT, .CTL_READY] ⊆ F) (hs : Keeps F a s) :
    Keeps F a (State.demotePage s ref target) := by
  delta State.demotePage
  split
  · exact hs
  · split
    · exact keeps_dropClean (Piece.sub hF (by decide +kernel)) hs
    · refine keeps_ite (fun _ => keeps_putPage (Piece.sub hF (by decide +kernel)) hs) (fun _ => ?_)
      extract_lets +onlyGivenNames -merge -lift -underBinder v1
      clear_value v1
      extract_lets +onlyGivenNames -merge -lift -underBinder s2
      have h3 : Keeps F a s2 := by
        unfold s2
        exact keeps_capCount (Piece.sub hF (by decide +kernel)) hs
      clear_value s2
      split
      · exact keeps_startWrite (Piece.sub hF (by decide +kernel)) h3
      · exact keeps_bump h3 ⟨rfl, hF (by decide +kernel)⟩
    · exact hs

theorem keeps_promoted {F : List Piece} {a s : State} {ref : PageRef} (hF : [.ses, .tier, .TIER_CNT] ⊆ F) (hs : Keeps F a s) :
    Keeps F a (State.promoted s ref) := by
  delta State.promoted
  split
  · split
    · extract_lets +onlyGivenNames -merge -lift -underBinder s1
      have h2 : Keeps F a s1 := by
        unfold s1
        exact keeps_releasePlace hs
      clear_value s1
      extract_lets +onlyGivenNames -merge -lift -underBinder s3
      have h4 : Keeps F a s3 := by
        unfold s3
        exact keeps_bump (keeps_putPage (Piece.sub hF (by decide +kernel)) h2) ⟨rfl, hF (by decide +kernel)⟩
      clear_value s3
      exact keeps_ite (fun _ => h4) (fun _ => keeps_updSess (Piece.sub hF (by decide +kernel)) h4)
    · exact keeps_putPage (Piece.sub hF (by decide +kernel)) hs
  · exact hs

theorem keeps_emptyPage {F : List Piece} {a s : State} {p : PageRef} (hF : [.ses, .tier, .pool, .TIER_OBJ, .POOL_OBJ, .POOL_CNT, .CTL_READY] ⊆ F)
    (hs : Keeps F a s) :
    Keeps F a (State.emptyPage s p) := by
  delta State.emptyPage
  split
  · exact hs
  · extract_lets +onlyGivenNames -merge -lift -underBinder s1
    have h2 : Keeps F a s1 := by
      unfold s1
      exact keeps_foldl (fun s3 x4 h5 => keeps_releasePlace h5) hs
    clear_value s1
    exact keeps_checkLeaving (Piece.sub hF (by decide +kernel)) (keeps_setOwnerPages (Piece.sub hF (by decide +kernel)) h2)

theorem keeps_sweepStream {F : List Piece} {a s : State} {h : ℕ} (hF : [.ses, .tier, .pool, .TIER_OBJ, .POOL_OBJ, .POOL_CNT, .CTL_READY] ⊆ F) (hs
    : Keeps F a s) :
    Keeps F a (State.sweepStream s h) := by
  delta State.sweepStream
  split
  · exact hs
  · exact keeps_foldl (fun s1 x2 h3 => keeps_ite (fun _ => keeps_emptyPage (Piece.sub hF (by decide +kernel)) h3) (fun _ => h3)) hs

theorem keeps_writeSpool {F : List Piece} {a s : State} {h : ℕ} (hF : [.ses, .tier] ⊆ F) (hs : Keeps F a s) :
    Keeps F a (State.writeSpool s h) := by
  delta State.writeSpool
  split
  · exact keeps_writePages (Piece.sub hF (by decide +kernel)) hs
  · exact hs

theorem keeps_emptyAll {F : List Piece} {a s : State} {ix : Bool} {own : ℕ} (hF : [.ses, .tier, .pool, .TIER_OBJ, .POOL_OBJ, .POOL_CNT,
    .CTL_READY] ⊆ F) (hs : Keeps F a s) :
    Keeps F a (State.emptyAll s ix own) := by
  delta State.emptyAll
  exact keeps_foldl (fun s1 x2 h3 => keeps_emptyPage (Piece.sub hF (by decide +kernel)) h3) hs

theorem keeps_demoteAll {F : List Piece} {a s : State} {ix : Bool} {own target : ℕ} (hF : [.ses, .tier, .pool, .TIER_OBJ, .TIER_DRV, .TIER_CNT,
    .POOL_OBJ, .POOL_CNT, .CTL_READY] ⊆ F) (hs : Keeps F a s) :
    Keeps F a (State.demoteAll s ix own target) := by
  delta State.demoteAll
  exact keeps_foldl (fun s1 x2 h3 => keeps_demotePage (Piece.sub hF (by decide +kernel)) h3) hs

theorem keeps_rsvFull {F : List Piece} {a s : State} (hF : [.TIER_RSV] ⊆ F) (hs : Keeps F a s) :
    Keeps F a (State.rsvFull s) := by
  delta State.rsvFull
  exact keeps_bump hs ⟨rfl, hF (by decide +kernel)⟩

theorem keeps_rsvSwap {F : List Piece} {a s : State} {old n : ℕ} (hF : [.tier, .TIER_RSV] ⊆ F) (hs : Keeps F a s) :
    Keeps F a (State.rsvSwap s old n) := by
  delta State.rsvSwap
  exact keeps_refreshRsv (Piece.sub hF (by decide +kernel)) (Keeps.other hs (htier := .inr (hF (by decide +kernel))))

theorem keeps_sinkIndex {F : List Piece} {a s : State} {n : ℕ} (hF : [.ses, .tier, .pool, .TIER_OBJ, .TIER_DRV, .TIER_CNT, .POOL_OBJ, .POOL_CNT,
    .CTL_READY] ⊆ F) (hs : Keeps F a s) :
    Keeps F a (State.sinkIndex s n) := by
  delta State.sinkIndex
  exact keeps_ite (fun _ => keeps_demoteAll (Piece.sub hF (by decide +kernel)) hs) (fun _ => hs)

theorem keeps_startRead {F : List Piece} {a s : State} {up : Bool} {ref : PageRef} (hF : [.ses, .tier] ⊆ F) (hs : Keeps F a s) :
    Keeps F a (State.startRead s up ref) := by
  delta State.startRead
  split
  · split
    · exact keeps_ite (fun _ => hs) (fun _ => keeps_ite (fun _ => keeps_ite (fun _ => keeps_putPage (Piece.sub hF (by decide +kernel)) hs) (fun _
          => hs)) (fun _ => keeps_emit (keeps_putPage (Piece.sub hF (by decide +kernel)) hs)))
    · exact hs
  · exact hs

theorem keeps_setPool {F : List Piece} {a s : State} {p : Pool} (hF : [.pool] ⊆ F) (hs : Keeps F a s) :
    Keeps F a (State.setPool s p) := by
  delta State.setPool
  exact Keeps.other hs (hpool := .inr (hF (by decide +kernel)))

/-! ### Room -/

theorem keeps_want {F : List Piece} {a s : State} {ref : PageRef} (hF : [.ses, .tier] ⊆ F) (hs : Keeps F a s) :
    Keeps F a (State.want s ref) := by
  delta State.want
  split
  · exact hs
  · refine keeps_ite (fun _ => hs) (fun _ => ?_)
    extract_lets +onlyGivenNames -merge -lift -underBinder v1
    clear_value v1
    exact keeps_ite (fun _ => keeps_startRead (Piece.sub hF (by decide +kernel)) hs) (fun _ => keeps_ite (fun _ => keeps_startRead (Piece.sub hF
        (by decide +kernel)) hs) (fun _ => keeps_ite (fun _ => keeps_startRead (Piece.sub hF (by decide +kernel)) hs) (fun _ => hs)))

theorem keeps_wantUp {F : List Piece} {a s : State} {ref : PageRef} (hF : [.ses, .tier] ⊆ F) (hs : Keeps F a s) :
    Keeps F a (State.wantUp s ref) := by
  delta State.wantUp
  split
  · exact hs
  · exact keeps_ite (fun _ => hs) (fun _ => keeps_startRead (Piece.sub hF (by decide +kernel)) hs)

/-! ### WinchOps -/

theorem keeps_setPwr {F : List Piece} {a s : State} {p : Pwr} (hF : [.pwr] ⊆ F) (hs : Keeps F a s) :
    Keeps F a (State.setPwr s p) := by
  delta State.setPwr
  exact Keeps.other hs (hpwr := .inr (hF (by decide +kernel)))

theorem keeps_called {F : List Piece} {a s : State} (hF : [.pwr] ⊆ F) (hs : Keeps F a s) :
    Keeps F a (State.called s) := by
  delta State.called
  exact keeps_setPwr (Piece.sub hF (by decide +kernel)) hs

theorem keeps_refreshHeld {F : List Piece} {a s : State} {c : ℕ} (hF : [.GORE_CTX] ⊆ F) (hs : Keeps F a s) :
    Keeps F a (State.refreshHeld s c) := by
  delta State.refreshHeld
  exact keeps_wr hs ⟨rfl, hF (by decide +kernel)⟩

theorem keeps_fetchPages {F : List Piece} {a s : State} {i : Item} (hF : [.ses, .tier] ⊆ F) (hs : Keeps F a s) :
    Keeps F a (State.fetchPages s i) := by
  delta State.fetchPages
  exact keeps_foldl (fun s1 x2 h3 => keeps_ite (fun _ => h3) (fun _ => keeps_want (Piece.sub hF (by decide +kernel)) h3)) hs

theorem keeps_setItems {F : List Piece} {a s : State} {l : List Item} (hF : [.gore] ⊆ F) (hs : Keeps F a s) :
    Keeps F a (State.setItems s l) := by
  delta State.setItems
  exact Keeps.other hs (hgore := .inr (hF (by decide +kernel)))

theorem keeps_mapItems {F : List Piece} {a s : State} {p : Item → Bool} {f : Item → Item} (hF : [.gore] ⊆ F) (hs : Keeps F a s) :
    Keeps F a (State.mapItems s p f) := by
  delta State.mapItems
  exact keeps_setItems (Piece.sub hF (by decide +kernel)) hs

theorem keeps_countSwitch {F : List Piece} {a s : State} {g : ℕ} (hF : [.GORE_CNT] ⊆ F) (hs : Keeps F a s) :
    Keeps F a (State.countSwitch s g) := by
  delta State.countSwitch
  exact keeps_ite (fun _ => keeps_bump (keeps_tickFree hs) ⟨rfl, hF (by decide +kernel)⟩) (fun _ => hs)

theorem keeps_dispatchTo {F : List Piece} {a s : State} {g : ℕ} {i : Item} (hF : [.ses, .tier, .gore, .GORE_CTX, .GORE_CNT] ⊆ F) (hs : Keeps F a s) :
    Keeps F a (State.dispatchTo s g i) := by
  delta State.dispatchTo
  extract_lets +onlyGivenNames -merge -lift -underBinder s1
  have h2 : Keeps F a s1 := by
    unfold s1
    exact keeps_countSwitch (Piece.sub hF (by decide +kernel)) hs
  clear_value s1
  extract_lets +onlyGivenNames -merge -lift -underBinder s3
  have h4 : Keeps F a s3 := by
    unfold s3
    exact keeps_ite (fun _ => h2) (fun _ => keeps_bump h2 ⟨rfl, hF (by decide +kernel)⟩)
  clear_value s3
  extract_lets +onlyGivenNames -merge -lift -underBinder s5
  have h6 : Keeps F a s5 := by
    unfold s5
    exact keeps_mapItems (Piece.sub hF (by decide +kernel)) h4
  clear_value s5
  extract_lets +onlyGivenNames -merge -lift -underBinder v7
  clear_value v7
  extract_lets +onlyGivenNames -merge -lift -underBinder s8
  have h9 : Keeps F a s8 := by
    unfold s8
    exact Keeps.other h6 (hgore := .inr (hF (by decide +kernel)))
  clear_value s8
  exact keeps_fetchPages (Piece.sub hF (by decide +kernel)) (keeps_refreshHeld (Piece.sub hF (by decide +kernel)) h9)

theorem keeps_dropAdmitted {F : List Piece} {a s : State} {l : Load} (hF : [.pwr] ⊆ F) (hs : Keeps F a s) :
    Keeps F a (State.dropAdmitted s l) := by
  delta State.dropAdmitted
  exact keeps_setPwr (Piece.sub hF (by decide +kernel)) hs

theorem keeps_refreshDrogue {F : List Piece} {a s : State} (hF : [.PWR_DROGUE] ⊆ F) (hs : Keeps F a s) :
    Keeps F a (State.refreshDrogue s) := by
  delta State.refreshDrogue
  exact keeps_wr (keeps_wr hs ⟨rfl, hF (by decide +kernel)⟩) ⟨rfl, hF (by decide +kernel)⟩

theorem keeps_askWake {F : List Piece} {a s : State} {l : Load} {n deci : ℕ} (hF : [.pwr, .PWR_DROGUE, .PWR_CNT] ⊆ F) (hs : Keeps F a s) :
    Keeps F a (State.askWake s l n deci) := by
  delta State.askWake
  exact keeps_refreshDrogue (Piece.sub hF (by decide +kernel)) (keeps_bump (keeps_setPwr (Piece.sub hF (by decide +kernel)) hs) ⟨rfl, hF
      (by decide +kernel)⟩)

theorem keeps_askOnce {F : List Piece} {a s : State} {l : Load} {n deci : ℕ} (hF : [.pwr, .PWR_DROGUE, .PWR_CNT] ⊆ F) (hs : Keeps F a s) :
    Keeps F a (State.askOnce s l n deci) := by
  delta State.askOnce
  exact keeps_ite (fun _ => hs) (fun _ => keeps_askWake (Piece.sub hF (by decide +kernel)) hs)

theorem keeps_askStacks {F : List Piece} {a s : State} (hF : [.pwr, .PWR_DROGUE, .PWR_CNT] ⊆ F) (hs : Keeps F a s) :
    Keeps F a (State.askStacks s) := by
  delta State.askStacks
  exact keeps_foldl (fun s1 x2 h3 => keeps_askOnce (Piece.sub hF (by decide +kernel)) h3) (keeps_dropAdmitted (Piece.sub hF (by decide +kernel)) hs)

theorem keeps_meterGore {F : List Piece} {a s : State} {c t : ℕ} (hF : [.fleet, .MTR_LIVE] ⊆ F) (hs : Keeps F a s) :
    Keeps F a (State.meterGore s c t) := by
  delta State.meterGore
  extract_lets +onlyGivenNames -merge -lift -underBinder v1
  clear_value v1
  exact keeps_bump (Keeps.other hs (hfleet := .inr (hF (by decide +kernel)))) ⟨rfl, hF (by decide +kernel)⟩

theorem keeps_request {F : List Piece} {a s : State} {i : Item} (hF : [.ses, .tier] ⊆ F) (hs : Keeps F a s) :
    Keeps F a (State.request s i) := by
  delta State.request
  exact keeps_foldl (fun s1 x2 h3 => keeps_want (Piece.sub hF (by decide +kernel)) (keeps_touch (Piece.sub hF (by decide +kernel)) h3)) hs

theorem keeps_setVt {F : List Piece} {a s : State} {c : ℕ} {k : WClass} {v : ℚ} (hF : [.gore] ⊆ F) (hs : Keeps F a s) :
    Keeps F a (State.setVt s c k v) := by
  delta State.setVt
  exact Keeps.other hs (hgore := .inr (hF (by decide +kernel)))

theorem keeps_release {F : List Piece} {a s : State} {i : Item} {f : Item → Option Item} (hF : [.gore, .GORE_CTX] ⊆ F) (hs : Keeps F a s) :
    Keeps F a (State.release s i f) := by
  delta State.release
  extract_lets +onlyGivenNames -merge -lift -underBinder v1
  clear_value v1
  extract_lets +onlyGivenNames -merge -lift -underBinder s2
  have h3 : Keeps F a s2 := by
    unfold s2
    exact keeps_ite (fun _ => keeps_setVt (Piece.sub hF (by decide +kernel)) hs) (fun _ => hs)
  clear_value s2
  extract_lets +onlyGivenNames -merge -lift -underBinder s4
  have h5 : Keeps F a s4 := by
    unfold s4
    exact keeps_setItems (Piece.sub hF (by decide +kernel)) h3
  clear_value s4
  exact keeps_refreshHeld (Piece.sub hF (by decide +kernel)) h5

theorem keeps_killItems {F : List Piece} {a s : State} {p : Item → Bool} (hF : [.gore, .GORE_CTX, .GORE_CTX_CNT] ⊆ F) (hs : Keeps F a s) :
    Keeps F a (State.killItems s p) := by
  delta State.killItems
  exact keeps_foldl (fun s1 x2 h3 => keeps_bump (keeps_release (Piece.sub hF (by decide +kernel)) h3) ⟨rfl, hF (by decide +kernel)⟩) hs

theorem keeps_saveItem {F : List Piece} {a s : State} {i : Item} (hF : [.gore, .GORE_CTX, .GORE_CTX_CNT, .GORE_CNT] ⊆ F) (hs : Keeps F a s) :
    Keeps F a (State.saveItem s i) := by
  delta State.saveItem
  extract_lets +onlyGivenNames -merge -lift -underBinder s1
  have h2 : Keeps F a s1 := by
    unfold s1
    exact keeps_release (Piece.sub hF (by decide +kernel)) hs
  clear_value s1
  exact keeps_bump (keeps_bump h2 ⟨rfl, hF (by decide +kernel)⟩) ⟨rfl, hF (by decide +kernel)⟩

theorem keeps_refreshPm {F : List Piece} {a s : State} (hF : [.CTL_PM] ⊆ F) (hs : Keeps F a s) :
    Keeps F a (State.refreshPm s) := by
  delta State.refreshPm
  exact keeps_ite (fun _ => keeps_wr hs ⟨rfl, hF (by decide +kernel)⟩) (fun _ => hs)

theorem keeps_gateShed {F : List Piece} {a s : State} (hF : [.gore, .GORE_PANEL, .GORE_CNT, .CTL_PM] ⊆ F) (hs : Keeps F a s) :
    Keeps F a (State.gateShed s) := by
  delta State.gateShed
  refine keeps_ite (fun _ => hs) (fun _ => ?_)
  refine keeps_foldl (fun s1 x2 h3 => ?_) hs
  refine keeps_ite (fun _ => ?_) (fun _ => h3)
  extract_lets +onlyGivenNames -merge -lift -underBinder v4
  clear_value v4
  extract_lets +onlyGivenNames -merge -lift -underBinder s5
  have h6 : Keeps F a s5 := by
    unfold s5
    exact Keeps.other h3 (hgore := .inr (hF (by decide +kernel)))
  clear_value s5
  exact keeps_refreshPm (Piece.sub hF (by decide +kernel)) (keeps_bump (keeps_wr h6 ⟨rfl, hF (by decide +kernel)⟩) ⟨rfl, hF (by decide +kernel)⟩)

theorem keeps_leaveP2 {F : List Piece} {a s : State} (hF : [.pwr, .PWR_DROGUE, .PWR_CNT, .CTL_PM] ⊆ F) (hs : Keeps F a s) :
    Keeps F a (State.leaveP2 s) := by
  delta State.leaveP2
  exact keeps_ite (fun _ => keeps_called (Piece.sub hF (by decide +kernel)) (keeps_askStacks (Piece.sub hF (by decide +kernel)) (keeps_refreshPm
      (Piece.sub hF (by decide +kernel)) (keeps_wr hs ⟨rfl, hF (by decide +kernel)⟩)))) (fun _ => hs)

theorem keeps_askPanels {F : List Piece} {a s : State} (hF : [.gore, .pwr, .PWR_DROGUE, .PWR_CNT, .GORE_CNT] ⊆ F) (hs : Keeps F a s) :
    Keeps F a (State.askPanels s) := by
  delta State.askPanels
  refine keeps_ite (fun _ => hs) (fun _ => ?_)
  refine keeps_foldl (fun s1 x2 h3 => ?_) hs
  refine keeps_ite (fun _ => ?_) (fun _ => h3)
  extract_lets +onlyGivenNames -merge -lift -underBinder v4
  clear_value v4
  extract_lets +onlyGivenNames -merge -lift -underBinder s5
  have h6 : Keeps F a s5 := by
    unfold s5
    exact Keeps.other h3 (hgore := .inr (hF (by decide +kernel)))
  clear_value s5
  exact keeps_askWake (Piece.sub hF (by decide +kernel)) (keeps_bump h6 ⟨rfl, hF (by decide +kernel)⟩)

theorem keeps_refreshPanel {F : List Piece} {a s : State} {p : ℕ} (hF : [.GORE_PANEL, .CTL_READY] ⊆ F) (hs : Keeps F a s) :
    Keeps F a (State.refreshPanel s p) := by
  delta State.refreshPanel
  extract_lets +onlyGivenNames -merge -lift -underBinder v1
  clear_value v1
  extract_lets +onlyGivenNames -merge -lift -underBinder s2
  have h3 : Keeps F a s2 := by
    unfold s2
    exact keeps_wr hs ⟨rfl, hF (by decide +kernel)⟩
  clear_value s2
  exact keeps_ite (fun _ => keeps_wrBit h3 ⟨rfl, hF (by decide +kernel)⟩) (fun _ => h3)

theorem keeps_chargeGore {F : List Piece} {a s : State} {dt : ℕ} {i : Item} (hF : [.fleet, .MTR_LIVE, .GORE_CTX_CNT, .GORE_CLASS] ⊆ F) (hs :
    Keeps F a s) :
    Keeps F a (State.chargeGore s dt i) := by
  delta State.chargeGore
  exact keeps_ite (fun _ => keeps_meterGore (Piece.sub hF (by decide +kernel)) (keeps_bump (keeps_bump hs ⟨rfl, hF (by decide +kernel)⟩) ⟨rfl, hF
      (by decide +kernel)⟩)) (fun _ => hs)

theorem keeps_dropItem {F : List Piece} {a s : State} {i : Item} (hF : [.gore, .GORE_CTX, .GORE_CTX_CNT, .GORE_CNT] ⊆ F) (hs : Keeps F a s) :
    Keeps F a (State.dropItem s i) := by
  delta State.dropItem
  extract_lets +onlyGivenNames -merge -lift -underBinder s1
  have h2 : Keeps F a s1 := by
    unfold s1
    exact keeps_release (Piece.sub hF (by decide +kernel)) hs
  clear_value s1
  exact keeps_bump (keeps_bump h2 ⟨rfl, hF (by decide +kernel)⟩) ⟨rfl, hF (by decide +kernel)⟩

theorem keeps_retryReads {F : List Piece} {a s : State} (hF : [.ses, .tier] ⊆ F) (hs : Keeps F a s) :
    Keeps F a (State.retryReads s) := by
  delta State.retryReads
  extract_lets +onlyGivenNames -merge -lift -underBinder s1
  have h2 : Keeps F a s1 := by
    unfold s1
    exact keeps_foldl (fun s3 x4 h5 => keeps_fetchPages (Piece.sub hF (by decide +kernel)) h5) hs
  clear_value s1
  exact keeps_ite (fun _ => keeps_foldl (fun s6 x7 h8 => keeps_wantUp (Piece.sub hF (by decide +kernel)) h8) h2) (fun _ => h2)

theorem keeps_dispatch {F : List Piece} {a s : State} {x0 : ℕ} (hF : [.ses, .tier, .gore, .GORE_CTX, .GORE_CNT] ⊆ F) (hs : Keeps F a s) :
    Keeps F a (State.dispatch s x0) := by
  induction x0 generalizing s with
  | zero =>
    rw [State.dispatch.eq_1]
    exact hs
  | succ _ ih =>
    rw [State.dispatch.eq_2]
    exact keeps_elim hs (fun x1 => ih (keeps_dispatchTo (Piece.sub hF (by decide +kernel)) hs))

theorem keeps_markBusy {F : List Piece} {a s old : State} (hF : [.gore] ⊆ F) (hs : Keeps F a s) :
    Keeps F a (State.markBusy s old) := by
  delta State.markBusy
  extract_lets +onlyGivenNames -merge -lift -underBinder v1
  clear_value v1
  exact Keeps.other hs (hgore := .inr (hF (by decide +kernel)))

theorem keeps_rejoin {F : List Piece} {a old s : State} (hF : [.gore] ⊆ F) (hs : Keeps F a s) :
    Keeps F a (State.rejoin old s) := by
  delta State.rejoin
  refine keeps_foldl (fun s1 x2 h3 => ?_) hs
  extract_lets +onlyGivenNames -merge -lift -underBinder v4
  clear_value v4
  exact keeps_foldl (fun s5 x6 h7 => keeps_ite (fun _ => h7) (fun _ => keeps_setVt (Piece.sub hF (by decide +kernel)) h7)) h3

theorem keeps_winch {F : List Piece} {a s old : State} (hF : [.ses, .tier, .gore, .pwr, .PWR_DROGUE, .PWR_CNT, .GORE_PANEL, .GORE_CTX, .GORE_CNT,
    .CTL_PM] ⊆ F) (hs : Keeps F a s) :
    Keeps F a (State.winch s old) := by
  delta State.winch
  extract_lets +onlyGivenNames -merge -lift -underBinder s1
  have h2 : Keeps F a s1 := by
    unfold s1
    exact keeps_retryReads (Piece.sub hF (by decide +kernel)) (keeps_gateShed (Piece.sub hF (by decide +kernel)) (keeps_rejoin (Piece.sub hF
        (by decide +kernel)) hs))
  clear_value s1
  exact keeps_markBusy (Piece.sub hF (by decide +kernel)) (keeps_askPanels (Piece.sub hF (by decide +kernel)) (keeps_dispatch (Piece.sub hF
      (by decide +kernel)) h2))

theorem keeps_addItem {F : List Piece} {a s : State} {i : Item} (hF : [.gore] ⊆ F) (hs : Keeps F a s) :
    Keeps F a (State.addItem s i) := by
  delta State.addItem
  exact Keeps.other hs (hgore := .inr (hF (by decide +kernel)))

theorem keeps_refreshFloors {F : List Piece} {a s : State} (hF : [.fleet, .CTL_ADM] ⊆ F) (hs : Keeps F a s) :
    Keeps F a (State.refreshFloors s) := by
  delta State.refreshFloors
  extract_lets +onlyGivenNames -merge -lift -underBinder v1 v2 v3 v4 v5 v6 v7
  clear_value v1 v2 v3 v4 v5 v6 v7
  extract_lets +onlyGivenNames -merge -lift -underBinder s8
  have h9 : Keeps F a s8 := by
    unfold s8
    exact Keeps.other hs (hfleet := .inr (hF (by decide +kernel)))
  clear_value s8
  extract_lets +onlyGivenNames -merge -lift -underBinder s10
  have h11 : Keeps F a s10 := by
    unfold s10
    exact keeps_wr h9 ⟨rfl, hF (by decide +kernel)⟩
  clear_value s10
  extract_lets +onlyGivenNames -merge -lift -underBinder s12
  have h13 : Keeps F a s12 := by
    unfold s12
    exact keeps_wr h11 ⟨rfl, hF (by decide +kernel)⟩
  clear_value s12
  extract_lets +onlyGivenNames -merge -lift -underBinder s14
  have h15 : Keeps F a s14 := by
    unfold s14
    exact keeps_wr h13 ⟨rfl, hF (by decide +kernel)⟩
  clear_value s14
  exact keeps_wr h15 ⟨rfl, hF (by decide +kernel)⟩

theorem keeps_rerunItem {F : List Piece} {a s : State} {i : Item} (hF : [.gore, .GORE_CTX, .GORE_CNT] ⊆ F) (hs : Keeps F a s) :
    Keeps F a (State.rerunItem s i) := by
  delta State.rerunItem
  extract_lets +onlyGivenNames -merge -lift -underBinder s1
  have h2 : Keeps F a s1 := by
    unfold s1
    exact keeps_release (Piece.sub hF (by decide +kernel)) hs
  clear_value s1
  exact keeps_bump h2 ⟨rfl, hF (by decide +kernel)⟩

theorem keeps_turn {F : List Piece} {a s : State} {p : Item → Bool} (hF : [.gore] ⊆ F) (hs : Keeps F a s) :
    Keeps F a (State.turn s p) := by
  delta State.turn
  exact keeps_mapItems (Piece.sub hF (by decide +kernel)) hs

theorem keeps_unadmit {F : List Piece} {a s : State} {l : Load} {n : ℕ} (hF : [.pwr] ⊆ F) (hs : Keeps F a s) :
    Keeps F a (State.unadmit s l n) := by
  delta State.unadmit
  exact Keeps.other hs (hpwr := .inr (hF (by decide +kernel)))

/-! ### FrameBytes -/

theorem keeps_putFrame {F : List Piece} {a s : State} {p : ℕ} {f : RFrame} (hF : [.ring] ⊆ F) (hs : Keeps F a s) :
    Keeps F a (State.putFrame s p f) := by
  delta State.putFrame
  extract_lets +onlyGivenNames -merge -lift -underBinder v1 v2 v3 v4
  clear_value v1 v2 v3 v4
  extract_lets +onlyGivenNames -merge -lift -underBinder s5
  have h6 : Keeps F a s5 := by
    unfold s5
    exact keeps_setRing (Piece.sub hF (by decide +kernel)) hs
  clear_value s5
  exact keeps_emit h6

/-! ### ShpOps -/

theorem keeps_deliver {F : List Piece} {a s : State} {f : RFrame} {colour : ℕ} (hF : [.pwr, .SHP_CTX_CNT, .RING_CNT, .PWR_DROGUE, .PWR_CNT,
    .CTL_PM] ⊆ F) (hs : Keeps F a s) :
    Keeps F a (State.deliver s f colour) := by
  delta State.deliver
  extract_lets +onlyGivenNames -merge -lift -underBinder s1
  have h2 : Keeps F a s1 := by
    unfold s1
    exact keeps_bump (keeps_called (Piece.sub hF (by decide +kernel)) (keeps_leaveP2 (Piece.sub hF (by decide +kernel)) hs)) ⟨rfl, hF
        (by decide +kernel)⟩
  clear_value s1
  exact keeps_ite (fun _ => keeps_bump h2 ⟨rfl, hF (by decide +kernel)⟩) (fun _ => keeps_ite (fun _ => keeps_bump h2 ⟨rfl, hF
      (by decide +kernel)⟩) (fun _ => h2))

theorem keeps_setFlow {F : List Piece} {a s : State} {k : ℕ} {f : RxFlow} (hF : [.ring] ⊆ F) (hs : Keeps F a s) :
    Keeps F a (State.setFlow s k f) := by
  delta State.setFlow
  exact keeps_setRing (Piece.sub hF (by decide +kernel)) hs

theorem keeps_drainFlow {F : List Piece} {a s : State} {k x0 : ℕ} (hF : [.pwr, .ring, .SHP_CTX_CNT, .RING_CNT, .PWR_DROGUE, .PWR_CNT, .CTL_PM] ⊆
    F) (hs : Keeps F a s) :
    Keeps F a (State.drainFlow s k x0) := by
  induction x0 generalizing s k with
  | zero =>
    rw [State.drainFlow.eq_1]
    exact hs
  | succ _ ih =>
    rw [State.drainFlow.eq_2]
    split
    · exact hs
    · split
      · refine keeps_ite (fun _ => ?_) (fun _ => hs)
        extract_lets +onlyGivenNames -merge -lift -underBinder s1
        have h2 : Keeps F a s1 := by
          unfold s1
          exact keeps_setFlow (Piece.sub hF (by decide +kernel)) hs
        clear_value s1
        exact ih (keeps_ite (fun _ => h2) (fun _ => keeps_deliver (Piece.sub hF (by decide +kernel)) h2))
      · exact hs

theorem keeps_holdFrame {F : List Piece} {a s : State} {h : HeldFrame} (hF : [.pwr, .ring, .SHP_CTX_CNT, .RING_CNT, .PWR_DROGUE, .PWR_CNT,
    .CTL_PM] ⊆ F) (hs : Keeps F a s) :
    Keeps F a (State.holdFrame s h) := by
  delta State.holdFrame
  extract_lets +onlyGivenNames -merge -lift -underBinder v1
  clear_value v1
  extract_lets +onlyGivenNames -merge -lift -underBinder s2
  have h3 : Keeps F a s2 := by
    unfold s2
    exact keeps_setFlow (Piece.sub hF (by decide +kernel)) hs
  clear_value s2
  extract_lets +onlyGivenNames -merge -lift -underBinder v4
  clear_value v4
  extract_lets +onlyGivenNames -merge -lift -underBinder s5
  have h6 : Keeps F a s5 := by
    unfold s5
    refine keeps_ite (fun _ => h3) (fun _ => ?_)
    split
    · exact h3
    · extract_lets +onlyGivenNames -merge -lift -underBinder v7 v8
      clear_value v7 v8
      extract_lets +onlyGivenNames -merge -lift -underBinder s9
      have h10 : Keeps F a s9 := by
        unfold s9
        exact keeps_setFlow (Piece.sub hF (by decide +kernel)) h3
      clear_value s9
      exact keeps_bump (keeps_bump h10 ⟨rfl, hF (by decide +kernel)⟩) ⟨rfl, hF (by decide +kernel)⟩
  clear_value s5
  exact keeps_drainFlow (Piece.sub hF (by decide +kernel)) h6

theorem keeps_loseFrame {F : List Piece} {a s : State} {f : RFrame} (hF : [.pwr, .ring, .SHP_CTX_CNT, .RING_CNT, .PWR_DROGUE, .PWR_CNT, .CTL_PM]
    ⊆ F) (hs : Keeps F a s) :
    Keeps F a (State.loseFrame s f) := by
  delta State.loseFrame
  exact keeps_holdFrame (Piece.sub hF (by decide +kernel)) (keeps_bump hs ⟨rfl, hF (by decide +kernel)⟩)

theorem keeps_drrNext {F : List Piece} {a s : State} {p : ℕ} {ready : List (ℕ × ℕ)} {cur : ℕ} (hF : [.ring] ⊆ F) (hs : Keeps F a s) :
    KeepsP F a (State.drrNext s p ready cur) := by
  delta State.drrNext
  extract_lets +onlyGivenNames -merge -lift -underBinder v1 v2
  clear_value v1 v2
  exact KeepsP.mk (keeps_setRing (Piece.sub hF (by decide +kernel)) hs)

theorem keeps_drr {F : List Piece} {a s : State} {p cls : ℕ} {ready : List (ℕ × ℕ)} {x0 x1 : ℕ} (hF : [.ring] ⊆ F) (hs : Keeps F a s) :
    KeepsP F a (State.drr s p cls ready x0 x1) := by
  induction x0 generalizing s x1 with
  | zero =>
    unfold State.drr
    exact KeepsP.mk hs
  | succ n ih =>
    have had : ∀ cur, KeepsP F a (State.drr (s.drrNext p ready cur).1 p cls ready n (s.drrNext p ready cur).2) := fun cur => by
      refine ih ?_
      unfold State.drrNext
      exact keeps_setRing hF hs
    unfold State.drr
    dsimp only
    split
    · split
      · exact KeepsP.mk (keeps_setRing hF hs)
      · exact had _
    · exact had _

theorem keeps_shpPut {F : List Piece} {a s : State} {f : Fld} {i j v : ℕ} (hF : [.ring] ⊆ F) (hs : Keeps F a s) (hf : f.free F) :
    Keeps F a (State.shpPut s f i j v) := by
  delta State.shpPut
  refine keeps_ite (fun _ => hs) (fun _ => ?_)
  extract_lets +onlyGivenNames -merge -lift -underBinder v1 v2
  clear_value v1 v2
  extract_lets +onlyGivenNames -merge -lift -underBinder s3
  have h4 : Keeps F a s3 := by
    unfold s3
    exact keeps_ite (fun _ => hs) (fun _ => keeps_setRing (Piece.sub hF (by decide +kernel)) hs)
  clear_value s3
  exact keeps_wr h4 hf

theorem keeps_shpWord {F : List Piece} {a s : State} {fs : List Fld} {i j word : ℕ} (hF : [.ring] ⊆ F) (hs : Keeps F a s) (hfs : ∀ f ∈ fs, f.free F) :
    Keeps F a (State.shpWord s fs i j word) := by
  unfold State.shpWord
  induction fs generalizing s with
  | nil => exact hs
  | cons f t ih => exact ih (keeps_shpPut hF hs (hfs f List.mem_cons_self)) fun g hg => hfs g (List.mem_cons_of_mem _ hg)

theorem keeps_police {F : List Piece} {a s : State} {c op : ℕ} (hF : [.ring] ⊆ F) (hs : Keeps F a s) :
    KeepsP F a (State.police s c op) := by
  delta State.police
  refine keepsP_ite (fun _ => KeepsP.mk hs) (fun _ => ?_)
  extract_lets +onlyGivenNames -merge -lift -underBinder v1
  clear_value v1
  refine keepsP_ite (fun _ => KeepsP.mk hs) (fun _ => ?_)
  extract_lets +onlyGivenNames -merge -lift -underBinder v2
  clear_value v2
  exact keepsP_ite (fun _ => KeepsP.mk hs) (fun _ => KeepsP.mk (keeps_setHostMeter (Piece.sub hF (by decide +kernel)) hs))

theorem keeps_chargeRing {F : List Piece} {a s : State} {dt : ℕ} (hF : [.SHP_CTX_CNT, .RING_PORT_CNT] ⊆ F) (hs : Keeps F a s) :
    Keeps F a (State.chargeRing s dt) := by
  delta State.chargeRing
  extract_lets +onlyGivenNames -merge -lift -underBinder v1
  clear_value v1
  extract_lets +onlyGivenNames -merge -lift -underBinder s2
  have h3 : Keeps F a s2 := by
    unfold s2
    exact keeps_foldl (fun s4 x5 h6 => keeps_bump h6 ⟨rfl, hF (by decide +kernel)⟩) hs
  clear_value s2
  exact keeps_foldl (fun s7 x8 h9 => keeps_ite (fun _ => keeps_bump h9 ⟨rfl, hF (by decide +kernel)⟩) (fun _ => h9)) h3

theorem keeps_unblock {F : List Piece} {a s : State} (hF : [.ring] ⊆ F) (hs : Keeps F a s) :
    Keeps F a (State.unblock s) := by
  delta State.unblock
  extract_lets +onlyGivenNames -merge -lift -underBinder v1
  clear_value v1
  exact keeps_foldl (fun s2 x3 h4 => keeps_routeFrame (Piece.sub hF (by decide +kernel)) h4) (keeps_setRing (Piece.sub hF (by decide +kernel)) hs)

theorem keeps_setPcap {F : List Piece} {a s : State} {p : ℕ} {v : ℤ} (hF : [.ring] ⊆ F) (hs : Keeps F a s) :
    Keeps F a (State.setPcap s p v) := by
  delta State.setPcap
  exact keeps_setRing (Piece.sub hF (by decide +kernel)) hs

theorem keeps_setTok {F : List Piece} {a s : State} {q : ℕ} {t : ℤ} (hF : [.ring] ⊆ F) (hs : Keeps F a s) :
    Keeps F a (State.setTok s q t) := by
  delta State.setTok
  exact keeps_setRing (Piece.sub hF (by decide +kernel)) hs

theorem keeps_depart {F : List Piece} {a s : State} {p v : ℕ} {c : Bool × ℕ × QFrame} (hF : [.ring, .SHP_CTX_CNT, .SHP_CNT, .RING_PORT_CNT,
    .MTR_LIVE] ⊆ F) (hs : Keeps F a s) :
    Keeps F a (State.depart s p v c) := by
  delta State.depart
  extract_lets +onlyGivenNames -merge -lift -underBinder v1 v2 v3 v4 v5 v6 v7
  clear_value v1 v2 v3 v4 v5 v6 v7
  extract_lets +onlyGivenNames -merge -lift -underBinder s8
  have h9 : Keeps F a s8 := by
    unfold s8
    exact keeps_setRing (Piece.sub hF (by decide +kernel)) hs
  clear_value s8
  extract_lets +onlyGivenNames -merge -lift -underBinder s10
  have h11 : Keeps F a s10 := by
    unfold s10
    exact keeps_ite (fun _ => keeps_putFrame (Piece.sub hF (by decide +kernel)) h9) (fun _ => keeps_tickFree (keeps_putFrame (Piece.sub hF
        (by decide +kernel)) h9))
  clear_value s10
  extract_lets +onlyGivenNames -merge -lift -underBinder s12
  have h13 : Keeps F a s12 := by
    unfold s12
    exact keeps_bump h11 ⟨rfl, hF (by decide +kernel)⟩
  clear_value s12
  refine keeps_ite (fun _ => keeps_setRing (Piece.sub hF (by decide +kernel)) h13) (fun _ => ?_)
  extract_lets +onlyGivenNames -merge -lift -underBinder v14
  clear_value v14
  extract_lets +onlyGivenNames -merge -lift -underBinder s15
  have h16 : Keeps F a s15 := by
    unfold s15
    exact keeps_setRing (Piece.sub hF (by decide +kernel)) h13
  clear_value s15
  extract_lets +onlyGivenNames -merge -lift -underBinder s17
  have h18 : Keeps F a s17 := by
    unfold s17
    exact keeps_bump (keeps_bump h16 ⟨rfl, hF (by decide +kernel)⟩) ⟨rfl, hF (by decide +kernel)⟩
  clear_value s17
  extract_lets +onlyGivenNames -merge -lift -underBinder s19
  have h20 : Keeps F a s19 := by
    unfold s19
    exact keeps_bump h18 ⟨rfl, hF (by decide +kernel)⟩
  clear_value s19
  exact keeps_ite (fun _ => keeps_settleV (Piece.sub hF (by decide +kernel)) (keeps_setRing (Piece.sub hF (by decide +kernel)) h20)) (fun _ =>
      keeps_ite (fun _ => h20) (fun _ => keeps_setTok (Piece.sub hF (by decide +kernel)) h20))

theorem keeps_acceptFrame {F : List Piece} {a s : State} {f : RFrame} {l colour : ℕ} (hF : [.pwr, .ring, .SHP_CTX_CNT, .RING_CNT, .PWR_DROGUE,
    .PWR_CNT, .CTL_PM] ⊆ F) (hs : Keeps F a s) :
    Keeps F a (State.acceptFrame s f l colour) := by
  delta State.acceptFrame
  extract_lets +onlyGivenNames -merge -lift -underBinder v1 v2
  clear_value v1 v2
  exact keeps_ite (fun _ => keeps_drainFlow (Piece.sub hF (by decide +kernel)) (keeps_setFlow (Piece.sub hF (by decide +kernel)) (keeps_deliver
      (Piece.sub hF (by decide +kernel)) hs))) (fun _ => keeps_ite (fun _ => hs) (fun _ => keeps_holdFrame (Piece.sub hF (by decide +kernel)) hs))

/-! ### StepOps -/

theorem keeps_touchAll {F : List Piece} {a s : State} {h : ℕ} {keys : List ℕ} (hF : [.ses, .tier] ⊆ F) (hs : Keeps F a s) :
    Keeps F a (State.touchAll s h keys) := by
  delta State.touchAll
  exact keeps_foldl (fun s1 x2 h3 => keeps_touch (Piece.sub hF (by decide +kernel)) h3) hs

theorem keeps_stall {F : List Piece} {a s : State} {c k n : ℕ} (hF : [.TIER_STALL] ⊆ F) (hs : Keeps F a s) :
    Keeps F a (State.stall s c k n) := by
  delta State.stall
  exact keeps_bump hs ⟨rfl, hF (by decide +kernel)⟩

theorem keeps_sealNow {F : List Piece} {a s : State} {i : Item} {g : Shape} (hF : [.ses, .tier, .GORE_TILE, .GORE_TILE_CNT] ⊆ F) (hs : Keeps F a s) :
    Keeps F a (State.sealNow s i g) := by
  delta State.sealNow
  split
  · exact hs
  · extract_lets +onlyGivenNames -merge -lift -underBinder v1
    clear_value v1
    split
    · exact hs
    · extract_lets +onlyGivenNames -merge -lift -underBinder v2 v3 v4 v5 v6
      clear_value v2 v3 v4 v5 v6
      extract_lets +onlyGivenNames -merge -lift -underBinder s7
      have h8 : Keeps F a s7 := by
        unfold s7
        exact keeps_ite (fun _ => keeps_bump (keeps_wr hs ⟨rfl, hF (by decide +kernel)⟩) ⟨rfl, hF (by decide +kernel)⟩) (fun _ => hs)
      clear_value s7
      extract_lets +onlyGivenNames -merge -lift -underBinder v9
      clear_value v9
      extract_lets +onlyGivenNames -merge -lift -underBinder s10
      have h11 : Keeps F a s10 := by
        unfold s10
        exact keeps_foldl (fun s12 x13 h14 => keeps_bump h14 ⟨rfl, hF (by decide +kernel)⟩) h8
      clear_value s10
      extract_lets +onlyGivenNames -merge -lift -underBinder s15
      have h16 : Keeps F a s15 := by
        unfold s15
        exact keeps_bump h11 ⟨rfl, hF (by decide +kernel)⟩
      clear_value s15
      extract_lets +onlyGivenNames -merge -lift -underBinder v17 v18
      clear_value v17 v18
      extract_lets +onlyGivenNames -merge -lift -underBinder s19
      have h20 : Keeps F a s19 := by
        unfold s19
        exact keeps_setSess (Piece.sub hF (by decide +kernel)) h16
      clear_value s19
      extract_lets +onlyGivenNames -merge -lift -underBinder s21
      have h22 : Keeps F a s21 := by
        unfold s21
        exact keeps_touchAll (Piece.sub hF (by decide +kernel)) h20
      clear_value s21
      extract_lets +onlyGivenNames -merge -lift -underBinder s23
      have h24 : Keeps F a s23 := by
        unfold s23
        exact keeps_writeStream (Piece.sub hF (by decide +kernel)) h22
      clear_value s23
      exact keeps_writePage (Piece.sub hF (by decide +kernel)) h24

theorem keeps_undoRows {F : List Piece} {a s : State} {h : ℕ} (hF : [.ses, .tier, .pool, .TIER_OBJ, .POOL_OBJ, .POOL_CNT, .CTL_READY] ⊆ F) (hs :
    Keeps F a s) :
    Keeps F a (State.undoRows s h) := by
  delta State.undoRows
  split
  · exact hs
  · split
    · exact hs
    · exact keeps_sweepStream (Piece.sub hF (by decide +kernel)) (keeps_setSess (Piece.sub hF (by decide +kernel)) hs)

theorem keeps_writeRecord {F : List Piece} {a s : State} {t : Step} {i : ℕ} {e : SEntry} (hs : Keeps F a s) :
    Keeps F a (State.writeRecord s t i e) := by
  delta State.writeRecord
  exact keeps_emit hs

theorem keeps_setSteps {F : List Piece} {a s : State} {l : List Step} (hF : [.attn] ⊆ F) (hs : Keeps F a s) :
    Keeps F a (State.setSteps s l) := by
  delta State.setSteps
  exact Keeps.other hs (hattn := .inr (hF (by decide +kernel)))

theorem keeps_updStep {F : List Piece} {a s : State} {n : ℕ} {f : Step → Step} (hF : [.attn] ⊆ F) (hs : Keeps F a s) :
    Keeps F a (State.updStep s n f) := by
  delta State.updStep
  exact keeps_setSteps (Piece.sub hF (by decide +kernel)) hs

theorem keeps_updEntry {F : List Piece} {a s : State} {n h : ℕ} {f : SEntry → SEntry} (hF : [.attn] ⊆ F) (hs : Keeps F a s) :
    Keeps F a (State.updEntry s n h f) := by
  delta State.updEntry
  exact keeps_updStep (Piece.sub hF (by decide +kernel)) hs

theorem keeps_endEntry {F : List Piece} {a s : State} {n h : ℕ} {st : Status} {cause : ℕ} (hF : [.ses, .attn] ⊆ F) (hs : Keeps F a s) :
    Keeps F a (State.endEntry s n h st cause) := by
  delta State.endEntry
  extract_lets +onlyGivenNames -merge -lift -underBinder s1
  have h2 : Keeps F a s1 := by
    unfold s1
    exact keeps_updEntry (Piece.sub hF (by decide +kernel)) hs
  clear_value s1
  split
  · exact h2
  · extract_lets +onlyGivenNames -merge -lift -underBinder v3
    clear_value v3
    extract_lets +onlyGivenNames -merge -lift -underBinder s4
    have h5 : Keeps F a s4 := by
      unfold s4
      split
      · exact keeps_writeRecord h2
      · exact h2
    clear_value s4
    extract_lets +onlyGivenNames -merge -lift -underBinder v6
    clear_value v6
    extract_lets +onlyGivenNames -merge -lift -underBinder s7
    have h8 : Keeps F a s7 := by
      unfold s7
      exact Keeps.other h5 (hses := .inr (hF (by decide +kernel)))
    clear_value s7
    exact keeps_updSess (Piece.sub hF (by decide +kernel)) h8

theorem keeps_kickEntry {F : List Piece} {a s : State} {t : Step} {e : SEntry} {l : ℕ} (hF : [.gore] ⊆ F) (hs : Keeps F a s) :
    Keeps F a (State.kickEntry s t e l) := by
  delta State.kickEntry
  exact keeps_foldl (fun s1 x2 h3 => keeps_addItem (Piece.sub hF (by decide +kernel)) h3) hs

theorem keeps_formLayer {F : List Piece} {a s : State} {t : Step} {e : SEntry} {l : ℕ} (hF : [.ses, .tier, .gore] ⊆ F) (hs : Keeps F a s) :
    Keeps F a (State.formLayer s t e l) := by
  delta State.formLayer
  refine keeps_ite (fun _ => hs) (fun _ => ?_)
  split
  · exact hs
  · extract_lets +onlyGivenNames -merge -lift -underBinder v1
    clear_value v1
    refine keeps_foldl (fun s2 x3 h4 => ?_) hs
    refine keeps_foldl (fun s5 x6 h7 => ?_) h4
    extract_lets +onlyGivenNames -merge -lift -underBinder v8 v9 v10
    clear_value v8 v9 v10
    exact keeps_request (Piece.sub hF (by decide +kernel)) (keeps_addItem (Piece.sub hF (by decide +kernel)) h7)

theorem keeps_startEntry {F : List Piece} {a s : State} {t : Step} {e : SEntry} (hF : [.ses, .tier, .gore, .attn] ⊆ F) (hs : Keeps F a s) :
    Keeps F a (State.startEntry s t e) := by
  delta State.startEntry
  extract_lets +onlyGivenNames -merge -lift -underBinder s1
  have h2 : Keeps F a s1 := by
    unfold s1
    exact keeps_updEntry (Piece.sub hF (by decide +kernel)) hs
  clear_value s1
  extract_lets +onlyGivenNames -merge -lift -underBinder s3
  have h4 : Keeps F a s3 := by
    unfold s3
    exact keeps_foldl (fun s5 x6 h7 => keeps_formLayer (Piece.sub hF (by decide +kernel)) h7) h2
  clear_value s3
  exact keeps_foldl (fun s8 x9 h10 => keeps_kickEntry (Piece.sub hF (by decide +kernel)) h10) h4

theorem keeps_nextItem {F : List Piece} {a s : State} {h x0 : ℕ} (hF : [.ses, .tier, .gore, .attn] ⊆ F) (hs : Keeps F a s) :
    Keeps F a (State.nextItem s h x0) := by
  induction x0 generalizing s h with
  | zero =>
    rw [State.nextItem.eq_1]
    exact hs
  | succ _ ih =>
    rw [State.nextItem.eq_2]
    refine keeps_ite (fun _ => hs) (fun _ => ?_)
    split
    · exact hs
    · split
      · refine keeps_ite (fun _ => hs) (fun _ => ?_)
        split
        · exact keeps_startEntry (Piece.sub hF (by decide +kernel)) hs
        · exact ih (keeps_endEntry (Piece.sub hF (by decide +kernel)) (keeps_updEntry (Piece.sub hF (by decide +kernel)) hs))
      · exact hs

theorem keeps_startNext {F : List Piece} {a s : State} {h : ℕ} (hF : [.ses, .tier, .gore, .attn] ⊆ F) (hs : Keeps F a s) :
    Keeps F a (State.startNext s h) := by
  delta State.startNext
  exact keeps_nextItem (Piece.sub hF (by decide +kernel)) hs

theorem keeps_closeEntry {F : List Piece} {a s : State} {n h : ℕ} {st : Status} {cause : ℕ} (hF : [.ses, .tier, .gore, .attn] ⊆ F) (hs : Keeps F
    a s) :
    Keeps F a (State.closeEntry s n h st cause) := by
  delta State.closeEntry
  exact keeps_startNext (Piece.sub hF (by decide +kernel)) (keeps_endEntry (Piece.sub hF (by decide +kernel)) hs)

theorem keeps_formSeals {F : List Piece} {a s : State} {cls : WClass} {c step h : ℕ} {g : Shape} {col : ℕ} {hls : List ℕ} (hF : [.gore] ⊆ F) (hs
    : Keeps F a s) :
    Keeps F a (State.formSeals s cls c step h g col hls) := by
  delta State.formSeals
  exact keeps_foldl (fun s1 x2 h3 => keeps_addItem (Piece.sub hF (by decide +kernel)) h3) hs

theorem keeps_appendPages {F : List Piece} {a s : State} {h : ℕ} {g : Shape} {col : ℕ} {hls : List ℕ} (hF : [.ses, .tier] ⊆ F) (hs : Keeps F a s) :
    Keeps F a (State.appendPages s h g col hls) := by
  delta State.appendPages
  exact keeps_foldl (fun s1 x2 h3 => keeps_writeOpen (Piece.sub hF (by decide +kernel)) (keeps_touchAll (Piece.sub hF (by decide +kernel)) h3)) hs

theorem keeps_takeRows {F : List Piece} {a s : State} {cls : WClass} {c step h : ℕ} {g : Shape} {p n : ℕ} {rows : Map (List ℕ)} (hF : [.ses,
    .tier, .gore] ⊆ F) (hs : Keeps F a s) :
    Keeps F a (State.takeRows s cls c step h g p n rows) := by
  delta State.takeRows
  split
  · exact hs
  · extract_lets +onlyGivenNames -merge -lift -underBinder v1 v2 v3
    clear_value v1 v2 v3
    extract_lets +onlyGivenNames -merge -lift -underBinder s4
    have h5 : Keeps F a s4 := by
      unfold s4
      exact keeps_setSess (Piece.sub hF (by decide +kernel)) hs
    clear_value s4
    extract_lets +onlyGivenNames -merge -lift -underBinder s6
    have h7 : Keeps F a s6 := by
      unfold s6
      exact keeps_appendPages (Piece.sub hF (by decide +kernel)) h5
    clear_value s6
    exact keeps_foldl (fun s8 x9 h10 => keeps_formSeals (Piece.sub hF (by decide +kernel)) h10) h7

theorem keeps_chargeStep {F : List Piece} {a s : State} {t : Step} {dt : ℕ} (hF : [.TIER_STALL] ⊆ F) (hs : Keeps F a s) :
    Keeps F a (State.chargeStep s t dt) := by
  delta State.chargeStep
  refine keeps_ite (fun _ => hs) (fun _ => ?_)
  split
  · exact hs
  · extract_lets +onlyGivenNames -merge -lift -underBinder v1 v2
    clear_value v1 v2
    exact keeps_stall (Piece.sub hF (by decide +kernel)) (keeps_stall (Piece.sub hF (by decide +kernel)) hs)

theorem keeps_leaveStep {F : List Piece} {a s : State} {n h : ℕ} {st : Status} {cause : ℕ} {deep : optParam Bool true} (hF : [.ses, .tier, .gore,
    .attn, .pool, .TIER_OBJ, .POOL_OBJ, .POOL_CNT, .GORE_TILE_CNT, .GORE_CTX, .GORE_CTX_CNT, .CTL_READY] ⊆ F) (hs : Keeps F a s) :
    Keeps F a (State.leaveStep s n h st cause deep) := by
  delta State.leaveStep
  split
  · exact hs
  · split
    · exact hs
    · extract_lets +onlyGivenNames -merge -lift -underBinder s1
      have h2 : Keeps F a s1 := by
        unfold s1
        exact keeps_bump hs ⟨rfl, hF (by decide +kernel)⟩
      clear_value s1
      extract_lets +onlyGivenNames -merge -lift -underBinder s3
      have h4 : Keeps F a s3 := by
        unfold s3
        exact keeps_killItems (Piece.sub hF (by decide +kernel)) h2
      clear_value s3
      extract_lets +onlyGivenNames -merge -lift -underBinder s5
      have h6 : Keeps F a s5 := by
        unfold s5
        exact keeps_ite (fun _ => keeps_undoRows (Piece.sub hF (by decide +kernel)) h4) (fun _ => h4)
      clear_value s5
      extract_lets +onlyGivenNames -merge -lift -underBinder s7
      have h8 : Keeps F a s7 := by
        unfold s7
        exact keeps_updEntry (Piece.sub hF (by decide +kernel)) h6
      clear_value s7
      exact keeps_closeEntry (Piece.sub hF (by decide +kernel)) h8

theorem keeps_passWork {F : List Piece} {a s : State} {dt : ℕ} (hF : [.fleet] ⊆ F) (hs : Keeps F a s) :
    Keeps F a (State.passWork s dt) := by
  delta State.passWork
  exact keeps_ite (fun _ => Keeps.other hs (hfleet := .inr (hF (by decide +kernel)))) (fun _ => hs)

theorem keeps_writeFlag {F : List Piece} {a s : State} {t : Step} {done : ℕ} {fin : Bool} (hs : Keeps F a s) :
    Keeps F a (State.writeFlag s t done fin) := by
  delta State.writeFlag
  exact keeps_ite (fun _ => hs) (fun _ => keeps_emit hs)

theorem keeps_writeOut {F : List Piece} {a s : State} {t : Step} {l i : ℕ} {o lse : List ℕ} (hs : Keeps F a s) :
    Keeps F a (State.writeOut s t l i o lse) := by
  delta State.writeOut
  extract_lets +onlyGivenNames -merge -lift -underBinder v1 v2
  clear_value v1 v2
  extract_lets +onlyGivenNames -merge -lift -underBinder s3
  have h4 : Keeps F a s3 := by
    unfold s3
    exact keeps_emit hs
  clear_value s3
  exact keeps_emit h4

theorem keeps_writeMarker {F : List Piece} {a s : State} {t : Step} {l i : ℕ} (hF : [.GORE_ATTN_CNT] ⊆ F) (hs : Keeps F a s) :
    Keeps F a (State.writeMarker s t l i) := by
  delta State.writeMarker
  extract_lets +onlyGivenNames -merge -lift -underBinder v1
  clear_value v1
  exact keeps_bump (keeps_writeOut hs) ⟨rfl, hF (by decide +kernel)⟩

theorem keeps_chargePower {F : List Piece} {a s : State} {dt : ℕ} (hF : [.PWR_CNT, .CTL_RST_CNT, .CTL_PIN_CNT] ⊆ F) (hs : Keeps F a s) :
    Keeps F a (State.chargePower s dt) := by
  delta State.chargePower
  extract_lets +onlyGivenNames -merge -lift -underBinder s1
  have h2 : Keeps F a s1 := by
    unfold s1
    exact keeps_ite (fun _ => keeps_bump hs ⟨rfl, hF (by decide +kernel)⟩) (fun _ => hs)
  clear_value s1
  extract_lets +onlyGivenNames -merge -lift -underBinder s3
  have h4 : Keeps F a s3 := by
    unfold s3
    exact keeps_ite (fun _ => keeps_bump h2 ⟨rfl, hF (by decide +kernel)⟩) (fun _ => h2)
  clear_value s3
  extract_lets +onlyGivenNames -merge -lift -underBinder s5
  have h6 : Keeps F a s5 := by
    unfold s5
    exact keeps_ite (fun _ => keeps_bump h4 ⟨rfl, hF (by decide +kernel)⟩) (fun _ => h4)
  clear_value s5
  exact keeps_ite (fun _ => keeps_bump h6 ⟨rfl, hF (by decide +kernel)⟩) (fun _ => h6)

theorem keeps_keepRows {F : List Piece} {a s : State} {h : ℕ} (hF : [.ses, .GORE_TILE_CNT, .GORE_ATTN_CNT] ⊆ F) (hs : Keeps F a s) :
    Keeps F a (State.keepRows s h) := by
  delta State.keepRows
  split
  · exact hs
  · split
    · exact hs
    · exact keeps_bump (keeps_bump (keeps_setSess (Piece.sub hF (by decide +kernel)) hs) ⟨rfl, hF (by decide +kernel)⟩) ⟨rfl, hF (by decide +kernel)⟩

theorem keeps_settleEntry {F : List Piece} {a s : State} {n h : ℕ} (hF : [.ses, .tier, .gore, .attn, .GORE_TILE_CNT, .GORE_ATTN_CNT] ⊆ F) (hs :
    Keeps F a s) :
    Keeps F a (State.settleEntry s n h) := by
  delta State.settleEntry
  split
  · exact hs
  · split
    · exact keeps_ite (fun _ => keeps_closeEntry (Piece.sub hF (by decide +kernel)) (keeps_keepRows (Piece.sub hF (by decide +kernel)) hs)) (fun
          _ => hs)
    · exact hs

theorem keeps_leaveAll {F : List Piece} {a s : State} {h : ℕ} {st : Status} {cause : ℕ} (hF : [.ses, .tier, .gore, .attn, .pool, .TIER_OBJ,
    .POOL_OBJ, .POOL_CNT, .GORE_TILE_CNT, .GORE_CTX, .GORE_CTX_CNT, .CTL_READY] ⊆ F) (hs : Keeps F a s) :
    Keeps F a (State.leaveAll s h st cause) := by
  delta State.leaveAll
  exact keeps_foldl (fun s1 x2 h3 => keeps_leaveStep (Piece.sub hF (by decide +kernel)) h3) hs

theorem keeps_pass {F : List Piece} {a s : State} {dt : ℕ} (hF : [.fleet, .TIER_STALL, .SHP_CTX_CNT, .RING_PORT_CNT, .PWR_CNT, .MTR_LIVE,
    .HTI_TIME, .HTI_CNT, .GORE_CTX_CNT, .GORE_CLASS, .CTL_RT, .CTL_RST_CNT, .CTL_PIN_CNT] ⊆ F) (hs : Keeps F a s) :
    Keeps F a (State.pass s dt) := by
  delta State.pass
  extract_lets +onlyGivenNames -merge -lift -underBinder s1
  have h2 : Keeps F a s1 := by
    unfold s1
    exact keeps_passWork (Piece.sub hF (by decide +kernel)) hs
  clear_value s1
  extract_lets +onlyGivenNames -merge -lift -underBinder s3
  have h4 : Keeps F a s3 := by
    unfold s3
    exact keeps_foldl (fun s5 x6 h7 => keeps_chargeStep (Piece.sub hF (by decide +kernel)) h7) h2
  clear_value s3
  extract_lets +onlyGivenNames -merge -lift -underBinder s8
  have h9 : Keeps F a s8 := by
    unfold s8
    exact keeps_foldl (fun s10 x11 h12 => keeps_chargeGore (Piece.sub hF (by decide +kernel)) h12) h4
  clear_value s8
  extract_lets +onlyGivenNames -merge -lift -underBinder s13
  have h14 : Keeps F a s13 := by
    unfold s13
    exact keeps_foldl (fun s15 x16 h17 => keeps_ite (fun _ => keeps_bump h17 ⟨rfl, hF (by decide +kernel)⟩) (fun _ => h17)) h9
  clear_value s13
  extract_lets +onlyGivenNames -merge -lift -underBinder v18
  clear_value v18
  extract_lets +onlyGivenNames -merge -lift -underBinder s19
  have h20 : Keeps F a s19 := by
    unfold s19
    exact keeps_foldl (fun s21 x22 h23 => keeps_bump h23 ⟨rfl, hF (by decide +kernel)⟩) h14
  clear_value s19
  exact keeps_advance (Piece.sub hF (by decide +kernel)) (keeps_chargePower (Piece.sub hF (by decide +kernel)) (keeps_chargeRing (Piece.sub hF
      (by decide +kernel)) h20))

/-! ### SesOps -/

theorem keeps_refreshGauge {F : List Piece} {a s : State} (hF : [.CTL_SES] ⊆ F) (hs : Keeps F a s) :
    Keeps F a (State.refreshGauge s) := by
  delta State.refreshGauge
  exact keeps_wr (keeps_wr hs ⟨rfl, hF (by decide +kernel)⟩) ⟨rfl, hF (by decide +kernel)⟩

theorem keeps_enter {F : List Piece} {a s : State} {h : ℕ} {st : SState} (hF : [.ses, .fleet, .CTL_SES] ⊆ F) (hs : Keeps F a s) :
    Keeps F a (State.enter s h st) := by
  delta State.enter
  extract_lets +onlyGivenNames -merge -lift -underBinder s1
  have h2 : Keeps F a s1 := by
    unfold s1
    exact keeps_refreshGauge (Piece.sub hF (by decide +kernel)) (keeps_updSess (Piece.sub hF (by decide +kernel)) hs)
  clear_value s1
  split
  · exact keeps_ite (fun _ => Keeps.other h2 (hfleet := .inr (hF (by decide +kernel)))) (fun _ => h2)
  · exact h2

theorem keeps_deflate {F : List Piece} {a s : State} {h reason : ℕ} (hF : [.ses, .tier, .fleet, .pool, .TIER_OBJ, .POOL_OBJ, .POOL_CNT, .CTL_SES,
    .CTL_READY] ⊆ F) (hs : Keeps F a s) :
    Keeps F a (State.deflate s h reason) := by
  delta State.deflate
  split
  · exact hs
  · extract_lets +onlyGivenNames -merge -lift -underBinder s1
    have h2 : Keeps F a s1 := by
      unfold s1
      exact keeps_foldl (fun s3 x4 h5 => keeps_ite (fun _ => keeps_emptyPage (Piece.sub hF (by decide +kernel)) h5) (fun _ => h5)) hs
    clear_value s1
    extract_lets +onlyGivenNames -merge -lift -underBinder s6
    have h7 : Keeps F a s6 := by
      unfold s6
      exact keeps_updSess (Piece.sub hF (by decide +kernel)) h2
    clear_value s6
    exact keeps_enter (Piece.sub hF (by decide +kernel)) h7

theorem keeps_autoDeflate {F : List Piece} {a s : State} {h reason : ℕ} (hF : [.mbx, .ses, .tier, .fleet, .pool, .TIER_OBJ, .POOL_OBJ, .POOL_CNT,
    .MBX_SUM, .MBX_CNT, .HTI_W_MBSTS, .HTI_W_EVT, .HTI_CNT, .CTL_SES, .CTL_SES_CNT, .CTL_READY] ⊆ F) (hs : Keeps F a s) :
    Keeps F a (State.autoDeflate s h reason) := by
  delta State.autoDeflate
  extract_lets +onlyGivenNames -merge -lift -underBinder s1
  have h2 : Keeps F a s1 := by
    unfold s1
    exact keeps_bump (keeps_deflate (Piece.sub hF (by decide +kernel)) hs) ⟨rfl, hF (by decide +kernel)⟩
  clear_value s1
  exact keeps_event (Piece.sub hF (by decide +kernel)) h2

theorem keeps_refreshShape {F : List Piece} {a s : State} {n : ℕ} (hF : [.GORE_SHAPE, .CTL_SES] ⊆ F) (hs : Keeps F a s) :
    Keeps F a (State.refreshShape s n) := by
  delta State.refreshShape
  exact keeps_refreshGauge (Piece.sub hF (by decide +kernel)) (keeps_wr hs ⟨rfl, hF (by decide +kernel)⟩)

theorem keeps_freeSess {F : List Piece} {a s : State} {h : ℕ} (hF : [.ses, .tier, .pool, .TIER_OBJ, .POOL_OBJ, .POOL_CNT, .GORE_SHAPE, .CTL_SES,
    .CTL_READY] ⊆ F) (hs : Keeps F a s) :
    Keeps F a (State.freeSess s h) := by
  delta State.freeSess
  split
  · extract_lets +onlyGivenNames -merge -lift -underBinder s1
    have h2 : Keeps F a s1 := by
      unfold s1
      exact keeps_emptyAll (Piece.sub hF (by decide +kernel)) hs
    clear_value s1
    extract_lets +onlyGivenNames -merge -lift -underBinder v3
    clear_value v3
    extract_lets +onlyGivenNames -merge -lift -underBinder s4
    have h5 : Keeps F a s4 := by
      unfold s4
      exact Keeps.other h2 (hses := .inr (hF (by decide +kernel)))
    clear_value s4
    exact keeps_refreshShape (Piece.sub hF (by decide +kernel)) h5
  · exact hs

theorem keeps_dropCopy {F : List Piece} {a s : State} {h epoch owner : ℕ} (hF : [.ses, .tier, .fleet, .pool, .TIER_OBJ, .POOL_OBJ, .POOL_CNT,
    .GORE_SHAPE, .CTL_SES, .CTL_READY] ⊆ F) (hs : Keeps F a s) :
    Keeps F a (State.dropCopy s h epoch owner) := by
  delta State.dropCopy
  split
  · exact hs
  · extract_lets +onlyGivenNames -merge -lift -underBinder v1
    clear_value v1
    extract_lets +onlyGivenNames -merge -lift -underBinder s2
    have h3 : Keeps F a s2 := by
      unfold s2
      exact keeps_foldl (fun s4 x5 h6 => keeps_ite (fun _ => h6) (fun _ => keeps_emptyPage (Piece.sub hF (by decide +kernel)) h6)) hs
    clear_value s2
    extract_lets +onlyGivenNames -merge -lift -underBinder s7
    have h8 : Keeps F a s7 := by
      unfold s7
      exact keeps_updSess (Piece.sub hF (by decide +kernel)) h3
    clear_value s7
    exact keeps_ite (fun _ => keeps_refreshShape (Piece.sub hF (by decide +kernel)) (keeps_enter (Piece.sub hF (by decide +kernel)) h8)) (fun _
        => keeps_freeSess (Piece.sub hF (by decide +kernel)) h8)

theorem keeps_dropKv {F : List Piece} {a s : State} {k : ℕ} (hF : [.attn] ⊆ F) (hs : Keeps F a s) :
    Keeps F a (State.dropKv s k) := by
  delta State.dropKv
  exact Keeps.other hs (hattn := .inr (hF (by decide +kernel)))

theorem keeps_endKv {F : List Piece} {a s : State} {r : KvRun} {st : Status} {cause : ℕ} (hF : [.hti, .ses, .tier, .gore, .attn, .pool, .ring,
    .TIER_OBJ, .SHP_CTX_CNT, .SEC_CNT, .POOL_OBJ, .POOL_CNT, .HTI_W_QFAULT, .HTI_CNT, .GORE_TILE_CNT, .GORE_CTX, .GORE_CTX_CNT, .CTL_READY] ⊆ F)
        (hs : Keeps F a s) :
    Keeps F a (State.endKv s r st cause) := by
  delta State.endKv
  extract_lets +onlyGivenNames -merge -lift -underBinder s1
  have h2 : Keeps F a s1 := by
    unfold s1
    exact keeps_bump hs ⟨rfl, hF (by decide +kernel)⟩
  clear_value s1
  extract_lets +onlyGivenNames -merge -lift -underBinder s3
  have h4 : Keeps F a s3 := by
    unfold s3
    exact keeps_killItems (Piece.sub hF (by decide +kernel)) h2
  clear_value s3
  extract_lets +onlyGivenNames -merge -lift -underBinder s5
  have h6 : Keeps F a s5 := by
    unfold s5
    exact keeps_ite (fun _ => keeps_undoRows (Piece.sub hF (by decide +kernel)) h4) (fun _ => h4)
  clear_value s5
  extract_lets +onlyGivenNames -merge -lift -underBinder s7
  have h8 : Keeps F a s7 := by
    unfold s7
    exact keeps_finish (Piece.sub hF (by decide +kernel)) (keeps_dropKv (Piece.sub hF (by decide +kernel)) h6)
  clear_value s7
  exact keeps_startNext (Piece.sub hF (by decide +kernel)) h8

theorem keeps_enterAloft {F : List Piece} {a s : State} {h : ℕ} (hF : [.ses, .fleet, .CTL_SES] ⊆ F) (hs : Keeps F a s) :
    Keeps F a (State.enterAloft s h) := by
  delta State.enterAloft
  extract_lets +onlyGivenNames -merge -lift -underBinder v1
  clear_value v1
  exact keeps_enter (Piece.sub hF (by decide +kernel)) hs

theorem keeps_startRebuild {F : List Piece} {a s : State} {h x0 b cause : ℕ} (hF : [.ses, .fleet, .CTL_SES, .CTL_SES_CNT] ⊆ F) (hs : Keeps F a s) :
    Keeps F a (State.startRebuild s h x0 b cause) := by
  delta State.startRebuild
  split
  · exact hs
  · extract_lets +onlyGivenNames -merge -lift -underBinder v1 v2 v3 v4
    clear_value v1 v2 v3 v4
    refine keeps_ite (fun _ => keeps_setSess (Piece.sub hF (by decide +kernel)) hs) (fun _ => ?_)
    refine keeps_ite (fun _ => keeps_enterAloft (Piece.sub hF (by decide +kernel)) (keeps_setSess (Piece.sub hF (by decide +kernel)) hs)) (fun _
        => ?_)
    extract_lets +onlyGivenNames -merge -lift -underBinder s5
    have h6 : Keeps F a s5 := by
      unfold s5
      exact keeps_ite (fun _ => hs) (fun _ => keeps_bump hs ⟨rfl, hF (by decide +kernel)⟩)
    clear_value s5
    extract_lets +onlyGivenNames -merge -lift -underBinder s7
    have h8 : Keeps F a s7 := by
      unfold s7
      exact keeps_setSess (Piece.sub hF (by decide +kernel)) h6
    clear_value s7
    exact keeps_ite (fun _ => h8) (fun _ => keeps_enter (Piece.sub hF (by decide +kernel)) h8)

theorem keeps_tornFound {F : List Piece} {a s : State} {h col layer head kind half point : ℕ} (hF : [.mbx, .ses, .fleet, .MBX_SUM, .MBX_CNT,
    .HTI_W_MBSTS, .HTI_W_FLT, .HTI_CNT, .GORE_TILE, .GORE_TILE_CNT, .CTL_SES, .CTL_SES_CNT] ⊆ F) (hs : Keeps F a s) :
    Keeps F a (State.tornFound s h col layer head kind half point) := by
  delta State.tornFound
  split
  · exact hs
  · extract_lets +onlyGivenNames -merge -lift -underBinder v1 v2
    clear_value v1 v2
    extract_lets +onlyGivenNames -merge -lift -underBinder s3
    have h4 : Keeps F a s3 := by
      unfold s3
      exact keeps_setSess (Piece.sub hF (by decide +kernel)) hs
    clear_value s3
    extract_lets +onlyGivenNames -merge -lift -underBinder s5
    have h6 : Keeps F a s5 := by
      unfold s5
      exact keeps_wr h4 ⟨rfl, hF (by decide +kernel)⟩
    clear_value s5
    extract_lets +onlyGivenNames -merge -lift -underBinder s7
    have h8 : Keeps F a s7 := by
      unfold s7
      exact keeps_wr h6 ⟨rfl, hF (by decide +kernel)⟩
    clear_value s7
    extract_lets +onlyGivenNames -merge -lift -underBinder s9
    have h10 : Keeps F a s9 := by
      unfold s9
      exact keeps_wr h8 ⟨rfl, hF (by decide +kernel)⟩
    clear_value s9
    extract_lets +onlyGivenNames -merge -lift -underBinder s11
    have h12 : Keeps F a s11 := by
      unfold s11
      exact keeps_wr h10 ⟨rfl, hF (by decide +kernel)⟩
    clear_value s11
    extract_lets +onlyGivenNames -merge -lift -underBinder s13
    have h14 : Keeps F a s13 := by
      unfold s13
      exact keeps_wr h12 ⟨rfl, hF (by decide +kernel)⟩
    clear_value s13
    extract_lets +onlyGivenNames -merge -lift -underBinder s15
    have h16 : Keeps F a s15 := by
      unfold s15
      exact keeps_wr h14 ⟨rfl, hF (by decide +kernel)⟩
    clear_value s15
    extract_lets +onlyGivenNames -merge -lift -underBinder s17
    have h18 : Keeps F a s17 := by
      unfold s17
      exact keeps_wr h16 ⟨rfl, hF (by decide +kernel)⟩
    clear_value s17
    extract_lets +onlyGivenNames -merge -lift -underBinder s19
    have h20 : Keeps F a s19 := by
      unfold s19
      exact keeps_wr h18 ⟨rfl, hF (by decide +kernel)⟩
    clear_value s19
    extract_lets +onlyGivenNames -merge -lift -underBinder s21
    have h22 : Keeps F a s21 := by
      unfold s21
      exact keeps_bump h20 ⟨rfl, hF (by decide +kernel)⟩
    clear_value s21
    extract_lets +onlyGivenNames -merge -lift -underBinder s23
    have h24 : Keeps F a s23 := by
      unfold s23
      exact keeps_bump h22 ⟨rfl, hF (by decide +kernel)⟩
    clear_value s23
    extract_lets +onlyGivenNames -merge -lift -underBinder s25
    have h26 : Keeps F a s25 := by
      unfold s25
      exact keeps_fault (Piece.sub hF (by decide +kernel)) h24
    clear_value s25
    exact keeps_startRebuild (Piece.sub hF (by decide +kernel)) h26

theorem keeps_stampOpen {F : List Piece} {a s : State} {h : ℕ} (hF : [.ses, .tier] ⊆ F) (hs : Keeps F a s) :
    Keeps F a (State.stampOpen s h) := by
  delta State.stampOpen
  split
  · exact hs
  · extract_lets +onlyGivenNames -merge -lift -underBinder v1
    clear_value v1
    extract_lets +onlyGivenNames -merge -lift -underBinder s2
    have h3 : Keeps F a s2 := by
      unfold s2
      exact keeps_setSess (Piece.sub hF (by decide +kernel)) hs
    clear_value s2
    exact keeps_writePages (Piece.sub hF (by decide +kernel)) h3

theorem keeps_park {F : List Piece} {a s : State} {h : ℕ} (hF : [.ses, .tier, .fleet, .pool, .TIER_OBJ, .TIER_DRV, .TIER_CNT, .POOL_OBJ,
    .POOL_CNT, .CTL_SES, .CTL_SES_CNT, .CTL_READY] ⊆ F) (hs : Keeps F a s) :
    Keeps F a (State.park s h) := by
  delta State.park
  split
  · exact hs
  · extract_lets +onlyGivenNames -merge -lift -underBinder s1
    have h2 : Keeps F a s1 := by
      unfold s1
      exact keeps_stampOpen (Piece.sub hF (by decide +kernel)) hs
    clear_value s1
    extract_lets +onlyGivenNames -merge -lift -underBinder s3
    have h4 : Keeps F a s3 := by
      unfold s3
      exact keeps_bump (keeps_enter (Piece.sub hF (by decide +kernel)) h2) ⟨rfl, hF (by decide +kernel)⟩
    clear_value s3
    extract_lets +onlyGivenNames -merge -lift -underBinder s5
    have h6 : Keeps F a s5 := by
      unfold s5
      exact keeps_updSess (Piece.sub hF (by decide +kernel)) h4
    clear_value s5
    exact keeps_ite (fun _ => keeps_demoteAll (Piece.sub hF (by decide +kernel)) h6) (fun _ => h6)

theorem keeps_pause {F : List Piece} {a s : State} {h : ℕ} (hF : [.ses, .tier, .fleet, .pool, .TIER_OBJ, .TIER_DRV, .TIER_CNT, .POOL_OBJ,
    .POOL_CNT, .CTL_SES, .CTL_SES_CNT, .CTL_READY] ⊆ F) (hs : Keeps F a s) :
    Keeps F a (State.pause s h) := by
  delta State.pause
  split
  · exact keeps_ite (fun _ => keeps_deflate (Piece.sub hF (by decide +kernel)) hs) (fun _ => keeps_park (Piece.sub hF (by decide +kernel)) hs)
  · exact hs

theorem keeps_putSess {F : List Piece} {a s : State} {slot : ℕ} {x0 : Session} (hF : [.ses] ⊆ F) (hs : Keeps F a s) :
    Keeps F a (State.putSess s slot x0) := by
  delta State.putSess
  exact Keeps.other hs (hses := .inr (hF (by decide +kernel)))

theorem keeps_sinkSmall {F : List Piece} {a s : State} {h : ℕ} (hF : [.ses, .tier, .pool, .TIER_OBJ, .TIER_DRV, .TIER_CNT, .POOL_OBJ, .POOL_CNT,
    .CTL_READY] ⊆ F) (hs : Keeps F a s) :
    Keeps F a (State.sinkSmall s h) := by
  delta State.sinkSmall
  split
  · exact hs
  · exact keeps_ite (fun _ => hs) (fun _ => keeps_foldl (fun s1 x2 h3 => keeps_ite (fun _ => keeps_demotePage (Piece.sub hF (by decide +kernel))
        h3) (fun _ => h3)) hs)

theorem keeps_endWait {F : List Piece} {a s : State} {x0 : AckWait} (hF : [.hti, .ses, .tier, .gore, .attn, .ring, .SHP_CTX_CNT, .SEC_CNT,
    .HTI_W_QFAULT, .HTI_CNT, .GORE_TILE_CNT, .GORE_ATTN_CNT] ⊆ F) (hs : Keeps F a s) :
    Keeps F a (State.endWait s x0) := by
  delta State.endWait
  split
  · exact keeps_ite (fun _ => hs) (fun _ => keeps_finish (Piece.sub hF (by decide +kernel)) hs)
  · exact keeps_finish (Piece.sub hF (by decide +kernel)) hs
  · exact keeps_settleEntry (Piece.sub hF (by decide +kernel)) (keeps_updEntry (Piece.sub hF (by decide +kernel)) hs)

theorem keeps_dropFrom {F : List Piece} {a s : State} {h col : ℕ} (hF : [.ses, .tier, .pool, .TIER_OBJ, .POOL_OBJ, .POOL_CNT, .CTL_READY] ⊆ F)
    (hs : Keeps F a s) :
    Keeps F a (State.dropFrom s h col) := by
  delta State.dropFrom
  split
  · exact hs
  · extract_lets +onlyGivenNames -merge -lift -underBinder v1
    clear_value v1
    exact keeps_sweepStream (Piece.sub hF (by decide +kernel)) (keeps_setSess (Piece.sub hF (by decide +kernel)) hs)

theorem keeps_dropLost {F : List Piece} {a s : State} {h : ℕ} {t : Option Xfer} (hF : [.ses, .tier, .pool, .TIER_OBJ, .POOL_OBJ, .POOL_CNT,
    .CTL_READY] ⊆ F) (hs : Keeps F a s) :
    Keeps F a (State.dropLost s h t) := by
  delta State.dropLost
  split
  · exact keeps_dropFrom (Piece.sub hF (by decide +kernel)) hs
  · exact hs

theorem keeps_shipReturn {F : List Piece} {a s : State} {h : ℕ} (hF : [.ses, .tier, .fleet, .pool, .TIER_OBJ, .POOL_OBJ, .POOL_CNT, .CTL_SES,
    .CTL_SES_CNT, .CTL_READY] ⊆ F) (hs : Keeps F a s) :
    Keeps F a (State.shipReturn s h) := by
  delta State.shipReturn
  split
  · exact hs
  · extract_lets +onlyGivenNames -merge -lift -underBinder s1
    have h2 : Keeps F a s1 := by
      unfold s1
      exact keeps_dropLost (Piece.sub hF (by decide +kernel)) (keeps_enter (Piece.sub hF (by decide +kernel)) (keeps_setSess (Piece.sub hF
          (by decide +kernel)) hs))
    clear_value s1
    exact keeps_ite (fun _ => keeps_startRebuild (Piece.sub hF (by decide +kernel)) (keeps_updSess (Piece.sub hF (by decide +kernel)) h2)) (fun _
        => h2)

theorem keeps_setTable {F : List Piece} {a s : State} {n : ℕ} {t : Option TableSlot} (hF : [.dec] ⊆ F) (hs : Keeps F a s) :
    Keeps F a (State.setTable s n t) := by
  delta State.setTable
  exact Keeps.other hs (hdec := .inr (hF (by decide +kernel)))

theorem keeps_sweepImages {F : List Piece} {a s : State} (hF : [.tier, .dec, .TIER_RSV] ⊆ F) (hs : Keeps F a s) :
    Keeps F a (State.sweepImages s) := by
  delta State.sweepImages
  refine keeps_foldl (fun s1 x2 h3 => ?_) hs
  extract_lets +onlyGivenNames -merge -lift -underBinder v4
  clear_value v4
  refine keeps_ite (fun _ => h3) (fun _ => ?_)
  extract_lets +onlyGivenNames -merge -lift -underBinder v5
  clear_value v5
  extract_lets +onlyGivenNames -merge -lift -underBinder s6
  have h7 : Keeps F a s6 := by
    unfold s6
    exact keeps_setTable (Piece.sub hF (by decide +kernel)) h3
  clear_value s6
  exact keeps_foldl (fun s8 x9 h10 => keeps_rsvSwap (Piece.sub hF (by decide +kernel)) h10) h7

theorem keeps_ackUpTo {F : List Piece} {a s : State} {h upto : ℕ} (hF : [.hti, .ses, .tier, .gore, .attn, .dec, .ring, .TIER_RSV, .SHP_CTX_CNT,
    .SEC_CNT, .HTI_W_QFAULT, .HTI_CNT, .GORE_TILE_CNT, .GORE_ATTN_CNT] ⊆ F) (hs : Keeps F a s) :
    Keeps F a (State.ackUpTo s h upto) := by
  delta State.ackUpTo
  extract_lets +onlyGivenNames -merge -lift -underBinder v1 v2
  clear_value v1 v2
  extract_lets +onlyGivenNames -merge -lift -underBinder s3
  have h4 : Keeps F a s3 := by
    unfold s3
    exact Keeps.other hs (hses := .inr (hF (by decide +kernel)))
  clear_value s3
  exact keeps_sweepImages (Piece.sub hF (by decide +kernel)) (keeps_foldl (fun s5 x6 h7 => keeps_endWait (Piece.sub hF (by decide +kernel)) h7) h4)

theorem keeps_discardIncoming {F : List Piece} {a s : State} {h : ℕ} (hF : [.ses, .tier, .fleet, .pool, .TIER_OBJ, .POOL_OBJ, .POOL_CNT,
    .GORE_SHAPE, .CTL_SES, .CTL_READY] ⊆ F) (hs : Keeps F a s) :
    Keeps F a (State.discardIncoming s h) := by
  delta State.discardIncoming
  split
  · exact hs
  · exact keeps_dropCopy (Piece.sub hF (by decide +kernel)) hs

theorem keeps_checkTile {F : List Piece} {a s : State} {h key : ℕ} (hF : [.ses, .GORE_TILE_CNT] ⊆ F) (hs : Keeps F a s) :
    KeepsP F a (State.checkTile s h key) := by
  delta State.checkTile
  split
  · exact KeepsP.mk hs
  · extract_lets +onlyGivenNames -merge -lift -underBinder v1
    clear_value v1
    split
    · exact KeepsP.mk hs
    · split
      · exact KeepsP.mk hs
      · exact keepsP_ite (fun _ => KeepsP.mk (keeps_bump hs ⟨rfl, hF (by decide +kernel)⟩)) (fun _ => KeepsP.mk (keeps_setSess (Piece.sub hF
            (by decide +kernel)) hs))

theorem keeps_checkTiles {F : List Piece} {a s : State} {h : ℕ} {x0 : List ℕ} (hF : [.ses, .GORE_TILE_CNT] ⊆ F) (hs : Keeps F a s) :
    KeepsP F a (State.checkTiles s h x0) := by
  induction x0 generalizing s h with
  | nil =>
    rw [State.checkTiles.eq_1]
    exact KeepsP.mk hs
  | cons _ _ ih =>
    rw [State.checkTiles.eq_2]
    split
    · rename_i x1 x3 e4
      have h2 := KeepsP.fst e4 (F := F) (a := a) (by
          exact keeps_checkTile (Piece.sub hF (by decide +kernel)) hs
        )
      exact KeepsP.mk h2
    · rename_i x5 e7
      have h6 := KeepsP.fst e7 (F := F) (a := a) (by
          exact keeps_checkTile (Piece.sub hF (by decide +kernel)) hs
        )
      exact ih h6

theorem keeps_shipDone {F : List Piece} {a s : State} {x0 : Session} {t : Xfer} {st : Status} {cause epoch owner r0 r1 r2 : ℕ} (hF : [.hti, .mbx,
    .ring, .SHP_CTX_CNT, .SEC_CNT, .MBX_SUM, .MBX_CNT, .HTI_W_QFAULT, .HTI_W_MBSTS, .HTI_W_EVT, .HTI_CNT] ⊆ F) (hs : Keeps F a s) :
    Keeps F a (State.shipDone s x0 t st cause epoch owner r0 r1 r2) := by
  delta State.shipDone
  exact keeps_ite (fun _ => hs) (fun _ => keeps_ite (fun _ => keeps_event (Piece.sub hF (by decide +kernel)) hs) (fun _ => keeps_finish
      (Piece.sub hF (by decide +kernel)) hs))

theorem keeps_endUsers {F : List Piece} {a s : State} {h : ℕ} {st : Status} {cause : ℕ} (hF : [.hti, .ses, .tier, .gore, .attn, .pool, .ring,
    .TIER_OBJ, .SHP_CTX_CNT, .SEC_CNT, .POOL_OBJ, .POOL_CNT, .HTI_W_QFAULT, .HTI_CNT, .GORE_TILE_CNT, .GORE_CTX, .GORE_CTX_CNT, .CTL_READY] ⊆ F)
        (hs : Keeps F a s) :
    Keeps F a (State.endUsers s h st cause) := by
  delta State.endUsers
  extract_lets +onlyGivenNames -merge -lift -underBinder s1
  have h2 : Keeps F a s1 := by
    unfold s1
    exact keeps_leaveAll (Piece.sub hF (by decide +kernel)) hs
  clear_value s1
  extract_lets +onlyGivenNames -merge -lift -underBinder s3
  have h4 : Keeps F a s3 := by
    unfold s3
    split
    · exact keeps_endKv (Piece.sub hF (by decide +kernel)) h2
    · exact h2
  clear_value s3
  split
  · exact keeps_finish (Piece.sub hF (by decide +kernel)) h4
  · exact h4

theorem keeps_notEvacuating {F : List Piece} {a : State} {body : Cmd → State → State} {c : Cmd} {s : State} (hF : [.hti, .ring, .SHP_CTX_CNT,
    .SEC_CNT, .HTI_W_QFAULT, .HTI_CNT] ⊆ F) (hbody : ∀ y0 y1, Keeps F a y1 → Keeps F a (body y0 y1)) (hs : Keeps F a s) :
    Keeps F a (notEvacuating body c s) := by
  delta notEvacuating
  exact keeps_ite (fun _ => keeps_finish (Piece.sub hF (by decide +kernel)) hs) (fun _ => hbody _ _ hs)

theorem keeps_sendSpool {F : List Piece} {a s : State} {x0 : Session} {first : ℕ} {es : List SpoolEntry} (hF : [.ring, .RING_CNT] ⊆ F) (hs :
    Keeps F a s) :
    Keeps F a (State.sendSpool s x0 first es) := by
  delta State.sendSpool
  split
  · exact keeps_send (Piece.sub hF (by decide +kernel)) hs
  · exact hs

theorem keeps_spoolAppend {F : List Piece} {a s : State} {h : ℕ} {es : List SpoolEntry} (hF : [.ses, .tier, .pool, .ring, .TIER_OBJ, .TIER_DRV,
    .TIER_CNT, .RING_CNT, .POOL_OBJ, .POOL_CNT, .CTL_READY] ⊆ F) (hs : Keeps F a s) :
    Keeps F a (State.spoolAppend s h es) := by
  delta State.spoolAppend
  split
  · exact hs
  · extract_lets +onlyGivenNames -merge -lift -underBinder v1 v2 v3
    clear_value v1 v2 v3
    exact keeps_sendSpool (Piece.sub hF (by decide +kernel)) (keeps_sinkSmall (Piece.sub hF (by decide +kernel)) (keeps_writeSpool (Piece.sub hF
        (by decide +kernel)) (keeps_setSess (Piece.sub hF (by decide +kernel)) hs)))

theorem keeps_failSess {F : List Piece} {a s : State} {h : ℕ} (hF : [.mbx, .ses, .tier, .fleet, .pool, .TIER_OBJ, .POOL_OBJ, .POOL_CNT, .MBX_SUM,
    .MBX_CNT, .HTI_W_MBSTS, .HTI_W_EVT, .HTI_CNT, .CTL_SES, .CTL_SES_CNT, .CTL_READY] ⊆ F) (hs : Keeps F a s) :
    Keeps F a (State.failSess s h) := by
  delta State.failSess
  split
  · exact hs
  · extract_lets +onlyGivenNames -merge -lift -underBinder s1
    have h2 : Keeps F a s1 := by
      unfold s1
      exact keeps_emptyAll (Piece.sub hF (by decide +kernel)) hs
    clear_value s1
    extract_lets +onlyGivenNames -merge -lift -underBinder s3
    have h4 : Keeps F a s3 := by
      unfold s3
      exact keeps_updSess (Piece.sub hF (by decide +kernel)) h2
    clear_value s3
    extract_lets +onlyGivenNames -merge -lift -underBinder s5
    have h6 : Keeps F a s5 := by
      unfold s5
      exact keeps_bump (keeps_enter (Piece.sub hF (by decide +kernel)) h4) ⟨rfl, hF (by decide +kernel)⟩
    clear_value s5
    exact keeps_event (Piece.sub hF (by decide +kernel)) h6

theorem keeps_finishSpool {F : List Piece} {a s : State} {h k r0 r1 r2 : ℕ} (hF : [.hti, .ses, .ring, .SHP_CTX_CNT, .SEC_CNT, .HTI_W_QFAULT,
    .HTI_CNT] ⊆ F) (hs : Keeps F a s) :
    Keeps F a (State.finishSpool s h k r0 r1 r2) := by
  delta State.finishSpool
  split
  · exact keeps_ite (fun _ => Keeps.other hs (hses := .inr (hF (by decide +kernel)))) (fun _ => keeps_finish (Piece.sub hF (by decide +kernel)) hs)
  · exact keeps_finish (Piece.sub hF (by decide +kernel)) hs

theorem keeps_lostPages {F : List Piece} {a s : State} {h : ℕ} {keys : List ℕ} {st : Status} {cause : ℕ} (hF : [.hti, .mbx, .ses, .tier, .gore,
    .attn, .fleet, .pool, .ring, .TIER_OBJ, .SHP_CTX_CNT, .SEC_CNT, .RING_CNT, .POOL_OBJ, .POOL_CNT, .MBX_SUM, .MBX_CNT, .HTI_W_QFAULT,
        .HTI_W_MBSTS, .HTI_W_EVT, .HTI_CNT, .GORE_TILE_CNT, .GORE_SHAPE, .GORE_CTX, .GORE_CTX_CNT, .CTL_SES, .CTL_SES_CNT, .CTL_READY] ⊆ F) (hs :
            Keeps F a s) :
    Keeps F a (State.lostPages s h keys st cause) := by
  delta State.lostPages
  split
  · exact hs
  · extract_lets +onlyGivenNames -merge -lift -underBinder v1 v2 v3 v4
    clear_value v1 v2 v3 v4
    extract_lets +onlyGivenNames -merge -lift -underBinder s5
    have h6 : Keeps F a s5 := by
      unfold s5
      split
      · exact hs
      · extract_lets +onlyGivenNames -merge -lift -underBinder v7
        clear_value v7
        refine keeps_ite (fun _ => ?_) (fun _ => ?_)
        · split
          · exact keeps_ite (fun _ => keeps_discardIncoming (Piece.sub hF (by decide +kernel)) (keeps_send (Piece.sub hF (by decide +kernel))
                hs)) (fun _ => keeps_startRebuild (Piece.sub hF (by decide +kernel)) hs)
          · exact hs
        · refine keeps_ite (fun _ => keeps_startRebuild (Piece.sub hF (by decide +kernel)) hs) (fun _ => ?_)
          extract_lets +onlyGivenNames -merge -lift -underBinder v8
          clear_value v8
          extract_lets +onlyGivenNames -merge -lift -underBinder s9
          have h10 : Keeps F a s9 := by
            unfold s9
            exact keeps_dropFrom (Piece.sub hF (by decide +kernel)) (keeps_undoRows (Piece.sub hF (by decide +kernel)) hs)
          clear_value s9
          extract_lets +onlyGivenNames -merge -lift -underBinder s11
          have h12 : Keeps F a s11 := by
            unfold s11
            exact keeps_startRebuild (Piece.sub hF (by decide +kernel)) h10
          clear_value s11
          extract_lets +onlyGivenNames -merge -lift -underBinder s13
          have h14 : Keeps F a s13 := by
            unfold s13
            exact keeps_endUsers (Piece.sub hF (by decide +kernel)) h12
          clear_value s13
          refine keeps_ite (fun _ => h14) (fun _ => ?_)
          split
          · exact keeps_event (Piece.sub hF (by decide +kernel)) h14
          · exact h14
    clear_value s5
    refine keeps_ite (fun _ => ?_) (fun _ => h6)
    split
    · exact h6
    · split
      · exact keeps_send (Piece.sub hF (by decide +kernel)) (keeps_setSess (Piece.sub hF (by decide +kernel)) h6)
      · exact keeps_endUsers (Piece.sub hF (by decide +kernel)) (keeps_failSess (Piece.sub hF (by decide +kernel)) h6)

/-! ### Images -/

theorem keeps_showUsers {F : List Piece} {a s : State} (hF : [.TXT_SLOT] ⊆ F) (hs : Keeps F a s) :
    Keeps F a (State.showUsers s) := by
  delta State.showUsers
  exact keeps_foldl (fun s1 x2 h3 => keeps_wr h3 ⟨rfl, hF (by decide +kernel)⟩) hs

theorem keeps_fenceLane {F : List Piece} {a s : State} {f : Fld} {width engine lane ctx handle : ℕ} (hF : [.mbx, .MBX_SUM, .MBX_CNT,
    .HTI_W_MBSTS, .HTI_W_FLT, .HTI_CNT, .CTL_READY] ⊆ F) (hs : Keeps F a s) (hf : f.free F) :
    Keeps F a (State.fenceLane s f width engine lane ctx handle) := by
  delta State.fenceLane
  extract_lets +onlyGivenNames -merge -lift -underBinder s1
  have h2 : Keeps F a s1 := by
    unfold s1
    exact keeps_ite (fun _ => keeps_fault (Piece.sub hF (by decide +kernel)) hs) (fun _ => hs)
  clear_value s1
  extract_lets +onlyGivenNames -merge -lift -underBinder s3
  have h4 : Keeps F a s3 := by
    unfold s3
    exact keeps_wr h2 hf
  clear_value s3
  exact keeps_ite (fun _ => keeps_wr h4 (by split <;> exact ⟨rfl, hF (by decide +kernel)⟩)) (fun _ => h4)

theorem keeps_showTable {F : List Piece} {a s : State} {n : ℕ} (hF : [.TXT_SLOT] ⊆ F) (hs : Keeps F a s) :
    Keeps F a (State.showTable s n) := by
  delta State.showTable
  extract_lets +onlyGivenNames -merge -lift -underBinder v1
  clear_value v1
  extract_lets +onlyGivenNames -merge -lift -underBinder s2
  have h3 : Keeps F a s2 := by
    unfold s2
    exact keeps_wr (keeps_wr hs ⟨rfl, hF (by decide +kernel)⟩) ⟨rfl, hF (by decide +kernel)⟩
  clear_value s2
  extract_lets +onlyGivenNames -merge -lift -underBinder s4
  have h5 : Keeps F a s4 := by
    unfold s4
    exact keeps_wr (keeps_wr h3 ⟨rfl, hF (by decide +kernel)⟩) ⟨rfl, hF (by decide +kernel)⟩
  clear_value s4
  extract_lets +onlyGivenNames -merge -lift -underBinder s6
  have h7 : Keeps F a s6 := by
    unfold s6
    exact keeps_wr (keeps_wr h5 ⟨rfl, hF (by decide +kernel)⟩) ⟨rfl, hF (by decide +kernel)⟩
  clear_value s6
  exact keeps_wr (keeps_wr h7 ⟨rfl, hF (by decide +kernel)⟩) ⟨rfl, hF (by decide +kernel)⟩

/-! ### PoolOps -/

theorem keeps_showRegion {F : List Piece} {a s : State} {n : ℕ} (hF : [.POOL_REGION, .POOL_LEND] ⊆ F) (hs : Keeps F a s) :
    Keeps F a (State.showRegion s n) := by
  delta State.showRegion
  extract_lets +onlyGivenNames -merge -lift -underBinder v1 v2
  clear_value v1 v2
  extract_lets +onlyGivenNames -merge -lift -underBinder s3
  have h4 : Keeps F a s3 := by
    unfold s3
    exact keeps_wr (keeps_wr hs ⟨rfl, hF (by decide +kernel)⟩) ⟨rfl, hF (by decide +kernel)⟩
  clear_value s3
  extract_lets +onlyGivenNames -merge -lift -underBinder s5
  have h6 : Keeps F a s5 := by
    unfold s5
    exact keeps_wr (keeps_wr h4 ⟨rfl, hF (by decide +kernel)⟩) ⟨rfl, hF (by decide +kernel)⟩
  clear_value s5
  extract_lets +onlyGivenNames -merge -lift -underBinder s7
  have h8 : Keeps F a s7 := by
    unfold s7
    exact keeps_wr (keeps_wr h6 ⟨rfl, hF (by decide +kernel)⟩) ⟨rfl, hF (by decide +kernel)⟩
  clear_value s7
  exact keeps_wr h8 ⟨rfl, hF (by decide +kernel)⟩

theorem keeps_putRegion {F : List Piece} {a s : State} {r : PRegion} (hF : [.pool, .POOL_REGION, .POOL_LEND] ⊆ F) (hs : Keeps F a s) :
    Keeps F a (State.putRegion s r) := by
  delta State.putRegion
  exact keeps_showRegion (Piece.sub hF (by decide +kernel)) (keeps_setPool (Piece.sub hF (by decide +kernel)) hs)

theorem keeps_dropStaging {F : List Piece} {a s : State} {r : PRegion} {src token : ℕ} (hF : [.pool, .POOL_REGION, .POOL_LEND] ⊆ F) (hs : Keeps F
    a s) :
    Keeps F a (State.dropStaging s r src token) := by
  delta State.dropStaging
  exact keeps_putRegion (Piece.sub hF (by decide +kernel)) hs

theorem keeps_endLend {F : List Piece} {a s : State} {r : LendRun} {st : Status} {cause revoked : ℕ} (hF : [.hti, .pool, .ring, .SHP_CTX_CNT,
    .SEC_CNT, .HTI_W_QFAULT, .HTI_CNT] ⊆ F) (hs : Keeps F a s) :
    Keeps F a (State.endLend s r st cause revoked) := by
  delta State.endLend
  extract_lets +onlyGivenNames -merge -lift -underBinder v1
  clear_value v1
  extract_lets +onlyGivenNames -merge -lift -underBinder s2
  have h3 : Keeps F a s2 := by
    unfold s2
    exact keeps_setPool (Piece.sub hF (by decide +kernel)) hs
  clear_value s2
  exact keeps_finish (Piece.sub hF (by decide +kernel)) h3

theorem keeps_putLend {F : List Piece} {a s : State} {t1 t2 region : ℕ} (hF : [.POOL_LEND] ⊆ F) (hs : Keeps F a s) :
    Keeps F a (State.putLend s t1 t2 region) := by
  delta State.putLend
  exact keeps_wr (keeps_wr (keeps_wr hs ⟨rfl, hF (by decide +kernel)⟩) ⟨rfl, hF (by decide +kernel)⟩) ⟨rfl, hF (by decide +kernel)⟩

theorem keeps_checkLend {F : List Piece} {a s : State} (hF : [.hti, .pool, .ring, .SHP_CTX_CNT, .SEC_CNT, .POOL_LEND, .HTI_W_QFAULT, .HTI_CNT] ⊆
    F) (hs : Keeps F a s) :
    Keeps F a (State.checkLend s) := by
  delta State.checkLend
  split
  · exact hs
  · extract_lets +onlyGivenNames -merge -lift -underBinder v1
    clear_value v1
    extract_lets +onlyGivenNames -merge -lift -underBinder s2
    have h3 : Keeps F a s2 := by
      unfold s2
      exact keeps_ite (fun _ => keeps_setPool (Piece.sub hF (by decide +kernel)) (keeps_putLend (Piece.sub hF (by decide +kernel)) hs)) (fun _ => hs)
    clear_value s2
    split
    · exact keeps_ite (fun _ => keeps_endLend (Piece.sub hF (by decide +kernel)) h3) (fun _ => h3)
    · exact h3

theorem keeps_lendPages {F : List Piece} {a s : State} {l : List (ℕ × ℕ)} {give : Bool} (hF : [.tier] ⊆ F) (hs : Keeps F a s) :
    Keeps F a (State.lendPages s l give) := by
  delta State.lendPages
  refine keeps_foldl (fun s1 x2 h3 => ?_) hs
  extract_lets +onlyGivenNames -merge -lift -underBinder v4
  clear_value v4
  exact Keeps.other h3 (htier := .inr (hF (by decide +kernel)))

theorem keeps_freeGens {F : List Piece} {a s : State} {r : PRegion} (hF : [.pool, .POOL_REGION, .POOL_LEND, .POOL_CNT] ⊆ F) (hs : Keeps F a s) :
    Keeps F a (State.freeGens s r) := by
  delta State.freeGens
  extract_lets +onlyGivenNames -merge -lift -underBinder v1 v2
  clear_value v1 v2
  exact keeps_putRegion (Piece.sub hF (by decide +kernel)) (keeps_bump hs ⟨rfl, hF (by decide +kernel)⟩)

theorem keeps_dropHold {F : List Piece} {a s : State} {r : PRegion} {fl holder : ℕ} (hF : [.pool, .POOL_REGION, .POOL_LEND, .POOL_CNT] ⊆ F) (hs :
    Keeps F a s) :
    Keeps F a (State.dropHold s r fl holder) := by
  delta State.dropHold
  exact keeps_freeGens (Piece.sub hF (by decide +kernel)) hs

theorem keeps_letGo {F : List Piece} {a s : State} {rid holder : ℕ} (hF : [.pool, .ring, .RING_CNT, .POOL_REGION, .POOL_LEND, .POOL_CNT] ⊆ F) (hs
    : Keeps F a s) :
    Keeps F a (State.letGo s rid holder) := by
  delta State.letGo
  refine keeps_ite (fun _ => ?_) (fun _ => keeps_send (Piece.sub hF (by decide +kernel)) hs)
  split
  · exact keeps_dropHold (Piece.sub hF (by decide +kernel)) hs
  · exact hs

theorem keeps_detachAll {F : List Piece} {a s : State} {p : Attach → Bool} (hF : [.pool, .ring, .RING_CNT, .POOL_REGION, .POOL_LEND, .POOL_CNT] ⊆
    F) (hs : Keeps F a s) :
    Keeps F a (State.detachAll s p) := by
  delta State.detachAll
  extract_lets +onlyGivenNames -merge -lift -underBinder v1 v2
  clear_value v1 v2
  extract_lets +onlyGivenNames -merge -lift -underBinder s3
  have h4 : Keeps F a s3 := by
    unfold s3
    exact keeps_setPool (Piece.sub hF (by decide +kernel)) hs
  clear_value s3
  exact keeps_foldl (fun s5 x6 h7 => keeps_letGo (Piece.sub hF (by decide +kernel)) h7) h4

theorem keeps_endPub {F : List Piece} {a s : State} {p : PubRun} {st : Status} {cause r0 r1 : ℕ} (hF : [.hti, .pool, .ring, .SHP_CTX_CNT,
    .SEC_CNT, .POOL_REGION, .POOL_LEND, .HTI_W_QFAULT, .HTI_CNT] ⊆ F) (hs : Keeps F a s) :
    Keeps F a (State.endPub s p st cause r0 r1) := by
  delta State.endPub
  extract_lets +onlyGivenNames -merge -lift -underBinder v1
  clear_value v1
  extract_lets +onlyGivenNames -merge -lift -underBinder s2
  have h3 : Keeps F a s2 := by
    unfold s2
    exact keeps_setPool (Piece.sub hF (by decide +kernel)) hs
  clear_value s2
  extract_lets +onlyGivenNames -merge -lift -underBinder s4
  have h5 : Keeps F a s4 := by
    unfold s4
    split
    · exact keeps_ite (fun _ => keeps_dropStaging (Piece.sub hF (by decide +kernel)) h3) (fun _ => h3)
    · exact h3
  clear_value s4
  exact keeps_finish (Piece.sub hF (by decide +kernel)) h5

theorem keeps_refreshLend {F : List Piece} {a s : State} (hF : [.POOL_LEND] ⊆ F) (hs : Keeps F a s) :
    Keeps F a (State.refreshLend s) := by
  delta State.refreshLend
  exact keeps_wr (keeps_wr hs ⟨rfl, hF (by decide +kernel)⟩) ⟨rfl, hF (by decide +kernel)⟩

theorem keeps_takeHold {F : List Piece} {a s : State} {r : PRegion} {fl holder : ℕ} (hF : [.pool, .POOL_REGION, .POOL_LEND, .POOL_CNT] ⊆ F) (hs :
    Keeps F a s) :
    Keeps F a (State.takeHold s r fl holder) := by
  delta State.takeHold
  extract_lets +onlyGivenNames -merge -lift -underBinder v1
  clear_value v1
  exact keeps_freeGens (Piece.sub hF (by decide +kernel)) hs

theorem keeps_zeroExtent {F : List Piece} {a s : State} {e : Extent} (hF : [.pool] ⊆ F) (hs : Keeps F a s) :
    Keeps F a (State.zeroExtent s e) := by
  delta State.zeroExtent
  extract_lets +onlyGivenNames -merge -lift -underBinder v1
  clear_value v1
  exact keeps_setPool (Piece.sub hF (by decide +kernel)) hs

theorem keeps_addHold {F : List Piece} {a s : State} {r : PRegion} {fl holder gen : ℕ} (hF : [.pool, .POOL_REGION, .POOL_LEND] ⊆ F) (hs : Keeps F
    a s) :
    Keeps F a (State.addHold s r fl holder gen) := by
  delta State.addHold
  extract_lets +onlyGivenNames -merge -lift -underBinder v1
  clear_value v1
  exact keeps_putRegion (Piece.sub hF (by decide +kernel)) hs

theorem keeps_freeExtent {F : List Piece} {a s : State} {e : Extent} (hF : [.hti, .tier, .pool, .ring, .SHP_CTX_CNT, .SEC_CNT, .POOL_LEND,
    .HTI_W_QFAULT, .HTI_CNT] ⊆ F) (hs : Keeps F a s) :
    Keeps F a (State.freeExtent s e) := by
  delta State.freeExtent
  extract_lets +onlyGivenNames -merge -lift -underBinder s1
  have h2 : Keeps F a s1 := by
    unfold s1
    exact keeps_zeroExtent (Piece.sub hF (by decide +kernel)) hs
  clear_value s1
  extract_lets +onlyGivenNames -merge -lift -underBinder v3
  clear_value v3
  extract_lets +onlyGivenNames -merge -lift -underBinder s4
  have h5 : Keeps F a s4 := by
    unfold s4
    exact keeps_setPool (Piece.sub hF (by decide +kernel)) h2
  clear_value s4
  exact keeps_checkLend (Piece.sub hF (by decide +kernel)) (keeps_refreshLend (Piece.sub hF (by decide +kernel)) (keeps_lendPages (Piece.sub hF
      (by decide +kernel)) h5))

theorem keeps_afterWrite {F : List Piece} {a s : State} (hF : [.hti, .tier, .pool, .ring, .TIER_OBJ, .SHP_CTX_CNT, .SEC_CNT, .POOL_OBJ,
    .POOL_LEND, .POOL_CNT, .HTI_W_QFAULT, .HTI_CNT, .CTL_READY] ⊆ F) (hs : Keeps F a s) :
    Keeps F a (State.afterWrite s) := by
  delta State.afterWrite
  exact keeps_checkLend (Piece.sub hF (by decide +kernel)) (keeps_checkLeaving (Piece.sub hF (by decide +kernel)) hs)

/-! ### FleetOps -/

theorem keeps_setFleet {F : List Piece} {a s : State} {f : Fleet} (hF : [.fleet] ⊆ F) (hs : Keeps F a s) :
    Keeps F a (State.setFleet s f) := by
  delta State.setFleet
  exact Keeps.other hs (hfleet := .inr (hF (by decide +kernel)))

theorem keeps_shiftUp {F : List Piece} {a s : State} (hF : [.fleet, .CTL_ADM, .CTL_ADM_CNT] ⊆ F) (hs : Keeps F a s) :
    Keeps F a (State.shiftUp s) := by
  delta State.shiftUp
  extract_lets +onlyGivenNames -merge -lift -underBinder v1 v2 v3 v4 v5 v6 v7 v8
  clear_value v1 v2 v3 v4 v5 v6 v7 v8
  exact keeps_ite (fun _ => hs) (fun _ => keeps_bump (keeps_refreshFloors (Piece.sub hF (by decide +kernel)) (keeps_setFleet (Piece.sub hF
      (by decide +kernel)) hs)) ⟨rfl, hF (by decide +kernel)⟩)

theorem keeps_autoShift {F : List Piece} {a s : State} (hF : [.fleet, .CTL_ADM, .CTL_ADM_CNT] ⊆ F) (hs : Keeps F a s) :
    Keeps F a (State.autoShift s) := by
  delta State.autoShift
  extract_lets +onlyGivenNames -merge -lift -underBinder v1
  clear_value v1
  extract_lets +onlyGivenNames -merge -lift -underBinder s2
  have h3 : Keeps F a s2 := by
    unfold s2
    exact keeps_ite (fun _ => keeps_ite (fun _ => keeps_shiftUp (Piece.sub hF (by decide +kernel)) hs) (fun _ => hs)) (fun _ => keeps_ite (fun _
        => keeps_bump (keeps_refreshFloors (Piece.sub hF (by decide +kernel)) (keeps_setFleet (Piece.sub hF (by decide +kernel)) hs)) ⟨rfl, hF
            (by decide +kernel)⟩) (fun _ => hs))
  clear_value s2
  exact keeps_setFleet (Piece.sub hF (by decide +kernel)) h3

theorem keeps_checkpoint {F : List Piece} {a s : State} {c : ℕ} (hF : [.fleet] ⊆ F) (hs : Keeps F a s) :
    Keeps F a (State.checkpoint s c) := by
  delta State.checkpoint
  exact keeps_setFleet (Piece.sub hF (by decide +kernel)) hs

theorem keeps_askShift {F : List Piece} {a s : State} (hF : [.mbx, .fleet, .MBX_SUM, .MBX_CNT, .HTI_W_MBSTS, .HTI_W_EVT, .HTI_CNT, .CTL_ADM_CNT]
    ⊆ F) (hs : Keeps F a s) :
    Keeps F a (State.askShift s) := by
  delta State.askShift
  extract_lets +onlyGivenNames -merge -lift -underBinder v1
  clear_value v1
  refine keeps_ite (fun _ => hs) (fun _ => ?_)
  extract_lets +onlyGivenNames -merge -lift -underBinder v2
  clear_value v2
  extract_lets +onlyGivenNames -merge -lift -underBinder s3
  have h4 : Keeps F a s3 := by
    unfold s3
    exact keeps_bump (keeps_setFleet (Piece.sub hF (by decide +kernel)) hs) ⟨rfl, hF (by decide +kernel)⟩
  clear_value s3
  exact keeps_mgmtEvent (Piece.sub hF (by decide +kernel)) h4

theorem keeps_refreshArch {F : List Piece} {a s : State} (hF : [.MTR_ARCH] ⊆ F) (hs : Keeps F a s) :
    Keeps F a (State.refreshArch s) := by
  delta State.refreshArch
  exact keeps_wr (keeps_wr hs ⟨rfl, hF (by decide +kernel)⟩) ⟨rfl, hF (by decide +kernel)⟩

theorem keeps_archive {F : List Piece} {a s : State} {r : MRec} (hF : [.mbx, .fleet, .MTR_CNT, .MTR_ARCH, .MBX_SUM, .MBX_CNT, .HTI_W_MBSTS,
    .HTI_W_EVT, .HTI_CNT] ⊆ F) (hs : Keeps F a s) :
    Keeps F a (State.archive s r) := by
  delta State.archive
  extract_lets +onlyGivenNames -merge -lift -underBinder v1
  clear_value v1
  refine keeps_ite (fun _ => keeps_refreshArch (Piece.sub hF (by decide +kernel)) (keeps_setFleet (Piece.sub hF (by decide +kernel)) hs)) (fun _
      => ?_)
  split
  · exact keeps_refreshArch (Piece.sub hF (by decide +kernel)) (keeps_setFleet (Piece.sub hF (by decide +kernel)) hs)
  · extract_lets +onlyGivenNames -merge -lift -underBinder v2
    clear_value v2
    extract_lets +onlyGivenNames -merge -lift -underBinder s3
    have h4 : Keeps F a s3 := by
      unfold s3
      exact keeps_bump (keeps_refreshArch (Piece.sub hF (by decide +kernel)) (keeps_setFleet (Piece.sub hF (by decide +kernel)) hs)) ⟨rfl, hF
          (by decide +kernel)⟩
    clear_value s3
    exact keeps_mgmtEvent (Piece.sub hF (by decide +kernel)) h4

theorem keeps_closeComp {F : List Piece} {a s : State} {c why : ℕ} {p : MComp} {port end_ : ℕ} {gap : Bool} {ms : List ℕ} (hF : [.mbx, .fleet,
    .MTR_SEQ, .MTR_CNT, .MTR_ARCH, .MBX_SUM, .MBX_CNT, .HTI_W_MBSTS, .HTI_W_EVT, .HTI_CNT] ⊆ F) (hs : Keeps F a s) :
    Keeps F a (State.closeComp s c why p port end_ gap ms) := by
  delta State.closeComp
  refine keeps_ite (fun _ => keeps_bump hs ⟨rfl, hF (by decide +kernel)⟩) (fun _ => ?_)
  extract_lets +onlyGivenNames -merge -lift -underBinder v1 v2
  clear_value v1 v2
  extract_lets +onlyGivenNames -merge -lift -underBinder s3
  have h4 : Keeps F a s3 := by
    unfold s3
    exact keeps_archive (Piece.sub hF (by decide +kernel)) (keeps_bump (keeps_wr (keeps_tickFree hs) ⟨rfl, hF (by decide +kernel)⟩) ⟨rfl, hF
        (by decide +kernel)⟩)
  clear_value s3
  exact keeps_ite (fun _ => keeps_bump h4 ⟨rfl, hF (by decide +kernel)⟩) (fun _ => h4)

theorem keeps_openComp {F : List Piece} {a s : State} {c : ℕ} {bound : Bool} (hF : [.fleet, .MTR_LIVE, .MTR_COMP] ⊆ F) (hs : Keeps F a s) :
    Keeps F a (State.openComp s c bound) := by
  delta State.openComp
  extract_lets +onlyGivenNames -merge -lift -underBinder v1 v2
  clear_value v1 v2
  extract_lets +onlyGivenNames -merge -lift -underBinder s3
  have h4 : Keeps F a s3 := by
    unfold s3
    exact keeps_setFleet (Piece.sub hF (by decide +kernel)) hs
  clear_value s3
  extract_lets +onlyGivenNames -merge -lift -underBinder s5
  have h6 : Keeps F a s5 := by
    unfold s5
    exact keeps_foldl (fun s7 x8 h9 => keeps_wr h9 ⟨rfl, hF (by decide +kernel)⟩) h4
  clear_value s5
  extract_lets +onlyGivenNames -merge -lift -underBinder s10
  have h11 : Keeps F a s10 := by
    unfold s10
    exact keeps_wr (keeps_wr h6 ⟨rfl, hF (by decide +kernel)⟩) ⟨rfl, hF (by decide +kernel)⟩
  clear_value s10
  exact keeps_checkpoint (Piece.sub hF (by decide +kernel)) h11

theorem keeps_rebind {F : List Piece} {a s : State} {c port : ℕ} (hF : [.mbx, .fleet, .MTR_SEQ, .MTR_LIVE, .MTR_COMP, .MTR_CNT, .MTR_ARCH,
    .MBX_SUM, .MBX_CNT, .HTI_W_MBSTS, .HTI_W_EVT, .HTI_CNT] ⊆ F) (hs : Keeps F a s) :
    Keeps F a (State.rebind s c port) := by
  delta State.rebind
  extract_lets +onlyGivenNames -merge -lift -underBinder v1
  clear_value v1
  extract_lets +onlyGivenNames -merge -lift -underBinder s2
  have h3 : Keeps F a s2 := by
    unfold s2
    exact keeps_closeComp (Piece.sub hF (by decide +kernel)) hs
  clear_value s2
  exact keeps_openComp (Piece.sub hF (by decide +kernel)) h3

theorem keeps_roleNow {F : List Piece} {a s : State} (hF : [.hti, .fleet, .ring, .SHP_CTX_CNT, .SEC_CNT, .HTI_W_QFAULT, .HTI_CNT, .GORE_ROLE,
    .GORE_CNT, .CTL_ADM] ⊆ F) (hs : Keeps F a s) :
    Keeps F a (State.roleNow s) := by
  delta State.roleNow
  split
  · exact hs
  · split
    · exact keeps_wr (keeps_setFleet (Piece.sub hF (by decide +kernel)) hs) ⟨rfl, hF (by decide +kernel)⟩
    · extract_lets +onlyGivenNames -merge -lift -underBinder v1
      clear_value v1
      extract_lets +onlyGivenNames -merge -lift -underBinder s2
      have h3 : Keeps F a s2 := by
        unfold s2
        exact keeps_wr (keeps_wr hs ⟨rfl, hF (by decide +kernel)⟩) ⟨rfl, hF (by decide +kernel)⟩
      clear_value s2
      extract_lets +onlyGivenNames -merge -lift -underBinder s4
      have h5 : Keeps F a s4 := by
        unfold s4
        split
        · exact keeps_wr (keeps_wr (keeps_wr h3 ⟨rfl, hF (by decide +kernel)⟩) ⟨rfl, hF (by decide +kernel)⟩) ⟨rfl, hF (by decide +kernel)⟩
        · exact h3
      clear_value s4
      extract_lets +onlyGivenNames -merge -lift -underBinder v6
      clear_value v6
      extract_lets +onlyGivenNames -merge -lift -underBinder s7
      have h8 : Keeps F a s7 := by
        unfold s7
        exact keeps_bump (keeps_refreshFloors (Piece.sub hF (by decide +kernel)) (keeps_setFleet (Piece.sub hF (by decide +kernel)) h5)) ⟨rfl, hF
            (by decide +kernel)⟩
      clear_value s7
      exact keeps_finish (Piece.sub hF (by decide +kernel)) h8

theorem keeps_admitInter {F : List Piece} {a s : State} (hF : [.mbx, .fleet, .MBX_SUM, .MBX_CNT, .HTI_W_MBSTS, .HTI_W_EVT, .HTI_CNT,
    .CTL_ADM_CNT] ⊆ F) (hs : Keeps F a s) :
    Keeps F a (State.admitInter s) := by
  delta State.admitInter
  extract_lets +onlyGivenNames -merge -lift -underBinder v1
  clear_value v1
  extract_lets +onlyGivenNames -merge -lift -underBinder s2
  have h3 : Keeps F a s2 := by
    unfold s2
    exact keeps_setFleet (Piece.sub hF (by decide +kernel)) hs
  clear_value s2
  exact keeps_ite (fun _ => keeps_askShift (Piece.sub hF (by decide +kernel)) (keeps_bump h3 ⟨rfl, hF (by decide +kernel)⟩)) (fun _ => h3)

/-! ### LinkOps -/

theorem keeps_setBypass {F : List Piece} {a s : State} {k v : ℕ} (hF : [.fab, .RING_BYP] ⊆ F) (hs : Keeps F a s) :
    Keeps F a (State.setBypass s k v) := by
  delta State.setBypass
  extract_lets +onlyGivenNames -merge -lift -underBinder v1
  clear_value v1
  extract_lets +onlyGivenNames -merge -lift -underBinder s2
  have h3 : Keeps F a s2 := by
    unfold s2
    exact keeps_wr hs ⟨rfl, hF (by decide +kernel)⟩
  clear_value s2
  exact Keeps.other h3 (hfab := .inr (hF (by decide +kernel)))

theorem keeps_startOpen {F : List Piece} {a s : State} {k : ℕ} (hF : [.fab, .RING_BYP] ⊆ F) (hs : Keeps F a s) :
    Keeps F a (State.startOpen s k) := by
  delta State.startOpen
  extract_lets +onlyGivenNames -merge -lift -underBinder s1
  have h2 : Keeps F a s1 := by
    unfold s1
    exact keeps_setBypass (Piece.sub hF (by decide +kernel)) hs
  clear_value s1
  exact keeps_foldl (fun s3 x4 h5 => keeps_ite (fun _ => keeps_sendRaw h5) (fun _ => h5)) h2

theorem keeps_reroute {F : List Piece} {a s : State} (hF : [.ring] ⊆ F) (hs : Keeps F a s) :
    Keeps F a (State.reroute s) := by
  delta State.reroute
  extract_lets +onlyGivenNames -merge -lift -underBinder v1
  clear_value v1
  refine keeps_foldl (fun s2 x3 h4 => ?_) (keeps_setRing (Piece.sub hF (by decide +kernel)) hs)
  split
  · exact keeps_routeFrame (Piece.sub hF (by decide +kernel)) h4
  · exact keeps_setRing (Piece.sub hF (by decide +kernel)) h4

theorem keeps_sendLink {F : List Piece} {a s : State} {dst : ℕ} {k : MsgKind} {epoch x0 b : ℕ} {args : List ℕ} (hs : Keeps F a s) :
    Keeps F a (State.sendLink s dst k epoch x0 b args) := by
  delta State.sendLink
  exact keeps_ite (fun _ => hs) (fun _ => keeps_sendRaw hs)

theorem keeps_sendHello {F : List Piece} {a s : State} {dst : ℕ} (hs : Keeps F a s) :
    Keeps F a (State.sendHello s dst) := by
  delta State.sendHello
  exact keeps_sendLink hs

theorem keeps_linkDown {F : List Piece} {a s : State} {p : ℕ} (hF : [.ring, .RING_PORT, .RING_PORT_CNT, .CTL_READY] ⊆ F) (hs : Keeps F a s) :
    Keeps F a (State.linkDown s p) := by
  delta State.linkDown
  refine keeps_ite (fun _ => hs) (fun _ => ?_)
  extract_lets +onlyGivenNames -merge -lift -underBinder s1
  have h2 : Keeps F a s1 := by
    unfold s1
    exact keeps_bump (keeps_wr (keeps_wr hs ⟨rfl, hF (by decide +kernel)⟩) ⟨rfl, hF (by decide +kernel)⟩) ⟨rfl, hF (by decide +kernel)⟩
  clear_value s1
  extract_lets +onlyGivenNames -merge -lift -underBinder s3
  have h4 : Keeps F a s3 := by
    unfold s3
    exact keeps_wrBit h2 ⟨rfl, hF (by decide +kernel)⟩
  clear_value s3
  extract_lets +onlyGivenNames -merge -lift -underBinder v5 v6
  clear_value v5 v6
  extract_lets +onlyGivenNames -merge -lift -underBinder s7
  have h8 : Keeps F a s7 := by
    unfold s7
    exact keeps_setRing (Piece.sub hF (by decide +kernel)) h4
  clear_value s7
  exact keeps_foldl (fun s9 x10 h11 => keeps_foldl (fun s12 x13 h14 => keeps_routeFrame (Piece.sub hF (by decide +kernel)) h14) h11) h8

theorem keeps_closePair {F : List Piece} {a s : State} {k : ℕ} (hF : [.fab, .ring, .RING_PORT, .RING_PORT_CNT, .RING_CNT, .RING_BYP, .CTL_READY]
    ⊆ F) (hs : Keeps F a s) :
    Keeps F a (State.closePair s k) := by
  delta State.closePair
  refine keeps_ite (fun _ => hs) (fun _ => ?_)
  extract_lets +onlyGivenNames -merge -lift -underBinder s1
  have h2 : Keeps F a s1 := by
    unfold s1
    exact keeps_bump (keeps_setBypass (Piece.sub hF (by decide +kernel)) hs) ⟨rfl, hF (by decide +kernel)⟩
  clear_value s1
  exact keeps_linkDown (Piece.sub hF (by decide +kernel)) (keeps_linkDown (Piece.sub hF (by decide +kernel)) h2)

theorem keeps_helloAll {F : List Piece} {a s : State} (hs : Keeps F a s) :
    Keeps F a (State.helloAll s) := by
  delta State.helloAll
  exact keeps_foldl (fun s1 x2 h3 => keeps_ite (fun _ => keeps_sendHello h3) (fun _ => h3)) hs

theorem keeps_regionLost {F : List Piece} {a s : State} {flow seq : ℕ} (hF : [.hti, .pool, .ring, .SHP_CTX_CNT, .SEC_CNT, .POOL_REGION,
    .POOL_LEND, .HTI_W_QFAULT, .HTI_CNT] ⊆ F) (hs : Keeps F a s) :
    Keeps F a (State.regionLost s flow seq) := by
  delta State.regionLost
  split
  · exact hs
  · extract_lets +onlyGivenNames -merge -lift -underBinder v1
    clear_value v1
    extract_lets +onlyGivenNames -merge -lift -underBinder s2
    have h3 : Keeps F a s2 := by
      unfold s2
      exact keeps_setRing (Piece.sub hF (by decide +kernel)) hs
    clear_value s2
    split
    · exact keeps_endPub (Piece.sub hF (by decide +kernel)) h3
    · exact h3

theorem keeps_unreachable {F : List Piece} {a s : State} {l : List (RFrame × ℕ)} (hF : [.hti, .pool, .ring, .SHP_CTX_CNT, .SEC_CNT, .RING_CNT,
    .POOL_REGION, .POOL_LEND, .HTI_W_QFAULT, .HTI_CNT] ⊆ F) (hs : Keeps F a s) :
    Keeps F a (State.unreachable s l) := by
  delta State.unreachable
  exact keeps_foldl (fun s1 x2 h3 => keeps_ite (fun _ => keeps_regionLost (Piece.sub hF (by decide +kernel)) h3) (fun _ => h3)) (keeps_bump hs
      ⟨rfl, hF (by decide +kernel)⟩)

theorem keeps_dropGone {F : List Piece} {a s : State} (hF : [.hti, .pool, .ring, .SHP_CTX_CNT, .SEC_CNT, .RING_CNT, .POOL_REGION, .POOL_LEND,
    .HTI_W_QFAULT, .HTI_CNT] ⊆ F) (hs : Keeps F a s) :
    Keeps F a (State.dropGone s) := by
  delta State.dropGone
  exact keeps_unreachable (Piece.sub hF (by decide +kernel)) (keeps_setRing (Piece.sub hF (by decide +kernel)) hs)

theorem keeps_closeAll {F : List Piece} {a s : State} (hF : [.fab, .ring, .RING_PORT, .RING_PORT_CNT, .RING_CNT, .RING_BYP, .CTL_READY] ⊆ F) (hs
    : Keeps F a s) :
    Keeps F a (State.closeAll s) := by
  delta State.closeAll
  exact keeps_foldl (fun s1 x2 h3 => keeps_closePair (Piece.sub hF (by decide +kernel)) h3) hs

/-! ### Failure -/

theorem keeps_loseState {F : List Piece} {a s : State} (hF : [.latch, .hti, .mbx, .ses, .tier, .gore, .attn, .pwr, .fab, .fleet, .dec, .pool,
    .rcl, .ring, .sec] ⊆ F) (hs : Keeps F a s) :
    Keeps F a (State.loseState s) := by
  exact Keeps.other hs (hlatch := .inr (hF (by decide +kernel))) (hhti := .inr (hF (by decide +kernel))) (hmbx := .inr (hF (by decide +kernel)))
      (hses := .inr (hF (by decide +kernel))) (htier := .inr (hF (by decide +kernel))) (hgore := .inr (hF (by decide +kernel))) (hattn := .inr
          (hF (by decide +kernel))) (hpwr := .inr (hF (by decide +kernel))) (hfab := .inr (hF (by decide +kernel))) (hfleet := .inr (hF
              (by decide +kernel))) (hdec := .inr (hF (by decide +kernel))) (hpool := .inr (hF (by decide +kernel))) (hrcl := .inr (hF
                  (by decide +kernel))) (hring := .inr (hF (by decide +kernel))) (hsec := .inr (hF (by decide +kernel)))

theorem keeps_wholeFailure {F : List Piece} {a s : State} {die unit code : ℕ} {off : Bool} (hF : [.latch, .hti, .mbx, .boot, .ses, .tier, .gore,
    .attn, .pwr, .pins, .fab, .fleet, .dec, .pool, .rcl, .ring, .sec, .RING_PORT, .RING_PORT_CNT, .RING_LED, .RING_CNT, .RING_BYP, .POOL_PORT,
        .CTL_RST, .CTL_READY, .CTL_PIN] ⊆ F) (hs : Keeps F a s) :
    Keeps F a (State.wholeFailure s die unit code off) := by
  delta State.wholeFailure
  refine keeps_ite (fun _ => hs) (fun _ => ?_)
  extract_lets +onlyGivenNames -merge -lift -underBinder s1
  have h2 : Keeps F a s1 := by
    unfold s1
    exact keeps_wr (keeps_wr hs ⟨rfl, hF (by decide +kernel)⟩) ⟨rfl, hF (by decide +kernel)⟩
  clear_value s1
  extract_lets +onlyGivenNames -merge -lift -underBinder v3
  clear_value v3
  extract_lets +onlyGivenNames -merge -lift -underBinder s4
  have h5 : Keeps F a s4 := by
    unfold s4
    exact Keeps.other h2 (hboot := .inr (hF (by decide +kernel)))
  clear_value s4
  extract_lets +onlyGivenNames -merge -lift -underBinder s6
  have h7 : Keeps F a s6 := by
    unfold s6
    exact keeps_wr (keeps_closeAll (Piece.sub hF (by decide +kernel)) h5) ⟨rfl, hF (by decide +kernel)⟩
  clear_value s6
  extract_lets +onlyGivenNames -merge -lift -underBinder s8
  have h9 : Keeps F a s8 := by
    unfold s8
    exact keeps_foldl (fun s10 x11 h12 => keeps_ite (fun _ => keeps_wr h12 ⟨rfl, hF (by decide +kernel)⟩) (fun _ => keeps_wr h12 ⟨rfl, hF
        (by decide +kernel)⟩)) h7
  clear_value s8
  extract_lets +onlyGivenNames -merge -lift -underBinder s13
  have h14 : Keeps F a s13 := by
    unfold s13
    exact keeps_wr h9 ⟨rfl, hF (by decide +kernel)⟩
  clear_value s13
  extract_lets +onlyGivenNames -merge -lift -underBinder s15
  have h16 : Keeps F a s15 := by
    unfold s15
    exact keeps_wr h14 ⟨rfl, hF (by decide +kernel)⟩
  clear_value s15
  extract_lets +onlyGivenNames -merge -lift -underBinder v17
  clear_value v17
  extract_lets +onlyGivenNames -merge -lift -underBinder s18
  have h19 : Keeps F a s18 := by
    unfold s18
    exact keeps_loseState (Piece.sub hF (by decide +kernel)) h16
  clear_value s18
  exact Keeps.other h19 (hpins := .inr (hF (by decide +kernel))) (hpool := .inr (hF (by decide +kernel)))

end Sys2Proof.Machine
end

