-- ==== Sys2Proof/Laws/KeepsTiers.lean ====
section
/-! SUPPORT. `Keeps` for the operations and meanings of Machine/: Tiers, KvOps, RclOps, DecOps, TetherOps, TierFaults. Each lemma says what an operation may change, and
that it keeps the rest. -/

namespace Sys2Proof.Machine

set_option Elab.async false

/-! ### Tiers -/

theorem keeps_heatDecay {F : List Piece} {a s : State} (hF : [.ses, .tier] ⊆ F) (hs : Keeps F a s) :
    Keeps F a (heatDecay s) := by
  delta heatDecay
  exact keeps_foldl (fun s1 x2 h3 => keeps_ite (fun _ => keeps_putPage (Piece.sub hF (by decide +kernel)) h3) (fun _ => h3)) hs

theorem keeps_wmWrite {F : List Piece} {a : State} {value : ℕ} {s : State} (hF : [.TIER_WM] ⊆ F) (hs : Keeps F a s) :
    Keeps F a (wmWrite value s) := by
  delta wmWrite
  extract_lets +onlyGivenNames -merge -lift -underBinder v1 v2 v3 v4
  clear_value v1 v2 v3 v4
  exact keeps_ite (fun _ => keeps_putWord hs ((Piece.fields hF (by decide +kernel)))) (fun _ => hs)

theorem keeps_execTierWmWrite {F : List Piece} {a : State} {value : ℕ} {s : State} (hF : [.TIER_WM] ⊆ F) (hs : Keeps F a s) :
    KeepsO F a (execTierWmWrite value s) := by
  delta execTierWmWrite
  exact KeepsO.mk (keeps_hostWrite hs (fun y1 h2 => keeps_wmWrite (Piece.sub hF (by decide +kernel)) h2))

theorem keeps_vacatePage {F : List Piece} {a s : State} {o : ℕ} {ref : PageRef} (hF : [.ses, .tier, .TIER_DRV, .TIER_CNT] ⊆ F) (hs : Keeps F a s) :
    Keeps F a (State.vacatePage s o ref) := by
  delta State.vacatePage
  split
  · exact hs
  · extract_lets +onlyGivenNames -merge -lift -underBinder v1 v2
    clear_value v1 v2
    refine keeps_ite (fun _ => keeps_putPage (Piece.sub hF (by decide +kernel)) (keeps_releasePlace hs)) (fun _ => ?_)
    refine keeps_ite (fun _ => ?_) (fun _ => hs)
    extract_lets +onlyGivenNames -merge -lift -underBinder v3
    clear_value v3
    extract_lets +onlyGivenNames -merge -lift -underBinder s4
    have h5 : Keeps F a s4 := by
      unfold s4
      exact keeps_capCount (Piece.sub hF (by decide +kernel)) hs
    clear_value s4
    split
    · extract_lets +onlyGivenNames -merge -lift -underBinder v6
      clear_value v6
      extract_lets +onlyGivenNames -merge -lift -underBinder s7
      have h8 : Keeps F a s7 := by
        unfold s7
        exact keeps_setLast (Piece.sub hF (by decide +kernel)) (keeps_emitPage (keeps_takeBudget (Piece.sub hF (by decide +kernel)) h5))
      clear_value s7
      extract_lets +onlyGivenNames -merge -lift -underBinder s9
      have h10 : Keeps F a s9 := by
        unfold s9
        exact keeps_bump h8 ⟨rfl, hF (by decide +kernel)⟩
      clear_value s9
      exact keeps_putPage (Piece.sub hF (by decide +kernel)) h10
    · exact keeps_bump h5 ⟨rfl, hF (by decide +kernel)⟩

theorem keeps_vacate {F : List Piece} {a s : State} {o : ℕ} (hF : [.ses, .tier, .TIER_DRV, .TIER_CNT] ⊆ F) (hs : Keeps F a s) :
    Keeps F a (State.vacate s o) := by
  delta State.vacate
  exact keeps_foldl (fun s1 x2 h3 => keeps_vacatePage (Piece.sub hF (by decide +kernel)) h3) hs

theorem keeps_vacateAll {F : List Piece} {a s : State} (hF : [.ses, .tier, .TIER_DRV, .TIER_CNT] ⊆ F) (hs : Keeps F a s) :
    Keeps F a (State.vacateAll s) := by
  delta State.vacateAll
  exact keeps_foldl (fun s1 x2 h3 => keeps_ite (fun _ => keeps_vacate (Piece.sub hF (by decide +kernel)) h3) (fun _ => h3)) hs

theorem keeps_noPlace {F : List Piece} {a s : State} {ref : PageRef} {w : ℕ} (hF : [.mbx, .ses, .tier, .fleet, .pool, .TIER_OBJ, .TIER_CNT,
    .POOL_OBJ, .POOL_CNT, .MBX_SUM, .MBX_CNT, .HTI_W_MBSTS, .HTI_W_EVT, .HTI_CNT, .CTL_SES, .CTL_SES_CNT, .CTL_READY] ⊆ F) (hs : Keeps F a s) :
    Keeps F a (State.noPlace s ref w) := by
  delta State.noPlace
  extract_lets +onlyGivenNames -merge -lift -underBinder v1
  clear_value v1
  exact keeps_ite (fun _ => keeps_autoDeflate (Piece.sub hF (by decide +kernel)) hs) (fun _ => keeps_bump hs ⟨rfl, hF (by decide +kernel)⟩)

theorem keeps_demoteT2 {F : List Piece} {a s : State} {ref : PageRef} (hF : [.mbx, .ses, .tier, .fleet, .pool, .TIER_OBJ, .TIER_DRV, .TIER_CNT,
    .POOL_OBJ, .POOL_CNT, .MBX_SUM, .MBX_CNT, .HTI_W_MBSTS, .HTI_W_EVT, .HTI_CNT, .CTL_SES, .CTL_SES_CNT, .CTL_READY] ⊆ F) (hs : Keeps F a s) :
    Keeps F a (State.demoteT2 s ref) := by
  delta State.demoteT2
  split
  · exact hs
  · split
    · exact keeps_dropClean (Piece.sub hF (by decide +kernel)) hs
    · refine keeps_ite (fun _ => hs) (fun _ => ?_)
      extract_lets +onlyGivenNames -merge -lift -underBinder v1
      clear_value v1
      extract_lets +onlyGivenNames -merge -lift -underBinder s2
      have h3 : Keeps F a s2 := by
        unfold s2
        exact keeps_capCount (Piece.sub hF (by decide +kernel)) hs
      clear_value s2
      split
      · extract_lets +onlyGivenNames -merge -lift -underBinder v4
        clear_value v4
        extract_lets +onlyGivenNames -merge -lift -underBinder s5
        have h6 : Keeps F a s5 := by
          unfold s5
          exact keeps_bump (keeps_setLast (Piece.sub hF (by decide +kernel)) (keeps_emitPage (keeps_takeBudget (Piece.sub hF (by decide +kernel))
              h3))) ⟨rfl, hF (by decide +kernel)⟩
        clear_value s5
        exact keeps_putPage (Piece.sub hF (by decide +kernel)) h6
      · exact keeps_noPlace (Piece.sub hF (by decide +kernel)) h3
    · exact hs

theorem keeps_demoteFrom {F : List Piece} {a s : State} {tier : ℕ} {ref : PageRef} (hF : [.mbx, .ses, .tier, .fleet, .pool, .TIER_OBJ, .TIER_DRV,
    .TIER_CNT, .POOL_OBJ, .POOL_CNT, .MBX_SUM, .MBX_CNT, .HTI_W_MBSTS, .HTI_W_EVT, .HTI_CNT, .CTL_SES, .CTL_SES_CNT, .CTL_READY] ⊆ F) (hs : Keeps
        F a s) :
    Keeps F a (State.demoteFrom s tier ref) := by
  delta State.demoteFrom
  refine keeps_ite (fun _ => keeps_demoteT2 (Piece.sub hF (by decide +kernel)) hs) (fun _ => ?_)
  extract_lets +onlyGivenNames -merge -lift -underBinder v1
  clear_value v1
  exact keeps_ite (fun _ => keeps_noPlace (Piece.sub hF (by decide +kernel)) hs) (fun _ => keeps_demotePage (Piece.sub hF (by decide +kernel)) hs)

theorem keeps_demoteSession {F : List Piece} {a s : State} {tier : ℕ} {x0 : Session} (hF : [.mbx, .ses, .tier, .fleet, .pool, .TIER_OBJ,
    .TIER_DRV, .TIER_CNT, .POOL_OBJ, .POOL_CNT, .MBX_SUM, .MBX_CNT, .HTI_W_MBSTS, .HTI_W_EVT, .HTI_CNT, .CTL_SES, .CTL_SES_CNT, .CTL_READY] ⊆ F)
        (hs : Keeps F a s) :
    Keeps F a (State.demoteSession s tier x0) := by
  delta State.demoteSession
  extract_lets +onlyGivenNames -merge -lift -underBinder v1
  clear_value v1
  split
  · extract_lets +onlyGivenNames -merge -lift -underBinder s2
    have h3 : Keeps F a s2 := by
      unfold s2
      exact keeps_noPlace (Piece.sub hF (by decide +kernel)) hs
    clear_value s2
    exact keeps_foldl (fun s4 x5 h6 => keeps_demoteFrom (Piece.sub hF (by decide +kernel)) h6) h3
  · exact keeps_foldl (fun s7 x8 h9 => keeps_demoteFrom (Piece.sub hF (by decide +kernel)) h9) hs

theorem keeps_press {F : List Piece} {a s : State} {tier : ℕ} {only : Option ℕ} {goal : State → Bool} {x0 : ℕ} {x1 : List PageRef} {x2 : List ℕ}
    (hF : [.mbx, .ses, .tier, .fleet, .pool, .TIER_OBJ, .TIER_DRV, .TIER_CNT, .POOL_OBJ, .POOL_CNT, .MBX_SUM, .MBX_CNT, .HTI_W_MBSTS, .HTI_W_EVT,
        .HTI_CNT, .CTL_SES, .CTL_SES_CNT, .CTL_READY] ⊆ F) (hs : Keeps F a s) :
    Keeps F a (State.press s tier only goal x0 x1 x2) := by
  induction x0 generalizing s tier only goal x1 x2 with
  | zero =>
    rw [State.press.eq_1]
    exact hs
  | succ _ ih =>
    unfold State.press
    refine keeps_ite (fun _ => hs) (fun _ => ?_)
    split
    · exact hs
    · refine keeps_ite (fun _ => ?_) (fun _ => ?_)
      · split
        · exact ih (keeps_demoteFrom (Piece.sub hF (by decide +kernel)) hs)
        · exact hs
      · split
        · exact ih (keeps_demoteSession (Piece.sub hF (by decide +kernel)) hs)
        · exact hs

theorem keeps_demotionStart {F : List Piece} {a : State} {tier region : ℕ} {s : State} (hF : [.mbx, .ses, .tier, .fleet, .pool, .TIER_OBJ,
    .TIER_DRV, .TIER_CNT, .POOL_OBJ, .POOL_CNT, .MBX_SUM, .MBX_CNT, .HTI_W_MBSTS, .HTI_W_EVT, .HTI_CNT, .CTL_SES, .CTL_SES_CNT, .CTL_READY] ⊆ F)
        (hs : Keeps F a s) :
    Keeps F a (demotionStart tier region s) := by
  delta demotionStart
  extract_lets +onlyGivenNames -merge -lift -underBinder v1 v2 v3 v4
  clear_value v1 v2 v3 v4
  extract_lets +onlyGivenNames -merge -lift -underBinder s5
  have h6 : Keeps F a s5 := by
    unfold s5
    exact keeps_ite (fun _ => keeps_press (Piece.sub hF (by decide +kernel)) hs) (fun _ => keeps_ite (fun _ => keeps_press (Piece.sub hF
        (by decide +kernel)) hs) (fun _ => keeps_ite (fun _ => keeps_press (Piece.sub hF (by decide +kernel)) hs) (fun _ => keeps_ite (fun _ =>
            keeps_press (Piece.sub hF (by decide +kernel)) hs) (fun _ => hs))))
  clear_value s5
  exact keeps_vacateAll (Piece.sub hF (by decide +kernel)) h6

theorem keeps_execDemotionStart {F : List Piece} {a : State} {tier region : ℕ} {s : State} (hF : [.mbx, .ses, .tier, .gore, .pwr, .fleet, .pool,
    .TIER_OBJ, .TIER_DRV, .TIER_CNT, .PWR_DROGUE, .PWR_CNT, .POOL_OBJ, .POOL_CNT, .MBX_SUM, .MBX_CNT, .HTI_W_MBSTS, .HTI_W_EVT, .HTI_CNT,
        .GORE_PANEL, .GORE_CTX, .GORE_CNT, .CTL_SES, .CTL_SES_CNT, .CTL_READY, .CTL_PM] ⊆ F) (hs : Keeps F a s) :
    KeepsO F a (execDemotionStart tier region s) := by
  delta execDemotionStart
  exact KeepsO.mk (keeps_winch (Piece.sub hF (by decide +kernel)) (keeps_demotionStart (Piece.sub hF (by decide +kernel)) hs))

theorem keeps_flushDrop {F : List Piece} {a s : State} {owners : List ℕ} (hF : [.ses, .tier, .pool, .TIER_OBJ, .TIER_CNT, .POOL_OBJ, .POOL_CNT,
    .CTL_READY] ⊆ F) (hs : Keeps F a s) :
    KeepsP F a (State.flushDrop s owners) := by
  delta State.flushDrop
  refine keeps_foldp (fun s1 x2 h3 => ?_) (KeepsP.mk hs)
  extract_lets +onlyGivenNames -merge -lift -underBinder v4
  extract_lets +onlyGivenNames -merge -lift -underBinder v5 v6
  clear_value v5 v6
  exact keepsP_ite (fun _ => h3) (fun _ => keeps_foldp (fun s7 x8 h9 => keepsP_ite (fun _ => KeepsP.mk (keeps_dropClean (Piece.sub hF
      (by decide +kernel)) (KeepsP.proj h9))) (fun _ => h9)) h3)

theorem keeps_endFlush {F : List Piece} {a s : State} {r : FlushRun} (hF : [.hti, .ses, .tier, .pool, .ring, .TIER_OBJ, .TIER_CNT, .SHP_CTX_CNT,
    .SEC_CNT, .POOL_OBJ, .POOL_CNT, .HTI_W_QFAULT, .HTI_CNT, .CTL_READY] ⊆ F) (hs : Keeps F a s) :
    Keeps F a (State.endFlush s r) := by
  delta State.endFlush
  extract_lets +onlyGivenNames -merge -lift -underBinder v1
  clear_value v1
  extract_lets +onlyGivenNames -merge -lift -underBinder s2
  have h3 : Keeps F a s2 := by
    unfold s2
    exact Keeps.other hs (htier := .inr (hF (by decide +kernel)))
  clear_value s2
  extract_lets +onlyGivenNames -merge -lift -underBinder p4
  have h5 : KeepsP F a p4 := by
    unfold p4
    exact keepsP_ite (fun _ => keeps_flushDrop (Piece.sub hF (by decide +kernel)) h3) (fun _ => KeepsP.mk h3)
  clear_value p4
  exact keeps_ite (fun _ => keeps_finish (Piece.sub hF (by decide +kernel)) (KeepsP.proj h5)) (fun _ => keeps_finish (Piece.sub hF
      (by decide +kernel)) (KeepsP.proj h5))

theorem keeps_flushStep {F : List Piece} {a s : State} {ref : PageRef} {clean : Bool} (hF : [.hti, .ses, .tier, .pool, .ring, .TIER_OBJ,
    .TIER_CNT, .SHP_CTX_CNT, .SEC_CNT, .POOL_OBJ, .POOL_CNT, .HTI_W_QFAULT, .HTI_CNT, .CTL_READY] ⊆ F) (hs : Keeps F a s) :
    Keeps F a (State.flushStep s ref clean) := by
  delta State.flushStep
  extract_lets +onlyGivenNames -merge -lift -underBinder v1
  clear_value v1
  refine keeps_foldl (fun s2 x3 h4 => ?_) hs
  refine keeps_ite (fun _ => ?_) (fun _ => h4)
  extract_lets +onlyGivenNames -merge -lift -underBinder v5
  clear_value v5
  extract_lets +onlyGivenNames -merge -lift -underBinder s6
  have h7 : Keeps F a s6 := by
    unfold s6
    exact keeps_ite (fun _ => keeps_bump h4 ⟨rfl, hF (by decide +kernel)⟩) (fun _ => h4)
  clear_value s6
  extract_lets +onlyGivenNames -merge -lift -underBinder v8
  clear_value v8
  extract_lets +onlyGivenNames -merge -lift -underBinder s9
  have h10 : Keeps F a s9 := by
    unfold s9
    exact Keeps.other h7 (htier := .inr (hF (by decide +kernel)))
  clear_value s9
  exact keeps_ite (fun _ => keeps_endFlush (Piece.sub hF (by decide +kernel)) h10) (fun _ => h10)

theorem keeps_demotionWriteDone {F : List Piece} {a : State} {ref : PageRef} {s : State} (hF : [.hti, .ses, .tier, .pool, .ring, .TIER_OBJ,
    .TIER_DRV, .TIER_CNT, .SHP_CTX_CNT, .SEC_CNT, .POOL_OBJ, .POOL_CNT, .HTI_W_QFAULT, .HTI_CNT, .CTL_READY] ⊆ F) (hs : Keeps F a s) :
    Keeps F a (demotionWriteDone ref s) := by
  delta demotionWriteDone
  split
  · exact hs
  · split
    · exact hs
    · extract_lets +onlyGivenNames -merge -lift -underBinder v1
      extract_lets +onlyGivenNames -merge -lift -underBinder s2
      have h3 : Keeps F a s2 := by
        unfold s2
        exact keeps_ite (fun _ => keeps_bump hs ⟨rfl, hF (by decide +kernel)⟩) (fun _ => hs)
      clear_value s2
      extract_lets +onlyGivenNames -merge -lift -underBinder s4
      have h5 : Keeps F a s4 := by
        unfold s4
        split
        · extract_lets +onlyGivenNames -merge -lift -underBinder s6
          have h7 : Keeps F a s6 := by
            unfold s6
            exact keeps_releasePlace h3
          clear_value s6
          exact keeps_putPage (Piece.sub hF (by decide +kernel)) h7
        · extract_lets +onlyGivenNames -merge -lift -underBinder s8
          have h9 : Keeps F a s8 := by
            unfold s8
            exact keeps_ite (fun _ => h3) (fun _ => keeps_releasePlace h3)
          clear_value s8
          exact keeps_putPage (Piece.sub hF (by decide +kernel)) h9
        · refine keeps_ite (fun _ => ?_) (fun _ => ?_)
          · extract_lets +onlyGivenNames -merge -lift -underBinder s10
            have h11 : Keeps F a s10 := by
              unfold s10
              exact keeps_ite (fun _ => h3) (fun _ => keeps_releasePlace h3)
            clear_value s10
            exact keeps_putPage (Piece.sub hF (by decide +kernel)) h11
          · extract_lets +onlyGivenNames -merge -lift -underBinder s12
            have h13 : Keeps F a s12 := by
              unfold s12
              exact keeps_putPage (Piece.sub hF (by decide +kernel)) h3
            clear_value s12
            refine keeps_ite (fun _ => ?_) (fun _ => h13)
            split
            · exact keeps_putPage (Piece.sub hF (by decide +kernel)) h13
            · exact h13
      clear_value s4
      extract_lets +onlyGivenNames -merge -lift -underBinder s14
      have h15 : Keeps F a s14 := by
        unfold s14
        exact keeps_ite (fun _ => h5) (fun _ => keeps_sinkSmall (Piece.sub hF (by decide +kernel)) h5)
      clear_value s14
      exact keeps_flushStep (Piece.sub hF (by decide +kernel)) h15

theorem keeps_demoteAfterExpiry {F : List Piece} {a : State} {h : ℕ} {s : State} (hF : [.mbx, .ses, .tier, .fleet, .pool, .TIER_OBJ, .TIER_DRV,
    .TIER_CNT, .POOL_OBJ, .POOL_CNT, .MBX_SUM, .MBX_CNT, .HTI_W_MBSTS, .HTI_W_EVT, .HTI_CNT, .CTL_SES, .CTL_SES_CNT, .CTL_READY] ⊆ F) (hs : Keeps
        F a s) :
    Keeps F a (demoteAfterExpiry h s) := by
  delta demoteAfterExpiry
  split
  · exact keeps_ite (fun _ => keeps_demoteSession (Piece.sub hF (by decide +kernel)) hs) (fun _ => hs)
  · exact hs

theorem keeps_loseObject {F : List Piece} {a s : State} {o : ℕ} (hF : [.tier, .TIER_OBJ] ⊆ F) (hs : Keeps F a s) :
    Keeps F a (State.loseObject s o) := by
  delta State.loseObject
  extract_lets +onlyGivenNames -merge -lift -underBinder s1
  have h2 : Keeps F a s1 := by
    unfold s1
    exact keeps_wr (keeps_wr hs ⟨rfl, hF (by decide +kernel)⟩) ⟨rfl, hF (by decide +kernel)⟩
  clear_value s1
  extract_lets +onlyGivenNames -merge -lift -underBinder s3
  have h4 : Keeps F a s3 := by
    unfold s3
    exact keeps_wr h2 ⟨rfl, hF (by decide +kernel)⟩
  clear_value s3
  exact Keeps.other h4 (htier := .inr (hF (by decide +kernel)))

theorem keeps_execDemotionWriteDone {F : List Piece} {a : State} {page : PageRef} {s : State} (hF : [.hti, .ses, .tier, .gore, .pwr, .pool,
    .ring, .TIER_OBJ, .TIER_DRV, .TIER_CNT, .SHP_CTX_CNT, .SEC_CNT, .PWR_DROGUE, .PWR_CNT, .POOL_OBJ, .POOL_LEND, .POOL_CNT, .HTI_W_QFAULT,
        .HTI_CNT, .GORE_PANEL, .GORE_CTX, .GORE_CNT, .CTL_READY, .CTL_PM] ⊆ F) (hs : Keeps F a s) :
    KeepsO F a (execDemotionWriteDone page s) := by
  delta execDemotionWriteDone
  exact KeepsO.mk (keeps_afterWrite (Piece.sub hF (by decide +kernel)) (keeps_winch (Piece.sub hF (by decide +kernel)) (keeps_demotionWriteDone
      (Piece.sub hF (by decide +kernel)) hs)))

theorem keeps_flushPage {F : List Piece} {a s : State} {r : FlushRun} {target : ℕ} {ref : PageRef} {x0 : Page} (hF : [.ses, .tier, .TIER_DRV,
    .TIER_CNT] ⊆ F) (hs : Keeps F a s) :
    KeepsP F a (State.flushPage s r target ref x0) := by
  delta State.flushPage
  extract_lets +onlyGivenNames -merge -lift -underBinder v1
  clear_value v1
  refine keepsP_ite (fun _ => KeepsP.mk hs) (fun _ => ?_)
  extract_lets +onlyGivenNames -merge -lift -underBinder v2
  clear_value v2
  extract_lets +onlyGivenNames -merge -lift -underBinder s3
  have h4 : Keeps F a s3 := by
    unfold s3
    exact keeps_capCount (Piece.sub hF (by decide +kernel)) hs
  clear_value s3
  split
  · exact KeepsP.mk (keeps_startWrite (Piece.sub hF (by decide +kernel)) h4)
  · exact KeepsP.mk (keeps_bump h4 ⟨rfl, hF (by decide +kernel)⟩)

theorem keeps_flushOwner {F : List Piece} {a s : State} {r : FlushRun} {target : ℕ} {ix : Bool} {own : ℕ} (hF : [.ses, .tier, .TIER_DRV,
    .TIER_CNT] ⊆ F) (hs : Keeps F a s) :
    KeepsP F a (State.flushOwner s r target ix own) := by
  delta State.flushOwner
  exact keeps_foldp (fun s1 x2 h3 => keepsP_ite (fun _ => h3) (fun _ => keepsP_ite (fun _ => KeepsP.mk (KeepsP.proj h3)) (fun _ =>
      keeps_flushPage (Piece.sub hF (by decide +kernel)) (KeepsP.proj h3)))) (KeepsP.mk hs)

theorem keeps_tierFlush {F : List Piece} {a : State} {c : Cmd} {s : State} (hF : [.hti, .ses, .tier, .pool, .ring, .TIER_OBJ, .TIER_DRV,
    .TIER_CNT, .SHP_CTX_CNT, .SEC_CNT, .POOL_OBJ, .POOL_CNT, .HTI_W_QFAULT, .HTI_CNT, .CTL_READY] ⊆ F) (hs : Keeps F a s) :
    Keeps F a (tierFlush c s) := by
  delta tierFlush
  split
  · exact keeps_finish (Piece.sub hF (by decide +kernel)) hs
  · extract_lets +onlyGivenNames -merge -lift -underBinder v1 v2
    clear_value v1 v2
    extract_lets +onlyGivenNames -merge -lift -underBinder p3
    have h4 : KeepsP F a p3 := by
      unfold p3
      exact keeps_foldp (fun s5 x6 h7 => keeps_flushOwner (Piece.sub hF (by decide +kernel)) (KeepsP.proj h7)) (KeepsP.mk hs)
    clear_value p3
    extract_lets +onlyGivenNames -merge -lift -underBinder s8
    have h9 : Keeps F a s8 := by
      unfold s8
      exact KeepsP.proj h4
    clear_value s8
    extract_lets +onlyGivenNames -merge -lift -underBinder v10
    clear_value v10
    extract_lets +onlyGivenNames -merge -lift -underBinder s11
    have h12 : Keeps F a s11 := by
      unfold s11
      exact Keeps.other h9 (htier := .inr (hF (by decide +kernel)))
    clear_value s11
    exact keeps_ite (fun _ => keeps_endFlush (Piece.sub hF (by decide +kernel)) h12) (fun _ => h12)

theorem keeps_execTierFlush {F : List Piece} {a : State} {k : ℕ} {s : State} (hF : [.hti, .ses, .tier, .pool, .ring, .TIER_OBJ, .TIER_DRV,
    .TIER_CNT, .SHP_CTX_CNT, .SEC_CNT, .POOL_OBJ, .POOL_CNT, .HTI_W_QFAULT, .HTI_CNT, .CTL_READY] ⊆ F) (hs : Keeps F a s) :
    KeepsO F a (execTierFlush k s) := by
  delta execTierFlush
  exact KeepsO.mk (keeps_begin (Piece.sub hF (by decide +kernel)) hs (fun y1 y2 h3 => keeps_tierFlush (Piece.sub hF (by decide +kernel)) h3))

theorem keeps_setDflt {F : List Piece} {a s : State} {c : ℕ} {d : CtxDflt} (hF : [.ses] ⊆ F) (hs : Keeps F a s) :
    Keeps F a (State.setDflt s c d) := by
  delta State.setDflt
  exact Keeps.other hs (hses := .inr (hF (by decide +kernel)))

theorem keeps_execTierStallClr {F : List Piece} {a : State} {value : ℕ} {s : State} (hF : [.latch, .TIER_STALL] ⊆ F) (hs : Keeps F a s) :
    KeepsO F a (execTierStallClr value s) := by
  delta execTierStallClr
  exact KeepsO.mk (keeps_hostWrite64 (Piece.sub hF (by decide +kernel)) hs ⟨rfl, hF (by decide +kernel)⟩ (fun y1 h2 => keeps_zeroRows h2 ⟨rfl, hF
      (by decide +kernel)⟩))

theorem keeps_saveWear {F : List Piece} {a s : State} (hF : [.tier] ⊆ F) (hs : Keeps F a s) :
    Keeps F a (State.saveWear s) := by
  delta State.saveWear
  exact Keeps.other hs (htier := .inr (hF (by decide +kernel)))

theorem keeps_t1Stall {F : List Piece} {a : State} {h : ℕ} {s : State} (hF : [.hti, .ses, .tier, .gore, .attn, .pwr, .fleet, .pool, .ring,
    .TIER_OBJ, .TIER_CNT, .SHP_CTX_CNT, .SEC_CNT, .PWR_DROGUE, .PWR_CNT, .POOL_OBJ, .POOL_CNT, .HTI_W_QFAULT, .HTI_CNT, .GORE_TILE_CNT,
        .GORE_PANEL, .GORE_CTX, .GORE_CTX_CNT, .GORE_CNT, .CTL_SES, .CTL_READY, .CTL_PM] ⊆ F) (hs : Keeps F a s) :
    Keeps F a (t1Stall h s) := by
  delta t1Stall
  extract_lets +onlyGivenNames -merge -lift -underBinder s1
  have h2 : Keeps F a s1 := by
    unfold s1
    exact hs
  clear_value s1
  extract_lets +onlyGivenNames -merge -lift -underBinder v3 v4
  clear_value v3 v4
  extract_lets +onlyGivenNames -merge -lift -underBinder s5
  have h6 : Keeps F a s5 := by
    unfold s5
    exact keeps_ite (fun _ => keeps_bump (keeps_leaveAll (Piece.sub hF (by decide +kernel)) hs) ⟨rfl, hF (by decide +kernel)⟩) (fun _ => hs)
  clear_value s5
  split
  · exact keeps_ite (fun _ => keeps_winch (Piece.sub hF (by decide +kernel)) (keeps_bump (keeps_finish (Piece.sub hF (by decide +kernel))
        (keeps_enter (Piece.sub hF (by decide +kernel)) h6)) ⟨rfl, hF (by decide +kernel)⟩)) (fun _ => keeps_winch (Piece.sub hF
            (by decide +kernel)) h6)
  · exact keeps_winch (Piece.sub hF (by decide +kernel)) h6

theorem keeps_execWearBudgetSave {F : List Piece} {a : State} {dt : ℕ} {s : State} (hF : [.tier, .fleet, .TIER_STALL, .SHP_CTX_CNT,
    .RING_PORT_CNT, .PWR_CNT, .MTR_LIVE, .HTI_TIME, .HTI_CNT, .GORE_CTX_CNT, .GORE_CLASS, .CTL_RT, .CTL_RST_CNT, .CTL_PIN_CNT] ⊆ F) (hs : Keeps F
        a s) :
    KeepsO F a (execWearBudgetSave dt s) := by
  delta execWearBudgetSave
  exact KeepsO.mk (keeps_saveWear (Piece.sub hF (by decide +kernel)) (keeps_pass (Piece.sub hF (by decide +kernel)) hs))

theorem keeps_findObject {F : List Piece} {a s : State} {o port nsid pages : ℕ} (hF : [.tier, .TIER_OBJ] ⊆ F) (hs : Keeps F a s) :
    Keeps F a (State.findObject s o port nsid pages) := by
  delta State.findObject
  extract_lets +onlyGivenNames -merge -lift -underBinder v1
  clear_value v1
  extract_lets +onlyGivenNames -merge -lift -underBinder s2
  have h3 : Keeps F a s2 := by
    unfold s2
    exact Keeps.other hs (htier := .inr (hF (by decide +kernel)))
  clear_value s2
  extract_lets +onlyGivenNames -merge -lift -underBinder s4
  have h5 : Keeps F a s4 := by
    unfold s4
    exact keeps_wr (keeps_wr h3 ⟨rfl, hF (by decide +kernel)⟩) ⟨rfl, hF (by decide +kernel)⟩
  clear_value s4
  exact keeps_wr (keeps_wr h5 ⟨rfl, hF (by decide +kernel)⟩) ⟨rfl, hF (by decide +kernel)⟩

theorem keeps_flashEnumerated {F : List Piece} {a : State} {port ident : ℕ} {spaces : List NameSpace} {s : State} (hF : [.tier, .pwr, .TIER_OBJ,
    .TIER_DRV, .CTL_READY] ⊆ F) (hs : Keeps F a s) :
    Keeps F a (flashEnumerated port ident spaces s) := by
  delta flashEnumerated
  extract_lets +onlyGivenNames -merge -lift -underBinder v1
  clear_value v1
  extract_lets +onlyGivenNames -merge -lift -underBinder s2
  have h3 : Keeps F a s2 := by
    unfold s2
    exact keeps_ite (fun _ => keeps_setWear (Piece.sub hF (by decide +kernel)) hs) (fun _ => keeps_setWear (Piece.sub hF (by decide +kernel)) hs)
  clear_value s2
  extract_lets +onlyGivenNames -merge -lift -underBinder v4
  clear_value v4
  extract_lets +onlyGivenNames -merge -lift -underBinder s5
  have h6 : Keeps F a s5 := by
    unfold s5
    exact keeps_foldl (fun s7 x8 h9 => keeps_loseObject (Piece.sub hF (by decide +kernel)) h9) h3
  clear_value s5
  extract_lets +onlyGivenNames -merge -lift -underBinder s10
  have h11 : Keeps F a s10 := by
    unfold s10
    refine keeps_foldl (fun s12 x13 h14 => ?_) h6
    extract_lets +onlyGivenNames -merge -lift -underBinder v15 v16
    clear_value v15 v16
    extract_lets +onlyGivenNames -merge -lift -underBinder s17
    have h18 : Keeps F a s17 := by
      unfold s17
      exact keeps_findObject (Piece.sub hF (by decide +kernel)) h14
    clear_value s17
    exact keeps_ite (fun _ => h18) (fun _ => keeps_emit h18)
  clear_value s10
  exact keeps_unadmit (Piece.sub hF (by decide +kernel)) (keeps_refreshCaps (Piece.sub hF (by decide +kernel)) h11)

theorem keeps_execFlashControllerEnumerated {F : List Piece} {a : State} {port ident : ℕ} {spaces : List NameSpace} {s : State} (hF : [.tier,
    .pwr, .TIER_OBJ, .TIER_DRV, .CTL_READY] ⊆ F) (hs : Keeps F a s) :
    KeepsO F a (execFlashControllerEnumerated port ident spaces s) := by
  delta execFlashControllerEnumerated
  exact KeepsO.mk (keeps_ite (fun _ => keeps_flashEnumerated (Piece.sub hF (by decide +kernel)) hs) (fun _ => hs))

theorem keeps_tierPolicy {F : List Piece} {a : State} {c : Cmd} {s : State} (hF : [.hti, .ses, .tier, .gore, .pwr, .pool, .ring, .TIER_OBJ,
    .TIER_DRV, .TIER_CNT, .SHP_CTX_CNT, .SEC_CNT, .PWR_DROGUE, .PWR_CNT, .POOL_OBJ, .POOL_CNT, .HTI_W_QFAULT, .HTI_CNT, .GORE_PANEL, .GORE_CTX,
        .GORE_CNT, .CTL_READY, .CTL_PM] ⊆ F) (hs : Keeps F a s) :
    Keeps F a (tierPolicy c s) := by
  delta tierPolicy
  extract_lets +onlyGivenNames -merge -lift -underBinder v1 v2 v3 v4 v5
  clear_value v1 v2 v3 v4 v5
  split
  · exact keeps_finish (Piece.sub hF (by decide +kernel)) hs
  · extract_lets +onlyGivenNames -merge -lift -underBinder p6
    have h7 : KeepsP F a p6 := by
      unfold p6
      split
      · extract_lets +onlyGivenNames -merge -lift -underBinder s8
        have h9 : Keeps F a s8 := by
          unfold s8
          exact keeps_setRegion (Piece.sub hF (by decide +kernel)) hs
        clear_value s8
        exact KeepsP.mk (keeps_setDflt (Piece.sub hF (by decide +kernel)) h9)
      · extract_lets +onlyGivenNames -merge -lift -underBinder v10
        clear_value v10
        exact KeepsP.mk (keeps_sinkIndex (Piece.sub hF (by decide +kernel)) (keeps_setRegion (Piece.sub hF (by decide +kernel)) hs))
      · exact KeepsP.mk (keeps_updSess (Piece.sub hF (by decide +kernel)) hs)
    clear_value p6
    exact keeps_winch (Piece.sub hF (by decide +kernel)) (keeps_finish (Piece.sub hF (by decide +kernel)) (KeepsP.proj h7))

theorem keeps_execTierPolicy {F : List Piece} {a : State} {k : ℕ} {s : State} (hF : [.hti, .ses, .tier, .gore, .pwr, .pool, .ring, .TIER_OBJ,
    .TIER_DRV, .TIER_CNT, .SHP_CTX_CNT, .SEC_CNT, .PWR_DROGUE, .PWR_CNT, .POOL_OBJ, .POOL_CNT, .HTI_W_QFAULT, .HTI_CNT, .GORE_PANEL, .GORE_CTX,
        .GORE_CNT, .CTL_READY, .CTL_PM] ⊆ F) (hs : Keeps F a s) :
    KeepsO F a (execTierPolicy k s) := by
  delta execTierPolicy
  exact KeepsO.mk (keeps_begin (Piece.sub hF (by decide +kernel)) hs (fun y1 y2 h3 => keeps_tierPolicy (Piece.sub hF (by decide +kernel)) h3))

theorem keeps_objWrite {F : List Piece} {a : State} {o value : ℕ} {s : State} (hF : [.ses, .tier, .TIER_OBJ, .TIER_DRV, .TIER_CNT, .CTL_READY] ⊆
    F) (hs : Keeps F a s) :
    Keeps F a (objWrite o value s) := by
  delta objWrite
  extract_lets +onlyGivenNames -merge -lift -underBinder s1
  have h2 : Keeps F a s1 := by
    unfold s1
    exact keeps_ite (fun _ => keeps_wr (keeps_ite (fun _ => keeps_emit hs) (fun _ => hs)) ⟨rfl, hF (by decide +kernel)⟩) (fun _ => hs)
  clear_value s1
  extract_lets +onlyGivenNames -merge -lift -underBinder v3 v4
  clear_value v3 v4
  extract_lets +onlyGivenNames -merge -lift -underBinder s5
  have h6 : Keeps F a s5 := by
    unfold s5
    exact keeps_wr h2 ⟨rfl, hF (by decide +kernel)⟩
  clear_value s5
  extract_lets +onlyGivenNames -merge -lift -underBinder v7
  clear_value v7
  extract_lets +onlyGivenNames -merge -lift -underBinder s8
  have h9 : Keeps F a s8 := by
    unfold s8
    exact Keeps.other h6 (htier := .inr (hF (by decide +kernel)))
  clear_value s8
  exact keeps_refreshTierReady (Piece.sub hF (by decide +kernel)) (keeps_ite (fun _ => keeps_vacate (Piece.sub hF (by decide +kernel)) h9) (fun _
      => h9))

theorem keeps_execTierObjEnWrite {F : List Piece} {a : State} {obj value : ℕ} {s : State} (hF : [.latch, .ses, .tier, .TIER_OBJ, .TIER_DRV,
    .TIER_CNT, .CTL_READY] ⊆ F) (hs : Keeps F a s) :
    KeepsO F a (execTierObjEnWrite obj value s) := by
  delta execTierObjEnWrite
  exact KeepsO.mk (keeps_ite (fun _ => keeps_hostWrite64 (Piece.sub hF (by decide +kernel)) hs ⟨rfl, hF (by decide +kernel)⟩ (fun y1 h2 =>
      keeps_objWrite (Piece.sub hF (by decide +kernel)) h2)) (fun _ => hs))

theorem keeps_execTierObjFailedClear {F : List Piece} {a : State} {obj value : ℕ} {s : State} (hF : [.latch, .ses, .tier, .TIER_OBJ, .TIER_DRV,
    .TIER_CNT, .CTL_READY] ⊆ F) (hs : Keeps F a s) :
    KeepsO F a (execTierObjFailedClear obj value s) := by
  delta execTierObjFailedClear
  exact KeepsO.mk (keeps_ite (fun _ => keeps_hostWrite64 (Piece.sub hF (by decide +kernel)) hs ⟨rfl, hF (by decide +kernel)⟩ (fun y1 h2 =>
      keeps_objWrite (Piece.sub hF (by decide +kernel)) h2)) (fun _ => hs))

theorem keeps_execHeatDecayTick {F : List Piece} {a : State} {dt : ℕ} {s : State} (hF : [.ses, .tier, .fleet, .TIER_STALL, .SHP_CTX_CNT,
    .RING_PORT_CNT, .PWR_CNT, .MTR_LIVE, .HTI_TIME, .HTI_CNT, .GORE_CTX_CNT, .GORE_CLASS, .CTL_RT, .CTL_RST_CNT, .CTL_PIN_CNT] ⊆ F) (hs : Keeps F
        a s) :
    KeepsO F a (execHeatDecayTick dt s) := by
  delta execHeatDecayTick
  exact KeepsO.mk (keeps_heatDecay (Piece.sub hF (by decide +kernel)) (keeps_pass (Piece.sub hF (by decide +kernel)) hs))

theorem keeps_execTierCntClr {F : List Piece} {a : State} {value : ℕ} {s : State} (hF : [.TIER_CNT] ⊆ F) (hs : Keeps F a s) :
    KeepsO F a (execTierCntClr value s) := by
  delta execTierCntClr
  exact KeepsO.mk (keeps_hostWrite hs (fun y1 h2 => keeps_ite (fun _ => keeps_zeroAll h2 ⟨rfl, hF (by decide +kernel)⟩) (fun _ => h2)))

theorem keeps_execT1StallTimeout {F : List Piece} {a : State} {dt handle : ℕ} {s : State} (hF : [.hti, .ses, .tier, .gore, .attn, .pwr, .fleet,
    .pool, .ring, .TIER_STALL, .TIER_OBJ, .TIER_CNT, .SHP_CTX_CNT, .SEC_CNT, .RING_PORT_CNT, .PWR_DROGUE, .PWR_CNT, .POOL_OBJ, .POOL_CNT,
        .MTR_LIVE, .HTI_W_QFAULT, .HTI_TIME, .HTI_CNT, .GORE_TILE_CNT, .GORE_PANEL, .GORE_CTX, .GORE_CTX_CNT, .GORE_CNT, .GORE_CLASS, .CTL_SES,
            .CTL_RT, .CTL_RST_CNT, .CTL_READY, .CTL_PM, .CTL_PIN_CNT] ⊆ F) (hs : Keeps F a s) :
    KeepsO F a (execT1StallTimeout dt handle s) := by
  delta execT1StallTimeout
  exact KeepsO.mk (keeps_t1Stall (Piece.sub hF (by decide +kernel)) (keeps_pass (Piece.sub hF (by decide +kernel)) hs))

theorem keeps_execDemoteAfterExpiry {F : List Piece} {a : State} {dt handle : ℕ} {s : State} (hF : [.mbx, .ses, .tier, .gore, .pwr, .fleet,
    .pool, .TIER_STALL, .TIER_OBJ, .TIER_DRV, .TIER_CNT, .SHP_CTX_CNT, .RING_PORT_CNT, .PWR_DROGUE, .PWR_CNT, .POOL_OBJ, .POOL_CNT, .MTR_LIVE,
        .MBX_SUM, .MBX_CNT, .HTI_W_MBSTS, .HTI_W_EVT, .HTI_TIME, .HTI_CNT, .GORE_PANEL, .GORE_CTX, .GORE_CTX_CNT, .GORE_CNT, .GORE_CLASS,
            .CTL_SES, .CTL_SES_CNT, .CTL_RT, .CTL_RST_CNT, .CTL_READY, .CTL_PM, .CTL_PIN_CNT] ⊆ F) (hs : Keeps F a s) :
    KeepsO F a (execDemoteAfterExpiry dt handle s) := by
  delta execDemoteAfterExpiry
  exact KeepsO.mk (keeps_winch (Piece.sub hF (by decide +kernel)) (keeps_demoteAfterExpiry (Piece.sub hF (by decide +kernel)) (keeps_pass
      (Piece.sub hF (by decide +kernel)) hs)))

theorem keeps_wearTick {F : List Piece} {a s : State} (hF : [.tier, .TIER_DRV] ⊆ F) (hs : Keeps F a s) :
    Keeps F a (wearTick s) := by
  delta wearTick
  refine keeps_foldl (fun s1 x2 h3 => ?_) hs
  extract_lets +onlyGivenNames -merge -lift -underBinder v4 v5
  clear_value v4 v5
  exact keeps_setWear (Piece.sub hF (by decide +kernel)) h3

theorem keeps_execWearBudgetTick {F : List Piece} {a : State} {dt : ℕ} {s : State} (hF : [.tier, .fleet, .TIER_STALL, .TIER_DRV, .SHP_CTX_CNT,
    .RING_PORT_CNT, .PWR_CNT, .MTR_LIVE, .HTI_TIME, .HTI_CNT, .GORE_CTX_CNT, .GORE_CLASS, .CTL_RT, .CTL_RST_CNT, .CTL_PIN_CNT] ⊆ F) (hs : Keeps F
        a s) :
    KeepsO F a (execWearBudgetTick dt s) := by
  delta execWearBudgetTick
  exact KeepsO.mk (keeps_wearTick (Piece.sub hF (by decide +kernel)) (keeps_pass (Piece.sub hF (by decide +kernel)) hs))

/-! ### KvOps -/

theorem keeps_settleKv {F : List Piece} {a s : State} {k : ℕ} (hF : [.hti, .ses, .tier, .gore, .attn, .fleet, .pool, .ring, .TIER_OBJ,
    .SHP_CTX_CNT, .SEC_CNT, .POOL_OBJ, .POOL_CNT, .HTI_W_QFAULT, .HTI_CNT, .GORE_TILE_CNT, .GORE_ATTN_CNT, .CTL_SES, .CTL_READY] ⊆ F) (hs : Keeps
        F a s) :
    Keeps F a (State.settleKv s k) := by
  delta State.settleKv
  split
  · exact hs
  · refine keeps_ite (fun _ => hs) (fun _ => ?_)
    extract_lets +onlyGivenNames -merge -lift -underBinder s1
    have h2 : Keeps F a s1 := by
      unfold s1
      exact keeps_sweepStream (Piece.sub hF (by decide +kernel)) (keeps_keepRows (Piece.sub hF (by decide +kernel)) hs)
    clear_value s1
    split
    · exact h2
    · extract_lets +onlyGivenNames -merge -lift -underBinder v3
      clear_value v3
      extract_lets +onlyGivenNames -merge -lift -underBinder s4
      have h5 : Keeps F a s4 := by
        unfold s4
        exact keeps_ite (fun _ => keeps_enterAloft (Piece.sub hF (by decide +kernel)) (keeps_updSess (Piece.sub hF (by decide +kernel)) h2)) (fun
            _ => h2)
      clear_value s4
      extract_lets +onlyGivenNames -merge -lift -underBinder v6 v7
      clear_value v6 v7
      extract_lets +onlyGivenNames -merge -lift -underBinder s8
      have h9 : Keeps F a s8 := by
        unfold s8
        exact keeps_finish (Piece.sub hF (by decide +kernel)) (keeps_dropKv (Piece.sub hF (by decide +kernel)) h5)
      clear_value s8
      exact keeps_startNext (Piece.sub hF (by decide +kernel)) h9

theorem keeps_updKv {F : List Piece} {a s : State} {k : ℕ} {f : KvRun → KvRun} (hF : [.attn] ⊆ F) (hs : Keeps F a s) :
    Keeps F a (State.updKv s k f) := by
  delta State.updKv
  exact Keeps.other hs (hattn := .inr (hF (by decide +kernel)))

theorem keeps_takeRebuild {F : List Piece} {a s : State} {r : KvRun} (hF : [.ses, .tier, .gore] ⊆ F) (hs : Keeps F a s) :
    Keeps F a (State.takeRebuild s r) := by
  delta State.takeRebuild
  split
  · extract_lets +onlyGivenNames -merge -lift -underBinder v1 v2 v3 v4 v5
    clear_value v1 v2 v3 v4 v5
    extract_lets +onlyGivenNames -merge -lift -underBinder s6
    have h7 : Keeps F a s6 := by
      unfold s6
      exact keeps_appendPages (Piece.sub hF (by decide +kernel)) (keeps_setSess (Piece.sub hF (by decide +kernel)) hs)
    clear_value s6
    exact keeps_foldl (fun s8 x9 h10 => keeps_addItem (Piece.sub hF (by decide +kernel)) h10) h7
  · exact hs

theorem keeps_takeKv {F : List Piece} {a s : State} {r : KvRun} (hF : [.ses, .tier, .gore, .attn] ⊆ F) (hs : Keeps F a s) :
    Keeps F a (State.takeKv s r) := by
  delta State.takeKv
  split
  · exact hs
  · extract_lets +onlyGivenNames -merge -lift -underBinder s1
    have h2 : Keeps F a s1 := by
      unfold s1
      exact keeps_ite (fun _ => keeps_takeRebuild (Piece.sub hF (by decide +kernel)) hs) (fun _ => keeps_takeRows (Piece.sub hF
          (by decide +kernel)) hs)
    clear_value s1
    exact keeps_updKv (Piece.sub hF (by decide +kernel)) h2

/-! ### RclOps -/

theorem keeps_writeQuery {F : List Piece} {a s : State} {r : RRun} {qn : ℕ} {q : RQuery} {st : Status} {cause : ℕ} {res : List (RCand × ℕ)}
    {unref : Bool} (hs : Keeps F a s) :
    Keeps F a (State.writeQuery s r qn q st cause res unref) := by
  delta State.writeQuery
  extract_lets +onlyGivenNames -merge -lift -underBinder v1 v2 v3
  clear_value v1 v2 v3
  exact keeps_emit hs

theorem keeps_shutQuery {F : List Piece} {a s : State} {r : RRun} {qn : ℕ} {q : RQuery} {st : Status} {cause : ℕ} (hs : Keeps F a s) :
    KeepsP F a (State.shutQuery s r qn q st cause) := by
  delta State.shutQuery
  exact KeepsP.mk (keeps_writeQuery hs)

theorem keeps_sweepVecs {F : List Piece} {a s : State} {n : ℕ} (hF : [.ses, .tier, .pool, .TIER_OBJ, .POOL_OBJ, .POOL_CNT, .CTL_READY] ⊆ F) (hs :
    Keeps F a s) :
    Keeps F a (State.sweepVecs s n) := by
  delta State.sweepVecs
  split
  · exact hs
  · extract_lets +onlyGivenNames -merge -lift -underBinder v1
    clear_value v1
    exact keeps_foldl (fun s2 x3 h4 => keeps_ite (fun _ => keeps_emptyPage (Piece.sub hF (by decide +kernel)) h4) (fun _ => h4)) hs

theorem keeps_setRcl {F : List Piece} {a s : State} {r : Rcl} (hF : [.rcl] ⊆ F) (hs : Keeps F a s) :
    Keeps F a (State.setRcl s r) := by
  delta State.setRcl
  exact Keeps.other hs (hrcl := .inr (hF (by decide +kernel)))

theorem keeps_voidPend {F : List Piece} {a s : State} {t : RPend → Bool} {st : Status} {cause : ℕ} (hF : [.rcl] ⊆ F) (hs : Keeps F a s) :
    Keeps F a (State.voidPend s t st cause) := by
  delta State.voidPend
  exact keeps_setRcl (Piece.sub hF (by decide +kernel)) hs

theorem keeps_endRun {F : List Piece} {a s : State} {r : RRun} (hF : [.hti, .gore, .rcl, .ring, .SHP_CTX_CNT, .SEC_CNT, .HTI_W_QFAULT, .HTI_CNT,
    .GORE_CTX, .GORE_CTX_CNT] ⊆ F) (hs : Keeps F a s) :
    Keeps F a (State.endRun s r) := by
  delta State.endRun
  extract_lets +onlyGivenNames -merge -lift -underBinder v1
  clear_value v1
  extract_lets +onlyGivenNames -merge -lift -underBinder s2
  have h3 : Keeps F a s2 := by
    unfold s2
    exact keeps_killItems (Piece.sub hF (by decide +kernel)) hs
  clear_value s2
  extract_lets +onlyGivenNames -merge -lift -underBinder v4
  clear_value v4
  extract_lets +onlyGivenNames -merge -lift -underBinder s5
  have h6 : Keeps F a s5 := by
    unfold s5
    exact keeps_setRcl (Piece.sub hF (by decide +kernel)) h3
  clear_value s5
  exact keeps_finish (Piece.sub hF (by decide +kernel)) h6

theorem keeps_shutAll {F : List Piece} {a s : State} {r : RRun} {st : Status} {cause : ℕ} (hs : Keeps F a s) :
    KeepsP F a (State.shutAll s r st cause) := by
  delta State.shutAll
  extract_lets +onlyGivenNames -merge -lift -underBinder p1
  have h2 : KeepsP F a p1 := by
    unfold p1
    refine keeps_foldp (fun s3 x4 h5 => ?_) (KeepsP.mk hs)
    refine keepsP_ite (fun _ => KeepsP.mk (KeepsP.proj h5)) (fun _ => ?_)
    extract_lets +onlyGivenNames -merge -lift -underBinder p6
    have h7 : KeepsP F a p6 := by
      unfold p6
      exact keeps_shutQuery (KeepsP.proj h5)
    clear_value p6
    exact KeepsP.mk (KeepsP.proj h7)
  clear_value p1
  exact KeepsP.mk (KeepsP.proj h2)

theorem keeps_failRun {F : List Piece} {a s : State} {r : RRun} {st : Status} {cause : ℕ} (hF : [.hti, .gore, .rcl, .ring, .SHP_CTX_CNT,
    .SEC_CNT, .HTI_W_QFAULT, .HTI_CNT, .GORE_CTX, .GORE_CTX_CNT] ⊆ F) (hs : Keeps F a s) :
    Keeps F a (State.failRun s r st cause) := by
  delta State.failRun
  extract_lets +onlyGivenNames -merge -lift -underBinder p1
  have h2 : KeepsP F a p1 := by
    unfold p1
    exact keeps_shutAll hs
  clear_value p1
  exact keeps_endRun (Piece.sub hF (by decide +kernel)) (KeepsP.proj h2)

theorem keeps_showIndex {F : List Piece} {a s : State} {n : ℕ} (hF : [.RCL_IDX, .RCL_GAUGE] ⊆ F) (hs : Keeps F a s) :
    Keeps F a (State.showIndex s n) := by
  delta State.showIndex
  extract_lets +onlyGivenNames -merge -lift -underBinder v1
  clear_value v1
  extract_lets +onlyGivenNames -merge -lift -underBinder s2
  have h3 : Keeps F a s2 := by
    unfold s2
    exact keeps_wr (keeps_wr hs ⟨rfl, hF (by decide +kernel)⟩) ⟨rfl, hF (by decide +kernel)⟩
  clear_value s2
  extract_lets +onlyGivenNames -merge -lift -underBinder s4
  have h5 : Keeps F a s4 := by
    unfold s4
    exact keeps_wr (keeps_wr h3 ⟨rfl, hF (by decide +kernel)⟩) ⟨rfl, hF (by decide +kernel)⟩
  clear_value s4
  extract_lets +onlyGivenNames -merge -lift -underBinder s6
  have h7 : Keeps F a s6 := by
    unfold s6
    exact keeps_wr (keeps_wr h5 ⟨rfl, hF (by decide +kernel)⟩) ⟨rfl, hF (by decide +kernel)⟩
  clear_value s6
  extract_lets +onlyGivenNames -merge -lift -underBinder s8
  have h9 : Keeps F a s8 := by
    unfold s8
    exact keeps_wr (keeps_wr h7 ⟨rfl, hF (by decide +kernel)⟩) ⟨rfl, hF (by decide +kernel)⟩
  clear_value s8
  extract_lets +onlyGivenNames -merge -lift -underBinder s10
  have h11 : Keeps F a s10 := by
    unfold s10
    exact keeps_wr (keeps_wr h9 ⟨rfl, hF (by decide +kernel)⟩) ⟨rfl, hF (by decide +kernel)⟩
  clear_value s10
  extract_lets +onlyGivenNames -merge -lift -underBinder s12
  have h13 : Keeps F a s12 := by
    unfold s12
    exact keeps_wr (keeps_wr h11 ⟨rfl, hF (by decide +kernel)⟩) ⟨rfl, hF (by decide +kernel)⟩
  clear_value s12
  extract_lets +onlyGivenNames -merge -lift -underBinder s14
  have h15 : Keeps F a s14 := by
    unfold s14
    exact keeps_ite (fun _ => keeps_wr h13 ⟨rfl, hF (by decide +kernel)⟩) (fun _ => h13)
  clear_value s14
  exact keeps_wr (keeps_wr h15 ⟨rfl, hF (by decide +kernel)⟩) ⟨rfl, hF (by decide +kernel)⟩

theorem keeps_setIndex {F : List Piece} {a s : State} {n : ℕ} {ix : RIndex} (hF : [.rcl, .RCL_IDX, .RCL_GAUGE] ⊆ F) (hs : Keeps F a s) :
    Keeps F a (State.setIndex s n ix) := by
  delta State.setIndex
  exact keeps_showIndex (Piece.sub hF (by decide +kernel)) (keeps_setRcl (Piece.sub hF (by decide +kernel)) hs)

theorem keeps_failIndex {F : List Piece} {a s : State} {n obj : ℕ} (hF : [.hti, .gore, .rcl, .ring, .SHP_CTX_CNT, .SEC_CNT, .RCL_IDX, .RCL_GAUGE,
    .HTI_W_QFAULT, .HTI_CNT, .GORE_CTX, .GORE_CTX_CNT] ⊆ F) (hs : Keeps F a s) :
    Keeps F a (State.failIndex s n obj) := by
  delta State.failIndex
  split
  · exact hs
  · refine keeps_ite (fun _ => hs) (fun _ => ?_)
    extract_lets +onlyGivenNames -merge -lift -underBinder s1
    have h2 : Keeps F a s1 := by
      unfold s1
      exact keeps_setIndex (Piece.sub hF (by decide +kernel)) hs
    clear_value s1
    extract_lets +onlyGivenNames -merge -lift -underBinder s3
    have h4 : Keeps F a s3 := by
      unfold s3
      exact keeps_foldl (fun s5 x6 h7 => keeps_failRun (Piece.sub hF (by decide +kernel)) h7) h2
    clear_value s3
    exact keeps_voidPend (Piece.sub hF (by decide +kernel)) (keeps_killItems (Piece.sub hF (by decide +kernel)) h4)

theorem keeps_windowLost {F : List Piece} {a s : State} {obj : ℕ} (hF : [.hti, .gore, .rcl, .ring, .SHP_CTX_CNT, .SEC_CNT, .RCL_IDX, .RCL_GAUGE,
    .HTI_W_QFAULT, .HTI_CNT, .GORE_CTX, .GORE_CTX_CNT] ⊆ F) (hs : Keeps F a s) :
    Keeps F a (State.windowLost s obj) := by
  delta State.windowLost
  extract_lets +onlyGivenNames -merge -lift -underBinder v1
  clear_value v1
  exact keeps_foldl (fun s2 x3 h4 => keeps_ite (fun _ => keeps_failIndex (Piece.sub hF (by decide +kernel)) h4) (fun _ => h4)) hs

theorem keeps_endEnc {F : List Piece} {a s : State} {k : ℕ} (hF : [.gore, .rcl, .GORE_CTX, .GORE_CTX_CNT] ⊆ F) (hs : Keeps F a s) :
    Keeps F a (State.endEnc s k) := by
  delta State.endEnc
  exact keeps_setRcl (Piece.sub hF (by decide +kernel)) (keeps_killItems (Piece.sub hF (by decide +kernel)) hs)

theorem keeps_setHelper {F : List Piece} {a s : State} {n : ℕ} {h : Option HelperSlot} (hF : [.rcl, .RCL_HELPER, .RCL_GAUGE] ⊆ F) (hs : Keeps F a s) :
    Keeps F a (State.setHelper s n h) := by
  delta State.setHelper
  extract_lets +onlyGivenNames -merge -lift -underBinder v1
  clear_value v1
  extract_lets +onlyGivenNames -merge -lift -underBinder s2
  have h3 : Keeps F a s2 := by
    unfold s2
    exact keeps_setRcl (Piece.sub hF (by decide +kernel)) hs
  clear_value s2
  extract_lets +onlyGivenNames -merge -lift -underBinder v4
  clear_value v4
  extract_lets +onlyGivenNames -merge -lift -underBinder s5
  have h6 : Keeps F a s5 := by
    unfold s5
    exact keeps_wr (keeps_wr h3 ⟨rfl, hF (by decide +kernel)⟩) ⟨rfl, hF (by decide +kernel)⟩
  clear_value s5
  extract_lets +onlyGivenNames -merge -lift -underBinder s7
  have h8 : Keeps F a s7 := by
    unfold s7
    exact keeps_wr (keeps_wr h6 ⟨rfl, hF (by decide +kernel)⟩) ⟨rfl, hF (by decide +kernel)⟩
  clear_value s7
  exact keeps_wr h8 ⟨rfl, hF (by decide +kernel)⟩

theorem keeps_mapWritten {F : List Piece} {a s : State} {n : ℕ} (hF : [.ses, .tier, .pool, .TIER_OBJ, .TIER_DRV, .TIER_CNT, .POOL_OBJ, .POOL_CNT,
    .CTL_READY] ⊆ F) (hs : Keeps F a s) :
    Keeps F a (State.mapWritten s n) := by
  delta State.mapWritten
  split
  · exact keeps_sinkIndex (Piece.sub hF (by decide +kernel)) (keeps_writePages (Piece.sub hF (by decide +kernel)) hs)
  · exact hs

theorem keeps_commitNext {F : List Piece} {a s : State} {n : ℕ} (hF : [.hti, .ses, .tier, .pool, .rcl, .ring, .TIER_OBJ, .TIER_DRV, .TIER_CNT,
    .SHP_CTX_CNT, .SEC_CNT, .RCL_IDX, .RCL_GAUGE, .RCL_CTX_CNT, .RCL_CNT, .POOL_OBJ, .POOL_CNT, .HTI_W_QFAULT, .HTI_CNT, .CTL_READY] ⊆ F) (hs :
        Keeps F a s) :
    Keeps F a (State.commitNext s n) := by
  delta State.commitNext
  split
  · exact hs
  · split
    · exact hs
    · extract_lets +onlyGivenNames -merge -lift -underBinder v1 v2 v3 v4 v5
      clear_value v1 v2 v3 v4 v5
      extract_lets +onlyGivenNames -merge -lift -underBinder s6
      have h7 : Keeps F a s6 := by
        unfold s6
        exact keeps_mapWritten (Piece.sub hF (by decide +kernel)) (keeps_writePages (Piece.sub hF (by decide +kernel)) (keeps_setIndex (Piece.sub
            hF (by decide +kernel)) hs))
      clear_value s6
      split
      · exact keeps_finish (Piece.sub hF (by decide +kernel)) (keeps_bump h7 ⟨rfl, hF (by decide +kernel)⟩)
      · extract_lets +onlyGivenNames -merge -lift -underBinder v8
        clear_value v8
        refine keeps_ite (fun _ => ?_) (fun _ => ?_)
        · extract_lets +onlyGivenNames -merge -lift -underBinder v9
          clear_value v9
          exact keeps_finish (Piece.sub hF (by decide +kernel)) (keeps_bump h7 ⟨rfl, hF (by decide +kernel)⟩)
        · extract_lets +onlyGivenNames -merge -lift -underBinder s10
          have h11 : Keeps F a s10 := by
            unfold s10
            exact keeps_bump (keeps_bump h7 ⟨rfl, hF (by decide +kernel)⟩) ⟨rfl, hF (by decide +kernel)⟩
          clear_value s10
          exact keeps_finish (Piece.sub hF (by decide +kernel)) (keeps_bump h11 ⟨rfl, hF (by decide +kernel)⟩)

theorem keeps_setRun {F : List Piece} {a s : State} {r : RRun} (hF : [.rcl] ⊆ F) (hs : Keeps F a s) :
    Keeps F a (State.setRun s r) := by
  delta State.setRun
  exact keeps_setRcl (Piece.sub hF (by decide +kernel)) hs

theorem keeps_freeOld {F : List Piece} {a s : State} {n l : ℕ} (hF : [.ses, .tier, .pool, .rcl, .TIER_OBJ, .RCL_IDX, .RCL_GAUGE, .POOL_OBJ,
    .POOL_CNT, .CTL_READY] ⊆ F) (hs : Keeps F a s) :
    Keeps F a (State.freeOld s n l) := by
  delta State.freeOld
  split
  · exact hs
  · extract_lets +onlyGivenNames -merge -lift -underBinder v1 v2
    clear_value v1 v2
    extract_lets +onlyGivenNames -merge -lift -underBinder s3
    have h4 : Keeps F a s3 := by
      unfold s3
      exact keeps_setIndex (Piece.sub hF (by decide +kernel)) hs
    clear_value s3
    exact keeps_sweepVecs (Piece.sub hF (by decide +kernel)) (keeps_foldl (fun s5 x6 h7 => keeps_emptyPage (Piece.sub hF (by decide +kernel)) h7) h4)

theorem keeps_freeOlds {F : List Piece} {a s : State} (hF : [.ses, .tier, .pool, .rcl, .TIER_OBJ, .RCL_IDX, .RCL_GAUGE, .POOL_OBJ, .POOL_CNT,
    .CTL_READY] ⊆ F) (hs : Keeps F a s) :
    Keeps F a (State.freeOlds s) := by
  delta State.freeOlds
  exact keeps_foldl (fun s1 x2 h3 => keeps_foldl (fun s4 x5 h6 => keeps_freeOld (Piece.sub hF (by decide +kernel)) h6) h3) hs

theorem keeps_loseBlock {F : List Piece} {a s : State} {n page : ℕ} {st : Status} {cause : ℕ} (hF : [.ses, .tier, .gore, .pool, .rcl, .TIER_OBJ,
    .RCL_IDX, .RCL_GAUGE, .RCL_CNT, .POOL_OBJ, .POOL_CNT, .CTL_READY] ⊆ F) (hs : Keeps F a s) :
    Keeps F a (State.loseBlock s n page st cause) := by
  delta State.loseBlock
  split
  · exact hs
  · extract_lets +onlyGivenNames -merge -lift -underBinder v1 v2 v3
    clear_value v1 v2 v3
    extract_lets +onlyGivenNames -merge -lift -underBinder s4
    have h5 : Keeps F a s4 := by
      unfold s4
      exact keeps_emptyPage (Piece.sub hF (by decide +kernel)) (keeps_setIndex (Piece.sub hF (by decide +kernel)) hs)
    clear_value s4
    extract_lets +onlyGivenNames -merge -lift -underBinder s6
    have h7 : Keeps F a s6 := by
      unfold s6
      exact keeps_wr (keeps_bump h5 ⟨rfl, hF (by decide +kernel)⟩) ⟨rfl, hF (by decide +kernel)⟩
    clear_value s6
    extract_lets +onlyGivenNames -merge -lift -underBinder s8
    have h9 : Keeps F a s8 := by
      unfold s8
      exact keeps_mapItems (Piece.sub hF (by decide +kernel)) h7
    clear_value s8
    exact keeps_setRcl (Piece.sub hF (by decide +kernel)) h9

theorem keeps_layerItem {F : List Piece} {a s : State} {c : ℕ} {r : EncRun} (hF : [.gore] ⊆ F) (hs : Keeps F a s) :
    Keeps F a (State.layerItem s c r) := by
  delta State.layerItem
  exact keeps_addItem (Piece.sub hF (by decide +kernel)) hs

theorem keeps_swapList {F : List Piece} {a s : State} {n l : ℕ} (hF : [.ses, .tier, .pool, .rcl, .TIER_OBJ, .TIER_DRV, .TIER_CNT, .RCL_IDX,
    .RCL_GAUGE, .RCL_CNT, .POOL_OBJ, .POOL_CNT, .CTL_READY] ⊆ F) (hs : Keeps F a s) :
    Keeps F a (State.swapList s n l) := by
  delta State.swapList
  split
  · exact hs
  · extract_lets +onlyGivenNames -merge -lift -underBinder v1 v2 v3 v4 v5 v6 v7
    clear_value v1 v2 v3 v4 v5 v6 v7
    extract_lets +onlyGivenNames -merge -lift -underBinder s8
    have h9 : Keeps F a s8 := by
      unfold s8
      exact keeps_mapWritten (Piece.sub hF (by decide +kernel)) (keeps_writePages (Piece.sub hF (by decide +kernel)) (keeps_setIndex (Piece.sub
          hF (by decide +kernel)) hs))
    clear_value s8
    exact keeps_bump (keeps_bump h9 ⟨rfl, hF (by decide +kernel)⟩) ⟨rfl, hF (by decide +kernel)⟩

theorem keeps_indexLost {F : List Piece} {a s : State} {n page : ℕ} {st : Status} {cause : ℕ} (hF : [.hti, .ses, .tier, .gore, .pool, .rcl,
    .ring, .TIER_OBJ, .SHP_CTX_CNT, .SEC_CNT, .RCL_IDX, .RCL_GAUGE, .RCL_CNT, .POOL_OBJ, .POOL_CNT, .HTI_W_QFAULT, .HTI_CNT, .GORE_CTX,
        .GORE_CTX_CNT, .CTL_READY] ⊆ F) (hs : Keeps F a s) :
    Keeps F a (State.indexLost s n page st cause) := by
  delta State.indexLost
  exact keeps_ite (fun _ => keeps_loseBlock (Piece.sub hF (by decide +kernel)) hs) (fun _ => keeps_ite (fun _ => keeps_failIndex (Piece.sub hF
      (by decide +kernel)) hs) (fun _ => hs))

theorem keeps_scanEnd {F : List Piece} {a s : State} {i : Item} (hF : [.ses, .tier, .gore, .pool, .rcl, .TIER_OBJ, .TIER_DRV, .TIER_CNT,
    .RCL_IDX, .RCL_GAUGE, .RCL_CNT, .POOL_OBJ, .POOL_CNT, .GORE_CTX, .GORE_CTX_CNT, .GORE_CNT, .CTL_READY] ⊆ F) (hs : Keeps F a s) :
    Keeps F a (State.scanEnd s i) := by
  delta State.scanEnd
  extract_lets +onlyGivenNames -merge -lift -underBinder s1
  have h2 : Keeps F a s1 := by
    unfold s1
    exact keeps_dropItem (Piece.sub hF (by decide +kernel)) hs
  clear_value s1
  refine keeps_ite (fun _ => ?_) (fun _ => keeps_ite (fun _ => keeps_turn (Piece.sub hF (by decide +kernel)) h2) (fun _ => h2))
  split
  · exact keeps_swapList (Piece.sub hF (by decide +kernel)) h2
  · exact h2

theorem keeps_helperEnd {F : List Piece} {a s : State} {i : Item} (hF : [.hti, .gore, .rcl, .ring, .SHP_CTX_CNT, .SEC_CNT, .RCL_CTX_CNT,
    .HTI_W_QFAULT, .HTI_CNT, .GORE_CTX, .GORE_CTX_CNT, .GORE_CNT] ⊆ F) (hs : Keeps F a s) :
    Keeps F a (State.helperEnd s i) := by
  delta State.helperEnd
  extract_lets +onlyGivenNames -merge -lift -underBinder s1
  have h2 : Keeps F a s1 := by
    unfold s1
    exact keeps_dropItem (Piece.sub hF (by decide +kernel)) hs
  clear_value s1
  split
  · extract_lets +onlyGivenNames -merge -lift -underBinder v3
    clear_value v3
    refine keeps_ite (fun _ => keeps_layerItem (Piece.sub hF (by decide +kernel)) (keeps_setRcl (Piece.sub hF (by decide +kernel)) h2)) (fun _ => ?_)
    extract_lets +onlyGivenNames -merge -lift -underBinder v4 v5 v6 v7 v8
    clear_value v4 v5 v6 v7 v8
    extract_lets +onlyGivenNames -merge -lift -underBinder s9
    have h10 : Keeps F a s9 := by
      unfold s9
      exact keeps_emit h2
    clear_value s9
    extract_lets +onlyGivenNames -merge -lift -underBinder v11
    clear_value v11
    extract_lets +onlyGivenNames -merge -lift -underBinder s12
    have h13 : Keeps F a s12 := by
      unfold s12
      exact Keeps.other h10 (hrcl := .inr (hF (by decide +kernel)))
    clear_value s12
    exact keeps_finish (Piece.sub hF (by decide +kernel)) (keeps_bump h13 ⟨rfl, hF (by decide +kernel)⟩)
  · exact h2

theorem keeps_takeSeq {F : List Piece} {a s : State} {n : ℕ} {ix : RIndex} {p : ℕ → RPend} (hF : [.rcl, .RCL_IDX, .RCL_GAUGE] ⊆ F) (hs : Keeps F
    a s) :
    Keeps F a (State.takeSeq s n ix p) := by
  delta State.takeSeq
  exact keeps_setIndex (Piece.sub hF (by decide +kernel)) hs

theorem keeps_commitAll {F : List Piece} {a s : State} (hF : [.hti, .ses, .tier, .pool, .rcl, .ring, .TIER_OBJ, .TIER_DRV, .TIER_CNT,
    .SHP_CTX_CNT, .SEC_CNT, .RCL_IDX, .RCL_GAUGE, .RCL_CTX_CNT, .RCL_CNT, .POOL_OBJ, .POOL_CNT, .HTI_W_QFAULT, .HTI_CNT, .CTL_READY] ⊆ F) (hs :
        Keeps F a s) :
    Keeps F a (State.commitAll s) := by
  delta State.commitAll
  exact keeps_foldl (fun s1 x2 h3 => keeps_foldl (fun s4 x5 h6 => keeps_commitNext (Piece.sub hF (by decide +kernel)) h6) h3) hs

theorem keeps_formRound {F : List Piece} {a s : State} {r : RRun} {ix : RIndex} (hF : [.ses, .tier, .gore, .rcl, .RCL_CNT] ⊆ F) (hs : Keeps F a s) :
    Keeps F a (State.formRound s r ix) := by
  delta State.formRound
  extract_lets +onlyGivenNames -merge -lift -underBinder v1
  clear_value v1
  extract_lets +onlyGivenNames -merge -lift -underBinder v2
  extract_lets +onlyGivenNames -merge -lift -underBinder v3 v4
  clear_value v3 v4
  extract_lets +onlyGivenNames -merge -lift -underBinder s5
  have h6 : Keeps F a s5 := by
    unfold s5
    exact keeps_foldl (fun s7 x8 h9 => keeps_request (Piece.sub hF (by decide +kernel)) (keeps_addItem (Piece.sub hF (by decide +kernel)) h9)) hs
  clear_value s5
  extract_lets +onlyGivenNames -merge -lift -underBinder s10
  have h11 : Keeps F a s10 := by
    unfold s10
    exact keeps_foldl (fun s12 x13 h14 => keeps_addItem (Piece.sub hF (by decide +kernel)) h14) h6
  clear_value s10
  extract_lets +onlyGivenNames -merge -lift -underBinder s15
  have h16 : Keeps F a s15 := by
    unfold s15
    exact keeps_setRun (Piece.sub hF (by decide +kernel)) h11
  clear_value s15
  extract_lets +onlyGivenNames -merge -lift -underBinder s17
  have h18 : Keeps F a s17 := by
    unfold s17
    exact keeps_bump h16 ⟨rfl, hF (by decide +kernel)⟩
  clear_value s17
  exact keeps_ite (fun _ => keeps_turn (Piece.sub hF (by decide +kernel)) h18) (fun _ => h18)

/-! ### DecOps -/

theorem keeps_ringWrite {F : List Piece} {a s : State} {x0 : Machine.Stream} {r : ℕ × ℕ} (hs : Keeps F a s) :
    KeepsP F a (State.ringWrite s x0 r) := by
  delta State.ringWrite
  extract_lets +onlyGivenNames -merge -lift -underBinder v1
  clear_value v1
  extract_lets +onlyGivenNames -merge -lift -underBinder s2
  have h3 : Keeps F a s2 := by
    unfold s2
    exact keeps_emit hs
  clear_value s2
  extract_lets +onlyGivenNames -merge -lift -underBinder v4
  clear_value v4
  exact KeepsP.mk (keeps_emit h3)

theorem keeps_ringDrain {F : List Piece} {a s : State} {x0 : Machine.Stream} {read : Option ℕ} {x1 : ℕ} (hs : Keeps F a s) :
    KeepsP F a (State.ringDrain s x0 read x1) := by
  induction x1 generalizing s x0 read with
  | zero =>
    rw [State.ringDrain.eq_1]
    exact KeepsP.mk hs
  | succ _ ih =>
    rw [State.ringDrain.eq_2]
    split
    · exact KeepsP.mk hs
    · extract_lets +onlyGivenNames -merge -lift -underBinder v1 v2
      clear_value v1 v2
      refine keepsP_ite (fun _ => ?_) (fun _ => ?_)
      · refine keepsP_ite (fun _ => KeepsP.mk hs) (fun _ => ?_)
        extract_lets +onlyGivenNames -merge -lift -underBinder p3
        have h4 : KeepsP F a p3 := by
          unfold p3
          exact keeps_ringWrite hs
        clear_value p3
        exact ih (KeepsP.proj h4)
      · refine keepsP_ite (fun _ => KeepsP.mk hs) (fun _ => ?_)
        extract_lets +onlyGivenNames -merge -lift -underBinder p5
        have h6 : KeepsP F a p5 := by
          unfold p5
          exact keeps_ringWrite hs
        clear_value p5
        exact ih (KeepsP.proj h6)

theorem keeps_record {F : List Piece} {a s : State} {x0 : Machine.Stream} {read : Option ℕ} {r : ℕ × ℕ} {force : Bool} (hs : Keeps F a s) :
    KeepsP F a (State.record s x0 read r force) := by
  delta State.record
  refine keepsP_ite (fun _ => KeepsP.mk hs) (fun _ => ?_)
  extract_lets +onlyGivenNames -merge -lift -underBinder p1
  have h2 : KeepsP F a p1 := by
    unfold p1
    exact keeps_ringDrain hs
  clear_value p1
  exact keepsP_ite (fun _ => KeepsP.mk (KeepsP.proj h2)) (fun _ => KeepsP.mk (KeepsP.proj h2))

theorem keeps_flushHeld {F : List Piece} {a s : State} {x0 : Machine.Stream} {read : Option ℕ} (hF : [.ses, .DEC_CNT] ⊆ F) (hs : Keeps F a s) :
    KeepsP F a (State.flushHeld s x0 read) := by
  delta State.flushHeld
  refine keepsP_ite (fun _ => KeepsP.mk hs) (fun _ => ?_)
  extract_lets +onlyGivenNames -merge -lift -underBinder s1
  have h2 : Keeps F a s1 := by
    unfold s1
    exact keeps_updSess (Piece.sub hF (by decide +kernel)) hs
  clear_value s1
  extract_lets +onlyGivenNames -merge -lift -underBinder v3
  clear_value v3
  extract_lets +onlyGivenNames -merge -lift -underBinder s4
  have h5 : Keeps F a s4 := by
    unfold s4
    exact keeps_ite (fun _ => keeps_bump h2 ⟨rfl, hF (by decide +kernel)⟩) (fun _ => h2)
  clear_value s4
  extract_lets +onlyGivenNames -merge -lift -underBinder p6
  have h7 : KeepsP F a p6 := by
    unfold p6
    exact keeps_record h5
  clear_value p6
  exact KeepsP.mk (KeepsP.proj h7)

theorem keeps_setStreams {F : List Piece} {a s : State} {l : List Machine.Stream} (hF : [.dec] ⊆ F) (hs : Keeps F a s) :
    Keeps F a (State.setStreams s l) := by
  delta State.setStreams
  exact Keeps.other hs (hdec := .inr (hF (by decide +kernel)))

theorem keeps_updStream {F : List Piece} {a s : State} {h : ℕ} {f : Machine.Stream → Machine.Stream} (hF : [.dec] ⊆ F) (hs : Keeps F a s) :
    Keeps F a (State.updStream s h f) := by
  delta State.updStream
  exact keeps_setStreams (Piece.sub hF (by decide +kernel)) hs

theorem keeps_refreshStreams {F : List Piece} {a s : State} (hF : [.TXT_SLOT, .DEC_GRAM, .DEC_GAUGE] ⊆ F) (hs : Keeps F a s) :
    Keeps F a (State.refreshStreams s) := by
  delta State.refreshStreams
  extract_lets +onlyGivenNames -merge -lift -underBinder s1
  have h2 : Keeps F a s1 := by
    unfold s1
    exact keeps_wr hs ⟨rfl, hF (by decide +kernel)⟩
  clear_value s1
  extract_lets +onlyGivenNames -merge -lift -underBinder s3
  have h4 : Keeps F a s3 := by
    unfold s3
    exact keeps_wr h2 ⟨rfl, hF (by decide +kernel)⟩
  clear_value s3
  extract_lets +onlyGivenNames -merge -lift -underBinder s5
  have h6 : Keeps F a s5 := by
    unfold s5
    exact keeps_wr h4 ⟨rfl, hF (by decide +kernel)⟩
  clear_value s5
  extract_lets +onlyGivenNames -merge -lift -underBinder s7
  have h8 : Keeps F a s7 := by
    unfold s7
    exact keeps_foldl (fun s9 x10 h11 => keeps_wr h11 ⟨rfl, hF (by decide +kernel)⟩) h6
  clear_value s7
  exact keeps_showUsers (Piece.sub hF (by decide +kernel)) h8

theorem keeps_putStream {F : List Piece} {a s : State} {x0 : Machine.Stream} (hF : [.dec] ⊆ F) (hs : Keeps F a s) :
    Keeps F a (State.putStream s x0) := by
  delta State.putStream
  exact keeps_updStream (Piece.sub hF (by decide +kernel)) hs

theorem keeps_endStream {F : List Piece} {a s : State} {h reason k : ℕ} {read : Option ℕ} (hF : [.mbx, .ses, .dec, .TXT_SLOT, .MBX_SUM, .MBX_CNT,
    .HTI_W_MBSTS, .HTI_W_EVT, .HTI_CNT, .DEC_GRAM, .DEC_GAUGE, .DEC_CNT] ⊆ F) (hs : Keeps F a s) :
    Keeps F a (State.endStream s h reason k read) := by
  delta State.endStream
  split
  · exact hs
  · extract_lets +onlyGivenNames -merge -lift -underBinder p1
    have h2 : KeepsP F a p1 := by
      unfold p1
      exact keepsP_ite (fun _ => KeepsP.mk hs) (fun _ => keeps_flushHeld (Piece.sub hF (by decide +kernel)) hs)
    clear_value p1
    extract_lets +onlyGivenNames -merge -lift -underBinder v3
    clear_value v3
    extract_lets +onlyGivenNames -merge -lift -underBinder p4
    have h5 : KeepsP F a p4 := by
      unfold p4
      exact keeps_record (KeepsP.proj h2)
    clear_value p4
    extract_lets +onlyGivenNames -merge -lift -underBinder v6
    clear_value v6
    extract_lets +onlyGivenNames -merge -lift -underBinder s7
    have h8 : Keeps F a s7 := by
      unfold s7
      exact keeps_putStream (Piece.sub hF (by decide +kernel)) (KeepsP.proj h5)
    clear_value s7
    extract_lets +onlyGivenNames -merge -lift -underBinder s9
    have h10 : Keeps F a s9 := by
      unfold s9
      exact keeps_event (Piece.sub hF (by decide +kernel)) h8
    clear_value s9
    extract_lets +onlyGivenNames -merge -lift -underBinder s11
    have h12 : Keeps F a s11 := by
      unfold s11
      split
      · exact keeps_bump h10 ⟨rfl, hF (by decide +kernel)⟩
      · exact h10
    clear_value s11
    exact keeps_refreshStreams (Piece.sub hF (by decide +kernel)) h12

theorem keeps_putTexts {F : List Piece} {a s : State} {h pos : ℕ} {read : Option ℕ} {x0 : ℕ} {x1 : List (List ℕ × ℕ)} (hF : [.dec, .DEC_CNT] ⊆ F)
    (hs : Keeps F a s) :
    KeepsP F a (State.putTexts s h pos read x0 x1) := by
  induction x1 generalizing s h pos read x0 with
  | nil =>
    rw [State.putTexts.eq_1]
    exact KeepsP.mk hs
  | cons _ _ ih =>
    rw [State.putTexts.eq_2]
    split
    · exact KeepsP.mk hs
    · extract_lets +onlyGivenNames -merge -lift -underBinder v1
      clear_value v1
      extract_lets +onlyGivenNames -merge -lift -underBinder p2
      have h3 : KeepsP F a p2 := by
        unfold p2
        exact keeps_record hs
      clear_value p2
      extract_lets +onlyGivenNames -merge -lift -underBinder s4
      have h5 : Keeps F a s4 := by
        unfold s4
        exact keeps_putStream (Piece.sub hF (by decide +kernel)) (KeepsP.proj h3)
      clear_value s4
      exact keepsP_ite (fun _ => ih (keeps_ite (fun _ => keeps_bump h5 ⟨rfl, hF (by decide +kernel)⟩) (fun _ => h5))) (fun _ => KeepsP.mk h5)

theorem keeps_appendSampled {F : List Piece} {a s : State} {h tok : ℕ} {gramEnd : Bool} {read : Option ℕ} (hF : [.mbx, .ses, .tier, .dec, .pool,
    .ring, .TXT_SLOT, .TIER_OBJ, .TIER_DRV, .TIER_CNT, .RING_CNT, .POOL_OBJ, .POOL_CNT, .MTR_LIVE, .MBX_SUM, .MBX_CNT, .HTI_W_MBSTS, .HTI_W_EVT,
        .HTI_CNT, .DEC_GRAM, .DEC_GAUGE, .DEC_CNT, .CTL_READY] ⊆ F) (hs : Keeps F a s) :
    Keeps F a (State.appendSampled s h tok gramEnd read) := by
  delta State.appendSampled
  split
  · exact hs
  · extract_lets +onlyGivenNames -merge -lift -underBinder s1
    have h2 : Keeps F a s1 := by
      unfold s1
      exact keeps_bump hs ⟨rfl, hF (by decide +kernel)⟩
    clear_value s1
    extract_lets +onlyGivenNames -merge -lift -underBinder v3
    clear_value v3
    split
    · exact keeps_spoolAppend (Piece.sub hF (by decide +kernel)) h2
    · split
      · exact keeps_spoolAppend (Piece.sub hF (by decide +kernel)) h2
      · extract_lets +onlyGivenNames -merge -lift -underBinder v4 v5 v6 v7
        clear_value v4 v5 v6 v7
        extract_lets +onlyGivenNames -merge -lift -underBinder s8
        have h9 : Keeps F a s8 := by
          unfold s8
          exact keeps_putStream (Piece.sub hF (by decide +kernel)) h2
        clear_value s8
        extract_lets +onlyGivenNames -merge -lift -underBinder s10
        have h11 : Keeps F a s10 := by
          unfold s10
          exact keeps_updSess (Piece.sub hF (by decide +kernel)) (keeps_spoolAppend (Piece.sub hF (by decide +kernel)) h9)
        clear_value s10
        extract_lets +onlyGivenNames -merge -lift -underBinder s12
        have h13 : Keeps F a s12 := by
          unfold s12
          exact keeps_bump h11 ⟨rfl, hF (by decide +kernel)⟩
        clear_value s12
        extract_lets +onlyGivenNames -merge -lift -underBinder p14
        have h15 : KeepsP F a p14 := by
          unfold p14
          exact keeps_putTexts (Piece.sub hF (by decide +kernel)) h13
        clear_value p14
        refine keeps_ite (fun _ => keeps_endStream (Piece.sub hF (by decide +kernel)) (KeepsP.proj h15)) (fun _ => ?_)
        split
        · exact keeps_endStream (Piece.sub hF (by decide +kernel)) (KeepsP.proj h15)
        · exact keeps_refreshStreams (Piece.sub hF (by decide +kernel)) (KeepsP.proj h15)

theorem keeps_endOpen {F : List Piece} {a s : State} {h reason : ℕ} {read : Option ℕ} (hF : [.mbx, .ses, .dec, .TXT_SLOT, .MBX_SUM, .MBX_CNT,
    .HTI_W_MBSTS, .HTI_W_EVT, .HTI_CNT, .DEC_GRAM, .DEC_GAUGE, .DEC_CNT] ⊆ F) (hs : Keeps F a s) :
    Keeps F a (State.endOpen s h reason read) := by
  delta State.endOpen
  split
  · exact keeps_ite (fun _ => hs) (fun _ => keeps_endStream (Piece.sub hF (by decide +kernel)) hs)
  · exact hs

theorem keeps_freeStream {F : List Piece} {a s : State} {h : ℕ} (hF : [.dec, .TXT_SLOT, .DEC_GRAM, .DEC_GAUGE] ⊆ F) (hs : Keeps F a s) :
    Keeps F a (State.freeStream s h) := by
  delta State.freeStream
  exact keeps_refreshStreams (Piece.sub hF (by decide +kernel)) (keeps_setStreams (Piece.sub hF (by decide +kernel)) hs)

/-! ### TetherOps -/

theorem keeps_flushGone {F : List Piece} {a s : State} (hF : [.hti, .ses, .tier, .pool, .ring, .TIER_OBJ, .TIER_CNT, .SHP_CTX_CNT, .SEC_CNT,
    .POOL_OBJ, .POOL_CNT, .HTI_W_QFAULT, .HTI_CNT, .CTL_READY] ⊆ F) (hs : Keeps F a s) :
    Keeps F a (State.flushGone s) := by
  delta State.flushGone
  refine keeps_foldl (fun s1 x2 h3 => ?_) hs
  extract_lets +onlyGivenNames -merge -lift -underBinder v4
  extract_lets +onlyGivenNames -merge -lift -underBinder v5
  refine keeps_ite (fun _ => h3) (fun _ => ?_)
  extract_lets +onlyGivenNames -merge -lift -underBinder v6
  extract_lets +onlyGivenNames -merge -lift -underBinder v7
  extract_lets +onlyGivenNames -merge -lift -underBinder s8
  have h9 : Keeps F a s8 := by
    unfold s8
    exact Keeps.other h3 (htier := .inr (hF (by decide +kernel)))
  clear_value s8
  exact keeps_ite (fun _ => keeps_endFlush (Piece.sub hF (by decide +kernel)) h9) (fun _ => h9)

theorem keeps_evacDeflate {F : List Piece} {a s : State} {h : ℕ} (hF : [.hti, .ses, .tier, .fleet, .pool, .ring, .TIER_OBJ, .TIER_CNT,
    .SHP_CTX_CNT, .SEC_CNT, .POOL_OBJ, .POOL_CNT, .HTI_W_QFAULT, .HTI_CNT, .CTL_SES, .CTL_READY] ⊆ F) (hs : Keeps F a s) :
    Keeps F a (State.evacDeflate s h) := by
  delta State.evacDeflate
  exact keeps_flushGone (Piece.sub hF (by decide +kernel)) (keeps_tickFree (keeps_deflate (Piece.sub hF (by decide +kernel)) hs))

theorem keeps_showEvac {F : List Piece} {a s : State} {step : ℕ} (hF : [.RING_EVAC] ⊆ F) (hs : Keeps F a s) :
    Keeps F a (State.showEvac s step) := by
  delta State.showEvac
  exact keeps_wr (keeps_wr hs ⟨rfl, hF (by decide +kernel)⟩) ⟨rfl, hF (by decide +kernel)⟩

theorem keeps_updEvac {F : List Piece} {a s : State} {f : EvacRun → EvacRun} (hF : [.fab] ⊆ F) (hs : Keeps F a s) :
    Keeps F a (State.updEvac s f) := by
  delta State.updEvac
  exact Keeps.other hs (hfab := .inr (hF (by decide +kernel)))

theorem keeps_shipped {F : List Piece} {a s : State} {h epoch owner : ℕ} {read : Option ℕ} (hF : [.hti, .mbx, .ses, .tier, .fab, .fleet, .dec,
    .pool, .ring, .TXT_SLOT, .TIER_OBJ, .SHP_CTX_CNT, .SEC_CNT, .POOL_OBJ, .POOL_CNT, .MBX_SUM, .MBX_CNT, .HTI_W_QFAULT, .HTI_W_MBSTS,
        .HTI_W_EVT, .HTI_CNT, .GORE_SHAPE, .DEC_GRAM, .DEC_GAUGE, .DEC_CNT, .CTL_SES, .CTL_SES_CNT, .CTL_READY] ⊆ F) (hs : Keeps F a s) :
    Keeps F a (State.shipped s h epoch owner read) := by
  delta State.shipped
  split
  · exact hs
  · split
    · exact hs
    · extract_lets +onlyGivenNames -merge -lift -underBinder s1
      have h2 : Keeps F a s1 := by
        unfold s1
        exact keeps_bump (keeps_freeStream (Piece.sub hF (by decide +kernel)) (keeps_endOpen (Piece.sub hF (by decide +kernel)) hs)) ⟨rfl, hF
            (by decide +kernel)⟩
      clear_value s1
      extract_lets +onlyGivenNames -merge -lift -underBinder s3
      have h4 : Keeps F a s3 := by
        unfold s3
        exact keeps_ite (fun _ => keeps_updEvac (Piece.sub hF (by decide +kernel)) h2) (fun _ => h2)
      clear_value s3
      exact keeps_shipDone (Piece.sub hF (by decide +kernel)) (keeps_dropCopy (Piece.sub hF (by decide +kernel)) h4)

theorem keeps_shipFail {F : List Piece} {a s : State} {h : ℕ} {st : Status} {cause : ℕ} (hF : [.hti, .mbx, .ses, .tier, .fleet, .pool, .ring,
    .TIER_OBJ, .SHP_CTX_CNT, .SEC_CNT, .POOL_OBJ, .POOL_CNT, .MBX_SUM, .MBX_CNT, .HTI_W_QFAULT, .HTI_W_MBSTS, .HTI_W_EVT, .HTI_CNT, .CTL_SES,
        .CTL_SES_CNT, .CTL_READY] ⊆ F) (hs : Keeps F a s) :
    Keeps F a (State.shipFail s h st cause) := by
  delta State.shipFail
  split
  · exact hs
  · split
    · exact hs
    · exact keeps_shipDone (Piece.sub hF (by decide +kernel)) (keeps_shipReturn (Piece.sub hF (by decide +kernel)) hs)

theorem keeps_shipAbort {F : List Piece} {a s : State} {h : ℕ} {st : Status} {cause : ℕ} (hF : [.hti, .mbx, .ses, .tier, .fleet, .pool, .ring,
    .TIER_OBJ, .SHP_CTX_CNT, .SEC_CNT, .RING_CNT, .POOL_OBJ, .POOL_CNT, .MBX_SUM, .MBX_CNT, .HTI_W_QFAULT, .HTI_W_MBSTS, .HTI_W_EVT, .HTI_CNT,
        .CTL_SES, .CTL_SES_CNT, .CTL_READY] ⊆ F) (hs : Keeps F a s) :
    Keeps F a (State.shipAbort s h st cause) := by
  delta State.shipAbort
  split
  · exact hs
  · split
    · exact hs
    · exact keeps_shipFail (Piece.sub hF (by decide +kernel)) (keeps_send (Piece.sub hF (by decide +kernel)) hs)

theorem keeps_shipTorn {F : List Piece} {a s : State} {x0 : Session} {t : Xfer} {key kind half point : ℕ} (hF : [.hti, .mbx, .ses, .tier, .fleet,
    .pool, .ring, .TIER_OBJ, .SHP_CTX_CNT, .SEC_CNT, .POOL_OBJ, .POOL_CNT, .MBX_SUM, .MBX_CNT, .HTI_W_QFAULT, .HTI_W_MBSTS, .HTI_W_FLT,
        .HTI_W_EVT, .HTI_CNT, .GORE_TILE, .GORE_TILE_CNT, .CTL_SES, .CTL_SES_CNT, .CTL_READY] ⊆ F) (hs : Keeps F a s) :
    Keeps F a (State.shipTorn s x0 t key kind half point) := by
  delta State.shipTorn
  extract_lets +onlyGivenNames -merge -lift -underBinder v1
  clear_value v1
  extract_lets +onlyGivenNames -merge -lift -underBinder s2
  have h3 : Keeps F a s2 := by
    unfold s2
    exact keeps_shipReturn (Piece.sub hF (by decide +kernel)) hs
  clear_value s2
  extract_lets +onlyGivenNames -merge -lift -underBinder s4
  have h5 : Keeps F a s4 := by
    unfold s4
    exact keeps_tornFound (Piece.sub hF (by decide +kernel)) h3
  clear_value s4
  exact keeps_shipDone (Piece.sub hF (by decide +kernel)) h5

theorem keeps_sendTorn {F : List Piece} {a s : State} {x0 : Session} {t : Xfer} {key kind half point : ℕ} (hF : [.hti, .mbx, .ses, .tier, .fleet,
    .pool, .ring, .TIER_OBJ, .SHP_CTX_CNT, .SEC_CNT, .RING_CNT, .POOL_OBJ, .POOL_CNT, .MBX_SUM, .MBX_CNT, .HTI_W_QFAULT, .HTI_W_MBSTS,
        .HTI_W_FLT, .HTI_W_EVT, .HTI_CNT, .GORE_TILE, .GORE_TILE_CNT, .CTL_SES, .CTL_SES_CNT, .CTL_READY] ⊆ F) (hs : Keeps F a s) :
    Keeps F a (State.sendTorn s x0 t key kind half point) := by
  delta State.sendTorn
  exact keeps_shipTorn (Piece.sub hF (by decide +kernel)) (keeps_send (Piece.sub hF (by decide +kernel)) hs)

theorem keeps_resend {F : List Piece} {a s : State} {x0 : Session} (hF : [.ses, .ring, .RING_CNT] ⊆ F) (hs : Keeps F a s) :
    Keeps F a (State.resend s x0) := by
  delta State.resend
  exact keeps_sendSpool (Piece.sub hF (by decide +kernel)) (keeps_setSess (Piece.sub hF (by decide +kernel)) hs)

theorem keeps_arrive {F : List Piece} {a s : State} {h epoch : ℕ} (hF : [.mbx, .ses, .tier, .fleet, .pool, .ring, .TIER_OBJ, .RING_CNT,
    .POOL_OBJ, .POOL_CNT, .MBX_SUM, .MBX_CNT, .HTI_W_MBSTS, .HTI_W_EVT, .HTI_CNT, .GORE_SHAPE, .CTL_SES, .CTL_SES_CNT, .CTL_READY, .CTL_ADM_CNT]
        ⊆ F) (hs : Keeps F a s) :
    Keeps F a (State.arrive s h epoch) := by
  delta State.arrive
  split
  · exact hs
  · split
    · exact hs
    · extract_lets +onlyGivenNames -merge -lift -underBinder v1 v2
      clear_value v1 v2
      extract_lets +onlyGivenNames -merge -lift -underBinder s3
      have h4 : Keeps F a s3 := by
        unfold s3
        exact keeps_updSess (Piece.sub hF (by decide +kernel)) hs
      clear_value s3
      extract_lets +onlyGivenNames -merge -lift -underBinder s5
      have h6 : Keeps F a s5 := by
        unfold s5
        exact keeps_bump h4 ⟨rfl, hF (by decide +kernel)⟩
      clear_value s5
      extract_lets +onlyGivenNames -merge -lift -underBinder s7
      have h8 : Keeps F a s7 := by
        unfold s7
        exact keeps_dropLost (Piece.sub hF (by decide +kernel)) (keeps_enter (Piece.sub hF (by decide +kernel)) h6)
      clear_value s7
      extract_lets +onlyGivenNames -merge -lift -underBinder s9
      have h10 : Keeps F a s9 := by
        unfold s9
        exact keeps_ite (fun _ => keeps_startRebuild (Piece.sub hF (by decide +kernel)) (keeps_updSess (Piece.sub hF (by decide +kernel)) h8))
            (fun _ => h8)
      clear_value s9
      extract_lets +onlyGivenNames -merge -lift -underBinder v11
      clear_value v11
      extract_lets +onlyGivenNames -merge -lift -underBinder s12
      have h13 : Keeps F a s12 := by
        unfold s12
        exact keeps_refreshShape (Piece.sub hF (by decide +kernel)) (keeps_event (Piece.sub hF (by decide +kernel)) h10)
      clear_value s12
      extract_lets +onlyGivenNames -merge -lift -underBinder s14
      have h15 : Keeps F a s14 := by
        unfold s14
        exact keeps_ite (fun _ => keeps_admitInter (Piece.sub hF (by decide +kernel)) h13) (fun _ => h13)
      clear_value s14
      split
      · exact keeps_ite (fun _ => keeps_resend (Piece.sub hF (by decide +kernel)) h15) (fun _ => h15)
      · exact h15

theorem keeps_sendNote {F : List Piece} {a s : State} {x0 : Session} {dst : ℕ} (hF : [.ring, .RING_CNT] ⊆ F) (hs : Keeps F a s) :
    Keeps F a (State.sendNote s x0 dst) := by
  delta State.sendNote
  exact keeps_send (Piece.sub hF (by decide +kernel)) hs

theorem keeps_newMirror {F : List Piece} {a s : State} {x0 : Session} (hF : [.hti, .mbx, .ses, .tier, .gore, .attn, .dec, .ring, .TIER_RSV,
    .SHP_CTX_CNT, .SEC_CNT, .RING_CNT, .MBX_SUM, .MBX_CNT, .HTI_W_QFAULT, .HTI_W_MBSTS, .HTI_W_EVT, .HTI_CNT, .GORE_TILE_CNT, .GORE_ATTN_CNT,
        .CTL_SES_CNT] ⊆ F) (hs : Keeps F a s) :
    Keeps F a (State.newMirror s x0) := by
  delta State.newMirror
  split
  · exact keeps_setSess (Piece.sub hF (by decide +kernel)) hs
  · extract_lets +onlyGivenNames -merge -lift -underBinder v1
    clear_value v1
    extract_lets +onlyGivenNames -merge -lift -underBinder s2
    have h3 : Keeps F a s2 := by
      unfold s2
      exact keeps_setSess (Piece.sub hF (by decide +kernel)) hs
    clear_value s2
    extract_lets +onlyGivenNames -merge -lift -underBinder s4
    have h5 : Keeps F a s4 := by
      unfold s4
      exact keeps_send (Piece.sub hF (by decide +kernel)) (keeps_sendNote (Piece.sub hF (by decide +kernel)) h3)
    clear_value s4
    extract_lets +onlyGivenNames -merge -lift -underBinder s6
    have h7 : Keeps F a s6 := by
      unfold s6
      exact keeps_ite (fun _ => keeps_resend (Piece.sub hF (by decide +kernel)) (keeps_ackUpTo (Piece.sub hF (by decide +kernel)) h5)) (fun _ =>
          keeps_ite (fun _ => keeps_sendNote (Piece.sub hF (by decide +kernel)) h5) (fun _ => h5))
    clear_value s6
    exact keeps_ite (fun _ => h7) (fun _ => keeps_event (Piece.sub hF (by decide +kernel)) (keeps_bump h7 ⟨rfl, hF (by decide +kernel)⟩))

theorem keeps_sendAcks {F : List Piece} {a s : State} {h epoch owner sender : ℕ} (hF : [.ring, .RING_CNT] ⊆ F) (hs : Keeps F a s) :
    Keeps F a (State.sendAcks s h epoch owner sender) := by
  delta State.sendAcks
  extract_lets +onlyGivenNames -merge -lift -underBinder s1
  have h2 : Keeps F a s1 := by
    unfold s1
    exact keeps_send (Piece.sub hF (by decide +kernel)) hs
  clear_value s1
  exact keeps_ite (fun _ => h2) (fun _ => keeps_send (Piece.sub hF (by decide +kernel)) h2)

theorem keeps_orphanGo {F : List Piece} {a s : State} {h : ℕ} (hF : [.mbx, .ses, .fleet, .MBX_SUM, .MBX_CNT, .HTI_W_MBSTS, .HTI_W_EVT, .HTI_CNT,
    .CTL_SES, .CTL_SES_CNT] ⊆ F) (hs : Keeps F a s) :
    Keeps F a (State.orphanGo s h) := by
  delta State.orphanGo
  split
  · exact hs
  · extract_lets +onlyGivenNames -merge -lift -underBinder s1
    have h2 : Keeps F a s1 := by
      unfold s1
      exact keeps_updSess (Piece.sub hF (by decide +kernel)) hs
    clear_value s1
    extract_lets +onlyGivenNames -merge -lift -underBinder s3
    have h4 : Keeps F a s3 := by
      unfold s3
      exact keeps_startRebuild (Piece.sub hF (by decide +kernel)) (keeps_enter (Piece.sub hF (by decide +kernel)) h2)
    clear_value s3
    extract_lets +onlyGivenNames -merge -lift -underBinder s5
    have h6 : Keeps F a s5 := by
      unfold s5
      exact keeps_bump h4 ⟨rfl, hF (by decide +kernel)⟩
    clear_value s5
    exact keeps_event (Piece.sub hF (by decide +kernel)) h6

theorem keeps_orphanGather {F : List Piece} {a s : State} {h : ℕ} (hF : [.mbx, .ses, .tier, .fleet, .pool, .ring, .TIER_OBJ, .RING_CNT,
    .POOL_OBJ, .POOL_CNT, .MBX_SUM, .MBX_CNT, .HTI_W_MBSTS, .HTI_W_EVT, .HTI_CNT, .CTL_SES, .CTL_SES_CNT, .CTL_READY] ⊆ F) (hs : Keeps F a s) :
    Keeps F a (State.orphanGather s h) := by
  delta State.orphanGather
  split
  · exact hs
  · refine keeps_ite (fun _ => keeps_orphanGo (Piece.sub hF (by decide +kernel)) hs) (fun _ => ?_)
    split
    · exact keeps_send (Piece.sub hF (by decide +kernel)) (keeps_setSess (Piece.sub hF (by decide +kernel)) hs)
    · exact keeps_failSess (Piece.sub hF (by decide +kernel)) hs

theorem keeps_commitProp {F : List Piece} {a s : State} {h : ℕ} (hF : [.hti, .mbx, .ses, .tier, .gore, .attn, .fleet, .dec, .pool, .ring,
    .TIER_RSV, .TIER_OBJ, .SHP_CTX_CNT, .SEC_CNT, .RING_CNT, .POOL_OBJ, .POOL_CNT, .MBX_SUM, .MBX_CNT, .HTI_W_QFAULT, .HTI_W_MBSTS, .HTI_W_EVT,
        .HTI_CNT, .GORE_TILE_CNT, .GORE_ATTN_CNT, .CTL_SES, .CTL_SES_CNT, .CTL_READY] ⊆ F) (hs : Keeps F a s) :
    Keeps F a (State.commitProp s h) := by
  delta State.commitProp
  split
  · exact hs
  · split
    · exact hs
    · refine keeps_ite (fun _ => hs) (fun _ => ?_)
      refine keeps_ite (fun _ => keeps_orphanGather (Piece.sub hF (by decide +kernel)) (keeps_setSess (Piece.sub hF (by decide +kernel)) hs))
          (fun _ => ?_)
      extract_lets +onlyGivenNames -merge -lift -underBinder v1
      clear_value v1
      extract_lets +onlyGivenNames -merge -lift -underBinder s2
      have h3 : Keeps F a s2 := by
        unfold s2
        exact keeps_ite (fun _ => hs) (fun _ => keeps_foldl (fun s4 x5 h6 => keeps_emptyPage (Piece.sub hF (by decide +kernel)) h6) hs)
      clear_value s2
      extract_lets +onlyGivenNames -merge -lift -underBinder s7
      have h8 : Keeps F a s7 := by
        unfold s7
        exact keeps_updSess (Piece.sub hF (by decide +kernel)) h3
      clear_value s7
      extract_lets +onlyGivenNames -merge -lift -underBinder s9
      have h10 : Keeps F a s9 := by
        unfold s9
        exact keeps_sendAcks (Piece.sub hF (by decide +kernel)) h8
      clear_value s9
      split
      · exact keeps_ite (fun _ => keeps_newMirror (Piece.sub hF (by decide +kernel)) h10) (fun _ => h10)
      · exact h10

theorem keeps_propose {F : List Piece} {a s : State} {h sender receiver : ℕ} (hF : [.hti, .mbx, .ses, .tier, .gore, .attn, .fleet, .dec, .pool,
    .ring, .TIER_RSV, .TIER_OBJ, .SHP_CTX_CNT, .SEC_CNT, .RING_CNT, .POOL_OBJ, .POOL_CNT, .MBX_SUM, .MBX_CNT, .HTI_W_QFAULT, .HTI_W_MBSTS,
        .HTI_W_EVT, .HTI_CNT, .GORE_TILE_CNT, .GORE_ATTN_CNT, .CTL_SES, .CTL_SES_CNT, .CTL_READY] ⊆ F) (hs : Keeps F a s) :
    Keeps F a (State.propose s h sender receiver) := by
  delta State.propose
  split
  · exact hs
  · extract_lets +onlyGivenNames -merge -lift -underBinder s1
    have h2 : Keeps F a s1 := by
      unfold s1
      exact keeps_setSess (Piece.sub hF (by decide +kernel)) hs
    clear_value s1
    exact keeps_ite (fun _ => keeps_send (Piece.sub hF (by decide +kernel)) h2) (fun _ => keeps_commitProp (Piece.sub hF (by decide +kernel)) h2)

theorem keeps_shipTaken {F : List Piece} {a s : State} {h epoch owner : ℕ} (hF : [.hti, .mbx, .ses, .tier, .fleet, .dec, .pool, .ring, .TXT_SLOT,
    .TIER_OBJ, .SHP_CTX_CNT, .SEC_CNT, .POOL_OBJ, .POOL_CNT, .MBX_SUM, .MBX_CNT, .HTI_W_QFAULT, .HTI_W_MBSTS, .HTI_W_EVT, .HTI_CNT, .GORE_SHAPE,
        .DEC_GRAM, .DEC_GAUGE, .CTL_SES, .CTL_READY] ⊆ F) (hs : Keeps F a s) :
    Keeps F a (State.shipTaken s h epoch owner) := by
  delta State.shipTaken
  split
  · exact hs
  · split
    · exact hs
    · exact keeps_shipDone (Piece.sub hF (by decide +kernel)) (keeps_dropCopy (Piece.sub hF (by decide +kernel)) (keeps_freeStream (Piece.sub hF
          (by decide +kernel)) hs))

theorem keeps_sendCommitReq {F : List Piece} {a s : State} {h : ℕ} {t : Xfer} (hF : [.ring, .RING_CNT] ⊆ F) (hs : Keeps F a s) :
    Keeps F a (State.sendCommitReq s h t) := by
  delta State.sendCommitReq
  exact keeps_send (Piece.sub hF (by decide +kernel)) hs

theorem keeps_placeTile {F : List Piece} {a s : State} {x0 : Session} {key : ℕ} {q : Tile} (hF : [.ses, .tier] ⊆ F) (hs : Keeps F a s) :
    Keeps F a (State.placeTile s x0 key q) := by
  delta State.placeTile
  extract_lets +onlyGivenNames -merge -lift -underBinder v1
  clear_value v1
  refine keeps_ite (fun _ => ?_) (fun _ => ?_)
  · extract_lets +onlyGivenNames -merge -lift -underBinder v2
    clear_value v2
    extract_lets +onlyGivenNames -merge -lift -underBinder s3
    have h4 : Keeps F a s3 := by
      unfold s3
      exact keeps_setSess (Piece.sub hF (by decide +kernel)) hs
    clear_value s3
    exact keeps_writePage (Piece.sub hF (by decide +kernel)) (keeps_writeStream (Piece.sub hF (by decide +kernel)) h4)
  · extract_lets +onlyGivenNames -merge -lift -underBinder s5
    have h6 : Keeps F a s5 := by
      unfold s5
      exact keeps_setSess (Piece.sub hF (by decide +kernel)) hs
    clear_value s5
    exact keeps_writeOpen (Piece.sub hF (by decide +kernel)) h6

theorem keeps_sendOffer {F : List Piece} {a s : State} {x0 : Session} {t : Xfer} {park : Bool} (hF : [.ring, .RING_CNT] ⊆ F) (hs : Keeps F a s) :
    Keeps F a (State.sendOffer s x0 t park) := by
  delta State.sendOffer
  exact keeps_send (Piece.sub hF (by decide +kernel)) hs

theorem keeps_startShip {F : List Piece} {a s : State} {h peer key cmd : ℕ} {park evac : Bool} (hF : [.ses, .fleet, .ring, .RING_CNT, .CTL_SES] ⊆
    F) (hs : Keeps F a s) :
    Keeps F a (State.startShip s h peer key cmd park evac) := by
  delta State.startShip
  split
  · exact hs
  · extract_lets +onlyGivenNames -merge -lift -underBinder v1 v2
    clear_value v1 v2
    exact keeps_sendOffer (Piece.sub hF (by decide +kernel)) (keeps_enter (Piece.sub hF (by decide +kernel)) (keeps_setSess (Piece.sub hF
        (by decide +kernel)) hs))

theorem keeps_evacShip {F : List Piece} {a s : State} {e : EvacRun} {x0 : Session} (hF : [.hti, .ses, .tier, .fleet, .pool, .ring, .TIER_OBJ,
    .TIER_CNT, .SHP_CTX_CNT, .SEC_CNT, .RING_CNT, .POOL_OBJ, .POOL_CNT, .HTI_W_QFAULT, .HTI_CNT, .CTL_SES, .CTL_READY] ⊆ F) (hs : Keeps F a s) :
    Keeps F a (State.evacShip s e x0) := by
  delta State.evacShip
  split
  · exact hs
  · extract_lets +onlyGivenNames -merge -lift -underBinder s1
    have h2 : Keeps F a s1 := by
      unfold s1
      exact keeps_ite (fun _ => keeps_evacDeflate (Piece.sub hF (by decide +kernel)) hs) (fun _ => hs)
    clear_value s1
    exact keeps_startShip (Piece.sub hF (by decide +kernel)) h2

theorem keeps_pump {F : List Piece} {a s : State} (hF : [.hti, .ses, .tier, .fleet, .pool, .ring, .TIER_OBJ, .TIER_CNT, .SHP_CTX_CNT, .SEC_CNT,
    .RING_EVAC, .RING_CNT, .POOL_OBJ, .POOL_CNT, .HTI_W_QFAULT, .HTI_CNT, .CTL_SES, .CTL_READY] ⊆ F) (hs : Keeps F a s) :
    Keeps F a (State.pump s) := by
  delta State.pump
  split
  · exact hs
  · extract_lets +onlyGivenNames -merge -lift -underBinder s1
    have h2 : Keeps F a s1 := by
      unfold s1
      exact keeps_showEvac (Piece.sub hF (by decide +kernel)) hs
    clear_value s1
    refine keeps_ite (fun _ => h2) (fun _ => ?_)
    extract_lets +onlyGivenNames -merge -lift -underBinder v3 v4
    clear_value v3 v4
    exact keeps_foldl (fun s5 x6 h7 => keeps_evacShip (Piece.sub hF (by decide +kernel)) h7) h2

theorem keeps_sendSpoolFrame {F : List Piece} {a s : State} {x0 : Session} {t : Xfer} (hF : [.ring, .RING_CNT] ⊆ F) (hs : Keeps F a s) :
    Keeps F a (State.sendSpoolFrame s x0 t) := by
  delta State.sendSpoolFrame
  exact keeps_send (Piece.sub hF (by decide +kernel)) hs

theorem keeps_updXfer {F : List Piece} {a s : State} {h : ℕ} {f : Xfer → Xfer} (hF : [.ses] ⊆ F) (hs : Keeps F a s) :
    Keeps F a (State.updXfer s h f) := by
  delta State.updXfer
  exact keeps_updSess (Piece.sub hF (by decide +kernel)) hs

theorem keeps_sendTile {F : List Piece} {a s : State} {x0 : Session} {t : Xfer} {i : ℕ} (hF : [.ring, .RING_CNT] ⊆ F) (hs : Keeps F a s) :
    Keeps F a (State.sendTile s x0 t i) := by
  delta State.sendTile
  split
  · split
    · extract_lets +onlyGivenNames -merge -lift -underBinder v1
      clear_value v1
      exact keeps_send (Piece.sub hF (by decide +kernel)) hs
    · exact hs
  · exact hs

theorem keeps_shipGo {F : List Piece} {a s : State} {h : ℕ} (hF : [.ses, .ring, .RING_CNT] ⊆ F) (hs : Keeps F a s) :
    Keeps F a (State.shipGo s h) := by
  delta State.shipGo
  split
  · exact hs
  · split
    · exact hs
    · refine keeps_ite (fun _ => ?_) (fun _ => hs)
      extract_lets +onlyGivenNames -merge -lift -underBinder s1
      have h2 : Keeps F a s1 := by
        unfold s1
        exact keeps_foldl (fun s3 x4 h5 => keeps_sendTile (Piece.sub hF (by decide +kernel)) h5) hs
      clear_value s1
      exact keeps_updXfer (Piece.sub hF (by decide +kernel)) (keeps_sendSpoolFrame (Piece.sub hF (by decide +kernel)) h2)

theorem keeps_sendNaks {F : List Piece} {a s : State} {x0 : Session} {epoch sender receiver : ℕ} (hF : [.ring, .RING_CNT, .CTL_SES_CNT] ⊆ F) (hs
    : Keeps F a s) :
    Keeps F a (State.sendNaks s x0 epoch sender receiver) := by
  delta State.sendNaks
  extract_lets +onlyGivenNames -merge -lift -underBinder s1
  have h2 : Keeps F a s1 := by
    unfold s1
    exact keeps_bump hs ⟨rfl, hF (by decide +kernel)⟩
  clear_value s1
  extract_lets +onlyGivenNames -merge -lift -underBinder v3
  clear_value v3
  exact keeps_send (Piece.sub hF (by decide +kernel)) (keeps_send (Piece.sub hF (by decide +kernel)) h2)

theorem keeps_takeDesc {F : List Piece} {a s : State} {h shape : ℕ} (hF : [.ses, .CTL_SES] ⊆ F) (hs : Keeps F a s) :
    Keeps F a (State.takeDesc s h shape) := by
  delta State.takeDesc
  refine keeps_ite (fun _ => hs) (fun _ => ?_)
  split
  · exact hs
  · exact keeps_refreshGauge (Piece.sub hF (by decide +kernel)) (keeps_putSess (Piece.sub hF (by decide +kernel)) (keeps_tickFree hs))

theorem keeps_checkAll {F : List Piece} {a s : State} {h : ℕ} (hF : [.ses, .ring, .RING_CNT] ⊆ F) (hs : Keeps F a s) :
    Keeps F a (State.checkAll s h) := by
  delta State.checkAll
  split
  · exact hs
  · split
    · exact hs
    · exact keeps_ite (fun _ => keeps_sendCommitReq (Piece.sub hF (by decide +kernel)) (keeps_updXfer (Piece.sub hF (by decide +kernel)) hs))
          (fun _ => hs)

theorem keeps_orphan {F : List Piece} {a s : State} {h : ℕ} (hF : [.hti, .mbx, .ses, .tier, .gore, .attn, .fleet, .dec, .pool, .ring, .TIER_RSV,
    .TIER_OBJ, .SHP_CTX_CNT, .SEC_CNT, .RING_CNT, .POOL_OBJ, .POOL_CNT, .MBX_SUM, .MBX_CNT, .HTI_W_QFAULT, .HTI_W_MBSTS, .HTI_W_EVT, .HTI_CNT,
        .GORE_TILE_CNT, .GORE_ATTN_CNT, .CTL_SES, .CTL_SES_CNT, .CTL_READY] ⊆ F) (hs : Keeps F a s) :
    Keeps F a (State.orphan s h) := by
  delta State.orphan
  split
  · exact hs
  · refine keeps_ite (fun _ => hs) (fun _ => ?_)
    extract_lets +onlyGivenNames -merge -lift -underBinder v1
    clear_value v1
    extract_lets +onlyGivenNames -merge -lift -underBinder s2
    have h3 : Keeps F a s2 := by
      unfold s2
      exact keeps_enter (Piece.sub hF (by decide +kernel)) (keeps_updSess (Piece.sub hF (by decide +kernel)) hs)
    clear_value s2
    exact keeps_ite (fun _ => keeps_failSess (Piece.sub hF (by decide +kernel)) h3) (fun _ => keeps_propose (Piece.sub hF (by decide +kernel)) h3)

theorem keeps_reconcile {F : List Piece} {a s : State} {h epoch owner : ℕ} {present : Bool} (hF : [.hti, .mbx, .ses, .tier, .gore, .attn, .fleet,
    .dec, .pool, .ring, .TXT_SLOT, .TIER_RSV, .TIER_OBJ, .SHP_CTX_CNT, .SEC_CNT, .RING_CNT, .POOL_OBJ, .POOL_CNT, .MBX_SUM, .MBX_CNT,
        .HTI_W_QFAULT, .HTI_W_MBSTS, .HTI_W_EVT, .HTI_CNT, .GORE_TILE_CNT, .GORE_SHAPE, .GORE_ATTN_CNT, .DEC_GRAM, .DEC_GAUGE, .CTL_SES,
            .CTL_SES_CNT, .CTL_READY] ⊆ F) (hs : Keeps F a s) :
    KeepsP F a (State.reconcile s h epoch owner present) := by
  delta State.reconcile
  split
  · exact KeepsP.mk hs
  · exact keepsP_ite (fun _ => keepsP_ite (fun _ => KeepsP.mk (keeps_setSess (Piece.sub hF (by decide +kernel)) hs)) (fun _ => KeepsP.mk hs))
        (fun _ => keepsP_ite (fun _ => keepsP_ite (fun _ => KeepsP.mk (keeps_orphan (Piece.sub hF (by decide +kernel)) hs)) (fun _ => KeepsP.mk
            hs)) (fun _ => keepsP_ite (fun _ => KeepsP.mk (keeps_dropCopy (Piece.sub hF (by decide +kernel)) (keeps_freeStream (Piece.sub hF
                (by decide +kernel)) hs))) (fun _ => keepsP_ite (fun _ => KeepsP.mk (keeps_dropCopy (Piece.sub hF (by decide +kernel)) hs)) (fun
                    _ => KeepsP.mk (keeps_setSess (Piece.sub hF (by decide +kernel)) hs)))))

theorem keeps_destroySess {F : List Piece} {a s : State} {h : ℕ} {read : Option ℕ} (hF : [.hti, .mbx, .ses, .tier, .gore, .attn, .dec, .pool,
    .ring, .TXT_SLOT, .TIER_RSV, .TIER_OBJ, .TIER_CNT, .SHP_CTX_CNT, .SEC_CNT, .RING_CNT, .POOL_OBJ, .POOL_CNT, .MBX_SUM, .MBX_CNT,
        .HTI_W_QFAULT, .HTI_W_MBSTS, .HTI_W_EVT, .HTI_CNT, .GORE_TILE_CNT, .GORE_SHAPE, .GORE_CTX, .GORE_CTX_CNT, .GORE_ATTN_CNT, .DEC_GRAM,
            .DEC_GAUGE, .DEC_CNT, .CTL_SES, .CTL_SES_CNT, .CTL_READY] ⊆ F) (hs : Keeps F a s) :
    Keeps F a (State.destroySess s h read) := by
  delta State.destroySess
  split
  · exact hs
  · extract_lets +onlyGivenNames -merge -lift -underBinder s1
    have h2 : Keeps F a s1 := by
      unfold s1
      exact keeps_freeStream (Piece.sub hF (by decide +kernel)) (keeps_endOpen (Piece.sub hF (by decide +kernel)) hs)
    clear_value s1
    extract_lets +onlyGivenNames -merge -lift -underBinder s3
    have h4 : Keeps F a s3 := by
      unfold s3
      exact keeps_endUsers (Piece.sub hF (by decide +kernel)) h2
    clear_value s3
    extract_lets +onlyGivenNames -merge -lift -underBinder s5
    have h6 : Keeps F a s5 := by
      unfold s5
      exact keeps_ackUpTo (Piece.sub hF (by decide +kernel)) h4
    clear_value s5
    extract_lets +onlyGivenNames -merge -lift -underBinder v7
    clear_value v7
    extract_lets +onlyGivenNames -merge -lift -underBinder s8
    have h9 : Keeps F a s8 := by
      unfold s8
      exact keeps_foldl (fun s10 x11 h12 => keeps_send (Piece.sub hF (by decide +kernel)) h12) h6
    clear_value s8
    exact keeps_flushGone (Piece.sub hF (by decide +kernel)) (keeps_bump (keeps_freeSess (Piece.sub hF (by decide +kernel)) h9) ⟨rfl, hF
        (by decide +kernel)⟩)

theorem keeps_shipStream {F : List Piece} {a s : State} {h : ℕ} (hF : [.hti, .mbx, .ses, .tier, .fleet, .pool, .ring, .TIER_OBJ, .SHP_CTX_CNT,
    .SEC_CNT, .RING_CNT, .POOL_OBJ, .POOL_CNT, .MBX_SUM, .MBX_CNT, .HTI_W_QFAULT, .HTI_W_MBSTS, .HTI_W_FLT, .HTI_W_EVT, .HTI_CNT, .GORE_TILE,
        .GORE_TILE_CNT, .CTL_SES, .CTL_SES_CNT, .CTL_READY] ⊆ F) (hs : Keeps F a s) :
    Keeps F a (State.shipStream s h) := by
  delta State.shipStream
  split
  · exact hs
  · split
    · exact hs
    · extract_lets +onlyGivenNames -merge -lift -underBinder v1
      clear_value v1
      split
      · rename_i x2 x4 x5 e6
        have h3 := KeepsP.fst e6 (F := F) (a := a) (by
            exact keeps_checkTiles (Piece.sub hF (by decide +kernel)) hs
          )
        exact keeps_sendTorn (Piece.sub hF (by decide +kernel)) h3
      · rename_i x7 e9
        have h8 := KeepsP.fst e9 (F := F) (a := a) (by
            exact keeps_checkTiles (Piece.sub hF (by decide +kernel)) hs
          )
        extract_lets +onlyGivenNames -merge -lift -underBinder s10
        have h11 : Keeps F a s10 := by
          unfold s10
          exact keeps_stampOpen (Piece.sub hF (by decide +kernel)) (keeps_updXfer (Piece.sub hF (by decide +kernel)) h8)
        clear_value s10
        extract_lets +onlyGivenNames -merge -lift -underBinder s12
        have h13 : Keeps F a s12 := by
          unfold s12
          exact keeps_foldl (fun s14 x15 h16 => keeps_startRead (Piece.sub hF (by decide +kernel)) h16) h11
        clear_value s12
        exact keeps_shipGo (Piece.sub hF (by decide +kernel)) h13

theorem keeps_evacRefused {F : List Piece} {a s : State} {h peer reason total : ℕ} (hF : [.hti, .mbx, .ses, .tier, .fab, .fleet, .pool, .ring,
    .TIER_OBJ, .TIER_CNT, .SHP_CTX_CNT, .SEC_CNT, .RING_EVAC, .RING_CNT, .POOL_OBJ, .POOL_CNT, .MBX_SUM, .MBX_CNT, .HTI_W_QFAULT, .HTI_W_MBSTS,
        .HTI_W_EVT, .HTI_CNT, .CTL_SES, .CTL_SES_CNT, .CTL_READY] ⊆ F) (hs : Keeps F a s) :
    Keeps F a (State.evacRefused s h peer reason total) := by
  delta State.evacRefused
  extract_lets +onlyGivenNames -merge -lift -underBinder s1
  have h2 : Keeps F a s1 := by
    unfold s1
    exact keeps_shipFail (Piece.sub hF (by decide +kernel)) hs
  clear_value s1
  extract_lets +onlyGivenNames -merge -lift -underBinder s3
  have h4 : Keeps F a s3 := by
    unfold s3
    exact keeps_ite (fun _ => keeps_evacDeflate (Piece.sub hF (by decide +kernel)) h2) (fun _ => keeps_updEvac (Piece.sub hF (by decide +kernel)) h2)
  clear_value s3
  exact keeps_pump (Piece.sub hF (by decide +kernel)) h4

/-! ### TierFaults -/

theorem keeps_flushLost {F : List Piece} {a s : State} (hF : [.hti, .ses, .tier, .pool, .ring, .TIER_OBJ, .TIER_DRV, .TIER_CNT, .SHP_CTX_CNT,
    .SEC_CNT, .POOL_OBJ, .POOL_CNT, .HTI_W_QFAULT, .HTI_CNT, .CTL_READY] ⊆ F) (hs : Keeps F a s) :
    Keeps F a (State.flushLost s) := by
  delta State.flushLost
  refine keeps_foldl (fun s1 x2 h3 => ?_) hs
  extract_lets +onlyGivenNames -merge -lift -underBinder v4
  extract_lets +onlyGivenNames -merge -lift -underBinder v5
  extract_lets +onlyGivenNames -merge -lift -underBinder v6
  refine keeps_ite (fun _ => h3) (fun _ => ?_)
  extract_lets +onlyGivenNames -merge -lift -underBinder v7
  extract_lets +onlyGivenNames -merge -lift -underBinder p8
  have h9 : KeepsP F a p8 := by
    unfold p8
    refine keeps_foldp (fun s10 x11 h12 => ?_) (KeepsP.mk h3)
    split
    · exact keepsP_ite (fun _ => keeps_flushPage (Piece.sub hF (by decide +kernel)) (KeepsP.proj h12)) (fun _ => h12)
    · exact h12
  clear_value p8
  extract_lets +onlyGivenNames -merge -lift -underBinder s13
  have h14 : Keeps F a s13 := by
    unfold s13
    exact KeepsP.proj h9
  clear_value s13
  extract_lets +onlyGivenNames -merge -lift -underBinder v15
  extract_lets +onlyGivenNames -merge -lift -underBinder s16
  have h17 : Keeps F a s16 := by
    unfold s16
    exact Keeps.other h14 (htier := .inr (hF (by decide +kernel)))
  clear_value s16
  exact keeps_ite (fun _ => keeps_endFlush (Piece.sub hF (by decide +kernel)) h17) (fun _ => h17)

theorem keeps_sessLost {F : List Piece} {a s : State} {h : ℕ} {keys : List ℕ} {st : Status} {cause : ℕ} (hF : [.hti, .mbx, .ses, .tier, .gore,
    .attn, .fleet, .pool, .ring, .TIER_OBJ, .SHP_CTX_CNT, .SEC_CNT, .RING_CNT, .POOL_OBJ, .POOL_CNT, .MBX_SUM, .MBX_CNT, .HTI_W_QFAULT,
        .HTI_W_MBSTS, .HTI_W_EVT, .HTI_CNT, .GORE_TILE_CNT, .GORE_SHAPE, .GORE_CTX, .GORE_CTX_CNT, .CTL_SES, .CTL_SES_CNT, .CTL_READY] ⊆ F) (hs :
            Keeps F a s) :
    Keeps F a (State.sessLost s h keys st cause) := by
  delta State.sessLost
  split
  · exact hs
  · extract_lets +onlyGivenNames -merge -lift -underBinder v1
    clear_value v1
    split
    · refine keeps_ite (fun _ => ?_) (fun _ => keeps_lostPages (Piece.sub hF (by decide +kernel)) hs)
      extract_lets +onlyGivenNames -merge -lift -underBinder s2
      have h3 : Keeps F a s2 := by
        unfold s2
        exact keeps_shipReturn (Piece.sub hF (by decide +kernel)) (keeps_send (Piece.sub hF (by decide +kernel)) hs)
      clear_value s2
      exact keeps_shipDone (Piece.sub hF (by decide +kernel)) (keeps_lostPages (Piece.sub hF (by decide +kernel)) h3)
    · exact keeps_lostPages (Piece.sub hF (by decide +kernel)) hs

theorem keeps_ownerLost {F : List Piece} {a s : State} {ix : Bool} {own : ℕ} {keys : List ℕ} {st : Status} {cause : ℕ} (hF : [.hti, .mbx, .ses,
    .tier, .gore, .attn, .fleet, .pool, .rcl, .ring, .TIER_OBJ, .SHP_CTX_CNT, .SEC_CNT, .RING_CNT, .RCL_IDX, .RCL_GAUGE, .RCL_CNT, .POOL_OBJ,
        .POOL_CNT, .MBX_SUM, .MBX_CNT, .HTI_W_QFAULT, .HTI_W_MBSTS, .HTI_W_EVT, .HTI_CNT, .GORE_TILE_CNT, .GORE_SHAPE, .GORE_CTX, .GORE_CTX_CNT,
            .CTL_SES, .CTL_SES_CNT, .CTL_READY] ⊆ F) (hs : Keeps F a s) :
    Keeps F a (State.ownerLost s ix own keys st cause) := by
  delta State.ownerLost
  exact keeps_ite (fun _ => hs) (fun _ => keeps_ite (fun _ => keeps_foldl (fun s1 x2 h3 => keeps_indexLost (Piece.sub hF (by decide +kernel)) h3)
      hs) (fun _ => keeps_sessLost (Piece.sub hF (by decide +kernel)) hs))

theorem keeps_tierRecord {F : List Piece} {a s : State} {c obj kind lost : ℕ} (hF : [.mbx, .MBX_SUM, .MBX_CNT, .HTI_W_MBSTS, .HTI_W_FLT,
    .HTI_CNT] ⊆ F) (hs : Keeps F a s) :
    Keeps F a (State.tierRecord s c obj kind lost) := by
  delta State.tierRecord
  exact keeps_fault (Piece.sub hF (by decide +kernel)) hs

theorem keeps_failObject {F : List Piece} {a s : State} {o kind : ℕ} {up : Bool} (hF : [.hti, .mbx, .ses, .tier, .gore, .attn, .fleet, .pool,
    .rcl, .ring, .TIER_OBJ, .TIER_DRV, .TIER_CNT, .SHP_CTX_CNT, .SEC_CNT, .RING_CNT, .RCL_IDX, .RCL_GAUGE, .RCL_CNT, .POOL_OBJ, .POOL_LEND,
        .POOL_CNT, .MBX_SUM, .MBX_CNT, .HTI_W_QFAULT, .HTI_W_MBSTS, .HTI_W_FLT, .HTI_W_EVT, .HTI_CNT, .GORE_TILE, .GORE_TILE_CNT, .GORE_SHAPE,
            .GORE_CTX, .GORE_CTX_CNT, .CTL_SES, .CTL_SES_CNT, .CTL_READY] ⊆ F) (hs : Keeps F a s) :
    Keeps F a (State.failObject s o kind up) := by
  delta State.failObject
  refine keeps_ite (fun _ => hs) (fun _ => ?_)
  extract_lets +onlyGivenNames -merge -lift -underBinder v1
  clear_value v1
  extract_lets +onlyGivenNames -merge -lift -underBinder s2
  have h3 : Keeps F a s2 := by
    unfold s2
    exact keeps_wr (keeps_wr (keeps_wr hs ⟨rfl, hF (by decide +kernel)⟩) ⟨rfl, hF (by decide +kernel)⟩) ⟨rfl, hF (by decide +kernel)⟩
  clear_value s2
  extract_lets +onlyGivenNames -merge -lift -underBinder s4
  have h5 : Keeps F a s4 := by
    unfold s4
    exact keeps_bump h3 ⟨rfl, hF (by decide +kernel)⟩
  clear_value s4
  extract_lets +onlyGivenNames -merge -lift -underBinder s6
  have h7 : Keeps F a s6 := by
    unfold s6
    exact keeps_foldl (fun s8 x9 h10 => keeps_putPage (Piece.sub hF (by decide +kernel)) h10) h5
  clear_value s6
  extract_lets +onlyGivenNames -merge -lift -underBinder v11
  clear_value v11
  extract_lets +onlyGivenNames -merge -lift -underBinder s12
  have h13 : Keeps F a s12 := by
    unfold s12
    exact keeps_bump h7 ⟨rfl, hF (by decide +kernel)⟩
  clear_value s12
  extract_lets +onlyGivenNames -merge -lift -underBinder v14
  clear_value v14
  extract_lets +onlyGivenNames -merge -lift -underBinder s15
  have h16 : Keeps F a s15 := by
    unfold s15
    exact keeps_foldl (fun s17 x18 h19 => keeps_tierRecord (Piece.sub hF (by decide +kernel)) h19) h13
  clear_value s15
  extract_lets +onlyGivenNames -merge -lift -underBinder v20
  clear_value v20
  extract_lets +onlyGivenNames -merge -lift -underBinder s21
  have h22 : Keeps F a s21 := by
    unfold s21
    exact keeps_foldl (fun s23 x24 h25 => keeps_ownerLost (Piece.sub hF (by decide +kernel)) h25) h16
  clear_value s21
  extract_lets +onlyGivenNames -merge -lift -underBinder v26
  clear_value v26
  extract_lets +onlyGivenNames -merge -lift -underBinder s27
  have h28 : Keeps F a s27 := by
    unfold s27
    exact Keeps.other h22 (htier := .inr (hF (by decide +kernel)))
  clear_value s27
  extract_lets +onlyGivenNames -merge -lift -underBinder s29
  have h30 : Keeps F a s29 := by
    unfold s29
    exact keeps_ite (fun _ => keeps_windowLost (Piece.sub hF (by decide +kernel)) h28) (fun _ => h28)
  clear_value s29
  extract_lets +onlyGivenNames -merge -lift -underBinder v31
  clear_value v31
  extract_lets +onlyGivenNames -merge -lift -underBinder s32
  have h33 : Keeps F a s32 := by
    unfold s32
    exact keeps_foldl (fun s34 x35 h36 => keeps_shipStream (Piece.sub hF (by decide +kernel)) h36) h30
  clear_value s32
  exact keeps_checkLend (Piece.sub hF (by decide +kernel)) (keeps_checkLeaving (Piece.sub hF (by decide +kernel)) (keeps_refreshTierReady
      (Piece.sub hF (by decide +kernel)) (keeps_flushLost (Piece.sub hF (by decide +kernel)) h33)))

theorem keeps_copyT2 {F : List Piece} {a s : State} {ref : PageRef} {x0 : Page} (hF : [.ses, .tier, .TIER_CNT] ⊆ F) (hs : Keeps F a s) :
    Keeps F a (State.copyT2 s ref x0) := by
  delta State.copyT2
  refine keeps_ite (fun _ => hs) (fun _ => ?_)
  split
  · extract_lets +onlyGivenNames -merge -lift -underBinder v1
    clear_value v1
    extract_lets +onlyGivenNames -merge -lift -underBinder s2
    have h3 : Keeps F a s2 := by
      unfold s2
      exact keeps_bump (keeps_bump (keeps_emitPage hs) ⟨rfl, hF (by decide +kernel)⟩) ⟨rfl, hF (by decide +kernel)⟩
    clear_value s2
    exact keeps_putPage (Piece.sub hF (by decide +kernel)) h3
  · exact hs

theorem keeps_copyUp {F : List Piece} {a s : State} {ref : PageRef} {x0 : Page} (hF : [.ses, .tier, .TIER_CNT] ⊆ F) (hs : Keeps F a s) :
    Keeps F a (State.copyUp s ref x0) := by
  delta State.copyUp
  refine keeps_ite (fun _ => ?_) (fun _ => hs)
  extract_lets +onlyGivenNames -merge -lift -underBinder s1
  have h2 : Keeps F a s1 := by
    unfold s1
    exact keeps_copyT2 (Piece.sub hF (by decide +kernel)) hs
  clear_value s1
  split
  · exact keeps_ite (fun _ => h2) (fun _ => keeps_foldl (fun s3 x4 h5 => keeps_ite (fun _ => keeps_copyT2 (Piece.sub hF (by decide +kernel)) h5)
        (fun _ => h5)) h2)
  · exact h2

theorem keeps_stage {F : List Piece} {a s : State} {ref : PageRef} (hF : [.gore] ⊆ F) (hs : Keeps F a s) :
    Keeps F a (State.stage s ref) := by
  delta State.stage
  exact keeps_mapItems (Piece.sub hF (by decide +kernel)) hs

theorem keeps_poisoned {F : List Piece} {a s : State} {ref : PageRef} {x0 : Page} (hF : [.hti, .mbx, .ses, .tier, .gore, .attn, .fleet, .pool,
    .rcl, .ring, .TIER_OBJ, .TIER_CNT, .SHP_CTX_CNT, .SEC_CNT, .RING_CNT, .RCL_IDX, .RCL_GAUGE, .RCL_CNT, .POOL_OBJ, .POOL_CNT, .MBX_SUM,
        .MBX_CNT, .HTI_W_QFAULT, .HTI_W_MBSTS, .HTI_W_FLT, .HTI_W_EVT, .HTI_CNT, .GORE_TILE_CNT, .GORE_SHAPE, .GORE_CTX, .GORE_CTX_CNT, .CTL_SES,
            .CTL_SES_CNT, .CTL_READY] ⊆ F) (hs : Keeps F a s) :
    Keeps F a (State.poisoned s ref x0) := by
  delta State.poisoned
  extract_lets +onlyGivenNames -merge -lift -underBinder s1
  have h2 : Keeps F a s1 := by
    unfold s1
    exact keeps_bump hs ⟨rfl, hF (by decide +kernel)⟩
  clear_value s1
  split
  · exact keeps_putPage (Piece.sub hF (by decide +kernel)) (keeps_releasePlace h2)
  · extract_lets +onlyGivenNames -merge -lift -underBinder s3
    have h4 : Keeps F a s3 := by
      unfold s3
      exact keeps_foldl (fun s5 x6 h7 => keeps_releasePlace h7) h2
    clear_value s3
    extract_lets +onlyGivenNames -merge -lift -underBinder s8
    have h9 : Keeps F a s8 := by
      unfold s8
      exact keeps_putPage (Piece.sub hF (by decide +kernel)) h4
    clear_value s8
    extract_lets +onlyGivenNames -merge -lift -underBinder s10
    have h11 : Keeps F a s10 := by
      unfold s10
      exact keeps_bump h9 ⟨rfl, hF (by decide +kernel)⟩
    clear_value s10
    extract_lets +onlyGivenNames -merge -lift -underBinder s12
    have h13 : Keeps F a s12 := by
      unfold s12
      exact keeps_tierRecord (Piece.sub hF (by decide +kernel)) (keeps_checkLeaving (Piece.sub hF (by decide +kernel)) h11)
    clear_value s12
    exact keeps_ownerLost (Piece.sub hF (by decide +kernel)) h13

theorem keeps_readThroughDone {F : List Piece} {a : State} {ref : PageRef} {poison : Bool} {s : State} (hF : [.hti, .mbx, .ses, .tier, .gore,
    .attn, .pwr, .fleet, .pool, .rcl, .ring, .TIER_OBJ, .TIER_CNT, .SHP_CTX_CNT, .SEC_CNT, .RING_CNT, .RCL_IDX, .RCL_GAUGE, .RCL_CNT,
        .PWR_DROGUE, .PWR_CNT, .POOL_OBJ, .POOL_CNT, .MBX_SUM, .MBX_CNT, .HTI_W_QFAULT, .HTI_W_MBSTS, .HTI_W_FLT, .HTI_W_EVT, .HTI_CNT,
            .GORE_TILE_CNT, .GORE_SHAPE, .GORE_PANEL, .GORE_CTX, .GORE_CTX_CNT, .GORE_CNT, .CTL_SES, .CTL_SES_CNT, .CTL_READY, .CTL_PM] ⊆ F) (hs
                : Keeps F a s) :
    Keeps F a (readThroughDone ref poison s) := by
  delta readThroughDone
  split
  · exact hs
  · refine keeps_ite (fun _ => hs) (fun _ => ?_)
    refine keeps_ite (fun _ => keeps_winch (Piece.sub hF (by decide +kernel)) (keeps_poisoned (Piece.sub hF (by decide +kernel)) hs)) (fun _ => ?_)
    extract_lets +onlyGivenNames -merge -lift -underBinder s1
    have h2 : Keeps F a s1 := by
      unfold s1
      exact hs
    clear_value s1
    extract_lets +onlyGivenNames -merge -lift -underBinder s3
    have h4 : Keeps F a s3 := by
      unfold s3
      exact keeps_bump (keeps_stage (Piece.sub hF (by decide +kernel)) hs) ⟨rfl, hF (by decide +kernel)⟩
    clear_value s3
    extract_lets +onlyGivenNames -merge -lift -underBinder v5
    clear_value v5
    extract_lets +onlyGivenNames -merge -lift -underBinder s6
    have h7 : Keeps F a s6 := by
      unfold s6
      exact keeps_winch (Piece.sub hF (by decide +kernel)) (keeps_copyUp (Piece.sub hF (by decide +kernel)) (keeps_putPage (Piece.sub hF
          (by decide +kernel)) h4))
    clear_value s6
    exact keeps_ite (fun _ => h7) (fun _ => keeps_shipGo (Piece.sub hF (by decide +kernel)) h7)

theorem keeps_execReadThroughDone {F : List Piece} {a : State} {page : PageRef} {poison : Bool} {s : State} (hF : [.hti, .mbx, .ses, .tier,
    .gore, .attn, .pwr, .fleet, .pool, .rcl, .ring, .TIER_OBJ, .TIER_CNT, .SHP_CTX_CNT, .SEC_CNT, .RING_CNT, .RCL_IDX, .RCL_GAUGE, .RCL_CNT,
        .PWR_DROGUE, .PWR_CNT, .POOL_OBJ, .POOL_CNT, .MBX_SUM, .MBX_CNT, .HTI_W_QFAULT, .HTI_W_MBSTS, .HTI_W_FLT, .HTI_W_EVT, .HTI_CNT,
            .GORE_TILE_CNT, .GORE_SHAPE, .GORE_PANEL, .GORE_CTX, .GORE_CTX_CNT, .GORE_CNT, .CTL_SES, .CTL_SES_CNT, .CTL_READY, .CTL_PM] ⊆ F) (hs
                : Keeps F a s) :
    KeepsO F a (execReadThroughDone page poison s) := by
  delta execReadThroughDone
  refine KeepsO.mk ?_
  split
  · exact keeps_ite (fun _ => hs) (fun _ => keeps_readThroughDone (Piece.sub hF (by decide +kernel)) hs)
  · exact hs

theorem keeps_execTierAccessTimeout {F : List Piece} {a : State} {dt obj : ℕ} {s : State} (hF : [.hti, .mbx, .ses, .tier, .gore, .attn, .pwr,
    .fleet, .pool, .rcl, .ring, .TIER_STALL, .TIER_OBJ, .TIER_DRV, .TIER_CNT, .SHP_CTX_CNT, .SEC_CNT, .RING_PORT_CNT, .RING_CNT, .RCL_IDX,
        .RCL_GAUGE, .RCL_CNT, .PWR_DROGUE, .PWR_CNT, .POOL_OBJ, .POOL_LEND, .POOL_CNT, .MTR_LIVE, .MBX_SUM, .MBX_CNT, .HTI_W_QFAULT,
            .HTI_W_MBSTS, .HTI_W_FLT, .HTI_W_EVT, .HTI_TIME, .HTI_CNT, .GORE_TILE, .GORE_TILE_CNT, .GORE_SHAPE, .GORE_PANEL, .GORE_CTX,
                .GORE_CTX_CNT, .GORE_CNT, .GORE_CLASS, .CTL_SES, .CTL_SES_CNT, .CTL_RT, .CTL_RST_CNT, .CTL_READY, .CTL_PM, .CTL_PIN_CNT] ⊆ F) (hs
                    : Keeps F a s) :
    KeepsO F a (execTierAccessTimeout dt obj s) := by
  delta execTierAccessTimeout
  exact KeepsO.mk (keeps_ite (fun _ => keeps_winch (Piece.sub hF (by decide +kernel)) (keeps_failObject (Piece.sub hF (by decide +kernel))
      (keeps_pass (Piece.sub hF (by decide +kernel)) hs))) (fun _ => hs))

theorem keeps_promotionReadDone {F : List Piece} {a : State} {ref : PageRef} {poison : Bool} {s : State} (hF : [.hti, .mbx, .ses, .tier, .gore,
    .attn, .pwr, .fleet, .pool, .rcl, .ring, .TIER_OBJ, .TIER_CNT, .SHP_CTX_CNT, .SEC_CNT, .RING_CNT, .RCL_IDX, .RCL_GAUGE, .RCL_CNT,
        .PWR_DROGUE, .PWR_CNT, .POOL_OBJ, .POOL_CNT, .MBX_SUM, .MBX_CNT, .HTI_W_QFAULT, .HTI_W_MBSTS, .HTI_W_FLT, .HTI_W_EVT, .HTI_CNT,
            .GORE_TILE_CNT, .GORE_SHAPE, .GORE_PANEL, .GORE_CTX, .GORE_CTX_CNT, .GORE_CNT, .CTL_SES, .CTL_SES_CNT, .CTL_READY, .CTL_PM] ⊆ F) (hs
                : Keeps F a s) :
    Keeps F a (promotionReadDone ref poison s) := by
  delta promotionReadDone
  split
  · exact hs
  · refine keeps_ite (fun _ => hs) (fun _ => ?_)
    extract_lets +onlyGivenNames -merge -lift -underBinder s1
    have h2 : Keeps F a s1 := by
      unfold s1
      exact hs
    clear_value s1
    extract_lets +onlyGivenNames -merge -lift -underBinder s3
    have h4 : Keeps F a s3 := by
      unfold s3
      exact keeps_ite (fun _ => keeps_winch (Piece.sub hF (by decide +kernel)) (keeps_poisoned (Piece.sub hF (by decide +kernel)) hs)) (fun _ =>
          keeps_winch (Piece.sub hF (by decide +kernel)) (keeps_promoted (Piece.sub hF (by decide +kernel)) hs))
    clear_value s3
    exact keeps_ite (fun _ => h4) (fun _ => keeps_shipGo (Piece.sub hF (by decide +kernel)) h4)

theorem keeps_execPromotionReadDone {F : List Piece} {a : State} {page : PageRef} {poison : Bool} {s : State} (hF : [.hti, .mbx, .ses, .tier,
    .gore, .attn, .pwr, .fleet, .pool, .rcl, .ring, .TIER_OBJ, .TIER_CNT, .SHP_CTX_CNT, .SEC_CNT, .RING_CNT, .RCL_IDX, .RCL_GAUGE, .RCL_CNT,
        .PWR_DROGUE, .PWR_CNT, .POOL_OBJ, .POOL_CNT, .MBX_SUM, .MBX_CNT, .HTI_W_QFAULT, .HTI_W_MBSTS, .HTI_W_FLT, .HTI_W_EVT, .HTI_CNT,
            .GORE_TILE_CNT, .GORE_SHAPE, .GORE_PANEL, .GORE_CTX, .GORE_CTX_CNT, .GORE_CNT, .CTL_SES, .CTL_SES_CNT, .CTL_READY, .CTL_PM] ⊆ F) (hs
                : Keeps F a s) :
    KeepsO F a (execPromotionReadDone page poison s) := by
  delta execPromotionReadDone
  refine KeepsO.mk ?_
  split
  · exact keeps_ite (fun _ => keeps_promotionReadDone (Piece.sub hF (by decide +kernel)) hs) (fun _ => hs)
  · exact hs

theorem keeps_execTierObjectFault {F : List Piece} {a : State} {obj : ℕ} {up : Bool} {s : State} (hF : [.hti, .mbx, .ses, .tier, .gore, .attn,
    .pwr, .fleet, .pool, .rcl, .ring, .TIER_OBJ, .TIER_DRV, .TIER_CNT, .SHP_CTX_CNT, .SEC_CNT, .RING_CNT, .RCL_IDX, .RCL_GAUGE, .RCL_CNT,
        .PWR_DROGUE, .PWR_CNT, .POOL_PORT, .POOL_OBJ, .POOL_LEND, .POOL_CNT, .MBX_SUM, .MBX_CNT, .HTI_W_QFAULT, .HTI_W_MBSTS, .HTI_W_FLT,
            .HTI_W_EVT, .HTI_CNT, .GORE_TILE, .GORE_TILE_CNT, .GORE_SHAPE, .GORE_PANEL, .GORE_CTX, .GORE_CTX_CNT, .GORE_CNT, .CTL_SES,
                .CTL_SES_CNT, .CTL_READY, .CTL_PM] ⊆ F) (hs : Keeps F a s) :
    KeepsO F a (execTierObjectFault obj up s) := by
  delta execTierObjectFault
  refine KeepsO.mk ?_
  refine keeps_ite (fun _ => ?_) (fun _ => hs)
  extract_lets +onlyGivenNames -merge -lift -underBinder s1
  have h2 : Keeps F a s1 := by
    unfold s1
    exact keeps_winch (Piece.sub hF (by decide +kernel)) (keeps_failObject (Piece.sub hF (by decide +kernel)) hs)
  clear_value s1
  exact keeps_ite (fun _ => keeps_wr h2 ⟨rfl, hF (by decide +kernel)⟩) (fun _ => h2)

end Sys2Proof.Machine
end

