-- ==== Sys2Proof/Laws/KeepsWork.lean ====
section
/-! SUPPORT. `Keeps` for the operations and meanings of Machine/: Steps, Recall, Queues, Attention, Decoding, Abort. Each lemma says what an operation may change, and
that it keeps the rest. -/

namespace Sys2Proof.Machine

set_option Elab.async false

/-! ### Steps -/

theorem keeps_endCancelled {F : List Piece} {a s : State} {t : Step} {e : SEntry} (hF : [.ses, .tier, .gore, .attn, .GORE_TILE_CNT] ⊆ F) (hs :
    Keeps F a s) :
    Keeps F a (State.endCancelled s t e) := by
  delta State.endCancelled
  extract_lets +onlyGivenNames -merge -lift -underBinder s1
  have h2 : Keeps F a s1 := by
    unfold s1
    exact keeps_bump hs ⟨rfl, hF (by decide +kernel)⟩
  clear_value s1
  extract_lets +onlyGivenNames -merge -lift -underBinder s3
  have h4 : Keeps F a s3 := by
    unfold s3
    exact keeps_updEntry (Piece.sub hF (by decide +kernel)) h2
  clear_value s3
  exact keeps_closeEntry (Piece.sub hF (by decide +kernel)) h4

theorem keeps_checkPanels {F : List Piece} {a s : State} (hF : [.latch, .hti, .mbx, .boot, .ses, .tier, .gore, .attn, .pwr, .pins, .fab, .fleet,
    .dec, .pool, .rcl, .ring, .sec, .RING_PORT, .RING_PORT_CNT, .RING_LED, .RING_CNT, .RING_BYP, .POOL_PORT, .CTL_RST, .CTL_READY, .CTL_PIN] ⊆ F)
        (hs : Keeps F a s) :
    Keeps F a (State.checkPanels s) := by
  delta State.checkPanels
  exact keeps_ite (fun _ => keeps_wholeFailure (Piece.sub hF (by decide +kernel)) (keeps_tickFree hs)) (fun _ => hs)

theorem keeps_goreFault {F : List Piece} {a s : State} {i : Item} {gore cause : ℕ} (hF : [.mbx, .MBX_SUM, .MBX_CNT, .HTI_W_MBSTS, .HTI_W_FLT,
    .HTI_CNT] ⊆ F) (hs : Keeps F a s) :
    Keeps F a (State.goreFault s i gore cause) := by
  delta State.goreFault
  exact keeps_fault (Piece.sub hF (by decide +kernel)) hs

theorem keeps_panelPowerFault {F : List Piece} {a : State} {p : ℕ} {s : State} (hF : [.latch, .hti, .mbx, .boot, .ses, .tier, .gore, .attn, .pwr,
    .pins, .fab, .fleet, .dec, .pool, .rcl, .ring, .sec, .RING_PORT, .RING_PORT_CNT, .RING_LED, .RING_CNT, .RING_BYP, .PWR_DROGUE, .PWR_CNT,
        .POOL_PORT, .MBX_SUM, .MBX_CNT, .HTI_W_MBSTS, .HTI_W_FLT, .HTI_CNT, .GORE_PANEL, .GORE_CTX, .GORE_CNT, .CTL_RST, .CTL_READY, .CTL_PM,
            .CTL_PIN] ⊆ F) (hs : Keeps F a s) :
    Keeps F a (panelPowerFault p s) := by
  delta panelPowerFault
  refine keeps_ite (fun _ => hs) (fun _ => ?_)
  extract_lets +onlyGivenNames -merge -lift -underBinder s1
  have h2 : Keeps F a s1 := by
    unfold s1
    exact hs
  clear_value s1
  extract_lets +onlyGivenNames -merge -lift -underBinder v3
  clear_value v3
  extract_lets +onlyGivenNames -merge -lift -underBinder s4
  have h5 : Keeps F a s4 := by
    unfold s4
    exact keeps_refreshPanel (Piece.sub hF (by decide +kernel)) (keeps_wr (keeps_wr hs ⟨rfl, hF (by decide +kernel)⟩) ⟨rfl, hF (by decide +kernel)⟩)
  clear_value s4
  extract_lets +onlyGivenNames -merge -lift -underBinder s6
  have h7 : Keeps F a s6 := by
    unfold s6
    exact keeps_foldl (fun s8 x9 h10 => keeps_rerunItem (Piece.sub hF (by decide +kernel)) (keeps_goreFault (Piece.sub hF (by decide +kernel))
        h10)) h5
  clear_value s6
  exact keeps_checkPanels (Piece.sub hF (by decide +kernel)) (keeps_winch (Piece.sub hF (by decide +kernel)) h7)

theorem keeps_execPanelPowerFault {F : List Piece} {a : State} {panel : ℕ} {s : State} (hF : [.latch, .hti, .mbx, .boot, .ses, .tier, .gore,
    .attn, .pwr, .pins, .fab, .fleet, .dec, .pool, .rcl, .ring, .sec, .RING_PORT, .RING_PORT_CNT, .RING_LED, .RING_CNT, .RING_BYP, .PWR_DROGUE,
        .PWR_CNT, .POOL_PORT, .MBX_SUM, .MBX_CNT, .HTI_W_MBSTS, .HTI_W_FLT, .HTI_CNT, .GORE_PANEL, .GORE_CTX, .GORE_CNT, .CTL_RST, .CTL_READY,
            .CTL_PM, .CTL_PIN] ⊆ F) (hs : Keeps F a s) :
    KeepsO F a (execPanelPowerFault panel s) := by
  delta execPanelPowerFault
  exact KeepsO.mk (keeps_ite (fun _ => keeps_panelPowerFault (Piece.sub hF (by decide +kernel)) hs) (fun _ => hs))

theorem keeps_itemDone {F : List Piece} {a s : State} {t : Step} {e : SEntry} {read : Option ℕ} (hF : [.mbx, .ses, .tier, .gore, .attn, .dec,
    .pool, .ring, .TXT_SLOT, .TIER_OBJ, .TIER_DRV, .TIER_CNT, .RING_CNT, .POOL_OBJ, .POOL_CNT, .MTR_LIVE, .MBX_SUM, .MBX_CNT, .HTI_W_MBSTS,
        .HTI_W_EVT, .HTI_CNT, .GORE_TILE_CNT, .GORE_ATTN_CNT, .DEC_GRAM, .DEC_GAUGE, .DEC_CNT, .CTL_READY] ⊆ F) (hs : Keeps F a s) :
    Keeps F a (State.itemDone s t e read) := by
  delta State.itemDone
  extract_lets +onlyGivenNames -merge -lift -underBinder v1
  clear_value v1
  extract_lets +onlyGivenNames -merge -lift -underBinder s2
  have h3 : Keeps F a s2 := by
    unfold s2
    exact keeps_takeRows (Piece.sub hF (by decide +kernel)) hs
  clear_value s2
  extract_lets +onlyGivenNames -merge -lift -underBinder s4
  have h5 : Keeps F a s4 := by
    unfold s4
    split
    · exact keeps_appendSampled (Piece.sub hF (by decide +kernel)) h3
    · exact h3
  clear_value s4
  extract_lets +onlyGivenNames -merge -lift -underBinder v6
  clear_value v6
  extract_lets +onlyGivenNames -merge -lift -underBinder s7
  have h8 : Keeps F a s7 := by
    unfold s7
    exact keeps_updEntry (Piece.sub hF (by decide +kernel)) h5
  clear_value s7
  extract_lets +onlyGivenNames -merge -lift -underBinder s9
  have h10 : Keeps F a s9 := by
    unfold s9
    split
    · exact Keeps.other h8 (hses := .inr (hF (by decide +kernel)))
    · exact h8
  clear_value s9
  exact keeps_settleEntry (Piece.sub hF (by decide +kernel)) h10

theorem keeps_stepItemEnd {F : List Piece} {a : State} {ctx sid i : ℕ} {read : Option ℕ} {s : State} (hF : [.mbx, .ses, .tier, .gore, .attn,
    .pwr, .dec, .pool, .ring, .TXT_SLOT, .TIER_OBJ, .TIER_DRV, .TIER_CNT, .RING_CNT, .PWR_DROGUE, .PWR_CNT, .POOL_OBJ, .POOL_CNT, .MTR_LIVE,
        .MBX_SUM, .MBX_CNT, .HTI_W_MBSTS, .HTI_W_EVT, .HTI_CNT, .GORE_TILE_CNT, .GORE_PANEL, .GORE_CTX, .GORE_CNT, .GORE_ATTN_CNT, .DEC_GRAM,
            .DEC_GAUGE, .DEC_CNT, .CTL_READY, .CTL_PM] ⊆ F) (hs : Keeps F a s) :
    Keeps F a (stepItemEnd ctx sid i read s) := by
  delta stepItemEnd
  split
  · exact hs
  · split
    · exact hs
    · refine keeps_ite (fun _ => ?_) (fun _ => hs)
      extract_lets +onlyGivenNames -merge -lift -underBinder s1
      have h2 : Keeps F a s1 := by
        unfold s1
        exact hs
      clear_value s1
      exact keeps_ite (fun _ => keeps_winch (Piece.sub hF (by decide +kernel)) (keeps_endCancelled (Piece.sub hF (by decide +kernel)) hs)) (fun _
          => keeps_ite (fun _ => keeps_winch (Piece.sub hF (by decide +kernel)) (keeps_itemDone (Piece.sub hF (by decide +kernel)) hs)) (fun _ => hs))

theorem keeps_execStepItemEnd {F : List Piece} {a : State} {ctx stepId entry : ℕ} {read : Option ℕ} {s : State} (hF : [.hti, .mbx, .ses, .tier,
    .gore, .attn, .pwr, .fleet, .dec, .pool, .ring, .TXT_SLOT, .TIER_OBJ, .TIER_DRV, .TIER_CNT, .SHP_CTX_CNT, .SEC_CNT, .RING_EVAC, .RING_CNT,
        .PWR_DROGUE, .PWR_CNT, .POOL_OBJ, .POOL_CNT, .MTR_LIVE, .MBX_SUM, .MBX_CNT, .HTI_W_QFAULT, .HTI_W_MBSTS, .HTI_W_EVT, .HTI_CNT,
            .GORE_TILE_CNT, .GORE_PANEL, .GORE_CTX, .GORE_CNT, .GORE_ATTN_CNT, .DEC_GRAM, .DEC_GAUGE, .DEC_CNT, .CTL_SES, .CTL_READY, .CTL_PM] ⊆
                F) (hs : Keeps F a s) :
    KeepsO F a (execStepItemEnd ctx stepId entry read s) := by
  delta execStepItemEnd
  exact KeepsO.mk (keeps_pump (Piece.sub hF (by decide +kernel)) (keeps_stepItemEnd (Piece.sub hF (by decide +kernel)) hs))

theorem keeps_goreFence {F : List Piece} {a : State} {gore cause : ℕ} {s : State} (hF : [.latch, .hti, .mbx, .boot, .ses, .tier, .gore, .attn,
    .pwr, .pins, .fab, .fleet, .dec, .pool, .rcl, .ring, .sec, .RING_PORT, .RING_PORT_CNT, .RING_LED, .RING_CNT, .RING_BYP, .PWR_DROGUE,
        .PWR_CNT, .POOL_PORT, .MBX_SUM, .MBX_CNT, .HTI_W_MBSTS, .HTI_W_FLT, .HTI_CNT, .GORE_PANEL, .GORE_CTX, .GORE_CNT, .CTL_RST, .CTL_READY,
            .CTL_PM, .CTL_PIN] ⊆ F) (hs : Keeps F a s) :
    Keeps F a (goreFence gore cause s) := by
  delta goreFence
  extract_lets +onlyGivenNames -merge -lift -underBinder v1
  clear_value v1
  refine keeps_ite (fun _ => hs) (fun _ => ?_)
  extract_lets +onlyGivenNames -merge -lift -underBinder s2
  have h3 : Keeps F a s2 := by
    unfold s2
    exact hs
  clear_value s2
  extract_lets +onlyGivenNames -merge -lift -underBinder v4
  clear_value v4
  extract_lets +onlyGivenNames -merge -lift -underBinder s5
  have h6 : Keeps F a s5 := by
    unfold s5
    exact keeps_bump (keeps_wr hs ⟨rfl, hF (by decide +kernel)⟩) ⟨rfl, hF (by decide +kernel)⟩
  clear_value s5
  extract_lets +onlyGivenNames -merge -lift -underBinder s7
  have h8 : Keeps F a s7 := by
    unfold s7
    split
    · exact keeps_rerunItem (Piece.sub hF (by decide +kernel)) (keeps_goreFault (Piece.sub hF (by decide +kernel)) h6)
    · exact h6
  clear_value s7
  exact keeps_checkPanels (Piece.sub hF (by decide +kernel)) (keeps_winch (Piece.sub hF (by decide +kernel)) (keeps_refreshPanel (Piece.sub hF
      (by decide +kernel)) h8))

theorem keeps_execGoreFence {F : List Piece} {a : State} {gore cause : ℕ} {s : State} (hF : [.latch, .hti, .mbx, .boot, .ses, .tier, .gore,
    .attn, .pwr, .pins, .fab, .fleet, .dec, .pool, .rcl, .ring, .sec, .RING_PORT, .RING_PORT_CNT, .RING_LED, .RING_CNT, .RING_BYP, .PWR_DROGUE,
        .PWR_CNT, .POOL_PORT, .MBX_SUM, .MBX_CNT, .HTI_W_MBSTS, .HTI_W_FLT, .HTI_CNT, .GORE_PANEL, .GORE_CTX, .GORE_CNT, .CTL_RST, .CTL_READY,
            .CTL_PM, .CTL_PIN] ⊆ F) (hs : Keeps F a s) :
    KeepsO F a (execGoreFence gore cause s) := by
  delta execGoreFence
  exact KeepsO.mk (keeps_ite (fun _ => keeps_goreFence (Piece.sub hF (by decide +kernel)) hs) (fun _ => hs))

theorem keeps_endStep {F : List Piece} {a s : State} {t : Step} (hF : [.hti, .attn, .fleet, .ring, .SHP_CTX_CNT, .SEC_CNT, .HTI_W_QFAULT,
    .HTI_CNT, .GORE_ROLE, .GORE_CNT, .GORE_ATTN_CNT, .CTL_ADM, .CTL_ADM_CNT] ⊆ F) (hs : Keeps F a s) :
    Keeps F a (State.endStep s t) := by
  delta State.endStep
  extract_lets +onlyGivenNames -merge -lift -underBinder s1
  have h2 : Keeps F a s1 := by
    unfold s1
    exact keeps_foldl (fun s3 x4 h5 => keeps_foldl (fun s6 x7 h8 => keeps_writeMarker (Piece.sub hF (by decide +kernel)) h8) h5) hs
  clear_value s1
  extract_lets +onlyGivenNames -merge -lift -underBinder s9
  have h10 : Keeps F a s9 := by
    unfold s9
    exact keeps_writeFlag h2
  clear_value s9
  extract_lets +onlyGivenNames -merge -lift -underBinder s11
  have h12 : Keeps F a s11 := by
    unfold s11
    exact keeps_setSteps (Piece.sub hF (by decide +kernel)) h10
  clear_value s11
  extract_lets +onlyGivenNames -merge -lift -underBinder v13
  clear_value v13
  extract_lets +onlyGivenNames -merge -lift -underBinder s14
  have h15 : Keeps F a s14 := by
    unfold s14
    exact keeps_foldl (fun s16 x17 h18 => keeps_finish (Piece.sub hF (by decide +kernel)) h18) h12
  clear_value s14
  extract_lets +onlyGivenNames -merge -lift -underBinder v19 v20 v21
  clear_value v19 v20 v21
  extract_lets +onlyGivenNames -merge -lift -underBinder s22
  have h23 : Keeps F a s22 := by
    unfold s22
    exact keeps_finish (Piece.sub hF (by decide +kernel)) h15
  clear_value s22
  exact keeps_ite (fun _ => keeps_autoShift (Piece.sub hF (by decide +kernel)) h23) (fun _ => keeps_autoShift (Piece.sub hF (by decide +kernel))
      (keeps_roleNow (Piece.sub hF (by decide +kernel)) h23))

theorem keeps_stepEnd {F : List Piece} {a : State} {ctx sid : ℕ} {s : State} (hF : [.hti, .attn, .fleet, .ring, .SHP_CTX_CNT, .SEC_CNT,
    .HTI_W_QFAULT, .HTI_CNT, .GORE_ROLE, .GORE_CNT, .GORE_ATTN_CNT, .CTL_ADM, .CTL_ADM_CNT] ⊆ F) (hs : Keeps F a s) :
    Keeps F a (stepEnd ctx sid s) := by
  delta stepEnd
  split
  · exact hs
  · exact keeps_ite (fun _ => hs) (fun _ => keeps_endStep (Piece.sub hF (by decide +kernel)) hs)

theorem keeps_execStepEnd {F : List Piece} {a : State} {dt ctx stepId : ℕ} {s : State} (hF : [.hti, .ses, .tier, .attn, .fleet, .pool, .ring,
    .TIER_STALL, .TIER_OBJ, .TIER_CNT, .SHP_CTX_CNT, .SEC_CNT, .RING_PORT_CNT, .RING_EVAC, .RING_CNT, .PWR_CNT, .POOL_OBJ, .POOL_CNT, .MTR_LIVE,
        .HTI_W_QFAULT, .HTI_TIME, .HTI_CNT, .GORE_ROLE, .GORE_CTX_CNT, .GORE_CNT, .GORE_CLASS, .GORE_ATTN_CNT, .CTL_SES, .CTL_RT, .CTL_RST_CNT,
            .CTL_READY, .CTL_PIN_CNT, .CTL_ADM, .CTL_ADM_CNT] ⊆ F) (hs : Keeps F a s) :
    KeepsO F a (execStepEnd dt ctx stepId s) := by
  delta execStepEnd
  exact KeepsO.mk (keeps_pump (Piece.sub hF (by decide +kernel)) (keeps_stepEnd (Piece.sub hF (by decide +kernel)) (keeps_pass (Piece.sub hF
      (by decide +kernel)) hs)))

/-! ### Recall -/

theorem keeps_closeQuery {F : List Piece} {a s : State} {ix : RIndex} {r : RRun} {qn : ℕ} {q : RQuery} {unread : List ℕ} (hF : [.RCL_CNT] ⊆ F)
    (hs : Keeps F a s) :
    KeepsP F a (State.closeQuery s ix r qn q unread) := by
  delta State.closeQuery
  extract_lets +onlyGivenNames -merge -lift -underBinder v1 v2 v3 v4
  clear_value v1 v2 v3 v4
  extract_lets +onlyGivenNames -merge -lift -underBinder s5
  have h6 : Keeps F a s5 := by
    unfold s5
    exact keeps_bump (keeps_bump hs ⟨rfl, hF (by decide +kernel)⟩) ⟨rfl, hF (by decide +kernel)⟩
  clear_value s5
  extract_lets +onlyGivenNames -merge -lift -underBinder s7
  have h8 : Keeps F a s7 := by
    unfold s7
    exact keeps_bump h6 ⟨rfl, hF (by decide +kernel)⟩
  clear_value s7
  exact KeepsP.mk (keeps_writeQuery h8)

theorem keeps_roundQuery {F : List Piece} {a s : State} {ix : RIndex} {r : RRun} {unread : List ℕ} {qn : ℕ} {q : RQuery} (hF : [.RCL_CTX_CNT,
    .RCL_CNT, .MTR_LIVE] ⊆ F) (hs : Keeps F a s) :
    KeepsP F a (State.roundQuery s ix r unread qn q) := by
  delta State.roundQuery
  refine keepsP_ite (fun _ => KeepsP.mk hs) (fun _ => ?_)
  extract_lets +onlyGivenNames -merge -lift -underBinder v1
  clear_value v1
  extract_lets +onlyGivenNames -merge -lift -underBinder s2
  have h3 : Keeps F a s2 := by
    unfold s2
    exact keeps_bump (keeps_bump hs ⟨rfl, hF (by decide +kernel)⟩) ⟨rfl, hF (by decide +kernel)⟩
  clear_value s2
  extract_lets +onlyGivenNames -merge -lift -underBinder s4
  have h5 : Keeps F a s4 := by
    unfold s4
    exact keeps_bump h3 ⟨rfl, hF (by decide +kernel)⟩
  clear_value s4
  extract_lets +onlyGivenNames -merge -lift -underBinder s6
  have h7 : Keeps F a s6 := by
    unfold s6
    exact keeps_bump (keeps_bump h5 ⟨rfl, hF (by decide +kernel)⟩) ⟨rfl, hF (by decide +kernel)⟩
  clear_value s6
  exact keepsP_ite (fun _ => keeps_closeQuery (Piece.sub hF (by decide +kernel)) h7) (fun _ => KeepsP.mk (keeps_bump h7 ⟨rfl, hF
      (by decide +kernel)⟩))

theorem keeps_codebookLoad {F : List Piece} {a : State} {src : SrcRead} {c : Cmd} {s : State} (hF : [.hti, .tier, .pool, .rcl, .ring, .TIER_RSV,
    .SHP_CTX_CNT, .SEC_CNT, .RING_CNT, .RCL_IDX, .RCL_GAUGE, .POOL_REGION, .POOL_LEND, .POOL_CNT, .HTI_W_QFAULT, .HTI_CNT] ⊆ F) (hs : Keeps F a s) :
    Keeps F a (codebookLoad src c s) := by
  delta codebookLoad
  extract_lets +onlyGivenNames -merge -lift -underBinder v1 v2 v3 v4 v5 v6 v7
  clear_value v1 v2 v3 v4 v5 v6 v7
  split
  · exact keeps_finish (Piece.sub hF (by decide +kernel)) hs
  · refine keeps_ite (fun _ => keeps_finish (Piece.sub hF (by decide +kernel)) hs) (fun _ => ?_)
    refine keeps_ite (fun _ => keeps_finish (Piece.sub hF (by decide +kernel)) hs) (fun _ => ?_)
    split
    · exact keeps_finish (Piece.sub hF (by decide +kernel)) hs
    · split
      · exact keeps_finish (Piece.sub hF (by decide +kernel)) hs
      · extract_lets +onlyGivenNames -merge -lift -underBinder v8 v9 v10
        clear_value v8 v9 v10
        refine keeps_ite (fun _ => keeps_finish (Piece.sub hF (by decide +kernel)) (keeps_rsvFull (Piece.sub hF (by decide +kernel)) hs)) (fun _
            => ?_)
        extract_lets +onlyGivenNames -merge -lift -underBinder v11
        clear_value v11
        extract_lets +onlyGivenNames -merge -lift -underBinder s12
        have h13 : Keeps F a s12 := by
          unfold s12
          split
          · split
            · exact keeps_letGo (Piece.sub hF (by decide +kernel)) hs
            · exact hs
          · exact hs
        clear_value s12
        extract_lets +onlyGivenNames -merge -lift -underBinder v14 v15
        clear_value v14 v15
        extract_lets +onlyGivenNames -merge -lift -underBinder s16
        have h17 : Keeps F a s16 := by
          unfold s16
          refine keeps_ite (fun _ => h13) (fun _ => ?_)
          refine keeps_ite (fun _ => ?_) (fun _ => keeps_send (Piece.sub hF (by decide +kernel)) h13)
          split
          · exact keeps_addHold (Piece.sub hF (by decide +kernel)) h13
          · exact h13
        clear_value s16
        extract_lets +onlyGivenNames -merge -lift -underBinder v18 v19
        clear_value v18 v19
        exact keeps_finish (Piece.sub hF (by decide +kernel)) (keeps_setIndex (Piece.sub hF (by decide +kernel)) (keeps_rsvSwap (Piece.sub hF
            (by decide +kernel)) h17))

theorem keeps_execCodebookLoad {F : List Piece} {a : State} {k : ℕ} {src : SrcRead} {s : State} (hF : [.hti, .tier, .pool, .rcl, .ring,
    .TIER_RSV, .SHP_CTX_CNT, .SEC_CNT, .RING_CNT, .RCL_IDX, .RCL_GAUGE, .POOL_REGION, .POOL_LEND, .POOL_CNT, .HTI_W_QFAULT, .HTI_CNT] ⊆ F) (hs :
        Keeps F a s) :
    KeepsO F a (execCodebookLoad k src s) := by
  delta execCodebookLoad
  exact KeepsO.mk (keeps_begin (Piece.sub hF (by decide +kernel)) hs (fun y1 y2 h3 => keeps_codebookLoad (Piece.sub hF (by decide +kernel)) h3))

theorem keeps_execRclCntClr {F : List Piece} {a : State} {value : ℕ} {s : State} (hF : [.RCL_CNT] ⊆ F) (hs : Keeps F a s) :
    KeepsO F a (execRclCntClr value s) := by
  delta execRclCntClr
  exact KeepsO.mk (keeps_hostWrite hs (fun y1 h2 => keeps_ite (fun _ => keeps_zeroAll h2 ⟨rfl, hF (by decide +kernel)⟩) (fun _ => h2)))

theorem keeps_execIndexCommit {F : List Piece} {a : State} {index : ℕ} {s : State} (hF : [.hti, .ses, .tier, .pool, .rcl, .ring, .TIER_OBJ,
    .TIER_DRV, .TIER_CNT, .SHP_CTX_CNT, .SEC_CNT, .RCL_IDX, .RCL_GAUGE, .RCL_CTX_CNT, .RCL_CNT, .POOL_OBJ, .POOL_CNT, .HTI_W_QFAULT, .HTI_CNT,
        .CTL_READY] ⊆ F) (hs : Keeps F a s) :
    KeepsO F a (execIndexCommit index s) := by
  delta execIndexCommit
  refine KeepsO.mk ?_
  split
  · exact keeps_ite (fun _ => keeps_commitNext (Piece.sub hF (by decide +kernel)) hs) (fun _ => hs)
  · exact hs

theorem keeps_compactionStart {F : List Piece} {a : State} {n l : ℕ} {s : State} (hF : [.ses, .tier, .gore, .pwr, .PWR_DROGUE, .PWR_CNT,
    .GORE_PANEL, .GORE_CTX, .GORE_CNT, .CTL_PM] ⊆ F) (hs : Keeps F a s) :
    Keeps F a (compactionStart n l s) := by
  delta compactionStart
  split
  · exact hs
  · extract_lets +onlyGivenNames -merge -lift -underBinder v1 v2 v3
    clear_value v1 v2 v3
    exact keeps_ite (fun _ => hs) (fun _ => keeps_winch (Piece.sub hF (by decide +kernel)) (keeps_addItem (Piece.sub hF (by decide +kernel)) hs))

theorem keeps_execCompactionStart {F : List Piece} {a : State} {slot list : ℕ} {s : State} (hF : [.ses, .tier, .gore, .pwr, .PWR_DROGUE,
    .PWR_CNT, .GORE_PANEL, .GORE_CTX, .GORE_CNT, .CTL_PM] ⊆ F) (hs : Keeps F a s) :
    KeepsO F a (execCompactionStart slot list s) := by
  delta execCompactionStart
  exact KeepsO.mk (keeps_compactionStart (Piece.sub hF (by decide +kernel)) hs)

theorem keeps_loseVecs {F : List Piece} {a s : State} {n : ℕ} {ps : List ℕ} (hF : [.ses, .tier, .TIER_CNT] ⊆ F) (hs : Keeps F a s) :
    Keeps F a (State.loseVecs s n ps) := by
  delta State.loseVecs
  refine keeps_foldl (fun s1 x2 h3 => ?_) hs
  extract_lets +onlyGivenNames -merge -lift -underBinder v4
  clear_value v4
  split
  · exact keeps_bump (keeps_putPage (Piece.sub hF (by decide +kernel)) h3) ⟨rfl, hF (by decide +kernel)⟩
  · exact h3

theorem keeps_queryRoundEnd {F : List Piece} {a : State} {k : ℕ} {unread : List (ℕ × ℕ)} {s : State} (hF : [.hti, .ses, .tier, .gore, .pwr, .rcl,
    .ring, .TIER_CNT, .SHP_CTX_CNT, .SEC_CNT, .RCL_CTX_CNT, .RCL_CNT, .PWR_DROGUE, .PWR_CNT, .MTR_LIVE, .HTI_W_QFAULT, .HTI_CNT, .GORE_PANEL,
        .GORE_CTX, .GORE_CTX_CNT, .GORE_CNT, .CTL_PM] ⊆ F) (hs : Keeps F a s) :
    Keeps F a (queryRoundEnd k unread s) := by
  delta queryRoundEnd
  split
  · exact hs
  · refine keeps_ite (fun _ => hs) (fun _ => ?_)
    split
    · exact hs
    · extract_lets +onlyGivenNames -merge -lift -underBinder s1
      have h2 : Keeps F a s1 := by
        unfold s1
        exact keeps_loseVecs (Piece.sub hF (by decide +kernel)) hs
      clear_value s1
      extract_lets +onlyGivenNames -merge -lift -underBinder v3
      clear_value v3
      extract_lets +onlyGivenNames -merge -lift -underBinder p4
      have h5 : KeepsP F a p4 := by
        unfold p4
        refine keeps_foldp (fun s6 x7 h8 => ?_) (KeepsP.mk h2)
        extract_lets +onlyGivenNames -merge -lift -underBinder p9
        have h10 : KeepsP F a p9 := by
          unfold p9
          exact keeps_roundQuery (Piece.sub hF (by decide +kernel)) (KeepsP.proj h8)
        clear_value p9
        exact KeepsP.mk (KeepsP.proj h10)
      clear_value p4
      extract_lets +onlyGivenNames -merge -lift -underBinder v11
      clear_value v11
      extract_lets +onlyGivenNames -merge -lift -underBinder s12
      have h13 : Keeps F a s12 := by
        unfold s12
        exact keeps_setRun (Piece.sub hF (by decide +kernel)) (KeepsP.proj h5)
      clear_value s12
      exact keeps_ite (fun _ => keeps_endRun (Piece.sub hF (by decide +kernel)) h13) (fun _ => keeps_winch (Piece.sub hF (by decide +kernel))
          (keeps_formRound (Piece.sub hF (by decide +kernel)) h13))

theorem keeps_indexCreate {F : List Piece} {a : State} {c : Cmd} {s : State} (hF : [.hti, .tier, .rcl, .ring, .SHP_CTX_CNT, .SEC_CNT, .RCL_IDX,
    .RCL_GAUGE, .HTI_W_QFAULT, .HTI_CNT] ⊆ F) (hs : Keeps F a s) :
    Keeps F a (indexCreate c s) := by
  delta indexCreate
  extract_lets +onlyGivenNames -merge -lift -underBinder v1 v2
  clear_value v1 v2
  split
  · exact keeps_finish (Piece.sub hF (by decide +kernel)) hs
  · refine keeps_ite (fun _ => keeps_finish (Piece.sub hF (by decide +kernel)) hs) (fun _ => ?_)
    extract_lets +onlyGivenNames -merge -lift -underBinder v3 v4 v5
    clear_value v3 v4 v5
    extract_lets +onlyGivenNames -merge -lift -underBinder s6
    have h7 : Keeps F a s6 := by
      unfold s6
      exact Keeps.other hs (htier := .inr (hF (by decide +kernel)))
    clear_value s6
    exact keeps_finish (Piece.sub hF (by decide +kernel)) (keeps_setIndex (Piece.sub hF (by decide +kernel)) h7)

theorem keeps_execIndexCreateCreate {F : List Piece} {a : State} {k : ℕ} {s : State} (hF : [.hti, .tier, .rcl, .ring, .SHP_CTX_CNT, .SEC_CNT,
    .RCL_IDX, .RCL_GAUGE, .HTI_W_QFAULT, .HTI_CNT] ⊆ F) (hs : Keeps F a s) :
    KeepsO F a (execIndexCreateCreate k s) := by
  delta execIndexCreateCreate
  exact KeepsO.mk (keeps_begin (Piece.sub hF (by decide +kernel)) hs (fun y1 y2 h3 => keeps_notEvacuating (Piece.sub hF (by decide +kernel)) (fun
      y4 y5 h6 => keeps_indexCreate (Piece.sub hF (by decide +kernel)) h6) h3))

theorem keeps_writeVecs {F : List Piece} {a s : State} {n : ℕ} {x0 : List ℕ} (hF : [.ses, .tier] ⊆ F) (hs : Keeps F a s) :
    KeepsM F a (State.writeVecs s n x0) := by
  induction x0 generalizing s n with
  | nil =>
    rw [State.writeVecs.eq_1]
    exact KeepsM.mk hs
  | cons _ _ ih =>
    rw [State.writeVecs.eq_2]
    split
    · split
      · exact ih (keeps_emitPage hs)
      · exact ih hs
    · split
      · exact KeepsM.nil
      · extract_lets +onlyGivenNames -merge -lift -underBinder v1
        clear_value v1
        exact ih (keeps_emitPage (keeps_putPage (Piece.sub hF (by decide +kernel)) hs))

theorem keeps_indexInsert {F : List Piece} {a : State} {src : Option (List (List ℕ))} {metas : List (List ℕ)} {c : Cmd} {s : State} (hF : [.hti,
    .ses, .tier, .gore, .pwr, .pool, .rcl, .ring, .TIER_OBJ, .TIER_DRV, .TIER_CNT, .SHP_CTX_CNT, .SEC_CNT, .RCL_IDX, .RCL_GAUGE, .PWR_DROGUE,
        .PWR_CNT, .POOL_OBJ, .POOL_CNT, .HTI_W_QFAULT, .HTI_CNT, .GORE_PANEL, .GORE_CTX, .GORE_CNT, .CTL_READY, .CTL_PM] ⊆ F) (hs : Keeps F a s) :
    Keeps F a (indexInsert src metas c s) := by
  delta indexInsert
  extract_lets +onlyGivenNames -merge -lift -underBinder v1
  extract_lets +onlyGivenNames -merge -lift -underBinder v2
  extract_lets +onlyGivenNames -merge -lift -underBinder v3
  extract_lets +onlyGivenNames -merge -lift -underBinder v4
  extract_lets +onlyGivenNames -merge -lift -underBinder v5
  split
  · exact keeps_finish (Piece.sub hF (by decide +kernel)) hs
  · split
    · exact keeps_finish (Piece.sub hF (by decide +kernel)) hs
    · refine keeps_ite (fun _ => keeps_finish (Piece.sub hF (by decide +kernel)) hs) (fun _ => ?_)
      extract_lets +onlyGivenNames -merge -lift -underBinder v6
      extract_lets +onlyGivenNames -merge -lift -underBinder v7
      extract_lets +onlyGivenNames -merge -lift -underBinder v8
      extract_lets +onlyGivenNames -merge -lift -underBinder f24
      unfold f24
      beta_reduce
      split
      · exact keeps_takeSeq (Piece.sub hF (by decide +kernel)) hs
      · extract_lets +onlyGivenNames -merge -lift -underBinder v9
        split
        · exact keeps_takeSeq (Piece.sub hF (by decide +kernel)) hs
        · extract_lets +onlyGivenNames -merge -lift -underBinder v10
          refine keeps_ite (fun _ => keeps_takeSeq (Piece.sub hF (by decide +kernel)) hs) (fun _ => ?_)
          extract_lets +onlyGivenNames -merge -lift -underBinder v11
          extract_lets +onlyGivenNames -merge -lift -underBinder v12
          extract_lets +onlyGivenNames -merge -lift -underBinder v13
          extract_lets +onlyGivenNames -merge -lift -underBinder v14
          extract_lets +onlyGivenNames -merge -lift -underBinder v15
          refine keeps_ite (fun _ => keeps_takeSeq (Piece.sub hF (by decide +kernel)) hs) (fun _ => ?_)
          split
          · exact keeps_takeSeq (Piece.sub hF (by decide +kernel)) hs
          · rename_i x18 e20
            have h19 := KeepsM.get e20 (F := F) (a := a) (by
                exact keeps_writeVecs (Piece.sub hF (by decide +kernel)) (keeps_setIndex (Piece.sub hF (by decide +kernel)) hs)
              )
            extract_lets +onlyGivenNames -merge -lift -underBinder v21
            extract_lets +onlyGivenNames -merge -lift -underBinder s22
            have h23 : Keeps F a s22 := by
              unfold s22
              exact keeps_sinkIndex (Piece.sub hF (by decide +kernel)) (keeps_writePages (Piece.sub hF (by decide +kernel)) (keeps_takeSeq
                  (Piece.sub hF (by decide +kernel)) h19))
            clear_value s22
            exact keeps_winch (Piece.sub hF (by decide +kernel)) (keeps_addItem (Piece.sub hF (by decide +kernel)) h23)

theorem keeps_execIndexInsert {F : List Piece} {a : State} {k : ℕ} {src : Option (List (List ℕ))} {metas : List (List ℕ)} {s : State} (hF :
    [.hti, .ses, .tier, .gore, .pwr, .pool, .rcl, .ring, .TIER_OBJ, .TIER_DRV, .TIER_CNT, .SHP_CTX_CNT, .SEC_CNT, .RCL_IDX, .RCL_GAUGE,
        .PWR_DROGUE, .PWR_CNT, .POOL_OBJ, .POOL_CNT, .HTI_W_QFAULT, .HTI_CNT, .GORE_PANEL, .GORE_CTX, .GORE_CNT, .CTL_READY, .CTL_PM] ⊆ F) (hs :
            Keeps F a s) :
    KeepsO F a (execIndexInsert k src metas s) := by
  delta execIndexInsert
  exact KeepsO.mk (keeps_begin (Piece.sub hF (by decide +kernel)) hs (fun y1 y2 h3 => keeps_indexInsert (Piece.sub hF (by decide +kernel)) h3))

theorem keeps_helperLoad {F : List Piece} {a : State} {src : SrcRead} {c : Cmd} {s : State} (hF : [.hti, .tier, .rcl, .ring, .TIER_RSV,
    .SHP_CTX_CNT, .SEC_CNT, .RCL_HELPER, .RCL_GAUGE, .HTI_W_QFAULT, .HTI_CNT] ⊆ F) (hs : Keeps F a s) :
    Keeps F a (helperLoad src c s) := by
  delta helperLoad
  extract_lets +onlyGivenNames -merge -lift -underBinder v1 v2 v3 v4
  clear_value v1 v2 v3 v4
  refine keeps_ite (fun _ => keeps_finish (Piece.sub hF (by decide +kernel)) hs) (fun _ => ?_)
  split
  · exact keeps_finish (Piece.sub hF (by decide +kernel)) hs
  · extract_lets +onlyGivenNames -merge -lift -underBinder f22
    unfold f22
    beta_reduce
    split
    · exact keeps_finish (Piece.sub hF (by decide +kernel)) hs
    · extract_lets +onlyGivenNames -merge -lift -underBinder v5 v6 v7 v8
      clear_value v5 v6 v7 v8
      extract_lets +onlyGivenNames -merge -lift -underBinder s9
      have h10 : Keeps F a s9 := by
        unfold s9
        exact keeps_ite (fun _ => keeps_rsvFull (Piece.sub hF (by decide +kernel)) hs) (fun _ => hs)
      clear_value s9
      extract_lets +onlyGivenNames -merge -lift -underBinder f21
      unfold f21
      beta_reduce
      refine keeps_ite (fun _ => ?_) (fun _ => ?_)
      · extract_lets +onlyGivenNames -merge -lift -underBinder v11
        clear_value v11
        extract_lets +onlyGivenNames -merge -lift -underBinder s12
        have h13 : Keeps F a s12 := by
          unfold s12
          split
          · exact keeps_lendPages (Piece.sub hF (by decide +kernel)) h10
          · exact h10
        clear_value s12
        extract_lets +onlyGivenNames -merge -lift -underBinder s14
        have h15 : Keeps F a s14 := by
          unfold s14
          exact keeps_setHelper (Piece.sub hF (by decide +kernel)) (keeps_lendPages (Piece.sub hF (by decide +kernel)) (keeps_rsvSwap (Piece.sub
              hF (by decide +kernel)) h13))
        clear_value s14
        exact keeps_finish (Piece.sub hF (by decide +kernel)) h15
      · split
        · extract_lets +onlyGivenNames -merge -lift -underBinder v16
          clear_value v16
          extract_lets +onlyGivenNames -merge -lift -underBinder s17
          have h18 : Keeps F a s17 := by
            unfold s17
            split
            · exact keeps_lendPages (Piece.sub hF (by decide +kernel)) h10
            · exact h10
          clear_value s17
          extract_lets +onlyGivenNames -merge -lift -underBinder s19
          have h20 : Keeps F a s19 := by
            unfold s19
            exact keeps_setHelper (Piece.sub hF (by decide +kernel)) (keeps_lendPages (Piece.sub hF (by decide +kernel)) (keeps_rsvSwap
                (Piece.sub hF (by decide +kernel)) h18))
          clear_value s19
          exact keeps_finish (Piece.sub hF (by decide +kernel)) h20
        · exact keeps_ite (fun _ => keeps_finish (Piece.sub hF (by decide +kernel)) h10) (fun _ => keeps_finish (Piece.sub hF (by decide +kernel)) hs)

theorem keeps_execHelperLoadLoad {F : List Piece} {a : State} {k : ℕ} {src : SrcRead} {s : State} (hF : [.hti, .tier, .rcl, .ring, .TIER_RSV,
    .SHP_CTX_CNT, .SEC_CNT, .RCL_HELPER, .RCL_GAUGE, .HTI_W_QFAULT, .HTI_CNT] ⊆ F) (hs : Keeps F a s) :
    KeepsO F a (execHelperLoadLoad k src s) := by
  delta execHelperLoadLoad
  exact KeepsO.mk (keeps_begin (Piece.sub hF (by decide +kernel)) hs (fun y1 y2 h3 => keeps_helperLoad (Piece.sub hF (by decide +kernel)) h3))

theorem keeps_dropParts {F : List Piece} {a s : State} {n : ℕ} {ix : RIndex} (hF : [.tier, .pool, .ring, .TIER_RSV, .RING_CNT, .POOL_REGION,
    .POOL_LEND, .POOL_CNT] ⊆ F) (hs : Keeps F a s) :
    Keeps F a (State.dropParts s n ix) := by
  delta State.dropParts
  refine keeps_foldl (fun s1 x2 h3 => ?_) hs
  split
  · extract_lets +onlyGivenNames -merge -lift -underBinder s4
    have h5 : Keeps F a s4 := by
      unfold s4
      exact keeps_rsvSwap (Piece.sub hF (by decide +kernel)) h3
    clear_value s4
    split
    · exact keeps_letGo (Piece.sub hF (by decide +kernel)) h5
    · exact h5
  · exact h3

theorem keeps_indexDestroy {F : List Piece} {a : State} {c : Cmd} {s : State} (hF : [.hti, .ses, .tier, .gore, .pool, .rcl, .ring, .TIER_RSV,
    .TIER_OBJ, .SHP_CTX_CNT, .SEC_CNT, .RING_CNT, .RCL_IDX, .RCL_GAUGE, .POOL_REGION, .POOL_OBJ, .POOL_LEND, .POOL_CNT, .HTI_W_QFAULT, .HTI_CNT,
        .GORE_CTX, .GORE_CTX_CNT, .CTL_READY] ⊆ F) (hs : Keeps F a s) :
    Keeps F a (indexDestroy c s) := by
  delta indexDestroy
  extract_lets +onlyGivenNames -merge -lift -underBinder v1
  clear_value v1
  split
  · exact keeps_finish (Piece.sub hF (by decide +kernel)) hs
  · extract_lets +onlyGivenNames -merge -lift -underBinder v2
    clear_value v2
    extract_lets +onlyGivenNames -merge -lift -underBinder s3
    have h4 : Keeps F a s3 := by
      unfold s3
      exact keeps_dropParts (Piece.sub hF (by decide +kernel)) (keeps_emptyAll (Piece.sub hF (by decide +kernel)) (keeps_killItems (Piece.sub hF
          (by decide +kernel)) hs))
    clear_value s3
    extract_lets +onlyGivenNames -merge -lift -underBinder v5
    clear_value v5
    extract_lets +onlyGivenNames -merge -lift -underBinder s6
    have h7 : Keeps F a s6 := by
      unfold s6
      exact Keeps.other h4 (htier := .inr (hF (by decide +kernel)))
    clear_value s6
    extract_lets +onlyGivenNames -merge -lift -underBinder v8
    clear_value v8
    extract_lets +onlyGivenNames -merge -lift -underBinder s9
    have h10 : Keeps F a s9 := by
      unfold s9
      exact keeps_setRcl (Piece.sub hF (by decide +kernel)) h7
    clear_value s9
    exact keeps_finish (Piece.sub hF (by decide +kernel)) (keeps_showIndex (Piece.sub hF (by decide +kernel)) h10)

theorem keeps_execRclCtxCntClr {F : List Piece} {a : State} {value : ℕ} {s : State} (hF : [.latch, .RCL_CTX_CNT] ⊆ F) (hs : Keeps F a s) :
    KeepsO F a (execRclCtxCntClr value s) := by
  delta execRclCtxCntClr
  exact KeepsO.mk (keeps_hostWrite64 (Piece.sub hF (by decide +kernel)) hs ⟨rfl, hF (by decide +kernel)⟩ (fun y1 h2 => keeps_zeroRows h2 ⟨rfl, hF
      (by decide +kernel)⟩))

theorem keeps_indexDelete {F : List Piece} {a : State} {ids : Option (List ℕ)} {c : Cmd} {s : State} (hF : [.hti, .rcl, .ring, .SHP_CTX_CNT,
    .SEC_CNT, .RCL_IDX, .RCL_GAUGE, .HTI_W_QFAULT, .HTI_CNT] ⊆ F) (hs : Keeps F a s) :
    Keeps F a (indexDelete ids c s) := by
  delta indexDelete
  extract_lets +onlyGivenNames -merge -lift -underBinder v1
  clear_value v1
  split
  · exact keeps_finish (Piece.sub hF (by decide +kernel)) hs
  · split
    · exact keeps_finish (Piece.sub hF (by decide +kernel)) hs
    · split
      · exact keeps_takeSeq (Piece.sub hF (by decide +kernel)) hs
      · exact keeps_takeSeq (Piece.sub hF (by decide +kernel)) hs

theorem keeps_execIndexDelete {F : List Piece} {a : State} {k : ℕ} {ids : Option (List ℕ)} {s : State} (hF : [.hti, .rcl, .ring, .SHP_CTX_CNT,
    .SEC_CNT, .RCL_IDX, .RCL_GAUGE, .HTI_W_QFAULT, .HTI_CNT] ⊆ F) (hs : Keeps F a s) :
    KeepsO F a (execIndexDelete k ids s) := by
  delta execIndexDelete
  exact KeepsO.mk (keeps_begin (Piece.sub hF (by decide +kernel)) hs (fun y1 y2 h3 => keeps_indexDelete (Piece.sub hF (by decide +kernel)) h3))

theorem keeps_closeBad {F : List Piece} {a s : State} {r : RRun} (hs : Keeps F a s) :
    KeepsP F a (State.closeBad s r) := by
  delta State.closeBad
  extract_lets +onlyGivenNames -merge -lift -underBinder p1
  have h2 : KeepsP F a p1 := by
    unfold p1
    refine keeps_foldp (fun s3 x4 h5 => ?_) (KeepsP.mk hs)
    split
    · extract_lets +onlyGivenNames -merge -lift -underBinder p6
      have h7 : KeepsP F a p6 := by
        unfold p6
        exact keeps_shutQuery (KeepsP.proj h5)
      clear_value p6
      exact KeepsP.mk (KeepsP.proj h7)
    · exact KeepsP.mk (KeepsP.proj h5)
  clear_value p1
  exact KeepsP.mk (KeepsP.proj h2)

theorem keeps_recallQuery {F : List Piece} {a : State} {queries : Option (List (List ℕ))} {filters : List ℕ} {c : Cmd} {s : State} (hF : [.hti,
    .ses, .tier, .gore, .pwr, .rcl, .ring, .SHP_CTX_CNT, .SEC_CNT, .RCL_CTX_CNT, .RCL_CNT, .PWR_DROGUE, .PWR_CNT, .HTI_W_QFAULT, .HTI_CNT,
        .GORE_PANEL, .GORE_CTX, .GORE_CTX_CNT, .GORE_CNT, .CTL_PM] ⊆ F) (hs : Keeps F a s) :
    Keeps F a (recallQuery queries filters c s) := by
  delta recallQuery
  extract_lets +onlyGivenNames -merge -lift -underBinder v1 v2 v3 v4 v5 v6
  clear_value v1 v2 v3 v4 v5 v6
  split
  · exact keeps_finish (Piece.sub hF (by decide +kernel)) hs
  · refine keeps_ite (fun _ => keeps_finish (Piece.sub hF (by decide +kernel)) hs) (fun _ => ?_)
    refine keeps_ite (fun _ => keeps_finish (Piece.sub hF (by decide +kernel)) hs) (fun _ => ?_)
    refine keeps_ite (fun _ => keeps_finish (Piece.sub hF (by decide +kernel)) hs) (fun _ => ?_)
    split
    · exact keeps_finish (Piece.sub hF (by decide +kernel)) hs
    · extract_lets +onlyGivenNames -merge -lift -underBinder v7 v8
      clear_value v7 v8
      extract_lets +onlyGivenNames -merge -lift -underBinder s9
      have h10 : Keeps F a s9 := by
        unfold s9
        exact keeps_bump (keeps_bump hs ⟨rfl, hF (by decide +kernel)⟩) ⟨rfl, hF (by decide +kernel)⟩
      clear_value s9
      refine keeps_ite (fun _ => keeps_failRun (Piece.sub hF (by decide +kernel)) h10) (fun _ => ?_)
      extract_lets +onlyGivenNames -merge -lift -underBinder p11
      have h12 : KeepsP F a p11 := by
        unfold p11
        exact keeps_closeBad h10
      clear_value p11
      extract_lets +onlyGivenNames -merge -lift -underBinder v13
      clear_value v13
      extract_lets +onlyGivenNames -merge -lift -underBinder s14
      have h15 : Keeps F a s14 := by
        unfold s14
        exact keeps_setRcl (Piece.sub hF (by decide +kernel)) (KeepsP.proj h12)
      clear_value s14
      refine keeps_ite (fun _ => keeps_endRun (Piece.sub hF (by decide +kernel)) h15) (fun _ => ?_)
      extract_lets +onlyGivenNames -merge -lift -underBinder s16
      have h17 : Keeps F a s16 := by
        unfold s16
        exact h15
      clear_value s16
      exact keeps_winch (Piece.sub hF (by decide +kernel)) (keeps_formRound (Piece.sub hF (by decide +kernel)) h15)

theorem keeps_execRecallQuery {F : List Piece} {a : State} {k : ℕ} {queries : Option (List (List ℕ))} {filters : List ℕ} {s : State} (hF : [.hti,
    .ses, .tier, .gore, .pwr, .rcl, .ring, .SHP_CTX_CNT, .SEC_CNT, .RCL_CTX_CNT, .RCL_CNT, .PWR_DROGUE, .PWR_CNT, .HTI_W_QFAULT, .HTI_CNT,
        .GORE_PANEL, .GORE_CTX, .GORE_CTX_CNT, .GORE_CNT, .CTL_PM] ⊆ F) (hs : Keeps F a s) :
    KeepsO F a (execRecallQuery k queries filters s) := by
  delta execRecallQuery
  exact KeepsO.mk (keeps_begin (Piece.sub hF (by decide +kernel)) hs (fun y1 y2 h3 => keeps_recallQuery (Piece.sub hF (by decide +kernel)) h3))

theorem keeps_execCompactionOldChainFree {F : List Piece} {a : State} {slot list : ℕ} {s : State} (hF : [.ses, .tier, .pool, .rcl, .TIER_OBJ,
    .RCL_IDX, .RCL_GAUGE, .POOL_OBJ, .POOL_CNT, .CTL_READY] ⊆ F) (hs : Keeps F a s) :
    KeepsO F a (execCompactionOldChainFree slot list s) := by
  delta execCompactionOldChainFree
  exact KeepsO.mk (keeps_freeOld (Piece.sub hF (by decide +kernel)) hs)

theorem keeps_encoderRun {F : List Piece} {a : State} {tokens : Option (List ℕ)} {offs : List ℕ} {c : Cmd} {s : State} (hF : [.hti, .ses, .tier,
    .gore, .pwr, .rcl, .ring, .SHP_CTX_CNT, .SEC_CNT, .PWR_DROGUE, .PWR_CNT, .HTI_W_QFAULT, .HTI_CNT, .GORE_PANEL, .GORE_CTX, .GORE_CNT, .CTL_PM]
        ⊆ F) (hs : Keeps F a s) :
    Keeps F a (encoderRun tokens offs c s) := by
  delta encoderRun
  extract_lets +onlyGivenNames -merge -lift -underBinder v1 v2 v3
  clear_value v1 v2 v3
  split
  · exact keeps_finish (Piece.sub hF (by decide +kernel)) hs
  · split
    · exact keeps_finish (Piece.sub hF (by decide +kernel)) hs
    · extract_lets +onlyGivenNames -merge -lift -underBinder v4 v5 v6
      clear_value v4 v5 v6
      split
      · exact keeps_finish (Piece.sub hF (by decide +kernel)) hs
      · split
        · exact keeps_finish (Piece.sub hF (by decide +kernel)) hs
        · extract_lets +onlyGivenNames -merge -lift -underBinder v7 v8
          clear_value v7 v8
          extract_lets +onlyGivenNames -merge -lift -underBinder s9
          have h10 : Keeps F a s9 := by
            unfold s9
            exact keeps_setRcl (Piece.sub hF (by decide +kernel)) hs
          clear_value s9
          exact keeps_winch (Piece.sub hF (by decide +kernel)) (keeps_layerItem (Piece.sub hF (by decide +kernel)) h10)

theorem keeps_execEncoderRun {F : List Piece} {a : State} {k : ℕ} {tokens : Option (List ℕ)} {offs : List ℕ} {s : State} (hF : [.hti, .ses,
    .tier, .gore, .pwr, .rcl, .ring, .SHP_CTX_CNT, .SEC_CNT, .PWR_DROGUE, .PWR_CNT, .HTI_W_QFAULT, .HTI_CNT, .GORE_PANEL, .GORE_CTX, .GORE_CNT,
        .CTL_PM] ⊆ F) (hs : Keeps F a s) :
    KeepsO F a (execEncoderRun k tokens offs s) := by
  delta execEncoderRun
  exact KeepsO.mk (keeps_begin (Piece.sub hF (by decide +kernel)) hs (fun y1 y2 h3 => keeps_encoderRun (Piece.sub hF (by decide +kernel)) h3))

theorem keeps_helperRemove {F : List Piece} {a : State} {c : Cmd} {s : State} (hF : [.hti, .tier, .rcl, .ring, .TIER_RSV, .SHP_CTX_CNT, .SEC_CNT,
    .RCL_HELPER, .RCL_GAUGE, .HTI_W_QFAULT, .HTI_CNT] ⊆ F) (hs : Keeps F a s) :
    Keeps F a (helperRemove c s) := by
  delta helperRemove
  extract_lets +onlyGivenNames -merge -lift -underBinder v1
  clear_value v1
  split
  · exact keeps_finish (Piece.sub hF (by decide +kernel)) hs
  · exact keeps_ite (fun _ => keeps_finish (Piece.sub hF (by decide +kernel)) hs) (fun _ => keeps_finish (Piece.sub hF (by decide +kernel))
        (keeps_setHelper (Piece.sub hF (by decide +kernel)) (keeps_lendPages (Piece.sub hF (by decide +kernel)) (keeps_rsvSwap (Piece.sub hF
            (by decide +kernel)) hs))))

theorem keeps_execHelperLoadRemove {F : List Piece} {a : State} {k : ℕ} {s : State} (hF : [.hti, .tier, .rcl, .ring, .TIER_RSV, .SHP_CTX_CNT,
    .SEC_CNT, .RCL_HELPER, .RCL_GAUGE, .HTI_W_QFAULT, .HTI_CNT] ⊆ F) (hs : Keeps F a s) :
    KeepsO F a (execHelperLoadRemove k s) := by
  delta execHelperLoadRemove
  exact KeepsO.mk (keeps_begin (Piece.sub hF (by decide +kernel)) hs (fun y1 y2 h3 => keeps_helperRemove (Piece.sub hF (by decide +kernel)) h3))

theorem keeps_execQueryRoundEnd {F : List Piece} {a : State} {dt k : ℕ} {unread : List (ℕ × ℕ)} {s : State} (hF : [.hti, .ses, .tier, .gore,
    .pwr, .fleet, .rcl, .ring, .TIER_STALL, .TIER_CNT, .SHP_CTX_CNT, .SEC_CNT, .RING_PORT_CNT, .RCL_CTX_CNT, .RCL_CNT, .PWR_DROGUE, .PWR_CNT,
        .MTR_LIVE, .HTI_W_QFAULT, .HTI_TIME, .HTI_CNT, .GORE_PANEL, .GORE_CTX, .GORE_CTX_CNT, .GORE_CNT, .GORE_CLASS, .CTL_RT, .CTL_RST_CNT,
            .CTL_PM, .CTL_PIN_CNT] ⊆ F) (hs : Keeps F a s) :
    KeepsO F a (execQueryRoundEnd dt k unread s) := by
  delta execQueryRoundEnd
  exact KeepsO.mk (keeps_queryRoundEnd (Piece.sub hF (by decide +kernel)) (keeps_pass (Piece.sub hF (by decide +kernel)) hs))

theorem keeps_execIndexCreateDestroy {F : List Piece} {a : State} {k : ℕ} {s : State} (hF : [.hti, .ses, .tier, .gore, .pool, .rcl, .ring,
    .TIER_RSV, .TIER_OBJ, .SHP_CTX_CNT, .SEC_CNT, .RING_CNT, .RCL_IDX, .RCL_GAUGE, .POOL_REGION, .POOL_OBJ, .POOL_LEND, .POOL_CNT, .HTI_W_QFAULT,
        .HTI_CNT, .GORE_CTX, .GORE_CTX_CNT, .CTL_READY] ⊆ F) (hs : Keeps F a s) :
    KeepsO F a (execIndexCreateDestroy k s) := by
  delta execIndexCreateDestroy
  exact KeepsO.mk (keeps_begin (Piece.sub hF (by decide +kernel)) hs (fun y1 y2 h3 => keeps_notEvacuating (Piece.sub hF (by decide +kernel)) (fun
      y4 y5 h6 => keeps_indexDestroy (Piece.sub hF (by decide +kernel)) h6) h3))

/-! ### Queues -/

theorem keeps_statsGetBody {F : List Piece} {a : State} {wrote : Bool} {c : Cmd} {s : State} (hF : [.hti, .ring, .SHP_CTX_CNT, .SEC_CNT,
    .HTI_W_QFAULT, .HTI_CNT] ⊆ F) (hs : Keeps F a s) :
    Keeps F a (statsGetBody wrote c s) := by
  delta statsGetBody
  extract_lets +onlyGivenNames -merge -lift -underBinder v1
  clear_value v1
  refine keeps_ite (fun _ => ?_) (fun _ => keeps_finish (Piece.sub hF (by decide +kernel)) hs)
  extract_lets +onlyGivenNames -merge -lift -underBinder s2
  have h3 : Keeps F a s2 := by
    unfold s2
    exact keeps_emit hs
  clear_value s2
  extract_lets +onlyGivenNames -merge -lift -underBinder s4
  have h5 : Keeps F a s4 := by
    unfold s4
    exact keeps_ite (fun _ => keeps_foldl (fun s6 x7 h8 => keeps_wr h8 ⟨rfl, hF (by decide +kernel)⟩) h3) (fun _ => h3)
  clear_value s4
  exact keeps_finish (Piece.sub hF (by decide +kernel)) h5

theorem keeps_execStatsGet {F : List Piece} {a : State} {k : ℕ} {wrote : Bool} {s : State} (hF : [.hti, .ring, .SHP_CTX_CNT, .SEC_CNT,
    .HTI_W_QFAULT, .HTI_CNT] ⊆ F) (hs : Keeps F a s) :
    KeepsO F a (execStatsGet k wrote s) := by
  delta execStatsGet
  exact KeepsO.mk (keeps_begin (Piece.sub hF (by decide +kernel)) hs (fun y1 y2 h3 => keeps_statsGetBody (Piece.sub hF (by decide +kernel)) h3))

theorem keeps_capsGetBody {F : List Piece} {a : State} {wrote : Bool} {c : Cmd} {s : State} (hF : [.hti, .ring, .SHP_CTX_CNT, .SEC_CNT,
    .HTI_W_QFAULT, .HTI_CNT] ⊆ F) (hs : Keeps F a s) :
    Keeps F a (capsGetBody wrote c s) := by
  delta capsGetBody
  extract_lets +onlyGivenNames -merge -lift -underBinder v1
  clear_value v1
  exact keeps_ite (fun _ => keeps_finish (Piece.sub hF (by decide +kernel)) (keeps_emit hs)) (fun _ => keeps_finish (Piece.sub hF
      (by decide +kernel)) hs)

theorem keeps_clearQfault {F : List Piece} {a s : State} {ctx : ℕ} (hF : [.HTI_W_QFAULT, .HTI_W_AQCFG] ⊆ F) (hs : Keeps F a s) :
    Keeps F a (State.clearQfault s ctx) := by
  delta State.clearQfault
  exact keeps_wrAll (keeps_wr hs ⟨rfl, hF (by decide +kernel)⟩) ⟨rfl, hF (by decide +kernel)⟩

theorem keeps_execCtxFence {F : List Piece} {a : State} {k : ℕ} {s : State} (hF : [.hti, .ring, .SHP_CTX_CNT, .SEC_CNT, .HTI_W_QFAULT, .HTI_CNT]
    ⊆ F) (hs : Keeps F a s) :
    KeepsO F a (execCtxFence k s) := by
  delta execCtxFence
  exact KeepsO.mk (keeps_begin (Piece.sub hF (by decide +kernel)) hs (fun y1 y2 h3 => keeps_settle (Piece.sub hF (by decide +kernel)) h3))

theorem keeps_execHtiCntClr {F : List Piece} {a : State} {value : ℕ} {s : State} (hF : [.latch, .HTI_CNT] ⊆ F) (hs : Keeps F a s) :
    KeepsO F a (execHtiCntClr value s) := by
  delta execHtiCntClr
  exact KeepsO.mk (keeps_hostWrite64 (Piece.sub hF (by decide +kernel)) hs ⟨rfl, hF (by decide +kernel)⟩ (fun y1 h2 => keeps_zeroRows h2 ⟨rfl, hF
      (by decide +kernel)⟩))

theorem keeps_putAqcfg {F : List Piece} {a s : State} {ctx value : ℕ} (hF : [.HTI_W_AQCFG] ⊆ F) (hs : Keeps F a s) :
    Keeps F a (State.putAqcfg s ctx value) := by
  delta State.putAqcfg
  exact keeps_putWord hs ((Piece.fields hF (by decide +kernel)))

theorem keeps_openPair0 {F : List Piece} {a : State} {ctx value : ℕ} {s : State} (hF : [.hti, .HTI_W_QFAULT, .HTI_W_AQCFG, .HTI_ERRLOG] ⊆ F) (hs
    : Keeps F a s) :
    Keeps F a (openPair0 ctx value s) := by
  delta openPair0
  refine keeps_ite (fun _ => ?_) (fun _ => ?_)
  · refine keeps_ite (fun _ => keeps_errlog (Piece.sub hF (by decide +kernel)) hs) (fun _ => ?_)
    extract_lets +onlyGivenNames -merge -lift -underBinder s1
    have h2 : Keeps F a s1 := by
      unfold s1
      exact keeps_put hs ⟨rfl, hF (by decide +kernel)⟩
    clear_value s1
    exact keeps_ite (fun _ => h2) (fun _ => keeps_wr h2 ⟨rfl, hF (by decide +kernel)⟩)
  · extract_lets +onlyGivenNames -merge -lift -underBinder s3
    have h4 : Keeps F a s3 := by
      unfold s3
      exact keeps_wr (keeps_putAqcfg (Piece.sub hF (by decide +kernel)) hs) ⟨rfl, hF (by decide +kernel)⟩
    clear_value s3
    refine keeps_ite (fun _ => ?_) (fun _ => keeps_wr h4 ⟨rfl, hF (by decide +kernel)⟩)
    extract_lets +onlyGivenNames -merge -lift -underBinder v5
    clear_value v5
    extract_lets +onlyGivenNames -merge -lift -underBinder s6
    have h7 : Keeps F a s6 := by
      unfold s6
      exact keeps_wr (keeps_setPair (Piece.sub hF (by decide +kernel)) h4) ⟨rfl, hF (by decide +kernel)⟩
    clear_value s6
    exact keeps_clearQfault (Piece.sub hF (by decide +kernel)) h7

theorem keeps_clearErrlog {F : List Piece} {a : State} {value : ℕ} {s : State} (hF : [.HTI_ERRLOG] ⊆ F) (hs : Keeps F a s) :
    Keeps F a (clearErrlog value s) := by
  delta clearErrlog
  extract_lets +onlyGivenNames -merge -lift -underBinder s1
  have h2 : Keeps F a s1 := by
    unfold s1
    exact keeps_ite (fun _ => keeps_wr hs ⟨rfl, hF (by decide +kernel)⟩) (fun _ => hs)
  clear_value s1
  extract_lets +onlyGivenNames -merge -lift -underBinder v3
  clear_value v3
  extract_lets +onlyGivenNames -merge -lift -underBinder s4
  have h5 : Keeps F a s4 := by
    unfold s4
    exact keeps_wrAll (keeps_wrAll h2 ⟨rfl, hF (by decide +kernel)⟩) ⟨rfl, hF (by decide +kernel)⟩
  clear_value s4
  extract_lets +onlyGivenNames -merge -lift -underBinder s6
  have h7 : Keeps F a s6 := by
    unfold s6
    exact keeps_wrAll (keeps_wrAll h5 ⟨rfl, hF (by decide +kernel)⟩) ⟨rfl, hF (by decide +kernel)⟩
  clear_value s6
  extract_lets +onlyGivenNames -merge -lift -underBinder s8
  have h9 : Keeps F a s8 := by
    unfold s8
    exact keeps_wrAll (keeps_wrAll h7 ⟨rfl, hF (by decide +kernel)⟩) ⟨rfl, hF (by decide +kernel)⟩
  clear_value s8
  exact keeps_wr (keeps_wr h9 ⟨rfl, hF (by decide +kernel)⟩) ⟨rfl, hF (by decide +kernel)⟩

theorem keeps_execHtiErrlogClr {F : List Piece} {a : State} {value : ℕ} {s : State} (hF : [.HTI_ERRLOG] ⊆ F) (hs : Keeps F a s) :
    KeepsO F a (execHtiErrlogClr value s) := by
  delta execHtiErrlogClr
  exact KeepsO.mk (keeps_hostWrite hs (fun y1 h2 => keeps_ite (fun _ => keeps_clearErrlog (Piece.sub hF (by decide +kernel)) h2) (fun _ => h2)))

theorem keeps_queueOpenBody {F : List Piece} {a : State} {c : Cmd} {s : State} (hF : [.hti, .ring, .SHP_CTX_CNT, .SEC_CNT, .HTI_W_QFAULT,
    .HTI_CNT] ⊆ F) (hs : Keeps F a s) :
    Keeps F a (queueOpenBody c s) := by
  delta queueOpenBody
  extract_lets +onlyGivenNames -merge -lift -underBinder v1 v2
  clear_value v1 v2
  refine keeps_ite (fun _ => keeps_finish (Piece.sub hF (by decide +kernel)) hs) (fun _ => ?_)
  extract_lets +onlyGivenNames -merge -lift -underBinder v3
  clear_value v3
  exact keeps_finish (Piece.sub hF (by decide +kernel)) (keeps_setPair (Piece.sub hF (by decide +kernel)) hs)

theorem keeps_execQueueOpen {F : List Piece} {a : State} {k : ℕ} {s : State} (hF : [.hti, .ring, .SHP_CTX_CNT, .SEC_CNT, .HTI_W_QFAULT, .HTI_CNT]
    ⊆ F) (hs : Keeps F a s) :
    KeepsO F a (execQueueOpen k s) := by
  delta execQueueOpen
  exact KeepsO.mk (keeps_begin (Piece.sub hF (by decide +kernel)) hs (fun y1 y2 h3 => keeps_queueOpenBody (Piece.sub hF (by decide +kernel)) h3))

theorem keeps_window {F : List Piece} {a s : State} {port ctx off : ℕ} {f : State → State} (hF : [.SEC_CNT, .HTI_ERRLOG] ⊆ F) (hs : Keeps F a s)
    (hf : ∀ y0, Keeps F a y0 → Keeps F a (f y0)) :
    Keeps F a (State.window s port ctx off f) := by
  delta State.window
  exact keeps_ite (fun _ => hs) (fun _ => keeps_ite (fun _ => keeps_errlog (Piece.sub hF (by decide +kernel)) hs) (fun _ => keeps_ite (fun _ =>
      keeps_bump hs ⟨rfl, hF (by decide +kernel)⟩) (fun _ => keeps_ite (fun _ => keeps_errlog (Piece.sub hF (by decide +kernel)) hs) (fun _ => hf
          _ hs))))

theorem keeps_execPair0Open {F : List Piece} {a : State} {port ctx value : ℕ} {s : State} (hF : [.hti, .SEC_CNT, .HTI_W_QFAULT, .HTI_W_AQCFG,
    .HTI_ERRLOG] ⊆ F) (hs : Keeps F a s) :
    KeepsO F a (execPair0Open port ctx value s) := by
  delta execPair0Open
  exact KeepsO.mk (keeps_ite (fun _ => keeps_window (Piece.sub hF (by decide +kernel)) hs (fun y1 h2 => keeps_openPair0 (Piece.sub hF
      (by decide +kernel)) h2)) (fun _ => hs))

theorem keeps_execCompletionPostFail {F : List Piece} {a : State} {ctx pair : ℕ} {s : State} (hF : [.hti, .mbx, .MBX_SUM, .MBX_CNT,
    .HTI_W_QFAULT, .HTI_W_MBSTS, .HTI_W_FLT, .HTI_W_AQCFG, .HTI_ERRLOG, .HTI_CNT] ⊆ F) (hs : Keeps F a s) :
    KeepsO F a (execCompletionPostFail ctx pair s) := by
  delta execCompletionPostFail
  refine KeepsO.mk ?_
  split
  · exact keeps_ite (fun _ => keeps_faultPair (Piece.sub hF (by decide +kernel)) (keeps_setPair (Piece.sub hF (by decide +kernel)) hs)) (fun _ => hs)
  · exact hs

theorem keeps_execCoalescingTimeExpiry {F : List Piece} {a : State} {dt ctx pair : ℕ} {s : State} (hF : [.hti, .fleet, .TIER_STALL, .SHP_CTX_CNT,
    .RING_PORT_CNT, .PWR_CNT, .MTR_LIVE, .HTI_TIME, .HTI_CNT, .GORE_CTX_CNT, .GORE_CLASS, .CTL_RT, .CTL_RST_CNT, .CTL_PIN_CNT] ⊆ F) (hs : Keeps F
        a s) :
    KeepsO F a (execCoalescingTimeExpiry dt ctx pair s) := by
  delta execCoalescingTimeExpiry
  refine KeepsO.mk ?_
  split
  · exact keeps_ite (fun _ => keeps_raiseVec (Piece.sub hF (by decide +kernel)) (keeps_setPair (Piece.sub hF (by decide +kernel)) (keeps_pass
        (Piece.sub hF (by decide +kernel)) hs))) (fun _ => keeps_pass (Piece.sub hF (by decide +kernel)) hs)
  · exact keeps_pass (Piece.sub hF (by decide +kernel)) hs

theorem keeps_execContextPairsClosed {F : List Piece} {a : State} {ctx : ℕ} {s : State} (hF : [.HTI_W_QFAULT, .HTI_W_AQCFG] ⊆ F) (hs : Keeps F a s) :
    KeepsO F a (execContextPairsClosed ctx s) := by
  delta execContextPairsClosed
  refine KeepsO.mk ?_
  refine keeps_ite (fun _ => ?_) (fun _ => hs)
  extract_lets +onlyGivenNames -merge -lift -underBinder v1
  clear_value v1
  extract_lets +onlyGivenNames -merge -lift -underBinder s2
  have h3 : Keeps F a s2 := by
    unfold s2
    exact keeps_clearQfault (Piece.sub hF (by decide +kernel)) (keeps_wr hs ⟨rfl, hF (by decide +kernel)⟩)
  clear_value s2
  exact keeps_ite (fun _ => keeps_wr h3 ⟨rfl, hF (by decide +kernel)⟩) (fun _ => h3)

theorem keeps_execSubmissionFetchFail {F : List Piece} {a : State} {ctx pair : ℕ} {s : State} (hF : [.hti, .mbx, .MBX_SUM, .MBX_CNT,
    .HTI_W_QFAULT, .HTI_W_MBSTS, .HTI_W_FLT, .HTI_W_AQCFG, .HTI_ERRLOG, .HTI_CNT] ⊆ F) (hs : Keeps F a s) :
    KeepsO F a (execSubmissionFetchFail ctx pair s) := by
  delta execSubmissionFetchFail
  refine KeepsO.mk ?_
  split
  · exact keeps_ite (fun _ => keeps_faultPair (Piece.sub hF (by decide +kernel)) (keeps_setPair (Piece.sub hF (by decide +kernel)) hs)) (fun _ => hs)
  · exact hs

theorem keeps_execCapsGet {F : List Piece} {a : State} {k : ℕ} {wrote : Bool} {s : State} (hF : [.hti, .ring, .SHP_CTX_CNT, .SEC_CNT,
    .HTI_W_QFAULT, .HTI_CNT] ⊆ F) (hs : Keeps F a s) :
    KeepsO F a (execCapsGet k wrote s) := by
  delta execCapsGet
  exact KeepsO.mk (keeps_begin (Piece.sub hF (by decide +kernel)) hs (fun y1 y2 h3 => keeps_capsGetBody (Piece.sub hF (by decide +kernel)) h3))

theorem keeps_execNoop {F : List Piece} {a : State} {k : ℕ} {s : State} (hF : [.hti, .ring, .SHP_CTX_CNT, .SEC_CNT, .HTI_W_QFAULT, .HTI_CNT] ⊆ F)
    (hs : Keeps F a s) :
    KeepsO F a (execNoop k s) := by
  delta execNoop
  exact KeepsO.mk (keeps_begin (Piece.sub hF (by decide +kernel)) hs (fun y1 y2 h3 => keeps_finish (Piece.sub hF (by decide +kernel)) h3))

/-! ### Attention -/

theorem keeps_abandon {F : List Piece} {a s : State} {t : Step} (hF : [.ses, .tier, .gore, .attn, .pwr, .pool, .TIER_OBJ, .PWR_DROGUE, .PWR_CNT,
    .POOL_OBJ, .POOL_CNT, .GORE_TILE_CNT, .GORE_PANEL, .GORE_CTX, .GORE_CTX_CNT, .GORE_CNT, .CTL_READY, .CTL_PM] ⊆ F) (hs : Keeps F a s) :
    Keeps F a (State.abandon s t) := by
  delta State.abandon
  extract_lets +onlyGivenNames -merge -lift -underBinder s1
  have h2 : Keeps F a s1 := by
    unfold s1
    exact hs
  clear_value s1
  exact keeps_winch (Piece.sub hF (by decide +kernel)) (keeps_foldl (fun s3 x4 h5 => keeps_leaveStep (Piece.sub hF (by decide +kernel)) h5) hs)

theorem keeps_kvStream {F : List Piece} {a : State} {c : Cmd} {s : State} (hF : [.hti, .ses, .tier, .gore, .attn, .pwr, .ring, .SHP_CTX_CNT,
    .SEC_CNT, .PWR_DROGUE, .PWR_CNT, .HTI_W_QFAULT, .HTI_CNT, .GORE_PANEL, .GORE_CTX, .GORE_CNT, .CTL_PM] ⊆ F) (hs : Keeps F a s) :
    Keeps F a (kvStream c s) := by
  delta kvStream
  extract_lets +onlyGivenNames -merge -lift -underBinder v1 v2 v3 v4 v5 v6
  clear_value v1 v2 v3 v4 v5 v6
  split
  · exact keeps_finish (Piece.sub hF (by decide +kernel)) hs
  · split
    · exact keeps_finish (Piece.sub hF (by decide +kernel)) hs
    · extract_lets +onlyGivenNames -merge -lift -underBinder v7 v8
      clear_value v7 v8
      refine keeps_ite (fun _ => keeps_finish (Piece.sub hF (by decide +kernel)) hs) (fun _ => ?_)
      refine keeps_ite (fun _ => keeps_finish (Piece.sub hF (by decide +kernel)) hs) (fun _ => ?_)
      refine keeps_ite (fun _ => keeps_finish (Piece.sub hF (by decide +kernel)) hs) (fun _ => ?_)
      extract_lets +onlyGivenNames -merge -lift -underBinder v9
      clear_value v9
      refine keeps_ite (fun _ => keeps_finish (Piece.sub hF (by decide +kernel)) hs) (fun _ => ?_)
      extract_lets +onlyGivenNames -merge -lift -underBinder s10
      have h11 : Keeps F a s10 := by
        unfold s10
        exact hs
      clear_value s10
      extract_lets +onlyGivenNames -merge -lift -underBinder v12 v13
      clear_value v12 v13
      extract_lets +onlyGivenNames -merge -lift -underBinder s14
      have h15 : Keeps F a s14 := by
        unfold s14
        exact Keeps.other hs (hattn := .inr (hF (by decide +kernel)))
      clear_value s14
      extract_lets +onlyGivenNames -merge -lift -underBinder s16
      have h17 : Keeps F a s16 := by
        unfold s16
        refine keeps_foldl (fun s18 x19 h20 => ?_) h15
        refine keeps_foldl (fun s21 x22 h23 => ?_) h20
        extract_lets +onlyGivenNames -merge -lift -underBinder v24 v25 v26
        clear_value v24 v25 v26
        exact keeps_request (Piece.sub hF (by decide +kernel)) (keeps_addItem (Piece.sub hF (by decide +kernel)) h23)
      clear_value s16
      exact keeps_winch (Piece.sub hF (by decide +kernel)) (keeps_turn (Piece.sub hF (by decide +kernel)) h17)

theorem keeps_showShape {F : List Piece} {a s : State} {n : ℕ} {g : Option Shape} (hF : [.GORE_SHAPE] ⊆ F) (hs : Keeps F a s) :
    Keeps F a (State.showShape s n g) := by
  delta State.showShape
  extract_lets +onlyGivenNames -merge -lift -underBinder v1
  clear_value v1
  extract_lets +onlyGivenNames -merge -lift -underBinder s2
  have h3 : Keeps F a s2 := by
    unfold s2
    exact keeps_wr (keeps_wr hs ⟨rfl, hF (by decide +kernel)⟩) ⟨rfl, hF (by decide +kernel)⟩
  clear_value s2
  extract_lets +onlyGivenNames -merge -lift -underBinder s4
  have h5 : Keeps F a s4 := by
    unfold s4
    exact keeps_wr (keeps_wr h3 ⟨rfl, hF (by decide +kernel)⟩) ⟨rfl, hF (by decide +kernel)⟩
  clear_value s4
  extract_lets +onlyGivenNames -merge -lift -underBinder s6
  have h7 : Keeps F a s6 := by
    unfold s6
    exact keeps_wr (keeps_wr h5 ⟨rfl, hF (by decide +kernel)⟩) ⟨rfl, hF (by decide +kernel)⟩
  clear_value s6
  extract_lets +onlyGivenNames -merge -lift -underBinder s8
  have h9 : Keeps F a s8 := by
    unfold s8
    exact keeps_wr (keeps_wr h7 ⟨rfl, hF (by decide +kernel)⟩) ⟨rfl, hF (by decide +kernel)⟩
  clear_value s8
  extract_lets +onlyGivenNames -merge -lift -underBinder s10
  have h11 : Keeps F a s10 := by
    unfold s10
    exact keeps_wr (keeps_wr h9 ⟨rfl, hF (by decide +kernel)⟩) ⟨rfl, hF (by decide +kernel)⟩
  clear_value s10
  exact keeps_wr h11 ⟨rfl, hF (by decide +kernel)⟩

theorem keeps_setShape {F : List Piece} {a s : State} {n : ℕ} {g : Option Shape} (hF : [.attn, .GORE_SHAPE] ⊆ F) (hs : Keeps F a s) :
    Keeps F a (State.setShape s n g) := by
  delta State.setShape
  extract_lets +onlyGivenNames -merge -lift -underBinder v1
  clear_value v1
  exact keeps_showShape (Piece.sub hF (by decide +kernel)) (Keeps.other hs (hattn := .inr (hF (by decide +kernel))))

theorem keeps_shapeSet {F : List Piece} {a : State} {update : Bool} {table : Option (List ℕ)} {c : Cmd} {s : State} (hF : [.hti, .tier, .attn,
    .ring, .TIER_RSV, .SHP_CTX_CNT, .SEC_CNT, .HTI_W_QFAULT, .HTI_CNT, .GORE_SHAPE] ⊆ F) (hs : Keeps F a s) :
    Keeps F a (shapeSet update table c s) := by
  delta shapeSet
  extract_lets +onlyGivenNames -merge -lift -underBinder v1 v2
  clear_value v1 v2
  split
  · refine keeps_ite (fun _ => keeps_finish (Piece.sub hF (by decide +kernel)) hs) (fun _ => ?_)
    split
    · exact keeps_finish (Piece.sub hF (by decide +kernel)) hs
    · extract_lets +onlyGivenNames -merge -lift -underBinder v3 v4
      clear_value v3 v4
      exact keeps_ite (fun _ => keeps_finish (Piece.sub hF (by decide +kernel)) hs) (fun _ => keeps_ite (fun _ => keeps_finish (Piece.sub hF
          (by decide +kernel)) (keeps_rsvFull (Piece.sub hF (by decide +kernel)) hs)) (fun _ => keeps_finish (Piece.sub hF (by decide +kernel))
              (keeps_setShape (Piece.sub hF (by decide +kernel)) (keeps_rsvSwap (Piece.sub hF (by decide +kernel)) hs))))
  · refine keeps_ite (fun _ => keeps_finish (Piece.sub hF (by decide +kernel)) hs) (fun _ => ?_)
    split
    · exact keeps_finish (Piece.sub hF (by decide +kernel)) hs
    · split
      · exact keeps_finish (Piece.sub hF (by decide +kernel)) hs
      · refine keeps_ite (fun _ => keeps_finish (Piece.sub hF (by decide +kernel)) hs) (fun _ => ?_)
        extract_lets +onlyGivenNames -merge -lift -underBinder v5 v6
        clear_value v5 v6
        exact keeps_finish (Piece.sub hF (by decide +kernel)) (keeps_setShape (Piece.sub hF (by decide +kernel)) hs)

theorem keeps_execModelShapeDeclare {F : List Piece} {a : State} {k : ℕ} {table : Option (List ℕ)} {s : State} (hF : [.hti, .tier, .attn, .ring,
    .TIER_RSV, .SHP_CTX_CNT, .SEC_CNT, .HTI_W_QFAULT, .HTI_CNT, .GORE_SHAPE] ⊆ F) (hs : Keeps F a s) :
    KeepsO F a (execModelShapeDeclare k table s) := by
  delta execModelShapeDeclare
  exact KeepsO.mk (keeps_begin (Piece.sub hF (by decide +kernel)) hs (fun y1 y2 h3 => keeps_shapeSet (Piece.sub hF (by decide +kernel)) h3))

theorem keeps_kickLimit {F : List Piece} {a : State} {ctx sid : ℕ} {s : State} (hF : [.ses, .tier, .gore, .attn, .pwr, .pool, .TIER_OBJ,
    .PWR_DROGUE, .PWR_CNT, .POOL_OBJ, .POOL_CNT, .GORE_TILE_CNT, .GORE_PANEL, .GORE_CTX, .GORE_CTX_CNT, .GORE_CNT, .GORE_ATTN_CNT, .CTL_READY,
        .CTL_PM] ⊆ F) (hs : Keeps F a s) :
    Keeps F a (kickLimit ctx sid s) := by
  delta kickLimit
  split
  · exact hs
  · extract_lets +onlyGivenNames -merge -lift -underBinder v1 v2 v3
    clear_value v1 v2 v3
    exact keeps_ite (fun _ => keeps_abandon (Piece.sub hF (by decide +kernel)) (keeps_bump hs ⟨rfl, hF (by decide +kernel)⟩)) (fun _ => hs)

theorem keeps_bar4Access {F : List Piece} {a : State} {port : ℕ} {vf : Option ℕ} {offset len value : ℕ} {isWrite : Bool} {s : State} (hF :
    [.attn, .SEC_CNT, .GORE_ATTN_CNT] ⊆ F) (hs : Keeps F a s) :
    Keeps F a (bar4Access port vf offset len value isWrite s) := by
  delta bar4Access
  extract_lets +onlyGivenNames -merge -lift -underBinder v1 v2 v3 v4
  clear_value v1 v2 v3 v4
  refine keeps_ite (fun _ => hs) (fun _ => ?_)
  refine keeps_ite (fun _ => keeps_bump hs ⟨rfl, hF (by decide +kernel)⟩) (fun _ => ?_)
  refine keeps_ite (fun _ => keeps_ite (fun _ => keeps_bridlePut (Piece.sub hF (by decide +kernel)) hs) (fun _ => keeps_emit hs)) (fun _ => ?_)
  extract_lets +onlyGivenNames -merge -lift -underBinder s5
  have h6 : Keeps F a s5 := by
    unfold s5
    exact keeps_bump hs ⟨rfl, hF (by decide +kernel)⟩
  clear_value s5
  exact keeps_ite (fun _ => h6) (fun _ => keeps_emit h6)

theorem keeps_endAttends {F : List Piece} {a s : State} {t : Step} {l : ℕ} (hF : [.hti, .ring, .SHP_CTX_CNT, .SEC_CNT, .HTI_W_QFAULT, .HTI_CNT] ⊆
    F) (hs : Keeps F a s) :
    Keeps F a (State.endAttends s t l) := by
  delta State.endAttends
  extract_lets +onlyGivenNames -merge -lift -underBinder v1 v2
  clear_value v1 v2
  exact keeps_foldl (fun s3 x4 h5 => keeps_finish (Piece.sub hF (by decide +kernel)) h5) hs

theorem keeps_layerEntry {F : List Piece} {a s : State} {t : Step} {l i : ℕ} {e : SEntry} {given : List ℕ} (hF : [.attn, .GORE_ATTN_CNT] ⊆ F) (hs
    : Keeps F a s) :
    Keeps F a (State.layerEntry s t l i e given) := by
  delta State.layerEntry
  extract_lets +onlyGivenNames -merge -lift -underBinder v1
  clear_value v1
  refine keeps_ite (fun _ => ?_) (fun _ => keeps_writeMarker (Piece.sub hF (by decide +kernel)) hs)
  extract_lets +onlyGivenNames -merge -lift -underBinder v2
  clear_value v2
  extract_lets +onlyGivenNames -merge -lift -underBinder s3
  have h4 : Keeps F a s3 := by
    unfold s3
    exact keeps_writeOut hs
  clear_value s3
  extract_lets +onlyGivenNames -merge -lift -underBinder s5
  have h6 : Keeps F a s5 := by
    unfold s5
    exact keeps_bump (keeps_bump h4 ⟨rfl, hF (by decide +kernel)⟩) ⟨rfl, hF (by decide +kernel)⟩
  clear_value s5
  exact keeps_updEntry (Piece.sub hF (by decide +kernel)) h6

theorem keeps_layerComplete {F : List Piece} {a : State} {ctx sid : ℕ} {s : State} (hF : [.hti, .attn, .ring, .SHP_CTX_CNT, .SEC_CNT,
    .HTI_W_QFAULT, .HTI_CNT, .GORE_ATTN_CNT] ⊆ F) (hs : Keeps F a s) :
    Keeps F a (layerComplete ctx sid s) := by
  delta layerComplete
  split
  · exact hs
  · extract_lets +onlyGivenNames -merge -lift -underBinder v1
    clear_value v1
    refine keeps_ite (fun _ => ?_) (fun _ => hs)
    extract_lets +onlyGivenNames -merge -lift -underBinder s2
    have h3 : Keeps F a s2 := by
      unfold s2
      exact keeps_foldl (fun s4 x5 h6 => keeps_layerEntry (Piece.sub hF (by decide +kernel)) h6) hs
    clear_value s2
    extract_lets +onlyGivenNames -merge -lift -underBinder s7
    have h8 : Keeps F a s7 := by
      unfold s7
      exact keeps_writeFlag h3
    clear_value s7
    extract_lets +onlyGivenNames -merge -lift -underBinder s9
    have h10 : Keeps F a s9 := by
      unfold s9
      exact keeps_ite (fun _ => h8) (fun _ => keeps_bump h8 ⟨rfl, hF (by decide +kernel)⟩)
    clear_value s9
    extract_lets +onlyGivenNames -merge -lift -underBinder s11
    have h12 : Keeps F a s11 := by
      unfold s11
      exact keeps_updStep (Piece.sub hF (by decide +kernel)) h10
    clear_value s11
    exact keeps_endAttends (Piece.sub hF (by decide +kernel)) h12

theorem keeps_execLayerComplete {F : List Piece} {a : State} {ctx stepId : ℕ} {s : State} (hF : [.hti, .attn, .ring, .SHP_CTX_CNT, .SEC_CNT,
    .HTI_W_QFAULT, .HTI_CNT, .GORE_ATTN_CNT] ⊆ F) (hs : Keeps F a s) :
    KeepsO F a (execLayerComplete ctx stepId s) := by
  delta execLayerComplete
  exact KeepsO.mk (keeps_layerComplete (Piece.sub hF (by decide +kernel)) hs)

theorem keeps_refreshBridle {F : List Piece} {a s : State} {c : ℕ} (hF : [.tier, .attn, .TIER_RSV, .GORE_BRIDLE] ⊆ F) (hs : Keeps F a s) :
    Keeps F a (State.refreshBridle s c) := by
  delta State.refreshBridle
  extract_lets +onlyGivenNames -merge -lift -underBinder v1
  clear_value v1
  extract_lets +onlyGivenNames -merge -lift -underBinder s2
  have h3 : Keeps F a s2 := by
    unfold s2
    exact keeps_ite (fun _ => hs) (fun _ => keeps_bridleZero (Piece.sub hF (by decide +kernel)) hs)
  clear_value s2
  exact keeps_wr (keeps_rsvSwap (Piece.sub hF (by decide +kernel)) h3) ⟨rfl, hF (by decide +kernel)⟩

theorem keeps_writeAdmission {F : List Piece} {a s : State} {t : Step} (hs : Keeps F a s) :
    Keeps F a (State.writeAdmission s t) := by
  delta State.writeAdmission
  extract_lets +onlyGivenNames -merge -lift -underBinder s1
  have h2 : Keeps F a s1 := by
    unfold s1
    exact keeps_foldl (fun s3 x4 h5 => keeps_ite (fun _ => h5) (fun _ => keeps_writeRecord h5)) hs
  clear_value s1
  exact keeps_foldl (fun s6 x7 h8 => keeps_emit h8) h2

theorem keeps_stepSubmit {F : List Piece} {a : State} {list : Option (List ℕ)} {c : Cmd} {s : State} (hF : [.hti, .ses, .tier, .gore, .attn,
    .pwr, .ring, .SHP_CTX_CNT, .SEC_CNT, .PWR_DROGUE, .PWR_CNT, .HTI_W_QFAULT, .HTI_CNT, .GORE_PANEL, .GORE_CTX, .GORE_CNT, .CTL_PM] ⊆ F) (hs :
        Keeps F a s) :
    Keeps F a (stepSubmit list c s) := by
  delta stepSubmit
  extract_lets +onlyGivenNames -merge -lift -underBinder v1 v2 v3 v4 v5 v6 v7
  clear_value v1 v2 v3 v4 v5 v6 v7
  refine keeps_ite (fun _ => keeps_finish (Piece.sub hF (by decide +kernel)) hs) (fun _ => ?_)
  split
  · exact keeps_finish (Piece.sub hF (by decide +kernel)) hs
  · refine keeps_ite (fun _ => keeps_finish (Piece.sub hF (by decide +kernel)) hs) (fun _ => ?_)
    refine keeps_ite (fun _ => keeps_finish (Piece.sub hF (by decide +kernel)) (keeps_bump hs ⟨rfl, hF (by decide +kernel)⟩)) (fun _ => ?_)
    split
    · exact keeps_finish (Piece.sub hF (by decide +kernel)) hs
    · extract_lets +onlyGivenNames -merge -lift -underBinder v8 v9 v10 v11
      clear_value v8 v9 v10 v11
      refine keeps_ite (fun _ => keeps_finish (Piece.sub hF (by decide +kernel)) (keeps_writeAdmission hs)) (fun _ => ?_)
      extract_lets +onlyGivenNames -merge -lift -underBinder s12
      have h13 : Keeps F a s12 := by
        unfold s12
        exact hs
      clear_value s12
      extract_lets +onlyGivenNames -merge -lift -underBinder v14
      clear_value v14
      extract_lets +onlyGivenNames -merge -lift -underBinder s15
      have h16 : Keeps F a s15 := by
        unfold s15
        exact Keeps.other hs (hattn := .inr (hF (by decide +kernel)))
      clear_value s15
      extract_lets +onlyGivenNames -merge -lift -underBinder s17
      have h18 : Keeps F a s17 := by
        unfold s17
        exact keeps_bump h16 ⟨rfl, hF (by decide +kernel)⟩
      clear_value s17
      extract_lets +onlyGivenNames -merge -lift -underBinder s19
      have h20 : Keeps F a s19 := by
        unfold s19
        exact keeps_writeFlag (keeps_writeAdmission h18)
      clear_value s19
      extract_lets +onlyGivenNames -merge -lift -underBinder s21
      have h22 : Keeps F a s21 := by
        unfold s21
        exact keeps_foldl (fun s23 x24 h25 => keeps_ite (fun _ => keeps_formLayer (Piece.sub hF (by decide +kernel)) h25) (fun _ => h25)) h20
      clear_value s21
      exact keeps_winch (Piece.sub hF (by decide +kernel)) h22

theorem keeps_stepOutFail {F : List Piece} {a : State} {ctx sid : ℕ} {s : State} (hF : [.ses, .tier, .gore, .attn, .pwr, .pool, .TIER_OBJ,
    .PWR_DROGUE, .PWR_CNT, .POOL_OBJ, .POOL_CNT, .GORE_TILE_CNT, .GORE_PANEL, .GORE_CTX, .GORE_CTX_CNT, .GORE_CNT, .GORE_ATTN_CNT, .CTL_READY,
        .CTL_PM] ⊆ F) (hs : Keeps F a s) :
    Keeps F a (stepOutFail ctx sid s) := by
  delta stepOutFail
  split
  · exact hs
  · exact keeps_abandon (Piece.sub hF (by decide +kernel)) (keeps_emit (keeps_bump hs ⟨rfl, hF (by decide +kernel)⟩))

theorem keeps_execStepOutputWriteFail {F : List Piece} {a : State} {ctx stepId : ℕ} {s : State} (hF : [.ses, .tier, .gore, .attn, .pwr, .pool,
    .TIER_OBJ, .PWR_DROGUE, .PWR_CNT, .POOL_OBJ, .POOL_CNT, .GORE_TILE_CNT, .GORE_PANEL, .GORE_CTX, .GORE_CTX_CNT, .GORE_CNT, .GORE_ATTN_CNT,
        .CTL_READY, .CTL_PM] ⊆ F) (hs : Keeps F a s) :
    KeepsO F a (execStepOutputWriteFail ctx stepId s) := by
  delta execStepOutputWriteFail
  exact KeepsO.mk (keeps_stepOutFail (Piece.sub hF (by decide +kernel)) hs)

theorem keeps_kvAppend {F : List Piece} {a : State} {rows : Option (List ℕ)} {c : Cmd} {s : State} (hF : [.hti, .ses, .tier, .gore, .attn, .pwr,
    .ring, .SHP_CTX_CNT, .SEC_CNT, .PWR_DROGUE, .PWR_CNT, .HTI_W_QFAULT, .HTI_CNT, .GORE_PANEL, .GORE_CTX, .GORE_CNT, .CTL_PM] ⊆ F) (hs : Keeps F
        a s) :
    Keeps F a (kvAppend rows c s) := by
  delta kvAppend
  extract_lets +onlyGivenNames -merge -lift -underBinder v1
  extract_lets +onlyGivenNames -merge -lift -underBinder v2
  extract_lets +onlyGivenNames -merge -lift -underBinder v3
  extract_lets +onlyGivenNames -merge -lift -underBinder v4
  split
  · exact keeps_finish (Piece.sub hF (by decide +kernel)) hs
  · split
    · exact keeps_finish (Piece.sub hF (by decide +kernel)) hs
    · extract_lets +onlyGivenNames -merge -lift -underBinder v5
      extract_lets +onlyGivenNames -merge -lift -underBinder v6
      refine keeps_ite (fun _ => keeps_finish (Piece.sub hF (by decide +kernel)) hs) (fun _ => ?_)
      refine keeps_ite (fun _ => keeps_finish (Piece.sub hF (by decide +kernel)) hs) (fun _ => ?_)
      refine keeps_ite (fun _ => keeps_finish (Piece.sub hF (by decide +kernel)) hs) (fun _ => ?_)
      split
      · exact keeps_finish (Piece.sub hF (by decide +kernel)) hs
      · extract_lets +onlyGivenNames -merge -lift -underBinder v7
        extract_lets +onlyGivenNames -merge -lift -underBinder s8
        have h9 : Keeps F a s8 := by
          unfold s8
          exact hs
        clear_value s8
        extract_lets +onlyGivenNames -merge -lift -underBinder v10
        extract_lets +onlyGivenNames -merge -lift -underBinder v11
        extract_lets +onlyGivenNames -merge -lift -underBinder s12
        have h13 : Keeps F a s12 := by
          unfold s12
          exact Keeps.other hs (hattn := .inr (hF (by decide +kernel)))
        clear_value s12
        extract_lets +onlyGivenNames -merge -lift -underBinder s14
        have h15 : Keeps F a s14 := by
          unfold s14
          exact keeps_foldl (fun s16 x17 h18 => keeps_addItem (Piece.sub hF (by decide +kernel)) h18) h13
        clear_value s14
        exact keeps_winch (Piece.sub hF (by decide +kernel)) h15

theorem keeps_kick {F : List Piece} {a s : State} {t : Step} {l : ℕ} (hF : [.ses, .tier, .gore, .attn, .pwr, .PWR_DROGUE, .PWR_CNT, .GORE_PANEL,
    .GORE_CTX, .GORE_CNT, .CTL_PM] ⊆ F) (hs : Keeps F a s) :
    Keeps F a (State.kick s t l) := by
  delta State.kick
  extract_lets +onlyGivenNames -merge -lift -underBinder s1
  have h2 : Keeps F a s1 := by
    unfold s1
    exact hs
  clear_value s1
  extract_lets +onlyGivenNames -merge -lift -underBinder s3
  have h4 : Keeps F a s3 := by
    unfold s3
    exact keeps_updStep (Piece.sub hF (by decide +kernel)) hs
  clear_value s3
  extract_lets +onlyGivenNames -merge -lift -underBinder v5
  clear_value v5
  extract_lets +onlyGivenNames -merge -lift -underBinder s6
  have h7 : Keeps F a s6 := by
    unfold s6
    exact keeps_foldl (fun s8 x9 h10 => keeps_formLayer (Piece.sub hF (by decide +kernel)) (keeps_kickEntry (Piece.sub hF (by decide +kernel))
        h10)) h4
  clear_value s6
  exact keeps_winch (Piece.sub hF (by decide +kernel)) h7

theorem keeps_badKick {F : List Piece} {a s : State} {ctx sid l reason : ℕ} (hF : [.HTI_W_BRSTS, .GORE_ATTN_CNT] ⊆ F) (hs : Keeps F a s) :
    Keeps F a (State.badKick s ctx sid l reason) := by
  delta State.badKick
  extract_lets +onlyGivenNames -merge -lift -underBinder s1
  have h2 : Keeps F a s1 := by
    unfold s1
    exact keeps_wr (keeps_wr hs ⟨rfl, hF (by decide +kernel)⟩) ⟨rfl, hF (by decide +kernel)⟩
  clear_value s1
  extract_lets +onlyGivenNames -merge -lift -underBinder s3
  have h4 : Keeps F a s3 := by
    unfold s3
    exact keeps_wr (keeps_wr h2 ⟨rfl, hF (by decide +kernel)⟩) ⟨rfl, hF (by decide +kernel)⟩
  clear_value s3
  exact keeps_bump (keeps_bump h4 ⟨rfl, hF (by decide +kernel)⟩) ⟨rfl, hF (by decide +kernel)⟩

theorem keeps_bridleWrite {F : List Piece} {a : State} {ctx value : ℕ} {s : State} (hF : [.tier, .attn, .TIER_RSV, .GORE_CNT, .GORE_BRIDLE] ⊆ F)
    (hs : Keeps F a s) :
    Keeps F a (bridleWrite ctx value s) := by
  delta bridleWrite
  extract_lets +onlyGivenNames -merge -lift -underBinder v1 v2
  clear_value v1 v2
  extract_lets +onlyGivenNames -merge -lift -underBinder s3
  have h4 : Keeps F a s3 := by
    unfold s3
    exact keeps_bump hs ⟨rfl, hF (by decide +kernel)⟩
  clear_value s3
  exact keeps_ite (fun _ => h4) (fun _ => keeps_ite (fun _ => keeps_rsvFull (Piece.sub hF (by decide +kernel)) h4) (fun _ => keeps_refreshBridle
      (Piece.sub hF (by decide +kernel)) (keeps_put (keeps_ite (fun _ => hs) (fun _ => keeps_bridleZero (Piece.sub hF (by decide +kernel)) hs))
          ⟨rfl, hF (by decide +kernel)⟩)))

theorem keeps_shapeRemove {F : List Piece} {a : State} {c : Cmd} {s : State} (hF : [.hti, .tier, .attn, .ring, .TIER_RSV, .SHP_CTX_CNT, .SEC_CNT,
    .HTI_W_QFAULT, .HTI_CNT, .GORE_SHAPE] ⊆ F) (hs : Keeps F a s) :
    Keeps F a (shapeRemove c s) := by
  delta shapeRemove
  extract_lets +onlyGivenNames -merge -lift -underBinder v1
  clear_value v1
  split
  · exact keeps_finish (Piece.sub hF (by decide +kernel)) hs
  · exact keeps_ite (fun _ => keeps_finish (Piece.sub hF (by decide +kernel)) hs) (fun _ => keeps_ite (fun _ => keeps_finish (Piece.sub hF
        (by decide +kernel)) hs) (fun _ => keeps_finish (Piece.sub hF (by decide +kernel)) (keeps_setShape (Piece.sub hF (by decide +kernel))
            (keeps_rsvSwap (Piece.sub hF (by decide +kernel)) hs))))

theorem keeps_attendBody {F : List Piece} {a : State} {c : Cmd} {s : State} (hF : [.hti, .ses, .tier, .gore, .attn, .pwr, .ring, .SHP_CTX_CNT,
    .SEC_CNT, .PWR_DROGUE, .PWR_CNT, .HTI_W_QFAULT, .HTI_CNT, .GORE_PANEL, .GORE_CTX, .GORE_CNT, .GORE_ATTN_CNT, .CTL_PM] ⊆ F) (hs : Keeps F a s) :
    Keeps F a (attendBody c s) := by
  delta attendBody
  extract_lets +onlyGivenNames -merge -lift -underBinder v1
  clear_value v1
  split
  · exact keeps_finish (Piece.sub hF (by decide +kernel)) (keeps_bump hs ⟨rfl, hF (by decide +kernel)⟩)
  · refine keeps_ite (fun _ => keeps_finish (Piece.sub hF (by decide +kernel)) (keeps_bump hs ⟨rfl, hF (by decide +kernel)⟩)) (fun _ => ?_)
    extract_lets +onlyGivenNames -merge -lift -underBinder s2
    have h3 : Keeps F a s2 := by
      unfold s2
      exact keeps_bump hs ⟨rfl, hF (by decide +kernel)⟩
    clear_value s2
    exact keeps_kick (Piece.sub hF (by decide +kernel)) (keeps_updStep (Piece.sub hF (by decide +kernel)) h3)

theorem keeps_execKickLimitTimeout {F : List Piece} {a : State} {dt ctx stepId : ℕ} {s : State} (hF : [.ses, .tier, .gore, .attn, .pwr, .fleet,
    .pool, .TIER_STALL, .TIER_OBJ, .SHP_CTX_CNT, .RING_PORT_CNT, .PWR_DROGUE, .PWR_CNT, .POOL_OBJ, .POOL_CNT, .MTR_LIVE, .HTI_TIME, .HTI_CNT,
        .GORE_TILE_CNT, .GORE_PANEL, .GORE_CTX, .GORE_CTX_CNT, .GORE_CNT, .GORE_CLASS, .GORE_ATTN_CNT, .CTL_RT, .CTL_RST_CNT, .CTL_READY,
            .CTL_PM, .CTL_PIN_CNT] ⊆ F) (hs : Keeps F a s) :
    KeepsO F a (execKickLimitTimeout dt ctx stepId s) := by
  delta execKickLimitTimeout
  exact KeepsO.mk (keeps_kickLimit (Piece.sub hF (by decide +kernel)) (keeps_pass (Piece.sub hF (by decide +kernel)) hs))

theorem keeps_execStepSubmit {F : List Piece} {a : State} {k : ℕ} {list : Option (List ℕ)} {s : State} (hF : [.hti, .ses, .tier, .gore, .attn,
    .pwr, .ring, .SHP_CTX_CNT, .SEC_CNT, .PWR_DROGUE, .PWR_CNT, .HTI_W_QFAULT, .HTI_CNT, .GORE_PANEL, .GORE_CTX, .GORE_CNT, .CTL_PM] ⊆ F) (hs :
        Keeps F a s) :
    KeepsO F a (execStepSubmit k list s) := by
  delta execStepSubmit
  exact KeepsO.mk (keeps_begin (Piece.sub hF (by decide +kernel)) hs (fun y1 y2 h3 => keeps_stepSubmit (Piece.sub hF (by decide +kernel)) h3))

theorem keeps_execBar4UnbackedAccess {F : List Piece} {a : State} {port : ℕ} {vf : Option ℕ} {offset len value : ℕ} {isWrite : Bool} {s : State}
    (hF : [.attn, .SEC_CNT, .GORE_ATTN_CNT] ⊆ F) (hs : Keeps F a s) :
    KeepsO F a (execBar4UnbackedAccess port vf offset len value isWrite s) := by
  delta execBar4UnbackedAccess
  exact KeepsO.mk (keeps_bar4Access (Piece.sub hF (by decide +kernel)) hs)

theorem keeps_execKvAppendAppend {F : List Piece} {a : State} {k : ℕ} {rows : Option (List ℕ)} {s : State} (hF : [.hti, .ses, .tier, .gore,
    .attn, .pwr, .ring, .SHP_CTX_CNT, .SEC_CNT, .PWR_DROGUE, .PWR_CNT, .HTI_W_QFAULT, .HTI_CNT, .GORE_PANEL, .GORE_CTX, .GORE_CNT, .CTL_PM] ⊆ F)
        (hs : Keeps F a s) :
    KeepsO F a (execKvAppendAppend k rows s) := by
  delta execKvAppendAppend
  exact KeepsO.mk (keeps_begin (Piece.sub hF (by decide +kernel)) hs (fun y1 y2 h3 => keeps_kvAppend (Piece.sub hF (by decide +kernel)) h3))

theorem keeps_execModelShapeUpdate {F : List Piece} {a : State} {k : ℕ} {table : Option (List ℕ)} {s : State} (hF : [.hti, .tier, .attn, .ring,
    .TIER_RSV, .SHP_CTX_CNT, .SEC_CNT, .HTI_W_QFAULT, .HTI_CNT, .GORE_SHAPE] ⊆ F) (hs : Keeps F a s) :
    KeepsO F a (execModelShapeUpdate k table s) := by
  delta execModelShapeUpdate
  exact KeepsO.mk (keeps_begin (Piece.sub hF (by decide +kernel)) hs (fun y1 y2 h3 => keeps_shapeSet (Piece.sub hF (by decide +kernel)) h3))

theorem keeps_execGoreBridleWrite {F : List Piece} {a : State} {ctx value : ℕ} {s : State} (hF : [.tier, .attn, .TIER_RSV, .SEC_CNT, .GORE_CNT,
    .GORE_BRIDLE] ⊆ F) (hs : Keeps F a s) :
    KeepsO F a (execGoreBridleWrite ctx value s) := by
  delta execGoreBridleWrite
  exact KeepsO.mk (keeps_ite (fun _ => keeps_hostWrite hs (fun y1 h2 => keeps_lockWrite (Piece.sub hF (by decide +kernel)) h2 (fun y3 h4 =>
      keeps_bridleWrite (Piece.sub hF (by decide +kernel)) h4))) (fun _ => hs))

theorem keeps_execModelShapeRemove {F : List Piece} {a : State} {k : ℕ} {s : State} (hF : [.hti, .tier, .attn, .ring, .TIER_RSV, .SHP_CTX_CNT,
    .SEC_CNT, .HTI_W_QFAULT, .HTI_CNT, .GORE_SHAPE] ⊆ F) (hs : Keeps F a s) :
    KeepsO F a (execModelShapeRemove k s) := by
  delta execModelShapeRemove
  exact KeepsO.mk (keeps_begin (Piece.sub hF (by decide +kernel)) hs (fun y1 y2 h3 => keeps_shapeRemove (Piece.sub hF (by decide +kernel)) h3))

theorem keeps_execKvAppendStream {F : List Piece} {a : State} {k : ℕ} {s : State} (hF : [.hti, .ses, .tier, .gore, .attn, .pwr, .ring,
    .SHP_CTX_CNT, .SEC_CNT, .PWR_DROGUE, .PWR_CNT, .HTI_W_QFAULT, .HTI_CNT, .GORE_PANEL, .GORE_CTX, .GORE_CNT, .CTL_PM] ⊆ F) (hs : Keeps F a s) :
    KeepsO F a (execKvAppendStream k s) := by
  delta execKvAppendStream
  exact KeepsO.mk (keeps_begin (Piece.sub hF (by decide +kernel)) hs (fun y1 y2 h3 => keeps_kvStream (Piece.sub hF (by decide +kernel)) h3))

theorem keeps_regKick {F : List Piece} {a : State} {ctx value : ℕ} {s : State} (hF : [.ses, .tier, .gore, .attn, .pwr, .PWR_DROGUE, .PWR_CNT,
    .HTI_W_BRSTS, .GORE_PANEL, .GORE_CTX, .GORE_CNT, .GORE_ATTN_CNT, .CTL_PM] ⊆ F) (hs : Keeps F a s) :
    Keeps F a (regKick ctx value s) := by
  delta regKick
  extract_lets +onlyGivenNames -merge -lift -underBinder v1 v2
  clear_value v1 v2
  refine keeps_ite (fun _ => keeps_badKick (Piece.sub hF (by decide +kernel)) hs) (fun _ => ?_)
  split
  · exact keeps_badKick (Piece.sub hF (by decide +kernel)) hs
  · exact keeps_ite (fun _ => keeps_badKick (Piece.sub hF (by decide +kernel)) hs) (fun _ => keeps_kick (Piece.sub hF (by decide +kernel))
        (keeps_bump hs ⟨rfl, hF (by decide +kernel)⟩))

theorem keeps_execHtiWBrkickWrite {F : List Piece} {a : State} {port ctx value : ℕ} {s : State} (hF : [.ses, .tier, .gore, .attn, .pwr, .SEC_CNT,
    .PWR_DROGUE, .PWR_CNT, .HTI_W_BRSTS, .HTI_ERRLOG, .GORE_PANEL, .GORE_CTX, .GORE_CNT, .GORE_ATTN_CNT, .CTL_PM] ⊆ F) (hs : Keeps F a s) :
    KeepsO F a (execHtiWBrkickWrite port ctx value s) := by
  delta execHtiWBrkickWrite
  exact KeepsO.mk (keeps_ite (fun _ => keeps_window (Piece.sub hF (by decide +kernel)) hs (fun y1 h2 => keeps_regKick (Piece.sub hF
      (by decide +kernel)) h2)) (fun _ => hs))

theorem keeps_execAttend {F : List Piece} {a : State} {k : ℕ} {s : State} (hF : [.hti, .ses, .tier, .gore, .attn, .pwr, .ring, .SHP_CTX_CNT,
    .SEC_CNT, .PWR_DROGUE, .PWR_CNT, .HTI_W_QFAULT, .HTI_CNT, .GORE_PANEL, .GORE_CTX, .GORE_CNT, .GORE_ATTN_CNT, .CTL_PM] ⊆ F) (hs : Keeps F a s) :
    KeepsO F a (execAttend k s) := by
  delta execAttend
  exact KeepsO.mk (keeps_begin (Piece.sub hF (by decide +kernel)) hs (fun y1 y2 h3 => keeps_attendBody (Piece.sub hF (by decide +kernel)) h3))

/-! ### Decoding -/

theorem keeps_gramUnbind {F : List Piece} {a : State} {c : Cmd} {s : State} (hF : [.hti, .dec, .ring, .TXT_SLOT, .SHP_CTX_CNT, .SEC_CNT,
    .HTI_W_QFAULT, .HTI_CNT, .DEC_GRAM, .DEC_GAUGE] ⊆ F) (hs : Keeps F a s) :
    Keeps F a (gramUnbind c s) := by
  delta gramUnbind
  extract_lets +onlyGivenNames -merge -lift -underBinder v1
  clear_value v1
  split
  · exact keeps_finish (Piece.sub hF (by decide +kernel)) hs
  · split
    · exact keeps_finish (Piece.sub hF (by decide +kernel)) hs
    · exact keeps_ite (fun _ => keeps_finish (Piece.sub hF (by decide +kernel)) hs) (fun _ => keeps_finish (Piece.sub hF (by decide +kernel))
          (keeps_refreshStreams (Piece.sub hF (by decide +kernel)) (keeps_updStream (Piece.sub hF (by decide +kernel)) hs)))

theorem keeps_execGrammarBindUnbind {F : List Piece} {a : State} {k : ℕ} {s : State} (hF : [.hti, .dec, .ring, .TXT_SLOT, .SHP_CTX_CNT, .SEC_CNT,
    .HTI_W_QFAULT, .HTI_CNT, .DEC_GRAM, .DEC_GAUGE] ⊆ F) (hs : Keeps F a s) :
    KeepsO F a (execGrammarBindUnbind k s) := by
  delta execGrammarBindUnbind
  exact KeepsO.mk (keeps_begin (Piece.sub hF (by decide +kernel)) hs (fun y1 y2 h3 => keeps_gramUnbind (Piece.sub hF (by decide +kernel)) h3))

theorem keeps_setGram {F : List Piece} {a s : State} {n : ℕ} {g : Option GramSlot} (hF : [.dec] ⊆ F) (hs : Keeps F a s) :
    Keeps F a (State.setGram s n g) := by
  delta State.setGram
  exact Keeps.other hs (hdec := .inr (hF (by decide +kernel)))

theorem keeps_showGram {F : List Piece} {a s : State} {n : ℕ} (hF : [.TXT_SLOT, .DEC_GRAM, .DEC_GAUGE] ⊆ F) (hs : Keeps F a s) :
    Keeps F a (State.showGram s n) := by
  delta State.showGram
  extract_lets +onlyGivenNames -merge -lift -underBinder v1
  clear_value v1
  extract_lets +onlyGivenNames -merge -lift -underBinder s2
  have h3 : Keeps F a s2 := by
    unfold s2
    exact keeps_wr (keeps_wr hs ⟨rfl, hF (by decide +kernel)⟩) ⟨rfl, hF (by decide +kernel)⟩
  clear_value s2
  extract_lets +onlyGivenNames -merge -lift -underBinder s4
  have h5 : Keeps F a s4 := by
    unfold s4
    exact keeps_wr (keeps_wr h3 ⟨rfl, hF (by decide +kernel)⟩) ⟨rfl, hF (by decide +kernel)⟩
  clear_value s4
  extract_lets +onlyGivenNames -merge -lift -underBinder s6
  have h7 : Keeps F a s6 := by
    unfold s6
    exact keeps_wr (keeps_wr h5 ⟨rfl, hF (by decide +kernel)⟩) ⟨rfl, hF (by decide +kernel)⟩
  clear_value s6
  exact keeps_refreshStreams (Piece.sub hF (by decide +kernel)) h7

theorem keeps_gramRemove {F : List Piece} {a : State} {c : Cmd} {s : State} (hF : [.hti, .tier, .dec, .ring, .TXT_SLOT, .TIER_RSV, .SHP_CTX_CNT,
    .SEC_CNT, .HTI_W_QFAULT, .HTI_CNT, .DEC_GRAM, .DEC_GAUGE] ⊆ F) (hs : Keeps F a s) :
    Keeps F a (gramRemove c s) := by
  delta gramRemove
  extract_lets +onlyGivenNames -merge -lift -underBinder v1
  clear_value v1
  split
  · exact keeps_finish (Piece.sub hF (by decide +kernel)) hs
  · exact keeps_ite (fun _ => keeps_finish (Piece.sub hF (by decide +kernel)) hs) (fun _ => keeps_ite (fun _ => keeps_finish (Piece.sub hF
        (by decide +kernel)) hs) (fun _ => keeps_finish (Piece.sub hF (by decide +kernel)) (keeps_showGram (Piece.sub hF (by decide +kernel))
            (keeps_setGram (Piece.sub hF (by decide +kernel)) (keeps_rsvSwap (Piece.sub hF (by decide +kernel)) hs)))))

theorem keeps_finishConf {F : List Piece} {a s : State} {c : Cmd} (hF : [.hti, .ring, .SHP_CTX_CNT, .SEC_CNT, .HTI_W_QFAULT, .HTI_CNT] ⊆ F) (hs :
    Keeps F a s) :
    Keeps F a (State.finishConf s c) := by
  delta State.finishConf
  extract_lets +onlyGivenNames -merge -lift -underBinder v1 v2 v3
  clear_value v1 v2 v3
  exact keeps_finish (Piece.sub hF (by decide +kernel)) hs

theorem keeps_streamOp {F : List Piece} {a : State} {needBlock : Bool} {block : Option ℕ} {okState : Option Machine.Stream → Bool} {c : Cmd} {s :
    State} {body : Option StreamConf → State → State} (hF : [.hti, .ring, .SHP_CTX_CNT, .SEC_CNT, .HTI_W_QFAULT, .HTI_CNT] ⊆ F) (hs : Keeps F a
        s) (hbody : ∀ y0 y1, Keeps F a y1 → Keeps F a (body y0 y1)) :
    Keeps F a (streamOp needBlock block okState c s body) := by
  delta streamOp
  extract_lets +onlyGivenNames -merge -lift -underBinder v1
  clear_value v1
  split
  · exact keeps_finish (Piece.sub hF (by decide +kernel)) hs
  · split
    · exact keeps_finish (Piece.sub hF (by decide +kernel)) hs
    · refine keeps_ite (fun _ => keeps_finish (Piece.sub hF (by decide +kernel)) hs) (fun _ => ?_)
      refine keeps_ite (fun _ => keeps_finishConf (Piece.sub hF (by decide +kernel)) (hbody _ _ hs)) (fun _ => ?_)
      split
      · exact keeps_finish (Piece.sub hF (by decide +kernel)) hs
      · split
        · exact keeps_finish (Piece.sub hF (by decide +kernel)) hs
        · extract_lets +onlyGivenNames -merge -lift -underBinder v2
          clear_value v2
          exact keeps_ite (fun _ => keeps_finish (Piece.sub hF (by decide +kernel)) hs) (fun _ => keeps_finishConf (Piece.sub hF
              (by decide +kernel)) (hbody _ _ hs))

theorem keeps_streamRestart {F : List Piece} {a : State} {block read : Option ℕ} {c : Cmd} {s : State} (hF : [.hti, .mbx, .ses, .dec, .ring,
    .TXT_SLOT, .SHP_CTX_CNT, .SEC_CNT, .MBX_SUM, .MBX_CNT, .HTI_W_QFAULT, .HTI_W_MBSTS, .HTI_W_EVT, .HTI_CNT, .DEC_GRAM, .DEC_GAUGE, .DEC_CNT] ⊆
        F) (hs : Keeps F a s) :
    Keeps F a (streamRestart block read c s) := by
  delta streamRestart
  extract_lets +onlyGivenNames -merge -lift -underBinder v1
  clear_value v1
  refine keeps_streamOp (Piece.sub hF (by decide +kernel)) hs (fun y2 y3 h4 => ?_)
  extract_lets +onlyGivenNames -merge -lift -underBinder v5
  clear_value v5
  extract_lets +onlyGivenNames -merge -lift -underBinder s6
  have h7 : Keeps F a s6 := by
    unfold s6
    exact keeps_endOpen (Piece.sub hF (by decide +kernel)) h4
  clear_value s6
  exact keeps_refreshStreams (Piece.sub hF (by decide +kernel)) (keeps_updStream (Piece.sub hF (by decide +kernel)) h7)

theorem keeps_execStreamConfRestart {F : List Piece} {a : State} {k : ℕ} {block read : Option ℕ} {s : State} (hF : [.hti, .mbx, .ses, .tier,
    .dec, .ring, .TXT_SLOT, .TIER_RSV, .SHP_CTX_CNT, .SEC_CNT, .MBX_SUM, .MBX_CNT, .HTI_W_QFAULT, .HTI_W_MBSTS, .HTI_W_EVT, .HTI_CNT, .DEC_GRAM,
        .DEC_GAUGE, .DEC_CNT] ⊆ F) (hs : Keeps F a s) :
    KeepsO F a (execStreamConfRestart k block read s) := by
  delta execStreamConfRestart
  exact KeepsO.mk (keeps_sweepImages (Piece.sub hF (by decide +kernel)) (keeps_begin (Piece.sub hF (by decide +kernel)) hs (fun y1 y2 h3 =>
      keeps_streamRestart (Piece.sub hF (by decide +kernel)) h3)))

theorem keeps_streamClose {F : List Piece} {a : State} {read : Option ℕ} {c : Cmd} {s : State} (hF : [.hti, .mbx, .ses, .dec, .ring, .TXT_SLOT,
    .SHP_CTX_CNT, .SEC_CNT, .MBX_SUM, .MBX_CNT, .HTI_W_QFAULT, .HTI_W_MBSTS, .HTI_W_EVT, .HTI_CNT, .DEC_GRAM, .DEC_GAUGE, .DEC_CNT] ⊆ F) (hs :
        Keeps F a s) :
    Keeps F a (streamClose read c s) := by
  delta streamClose
  extract_lets +onlyGivenNames -merge -lift -underBinder v1
  clear_value v1
  exact keeps_streamOp (Piece.sub hF (by decide +kernel)) hs (fun y2 y3 h4 => keeps_freeStream (Piece.sub hF (by decide +kernel)) (keeps_endOpen
      (Piece.sub hF (by decide +kernel)) h4))

theorem keeps_execStreamConfClose {F : List Piece} {a : State} {k : ℕ} {read : Option ℕ} {s : State} (hF : [.hti, .mbx, .ses, .tier, .dec, .ring,
    .TXT_SLOT, .TIER_RSV, .SHP_CTX_CNT, .SEC_CNT, .MBX_SUM, .MBX_CNT, .HTI_W_QFAULT, .HTI_W_MBSTS, .HTI_W_EVT, .HTI_CNT, .DEC_GRAM, .DEC_GAUGE,
        .DEC_CNT] ⊆ F) (hs : Keeps F a s) :
    KeepsO F a (execStreamConfClose k read s) := by
  delta execStreamConfClose
  exact KeepsO.mk (keeps_sweepImages (Piece.sub hF (by decide +kernel)) (keeps_begin (Piece.sub hF (by decide +kernel)) hs (fun y1 y2 h3 =>
      keeps_streamClose (Piece.sub hF (by decide +kernel)) h3)))

theorem keeps_streamOpen {F : List Piece} {a : State} {block : Option ℕ} {c : Cmd} {s : State} (hF : [.hti, .dec, .ring, .TXT_SLOT, .SHP_CTX_CNT,
    .SEC_CNT, .HTI_W_QFAULT, .HTI_CNT, .DEC_GRAM, .DEC_GAUGE] ⊆ F) (hs : Keeps F a s) :
    Keeps F a (streamOpen block c s) := by
  delta streamOpen
  extract_lets +onlyGivenNames -merge -lift -underBinder v1
  clear_value v1
  refine keeps_ite (fun _ => ?_) (fun _ => ?_)
  · split
    · split
      · exact keeps_finish (Piece.sub hF (by decide +kernel)) hs
      · exact keeps_finish (Piece.sub hF (by decide +kernel)) hs
    · exact keeps_finish (Piece.sub hF (by decide +kernel)) hs
  · refine keeps_streamOp (Piece.sub hF (by decide +kernel)) hs (fun y2 y3 h4 => ?_)
    split
    · exact keeps_refreshStreams (Piece.sub hF (by decide +kernel)) (keeps_setStreams (Piece.sub hF (by decide +kernel)) h4)
    · exact h4

theorem keeps_execStreamConfOpen {F : List Piece} {a : State} {k : ℕ} {block : Option ℕ} {s : State} (hF : [.hti, .tier, .dec, .ring, .TXT_SLOT,
    .TIER_RSV, .SHP_CTX_CNT, .SEC_CNT, .HTI_W_QFAULT, .HTI_CNT, .DEC_GRAM, .DEC_GAUGE] ⊆ F) (hs : Keeps F a s) :
    KeepsO F a (execStreamConfOpen k block s) := by
  delta execStreamConfOpen
  exact KeepsO.mk (keeps_sweepImages (Piece.sub hF (by decide +kernel)) (keeps_begin (Piece.sub hF (by decide +kernel)) hs (fun y1 y2 h3 =>
      keeps_streamOpen (Piece.sub hF (by decide +kernel)) h3)))

theorem keeps_stuck {F : List Piece} {a s : State} {c : Cmd} {h pos : ℕ} {g : Option (Gram × Binding)} {noFinite mismatch : Bool} (hF : [.mbx,
    .MBX_SUM, .MBX_CNT, .HTI_W_MBSTS, .HTI_W_FLT, .HTI_CNT, .DEC_CNT] ⊆ F) (hs : Keeps F a s) :
    KeepsP F a (State.stuck s c h pos g noFinite mismatch) := by
  delta State.stuck
  extract_lets +onlyGivenNames -merge -lift -underBinder v1 v2
  clear_value v1 v2
  extract_lets +onlyGivenNames -merge -lift -underBinder s3
  have h4 : Keeps F a s3 := by
    unfold s3
    exact keeps_bump (keeps_bump hs ⟨rfl, hF (by decide +kernel)⟩) ⟨rfl, hF (by decide +kernel)⟩
  clear_value s3
  extract_lets +onlyGivenNames -merge -lift -underBinder s5
  have h6 : Keeps F a s5 := by
    unfold s5
    exact keeps_bump h4 ⟨rfl, hF (by decide +kernel)⟩
  clear_value s5
  extract_lets +onlyGivenNames -merge -lift -underBinder v7 v8
  clear_value v7 v8
  exact KeepsP.mk (keeps_fault (Piece.sub hF (by decide +kernel)) h6)

theorem keeps_drawEntry {F : List Piece} {a s : State} {c : Cmd} {h : ℕ} {x0 : Machine.Stream} {m : Img} {g : Option (Gram × Binding)} {row :
    List (ℕ × ℕ)} (hF : [.mbx, .MBX_SUM, .MBX_CNT, .HTI_W_MBSTS, .HTI_W_FLT, .HTI_CNT, .DEC_CNT] ⊆ F) (hs : Keeps F a s) :
    KeepsP F a (State.drawEntry s c h x0 m g row) := by
  delta State.drawEntry
  split
  · exact KeepsP.mk hs
  · extract_lets +onlyGivenNames -merge -lift -underBinder v1
    clear_value v1
    extract_lets +onlyGivenNames -merge -lift -underBinder s2
    have h3 : Keeps F a s2 := by
      unfold s2
      exact keeps_bump hs ⟨rfl, hF (by decide +kernel)⟩
    clear_value s2
    extract_lets +onlyGivenNames -merge -lift -underBinder v4
    clear_value v4
    extract_lets +onlyGivenNames -merge -lift -underBinder s5
    have h6 : Keeps F a s5 := by
      unfold s5
      split
      · exact keeps_bump (keeps_bump (keeps_bump h3 ⟨rfl, hF (by decide +kernel)⟩) ⟨rfl, hF (by decide +kernel)⟩) ⟨rfl, hF (by decide +kernel)⟩
      · exact h3
    clear_value s5
    extract_lets +onlyGivenNames -merge -lift -underBinder s7
    have h8 : Keeps F a s7 := by
      unfold s7
      split
      · exact keeps_bump h6 ⟨rfl, hF (by decide +kernel)⟩
      · exact h6
    clear_value s7
    extract_lets +onlyGivenNames -merge -lift -underBinder v9 v10 v11
    clear_value v9 v10 v11
    split
    · exact KeepsP.mk h8
    · extract_lets +onlyGivenNames -merge -lift -underBinder p12
      have h13 : KeepsP F a p12 := by
        unfold p12
        exact keeps_stuck (Piece.sub hF (by decide +kernel)) h8
      clear_value p12
      exact KeepsP.mk (KeepsP.proj h13)
    · extract_lets +onlyGivenNames -merge -lift -underBinder p14
      have h15 : KeepsP F a p14 := by
        unfold p14
        exact keeps_stuck (Piece.sub hF (by decide +kernel)) h8
      clear_value p14
      exact KeepsP.mk (KeepsP.proj h15)
    · extract_lets +onlyGivenNames -merge -lift -underBinder v16
      clear_value v16
      extract_lets +onlyGivenNames -merge -lift -underBinder s17
      have h18 : Keeps F a s17 := by
        unfold s17
        split
        · exact keeps_bump (keeps_bump h8 ⟨rfl, hF (by decide +kernel)⟩) ⟨rfl, hF (by decide +kernel)⟩
        · exact h8
      clear_value s17
      extract_lets +onlyGivenNames -merge -lift -underBinder v19
      clear_value v19
      refine keepsP_ite (fun _ => ?_) (fun _ => KeepsP.mk (keeps_bump (keeps_bump h18 ⟨rfl, hF (by decide +kernel)⟩) ⟨rfl, hF (by decide +kernel)⟩))
      extract_lets +onlyGivenNames -merge -lift -underBinder p20
      have h21 : KeepsP F a p20 := by
        unfold p20
        exact keeps_stuck (Piece.sub hF (by decide +kernel)) h18
      clear_value p20
      exact KeepsP.mk (KeepsP.proj h21)

theorem keeps_sampleOut {F : List Piece} {a s : State} {c : Cmd} {r : ℕ} {v : SampRes} {x0 : SampRun} (hF : [.attn] ⊆ F) (hs : Keeps F a s) :
    KeepsP F a (State.sampleOut s c r v x0) := by
  delta State.sampleOut
  extract_lets +onlyGivenNames -merge -lift -underBinder v1
  clear_value v1
  extract_lets +onlyGivenNames -merge -lift -underBinder s2
  have h3 : Keeps F a s2 := by
    unfold s2
    exact keeps_putAt (Piece.sub hF (by decide +kernel)) hs
  clear_value s2
  extract_lets +onlyGivenNames -merge -lift -underBinder s4
  have h5 : Keeps F a s4 := by
    unfold s4
    exact keeps_emit h3
  clear_value s4
  exact KeepsP.mk h5

theorem keeps_sampleStep {F : List Piece} {a : State} {c : Cmd} {n i : ℕ} {row : List (ℕ × ℕ)} {r : ℕ} {p : State × SampRun} (hF : [.mbx, .ses,
    .tier, .gore, .attn, .pool, .TIER_OBJ, .POOL_OBJ, .POOL_CNT, .MBX_SUM, .MBX_CNT, .HTI_W_MBSTS, .HTI_W_FLT, .HTI_CNT, .GORE_TILE_CNT,
        .GORE_CTX, .GORE_CTX_CNT, .DEC_CNT, .CTL_READY] ⊆ F) (hp : KeepsP F a p) :
    KeepsP F a (sampleStep c n i row r p) := by
  delta sampleStep
  extract_lets +onlyGivenNames -merge -lift -underBinder s1
  have h2 : Keeps F a s1 := by
    unfold s1
    exact keeps_bump (KeepsP.proj hp) ⟨rfl, hF (by decide +kernel)⟩
  clear_value s1
  extract_lets +onlyGivenNames -merge -lift -underBinder v3
  clear_value v3
  split
  · exact KeepsP.mk h2
  · split
    · exact KeepsP.mk h2
    · refine keepsP_ite (fun _ => keeps_sampleOut (Piece.sub hF (by decide +kernel)) h2) (fun _ => ?_)
      refine keepsP_ite (fun _ => keeps_sampleOut (Piece.sub hF (by decide +kernel)) h2) (fun _ => ?_)
      refine keepsP_ite (fun _ => keeps_sampleOut (Piece.sub hF (by decide +kernel)) (keeps_updEntry (Piece.sub hF (by decide +kernel)) h2)) (fun
          _ => ?_)
      split
      · exact keeps_sampleOut (Piece.sub hF (by decide +kernel)) h2
      · split
        · rename_i x4 x6 e7
          have h5 := KeepsP.fst e7 (F := F) (a := a) (by
              exact keeps_drawEntry (Piece.sub hF (by decide +kernel)) h2
            )
          exact keeps_sampleOut (Piece.sub hF (by decide +kernel)) (keeps_leaveStep (Piece.sub hF (by decide +kernel)) h5)
        · rename_i x8 x10 x11 e12
          have h9 := KeepsP.fst e12 (F := F) (a := a) (by
              exact keeps_drawEntry (Piece.sub hF (by decide +kernel)) h2
            )
          extract_lets +onlyGivenNames -merge -lift -underBinder s13
          have h14 : Keeps F a s13 := by
            unfold s13
            exact keeps_updEntry (Piece.sub hF (by decide +kernel)) h9
          clear_value s13
          extract_lets +onlyGivenNames -merge -lift -underBinder v15
          clear_value v15
          exact keeps_sampleOut (Piece.sub hF (by decide +kernel)) h14

theorem keeps_endSample {F : List Piece} {a s : State} {c : Cmd} {x0 : SampRun} (hF : [.hti, .ses, .ring, .SHP_CTX_CNT, .SEC_CNT, .HTI_W_QFAULT,
    .HTI_CNT] ⊆ F) (hs : Keeps F a s) :
    Keeps F a (State.endSample s c x0) := by
  delta State.endSample
  extract_lets +onlyGivenNames -merge -lift -underBinder v1
  clear_value v1
  refine keeps_ite (fun _ => keeps_finish (Piece.sub hF (by decide +kernel)) hs) (fun _ => ?_)
  extract_lets +onlyGivenNames -merge -lift -underBinder v2
  clear_value v2
  exact Keeps.other hs (hses := .inr (hF (by decide +kernel)))

theorem keeps_sampleList {F : List Piece} {a : State} {c : Cmd} {h : ℕ} {row : List (ℕ × ℕ)} {read : Option ℕ} {r : ℕ} {p : State × SampRun} (hF
    : [.mbx, .ses, .tier, .attn, .dec, .pool, .ring, .TXT_SLOT, .TIER_OBJ, .TIER_DRV, .TIER_CNT, .RING_CNT, .POOL_OBJ, .POOL_CNT, .MTR_LIVE,
        .MBX_SUM, .MBX_CNT, .HTI_W_MBSTS, .HTI_W_FLT, .HTI_W_EVT, .HTI_CNT, .DEC_GRAM, .DEC_GAUGE, .DEC_CNT, .CTL_READY] ⊆ F) (hp : KeepsP F a p) :
    KeepsP F a (sampleList c h row read r p) := by
  delta sampleList
  extract_lets +onlyGivenNames -merge -lift -underBinder s1
  have h2 : Keeps F a s1 := by
    unfold s1
    exact keeps_bump (KeepsP.proj hp) ⟨rfl, hF (by decide +kernel)⟩
  clear_value s1
  extract_lets +onlyGivenNames -merge -lift -underBinder v3 v4
  clear_value v3 v4
  refine keepsP_ite (fun _ => keeps_sampleOut (Piece.sub hF (by decide +kernel)) h2) (fun _ => ?_)
  split
  · exact keeps_sampleOut (Piece.sub hF (by decide +kernel)) h2
  · split
    · exact keeps_sampleOut (Piece.sub hF (by decide +kernel)) h2
    · split
      · rename_i x5 x7 e8
        have h6 := KeepsP.fst e8 (F := F) (a := a) (by
            exact keeps_drawEntry (Piece.sub hF (by decide +kernel)) h2
          )
        exact keeps_sampleOut (Piece.sub hF (by decide +kernel)) h6
      · rename_i x9 x11 x12 e13
        have h10 := KeepsP.fst e13 (F := F) (a := a) (by
            exact keeps_drawEntry (Piece.sub hF (by decide +kernel)) h2
          )
        split
        · exact KeepsP.mk h10
        · extract_lets +onlyGivenNames -merge -lift -underBinder s14
          have h15 : Keeps F a s14 := by
            unfold s14
            exact keeps_appendSampled (Piece.sub hF (by decide +kernel)) h10
          clear_value s14
          extract_lets +onlyGivenNames -merge -lift -underBinder v16 v17
          clear_value v16 v17
          exact keeps_sampleOut (Piece.sub hF (by decide +kernel)) h15

theorem keeps_sampleBody {F : List Piece} {a : State} {list : Option (List ℕ)} {rows : List (List ℕ)} {reads : List (Option ℕ)} {c : Cmd} {s :
    State} (hF : [.hti, .mbx, .ses, .tier, .gore, .attn, .dec, .pool, .ring, .TXT_SLOT, .TIER_OBJ, .TIER_DRV, .TIER_CNT, .SHP_CTX_CNT, .SEC_CNT,
        .RING_CNT, .POOL_OBJ, .POOL_CNT, .MTR_LIVE, .MBX_SUM, .MBX_CNT, .HTI_W_QFAULT, .HTI_W_MBSTS, .HTI_W_FLT, .HTI_W_EVT, .HTI_CNT,
            .GORE_TILE_CNT, .GORE_CTX, .GORE_CTX_CNT, .DEC_GRAM, .DEC_GAUGE, .DEC_CNT, .CTL_READY] ⊆ F) (hs : Keeps F a s) :
    Keeps F a (sampleBody list rows reads c s) := by
  delta sampleBody
  extract_lets +onlyGivenNames -merge -lift -underBinder v1 v2 v3 v4 v5
  clear_value v1 v2 v3 v4 v5
  extract_lets +onlyGivenNames -merge -lift -underBinder s6
  have h7 : Keeps F a s6 := by
    unfold s6
    exact hs
  clear_value s6
  extract_lets +onlyGivenNames -merge -lift -underBinder v8 v9
  clear_value v8 v9
  extract_lets +onlyGivenNames -merge -lift -underBinder f20
  unfold f20
  beta_reduce
  refine keeps_ite (fun _ => ?_) (fun _ => ?_)
  · refine keeps_ite (fun _ => keeps_finish (Piece.sub hF (by decide +kernel)) hs) (fun _ => ?_)
    refine keeps_ite (fun _ => keeps_finish (Piece.sub hF (by decide +kernel)) hs) (fun _ => ?_)
    split
    · exact keeps_finish (Piece.sub hF (by decide +kernel)) hs
    · extract_lets +onlyGivenNames -merge -lift -underBinder p10
      have h11 : KeepsP F a p10 := by
        unfold p10
        exact keeps_foldp (fun s12 x13 h14 => keeps_sampleList (Piece.sub hF (by decide +kernel)) h14) (KeepsP.mk hs)
      clear_value p10
      exact keeps_endSample (Piece.sub hF (by decide +kernel)) (KeepsP.proj h11)
  · split
    · exact keeps_finish (Piece.sub hF (by decide +kernel)) hs
    · refine keeps_ite (fun _ => keeps_finish (Piece.sub hF (by decide +kernel)) hs) (fun _ => ?_)
      refine keeps_ite (fun _ => keeps_finish (Piece.sub hF (by decide +kernel)) hs) (fun _ => ?_)
      refine keeps_ite (fun _ => keeps_finish (Piece.sub hF (by decide +kernel)) hs) (fun _ => ?_)
      refine keeps_ite (fun _ => keeps_finish (Piece.sub hF (by decide +kernel)) hs) (fun _ => ?_)
      extract_lets +onlyGivenNames -merge -lift -underBinder p15
      have h16 : KeepsP F a p15 := by
        unfold p15
        exact keeps_foldp (fun s17 x18 h19 => keeps_sampleStep (Piece.sub hF (by decide +kernel)) h19) (KeepsP.mk hs)
      clear_value p15
      exact keeps_endSample (Piece.sub hF (by decide +kernel)) (KeepsP.proj h16)

theorem keeps_execSample {F : List Piece} {a : State} {k : ℕ} {list : Option (List ℕ)} {rows : List (List ℕ)} {reads : List (Option ℕ)} {s :
    State} (hF : [.hti, .mbx, .ses, .tier, .gore, .attn, .dec, .pool, .ring, .TXT_SLOT, .TIER_OBJ, .TIER_DRV, .TIER_CNT, .SHP_CTX_CNT, .SEC_CNT,
        .RING_CNT, .POOL_OBJ, .POOL_CNT, .MTR_LIVE, .MBX_SUM, .MBX_CNT, .HTI_W_QFAULT, .HTI_W_MBSTS, .HTI_W_FLT, .HTI_W_EVT, .HTI_CNT,
            .GORE_TILE_CNT, .GORE_CTX, .GORE_CTX_CNT, .DEC_GRAM, .DEC_GAUGE, .DEC_CNT, .CTL_READY] ⊆ F) (hs : Keeps F a s) :
    KeepsO F a (execSample k list rows reads s) := by
  delta execSample
  exact KeepsO.mk (keeps_begin (Piece.sub hF (by decide +kernel)) hs (fun y1 y2 h3 => keeps_sampleBody (Piece.sub hF (by decide +kernel)) h3))

theorem keeps_execDecCntClr {F : List Piece} {a : State} {value : ℕ} {s : State} (hF : [.DEC_CNT] ⊆ F) (hs : Keeps F a s) :
    KeepsO F a (execDecCntClr value s) := by
  delta execDecCntClr
  exact KeepsO.mk (keeps_hostWrite hs (fun y1 h2 => keeps_ite (fun _ => keeps_zeroAll h2 ⟨rfl, hF (by decide +kernel)⟩) (fun _ => h2)))

theorem keeps_gramLoad {F : List Piece} {a : State} {src : SrcRead} {c : Cmd} {s : State} (hF : [.hti, .tier, .dec, .ring, .TXT_SLOT, .TIER_RSV,
    .SHP_CTX_CNT, .SEC_CNT, .HTI_W_QFAULT, .HTI_CNT, .DEC_GRAM, .DEC_GAUGE, .DEC_CNT] ⊆ F) (hs : Keeps F a s) :
    Keeps F a (gramLoad src c s) := by
  delta gramLoad
  extract_lets +onlyGivenNames -merge -lift -underBinder v1 v2 v3 v4 v5
  clear_value v1 v2 v3 v4 v5
  refine keeps_ite (fun _ => keeps_finish (Piece.sub hF (by decide +kernel)) hs) (fun _ => ?_)
  refine keeps_ite (fun _ => keeps_finish (Piece.sub hF (by decide +kernel)) hs) (fun _ => ?_)
  split
  · exact keeps_finish (Piece.sub hF (by decide +kernel)) hs
  · extract_lets +onlyGivenNames -merge -lift -underBinder v6 v7
    clear_value v6 v7
    split
    · exact keeps_finish (Piece.sub hF (by decide +kernel)) (keeps_bump hs ⟨rfl, hF (by decide +kernel)⟩)
    · exact keeps_ite (fun _ => keeps_finish (Piece.sub hF (by decide +kernel)) (keeps_rsvFull (Piece.sub hF (by decide +kernel)) hs)) (fun _ =>
          keeps_finish (Piece.sub hF (by decide +kernel)) (keeps_showGram (Piece.sub hF (by decide +kernel)) (keeps_setGram (Piece.sub hF
              (by decide +kernel)) (keeps_rsvSwap (Piece.sub hF (by decide +kernel)) hs))))

theorem keeps_streamUpdate {F : List Piece} {a : State} {block : Option ℕ} {c : Cmd} {s : State} (hF : [.hti, .dec, .ring, .TXT_SLOT,
    .SHP_CTX_CNT, .SEC_CNT, .HTI_W_QFAULT, .HTI_CNT, .DEC_GRAM, .DEC_GAUGE] ⊆ F) (hs : Keeps F a s) :
    Keeps F a (streamUpdate block c s) := by
  delta streamUpdate
  refine keeps_streamOp (Piece.sub hF (by decide +kernel)) hs (fun y1 y2 h3 => ?_)
  split
  · exact keeps_refreshStreams (Piece.sub hF (by decide +kernel)) (keeps_updStream (Piece.sub hF (by decide +kernel)) h3)
  · exact h3

theorem keeps_backlogPoll {F : List Piece} {a : State} {h : ℕ} {read : Option ℕ} {s : State} (hF : [.dec, .TXT_SLOT, .DEC_GRAM, .DEC_GAUGE] ⊆ F)
    (hs : Keeps F a s) :
    Keeps F a (backlogPoll h read s) := by
  delta backlogPoll
  split
  · exact hs
  · refine keeps_ite (fun _ => hs) (fun _ => ?_)
    extract_lets +onlyGivenNames -merge -lift -underBinder p1
    have h2 : KeepsP F a p1 := by
      unfold p1
      exact keeps_ringDrain hs
    clear_value p1
    extract_lets +onlyGivenNames -merge -lift -underBinder v3 v4
    clear_value v3 v4
    exact keeps_refreshStreams (Piece.sub hF (by decide +kernel)) (keeps_setStreams (Piece.sub hF (by decide +kernel)) (KeepsP.proj h2))

theorem keeps_gramBind {F : List Piece} {a : State} {c : Cmd} {s : State} (hF : [.hti, .mbx, .dec, .ring, .TXT_SLOT, .SHP_CTX_CNT, .SEC_CNT,
    .MBX_SUM, .MBX_CNT, .HTI_W_QFAULT, .HTI_W_MBSTS, .HTI_W_FLT, .HTI_CNT, .DEC_GRAM, .DEC_GAUGE, .DEC_CNT] ⊆ F) (hs : Keeps F a s) :
    Keeps F a (gramBind c s) := by
  delta gramBind
  extract_lets +onlyGivenNames -merge -lift -underBinder v1 v2 v3
  clear_value v1 v2 v3
  split
  · exact keeps_finish (Piece.sub hF (by decide +kernel)) hs
  · split
    · exact keeps_finish (Piece.sub hF (by decide +kernel)) hs
    · split
      · exact keeps_finish (Piece.sub hF (by decide +kernel)) hs
      · split
        · refine keeps_ite (fun _ => keeps_finish (Piece.sub hF (by decide +kernel)) hs) (fun _ => ?_)
          refine keeps_ite (fun _ => keeps_finish (Piece.sub hF (by decide +kernel)) hs) (fun _ => ?_)
          extract_lets +onlyGivenNames -merge -lift -underBinder v4
          clear_value v4
          extract_lets +onlyGivenNames -merge -lift -underBinder s5
          have h6 : Keeps F a s5 := by
            unfold s5
            exact keeps_bump (keeps_bump hs ⟨rfl, hF (by decide +kernel)⟩) ⟨rfl, hF (by decide +kernel)⟩
          clear_value s5
          split
          · extract_lets +onlyGivenNames -merge -lift -underBinder s7
            have h8 : Keeps F a s7 := by
              unfold s7
              exact keeps_updStream (Piece.sub hF (by decide +kernel)) h6
            clear_value s7
            exact keeps_finish (Piece.sub hF (by decide +kernel)) (keeps_refreshStreams (Piece.sub hF (by decide +kernel)) h8)
          · extract_lets +onlyGivenNames -merge -lift -underBinder p9
            have h10 : KeepsP F a p9 := by
              unfold p9
              exact keeps_stuck (Piece.sub hF (by decide +kernel)) h6
            clear_value p9
            exact keeps_finish (Piece.sub hF (by decide +kernel)) (KeepsP.proj h10)
        · exact keeps_finish (Piece.sub hF (by decide +kernel)) hs

theorem keeps_execGrammarBindBind {F : List Piece} {a : State} {k : ℕ} {s : State} (hF : [.hti, .mbx, .tier, .dec, .ring, .TXT_SLOT, .TIER_RSV,
    .SHP_CTX_CNT, .SEC_CNT, .MBX_SUM, .MBX_CNT, .HTI_W_QFAULT, .HTI_W_MBSTS, .HTI_W_FLT, .HTI_CNT, .DEC_GRAM, .DEC_GAUGE, .DEC_CNT] ⊆ F) (hs :
        Keeps F a s) :
    KeepsO F a (execGrammarBindBind k s) := by
  delta execGrammarBindBind
  exact KeepsO.mk (keeps_sweepImages (Piece.sub hF (by decide +kernel)) (keeps_begin (Piece.sub hF (by decide +kernel)) hs (fun y1 y2 h3 =>
      keeps_gramBind (Piece.sub hF (by decide +kernel)) h3)))

theorem keeps_execGrammarLoadRemove {F : List Piece} {a : State} {k : ℕ} {s : State} (hF : [.hti, .tier, .dec, .ring, .TXT_SLOT, .TIER_RSV,
    .SHP_CTX_CNT, .SEC_CNT, .HTI_W_QFAULT, .HTI_CNT, .DEC_GRAM, .DEC_GAUGE] ⊆ F) (hs : Keeps F a s) :
    KeepsO F a (execGrammarLoadRemove k s) := by
  delta execGrammarLoadRemove
  exact KeepsO.mk (keeps_begin (Piece.sub hF (by decide +kernel)) hs (fun y1 y2 h3 => keeps_gramRemove (Piece.sub hF (by decide +kernel)) h3))

theorem keeps_execStreamConfUpdate {F : List Piece} {a : State} {k : ℕ} {block : Option ℕ} {s : State} (hF : [.hti, .tier, .dec, .ring,
    .TXT_SLOT, .TIER_RSV, .SHP_CTX_CNT, .SEC_CNT, .HTI_W_QFAULT, .HTI_CNT, .DEC_GRAM, .DEC_GAUGE] ⊆ F) (hs : Keeps F a s) :
    KeepsO F a (execStreamConfUpdate k block s) := by
  delta execStreamConfUpdate
  exact KeepsO.mk (keeps_sweepImages (Piece.sub hF (by decide +kernel)) (keeps_begin (Piece.sub hF (by decide +kernel)) hs (fun y1 y2 h3 =>
      keeps_streamUpdate (Piece.sub hF (by decide +kernel)) h3)))

theorem keeps_execMaskLaneFault {F : List Piece} {a : State} {lane ctx handle : ℕ} {s : State} (hF : [.mbx, .MBX_SUM, .MBX_CNT, .HTI_W_MBSTS,
    .HTI_W_FLT, .HTI_CNT, .DEC_LANES, .DEC_CNT, .CTL_READY] ⊆ F) (hs : Keeps F a s) :
    KeepsO F a (execMaskLaneFault lane ctx handle s) := by
  delta execMaskLaneFault
  exact KeepsO.mk (keeps_ite (fun _ => keeps_fenceLane (Piece.sub hF (by decide +kernel)) (keeps_bump hs ⟨rfl, hF (by decide +kernel)⟩) ⟨rfl, hF
      (by decide +kernel)⟩) (fun _ => hs))

theorem keeps_execOutputRingBacklogPoll {F : List Piece} {a : State} {dt handle : ℕ} {read : Option ℕ} {s : State} (hF : [.fleet, .dec,
    .TXT_SLOT, .TIER_STALL, .SHP_CTX_CNT, .RING_PORT_CNT, .PWR_CNT, .MTR_LIVE, .HTI_TIME, .HTI_CNT, .GORE_CTX_CNT, .GORE_CLASS, .DEC_GRAM,
        .DEC_GAUGE, .CTL_RT, .CTL_RST_CNT, .CTL_PIN_CNT] ⊆ F) (hs : Keeps F a s) :
    KeepsO F a (execOutputRingBacklogPoll dt handle read s) := by
  delta execOutputRingBacklogPoll
  exact KeepsO.mk (keeps_backlogPoll (Piece.sub hF (by decide +kernel)) (keeps_pass (Piece.sub hF (by decide +kernel)) hs))

theorem keeps_execGrammarLoadLoad {F : List Piece} {a : State} {k : ℕ} {src : SrcRead} {s : State} (hF : [.hti, .tier, .dec, .ring, .TXT_SLOT,
    .TIER_RSV, .SHP_CTX_CNT, .SEC_CNT, .HTI_W_QFAULT, .HTI_CNT, .DEC_GRAM, .DEC_GAUGE, .DEC_CNT] ⊆ F) (hs : Keeps F a s) :
    KeepsO F a (execGrammarLoadLoad k src s) := by
  delta execGrammarLoadLoad
  exact KeepsO.mk (keeps_sweepImages (Piece.sub hF (by decide +kernel)) (keeps_begin (Piece.sub hF (by decide +kernel)) hs (fun y1 y2 h3 =>
      keeps_gramLoad (Piece.sub hF (by decide +kernel)) h3)))

/-! ### Abort -/

theorem keeps_commitThrough {F : List Piece} {a s : State} {n k x0 : ℕ} (hF : [.hti, .ses, .tier, .pool, .rcl, .ring, .TIER_OBJ, .TIER_DRV,
    .TIER_CNT, .SHP_CTX_CNT, .SEC_CNT, .RCL_IDX, .RCL_GAUGE, .RCL_CTX_CNT, .RCL_CNT, .POOL_OBJ, .POOL_CNT, .HTI_W_QFAULT, .HTI_CNT, .CTL_READY] ⊆
        F) (hs : Keeps F a s) :
    Keeps F a (State.commitThrough s n k x0) := by
  induction x0 generalizing s n k with
  | zero =>
    rw [State.commitThrough.eq_1]
    exact hs
  | succ _ ih =>
    rw [State.commitThrough.eq_2]
    split
    · exact keeps_ite (fun _ => ih (keeps_commitNext (Piece.sub hF (by decide +kernel)) hs)) (fun _ => hs)
    · exact hs

theorem keeps_abortSeq {F : List Piece} {a s : State} {c : Cmd} {st : Status} {cause : ℕ} {m : EndMode} (hF : [.hti, .ses, .tier, .gore, .pool,
    .rcl, .ring, .TIER_OBJ, .TIER_DRV, .TIER_CNT, .SHP_CTX_CNT, .SEC_CNT, .RCL_IDX, .RCL_GAUGE, .RCL_CTX_CNT, .RCL_CNT, .POOL_OBJ, .POOL_CNT,
        .HTI_W_QFAULT, .HTI_CNT, .GORE_CTX, .GORE_CTX_CNT, .CTL_READY] ⊆ F) (hs : Keeps F a s) :
    Keeps F a (State.abortSeq s c st cause m) := by
  delta State.abortSeq
  extract_lets +onlyGivenNames -merge -lift -underBinder s1
  have h2 : Keeps F a s1 := by
    unfold s1
    exact keeps_voidPend (Piece.sub hF (by decide +kernel)) (keeps_killItems (Piece.sub hF (by decide +kernel)) hs)
  clear_value s1
  exact keeps_ite (fun _ => h2) (fun _ => keeps_foldl (fun s3 x4 h5 => keeps_commitThrough (Piece.sub hF (by decide +kernel)) h5) h2)

theorem keeps_abortKv {F : List Piece} {a s : State} {c : Cmd} {st : Status} {cause : ℕ} (hF : [.hti, .ses, .tier, .gore, .attn, .pool, .ring,
    .TIER_OBJ, .SHP_CTX_CNT, .SEC_CNT, .POOL_OBJ, .POOL_CNT, .HTI_W_QFAULT, .HTI_CNT, .GORE_TILE_CNT, .GORE_CTX, .GORE_CTX_CNT, .CTL_READY] ⊆ F)
        (hs : Keeps F a s) :
    Keeps F a (State.abortKv s c st cause) := by
  delta State.abortKv
  split
  · exact keeps_finish (Piece.sub hF (by decide +kernel)) hs
  · exact keeps_endKv (Piece.sub hF (by decide +kernel)) hs

theorem keeps_abortStep {F : List Piece} {a s : State} {t : Step} {st : Status} {cause : ℕ} {m : EndMode} (hF : [.hti, .ses, .tier, .gore, .attn,
    .fleet, .pool, .ring, .TIER_OBJ, .SHP_CTX_CNT, .SEC_CNT, .POOL_OBJ, .POOL_CNT, .HTI_W_QFAULT, .HTI_CNT, .GORE_TILE_CNT, .GORE_ROLE,
        .GORE_CTX, .GORE_CTX_CNT, .GORE_CNT, .GORE_ATTN_CNT, .CTL_READY, .CTL_ADM, .CTL_ADM_CNT] ⊆ F) (hs : Keeps F a s) :
    Keeps F a (State.abortStep s t st cause m) := by
  delta State.abortStep
  extract_lets +onlyGivenNames -merge -lift -underBinder s1
  have h2 : Keeps F a s1 := by
    unfold s1
    exact keeps_updStep (Piece.sub hF (by decide +kernel)) hs
  clear_value s1
  extract_lets +onlyGivenNames -merge -lift -underBinder s3
  have h4 : Keeps F a s3 := by
    unfold s3
    exact keeps_foldl (fun s5 x6 h7 => keeps_leaveStep (Piece.sub hF (by decide +kernel)) h7) h2
  clear_value s3
  split
  · exact keeps_ite (fun _ => h4) (fun _ => keeps_endStep (Piece.sub hF (by decide +kernel)) h4)
  · exact h4

theorem keeps_dropAcks {F : List Piece} {a s : State} {p : AckWait → Bool} (hF : [.ses] ⊆ F) (hs : Keeps F a s) :
    Keeps F a (State.dropAcks s p) := by
  delta State.dropAcks
  exact Keeps.other hs (hses := .inr (hF (by decide +kernel)))

theorem keeps_unappend {F : List Piece} {a s : State} {k : ℕ} (hF : [.ses, .tier, .ring, .RING_CNT] ⊆ F) (hs : Keeps F a s) :
    KeepsM F a (State.unappend s k) := by
  delta State.unappend
  split
  · split
    · refine keepsM_ite (fun _ => ?_) (fun _ => KeepsM.nil)
      extract_lets +onlyGivenNames -merge -lift -underBinder v1
      clear_value v1
      exact KeepsM.mk (keeps_sendSpool (Piece.sub hF (by decide +kernel)) (keeps_writeSpool (Piece.sub hF (by decide +kernel)) (keeps_setSess
          (Piece.sub hF (by decide +kernel)) (keeps_dropAcks (Piece.sub hF (by decide +kernel)) hs))))
    · exact KeepsM.nil
  · exact KeepsM.nil

theorem keeps_abortText {F : List Piece} {a s : State} {c : Cmd} {st : Status} {cause : ℕ} {m : EndMode} (hF : [.hti, .ses, .tier, .ring,
    .SHP_CTX_CNT, .SEC_CNT, .RING_CNT, .HTI_W_QFAULT, .HTI_CNT] ⊆ F) (hs : Keeps F a s) :
    Keeps F a (State.abortText s c st cause m) := by
  delta State.abortText
  refine keeps_ite (fun _ => hs) (fun _ => ?_)
  split
  · rename_i x1 e3
    have h2 := KeepsM.get e3 (F := F) (a := a) (by
        exact keeps_unappend (Piece.sub hF (by decide +kernel)) hs
      )
    exact keeps_finish (Piece.sub hF (by decide +kernel)) h2
  · exact hs

theorem keeps_abortShip {F : List Piece} {a s : State} {c : Cmd} {st : Status} {cause : ℕ} {m : EndMode} (hF : [.hti, .mbx, .ses, .tier, .fleet,
    .pool, .ring, .TIER_OBJ, .SHP_CTX_CNT, .SEC_CNT, .RING_CNT, .POOL_OBJ, .POOL_CNT, .MBX_SUM, .MBX_CNT, .HTI_W_QFAULT, .HTI_W_MBSTS,
        .HTI_W_EVT, .HTI_CNT, .CTL_SES, .CTL_SES_CNT, .CTL_READY] ⊆ F) (hs : Keeps F a s) :
    Keeps F a (State.abortShip s c st cause m) := by
  delta State.abortShip
  extract_lets +onlyGivenNames -merge -lift -underBinder v1
  clear_value v1
  split
  · exact keeps_ite (fun _ => keeps_finish (Piece.sub hF (by decide +kernel)) hs) (fun _ => keeps_ite (fun _ => keeps_finish (Piece.sub hF
        (by decide +kernel)) (keeps_updXfer (Piece.sub hF (by decide +kernel)) hs)) (fun _ => keeps_ite (fun _ => keeps_shipAbort (Piece.sub hF
            (by decide +kernel)) hs) (fun _ => keeps_finish (Piece.sub hF (by decide +kernel)) hs)))
  · exact keeps_finish (Piece.sub hF (by decide +kernel)) hs

theorem keeps_stopRevive {F : List Piece} {a s : State} {h : ℕ} (hF : [.ses, .fleet, .CTL_SES] ⊆ F) (hs : Keeps F a s) :
    Keeps F a (State.stopRevive s h) := by
  delta State.stopRevive
  split
  · exact keeps_ite (fun _ => keeps_enter (Piece.sub hF (by decide +kernel)) (keeps_setSess (Piece.sub hF (by decide +kernel)) hs)) (fun _ => hs)
  · exact hs

theorem keeps_endRunning {F : List Piece} {a s : State} {c : Cmd} {st : Status} {cause : ℕ} {m : EndMode} (hF : [.hti, .mbx, .ses, .tier, .gore,
    .attn, .fab, .fleet, .pool, .rcl, .ring, .TIER_OBJ, .TIER_DRV, .TIER_CNT, .SHP_CTX_CNT, .SEC_CNT, .RING_CNT, .RCL_IDX, .RCL_GAUGE,
        .RCL_CTX_CNT, .RCL_CNT, .POOL_REGION, .POOL_OBJ, .POOL_LEND, .POOL_CNT, .MBX_SUM, .MBX_CNT, .HTI_W_QFAULT, .HTI_W_MBSTS, .HTI_W_EVT,
            .HTI_CNT, .GORE_TILE_CNT, .GORE_ROLE, .GORE_CTX, .GORE_CTX_CNT, .GORE_CNT, .GORE_ATTN_CNT, .CTL_SES, .CTL_SES_CNT, .CTL_READY,
                .CTL_ADM, .CTL_ADM_CNT] ⊆ F) (hs : Keeps F a s) :
    Keeps F a (State.endRunning s c st cause m) := by
  delta State.endRunning
  extract_lets +onlyGivenNames -merge -lift -underBinder v1 v2
  clear_value v1 v2
  split
  · exact hs
  · exact keeps_finish (Piece.sub hF (by decide +kernel)) (keeps_stopRevive (Piece.sub hF (by decide +kernel)) hs)
  · exact keeps_abortShip (Piece.sub hF (by decide +kernel)) hs
  · exact keeps_abortText (Piece.sub hF (by decide +kernel)) hs
  · exact keeps_ite (fun _ => hs) (fun _ => keeps_finish (Piece.sub hF (by decide +kernel)) (keeps_dropAcks (Piece.sub hF (by decide +kernel)) hs))
  · exact keeps_ite (fun _ => hs) (fun _ => keeps_finish (Piece.sub hF (by decide +kernel)) (keeps_dropAcks (Piece.sub hF (by decide +kernel)) hs))
  · split
    · exact keeps_abortStep (Piece.sub hF (by decide +kernel)) hs
    · exact keeps_finish (Piece.sub hF (by decide +kernel)) hs
  · exact keeps_finish (Piece.sub hF (by decide +kernel)) (keeps_setSteps (Piece.sub hF (by decide +kernel)) hs)
  · exact keeps_abortKv (Piece.sub hF (by decide +kernel)) hs
  · exact keeps_abortSeq (Piece.sub hF (by decide +kernel)) hs
  · exact keeps_abortSeq (Piece.sub hF (by decide +kernel)) hs
  · split
    · exact keeps_failRun (Piece.sub hF (by decide +kernel)) hs
    · exact keeps_finish (Piece.sub hF (by decide +kernel)) hs
  · exact keeps_finish (Piece.sub hF (by decide +kernel)) (keeps_endEnc (Piece.sub hF (by decide +kernel)) hs)
  · split
    · exact keeps_endPub (Piece.sub hF (by decide +kernel)) hs
    · exact keeps_finish (Piece.sub hF (by decide +kernel)) hs
  · exact keeps_finish (Piece.sub hF (by decide +kernel)) (Keeps.other hs (htier := .inr (hF (by decide +kernel))))
  · split
    · exact keeps_ite (fun _ => keeps_endLend (Piece.sub hF (by decide +kernel)) hs) (fun _ => keeps_finish (Piece.sub hF (by decide +kernel)) hs)
    · exact keeps_finish (Piece.sub hF (by decide +kernel)) hs
  · exact keeps_finish (Piece.sub hF (by decide +kernel)) (keeps_setRing (Piece.sub hF (by decide +kernel)) hs)
  · exact keeps_finish (Piece.sub hF (by decide +kernel)) (keeps_setRing (Piece.sub hF (by decide +kernel)) hs)
  · exact keeps_ite (fun _ => hs) (fun _ => keeps_finish (Piece.sub hF (by decide +kernel)) hs)
  · exact keeps_finish (Piece.sub hF (by decide +kernel)) (keeps_setFleet (Piece.sub hF (by decide +kernel)) hs)
  · exact keeps_finish (Piece.sub hF (by decide +kernel)) (keeps_setFleet (Piece.sub hF (by decide +kernel)) hs)
  · exact keeps_finish (Piece.sub hF (by decide +kernel)) (Keeps.other hs (hfab := .inr (hF (by decide +kernel))))
  · exact keeps_finish (Piece.sub hF (by decide +kernel)) hs

theorem keeps_abortSample {F : List Piece} {a s : State} {c : Cmd} {st : Status} {cause : ℕ} {m : EndMode} (hF : [.hti, .ses, .tier, .gore,
    .attn, .pool, .ring, .TIER_OBJ, .SHP_CTX_CNT, .SEC_CNT, .POOL_OBJ, .POOL_CNT, .HTI_W_QFAULT, .HTI_CNT, .GORE_TILE_CNT, .GORE_CTX,
        .GORE_CTX_CNT, .CTL_READY] ⊆ F) (hs : Keeps F a s) :
    Keeps F a (State.abortSample s c st cause m) := by
  delta State.abortSample
  extract_lets +onlyGivenNames -merge -lift -underBinder v1
  clear_value v1
  extract_lets +onlyGivenNames -merge -lift -underBinder s2
  have h3 : Keeps F a s2 := by
    unfold s2
    exact keeps_ite (fun _ => hs) (fun _ => KeepsP.proj (keeps_foldp (fun s4 x5 h6 => keeps_sampleOut (Piece.sub hF (by decide +kernel))
        (KeepsP.proj h6)) (KeepsP.mk hs)))
  clear_value s2
  extract_lets +onlyGivenNames -merge -lift -underBinder s7
  have h8 : Keeps F a s7 := by
    unfold s7
    split
    · exact keeps_ite (fun _ => keeps_foldl (fun s9 x10 h11 => keeps_leaveStep (Piece.sub hF (by decide +kernel)) h11) h3) (fun _ => h3)
    · exact h3
  clear_value s7
  exact keeps_finish (Piece.sub hF (by decide +kernel)) h8

theorem keeps_endCmd {F : List Piece} {a s : State} {k : ℕ} {st : Status} {cause : ℕ} {m : EndMode} (hF : [.hti, .mbx, .ses, .tier, .gore, .attn,
    .pwr, .fab, .fleet, .dec, .pool, .rcl, .ring, .TIER_RSV, .TIER_OBJ, .TIER_DRV, .TIER_CNT, .SHP_CTX_CNT, .SEC_CNT, .RING_CNT, .RCL_IDX,
        .RCL_GAUGE, .RCL_CTX_CNT, .RCL_CNT, .PWR_DROGUE, .PWR_CNT, .POOL_REGION, .POOL_OBJ, .POOL_LEND, .POOL_CNT, .MBX_SUM, .MBX_CNT,
            .HTI_W_QFAULT, .HTI_W_MBSTS, .HTI_W_EVT, .HTI_CNT, .GORE_TILE_CNT, .GORE_ROLE, .GORE_PANEL, .GORE_CTX, .GORE_CTX_CNT, .GORE_CNT,
                .GORE_ATTN_CNT, .CTL_SES, .CTL_SES_CNT, .CTL_READY, .CTL_PM, .CTL_ADM, .CTL_ADM_CNT] ⊆ F) (hs : Keeps F a s) :
    Keeps F a (State.endCmd s k st cause m) := by
  delta State.endCmd
  extract_lets +onlyGivenNames -merge -lift -underBinder s1
  have h2 : Keeps F a s1 := by
    unfold s1
    exact hs
  clear_value s1
  split
  · exact hs
  · split
    · exact hs
    · exact keeps_winch (Piece.sub hF (by decide +kernel)) (keeps_sweepImages (Piece.sub hF (by decide +kernel)) (keeps_ite (fun _ =>
          keeps_abortSample (Piece.sub hF (by decide +kernel)) hs) (fun _ => keeps_finish (Piece.sub hF (by decide +kernel)) hs)))
    · exact keeps_winch (Piece.sub hF (by decide +kernel)) (keeps_sweepImages (Piece.sub hF (by decide +kernel)) (keeps_endRunning (Piece.sub hF
          (by decide +kernel)) hs))

theorem keeps_endCmds {F : List Piece} {a s : State} {p : Cmd → Bool} {st : Status} {cause : ℕ} {m : EndMode} (hF : [.hti, .mbx, .ses, .tier,
    .gore, .attn, .pwr, .fab, .fleet, .dec, .pool, .rcl, .ring, .TIER_RSV, .TIER_OBJ, .TIER_DRV, .TIER_CNT, .SHP_CTX_CNT, .SEC_CNT, .RING_CNT,
        .RCL_IDX, .RCL_GAUGE, .RCL_CTX_CNT, .RCL_CNT, .PWR_DROGUE, .PWR_CNT, .POOL_REGION, .POOL_OBJ, .POOL_LEND, .POOL_CNT, .MBX_SUM, .MBX_CNT,
            .HTI_W_QFAULT, .HTI_W_MBSTS, .HTI_W_EVT, .HTI_CNT, .GORE_TILE_CNT, .GORE_ROLE, .GORE_PANEL, .GORE_CTX, .GORE_CTX_CNT, .GORE_CNT,
                .GORE_ATTN_CNT, .CTL_SES, .CTL_SES_CNT, .CTL_READY, .CTL_PM, .CTL_ADM, .CTL_ADM_CNT] ⊆ F) (hs : Keeps F a s) :
    Keeps F a (State.endCmds s p st cause m) := by
  delta State.endCmds
  exact keeps_foldl (fun s1 x2 h3 => keeps_endCmd (Piece.sub hF (by decide +kernel)) h3) hs

theorem keeps_queueClose {F : List Piece} {a : State} {c : Cmd} {s : State} (hF : [.hti, .mbx, .ses, .tier, .gore, .attn, .pwr, .fab, .fleet,
    .dec, .pool, .rcl, .ring, .TIER_RSV, .TIER_OBJ, .TIER_DRV, .TIER_CNT, .SHP_CTX_CNT, .SEC_CNT, .RING_CNT, .RCL_IDX, .RCL_GAUGE, .RCL_CTX_CNT,
        .RCL_CNT, .PWR_DROGUE, .PWR_CNT, .POOL_REGION, .POOL_OBJ, .POOL_LEND, .POOL_CNT, .MBX_SUM, .MBX_CNT, .HTI_W_QFAULT, .HTI_W_MBSTS,
            .HTI_W_EVT, .HTI_CNT, .GORE_TILE_CNT, .GORE_ROLE, .GORE_PANEL, .GORE_CTX, .GORE_CTX_CNT, .GORE_CNT, .GORE_ATTN_CNT, .CTL_SES,
                .CTL_SES_CNT, .CTL_READY, .CTL_PM, .CTL_ADM, .CTL_ADM_CNT] ⊆ F) (hs : Keeps F a s) :
    Keeps F a (queueClose c s) := by
  delta queueClose
  extract_lets +onlyGivenNames -merge -lift -underBinder v1
  clear_value v1
  split
  · exact keeps_finish (Piece.sub hF (by decide +kernel)) hs
  · extract_lets +onlyGivenNames -merge -lift -underBinder s2
    have h3 : Keeps F a s2 := by
      unfold s2
      exact keeps_setPair (Piece.sub hF (by decide +kernel)) hs
    clear_value s2
    extract_lets +onlyGivenNames -merge -lift -underBinder s4
    have h5 : Keeps F a s4 := by
      unfold s4
      exact keeps_ite (fun _ => keeps_endCmds (Piece.sub hF (by decide +kernel)) h3) (fun _ => h3)
    clear_value s4
    exact keeps_settle (Piece.sub hF (by decide +kernel)) h5

theorem keeps_cancelCmd {F : List Piece} {a s : State} {d : Cmd} (hF : [.hti, .mbx, .ses, .tier, .gore, .attn, .pwr, .fab, .fleet, .dec, .pool,
    .rcl, .ring, .TIER_RSV, .TIER_OBJ, .TIER_DRV, .TIER_CNT, .SHP_CTX_CNT, .SEC_CNT, .RING_CNT, .RCL_IDX, .RCL_GAUGE, .RCL_CTX_CNT, .RCL_CNT,
        .PWR_DROGUE, .PWR_CNT, .POOL_REGION, .POOL_OBJ, .POOL_LEND, .POOL_CNT, .MBX_SUM, .MBX_CNT, .HTI_W_QFAULT, .HTI_W_MBSTS, .HTI_W_EVT,
            .HTI_CNT, .GORE_TILE_CNT, .GORE_ROLE, .GORE_PANEL, .GORE_CTX, .GORE_CTX_CNT, .GORE_CNT, .GORE_ATTN_CNT, .CTL_SES, .CTL_SES_CNT,
                .CTL_READY, .CTL_PM, .CTL_ADM, .CTL_ADM_CNT] ⊆ F) (hs : Keeps F a s) :
    KeepsP F a (State.cancelCmd s d) := by
  delta State.cancelCmd
  extract_lets +onlyGivenNames -merge -lift -underBinder p1
  have h2 : KeepsP F a p1 := by
    unfold p1
    exact KeepsP.mk (keeps_endCmd (Piece.sub hF (by decide +kernel)) hs)
  clear_value p1
  split
  · exact KeepsP.mk hs
  · exact h2
  · refine keepsP_ite (fun _ => ?_) (fun _ => ?_)
    · split
      · exact keepsP_ite (fun _ => h2) (fun _ => KeepsP.mk hs)
      · exact h2
    · refine keepsP_ite (fun _ => ?_) (fun _ => keepsP_ite (fun _ => KeepsP.mk hs) (fun _ => h2))
      split
      · rename_i x3 e5
        have h4 := KeepsM.get e5 (F := F) (a := a) (by
            exact keeps_unappend (Piece.sub hF (by decide +kernel)) hs
          )
        exact KeepsP.mk (keeps_sweepImages (Piece.sub hF (by decide +kernel)) (keeps_finish (Piece.sub hF (by decide +kernel)) h4))
      · exact KeepsP.mk hs

theorem keeps_cancelDraws {F : List Piece} {a s : State} {c : Cmd} {h : ℕ} (hF : [.hti] ⊆ F) (hs : Keeps F a s) :
    Keeps F a (State.cancelDraws s c h) := by
  delta State.cancelDraws
  exact keeps_setCmds (Piece.sub hF (by decide +kernel)) hs

theorem keeps_cancelItems {F : List Piece} {a s : State} {h : ℕ} (hF : [.attn] ⊆ F) (hs : Keeps F a s) :
    KeepsP F a (State.cancelItems s h) := by
  delta State.cancelItems
  extract_lets +onlyGivenNames -merge -lift -underBinder v1 v2
  clear_value v1 v2
  exact KeepsP.mk (keeps_setSteps (Piece.sub hF (by decide +kernel)) hs)

theorem keeps_sessCancel {F : List Piece} {a : State} {c : Cmd} {s : State} (hF : [.hti, .mbx, .ses, .tier, .gore, .attn, .pwr, .fab, .fleet,
    .dec, .pool, .rcl, .ring, .TIER_RSV, .TIER_OBJ, .TIER_DRV, .TIER_CNT, .SHP_CTX_CNT, .SEC_CNT, .RING_CNT, .RCL_IDX, .RCL_GAUGE, .RCL_CTX_CNT,
        .RCL_CNT, .PWR_DROGUE, .PWR_CNT, .POOL_REGION, .POOL_OBJ, .POOL_LEND, .POOL_CNT, .MBX_SUM, .MBX_CNT, .HTI_W_QFAULT, .HTI_W_MBSTS,
            .HTI_W_EVT, .HTI_CNT, .GORE_TILE_CNT, .GORE_ROLE, .GORE_PANEL, .GORE_CTX, .GORE_CTX_CNT, .GORE_CNT, .GORE_ATTN_CNT, .CTL_SES,
                .CTL_SES_CNT, .CTL_READY, .CTL_PM, .CTL_ADM, .CTL_ADM_CNT] ⊆ F) (hs : Keeps F a s) :
    Keeps F a (sessCancel c s) := by
  delta sessCancel
  extract_lets +onlyGivenNames -merge -lift -underBinder v1
  clear_value v1
  split
  · exact keeps_finish (Piece.sub hF (by decide +kernel)) hs
  · refine keeps_ite (fun _ => keeps_finish (Piece.sub hF (by decide +kernel)) hs) (fun _ => ?_)
    refine keeps_ite (fun _ => keeps_finish (Piece.sub hF (by decide +kernel)) hs) (fun _ => ?_)
    refine keeps_ite (fun _ => keeps_finish (Piece.sub hF (by decide +kernel)) hs) (fun _ => ?_)
    refine keeps_ite (fun _ => keeps_finish (Piece.sub hF (by decide +kernel)) hs) (fun _ => ?_)
    extract_lets +onlyGivenNames -merge -lift -underBinder p2
    have h3 : KeepsP F a p2 := by
      unfold p2
      exact keeps_cancelItems (Piece.sub hF (by decide +kernel)) (keeps_cancelDraws (Piece.sub hF (by decide +kernel)) hs)
    clear_value p2
    extract_lets +onlyGivenNames -merge -lift -underBinder v4
    clear_value v4
    extract_lets +onlyGivenNames -merge -lift -underBinder p5
    have h6 : KeepsP F a p5 := by
      unfold p5
      refine keeps_foldp (fun s7 x8 h9 => ?_) (KeepsP.mk (KeepsP.proj h3))
      extract_lets +onlyGivenNames -merge -lift -underBinder p10
      have h11 : KeepsP F a p10 := by
        unfold p10
        exact keeps_cancelCmd (Piece.sub hF (by decide +kernel)) (KeepsP.proj h9)
      clear_value p10
      exact KeepsP.mk (KeepsP.proj h11)
    clear_value p5
    exact keeps_finish (Piece.sub hF (by decide +kernel)) (KeepsP.proj h6)

theorem keeps_closePair0 {F : List Piece} {a : State} {ctx value : ℕ} {s : State} (hF : [.hti, .mbx, .ses, .tier, .gore, .attn, .pwr, .fab,
    .fleet, .dec, .pool, .rcl, .ring, .TIER_RSV, .TIER_OBJ, .TIER_DRV, .TIER_CNT, .SHP_CTX_CNT, .SEC_CNT, .RING_CNT, .RCL_IDX, .RCL_GAUGE,
        .RCL_CTX_CNT, .RCL_CNT, .PWR_DROGUE, .PWR_CNT, .POOL_REGION, .POOL_OBJ, .POOL_LEND, .POOL_CNT, .MBX_SUM, .MBX_CNT, .HTI_W_QFAULT,
            .HTI_W_MBSTS, .HTI_W_EVT, .HTI_W_AQCFG, .HTI_CNT, .GORE_TILE_CNT, .GORE_ROLE, .GORE_PANEL, .GORE_CTX, .GORE_CTX_CNT, .GORE_CNT,
                .GORE_ATTN_CNT, .CTL_SES, .CTL_SES_CNT, .CTL_READY, .CTL_PM, .CTL_ADM, .CTL_ADM_CNT] ⊆ F) (hs : Keeps F a s) :
    Keeps F a (closePair0 ctx value s) := by
  delta closePair0
  extract_lets +onlyGivenNames -merge -lift -underBinder s1
  have h2 : Keeps F a s1 := by
    unfold s1
    exact keeps_putAqcfg (Piece.sub hF (by decide +kernel)) (keeps_wr hs ⟨rfl, hF (by decide +kernel)⟩)
  clear_value s1
  refine keeps_ite (fun _ => keeps_wr h2 ⟨rfl, hF (by decide +kernel)⟩) (fun _ => ?_)
  extract_lets +onlyGivenNames -merge -lift -underBinder v3 v4
  clear_value v3 v4
  extract_lets +onlyGivenNames -merge -lift -underBinder s5
  have h6 : Keeps F a s5 := by
    unfold s5
    exact Keeps.other h2 (hhti := .inr (hF (by decide +kernel)))
  clear_value s5
  extract_lets +onlyGivenNames -merge -lift -underBinder s7
  have h8 : Keeps F a s7 := by
    unfold s7
    exact keeps_endCmds (Piece.sub hF (by decide +kernel)) (keeps_wr h6 ⟨rfl, hF (by decide +kernel)⟩)
  clear_value s7
  exact keeps_settle (Piece.sub hF (by decide +kernel)) h8

theorem keeps_execPair0Close {F : List Piece} {a : State} {port ctx value : ℕ} {s : State} (hF : [.hti, .mbx, .ses, .tier, .gore, .attn, .pwr,
    .fab, .fleet, .dec, .pool, .rcl, .ring, .TIER_RSV, .TIER_OBJ, .TIER_DRV, .TIER_CNT, .SHP_CTX_CNT, .SEC_CNT, .RING_CNT, .RCL_IDX, .RCL_GAUGE,
        .RCL_CTX_CNT, .RCL_CNT, .PWR_DROGUE, .PWR_CNT, .POOL_REGION, .POOL_OBJ, .POOL_LEND, .POOL_CNT, .MBX_SUM, .MBX_CNT, .HTI_W_QFAULT,
            .HTI_W_MBSTS, .HTI_W_EVT, .HTI_W_AQCFG, .HTI_ERRLOG, .HTI_CNT, .GORE_TILE_CNT, .GORE_ROLE, .GORE_PANEL, .GORE_CTX, .GORE_CTX_CNT,
                .GORE_CNT, .GORE_ATTN_CNT, .CTL_SES, .CTL_SES_CNT, .CTL_READY, .CTL_PM, .CTL_ADM, .CTL_ADM_CNT] ⊆ F) (hs : Keeps F a s) :
    KeepsO F a (execPair0Close port ctx value s) := by
  delta execPair0Close
  exact KeepsO.mk (keeps_ite (fun _ => keeps_window (Piece.sub hF (by decide +kernel)) hs (fun y1 h2 => keeps_closePair0 (Piece.sub hF
      (by decide +kernel)) h2)) (fun _ => hs))

theorem keeps_execSessCancel {F : List Piece} {a : State} {k : ℕ} {s : State} (hF : [.hti, .mbx, .ses, .tier, .gore, .attn, .pwr, .fab, .fleet,
    .dec, .pool, .rcl, .ring, .TIER_RSV, .TIER_OBJ, .TIER_DRV, .TIER_CNT, .SHP_CTX_CNT, .SEC_CNT, .RING_CNT, .RCL_IDX, .RCL_GAUGE, .RCL_CTX_CNT,
        .RCL_CNT, .PWR_DROGUE, .PWR_CNT, .POOL_REGION, .POOL_OBJ, .POOL_LEND, .POOL_CNT, .MBX_SUM, .MBX_CNT, .HTI_W_QFAULT, .HTI_W_MBSTS,
            .HTI_W_EVT, .HTI_CNT, .GORE_TILE_CNT, .GORE_ROLE, .GORE_PANEL, .GORE_CTX, .GORE_CTX_CNT, .GORE_CNT, .GORE_ATTN_CNT, .CTL_SES,
                .CTL_SES_CNT, .CTL_READY, .CTL_PM, .CTL_ADM, .CTL_ADM_CNT] ⊆ F) (hs : Keeps F a s) :
    KeepsO F a (execSessCancel k s) := by
  delta execSessCancel
  exact KeepsO.mk (keeps_begin (Piece.sub hF (by decide +kernel)) hs (fun y1 y2 h3 => keeps_sessCancel (Piece.sub hF (by decide +kernel)) h3))

end Sys2Proof.Machine
end

