-- ==== Sys2Proof/Laws/KeepsSessions.lean ====
section
/-! SUPPORT. `Keeps` for the operations and meanings of Machine/: MbxOps, SecOps, RegOps, Sessions, Tether, Spdm. Each lemma says what an operation may change, and
that it keeps the rest. -/

namespace Sys2Proof.Machine

set_option Elab.async false

/-! ### MbxOps -/

theorem keeps_setRsp {F : List Piece} {a s : State} {ch : ℕ} {full : Bool} {len token : ℕ} (hF : [.MBX_S, .HTI_W_MBRSP] ⊆ F) (hs : Keeps F a s) :
    Keeps F a (State.setRsp s ch full len token) := by
  delta State.setRsp
  exact keeps_ite (fun _ => keeps_wr (keeps_wr (keeps_wr hs ⟨rfl, hF (by decide +kernel)⟩) ⟨rfl, hF (by decide +kernel)⟩) ⟨rfl, hF
      (by decide +kernel)⟩) (fun _ => keeps_wr (keeps_wr (keeps_wr hs ⟨rfl, hF (by decide +kernel)⟩) ⟨rfl, hF (by decide +kernel)⟩) ⟨rfl, hF
          (by decide +kernel)⟩)

theorem keeps_setBusy {F : List Piece} {a s : State} {ch : ℕ} {b : Bool} (hF : [.MBX_S, .HTI_W_MBSTS] ⊆ F) (hs : Keeps F a s) :
    Keeps F a (State.setBusy s ch b) := by
  delta State.setBusy
  exact keeps_ite (fun _ => keeps_wr hs ⟨rfl, hF (by decide +kernel)⟩) (fun _ => keeps_wr hs ⟨rfl, hF (by decide +kernel)⟩)

theorem keeps_setMbx {F : List Piece} {a s : State} {m : Mbx} (hF : [.mbx] ⊆ F) (hs : Keeps F a s) :
    Keeps F a (State.setMbx s m) := by
  delta State.setMbx
  exact Keeps.other hs (hmbx := .inr (hF (by decide +kernel)))

theorem keeps_setChan {F : List Piece} {a s : State} {ch : ℕ} {c : Chan} (hF : [.mbx] ⊆ F) (hs : Keeps F a s) :
    Keeps F a (State.setChan s ch c) := by
  delta State.setChan
  exact keeps_setMbx (Piece.sub hF (by decide +kernel)) hs

theorem keeps_setReject {F : List Piece} {a s : State} {ch : ℕ} (hF : [.MBX_S, .HTI_W_MBSTS] ⊆ F) (hs : Keeps F a s) :
    Keeps F a (State.setReject s ch) := by
  delta State.setReject
  exact keeps_ite (fun _ => keeps_wr hs ⟨rfl, hF (by decide +kernel)⟩) (fun _ => keeps_wr hs ⟨rfl, hF (by decide +kernel)⟩)

theorem keeps_seal {F : List Piece} {a s : State} {ch path value : ℕ} (hF : [.mbx, .MBX_S, .MBX_CNT, .HTI_W_MBSTS] ⊆ F) (hs : Keeps F a s) :
    Keeps F a (State.seal s ch path value) := by
  delta State.seal
  extract_lets +onlyGivenNames -merge -lift -underBinder v1
  clear_value v1
  refine keeps_ite (fun _ => keeps_bump (keeps_setReject (Piece.sub hF (by decide +kernel)) hs) ⟨rfl, hF (by decide +kernel)⟩) (fun _ => ?_)
  extract_lets +onlyGivenNames -merge -lift -underBinder v2
  clear_value v2
  extract_lets +onlyGivenNames -merge -lift -underBinder s3
  have h4 : Keeps F a s3 := by
    unfold s3
    exact keeps_setChan (Piece.sub hF (by decide +kernel)) hs
  clear_value s3
  extract_lets +onlyGivenNames -merge -lift -underBinder s5
  have h6 : Keeps F a s5 := by
    unfold s5
    exact keeps_ite (fun _ => h4) (fun _ => keeps_wr h4 ⟨rfl, hF (by decide +kernel)⟩)
  clear_value s5
  exact keeps_bump (keeps_setBusy (Piece.sub hF (by decide +kernel)) h6) ⟨rfl, hF (by decide +kernel)⟩

theorem keeps_procedure {F : List Piece} {a s : State} {ch p : ℕ} {f : Chan → State → State} (hs : Keeps F a s) (hf : ∀ y0 y1, Keeps F a y1 →
    Keeps F a (f y0 y1)) :
    Keeps F a (State.procedure s ch p f) := by
  delta State.procedure
  extract_lets +onlyGivenNames -merge -lift -underBinder v1
  clear_value v1
  exact keeps_ite (fun _ => hf _ _ hs) (fun _ => hs)

theorem keeps_refreshMode {F : List Piece} {a s : State} {p : ℕ} (hF : [.mbx, .MBX_SUM, .MBX_MODE, .HTI_CNT] ⊆ F) (hs : Keeps F a s) :
    Keeps F a (State.refreshMode s p) := by
  delta State.refreshMode
  extract_lets +onlyGivenNames -merge -lift -underBinder v1 v2
  clear_value v1 v2
  extract_lets +onlyGivenNames -merge -lift -underBinder s3
  have h4 : Keeps F a s3 := by
    unfold s3
    exact keeps_wr hs (by split <;> exact ⟨rfl, hF (by decide +kernel)⟩)
  clear_value s3
  refine keeps_ite (fun _ => ?_) (fun _ => ?_)
  · extract_lets +onlyGivenNames -merge -lift -underBinder v5
    clear_value v5
    extract_lets +onlyGivenNames -merge -lift -underBinder s6
    have h7 : Keeps F a s6 := by
      unfold s6
      exact keeps_foldl (fun s8 x9 h10 => keeps_ite (fun _ => h10) (fun _ => keeps_foldl (fun s11 x12 h13 => keeps_ite (fun _ => keeps_signal
          (Piece.sub hF (by decide +kernel)) h13) (fun _ => h13)) h10)) h4
    clear_value s6
    extract_lets +onlyGivenNames -merge -lift -underBinder s14
    have h15 : Keeps F a s14 := by
      unfold s14
      exact keeps_wr h7 ⟨rfl, hF (by decide +kernel)⟩
    clear_value s14
    exact keeps_setMbx (Piece.sub hF (by decide +kernel)) h15
  · refine keeps_ite (fun _ => ?_) (fun _ => h4)
    extract_lets +onlyGivenNames -merge -lift -underBinder v16
    clear_value v16
    extract_lets +onlyGivenNames -merge -lift -underBinder s17
    have h18 : Keeps F a s17 := by
      unfold s17
      exact keeps_wr h4 ⟨rfl, hF (by decide +kernel)⟩
    clear_value s17
    exact keeps_ite (fun _ => h18) (fun _ => keeps_sumWrite (Piece.sub hF (by decide +kernel)) h18)

theorem keeps_evtOff {F : List Piece} {a s : State} {c : ℕ} (hF : [.mbx] ⊆ F) (hs : Keeps F a s) :
    Keeps F a (State.evtOff s c) := by
  delta State.evtOff
  exact keeps_setEvt (Piece.sub hF (by decide +kernel)) hs

theorem keeps_reply {F : List Piece} {a s : State} {ch : ℕ} {st : Status} {cause n results : ℕ} (hF : [.mbx] ⊆ F) (hs : Keeps F a s) :
    Keeps F a (State.reply s ch st cause n results) := by
  delta State.reply
  extract_lets +onlyGivenNames -merge -lift -underBinder v1
  clear_value v1
  exact keeps_setChan (Piece.sub hF (by decide +kernel)) hs

theorem keeps_dropPos {F : List Piece} {a s : State} {c p : ℕ} (hF : [.MBX_SUM, .MBX_CTX] ⊆ F) (hs : Keeps F a s) :
    Keeps F a (State.dropPos s c p) := by
  delta State.dropPos
  refine keeps_ite (fun _ => hs) (fun _ => ?_)
  extract_lets +onlyGivenNames -merge -lift -underBinder v1
  clear_value v1
  extract_lets +onlyGivenNames -merge -lift -underBinder s2
  have h3 : Keeps F a s2 := by
    unfold s2
    exact keeps_wr (keeps_wr hs ⟨rfl, hF (by decide +kernel)⟩) ⟨rfl, hF (by decide +kernel)⟩
  clear_value s2
  extract_lets +onlyGivenNames -merge -lift -underBinder s4
  have h5 : Keeps F a s4 := by
    unfold s4
    exact keeps_wr h3 ⟨rfl, hF (by decide +kernel)⟩
  clear_value s4
  split
  · exact keeps_wr (keeps_wr h5 ⟨rfl, hF (by decide +kernel)⟩) ⟨rfl, hF (by decide +kernel)⟩
  · exact h5

theorem keeps_takePos {F : List Piece} {a s : State} {c : ℕ} (hF : [.MBX_CTX] ⊆ F) (hs : Keeps F a s) :
    Keeps F a (State.takePos s c) := by
  delta State.takePos
  extract_lets +onlyGivenNames -merge -lift -underBinder v1
  clear_value v1
  split
  · exact keeps_wr (keeps_wr hs ⟨rfl, hF (by decide +kernel)⟩) ⟨rfl, hF (by decide +kernel)⟩
  · exact hs

theorem keeps_clearChannel {F : List Piece} {a s : State} {c : ℕ} (hF : [.mbx] ⊆ F) (hs : Keeps F a s) :
    Keeps F a (State.clearChannel s c) := by
  delta State.clearChannel
  extract_lets +onlyGivenNames -merge -lift -underBinder v1
  clear_value v1
  exact keeps_setMbx (Piece.sub hF (by decide +kernel)) hs

/-! ### SecOps -/

theorem keeps_setSec {F : List Piece} {a s : State} {c : Sec} (hF : [.sec] ⊆ F) (hs : Keeps F a s) :
    Keeps F a (State.setSec s c) := by
  delta State.setSec
  exact Keeps.other hs (hsec := .inr (hF (by decide +kernel)))

theorem keeps_dropJobKey {F : List Piece} {a s : State} {c i : ℕ} (hF : [.sec, .SEC_CTX] ⊆ F) (hs : Keeps F a s) :
    Keeps F a (State.dropJobKey s c i) := by
  delta State.dropJobKey
  extract_lets +onlyGivenNames -merge -lift -underBinder v1
  clear_value v1
  extract_lets +onlyGivenNames -merge -lift -underBinder s2
  have h3 : Keeps F a s2 := by
    unfold s2
    exact keeps_setSec (Piece.sub hF (by decide +kernel)) hs
  clear_value s2
  exact keeps_wr (keeps_wrBit (keeps_wrBit h3 ⟨rfl, hF (by decide +kernel)⟩) ⟨rfl, hF (by decide +kernel)⟩) ⟨rfl, hF (by decide +kernel)⟩

theorem keeps_freePlaces {F : List Piece} {a s : State} (hF : [.hti, .mbx, .ses, .tier, .gore, .attn, .fleet, .pool, .rcl, .ring, .TIER_OBJ,
    .TIER_DRV, .TIER_CNT, .SHP_CTX_CNT, .SEC_CNT, .RING_CNT, .RCL_IDX, .RCL_GAUGE, .RCL_CNT, .POOL_OBJ, .POOL_CNT, .MBX_SUM, .MBX_CNT,
        .HTI_W_QFAULT, .HTI_W_MBSTS, .HTI_W_EVT, .HTI_CNT, .GORE_TILE_CNT, .GORE_SHAPE, .GORE_CTX, .GORE_CTX_CNT, .CTL_SES, .CTL_SES_CNT,
            .CTL_READY] ⊆ F) (hs : Keeps F a s) :
    Keeps F a (State.freePlaces s) := by
  delta State.freePlaces
  extract_lets +onlyGivenNames -merge -lift -underBinder v1 v2
  clear_value v1 v2
  extract_lets +onlyGivenNames -merge -lift -underBinder s3
  have h4 : Keeps F a s3 := by
    unfold s3
    exact keeps_foldl (fun s5 x6 h7 => keeps_putPage (Piece.sub hF (by decide +kernel)) h7) hs
  clear_value s3
  extract_lets +onlyGivenNames -merge -lift -underBinder s8
  have h9 : Keeps F a s8 := by
    unfold s8
    exact keeps_bump h4 ⟨rfl, hF (by decide +kernel)⟩
  clear_value s8
  extract_lets +onlyGivenNames -merge -lift -underBinder s10
  have h11 : Keeps F a s10 := by
    unfold s10
    exact keeps_foldl (fun s12 x13 h14 => keeps_ite (fun _ => keeps_emit h14) (fun _ => h14)) h9
  clear_value s10
  extract_lets +onlyGivenNames -merge -lift -underBinder v15
  clear_value v15
  extract_lets +onlyGivenNames -merge -lift -underBinder s16
  have h17 : Keeps F a s16 := by
    unfold s16
    refine keeps_foldl (fun s18 x19 h20 => ?_) h11
    extract_lets +onlyGivenNames -merge -lift -underBinder v21 v22
    clear_value v21 v22
    exact keeps_ownerLost (Piece.sub hF (by decide +kernel)) h20
  clear_value s16
  exact keeps_flushGone (Piece.sub hF (by decide +kernel)) (keeps_flushLost (Piece.sub hF (by decide +kernel)) h17)

theorem keeps_tdiError {F : List Piece} {a s : State} {c : ℕ} (hF : [.hti, .mbx, .ses, .tier, .gore, .attn, .pwr, .fab, .fleet, .dec, .pool,
    .rcl, .ring, .TIER_RSV, .TIER_OBJ, .TIER_DRV, .TIER_CNT, .SHP_CTX_CNT, .SEC_CTX, .SEC_CNT, .RING_CNT, .RCL_IDX, .RCL_GAUGE, .RCL_CTX_CNT,
        .RCL_CNT, .PWR_DROGUE, .PWR_CNT, .POOL_REGION, .POOL_OBJ, .POOL_LEND, .POOL_CNT, .MBX_SUM, .MBX_CNT, .HTI_W_QFAULT, .HTI_W_MBSTS,
            .HTI_W_EVT, .HTI_CNT, .GORE_TILE_CNT, .GORE_ROLE, .GORE_PANEL, .GORE_CTX, .GORE_CTX_CNT, .GORE_CNT, .GORE_ATTN_CNT, .CTL_SES,
                .CTL_SES_CNT, .CTL_READY, .CTL_PM, .CTL_ADM, .CTL_ADM_CNT] ⊆ F) (hs : Keeps F a s) :
    Keeps F a (State.tdiError s c) := by
  delta State.tdiError
  extract_lets +onlyGivenNames -merge -lift -underBinder v1
  clear_value v1
  exact keeps_ite (fun _ => keeps_bump (keeps_wr (keeps_endCmds (Piece.sub hF (by decide +kernel)) hs) ⟨rfl, hF (by decide +kernel)⟩) ⟨rfl, hF
      (by decide +kernel)⟩) (fun _ => hs)

theorem keeps_tdiErrors {F : List Piece} {a s : State} {p : ℕ → Bool} (hF : [.hti, .mbx, .ses, .tier, .gore, .attn, .pwr, .fab, .fleet, .dec,
    .pool, .rcl, .ring, .TIER_RSV, .TIER_OBJ, .TIER_DRV, .TIER_CNT, .SHP_CTX_CNT, .SEC_CTX, .SEC_CNT, .RING_CNT, .RCL_IDX, .RCL_GAUGE,
        .RCL_CTX_CNT, .RCL_CNT, .PWR_DROGUE, .PWR_CNT, .POOL_REGION, .POOL_OBJ, .POOL_LEND, .POOL_CNT, .MBX_SUM, .MBX_CNT, .HTI_W_QFAULT,
            .HTI_W_MBSTS, .HTI_W_EVT, .HTI_CNT, .GORE_TILE_CNT, .GORE_ROLE, .GORE_PANEL, .GORE_CTX, .GORE_CTX_CNT, .GORE_CNT, .GORE_ATTN_CNT,
                .CTL_SES, .CTL_SES_CNT, .CTL_READY, .CTL_PM, .CTL_ADM, .CTL_ADM_CNT] ⊆ F) (hs : Keeps F a s) :
    Keeps F a (State.tdiErrors s p) := by
  delta State.tdiErrors
  exact keeps_foldl (fun s1 x2 h3 => keeps_tdiError (Piece.sub hF (by decide +kernel)) h3) hs

theorem keeps_newStorage {F : List Piece} {a s : State} {c : ℕ} (hF : [.sec, .SEC_CTX] ⊆ F) (hs : Keeps F a s) :
    Keeps F a (State.newStorage s c) := by
  delta State.newStorage
  exact keeps_wr (keeps_tickFree (keeps_setSec (Piece.sub hF (by decide +kernel)) hs)) ⟨rfl, hF (by decide +kernel)⟩

theorem keeps_showFabric {F : List Piece} {a s : State} (hF : [.SEC_FABRIC] ⊆ F) (hs : Keeps F a s) :
    Keeps F a (State.showFabric s) := by
  delta State.showFabric
  extract_lets +onlyGivenNames -merge -lift -underBinder v1 v2
  clear_value v1 v2
  extract_lets +onlyGivenNames -merge -lift -underBinder s3
  have h4 : Keeps F a s3 := by
    unfold s3
    exact keeps_wr (keeps_wr hs ⟨rfl, hF (by decide +kernel)⟩) ⟨rfl, hF (by decide +kernel)⟩
  clear_value s3
  extract_lets +onlyGivenNames -merge -lift -underBinder s5
  have h6 : Keeps F a s5 := by
    unfold s5
    exact keeps_wr (keeps_wr h4 ⟨rfl, hF (by decide +kernel)⟩) ⟨rfl, hF (by decide +kernel)⟩
  clear_value s5
  extract_lets +onlyGivenNames -merge -lift -underBinder s7
  have h8 : Keeps F a s7 := by
    unfold s7
    exact keeps_wr (keeps_wr h6 ⟨rfl, hF (by decide +kernel)⟩) ⟨rfl, hF (by decide +kernel)⟩
  clear_value s7
  exact keeps_wr h8 ⟨rfl, hF (by decide +kernel)⟩

theorem keeps_dropFabric {F : List Piece} {a s : State} {i : ℕ} (hF : [.sec, .SEC_FABRIC] ⊆ F) (hs : Keeps F a s) :
    Keeps F a (State.dropFabric s i) := by
  delta State.dropFabric
  extract_lets +onlyGivenNames -merge -lift -underBinder v1
  clear_value v1
  extract_lets +onlyGivenNames -merge -lift -underBinder s2
  have h3 : Keeps F a s2 := by
    unfold s2
    exact keeps_setSec (Piece.sub hF (by decide +kernel)) hs
  clear_value s2
  exact keeps_showFabric (Piece.sub hF (by decide +kernel)) (keeps_wr h3 (by split <;> exact ⟨rfl, hF (by decide +kernel)⟩))

theorem keeps_setImport {F : List Piece} {a s : State} {c : ℕ} {key : Option ℕ} (hF : [.sec, .SEC_CTX] ⊆ F) (hs : Keeps F a s) :
    Keeps F a (State.setImport s c key) := by
  delta State.setImport
  exact keeps_wr (keeps_setSec (Piece.sub hF (by decide +kernel)) hs) ⟨rfl, hF (by decide +kernel)⟩

theorem keeps_eraseKeys {F : List Piece} {a s : State} {c : ℕ} (hF : [.sec, .SEC_CTX] ⊆ F) (hs : Keeps F a s) :
    Keeps F a (State.eraseKeys s c) := by
  delta State.eraseKeys
  exact keeps_setImport (Piece.sub hF (by decide +kernel)) (keeps_foldl (fun s1 x2 h3 => keeps_dropJobKey (Piece.sub hF (by decide +kernel)) h3) hs)

theorem keeps_unlockDebug {F : List Piece} {a s : State} (hF : [.hti, .mbx, .ses, .tier, .gore, .attn, .pwr, .fab, .fleet, .dec, .pool, .rcl,
    .ring, .sec, .TIER_RSV, .TIER_OBJ, .TIER_DRV, .TIER_CNT, .SHP_CTX_CNT, .SEC_FABRIC, .SEC_DEBUG, .SEC_CTX, .SEC_CNT, .RING_CNT, .RCL_IDX,
        .RCL_GAUGE, .RCL_CTX_CNT, .RCL_CNT, .PWR_DROGUE, .PWR_CNT, .POOL_REGION, .POOL_OBJ, .POOL_LEND, .POOL_CNT, .MBX_SUM, .MBX_CNT,
            .HTI_W_QFAULT, .HTI_W_MBSTS, .HTI_W_EVT, .HTI_CNT, .GORE_TILE_CNT, .GORE_SHAPE, .GORE_ROLE, .GORE_PANEL, .GORE_CTX, .GORE_CTX_CNT,
                .GORE_CNT, .GORE_ATTN_CNT, .CTL_SES, .CTL_SES_CNT, .CTL_READY, .CTL_PM, .CTL_ADM, .CTL_ADM_CNT] ⊆ F) (hs : Keeps F a s) :
    Keeps F a (State.unlockDebug s) := by
  delta State.unlockDebug
  extract_lets +onlyGivenNames -merge -lift -underBinder s1
  have h2 : Keeps F a s1 := by
    unfold s1
    exact keeps_foldl (fun s3 x4 h5 => keeps_eraseKeys (Piece.sub hF (by decide +kernel)) h5) hs
  clear_value s1
  extract_lets +onlyGivenNames -merge -lift -underBinder s6
  have h7 : Keeps F a s6 := by
    unfold s6
    exact keeps_dropFabric (Piece.sub hF (by decide +kernel)) (keeps_dropFabric (Piece.sub hF (by decide +kernel)) h2)
  clear_value s6
  extract_lets +onlyGivenNames -merge -lift -underBinder s8
  have h9 : Keeps F a s8 := by
    unfold s8
    exact keeps_foldl (fun s10 x11 h12 => keeps_newStorage (Piece.sub hF (by decide +kernel)) h12) h7
  clear_value s8
  extract_lets +onlyGivenNames -merge -lift -underBinder s13
  have h14 : Keeps F a s13 := by
    unfold s13
    exact keeps_tdiErrors (Piece.sub hF (by decide +kernel)) (keeps_freePlaces (Piece.sub hF (by decide +kernel)) h9)
  clear_value s13
  extract_lets +onlyGivenNames -merge -lift -underBinder s15
  have h16 : Keeps F a s15 := by
    unfold s15
    exact keeps_wr h14 ⟨rfl, hF (by decide +kernel)⟩
  clear_value s15
  exact keeps_setSec (Piece.sub hF (by decide +kernel)) h16

theorem keeps_retired {F : List Piece} {a s : State} {c i : ℕ} (hF : [.hti, .ring, .sec, .SHP_CTX_CNT, .SEC_CTX, .SEC_CNT, .HTI_W_QFAULT,
    .HTI_CNT] ⊆ F) (hs : Keeps F a s) :
    Keeps F a (State.retired s c i) := by
  delta State.retired
  extract_lets +onlyGivenNames -merge -lift -underBinder v1 v2 v3
  clear_value v1 v2 v3
  extract_lets +onlyGivenNames -merge -lift -underBinder s4
  have h5 : Keeps F a s4 := by
    unfold s4
    exact keeps_setSec (Piece.sub hF (by decide +kernel)) hs
  clear_value s4
  extract_lets +onlyGivenNames -merge -lift -underBinder s6
  have h7 : Keeps F a s6 := by
    unfold s6
    exact keeps_bump (keeps_dropJobKey (Piece.sub hF (by decide +kernel)) h5) ⟨rfl, hF (by decide +kernel)⟩
  clear_value s6
  exact keeps_foldl (fun s8 x9 h10 => keeps_finish (Piece.sub hF (by decide +kernel)) h10) h7

theorem keeps_keyedFabric {F : List Piece} {a s : State} (hF : [.SEC_FABRIC] ⊆ F) (hs : Keeps F a s) :
    Keeps F a (State.keyedFabric s) := by
  delta State.keyedFabric
  extract_lets +onlyGivenNames -merge -lift -underBinder v1
  clear_value v1
  extract_lets +onlyGivenNames -merge -lift -underBinder s2
  have h3 : Keeps F a s2 := by
    unfold s2
    exact keeps_showFabric (Piece.sub hF (by decide +kernel)) hs
  clear_value s2
  exact keeps_ite (fun _ => keeps_helloAll h3) (fun _ => h3)

theorem keeps_setJobKey {F : List Piece} {a s : State} {c i key id : ℕ} (hF : [.sec, .SEC_CTX] ⊆ F) (hs : Keeps F a s) :
    Keeps F a (State.setJobKey s c i key id) := by
  delta State.setJobKey
  extract_lets +onlyGivenNames -merge -lift -underBinder v1
  clear_value v1
  extract_lets +onlyGivenNames -merge -lift -underBinder s2
  have h3 : Keeps F a s2 := by
    unfold s2
    exact keeps_setSec (Piece.sub hF (by decide +kernel)) hs
  clear_value s2
  exact keeps_wr (keeps_wrBit (keeps_wrBit h3 ⟨rfl, hF (by decide +kernel)⟩) ⟨rfl, hF (by decide +kernel)⟩) ⟨rfl, hF (by decide +kernel)⟩

theorem keeps_showIde {F : List Piece} {a s : State} {p : ℕ} (hF : [.SEC_IDE] ⊆ F) (hs : Keeps F a s) :
    Keeps F a (State.showIde s p) := by
  delta State.showIde
  extract_lets +onlyGivenNames -merge -lift -underBinder v1 v2
  clear_value v1 v2
  exact keeps_wr (keeps_wr hs ⟨rfl, hF (by decide +kernel)⟩) ⟨rfl, hF (by decide +kernel)⟩

theorem keeps_putIde {F : List Piece} {a s : State} {t : IdeStream} (hF : [.sec, .SEC_IDE] ⊆ F) (hs : Keeps F a s) :
    Keeps F a (State.putIde s t) := by
  delta State.putIde
  exact keeps_showIde (Piece.sub hF (by decide +kernel)) (keeps_setSec (Piece.sub hF (by decide +kernel)) hs)

theorem keeps_freeSlots {F : List Piece} {a s : State} {c : ℕ} (hF : [.tier, .attn, .dec, .rcl, .TXT_SLOT, .TIER_RSV, .RCL_HELPER, .RCL_GAUGE,
    .GORE_SHAPE, .DEC_GRAM, .DEC_GAUGE] ⊆ F) (hs : Keeps F a s) :
    Keeps F a (State.freeSlots s c) := by
  delta State.freeSlots
  extract_lets +onlyGivenNames -merge -lift -underBinder s1
  have h2 : Keeps F a s1 := by
    unfold s1
    exact keeps_foldl (fun s3 x4 h5 => keeps_ite (fun _ => keeps_showGram (Piece.sub hF (by decide +kernel)) (keeps_setGram (Piece.sub hF
        (by decide +kernel)) (keeps_rsvSwap (Piece.sub hF (by decide +kernel)) h5))) (fun _ => h5)) hs
  clear_value s1
  extract_lets +onlyGivenNames -merge -lift -underBinder s6
  have h7 : Keeps F a s6 := by
    unfold s6
    exact keeps_foldl (fun s8 x9 h10 => keeps_ite (fun _ => keeps_showTable (Piece.sub hF (by decide +kernel)) (keeps_setTable (Piece.sub hF
        (by decide +kernel)) (keeps_rsvSwap (Piece.sub hF (by decide +kernel)) h10))) (fun _ => h10)) h2
  clear_value s6
  extract_lets +onlyGivenNames -merge -lift -underBinder s11
  have h12 : Keeps F a s11 := by
    unfold s11
    exact keeps_foldl (fun s13 x14 h15 => keeps_ite (fun _ => keeps_setHelper (Piece.sub hF (by decide +kernel)) (keeps_lendPages (Piece.sub hF
        (by decide +kernel)) (keeps_rsvSwap (Piece.sub hF (by decide +kernel)) h15))) (fun _ => h15)) h7
  clear_value s11
  exact keeps_foldl (fun s16 x17 h18 => keeps_ite (fun _ => keeps_setShape (Piece.sub hF (by decide +kernel)) (keeps_rsvSwap (Piece.sub hF
      (by decide +kernel)) h18)) (fun _ => h18)) h12

theorem keeps_freeIndex {F : List Piece} {a s : State} {n : ℕ} {ix : RIndex} (hF : [.ses, .tier, .pool, .rcl, .ring, .TIER_RSV, .TIER_OBJ,
    .RING_CNT, .RCL_IDX, .RCL_GAUGE, .POOL_REGION, .POOL_OBJ, .POOL_LEND, .POOL_CNT, .CTL_READY] ⊆ F) (hs : Keeps F a s) :
    Keeps F a (State.freeIndex s n ix) := by
  delta State.freeIndex
  extract_lets +onlyGivenNames -merge -lift -underBinder s1
  have h2 : Keeps F a s1 := by
    unfold s1
    exact keeps_dropParts (Piece.sub hF (by decide +kernel)) (keeps_emptyAll (Piece.sub hF (by decide +kernel)) hs)
  clear_value s1
  extract_lets +onlyGivenNames -merge -lift -underBinder v3
  clear_value v3
  extract_lets +onlyGivenNames -merge -lift -underBinder s4
  have h5 : Keeps F a s4 := by
    unfold s4
    exact Keeps.other h2 (htier := .inr (hF (by decide +kernel)))
  clear_value s4
  extract_lets +onlyGivenNames -merge -lift -underBinder v6
  clear_value v6
  extract_lets +onlyGivenNames -merge -lift -underBinder s7
  have h8 : Keeps F a s7 := by
    unfold s7
    exact keeps_setRcl (Piece.sub hF (by decide +kernel)) h5
  clear_value s7
  exact keeps_showIndex (Piece.sub hF (by decide +kernel)) h8

theorem keeps_scrub {F : List Piece} {a s : State} {c : ℕ} {reads : List (Option ℕ)} (hF : [.hti, .mbx, .ses, .tier, .gore, .attn, .pwr, .fab,
    .fleet, .dec, .pool, .rcl, .ring, .TXT_SLOT, .TIER_RSV, .TIER_OBJ, .TIER_DRV, .TIER_CNT, .SHP_CTX_CNT, .SEC_CNT, .RING_CNT, .RCL_IDX,
        .RCL_HELPER, .RCL_GAUGE, .RCL_CTX_CNT, .RCL_CNT, .PWR_DROGUE, .PWR_CNT, .POOL_REGION, .POOL_OBJ, .POOL_LEND, .POOL_CNT, .MBX_SUM,
            .MBX_CNT, .HTI_W_QFAULT, .HTI_W_MBSTS, .HTI_W_EVT, .HTI_CNT, .GORE_TILE_CNT, .GORE_SHAPE, .GORE_ROLE, .GORE_PANEL, .GORE_CTX,
                .GORE_CTX_CNT, .GORE_CNT, .GORE_ATTN_CNT, .DEC_GRAM, .DEC_GAUGE, .DEC_CNT, .CTL_SES, .CTL_SES_CNT, .CTL_READY, .CTL_PM, .CTL_ADM,
                    .CTL_ADM_CNT] ⊆ F) (hs : Keeps F a s) :
    Keeps F a (State.scrub s c reads) := by
  delta State.scrub
  extract_lets +onlyGivenNames -merge -lift -underBinder s1
  have h2 : Keeps F a s1 := by
    unfold s1
    exact keeps_endCmds (Piece.sub hF (by decide +kernel)) hs
  clear_value s1
  extract_lets +onlyGivenNames -merge -lift -underBinder v3
  clear_value v3
  extract_lets +onlyGivenNames -merge -lift -underBinder s4
  have h5 : Keeps F a s4 := by
    unfold s4
    exact keeps_foldl (fun s6 x7 h8 => keeps_destroySess (Piece.sub hF (by decide +kernel)) h8) h2
  clear_value s4
  extract_lets +onlyGivenNames -merge -lift -underBinder s9
  have h10 : Keeps F a s9 := by
    unfold s9
    exact keeps_foldl (fun s11 x12 h13 => keeps_freeIndex (Piece.sub hF (by decide +kernel)) h13) h5
  clear_value s9
  extract_lets +onlyGivenNames -merge -lift -underBinder s14
  have h15 : Keeps F a s14 := by
    unfold s14
    exact keeps_foldl (fun s16 x17 h18 => keeps_freeStream (Piece.sub hF (by decide +kernel)) h18) h10
  clear_value s14
  exact keeps_freeSlots (Piece.sub hF (by decide +kernel)) (keeps_detachAll (Piece.sub hF (by decide +kernel)) h15)

theorem keeps_fabricBoot {F : List Piece} {a s : State} (hF : [.sec, .SEC_FABRIC] ⊆ F) (hs : Keeps F a s) :
    Keeps F a (State.fabricBoot s) := by
  delta State.fabricBoot
  refine keeps_foldl (fun s1 x2 h3 => ?_) hs
  split
  · exact keeps_ite (fun _ => keeps_dropFabric (Piece.sub hF (by decide +kernel)) h3) (fun _ => keeps_showFabric (Piece.sub hF
        (by decide +kernel)) (keeps_setSec (Piece.sub hF (by decide +kernel)) h3))
  · exact keeps_ite (fun _ => keeps_dropFabric (Piece.sub hF (by decide +kernel)) h3) (fun _ => h3)

theorem keeps_setFabric {F : List Piece} {a s : State} {i key id : ℕ} {persist : Bool} (hF : [.sec, .SEC_FABRIC] ⊆ F) (hs : Keeps F a s) :
    Keeps F a (State.setFabric s i key id persist) := by
  delta State.setFabric
  extract_lets +onlyGivenNames -merge -lift -underBinder v1
  clear_value v1
  extract_lets +onlyGivenNames -merge -lift -underBinder s2
  have h3 : Keeps F a s2 := by
    unfold s2
    exact keeps_setSec (Piece.sub hF (by decide +kernel)) hs
  clear_value s2
  exact keeps_keyedFabric (Piece.sub hF (by decide +kernel)) (keeps_wr h3 (by split <;> exact ⟨rfl, hF (by decide +kernel)⟩))

theorem keeps_ideLost {F : List Piece} {a s : State} {p n : ℕ} (hF : [.hti, .mbx, .ses, .tier, .gore, .attn, .pwr, .fab, .fleet, .dec, .pool,
    .rcl, .ring, .TIER_RSV, .TIER_OBJ, .TIER_DRV, .TIER_CNT, .SHP_CTX_CNT, .SEC_CTX, .SEC_CNT, .RING_CNT, .RCL_IDX, .RCL_GAUGE, .RCL_CTX_CNT,
        .RCL_CNT, .PWR_DROGUE, .PWR_CNT, .POOL_REGION, .POOL_OBJ, .POOL_LEND, .POOL_CNT, .MBX_SUM, .MBX_CNT, .HTI_W_QFAULT, .HTI_W_MBSTS,
            .HTI_W_EVT, .HTI_CNT, .GORE_TILE_CNT, .GORE_ROLE, .GORE_PANEL, .GORE_CTX, .GORE_CTX_CNT, .GORE_CNT, .GORE_ATTN_CNT, .CTL_SES,
                .CTL_SES_CNT, .CTL_READY, .CTL_PM, .CTL_ADM, .CTL_ADM_CNT] ⊆ F) (hs : Keeps F a s) :
    Keeps F a (State.ideLost s p n) := by
  delta State.ideLost
  extract_lets +onlyGivenNames -merge -lift -underBinder s1
  have h2 : Keeps F a s1 := by
    unfold s1
    exact keeps_bump (keeps_emit hs) ⟨rfl, hF (by decide +kernel)⟩
  clear_value s1
  exact keeps_tdiErrors (Piece.sub hF (by decide +kernel)) h2

theorem keeps_refreshTdi {F : List Piece} {a s : State} {c : ℕ} (hF : [.SEC_CTX] ⊆ F) (hs : Keeps F a s) :
    Keeps F a (State.refreshTdi s c) := by
  delta State.refreshTdi
  exact keeps_ite (fun _ => hs) (fun _ => keeps_wr hs ⟨rfl, hF (by decide +kernel)⟩)

/-! ### RegOps -/

theorem keeps_tryReg {F : List Piece} {a s : State} {l : List ((Fld × ℕ × ℕ) × ℕ)} (hF : Piece.regs ⊆ F) (hs : Keeps F a s)
    (hl : ∀ p ∈ l, p.1.1.fixed = false) : KeepsM F a (State.tryReg s l) := by
  have h : Keeps F a (l.foldl (fun s (p : (Fld × Nat × Nat) × Nat) => s.wr p.1.1 p.1.2.1 p.1.2.2 p.2) s) := by
    induction l generalizing s with
    | nil => exact hs
    | cons p t ih =>
      exact ih (keeps_wr hs ⟨hl p List.mem_cons_self, hF (Fld.piece_mem _)⟩) fun q hq => hl q (List.mem_cons_of_mem _ hq)
  unfold State.tryReg
  intro b hb
  dsimp only at hb
  split at hb
  · split at hb <;> cases hb
    exact h
  · cases hb
    exact h

theorem keeps_loadReg {F : List Piece} {a s : State} {r : ℕ} {b : Blk} {off : ℕ} (hF : Piece.regs ⊆ F) (hs : Keeps F a s) :
    Keeps F a (State.loadReg s r b off) := by
  have hv : ∀ f : Fld, f.info.nvm = true → f.fixed = false := fun f h => by
    by_contra hf
    simp only [Fld.fixed, Bool.not_eq_false, Bool.or_eq_true, decide_eq_true_eq] at hf
    rcases hf with rfl | rfl <;> exact absurd h (by decide)
  have hm : ∀ (v : Fld × Nat × Nat → Nat) (p : (Fld × Nat × Nat) × Nat),
      p ∈ ((regFieldsAt b off).filter fun p => p.1.info.nvm && decide (p.1.info.clr.rank ≤ r)).map (fun p => (p, v p)) →
      p.1.1.fixed = false := fun v p hp => by
    obtain ⟨q, hq, rfl⟩ := List.mem_map.mp hp
    have h := List.of_mem_filter hq
    simp only [Bool.and_eq_true] at h
    exact hv _ h.1
  have hl : ∀ {s : State}, Keeps F a s → Keeps F a (match s.tryReg (((regFieldsAt b off).filter fun p =>
      p.1.info.nvm && decide (p.1.info.clr.rank ≤ r)).map fun p => (p, p.1.dflt p.2.1)) with
    | some t => t
    | none => ((((regFieldsAt b off).filter fun p => p.1.info.nvm && decide (p.1.info.clr.rank ≤ r)).map fun p =>
        (p, p.1.dflt p.2.1)).foldl (fun s (p : (Fld × Nat × Nat) × Nat) =>
        s.wr p.1.1 p.1.2.1 p.1.2.2 (if p.1.1 = .GORE_BRIDLE_MIB then 0 else p.2)) s)) := fun {s} h => by
    split
    · exact KeepsM.get (by assumption) (keeps_tryReg hF h (hm _))
    · have hq := hm fun p => p.1.dflt p.2.1
      revert hq
      generalize ((regFieldsAt b off).filter fun p => p.1.info.nvm && decide (p.1.info.clr.rank ≤ r)).map
        (fun p => (p, p.1.dflt p.2.1)) = l
      intro hq
      clear * - h hq hF
      induction l generalizing s with
      | nil => exact h
      | cons p t ih =>
        exact ih (keeps_wr h ⟨hq p List.mem_cons_self, hF (Fld.piece_mem _)⟩) fun q hm => hq q (List.mem_cons_of_mem _ hm)
  have hd : ∀ {s : State}, Keeps F a s → Keeps F a (s.bump .NVM_CNT_COUNT 3 0 1) := fun h => keeps_bump h ⟨rfl, hF (Fld.piece_mem _)⟩
  unfold State.loadReg
  dsimp only
  refine keeps_ite (fun _ => hs) (fun _ => ?_)
  split
  · split
    · exact keeps_bump (KeepsM.get (by assumption) (keeps_tryReg hF hs (hm _))) ⟨rfl, hF (Fld.piece_mem _)⟩
    · split
      · exact KeepsM.get (by assumption) (keeps_tryReg hF (hd hs) (hm _))
      · exact hl (hd (hd hs))
  · split
    · exact KeepsM.get (by assumption) (keeps_tryReg hF hs (hm _))
    · exact hl (hd hs)

theorem keeps_loadNvm {F : List Piece} {a s : State} {r : ℕ} (hF : Piece.regs ⊆ F) (hs : Keeps F a s) :
    Keeps F a (State.loadNvm s r) := by
  delta State.loadNvm
  extract_lets +onlyGivenNames -merge -lift -underBinder s1
  have h2 : Keeps F a s1 := by
    unfold s1
    exact keeps_ite (fun _ => keeps_wrAll (keeps_wrAll hs ⟨rfl, hF (by decide +kernel)⟩) ⟨rfl, hF (by decide +kernel)⟩) (fun _ => hs)
  clear_value s1
  refine keeps_foldl (fun s3 x4 h5 => ?_) h2
  split
  · exact keeps_loadReg (Piece.sub hF (by decide +kernel)) h5
  · exact h5

theorem keeps_setBank {F : List Piece} {a s : State} {n : ℕ} {b : Bank} (hF : [.boot] ⊆ F) (hs : Keeps F a s) :
    Keeps F a (State.setBank s n b) := by
  delta State.setBank
  exact Keeps.other hs (hboot := .inr (hF (by decide +kernel)))

theorem keeps_showBank {F : List Piece} {a s : State} (hF : [.NVM_SS] ⊆ F) (hs : Keeps F a s) :
    Keeps F a (State.showBank s) := by
  delta State.showBank
  extract_lets +onlyGivenNames -merge -lift -underBinder v1 v2 v3
  clear_value v1 v2 v3
  exact keeps_wr (keeps_wr (keeps_wr hs ⟨rfl, hF (by decide +kernel)⟩) ⟨rfl, hF (by decide +kernel)⟩) ⟨rfl, hF (by decide +kernel)⟩

theorem keeps_refreshPlace {F : List Piece} {a s : State} (hF : [.RING_STS, .RING_LED] ⊆ F) (hs : Keeps F a s) :
    Keeps F a (State.refreshPlace s) := by
  delta State.refreshPlace
  extract_lets +onlyGivenNames -merge -lift -underBinder v1 v2 v3
  clear_value v1 v2 v3
  extract_lets +onlyGivenNames -merge -lift -underBinder s4
  have h5 : Keeps F a s4 := by
    unfold s4
    exact keeps_wr (keeps_wr hs ⟨rfl, hF (by decide +kernel)⟩) ⟨rfl, hF (by decide +kernel)⟩
  clear_value s4
  exact keeps_wr (keeps_wr h5 ⟨rfl, hF (by decide +kernel)⟩) ⟨rfl, hF (by decide +kernel)⟩

theorem keeps_clearRegs {F : List Piece} {a s : State} {p : Fld → ℕ → Bool} (hF : Piece.withRegs [.latch] ⊆ F) (hs : Keeps F a s) :
    Keeps F a (State.clearRegs s p) := by
  have hk : ∀ f : Fld, f.piece ∉ F → False := fun f h => h (hF (List.mem_append_left _ f.piece_mem))
  exact Keeps.other (hs.filter (q := fun k => match keyField k with
    | some f => !p f (keyI k)
    | none => true) fun f h => (hk f h).elim) (hlatch := .inr (hF (by decide +kernel)))

theorem keeps_chooseBank {F : List Piece} {a s : State} {bad0 bad1 : Bool} (hF : [.boot, .NVM_SS, .NVM_CNT] ⊆ F) (hs : Keeps F a s) :
    Keeps F a (State.chooseBank s bad0 bad1) := by
  delta State.chooseBank
  extract_lets +onlyGivenNames -merge -lift -underBinder v1 v2 v3 v4 v5 v6 v7
  clear_value v1 v2 v3 v4 v5 v6 v7
  extract_lets +onlyGivenNames -merge -lift -underBinder s8
  have h9 : Keeps F a s8 := by
    unfold s8
    exact keeps_ite (fun _ => keeps_setBank (Piece.sub hF (by decide +kernel)) hs) (fun _ => hs)
  clear_value s8
  extract_lets +onlyGivenNames -merge -lift -underBinder s10
  have h11 : Keeps F a s10 := by
    unfold s10
    exact keeps_ite (fun _ => keeps_setBank (Piece.sub hF (by decide +kernel)) h9) (fun _ => h9)
  clear_value s10
  extract_lets +onlyGivenNames -merge -lift -underBinder s12
  have h13 : Keeps F a s12 := by
    unfold s12
    exact keeps_wr (keeps_wr h11 ⟨rfl, hF (by decide +kernel)⟩) ⟨rfl, hF (by decide +kernel)⟩
  clear_value s12
  extract_lets +onlyGivenNames -merge -lift -underBinder s14
  have h15 : Keeps F a s14 := by
    unfold s14
    exact keeps_ite (fun _ => keeps_bump h13 ⟨rfl, hF (by decide +kernel)⟩) (fun _ => h13)
  clear_value s14
  exact keeps_showBank (Piece.sub hF (by decide +kernel)) h15

theorem keeps_clearTo {F : List Piece} {a s : State} {r : ℕ} (hF : Piece.withRegs [.latch] ⊆ F) (hs : Keeps F a s) :
    Keeps F a (State.clearTo s r) := by
  delta State.clearTo
  exact keeps_clearRegs (Piece.sub hF (by decide +kernel)) hs

/-! ### Sessions -/

theorem keeps_sessQuery {F : List Piece} {a : State} {wrote : Bool} {c : Cmd} {s : State} (hF : [.hti, .ring, .SHP_CTX_CNT, .SEC_CNT,
    .HTI_W_QFAULT, .HTI_CNT] ⊆ F) (hs : Keeps F a s) :
    Keeps F a (sessQuery wrote c s) := by
  delta sessQuery
  extract_lets +onlyGivenNames -merge -lift -underBinder v1 v2 v3 v4
  clear_value v1 v2 v3 v4
  split
  · exact keeps_finish (Piece.sub hF (by decide +kernel)) hs
  · extract_lets +onlyGivenNames -merge -lift -underBinder f7
    unfold f7
    beta_reduce
    refine keeps_ite (fun _ => keeps_ite (fun _ => keeps_finish (Piece.sub hF (by decide +kernel)) (keeps_emit hs)) (fun _ => keeps_finish
        (Piece.sub hF (by decide +kernel)) hs)) (fun _ => ?_)
    refine keeps_ite (fun _ => keeps_finish (Piece.sub hF (by decide +kernel)) hs) (fun _ => ?_)
    extract_lets +onlyGivenNames -merge -lift -underBinder v5 v6
    clear_value v5 v6
    exact keeps_ite (fun _ => keeps_finish (Piece.sub hF (by decide +kernel)) (keeps_emit hs)) (fun _ => keeps_finish (Piece.sub hF
        (by decide +kernel)) hs)

theorem keeps_rebuildDone {F : List Piece} {a s : State} {k h flag : ℕ} (hF : [.hti, .ring, .SHP_CTX_CNT, .SEC_CNT, .HTI_W_QFAULT, .HTI_CNT] ⊆ F)
    (hs : Keeps F a s) :
    Keeps F a (State.rebuildDone s k h flag) := by
  delta State.rebuildDone
  split
  · exact keeps_finish (Piece.sub hF (by decide +kernel)) hs
  · exact keeps_ite (fun _ => keeps_finish (Piece.sub hF (by decide +kernel)) hs) (fun _ => keeps_finish (Piece.sub hF (by decide +kernel)) hs)

theorem keeps_reviveDone {F : List Piece} {a : State} {h : ℕ} {s : State} (hF : [.hti, .ses, .fleet, .ring, .SHP_CTX_CNT, .SEC_CNT,
    .HTI_W_QFAULT, .HTI_CNT, .CTL_SES, .CTL_SES_CNT] ⊆ F) (hs : Keeps F a s) :
    Keeps F a (reviveDone h s) := by
  delta reviveDone
  split
  · exact hs
  · refine keeps_ite (fun _ => ?_) (fun _ => hs)
    extract_lets +onlyGivenNames -merge -lift -underBinder s1
    have h2 : Keeps F a s1 := by
      unfold s1
      exact keeps_bump (keeps_enterAloft (Piece.sub hF (by decide +kernel)) hs) ⟨rfl, hF (by decide +kernel)⟩
    clear_value s1
    extract_lets +onlyGivenNames -merge -lift -underBinder v3
    clear_value v3
    split
    · exact keeps_ite (fun _ => keeps_finish (Piece.sub hF (by decide +kernel)) h2) (fun _ => keeps_finish (Piece.sub hF (by decide +kernel)) h2)
    · exact h2

theorem keeps_execReviveDone {F : List Piece} {a : State} {handle : ℕ} {s : State} (hF : [.hti, .ses, .tier, .fleet, .pool, .ring, .TIER_OBJ,
    .TIER_CNT, .SHP_CTX_CNT, .SEC_CNT, .RING_EVAC, .RING_CNT, .POOL_OBJ, .POOL_CNT, .HTI_W_QFAULT, .HTI_CNT, .CTL_SES, .CTL_SES_CNT, .CTL_READY]
        ⊆ F) (hs : Keeps F a s) :
    KeepsO F a (execReviveDone handle s) := by
  delta execReviveDone
  exact KeepsO.mk (keeps_pump (Piece.sub hF (by decide +kernel)) (keeps_reviveDone (Piece.sub hF (by decide +kernel)) hs))

theorem keeps_sessCreate {F : List Piece} {a : State} {c : Cmd} {s : State} (hF : [.hti, .mbx, .ses, .tier, .fleet, .ring, .SHP_CTX_CNT,
    .SEC_CNT, .RING_CNT, .MBX_SUM, .MBX_CNT, .HTI_W_QFAULT, .HTI_W_MBSTS, .HTI_W_EVT, .HTI_CNT, .GORE_SHAPE, .CTL_SES, .CTL_SES_CNT,
        .CTL_ADM_CNT] ⊆ F) (hs : Keeps F a s) :
    Keeps F a (sessCreate c s) := by
  delta sessCreate
  extract_lets +onlyGivenNames -merge -lift -underBinder v1 v2 v3 v4
  clear_value v1 v2 v3 v4
  refine keeps_ite (fun _ => keeps_finish (Piece.sub hF (by decide +kernel)) hs) (fun _ => ?_)
  refine keeps_ite (fun _ => keeps_finish (Piece.sub hF (by decide +kernel)) (keeps_bump hs ⟨rfl, hF (by decide +kernel)⟩)) (fun _ => ?_)
  refine keeps_ite (fun _ => keeps_finish (Piece.sub hF (by decide +kernel)) hs) (fun _ => ?_)
  split
  · exact keeps_finish (Piece.sub hF (by decide +kernel)) hs
  · extract_lets +onlyGivenNames -merge -lift -underBinder v5
    clear_value v5
    extract_lets +onlyGivenNames -merge -lift -underBinder s6
    have h7 : Keeps F a s6 := by
      unfold s6
      exact keeps_tickFree hs
    clear_value s6
    extract_lets +onlyGivenNames -merge -lift -underBinder v8 v9
    clear_value v8 v9
    extract_lets +onlyGivenNames -merge -lift -underBinder s10
    have h11 : Keeps F a s10 := by
      unfold s10
      exact keeps_ite (fun _ => keeps_tickFree h7) (fun _ => h7)
    clear_value s10
    extract_lets +onlyGivenNames -merge -lift -underBinder v12 v13 v14 v15
    clear_value v12 v13 v14 v15
    extract_lets +onlyGivenNames -merge -lift -underBinder s16
    have h17 : Keeps F a s16 := by
      unfold s16
      exact keeps_writeSpool (Piece.sub hF (by decide +kernel)) (keeps_enter (Piece.sub hF (by decide +kernel)) (keeps_putSess (Piece.sub hF
          (by decide +kernel)) h11))
    clear_value s16
    extract_lets +onlyGivenNames -merge -lift -underBinder s18
    have h19 : Keeps F a s18 := by
      unfold s18
      exact keeps_bump (keeps_refreshShape (Piece.sub hF (by decide +kernel)) h17) ⟨rfl, hF (by decide +kernel)⟩
    clear_value s18
    extract_lets +onlyGivenNames -merge -lift -underBinder s20
    have h21 : Keeps F a s20 := by
      unfold s20
      exact keeps_ite (fun _ => keeps_sendNote (Piece.sub hF (by decide +kernel)) h19) (fun _ => h19)
    clear_value s20
    extract_lets +onlyGivenNames -merge -lift -underBinder s22
    have h23 : Keeps F a s22 := by
      unfold s22
      exact keeps_ite (fun _ => keeps_admitInter (Piece.sub hF (by decide +kernel)) h21) (fun _ => h21)
    clear_value s22
    exact keeps_finish (Piece.sub hF (by decide +kernel)) h23

theorem keeps_execSessCreate {F : List Piece} {a : State} {k : ℕ} {s : State} (hF : [.hti, .mbx, .ses, .tier, .fleet, .ring, .SHP_CTX_CNT,
    .SEC_CNT, .RING_CNT, .MBX_SUM, .MBX_CNT, .HTI_W_QFAULT, .HTI_W_MBSTS, .HTI_W_EVT, .HTI_CNT, .GORE_SHAPE, .CTL_SES, .CTL_SES_CNT,
        .CTL_ADM_CNT] ⊆ F) (hs : Keeps F a s) :
    KeepsO F a (execSessCreate k s) := by
  delta execSessCreate
  exact KeepsO.mk (keeps_begin (Piece.sub hF (by decide +kernel)) hs (fun y1 y2 h3 => keeps_sessCreate (Piece.sub hF (by decide +kernel)) h3))

theorem keeps_destroyAll {F : List Piece} {a : State} {reads : List (Option ℕ)} {c : Cmd} {s : State} (hF : [.hti, .mbx, .ses, .tier, .gore,
    .attn, .pwr, .dec, .pool, .ring, .TXT_SLOT, .TIER_RSV, .TIER_OBJ, .TIER_CNT, .SHP_CTX_CNT, .SEC_CNT, .RING_CNT, .PWR_DROGUE, .PWR_CNT,
        .POOL_OBJ, .POOL_CNT, .MBX_SUM, .MBX_CNT, .HTI_W_QFAULT, .HTI_W_MBSTS, .HTI_W_EVT, .HTI_CNT, .GORE_TILE_CNT, .GORE_SHAPE, .GORE_PANEL,
            .GORE_CTX, .GORE_CTX_CNT, .GORE_CNT, .GORE_ATTN_CNT, .DEC_GRAM, .DEC_GAUGE, .DEC_CNT, .CTL_SES, .CTL_SES_CNT, .CTL_READY, .CTL_PM] ⊆
                F) (hs : Keeps F a s) :
    Keeps F a (destroyAll reads c s) := by
  delta destroyAll
  extract_lets +onlyGivenNames -merge -lift -underBinder v1 v2
  clear_value v1 v2
  extract_lets +onlyGivenNames -merge -lift -underBinder s3
  have h4 : Keeps F a s3 := by
    unfold s3
    exact keeps_foldl (fun s5 x6 h7 => keeps_destroySess (Piece.sub hF (by decide +kernel)) h7) hs
  clear_value s3
  exact keeps_winch (Piece.sub hF (by decide +kernel)) (keeps_finish (Piece.sub hF (by decide +kernel)) h4)

theorem keeps_sessPark {F : List Piece} {a : State} {c : Cmd} {x0 : Session} {s : State} (hF : [.hti, .ses, .tier, .fleet, .pool, .ring,
    .TIER_OBJ, .TIER_DRV, .TIER_CNT, .SHP_CTX_CNT, .SEC_CNT, .POOL_OBJ, .POOL_CNT, .HTI_W_QFAULT, .HTI_CNT, .CTL_SES, .CTL_SES_CNT, .CTL_READY] ⊆
        F) (hs : Keeps F a s) :
    Keeps F a (sessPark c x0 s) := by
  delta sessPark
  extract_lets +onlyGivenNames -merge -lift -underBinder v1
  clear_value v1
  refine keeps_ite (fun _ => keeps_finish (Piece.sub hF (by decide +kernel)) hs) (fun _ => ?_)
  extract_lets +onlyGivenNames -merge -lift -underBinder s2
  have h3 : Keeps F a s2 := by
    unfold s2
    exact keeps_ite (fun _ => keeps_pause (Piece.sub hF (by decide +kernel)) hs) (fun _ => keeps_park (Piece.sub hF (by decide +kernel)) hs)
  clear_value s2
  extract_lets +onlyGivenNames -merge -lift -underBinder v4
  clear_value v4
  exact keeps_finish (Piece.sub hF (by decide +kernel)) (keeps_flushGone (Piece.sub hF (by decide +kernel)) h3)

theorem keeps_onOwned {F : List Piece} {a : State} {body : Cmd → Session → State → State} {c : Cmd} {s : State} (hF : [.hti, .ring, .SHP_CTX_CNT,
    .SEC_CNT, .HTI_W_QFAULT, .HTI_CNT] ⊆ F) (hbody : ∀ y0 y1 y2, Keeps F a y2 → Keeps F a (body y0 y1 y2)) (hs : Keeps F a s) :
    Keeps F a (onOwned body c s) := by
  delta onOwned
  split
  · exact keeps_finish (Piece.sub hF (by decide +kernel)) hs
  · split
    · exact keeps_finish (Piece.sub hF (by decide +kernel)) hs
    · exact hbody _ _ _ hs

theorem keeps_execSessPark {F : List Piece} {a : State} {k : ℕ} {s : State} (hF : [.hti, .ses, .tier, .fleet, .pool, .ring, .TIER_OBJ, .TIER_DRV,
    .TIER_CNT, .SHP_CTX_CNT, .SEC_CNT, .POOL_OBJ, .POOL_CNT, .HTI_W_QFAULT, .HTI_CNT, .CTL_SES, .CTL_SES_CNT, .CTL_READY] ⊆ F) (hs : Keeps F a s) :
    KeepsO F a (execSessPark k s) := by
  delta execSessPark
  exact KeepsO.mk (keeps_begin (Piece.sub hF (by decide +kernel)) hs (fun y1 y2 h3 => keeps_onOwned (Piece.sub hF (by decide +kernel)) (fun y4 y5
      y6 h7 => keeps_sessPark (Piece.sub hF (by decide +kernel)) h7) h3))

theorem keeps_sessDeflate {F : List Piece} {a : State} {c : Cmd} {x0 : Session} {s : State} (hF : [.hti, .ses, .tier, .fleet, .pool, .ring,
    .TIER_OBJ, .TIER_CNT, .SHP_CTX_CNT, .SEC_CNT, .POOL_OBJ, .POOL_CNT, .HTI_W_QFAULT, .HTI_CNT, .CTL_SES, .CTL_READY] ⊆ F) (hs : Keeps F a s) :
    Keeps F a (sessDeflate c x0 s) := by
  delta sessDeflate
  exact keeps_ite (fun _ => keeps_finish (Piece.sub hF (by decide +kernel)) hs) (fun _ => keeps_finish (Piece.sub hF (by decide +kernel))
      (keeps_flushGone (Piece.sub hF (by decide +kernel)) (keeps_deflate (Piece.sub hF (by decide +kernel)) hs)))

theorem keeps_idlePark {F : List Piece} {a : State} {h : ℕ} {s : State} (hF : [.hti, .mbx, .ses, .tier, .fleet, .pool, .ring, .TIER_OBJ,
    .TIER_DRV, .TIER_CNT, .SHP_CTX_CNT, .SEC_CNT, .POOL_OBJ, .POOL_CNT, .MBX_SUM, .MBX_CNT, .HTI_W_QFAULT, .HTI_W_MBSTS, .HTI_W_EVT, .HTI_CNT,
        .CTL_SES, .CTL_SES_CNT, .CTL_READY] ⊆ F) (hs : Keeps F a s) :
    Keeps F a (idlePark h s) := by
  delta idlePark
  split
  · exact hs
  · refine keeps_ite (fun _ => ?_) (fun _ => hs)
    extract_lets +onlyGivenNames -merge -lift -underBinder s1
    have h2 : Keeps F a s1 := by
      unfold s1
      exact keeps_flushGone (Piece.sub hF (by decide +kernel)) (keeps_pause (Piece.sub hF (by decide +kernel)) hs)
    clear_value s1
    extract_lets +onlyGivenNames -merge -lift -underBinder v3
    clear_value v3
    exact keeps_event (Piece.sub hF (by decide +kernel)) h2

theorem keeps_tetherResolve {F : List Piece} {a : State} {c : Cmd} {s : State} (hF : [.hti, .mbx, .ses, .tier, .gore, .attn, .fleet, .dec, .pool,
    .ring, .TXT_SLOT, .TIER_RSV, .TIER_OBJ, .SHP_CTX_CNT, .SEC_CNT, .RING_CNT, .POOL_OBJ, .POOL_CNT, .MBX_SUM, .MBX_CNT, .HTI_W_QFAULT,
        .HTI_W_MBSTS, .HTI_W_EVT, .HTI_CNT, .GORE_TILE_CNT, .GORE_SHAPE, .GORE_ATTN_CNT, .DEC_GRAM, .DEC_GAUGE, .CTL_SES, .CTL_SES_CNT,
            .CTL_READY] ⊆ F) (hs : Keeps F a s) :
    Keeps F a (tetherResolve c s) := by
  delta tetherResolve
  split
  · exact keeps_finish (Piece.sub hF (by decide +kernel)) hs
  · refine keeps_ite (fun _ => ?_) (fun _ => keeps_send (Piece.sub hF (by decide +kernel)) hs)
    extract_lets +onlyGivenNames -merge -lift -underBinder p1
    have h2 : KeepsP F a p1 := by
      unfold p1
      exact keeps_reconcile (Piece.sub hF (by decide +kernel)) hs
    clear_value p1
    exact keeps_finish (Piece.sub hF (by decide +kernel)) (KeepsP.proj h2)

theorem keeps_execSessTetherResolve {F : List Piece} {a : State} {k : ℕ} {s : State} (hF : [.hti, .mbx, .ses, .tier, .gore, .attn, .fleet, .dec,
    .pool, .ring, .TXT_SLOT, .TIER_RSV, .TIER_OBJ, .SHP_CTX_CNT, .SEC_CNT, .RING_CNT, .POOL_OBJ, .POOL_CNT, .MBX_SUM, .MBX_CNT, .HTI_W_QFAULT,
        .HTI_W_MBSTS, .HTI_W_EVT, .HTI_CNT, .GORE_TILE_CNT, .GORE_SHAPE, .GORE_ATTN_CNT, .DEC_GRAM, .DEC_GAUGE, .CTL_SES, .CTL_SES_CNT,
            .CTL_READY] ⊆ F) (hs : Keeps F a s) :
    KeepsO F a (execSessTetherResolve k s) := by
  delta execSessTetherResolve
  exact KeepsO.mk (keeps_begin (Piece.sub hF (by decide +kernel)) hs (fun y1 y2 h3 => keeps_tetherResolve (Piece.sub hF (by decide +kernel)) h3))

theorem keeps_policyBody {F : List Piece} {a : State} {c : Cmd} {x0 : Session} {s : State} (hF : [.hti, .ses, .tier, .fleet, .pool, .ring,
    .TIER_OBJ, .TIER_DRV, .TIER_CNT, .SHP_CTX_CNT, .SEC_CNT, .RING_CNT, .POOL_OBJ, .POOL_CNT, .HTI_W_QFAULT, .HTI_CNT, .CTL_READY] ⊆ F) (hs :
        Keeps F a s) :
    Keeps F a (policyBody c x0 s) := by
  delta policyBody
  extract_lets +onlyGivenNames -merge -lift -underBinder v1 v2 v3 v4
  clear_value v1 v2 v3 v4
  extract_lets +onlyGivenNames -merge -lift -underBinder s5
  have h6 : Keeps F a s5 := by
    unfold s5
    exact keeps_setSess (Piece.sub hF (by decide +kernel)) hs
  clear_value s5
  extract_lets +onlyGivenNames -merge -lift -underBinder v7
  clear_value v7
  extract_lets +onlyGivenNames -merge -lift -underBinder s8
  have h9 : Keeps F a s8 := by
    unfold s8
    exact keeps_ite (fun _ => keeps_setFleet (Piece.sub hF (by decide +kernel)) h6) (fun _ => h6)
  clear_value s8
  extract_lets +onlyGivenNames -merge -lift -underBinder s10
  have h11 : Keeps F a s10 := by
    unfold s10
    exact keeps_ite (fun _ => h9) (fun _ => keeps_sendSpool (Piece.sub hF (by decide +kernel)) (keeps_sinkSmall (Piece.sub hF
        (by decide +kernel)) (keeps_writeSpool (Piece.sub hF (by decide +kernel)) h9)))
  clear_value s10
  exact keeps_finish (Piece.sub hF (by decide +kernel)) h11

theorem keeps_policyDefault {F : List Piece} {a : State} {c : Cmd} {s : State} (hF : [.hti, .ses, .ring, .SHP_CTX_CNT, .SEC_CNT, .HTI_W_QFAULT,
    .HTI_CNT] ⊆ F) (hs : Keeps F a s) :
    Keeps F a (policyDefault c s) := by
  delta policyDefault
  extract_lets +onlyGivenNames -merge -lift -underBinder v1 v2 v3
  clear_value v1 v2 v3
  exact keeps_finish (Piece.sub hF (by decide +kernel)) (Keeps.other hs (hses := .inr (hF (by decide +kernel))))

theorem keeps_execSessPolicy {F : List Piece} {a : State} {k : ℕ} {s : State} (hF : [.hti, .ses, .tier, .fleet, .pool, .ring, .TIER_OBJ,
    .TIER_DRV, .TIER_CNT, .SHP_CTX_CNT, .SEC_CNT, .RING_CNT, .POOL_OBJ, .POOL_CNT, .HTI_W_QFAULT, .HTI_CNT, .CTL_READY] ⊆ F) (hs : Keeps F a s) :
    KeepsO F a (execSessPolicy k s) := by
  delta execSessPolicy
  exact KeepsO.mk (keeps_begin (Piece.sub hF (by decide +kernel)) hs (fun y1 y2 h3 => keeps_ite (fun _ => keeps_policyDefault (Piece.sub hF
      (by decide +kernel)) h3) (fun _ => keeps_onOwned (Piece.sub hF (by decide +kernel)) (fun y4 y5 y6 h7 => keeps_policyBody (Piece.sub hF
          (by decide +kernel)) h7) h3)))

theorem keeps_sessRevive {F : List Piece} {a : State} {c : Cmd} {x0 : Session} {s : State} (hF : [.hti, .mbx, .ses, .tier, .fleet, .pool, .ring,
    .TIER_OBJ, .TIER_CNT, .SHP_CTX_CNT, .SEC_CNT, .POOL_OBJ, .POOL_CNT, .MBX_SUM, .MBX_CNT, .HTI_W_QFAULT, .HTI_W_MBSTS, .HTI_W_EVT, .HTI_CNT,
        .CTL_SES, .CTL_SES_CNT, .CTL_READY, .CTL_ADM_CNT] ⊆ F) (hs : Keeps F a s) :
    Keeps F a (sessRevive c x0 s) := by
  delta sessRevive
  extract_lets +onlyGivenNames -merge -lift -underBinder v1
  clear_value v1
  refine keeps_ite (fun _ => keeps_finish (Piece.sub hF (by decide +kernel)) hs) (fun _ => ?_)
  refine keeps_ite (fun _ => keeps_finish (Piece.sub hF (by decide +kernel)) hs) (fun _ => ?_)
  refine keeps_ite (fun _ => hs) (fun _ => ?_)
  refine keeps_ite (fun _ => keeps_finish (Piece.sub hF (by decide +kernel)) (keeps_bump hs ⟨rfl, hF (by decide +kernel)⟩)) (fun _ => ?_)
  extract_lets +onlyGivenNames -merge -lift -underBinder s2
  have h3 : Keeps F a s2 := by
    unfold s2
    exact keeps_ite (fun _ => keeps_admitInter (Piece.sub hF (by decide +kernel)) hs) (fun _ => hs)
  clear_value s2
  refine keeps_ite (fun _ => keeps_rebuildDone (Piece.sub hF (by decide +kernel)) (keeps_startRebuild (Piece.sub hF (by decide +kernel)) h3))
      (fun _ => ?_)
  refine keeps_ite (fun _ => keeps_rebuildDone (Piece.sub hF (by decide +kernel)) (keeps_flushGone (Piece.sub hF (by decide +kernel))
      (keeps_startRebuild (Piece.sub hF (by decide +kernel)) (keeps_dropFrom (Piece.sub hF (by decide +kernel)) h3)))) (fun _ => ?_)
  extract_lets +onlyGivenNames -merge -lift -underBinder s4
  have h5 : Keeps F a s4 := by
    unfold s4
    exact keeps_enter (Piece.sub hF (by decide +kernel)) h3
  clear_value s4
  exact keeps_foldl (fun s6 x7 h8 => keeps_wantUp (Piece.sub hF (by decide +kernel)) h8) h5

theorem keeps_execSessRevive {F : List Piece} {a : State} {k : ℕ} {s : State} (hF : [.hti, .mbx, .ses, .tier, .fleet, .pool, .ring, .TIER_OBJ,
    .TIER_CNT, .SHP_CTX_CNT, .SEC_CNT, .POOL_OBJ, .POOL_CNT, .MBX_SUM, .MBX_CNT, .HTI_W_QFAULT, .HTI_W_MBSTS, .HTI_W_EVT, .HTI_CNT, .CTL_SES,
        .CTL_SES_CNT, .CTL_READY, .CTL_ADM_CNT] ⊆ F) (hs : Keeps F a s) :
    KeepsO F a (execSessRevive k s) := by
  delta execSessRevive
  exact KeepsO.mk (keeps_begin (Piece.sub hF (by decide +kernel)) hs (fun y1 y2 h3 => keeps_onOwned (Piece.sub hF (by decide +kernel)) (fun y4 y5
      y6 h7 => keeps_sessRevive (Piece.sub hF (by decide +kernel)) h7) h3))

theorem keeps_sessRebuild {F : List Piece} {a : State} {c : Cmd} {x0 : Session} {s : State} (hF : [.hti, .ses, .tier, .fleet, .pool, .ring,
    .TIER_OBJ, .TIER_CNT, .SHP_CTX_CNT, .SEC_CNT, .POOL_OBJ, .POOL_CNT, .HTI_W_QFAULT, .HTI_CNT, .CTL_SES, .CTL_SES_CNT, .CTL_READY] ⊆ F) (hs :
        Keeps F a s) :
    Keeps F a (sessRebuild c x0 s) := by
  delta sessRebuild
  extract_lets +onlyGivenNames -merge -lift -underBinder v1 v2
  clear_value v1 v2
  refine keeps_ite (fun _ => keeps_finish (Piece.sub hF (by decide +kernel)) hs) (fun _ => ?_)
  extract_lets +onlyGivenNames -merge -lift -underBinder v3
  clear_value v3
  exact keeps_rebuildDone (Piece.sub hF (by decide +kernel)) (keeps_flushGone (Piece.sub hF (by decide +kernel)) (keeps_startRebuild (Piece.sub
      hF (by decide +kernel)) (keeps_dropFrom (Piece.sub hF (by decide +kernel)) hs)))

theorem keeps_execSessRebuild {F : List Piece} {a : State} {k : ℕ} {s : State} (hF : [.hti, .ses, .tier, .fleet, .pool, .ring, .TIER_OBJ,
    .TIER_CNT, .SHP_CTX_CNT, .SEC_CNT, .POOL_OBJ, .POOL_CNT, .HTI_W_QFAULT, .HTI_CNT, .CTL_SES, .CTL_SES_CNT, .CTL_READY] ⊆ F) (hs : Keeps F a s) :
    KeepsO F a (execSessRebuild k s) := by
  delta execSessRebuild
  exact KeepsO.mk (keeps_begin (Piece.sub hF (by decide +kernel)) hs (fun y1 y2 h3 => keeps_onOwned (Piece.sub hF (by decide +kernel)) (fun y4 y5
      y6 h7 => keeps_sessRebuild (Piece.sub hF (by decide +kernel)) h7) h3))

theorem keeps_destroyOne {F : List Piece} {a : State} {read : Option ℕ} {c : Cmd} {s : State} (hF : [.hti, .mbx, .ses, .tier, .gore, .attn, .pwr,
    .dec, .pool, .ring, .TXT_SLOT, .TIER_RSV, .TIER_OBJ, .TIER_CNT, .SHP_CTX_CNT, .SEC_CNT, .RING_CNT, .PWR_DROGUE, .PWR_CNT, .POOL_OBJ,
        .POOL_CNT, .MBX_SUM, .MBX_CNT, .HTI_W_QFAULT, .HTI_W_MBSTS, .HTI_W_EVT, .HTI_CNT, .GORE_TILE_CNT, .GORE_SHAPE, .GORE_PANEL, .GORE_CTX,
            .GORE_CTX_CNT, .GORE_CNT, .GORE_ATTN_CNT, .DEC_GRAM, .DEC_GAUGE, .DEC_CNT, .CTL_SES, .CTL_SES_CNT, .CTL_READY, .CTL_PM] ⊆ F) (hs :
                Keeps F a s) :
    Keeps F a (destroyOne read c s) := by
  delta destroyOne
  split
  · exact keeps_finish (Piece.sub hF (by decide +kernel)) hs
  · extract_lets +onlyGivenNames -merge -lift -underBinder v1
    clear_value v1
    exact keeps_ite (fun _ => keeps_finish (Piece.sub hF (by decide +kernel)) hs) (fun _ => keeps_ite (fun _ => keeps_finish (Piece.sub hF
        (by decide +kernel)) hs) (fun _ => keeps_winch (Piece.sub hF (by decide +kernel)) (keeps_finish (Piece.sub hF (by decide +kernel))
            (keeps_destroySess (Piece.sub hF (by decide +kernel)) hs))))

theorem keeps_execSessDestroy {F : List Piece} {a : State} {k : ℕ} {reads : List (Option ℕ)} {s : State} (hF : [.hti, .mbx, .ses, .tier, .gore,
    .attn, .pwr, .dec, .pool, .ring, .TXT_SLOT, .TIER_RSV, .TIER_OBJ, .TIER_CNT, .SHP_CTX_CNT, .SEC_CNT, .RING_CNT, .PWR_DROGUE, .PWR_CNT,
        .POOL_OBJ, .POOL_CNT, .MBX_SUM, .MBX_CNT, .HTI_W_QFAULT, .HTI_W_MBSTS, .HTI_W_EVT, .HTI_CNT, .GORE_TILE_CNT, .GORE_SHAPE, .GORE_PANEL,
            .GORE_CTX, .GORE_CTX_CNT, .GORE_CNT, .GORE_ATTN_CNT, .DEC_GRAM, .DEC_GAUGE, .DEC_CNT, .CTL_SES, .CTL_SES_CNT, .CTL_READY, .CTL_PM] ⊆
                F) (hs : Keeps F a s) :
    KeepsO F a (execSessDestroy k reads s) := by
  delta execSessDestroy
  exact KeepsO.mk (keeps_begin (Piece.sub hF (by decide +kernel)) hs (fun y1 y2 h3 => keeps_ite (fun _ => keeps_finish (Piece.sub hF
      (by decide +kernel)) h3) (fun _ => keeps_ite (fun _ => keeps_destroyAll (Piece.sub hF (by decide +kernel)) h3) (fun _ => keeps_destroyOne
          (Piece.sub hF (by decide +kernel)) h3))))

theorem keeps_tetherQuery {F : List Piece} {a : State} {c : Cmd} {s : State} (hF : [.hti, .ring, .SHP_CTX_CNT, .SEC_CNT, .HTI_W_QFAULT, .HTI_CNT]
    ⊆ F) (hs : Keeps F a s) :
    Keeps F a (tetherQuery c s) := by
  delta tetherQuery
  split
  · exact keeps_finish (Piece.sub hF (by decide +kernel)) hs
  · exact keeps_finish (Piece.sub hF (by decide +kernel)) hs

theorem keeps_execSessTetherQuery {F : List Piece} {a : State} {k : ℕ} {s : State} (hF : [.hti, .ring, .SHP_CTX_CNT, .SEC_CNT, .HTI_W_QFAULT,
    .HTI_CNT] ⊆ F) (hs : Keeps F a s) :
    KeepsO F a (execSessTetherQuery k s) := by
  delta execSessTetherQuery
  exact KeepsO.mk (keeps_begin (Piece.sub hF (by decide +kernel)) hs (fun y1 y2 h3 => keeps_tetherQuery (Piece.sub hF (by decide +kernel)) h3))

theorem keeps_sessShip {F : List Piece} {a : State} {c : Cmd} {x0 : Session} {s : State} (hF : [.hti, .ses, .fleet, .ring, .SHP_CTX_CNT,
    .SEC_CNT, .RING_CNT, .HTI_W_QFAULT, .HTI_CNT, .CTL_SES] ⊆ F) (hs : Keeps F a s) :
    Keeps F a (sessShip c x0 s) := by
  delta sessShip
  extract_lets +onlyGivenNames -merge -lift -underBinder v1 v2 v3
  clear_value v1 v2 v3
  refine keeps_ite (fun _ => keeps_finish (Piece.sub hF (by decide +kernel)) hs) (fun _ => ?_)
  refine keeps_ite (fun _ => keeps_finish (Piece.sub hF (by decide +kernel)) hs) (fun _ => ?_)
  split
  · exact keeps_finish (Piece.sub hF (by decide +kernel)) hs
  · exact keeps_startShip (Piece.sub hF (by decide +kernel)) hs

theorem keeps_execSessShip {F : List Piece} {a : State} {k : ℕ} {s : State} (hF : [.hti, .ses, .fleet, .ring, .SHP_CTX_CNT, .SEC_CNT, .RING_CNT,
    .HTI_W_QFAULT, .HTI_CNT, .CTL_SES] ⊆ F) (hs : Keeps F a s) :
    KeepsO F a (execSessShip k s) := by
  delta execSessShip
  exact KeepsO.mk (keeps_begin (Piece.sub hF (by decide +kernel)) hs (fun y1 y2 h3 => keeps_onOwned (Piece.sub hF (by decide +kernel)) (fun y4 y5
      y6 h7 => keeps_sessShip (Piece.sub hF (by decide +kernel)) h7) h3))

theorem keeps_execCtlSesCntClr {F : List Piece} {a : State} {value : ℕ} {s : State} (hF : [.CTL_SES_CNT] ⊆ F) (hs : Keeps F a s) :
    KeepsO F a (execCtlSesCntClr value s) := by
  delta execCtlSesCntClr
  exact KeepsO.mk (keeps_ite (fun _ => keeps_hostWrite hs (fun y1 h2 => keeps_zeroAll h2 ⟨rfl, hF (by decide +kernel)⟩)) (fun _ => hs))

theorem keeps_execIdleParkExpiry {F : List Piece} {a : State} {dt handle : ℕ} {s : State} (hF : [.hti, .mbx, .ses, .tier, .fleet, .pool, .ring,
    .TIER_STALL, .TIER_OBJ, .TIER_DRV, .TIER_CNT, .SHP_CTX_CNT, .SEC_CNT, .RING_PORT_CNT, .PWR_CNT, .POOL_OBJ, .POOL_CNT, .MTR_LIVE, .MBX_SUM,
        .MBX_CNT, .HTI_W_QFAULT, .HTI_W_MBSTS, .HTI_W_EVT, .HTI_TIME, .HTI_CNT, .GORE_CTX_CNT, .GORE_CLASS, .CTL_SES, .CTL_SES_CNT, .CTL_RT,
            .CTL_RST_CNT, .CTL_READY, .CTL_PIN_CNT] ⊆ F) (hs : Keeps F a s) :
    KeepsO F a (execIdleParkExpiry dt handle s) := by
  delta execIdleParkExpiry
  exact KeepsO.mk (keeps_idlePark (Piece.sub hF (by decide +kernel)) (keeps_pass (Piece.sub hF (by decide +kernel)) hs))

theorem keeps_execSessQuery {F : List Piece} {a : State} {k : ℕ} {wrote : Bool} {s : State} (hF : [.hti, .ring, .SHP_CTX_CNT, .SEC_CNT,
    .HTI_W_QFAULT, .HTI_CNT] ⊆ F) (hs : Keeps F a s) :
    KeepsO F a (execSessQuery k wrote s) := by
  delta execSessQuery
  exact KeepsO.mk (keeps_begin (Piece.sub hF (by decide +kernel)) hs (fun y1 y2 h3 => keeps_sessQuery (Piece.sub hF (by decide +kernel)) h3))

theorem keeps_execSessDeflate {F : List Piece} {a : State} {k : ℕ} {s : State} (hF : [.hti, .ses, .tier, .fleet, .pool, .ring, .TIER_OBJ,
    .TIER_CNT, .SHP_CTX_CNT, .SEC_CNT, .POOL_OBJ, .POOL_CNT, .HTI_W_QFAULT, .HTI_CNT, .CTL_SES, .CTL_READY] ⊆ F) (hs : Keeps F a s) :
    KeepsO F a (execSessDeflate k s) := by
  delta execSessDeflate
  exact KeepsO.mk (keeps_begin (Piece.sub hF (by decide +kernel)) hs (fun y1 y2 h3 => keeps_onOwned (Piece.sub hF (by decide +kernel)) (fun y4 y5
      y6 h7 => keeps_sessDeflate (Piece.sub hF (by decide +kernel)) h7) h3))

/-! ### Tether -/

theorem keeps_ownerNote {F : List Piece} {a s : State} {x0 : Session} {n : SessNote} (hF : [.hti, .ses, .tier, .gore, .attn, .dec, .ring,
    .TIER_RSV, .SHP_CTX_CNT, .SEC_CNT, .RING_CNT, .HTI_W_QFAULT, .HTI_CNT, .GORE_TILE_CNT, .GORE_ATTN_CNT] ⊆ F) (hs : Keeps F a s) :
    Keeps F a (State.ownerNote s x0 n) := by
  delta State.ownerNote
  extract_lets +onlyGivenNames -merge -lift -underBinder v1 v2 v3
  clear_value v1 v2 v3
  extract_lets +onlyGivenNames -merge -lift -underBinder s4
  have h5 : Keeps F a s4 := by
    unfold s4
    exact keeps_setSess (Piece.sub hF (by decide +kernel)) hs
  clear_value s4
  exact keeps_ite (fun _ => keeps_resend (Piece.sub hF (by decide +kernel)) (keeps_ackUpTo (Piece.sub hF (by decide +kernel)) h5)) (fun _ => h5)

theorem keeps_roleNotice {F : List Piece} {a : State} {src h : ℕ} {note : Option SessNote} {s : State} (hF : [.hti, .ses, .tier, .gore, .attn,
    .dec, .pool, .ring, .TIER_RSV, .TIER_OBJ, .SHP_CTX_CNT, .SEC_CNT, .RING_CNT, .POOL_OBJ, .POOL_CNT, .HTI_W_QFAULT, .HTI_CNT, .GORE_TILE_CNT,
        .GORE_SHAPE, .GORE_ATTN_CNT, .CTL_SES, .CTL_READY] ⊆ F) (hs : Keeps F a s) :
    Keeps F a (roleNotice src h note s) := by
  delta roleNotice
  split
  · split
    · exact keeps_ite (fun _ => hs) (fun _ => keeps_freeSess (Piece.sub hF (by decide +kernel)) hs)
    · exact hs
  · extract_lets +onlyGivenNames -merge -lift -underBinder s1
    have h2 : Keeps F a s1 := by
      unfold s1
      exact keeps_takeDesc (Piece.sub hF (by decide +kernel)) hs
    clear_value s1
    split
    · exact h2
    · refine keeps_ite (fun _ => h2) (fun _ => ?_)
      refine keeps_ite (fun _ => keeps_ite (fun _ => keeps_ownerNote (Piece.sub hF (by decide +kernel)) h2) (fun _ => h2)) (fun _ => ?_)
      refine keeps_ite (fun _ => keeps_ite (fun _ => keeps_setSess (Piece.sub hF (by decide +kernel)) h2) (fun _ => h2)) (fun _ => ?_)
      extract_lets +onlyGivenNames -merge -lift -underBinder v3
      clear_value v3
      exact keeps_setSess (Piece.sub hF (by decide +kernel)) h2

theorem keeps_execShipAcceptReceived {F : List Piece} {a : State} {handle epoch sender receiver : ℕ} {torn : Option TornFound} {s : State} (hF :
    [.hti, .mbx, .ses, .tier, .fleet, .pool, .ring, .TIER_OBJ, .TIER_CNT, .SHP_CTX_CNT, .SEC_CNT, .RING_EVAC, .RING_CNT, .POOL_OBJ, .POOL_CNT,
        .MBX_SUM, .MBX_CNT, .HTI_W_QFAULT, .HTI_W_MBSTS, .HTI_W_FLT, .HTI_W_EVT, .HTI_CNT, .GORE_TILE, .GORE_TILE_CNT, .CTL_SES, .CTL_SES_CNT,
            .CTL_READY] ⊆ F) (hs : Keeps F a s) :
    KeepsO F a (execShipAcceptReceived handle epoch sender receiver torn s) := by
  delta execShipAcceptReceived
  refine KeepsO.mk ?_
  refine keeps_pump (Piece.sub hF (by decide +kernel)) ?_
  split
  · refine keeps_ite (fun _ => hs) (fun _ => ?_)
    split
    · exact keeps_sendTorn (Piece.sub hF (by decide +kernel)) hs
    · exact keeps_shipStream (Piece.sub hF (by decide +kernel)) hs
  · exact hs

theorem keeps_execMirrorResendPeriod {F : List Piece} {a : State} {dt handle : ℕ} {s : State} (hF : [.ses, .fleet, .ring, .TIER_STALL,
    .SHP_CTX_CNT, .RING_PORT_CNT, .RING_CNT, .PWR_CNT, .MTR_LIVE, .HTI_TIME, .HTI_CNT, .GORE_CTX_CNT, .GORE_CLASS, .CTL_RT, .CTL_RST_CNT,
        .CTL_PIN_CNT] ⊆ F) (hs : Keeps F a s) :
    KeepsO F a (execMirrorResendPeriod dt handle s) := by
  delta execMirrorResendPeriod
  refine KeepsO.mk ?_
  extract_lets +onlyGivenNames -merge -lift -underBinder s1
  have h2 : Keeps F a s1 := by
    unfold s1
    exact keeps_pass (Piece.sub hF (by decide +kernel)) hs
  clear_value s1
  split
  · exact keeps_ite (fun _ => keeps_resend (Piece.sub hF (by decide +kernel)) h2) (fun _ => h2)
  · exact h2

theorem keeps_commitReq {F : List Piece} {a : State} {h epoch sender receiver : ℕ} {again : Bool} {s : State} (hF : [.hti, .mbx, .ses, .tier,
    .gore, .attn, .fleet, .dec, .pool, .ring, .TIER_RSV, .TIER_OBJ, .SHP_CTX_CNT, .SEC_CNT, .RING_CNT, .POOL_OBJ, .POOL_CNT, .MBX_SUM, .MBX_CNT,
        .HTI_W_QFAULT, .HTI_W_MBSTS, .HTI_W_EVT, .HTI_CNT, .GORE_TILE_CNT, .GORE_ATTN_CNT, .CTL_SES, .CTL_SES_CNT, .CTL_READY] ⊆ F) (hs : Keeps F
            a s) :
    Keeps F a (commitReq h epoch sender receiver again s) := by
  delta commitReq
  split
  · exact hs
  · refine keeps_ite (fun _ => hs) (fun _ => ?_)
    refine keeps_ite (fun _ => keeps_sendAcks (Piece.sub hF (by decide +kernel)) hs) (fun _ => ?_)
    split
    · exact keeps_ite (fun _ => hs) (fun _ => keeps_sendNaks (Piece.sub hF (by decide +kernel)) hs)
    · exact keeps_ite (fun _ => hs) (fun _ => keeps_ite (fun _ => keeps_propose (Piece.sub hF (by decide +kernel)) hs) (fun _ => keeps_sendNaks
          (Piece.sub hF (by decide +kernel)) hs))

theorem keeps_abortIn {F : List Piece} {a s : State} {x0 : Session} {t : Xfer} {reason index kind : ℕ} (hF : [.ses, .tier, .fleet, .pool, .ring,
    .TIER_OBJ, .RING_CNT, .POOL_OBJ, .POOL_CNT, .GORE_SHAPE, .CTL_SES, .CTL_READY] ⊆ F) (hs : Keeps F a s) :
    Keeps F a (State.abortIn s x0 t reason index kind) := by
  delta State.abortIn
  exact keeps_discardIncoming (Piece.sub hF (by decide +kernel)) (keeps_send (Piece.sub hF (by decide +kernel)) hs)

theorem keeps_shipTile {F : List Piece} {a : State} {x0 : Session} {t : Xfer} {index key : ℕ} {q : Tile} {s : State} (hF : [.ses, .tier, .fleet,
    .pool, .ring, .TIER_OBJ, .RING_CNT, .POOL_OBJ, .POOL_CNT, .GORE_TILE_CNT, .GORE_SHAPE, .CTL_SES, .CTL_READY] ⊆ F) (hs : Keeps F a s) :
    Keeps F a (shipTile x0 t index key q s) := by
  delta shipTile
  extract_lets +onlyGivenNames -merge -lift -underBinder v1 v2
  clear_value v1 v2
  refine keeps_ite (fun _ => hs) (fun _ => ?_)
  split
  · exact keeps_ite (fun _ => keeps_abortIn (Piece.sub hF (by decide +kernel)) hs) (fun _ => keeps_send (Piece.sub hF (by decide +kernel))
        (keeps_updXfer (Piece.sub hF (by decide +kernel)) hs))
  · refine keeps_ite (fun _ => keeps_abortIn (Piece.sub hF (by decide +kernel)) hs) (fun _ => ?_)
    refine keeps_ite (fun _ => hs) (fun _ => ?_)
    extract_lets +onlyGivenNames -merge -lift -underBinder s3
    have h4 : Keeps F a s3 := by
      unfold s3
      exact keeps_ite (fun _ => keeps_bump hs ⟨rfl, hF (by decide +kernel)⟩) (fun _ => hs)
    clear_value s3
    exact keeps_checkAll (Piece.sub hF (by decide +kernel)) (keeps_updXfer (Piece.sub hF (by decide +kernel)) (keeps_placeTile (Piece.sub hF
        (by decide +kernel)) h4))

theorem keeps_shipFrame {F : List Piece} {a : State} {h epoch sender receiver : ℕ} {f : ShipFrame} {s : State} (hF : [.ses, .tier, .fleet, .pool,
    .ring, .TIER_OBJ, .RING_CNT, .POOL_OBJ, .POOL_CNT, .GORE_TILE_CNT, .GORE_SHAPE, .CTL_SES, .CTL_READY] ⊆ F) (hs : Keeps F a s) :
    Keeps F a (shipFrame h epoch sender receiver f s) := by
  delta shipFrame
  split
  · exact hs
  · refine keeps_ite (fun _ => hs) (fun _ => ?_)
    split
    · exact keeps_shipTile (Piece.sub hF (by decide +kernel)) hs
    · extract_lets +onlyGivenNames -merge -lift -underBinder v1
      clear_value v1
      extract_lets +onlyGivenNames -merge -lift -underBinder s2
      have h3 : Keeps F a s2 := by
        unfold s2
        exact keeps_setSess (Piece.sub hF (by decide +kernel)) hs
      clear_value s2
      exact keeps_checkAll (Piece.sub hF (by decide +kernel)) (keeps_writeSpool (Piece.sub hF (by decide +kernel)) h3)

theorem keeps_endResolves {F : List Piece} {a s : State} {h epoch owner : ℕ} {present inheritor : Bool} {act : ℕ} (hF : [.hti, .ring,
    .SHP_CTX_CNT, .SEC_CNT, .HTI_W_QFAULT, .HTI_CNT] ⊆ F) (hs : Keeps F a s) :
    Keeps F a (State.endResolves s h epoch owner present inheritor act) := by
  delta State.endResolves
  exact keeps_foldl (fun s1 x2 h3 => keeps_finish (Piece.sub hF (by decide +kernel)) h3) hs

theorem keeps_mirrorTimeout {F : List Piece} {a : State} {h : ℕ} {s : State} (hF : [.hti, .mbx, .ses, .tier, .gore, .attn, .dec, .ring,
    .TIER_RSV, .SHP_CTX_CNT, .SEC_CNT, .MBX_SUM, .MBX_CNT, .HTI_W_QFAULT, .HTI_W_MBSTS, .HTI_W_EVT, .HTI_CNT, .GORE_TILE_CNT, .GORE_ATTN_CNT,
        .CTL_SES_CNT] ⊆ F) (hs : Keeps F a s) :
    Keeps F a (mirrorTimeout h s) := by
  delta mirrorTimeout
  split
  · exact hs
  · refine keeps_ite (fun _ => ?_) (fun _ => hs)
    extract_lets +onlyGivenNames -merge -lift -underBinder s1
    have h2 : Keeps F a s1 := by
      unfold s1
      exact keeps_setSess (Piece.sub hF (by decide +kernel)) hs
    clear_value s1
    extract_lets +onlyGivenNames -merge -lift -underBinder s3
    have h4 : Keeps F a s3 := by
      unfold s3
      exact keeps_ite (fun _ => h2) (fun _ => keeps_event (Piece.sub hF (by decide +kernel)) (keeps_bump h2 ⟨rfl, hF (by decide +kernel)⟩))
    clear_value s3
    exact keeps_ackUpTo (Piece.sub hF (by decide +kernel)) h4

theorem keeps_execMirrorAckTimeout {F : List Piece} {a : State} {dt handle : ℕ} {s : State} (hF : [.hti, .mbx, .ses, .tier, .gore, .attn, .fleet,
    .dec, .ring, .TIER_STALL, .TIER_RSV, .SHP_CTX_CNT, .SEC_CNT, .RING_PORT_CNT, .PWR_CNT, .MTR_LIVE, .MBX_SUM, .MBX_CNT, .HTI_W_QFAULT,
        .HTI_W_MBSTS, .HTI_W_EVT, .HTI_TIME, .HTI_CNT, .GORE_TILE_CNT, .GORE_CTX_CNT, .GORE_CLASS, .GORE_ATTN_CNT, .CTL_SES_CNT, .CTL_RT,
            .CTL_RST_CNT, .CTL_PIN_CNT] ⊆ F) (hs : Keeps F a s) :
    KeepsO F a (execMirrorAckTimeout dt handle s) := by
  delta execMirrorAckTimeout
  exact KeepsO.mk (keeps_mirrorTimeout (Piece.sub hF (by decide +kernel)) (keeps_pass (Piece.sub hF (by decide +kernel)) hs))

theorem keeps_execShipFrameReceived {F : List Piece} {a : State} {handle epoch sender receiver : ℕ} {frame : ShipFrame} {s : State} (hF : [.ses,
    .tier, .fleet, .pool, .ring, .TIER_OBJ, .RING_CNT, .POOL_OBJ, .POOL_CNT, .GORE_TILE_CNT, .GORE_SHAPE, .CTL_SES, .CTL_READY] ⊆ F) (hs : Keeps
        F a s) :
    KeepsO F a (execShipFrameReceived handle epoch sender receiver frame s) := by
  delta execShipFrameReceived
  exact KeepsO.mk (keeps_shipFrame (Piece.sub hF (by decide +kernel)) hs)

theorem keeps_shipResolve {F : List Piece} {a : State} {h : ℕ} {s : State} (hF : [.hti, .ses, .ring, .SHP_CTX_CNT, .SEC_CNT, .HTI_W_QFAULT,
    .HTI_CNT] ⊆ F) (hs : Keeps F a s) :
    Keeps F a (shipResolve h s) := by
  delta shipResolve
  split
  · exact hs
  · split
    · exact hs
    · exact keeps_ite (fun _ => keeps_finish (Piece.sub hF (by decide +kernel)) (keeps_updXfer (Piece.sub hF (by decide +kernel)) hs)) (fun _ => hs)

theorem keeps_execShipResolveTimeout {F : List Piece} {a : State} {dt handle : ℕ} {s : State} (hF : [.hti, .ses, .fleet, .ring, .TIER_STALL,
    .SHP_CTX_CNT, .SEC_CNT, .RING_PORT_CNT, .PWR_CNT, .MTR_LIVE, .HTI_W_QFAULT, .HTI_TIME, .HTI_CNT, .GORE_CTX_CNT, .GORE_CLASS, .CTL_RT,
        .CTL_RST_CNT, .CTL_PIN_CNT] ⊆ F) (hs : Keeps F a s) :
    KeepsO F a (execShipResolveTimeout dt handle s) := by
  delta execShipResolveTimeout
  exact KeepsO.mk (keeps_shipResolve (Piece.sub hF (by decide +kernel)) (keeps_pass (Piece.sub hF (by decide +kernel)) hs))

theorem keeps_commitNak {F : List Piece} {a : State} {h offered sender receiver epoch owner : ℕ} {s : State} (hF : [.hti, .mbx, .ses, .tier,
    .fleet, .dec, .pool, .ring, .TXT_SLOT, .TIER_OBJ, .SHP_CTX_CNT, .SEC_CNT, .POOL_OBJ, .POOL_CNT, .MBX_SUM, .MBX_CNT, .HTI_W_QFAULT,
        .HTI_W_MBSTS, .HTI_W_EVT, .HTI_CNT, .GORE_SHAPE, .DEC_GRAM, .DEC_GAUGE, .CTL_SES, .CTL_SES_CNT, .CTL_READY] ⊆ F) (hs : Keeps F a s) :
    Keeps F a (commitNak h offered sender receiver epoch owner s) := by
  delta commitNak
  split
  · exact hs
  · split
    · exact hs
    · exact keeps_ite (fun _ => hs) (fun _ => keeps_ite (fun _ => keeps_ite (fun _ => hs) (fun _ => keeps_discardIncoming (Piece.sub hF
          (by decide +kernel)) (keeps_setSess (Piece.sub hF (by decide +kernel)) hs))) (fun _ => keeps_ite (fun _ => keeps_shipFail (Piece.sub hF
              (by decide +kernel)) (keeps_setSess (Piece.sub hF (by decide +kernel)) hs)) (fun _ => keeps_shipTaken (Piece.sub hF
                  (by decide +kernel)) hs)))

theorem keeps_execCommitNakReceived {F : List Piece} {a : State} {handle offered sender receiver epoch owner : ℕ} {s : State} (hF : [.hti, .mbx,
    .ses, .tier, .fleet, .dec, .pool, .ring, .TXT_SLOT, .TIER_OBJ, .TIER_CNT, .SHP_CTX_CNT, .SEC_CNT, .RING_EVAC, .RING_CNT, .POOL_OBJ,
        .POOL_CNT, .MBX_SUM, .MBX_CNT, .HTI_W_QFAULT, .HTI_W_MBSTS, .HTI_W_EVT, .HTI_CNT, .GORE_SHAPE, .DEC_GRAM, .DEC_GAUGE, .CTL_SES,
            .CTL_SES_CNT, .CTL_READY] ⊆ F) (hs : Keeps F a s) :
    KeepsO F a (execCommitNakReceived handle offered sender receiver epoch owner s) := by
  delta execCommitNakReceived
  exact KeepsO.mk (keeps_pump (Piece.sub hF (by decide +kernel)) (keeps_commitNak (Piece.sub hF (by decide +kernel)) hs))

theorem keeps_storeSpool {F : List Piece} {a s : State} {x0 : Session} {first kvLen : ℕ} {es : List (ℕ × ℕ × ℕ)} {seeds : List (ℕ × ℕ)} (hF :
    [.ses, .tier] ⊆ F) (hs : Keeps F a s) :
    Keeps F a (State.storeSpool s x0 first kvLen es seeds) := by
  delta State.storeSpool
  extract_lets +onlyGivenNames -merge -lift -underBinder v1 v2
  clear_value v1 v2
  exact keeps_writeSpool (Piece.sub hF (by decide +kernel)) (keeps_setSess (Piece.sub hF (by decide +kernel)) hs)

theorem keeps_gatherDone {F : List Piece} {a : State} {h kvLen : ℕ} {es : List (ℕ × ℕ × ℕ)} {seeds : List (ℕ × ℕ)} {s : State} (hF : [.mbx, .ses,
    .tier, .fleet, .MBX_SUM, .MBX_CNT, .HTI_W_MBSTS, .HTI_W_EVT, .HTI_CNT, .CTL_SES, .CTL_SES_CNT] ⊆ F) (hs : Keeps F a s) :
    Keeps F a (gatherDone h kvLen es seeds s) := by
  delta gatherDone
  split
  · exact hs
  · refine keeps_ite (fun _ => hs) (fun _ => ?_)
    extract_lets +onlyGivenNames -merge -lift -underBinder v1
    clear_value v1
    extract_lets +onlyGivenNames -merge -lift -underBinder s2
    have h3 : Keeps F a s2 := by
      unfold s2
      exact keeps_storeSpool (Piece.sub hF (by decide +kernel)) (keeps_setSess (Piece.sub hF (by decide +kernel)) hs)
    clear_value s2
    exact keeps_ite (fun _ => keeps_orphanGo (Piece.sub hF (by decide +kernel)) h3) (fun _ => h3)

theorem keeps_execSpoolGatherDone {F : List Piece} {a : State} {handle kvLen : ℕ} {entries : List (ℕ × ℕ × ℕ)} {seeds : List (ℕ × ℕ)} {s : State}
    (hF : [.mbx, .ses, .tier, .fleet, .MBX_SUM, .MBX_CNT, .HTI_W_MBSTS, .HTI_W_EVT, .HTI_CNT, .CTL_SES, .CTL_SES_CNT] ⊆ F) (hs : Keeps F a s) :
    KeepsO F a (execSpoolGatherDone handle kvLen entries seeds s) := by
  delta execSpoolGatherDone
  exact KeepsO.mk (keeps_gatherDone (Piece.sub hF (by decide +kernel)) hs)

theorem keeps_shipAborted {F : List Piece} {a : State} {h epoch sender receiver reason index kind : ℕ} {s : State} (hF : [.hti, .mbx, .ses,
    .tier, .fleet, .pool, .ring, .TIER_OBJ, .SHP_CTX_CNT, .SEC_CNT, .POOL_OBJ, .POOL_CNT, .MBX_SUM, .MBX_CNT, .HTI_W_QFAULT, .HTI_W_MBSTS,
        .HTI_W_FLT, .HTI_W_EVT, .HTI_CNT, .GORE_TILE, .GORE_TILE_CNT, .GORE_SHAPE, .CTL_SES, .CTL_SES_CNT, .CTL_READY] ⊆ F) (hs : Keeps F a s) :
    Keeps F a (shipAborted h epoch sender receiver reason index kind s) := by
  delta shipAborted
  split
  · exact keeps_ite (fun _ => keeps_discardIncoming (Piece.sub hF (by decide +kernel)) hs) (fun _ => hs)
  · split
    · exact hs
    · exact keeps_ite (fun _ => keeps_shipTorn (Piece.sub hF (by decide +kernel)) hs) (fun _ => keeps_shipFail (Piece.sub hF (by decide +kernel)) hs)

theorem keeps_execShipAbortReceived {F : List Piece} {a : State} {handle epoch sender receiver reason index kind : ℕ} {s : State} (hF : [.hti,
    .mbx, .ses, .tier, .fleet, .pool, .ring, .TIER_OBJ, .TIER_CNT, .SHP_CTX_CNT, .SEC_CNT, .RING_EVAC, .RING_CNT, .POOL_OBJ, .POOL_CNT, .MBX_SUM,
        .MBX_CNT, .HTI_W_QFAULT, .HTI_W_MBSTS, .HTI_W_FLT, .HTI_W_EVT, .HTI_CNT, .GORE_TILE, .GORE_TILE_CNT, .GORE_SHAPE, .CTL_SES, .CTL_SES_CNT,
            .CTL_READY] ⊆ F) (hs : Keeps F a s) :
    KeepsO F a (execShipAbortReceived handle epoch sender receiver reason index kind s) := by
  delta execShipAbortReceived
  exact KeepsO.mk (keeps_pump (Piece.sub hF (by decide +kernel)) (keeps_shipAborted (Piece.sub hF (by decide +kernel)) hs))

theorem keeps_retry {F : List Piece} {a s : State} {h : ℕ} (hF : [.ses, .CTL_SES_CNT] ⊆ F) (hs : Keeps F a s) :
    Keeps F a (State.retry s h) := by
  delta State.retry
  exact keeps_bump (keeps_updXfer (Piece.sub hF (by decide +kernel)) hs) ⟨rfl, hF (by decide +kernel)⟩

theorem keeps_shipOffer {F : List Piece} {a : State} {h epoch sender receiver ret tiles bytes spoolLen kvLen shape : ℕ} {geom : List ℕ} {inter
    evac : Bool} {s : State} (hF : [.ses, .fleet, .ring, .RING_CNT, .GORE_SHAPE, .CTL_SES, .CTL_ADM_CNT] ⊆ F) (hs : Keeps F a s) :
    Keeps F a (shipOffer h epoch sender receiver ret tiles bytes spoolLen kvLen shape geom inter evac s) := by
  delta shipOffer
  extract_lets +onlyGivenNames -merge -lift -underBinder f12
  unfold f12
  beta_reduce
  extract_lets +onlyGivenNames -merge -lift -underBinder v1 v2 v3
  clear_value v1 v2 v3
  refine keeps_ite (fun _ => hs) (fun _ => ?_)
  refine keeps_ite (fun _ => keeps_send (Piece.sub hF (by decide +kernel)) hs) (fun _ => ?_)
  refine keeps_ite (fun _ => keeps_send (Piece.sub hF (by decide +kernel)) hs) (fun _ => ?_)
  refine keeps_ite (fun _ => keeps_send (Piece.sub hF (by decide +kernel)) hs) (fun _ => ?_)
  refine keeps_ite (fun _ => keeps_send (Piece.sub hF (by decide +kernel)) hs) (fun _ => ?_)
  refine keeps_ite (fun _ => keeps_send (Piece.sub hF (by decide +kernel)) hs) (fun _ => ?_)
  refine keeps_ite (fun _ => keeps_send (Piece.sub hF (by decide +kernel)) hs) (fun _ => ?_)
  refine keeps_ite (fun _ => keeps_send (Piece.sub hF (by decide +kernel)) (keeps_bump hs ⟨rfl, hF (by decide +kernel)⟩)) (fun _ => ?_)
  refine keeps_ite (fun _ => keeps_send (Piece.sub hF (by decide +kernel)) hs) (fun _ => ?_)
  extract_lets +onlyGivenNames -merge -lift -underBinder s4
  have h5 : Keeps F a s4 := by
    unfold s4
    exact keeps_takeDesc (Piece.sub hF (by decide +kernel)) hs
  clear_value s4
  extract_lets +onlyGivenNames -merge -lift -underBinder v6
  clear_value v6
  extract_lets +onlyGivenNames -merge -lift -underBinder s7
  have h8 : Keeps F a s7 := by
    unfold s7
    exact keeps_updSess (Piece.sub hF (by decide +kernel)) h5
  clear_value s7
  extract_lets +onlyGivenNames -merge -lift -underBinder s9
  have h10 : Keeps F a s9 := by
    unfold s9
    exact keeps_refreshShape (Piece.sub hF (by decide +kernel)) (keeps_enter (Piece.sub hF (by decide +kernel)) h8)
  clear_value s9
  extract_lets +onlyGivenNames -merge -lift -underBinder v11
  clear_value v11
  exact keeps_send (Piece.sub hF (by decide +kernel)) h10

theorem keeps_tetherRecord {F : List Piece} {a : State} {h epoch owner : ℕ} {present inheritor : Bool} {read : Option ℕ} {s : State} (hF : [.hti,
    .mbx, .ses, .tier, .gore, .attn, .fab, .fleet, .dec, .pool, .ring, .TXT_SLOT, .TIER_RSV, .TIER_OBJ, .SHP_CTX_CNT, .SEC_CNT, .RING_CNT,
        .POOL_OBJ, .POOL_CNT, .MBX_SUM, .MBX_CNT, .HTI_W_QFAULT, .HTI_W_MBSTS, .HTI_W_EVT, .HTI_CNT, .GORE_TILE_CNT, .GORE_SHAPE, .GORE_ATTN_CNT,
            .DEC_GRAM, .DEC_GAUGE, .DEC_CNT, .CTL_SES, .CTL_SES_CNT, .CTL_READY, .CTL_ADM_CNT] ⊆ F) (hs : Keeps F a s) :
    Keeps F a (tetherRecord h epoch owner present inheritor read s) := by
  delta tetherRecord
  split
  · exact keeps_endResolves (Piece.sub hF (by decide +kernel)) hs
  · extract_lets +onlyGivenNames -merge -lift -underBinder p1
    have h2 : KeepsP F a p1 := by
      unfold p1
      split
      · exact keeps_reconcile (Piece.sub hF (by decide +kernel)) hs
      · exact keepsP_ite (fun _ => keepsP_ite (fun _ => KeepsP.mk (keeps_arrive (Piece.sub hF (by decide +kernel)) hs)) (fun _ => keepsP_ite (fun
            _ => KeepsP.mk hs) (fun _ => KeepsP.mk (keeps_discardIncoming (Piece.sub hF (by decide +kernel)) (keeps_setSess (Piece.sub hF
                (by decide +kernel)) hs))))) (fun _ => keepsP_ite (fun _ => KeepsP.mk (keeps_shipped (Piece.sub hF (by decide +kernel)) hs)) (fun
                    _ => keepsP_ite (fun _ => keepsP_ite (fun _ => KeepsP.mk hs) (fun _ => keepsP_ite (fun _ => KeepsP.mk (keeps_shipFail
                        (Piece.sub hF (by decide +kernel)) hs)) (fun _ => KeepsP.mk (keeps_shipFail (Piece.sub hF (by decide +kernel)) hs))))
                            (fun _ => KeepsP.mk (keeps_shipTaken (Piece.sub hF (by decide +kernel)) hs))))
    clear_value p1
    exact keeps_endResolves (Piece.sub hF (by decide +kernel)) (KeepsP.proj h2)

theorem keeps_replicateAck {F : List Piece} {a : State} {h epoch sender owner : ℕ} {s : State} (hF : [.hti, .mbx, .ses, .tier, .gore, .attn,
    .fleet, .dec, .pool, .ring, .TIER_RSV, .TIER_OBJ, .SHP_CTX_CNT, .SEC_CNT, .RING_CNT, .POOL_OBJ, .POOL_CNT, .MBX_SUM, .MBX_CNT, .HTI_W_QFAULT,
        .HTI_W_MBSTS, .HTI_W_EVT, .HTI_CNT, .GORE_TILE_CNT, .GORE_ATTN_CNT, .CTL_SES, .CTL_SES_CNT, .CTL_READY] ⊆ F) (hs : Keeps F a s) :
    Keeps F a (replicateAck h epoch sender owner s) := by
  delta replicateAck
  split
  · exact hs
  · extract_lets +onlyGivenNames -merge -lift -underBinder v1
    clear_value v1
    extract_lets +onlyGivenNames -merge -lift -underBinder s2
    have h3 : Keeps F a s2 := by
      unfold s2
      exact keeps_setSess (Piece.sub hF (by decide +kernel)) hs
    clear_value s2
    extract_lets +onlyGivenNames -merge -lift -underBinder s4
    have h5 : Keeps F a s4 := by
      unfold s4
      exact keeps_ite (fun _ => keeps_ite (fun _ => h3) (fun _ => keeps_sendNote (Piece.sub hF (by decide +kernel)) h3)) (fun _ => hs)
    clear_value s4
    split
    · exact keeps_ite (fun _ => keeps_commitProp (Piece.sub hF (by decide +kernel)) h5) (fun _ => h5)
    · exact h5

theorem keeps_askHome {F : List Piece} {a s : State} {x0 : Session} (hF : [.ring, .RING_CNT] ⊆ F) (hs : Keeps F a s) :
    Keeps F a (State.askHome s x0) := by
  delta State.askHome
  exact keeps_send (Piece.sub hF (by decide +kernel)) hs

theorem keeps_xferTimeout {F : List Piece} {a : State} {x0 : Session} {t : Xfer} {s : State} (hF : [.ses, .ring, .RING_CNT, .CTL_SES_CNT] ⊆ F)
    (hs : Keeps F a s) :
    Keeps F a (xferTimeout x0 t s) := by
  delta xferTimeout
  extract_lets +onlyGivenNames -merge -lift -underBinder v1 v2
  clear_value v1 v2
  extract_lets +onlyGivenNames -merge -lift -underBinder s3
  have h4 : Keeps F a s3 := by
    unfold s3
    exact keeps_retry (Piece.sub hF (by decide +kernel)) hs
  clear_value s3
  refine keeps_ite (fun _ => keeps_ite (fun _ => keeps_sendOffer (Piece.sub hF (by decide +kernel)) h4) (fun _ => keeps_ite (fun _ => h4) (fun _
      => keeps_askHome (Piece.sub hF (by decide +kernel)) h4))) (fun _ => ?_)
  split
  · exact keeps_ite (fun _ => keeps_askHome (Piece.sub hF (by decide +kernel)) h4) (fun _ => keeps_ite (fun _ => keeps_ite (fun _ => keeps_send
        (Piece.sub hF (by decide +kernel)) h4) (fun _ => keeps_askHome (Piece.sub hF (by decide +kernel)) h4)) (fun _ => keeps_ite (fun _ =>
            keeps_foldl (fun s5 x6 h7 => keeps_send (Piece.sub hF (by decide +kernel)) h7) h4) (fun _ => keeps_askHome (Piece.sub hF
                (by decide +kernel)) h4)))
  · exact keeps_ite (fun _ => keeps_sendCommitReq (Piece.sub hF (by decide +kernel)) h4) (fun _ => keeps_askHome (Piece.sub hF
        (by decide +kernel)) h4)

theorem keeps_tetherTimeout {F : List Piece} {a : State} {h : ℕ} {s : State} (hF : [.hti, .mbx, .ses, .tier, .gore, .attn, .fleet, .dec, .pool,
    .ring, .TIER_RSV, .TIER_OBJ, .SHP_CTX_CNT, .SEC_CNT, .RING_CNT, .POOL_OBJ, .POOL_CNT, .MBX_SUM, .MBX_CNT, .HTI_W_QFAULT, .HTI_W_MBSTS,
        .HTI_W_EVT, .HTI_CNT, .GORE_TILE_CNT, .GORE_ATTN_CNT, .CTL_SES, .CTL_SES_CNT, .CTL_READY] ⊆ F) (hs : Keeps F a s) :
    Keeps F a (tetherTimeout h s) := by
  delta tetherTimeout
  split
  · exact hs
  · extract_lets +onlyGivenNames -merge -lift -underBinder s1
    have h2 : Keeps F a s1 := by
      unfold s1
      split
      · refine keeps_ite (fun _ => ?_) (fun _ => hs)
        extract_lets +onlyGivenNames -merge -lift -underBinder s3
        have h4 : Keeps F a s3 := by
          unfold s3
          exact keeps_bump (keeps_setSess (Piece.sub hF (by decide +kernel)) hs) ⟨rfl, hF (by decide +kernel)⟩
        clear_value s3
        exact keeps_ite (fun _ => keeps_send (Piece.sub hF (by decide +kernel)) (keeps_ite (fun _ => keeps_sendNote (Piece.sub hF
            (by decide +kernel)) h4) (fun _ => h4))) (fun _ => keeps_commitProp (Piece.sub hF (by decide +kernel)) h4)
      · exact keeps_ite (fun _ => keeps_send (Piece.sub hF (by decide +kernel)) (keeps_sendNote (Piece.sub hF (by decide +kernel)) hs)) (fun _ => hs)
    clear_value s1
    extract_lets +onlyGivenNames -merge -lift -underBinder s5
    have h6 : Keeps F a s5 := by
      unfold s5
      split
      · exact keeps_ite (fun _ => keeps_xferTimeout (Piece.sub hF (by decide +kernel)) h2) (fun _ => h2)
      · exact h2
    clear_value s5
    extract_lets +onlyGivenNames -merge -lift -underBinder s7
    have h8 : Keeps F a s7 := by
      unfold s7
      refine keeps_ite (fun _ => ?_) (fun _ => h6)
      split
      · exact keeps_send (Piece.sub hF (by decide +kernel)) (keeps_bump h6 ⟨rfl, hF (by decide +kernel)⟩)
      · exact h6
    clear_value s7
    exact keeps_ite (fun _ => h8) (fun _ => keeps_foldl (fun s9 x10 h11 => keeps_askHome (Piece.sub hF (by decide +kernel)) h11) h8)

theorem keeps_execTetherMsgTimeout {F : List Piece} {a : State} {dt handle : ℕ} {s : State} (hF : [.hti, .mbx, .ses, .tier, .gore, .attn, .fleet,
    .dec, .pool, .ring, .TIER_STALL, .TIER_RSV, .TIER_OBJ, .TIER_CNT, .SHP_CTX_CNT, .SEC_CNT, .RING_PORT_CNT, .RING_EVAC, .RING_CNT, .PWR_CNT,
        .POOL_OBJ, .POOL_CNT, .MTR_LIVE, .MBX_SUM, .MBX_CNT, .HTI_W_QFAULT, .HTI_W_MBSTS, .HTI_W_EVT, .HTI_TIME, .HTI_CNT, .GORE_TILE_CNT,
            .GORE_CTX_CNT, .GORE_CLASS, .GORE_ATTN_CNT, .CTL_SES, .CTL_SES_CNT, .CTL_RT, .CTL_RST_CNT, .CTL_READY, .CTL_PIN_CNT] ⊆ F) (hs : Keeps
                F a s) :
    KeepsO F a (execTetherMsgTimeout dt handle s) := by
  delta execTetherMsgTimeout
  exact KeepsO.mk (keeps_pump (Piece.sub hF (by decide +kernel)) (keeps_tetherTimeout (Piece.sub hF (by decide +kernel)) (keeps_pass (Piece.sub
      hF (by decide +kernel)) hs)))

theorem keeps_execTetherQueryReceived {F : List Piece} {a : State} {src handle : ℕ} {s : State} (hF : [.ring, .RING_CNT] ⊆ F) (hs : Keeps F a s) :
    KeepsO F a (execTetherQueryReceived src handle s) := by
  delta execTetherQueryReceived
  refine KeepsO.mk ?_
  split
  · exact hs
  · exact keeps_ite (fun _ => keeps_send (Piece.sub hF (by decide +kernel)) hs) (fun _ => hs)

theorem keeps_execCommitReqReceived {F : List Piece} {a : State} {handle epoch sender receiver : ℕ} {again : Bool} {s : State} (hF : [.hti, .mbx,
    .ses, .tier, .gore, .attn, .fleet, .dec, .pool, .ring, .TIER_RSV, .TIER_OBJ, .SHP_CTX_CNT, .SEC_CNT, .RING_CNT, .POOL_OBJ, .POOL_CNT,
        .MBX_SUM, .MBX_CNT, .HTI_W_QFAULT, .HTI_W_MBSTS, .HTI_W_EVT, .HTI_CNT, .GORE_TILE_CNT, .GORE_ATTN_CNT, .CTL_SES, .CTL_SES_CNT,
            .CTL_READY] ⊆ F) (hs : Keeps F a s) :
    KeepsO F a (execCommitReqReceived handle epoch sender receiver again s) := by
  delta execCommitReqReceived
  exact KeepsO.mk (keeps_commitReq (Piece.sub hF (by decide +kernel)) hs)

theorem keeps_execSpoolAckReceived {F : List Piece} {a : State} {handle upto : ℕ} {s : State} (hF : [.hti, .ses, .tier, .gore, .attn, .dec,
    .ring, .TIER_RSV, .SHP_CTX_CNT, .SEC_CNT, .RING_CNT, .HTI_W_QFAULT, .HTI_CNT, .GORE_TILE_CNT, .GORE_ATTN_CNT] ⊆ F) (hs : Keeps F a s) :
    KeepsO F a (execSpoolAckReceived handle upto s) := by
  delta execSpoolAckReceived
  refine KeepsO.mk ?_
  split
  · exact hs
  · extract_lets +onlyGivenNames -merge -lift -underBinder v1
    clear_value v1
    extract_lets +onlyGivenNames -merge -lift -underBinder s2
    have h3 : Keeps F a s2 := by
      unfold s2
      exact keeps_setSess (Piece.sub hF (by decide +kernel)) hs
    clear_value s2
    extract_lets +onlyGivenNames -merge -lift -underBinder s4
    have h5 : Keeps F a s4 := by
      unfold s4
      exact keeps_ite (fun _ => keeps_ite (fun _ => h3) (fun _ => keeps_sendNote (Piece.sub hF (by decide +kernel)) h3)) (fun _ => hs)
    clear_value s4
    exact keeps_ackUpTo (Piece.sub hF (by decide +kernel)) h5

theorem keeps_execShipResendReceived {F : List Piece} {a : State} {handle epoch sender receiver index : ℕ} {torn : Option TornFound} {s : State}
    (hF : [.hti, .mbx, .ses, .tier, .fleet, .pool, .ring, .TIER_OBJ, .TIER_CNT, .SHP_CTX_CNT, .SEC_CNT, .RING_EVAC, .RING_CNT, .POOL_OBJ,
        .POOL_CNT, .MBX_SUM, .MBX_CNT, .HTI_W_QFAULT, .HTI_W_MBSTS, .HTI_W_FLT, .HTI_W_EVT, .HTI_CNT, .GORE_TILE, .GORE_TILE_CNT, .CTL_SES,
            .CTL_SES_CNT, .CTL_READY] ⊆ F) (hs : Keeps F a s) :
    KeepsO F a (execShipResendReceived handle epoch sender receiver index torn s) := by
  delta execShipResendReceived
  refine KeepsO.mk ?_
  refine keeps_pump (Piece.sub hF (by decide +kernel)) ?_
  split
  · refine keeps_ite (fun _ => hs) (fun _ => ?_)
    split
    · exact keeps_ite (fun _ => keeps_sendTorn (Piece.sub hF (by decide +kernel)) hs) (fun _ => hs)
    · exact keeps_ite (fun _ => keeps_sendTile (Piece.sub hF (by decide +kernel)) hs) (fun _ => keeps_sendSpoolFrame (Piece.sub hF
          (by decide +kernel)) hs)
  · exact hs

theorem keeps_execReplicateAckReceived {F : List Piece} {a : State} {handle epoch sender owner : ℕ} {s : State} (hF : [.hti, .mbx, .ses, .tier,
    .gore, .attn, .fleet, .dec, .pool, .ring, .TIER_RSV, .TIER_OBJ, .SHP_CTX_CNT, .SEC_CNT, .RING_CNT, .POOL_OBJ, .POOL_CNT, .MBX_SUM, .MBX_CNT,
        .HTI_W_QFAULT, .HTI_W_MBSTS, .HTI_W_EVT, .HTI_CNT, .GORE_TILE_CNT, .GORE_ATTN_CNT, .CTL_SES, .CTL_SES_CNT, .CTL_READY] ⊆ F) (hs : Keeps F
            a s) :
    KeepsO F a (execReplicateAckReceived handle epoch sender owner s) := by
  delta execReplicateAckReceived
  exact KeepsO.mk (keeps_replicateAck (Piece.sub hF (by decide +kernel)) hs)

theorem keeps_execShipRefuseReceived {F : List Piece} {a : State} {handle epoch sender receiver reason : ℕ} {s : State} (hF : [.hti, .mbx, .ses,
    .tier, .fab, .fleet, .pool, .ring, .TIER_OBJ, .TIER_CNT, .SHP_CTX_CNT, .SEC_CNT, .RING_EVAC, .RING_CNT, .POOL_OBJ, .POOL_CNT, .MBX_SUM,
        .MBX_CNT, .HTI_W_QFAULT, .HTI_W_MBSTS, .HTI_W_EVT, .HTI_CNT, .CTL_SES, .CTL_SES_CNT, .CTL_READY] ⊆ F) (hs : Keeps F a s) :
    KeepsO F a (execShipRefuseReceived handle epoch sender receiver reason s) := by
  delta execShipRefuseReceived
  refine KeepsO.mk ?_
  split
  · exact keeps_ite (fun _ => hs) (fun _ => keeps_ite (fun _ => keeps_evacRefused (Piece.sub hF (by decide +kernel)) hs) (fun _ => keeps_shipFail
        (Piece.sub hF (by decide +kernel)) hs))
  · exact hs

theorem keeps_execReplicateReceived {F : List Piece} {a : State} {src handle epoch sender owner : ℕ} {s : State} (hF : [.ses, .ring, .RING_CNT] ⊆
    F) (hs : Keeps F a s) :
    KeepsO F a (execReplicateReceived src handle epoch sender owner s) := by
  delta execReplicateReceived
  refine KeepsO.mk ?_
  split
  · exact hs
  · exact keeps_send (Piece.sub hF (by decide +kernel)) (keeps_setSess (Piece.sub hF (by decide +kernel)) hs)

theorem keeps_spoolEntries {F : List Piece} {a : State} {src h first kvLen : ℕ} {es : List (ℕ × ℕ × ℕ)} {seeds : List (ℕ × ℕ)} {s : State} (hF :
    [.ses, .tier, .ring, .RING_CNT] ⊆ F) (hs : Keeps F a s) :
    Keeps F a (spoolEntries src h first kvLen es seeds s) := by
  delta spoolEntries
  split
  · exact hs
  · refine keeps_ite (fun _ => hs) (fun _ => ?_)
    extract_lets +onlyGivenNames -merge -lift -underBinder s1
    have h2 : Keeps F a s1 := by
      unfold s1
      exact keeps_storeSpool (Piece.sub hF (by decide +kernel)) (keeps_setSess (Piece.sub hF (by decide +kernel)) hs)
    clear_value s1
    exact keeps_send (Piece.sub hF (by decide +kernel)) h2

theorem keeps_execTetherRecordReceived {F : List Piece} {a : State} {handle epoch owner : ℕ} {present inheritor : Bool} {read : Option ℕ} {s :
    State} (hF : [.hti, .mbx, .ses, .tier, .gore, .attn, .fab, .fleet, .dec, .pool, .ring, .TXT_SLOT, .TIER_RSV, .TIER_OBJ, .TIER_CNT,
        .SHP_CTX_CNT, .SEC_CNT, .RING_EVAC, .RING_CNT, .POOL_OBJ, .POOL_CNT, .MBX_SUM, .MBX_CNT, .HTI_W_QFAULT, .HTI_W_MBSTS, .HTI_W_EVT,
            .HTI_CNT, .GORE_TILE_CNT, .GORE_SHAPE, .GORE_ATTN_CNT, .DEC_GRAM, .DEC_GAUGE, .DEC_CNT, .CTL_SES, .CTL_SES_CNT, .CTL_READY,
                .CTL_ADM_CNT] ⊆ F) (hs : Keeps F a s) :
    KeepsO F a (execTetherRecordReceived handle epoch owner present inheritor read s) := by
  delta execTetherRecordReceived
  exact KeepsO.mk (keeps_pump (Piece.sub hF (by decide +kernel)) (keeps_tetherRecord (Piece.sub hF (by decide +kernel)) hs))

theorem keeps_execShipOfferReceived {F : List Piece} {a : State} {handle epoch sender receiver ret tiles bytes spoolLen kvLen shape : ℕ} {geom :
    List ℕ} {interactive evac : Bool} {s : State} (hF : [.ses, .fleet, .ring, .RING_CNT, .GORE_SHAPE, .CTL_SES, .CTL_ADM_CNT] ⊆ F) (hs : Keeps F
        a s) :
    KeepsO F a (execShipOfferReceived handle epoch sender receiver ret tiles bytes spoolLen kvLen shape geom interactive evac s) := by
  delta execShipOfferReceived
  exact KeepsO.mk (keeps_shipOffer (Piece.sub hF (by decide +kernel)) hs)

theorem keeps_execSpoolGatherRequestReceived {F : List Piece} {a : State} {src handle : ℕ} {s : State} (hF : [.ring, .RING_CNT] ⊆ F) (hs : Keeps
    F a s) :
    KeepsO F a (execSpoolGatherRequestReceived src handle s) := by
  delta execSpoolGatherRequestReceived
  refine KeepsO.mk ?_
  split
  · exact keeps_ite (fun _ => keeps_send (Piece.sub hF (by decide +kernel)) hs) (fun _ => hs)
  · exact hs

theorem keeps_commitAck {F : List Piece} {a : State} {h sender receiver epoch owner : ℕ} {read : Option ℕ} {s : State} (hF : [.hti, .mbx, .ses,
    .tier, .gore, .attn, .fab, .fleet, .dec, .pool, .ring, .TXT_SLOT, .TIER_RSV, .TIER_OBJ, .SHP_CTX_CNT, .SEC_CNT, .RING_CNT, .POOL_OBJ,
        .POOL_CNT, .MBX_SUM, .MBX_CNT, .HTI_W_QFAULT, .HTI_W_MBSTS, .HTI_W_EVT, .HTI_CNT, .GORE_TILE_CNT, .GORE_SHAPE, .GORE_ATTN_CNT, .DEC_GRAM,
            .DEC_GAUGE, .DEC_CNT, .CTL_SES, .CTL_SES_CNT, .CTL_READY, .CTL_ADM_CNT] ⊆ F) (hs : Keeps F a s) :
    Keeps F a (commitAck h sender receiver epoch owner read s) := by
  delta commitAck
  split
  · exact hs
  · split
    · exact keeps_ite (fun _ => KeepsP.proj (keeps_reconcile (Piece.sub hF (by decide +kernel)) hs)) (fun _ => hs)
    · exact keeps_ite (fun _ => hs) (fun _ => keeps_ite (fun _ => keeps_ite (fun _ => keeps_shipped (Piece.sub hF (by decide +kernel)) hs) (fun _
          => hs)) (fun _ => keeps_ite (fun _ => keeps_arrive (Piece.sub hF (by decide +kernel)) hs) (fun _ => hs)))

theorem keeps_execCommitAckReceived {F : List Piece} {a : State} {handle sender receiver epoch owner : ℕ} {read : Option ℕ} {s : State} (hF :
    [.hti, .mbx, .ses, .tier, .gore, .attn, .fab, .fleet, .dec, .pool, .ring, .TXT_SLOT, .TIER_RSV, .TIER_OBJ, .TIER_CNT, .SHP_CTX_CNT, .SEC_CNT,
        .RING_EVAC, .RING_CNT, .POOL_OBJ, .POOL_CNT, .MBX_SUM, .MBX_CNT, .HTI_W_QFAULT, .HTI_W_MBSTS, .HTI_W_EVT, .HTI_CNT, .GORE_TILE_CNT,
            .GORE_SHAPE, .GORE_ATTN_CNT, .DEC_GRAM, .DEC_GAUGE, .DEC_CNT, .CTL_SES, .CTL_SES_CNT, .CTL_READY, .CTL_ADM_CNT] ⊆ F) (hs : Keeps F a s) :
    KeepsO F a (execCommitAckReceived handle sender receiver epoch owner read s) := by
  delta execCommitAckReceived
  exact KeepsO.mk (keeps_pump (Piece.sub hF (by decide +kernel)) (keeps_commitAck (Piece.sub hF (by decide +kernel)) hs))

theorem keeps_execSessionRoleNoticeReceived {F : List Piece} {a : State} {src handle : ℕ} {note : Option SessNote} {s : State} (hF : [.hti, .ses,
    .tier, .gore, .attn, .dec, .pool, .ring, .TIER_RSV, .TIER_OBJ, .SHP_CTX_CNT, .SEC_CNT, .RING_CNT, .POOL_OBJ, .POOL_CNT, .HTI_W_QFAULT,
        .HTI_CNT, .GORE_TILE_CNT, .GORE_SHAPE, .GORE_ATTN_CNT, .CTL_SES, .CTL_READY] ⊆ F) (hs : Keeps F a s) :
    KeepsO F a (execSessionRoleNoticeReceived src handle note s) := by
  delta execSessionRoleNoticeReceived
  exact KeepsO.mk (keeps_roleNotice (Piece.sub hF (by decide +kernel)) hs)

theorem keeps_execSpoolEntriesReceived {F : List Piece} {a : State} {src handle first kvLen : ℕ} {entries : List (ℕ × ℕ × ℕ)} {seeds : List (ℕ ×
    ℕ)} {s : State} (hF : [.ses, .tier, .ring, .RING_CNT] ⊆ F) (hs : Keeps F a s) :
    KeepsO F a (execSpoolEntriesReceived src handle first kvLen entries seeds s) := by
  delta execSpoolEntriesReceived
  exact KeepsO.mk (keeps_spoolEntries (Piece.sub hF (by decide +kernel)) hs)

/-! ### Spdm -/

theorem keeps_spdmMsg {F : List Piece} {a s : State} {path code p1 p2 len body : ℕ} (hs : Keeps F a s) :
    Keeps F a (State.spdmMsg s path code p1 p2 len body) := by
  delta State.spdmMsg
  exact keeps_emit hs

theorem keeps_measurements {F : List Piece} {a s : State} {path index : ℕ} {signed : Bool} (hF : [.SEC_CNT] ⊆ F) (hs : Keeps F a s) :
    Keeps F a (State.measurements s path index signed) := by
  delta State.measurements
  extract_lets +onlyGivenNames -merge -lift -underBinder v1 v2 v3
  clear_value v1 v2 v3
  extract_lets +onlyGivenNames -merge -lift -underBinder s4
  have h5 : Keeps F a s4 := by
    unfold s4
    exact keeps_tickFree hs
  clear_value s4
  extract_lets +onlyGivenNames -merge -lift -underBinder v6
  clear_value v6
  extract_lets +onlyGivenNames -merge -lift -underBinder s7
  have h8 : Keeps F a s7 := by
    unfold s7
    exact keeps_tickFree h5
  clear_value s7
  extract_lets +onlyGivenNames -merge -lift -underBinder v9 v10
  clear_value v9 v10
  extract_lets +onlyGivenNames -merge -lift -underBinder s11
  have h12 : Keeps F a s11 := by
    unfold s11
    exact keeps_ite (fun _ => keeps_bump (keeps_tickFree (keeps_tickFree h8)) ⟨rfl, hF (by decide +kernel)⟩) (fun _ => h8)
  clear_value s11
  exact keeps_spdmMsg h12

theorem keeps_pciMsg {F : List Piece} {a s : State} {path protocol len body : ℕ} (hs : Keeps F a s) :
    Keeps F a (State.pciMsg s path protocol len body) := by
  delta State.pciMsg
  exact keeps_spdmMsg hs

theorem keeps_tdisp {F : List Piece} {a s : State} {path type len body : ℕ} (hs : Keeps F a s) :
    Keeps F a (State.tdisp s path type len body) := by
  delta State.tdisp
  exact keeps_tickFree (keeps_pciMsg hs)

theorem keeps_spdmFree {F : List Piece} {a s : State} {path code p1 p2 : ℕ} (hs : Keeps F a s) :
    Keeps F a (State.spdmFree s path code p1 p2) := by
  delta State.spdmFree
  extract_lets +onlyGivenNames -merge -lift -underBinder v1
  clear_value v1
  extract_lets +onlyGivenNames -merge -lift -underBinder s2
  have h3 : Keeps F a s2 := by
    unfold s2
    exact keeps_tickFree hs
  clear_value s2
  exact keeps_tickFree (keeps_spdmMsg h3)

theorem keeps_tdispError {F : List Piece} {a s : State} {path code : ℕ} (hs : Keeps F a s) :
    Keeps F a (State.tdispError s path code) := by
  delta State.tdispError
  exact keeps_tdisp hs

theorem keeps_ideAck {F : List Piece} {a s : State} {path object stream set : ℕ} {rx : Bool} {status : ℕ} (hs : Keeps F a s) :
    Keeps F a (State.ideAck s path object stream set rx status) := by
  delta State.ideAck
  exact keeps_tickFree (keeps_pciMsg hs)

theorem keeps_spdmError {F : List Piece} {a s : State} {path code data : ℕ} (hF : [.SEC_CNT] ⊆ F) (hs : Keeps F a s) :
    Keeps F a (State.spdmError s path code data) := by
  delta State.spdmError
  exact keeps_bump (keeps_spdmMsg hs) ⟨rfl, hF (by decide +kernel)⟩

theorem keeps_spdmUnsupported {F : List Piece} {a s : State} {path code : ℕ} (hF : [.SEC_CNT] ⊆ F) (hs : Keeps F a s) :
    Keeps F a (State.spdmUnsupported s path code) := by
  delta State.spdmUnsupported
  exact keeps_spdmError (Piece.sub hF (by decide +kernel)) hs

end Sys2Proof.Machine
end

