-- ==== Sys2Proof/Laws/KeepsResets.lean ====
section
/-! SUPPORT. `Keeps` for the operations and meanings of Machine/: ResetOps, Fleet, Resets, BringUp. Each lemma says what an operation may change, and
that it keeps the rest. -/

namespace Sys2Proof.Machine

set_option Elab.async false

/-! ### ResetOps -/

theorem keeps_resetShaper {F : List Piece} {a s : State} {c : ℕ} (hF : [.pwr, .ring, .SHP_CTX_CNT, .SHP_CNT, .RING_CNT, .PWR_DROGUE, .PWR_CNT,
    .CTL_PM] ⊆ F) (hs : Keeps F a s) :
    Keeps F a (State.resetShaper s c) := by
  delta State.resetShaper
  extract_lets +onlyGivenNames -merge -lift -underBinder v1 v2
  clear_value v1 v2
  extract_lets +onlyGivenNames -merge -lift -underBinder s3
  have h4 : Keeps F a s3 := by
    unfold s3
    exact keeps_setRing (Piece.sub hF (by decide +kernel)) hs
  clear_value s3
  refine keeps_foldl (fun s5 x6 h7 => ?_) h4
  extract_lets +onlyGivenNames -merge -lift -underBinder v8
  clear_value v8
  extract_lets +onlyGivenNames -merge -lift -underBinder s9
  have h10 : Keeps F a s9 := by
    unfold s9
    exact keeps_bump h7 ⟨rfl, hF (by decide +kernel)⟩
  clear_value s9
  extract_lets +onlyGivenNames -merge -lift -underBinder v11 v12
  clear_value v11 v12
  exact keeps_drainFlow (Piece.sub hF (by decide +kernel)) (keeps_setFlow (Piece.sub hF (by decide +kernel)) h10)

theorem keeps_keepPins {F : List Piece} {a s old : State} (hF : [.RING_PORT, .PWR_STS, .CTL_PIN] ⊆ F) (hs : Keeps F a s) :
    Keeps F a (State.keepPins s old) := by
  delta State.keepPins
  extract_lets +onlyGivenNames -merge -lift -underBinder s1
  have h2 : Keeps F a s1 := by
    unfold s1
    exact keeps_fields (fun s3 f4 k6 h5 => keeps_wr h5 k6) ((Piece.fields hF (by decide +kernel))) hs
  clear_value s1
  extract_lets +onlyGivenNames -merge -lift -underBinder s7
  have h8 : Keeps F a s7 := by
    unfold s7
    exact keeps_foldl (fun s9 x10 h11 => keeps_wr h11 ⟨rfl, hF (by decide +kernel)⟩) h2
  clear_value s7
  extract_lets +onlyGivenNames -merge -lift -underBinder s12
  have h13 : Keeps F a s12 := by
    unfold s12
    exact keeps_wrBit h8 ⟨rfl, hF (by decide +kernel)⟩
  clear_value s12
  exact keeps_wr (keeps_wr h13 ⟨rfl, hF (by decide +kernel)⟩) ⟨rfl, hF (by decide +kernel)⟩

theorem keeps_askAllPanels {F : List Piece} {a s : State} (hF : [.gore, .pwr, .PWR_DROGUE, .PWR_CNT] ⊆ F) (hs : Keeps F a s) :
    Keeps F a (State.askAllPanels s) := by
  delta State.askAllPanels
  extract_lets +onlyGivenNames -merge -lift -underBinder s1
  have h2 : Keeps F a s1 := by
    unfold s1
    exact keeps_dropAdmitted (Piece.sub hF (by decide +kernel)) hs
  clear_value s1
  extract_lets +onlyGivenNames -merge -lift -underBinder v3
  clear_value v3
  extract_lets +onlyGivenNames -merge -lift -underBinder s4
  have h5 : Keeps F a s4 := by
    unfold s4
    exact Keeps.other h2 (hgore := .inr (hF (by decide +kernel)))
  clear_value s4
  exact keeps_foldl (fun s6 x7 h8 => keeps_ite (fun _ => h8) (fun _ => keeps_askOnce (Piece.sub hF (by decide +kernel)) h8)) h5

theorem keeps_offGores {F : List Piece} {a s : State} (hF : [.gore, .GORE_CTX] ⊆ F) (hs : Keeps F a s) :
    Keeps F a (State.offGores s) := by
  delta State.offGores
  exact keeps_foldl (fun s1 x2 h3 => keeps_release (Piece.sub hF (by decide +kernel)) h3) hs

theorem keeps_clearReady {F : List Piece} {a s : State} {f : ℕ} (hF : [.CTL_READY] ⊆ F) (hs : Keeps F a s) :
    Keeps F a (State.clearReady s f) := by
  delta State.clearReady
  exact keeps_ite (fun _ => keeps_wr hs ⟨rfl, hF (by decide +kernel)⟩) (fun _ => keeps_ite (fun _ => keeps_wr hs ⟨rfl, hF (by decide +kernel)⟩)
      (fun _ => keeps_ite (fun _ => keeps_wr hs ⟨rfl, hF (by decide +kernel)⟩) (fun _ => keeps_ite (fun _ => keeps_wr hs ⟨rfl, hF
          (by decide +kernel)⟩) (fun _ => hs))))

theorem keeps_fnReset {F : List Piece} {a s : State} {f : ℕ} (hF : [.hti, .mbx, .ses, .tier, .gore, .attn, .pwr, .fab, .fleet, .dec, .pool, .rcl,
    .ring, .TIER_RSV, .TIER_OBJ, .TIER_DRV, .TIER_CNT, .SHP_CTX_CNT, .SEC_CNT, .RING_CNT, .RCL_IDX, .RCL_GAUGE, .RCL_CTX_CNT, .RCL_CNT,
        .PWR_DROGUE, .PWR_CNT, .POOL_REGION, .POOL_OBJ, .POOL_LEND, .POOL_CNT, .MBX_SUM, .MBX_CNT, .HTI_W_QFAULT, .HTI_W_MBSTS, .HTI_W_EVT,
            .HTI_CNT, .GORE_TILE_CNT, .GORE_ROLE, .GORE_PANEL, .GORE_CTX, .GORE_CTX_CNT, .GORE_CNT, .GORE_ATTN_CNT, .CTL_SES, .CTL_SES_CNT,
                .CTL_RST_CNT, .CTL_READY, .CTL_PM, .CTL_FN, .CTL_ADM, .CTL_ADM_CNT] ⊆ F) (hs : Keeps F a s) :
    Keeps F a (State.fnReset s f) := by
  delta State.fnReset
  extract_lets +onlyGivenNames -merge -lift -underBinder s1
  have h2 : Keeps F a s1 := by
    unfold s1
    exact hs
  clear_value s1
  extract_lets +onlyGivenNames -merge -lift -underBinder s3
  have h4 : Keeps F a s3 := by
    unfold s3
    exact keeps_clearReady (Piece.sub hF (by decide +kernel)) (keeps_bump (keeps_wrBit hs ⟨rfl, hF (by decide +kernel)⟩) ⟨rfl, hF
        (by decide +kernel)⟩)
  clear_value s3
  extract_lets +onlyGivenNames -merge -lift -underBinder s5
  have h6 : Keeps F a s5 := by
    unfold s5
    exact keeps_endCmds (Piece.sub hF (by decide +kernel)) h4
  clear_value s5
  extract_lets +onlyGivenNames -merge -lift -underBinder s7
  have h8 : Keeps F a s7 := by
    unfold s7
    exact keeps_offGores (Piece.sub hF (by decide +kernel)) h6
  clear_value s7
  extract_lets +onlyGivenNames -merge -lift -underBinder v9
  clear_value v9
  extract_lets +onlyGivenNames -merge -lift -underBinder s10
  have h11 : Keeps F a s10 := by
    unfold s10
    exact keeps_ite (fun _ => keeps_foldl (fun s12 x13 h14 => keeps_askHome (Piece.sub hF (by decide +kernel)) (keeps_updXfer (Piece.sub hF
        (by decide +kernel)) h14)) h6) (fun _ => keeps_ite (fun _ => keeps_askAllPanels (Piece.sub hF (by decide +kernel)) (Keeps.other h8 (hgore
            := .inr (hF (by decide +kernel))))) (fun _ => h6))
  clear_value s10
  exact keeps_winch (Piece.sub hF (by decide +kernel)) h11

theorem keeps_clearAndLoad {F : List Piece} {a s : State} {r : ℕ} (hF : Piece.withRegs [.latch, .fleet] ⊆ F) (hs : Keeps F a s) :
    Keeps F a (State.clearAndLoad s r) := by
  delta State.clearAndLoad
  exact keeps_refreshFloors (Piece.sub hF (by decide +kernel)) (keeps_loadNvm (Piece.sub hF (by decide +kernel)) (keeps_clearTo (Piece.sub hF
      (by decide +kernel)) hs))

theorem keeps_readyEngine {F : List Piece} {a s : State} {f : ℕ} (hF : [.CTL_READY] ⊆ F) (hs : Keeps F a s) :
    Keeps F a (State.readyEngine s f) := by
  delta State.readyEngine
  exact keeps_ite (fun _ => keeps_ite (fun _ => keeps_wr hs ⟨rfl, hF (by decide +kernel)⟩) (fun _ => keeps_ite (fun _ => keeps_wr hs ⟨rfl, hF
      (by decide +kernel)⟩) (fun _ => keeps_ite (fun _ => keeps_wr hs ⟨rfl, hF (by decide +kernel)⟩) (fun _ => hs)))) (fun _ => hs)

theorem keeps_readyEngines {F : List Piece} {a s : State} (hF : [.CTL_READY] ⊆ F) (hs : Keeps F a s) :
    Keeps F a (State.readyEngines s) := by
  delta State.readyEngines
  exact keeps_readyEngine (Piece.sub hF (by decide +kernel)) (keeps_readyEngine (Piece.sub hF (by decide +kernel)) (keeps_readyEngine (Piece.sub
      hF (by decide +kernel)) hs))

theorem keeps_ctxReset {F : List Piece} {a s : State} {c : ℕ} (hF : Piece.withRegs [.latch, .hti, .mbx, .ses, .tier, .gore, .attn, .pwr, .fab,
    .fleet, .dec, .pool, .rcl, .ring] ⊆ F) (hs : Keeps F a s) :
    Keeps F a (State.ctxReset s c) := by
  delta State.ctxReset
  extract_lets +onlyGivenNames -merge -lift -underBinder s1
  have h2 : Keeps F a s1 := by
    unfold s1
    exact hs
  clear_value s1
  extract_lets +onlyGivenNames -merge -lift -underBinder s3
  have h4 : Keeps F a s3 := by
    unfold s3
    exact keeps_bump (keeps_wrBit hs ⟨rfl, hF (by decide +kernel)⟩) ⟨rfl, hF (by decide +kernel)⟩
  clear_value s3
  extract_lets +onlyGivenNames -merge -lift -underBinder s5
  have h6 : Keeps F a s5 := by
    unfold s5
    exact keeps_tdiError (Piece.sub hF (by decide +kernel)) (keeps_endCmds (Piece.sub hF (by decide +kernel)) h4)
  clear_value s5
  extract_lets +onlyGivenNames -merge -lift -underBinder v7
  clear_value v7
  extract_lets +onlyGivenNames -merge -lift -underBinder s8
  have h9 : Keeps F a s8 := by
    unfold s8
    exact Keeps.other h6 (hhti := .inr (hF (by decide +kernel)))
  clear_value s8
  extract_lets +onlyGivenNames -merge -lift -underBinder s10
  have h11 : Keeps F a s10 := by
    unfold s10
    exact keeps_refreshStreams (Piece.sub hF (by decide +kernel)) (keeps_setStreams (Piece.sub hF (by decide +kernel)) h9)
  clear_value s10
  extract_lets +onlyGivenNames -merge -lift -underBinder s12
  have h13 : Keeps F a s12 := by
    unfold s12
    exact keeps_resetShaper (Piece.sub hF (by decide +kernel)) (keeps_detachAll (Piece.sub hF (by decide +kernel)) (keeps_killItems (Piece.sub hF
        (by decide +kernel)) h11))
  clear_value s12
  extract_lets +onlyGivenNames -merge -lift -underBinder v14
  clear_value v14
  extract_lets +onlyGivenNames -merge -lift -underBinder s15
  have h16 : Keeps F a s15 := by
    unfold s15
    exact Keeps.other h13 (hgore := .inr (hF (by decide +kernel)))
  clear_value s15
  extract_lets +onlyGivenNames -merge -lift -underBinder s17
  have h18 : Keeps F a s17 := by
    unfold s17
    exact keeps_bridleZero (Piece.sub hF (by decide +kernel)) (keeps_evtOff (Piece.sub hF (by decide +kernel)) (keeps_clearChannel (Piece.sub hF
        (by decide +kernel)) h16))
  clear_value s17
  extract_lets +onlyGivenNames -merge -lift -underBinder s19
  have h20 : Keeps F a s19 := by
    unfold s19
    exact keeps_clearRegs (Piece.sub hF (by decide +kernel)) h18
  clear_value s19
  exact keeps_winch (Piece.sub hF (by decide +kernel)) h20

theorem keeps_setBoot {F : List Piece} {a s : State} {b : BootSt} (hF : [.boot] ⊆ F) (hs : Keeps F a s) :
    Keeps F a (State.setBoot s b) := by
  delta State.setBoot
  exact Keeps.other hs (hboot := .inr (hF (by decide +kernel)))

theorem keeps_powerOff {F : List Piece} {a s : State} (hF : Piece.withRegs [.latch, .hti, .mbx, .boot, .ses, .tier, .gore, .attn, .pwr, .pins,
    .fab, .fleet, .dec, .pool, .rcl, .ring, .sec] ⊆ F) (hs : Keeps F a s) :
    Keeps F a (State.powerOff s) := by
  delta State.powerOff
  extract_lets +onlyGivenNames -merge -lift -underBinder s1
  have h2 : Keeps F a s1 := by
    unfold s1
    exact keeps_clearTo (Piece.sub hF (by decide +kernel)) (keeps_loseState (Piece.sub hF (by decide +kernel)) hs)
  clear_value s1
  extract_lets +onlyGivenNames -merge -lift -underBinder v3
  clear_value v3
  extract_lets +onlyGivenNames -merge -lift -underBinder s4
  have h5 : Keeps F a s4 := by
    unfold s4
    exact keeps_setBoot (Piece.sub hF (by decide +kernel)) h2
  clear_value s4
  exact Keeps.other h5 (hpwr := .inr (hF (by decide +kernel))) (hpins := .inr (hF (by decide +kernel))) (hsec := .inr (hF (by decide +kernel)))

theorem keeps_keepMailboxes {F : List Piece} {a s old : State} (hF : [.mbx, .MBX_S, .HTI_W_MBSTS, .HTI_W_FLT] ⊆ F) (hs : Keeps F a s) :
    Keeps F a (State.keepMailboxes s old) := by
  delta State.keepMailboxes
  refine keeps_foldl (fun s1 x2 h3 => ?_) hs
  extract_lets +onlyGivenNames -merge -lift -underBinder s4
  have h5 : Keeps F a s4 := by
    unfold s4
    exact keeps_ite (fun _ => keeps_setBusy (Piece.sub hF (by decide +kernel)) h3) (fun _ => h3)
  clear_value s4
  extract_lets +onlyGivenNames -merge -lift -underBinder v6 v7 v8
  clear_value v6 v7 v8
  extract_lets +onlyGivenNames -merge -lift -underBinder s9
  have h10 : Keeps F a s9 := by
    unfold s9
    exact keeps_ite (fun _ => keeps_wr (keeps_setMbx (Piece.sub hF (by decide +kernel)) h5) ⟨rfl, hF (by decide +kernel)⟩) (fun _ => h5)
  clear_value s9
  exact keeps_ite (fun _ => keeps_evtOff (Piece.sub hF (by decide +kernel)) h10) (fun _ => h10)

theorem keeps_discardRows {F : List Piece} {a s : State} (hF : [.ses, .tier, .pool, .TIER_OBJ, .POOL_OBJ, .POOL_CNT, .GORE_TILE_CNT, .CTL_READY]
    ⊆ F) (hs : Keeps F a s) :
    Keeps F a (State.discardRows s) := by
  delta State.discardRows
  extract_lets +onlyGivenNames -merge -lift -underBinder s1
  have h2 : Keeps F a s1 := by
    unfold s1
    refine keeps_foldl (fun s3 x4 h5 => ?_) hs
    refine keeps_foldl (fun s6 x7 h8 => ?_) h5
    extract_lets +onlyGivenNames -merge -lift -underBinder s9
    have h10 : Keeps F a s9 := by
      unfold s9
      exact keeps_bump h8 ⟨rfl, hF (by decide +kernel)⟩
    clear_value s9
    exact keeps_ite (fun _ => keeps_undoRows (Piece.sub hF (by decide +kernel)) h10) (fun _ => h10)
  clear_value s1
  refine keeps_foldl (fun s11 x12 h13 => ?_) h2
  extract_lets +onlyGivenNames -merge -lift -underBinder s14
  have h15 : Keeps F a s14 := by
    unfold s14
    exact keeps_bump h13 ⟨rfl, hF (by decide +kernel)⟩
  clear_value s14
  exact keeps_ite (fun _ => keeps_undoRows (Piece.sub hF (by decide +kernel)) h15) (fun _ => h15)

theorem keeps_discardWork {F : List Piece} {a s : State} (hF : [.hti, .ses, .tier, .gore, .attn, .fab, .fleet, .dec, .pool, .rcl, .ring,
    .TIER_RSV, .TIER_OBJ, .TIER_DRV, .TIER_CNT, .SHP_CTX_CNT, .SEC_CNT, .RCL_IDX, .RCL_GAUGE, .RCL_CTX_CNT, .RCL_CNT, .POOL_REGION, .POOL_OBJ,
        .POOL_LEND, .POOL_CNT, .HTI_W_QFAULT, .HTI_CNT, .GORE_TILE_CNT, .GORE_ROLE, .GORE_CTX, .GORE_CTX_CNT, .CTL_SES, .CTL_READY] ⊆ F) (hs :
            Keeps F a s) :
    Keeps F a (State.discardWork s) := by
  delta State.discardWork
  extract_lets +onlyGivenNames -merge -lift -underBinder v1 v2
  clear_value v1 v2
  extract_lets +onlyGivenNames -merge -lift -underBinder s3
  have h4 : Keeps F a s3 := by
    unfold s3
    exact Keeps.other hs (hhti := .inr (hF (by decide +kernel)))
  clear_value s3
  extract_lets +onlyGivenNames -merge -lift -underBinder s5
  have h6 : Keeps F a s5 := by
    unfold s5
    exact keeps_killItems (Piece.sub hF (by decide +kernel)) (keeps_discardRows (Piece.sub hF (by decide +kernel)) h4)
  clear_value s5
  extract_lets +onlyGivenNames -merge -lift -underBinder v7 v8 v9 v10
  clear_value v7 v8 v9 v10
  extract_lets +onlyGivenNames -merge -lift -underBinder s11
  have h12 : Keeps F a s11 := by
    unfold s11
    exact Keeps.other h6 (hses := .inr (hF (by decide +kernel))) (htier := .inr (hF (by decide +kernel))) (hgore := .inr (hF
        (by decide +kernel))) (hattn := .inr (hF (by decide +kernel)))
  clear_value s11
  extract_lets +onlyGivenNames -merge -lift -underBinder s13
  have h14 : Keeps F a s13 := by
    unfold s13
    exact keeps_foldl (fun s15 x16 h17 => keeps_endPub (Piece.sub hF (by decide +kernel)) h17) h12
  clear_value s13
  extract_lets +onlyGivenNames -merge -lift -underBinder s18
  have h19 : Keeps F a s18 := by
    unfold s18
    exact keeps_commitAll (Piece.sub hF (by decide +kernel)) (keeps_voidPend (Piece.sub hF (by decide +kernel)) h14)
  clear_value s18
  extract_lets +onlyGivenNames -merge -lift -underBinder v20
  clear_value v20
  extract_lets +onlyGivenNames -merge -lift -underBinder s21
  have h22 : Keeps F a s21 := by
    unfold s21
    exact keeps_freeOlds (Piece.sub hF (by decide +kernel)) (keeps_setRcl (Piece.sub hF (by decide +kernel)) h19)
  clear_value s21
  extract_lets +onlyGivenNames -merge -lift -underBinder v23
  clear_value v23
  extract_lets +onlyGivenNames -merge -lift -underBinder s24
  have h25 : Keeps F a s24 := by
    unfold s24
    exact keeps_setPool (Piece.sub hF (by decide +kernel)) h22
  clear_value s24
  extract_lets +onlyGivenNames -merge -lift -underBinder v26
  clear_value v26
  extract_lets +onlyGivenNames -merge -lift -underBinder s27
  have h28 : Keeps F a s27 := by
    unfold s27
    exact keeps_wr (keeps_setFleet (Piece.sub hF (by decide +kernel)) h25) ⟨rfl, hF (by decide +kernel)⟩
  clear_value s27
  extract_lets +onlyGivenNames -merge -lift -underBinder v29
  clear_value v29
  extract_lets +onlyGivenNames -merge -lift -underBinder s30
  have h31 : Keeps F a s30 := by
    unfold s30
    exact keeps_setRing (Piece.sub hF (by decide +kernel)) h28
  clear_value s30
  extract_lets +onlyGivenNames -merge -lift -underBinder v32
  clear_value v32
  extract_lets +onlyGivenNames -merge -lift -underBinder s33
  have h34 : Keeps F a s33 := by
    unfold s33
    exact Keeps.other h31 (hfab := .inr (hF (by decide +kernel)))
  clear_value s33
  extract_lets +onlyGivenNames -merge -lift -underBinder s35
  have h36 : Keeps F a s35 := by
    unfold s35
    exact keeps_foldl (fun s37 x38 h39 => keeps_putPage (Piece.sub hF (by decide +kernel)) h39) h34
  clear_value s35
  extract_lets +onlyGivenNames -merge -lift -underBinder s40
  have h41 : Keeps F a s40 := by
    unfold s40
    exact keeps_foldl (fun s42 x43 h44 => keeps_enter (Piece.sub hF (by decide +kernel)) h44) h36
  clear_value s40
  exact keeps_sweepImages (Piece.sub hF (by decide +kernel)) h41

theorem keeps_soft {F : List Piece} {a s : State} (hF : Piece.withRegs [.latch, .hti, .mbx, .boot, .ses, .tier, .gore, .attn, .pwr, .fab, .fleet,
    .dec, .pool, .rcl, .ring] ⊆ F) (hs : Keeps F a s) :
    Keeps F a (State.soft s) := by
  delta State.soft
  extract_lets +onlyGivenNames -merge -lift -underBinder s1
  have h2 : Keeps F a s1 := by
    unfold s1
    exact hs
  clear_value s1
  extract_lets +onlyGivenNames -merge -lift -underBinder s3
  have h4 : Keeps F a s3 := by
    unfold s3
    exact keeps_wr (keeps_bump (keeps_bump (keeps_wr hs ⟨rfl, hF (by decide +kernel)⟩) ⟨rfl, hF (by decide +kernel)⟩) ⟨rfl, hF
        (by decide +kernel)⟩) ⟨rfl, hF (by decide +kernel)⟩
  clear_value s3
  extract_lets +onlyGivenNames -merge -lift -underBinder v5
  clear_value v5
  extract_lets +onlyGivenNames -merge -lift -underBinder s6
  have h7 : Keeps F a s6 := by
    unfold s6
    exact keeps_discardWork (Piece.sub hF (by decide +kernel)) (keeps_setBoot (Piece.sub hF (by decide +kernel)) h4)
  clear_value s6
  extract_lets +onlyGivenNames -merge -lift -underBinder s8
  have h9 : Keeps F a s8 := by
    unfold s8
    exact keeps_detachAll (Piece.sub hF (by decide +kernel)) (keeps_tdiErrors (Piece.sub hF (by decide +kernel)) h7)
  clear_value s8
  extract_lets +onlyGivenNames -merge -lift -underBinder s10
  have h11 : Keeps F a s10 := by
    unfold s10
    exact keeps_wr (keeps_wr h9 ⟨rfl, hF (by decide +kernel)⟩) ⟨rfl, hF (by decide +kernel)⟩
  clear_value s10
  extract_lets +onlyGivenNames -merge -lift -underBinder s12
  have h13 : Keeps F a s12 := by
    unfold s12
    exact keeps_foldl (fun s14 x15 h16 => keeps_askHome (Piece.sub hF (by decide +kernel)) (keeps_updXfer (Piece.sub hF (by decide +kernel)) h16)) h11
  clear_value s12
  extract_lets +onlyGivenNames -merge -lift -underBinder s17
  have h18 : Keeps F a s17 := by
    unfold s17
    exact keeps_keepMailboxes (Piece.sub hF (by decide +kernel)) (keeps_clearAndLoad (Piece.sub hF (by decide +kernel)) h13)
  clear_value s17
  extract_lets +onlyGivenNames -merge -lift -underBinder s19
  have h20 : Keeps F a s19 := by
    unfold s19
    exact keeps_ite (fun _ => keeps_wr h18 ⟨rfl, hF (by decide +kernel)⟩) (fun _ => h18)
  clear_value s19
  exact keeps_ite (fun _ => keeps_askAllPanels (Piece.sub hF (by decide +kernel)) (keeps_askStacks (Piece.sub hF (by decide +kernel)) h20)) (fun
      _ => h20)

theorem keeps_fnDone {F : List Piece} {a s : State} {f : ℕ} (hF : [.boot, .CTL_FN] ⊆ F) (hs : Keeps F a s) :
    Keeps F a (State.fnDone s f) := by
  delta State.fnDone
  extract_lets +onlyGivenNames -merge -lift -underBinder v1 v2
  clear_value v1 v2
  extract_lets +onlyGivenNames -merge -lift -underBinder s3
  have h4 : Keeps F a s3 := by
    unfold s3
    exact keeps_setBoot (Piece.sub hF (by decide +kernel)) hs
  clear_value s3
  exact keeps_wr h4 ⟨rfl, hF (by decide +kernel)⟩

theorem keeps_nextBootgen {F : List Piece} {a s : State} {listed : List ℕ} (hF : [.CTL_SES] ⊆ F) (hs : Keeps F a s) :
    Keeps F a (State.nextBootgen s listed) := by
  delta State.nextBootgen
  extract_lets +onlyGivenNames -merge -lift -underBinder v1
  clear_value v1
  exact keeps_wr hs ⟨rfl, hF (by decide +kernel)⟩

theorem keeps_grantSpi {F : List Piece} {a s : State} (hF : [.CTL_PIN, .CTL_PIN_CNT] ⊆ F) (hs : Keeps F a s) :
    Keeps F a (State.grantSpi s) := by
  delta State.grantSpi
  exact keeps_ite (fun _ => keeps_bump (keeps_wr hs ⟨rfl, hF (by decide +kernel)⟩) ⟨rfl, hF (by decide +kernel)⟩) (fun _ => hs)

theorem keeps_warm {F : List Piece} {a s : State} {cause : ℕ} (hF : Piece.withRegs [.latch, .hti, .mbx, .boot, .ses, .tier, .gore, .attn, .pwr,
    .pins, .fab, .fleet, .dec, .pool, .rcl, .ring, .sec] ⊆ F) (hs : Keeps F a s) :
    Keeps F a (State.warm s cause) := by
  delta State.warm
  extract_lets +onlyGivenNames -merge -lift -underBinder s1
  have h2 : Keeps F a s1 := by
    unfold s1
    exact hs
  clear_value s1
  extract_lets +onlyGivenNames -merge -lift -underBinder v3
  extract_lets +onlyGivenNames -merge -lift -underBinder s4
  have h5 : Keeps F a s4 := by
    unfold s4
    exact keeps_closeAll (Piece.sub hF (by decide +kernel)) hs
  clear_value s4
  extract_lets +onlyGivenNames -merge -lift -underBinder s6
  have h7 : Keeps F a s6 := by
    unfold s6
    exact keeps_ite (fun _ => keeps_wr h5 ⟨rfl, hF (by decide +kernel)⟩) (fun _ => h5)
  clear_value s6
  extract_lets +onlyGivenNames -merge -lift -underBinder s8
  have h9 : Keeps F a s8 := by
    unfold s8
    exact keeps_wr (keeps_bump h7 ⟨rfl, hF (by decide +kernel)⟩) ⟨rfl, hF (by decide +kernel)⟩
  clear_value s8
  extract_lets +onlyGivenNames -merge -lift -underBinder v10
  clear_value v10
  extract_lets +onlyGivenNames -merge -lift -underBinder s11
  have h12 : Keeps F a s11 := by
    unfold s11
    exact keeps_fabricBoot (Piece.sub hF (by decide +kernel)) (keeps_nextBootgen (Piece.sub hF (by decide +kernel)) (keeps_keepPins (Piece.sub hF
        (by decide +kernel)) (keeps_clearTo (Piece.sub hF (by decide +kernel)) (keeps_loseState (Piece.sub hF (by decide +kernel)) h9))))
  clear_value s11
  extract_lets +onlyGivenNames -merge -lift -underBinder v13
  clear_value v13
  extract_lets +onlyGivenNames -merge -lift -underBinder s14
  have h15 : Keeps F a s14 := by
    unfold s14
    exact keeps_setBoot (Piece.sub hF (by decide +kernel)) h12
  clear_value s14
  exact keeps_grantSpi (Piece.sub hF (by decide +kernel)) (Keeps.other h15 (hpins := .inr (hF (by decide +kernel))))

/-! ### Fleet -/

theorem keeps_meterDone {F : List Piece} {a s : State} {c : Cmd} {r : MeterRes} {wrote : Bool} (hF : [.hti, .ring, .SHP_CTX_CNT, .SEC_CNT,
    .HTI_W_QFAULT, .HTI_CNT] ⊆ F) (hs : Keeps F a s) :
    Keeps F a (State.meterDone s c r wrote) := by
  delta State.meterDone
  refine keeps_ite (fun _ => keeps_finish (Piece.sub hF (by decide +kernel)) hs) (fun _ => ?_)
  refine keeps_ite (fun _ => keeps_finish (Piece.sub hF (by decide +kernel)) hs) (fun _ => ?_)
  extract_lets +onlyGivenNames -merge -lift -underBinder s1
  have h2 : Keeps F a s1 := by
    unfold s1
    exact keeps_ite (fun _ => hs) (fun _ => keeps_emit hs)
  clear_value s1
  exact keeps_finish (Piece.sub hF (by decide +kernel)) h2

theorem keeps_meterOp {F : List Piece} {a s : State} {op ctx count seq : ℕ} {right : Bool} (hF : [.fleet, .MTR_CNT, .MTR_ARCH] ⊆ F) (hs : Keeps F
    a s) :
    KeepsP F a (State.meterOp s op ctx count seq right) := by
  delta State.meterOp
  extract_lets +onlyGivenNames -merge -lift -underBinder f8
  unfold f8
  beta_reduce
  refine keepsP_ite (fun _ => KeepsP.mk hs) (fun _ => ?_)
  refine keepsP_ite (fun _ => ?_) (fun _ => ?_)
  · extract_lets +onlyGivenNames -merge -lift -underBinder v1 v2
    clear_value v1 v2
    exact KeepsP.mk (keeps_bump (keeps_tickFree hs) ⟨rfl, hF (by decide +kernel)⟩)
  · refine keepsP_ite (fun _ => ?_) (fun _ => ?_)
    · extract_lets +onlyGivenNames -merge -lift -underBinder v3
      clear_value v3
      exact KeepsP.mk hs
    · extract_lets +onlyGivenNames -merge -lift -underBinder v4 v5
      clear_value v4 v5
      extract_lets +onlyGivenNames -merge -lift -underBinder s6
      have h7 : Keeps F a s6 := by
        unfold s6
        exact keeps_refreshArch (Piece.sub hF (by decide +kernel)) (keeps_setFleet (Piece.sub hF (by decide +kernel)) hs)
      clear_value s6
      exact KeepsP.mk h7

theorem keeps_remoteMeter {F : List Piece} {a : State} {m : MeterMsg} {s : State} (hF : [.hti, .fleet, .ring, .SHP_CTX_CNT, .SEC_CNT, .RING_CNT,
    .MTR_CNT, .MTR_ARCH, .HTI_W_QFAULT, .HTI_CNT] ⊆ F) (hs : Keeps F a s) :
    Keeps F a (remoteMeter m s) := by
  delta remoteMeter
  split
  · extract_lets +onlyGivenNames -merge -lift -underBinder p1
    have h2 : KeepsP F a p1 := by
      unfold p1
      exact keeps_meterOp (Piece.sub hF (by decide +kernel)) hs
    clear_value p1
    extract_lets +onlyGivenNames -merge -lift -underBinder v3
    clear_value v3
    exact keeps_send (Piece.sub hF (by decide +kernel)) (keeps_bump (KeepsP.proj h2) ⟨rfl, hF (by decide +kernel)⟩)
  · split
    · extract_lets +onlyGivenNames -merge -lift -underBinder v4
      clear_value v4
      extract_lets +onlyGivenNames -merge -lift -underBinder s5
      have h6 : Keeps F a s5 := by
        unfold s5
        exact keeps_setFleet (Piece.sub hF (by decide +kernel)) hs
      clear_value s5
      exact keeps_meterDone (Piece.sub hF (by decide +kernel)) h6
    · exact hs

theorem keeps_execRemoteMeterRequest {F : List Piece} {a : State} {msg : MeterMsg} {s : State} (hF : [.hti, .fleet, .ring, .SHP_CTX_CNT,
    .SEC_CNT, .RING_CNT, .MTR_CNT, .MTR_ARCH, .HTI_W_QFAULT, .HTI_CNT] ⊆ F) (hs : Keeps F a s) :
    KeepsO F a (execRemoteMeterRequest msg s) := by
  delta execRemoteMeterRequest
  exact KeepsO.mk (keeps_remoteMeter (Piece.sub hF (by decide +kernel)) hs)

theorem keeps_storageTick {F : List Piece} {a s : State} (hF : [.MTR_LIVE] ⊆ F) (hs : Keeps F a s) :
    Keeps F a (storageTick s) := by
  delta storageTick
  exact keeps_foldl (fun s1 x2 h3 => keeps_foldl (fun s4 x5 h6 => keeps_bump h6 ⟨rfl, hF (by decide +kernel)⟩) h3) hs

theorem keeps_execStorageMeterTick {F : List Piece} {a : State} {dt : ℕ} {s : State} (hF : [.fleet, .TIER_STALL, .SHP_CTX_CNT, .RING_PORT_CNT,
    .PWR_CNT, .MTR_LIVE, .HTI_TIME, .HTI_CNT, .GORE_CTX_CNT, .GORE_CLASS, .CTL_RT, .CTL_RST_CNT, .CTL_PIN_CNT] ⊆ F) (hs : Keeps F a s) :
    KeepsO F a (execStorageMeterTick dt s) := by
  delta execStorageMeterTick
  exact KeepsO.mk (keeps_storageTick (Piece.sub hF (by decide +kernel)) (keeps_pass (Piece.sub hF (by decide +kernel)) hs))

theorem keeps_compTag {F : List Piece} {a : State} {ctx value : ℕ} {s : State} (hF : [.MTR_COMP, .MTR_CNT] ⊆ F) (hs : Keeps F a s) :
    Keeps F a (compTag ctx value s) := by
  delta compTag
  exact keeps_ite (fun _ => keeps_bump hs ⟨rfl, hF (by decide +kernel)⟩) (fun _ => keeps_put hs ⟨rfl, hF (by decide +kernel)⟩)

theorem keeps_execMtrCompTagWrite {F : List Piece} {a : State} {ctx value : ℕ} {s : State} (hF : [.latch, .SEC_CNT, .MTR_COMP, .MTR_CNT] ⊆ F) (hs
    : Keeps F a s) :
    KeepsO F a (execMtrCompTagWrite ctx value s) := by
  delta execMtrCompTagWrite
  exact KeepsO.mk (keeps_ite (fun _ => keeps_hostWrite64 (Piece.sub hF (by decide +kernel)) hs ⟨rfl, hF (by decide +kernel)⟩ (fun y1 h2 =>
      keeps_lockWrite (Piece.sub hF (by decide +kernel)) h2 (fun y3 h4 => keeps_compTag (Piece.sub hF (by decide +kernel)) h4))) (fun _ => hs))

theorem keeps_askMeter {F : List Piece} {a s : State} {c : Cmd} (hF : [.ring, .RING_CNT] ⊆ F) (hs : Keeps F a s) :
    Keeps F a (State.askMeter s c) := by
  delta State.askMeter
  exact keeps_send (Piece.sub hF (by decide +kernel)) hs

theorem keeps_meterRead {F : List Piece} {a : State} {wrote : Bool} {c : Cmd} {s : State} (hF : [.hti, .fleet, .ring, .SHP_CTX_CNT, .SEC_CNT,
    .RING_CNT, .MTR_CNT, .MTR_ARCH, .HTI_W_QFAULT, .HTI_CNT] ⊆ F) (hs : Keeps F a s) :
    Keeps F a (meterRead wrote c s) := by
  delta meterRead
  extract_lets +onlyGivenNames -merge -lift -underBinder v1 v2 v3 v4
  clear_value v1 v2 v3 v4
  refine keeps_ite (fun _ => keeps_finish (Piece.sub hF (by decide +kernel)) hs) (fun _ => ?_)
  refine keeps_ite (fun _ => ?_) (fun _ => keeps_ite (fun _ => keeps_finish (Piece.sub hF (by decide +kernel)) hs) (fun _ => keeps_askMeter
      (Piece.sub hF (by decide +kernel)) (keeps_setFleet (Piece.sub hF (by decide +kernel)) hs)))
  extract_lets +onlyGivenNames -merge -lift -underBinder p5
  have h6 : KeepsP F a p5 := by
    unfold p5
    exact keeps_meterOp (Piece.sub hF (by decide +kernel)) hs
  clear_value p5
  exact keeps_meterDone (Piece.sub hF (by decide +kernel)) (KeepsP.proj h6)

theorem keeps_execMeterReadLive {F : List Piece} {a : State} {k : ℕ} {wrote : Bool} {s : State} (hF : [.hti, .fleet, .ring, .SHP_CTX_CNT,
    .SEC_CNT, .RING_CNT, .MTR_CNT, .MTR_ARCH, .HTI_W_QFAULT, .HTI_CNT] ⊆ F) (hs : Keeps F a s) :
    KeepsO F a (execMeterReadLive k wrote s) := by
  delta execMeterReadLive
  exact KeepsO.mk (keeps_begin (Piece.sub hF (by decide +kernel)) hs (fun y1 y2 h3 => keeps_meterRead (Piece.sub hF (by decide +kernel)) h3))

theorem keeps_supersede {F : List Piece} {a s : State} (hF : [.hti, .fleet, .ring, .SHP_CTX_CNT, .SEC_CNT, .HTI_W_QFAULT, .HTI_CNT, .GORE_ROLE] ⊆
    F) (hs : Keeps F a s) :
    Keeps F a (State.supersede s) := by
  delta State.supersede
  split
  · extract_lets +onlyGivenNames -merge -lift -underBinder v1
    clear_value v1
    exact keeps_finish (Piece.sub hF (by decide +kernel)) (keeps_wr (keeps_setFleet (Piece.sub hF (by decide +kernel)) hs) ⟨rfl, hF
        (by decide +kernel)⟩)
  · exact hs

theorem keeps_roleSet_roleAsk {F : List Piece} {a : State} {c : Cmd} {role : ℕ} {same : Bool} {s : State} (hF : [.hti, .ses, .tier, .gore, .pwr,
    .fleet, .ring, .SHP_CTX_CNT, .SEC_CNT, .PWR_DROGUE, .PWR_CNT, .HTI_W_QFAULT, .HTI_CNT, .GORE_ROLE, .GORE_PANEL, .GORE_CTX, .GORE_CNT,
        .CTL_PM, .CTL_ADM, .CTL_ADM_CNT] ⊆ F) (hs : Keeps F a s) :
    Keeps F a (roleSet.roleAsk c role same s) := by
  delta roleSet.roleAsk
  extract_lets +onlyGivenNames -merge -lift -underBinder s1
  have h2 : Keeps F a s1 := by
    unfold s1
    exact keeps_supersede (Piece.sub hF (by decide +kernel)) (keeps_bump hs ⟨rfl, hF (by decide +kernel)⟩)
  clear_value s1
  refine keeps_ite (fun _ => keeps_finish (Piece.sub hF (by decide +kernel)) h2) (fun _ => ?_)
  extract_lets +onlyGivenNames -merge -lift -underBinder s3
  have h4 : Keeps F a s3 := by
    unfold s3
    exact keeps_wr (keeps_wr h2 ⟨rfl, hF (by decide +kernel)⟩) ⟨rfl, hF (by decide +kernel)⟩
  clear_value s3
  extract_lets +onlyGivenNames -merge -lift -underBinder v5
  clear_value v5
  extract_lets +onlyGivenNames -merge -lift -underBinder s6
  have h7 : Keeps F a s6 := by
    unfold s6
    exact keeps_setFleet (Piece.sub hF (by decide +kernel)) h4
  clear_value s6
  exact keeps_ite (fun _ => keeps_winch (Piece.sub hF (by decide +kernel)) (keeps_roleNow (Piece.sub hF (by decide +kernel)) h7)) (fun _ => h7)

theorem keeps_roleSet {F : List Piece} {a : State} {c : Cmd} {s : State} (hF : [.hti, .ses, .tier, .gore, .pwr, .fleet, .ring, .SHP_CTX_CNT,
    .SEC_CNT, .PWR_DROGUE, .PWR_CNT, .HTI_W_QFAULT, .HTI_CNT, .GORE_ROLE, .GORE_PANEL, .GORE_CTX, .GORE_CNT, .CTL_PM, .CTL_ADM, .CTL_ADM_CNT] ⊆
        F) (hs : Keeps F a s) :
    Keeps F a (roleSet c s) := by
  delta roleSet
  extract_lets +onlyGivenNames -merge -lift -underBinder v1
  clear_value v1
  split
  · exact keeps_ite (fun _ => keeps_finish (Piece.sub hF (by decide +kernel)) hs) (fun _ => keeps_roleSet_roleAsk (Piece.sub hF
        (by decide +kernel)) hs)
  · exact keeps_roleSet_roleAsk (Piece.sub hF (by decide +kernel)) hs

theorem keeps_checkpointAll {F : List Piece} {a s : State} (hF : [.fleet, .MTR_CNT] ⊆ F) (hs : Keeps F a s) :
    Keeps F a (State.checkpointAll s) := by
  delta State.checkpointAll
  exact keeps_bump (keeps_foldl (fun s1 x2 h3 => keeps_checkpoint (Piece.sub hF (by decide +kernel)) h3) hs) ⟨rfl, hF (by decide +kernel)⟩

theorem keeps_execMeterCheckpoint {F : List Piece} {a : State} {dt : ℕ} {s : State} (hF : [.fleet, .TIER_STALL, .SHP_CTX_CNT, .RING_PORT_CNT,
    .PWR_CNT, .MTR_LIVE, .MTR_CNT, .HTI_TIME, .HTI_CNT, .GORE_CTX_CNT, .GORE_CLASS, .CTL_RT, .CTL_RST_CNT, .CTL_PIN_CNT] ⊆ F) (hs : Keeps F a s) :
    KeepsO F a (execMeterCheckpoint dt s) := by
  delta execMeterCheckpoint
  exact KeepsO.mk (keeps_checkpointAll (Piece.sub hF (by decide +kernel)) (keeps_pass (Piece.sub hF (by decide +kernel)) hs))

theorem keeps_execMeterReadAck {F : List Piece} {a : State} {k : ℕ} {s : State} (hF : [.hti, .fleet, .ring, .SHP_CTX_CNT, .SEC_CNT, .RING_CNT,
    .MTR_CNT, .MTR_ARCH, .HTI_W_QFAULT, .HTI_CNT] ⊆ F) (hs : Keeps F a s) :
    KeepsO F a (execMeterReadAck k s) := by
  delta execMeterReadAck
  exact KeepsO.mk (keeps_begin (Piece.sub hF (by decide +kernel)) hs (fun y1 y2 h3 => keeps_meterRead (Piece.sub hF (by decide +kernel)) h3))

theorem keeps_admissionEval {F : List Piece} {a s : State} (hF : [.mbx, .fleet, .MBX_SUM, .MBX_CNT, .HTI_W_MBSTS, .HTI_W_EVT, .HTI_CNT, .CTL_ADM,
    .CTL_ADM_CNT] ⊆ F) (hs : Keeps F a s) :
    Keeps F a (admissionEval s) := by
  delta admissionEval
  extract_lets +onlyGivenNames -merge -lift -underBinder v1 v2
  clear_value v1 v2
  extract_lets +onlyGivenNames -merge -lift -underBinder s3
  have h4 : Keeps F a s3 := by
    unfold s3
    exact keeps_wr hs ⟨rfl, hF (by decide +kernel)⟩
  clear_value s3
  extract_lets +onlyGivenNames -merge -lift -underBinder s5
  have h6 : Keeps F a s5 := by
    unfold s5
    exact keeps_bump (keeps_wr h4 ⟨rfl, hF (by decide +kernel)⟩) ⟨rfl, hF (by decide +kernel)⟩
  clear_value s5
  extract_lets +onlyGivenNames -merge -lift -underBinder s7
  have h8 : Keeps F a s7 := by
    unfold s7
    exact keeps_bump h6 ⟨rfl, hF (by decide +kernel)⟩
  clear_value s7
  extract_lets +onlyGivenNames -merge -lift -underBinder v9
  clear_value v9
  extract_lets +onlyGivenNames -merge -lift -underBinder s10
  have h11 : Keeps F a s10 := by
    unfold s10
    exact keeps_setFleet (Piece.sub hF (by decide +kernel)) h8
  clear_value s10
  extract_lets +onlyGivenNames -merge -lift -underBinder v12
  clear_value v12
  extract_lets +onlyGivenNames -merge -lift -underBinder s13
  have h14 : Keeps F a s13 := by
    unfold s13
    exact keeps_ite (fun _ => keeps_ite (fun _ => h6) (fun _ => keeps_ite (fun _ => keeps_askShift (Piece.sub hF (by decide +kernel)) h11) (fun _
        => h11))) (fun _ => keeps_ite (fun _ => keeps_setFleet (Piece.sub hF (by decide +kernel)) (keeps_wr h4 ⟨rfl, hF (by decide +kernel)⟩))
            (fun _ => h4))
  clear_value s13
  exact keeps_ite (fun _ => keeps_autoShift (Piece.sub hF (by decide +kernel)) h14) (fun _ => h14)

theorem keeps_execAdmissionEvaluation {F : List Piece} {a : State} {dt : ℕ} {s : State} (hF : [.mbx, .fleet, .TIER_STALL, .SHP_CTX_CNT,
    .RING_PORT_CNT, .PWR_CNT, .MTR_LIVE, .MBX_SUM, .MBX_CNT, .HTI_W_MBSTS, .HTI_W_EVT, .HTI_TIME, .HTI_CNT, .GORE_CTX_CNT, .GORE_CLASS, .CTL_RT,
        .CTL_RST_CNT, .CTL_PIN_CNT, .CTL_ADM, .CTL_ADM_CNT] ⊆ F) (hs : Keeps F a s) :
    KeepsO F a (execAdmissionEvaluation dt s) := by
  delta execAdmissionEvaluation
  refine KeepsO.mk ?_
  extract_lets +onlyGivenNames -merge -lift -underBinder s1
  have h2 : Keeps F a s1 := by
    unfold s1
    exact keeps_pass (Piece.sub hF (by decide +kernel)) hs
  clear_value s1
  exact keeps_ite (fun _ => keeps_admissionEval (Piece.sub hF (by decide +kernel)) h2) (fun _ => h2)

theorem keeps_remoteTimeout {F : List Piece} {a : State} {k : ℕ} {s : State} (hF : [.hti, .fleet, .ring, .SHP_CTX_CNT, .SEC_CNT, .RING_CNT,
    .HTI_W_QFAULT, .HTI_CNT] ⊆ F) (hs : Keeps F a s) :
    Keeps F a (remoteTimeout k s) := by
  delta remoteTimeout
  split
  · exact keeps_ite (fun _ => keeps_ite (fun _ => keeps_askMeter (Piece.sub hF (by decide +kernel)) (keeps_setFleet (Piece.sub hF
        (by decide +kernel)) hs)) (fun _ => keeps_finish (Piece.sub hF (by decide +kernel)) (keeps_setFleet (Piece.sub hF (by decide +kernel))
            hs))) (fun _ => hs)
  · exact hs

theorem keeps_execRemoteMeterTimeout {F : List Piece} {a : State} {dt k : ℕ} {s : State} (hF : [.hti, .fleet, .ring, .TIER_STALL, .SHP_CTX_CNT,
    .SEC_CNT, .RING_PORT_CNT, .RING_CNT, .PWR_CNT, .MTR_LIVE, .HTI_W_QFAULT, .HTI_TIME, .HTI_CNT, .GORE_CTX_CNT, .GORE_CLASS, .CTL_RT,
        .CTL_RST_CNT, .CTL_PIN_CNT] ⊆ F) (hs : Keeps F a s) :
    KeepsO F a (execRemoteMeterTimeout dt k s) := by
  delta execRemoteMeterTimeout
  exact KeepsO.mk (keeps_remoteTimeout (Piece.sub hF (by decide +kernel)) (keeps_pass (Piece.sub hF (by decide +kernel)) hs))

theorem keeps_execRoleSet {F : List Piece} {a : State} {k : ℕ} {s : State} (hF : [.hti, .ses, .tier, .gore, .pwr, .fleet, .ring, .SHP_CTX_CNT,
    .SEC_CNT, .PWR_DROGUE, .PWR_CNT, .HTI_W_QFAULT, .HTI_CNT, .GORE_ROLE, .GORE_PANEL, .GORE_CTX, .GORE_CNT, .CTL_PM, .CTL_ADM, .CTL_ADM_CNT] ⊆
        F) (hs : Keeps F a s) :
    KeepsO F a (execRoleSet k s) := by
  delta execRoleSet
  exact KeepsO.mk (keeps_begin (Piece.sub hF (by decide +kernel)) hs (fun y1 y2 h3 => keeps_roleSet (Piece.sub hF (by decide +kernel)) h3))

theorem keeps_execMeterReadFetch {F : List Piece} {a : State} {k : ℕ} {wrote : Bool} {s : State} (hF : [.hti, .fleet, .ring, .SHP_CTX_CNT,
    .SEC_CNT, .RING_CNT, .MTR_CNT, .MTR_ARCH, .HTI_W_QFAULT, .HTI_CNT] ⊆ F) (hs : Keeps F a s) :
    KeepsO F a (execMeterReadFetch k wrote s) := by
  delta execMeterReadFetch
  exact KeepsO.mk (keeps_begin (Piece.sub hF (by decide +kernel)) hs (fun y1 y2 h3 => keeps_meterRead (Piece.sub hF (by decide +kernel)) h3))

theorem keeps_execMtrCntClr {F : List Piece} {a : State} {value : ℕ} {s : State} (hF : [.MTR_CNT] ⊆ F) (hs : Keeps F a s) :
    KeepsO F a (execMtrCntClr value s) := by
  delta execMtrCntClr
  exact KeepsO.mk (keeps_hostWrite hs (fun y1 h2 => keeps_ite (fun _ => keeps_zeroAll h2 ⟨rfl, hF (by decide +kernel)⟩) (fun _ => h2)))

theorem keeps_execCtlAdmCntClr {F : List Piece} {a : State} {value : ℕ} {s : State} (hF : [.CTL_ADM_CNT] ⊆ F) (hs : Keeps F a s) :
    KeepsO F a (execCtlAdmCntClr value s) := by
  delta execCtlAdmCntClr
  exact KeepsO.mk (keeps_hostWrite hs (fun y1 h2 => keeps_ite (fun _ => keeps_zeroAll h2 ⟨rfl, hF (by decide +kernel)⟩) (fun _ => h2)))

/-! ### Resets -/

theorem keeps_putFn {F : List Piece} {a s : State} {f value : ℕ} (hF : [.CTL_FN] ⊆ F) (hs : Keeps F a s) :
    Keeps F a (State.putFn s f value) := by
  delta State.putFn
  exact keeps_putWord hs ((Piece.fields hF (by decide +kernel)))

theorem keeps_fnEnable {F : List Piece} {a : State} {f value : ℕ} {s : State} (hF : [.boot, .CTL_FN] ⊆ F) (hs : Keeps F a s) :
    Keeps F a (fnEnable f value s) := by
  delta fnEnable
  extract_lets +onlyGivenNames -merge -lift -underBinder s1
  have h2 : Keeps F a s1 := by
    unfold s1
    exact keeps_putFn (Piece.sub hF (by decide +kernel)) hs
  clear_value s1
  split
  · exact h2
  · exact keeps_wr h2 ⟨rfl, hF (by decide +kernel)⟩
  · exact keeps_setBoot (Piece.sub hF (by decide +kernel)) h2

theorem keeps_execCtlFnEnable {F : List Piece} {a : State} {f value : ℕ} {s : State} (hF : [.boot, .ses, .tier, .gore, .pwr, .PWR_DROGUE,
    .PWR_CNT, .GORE_PANEL, .GORE_CTX, .GORE_CNT, .CTL_PM, .CTL_FN] ⊆ F) (hs : Keeps F a s) :
    KeepsO F a (execCtlFnEnable f value s) := by
  delta execCtlFnEnable
  exact KeepsO.mk (keeps_ite (fun _ => keeps_hostWrite hs (fun y1 h2 => keeps_winch (Piece.sub hF (by decide +kernel)) (keeps_fnEnable (Piece.sub
      hF (by decide +kernel)) h2))) (fun _ => hs))

theorem keeps_flr {F : List Piece} {a : State} {port : ℕ} {vf : Option ℕ} {s : State} (hF : Piece.withRegs [.latch, .hti, .mbx, .ses, .tier,
    .gore, .attn, .pwr, .fab, .fleet, .dec, .pool, .rcl, .ring] ⊆ F) (hs : Keeps F a s) :
    Keeps F a (flr port vf s) := by
  delta flr
  extract_lets +onlyGivenNames -merge -lift -underBinder v1
  clear_value v1
  exact keeps_ite (fun _ => hs) (fun _ => keeps_foldl (fun s2 x3 h4 => keeps_ctxReset (Piece.sub hF (by decide +kernel)) h4) hs)

theorem keeps_startP3 {F : List Piece} {a s : State} (hF : Piece.withRegs [.latch, .hti, .mbx, .boot, .ses, .tier, .gore, .attn, .pwr, .fab,
    .fleet, .dec, .pool, .rcl, .ring] ⊆ F) (hs : Keeps F a s) :
    Keeps F a (State.startP3 s) := by
  delta State.startP3
  extract_lets +onlyGivenNames -merge -lift -underBinder s1
  have h2 : Keeps F a s1 := by
    unfold s1
    exact keeps_wr (keeps_wr hs ⟨rfl, hF (by decide +kernel)⟩) ⟨rfl, hF (by decide +kernel)⟩
  clear_value s1
  extract_lets +onlyGivenNames -merge -lift -underBinder v3
  clear_value v3
  extract_lets +onlyGivenNames -merge -lift -underBinder s4
  have h5 : Keeps F a s4 := by
    unfold s4
    exact keeps_tdiErrors (Piece.sub hF (by decide +kernel)) (keeps_setBoot (Piece.sub hF (by decide +kernel)) h2)
  clear_value s4
  exact keeps_clearRegs (Piece.sub hF (by decide +kernel)) h5

theorem keeps_writeDown {F : List Piece} {a s : State} (hF : [.ses, .tier, .fleet, .pool, .TIER_OBJ, .TIER_DRV, .TIER_CNT, .POOL_OBJ, .POOL_CNT,
    .CTL_SES, .CTL_SES_CNT, .CTL_READY] ⊆ F) (hs : Keeps F a s) :
    Keeps F a (State.writeDown s) := by
  delta State.writeDown
  extract_lets +onlyGivenNames -merge -lift -underBinder s1
  have h2 : Keeps F a s1 := by
    unfold s1
    exact keeps_foldl (fun s3 x4 h5 => keeps_park (Piece.sub hF (by decide +kernel)) h5) hs
  clear_value s1
  exact keeps_foldl (fun s6 x7 h8 => keeps_demotePage (Piece.sub hF (by decide +kernel)) h8) h2

theorem keeps_noP3 {F : List Piece} {a s : State} {why : ℕ} (hF : [.CTL_PM] ⊆ F) (hs : Keeps F a s) :
    Keeps F a (State.noP3 s why) := by
  delta State.noP3
  exact keeps_wr (keeps_wr (keeps_wr hs ⟨rfl, hF (by decide +kernel)⟩) ⟨rfl, hF (by decide +kernel)⟩) ⟨rfl, hF (by decide +kernel)⟩

theorem keeps_p3Req {F : List Piece} {a s : State} (hF : Piece.withRegs [.latch, .hti, .mbx, .boot, .ses, .tier, .gore, .attn, .pwr, .fab,
    .fleet, .dec, .pool, .rcl, .ring] ⊆ F) (hs : Keeps F a s) :
    Keeps F a (p3Req s) := by
  delta p3Req
  extract_lets +onlyGivenNames -merge -lift -underBinder f12
  unfold f12
  beta_reduce
  extract_lets +onlyGivenNames -merge -lift -underBinder s1
  have h2 : Keeps F a s1 := by
    unfold s1
    exact keeps_leaveP2 (Piece.sub hF (by decide +kernel)) hs
  clear_value s1
  refine keeps_ite (fun _ => keeps_bump (keeps_noP3 (Piece.sub hF (by decide +kernel)) h2) ⟨rfl, hF (by decide +kernel)⟩) (fun _ => ?_)
  refine keeps_ite (fun _ => keeps_bump (keeps_noP3 (Piece.sub hF (by decide +kernel)) h2) ⟨rfl, hF (by decide +kernel)⟩) (fun _ => ?_)
  refine keeps_ite (fun _ => keeps_bump (keeps_noP3 (Piece.sub hF (by decide +kernel)) h2) ⟨rfl, hF (by decide +kernel)⟩) (fun _ => ?_)
  extract_lets +onlyGivenNames -merge -lift -underBinder s3
  have h4 : Keeps F a s3 := by
    unfold s3
    refine keeps_foldl (fun s5 x6 h7 => ?_) h2
    extract_lets +onlyGivenNames -merge -lift -underBinder s8
    have h9 : Keeps F a s8 := by
      unfold s8
      split
      · exact keeps_ite (fun _ => h7) (fun _ => keeps_park (Piece.sub hF (by decide +kernel)) h7)
      · exact h7
    clear_value s8
    exact keeps_autoDeflate (Piece.sub hF (by decide +kernel)) h9
  clear_value s3
  extract_lets +onlyGivenNames -merge -lift -underBinder s10
  have h11 : Keeps F a s10 := by
    unfold s10
    exact keeps_writeDown (Piece.sub hF (by decide +kernel)) h4
  clear_value s10
  exact keeps_ite (fun _ => keeps_startP3 (Piece.sub hF (by decide +kernel)) h11) (fun _ => keeps_bump (keeps_noP3 (Piece.sub hF
      (by decide +kernel)) h4) ⟨rfl, hF (by decide +kernel)⟩)

theorem keeps_p3Write {F : List Piece} {a : State} {value : ℕ} {s : State} (hF : Piece.withRegs [.latch, .hti, .mbx, .boot, .ses, .tier, .gore,
    .attn, .pwr, .fab, .fleet, .dec, .pool, .rcl, .ring] ⊆ F) (hs : Keeps F a s) :
    Keeps F a (p3Write value s) := by
  delta p3Write
  extract_lets +onlyGivenNames -merge -lift -underBinder s1
  have h2 : Keeps F a s1 := by
    unfold s1
    exact keeps_putWord hs ((Piece.fields hF (by decide +kernel)))
  clear_value s1
  exact keeps_ite (fun _ => keeps_p3Req (Piece.sub hF (by decide +kernel)) h2) (fun _ => h2)

theorem keeps_execP3Req {F : List Piece} {a : State} {value : ℕ} {s : State} (hF : Piece.withRegs [.latch, .hti, .mbx, .boot, .ses, .tier, .gore,
    .attn, .pwr, .fab, .fleet, .dec, .pool, .rcl, .ring] ⊆ F) (hs : Keeps F a s) :
    KeepsO F a (execP3Req value s) := by
  delta execP3Req
  exact KeepsO.mk (keeps_hostWrite hs (fun y1 h2 => keeps_p3Write (Piece.sub hF (by decide +kernel)) h2))

theorem keeps_ctxRst {F : List Piece} {a : State} {value : ℕ} {s : State} (hF : Piece.withRegs [.latch, .hti, .mbx, .ses, .tier, .gore, .attn,
    .pwr, .fab, .fleet, .dec, .pool, .rcl, .ring] ⊆ F) (hs : Keeps F a s) :
    Keeps F a (ctxRst value s) := by
  delta ctxRst
  exact keeps_ite (fun _ => hs) (fun _ => keeps_foldl (fun s1 x2 h3 => keeps_ite (fun _ => keeps_ctxReset (Piece.sub hF (by decide +kernel)) h3)
      (fun _ => h3)) hs)

theorem keeps_execCtlCtxRst {F : List Piece} {a : State} {value : ℕ} {s : State} (hF : Piece.withRegs [.latch, .hti, .mbx, .ses, .tier, .gore,
    .attn, .pwr, .fab, .fleet, .dec, .pool, .rcl, .ring] ⊆ F) (hs : Keeps F a s) :
    KeepsO F a (execCtlCtxRst value s) := by
  delta execCtlCtxRst
  exact KeepsO.mk (keeps_hostWrite64 (Piece.sub hF (by decide +kernel)) hs ⟨rfl, hF (by decide +kernel)⟩ (fun y1 h2 => keeps_ctxRst (Piece.sub hF
      (by decide +kernel)) h2))

theorem keeps_softEnd {F : List Piece} {a s : State} (hF : [.boot, .CTL_RESET, .CTL_FN] ⊆ F) (hs : Keeps F a s) :
    Keeps F a (softEnd s) := by
  delta softEnd
  refine keeps_ite (fun _ => ?_) (fun _ => hs)
  refine keeps_foldl (fun s1 x2 h3 => ?_) (keeps_wr hs ⟨rfl, hF (by decide +kernel)⟩)
  extract_lets +onlyGivenNames -merge -lift -underBinder v4
  clear_value v4
  exact keeps_ite (fun _ => keeps_fnDone (Piece.sub hF (by decide +kernel)) h3) (fun _ => h3)

theorem keeps_execSoftResetEnd {F : List Piece} {a s : State} (hF : [.boot, .CTL_RESET, .CTL_FN] ⊆ F) (hs : Keeps F a s) :
    KeepsO F a (execSoftResetEnd s) := by
  delta execSoftResetEnd
  exact KeepsO.mk (keeps_softEnd (Piece.sub hF (by decide +kernel)) hs)

theorem keeps_p2Entry {F : List Piece} {a s : State} (hF : [.gore, .GORE_PANEL, .GORE_CNT, .CTL_RST_CNT, .CTL_PM] ⊆ F) (hs : Keeps F a s) :
    Keeps F a (p2Entry s) := by
  delta p2Entry
  refine keeps_ite (fun _ => ?_) (fun _ => hs)
  extract_lets +onlyGivenNames -merge -lift -underBinder s1
  have h2 : Keeps F a s1 := by
    unfold s1
    exact keeps_foldl (fun s3 x4 h5 => keeps_ite (fun _ => h5) (fun _ => keeps_bump (keeps_wr h5 ⟨rfl, hF (by decide +kernel)⟩) ⟨rfl, hF
        (by decide +kernel)⟩)) hs
  clear_value s1
  extract_lets +onlyGivenNames -merge -lift -underBinder v6
  clear_value v6
  extract_lets +onlyGivenNames -merge -lift -underBinder s7
  have h8 : Keeps F a s7 := by
    unfold s7
    exact Keeps.other h2 (hgore := .inr (hF (by decide +kernel)))
  clear_value s7
  exact keeps_bump (keeps_wr h8 ⟨rfl, hF (by decide +kernel)⟩) ⟨rfl, hF (by decide +kernel)⟩

theorem keeps_abandonP3 {F : List Piece} {a s : State} {why : ℕ} (hF : [.ses, .tier, .CTL_READY, .CTL_PM] ⊆ F) (hs : Keeps F a s) :
    Keeps F a (State.abandonP3 s why) := by
  delta State.abandonP3
  extract_lets +onlyGivenNames -merge -lift -underBinder s1
  have h2 : Keeps F a s1 := by
    unfold s1
    exact keeps_wr (keeps_noP3 (Piece.sub hF (by decide +kernel)) hs) ⟨rfl, hF (by decide +kernel)⟩
  clear_value s1
  extract_lets +onlyGivenNames -merge -lift -underBinder s3
  have h4 : Keeps F a s3 := by
    unfold s3
    exact keeps_wr h2 ⟨rfl, hF (by decide +kernel)⟩
  clear_value s3
  extract_lets +onlyGivenNames -merge -lift -underBinder s5
  have h6 : Keeps F a s5 := by
    unfold s5
    exact keeps_foldl (fun s7 x8 h9 => keeps_ite (fun _ => keeps_wrBit h9 ⟨rfl, hF (by decide +kernel)⟩) (fun _ => h9)) h4
  clear_value s5
  extract_lets +onlyGivenNames -merge -lift -underBinder s10
  have h11 : Keeps F a s10 := by
    unfold s10
    exact keeps_foldl (fun s12 x13 h14 => keeps_ite (fun _ => keeps_putPage (Piece.sub hF (by decide +kernel)) h14) (fun _ => h14)) h6
  clear_value s10
  exact keeps_refreshPm (Piece.sub hF (by decide +kernel)) (keeps_readyEngines (Piece.sub hF (by decide +kernel)) h11)

theorem keeps_fnTimeout {F : List Piece} {a : State} {f : ℕ} {s : State} (hF : [.hti, .mbx, .ses, .tier, .gore, .attn, .pwr, .fab, .fleet, .dec,
    .pool, .rcl, .ring, .TIER_RSV, .TIER_OBJ, .TIER_DRV, .TIER_CNT, .SHP_CTX_CNT, .SEC_CNT, .RING_CNT, .RCL_IDX, .RCL_GAUGE, .RCL_CTX_CNT,
        .RCL_CNT, .PWR_DROGUE, .PWR_CNT, .POOL_REGION, .POOL_OBJ, .POOL_LEND, .POOL_CNT, .MBX_SUM, .MBX_CNT, .HTI_W_QFAULT, .HTI_W_MBSTS,
            .HTI_W_EVT, .HTI_CNT, .GORE_TILE_CNT, .GORE_ROLE, .GORE_PANEL, .GORE_CTX, .GORE_CTX_CNT, .GORE_CNT, .GORE_ATTN_CNT, .CTL_SES,
                .CTL_SES_CNT, .CTL_RST_CNT, .CTL_READY, .CTL_PM, .CTL_FN, .CTL_ADM, .CTL_ADM_CNT] ⊆ F) (hs : Keeps F a s) :
    Keeps F a (fnTimeout f s) := by
  delta fnTimeout
  extract_lets +onlyGivenNames -merge -lift -underBinder v1
  clear_value v1
  split
  · exact keeps_ite (fun _ => keeps_wr (keeps_fnReset (Piece.sub hF (by decide +kernel)) hs) ⟨rfl, hF (by decide +kernel)⟩) (fun _ => hs)
  · exact hs

theorem keeps_fnStop {F : List Piece} {a s : State} {f state : ℕ} (hF : [.boot, .CTL_FN] ⊆ F) (hs : Keeps F a s) :
    Keeps F a (State.fnStop s f state) := by
  delta State.fnStop
  extract_lets +onlyGivenNames -merge -lift -underBinder s1
  have h2 : Keeps F a s1 := by
    unfold s1
    exact keeps_wr hs ⟨rfl, hF (by decide +kernel)⟩
  clear_value s1
  exact keeps_setBoot (Piece.sub hF (by decide +kernel)) h2

theorem keeps_fnCheck {F : List Piece} {a s : State} {f : ℕ} (hF : [.boot, .ses, .tier, .gore, .pwr, .PWR_DROGUE, .PWR_CNT, .GORE_PANEL,
    .GORE_CTX, .GORE_CNT, .CTL_PM, .CTL_FN] ⊆ F) (hs : Keeps F a s) :
    Keeps F a (State.fnCheck s f) := by
  delta State.fnCheck
  extract_lets +onlyGivenNames -merge -lift -underBinder v1
  clear_value v1
  exact keeps_ite (fun _ => keeps_winch (Piece.sub hF (by decide +kernel)) (keeps_fnDone (Piece.sub hF (by decide +kernel)) hs)) (fun _ => hs)

theorem keeps_fnDisableDrain {F : List Piece} {a : State} {f value : ℕ} {s : State} (hF : [.boot, .ses, .tier, .gore, .pwr, .PWR_DROGUE,
    .PWR_CNT, .GORE_PANEL, .GORE_CTX, .GORE_CNT, .CTL_PM, .CTL_FN] ⊆ F) (hs : Keeps F a s) :
    Keeps F a (fnDisableDrain f value s) := by
  delta fnDisableDrain
  extract_lets +onlyGivenNames -merge -lift -underBinder s1
  have h2 : Keeps F a s1 := by
    unfold s1
    exact keeps_putFn (Piece.sub hF (by decide +kernel)) hs
  clear_value s1
  extract_lets +onlyGivenNames -merge -lift -underBinder v3
  clear_value v3
  extract_lets +onlyGivenNames -merge -lift -underBinder s4
  have h5 : Keeps F a s4 := by
    unfold s4
    exact keeps_setBoot (Piece.sub hF (by decide +kernel)) h2
  clear_value s4
  exact keeps_ite (fun _ => keeps_fnCheck (Piece.sub hF (by decide +kernel)) (keeps_fnStop (Piece.sub hF (by decide +kernel)) h5)) (fun _ => h5)

theorem keeps_execCtlFnDisableDrain {F : List Piece} {a : State} {f value : ℕ} {s : State} (hF : [.boot, .ses, .tier, .gore, .pwr, .PWR_DROGUE,
    .PWR_CNT, .GORE_PANEL, .GORE_CTX, .GORE_CNT, .CTL_PM, .CTL_FN] ⊆ F) (hs : Keeps F a s) :
    KeepsO F a (execCtlFnDisableDrain f value s) := by
  delta execCtlFnDisableDrain
  exact KeepsO.mk (keeps_ite (fun _ => keeps_hostWrite hs (fun y1 h2 => keeps_fnDisableDrain (Piece.sub hF (by decide +kernel)) h2)) (fun _ => hs))

theorem keeps_linksOff {F : List Piece} {a s : State} (hF : [.pins, .fab, .ring, .TIER_OBJ, .RING_PORT, .RING_PORT_CNT, .RING_CNT, .RING_BYP,
    .POOL_PORT, .HTI_PORT, .CTL_READY, .CTL_PIN] ⊆ F) (hs : Keeps F a s) :
    Keeps F a (State.linksOff s) := by
  delta State.linksOff
  extract_lets +onlyGivenNames -merge -lift -underBinder s1
  have h2 : Keeps F a s1 := by
    unfold s1
    exact keeps_foldl (fun s3 x4 h5 => keeps_linkDown (Piece.sub hF (by decide +kernel)) h5) (keeps_closeAll (Piece.sub hF (by decide +kernel)) hs)
  clear_value s1
  extract_lets +onlyGivenNames -merge -lift -underBinder s6
  have h7 : Keeps F a s6 := by
    unfold s6
    exact keeps_wrAll h2 ⟨rfl, hF (by decide +kernel)⟩
  clear_value s6
  extract_lets +onlyGivenNames -merge -lift -underBinder s8
  have h9 : Keeps F a s8 := by
    unfold s8
    exact keeps_wrAll h7 ⟨rfl, hF (by decide +kernel)⟩
  clear_value s8
  extract_lets +onlyGivenNames -merge -lift -underBinder s10
  have h11 : Keeps F a s10 := by
    unfold s10
    exact keeps_wrAll h9 ⟨rfl, hF (by decide +kernel)⟩
  clear_value s10
  extract_lets +onlyGivenNames -merge -lift -underBinder s12
  have h13 : Keeps F a s12 := by
    unfold s12
    exact keeps_wr (keeps_wr h11 ⟨rfl, hF (by decide +kernel)⟩) ⟨rfl, hF (by decide +kernel)⟩
  clear_value s12
  exact Keeps.other h13 (hpins := .inr (hF (by decide +kernel)))

theorem keeps_perstAssert {F : List Piece} {a s : State} (hF : Piece.withRegs [.latch, .hti, .mbx, .boot, .ses, .tier, .gore, .attn, .pwr, .pins,
    .fab, .fleet, .dec, .pool, .rcl, .ring, .sec] ⊆ F) (hs : Keeps F a s) :
    Keeps F a (perstAssert s) := by
  delta perstAssert
  extract_lets +onlyGivenNames -merge -lift -underBinder s1
  have h2 : Keeps F a s1 := by
    unfold s1
    exact keeps_wr hs ⟨rfl, hF (by decide +kernel)⟩
  clear_value s1
  exact keeps_ite (fun _ => h2) (fun _ => keeps_warm (Piece.sub hF (by decide +kernel)) h2)

theorem keeps_execPerstNAssert {F : List Piece} {a : State} {dt : ℕ} {s : State} (hF : Piece.withRegs [.latch, .hti, .mbx, .boot, .ses, .tier,
    .gore, .attn, .pwr, .pins, .fab, .fleet, .dec, .pool, .rcl, .ring, .sec] ⊆ F) (hs : Keeps F a s) :
    KeepsO F a (execPerstNAssert dt s) := by
  delta execPerstNAssert
  exact KeepsO.mk (keeps_perstAssert (Piece.sub hF (by decide +kernel)) (keeps_pass (Piece.sub hF (by decide +kernel)) hs))

theorem keeps_fnEnd {F : List Piece} {a s : State} {f : ℕ} (hF : [.hti, .mbx, .ses, .tier, .gore, .attn, .pwr, .fab, .fleet, .dec, .pool, .rcl,
    .ring, .TIER_RSV, .TIER_OBJ, .TIER_DRV, .TIER_CNT, .SHP_CTX_CNT, .SEC_CNT, .RING_CNT, .RCL_IDX, .RCL_GAUGE, .RCL_CTX_CNT, .RCL_CNT,
        .PWR_DROGUE, .PWR_CNT, .POOL_REGION, .POOL_OBJ, .POOL_LEND, .POOL_CNT, .MBX_SUM, .MBX_CNT, .HTI_W_QFAULT, .HTI_W_MBSTS, .HTI_W_EVT,
            .HTI_CNT, .GORE_TILE_CNT, .GORE_ROLE, .GORE_PANEL, .GORE_CTX, .GORE_CTX_CNT, .GORE_CNT, .GORE_ATTN_CNT, .CTL_SES, .CTL_SES_CNT,
                .CTL_READY, .CTL_PM, .CTL_ADM, .CTL_ADM_CNT] ⊆ F) (hs : Keeps F a s) :
    Keeps F a (State.fnEnd s f) := by
  delta State.fnEnd
  extract_lets +onlyGivenNames -merge -lift -underBinder s1
  have h2 : Keeps F a s1 := by
    unfold s1
    exact keeps_endCmds (Piece.sub hF (by decide +kernel)) hs
  clear_value s1
  exact keeps_ite (fun _ => keeps_offGores (Piece.sub hF (by decide +kernel)) h2) (fun _ => h2)

theorem keeps_fnDisableStop {F : List Piece} {a : State} {f value : ℕ} {s : State} (hF : [.hti, .mbx, .boot, .ses, .tier, .gore, .attn, .pwr,
    .fab, .fleet, .dec, .pool, .rcl, .ring, .TIER_RSV, .TIER_OBJ, .TIER_DRV, .TIER_CNT, .SHP_CTX_CNT, .SEC_CNT, .RING_CNT, .RCL_IDX, .RCL_GAUGE,
        .RCL_CTX_CNT, .RCL_CNT, .PWR_DROGUE, .PWR_CNT, .POOL_REGION, .POOL_OBJ, .POOL_LEND, .POOL_CNT, .MBX_SUM, .MBX_CNT, .HTI_W_QFAULT,
            .HTI_W_MBSTS, .HTI_W_EVT, .HTI_CNT, .GORE_TILE_CNT, .GORE_ROLE, .GORE_PANEL, .GORE_CTX, .GORE_CTX_CNT, .GORE_CNT, .GORE_ATTN_CNT,
                .CTL_SES, .CTL_SES_CNT, .CTL_READY, .CTL_PM, .CTL_FN, .CTL_ADM, .CTL_ADM_CNT] ⊆ F) (hs : Keeps F a s) :
    Keeps F a (fnDisableStop f value s) := by
  delta fnDisableStop
  extract_lets +onlyGivenNames -merge -lift -underBinder s1
  have h2 : Keeps F a s1 := by
    unfold s1
    exact keeps_putFn (Piece.sub hF (by decide +kernel)) hs
  clear_value s1
  extract_lets +onlyGivenNames -merge -lift -underBinder v3
  clear_value v3
  extract_lets +onlyGivenNames -merge -lift -underBinder s4
  have h5 : Keeps F a s4 := by
    unfold s4
    exact keeps_setBoot (Piece.sub hF (by decide +kernel)) h2
  clear_value s4
  split
  · exact keeps_fnCheck (Piece.sub hF (by decide +kernel)) (keeps_fnEnd (Piece.sub hF (by decide +kernel)) (keeps_fnStop (Piece.sub hF
        (by decide +kernel)) h5))
  · exact keeps_fnCheck (Piece.sub hF (by decide +kernel)) (keeps_fnEnd (Piece.sub hF (by decide +kernel)) (keeps_wr h5 ⟨rfl, hF
        (by decide +kernel)⟩))
  · exact h5

theorem keeps_execCtlFnDisableStop {F : List Piece} {a : State} {f value : ℕ} {s : State} (hF : [.hti, .mbx, .boot, .ses, .tier, .gore, .attn,
    .pwr, .fab, .fleet, .dec, .pool, .rcl, .ring, .TIER_RSV, .TIER_OBJ, .TIER_DRV, .TIER_CNT, .SHP_CTX_CNT, .SEC_CNT, .RING_CNT, .RCL_IDX,
        .RCL_GAUGE, .RCL_CTX_CNT, .RCL_CNT, .PWR_DROGUE, .PWR_CNT, .POOL_REGION, .POOL_OBJ, .POOL_LEND, .POOL_CNT, .MBX_SUM, .MBX_CNT,
            .HTI_W_QFAULT, .HTI_W_MBSTS, .HTI_W_EVT, .HTI_CNT, .GORE_TILE_CNT, .GORE_ROLE, .GORE_PANEL, .GORE_CTX, .GORE_CTX_CNT, .GORE_CNT,
                .GORE_ATTN_CNT, .CTL_SES, .CTL_SES_CNT, .CTL_READY, .CTL_PM, .CTL_FN, .CTL_ADM, .CTL_ADM_CNT] ⊆ F) (hs : Keeps F a s) :
    KeepsO F a (execCtlFnDisableStop f value s) := by
  delta execCtlFnDisableStop
  exact KeepsO.mk (keeps_ite (fun _ => keeps_hostWrite hs (fun y1 h2 => keeps_fnDisableStop (Piece.sub hF (by decide +kernel)) h2)) (fun _ => hs))

theorem keeps_resetWrite {F : List Piece} {a s : State} {value : ℕ} (hF : Piece.withRegs [.latch, .hti, .mbx, .boot, .ses, .tier, .gore, .attn,
    .pwr, .pins, .fab, .fleet, .dec, .pool, .rcl, .ring, .sec] ⊆ F) (hs : Keeps F a s) :
    Keeps F a (State.resetWrite s value) := by
  delta State.resetWrite
  exact keeps_ite (fun _ => hs) (fun _ => keeps_ite (fun _ => keeps_bump hs ⟨rfl, hF (by decide +kernel)⟩) (fun _ => keeps_ite (fun _ =>
      keeps_warm (Piece.sub hF (by decide +kernel)) hs) (fun _ => keeps_ite (fun _ => keeps_soft (Piece.sub hF (by decide +kernel)) hs) (fun _ =>
          hs))))

theorem keeps_execCtlResetWarm {F : List Piece} {a : State} {value : ℕ} {s : State} (hF : Piece.withRegs [.latch, .hti, .mbx, .boot, .ses, .tier,
    .gore, .attn, .pwr, .pins, .fab, .fleet, .dec, .pool, .rcl, .ring, .sec] ⊆ F) (hs : Keeps F a s) :
    KeepsO F a (execCtlResetWarm value s) := by
  delta execCtlResetWarm
  exact KeepsO.mk (keeps_hostWrite hs (fun y1 h2 => keeps_resetWrite (Piece.sub hF (by decide +kernel)) h2))

theorem keeps_p3Limit {F : List Piece} {a s : State} (hF : [.ses, .tier, .CTL_READY, .CTL_PM] ⊆ F) (hs : Keeps F a s) :
    Keeps F a (p3Limit s) := by
  delta p3Limit
  exact keeps_ite (fun _ => keeps_abandonP3 (Piece.sub hF (by decide +kernel)) hs) (fun _ => hs)

theorem keeps_fnRst {F : List Piece} {a : State} {value : ℕ} {s : State} (hF : [.hti, .mbx, .ses, .tier, .gore, .attn, .pwr, .fab, .fleet, .dec,
    .pool, .rcl, .ring, .TIER_RSV, .TIER_OBJ, .TIER_DRV, .TIER_CNT, .SHP_CTX_CNT, .SEC_CNT, .RING_CNT, .RCL_IDX, .RCL_GAUGE, .RCL_CTX_CNT,
        .RCL_CNT, .PWR_DROGUE, .PWR_CNT, .POOL_REGION, .POOL_OBJ, .POOL_LEND, .POOL_CNT, .MBX_SUM, .MBX_CNT, .HTI_W_QFAULT, .HTI_W_MBSTS,
            .HTI_W_EVT, .HTI_CNT, .GORE_TILE_CNT, .GORE_ROLE, .GORE_PANEL, .GORE_CTX, .GORE_CTX_CNT, .GORE_CNT, .GORE_ATTN_CNT, .CTL_SES,
                .CTL_SES_CNT, .CTL_RST_CNT, .CTL_READY, .CTL_PM, .CTL_FN, .CTL_ADM, .CTL_ADM_CNT] ⊆ F) (hs : Keeps F a s) :
    Keeps F a (fnRst value s) := by
  delta fnRst
  exact keeps_ite (fun _ => hs) (fun _ => keeps_foldl (fun s1 x2 h3 => keeps_ite (fun _ => keeps_fnReset (Piece.sub hF (by decide +kernel)) h3)
      (fun _ => h3)) hs)

theorem keeps_execCtlFnRst {F : List Piece} {a : State} {value : ℕ} {s : State} (hF : [.hti, .mbx, .ses, .tier, .gore, .attn, .pwr, .fab, .fleet,
    .dec, .pool, .rcl, .ring, .TIER_RSV, .TIER_OBJ, .TIER_DRV, .TIER_CNT, .SHP_CTX_CNT, .SEC_CNT, .RING_CNT, .RCL_IDX, .RCL_GAUGE, .RCL_CTX_CNT,
        .RCL_CNT, .PWR_DROGUE, .PWR_CNT, .POOL_REGION, .POOL_OBJ, .POOL_LEND, .POOL_CNT, .MBX_SUM, .MBX_CNT, .HTI_W_QFAULT, .HTI_W_MBSTS,
            .HTI_W_EVT, .HTI_CNT, .GORE_TILE_CNT, .GORE_ROLE, .GORE_PANEL, .GORE_CTX, .GORE_CTX_CNT, .GORE_CNT, .GORE_ATTN_CNT, .CTL_SES,
                .CTL_SES_CNT, .CTL_RST_CNT, .CTL_READY, .CTL_PM, .CTL_FN, .CTL_ADM, .CTL_ADM_CNT] ⊆ F) (hs : Keeps F a s) :
    KeepsO F a (execCtlFnRst value s) := by
  delta execCtlFnRst
  exact KeepsO.mk (keeps_hostWrite hs (fun y1 h2 => keeps_fnRst (Piece.sub hF (by decide +kernel)) h2))

theorem keeps_execInputOvervoltage {F : List Piece} {a : State} {dt : ℕ} {s : State} (hF : Piece.withRegs [.latch, .hti, .mbx, .boot, .ses,
    .tier, .gore, .attn, .pwr, .pins, .fab, .fleet, .dec, .pool, .rcl, .ring, .sec] ⊆ F) (hs : Keeps F a s) :
    KeepsO F a (execInputOvervoltage dt s) := by
  delta execInputOvervoltage
  exact KeepsO.mk (keeps_powerOff (Piece.sub hF (by decide +kernel)) (keeps_pass (Piece.sub hF (by decide +kernel)) hs))

theorem keeps_execP3LimitExpiry {F : List Piece} {a : State} {dt : ℕ} {s : State} (hF : [.ses, .tier, .fleet, .TIER_STALL, .SHP_CTX_CNT,
    .RING_PORT_CNT, .PWR_CNT, .MTR_LIVE, .HTI_TIME, .HTI_CNT, .GORE_CTX_CNT, .GORE_CLASS, .CTL_RT, .CTL_RST_CNT, .CTL_READY, .CTL_PM,
        .CTL_PIN_CNT] ⊆ F) (hs : Keeps F a s) :
    KeepsO F a (execP3LimitExpiry dt s) := by
  delta execP3LimitExpiry
  exact KeepsO.mk (keeps_p3Limit (Piece.sub hF (by decide +kernel)) (keeps_pass (Piece.sub hF (by decide +kernel)) hs))

theorem keeps_askAtBoot {F : List Piece} {a s : State} (hF : [.gore, .pwr, .PWR_DROGUE, .PWR_CNT] ⊆ F) (hs : Keeps F a s) :
    Keeps F a (State.askAtBoot s) := by
  delta State.askAtBoot
  extract_lets +onlyGivenNames -merge -lift -underBinder s1
  have h2 : Keeps F a s1 := by
    unfold s1
    exact keeps_foldl (fun s3 x4 h5 => keeps_askWake (Piece.sub hF (by decide +kernel)) h5) (keeps_askStacks (Piece.sub hF (by decide +kernel)) hs)
  clear_value s1
  extract_lets +onlyGivenNames -merge -lift -underBinder s6
  have h7 : Keeps F a s6 := by
    unfold s6
    exact keeps_askAllPanels (Piece.sub hF (by decide +kernel)) h2
  clear_value s6
  extract_lets +onlyGivenNames -merge -lift -underBinder s8
  have h9 : Keeps F a s8 := by
    unfold s8
    exact keeps_foldl (fun s10 x11 h12 => keeps_askWake (Piece.sub hF (by decide +kernel)) h12) h7
  clear_value s8
  extract_lets +onlyGivenNames -merge -lift -underBinder s13
  have h14 : Keeps F a s13 := by
    unfold s13
    exact keeps_foldl (fun s15 x16 h17 => keeps_ite (fun _ => h17) (fun _ => keeps_askWake (Piece.sub hF (by decide +kernel)) h17)) h9
  clear_value s13
  extract_lets +onlyGivenNames -merge -lift -underBinder s18
  have h19 : Keeps F a s18 := by
    unfold s18
    exact keeps_foldl (fun s20 x21 h22 => keeps_ite (fun _ => keeps_askWake (Piece.sub hF (by decide +kernel)) h22) (fun _ => h22)) h14
  clear_value s18
  exact keeps_ite (fun _ => h19) (fun _ => keeps_foldl (fun s23 x24 h25 => keeps_askWake (Piece.sub hF (by decide +kernel)) h25) h19)

theorem keeps_exitP3 {F : List Piece} {a s : State} (hF : Piece.withRegs [.boot, .gore, .attn, .pwr, .fab, .fleet] ⊆ F) (hs : Keeps F a s) :
    Keeps F a (State.exitP3 s) := by
  delta State.exitP3
  extract_lets +onlyGivenNames -merge -lift -underBinder s1
  have h2 : Keeps F a s1 := by
    unfold s1
    exact keeps_wr (keeps_wr hs ⟨rfl, hF (by decide +kernel)⟩) ⟨rfl, hF (by decide +kernel)⟩
  clear_value s1
  extract_lets +onlyGivenNames -merge -lift -underBinder v3
  clear_value v3
  extract_lets +onlyGivenNames -merge -lift -underBinder s4
  have h5 : Keeps F a s4 := by
    unfold s4
    exact keeps_refreshFloors (Piece.sub hF (by decide +kernel)) (keeps_loadNvm (Piece.sub hF (by decide +kernel)) (keeps_setBoot (Piece.sub hF
        (by decide +kernel)) (keeps_bridleClear (Piece.sub hF (by decide +kernel)) h2)))
  clear_value s4
  extract_lets +onlyGivenNames -merge -lift -underBinder v6 v7
  clear_value v6 v7
  extract_lets +onlyGivenNames -merge -lift -underBinder s8
  have h9 : Keeps F a s8 := by
    unfold s8
    exact Keeps.other h5 (hpwr := .inr (hF (by decide +kernel))) (hfab := .inr (hF (by decide +kernel)))
  clear_value s8
  extract_lets +onlyGivenNames -merge -lift -underBinder s10
  have h11 : Keeps F a s10 := by
    unfold s10
    exact keeps_wr h9 ⟨rfl, hF (by decide +kernel)⟩
  clear_value s10
  exact keeps_bump (keeps_askAtBoot (Piece.sub hF (by decide +kernel)) (keeps_wr (keeps_wr h11 ⟨rfl, hF (by decide +kernel)⟩) ⟨rfl, hF
      (by decide +kernel)⟩)) ⟨rfl, hF (by decide +kernel)⟩

theorem keeps_execP2IdleEntry {F : List Piece} {a : State} {dt : ℕ} {s : State} (hF : [.gore, .fleet, .TIER_STALL, .SHP_CTX_CNT, .RING_PORT_CNT,
    .PWR_CNT, .MTR_LIVE, .HTI_TIME, .HTI_CNT, .GORE_PANEL, .GORE_CTX_CNT, .GORE_CNT, .GORE_CLASS, .CTL_RT, .CTL_RST_CNT, .CTL_PM, .CTL_PIN_CNT] ⊆
        F) (hs : Keeps F a s) :
    KeepsO F a (execP2IdleEntry dt s) := by
  delta execP2IdleEntry
  exact KeepsO.mk (keeps_p2Entry (Piece.sub hF (by decide +kernel)) (keeps_pass (Piece.sub hF (by decide +kernel)) hs))

theorem keeps_execInputUndervoltage {F : List Piece} {a : State} {dt : ℕ} {s : State} (hF : Piece.withRegs [.latch, .hti, .mbx, .boot, .ses,
    .tier, .gore, .attn, .pwr, .pins, .fab, .fleet, .dec, .pool, .rcl, .ring, .sec] ⊆ F) (hs : Keeps F a s) :
    KeepsO F a (execInputUndervoltage dt s) := by
  delta execInputUndervoltage
  exact KeepsO.mk (keeps_powerOff (Piece.sub hF (by decide +kernel)) (keeps_pass (Piece.sub hF (by decide +kernel)) hs))

theorem keeps_execFnDisableTimeout {F : List Piece} {a : State} {dt f : ℕ} {s : State} (hF : [.hti, .mbx, .ses, .tier, .gore, .attn, .pwr, .fab,
    .fleet, .dec, .pool, .rcl, .ring, .TIER_STALL, .TIER_RSV, .TIER_OBJ, .TIER_DRV, .TIER_CNT, .SHP_CTX_CNT, .SEC_CNT, .RING_PORT_CNT, .RING_CNT,
        .RCL_IDX, .RCL_GAUGE, .RCL_CTX_CNT, .RCL_CNT, .PWR_DROGUE, .PWR_CNT, .POOL_REGION, .POOL_OBJ, .POOL_LEND, .POOL_CNT, .MTR_LIVE, .MBX_SUM,
            .MBX_CNT, .HTI_W_QFAULT, .HTI_W_MBSTS, .HTI_W_EVT, .HTI_TIME, .HTI_CNT, .GORE_TILE_CNT, .GORE_ROLE, .GORE_PANEL, .GORE_CTX,
                .GORE_CTX_CNT, .GORE_CNT, .GORE_CLASS, .GORE_ATTN_CNT, .CTL_SES, .CTL_SES_CNT, .CTL_RT, .CTL_RST_CNT, .CTL_READY, .CTL_PM,
                    .CTL_PIN_CNT, .CTL_FN, .CTL_ADM, .CTL_ADM_CNT] ⊆ F) (hs : Keeps F a s) :
    KeepsO F a (execFnDisableTimeout dt f s) := by
  delta execFnDisableTimeout
  refine KeepsO.mk ?_
  extract_lets +onlyGivenNames -merge -lift -underBinder s1
  have h2 : Keeps F a s1 := by
    unfold s1
    exact keeps_pass (Piece.sub hF (by decide +kernel)) hs
  clear_value s1
  exact keeps_ite (fun _ => keeps_fnTimeout (Piece.sub hF (by decide +kernel)) h2) (fun _ => h2)

theorem keeps_fnResetEnd {F : List Piece} {a : State} {f : ℕ} {s : State} (hF : [.boot, .ses, .tier, .gore, .pwr, .PWR_DROGUE, .PWR_CNT,
    .GORE_PANEL, .GORE_CTX, .GORE_CNT, .CTL_READY, .CTL_PM, .CTL_FN] ⊆ F) (hs : Keeps F a s) :
    Keeps F a (fnResetEnd f s) := by
  delta fnResetEnd
  extract_lets +onlyGivenNames -merge -lift -underBinder v1
  clear_value v1
  refine keeps_ite (fun _ => hs) (fun _ => ?_)
  extract_lets +onlyGivenNames -merge -lift -underBinder s2
  have h3 : Keeps F a s2 := by
    unfold s2
    exact hs
  clear_value s2
  extract_lets +onlyGivenNames -merge -lift -underBinder s4
  have h5 : Keeps F a s4 := by
    unfold s4
    exact keeps_readyEngine (Piece.sub hF (by decide +kernel)) (keeps_wrBit hs ⟨rfl, hF (by decide +kernel)⟩)
  clear_value s4
  extract_lets +onlyGivenNames -merge -lift -underBinder v6
  clear_value v6
  exact keeps_winch (Piece.sub hF (by decide +kernel)) (keeps_ite (fun _ => keeps_fnDone (Piece.sub hF (by decide +kernel)) h5) (fun _ => h5))

theorem keeps_execFnResetEnd {F : List Piece} {a : State} {f : ℕ} {s : State} (hF : [.boot, .ses, .tier, .gore, .pwr, .PWR_DROGUE, .PWR_CNT,
    .GORE_PANEL, .GORE_CTX, .GORE_CNT, .CTL_READY, .CTL_PM, .CTL_FN] ⊆ F) (hs : Keeps F a s) :
    KeepsO F a (execFnResetEnd f s) := by
  delta execFnResetEnd
  exact KeepsO.mk (keeps_ite (fun _ => keeps_fnResetEnd (Piece.sub hF (by decide +kernel)) hs) (fun _ => hs))

theorem keeps_execCtlRstCntClr {F : List Piece} {a : State} {value : ℕ} {s : State} (hF : [.CTL_RST_CNT] ⊆ F) (hs : Keeps F a s) :
    KeepsO F a (execCtlRstCntClr value s) := by
  delta execCtlRstCntClr
  exact KeepsO.mk (keeps_hostWrite hs (fun y1 h2 => keeps_ite (fun _ => keeps_zeroAll h2 ⟨rfl, hF (by decide +kernel)⟩) (fun _ => h2)))

theorem keeps_exitDone {F : List Piece} {a s : State} (hF : [.CTL_PM] ⊆ F) (hs : Keeps F a s) :
    Keeps F a (State.exitDone s) := by
  delta State.exitDone
  exact keeps_ite (fun _ => keeps_refreshPm (Piece.sub hF (by decide +kernel)) (keeps_wr hs ⟨rfl, hF (by decide +kernel)⟩)) (fun _ => hs)

theorem keeps_execFunctionLevelReset {F : List Piece} {a : State} {port : ℕ} {vf : Option ℕ} {s : State} (hF : Piece.withRegs [.latch, .hti,
    .mbx, .ses, .tier, .gore, .attn, .pwr, .fab, .fleet, .dec, .pool, .rcl, .ring] ⊆ F) (hs : Keeps F a s) :
    KeepsO F a (execFunctionLevelReset port vf s) := by
  delta execFunctionLevelReset
  exact KeepsO.mk (keeps_ite (fun _ => keeps_flr (Piece.sub hF (by decide +kernel)) hs) (fun _ => hs))

theorem keeps_pmWake {F : List Piece} {a : State} {held : Bool} {s : State} (hF : Piece.withRegs [.boot, .ses, .tier, .gore, .attn, .pwr, .fab,
    .fleet] ⊆ F) (hs : Keeps F a s) :
    Keeps F a (pmWake held s) := by
  delta pmWake
  extract_lets +onlyGivenNames -merge -lift -underBinder s1
  have h2 : Keeps F a s1 := by
    unfold s1
    exact keeps_ite (fun _ => hs) (fun _ => keeps_wr hs ⟨rfl, hF (by decide +kernel)⟩)
  clear_value s1
  exact keeps_ite (fun _ => keeps_exitP3 (Piece.sub hF (by decide +kernel)) h2) (fun _ => keeps_ite (fun _ => keeps_abandonP3 (Piece.sub hF
      (by decide +kernel)) h2) (fun _ => h2))

theorem keeps_execP2Exit {F : List Piece} {a s : State} (hF : [.pwr, .PWR_DROGUE, .PWR_CNT, .CTL_PM] ⊆ F) (hs : Keeps F a s) :
    KeepsO F a (execP2Exit s) := by
  delta execP2Exit
  exact KeepsO.mk (keeps_leaveP2 (Piece.sub hF (by decide +kernel)) hs)

theorem keeps_execFnAcceptedWorkDone {F : List Piece} {a : State} {f : ℕ} {s : State} (hF : [.boot, .ses, .tier, .gore, .pwr, .PWR_DROGUE,
    .PWR_CNT, .GORE_PANEL, .GORE_CTX, .GORE_CNT, .CTL_PM, .CTL_FN] ⊆ F) (hs : Keeps F a s) :
    KeepsO F a (execFnAcceptedWorkDone f s) := by
  delta execFnAcceptedWorkDone
  exact KeepsO.mk (keeps_ite (fun _ => keeps_fnCheck (Piece.sub hF (by decide +kernel)) hs) (fun _ => hs))

theorem keeps_p3Complete {F : List Piece} {a s : State} (hF : Piece.withRegs [.latch, .hti, .mbx, .boot, .tier, .gore, .pwr, .pins, .fab, .fleet,
    .pool, .ring, .sec] ⊆ F) (hs : Keeps F a s) :
    Keeps F a (p3Complete s) := by
  delta p3Complete
  extract_lets +onlyGivenNames -merge -lift -underBinder v1 v2
  clear_value v1 v2
  refine keeps_ite (fun _ => hs) (fun _ => ?_)
  extract_lets +onlyGivenNames -merge -lift -underBinder s3
  have h4 : Keeps F a s3 := by
    unfold s3
    exact hs
  clear_value s3
  extract_lets +onlyGivenNames -merge -lift -underBinder s5
  have h6 : Keeps F a s5 := by
    unfold s5
    exact keeps_foldl (fun s7 x8 h9 => keeps_ite (fun _ => h9) (fun _ => keeps_emit h9)) hs
  clear_value s5
  extract_lets +onlyGivenNames -merge -lift -underBinder s10
  have h11 : Keeps F a s10 := by
    unfold s10
    exact keeps_linksOff (Piece.sub hF (by decide +kernel)) (keeps_saveWear (Piece.sub hF (by decide +kernel)) (keeps_checkpointAll (Piece.sub hF
        (by decide +kernel)) h6))
  clear_value s10
  extract_lets +onlyGivenNames -merge -lift -underBinder s12
  have h13 : Keeps F a s12 := by
    unfold s12
    exact keeps_detachAll (Piece.sub hF (by decide +kernel)) h11
  clear_value s12
  extract_lets +onlyGivenNames -merge -lift -underBinder v14 v15 v16
  clear_value v14 v15 v16
  extract_lets +onlyGivenNames -merge -lift -underBinder s17
  have h18 : Keeps F a s17 := by
    unfold s17
    exact Keeps.other h13 (hhti := .inr (hF (by decide +kernel))) (hgore := .inr (hF (by decide +kernel))) (hpwr := .inr (hF (by decide +kernel)))
  clear_value s17
  extract_lets +onlyGivenNames -merge -lift -underBinder v19
  clear_value v19
  extract_lets +onlyGivenNames -merge -lift -underBinder s20
  have h21 : Keeps F a s20 := by
    unfold s20
    exact keeps_setSec (Piece.sub hF (by decide +kernel)) h18
  clear_value s20
  extract_lets +onlyGivenNames -merge -lift -underBinder s22
  have h23 : Keeps F a s22 := by
    unfold s22
    exact keeps_showIde (Piece.sub hF (by decide +kernel)) (keeps_showIde (Piece.sub hF (by decide +kernel)) h21)
  clear_value s22
  extract_lets +onlyGivenNames -merge -lift -underBinder v24
  clear_value v24
  extract_lets +onlyGivenNames -merge -lift -underBinder s25
  have h26 : Keeps F a s25 := by
    unfold s25
    exact keeps_setRing (Piece.sub hF (by decide +kernel)) h23
  clear_value s25
  extract_lets +onlyGivenNames -merge -lift -underBinder v27
  clear_value v27
  extract_lets +onlyGivenNames -merge -lift -underBinder s28
  have h29 : Keeps F a s28 := by
    unfold s28
    exact keeps_setFleet (Piece.sub hF (by decide +kernel)) h26
  clear_value s28
  extract_lets +onlyGivenNames -merge -lift -underBinder v30
  clear_value v30
  extract_lets +onlyGivenNames -merge -lift -underBinder s31
  have h32 : Keeps F a s31 := by
    unfold s31
    exact Keeps.other h29 (hfab := .inr (hF (by decide +kernel)))
  clear_value s31
  extract_lets +onlyGivenNames -merge -lift -underBinder s33
  have h34 : Keeps F a s33 := by
    unfold s33
    exact keeps_wr (keeps_wr h32 ⟨rfl, hF (by decide +kernel)⟩) ⟨rfl, hF (by decide +kernel)⟩
  clear_value s33
  extract_lets +onlyGivenNames -merge -lift -underBinder s35
  have h36 : Keeps F a s35 := by
    unfold s35
    exact keeps_refreshDrogue (Piece.sub hF (by decide +kernel)) h34
  clear_value s35
  extract_lets +onlyGivenNames -merge -lift -underBinder s37
  have h38 : Keeps F a s37 := by
    unfold s37
    exact keeps_bump (keeps_keepMailboxes (Piece.sub hF (by decide +kernel)) (keeps_clearTo (Piece.sub hF (by decide +kernel)) h36)) ⟨rfl, hF
        (by decide +kernel)⟩
  clear_value s37
  exact keeps_setBoot (Piece.sub hF (by decide +kernel)) h38

theorem keeps_execP3EntryComplete {F : List Piece} {a s : State} (hF : Piece.withRegs [.latch, .hti, .mbx, .boot, .tier, .gore, .pwr, .pins,
    .fab, .fleet, .pool, .ring, .sec] ⊆ F) (hs : Keeps F a s) :
    KeepsO F a (execP3EntryComplete s) := by
  delta execP3EntryComplete
  exact KeepsO.mk (keeps_p3Complete (Piece.sub hF (by decide +kernel)) hs)

theorem keeps_execPmWakeNAssert {F : List Piece} {a : State} {dt : ℕ} {held : Bool} {s : State} (hF : Piece.withRegs [.boot, .ses, .tier, .gore,
    .attn, .pwr, .fab, .fleet] ⊆ F) (hs : Keeps F a s) :
    KeepsO F a (execPmWakeNAssert dt held s) := by
  delta execPmWakeNAssert
  exact KeepsO.mk (keeps_pmWake (Piece.sub hF (by decide +kernel)) (keeps_pass (Piece.sub hF (by decide +kernel)) hs))

theorem keeps_execCtlResetSoft {F : List Piece} {a : State} {value : ℕ} {s : State} (hF : Piece.withRegs [.latch, .hti, .mbx, .boot, .ses, .tier,
    .gore, .attn, .pwr, .pins, .fab, .fleet, .dec, .pool, .rcl, .ring, .sec] ⊆ F) (hs : Keeps F a s) :
    KeepsO F a (execCtlResetSoft value s) := by
  delta execCtlResetSoft
  exact KeepsO.mk (keeps_hostWrite hs (fun y1 h2 => keeps_resetWrite (Piece.sub hF (by decide +kernel)) h2))

theorem keeps_execCtxResetEnd {F : List Piece} {a : State} {ctx : ℕ} {s : State} (hF : [.CTL_CTX] ⊆ F) (hs : Keeps F a s) :
    KeepsO F a (execCtxResetEnd ctx s) := by
  delta execCtxResetEnd
  exact KeepsO.mk (keeps_ite (fun _ => keeps_wrBit hs ⟨rfl, hF (by decide +kernel)⟩) (fun _ => hs))

/-! ### BringUp -/

theorem keeps_measureConfig {F : List Piece} {a s : State} {image found : ℕ} (hF : [.sec] ⊆ F) (hs : Keeps F a s) :
    Keeps F a (State.measureConfig s image found) := by
  delta State.measureConfig
  extract_lets +onlyGivenNames -merge -lift -underBinder v1 v2 v3 v4 v5
  clear_value v1 v2 v3 v4 v5
  exact keeps_setSec (Piece.sub hF (by decide +kernel)) hs

theorem keeps_laneTestDone {F : List Piece} {a : State} {txt dec : ℕ} {s : State} (hF : [.boot, .TXT_LANES, .DEC_LANES, .CTL_READY, .CTL_PM] ⊆ F)
    (hs : Keeps F a s) :
    Keeps F a (laneTestDone txt dec s) := by
  delta laneTestDone
  refine keeps_ite (fun _ => hs) (fun _ => ?_)
  extract_lets +onlyGivenNames -merge -lift -underBinder s1
  have h2 : Keeps F a s1 := by
    unfold s1
    exact keeps_wr hs ⟨rfl, hF (by decide +kernel)⟩
  clear_value s1
  extract_lets +onlyGivenNames -merge -lift -underBinder s3
  have h4 : Keeps F a s3 := by
    unfold s3
    exact keeps_wr h2 ⟨rfl, hF (by decide +kernel)⟩
  clear_value s3
  exact keeps_exitDone (Piece.sub hF (by decide +kernel)) (keeps_readyEngines (Piece.sub hF (by decide +kernel)) (keeps_setBoot (Piece.sub hF
      (by decide +kernel)) h4))

theorem keeps_execEngineLaneTestDone {F : List Piece} {a : State} {txt dec : ℕ} {s : State} (hF : [.boot, .TXT_LANES, .DEC_LANES, .CTL_READY,
    .CTL_PM] ⊆ F) (hs : Keeps F a s) :
    KeepsO F a (execEngineLaneTestDone txt dec s) := by
  delta execEngineLaneTestDone
  exact KeepsO.mk (keeps_laneTestDone (Piece.sub hF (by decide +kernel)) hs)

theorem keeps_applySettings {F : List Piece} {a s : State} (hF : [.mbx, .boot, .tier, .attn, .fleet, .sec, .TIER_RSV, .SEC_CTX, .RING_STS,
    .RING_LED, .POOL_PORT, .MBX_SUM, .MBX_MODE, .MBX_CTX, .HTI_CNT, .GORE_BRIDLE, .CTL_SES, .CTL_FN, .CTL_ADM] ⊆ F) (hs : Keeps F a s) :
    Keeps F a (State.applySettings s) := by
  delta State.applySettings
  extract_lets +onlyGivenNames -merge -lift -underBinder s1
  have h2 : Keeps F a s1 := by
    unfold s1
    exact keeps_refreshFloors (Piece.sub hF (by decide +kernel)) (keeps_refreshPlace (Piece.sub hF (by decide +kernel)) hs)
  clear_value s1
  extract_lets +onlyGivenNames -merge -lift -underBinder v3
  clear_value v3
  extract_lets +onlyGivenNames -merge -lift -underBinder s4
  have h5 : Keeps F a s4 := by
    unfold s4
    exact keeps_setBoot (Piece.sub hF (by decide +kernel)) h2
  clear_value s4
  extract_lets +onlyGivenNames -merge -lift -underBinder s6
  have h7 : Keeps F a s6 := by
    unfold s6
    exact keeps_foldl (fun s8 x9 h10 => keeps_ite (fun _ => h10) (fun _ => keeps_wr h10 ⟨rfl, hF (by decide +kernel)⟩)) h5
  clear_value s6
  extract_lets +onlyGivenNames -merge -lift -underBinder s11
  have h12 : Keeps F a s11 := by
    unfold s11
    exact keeps_foldl (fun s13 x14 h15 => keeps_wr h15 ⟨rfl, hF (by decide +kernel)⟩) h7
  clear_value s11
  extract_lets +onlyGivenNames -merge -lift -underBinder s16
  have h17 : Keeps F a s16 := by
    unfold s16
    refine keeps_foldl (fun s18 x19 h20 => ?_) h12
    extract_lets +onlyGivenNames -merge -lift -underBinder s21
    have h22 : Keeps F a s21 := by
      unfold s21
      exact keeps_ite (fun _ => keeps_takePos (Piece.sub hF (by decide +kernel)) (keeps_newStorage (Piece.sub hF (by decide +kernel)) h20)) (fun
          _ => h20)
    clear_value s21
    exact keeps_refreshBridle (Piece.sub hF (by decide +kernel)) (keeps_refreshTdi (Piece.sub hF (by decide +kernel)) h22)
  clear_value s16
  exact keeps_refreshGauge (Piece.sub hF (by decide +kernel)) (keeps_refreshRsv (Piece.sub hF (by decide +kernel)) (keeps_refreshMode (Piece.sub
      hF (by decide +kernel)) (keeps_refreshMode (Piece.sub hF (by decide +kernel)) h17)))

theorem keeps_openAll {F : List Piece} {a s : State} (hF : [.mbx, .fleet, .MTR_SEQ, .MTR_LIVE, .MTR_COMP, .MTR_CNT, .MTR_ARCH, .MBX_SUM,
    .MBX_CNT, .HTI_W_MBSTS, .HTI_W_EVT, .HTI_CNT] ⊆ F) (hs : Keeps F a s) :
    Keeps F a (State.openAll s) := by
  delta State.openAll
  extract_lets +onlyGivenNames -merge -lift -underBinder s1
  have h2 : Keeps F a s1 := by
    unfold s1
    exact keeps_foldl (fun s3 x4 h5 => keeps_closeComp (Piece.sub hF (by decide +kernel)) h5) hs
  clear_value s1
  exact keeps_foldl (fun s6 x7 h8 => keeps_openComp (Piece.sub hF (by decide +kernel)) h8) h2

theorem keeps_enrol {F : List Piece} {a s : State} {image : ℕ} (hF : [.sec, .SEC_OWNER] ⊆ F) (hs : Keeps F a s) :
    Keeps F a (State.enrol s image) := by
  delta State.enrol
  extract_lets +onlyGivenNames -merge -lift -underBinder v1
  clear_value v1
  extract_lets +onlyGivenNames -merge -lift -underBinder s2
  have h3 : Keeps F a s2 := by
    unfold s2
    exact keeps_setSec (Piece.sub hF (by decide +kernel)) hs
  clear_value s2
  exact keeps_wr (keeps_wr h3 ⟨rfl, hF (by decide +kernel)⟩) ⟨rfl, hF (by decide +kernel)⟩

theorem keeps_readConfig {F : List Piece} {a s : State} {image : ℕ} (hF : [.boot, .sec, .SEC_OWNER, .NVM_CNT, .CTL_BOOT] ⊆ F) (hs : Keeps F a s) :
    Keeps F a (State.readConfig s image) := by
  delta State.readConfig
  extract_lets +onlyGivenNames -merge -lift -underBinder v1 v2
  clear_value v1 v2
  extract_lets +onlyGivenNames -merge -lift -underBinder s3
  have h4 : Keeps F a s3 := by
    unfold s3
    exact keeps_ite (fun _ => keeps_enrol (Piece.sub hF (by decide +kernel)) hs) (fun _ => hs)
  clear_value s3
  extract_lets +onlyGivenNames -merge -lift -underBinder v5 v6
  clear_value v5 v6
  extract_lets +onlyGivenNames -merge -lift -underBinder s7
  have h8 : Keeps F a s7 := by
    unfold s7
    exact keeps_setBoot (Piece.sub hF (by decide +kernel)) h4
  clear_value s7
  extract_lets +onlyGivenNames -merge -lift -underBinder s9
  have h10 : Keeps F a s9 := by
    unfold s9
    exact keeps_wr (keeps_wr h8 ⟨rfl, hF (by decide +kernel)⟩) ⟨rfl, hF (by decide +kernel)⟩
  clear_value s9
  exact keeps_bump (keeps_wr (keeps_wr h10 ⟨rfl, hF (by decide +kernel)⟩) ⟨rfl, hF (by decide +kernel)⟩) ⟨rfl, hF (by decide +kernel)⟩

theorem keeps_loadStore {F : List Piece} {a s : State} {bad0 bad1 : Bool} (hF : [.boot, .NVM_SS, .NVM_CNT, .CTL_BOOT] ⊆ F) (hs : Keeps F a s) :
    Keeps F a (State.loadStore s bad0 bad1) := by
  delta State.loadStore
  extract_lets +onlyGivenNames -merge -lift -underBinder s1
  have h2 : Keeps F a s1 := by
    unfold s1
    exact keeps_chooseBank (Piece.sub hF (by decide +kernel)) hs
  clear_value s1
  exact keeps_wr h2 ⟨rfl, hF (by decide +kernel)⟩

theorem keeps_stepFive {F : List Piece} {a s : State} {image : ℕ} {bad0 bad1 : Bool} (hF : Piece.withRegs [.mbx, .boot, .tier, .gore, .attn,
    .pwr, .fleet, .sec] ⊆ F) (hs : Keeps F a s) :
    Keeps F a (State.stepFive s image bad0 bad1) := by
  delta State.stepFive
  extract_lets +onlyGivenNames -merge -lift -underBinder s1
  have h2 : Keeps F a s1 := by
    unfold s1
    exact keeps_loadNvm (Piece.sub hF (by decide +kernel)) (keeps_loadStore (Piece.sub hF (by decide +kernel)) (keeps_readConfig (Piece.sub hF
        (by decide +kernel)) hs))
  clear_value s1
  extract_lets +onlyGivenNames -merge -lift -underBinder s3
  have h4 : Keeps F a s3 := by
    unfold s3
    exact keeps_openAll (Piece.sub hF (by decide +kernel)) (keeps_measureConfig (Piece.sub hF (by decide +kernel)) (keeps_applySettings
        (Piece.sub hF (by decide +kernel)) h2))
  clear_value s3
  extract_lets +onlyGivenNames -merge -lift -underBinder s5
  have h6 : Keeps F a s5 := by
    unfold s5
    exact keeps_wr (keeps_wr h4 ⟨rfl, hF (by decide +kernel)⟩) ⟨rfl, hF (by decide +kernel)⟩
  clear_value s5
  exact keeps_ite (fun _ => keeps_foldl (fun s7 x8 h9 => keeps_askWake (Piece.sub hF (by decide +kernel)) h9) (keeps_setBoot (Piece.sub hF
      (by decide +kernel)) h6)) (fun _ => keeps_askAtBoot (Piece.sub hF (by decide +kernel)) (keeps_setBoot (Piece.sub hF (by decide +kernel)) h6))

theorem keeps_perstDeassert {F : List Piece} {a : State} {image : ℕ} {bad0 bad1 : Bool} {s : State} (hF : Piece.withRegs [.mbx, .boot, .tier,
    .gore, .attn, .pwr, .fleet, .sec] ⊆ F) (hs : Keeps F a s) :
    Keeps F a (perstDeassert image bad0 bad1 s) := by
  delta perstDeassert
  extract_lets +onlyGivenNames -merge -lift -underBinder s1
  have h2 : Keeps F a s1 := by
    unfold s1
    exact keeps_wr hs ⟨rfl, hF (by decide +kernel)⟩
  clear_value s1
  exact keeps_ite (fun _ => keeps_stepFive (Piece.sub hF (by decide +kernel)) h2) (fun _ => h2)

theorem keeps_nvmStore {F : List Piece} {a : State} {clear wrote : Bool} {c : Cmd} {s : State} (hF : [.hti, .boot, .ring, .SHP_CTX_CNT, .SEC_CNT,
    .NVM_SS, .NVM_CNT, .HTI_W_QFAULT, .HTI_CNT] ⊆ F) (hs : Keeps F a s) :
    Keeps F a (nvmStore clear wrote c s) := by
  delta nvmStore
  extract_lets +onlyGivenNames -merge -lift -underBinder v1 v2
  clear_value v1 v2
  refine keeps_ite (fun _ => keeps_finish (Piece.sub hF (by decide +kernel)) (keeps_bump hs ⟨rfl, hF (by decide +kernel)⟩)) (fun _ => ?_)
  extract_lets +onlyGivenNames -merge -lift -underBinder v3
  clear_value v3
  extract_lets +onlyGivenNames -merge -lift -underBinder s4
  have h5 : Keeps F a s4 := by
    unfold s4
    exact keeps_showBank (Piece.sub hF (by decide +kernel)) (keeps_wr (keeps_setBank (Piece.sub hF (by decide +kernel)) hs) ⟨rfl, hF
        (by decide +kernel)⟩)
  clear_value s4
  exact keeps_finish (Piece.sub hF (by decide +kernel)) (keeps_bump h5 ⟨rfl, hF (by decide +kernel)⟩)

theorem keeps_execNvmStoreStore {F : List Piece} {a : State} {k : ℕ} {wrote : Bool} {s : State} (hF : [.hti, .boot, .ring, .SHP_CTX_CNT,
    .SEC_CNT, .NVM_SS, .NVM_CNT, .HTI_W_QFAULT, .HTI_CNT] ⊆ F) (hs : Keeps F a s) :
    KeepsO F a (execNvmStoreStore k wrote s) := by
  delta execNvmStoreStore
  exact KeepsO.mk (keeps_begin (Piece.sub hF (by decide +kernel)) hs (fun y1 y2 h3 => keeps_nvmStore (Piece.sub hF (by decide +kernel)) h3))

theorem keeps_t1Limit {F : List Piece} {a s : State} (hF : [.fab, .ring, .RING_PORT, .RING_PORT_CNT, .RING_LED, .RING_CNT, .RING_BYP, .CTL_READY,
    .CTL_BOOT] ⊆ F) (hs : Keeps F a s) :
    Keeps F a (t1Limit s) := by
  delta t1Limit
  refine keeps_ite (fun _ => hs) (fun _ => ?_)
  extract_lets +onlyGivenNames -merge -lift -underBinder v1
  clear_value v1
  exact keeps_closeAll (Piece.sub hF (by decide +kernel)) (keeps_wr (keeps_wr (keeps_wr hs ⟨rfl, hF (by decide +kernel)⟩) ⟨rfl, hF
      (by decide +kernel)⟩) ⟨rfl, hF (by decide +kernel)⟩)

theorem keeps_stackTrained {F : List Piece} {a : State} {n : ℕ} {s : State} (hF : [.pwr, .fab, .CTL_READY, .CTL_PM] ⊆ F) (hs : Keeps F a s) :
    Keeps F a (stackTrained n s) := by
  delta stackTrained
  refine keeps_ite (fun _ => hs) (fun _ => ?_)
  extract_lets +onlyGivenNames -merge -lift -underBinder s1
  have h2 : Keeps F a s1 := by
    unfold s1
    exact keeps_unadmit (Piece.sub hF (by decide +kernel)) hs
  clear_value s1
  refine keeps_ite (fun _ => h2) (fun _ => ?_)
  extract_lets +onlyGivenNames -merge -lift -underBinder s3
  have h4 : Keeps F a s3 := by
    unfold s3
    exact keeps_wrBit h2 ⟨rfl, hF (by decide +kernel)⟩
  clear_value s3
  refine keeps_ite (fun _ => h4) (fun _ => ?_)
  extract_lets +onlyGivenNames -merge -lift -underBinder v5
  clear_value v5
  extract_lets +onlyGivenNames -merge -lift -underBinder s6
  have h7 : Keeps F a s6 := by
    unfold s6
    exact keeps_ite (fun _ => h4) (fun _ => keeps_readyEngines (Piece.sub hF (by decide +kernel)) (keeps_wr (Keeps.other h4 (hfab := .inr (hF
        (by decide +kernel)))) ⟨rfl, hF (by decide +kernel)⟩))
  clear_value s6
  exact keeps_exitDone (Piece.sub hF (by decide +kernel)) h7

theorem keeps_execHbmStackTrained {F : List Piece} {a : State} {stack : ℕ} {s : State} (hF : [.pwr, .fab, .CTL_READY, .CTL_PM] ⊆ F) (hs : Keeps F
    a s) :
    KeepsO F a (execHbmStackTrained stack s) := by
  delta execHbmStackTrained
  exact KeepsO.mk (keeps_ite (fun _ => keeps_stackTrained (Piece.sub hF (by decide +kernel)) hs) (fun _ => hs))

theorem keeps_runCopy {F : List Piece} {a s : State} {n : ℕ} {c : BootCopy} {patch : Option (ℕ × ℕ)} (hF : [.sec, .SEC_BOOT] ⊆ F) (hs : Keeps F a s) :
    Keeps F a (State.runCopy s n c patch) := by
  delta State.runCopy
  extract_lets +onlyGivenNames -merge -lift -underBinder v1 v2
  clear_value v1 v2
  extract_lets +onlyGivenNames -merge -lift -underBinder s3
  have h4 : Keeps F a s3 := by
    unfold s3
    exact keeps_wr (keeps_wr (keeps_wr hs ⟨rfl, hF (by decide +kernel)⟩) ⟨rfl, hF (by decide +kernel)⟩) ⟨rfl, hF (by decide +kernel)⟩
  clear_value s3
  exact keeps_setSec (Piece.sub hF (by decide +kernel)) h4

theorem keeps_bootRomVerify {F : List Piece} {a : State} {x0 b : BootCopy} {patch : Option (ℕ × ℕ)} {s : State} (hF : [.boot, .sec, .SEC_ID,
    .SEC_BOOT, .CTL_READY, .CTL_PIN, .CTL_PIN_CNT] ⊆ F) (hs : Keeps F a s) :
    Keeps F a (bootRomVerify x0 b patch s) := by
  delta bootRomVerify
  refine keeps_ite (fun _ => hs) (fun _ => ?_)
  extract_lets +onlyGivenNames -merge -lift -underBinder v1 v2 v3
  clear_value v1 v2 v3
  extract_lets +onlyGivenNames -merge -lift -underBinder s4
  have h5 : Keeps F a s4 := by
    unfold s4
    exact keeps_wr hs ⟨rfl, hF (by decide +kernel)⟩
  clear_value s4
  extract_lets +onlyGivenNames -merge -lift -underBinder s6
  have h7 : Keeps F a s6 := by
    unfold s6
    exact keeps_wr (keeps_wr h5 ⟨rfl, hF (by decide +kernel)⟩) ⟨rfl, hF (by decide +kernel)⟩
  clear_value s6
  extract_lets +onlyGivenNames -merge -lift -underBinder v8
  clear_value v8
  extract_lets +onlyGivenNames -merge -lift -underBinder s9
  have h10 : Keeps F a s9 := by
    unfold s9
    exact keeps_ite (fun _ => keeps_runCopy (Piece.sub hF (by decide +kernel)) h7) (fun _ => keeps_ite (fun _ => keeps_runCopy (Piece.sub hF
        (by decide +kernel)) h7) (fun _ => keeps_setSec (Piece.sub hF (by decide +kernel)) (keeps_wr h7 ⟨rfl, hF (by decide +kernel)⟩)))
  clear_value s9
  extract_lets +onlyGivenNames -merge -lift -underBinder s11
  have h12 : Keeps F a s11 := by
    unfold s11
    exact keeps_wr (keeps_wr h10 ⟨rfl, hF (by decide +kernel)⟩) ⟨rfl, hF (by decide +kernel)⟩
  clear_value s11
  exact keeps_grantSpi (Piece.sub hF (by decide +kernel)) (keeps_setBoot (Piece.sub hF (by decide +kernel)) h12)

theorem keeps_execBootRomVerify {F : List Piece} {a : State} {dt : ℕ} {x0 b : BootCopy} {patch : Option (ℕ × ℕ)} {s : State} (hF : [.boot,
    .fleet, .sec, .TIER_STALL, .SHP_CTX_CNT, .SEC_ID, .SEC_BOOT, .RING_PORT_CNT, .PWR_CNT, .MTR_LIVE, .HTI_TIME, .HTI_CNT, .GORE_CTX_CNT,
        .GORE_CLASS, .CTL_RT, .CTL_RST_CNT, .CTL_READY, .CTL_PIN, .CTL_PIN_CNT] ⊆ F) (hs : Keeps F a s) :
    KeepsO F a (execBootRomVerify dt x0 b patch s) := by
  delta execBootRomVerify
  exact KeepsO.mk (keeps_bootRomVerify (Piece.sub hF (by decide +kernel)) (keeps_pass (Piece.sub hF (by decide +kernel)) hs))

theorem keeps_execT1TrainingLimitExpiry {F : List Piece} {a : State} {dt : ℕ} {s : State} (hF : [.fab, .fleet, .ring, .TIER_STALL, .SHP_CTX_CNT,
    .RING_PORT, .RING_PORT_CNT, .RING_LED, .RING_CNT, .RING_BYP, .PWR_CNT, .MTR_LIVE, .HTI_TIME, .HTI_CNT, .GORE_CTX_CNT, .GORE_CLASS, .CTL_RT,
        .CTL_RST_CNT, .CTL_READY, .CTL_PIN_CNT, .CTL_BOOT] ⊆ F) (hs : Keeps F a s) :
    KeepsO F a (execT1TrainingLimitExpiry dt s) := by
  delta execT1TrainingLimitExpiry
  exact KeepsO.mk (keeps_t1Limit (Piece.sub hF (by decide +kernel)) (keeps_pass (Piece.sub hF (by decide +kernel)) hs))

theorem keeps_execNvmStoreClear {F : List Piece} {a : State} {k : ℕ} {wrote : Bool} {s : State} (hF : [.hti, .boot, .ring, .SHP_CTX_CNT,
    .SEC_CNT, .NVM_SS, .NVM_CNT, .HTI_W_QFAULT, .HTI_CNT] ⊆ F) (hs : Keeps F a s) :
    KeepsO F a (execNvmStoreClear k wrote s) := by
  delta execNvmStoreClear
  exact KeepsO.mk (keeps_begin (Piece.sub hF (by decide +kernel)) hs (fun y1 y2 h3 => keeps_nvmStore (Piece.sub hF (by decide +kernel)) h3))

theorem keeps_powerUp {F : List Piece} {a s : State} (hF : [.boot] ⊆ F) (hs : Keeps F a s) :
    Keeps F a (powerUp s) := by
  delta powerUp
  exact keeps_ite (fun _ => keeps_setBoot (Piece.sub hF (by decide +kernel)) hs) (fun _ => hs)

theorem keeps_execPowerUp {F : List Piece} {a : State} {dt : ℕ} {s : State} (hF : [.boot, .fleet, .TIER_STALL, .SHP_CTX_CNT, .RING_PORT_CNT,
    .PWR_CNT, .MTR_LIVE, .HTI_TIME, .HTI_CNT, .GORE_CTX_CNT, .GORE_CLASS, .CTL_RT, .CTL_RST_CNT, .CTL_PIN_CNT] ⊆ F) (hs : Keeps F a s) :
    KeepsO F a (execPowerUp dt s) := by
  delta execPowerUp
  exact KeepsO.mk (keeps_powerUp (Piece.sub hF (by decide +kernel)) (keeps_pass (Piece.sub hF (by decide +kernel)) hs))

theorem keeps_execNvmCntClr {F : List Piece} {a : State} {value : ℕ} {s : State} (hF : [.NVM_CNT] ⊆ F) (hs : Keeps F a s) :
    KeepsO F a (execNvmCntClr value s) := by
  delta execNvmCntClr
  exact KeepsO.mk (keeps_hostWrite hs (fun y1 h2 => keeps_ite (fun _ => keeps_zeroAll h2 ⟨rfl, hF (by decide +kernel)⟩) (fun _ => h2)))

theorem keeps_porRelease {F : List Piece} {a : State} {cables flash : ℕ} {perst spiReq : Bool} {s : State} (hF : [.boot, .sec, .SEC_FABRIC,
    .RING_PORT, .HTI_TIME, .CTL_SES, .CTL_RT, .CTL_PIN] ⊆ F) (hs : Keeps F a s) :
    Keeps F a (porRelease cables flash perst spiReq s) := by
  delta porRelease
  refine keeps_ite (fun _ => hs) (fun _ => ?_)
  extract_lets +onlyGivenNames -merge -lift -underBinder s1
  have h2 : Keeps F a s1 := by
    unfold s1
    exact keeps_wr (keeps_wr hs ⟨rfl, hF (by decide +kernel)⟩) ⟨rfl, hF (by decide +kernel)⟩
  clear_value s1
  extract_lets +onlyGivenNames -merge -lift -underBinder v3
  clear_value v3
  extract_lets +onlyGivenNames -merge -lift -underBinder s4
  have h5 : Keeps F a s4 := by
    unfold s4
    exact keeps_fabricBoot (Piece.sub hF (by decide +kernel)) (keeps_nextBootgen (Piece.sub hF (by decide +kernel)) (keeps_setBoot (Piece.sub hF
        (by decide +kernel)) h2))
  clear_value s4
  extract_lets +onlyGivenNames -merge -lift -underBinder s6
  have h7 : Keeps F a s6 := by
    unfold s6
    exact keeps_foldl (fun s8 x9 h10 => keeps_wr h10 ⟨rfl, hF (by decide +kernel)⟩) h5
  clear_value s6
  extract_lets +onlyGivenNames -merge -lift -underBinder s11
  have h12 : Keeps F a s11 := by
    unfold s11
    exact keeps_wr (keeps_wr (keeps_wr h7 ⟨rfl, hF (by decide +kernel)⟩) ⟨rfl, hF (by decide +kernel)⟩) ⟨rfl, hF (by decide +kernel)⟩
  clear_value s11
  exact keeps_wr (keeps_wr h12 ⟨rfl, hF (by decide +kernel)⟩) ⟨rfl, hF (by decide +kernel)⟩

theorem keeps_execPerstNDeassert {F : List Piece} {a : State} {dt image : ℕ} {bad0 bad1 : Bool} {s : State} (hF : Piece.withRegs [.mbx, .boot,
    .tier, .gore, .attn, .pwr, .fleet, .sec] ⊆ F) (hs : Keeps F a s) :
    KeepsO F a (execPerstNDeassert dt image bad0 bad1 s) := by
  delta execPerstNDeassert
  exact KeepsO.mk (keeps_perstDeassert (Piece.sub hF (by decide +kernel)) (keeps_pass (Piece.sub hF (by decide +kernel)) hs))

theorem keeps_panelTestDone {F : List Piece} {a : State} {p : ℕ} {pass : Bool} {s : State} (hF : [.latch, .hti, .mbx, .boot, .ses, .tier, .gore,
    .attn, .pwr, .pins, .fab, .fleet, .dec, .pool, .rcl, .ring, .sec, .RING_PORT, .RING_PORT_CNT, .RING_LED, .RING_CNT, .RING_BYP, .PWR_DROGUE,
        .PWR_CNT, .POOL_PORT, .GORE_PANEL, .GORE_CTX, .GORE_CNT, .CTL_RST, .CTL_READY, .CTL_PM, .CTL_PIN] ⊆ F) (hs : Keeps F a s) :
    Keeps F a (panelTestDone p pass s) := by
  delta panelTestDone
  refine keeps_ite (fun _ => hs) (fun _ => ?_)
  extract_lets +onlyGivenNames -merge -lift -underBinder s1
  have h2 : Keeps F a s1 := by
    unfold s1
    exact hs
  clear_value s1
  extract_lets +onlyGivenNames -merge -lift -underBinder s3
  have h4 : Keeps F a s3 := by
    unfold s3
    exact keeps_unadmit (Piece.sub hF (by decide +kernel)) hs
  clear_value s3
  extract_lets +onlyGivenNames -merge -lift -underBinder s5
  have h6 : Keeps F a s5 := by
    unfold s5
    exact keeps_ite (fun _ => keeps_wr (keeps_wrBit h4 ⟨rfl, hF (by decide +kernel)⟩) ⟨rfl, hF (by decide +kernel)⟩) (fun _ => keeps_wr (keeps_wr
        h4 ⟨rfl, hF (by decide +kernel)⟩) ⟨rfl, hF (by decide +kernel)⟩)
  clear_value s5
  exact keeps_checkPanels (Piece.sub hF (by decide +kernel)) (keeps_winch (Piece.sub hF (by decide +kernel)) (keeps_refreshPm (Piece.sub hF
      (by decide +kernel)) (keeps_refreshPanel (Piece.sub hF (by decide +kernel)) h6)))

theorem keeps_execPorRelease {F : List Piece} {a : State} {dt cables flash : ℕ} {perst spiReq : Bool} {s : State} (hF : [.boot, .fleet, .sec,
    .TIER_STALL, .SHP_CTX_CNT, .SEC_FABRIC, .RING_PORT, .RING_PORT_CNT, .PWR_CNT, .MTR_LIVE, .HTI_TIME, .HTI_CNT, .GORE_CTX_CNT, .GORE_CLASS,
        .CTL_SES, .CTL_RT, .CTL_RST_CNT, .CTL_PIN, .CTL_PIN_CNT] ⊆ F) (hs : Keeps F a s) :
    KeepsO F a (execPorRelease dt cables flash perst spiReq s) := by
  delta execPorRelease
  exact KeepsO.mk (keeps_porRelease (Piece.sub hF (by decide +kernel)) (keeps_pass (Piece.sub hF (by decide +kernel)) hs))

theorem keeps_execPanelTestDone {F : List Piece} {a : State} {panel : ℕ} {pass : Bool} {s : State} (hF : [.latch, .hti, .mbx, .boot, .ses, .tier,
    .gore, .attn, .pwr, .pins, .fab, .fleet, .dec, .pool, .rcl, .ring, .sec, .RING_PORT, .RING_PORT_CNT, .RING_LED, .RING_CNT, .RING_BYP,
        .PWR_DROGUE, .PWR_CNT, .POOL_PORT, .GORE_PANEL, .GORE_CTX, .GORE_CNT, .CTL_RST, .CTL_READY, .CTL_PM, .CTL_PIN] ⊆ F) (hs : Keeps F a s) :
    KeepsO F a (execPanelTestDone panel pass s) := by
  delta execPanelTestDone
  exact KeepsO.mk (keeps_ite (fun _ => keeps_panelTestDone (Piece.sub hF (by decide +kernel)) hs) (fun _ => hs))

end Sys2Proof.Machine
end

