-- ==== Sys2Proof/Laws/KeepsBlocks.lean ====
section
/-! SUPPORT. `Keeps` for the operations and meanings of Machine/: Gores, Intake, Security, Mailboxes. Each lemma says what an operation may change, and
that it keeps the rest. -/

namespace Sys2Proof.Machine

set_option Elab.async false

/-! ### Gores -/

theorem keeps_tornItem {F : List Piece} {a s : State} {i : Item} {col layer head kind half point : ℕ} (hF : [.hti, .mbx, .ses, .tier, .gore,
    .attn, .fleet, .pool, .ring, .TIER_OBJ, .SHP_CTX_CNT, .SEC_CNT, .POOL_OBJ, .POOL_CNT, .MBX_SUM, .MBX_CNT, .HTI_W_QFAULT, .HTI_W_MBSTS,
        .HTI_W_FLT, .HTI_CNT, .GORE_TILE, .GORE_TILE_CNT, .GORE_CTX, .GORE_CTX_CNT, .CTL_SES, .CTL_SES_CNT, .CTL_READY] ⊆ F) (hs : Keeps F a s) :
    Keeps F a (State.tornItem s i col layer head kind half point) := by
  delta State.tornItem
  extract_lets +onlyGivenNames -merge -lift -underBinder v1
  clear_value v1
  extract_lets +onlyGivenNames -merge -lift -underBinder s2
  have h3 : Keeps F a s2 := by
    unfold s2
    exact keeps_tornFound (Piece.sub hF (by decide +kernel)) (keeps_undoRows (Piece.sub hF (by decide +kernel)) hs)
  clear_value s2
  refine keeps_ite (fun _ => keeps_leaveStep (Piece.sub hF (by decide +kernel)) h3) (fun _ => ?_)
  split
  · exact keeps_endKv (Piece.sub hF (by decide +kernel)) h3
  · exact keeps_killItems (Piece.sub hF (by decide +kernel)) h3

theorem keeps_appendEnd {F : List Piece} {a : State} {i : Item} {s : State} (hF : [.hti, .mbx, .ses, .tier, .gore, .attn, .fleet, .pool, .ring,
    .TIER_OBJ, .SHP_CTX_CNT, .SEC_CNT, .POOL_OBJ, .POOL_CNT, .MBX_SUM, .MBX_CNT, .HTI_W_QFAULT, .HTI_W_MBSTS, .HTI_W_FLT, .HTI_CNT, .GORE_TILE,
        .GORE_TILE_CNT, .GORE_CTX, .GORE_CTX_CNT, .GORE_CNT, .GORE_ATTN_CNT, .CTL_SES, .CTL_SES_CNT, .CTL_READY] ⊆ F) (hs : Keeps F a s) :
    Keeps F a (appendEnd i s) := by
  delta appendEnd
  split
  · exact keeps_dropItem (Piece.sub hF (by decide +kernel)) hs
  · extract_lets +onlyGivenNames -merge -lift -underBinder v1 v2 v3 v4
    clear_value v1 v2 v3 v4
    split
    · rename_i x5 x7 e8
      have h6 := KeepsP.fst e8 (F := F) (a := a) (by
          exact keepsP_ite (fun _ => KeepsP.mk hs) (fun _ => keeps_checkTile (Piece.sub hF (by decide +kernel)) hs)
        )
      exact keeps_tornItem (Piece.sub hF (by decide +kernel)) h6
    · rename_i x9 e11
      have h10 := KeepsP.fst e11 (F := F) (a := a) (by
          exact keepsP_ite (fun _ => KeepsP.mk hs) (fun _ => keeps_checkTile (Piece.sub hF (by decide +kernel)) hs)
        )
      extract_lets +onlyGivenNames -merge -lift -underBinder s12
      have h13 : Keeps F a s12 := by
        unfold s12
        exact keeps_dropItem (Piece.sub hF (by decide +kernel)) h10
      clear_value s12
      refine keeps_ite (fun _ => keeps_turn (Piece.sub hF (by decide +kernel)) h13) (fun _ => ?_)
      refine keeps_ite (fun _ => h13) (fun _ => ?_)
      split
      · exact keeps_settleKv (Piece.sub hF (by decide +kernel)) (keeps_takeKv (Piece.sub hF (by decide +kernel)) h13)
      · exact h13

theorem keeps_panelReady {F : List Piece} {a : State} {panel : ℕ} {s : State} (hF : [.ses, .tier, .gore, .pwr, .PWR_DROGUE, .PWR_CNT,
    .GORE_PANEL, .GORE_CTX, .GORE_CNT, .CTL_PM] ⊆ F) (hs : Keeps F a s) :
    Keeps F a (panelReady panel s) := by
  delta panelReady
  refine keeps_ite (fun _ => ?_) (fun _ => hs)
  extract_lets +onlyGivenNames -merge -lift -underBinder s1
  have h2 : Keeps F a s1 := by
    unfold s1
    exact hs
  clear_value s1
  extract_lets +onlyGivenNames -merge -lift -underBinder s3
  have h4 : Keeps F a s3 := by
    unfold s3
    exact keeps_unadmit (Piece.sub hF (by decide +kernel)) hs
  clear_value s3
  extract_lets +onlyGivenNames -merge -lift -underBinder v5
  clear_value v5
  extract_lets +onlyGivenNames -merge -lift -underBinder s6
  have h7 : Keeps F a s6 := by
    unfold s6
    exact Keeps.other h4 (hgore := .inr (hF (by decide +kernel)))
  clear_value s6
  exact keeps_winch (Piece.sub hF (by decide +kernel)) (keeps_refreshPm (Piece.sub hF (by decide +kernel)) (keeps_wr h7 ⟨rfl, hF
      (by decide +kernel)⟩))

theorem keeps_execPanelReady {F : List Piece} {a : State} {panel : ℕ} {s : State} (hF : [.ses, .tier, .gore, .pwr, .PWR_DROGUE, .PWR_CNT,
    .GORE_PANEL, .GORE_CTX, .GORE_CNT, .CTL_PM] ⊆ F) (hs : Keeps F a s) :
    KeepsO F a (execPanelReady panel s) := by
  delta execPanelReady
  exact KeepsO.mk (keeps_panelReady (Piece.sub hF (by decide +kernel)) hs)

theorem keeps_goreRoleMix {F : List Piece} {a : State} {value : ℕ} {s : State} (hF : [.fleet, .GORE_ROLE, .GORE_CNT, .CTL_ADM] ⊆ F) (hs : Keeps F
    a s) :
    Keeps F a (goreRoleMix value s) := by
  delta goreRoleMix
  exact keeps_ite (fun _ => keeps_refreshFloors (Piece.sub hF (by decide +kernel)) (keeps_putWord hs ((Piece.fields hF (by decide +kernel)))))
      (fun _ => keeps_bump hs ⟨rfl, hF (by decide +kernel)⟩)

theorem keeps_execGoreRoleMixWrite {F : List Piece} {a : State} {value : ℕ} {s : State} (hF : [.fleet, .GORE_ROLE, .GORE_CNT, .CTL_ADM] ⊆ F) (hs
    : Keeps F a s) :
    KeepsO F a (execGoreRoleMixWrite value s) := by
  delta execGoreRoleMixWrite
  exact KeepsO.mk (keeps_hostWrite hs (fun y1 h2 => keeps_goreRoleMix (Piece.sub hF (by decide +kernel)) h2))

theorem keeps_panelIdleGate {F : List Piece} {a : State} {panel : ℕ} {s : State} (hF : [.gore, .GORE_PANEL, .GORE_CNT, .CTL_PM] ⊆ F) (hs : Keeps
    F a s) :
    Keeps F a (panelIdleGate panel s) := by
  delta panelIdleGate
  extract_lets +onlyGivenNames -merge -lift -underBinder v1 v2
  clear_value v1 v2
  refine keeps_ite (fun _ => ?_) (fun _ => hs)
  extract_lets +onlyGivenNames -merge -lift -underBinder s3
  have h4 : Keeps F a s3 := by
    unfold s3
    exact keeps_wr hs ⟨rfl, hF (by decide +kernel)⟩
  clear_value s3
  extract_lets +onlyGivenNames -merge -lift -underBinder v5
  clear_value v5
  extract_lets +onlyGivenNames -merge -lift -underBinder s6
  have h7 : Keeps F a s6 := by
    unfold s6
    exact Keeps.other h4 (hgore := .inr (hF (by decide +kernel)))
  clear_value s6
  exact keeps_refreshPm (Piece.sub hF (by decide +kernel)) (keeps_bump h7 ⟨rfl, hF (by decide +kernel)⟩)

theorem keeps_execPanelIdleGate {F : List Piece} {a : State} {dt panel : ℕ} {s : State} (hF : [.gore, .fleet, .TIER_STALL, .SHP_CTX_CNT,
    .RING_PORT_CNT, .PWR_CNT, .MTR_LIVE, .HTI_TIME, .HTI_CNT, .GORE_PANEL, .GORE_CTX_CNT, .GORE_CNT, .GORE_CLASS, .CTL_RT, .CTL_RST_CNT, .CTL_PM,
        .CTL_PIN_CNT] ⊆ F) (hs : Keeps F a s) :
    KeepsO F a (execPanelIdleGate dt panel s) := by
  delta execPanelIdleGate
  exact KeepsO.mk (keeps_panelIdleGate (Piece.sub hF (by decide +kernel)) (keeps_pass (Piece.sub hF (by decide +kernel)) hs))

theorem keeps_itemYield {F : List Piece} {a : State} {gore : ℕ} {s : State} (hF : [.ses, .tier, .gore, .pwr, .PWR_DROGUE, .PWR_CNT, .GORE_PANEL,
    .GORE_CTX, .GORE_CNT, .CTL_PM] ⊆ F) (hs : Keeps F a s) :
    Keeps F a (itemYield gore s) := by
  delta itemYield
  split
  · exact hs
  · refine keeps_ite (fun _ => ?_) (fun _ => hs)
    extract_lets +onlyGivenNames -merge -lift -underBinder s1
    have h2 : Keeps F a s1 := by
      unfold s1
      exact hs
    clear_value s1
    extract_lets +onlyGivenNames -merge -lift -underBinder s3
    have h4 : Keeps F a s3 := by
      unfold s3
      exact keeps_release (Piece.sub hF (by decide +kernel)) hs
    clear_value s3
    exact keeps_winch (Piece.sub hF (by decide +kernel)) (keeps_bump h4 ⟨rfl, hF (by decide +kernel)⟩)

theorem keeps_unsealEnd {F : List Piece} {a : State} {i : Item} {s : State} (hF : [.hti, .mbx, .ses, .tier, .gore, .attn, .fleet, .pool, .ring,
    .TIER_OBJ, .SHP_CTX_CNT, .SEC_CNT, .POOL_OBJ, .POOL_CNT, .MBX_SUM, .MBX_CNT, .HTI_W_QFAULT, .HTI_W_MBSTS, .HTI_W_FLT, .HTI_CNT, .GORE_TILE,
        .GORE_TILE_CNT, .GORE_CTX, .GORE_CTX_CNT, .GORE_CNT, .GORE_ATTN_CNT, .CTL_SES, .CTL_SES_CNT, .CTL_READY] ⊆ F) (hs : Keeps F a s) :
    Keeps F a (unsealEnd i s) := by
  delta unsealEnd
  split
  · exact keeps_dropItem (Piece.sub hF (by decide +kernel)) hs
  · split
    · rename_i x1 x3 x4 e5
      have h2 := KeepsP.fst e5 (F := F) (a := a) (by
          exact keeps_checkTiles (Piece.sub hF (by decide +kernel)) hs
        )
      exact keeps_tornItem (Piece.sub hF (by decide +kernel)) h2
    · rename_i x6 e8
      have h7 := KeepsP.fst e8 (F := F) (a := a) (by
          exact keeps_checkTiles (Piece.sub hF (by decide +kernel)) hs
        )
      extract_lets +onlyGivenNames -merge -lift -underBinder s9
      have h10 : Keeps F a s9 := by
        unfold s9
        exact keeps_dropItem (Piece.sub hF (by decide +kernel)) h7
      clear_value s9
      refine keeps_ite (fun _ => h10) (fun _ => ?_)
      split
      · extract_lets +onlyGivenNames -merge -lift -underBinder v11 v12 v13
        clear_value v11 v12 v13
        extract_lets +onlyGivenNames -merge -lift -underBinder s14
        have h15 : Keeps F a s14 := by
          unfold s14
          exact keeps_bump h10 ⟨rfl, hF (by decide +kernel)⟩
        clear_value s14
        extract_lets +onlyGivenNames -merge -lift -underBinder s16
        have h17 : Keeps F a s16 := by
          unfold s16
          exact keeps_putAt (Piece.sub hF (by decide +kernel)) h15
        clear_value s16
        exact keeps_startNext (Piece.sub hF (by decide +kernel)) (keeps_finish (Piece.sub hF (by decide +kernel)) (keeps_dropKv (Piece.sub hF
            (by decide +kernel)) h17))
      · exact keeps_dropKv (Piece.sub hF (by decide +kernel)) h10

theorem keeps_workTileEnd {F : List Piece} {a : State} {gore : ℕ} {torn : Option TornFound} {s : State} (hF : [.hti, .mbx, .ses, .tier, .gore,
    .attn, .pwr, .fleet, .pool, .ring, .TIER_OBJ, .SHP_CTX_CNT, .SEC_CNT, .PWR_DROGUE, .PWR_CNT, .POOL_OBJ, .POOL_CNT, .MBX_SUM, .MBX_CNT,
        .HTI_W_QFAULT, .HTI_W_MBSTS, .HTI_W_FLT, .HTI_CNT, .GORE_TILE, .GORE_TILE_CNT, .GORE_PANEL, .GORE_CTX, .GORE_CTX_CNT, .GORE_CNT,
            .CTL_SES, .CTL_SES_CNT, .CTL_READY, .CTL_PM] ⊆ F) (hs : Keeps F a s) :
    Keeps F a (workTileEnd gore torn s) := by
  delta workTileEnd
  split
  · exact hs
  · extract_lets +onlyGivenNames -merge -lift -underBinder s1
    have h2 : Keeps F a s1 := by
      unfold s1
      exact hs
    clear_value s1
    extract_lets +onlyGivenNames -merge -lift -underBinder s3
    have h4 : Keeps F a s3 := by
      unfold s3
      exact keeps_bump hs ⟨rfl, hF (by decide +kernel)⟩
    clear_value s3
    split
    · exact keeps_ite (fun _ => keeps_winch (Piece.sub hF (by decide +kernel)) (keeps_tornItem (Piece.sub hF (by decide +kernel)) h4)) (fun _ => h4)
    · exact keeps_ite (fun _ => keeps_winch (Piece.sub hF (by decide +kernel)) (keeps_saveItem (Piece.sub hF (by decide +kernel)) h4)) (fun _ =>
          keeps_mapItems (Piece.sub hF (by decide +kernel)) h4)

theorem keeps_execWorkTileEnd {F : List Piece} {a : State} {dt gore : ℕ} {torn : Option TornFound} {s : State} (hF : [.hti, .mbx, .ses, .tier,
    .gore, .attn, .pwr, .fleet, .pool, .ring, .TIER_STALL, .TIER_OBJ, .SHP_CTX_CNT, .SEC_CNT, .RING_PORT_CNT, .PWR_DROGUE, .PWR_CNT, .POOL_OBJ,
        .POOL_CNT, .MTR_LIVE, .MBX_SUM, .MBX_CNT, .HTI_W_QFAULT, .HTI_W_MBSTS, .HTI_W_FLT, .HTI_TIME, .HTI_CNT, .GORE_TILE, .GORE_TILE_CNT,
            .GORE_PANEL, .GORE_CTX, .GORE_CTX_CNT, .GORE_CNT, .GORE_CLASS, .CTL_SES, .CTL_SES_CNT, .CTL_RT, .CTL_RST_CNT, .CTL_READY, .CTL_PM,
                .CTL_PIN_CNT] ⊆ F) (hs : Keeps F a s) :
    KeepsO F a (execWorkTileEnd dt gore torn s) := by
  delta execWorkTileEnd
  exact KeepsO.mk (keeps_workTileEnd (Piece.sub hF (by decide +kernel)) (keeps_pass (Piece.sub hF (by decide +kernel)) hs))

theorem keeps_segEnd {F : List Piece} {a : State} {i : Item} {s : State} (hF : [.hti, .mbx, .ses, .tier, .gore, .attn, .fleet, .pool, .ring,
    .TIER_OBJ, .SHP_CTX_CNT, .SEC_CNT, .POOL_OBJ, .POOL_CNT, .MBX_SUM, .MBX_CNT, .HTI_W_QFAULT, .HTI_W_MBSTS, .HTI_W_FLT, .HTI_CNT, .GORE_TILE,
        .GORE_TILE_CNT, .GORE_CTX, .GORE_CTX_CNT, .GORE_CNT, .CTL_SES, .CTL_SES_CNT, .CTL_READY] ⊆ F) (hs : Keeps F a s) :
    Keeps F a (segEnd i s) := by
  delta segEnd
  split
  · exact keeps_dropItem (Piece.sub hF (by decide +kernel)) hs
  · split
    · rename_i x1 x3 x4 e5
      have h2 := KeepsP.fst e5 (F := F) (a := a) (by
          exact keeps_checkTiles (Piece.sub hF (by decide +kernel)) hs
        )
      exact keeps_tornItem (Piece.sub hF (by decide +kernel)) h2
    · rename_i x6 e8
      have h7 := KeepsP.fst e8 (F := F) (a := a) (by
          exact keeps_checkTiles (Piece.sub hF (by decide +kernel)) hs
        )
      extract_lets +onlyGivenNames -merge -lift -underBinder s9
      have h10 : Keeps F a s9 := by
        unfold s9
        exact keeps_dropItem (Piece.sub hF (by decide +kernel)) h7
      clear_value s9
      extract_lets +onlyGivenNames -merge -lift -underBinder v11
      clear_value v11
      split
      · exact keeps_ite (fun _ => keeps_addItem (Piece.sub hF (by decide +kernel)) h10) (fun _ => h10)
      · exact h10

theorem keeps_itemInputsArrive {F : List Piece} {a : State} {item : ℕ} {s : State} (hF : [.ses, .tier, .gore, .pwr, .PWR_DROGUE, .PWR_CNT,
    .GORE_PANEL, .GORE_CTX, .GORE_CNT, .CTL_PM] ⊆ F) (hs : Keeps F a s) :
    Keeps F a (itemInputsArrive item s) := by
  delta itemInputsArrive
  split
  · exact hs
  · exact keeps_ite (fun _ => keeps_winch (Piece.sub hF (by decide +kernel)) (keeps_mapItems (Piece.sub hF (by decide +kernel)) hs)) (fun _ => hs)

theorem keeps_execItemInputsArrive {F : List Piece} {a : State} {item : ℕ} {s : State} (hF : [.ses, .tier, .gore, .pwr, .PWR_DROGUE, .PWR_CNT,
    .GORE_PANEL, .GORE_CTX, .GORE_CNT, .CTL_PM] ⊆ F) (hs : Keeps F a s) :
    KeepsO F a (execItemInputsArrive item s) := by
  delta execItemInputsArrive
  exact KeepsO.mk (keeps_itemInputsArrive (Piece.sub hF (by decide +kernel)) hs)

theorem keeps_goreShare {F : List Piece} {a : State} {ctx value : ℕ} {s : State} (hF : [.ses, .tier, .gore, .pwr, .PWR_DROGUE, .PWR_CNT,
    .GORE_SHARE, .GORE_PANEL, .GORE_CTX, .GORE_CNT, .CTL_PM] ⊆ F) (hs : Keeps F a s) :
    Keeps F a (goreShare ctx value s) := by
  delta goreShare
  extract_lets +onlyGivenNames -merge -lift -underBinder s1
  have h2 : Keeps F a s1 := by
    unfold s1
    exact hs
  clear_value s1
  extract_lets +onlyGivenNames -merge -lift -underBinder s3
  have h4 : Keeps F a s3 := by
    unfold s3
    exact keeps_putWord hs ((Piece.fields hF (by decide +kernel)))
  clear_value s3
  extract_lets +onlyGivenNames -merge -lift -underBinder v5 v6 v7
  clear_value v5 v6 v7
  exact keeps_winch (Piece.sub hF (by decide +kernel)) (keeps_mapItems (Piece.sub hF (by decide +kernel)) h4)

theorem keeps_preemptTimeout {F : List Piece} {a : State} {cls : ℕ} {s : State} (hF : [.gore] ⊆ F) (hs : Keeps F a s) :
    Keeps F a (preemptTimeout cls s) := by
  delta preemptTimeout
  split
  · exact hs
  · extract_lets +onlyGivenNames -merge -lift -underBinder v1 v2 v3
    clear_value v1 v2 v3
    refine keeps_ite (fun _ => ?_) (fun _ => hs)
    split
    · refine keeps_ite (fun _ => hs) (fun _ => ?_)
      split
      · extract_lets +onlyGivenNames -merge -lift -underBinder s4
        have h5 : Keeps F a s4 := by
          unfold s4
          exact keeps_mapItems (Piece.sub hF (by decide +kernel)) hs
        clear_value s4
        exact Keeps.other h5 (hgore := .inr (hF (by decide +kernel)))
      · exact hs
    · exact hs

theorem keeps_execPreemptTimeout {F : List Piece} {a : State} {dt cls : ℕ} {s : State} (hF : [.gore, .fleet, .TIER_STALL, .SHP_CTX_CNT,
    .RING_PORT_CNT, .PWR_CNT, .MTR_LIVE, .HTI_TIME, .HTI_CNT, .GORE_CTX_CNT, .GORE_CLASS, .CTL_RT, .CTL_RST_CNT, .CTL_PIN_CNT] ⊆ F) (hs : Keeps F
        a s) :
    KeepsO F a (execPreemptTimeout dt cls s) := by
  delta execPreemptTimeout
  exact KeepsO.mk (keeps_preemptTimeout (Piece.sub hF (by decide +kernel)) (keeps_pass (Piece.sub hF (by decide +kernel)) hs))

theorem keeps_sealEnd {F : List Piece} {a : State} {i : Item} {s : State} (hF : [.hti, .ses, .tier, .gore, .attn, .fleet, .pool, .ring,
    .TIER_OBJ, .SHP_CTX_CNT, .SEC_CNT, .POOL_OBJ, .POOL_CNT, .HTI_W_QFAULT, .HTI_CNT, .GORE_TILE, .GORE_TILE_CNT, .GORE_CTX, .GORE_CTX_CNT,
        .GORE_CNT, .GORE_ATTN_CNT, .CTL_SES, .CTL_READY] ⊆ F) (hs : Keeps F a s) :
    Keeps F a (sealEnd i s) := by
  delta sealEnd
  refine keeps_ite (fun _ => ?_) (fun _ => ?_)
  · split
    · exact keeps_settleEntry (Piece.sub hF (by decide +kernel)) (keeps_dropItem (Piece.sub hF (by decide +kernel)) (keeps_sealNow (Piece.sub hF
          (by decide +kernel)) hs))
    · exact keeps_dropItem (Piece.sub hF (by decide +kernel)) hs
  · split
    · extract_lets +onlyGivenNames -merge -lift -underBinder s1
      have h2 : Keeps F a s1 := by
        unfold s1
        exact keeps_dropItem (Piece.sub hF (by decide +kernel)) (keeps_sealNow (Piece.sub hF (by decide +kernel)) hs)
      clear_value s1
      exact keeps_settleKv (Piece.sub hF (by decide +kernel)) (keeps_updKv (Piece.sub hF (by decide +kernel)) h2)
    · exact keeps_dropItem (Piece.sub hF (by decide +kernel)) hs

theorem keeps_execGoreCntClr {F : List Piece} {a : State} {value : ℕ} {s : State} (hF : [.GORE_CNT, .GORE_CLASS] ⊆ F) (hs : Keeps F a s) :
    KeepsO F a (execGoreCntClr value s) := by
  delta execGoreCntClr
  exact KeepsO.mk (keeps_hostWrite hs (fun y1 h2 => keeps_ite (fun _ => keeps_zeroAll (keeps_zeroAll h2 ⟨rfl, hF (by decide +kernel)⟩) ⟨rfl, hF
      (by decide +kernel)⟩) (fun _ => h2)))

theorem keeps_goreTileInj {F : List Piece} {a : State} {value : ℕ} {s : State} (hF : [.GORE_TILE] ⊆ F) (hs : Keeps F a s) :
    Keeps F a (goreTileInj value s) := by
  delta goreTileInj
  extract_lets +onlyGivenNames -merge -lift -underBinder s1
  have h2 : Keeps F a s1 := by
    unfold s1
    exact keeps_putWord hs ((Piece.fields hF (by decide +kernel)))
  clear_value s1
  exact keeps_ite (fun _ => keeps_wr h2 ⟨rfl, hF (by decide +kernel)⟩) (fun _ => h2)

theorem keeps_execGoreTileCntClr {F : List Piece} {a : State} {value : ℕ} {s : State} (hF : [.GORE_TILE_CNT] ⊆ F) (hs : Keeps F a s) :
    KeepsO F a (execGoreTileCntClr value s) := by
  delta execGoreTileCntClr
  exact KeepsO.mk (keeps_hostWrite hs (fun y1 h2 => keeps_ite (fun _ => keeps_zeroAll h2 ⟨rfl, hF (by decide +kernel)⟩) (fun _ => h2)))

theorem keeps_execGoreAttnCntClr {F : List Piece} {a : State} {value : ℕ} {s : State} (hF : [.GORE_ATTN_CNT] ⊆ F) (hs : Keeps F a s) :
    KeepsO F a (execGoreAttnCntClr value s) := by
  delta execGoreAttnCntClr
  exact KeepsO.mk (keeps_hostWrite hs (fun y1 h2 => keeps_ite (fun _ => keeps_zeroAll h2 ⟨rfl, hF (by decide +kernel)⟩) (fun _ => h2)))

theorem keeps_execGoreTileInjArm {F : List Piece} {a : State} {value : ℕ} {s : State} (hF : [.GORE_TILE] ⊆ F) (hs : Keeps F a s) :
    KeepsO F a (execGoreTileInjArm value s) := by
  delta execGoreTileInjArm
  exact KeepsO.mk (keeps_hostWrite hs (fun y1 h2 => keeps_goreTileInj (Piece.sub hF (by decide +kernel)) h2))

theorem keeps_execItemYield {F : List Piece} {a : State} {dt gore : ℕ} {s : State} (hF : [.ses, .tier, .gore, .pwr, .fleet, .TIER_STALL,
    .SHP_CTX_CNT, .RING_PORT_CNT, .PWR_DROGUE, .PWR_CNT, .MTR_LIVE, .HTI_TIME, .HTI_CNT, .GORE_PANEL, .GORE_CTX, .GORE_CTX_CNT, .GORE_CNT,
        .GORE_CLASS, .CTL_RT, .CTL_RST_CNT, .CTL_PM, .CTL_PIN_CNT] ⊆ F) (hs : Keeps F a s) :
    KeepsO F a (execItemYield dt gore s) := by
  delta execItemYield
  exact KeepsO.mk (keeps_itemYield (Piece.sub hF (by decide +kernel)) (keeps_pass (Piece.sub hF (by decide +kernel)) hs))

theorem keeps_itemEnd {F : List Piece} {a : State} {gore : ℕ} {s : State} (hF : [.hti, .mbx, .ses, .tier, .gore, .attn, .pwr, .fleet, .pool,
    .rcl, .ring, .TIER_OBJ, .TIER_DRV, .TIER_CNT, .SHP_CTX_CNT, .SEC_CNT, .RCL_IDX, .RCL_GAUGE, .RCL_CTX_CNT, .RCL_CNT, .PWR_DROGUE, .PWR_CNT,
        .POOL_OBJ, .POOL_CNT, .MBX_SUM, .MBX_CNT, .HTI_W_QFAULT, .HTI_W_MBSTS, .HTI_W_FLT, .HTI_CNT, .GORE_TILE, .GORE_TILE_CNT, .GORE_PANEL,
            .GORE_CTX, .GORE_CTX_CNT, .GORE_CNT, .GORE_ATTN_CNT, .CTL_SES, .CTL_SES_CNT, .CTL_READY, .CTL_PM] ⊆ F) (hs : Keeps F a s) :
    Keeps F a (itemEnd gore s) := by
  delta itemEnd
  split
  · exact hs
  · refine keeps_ite (fun _ => hs) (fun _ => ?_)
    extract_lets +onlyGivenNames -merge -lift -underBinder s1
    have h2 : Keeps F a s1 := by
      unfold s1
      exact hs
    clear_value s1
    extract_lets +onlyGivenNames -merge -lift -underBinder s3
    have h4 : Keeps F a s3 := by
      unfold s3
      exact keeps_bump hs ⟨rfl, hF (by decide +kernel)⟩
    clear_value s3
    extract_lets +onlyGivenNames -merge -lift -underBinder s5
    have h6 : Keeps F a s5 := by
      unfold s5
      split
      · exact keeps_appendEnd (Piece.sub hF (by decide +kernel)) h4
      · exact keeps_segEnd (Piece.sub hF (by decide +kernel)) h4
      · exact keeps_sealEnd (Piece.sub hF (by decide +kernel)) h4
      · exact keeps_unsealEnd (Piece.sub hF (by decide +kernel)) h4
      · exact keeps_scanEnd (Piece.sub hF (by decide +kernel)) h4
      · exact keeps_helperEnd (Piece.sub hF (by decide +kernel)) h4
      · exact keeps_dropItem (Piece.sub hF (by decide +kernel)) h4
    clear_value s5
    exact keeps_winch (Piece.sub hF (by decide +kernel)) h6

theorem keeps_execItemEnd {F : List Piece} {a : State} {dt gore : ℕ} {s : State} (hF : [.hti, .mbx, .ses, .tier, .gore, .attn, .pwr, .fleet,
    .pool, .rcl, .ring, .TIER_STALL, .TIER_OBJ, .TIER_DRV, .TIER_CNT, .SHP_CTX_CNT, .SEC_CNT, .RING_PORT_CNT, .RCL_IDX, .RCL_GAUGE, .RCL_CTX_CNT,
        .RCL_CNT, .PWR_DROGUE, .PWR_CNT, .POOL_OBJ, .POOL_CNT, .MTR_LIVE, .MBX_SUM, .MBX_CNT, .HTI_W_QFAULT, .HTI_W_MBSTS, .HTI_W_FLT, .HTI_TIME,
            .HTI_CNT, .GORE_TILE, .GORE_TILE_CNT, .GORE_PANEL, .GORE_CTX, .GORE_CTX_CNT, .GORE_CNT, .GORE_CLASS, .GORE_ATTN_CNT, .CTL_SES,
                .CTL_SES_CNT, .CTL_RT, .CTL_RST_CNT, .CTL_READY, .CTL_PM, .CTL_PIN_CNT] ⊆ F) (hs : Keeps F a s) :
    KeepsO F a (execItemEnd dt gore s) := by
  delta execItemEnd
  exact KeepsO.mk (keeps_itemEnd (Piece.sub hF (by decide +kernel)) (keeps_pass (Piece.sub hF (by decide +kernel)) hs))

theorem keeps_execGoreShareWrite {F : List Piece} {a : State} {ctx value : ℕ} {s : State} (hF : [.ses, .tier, .gore, .pwr, .SEC_CNT, .PWR_DROGUE,
    .PWR_CNT, .GORE_SHARE, .GORE_PANEL, .GORE_CTX, .GORE_CNT, .CTL_PM] ⊆ F) (hs : Keeps F a s) :
    KeepsO F a (execGoreShareWrite ctx value s) := by
  delta execGoreShareWrite
  exact KeepsO.mk (keeps_ite (fun _ => keeps_hostWrite hs (fun y1 h2 => keeps_lockWrite (Piece.sub hF (by decide +kernel)) h2 (fun y3 h4 =>
      keeps_goreShare (Piece.sub hF (by decide +kernel)) h4))) (fun _ => hs))

theorem keeps_execGoreCtxCntClr {F : List Piece} {a : State} {value : ℕ} {s : State} (hF : [.latch, .GORE_CTX_CNT] ⊆ F) (hs : Keeps F a s) :
    KeepsO F a (execGoreCtxCntClr value s) := by
  delta execGoreCtxCntClr
  exact KeepsO.mk (keeps_hostWrite64 (Piece.sub hF (by decide +kernel)) hs ⟨rfl, hF (by decide +kernel)⟩ (fun y1 h2 => keeps_zeroRows h2 ⟨rfl, hF
      (by decide +kernel)⟩))

/-! ### Intake -/

theorem keeps_intake {F : List Piece} {a s : State} {c : Cmd} {ver : ℕ} (hF : [.hti, .pwr, .ring, .SHP_CTX_CNT, .SEC_CNT, .HTI_W_QFAULT,
    .HTI_CNT] ⊆ F) (hs : Keeps F a s) :
    Keeps F a (State.intake s c ver) := by
  delta State.intake
  split
  · exact keeps_finish (Piece.sub hF (by decide +kernel)) hs
  · extract_lets +onlyGivenNames -merge -lift -underBinder p1
    have h2 : KeepsP F a p1 := by
      unfold p1
      exact keeps_police (Piece.sub hF (by decide +kernel)) hs
    clear_value p1
    extract_lets +onlyGivenNames -merge -lift -underBinder s3
    have h4 : Keeps F a s3 := by
      unfold s3
      exact KeepsP.proj h2
    clear_value s3
    refine keeps_ite (fun _ => keeps_finish (Piece.sub hF (by decide +kernel)) h4) (fun _ => ?_)
    extract_lets +onlyGivenNames -merge -lift -underBinder v5
    clear_value v5
    extract_lets +onlyGivenNames -merge -lift -underBinder s6
    have h7 : Keeps F a s6 := by
      unfold s6
      exact keeps_setCmds (Piece.sub hF (by decide +kernel)) h4
    clear_value s6
    extract_lets +onlyGivenNames -merge -lift -underBinder s8
    have h9 : Keeps F a s8 := by
      unfold s8
      exact keeps_ite (fun _ => h7) (fun _ => keeps_called (Piece.sub hF (by decide +kernel)) h7)
    clear_value s8
    refine keeps_ite (fun _ => keeps_finish (Piece.sub hF (by decide +kernel)) h9) (fun _ => ?_)
    refine keeps_ite (fun _ => ?_) (fun _ => h9)
    extract_lets +onlyGivenNames -merge -lift -underBinder v10
    clear_value v10
    split
    · exact keeps_ite (fun _ => keeps_setPair (Piece.sub hF (by decide +kernel)) h9) (fun _ => h9)
    · exact h9

theorem keeps_fetchOne {F : List Piece} {a s : State} {ctx q : ℕ} {p : Pair} {d : Desc} (hF : [.hti, .pwr, .ring, .SHP_CTX_CNT, .SEC_CNT,
    .PWR_DROGUE, .PWR_CNT, .HTI_W_QFAULT, .HTI_CNT, .CTL_PM] ⊆ F) (hs : Keeps F a s) :
    Keeps F a (State.fetchOne s ctx q p d) := by
  delta State.fetchOne
  extract_lets +onlyGivenNames -merge -lift -underBinder v1 v2 v3
  clear_value v1 v2 v3
  extract_lets +onlyGivenNames -merge -lift -underBinder s4
  have h5 : Keeps F a s4 := by
    unfold s4
    exact keeps_setPair (Piece.sub hF (by decide +kernel)) hs
  clear_value s4
  extract_lets +onlyGivenNames -merge -lift -underBinder s6
  have h7 : Keeps F a s6 := by
    unfold s6
    exact keeps_ite (fun _ => h5) (fun _ => keeps_countFetch (Piece.sub hF (by decide +kernel)) h5)
  clear_value s6
  extract_lets +onlyGivenNames -merge -lift -underBinder s8
  have h9 : Keeps F a s8 := by
    unfold s8
    exact keeps_leaveP2 (Piece.sub hF (by decide +kernel)) h7
  clear_value s8
  extract_lets +onlyGivenNames -merge -lift -underBinder v10
  clear_value v10
  extract_lets +onlyGivenNames -merge -lift -underBinder s11
  have h12 : Keeps F a s11 := by
    unfold s11
    exact Keeps.other h9 (hhti := .inr (hF (by decide +kernel)))
  clear_value s11
  exact keeps_intake (Piece.sub hF (by decide +kernel)) h12

theorem keeps_fetchAll {F : List Piece} {a s : State} {ctx q x0 : ℕ} (hF : [.hti, .pwr, .ring, .SHP_CTX_CNT, .SEC_CNT, .PWR_DROGUE, .PWR_CNT,
    .HTI_W_QFAULT, .HTI_CNT, .CTL_PM] ⊆ F) (hs : Keeps F a s) :
    Keeps F a (State.fetchAll s ctx q x0) := by
  induction x0 generalizing s ctx q with
  | zero =>
    rw [State.fetchAll.eq_1]
    exact hs
  | succ _ ih =>
    rw [State.fetchAll.eq_2]
    split
    · exact hs
    · split
      · exact hs
      · exact keeps_ite (fun _ => ih (keeps_fetchOne (Piece.sub hF (by decide +kernel)) hs)) (fun _ => hs)

theorem keeps_badDoorbell {F : List Piece} {a s : State} {kind port ctx off : ℕ} (hF : [.HTI_ERRLOG, .HTI_CNT] ⊆ F) (hs : Keeps F a s) :
    Keeps F a (State.badDoorbell s kind port ctx off) := by
  delta State.badDoorbell
  exact keeps_bump (keeps_errlog (Piece.sub hF (by decide +kernel)) hs) ⟨rfl, hF (by decide +kernel)⟩

theorem keeps_submitDoorbell {F : List Piece} {a : State} {port ctx q value : ℕ} {entries : List Desc} {s : State} (hF : [.hti, .pwr, .ring,
    .SHP_CTX_CNT, .SEC_CNT, .PWR_DROGUE, .PWR_CNT, .HTI_W_QFAULT, .HTI_ERRLOG, .HTI_CNT, .CTL_PM] ⊆ F) (hs : Keeps F a s) :
    Keeps F a (submitDoorbell port ctx q value entries s) := by
  delta submitDoorbell
  extract_lets +onlyGivenNames -merge -lift -underBinder v1
  clear_value v1
  split
  · exact keeps_badDoorbell (Piece.sub hF (by decide +kernel)) hs
  · refine keeps_ite (fun _ => keeps_badDoorbell (Piece.sub hF (by decide +kernel)) hs) (fun _ => ?_)
    extract_lets +onlyGivenNames -merge -lift -underBinder v2
    clear_value v2
    extract_lets +onlyGivenNames -merge -lift -underBinder s3
    have h4 : Keeps F a s3 := by
      unfold s3
      exact keeps_setPair (Piece.sub hF (by decide +kernel)) hs
    clear_value s3
    exact keeps_fetchAll (Piece.sub hF (by decide +kernel)) h4

theorem keeps_completeDoorbell {F : List Piece} {a : State} {port ctx q value : ℕ} {s : State} (hF : [.hti, .pwr, .ring, .SHP_CTX_CNT, .SEC_CNT,
    .PWR_DROGUE, .PWR_CNT, .HTI_W_QFAULT, .HTI_ERRLOG, .HTI_CNT, .CTL_PM] ⊆ F) (hs : Keeps F a s) :
    Keeps F a (completeDoorbell port ctx q value s) := by
  delta completeDoorbell
  extract_lets +onlyGivenNames -merge -lift -underBinder v1 v2
  clear_value v1 v2
  split
  · exact keeps_badDoorbell (Piece.sub hF (by decide +kernel)) hs
  · extract_lets +onlyGivenNames -merge -lift -underBinder v3
    clear_value v3
    refine keeps_ite (fun _ => keeps_badDoorbell (Piece.sub hF (by decide +kernel)) hs) (fun _ => ?_)
    extract_lets +onlyGivenNames -merge -lift -underBinder s4
    have h5 : Keeps F a s4 := by
      unfold s4
      exact keeps_drainCq (Piece.sub hF (by decide +kernel)) (keeps_setPair (Piece.sub hF (by decide +kernel)) hs)
    clear_value s4
    extract_lets +onlyGivenNames -merge -lift -underBinder s6
    have h7 : Keeps F a s6 := by
      unfold s6
      exact keeps_settle (Piece.sub hF (by decide +kernel)) h5
    clear_value s6
    exact keeps_fetchAll (Piece.sub hF (by decide +kernel)) h7

theorem keeps_execHtiWCqdbWrite {F : List Piece} {a : State} {port ctx pair value : ℕ} {s : State} (hF : [.hti, .pwr, .ring, .SHP_CTX_CNT,
    .SEC_CNT, .PWR_DROGUE, .PWR_CNT, .HTI_W_QFAULT, .HTI_ERRLOG, .HTI_CNT, .CTL_PM] ⊆ F) (hs : Keeps F a s) :
    KeepsO F a (execHtiWCqdbWrite port ctx pair value s) := by
  delta execHtiWCqdbWrite
  exact KeepsO.mk (keeps_ite (fun _ => keeps_window (Piece.sub hF (by decide +kernel)) hs (fun y1 h2 => keeps_completeDoorbell (Piece.sub hF
      (by decide +kernel)) h2)) (fun _ => hs))

theorem keeps_reopen {F : List Piece} {a s : State} {c : Cmd} (hF : [.hti, .pwr, .ring, .SHP_CTX_CNT, .SEC_CNT, .PWR_DROGUE, .PWR_CNT,
    .HTI_W_QFAULT, .HTI_CNT, .CTL_PM] ⊆ F) (hs : Keeps F a s) :
    Keeps F a (State.reopen s c) := by
  delta State.reopen
  extract_lets +onlyGivenNames -merge -lift -underBinder v1
  clear_value v1
  split
  · exact keeps_ite (fun _ => keeps_fetchAll (Piece.sub hF (by decide +kernel)) (keeps_setPair (Piece.sub hF (by decide +kernel)) hs)) (fun _ => hs)
  · exact hs

theorem keeps_execHtiWSqdbWrite {F : List Piece} {a : State} {port ctx pair value : ℕ} {entries : List Desc} {s : State} (hF : [.hti, .pwr,
    .ring, .SHP_CTX_CNT, .SEC_CNT, .PWR_DROGUE, .PWR_CNT, .HTI_W_QFAULT, .HTI_ERRLOG, .HTI_CNT, .CTL_PM] ⊆ F) (hs : Keeps F a s) :
    KeepsO F a (execHtiWSqdbWrite port ctx pair value entries s) := by
  delta execHtiWSqdbWrite
  exact KeepsO.mk (keeps_ite (fun _ => keeps_window (Piece.sub hF (by decide +kernel)) hs (fun y1 h2 => keeps_submitDoorbell (Piece.sub hF
      (by decide +kernel)) h2)) (fun _ => hs))

theorem keeps_execQueueClose {F : List Piece} {a : State} {k : ℕ} {s : State} (hF : [.hti, .mbx, .ses, .tier, .gore, .attn, .pwr, .fab, .fleet,
    .dec, .pool, .rcl, .ring, .TIER_RSV, .TIER_OBJ, .TIER_DRV, .TIER_CNT, .SHP_CTX_CNT, .SEC_CNT, .RING_CNT, .RCL_IDX, .RCL_GAUGE, .RCL_CTX_CNT,
        .RCL_CNT, .PWR_DROGUE, .PWR_CNT, .POOL_REGION, .POOL_OBJ, .POOL_LEND, .POOL_CNT, .MBX_SUM, .MBX_CNT, .HTI_W_QFAULT, .HTI_W_MBSTS,
            .HTI_W_EVT, .HTI_CNT, .GORE_TILE_CNT, .GORE_ROLE, .GORE_PANEL, .GORE_CTX, .GORE_CTX_CNT, .GORE_CNT, .GORE_ATTN_CNT, .CTL_SES,
                .CTL_SES_CNT, .CTL_READY, .CTL_PM, .CTL_ADM, .CTL_ADM_CNT] ⊆ F) (hs : Keeps F a s) :
    KeepsO F a (execQueueClose k s) := by
  delta execQueueClose
  refine KeepsO.mk ?_
  extract_lets +onlyGivenNames -merge -lift -underBinder s1
  have h2 : Keeps F a s1 := by
    unfold s1
    exact keeps_begin (Piece.sub hF (by decide +kernel)) hs (fun y3 y4 h5 => keeps_queueClose (Piece.sub hF (by decide +kernel)) h5)
  clear_value s1
  split
  · exact keeps_ite (fun _ => keeps_reopen (Piece.sub hF (by decide +kernel)) h2) (fun _ => h2)
  · exact h2

/-! ### Security -/

theorem keeps_tdiState {F : List Piece} {a s : State} {port : ℕ} (hs : Keeps F a s) :
    Keeps F a (State.tdiState s port) := by
  delta State.tdiState
  exact keeps_tdispError hs

theorem keeps_spdmRequest {F : List Piece} {a : State} {path : ℕ} {r : SpdmReq} {s : State} (hF : [.sec, .SEC_CNT] ⊆ F) (hs : Keeps F a s) :
    Keeps F a (spdmRequest path r s) := by
  delta spdmRequest
  extract_lets +onlyGivenNames -merge -lift -underBinder v1 v2
  clear_value v1 v2
  split
  · exact keeps_spdmMsg hs
  · exact keeps_tickFree (keeps_spdmMsg hs)
  · exact keeps_tickFree (keeps_spdmMsg hs)
  · exact keeps_tickFree (keeps_spdmMsg hs)
  · exact keeps_ite (fun _ => keeps_spdmFree hs) (fun _ => keeps_spdmError (Piece.sub hF (by decide +kernel)) hs)
  · exact keeps_ite (fun _ => keeps_spdmFree hs) (fun _ => keeps_spdmError (Piece.sub hF (by decide +kernel)) hs)
  · exact keeps_ite (fun _ => keeps_measurements (Piece.sub hF (by decide +kernel)) hs) (fun _ => keeps_spdmError (Piece.sub hF
        (by decide +kernel)) hs)
  · exact keeps_ite (fun _ => keeps_spdmError (Piece.sub hF (by decide +kernel)) hs) (fun _ => keeps_ite (fun _ => keeps_spdmError (Piece.sub hF
        (by decide +kernel)) hs) (fun _ => keeps_spdmFree (keeps_setSec (Piece.sub hF (by decide +kernel)) hs)))
  · split
    · refine keeps_ite (fun _ => keeps_spdmError (Piece.sub hF (by decide +kernel)) hs) (fun _ => ?_)
      refine keeps_ite (fun _ => ?_) (fun _ => keeps_spdmError (Piece.sub hF (by decide +kernel)) (keeps_setSec (Piece.sub hF
          (by decide +kernel)) hs))
      extract_lets +onlyGivenNames -merge -lift -underBinder v3
      clear_value v3
      exact keeps_spdmFree (keeps_bump (keeps_setSec (Piece.sub hF (by decide +kernel)) hs) ⟨rfl, hF (by decide +kernel)⟩)
    · exact keeps_spdmError (Piece.sub hF (by decide +kernel)) hs
  · exact keeps_ite (fun _ => keeps_spdmMsg hs) (fun _ => keeps_spdmError (Piece.sub hF (by decide +kernel)) hs)
  · exact keeps_ite (fun _ => keeps_tickFree (keeps_spdmMsg hs)) (fun _ => keeps_spdmError (Piece.sub hF (by decide +kernel)) hs)
  · exact keeps_ite (fun _ => keeps_spdmMsg (keeps_setSec (Piece.sub hF (by decide +kernel)) hs)) (fun _ => keeps_spdmError (Piece.sub hF
        (by decide +kernel)) hs)
  · exact keeps_spdmFree hs
  · exact keeps_spdmFree hs
  · exact keeps_spdmUnsupported (Piece.sub hF (by decide +kernel)) hs
  · exact keeps_tickFree (keeps_spdmUnsupported (Piece.sub hF (by decide +kernel)) hs)

theorem keeps_execSpdmRequest {F : List Piece} {a : State} {path : ℕ} {req : SpdmReq} {s : State} (hF : [.sec, .SEC_CNT] ⊆ F) (hs : Keeps F a s) :
    KeepsO F a (execSpdmRequest path req s) := by
  delta execSpdmRequest
  exact KeepsO.mk (keeps_ite (fun _ => keeps_spdmRequest (Piece.sub hF (by decide +kernel)) hs) (fun _ => hs))

theorem keeps_jobKeySet {F : List Piece} {a : State} {c : Cmd} {s : State} (hF : [.hti, .ring, .sec, .SHP_CTX_CNT, .SEC_FABRIC, .SEC_CTX,
    .SEC_CNT, .HTI_W_QFAULT, .HTI_CNT] ⊆ F) (hs : Keeps F a s) :
    Keeps F a (jobKeySet c s) := by
  delta jobKeySet
  extract_lets +onlyGivenNames -merge -lift -underBinder v1 v2 v3 v4
  clear_value v1 v2 v3 v4
  extract_lets +onlyGivenNames -merge -lift -underBinder f10
  unfold f10
  beta_reduce
  extract_lets +onlyGivenNames -merge -lift -underBinder f9
  unfold f9
  beta_reduce
  refine keeps_ite (fun _ => keeps_finish (Piece.sub hF (by decide +kernel)) hs) (fun _ => ?_)
  refine keeps_ite (fun _ => keeps_finish (Piece.sub hF (by decide +kernel)) hs) (fun _ => ?_)
  refine keeps_ite (fun _ => keeps_finish (Piece.sub hF (by decide +kernel)) hs) (fun _ => ?_)
  refine keeps_ite (fun _ => ?_) (fun _ => ?_)
  · refine keeps_ite (fun _ => keeps_finish (Piece.sub hF (by decide +kernel)) hs) (fun _ => ?_)
    extract_lets +onlyGivenNames -merge -lift -underBinder s5
    have h6 : Keeps F a s5 := by
      unfold s5
      exact keeps_ite (fun _ => keeps_setFabric (Piece.sub hF (by decide +kernel)) hs) (fun _ => keeps_setJobKey (Piece.sub hF
          (by decide +kernel)) hs)
    clear_value s5
    exact keeps_finish (Piece.sub hF (by decide +kernel)) (keeps_bump h6 ⟨rfl, hF (by decide +kernel)⟩)
  · split
    · exact keeps_finish (Piece.sub hF (by decide +kernel)) hs
    · exact keeps_finish (Piece.sub hF (by decide +kernel)) (keeps_bump hs ⟨rfl, hF (by decide +kernel)⟩)
    · extract_lets +onlyGivenNames -merge -lift -underBinder s7
      have h8 : Keeps F a s7 := by
        unfold s7
        exact keeps_ite (fun _ => keeps_setFabric (Piece.sub hF (by decide +kernel)) hs) (fun _ => keeps_setJobKey (Piece.sub hF
            (by decide +kernel)) hs)
      clear_value s7
      exact keeps_finish (Piece.sub hF (by decide +kernel)) (keeps_bump h8 ⟨rfl, hF (by decide +kernel)⟩)

theorem keeps_execJobKeySet {F : List Piece} {a : State} {k : ℕ} {s : State} (hF : [.hti, .ring, .sec, .SHP_CTX_CNT, .SEC_FABRIC, .SEC_CTX,
    .SEC_CNT, .HTI_W_QFAULT, .HTI_CNT] ⊆ F) (hs : Keeps F a s) :
    KeepsO F a (execJobKeySet k s) := by
  delta execJobKeySet
  exact KeepsO.mk (keeps_begin (Piece.sub hF (by decide +kernel)) hs (fun y1 y2 h3 => keeps_jobKeySet (Piece.sub hF (by decide +kernel)) h3))

theorem keeps_abortHolders {F : List Piece} {a s : State} {c i : ℕ} {l : List ℕ} (hF : [.hti, .mbx, .ses, .tier, .gore, .attn, .pwr, .fab,
    .fleet, .dec, .pool, .rcl, .ring, .TIER_RSV, .TIER_OBJ, .TIER_DRV, .TIER_CNT, .SHP_CTX_CNT, .SEC_CNT, .RING_CNT, .RCL_IDX, .RCL_GAUGE,
        .RCL_CTX_CNT, .RCL_CNT, .PWR_DROGUE, .PWR_CNT, .POOL_REGION, .POOL_OBJ, .POOL_LEND, .POOL_CNT, .MBX_SUM, .MBX_CNT, .HTI_W_QFAULT,
            .HTI_W_MBSTS, .HTI_W_EVT, .HTI_CNT, .GORE_TILE_CNT, .GORE_ROLE, .GORE_PANEL, .GORE_CTX, .GORE_CTX_CNT, .GORE_CNT, .GORE_ATTN_CNT,
                .CTL_SES, .CTL_SES_CNT, .CTL_READY, .CTL_PM, .CTL_ADM, .CTL_ADM_CNT] ⊆ F) (hs : Keeps F a s) :
    KeepsP F a (State.abortHolders s c i l) := by
  delta State.abortHolders
  refine keeps_foldp (fun s1 x2 h3 => ?_) (KeepsP.mk hs)
  split
  · extract_lets +onlyGivenNames -merge -lift -underBinder v4
    clear_value v4
    exact keepsP_ite (fun _ => KeepsP.mk (keeps_endCmd (Piece.sub hF (by decide +kernel)) (KeepsP.proj h3))) (fun _ => h3)
  · exact h3

theorem keeps_jobKeyRetire {F : List Piece} {a : State} {c : Cmd} {s : State} (hF : [.hti, .mbx, .ses, .tier, .gore, .attn, .pwr, .fab, .fleet,
    .dec, .pool, .rcl, .ring, .sec, .TIER_RSV, .TIER_OBJ, .TIER_DRV, .TIER_CNT, .SHP_CTX_CNT, .SEC_FABRIC, .SEC_CTX, .SEC_CNT, .RING_CNT,
        .RCL_IDX, .RCL_GAUGE, .RCL_CTX_CNT, .RCL_CNT, .PWR_DROGUE, .PWR_CNT, .POOL_REGION, .POOL_OBJ, .POOL_LEND, .POOL_CNT, .MBX_SUM, .MBX_CNT,
            .HTI_W_QFAULT, .HTI_W_MBSTS, .HTI_W_EVT, .HTI_CNT, .GORE_TILE_CNT, .GORE_ROLE, .GORE_PANEL, .GORE_CTX, .GORE_CTX_CNT, .GORE_CNT,
                .GORE_ATTN_CNT, .CTL_SES, .CTL_SES_CNT, .CTL_READY, .CTL_PM, .CTL_ADM, .CTL_ADM_CNT] ⊆ F) (hs : Keeps F a s) :
    Keeps F a (jobKeyRetire c s) := by
  delta jobKeyRetire
  extract_lets +onlyGivenNames -merge -lift -underBinder v1 v2
  clear_value v1 v2
  refine keeps_ite (fun _ => ?_) (fun _ => ?_)
  · refine keeps_ite (fun _ => keeps_finish (Piece.sub hF (by decide +kernel)) hs) (fun _ => ?_)
    refine keeps_ite (fun _ => keeps_finish (Piece.sub hF (by decide +kernel)) hs) (fun _ => ?_)
    extract_lets +onlyGivenNames -merge -lift -underBinder s3
    have h4 : Keeps F a s3 := by
      unfold s3
      exact keeps_ite (fun _ => keeps_bump (keeps_dropFabric (Piece.sub hF (by decide +kernel)) hs) ⟨rfl, hF (by decide +kernel)⟩) (fun _ => hs)
    clear_value s3
    exact keeps_finish (Piece.sub hF (by decide +kernel)) h4
  · refine keeps_ite (fun _ => keeps_finish (Piece.sub hF (by decide +kernel)) hs) (fun _ => ?_)
    extract_lets +onlyGivenNames -merge -lift -underBinder s5
    have h6 : Keeps F a s5 := by
      unfold s5
      exact hs
    clear_value s5
    extract_lets +onlyGivenNames -merge -lift -underBinder v7
    clear_value v7
    extract_lets +onlyGivenNames -merge -lift -underBinder s8
    have h9 : Keeps F a s8 := by
      unfold s8
      exact keeps_wrBit (keeps_wrBit hs ⟨rfl, hF (by decide +kernel)⟩) ⟨rfl, hF (by decide +kernel)⟩
    clear_value s8
    extract_lets +onlyGivenNames -merge -lift -underBinder v10
    clear_value v10
    extract_lets +onlyGivenNames -merge -lift -underBinder s11
    have h12 : Keeps F a s11 := by
      unfold s11
      exact keeps_setSec (Piece.sub hF (by decide +kernel)) h9
    clear_value s11
    extract_lets +onlyGivenNames -merge -lift -underBinder p13
    have h14 : KeepsP F a p13 := by
      unfold p13
      exact keepsP_ite (fun _ => keeps_abortHolders (Piece.sub hF (by decide +kernel)) h12) (fun _ => KeepsP.mk h12)
    clear_value p13
    extract_lets +onlyGivenNames -merge -lift -underBinder v15
    clear_value v15
    extract_lets +onlyGivenNames -merge -lift -underBinder s16
    have h17 : Keeps F a s16 := by
      unfold s16
      exact keeps_setSec (Piece.sub hF (by decide +kernel)) (KeepsP.proj h14)
    clear_value s16
    exact keeps_winch (Piece.sub hF (by decide +kernel)) (keeps_ite (fun _ => keeps_retired (Piece.sub hF (by decide +kernel)) h17) (fun _ => h17))

theorem keeps_execFabricKeySet {F : List Piece} {a : State} {chan : ℕ} {s : State} (hF : [.mbx, .sec, .SEC_FABRIC, .SEC_CNT] ⊆ F) (hs : Keeps F a s) :
    KeepsO F a (execFabricKeySet chan s) := by
  delta execFabricKeySet
  refine KeepsO.mk ?_
  refine keeps_ite (fun _ => ?_) (fun _ => hs)
  refine keeps_procedure hs (fun y1 y2 h3 => ?_)
  extract_lets +onlyGivenNames -merge -lift -underBinder v4
  clear_value v4
  exact keeps_ite (fun _ => keeps_reply (Piece.sub hF (by decide +kernel)) h3) (fun _ => keeps_reply (Piece.sub hF (by decide +kernel))
      (keeps_bump (keeps_setFabric (Piece.sub hF (by decide +kernel)) h3) ⟨rfl, hF (by decide +kernel)⟩))

theorem keeps_txSlotWrite {F : List Piece} {a : State} {value : ℕ} {s : State} (hF : [.SEC_FABRIC, .RING_CNT] ⊆ F) (hs : Keeps F a s) :
    Keeps F a (txSlotWrite value s) := by
  delta txSlotWrite
  extract_lets +onlyGivenNames -merge -lift -underBinder v1
  clear_value v1
  exact keeps_ite (fun _ => keeps_keyedFabric (Piece.sub hF (by decide +kernel)) (keeps_wr hs ⟨rfl, hF (by decide +kernel)⟩)) (fun _ =>
      keeps_bump hs ⟨rfl, hF (by decide +kernel)⟩)

theorem keeps_execSecFabricTxSlotWrite {F : List Piece} {a : State} {value : ℕ} {s : State} (hF : [.SEC_FABRIC, .RING_CNT] ⊆ F) (hs : Keeps F a s) :
    KeepsO F a (execSecFabricTxSlotWrite value s) := by
  delta execSecFabricTxSlotWrite
  exact KeepsO.mk (keeps_hostWrite hs (fun y1 h2 => keeps_txSlotWrite (Piece.sub hF (by decide +kernel)) h2))

theorem keeps_tdiMissing {F : List Piece} {a s : State} {port : ℕ} (hs : Keeps F a s) :
    Keeps F a (State.tdiMissing s port) := by
  delta State.tdiMissing
  exact keeps_tdispError hs

theorem keeps_tdispGet {F : List Piece} {a : State} {port c kind : ℕ} {s : State} (hs : Keeps F a s) :
    Keeps F a (tdispGet port c kind s) := by
  delta tdispGet
  split
  · exact keeps_tdisp hs
  · extract_lets +onlyGivenNames -merge -lift -underBinder v1
    clear_value v1
    exact keeps_tickFree (keeps_tdisp hs)
  · exact keeps_ite (fun _ => keeps_tickFree (keeps_tdisp hs)) (fun _ => keeps_tdiState hs)
  · exact keeps_tdisp hs
  · exact keeps_tdispError hs

theorem keeps_inSession {F : List Piece} {a s : State} {port sid : ℕ} {f : SpdmSess → State} (hF : [.SEC_CNT] ⊆ F) (hs : Keeps F a s) (hf : ∀ y0,
    Keeps F a (f y0)) :
    Keeps F a (State.inSession s port sid f) := by
  delta State.inSession
  refine keeps_ite (fun _ => ?_) (fun _ => hs)
  split
  · exact keeps_ite (fun _ => hf _) (fun _ => keeps_spdmUnsupported (Piece.sub hF (by decide +kernel)) hs)
  · exact keeps_spdmUnsupported (Piece.sub hF (by decide +kernel)) hs

theorem keeps_execTdispGetRequest {F : List Piece} {a : State} {port session ctx kind : ℕ} {s : State} (hF : [.SEC_CNT] ⊆ F) (hs : Keeps F a s) :
    KeepsO F a (execTdispGetRequest port session ctx kind s) := by
  delta execTdispGetRequest
  exact KeepsO.mk (keeps_inSession (Piece.sub hF (by decide +kernel)) hs (fun y1 => keeps_ite (fun _ => keeps_tdispGet hs) (fun _ =>
      keeps_tdiMissing hs)))

theorem keeps_execIdeStreamFailure {F : List Piece} {a : State} {port stream : ℕ} {s : State} (hF : [.hti, .mbx, .ses, .tier, .gore, .attn, .pwr,
    .fab, .fleet, .dec, .pool, .rcl, .ring, .sec, .TIER_RSV, .TIER_OBJ, .TIER_DRV, .TIER_CNT, .SHP_CTX_CNT, .SEC_IDE, .SEC_CTX, .SEC_CNT,
        .RING_CNT, .RCL_IDX, .RCL_GAUGE, .RCL_CTX_CNT, .RCL_CNT, .PWR_DROGUE, .PWR_CNT, .POOL_REGION, .POOL_OBJ, .POOL_LEND, .POOL_CNT, .MBX_SUM,
            .MBX_CNT, .HTI_W_QFAULT, .HTI_W_MBSTS, .HTI_W_EVT, .HTI_CNT, .GORE_TILE_CNT, .GORE_ROLE, .GORE_PANEL, .GORE_CTX, .GORE_CTX_CNT,
                .GORE_CNT, .GORE_ATTN_CNT, .CTL_SES, .CTL_SES_CNT, .CTL_READY, .CTL_PM, .CTL_ADM, .CTL_ADM_CNT] ⊆ F) (hs : Keeps F a s) :
    KeepsO F a (execIdeStreamFailure port stream s) := by
  delta execIdeStreamFailure
  refine KeepsO.mk ?_
  split
  · exact keeps_ite (fun _ => keeps_ideLost (Piece.sub hF (by decide +kernel)) (keeps_putIde (Piece.sub hF (by decide +kernel)) hs)) (fun _ => hs)
  · exact hs

theorem keeps_lockInterface {F : List Piece} {a : State} {port c stream : ℕ} {s : State} (hF : [.attn, .sec, .SEC_CTX, .SEC_CNT] ⊆ F) (hs : Keeps
    F a s) :
    Keeps F a (lockInterface port c stream s) := by
  delta lockInterface
  refine keeps_ite (fun _ => keeps_tdiMissing hs) (fun _ => ?_)
  refine keeps_ite (fun _ => keeps_tdiState hs) (fun _ => ?_)
  refine keeps_ite (fun _ => keeps_tdispError hs) (fun _ => ?_)
  extract_lets +onlyGivenNames -merge -lift -underBinder s1
  have h2 : Keeps F a s1 := by
    unfold s1
    exact keeps_newStorage (Piece.sub hF (by decide +kernel)) (keeps_eraseKeys (Piece.sub hF (by decide +kernel)) (keeps_bridleZero (Piece.sub hF
        (by decide +kernel)) hs))
  clear_value s1
  extract_lets +onlyGivenNames -merge -lift -underBinder v3
  clear_value v3
  extract_lets +onlyGivenNames -merge -lift -underBinder s4
  have h5 : Keeps F a s4 := by
    unfold s4
    exact keeps_setSec (Piece.sub hF (by decide +kernel)) h2
  clear_value s4
  extract_lets +onlyGivenNames -merge -lift -underBinder s6
  have h7 : Keeps F a s6 := by
    unfold s6
    exact keeps_bump (keeps_wr h5 ⟨rfl, hF (by decide +kernel)⟩) ⟨rfl, hF (by decide +kernel)⟩
  clear_value s6
  exact keeps_tickFree (keeps_tdisp h7)

theorem keeps_execLockInterfaceRequest {F : List Piece} {a : State} {port session ctx stream : ℕ} {s : State} (hF : [.attn, .sec, .SEC_CTX,
    .SEC_CNT] ⊆ F) (hs : Keeps F a s) :
    KeepsO F a (execLockInterfaceRequest port session ctx stream s) := by
  delta execLockInterfaceRequest
  exact KeepsO.mk (keeps_inSession (Piece.sub hF (by decide +kernel)) hs (fun y1 => keeps_ite (fun _ => keeps_lockInterface (Piece.sub hF
      (by decide +kernel)) hs) (fun _ => keeps_tdiMissing hs)))

theorem keeps_refuseProc {F : List Piece} {a s : State} {ch : ℕ} (hF : [.mbx] ⊆ F) (hs : Keeps F a s) :
    Keeps F a (State.refuseProc s ch) := by
  delta State.refuseProc
  exact keeps_tickFree (keeps_reply (Piece.sub hF (by decide +kernel)) hs)

theorem keeps_debugUnlock {F : List Piece} {a : State} {ch : ℕ} {good : Bool} {c : Chan} {s : State} (hF : [.hti, .mbx, .ses, .tier, .gore,
    .attn, .pwr, .fab, .fleet, .dec, .pool, .rcl, .ring, .sec, .TIER_RSV, .TIER_OBJ, .TIER_DRV, .TIER_CNT, .SHP_CTX_CNT, .SEC_FABRIC, .SEC_DEBUG,
        .SEC_CTX, .SEC_CNT, .RING_CNT, .RCL_IDX, .RCL_GAUGE, .RCL_CTX_CNT, .RCL_CNT, .PWR_DROGUE, .PWR_CNT, .POOL_REGION, .POOL_OBJ, .POOL_LEND,
            .POOL_CNT, .MBX_SUM, .MBX_CNT, .HTI_W_QFAULT, .HTI_W_MBSTS, .HTI_W_EVT, .HTI_CNT, .GORE_TILE_CNT, .GORE_SHAPE, .GORE_ROLE,
                .GORE_PANEL, .GORE_CTX, .GORE_CTX_CNT, .GORE_CNT, .GORE_ATTN_CNT, .CTL_SES, .CTL_SES_CNT, .CTL_READY, .CTL_PM, .CTL_ADM,
                    .CTL_ADM_CNT] ⊆ F) (hs : Keeps F a s) :
    Keeps F a (debugUnlock ch good c s) := by
  delta debugUnlock
  refine keeps_ite (fun _ => ?_) (fun _ => keeps_ite (fun _ => keeps_reply (Piece.sub hF (by decide +kernel)) (keeps_winch (Piece.sub hF
      (by decide +kernel)) (keeps_unlockDebug (Piece.sub hF (by decide +kernel)) hs))) (fun _ => keeps_refuseProc (Piece.sub hF
          (by decide +kernel)) (keeps_setSec (Piece.sub hF (by decide +kernel)) hs)))
  extract_lets +onlyGivenNames -merge -lift -underBinder v1
  clear_value v1
  exact keeps_reply (Piece.sub hF (by decide +kernel)) (keeps_tickFree (keeps_setSec (Piece.sub hF (by decide +kernel)) hs))

theorem keeps_execDebugUnlock {F : List Piece} {a : State} {chan : ℕ} {good : Bool} {s : State} (hF : [.hti, .mbx, .ses, .tier, .gore, .attn,
    .pwr, .fab, .fleet, .dec, .pool, .rcl, .ring, .sec, .TIER_RSV, .TIER_OBJ, .TIER_DRV, .TIER_CNT, .SHP_CTX_CNT, .SEC_FABRIC, .SEC_DEBUG,
        .SEC_CTX, .SEC_CNT, .RING_CNT, .RCL_IDX, .RCL_GAUGE, .RCL_CTX_CNT, .RCL_CNT, .PWR_DROGUE, .PWR_CNT, .POOL_REGION, .POOL_OBJ, .POOL_LEND,
            .POOL_CNT, .MBX_SUM, .MBX_CNT, .HTI_W_QFAULT, .HTI_W_MBSTS, .HTI_W_EVT, .HTI_CNT, .GORE_TILE_CNT, .GORE_SHAPE, .GORE_ROLE,
                .GORE_PANEL, .GORE_CTX, .GORE_CTX_CNT, .GORE_CNT, .GORE_ATTN_CNT, .CTL_SES, .CTL_SES_CNT, .CTL_READY, .CTL_PM, .CTL_ADM,
                    .CTL_ADM_CNT] ⊆ F) (hs : Keeps F a s) :
    KeepsO F a (execDebugUnlock chan good s) := by
  delta execDebugUnlock
  exact KeepsO.mk (keeps_ite (fun _ => keeps_procedure hs (fun y1 y2 h3 => keeps_debugUnlock (Piece.sub hF (by decide +kernel)) h3)) (fun _ => hs))

theorem keeps_execImportKeySet {F : List Piece} {a : State} {chan : ℕ} {s : State} (hF : [.mbx, .sec, .SEC_CTX] ⊆ F) (hs : Keeps F a s) :
    KeepsO F a (execImportKeySet chan s) := by
  delta execImportKeySet
  exact KeepsO.mk (keeps_ite (fun _ => keeps_procedure hs (fun y1 y2 h3 => keeps_ite (fun _ => keeps_refuseProc (Piece.sub hF
      (by decide +kernel)) h3) (fun _ => keeps_reply (Piece.sub hF (by decide +kernel)) (keeps_setImport (Piece.sub hF (by decide +kernel))
          h3)))) (fun _ => hs))

theorem keeps_ideKm {F : List Piece} {a : State} {port : ℕ} {r : IdeReq} {x0 : SpdmSess} {s : State} (hF : [.hti, .mbx, .ses, .tier, .gore,
    .attn, .pwr, .fab, .fleet, .dec, .pool, .rcl, .ring, .sec, .TIER_RSV, .TIER_OBJ, .TIER_DRV, .TIER_CNT, .SHP_CTX_CNT, .SEC_IDE, .SEC_CTX,
        .SEC_CNT, .RING_CNT, .RCL_IDX, .RCL_GAUGE, .RCL_CTX_CNT, .RCL_CNT, .PWR_DROGUE, .PWR_CNT, .POOL_REGION, .POOL_OBJ, .POOL_LEND, .POOL_CNT,
            .MBX_SUM, .MBX_CNT, .HTI_W_QFAULT, .HTI_W_MBSTS, .HTI_W_EVT, .HTI_CNT, .GORE_TILE_CNT, .GORE_ROLE, .GORE_PANEL, .GORE_CTX,
                .GORE_CTX_CNT, .GORE_CNT, .GORE_ATTN_CNT, .CTL_SES, .CTL_SES_CNT, .CTL_READY, .CTL_PM, .CTL_ADM, .CTL_ADM_CNT] ⊆ F) (hs : Keeps F
                    a s) :
    Keeps F a (ideKm port r x0 s) := by
  delta ideKm
  extract_lets +onlyGivenNames -merge -lift -underBinder v1
  clear_value v1
  split
  · exact keeps_tickFree (keeps_pciMsg hs)
  · exact keeps_ite (fun _ => keeps_ideAck (keeps_putIde (Piece.sub hF (by decide +kernel)) hs)) (fun _ => keeps_ideAck hs)
  · exact keeps_ite (fun _ => keeps_ideAck (keeps_putIde (Piece.sub hF (by decide +kernel)) hs)) (fun _ => keeps_spdmError (Piece.sub hF
        (by decide +kernel)) hs)
  · refine keeps_ite (fun _ => ?_) (fun _ => keeps_spdmError (Piece.sub hF (by decide +kernel)) hs)
    extract_lets +onlyGivenNames -merge -lift -underBinder v2 v3
    clear_value v2 v3
    extract_lets +onlyGivenNames -merge -lift -underBinder s4
    have h5 : Keeps F a s4 := by
      unfold s4
      exact keeps_ideAck (keeps_putIde (Piece.sub hF (by decide +kernel)) hs)
    clear_value s4
    exact keeps_ite (fun _ => keeps_ideLost (Piece.sub hF (by decide +kernel)) h5) (fun _ => h5)

theorem keeps_execStartInterfaceRequest {F : List Piece} {a : State} {port session ctx : ℕ} {s : State} (hF : [.SEC_CTX, .SEC_CNT] ⊆ F) (hs :
    Keeps F a s) :
    KeepsO F a (execStartInterfaceRequest port session ctx s) := by
  delta execStartInterfaceRequest
  exact KeepsO.mk (keeps_inSession (Piece.sub hF (by decide +kernel)) hs (fun y1 => keeps_ite (fun _ => keeps_ite (fun _ => keeps_tdisp (keeps_wr
      hs ⟨rfl, hF (by decide +kernel)⟩)) (fun _ => keeps_tdiState hs)) (fun _ => keeps_tdiMissing hs)))

theorem keeps_zeroize {F : List Piece} {a : State} {ch : ℕ} {s : State} (hF : [.mbx, .boot, .sec, .SEC_OWNER, .SEC_FABRIC, .SEC_CTX, .NVM_SS] ⊆
    F) (hs : Keeps F a s) :
    Keeps F a (zeroize ch s) := by
  delta zeroize
  extract_lets +onlyGivenNames -merge -lift -underBinder s1
  have h2 : Keeps F a s1 := by
    unfold s1
    exact keeps_foldl (fun s3 x4 h5 => keeps_eraseKeys (Piece.sub hF (by decide +kernel)) h5) hs
  clear_value s1
  extract_lets +onlyGivenNames -merge -lift -underBinder s6
  have h7 : Keeps F a s6 := by
    unfold s6
    exact keeps_dropFabric (Piece.sub hF (by decide +kernel)) (keeps_dropFabric (Piece.sub hF (by decide +kernel)) h2)
  clear_value s6
  extract_lets +onlyGivenNames -merge -lift -underBinder s8
  have h9 : Keeps F a s8 := by
    unfold s8
    exact keeps_wrAll h7 ⟨rfl, hF (by decide +kernel)⟩
  clear_value s8
  extract_lets +onlyGivenNames -merge -lift -underBinder v10
  clear_value v10
  extract_lets +onlyGivenNames -merge -lift -underBinder s11
  have h12 : Keeps F a s11 := by
    unfold s11
    exact keeps_setSec (Piece.sub hF (by decide +kernel)) h9
  clear_value s11
  extract_lets +onlyGivenNames -merge -lift -underBinder s13
  have h14 : Keeps F a s13 := by
    unfold s13
    exact keeps_wr (keeps_wr h12 ⟨rfl, hF (by decide +kernel)⟩) ⟨rfl, hF (by decide +kernel)⟩
  clear_value s13
  extract_lets +onlyGivenNames -merge -lift -underBinder v15
  clear_value v15
  extract_lets +onlyGivenNames -merge -lift -underBinder s16
  have h17 : Keeps F a s16 := by
    unfold s16
    exact Keeps.other h14 (hboot := .inr (hF (by decide +kernel)))
  clear_value s16
  extract_lets +onlyGivenNames -merge -lift -underBinder s18
  have h19 : Keeps F a s18 := by
    unfold s18
    exact keeps_wr (keeps_wr h17 ⟨rfl, hF (by decide +kernel)⟩) ⟨rfl, hF (by decide +kernel)⟩
  clear_value s18
  exact keeps_reply (Piece.sub hF (by decide +kernel)) h19

theorem keeps_execOwnerTransfer {F : List Piece} {a : State} {chan : ℕ} {good : Bool} {s : State} (hF : [.mbx, .sec, .SEC_OWNER] ⊆ F) (hs : Keeps
    F a s) :
    KeepsO F a (execOwnerTransfer chan good s) := by
  delta execOwnerTransfer
  refine KeepsO.mk ?_
  refine keeps_ite (fun _ => ?_) (fun _ => hs)
  refine keeps_procedure hs (fun y1 y2 h3 => ?_)
  refine keeps_ite (fun _ => ?_) (fun _ => keeps_refuseProc (Piece.sub hF (by decide +kernel)) h3)
  extract_lets +onlyGivenNames -merge -lift -underBinder v4
  clear_value v4
  extract_lets +onlyGivenNames -merge -lift -underBinder s5
  have h6 : Keeps F a s5 := by
    unfold s5
    exact keeps_setSec (Piece.sub hF (by decide +kernel)) h3
  clear_value s5
  exact keeps_reply (Piece.sub hF (by decide +kernel)) (keeps_wr (keeps_wr h6 ⟨rfl, hF (by decide +kernel)⟩) ⟨rfl, hF (by decide +kernel)⟩)

theorem keeps_fwStage {F : List Piece} {a : State} {ch : ℕ} {good : Bool} {c : Chan} {s : State} (hF : [.mbx, .sec] ⊆ F) (hs : Keeps F a s) :
    Keeps F a (fwStage ch good c s) := by
  delta fwStage
  extract_lets +onlyGivenNames -merge -lift -underBinder v1 v2 v3 v4 v5 v6
  clear_value v1 v2 v3 v4 v5 v6
  refine keeps_ite (fun _ => keeps_refuseProc (Piece.sub hF (by decide +kernel)) hs) (fun _ => ?_)
  refine keeps_ite (fun _ => keeps_reply (Piece.sub hF (by decide +kernel)) (keeps_setSec (Piece.sub hF (by decide +kernel)) hs)) (fun _ => ?_)
  refine keeps_ite (fun _ => keeps_reply (Piece.sub hF (by decide +kernel)) (keeps_setSec (Piece.sub hF (by decide +kernel)) hs)) (fun _ => ?_)
  extract_lets +onlyGivenNames -merge -lift -underBinder s7
  have h8 : Keeps F a s7 := by
    unfold s7
    exact keeps_emit hs
  clear_value s7
  extract_lets +onlyGivenNames -merge -lift -underBinder v9
  clear_value v9
  refine keeps_ite (fun _ => ?_) (fun _ => keeps_reply (Piece.sub hF (by decide +kernel)) (keeps_setSec (Piece.sub hF (by decide +kernel)) h8))
  extract_lets +onlyGivenNames -merge -lift -underBinder v10
  clear_value v10
  extract_lets +onlyGivenNames -merge -lift -underBinder s11
  have h12 : Keeps F a s11 := by
    unfold s11
    exact keeps_setSec (Piece.sub hF (by decide +kernel)) h8
  clear_value s11
  exact keeps_ite (fun _ => keeps_reply (Piece.sub hF (by decide +kernel)) h12) (fun _ => keeps_reply (Piece.sub hF (by decide +kernel))
      (keeps_emit h12))

theorem keeps_execJobKeyRetire {F : List Piece} {a : State} {k : ℕ} {s : State} (hF : [.hti, .mbx, .ses, .tier, .gore, .attn, .pwr, .fab, .fleet,
    .dec, .pool, .rcl, .ring, .sec, .TIER_RSV, .TIER_OBJ, .TIER_DRV, .TIER_CNT, .SHP_CTX_CNT, .SEC_FABRIC, .SEC_CTX, .SEC_CNT, .RING_CNT,
        .RCL_IDX, .RCL_GAUGE, .RCL_CTX_CNT, .RCL_CNT, .PWR_DROGUE, .PWR_CNT, .POOL_REGION, .POOL_OBJ, .POOL_LEND, .POOL_CNT, .MBX_SUM, .MBX_CNT,
            .HTI_W_QFAULT, .HTI_W_MBSTS, .HTI_W_EVT, .HTI_CNT, .GORE_TILE_CNT, .GORE_ROLE, .GORE_PANEL, .GORE_CTX, .GORE_CTX_CNT, .GORE_CNT,
                .GORE_ATTN_CNT, .CTL_SES, .CTL_SES_CNT, .CTL_READY, .CTL_PM, .CTL_ADM, .CTL_ADM_CNT] ⊆ F) (hs : Keeps F a s) :
    KeepsO F a (execJobKeyRetire k s) := by
  delta execJobKeyRetire
  exact KeepsO.mk (keeps_begin (Piece.sub hF (by decide +kernel)) hs (fun y1 y2 h3 => keeps_jobKeyRetire (Piece.sub hF (by decide +kernel)) h3))

theorem keeps_execIdeKmRequest {F : List Piece} {a : State} {port session : ℕ} {req : IdeReq} {s : State} (hF : [.hti, .mbx, .ses, .tier, .gore,
    .attn, .pwr, .fab, .fleet, .dec, .pool, .rcl, .ring, .sec, .TIER_RSV, .TIER_OBJ, .TIER_DRV, .TIER_CNT, .SHP_CTX_CNT, .SEC_IDE, .SEC_CTX,
        .SEC_CNT, .RING_CNT, .RCL_IDX, .RCL_GAUGE, .RCL_CTX_CNT, .RCL_CNT, .PWR_DROGUE, .PWR_CNT, .POOL_REGION, .POOL_OBJ, .POOL_LEND, .POOL_CNT,
            .MBX_SUM, .MBX_CNT, .HTI_W_QFAULT, .HTI_W_MBSTS, .HTI_W_EVT, .HTI_CNT, .GORE_TILE_CNT, .GORE_ROLE, .GORE_PANEL, .GORE_CTX,
                .GORE_CTX_CNT, .GORE_CNT, .GORE_ATTN_CNT, .CTL_SES, .CTL_SES_CNT, .CTL_READY, .CTL_PM, .CTL_ADM, .CTL_ADM_CNT] ⊆ F) (hs : Keeps F
                    a s) :
    KeepsO F a (execIdeKmRequest port session req s) := by
  delta execIdeKmRequest
  exact KeepsO.mk (keeps_inSession (Piece.sub hF (by decide +kernel)) hs (fun y1 => keeps_ideKm (Piece.sub hF (by decide +kernel)) hs))

theorem keeps_execFwStage {F : List Piece} {a : State} {chan : ℕ} {good : Bool} {s : State} (hF : [.mbx, .sec] ⊆ F) (hs : Keeps F a s) :
    KeepsO F a (execFwStage chan good s) := by
  delta execFwStage
  exact KeepsO.mk (keeps_ite (fun _ => keeps_procedure hs (fun y1 y2 h3 => keeps_fwStage (Piece.sub hF (by decide +kernel)) h3)) (fun _ => hs))

theorem keeps_execSecCntClr {F : List Piece} {a : State} {value : ℕ} {s : State} (hF : [.SEC_CNT] ⊆ F) (hs : Keeps F a s) :
    KeepsO F a (execSecCntClr value s) := by
  delta execSecCntClr
  exact KeepsO.mk (keeps_hostWrite hs (fun y1 h2 => keeps_ite (fun _ => keeps_zeroAll h2 ⟨rfl, hF (by decide +kernel)⟩) (fun _ => h2)))

theorem keeps_execKeySlotEmptied {F : List Piece} {a : State} {ctx slot : ℕ} {s : State} (hF : [.hti, .ring, .sec, .SHP_CTX_CNT, .SEC_CTX,
    .SEC_CNT, .HTI_W_QFAULT, .HTI_CNT] ⊆ F) (hs : Keeps F a s) :
    KeepsO F a (execKeySlotEmptied ctx slot s) := by
  delta execKeySlotEmptied
  exact KeepsO.mk (keeps_ite (fun _ => keeps_retired (Piece.sub hF (by decide +kernel)) hs) (fun _ => hs))

theorem keeps_stopInterface {F : List Piece} {a : State} {port c : ℕ} {reads : List (Option ℕ)} {s : State} (hF : [.hti, .mbx, .ses, .tier,
    .gore, .attn, .pwr, .fab, .fleet, .dec, .pool, .rcl, .ring, .sec, .TXT_SLOT, .TIER_RSV, .TIER_OBJ, .TIER_DRV, .TIER_CNT, .SHP_CTX_CNT,
        .SEC_CTX, .SEC_CNT, .RING_CNT, .RCL_IDX, .RCL_HELPER, .RCL_GAUGE, .RCL_CTX_CNT, .RCL_CNT, .PWR_DROGUE, .PWR_CNT, .POOL_REGION, .POOL_OBJ,
            .POOL_LEND, .POOL_CNT, .MBX_SUM, .MBX_CNT, .HTI_W_QFAULT, .HTI_W_MBSTS, .HTI_W_EVT, .HTI_CNT, .GORE_TILE_CNT, .GORE_SHAPE,
                .GORE_ROLE, .GORE_PANEL, .GORE_CTX, .GORE_CTX_CNT, .GORE_CNT, .GORE_ATTN_CNT, .DEC_GRAM, .DEC_GAUGE, .DEC_CNT, .CTL_SES,
                    .CTL_SES_CNT, .CTL_READY, .CTL_PM, .CTL_ADM, .CTL_ADM_CNT] ⊆ F) (hs : Keeps F a s) :
    Keeps F a (stopInterface port c reads s) := by
  delta stopInterface
  extract_lets +onlyGivenNames -merge -lift -underBinder s1
  have h2 : Keeps F a s1 := by
    unfold s1
    exact hs
  clear_value s1
  extract_lets +onlyGivenNames -merge -lift -underBinder s3
  have h4 : Keeps F a s3 := by
    unfold s3
    exact keeps_bridleZero (Piece.sub hF (by decide +kernel)) (keeps_newStorage (Piece.sub hF (by decide +kernel)) (keeps_eraseKeys (Piece.sub hF
        (by decide +kernel)) (keeps_scrub (Piece.sub hF (by decide +kernel)) hs)))
  clear_value s3
  extract_lets +onlyGivenNames -merge -lift -underBinder v5
  clear_value v5
  extract_lets +onlyGivenNames -merge -lift -underBinder s6
  have h7 : Keeps F a s6 := by
    unfold s6
    exact keeps_setSec (Piece.sub hF (by decide +kernel)) h4
  clear_value s6
  exact keeps_winch (Piece.sub hF (by decide +kernel)) (keeps_tdisp (keeps_refreshTdi (Piece.sub hF (by decide +kernel)) (keeps_wr h7 ⟨rfl, hF
      (by decide +kernel)⟩)))

theorem keeps_execZeroize {F : List Piece} {a : State} {chan : ℕ} {s : State} (hF : [.mbx, .boot, .sec, .SEC_OWNER, .SEC_FABRIC, .SEC_CTX,
    .NVM_SS] ⊆ F) (hs : Keeps F a s) :
    KeepsO F a (execZeroize chan s) := by
  delta execZeroize
  exact KeepsO.mk (keeps_ite (fun _ => keeps_procedure hs (fun y1 y2 h3 => keeps_zeroize (Piece.sub hF (by decide +kernel)) h3)) (fun _ => hs))

theorem keeps_execSvnCommit {F : List Piece} {a : State} {chan : ℕ} {s : State} (hF : [.mbx, .SEC_SVN] ⊆ F) (hs : Keeps F a s) :
    KeepsO F a (execSvnCommit chan s) := by
  delta execSvnCommit
  refine KeepsO.mk ?_
  refine keeps_ite (fun _ => ?_) (fun _ => hs)
  refine keeps_procedure hs (fun y1 y2 h3 => ?_)
  refine keeps_ite (fun _ => keeps_refuseProc (Piece.sub hF (by decide +kernel)) h3) (fun _ => ?_)
  extract_lets +onlyGivenNames -merge -lift -underBinder s4
  have h5 : Keeps F a s4 := by
    unfold s4
    exact keeps_wr h3 ⟨rfl, hF (by decide +kernel)⟩
  clear_value s4
  exact keeps_reply (Piece.sub hF (by decide +kernel)) h5

theorem keeps_execStopInterfaceRequest {F : List Piece} {a : State} {port session ctx : ℕ} {reads : List (Option ℕ)} {s : State} (hF : [.hti,
    .mbx, .ses, .tier, .gore, .attn, .pwr, .fab, .fleet, .dec, .pool, .rcl, .ring, .sec, .TXT_SLOT, .TIER_RSV, .TIER_OBJ, .TIER_DRV, .TIER_CNT,
        .SHP_CTX_CNT, .SEC_CTX, .SEC_CNT, .RING_CNT, .RCL_IDX, .RCL_HELPER, .RCL_GAUGE, .RCL_CTX_CNT, .RCL_CNT, .PWR_DROGUE, .PWR_CNT,
            .POOL_REGION, .POOL_OBJ, .POOL_LEND, .POOL_CNT, .MBX_SUM, .MBX_CNT, .HTI_W_QFAULT, .HTI_W_MBSTS, .HTI_W_EVT, .HTI_CNT,
                .GORE_TILE_CNT, .GORE_SHAPE, .GORE_ROLE, .GORE_PANEL, .GORE_CTX, .GORE_CTX_CNT, .GORE_CNT, .GORE_ATTN_CNT, .DEC_GRAM, .DEC_GAUGE,
                    .DEC_CNT, .CTL_SES, .CTL_SES_CNT, .CTL_READY, .CTL_PM, .CTL_ADM, .CTL_ADM_CNT] ⊆ F) (hs : Keeps F a s) :
    KeepsO F a (execStopInterfaceRequest port session ctx reads s) := by
  delta execStopInterfaceRequest
  exact KeepsO.mk (keeps_inSession (Piece.sub hF (by decide +kernel)) hs (fun y1 => keeps_ite (fun _ => keeps_ite (fun _ => keeps_stopInterface
      (Piece.sub hF (by decide +kernel)) hs) (fun _ => keeps_tdiState hs)) (fun _ => keeps_tdiMissing hs)))

/-! ### Mailboxes -/

theorem keeps_resetCause {F : List Piece} {a : State} {chan : ℕ} {s : State} (hF : [.mbx] ⊆ F) (hs : Keeps F a s) :
    Keeps F a (resetCause chan s) := by
  delta resetCause
  extract_lets +onlyGivenNames -merge -lift -underBinder v1 v2 v3
  clear_value v1 v2 v3
  exact keeps_reply (Piece.sub hF (by decide +kernel)) hs

theorem keeps_sumAck {F : List Piece} {a : State} {p value : ℕ} {s : State} (hF : [.MBX_SUM] ⊆ F) (hs : Keeps F a s) :
    Keeps F a (sumAck p value s) := by
  delta sumAck
  extract_lets +onlyGivenNames -merge -lift -underBinder v1
  clear_value v1
  exact keeps_wr hs ⟨rfl, hF (by decide +kernel)⟩

theorem keeps_execMbxSumAck {F : List Piece} {a : State} {port value : ℕ} {s : State} (hF : [.latch, .MBX_SUM] ⊆ F) (hs : Keeps F a s) :
    KeepsO F a (execMbxSumAck port value s) := by
  delta execMbxSumAck
  exact KeepsO.mk (keeps_ite (fun _ => keeps_hostWrite64 (Piece.sub hF (by decide +kernel)) hs ⟨rfl, hF (by decide +kernel)⟩ (fun y1 h2 =>
      keeps_sumAck (Piece.sub hF (by decide +kernel)) h2)) (fun _ => hs))

theorem keeps_evtDisable {F : List Piece} {a : State} {c value : ℕ} {s : State} (hF : [.mbx, .HTI_W_EVT] ⊆ F) (hs : Keeps F a s) :
    Keeps F a (evtDisable c value s) := by
  delta evtDisable
  extract_lets +onlyGivenNames -merge -lift -underBinder s1
  have h2 : Keeps F a s1 := by
    unfold s1
    exact keeps_wr hs ⟨rfl, hF (by decide +kernel)⟩
  clear_value s1
  exact keeps_evtOff (Piece.sub hF (by decide +kernel)) (keeps_wr (keeps_wr h2 ⟨rfl, hF (by decide +kernel)⟩) ⟨rfl, hF (by decide +kernel)⟩)

theorem keeps_execHtiWEvtDisable {F : List Piece} {a : State} {port ctx value : ℕ} {s : State} (hF : [.mbx, .SEC_CNT, .HTI_W_EVT, .HTI_ERRLOG] ⊆
    F) (hs : Keeps F a s) :
    KeepsO F a (execHtiWEvtDisable port ctx value s) := by
  delta execHtiWEvtDisable
  exact KeepsO.mk (keeps_ite (fun _ => keeps_window (Piece.sub hF (by decide +kernel)) hs (fun y1 h2 => keeps_evtDisable (Piece.sub hF
      (by decide +kernel)) h2)) (fun _ => hs))

theorem keeps_archiveRead {F : List Piece} {a : State} {chan : ℕ} {c : Chan} {s : State} (hF : [.mbx] ⊆ F) (hs : Keeps F a s) :
    Keeps F a (archiveRead chan c s) := by
  delta archiveRead
  extract_lets +onlyGivenNames -merge -lift -underBinder v1 v2
  clear_value v1 v2
  exact keeps_reply (Piece.sub hF (by decide +kernel)) hs

theorem keeps_wordFail {F : List Piece} {a : State} {p : ℕ} {s : State} (hF : [.mbx, .MBX_SUM, .MBX_MODE, .HTI_CNT] ⊆ F) (hs : Keeps F a s) :
    Keeps F a (wordFail p s) := by
  delta wordFail
  refine keeps_ite (fun _ => hs) (fun _ => ?_)
  extract_lets +onlyGivenNames -merge -lift -underBinder v1
  clear_value v1
  extract_lets +onlyGivenNames -merge -lift -underBinder s2
  have h3 : Keeps F a s2 := by
    unfold s2
    exact keeps_setMbx (Piece.sub hF (by decide +kernel)) hs
  clear_value s2
  exact keeps_refreshMode (Piece.sub hF (by decide +kernel)) (keeps_wr h3 (by split <;> exact ⟨rfl, hF (by decide +kernel)⟩))

theorem keeps_execDoorbellWordWriteFail {F : List Piece} {a : State} {port : ℕ} {s : State} (hF : [.mbx, .MBX_SUM, .MBX_MODE, .HTI_CNT] ⊆ F) (hs
    : Keeps F a s) :
    KeepsO F a (execDoorbellWordWriteFail port s) := by
  delta execDoorbellWordWriteFail
  exact KeepsO.mk (keeps_ite (fun _ => keeps_wordFail (Piece.sub hF (by decide +kernel)) hs) (fun _ => hs))

theorem keeps_drainAll {F : List Piece} {a s : State} {c : ℕ} (hF : [.mbx, .MBX_SUM, .HTI_W_EVT, .HTI_CNT] ⊆ F) (hs : Keeps F a s) :
    Keeps F a (State.drainAll s c) := by
  delta State.drainAll
  exact keeps_drainEvts (Piece.sub hF (by decide +kernel)) hs

theorem keeps_evtEnable {F : List Piece} {a : State} {c value : ℕ} {s : State} (hF : [.mbx, .MBX_SUM, .HTI_W_EVT, .HTI_ERRLOG, .HTI_CNT] ⊆ F) (hs
    : Keeps F a s) :
    Keeps F a (evtEnable c value s) := by
  delta evtEnable
  extract_lets +onlyGivenNames -merge -lift -underBinder v1
  clear_value v1
  refine keeps_ite (fun _ => keeps_ite (fun _ => keeps_errlog (Piece.sub hF (by decide +kernel)) hs) (fun _ => hs)) (fun _ => ?_)
  extract_lets +onlyGivenNames -merge -lift -underBinder s2
  have h3 : Keeps F a s2 := by
    unfold s2
    exact keeps_wr (keeps_wr hs ⟨rfl, hF (by decide +kernel)⟩) ⟨rfl, hF (by decide +kernel)⟩
  clear_value s2
  refine keeps_ite (fun _ => keeps_wr h3 ⟨rfl, hF (by decide +kernel)⟩) (fun _ => ?_)
  extract_lets +onlyGivenNames -merge -lift -underBinder v4
  clear_value v4
  extract_lets +onlyGivenNames -merge -lift -underBinder s5
  have h6 : Keeps F a s5 := by
    unfold s5
    exact keeps_setEvt (Piece.sub hF (by decide +kernel)) h3
  clear_value s5
  exact keeps_drainAll (Piece.sub hF (by decide +kernel)) (keeps_wr (keeps_wr h6 ⟨rfl, hF (by decide +kernel)⟩) ⟨rfl, hF (by decide +kernel)⟩)

theorem keeps_refusePath {F : List Piece} {a s : State} {port off : ℕ} (hF : [.SEC_CNT, .HTI_ERRLOG] ⊆ F) (hs : Keeps F a s) :
    Keeps F a (State.refusePath s port off) := by
  delta State.refusePath
  exact keeps_bump (keeps_errlog (Piece.sub hF (by decide +kernel)) hs) ⟨rfl, hF (by decide +kernel)⟩

theorem keeps_responseReady {F : List Piece} {a : State} {ch : ℕ} {s : State} (hF : Piece.withRegs [.latch, .hti, .mbx, .boot, .ses, .tier,
    .gore, .attn, .pwr, .pins, .fab, .fleet, .dec, .pool, .rcl, .ring, .sec] ⊆ F) (hs : Keeps F a s) :
    Keeps F a (responseReady ch s) := by
  delta responseReady
  extract_lets +onlyGivenNames -merge -lift -underBinder v1
  clear_value v1
  extract_lets +onlyGivenNames -merge -lift -underBinder s2
  have h3 : Keeps F a s2 := by
    unfold s2
    refine keeps_ite (fun _ => ?_) (fun _ => hs)
    split
    · exact keeps_reply (Piece.sub hF (by decide +kernel)) hs
    · exact hs
  clear_value s2
  split
  · exact h3
  · extract_lets +onlyGivenNames -merge -lift -underBinder v4
    clear_value v4
    extract_lets +onlyGivenNames -merge -lift -underBinder s5
    have h6 : Keeps F a s5 := by
      unfold s5
      exact keeps_setChan (Piece.sub hF (by decide +kernel)) h3
    clear_value s5
    extract_lets +onlyGivenNames -merge -lift -underBinder s7
    have h8 : Keeps F a s7 := by
      unfold s7
      exact keeps_setBusy (Piece.sub hF (by decide +kernel)) (keeps_setRsp (Piece.sub hF (by decide +kernel)) h6)
    clear_value s7
    extract_lets +onlyGivenNames -merge -lift -underBinder s9
    have h10 : Keeps F a s9 := by
      unfold s9
      exact keeps_ite (fun _ => keeps_emit h8) (fun _ => keeps_ite (fun _ => keeps_signal (Piece.sub hF (by decide +kernel)) h8) (fun _ => h8))
    clear_value s9
    exact keeps_ite (fun _ => keeps_warm (Piece.sub hF (by decide +kernel)) h10) (fun _ => h10)

theorem keeps_execMailboxResponseReady {F : List Piece} {a : State} {chan : ℕ} {s : State} (hF : Piece.withRegs [.latch, .hti, .mbx, .boot, .ses,
    .tier, .gore, .attn, .pwr, .pins, .fab, .fleet, .dec, .pool, .rcl, .ring, .sec] ⊆ F) (hs : Keeps F a s) :
    KeepsO F a (execMailboxResponseReady chan s) := by
  delta execMailboxResponseReady
  exact KeepsO.mk (keeps_ite (fun _ => keeps_responseReady (Piece.sub hF (by decide +kernel)) hs) (fun _ => hs))

theorem keeps_mctpMessage {F : List Piece} {a : State} {k value data : ℕ} {s : State} (hF : [.mbx, .SEC_CNT, .MBX_S, .MBX_CNT, .HTI_W_MBSTS] ⊆ F)
    (hs : Keeps F a s) :
    Keeps F a (mctpMessage k value data s) := by
  delta mctpMessage
  extract_lets +onlyGivenNames -merge -lift -underBinder v1 v2
  clear_value v1 v2
  refine keeps_ite (fun _ => hs) (fun _ => ?_)
  refine keeps_ite (fun _ => keeps_bump hs ⟨rfl, hF (by decide +kernel)⟩) (fun _ => ?_)
  refine keeps_ite (fun _ => keeps_seal (Piece.sub hF (by decide +kernel)) hs) (fun _ => ?_)
  extract_lets +onlyGivenNames -merge -lift -underBinder v3
  clear_value v3
  exact keeps_seal (Piece.sub hF (by decide +kernel)) (keeps_setChan (Piece.sub hF (by decide +kernel)) hs)

theorem keeps_execMctpSecureMessage {F : List Piece} {a : State} {k value data : ℕ} {s : State} (hF : [.mbx, .SEC_CNT, .MBX_S, .MBX_CNT,
    .HTI_W_MBSTS] ⊆ F) (hs : Keeps F a s) :
    KeepsO F a (execMctpSecureMessage k value data s) := by
  delta execMctpSecureMessage
  exact KeepsO.mk (keeps_ite (fun _ => keeps_mctpMessage (Piece.sub hF (by decide +kernel)) hs) (fun _ => hs))

theorem keeps_evtFail {F : List Piece} {a : State} {c : ℕ} {s : State} (hF : [.mbx, .HTI_W_EVT] ⊆ F) (hs : Keeps F a s) :
    Keeps F a (evtFail c s) := by
  delta evtFail
  extract_lets +onlyGivenNames -merge -lift -underBinder v1
  clear_value v1
  split
  · exact hs
  · refine keeps_ite (fun _ => hs) (fun _ => ?_)
    extract_lets +onlyGivenNames -merge -lift -underBinder v2
    clear_value v2
    extract_lets +onlyGivenNames -merge -lift -underBinder s3
    have h4 : Keeps F a s3 := by
      unfold s3
      exact keeps_wr hs ⟨rfl, hF (by decide +kernel)⟩
    clear_value s3
    extract_lets +onlyGivenNames -merge -lift -underBinder s5
    have h6 : Keeps F a s5 := by
      unfold s5
      exact keeps_setEvt (Piece.sub hF (by decide +kernel)) h4
    clear_value s5
    exact keeps_wr (keeps_evtOff (Piece.sub hF (by decide +kernel)) h6) ⟨rfl, hF (by decide +kernel)⟩

theorem keeps_execEventRecordWriteFail {F : List Piece} {a : State} {ctx : ℕ} {s : State} (hF : [.mbx, .HTI_W_EVT] ⊆ F) (hs : Keeps F a s) :
    KeepsO F a (execEventRecordWriteFail ctx s) := by
  delta execEventRecordWriteFail
  exact KeepsO.mk (keeps_ite (fun _ => keeps_evtFail (Piece.sub hF (by decide +kernel)) hs) (fun _ => hs))

theorem keeps_readSeal {F : List Piece} {a s : State} {ch : ℕ} (hF : [.MBX_S, .HTI_W_MBRSP] ⊆ F) (hs : Keeps F a s) :
    KeepsP F a (State.readSeal s ch) := by
  delta State.readSeal
  exact KeepsP.mk (keeps_ite (fun _ => keeps_wr hs ⟨rfl, hF (by decide +kernel)⟩) (fun _ => keeps_wr hs ⟨rfl, hF (by decide +kernel)⟩))

theorem keeps_windowRead {F : List Piece} {a s : State} {port ctx off bytes : ℕ} {f : State → State × ℕ} (hF : [.SEC_CNT, .HTI_ERRLOG] ⊆ F) (hs :
    Keeps F a s) (hf : ∀ y0, Keeps F a y0 → KeepsP F a (f y0)) :
    Keeps F a (State.windowRead s port ctx off bytes f) := by
  delta State.windowRead
  extract_lets +onlyGivenNames -merge -lift -underBinder v1
  clear_value v1
  exact keeps_ite (fun _ => keeps_emit hs) (fun _ => keeps_ite (fun _ => keeps_emit (keeps_errlog (Piece.sub hF (by decide +kernel)) hs)) (fun _
      => keeps_ite (fun _ => keeps_emit (keeps_bump hs ⟨rfl, hF (by decide +kernel)⟩)) (fun _ => keeps_emit (KeepsP.proj (hf _ hs)))))

theorem keeps_mbrspRead {F : List Piece} {a : State} {port chan : ℕ} {s : State} (hF : [.SEC_CNT, .MBX_S, .HTI_W_MBRSP, .HTI_ERRLOG] ⊆ F) (hs :
    Keeps F a s) :
    Keeps F a (mbrspRead port chan s) := by
  delta mbrspRead
  exact keeps_ite (fun _ => keeps_windowRead (Piece.sub hF (by decide +kernel)) hs (fun y1 h2 => keeps_readSeal (Piece.sub hF
      (by decide +kernel)) h2)) (fun _ => keeps_ite (fun _ => keeps_emit hs) (fun _ => keeps_ite (fun _ => keeps_emit (KeepsP.proj
          (keeps_readSeal (Piece.sub hF (by decide +kernel)) hs))) (fun _ => keeps_emit (keeps_bump hs ⟨rfl, hF (by decide +kernel)⟩))))

theorem keeps_execMbEcho {F : List Piece} {a : State} {chan : ℕ} {s : State} (hF : [.mbx] ⊆ F) (hs : Keeps F a s) :
    KeepsO F a (execMbEcho chan s) := by
  delta execMbEcho
  exact KeepsO.mk (keeps_ite (fun _ => keeps_procedure hs (fun y1 y2 h3 => keeps_reply (Piece.sub hF (by decide +kernel)) h3)) (fun _ => hs))

theorem keeps_mbreqSeal {F : List Piece} {a : State} {port chan value : ℕ} {s : State} (hF : [.mbx, .SEC_CNT, .MBX_S, .MBX_CNT, .HTI_W_MBSTS,
    .HTI_ERRLOG] ⊆ F) (hs : Keeps F a s) :
    Keeps F a (mbreqSeal port chan value s) := by
  delta mbreqSeal
  exact keeps_ite (fun _ => keeps_window (Piece.sub hF (by decide +kernel)) hs (fun y1 h2 => keeps_seal (Piece.sub hF (by decide +kernel)) h2))
      (fun _ => keeps_hostWrite hs (fun y3 h4 => keeps_ite (fun _ => keeps_seal (Piece.sub hF (by decide +kernel)) h4) (fun _ => keeps_refusePath
          (Piece.sub hF (by decide +kernel)) h4)))

theorem keeps_execHtiWMbreqSeal {F : List Piece} {a : State} {port chan value : ℕ} {s : State} (hF : [.mbx, .SEC_CNT, .MBX_S, .MBX_CNT,
    .HTI_W_MBSTS, .HTI_ERRLOG] ⊆ F) (hs : Keeps F a s) :
    KeepsO F a (execHtiWMbreqSeal port chan value s) := by
  delta execHtiWMbreqSeal
  exact KeepsO.mk (keeps_ite (fun _ => keeps_mbreqSeal (Piece.sub hF (by decide +kernel)) hs) (fun _ => hs))

theorem keeps_wordDone {F : List Piece} {a : State} {p : ℕ} {s : State} (hF : [.mbx, .MBX_CNT] ⊆ F) (hs : Keeps F a s) :
    Keeps F a (wordDone p s) := by
  delta wordDone
  refine keeps_ite (fun _ => hs) (fun _ => ?_)
  extract_lets +onlyGivenNames -merge -lift -underBinder v1 v2
  clear_value v1 v2
  extract_lets +onlyGivenNames -merge -lift -underBinder s3
  have h4 : Keeps F a s3 := by
    unfold s3
    exact keeps_setMbx (Piece.sub hF (by decide +kernel)) hs
  clear_value s3
  extract_lets +onlyGivenNames -merge -lift -underBinder s5
  have h6 : Keeps F a s5 := by
    unfold s5
    exact keeps_emit (keeps_bump h4 ⟨rfl, hF (by decide +kernel)⟩)
  clear_value s5
  exact keeps_ite (fun _ => keeps_sumWrite (Piece.sub hF (by decide +kernel)) h6) (fun _ => h6)

theorem keeps_execMbxCntClr {F : List Piece} {a : State} {value : ℕ} {s : State} (hF : [.MBX_CNT] ⊆ F) (hs : Keeps F a s) :
    KeepsO F a (execMbxCntClr value s) := by
  delta execMbxCntClr
  exact KeepsO.mk (keeps_hostWrite hs (fun y1 h2 => keeps_ite (fun _ => keeps_zeroAll h2 ⟨rfl, hF (by decide +kernel)⟩) (fun _ => h2)))

theorem keeps_fltHead {F : List Piece} {a : State} {c value : ℕ} {s : State} (hF : [.mbx, .MBX_SUM, .HTI_W_FLT, .HTI_CNT] ⊆ F) (hs : Keeps F a s) :
    Keeps F a (fltHead c value s) := by
  delta fltHead
  extract_lets +onlyGivenNames -merge -lift -underBinder s1
  have h2 : Keeps F a s1 := by
    unfold s1
    exact keeps_wr hs ⟨rfl, hF (by decide +kernel)⟩
  clear_value s1
  exact keeps_ite (fun _ => h2) (fun _ => keeps_signal (Piece.sub hF (by decide +kernel)) h2)

theorem keeps_execHtiWFltHeadWrite {F : List Piece} {a : State} {port ctx value : ℕ} {s : State} (hF : [.mbx, .SEC_CNT, .MBX_SUM, .HTI_W_FLT,
    .HTI_ERRLOG, .HTI_CNT] ⊆ F) (hs : Keeps F a s) :
    KeepsO F a (execHtiWFltHeadWrite port ctx value s) := by
  delta execHtiWFltHeadWrite
  exact KeepsO.mk (keeps_ite (fun _ => keeps_window (Piece.sub hF (by decide +kernel)) hs (fun y1 h2 => keeps_fltHead (Piece.sub hF
      (by decide +kernel)) h2)) (fun _ => hs))

theorem keeps_execMbInfo {F : List Piece} {a : State} {chan : ℕ} {s : State} (hF : [.mbx] ⊆ F) (hs : Keeps F a s) :
    KeepsO F a (execMbInfo chan s) := by
  delta execMbInfo
  exact KeepsO.mk (keeps_ite (fun _ => keeps_procedure hs (fun y1 y2 h3 => keeps_reply (Piece.sub hF (by decide +kernel)) h3)) (fun _ => hs))

theorem keeps_execFaultArchiveRead {F : List Piece} {a : State} {chan : ℕ} {s : State} (hF : [.mbx] ⊆ F) (hs : Keeps F a s) :
    KeepsO F a (execFaultArchiveRead chan s) := by
  delta execFaultArchiveRead
  exact KeepsO.mk (keeps_ite (fun _ => keeps_procedure hs (fun y1 y2 h3 => keeps_archiveRead (Piece.sub hF (by decide +kernel)) h3)) (fun _ => hs))

theorem keeps_execHtiWEvtEnable {F : List Piece} {a : State} {port ctx value : ℕ} {s : State} (hF : [.mbx, .SEC_CNT, .MBX_SUM, .HTI_W_EVT,
    .HTI_ERRLOG, .HTI_CNT] ⊆ F) (hs : Keeps F a s) :
    KeepsO F a (execHtiWEvtEnable port ctx value s) := by
  delta execHtiWEvtEnable
  exact KeepsO.mk (keeps_ite (fun _ => keeps_window (Piece.sub hF (by decide +kernel)) hs (fun y1 h2 => keeps_evtEnable (Piece.sub hF
      (by decide +kernel)) h2)) (fun _ => hs))

theorem keeps_execHtiWMbrspRead {F : List Piece} {a : State} {port chan : ℕ} {s : State} (hF : [.SEC_CNT, .MBX_S, .HTI_W_MBRSP, .HTI_ERRLOG] ⊆ F)
    (hs : Keeps F a s) :
    KeepsO F a (execHtiWMbrspRead port chan s) := by
  delta execHtiWMbrspRead
  exact KeepsO.mk (keeps_ite (fun _ => keeps_mbrspRead (Piece.sub hF (by decide +kernel)) hs) (fun _ => hs))

theorem keeps_evtHead {F : List Piece} {a : State} {c value : ℕ} {s : State} (hF : [.mbx, .MBX_SUM, .HTI_W_EVT, .HTI_ERRLOG, .HTI_CNT] ⊆ F) (hs :
    Keeps F a s) :
    Keeps F a (evtHead c value s) := by
  delta evtHead
  extract_lets +onlyGivenNames -merge -lift -underBinder v1 v2 v3 v4 v5
  clear_value v1 v2 v3 v4 v5
  extract_lets +onlyGivenNames -merge -lift -underBinder f8
  unfold f8
  beta_reduce
  refine keeps_ite (fun _ => keeps_bump (keeps_errlog (Piece.sub hF (by decide +kernel)) hs) ⟨rfl, hF (by decide +kernel)⟩) (fun _ => ?_)
  refine keeps_ite (fun _ => keeps_bump (keeps_errlog (Piece.sub hF (by decide +kernel)) hs) ⟨rfl, hF (by decide +kernel)⟩) (fun _ => ?_)
  extract_lets +onlyGivenNames -merge -lift -underBinder s6
  have h7 : Keeps F a s6 := by
    unfold s6
    exact keeps_wr hs ⟨rfl, hF (by decide +kernel)⟩
  clear_value s6
  exact keeps_drainAll (Piece.sub hF (by decide +kernel)) (keeps_ite (fun _ => h7) (fun _ => keeps_signal (Piece.sub hF (by decide +kernel)) h7))

theorem keeps_execHtiWEvtHeadWrite {F : List Piece} {a : State} {port ctx value : ℕ} {s : State} (hF : [.mbx, .SEC_CNT, .MBX_SUM, .HTI_W_EVT,
    .HTI_ERRLOG, .HTI_CNT] ⊆ F) (hs : Keeps F a s) :
    KeepsO F a (execHtiWEvtHeadWrite port ctx value s) := by
  delta execHtiWEvtHeadWrite
  exact KeepsO.mk (keeps_ite (fun _ => keeps_window (Piece.sub hF (by decide +kernel)) hs (fun y1 h2 => keeps_evtHead (Piece.sub hF
      (by decide +kernel)) h2)) (fun _ => hs))

theorem keeps_execDoorbellWordWriteDone {F : List Piece} {a : State} {port : ℕ} {s : State} (hF : [.mbx, .MBX_CNT] ⊆ F) (hs : Keeps F a s) :
    KeepsO F a (execDoorbellWordWriteDone port s) := by
  delta execDoorbellWordWriteDone
  exact KeepsO.mk (keeps_ite (fun _ => keeps_wordDone (Piece.sub hF (by decide +kernel)) hs) (fun _ => hs))

theorem keeps_execResetCause {F : List Piece} {a : State} {chan : ℕ} {s : State} (hF : [.mbx] ⊆ F) (hs : Keeps F a s) :
    KeepsO F a (execResetCause chan s) := by
  delta execResetCause
  exact KeepsO.mk (keeps_ite (fun _ => keeps_procedure hs (fun y1 y2 h3 => keeps_resetCause (Piece.sub hF (by decide +kernel)) h3)) (fun _ => hs))

end Sys2Proof.Machine
end

