-- ==== Sys2Proof/Laws/KeepsFabric.lean ====
section
/-! SUPPORT. `Keeps` for the operations and meanings of Machine/: Pool, MapOps, RingFrames, Fabric, Evac. Each lemma says what an operation may change, and
that it keeps the rest. -/

namespace Sys2Proof.Machine

set_option Elab.async false

/-! ### Pool -/

theorem keeps_finishAttach {F : List Piece} {a s : State} {c : Cmd} {window : Option ℕ} {code gen bytes : ℕ} (hF : [.hti, .pool, .ring,
    .SHP_CTX_CNT, .SEC_CNT, .POOL_CNT, .HTI_W_QFAULT, .HTI_CNT] ⊆ F) (hs : Keeps F a s) :
    Keeps F a (State.finishAttach s c window code gen bytes) := by
  delta State.finishAttach
  extract_lets +onlyGivenNames -merge -lift -underBinder v1
  clear_value v1
  split
  · extract_lets +onlyGivenNames -merge -lift -underBinder v2 v3
    clear_value v2 v3
    extract_lets +onlyGivenNames -merge -lift -underBinder s4
    have h5 : Keeps F a s4 := by
      unfold s4
      exact keeps_setPool (Piece.sub hF (by decide +kernel)) hs
    clear_value s4
    exact keeps_finish (Piece.sub hF (by decide +kernel)) (keeps_bump h5 ⟨rfl, hF (by decide +kernel)⟩)
  · exact keeps_finish (Piece.sub hF (by decide +kernel)) hs
  · exact keeps_finish (Piece.sub hF (by decide +kernel)) hs
  · exact keeps_finish (Piece.sub hF (by decide +kernel)) hs

theorem keeps_regionAttach {F : List Piece} {a : State} {c : Cmd} {s : State} (hF : [.hti, .pool, .ring, .SHP_CTX_CNT, .SEC_CNT, .RING_CNT,
    .POOL_REGION, .POOL_LEND, .POOL_CNT, .HTI_W_QFAULT, .HTI_CNT] ⊆ F) (hs : Keeps F a s) :
    Keeps F a (regionAttach c s) := by
  delta regionAttach
  extract_lets +onlyGivenNames -merge -lift -underBinder v1
  clear_value v1
  split
  · exact keeps_finish (Piece.sub hF (by decide +kernel)) hs
  · extract_lets +onlyGivenNames -merge -lift -underBinder v2
    clear_value v2
    refine keeps_ite (fun _ => ?_) (fun _ => ?_)
    · split
      · exact keeps_finish (Piece.sub hF (by decide +kernel)) hs
      · extract_lets +onlyGivenNames -merge -lift -underBinder v3
        clear_value v3
        extract_lets +onlyGivenNames -merge -lift -underBinder s4
        have h5 : Keeps F a s4 := by
          unfold s4
          exact keeps_ite (fun _ => keeps_takeHold (Piece.sub hF (by decide +kernel)) hs) (fun _ => hs)
        clear_value s4
        exact keeps_finishAttach (Piece.sub hF (by decide +kernel)) h5
    · split
      · exact keeps_finish (Piece.sub hF (by decide +kernel)) hs
      · exact keeps_send (Piece.sub hF (by decide +kernel)) hs

theorem keeps_execRegionAttachAttach {F : List Piece} {a : State} {k : ℕ} {s : State} (hF : [.hti, .pool, .ring, .SHP_CTX_CNT, .SEC_CNT,
    .RING_CNT, .POOL_REGION, .POOL_LEND, .POOL_CNT, .HTI_W_QFAULT, .HTI_CNT] ⊆ F) (hs : Keeps F a s) :
    KeepsO F a (execRegionAttachAttach k s) := by
  delta execRegionAttachAttach
  exact KeepsO.mk (keeps_begin (Piece.sub hF (by decide +kernel)) hs (fun y1 y2 h3 => keeps_regionAttach (Piece.sub hF (by decide +kernel)) h3))

theorem keeps_updPub {F : List Piece} {a s : State} {k : ℕ} {f : PubRun → PubRun} (hF : [.pool] ⊆ F) (hs : Keeps F a s) :
    Keeps F a (State.updPub s k f) := by
  delta State.updPub
  exact keeps_setPool (Piece.sub hF (by decide +kernel)) hs

theorem keeps_publishResend {F : List Piece} {a : State} {token : ℕ} {s : State} (hF : [.pool, .ring, .RING_CNT] ⊆ F) (hs : Keeps F a s) :
    Keeps F a (publishResend token s) := by
  delta publishResend
  split
  · exact keeps_ite (fun _ => keeps_send (Piece.sub hF (by decide +kernel)) (keeps_updPub (Piece.sub hF (by decide +kernel)) hs)) (fun _ => hs)
  · exact hs

theorem keeps_execPublishCommitResend {F : List Piece} {a : State} {dt token : ℕ} {s : State} (hF : [.fleet, .pool, .ring, .TIER_STALL,
    .SHP_CTX_CNT, .RING_PORT_CNT, .RING_CNT, .PWR_CNT, .MTR_LIVE, .HTI_TIME, .HTI_CNT, .GORE_CTX_CNT, .GORE_CLASS, .CTL_RT, .CTL_RST_CNT,
        .CTL_PIN_CNT] ⊆ F) (hs : Keeps F a s) :
    KeepsO F a (execPublishCommitResend dt token s) := by
  delta execPublishCommitResend
  exact KeepsO.mk (keeps_publishResend (Piece.sub hF (by decide +kernel)) (keeps_pass (Piece.sub hF (by decide +kernel)) hs))

theorem keeps_publishReadyReceived {F : List Piece} {a : State} {token : ℕ} {data : Option ℕ} {s : State} (hF : [.hti, .pool, .ring,
    .SHP_CTX_CNT, .SEC_CNT, .RING_CNT, .POOL_REGION, .POOL_LEND, .HTI_W_QFAULT, .HTI_CNT] ⊆ F) (hs : Keeps F a s) :
    Keeps F a (publishReadyReceived token data s) := by
  delta publishReadyReceived
  split
  · exact hs
  · refine keeps_ite (fun _ => hs) (fun _ => ?_)
    split
    · exact keeps_endPub (Piece.sub hF (by decide +kernel)) hs
    · extract_lets +onlyGivenNames -merge -lift -underBinder v1
      clear_value v1
      extract_lets +onlyGivenNames -merge -lift -underBinder s2
      have h3 : Keeps F a s2 := by
        unfold s2
        exact keeps_updPub (Piece.sub hF (by decide +kernel)) hs
      clear_value s2
      refine keeps_ite (fun _ => ?_) (fun _ => keeps_send (Piece.sub hF (by decide +kernel)) (keeps_send (Piece.sub hF (by decide +kernel)) h3))
      split
      · exact keeps_putRegion (Piece.sub hF (by decide +kernel)) h3
      · exact h3

theorem keeps_execPublishReadyReceived {F : List Piece} {a : State} {token : ℕ} {data : Option ℕ} {s : State} (hF : [.hti, .pool, .ring,
    .SHP_CTX_CNT, .SEC_CNT, .RING_CNT, .POOL_REGION, .POOL_LEND, .HTI_W_QFAULT, .HTI_CNT] ⊆ F) (hs : Keeps F a s) :
    KeepsO F a (execPublishReadyReceived token data s) := by
  delta execPublishReadyReceived
  exact KeepsO.mk (keeps_publishReadyReceived (Piece.sub hF (by decide +kernel)) hs)

theorem keeps_pubAnswer {F : List Piece} {a s : State} {token ans gen : ℕ} (hF : [.hti, .pool, .ring, .SHP_CTX_CNT, .SEC_CNT, .POOL_REGION,
    .POOL_LEND, .HTI_W_QFAULT, .HTI_CNT] ⊆ F) (hs : Keeps F a s) :
    Keeps F a (State.pubAnswer s token ans gen) := by
  delta State.pubAnswer
  split
  · exact hs
  · split
    · exact keeps_endPub (Piece.sub hF (by decide +kernel)) hs
    · exact keeps_endPub (Piece.sub hF (by decide +kernel)) hs
    · exact keeps_endPub (Piece.sub hF (by decide +kernel)) hs
    · exact keeps_endPub (Piece.sub hF (by decide +kernel)) hs
    · exact keeps_endPub (Piece.sub hF (by decide +kernel)) hs
    · exact keeps_endPub (Piece.sub hF (by decide +kernel)) hs

theorem keeps_pubReply {F : List Piece} {a s : State} {src token rid ans gen : ℕ} (hF : [.hti, .pool, .ring, .SHP_CTX_CNT, .SEC_CNT, .RING_CNT,
    .POOL_REGION, .POOL_LEND, .HTI_W_QFAULT, .HTI_CNT] ⊆ F) (hs : Keeps F a s) :
    Keeps F a (State.pubReply s src token rid ans gen) := by
  delta State.pubReply
  exact keeps_ite (fun _ => keeps_pubAnswer (Piece.sub hF (by decide +kernel)) hs) (fun _ => keeps_send (Piece.sub hF (by decide +kernel)) hs)

theorem keeps_askBack {F : List Piece} {a s : State} {t2 : Bool} {limit : ℕ} (hF : [.pool] ⊆ F) (hs : Keeps F a s) :
    Keeps F a (State.askBack s t2 limit) := by
  delta State.askBack
  extract_lets +onlyGivenNames -merge -lift -underBinder v1
  clear_value v1
  extract_lets +onlyGivenNames -merge -lift -underBinder s2
  have h3 : Keeps F a s2 := by
    unfold s2
    exact keeps_setPool (Piece.sub hF (by decide +kernel)) hs
  clear_value s2
  refine KeepsP.proj ?_
  refine keeps_foldp (fun s4 x5 h6 => ?_) (KeepsP.mk h3)
  refine keepsP_ite (fun _ => h6) (fun _ => ?_)
  extract_lets +onlyGivenNames -merge -lift -underBinder v7
  clear_value v7
  extract_lets +onlyGivenNames -merge -lift -underBinder s8
  have h9 : Keeps F a s8 := by
    unfold s8
    exact keeps_setPool (Piece.sub hF (by decide +kernel)) (KeepsP.proj h6)
  clear_value s8
  exact KeepsP.mk (keeps_emit h9)

theorem keeps_lendSet {F : List Piece} {a : State} {c : Cmd} {s : State} (hF : [.hti, .mbx, .ses, .tier, .fleet, .pool, .ring, .TIER_OBJ,
    .TIER_DRV, .TIER_CNT, .SHP_CTX_CNT, .SEC_CNT, .POOL_OBJ, .POOL_LEND, .POOL_CNT, .MBX_SUM, .MBX_CNT, .HTI_W_QFAULT, .HTI_W_MBSTS, .HTI_W_EVT,
        .HTI_CNT, .CTL_SES, .CTL_SES_CNT, .CTL_READY] ⊆ F) (hs : Keeps F a s) :
    Keeps F a (lendSet c s) := by
  delta lendSet
  extract_lets +onlyGivenNames -merge -lift -underBinder v1 v2 v3 v4
  clear_value v1 v2 v3 v4
  refine keeps_ite (fun _ => keeps_finish (Piece.sub hF (by decide +kernel)) hs) (fun _ => ?_)
  extract_lets +onlyGivenNames -merge -lift -underBinder v5 v6 v7
  clear_value v5 v6 v7
  extract_lets +onlyGivenNames -merge -lift -underBinder s8
  have h9 : Keeps F a s8 := by
    unfold s8
    exact keeps_setPool (Piece.sub hF (by decide +kernel)) hs
  clear_value s8
  extract_lets +onlyGivenNames -merge -lift -underBinder s10
  have h11 : Keeps F a s10 := by
    unfold s10
    exact keeps_ite (fun _ => keeps_putLend (Piece.sub hF (by decide +kernel)) h9) (fun _ => keeps_press (Piece.sub hF (by decide +kernel)) h9)
  clear_value s10
  exact keeps_checkLend (Piece.sub hF (by decide +kernel)) (keeps_askBack (Piece.sub hF (by decide +kernel)) (keeps_askBack (Piece.sub hF
      (by decide +kernel)) h11))

theorem keeps_finishDestroy {F : List Piece} {a s : State} {k code value : ℕ} (hF : [.hti, .ring, .SHP_CTX_CNT, .SEC_CNT, .HTI_W_QFAULT,
    .HTI_CNT] ⊆ F) (hs : Keeps F a s) :
    Keeps F a (State.finishDestroy s k code value) := by
  delta State.finishDestroy
  split
  · exact keeps_finish (Piece.sub hF (by decide +kernel)) hs
  · exact keeps_finish (Piece.sub hF (by decide +kernel)) hs
  · exact keeps_finish (Piece.sub hF (by decide +kernel)) hs
  · exact keeps_finish (Piece.sub hF (by decide +kernel)) hs

theorem keeps_destroyRegion {F : List Piece} {a s : State} {r : PRegion} (hF : [.hti, .pool, .ring, .SHP_CTX_CNT, .SEC_CNT, .RING_CNT,
    .POOL_REGION, .POOL_LEND, .HTI_W_QFAULT, .HTI_CNT] ⊆ F) (hs : Keeps F a s) :
    KeepsP F a (State.destroyRegion s r) := by
  delta State.destroyRegion
  refine keepsP_ite (fun _ => KeepsP.mk hs) (fun _ => ?_)
  extract_lets +onlyGivenNames -merge -lift -underBinder v1 v2 v3
  clear_value v1 v2 v3
  extract_lets +onlyGivenNames -merge -lift -underBinder s4
  have h5 : Keeps F a s4 := by
    unfold s4
    exact keeps_setPool (Piece.sub hF (by decide +kernel)) hs
  clear_value s4
  extract_lets +onlyGivenNames -merge -lift -underBinder s6
  have h7 : Keeps F a s6 := by
    unfold s6
    exact keeps_showRegion (Piece.sub hF (by decide +kernel)) h5
  clear_value s6
  extract_lets +onlyGivenNames -merge -lift -underBinder s8
  have h9 : Keeps F a s8 := by
    unfold s8
    refine keeps_foldl (fun s10 x11 h12 => ?_) h7
    refine keeps_ite (fun _ => ?_) (fun _ => keeps_send (Piece.sub hF (by decide +kernel)) h12)
    split
    · exact keeps_endPub (Piece.sub hF (by decide +kernel)) h12
    · exact h12
  clear_value s8
  exact KeepsP.mk h9

theorem keeps_regionDestroy {F : List Piece} {a : State} {c : Cmd} {s : State} (hF : [.hti, .pool, .ring, .SHP_CTX_CNT, .SEC_CNT, .RING_CNT,
    .POOL_REGION, .POOL_LEND, .HTI_W_QFAULT, .HTI_CNT] ⊆ F) (hs : Keeps F a s) :
    Keeps F a (regionDestroy c s) := by
  delta regionDestroy
  extract_lets +onlyGivenNames -merge -lift -underBinder v1
  clear_value v1
  split
  · exact keeps_finish (Piece.sub hF (by decide +kernel)) hs
  · refine keeps_ite (fun _ => ?_) (fun _ => keeps_send (Piece.sub hF (by decide +kernel)) hs)
    split
    · extract_lets +onlyGivenNames -merge -lift -underBinder p2
      have h3 : KeepsP F a p2 := by
        unfold p2
        exact keeps_destroyRegion (Piece.sub hF (by decide +kernel)) hs
      clear_value p2
      exact keeps_finishDestroy (Piece.sub hF (by decide +kernel)) (KeepsP.proj h3)
    · exact keeps_finish (Piece.sub hF (by decide +kernel)) hs

theorem keeps_regionPublish {F : List Piece} {a : State} {c : Cmd} {s : State} (hF : [.hti, .pool, .ring, .SHP_CTX_CNT, .SEC_CNT, .RING_CNT,
    .HTI_W_QFAULT, .HTI_CNT] ⊆ F) (hs : Keeps F a s) :
    Keeps F a (regionPublish c s) := by
  delta regionPublish
  extract_lets +onlyGivenNames -merge -lift -underBinder v1 v2 v3 v4
  clear_value v1 v2 v3 v4
  split
  · exact keeps_finish (Piece.sub hF (by decide +kernel)) hs
  · refine keeps_ite (fun _ => keeps_finish (Piece.sub hF (by decide +kernel)) hs) (fun _ => ?_)
    refine keeps_ite (fun _ => keeps_finish (Piece.sub hF (by decide +kernel)) hs) (fun _ => ?_)
    extract_lets +onlyGivenNames -merge -lift -underBinder v5
    clear_value v5
    extract_lets +onlyGivenNames -merge -lift -underBinder s6
    have h7 : Keeps F a s6 := by
      unfold s6
      exact keeps_setPool (Piece.sub hF (by decide +kernel)) hs
    clear_value s6
    exact keeps_ite (fun _ => h7) (fun _ => keeps_send (Piece.sub hF (by decide +kernel)) h7)

theorem keeps_execRegionPublish {F : List Piece} {a : State} {k : ℕ} {s : State} (hF : [.hti, .pool, .ring, .SHP_CTX_CNT, .SEC_CNT, .RING_CNT,
    .HTI_W_QFAULT, .HTI_CNT] ⊆ F) (hs : Keeps F a s) :
    KeepsO F a (execRegionPublish k s) := by
  delta execRegionPublish
  exact KeepsO.mk (keeps_begin (Piece.sub hF (by decide +kernel)) hs (fun y1 y2 h3 => keeps_regionPublish (Piece.sub hF (by decide +kernel)) h3))

theorem keeps_stageExpiry {F : List Piece} {a : State} {slot src token : ℕ} {s : State} (hF : [.pool, .POOL_REGION, .POOL_LEND, .POOL_CNT] ⊆ F)
    (hs : Keeps F a s) :
    Keeps F a (stageExpiry slot src token s) := by
  delta stageExpiry
  split
  · exact hs
  · exact keeps_ite (fun _ => keeps_bump (keeps_dropStaging (Piece.sub hF (by decide +kernel)) hs) ⟨rfl, hF (by decide +kernel)⟩) (fun _ => hs)

theorem keeps_execStageLimitExpiry {F : List Piece} {a : State} {dt slot src token : ℕ} {s : State} (hF : [.fleet, .pool, .TIER_STALL,
    .SHP_CTX_CNT, .RING_PORT_CNT, .PWR_CNT, .POOL_REGION, .POOL_LEND, .POOL_CNT, .MTR_LIVE, .HTI_TIME, .HTI_CNT, .GORE_CTX_CNT, .GORE_CLASS,
        .CTL_RT, .CTL_RST_CNT, .CTL_PIN_CNT] ⊆ F) (hs : Keeps F a s) :
    KeepsO F a (execStageLimitExpiry dt slot src token s) := by
  delta execStageLimitExpiry
  exact KeepsO.mk (keeps_stageExpiry (Piece.sub hF (by decide +kernel)) (keeps_pass (Piece.sub hF (by decide +kernel)) hs))

theorem keeps_execLendSet {F : List Piece} {a : State} {k : ℕ} {s : State} (hF : [.hti, .mbx, .ses, .tier, .fleet, .pool, .ring, .TIER_OBJ,
    .TIER_DRV, .TIER_CNT, .SHP_CTX_CNT, .SEC_CNT, .POOL_OBJ, .POOL_LEND, .POOL_CNT, .MBX_SUM, .MBX_CNT, .HTI_W_QFAULT, .HTI_W_MBSTS, .HTI_W_EVT,
        .HTI_CNT, .CTL_SES, .CTL_SES_CNT, .CTL_READY] ⊆ F) (hs : Keeps F a s) :
    KeepsO F a (execLendSet k s) := by
  delta execLendSet
  exact KeepsO.mk (keeps_begin (Piece.sub hF (by decide +kernel)) hs (fun y1 y2 h3 => keeps_lendSet (Piece.sub hF (by decide +kernel)) h3))

theorem keeps_regionCreate {F : List Piece} {a : State} {c : Cmd} {s : State} (hF : [.hti, .pool, .ring, .SHP_CTX_CNT, .SEC_CNT, .POOL_REGION,
    .POOL_LEND, .HTI_W_QFAULT, .HTI_CNT] ⊆ F) (hs : Keeps F a s) :
    Keeps F a (regionCreate c s) := by
  delta regionCreate
  split
  · exact keeps_finish (Piece.sub hF (by decide +kernel)) hs
  · extract_lets +onlyGivenNames -merge -lift -underBinder v1 v2 v3
    clear_value v1 v2 v3
    exact keeps_finish (Piece.sub hF (by decide +kernel)) (keeps_putRegion (Piece.sub hF (by decide +kernel)) hs)

theorem keeps_execRegionMapCreate {F : List Piece} {a : State} {k : ℕ} {s : State} (hF : [.hti, .pool, .ring, .SHP_CTX_CNT, .SEC_CNT,
    .POOL_REGION, .POOL_LEND, .HTI_W_QFAULT, .HTI_CNT] ⊆ F) (hs : Keeps F a s) :
    KeepsO F a (execRegionMapCreate k s) := by
  delta execRegionMapCreate
  exact KeepsO.mk (keeps_begin (Piece.sub hF (by decide +kernel)) hs (fun y1 y2 h3 => keeps_notEvacuating (Piece.sub hF (by decide +kernel)) (fun
      y4 y5 h6 => keeps_regionCreate (Piece.sub hF (by decide +kernel)) h6) h3))

theorem keeps_publishCommitReceived {F : List Piece} {a : State} {src token rid expect data : ℕ} {s : State} (hF : [.hti, .pool, .ring,
    .SHP_CTX_CNT, .SEC_CNT, .RING_CNT, .POOL_REGION, .POOL_LEND, .POOL_CNT, .HTI_W_QFAULT, .HTI_CNT] ⊆ F) (hs : Keeps F a s) :
    Keeps F a (publishCommitReceived src token rid expect data s) := by
  delta publishCommitReceived
  refine keeps_ite (fun _ => hs) (fun _ => ?_)
  split
  · exact keeps_pubReply (Piece.sub hF (by decide +kernel)) hs
  · refine keeps_ite (fun _ => keeps_pubReply (Piece.sub hF (by decide +kernel)) hs) (fun _ => ?_)
    split
    · extract_lets +onlyGivenNames -merge -lift -underBinder v1
      clear_value v1
      refine keeps_ite (fun _ => ?_) (fun _ => keeps_pubReply (Piece.sub hF (by decide +kernel)) (keeps_bump (keeps_putRegion (Piece.sub hF
          (by decide +kernel)) hs) ⟨rfl, hF (by decide +kernel)⟩))
      extract_lets +onlyGivenNames -merge -lift -underBinder v2
      clear_value v2
      extract_lets +onlyGivenNames -merge -lift -underBinder s3
      have h4 : Keeps F a s3 := by
        unfold s3
        exact keeps_freeGens (Piece.sub hF (by decide +kernel)) hs
      clear_value s3
      exact keeps_pubReply (Piece.sub hF (by decide +kernel)) (keeps_bump h4 ⟨rfl, hF (by decide +kernel)⟩)
    · exact keeps_pubReply (Piece.sub hF (by decide +kernel)) (keeps_bump hs ⟨rfl, hF (by decide +kernel)⟩)

theorem keeps_dropCleanIn {F : List Piece} {a s : State} {o : ℕ} (hF : [.ses, .tier, .pool, .TIER_OBJ, .TIER_CNT, .POOL_OBJ, .POOL_CNT,
    .CTL_READY] ⊆ F) (hs : Keeps F a s) :
    Keeps F a (State.dropCleanIn s o) := by
  delta State.dropCleanIn
  refine keeps_foldl (fun s1 x2 h3 => ?_) hs
  split
  · exact keeps_ite (fun _ => keeps_dropClean (Piece.sub hF (by decide +kernel)) h3) (fun _ => h3)
  · exact h3

theorem keeps_extentReleaseRequest {F : List Piece} {a : State} {obj : ℕ} {s : State} (hF : [.ses, .tier, .pool, .TIER_OBJ, .TIER_DRV, .TIER_CNT,
    .POOL_OBJ, .POOL_CNT, .CTL_READY] ⊆ F) (hs : Keeps F a s) :
    Keeps F a (extentReleaseRequest obj s) := by
  delta extentReleaseRequest
  refine keeps_ite (fun _ => ?_) (fun _ => hs)
  extract_lets +onlyGivenNames -merge -lift -underBinder v1
  clear_value v1
  extract_lets +onlyGivenNames -merge -lift -underBinder s2
  have h3 : Keeps F a s2 := by
    unfold s2
    exact keeps_setPool (Piece.sub hF (by decide +kernel)) hs
  clear_value s2
  extract_lets +onlyGivenNames -merge -lift -underBinder s4
  have h5 : Keeps F a s4 := by
    unfold s4
    exact keeps_dropCleanIn (Piece.sub hF (by decide +kernel)) (keeps_vacate (Piece.sub hF (by decide +kernel)) h3)
  clear_value s4
  extract_lets +onlyGivenNames -merge -lift -underBinder v6
  clear_value v6
  extract_lets +onlyGivenNames -merge -lift -underBinder s7
  have h8 : Keeps F a s7 := by
    unfold s7
    exact keeps_ite (fun _ => keeps_bump h5 ⟨rfl, hF (by decide +kernel)⟩) (fun _ => h5)
  clear_value s7
  exact keeps_checkLeaving (Piece.sub hF (by decide +kernel)) h8

theorem keeps_regionDetach {F : List Piece} {a : State} {c : Cmd} {s : State} (hF : [.hti, .pool, .ring, .SHP_CTX_CNT, .SEC_CNT, .RING_CNT,
    .POOL_REGION, .POOL_LEND, .POOL_CNT, .HTI_W_QFAULT, .HTI_CNT] ⊆ F) (hs : Keeps F a s) :
    Keeps F a (regionDetach c s) := by
  delta regionDetach
  extract_lets +onlyGivenNames -merge -lift -underBinder v1
  clear_value v1
  split
  · exact keeps_finish (Piece.sub hF (by decide +kernel)) hs
  · exact keeps_finish (Piece.sub hF (by decide +kernel)) (keeps_detachAll (Piece.sub hF (by decide +kernel)) hs)

theorem keeps_execRegionAttachDetach {F : List Piece} {a : State} {k : ℕ} {s : State} (hF : [.hti, .pool, .ring, .SHP_CTX_CNT, .SEC_CNT,
    .RING_CNT, .POOL_REGION, .POOL_LEND, .POOL_CNT, .HTI_W_QFAULT, .HTI_CNT] ⊆ F) (hs : Keeps F a s) :
    KeepsO F a (execRegionAttachDetach k s) := by
  delta execRegionAttachDetach
  exact KeepsO.mk (keeps_begin (Piece.sub hF (by decide +kernel)) hs (fun y1 y2 h3 => keeps_regionDetach (Piece.sub hF (by decide +kernel)) h3))

theorem keeps_execPublishCommitReceived {F : List Piece} {a : State} {src token region expect data : ℕ} {s : State} (hF : [.hti, .pool, .ring,
    .SHP_CTX_CNT, .SEC_CNT, .RING_CNT, .POOL_REGION, .POOL_LEND, .POOL_CNT, .HTI_W_QFAULT, .HTI_CNT] ⊆ F) (hs : Keeps F a s) :
    KeepsO F a (execPublishCommitReceived src token region expect data s) := by
  delta execPublishCommitReceived
  exact KeepsO.mk (keeps_publishCommitReceived (Piece.sub hF (by decide +kernel)) hs)

theorem keeps_holdMessage {F : List Piece} {a : State} {src token rid : ℕ} {msg : HoldMsg} {s : State} (hF : [.hti, .pool, .ring, .SHP_CTX_CNT,
    .SEC_CNT, .RING_CNT, .POOL_REGION, .POOL_LEND, .POOL_CNT, .HTI_W_QFAULT, .HTI_CNT] ⊆ F) (hs : Keeps F a s) :
    Keeps F a (holdMessage src token rid msg s) := by
  delta holdMessage
  split
  · split
    · exact keeps_send (Piece.sub hF (by decide +kernel)) hs
    · split
      · exact keeps_addHold (Piece.sub hF (by decide +kernel)) hs
      · extract_lets +onlyGivenNames -merge -lift -underBinder v1
        clear_value v1
        extract_lets +onlyGivenNames -merge -lift -underBinder s2
        have h3 : Keeps F a s2 := by
          unfold s2
          exact keeps_ite (fun _ => keeps_takeHold (Piece.sub hF (by decide +kernel)) hs) (fun _ => hs)
        clear_value s2
        exact keeps_send (Piece.sub hF (by decide +kernel)) h3
  · split
    · exact keeps_dropHold (Piece.sub hF (by decide +kernel)) hs
    · exact hs
  · split
    · exact keeps_send (Piece.sub hF (by decide +kernel)) hs
    · extract_lets +onlyGivenNames -merge -lift -underBinder p4
      have h5 : KeepsP F a p4 := by
        unfold p4
        exact keeps_destroyRegion (Piece.sub hF (by decide +kernel)) hs
      clear_value p4
      exact keeps_send (Piece.sub hF (by decide +kernel)) (KeepsP.proj h5)
  · split
    · exact keeps_ite (fun _ => hs) (fun _ => keeps_ite (fun _ => keeps_finishAttach (Piece.sub hF (by decide +kernel)) hs) (fun _ => keeps_ite
          (fun _ => keeps_finishDestroy (Piece.sub hF (by decide +kernel)) hs) (fun _ => hs)))
    · exact hs

theorem keeps_execRegionHoldMessageReceived {F : List Piece} {a : State} {src token region : ℕ} {msg : HoldMsg} {s : State} (hF : [.hti, .pool,
    .ring, .SHP_CTX_CNT, .SEC_CNT, .RING_CNT, .POOL_REGION, .POOL_LEND, .POOL_CNT, .HTI_W_QFAULT, .HTI_CNT] ⊆ F) (hs : Keeps F a s) :
    KeepsO F a (execRegionHoldMessageReceived src token region msg s) := by
  delta execRegionHoldMessageReceived
  exact KeepsO.mk (keeps_holdMessage (Piece.sub hF (by decide +kernel)) hs)

theorem keeps_publishOpenReceived {F : List Piece} {a : State} {src token rid expect bytes : ℕ} {s : State} (hF : [.hti, .pool, .ring,
    .SHP_CTX_CNT, .SEC_CNT, .RING_CNT, .POOL_REGION, .POOL_LEND, .POOL_CNT, .HTI_W_QFAULT, .HTI_CNT] ⊆ F) (hs : Keeps F a s) :
    Keeps F a (publishOpenReceived src token rid expect bytes s) := by
  delta publishOpenReceived
  refine keeps_ite (fun _ => hs) (fun _ => ?_)
  split
  · exact keeps_pubReply (Piece.sub hF (by decide +kernel)) hs
  · refine keeps_ite (fun _ => keeps_pubReply (Piece.sub hF (by decide +kernel)) (keeps_bump hs ⟨rfl, hF (by decide +kernel)⟩)) (fun _ => ?_)
    refine keeps_ite (fun _ => keeps_pubReply (Piece.sub hF (by decide +kernel)) hs) (fun _ => ?_)
    refine keeps_ite (fun _ => keeps_pubReply (Piece.sub hF (by decide +kernel)) hs) (fun _ => ?_)
    extract_lets +onlyGivenNames -merge -lift -underBinder s1
    have h2 : Keeps F a s1 := by
      unfold s1
      exact keeps_putRegion (Piece.sub hF (by decide +kernel)) hs
    clear_value s1
    exact keeps_ite (fun _ => keeps_updPub (Piece.sub hF (by decide +kernel)) h2) (fun _ => keeps_send (Piece.sub hF (by decide +kernel)) h2)

theorem keeps_extentReleased {F : List Piece} {a : State} {port ld base : ℕ} {s : State} (hF : [.hti, .tier, .pool, .ring, .SHP_CTX_CNT,
    .SEC_CNT, .POOL_LEND, .HTI_W_QFAULT, .HTI_CNT] ⊆ F) (hs : Keeps F a s) :
    Keeps F a (extentReleased port ld base s) := by
  delta extentReleased
  split
  · exact keeps_freeExtent (Piece.sub hF (by decide +kernel)) hs
  · exact hs

theorem keeps_execExtentReleasedByBorrower {F : List Piece} {a : State} {port ld base : ℕ} {s : State} (hF : [.hti, .tier, .pool, .ring,
    .SHP_CTX_CNT, .SEC_CNT, .POOL_LEND, .HTI_W_QFAULT, .HTI_CNT] ⊆ F) (hs : Keeps F a s) :
    KeepsO F a (execExtentReleasedByBorrower port ld base s) := by
  delta execExtentReleasedByBorrower
  exact KeepsO.mk (keeps_extentReleased (Piece.sub hF (by decide +kernel)) hs)

theorem keeps_cxlMem {F : List Piece} {a : State} {port ld addr : ℕ} {store ecc bad : Bool} {write : Option ℕ} {s : State} (hF : [.pool,
    .POOL_CNT] ⊆ F) (hs : Keeps F a s) :
    Keeps F a (cxlMem port ld addr store ecc bad write s) := by
  delta cxlMem
  extract_lets +onlyGivenNames -merge -lift -underBinder f5
  unfold f5
  beta_reduce
  extract_lets +onlyGivenNames -merge -lift -underBinder f4
  unfold f4
  beta_reduce
  refine keeps_ite (fun _ => ?_) (fun _ => hs)
  refine keeps_ite (fun _ => ?_) (fun _ => ?_)
  · split
    · exact keeps_emit (keeps_bump hs ⟨rfl, hF (by decide +kernel)⟩)
    · exact keeps_bump hs ⟨rfl, hF (by decide +kernel)⟩
  · refine keeps_ite (fun _ => ?_) (fun _ => ?_)
    · split
      · exact keeps_bump hs ⟨rfl, hF (by decide +kernel)⟩
      · exact keeps_bump (keeps_tickFree (keeps_emit hs)) ⟨rfl, hF (by decide +kernel)⟩
    · split
      · split
        · exact keeps_emit (keeps_bump hs ⟨rfl, hF (by decide +kernel)⟩)
        · exact keeps_bump hs ⟨rfl, hF (by decide +kernel)⟩
      · refine keeps_ite (fun _ => ?_) (fun _ => ?_)
        · split
          · exact keeps_emit hs
          · exact hs
        · refine keeps_ite (fun _ => ?_) (fun _ => ?_)
          · split
            · exact keeps_emit (keeps_bump hs ⟨rfl, hF (by decide +kernel)⟩)
            · exact keeps_bump hs ⟨rfl, hF (by decide +kernel)⟩
          · split
            · refine keeps_ite (fun _ => ?_) (fun _ => keeps_bump (keeps_emit hs) ⟨rfl, hF (by decide +kernel)⟩)
              split
              · exact keeps_emit (keeps_bump (keeps_emit hs) ⟨rfl, hF (by decide +kernel)⟩)
              · exact keeps_bump (keeps_emit hs) ⟨rfl, hF (by decide +kernel)⟩
            · extract_lets +onlyGivenNames -merge -lift -underBinder v1 v2 v3
              clear_value v1 v2 v3
              exact keeps_bump (keeps_setPool (Piece.sub hF (by decide +kernel)) hs) ⟨rfl, hF (by decide +kernel)⟩

theorem keeps_revokeAsked {F : List Piece} {a s : State} (hF : [.pool, .POOL_LEND, .POOL_CNT] ⊆ F) (hs : Keeps F a s) :
    KeepsP F a (State.revokeAsked s) := by
  delta State.revokeAsked
  extract_lets +onlyGivenNames -merge -lift -underBinder v1 v2
  clear_value v1 v2
  extract_lets +onlyGivenNames -merge -lift -underBinder s3
  have h4 : Keeps F a s3 := by
    unfold s3
    exact keeps_setPool (Piece.sub hF (by decide +kernel)) hs
  clear_value s3
  extract_lets +onlyGivenNames -merge -lift -underBinder s5
  have h6 : Keeps F a s5 := by
    unfold s5
    exact keeps_foldl (fun s7 x8 h9 => keeps_zeroExtent (Piece.sub hF (by decide +kernel)) h9) h4
  clear_value s5
  exact KeepsP.mk (keeps_refreshLend (Piece.sub hF (by decide +kernel)) (keeps_bump h6 ⟨rfl, hF (by decide +kernel)⟩))

theorem keeps_lendTimeout {F : List Piece} {a s : State} (hF : [.hti, .pool, .ring, .SHP_CTX_CNT, .SEC_CNT, .POOL_LEND, .POOL_CNT, .HTI_W_QFAULT,
    .HTI_CNT] ⊆ F) (hs : Keeps F a s) :
    Keeps F a (lendTimeout s) := by
  delta lendTimeout
  split
  · exact hs
  · refine keeps_ite (fun _ => hs) (fun _ => ?_)
    extract_lets +onlyGivenNames -merge -lift -underBinder p1
    have h2 : KeepsP F a p1 := by
      unfold p1
      exact keepsP_ite (fun _ => keeps_revokeAsked (Piece.sub hF (by decide +kernel)) hs) (fun _ => KeepsP.mk hs)
    clear_value p1
    extract_lets +onlyGivenNames -merge -lift -underBinder s3
    have h4 : Keeps F a s3 := by
      unfold s3
      exact KeepsP.proj h2
    clear_value s3
    refine keeps_ite (fun _ => ?_) (fun _ => ?_)
    · extract_lets +onlyGivenNames -merge -lift -underBinder v5
      clear_value v5
      exact keeps_endLend (Piece.sub hF (by decide +kernel)) (keeps_putLend (Piece.sub hF (by decide +kernel)) h4)
    · extract_lets +onlyGivenNames -merge -lift -underBinder s6
      have h7 : Keeps F a s6 := by
        unfold s6
        exact keeps_putLend (Piece.sub hF (by decide +kernel)) h4
      clear_value s6
      exact keeps_ite (fun _ => keeps_endLend (Piece.sub hF (by decide +kernel)) h7) (fun _ => keeps_endLend (Piece.sub hF (by decide +kernel)) h7)

theorem keeps_rangeAppears {F : List Piece} {a : State} {port dpa bytes kind lender : ℕ} {s : State} (hF : [.tier, .TIER_OBJ, .POOL_OBJ,
    .POOL_CNT, .CTL_READY] ⊆ F) (hs : Keeps F a s) :
    Keeps F a (rangeAppears port dpa bytes kind lender s) := by
  delta rangeAppears
  refine keeps_ite (fun _ => ?_) (fun _ => hs)
  extract_lets +onlyGivenNames -merge -lift -underBinder v1
  clear_value v1
  split
  · exact keeps_bump hs ⟨rfl, hF (by decide +kernel)⟩
  · refine keeps_ite (fun _ => keeps_bump hs ⟨rfl, hF (by decide +kernel)⟩) (fun _ => ?_)
    extract_lets +onlyGivenNames -merge -lift -underBinder s2
    have h3 : Keeps F a s2 := by
      unfold s2
      exact keeps_findObject (Piece.sub hF (by decide +kernel)) hs
    clear_value s2
    extract_lets +onlyGivenNames -merge -lift -underBinder s4
    have h5 : Keeps F a s4 := by
      unfold s4
      exact keeps_wr (keeps_wr h3 ⟨rfl, hF (by decide +kernel)⟩) ⟨rfl, hF (by decide +kernel)⟩
    clear_value s4
    extract_lets +onlyGivenNames -merge -lift -underBinder s6
    have h7 : Keeps F a s6 := by
      unfold s6
      exact keeps_wr (keeps_wr h5 ⟨rfl, hF (by decide +kernel)⟩) ⟨rfl, hF (by decide +kernel)⟩
    clear_value s6
    exact keeps_refreshCaps (Piece.sub hF (by decide +kernel)) (keeps_wr h7 ⟨rfl, hF (by decide +kernel)⟩)

theorem keeps_execPoolRangeAppears {F : List Piece} {a : State} {port dpa bytes kind lender : ℕ} {s : State} (hF : [.tier, .TIER_OBJ, .POOL_OBJ,
    .POOL_CNT, .CTL_READY] ⊆ F) (hs : Keeps F a s) :
    KeepsO F a (execPoolRangeAppears port dpa bytes kind lender s) := by
  delta execPoolRangeAppears
  exact KeepsO.mk (keeps_rangeAppears (Piece.sub hF (by decide +kernel)) hs)

theorem keeps_execRegionMapDestroy {F : List Piece} {a : State} {k : ℕ} {s : State} (hF : [.hti, .pool, .ring, .SHP_CTX_CNT, .SEC_CNT, .RING_CNT,
    .POOL_REGION, .POOL_LEND, .HTI_W_QFAULT, .HTI_CNT] ⊆ F) (hs : Keeps F a s) :
    KeepsO F a (execRegionMapDestroy k s) := by
  delta execRegionMapDestroy
  exact KeepsO.mk (keeps_begin (Piece.sub hF (by decide +kernel)) hs (fun y1 y2 h3 => keeps_notEvacuating (Piece.sub hF (by decide +kernel)) (fun
      y4 y5 h6 => keeps_regionDestroy (Piece.sub hF (by decide +kernel)) h6) h3))

theorem keeps_execCxlMemRequest {F : List Piece} {a : State} {port ld addr : ℕ} {store ecc bad : Bool} {write : Option ℕ} {s : State} (hF :
    [.pool, .POOL_CNT] ⊆ F) (hs : Keeps F a s) :
    KeepsO F a (execCxlMemRequest port ld addr store ecc bad write s) := by
  delta execCxlMemRequest
  exact KeepsO.mk (keeps_cxlMem (Piece.sub hF (by decide +kernel)) hs)

theorem keeps_execExtentReleaseRequest {F : List Piece} {a : State} {obj : ℕ} {s : State} (hF : [.ses, .tier, .pool, .TIER_OBJ, .TIER_DRV,
    .TIER_CNT, .POOL_OBJ, .POOL_CNT, .CTL_READY] ⊆ F) (hs : Keeps F a s) :
    KeepsO F a (execExtentReleaseRequest obj s) := by
  delta execExtentReleaseRequest
  exact KeepsO.mk (keeps_extentReleaseRequest (Piece.sub hF (by decide +kernel)) hs)

theorem keeps_execPublishOpenReceived {F : List Piece} {a : State} {src token region expect bytes : ℕ} {s : State} (hF : [.hti, .pool, .ring,
    .SHP_CTX_CNT, .SEC_CNT, .RING_CNT, .POOL_REGION, .POOL_LEND, .POOL_CNT, .HTI_W_QFAULT, .HTI_CNT] ⊆ F) (hs : Keeps F a s) :
    KeepsO F a (execPublishOpenReceived src token region expect bytes s) := by
  delta execPublishOpenReceived
  exact KeepsO.mk (keeps_publishOpenReceived (Piece.sub hF (by decide +kernel)) hs)

theorem keeps_execLendReclaimTimeout {F : List Piece} {a : State} {dt : ℕ} {s : State} (hF : [.hti, .fleet, .pool, .ring, .TIER_STALL,
    .SHP_CTX_CNT, .SEC_CNT, .RING_PORT_CNT, .PWR_CNT, .POOL_LEND, .POOL_CNT, .MTR_LIVE, .HTI_W_QFAULT, .HTI_TIME, .HTI_CNT, .GORE_CTX_CNT,
        .GORE_CLASS, .CTL_RT, .CTL_RST_CNT, .CTL_PIN_CNT] ⊆ F) (hs : Keeps F a s) :
    KeepsO F a (execLendReclaimTimeout dt s) := by
  delta execLendReclaimTimeout
  exact KeepsO.mk (keeps_lendTimeout (Piece.sub hF (by decide +kernel)) (keeps_pass (Piece.sub hF (by decide +kernel)) hs))

theorem keeps_execPoolCntClr {F : List Piece} {a : State} {value : ℕ} {s : State} (hF : [.POOL_CNT] ⊆ F) (hs : Keeps F a s) :
    KeepsO F a (execPoolCntClr value s) := by
  delta execPoolCntClr
  exact KeepsO.mk (keeps_hostWrite hs (fun y1 h2 => keeps_ite (fun _ => keeps_zeroAll h2 ⟨rfl, hF (by decide +kernel)⟩) (fun _ => h2)))

theorem keeps_execPublishAnswerReceived {F : List Piece} {a : State} {token ans gen : ℕ} {s : State} (hF : [.hti, .pool, .ring, .SHP_CTX_CNT,
    .SEC_CNT, .POOL_REGION, .POOL_LEND, .HTI_W_QFAULT, .HTI_CNT] ⊆ F) (hs : Keeps F a s) :
    KeepsO F a (execPublishAnswerReceived token ans gen s) := by
  delta execPublishAnswerReceived
  exact KeepsO.mk (keeps_pubAnswer (Piece.sub hF (by decide +kernel)) hs)

theorem keeps_extentAdd {F : List Piece} {a : State} {port ld gib : ℕ} {s : State} (hF : [.tier, .pool, .POOL_LEND, .POOL_CNT] ⊆ F) (hs : Keeps F
    a s) :
    Keeps F a (extentAdd port ld gib s) := by
  delta extentAdd
  refine keeps_ite (fun _ => ?_) (fun _ => hs)
  extract_lets +onlyGivenNames -merge -lift -underBinder v1
  clear_value v1
  extract_lets +onlyGivenNames -merge -lift -underBinder f10
  unfold f10
  beta_reduce
  refine keeps_ite (fun _ => ?_) (fun _ => ?_)
  · extract_lets +onlyGivenNames -merge -lift -underBinder v2 v3
    clear_value v2 v3
    extract_lets +onlyGivenNames -merge -lift -underBinder s4
    have h5 : Keeps F a s4 := by
      unfold s4
      exact keeps_setPool (Piece.sub hF (by decide +kernel)) hs
    clear_value s4
    exact keeps_emit (keeps_bump (keeps_refreshLend (Piece.sub hF (by decide +kernel)) (keeps_zeroExtent (Piece.sub hF (by decide +kernel))
        (keeps_lendPages (Piece.sub hF (by decide +kernel)) h5))) ⟨rfl, hF (by decide +kernel)⟩)
  · refine keeps_ite (fun _ => ?_) (fun _ => keeps_emit (keeps_bump hs ⟨rfl, hF (by decide +kernel)⟩))
    split
    · extract_lets +onlyGivenNames -merge -lift -underBinder v6 v7
      clear_value v6 v7
      extract_lets +onlyGivenNames -merge -lift -underBinder s8
      have h9 : Keeps F a s8 := by
        unfold s8
        exact keeps_setPool (Piece.sub hF (by decide +kernel)) hs
      clear_value s8
      exact keeps_emit (keeps_bump (keeps_refreshLend (Piece.sub hF (by decide +kernel)) (keeps_zeroExtent (Piece.sub hF (by decide +kernel))
          (keeps_lendPages (Piece.sub hF (by decide +kernel)) h9))) ⟨rfl, hF (by decide +kernel)⟩)
    · exact keeps_emit (keeps_bump hs ⟨rfl, hF (by decide +kernel)⟩)

theorem keeps_execExtentAddRequest {F : List Piece} {a : State} {port ld gib : ℕ} {s : State} (hF : [.tier, .pool, .POOL_LEND, .POOL_CNT] ⊆ F)
    (hs : Keeps F a s) :
    KeepsO F a (execExtentAddRequest port ld gib s) := by
  delta execExtentAddRequest
  exact KeepsO.mk (keeps_extentAdd (Piece.sub hF (by decide +kernel)) hs)

/-! ### MapOps -/

theorem keeps_setFab {F : List Piece} {a s : State} {f : Fab} (hF : [.fab] ⊆ F) (hs : Keeps F a s) :
    Keeps F a (State.setFab s f) := by
  delta State.setFab
  exact Keeps.other hs (hfab := .inr (hF (by decide +kernel)))

theorem keeps_sendWhole {F : List Piece} {a s : State} {dst : ℕ} (hs : Keeps F a s) :
    Keeps F a (State.sendWhole s dst) := by
  delta State.sendWhole
  exact keeps_sendLink hs

theorem keeps_dropAll {F : List Piece} {a s : State} (hF : [.hti, .mbx, .ses, .tier, .gore, .attn, .dec, .pool, .ring, .TXT_SLOT, .TIER_RSV,
    .TIER_OBJ, .TIER_CNT, .SHP_CTX_CNT, .SEC_CNT, .POOL_OBJ, .POOL_CNT, .MBX_SUM, .MBX_CNT, .HTI_W_QFAULT, .HTI_W_MBSTS, .HTI_W_EVT, .HTI_CNT,
        .GORE_TILE_CNT, .GORE_SHAPE, .GORE_CTX, .GORE_CTX_CNT, .GORE_ATTN_CNT, .DEC_GRAM, .DEC_GAUGE, .CTL_SES, .CTL_READY] ⊆ F) (hs : Keeps F a s) :
    Keeps F a (State.dropAll s) := by
  delta State.dropAll
  refine keeps_foldl (fun s1 x2 h3 => ?_) hs
  extract_lets +onlyGivenNames -merge -lift -underBinder v4
  clear_value v4
  extract_lets +onlyGivenNames -merge -lift -underBinder s5
  have h6 : Keeps F a s5 := by
    unfold s5
    exact keeps_ackUpTo (Piece.sub hF (by decide +kernel)) (keeps_endUsers (Piece.sub hF (by decide +kernel)) (keeps_freeStream (Piece.sub hF
        (by decide +kernel)) h3))
  clear_value s5
  extract_lets +onlyGivenNames -merge -lift -underBinder s7
  have h8 : Keeps F a s7 := by
    unfold s7
    split
    · exact keeps_ite (fun _ => keeps_shipDone (Piece.sub hF (by decide +kernel)) h6) (fun _ => h6)
    · exact h6
  clear_value s7
  exact keeps_flushGone (Piece.sub hF (by decide +kernel)) (keeps_freeSess (Piece.sub hF (by decide +kernel)) h8)

theorem keeps_showInherit {F : List Piece} {a s : State} {n : ℕ} (hF : [.RING_INHERIT] ⊆ F) (hs : Keeps F a s) :
    Keeps F a (State.showInherit s n) := by
  delta State.showInherit
  refine keeps_foldl (fun s1 x2 h3 => ?_) hs
  split
  · exact keeps_wr (keeps_wr (keeps_wr (keeps_wr h3 ⟨rfl, hF (by decide +kernel)⟩) ⟨rfl, hF (by decide +kernel)⟩) ⟨rfl, hF (by decide +kernel)⟩)
        ⟨rfl, hF (by decide +kernel)⟩
  · exact keeps_wr (keeps_wr (keeps_wr (keeps_wr h3 ⟨rfl, hF (by decide +kernel)⟩) ⟨rfl, hF (by decide +kernel)⟩) ⟨rfl, hF (by decide +kernel)⟩)
        ⟨rfl, hF (by decide +kernel)⟩

theorem keeps_setPartner {F : List Piece} {a s : State} {n : ℕ} {p : Option ℕ} (hF : [.RING_MAP, .CTL_SES] ⊆ F) (hs : Keeps F a s) :
    Keeps F a (State.setPartner s n p) := by
  delta State.setPartner
  extract_lets +onlyGivenNames -merge -lift -underBinder s1
  have h2 : Keeps F a s1 := by
    unfold s1
    exact keeps_wr (keeps_wr hs ⟨rfl, hF (by decide +kernel)⟩) ⟨rfl, hF (by decide +kernel)⟩
  clear_value s1
  exact keeps_ite (fun _ => keeps_wr (keeps_wr h2 ⟨rfl, hF (by decide +kernel)⟩) ⟨rfl, hF (by decide +kernel)⟩) (fun _ => h2)

theorem keeps_forgetMap {F : List Piece} {a s : State} (hF : [.fab, .RING_STS, .RING_MAP, .RING_INHERIT, .CTL_SES] ⊆ F) (hs : Keeps F a s) :
    Keeps F a (State.forgetMap s) := by
  delta State.forgetMap
  extract_lets +onlyGivenNames -merge -lift -underBinder v1 v2
  clear_value v1 v2
  extract_lets +onlyGivenNames -merge -lift -underBinder s3
  have h4 : Keeps F a s3 := by
    unfold s3
    exact keeps_setFab (Piece.sub hF (by decide +kernel)) hs
  clear_value s3
  exact keeps_wr (keeps_setPartner (Piece.sub hF (by decide +kernel)) (keeps_showInherit (Piece.sub hF (by decide +kernel)) h4)) ⟨rfl, hF
      (by decide +kernel)⟩

theorem keeps_setLeader {F : List Piece} {a s : State} {n : ℕ} (hF : [.RING_STS] ⊆ F) (hs : Keeps F a s) :
    Keeps F a (State.setLeader s n) := by
  delta State.setLeader
  exact keeps_wr (keeps_wr hs ⟨rfl, hF (by decide +kernel)⟩) ⟨rfl, hF (by decide +kernel)⟩

theorem keeps_xferGone {F : List Piece} {a s : State} {id homeWas : ℕ} {x0 : Session} (hF : [.hti, .mbx, .ses, .tier, .fleet, .pool, .ring,
    .TIER_OBJ, .SHP_CTX_CNT, .SEC_CNT, .RING_CNT, .POOL_OBJ, .POOL_CNT, .MBX_SUM, .MBX_CNT, .HTI_W_QFAULT, .HTI_W_MBSTS, .HTI_W_EVT, .HTI_CNT,
        .GORE_SHAPE, .CTL_SES, .CTL_SES_CNT, .CTL_READY] ⊆ F) (hs : Keeps F a s) :
    Keeps F a (State.xferGone s id homeWas x0) := by
  delta State.xferGone
  extract_lets +onlyGivenNames -merge -lift -underBinder v1
  clear_value v1
  split
  · exact hs
  · extract_lets +onlyGivenNames -merge -lift -underBinder f4
    unfold f4
    beta_reduce
    refine keeps_ite (fun _ => keeps_ite (fun _ => keeps_ite (fun _ => keeps_shipFail (Piece.sub hF (by decide +kernel)) hs) (fun _ =>
        keeps_askHome (Piece.sub hF (by decide +kernel)) (keeps_updXfer (Piece.sub hF (by decide +kernel)) hs))) (fun _ => keeps_ite (fun _ =>
            keeps_discardIncoming (Piece.sub hF (by decide +kernel)) hs) (fun _ => keeps_askHome (Piece.sub hF (by decide +kernel))
                (keeps_updXfer (Piece.sub hF (by decide +kernel)) hs)))) (fun _ => ?_)
    refine keeps_ite (fun _ => ?_) (fun _ => hs)
    extract_lets +onlyGivenNames -merge -lift -underBinder s2
    have h3 : Keeps F a s2 := by
      unfold s2
      exact keeps_updXfer (Piece.sub hF (by decide +kernel)) hs
    clear_value s2
    exact keeps_ite (fun _ => keeps_sendCommitReq (Piece.sub hF (by decide +kernel)) h3) (fun _ => keeps_ite (fun _ => keeps_askHome (Piece.sub
        hF (by decide +kernel)) h3) (fun _ => h3))

theorem keeps_sessGone {F : List Piece} {a s : State} {id h homeWas : ℕ} (hF : [.hti, .mbx, .ses, .tier, .gore, .attn, .fleet, .dec, .pool,
    .ring, .TIER_RSV, .TIER_OBJ, .SHP_CTX_CNT, .SEC_CNT, .RING_CNT, .POOL_OBJ, .POOL_CNT, .MBX_SUM, .MBX_CNT, .HTI_W_QFAULT, .HTI_W_MBSTS,
        .HTI_W_EVT, .HTI_CNT, .GORE_TILE_CNT, .GORE_SHAPE, .GORE_CTX, .GORE_CTX_CNT, .GORE_ATTN_CNT, .CTL_SES, .CTL_SES_CNT, .CTL_READY] ⊆ F) (hs
            : Keeps F a s) :
    Keeps F a (State.sessGone s id h homeWas) := by
  delta State.sessGone
  split
  · exact hs
  · extract_lets +onlyGivenNames -merge -lift -underBinder s1
    have h2 : Keeps F a s1 := by
      unfold s1
      exact keeps_xferGone (Piece.sub hF (by decide +kernel)) hs
    clear_value s1
    extract_lets +onlyGivenNames -merge -lift -underBinder s3
    have h4 : Keeps F a s3 := by
      unfold s3
      split
      · exact keeps_ite (fun _ => keeps_newMirror (Piece.sub hF (by decide +kernel)) (keeps_setSess (Piece.sub hF (by decide +kernel)) h2)) (fun
            _ => h2)
      · exact h2
    clear_value s3
    extract_lets +onlyGivenNames -merge -lift -underBinder s5
    have h6 : Keeps F a s5 := by
      unfold s5
      split
      · exact keeps_ite (fun _ => keeps_failSess (Piece.sub hF (by decide +kernel)) h4) (fun _ => keeps_ite (fun _ => keeps_endUsers (Piece.sub
            hF (by decide +kernel)) (keeps_failSess (Piece.sub hF (by decide +kernel)) h4)) (fun _ => h4))
      · exact h4
    clear_value s5
    extract_lets +onlyGivenNames -merge -lift -underBinder s7
    have h8 : Keeps F a s7 := by
      unfold s7
      split
      · split
        · exact keeps_ite (fun _ => keeps_sendNaks (Piece.sub hF (by decide +kernel)) (keeps_setSess (Piece.sub hF (by decide +kernel)) h6)) (fun
              _ => keeps_ite (fun _ => keeps_commitProp (Piece.sub hF (by decide +kernel)) h6) (fun _ => h6))
        · exact h6
      · exact h6
    clear_value s7
    extract_lets +onlyGivenNames -merge -lift -underBinder s9
    have h10 : Keeps F a s9 := by
      unfold s9
      split
      · exact keeps_ite (fun _ => keeps_orphan (Piece.sub hF (by decide +kernel)) h8) (fun _ => h8)
      · exact h8
    clear_value s9
    split
    · exact keeps_ite (fun _ => h10) (fun _ => keeps_ite (fun _ => keeps_newMirror (Piece.sub hF (by decide +kernel)) h10) (fun _ => keeps_ite
          (fun _ => keeps_event (Piece.sub hF (by decide +kernel)) (keeps_bump (keeps_ackUpTo (Piece.sub hF (by decide +kernel)) (keeps_setSess
              (Piece.sub hF (by decide +kernel)) h10)) ⟨rfl, hF (by decide +kernel)⟩)) (fun _ => h10)))
    · exact h10

theorem keeps_poolGone {F : List Piece} {a s : State} {id boot : ℕ} (hF : [.hti, .pool, .ring, .SHP_CTX_CNT, .SEC_CNT, .POOL_REGION, .POOL_LEND,
    .POOL_CNT, .HTI_W_QFAULT, .HTI_CNT] ⊆ F) (hs : Keeps F a s) :
    Keeps F a (State.poolGone s id boot) := by
  delta State.poolGone
  extract_lets +onlyGivenNames -merge -lift -underBinder v1
  clear_value v1
  extract_lets +onlyGivenNames -merge -lift -underBinder s2
  have h3 : Keeps F a s2 := by
    unfold s2
    exact keeps_foldl (fun s4 x5 h6 => keeps_endPub (Piece.sub hF (by decide +kernel)) h6) hs
  clear_value s2
  extract_lets +onlyGivenNames -merge -lift -underBinder s7
  have h8 : Keeps F a s7 := by
    unfold s7
    exact keeps_foldl (fun s9 x10 h11 => keeps_finish (Piece.sub hF (by decide +kernel)) h11) h3
  clear_value s7
  extract_lets +onlyGivenNames -merge -lift -underBinder v12
  clear_value v12
  extract_lets +onlyGivenNames -merge -lift -underBinder s13
  have h14 : Keeps F a s13 := by
    unfold s13
    exact keeps_setPool (Piece.sub hF (by decide +kernel)) h8
  clear_value s13
  refine keeps_foldl (fun s15 x16 h17 => ?_) h14
  extract_lets +onlyGivenNames -merge -lift -underBinder v18
  clear_value v18
  exact keeps_ite (fun _ => keeps_freeGens (Piece.sub hF (by decide +kernel)) h17) (fun _ => h17)

theorem keeps_evictSess {F : List Piece} {a s : State} {e : ℕ × ℕ × ℕ} (hF : [.mbx, .ses, .tier, .fleet, .pool, .TIER_OBJ, .POOL_OBJ, .POOL_CNT,
    .MBX_SUM, .MBX_CNT, .HTI_W_MBSTS, .HTI_W_EVT, .HTI_CNT, .CTL_SES, .CTL_SES_CNT, .CTL_READY] ⊆ F) (hs : Keeps F a s) :
    Keeps F a (State.evictSess s e) := by
  delta State.evictSess
  exact keeps_ite (fun _ => hs) (fun _ => keeps_foldl (fun s1 x2 h3 => keeps_failSess (Piece.sub hF (by decide +kernel)) h3) hs)

theorem keeps_newPartners {F : List Piece} {a s : State} {p : ℕ → Bool} (hF : [.RING_MAP, .CTL_SES] ⊆ F) (hs : Keeps F a s) :
    Keeps F a (State.newPartners s p) := by
  delta State.newPartners
  exact keeps_foldl (fun s1 x2 h3 => keeps_setPartner (Piece.sub hF (by decide +kernel)) h3) hs

theorem keeps_dropMember {F : List Piece} {a s : State} {id st : ℕ} (hF : [.hti, .mbx, .ses, .tier, .gore, .attn, .fab, .fleet, .dec, .pool,
    .ring, .TIER_RSV, .TIER_OBJ, .SHP_CTX_CNT, .SEC_CNT, .RING_MAP, .RING_INHERIT, .RING_CNT, .POOL_REGION, .POOL_OBJ, .POOL_LEND, .POOL_CNT,
        .MBX_SUM, .MBX_CNT, .HTI_W_QFAULT, .HTI_W_MBSTS, .HTI_W_EVT, .HTI_CNT, .GORE_TILE_CNT, .GORE_SHAPE, .GORE_CTX, .GORE_CTX_CNT,
            .GORE_ATTN_CNT, .CTL_SES, .CTL_SES_CNT, .CTL_READY] ⊆ F) (hs : Keeps F a s) :
    Keeps F a (State.dropMember s id st) := by
  delta State.dropMember
  extract_lets +onlyGivenNames -merge -lift -underBinder v1 v2 v3 v4 v5 v6 v7 v8
  clear_value v1 v2 v3 v4 v5 v6 v7 v8
  extract_lets +onlyGivenNames -merge -lift -underBinder s9
  have h10 : Keeps F a s9 := by
    unfold s9
    exact keeps_setFab (Piece.sub hF (by decide +kernel)) hs
  clear_value s9
  extract_lets +onlyGivenNames -merge -lift -underBinder s11
  have h12 : Keeps F a s11 := by
    unfold s11
    exact keeps_setPartner (Piece.sub hF (by decide +kernel)) (keeps_wr (keeps_wr h10 ⟨rfl, hF (by decide +kernel)⟩) ⟨rfl, hF (by decide +kernel)⟩)
  clear_value s11
  extract_lets +onlyGivenNames -merge -lift -underBinder s13
  have h14 : Keeps F a s13 := by
    unfold s13
    exact keeps_newPartners (Piece.sub hF (by decide +kernel)) h12
  clear_value s13
  extract_lets +onlyGivenNames -merge -lift -underBinder s15
  have h16 : Keeps F a s15 := by
    unfold s15
    exact keeps_bump (keeps_showInherit (Piece.sub hF (by decide +kernel)) h14) ⟨rfl, hF (by decide +kernel)⟩
  clear_value s15
  extract_lets +onlyGivenNames -merge -lift -underBinder s17
  have h18 : Keeps F a s17 := by
    unfold s17
    exact keeps_ite (fun _ => keeps_bump h16 ⟨rfl, hF (by decide +kernel)⟩) (fun _ => h16)
  clear_value s17
  extract_lets +onlyGivenNames -merge -lift -underBinder s19
  have h20 : Keeps F a s19 := by
    unfold s19
    exact keeps_foldl (fun s21 x22 h23 => keeps_evictSess (Piece.sub hF (by decide +kernel)) h23) h18
  clear_value s19
  exact keeps_ite (fun _ => h20) (fun _ => keeps_poolGone (Piece.sub hF (by decide +kernel)) (keeps_foldl (fun s24 x25 h26 => keeps_sessGone
      (Piece.sub hF (by decide +kernel)) h26) h20))

theorem keeps_retarget {F : List Piece} {a s : State} {id : ℕ} (hF : [.hti, .mbx, .ses, .tier, .fleet, .pool, .ring, .TIER_OBJ, .TIER_CNT,
    .SHP_CTX_CNT, .SEC_CNT, .RING_EVAC, .RING_CNT, .POOL_OBJ, .POOL_CNT, .MBX_SUM, .MBX_CNT, .HTI_W_QFAULT, .HTI_W_MBSTS, .HTI_W_EVT, .HTI_CNT,
        .CTL_SES, .CTL_SES_CNT, .CTL_READY] ⊆ F) (hs : Keeps F a s) :
    Keeps F a (State.retarget s id) := by
  delta State.retarget
  exact keeps_pump (Piece.sub hF (by decide +kernel)) (keeps_foldl (fun s1 x2 h3 => keeps_shipAbort (Piece.sub hF (by decide +kernel)) h3) hs)

theorem keeps_leavingNow {F : List Piece} {a s : State} (hF : [.hti, .ses, .tier, .fab, .fleet, .pool, .ring, .TIER_OBJ, .TIER_CNT, .SHP_CTX_CNT,
    .SEC_CNT, .RING_EVAC, .RING_CNT, .POOL_OBJ, .POOL_CNT, .HTI_W_QFAULT, .HTI_CNT, .CTL_SES, .CTL_READY] ⊆ F) (hs : Keeps F a s) :
    Keeps F a (State.leavingNow s) := by
  delta State.leavingNow
  split
  · exact hs
  · exact keeps_pump (Piece.sub hF (by decide +kernel)) (keeps_askBack (Piece.sub hF (by decide +kernel)) (keeps_askBack (Piece.sub hF
        (by decide +kernel)) (keeps_showEvac (Piece.sub hF (by decide +kernel)) (keeps_updEvac (Piece.sub hF (by decide +kernel)) hs))))

theorem keeps_showMember {F : List Piece} {a s : State} (hF : [.RING_STS] ⊆ F) (hs : Keeps F a s) :
    Keeps F a (State.showMember s) := by
  delta State.showMember
  extract_lets +onlyGivenNames -merge -lift -underBinder v1 v2
  clear_value v1 v2
  exact keeps_wr hs ⟨rfl, hF (by decide +kernel)⟩

theorem keeps_addMember {F : List Piece} {a s : State} {id boot links : ℕ} (hF : [.fab, .RING_MAP, .CTL_SES] ⊆ F) (hs : Keeps F a s) :
    Keeps F a (State.addMember s id boot links) := by
  delta State.addMember
  extract_lets +onlyGivenNames -merge -lift -underBinder v1
  clear_value v1
  extract_lets +onlyGivenNames -merge -lift -underBinder s2
  have h3 : Keeps F a s2 := by
    unfold s2
    exact keeps_setFab (Piece.sub hF (by decide +kernel)) hs
  clear_value s2
  extract_lets +onlyGivenNames -merge -lift -underBinder s4
  have h5 : Keeps F a s4 := by
    unfold s4
    exact keeps_wr (keeps_wr (keeps_wr h3 ⟨rfl, hF (by decide +kernel)⟩) ⟨rfl, hF (by decide +kernel)⟩) ⟨rfl, hF (by decide +kernel)⟩
  clear_value s4
  exact keeps_newPartners (Piece.sub hF (by decide +kernel)) h5

theorem keeps_applyEdit {F : List Piece} {a s : State} {e : MapEdit} (hF : [.hti, .mbx, .ses, .tier, .gore, .attn, .fab, .fleet, .dec, .pool,
    .ring, .TIER_RSV, .TIER_OBJ, .TIER_CNT, .SHP_CTX_CNT, .SEC_CNT, .RING_STS, .RING_MAP, .RING_INHERIT, .RING_EVAC, .RING_CNT, .POOL_REGION,
        .POOL_OBJ, .POOL_LEND, .POOL_CNT, .MBX_SUM, .MBX_CNT, .HTI_W_QFAULT, .HTI_W_MBSTS, .HTI_W_EVT, .HTI_CNT, .GORE_TILE_CNT, .GORE_SHAPE,
            .GORE_CTX, .GORE_CTX_CNT, .GORE_ATTN_CNT, .CTL_SES, .CTL_SES_CNT, .CTL_READY] ⊆ F) (hs : Keeps F a s) :
    Keeps F a (State.applyEdit s e) := by
  delta State.applyEdit
  split
  · exact keeps_addMember (Piece.sub hF (by decide +kernel)) hs
  · refine keeps_ite (fun _ => hs) (fun _ => ?_)
    extract_lets +onlyGivenNames -merge -lift -underBinder s1
    have h2 : Keeps F a s1 := by
      unfold s1
      exact keeps_showMember (Piece.sub hF (by decide +kernel)) (keeps_wr hs ⟨rfl, hF (by decide +kernel)⟩)
    clear_value s1
    exact keeps_ite (fun _ => keeps_leavingNow (Piece.sub hF (by decide +kernel)) h2) (fun _ => keeps_retarget (Piece.sub hF (by decide +kernel)) h2)
  · exact keeps_ite (fun _ => keeps_dropMember (Piece.sub hF (by decide +kernel)) hs) (fun _ => hs)
  · exact keeps_ite (fun _ => keeps_dropMember (Piece.sub hF (by decide +kernel)) hs) (fun _ => hs)
  · exact keeps_setLeader (Piece.sub hF (by decide +kernel)) hs

theorem keeps_evacFinish {F : List Piece} {a s : State} (hF : [.hti, .mbx, .fab, .ring, .SHP_CTX_CNT, .SEC_CNT, .RING_STS, .RING_PORT,
    .RING_PORT_CNT, .RING_MAP, .RING_LED, .RING_INHERIT, .RING_EVAC, .RING_CNT, .RING_BYP, .MBX_SUM, .MBX_CNT, .HTI_W_QFAULT, .HTI_W_MBSTS,
        .HTI_W_EVT, .HTI_CNT, .CTL_SES, .CTL_READY] ⊆ F) (hs : Keeps F a s) :
    Keeps F a (State.evacFinish s) := by
  delta State.evacFinish
  split
  · exact hs
  · extract_lets +onlyGivenNames -merge -lift -underBinder s1
    have h2 : Keeps F a s1 := by
      unfold s1
      exact keeps_forgetMap (Piece.sub hF (by decide +kernel)) (keeps_closeAll (Piece.sub hF (by decide +kernel)) hs)
    clear_value s1
    extract_lets +onlyGivenNames -merge -lift -underBinder v3
    clear_value v3
    extract_lets +onlyGivenNames -merge -lift -underBinder s4
    have h5 : Keeps F a s4 := by
      unfold s4
      exact keeps_setFab (Piece.sub hF (by decide +kernel)) h2
    clear_value s4
    extract_lets +onlyGivenNames -merge -lift -underBinder s6
    have h7 : Keeps F a s6 := by
      unfold s6
      exact keeps_wr (keeps_wr (keeps_wr h5 ⟨rfl, hF (by decide +kernel)⟩) ⟨rfl, hF (by decide +kernel)⟩) ⟨rfl, hF (by decide +kernel)⟩
    clear_value s6
    extract_lets +onlyGivenNames -merge -lift -underBinder s8
    have h9 : Keeps F a s8 := by
      unfold s8
      exact keeps_ite (fun _ => h7) (fun _ => keeps_wr h7 ⟨rfl, hF (by decide +kernel)⟩)
    clear_value s8
    extract_lets +onlyGivenNames -merge -lift -underBinder s10
    have h11 : Keeps F a s10 := by
      unfold s10
      exact keeps_foldl (fun s12 x13 h14 => keeps_finish (Piece.sub hF (by decide +kernel)) h14) h9
    clear_value s10
    exact keeps_mgmtEvent (Piece.sub hF (by decide +kernel)) h11

theorem keeps_sendMap {F : List Piece} {a s : State} {dst : ℕ} {k : MsgKind} {epoch x0 b : ℕ} {args : List ℕ} (hF : [.ring, .RING_CNT] ⊆ F) (hs :
    Keeps F a s) :
    Keeps F a (State.sendMap s dst k epoch x0 b args) := by
  delta State.sendMap
  exact keeps_ite (fun _ => keeps_send (Piece.sub hF (by decide +kernel)) hs) (fun _ => keeps_sendLink hs)

theorem keeps_sendChange {F : List Piece} {a s : State} {c : Change} (hF : [.ring, .RING_CNT] ⊆ F) (hs : Keeps F a s) :
    Keeps F a (State.sendChange s c) := by
  delta State.sendChange
  extract_lets +onlyGivenNames -merge -lift -underBinder v1
  clear_value v1
  exact keeps_foldl (fun s2 x3 h4 => keeps_sendMap (Piece.sub hF (by decide +kernel)) h4) hs

theorem keeps_checkClosing {F : List Piece} {a s : State} (hF : [.hti, .mbx, .fab, .ring, .SHP_CTX_CNT, .SEC_CNT, .RING_STS, .RING_PORT,
    .RING_PORT_CNT, .RING_MAP, .RING_LED, .RING_INHERIT, .RING_EVAC, .RING_CNT, .RING_BYP, .MBX_SUM, .MBX_CNT, .HTI_W_QFAULT, .HTI_W_MBSTS,
        .HTI_W_EVT, .HTI_CNT, .CTL_SES, .CTL_READY] ⊆ F) (hs : Keeps F a s) :
    Keeps F a (State.checkClosing s) := by
  delta State.checkClosing
  split
  · exact keeps_ite (fun _ => keeps_evacFinish (Piece.sub hF (by decide +kernel)) hs) (fun _ => hs)
  · exact hs

theorem keeps_leftNow {F : List Piece} {a s : State} (hF : [.hti, .mbx, .ses, .tier, .gore, .attn, .fab, .dec, .pool, .ring, .TXT_SLOT,
    .TIER_RSV, .TIER_OBJ, .TIER_CNT, .SHP_CTX_CNT, .SEC_CNT, .RING_STS, .RING_PORT, .RING_PORT_CNT, .RING_MAP, .RING_LED, .RING_INHERIT,
        .RING_EVAC, .RING_CNT, .RING_BYP, .POOL_OBJ, .POOL_CNT, .MBX_SUM, .MBX_CNT, .HTI_W_QFAULT, .HTI_W_MBSTS, .HTI_W_EVT, .HTI_CNT,
            .GORE_TILE_CNT, .GORE_SHAPE, .GORE_CTX, .GORE_CTX_CNT, .GORE_ATTN_CNT, .DEC_GRAM, .DEC_GAUGE, .CTL_SES, .CTL_READY] ⊆ F) (hs : Keeps
                F a s) :
    Keeps F a (State.leftNow s) := by
  delta State.leftNow
  extract_lets +onlyGivenNames -merge -lift -underBinder v1
  clear_value v1
  extract_lets +onlyGivenNames -merge -lift -underBinder s2
  have h3 : Keeps F a s2 := by
    unfold s2
    exact keeps_dropAll (Piece.sub hF (by decide +kernel)) hs
  clear_value s2
  extract_lets +onlyGivenNames -merge -lift -underBinder v4
  clear_value v4
  extract_lets +onlyGivenNames -merge -lift -underBinder s5
  have h6 : Keeps F a s5 := by
    unfold s5
    exact keeps_wr (keeps_setFab (Piece.sub hF (by decide +kernel)) h3) ⟨rfl, hF (by decide +kernel)⟩
  clear_value s5
  extract_lets +onlyGivenNames -merge -lift -underBinder s7
  have h8 : Keeps F a s7 := by
    unfold s7
    exact keeps_showEvac (Piece.sub hF (by decide +kernel)) (keeps_updEvac (Piece.sub hF (by decide +kernel)) h6)
  clear_value s7
  extract_lets +onlyGivenNames -merge -lift -underBinder s9
  have h10 : Keeps F a s9 := by
    unfold s9
    exact keeps_foldl (fun s11 x12 h13 => keeps_ite (fun _ => h13) (fun _ => keeps_foldl (fun s14 x15 h16 => keeps_ite (fun _ => keeps_sendRaw
        h16) (fun _ => h16)) h13)) h8
  clear_value s9
  exact keeps_checkClosing (Piece.sub hF (by decide +kernel)) h10

theorem keeps_sendBeat {F : List Piece} {a s : State} (hF : [.ring, .RING_CNT] ⊆ F) (hs : Keeps F a s) :
    Keeps F a (State.sendBeat s) := by
  delta State.sendBeat
  exact keeps_send (Piece.sub hF (by decide +kernel)) hs

theorem keeps_startChange {F : List Piece} {a s : State} {l : List MapEdit} {form candidate : Bool} (hF : [.fab, .ring, .RING_CNT] ⊆ F) (hs :
    Keeps F a s) :
    Keeps F a (State.startChange s l form candidate) := by
  delta State.startChange
  extract_lets +onlyGivenNames -merge -lift -underBinder v1
  clear_value v1
  exact keeps_sendChange (Piece.sub hF (by decide +kernel)) (keeps_setFab (Piece.sub hF (by decide +kernel)) hs)

theorem keeps_applyEdits {F : List Piece} {a s : State} {epoch : ℕ} {l : List MapEdit} (hF : [.hti, .mbx, .ses, .tier, .gore, .attn, .fab,
    .fleet, .dec, .pool, .ring, .TXT_SLOT, .TIER_RSV, .TIER_OBJ, .TIER_CNT, .SHP_CTX_CNT, .SEC_CNT, .RING_STS, .RING_PORT, .RING_PORT_CNT,
        .RING_MAP, .RING_LED, .RING_INHERIT, .RING_EVAC, .RING_CNT, .RING_BYP, .POOL_REGION, .POOL_OBJ, .POOL_LEND, .POOL_CNT, .MBX_SUM,
            .MBX_CNT, .HTI_W_QFAULT, .HTI_W_MBSTS, .HTI_W_EVT, .HTI_CNT, .GORE_TILE_CNT, .GORE_SHAPE, .GORE_CTX, .GORE_CTX_CNT, .GORE_ATTN_CNT,
                .DEC_GRAM, .DEC_GAUGE, .CTL_SES, .CTL_SES_CNT, .CTL_READY] ⊆ F) (hs : Keeps F a s) :
    Keeps F a (State.applyEdits s epoch l) := by
  delta State.applyEdits
  extract_lets +onlyGivenNames -merge -lift -underBinder s1
  have h2 : Keeps F a s1 := by
    unfold s1
    exact keeps_bump (keeps_wr hs ⟨rfl, hF (by decide +kernel)⟩) ⟨rfl, hF (by decide +kernel)⟩
  clear_value s1
  extract_lets +onlyGivenNames -merge -lift -underBinder v3
  clear_value v3
  extract_lets +onlyGivenNames -merge -lift -underBinder s4
  have h5 : Keeps F a s4 := by
    unfold s4
    exact keeps_foldl (fun s6 x7 h8 => keeps_applyEdit (Piece.sub hF (by decide +kernel)) h8) h2
  clear_value s4
  extract_lets +onlyGivenNames -merge -lift -underBinder s9
  have h10 : Keeps F a s9 := by
    unfold s9
    exact keeps_ite (fun _ => keeps_setLeader (Piece.sub hF (by decide +kernel)) h5) (fun _ => keeps_setLeader (Piece.sub hF (by decide +kernel)) h5)
  clear_value s9
  extract_lets +onlyGivenNames -merge -lift -underBinder v11
  clear_value v11
  extract_lets +onlyGivenNames -merge -lift -underBinder s12
  have h13 : Keeps F a s12 := by
    unfold s12
    exact keeps_setFab (Piece.sub hF (by decide +kernel)) h10
  clear_value s12
  extract_lets +onlyGivenNames -merge -lift -underBinder v14
  clear_value v14
  extract_lets +onlyGivenNames -merge -lift -underBinder s15
  have h16 : Keeps F a s15 := by
    unfold s15
    exact keeps_ite (fun _ => keeps_setFab (Piece.sub hF (by decide +kernel)) h13) (fun _ => h13)
  clear_value s15
  extract_lets +onlyGivenNames -merge -lift -underBinder s17
  have h18 : Keeps F a s17 := by
    unfold s17
    exact keeps_reroute (Piece.sub hF (by decide +kernel)) (keeps_dropGone (Piece.sub hF (by decide +kernel)) (keeps_showMember (Piece.sub hF
        (by decide +kernel)) h16))
  clear_value s17
  exact keeps_ite (fun _ => keeps_leftNow (Piece.sub hF (by decide +kernel)) h18) (fun _ => h18)

theorem keeps_checkChange {F : List Piece} {a s : State} {x0 : ℕ} (hF : [.hti, .mbx, .ses, .tier, .gore, .attn, .fab, .fleet, .dec, .pool, .ring,
    .TXT_SLOT, .TIER_RSV, .TIER_OBJ, .TIER_CNT, .SHP_CTX_CNT, .SEC_CNT, .RING_STS, .RING_PORT, .RING_PORT_CNT, .RING_MAP, .RING_LED,
        .RING_INHERIT, .RING_EVAC, .RING_CNT, .RING_BYP, .POOL_REGION, .POOL_OBJ, .POOL_LEND, .POOL_CNT, .MBX_SUM, .MBX_CNT, .HTI_W_QFAULT,
            .HTI_W_MBSTS, .HTI_W_EVT, .HTI_CNT, .GORE_TILE_CNT, .GORE_SHAPE, .GORE_CTX, .GORE_CTX_CNT, .GORE_ATTN_CNT, .DEC_GRAM, .DEC_GAUGE,
                .CTL_SES, .CTL_SES_CNT, .CTL_READY] ⊆ F) (hs : Keeps F a s) :
    Keeps F a (State.checkChange s x0) := by
  induction x0 generalizing s with
  | zero =>
    rw [State.checkChange.eq_1]
    exact hs
  | succ _ ih =>
    rw [State.checkChange.eq_2]
    split
    · exact hs
    · split
      · exact hs
      · extract_lets +onlyGivenNames -merge -lift -underBinder v1 v2 v3 v4
        clear_value v1 v2 v3 v4
        extract_lets +onlyGivenNames -merge -lift -underBinder s5
        have h6 : Keeps F a s5 := by
          unfold s5
          exact keeps_setFab (Piece.sub hF (by decide +kernel)) hs
        clear_value s5
        extract_lets +onlyGivenNames -merge -lift -underBinder s7
        have h8 : Keeps F a s7 := by
          unfold s7
          exact keeps_foldl (fun s9 x10 h11 => keeps_sendMap (Piece.sub hF (by decide +kernel)) h11) h6
        clear_value s7
        extract_lets +onlyGivenNames -merge -lift -underBinder s12
        have h13 : Keeps F a s12 := by
          unfold s12
          exact keeps_applyEdits (Piece.sub hF (by decide +kernel)) h8
        clear_value s12
        extract_lets +onlyGivenNames -merge -lift -underBinder s14
        have h15 : Keeps F a s14 := by
          unfold s14
          exact keeps_foldl (fun s16 x17 h18 => keeps_sendWhole h18) h13
        clear_value s14
        extract_lets +onlyGivenNames -merge -lift -underBinder s19
        have h20 : Keeps F a s19 := by
          unfold s19
          exact keeps_ite (fun _ => keeps_helloAll h15) (fun _ => h15)
        clear_value s19
        split
        · exact h20
        · extract_lets +onlyGivenNames -merge -lift -underBinder v21
          clear_value v21
          extract_lets +onlyGivenNames -merge -lift -underBinder s22
          have h23 : Keeps F a s22 := by
            unfold s22
            exact keeps_setFab (Piece.sub hF (by decide +kernel)) h20
          clear_value s22
          exact keeps_ite (fun _ => ih (keeps_startChange (Piece.sub hF (by decide +kernel)) h23)) (fun _ => keeps_setFab (Piece.sub hF
              (by decide +kernel)) h23)

theorem keeps_askChange {F : List Piece} {a s : State} {e : MapEdit} (hF : [.hti, .mbx, .ses, .tier, .gore, .attn, .fab, .fleet, .dec, .pool,
    .ring, .TXT_SLOT, .TIER_RSV, .TIER_OBJ, .TIER_CNT, .SHP_CTX_CNT, .SEC_CNT, .RING_STS, .RING_PORT, .RING_PORT_CNT, .RING_MAP, .RING_LED,
        .RING_INHERIT, .RING_EVAC, .RING_CNT, .RING_BYP, .POOL_REGION, .POOL_OBJ, .POOL_LEND, .POOL_CNT, .MBX_SUM, .MBX_CNT, .HTI_W_QFAULT,
            .HTI_W_MBSTS, .HTI_W_EVT, .HTI_CNT, .GORE_TILE_CNT, .GORE_SHAPE, .GORE_CTX, .GORE_CTX_CNT, .GORE_ATTN_CNT, .DEC_GRAM, .DEC_GAUGE,
                .CTL_SES, .CTL_SES_CNT, .CTL_READY] ⊆ F) (hs : Keeps F a s) :
    Keeps F a (State.askChange s e) := by
  delta State.askChange
  extract_lets +onlyGivenNames -merge -lift -underBinder s1
  have h2 : Keeps F a s1 := by
    unfold s1
    split
    · exact keeps_startChange (Piece.sub hF (by decide +kernel)) hs
    · exact keeps_ite (fun _ => hs) (fun _ => keeps_ite (fun _ => keeps_startChange (Piece.sub hF (by decide +kernel)) hs) (fun _ => keeps_setFab
          (Piece.sub hF (by decide +kernel)) hs))
  clear_value s1
  exact keeps_checkChange (Piece.sub hF (by decide +kernel)) h2

/-! ### RingFrames -/

theorem keeps_policeFrame {F : List Piece} {a s : State} {f : RFrame} {l : ℕ} (hF : [.pwr, .ring, .SHP_CTX_CNT, .SHP_CNT, .RING_CNT, .PWR_DROGUE,
    .PWR_CNT, .CTL_PM] ⊆ F) (hs : Keeps F a s) :
    Keeps F a (State.policeFrame s f l) := by
  delta State.policeFrame
  extract_lets +onlyGivenNames -merge -lift -underBinder v1 v2
  clear_value v1 v2
  refine keeps_ite (fun _ => keeps_ite (fun _ => keeps_holdFrame (Piece.sub hF (by decide +kernel)) hs) (fun _ => keeps_acceptFrame (Piece.sub hF
      (by decide +kernel)) hs)) (fun _ => ?_)
  extract_lets +onlyGivenNames -merge -lift -underBinder s3
  have h4 : Keeps F a s3 := by
    unfold s3
    exact keeps_bump hs ⟨rfl, hF (by decide +kernel)⟩
  clear_value s3
  extract_lets +onlyGivenNames -merge -lift -underBinder v5 v6 v7
  clear_value v5 v6 v7
  extract_lets +onlyGivenNames -merge -lift -underBinder s8
  have h9 : Keeps F a s8 := by
    unfold s8
    exact keeps_setRing (Piece.sub hF (by decide +kernel)) h4
  clear_value s8
  refine keeps_ite (fun _ => keeps_acceptFrame (Piece.sub hF (by decide +kernel)) h9) (fun _ => ?_)
  extract_lets +onlyGivenNames -merge -lift -underBinder s10
  have h11 : Keeps F a s10 := by
    unfold s10
    exact keeps_bump h9 ⟨rfl, hF (by decide +kernel)⟩
  clear_value s10
  split
  · exact keeps_ite (fun _ => keeps_acceptFrame (Piece.sub hF (by decide +kernel)) (keeps_bump h11 ⟨rfl, hF (by decide +kernel)⟩)) (fun _ =>
        keeps_holdFrame (Piece.sub hF (by decide +kernel)) (keeps_bump h11 ⟨rfl, hF (by decide +kernel)⟩))
  · extract_lets +onlyGivenNames -merge -lift -underBinder s12
    have h13 : Keeps F a s12 := by
      unfold s12
      exact keeps_send (Piece.sub hF (by decide +kernel)) (keeps_bump h11 ⟨rfl, hF (by decide +kernel)⟩)
    clear_value s12
    exact keeps_loseFrame (Piece.sub hF (by decide +kernel)) h13
  · exact keeps_acceptFrame (Piece.sub hF (by decide +kernel)) (keeps_bump h11 ⟨rfl, hF (by decide +kernel)⟩)

theorem keeps_linkRetrain {F : List Piece} {a : State} {p lanes fails : ℕ} {s : State} (hF : [.ring, .RING_PORT, .RING_PORT_CNT, .CTL_READY] ⊆ F)
    (hs : Keeps F a s) :
    Keeps F a (linkRetrain p lanes fails s) := by
  delta linkRetrain
  extract_lets +onlyGivenNames -merge -lift -underBinder s1
  have h2 : Keeps F a s1 := by
    unfold s1
    exact keeps_wr (keeps_bump hs ⟨rfl, hF (by decide +kernel)⟩) ⟨rfl, hF (by decide +kernel)⟩
  clear_value s1
  extract_lets +onlyGivenNames -merge -lift -underBinder v3
  clear_value v3
  extract_lets +onlyGivenNames -merge -lift -underBinder s4
  have h5 : Keeps F a s4 := by
    unfold s4
    exact keeps_setRing (Piece.sub hF (by decide +kernel)) h2
  clear_value s4
  exact keeps_ite (fun _ => keeps_wr h5 ⟨rfl, hF (by decide +kernel)⟩) (fun _ => keeps_linkDown (Piece.sub hF (by decide +kernel)) h5)

theorem keeps_execRingLinkRetrain {F : List Piece} {a : State} {port lanes fails : ℕ} {s : State} (hF : [.ring, .RING_PORT, .RING_PORT_CNT,
    .CTL_READY] ⊆ F) (hs : Keeps F a s) :
    KeepsO F a (execRingLinkRetrain port lanes fails s) := by
  delta execRingLinkRetrain
  exact KeepsO.mk (keeps_ite (fun _ => keeps_linkRetrain (Piece.sub hF (by decide +kernel)) hs) (fun _ => hs))

theorem keeps_retryTimeout {F : List Piece} {a : State} {k : ℕ} {s : State} (hF : [.fab, .RING_BYP] ⊆ F) (hs : Keeps F a s) :
    Keeps F a (retryTimeout k s) := by
  delta retryTimeout
  exact keeps_ite (fun _ => keeps_startOpen (Piece.sub hF (by decide +kernel)) hs) (fun _ => hs)

theorem keeps_execBypassRetryTimeout {F : List Piece} {a : State} {dt pair : ℕ} {s : State} (hF : [.fab, .fleet, .TIER_STALL, .SHP_CTX_CNT,
    .RING_PORT_CNT, .RING_BYP, .PWR_CNT, .MTR_LIVE, .HTI_TIME, .HTI_CNT, .GORE_CTX_CNT, .GORE_CLASS, .CTL_RT, .CTL_RST_CNT, .CTL_PIN_CNT] ⊆ F)
        (hs : Keeps F a s) :
    KeepsO F a (execBypassRetryTimeout dt pair s) := by
  delta execBypassRetryTimeout
  exact KeepsO.mk (keeps_ite (fun _ => keeps_retryTimeout (Piece.sub hF (by decide +kernel)) (keeps_pass (Piece.sub hF (by decide +kernel)) hs))
      (fun _ => hs))

theorem keeps_frameForward {F : List Piece} {a : State} {p : ℕ} {f : RFrame} {s : State} (hF : [.ring, .RING_PORT_CNT, .RING_CNT] ⊆ F) (hs :
    Keeps F a s) :
    Keeps F a (frameForward p f s) := by
  delta frameForward
  extract_lets +onlyGivenNames -merge -lift -underBinder s1
  have h2 : Keeps F a s1 := by
    unfold s1
    exact keeps_bump hs ⟨rfl, hF (by decide +kernel)⟩
  clear_value s1
  refine keeps_ite (fun _ => keeps_bump h2 ⟨rfl, hF (by decide +kernel)⟩) (fun _ => ?_)
  extract_lets +onlyGivenNames -merge -lift -underBinder v3 v4 v5
  clear_value v3 v4 v5
  extract_lets +onlyGivenNames -merge -lift -underBinder s6
  have h7 : Keeps F a s6 := by
    unfold s6
    exact keeps_bump (keeps_bump h2 ⟨rfl, hF (by decide +kernel)⟩) ⟨rfl, hF (by decide +kernel)⟩
  clear_value s6
  exact keeps_setRing (Piece.sub hF (by decide +kernel)) h7

theorem keeps_gapTimeout {F : List Piece} {a : State} {src ctx vc : ℕ} {s : State} (hF : [.pwr, .ring, .SHP_CTX_CNT, .RING_CNT, .PWR_DROGUE,
    .PWR_CNT, .CTL_PM] ⊆ F) (hs : Keeps F a s) :
    Keeps F a (gapTimeout src ctx vc s) := by
  delta gapTimeout
  extract_lets +onlyGivenNames -merge -lift -underBinder v1
  clear_value v1
  split
  · exact hs
  · split
    · refine keeps_ite (fun _ => ?_) (fun _ => hs)
      extract_lets +onlyGivenNames -merge -lift -underBinder s2
      have h3 : Keeps F a s2 := by
        unfold s2
        exact keeps_bump hs ⟨rfl, hF (by decide +kernel)⟩
      clear_value s2
      exact keeps_drainFlow (Piece.sub hF (by decide +kernel)) (keeps_setFlow (Piece.sub hF (by decide +kernel)) h3)
    · exact hs

theorem keeps_execReorderGapTimeout {F : List Piece} {a : State} {dt src ctx vc : ℕ} {s : State} (hF : [.pwr, .fleet, .ring, .TIER_STALL,
    .SHP_CTX_CNT, .RING_PORT_CNT, .RING_CNT, .PWR_DROGUE, .PWR_CNT, .MTR_LIVE, .HTI_TIME, .HTI_CNT, .GORE_CTX_CNT, .GORE_CLASS, .CTL_RT,
        .CTL_RST_CNT, .CTL_PM, .CTL_PIN_CNT] ⊆ F) (hs : Keeps F a s) :
    KeepsO F a (execReorderGapTimeout dt src ctx vc s) := by
  delta execReorderGapTimeout
  exact KeepsO.mk (keeps_gapTimeout (Piece.sub hF (by decide +kernel)) (keeps_pass (Piece.sub hF (by decide +kernel)) hs))

theorem keeps_execPoliceNackReceived {F : List Piece} {a : State} {src ctx vc seq hint : ℕ} {s : State} (hF : [.hti, .pool, .ring, .SHP_CTX_CNT,
    .SHP_CNT, .SEC_CNT, .POOL_REGION, .POOL_LEND, .HTI_W_QFAULT, .HTI_CNT] ⊆ F) (hs : Keeps F a s) :
    KeepsO F a (execPoliceNackReceived src ctx vc seq hint s) := by
  delta execPoliceNackReceived
  refine KeepsO.mk ?_
  extract_lets +onlyGivenNames -merge -lift -underBinder s1
  have h2 : Keeps F a s1 := by
    unfold s1
    exact keeps_bump hs ⟨rfl, hF (by decide +kernel)⟩
  clear_value s1
  exact keeps_ite (fun _ => keeps_regionLost (Piece.sub hF (by decide +kernel)) h2) (fun _ => h2)

theorem keeps_execRingCntClr {F : List Piece} {a : State} {value : ℕ} {s : State} (hF : [.RING_PORT_CNT, .RING_CNT] ⊆ F) (hs : Keeps F a s) :
    KeepsO F a (execRingCntClr value s) := by
  delta execRingCntClr
  exact KeepsO.mk (keeps_hostWrite hs (fun y1 h2 => keeps_ite (fun _ => keeps_zeroAll (keeps_zeroAll h2 ⟨rfl, hF (by decide +kernel)⟩) ⟨rfl, hF
      (by decide +kernel)⟩) (fun _ => h2)))

theorem keeps_frameReceived {F : List Piece} {a : State} {p : ℕ} {f : RFrame} {s : State} (hF : [.pwr, .ring, .SHP_CTX_CNT, .SHP_CNT,
    .RING_PORT_CNT, .RING_CNT, .PWR_DROGUE, .PWR_CNT, .CTL_PM] ⊆ F) (hs : Keeps F a s) :
    Keeps F a (frameReceived p f s) := by
  delta frameReceived
  extract_lets +onlyGivenNames -merge -lift -underBinder s1
  have h2 : Keeps F a s1 := by
    unfold s1
    exact keeps_bump hs ⟨rfl, hF (by decide +kernel)⟩
  clear_value s1
  exact keeps_ite (fun _ => keeps_bump h2 ⟨rfl, hF (by decide +kernel)⟩) (fun _ => keeps_ite (fun _ => keeps_loseFrame (Piece.sub hF
      (by decide +kernel)) (keeps_bump h2 ⟨rfl, hF (by decide +kernel)⟩)) (fun _ => keeps_ite (fun _ => keeps_loseFrame (Piece.sub hF
          (by decide +kernel)) h2) (fun _ => keeps_policeFrame (Piece.sub hF (by decide +kernel)) h2)))

theorem keeps_execRingFrameReceived {F : List Piece} {a : State} {port : ℕ} {frame : RFrame} {s : State} (hF : [.pwr, .ring, .SHP_CTX_CNT,
    .SHP_CNT, .RING_PORT_CNT, .RING_CNT, .PWR_DROGUE, .PWR_CNT, .CTL_PM] ⊆ F) (hs : Keeps F a s) :
    KeepsO F a (execRingFrameReceived port frame s) := by
  delta execRingFrameReceived
  exact KeepsO.mk (keeps_ite (fun _ => keeps_frameReceived (Piece.sub hF (by decide +kernel)) hs) (fun _ => hs))

theorem keeps_cablePlug {F : List Piece} {a : State} {p : ℕ} {plugged : Bool} {s : State} (hF : [.fab, .ring, .RING_PORT, .RING_PORT_CNT,
    .RING_BYP, .CTL_READY, .CTL_PIN_CNT] ⊆ F) (hs : Keeps F a s) :
    Keeps F a (cablePlug p plugged s) := by
  delta cablePlug
  refine keeps_ite (fun _ => hs) (fun _ => ?_)
  extract_lets +onlyGivenNames -merge -lift -underBinder s1
  have h2 : Keeps F a s1 := by
    unfold s1
    exact keeps_bump (keeps_wr hs ⟨rfl, hF (by decide +kernel)⟩) ⟨rfl, hF (by decide +kernel)⟩
  clear_value s1
  exact keeps_ite (fun _ => h2) (fun _ => keeps_ite (fun _ => keeps_setBypass (Piece.sub hF (by decide +kernel)) h2) (fun _ => keeps_linkDown
      (Piece.sub hF (by decide +kernel)) h2))

theorem keeps_openTrainTimeout {F : List Piece} {a : State} {k : ℕ} {s : State} (hF : [.fab, .ring, .RING_PORT, .RING_PORT_CNT, .RING_CNT,
    .RING_BYP, .CTL_READY] ⊆ F) (hs : Keeps F a s) :
    Keeps F a (openTrainTimeout k s) := by
  delta openTrainTimeout
  extract_lets +onlyGivenNames -merge -lift -underBinder v1
  clear_value v1
  exact keeps_ite (fun _ => keeps_closePair (Piece.sub hF (by decide +kernel)) hs) (fun _ => hs)

theorem keeps_ringMapCfg {F : List Piece} {a : State} {value : ℕ} {s : State} (hF : [.RING_MAP, .RING_CNT] ⊆ F) (hs : Keeps F a s) :
    Keeps F a (ringMapCfg value s) := by
  delta ringMapCfg
  extract_lets +onlyGivenNames -merge -lift -underBinder s1
  have h2 : Keeps F a s1 := by
    unfold s1
    exact keeps_putWord hs ((Piece.fields hF (by decide +kernel)))
  clear_value s1
  extract_lets +onlyGivenNames -merge -lift -underBinder v3 v4
  clear_value v3 v4
  exact keeps_ite (fun _ => h2) (fun _ => keeps_bump hs ⟨rfl, hF (by decide +kernel)⟩)

theorem keeps_execRingFrameForward {F : List Piece} {a : State} {port : ℕ} {frame : RFrame} {s : State} (hF : [.ring, .RING_PORT_CNT, .RING_CNT]
    ⊆ F) (hs : Keeps F a s) :
    KeepsO F a (execRingFrameForward port frame s) := by
  delta execRingFrameForward
  exact KeepsO.mk (keeps_ite (fun _ => keeps_frameForward (Piece.sub hF (by decide +kernel)) hs) (fun _ => hs))

theorem keeps_linkError {F : List Piece} {a : State} {p : ℕ} {fec sent : Bool} {s : State} (hF : [.ring, .RING_PORT_CNT] ⊆ F) (hs : Keeps F a s) :
    Keeps F a (linkError p fec sent s) := by
  delta linkError
  extract_lets +onlyGivenNames -merge -lift -underBinder s1
  have h2 : Keeps F a s1 := by
    unfold s1
    exact keeps_ite (fun _ => keeps_bump hs ⟨rfl, hF (by decide +kernel)⟩) (fun _ => hs)
  clear_value s1
  refine keeps_ite (fun _ => ?_) (fun _ => h2)
  extract_lets +onlyGivenNames -merge -lift -underBinder v3
  clear_value v3
  exact keeps_bump (keeps_setRing (Piece.sub hF (by decide +kernel)) h2) ⟨rfl, hF (by decide +kernel)⟩

theorem keeps_execLinkFrameError {F : List Piece} {a : State} {port : ℕ} {fec sent : Bool} {s : State} (hF : [.ring, .RING_PORT_CNT] ⊆ F) (hs :
    Keeps F a s) :
    KeepsO F a (execLinkFrameError port fec sent s) := by
  delta execLinkFrameError
  exact KeepsO.mk (keeps_ite (fun _ => keeps_linkError (Piece.sub hF (by decide +kernel)) hs) (fun _ => hs))

theorem keeps_execRingMapCfgWrite {F : List Piece} {a : State} {value : ℕ} {s : State} (hF : [.latch, .RING_MAP, .RING_CNT] ⊆ F) (hs : Keeps F a s) :
    KeepsO F a (execRingMapCfgWrite value s) := by
  delta execRingMapCfgWrite
  exact KeepsO.mk (keeps_hostWrite64 (Piece.sub hF (by decide +kernel)) hs ⟨rfl, hF (by decide +kernel)⟩ (fun y1 h2 => keeps_ringMapCfg
      (Piece.sub hF (by decide +kernel)) h2))

theorem keeps_routeHold {F : List Piece} {a s : State} (hF : [.hti, .pool, .ring, .SHP_CTX_CNT, .SEC_CNT, .RING_CNT, .POOL_REGION, .POOL_LEND,
    .HTI_W_QFAULT, .HTI_CNT] ⊆ F) (hs : Keeps F a s) :
    Keeps F a (routeHold s) := by
  delta routeHold
  extract_lets +onlyGivenNames -merge -lift -underBinder v1 v2
  clear_value v1 v2
  exact keeps_unreachable (Piece.sub hF (by decide +kernel)) (keeps_setRing (Piece.sub hF (by decide +kernel)) hs)

theorem keeps_execRouteHoldTimeout {F : List Piece} {a : State} {dt : ℕ} {s : State} (hF : [.hti, .fleet, .pool, .ring, .TIER_STALL,
    .SHP_CTX_CNT, .SEC_CNT, .RING_PORT_CNT, .RING_CNT, .PWR_CNT, .POOL_REGION, .POOL_LEND, .MTR_LIVE, .HTI_W_QFAULT, .HTI_TIME, .HTI_CNT,
        .GORE_CTX_CNT, .GORE_CLASS, .CTL_RT, .CTL_RST_CNT, .CTL_PIN_CNT] ⊆ F) (hs : Keeps F a s) :
    KeepsO F a (execRouteHoldTimeout dt s) := by
  delta execRouteHoldTimeout
  exact KeepsO.mk (keeps_routeHold (Piece.sub hF (by decide +kernel)) (keeps_pass (Piece.sub hF (by decide +kernel)) hs))

theorem keeps_portTrained {F : List Piece} {a : State} {p peer peerPort lanes fails : ℕ} {s : State} (hF : [.pwr, .fab, .ring, .RING_PORT,
    .RING_PORT_CNT, .CTL_READY] ⊆ F) (hs : Keeps F a s) :
    Keeps F a (portTrained p peer peerPort lanes fails s) := by
  delta portTrained
  extract_lets +onlyGivenNames -merge -lift -underBinder v1
  extract_lets +onlyGivenNames -merge -lift -underBinder v2 v3
  clear_value v2 v3
  extract_lets +onlyGivenNames -merge -lift -underBinder s4
  have h5 : Keeps F a s4 := by
    unfold s4
    exact Keeps.other hs (hfab := .inr (hF (by decide +kernel)))
  clear_value s4
  extract_lets +onlyGivenNames -merge -lift -underBinder s6
  have h7 : Keeps F a s6 := by
    unfold s6
    exact keeps_wr (keeps_wr h5 ⟨rfl, hF (by decide +kernel)⟩) ⟨rfl, hF (by decide +kernel)⟩
  clear_value s6
  refine keeps_ite (fun _ => keeps_wr h7 ⟨rfl, hF (by decide +kernel)⟩) (fun _ => ?_)
  refine keeps_ite (fun _ => keeps_linkDown (Piece.sub hF (by decide +kernel)) h7) (fun _ => ?_)
  extract_lets +onlyGivenNames -merge -lift -underBinder s8
  have h9 : Keeps F a s8 := by
    unfold s8
    exact keeps_wr (keeps_wr (keeps_wr h7 ⟨rfl, hF (by decide +kernel)⟩) ⟨rfl, hF (by decide +kernel)⟩) ⟨rfl, hF (by decide +kernel)⟩
  clear_value s8
  extract_lets +onlyGivenNames -merge -lift -underBinder s10
  have h11 : Keeps F a s10 := by
    unfold s10
    exact keeps_unadmit (Piece.sub hF (by decide +kernel)) (keeps_wrBit h9 ⟨rfl, hF (by decide +kernel)⟩)
  clear_value s10
  exact keeps_reroute (Piece.sub hF (by decide +kernel)) (keeps_sendHello h11)

theorem keeps_execRingBypForceClose {F : List Piece} {a : State} {value : ℕ} {s : State} (hF : [.fab, .ring, .RING_PORT, .RING_PORT_CNT,
    .RING_CNT, .RING_BYP, .CTL_READY] ⊆ F) (hs : Keeps F a s) :
    KeepsO F a (execRingBypForceClose value s) := by
  delta execRingBypForceClose
  refine KeepsO.mk ?_
  refine keeps_hostWrite hs (fun y1 h2 => ?_)
  extract_lets +onlyGivenNames -merge -lift -underBinder s3
  have h4 : Keeps F a s3 := by
    unfold s3
    exact keeps_wr h2 ⟨rfl, hF (by decide +kernel)⟩
  clear_value s3
  exact keeps_foldl (fun s5 x6 h7 => keeps_ite (fun _ => keeps_closePair (Piece.sub hF (by decide +kernel)) h7) (fun _ => h7)) h4

theorem keeps_execBypassLoopbackTrained {F : List Piece} {a : State} {pair : ℕ} {s : State} (hF : [.fab, .RING_BYP] ⊆ F) (hs : Keeps F a s) :
    KeepsO F a (execBypassLoopbackTrained pair s) := by
  delta execBypassLoopbackTrained
  exact KeepsO.mk (keeps_ite (fun _ => keeps_startOpen (Piece.sub hF (by decide +kernel)) hs) (fun _ => hs))

theorem keeps_execRetentionHeartbeatLoss {F : List Piece} {a : State} {dt : ℕ} {s : State} (hF : [.fab, .fleet, .ring, .TIER_STALL, .SHP_CTX_CNT,
    .RING_PORT, .RING_PORT_CNT, .RING_CNT, .RING_BYP, .PWR_CNT, .MTR_LIVE, .HTI_TIME, .HTI_CNT, .GORE_CTX_CNT, .GORE_CLASS, .CTL_RT,
        .CTL_RST_CNT, .CTL_READY, .CTL_PIN_CNT] ⊆ F) (hs : Keeps F a s) :
    KeepsO F a (execRetentionHeartbeatLoss dt s) := by
  delta execRetentionHeartbeatLoss
  exact KeepsO.mk (keeps_closeAll (Piece.sub hF (by decide +kernel)) (keeps_pass (Piece.sub hF (by decide +kernel)) hs))

theorem keeps_execPauseReceived {F : List Piece} {a : State} {port : ℕ} {s : State} (hF : [.fab] ⊆ F) (hs : Keeps F a s) :
    KeepsO F a (execPauseReceived port s) := by
  delta execPauseReceived
  exact KeepsO.mk (keeps_ite (fun _ => keeps_sendRaw (Keeps.other hs (hfab := .inr (hF (by decide +kernel))))) (fun _ => hs))

theorem keeps_openingTimeout {F : List Piece} {a : State} {k : ℕ} {s : State} (hF : [.fab, .RING_BYP] ⊆ F) (hs : Keeps F a s) :
    Keeps F a (openingTimeout k s) := by
  delta openingTimeout
  exact keeps_ite (fun _ => keeps_setBypass (Piece.sub hF (by decide +kernel)) hs) (fun _ => hs)

theorem keeps_execRingCablePlug {F : List Piece} {a : State} {port : ℕ} {plugged : Bool} {s : State} (hF : [.fab, .ring, .RING_PORT,
    .RING_PORT_CNT, .RING_BYP, .CTL_READY, .CTL_PIN_CNT] ⊆ F) (hs : Keeps F a s) :
    KeepsO F a (execRingCablePlug port plugged s) := by
  delta execRingCablePlug
  exact KeepsO.mk (keeps_ite (fun _ => keeps_cablePlug (Piece.sub hF (by decide +kernel)) hs) (fun _ => hs))

theorem keeps_ringVcWrite {F : List Piece} {a : State} {v value : ℕ} {s : State} (hF : [.RING_VC, .RING_CNT] ⊆ F) (hs : Keeps F a s) :
    Keeps F a (ringVcWrite v value s) := by
  delta ringVcWrite
  extract_lets +onlyGivenNames -merge -lift -underBinder s1
  have h2 : Keeps F a s1 := by
    unfold s1
    exact keeps_put hs ⟨rfl, hF (by decide +kernel)⟩
  clear_value s1
  extract_lets +onlyGivenNames -merge -lift -underBinder v3
  clear_value v3
  exact keeps_ite (fun _ => h2) (fun _ => keeps_bump hs ⟨rfl, hF (by decide +kernel)⟩)

theorem keeps_execRingVcWrite {F : List Piece} {a : State} {vc value : ℕ} {s : State} (hF : [.RING_VC, .RING_CNT] ⊆ F) (hs : Keeps F a s) :
    KeepsO F a (execRingVcWrite vc value s) := by
  delta execRingVcWrite
  exact KeepsO.mk (keeps_hostWrite hs (fun y1 h2 => keeps_ite (fun _ => keeps_ringVcWrite (Piece.sub hF (by decide +kernel)) h2) (fun _ => h2)))

theorem keeps_execRingLinkDown {F : List Piece} {a : State} {port : ℕ} {s : State} (hF : [.ring, .RING_PORT, .RING_PORT_CNT, .CTL_READY] ⊆ F) (hs
    : Keeps F a s) :
    KeepsO F a (execRingLinkDown port s) := by
  delta execRingLinkDown
  exact KeepsO.mk (keeps_ite (fun _ => keeps_linkDown (Piece.sub hF (by decide +kernel)) hs) (fun _ => hs))

theorem keeps_execBypassOpenTrainTimeout {F : List Piece} {a : State} {dt pair : ℕ} {s : State} (hF : [.fab, .fleet, .ring, .TIER_STALL,
    .SHP_CTX_CNT, .RING_PORT, .RING_PORT_CNT, .RING_CNT, .RING_BYP, .PWR_CNT, .MTR_LIVE, .HTI_TIME, .HTI_CNT, .GORE_CTX_CNT, .GORE_CLASS,
        .CTL_RT, .CTL_RST_CNT, .CTL_READY, .CTL_PIN_CNT] ⊆ F) (hs : Keeps F a s) :
    KeepsO F a (execBypassOpenTrainTimeout dt pair s) := by
  delta execBypassOpenTrainTimeout
  exact KeepsO.mk (keeps_ite (fun _ => keeps_openTrainTimeout (Piece.sub hF (by decide +kernel)) (keeps_pass (Piece.sub hF (by decide +kernel))
      hs)) (fun _ => hs))

theorem keeps_execRingPortTrained {F : List Piece} {a : State} {port peer peerPort lanes fails : ℕ} {s : State} (hF : [.pwr, .fab, .ring,
    .RING_PORT, .RING_PORT_CNT, .CTL_READY] ⊆ F) (hs : Keeps F a s) :
    KeepsO F a (execRingPortTrained port peer peerPort lanes fails s) := by
  delta execRingPortTrained
  exact KeepsO.mk (keeps_ite (fun _ => keeps_portTrained (Piece.sub hF (by decide +kernel)) hs) (fun _ => hs))

/-! ### Fabric -/

theorem keeps_execMapRequestReceived {F : List Piece} {a : State} {src : ℕ} {s : State} (hs : Keeps F a s) :
    KeepsO F a (execMapRequestReceived src s) := by
  delta execMapRequestReceived
  exact KeepsO.mk (keeps_ite (fun _ => keeps_sendWhole hs) (fun _ => hs))

theorem keeps_expel {F : List Piece} {a s : State} {id : ℕ} (hs : Keeps F a s) :
    Keeps F a (State.expel s id) := by
  delta State.expel
  exact keeps_sendLink hs

theorem keeps_heartbeat {F : List Piece} {a : State} {src boot links want : ℕ} {s : State} (hF : [.hti, .mbx, .ses, .tier, .gore, .attn, .fab,
    .fleet, .dec, .pool, .ring, .TXT_SLOT, .TIER_RSV, .TIER_OBJ, .TIER_CNT, .SHP_CTX_CNT, .SEC_CNT, .RING_STS, .RING_PORT, .RING_PORT_CNT,
        .RING_MAP, .RING_LED, .RING_INHERIT, .RING_EVAC, .RING_CNT, .RING_BYP, .POOL_REGION, .POOL_OBJ, .POOL_LEND, .POOL_CNT, .MBX_SUM,
            .MBX_CNT, .HTI_W_QFAULT, .HTI_W_MBSTS, .HTI_W_EVT, .HTI_CNT, .GORE_TILE_CNT, .GORE_SHAPE, .GORE_CTX, .GORE_CTX_CNT, .GORE_ATTN_CNT,
                .DEC_GRAM, .DEC_GAUGE, .CTL_SES, .CTL_SES_CNT, .CTL_READY] ⊆ F) (hs : Keeps F a s) :
    Keeps F a (heartbeat src boot links want s) := by
  delta heartbeat
  refine keeps_ite (fun _ => hs) (fun _ => ?_)
  refine keeps_ite (fun _ => keeps_expel hs) (fun _ => ?_)
  refine keeps_ite (fun _ => hs) (fun _ => ?_)
  extract_lets +onlyGivenNames -merge -lift -underBinder v1
  clear_value v1
  extract_lets +onlyGivenNames -merge -lift -underBinder s2
  have h3 : Keeps F a s2 := by
    unfold s2
    exact keeps_wr (keeps_setFab (Piece.sub hF (by decide +kernel)) hs) ⟨rfl, hF (by decide +kernel)⟩
  clear_value s2
  extract_lets +onlyGivenNames -merge -lift -underBinder v4
  clear_value v4
  exact keeps_ite (fun _ => keeps_askChange (Piece.sub hF (by decide +kernel)) h3) (fun _ => keeps_ite (fun _ => keeps_askChange (Piece.sub hF
      (by decide +kernel)) h3) (fun _ => h3))

theorem keeps_execHeartbeatReceived {F : List Piece} {a : State} {src boot links want : ℕ} {s : State} (hF : [.hti, .mbx, .ses, .tier, .gore,
    .attn, .fab, .fleet, .dec, .pool, .ring, .TXT_SLOT, .TIER_RSV, .TIER_OBJ, .TIER_CNT, .SHP_CTX_CNT, .SEC_CNT, .RING_STS, .RING_PORT,
        .RING_PORT_CNT, .RING_MAP, .RING_LED, .RING_INHERIT, .RING_EVAC, .RING_CNT, .RING_BYP, .POOL_REGION, .POOL_OBJ, .POOL_LEND, .POOL_CNT,
            .MBX_SUM, .MBX_CNT, .HTI_W_QFAULT, .HTI_W_MBSTS, .HTI_W_EVT, .HTI_CNT, .GORE_TILE_CNT, .GORE_SHAPE, .GORE_CTX, .GORE_CTX_CNT,
                .GORE_ATTN_CNT, .DEC_GRAM, .DEC_GAUGE, .CTL_SES, .CTL_SES_CNT, .CTL_READY] ⊆ F) (hs : Keeps F a s) :
    KeepsO F a (execHeartbeatReceived src boot links want s) := by
  delta execHeartbeatReceived
  exact KeepsO.mk (keeps_heartbeat (Piece.sub hF (by decide +kernel)) hs)

theorem keeps_joinReceived {F : List Piece} {a : State} {src boot links : ℕ} {s : State} (hF : [.hti, .mbx, .ses, .tier, .gore, .attn, .fab,
    .fleet, .dec, .pool, .ring, .TXT_SLOT, .TIER_RSV, .TIER_OBJ, .TIER_CNT, .SHP_CTX_CNT, .SEC_CNT, .RING_STS, .RING_PORT, .RING_PORT_CNT,
        .RING_MAP, .RING_LED, .RING_INHERIT, .RING_EVAC, .RING_CNT, .RING_BYP, .POOL_REGION, .POOL_OBJ, .POOL_LEND, .POOL_CNT, .MBX_SUM,
            .MBX_CNT, .HTI_W_QFAULT, .HTI_W_MBSTS, .HTI_W_EVT, .HTI_CNT, .GORE_TILE_CNT, .GORE_SHAPE, .GORE_CTX, .GORE_CTX_CNT, .GORE_ATTN_CNT,
                .DEC_GRAM, .DEC_GAUGE, .CTL_SES, .CTL_SES_CNT, .CTL_READY] ⊆ F) (hs : Keeps F a s) :
    Keeps F a (joinReceived src boot links s) := by
  delta joinReceived
  refine keeps_ite (fun _ => hs) (fun _ => ?_)
  refine keeps_ite (fun _ => keeps_expel hs) (fun _ => ?_)
  refine keeps_ite (fun _ => ?_) (fun _ => keeps_askChange (Piece.sub hF (by decide +kernel)) hs)
  refine keeps_ite (fun _ => keeps_sendWhole hs) (fun _ => ?_)
  extract_lets +onlyGivenNames -merge -lift -underBinder s1
  have h2 : Keeps F a s1 := by
    unfold s1
    exact keeps_askChange (Piece.sub hF (by decide +kernel)) hs
  clear_value s1
  exact keeps_askChange (Piece.sub hF (by decide +kernel)) h2

theorem keeps_execJoinReceived {F : List Piece} {a : State} {src boot links : ℕ} {s : State} (hF : [.hti, .mbx, .ses, .tier, .gore, .attn, .fab,
    .fleet, .dec, .pool, .ring, .TXT_SLOT, .TIER_RSV, .TIER_OBJ, .TIER_CNT, .SHP_CTX_CNT, .SEC_CNT, .RING_STS, .RING_PORT, .RING_PORT_CNT,
        .RING_MAP, .RING_LED, .RING_INHERIT, .RING_EVAC, .RING_CNT, .RING_BYP, .POOL_REGION, .POOL_OBJ, .POOL_LEND, .POOL_CNT, .MBX_SUM,
            .MBX_CNT, .HTI_W_QFAULT, .HTI_W_MBSTS, .HTI_W_EVT, .HTI_CNT, .GORE_TILE_CNT, .GORE_SHAPE, .GORE_CTX, .GORE_CTX_CNT, .GORE_ATTN_CNT,
                .DEC_GRAM, .DEC_GAUGE, .CTL_SES, .CTL_SES_CNT, .CTL_READY] ⊆ F) (hs : Keeps F a s) :
    KeepsO F a (execJoinReceived src boot links s) := by
  delta execJoinReceived
  exact KeepsO.mk (keeps_joinReceived (Piece.sub hF (by decide +kernel)) hs)

theorem keeps_takeWhole {F : List Piece} {a s : State} {es : List MapEntry} {inherit : List (ℕ × ℕ × ℕ)} (hF : [.fab, .RING_STS, .RING_MAP,
    .RING_INHERIT, .CTL_SES] ⊆ F) (hs : Keeps F a s) :
    Keeps F a (State.takeWhole s es inherit) := by
  delta State.takeWhole
  extract_lets +onlyGivenNames -merge -lift -underBinder v1
  clear_value v1
  extract_lets +onlyGivenNames -merge -lift -underBinder s2
  have h3 : Keeps F a s2 := by
    unfold s2
    exact keeps_foldl (fun s4 x5 h6 => keeps_setPartner (Piece.sub hF (by decide +kernel)) (keeps_wr (keeps_wr (keeps_wr h6 ⟨rfl, hF
        (by decide +kernel)⟩) ⟨rfl, hF (by decide +kernel)⟩) ⟨rfl, hF (by decide +kernel)⟩)) hs
  clear_value s2
  exact keeps_showMember (Piece.sub hF (by decide +kernel)) (keeps_showInherit (Piece.sub hF (by decide +kernel)) (keeps_setFab (Piece.sub hF
      (by decide +kernel)) h3))

theorem keeps_mapCommit {F : List Piece} {a : State} {src epoch : ℕ} {m : MapMsg} {s : State} (hF : [.hti, .mbx, .ses, .tier, .gore, .attn, .fab,
    .fleet, .dec, .pool, .ring, .TXT_SLOT, .TIER_RSV, .TIER_OBJ, .TIER_CNT, .SHP_CTX_CNT, .SEC_CNT, .RING_STS, .RING_PORT, .RING_PORT_CNT,
        .RING_MAP, .RING_LED, .RING_INHERIT, .RING_EVAC, .RING_CNT, .RING_BYP, .POOL_REGION, .POOL_OBJ, .POOL_LEND, .POOL_CNT, .MBX_SUM,
            .MBX_CNT, .HTI_W_QFAULT, .HTI_W_MBSTS, .HTI_W_EVT, .HTI_CNT, .GORE_TILE_CNT, .GORE_SHAPE, .GORE_CTX, .GORE_CTX_CNT, .GORE_ATTN_CNT,
                .DEC_GRAM, .DEC_GAUGE, .CTL_SES, .CTL_SES_CNT, .CTL_READY] ⊆ F) (hs : Keeps F a s) :
    Keeps F a (mapCommit src epoch m s) := by
  delta mapCommit
  refine keeps_ite (fun _ => hs) (fun _ => ?_)
  extract_lets +onlyGivenNames -merge -lift -underBinder f7
  unfold f7
  beta_reduce
  split
  · exact keeps_ite (fun _ => keeps_applyEdits (Piece.sub hF (by decide +kernel)) (keeps_setFab (Piece.sub hF (by decide +kernel)) hs)) (fun _ =>
        keeps_sendMap (Piece.sub hF (by decide +kernel)) hs)
  · extract_lets +onlyGivenNames -merge -lift -underBinder v1 v2
    clear_value v1 v2
    extract_lets +onlyGivenNames -merge -lift -underBinder s3
    have h4 : Keeps F a s3 := by
      unfold s3
      exact keeps_applyEdits (Piece.sub hF (by decide +kernel)) (keeps_setFab (Piece.sub hF (by decide +kernel)) hs)
    clear_value s3
    extract_lets +onlyGivenNames -merge -lift -underBinder s5
    have h6 : Keeps F a s5 := by
      unfold s5
      exact keeps_ite (fun _ => h4) (fun _ => keeps_takeWhole (Piece.sub hF (by decide +kernel)) h4)
    clear_value s5
    exact keeps_ite (fun _ => h6) (fun _ => keeps_helloAll h6)

theorem keeps_execMapCommitReceived {F : List Piece} {a : State} {src epoch : ℕ} {msg : MapMsg} {s : State} (hF : [.hti, .mbx, .ses, .tier,
    .gore, .attn, .fab, .fleet, .dec, .pool, .ring, .TXT_SLOT, .TIER_RSV, .TIER_OBJ, .TIER_CNT, .SHP_CTX_CNT, .SEC_CNT, .RING_STS, .RING_PORT,
        .RING_PORT_CNT, .RING_MAP, .RING_LED, .RING_INHERIT, .RING_EVAC, .RING_CNT, .RING_BYP, .POOL_REGION, .POOL_OBJ, .POOL_LEND, .POOL_CNT,
            .MBX_SUM, .MBX_CNT, .HTI_W_QFAULT, .HTI_W_MBSTS, .HTI_W_EVT, .HTI_CNT, .GORE_TILE_CNT, .GORE_SHAPE, .GORE_CTX, .GORE_CTX_CNT,
                .GORE_ATTN_CNT, .DEC_GRAM, .DEC_GAUGE, .CTL_SES, .CTL_SES_CNT, .CTL_READY] ⊆ F) (hs : Keeps F a s) :
    KeepsO F a (execMapCommitReceived src epoch msg s) := by
  delta execMapCommitReceived
  exact KeepsO.mk (keeps_mapCommit (Piece.sub hF (by decide +kernel)) hs)

theorem keeps_pauseAck {F : List Piece} {a : State} {k side : ℕ} {s : State} (hF : [.hti, .mbx, .fab, .ring, .SHP_CTX_CNT, .SEC_CNT, .RING_STS,
    .RING_PORT, .RING_PORT_CNT, .RING_MAP, .RING_LED, .RING_INHERIT, .RING_EVAC, .RING_CNT, .RING_BYP, .MBX_SUM, .MBX_CNT, .HTI_W_QFAULT,
        .HTI_W_MBSTS, .HTI_W_EVT, .HTI_CNT, .CTL_SES, .CTL_READY] ⊆ F) (hs : Keeps F a s) :
    Keeps F a (pauseAck k side s) := by
  delta pauseAck
  extract_lets +onlyGivenNames -merge -lift -underBinder v1
  clear_value v1
  extract_lets +onlyGivenNames -merge -lift -underBinder s2
  have h3 : Keeps F a s2 := by
    unfold s2
    exact keeps_setFab (Piece.sub hF (by decide +kernel)) hs
  clear_value s2
  exact keeps_ite (fun _ => keeps_ite (fun _ => keeps_setBypass (Piece.sub hF (by decide +kernel)) h3) (fun _ => h3)) (fun _ =>
      keeps_checkClosing (Piece.sub hF (by decide +kernel)) h3)

theorem keeps_execPauseAckReceived {F : List Piece} {a : State} {pair side : ℕ} {s : State} (hF : [.hti, .mbx, .fab, .ring, .SHP_CTX_CNT,
    .SEC_CNT, .RING_STS, .RING_PORT, .RING_PORT_CNT, .RING_MAP, .RING_LED, .RING_INHERIT, .RING_EVAC, .RING_CNT, .RING_BYP, .MBX_SUM, .MBX_CNT,
        .HTI_W_QFAULT, .HTI_W_MBSTS, .HTI_W_EVT, .HTI_CNT, .CTL_SES, .CTL_READY] ⊆ F) (hs : Keeps F a s) :
    KeepsO F a (execPauseAckReceived pair side s) := by
  delta execPauseAckReceived
  exact KeepsO.mk (keeps_ite (fun _ => keeps_pauseAck (Piece.sub hF (by decide +kernel)) hs) (fun _ => hs))

theorem keeps_helloReceived {F : List Piece} {a : State} {member : Bool} {leader : ℕ} {ids : List (ℕ × ℕ × ℕ)} {s : State} (hF : [.fab] ⊆ F) (hs
    : Keeps F a s) :
    Keeps F a (helloReceived member leader ids s) := by
  delta helloReceived
  refine keeps_ite (fun _ => hs) (fun _ => ?_)
  refine keeps_ite (fun _ => ?_) (fun _ => ?_)
  · split
    · exact keeps_ite (fun _ => keeps_expel hs) (fun _ => hs)
    · exact hs
  · extract_lets +onlyGivenNames -merge -lift -underBinder v1 v2 v3
    clear_value v1 v2 v3
    extract_lets +onlyGivenNames -merge -lift -underBinder s4
    have h5 : Keeps F a s4 := by
      unfold s4
      exact keeps_setFab (Piece.sub hF (by decide +kernel)) hs
    clear_value s4
    extract_lets +onlyGivenNames -merge -lift -underBinder s6
    have h7 : Keeps F a s6 := by
      unfold s6
      exact keeps_ite (fun _ => h5) (fun _ => keeps_helloAll h5)
    clear_value s6
    exact keeps_ite (fun _ => keeps_sendLink h7) (fun _ => h7)

theorem keeps_execHelloReceived {F : List Piece} {a : State} {member : Bool} {leader : ℕ} {ids : List (ℕ × ℕ × ℕ)} {s : State} (hF : [.fab] ⊆ F)
    (hs : Keeps F a s) :
    KeepsO F a (execHelloReceived member leader ids s) := by
  delta execHelloReceived
  exact KeepsO.mk (keeps_helloReceived (Piece.sub hF (by decide +kernel)) hs)

theorem keeps_isolate {F : List Piece} {a s : State} (hF : [.ses, .tier, .gore, .attn, .pwr, .fab, .pool, .TIER_OBJ, .RING_STS, .RING_CNT,
    .PWR_DROGUE, .PWR_CNT, .POOL_OBJ, .POOL_CNT, .GORE_TILE_CNT, .GORE_PANEL, .GORE_CTX, .GORE_CTX_CNT, .GORE_CNT, .CTL_READY, .CTL_PM] ⊆ F) (hs
        : Keeps F a s) :
    Keeps F a (State.isolate s) := by
  delta State.isolate
  extract_lets +onlyGivenNames -merge -lift -underBinder s1
  have h2 : Keeps F a s1 := by
    unfold s1
    exact hs
  clear_value s1
  extract_lets +onlyGivenNames -merge -lift -underBinder v3
  clear_value v3
  extract_lets +onlyGivenNames -merge -lift -underBinder s4
  have h5 : Keeps F a s4 := by
    unfold s4
    exact keeps_bump (keeps_showMember (Piece.sub hF (by decide +kernel)) (keeps_setFab (Piece.sub hF (by decide +kernel)) hs)) ⟨rfl, hF
        (by decide +kernel)⟩
  clear_value s4
  extract_lets +onlyGivenNames -merge -lift -underBinder v6
  clear_value v6
  exact keeps_winch (Piece.sub hF (by decide +kernel)) (keeps_foldl (fun s7 x8 h9 => keeps_leaveAll (Piece.sub hF (by decide +kernel)) h9) h5)

theorem keeps_expelled {F : List Piece} {a s : State} (hF : [.hti, .mbx, .ses, .tier, .gore, .attn, .pwr, .fab, .dec, .pool, .ring, .TXT_SLOT,
    .TIER_RSV, .TIER_OBJ, .TIER_CNT, .SHP_CTX_CNT, .SEC_CNT, .RING_STS, .RING_PORT, .RING_PORT_CNT, .RING_MAP, .RING_LED, .RING_INHERIT,
        .RING_EVAC, .RING_CNT, .RING_BYP, .PWR_DROGUE, .PWR_CNT, .POOL_OBJ, .POOL_CNT, .MBX_SUM, .MBX_CNT, .HTI_W_QFAULT, .HTI_W_MBSTS,
            .HTI_W_EVT, .HTI_CNT, .GORE_TILE_CNT, .GORE_SHAPE, .GORE_PANEL, .GORE_CTX, .GORE_CTX_CNT, .GORE_CNT, .GORE_ATTN_CNT, .DEC_GRAM,
                .DEC_GAUGE, .CTL_SES, .CTL_READY, .CTL_PM] ⊆ F) (hs : Keeps F a s) :
    Keeps F a (expelled s) := by
  delta expelled
  refine keeps_ite (fun _ => hs) (fun _ => ?_)
  extract_lets +onlyGivenNames -merge -lift -underBinder v1 v2 v3 v4
  clear_value v1 v2 v3 v4
  extract_lets +onlyGivenNames -merge -lift -underBinder s5
  have h6 : Keeps F a s5 := by
    unfold s5
    exact hs
  clear_value s5
  extract_lets +onlyGivenNames -merge -lift -underBinder s7
  have h8 : Keeps F a s7 := by
    unfold s7
    exact keeps_forgetMap (Piece.sub hF (by decide +kernel)) (keeps_closeAll (Piece.sub hF (by decide +kernel)) (keeps_dropAll (Piece.sub hF
        (by decide +kernel)) hs))
  clear_value s7
  extract_lets +onlyGivenNames -merge -lift -underBinder v9
  clear_value v9
  extract_lets +onlyGivenNames -merge -lift -underBinder s10
  have h11 : Keeps F a s10 := by
    unfold s10
    exact keeps_wr (keeps_setFab (Piece.sub hF (by decide +kernel)) h8) ⟨rfl, hF (by decide +kernel)⟩
  clear_value s10
  extract_lets +onlyGivenNames -merge -lift -underBinder s12
  have h13 : Keeps F a s12 := by
    unfold s12
    exact keeps_wr h11 ⟨rfl, hF (by decide +kernel)⟩
  clear_value s12
  extract_lets +onlyGivenNames -merge -lift -underBinder s14
  have h15 : Keeps F a s14 := by
    unfold s14
    split
    · exact keeps_showEvac (Piece.sub hF (by decide +kernel)) (keeps_foldl (fun s16 x17 h18 => keeps_finish (Piece.sub hF (by decide +kernel))
          h18) h13)
    · exact h13
  clear_value s14
  exact keeps_winch (Piece.sub hF (by decide +kernel)) (keeps_mgmtEvent (Piece.sub hF (by decide +kernel)) h15)

theorem keeps_leaderProposal {F : List Piece} {a : State} {src : ℕ} {candidate : Bool} {s : State} (hF : [.fab, .ring, .RING_CNT] ⊆ F) (hs :
    Keeps F a s) :
    Keeps F a (leaderProposal src candidate s) := by
  delta leaderProposal
  refine keeps_ite (fun _ => hs) (fun _ => ?_)
  refine keeps_ite (fun _ => ?_) (fun _ => keeps_ite (fun _ => keeps_sendMap (Piece.sub hF (by decide +kernel)) (keeps_setFab (Piece.sub hF
      (by decide +kernel)) hs)) (fun _ => hs))
  refine keeps_ite (fun _ => hs) (fun _ => ?_)
  split
  · exact keeps_ite (fun _ => keeps_send (Piece.sub hF (by decide +kernel)) hs) (fun _ => keeps_send (Piece.sub hF (by decide +kernel))
        (keeps_setFab (Piece.sub hF (by decide +kernel)) hs))
  · exact keeps_send (Piece.sub hF (by decide +kernel)) (keeps_setFab (Piece.sub hF (by decide +kernel)) hs)

theorem keeps_isolateTimeout {F : List Piece} {a s : State} (hF : [.ses, .tier, .gore, .attn, .pwr, .fab, .pool, .TIER_OBJ, .RING_STS, .RING_CNT,
    .PWR_DROGUE, .PWR_CNT, .POOL_OBJ, .POOL_CNT, .GORE_TILE_CNT, .GORE_PANEL, .GORE_CTX, .GORE_CTX_CNT, .GORE_CNT, .CTL_READY, .CTL_PM] ⊆ F) (hs
        : Keeps F a s) :
    Keeps F a (isolateTimeout s) := by
  delta isolateTimeout
  extract_lets +onlyGivenNames -merge -lift -underBinder v1 v2
  clear_value v1 v2
  exact keeps_ite (fun _ => hs) (fun _ => keeps_ite (fun _ => keeps_isolate (Piece.sub hF (by decide +kernel)) hs) (fun _ => hs))

theorem keeps_candidacy {F : List Piece} {a s : State} (hF : [.hti, .mbx, .ses, .tier, .gore, .attn, .fab, .fleet, .dec, .pool, .ring, .TXT_SLOT,
    .TIER_RSV, .TIER_OBJ, .TIER_CNT, .SHP_CTX_CNT, .SEC_CNT, .RING_STS, .RING_PORT, .RING_PORT_CNT, .RING_MAP, .RING_LED, .RING_INHERIT,
        .RING_EVAC, .RING_CNT, .RING_BYP, .POOL_REGION, .POOL_OBJ, .POOL_LEND, .POOL_CNT, .MBX_SUM, .MBX_CNT, .HTI_W_QFAULT, .HTI_W_MBSTS,
            .HTI_W_EVT, .HTI_CNT, .GORE_TILE_CNT, .GORE_SHAPE, .GORE_CTX, .GORE_CTX_CNT, .GORE_ATTN_CNT, .DEC_GRAM, .DEC_GAUGE, .CTL_SES,
                .CTL_SES_CNT, .CTL_READY] ⊆ F) (hs : Keeps F a s) :
    Keeps F a (candidacy s) := by
  delta candidacy
  extract_lets +onlyGivenNames -merge -lift -underBinder v1 v2
  clear_value v1 v2
  exact keeps_ite (fun _ => keeps_checkChange (Piece.sub hF (by decide +kernel)) (keeps_startChange (Piece.sub hF (by decide +kernel)) hs)) (fun
      _ => hs)

theorem keeps_execLeaderCandidacyTimeout {F : List Piece} {a : State} {dt : ℕ} {s : State} (hF : [.hti, .mbx, .ses, .tier, .gore, .attn, .fab,
    .fleet, .dec, .pool, .ring, .TXT_SLOT, .TIER_STALL, .TIER_RSV, .TIER_OBJ, .TIER_CNT, .SHP_CTX_CNT, .SEC_CNT, .RING_STS, .RING_PORT,
        .RING_PORT_CNT, .RING_MAP, .RING_LED, .RING_INHERIT, .RING_EVAC, .RING_CNT, .RING_BYP, .PWR_CNT, .POOL_REGION, .POOL_OBJ, .POOL_LEND,
            .POOL_CNT, .MTR_LIVE, .MBX_SUM, .MBX_CNT, .HTI_W_QFAULT, .HTI_W_MBSTS, .HTI_W_EVT, .HTI_TIME, .HTI_CNT, .GORE_TILE_CNT, .GORE_SHAPE,
                .GORE_CTX, .GORE_CTX_CNT, .GORE_CLASS, .GORE_ATTN_CNT, .DEC_GRAM, .DEC_GAUGE, .CTL_SES, .CTL_SES_CNT, .CTL_RT, .CTL_RST_CNT,
                    .CTL_READY, .CTL_PIN_CNT] ⊆ F) (hs : Keeps F a s) :
    KeepsO F a (execLeaderCandidacyTimeout dt s) := by
  delta execLeaderCandidacyTimeout
  exact KeepsO.mk (keeps_candidacy (Piece.sub hF (by decide +kernel)) (keeps_pass (Piece.sub hF (by decide +kernel)) hs))

theorem keeps_execExpelledReceived {F : List Piece} {a s : State} (hF : [.hti, .mbx, .ses, .tier, .gore, .attn, .pwr, .fab, .dec, .pool, .ring,
    .TXT_SLOT, .TIER_RSV, .TIER_OBJ, .TIER_CNT, .SHP_CTX_CNT, .SEC_CNT, .RING_STS, .RING_PORT, .RING_PORT_CNT, .RING_MAP, .RING_LED,
        .RING_INHERIT, .RING_EVAC, .RING_CNT, .RING_BYP, .PWR_DROGUE, .PWR_CNT, .POOL_OBJ, .POOL_CNT, .MBX_SUM, .MBX_CNT, .HTI_W_QFAULT,
            .HTI_W_MBSTS, .HTI_W_EVT, .HTI_CNT, .GORE_TILE_CNT, .GORE_SHAPE, .GORE_PANEL, .GORE_CTX, .GORE_CTX_CNT, .GORE_CNT, .GORE_ATTN_CNT,
                .DEC_GRAM, .DEC_GAUGE, .CTL_SES, .CTL_READY, .CTL_PM] ⊆ F) (hs : Keeps F a s) :
    KeepsO F a (execExpelledReceived s) := by
  delta execExpelledReceived
  exact KeepsO.mk (keeps_expelled (Piece.sub hF (by decide +kernel)) hs)

theorem keeps_closingTimeout {F : List Piece} {a s : State} (hF : [.hti, .mbx, .fab, .ring, .SHP_CTX_CNT, .SEC_CNT, .RING_STS, .RING_PORT,
    .RING_PORT_CNT, .RING_MAP, .RING_LED, .RING_INHERIT, .RING_EVAC, .RING_CNT, .RING_BYP, .MBX_SUM, .MBX_CNT, .HTI_W_QFAULT, .HTI_W_MBSTS,
        .HTI_W_EVT, .HTI_CNT, .CTL_SES, .CTL_READY] ⊆ F) (hs : Keeps F a s) :
    Keeps F a (closingTimeout s) := by
  delta closingTimeout
  split
  · split
    · exact keeps_ite (fun _ => keeps_evacFinish (Piece.sub hF (by decide +kernel)) hs) (fun _ => hs)
    · exact hs
  · exact hs

theorem keeps_memberLoss {F : List Piece} {a : State} {m : ℕ} {s : State} (hF : [.hti, .mbx, .ses, .tier, .gore, .attn, .fab, .fleet, .dec,
    .pool, .ring, .TXT_SLOT, .TIER_RSV, .TIER_OBJ, .TIER_CNT, .SHP_CTX_CNT, .SEC_CNT, .RING_STS, .RING_PORT, .RING_PORT_CNT, .RING_MAP,
        .RING_LED, .RING_INHERIT, .RING_EVAC, .RING_CNT, .RING_BYP, .POOL_REGION, .POOL_OBJ, .POOL_LEND, .POOL_CNT, .MBX_SUM, .MBX_CNT,
            .HTI_W_QFAULT, .HTI_W_MBSTS, .HTI_W_EVT, .HTI_CNT, .GORE_TILE_CNT, .GORE_SHAPE, .GORE_CTX, .GORE_CTX_CNT, .GORE_ATTN_CNT, .DEC_GRAM,
                .DEC_GAUGE, .CTL_SES, .CTL_SES_CNT, .CTL_READY] ⊆ F) (hs : Keeps F a s) :
    Keeps F a (memberLoss m s) := by
  delta memberLoss
  exact keeps_ite (fun _ => keeps_askChange (Piece.sub hF (by decide +kernel)) hs) (fun _ => hs)

theorem keeps_execMemberLossTimeout {F : List Piece} {a : State} {dt member : ℕ} {s : State} (hF : [.hti, .mbx, .ses, .tier, .gore, .attn, .fab,
    .fleet, .dec, .pool, .ring, .TXT_SLOT, .TIER_STALL, .TIER_RSV, .TIER_OBJ, .TIER_CNT, .SHP_CTX_CNT, .SEC_CNT, .RING_STS, .RING_PORT,
        .RING_PORT_CNT, .RING_MAP, .RING_LED, .RING_INHERIT, .RING_EVAC, .RING_CNT, .RING_BYP, .PWR_CNT, .POOL_REGION, .POOL_OBJ, .POOL_LEND,
            .POOL_CNT, .MTR_LIVE, .MBX_SUM, .MBX_CNT, .HTI_W_QFAULT, .HTI_W_MBSTS, .HTI_W_EVT, .HTI_TIME, .HTI_CNT, .GORE_TILE_CNT, .GORE_SHAPE,
                .GORE_CTX, .GORE_CTX_CNT, .GORE_CLASS, .GORE_ATTN_CNT, .DEC_GRAM, .DEC_GAUGE, .CTL_SES, .CTL_SES_CNT, .CTL_RT, .CTL_RST_CNT,
                    .CTL_READY, .CTL_PIN_CNT] ⊆ F) (hs : Keeps F a s) :
    KeepsO F a (execMemberLossTimeout dt member s) := by
  delta execMemberLossTimeout
  exact KeepsO.mk (keeps_memberLoss (Piece.sub hF (by decide +kernel)) (keeps_pass (Piece.sub hF (by decide +kernel)) hs))

theorem keeps_execIsolateTimeout {F : List Piece} {a : State} {dt : ℕ} {s : State} (hF : [.ses, .tier, .gore, .attn, .pwr, .fab, .fleet, .pool,
    .TIER_STALL, .TIER_OBJ, .SHP_CTX_CNT, .RING_STS, .RING_PORT_CNT, .RING_CNT, .PWR_DROGUE, .PWR_CNT, .POOL_OBJ, .POOL_CNT, .MTR_LIVE,
        .HTI_TIME, .HTI_CNT, .GORE_TILE_CNT, .GORE_PANEL, .GORE_CTX, .GORE_CTX_CNT, .GORE_CNT, .GORE_CLASS, .CTL_RT, .CTL_RST_CNT, .CTL_READY,
            .CTL_PM, .CTL_PIN_CNT] ⊆ F) (hs : Keeps F a s) :
    KeepsO F a (execIsolateTimeout dt s) := by
  delta execIsolateTimeout
  exact KeepsO.mk (keeps_isolateTimeout (Piece.sub hF (by decide +kernel)) (keeps_pass (Piece.sub hF (by decide +kernel)) hs))

theorem keeps_mapForm {F : List Piece} {a s : State} (hF : [.hti, .mbx, .ses, .tier, .gore, .attn, .fab, .fleet, .dec, .pool, .ring, .TXT_SLOT,
    .TIER_RSV, .TIER_OBJ, .TIER_CNT, .SHP_CTX_CNT, .SEC_CNT, .RING_STS, .RING_PORT, .RING_PORT_CNT, .RING_MAP, .RING_LED, .RING_INHERIT,
        .RING_EVAC, .RING_CNT, .RING_BYP, .POOL_REGION, .POOL_OBJ, .POOL_LEND, .POOL_CNT, .MBX_SUM, .MBX_CNT, .HTI_W_QFAULT, .HTI_W_MBSTS,
            .HTI_W_EVT, .HTI_CNT, .GORE_TILE_CNT, .GORE_SHAPE, .GORE_CTX, .GORE_CTX_CNT, .GORE_ATTN_CNT, .DEC_GRAM, .DEC_GAUGE, .CTL_SES,
                .CTL_SES_CNT, .CTL_READY] ⊆ F) (hs : Keeps F a s) :
    Keeps F a (mapForm s) := by
  delta mapForm
  refine keeps_ite (fun _ => ?_) (fun _ => hs)
  extract_lets +onlyGivenNames -merge -lift -underBinder v1
  clear_value v1
  exact keeps_checkChange (Piece.sub hF (by decide +kernel)) (keeps_startChange (Piece.sub hF (by decide +kernel)) hs)

theorem keeps_execMapFormTimeout {F : List Piece} {a : State} {dt : ℕ} {s : State} (hF : [.hti, .mbx, .ses, .tier, .gore, .attn, .fab, .fleet,
    .dec, .pool, .ring, .TXT_SLOT, .TIER_STALL, .TIER_RSV, .TIER_OBJ, .TIER_CNT, .SHP_CTX_CNT, .SEC_CNT, .RING_STS, .RING_PORT, .RING_PORT_CNT,
        .RING_MAP, .RING_LED, .RING_INHERIT, .RING_EVAC, .RING_CNT, .RING_BYP, .PWR_CNT, .POOL_REGION, .POOL_OBJ, .POOL_LEND, .POOL_CNT,
            .MTR_LIVE, .MBX_SUM, .MBX_CNT, .HTI_W_QFAULT, .HTI_W_MBSTS, .HTI_W_EVT, .HTI_TIME, .HTI_CNT, .GORE_TILE_CNT, .GORE_SHAPE, .GORE_CTX,
                .GORE_CTX_CNT, .GORE_CLASS, .GORE_ATTN_CNT, .DEC_GRAM, .DEC_GAUGE, .CTL_SES, .CTL_SES_CNT, .CTL_RT, .CTL_RST_CNT, .CTL_READY,
                    .CTL_PIN_CNT] ⊆ F) (hs : Keeps F a s) :
    KeepsO F a (execMapFormTimeout dt s) := by
  delta execMapFormTimeout
  exact KeepsO.mk (keeps_mapForm (Piece.sub hF (by decide +kernel)) (keeps_pass (Piece.sub hF (by decide +kernel)) hs))

theorem keeps_changeAck {F : List Piece} {a : State} {src : ℕ} {s : State} (hF : [.hti, .mbx, .ses, .tier, .gore, .attn, .fab, .fleet, .dec,
    .pool, .ring, .TXT_SLOT, .TIER_RSV, .TIER_OBJ, .TIER_CNT, .SHP_CTX_CNT, .SEC_CNT, .RING_STS, .RING_PORT, .RING_PORT_CNT, .RING_MAP,
        .RING_LED, .RING_INHERIT, .RING_EVAC, .RING_CNT, .RING_BYP, .POOL_REGION, .POOL_OBJ, .POOL_LEND, .POOL_CNT, .MBX_SUM, .MBX_CNT,
            .HTI_W_QFAULT, .HTI_W_MBSTS, .HTI_W_EVT, .HTI_CNT, .GORE_TILE_CNT, .GORE_SHAPE, .GORE_CTX, .GORE_CTX_CNT, .GORE_ATTN_CNT, .DEC_GRAM,
                .DEC_GAUGE, .CTL_SES, .CTL_SES_CNT, .CTL_READY] ⊆ F) (hs : Keeps F a s) :
    Keeps F a (changeAck src s) := by
  delta changeAck
  split
  · exact hs
  · exact keeps_ite (fun _ => hs) (fun _ => keeps_checkChange (Piece.sub hF (by decide +kernel)) (keeps_setFab (Piece.sub hF (by decide +kernel)) hs))

theorem keeps_execMapChangeAckReceived {F : List Piece} {a : State} {src : ℕ} {s : State} (hF : [.hti, .mbx, .ses, .tier, .gore, .attn, .fab,
    .fleet, .dec, .pool, .ring, .TXT_SLOT, .TIER_RSV, .TIER_OBJ, .TIER_CNT, .SHP_CTX_CNT, .SEC_CNT, .RING_STS, .RING_PORT, .RING_PORT_CNT,
        .RING_MAP, .RING_LED, .RING_INHERIT, .RING_EVAC, .RING_CNT, .RING_BYP, .POOL_REGION, .POOL_OBJ, .POOL_LEND, .POOL_CNT, .MBX_SUM,
            .MBX_CNT, .HTI_W_QFAULT, .HTI_W_MBSTS, .HTI_W_EVT, .HTI_CNT, .GORE_TILE_CNT, .GORE_SHAPE, .GORE_CTX, .GORE_CTX_CNT, .GORE_ATTN_CNT,
                .DEC_GRAM, .DEC_GAUGE, .CTL_SES, .CTL_SES_CNT, .CTL_READY] ⊆ F) (hs : Keeps F a s) :
    KeepsO F a (execMapChangeAckReceived src s) := by
  delta execMapChangeAckReceived
  exact KeepsO.mk (keeps_changeAck (Piece.sub hF (by decide +kernel)) hs)

theorem keeps_execLeaderProposalReceived {F : List Piece} {a : State} {src : ℕ} {candidate : Bool} {s : State} (hF : [.fab, .ring, .RING_CNT] ⊆
    F) (hs : Keeps F a s) :
    KeepsO F a (execLeaderProposalReceived src candidate s) := by
  delta execLeaderProposalReceived
  exact KeepsO.mk (keeps_leaderProposal (Piece.sub hF (by decide +kernel)) hs)

theorem keeps_mapBeat {F : List Piece} {a : State} {src epoch : ℕ} {links : List (ℕ × ℕ)} {s : State} (hF : [.fab, .ring, .RING_STS, .RING_MAP,
    .RING_CNT] ⊆ F) (hs : Keeps F a s) :
    Keeps F a (mapBeat src epoch links s) := by
  delta mapBeat
  refine keeps_ite (fun _ => hs) (fun _ => ?_)
  extract_lets +onlyGivenNames -merge -lift -underBinder v1
  clear_value v1
  extract_lets +onlyGivenNames -merge -lift -underBinder s2
  have h3 : Keeps F a s2 := by
    unfold s2
    exact keeps_ite (fun _ => keeps_setFab (Piece.sub hF (by decide +kernel)) hs) (fun _ => hs)
  clear_value s2
  extract_lets +onlyGivenNames -merge -lift -underBinder s4
  have h5 : Keeps F a s4 := by
    unfold s4
    exact keeps_showMember (Piece.sub hF (by decide +kernel)) h3
  clear_value s4
  exact keeps_ite (fun _ => keeps_sendMap (Piece.sub hF (by decide +kernel)) h5) (fun _ => keeps_ite (fun _ => keeps_reroute (Piece.sub hF
      (by decide +kernel)) (keeps_foldl (fun s6 x7 h8 => keeps_ite (fun _ => keeps_wr h8 ⟨rfl, hF (by decide +kernel)⟩) (fun _ => h8)) h5)) (fun
          _ => h5))

theorem keeps_execMapBeatReceived {F : List Piece} {a : State} {src epoch : ℕ} {links : List (ℕ × ℕ)} {s : State} (hF : [.fab, .ring, .RING_STS,
    .RING_MAP, .RING_CNT] ⊆ F) (hs : Keeps F a s) :
    KeepsO F a (execMapBeatReceived src epoch links s) := by
  delta execMapBeatReceived
  exact KeepsO.mk (keeps_mapBeat (Piece.sub hF (by decide +kernel)) hs)

theorem keeps_beatPeriod {F : List Piece} {a s : State} (hF : [.hti, .mbx, .ses, .tier, .gore, .attn, .fab, .fleet, .dec, .pool, .ring,
    .TXT_SLOT, .TIER_RSV, .TIER_OBJ, .TIER_CNT, .SHP_CTX_CNT, .SEC_CNT, .RING_STS, .RING_PORT, .RING_PORT_CNT, .RING_MAP, .RING_LED,
        .RING_INHERIT, .RING_EVAC, .RING_CNT, .RING_BYP, .POOL_REGION, .POOL_OBJ, .POOL_LEND, .POOL_CNT, .MBX_SUM, .MBX_CNT, .HTI_W_QFAULT,
            .HTI_W_MBSTS, .HTI_W_EVT, .HTI_CNT, .GORE_TILE_CNT, .GORE_SHAPE, .GORE_CTX, .GORE_CTX_CNT, .GORE_ATTN_CNT, .DEC_GRAM, .DEC_GAUGE,
                .CTL_SES, .CTL_SES_CNT, .CTL_READY] ⊆ F) (hs : Keeps F a s) :
    Keeps F a (beatPeriod s) := by
  delta beatPeriod
  refine keeps_ite (fun _ => hs) (fun _ => ?_)
  extract_lets +onlyGivenNames -merge -lift -underBinder s1
  have h2 : Keeps F a s1 := by
    unfold s1
    exact keeps_wr hs ⟨rfl, hF (by decide +kernel)⟩
  clear_value s1
  extract_lets +onlyGivenNames -merge -lift -underBinder v3
  clear_value v3
  extract_lets +onlyGivenNames -merge -lift -underBinder s4
  have h5 : Keeps F a s4 := by
    unfold s4
    exact keeps_ite (fun _ => keeps_foldl (fun s6 x7 h8 => keeps_send (Piece.sub hF (by decide +kernel)) h8) h2) (fun _ => h2)
  clear_value s4
  extract_lets +onlyGivenNames -merge -lift -underBinder s9
  have h10 : Keeps F a s9 := by
    unfold s9
    exact keeps_ite (fun _ => h5) (fun _ => keeps_sendBeat (Piece.sub hF (by decide +kernel)) h5)
  clear_value s9
  split
  · exact keeps_checkChange (Piece.sub hF (by decide +kernel)) (keeps_sendChange (Piece.sub hF (by decide +kernel)) h10)
  · exact h10

theorem keeps_execMapBeatPeriod {F : List Piece} {a : State} {dt : ℕ} {s : State} (hF : [.hti, .mbx, .ses, .tier, .gore, .attn, .fab, .fleet,
    .dec, .pool, .ring, .TXT_SLOT, .TIER_STALL, .TIER_RSV, .TIER_OBJ, .TIER_CNT, .SHP_CTX_CNT, .SEC_CNT, .RING_STS, .RING_PORT, .RING_PORT_CNT,
        .RING_MAP, .RING_LED, .RING_INHERIT, .RING_EVAC, .RING_CNT, .RING_BYP, .PWR_CNT, .POOL_REGION, .POOL_OBJ, .POOL_LEND, .POOL_CNT,
            .MTR_LIVE, .MBX_SUM, .MBX_CNT, .HTI_W_QFAULT, .HTI_W_MBSTS, .HTI_W_EVT, .HTI_TIME, .HTI_CNT, .GORE_TILE_CNT, .GORE_SHAPE, .GORE_CTX,
                .GORE_CTX_CNT, .GORE_CLASS, .GORE_ATTN_CNT, .DEC_GRAM, .DEC_GAUGE, .CTL_SES, .CTL_SES_CNT, .CTL_RT, .CTL_RST_CNT, .CTL_READY,
                    .CTL_PIN_CNT] ⊆ F) (hs : Keeps F a s) :
    KeepsO F a (execMapBeatPeriod dt s) := by
  delta execMapBeatPeriod
  exact KeepsO.mk (keeps_beatPeriod (Piece.sub hF (by decide +kernel)) (keeps_pass (Piece.sub hF (by decide +kernel)) hs))

theorem keeps_execBypassOpeningTimeout {F : List Piece} {a : State} {dt pair : ℕ} {s : State} (hF : [.hti, .mbx, .fab, .fleet, .ring,
    .TIER_STALL, .SHP_CTX_CNT, .SEC_CNT, .RING_STS, .RING_PORT, .RING_PORT_CNT, .RING_MAP, .RING_LED, .RING_INHERIT, .RING_EVAC, .RING_CNT,
        .RING_BYP, .PWR_CNT, .MTR_LIVE, .MBX_SUM, .MBX_CNT, .HTI_W_QFAULT, .HTI_W_MBSTS, .HTI_W_EVT, .HTI_TIME, .HTI_CNT, .GORE_CTX_CNT,
            .GORE_CLASS, .CTL_SES, .CTL_RT, .CTL_RST_CNT, .CTL_READY, .CTL_PIN_CNT] ⊆ F) (hs : Keeps F a s) :
    KeepsO F a (execBypassOpeningTimeout dt pair s) := by
  delta execBypassOpeningTimeout
  refine KeepsO.mk ?_
  extract_lets +onlyGivenNames -merge -lift -underBinder s1
  have h2 : Keeps F a s1 := by
    unfold s1
    exact keeps_pass (Piece.sub hF (by decide +kernel)) hs
  clear_value s1
  exact keeps_closingTimeout (Piece.sub hF (by decide +kernel)) (keeps_ite (fun _ => keeps_openingTimeout (Piece.sub hF (by decide +kernel)) h2)
      (fun _ => h2))

/-! ### Evac -/

theorem keeps_startEvac {F : List Piece} {a s : State} {source : ℕ} {cmds : List ℕ} {spoolOnly : Bool} {limitS : ℕ} (hF : [.hti, .mbx, .ses,
    .tier, .gore, .attn, .pins, .fab, .fleet, .dec, .pool, .ring, .TXT_SLOT, .TIER_RSV, .TIER_OBJ, .TIER_CNT, .SHP_CTX_CNT, .SEC_CNT, .RING_STS,
        .RING_PORT, .RING_PORT_CNT, .RING_MAP, .RING_LED, .RING_INHERIT, .RING_EVAC, .RING_CNT, .RING_BYP, .POOL_REGION, .POOL_OBJ, .POOL_LEND,
            .POOL_CNT, .MBX_SUM, .MBX_CNT, .HTI_W_QFAULT, .HTI_W_MBSTS, .HTI_W_EVT, .HTI_CNT, .GORE_TILE_CNT, .GORE_SHAPE, .GORE_CTX,
                .GORE_CTX_CNT, .GORE_ATTN_CNT, .DEC_GRAM, .DEC_GAUGE, .CTL_SES, .CTL_SES_CNT, .CTL_READY] ⊆ F) (hs : Keeps F a s) :
    Keeps F a (State.startEvac s source cmds spoolOnly limitS) := by
  delta State.startEvac
  extract_lets +onlyGivenNames -merge -lift -underBinder v1 v2 v3
  clear_value v1 v2 v3
  extract_lets +onlyGivenNames -merge -lift -underBinder s4
  have h5 : Keeps F a s4 := by
    unfold s4
    exact keeps_showEvac (Piece.sub hF (by decide +kernel)) (keeps_wr (keeps_setFab (Piece.sub hF (by decide +kernel)) hs) ⟨rfl, hF
        (by decide +kernel)⟩)
  clear_value s4
  extract_lets +onlyGivenNames -merge -lift -underBinder v6
  clear_value v6
  extract_lets +onlyGivenNames -merge -lift -underBinder s7
  have h8 : Keeps F a s7 := by
    unfold s7
    exact Keeps.other h5 (hpins := .inr (hF (by decide +kernel)))
  clear_value s7
  extract_lets +onlyGivenNames -merge -lift -underBinder s9
  have h10 : Keeps F a s9 := by
    unfold s9
    exact keeps_mgmtEvent (Piece.sub hF (by decide +kernel)) (keeps_bump h8 ⟨rfl, hF (by decide +kernel)⟩)
  clear_value s9
  exact keeps_ite (fun _ => keeps_evacFinish (Piece.sub hF (by decide +kernel)) (keeps_updEvac (Piece.sub hF (by decide +kernel)) h10)) (fun _ =>
      keeps_ite (fun _ => keeps_askChange (Piece.sub hF (by decide +kernel)) h10) (fun _ => keeps_sendBeat (Piece.sub hF (by decide +kernel)) h10))

theorem keeps_evacuate {F : List Piece} {a : State} {c : Cmd} {s : State} (hF : [.hti, .mbx, .ses, .tier, .gore, .attn, .pins, .fab, .fleet,
    .dec, .pool, .ring, .TXT_SLOT, .TIER_RSV, .TIER_OBJ, .TIER_CNT, .SHP_CTX_CNT, .SEC_CNT, .RING_STS, .RING_PORT, .RING_PORT_CNT, .RING_MAP,
        .RING_LED, .RING_INHERIT, .RING_EVAC, .RING_CNT, .RING_BYP, .POOL_REGION, .POOL_OBJ, .POOL_LEND, .POOL_CNT, .MBX_SUM, .MBX_CNT,
            .HTI_W_QFAULT, .HTI_W_MBSTS, .HTI_W_EVT, .HTI_CNT, .GORE_TILE_CNT, .GORE_SHAPE, .GORE_CTX, .GORE_CTX_CNT, .GORE_ATTN_CNT, .DEC_GRAM,
                .DEC_GAUGE, .CTL_SES, .CTL_SES_CNT, .CTL_READY] ⊆ F) (hs : Keeps F a s) :
    Keeps F a (evacuate c s) := by
  delta evacuate
  split
  · exact keeps_updEvac (Piece.sub hF (by decide +kernel)) hs
  · extract_lets +onlyGivenNames -merge -lift -underBinder v1
    clear_value v1
    exact keeps_ite (fun _ => keeps_finish (Piece.sub hF (by decide +kernel)) hs) (fun _ => keeps_startEvac (Piece.sub hF (by decide +kernel)) hs)

theorem keeps_askLeft {F : List Piece} {a s : State} (hF : [.hti, .mbx, .ses, .tier, .gore, .attn, .fab, .fleet, .dec, .pool, .ring, .TXT_SLOT,
    .TIER_RSV, .TIER_OBJ, .TIER_CNT, .SHP_CTX_CNT, .SEC_CNT, .RING_STS, .RING_PORT, .RING_PORT_CNT, .RING_MAP, .RING_LED, .RING_INHERIT,
        .RING_EVAC, .RING_CNT, .RING_BYP, .POOL_REGION, .POOL_OBJ, .POOL_LEND, .POOL_CNT, .MBX_SUM, .MBX_CNT, .HTI_W_QFAULT, .HTI_W_MBSTS,
            .HTI_W_EVT, .HTI_CNT, .GORE_TILE_CNT, .GORE_SHAPE, .GORE_CTX, .GORE_CTX_CNT, .GORE_ATTN_CNT, .DEC_GRAM, .DEC_GAUGE, .CTL_SES,
                .CTL_SES_CNT, .CTL_READY] ⊆ F) (hs : Keeps F a s) :
    Keeps F a (State.askLeft s) := by
  delta State.askLeft
  extract_lets +onlyGivenNames -merge -lift -underBinder s1
  have h2 : Keeps F a s1 := by
    unfold s1
    exact keeps_showEvac (Piece.sub hF (by decide +kernel)) (keeps_updEvac (Piece.sub hF (by decide +kernel)) hs)
  clear_value s1
  exact keeps_ite (fun _ => keeps_askChange (Piece.sub hF (by decide +kernel)) h2) (fun _ => keeps_sendBeat (Piece.sub hF (by decide +kernel)) h2)

theorem keeps_evacLimit {F : List Piece} {a s : State} (hF : [.hti, .mbx, .ses, .tier, .gore, .attn, .fab, .fleet, .dec, .pool, .ring, .TXT_SLOT,
    .TIER_RSV, .TIER_OBJ, .TIER_CNT, .SHP_CTX_CNT, .SEC_CNT, .RING_STS, .RING_PORT, .RING_PORT_CNT, .RING_MAP, .RING_LED, .RING_INHERIT,
        .RING_EVAC, .RING_CNT, .RING_BYP, .POOL_REGION, .POOL_OBJ, .POOL_LEND, .POOL_CNT, .MBX_SUM, .MBX_CNT, .HTI_W_QFAULT, .HTI_W_MBSTS,
            .HTI_W_EVT, .HTI_CNT, .GORE_TILE_CNT, .GORE_SHAPE, .GORE_CTX, .GORE_CTX_CNT, .GORE_ATTN_CNT, .DEC_GRAM, .DEC_GAUGE, .CTL_SES,
                .CTL_SES_CNT, .CTL_READY] ⊆ F) (hs : Keeps F a s) :
    Keeps F a (evacLimit s) := by
  delta evacLimit
  split
  · refine keeps_ite (fun _ => ?_) (fun _ => hs)
    extract_lets +onlyGivenNames -merge -lift -underBinder v1 v2
    clear_value v1 v2
    extract_lets +onlyGivenNames -merge -lift -underBinder s3
    have h4 : Keeps F a s3 := by
      unfold s3
      exact keeps_setPool (Piece.sub hF (by decide +kernel)) hs
    clear_value s3
    extract_lets +onlyGivenNames -merge -lift -underBinder s5
    have h6 : Keeps F a s5 := by
      unfold s5
      exact keeps_foldl (fun s7 x8 h9 => keeps_zeroExtent (Piece.sub hF (by decide +kernel)) h9) h4
    clear_value s5
    exact keeps_askLeft (Piece.sub hF (by decide +kernel)) (keeps_refreshLend (Piece.sub hF (by decide +kernel)) (keeps_bump h6 ⟨rfl, hF
        (by decide +kernel)⟩))
  · exact hs

theorem keeps_transfersDone {F : List Piece} {a s : State} (hF : [.hti, .mbx, .ses, .tier, .gore, .attn, .fab, .fleet, .dec, .pool, .ring,
    .TXT_SLOT, .TIER_RSV, .TIER_OBJ, .TIER_CNT, .SHP_CTX_CNT, .SEC_CNT, .RING_STS, .RING_PORT, .RING_PORT_CNT, .RING_MAP, .RING_LED,
        .RING_INHERIT, .RING_EVAC, .RING_CNT, .RING_BYP, .POOL_REGION, .POOL_OBJ, .POOL_LEND, .POOL_CNT, .MBX_SUM, .MBX_CNT, .HTI_W_QFAULT,
            .HTI_W_MBSTS, .HTI_W_EVT, .HTI_CNT, .GORE_TILE_CNT, .GORE_SHAPE, .GORE_CTX, .GORE_CTX_CNT, .GORE_ATTN_CNT, .DEC_GRAM, .DEC_GAUGE,
                .CTL_SES, .CTL_SES_CNT, .CTL_READY] ⊆ F) (hs : Keeps F a s) :
    Keeps F a (transfersDone s) := by
  delta transfersDone
  split
  · exact keeps_ite (fun _ => keeps_askLeft (Piece.sub hF (by decide +kernel)) hs) (fun _ => hs)
  · exact hs

theorem keeps_execEvacuationTransfersDone {F : List Piece} {a s : State} (hF : [.hti, .mbx, .ses, .tier, .gore, .attn, .fab, .fleet, .dec, .pool,
    .ring, .TXT_SLOT, .TIER_RSV, .TIER_OBJ, .TIER_CNT, .SHP_CTX_CNT, .SEC_CNT, .RING_STS, .RING_PORT, .RING_PORT_CNT, .RING_MAP, .RING_LED,
        .RING_INHERIT, .RING_EVAC, .RING_CNT, .RING_BYP, .POOL_REGION, .POOL_OBJ, .POOL_LEND, .POOL_CNT, .MBX_SUM, .MBX_CNT, .HTI_W_QFAULT,
            .HTI_W_MBSTS, .HTI_W_EVT, .HTI_CNT, .GORE_TILE_CNT, .GORE_SHAPE, .GORE_CTX, .GORE_CTX_CNT, .GORE_ATTN_CNT, .DEC_GRAM, .DEC_GAUGE,
                .CTL_SES, .CTL_SES_CNT, .CTL_READY] ⊆ F) (hs : Keeps F a s) :
    KeepsO F a (execEvacuationTransfersDone s) := by
  delta execEvacuationTransfersDone
  exact KeepsO.mk (keeps_transfersDone (Piece.sub hF (by decide +kernel)) hs)

theorem keeps_execEvacuationLimitExpiry {F : List Piece} {a : State} {dt : ℕ} {s : State} (hF : [.hti, .mbx, .ses, .tier, .gore, .attn, .fab,
    .fleet, .dec, .pool, .ring, .TXT_SLOT, .TIER_STALL, .TIER_RSV, .TIER_OBJ, .TIER_CNT, .SHP_CTX_CNT, .SEC_CNT, .RING_STS, .RING_PORT,
        .RING_PORT_CNT, .RING_MAP, .RING_LED, .RING_INHERIT, .RING_EVAC, .RING_CNT, .RING_BYP, .PWR_CNT, .POOL_REGION, .POOL_OBJ, .POOL_LEND,
            .POOL_CNT, .MTR_LIVE, .MBX_SUM, .MBX_CNT, .HTI_W_QFAULT, .HTI_W_MBSTS, .HTI_W_EVT, .HTI_TIME, .HTI_CNT, .GORE_TILE_CNT, .GORE_SHAPE,
                .GORE_CTX, .GORE_CTX_CNT, .GORE_CLASS, .GORE_ATTN_CNT, .DEC_GRAM, .DEC_GAUGE, .CTL_SES, .CTL_SES_CNT, .CTL_RT, .CTL_RST_CNT,
                    .CTL_READY, .CTL_PIN_CNT] ⊆ F) (hs : Keeps F a s) :
    KeepsO F a (execEvacuationLimitExpiry dt s) := by
  delta execEvacuationLimitExpiry
  exact KeepsO.mk (keeps_evacLimit (Piece.sub hF (by decide +kernel)) (keeps_pass (Piece.sub hF (by decide +kernel)) hs))

theorem keeps_execEvacuate {F : List Piece} {a : State} {k : ℕ} {s : State} (hF : [.hti, .mbx, .ses, .tier, .gore, .attn, .pins, .fab, .fleet,
    .dec, .pool, .ring, .TXT_SLOT, .TIER_RSV, .TIER_OBJ, .TIER_CNT, .SHP_CTX_CNT, .SEC_CNT, .RING_STS, .RING_PORT, .RING_PORT_CNT, .RING_MAP,
        .RING_LED, .RING_INHERIT, .RING_EVAC, .RING_CNT, .RING_BYP, .POOL_REGION, .POOL_OBJ, .POOL_LEND, .POOL_CNT, .MBX_SUM, .MBX_CNT,
            .HTI_W_QFAULT, .HTI_W_MBSTS, .HTI_W_EVT, .HTI_CNT, .GORE_TILE_CNT, .GORE_SHAPE, .GORE_CTX, .GORE_CTX_CNT, .GORE_ATTN_CNT, .DEC_GRAM,
                .DEC_GAUGE, .CTL_SES, .CTL_SES_CNT, .CTL_READY] ⊆ F) (hs : Keeps F a s) :
    KeepsO F a (execEvacuate k s) := by
  delta execEvacuate
  exact KeepsO.mk (keeps_begin (Piece.sub hF (by decide +kernel)) hs (fun y1 y2 h3 => keeps_evacuate (Piece.sub hF (by decide +kernel)) h3))

end Sys2Proof.Machine
end

