-- ==== Sys2Proof/Laws/KeepsPower.lean ====
section
/-! SUPPORT. `Keeps` for the operations and meanings of Machine/: Pins, Power, Shaper, Text. Each lemma says what an operation may change, and
that it keeps the rest. -/

namespace Sys2Proof.Machine

set_option Elab.async false

/-! ### Pins -/

theorem keeps_execCtlPinCntClr {F : List Piece} {a : State} {value : ℕ} {s : State} (hF : [.CTL_PIN_CNT] ⊆ F) (hs : Keeps F a s) :
    KeepsO F a (execCtlPinCntClr value s) := by
  delta execCtlPinCntClr
  exact KeepsO.mk (keeps_hostWrite hs (fun y1 h2 => keeps_ite (fun _ => keeps_zeroAll h2 ⟨rfl, hF (by decide +kernel)⟩) (fun _ => h2)))

theorem keeps_hostLink {F : List Piece} {a : State} {p rate width : ℕ} {cxl : Bool} {s : State} (hF : [.pwr, .PWR_DROGUE, .PWR_CNT, .HTI_PORT] ⊆
    F) (hs : Keeps F a s) :
    Keeps F a (hostLink p rate width cxl s) := by
  delta hostLink
  extract_lets +onlyGivenNames -merge -lift -underBinder v1
  clear_value v1
  refine keeps_ite (fun _ => hs) (fun _ => ?_)
  refine keeps_ite (fun _ => keeps_wr (keeps_wr (keeps_wr (keeps_wr hs ⟨rfl, hF (by decide +kernel)⟩) ⟨rfl, hF (by decide +kernel)⟩) ⟨rfl, hF
      (by decide +kernel)⟩) ⟨rfl, hF (by decide +kernel)⟩) (fun _ => ?_)
  refine keeps_ite (fun _ => hs) (fun _ => ?_)
  extract_lets +onlyGivenNames -merge -lift -underBinder v2 v3 v4
  clear_value v2 v3 v4
  extract_lets +onlyGivenNames -merge -lift -underBinder s5
  have h6 : Keeps F a s5 := by
    unfold s5
    exact keeps_wr (keeps_wr (keeps_wr (keeps_wr hs ⟨rfl, hF (by decide +kernel)⟩) ⟨rfl, hF (by decide +kernel)⟩) ⟨rfl, hF (by decide +kernel)⟩)
        ⟨rfl, hF (by decide +kernel)⟩
  clear_value s5
  extract_lets +onlyGivenNames -merge -lift -underBinder s7
  have h8 : Keeps F a s7 := by
    unfold s7
    exact keeps_unadmit (Piece.sub hF (by decide +kernel)) h6
  clear_value s7
  exact keeps_ite (fun _ => keeps_askWake (Piece.sub hF (by decide +kernel)) h8) (fun _ => h8)

theorem keeps_setPins {F : List Piece} {a s : State} {p : Pins} (hF : [.pins] ⊆ F) (hs : Keeps F a s) :
    Keeps F a (State.setPins s p) := by
  delta State.setPins
  exact Keeps.other hs (hpins := .inr (hF (by decide +kernel)))

theorem keeps_poolDown {F : List Piece} {a s : State} {p : ℕ} (hF : [.hti, .mbx, .ses, .tier, .gore, .attn, .pwr, .fleet, .pool, .rcl, .ring,
    .TIER_OBJ, .TIER_DRV, .TIER_CNT, .SHP_CTX_CNT, .SEC_CNT, .RING_CNT, .RCL_IDX, .RCL_GAUGE, .RCL_CNT, .PWR_DROGUE, .PWR_CNT, .POOL_PORT,
        .POOL_OBJ, .POOL_LEND, .POOL_CNT, .MBX_SUM, .MBX_CNT, .HTI_W_QFAULT, .HTI_W_MBSTS, .HTI_W_FLT, .HTI_W_EVT, .HTI_CNT, .GORE_TILE,
            .GORE_TILE_CNT, .GORE_SHAPE, .GORE_PANEL, .GORE_CTX, .GORE_CTX_CNT, .GORE_CNT, .CTL_SES, .CTL_SES_CNT, .CTL_READY, .CTL_PM] ⊆ F) (hs
                : Keeps F a s) :
    Keeps F a (State.poolDown s p) := by
  delta State.poolDown
  refine keeps_ite (fun _ => hs) (fun _ => ?_)
  extract_lets +onlyGivenNames -merge -lift -underBinder s1
  have h2 : Keeps F a s1 := by
    unfold s1
    exact hs
  clear_value s1
  extract_lets +onlyGivenNames -merge -lift -underBinder s3
  have h4 : Keeps F a s3 := by
    unfold s3
    exact keeps_wrBit (keeps_wr (keeps_wr (keeps_wr hs ⟨rfl, hF (by decide +kernel)⟩) ⟨rfl, hF (by decide +kernel)⟩) ⟨rfl, hF
        (by decide +kernel)⟩) ⟨rfl, hF (by decide +kernel)⟩
  clear_value s3
  refine keeps_ite (fun _ => keeps_winch (Piece.sub hF (by decide +kernel)) (keeps_foldl (fun s5 x6 h7 => keeps_freeExtent (Piece.sub hF
      (by decide +kernel)) h7) h4)) (fun _ => ?_)
  extract_lets +onlyGivenNames -merge -lift -underBinder v8
  clear_value v8
  exact keeps_winch (Piece.sub hF (by decide +kernel)) (keeps_foldl (fun s9 x10 h11 => keeps_failObject (Piece.sub hF (by decide +kernel)) h11) h4)

theorem keeps_poolUp {F : List Piece} {a s : State} {p rate width : ℕ} (hF : [.pwr, .TIER_OBJ, .POOL_PORT, .CTL_READY, .CTL_PIN] ⊆ F) (hs : Keeps
    F a s) :
    Keeps F a (State.poolUp s p rate width) := by
  delta State.poolUp
  extract_lets +onlyGivenNames -merge -lift -underBinder v1
  clear_value v1
  extract_lets +onlyGivenNames -merge -lift -underBinder s2
  have h3 : Keeps F a s2 := by
    unfold s2
    exact keeps_wrBit (keeps_wr (keeps_wr (keeps_wr hs ⟨rfl, hF (by decide +kernel)⟩) ⟨rfl, hF (by decide +kernel)⟩) ⟨rfl, hF
        (by decide +kernel)⟩) ⟨rfl, hF (by decide +kernel)⟩
  clear_value s2
  extract_lets +onlyGivenNames -merge -lift -underBinder s4
  have h5 : Keeps F a s4 := by
    unfold s4
    exact keeps_unadmit (Piece.sub hF (by decide +kernel)) h3
  clear_value s4
  refine keeps_ite (fun _ => h5) (fun _ => ?_)
  extract_lets +onlyGivenNames -merge -lift -underBinder s6
  have h7 : Keeps F a s6 := by
    unfold s6
    exact keeps_wrBit h5 ⟨rfl, hF (by decide +kernel)⟩
  clear_value s6
  extract_lets +onlyGivenNames -merge -lift -underBinder v8
  clear_value v8
  exact keeps_refreshTierReady (Piece.sub hF (by decide +kernel)) (keeps_foldl (fun s9 x10 h11 => keeps_wr h11 ⟨rfl, hF (by decide +kernel)⟩) h7)

theorem keeps_poolLink {F : List Piece} {a : State} {p rate width : ℕ} {up : Bool} {s : State} (hF : [.hti, .mbx, .ses, .tier, .gore, .attn,
    .pwr, .fleet, .pool, .rcl, .ring, .TIER_OBJ, .TIER_DRV, .TIER_CNT, .SHP_CTX_CNT, .SEC_CNT, .RING_CNT, .RCL_IDX, .RCL_GAUGE, .RCL_CNT,
        .PWR_DROGUE, .PWR_CNT, .POOL_PORT, .POOL_OBJ, .POOL_LEND, .POOL_CNT, .MBX_SUM, .MBX_CNT, .HTI_W_QFAULT, .HTI_W_MBSTS, .HTI_W_FLT,
            .HTI_W_EVT, .HTI_CNT, .GORE_TILE, .GORE_TILE_CNT, .GORE_SHAPE, .GORE_PANEL, .GORE_CTX, .GORE_CTX_CNT, .GORE_CNT, .CTL_SES,
                .CTL_SES_CNT, .CTL_READY, .CTL_PM, .CTL_PIN] ⊆ F) (hs : Keeps F a s) :
    Keeps F a (poolLink p rate width up s) := by
  delta poolLink
  extract_lets +onlyGivenNames -merge -lift -underBinder v1 v2
  clear_value v1 v2
  exact keeps_ite (fun _ => hs) (fun _ => keeps_ite (fun _ => keeps_poolDown (Piece.sub hF (by decide +kernel)) hs) (fun _ => keeps_ite (fun _ =>
      hs) (fun _ => keeps_ite (fun _ => keeps_poolUp (Piece.sub hF (by decide +kernel)) hs) (fun _ => hs))))

theorem keeps_execPoolPortLinkChange {F : List Piece} {a : State} {port rate width : ℕ} {up : Bool} {s : State} (hF : [.hti, .mbx, .ses, .tier,
    .gore, .attn, .pwr, .fleet, .pool, .rcl, .ring, .TIER_OBJ, .TIER_DRV, .TIER_CNT, .SHP_CTX_CNT, .SEC_CNT, .RING_CNT, .RCL_IDX, .RCL_GAUGE,
        .RCL_CNT, .PWR_DROGUE, .PWR_CNT, .POOL_PORT, .POOL_OBJ, .POOL_LEND, .POOL_CNT, .MBX_SUM, .MBX_CNT, .HTI_W_QFAULT, .HTI_W_MBSTS,
            .HTI_W_FLT, .HTI_W_EVT, .HTI_CNT, .GORE_TILE, .GORE_TILE_CNT, .GORE_SHAPE, .GORE_PANEL, .GORE_CTX, .GORE_CTX_CNT, .GORE_CNT,
                .CTL_SES, .CTL_SES_CNT, .CTL_READY, .CTL_PM, .CTL_PIN] ⊆ F) (hs : Keeps F a s) :
    KeepsO F a (execPoolPortLinkChange port rate width up s) := by
  delta execPoolPortLinkChange
  exact KeepsO.mk (keeps_ite (fun _ => keeps_poolLink (Piece.sub hF (by decide +kernel)) hs) (fun _ => hs))

theorem keeps_blinkEnd {F : List Piece} {a s : State} (hF : [.pins, .RING_LED] ⊆ F) (hs : Keeps F a s) :
    Keeps F a (blinkEnd s) := by
  delta blinkEnd
  split
  · exact keeps_wr (keeps_setPins (Piece.sub hF (by decide +kernel)) hs) ⟨rfl, hF (by decide +kernel)⟩
  · exact hs

theorem keeps_execServiceLedBlinkEnd {F : List Piece} {a : State} {dt : ℕ} {s : State} (hF : [.pins, .fleet, .TIER_STALL, .SHP_CTX_CNT,
    .RING_PORT_CNT, .RING_LED, .PWR_CNT, .MTR_LIVE, .HTI_TIME, .HTI_CNT, .GORE_CTX_CNT, .GORE_CLASS, .CTL_RT, .CTL_RST_CNT, .CTL_PIN_CNT] ⊆ F)
        (hs : Keeps F a s) :
    KeepsO F a (execServiceLedBlinkEnd dt s) := by
  delta execServiceLedBlinkEnd
  exact KeepsO.mk (keeps_blinkEnd (Piece.sub hF (by decide +kernel)) (keeps_pass (Piece.sub hF (by decide +kernel)) hs))

theorem keeps_tapOp {F : List Piece} {a : State} {op : TapOp} {s : State} (hs : Keeps F a s) :
    Keeps F a (tapOp op s) := by
  delta tapOp
  split
  · exact keeps_emit hs
  · exact keeps_emit hs
  · exact keeps_ite (fun _ => keeps_emit hs) (fun _ => keeps_emit (keeps_tickFree hs))

theorem keeps_execI3cEntdaa {F : List Piece} {a : State} {addr : ℕ} {s : State} (hF : [.pins] ⊆ F) (hs : Keeps F a s) :
    KeepsO F a (execI3cEntdaa addr s) := by
  delta execI3cEntdaa
  refine KeepsO.mk ?_
  extract_lets +onlyGivenNames -merge -lift -underBinder v1
  clear_value v1
  exact keeps_ite (fun _ => keeps_setPins (Piece.sub hF (by decide +kernel)) hs) (fun _ => hs)

theorem keeps_flashRelease {F : List Piece} {a : State} {j : ℕ} {s : State} (hF : [.CTL_PIN] ⊆ F) (hs : Keeps F a s) :
    Keeps F a (flashRelease j s) := by
  delta flashRelease
  exact keeps_ite (fun _ => keeps_wrBit hs ⟨rfl, hF (by decide +kernel)⟩) (fun _ => hs)

theorem keeps_execFlashPerstRelease {F : List Piece} {a : State} {dt port : ℕ} {s : State} (hF : [.fleet, .TIER_STALL, .SHP_CTX_CNT,
    .RING_PORT_CNT, .PWR_CNT, .MTR_LIVE, .HTI_TIME, .HTI_CNT, .GORE_CTX_CNT, .GORE_CLASS, .CTL_RT, .CTL_RST_CNT, .CTL_PIN, .CTL_PIN_CNT] ⊆ F) (hs
        : Keeps F a s) :
    KeepsO F a (execFlashPerstRelease dt port s) := by
  delta execFlashPerstRelease
  refine KeepsO.mk ?_
  extract_lets +onlyGivenNames -merge -lift -underBinder s1
  have h2 : Keeps F a s1 := by
    unfold s1
    exact keeps_pass (Piece.sub hF (by decide +kernel)) hs
  clear_value s1
  exact keeps_ite (fun _ => keeps_flashRelease (Piece.sub hF (by decide +kernel)) h2) (fun _ => h2)

theorem keeps_ldBind {F : List Piece} {a : State} {p ld : ℕ} {bind : Bool} {s : State} (hF : [.hti, .tier, .pool, .ring, .SHP_CTX_CNT, .SEC_CNT,
    .POOL_PORT, .POOL_LEND, .HTI_W_QFAULT, .HTI_CNT] ⊆ F) (hs : Keeps F a s) :
    Keeps F a (ldBind p ld bind s) := by
  delta ldBind
  refine keeps_ite (fun _ => ?_) (fun _ => hs)
  extract_lets +onlyGivenNames -merge -lift -underBinder s1
  have h2 : Keeps F a s1 := by
    unfold s1
    exact keeps_wrBit hs ⟨rfl, hF (by decide +kernel)⟩
  clear_value s1
  exact keeps_ite (fun _ => h2) (fun _ => keeps_foldl (fun s3 x4 h5 => keeps_freeExtent (Piece.sub hF (by decide +kernel)) h5) h2)

theorem keeps_execLogicalDeviceBind {F : List Piece} {a : State} {port ld : ℕ} {bind : Bool} {s : State} (hF : [.hti, .tier, .pool, .ring,
    .SHP_CTX_CNT, .SEC_CNT, .POOL_PORT, .POOL_LEND, .HTI_W_QFAULT, .HTI_CNT] ⊆ F) (hs : Keeps F a s) :
    KeepsO F a (execLogicalDeviceBind port ld bind s) := by
  delta execLogicalDeviceBind
  exact KeepsO.mk (keeps_ite (fun _ => keeps_ldBind (Piece.sub hF (by decide +kernel)) hs) (fun _ => hs))

theorem keeps_driveDown {F : List Piece} {a s : State} {j : ℕ} (hF : [.pwr, .pins, .PWR_DROGUE, .CTL_PIN] ⊆ F) (hs : Keeps F a s) :
    Keeps F a (State.driveDown s j) := by
  delta State.driveDown
  extract_lets +onlyGivenNames -merge -lift -underBinder v1
  clear_value v1
  extract_lets +onlyGivenNames -merge -lift -underBinder s2
  have h3 : Keeps F a s2 := by
    unfold s2
    exact keeps_setPins (Piece.sub hF (by decide +kernel)) (keeps_wrBit hs ⟨rfl, hF (by decide +kernel)⟩)
  clear_value s2
  extract_lets +onlyGivenNames -merge -lift -underBinder v4
  clear_value v4
  extract_lets +onlyGivenNames -merge -lift -underBinder s5
  have h6 : Keeps F a s5 := by
    unfold s5
    exact keeps_setPwr (Piece.sub hF (by decide +kernel)) h3
  clear_value s5
  exact keeps_unadmit (Piece.sub hF (by decide +kernel)) (keeps_refreshDrogue (Piece.sub hF (by decide +kernel)) h6)

theorem keeps_flashRetry {F : List Piece} {a : State} {j : ℕ} {s : State} (hF : [.pwr, .pins, .PWR_DROGUE, .PWR_CNT, .CTL_PIN] ⊆ F) (hs : Keeps F
    a s) :
    Keeps F a (flashRetry j s) := by
  delta flashRetry
  extract_lets +onlyGivenNames -merge -lift -underBinder v1 v2
  clear_value v1 v2
  exact keeps_ite (fun _ => keeps_askWake (Piece.sub hF (by decide +kernel)) (keeps_driveDown (Piece.sub hF (by decide +kernel)) hs)) (fun _ => hs)

theorem keeps_flashPrsnt {F : List Piece} {a : State} {j : ℕ} {present : Bool} {s : State} (hF : [.hti, .mbx, .ses, .tier, .gore, .attn, .pwr,
    .pins, .fleet, .pool, .rcl, .ring, .TIER_OBJ, .TIER_DRV, .TIER_CNT, .SHP_CTX_CNT, .SEC_CNT, .RING_CNT, .RCL_IDX, .RCL_GAUGE, .RCL_CNT,
        .PWR_DROGUE, .PWR_CNT, .POOL_OBJ, .POOL_LEND, .POOL_CNT, .MBX_SUM, .MBX_CNT, .HTI_W_QFAULT, .HTI_W_MBSTS, .HTI_W_FLT, .HTI_W_EVT,
            .HTI_CNT, .GORE_TILE, .GORE_TILE_CNT, .GORE_SHAPE, .GORE_PANEL, .GORE_CTX, .GORE_CTX_CNT, .GORE_CNT, .CTL_SES, .CTL_SES_CNT,
                .CTL_READY, .CTL_PM, .CTL_PIN, .CTL_PIN_CNT] ⊆ F) (hs : Keeps F a s) :
    Keeps F a (flashPrsnt j present s) := by
  delta flashPrsnt
  refine keeps_ite (fun _ => hs) (fun _ => ?_)
  extract_lets +onlyGivenNames -merge -lift -underBinder s1
  have h2 : Keeps F a s1 := by
    unfold s1
    exact hs
  clear_value s1
  extract_lets +onlyGivenNames -merge -lift -underBinder s3
  have h4 : Keeps F a s3 := by
    unfold s3
    exact keeps_bump (keeps_wrBit hs ⟨rfl, hF (by decide +kernel)⟩) ⟨rfl, hF (by decide +kernel)⟩
  clear_value s3
  exact keeps_ite (fun _ => keeps_ite (fun _ => keeps_askWake (Piece.sub hF (by decide +kernel)) h4) (fun _ => h4)) (fun _ => keeps_winch
      (Piece.sub hF (by decide +kernel)) (keeps_foldl (fun s5 x6 h7 => keeps_failObject (Piece.sub hF (by decide +kernel)) h7) (keeps_driveDown
          (Piece.sub hF (by decide +kernel)) h4)))

theorem keeps_execSpiReqAssert {F : List Piece} {a s : State} (hF : [.CTL_PIN, .CTL_PIN_CNT] ⊆ F) (hs : Keeps F a s) :
    KeepsO F a (execSpiReqAssert s) := by
  delta execSpiReqAssert
  refine KeepsO.mk ?_
  refine keeps_ite (fun _ => ?_) (fun _ => hs)
  extract_lets +onlyGivenNames -merge -lift -underBinder s1
  have h2 : Keeps F a s1 := by
    unfold s1
    exact keeps_wr hs ⟨rfl, hF (by decide +kernel)⟩
  clear_value s1
  exact keeps_ite (fun _ => h2) (fun _ => keeps_grantSpi (Piece.sub hF (by decide +kernel)) h2)

theorem keeps_poolPerst {F : List Piece} {a : State} {p : ℕ} {asserted : Bool} {s : State} (hF : [.hti, .mbx, .ses, .tier, .gore, .attn, .pwr,
    .fleet, .pool, .rcl, .ring, .TIER_OBJ, .TIER_DRV, .TIER_CNT, .SHP_CTX_CNT, .SEC_CNT, .RING_CNT, .RCL_IDX, .RCL_GAUGE, .RCL_CNT, .PWR_DROGUE,
        .PWR_CNT, .POOL_PORT, .POOL_OBJ, .POOL_LEND, .POOL_CNT, .MBX_SUM, .MBX_CNT, .HTI_W_QFAULT, .HTI_W_MBSTS, .HTI_W_FLT, .HTI_W_EVT,
            .HTI_CNT, .GORE_TILE, .GORE_TILE_CNT, .GORE_SHAPE, .GORE_PANEL, .GORE_CTX, .GORE_CTX_CNT, .GORE_CNT, .CTL_SES, .CTL_SES_CNT,
                .CTL_READY, .CTL_PM, .CTL_PIN] ⊆ F) (hs : Keeps F a s) :
    Keeps F a (poolPerst p asserted s) := by
  delta poolPerst
  refine keeps_ite (fun _ => ?_) (fun _ => hs)
  extract_lets +onlyGivenNames -merge -lift -underBinder s1
  have h2 : Keeps F a s1 := by
    unfold s1
    exact keeps_wrBit hs ⟨rfl, hF (by decide +kernel)⟩
  clear_value s1
  exact keeps_ite (fun _ => keeps_poolDown (Piece.sub hF (by decide +kernel)) h2) (fun _ => h2)

theorem keeps_execPoolPerstNInput {F : List Piece} {a : State} {port : ℕ} {asserted : Bool} {s : State} (hF : [.hti, .mbx, .ses, .tier, .gore,
    .attn, .pwr, .fleet, .pool, .rcl, .ring, .TIER_OBJ, .TIER_DRV, .TIER_CNT, .SHP_CTX_CNT, .SEC_CNT, .RING_CNT, .RCL_IDX, .RCL_GAUGE, .RCL_CNT,
        .PWR_DROGUE, .PWR_CNT, .POOL_PORT, .POOL_OBJ, .POOL_LEND, .POOL_CNT, .MBX_SUM, .MBX_CNT, .HTI_W_QFAULT, .HTI_W_MBSTS, .HTI_W_FLT,
            .HTI_W_EVT, .HTI_CNT, .GORE_TILE, .GORE_TILE_CNT, .GORE_SHAPE, .GORE_PANEL, .GORE_CTX, .GORE_CTX_CNT, .GORE_CNT, .CTL_SES,
                .CTL_SES_CNT, .CTL_READY, .CTL_PM, .CTL_PIN] ⊆ F) (hs : Keeps F a s) :
    KeepsO F a (execPoolPerstNInput port asserted s) := by
  delta execPoolPerstNInput
  exact KeepsO.mk (keeps_ite (fun _ => keeps_poolPerst (Piece.sub hF (by decide +kernel)) hs) (fun _ => hs))

theorem keeps_execFlashPrsntChange {F : List Piece} {a : State} {dt port : ℕ} {present : Bool} {s : State} (hF : [.hti, .mbx, .ses, .tier, .gore,
    .attn, .pwr, .pins, .fleet, .pool, .rcl, .ring, .TIER_STALL, .TIER_OBJ, .TIER_DRV, .TIER_CNT, .SHP_CTX_CNT, .SEC_CNT, .RING_PORT_CNT,
        .RING_CNT, .RCL_IDX, .RCL_GAUGE, .RCL_CNT, .PWR_DROGUE, .PWR_CNT, .POOL_OBJ, .POOL_LEND, .POOL_CNT, .MTR_LIVE, .MBX_SUM, .MBX_CNT,
            .HTI_W_QFAULT, .HTI_W_MBSTS, .HTI_W_FLT, .HTI_W_EVT, .HTI_TIME, .HTI_CNT, .GORE_TILE, .GORE_TILE_CNT, .GORE_SHAPE, .GORE_PANEL,
                .GORE_CTX, .GORE_CTX_CNT, .GORE_CNT, .GORE_CLASS, .CTL_SES, .CTL_SES_CNT, .CTL_RT, .CTL_RST_CNT, .CTL_READY, .CTL_PM, .CTL_PIN,
                    .CTL_PIN_CNT] ⊆ F) (hs : Keeps F a s) :
    KeepsO F a (execFlashPrsntChange dt port present s) := by
  delta execFlashPrsntChange
  refine KeepsO.mk ?_
  extract_lets +onlyGivenNames -merge -lift -underBinder s1
  have h2 : Keeps F a s1 := by
    unfold s1
    exact keeps_pass (Piece.sub hF (by decide +kernel)) hs
  clear_value s1
  exact keeps_ite (fun _ => keeps_flashPrsnt (Piece.sub hF (by decide +kernel)) h2) (fun _ => h2)

theorem keeps_execFlashBringupRetry {F : List Piece} {a : State} {dt port : ℕ} {s : State} (hF : [.pwr, .pins, .fleet, .TIER_STALL, .SHP_CTX_CNT,
    .RING_PORT_CNT, .PWR_DROGUE, .PWR_CNT, .MTR_LIVE, .HTI_TIME, .HTI_CNT, .GORE_CTX_CNT, .GORE_CLASS, .CTL_RT, .CTL_RST_CNT, .CTL_PIN,
        .CTL_PIN_CNT] ⊆ F) (hs : Keeps F a s) :
    KeepsO F a (execFlashBringupRetry dt port s) := by
  delta execFlashBringupRetry
  refine KeepsO.mk ?_
  extract_lets +onlyGivenNames -merge -lift -underBinder s1
  have h2 : Keeps F a s1 := by
    unfold s1
    exact keeps_pass (Piece.sub hF (by decide +kernel)) hs
  clear_value s1
  exact keeps_ite (fun _ => keeps_flashRetry (Piece.sub hF (by decide +kernel)) h2) (fun _ => h2)

theorem keeps_execJtagTapOperation {F : List Piece} {a : State} {op : TapOp} {s : State} (hs : Keeps F a s) :
    KeepsO F a (execJtagTapOperation op s) := by
  delta execJtagTapOperation
  exact KeepsO.mk (keeps_ite (fun _ => keeps_tapOp hs) (fun _ => hs))

theorem keeps_execHostPortLinkChange {F : List Piece} {a : State} {port rate width : ℕ} {cxl : Bool} {s : State} (hF : [.pwr, .PWR_DROGUE,
    .PWR_CNT, .HTI_PORT] ⊆ F) (hs : Keeps F a s) :
    KeepsO F a (execHostPortLinkChange port rate width cxl s) := by
  delta execHostPortLinkChange
  exact KeepsO.mk (keeps_ite (fun _ => keeps_hostLink (Piece.sub hF (by decide +kernel)) hs) (fun _ => hs))

theorem keeps_attnPress {F : List Piece} {a : State} {held : Bool} {s : State} (hF : [.hti, .mbx, .ses, .tier, .gore, .attn, .pins, .fab, .fleet,
    .dec, .pool, .ring, .TXT_SLOT, .TIER_RSV, .TIER_OBJ, .TIER_CNT, .SHP_CTX_CNT, .SEC_CNT, .RING_STS, .RING_PORT, .RING_PORT_CNT, .RING_MAP,
        .RING_LED, .RING_INHERIT, .RING_EVAC, .RING_CNT, .RING_BYP, .POOL_REGION, .POOL_OBJ, .POOL_LEND, .POOL_CNT, .MBX_SUM, .MBX_CNT,
            .HTI_W_QFAULT, .HTI_W_MBSTS, .HTI_W_EVT, .HTI_CNT, .GORE_TILE_CNT, .GORE_SHAPE, .GORE_CTX, .GORE_CTX_CNT, .GORE_ATTN_CNT, .DEC_GRAM,
                .DEC_GAUGE, .CTL_SES, .CTL_SES_CNT, .CTL_READY, .CTL_PIN_CNT] ⊆ F) (hs : Keeps F a s) :
    Keeps F a (attnPress held s) := by
  delta attnPress
  refine keeps_ite (fun _ => hs) (fun _ => ?_)
  extract_lets +onlyGivenNames -merge -lift -underBinder s1
  have h2 : Keeps F a s1 := by
    unfold s1
    exact keeps_bump hs ⟨rfl, hF (by decide +kernel)⟩
  clear_value s1
  refine keeps_ite (fun _ => h2) (fun _ => ?_)
  refine keeps_ite (fun _ => h2) (fun _ => ?_)
  refine keeps_ite (fun _ => keeps_startEvac (Piece.sub hF (by decide +kernel)) h2) (fun _ => ?_)
  extract_lets +onlyGivenNames -merge -lift -underBinder v3
  clear_value v3
  exact keeps_wr (keeps_setPins (Piece.sub hF (by decide +kernel)) h2) ⟨rfl, hF (by decide +kernel)⟩

theorem keeps_execSvcAttnPress {F : List Piece} {a : State} {dt : ℕ} {held : Bool} {s : State} (hF : [.hti, .mbx, .ses, .tier, .gore, .attn,
    .pins, .fab, .fleet, .dec, .pool, .ring, .TXT_SLOT, .TIER_STALL, .TIER_RSV, .TIER_OBJ, .TIER_CNT, .SHP_CTX_CNT, .SEC_CNT, .RING_STS,
        .RING_PORT, .RING_PORT_CNT, .RING_MAP, .RING_LED, .RING_INHERIT, .RING_EVAC, .RING_CNT, .RING_BYP, .PWR_CNT, .POOL_REGION, .POOL_OBJ,
            .POOL_LEND, .POOL_CNT, .MTR_LIVE, .MBX_SUM, .MBX_CNT, .HTI_W_QFAULT, .HTI_W_MBSTS, .HTI_W_EVT, .HTI_TIME, .HTI_CNT, .GORE_TILE_CNT,
                .GORE_SHAPE, .GORE_CTX, .GORE_CTX_CNT, .GORE_CLASS, .GORE_ATTN_CNT, .DEC_GRAM, .DEC_GAUGE, .CTL_SES, .CTL_SES_CNT, .CTL_RT,
                    .CTL_RST_CNT, .CTL_READY, .CTL_PIN_CNT] ⊆ F) (hs : Keeps F a s) :
    KeepsO F a (execSvcAttnPress dt held s) := by
  delta execSvcAttnPress
  exact KeepsO.mk (keeps_attnPress (Piece.sub hF (by decide +kernel)) (keeps_pass (Piece.sub hF (by decide +kernel)) hs))

theorem keeps_execSpiReqDeassert {F : List Piece} {a s : State} (hF : [.CTL_PIN] ⊆ F) (hs : Keeps F a s) :
    KeepsO F a (execSpiReqDeassert s) := by
  delta execSpiReqDeassert
  exact KeepsO.mk (keeps_ite (fun _ => keeps_wr (keeps_wr hs ⟨rfl, hF (by decide +kernel)⟩) ⟨rfl, hF (by decide +kernel)⟩) (fun _ => hs))

/-! ### Power -/

theorem keeps_setCause {F : List Piece} {a s : State} {n : ℕ} {b : Bool} (hF : [.PWR_STS] ⊆ F) (hs : Keeps F a s) :
    Keeps F a (State.setCause s n b) := by
  delta State.setCause
  exact keeps_wrBit hs ⟨rfl, hF (by decide +kernel)⟩

theorem keeps_unshed {F : List Piece} {a s : State} (hF : [.ses, .tier, .gore, .pwr, .PWR_STS, .PWR_DROGUE, .PWR_CNT, .GORE_PANEL, .GORE_CTX,
    .GORE_CNT, .CTL_PM] ⊆ F) (hs : Keeps F a s) :
    Keeps F a (State.unshed s) := by
  delta State.unshed
  refine keeps_ite (fun _ => hs) (fun _ => ?_)
  extract_lets +onlyGivenNames -merge -lift -underBinder s1
  have h2 : Keeps F a s1 := by
    unfold s1
    exact hs
  clear_value s1
  exact keeps_setCause (Piece.sub hF (by decide +kernel)) (keeps_winch (Piece.sub hF (by decide +kernel)) (keeps_setPwr (Piece.sub hF
      (by decide +kernel)) hs))

theorem keeps_withdrawClock {F : List Piece} {a s : State} (hF : [.pwr, .PWR_DROGUE] ⊆ F) (hs : Keeps F a s) :
    Keeps F a (State.withdrawClock s) := by
  delta State.withdrawClock
  exact keeps_refreshDrogue (Piece.sub hF (by decide +kernel)) (keeps_setPwr (Piece.sub hF (by decide +kernel)) hs)

theorem keeps_shedPanel {F : List Piece} {a s : State} (hF : [.ses, .tier, .gore, .pwr, .PWR_STS, .PWR_DROGUE, .PWR_CNT, .GORE_PANEL, .GORE_CTX,
    .GORE_CNT, .CTL_PM] ⊆ F) (hs : Keeps F a s) :
    Keeps F a (State.shedPanel s) := by
  delta State.shedPanel
  extract_lets +onlyGivenNames -merge -lift -underBinder v1
  clear_value v1
  split
  · exact hs
  · extract_lets +onlyGivenNames -merge -lift -underBinder s2
    have h3 : Keeps F a s2 := by
      unfold s2
      exact hs
    clear_value s2
    extract_lets +onlyGivenNames -merge -lift -underBinder v4
    clear_value v4
    extract_lets +onlyGivenNames -merge -lift -underBinder s5
    have h6 : Keeps F a s5 := by
      unfold s5
      exact keeps_setPwr (Piece.sub hF (by decide +kernel)) hs
    clear_value s5
    exact keeps_setCause (Piece.sub hF (by decide +kernel)) (keeps_winch (Piece.sub hF (by decide +kernel)) (keeps_mapItems (Piece.sub hF
        (by decide +kernel)) h6))

theorem keeps_setRoot {F : List Piece} {a s : State} {v : ℕ} (hF : [.pwr, .PWR_CNT, .PWR_CLK] ⊆ F) (hs : Keeps F a s) :
    Keeps F a (State.setRoot s v) := by
  delta State.setRoot
  extract_lets +onlyGivenNames -merge -lift -underBinder v1
  clear_value v1
  refine keeps_ite (fun _ => hs) (fun _ => ?_)
  extract_lets +onlyGivenNames -merge -lift -underBinder v2
  clear_value v2
  extract_lets +onlyGivenNames -merge -lift -underBinder s3
  have h4 : Keeps F a s3 := by
    unfold s3
    exact keeps_setPwr (Piece.sub hF (by decide +kernel)) (keeps_wr hs ⟨rfl, hF (by decide +kernel)⟩)
  clear_value s3
  exact keeps_ite (fun _ => keeps_bump h4 ⟨rfl, hF (by decide +kernel)⟩) (fun _ => keeps_bump h4 ⟨rfl, hF (by decide +kernel)⟩)

theorem keeps_limiterTick {F : List Piece} {a : State} {p100 i10 p1 vin : ℕ} {s : State} (hF : [.ses, .tier, .gore, .pwr, .PWR_STS, .PWR_DROGUE,
    .PWR_CNT, .PWR_CLK, .GORE_PANEL, .GORE_CTX, .GORE_CNT, .CTL_PM] ⊆ F) (hs : Keeps F a s) :
    Keeps F a (limiterTick p100 i10 p1 vin s) := by
  delta limiterTick
  extract_lets +onlyGivenNames -merge -lift -underBinder s1
  have h2 : Keeps F a s1 := by
    unfold s1
    exact keeps_wr (keeps_wr (keeps_wr hs ⟨rfl, hF (by decide +kernel)⟩) ⟨rfl, hF (by decide +kernel)⟩) ⟨rfl, hF (by decide +kernel)⟩
  clear_value s1
  extract_lets +onlyGivenNames -merge -lift -underBinder v3 v4
  clear_value v3 v4
  extract_lets +onlyGivenNames -merge -lift -underBinder s5
  have h6 : Keeps F a s5 := by
    unfold s5
    exact keeps_setPwr (Piece.sub hF (by decide +kernel)) h2
  clear_value s5
  extract_lets +onlyGivenNames -merge -lift -underBinder v7
  clear_value v7
  extract_lets +onlyGivenNames -merge -lift -underBinder s8
  have h9 : Keeps F a s8 := by
    unfold s8
    exact keeps_setCause (Piece.sub hF (by decide +kernel)) h6
  clear_value s8
  extract_lets +onlyGivenNames -merge -lift -underBinder s10
  have h11 : Keeps F a s10 := by
    unfold s10
    exact keeps_bump (keeps_setRoot (Piece.sub hF (by decide +kernel)) h9) ⟨rfl, hF (by decide +kernel)⟩
  clear_value s10
  extract_lets +onlyGivenNames -merge -lift -underBinder v12
  clear_value v12
  extract_lets +onlyGivenNames -merge -lift -underBinder s13
  have h14 : Keeps F a s13 := by
    unfold s13
    exact keeps_ite (fun _ => keeps_setCause (Piece.sub hF (by decide +kernel)) (keeps_setPwr (Piece.sub hF (by decide +kernel)) h11)) (fun _ =>
        keeps_ite (fun _ => keeps_setCause (Piece.sub hF (by decide +kernel)) (keeps_ite (fun _ => keeps_setRoot (Piece.sub hF
            (by decide +kernel)) h9) (fun _ => keeps_shedPanel (Piece.sub hF (by decide +kernel)) h9))) (fun _ => keeps_ite (fun _ =>
                keeps_setRoot (Piece.sub hF (by decide +kernel)) h9) (fun _ => keeps_ite (fun _ => keeps_askWake (Piece.sub hF
                    (by decide +kernel)) h9) (fun _ => h9))))
  clear_value s13
  extract_lets +onlyGivenNames -merge -lift -underBinder s15
  have h16 : Keeps F a s15 := by
    unfold s15
    exact keeps_ite (fun _ => keeps_withdrawClock (Piece.sub hF (by decide +kernel)) h14) (fun _ => h14)
  clear_value s15
  extract_lets +onlyGivenNames -merge -lift -underBinder s17
  have h18 : Keeps F a s17 := by
    unfold s17
    exact keeps_ite (fun _ => keeps_setCause (Piece.sub hF (by decide +kernel)) h16) (fun _ => h16)
  clear_value s17
  exact keeps_ite (fun _ => keeps_unshed (Piece.sub hF (by decide +kernel)) (keeps_setCause (Piece.sub hF (by decide +kernel)) h18)) (fun _ => h18)

theorem keeps_execLimiterTick {F : List Piece} {a : State} {dt p100 i10 p1 vin : ℕ} {s : State} (hF : [.ses, .tier, .gore, .pwr, .fleet,
    .TIER_STALL, .SHP_CTX_CNT, .RING_PORT_CNT, .PWR_STS, .PWR_DROGUE, .PWR_CNT, .PWR_CLK, .MTR_LIVE, .HTI_TIME, .HTI_CNT, .GORE_PANEL, .GORE_CTX,
        .GORE_CTX_CNT, .GORE_CNT, .GORE_CLASS, .CTL_RT, .CTL_RST_CNT, .CTL_PM, .CTL_PIN_CNT] ⊆ F) (hs : Keeps F a s) :
    KeepsO F a (execLimiterTick dt p100 i10 p1 vin s) := by
  delta execLimiterTick
  refine KeepsO.mk ?_
  extract_lets +onlyGivenNames -merge -lift -underBinder s1
  have h2 : Keeps F a s1 := by
    unfold s1
    exact keeps_pass (Piece.sub hF (by decide +kernel)) hs
  clear_value s1
  exact keeps_ite (fun _ => keeps_limiterTick (Piece.sub hF (by decide +kernel)) h2) (fun _ => h2)

theorem keeps_execRefclkLoss {F : List Piece} {a s : State} (hF : [.latch, .hti, .mbx, .boot, .ses, .tier, .gore, .attn, .pwr, .pins, .fab,
    .fleet, .dec, .pool, .rcl, .ring, .sec, .RING_PORT, .RING_PORT_CNT, .RING_LED, .RING_CNT, .RING_BYP, .POOL_PORT, .CTL_RST, .CTL_READY,
        .CTL_PIN] ⊆ F) (hs : Keeps F a s) :
    KeepsO F a (execRefclkLoss s) := by
  delta execRefclkLoss
  exact KeepsO.mk (keeps_ite (fun _ => keeps_wholeFailure (Piece.sub hF (by decide +kernel)) (keeps_tickFree (keeps_tickFree hs))) (fun _ => hs))

theorem keeps_setTceil {F : List Piece} {a s : State} {v : ℕ} (hF : [.pwr] ⊆ F) (hs : Keeps F a s) :
    Keeps F a (State.setTceil s v) := by
  delta State.setTceil
  exact keeps_ite (fun _ => hs) (fun _ => keeps_setPwr (Piece.sub hF (by decide +kernel)) hs)

theorem keeps_heat {F : List Piece} {a s : State} {c : ℕ} {hot : Bool} (hF : [.PWR_STS, .PWR_CNT] ⊆ F) (hs : Keeps F a s) :
    Keeps F a (State.heat s c hot) := by
  delta State.heat
  exact keeps_ite (fun _ => hs) (fun _ => keeps_ite (fun _ => hs) (fun _ => keeps_bump (keeps_setCause (Piece.sub hF (by decide +kernel)) hs)
      ⟨rfl, hF (by decide +kernel)⟩))

theorem keeps_putTemp {F : List Piece} {a s : State} {n code : ℕ} (hF : [.PWR_TEMP] ⊆ F) (hs : Keeps F a s) :
    Keeps F a (State.putTemp s n code) := by
  delta State.putTemp
  extract_lets +onlyGivenNames -merge -lift -underBinder s1
  have h2 : Keeps F a s1 := by
    unfold s1
    exact keeps_wr (keeps_wr hs ⟨rfl, hF (by decide +kernel)⟩) ⟨rfl, hF (by decide +kernel)⟩
  clear_value s1
  exact keeps_wr h2 ⟨rfl, hF (by decide +kernel)⟩

theorem keeps_thermalTick {F : List Piece} {a : State} {temps : List (Option ℕ)} {s : State} (hF : [.pwr, .PWR_TEMP, .PWR_STS, .PWR_CNT] ⊆ F) (hs
    : Keeps F a s) :
    Keeps F a (thermalTick temps s) := by
  delta thermalTick
  extract_lets +onlyGivenNames -merge -lift -underBinder s1
  have h2 : Keeps F a s1 := by
    unfold s1
    refine keeps_foldl (fun s3 x4 h5 => ?_) hs
    split
    · exact keeps_putTemp (Piece.sub hF (by decide +kernel)) h5
    · exact h5
  clear_value s1
  extract_lets +onlyGivenNames -merge -lift -underBinder v6 v7
  clear_value v6 v7
  refine keeps_ite (fun _ => keeps_heat (Piece.sub hF (by decide +kernel)) (keeps_heat (Piece.sub hF (by decide +kernel)) (keeps_setTceil
      (Piece.sub hF (by decide +kernel)) h2))) (fun _ => ?_)
  refine keeps_ite (fun _ => ?_) (fun _ => h2)
  extract_lets +onlyGivenNames -merge -lift -underBinder s8
  have h9 : Keeps F a s8 := by
    unfold s8
    exact keeps_setTceil (Piece.sub hF (by decide +kernel)) h2
  clear_value s8
  exact keeps_ite (fun _ => keeps_setCause (Piece.sub hF (by decide +kernel)) (keeps_setCause (Piece.sub hF (by decide +kernel)) h9)) (fun _ => h9)

theorem keeps_payDebt {F : List Piece} {a s : State} (hF : [.pwr] ⊆ F) (hs : Keeps F a s) :
    Keeps F a (State.payDebt s) := by
  delta State.payDebt
  extract_lets +onlyGivenNames -merge -lift -underBinder v1 v2
  clear_value v1 v2
  exact keeps_setPwr (Piece.sub hF (by decide +kernel)) hs

theorem keeps_startLoad {F : List Piece} {a s : State} {w : Wake} (hF : [.pwr, .pins, .PWR_CNT, .PWR_CLK] ⊆ F) (hs : Keeps F a s) :
    Keeps F a (State.startLoad s w) := by
  delta State.startLoad
  extract_lets +onlyGivenNames -merge -lift -underBinder v1
  clear_value v1
  extract_lets +onlyGivenNames -merge -lift -underBinder s2
  have h3 : Keeps F a s2 := by
    unfold s2
    exact keeps_ite (fun _ => keeps_setPwr (Piece.sub hF (by decide +kernel)) hs) (fun _ => hs)
  clear_value s2
  split
  · exact keeps_setRoot (Piece.sub hF (by decide +kernel)) h3
  · exact keeps_ite (fun _ => Keeps.other h3 (hpins := .inr (hF (by decide +kernel)))) (fun _ => h3)
  · exact h3

theorem keeps_drogueAdmit {F : List Piece} {a s : State} (hF : [.pwr, .pins, .PWR_DROGUE, .PWR_CNT, .PWR_CLK] ⊆ F) (hs : Keeps F a s) :
    Keeps F a (drogueAdmit s) := by
  delta drogueAdmit
  extract_lets +onlyGivenNames -merge -lift -underBinder s1
  have h2 : Keeps F a s1 := by
    unfold s1
    exact keeps_payDebt (Piece.sub hF (by decide +kernel)) hs
  clear_value s1
  refine keeps_ite (fun _ => h2) (fun _ => ?_)
  split
  · exact h2
  · extract_lets +onlyGivenNames -merge -lift -underBinder v3 v4 v5
    clear_value v3 v4 v5
    extract_lets +onlyGivenNames -merge -lift -underBinder s6
    have h7 : Keeps F a s6 := by
      unfold s6
      exact keeps_refreshDrogue (Piece.sub hF (by decide +kernel)) (keeps_setPwr (Piece.sub hF (by decide +kernel)) h2)
    clear_value s6
    extract_lets +onlyGivenNames -merge -lift -underBinder s8
    have h9 : Keeps F a s8 := by
      unfold s8
      exact keeps_bump (keeps_bump h7 ⟨rfl, hF (by decide +kernel)⟩) ⟨rfl, hF (by decide +kernel)⟩
    clear_value s8
    exact keeps_startLoad (Piece.sub hF (by decide +kernel)) (keeps_wr h9 ⟨rfl, hF (by decide +kernel)⟩)

theorem keeps_execPwrClkMaxWrite {F : List Piece} {a : State} {value : ℕ} {s : State} (hF : [.PWR_CLK] ⊆ F) (hs : Keeps F a s) :
    KeepsO F a (execPwrClkMaxWrite value s) := by
  delta execPwrClkMaxWrite
  exact KeepsO.mk (keeps_hostWrite hs (fun y1 h2 => keeps_put h2 ⟨rfl, hF (by decide +kernel)⟩))

theorem keeps_thermalTrip {F : List Piece} {a : State} {n : ℕ} {s : State} (hF : [.latch, .hti, .mbx, .boot, .ses, .tier, .gore, .attn, .pwr,
    .pins, .fab, .fleet, .dec, .pool, .rcl, .ring, .sec, .RING_PORT, .RING_PORT_CNT, .RING_LED, .RING_CNT, .RING_BYP, .POOL_PORT, .CTL_RST,
        .CTL_READY, .CTL_PIN] ⊆ F) (hs : Keeps F a s) :
    Keeps F a (thermalTrip n s) := by
  delta thermalTrip
  extract_lets +onlyGivenNames -merge -lift -underBinder s1
  have h2 : Keeps F a s1 := by
    unfold s1
    exact keeps_wholeFailure (Piece.sub hF (by decide +kernel)) hs
  clear_value s1
  exact keeps_setPwr (Piece.sub hF (by decide +kernel)) (keeps_wr h2 ⟨rfl, hF (by decide +kernel)⟩)

theorem keeps_execVinHighRideThrough {F : List Piece} {a : State} {dt : ℕ} {high : Bool} {s : State} (hF : [.fleet, .TIER_STALL, .SHP_CTX_CNT,
    .RING_PORT_CNT, .PWR_CNT, .MTR_LIVE, .HTI_TIME, .HTI_CNT, .GORE_CTX_CNT, .GORE_CLASS, .CTL_RT, .CTL_RST_CNT, .CTL_PIN, .CTL_PIN_CNT] ⊆ F) (hs
        : Keeps F a s) :
    KeepsO F a (execVinHighRideThrough dt high s) := by
  delta execVinHighRideThrough
  refine KeepsO.mk ?_
  extract_lets +onlyGivenNames -merge -lift -underBinder s1
  have h2 : Keeps F a s1 := by
    unfold s1
    exact keeps_pass (Piece.sub hF (by decide +kernel)) hs
  clear_value s1
  exact keeps_ite (fun _ => keeps_wr h2 ⟨rfl, hF (by decide +kernel)⟩) (fun _ => h2)

theorem keeps_execTripLockoutEnd {F : List Piece} {a : State} {dt : ℕ} {s : State} (hF : [.pwr, .fleet, .TIER_STALL, .SHP_CTX_CNT,
    .RING_PORT_CNT, .PWR_CNT, .MTR_LIVE, .HTI_TIME, .HTI_CNT, .GORE_CTX_CNT, .GORE_CLASS, .CTL_RT, .CTL_RST_CNT, .CTL_PIN_CNT] ⊆ F) (hs : Keeps F
        a s) :
    KeepsO F a (execTripLockoutEnd dt s) := by
  delta execTripLockoutEnd
  refine KeepsO.mk ?_
  extract_lets +onlyGivenNames -merge -lift -underBinder s1
  have h2 : Keeps F a s1 := by
    unfold s1
    exact keeps_pass (Piece.sub hF (by decide +kernel)) hs
  clear_value s1
  exact keeps_setPwr (Piece.sub hF (by decide +kernel)) h2

theorem keeps_execThermalTick {F : List Piece} {a : State} {dt : ℕ} {temps : List (Option ℕ)} {s : State} (hF : [.pwr, .fleet, .TIER_STALL,
    .SHP_CTX_CNT, .RING_PORT_CNT, .PWR_TEMP, .PWR_STS, .PWR_CNT, .MTR_LIVE, .HTI_TIME, .HTI_CNT, .GORE_CTX_CNT, .GORE_CLASS, .CTL_RT,
        .CTL_RST_CNT, .CTL_PIN_CNT] ⊆ F) (hs : Keeps F a s) :
    KeepsO F a (execThermalTick dt temps s) := by
  delta execThermalTick
  refine KeepsO.mk ?_
  extract_lets +onlyGivenNames -merge -lift -underBinder s1
  have h2 : Keeps F a s1 := by
    unfold s1
    exact keeps_pass (Piece.sub hF (by decide +kernel)) hs
  clear_value s1
  exact keeps_ite (fun _ => keeps_thermalTick (Piece.sub hF (by decide +kernel)) h2) (fun _ => h2)

theorem keeps_execWholeFlewickFailure {F : List Piece} {a : State} {die unit code : ℕ} {s : State} (hF : [.latch, .hti, .mbx, .boot, .ses, .tier,
    .gore, .attn, .pwr, .pins, .fab, .fleet, .dec, .pool, .rcl, .ring, .sec, .RING_PORT, .RING_PORT_CNT, .RING_LED, .RING_CNT, .RING_BYP,
        .POOL_PORT, .CTL_RST, .CTL_READY, .CTL_PIN] ⊆ F) (hs : Keeps F a s) :
    KeepsO F a (execWholeFlewickFailure die unit code s) := by
  delta execWholeFlewickFailure
  exact KeepsO.mk (keeps_ite (fun _ => keeps_wholeFailure (Piece.sub hF (by decide +kernel)) hs) (fun _ => hs))

theorem keeps_execPwrStepWrite {F : List Piece} {a : State} {value : ℕ} {s : State} (hF : [.pwr, .PWR_STEP] ⊆ F) (hs : Keeps F a s) :
    KeepsO F a (execPwrStepWrite value s) := by
  delta execPwrStepWrite
  exact KeepsO.mk (keeps_hostWrite hs (fun y1 h2 => keeps_putWord (keeps_payDebt (Piece.sub hF (by decide +kernel)) h2) ((Piece.fields hF
      (by decide +kernel)))))

theorem keeps_execDrogueAdmit {F : List Piece} {a : State} {dt : ℕ} {s : State} (hF : [.pwr, .pins, .fleet, .TIER_STALL, .SHP_CTX_CNT,
    .RING_PORT_CNT, .PWR_DROGUE, .PWR_CNT, .PWR_CLK, .MTR_LIVE, .HTI_TIME, .HTI_CNT, .GORE_CTX_CNT, .GORE_CLASS, .CTL_RT, .CTL_RST_CNT,
        .CTL_PIN_CNT] ⊆ F) (hs : Keeps F a s) :
    KeepsO F a (execDrogueAdmit dt s) := by
  delta execDrogueAdmit
  refine KeepsO.mk ?_
  extract_lets +onlyGivenNames -merge -lift -underBinder s1
  have h2 : Keeps F a s1 := by
    unfold s1
    exact keeps_pass (Piece.sub hF (by decide +kernel)) hs
  clear_value s1
  exact keeps_ite (fun _ => keeps_drogueAdmit (Piece.sub hF (by decide +kernel)) h2) (fun _ => h2)

theorem keeps_execLowVinClear {F : List Piece} {a : State} {dt : ℕ} {s : State} (hF : [.fleet, .TIER_STALL, .SHP_CTX_CNT, .RING_PORT_CNT,
    .PWR_STS, .PWR_CNT, .MTR_LIVE, .HTI_TIME, .HTI_CNT, .GORE_CTX_CNT, .GORE_CLASS, .CTL_RT, .CTL_RST_CNT, .CTL_PIN, .CTL_PIN_CNT] ⊆ F) (hs :
        Keeps F a s) :
    KeepsO F a (execLowVinClear dt s) := by
  delta execLowVinClear
  refine KeepsO.mk ?_
  extract_lets +onlyGivenNames -merge -lift -underBinder s1
  have h2 : Keeps F a s1 := by
    unfold s1
    exact keeps_pass (Piece.sub hF (by decide +kernel)) hs
  clear_value s1
  exact keeps_ite (fun _ => keeps_wr (keeps_setCause (Piece.sub hF (by decide +kernel)) h2) ⟨rfl, hF (by decide +kernel)⟩) (fun _ => h2)

theorem keeps_execThermalTrip {F : List Piece} {a : State} {dt sensor : ℕ} {s : State} (hF : [.latch, .hti, .mbx, .boot, .ses, .tier, .gore,
    .attn, .pwr, .pins, .fab, .fleet, .dec, .pool, .rcl, .ring, .sec, .TIER_STALL, .SHP_CTX_CNT, .RING_PORT, .RING_PORT_CNT, .RING_LED,
        .RING_CNT, .RING_BYP, .PWR_CNT, .POOL_PORT, .MTR_LIVE, .HTI_TIME, .HTI_CNT, .GORE_CTX_CNT, .GORE_CLASS, .CTL_RT, .CTL_RST_CNT, .CTL_RST,
            .CTL_READY, .CTL_PIN, .CTL_PIN_CNT] ⊆ F) (hs : Keeps F a s) :
    KeepsO F a (execThermalTrip dt sensor s) := by
  delta execThermalTrip
  refine KeepsO.mk ?_
  extract_lets +onlyGivenNames -merge -lift -underBinder s1
  have h2 : Keeps F a s1 := by
    unfold s1
    exact keeps_pass (Piece.sub hF (by decide +kernel)) hs
  clear_value s1
  exact keeps_ite (fun _ => keeps_thermalTrip (Piece.sub hF (by decide +kernel)) h2) (fun _ => h2)

theorem keeps_execInputLowVin {F : List Piece} {a : State} {dt : ℕ} {s : State} (hF : [.pwr, .fleet, .TIER_STALL, .SHP_CTX_CNT, .RING_PORT_CNT,
    .PWR_STS, .PWR_DROGUE, .PWR_CNT, .MTR_LIVE, .HTI_TIME, .HTI_CNT, .GORE_CTX_CNT, .GORE_CLASS, .CTL_RT, .CTL_RST_CNT, .CTL_PIN, .CTL_PIN_CNT] ⊆
        F) (hs : Keeps F a s) :
    KeepsO F a (execInputLowVin dt s) := by
  delta execInputLowVin
  refine KeepsO.mk ?_
  extract_lets +onlyGivenNames -merge -lift -underBinder s1
  have h2 : Keeps F a s1 := by
    unfold s1
    exact keeps_pass (Piece.sub hF (by decide +kernel)) hs
  clear_value s1
  exact keeps_ite (fun _ => keeps_withdrawClock (Piece.sub hF (by decide +kernel)) (keeps_bump (keeps_wr (keeps_setCause (Piece.sub hF
      (by decide +kernel)) h2) ⟨rfl, hF (by decide +kernel)⟩) ⟨rfl, hF (by decide +kernel)⟩)) (fun _ => h2)

theorem keeps_execPwrCntClr {F : List Piece} {a : State} {value : ℕ} {s : State} (hF : [.PWR_TEMP, .PWR_DROGUE, .PWR_CNT] ⊆ F) (hs : Keeps F a s) :
    KeepsO F a (execPwrCntClr value s) := by
  delta execPwrCntClr
  exact KeepsO.mk (keeps_hostWrite hs (fun y1 h2 => keeps_ite (fun _ => keeps_zeroAll (keeps_wr (keeps_zeroAll h2 ⟨rfl, hF (by decide +kernel)⟩)
      ⟨rfl, hF (by decide +kernel)⟩) ⟨rfl, hF (by decide +kernel)⟩) (fun _ => h2)))

/-! ### Shaper -/

theorem keeps_execShpCntClr {F : List Piece} {a : State} {value : ℕ} {s : State} (hF : [.SHP_CNT] ⊆ F) (hs : Keeps F a s) :
    KeepsO F a (execShpCntClr value s) := by
  delta execShpCntClr
  exact KeepsO.mk (keeps_hostWrite hs (fun y1 h2 => keeps_ite (fun _ => keeps_zeroAll h2 ⟨rfl, hF (by decide +kernel)⟩) (fun _ => h2)))

theorem keeps_setRingMeter {F : List Piece} {a s : State} {v c : ℕ} {m : Meter} (hF : [.ring] ⊆ F) (hs : Keeps F a s) :
    Keeps F a (State.setRingMeter s v c m) := by
  delta State.setRingMeter
  exact keeps_setRing (Piece.sub hF (by decide +kernel)) hs

theorem keeps_applyRing {F : List Piece} {a s new : State} {v c : ℕ} (hF : [.ring] ⊆ F) (hs : Keeps F a s) (hnew : Keeps F a new) :
    Keeps F a (State.applyRing s new v c) := by
  delta State.applyRing
  exact keeps_ite (fun _ => keeps_setRing (Piece.sub hF (by decide +kernel)) hnew) (fun _ => keeps_ite (fun _ => keeps_setRingMeter (Piece.sub hF
      (by decide +kernel)) hnew) (fun _ => hnew))

theorem keeps_applyHost {F : List Piece} {a s new : State} {c : ℕ} (hF : [.ring] ⊆ F) (hs : Keeps F a s) (hnew : Keeps F a new) :
    Keeps F a (State.applyHost s new c) := by
  delta State.applyHost
  exact keeps_ite (fun _ => keeps_setRing (Piece.sub hF (by decide +kernel)) hnew) (fun _ => keeps_ite (fun _ => keeps_setHostMeter (Piece.sub hF
      (by decide +kernel)) hnew) (fun _ => hnew))

theorem keeps_applyPort {F : List Piece} {a s new : State} {p : ℕ} (hF : [.ring] ⊆ F) (hs : Keeps F a s) (hnew : Keeps F a new) :
    Keeps F a (State.applyPort s new p) := by
  delta State.applyPort
  exact keeps_ite (fun _ => keeps_setRing (Piece.sub hF (by decide +kernel)) hnew) (fun _ => hnew)

theorem keeps_retag {F : List Piece} {a s : State} {p v : ℕ} (hF : [.ring] ⊆ F) (hs : Keeps F a s) :
    Keeps F a (State.retag s p v) := by
  delta State.retag
  extract_lets +onlyGivenNames -merge -lift -underBinder v1
  clear_value v1
  extract_lets +onlyGivenNames -merge -lift -underBinder s2
  have h3 : Keeps F a s2 := by
    unfold s2
    exact keeps_setRing (Piece.sub hF (by decide +kernel)) hs
  clear_value s2
  refine keeps_foldl (fun s4 x5 h6 => ?_) h3
  extract_lets +onlyGivenNames -merge -lift -underBinder v7 v8 v9
  clear_value v7 v8 v9
  exact keeps_setRing (Piece.sub hF (by decide +kernel)) h6

theorem keeps_applyVc {F : List Piece} {a s new : State} {v : ℕ} (hF : [.ring] ⊆ F) (hs : Keeps F a s) (hnew : Keeps F a new) :
    Keeps F a (State.applyVc s new v) := by
  delta State.applyVc
  split
  · exact hnew
  · exact keeps_foldl (fun s1 x2 h3 => keeps_ite (fun _ => keeps_retag (Piece.sub hF (by decide +kernel)) h3) (fun _ => keeps_setRing (Piece.sub
        hF (by decide +kernel)) h3)) hnew

theorem keeps_applyQueue {F : List Piece} {a s new : State} {c v : ℕ} (hF : [.ring] ⊆ F) (hs : Keeps F a s) (hnew : Keeps F a new) :
    Keeps F a (State.applyQueue s new c v) := by
  delta State.applyQueue
  refine keeps_ite (fun _ => hnew) (fun _ => ?_)
  extract_lets +onlyGivenNames -merge -lift -underBinder v1
  clear_value v1
  refine keeps_foldl (fun s2 x3 h4 => ?_) hnew
  extract_lets +onlyGivenNames -merge -lift -underBinder v5
  clear_value v5
  exact keeps_ite (fun _ => keeps_setRing (Piece.sub hF (by decide +kernel)) h4) (fun _ => keeps_setTok (Piece.sub hF (by decide +kernel)) h4)

theorem keeps_applyShp {F : List Piece} {a s : State} (hF : [.ring] ⊆ F) (hs : Keeps F a s) :
    Keeps F a (State.applyShp s) := by
  delta State.applyShp
  extract_lets +onlyGivenNames -merge -lift -underBinder v1
  clear_value v1
  extract_lets +onlyGivenNames -merge -lift -underBinder s2
  have h3 : Keeps F a s2 := by
    unfold s2
    exact keeps_setRing (Piece.sub hF (by decide +kernel)) hs
  clear_value s2
  extract_lets +onlyGivenNames -merge -lift -underBinder s4
  have h5 : Keeps F a s4 := by
    unfold s4
    exact keeps_foldl (fun s6 x7 h8 => keeps_applyQueue (Piece.sub hF (by decide +kernel)) hs h8) h3
  clear_value s4
  extract_lets +onlyGivenNames -merge -lift -underBinder s9
  have h10 : Keeps F a s9 := by
    unfold s9
    exact keeps_foldl (fun s11 x12 h13 => keeps_applyVc (Piece.sub hF (by decide +kernel)) hs h13) h5
  clear_value s9
  extract_lets +onlyGivenNames -merge -lift -underBinder s14
  have h15 : Keeps F a s14 := by
    unfold s14
    exact keeps_foldl (fun s16 x17 h18 => keeps_applyPort (Piece.sub hF (by decide +kernel)) hs h18) h10
  clear_value s14
  extract_lets +onlyGivenNames -merge -lift -underBinder s19
  have h20 : Keeps F a s19 := by
    unfold s19
    exact keeps_foldl (fun s21 x22 h23 => keeps_applyHost (Piece.sub hF (by decide +kernel)) hs h23) h15
  clear_value s19
  exact keeps_foldl (fun s24 x25 h26 => keeps_applyRing (Piece.sub hF (by decide +kernel)) hs h26) h20

theorem keeps_sampleQueue {F : List Piece} {a s : State} {i : ℕ} {q : List QFrame} (hF : [.SHP_HIST] ⊆ F) (hs : Keeps F a s) :
    Keeps F a (State.sampleQueue s i q) := by
  delta State.sampleQueue
  extract_lets +onlyGivenNames -merge -lift -underBinder v1
  clear_value v1
  extract_lets +onlyGivenNames -merge -lift -underBinder s2
  have h3 : Keeps F a s2 := by
    unfold s2
    exact keeps_bump hs ⟨rfl, hF (by decide +kernel)⟩
  clear_value s2
  extract_lets +onlyGivenNames -merge -lift -underBinder s4
  have h5 : Keeps F a s4 := by
    unfold s4
    exact keeps_wr h3 ⟨rfl, hF (by decide +kernel)⟩
  clear_value s4
  split
  · exact h5
  · extract_lets +onlyGivenNames -merge -lift -underBinder v6
    clear_value v6
    extract_lets +onlyGivenNames -merge -lift -underBinder s7
    have h8 : Keeps F a s7 := by
      unfold s7
      exact keeps_bump h5 ⟨rfl, hF (by decide +kernel)⟩
    clear_value s7
    exact keeps_wr h8 ⟨rfl, hF (by decide +kernel)⟩

theorem keeps_sampleTick {F : List Piece} {a s : State} (hF : [.ring, .SHP_HIST, .SHP_CNT] ⊆ F) (hs : Keeps F a s) :
    Keeps F a (sampleTick s) := by
  delta sampleTick
  refine keeps_ite (fun _ => hs) (fun _ => ?_)
  extract_lets +onlyGivenNames -merge -lift -underBinder s1
  have h2 : Keeps F a s1 := by
    unfold s1
    exact keeps_foldl (fun s3 x4 h5 => keeps_sampleQueue (Piece.sub hF (by decide +kernel)) h5) hs
  clear_value s1
  extract_lets +onlyGivenNames -merge -lift -underBinder s6
  have h7 : Keeps F a s6 := by
    unfold s6
    exact keeps_foldl (fun s8 x9 h10 => keeps_sampleQueue (Piece.sub hF (by decide +kernel)) h10) h2
  clear_value s6
  exact keeps_bump (keeps_setRing (Piece.sub hF (by decide +kernel)) h7) ⟨rfl, hF (by decide +kernel)⟩

theorem keeps_execQueueSampleTick {F : List Piece} {a : State} {dt : ℕ} {s : State} (hF : [.fleet, .ring, .TIER_STALL, .SHP_HIST, .SHP_CTX_CNT,
    .SHP_CNT, .RING_PORT_CNT, .PWR_CNT, .MTR_LIVE, .HTI_TIME, .HTI_CNT, .GORE_CTX_CNT, .GORE_CLASS, .CTL_RT, .CTL_RST_CNT, .CTL_PIN_CNT] ⊆ F) (hs
        : Keeps F a s) :
    KeepsO F a (execQueueSampleTick dt s) := by
  delta execQueueSampleTick
  exact KeepsO.mk (keeps_sampleTick (Piece.sub hF (by decide +kernel)) (keeps_pass (Piece.sub hF (by decide +kernel)) hs))

theorem keeps_shaperSet {F : List Piece} {a : State} {c : Cmd} {s : State} (hF : [.ring, .SHP_VC, .SHP_PORT, .SHP_CTXQ] ⊆ F) (hs : Keeps F a s) :
    Keeps F a (shaperSet c s) := by
  delta shaperSet
  extract_lets +onlyGivenNames -merge -lift -underBinder v1 v2
  clear_value v1 v2
  extract_lets +onlyGivenNames -merge -lift -underBinder s3
  have h4 : Keeps F a s3 := by
    unfold s3
    split
    · extract_lets +onlyGivenNames -merge -lift -underBinder v5 v6
      clear_value v5 v6
      exact keeps_shpPut (Piece.sub hF (by decide +kernel)) (keeps_shpPut (Piece.sub hF (by decide +kernel)) (keeps_shpPut (Piece.sub hF
          (by decide +kernel)) hs ⟨rfl, hF (by decide +kernel)⟩) ⟨rfl, hF (by decide +kernel)⟩) ⟨rfl, hF (by decide +kernel)⟩
    · exact keeps_shpWord (Piece.sub hF (by decide +kernel)) hs ((Piece.fields hF (by decide +kernel)))
    · exact keeps_shpWord (Piece.sub hF (by decide +kernel)) hs ((Piece.fields hF (by decide +kernel)))
  clear_value s3
  exact keeps_setRing (Piece.sub hF (by decide +kernel)) h4

theorem keeps_addCredit {F : List Piece} {a s : State} (hF : [.ring] ⊆ F) (hs : Keeps F a s) :
    Keeps F a (State.addCredit s) := by
  delta State.addCredit
  extract_lets +onlyGivenNames -merge -lift -underBinder s1
  have h2 : Keeps F a s1 := by
    unfold s1
    exact keeps_foldl (fun s3 x4 h5 => keeps_ite (fun _ => h5) (fun _ => keeps_setTok (Piece.sub hF (by decide +kernel)) h5)) hs
  clear_value s1
  extract_lets +onlyGivenNames -merge -lift -underBinder s6
  have h7 : Keeps F a s6 := by
    unfold s6
    exact keeps_foldl (fun s8 x9 h10 => keeps_setPcap (Piece.sub hF (by decide +kernel)) h10) h2
  clear_value s6
  extract_lets +onlyGivenNames -merge -lift -underBinder s11
  have h12 : Keeps F a s11 := by
    unfold s11
    exact keeps_foldl (fun s13 x14 h15 => keeps_setHostMeter (Piece.sub hF (by decide +kernel)) h15) h7
  clear_value s11
  exact keeps_foldl (fun s16 x17 h18 => keeps_setRingMeter (Piece.sub hF (by decide +kernel)) h18) h12

theorem keeps_undefer {F : List Piece} {a s : State} {k seq colour : ℕ} (hF : [.pwr, .ring, .SHP_CTX_CNT, .RING_CNT, .PWR_DROGUE, .PWR_CNT,
    .CTL_PM] ⊆ F) (hs : Keeps F a s) :
    Keeps F a (State.undefer s k seq colour) := by
  delta State.undefer
  split
  · exact hs
  · extract_lets +onlyGivenNames -merge -lift -underBinder s1
    have h2 : Keeps F a s1 := by
      unfold s1
      exact keeps_setFlow (Piece.sub hF (by decide +kernel)) hs
    clear_value s1
    exact keeps_drainFlow (Piece.sub hF (by decide +kernel)) h2

theorem keeps_remeter {F : List Piece} {a s : State} (hF : [.pwr, .ring, .SHP_CTX_CNT, .RING_CNT, .PWR_DROGUE, .PWR_CNT, .CTL_PM] ⊆ F) (hs :
    Keeps F a s) :
    Keeps F a (State.remeter s) := by
  delta State.remeter
  refine keeps_foldl (fun s1 x2 h3 => ?_) hs
  extract_lets +onlyGivenNames -merge -lift -underBinder v4 v5 v6
  clear_value v4 v5 v6
  exact keeps_ite (fun _ => h3) (fun _ => keeps_undefer (Piece.sub hF (by decide +kernel)) (keeps_setRingMeter (Piece.sub hF (by decide +kernel)) h3))

theorem keeps_refill {F : List Piece} {a s : State} (hF : [.hti, .pwr, .ring, .SHP_CTX_CNT, .SEC_CNT, .RING_CNT, .PWR_DROGUE, .PWR_CNT,
    .HTI_W_QFAULT, .HTI_CNT, .CTL_PM] ⊆ F) (hs : Keeps F a s) :
    Keeps F a (refill s) := by
  delta refill
  extract_lets +onlyGivenNames -merge -lift -underBinder s1
  have h2 : Keeps F a s1 := by
    unfold s1
    exact keeps_applyShp (Piece.sub hF (by decide +kernel)) hs
  clear_value s1
  extract_lets +onlyGivenNames -merge -lift -underBinder v3 v4
  clear_value v3 v4
  extract_lets +onlyGivenNames -merge -lift -underBinder s5
  have h6 : Keeps F a s5 := by
    unfold s5
    exact keeps_setRing (Piece.sub hF (by decide +kernel)) h2
  clear_value s5
  extract_lets +onlyGivenNames -merge -lift -underBinder s7
  have h8 : Keeps F a s7 := by
    unfold s7
    exact keeps_remeter (Piece.sub hF (by decide +kernel)) (keeps_addCredit (Piece.sub hF (by decide +kernel)) h6)
  clear_value s7
  exact keeps_foldl (fun s9 x10 h11 => keeps_finish (Piece.sub hF (by decide +kernel)) h11) h8

theorem keeps_execRefillInstant {F : List Piece} {a : State} {dt : ℕ} {s : State} (hF : [.hti, .pwr, .fleet, .ring, .TIER_STALL, .SHP_CTX_CNT,
    .SEC_CNT, .RING_PORT_CNT, .RING_CNT, .PWR_DROGUE, .PWR_CNT, .MTR_LIVE, .HTI_W_QFAULT, .HTI_TIME, .HTI_CNT, .GORE_CTX_CNT, .GORE_CLASS,
        .CTL_RT, .CTL_RST_CNT, .CTL_PM, .CTL_PIN_CNT] ⊆ F) (hs : Keeps F a s) :
    KeepsO F a (execRefillInstant dt s) := by
  delta execRefillInstant
  refine KeepsO.mk ?_
  extract_lets +onlyGivenNames -merge -lift -underBinder s1
  have h2 : Keeps F a s1 := by
    unfold s1
    exact keeps_pass (Piece.sub hF (by decide +kernel)) hs
  clear_value s1
  exact keeps_ite (fun _ => keeps_refill (Piece.sub hF (by decide +kernel)) h2) (fun _ => hs)

theorem keeps_policerSet {F : List Piece} {a : State} {c : Cmd} {s : State} (hF : [.ring, .SHP_RPOL, .SHP_HPOL] ⊆ F) (hs : Keeps F a s) :
    Keeps F a (policerSet c s) := by
  delta policerSet
  extract_lets +onlyGivenNames -merge -lift -underBinder v1 v2 v3 v4
  clear_value v1 v2 v3 v4
  extract_lets +onlyGivenNames -merge -lift -underBinder v5
  extract_lets +onlyGivenNames -merge -lift -underBinder s6
  have h7 : Keeps F a s6 := by
    unfold s6
    exact keeps_shpPut (Piece.sub hF (by decide +kernel)) hs ⟨rfl, hF (by decide +kernel)⟩
  clear_value s6
  extract_lets +onlyGivenNames -merge -lift -underBinder s8
  have h9 : Keeps F a s8 := by
    unfold s8
    exact keeps_shpPut (Piece.sub hF (by decide +kernel)) hs ⟨rfl, hF (by decide +kernel)⟩
  clear_value s8
  extract_lets +onlyGivenNames -merge -lift -underBinder s10
  have h11 : Keeps F a s10 := by
    unfold s10
    exact keeps_ite (fun _ => keeps_ite (fun _ => h7) (fun _ => keeps_shpPut (Piece.sub hF (by decide +kernel)) (keeps_shpPut (Piece.sub hF
        (by decide +kernel)) (keeps_shpPut (Piece.sub hF (by decide +kernel)) (keeps_shpPut (Piece.sub hF (by decide +kernel)) h7 ⟨rfl, hF
            (by decide +kernel)⟩) ⟨rfl, hF (by decide +kernel)⟩) ⟨rfl, hF (by decide +kernel)⟩) ⟨rfl, hF (by decide +kernel)⟩)) (fun _ =>
                keeps_ite (fun _ => h9) (fun _ => keeps_shpPut (Piece.sub hF (by decide +kernel)) (keeps_shpPut (Piece.sub hF
                    (by decide +kernel)) (keeps_shpPut (Piece.sub hF (by decide +kernel)) (keeps_shpPut (Piece.sub hF (by decide +kernel)) h9
                        ⟨rfl, hF (by decide +kernel)⟩) ⟨rfl, hF (by decide +kernel)⟩) ⟨rfl, hF (by decide +kernel)⟩) ⟨rfl, hF (by decide +kernel)⟩))
  clear_value s10
  exact keeps_setRing (Piece.sub hF (by decide +kernel)) h11

theorem keeps_execPolicerSet {F : List Piece} {a : State} {k : ℕ} {s : State} (hF : [.hti, .ring, .SHP_RPOL, .SHP_HPOL, .SHP_CTX_CNT, .SEC_CNT,
    .HTI_W_QFAULT, .HTI_CNT] ⊆ F) (hs : Keeps F a s) :
    KeepsO F a (execPolicerSet k s) := by
  delta execPolicerSet
  exact KeepsO.mk (keeps_begin (Piece.sub hF (by decide +kernel)) hs (fun y1 y2 h3 => keeps_policerSet (Piece.sub hF (by decide +kernel)) h3))

theorem keeps_frameStart {F : List Piece} {a : State} {p : ℕ} {credit : List ℕ} {s : State} (hF : [.ring, .SHP_CTX_CNT, .SHP_CNT, .RING_PORT_CNT,
    .MTR_LIVE] ⊆ F) (hs : Keeps F a s) :
    Keeps F a (frameStart p credit s) := by
  delta frameStart
  extract_lets +onlyGivenNames -merge -lift -underBinder v1 v2
  clear_value v1 v2
  extract_lets +onlyGivenNames -merge -lift -underBinder s3
  have h4 : Keeps F a s3 := by
    unfold s3
    exact keeps_setRing (Piece.sub hF (by decide +kernel)) hs
  clear_value s3
  extract_lets +onlyGivenNames -merge -lift -underBinder v5 v6 v7
  clear_value v5 v6 v7
  extract_lets +onlyGivenNames -merge -lift -underBinder s8
  have h9 : Keeps F a s8 := by
    unfold s8
    exact keeps_setRing (Piece.sub hF (by decide +kernel)) h4
  clear_value s8
  extract_lets +onlyGivenNames -merge -lift -underBinder v10 v11 v12 v13
  clear_value v10 v11 v12 v13
  refine keeps_ite (fun _ => h9) (fun _ => ?_)
  extract_lets +onlyGivenNames -merge -lift -underBinder v14 v15
  clear_value v14 v15
  extract_lets +onlyGivenNames -merge -lift -underBinder p16
  have h17 : KeepsP F a p16 := by
    unfold p16
    exact keeps_drr (Piece.sub hF (by decide +kernel)) h9
  clear_value p16
  split
  · exact h17
  · split
    · exact h17
    · dsimp only
      refine keeps_unblock (Piece.sub hF (by decide +kernel)) (keeps_depart (Piece.sub hF (by decide +kernel)) ?_)
      refine keeps_ite (fun _ => keeps_setPcap (Piece.sub hF (by decide +kernel)) h17) fun _ => keeps_ite (fun _ => keeps_bump h17 ⟨rfl, hF
          (by decide +kernel)⟩) fun _ => h17

theorem keeps_execPortFrameStart {F : List Piece} {a : State} {dt port : ℕ} {credit : List ℕ} {s : State} (hF : [.fleet, .ring, .TIER_STALL,
    .SHP_CTX_CNT, .SHP_CNT, .RING_PORT_CNT, .PWR_CNT, .MTR_LIVE, .HTI_TIME, .HTI_CNT, .GORE_CTX_CNT, .GORE_CLASS, .CTL_RT, .CTL_RST_CNT,
        .CTL_PIN_CNT] ⊆ F) (hs : Keeps F a s) :
    KeepsO F a (execPortFrameStart dt port credit s) := by
  delta execPortFrameStart
  refine KeepsO.mk ?_
  extract_lets +onlyGivenNames -merge -lift -underBinder s1
  have h2 : Keeps F a s1 := by
    unfold s1
    exact keeps_pass (Piece.sub hF (by decide +kernel)) hs
  clear_value s1
  exact keeps_ite (fun _ => keeps_frameStart (Piece.sub hF (by decide +kernel)) h2) (fun _ => hs)

theorem keeps_execShaperSet {F : List Piece} {a : State} {k : ℕ} {s : State} (hF : [.hti, .ring, .SHP_VC, .SHP_PORT, .SHP_CTX_CNT, .SHP_CTXQ,
    .SEC_CNT, .HTI_W_QFAULT, .HTI_CNT] ⊆ F) (hs : Keeps F a s) :
    KeepsO F a (execShaperSet k s) := by
  delta execShaperSet
  exact KeepsO.mk (keeps_begin (Piece.sub hF (by decide +kernel)) hs (fun y1 y2 h3 => keeps_shaperSet (Piece.sub hF (by decide +kernel)) h3))

theorem keeps_execShpCtxCntClr {F : List Piece} {a : State} {value : ℕ} {s : State} (hF : [.latch, .SHP_CTX_CNT] ⊆ F) (hs : Keeps F a s) :
    KeepsO F a (execShpCtxCntClr value s) := by
  delta execShpCtxCntClr
  exact KeepsO.mk (keeps_hostWrite64 (Piece.sub hF (by decide +kernel)) hs ⟨rfl, hF (by decide +kernel)⟩ (fun y1 h2 => keeps_zeroRows h2 ⟨rfl, hF
      (by decide +kernel)⟩))

theorem keeps_deferTimeout {F : List Piece} {a : State} {src ctx vc : ℕ} {s : State} (hF : [.pwr, .ring, .SHP_CTX_CNT, .SHP_CNT, .RING_CNT,
    .PWR_DROGUE, .PWR_CNT, .CTL_PM] ⊆ F) (hs : Keeps F a s) :
    Keeps F a (deferTimeout src ctx vc s) := by
  delta deferTimeout
  extract_lets +onlyGivenNames -merge -lift -underBinder v1
  clear_value v1
  split
  · exact hs
  · split
    · exact keeps_undefer (Piece.sub hF (by decide +kernel)) (keeps_bump hs ⟨rfl, hF (by decide +kernel)⟩)
    · exact hs

theorem keeps_execDeferTimeout {F : List Piece} {a : State} {dt src ctx vc : ℕ} {s : State} (hF : [.pwr, .fleet, .ring, .TIER_STALL,
    .SHP_CTX_CNT, .SHP_CNT, .RING_PORT_CNT, .RING_CNT, .PWR_DROGUE, .PWR_CNT, .MTR_LIVE, .HTI_TIME, .HTI_CNT, .GORE_CTX_CNT, .GORE_CLASS,
        .CTL_RT, .CTL_RST_CNT, .CTL_PM, .CTL_PIN_CNT] ⊆ F) (hs : Keeps F a s) :
    KeepsO F a (execDeferTimeout dt src ctx vc s) := by
  delta execDeferTimeout
  exact KeepsO.mk (keeps_deferTimeout (Piece.sub hF (by decide +kernel)) (keeps_pass (Piece.sub hF (by decide +kernel)) hs))

theorem keeps_execShpHistClr {F : List Piece} {a : State} {value : ℕ} {s : State} (hF : [.SHP_HIST] ⊆ F) (hs : Keeps F a s) :
    KeepsO F a (execShpHistClr value s) := by
  unfold execShpHistClr
  refine KeepsO.mk (keeps_hostWrite hs fun y h1 => ?_)
  split
  · refine h1.filter (q := fun k => !([Fld.SHP_HIST_DEPTH_COUNT, .SHP_HIST_DELAY_COUNT, .SHP_HIST_MAX_MAX_DEPTH,
        .SHP_HIST_MAX_MAX_DELAY].any fun f => k / 4294967296 = f.num)) fun f hf i j => ?_
    have hn : f.key i j / 4294967296 = f.num := by unfold Fld.key; omega
    have he : ∀ g : Fld, f.num = g.num → f = g := fun g h => by
      rw [← Fld.ofNat_ctorIdx f, ← Fld.ofNat_ctorIdx g]
      exact congrArg Fld.ofNat h
    simp only [hn, Bool.not_eq_true', List.any_eq_false, decide_eq_true_eq]
    intro g hg h
    have := he g h
    subst this
    simp only [List.mem_cons, List.not_mem_nil, or_false] at hg
    rcases hg with rfl | rfl | rfl | rfl <;> exact hf (hF (by decide +kernel))
  · exact h1

/-! ### Text -/

theorem keeps_countRun {F : List Piece} {a s : State} {m : Img} {input : List ℕ} {r : TxtRun} {busy : ℕ} (hF : [.TXT_CNT] ⊆ F) (hs : Keeps F a s) :
    Keeps F a (State.countRun s m input r busy) := by
  delta State.countRun
  extract_lets +onlyGivenNames -merge -lift -underBinder v1
  clear_value v1
  extract_lets +onlyGivenNames -merge -lift -underBinder s2
  have h3 : Keeps F a s2 := by
    unfold s2
    exact keeps_bump (keeps_bump hs ⟨rfl, hF (by decide +kernel)⟩) ⟨rfl, hF (by decide +kernel)⟩
  clear_value s2
  extract_lets +onlyGivenNames -merge -lift -underBinder s4
  have h5 : Keeps F a s4 := by
    unfold s4
    exact keeps_bump h3 ⟨rfl, hF (by decide +kernel)⟩
  clear_value s4
  extract_lets +onlyGivenNames -merge -lift -underBinder s6
  have h7 : Keeps F a s6 := by
    unfold s6
    exact keeps_bump (keeps_bump h5 ⟨rfl, hF (by decide +kernel)⟩) ⟨rfl, hF (by decide +kernel)⟩
  clear_value s6
  extract_lets +onlyGivenNames -merge -lift -underBinder s8
  have h9 : Keeps F a s8 := by
    unfold s8
    exact keeps_bump (keeps_bump h7 ⟨rfl, hF (by decide +kernel)⟩) ⟨rfl, hF (by decide +kernel)⟩
  clear_value s8
  extract_lets +onlyGivenNames -merge -lift -underBinder s10
  have h11 : Keeps F a s10 := by
    unfold s10
    exact keeps_bump (keeps_bump h9 ⟨rfl, hF (by decide +kernel)⟩) ⟨rfl, hF (by decide +kernel)⟩
  clear_value s10
  exact keeps_bump (keeps_bump h11 ⟨rfl, hF (by decide +kernel)⟩) ⟨rfl, hF (by decide +kernel)⟩

theorem keeps_textTokenize {F : List Piece} {a : State} {busy : ℕ} {input : Option (List ℕ)} {wrote : Bool} {c : Cmd} {s : State} (hF : [.hti,
    .ring, .TXT_CNT, .SHP_CTX_CNT, .SEC_CNT, .HTI_W_QFAULT, .HTI_CNT] ⊆ F) (hs : Keeps F a s) :
    Keeps F a (textTokenize busy input wrote c s) := by
  delta textTokenize
  extract_lets +onlyGivenNames -merge -lift -underBinder v1 v2 v3 v4
  clear_value v1 v2 v3 v4
  split
  · exact keeps_finish (Piece.sub hF (by decide +kernel)) hs
  · refine keeps_ite (fun _ => keeps_finish (Piece.sub hF (by decide +kernel)) hs) (fun _ => ?_)
    split
    · exact keeps_finish (Piece.sub hF (by decide +kernel)) hs
    · extract_lets +onlyGivenNames -merge -lift -underBinder v5 v6
      clear_value v5 v6
      refine keeps_ite (fun _ => keeps_finish (Piece.sub hF (by decide +kernel)) hs) (fun _ => ?_)
      extract_lets +onlyGivenNames -merge -lift -underBinder s7
      have h8 : Keeps F a s7 := by
        unfold s7
        exact keeps_countRun (Piece.sub hF (by decide +kernel)) hs
      clear_value s7
      extract_lets +onlyGivenNames -merge -lift -underBinder v9 v10
      clear_value v9 v10
      extract_lets +onlyGivenNames -merge -lift -underBinder s11
      have h12 : Keeps F a s11 := by
        unfold s11
        exact keeps_emit h8
      clear_value s11
      extract_lets +onlyGivenNames -merge -lift -underBinder s13
      have h14 : Keeps F a s13 := by
        unfold s13
        exact keeps_bump h12 ⟨rfl, hF (by decide +kernel)⟩
      clear_value s13
      split
      · exact keeps_finish (Piece.sub hF (by decide +kernel)) h14
      · extract_lets +onlyGivenNames -merge -lift -underBinder v15
        clear_value v15
        exact keeps_finish (Piece.sub hF (by decide +kernel)) h14

theorem keeps_tableRemove {F : List Piece} {a : State} {c : Cmd} {s : State} (hF : [.hti, .tier, .dec, .ring, .TXT_SLOT, .TIER_RSV, .SHP_CTX_CNT,
    .SEC_CNT, .HTI_W_QFAULT, .HTI_CNT] ⊆ F) (hs : Keeps F a s) :
    Keeps F a (tableRemove c s) := by
  delta tableRemove
  extract_lets +onlyGivenNames -merge -lift -underBinder v1
  clear_value v1
  split
  · exact keeps_finish (Piece.sub hF (by decide +kernel)) hs
  · exact keeps_ite (fun _ => keeps_finish (Piece.sub hF (by decide +kernel)) hs) (fun _ => keeps_ite (fun _ => keeps_finish (Piece.sub hF
        (by decide +kernel)) hs) (fun _ => keeps_finish (Piece.sub hF (by decide +kernel)) (keeps_showTable (Piece.sub hF (by decide +kernel))
            (keeps_setTable (Piece.sub hF (by decide +kernel)) (keeps_rsvSwap (Piece.sub hF (by decide +kernel)) hs)))))

theorem keeps_tableLoad_go {F : List Piece} {a : State} {src : SrcRead} {c : Cmd} {s : State} {d : Desc} {n len : ℕ} {old : Option TableSlot} (hF
    : [.hti, .tier, .dec, .ring, .TXT_SLOT, .TXT_CNT, .TIER_RSV, .SHP_CTX_CNT, .SEC_CNT, .HTI_W_QFAULT, .HTI_CNT] ⊆ F) (hs : Keeps F a s) :
    Keeps F a (tableLoad.go src c s d n len old) := by
  delta tableLoad.go
  split
  · exact keeps_finish (Piece.sub hF (by decide +kernel)) hs
  · extract_lets +onlyGivenNames -merge -lift -underBinder v1
    clear_value v1
    split
    · exact keeps_finish (Piece.sub hF (by decide +kernel)) (keeps_bump hs ⟨rfl, hF (by decide +kernel)⟩)
    · refine keeps_ite (fun _ => keeps_finish (Piece.sub hF (by decide +kernel)) (keeps_rsvFull (Piece.sub hF (by decide +kernel)) hs)) (fun _ => ?_)
      extract_lets +onlyGivenNames -merge -lift -underBinder v2
      clear_value v2
      extract_lets +onlyGivenNames -merge -lift -underBinder s3
      have h4 : Keeps F a s3 := by
        unfold s3
        exact keeps_setTable (Piece.sub hF (by decide +kernel)) (keeps_rsvSwap (Piece.sub hF (by decide +kernel)) hs)
      clear_value s3
      extract_lets +onlyGivenNames -merge -lift -underBinder s5
      have h6 : Keeps F a s5 := by
        unfold s5
        exact keeps_bump (keeps_showTable (Piece.sub hF (by decide +kernel)) (keeps_sweepImages (Piece.sub hF (by decide +kernel)) h4)) ⟨rfl, hF
            (by decide +kernel)⟩
      clear_value s5
      exact keeps_finish (Piece.sub hF (by decide +kernel)) h6

theorem keeps_tableLoad {F : List Piece} {a : State} {src : SrcRead} {c : Cmd} {s0 : State} (hF : [.hti, .tier, .dec, .ring, .TXT_SLOT, .TXT_CNT,
    .TIER_RSV, .SHP_CTX_CNT, .SEC_CNT, .HTI_W_QFAULT, .HTI_CNT] ⊆ F) (hs0 : Keeps F a s0) :
    Keeps F a (tableLoad src c s0) := by
  delta tableLoad
  extract_lets +onlyGivenNames -merge -lift -underBinder s1
  have h2 : Keeps F a s1 := by
    unfold s1
    exact keeps_sweepImages (Piece.sub hF (by decide +kernel)) hs0
  clear_value s1
  extract_lets +onlyGivenNames -merge -lift -underBinder v3 v4 v5 v6
  clear_value v3 v4 v5 v6
  split
  · exact keeps_ite (fun _ => keeps_finish (Piece.sub hF (by decide +kernel)) h2) (fun _ => keeps_tableLoad_go (Piece.sub hF (by decide +kernel)) h2)
  · exact keeps_tableLoad_go (Piece.sub hF (by decide +kernel)) h2

theorem keeps_execTableLoadLoad {F : List Piece} {a : State} {k : ℕ} {src : SrcRead} {s : State} (hF : [.hti, .tier, .dec, .ring, .TXT_SLOT,
    .TXT_CNT, .TIER_RSV, .SHP_CTX_CNT, .SEC_CNT, .HTI_W_QFAULT, .HTI_CNT] ⊆ F) (hs : Keeps F a s) :
    KeepsO F a (execTableLoadLoad k src s) := by
  delta execTableLoadLoad
  exact KeepsO.mk (keeps_begin (Piece.sub hF (by decide +kernel)) hs (fun y1 y2 h3 => keeps_tableLoad (Piece.sub hF (by decide +kernel)) h3))

theorem keeps_appendTokens {F : List Piece} {a s : State} {c : Cmd} {h : ℕ} {ids : List ℕ} {invalid : ℕ} {count : State → State} (hF : [.hti,
    .ses, .tier, .pool, .ring, .TXT_CNT, .TIER_OBJ, .TIER_DRV, .TIER_CNT, .SHP_CTX_CNT, .SEC_CNT, .RING_CNT, .POOL_OBJ, .POOL_CNT, .HTI_W_QFAULT,
        .HTI_CNT, .CTL_READY] ⊆ F) (hs : Keeps F a s) (hcount : ∀ y0, Keeps F a y0 → Keeps F a (count y0)) :
    Keeps F a (State.appendTokens s c h ids invalid count) := by
  delta State.appendTokens
  split
  · exact keeps_finish (Piece.sub hF (by decide +kernel)) hs
  · refine keeps_ite (fun _ => keeps_finish (Piece.sub hF (by decide +kernel)) (keeps_bump hs ⟨rfl, hF (by decide +kernel)⟩)) (fun _ => ?_)
    extract_lets +onlyGivenNames -merge -lift -underBinder v1
    clear_value v1
    extract_lets +onlyGivenNames -merge -lift -underBinder s2
    have h3 : Keeps F a s2 := by
      unfold s2
      exact keeps_spoolAppend (Piece.sub hF (by decide +kernel)) (hcount _ hs)
    clear_value s2
    exact keeps_finishSpool (Piece.sub hF (by decide +kernel)) h3

theorem keeps_textAppend {F : List Piece} {a : State} {busy : ℕ} {input : Option (List ℕ)} {c : Cmd} {s : State} (hF : [.hti, .ses, .tier, .pool,
    .ring, .TXT_CNT, .TIER_OBJ, .TIER_DRV, .TIER_CNT, .SHP_CTX_CNT, .SEC_CNT, .RING_CNT, .POOL_OBJ, .POOL_CNT, .HTI_W_QFAULT, .HTI_CNT,
        .CTL_READY] ⊆ F) (hs : Keeps F a s) :
    Keeps F a (textAppend busy input c s) := by
  delta textAppend
  extract_lets +onlyGivenNames -merge -lift -underBinder v1 v2 v3
  clear_value v1 v2 v3
  split
  · exact keeps_finish (Piece.sub hF (by decide +kernel)) hs
  · exact keeps_finish (Piece.sub hF (by decide +kernel)) hs
  · split
    · exact keeps_finish (Piece.sub hF (by decide +kernel)) hs
    · refine keeps_ite (fun _ => keeps_finish (Piece.sub hF (by decide +kernel)) hs) (fun _ => ?_)
      split
      · exact keeps_finish (Piece.sub hF (by decide +kernel)) hs
      · refine keeps_ite (fun _ => ?_) (fun _ => ?_)
        · extract_lets +onlyGivenNames -merge -lift -underBinder v4
          clear_value v4
          split
          · exact keeps_finish (Piece.sub hF (by decide +kernel)) hs
          · exact keeps_appendTokens (Piece.sub hF (by decide +kernel)) hs (fun y5 h6 => keeps_bump h6 ⟨rfl, hF (by decide +kernel)⟩)
        · extract_lets +onlyGivenNames -merge -lift -underBinder v7 v8
          clear_value v7 v8
          exact keeps_appendTokens (Piece.sub hF (by decide +kernel)) hs (fun y9 h10 => keeps_bump (keeps_countRun (Piece.sub hF
              (by decide +kernel)) h10) ⟨rfl, hF (by decide +kernel)⟩)

theorem keeps_execTextAppend {F : List Piece} {a : State} {k busy : ℕ} {input : Option (List ℕ)} {s : State} (hF : [.hti, .ses, .tier, .dec,
    .pool, .ring, .TXT_CNT, .TIER_RSV, .TIER_OBJ, .TIER_DRV, .TIER_CNT, .SHP_CTX_CNT, .SEC_CNT, .RING_CNT, .POOL_OBJ, .POOL_CNT, .HTI_W_QFAULT,
        .HTI_CNT, .CTL_READY] ⊆ F) (hs : Keeps F a s) :
    KeepsO F a (execTextAppend k busy input s) := by
  delta execTextAppend
  exact KeepsO.mk (keeps_sweepImages (Piece.sub hF (by decide +kernel)) (keeps_begin (Piece.sub hF (by decide +kernel)) hs (fun y1 y2 h3 =>
      keeps_textAppend (Piece.sub hF (by decide +kernel)) h3)))

theorem keeps_execTableLoadRemove {F : List Piece} {a : State} {k : ℕ} {s : State} (hF : [.hti, .tier, .dec, .ring, .TXT_SLOT, .TIER_RSV,
    .SHP_CTX_CNT, .SEC_CNT, .HTI_W_QFAULT, .HTI_CNT] ⊆ F) (hs : Keeps F a s) :
    KeepsO F a (execTableLoadRemove k s) := by
  delta execTableLoadRemove
  exact KeepsO.mk (keeps_begin (Piece.sub hF (by decide +kernel)) hs (fun y1 y2 h3 => keeps_tableRemove (Piece.sub hF (by decide +kernel)) h3))

theorem keeps_execTokeniserLaneFault {F : List Piece} {a : State} {lane ctx handle : ℕ} {s : State} (hF : [.mbx, .TXT_LANES, .TXT_CNT, .MBX_SUM,
    .MBX_CNT, .HTI_W_MBSTS, .HTI_W_FLT, .HTI_CNT, .CTL_READY] ⊆ F) (hs : Keeps F a s) :
    KeepsO F a (execTokeniserLaneFault lane ctx handle s) := by
  delta execTokeniserLaneFault
  exact KeepsO.mk (keeps_ite (fun _ => keeps_fenceLane (Piece.sub hF (by decide +kernel)) (keeps_bump hs ⟨rfl, hF (by decide +kernel)⟩) ⟨rfl, hF
      (by decide +kernel)⟩) (fun _ => hs))

theorem keeps_execTxtCntClr {F : List Piece} {a : State} {value : ℕ} {s : State} (hF : [.TXT_CNT] ⊆ F) (hs : Keeps F a s) :
    KeepsO F a (execTxtCntClr value s) := by
  delta execTxtCntClr
  exact KeepsO.mk (keeps_hostWrite hs (fun y1 h2 => keeps_ite (fun _ => keeps_zeroAll h2 ⟨rfl, hF (by decide +kernel)⟩) (fun _ => h2)))

theorem keeps_execTextTokenize {F : List Piece} {a : State} {k busy : ℕ} {input : Option (List ℕ)} {wrote : Bool} {s : State} (hF : [.hti, .tier,
    .dec, .ring, .TXT_CNT, .TIER_RSV, .SHP_CTX_CNT, .SEC_CNT, .HTI_W_QFAULT, .HTI_CNT] ⊆ F) (hs : Keeps F a s) :
    KeepsO F a (execTextTokenize k busy input wrote s) := by
  delta execTextTokenize
  exact KeepsO.mk (keeps_sweepImages (Piece.sub hF (by decide +kernel)) (keeps_begin (Piece.sub hF (by decide +kernel)) hs (fun y1 y2 h3 =>
      keeps_textTokenize (Piece.sub hF (by decide +kernel)) h3)))

end Sys2Proof.Machine
end

