-- ==== Sys2Proof/Laws/KeepsRegisters.lean ====
section
/-! SUPPORT. `Keeps` for the operations and meanings of Machine/: Registers. Each lemma says what an operation may change, and
that it keeps the rest. -/

namespace Sys2Proof.Machine

set_option Elab.async false

/-! ### Registers -/

theorem keeps_dropChannel {F : List Piece} {a s : State} {c : ℕ} (hF : Piece.withRegs [.latch, .mbx] ⊆ F) (hs : Keeps F a s) :
    Keeps F a (State.dropChannel s c) := by
  delta State.dropChannel
  extract_lets +onlyGivenNames -merge -lift -underBinder s1
  have h2 : Keeps F a s1 := by
    unfold s1
    exact keeps_evtOff (Piece.sub hF (by decide +kernel)) (keeps_clearChannel (Piece.sub hF (by decide +kernel)) hs)
  clear_value s1
  extract_lets +onlyGivenNames -merge -lift -underBinder v3
  clear_value v3
  extract_lets +onlyGivenNames -merge -lift -underBinder s4
  have h5 : Keeps F a s4 := by
    unfold s4
    exact keeps_setEvt (Piece.sub hF (by decide +kernel)) h2
  clear_value s4
  exact keeps_clearRegs (Piece.sub hF (by decide +kernel)) h5

theorem keeps_bound {F : List Piece} {a s : State} {c : ℕ} {en : Bool} {p : ℕ} (hF : Piece.withRegs [.latch, .mbx, .tier, .attn, .fleet, .sec] ⊆
    F) (hs : Keeps F a s) :
    Keeps F a (State.bound s c en p) := by
  delta State.bound
  extract_lets +onlyGivenNames -merge -lift -underBinder v1
  clear_value v1
  extract_lets +onlyGivenNames -merge -lift -underBinder s2
  have h3 : Keeps F a s2 := by
    unfold s2
    exact keeps_ite (fun _ => keeps_dropPos (Piece.sub hF (by decide +kernel)) hs) (fun _ => hs)
  clear_value s2
  extract_lets +onlyGivenNames -merge -lift -underBinder s4
  have h5 : Keeps F a s4 := by
    unfold s4
    exact keeps_takePos (Piece.sub hF (by decide +kernel)) h3
  clear_value s4
  extract_lets +onlyGivenNames -merge -lift -underBinder s6
  have h7 : Keeps F a s6 := by
    unfold s6
    exact keeps_ite (fun _ => keeps_ite (fun _ => h5) (fun _ => keeps_newStorage (Piece.sub hF (by decide +kernel)) h5)) (fun _ => h3)
  clear_value s6
  extract_lets +onlyGivenNames -merge -lift -underBinder s8
  have h9 : Keeps F a s8 := by
    unfold s8
    exact keeps_ite (fun _ => keeps_rebind (Piece.sub hF (by decide +kernel)) (keeps_dropChannel (Piece.sub hF (by decide +kernel)) h7)) (fun _ => h7)
  clear_value s8
  extract_lets +onlyGivenNames -merge -lift -underBinder s10
  have h11 : Keeps F a s10 := by
    unfold s10
    exact keeps_ite (fun _ => keeps_refreshBridle (Piece.sub hF (by decide +kernel)) h9) (fun _ => h9)
  clear_value s10
  exact keeps_refreshMode (Piece.sub hF (by decide +kernel)) (keeps_refreshMode (Piece.sub hF (by decide +kernel)) (keeps_refreshTdi (Piece.sub
      hF (by decide +kernel)) h11))

theorem keeps_ctxWrite {F : List Piece} {a : State} {port c value : ℕ} {s : State} (hF : Piece.withRegs [.latch, .mbx, .tier, .attn, .fleet,
    .sec] ⊆ F) (hs : Keeps F a s) :
    Keeps F a (ctxWrite port c value s) := by
  delta ctxWrite
  extract_lets +onlyGivenNames -merge -lift -underBinder s1
  have h2 : Keeps F a s1 := by
    unfold s1
    exact keeps_putWord hs ((Piece.fields hF (by decide +kernel)))
  clear_value s1
  extract_lets +onlyGivenNames -merge -lift -underBinder v3
  clear_value v3
  exact keeps_ite (fun _ => keeps_errlog (Piece.sub hF (by decide +kernel)) hs) (fun _ => keeps_bound (Piece.sub hF (by decide +kernel)) h2)

theorem keeps_htiCtx {F : List Piece} {a s : State} {port ctx value : ℕ} (hF : Piece.withRegs [.latch, .mbx, .tier, .attn, .fleet, .sec] ⊆ F) (hs
    : Keeps F a s) :
    Keeps F a (State.htiCtx s port ctx value) := by
  delta State.htiCtx
  exact keeps_ite (fun _ => keeps_hostWrite hs (fun y1 h2 => keeps_lockWrite (Piece.sub hF (by decide +kernel)) h2 (fun y3 h4 => keeps_ctxWrite
      (Piece.sub hF (by decide +kernel)) h4))) (fun _ => hs)

theorem keeps_execHtiCtxWrite {F : List Piece} {a : State} {ctx value : ℕ} {s : State} (hF : Piece.withRegs [.latch, .mbx, .tier, .attn, .fleet,
    .sec] ⊆ F) (hs : Keeps F a s) :
    KeepsO F a (execHtiCtxWrite ctx value s) := by
  delta execHtiCtxWrite
  exact KeepsO.mk (keeps_htiCtx (Piece.sub hF (by decide +kernel)) hs)

theorem keeps_writeField {F : List Piece} {a s : State} {p : Fld × ℕ × ℕ} {word : ℕ} (hF : Piece.withRegs [.ring] ⊆ F) (hs : Keeps F a s) :
    Keeps F a (State.writeField s p word) := by
  have hv : p.1.info.ty ≠ .ro → p.1.free F := fun h => ⟨by
    by_contra hf
    simp only [Fld.fixed, Bool.not_eq_false, Bool.or_eq_true, decide_eq_true_eq] at hf
    rcases hf with hf | hf <;> rw [hf] at h <;> exact absurd rfl h, hF (List.mem_append_left _ (Fld.piece_mem _))⟩
  unfold State.writeField
  dsimp only
  split
  · have hf := hv fun h => by simp_all
    refine keeps_ite (fun _ => keeps_shpPut (Piece.sub hF (by decide +kernel)) hs hf) fun _ => keeps_ite (fun _ => keeps_shpPut (Piece.sub hF
        (by decide +kernel)) hs hf) fun _ =>
      keeps_ite (fun _ => hs) fun _ => keeps_put hs hf
  · exact keeps_wr hs (hv fun h => by simp_all)
  · exact hs

theorem keeps_afterRegWrite {F : List Piece} {a s : State} {p : Fld × ℕ × ℕ} (hF : [.mbx, .ring, .SEC_CTX, .RING_PORT, .RING_PORT_CNT, .MBX_SUM,
    .MBX_MODE, .HTI_CNT, .CTL_READY] ⊆ F) (hs : Keeps F a s) :
    Keeps F a (State.afterRegWrite s p) := by
  delta State.afterRegWrite
  split
  · exact keeps_refreshMode (Piece.sub hF (by decide +kernel)) (keeps_foldl (fun s1 x2 h3 => keeps_refreshTdi (Piece.sub hF (by decide +kernel))
        h3) hs)
  · exact keeps_refreshMode (Piece.sub hF (by decide +kernel)) hs
  · exact keeps_refreshMode (Piece.sub hF (by decide +kernel)) hs
  · exact keeps_refreshMode (Piece.sub hF (by decide +kernel)) (keeps_refreshMode (Piece.sub hF (by decide +kernel)) hs)
  · exact keeps_ite (fun _ => hs) (fun _ => keeps_linkDown (Piece.sub hF (by decide +kernel)) hs)
  · exact hs

theorem keeps_writeReg {F : List Piece} {a : State} {l : List (Fld × ℕ × ℕ)} {word : ℕ} {s : State} (hF : Piece.withRegs [.mbx, .ring] ⊆ F) (hs :
    Keeps F a s) :
    Keeps F a (writeReg l word s) := by
  delta writeReg
  split
  · exact hs
  · refine keeps_ite (fun _ => keeps_errlog (Piece.sub hF (by decide +kernel)) hs) (fun _ => ?_)
    extract_lets +onlyGivenNames -merge -lift -underBinder f9
    unfold f9
    beta_reduce
    split
    · exact keeps_lockWrite (Piece.sub hF (by decide +kernel)) hs (fun y1 h2 => keeps_afterRegWrite (Piece.sub hF (by decide +kernel))
          (keeps_foldl (fun s3 x4 h5 => keeps_writeField (Piece.sub hF (by decide +kernel)) h5) h2))
    · exact keeps_afterRegWrite (Piece.sub hF (by decide +kernel)) (keeps_foldl (fun s6 x7 h8 => keeps_writeField (Piece.sub hF
          (by decide +kernel)) h8) hs)

theorem keeps_goOn {F : List Piece} {a s : State} {o : Host.Outcome State Fault Refusal} (hs : Keeps F a s) (ho : KeepsO F a o) :
    Keeps F a (goOn s o) := by
  cases o
  · exact ho _ rfl
  · exact hs
  · exact hs

theorem keeps_ownRow {F : List Piece} {a s : State} {port v : ℕ} {p : Fld × ℕ × ℕ} {f : State → Host.Outcome State Fault Refusal}
    (hF : Piece.withRegs [.latch, .hti, .mbx, .boot, .ses, .tier, .gore, .attn, .pwr, .pins, .fab, .fleet, .dec, .pool, .rcl, .ring, .sec] ⊆ F)
        (hs : Keeps F a s) (h : ownRow port p v = some f) : KeepsO F a (f s) := by
  unfold ownRow at h
  dsimp only at h
  split at h
  · cases h; exact keeps_execHtiWSqdbWrite (Piece.sub hF (by decide +kernel)) hs
  · cases h; exact keeps_execHtiWCqdbWrite (Piece.sub hF (by decide +kernel)) hs
  · cases h; split
    · exact keeps_execPair0Open (Piece.sub hF (by decide +kernel)) hs
    · exact keeps_execPair0Close (Piece.sub hF (by decide +kernel)) hs
  · cases h; exact keeps_execHtiWBrkickWrite (Piece.sub hF (by decide +kernel)) hs
  · cases h; exact keeps_execHtiWMbreqSeal (Piece.sub hF (by decide +kernel)) hs
  · cases h; split
    · exact keeps_execHtiWEvtEnable (Piece.sub hF (by decide +kernel)) hs
    · exact keeps_execHtiWEvtDisable (Piece.sub hF (by decide +kernel)) hs
  · cases h; exact keeps_execHtiWEvtHeadWrite (Piece.sub hF (by decide +kernel)) hs
  · cases h; exact keeps_execHtiWFltHeadWrite (Piece.sub hF (by decide +kernel)) hs
  · cases h; exact keeps_execHtiWMbreqSeal (Piece.sub hF (by decide +kernel)) hs
  · cases h; exact keeps_execMbxSumAck (Piece.sub hF (by decide +kernel)) hs
  · split at h
    · cases h; exact keeps_execHtiErrlogClr (Piece.sub hF (by decide +kernel)) hs
    · cases h
  · cases h; exact KeepsO.mk (keeps_htiCtx (Piece.sub hF (by decide +kernel)) hs)
  · cases h; exact keeps_execGoreTileInjArm (Piece.sub hF (by decide +kernel)) hs
  · cases h; exact keeps_execGoreShareWrite (Piece.sub hF (by decide +kernel)) hs
  · cases h; exact keeps_execGoreRoleMixWrite (Piece.sub hF (by decide +kernel)) hs
  · cases h; exact keeps_execGoreBridleWrite (Piece.sub hF (by decide +kernel)) hs
  · cases h; split
    · exact keeps_execTierObjFailedClear (Piece.sub hF (by decide +kernel)) hs
    · exact keeps_execTierObjEnWrite (Piece.sub hF (by decide +kernel)) hs
  · cases h; exact keeps_execTierWmWrite (Piece.sub hF (by decide +kernel)) hs
  · cases h; exact keeps_execRingBypForceClose (Piece.sub hF (by decide +kernel)) hs
  · cases h; exact keeps_execRingVcWrite (Piece.sub hF (by decide +kernel)) hs
  · cases h; exact keeps_execRingMapCfgWrite (Piece.sub hF (by decide +kernel)) hs
  · cases h; exact keeps_execMtrCompTagWrite (Piece.sub hF (by decide +kernel)) hs
  · cases h; exact keeps_execSecFabricTxSlotWrite (Piece.sub hF (by decide +kernel)) hs
  · cases h; split
    · exact keeps_execCtlFnEnable (Piece.sub hF (by decide +kernel)) hs
    · split
      · exact keeps_execCtlFnDisableDrain (Piece.sub hF (by decide +kernel)) hs
      · exact keeps_execCtlFnDisableStop (Piece.sub hF (by decide +kernel)) hs
  · cases h; split
    · exact keeps_execCtlResetWarm (Piece.sub hF (by decide +kernel)) hs
    · exact keeps_execCtlResetSoft (Piece.sub hF (by decide +kernel)) hs
  · cases h; exact keeps_execCtlFnRst (Piece.sub hF (by decide +kernel)) hs
  · cases h; exact keeps_execCtlCtxRst (Piece.sub hF (by decide +kernel)) hs
  · cases h; exact keeps_execP3Req (Piece.sub hF (by decide +kernel)) hs
  · cases h; exact keeps_execPwrStepWrite (Piece.sub hF (by decide +kernel)) hs
  · cases h; exact keeps_execPwrClkMaxWrite (Piece.sub hF (by decide +kernel)) hs
  · cases h; exact keeps_execHtiCntClr (Piece.sub hF (by decide +kernel)) hs
  · cases h; exact keeps_execGoreTileCntClr (Piece.sub hF (by decide +kernel)) hs
  · cases h; exact keeps_execGoreCntClr (Piece.sub hF (by decide +kernel)) hs
  · cases h; exact keeps_execGoreCtxCntClr (Piece.sub hF (by decide +kernel)) hs
  · cases h; exact keeps_execGoreAttnCntClr (Piece.sub hF (by decide +kernel)) hs
  · cases h; exact keeps_execTierCntClr (Piece.sub hF (by decide +kernel)) hs
  · cases h; exact keeps_execTierStallClr (Piece.sub hF (by decide +kernel)) hs
  · cases h; exact keeps_execTxtCntClr (Piece.sub hF (by decide +kernel)) hs
  · cases h; exact keeps_execDecCntClr (Piece.sub hF (by decide +kernel)) hs
  · cases h; exact keeps_execRclCntClr (Piece.sub hF (by decide +kernel)) hs
  · cases h; exact keeps_execRclCtxCntClr (Piece.sub hF (by decide +kernel)) hs
  · cases h; exact keeps_execPoolCntClr (Piece.sub hF (by decide +kernel)) hs
  · cases h; exact keeps_execRingCntClr (Piece.sub hF (by decide +kernel)) hs
  · cases h; exact keeps_execShpHistClr (Piece.sub hF (by decide +kernel)) hs
  · cases h; exact keeps_execShpCntClr (Piece.sub hF (by decide +kernel)) hs
  · cases h; exact keeps_execShpCtxCntClr (Piece.sub hF (by decide +kernel)) hs
  · cases h; exact keeps_execCtlAdmCntClr (Piece.sub hF (by decide +kernel)) hs
  · cases h; exact keeps_execMtrCntClr (Piece.sub hF (by decide +kernel)) hs
  · cases h; exact keeps_execCtlSesCntClr (Piece.sub hF (by decide +kernel)) hs
  · cases h; exact keeps_execSecCntClr (Piece.sub hF (by decide +kernel)) hs
  · cases h; exact keeps_execMbxCntClr (Piece.sub hF (by decide +kernel)) hs
  · cases h; exact keeps_execNvmCntClr (Piece.sub hF (by decide +kernel)) hs
  · cases h; exact keeps_execCtlRstCntClr (Piece.sub hF (by decide +kernel)) hs
  · cases h; exact keeps_execPwrCntClr (Piece.sub hF (by decide +kernel)) hs
  · cases h; exact keeps_execCtlPinCntClr (Piece.sub hF (by decide +kernel)) hs
  · cases h

theorem keeps_storeReg {F : List Piece} {a : State} {guard : State → (State → State) → State} {port : ℕ} {l : List (Fld × ℕ × ℕ)} {word : ℕ} {s :
    State} (hF : Piece.withRegs [.latch, .hti, .mbx, .boot, .ses, .tier, .gore, .attn, .pwr, .pins, .fab, .fleet, .dec, .pool, .rcl, .ring, .sec]
        ⊆ F) (hguard : ∀ y0 y1, Keeps F a y0 → (∀ s, Keeps F a s → Keeps F a (y1 s)) → Keeps F a (guard y0 y1)) (hs : Keeps F a s) :
    Keeps F a (storeReg guard port l word s) := by
  unfold storeReg
  split
  · exact hs
  · split
    · exact keeps_goOn hs (keeps_ownRow hF hs (by assumption))
    · exact hguard _ _ hs fun s h => keeps_writeReg (Piece.sub hF (by decide +kernel)) h

theorem keeps_writeMeet {F : List Piece} {a : State} {guard : State → (State → State) → State} {err : ℕ → State → State} {port key : ℕ} {ctx :
    Option ℕ} {m : Meet} {value : ℕ} {s : State} (hF : Piece.withRegs [.latch, .hti, .mbx, .boot, .ses, .tier, .gore, .attn, .pwr, .pins, .fab,
        .fleet, .dec, .pool, .rcl, .ring, .sec] ⊆ F) (hguard : ∀ y0 y1, Keeps F a y0 → (∀ s, Keeps F a s → Keeps F a (y1 s)) → Keeps F a (guard
            y0 y1)) (herr : ∀ y0 y1, Keeps F a y1 → Keeps F a (err y0 y1)) (hs : Keeps F a s) :
    Keeps F a (writeMeet guard err port key ctx m value s) := by
  delta writeMeet
  split
  · exact keeps_storeReg (Piece.sub hF (by decide +kernel)) (fun y1 y3 h2 h4 => hguard _ _ h2 (fun s5 h6 => h4 _ (keeps_ite (fun _ =>
        keeps_latched (Piece.sub hF (by decide +kernel)) h6) (fun _ => h6)))) hs
  · exact hguard _ _ hs (fun s7 h8 => keeps_latched (Piece.sub hF (by decide +kernel)) h8)
  · extract_lets +onlyGivenNames -merge -lift -underBinder v9
    clear_value v9
    split
    · exact keeps_storeReg (Piece.sub hF (by decide +kernel)) hguard hs
    · exact keeps_unlatch (Piece.sub hF (by decide +kernel)) (keeps_storeReg (Piece.sub hF (by decide +kernel)) hguard hs)
  · exact hguard _ _ hs (fun s10 h11 => herr _ _ h11)
  · exact hguard _ _ hs (fun s12 h13 => herr _ _ h13)

theorem keeps_putRequest {F : List Piece} {a s : State} {ch at_ size value : ℕ} (hF : [.mbx] ⊆ F) (hs : Keeps F a s) :
    Keeps F a (State.putRequest s ch at_ size value) := by
  delta State.putRequest
  extract_lets +onlyGivenNames -merge -lift -underBinder v1 v2 v3
  clear_value v1 v2 v3
  exact keeps_setChan (Piece.sub hF (by decide +kernel)) hs

theorem keeps_readMeet {F : List Piece} {a : State} {err : ℕ → State → State} {ctx : Option ℕ} {m : Meet} {size : ℕ} {s : State} (herr : ∀ y0 y1,
    Keeps F a y1 → Keeps F a (err y0 y1)) (hs : Keeps F a s) :
    KeepsP F a (readMeet err ctx m size s) := by
  delta readMeet
  split
  · exact KeepsP.mk hs
  · exact KeepsP.mk hs
  · exact KeepsP.mk hs
  · exact KeepsP.mk (herr _ _ hs)
  · exact KeepsP.mk hs

theorem keeps_readBar0 {F : List Piece} {a : State} {port off size : ℕ} {s : State} (hF : [.SEC_CNT, .MBX_S, .HTI_W_MBRSP, .HTI_ERRLOG] ⊆ F) (hs
    : Keeps F a s) :
    Keeps F a (readBar0 port off size s) := by
  delta readBar0
  extract_lets +onlyGivenNames -merge -lift -underBinder f9
  unfold f9
  beta_reduce
  split
  · exact keeps_emit hs
  · extract_lets +onlyGivenNames -merge -lift -underBinder v1 v2 v3
    clear_value v1 v2 v3
    refine keeps_ite (fun _ => keeps_emit hs) (fun _ => ?_)
    refine keeps_ite (fun _ => keeps_emit hs) (fun _ => ?_)
    refine keeps_ite (fun _ => keeps_emit (keeps_bump hs ⟨rfl, hF (by decide +kernel)⟩)) (fun _ => ?_)
    refine keeps_ite (fun _ => keeps_emit hs) (fun _ => ?_)
    refine keeps_ite (fun _ => keeps_goOn hs (keeps_execHtiWMbrspRead (Piece.sub hF (by decide +kernel)) hs)) (fun _ => ?_)
    extract_lets +onlyGivenNames -merge -lift -underBinder p4
    have h5 : KeepsP F a p4 := by
      unfold p4
      exact keeps_readMeet (fun y6 y7 h8 => keeps_ite (fun _ => keeps_errlog (Piece.sub hF (by decide +kernel)) h8) (fun _ => h8)) hs
    clear_value p4
    exact keeps_emit (KeepsP.proj h5)

theorem keeps_readWindow {F : List Piece} {a : State} {port ctx o size : ℕ} {s : State} (hF : [.SEC_CNT, .MBX_S, .HTI_W_MBRSP, .HTI_ERRLOG] ⊆ F)
    (hs : Keeps F a s) :
    Keeps F a (readWindow port ctx o size s) := by
  delta readWindow
  extract_lets +onlyGivenNames -merge -lift -underBinder f8
  unfold f8
  beta_reduce
  exact keeps_ite (fun _ => keeps_windowRead (Piece.sub hF (by decide +kernel)) hs (fun y1 h2 => KeepsP.mk h2)) (fun _ => keeps_ite (fun _ =>
      keeps_goOn hs (keeps_execHtiWMbrspRead (Piece.sub hF (by decide +kernel)) hs)) (fun _ => keeps_windowRead (Piece.sub hF
          (by decide +kernel)) hs (fun y3 h4 => keeps_readMeet (fun y5 y6 h7 => keeps_errlog (Piece.sub hF (by decide +kernel)) h7) h4)))

theorem keeps_execRegisterReadLogged {F : List Piece} {a : State} {bar port offset size : ℕ} {s : State} (hF : [.SEC_CNT, .MBX_S, .HTI_W_MBRSP,
    .HTI_ERRLOG] ⊆ F) (hs : Keeps F a s) :
    KeepsO F a (execRegisterReadLogged bar port offset size s) := by
  delta execRegisterReadLogged
  exact KeepsO.mk (keeps_ite (fun _ => hs) (fun _ => keeps_ite (fun _ => keeps_readBar0 (Piece.sub hF (by decide +kernel)) hs) (fun _ =>
      keeps_ite (fun _ => keeps_readWindow (Piece.sub hF (by decide +kernel)) hs) (fun _ => hs))))

theorem keeps_channelWrite {F : List Piece} {a : State} {err : ℕ → State → State} {ch o size value : ℕ} {s : State} (hF : [.mbx] ⊆ F) (herr : ∀
    y0 y1, Keeps F a y1 → Keeps F a (err y0 y1)) (hs : Keeps F a s) :
    Keeps F a (channelWrite err ch o size value s) := by
  delta channelWrite
  exact keeps_ite (fun _ => keeps_putRequest (Piece.sub hF (by decide +kernel)) hs) (fun _ => herr _ _ hs)

theorem keeps_bar0Write {F : List Piece} {a : State} {port off size value : ℕ} {s : State} (hF : Piece.withRegs [.latch, .hti, .mbx, .boot, .ses,
    .tier, .gore, .attn, .pwr, .pins, .fab, .fleet, .dec, .pool, .rcl, .ring, .sec] ⊆ F) (hs : Keeps F a s) :
    Keeps F a (bar0Write port off size value s) := by
  delta bar0Write
  extract_lets +onlyGivenNames -merge -lift -underBinder f17
  unfold f17
  beta_reduce
  split
  · exact keeps_ite (fun _ => keeps_errlog (Piece.sub hF (by decide +kernel)) hs) (fun _ => hs)
  · extract_lets +onlyGivenNames -merge -lift -underBinder v1
    clear_value v1
    extract_lets +onlyGivenNames -merge -lift -underBinder f16
    unfold f16
    beta_reduce
    exact keeps_ite (fun _ => keeps_hostWrite hs (fun y2 h3 => keeps_ite (fun _ => keeps_refusePath (Piece.sub hF (by decide +kernel)) h3) (fun _
        => keeps_channelWrite (Piece.sub hF (by decide +kernel)) (fun y4 y5 h6 => keeps_ite (fun _ => keeps_errlog (Piece.sub hF
            (by decide +kernel)) h6) (fun _ => h6)) h3))) (fun _ => keeps_ite (fun _ => keeps_ite (fun _ => keeps_errlog (Piece.sub hF
                (by decide +kernel)) hs) (fun _ => hs)) (fun _ => keeps_writeMeet (Piece.sub hF (by decide +kernel)) (fun y7 y9 h8 h10 =>
                    keeps_hostWrite h8 (fun y11 h12 => keeps_ite (fun _ => keeps_refusePath (Piece.sub hF (by decide +kernel)) h12) (fun _ => h10
                        _ h12))) (fun y13 y14 h15 => keeps_ite (fun _ => keeps_errlog (Piece.sub hF (by decide +kernel)) h15) (fun _ => h15)) hs))

theorem keeps_windowWrite {F : List Piece} {a : State} {port ctx o size value : ℕ} {s : State} (hF : Piece.withRegs [.latch, .hti, .mbx, .boot,
    .ses, .tier, .gore, .attn, .pwr, .pins, .fab, .fleet, .dec, .pool, .rcl, .ring, .sec] ⊆ F) (hs : Keeps F a s) :
    Keeps F a (windowWrite port ctx o size value s) := by
  delta windowWrite
  extract_lets +onlyGivenNames -merge -lift -underBinder f14
  unfold f14
  beta_reduce
  extract_lets +onlyGivenNames -merge -lift -underBinder f13
  unfold f13
  beta_reduce
  exact keeps_ite (fun _ => keeps_window (Piece.sub hF (by decide +kernel)) hs (fun y1 h2 => keeps_channelWrite (Piece.sub hF
      (by decide +kernel)) (fun y3 y4 h5 => keeps_errlog (Piece.sub hF (by decide +kernel)) h5) h2)) (fun _ => keeps_writeMeet (Piece.sub hF
          (by decide +kernel)) (fun y6 y8 h7 h9 => keeps_window (Piece.sub hF (by decide +kernel)) h7 h9) (fun y10 y11 h12 => keeps_errlog
              (Piece.sub hF (by decide +kernel)) h12) hs)

theorem keeps_execRegisterWrite {F : List Piece} {a : State} {bar port offset size value : ℕ} {s : State} (hF : Piece.withRegs [.latch, .hti,
    .mbx, .boot, .ses, .tier, .gore, .attn, .pwr, .pins, .fab, .fleet, .dec, .pool, .rcl, .ring, .sec] ⊆ F) (hs : Keeps F a s) :
    KeepsO F a (execRegisterWrite bar port offset size value s) := by
  delta execRegisterWrite
  exact KeepsO.mk (keeps_ite (fun _ => hs) (fun _ => keeps_ite (fun _ => keeps_bar0Write (Piece.sub hF (by decide +kernel)) hs) (fun _ =>
      keeps_ite (fun _ => keeps_windowWrite (Piece.sub hF (by decide +kernel)) hs) (fun _ => hs))))

end Sys2Proof.Machine
end

