-- ==== Sys2Proof/Laws/Memory.lean ====
section
/-! SUPPORT. The bridle memory: a read after a write, and that every operation keeps the canonical form. -/

namespace Sys2Proof.Machine

/-- The canonical form as propositions. -/
theorem Memory.wf_iff (m : Memory) : m.wf = true ↔ (m.Pairwise fun a b => a.1 < b.1) ∧ ∀ p ∈ m, p.2 ≠ 0 := by
  simp [Memory.wf, List.all_eq_true]

@[simp] theorem Memory.wf_nil : Memory.wf [] = true := by decide

/-- A write puts no new address before a bound that holds of it and of the list. -/
theorem Memory.set_bound {m : Memory} {k : Nat} {v : BitVec 8} {n : Nat} (hk : n < k) (hm : ∀ p ∈ m, n < p.1) :
    ∀ p ∈ m.set k v, n < p.1 := by
  induction m with
  | nil => intro p; simp only [Memory.set]; split <;> simp; rintro rfl; exact hk
  | cons a t ih =>
    obtain ⟨a, b⟩ := a
    have ha : n < a := hm (a, b) (by simp)
    have ht : ∀ p ∈ t, n < p.1 := fun p hp => hm p (by simp [hp])
    intro p hp
    simp only [Memory.set] at hp
    split at hp
    · split at hp
      · exact hm p hp
      · rcases List.mem_cons.mp hp with rfl | hp
        · exact hk
        · exact hm p hp
    · split at hp
      · split at hp
        · exact ht p hp
        · rcases List.mem_cons.mp hp with rfl | hp
          · exact hk
          · exact ht p hp
      · rcases List.mem_cons.mp hp with rfl | hp
        · exact ha
        · exact ih ht p hp

theorem Memory.set_wf {m : Memory} (k : Nat) (v : BitVec 8) (h : m.wf = true) : (m.set k v).wf = true := by
  rw [Memory.wf_iff] at h ⊢
  induction m with
  | nil => simp only [Memory.set]; split <;> simp; assumption
  | cons a t ih =>
    obtain ⟨a, b⟩ := a
    obtain ⟨h1, h2⟩ := h
    have ht := ih ⟨h1.of_cons, fun p hp => h2 p (by simp [hp])⟩
    have hlt := (List.pairwise_cons.mp h1).1
    simp only [Memory.set]
    split
    · next hka =>
      split
      · exact ⟨h1, h2⟩
      · next hv =>
        refine ⟨List.pairwise_cons.mpr ⟨fun p hp => ?_, h1⟩, fun p hp => ?_⟩
        · rcases List.mem_cons.mp hp with rfl | hp
          · exact hka
          · exact Nat.lt_trans hka (hlt p hp)
        · rcases List.mem_cons.mp hp with rfl | hp
          · exact hv
          · exact h2 p hp
    · next hka =>
      split
      · next hak =>
        subst hak
        split
        · exact ⟨h1.of_cons, fun p hp => h2 p (by simp [hp])⟩
        · next hv =>
          refine ⟨List.pairwise_cons.mpr ⟨hlt, h1.of_cons⟩, fun p hp => ?_⟩
          rcases List.mem_cons.mp hp with rfl | hp
          · exact hv
          · exact h2 p (by simp [hp])
      · next hak =>
        have hk : a < k := by omega
        refine ⟨List.pairwise_cons.mpr ⟨Memory.set_bound hk hlt, ht.1⟩, fun p hp => ?_⟩
        rcases List.mem_cons.mp hp with rfl | hp
        · exact h2 (a, b) (by simp)
        · exact ht.2 p hp

theorem Memory.write_wf {m : Memory} (a n v : Nat) (h : m.wf = true) : (m.write a n v).wf = true := by
  induction n generalizing m a v with
  | zero => exact h
  | succ n ih => exact ih _ _ (Memory.set_wf _ _ h)

theorem Memory.clear_wf {m : Memory} (lo hi : Nat) (h : m.wf = true) : (m.clear lo hi).wf = true := by
  rw [Memory.wf_iff] at h ⊢
  exact ⟨h.1.sublist List.filter_sublist, fun p hp => h.2 p (List.mem_of_mem_filter hp)⟩

/-- Below the first address every byte reads 0. -/
theorem Memory.get_below {m : Memory} {k : Nat} (h : ∀ p ∈ m, k < p.1) : m.get k = 0 := by
  induction m with
  | nil => rfl
  | cons a t ih =>
    have ha := h a (by simp)
    simp only [Memory.get, Nat.ne_of_gt ha, if_false]
    exact ih fun p hp => h p (by simp [hp])

/-- A read after a write: the byte written, and every other byte as before. -/
theorem Memory.get_set {m : Memory} (h : m.wf = true) (k j : Nat) (v : BitVec 8) :
    (m.set k v).get j = if j = k then v else m.get j := by
  rw [Memory.wf_iff] at h
  induction m with
  | nil =>
    simp only [Memory.set]
    by_cases hj : j = k
    · subst hj
      split
      · next hv => simp [Memory.get, hv]
      · simp [Memory.get]
    · split
      · simp
      · simp [Memory.get, Ne.symm hj]
  | cons a t ih =>
    obtain ⟨a, b⟩ := a
    obtain ⟨h1, h2⟩ := h
    have hlt := (List.pairwise_cons.mp h1).1
    have ht := ih ⟨h1.of_cons, fun p hp => h2 p (by simp [hp])⟩
    have low (i : Nat) (hi : i ≤ a) : Memory.get t i = 0 := Memory.get_below fun p hp => Nat.lt_of_le_of_lt hi (hlt p hp)
    simp only [Memory.set]
    split
    · next hka =>
      by_cases hj : j = k
      · subst hj
        split
        · next hv => simp [Memory.get, Nat.ne_of_gt hka, low j (Nat.le_of_lt hka), hv]
        · simp [Memory.get]
      · split
        · simp
        · simp [Memory.get, Ne.symm hj]
    · split
      · next hak =>
        subst hak
        by_cases hj : j = a
        · subst hj
          split
          · next hv => simp [low j (Nat.le_refl j), hv]
          · simp [Memory.get]
        · split
          · simp [Memory.get, Ne.symm hj]
          · simp [Memory.get, Ne.symm hj]
      · next hak =>
        by_cases hj : j = a
        · subst hj; simp [Memory.get, hak]
        · simp [Memory.get, Ne.symm hj, ht]

/-- What a write of `n` bytes leaves at an address. -/
theorem Memory.get_write {m : Memory} (h : m.wf = true) (a n v j : Nat) :
    (m.write a n v).get j = if a ≤ j ∧ j < a + n then BitVec.ofNat 8 (v / 256 ^ (j - a)) else m.get j := by
  induction n generalizing m a v with
  | zero => simp only [Memory.write]; rw [if_neg (by omega)]
  | succ n ih =>
    rw [Memory.write, ih (Memory.set_wf _ _ h), Memory.get_set h]
    by_cases h1 : a + 1 ≤ j ∧ j < a + 1 + n
    · rw [if_pos h1, if_pos (by omega), Nat.div_div_eq_div_mul, ← Nat.pow_succ', show (j - (a + 1)).succ = j - a by omega]
    · rw [if_neg h1]
      by_cases h2 : j = a
      · subst h2; rw [if_pos rfl, if_pos (by omega), Nat.sub_self, Nat.pow_zero, Nat.div_one]
      · rw [if_neg h2, if_neg (by omega)]
/-- What clearing a range leaves at an address. -/
theorem Memory.get_clear (m : Memory) (lo hi j : Nat) : (m.clear lo hi).get j = if lo ≤ j ∧ j < hi then 0 else m.get j := by
  induction m with
  | nil => simp [Memory.clear, Memory.get]
  | cons p t ih =>
    obtain ⟨a, b⟩ := p
    rw [Memory.clear, List.filter_cons] at *
    by_cases ha : a < lo ∨ hi ≤ a
    · rw [if_pos (by simpa using ha)]
      simp only [Memory.get]
      by_cases hj : a = j
      · subst hj; rw [if_pos rfl, if_pos rfl, if_neg (by omega)]
      · rw [if_neg hj, if_neg hj]; exact ih
    · rw [if_neg (by simpa using ha)]
      simp only [Memory.get]
      by_cases hj : a = j
      · subst hj; rw [if_pos (by omega)]; exact ih.trans (if_pos (by omega))
      · rw [if_neg hj]; exact ih

/-- The bridle operations keep the form. -/
theorem State.bridlePut_wf {s : State} (c off n v : Nat) (h : s.attn.bridle.wf = true) : (s.bridlePut c off n v).attn.bridle.wf = true :=
  Memory.write_wf _ _ _ h
theorem State.bridleZero_wf {s : State} (c : Nat) (h : s.attn.bridle.wf = true) : (s.bridleZero c).attn.bridle.wf = true :=
  Memory.clear_wf _ _ h
theorem State.bridleClear_wf (s : State) : s.bridleClear.attn.bridle.wf = true := Memory.wf_nil

end Sys2Proof.Machine
end

