-- ==== Sys2Proof/Laws/State.lean ====
section
/-! SUPPORT. One lemma for each field of the state under each named update, and for the reads of registers through them. -/

namespace Sys2Proof.Machine

variable (s : State)

/-! ### wr -/

theorem wr_regs (f : Fld) (i j v : Nat) : (s.wr f i j v).regs = regSet s.regs (f.key i j) v := rfl
@[simp] theorem wr_latch (f : Fld) (i j v : Nat) : (s.wr f i j v).latch = s.latch := rfl
@[simp] theorem wr_hti (f : Fld) (i j v : Nat) : (s.wr f i j v).hti = s.hti := rfl
@[simp] theorem wr_mbx (f : Fld) (i j v : Nat) : (s.wr f i j v).mbx = s.mbx := rfl
@[simp] theorem wr_boot (f : Fld) (i j v : Nat) : (s.wr f i j v).boot = s.boot := rfl
@[simp] theorem wr_ses (f : Fld) (i j v : Nat) : (s.wr f i j v).ses = s.ses := rfl
@[simp] theorem wr_tier (f : Fld) (i j v : Nat) : (s.wr f i j v).tier = s.tier := rfl
@[simp] theorem wr_gore (f : Fld) (i j v : Nat) : (s.wr f i j v).gore = s.gore := rfl
@[simp] theorem wr_attn (f : Fld) (i j v : Nat) : (s.wr f i j v).attn = s.attn := rfl
@[simp] theorem wr_pwr (f : Fld) (i j v : Nat) : (s.wr f i j v).pwr = s.pwr := rfl
@[simp] theorem wr_pins (f : Fld) (i j v : Nat) : (s.wr f i j v).pins = s.pins := rfl
@[simp] theorem wr_fab (f : Fld) (i j v : Nat) : (s.wr f i j v).fab = s.fab := rfl
@[simp] theorem wr_fleet (f : Fld) (i j v : Nat) : (s.wr f i j v).fleet = s.fleet := rfl
@[simp] theorem wr_dec (f : Fld) (i j v : Nat) : (s.wr f i j v).dec = s.dec := rfl
@[simp] theorem wr_pool (f : Fld) (i j v : Nat) : (s.wr f i j v).pool = s.pool := rfl
@[simp] theorem wr_rcl (f : Fld) (i j v : Nat) : (s.wr f i j v).rcl = s.rcl := rfl
@[simp] theorem wr_ring (f : Fld) (i j v : Nat) : (s.wr f i j v).ring = s.ring := rfl
@[simp] theorem wr_sec (f : Fld) (i j v : Nat) : (s.wr f i j v).sec = s.sec := rfl
@[simp] theorem wr_out (f : Fld) (i j v : Nat) : (s.wr f i j v).out = s.out := rfl
@[simp] theorem wr_fresh (f : Fld) (i j v : Nat) : (s.wr f i j v).fresh = s.fresh := rfl
@[simp] theorem wr_pending (f : Fld) (i j v : Nat) : (s.wr f i j v).pending = s.pending := rfl

/-! ### bump -/

@[simp] theorem bump_latch (f : Fld) (i j n : Nat) : (s.bump f i j n).latch = s.latch := rfl
@[simp] theorem bump_hti (f : Fld) (i j n : Nat) : (s.bump f i j n).hti = s.hti := rfl
@[simp] theorem bump_mbx (f : Fld) (i j n : Nat) : (s.bump f i j n).mbx = s.mbx := rfl
@[simp] theorem bump_boot (f : Fld) (i j n : Nat) : (s.bump f i j n).boot = s.boot := rfl
@[simp] theorem bump_ses (f : Fld) (i j n : Nat) : (s.bump f i j n).ses = s.ses := rfl
@[simp] theorem bump_tier (f : Fld) (i j n : Nat) : (s.bump f i j n).tier = s.tier := rfl
@[simp] theorem bump_gore (f : Fld) (i j n : Nat) : (s.bump f i j n).gore = s.gore := rfl
@[simp] theorem bump_attn (f : Fld) (i j n : Nat) : (s.bump f i j n).attn = s.attn := rfl
@[simp] theorem bump_pwr (f : Fld) (i j n : Nat) : (s.bump f i j n).pwr = s.pwr := rfl
@[simp] theorem bump_pins (f : Fld) (i j n : Nat) : (s.bump f i j n).pins = s.pins := rfl
@[simp] theorem bump_fab (f : Fld) (i j n : Nat) : (s.bump f i j n).fab = s.fab := rfl
@[simp] theorem bump_fleet (f : Fld) (i j n : Nat) : (s.bump f i j n).fleet = s.fleet := rfl
@[simp] theorem bump_dec (f : Fld) (i j n : Nat) : (s.bump f i j n).dec = s.dec := rfl
@[simp] theorem bump_pool (f : Fld) (i j n : Nat) : (s.bump f i j n).pool = s.pool := rfl
@[simp] theorem bump_rcl (f : Fld) (i j n : Nat) : (s.bump f i j n).rcl = s.rcl := rfl
@[simp] theorem bump_ring (f : Fld) (i j n : Nat) : (s.bump f i j n).ring = s.ring := rfl
@[simp] theorem bump_sec (f : Fld) (i j n : Nat) : (s.bump f i j n).sec = s.sec := rfl
@[simp] theorem bump_out (f : Fld) (i j n : Nat) : (s.bump f i j n).out = s.out := rfl
@[simp] theorem bump_fresh (f : Fld) (i j n : Nat) : (s.bump f i j n).fresh = s.fresh := rfl
@[simp] theorem bump_pending (f : Fld) (i j n : Nat) : (s.bump f i j n).pending = s.pending := rfl

/-! ### emit -/

@[simp] theorem emit_regs (o : Out) : (s.emit o).regs = s.regs := rfl
@[simp] theorem emit_latch (o : Out) : (s.emit o).latch = s.latch := rfl
@[simp] theorem emit_hti (o : Out) : (s.emit o).hti = s.hti := rfl
@[simp] theorem emit_mbx (o : Out) : (s.emit o).mbx = s.mbx := rfl
@[simp] theorem emit_boot (o : Out) : (s.emit o).boot = s.boot := rfl
@[simp] theorem emit_ses (o : Out) : (s.emit o).ses = s.ses := rfl
@[simp] theorem emit_tier (o : Out) : (s.emit o).tier = s.tier := rfl
@[simp] theorem emit_gore (o : Out) : (s.emit o).gore = s.gore := rfl
@[simp] theorem emit_attn (o : Out) : (s.emit o).attn = s.attn := rfl
@[simp] theorem emit_pwr (o : Out) : (s.emit o).pwr = s.pwr := rfl
@[simp] theorem emit_pins (o : Out) : (s.emit o).pins = s.pins := rfl
@[simp] theorem emit_fab (o : Out) : (s.emit o).fab = s.fab := rfl
@[simp] theorem emit_fleet (o : Out) : (s.emit o).fleet = s.fleet := rfl
@[simp] theorem emit_dec (o : Out) : (s.emit o).dec = s.dec := rfl
@[simp] theorem emit_pool (o : Out) : (s.emit o).pool = s.pool := rfl
@[simp] theorem emit_rcl (o : Out) : (s.emit o).rcl = s.rcl := rfl
@[simp] theorem emit_ring (o : Out) : (s.emit o).ring = s.ring := rfl
@[simp] theorem emit_sec (o : Out) : (s.emit o).sec = s.sec := rfl
@[simp] theorem emit_out (o : Out) : (s.emit o).out = s.out ++ [o] := rfl
@[simp] theorem emit_fresh (o : Out) : (s.emit o).fresh = s.fresh := rfl
@[simp] theorem emit_pending (o : Out) : (s.emit o).pending = s.pending := rfl
@[simp] theorem rd_emit (o : Out) (g : Fld) (u v : Nat) : (s.emit o).rd g u v = s.rd g u v := rfl

/-! ### tickFree -/

@[simp] theorem tickFree_regs : (s.tickFree).regs = s.regs := rfl
@[simp] theorem tickFree_latch : (s.tickFree).latch = s.latch := rfl
@[simp] theorem tickFree_hti : (s.tickFree).hti = s.hti := rfl
@[simp] theorem tickFree_mbx : (s.tickFree).mbx = s.mbx := rfl
@[simp] theorem tickFree_boot : (s.tickFree).boot = s.boot := rfl
@[simp] theorem tickFree_ses : (s.tickFree).ses = s.ses := rfl
@[simp] theorem tickFree_tier : (s.tickFree).tier = s.tier := rfl
@[simp] theorem tickFree_gore : (s.tickFree).gore = s.gore := rfl
@[simp] theorem tickFree_attn : (s.tickFree).attn = s.attn := rfl
@[simp] theorem tickFree_pwr : (s.tickFree).pwr = s.pwr := rfl
@[simp] theorem tickFree_pins : (s.tickFree).pins = s.pins := rfl
@[simp] theorem tickFree_fab : (s.tickFree).fab = s.fab := rfl
@[simp] theorem tickFree_fleet : (s.tickFree).fleet = s.fleet := rfl
@[simp] theorem tickFree_dec : (s.tickFree).dec = s.dec := rfl
@[simp] theorem tickFree_pool : (s.tickFree).pool = s.pool := rfl
@[simp] theorem tickFree_rcl : (s.tickFree).rcl = s.rcl := rfl
@[simp] theorem tickFree_ring : (s.tickFree).ring = s.ring := rfl
@[simp] theorem tickFree_sec : (s.tickFree).sec = s.sec := rfl
@[simp] theorem tickFree_out : (s.tickFree).out = s.out := rfl
@[simp] theorem tickFree_fresh : (s.tickFree).fresh = s.fresh + 1 := rfl
@[simp] theorem tickFree_pending : (s.tickFree).pending = s.pending := rfl
@[simp] theorem rd_tickFree (g : Fld) (u v : Nat) : (s.tickFree).rd g u v = s.rd g u v := rfl

/-! ### setEvt -/

@[simp] theorem setEvt_regs (c : Nat) (e : EvtCtx) : (s.setEvt c e).regs = s.regs := rfl
@[simp] theorem setEvt_latch (c : Nat) (e : EvtCtx) : (s.setEvt c e).latch = s.latch := rfl
@[simp] theorem setEvt_hti (c : Nat) (e : EvtCtx) : (s.setEvt c e).hti = s.hti := rfl
@[simp] theorem setEvt_mbx (c : Nat) (e : EvtCtx) : (s.setEvt c e).mbx = { s.mbx with evts := Map.put s.mbx.evts c e } := rfl
@[simp] theorem setEvt_boot (c : Nat) (e : EvtCtx) : (s.setEvt c e).boot = s.boot := rfl
@[simp] theorem setEvt_ses (c : Nat) (e : EvtCtx) : (s.setEvt c e).ses = s.ses := rfl
@[simp] theorem setEvt_tier (c : Nat) (e : EvtCtx) : (s.setEvt c e).tier = s.tier := rfl
@[simp] theorem setEvt_gore (c : Nat) (e : EvtCtx) : (s.setEvt c e).gore = s.gore := rfl
@[simp] theorem setEvt_attn (c : Nat) (e : EvtCtx) : (s.setEvt c e).attn = s.attn := rfl
@[simp] theorem setEvt_pwr (c : Nat) (e : EvtCtx) : (s.setEvt c e).pwr = s.pwr := rfl
@[simp] theorem setEvt_pins (c : Nat) (e : EvtCtx) : (s.setEvt c e).pins = s.pins := rfl
@[simp] theorem setEvt_fab (c : Nat) (e : EvtCtx) : (s.setEvt c e).fab = s.fab := rfl
@[simp] theorem setEvt_fleet (c : Nat) (e : EvtCtx) : (s.setEvt c e).fleet = s.fleet := rfl
@[simp] theorem setEvt_dec (c : Nat) (e : EvtCtx) : (s.setEvt c e).dec = s.dec := rfl
@[simp] theorem setEvt_pool (c : Nat) (e : EvtCtx) : (s.setEvt c e).pool = s.pool := rfl
@[simp] theorem setEvt_rcl (c : Nat) (e : EvtCtx) : (s.setEvt c e).rcl = s.rcl := rfl
@[simp] theorem setEvt_ring (c : Nat) (e : EvtCtx) : (s.setEvt c e).ring = s.ring := rfl
@[simp] theorem setEvt_sec (c : Nat) (e : EvtCtx) : (s.setEvt c e).sec = s.sec := rfl
@[simp] theorem setEvt_out (c : Nat) (e : EvtCtx) : (s.setEvt c e).out = s.out := rfl
@[simp] theorem setEvt_fresh (c : Nat) (e : EvtCtx) : (s.setEvt c e).fresh = s.fresh := rfl
@[simp] theorem setEvt_pending (c : Nat) (e : EvtCtx) : (s.setEvt c e).pending = s.pending := rfl
@[simp] theorem rd_setEvt (c : Nat) (e : EvtCtx) (g : Fld) (u v : Nat) : (s.setEvt c e).rd g u v = s.rd g u v := rfl

/-! ### setPair -/

@[simp] theorem setPair_regs (c q : Nat) (p : Pair) : (s.setPair c q p).regs = s.regs := rfl
@[simp] theorem setPair_latch (c q : Nat) (p : Pair) : (s.setPair c q p).latch = s.latch := rfl
@[simp] theorem setPair_hti (c q : Nat) (p : Pair) : (s.setPair c q p).hti = { s.hti with pairs := Map.put s.hti.pairs (pairKey c q) p } := rfl
@[simp] theorem setPair_mbx (c q : Nat) (p : Pair) : (s.setPair c q p).mbx = s.mbx := rfl
@[simp] theorem setPair_boot (c q : Nat) (p : Pair) : (s.setPair c q p).boot = s.boot := rfl
@[simp] theorem setPair_ses (c q : Nat) (p : Pair) : (s.setPair c q p).ses = s.ses := rfl
@[simp] theorem setPair_tier (c q : Nat) (p : Pair) : (s.setPair c q p).tier = s.tier := rfl
@[simp] theorem setPair_gore (c q : Nat) (p : Pair) : (s.setPair c q p).gore = s.gore := rfl
@[simp] theorem setPair_attn (c q : Nat) (p : Pair) : (s.setPair c q p).attn = s.attn := rfl
@[simp] theorem setPair_pwr (c q : Nat) (p : Pair) : (s.setPair c q p).pwr = s.pwr := rfl
@[simp] theorem setPair_pins (c q : Nat) (p : Pair) : (s.setPair c q p).pins = s.pins := rfl
@[simp] theorem setPair_fab (c q : Nat) (p : Pair) : (s.setPair c q p).fab = s.fab := rfl
@[simp] theorem setPair_fleet (c q : Nat) (p : Pair) : (s.setPair c q p).fleet = s.fleet := rfl
@[simp] theorem setPair_dec (c q : Nat) (p : Pair) : (s.setPair c q p).dec = s.dec := rfl
@[simp] theorem setPair_pool (c q : Nat) (p : Pair) : (s.setPair c q p).pool = s.pool := rfl
@[simp] theorem setPair_rcl (c q : Nat) (p : Pair) : (s.setPair c q p).rcl = s.rcl := rfl
@[simp] theorem setPair_ring (c q : Nat) (p : Pair) : (s.setPair c q p).ring = s.ring := rfl
@[simp] theorem setPair_sec (c q : Nat) (p : Pair) : (s.setPair c q p).sec = s.sec := rfl
@[simp] theorem setPair_out (c q : Nat) (p : Pair) : (s.setPair c q p).out = s.out := rfl
@[simp] theorem setPair_fresh (c q : Nat) (p : Pair) : (s.setPair c q p).fresh = s.fresh := rfl
@[simp] theorem setPair_pending (c q : Nat) (p : Pair) : (s.setPair c q p).pending = s.pending := rfl
@[simp] theorem rd_setPair (c q : Nat) (p : Pair) (g : Fld) (u v : Nat) : (s.setPair c q p).rd g u v = s.rd g u v := rfl

/-! ### dropPair -/

@[simp] theorem dropPair_regs (c q : Nat) : (s.dropPair c q).regs = s.regs := rfl
@[simp] theorem dropPair_latch (c q : Nat) : (s.dropPair c q).latch = s.latch := rfl
@[simp] theorem dropPair_hti (c q : Nat) : (s.dropPair c q).hti = { s.hti with pairs := Map.del s.hti.pairs (pairKey c q) } := rfl
@[simp] theorem dropPair_mbx (c q : Nat) : (s.dropPair c q).mbx = s.mbx := rfl
@[simp] theorem dropPair_boot (c q : Nat) : (s.dropPair c q).boot = s.boot := rfl
@[simp] theorem dropPair_ses (c q : Nat) : (s.dropPair c q).ses = s.ses := rfl
@[simp] theorem dropPair_tier (c q : Nat) : (s.dropPair c q).tier = s.tier := rfl
@[simp] theorem dropPair_gore (c q : Nat) : (s.dropPair c q).gore = s.gore := rfl
@[simp] theorem dropPair_attn (c q : Nat) : (s.dropPair c q).attn = s.attn := rfl
@[simp] theorem dropPair_pwr (c q : Nat) : (s.dropPair c q).pwr = s.pwr := rfl
@[simp] theorem dropPair_pins (c q : Nat) : (s.dropPair c q).pins = s.pins := rfl
@[simp] theorem dropPair_fab (c q : Nat) : (s.dropPair c q).fab = s.fab := rfl
@[simp] theorem dropPair_fleet (c q : Nat) : (s.dropPair c q).fleet = s.fleet := rfl
@[simp] theorem dropPair_dec (c q : Nat) : (s.dropPair c q).dec = s.dec := rfl
@[simp] theorem dropPair_pool (c q : Nat) : (s.dropPair c q).pool = s.pool := rfl
@[simp] theorem dropPair_rcl (c q : Nat) : (s.dropPair c q).rcl = s.rcl := rfl
@[simp] theorem dropPair_ring (c q : Nat) : (s.dropPair c q).ring = s.ring := rfl
@[simp] theorem dropPair_sec (c q : Nat) : (s.dropPair c q).sec = s.sec := rfl
@[simp] theorem dropPair_out (c q : Nat) : (s.dropPair c q).out = s.out := rfl
@[simp] theorem dropPair_fresh (c q : Nat) : (s.dropPair c q).fresh = s.fresh := rfl
@[simp] theorem dropPair_pending (c q : Nat) : (s.dropPair c q).pending = s.pending := rfl
@[simp] theorem rd_dropPair (c q : Nat) (g : Fld) (u v : Nat) : (s.dropPair c q).rd g u v = s.rd g u v := rfl

/-! ### setCmds -/

@[simp] theorem setCmds_regs (l : List Cmd) : (s.setCmds l).regs = s.regs := rfl
@[simp] theorem setCmds_latch (l : List Cmd) : (s.setCmds l).latch = s.latch := rfl
@[simp] theorem setCmds_hti (l : List Cmd) : (s.setCmds l).hti = { s.hti with cmds := l } := rfl
@[simp] theorem setCmds_mbx (l : List Cmd) : (s.setCmds l).mbx = s.mbx := rfl
@[simp] theorem setCmds_boot (l : List Cmd) : (s.setCmds l).boot = s.boot := rfl
@[simp] theorem setCmds_ses (l : List Cmd) : (s.setCmds l).ses = s.ses := rfl
@[simp] theorem setCmds_tier (l : List Cmd) : (s.setCmds l).tier = s.tier := rfl
@[simp] theorem setCmds_gore (l : List Cmd) : (s.setCmds l).gore = s.gore := rfl
@[simp] theorem setCmds_attn (l : List Cmd) : (s.setCmds l).attn = s.attn := rfl
@[simp] theorem setCmds_pwr (l : List Cmd) : (s.setCmds l).pwr = s.pwr := rfl
@[simp] theorem setCmds_pins (l : List Cmd) : (s.setCmds l).pins = s.pins := rfl
@[simp] theorem setCmds_fab (l : List Cmd) : (s.setCmds l).fab = s.fab := rfl
@[simp] theorem setCmds_fleet (l : List Cmd) : (s.setCmds l).fleet = s.fleet := rfl
@[simp] theorem setCmds_dec (l : List Cmd) : (s.setCmds l).dec = s.dec := rfl
@[simp] theorem setCmds_pool (l : List Cmd) : (s.setCmds l).pool = s.pool := rfl
@[simp] theorem setCmds_rcl (l : List Cmd) : (s.setCmds l).rcl = s.rcl := rfl
@[simp] theorem setCmds_ring (l : List Cmd) : (s.setCmds l).ring = s.ring := rfl
@[simp] theorem setCmds_sec (l : List Cmd) : (s.setCmds l).sec = s.sec := rfl
@[simp] theorem setCmds_out (l : List Cmd) : (s.setCmds l).out = s.out := rfl
@[simp] theorem setCmds_fresh (l : List Cmd) : (s.setCmds l).fresh = s.fresh := rfl
@[simp] theorem setCmds_pending (l : List Cmd) : (s.setCmds l).pending = s.pending := rfl
@[simp] theorem rd_setCmds (l : List Cmd) (g : Fld) (u v : Nat) : (s.setCmds l).rd g u v = s.rd g u v := rfl

/-! ### setMbx -/

@[simp] theorem setMbx_regs (m : Mbx) : (s.setMbx m).regs = s.regs := rfl
@[simp] theorem setMbx_latch (m : Mbx) : (s.setMbx m).latch = s.latch := rfl
@[simp] theorem setMbx_hti (m : Mbx) : (s.setMbx m).hti = s.hti := rfl
@[simp] theorem setMbx_mbx (m : Mbx) : (s.setMbx m).mbx = m := rfl
@[simp] theorem setMbx_boot (m : Mbx) : (s.setMbx m).boot = s.boot := rfl
@[simp] theorem setMbx_ses (m : Mbx) : (s.setMbx m).ses = s.ses := rfl
@[simp] theorem setMbx_tier (m : Mbx) : (s.setMbx m).tier = s.tier := rfl
@[simp] theorem setMbx_gore (m : Mbx) : (s.setMbx m).gore = s.gore := rfl
@[simp] theorem setMbx_attn (m : Mbx) : (s.setMbx m).attn = s.attn := rfl
@[simp] theorem setMbx_pwr (m : Mbx) : (s.setMbx m).pwr = s.pwr := rfl
@[simp] theorem setMbx_pins (m : Mbx) : (s.setMbx m).pins = s.pins := rfl
@[simp] theorem setMbx_fab (m : Mbx) : (s.setMbx m).fab = s.fab := rfl
@[simp] theorem setMbx_fleet (m : Mbx) : (s.setMbx m).fleet = s.fleet := rfl
@[simp] theorem setMbx_dec (m : Mbx) : (s.setMbx m).dec = s.dec := rfl
@[simp] theorem setMbx_pool (m : Mbx) : (s.setMbx m).pool = s.pool := rfl
@[simp] theorem setMbx_rcl (m : Mbx) : (s.setMbx m).rcl = s.rcl := rfl
@[simp] theorem setMbx_ring (m : Mbx) : (s.setMbx m).ring = s.ring := rfl
@[simp] theorem setMbx_sec (m : Mbx) : (s.setMbx m).sec = s.sec := rfl
@[simp] theorem setMbx_out (m : Mbx) : (s.setMbx m).out = s.out := rfl
@[simp] theorem setMbx_fresh (m : Mbx) : (s.setMbx m).fresh = s.fresh := rfl
@[simp] theorem setMbx_pending (m : Mbx) : (s.setMbx m).pending = s.pending := rfl
@[simp] theorem rd_setMbx (m : Mbx) (g : Fld) (u v : Nat) : (s.setMbx m).rd g u v = s.rd g u v := rfl

/-! ### setBoot -/

@[simp] theorem setBoot_regs (b : BootSt) : (s.setBoot b).regs = s.regs := rfl
@[simp] theorem setBoot_latch (b : BootSt) : (s.setBoot b).latch = s.latch := rfl
@[simp] theorem setBoot_hti (b : BootSt) : (s.setBoot b).hti = s.hti := rfl
@[simp] theorem setBoot_mbx (b : BootSt) : (s.setBoot b).mbx = s.mbx := rfl
@[simp] theorem setBoot_boot (b : BootSt) : (s.setBoot b).boot = b := rfl
@[simp] theorem setBoot_ses (b : BootSt) : (s.setBoot b).ses = s.ses := rfl
@[simp] theorem setBoot_tier (b : BootSt) : (s.setBoot b).tier = s.tier := rfl
@[simp] theorem setBoot_gore (b : BootSt) : (s.setBoot b).gore = s.gore := rfl
@[simp] theorem setBoot_attn (b : BootSt) : (s.setBoot b).attn = s.attn := rfl
@[simp] theorem setBoot_pwr (b : BootSt) : (s.setBoot b).pwr = s.pwr := rfl
@[simp] theorem setBoot_pins (b : BootSt) : (s.setBoot b).pins = s.pins := rfl
@[simp] theorem setBoot_fab (b : BootSt) : (s.setBoot b).fab = s.fab := rfl
@[simp] theorem setBoot_fleet (b : BootSt) : (s.setBoot b).fleet = s.fleet := rfl
@[simp] theorem setBoot_dec (b : BootSt) : (s.setBoot b).dec = s.dec := rfl
@[simp] theorem setBoot_pool (b : BootSt) : (s.setBoot b).pool = s.pool := rfl
@[simp] theorem setBoot_rcl (b : BootSt) : (s.setBoot b).rcl = s.rcl := rfl
@[simp] theorem setBoot_ring (b : BootSt) : (s.setBoot b).ring = s.ring := rfl
@[simp] theorem setBoot_sec (b : BootSt) : (s.setBoot b).sec = s.sec := rfl
@[simp] theorem setBoot_out (b : BootSt) : (s.setBoot b).out = s.out := rfl
@[simp] theorem setBoot_fresh (b : BootSt) : (s.setBoot b).fresh = s.fresh := rfl
@[simp] theorem setBoot_pending (b : BootSt) : (s.setBoot b).pending = s.pending := rfl
@[simp] theorem rd_setBoot (b : BootSt) (g : Fld) (u v : Nat) : (s.setBoot b).rd g u v = s.rd g u v := rfl

/-! ### setPwr -/

@[simp] theorem setPwr_regs (p : Pwr) : (s.setPwr p).regs = s.regs := rfl
@[simp] theorem setPwr_latch (p : Pwr) : (s.setPwr p).latch = s.latch := rfl
@[simp] theorem setPwr_hti (p : Pwr) : (s.setPwr p).hti = s.hti := rfl
@[simp] theorem setPwr_mbx (p : Pwr) : (s.setPwr p).mbx = s.mbx := rfl
@[simp] theorem setPwr_boot (p : Pwr) : (s.setPwr p).boot = s.boot := rfl
@[simp] theorem setPwr_ses (p : Pwr) : (s.setPwr p).ses = s.ses := rfl
@[simp] theorem setPwr_tier (p : Pwr) : (s.setPwr p).tier = s.tier := rfl
@[simp] theorem setPwr_gore (p : Pwr) : (s.setPwr p).gore = s.gore := rfl
@[simp] theorem setPwr_attn (p : Pwr) : (s.setPwr p).attn = s.attn := rfl
@[simp] theorem setPwr_pwr (p : Pwr) : (s.setPwr p).pwr = p := rfl
@[simp] theorem setPwr_pins (p : Pwr) : (s.setPwr p).pins = s.pins := rfl
@[simp] theorem setPwr_fab (p : Pwr) : (s.setPwr p).fab = s.fab := rfl
@[simp] theorem setPwr_fleet (p : Pwr) : (s.setPwr p).fleet = s.fleet := rfl
@[simp] theorem setPwr_dec (p : Pwr) : (s.setPwr p).dec = s.dec := rfl
@[simp] theorem setPwr_pool (p : Pwr) : (s.setPwr p).pool = s.pool := rfl
@[simp] theorem setPwr_rcl (p : Pwr) : (s.setPwr p).rcl = s.rcl := rfl
@[simp] theorem setPwr_ring (p : Pwr) : (s.setPwr p).ring = s.ring := rfl
@[simp] theorem setPwr_sec (p : Pwr) : (s.setPwr p).sec = s.sec := rfl
@[simp] theorem setPwr_out (p : Pwr) : (s.setPwr p).out = s.out := rfl
@[simp] theorem setPwr_fresh (p : Pwr) : (s.setPwr p).fresh = s.fresh := rfl
@[simp] theorem setPwr_pending (p : Pwr) : (s.setPwr p).pending = s.pending := rfl
@[simp] theorem rd_setPwr (p : Pwr) (g : Fld) (u v : Nat) : (s.setPwr p).rd g u v = s.rd g u v := rfl

/-! ### setPins -/

@[simp] theorem setPins_regs (p : Pins) : (s.setPins p).regs = s.regs := rfl
@[simp] theorem setPins_latch (p : Pins) : (s.setPins p).latch = s.latch := rfl
@[simp] theorem setPins_hti (p : Pins) : (s.setPins p).hti = s.hti := rfl
@[simp] theorem setPins_mbx (p : Pins) : (s.setPins p).mbx = s.mbx := rfl
@[simp] theorem setPins_boot (p : Pins) : (s.setPins p).boot = s.boot := rfl
@[simp] theorem setPins_ses (p : Pins) : (s.setPins p).ses = s.ses := rfl
@[simp] theorem setPins_tier (p : Pins) : (s.setPins p).tier = s.tier := rfl
@[simp] theorem setPins_gore (p : Pins) : (s.setPins p).gore = s.gore := rfl
@[simp] theorem setPins_attn (p : Pins) : (s.setPins p).attn = s.attn := rfl
@[simp] theorem setPins_pwr (p : Pins) : (s.setPins p).pwr = s.pwr := rfl
@[simp] theorem setPins_pins (p : Pins) : (s.setPins p).pins = p := rfl
@[simp] theorem setPins_fab (p : Pins) : (s.setPins p).fab = s.fab := rfl
@[simp] theorem setPins_fleet (p : Pins) : (s.setPins p).fleet = s.fleet := rfl
@[simp] theorem setPins_dec (p : Pins) : (s.setPins p).dec = s.dec := rfl
@[simp] theorem setPins_pool (p : Pins) : (s.setPins p).pool = s.pool := rfl
@[simp] theorem setPins_rcl (p : Pins) : (s.setPins p).rcl = s.rcl := rfl
@[simp] theorem setPins_ring (p : Pins) : (s.setPins p).ring = s.ring := rfl
@[simp] theorem setPins_sec (p : Pins) : (s.setPins p).sec = s.sec := rfl
@[simp] theorem setPins_out (p : Pins) : (s.setPins p).out = s.out := rfl
@[simp] theorem setPins_fresh (p : Pins) : (s.setPins p).fresh = s.fresh := rfl
@[simp] theorem setPins_pending (p : Pins) : (s.setPins p).pending = s.pending := rfl
@[simp] theorem rd_setPins (p : Pins) (g : Fld) (u v : Nat) : (s.setPins p).rd g u v = s.rd g u v := rfl

/-! ### setFab -/

@[simp] theorem setFab_regs (x : Fab) : (s.setFab x).regs = s.regs := rfl
@[simp] theorem setFab_latch (x : Fab) : (s.setFab x).latch = s.latch := rfl
@[simp] theorem setFab_hti (x : Fab) : (s.setFab x).hti = s.hti := rfl
@[simp] theorem setFab_mbx (x : Fab) : (s.setFab x).mbx = s.mbx := rfl
@[simp] theorem setFab_boot (x : Fab) : (s.setFab x).boot = s.boot := rfl
@[simp] theorem setFab_ses (x : Fab) : (s.setFab x).ses = s.ses := rfl
@[simp] theorem setFab_tier (x : Fab) : (s.setFab x).tier = s.tier := rfl
@[simp] theorem setFab_gore (x : Fab) : (s.setFab x).gore = s.gore := rfl
@[simp] theorem setFab_attn (x : Fab) : (s.setFab x).attn = s.attn := rfl
@[simp] theorem setFab_pwr (x : Fab) : (s.setFab x).pwr = s.pwr := rfl
@[simp] theorem setFab_pins (x : Fab) : (s.setFab x).pins = s.pins := rfl
@[simp] theorem setFab_fab (x : Fab) : (s.setFab x).fab = x := rfl
@[simp] theorem setFab_fleet (x : Fab) : (s.setFab x).fleet = s.fleet := rfl
@[simp] theorem setFab_dec (x : Fab) : (s.setFab x).dec = s.dec := rfl
@[simp] theorem setFab_pool (x : Fab) : (s.setFab x).pool = s.pool := rfl
@[simp] theorem setFab_rcl (x : Fab) : (s.setFab x).rcl = s.rcl := rfl
@[simp] theorem setFab_ring (x : Fab) : (s.setFab x).ring = s.ring := rfl
@[simp] theorem setFab_sec (x : Fab) : (s.setFab x).sec = s.sec := rfl
@[simp] theorem setFab_out (x : Fab) : (s.setFab x).out = s.out := rfl
@[simp] theorem setFab_fresh (x : Fab) : (s.setFab x).fresh = s.fresh := rfl
@[simp] theorem setFab_pending (x : Fab) : (s.setFab x).pending = s.pending := rfl
@[simp] theorem rd_setFab (x : Fab) (g : Fld) (u v : Nat) : (s.setFab x).rd g u v = s.rd g u v := rfl

/-! ### setFleet -/

@[simp] theorem setFleet_regs (x : Fleet) : (s.setFleet x).regs = s.regs := rfl
@[simp] theorem setFleet_latch (x : Fleet) : (s.setFleet x).latch = s.latch := rfl
@[simp] theorem setFleet_hti (x : Fleet) : (s.setFleet x).hti = s.hti := rfl
@[simp] theorem setFleet_mbx (x : Fleet) : (s.setFleet x).mbx = s.mbx := rfl
@[simp] theorem setFleet_boot (x : Fleet) : (s.setFleet x).boot = s.boot := rfl
@[simp] theorem setFleet_ses (x : Fleet) : (s.setFleet x).ses = s.ses := rfl
@[simp] theorem setFleet_tier (x : Fleet) : (s.setFleet x).tier = s.tier := rfl
@[simp] theorem setFleet_gore (x : Fleet) : (s.setFleet x).gore = s.gore := rfl
@[simp] theorem setFleet_attn (x : Fleet) : (s.setFleet x).attn = s.attn := rfl
@[simp] theorem setFleet_pwr (x : Fleet) : (s.setFleet x).pwr = s.pwr := rfl
@[simp] theorem setFleet_pins (x : Fleet) : (s.setFleet x).pins = s.pins := rfl
@[simp] theorem setFleet_fab (x : Fleet) : (s.setFleet x).fab = s.fab := rfl
@[simp] theorem setFleet_fleet (x : Fleet) : (s.setFleet x).fleet = x := rfl
@[simp] theorem setFleet_dec (x : Fleet) : (s.setFleet x).dec = s.dec := rfl
@[simp] theorem setFleet_pool (x : Fleet) : (s.setFleet x).pool = s.pool := rfl
@[simp] theorem setFleet_rcl (x : Fleet) : (s.setFleet x).rcl = s.rcl := rfl
@[simp] theorem setFleet_ring (x : Fleet) : (s.setFleet x).ring = s.ring := rfl
@[simp] theorem setFleet_sec (x : Fleet) : (s.setFleet x).sec = s.sec := rfl
@[simp] theorem setFleet_out (x : Fleet) : (s.setFleet x).out = s.out := rfl
@[simp] theorem setFleet_fresh (x : Fleet) : (s.setFleet x).fresh = s.fresh := rfl
@[simp] theorem setFleet_pending (x : Fleet) : (s.setFleet x).pending = s.pending := rfl
@[simp] theorem rd_setFleet (x : Fleet) (g : Fld) (u v : Nat) : (s.setFleet x).rd g u v = s.rd g u v := rfl

/-! ### setPool -/

@[simp] theorem setPool_regs (p : Pool) : (s.setPool p).regs = s.regs := rfl
@[simp] theorem setPool_latch (p : Pool) : (s.setPool p).latch = s.latch := rfl
@[simp] theorem setPool_hti (p : Pool) : (s.setPool p).hti = s.hti := rfl
@[simp] theorem setPool_mbx (p : Pool) : (s.setPool p).mbx = s.mbx := rfl
@[simp] theorem setPool_boot (p : Pool) : (s.setPool p).boot = s.boot := rfl
@[simp] theorem setPool_ses (p : Pool) : (s.setPool p).ses = s.ses := rfl
@[simp] theorem setPool_tier (p : Pool) : (s.setPool p).tier = s.tier := rfl
@[simp] theorem setPool_gore (p : Pool) : (s.setPool p).gore = s.gore := rfl
@[simp] theorem setPool_attn (p : Pool) : (s.setPool p).attn = s.attn := rfl
@[simp] theorem setPool_pwr (p : Pool) : (s.setPool p).pwr = s.pwr := rfl
@[simp] theorem setPool_pins (p : Pool) : (s.setPool p).pins = s.pins := rfl
@[simp] theorem setPool_fab (p : Pool) : (s.setPool p).fab = s.fab := rfl
@[simp] theorem setPool_fleet (p : Pool) : (s.setPool p).fleet = s.fleet := rfl
@[simp] theorem setPool_dec (p : Pool) : (s.setPool p).dec = s.dec := rfl
@[simp] theorem setPool_pool (p : Pool) : (s.setPool p).pool = p := rfl
@[simp] theorem setPool_rcl (p : Pool) : (s.setPool p).rcl = s.rcl := rfl
@[simp] theorem setPool_ring (p : Pool) : (s.setPool p).ring = s.ring := rfl
@[simp] theorem setPool_sec (p : Pool) : (s.setPool p).sec = s.sec := rfl
@[simp] theorem setPool_out (p : Pool) : (s.setPool p).out = s.out := rfl
@[simp] theorem setPool_fresh (p : Pool) : (s.setPool p).fresh = s.fresh := rfl
@[simp] theorem setPool_pending (p : Pool) : (s.setPool p).pending = s.pending := rfl
@[simp] theorem rd_setPool (p : Pool) (g : Fld) (u v : Nat) : (s.setPool p).rd g u v = s.rd g u v := rfl

/-! ### setRcl -/

@[simp] theorem setRcl_regs (r : Rcl) : (s.setRcl r).regs = s.regs := rfl
@[simp] theorem setRcl_latch (r : Rcl) : (s.setRcl r).latch = s.latch := rfl
@[simp] theorem setRcl_hti (r : Rcl) : (s.setRcl r).hti = s.hti := rfl
@[simp] theorem setRcl_mbx (r : Rcl) : (s.setRcl r).mbx = s.mbx := rfl
@[simp] theorem setRcl_boot (r : Rcl) : (s.setRcl r).boot = s.boot := rfl
@[simp] theorem setRcl_ses (r : Rcl) : (s.setRcl r).ses = s.ses := rfl
@[simp] theorem setRcl_tier (r : Rcl) : (s.setRcl r).tier = s.tier := rfl
@[simp] theorem setRcl_gore (r : Rcl) : (s.setRcl r).gore = s.gore := rfl
@[simp] theorem setRcl_attn (r : Rcl) : (s.setRcl r).attn = s.attn := rfl
@[simp] theorem setRcl_pwr (r : Rcl) : (s.setRcl r).pwr = s.pwr := rfl
@[simp] theorem setRcl_pins (r : Rcl) : (s.setRcl r).pins = s.pins := rfl
@[simp] theorem setRcl_fab (r : Rcl) : (s.setRcl r).fab = s.fab := rfl
@[simp] theorem setRcl_fleet (r : Rcl) : (s.setRcl r).fleet = s.fleet := rfl
@[simp] theorem setRcl_dec (r : Rcl) : (s.setRcl r).dec = s.dec := rfl
@[simp] theorem setRcl_pool (r : Rcl) : (s.setRcl r).pool = s.pool := rfl
@[simp] theorem setRcl_rcl (r : Rcl) : (s.setRcl r).rcl = r := rfl
@[simp] theorem setRcl_ring (r : Rcl) : (s.setRcl r).ring = s.ring := rfl
@[simp] theorem setRcl_sec (r : Rcl) : (s.setRcl r).sec = s.sec := rfl
@[simp] theorem setRcl_out (r : Rcl) : (s.setRcl r).out = s.out := rfl
@[simp] theorem setRcl_fresh (r : Rcl) : (s.setRcl r).fresh = s.fresh := rfl
@[simp] theorem setRcl_pending (r : Rcl) : (s.setRcl r).pending = s.pending := rfl
@[simp] theorem rd_setRcl (r : Rcl) (g : Fld) (u v : Nat) : (s.setRcl r).rd g u v = s.rd g u v := rfl

/-! ### setRing -/

@[simp] theorem setRing_regs (r : Ring) : (s.setRing r).regs = s.regs := rfl
@[simp] theorem setRing_latch (r : Ring) : (s.setRing r).latch = s.latch := rfl
@[simp] theorem setRing_hti (r : Ring) : (s.setRing r).hti = s.hti := rfl
@[simp] theorem setRing_mbx (r : Ring) : (s.setRing r).mbx = s.mbx := rfl
@[simp] theorem setRing_boot (r : Ring) : (s.setRing r).boot = s.boot := rfl
@[simp] theorem setRing_ses (r : Ring) : (s.setRing r).ses = s.ses := rfl
@[simp] theorem setRing_tier (r : Ring) : (s.setRing r).tier = s.tier := rfl
@[simp] theorem setRing_gore (r : Ring) : (s.setRing r).gore = s.gore := rfl
@[simp] theorem setRing_attn (r : Ring) : (s.setRing r).attn = s.attn := rfl
@[simp] theorem setRing_pwr (r : Ring) : (s.setRing r).pwr = s.pwr := rfl
@[simp] theorem setRing_pins (r : Ring) : (s.setRing r).pins = s.pins := rfl
@[simp] theorem setRing_fab (r : Ring) : (s.setRing r).fab = s.fab := rfl
@[simp] theorem setRing_fleet (r : Ring) : (s.setRing r).fleet = s.fleet := rfl
@[simp] theorem setRing_dec (r : Ring) : (s.setRing r).dec = s.dec := rfl
@[simp] theorem setRing_pool (r : Ring) : (s.setRing r).pool = s.pool := rfl
@[simp] theorem setRing_rcl (r : Ring) : (s.setRing r).rcl = s.rcl := rfl
@[simp] theorem setRing_ring (r : Ring) : (s.setRing r).ring = r := rfl
@[simp] theorem setRing_sec (r : Ring) : (s.setRing r).sec = s.sec := rfl
@[simp] theorem setRing_out (r : Ring) : (s.setRing r).out = s.out := rfl
@[simp] theorem setRing_fresh (r : Ring) : (s.setRing r).fresh = s.fresh := rfl
@[simp] theorem setRing_pending (r : Ring) : (s.setRing r).pending = s.pending := rfl
@[simp] theorem rd_setRing (r : Ring) (g : Fld) (u v : Nat) : (s.setRing r).rd g u v = s.rd g u v := rfl

/-! ### setSec -/

@[simp] theorem setSec_regs (x : Sec) : (s.setSec x).regs = s.regs := rfl
@[simp] theorem setSec_latch (x : Sec) : (s.setSec x).latch = s.latch := rfl
@[simp] theorem setSec_hti (x : Sec) : (s.setSec x).hti = s.hti := rfl
@[simp] theorem setSec_mbx (x : Sec) : (s.setSec x).mbx = s.mbx := rfl
@[simp] theorem setSec_boot (x : Sec) : (s.setSec x).boot = s.boot := rfl
@[simp] theorem setSec_ses (x : Sec) : (s.setSec x).ses = s.ses := rfl
@[simp] theorem setSec_tier (x : Sec) : (s.setSec x).tier = s.tier := rfl
@[simp] theorem setSec_gore (x : Sec) : (s.setSec x).gore = s.gore := rfl
@[simp] theorem setSec_attn (x : Sec) : (s.setSec x).attn = s.attn := rfl
@[simp] theorem setSec_pwr (x : Sec) : (s.setSec x).pwr = s.pwr := rfl
@[simp] theorem setSec_pins (x : Sec) : (s.setSec x).pins = s.pins := rfl
@[simp] theorem setSec_fab (x : Sec) : (s.setSec x).fab = s.fab := rfl
@[simp] theorem setSec_fleet (x : Sec) : (s.setSec x).fleet = s.fleet := rfl
@[simp] theorem setSec_dec (x : Sec) : (s.setSec x).dec = s.dec := rfl
@[simp] theorem setSec_pool (x : Sec) : (s.setSec x).pool = s.pool := rfl
@[simp] theorem setSec_rcl (x : Sec) : (s.setSec x).rcl = s.rcl := rfl
@[simp] theorem setSec_ring (x : Sec) : (s.setSec x).ring = s.ring := rfl
@[simp] theorem setSec_sec (x : Sec) : (s.setSec x).sec = x := rfl
@[simp] theorem setSec_out (x : Sec) : (s.setSec x).out = s.out := rfl
@[simp] theorem setSec_fresh (x : Sec) : (s.setSec x).fresh = s.fresh := rfl
@[simp] theorem setSec_pending (x : Sec) : (s.setSec x).pending = s.pending := rfl
@[simp] theorem rd_setSec (x : Sec) (g : Fld) (u v : Nat) : (s.setSec x).rd g u v = s.rd g u v := rfl

/-! ### setItems -/

@[simp] theorem setItems_regs (l : List Item) : (s.setItems l).regs = s.regs := rfl
@[simp] theorem setItems_latch (l : List Item) : (s.setItems l).latch = s.latch := rfl
@[simp] theorem setItems_hti (l : List Item) : (s.setItems l).hti = s.hti := rfl
@[simp] theorem setItems_mbx (l : List Item) : (s.setItems l).mbx = s.mbx := rfl
@[simp] theorem setItems_boot (l : List Item) : (s.setItems l).boot = s.boot := rfl
@[simp] theorem setItems_ses (l : List Item) : (s.setItems l).ses = s.ses := rfl
@[simp] theorem setItems_tier (l : List Item) : (s.setItems l).tier = s.tier := rfl
@[simp] theorem setItems_gore (l : List Item) : (s.setItems l).gore = { s.gore with items := l } := rfl
@[simp] theorem setItems_attn (l : List Item) : (s.setItems l).attn = s.attn := rfl
@[simp] theorem setItems_pwr (l : List Item) : (s.setItems l).pwr = s.pwr := rfl
@[simp] theorem setItems_pins (l : List Item) : (s.setItems l).pins = s.pins := rfl
@[simp] theorem setItems_fab (l : List Item) : (s.setItems l).fab = s.fab := rfl
@[simp] theorem setItems_fleet (l : List Item) : (s.setItems l).fleet = s.fleet := rfl
@[simp] theorem setItems_dec (l : List Item) : (s.setItems l).dec = s.dec := rfl
@[simp] theorem setItems_pool (l : List Item) : (s.setItems l).pool = s.pool := rfl
@[simp] theorem setItems_rcl (l : List Item) : (s.setItems l).rcl = s.rcl := rfl
@[simp] theorem setItems_ring (l : List Item) : (s.setItems l).ring = s.ring := rfl
@[simp] theorem setItems_sec (l : List Item) : (s.setItems l).sec = s.sec := rfl
@[simp] theorem setItems_out (l : List Item) : (s.setItems l).out = s.out := rfl
@[simp] theorem setItems_fresh (l : List Item) : (s.setItems l).fresh = s.fresh := rfl
@[simp] theorem setItems_pending (l : List Item) : (s.setItems l).pending = s.pending := rfl
@[simp] theorem rd_setItems (l : List Item) (g : Fld) (u v : Nat) : (s.setItems l).rd g u v = s.rd g u v := rfl

/-! ### setSteps -/

@[simp] theorem setSteps_regs (l : List Step) : (s.setSteps l).regs = s.regs := rfl
@[simp] theorem setSteps_latch (l : List Step) : (s.setSteps l).latch = s.latch := rfl
@[simp] theorem setSteps_hti (l : List Step) : (s.setSteps l).hti = s.hti := rfl
@[simp] theorem setSteps_mbx (l : List Step) : (s.setSteps l).mbx = s.mbx := rfl
@[simp] theorem setSteps_boot (l : List Step) : (s.setSteps l).boot = s.boot := rfl
@[simp] theorem setSteps_ses (l : List Step) : (s.setSteps l).ses = s.ses := rfl
@[simp] theorem setSteps_tier (l : List Step) : (s.setSteps l).tier = s.tier := rfl
@[simp] theorem setSteps_gore (l : List Step) : (s.setSteps l).gore = s.gore := rfl
@[simp] theorem setSteps_attn (l : List Step) : (s.setSteps l).attn = { s.attn with steps := l } := rfl
@[simp] theorem setSteps_pwr (l : List Step) : (s.setSteps l).pwr = s.pwr := rfl
@[simp] theorem setSteps_pins (l : List Step) : (s.setSteps l).pins = s.pins := rfl
@[simp] theorem setSteps_fab (l : List Step) : (s.setSteps l).fab = s.fab := rfl
@[simp] theorem setSteps_fleet (l : List Step) : (s.setSteps l).fleet = s.fleet := rfl
@[simp] theorem setSteps_dec (l : List Step) : (s.setSteps l).dec = s.dec := rfl
@[simp] theorem setSteps_pool (l : List Step) : (s.setSteps l).pool = s.pool := rfl
@[simp] theorem setSteps_rcl (l : List Step) : (s.setSteps l).rcl = s.rcl := rfl
@[simp] theorem setSteps_ring (l : List Step) : (s.setSteps l).ring = s.ring := rfl
@[simp] theorem setSteps_sec (l : List Step) : (s.setSteps l).sec = s.sec := rfl
@[simp] theorem setSteps_out (l : List Step) : (s.setSteps l).out = s.out := rfl
@[simp] theorem setSteps_fresh (l : List Step) : (s.setSteps l).fresh = s.fresh := rfl
@[simp] theorem setSteps_pending (l : List Step) : (s.setSteps l).pending = s.pending := rfl
@[simp] theorem rd_setSteps (l : List Step) (g : Fld) (u v : Nat) : (s.setSteps l).rd g u v = s.rd g u v := rfl

/-! ### setStreams -/

@[simp] theorem setStreams_regs (l : List Stream) : (s.setStreams l).regs = s.regs := rfl
@[simp] theorem setStreams_latch (l : List Stream) : (s.setStreams l).latch = s.latch := rfl
@[simp] theorem setStreams_hti (l : List Stream) : (s.setStreams l).hti = s.hti := rfl
@[simp] theorem setStreams_mbx (l : List Stream) : (s.setStreams l).mbx = s.mbx := rfl
@[simp] theorem setStreams_boot (l : List Stream) : (s.setStreams l).boot = s.boot := rfl
@[simp] theorem setStreams_ses (l : List Stream) : (s.setStreams l).ses = s.ses := rfl
@[simp] theorem setStreams_tier (l : List Stream) : (s.setStreams l).tier = s.tier := rfl
@[simp] theorem setStreams_gore (l : List Stream) : (s.setStreams l).gore = s.gore := rfl
@[simp] theorem setStreams_attn (l : List Stream) : (s.setStreams l).attn = s.attn := rfl
@[simp] theorem setStreams_pwr (l : List Stream) : (s.setStreams l).pwr = s.pwr := rfl
@[simp] theorem setStreams_pins (l : List Stream) : (s.setStreams l).pins = s.pins := rfl
@[simp] theorem setStreams_fab (l : List Stream) : (s.setStreams l).fab = s.fab := rfl
@[simp] theorem setStreams_fleet (l : List Stream) : (s.setStreams l).fleet = s.fleet := rfl
@[simp] theorem setStreams_dec (l : List Stream) : (s.setStreams l).dec = { s.dec with streams := l } := rfl
@[simp] theorem setStreams_pool (l : List Stream) : (s.setStreams l).pool = s.pool := rfl
@[simp] theorem setStreams_rcl (l : List Stream) : (s.setStreams l).rcl = s.rcl := rfl
@[simp] theorem setStreams_ring (l : List Stream) : (s.setStreams l).ring = s.ring := rfl
@[simp] theorem setStreams_sec (l : List Stream) : (s.setStreams l).sec = s.sec := rfl
@[simp] theorem setStreams_out (l : List Stream) : (s.setStreams l).out = s.out := rfl
@[simp] theorem setStreams_fresh (l : List Stream) : (s.setStreams l).fresh = s.fresh := rfl
@[simp] theorem setStreams_pending (l : List Stream) : (s.setStreams l).pending = s.pending := rfl
@[simp] theorem rd_setStreams (l : List Stream) (g : Fld) (u v : Nat) : (s.setStreams l).rd g u v = s.rd g u v := rfl

/-! ### latched -/

@[simp] theorem latched_regs (key word : Nat) : (s.latched key word).regs = s.regs := rfl
@[simp] theorem latched_latch (key word : Nat) : (s.latched key word).latch = Map.put s.latch key (word % 2 ^ 32) := rfl
@[simp] theorem latched_hti (key word : Nat) : (s.latched key word).hti = s.hti := rfl
@[simp] theorem latched_mbx (key word : Nat) : (s.latched key word).mbx = s.mbx := rfl
@[simp] theorem latched_boot (key word : Nat) : (s.latched key word).boot = s.boot := rfl
@[simp] theorem latched_ses (key word : Nat) : (s.latched key word).ses = s.ses := rfl
@[simp] theorem latched_tier (key word : Nat) : (s.latched key word).tier = s.tier := rfl
@[simp] theorem latched_gore (key word : Nat) : (s.latched key word).gore = s.gore := rfl
@[simp] theorem latched_attn (key word : Nat) : (s.latched key word).attn = s.attn := rfl
@[simp] theorem latched_pwr (key word : Nat) : (s.latched key word).pwr = s.pwr := rfl
@[simp] theorem latched_pins (key word : Nat) : (s.latched key word).pins = s.pins := rfl
@[simp] theorem latched_fab (key word : Nat) : (s.latched key word).fab = s.fab := rfl
@[simp] theorem latched_fleet (key word : Nat) : (s.latched key word).fleet = s.fleet := rfl
@[simp] theorem latched_dec (key word : Nat) : (s.latched key word).dec = s.dec := rfl
@[simp] theorem latched_pool (key word : Nat) : (s.latched key word).pool = s.pool := rfl
@[simp] theorem latched_rcl (key word : Nat) : (s.latched key word).rcl = s.rcl := rfl
@[simp] theorem latched_ring (key word : Nat) : (s.latched key word).ring = s.ring := rfl
@[simp] theorem latched_sec (key word : Nat) : (s.latched key word).sec = s.sec := rfl
@[simp] theorem latched_out (key word : Nat) : (s.latched key word).out = s.out := rfl
@[simp] theorem latched_fresh (key word : Nat) : (s.latched key word).fresh = s.fresh := rfl
@[simp] theorem latched_pending (key word : Nat) : (s.latched key word).pending = s.pending := rfl
@[simp] theorem rd_latched (key word : Nat) (g : Fld) (u v : Nat) : (s.latched key word).rd g u v = s.rd g u v := rfl
@[simp] theorem on_latched (key word : Nat) (g : Fld) (u v : Nat) : (s.latched key word).on g u v = s.on g u v := rfl

/-! ### unlatch -/

@[simp] theorem unlatch_regs (key : Nat) : (s.unlatch key).regs = s.regs := rfl
@[simp] theorem unlatch_latch (key : Nat) : (s.unlatch key).latch = Map.del s.latch key := rfl
@[simp] theorem unlatch_hti (key : Nat) : (s.unlatch key).hti = s.hti := rfl
@[simp] theorem unlatch_mbx (key : Nat) : (s.unlatch key).mbx = s.mbx := rfl
@[simp] theorem unlatch_boot (key : Nat) : (s.unlatch key).boot = s.boot := rfl
@[simp] theorem unlatch_ses (key : Nat) : (s.unlatch key).ses = s.ses := rfl
@[simp] theorem unlatch_tier (key : Nat) : (s.unlatch key).tier = s.tier := rfl
@[simp] theorem unlatch_gore (key : Nat) : (s.unlatch key).gore = s.gore := rfl
@[simp] theorem unlatch_attn (key : Nat) : (s.unlatch key).attn = s.attn := rfl
@[simp] theorem unlatch_pwr (key : Nat) : (s.unlatch key).pwr = s.pwr := rfl
@[simp] theorem unlatch_pins (key : Nat) : (s.unlatch key).pins = s.pins := rfl
@[simp] theorem unlatch_fab (key : Nat) : (s.unlatch key).fab = s.fab := rfl
@[simp] theorem unlatch_fleet (key : Nat) : (s.unlatch key).fleet = s.fleet := rfl
@[simp] theorem unlatch_dec (key : Nat) : (s.unlatch key).dec = s.dec := rfl
@[simp] theorem unlatch_pool (key : Nat) : (s.unlatch key).pool = s.pool := rfl
@[simp] theorem unlatch_rcl (key : Nat) : (s.unlatch key).rcl = s.rcl := rfl
@[simp] theorem unlatch_ring (key : Nat) : (s.unlatch key).ring = s.ring := rfl
@[simp] theorem unlatch_sec (key : Nat) : (s.unlatch key).sec = s.sec := rfl
@[simp] theorem unlatch_out (key : Nat) : (s.unlatch key).out = s.out := rfl
@[simp] theorem unlatch_fresh (key : Nat) : (s.unlatch key).fresh = s.fresh := rfl
@[simp] theorem unlatch_pending (key : Nat) : (s.unlatch key).pending = s.pending := rfl
@[simp] theorem rd_unlatch (key : Nat) (g : Fld) (u v : Nat) : (s.unlatch key).rd g u v = s.rd g u v := rfl
@[simp] theorem on_unlatch (key : Nat) (g : Fld) (u v : Nat) : (s.unlatch key).on g u v = s.on g u v := rfl

/-! ### bridlePut -/

@[simp] theorem bridlePut_regs (c off n x : Nat) : (s.bridlePut c off n x).regs = s.regs := rfl
@[simp] theorem bridlePut_latch (c off n x : Nat) : (s.bridlePut c off n x).latch = s.latch := rfl
@[simp] theorem bridlePut_hti (c off n x : Nat) : (s.bridlePut c off n x).hti = s.hti := rfl
@[simp] theorem bridlePut_mbx (c off n x : Nat) : (s.bridlePut c off n x).mbx = s.mbx := rfl
@[simp] theorem bridlePut_boot (c off n x : Nat) : (s.bridlePut c off n x).boot = s.boot := rfl
@[simp] theorem bridlePut_ses (c off n x : Nat) : (s.bridlePut c off n x).ses = s.ses := rfl
@[simp] theorem bridlePut_tier (c off n x : Nat) : (s.bridlePut c off n x).tier = s.tier := rfl
@[simp] theorem bridlePut_gore (c off n x : Nat) : (s.bridlePut c off n x).gore = s.gore := rfl
@[simp] theorem bridlePut_attn (c off n x : Nat) : (s.bridlePut c off n x).attn = { s.attn with bridle := s.attn.bridle.write (bridleAddr c off) (min n (s.backed c - off)) x } := rfl
@[simp] theorem bridlePut_pwr (c off n x : Nat) : (s.bridlePut c off n x).pwr = s.pwr := rfl
@[simp] theorem bridlePut_pins (c off n x : Nat) : (s.bridlePut c off n x).pins = s.pins := rfl
@[simp] theorem bridlePut_fab (c off n x : Nat) : (s.bridlePut c off n x).fab = s.fab := rfl
@[simp] theorem bridlePut_fleet (c off n x : Nat) : (s.bridlePut c off n x).fleet = s.fleet := rfl
@[simp] theorem bridlePut_dec (c off n x : Nat) : (s.bridlePut c off n x).dec = s.dec := rfl
@[simp] theorem bridlePut_pool (c off n x : Nat) : (s.bridlePut c off n x).pool = s.pool := rfl
@[simp] theorem bridlePut_rcl (c off n x : Nat) : (s.bridlePut c off n x).rcl = s.rcl := rfl
@[simp] theorem bridlePut_ring (c off n x : Nat) : (s.bridlePut c off n x).ring = s.ring := rfl
@[simp] theorem bridlePut_sec (c off n x : Nat) : (s.bridlePut c off n x).sec = s.sec := rfl
@[simp] theorem bridlePut_out (c off n x : Nat) : (s.bridlePut c off n x).out = s.out := rfl
@[simp] theorem bridlePut_fresh (c off n x : Nat) : (s.bridlePut c off n x).fresh = s.fresh := rfl
@[simp] theorem bridlePut_pending (c off n x : Nat) : (s.bridlePut c off n x).pending = s.pending := rfl
@[simp] theorem rd_bridlePut (c off n x : Nat) (g : Fld) (u v : Nat) : (s.bridlePut c off n x).rd g u v = s.rd g u v := rfl
@[simp] theorem on_bridlePut (c off n x : Nat) (g : Fld) (u v : Nat) : (s.bridlePut c off n x).on g u v = s.on g u v := rfl

/-! ### bridleZero -/

@[simp] theorem bridleZero_regs (c : Nat) : (s.bridleZero c).regs = s.regs := rfl
@[simp] theorem bridleZero_latch (c : Nat) : (s.bridleZero c).latch = s.latch := rfl
@[simp] theorem bridleZero_hti (c : Nat) : (s.bridleZero c).hti = s.hti := rfl
@[simp] theorem bridleZero_mbx (c : Nat) : (s.bridleZero c).mbx = s.mbx := rfl
@[simp] theorem bridleZero_boot (c : Nat) : (s.bridleZero c).boot = s.boot := rfl
@[simp] theorem bridleZero_ses (c : Nat) : (s.bridleZero c).ses = s.ses := rfl
@[simp] theorem bridleZero_tier (c : Nat) : (s.bridleZero c).tier = s.tier := rfl
@[simp] theorem bridleZero_gore (c : Nat) : (s.bridleZero c).gore = s.gore := rfl
@[simp] theorem bridleZero_attn (c : Nat) : (s.bridleZero c).attn = { s.attn with bridle := s.attn.bridle.clear (bridleAddr c 0) (bridleAddr (c + 1) 0) } := rfl
@[simp] theorem bridleZero_pwr (c : Nat) : (s.bridleZero c).pwr = s.pwr := rfl
@[simp] theorem bridleZero_pins (c : Nat) : (s.bridleZero c).pins = s.pins := rfl
@[simp] theorem bridleZero_fab (c : Nat) : (s.bridleZero c).fab = s.fab := rfl
@[simp] theorem bridleZero_fleet (c : Nat) : (s.bridleZero c).fleet = s.fleet := rfl
@[simp] theorem bridleZero_dec (c : Nat) : (s.bridleZero c).dec = s.dec := rfl
@[simp] theorem bridleZero_pool (c : Nat) : (s.bridleZero c).pool = s.pool := rfl
@[simp] theorem bridleZero_rcl (c : Nat) : (s.bridleZero c).rcl = s.rcl := rfl
@[simp] theorem bridleZero_ring (c : Nat) : (s.bridleZero c).ring = s.ring := rfl
@[simp] theorem bridleZero_sec (c : Nat) : (s.bridleZero c).sec = s.sec := rfl
@[simp] theorem bridleZero_out (c : Nat) : (s.bridleZero c).out = s.out := rfl
@[simp] theorem bridleZero_fresh (c : Nat) : (s.bridleZero c).fresh = s.fresh := rfl
@[simp] theorem bridleZero_pending (c : Nat) : (s.bridleZero c).pending = s.pending := rfl
@[simp] theorem rd_bridleZero (c : Nat) (g : Fld) (u v : Nat) : (s.bridleZero c).rd g u v = s.rd g u v := rfl
@[simp] theorem on_bridleZero (c : Nat) (g : Fld) (u v : Nat) : (s.bridleZero c).on g u v = s.on g u v := rfl

/-! ### bridleClear -/

@[simp] theorem bridleClear_regs : (s.bridleClear).regs = s.regs := rfl
@[simp] theorem bridleClear_latch : (s.bridleClear).latch = s.latch := rfl
@[simp] theorem bridleClear_hti : (s.bridleClear).hti = s.hti := rfl
@[simp] theorem bridleClear_mbx : (s.bridleClear).mbx = s.mbx := rfl
@[simp] theorem bridleClear_boot : (s.bridleClear).boot = s.boot := rfl
@[simp] theorem bridleClear_ses : (s.bridleClear).ses = s.ses := rfl
@[simp] theorem bridleClear_tier : (s.bridleClear).tier = s.tier := rfl
@[simp] theorem bridleClear_gore : (s.bridleClear).gore = s.gore := rfl
@[simp] theorem bridleClear_attn : (s.bridleClear).attn = { s.attn with bridle := [] } := rfl
@[simp] theorem bridleClear_pwr : (s.bridleClear).pwr = s.pwr := rfl
@[simp] theorem bridleClear_pins : (s.bridleClear).pins = s.pins := rfl
@[simp] theorem bridleClear_fab : (s.bridleClear).fab = s.fab := rfl
@[simp] theorem bridleClear_fleet : (s.bridleClear).fleet = s.fleet := rfl
@[simp] theorem bridleClear_dec : (s.bridleClear).dec = s.dec := rfl
@[simp] theorem bridleClear_pool : (s.bridleClear).pool = s.pool := rfl
@[simp] theorem bridleClear_rcl : (s.bridleClear).rcl = s.rcl := rfl
@[simp] theorem bridleClear_ring : (s.bridleClear).ring = s.ring := rfl
@[simp] theorem bridleClear_sec : (s.bridleClear).sec = s.sec := rfl
@[simp] theorem bridleClear_out : (s.bridleClear).out = s.out := rfl
@[simp] theorem bridleClear_fresh : (s.bridleClear).fresh = s.fresh := rfl
@[simp] theorem bridleClear_pending : (s.bridleClear).pending = s.pending := rfl
@[simp] theorem rd_bridleClear (g : Fld) (u v : Nat) : (s.bridleClear).rd g u v = s.rd g u v := rfl
@[simp] theorem on_bridleClear (g : Fld) (u v : Nat) : (s.bridleClear).on g u v = s.on g u v := rfl

end Sys2Proof.Machine
end

