-- ==== Sys2Proof/Tests/Slice0.lean ====
section
/-! SUPPORT. Tests of the package: commands that are refused as not well formed, single steps, and for each statement a state and
operands that meet its hypotheses. -/

namespace Sys2Proof.Tests

open Sys2Proof Sys2Proof.Machine

set_option Elab.async false

set_option maxRecDepth 20000

/-- A configured block: bring-up is done and every function is ready. -/
def up : State := { State.reset with
  boot := { State.reset.boot with stage := .configured },
  regs := [.CTL_READY_CONTROL, .CTL_READY_NVM, .CTL_READY_SEC, .CTL_READY_HTI, .CTL_READY_MBX, .CTL_READY_TXT, .CTL_READY_DEC,
    .CTL_READY_RCL, .CTL_READY_GORES, .CTL_READY_POOL].foldl (fun r f => regSet r (Fld.key f 0 0) 1) [] }

/-! ### Commands that are not well formed: one for each check -/

theorem test_wf_access_port : (Instr.htiWCqdbWrite 4 0 0 0).wf = false := by decide +kernel
theorem test_wf_context : (Instr.contextPairsClosed 64).wf = false := by decide +kernel
theorem test_wf_pair : (Instr.submissionFetchFail 0 256).wf = false := by decide +kernel
theorem test_wf_bar : (Instr.registerWrite 1 0 0 8 0).wf = false := by decide +kernel
theorem test_wf_size : (Instr.registerWrite 0 0 0 65 0).wf = false := by decide +kernel
theorem test_wf_word : (Instr.registerWrite 0 0 0 8 (2 ^ 64)).wf = false := by decide +kernel
theorem test_wf_host_port : (Instr.hostPortLinkChange 2 0 0 false).wf = false := by decide +kernel
theorem test_wf_vf : (Instr.functionLevelReset 0 (some 64)).wf = false := by decide +kernel
theorem test_wf_pool_port : (Instr.poolPortLinkChange 4 0 0 false).wf = false := by decide +kernel
theorem test_wf_logical_device : (Instr.logicalDeviceBind 0 16 true).wf = false := by decide +kernel
theorem test_wf_flash_port : (Instr.flashPrsntChange 0 8 true).wf = false := by decide +kernel
theorem test_wf_ring_port : (Instr.ringLinkDown 8).wf = false := by decide +kernel
theorem test_wf_bypass_pair : (Instr.bypassRetryTimeout 0 4).wf = false := by decide +kernel
theorem test_wf_function : (Instr.ctlFnDisableStop 8 0).wf = false := by decide +kernel
theorem test_wf_gore : (Instr.goreFence 1200 0).wf = false := by decide +kernel
theorem test_wf_torn : (Instr.workTileEnd 0 0 (some ⟨0, 3, 0, 0, 0, 0⟩)).wf = false := by decide +kernel
theorem test_wf_panel : (Instr.panelReady 30).wf = false := by decide +kernel
theorem test_wf_stack : (Instr.hbmStackTrained 8).wf = false := by decide +kernel
theorem test_wf_tier_object : (Instr.tierObjFailedClear 64 0).wf = false := by decide +kernel
theorem test_wf_tier : (Instr.demotionStart 4 0).wf = false := by decide +kernel
theorem test_wf_lane : (Instr.maskLaneFault 32 0 0).wf = false := by decide +kernel
theorem test_wf_lane_set : (Instr.engineLaneTestDone 65536 0).wf = false := by decide +kernel
theorem test_wf_word8 : (Instr.engineLaneTestDone 0 256).wf = false := by decide +kernel
theorem test_wf_channel : (Instr.mailboxResponseReady 72).wf = false := by decide +kernel
theorem test_wf_vc : (Instr.ringVcWrite 8 0).wf = false := by decide +kernel
theorem test_wf_flewick : (Instr.policeNackReceived 1024 0 0 0 0).wf = false := by decide +kernel
theorem test_wf_key_slot : (Instr.keySlotEmptied 0 16).wf = false := by decide +kernel
theorem test_wf_stream : (Instr.ideStreamFailure 0 256).wf = false := by decide +kernel
theorem test_wf_class : (Instr.preemptTimeout 0 16).wf = false := by decide +kernel
theorem test_wf_word16 : (Instr.replicateReceived 0 0 0 0 65536).wf = false := by decide +kernel
theorem test_wf_word32 : (Instr.replicateReceived 0 0 (2 ^ 32) 0 0).wf = false := by decide +kernel
theorem test_wf_die : (Instr.wholeFlewickFailure 6 0 0).wf = false := by decide +kernel
theorem test_wf_sensor : (Instr.thermalTrip 0 52).wf = false := by decide +kernel
theorem test_wf_good : (Instr.registerWrite 0 0 8 8 1).wf = true := by decide +kernel

/-! ### The queue, and the rows' words -/

theorem test_no_row_has_bits : decodeTableWord 0 0 = none := by decide
theorem test_idle : step State.reset = .next State.reset := rfl

/-! ### Ciphers and hashes, by the vectors of their standards -/

/-- SHA-384 of the three bytes abc (FIPS 180-4). -/
theorem test_sha384 : sha384 3 0x636261 =
    0xa725c834a1ecba5823cce7a12b078680ed5bff435a608b1a63d1de0eab322c270750c69a693da0b58b5ea3453f7500cb := by decide +kernel
/-- Sixteen bytes of zeros under a key of zeros (GCM specification, test case 14). -/
theorem test_gcm : gcmSeal 0 0 0 0 16 0 = 0x19b98ad4b5985b26f06b9999a7c8d1d0189df3bad3c54e076e6b604d3d40a7ce := by decide +kernel
/-- A 256-bit key wrapped under a 256-bit key (RFC 3394, 4.6). -/
theorem test_key_unwrap :
    keyUnwrap 0x1f1e1d1c1b1a191817161514131211100f0e0d0c0b0a09080706050403020100
      0x21dd027a9b8b98fb3bf4991ae7f0c7cb26d30ed8e286573f26f887fb5cb3cccbf410b8c404f4c928 =
    some 0xf0e0d0c0b0a09080706050403020100ffeeddccbbaa99887766554433221100 := by decide +kernel
/-- The base point is a point of P-384, with its coordinates exchanged it is none. -/
theorem test_p384 : p384On p384G = true ∧ p384On (p384G.2, p384G.1) = false := by decide +kernel

theorem wit_IdleStep : up.pending = [] := by decide

theorem wit_RegistersStayCanonical : State.reset.regsOk ∧ step State.reset = .next State.reset := ⟨by unfold State.regsOk; decide, rfl⟩

theorem wit_IdentityStays : State.reset.rd .HTI_ID_DEVICE = 0x1200 ∧ State.reset.rd .HTI_ID_REV = 1 ∧ step State.reset = .next State.reset :=
  ⟨by decide +kernel, by decide +kernel, rfl⟩

theorem wit_OneCommandPerStep : ∃ t, step { up with pending := [.htiErrlogClr 0] } = .next t ∧ t.pending = [] := ⟨_, rfl, by decide +kernel⟩

theorem wit_CommandsChangeOnlyTheirPieces : (∃ t, exec (.htiErrlogClr 1) up = .next t) ∧ mayChange (.htiErrlogClr 1) = [.HTI_ERRLOG] := ⟨⟨_, rfl⟩, rfl⟩

theorem wit_CounterGroupsClear :
    ([Blk.GORE, .TIER, .TXT, .DEC, .RCL, .POOL, .RING, .SHP, .CTL, .MTR, .SEC, .MBX, .NVM, .PWR].all fun b => up.blkOn b && !State.reset.blkOn b) =
      true ∧ bitAt 1 0 = true ∧ bitAt 2 0 = false := by
  decide +kernel

theorem wit_ContextCountersClear : ([Blk.HTI, .GORE, .TIER, .RCL, .SHP].all fun b => up.blkOn b) = true := by decide +kernel

theorem wit_LogAndHistogramClear : up.blkOn .HTI = true ∧ bitAt 0x400 10 = true ∧ up.blkOn .SHP = true ∧ bitAt 1 0 = true := by decide +kernel

theorem wit_RoleMixWrites : up.blkOn .GORE = true ∧ bitsOf 0 6 0 + bitsOf 0 14 8 + bitsOf 0 22 16 ≠ 100 ∧
    bitsOf 0x141432 6 0 + bitsOf 0x141432 14 8 + bitsOf 0x141432 22 16 = 90 ∧
    bitsOf 0x190F3C 6 0 + bitsOf 0x190F3C 14 8 + bitsOf 0x190F3C 22 16 = 100 := by decide +kernel

theorem wit_WatermarkWrites : up.blkOn .TIER = true ∧
    (let v := 95 + 85 * 2 ^ 8 + 100 * 2 ^ 16 + 99 * 2 ^ 24
     [fieldOf .TIER_WM_T1_HIGH v, fieldOf .TIER_WM_T1_LOW v, fieldOf .TIER_WM_T2_HIGH v, fieldOf .TIER_WM_T2_LOW v] = [95, 85, 100, 99]) ∧
    fieldOf .TIER_WM_T1_LOW 0 = 0 := by decide +kernel

theorem wit_RingConfigWrites : up.blkOn .RING = true ∧ fieldOf .RING_VC_BUF_KIB 32 ≤ 1024 ∧
    ¬(1024 < (List.range 8).foldl (fun a n => a + if n = 3 then 0 else up.rd .RING_VC_BUF_KIB n) 0 ∨ up.rd .RING_VC_BUF_KIB 0 < 16) ∧
    1024 < (List.range 8).foldl (fun a n => a + if n = 0 then 65 else up.rd .RING_VC_BUF_KIB n) 0 ∧
    (let v := 5 + 25 * 2 ^ 8 + 50 * 2 ^ 16 + 10 * 2 ^ 24 + 1024 * 2 ^ 32
     [fieldOf .RING_MAP_CFG_HB_MS v, fieldOf .RING_MAP_CFG_ISOLATE_MS v, fieldOf .RING_MAP_CFG_LOSS_MS v, fieldOf .RING_MAP_CFG_FORM_S v,
      fieldOf .RING_MAP_CFG_EXPECT v] = [5, 25, 50, 10, 1024]) := by decide +kernel

/-- `up` with a fabric key in slot 1 and a job that waits for power. -/
def keyed : State := { up with sec := { up.sec with fabric := [(1, 5)] } }
theorem wit_SettingsTakeEffect : keyed.blkOn .PWR = true ∧ keyed.blkOn .GORE = true ∧ keyed.blkOn .MTR = true ∧ keyed.blkOn .SEC = true ∧
    fieldOf .PWR_CLK_MAX_MHZ 2400 = 2400 ∧ fieldOf .PWR_CLK_MAX_MHZ 2401 = 2401 ∧
    40 ≤ fieldOf .PWR_STEP_WATTS (40 + 1 * 1024) ∧ 1 ≤ fieldOf .PWR_STEP_WINDOW_US (40 + 1 * 1024) ∧ fieldOf .GORE_TILE_INJ_MODE 5 ≤ 2 ∧
    keyed.locked 63 = false ∧ keyed.on .HTI_CTX_EN 0 = true ∧ keyed.on .HTI_CTX_EN 63 = false ∧
    Map.has keyed.sec.fabric (fieldOf .SEC_FABRIC_TX_SLOT 0) = false ∧ Map.has keyed.sec.fabric (fieldOf .SEC_FABRIC_TX_SLOT 1) = true ∧
    fieldOf .GORE_SHARE_CAP (1200 * 256) ≤ 1200 := by decide +kernel

theorem wit_RegisterAccesses_a :
    (let off := Fld.bar0 .PWR_LIMIT_TDP_W 0 0
     blkAt off = some (.PWR, off - Blk.base .PWR) ∧ off < 0x4000000 ∧ up.blkOn .PWR = true ∧ up.blkOn .HTI = true ∧
       meet .PWR (off - Blk.base .PWR) 4 = .whole [(.PWR_LIMIT_TDP_W, 0, 0), (.PWR_LIMIT_PEAK_W, 0, 0)] ∧
       (ownRow 0 (.PWR_LIMIT_TDP_W, 0, 0) 5).isNone = true ∧ meet .PWR (off - Blk.base .PWR) 2 = .part ∧ meet .PWR 0xFF000 4 = .nothing) ∧
    (let r : List (Fld × Nat × Nat) := [(.TIER_HEAT_DECAY_MS, 0, 0), (.TIER_HEAT_PROMOTE1, 0, 0), (.TIER_HEAT_PROMOTE2, 0, 0),
       (.TIER_HEAT_DEMOTE1, 0, 0), (.TIER_HEAT_DEMOTE2, 0, 0)]
     meet .TIER 0x18 8 = .whole r ∧ meet .TIER 0x18 4 = .lower r ∧ meet .TIER 0x1C 4 = .upper r ∧
       blkAt (Blk.base .TIER + 0x18) = some (.TIER, 0x18) ∧ blkAt (Blk.base .TIER + 0x1C) = some (.TIER, 0x1C) ∧
       up.blkOn .TIER = true ∧ (ownRow 0 (.TIER_HEAT_DECAY_MS, 0, 0) 5).isNone = true) ∧
    (Fld.info .PWR_LIMIT_TDP_W).ty = .rw := by decide +kernel
theorem wit_RegisterAccesses_b :
    (up.wr .SEC_CTX_TDI 63 0 2).locked 63 = true ∧ (up.wr .SEC_CTX_TDI 63 0 2).blkOn .MTR = true ∧ up.locked 0 = false ∧
    (up.wr .HTI_W_AQCFG_EN 0 0 1).on .HTI_W_AQCFG_EN 0 = true ∧ up.on .HTI_W_AQCFG_EN 0 = false ∧ up.rd .HTI_CTX_EN 0 = 1 ∧
    ((up.wr .HTI_W_AQCFG_EN 0 0 1).putWord [.HTI_CTX_EN, .HTI_CTX_PORT, .HTI_CTX_MGMT, .HTI_CTX_QMAX] 0 0 0).rd .HTI_CTX_EN 0 = 0 ∧
    up.deeper = false ∧ up.port 0 = 0 ∧
    (let s := up.wr .HTI_PORT_CTL_SRIOV 0 0 1
     s.on .HTI_PORT_CTL_SRIOV 0 = true ∧ s.deeper = false ∧ s.port 0 = 0) := by decide +kernel

/-- An open pair 0 of context 0 with rings of 16 slots. -/
def ring0 : Pair := Pair.new 0x1000 0x2000 4 4 1 0 0 0
/-- `up` with that pair. -/
def paired : State := { up with hti := { up.hti with pairs := [(0, ring0)] } }
theorem wit_Doorbells : up.windowOpen 0 0 = true ∧ up.pair 0 0 = none ∧ paired.windowOpen 0 0 = true ∧ paired.pair 0 0 = some ring0 ∧
    2 ^ ring0.sqLog ≤ 16 ∧ 15 < 2 ^ ring0.sqLog ∧ ring0.waitq = [] ∧ ring0.held = [] ∧ paired.mayFetch 0 ring0 = true ∧
    (1 + 2 ^ ring0.sqLog - ring0.fetch) % 2 ^ ring0.sqLog = 1 ∧
    (0 + 2 ^ ring0.cqLog - ring0.head) % 2 ^ ring0.cqLog ≤ (ring0.widx + 2 ^ ring0.cqLog - ring0.head) % 2 ^ ring0.cqLog := by decide +kernel

theorem wit_PairZero : up.windowOpen 0 0 = true ∧ bitAt 0x144 8 = true ∧ up.on .HTI_W_AQCFG_EN = false ∧ up.on .CTL_READY_HTI = true ∧
    up.on .HTI_CTX_EN = true ∧ fieldOf .HTI_W_AQCFG_SQLOG 0x144 = 4 ∧ fieldOf .HTI_W_AQCFG_CQLOG 0x144 = 4 ∧ fieldOf .HTI_W_AQCFG_VEC 0x144 = 0 ∧
    fieldOf .HTI_W_AQCFG_SQLOG 0x143 = 3 ∧ bitAt 0x143 8 = true ∧
    (up.wr .HTI_W_AQCFG_EN 0 0 1).windowOpen 0 0 = true ∧ (up.wr .HTI_W_AQCFG_EN 0 0 1).on .HTI_W_AQCFG_EN = true ∧
    4 ≠ (up.wr .HTI_W_AQCFG_EN 0 0 1).rd .HTI_W_AQCFG_SQLOG ∧
    bitAt 0 8 = false ∧ up.anyPair 0 = false ∧ paired.anyPair 0 = true ∧ paired.windowOpen 0 0 = true ∧ paired.hti.cmds = [] ∧
    (up.wr .HTI_W_AQCFG_RDY 0 0 1).on .HTI_W_AQCFG_RDY = true ∧ (up.wr .HTI_W_AQCFG_RDY 0 0 1).anyPair 0 = false := by decide +kernel

/-- An open pair 1 of context 0 with an entry to fetch and a completion not signalled. -/
def ring1 : Pair := { Pair.new 0x1000 0x2000 4 4 1 3 8 5 with tail := 2, unsig := 1 }
def paired1 : State := { up with hti := { up.hti with pairs := [(0, { ring0 with tail := 1 }), (1, ring1)] } }
theorem wit_PairFaults : paired1.pair 0 1 = some ring1 ∧ paired1.mayFetch 0 ring1 = true ∧ ring1.waitq = [] ∧ ring1.fetch ≠ ring1.tail ∧
    ring1.postFail = false ∧ ring1.unsig ≠ 0 ∧ ring1.coTime ≠ 0 ∧ ring1.oldest + 100 * ring1.coTime ≤ paired1.now + 500 ∧
    paired1.pair 0 0 = some { ring0 with tail := 1 } ∧ paired1.mayFetch 0 { ring0 with tail := 1 } = true := by decide +kernel

/-- `paired` with a waiting command 0 of an opcode on pair 0 of context 0, from a descriptor's content. -/
def cmdOf (op : Nat) (rest : Nat) : Cmd := ⟨0, 0, 0, op, BitVec.ofNat 512 (op + 256 * 0x10 + rest), .waiting, 0, 3, 0, none, []⟩
def withCmd (s : State) (c : Cmd) : State := { s with hti := { s.hti with cmds := [c], nextCmd := 1 } }
/-- `mayRun` as a Boolean. -/
def State.runs (s : State) (op : Nat) (c : Cmd) : Bool :=
  s.cmd 0 = some c && c.op = op && c.phase = .waiting && s.startable c && !(s.on .CTL_RESET_SOFT && namesSession op) && s.tdiRefuse c = none
theorem wit_QueueOpcodes : ([1, 2, 3, 4, 5, 6].all fun op => State.runs (withCmd paired (cmdOf op 0)) op (cmdOf op 0)) = true ∧
    (withCmd paired (cmdOf 1 (1 * 2 ^ 64 + 0x10 * 2 ^ 272))).mayOpen (cmdOf 1 (1 * 2 ^ 64 + 0x10 * 2 ^ 272)) = true ∧
    Desc.byte (cmdOf 1 (1 * 2 ^ 64 + 0x10 * 2 ^ 272)).desc 34 / 16 = 1 ∧ Desc.byte (cmdOf 1 (1 * 2 ^ 64)).desc 34 / 16 = 0 ∧
    (withCmd paired1 (cmdOf 2 (1 * 2 ^ 64))).closeReady (cmdOf 2 (1 * 2 ^ 64)) = true ∧ Desc.byte (cmdOf 2 (1 * 2 ^ 64)).desc 8 = 1 ∧
    (withCmd paired1 (cmdOf 2 (1 * 2 ^ 64))).pair 0 1 = some ring1 ∧ Desc.flag (cmdOf 2 (1 * 2 ^ 64)).desc 8 = false := by
  decide +kernel

theorem wit_CompletionEntries : State.runs (withCmd paired (cmdOf 5 0)) 5 (cmdOf 5 0) = true ∧ (withCmd paired (cmdOf 5 0)).pair 0 0 = some ring0 ∧
    ring0.held = [] ∧ ring0.postFail = false ∧ ring0.room = true ∧ (withCmd paired (cmdOf 5 0)).inError 0 = false := by decide +kernel

/-- A session of context 0 in a state, owned here or not, and its handle. -/
def h0 : Nat := mkHandle 0 0 0 0 0
def sesOf (st : SState) (own : Bool) : Session := { Session.blank h0 0 0 with st := st, owner_ := own, home := true, lostOwner := 7 }
/-- `paired` with that session and a waiting command for it. -/
def sessed (x : Session) (op rest : Nat) : State :=
  let s := withCmd paired (cmdOf op (h0 * 2 ^ 64 + rest))
  { s with ses := { s.ses with tab := [(0, x)] } }
theorem wit_OwnersCommands : ([0x12, 0x13, 0x14, 0x15, 0x17, 0x1A].all fun op =>
    let c := cmdOf op (h0 * 2 ^ 64)
    [sesOf .orphaned false, sesOf .failed false, sesOf .shipping true, sesOf .remote false].all fun x =>
      let s := sessed x op 0
      State.runs s op c && s.noItem c && !Desc.flag c.desc 8 && s.sessLive c && s.sess (Desc.handle c.desc) = some x &&
        s.spoolHere (Desc.handle c.desc) && !(withCmd paired c).sessLive c && State.runs (withCmd paired c) op c) = true := by decide +kernel

/-- A shape descriptor in slot 0 and a session that may be created. -/
def creating : State :=
  let s := (withCmd paired (cmdOf 0x10 0)).wr .CTL_SES_CTX_MAX_SESS 0 0 4
  { s with attn := { s.attn with shapes := [(0, ⟨0, 2, 8, 2, false, 64, 64, 0, 0x3F800000, 0, [0, 0], [0, 0]⟩)] } }
theorem wit_newSlot : creating.newSlot = some (creating.free % Config.descriptors) := rfl
theorem wit_SessionCommands : State.runs creating 0x10 (cmdOf 0x10 0) = true ∧ creating.evacuating = false ∧ creating.rd .RING_STS_MEMBER ≠ 3 ∧
    creating.isShort = false ∧ Map.has creating.attn.shapes 0 = true ∧ creating.madeBy 0 < creating.rd .CTL_SES_CTX_MAX_SESS 0 ∧
    ([0x11, 0x12, 0x13, 0x14, 0x15, 0x16, 0x19, 0x1A].all fun op =>
      [sesOf .aloft true, sesOf .parked true, sesOf .deflated true, sesOf .rebuilding true].all fun x =>
        let c := cmdOf op (h0 * 2 ^ 64)
        let s := sessed x op 0
        State.runs s op c && s.noItem c && s.sessLive c && s.sess (Desc.handle c.desc) = some x && (s.refusal x).isNone && !x.receiving &&
          (s.hti.cmds.all fun d => d.ctx != c.ctx || decide (c.id ≤ d.id)) && !s.isShort && !x.interactive) = true ∧
    Desc.num (cmdOf 0x15 (h0 * 2 ^ 64 + 2 ^ 128)).desc 16 4 = 1 ∧ (sesOf .aloft true).kvLen = 0 ∧
    Desc.flag (cmdOf 0x13 (2 ^ 24)).desc 8 = true := by decide +kernel

theorem wit_SessionCreation : (let c := cmdOf 0x10 0
      State.runs creating 0x10 c && !creating.evacuating && creating.rd .RING_STS_MEMBER != 3 && !creating.isShort &&
        Map.has creating.attn.shapes (Desc.byte c.desc 16) && decide (creating.madeBy 0 < creating.rd .CTL_SES_CTX_MAX_SESS 0) &&
        !Map.has creating.attn.shapes 5 && (creating.wr .CTL_SES_CTX_MAX_SESS 0 0 0).rd .CTL_SES_CTX_MAX_SESS 0 = 0) = true ∧
    (let s := creating.wr .RING_STS_MEMBER 0 0 3
     State.runs s 0x10 (cmdOf 0x10 0) && s.rd .RING_STS_MEMBER = 3) = true ∧
    (let s := creating.wr .CTL_ADM_STS_SHORT 0 0 1
     State.runs s 0x10 (cmdOf 0x10 0) && s.isShort && !(s.dflt 0).interactive && !bitAt (Desc.byte (cmdOf 0x10 0).desc 17) 0 &&
       bitAt (Desc.byte (cmdOf 0x10 (2 ^ 136)).desc 17) 0 && State.runs (withCmd s (cmdOf 0x10 (2 ^ 136))) 0x10 (cmdOf 0x10 (2 ^ 136))) = true := by
  decide +kernel

theorem wit_SessionOutcomes : ([0x11, 0x13, 0x16, 0x19, 0x1A].all fun op =>
      [sesOf .aloft true, sesOf .parked true, sesOf .deflated true, sesOf .reviving true, sesOf .shipping true, sesOf .failed true, sesOf .remote false].all fun x =>
        let c := cmdOf op (h0 * 2 ^ 64)
        let s := sessed x op 0
        State.runs s op c && s.destroyReady c && s.sessLive c && s.sess (Desc.handle c.desc) = some x && s.queryReady c && s.policyReady c) = true ∧
    (let s := sessed { sesOf .parked true with spool_ := true, rbPending := true } 0x16 (2 ^ 128)
     let c := cmdOf 0x16 (h0 * 2 ^ 64 + 2 ^ 128)
     State.runs s 0x16 c && s.queryReady c && Desc.byte c.desc 16 = 1 && (s.sess h0).isSome) = true ∧
    (let c := cmdOf 0x11 (2 ^ 24)
     let s := withCmd paired c
     State.runs s 0x11 c && Desc.flag c.desc 8 && s.destroyReady c && s.ownedBy 0 = []) = true ∧
    (let s := (sessed (sesOf .parked true) 0x13 0).wr .CTL_ADM_STS_SHORT 0 0 1
     s.isShort && (s.refusal (sesOf .parked true)).isNone && !(sesOf .parked true).interactive && !(s.fab.isolated)) = true := by decide +kernel

/-- `up` with a 2 GiB bridle window on port 0, of which context 0 has 16 MiB with two bytes in them. -/
def bridled : State :=
  { up.wr .GORE_BRIDLE_EFF_MIB 0 0 16 with
    boot := { up.boot with b4 := [(0, 5)] }
    attn := { up.attn with bridle := [(3, 7), (9, 1)] } }
theorem wit_BridleBytes : bridled.attn.bridle.wf = true ∧ areaMib (bridled.b4 0) * 2 ^ 20 ≠ 0 ∧ bridled.port 0 = 0 ∧ bridled.rd .SEC_CTX_TDI 0 ≠ 3 ∧
    5 % (areaMib (bridled.b4 0) * 2 ^ 20) + 4 ≤ bridled.backed 0 ∧ bridled.blkOn .GORE = true ∧ bridled.locked 0 = false ∧ bridled.stepsOf 0 = 0 ∧
    (List.range 64).foldl (fun a d => a + if d = 0 then fieldOf .GORE_BRIDLE_MIB 16 else bridled.rd .GORE_BRIDLE_MIB d) 0 ≤ 8192 ∧
    bridled.rsvFits (bridled.backed 0) (bridled.effMib 0 (fieldOf .GORE_BRIDLE_MIB 16) * 2 ^ 20) = true ∧
    fieldOf .GORE_BRIDLE_MIB 16 ≠ bridled.rd .GORE_BRIDLE_MIB 0 := by decide +kernel

/-- A paired block that is member 0 of a fabric with member 1, with key slot 0 of context 0 ACTIVE. -/
def joined1 (s : State) : State :=
  (({ s with fab := { s.fab with members := [0, 1] } }.wr .RING_MAP_STATE 0 0 1).wr .RING_MAP_STATE 1 0 1).wr .SEC_CTX_ACTIVE 0 0 1
theorem wit_TetherCommands : (let c := cmdOf 0x17 (h0 * 2 ^ 64 + 2 ^ 128)
      let s := joined1 (sessed (sesOf .aloft true) 0x17 (2 ^ 128))
      State.runs s 0x17 c && s.shipReady c && s.sessLive c && s.sess (Desc.handle c.desc) = some (sesOf .aloft true) &&
        (s.refusal (sesOf .aloft true)).isNone && Desc.num c.desc 16 2 != s.myId && s.joined (Desc.num c.desc 16 2) &&
        s.jobKeyFail c.ctx (Desc.byte c.desc 18) c.id = none) = true ∧
    ([0, 1].all fun op => [sesOf .aloft true, { sesOf .remote false with home := false }].all fun x =>
      let c := cmdOf 0x18 (h0 * 2 ^ 64 + op * 2 ^ 128)
      let s := sessed x 0x18 (op * 2 ^ 128)
      State.runs s 0x18 c && s.sessLive c && s.sess (Desc.handle c.desc) = some x && Desc.byte c.desc 16 = op && x.isHome = x.home) = true ∧
    (sessed (sesOf .reviving true) 0x13 0).sess h0 = some (sesOf .reviving true) ∧ (sesOf .reviving true).pages = [] ∧
    (((sessed (sesOf .reviving true) 0x13 0).enterAloft h0).bump .CTL_SES_CNT_COUNT 4 0 1).runningOp 0x13 h0 = none ∧
    (let u := (((sessed (sesOf .reviving true) 0x13 0).setPhase 0 .running).enterAloft h0).bump .CTL_SES_CNT_COUNT 4 0 1;
      decide ((u.sess h0).map Session.st = some .aloft) && (u.runningOp 0x13 h0).isSome) = true ∧
    (let x := { sesOf .aloft true with idlePark := 1 }
     let p := (sessed x 1 0).pass 100000
     p.sess h0 = some x && !p.itemInFlight h0 && !p.kvInFlight h0 && decide (max x.lastStep x.entered + 100000 ≤ p.now)) = true ∧
    (sessed (sesOf .remote false) 1 0).sess h0 = some (sesOf .remote false) := by decide +kernel

/-- A transfer of the session h0, at a sender or a receiver. -/
def xferOf (sender : Bool) (ph : XPhase) : Xfer := ⟨sender, ph, 5, 1, 16, 0, 1, 64, [0], [], [], false, 1, 0, 0, false, false, false, false, none, none⟩
def sendingOf (ph : XPhase) : Session := { sesOf .shipping true with xfer := some (xferOf true ph), ret := .aloft }
def receivingOf (ph : XPhase) : Session := { sesOf .shipping false with xfer := some (xferOf false ph), incoming := true, ret := .aloft }
theorem wit_TransferMessages :
    (let s := { up with attn := { up.attn with shapes := [(0, ⟨0, 2, 8, 2, false, 64, 64, 0, 0x3F800000, 0, [0, 0], [0, 0]⟩)] } }
     (s.sess h0).isNone && !s.evacuating && !s.fab.gone && s.newSlot.isSome && s.shipRoom (hCtx h0) 0 && !(s.isShort && !false && !false) &&
       Map.has s.attn.shapes 0 && !s.on .CTL_SES_CTX_SHIP_IN (hCtx h0) && (s.wr .CTL_SES_CTX_SHIP_IN (hCtx h0) 0 1).on .CTL_SES_CTX_SHIP_IN (hCtx h0)) = true ∧
    ([XPhase.offered, .sent].all fun ph =>
      (sessed (sendingOf ph) 1 0).sending h0 5 0 1 = some (sendingOf ph, xferOf true ph) && ((sessed (sendingOf ph) 1 0).receivingX h0 5 0 1).isNone) = true ∧
    (sessed (receivingOf .receiving) 1 0).receivingX h0 5 1 0 = some (receivingOf .receiving, xferOf false .receiving) ∧
    (0 < (xferOf false .receiving).total ∧ (xferOf false .receiving).got.contains 0 = false ∧ (xferOf false .receiving).again.contains 0 = false ∧
      ({ xferOf false .receiving with again := [0] } : Xfer).again.contains 0 = true) ∧
    (let s := sessed (receivingOf .receiving) 1 0
     let g := s.shape 0
     tileFault g 0 (keyLayer g 0) (keyHead g 0) (keyCol g 0) h0 ⟨false, 0, 0, 1, true, false, 0, 0⟩ = some 0 ∧
       tileFault g 0 (keyLayer g 0) (keyHead g 0) (keyCol g 0) h0 ⟨false, 0, 0, crc32c 0 0, true, false, 0, 0⟩ = none ∧
       s.shipRoom (hCtx h0) 0 = true ∧ s.tileRoom (receivingOf .receiving) 0 ⟨false, 0, 0, crc32c 0 0, true, false, 0, 0⟩ = true ∧
       (sessed (sendingOf .offered) 1 0).shipEcc (sendingOf .offered) (xferOf true .offered) none = none) := by decide +kernel

theorem wit_CommitMessages : (sessed (sesOf .aloft true) 1 0).sess h0 = some (sesOf .aloft true) ∧ (sesOf .aloft true).isHome = true ∧
    (sesOf .aloft true).prop = none ∧ (sessed (sesOf .aloft true) 1 0).fab.isolated = false ∧ (sesOf .aloft true).epoch = 0 ∧ (sesOf .aloft true).owner = 0 ∧
    (sesOf .aloft true).recPending = false ∧ (sesOf .aloft true).xfer = none ∧ (sessed (sesOf .aloft true) 1 0).myId = 0 ∧
    (let x := { sesOf .aloft true with prop := some ⟨1, 0, 1, 0⟩ }
     (sessed x 1 0).sess h0 = some x) ∧
    ([sendingOf .sent, receivingOf .committing, { sesOf .aloft true with epoch := 1, owner := 2 }].all fun x => (sessed x 1 0).sess h0 = some x) = true ∧
    (xferOf true .sent).peer = 1 ∧ (sessed (sendingOf .sent) 1 0).identOf (xferOf true .sent) 5 0 1 = true ∧
    (sessed (sendingOf .sent) 1 0).identOf (xferOf false .sent) 5 1 0 = true ∧
    (let x := { sesOf .aloft true with recPending := true }
     (sessed x 1 0).sess h0 = some x ∧ x.isHome = true ∧ x.epoch = 0 ∧ x.owner_ = true) := by
  decide +kernel

theorem wit_TetherTimes :
    (let s := (sessed (sendingOf .offered) 1 0).wr .CTL_SES_CFG_TETHER_TRIES 0 0 8
     let p := s.pass 100000000
     p.sess h0 = some (sendingOf .offered) && (xferOf true .offered).at_ + p.msgLimit ≤ p.now && decide (1 < p.rd .CTL_SES_CFG_TETHER_TRIES)) = true ∧
    ((sendingOf .offered).prop = none ∧ (sendingOf .offered).recPending = false ∧ (sendingOf .offered).isHome = true ∧
      (sendingOf .offered).gathering = false ∧ (xferOf true .offered).tries = 1) ∧
    (let p := (sessed (sendingOf .sent) 1 0).pass 1000000000
     p.sess h0 = some (sendingOf .sent) && decide ((xferOf true .sent).start + 1000000 * p.rd .CTL_SES_CFG_SHIP_RESOLVE_LIMIT ≤ p.now)) = true ∧
    ([sesOf .remote false, { sesOf .aloft true with mirrorLost := true }, { sesOf .remote false with spool_ := true },
      { sesOf .orphaned true with gathering := true }, { sesOf .aloft true with gathering := true }].all fun x => (sessed x 1 0).sess h0 = some x) = true ∧
    (let x := sesOf .aloft true
     let s := sessed x 1 0
     let p := ({ s with ses := { s.ses with acks := [.cmd h0 1 ⟨0, 0, .ok, 0, 0, 0, 0, false⟩ 0] } }).pass 1000000000
     p.sess h0 = some x && p.ses.acks.any fun w => w.dueFor h0 (2 ^ 64) && decide (w.since + 10000 * p.rd .CTL_SES_CFG_MIRROR_ACK_LIMIT ≤ p.now)) = true ∧
    (let x := { sesOf .aloft true with mirrorLost := true }
     let p := (sessed x 1 0).pass 1000000000
     p.sess h0 = some x && decide (x.resentAt + p.msgLimit * p.rd .CTL_SES_CFG_TETHER_TRIES ≤ p.now)) = true := by decide +kernel

/-- A block with ready gores and an item on gore 0. -/
def working (k : IKind) (pre : Bool) : State :=
  let s := up.wr .CTL_READY_GORES 0 0 (2 ^ 30 - 1)
  { s with gore := { s.gore with items := [{ Item.new k .attn 0 1 h0 0 0 0 .running with preempt := pre }], nextItem := 1 } }
theorem wit_WinchEvents :
    ([IKind.attnSeg, .attnMerge, .append, .seal, .unseal, .scan, .helperLayer].all fun k => [true, false].all fun b =>
      ((working k b).pass 10).itemOn 0 = some { Item.new k .attn 0 1 h0 0 0 0 .running with preempt := b }) = true ∧
    (let i := Item.new .attnSeg .attn 0 1 h0 0 0 0 .waiting
     let s := { up with gore := { up.gore with items := [i] } }
     s.gore.items.find? (fun i => i.id = 0) = some i && i.pages.all (s.pageHere i)) = true ∧
    (up.pass 10).bit .CTL_READY_GORES 0 = true ∧ ((up.wr .GORE_GATE_EN 0 0 1).pass 10).on .GORE_GATE_EN = true ∧
    (up.pass 10).on .GORE_PANEL_GATED 0 = false ∧ (up.pass 10).gore.items = [] ∧
    (({ up with pwr := { up.pwr with admitted := [⟨.panel, 0, 120, 0⟩] } } : State).isAdmitted .panel 0) = true ∧
    up.boot.stage = .configured ∧ bitAt (up.rd .GORE_PANEL_FENCED 0) 5 = false ∧ (working .seal false).itemOn 5 = none ∧
    (working .seal false).boot.stage = .configured ∧ up.on .GORE_PANEL_FAULT 0 = false := by decide +kernel
/-- The conditions of an ITEM_END, an ITEM_YIELD and a PANEL_IDLE_GATE are met. -/
theorem wit_WinchEvents_time :
    ([IKind.attnSeg, .attnMerge, .append, .seal, .unseal, .scan, .helperLayer].all fun k =>
      let i := Item.new k .attn 0 1 h0 0 0 0 .running
      let p := (working k false).pass 100000
      p.mayEnd i && decide (i.tileAt + 100 * p.rd .GORE_CFG_YIELD_US < p.now)) = true ∧
    (let p := up.pass 100000000
     decide ((Map.find p.gore.busyAt 0).getD 0 + 100 * p.rd .GORE_GATE_IDLE_US ≤ p.now) && !p.gore.items.any fun i => i.onPanel 0) = true := by
  decide +kernel
theorem wit_WinchEvents_idle : (up.pass 10).pickClass = none := by decide +kernel

/-- `up` with the session h0, which holds one page. -/
def paged (x : Session) (p : Page) : State :=
  { up with ses := { up.ses with tab := [(0, { x with pages := [(0, p)] })] } }
def pg0 (st : PState) : Page := ⟨.sealed, 0, st, .t1, none, 0, 0, some (.obj 0 0), false, false, false, 0, false⟩
theorem wit_PageMoves_a :
    (let s := (paged (sesOf .parked true) (pg0 .dirty)).wr .TIER_WM_T1_HIGH 0 0 0
     s.quota 0 = 0 && s.highUse 1) = true ∧
    (let s := { paged (sesOf .parked true) (pg0 .dirty) with tier := { up.tier with regions := [(0, ⟨false, 0, false, 0, 1, none⟩)] } }
     s.quota 0 != 0) = true ∧
    ([true, false].all fun b => (paged (sesOf .parked true) { pg0 .dirty with again := b }).page ⟨false, h0, 0⟩ = some { pg0 .dirty with again := b }) = true ∧
    (let s := paged (sesOf .parked true) { pg0 .clean with reading := true }
     s.page ⟨false, h0, 0⟩ = some { pg0 .clean with reading := true }) = true := by decide +kernel
theorem wit_PageMoves_b :
    (let p := { pg0 .lower with upper := .obj 0 0, reading := true, writing := none }
     (paged (sesOf .parked true) p).page ⟨false, h0, 0⟩ = some p && !p.up) = true ∧
    (let x := { sesOf .parked true with demoteAfter := 1 }
     let p := (sessed x 1 0).pass 100000
     p.sess h0 = some x && !(p.region (hCtx h0)).heat && p.demoteDue x) = true ∧
    (up.wr .TIER_OBJ_A_PRESENT 0 0 1).on .TIER_OBJ_A_PRESENT 0 = true ∧ (2 : Nat) = 2 := by decide +kernel
/-- A revive that waits for a page of T2, and a step item that waits for one. -/
theorem wit_PageMoves_c :
    (let x := { sesOf .reviving true with pages := [(0, { pg0 .lower with upper := .obj 0 0, writing := none })] }
     let p := ((sessed x 0x13 0).setPhase 0 .running).pass 1000000000
     p.t1Waits h0 = [] && p.sess h0 = some x && (p.runningOp 0x13 h0).isSome && decide (max x.entered x.gainAt + 10000 * p.rd .TIER_STALL_LIMIT_LIMIT ≤ p.now) &&
       (x.pages.any fun q => q.2.upper != .t1 && q.2.st != .lost && !q.2.reading)) = true ∧
    (let x := { sesOf .aloft true with pages := [(0, { pg0 .lower with upper := .obj 0 0, writing := none })] }
     let s := paged x { pg0 .lower with upper := .obj 0 0, writing := none }
     let p := (({ s with gore := { s.gore with items := [{ Item.new .attnSeg .attn 0 1 h0 0 0 0 .waiting with pages := [0] }] } } : State)).pass 1000000000
     p.sess h0 = some x && decide (p.t1Waits h0 = [0]) && decide (10000 * p.rd .TIER_STALL_LIMIT_LIMIT ≤ p.now) &&
       (((p.leaveAll h0 .retryLater (hintMs 1)).bump .TIER_CNT_COUNT 14 0 1).runningOp 0x13 h0).isNone) = true := by decide +kernel

theorem wit_TierControls :
    ([0, 2].all fun sc =>
      let c := cmdOf 0x53 (h0 * 2 ^ 64 + sc * 2 ^ 128)
      let s := sessed (sesOf .parked true) 0x53 (sc * 2 ^ 128)
      State.runs s 0x53 c && s.tierLive c && (s.tierOwner c).isNone && Desc.byte c.desc 16 = sc) = true ∧
    (let c := cmdOf 0x54 (h0 * 2 ^ 64 + 2 * 2 ^ 128)
     let s := sessed (sesOf .parked true) 0x54 (2 * 2 ^ 128)
     State.runs s 0x54 c && s.flushReady c && s.tierLive c && (s.tierOwner c).isNone) = true ∧
    up.blkOn .TIER = true ∧ bitAt 8 3 = true ∧ bitAt 4 3 = false ∧
    (let s := (((up.wr .CTL_PIN_STS_FLASH_PRSNT 0 0 255).wr .CTL_PIN_STS_FLASH_PERST 0 0 0).setWear 3 ⟨9, 1, 2, 3, 9, 4, 5, 6⟩)
     let s := { s with pins := { s.pins with refclk := 255 } }
     s.driveUp 3 && Map.has s.tier.wear 3 && (s.wear 3).sIdent = 9) = true := by decide +kernel

def shape0 : Shape := ⟨0, 2, 8, 2, false, 64, 64, 0, 0x3F800000, 0, [0, 0], [0, 0]⟩
/-- A descriptor's content with the geometry of `shape0`. -/
def geo0 : Nat := 2 * 2 ^ 128 + 8 * 2 ^ 144 + 2 * 2 ^ 160 + 64 * 2 ^ 176 + 64 * 2 ^ 192 + 0x3F800000 * 2 ^ 224
def shaped (s : State) : State := { s with attn := { s.attn with shapes := [(0, shape0)] } }
theorem wit_ShapesAndKv_a :
    (let c := cmdOf 0x36 geo0
     let s := withCmd paired c
     State.runs s 0x36 c && opOf 9 8 0 c.desc && (Map.find s.attn.shapes (slotOf c.desc)).isNone && layerOk false 0 && layerOk true 0 && (shapeOf 0 c.desc []).layers = 2) = true ∧
    (let c := cmdOf 0x36 (geo0 + 2 ^ 24)
     let s := shaped (withCmd paired c)
     State.runs s 0x36 c && opOf 9 8 1 c.desc && Map.find s.attn.shapes (slotOf c.desc) = some shape0 && !s.shapeForeign c shape0 &&
       (geoDiff shape0 (shapeOf c.ctx c.desc [])).isNone) = true ∧
    (let c := cmdOf 0x36 (geo0 + 2 ^ 25)
     let s := shaped (withCmd paired c)
     State.runs s 0x36 c && opOf 9 8 2 c.desc && Map.find s.attn.shapes (slotOf c.desc) = some shape0 && !s.shapeForeign c shape0 &&
       s.shapeUsers 0 = 0) = true := by decide +kernel
/-- The bytes that a slot takes are a free value; a reserve that takes them is assumed. -/
theorem wit_ShapesAndKv_b (h : Config.shapeBytes 2 ≤ 2 ^ 30) : (withCmd paired (cmdOf 0x36 geo0)).rsvFits 0 (Config.shapeBytes 2) = true := by
  have e : (withCmd paired (cmdOf 0x36 geo0)).tier.rsv = 0 := rfl
  simp only [State.rsvFits, e, rsvFixed, rsvTotal]
  simp only [decide_eq_true_eq]
  omega
theorem wit_ShapesAndKv_c :
    (let x := { sesOf .aloft true with spool := [⟨1, false, 0⟩] }
     let c := cmdOf 0x32 (h0 * 2 ^ 64 + 2 ^ 160 + 2 ^ 40 * 2 ^ 320)
     let s := shaped (sessed x 0x32 (2 ^ 160 + 2 ^ 40 * 2 ^ 320))
     State.runs s 0x32 c && s.kvReady c && s.sessLive c && s.sess (Desc.handle c.desc) = some x && opOf 8 8 0 c.desc && (s.kvRefuse x false).isNone &&
       Desc.num c.desc 20 4 * (c.shape.getD (s.shape x.shape)).kvBytes ≤ Desc.num c.desc 40 8 && Desc.num c.desc 16 4 = x.kvLen && Desc.num c.desc 20 4 = 1) = true ∧
    (let x := { sesOf .aloft true with kvLen := 1 }
     let rest := 2 ^ 24 + 2 ^ 160 + 2 ^ 208 + 2 ^ 40 * 2 ^ 320
     let c := cmdOf 0x32 (h0 * 2 ^ 64 + rest)
     let s := shaped (sessed x 0x32 rest)
     State.runs s 0x32 c && s.kvReady c && s.sessLive c && s.sess (Desc.handle c.desc) = some x && opOf 8 8 1 c.desc && (s.kvRefuse x true).isNone &&
       (Desc.num c.desc 24 2 < (s.shape x.shape).layers) && Desc.num c.desc 26 2 = 1 && Desc.num c.desc 20 4 = 1 && !x.rbPending &&
       (streamRecords x (s.shape x.shape) c.desc).foldl (fun a p => a + p.1) 0 ≤ Desc.num c.desc 40 8) = true := by decide +kernel
theorem wit_ShapesAndKv_d : up.blkOn .GORE = true ∧ up.locked 0 = false ∧ up.stepsOf 0 = 0 ∧
    (List.range 64).foldl (fun a d => a + if d = 0 then fieldOf .GORE_BRIDLE_MIB 16 else up.rd .GORE_BRIDLE_MIB d) 0 ≤ 8192 ∧
    up.rsvFits (up.backed 0) (up.effMib 0 (fieldOf .GORE_BRIDLE_MIB 16) * 2 ^ 20) = true ∧
    (Fld.GORE_BRIDLE_MIB).legal (fieldOf .GORE_BRIDLE_MIB 16) = true ∧
    (let s := { up with boot := { up.boot with b4 := [(0, 5)] } }
     areaMib (s.b4 0) * 2 ^ 20 ≠ 0 ∧ s.backed 0 = 0 ∧ s.rd .SEC_CTX_TDI 0 ≠ 3) := by decide +kernel

/-- A step of the session h0 in flight, and a block that runs it. -/
def step0 (kicked done : Nat) : Step :=
  ⟨0, 0, 0, 7, 0, 0, 0, shape0, 8, 1, 2, 0x1000, 0, 0x2000, 0x3000, false, 0, kicked, done, 0, false,
    [⟨h0, 0, true, false, false, false, none, .ok, 0, 0, false, false, false, none, []⟩], [], none⟩
def stepped (kicked done : Nat) (op rest : Nat) : State :=
  let s := shaped (sessed (sesOf .aloft true) op rest)
  { s with attn := { s.attn with steps := [step0 kicked done], nextStep := 1 } }
theorem wit_StepEvents_a :
    (let c := cmdOf 0x30 (7 * 2 ^ 128 + 1 * 2 ^ 152 + 1 * 2 ^ 160)
     let x := { sesOf .aloft true with spool := [⟨1, false, 0⟩] }
     let s := shaped (withCmd paired c)
     let s := { s with ses := { s.ses with tab := [(0, x)] } }
     State.runs s 0x30 c && (s.step? c.ctx (Desc.num c.desc 16 2)).isNone && Map.find s.attn.shapes (Desc.byte c.desc 18) = some shape0 &&
       (Desc.num c.desc 40 4 + Desc.byte c.desc 22 * islotOf shape0 1 ≤ s.backed 0) && s.attn.steps.length < 64 &&
       (s.stepsOf 0 < s.rd .GORE_STEP_LIM_PER_CTX) &&
       ((s.setPhase 0 .running).makeEntries 0 0 1 0 [] [h0]).any (fun e => e.admitted) &&
       ((s.setPhase 0 .running).makeEntries 0 0 1 0 [] [0]).all (fun e => !e.admitted)) = true ∧
    ([0, 1].all fun l =>
      let c := cmdOf 0x31 (7 * 2 ^ 128 + l * 2 ^ 144)
      let s := { stepped 1 0 0x31 0 with hti := (withCmd paired c).hti }
      State.runs s 0x31 c && s.step? c.ctx (Desc.num c.desc 16 2) = some (step0 1 0) && Desc.num c.desc 18 2 = l) = true := by decide +kernel
theorem wit_StepEvents_b : (stepped 1 0 1 0).windowOpen 0 0 = true ∧ bitsOf (7 + 2 ^ 16) 31 25 = 0 ∧ bitsOf (7 + 2 ^ 16) 15 0 = 7 ∧ bitsOf (7 + 2 ^ 16) 24 16 = 1 ∧
    (stepped 1 0 1 0).step? 0 7 = some (step0 1 0) ∧ (stepped 1 0 1 0).layerReady (step0 1 0) 0 = true ∧
    (step0 2 2).entries.all (fun e => e.inStep && !e.waiting && !e.sealing && !e.cancel && (stepped 2 2 1 0).entryRoom (step0 2 2) e) = true ∧ (step0 2 2).done = (step0 2 2).geo.layers ∧
    ((stepped 0 0 1 0).pass 1000000000).step? 0 7 = some (step0 0 0) ∧ (step0 0 0).entries.any SEntry.inStep = true ∧
    (step0 0 0).lastFlag + 100000 * ((stepped 0 0 1 0).pass 1000000000).rd .GORE_ATTN_CFG_KICK_LIMIT_MS ≤ ((stepped 0 0 1 0).pass 1000000000).now ∧
    ({ step0 2 2 with entries := [] } : Step).entries.any SEntry.inStep = false := by decide +kernel

/-- A WordPiece table of one token, byte for byte by the table format of spec/08. -/
def tableImage : Nat := packBytes [(0, 1279415374), (4, 513), (8, 1), (16, 4294967295), (24, 10012), (28, 16), (124, 2597387941), (136, 256), (140, 9732), (200, 9988), (204, 7), (208, 9996), (212, 13), (256, 1), (9988, 1), (9992, 65536), (10000, 1), (10008, 97)]
/-- A table slot 0 with an image. -/
def tabled (s : State) (m : Nat) : State := { s with dec := { s.dec with tables := [(0, ⟨0, m, 0, []⟩)] } }
theorem crcGo_add (a b x c : Nat) : crcGo (a + b) x c = crcGo b (x / 256 ^ a) (crcGo a x c) := by
  induction a generalizing x c with
  | zero => simp [crcGo]
  | succ a ih =>
    rw [Nat.add_right_comm, crcGo, ih, crcGo, Nat.div_div_eq_div_mul, Nat.pow_succ, Nat.mul_comm]
/-- `tableImage` without its CRC, as the CRC covers it. -/
def crcData : Nat := packBytes [(0, 1279415374), (4, 513), (8, 1), (16, 4294967295), (24, 10012), (28, 16), (132, 256), (136, 9732), (196, 9988), (200, 7), (204, 9996), (208, 13), (252, 1), (9984, 1), (9988, 65536), (9996, 1), (10004, 97)]
theorem crc_part0 : crcGo 1251 (crcData / 256 ^ 0) 4294967295 = 1677470419 := by decide +kernel
theorem crc_part1 : crcGo 1251 (crcData / 256 ^ 1251) 1677470419 = 3011857526 := by decide +kernel
theorem crc_part2 : crcGo 1251 (crcData / 256 ^ (2 * 1251)) 3011857526 = 3295082336 := by decide +kernel
theorem crc_part3 : crcGo 1251 (crcData / 256 ^ (3 * 1251)) 3295082336 = 3771938835 := by decide +kernel
theorem crc_part4 : crcGo 1251 (crcData / 256 ^ (4 * 1251)) 3771938835 = 502889599 := by decide +kernel
theorem crc_part5 : crcGo 1251 (crcData / 256 ^ (5 * 1251)) 502889599 = 3749697478 := by decide +kernel
theorem crc_part6 : crcGo 1251 (crcData / 256 ^ (6 * 1251)) 3749697478 = 358727312 := by decide +kernel
theorem crc_part7 : crcGo 1251 (crcData / 256 ^ (7 * 1251)) 358727312 = 1697579354 := by decide +kernel
theorem crc_chain (x n : Nat) (c0 c1 c2 c3 c4 c5 c6 c7 c8 : Nat) (h0 : crcGo n (x / 256 ^ 0) c0 = c1) (h1 : crcGo n (x / 256 ^ n) c1 = c2)
    (h2 : crcGo n (x / 256 ^ (2 * n)) c2 = c3) (h3 : crcGo n (x / 256 ^ (3 * n)) c3 = c4) (h4 : crcGo n (x / 256 ^ (4 * n)) c4 = c5)
    (h5 : crcGo n (x / 256 ^ (5 * n)) c5 = c6) (h6 : crcGo n (x / 256 ^ (6 * n)) c6 = c7) (h7 : crcGo n (x / 256 ^ (7 * n)) c7 = c8) :
    crcGo (8 * n) x c0 = c8 := by
  have e : 8 * n = n + (n + (n + (n + (n + (n + (n + n)))))) := by omega
  rw [Nat.pow_zero, Nat.div_one] at h0
  rw [e, crcGo_add, h0, crcGo_add, h1, Nat.div_div_eq_div_mul, ← Nat.pow_add]
  have e2 : (256 : Nat) ^ (n + n) = 256 ^ (2 * n) := by rw [Nat.two_mul]
  rw [e2, crcGo_add, h2]
  rw [Nat.div_div_eq_div_mul, ← Nat.pow_add, show 2 * n + n = 3 * n by omega, crcGo_add, h3]
  rw [Nat.div_div_eq_div_mul, ← Nat.pow_add, show 3 * n + n = 4 * n by omega, crcGo_add, h4]
  rw [Nat.div_div_eq_div_mul, ← Nat.pow_add, show 4 * n + n = 5 * n by omega, crcGo_add, h5]
  rw [Nat.div_div_eq_div_mul, ← Nat.pow_add, show 5 * n + n = 6 * n by omega, crcGo_add, h6]
  rw [Nat.div_div_eq_div_mul, ← Nat.pow_add, show 6 * n + n = 7 * n by omega, h7]
theorem imageCrc_eq (m size n x c : Nat) (h1 : m % 2 ^ 992 + m / 2 ^ 1024 * 2 ^ 992 = x) (h2 : size - 4 = n) (h3 : crcGo n x 0xFFFFFFFF = c) :
    imageCrc m size = Nat.xor c 0xFFFFFFFF := by subst h1 h2 h3; rfl
theorem crcData_eq : tableImage % 2 ^ 992 + tableImage / 2 ^ 1024 * 2 ^ 992 = crcData := by decide +kernel
theorem wit_TextIntake_crc : Img.okCrc tableImage 10012 = true := by
  rw [Img.okCrc, imageCrc_eq tableImage 10012 (8 * 1251) crcData 1697579354 crcData_eq (by decide)
    (crc_chain crcData 1251 _ _ _ _ _ _ _ _ _ crc_part0 crc_part1 crc_part2 crc_part3 crc_part4 crc_part5 crc_part6 crc_part7)]
  decide +kernel
theorem wit_TextIntake_tries : Img.okTries tableImage = true := by decide +kernel
theorem wit_TextIntake_rest : (Img.okHead tableImage && Img.okRange tableImage && Img.okSects tableImage 10012 && Img.okSplit tableImage && Img.okVocab tableImage &&
    Img.okMerges tableImage && Img.okPresent tableImage && Img.okSteps tableImage) = true := by decide +kernel
theorem wit_TextIntake_check : Img.check tableImage 10012 true = none := by
  have h := wit_TextIntake_rest
  simp only [Bool.and_eq_true] at h
  obtain ⟨⟨⟨⟨⟨⟨⟨h1, h3⟩, h4⟩, h6⟩, h7⟩, h8⟩, h9⟩, h11⟩ := h
  simp only [Img.check, h1, wit_TextIntake_crc, h3, h4, wit_TextIntake_tries, h6, h7, h8, h9, h11, Bool.not_true, Bool.false_eq_true, if_false]
theorem wit_TextIntake : ([0, 2 ^ 24].all fun fl =>
      let rest := fl
      let c := cmdOf 0x20 (h0 * 2 ^ 64 + rest)
      let s := tabled ((sessed (sesOf .aloft true) 0x20 rest).wr .TXT_LANES_EN 0 0 0xFFFF) 0
      State.runs s 0x20 c && s.appendReady c && s.sessLive c && s.imageFor (Desc.byte c.desc 16) 0 = some 0 && (s.appendRefuse (sesOf .aloft true)).isNone &&
        s.sess (Desc.handle c.desc) = some (sesOf .aloft true) && Desc.num c.desc 32 4 = 0 && Desc.flag c.desc 8 = (fl != 0)) = true ∧
    (let c := cmdOf 0x21 0
     let s := tabled ((withCmd paired c).wr .TXT_LANES_EN 0 0 0xFFFF) 0
     State.runs s 0x21 c && s.txtReady c && s.imageFor (Desc.byte c.desc 16) 0 = some 0 && Desc.num c.desc 32 4 = 0 &&
       (Img.run 0 []).toks.length = 0) = true ∧
    (let c := cmdOf 0x22 (10012 * 2 ^ 256)
     let s := withCmd paired c
     let r := (s.setPhase 0 .running).sweepImages
     State.runs s 0x22 c && opOf 8 8 0 c.desc && (Map.find r.dec.tables 0).isNone && Desc.num c.desc 32 4 = 10012 && !Desc.flag c.desc 9 &&
       (Img.check 0 10012 true).isSome) = true ∧
    (let c := cmdOf 0x22 (2 ^ 24)
     let s := tabled (withCmd paired c) 0
     State.runs s 0x22 c && opOf 8 8 1 c.desc && (Map.find s.dec.tables 0).isSome && !s.foreign c 0 && s.tableUsers 0 = 0) = true := by decide +kernel

/-- A grammar of one accepting state over one token, byte for byte by the format of spec/09, and a stream's block. -/
def gramImage : Nat := packBytes [(0, 1279410503), (4, 1), (8, 1), (12, 1), (36, 152), (40, 128), (44, 152), (48, 152), (52, 152), (56, 152), (124, 2890153448), (136, 16777216), (140, 65535)]
def block0 : Nat := packBytes [(8, 0x3F800000), (20, 0x3F800000)]
/-- Sessions, a table, a grammar and a stream for a command of opcode `op`. -/
def decoding (op rest : Nat) (open_ : Bool) : State :=
  let s := (tabled (sessed (sesOf .aloft true) op rest) (2 ^ 64)).wr .DEC_LANES_EN 0 0 0xFFFF
  { s with dec := { s.dec with streams := if open_ then [Stream.new h0 (confOf block0)] else [], grams := [(0, ⟨0, 0, gramImage, 0⟩)] } }
theorem wit_StreamsAndGrammars_check : Gram.check gramImage 152 (some 1) true = none := by decide +kernel
theorem wit_StreamsAndGrammars_a : ([0, 1, 2, 3].all fun op =>
      let rest := op * 2 ^ 24 + 2 ^ 128
      let c := cmdOf 0x23 (h0 * 2 ^ 64 + rest)
      let s := (decoding 0x23 rest (op != 0)).wr .DEC_CTX_MAX_STREAMS 0 0 5
      State.runs s 0x23 c && s.streamReady c && s.sessLive c && s.sess (Desc.handle c.desc) = some (sesOf .aloft true) &&
        (s.refusal (sesOf .aloft true)).isNone && !s.locked c.ctx && opOf 10 8 op c.desc && Desc.num c.desc 16 8 != 0 &&
        (if op = 0 then (s.stream h0).isNone && decide (s.streamsLive < 65536) && decide (s.streamsOf 0 < s.rd .DEC_CTX_MAX_STREAMS 0)
         else s.stream h0 = some (Stream.new h0 (confOf block0)))) = true := by decide +kernel
theorem wit_StreamsAndGrammars_b : firstFault ((decoding 0x23 0 false).confFaults 0 block0) = none := by decide +kernel
theorem wit_StreamsAndGrammars_c :
    (let c := cmdOf 0x33 (2 ^ 24)
     let s := (withCmd paired c).wr .DEC_LANES_EN 0 0 0xFFFF
     State.runs s 0x33 c && s.sampleReady (some [h0]) c && !Desc.flag c.desc 11 && !Desc.flag c.desc 12 && Desc.flag c.desc 8) = true ∧
    (let c := cmdOf 0x33 (7 * 2 ^ 128)
     let t := { step0 2 2 with sample := true }
     let s := (withCmd paired c).wr .DEC_LANES_EN 0 0 0xFFFF
     let s := { s with attn := { s.attn with steps := [t] } }
     State.runs s 0x33 c && s.sampleReady none c && !Desc.flag c.desc 8 && s.step? 0 7 = some t && Desc.num c.desc 16 2 = 7) = true ∧
    (let x := { Stream.new h0 (confOf block0) with backlog := [(16, 0)] }
     let s := { up with dec := { up.dec with streams := [x] } }
     ((s.pass 5).dec.streams.find? fun x => x.handle = h0 && !x.backlog.isEmpty) = some x ∧ (s.pass 5).on .CTL_READY_DEC = true) ∧
    (let c := cmdOf 0x34 (152 * 2 ^ 256)
     let s := withCmd paired c
     State.runs s 0x34 c && opOf 8 8 0 c.desc && (Map.find s.dec.grams 0).isNone && s.gramUsers 0 = 0 && !Desc.flag c.desc 9 && Desc.num c.desc 32 4 = 152) = true ∧
    (let c := cmdOf 0x34 (2 ^ 24)
     let s := { withCmd paired c with dec := { up.dec with grams := [(0, ⟨0, 0, gramImage, 0⟩)] } }
     State.runs s 0x34 c && opOf 8 8 1 c.desc && (Map.find s.dec.grams 0).isSome && !s.foreign c 0 && s.gramUsers 0 = 0) = true ∧
    ([0, 1].all fun op =>
      let c := cmdOf 0x35 (h0 * 2 ^ 64 + op * 2 ^ 24)
      let s := decoding 0x35 (op * 2 ^ 24) true
      State.runs s 0x35 c && s.streamReady c && s.sessLive c && s.sess (Desc.handle c.desc) = some (sesOf .aloft true) &&
        (s.ownerRefuse (sesOf .aloft true)).isNone && (s.stream (Desc.handle c.desc)).isSome && opOf 8 8 op c.desc && s.spoolHere h0 &&
        (Map.find s.dec.grams (Desc.byte c.desc 16)).isSome && s.imageFor 0 0 = some (2 ^ 64) && Gram.tokens gramImage = Img.tokens (2 ^ 64)) = true := by decide +kernel

def ix0 (ready : Bool) : RIndex :=
  let p : Option RPart := if ready then some ⟨0, 32, none⟩ else none
  ⟨mkIndexId 0 0 0 0 0, 16, 16, false, 1, 0, false, p, p, [(0, [⟨0, [⟨0, 0, [], 5, 1, 2, [], none⟩]⟩])], [], 3, 3, [], 1, 0, none⟩
/-- An index of context 0 in slot 0, its command waiting. -/
def indexed (x : RIndex) (c : Cmd) : State :=
  let s := withCmd paired c
  { s with rcl := { s.rcl with indexes := [(0, x)] } }
def i0 : Nat := mkIndexId 0 0 0 0 0
theorem wit_RecallCommands_a :
    (let c := cmdOf 0x40 (1 * 2 ^ 160)
     let s := withCmd paired c
     State.runs s 0x40 c && opOf 8 8 0 c.desc && !s.evacuating && s.newIndexSlot == some 0 && !bitAt (Desc.byte c.desc 25) 0) = true := by decide +kernel
theorem wit_RecallCommands_b :
    (let c := cmdOf 0x40 (i0 * 2 ^ 64 + 2 ^ 24)
     let s := indexed (ix0 true) c
     State.runs s 0x40 c && opOf 8 8 1 c.desc && !s.evacuating && s.indexIdle c && s.idxLive (fun c => Desc.handle c.desc) c && s.index 0 = some (ix0 true)) = true ∧
    (let c := cmdOf 0x44 (i0 * 2 ^ 64 + 32 * 2 ^ 320)
     let x := { ix0 false with lists := [] }
     let s := indexed x c
     State.runs s 0x44 c && s.idxLive (fun c => Desc.handle c.desc) c && s.index 0 = some x && x.held = 0 && Desc.num c.desc 40 8 = x.partBytes 0 &&
       !Desc.flag c.desc 9 && s.rsvFits 0 32 && (badElement 0 32 0).isNone && badElement 0 32 0x7F80 = some 0) = true ∧
    ([0x41, 0x42, 0x43].all fun op =>
      let c := cmdOf op (i0 * 2 ^ 128)
      let s := indexed (ix0 true) c
      State.runs s op c && s.idxLive idxField c && s.index (xSlot (idxField c)) = some (ix0 true) && (ix0 true).refuse.isNone &&
        Desc.byte c.desc 28 = 0 && (ix0 true).ready && (ix0 true).failed.isNone && s.t1Used ≤ s.t1Cap && (ix0 true).id = i0) = true ∧
    (ix0 true).badItem false false [] [] [] = none ∧ (ix0 true).badItem false false [[0x7F800000]] [1] [[1]] = some (32, 0) ∧
    (let r : RRun := ⟨7, 0, 0, 3, 1, 1, 1, 0, 0, 1, 0, []⟩
     let s := { up with rcl := { up.rcl with indexes := [(0, ix0 true)], runs := [r] } }
     (s.pass 1).run? 7 = some r ∧ (s.pass 1).gore.items = [] ∧ (s.pass 1).index 0 = some (ix0 true)) ∧
    (let s := { up with rcl := { up.rcl with indexes := [(0, ix0 true)] } }
     let es := chainEntries ((ix0 true).chain 0)
     s.index 0 = some (ix0 true) ∧ s.rd .RCL_CFG_COMPACT_PCT * es.length ≤ (es.filter fun e => e.reclaimable (s.floorSeq 0 (ix0 true))).length * 100) := by decide +kernel
theorem wit_RecallCommands_c :
    (let c := cmdOf 0x46 0
     let s := withCmd paired c
     State.runs s 0x46 c && opOf 8 8 0 c.desc && s.encIdle c && (Map.find s.rcl.helpers 0).isNone && helperCheck 0 0 = some 1) = true ∧
    (let c := cmdOf 0x46 (2 ^ 24)
     let s := { withCmd paired c with rcl := { up.rcl with helpers := [(0, ⟨0, 0, 0, [], []⟩)] } }
     State.runs s 0x46 c && opOf 8 8 1 c.desc && s.encIdle c && (Map.find s.rcl.helpers 0).isSome && !s.foreign c 0) = true ∧
    (let c := cmdOf 0x45 (2 ^ 144)
     let m := packBytes [(16, 5), (20, 9)]
     let s := { withCmd paired c with rcl := { up.rcl with helpers := [(0, ⟨0, m, 0, [], []⟩)] } }
     let o := [0, 3]
     State.runs s 0x45 c && s.helperFor (Desc.byte c.desc 16) c.id = some m && Desc.num c.desc 18 2 = 1 && o.getD 1 0 - o.getD 0 0 = 3 &&
       decide (Img.u16 m 20 = 9) && decide (Img.u32 m 16 = 5)) = true := by decide +kernel
/-- A compaction's item that runs, and ends. -/
theorem wit_RecallCommands_d :
    (let i := { Item.new .scan .recall 0 (2 ^ 60) 0 0 0 0 .running with ix := some 0 }
     let s := { up with gore := { up.gore with items := [i], nextItem := 1 }, rcl := { up.rcl with indexes := [(0, ix0 true)] } }
     let p := s.pass 1
     p.itemOn 0 = some i && p.mayEnd i && (((p.bump .GORE_CNT_COUNT 3 0 1).dropItem i).index 0 = some (ix0 true))) = true := by decide +kernel

/-- A pool port that is up in a mode. -/
def pooled (mode : Nat) : State := (up.wr .POOL_PORT_STS_UP 1 0 1).wr .POOL_PORT_STS_MODE 1 0 mode
def ext0 (rev : Bool) : Extent := ⟨1, 2, 0, 1, false, false, rev, 0, []⟩
theorem wit_LendingAndExtents :
    (let c := cmdOf 0x55 (2 ^ 128 + 5 * 2 ^ 192)
     let s := withCmd paired c
     State.runs s 0x55 c && s.pool.lend.isNone && decide (s.storePages ≤ 16384 * 5) && s.lendRoom 1 5 && !s.lendRoom 500 5) = true ∧
    ([true, false].all fun f => [true, false].all fun g =>
      let r : LendRun := ⟨9, f, 1, 1, 1, 50, g⟩
      let s := { up with pool := { up.pool with lend := some r } }
      (s.pass 50).pool.lend = some r && decide (r.due ≤ (s.pass 50).now) && (s.pass 9).pool.lend = some r && decide ((s.pass 9).now < r.due)) = true ∧
    (let s := pooled 2
     s.on .POOL_PORT_STS_UP 1 && s.rd .POOL_PORT_STS_MODE 1 = 2 && decide (2 < s.lds 1) && !s.on .POOL_PORT_STS_VIRAL_OUT 1 &&
       decide (s.rd .POOL_LEND_T1_GIB < s.granted false + 1) && decide (s.rd .POOL_LEND_T2_GIB < s.granted true + 1) && s.pool.extents == [] &&
       (s.wr .POOL_LEND_T1_GIB 0 0 7).rd .POOL_LEND_T1_GIB = 7 && (s.wr .POOL_LEND_T2_GIB 0 0 7).rd .POOL_LEND_T2_GIB = 7 && (s.takeT2 1).isNone) = true ∧
    ([true, false].all fun r =>
      let s := { pooled 2 with pool := { up.pool with extents := [ext0 r] } }
      s.pool.extents.find? (fun e => decide (e.port = 1) && decide (e.ld = 2) && decide (e.base = 0)) = some (ext0 r) &&
      s.pool.extents.find? (fun e => decide (e.port = 1) && decide (e.ld = 2) && decide (e.base * 2 ^ 30 ≤ 64) && decide (64 < (e.base + e.gib) * 2 ^ 30)) =
        some (ext0 r)) = true ∧
    (up.wr .TIER_OBJ_A_PRESENT 3 0 1).on .TIER_OBJ_A_PRESENT 3 = true ∧ bitAt up.pool.leaving 3 = false ∧
    (pooled 1).rd .POOL_PORT_STS_MODE 1 = 1 ∧ (List.range 32).find? (fun o => !(pooled 1).on .TIER_OBJ_A_PRESENT o) = some 0 ∧
    (let r : LendRun := ⟨9, false, 1, 1, 1, 50, false⟩; ({ up with pool := { up.pool with lend := some r } } : State).lendRoom r.t1 r.region = true) ∧
    (∀ o, o < 32 → (((List.range 32).foldl (fun s o => s.wr .TIER_OBJ_A_PRESENT o 0 1) (pooled 1)).on .TIER_OBJ_A_PRESENT o) = true) := by decide +kernel

def rid0 : Nat := 2 ^ 60
def reg0 (holds : List RHold) (staged : List Staging) : PRegion := ⟨rid0, 0, 4096, 0, 1, [⟨1, 64, 7⟩], holds, staged, (0, 0)⟩
/-- A region of context 0 in slot 0, a command waiting. -/
def regioned (r : PRegion) (c : Cmd) (pubs : List PubRun) : State :=
  let s := withCmd paired c
  { s with pool := { s.pool with regions := [(0, r)], pubs := pubs } }
theorem wit_Regions_a :
    (let c := cmdOf 0x50 (4096 * 2 ^ 128)
     let s := withCmd paired c
     State.runs s 0x50 c && opOf 8 8 0 c.desc && !s.evacuating && (List.range 4096).find? (fun n => !Map.has s.pool.regions n) = some 0) = true ∧
    (([[], [⟨0, 5, 1⟩]] : List (List RHold)).all fun holds =>
     let c := cmdOf 0x50 (rid0 * 2 ^ 64 + 2 ^ 24)
     let s := regioned (reg0 holds []) c []
     State.runs s 0x50 c && opOf 8 8 1 c.desc && !s.evacuating && (s.regionRefuse c (Desc.handle c.desc) true).isNone && rHome (Desc.handle c.desc) = s.myId &&
       s.regionHere (Desc.handle c.desc) = some (reg0 holds [])) = true ∧
    ([0xFFFFFFFF * 2 ^ 128, 0, 5 * 2 ^ 256].all fun x =>
     let c := cmdOf 0x51 (rid0 * 2 ^ 64 + x)
     let s := regioned (reg0 [] []) c []
     State.runs s 0x51 c && (s.regionRefuse c (Desc.handle c.desc) true).isNone) = true ∧
    Desc.num (cmdOf 0x51 (0xFFFFFFFF * 2 ^ 128)).desc 16 4 = 0xFFFFFFFF ∧ Desc.num (cmdOf 0x51 (5 * 2 ^ 256)).desc 32 8 = 5 := by decide +kernel
theorem wit_Regions_b :
    ([0, 1].all fun op =>
     let c := cmdOf 0x52 (rid0 * 2 ^ 64 + op * 2 ^ 24)
     let s := regioned (reg0 [] []) c []
     State.runs s 0x52 c && opOf 8 8 op c.desc && (s.regionRefuse c (Desc.handle c.desc) false).isNone && rHome (Desc.handle c.desc) = s.myId &&
       s.regionHere (Desc.handle c.desc) = some (reg0 [] [])) = true ∧
    (reg0 [] []).attachCode 0 false = 0 ∧ (reg0 [] []).attachCode 1 false = 2 ∧ ({ reg0 [] [] with gen := 0 } : PRegion).attachCode 0 false = 3 ∧
    (let s := (regioned (reg0 [] [⟨3, 8, 1, 16, none, 0⟩]) (cmdOf 0 0) [⟨5, rid0, 1, 16, .opening, 0⟩]).wr .POOL_LEND_REGION_GIB 0 0 1
     s.selfOk 3 8 rid0 .opening = true ∧ s.selfOk 3 8 rid0 .committing = true ∧ s.regionHere rid0 = some (reg0 [] [⟨3, 8, 1, 16, none, 0⟩]) ∧
       s.storePages + pages64k 16 ≤ 16384 * s.rd .POOL_LEND_REGION_GIB ∧ s.pub 5 = some ⟨5, rid0, 1, 16, .opening, 0⟩ ∧
       (s.pass 7).pool.regions = [(0, reg0 [] [⟨3, 8, 1, 16, none, 0⟩])] ∧ (s.pass (100000 * s.rd .POOL_CFG_STAGE_LIMIT_MS)).now = 100000 * s.rd .POOL_CFG_STAGE_LIMIT_MS) ∧
    ([PubPhase.sending, .committing].all fun ph =>
     let p : PubRun := ⟨5, rid0 + 2 ^ 50, 1, 16, ph, 0⟩
     let s := regioned (reg0 [] []) (cmdOf 0 0) [p]
     s.pub 5 = some p && (s.pass 200000).pub 5 = some p && rHome p.region != s.myId && rHome p.region != (s.pass 200000).myId &&
       decide (p.sent + 100000 ≤ (s.pass 200000).now) && decide ((s.pass 9).now < p.sent + 100000)) = true := by decide +kernel

def frame0 (vc dst : Nat) (enc : Bool) : RFrame :=
  ⟨vc, 0, dst, 1, 0, enc, false, 0, 0, 0, false, false, false, false, false, true, true, 4, 64, 0, 0, 0, 0, 0⟩
/-- A ring port that is up, of a part that opens its pair. -/
def linked (p : Nat) : State :=
  let s := ((up.wr .RING_PORT_STS_UP p 0 1).wr .RING_PORT_CTL_EN p 0 1).wr .RING_PORT_STS_PRESENT p 0 1
  s.wr .RING_BYP_STATE 0 0 0xAA
theorem wit_FramesAndLinks :
    (linked 2).on .RING_PORT_STS_UP 2 = true ∧ (frame0 1 0 false).dst = (linked 2).myId ∧ (frame0 1 5 false).dst ≠ (linked 2).myId ∧
    (let u := (linked 2).bump .RING_PORT_CNT_COUNT 2 7 (frameBytes (frame0 1 0 false))
     let f := frame0 1 0 false
     (u.ringCfg 1 0).mode = 0 ∧ (u.flow (flowOf f) f.boot).held = [] ∧ f.seq = (u.flow (flowOf f) f.boot).next ∧ f.vc < 7 ∧ f.hops < 63 ∧
       u.bit .CTL_CTX_RST_CTX f.ctx = false ∧ (u.wr .CTL_CTX_RST_CTX 0 0 1).bit .CTL_CTX_RST_CTX f.ctx = true) ∧
    (linked 2).tagGood (frame0 1 0 true) = false ∧ (linked 2).tagGood (frame0 1 0 false) = true ∧ (linked 2).boot.stage ≠ .off ∧ (linked 2).present? 2 = true ∧ (linked 2).present? 3 = false ∧
    ((linked 2).wr .RING_BYP_STATE 0 0 0x55).bypass (pairOf 2) = 1 ∧ (linked 2).bypass (pairOf 2) = 2 ∧
    (linked 2).on .RING_STS_CFG_BAD = false ∧ portY 2 = true ∧
    (let s := (linked 2).setRing { (linked 2).ring with inForce := [(Fld.key .RING_CFG_YDIM 0 0, 3)] }
     s.dimY ≠ 1 ∧ s.bypass (pairOf 2) = 2 ∧ s.on .RING_PORT_CTL_EN 2 = true ∧ 32 % 32 = s.myId % 32 ∧ s.present? 2 = true) ∧
    (let f : RxFlow := ⟨0, 0, [⟨{ frame0 1 0 false with seq := 3 }, 64, 0, 0, 3⟩]⟩
     let s := up.setRing { up.ring with rx := [(flowKey 1 0 1, f)] }
     Map.find (s.pass 1000000).ring.rx (flowKey 1 0 1) = some f ∧ 0 + 100 * (s.pass 1000000).inForce .RING_CFG_GAP_US ≤ (s.pass 1000000).now ∧
       Map.find (s.pass 1).ring.rx (flowKey 1 0 1) = some f ∧ (s.pass 1).now < 0 + 100 * (s.pass 1).inForce .RING_CFG_GAP_US) := by decide +kernel

def queued (priv : Nat) : State :=
  let s := (linked 2).setRing { (linked 2).ring with locals := [(localKey 2 1 0, [⟨frame0 1 5 false, 96, 0, 0⟩])] }
  s.wr .SHP_VC_PRIV 1 0 priv
theorem wit_Shaping_a :
    (up.pass 102).atRefill = true ∧ (up.pass 103).atRefill = false ∧
    (let f : RxFlow := ⟨0, 0, [⟨frame0 1 0 false, 64, 0, 1, 2⟩]⟩
     let s := up.setRing { up.ring with rx := [(flowKey 1 0 1, f)] }
     let due (n : Nat) (h : HeldFrame) : Bool := decide (h.mode = 1) && decide (h.at_ + 100 * (s.pass n).inForce .SHP_VC_DEFER_US 1 ≤ (s.pass n).now)
     Map.find (s.pass 10000000).ring.rx (flowKey 1 0 1) = some f ∧ (f.held.find? (due 10000000)).isSome = true ∧ f.held.find? (due 1) = none) ∧
    (let s := (up.wr .SHP_SAMPLE_EN 0 0 1).setRing { up.ring with ticks := 2 ^ 20 }
     (s.pass 102).inForce .SHP_SAMPLE_EN ≠ 0 ∧ (s.pass 102).inForce .SHP_SAMPLE_TICKS ≤ (s.pass 102).ring.ticks ∧
       ((up.wr .SHP_SAMPLE_EN 0 0 1).pass 102).ring.ticks < ((up.wr .SHP_SAMPLE_EN 0 0 1).pass 102).inForce .SHP_SAMPLE_TICKS) ∧
    ([0, 1, 2].all fun t =>
      let c := cmdOf 0x62 (t * 2 ^ 24 + 5 * 2 ^ 160)
      let s := withCmd paired c
      State.runs s 0x62 c && decide (bitsOf (Desc.flags c.desc) 9 8 = t)) = true ∧
    ([true, false].all fun b =>
      let c := cmdOf 0x63 (b2n b * 2 ^ 24)
      State.runs (withCmd paired c) 0x63 c && (Desc.flag c.desc 8 == b)) = true := by decide +kernel
theorem wit_Shaping_b :
    (List.range 2).all (fun pr =>
      let t := (queued pr).pass 5
      let picks := (List.range 8).filterMap fun v => (t.pickVc 2 v (List.replicate 32 99)).map fun c => (v, c)
      t.on .RING_PORT_STS_UP 2 && !bitAt t.fab.quiet 2 && decide (picks.map Prod.fst = [1]) && decide (t.isPriv 1 = decide (pr = 1)) &&
        decide ((t.drr 2 (1 - pr) (picks.map fun (x : Nat × Bool × Nat × QFrame) => (x.1, x.2.2.2.l)) 64 ((Map.find t.ring.turn (4 + 1 - pr)).getD 7)).2 = some 1)) = true ∧
    ((List.range 8).filterMap fun v => (((linked 2).pass 5).pickVc 2 v []).map fun c => (v, c)) = [] := by decide +kernel

theorem wit_BypassesAndEvacuation :
    (let s := up.wr .RING_PORT_STS_PRESENT 0 0 1
     s.mayOpen? 0 = true ∧ s.on .CTL_READY_CONTROL = true ∧ (s.pass 200000000).mayOpen? 0 = true ∧ (s.pass 200000000).on .CTL_READY_CONTROL = true ∧
       (Map.find (s.pass 200000000).fab.since 0).getD 0 + 100000000 ≤ (s.pass 200000000).now ∧
       (s.pass 1).now < (Map.find (s.pass 1).fab.since 0).getD 0 + 100000000) ∧
    (let s := up.wr .RING_BYP_STATE 0 0 0x55
     s.bypass 0 = 1 ∧ (s.pass 10000000).bypass 0 = 1 ∧ (s.pass 10000000).fab.evac = none ∧ s.present? 0 = false ∧ s.present? 1 = false) ∧
    (let s := up.wr .RING_BYP_STATE 0 0 0xAA
     let t := s.wr .RING_PORT_STS_PRESENT 0 0 1
     (s.pass 10000000).bypass 0 = 2 ∧ (t.pass 10000000).bypass 0 = 2 ∧ (t.pass 10000000).present? 0 = true ∧ (t.pass 10000000).on .RING_PORT_STS_UP 0 = false) ∧
    up.blkOn .RING = true ∧
    (let c := cmdOf 0x73 0
     let s := withCmd paired c
     State.runs s 0x73 c && s.fab.evac.isNone && !s.fab.gone) = true ∧
    (let e : EvacRun := ⟨[], false, 1000, 0, 0, 0, true, false, none, []⟩
     let s := up.setFab { up.fab with evac := some e }
     s.fab.evac = some e ∧ (s.pass 1000).fab.evac = some e ∧ e.due ≤ (s.pass 1000).now ∧ (s.pass 1).fab.evac = some e ∧ (s.pass 1).now < e.due ∧ s.evacDone = true ∧
       e.committed = true ∧ e.asked = false) := by decide +kernel

/-- A member of a map of this Flewick and Flewick 5. -/
def mapped (leads : Bool) : State :=
  let s := up.setFab { up.fab with members := [0, 5] }
  let s := (((s.wr .RING_MAP_STATE 0 0 1).wr .RING_MAP_STATE 5 0 1).wr .RING_STS_IS_LEADER 0 0 (b2n leads)).wr .RING_MAP_BOOTGEN 5 0 7
  if leads then s else s.wr .RING_STS_LEADER 0 0 5
theorem wit_FabricMap_a :
    up.boot.stage = .configured ∧ up.on .RING_STS_CFG_BAD = false ∧ up.fab.gone = false ∧ up.isMember up.myId = false ∧
    (let u := (up.wr .SEC_FABRIC_VALID0 0 0 1).pass 9
     u.inFabric = true ∧ u.fab.members = [] ∧ u.fab.change = none ∧ u.noKey = false ∧
      u.now < u.fab.controlAt + 100000000 * u.rd .RING_MAP_CFG_FORM_S) ∧
    (let s := (up.wr .SEC_FABRIC_VALID0 0 0 1).wr .RING_MAP_CFG_EXPECT 0 0 1
     let u := s.pass 100000000000
     u.inFabric = true ∧ u.fab.controlAt + 100000000 * u.rd .RING_MAP_CFG_FORM_S ≤ u.now ∧ u.noKey = false ∧ u.fab.members = [] ∧ u.fab.change = none ∧ u.rd .RING_MAP_CFG_EXPECT < 2 * (u.fab.heard.length + 1) ∧ u.fab.heard = []) ∧
    ((mapped true).leads = true ∧ (mapped true).isMember 5 = true ∧ (mapped true).isMember 9 = false ∧ (mapped true).outcast 9 1 = false ∧
      (mapped true).outcast 5 7 = false ∧ (mapped true).rd .RING_MAP_BOOTGEN 5 = 7 ∧ ((mapped true).wr .RING_MAP_STATE 5 0 3).outcast 5 7 = true ∧
      ((mapped true).wr .RING_MAP_STATE 5 0 2).rd .RING_MAP_STATE 5 = 2 ∧ (mapped true).rd .RING_MAP_STATE 5 = 1) ∧
    (let c : Change := ⟨[.leaving 5], [0], 0, false, false⟩
     let s := (mapped true).setFab { (mapped true).fab with change := some c }
     s.fab.change = some c ∧ c.acks.contains 0 = true ∧ c.acks.contains 5 = false) ∧
    (mapped false).inFabric = true ∧ (mapped false).isMember (mapped false).myId = true ∧ (mapped false).rd .RING_MAP_EPOCH_EPOCH = 0 ∧
    (mapped false).leader = 5 ∧ (mapped false).myId = 0 ∧ (mapped false).fab.change = none := by decide +kernel
theorem wit_FabricMap_b :
    ([true, false].all fun b =>
      let s := (mapped b).pass 5
      let u := s.wr .RING_MAP_LINKS s.myId 0 s.linkBits
      s.isMember s.myId && !s.fab.gone && u.fab.change.isNone && (u.leads == b) && !u.fab.isolated && !s.fab.isolated) = true ∧
    (let u := ((mapped false).setFab { (mapped false).fab with beat := (mapped false).now, isolated := false }).showMember
     u.leader = 5 ∧ u.rd .RING_MAP_EPOCH_EPOCH = 0) ∧
    (let u := (mapped true).pass (10 ^ 12)
     u.leads = true ∧ u.fab.isolated = false ∧ u.isMember 5 = true ∧ (Map.find u.fab.beats 5).getD 0 + 100000 * u.rd .RING_MAP_CFG_LOSS_MS ≤ u.now ∧
       ((mapped true).pass 1).now < (Map.find ((mapped true).pass 1).fab.beats 5).getD 0 + 100000 * ((mapped true).pass 1).rd .RING_MAP_CFG_LOSS_MS) ∧
    (let u := (mapped false).pass (10 ^ 12)
     let v := (mapped false).pass 1
     u.joined u.myId = true ∧ u.fab.gone = false ∧ u.leads = false ∧ u.fab.change = none ∧ u.fab.beat + 100000 * u.rd .RING_MAP_CFG_ISOLATE_MS ≤ u.now ∧
       v.now < v.fab.beat + 100000 * v.rd .RING_MAP_CFG_ISOLATE_MS) ∧
    up.fab.evac = none := by decide +kernel
theorem wit_FabricMap_c :
    (let u := (mapped true).pass (10 ^ 12)
     let iso := 100000 * u.rd .RING_MAP_CFG_ISOLATE_MS
     u.leads = true ∧ 2 * (u.joinedIds.filter fun n => decide (n = u.myId) || decide (u.now < (Map.find u.fab.beats n).getD 0 + iso)).length ≤ u.joinedIds.length) ∧
    (let u := (mapped false).pass (10 ^ 12)
     let v := (mapped false).pass 1
     u.fab.beat + 100000 * (((u.joinedIds.filter fun n => decide (n < u.myId)).length + 1) * u.rd .RING_MAP_CFG_LOSS_MS) ≤ u.now ∧
     v.now < v.fab.beat + 100000 * (((v.joinedIds.filter fun n => decide (n < v.myId)).length + 1) * v.rd .RING_MAP_CFG_LOSS_MS)) := by decide +kernel

theorem wit_RolesAndMeters_a :
    ([3 * 2 ^ 128, 2 ^ 24 + 2 ^ 128, 2 ^ 24, 3 * 2 ^ 128 + 100 * 2 ^ 136].all fun d => State.runs (withCmd paired (cmdOf 0x71 d)) 0x71 (cmdOf 0x71 d)) = true ∧
    (mixOf (cmdOf 0x71 (3 * 2 ^ 128)).desc = some (0, 0, 0) ∧ mixOf (cmdOf 0x71 (2 ^ 128)).desc = none ∧
      mixOf (cmdOf 0x71 (3 * 2 ^ 128 + 100 * 2 ^ 136)).desc = some (100, 0, 0)) ∧
    paired.rd .GORE_ROLE_ROLE = 3 ∧ paired.attn.steps = [] ∧
    (let u := up.pass 5
     u.on .CTL_READY_CONTROL = true ∧ u.gauges = 0 ∧ u.isShort = false ∧ ((up.wr .CTL_ADM_STS_SHORT 0 0 1).pass 5).isShort = true ∧
       ((up.wr .CTL_ADM_LIM_DESC_MIN 0 0 (2 ^ 32 - 1)).pass 5).gauges ≠ 0) := by decide +kernel
theorem wit_RolesAndMeters_b :
    ([0, 1, 2].all fun (o : Nat) =>
      let c := cmdOf 0x72 (o * 2 ^ 24)
      State.runs (withCmd paired c) 0x72 c && decide (bitsOf (Desc.flags c.desc) 9 8 = o) && decide (Desc.num c.desc 18 2 = paired.myId) &&
        decide (Desc.byte c.desc 16 = c.ctx)) = true ∧
    paired.on .HTI_CTX_MGMT 0 = true ∧ (paired.wr .HTI_CTX_MGMT 0 0 0).on .HTI_CTX_MGMT 0 = false ∧ paired.joined 5 = false ∧ (mapped false).joined 5 = true ∧
    (let q : RemRun := ⟨0, 0, 1⟩
     let s := (withCmd paired (cmdOf 0x72 0)).setFleet { paired.fleet with remote := [q] }
     (s.fleet.remote.find? fun (r : RemRun) => decide (r.cmd = (cmdOf 0x72 0).id)) = some { q with cmd := (cmdOf 0x72 0).id } ∧ s.cmd (cmdOf 0x72 0).id = some (cmdOf 0x72 0) ∧
       (s.pass 5).now < q.at_ + 1000000 ∧ q.at_ + 1000000 ≤ (s.pass 1000000).now) := by decide +kernel

theorem wit_JobKeys :
    ([0, 2 ^ 24, 2 ^ 136, 2 ^ 24 + 2 ^ 128].all fun d =>
      let c := cmdOf 0x60 d
      State.runs (withCmd paired c) 0x60 c) = true ∧
    (Desc.flag (cmdOf 0x60 0).desc 8 = false ∧ Desc.flag (cmdOf 0x60 (2 ^ 24)).desc 8 = true ∧ Desc.byte (cmdOf 0x60 (2 ^ 136)).desc 17 = 1 ∧ Desc.byte (cmdOf 0x60 0).desc 17 = 0) ∧
    (paired.bit .SEC_CTX_RETIRING 0 0 = false ∧ paired.bit .SEC_CTX_ACTIVE 0 0 = false ∧ paired.rd .SEC_CTX_TDI 0 = 0 ∧
      (paired.wrBit .SEC_CTX_RETIRING 0 0 true).bit .SEC_CTX_RETIRING 0 0 = true ∧ (paired.wrBit .SEC_CTX_ACTIVE 0 0 true).bit .SEC_CTX_ACTIVE 0 0 = true ∧
      (paired.wr .SEC_CFG_PLAIN_KEYS 0 0 1).on .SEC_CFG_PLAIN_KEYS = true ∧ (paired.wr .SEC_CFG_PLAIN_KEYS 0 0 0).on .SEC_CFG_PLAIN_KEYS = false ∧
      (Map.find paired.sec.imports 0).isNone = true ∧ Map.find (paired.setImport 0 (some 5)).sec.imports 0 = some 5 ∧
      paired.on .HTI_CTX_MGMT 0 = true ∧ paired.locked 0 = false ∧ Map.has paired.sec.fabric 0 = false ∧ Map.has (paired.setFabric 1 5 0 false).sec.fabric 1 = true) ∧
    ([0, 2 ^ 25, 2 ^ 25 + 2 ^ 128].all fun d =>
      let c := cmdOf 0x61 d
      State.runs (withCmd paired c) 0x61 c) = true ∧
    (Desc.flag (cmdOf 0x61 (2 ^ 25)).desc 9 = true ∧ Desc.byte (cmdOf 0x61 (2 ^ 25 + 2 ^ 128)).desc 16 = 1 ∧ paired.rd .SEC_FABRIC_TX_SLOT = 0) ∧
    (let s := up.wrBit .SEC_CTX_RETIRING 0 3 true
     s.bit .SEC_CTX_RETIRING 3 0 = true ∧ s.keyFree 0 3 = true ∧
       ((withCmd s (cmdOf 0x17 0)).setSec { s.sec with retires := [⟨9, 0, 3, [(cmdOf 0x17 0).id], 1, 0⟩] }).keyFree 0 3 = false) := by decide +kernel

/-- An open SPDM session 5 on port 0, one that has not finished, and an IDE stream in secure state. -/
def secured : State := up.setSec { up.sec with
  sessions := [⟨0, 5, true, false⟩, ⟨0, 6, false, false⟩], streams := [⟨0, 1, [(0, 7), (1, 7)], some 0, some 0, false⟩], meas := [(1, 5)] }
theorem wit_SecureSessions :
    secured.spdmOn 0 = true ∧ State.reset.spdmOn 3 = false ∧ Map.has secured.sec.meas 1 = true ∧ Map.has secured.sec.meas 2 = false ∧ (secured.spdmSess 0 9).isNone = true ∧
    (secured.sec.sessions.filter fun (x : SpdmSess) => decide (x.path = 0)).length < 4 ∧
    (let s := secured.setSec { secured.sec with sessions := [⟨0, 1, true, false⟩, ⟨0, 2, true, false⟩, ⟨0, 3, true, false⟩, ⟨0, 4, true, false⟩] }
     s.spdmOn 0 = true ∧ (s.spdmSess 0 9).isNone = true ∧ 4 ≤ (s.sec.sessions.filter fun (x : SpdmSess) => decide (x.path = 0)).length) ∧
    secured.spdmSess 0 6 = some ⟨0, 6, false, false⟩ ∧ secured.spdmSess 0 5 = some ⟨0, 5, true, false⟩ ∧
    (let g (n : Nat) : IdeStream := (secured.ideStream 0 n).getD (IdeStream.blank 0 n)
     Map.has (g 1).keys 0 = true ∧ Map.has (g 1).keys 3 = false ∧ (g 1).secure = true ∧ (g 2).secure = false ∧ secured.ideStream 0 1 = some (g 1)) ∧
    (secured.setSec { secured.sec with streams := [⟨0, 1, [], none, none, false⟩] }).ideStream 0 1 = some ⟨0, 1, [], none, none, false⟩ ∧
    (⟨0, 1, [], none, none, false⟩ : IdeStream).secure = false ∧ secured.ideStream 1 3 = none := by decide +kernel

/-- A sealed request on a channel: procedure, version 1, and further bytes. -/
def sealed (ch p len rest : Nat) : State := up.setChan ch ⟨p + 256 + rest * 2 ^ 32, 0, len, 0, 0, none⟩
theorem wit_Procedures_a :
    (sealed 0 1 4 0).asked 0 1 = true ∧ (sealed 0 2 8 7).asked 0 2 = true ∧ (sealed 0 1 4 0).asked 0 2 = false ∧ up.asked 0 1 = false ∧ up.asked 0 2 = false ∧
    ((sealed 0 3 12 (5 * 2 ^ 32)).wr .HTI_CTX_MGMT 0 0 1).asked 0 3 = true ∧
    ((sealed 0 4 4 0).wr .HTI_CTX_MGMT 0 0 1).asked 0 4 = true ∧ (sealed 0 4 4 0).on .CTL_RST_CAUSE_FAILED = false := by decide +kernel
theorem wit_Procedures_b :
    (sealed 64 1 4 0).asked 64 1 = true ∧ (sealed 64 1 4 0).on .SEC_BOOT_STS_RECOVERY = false ∧ (up.wr .SEC_BOOT_STS_RECOVERY 0 0 1).on .SEC_BOOT_STS_RECOVERY = true ∧
    (let s := sealed 64 2 20 (1 + 8 * 2 ^ 64)
     let t := sealed 64 2 20 (1 + 2 ^ 8 + 4 * 2 ^ 64)
     let c := s.chan 64
     let d := t.chan 64
     s.asked 64 2 = true ∧ t.asked 64 2 = true ∧ c.byte 4 ≠ s.rd .SEC_BOOT_STS_COPY ∧ s.on .CTL_PIN_STS_SPI_GNT = false ∧ c.num 8 4 = 0 ∧
       (match s.sec.stage with | some g => if g.copy = c.byte 4 && g.total = c.num 12 4 then g.len else 0 | none => 0) = 0 ∧
       c.num 12 4 = 8 ∧ c.len = 20 ∧ bitAt (c.byte 5) 0 = false ∧ bitAt (d.byte 5) 0 = true ∧ d.num 12 4 = 4 ∧
       (sealed 64 2 20 (1 + 4 * 2 ^ 32 + 8 * 2 ^ 64)).asked 64 2 = true ∧ ((sealed 64 2 20 (1 + 4 * 2 ^ 32 + 8 * 2 ^ 64)).chan 64).num 8 4 = 4) ∧
    (sealed 64 3 40 5).asked 64 3 = true ∧ up.on .SEC_DEBUG_STATE = false ∧ (up.wr .SEC_DEBUG_STATE 0 0 1).on .SEC_DEBUG_STATE = true ∧
    (sealed 64 4 44 1).asked 64 4 = true ∧ Map.has (sealed 64 4 44 1).sec.fabric 1 = false ∧ Map.has ((sealed 64 4 44 1).setFabric 1 5 0 false).sec.fabric 1 = true ∧
    (sealed 64 5 100 0).asked 64 5 = true ∧ ((sealed 64 5 100 0).setSec { up.sec with owner := some 1 }).sec.owner.isSome = true ∧
    (sealed 64 6 8 0).asked 64 6 = true ∧ (sealed 64 6 8 1).asked 64 6 = true ∧ ((sealed 64 6 8 1).chan 64).byte 4 = 1 ∧
    (sealed 64 7 4 0).asked 64 7 = true := by decide +kernel

/-- A manager's session on MCTP, and a manager key. -/
def managed : State := up.setSec { up.sec with
  manager := some 1, sessions := [⟨2, 5, true, true⟩], streams := [⟨0, 1, [], some 0, some 0, true⟩] }
theorem wit_Conversations :
    (up.windowOpen 0 0 = true ∧ up.chanBusy 0 = false ∧ up.chanFull 0 = false ∧ bitsOf 1024 11 0 = 1024 ∧ bitsOf 0 11 0 = 0 ∧ bitsOf 1025 11 0 = 1025 ∧
      ((up.setBusy 0 true).chanBusy 0 = true ∧ (up.setBusy 0 true).windowOpen 0 0 = true)) ∧
    up.blkOn .MBX = true ∧ managed.secureOk 2 0 = true ∧ managed.secureOk 0 0 = false ∧
    ((sealed 0 1 4 0).chan 0).ans = none ∧ ((sealed 0 1 4 0).chan 0).len ≠ 0 ∧ (sealed 0 1 4 0).reqFault 0 = none ∧
    (sealed 0 9 4 0).reqFault 0 = some (.badOpcode, 0) ∧ ((sealed 0 9 4 0).chan 0).len ≠ 0 ∧
    ((up.setChan 64 ⟨7, 0, 4, 0, 1, some (4, 0)⟩).chan 64).ans = some (4, 0) ∧ ((up.setChan 64 ⟨7, 0, 4, 0, 1, some (4, 0)⟩).chan 64).byte 0 = 7 ∧
    ((up.setChan 64 ⟨6, 0, 4, 0, 0, some (4, 0)⟩).chan 64).byte 0 = 6 ∧
    up.blkOn .HTIW = true ∧ up.port 0 = 0 ∧ up.rd .SEC_CTX_TDI 0 = 0 ∧ managed.securePath 2 = true ∧ up.securePath 0 = false ∧
    (let s := managed.wr .SEC_CFG_SPDM_MCTP 0 0 1
     s.spdmOn 2 = true ∧ s.secureOk 4 1 = true ∧ s.chanBusy 64 = false ∧ s.chanFull 64 = false ∧ (s.setBusy 64 true).chanBusy 64 = true ∧
       ((up.wr .SEC_CFG_SPDM_MCTP 0 0 1).spdmOn 2 = true ∧ (up.wr .SEC_CFG_SPDM_MCTP 0 0 1).secureOk 4 1 = false)) ∧
    bitAt up.mbx.sumBusy 0 = false ∧ bitAt (up.setMbx { up.mbx with sumBusy := 1, sumPend := 1 }).mbx.sumBusy 0 = true := by decide +kernel

theorem wit_EventRings :
    up.windowOpen 0 0 = true ∧ bitAt 0x14 4 = true ∧ bitAt 0x4 4 = false ∧ fieldOf .HTI_W_EVT_CFG_LOG 0x14 = 4 ∧ fieldOf .HTI_W_EVT_CFG_LOG 0x13 = 3 ∧
    up.on .HTI_W_EVT_CFG_EN 0 = false ∧
    (let s := (up.wr .HTI_W_EVT_CFG_EN 0 0 1).wr .HTI_W_EVT_CFG_LOG 0 0 4
     s.on .HTI_W_EVT_CFG_EN 0 = true ∧ s.rd .HTI_W_EVT_CFG_LOG 0 = 4 ∧ s.windowOpen 0 0 = true) ∧
    (up.evt 0).on = false ∧ (up.evt 0).last = none ∧
    (let r : EvtRec := ⟨1, 0, 0, 0, 0⟩
     let s := (up.setEvt 0 { up.evt 0 with on := true, log := 4, last := some (r, 0) }).wr .HTI_W_EVT_IDX_TAIL 0 0 2
     (s.evt 0).on = true ∧ (s.evt 0).last = some (r, 0) ∧ s.windowOpen 0 0 = true ∧ s.rd .HTI_W_EVT_IDX_TAIL 0 = 2 ∧ s.rd .HTI_W_EVT_IDX_HEAD 0 = 0 ∧
       fieldOf .HTI_W_EVT_IDX_HEAD 3 = 3 ∧ (s.evt 0).log = 4) ∧
    (up.wr .HTI_W_FLT_IDX_HEAD 0 0 0).rd .HTI_W_FLT_IDX_HEAD 0 = (up.wr .HTI_W_FLT_IDX_HEAD 0 0 0).rd .HTI_W_FLT_IDX_NEXT 0 ∧
    (up.wr .HTI_W_FLT_IDX_HEAD 0 0 1).rd .HTI_W_FLT_IDX_HEAD 0 ≠ (up.wr .HTI_W_FLT_IDX_HEAD 0 0 1).rd .HTI_W_FLT_IDX_NEXT 0 := by decide +kernel

/-- A part at a stage of bring-up. -/
def atStage (x : Boot) : State := State.reset.setBoot { State.reset.boot with stage := x }
theorem wit_BringUp_a :
    ((atStage .off).pass 5).boot.stage = .off ∧ ((atStage .rails).pass 5).boot.stage = .rails ∧
    ((atStage .rom).pass 5).boot.stage = .rom ∧ ((atStage .rom).pass 5).on .CTL_PIN_STS_SPI_GNT = false ∧
    (let good : BootCopy := ⟨0, 0, 0, 0⟩
     let bad : BootCopy := ⟨3, 0, 0, 0⟩
     bootVerdict good 0 = 0 ∧ bootVerdict bad 0 = 3 ∧ ((atStage .rom).pass 5).rd .SEC_SVN_COUNTER = 0) ∧
    (((atStage .waitPerst).pass 5).wr .CTL_PIN_STS_PERST 0 0 0).boot.stage = .waitPerst ∧
    (((atStage .waitPerst).pass 5).wr .CTL_PIN_STS_PERST 0 0 0).on .CTL_PIN_STS_SPI_GNT = false := by decide +kernel
theorem wit_BringUp_b :
    (let s := up.setPwr { up.pwr with admitted := [⟨.stack, 0, 320, 0⟩, ⟨.panel, 0, 120, 0⟩] }
     s.isAdmitted .stack 0 = true ∧ s.isAdmitted .panel 0 = true ∧ s.boot.stage = .configured ∧ 0 < Config.panels ∧
       (s.unadmit .stack 0).on .CTL_BOOT_STS_T1_FAIL = false ∧ ((s.unadmit .stack 0).wrBit .CTL_READY_T1 0 0 true).rd .CTL_READY_T1 = 1 ∧
       ((((s.wr .CTL_READY_T1 0 0 254).unadmit .stack 0).wrBit .CTL_READY_T1 0 0 true).rd .CTL_READY_T1 = 255) ∧
       (s.wr .CTL_READY_GORES 0 0 0).bit .CTL_READY_GORES 0 = false) ∧
    (up.pass 5).on .CTL_READY_CONTROL = true ∧
    (let u := (up.wr .CTL_READY_CONTROL 0 0 0).pass 5
     u.on .CTL_READY_CONTROL = false ∧ u.rd .CTL_READY_T1 ≠ 255 ∧ u.on .CTL_BOOT_STS_T1_FAIL = false ∧ u.boot.stage = .configured) ∧
    ([0, 1].all fun o =>
      let c := cmdOf 0x70 (o * 2 ^ 24)
      State.runs (withCmd paired c) 0x70 c && (withCmd paired c).nvmTurn c && decide (bitsOf (Desc.flags c.desc) 9 8 = o)) = true := by decide +kernel

theorem wit_FunctionsAndResets :
    up.blkOn .CTL = true ∧
    ([0, 2, 4].all fun n =>
      let s := up.wr .CTL_FN_STATE 3 0 n
      let u := s.putFn 3 0
      decide ((u.setBoot { u.boot with fnAgain := setBitN u.boot.fnAgain 3 false }).rd .CTL_FN_STATE 3 = n)) = true ∧
    ([0, 1, 4].all fun n => decide (((up.wr .CTL_FN_STATE 3 0 n).putFn 3 1).rd .CTL_FN_STATE 3 = n)) = true ∧
    (let s := up.wr .CTL_FN_STATE 3 0 1
     s.rd .CTL_FN_STATE 3 = 1 ∧ s.fnCmds 3 = [] ∧ s.bit .CTL_FN_RST_FN 3 = false ∧ (withCmd s (cmdOf 0x20 0)).fnCmds 3 ≠ []) ∧
    (let s := (up.wr .CTL_FN_STATE 3 0 1).setBoot { up.boot with fnTimer := [(3, 4)] }
     let u := s.pass 5
     Map.find u.boot.fnTimer 3 = some 4 ∧ 4 ≤ u.now ∧ u.deeper = false ∧ u.rd .CTL_FN_STATE 3 = 1 ∧ Map.find (up.pass 5).boot.fnTimer 3 = none) ∧
    up.pwr.lockout = false ∧ bitsOf 0x5A01 15 8 = 0x5A ∧ bitAt 0x5A01 1 = false ∧ bitAt 0x5A01 0 = true ∧ bitAt 0x5A02 1 = true ∧ bitsOf 0x5A02 15 8 = 0x5A ∧
    up.deeper = false ∧ (up.wr .CTL_RESET_SOFT 0 0 1).deeper = true ∧ up.on .CTL_RESET_SOFT = false ∧
    ((up.wr .CTL_RESET_SOFT 0 0 1).wr .CTL_READY_T1 0 0 255).on .CTL_RESET_SOFT = true ∧ ((up.wr .CTL_RESET_SOFT 0 0 1).wr .CTL_READY_T1 0 0 255).rd .CTL_READY_T1 = 255 ∧
    up.bit .CTL_FN_RST_FN 3 = false ∧
    ([0, 3].all fun n =>
      let s := (up.wrBit .CTL_FN_RST_FN 0 3 true).wr .CTL_FN_STATE 3 0 n
      s.bit .CTL_FN_RST_FN 3 && decide (((s.wrBit .CTL_FN_RST_FN 0 3 false).readyEngine 3).rd .CTL_FN_STATE 3 = n)) = true := by decide +kernel

theorem wit_LowPower :
    ((up.wr .CTL_PM_P2_EN 0 0 0).pass 5).on .CTL_PM_P2_EN = false ∧
    (let u := (up.wr .CTL_PM_P2_EN 0 0 1).pass 5
     max u.fleet.workedAt u.pwr.calledAt + 100000 * u.rd .CTL_PM_P2_IDLE_MS > u.now ∧ u.boot.stage = .configured ∧ u.on .CTL_READY_CONTROL = true ∧ u.on .CTL_PM_P2_EN = true ∧ u.rd .CTL_PM_STS_STATE ≤ 1 ∧ u.on .CTL_RESET_SOFT = false ∧
       u.anyWork = false ∧ u.attn.steps = [] ∧ u.moving = false ∧ u.lending = false ∧
       max (u.pass 20000000).fleet.workedAt (u.pass 20000000).pwr.calledAt + 100000 * (u.pass 20000000).rd .CTL_PM_P2_IDLE_MS ≤ (u.pass 20000000).now) ∧
    (up.wr .CTL_PM_STS_STATE 0 0 2).rd .CTL_PM_STS_STATE = 2 ∧ up.rd .CTL_PM_STS_STATE ≠ 2 ∧ up.blkOn .CTL = true ∧
    bitAt 0x10000 16 = true ∧
    (let w := up.putWord [.CTL_PM_P2_EN, .CTL_PM_P2_IDLE_MS, .CTL_PM_P3_LIMIT_S] 0 0 0x10000
     let x := w.leaveP2
     w.deeper = false ∧ w.on .CTL_READY_CONTROL = true ∧ (decide (x.rd .RING_STS_MEMBER = 1) && x.fab.members.any (fun n => n != x.myId)) = false ∧
       x.anyWork = false ∧ x.lending = false ∧ x.mustDeflate x.writeDown = [] ∧ x.writeDown.unplaced.isEmpty = true ∧
       (withCmd up (cmdOf 0x10 0)).anyWork = true) ∧
    (let s := up.wr .CTL_PM_STS_STATE 0 0 3
     s.rd .CTL_PM_STS_STATE = 3 ∧ s.boot.stage = .configured ∧
       (s.allPages.any fun e => e.2.2.2.st != .lost && (decide (e.2.2.2.upper = .t1) || e.2.2.2.writing.isSome)) = false ∧
       (s.pass 5).rd .CTL_PM_STS_STATE = 3 ∧ (s.pass 5).boot.p3Due ≤ (s.pass 5).now ∧
       ((s.setBoot { s.boot with p3Due := 9 }).pass 5).now < ((s.setBoot { s.boot with p3Due := 9 }).pass 5).boot.p3Due) ∧
    (up.pass 5).boot.stage = .configured ∧ ((atStage .p3).pass 5).boot.stage = .p3 ∧ (up.pass 5).pwr.lockout = false ∧ up.powered = true := by decide +kernel

theorem wit_PowerAndHeat_a :
    (up.pass 5).powered = true ∧ (up.pass 5).boot.diesOff = false ∧
    (let u := (up.pass 5).payDebt
     u.pwr.debt = 0 ∧ u.wakeHold = false ∧ u.pwr.wakes = [] ∧
       (((up.setPwr { up.pwr with wakes := [⟨.ring, 0, 128, 0⟩] }).pass 5).payDebt).pwr.wakes = [⟨.ring, 0, 128, 0⟩] ∧
       (((up.setPwr { up.pwr with debt := 100000 }).pass 5).payDebt).pwr.debt ≠ 0 ∧
       ((((up.wr .PWR_STS_PIN_W 0 0 9999).wr .PWR_LIMIT_TDP_W 0 0 0).wr .PWR_CLK_ROOT_MHZ 0 0 2400).pass 5).payDebt.wakeHold = true) := by decide +kernel
theorem wit_PowerAndHeat_b :
    (let u := (up.wr .PWR_CLK_ROOT_MHZ 0 0 4800).pass 5
     let a := ((u.wr .PWR_STS_VIN_MV 0 0 50000).wr .PWR_STS_IIN_MA 0 0 100).wr .PWR_STS_PIN_W 0 0 10
     let b := a.setPwr { a.pwr with overs := (a.pwr.overs * 2 + b2n (decide (a.rd .PWR_LIMIT_TDP_W < 10))) % 2 ^ 1000 }
     let c := b.setCause cDriver (decide (b.rd .PWR_CLK_MAX_MHZ < 4800))
     c.rd .PWR_LIMIT_PEAK_W < 99999 ∧ 10 ≤ c.rd .PWR_LIMIT_PEAK_W ∧ popcount 1000 c.pwr.overs < 500 ∧ b.rd .PWR_CLK_ROOT_MHZ ≤ c.rootCeiling ∧ c.mayStepUp 10 = false) ∧
    (let t (n : Nat) := ([some n, none].take 52).zipIdx.foldl (fun (s : State) (p : Option Nat × Nat) => p.1.elim s fun c => s.putTemp p.2 c) (up.pass 5)
     (List.range 44).any (t 2000).hotAt = true ∧ (List.range 44).any (t 740).hotAt = false ∧ ((List.range 8).any fun n => (t 740).hotAt (44 + n)) = false ∧ (List.range 52).all (t 740).coolAt = false) := by decide +kernel

theorem wit_PinsAndLinks_a :
    (let u := up.pass 5
     u.boot.stage = .configured ∧ u.bit .CTL_PIN_STS_FLASH_PRSNT 0 = false ∧ bitAt u.pins.refclk 0 = false ∧
       ((u.wrBit .CTL_PIN_STS_FLASH_PRSNT 0 0 true).bump .CTL_PIN_CNT_COUNT 3 0 1).boot.stage = .configured) ∧
    (let u := ((up.wrBit .CTL_PIN_STS_FLASH_PRSNT 0 0 true).setPins { up.pins with refclk := 1 }).pass 5
     u.boot.stage = .configured ∧ u.bit .CTL_PIN_STS_FLASH_PRSNT 0 = true ∧ bitAt u.pins.refclk 0 = true ∧ u.on .CTL_READY_CONTROL = true ∧
       ((driveObjects 0).any fun o => u.on .TIER_OBJ_A_UP o) = false ∧ (u.pwr.wakes.any fun w => decide (w.load = .flash) && decide (w.num = 0)) = false ∧
       ((driveObjects 0).any fun o => ((up.wr .TIER_OBJ_A_UP 32 0 1).pass 5).on .TIER_OBJ_A_UP o) = true) ∧
    (up.pwr.wakes.any fun w => decide (w.load = .host) && decide (w.num = 0) && decide (w.deci = 256)) = false ∧ 1 ≤ up.rateCap 0 (up.linkMode 0 true) ∧ up.rateCap 0 (up.linkMode 0 true) < 9 ∧
    [1, 4, 8, 16].contains 4 = true ∧ up.on .HTI_PORT_STS_UP 0 = false := by decide +kernel
theorem wit_PinsAndLinks_b :
    (let s := up.wr .POOL_PORT_STS_MODE 0 0 1
     let t := up.wr .POOL_PORT_STS_MODE 0 0 2
     s.rd .POOL_PORT_STS_MODE 0 = 1 ∧ t.rd .POOL_PORT_STS_MODE 0 = 2 ∧ (s.pwr.wakes.any fun w => decide (w.load = .pool) && decide (w.num = 0)) = false ∧
       1 ≤ s.poolCap 0 ∧ (t.wrBit .CTL_PIN_STS_POOL_PERST 0 0 true).bit .CTL_PIN_STS_POOL_PERST 0 = true ∧ s.on .POOL_PORT_STS_UP 0 = false ∧
       ((s.wr .POOL_PORT_STS_UP 0 0 1).on .POOL_PORT_STS_UP 0 = true) ∧ (t.wr .POOL_PORT_STS_UP 0 0 1).on .POOL_PORT_STS_UP 0 = true ∧
       0 < ((t.wr .POOL_PORT_STS_UP 0 0 1).setBoot { t.boot with lds := [(0, 1)] }).lds 0) ∧
    up.alive = true ∧ (atStage .rom).alive = true ∧ (up.wr .CTL_PIN_STS_SPI_REQ 0 0 1).on .CTL_PIN_STS_SPI_GNT = false ∧
    (up.wr .CTL_PIN_STS_SPI_REQ 0 0 1).on .CTL_PIN_STS_SPI_REQ = true ∧
    up.rd .SEC_DEBUG_STATE = 0 ∧ (up.wr .SEC_DEBUG_STATE 0 0 1).rd .SEC_DEBUG_STATE ≠ 0 ∧
    (let u := ((mapped false).pass 5).bump .CTL_PIN_CNT_COUNT 0 0 1
     u.evacuating = false ∧ (((mapped false).wr .RING_EVAC_BTN_EN 0 0 1).wr .RING_STS_MEMBER 0 0 1).rd .RING_STS_MEMBER = 1 ∧
       ((mapped false).wr .RING_EVAC_BTN_EN 0 0 1).on .RING_EVAC_BTN_EN = true ∧ ((mapped false).wr .RING_EVAC_BTN_EN 0 0 0).on .RING_EVAC_BTN_EN = false) ∧
    (up.pass 5).pins.blink = none ∧ ((up.setPins { up.pins with blink := some 2 }).pass 5).pins.blink = some 2 ∧
    up.pwr.lockout = false ∧ up.pins.i3c = none ∧ (up.setPins { up.pins with i3c := some 2 }).pins.i3c = some 2 := by decide +kernel

theorem wit_InterfaceStates :
    secured.spdmOn 0 = true ∧ secured.spdmSess 0 5 = some ⟨0, 5, true, false⟩ ∧ secured.rd .SEC_CTX_TDI 0 = 0 ∧
    (let s := secured.wr .SEC_CTX_TDI 0 0 1
     s.rd .SEC_CTX_TDI 0 = 1 ∧ s.port 0 = 0 ∧ (s.on .HTI_W_AQCFG_EN 0 || s.holdsAny 0 || s.on .SEC_DEBUG_STATE) = false ∧ s.locked 0 = false ∧
       s.spdmOn 0 = true ∧ (s.wr .HTI_W_AQCFG_EN 0 0 1).on .HTI_W_AQCFG_EN 0 = true) ∧
    (let s := secured.wr .SEC_CTX_TDI 0 0 2
     s.rd .SEC_CTX_TDI 0 = 2 ∧ s.locked 0 = true ∧ s.spdmSess 0 5 = some ⟨0, 5, true, false⟩ ∧ s.spdmOn 0 = true) := by decide +kernel

theorem wit_SealedFramesOpen :
    let s := up.setJobKey 0 3 77 0
    let f : RFrame := { frame0 1 0 true with key := 3, data := 12345 }
    s.frameKey f = some 77 ∧ s.keyHere f = true ∧ f.data < 2 ^ (8 * f.len) := by decide +kernel
/-- A frame whose key the receiver does not hold, or with one bit of its payload changed, fails. -/
theorem test_frame_tag :
    let s := up.setJobKey 0 3 77 0
    let f : RFrame := { frame0 1 0 true with key := 3, data := 12345, len := 4 }
    let g : RFrame := { f with data := s.sealed f, hops := 9 }
    s.tagGood g = true ∧ (up.setJobKey 0 3 78 0).tagGood g = false ∧ s.tagGood { g with data := Nat.xor g.data 1 } = false ∧
      s.tagGood { g with ivc := 1 } = false := by decide +kernel

theorem wit_FramesOnTheLink :
    RFrame.wf (frame0 1 0 true) = true := by decide +kernel

end Sys2Proof.Tests
end

section
/-! SUPPORT. Writes that clear counters (R29): a write of a CLR bit zeroes whole groups, a write of a clear register zeroes the rows of the
contexts that its bits name. -/

namespace Sys2Proof.Machine

/-- A write to a block that can be reached has its effect. -/
theorem hostWrite_of_on {s : State} {b : Blk} (h : s.blkOn b = true) (f : State → State) : s.hostWrite b f = f s := by
  simp only [State.hostWrite, h, if_true]

/-- A write to a block that cannot be reached is dropped (R16). -/
theorem hostWrite_of_off {s : State} {b : Blk} (h : s.blkOn b = false) (f : State → State) : s.hostWrite b f = s := by
  simp only [State.hostWrite, h, Bool.false_eq_true, if_false]

/-! ### Whole groups -/

/-- A counter that reads zero still does after any groups are cleared. -/
theorem rd_zeroAlls_of_zero {l : List Fld} {f : Fld} {i j : Nat} (hi : i < f.info.iN) (hj : j < f.info.jN) {s : State}
    (h : s.rd f i j = 0) : (l.foldl State.zeroAll s).rd f i j = 0 := by
  induction l generalizing s with
  | nil => exact h
  | cons g t ih =>
    refine ih ?_
    by_cases e : g = f
    · subst e
      exact rd_zeroAll s g hi hj
    · rw [rd_zeroAll_field s i j e, h]

/-- Once several groups are cleared, every counter of each of them reads zero. -/
theorem rd_zeroAlls {l : List Fld} {f : Fld} (hf : f ∈ l) {i j : Nat} (hi : i < f.info.iN) (hj : j < f.info.jN) (s : State) :
    (l.foldl State.zeroAll s).rd f i j = 0 := by
  induction l generalizing s with
  | nil => cases hf
  | cons g t ih =>
    rcases List.mem_cons.mp hf with rfl | hf
    · exact rd_zeroAlls_of_zero (s := s.zeroAll f) hi hj (rd_zeroAll s f hi hj)
    · exact ih hf _

theorem onlyRegs_zeroAlls {l m : List Fld} (h : l ⊆ m) (s : State) : OnlyRegs m s (l.foldl State.zeroAll s) := by
  induction l generalizing s with
  | nil => exact .refl _ _
  | cons g t ih =>
    exact (onlyRegs_zeroAll s (h List.mem_cons_self)).trans (ih (fun _ hx => h (List.mem_cons_of_mem _ hx)) _)

/-- A command clears its groups where its meaning is to zero them, in order, on a write of bit 0 that reaches the block. -/
theorem clearsGroup_of_exec {row : Nat → Instr} {b : Blk} {l : List Fld}
    (h : ∀ v s, exec (row v) s = .next (s.hostWrite b fun s => if bitAt v 0 then l.foldl State.zeroAll s else s)) :
    ClearsGroup row b l := by
  intro v s
  refine ⟨fun hb hv => ⟨l.foldl State.zeroAll s, ?_, fun f hf i j hi hj => rd_zeroAlls hf hi hj s,
    onlyRegs_zeroAlls (List.Subset.refl l) s⟩, ?_⟩
  · rw [h, hostWrite_of_on hb, if_pos hv]
  · rintro (hb | hv)
    · rw [h, hostWrite_of_off hb]
    · simp only [h, hv, State.hostWrite, Bool.false_eq_true, if_false, ite_self]

/-- A group of one counter is cleared by one write. -/
theorem zeroAll_eq_wr (s : State) {f : Fld} (hi : f.info.iN = 1) (hj : f.info.jN = 1) : s.zeroAll f = s.wr f 0 0 0 := by
  simp [State.zeroAll, State.wrAll, instances, hi, hj]

/-- PWR_CNT.CLR clears the two maxima too, of which MAX_WAIT is one field and is written as such. -/
theorem clearsGroup_pwrCntClr : ClearsGroup .pwrCntClr .PWR [.PWR_CNT_COUNT, .PWR_DROGUE_MAX_WAIT, .PWR_TEMP_MAX_C] := by
  refine clearsGroup_of_exec fun v s => ?_
  simp only [List.foldl_cons, List.foldl_nil, zeroAll_eq_wr _ (f := .PWR_DROGUE_MAX_WAIT) rfl rfl]
  rfl

/-- CTL_SES_CNT.CLR is tested before the block is. -/
theorem clearsGroup_ctlSesCntClr : ClearsGroup .ctlSesCntClr .CTL [.CTL_SES_CNT_COUNT] := by
  refine clearsGroup_of_exec fun v s => ?_
  have h : exec (.ctlSesCntClr v) s =
    .next (if bitAt v 0 then s.hostWrite .CTL fun s => s.zeroAll .CTL_SES_CNT_COUNT else s) := rfl
  rw [h]
  cases bitAt v 0 <;> simp [State.hostWrite]

/-- Settles O8: each of the nineteen commands zeroes its groups, in order, on a write of bit 0 that reaches the block. -/
theorem counterGroupsClear : Obligations.CounterGroupsClear := by
  unfold Obligations.CounterGroupsClear
  refine ⟨?_, ?_, ?_, ?_, ?_, ?_, ?_, ?_, ?_, ?_, ?_, ?_, clearsGroup_ctlSesCntClr, ?_, ?_, ?_, ?_, clearsGroup_pwrCntClr, ?_⟩ <;>
    exact clearsGroup_of_exec fun _ _ => by simp only [List.foldl_cons, List.foldl_nil]; rfl

/-! ### Rows of contexts -/

/-- The counters of a group that a word clears: row `c` where bit `c` is set. -/
def clearedRows (f : Fld) (word : Nat) : List (Nat × Nat) :=
  (List.range f.info.iN).flatMap fun c => if bitAt word c then (List.range f.info.jN).map fun k => (c, k) else []

theorem mem_clearedRows {f : Fld} {word : Nat} {p : Nat × Nat} :
    p ∈ clearedRows f word ↔ p.1 < f.info.iN ∧ bitAt word p.1 = true ∧ p.2 < f.info.jN := by
  obtain ⟨c, k⟩ := p
  simp only [clearedRows, List.mem_flatMap, List.mem_range]
  constructor
  · rintro ⟨a, ha, h⟩
    split at h
    · simp only [List.mem_map, List.mem_range, Prod.mk.injEq] at h
      obtain ⟨j, hj, rfl, rfl⟩ := h
      exact ⟨ha, ‹_›, hj⟩
    · cases h
  · rintro ⟨hc, hb, hk⟩
    exact ⟨c, hc, by simpa [hb] using hk⟩

/-- Clearing the rows that a word names is one write of zero to their counters. -/
theorem zeroRows_eq_wrAll (s : State) (f : Fld) (word : Nat) : s.zeroRows f word = s.wrAll f (clearedRows f word) 0 := by
  simp only [State.zeroRows, State.wrAll, clearedRows, List.foldl_flatMap]
  congr 1
  funext s c
  split
  · rw [List.foldl_map]
  · rfl

/-- Where a write of several places of a field does not list one, it is left as it is. -/
theorem rd_wrAll_not_mem (s : State) {f : Fld} {l : List (Nat × Nat)} (v : Nat) {i j : Nat} (h : ∀ p ∈ l, f.key p.1 p.2 ≠ f.key i j) :
    (s.wrAll f l v).rd f i j = s.rd f i j := by
  induction l generalizing s with
  | nil => rfl
  | cons p t ih =>
    exact (ih (s.wr f p.1 p.2 v) fun q hq => h q (List.mem_cons_of_mem _ hq)).trans (rd_wr_ne s v (h p List.mem_cons_self))

/-- After the rows that a word names are cleared, a counter of a named row reads zero and any other as before (R29). -/
theorem rd_zeroRows (s : State) {f : Fld} (word : Nat) {c j : Nat} (hN : f.info.iN ≤ 65536) (hc : c < f.info.iN) (hj : j < f.info.jN) :
    (s.zeroRows f word).rd f c j = if bitAt word c then 0 else s.rd f c j := by
  rw [zeroRows_eq_wrAll]
  split
  · next hb => rw [rd_wrAll_mem s f _ 0 c j (mem_clearedRows.mpr ⟨hc, hb, hj⟩), Nat.zero_mod]
  · next hb =>
    refine rd_wrAll_not_mem s 0 fun p hp hk => hb ?_
    obtain ⟨hp, hbit, -⟩ := mem_clearedRows.mp hp
    have hrow := (key_inj hk).2.1
    rw [Nat.mod_eq_of_lt (hp.trans_le hN), Nat.mod_eq_of_lt (hc.trans_le hN)] at hrow
    exact hrow ▸ hbit

/-- A command clears by contexts where its meaning is to zero the rows that the written word names, on a state with its lower half latched. -/
theorem clearsContexts_of_exec {row : Nat → Instr} {r f : Fld} (hN : f.info.iN = 64)
    (h : ∀ v s, exec (row v) s = .next (s.hostWrite64 r 0 v fun s => s.zeroRows f v)) : ClearsContexts row r f := by
  intro v s hb
  refine ⟨(s.latched (r.bar0 0 0) v).zeroRows f v, ?_, fun c j hc hj => ?_, ?_⟩
  · rw [h, hostWrite64_of_on 0 v _ hb]
  · rw [rd_zeroRows _ v (by omega) (by omega) hj, rd_latched]
  · rw [zeroRows_eq_wrAll]
    exact onlyRegs_wrAll _ _ _ List.mem_cons_self

/-- Settles O9: each of the five commands zeroes the rows that the word names. -/
theorem contextCountersClear : Obligations.ContextCountersClear := by
  unfold Obligations.ContextCountersClear
  refine ⟨?_, ?_, ?_, ?_, ?_⟩ <;> exact clearsContexts_of_exec rfl fun _ _ => rfl

end Sys2Proof.Machine
end

section
/-! SUPPORT. SPDM and IDE_KM at work (R430 to R434): what the responder answers to each request, and what IDE_KM does inside an open session. -/

namespace Sys2Proof.Machine

/-! ### The responder on a path -/

variable {s : State} {path : Nat}

/-- On a path where the responder is on, a request does what it means. -/
theorem exec_spdmRequest_of_on (h : s.spdmOn path = true) {r : SpdmReq} {t : State} (e : spdmRequest path r s = t) :
    exec (.spdmRequest path r) s = .next t := by
  change Host.Outcome.next (if s.spdmOn path then spdmRequest path r s else s) = _
  rw [if_pos h, e]

/-- On a path where the responder is off, a request is not answered. -/
theorem exec_spdmRequest_of_off (h : s.spdmOn path = false) (r : SpdmReq) : exec (.spdmRequest path r) s = .next s := by
  change Host.Outcome.next (if s.spdmOn path then spdmRequest path r s else s) = _
  rw [h]
  rfl

/-- The sessions that stay when one of a path ends. -/
def State.spdmOthers (s : State) (path id : Nat) : List SpdmSess :=
  s.sec.sessions.filter fun (y : SpdmSess) => !(decide (y.path = path) && decide (y.id = id))

/-- An unsupported vendor-defined request answers ERROR with the request's code. -/
theorem spdmUnsupported_vendor (s : State) (path : Nat) :
    s.spdmUnsupported path 0xFE = (s.emit (.answer path 0x7F 2 0xFE07)).bump .SEC_CNT_COUNT 5 0 1 := rfl

theorem spdm_certificate_ne (s : State) (path : Nat) {slot : Nat} (h : slot ≠ 0) : spdmRequest path (.certificate slot) s = s.spdmError path 1 0 :=
  if_neg h

theorem spdm_challenge_ne (s : State) (path : Nat) {slot : Nat} (h : slot ≠ 0) : spdmRequest path (.challenge slot) s = s.spdmError path 1 0 :=
  if_neg h

/-- MEASUREMENTS answers for no block, for all of them, and for one that is held. -/
theorem spdm_measurements (s : State) (path index : Nat) (signed : Bool) :
    spdmRequest path (.measurements index signed) s =
      if index = 0 ∨ index = 0xFF ∨ Map.has s.sec.meas index = true then s.measurements path index signed else s.spdmError path 1 0 := by
  simp only [spdmRequest, Bool.or_eq_true, decide_eq_true_eq, or_assoc]

/-! ### Requests of a session that is not there -/

section
variable {id : Nat} (hx : s.spdmSess path id = none)
include hx

/-- KEY_EXCHANGE opens one more session while the path has a free one. -/
theorem spdm_keyExchange_new : spdmRequest path (.keyExchange id) s =
    if (if path = 2 then 2 else 4) ≤ (s.sec.sessions.filter fun (x : SpdmSess) => decide (x.path = path)).length then s.spdmError path 10 0
    else (s.setSec { s.sec with sessions := s.sec.sessions ++ [⟨path, id, false, false⟩] }).spdmFree path 0x64 30 0 := by
  simp only [spdmRequest, hx, Option.isSome_none, Bool.false_eq_true, if_false, ge_iff_le]

theorem spdm_finish_unknown (good : Bool) (proved : Option Nat) : spdmRequest path (.finish id good proved) s = s.spdmError path 2 0 := by
  simp only [spdmRequest, hx]

theorem spdm_endSession_unknown : spdmRequest path (.endSession id) s = s.spdmError path 2 0 := by
  simp only [spdmRequest, hx, Bool.false_eq_true, if_false]

end

/-! ### Requests of a session that is there -/

section
variable {id : Nat} {x : SpdmSess} (hx : s.spdmSess path id = some x)
include hx

theorem spdm_keyExchange_again : spdmRequest path (.keyExchange id) s = s.spdmError path 1 0 := by
  simp only [spdmRequest, hx, Option.isSome_some, if_true]

/-- A proved FINISH opens the session, and records whether the manager's key was proved. -/
theorem spdm_finish_good (ho : x.open_ = false) (proved : Option Nat) : spdmRequest path (.finish id true proved) s =
    ((s.setSec { s.sec with
      sessions := s.spdmOthers path id ++ [⟨path, id, true, proved.elim false fun h => decide (s.sec.manager = some h)⟩] }).bump
        .SEC_CNT_COUNT 4 0 1).spdmFree path 0x65 0 0 := by
  cases proved <;> simp only [spdmRequest, State.spdmOthers, Option.elim, hx, ho, Bool.false_eq_true, if_false, if_true]

/-- A FINISH that proves nothing drops the session. -/
theorem spdm_finish_bad (ho : x.open_ = false) (proved : Option Nat) : spdmRequest path (.finish id false proved) s =
    (s.setSec { s.sec with sessions := s.spdmOthers path id }).spdmError path 6 0 := by
  simp only [spdmRequest, State.spdmOthers, hx, ho, Bool.false_eq_true, if_false]

theorem spdm_heartbeat_open (ho : x.open_ = true) : spdmRequest path (.heartbeat id) s = s.spdmMsg path 0x68 0 0 0 0 := by
  simp only [spdmRequest, hx, ho, if_true]

theorem spdm_endSession_open (ho : x.open_ = true) : spdmRequest path (.endSession id) s =
    (s.setSec { s.sec with sessions := s.spdmOthers path id }).spdmMsg path 0x6C 0 0 0 0 := by
  simp only [spdmRequest, State.spdmOthers, hx, ho, if_true]

end

/-! ### IDE_KM -/

section
variable {port sid : Nat} (hp : port < 2) (hs : s.spdmOn port = true)
include hp hs

/-- Outside a session of the port, IDE_KM is a vendor-defined request that is not supported (R431, R433). -/
theorem exec_ideKmRequest_unknown (hx : s.spdmSess port sid = none) (r : IdeReq) :
    exec (.ideKmRequest port sid r) s = .next (s.spdmUnsupported port 0xFE) := by
  change Host.Outcome.next (s.inSession port sid fun x => ideKm port r x s) = _
  simp only [State.inSession, hp, hs, hx, decide_true, Bool.and_self, if_true]

/-- Inside an open session of the port, an IDE_KM request does what it means. -/
theorem exec_ideKmRequest_open {x : SpdmSess} (hx : s.spdmSess port sid = some x) (ho : x.open_ = true) {r : IdeReq} {t : State}
    (e : ideKm port r x s = t) : exec (.ideKmRequest port sid r) s = .next t := by
  change Host.Outcome.next (s.inSession port sid fun x => ideKm port r x s) = _
  simp only [State.inSession, hp, hs, hx, ho, e, decide_true, Bool.and_self, if_true]

end

section
variable {port n set : Nat} {rx : Bool} {x : SpdmSess}

/-- The stream of a number, blank where none was keyed. -/
def State.ideOrBlank (s : State) (port n : Nat) : IdeStream := (s.ideStream port n).getD (IdeStream.blank port n)

theorem ideKm_keyProg (hn : n ≤ 16) (hset : set < 2) (key : Nat) : ideKm port (.keyProg n set rx key) x s =
    (s.putIde { s.ideOrBlank port n with
      keys := Map.put (s.ideOrBlank port n).keys (2 * set + b2n rx) (key % 2 ^ 256), manager := x.manager }).ideAck port 3 n set rx 0 := by
  simp only [ideKm, State.ideOrBlank, hn, hset, decide_true, Bool.and_self, if_true]

/-- A key for a stream or a key set that the block does not have is acknowledged as unsupported. -/
theorem ideKm_keyProg_bad (h : 16 < n ∨ 2 ≤ set) (key : Nat) : ideKm port (.keyProg n set rx key) x s = s.ideAck port 3 n (set % 2) rx 3 := by
  have hbad : ¬(n ≤ 16 ∧ set < 2) := by omega
  simp only [ideKm, Bool.and_eq_true, decide_eq_true_eq, hbad, if_false]

theorem ideKm_go (hn : n ≤ 16) (hk : Map.has (s.ideOrBlank port n).keys (2 * set + b2n rx) = true) : ideKm port (.go n set rx) x s =
    (s.putIde (if rx then { s.ideOrBlank port n with rxOn := some set } else { s.ideOrBlank port n with txOn := some set })).ideAck
      port 6 n (set % 2) rx 0 := by
  unfold State.ideOrBlank at hk
  simp only [ideKm, State.ideOrBlank, hn, hk, decide_true, Bool.and_self, if_true]

theorem ideKm_go_unkeyed (hk : Map.has (s.ideOrBlank port n).keys (2 * set + b2n rx) = false) :
    ideKm port (.go n set rx) x s = s.spdmError port 1 0 := by
  unfold State.ideOrBlank at hk
  simp only [ideKm, hk, Bool.and_false, Bool.false_eq_true, if_false]

/-- K_SET_STOP acknowledges, and a stream that was secure is lost. -/
theorem ideKm_stop (hn : n ≤ 16) : ideKm port (.stop n set rx) x s =
    let u := (s.putIde (if rx then { s.ideOrBlank port n with rxOn := none } else { s.ideOrBlank port n with txOn := none })).ideAck
      port 6 n (set % 2) rx 0
    if (s.ideOrBlank port n).secure then u.ideLost port n else u := by
  exact if_pos hn

/-- A failure takes a secure stream out of secure state (R434). -/
theorem exec_ideStreamFailure_secure {t : IdeStream} (ht : s.ideStream port n = some t) (h : t.secure = true) :
    exec (.ideStreamFailure port n) s = .next ((s.putIde { t with rxOn := none, txOn := none }).ideLost port n) := by
  change execIdeStreamFailure port n s = _
  simp only [execIdeStreamFailure, ht, h, if_true]

/-- A failure of a stream that is not secure, or of none, changes nothing. -/
theorem exec_ideStreamFailure_plain (h : (s.ideStream port n).elim true (fun t => !t.secure) = true) :
    exec (.ideStreamFailure port n) s = .next s := by
  change execIdeStreamFailure port n s = _
  cases ht : s.ideStream port n with
  | none => simp only [execIdeStreamFailure, ht]
  | some t =>
    have hplain : t.secure = false := by simpa [ht] using h
    simp only [execIdeStreamFailure, ht, hplain, Bool.false_eq_true, if_false]

end

/-! ### The statement -/

/-- Settles O46: each clause is the meaning of its request, by the lemmas above. -/
theorem secureSessions : Obligations.SecureSessions := by
  unfold Obligations.SecureSessions
  refine ⟨fun path s h => ⟨?version, ?capabilities, ?algorithms, ?digests, ?certificate, ?challenge, ?slots, ?vendor, ?held, ?missing,
    ?newSession, ?oldSession⟩, fun path r s h => exec_spdmRequest_of_off h r, fun port sid s hp hs => ⟨fun r hx => ?outside, fun x hx ho =>
    ⟨?query, ?keyProg, ?badKeyProg, ?go, ?badGo, ?stop⟩⟩,
    fun port n s => ⟨fun t ht h => exec_ideStreamFailure_secure ht h, fun h => exec_ideStreamFailure_plain h⟩⟩
  case version | capabilities | algorithms | digests | certificate | challenge => exact exec_spdmRequest_of_on h rfl
  case slots =>
    exact fun slot hslot => ⟨exec_spdmRequest_of_on h (spdm_certificate_ne s path hslot),
      exec_spdmRequest_of_on h (spdm_challenge_ne s path hslot)⟩
  case vendor => exact fun n => exec_spdmRequest_of_on h (spdmUnsupported_vendor s path)
  case held => exact fun index signed hm => exec_spdmRequest_of_on h ((spdm_measurements s path index signed).trans (if_pos hm))
  case missing =>
    intro index signed h0 hall hm
    exact exec_spdmRequest_of_on h ((spdm_measurements s path index signed).trans (if_neg (by simp [h0, hall, hm])))
  case newSession =>
    intro id hx
    refine ⟨fun hfree => ?_, fun hfull => ?_, exec_spdmRequest_of_on h (spdm_finish_unknown hx true none),
      exec_spdmRequest_of_on h (spdm_endSession_unknown hx)⟩
    · exact exec_spdmRequest_of_on h ((spdm_keyExchange_new hx).trans (if_neg (Nat.not_le.mpr hfree)))
    · exact exec_spdmRequest_of_on h ((spdm_keyExchange_new hx).trans (if_pos hfull))
  case oldSession =>
    intro id x hx
    exact ⟨exec_spdmRequest_of_on h (spdm_keyExchange_again hx),
      fun ho proved => ⟨exec_spdmRequest_of_on h (spdm_finish_good hx ho proved), exec_spdmRequest_of_on h (spdm_finish_bad hx ho proved)⟩,
      fun ho => ⟨exec_spdmRequest_of_on h (spdm_heartbeat_open hx ho), exec_spdmRequest_of_on h (spdm_endSession_open hx ho)⟩⟩
  case outside => rw [exec_ideKmRequest_unknown hp hs hx, spdmUnsupported_vendor]
  case query => exact exec_ideKmRequest_open hp hs hx ho rfl
  case keyProg => exact fun n set rx key hn hset => exec_ideKmRequest_open hp hs hx ho (ideKm_keyProg hn hset key)
  case badKeyProg => exact fun n set rx key hbad => exec_ideKmRequest_open hp hs hx ho (ideKm_keyProg_bad hbad key)
  case go => exact fun n set rx hn hk => exec_ideKmRequest_open hp hs hx ho (ideKm_go hn hk)
  case badGo => exact fun n set rx hk => exec_ideKmRequest_open hp hs hx ho (ideKm_go_unkeyed hk)
  case stop => exact fun n set rx hn => exec_ideKmRequest_open hp hs hx ho (ideKm_stop hn)

end Sys2Proof.Machine
end

section
/-! SUPPORT. Accesses to registers at work (R12 to R17, R43, R45, R78, R437): what a write and a read of BAR0 do in a reachable block, the
writes that a locked TDI freezes, HTI_CTX, the function-level reset. -/

namespace Sys2Proof.Machine

/-! ### BAR0 accesses in a reachable block -/

section
variable {s : State} {port off size : Nat} (hport : port < 4) (h0 : size ≠ 0) (h64 : size ≤ 64) (hoff : off < 0x4000000)
include hport h0 h64 hoff

theorem exec_registerWrite_bar0 (v : Nat) : exec (.registerWrite 0 port off size v) s = .next (bar0Write port off size v s) := by
  change execRegisterWrite 0 port off size v s = _
  simp [execRegisterWrite, Nat.not_le.mpr hport, h0, Nat.not_lt.mpr h64, hoff]

theorem exec_registerRead_bar0 : exec (.registerReadLogged 0 port off size) s = .next (readBar0 port off size s) := by
  change execRegisterReadLogged 0 port off size s = _
  simp [execRegisterReadLogged, Nat.not_le.mpr hport, h0, Nat.not_lt.mpr h64, hoff]

end

/-- The error entry of a BAR0 access, which needs the HTI block (log 154). -/
def bar0Err (port off kind : Nat) (s : State) : State := if s.blkOn .HTI then s.errlog kind 0 (port % 2) 0 off else s

theorem bar0Err_of_on {s : State} (h : s.blkOn .HTI = true) (port off kind : Nat) :
    bar0Err port off kind s = s.errlog kind 0 (port % 2) 0 off := if_pos h

section
variable {s : State} {port off size o : Nat} {b : Blk} (hat : blkAt off = some (b, o)) (hM : b ≠ .MBX) (hb : s.blkOn b = true)
include hat hM hb

/-- A BAR0 write in a reachable block without secure channels does what its offset meets there. -/
theorem bar0Write_eq_writeMeet (v : Nat) :
    bar0Write port off size v s = writeMeet (fun s f => s.hostWrite b f) (bar0Err port off) port off none (meet b o size) v s := by
  unfold bar0Err
  by_cases hn : meet b o size = .nothing
  · simp [bar0Write, hat, hM, hn, writeMeet, hostWrite_of_on hb]
  · simp [bar0Write, hat, hM, hn]

/-- A BAR0 read in a reachable block without secure channels answers what its offset meets there. -/
theorem readBar0_eq_readMeet :
    readBar0 port off size s = (readMeet (bar0Err port off) none (meet b o size) size s).1.emit
      (.busRead (readMeet (bar0Err port off) none (meet b o size) size s).2) := by
  have hshow : s.blkShows b = true := by simp [State.blkShows, hb]
  unfold bar0Err
  simp [readBar0, hat, hM, hshow]

end

/-! ### What a write does by what it meets -/

/-- A register without a row of its own takes the word as its fields' types state, past the check. -/
theorem storeReg_of_noRow {port w : Nat} {p : Fld × Nat × Nat} (hrow : ownRow port p w = none) (guard : State → (State → State) → State)
    (l : List (Fld × Nat × Nat)) (s : State) : storeReg guard port (p :: l) w s = guard s (writeReg (p :: l) w) := by
  simp only [storeReg, hrow]

section
variable {s : State} {b : Blk} {err : Nat → State → State} {port key v : Nat} {p : Fld × Nat × Nat} {l : List (Fld × Nat × Nat)}
  (hb : s.blkOn b = true)
include hb

/-- A whole register without a row of its own takes the word; a 64-bit one keeps its lower half as the one most recently written (R14). -/
theorem writeMeet_whole (hrow : ownRow port p v = none) :
    writeMeet (fun s f => s.hostWrite b f) err port key none (.whole (p :: l)) v s =
      writeReg (p :: l) v (if regBytes (p :: l) = 8 then s.latched key v else s) := by
  simp only [writeMeet, inCtx, storeReg_of_noRow hrow, hostWrite_of_on hb]

/-- An upper half takes the lower half that is latched, or the fields as they stand (R14). -/
theorem writeMeet_upper
    (hrow : ownRow port p ((Map.find s.latch (key - 4)).getD (s.keepLower (p :: l)) + v % 2 ^ 32 * 2 ^ 32) = none) :
    writeMeet (fun s f => s.hostWrite b f) err port key none (.upper (p :: l)) v s =
      let w := (Map.find s.latch (key - 4)).getD (s.keepLower (p :: l)) + v % 2 ^ 32 * 2 ^ 32
      if Map.has s.latch (key - 4) then writeReg (p :: l) w s else (writeReg (p :: l) w s).unlatch (key - 4) := by
  cases hfind : Map.find s.latch (key - 4) with
  | none =>
    simp only [hfind, Option.getD_none] at hrow ⊢
    simp only [writeMeet, inCtx, hfind, Map.has, storeReg_of_noRow hrow, hostWrite_of_on hb, Option.isSome_none, Bool.false_eq_true, if_false]
  | some low =>
    simp only [hfind, Option.getD_some] at hrow ⊢
    simp only [writeMeet, inCtx, hfind, Map.has, storeReg_of_noRow hrow, hostWrite_of_on hb, Option.isSome_some, if_true]

theorem writeMeet_lower (r : List (Fld × Nat × Nat)) :
    writeMeet (fun s f => s.hostWrite b f) err port key none (.lower r) v s = s.latched key v :=
  hostWrite_of_on hb fun s => s.latched key v

theorem writeMeet_part : writeMeet (fun s f => s.hostWrite b f) err port key none .part v s = err kMisaligned s :=
  hostWrite_of_on hb (err kMisaligned)

theorem writeMeet_nothing : writeMeet (fun s f => s.hostWrite b f) err port key none .nothing v s = err kUnmapped s :=
  hostWrite_of_on hb (err kUnmapped)

end

/-! ### Fields by their types (R17) -/

/-- An RW field takes a value that it lists, outside the blocks whose values wait and the field with a bound of its own. -/
theorem writeField_rw {f : Fld} (i j w : Nat) (s : State) (ht : f.info.ty = .rw) (hS : f.info.blk ≠ .SHP) (hR : f.info.blk ≠ .RING)
    (hP : f ≠ .PWR_LIMIT_PEAK_W) : s.writeField (f, i, j) w = if f.legal (fieldOf f w) then s.wr f i j (fieldOf f w) else s := by
  simp [State.writeField, ht, hS, hR, hP, State.put]

/-- A W1C field loses the bits that are written as 1. -/
theorem writeField_w1c {f : Fld} (i j w : Nat) (s : State) (ht : f.info.ty = .w1c) :
    s.writeField (f, i, j) w = s.wr f i j (s.rd f i j - Nat.land (s.rd f i j) (fieldOf f w)) := by
  simp only [State.writeField, ht]

/-! ### Writes that a locked TDI freezes (R437) -/

theorem lockWrite_of_locked {s : State} {c : Nat} (h : s.locked c = true) (f : State → State) : s.lockWrite c f = s.bump .SEC_CNT_COUNT 9 0 1 :=
  if_pos h

theorem lockWrite_of_unlocked {s : State} {c : Nat} (h : s.locked c = false) (f : State → State) : s.lockWrite c f = f s := by
  simp only [State.lockWrite, h, Bool.false_eq_true, if_false]

section
variable {s : State} {c : Nat} (hc : c < 64) (v : Nat)
include hc

theorem exec_htiCtxWrite_of_on (hb : s.blkOn .HTI = true) : exec (.htiCtxWrite c v) s = .next (s.lockWrite c (ctxWrite (s.port c) c v)) := by
  change Host.Outcome.next (if c < 64 then s.hostWrite .HTI _ else s) = _
  rw [if_pos hc, hostWrite_of_on hb]

theorem exec_goreBridleWrite_of_on (hb : s.blkOn .GORE = true) : exec (.goreBridleWrite c v) s = .next (s.lockWrite c (bridleWrite c v)) := by
  change Host.Outcome.next (if c < 64 then s.hostWrite .GORE _ else s) = _
  rw [if_pos hc, hostWrite_of_on hb]

theorem exec_goreShareWrite_of_on (hb : s.blkOn .GORE = true) : exec (.goreShareWrite c v) s = .next (s.lockWrite c (goreShare c v)) := by
  change Host.Outcome.next (if c < 64 then s.hostWrite .GORE _ else s) = _
  rw [if_pos hc, hostWrite_of_on hb]

theorem exec_mtrCompTagWrite_of_on (hb : s.blkOn .MTR = true) :
    exec (.mtrCompTagWrite c v) s = .next ((s.latched (Fld.bar0 .MTR_COMP_TAG c 0) v).lockWrite c (compTag c v)) := by
  change Host.Outcome.next (if c < 64 then s.hostWrite64 .MTR_COMP_TAG c v _ else s) = _
  rw [if_pos hc, hostWrite64_of_on (r := .MTR_COMP_TAG) c v _ hb]

end

/-! ### HTI_CTX (R78) -/

/-- HTI_CTX as a written word leaves its fields. -/
def State.htiCtxPut (s : State) (c v : Nat) : State := s.putWord [.HTI_CTX_EN, .HTI_CTX_PORT, .HTI_CTX_MGMT, .HTI_CTX_QMAX] c 0 v

/-- Under an enabled pair 0, a word that would change a binding is logged and dropped. -/
theorem ctxWrite_busy {s : State} {c : Nat} (port v : Nat) (hen : s.on .HTI_W_AQCFG_EN c = true)
    (h : (s.htiCtxPut c v).rd .HTI_CTX_EN c ≠ s.rd .HTI_CTX_EN c ∨ (s.htiCtxPut c v).rd .HTI_CTX_PORT c ≠ s.rd .HTI_CTX_PORT c ∨
      (s.htiCtxPut c v).rd .HTI_CTX_QMAX c ≠ s.rd .HTI_CTX_QMAX c) :
    ctxWrite port c v s = s.errlog kCtxBusy c port 0 (0x401000 + 8 * c) := by
  refine if_pos ?_
  simp only [State.htiCtxPut] at h
  simp only [hen, Bool.true_and, Bool.not_eq_true', Bool.and_eq_false_iff, decide_eq_false_iff_not, or_assoc]
  exact h

/-- With pair 0 disabled, the word binds the context anew. -/
theorem ctxWrite_free {s : State} {c : Nat} (port v : Nat) (hen : s.on .HTI_W_AQCFG_EN c = false) :
    ctxWrite port c v s = (s.htiCtxPut c v).bound c (s.on .HTI_CTX_EN c) (s.port c) := by
  simp only [ctxWrite, State.htiCtxPut, hen, Bool.false_and, Bool.false_eq_true, if_false]

/-! ### Function-level reset (R45) -/

theorem exec_functionLevelReset_of_on {s : State} {port : Nat} (hport : port < 2) (hb : s.blkOn .HTI = true) (vf : Option Nat) :
    exec (.functionLevelReset port vf) s = .next (flr port vf s) := by
  change execFunctionLevelReset port vf s = _
  simp [execFunctionLevelReset, hport, hb]

/-- A physical function's reset resets every context bound to its port. -/
theorem flr_physical {s : State} (port : Nat) (hd : s.deeper = false) :
    flr port none s = ((List.range 64).filter fun c => s.port c = port).foldl (fun s c => s.ctxReset c) s := by
  simp only [flr, hd, Bool.and_true, Bool.false_eq_true, if_false]

/-- A virtual function's reset resets its own context. -/
theorem flr_virtual {s : State} {port v : Nat} (hd : s.deeper = false) (hsr : s.on .HTI_PORT_CTL_SRIOV port = true) (hv : v < 64)
    (hp : s.port v = port) : flr port (some v) s = s.ctxReset v := by
  have hone : ((List.range 64).filter fun c => decide (s.port c = port) && (s.on .HTI_PORT_CTL_SRIOV port && decide (c = v))) = [v] := by
    refine List.perm_singleton.mp ((List.perm_ext_iff_of_nodup (List.nodup_range.filter _) (List.nodup_singleton v)).mpr fun c => ?_)
    simp only [List.mem_filter, List.mem_range, Bool.and_eq_true, decide_eq_true_eq, List.mem_singleton]
    exact ⟨fun h => h.2.2.2, by rintro rfl; exact ⟨hv, hp, hsr, rfl⟩⟩
  simp only [flr, hd, Bool.false_eq_true, if_false, hone, List.foldl_cons, List.foldl_nil]

/-! ### The statement -/

/-- Settles O15: an access by what its offset meets, a field by its type, a frozen write, HTI_CTX and the function-level reset. -/
theorem registerAccesses : Obligations.RegisterAccesses := by
  unfold Obligations.RegisterAccesses
  refine ⟨fun port off size v s b o p l hport h0 h64 hoff hat hM hb hH => ?access, fun f i j w s => ⟨fun ht hS hR hP =>
    writeField_rw i j w s ht hS hR hP, fun ht => writeField_w1c i j w s ht⟩, fun c v s hc hl => ?locked, fun c v s hc hl hb => ?htiCtx,
    fun port s hport hb hd => ?reset⟩
  case access =>
    have hwrite := (exec_registerWrite_bar0 hport h0 h64 hoff v).trans (congrArg Host.Outcome.next (bar0Write_eq_writeMeet hat hM hb v))
    have hread := (exec_registerRead_bar0 hport h0 h64 hoff).trans (congrArg Host.Outcome.next (readBar0_eq_readMeet hat hM hb))
    refine ⟨fun hm hrow => ?wWhole, fun r hm => ?wLower, ?wUpper, fun hm => ?wPart, fun hm => ?wNothing, fun r hm => ?rWhole,
      fun r hm => ?rLower, fun hm => ?rPart, fun hm => ?rNothing⟩
    case wWhole => rw [hwrite, hm, writeMeet_whole hb hrow]
    case wLower => rw [hwrite, hm, writeMeet_lower hb]
    case wUpper =>
      intro hm w hrow
      rw [hwrite, hm, writeMeet_upper hb hrow]
    case wPart => rw [hwrite, hm, writeMeet_part hb, bar0Err_of_on hH]
    case wNothing => rw [hwrite, hm, writeMeet_nothing hb, bar0Err_of_on hH]
    case rWhole | rLower | rNothing => rw [hread, hm]; rfl
    case rPart => rw [hread, hm, ← bar0Err_of_on hH]; rfl
  case locked =>
    intro u
    refine ⟨fun hb => ?_, fun hb => ⟨?_, ?_⟩, fun hb => ?_⟩
    · rw [exec_htiCtxWrite_of_on hc v hb, lockWrite_of_locked hl]
    · rw [exec_goreBridleWrite_of_on hc v hb, lockWrite_of_locked hl]
    · rw [exec_goreShareWrite_of_on hc v hb, lockWrite_of_locked hl]
    · rw [exec_mtrCompTagWrite_of_on hc v hb, lockWrite_of_locked (s := s.latched _ v) hl]
  case htiCtx =>
    rw [exec_htiCtxWrite_of_on hc v hb, lockWrite_of_unlocked hl]
    exact ⟨fun hen hbind => congrArg Host.Outcome.next (ctxWrite_busy _ v hen hbind),
      fun hen => congrArg Host.Outcome.next (ctxWrite_free _ v hen)⟩
  case reset =>
    refine ⟨?_, fun v hsr hv hp => ?_⟩
    · rw [exec_functionLevelReset_of_on hport hb, flr_physical port hd]
    · rw [exec_functionLevelReset_of_on hport hb, flr_virtual hd hsr hv hp]

end Sys2Proof.Machine
end

section
/-! SUPPORT. Sessions at work (R38, R80, R82, R87, R90, R94, R95, R99, R104, R110): SESS_CREATE, SESS_SHIP, SESS_TETHER, the end of a
revival, the idle pause, the notice that frees a descriptor. -/

namespace Sys2Proof.Machine

/-! ### Session commands that may run

The phase of a command stands in the table of commands alone: the rest of a state, and what the meanings below read of it, is by definition
the same once a phase is set. -/

section
variable {s : State} {k : Nat} {c : Cmd}

theorem exec_sessCreate_of_mayRun (h : s.mayRun k 0x10 c) : exec (.sessCreate k) s = .next (sessCreate c (s.setPhase k .running)) :=
  congrArg Host.Outcome.next (begin_of_mayRun h sessCreate rfl rfl rfl)

theorem exec_sessShip_of_mayRun (h : s.mayRun k 0x17 c) (hready : s.shipReady c = true) (hlive : s.sessLive c = true) :
    exec (.sessShip k) s = .next (onOwned sessShip c (s.setPhase k .running)) :=
  congrArg Host.Outcome.next (begin_of_mayRun h (onOwned sessShip) rfl hready hlive)

theorem exec_sessTetherQuery_of_mayRun (h : s.mayRun k 0x18 c) (hop : Desc.byte c.desc 16 = 0) (hlive : s.sessLive c = true) :
    exec (.sessTetherQuery k) s = .next (tetherQuery c (s.setPhase k .running)) :=
  congrArg Host.Outcome.next (begin_of_mayRun h tetherQuery (decide_eq_true hop) rfl hlive)

theorem exec_sessTetherResolve_of_mayRun (h : s.mayRun k 0x18 c) (hop : Desc.byte c.desc 16 = 1) (hlive : s.sessLive c = true) :
    exec (.sessTetherResolve k) s = .next (tetherResolve c (s.setPhase k .running)) :=
  congrArg Host.Outcome.next (begin_of_mayRun h tetherResolve (decide_eq_true hop) rfl hlive)

end

/-- The search for a free slot reads the table of sessions alone. -/
theorem findSlot_setPhase (s : State) (k : Nat) (p : CmdPhase) (fuel n : Nat) : (s.setPhase k p).findSlot fuel n = s.findSlot fuel n := by
  induction fuel generalizing n with
  | zero => rfl
  | succ fuel ih =>
    rw [State.findSlot, State.findSlot, ih]
    rfl

theorem newSlot_setPhase (s : State) (k : Nat) (p : CmdPhase) : (s.setPhase k p).newSlot = s.newSlot := findSlot_setPhase s k p _ _

/-! ### SESS_CREATE -/

/-- Whether the session that a SESS_CREATE asks for is INTERACTIVE: by its class, or by the context's default. -/
def State.asksInter (s : State) (c : Cmd) : Bool := bitAt (Desc.byte c.desc 17) 0 || (s.dflt c.ctx).interactive

section
variable {s : State} {c : Cmd}

/-- Only a BATCH session is turned away while the part runs short (R395). -/
theorem not_turnedAway {short inter : Bool} (h : short = false ∨ inter = true) : ¬(short && !inter) = true := by
  simpa [imp_iff_not_or] using h

/-- A Flewick that leaves the fabric makes no session. -/
theorem sessCreate_of_leaving (h : s.evacuating = true ∨ s.rd .RING_STS_MEMBER = 3) : sessCreate c s = s.finish c.id .retryLater (hintS 1) :=
  if_pos (by simpa using h)

section
variable (hevac : s.evacuating = false) (hmem : s.rd .RING_STS_MEMBER ≠ 3)
include hevac hmem

/-- While the part runs short, a BATCH session is turned away and counted. -/
theorem sessCreate_of_short (hshort : s.isShort = true) (hinter : s.asksInter c = false) : sessCreate c s =
    (s.bump .CTL_ADM_CNT_COUNT 2 0 1).finish c.id .retryLater (hintMs (s.rd .CTL_ADM_CFG_BACKOFF_MS)) := by
  have hturn : (s.isShort && !s.asksInter c) = true := by rw [hshort, hinter]; rfl
  exact (if_neg (by simp [hevac, hmem])).trans (if_pos hturn)

variable (hroom : s.isShort = false ∨ s.asksInter c = true)
include hroom

theorem sessCreate_of_noShape (hshape : Map.has s.attn.shapes (Desc.byte c.desc 16) = false) :
    sessCreate c s = s.finish c.id .reservedNonzero 16 := by
  have hadmit : ¬(s.isShort && !s.asksInter c) = true := not_turnedAway hroom
  exact (if_neg (by simp [hevac, hmem])).trans ((if_neg hadmit).trans (if_pos (congrArg not hshape)))

/-- A context that has made its MAX_SESS sessions, or finds no free descriptor, tries again later. -/
theorem sessCreate_of_noSlot (hshape : Map.has s.attn.shapes (Desc.byte c.desc 16) = true)
    (h : s.rd .CTL_SES_CTX_MAX_SESS c.ctx ≤ s.madeBy c.ctx ∨ s.newSlot = none) : sessCreate c s = s.finish c.id .retryLater (hintMs 1) := by
  have hadmit : ¬(s.isShort && !s.asksInter c) = true := not_turnedAway hroom
  have hslot : (if s.madeBy c.ctx < s.rd .CTL_SES_CTX_MAX_SESS c.ctx then s.newSlot else none) = none := by
    rcases h with h | h
    · exact if_neg (Nat.not_lt.mpr h)
    · rw [h, ite_self]
  unfold State.asksInter at hadmit
  simp only [sessCreate, hevac, hmem, hadmit, hshape, hslot, decide_false, Bool.or_false, Bool.not_true, Bool.false_eq_true, if_false]

end
end

/-- Settles O23: the three refusals by their lemmas; a SESS_CREATE that is not refused runs to its end, with its seed given or drawn. -/
theorem sessionCreation : Obligations.SessionCreation := by
  unfold Obligations.SessionCreation
  intro k c s h r inter
  rw [exec_sessCreate_of_mayRun h]
  obtain rfl := cmd_id h.1
  refine ⟨fun hleave => congrArg Host.Outcome.next (sessCreate_of_leaving hleave), fun hevac hmem =>
    ⟨fun hshort hinter => congrArg Host.Outcome.next (sessCreate_of_short hevac hmem hshort hinter), fun hroom =>
      ⟨fun hshape => congrArg Host.Outcome.next (sessCreate_of_noShape hevac hmem hroom hshape), fun hshape =>
        ⟨fun hn => ?noSlot, fun n hlim hslot => ?made⟩⟩⟩⟩
  case noSlot =>
    rw [← newSlot_setPhase s c.id .running] at hn
    exact congrArg Host.Outcome.next (sessCreate_of_noSlot hevac hmem hroom hshape hn)
  case made =>
    rw [← newSlot_setPhase s c.id .running] at hslot
    have hadmit : ¬(s.isShort && !inter) = true := not_turnedAway hroom
    have hpick : (if (s.setPhase c.id .running).madeBy c.ctx < (s.setPhase c.id .running).rd .CTL_SES_CTX_MAX_SESS c.ctx then
        (s.setPhase c.id .running).newSlot else none) = some n := (if_pos hlim).trans hslot
    have hmake : sessCreate c (s.setPhase c.id .running) = _ :=
      (if_neg (by simpa using ⟨hevac, hmem⟩)).trans ((if_neg hadmit).trans (if_neg (ne_true_of_eq_false (congrArg not hshape))))
    rw [hpick] at hmake
    rw [hmake]
    -- Whether the seed is given or drawn changes the counter of free values alone: every read after it is the same.
    generalize Desc.num c.desc 24 8 = given
    cases given <;> rfl

/-! ### SESS_SHIP and SESS_TETHER -/

section
variable {s : State} {c : Cmd} {x : Session} (hx : s.sess (Desc.handle c.desc) = some x)
include hx

/-- An owner's command that the session's state lets run does what it means. -/
theorem onOwned_of_admitted (hr : s.refusal x = none) (body : Cmd → Session → State → State) : onOwned body c s = body c x s := by
  simp only [onOwned, hx, hr]

/-- QUERY completes with the record as known here. -/
theorem tetherQuery_of_sess : tetherQuery c s = s.finish c.id .ok 0 (tetherWord x.epoch x.owner (s.hasOwner x.owner) x.inherited) := by
  simp only [tetherQuery, hx]

/-- RESOLVE at the home reconciles with the home's own record. -/
theorem tetherResolve_of_home (hh : x.isHome = true) : tetherResolve c s =
    (s.reconcile x.handle x.epoch x.owner (s.hasOwner x.owner)).1.finish c.id .ok 0
      (tetherWord x.epoch x.owner (s.hasOwner x.owner) x.inherited) (s.reconcile x.handle x.epoch x.owner (s.hasOwner x.owner)).2 := by
  simp only [tetherResolve, hx, hh, if_true]

/-- RESOLVE elsewhere asks the home. -/
theorem tetherResolve_of_away (hh : x.isHome = false) :
    tetherResolve c s = s.send (s.homeId x.handle) 0 .tetherQuery x.handle x.epoch s.myId 0 [] := by
  simp only [tetherResolve, hx, hh, Bool.false_eq_true, if_false]

end

/-- SESS_SHIP of a session that is not being rebuilt, to another joined member, with a key to seal it: the transfer begins. -/
theorem sessShip_starts {s : State} {c : Cmd} {x : Session} (hst : x.st ≠ .rebuilding) (hdest : Desc.num c.desc 16 2 ≠ s.myId)
    (hjoined : s.joined (Desc.num c.desc 16 2) = true) (hkey : s.jobKeyFail c.ctx (Desc.byte c.desc 18) c.id = none) :
    sessShip c x s = s.startShip x.handle (Desc.num c.desc 16 2) (Desc.byte c.desc 18) c.id (Desc.flag c.desc 8) false := by
  simp only [sessShip, hst, hdest, hjoined, hkey, decide_false, Bool.not_true, Bool.or_self, Bool.false_eq_true, if_false]

/-! ### The end of a revival -/

/-- A REVIVING session as its revival ends: ALOFT, or PARKED again at the limit (R39), and counted. -/
def State.revived (s : State) (h : Nat) : State := (s.enterAloft h).bump .CTL_SES_CNT_COUNT 4 0 1

section
variable {s : State} {h : Nat} {x : Session} (hx : s.sess h = some x) (hst : x.st = .reviving)
  (hup : (x.pages.all fun q => decide (q.2.upper = .t1) || decide (q.2.st = .lost)) = true)
include hx hst hup

theorem reviveDone_of_command {c : Cmd} {y : Session} (hc : (s.revived h).runningOp 0x13 h = some c) (hy : (s.revived h).sess h = some y) :
    reviveDone h s = if y.st = .aloft then (s.revived h).finish c.id .ok else (s.revived h).finish c.id .retryLater (hintMs 1) := by
  unfold State.revived at *
  simp only [reviveDone, hx, hst, hup, hc, hy, decide_true, Bool.and_self, if_true, decide_eq_true_eq]

theorem reviveDone_of_noCommand (hc : (s.revived h).runningOp 0x13 h = none) : reviveDone h s = s.revived h := by
  unfold State.revived at *
  simp only [reviveDone, hx, hst, hup, hc, decide_true, Bool.and_self, if_true]

end

/-! ### The idle pause and the owner's notice -/

/-- An ALOFT session of this owner that has been idle for its limit is paused, with an event that shows the state it is left in. -/
theorem idlePark_of_idle {s : State} {h : Nat} {x : Session} (hx : s.sess h = some x) (howner : x.owner_ = true) (hst : x.st = .aloft)
    (hlim : x.idlePark ≠ 0) (hitem : s.itemInFlight h = false) (hkv : s.kvInFlight h = false)
    (hdue : max x.lastStep x.entered + 100000 * x.idlePark ≤ s.now) :
    idlePark h s = ((s.pause h).flushGone).event (hCtx h) 5 h
      (packBytes [(6, (((s.pause h).flushGone).sess h).elim 0 fun y => y.st.code)]) := by
  have hlim' : (x.idlePark != 0) = true := bne_iff_ne.mpr hlim
  simp only [idlePark, hx, howner, hst, hlim', hitem, hkv, hdue, decide_true, Bool.not_false, Bool.and_self, if_true]
  cases ((s.pause h).flushGone).sess h <;> rfl

/-- A notice without a record frees the descriptor of a session that is neither owned here nor on its way in. -/
theorem roleNotice_none_frees {s : State} {h : Nat} {x : Session} (hx : s.sess h = some x) (howner : x.owner_ = false)
    (hin : x.incoming = false) (src : Nat) : roleNotice src h none s = s.freeSess h := by
  simp only [roleNotice, hx, howner, hin, Bool.or_self, Bool.false_eq_true, if_false]

/-- Settles O26: each command and event by the lemma on its meaning. -/
theorem tetherCommands : Obligations.TetherCommands := by
  unfold Obligations.TetherCommands
  refine ⟨?ship, ?tether, ?revive, ?idle, fun src h s x hx howner hin => congrArg Host.Outcome.next (roleNotice_none_frees hx howner hin src)⟩
  case ship =>
    intro k c s x h hready hlive hx hr hst hdest hjoined hkey
    obtain rfl := cmd_id h.1
    rw [exec_sessShip_of_mayRun h hready hlive, onOwned_of_admitted (s := s.setPhase c.id .running) hx hr]
    exact congrArg Host.Outcome.next (sessShip_starts hst hdest hjoined hkey)
  case tether =>
    intro k c s x h hlive hx
    obtain rfl := cmd_id h.1
    refine ⟨fun hop => ?query, fun hop hh => ?home, fun hop hh => ?away⟩
    case query =>
      rw [exec_sessTetherQuery_of_mayRun h hop hlive]
      exact congrArg Host.Outcome.next (tetherQuery_of_sess hx)
    case home =>
      rw [exec_sessTetherResolve_of_mayRun h hop hlive]
      exact congrArg Host.Outcome.next (tetherResolve_of_home hx hh)
    case away =>
      rw [exec_sessTetherResolve_of_mayRun h hop hlive]
      exact congrArg Host.Outcome.next (tetherResolve_of_away hx hh)
  case revive =>
    intro h s x hx hst hup
    have hexec : exec (.reviveDone h) s = .next (reviveDone h s).pump := rfl
    refine ⟨fun c y hc hy => ⟨fun ha => ?aloft, fun ha => ?parked⟩, fun hc => ?none⟩
    case aloft => rw [hexec, reviveDone_of_command hx hst hup hc hy, if_pos ha]; rfl
    case parked => rw [hexec, reviveDone_of_command hx hst hup hc hy, if_neg ha]; rfl
    case none => rw [hexec, reviveDone_of_noCommand hx hst hup hc]; rfl
  case idle =>
    intro dt h s x hx howner hst hlim hitem hkv hdue
    exact ⟨_, congrArg Host.Outcome.next (idlePark_of_idle hx howner hst hlim hitem hkv hdue)⟩

end Sys2Proof.Machine
end

section
/-! SUPPORT. Low power at work (R37, R487 to R493, R496, R500, R511, R527): P2, the P3 request and its entry, PM_WAKE_N, PERST_N, the loss
of the input rail, the failure of the whole Flewick. -/

namespace Sys2Proof.Machine

/-! ### P2 -/

/-- No command other than HTI's accepted, no step in flight, no page moving, no memory lent: the Flewick is idle (R487). -/
theorem atWork_eq_false {s : State} (hwork : s.anyWork = false) (hsteps : s.attn.steps = []) (hmove : s.moving = false)
    (hlend : s.lending = false) : s.atWork = false := by
  simp [State.atWork, hwork, hsteps, hmove, hlend]

/-- The moment at which P2 is due: P2_IDLE_MS after the last work and the last call. -/
def State.p2Due (s : State) : Nat := max s.fleet.workedAt s.pwr.calledAt + 100000 * s.rd .CTL_PM_P2_IDLE_MS

theorem p2Entry_of_disabled {s : State} (hen : s.on .CTL_PM_P2_EN = false) : p2Entry s = s := by
  simp only [p2Entry, hen, Bool.and_false, Bool.false_and, Bool.false_eq_true, if_false]

theorem p2Entry_of_early {s : State} (hdue : s.now < s.p2Due) : p2Entry s = s := by
  have hnot : ¬s.p2Due ≤ s.now := Nat.not_le.mpr hdue
  unfold State.p2Due at hnot
  simp only [p2Entry, hnot, decide_false, Bool.and_false, Bool.false_eq_true, if_false]

/-! ### The P3 request -/

/-- Other members of the fabric map, which a P3 entry would leave behind. -/
def State.others (s : State) : Bool := decide (s.rd .RING_STS_MEMBER = 1) && s.fab.members.any (fun n => n != s.myId)

theorem p3Write_of_noRequest {s : State} {v : Nat} (hreq : bitAt v 16 = false) :
    p3Write v s = s.putWord [.CTL_PM_P2_EN, .CTL_PM_P2_IDLE_MS, .CTL_PM_P3_LIMIT_S] 0 0 v := by
  simp only [p3Write, hreq, Bool.false_and, Bool.false_eq_true, if_false]

/-- A request is served where no deeper entry is under way and CONTROL is up. -/
theorem p3Write_of_request {s w : State} {v : Nat} (hw : s.putWord [.CTL_PM_P2_EN, .CTL_PM_P2_IDLE_MS, .CTL_PM_P3_LIMIT_S] 0 0 v = w)
    (hreq : bitAt v 16 = true) (hdeep : w.deeper = false) (hctl : w.on .CTL_READY_CONTROL = true) : p3Write v s = p3Req w := by
  subst hw
  simp only [p3Write, hreq, hdeep, hctl, Bool.not_false, Bool.and_self, if_true]

section
variable {s : State}

theorem p3Req_of_others (ho : s.leaveP2.others = true) : p3Req s = (s.leaveP2.noP3 1).bump .TIER_CNT_COUNT 15 0 1 :=
  if_pos ho

variable (ho : s.leaveP2.others = false)
include ho

theorem p3Req_of_work (hwork : s.leaveP2.anyWork = true) : p3Req s = (s.leaveP2.noP3 2).bump .TIER_CNT_COUNT 15 0 1 :=
  (if_neg (ne_true_of_eq_false ho)).trans (if_pos hwork)

variable (hwork : s.leaveP2.anyWork = false)
include hwork

theorem p3Req_of_lending (hlend : s.leaveP2.lending = true) : p3Req s = (s.leaveP2.noP3 3).bump .TIER_CNT_COUNT 15 0 1 :=
  (if_neg (ne_true_of_eq_false ho)).trans ((if_neg (ne_true_of_eq_false hwork)).trans (if_pos hlend))

/-- Where every page finds a place, without a session deflated for it, the entry starts. -/
theorem p3Req_starts (hlend : s.leaveP2.lending = false) (hdefl : s.leaveP2.mustDeflate s.leaveP2.writeDown = [])
    (hplaced : s.leaveP2.writeDown.unplaced = []) : p3Req s = s.leaveP2.writeDown.startP3 := by
  unfold State.others at ho
  simp only [p3Req, ho, hwork, hlend, hdefl, hplaced, List.foldl_nil, List.isEmpty_nil, Bool.false_eq_true, if_false, if_true]

end

/-! ### The P3 entry and its end -/

theorem p3Complete_of_other {s : State} (hst : s.rd .CTL_PM_STS_STATE ≠ 3) : p3Complete s = s := by
  have h : (s.rd .CTL_PM_STS_STATE != 3) = true := bne_iff_ne.mpr hst
  exact if_pos (by rw [h]; rfl)

/-- Once no page is left in T1 or on its way down, the part is in P3 and its lanes are off. -/
theorem p3Complete_stage {s : State} (hst : s.rd .CTL_PM_STS_STATE = 3) (hstage : s.boot.stage = .configured)
    (hleft : (s.allPages.any fun e => e.2.2.2.st != .lost && (decide (e.2.2.2.upper = .t1) || e.2.2.2.writing.isSome)) = false) :
    (p3Complete s).boot.stage = .p3 ∧ (p3Complete s).boot.lanesOk = false := by
  have hgo : ¬(s.rd .CTL_PM_STS_STATE != 3 || s.boot.stage != .configured ||
      s.allPages.any fun e => e.2.2.2.st != .lost && (decide (e.2.2.2.upper = .t1) || e.2.2.2.writing.isSome)) = true := by
    rw [hst, hstage, hleft]; decide
  rw [show p3Complete s = _ from if_neg hgo]
  exact ⟨rfl, rfl⟩

theorem p3Limit_of_due {s : State} (hst : s.rd .CTL_PM_STS_STATE = 3) (hstage : s.boot.stage = .configured) (hdue : s.boot.p3Due ≤ s.now) :
    p3Limit s = s.abandonP3 5 := by
  simp only [p3Limit, hst, hstage, hdue, decide_true, Bool.and_self, if_true]

theorem p3Limit_of_early {s : State} (hdue : s.now < s.boot.p3Due) : p3Limit s = s := by
  simp only [p3Limit, Nat.not_le.mpr hdue, decide_false, Bool.and_false, Bool.false_eq_true, if_false]

/-! ### Pins -/

section
variable {s u : State} {held : Bool} (hoff : s.boot.stage ≠ .off) (hu : s.wr .CTL_PIN_STS_PM_WAKE 0 0 (b2n held) = u)
include hoff hu

theorem pmWake_of_p3 (hstage : u.boot.stage = .p3) : pmWake held s = u.exitP3 := by
  subst hu
  simp only [pmWake, hoff, hstage, if_true, if_false]

/-- In a configured part, PM_WAKE_N ends a P3 entry under way and nothing else. -/
theorem pmWake_of_configured (hstage : u.boot.stage = .configured) :
    pmWake held s = if u.rd .CTL_PM_STS_STATE = 3 then u.abandonP3 6 else u := by
  subst hu
  simp only [pmWake, hoff, hstage, decide_true, Bool.true_and, decide_eq_true_eq, reduceCtorEq, if_false]

end

section
variable {s u : State} (hu : s.wr .CTL_PIN_STS_PERST 0 0 1 = u)
include hu

/-- PERST_N asserted is a WARM in a part that has its rails. -/
theorem perstAssert_of_powered (hlock : u.pwr.lockout = false) (hoff : u.boot.stage ≠ .off) (hrails : u.boot.stage ≠ .rails) :
    perstAssert s = u.warm 2 := by
  subst hu
  simp only [perstAssert, hlock, hoff, hrails, decide_false, Bool.or_self, Bool.false_eq_true, if_false]

/-- After a thermal trip PERST_N is shown alone. -/
theorem perstAssert_of_lockout (hlock : u.pwr.lockout = true) : perstAssert s = u := by
  subst hu
  simp only [perstAssert, hlock, Bool.true_or, if_true]

end

/-! ### The failure of the whole Flewick -/

theorem closeAll_boot (s : State) : s.closeAll.boot = s.boot :=
  (keeps_closeAll (List.Subset.refl _) (.refl _ s)).boot (by decide)

theorem loseState_boot (s : State) : s.loseState.boot = s.boot := rfl

/-- Steps that each leave the boot state leave it together. -/
theorem foldl_boot {α : Type} {f : State → α → State} (hf : ∀ s x, (f s x).boot = s.boot) (l : List α) (s : State) :
    (l.foldl f s).boot = s.boot := by
  induction l generalizing s with
  | nil => rfl
  | cons x t ih => exact (ih (f s x)).trans (hf s x)

section
variable {s : State} (die unit code : Nat) (off : Bool) (hoff : s.boot.stage ≠ .off) (hrails : s.boot.stage ≠ .rails)
include hoff hrails

/-- The capture of a failure (R492): stage, unit, code and the two clocks, as the state before them reads. -/
theorem wholeFailure_boot : (s.wholeFailure die unit code off).boot = { s.boot with
    stage := .failed, failUnit := unit, failCode := code, failRt := s.rd .CTL_RT_TIME_COUNT, failHti := s.now, diesOff := off } := by
  have hports (s : State) (p : Nat) : (if !off && s.on .POOL_PORT_STS_UP p && s.rd .POOL_PORT_STS_MODE p = 2
      then s.wr .POOL_PORT_STS_VIRAL_OUT p 0 1 else s.wr .POOL_PORT_STS_UP p 0 0).boot = s.boot := by
    split <;> rfl
  have hgo : ¬(decide (s.boot.stage = .off) || decide (s.boot.stage = .rails)) = true := by simp [hoff, hrails]
  rw [show s.wholeFailure die unit code off = _ from if_neg hgo]
  have hclock {g : Fld} (hfailed : .CTL_RST_CAUSE_FAILED ≠ g) (hdie : .CTL_RST_CAUSE_FAIL_DIE ≠ g) :
      ((s.wr .CTL_RST_CAUSE_FAILED 0 0 1).wr .CTL_RST_CAUSE_FAIL_DIE 0 0 die).rd g = s.rd g :=
    (rd_wr_field _ _ _ _ _ _ hdie).trans (rd_wr_field _ _ _ _ _ _ hfailed)
  simp only [loseState_boot, wr_boot, foldl_boot hports, closeAll_boot, State.now,
    hclock (g := .CTL_RT_TIME_COUNT) (by decide) (by decide), hclock (g := .HTI_TIME_COUNT) (by decide) (by decide)]

/-- No command and no session is left. -/
theorem wholeFailure_empties : (s.wholeFailure die unit code off).hti.cmds = [] ∧ (s.wholeFailure die unit code off).ses.tab = [] := by
  have hgo : ¬(decide (s.boot.stage = .off) || decide (s.boot.stage = .rails)) = true := by simp [hoff, hrails]
  rw [show s.wholeFailure die unit code off = _ from if_neg hgo]
  exact ⟨rfl, rfl⟩

end

/-- A failure of a die that the part has, in a part that has not failed yet, is captured with its unit where the die is a stack (R493). -/
theorem exec_wholeFlewickFailure_of_running {s : State} {die : Nat} (hdie : die < 6) (hstage : s.boot.stage ≠ .failed) (unit code : Nat) :
    exec (.wholeFlewickFailure die unit code) s =
      .next (s.wholeFailure die (if die = 5 then unit % 8 else 0) (code % 2 ^ 32) false) := by
  have hgo : (decide (die < 6) && s.boot.stage != .failed) = true := by simp [hdie, hstage]
  exact congrArg Host.Outcome.next (if_pos hgo)

/-- Settles O52: P2 and P3 by the lemmas on their entries and ends, the pins by their stages, a failure by what it captures and empties. -/
theorem lowPower : Obligations.LowPower := by
  unfold Obligations.LowPower
  refine ⟨fun dt s => ⟨fun hen => congrArg Host.Outcome.next (p2Entry_of_disabled hen), ?p2⟩, ?p2Exit, fun v s hb => ?request, ?entry, ?limit,
    fun dt held s hoff => ?wake, fun dt s => ?rail, fun die unit code s hdie hfailed hoff hrails => ?failure, fun s hpow hfailed => ?refclk⟩
  case p2 =>
    intro hstage hctl hen hst hsoft hwork hsteps hmove hlend
    have hidle := atWork_eq_false hwork hsteps hmove hlend
    refine ⟨fun hdue => congrArg Host.Outcome.next (p2Entry_of_early hdue), fun hdue => ?_⟩
    refine congrArg Host.Outcome.next (if_pos ?_)
    simp only [hstage, hctl, hen, hst, hsoft, hidle, hdue, decide_true, Bool.not_false, Bool.and_self]
  case p2Exit => exact fun s => ⟨fun hst => congrArg Host.Outcome.next (if_pos hst), fun hst => congrArg Host.Outcome.next (if_neg hst)⟩
  case request =>
    have hexec : exec (.p3Req v) s = .next (p3Write v s) := congrArg Host.Outcome.next (hostWrite_of_on hb (p3Write v))
    intro w x refuse
    refine ⟨fun hreq => ?_, fun hreq hdeep hctl => ?_⟩
    · rw [hexec, p3Write_of_noRequest hreq]
    · rw [hexec, p3Write_of_request rfl hreq hdeep hctl]
      exact ⟨fun ho => congrArg Host.Outcome.next (p3Req_of_others ho),
        fun ho hwork => congrArg Host.Outcome.next (p3Req_of_work ho hwork),
        fun ho hwork hlend => congrArg Host.Outcome.next (p3Req_of_lending ho hwork hlend),
        fun ho hwork hlend hdefl hplaced => congrArg Host.Outcome.next (p3Req_starts ho hwork hlend hdefl hplaced)⟩
  case entry =>
    exact fun s => ⟨fun hst => congrArg Host.Outcome.next (p3Complete_of_other hst),
      fun hst hstage hleft => ⟨_, rfl, p3Complete_stage hst hstage hleft⟩⟩
  case limit =>
    exact fun dt s => ⟨fun hst hstage hdue => congrArg Host.Outcome.next (p3Limit_of_due hst hstage hdue),
      fun hdue => congrArg Host.Outcome.next (p3Limit_of_early hdue)⟩
  case wake =>
    intro u
    have hexec : exec (.pmWakeNAssert dt held) s = .next (pmWake held (s.pass dt)) := rfl
    refine ⟨fun hstage => ?_, fun hstage hst => ?_, fun hstage hst => ?_⟩
    · rw [hexec, pmWake_of_p3 hoff rfl hstage]
    · rw [hexec, pmWake_of_configured hoff rfl hstage, if_pos hst]
    · rw [hexec, pmWake_of_configured hoff rfl hstage, if_neg hst]
  case rail =>
    exact ⟨fun hlock hoff hrails => congrArg Host.Outcome.next (perstAssert_of_powered rfl hlock hoff hrails),
      fun hlock => congrArg Host.Outcome.next (perstAssert_of_lockout rfl hlock), rfl, rfl, rfl⟩
  case failure =>
    obtain ⟨hcmds, htab⟩ := wholeFailure_empties die (if die = 5 then unit % 8 else 0) (code % 2 ^ 32) false hoff hrails
    refine ⟨_, exec_wholeFlewickFailure_of_running hdie hfailed unit code, ?_⟩
    rw [wholeFailure_boot _ _ _ _ hoff hrails]
    exact ⟨rfl, rfl, rfl, rfl, rfl, hcmds, htab⟩
  case refclk => exact congrArg Host.Outcome.next (if_pos (by simp [hpow, hfailed]))

end Sys2Proof.Machine
end

section
/-! SUPPORT. Queue pairs at work (R46 to R53, R66, R69 to R74): what the table of pairs answers after an update, the doorbells, pair 0, the
faults of a pair, the queue opcodes, the completion of a command (R51, R55). -/

namespace Sys2Proof.Machine

/-! ### The table of pairs -/

theorem pair_lt {s : State} {c q : Nat} {p : Pair} (h : s.pair c q = some p) : q < 256 := by
  by_contra hq
  simp [State.pair, hq] at h

/-- A pair is what the table of pairs holds at its key. -/
theorem pair_eq_find (s : State) (c : Nat) {q : Nat} (hq : q < 256) : s.pair c q = Map.find s.hti.pairs (pairKey c q) := if_pos hq

theorem pair_setPair_same (s : State) (c : Nat) {q : Nat} (hq : q < 256) (p : Pair) : (s.setPair c q p).pair c q = some p := by
  rw [pair_eq_find _ _ hq]
  exact Map.find_put_same _ _ _

/-- Two states with the same queues hold the same pairs. -/
theorem pair_of_hti {s t : State} (h : t.hti = s.hti) (c q : Nat) : t.pair c q = s.pair c q := by
  unfold State.pair
  rw [h]

/-! ### Doorbells (R48, R50) -/

section
variable {port c q v : Nat} {s : State} (hc : c < 64) (hq : q < 256) (hopen : s.windowOpen port c = true)
include hc hq hopen

theorem exec_htiWSqdbWrite_of_open (es : List Desc) : exec (.htiWSqdbWrite port c q v es) s = .next (submitDoorbell port c q v es s) := by
  change execHtiWSqdbWrite port c q v es s = _
  simp only [execHtiWSqdbWrite, hc, hq, decide_true, Bool.and_self, if_true, window_of_open hopen]

theorem exec_htiWCqdbWrite_of_open : exec (.htiWCqdbWrite port c q v) s = .next (completeDoorbell port c q v s) := by
  change execHtiWCqdbWrite port c q v s = _
  simp only [execHtiWCqdbWrite, hc, hq, decide_true, Bool.and_self, if_true, window_of_open hopen]

end

section
variable {port c q v : Nat} {s : State} (hp : s.pair c q = none)
include hp

theorem submitDoorbell_of_closed (es : List Desc) : submitDoorbell port c q v es s = s.badDoorbell kDbClosed port c (8 * q) := by
  simp only [submitDoorbell, hp]

theorem completeDoorbell_of_closed : completeDoorbell port c q v s = s.badDoorbell kDbClosed port c (0x800 + 8 * q) := by
  simp only [completeDoorbell, hp]

end

/-- With no entry that waits to be fetched, fetching does nothing. -/
theorem fetchAll_of_noEntry {s : State} {c q : Nat} {p : Pair} (hp : s.pair c q = some p) (hw : p.waitq = []) (n : Nat) :
    s.fetchAll c q n = s := by
  cases n with
  | zero => rfl
  | succ n => simp only [State.fetchAll, hp, hw]

section
variable {port c q v : Nat} {s : State} {p : Pair} (hp : s.pair c q = some p)
include hp

theorem submitDoorbell_of_range (h : 2 ^ p.sqLog ≤ v % 4096) (es : List Desc) :
    submitDoorbell port c q v es s = s.badDoorbell kDbRange port c (8 * q) := by
  simp only [submitDoorbell, hp, h, if_true]

/-- A TAIL in range takes the readable entries up to it, and fetching goes on. -/
theorem submitDoorbell_of_tail (h : v % 4096 < 2 ^ p.sqLog) (hw : p.waitq = []) (es : List Desc) :
    submitDoorbell port c q v es s =
      (s.setPair c q { p with tail := v % 4096, waitq := es.take ((v % 4096 + 2 ^ p.sqLog - p.fetch) % 2 ^ p.sqLog) }).fetchAll c q
        ((v % 4096 + 2 ^ p.sqLog - p.fetch) % 2 ^ p.sqLog) := by
  simp only [submitDoorbell, hp, Nat.not_le.mpr h, hw, if_false, List.nil_append]

theorem submitDoorbell_of_noEntry (h : v % 4096 < 2 ^ p.sqLog) (hw : p.waitq = []) :
    submitDoorbell port c q v [] s = s.setPair c q { p with tail := v % 4096 } := by
  rw [submitDoorbell_of_tail hp h hw, List.take_nil, fetchAll_of_noEntry (pair_setPair_same s c (pair_lt hp) _) rfl, ← hw]

/-- One entry up to TAIL is fetched where the pair may fetch. -/
theorem submitDoorbell_of_oneEntry (h : v % 4096 < 2 ^ p.sqLog) (hw : p.waitq = []) (hf : s.mayFetch c p = true)
    (hone : (v % 4096 + 2 ^ p.sqLog - p.fetch) % 2 ^ p.sqLog = 1) (d : Desc) :
    submitDoorbell port c q v [d] s =
      (s.setPair c q { p with tail := v % 4096, waitq := [d] }).fetchOne c q { p with tail := v % 4096, waitq := [d] } d := by
  have hmay : (s.setPair c q { p with tail := v % 4096, waitq := [d] }).mayFetch c { p with tail := v % 4096, waitq := [d] } = true := hf
  rw [submitDoorbell_of_tail hp h hw, hone]
  simp only [State.fetchAll, pair_setPair_same s c (pair_lt hp), List.take_one, List.head?_cons, Option.toList, hmay, if_true]

theorem completeDoorbell_of_range (h : 2 ^ p.cqLog ≤ v % 4096 ∨
      (p.widx + 2 ^ p.cqLog - p.head) % 2 ^ p.cqLog < (v % 4096 + 2 ^ p.cqLog - p.head) % 2 ^ p.cqLog) :
    completeDoorbell port c q v s = s.badDoorbell kDbRange port c (0x800 + 8 * q) := by
  simp only [completeDoorbell, hp, Bool.or_eq_true, decide_eq_true_eq, h, if_true]

/-- A HEAD in range of a pair that holds nothing moves HEAD; what waits for it completes. -/
theorem completeDoorbell_of_head (h : v % 4096 < 2 ^ p.cqLog)
    (hroom : (v % 4096 + 2 ^ p.cqLog - p.head) % 2 ^ p.cqLog ≤ (p.widx + 2 ^ p.cqLog - p.head) % 2 ^ p.cqLog)
    (hheld : p.held = []) (hw : p.waitq = []) :
    completeDoorbell port c q v s = (s.setPair c q { p with head := v % 4096 }).settle s.hti.cmds.length := by
  have hin : ¬(2 ^ p.cqLog ≤ v % 4096 ∨
      (p.widx + 2 ^ p.cqLog - p.head) % 2 ^ p.cqLog < (v % 4096 + 2 ^ p.cqLog - p.head) % 2 ^ p.cqLog) := by omega
  simp only [completeDoorbell, hp, Bool.or_eq_true, decide_eq_true_eq, hin, if_false, hheld, hw, List.length_nil]
  rfl

end

/-- Settles O16: a doorbell through an open window by whether its pair is open and its index in range. -/
theorem doorbells : Obligations.Doorbells := by
  unfold Obligations.Doorbells
  intro port c q v s hc hq hopen tail
  have hsub := exec_htiWSqdbWrite_of_open (v := v) hc hq hopen
  have hcpl := exec_htiWCqdbWrite_of_open (v := v) hc hq hopen
  refine ⟨fun hp => ⟨fun es => ?_, ?_⟩, fun p hp => ⟨fun h es => ?_, fun h hw => ?_, fun h hw hf hone d => ?_, fun h => ?_,
    fun h hroom hheld hw => ?_⟩⟩
  · rw [hsub, submitDoorbell_of_closed hp]; rfl
  · rw [hcpl, completeDoorbell_of_closed hp]; rfl
  · rw [hsub, submitDoorbell_of_range hp h]; rfl
  · rw [hsub, submitDoorbell_of_noEntry hp h hw]
  · rw [hsub, submitDoorbell_of_oneEntry hp h hw hf hone]
  · rw [hcpl, completeDoorbell_of_range hp h]; rfl
  · rw [hcpl, completeDoorbell_of_head hp h hroom hheld hw]

/-! ### Pair 0 (R46, R47) -/

section
variable {port c v : Nat} {s : State} (hc : c < 64) (hopen : s.windowOpen port c = true)
include hc hopen

theorem exec_pair0Open_of_open (hen : bitAt v 8 = true) : exec (.pair0Open port c v) s = .next (openPair0 c v s) := by
  change execPair0Open port c v s = _
  simp only [execPair0Open, hc, hen, decide_true, Bool.and_self, if_true, window_of_open hopen]

theorem exec_pair0Close_of_open (hen : bitAt v 8 = false) : exec (.pair0Close port c v) s = .next (closePair0 c v s) := by
  change execPair0Close port c v s = _
  simp only [execPair0Close, hc, hen, decide_true, Bool.not_false, Bool.and_self, if_true, window_of_open hopen]

end

/-- HTI_W_AQCFG as a written word with EN = 1 leaves its fields. -/
def State.aqcfgPut (s : State) (c v : Nat) : State := (s.putAqcfg c v).wr .HTI_W_AQCFG_EN c 0 1

/-- A write of HTI_W_AQCFG reaches its own fields alone. -/
theorem onlyRegs_putAqcfg (s : State) (c v : Nat) :
    OnlyRegs [.HTI_W_AQCFG_SQLOG, .HTI_W_AQCFG_CQLOG, .HTI_W_AQCFG_VEC] s (s.putAqcfg c v) :=
  onlyRegs_putWord s _ c 0 v (List.Subset.refl _)

theorem putAqcfg_hti (s : State) (c v : Nat) : (s.putAqcfg c v).hti = s.hti := by
  obtain ⟨⟨r, h⟩, -⟩ := onlyRegs_putAqcfg s c v
  rw [h]

theorem rd_aqcfgPut_field (s : State) (c v : Nat) {g : Fld}
    (hg : g ∉ [Fld.HTI_W_AQCFG_SQLOG, .HTI_W_AQCFG_CQLOG, .HTI_W_AQCFG_VEC, .HTI_W_AQCFG_EN]) (i j : Nat) :
    (s.aqcfgPut c v).rd g i j = s.rd g i j := by
  simp only [List.mem_cons, List.not_mem_nil, or_false, not_or] at hg
  obtain ⟨hsq, hcq, hvec, hen⟩ := hg
  exact (rd_wr_field _ _ _ _ _ _ (Ne.symm hen)).trans ((onlyRegs_putAqcfg s c v).2 g (by simp [hsq, hcq, hvec]) i j)

/-- The setup fields take every value of their width. -/
theorem rd_aqcfgPut (s : State) (c v : Nat) {f : Fld} (hf : f ∈ [Fld.HTI_W_AQCFG_SQLOG, .HTI_W_AQCFG_CQLOG, .HTI_W_AQCFG_VEC]) :
    (s.aqcfgPut c v).rd f c = fieldOf f v := by
  have hlegal : f.legal (fieldOf f v) = true := by
    simp only [List.mem_cons, List.not_mem_nil, or_false] at hf
    rcases hf with rfl | rfl | rfl <;> rfl
  refine (rd_wr_field _ _ _ _ _ _ ?_).trans (rd_putWord s _ c 0 v (by decide) hf hlegal)
  rintro rfl
  simp at hf

theorem rd_aqcfgPut_en (s : State) (c v : Nat) : (s.aqcfgPut c v).rd .HTI_W_AQCFG_EN c = 1 := rd_wr_same ..

theorem aqcfgPut_hti (s : State) (c v : Nat) : (s.aqcfgPut c v).hti = s.hti := by rw [State.aqcfgPut, wr_hti, putAqcfg_hti]

/-- The conditions of R46 on a written word. -/
theorem aqcfgOk_aqcfgPut (s : State) (c v : Nat) :
    let sl := fieldOf .HTI_W_AQCFG_SQLOG v
    let cl := fieldOf .HTI_W_AQCFG_CQLOG v
    (s.aqcfgPut c v).aqcfgOk c = true ↔ s.on .CTL_READY_HTI = true ∧ s.on .HTI_CTX_EN c = true ∧ 4 ≤ sl ∧ sl ≤ 12 ∧ sl ≤ cl ∧ cl ≤ 12 ∧
      fieldOf .HTI_W_AQCFG_VEC v ≤ 31 := by
  have hready : (s.aqcfgPut c v).on .CTL_READY_HTI = s.on .CTL_READY_HTI := by
    simp only [State.on, rd_aqcfgPut_field s c v (g := .CTL_READY_HTI) (by decide)]
  have hctx : (s.aqcfgPut c v).on .HTI_CTX_EN c = s.on .HTI_CTX_EN c := by
    simp only [State.on, rd_aqcfgPut_field s c v (g := .HTI_CTX_EN) (by decide)]
  simp only [State.aqcfgOk, hready, hctx, rd_aqcfgPut s c v (f := .HTI_W_AQCFG_SQLOG) (by decide),
    rd_aqcfgPut s c v (f := .HTI_W_AQCFG_CQLOG) (by decide), rd_aqcfgPut s c v (f := .HTI_W_AQCFG_VEC) (by decide),
    Bool.and_eq_true, decide_eq_true_eq, and_assoc]

/-- FAULT and QFAULT read zero once they are cleared. -/
theorem rd_clearQfault_fault (s : State) (c : Nat) : (s.clearQfault c).rd .HTI_W_AQCFG_FAULT c = 0 :=
  (rd_wrAll_field _ _ _ _ _ (by decide)).trans (rd_wr_same ..)

theorem rd_clearQfault_pair (s : State) (c : Nat) {n : Nat} (hn : n < 4) : (s.clearQfault c).rd .HTI_W_QFAULT_PAIR c n = 0 :=
  rd_wrAll_mem _ _ _ _ _ _ (List.mem_map.mpr ⟨n, List.mem_range.mpr hn, rfl⟩)

theorem onlyRegs_clearQfault (s : State) (c : Nat) : OnlyRegs [.HTI_W_AQCFG_FAULT, .HTI_W_QFAULT_PAIR] s (s.clearQfault c) :=
  (onlyRegs_wr s c 0 0 (by decide)).trans (onlyRegs_wrAll _ _ 0 (by decide))

theorem clearQfault_hti (s : State) (c : Nat) : (s.clearQfault c).hti = s.hti := by
  obtain ⟨⟨r, h⟩, -⟩ := onlyRegs_clearQfault s c
  rw [h]

/-- Pair 0 as a written word opens it. -/
def State.pair0Of (s : State) (c v : Nat) : Pair :=
  Pair.new (s.rd .HTI_W_ASQ_BASE c * 4096) (s.rd .HTI_W_ACQ_BASE c * 4096) (fieldOf .HTI_W_AQCFG_SQLOG v)
    (fieldOf .HTI_W_AQCFG_CQLOG v) 1 (fieldOf .HTI_W_AQCFG_VEC v) 0 0

/-- A context whose pair 0 a written word has opened. -/
def State.pair0Opened (s : State) (c v : Nat) : State :=
  (((s.aqcfgPut c v).setPair c 0 (s.pair0Of c v)).wr .HTI_W_AQCFG_RDY c 0 1).clearQfault c

theorem rd_pair0Opened_en (s : State) (c v : Nat) : (s.pair0Opened c v).rd .HTI_W_AQCFG_EN c = 1 := by
  rw [State.pair0Opened, (onlyRegs_clearQfault _ c).2 .HTI_W_AQCFG_EN (by decide), rd_wr_field _ _ _ _ _ _ (by decide), rd_setPair,
    rd_aqcfgPut_en]

theorem rd_pair0Opened_rdy (s : State) (c v : Nat) : (s.pair0Opened c v).rd .HTI_W_AQCFG_RDY c = 1 :=
  ((onlyRegs_clearQfault _ c).2 .HTI_W_AQCFG_RDY (by decide) c 0).trans (rd_wr_same ..)

theorem pair_pair0Opened (s : State) (c v : Nat) : (s.pair0Opened c v).pair c 0 = some (s.pair0Of c v) := by
  rw [State.pair0Opened, pair_of_hti (clearQfault_hti _ c), pair_of_hti (wr_hti ..), pair_setPair_same _ _ (by decide)]

section
variable {s : State} {c v : Nat}

theorem openPair0_of_valid (hen : s.on .HTI_W_AQCFG_EN c = false) (hok : (s.aqcfgPut c v).aqcfgOk c = true) :
    openPair0 c v s = s.pair0Opened c v := by
  have hpair : s.pair0Of c v = Pair.new ((s.aqcfgPut c v).rd .HTI_W_ASQ_BASE c * 4096) ((s.aqcfgPut c v).rd .HTI_W_ACQ_BASE c * 4096)
      ((s.aqcfgPut c v).rd .HTI_W_AQCFG_SQLOG c) ((s.aqcfgPut c v).rd .HTI_W_AQCFG_CQLOG c) 1
      ((s.aqcfgPut c v).rd .HTI_W_AQCFG_VEC c) 0 0 := by
    rw [rd_aqcfgPut_field s c v (g := .HTI_W_ASQ_BASE) (by decide), rd_aqcfgPut_field s c v (g := .HTI_W_ACQ_BASE) (by decide),
      rd_aqcfgPut s c v (f := .HTI_W_AQCFG_SQLOG) (by decide), rd_aqcfgPut s c v (f := .HTI_W_AQCFG_CQLOG) (by decide),
      rd_aqcfgPut s c v (f := .HTI_W_AQCFG_VEC) (by decide), State.pair0Of]
  rw [State.pair0Opened, hpair]
  exact (if_neg (ne_true_of_eq_false hen)).trans (if_pos hok)

theorem openPair0_of_invalid (hen : s.on .HTI_W_AQCFG_EN c = false) (hok : ¬(s.aqcfgPut c v).aqcfgOk c = true) :
    openPair0 c v s = (s.aqcfgPut c v).wr .HTI_W_AQCFG_FAULT c 0 1 :=
  (if_neg (ne_true_of_eq_false hen)).trans (if_neg hok)

/-- Under an open pair 0 its ring sizes cannot change. -/
theorem openPair0_of_busy (hen : s.on .HTI_W_AQCFG_EN c = true)
    (hchange : fieldOf .HTI_W_AQCFG_SQLOG v ≠ s.rd .HTI_W_AQCFG_SQLOG c ∨ fieldOf .HTI_W_AQCFG_CQLOG v ≠ s.rd .HTI_W_AQCFG_CQLOG c) :
    openPair0 c v s = s.errlog kQueueBusy c (s.port c) 2 0x1010 :=
  (if_pos hen).trans (if_pos (by simpa using hchange))

/-- HTI_W_AQCFG as a written word with EN = 0 leaves its fields. -/
def State.aqcfgOff (s : State) (c v : Nat) : State := (s.wr .HTI_W_AQCFG_EN c 0 0).putAqcfg c v

theorem aqcfgOff_hti (s : State) (c v : Nat) : (s.aqcfgOff c v).hti = s.hti := by rw [State.aqcfgOff, putAqcfg_hti, wr_hti]

theorem aqcfgOff_out (s : State) (c v : Nat) : (s.aqcfgOff c v).out = s.out := by
  obtain ⟨⟨r, h⟩, -⟩ := onlyRegs_putAqcfg (s.wr .HTI_W_AQCFG_EN c 0 0) c v
  rw [State.aqcfgOff, h, wr_out]

theorem rd_aqcfgOff_en (s : State) (c v : Nat) : (s.aqcfgOff c v).rd .HTI_W_AQCFG_EN c = 0 :=
  ((onlyRegs_putAqcfg _ c v).2 .HTI_W_AQCFG_EN (by decide) c 0).trans (rd_wr_same ..)

/-- Two states with the same queues have the same pairs open. -/
theorem anyPair_of_hti {s t : State} (h : t.hti = s.hti) (c : Nat) : t.anyPair c = s.anyPair c := by
  rw [State.anyPair, State.anyPair, h]

/-- With no pair open a word with EN = 0 takes its fields and clears FAULT. -/
theorem closePair0_of_noPair (hany : s.anyPair c = false) : closePair0 c v s = (s.aqcfgOff c v).wr .HTI_W_AQCFG_FAULT c 0 0 := by
  have h := (anyPair_of_hti (aqcfgOff_hti s c v) c).trans hany
  unfold State.aqcfgOff at *
  simp only [closePair0, h, Bool.not_false, if_true]

/-- Every pair of a context leaves the table. -/
def State.dropPairs (s : State) (c : Nat) : State :=
  { s with hti := { s.hti with pairs := s.hti.pairs.filter fun (p : Nat × Pair) => p.1 / 256 != c } }

theorem rd_dropPairs (s : State) (c : Nat) (g : Fld) (i j : Nat) : (s.dropPairs c).rd g i j = s.rd g i j := rfl

theorem dropPairs_out (s : State) (c : Nat) : (s.dropPairs c).out = s.out := rfl

theorem anyPair_dropPairs (s : State) (c : Nat) : (s.dropPairs c).anyPair c = false := by
  simp [State.dropPairs, State.anyPair]

/-- With pairs open and no command accepted, every pair of the context closes and RDY shows it. -/
theorem closePair0_of_noCmd (hany : s.anyPair c = true) (hcmds : s.hti.cmds = []) :
    closePair0 c v s = ((s.aqcfgOff c v).dropPairs c).wr .HTI_W_AQCFG_RDY c 0 1 := by
  have h := (anyPair_of_hti (aqcfgOff_hti s c v) c).trans hany
  have hnone : (s.aqcfgOff c v).hti.cmds = [] := by rw [aqcfgOff_hti, hcmds]
  unfold State.aqcfgOff at *
  simp only [closePair0, h, hnone, Bool.not_true, Bool.false_eq_true, if_false, List.filter_nil, List.map_nil, State.endCmds, wr_hti,
    List.foldl_nil, List.length_nil, State.settle, State.dropPairs]

end

/-- What CONTEXT_PAIRS_CLOSED leaves where no pair and no command of the context is left. -/
def State.pairsClosed (s : State) (c : Nat) : State := (s.wr .HTI_W_AQCFG_RDY c 0 0).clearQfault c

theorem rd_pairsClosed_rdy (s : State) (c : Nat) : (s.pairsClosed c).rd .HTI_W_AQCFG_RDY c = 0 :=
  ((onlyRegs_clearQfault _ c).2 .HTI_W_AQCFG_RDY (by decide) c 0).trans (rd_wr_same ..)

theorem rd_pairsClosed_fault (s : State) (c : Nat) : (s.pairsClosed c).rd .HTI_W_AQCFG_FAULT c = 0 := rd_clearQfault_fault _ c

theorem rd_pairsClosed_pair (s : State) (c : Nat) {n : Nat} (hn : n < 4) : (s.pairsClosed c).rd .HTI_W_QFAULT_PAIR c n = 0 :=
  rd_clearQfault_pair _ c hn

theorem onlyRegs_pairsClosed (s : State) (c : Nat) :
    OnlyRegs [.HTI_W_AQCFG_RDY, .HTI_W_AQCFG_FAULT, .HTI_W_QFAULT_PAIR] s (s.pairsClosed c) :=
  (onlyRegs_wr s c 0 0 (by decide)).trans ((onlyRegs_clearQfault _ c).mono (by decide))

/-- Once no command of the context is left, its pairs have come to rest; FAULT stands where EN holds a failed setting. -/
theorem exec_contextPairsClosed_of_rest {s : State} {c : Nat} (hrdy : s.on .HTI_W_AQCFG_RDY c = true) (hany : s.anyPair c = false)
    (hcmds : (s.hti.cmds.all fun d => d.ctx != c) = true) : exec (.contextPairsClosed c) s =
      .next (if s.on .HTI_W_AQCFG_EN c then (s.pairsClosed c).wr .HTI_W_AQCFG_FAULT c 0 1 else s.pairsClosed c) := by
  change execContextPairsClosed c s = _
  simp only [execContextPairsClosed, hrdy, hany, hcmds, Bool.not_false, Bool.and_self, if_true, State.pairsClosed]

/-- Settles O17: pair 0 by what its register's word asks for, and the rest of a context once its commands have ended. -/
theorem pairZero : Obligations.PairZero := by
  unfold Obligations.PairZero
  refine ⟨fun port c v s hc hopen hset => ?opens, fun port c v s hc hopen hset => ?closes, fun c s _ hrdy hany hcmds => ?rests⟩
  case opens =>
    rw [exec_pair0Open_of_open hc hopen hset]
    have hok := aqcfgOk_aqcfgPut s c v
    refine ⟨fun hen hgood => ⟨_, congrArg Host.Outcome.next (openPair0_of_valid hen (hok.mpr hgood)), rd_pair0Opened_en s c v,
        rd_pair0Opened_rdy s c v, rd_clearQfault_fault _ c, pair_pair0Opened s c v⟩,
      fun hen hbad => ⟨_, congrArg Host.Outcome.next (openPair0_of_invalid hen (mt hok.mp hbad)), ?_, ?_, rd_wr_same .., ?_⟩,
      fun hen hchange => congrArg Host.Outcome.next (openPair0_of_busy hen hchange)⟩
    · rw [rd_wr_field _ _ _ _ _ _ (by decide), rd_aqcfgPut_en]
    · rw [rd_wr_field _ _ _ _ _ _ (by decide), rd_aqcfgPut_field _ _ _ (by decide)]
    · rw [wr_hti, aqcfgPut_hti]
  case closes =>
    rw [exec_pair0Close_of_open hc hopen hset]
    refine ⟨fun hany => ⟨_, congrArg Host.Outcome.next (closePair0_of_noPair hany), ?_, rd_wr_same .., ?_⟩,
      fun hany hcmds => ⟨_, congrArg Host.Outcome.next (closePair0_of_noCmd hany hcmds), ?_, rd_wr_same .., ?_, ?_⟩⟩
    · rw [rd_wr_field _ _ _ _ _ _ (by decide), rd_aqcfgOff_en]
    · rw [wr_hti, aqcfgOff_hti]
    · rw [rd_wr_field _ _ _ _ _ _ (by decide), rd_dropPairs, rd_aqcfgOff_en]
    · rw [anyPair_of_hti (wr_hti ..), anyPair_dropPairs]
    · rw [wr_out, dropPairs_out, aqcfgOff_out]
  case rests =>
    refine ⟨_, exec_contextPairsClosed_of_rest hrdy hany hcmds, ?_⟩
    cases s.on .HTI_W_AQCFG_EN c with
    | true =>
      refine ⟨?_, rd_wr_same .., fun n hn => ?_, (onlyRegs_pairsClosed s c).trans (onlyRegs_wr _ c 0 1 (by decide))⟩
      · exact (rd_wr_field _ _ _ _ _ _ (by decide)).trans (rd_pairsClosed_rdy s c)
      · exact (rd_wr_field _ _ _ _ _ _ (by decide)).trans (rd_pairsClosed_pair s c hn)
    | false =>
      exact ⟨rd_pairsClosed_rdy s c, rd_pairsClosed_fault s c, fun n hn => rd_pairsClosed_pair s c hn, onlyRegs_pairsClosed s c⟩

/-! ### Faulted pairs and coalescing time (R53, R66) -/

/-- A set bit reads as set, also once the number is cut to a width that holds it. -/
theorem bitAt_setBitN_true {x n w : Nat} (hn : n < w) : bitAt (setBitN x n true % 2 ^ w) n = true := by
  have hcut (y : Nat) : bitAt (y % 2 ^ w) n = bitAt y n := by
    simp only [bitAt, ← Nat.testBit_eq_decide_div_mod_eq, Nat.testBit_mod_two_pow, hn, decide_true, Bool.true_and]
  rw [hcut, setBitN]
  split
  · assumption
  · next hclear =>
    simp only [bitAt, decide_eq_true_eq] at hclear ⊢
    simp only [if_true, Nat.add_div_right _ (Nat.two_pow_pos n)]
    omega

section
variable (s : State) (c q kind slot : Nat)

/-- A faulted pair keeps its queues: the fault itself drops no pair and no command. -/
theorem faultPair_hti : (s.faultPair c q kind slot).hti = s.hti :=
  (keeps_faultPair (List.Subset.refl _) (.refl _ s)).hti (by decide)

/-- The state of a fault once the pair is marked and the error entry is written. -/
def State.faultLogged (s : State) (c q kind : Nat) : State := (s.setQfault c q).errlog kind c ((s.setQfault c q).port c) 7 q

/-- After the error entry, a fault writes its record and raises its signal. -/
theorem keeps_faultLogged :
    Keeps [.mbx, .MBX_SUM, .MBX_CNT, .HTI_W_MBSTS, .HTI_W_FLT, .HTI_CNT] (s.faultLogged c q kind) (s.faultPair c q kind slot) := by
  unfold State.faultPair
  extract_lets s1 s2 s3
  have hfault : Keeps [.mbx, .MBX_SUM, .MBX_CNT, .HTI_W_MBSTS, .HTI_W_FLT, .HTI_CNT] s2 s3 := keeps_fault (List.Subset.refl _) (.refl _ s2)
  exact keeps_ite (fun _ => keeps_signal (by decide) hfault) fun _ => hfault

/-- What the pair's registers and the error log read after a fault, they read once the error entry is written. -/
theorem rd_faultPair {f : Fld} (hf : f.piece ∈ [Piece.HTI_W_QFAULT, .HTI_W_AQCFG, .HTI_ERRLOG]) (i j : Nat) :
    (s.faultPair c q kind slot).rd f i j = (s.faultLogged c q kind).rd f i j := by
  refine (keeps_faultLogged s c q kind slot).rd f (fun hmem => ?_) i j
  simp only [List.mem_cons, List.not_mem_nil, or_false] at hf
  rcases hf with h | h | h <;> simp [h] at hmem

/-- The newest error entry has the kind that was recorded. -/
theorem rd_errlog_kind {kind : Nat} (hkind : kind < 2 ^ Fld.HTI_ERRLOG_A_KIND.info.w) (ctx port bar off : Nat) :
    (s.errlog kind ctx port bar off).rd .HTI_ERRLOG_A_KIND (s.rd .HTI_ERRLOG_CTL_NEXT) = kind := by
  unfold State.errlog
  extract_lets n cnt s1 s2 s3 s4 s5 s6 s7
  have hkept : s7.rd .HTI_ERRLOG_A_KIND n = s1.rd .HTI_ERRLOG_A_KIND n := by
    unfold s7 s6 s5 s4 s3 s2
    simp only [rd_wr_field, ne_eq, reduceCtorEq, not_false_eq_true]
  have hfirst : s1.rd .HTI_ERRLOG_A_KIND n = kind := (rd_wr_same ..).trans (Nat.mod_eq_of_lt hkind)
  split <;> rw [rd_wr_field _ _ _ _ _ _ (by decide), hkept, hfirst]

theorem onlyRegs_setQfault : OnlyRegs [.HTI_W_QFAULT_PAIR, .HTI_W_AQCFG_FAULT, .HTI_W_AQCFG_RDY] s (s.setQfault c q) := by
  have hbit := onlyRegs_wr (l := [.HTI_W_QFAULT_PAIR, .HTI_W_AQCFG_FAULT, .HTI_W_AQCFG_RDY]) s c (q / 64)
    (setBitN (s.rd .HTI_W_QFAULT_PAIR c (q / 64)) (q % 64) true) (f := .HTI_W_QFAULT_PAIR) (by decide)
  unfold State.setQfault
  extract_lets w s1
  split
  · exact hbit.trans ((onlyRegs_wr s1 c 0 1 (by decide)).trans (onlyRegs_wr _ c 0 0 (by decide)))
  · exact hbit

theorem bitAt_setQfault : bitAt ((s.setQfault c q).rd .HTI_W_QFAULT_PAIR c (q / 64)) (q % 64) = true := by
  unfold State.setQfault
  extract_lets w s1
  have hset : bitAt (s1.rd .HTI_W_QFAULT_PAIR c (q / 64)) (q % 64) = true := by
    rw [show s1.rd .HTI_W_QFAULT_PAIR c (q / 64) = _ from rd_wr_same ..]
    exact bitAt_setBitN_true (Nat.mod_lt q (by decide))
  split
  · rw [rd_wr_field _ _ _ _ _ _ (by decide), rd_wr_field _ _ _ _ _ _ (by decide), hset]
  · exact hset

theorem rd_setQfault_fault : (s.setQfault c 0).rd .HTI_W_AQCFG_FAULT c = 1 :=
  (rd_wr_field _ _ _ _ _ _ (by decide)).trans (rd_wr_same ..)

/-- What a fault shows: the pair's QFAULT bit, FAULT for pair 0, and an error entry of its kind. -/
theorem faultPair_shows {kind : Nat} (hkind : kind < 2 ^ Fld.HTI_ERRLOG_A_KIND.info.w) :
    bitAt ((s.faultPair c q kind slot).rd .HTI_W_QFAULT_PAIR c (q / 64)) (q % 64) = true ∧
    (q = 0 → (s.faultPair c q kind slot).rd .HTI_W_AQCFG_FAULT c = 1) ∧
    (s.faultPair c q kind slot).rd .HTI_ERRLOG_A_KIND (s.rd .HTI_ERRLOG_CTL_NEXT) = kind := by
  have hlog (f : Fld) (hf : f.piece ∉ [Piece.HTI_ERRLOG]) (i j : Nat) :
      (s.faultLogged c q kind).rd f i j = (s.setQfault c q).rd f i j :=
    (keeps_errlog (List.Subset.refl _) (.refl _ _)).rd f hf i j
  refine ⟨?_, ?_, ?_⟩
  · rw [rd_faultPair _ _ _ _ _ (by decide), hlog _ (by decide)]
    exact bitAt_setQfault s c q
  · rintro rfl
    rw [rd_faultPair _ _ _ _ _ (by decide), hlog _ (by decide)]
    exact rd_setQfault_fault s c
  · rw [rd_faultPair _ _ _ _ _ (by decide), ← (onlyRegs_setQfault s c q).2 .HTI_ERRLOG_CTL_NEXT (by decide)]
    exact rd_errlog_kind _ hkind _ _ _ _

end

/-- A pair that is faulted stays in the table as it was marked, with its fault shown, and no command ends. -/
theorem setPair_faultPair {s : State} {c q kind : Nat} (hq : q < 256) (hkind : kind < 2 ^ Fld.HTI_ERRLOG_A_KIND.info.w) (p : Pair)
    (slot : Nat) :
    let t := (s.setPair c q p).faultPair c q kind slot
    t.pair c q = some p ∧ bitAt (t.rd .HTI_W_QFAULT_PAIR c (q / 64)) (q % 64) = true ∧ (q = 0 → t.rd .HTI_W_AQCFG_FAULT c = 1) ∧
      t.rd .HTI_ERRLOG_A_KIND (s.rd .HTI_ERRLOG_CTL_NEXT) = kind ∧ t.hti.cmds = s.hti.cmds := by
  obtain ⟨hbit, hfault, hlog⟩ := faultPair_shows (s.setPair c q p) c q slot hkind
  have hhti := faultPair_hti (s.setPair c q p) c q kind slot
  exact ⟨(pair_of_hti hhti c q).trans (pair_setPair_same s c hq p), hbit, hfault, hlog, by rw [hhti, setPair_hti]⟩

/-- Settles O18: both faults mark the pair and show it alike; coalescing time that has run out raises the interrupt. -/
theorem pairFaults : Obligations.PairFaults := by
  unfold Obligations.PairFaults
  refine ⟨fun c q s p _ hp hmay hw hne => ⟨(s.setPair c q { p with faulted := true }).faultPair c q kFetchFail p.fetch, ?_, ?_⟩,
    fun c q s p _ hp hpost =>
      ⟨(s.setPair c q { p with faulted := true, postFail := true }).faultPair c q kPostFail p.widx, ?_, ?_⟩,
    fun dt c q s p hp hq hunsig htime hdue => ?_⟩
  · change execSubmissionFetchFail c q s = _
    simp only [execSubmissionFetchFail, hp, hmay, hw, bne_iff_ne.mpr hne, List.isEmpty_nil, Bool.and_self, if_true]
  · exact setPair_faultPair (pair_lt hp) (by decide) _ _
  · change execCompletionPostFail c q s = _
    simp only [execCompletionPostFail, hp, hpost, Bool.not_false, if_true]
  · exact setPair_faultPair (pair_lt hp) (by decide) _ _
  · change execCoalescingTimeExpiry dt c q s = _
    simp only [execCoalescingTimeExpiry, hp, bne_iff_ne.mpr hq, bne_iff_ne.mpr hunsig, bne_iff_ne.mpr htime, hdue, decide_true,
      Bool.and_self, if_true]

/-! ### The queue opcodes (R69 to R74) -/

theorem setPhase_length (s : State) (k : Nat) (ph : CmdPhase) : (s.setPhase k ph).hti.cmds.length = s.hti.cmds.length := by
  simp only [State.setPhase, setCmds_hti, List.length_map]

section
variable {s : State} {k : Nat} {c : Cmd}

theorem exec_queueOpen_of_mayRun (h : s.mayRun k 0x01 c) (hopen : s.mayOpen c = true) :
    exec (.queueOpen k) s = .next (queueOpenBody c (s.setPhase k .running)) :=
  congrArg Host.Outcome.next (begin_of_mayRun h _ rfl rfl hopen)

/-- A QUEUE_CLOSE that TDISP lets run does not reopen its pair. -/
theorem exec_queueClose_of_mayRun (h : s.mayRun k 0x02 c) (hready : s.closeReady c = true) (hlive : s.mayClose c = true) :
    exec (.queueClose k) s = .next (queueClose c (s.setPhase k .running)) := by
  have hbegin := begin_of_mayRun h queueClose (form := anyForm) (ready := s.closeReady) rfl hready hlive
  obtain ⟨hcmd, -, -, -, -, htdi⟩ := h
  change execQueueClose k s = _
  simp only [execQueueClose, hbegin, hcmd, htdi, Option.isSome_none, Bool.and_false, Bool.false_eq_true, if_false]

theorem exec_ctxFence_of_mayRun (h : s.mayRun k 0x04 c) :
    exec (.ctxFence k) s = .next ((s.setPhase k .running).settle (s.setPhase k .running).hti.cmds.length) :=
  congrArg Host.Outcome.next (begin_of_mayRun h _ rfl rfl rfl)

theorem exec_noop_of_mayRun (h : s.mayRun k 0x05 c) : exec (.noop k) s =
    .next ((s.setPhase k .running).finish c.id .ok 0 (Desc.num c.desc 16 8) (Desc.num c.desc 24 4) (Desc.num c.desc 28 4)) :=
  congrArg Host.Outcome.next (begin_of_mayRun h _ rfl rfl rfl)

theorem exec_capsGet_of_mayRun (h : s.mayRun k 0x03 c) (wrote : Bool) :
    exec (.capsGet k wrote) s = .next (capsGetBody wrote c (s.setPhase k .running)) :=
  congrArg Host.Outcome.next (begin_of_mayRun h _ rfl rfl rfl)

theorem exec_statsGet_of_mayRun (h : s.mayRun k 0x06 c) (wrote : Bool) :
    exec (.statsGet k wrote) s = .next (statsGetBody wrote c (s.setPhase k .running)) :=
  congrArg Host.Outcome.next (begin_of_mayRun h _ rfl rfl rfl)

end

/-- Without ABORT a close marks its pair, whose waiting entries are dropped, and ends once nothing of it is left. -/
theorem queueClose_of_pair {s : State} {c : Cmd} {p : Pair} (hp : s.pair c.ctx (Desc.byte c.desc 8) = some p)
    (habort : Desc.flag c.desc 8 = false) : queueClose c s =
      (s.setPair c.ctx (Desc.byte c.desc 8) { p with closer := some c.id, waitq := [] }).settle s.hti.cmds.length := by
  simp only [queueClose, hp, habort, Bool.false_eq_true, if_false]
  rfl

/-- Settles O19: each opcode that may run does what its page says. -/
theorem queueOpcodes : Obligations.QueueOpcodes := by
  unfold Obligations.QueueOpcodes
  refine ⟨fun k c s h hopen => ?opens, fun k c s p h hready hq hp habort => ?closes, fun k c s h => ?fence, fun k c s h => ?noop,
    fun k c s h => ?caps, fun k c s h => ?stats⟩ <;> obtain rfl := cmd_id h.1
  case opens =>
    rw [exec_queueOpen_of_mayRun h hopen]
    exact ⟨fun hver => congrArg Host.Outcome.next (if_neg hver), fun hver => congrArg Host.Outcome.next (if_pos hver)⟩
  case closes =>
    have hlive : s.mayClose c = true := by simp only [State.mayClose, bne_iff_ne.mpr hq, hp, Option.isSome_some, Bool.and_self]
    rw [exec_queueClose_of_mayRun h hready hlive, queueClose_of_pair (s := s.setPhase c.id .running) hp habort, setPhase_length]
  case fence => rw [exec_ctxFence_of_mayRun h, setPhase_length]
  case noop => exact exec_noop_of_mayRun h
  case caps => exact ⟨exec_capsGet_of_mayRun h true, exec_capsGet_of_mayRun h false⟩
  case stats =>
    refine ⟨fun hclear => ?_, exec_statsGet_of_mayRun h false⟩
    rw [exec_statsGet_of_mayRun h true]
    simp only [statsGetBody, hclear, if_true, Bool.false_eq_true, if_false]
    rfl

/-! ### The completion of a command (R48, R51, R55) -/

/-- A command whose phase is set is found with that phase. -/
theorem cmd_setPhase {s : State} {k : Nat} {c : Cmd} (h : s.cmd k = some c) (ph : CmdPhase) :
    (s.setPhase k ph).cmd k = some { c with phase := ph } := by
  have hid (d : Cmd) : decide ((if d.id = k then { d with phase := ph } else d).id = k) = decide (d.id = k) := by
    split <;> rfl
  have hk := cmd_id h
  simp only [State.cmd, State.setPhase, setCmds_hti, List.find?_map, Function.comp_def, hid] at h ⊢
  rw [h, Option.map_some, if_pos hk]

/-- A completion that is posted puts its 32 bytes at the pair's write index, and what was on the bus before stays. -/
theorem out_postOne (s : State) (c q : Nat) (p : Pair) (e : Cpl) :
    s.out ++ [.write c (p.cqBase + 32 * p.widx) 32 (cplBytes e s.now p.phase p.fetch)] <+: (s.postOne c q p e).out := by
  unfold State.postOne
  extract_lets s1 w s2 s3 s4 p1 p2 s5 p3
  have hcounted : s5.out = s1.out := by
    have h3 : s3.out = s1.out := by unfold s3; split <;> rfl
    have h4 : s4.out = s3.out := by unfold s4; split <;> rfl
    exact h4.trans h3
  have hout : s5.out = s.out ++ [.write c (p.cqBase + 32 * p.widx) 32 (cplBytes e s.now p.phase p.fetch)] := hcounted
  rw [← hout]
  split
  · exact List.prefix_rfl
  split
  · exact (keeps_raiseVec (a := s5.setPair c q { p3 with unsig := 0 }) (List.Subset.refl _) (.refl _ _)).out
  · exact List.prefix_rfl

/-- The policer's account of a command that ends puts nothing on the bus. -/
theorem colourDone_out (s : State) (c : Cmd) (st : Status) : (s.colourDone c st).out = s.out := by
  unfold State.colourDone
  split
  · split <;> rfl
  · dsimp only
    split <;> rfl

/-- The completion entry of a command. -/
def Cmd.cpl (c : Cmd) (st : Status) (cause r0 r1 r2 : Nat) : Cpl := ⟨c.id, Desc.tag c.desc, st, cause, r0, r1, r2, Desc.quiet c.desc⟩

/-- A ring that can take the one completion it holds takes it. -/
theorem out_drainCq_one {s : State} {c q : Nat} {p : Pair} {e : Cpl} (hp : s.pair c q = some p) (hheld : p.held = [e])
    (hpost : p.postFail = false) (hroom : p.room = true) (herr : s.inError c = false) :
    s.out ++ [.write c (p.cqBase + 32 * p.widx) 32 (cplBytes e s.now p.phase p.fetch)] <+: (s.drainCq c q 1).out := by
  have htakes : ¬(p.postFail || s.inError c || !p.room) = true := by rw [hpost, hroom, herr]; decide
  simp only [State.drainCq, hp, hheld]
  rw [if_neg htakes]
  exact out_postOne s c q { p with held := [] } e

/-- A command other than STATS_GET that ends on a pair which can post, with nothing held before it, writes its completion. -/
theorem out_finish1 {s : State} {k : Nat} {c : Cmd} {p : Pair} (hc : s.cmd k = some c) (hop : c.op ≠ 0x06)
    (hp : s.pair c.ctx c.pair = some p) (hheld : p.held = []) (hpost : p.postFail = false) (hroom : p.room = true)
    (herr : s.inError c.ctx = false) {st : Status} (hst : st ≠ .keyFail) (cause r0 r1 r2 : Nat) :
    s.out ++ [.write c.ctx (p.cqBase + 32 * p.widx) 32 (cplBytes (c.cpl st cause r0 r1 r2) s.now p.phase p.fetch)] <+:
      (s.finish1 k st cause r0 r1 r2).out := by
  obtain rfl := cmd_id hc
  have hdone : Keeps [.hti, .ring, .SHP_CTX_CNT] s ((s.setPhase c.id .done).colourDone c st) :=
    keeps_colourDone (by decide) (keeps_setPhase (by decide) (.refl _ s))
  have hout : ((s.setPhase c.id .done).colourDone c st).out = s.out := colourDone_out _ c st
  simp only [State.finish1, hc, hop, hp, hst, if_false, hheld, List.nil_append, List.length_nil]
  generalize (s.setPhase c.id .done).colourDone c st = u at hdone hout ⊢
  have hnow : u.now = s.now := hdone.rd .HTI_TIME_COUNT (by decide) 0 0
  have herr' : u.inError c.ctx = false := by
    rw [← herr, State.inError, State.inError, hdone.rd .SEC_CTX_TDI (by decide)]
  rw [← hout, ← hnow]
  exact out_drainCq_one (s := u.setPair c.ctx c.pair { p with held := [c.cpl st cause r0 r1 r2] })
    (p := { p with held := [c.cpl st cause r0 r1 r2] }) (pair_setPair_same u _ (pair_lt hp) _) rfl hpost hroom herr'

/-- Settles O20: the NOOP's completion is posted, and whatever completes after it only adds to the bus. -/
theorem completionEntries : Obligations.CompletionEntries := by
  unfold Obligations.CompletionEntries
  intro k c s p h hp hheld hpost hroom herr
  obtain ⟨hc, hop, -⟩ := id h
  obtain rfl := cmd_id hc
  refine ⟨_, exec_noop_of_mayRun h, ?_⟩
  have hposted := out_finish1 (s := s.setPhase c.id .running) (cmd_setPhase hc .running) (by simp [hop]) hp hheld hpost hroom herr
    (st := .ok) (by decide) 0 (Desc.num c.desc 16 8) (Desc.num c.desc 24 4) (Desc.num c.desc 28 4)
  exact hposted.trans (keeps_settle (List.Subset.refl _) (.refl _ _)).out

end Sys2Proof.Machine
end

section
/-! SUPPORT. Pins and links at work (R41, R164, R321, R322, R328, R364, R502, R521 to R526, R528, R530): drives, host and pool links, the SPI
handshake, the button and its LED, I3C and JTAG. -/

namespace Sys2Proof.Machine

/-! ### Drives (R521) -/

section
variable {s : State} {j : Nat}

/-- A configured part has the control island that sees its pins. -/
theorem alive_of_configured (hstage : s.boot.stage = .configured) : s.alive = true := by
  simp [State.alive, hstage]

/-- A drive's presence pin as it is shown and counted. -/
def State.showDrive (s : State) (j : Nat) (present : Bool) : State :=
  (s.wrBit .CTL_PIN_STS_FLASH_PRSNT 0 j present).bump .CTL_PIN_CNT_COUNT 3 0 1

theorem flashPrsnt_of_same {present : Bool} (h : s.bit .CTL_PIN_STS_FLASH_PRSNT j = present) : flashPrsnt j present s = s := by
  simp only [flashPrsnt, h, decide_true, Bool.or_true, if_true]

section
variable (hstage : s.boot.stage = .configured)
include hstage

/-- A drive that is plugged in asks for power. -/
theorem flashPrsnt_plugged (h : s.bit .CTL_PIN_STS_FLASH_PRSNT j = false) :
    flashPrsnt j true s = (s.showDrive j true).askWake .flash j 24 := by
  have hshown : (s.showDrive j true).boot.stage = .configured := hstage
  unfold State.showDrive at *
  simp only [flashPrsnt, alive_of_configured hstage, hstage, h, hshown, Bool.not_true, reduceCtorEq, decide_false, Bool.or_self,
    Bool.false_eq_true, if_false, if_true]

/-- A drive that is pulled loses its reset and clock, and its objects fail. -/
theorem flashPrsnt_pulled (h : s.bit .CTL_PIN_STS_FLASH_PRSNT j = true) : flashPrsnt j false s =
    ((driveObjects j).foldl (fun s o => s.failObject o 2 false) ((s.showDrive j false).driveDown j)).winch s := by
  unfold State.showDrive
  simp only [flashPrsnt, alive_of_configured hstage, hstage, h, Bool.not_true, reduceCtorEq, decide_false, Bool.or_self,
    Bool.false_eq_true, Bool.true_eq_false, if_false]

/-- A present drive without a link, for which no wake waits, is asked again. -/
theorem flashRetry_of_noLink (h : s.bit .CTL_PIN_STS_FLASH_PRSNT j = true)
    (hlink : ((driveObjects j).any fun o => s.on .TIER_OBJ_A_UP o) = false)
    (hwake : (s.pwr.wakes.any fun w => decide (w.load = .flash) && decide (w.num = j)) = false) :
    flashRetry j s = (s.driveDown j).askWake .flash j 24 := by
  simp only [flashRetry, hstage, h, hlink, hwake, decide_true, Bool.not_false, Bool.and_self, if_true]

end

theorem flashRetry_of_link (hlink : ((driveObjects j).any fun o => s.on .TIER_OBJ_A_UP o) = true) : flashRetry j s = s := by
  simp only [flashRetry, hlink, Bool.not_true, Bool.and_false, Bool.false_and, Bool.false_eq_true, if_false]

/-- The reset of a present drive is released once it has its clock. -/
theorem flashRelease_of_clock (hctl : s.on .CTL_READY_CONTROL = true) (h : s.bit .CTL_PIN_STS_FLASH_PRSNT j = true)
    (hclk : bitAt s.pins.refclk j = true) : flashRelease j s = s.wrBit .CTL_PIN_STS_FLASH_PERST 0 j false := by
  simp only [flashRelease, hctl, h, hclk, Bool.and_self, if_true]

theorem flashRelease_of_noClock (hclk : bitAt s.pins.refclk j = false) : flashRelease j s = s := by
  simp only [flashRelease, hclk, Bool.and_false, Bool.false_eq_true, if_false]

section
variable {dt : Nat} (hj : j < 8)
include hj

theorem exec_flashPrsntChange_of_port (present : Bool) : exec (.flashPrsntChange dt j present) s = .next (flashPrsnt j present (s.pass dt)) :=
  congrArg Host.Outcome.next (if_pos hj)

theorem exec_flashPerstRelease_of_port : exec (.flashPerstRelease dt j) s = .next (flashRelease j (s.pass dt)) :=
  congrArg Host.Outcome.next (if_pos hj)

theorem exec_flashBringupRetry_of_port : exec (.flashBringupRetry dt j) s = .next (flashRetry j (s.pass dt)) :=
  congrArg Host.Outcome.next (if_pos hj)

end

end

/-! ### Host links (R41, R502) -/

section
variable {s : State} {p rate width : Nat} {cxl : Bool} (hstage : s.boot.stage = .configured)
  (hwake : (s.pwr.wakes.any fun w => decide (w.load = .host) && decide (w.num = p) && decide (w.deci = 256)) = false)
include hstage hwake

/-- A link that goes down shows neither mode, rate nor width. -/
theorem hostLink_down : hostLink p 0 width cxl s =
    (((s.wr .HTI_PORT_STS_UP p 0 0).wr .HTI_PORT_STS_MODE p 0 0).wr .HTI_PORT_STS_RATE p 0 0).wr .HTI_PORT_STS_WIDTH p 0 0 := by
  simp only [hostLink, hstage, hwake, bne_self_eq_false, Bool.false_and, Bool.or_self, Bool.false_eq_true, if_false, if_true]

/-- A rate above what SPEED_MAX and the mode allow does not train. -/
theorem hostLink_of_fast (h0 : rate ≠ 0) (hcap : s.rateCap p (s.linkMode p cxl) < rate) : hostLink p rate width cxl s = s := by
  simp only [hostLink, hstage, hwake, h0, hcap, bne_self_eq_false, Bool.false_and, Bool.or_self, Bool.false_eq_true, if_false, decide_true,
    Bool.true_or, if_true]

/-- A link that trains from down shows what it trained at, and its standing wake is over. -/
theorem hostLink_up (h0 : rate ≠ 0) (hcap : rate ≤ s.rateCap p (s.linkMode p cxl)) (hwidth : [1, 4, 8, 16].contains width = true)
    (hup : s.on .HTI_PORT_STS_UP p = false) : hostLink p rate width cxl s =
      ((((s.wr .HTI_PORT_STS_UP p 0 1).wr .HTI_PORT_STS_MODE p 0 (s.linkMode p cxl)).wr .HTI_PORT_STS_RATE p 0 rate).wr
        .HTI_PORT_STS_WIDTH p 0 width).unadmit .host p := by
  simp only [hostLink, hstage, hwake, h0, Nat.not_lt.mpr hcap, hwidth, hup, bne_self_eq_false, Bool.false_and, Bool.or_self, Bool.not_true,
    Bool.false_eq_true, decide_false, if_false]

end

/-! ### Pool links (R164, R321, R322, R328, R523) -/

/-- A pool port whose link is shown as down. -/
def State.poolShowDown (s : State) (p : Nat) : State :=
  (((s.wr .POOL_PORT_STS_UP p 0 0).wr .POOL_PORT_STS_RATE p 0 0).wr .POOL_PORT_STS_WIDTH p 0 0).wrBit .CTL_READY_POOL 0 p false

section
variable {s : State} {p : Nat}

theorem poolDown_of_down (hup : s.on .POOL_PORT_STS_UP p = false) : s.poolDown p = s := by
  simp only [State.poolDown, hup, Bool.not_false, if_true]

variable (hup : s.on .POOL_PORT_STS_UP p = true)
include hup

/-- The borrowers of an endpoint have released every extent (R321). -/
theorem poolDown_of_endpoint (hmode : (s.poolShowDown p).rd .POOL_PORT_STS_MODE p = 2) : s.poolDown p =
    (((s.poolShowDown p).pool.extents.filter fun e => decide (e.port = p)).foldl State.freeExtent (s.poolShowDown p)).winch s := by
  unfold State.poolShowDown at *
  simp only [State.poolDown, hup, hmode, Bool.not_true, Bool.false_eq_true, if_false, if_true]

/-- The objects of a root port fail (R164). -/
theorem poolDown_of_root (hmode : (s.poolShowDown p).rd .POOL_PORT_STS_MODE p ≠ 2) : s.poolDown p =
    (((List.range 32).filter fun o => (s.poolShowDown p).on .TIER_OBJ_A_PRESENT o &&
      decide ((s.poolShowDown p).rd .TIER_OBJ_A_PORT o = p)).foldl (fun s o => s.failObject o 2 false) (s.poolShowDown p)).winch s := by
  unfold State.poolShowDown at *
  simp only [State.poolDown, hup, hmode, Bool.not_true, Bool.false_eq_true, if_false]

end

section
variable {s : State} {p rate width : Nat} (hstage : s.boot.stage = .configured)
  (hwake : (s.pwr.wakes.any fun w => decide (w.load = .pool) && decide (w.num = p)) = false)
include hstage hwake

theorem poolLink_down (hmode : s.rd .POOL_PORT_STS_MODE p ≠ 0) : poolLink p rate width false s = s.poolDown p := by
  simp only [poolLink, hstage, hmode, hwake, bne_self_eq_false, decide_false, Bool.or_self, Bool.false_eq_true, if_false, Bool.not_false,
    if_true]

/-- An endpoint whose POOL_PERST_N is asserted stays down. -/
theorem poolLink_of_perst (hend : s.rd .POOL_PORT_STS_MODE p = 2) (hperst : s.bit .CTL_PIN_STS_POOL_PERST p = true) :
    poolLink p rate width true s = s := by
  simp only [poolLink, hstage, hend, hwake, hperst, bne_self_eq_false, OfNat.ofNat_ne_zero, decide_false, decide_true, Bool.or_self,
    Bool.false_eq_true, if_false, Bool.not_true, Bool.and_self, if_true]

/-- A root port trains at a rate and a width that it may have. -/
theorem poolLink_up (hroot : s.rd .POOL_PORT_STS_MODE p = 1) (h1 : 1 ≤ rate) (hcap : rate ≤ s.poolCap p) (hwidth : width = 4 ∨ width = 8) :
    poolLink p rate width true s = s.poolUp p rate width := by
  have hwidth' : (decide (width = 4) || decide (width = 8)) = true := by simpa using hwidth
  simp only [poolLink, hstage, hroot, hwake, h1, hcap, hwidth', bne_self_eq_false, one_ne_zero, OfNat.one_ne_ofNat, decide_false, decide_true,
    Bool.or_self, Bool.false_eq_true, if_false, Bool.not_true, Bool.false_and, Bool.and_self, if_true]

end

section
variable {s : State} {p : Nat}

theorem poolPerst_of_endpoint (hstage : s.boot.stage = .configured) (hmode : s.rd .POOL_PORT_STS_MODE p = 2) (asserted : Bool) :
    poolPerst p asserted s = if asserted then (s.wrBit .CTL_PIN_STS_POOL_PERST 0 p asserted).poolDown p
      else s.wrBit .CTL_PIN_STS_POOL_PERST 0 p asserted := by
  simp only [poolPerst, hstage, hmode, decide_true, Bool.and_self, if_true]

/-- Only an endpoint port has the input. -/
theorem poolPerst_of_other (hmode : s.rd .POOL_PORT_STS_MODE p ≠ 2) (asserted : Bool) : poolPerst p asserted s = s := by
  simp only [poolPerst, hmode, decide_false, Bool.and_false, Bool.false_eq_true, if_false]

/-- A logical device of an endpoint port that is up is bound, or unbound with its revoked ranges freed (R328). -/
theorem ldBind_of_endpoint {ld : Nat} (hmode : s.rd .POOL_PORT_STS_MODE p = 2) (hup : s.on .POOL_PORT_STS_UP p = true) (hld : ld < s.lds p)
    (bind : Bool) : ldBind p ld bind s = if bind then s.wrBit .POOL_PORT_STS_BOUND p ld bind
      else (((s.wrBit .POOL_PORT_STS_BOUND p ld bind).pool.extents.filter fun e =>
        decide (e.port = p) && decide (e.ld = ld) && e.revoked).foldl State.freeExtent (s.wrBit .POOL_PORT_STS_BOUND p ld bind)) := by
  simp only [ldBind, hmode, hup, hld, decide_true, Bool.and_self, if_true]

end

/-! ### The SPI handshake and JTAG (R524, R525, R530) -/

/-- SPI_REQ as the master asserts it. -/
def State.spiAsked (s : State) : State := s.wr .CTL_PIN_STS_SPI_REQ 0 0 1

theorem grantSpi_of_asked {s : State} (hgnt : s.on .CTL_PIN_STS_SPI_GNT = false) (hreq : s.on .CTL_PIN_STS_SPI_REQ = true) :
    s.grantSpi = (s.wr .CTL_PIN_STS_SPI_GNT 0 0 1).bump .CTL_PIN_CNT_COUNT 1 0 1 := by
  simp only [State.grantSpi, hgnt, hreq, Bool.not_false, Bool.and_self, if_true]

section
variable {s : State} (halive : s.alive = true)
include halive

theorem exec_spiReqAssert_of_alive : exec .spiReqAssert s = .next (if s.spiAsked.boot.stage = .rom then s.spiAsked else s.spiAsked.grantSpi) :=
  congrArg Host.Outcome.next (if_pos halive)

theorem exec_spiReqDeassert_of_alive :
    exec .spiReqDeassert s = .next ((s.wr .CTL_PIN_STS_SPI_REQ 0 0 0).wr .CTL_PIN_STS_SPI_GNT 0 0 0) :=
  congrArg Host.Outcome.next (if_pos halive)

theorem exec_jtagTapOperation_of_alive (op : TapOp) : exec (.jtagTapOperation op) s = .next (tapOp op s) :=
  congrArg Host.Outcome.next (if_pos halive)

end

/-! ### The button, its LED and I3C (R364, R526, R528) -/

section
variable {s u : State} (hstage : s.boot.stage = .configured) (hu : s.bump .CTL_PIN_CNT_COUNT 0 0 1 = u)
include hstage hu

/-- A short press is counted and no more. -/
theorem attnPress_short : attnPress false s = u := by
  simp only [attnPress, hstage, hu, decide_true, Bool.true_or, Bool.not_true, Bool.false_eq_true, if_false, Bool.not_false, if_true]

/-- A long press starts the evacuation of a member, or makes the service LED blink where it may not. -/
theorem attnPress_long : attnPress true s = if u.evacuating then u
    else if u.on .RING_EVAC_BTN_EN && decide (u.rd .RING_STS_MEMBER = 1) then
      u.startEvac 0 [] (u.on .RING_EVAC_MODE) (u.rd .RING_EVAC_LIMIT_S)
    else (u.setPins { u.pins with blink := some (u.pins.blink.getD (u.rd .RING_LED_SERVICE)) }).wr .RING_LED_SERVICE 0 0 1 := by
  simp only [attnPress, hstage, hu, decide_true, Bool.true_or, Bool.not_true, Bool.false_eq_true, if_false]

end

/-- The blink over, the LED shows what it showed before. -/
theorem blinkEnd_of_some {s : State} {v : Nat} (h : s.pins.blink = some v) :
    blinkEnd s = (s.setPins { s.pins with blink := none }).wr .RING_LED_SERVICE 0 0 v := by
  simp only [blinkEnd, h]

theorem blinkEnd_of_none {s : State} (h : s.pins.blink = none) : blinkEnd s = s := by
  simp only [blinkEnd, h]

section
variable {s : State} {addr : Nat}

/-- A target without an address takes one. -/
theorem exec_i3cEntdaa_of_none (hstage : s.boot.stage = .configured) (hlock : s.pwr.lockout = false) (h : s.pins.i3c = none) :
    exec (.i3cEntdaa addr) s = .next (s.setPins { s.pins with i3c := some (addr % 128) }) := by
  change execI3cEntdaa addr s = _
  simp only [execI3cEntdaa, hstage, hlock, h, decide_true, Bool.or_true, Bool.true_or, Bool.not_false, Option.isNone_none, Bool.and_self, if_true]

theorem exec_i3cEntdaa_of_some {a : Nat} (h : s.pins.i3c = some a) : exec (.i3cEntdaa addr) s = .next s := by
  change execI3cEntdaa addr s = _
  simp only [execI3cEntdaa, h, Option.isNone_some, Bool.and_false, Bool.false_eq_true, if_false]

end

/-! ### The statement -/

/-- Settles O54: each pin and link by the lemma on its meaning. -/
theorem pinsAndLinks : Obligations.PinsAndLinks := by
  unfold Obligations.PinsAndLinks
  refine ⟨fun dt j s hj hstage => ?drives, fun p rate width cxl s hp hstage hwake => ?hostLinks,
    fun p rate width s hp hstage hmode hwake => ?poolLinks, fun p s hp => ?poolPorts, fun s halive => ?serial, fun dt s hstage => ?button,
    fun dt s => ?blink, fun addr s hstage hlock => ⟨exec_i3cEntdaa_of_none hstage hlock, fun a h => exec_i3cEntdaa_of_some h⟩⟩
  case drives =>
    refine ⟨fun b h => ?_, fun h _ => ?_, fun h => ?_, fun hctl h hclk => ?_, fun hclk => ?_, fun h hlink hwake => ?_, fun hlink => ?_⟩
    · rw [exec_flashPrsntChange_of_port hj, flashPrsnt_of_same h]
    · rw [exec_flashPrsntChange_of_port hj, flashPrsnt_plugged hstage h]; rfl
    · rw [exec_flashPrsntChange_of_port hj, flashPrsnt_pulled hstage h]; rfl
    · rw [exec_flashPerstRelease_of_port hj, flashRelease_of_clock hctl h hclk]
    · rw [exec_flashPerstRelease_of_port hj, flashRelease_of_noClock hclk]
    · rw [exec_flashBringupRetry_of_port hj, flashRetry_of_noLink hstage h hlink hwake]
    · rw [exec_flashBringupRetry_of_port hj, flashRetry_of_link hlink]
  case hostLinks =>
    have hexec (r : Nat) : exec (.hostPortLinkChange p r width cxl) s = .next (hostLink p r width cxl s) := congrArg Host.Outcome.next (if_pos hp)
    refine ⟨?_, fun h0 hcap hwidth hup => ?_, fun h0 hcap => ?_⟩
    · rw [hexec, hostLink_down hstage hwake]
    · rw [hexec, hostLink_up hstage hwake h0 hcap hwidth hup]
    · rw [hexec, hostLink_of_fast hstage hwake h0 hcap]
  case poolLinks =>
    have hexec (up : Bool) : exec (.poolPortLinkChange p rate width up) s = .next (poolLink p rate width up s) :=
      congrArg Host.Outcome.next (if_pos hp)
    refine ⟨fun hroot h1 hcap hwidth => ?_, fun hend hperst => ?_, fun hup => ?_, fun hup => ⟨fun hend => ?_, fun hroot => ?_⟩⟩
    · rw [hexec, poolLink_up hstage hwake hroot h1 hcap hwidth]
    · rw [hexec, poolLink_of_perst hstage hwake hend hperst]
    · rw [hexec, poolLink_down hstage hwake hmode, poolDown_of_down hup]
    · rw [hexec, poolLink_down hstage hwake hmode, poolDown_of_endpoint hup hend]; rfl
    · rw [hexec, poolLink_down hstage hwake hmode, poolDown_of_root hup hroot]; rfl
  case poolPorts =>
    have hperst (b : Bool) : exec (.poolPerstNInput p b) s = .next (poolPerst p b s) := congrArg Host.Outcome.next (if_pos hp)
    have hbind (ld : Nat) (b : Bool) : exec (.logicalDeviceBind p ld b) s = .next (ldBind p ld b s) := congrArg Host.Outcome.next (if_pos hp)
    refine ⟨fun hstage hmode => ⟨?_, ?_⟩, fun hmode b => ?_, fun ld hmode hup hld => ⟨?_, ?_⟩⟩
    · rw [hperst, poolPerst_of_endpoint hstage hmode, if_neg Bool.false_ne_true]
    · rw [hperst, poolPerst_of_endpoint hstage hmode, if_pos rfl]
    · rw [hperst, poolPerst_of_other hmode]
    · rw [hbind, ldBind_of_endpoint hmode hup hld, if_pos rfl]
    · rw [hbind, ldBind_of_endpoint hmode hup hld, if_neg Bool.false_ne_true]
  case serial =>
    have hassert := exec_spiReqAssert_of_alive halive
    have htap := exec_jtagTapOperation_of_alive halive
    refine ⟨fun hrom => ?_, fun hrom hgnt hreq => ?_, exec_spiReqDeassert_of_alive halive, fun d => htap (.bypass d), htap .idcode,
      fun n d hlocked => ?_, fun n d hopen => ?_⟩
    · rw [hassert, State.spiAsked, if_pos hrom]
    · rw [hassert, State.spiAsked, if_neg hrom, grantSpi_of_asked hgnt hreq]
    · exact (htap (.other n d)).trans (congrArg Host.Outcome.next (if_pos hlocked))
    · exact (htap (.other n d)).trans (congrArg Host.Outcome.next (if_neg hopen))
  case button =>
    intro u
    have hexec (held : Bool) : exec (.svcAttnPress dt held) s = .next (attnPress held (s.pass dt)) := rfl
    rw [hexec, hexec, attnPress_short hstage rfl, attnPress_long hstage rfl]
    refine ⟨rfl, fun hevac => ?_, fun hevac hbtn hmem => ?_, fun hevac hbtn => ?_⟩
    · rw [if_pos hevac]
    · rw [if_neg (ne_true_of_eq_false hevac), if_pos (by rw [hbtn, hmem]; rfl)]
    · rw [if_neg (ne_true_of_eq_false hevac), if_neg (by rw [hbtn]; exact Bool.false_ne_true)]
  case blink =>
    have hexec : exec (.serviceLedBlinkEnd dt) s = .next (blinkEnd (s.pass dt)) := rfl
    refine ⟨fun v h => ?_, fun h => ?_⟩
    · rw [hexec, blinkEnd_of_some h]
    · rw [hexec, blinkEnd_of_none h]

end Sys2Proof.Machine
end

section
/-! SUPPORT. Owners' commands (R81, R84, R90, R91, R94 to R97, R107 to R110): how a session's state and owner turn them away, and what
each of them does to a session that lets it run. -/

namespace Sys2Proof.Machine

/-! ### Turned away -/

section
variable {s : State} {x : Session}

theorem refusal_of_orphaned (h : x.st = .orphaned) : s.refusal x = some (.orphaned, x.lostOwner % 1024) := by
  simp [State.refusal, Session.orphanCause, h]

theorem refusal_of_failed (h : x.st = .failed) : s.refusal x = some (.orphaned, 0xFFFF) := by
  simp [State.refusal, Session.orphanCause, h]

theorem refusal_of_shipping (h : x.st = .shipping) : s.refusal x = some (.busyTether, x.busyCause) := by
  simp [State.refusal, h]

theorem refusal_of_away (horph : x.st ≠ .orphaned) (hfail : x.st ≠ .failed) (hship : x.st ≠ .shipping) (howner : x.owner_ = false) :
    s.refusal x = some (.ownerConflict, x.ownerCause) := by
  simp [State.refusal, horph, hfail, hship, howner]

/-- A session that lets owners' commands run is owned here and neither lost nor on its way. -/
theorem owned_of_admitted (h : s.refusal x = none) :
    x.st ≠ .orphaned ∧ x.st ≠ .failed ∧ x.st ≠ .shipping ∧ x.owner_ = true ∧ s.fab.isolated = false := by
  have horph : x.st ≠ .orphaned := fun e => nomatch h.symm.trans (refusal_of_orphaned e)
  have hfail : x.st ≠ .failed := fun e => nomatch h.symm.trans (refusal_of_failed e)
  have hship : x.st ≠ .shipping := fun e => nomatch h.symm.trans (refusal_of_shipping e)
  have howner : x.owner_ = true := eq_true_of_ne_false fun e => nomatch h.symm.trans (refusal_of_away horph hfail hship e)
  refine ⟨horph, hfail, hship, howner, ?_⟩
  simpa [State.refusal, horph, hfail, hship, howner] using h

end

/-- An owner's command that the session turns away completes with the status and cause of the refusal. -/
theorem onOwned_of_refused {s : State} {c : Cmd} {x : Session} {r : Status × Nat} (hx : s.sess (Desc.handle c.desc) = some x)
    (hr : s.refusal x = some r) (body : Cmd → Session → State → State) : onOwned body c s = s.finish c.id r.1 r.2 := by
  simp only [onOwned, hx, hr]

/-- A row runs an owner's command: with no step item of the session in flight and its spool here, it completes with BAD_HANDLE where the
handle names no live session of the context, and else runs on the session, unless that turns it away. -/
def RunsOnOwned (row : Nat → Instr) (op : Nat) (body : Cmd → Session → State → State) : Prop :=
  ∀ k c s, s.mayRun k op c → s.noItem c = true → s.spoolHere (Desc.handle c.desc) = true → (op = 0x1A → Desc.flag c.desc 8 = false) →
    exec (row k) s = .next (if s.sessLive c then onOwned body c (s.setPhase k .running) else s.finish k .badHandle)

/-- A command that may run, of the row's form and past the row's own wait: it runs, or its handle names nothing live. -/
theorem begin_of_ready {s : State} {k op : Nat} {c : Cmd} (h : s.mayRun k op c) {form : Desc → Bool} {ready live : Cmd → Bool}
    (body : Cmd → State → State) (hform : form c.desc = true) (hready : ready c = true) :
    s.begin k op form ready live body = if live c then body c (s.setPhase k .running) else s.finish k .badHandle := by
  split
  · next hlive => exact begin_of_mayRun h body hform hready hlive
  · next hdead => exact begin_of_dead h body hform hready (eq_false_of_ne_true hdead)

theorem turnsAway_of_runsOnOwned {row : Nat → Instr} {op : Nat} {body : Cmd → Session → State → State} (hrow : RunsOnOwned row op body) :
    TurnsAway row op := by
  intro k c s h hitem hspool hflag
  rw [hrow k c s h hitem hspool hflag]
  obtain rfl := cmd_id h.1
  refine ⟨fun hdead => by rw [hdead]; rfl, fun x hlive hx => ?_⟩
  rw [if_pos hlive]
  have hturn {r : Status × Nat} (hr : s.refusal x = some r) :
      Host.Outcome.next (onOwned body c (s.setPhase c.id .running)) =
        (.next ((s.setPhase c.id .running).finish c.id r.1 r.2) : Host.Outcome State Fault Refusal) :=
    congrArg Host.Outcome.next (onOwned_of_refused (s := s.setPhase c.id .running) hx hr body)
  exact ⟨fun horph => hturn (refusal_of_orphaned horph), fun hfail => hturn (refusal_of_failed hfail),
    fun hship => hturn (refusal_of_shipping hship), fun horph hfail hship howner => hturn (refusal_of_away horph hfail hship howner)⟩

theorem runsOnOwned_sessPark : RunsOnOwned .sessPark 0x12 sessPark := fun _ _ _ h hitem _ _ =>
  congrArg Host.Outcome.next (begin_of_ready h (onOwned sessPark) rfl hitem)

theorem runsOnOwned_sessRevive : RunsOnOwned .sessRevive 0x13 sessRevive := fun _ _ _ h _ _ _ =>
  congrArg Host.Outcome.next (begin_of_ready h (onOwned sessRevive) rfl rfl)

theorem runsOnOwned_sessDeflate : RunsOnOwned .sessDeflate 0x14 sessDeflate := fun _ _ _ h hitem _ _ =>
  congrArg Host.Outcome.next (begin_of_ready h (onOwned sessDeflate) rfl hitem)

theorem runsOnOwned_sessRebuild : RunsOnOwned .sessRebuild 0x15 sessRebuild := fun _ _ _ h hitem _ _ =>
  congrArg Host.Outcome.next (begin_of_ready h (onOwned sessRebuild) rfl hitem)

theorem shipReady_of_ready {s : State} {c : Cmd} (hitem : s.noItem c = true) (hspool : s.spoolHere (Desc.handle c.desc) = true) :
    s.shipReady c = true := by
  rw [State.shipReady, hitem, hspool]; rfl

theorem runsOnOwned_sessShip : RunsOnOwned .sessShip 0x17 sessShip := fun _ _ _ h hitem hspool _ =>
  congrArg Host.Outcome.next (begin_of_ready h (onOwned sessShip) rfl (shipReady_of_ready hitem hspool))

/-- A SESS_POLICY that waits for nothing sets the context's defaults with DEFAULT, and else is an owner's command. -/
theorem exec_sessPolicy_of_mayRun {s : State} {k : Nat} {c : Cmd} (h : s.mayRun k 0x1A c) (hready : s.policyReady c = true) :
    exec (.sessPolicy k) s = .next (if Desc.flag c.desc 8 then policyDefault c (s.setPhase k .running)
      else if s.sessLive c then onOwned policyBody c (s.setPhase k .running) else s.finish k .badHandle) := by
  refine congrArg Host.Outcome.next ((begin_of_ready h _ rfl hready).trans ?_)
  cases Desc.flag c.desc 8 <;> rfl

theorem runsOnOwned_sessPolicy : RunsOnOwned .sessPolicy 0x1A policyBody := fun k c s h _ hspool hflag => by
  have hready : s.policyReady c = true := by rw [State.policyReady, hspool, Bool.or_true]
  rw [exec_sessPolicy_of_mayRun h hready, hflag rfl]
  rfl

/-- Settles O21: each of the six rows runs an owner's command, and every owner's command is turned away in the same way. -/
theorem ownersCommands : Obligations.OwnersCommands := by
  unfold Obligations.OwnersCommands
  exact ⟨turnsAway_of_runsOnOwned runsOnOwned_sessPark, turnsAway_of_runsOnOwned runsOnOwned_sessRevive,
    turnsAway_of_runsOnOwned runsOnOwned_sessDeflate, turnsAway_of_runsOnOwned runsOnOwned_sessRebuild,
    turnsAway_of_runsOnOwned runsOnOwned_sessShip, turnsAway_of_runsOnOwned runsOnOwned_sessPolicy⟩

end Sys2Proof.Machine
end

section
/-! SUPPORT. Session commands at the owner (R90, R91, R94 to R97, R107 to R110, R535): every outcome of SESS_DESTROY, SESS_PARK, SESS_REVIVE,
SESS_DEFLATE, SESS_REBUILD, SESS_QUERY, SESS_CANCEL and SESS_POLICY. -/

namespace Sys2Proof.Machine

/-! ### Commands that may run on a session that admits them -/

section
variable {s : State} {k : Nat} {c : Cmd} {x : Session}

/-- An owner's command that may run, past its row's own wait, on a live session that admits it, does what it means. -/
theorem begin_onOwned {op : Nat} (h : s.mayRun k op c) {ready : Cmd → Bool} (hready : ready c = true) (hlive : s.sessLive c = true)
    (hx : s.sess (Desc.handle c.desc) = some x) (hr : s.refusal x = none) (body : Cmd → Session → State → State) :
    s.begin k op anyForm ready s.sessLive (onOwned body) = body c x (s.setPhase k .running) :=
  (begin_of_mayRun h (onOwned body) rfl hready hlive).trans (onOwned_of_admitted (s := s.setPhase k .running) hx hr body)

/-- SESS_DESTROY that may run: nothing is freed on an isolated Flewick (R360); else every session of the context goes, or the one named. -/
theorem exec_sessDestroy_of_mayRun (h : s.mayRun k 0x11 c) (hready : s.destroyReady c = true)
    (hlive : Desc.flag c.desc 8 = true ∨ s.sessLive c = true) (reads : List (Option Nat)) : exec (.sessDestroy k reads) s = .next
      (if s.fab.isolated then (s.setPhase k .running).finish c.id .retryLater (hintMs 10)
      else if Desc.flag c.desc 8 then destroyAll reads c (s.setPhase k .running)
      else destroyOne (reads.getD 0 none) c (s.setPhase k .running)) :=
  congrArg Host.Outcome.next (begin_of_mayRun h _ rfl hready (by simpa using hlive))

theorem exec_sessQuery_of_mayRun (h : s.mayRun k 0x16 c) (hready : s.queryReady c = true) (hlive : s.sessLive c = true) (wrote : Bool) :
    exec (.sessQuery k wrote) s = .next (sessQuery wrote c (s.setPhase k .running)) :=
  congrArg Host.Outcome.next (begin_of_mayRun h (sessQuery wrote) rfl hready hlive)

theorem exec_sessCancel_of_mayRun (h : s.mayRun k 0x19 c) (hlive : s.sessLive c = true) :
    exec (.sessCancel k) s = .next (sessCancel c (s.setPhase k .running)) :=
  congrArg Host.Outcome.next (begin_of_mayRun h sessCancel rfl rfl hlive)

end

/-! ### SESS_DESTROY -/

section
variable {s : State} {c : Cmd} {x : Session} (hx : s.sess (Desc.handle c.desc) = some x)
include hx

theorem destroyOne_of_shipping (hship : x.st = .shipping) (read : Option Nat) : destroyOne read c s = s.finish c.id .busyTether x.busyCause := by
  simp only [destroyOne, hx, hship, if_true]

section
variable (hship : x.st ≠ .shipping)
include hship

/-- A session is not freed by a Flewick that does not own it, and a lost one only at its home. -/
theorem destroyOne_of_away
    (haway : ((x.st = .orphaned ∨ x.st = .failed) ∧ x.isHome = false) ∨ (¬(x.st = .orphaned ∨ x.st = .failed) ∧ x.owner_ = false))
    (read : Option Nat) : destroyOne read c s = s.finish c.id .ownerConflict x.ownerCause := by
  simp only [destroyOne, hx, hship, if_false]
  exact if_pos (by simpa using haway)

theorem destroyOne_of_here
    (hhere : ((x.st = .orphaned ∨ x.st = .failed) ∧ x.isHome = true) ∨ (¬(x.st = .orphaned ∨ x.st = .failed) ∧ x.owner_ = true))
    (read : Option Nat) : destroyOne read c s = ((s.destroySess x.handle read).finish c.id .ok 0 1).winch s := by
  simp only [destroyOne, hx, hship, if_false]
  refine if_neg ?_
  rcases hhere with ⟨horph | hfail, hhome⟩ | ⟨hkept, howner⟩
  · simp [horph, hhome]
  · simp [hfail, hhome]
  · simp [hkept, howner]

end
end

/-! ### SESS_PARK, SESS_DEFLATE, SESS_REBUILD -/

section
variable {s : State} {c : Cmd} {x : Session}

theorem sessPark_of_down (h : x.st = .parked ∨ x.st = .deflated) : sessPark c x s = s.finish c.id .ok := if_pos (by simpa using h)

/-- Else the session is parked, or under USE_POLICY paused, and the completion shows the state that it is left in. -/
theorem sessPark_of_up (hpark : x.st ≠ .parked) (hdefl : x.st ≠ .deflated) : ∃ st, sessPark c x s =
    (State.flushGone (if Desc.flag c.desc 8 then s.pause x.handle else s.park x.handle)).finish c.id .ok 0 st :=
  ⟨_, if_neg (by simp [hpark, hdefl])⟩

theorem sessDeflate_of_deflated (h : x.st = .deflated) : sessDeflate c x s = s.finish c.id .ok := if_pos h

theorem sessDeflate_of_held (h : x.st ≠ .deflated) :
    sessDeflate c x s = ((s.deflate x.handle 1).flushGone).finish c.id .ok 0 x.kibAll := if_neg h

theorem sessRebuild_of_beyond (h : x.kvLen < Desc.num c.desc 16 4) : sessRebuild c x s = s.finish c.id .reservedNonzero 16 := if_pos h

theorem sessRebuild_of_within (h : Desc.num c.desc 16 4 ≤ x.kvLen) :
    let a := if x.st = .deflated then 0 else Desc.num c.desc 16 4 / 128 * 128
    sessRebuild c x s = (((s.dropFrom x.handle (a / 128)).startRebuild x.handle a x.kvLen 0).flushGone).rebuildDone c.id x.handle 0 :=
  if_neg (Nat.not_lt.mpr h)

/-! ### SESS_REVIVE -/

theorem sessRevive_of_aloft (h : x.st = .aloft) : sessRevive c x s = s.finish c.id .ok := if_pos h

theorem sessRevive_of_rebuilding (h : x.st = .rebuilding) : sessRevive c x s = s.finish c.id .ok 0 1 x.rbStart x.rbEnd := by
  simp [sessRevive, h]

/-- A revival under way is waited for. -/
theorem sessRevive_of_reviving (h : x.st = .reviving) : sessRevive c x s = s := by
  simp [sessRevive, h]

section
variable (hdown : x.st = .parked ∨ x.st = .deflated)
include hdown

/-- What SESS_REVIVE of a session that is PARKED or DEFLATED comes to: it is turned away while the part runs short, and else admitted. -/
theorem sessRevive_of_down : sessRevive c x s =
    if s.isShort && !x.interactive then
      (s.bump .CTL_ADM_CNT_COUNT 3 0 1).finish c.id .retryLater (hintMs (s.rd .CTL_ADM_CFG_BACKOFF_MS))
    else
      let u := if x.interactive then s.admitInter else s
      if x.rbPending then (u.startRebuild x.handle x.rbStart x.rbEnd x.rbCause).rebuildDone c.id x.handle 1
      else if x.st = .deflated || !(Desc.flag c.desc 8 || u.reviveFirst x) then
        (((u.dropFrom x.handle 0).startRebuild x.handle 0 x.kvLen 0).flushGone).rebuildDone c.id x.handle 1
      else x.pages.foldl (fun s q => s.wantUp ⟨false, x.handle, q.1⟩) (u.enter x.handle .reviving) := by
  have haloft : x.st ≠ .aloft := by rcases hdown with h | h <;> simp [h]
  have hrebuild : x.st ≠ .rebuilding := by rcases hdown with h | h <;> simp [h]
  have hrevive : x.st ≠ .reviving := by rcases hdown with h | h <;> simp [h]
  exact (if_neg haloft).trans ((if_neg hrebuild).trans (if_neg hrevive))

theorem sessRevive_of_short (hshort : s.isShort = true) (hinter : x.interactive = false) : sessRevive c x s =
    (s.bump .CTL_ADM_CNT_COUNT 3 0 1).finish c.id .retryLater (hintMs (s.rd .CTL_ADM_CFG_BACKOFF_MS)) := by
  rw [sessRevive_of_down hdown, hshort, hinter]
  rfl

variable (hroom : s.isShort = false ∨ x.interactive = true)
include hroom

/-- A rebuild that was pending starts. -/
theorem sessRevive_of_pending (hpend : x.rbPending = true) : sessRevive c x s =
    ((if x.interactive then s.admitInter else s).startRebuild x.handle x.rbStart x.rbEnd x.rbCause).rebuildDone c.id x.handle 1 := by
  rw [sessRevive_of_down hdown, if_neg (not_turnedAway hroom)]
  exact if_pos hpend

variable (hpend : x.rbPending = false)
include hpend

/-- A session with nothing to promote, or for which the estimate prefers it, is rebuilt from its first position. -/
theorem sessRevive_of_rebuilt
    (h : x.st = .deflated ∨ (Desc.flag c.desc 8 = false ∧ (if x.interactive then s.admitInter else s).reviveFirst x = false)) :
    sessRevive c x s = ((((if x.interactive then s.admitInter else s).dropFrom x.handle 0).startRebuild x.handle 0 x.kvLen 0).flushGone).rebuildDone
      c.id x.handle 1 := by
  rw [sessRevive_of_down hdown, if_neg (not_turnedAway hroom)]
  exact (if_neg (ne_true_of_eq_false hpend)).trans (if_pos (by simpa using h))

/-- Else its pages go up to T1. -/
theorem sessRevive_of_promoted (hpark : x.st = .parked)
    (h : Desc.flag c.desc 8 = true ∨ (if x.interactive then s.admitInter else s).reviveFirst x = true) :
    sessRevive c x s = x.pages.foldl (fun s q => s.wantUp ⟨false, x.handle, q.1⟩)
      ((if x.interactive then s.admitInter else s).enter x.handle .reviving) := by
  rw [sessRevive_of_down hdown, if_neg (not_turnedAway hroom)]
  refine (if_neg (ne_true_of_eq_false hpend)).trans (if_neg ?_)
  rcases h with h | h <;> simp [hpark, h]

end
end

/-! ### SESS_QUERY -/

section
variable {s : State} {c : Cmd} {x : Session} (hx : s.sess (Desc.handle c.desc) = some x)
include hx

theorem sessQuery_of_descriptor (hmode : Desc.byte c.desc 16 = 0) : sessQuery true c s =
    (s.emit (.write c.ctx (Desc.num c.desc 24 8) 256 (s.descriptor x))).finish c.id .ok 0 1 x.spool.length x.stateByte := by
  simp only [sessQuery, hx, hmode, if_true]

/-- Only a spool holder shows entries. -/
theorem sessQuery_of_noSpool (hmode : Desc.byte c.desc 16 ≠ 0) (hspool : x.spool_ = false) (wrote : Bool) :
    sessQuery wrote c s = s.finish c.id .ownerConflict x.ownerCause := by
  simp only [sessQuery, hx, hmode, hspool, Bool.not_false, if_true, if_false]

/-- The entries of the spool or of the seeds from the first one asked for on, cut short at the end. -/
theorem sessQuery_of_entries (hmode : Desc.byte c.desc 16 ≠ 0) (hspool : x.spool_ = true) :
    let all := if Desc.byte c.desc 16 = 1 then x.spool.map SpoolEntry.word else x.seeds.map seedWord
    let l := (all.drop (Desc.num c.desc 32 4)).take (Desc.num c.desc 36 4)
    sessQuery true c s = (s.emit (.write c.ctx (Desc.num c.desc 24 8) (16 * l.length) (packWords 16 l))).finish c.id
      (if all.length < Desc.num c.desc 32 4 + Desc.num c.desc 36 4 then .partialDone else .ok) 0 l.length x.spool.length x.stateByte := by
  simp only [sessQuery, hx, hmode, hspool, Bool.not_true, Bool.false_eq_true, if_true, if_false, gt_iff_lt]

/-- A write that fails is tried again later (R535). -/
theorem sessQuery_of_unwritten (h : Desc.byte c.desc 16 = 0 ∨ x.spool_ = true) : sessQuery false c s = s.finish c.id .retryLater (hintMs 1) := by
  by_cases hmode : Desc.byte c.desc 16 = 0
  · simp only [sessQuery, hx, hmode, Bool.false_eq_true, if_true, if_false]
  · have hspool : x.spool_ = true := h.resolve_left hmode
    simp only [sessQuery, hx, hmode, hspool, Bool.not_true, Bool.false_eq_true, if_false]

/-! ### SESS_CANCEL -/

theorem sessCancel_of_lost (h : x.st = .orphaned ∨ x.st = .failed) : sessCancel c s = s.finish c.id .orphaned x.orphanCause := by
  simp only [sessCancel, hx]
  exact if_pos (by simpa using h)

section
variable (horph : x.st ≠ .orphaned) (hfail : x.st ≠ .failed)
include horph hfail

theorem sessCancel_of_receiving (h : x.receiving = true) : sessCancel c s = s.finish c.id .busyTether x.busyCause := by
  simp [sessCancel, hx, horph, hfail, h]

variable (hrecv : x.receiving = false) (howner : x.owner_ = true) (hiso : s.fab.isolated = false)
include hrecv howner hiso

/-- SESS_CANCEL that nothing turns away: waiting draws, then step items, then the earlier commands of the handle, in order. -/
theorem sessCancel_of_owned :
    let h := Desc.handle c.desc
    let a := (s.cancelDraws c h).cancelItems h
    let ks := s.hti.cmds.filter fun (d : Cmd) => d.ctx = c.ctx && d.id < c.id && Desc.handle d.desc = h
    let b := ks.foldl (fun (n : State × Nat × Bool) d => ((n.1.cancelCmd d).1, n.2.1 + b2n (n.1.cancelCmd d).2.1, n.2.2 || (n.1.cancelCmd d).2.2))
      (a.1, a.2, false)
    sessCancel c s = b.1.finish c.id .ok 0 b.2.1 (b2n b.2.2) := by
  simp [sessCancel, hx, horph, hfail, hrecv, howner, hiso]

/-- With no step in flight and no earlier command of the context there is nothing to cancel and nothing is counted. -/
theorem sessCancel_of_alone (hfirst : (s.hti.cmds.all fun d => d.ctx != c.ctx || decide (c.id ≤ d.id)) = true) (hsteps : s.attn.steps = []) :
    sessCancel c s = (s.cancelDraws c (Desc.handle c.desc)).finish c.id .ok := by
  have hitems : (s.cancelDraws c (Desc.handle c.desc)).cancelItems (Desc.handle c.desc) = (s.cancelDraws c (Desc.handle c.desc), 0) := by
    have hsame : (s.cancelDraws c (Desc.handle c.desc)).attn.steps = [] := hsteps
    simp only [State.cancelItems, hsame, List.map_nil, List.foldl_nil]
    rw [← hsame]
    rfl
  have hnone : (s.hti.cmds.filter fun (d : Cmd) => d.ctx = c.ctx && d.id < c.id && Desc.handle d.desc = Desc.handle c.desc) = [] := by
    refine List.filter_eq_nil_iff.mpr fun d hd hhit => ?_
    have hctx := List.all_eq_true.mp hfirst d hd
    simp only [Bool.and_eq_true, decide_eq_true_eq] at hhit
    obtain ⟨⟨hsame, hearlier⟩, -⟩ := hhit
    simp [hsame, Nat.not_le.mpr hearlier] at hctx
  rw [sessCancel_of_owned hx horph hfail hrecv howner hiso, hitems, hnone]
  rfl

end
end

/-- A test of the accepted commands that does not look at their phases stays true when a phase is set. -/
theorem all_cmds_setPhase (s : State) (k : Nat) (ph : CmdPhase) {p : Cmd → Bool} (hp : ∀ d, p { d with phase := ph } = p d) :
    (s.setPhase k ph).hti.cmds.all p = s.hti.cmds.all p := by
  simp only [State.setPhase, State.setCmds, List.all_map]
  congr 1
  funext d
  simp only [Function.comp_apply]
  split
  · exact hp d
  · rfl

/-! ### SESS_POLICY -/

/-- The defaults of a context after SESS_POLICY with DEFAULT. -/
theorem dflt_putDflt (s : State) (c : Nat) (f : CtxDflt) : ({ s with ses := { s.ses with dflt := Map.put s.ses.dflt c f } } : State).dflt c = f := by
  simp only [State.dflt, Map.find_put_same, Option.getD_some]

/-- Without a new seed, and where no INTERACTIVE session is ALOFT, SESS_POLICY sets the session's settings alone. -/
theorem policyBody_of_noSeed {s : State} {c : Cmd} {x : Session} (hseed : Desc.num c.desc 32 8 = 0) (haloft : x.st ≠ .aloft) :
    policyBody c x s = (s.setSess { x with
      pauseDeflate := Desc.byte c.desc 16 = 1, autoDeflate := bitAt (Desc.byte c.desc 17) 0, interactive := bitAt (Desc.byte c.desc 17) 1
      idlePark := Desc.num c.desc 20 4, rbRate := Desc.num c.desc 24 2 }).finish c.id .ok := by
  simp [policyBody, hseed, haloft]

/-! ### Every outcome -/

/-- Settles O24: each outcome by the lemma on the command's meaning. -/
theorem sessionOutcomes : Obligations.SessionOutcomes := by
  unfold Obligations.SessionOutcomes
  refine ⟨?destroy, ?revive, ?query, ?cancel, ?policy⟩
  case destroy =>
    intro k c s reads h hready r
    obtain rfl := cmd_id h.1
    refine ⟨fun hlive hiso => ?isolated, fun hiso => ⟨fun hall => ?all, fun x hone hlive hx => ?one⟩⟩
    case isolated => rw [exec_sessDestroy_of_mayRun h hready hlive, if_pos hiso]
    case all =>
      rw [exec_sessDestroy_of_mayRun h hready (.inl hall), if_neg (ne_true_of_eq_false hiso), if_pos hall]
      rfl
    case one =>
      intro lost
      rw [exec_sessDestroy_of_mayRun h hready (.inr hlive), if_neg (ne_true_of_eq_false hiso), if_neg (ne_true_of_eq_false hone)]
      exact ⟨fun hship => congrArg Host.Outcome.next (destroyOne_of_shipping (s := r) hx hship _),
        fun hship haway => congrArg Host.Outcome.next (destroyOne_of_away (s := r) hx hship haway _),
        fun hship hhere => congrArg Host.Outcome.next (destroyOne_of_here (s := r) hx hship hhere _)⟩
  case revive =>
    intro k c s x h hlive hx hr r u
    obtain rfl := cmd_id h.1
    have hexec : exec (.sessRevive c.id) s = .next (sessRevive c x r) := congrArg Host.Outcome.next (begin_onOwned h rfl hlive hx hr sessRevive)
    rw [hexec]
    exact ⟨fun hst => congrArg Host.Outcome.next (sessRevive_of_reviving hst), fun hdown =>
      ⟨fun hshort hinter => congrArg Host.Outcome.next (sessRevive_of_short hdown hshort hinter), fun hroom =>
        ⟨fun hpend => congrArg Host.Outcome.next (sessRevive_of_pending hdown hroom hpend),
          fun hpend hrb => congrArg Host.Outcome.next (sessRevive_of_rebuilt hdown hroom hpend hrb),
          fun hpend hpark hup => congrArg Host.Outcome.next (sessRevive_of_promoted hdown hroom hpend hpark hup)⟩⟩⟩
  case query =>
    intro k c s x h hlive hx hready r first count all l
    obtain rfl := cmd_id h.1
    have hexec := exec_sessQuery_of_mayRun h hready hlive
    refine ⟨fun hmode hspool wrote => ?_, fun hmode hspool => ?_, fun hfail => ?_⟩
    · rw [hexec, sessQuery_of_noSpool (s := r) hx hmode hspool]
    · rw [hexec, sessQuery_of_entries (s := r) hx hmode hspool]
    · rw [hexec, sessQuery_of_unwritten (s := r) hx hfail]
  case cancel =>
    intro k c s x h hlive hx r
    obtain rfl := cmd_id h.1
    rw [exec_sessCancel_of_mayRun h hlive]
    exact ⟨fun hlost => congrArg Host.Outcome.next (sessCancel_of_lost (s := r) hx hlost),
      fun horph hfail hrecv => congrArg Host.Outcome.next (sessCancel_of_receiving (s := r) hx horph hfail hrecv),
      fun horph hfail hrecv howner hiso => congrArg Host.Outcome.next (sessCancel_of_owned (s := r) hx horph hfail hrecv howner hiso)⟩
  case policy =>
    intro k c s x h hflag hready hlive hx hr r seed y u v
    obtain rfl := cmd_id h.1
    rw [exec_sessPolicy_of_mayRun h hready, hflag, hlive]
    exact congrArg Host.Outcome.next (onOwned_of_admitted (s := r) hx hr policyBody)

/-- Settles O22: SESS_CREATE as O23 gives it, the other commands by the lemmas on their meanings. -/
theorem sessionCommands : Obligations.SessionCommands := by
  unfold Obligations.SessionCommands
  refine ⟨?create, ?destroy, ?owned, ?query, ?default⟩
  case create =>
    intro k c s n h hevac hmem hshort hshape hlim hslot mirror
    obtain ⟨-, hstay⟩ := sessionCreation k c s h
    obtain ⟨-, hadmit⟩ := hstay hevac hmem
    obtain ⟨-, hmade⟩ := hadmit (.inl hshort)
    obtain ⟨-, hrun⟩ := hmade hshape
    -- The partner is shown where the session has a mirror, and is its mirror there.
    have hshown (p q : Nat) : (if mirror then (if mirror then p else 0) else q) = if mirror then p else q := by cases mirror <;> rfl
    exact ⟨_, (hrun n hlim hslot).trans (congrArg (fun m => Host.Outcome.next (State.finish _ k .ok 0 _ m _)) (hshown _ _))⟩
  case destroy =>
    intro k c s x reads h hone hitem hlive hx hiso hship horph hfail howner
    obtain rfl := cmd_id h.1
    have hready : s.destroyReady c = true := by rw [State.destroyReady, hone]; exact hitem
    have hhere : ¬(x.st = .orphaned ∨ x.st = .failed) ∧ x.owner_ = true := ⟨fun hlost => hlost.elim horph hfail, howner⟩
    rw [exec_sessDestroy_of_mayRun h hready (.inr hlive), hiso, hone]
    exact congrArg Host.Outcome.next (destroyOne_of_here (s := s.setPhase c.id .running) hx hship (.inr hhere) _)
  case owned =>
    intro k c s x hlive hx hr
    refine ⟨fun h hitem => ?park, fun h => ?revive, fun h hitem => ?deflate, fun h hitem => ?rebuild,
      fun h hrecv hfirst hsteps => ?cancel, fun h hone hseed haloft => ?policy⟩
    all_goals obtain rfl := cmd_id h.1
    case park =>
      have hexec : exec (.sessPark c.id) s = .next (sessPark c x (s.setPhase c.id .running)) :=
        congrArg Host.Outcome.next (begin_onOwned h hitem hlive hx hr sessPark)
      rw [hexec]
      refine ⟨fun hdown => congrArg Host.Outcome.next (sessPark_of_down hdown), fun hpark hdefl => ?_⟩
      obtain ⟨st, hst⟩ := sessPark_of_up (s := s.setPhase c.id .running) (c := c) hpark hdefl
      exact ⟨st, congrArg Host.Outcome.next hst⟩
    case revive =>
      have hexec : exec (.sessRevive c.id) s = .next (sessRevive c x (s.setPhase c.id .running)) :=
        congrArg Host.Outcome.next (begin_onOwned h rfl hlive hx hr sessRevive)
      rw [hexec]
      refine ⟨fun hst => congrArg Host.Outcome.next (sessRevive_of_aloft hst),
        fun hst => congrArg Host.Outcome.next (sessRevive_of_rebuilding hst), fun hpark hinter hshort hpend hflag => ?_⟩
      have hup := sessRevive_of_promoted (s := s.setPhase c.id .running) (.inl hpark) (.inl hshort) hpend hpark (.inl hflag)
      rw [hinter] at hup
      exact congrArg Host.Outcome.next hup
    case deflate =>
      have hexec : exec (.sessDeflate c.id) s = .next (sessDeflate c x (s.setPhase c.id .running)) :=
        congrArg Host.Outcome.next (begin_onOwned h hitem hlive hx hr sessDeflate)
      rw [hexec]
      exact ⟨fun hst => congrArg Host.Outcome.next (sessDeflate_of_deflated hst), fun hst => congrArg Host.Outcome.next (sessDeflate_of_held hst)⟩
    case rebuild =>
      have hexec : exec (.sessRebuild c.id) s = .next (sessRebuild c x (s.setPhase c.id .running)) :=
        congrArg Host.Outcome.next (begin_onOwned h hitem hlive hx hr sessRebuild)
      rw [hexec]
      exact ⟨fun hlen => congrArg Host.Outcome.next (sessRebuild_of_beyond hlen),
        fun hlen => congrArg Host.Outcome.next (sessRebuild_of_within hlen)⟩
    case cancel =>
      obtain ⟨horph, hfail, -, howner, hiso⟩ := owned_of_admitted hr
      rw [exec_sessCancel_of_mayRun h hlive]
      rw [← all_cmds_setPhase s c.id .running fun _ => rfl] at hfirst
      exact congrArg Host.Outcome.next
        (sessCancel_of_alone (s := s.setPhase c.id .running) hx horph hfail hrecv howner hiso hfirst hsteps)
    case policy =>
      have hready : s.policyReady c = true := by rw [State.policyReady, hseed]; simp
      rw [exec_sessPolicy_of_mayRun h hready, hone, hlive]
      exact congrArg Host.Outcome.next
        ((onOwned_of_admitted (s := s.setPhase c.id .running) hx hr policyBody).trans (policyBody_of_noSeed hseed haloft))
  case query =>
    intro k c s x h hlive hx hmode
    obtain rfl := cmd_id h.1
    have hready : s.queryReady c = true := by rw [State.queryReady, hmode]; rfl
    rw [exec_sessQuery_of_mayRun h hready hlive, sessQuery_of_descriptor (s := s.setPhase c.id .running) hx hmode]
    rfl
  case default =>
    intro k c s h hdflt
    obtain rfl := cmd_id h.1
    have hready : s.policyReady c = true := by rw [State.policyReady, hdflt]; rfl
    rw [exec_sessPolicy_of_mayRun h hready, if_pos hdflt]
    exact ⟨_, rfl, dflt_putDflt _ _ _⟩

end Sys2Proof.Machine
end

section
/-! SUPPORT. The messages of a transfer (R98, R99 steps 1 to 4, R103): an offer at its receiver, what the sender makes of each answer, the
frames at the receiver, an abort at either. -/

namespace Sys2Proof.Machine

/-- Meanings that agree before an evacuation starts its next transfers agree after it does. -/
theorem next_pump_congr {u v : State} (e : u = v) : (.next u.pump : Host.Outcome State Fault Refusal) = .next v.pump := by rw [e]

/-! ### An offer for a handle without a descriptor -/

section
variable {s : State} {h epoch sender ret tiles bytes spoolLen kvLen shape : Nat} {geom : List Nat} {inter evac : Bool}
  (hnew : s.sess h = none)
include hnew

/-- A context without SHIP_IN takes no offer but one of an evacuation. -/
theorem shipOffer_of_noShipIn (hship : s.on .CTL_SES_CTX_SHIP_IN (hCtx h) = false) (hevac : evac = false) :
    shipOffer h epoch sender s.myId ret tiles bytes spoolLen kvLen shape geom inter evac s =
      s.send sender 0 .shipRefuse h epoch sender s.myId [1] := by
  simp [shipOffer, hnew, hship, hevac]

variable (hstay : s.evacuating = false) (hthere : s.fab.gone = false) (hadmit : s.on .CTL_SES_CTX_SHIP_IN (hCtx h) = true ∨ evac = true)
  {n : Nat} (hslot : s.newSlot = some n) (hroom : s.shipRoom (hCtx h) bytes = true) (hshort : (s.isShort && !inter && !evac) = false)
include hstay hthere hadmit hslot hroom hshort

/-- What is left to an offer that finds a descriptor and room is the comparison of its shape. -/
theorem shipOffer_of_room (hgeom : (Map.find s.attn.shapes shape).map Shape.geom ≠ some geom) :
    shipOffer h epoch sender s.myId ret tiles bytes spoolLen kvLen shape geom inter evac s =
      s.send sender 0 .shipRefuse h epoch sender s.myId [4] := by
  have hlet : (!evac && !s.on .CTL_SES_CTX_SHIP_IN (hCtx h)) = false := by rcases hadmit with e | e <;> simp [e]
  simp [shipOffer, hnew, hlet, hstay, hthere, hslot, hroom, hshort, hgeom]

/-- An offer that nothing refuses takes a descriptor, makes it SHIPPING and is accepted. -/
theorem shipOffer_of_fit (hgeom : (Map.find s.attn.shapes shape).map Shape.geom = some geom) :
    let v := s.takeDesc h shape
    let u := ((v.updSess h fun x => { x with
        incoming := true, ret := SState.ofCode ret, kvLen := kvLen, shape := shape, interactive := inter, tiles := [], streamLen := 0
        epoch := max x.epoch epoch, owner := if x.epoch ≤ epoch then sender else x.owner
        xfer := some ⟨false, .receiving, epoch, sender, 16, 0, tiles, bytes, [], [], [], false, 1, v.now, v.now, false, false, false, evac, none,
          none⟩ }).enter h .shipping).refreshShape shape
    shipOffer h epoch sender s.myId ret tiles bytes spoolLen kvLen shape geom inter evac s =
      u.send sender 0 .shipAccept h epoch sender u.myId [] := by
  have hlet : (!evac && !s.on .CTL_SES_CTX_SHIP_IN (hCtx h)) = false := by rcases hadmit with e | e <;> simp [e]
  simp [shipOffer, hnew, hlet, hstay, hthere, hslot, hroom, hshort, hgeom]

end

/-! ### The sender -/

section
variable {s : State} {h epoch sender receiver : Nat} {x : Session} {t : Xfer} (hs : s.sending h epoch sender receiver = some (x, t))
include hs

/-- An accepted sender streams, unless its read of a tile finds it torn. -/
theorem exec_shipAcceptReceived_of_sending (hphase : t.phase = .offered) (torn : Option TornFound) :
    exec (.shipAcceptReceived h epoch sender receiver torn) s = .next (State.pump
      ((s.shipEcc x t torn).elim (s.shipStream h) fun r => s.sendTorn x t r.1 2 r.2.half (x.shipPoint r.1))) := by
  change execShipAcceptReceived h epoch sender receiver torn s = _
  have hoffered : (t.phase != XPhase.offered) = false := by rw [hphase]; rfl
  simp only [execShipAcceptReceived, hs, hoffered, Bool.false_eq_true, if_false]
  cases s.shipEcc x t torn <;> rfl

/-- A refused sender returns to its state with the status of the code. -/
theorem exec_shipRefuseReceived_of_sending (hphase : t.phase = .offered) (hevac : t.evac = false) (reason : Nat) :
    exec (.shipRefuseReceived h epoch sender receiver reason) s = .next (s.shipFail h (refusalOf reason).1 (refusalOf reason).2) := by
  change execShipRefuseReceived h epoch sender receiver reason s = _
  have hoffered : (t.phase != XPhase.offered) = false := by rw [hphase]; rfl
  simp only [execShipRefuseReceived, hs, hoffered, hevac, Bool.false_eq_true, if_false]

/-- What is asked for is sent again: a tile, or the spool beyond them. -/
theorem exec_shipResendReceived_of_sending (hphase : t.phase = .sent) {torn : Option TornFound} (hread : s.shipEcc x t torn = none) (i : Nat) :
    exec (.shipResendReceived h epoch sender receiver i torn) s =
      .next (if i < t.total then s.sendTile x t i else s.sendSpoolFrame x t).pump := by
  change execShipResendReceived h epoch sender receiver i torn s = _
  have hsent : (t.phase != XPhase.sent) = false := by rw [hphase]; rfl
  simp only [execShipResendReceived, hs, hsent, hread, Bool.false_eq_true, if_false]

/-- An abort ends the transfer at its sender: with the tile torn twice, or to be tried again later. -/
theorem shipAborted_of_sending (hr : s.receivingX h epoch sender receiver = none) (reason i kind : Nat) :
    shipAborted h epoch sender receiver reason i kind s =
      if reason = 1 then s.shipTorn x t (t.keys.getD i 0) kind 0 2 else s.shipFail h .retryLater (hintMs 1) := by
  simp only [shipAborted, hr, hs]

end

/-! ### The receiver -/

section
variable {s : State} {x : Session} {t : Xfer}

section
variable {h epoch sender receiver : Nat} (hr : s.receivingX h epoch sender receiver = some (x, t))
include hr

/-- An abort before the commit discards the copy; a receiver whose copy is verified keeps it (R100). -/
theorem shipAborted_of_receiving (reason i kind : Nat) :
    shipAborted h epoch sender receiver reason i kind s = if t.phase = .receiving then s.discardIncoming h else s := by
  simp only [shipAborted, hr]

variable (hphase : t.phase = .receiving)
include hphase

theorem shipFrame_of_spool (es : List (Nat × Nat × Nat)) (seeds : List (Nat × Nat)) (l : List Nat) :
    shipFrame h epoch sender receiver (.spool es seeds l) s = ((s.setSess { x.withSettings l with
      spool := es.map fun (e : Nat × Nat × Nat) => ⟨e.1, e.2.1 = 1, e.2.2⟩, seeds := seeds
      xfer := some { t with spoolGot := true } }).writeSpool h).checkAll h := by
  have hopen : (t.phase != XPhase.receiving) = false := by rw [hphase]; rfl
  simp only [shipFrame, hr, hopen, Bool.false_eq_true, if_false]

theorem shipFrame_of_tile (i key data len crc fill : Nat) (sealed : Bool) :
    shipFrame h epoch sender receiver (.tile i key data len crc fill sealed) s =
      shipTile x t i key ⟨sealed, data, len, crc, true, false, fill, 0⟩ s := by
  have hopen : (t.phase != XPhase.receiving) = false := by rw [hphase]; rfl
  simp only [shipFrame, hr, hopen, Bool.false_eq_true, if_false]

end

/-- The fault that a receiver finds in an arriving tile. -/
def State.arrivingFault (s : State) (x : Session) (key : Nat) (q : Tile) : Option Nat :=
  tileFault (s.shape x.shape) x.shape (keyLayer (s.shape x.shape) key) (keyHead (s.shape x.shape) key) (keyCol (s.shape x.shape) key) x.handle q

section
variable {i key : Nat} {q : Tile} (hi : i < t.total) (hgot : t.got.contains i = false)
include hi hgot

/-- A torn tile is asked for again. -/
theorem shipTile_of_torn {kind : Nat} (hbad : s.arrivingFault x key q = some kind) (hfirst : t.again.contains i = false) : shipTile x t i key q s =
    (s.updXfer x.handle fun t => { t with again := t.again ++ [i] }).send t.peer 0 .shipResend x.handle t.epoch t.peer s.myId [i] := by
  unfold State.arrivingFault at hbad
  simp only [shipTile, hgot, hi.not_ge, hbad, hfirst, decide_false, Bool.or_self, Bool.false_eq_true, if_false]

/-- A tile torn the second time ends the transfer. -/
theorem shipTile_of_tornAgain {kind : Nat} (hbad : s.arrivingFault x key q = some kind) (hagain : t.again.contains i = true) :
    shipTile x t i key q s = s.abortIn x t 1 i kind := by
  unfold State.arrivingFault at hbad
  simp only [shipTile, hgot, hi.not_ge, hbad, hagain, decide_false, Bool.or_self, Bool.false_eq_true, if_false, if_true]

/-- A good tile is placed and counted. -/
theorem shipTile_of_good (hgood : s.arrivingFault x key q = none) (hroom : s.shipRoom (hCtx x.handle) q.len = true)
    (hplaces : s.tileRoom x key q = true) :
    let u := if q.sealed then s.bump .GORE_TILE_CNT_COUNT 6 0 1 else s
    shipTile x t i key q s =
      ((u.placeTile x key q).updXfer x.handle fun t => { t with got := t.got ++ [i], tries := 1, at_ := u.now }).checkAll x.handle := by
  unfold State.arrivingFault at hgood
  simp only [shipTile, hgot, hi.not_ge, hgood, hroom, hplaces, decide_false, Bool.or_self, Bool.not_true, Bool.false_eq_true, if_false]

end
end

/-- Settles O27: the offer, the sender's and the receiver's messages by the lemmas on their meanings. -/
theorem transferMessages : Obligations.TransferMessages := by
  unfold Obligations.TransferMessages
  refine ⟨?offer, ?sender, ?receiver⟩
  case offer =>
    intro h epoch sender ret tiles bytes spoolLen kvLen shape geom inter evac s hnew hstay hthere
    exact ⟨fun n hadmit hslot hroom hshort hgeom =>
        congrArg Host.Outcome.next (shipOffer_of_fit hnew hstay hthere hadmit hslot hroom hshort hgeom),
      fun hship hevac => congrArg Host.Outcome.next (shipOffer_of_noShipIn hnew hship hevac),
      fun n hadmit hslot hroom hshort hgeom =>
        congrArg Host.Outcome.next (shipOffer_of_room hnew hstay hthere hadmit hslot hroom hshort hgeom)⟩
  case sender =>
    intro h epoch sender receiver s x t hs
    refine ⟨fun torn hphase => ⟨fun hread => ?_, fun key f hread => ?_⟩, fun hphase hevac => ?refuse,
      fun i torn hphase hread => exec_shipResendReceived_of_sending hs hphase hread i, fun r i kind hr => ⟨fun hone => ?_, fun hone => ?_⟩⟩
    · rw [exec_shipAcceptReceived_of_sending hs hphase, hread]; rfl
    · rw [exec_shipAcceptReceived_of_sending hs hphase, hread]; rfl
    case refuse =>
      have hrefused := exec_shipRefuseReceived_of_sending hs hphase hevac
      exact ⟨hrefused 1, hrefused 2, hrefused 3, hrefused 4⟩
    · exact next_pump_congr ((shipAborted_of_sending hs hr r i kind).trans (if_neg hone))
    · exact next_pump_congr ((shipAborted_of_sending hs hr r i kind).trans (if_pos hone))
  case receiver =>
    intro h epoch sender receiver s x t hr
    refine ⟨fun r i kind => ⟨fun hphase => ?_, fun hphase => ?_⟩, fun hphase =>
      ⟨fun es seeds l => congrArg Host.Outcome.next (shipFrame_of_spool hr hphase es seeds l),
        fun i key data len crc fill sealed hi hgot => ?tile⟩⟩
    · exact next_pump_congr ((shipAborted_of_receiving hr r i kind).trans (if_pos hphase))
    · exact next_pump_congr ((shipAborted_of_receiving hr r i kind).trans (if_neg hphase))
    case tile =>
      intro q g bad
      have hexec : exec (.shipFrameReceived h epoch sender receiver (.tile i key data len crc fill sealed)) s = .next (shipTile x t i key q s) :=
        congrArg Host.Outcome.next (shipFrame_of_tile hr hphase i key data len crc fill sealed)
      rw [hexec]
      exact ⟨fun kind hbad hfirst => congrArg Host.Outcome.next (shipTile_of_torn hi hgot hbad hfirst),
        fun kind hbad hagain => congrArg Host.Outcome.next (shipTile_of_tornAgain hi hgot hbad hagain),
        fun hgood hroom hplaces => congrArg Host.Outcome.next (shipTile_of_good (q := q) hi hgot hgood hroom hplaces)⟩

end Sys2Proof.Machine
end

section
/-! SUPPORT. The commit of a transfer (R99 steps 5 to 9, R101, R103, R104): COMMIT_REQ and TETHER_QUERY at the home, the replica, its
acknowledgement, and what either party makes of the record. -/

namespace Sys2Proof.Machine

/-! ### COMMIT_REQ at the home -/

section
variable {s : State} {h epoch sender receiver : Nat} {again : Bool} {x : Session} (hx : s.sess h = some x) (hhome : x.isHome = true)
include hx hhome

/-- A repeated request of a committed proposal is acknowledged again. -/
theorem commitReq_of_committed (hepoch : x.epoch = epoch + 1) (howner : x.owner = receiver) :
    commitReq h epoch sender receiver again s = s.sendAcks h (epoch + 1) receiver sender := by
  simp [commitReq, hx, hhome, hepoch, howner]

variable (hopen : ¬(x.epoch = epoch + 1 ∧ x.owner = receiver))
include hopen

/-- A request of the proposal under way waits for it; any other is refused meanwhile. -/
theorem commitReq_of_proposal {p : Proposal} (hp : x.prop = some p) : commitReq h epoch sender receiver again s =
    if p.epoch = epoch + 1 ∧ p.sender = sender ∧ p.receiver = receiver then s else s.sendNaks x epoch sender receiver := by
  have hopen' : ¬(decide (x.epoch = epoch + 1) && decide (x.owner = receiver)) = true := by simpa using hopen
  simp only [commitReq, hx, hhome, hopen', hp, Bool.not_true, Bool.false_eq_true, if_false, Bool.and_eq_true, decide_eq_true_eq, and_assoc]

variable (hp : x.prop = none) (hiso : s.fab.isolated = false)
include hp hiso

/-- A first request that agrees with the record of a session that is not lost is proposed; any other is refused. -/
theorem commitReq_of_noProposal : commitReq h epoch sender receiver again s =
    if x.epoch = epoch && x.owner = sender && !again && x.st != .orphaned && x.st != .failed then s.propose h sender receiver
    else s.sendNaks x epoch sender receiver := by
  have hopen' : ¬(decide (x.epoch = epoch + 1) && decide (x.owner = receiver)) = true := by simpa using hopen
  simp only [commitReq, hx, hhome, hopen', hp, hiso, Bool.not_true, Bool.false_eq_true, if_false]

theorem commitReq_of_agreed (hepoch : x.epoch = epoch) (howner : x.owner = sender) (hfirst : again = false) (horph : x.st ≠ .orphaned)
    (hfail : x.st ≠ .failed) : commitReq h epoch sender receiver again s = s.propose h sender receiver :=
  (commitReq_of_noProposal hx hhome hopen hp hiso).trans (if_pos (by simp [hepoch, howner, hfirst, horph, hfail]))

theorem commitReq_of_differing (hdiffer : x.epoch ≠ epoch ∨ x.owner ≠ sender) :
    commitReq h epoch sender receiver again s = s.sendNaks x epoch sender receiver := by
  refine (commitReq_of_noProposal hx hhome hopen hp hiso).trans (if_neg ?_)
  rcases hdiffer with hepoch | howner
  · simp [hepoch]
  · simp [howner]

end

/-! ### The replica and the home's answer -/

section
variable {s : State} {h : Nat} {x : Session} (hx : s.sess h = some x)
include hx

/-- A replica takes the proposal, unless it knows a later epoch, and acknowledges it. -/
theorem exec_replicateReceived_of_sess (src epoch sender owner : Nat) : exec (.replicateReceived src h epoch sender owner) s =
    .next ((s.setSess { x with mirror_ := true, epoch := max x.epoch epoch, owner := if x.epoch ≤ epoch then owner else x.owner }).send
      src 0 .replicateAck h epoch sender owner []) := by
  change execReplicateReceived src h epoch sender owner s = _
  simp only [execReplicateReceived, hx]

/-- A home with no proposal under way answers a query with its record. -/
theorem exec_tetherQueryReceived_of_home (hhome : x.isHome = true) (hp : x.prop = none) (src : Nat) : exec (.tetherQueryReceived src h) s =
    .next (s.send src 0 .tetherRecord h x.epoch x.owner (b2n (s.hasOwner x.owner)) [b2n x.inherited]) := by
  change execTetherQueryReceived src h s = _
  simp only [execTetherQueryReceived, hx, hhome, hp, Option.isNone_none, Bool.and_self, if_true]

/-- The acknowledged proposal is committed. -/
theorem replicateAck_of_proposal {p : Proposal} (hrec : x.recPending = false) (hp : x.prop = some p) :
    replicateAck h p.epoch p.sender p.receiver s = s.commitProp h := by
  simp only [replicateAck, hx, hrec, hp, decide_true, Bool.and_self, Bool.false_and, Bool.false_eq_true, if_false, if_true]

/-- The acknowledged copy of the record to a new mirror is waited for no longer (R89). -/
theorem replicateAck_of_record (hrec : x.recPending = true) (hhome : x.isHome = true) (hp : x.prop = none) (howner : x.owner_ = true)
    (sender owner : Nat) : replicateAck h x.epoch sender owner s = s.setSess { x with recPending := false } := by
  simp only [replicateAck, hx, hrec, hhome, hp, howner, decide_true, Bool.and_self, Bool.true_or, if_true]

/-! ### The parties to a transfer -/

section
variable {t : Xfer} (ht : x.xfer = some t) {sender receiver : Nat} (hid : s.identOf t t.epoch sender receiver = true)
include ht hid

/-- COMMIT_ACK at the sender: its copy is dropped. -/
theorem commitAck_of_sender (hsender : t.sender = true) (read : Option Nat) :
    commitAck h sender receiver (t.epoch + 1) t.peer read s = s.shipped h (t.epoch + 1) t.peer read := by
  simp [commitAck, hx, ht, hid, hsender]

/-- COMMIT_ACK at the receiver: it becomes the owner. -/
theorem commitAck_of_receiver (hsender : t.sender = false) (read : Option Nat) :
    commitAck h sender receiver (t.epoch + 1) s.myId read s = s.arrive h (t.epoch + 1) := by
  simp [commitAck, hx, ht, hid, hsender]

/-- COMMIT_NAK at a sender that the record still names: the transfer fails. -/
theorem commitNak_of_owner (hsender : t.sender = true) (epoch : Nat) : commitNak h t.epoch sender receiver epoch s.myId s =
    (s.setSess { x with epoch := epoch }).shipFail h .ownerConflict (s.myId % 1024) := by
  simp only [commitNak, hx, ht, hid, hsender, Bool.not_true, Bool.false_eq_true, if_false, if_true]

variable {owner : Nat} (howner : owner ≠ s.myId)
include howner

/-- COMMIT_NAK at a sender that the record names no more: its copy is dropped. -/
theorem commitNak_of_taken (hsender : t.sender = true) (epoch : Nat) :
    commitNak h t.epoch sender receiver epoch owner s = s.shipTaken h epoch owner := by
  simp only [commitNak, hx, ht, hid, hsender, howner, Bool.not_true, Bool.false_eq_true, if_false]

/-- COMMIT_NAK at the receiver: it discards what it received. -/
theorem commitNak_of_receiver (hsender : t.sender = false) (epoch : Nat) : commitNak h t.epoch sender receiver epoch owner s =
    (s.setSess { x with epoch := epoch, owner := owner }).discardIncoming h := by
  simp only [commitNak, hx, ht, hid, hsender, howner, Bool.not_true, Bool.not_false, Bool.false_eq_true, if_false, if_true]

end

/-- A party without a transfer reconciles with the record that it is sent, and what waited for the record completes. -/
theorem tetherRecord_of_noXfer (ht : x.xfer = none) (epoch owner : Nat) (present inheritor : Bool) (read : Option Nat) :
    tetherRecord h epoch owner present inheritor read s =
      (s.reconcile h epoch owner present).1.endResolves h epoch owner present inheritor (s.reconcile h epoch owner present).2 := by
  simp only [tetherRecord, hx, ht]

end

/-- Settles O28: each message by the lemma on its meaning at the home, the replica or a party. -/
theorem commitMessages : Obligations.CommitMessages := by
  unfold Obligations.CommitMessages
  refine ⟨?request, fun src h epoch sender owner s x hx => ⟨exec_replicateReceived_of_sess hx src epoch sender owner,
    fun hhome hp => exec_tetherQueryReceived_of_home hx hhome hp src⟩, ?acknowledged, ?parties,
    fun h epoch owner present inheritor read s x hx ht => next_pump_congr (tetherRecord_of_noXfer hx ht epoch owner present inheritor read)⟩
  case request =>
    intro h epoch sender receiver again s x hx hhome
    have hexec : exec (.commitReqReceived h epoch sender receiver again) s = .next (commitReq h epoch sender receiver again s) := rfl
    rw [hexec]
    refine ⟨fun hepoch howner => congrArg Host.Outcome.next (commitReq_of_committed hx hhome hepoch howner), fun p hp hopen => ?_,
      fun hp hiso hopen => ⟨fun hepoch howner hfirst horph hfail =>
        congrArg Host.Outcome.next (commitReq_of_agreed hx hhome hopen hp hiso hepoch howner hfirst horph hfail),
        fun hdiff => congrArg Host.Outcome.next (commitReq_of_differing hx hhome hopen hp hiso hdiff)⟩⟩
    rw [commitReq_of_proposal hx hhome hopen hp]
    exact ⟨fun hepoch hsender hreceiver => congrArg Host.Outcome.next (if_pos ⟨hepoch, hsender, hreceiver⟩),
      fun hepoch => congrArg Host.Outcome.next (if_neg fun hsame => hepoch hsame.1)⟩
  case acknowledged =>
    intro h epoch sender owner s x hx
    refine ⟨fun p hrec hp hepoch hsender hreceiver => ?_, fun hrec hhome hepoch hp howner => ?_⟩
    · subst hepoch hsender hreceiver
      exact congrArg Host.Outcome.next (replicateAck_of_proposal hx hrec hp)
    · subst hepoch
      exact congrArg Host.Outcome.next (replicateAck_of_record hx hrec hhome hp howner sender owner)
  case parties =>
    intro h sender receiver owner read s x t hx ht hid
    refine ⟨fun hsender howner => ?_, fun hsender howner => ?_, fun epoch hsender howner => ?_,
      fun epoch hsender howner => next_pump_congr (commitNak_of_taken hx ht hid howner hsender epoch),
      fun epoch hsender howner => next_pump_congr (commitNak_of_receiver hx ht hid howner hsender epoch)⟩
    all_goals subst howner
    · exact next_pump_congr (commitAck_of_sender hx ht hid hsender read)
    · exact next_pump_congr (commitAck_of_receiver hx ht hid hsender read)
    · exact next_pump_congr (commitNak_of_owner hx ht hid hsender epoch)

end Sys2Proof.Machine
end

section
/-! SUPPORT. The limits of a tether (R101 to R103) and the spool's other holder (R88, R89, R105): messages sent once more, entries stored and
acknowledged, the mirror that is lost. -/

namespace Sys2Proof.Machine

/-! ### Limits -/

section
variable {s : State} {h : Nat} {x : Session} {t : Xfer} (hx : s.sess h = some x) (ht : x.xfer = some t)
include hx ht

/-- At the home of a session with nothing else waiting, the limit of a message concerns its transfer alone. -/
theorem tetherTimeout_of_xfer (hp : x.prop = none) (hrec : x.recPending = false) (hhome : x.isHome = true) (hgather : x.gathering = false)
    (hdue : t.at_ + s.msgLimit ≤ s.now) : tetherTimeout h s = xferTimeout x t s := by
  simp only [tetherTimeout, hx, ht, hp, hrec, hhome, hgather, hdue, Bool.false_and, Bool.false_eq_true, if_false, if_true]

/-- A sender that was not answered within SHIP_RESOLVE_LIMIT completes its SESS_SHIP, and the transfer stays unresolved. -/
theorem shipResolve_of_due (hsender : t.sender = true) (hphase : t.phase = .sent) (hwait : t.unresolved = false)
    (hdue : t.start + 1000000 * s.rd .CTL_SES_CFG_SHIP_RESOLVE_LIMIT ≤ s.now) :
    shipResolve h s = (s.updXfer h fun t => { t with unresolved := true }).finish t.cmd .busyTether 3 := by
  simp only [shipResolve, hx, ht, hsender, hphase, hwait, hdue, decide_true, Bool.not_false, Bool.and_self, if_true]

end

/-- An offer that was not answered is sent again while tries are left. -/
theorem xferTimeout_of_offered {s : State} {x : Session} {t : Xfer} (hsender : t.sender = true) (hphase : t.phase = .offered)
    (hmore : t.tries < s.rd .CTL_SES_CFG_TETHER_TRIES) :
    xferTimeout x t s = (s.retry x.handle).sendOffer x t ((s.retry x.handle).parkOnArrival t) := by
  simp only [xferTimeout, hsender, hphase, hmore, decide_true, Bool.and_self, if_true]

/-! ### Holders of the spool -/

section
variable {s : State} {h : Nat} {x : Session} (hx : s.sess h = some x)
include hx

/-- A holder stores entries that leave no gap and acknowledges its length. -/
theorem spoolEntries_of_holder (howner : x.owner_ = false) (hin : x.incoming = false) {first : Nat} (hgap : first ≤ x.spool.length)
    (src kvLen : Nat) (es : List (Nat × Nat × Nat)) (seeds : List (Nat × Nat)) : spoolEntries src h first kvLen es seeds s =
      ((s.setSess { x with spool_ := true }).storeSpool { x with spool_ := true } first kvLen es seeds).send src 0 .spoolAck h x.epoch
        (first + es.length) 0 [] := by
  simp only [spoolEntries, hx, howner, hin, gt_iff_lt, hgap.not_gt, decide_false, Bool.or_self, Bool.false_eq_true, if_false]

/-- An acknowledgement lets what waited go on. -/
theorem exec_spoolAckReceived_of_mirrored (hlost : x.mirrorLost = false) (upto : Nat) :
    exec (.spoolAckReceived h upto) s = .next (s.ackUpTo h upto) := by
  change execSpoolAckReceived h upto s = _
  simp only [execSpoolAckReceived, hx, hlost, Bool.false_and, Bool.false_eq_true, if_false]

/-- A mirror that acknowledges every entry is lost no longer; at the home, or without a mirror, nobody needs to be told. -/
theorem exec_spoolAckReceived_of_lost (hlost : x.mirrorLost = true) (howner : x.owner_ = true) (hrec : x.recPending = false) {upto : Nat}
    (hall : x.spool.length ≤ upto) (hhome : x.isHome = true ∨ x.noMirror = true) :
    exec (.spoolAckReceived h upto) s = .next ((s.setSess { x with mirrorLost := false }).ackUpTo h upto) := by
  change execSpoolAckReceived h upto s = _
  have hquiet : (Session.isHome { x with mirrorLost := false } || x.noMirror) = true := by
    change (x.isHome || x.noMirror) = true
    simpa using hhome
  have hclear : (x.mirrorLost && x.owner_ && !x.recPending && decide (upto ≥ x.spool.length)) = true := by simp [hlost, howner, hrec, hall]
  simp only [execSpoolAckReceived, hx, hclear, hquiet, if_true]

/-- A holder answers a gathering with its whole spool. -/
theorem exec_spoolGatherRequestReceived_of_holder (hspool : x.spool_ = true) (src : Nat) : exec (.spoolGatherRequestReceived src h) s =
    .next (s.send src 5 .gatherSpool h x.epoch 0 x.spool.length (x.spoolArgs x.spool)) := by
  change execSpoolGatherRequestReceived src h s = _
  simp only [execSpoolGatherRequestReceived, hx, hspool, if_true]

/-- The end of a gathering stores the spool; an orphan's rebuild starts. -/
theorem gatherDone_of_gathering (hgather : x.gathering = true) (kvLen : Nat) (es : List (Nat × Nat × Nat)) (seeds : List (Nat × Nat)) :
    let u := (s.setSess { x with gathering := false }).storeSpool { x with gathering := false } 0 kvLen es seeds
    gatherDone h kvLen es seeds s = if x.st = .orphaned then u.orphanGo h else u := by
  simp only [gatherDone, hx, hgather, Bool.not_true, Bool.false_eq_true, if_false]

/-! ### A lost mirror -/

/-- A mirror that does not acknowledge in time is lost, counted and told in an event, and what waited goes on. -/
theorem mirrorTimeout_of_due
    (hdue : (s.ses.acks.any fun w => w.dueFor h (2 ^ 64) && decide (w.since + 10000 * s.rd .CTL_SES_CFG_MIRROR_ACK_LIMIT ≤ s.now)) = true)
    (hlost : x.mirrorLost = false) : mirrorTimeout h s =
      ((((s.setSess { x with mirrorLost := true, resentAt := s.now }).bump .CTL_SES_CNT_COUNT 11 0 1).event (hCtx h) 4 h
        (packBytes [(4, x.mirror)])).ackUpTo h (2 ^ 64)) := by
  simp only [mirrorTimeout, hx, hdue, hlost, Bool.false_eq_true, if_false, if_true]

end

/-- A lost mirror is sent the whole spool each period. -/
theorem exec_mirrorResendPeriod_of_due {dt h : Nat} {s : State} {x : Session} (hx : (s.pass dt).sess h = some x) (howner : x.owner_ = true)
    (hlost : x.mirrorLost = true)
    (hdue : x.resentAt + (s.pass dt).msgLimit * (s.pass dt).rd .CTL_SES_CFG_TETHER_TRIES ≤ (s.pass dt).now) :
    exec (.mirrorResendPeriod dt h) s = .next ((s.pass dt).resend x) := by
  change execMirrorResendPeriod dt h s = _
  simp only [execMirrorResendPeriod, hx, howner, hlost, hdue, decide_true, Bool.and_self, if_true]

/-- Settles O29: each limit and each message of a holder by the lemma on its meaning. -/
theorem tetherTimes : Obligations.TetherTimes := by
  unfold Obligations.TetherTimes
  refine ⟨?message, fun dt h s x t hx ht hsender hphase hwait hdue =>
    congrArg Host.Outcome.next (shipResolve_of_due hx ht hsender hphase hwait hdue), ?holder, fun dt h s x hx =>
    ⟨fun hdue hlost => congrArg Host.Outcome.next (mirrorTimeout_of_due hx hdue hlost), fun howner hlost hdue =>
      exec_mirrorResendPeriod_of_due hx howner hlost hdue⟩⟩
  case message =>
    intro dt h s x t hx hp hrec ht hhome hgather hdue hsender hphase hmore
    exact next_pump_congr
      ((tetherTimeout_of_xfer hx ht hp hrec hhome hgather hdue).trans (xferTimeout_of_offered hsender hphase hmore))
  case holder =>
    intro src h s x hx
    refine ⟨fun first kvLen es seeds howner hin hgap => congrArg Host.Outcome.next (spoolEntries_of_holder hx howner hin hgap src kvLen es seeds),
      fun upto hlost => exec_spoolAckReceived_of_mirrored hx hlost upto,
      fun upto hlost howner hrec hall hhome => exec_spoolAckReceived_of_lost hx hlost howner hrec hall hhome,
      fun hspool => exec_spoolGatherRequestReceived_of_holder hx hspool src, fun kvLen es seeds hgather => ?_⟩
    have hdone := gatherDone_of_gathering hx hgather kvLen es seeds
    exact ⟨fun hst => congrArg Host.Outcome.next (hdone.trans (if_neg hst)), fun hst => congrArg Host.Outcome.next (hdone.trans (if_pos hst))⟩

end Sys2Proof.Machine
end

section
/-! SUPPORT. Watermarks of the tiers (R536): a write of TIER_WM whose two pairs are in order stores all four fields, any other write stores none. -/

namespace Sys2Proof.Machine

/-- The fields of TIER_WM. -/
def wmFields : List Fld := [.TIER_WM_T1_HIGH, .TIER_WM_T1_LOW, .TIER_WM_T2_HIGH, .TIER_WM_T2_LOW]

/-- What R536 asks of a word written to TIER_WM: 1 ≤ LOW < HIGH ≤ 100 in both pairs. -/
def WmOrdered (v : Nat) : Prop :=
  1 ≤ fieldOf .TIER_WM_T1_LOW v ∧ fieldOf .TIER_WM_T1_LOW v < fieldOf .TIER_WM_T1_HIGH v ∧ fieldOf .TIER_WM_T1_HIGH v ≤ 100 ∧
    1 ≤ fieldOf .TIER_WM_T2_LOW v ∧ fieldOf .TIER_WM_T2_LOW v < fieldOf .TIER_WM_T2_HIGH v ∧ fieldOf .TIER_WM_T2_HIGH v ≤ 100

section
variable {v : Nat} {s : State}

theorem exec_tierWmWrite_of_on (h : s.blkOn .TIER = true) : exec (.tierWmWrite v) s = .next (wmWrite v s) :=
  congrArg Host.Outcome.next (hostWrite_of_on h (wmWrite v))

theorem wmWrite_of_ordered (h : WmOrdered v) : wmWrite v s = s.putWord wmFields 0 0 v := if_pos h

theorem wmWrite_of_disordered (h : ¬WmOrdered v) : wmWrite v s = s := if_neg h

/-- Pairs in order hold encodings that their fields list, so that R22 drops none of the four (log 186). -/
theorem legal_of_wmOrdered (h : WmOrdered v) {f : Fld} (hf : f ∈ wmFields) : f.legal (fieldOf f v) = true := by
  obtain ⟨hlow1, hpair1, hhigh1, hlow2, hpair2, hhigh2⟩ := h
  simp only [wmFields, List.mem_cons, List.not_mem_nil, or_false] at hf
  rcases hf with rfl | rfl | rfl | rfl <;> exact decide_eq_true (by omega)

theorem rd_wmWrite (h : WmOrdered v) {f : Fld} (hf : f ∈ wmFields) : (wmWrite v s).rd f = fieldOf f v := by
  rw [wmWrite_of_ordered h]
  exact rd_putWord s wmFields 0 0 v (by decide) hf (legal_of_wmOrdered h hf)

theorem onlyRegs_wmWrite (h : WmOrdered v) : OnlyRegs wmFields s (wmWrite v s) := by
  rw [wmWrite_of_ordered h]
  exact onlyRegs_putWord s wmFields 0 0 v (List.Subset.refl _)

end

/-- Settles O12: a word in order is stored whole, each of its four values being one that its field lists; any other word is dropped whole. -/
theorem watermarkWrites : Obligations.WatermarkWrites := by
  unfold Obligations.WatermarkWrites
  refine fun v s hon => ⟨fun hord => ?_, fun hdis => ?_⟩
  · exact ⟨wmWrite v s, exec_tierWmWrite_of_on hon, rd_wmWrite hord (by decide), rd_wmWrite hord (by decide), rd_wmWrite hord (by decide),
      rd_wmWrite hord (by decide), onlyRegs_wmWrite hord⟩
  · rw [exec_tierWmWrite_of_on hon, wmWrite_of_disordered hdis]

end Sys2Proof.Machine
end

section
/-! SUPPORT. Pages on the move (R150, R154 to R157, R160, R164, R167): pressure on T1 and T2, the end of a write and of a read, heat, the loss of
an object, and the limit of a wait for T1. -/

namespace Sys2Proof.Machine

/-! ### Pressure (R154, R157) -/

section
variable {tier r : Nat} {s : State}

/-- A region that would exceed its quota gives pages up until it no longer would. -/
theorem demotionStart_of_overQuota (hquota : s.quota r ≠ 0) (hover : s.quota r < s.regionHeld r + s.wanted r) :
    demotionStart 1 r s =
      (s.press 1 (some r) (fun u => decide (u.regionUse r 1 + s.wanted r ≤ s.quota r)) (s.allPages.length + 1) [] []).vacateAll := by
  simp only [demotionStart, hquota, hover, decide_true, bne_iff_ne, ne_eq, not_false_eq_true, Bool.true_and, Bool.and_true, if_true]

/-- The region of a DEMOTION_START is within its quota, or T2 is meant, which has none. -/
def State.withinQuota (s : State) (tier r : Nat) : Prop :=
  (tier = 1 ∧ (s.quota r = 0 ∨ s.regionHeld r + s.wanted r ≤ s.quota r)) ∨ tier = 2

theorem not_overQuota (hq : s.withinQuota tier r) :
    (decide (tier = 1) && s.quota r != 0 && decide (s.quota r < s.regionHeld r + s.wanted r)) = false := by
  rcases hq with ⟨rfl, hnone | hfits⟩ | rfl
  · simp [hnone]
  · simp [hfits.not_gt]
  · simp

/-- Within the quota, a tier over its high watermark gives pages up until it is at its low one. -/
theorem demotionStart_of_highUse (hq : s.withinQuota tier r) (hhigh : s.highUse tier = true) :
    demotionStart tier r s = (s.press tier none (fun u => u.lowUse tier) (s.allPages.length + 1) [] []).vacateAll := by
  have htier : (decide (tier = 1) || decide (tier = 2)) = true := by
    rcases hq with ⟨h, -⟩ | h <;> simp [h]
  simp only [demotionStart, not_overQuota hq, htier, hhigh, Bool.and_self, Bool.false_eq_true, if_false, if_true]

/-- With no quota, watermark or LEND_SET to meet, a T1 without room for the pages that wait gives as many up. -/
theorem demotionStart_of_t1Full (hquota : s.quota r = 0) (hlow : s.highUse 1 = false) (hlend : s.lendWaits = 0) (hwant : s.wantedAll ≠ 0)
    (hfull : s.t1Cap < s.t1Held + s.wantedAll) : demotionStart 1 r s =
      (s.press 1 none (fun u => decide (u.tierUse 1 + s.wantedAll ≤ u.t1Cap)) (s.allPages.length + 1) [] []).vacateAll := by
  simp [demotionStart, hquota, hlow, hlend, hwant, hfull]

end

theorem demoteAfterExpiry_of_due {s : State} {h : Nat} {x : Session} (hx : s.sess h = some x) (howner : x.owner_ = true) (hst : x.st = .parked)
    (hheat : (s.region (hCtx h)).heat = false) (hpin : x.pin ≠ 1) (hdue : s.demoteDue x = true) :
    demoteAfterExpiry h s = s.demoteSession 1 x := by
  simp [demoteAfterExpiry, hx, howner, hst, hheat, hpin, hdue]

/-! ### The end of a write (R150) -/

/-- After the write of a page of tiles, the small pages of its session may follow it down (R149). -/
def State.sinkAfter (s : State) (ref : PageRef) (x : Page) : State :=
  if ref.index || !(x.kind = .sealed || x.kind = .opened) then s else s.sinkSmall ref.own

section
variable {ref : PageRef} {s : State} {x : Page} {pl : Place} (hx : s.page ref = some x) (hst : x.st = .dirty) (hwriting : x.writing = some pl)
  (hsink : x.sink = false)
include hx hst hwriting hsink

/-- A page that was not written meanwhile becomes CLEAN over the copy. -/
theorem demotionWriteDone_of_once (hagain : x.again = false) : demotionWriteDone ref s =
    ((s.putPage ref { x with st := .clean, lower := some pl, writing := none, sink := false }).sinkAfter ref x).flushStep ref true := by
  simp only [demotionWriteDone, hx, hst, hwriting, hsink, hagain, Bool.false_and, Bool.false_eq_true, if_false, Bool.not_false, State.sinkAfter]

/-- A page that was written again stays DIRTY over the copy, which takes the place of an older one. -/
theorem demotionWriteDone_of_again (hagain : x.again = true) : demotionWriteDone ref s =
    ((((if x.lower = some pl then s else s.releasePlace x.lower).putPage ref
      { x with lower := some pl, writing := none, again := false, sink := false }).sinkAfter ref x).flushStep ref false) := by
  simp only [demotionWriteDone, hx, hst, hwriting, hsink, hagain, Bool.false_and, Bool.false_eq_true, if_false, if_true, Bool.not_true,
    State.sinkAfter]

end

/-! ### The end of a read (R155, R156, R167) -/

section
variable {ref : PageRef} {s : State} {x : Page} (hx : s.page ref = some x) (hreading : x.reading = true)
include hx hreading

/-- A read towards T1, or one that finds its page there, promotes it, or finds poison. -/
theorem exec_promotionReadDone_of_reading (hup : x.up = true ∨ x.upper = .t1) (poison : Bool) : exec (.promotionReadDone ref poison) s = .next
    (let u := if poison then (s.poisoned ref x).winch s else (s.promoted ref).winch s
     if ref.index then u else u.shipGo ref.own) := by
  have hup : (x.up || decide (x.upper = .t1)) = true := by simpa using hup
  change execPromotionReadDone ref poison s = _
  simp only [execPromotionReadDone, promotionReadDone, hx, hreading, hup, Bool.not_true, Bool.false_eq_true, if_false, if_true]

theorem readThroughDone_of_poison : readThroughDone ref true s = (s.poisoned ref x).winch s := by
  simp only [readThroughDone, hx, hreading, Bool.not_true, Bool.false_eq_true, if_false, if_true]

/-- A page read through is staged for the items that wait for it; it keeps its place, or gets a copy one tier up. -/
theorem readThroughDone_of_good : readThroughDone ref false s =
    (let y := { x with reading := false }
     let u := ((((s.stage ref).bump .TIER_CNT_COUNT 7 0 1).putPage ref y).copyUp ref y).winch s
     if ref.index then u else u.shipGo ref.own) := by
  simp only [readThroughDone, hx, hreading, Bool.not_true, Bool.false_eq_true, if_false]

omit hreading in
theorem exec_readThroughDone_of_through (hup : x.up = false) (poison : Bool) :
    exec (.readThroughDone ref poison) s = .next (readThroughDone ref poison s) := by
  change execReadThroughDone ref poison s = _
  simp only [execReadThroughDone, hx, hup, Bool.false_eq_true, if_false]

end

/-! ### The loss of an object (R164) -/

section
variable {o : Nat} (ho : o < 64) (s : State)
include ho

theorem exec_tierAccessTimeout_of_object (dt : Nat) :
    exec (.tierAccessTimeout dt o) s = .next (((s.pass dt).failObject o 1 true).winch (s.pass dt)) :=
  congrArg Host.Outcome.next (if_pos ho)

/-- A fault fails its object; a T2 object whose link is up has signalled viral (log 158). -/
theorem exec_tierObjectFault_of_object (up : Bool) : exec (.tierObjectFault o up) s = .next
    (let t := (s.failObject o 2 up).winch s
     if o < 32 && up && s.on .TIER_OBJ_A_PRESENT o then t.wr .POOL_PORT_STS_VIRAL_IN (s.rd .TIER_OBJ_A_PORT o) 0 1 else t) :=
  congrArg Host.Outcome.next (if_pos ho)

end

/-! ### The limit of a wait for T1 (R160) -/

section
variable {s : State} {h : Nat} {x : Session} (hx : s.sess h = some x)
include hx

/-- With no step item late, a revive that is late and still waits for a page goes back to PARKED, and its command completes with RETRY_LATER. -/
theorem t1Stall_of_revive {c : Cmd} (hitems : ∀ w ∈ s.t1Waits h, s.now < max w x.gainAt + 10000 * s.rd .TIER_STALL_LIMIT_LIMIT)
    (hop : s.runningOp 0x13 h = some c) (hst : x.st = .reviving)
    (hlate : max x.entered x.gainAt + 10000 * s.rd .TIER_STALL_LIMIT_LIMIT ≤ s.now)
    (hwaits : (x.pages.any fun q => q.2.upper != .t1 && q.2.st != .lost && !q.2.reading) = true) :
    t1Stall h s = (((s.enter h .parked).finish c.id .retryLater (hintMs 1)).bump .TIER_CNT_COUNT 14 0 1).winch s := by
  have hnone : ((s.t1Waits h).any fun t => decide (max t x.gainAt + 10000 * s.rd .TIER_STALL_LIMIT_LIMIT ≤ s.now)) = false := by
    simpa using hitems
  simp only [t1Stall, hx, hnone, hop, hst, hlate, hwaits, decide_true, Bool.and_self, Bool.false_eq_true, if_false, if_true]

/-- A step item that is late ends the session's waiting items with RETRY_LATER; with no revive under way that is all. -/
theorem t1Stall_of_item {w : Nat} (hmem : w ∈ s.t1Waits h) (hlate : max w x.gainAt + 10000 * s.rd .TIER_STALL_LIMIT_LIMIT ≤ s.now)
    (hop : ((s.leaveAll h .retryLater (hintMs 1)).bump .TIER_CNT_COUNT 14 0 1).runningOp 0x13 h = none) :
    t1Stall h s = ((s.leaveAll h .retryLater (hintMs 1)).bump .TIER_CNT_COUNT 14 0 1).winch s := by
  have hsome : ((s.t1Waits h).any fun t => decide (max t x.gainAt + 10000 * s.rd .TIER_STALL_LIMIT_LIMIT ≤ s.now)) = true :=
    List.any_eq_true.mpr ⟨w, hmem, decide_eq_true hlate⟩
  simp only [t1Stall, hx, hsome, hop, if_true]
  cases ((s.leaveAll h .retryLater (hintMs 1)).bump .TIER_CNT_COUNT 14 0 1).sess h <;> rfl

end

/-! ### The statement -/

/-- Settles O31: each event by the lemma on its meaning. -/
theorem pageMoves : Obligations.PageMoves := by
  unfold Obligations.PageMoves
  refine ⟨?pressure, fun dt h s x hx howner hst hheat hpin hdue =>
    congrArg (fun u : State => Host.Outcome.next (u.winch (s.pass dt))) (demoteAfterExpiry_of_due hx howner hst hheat hpin hdue), ?written,
    ?read, fun dt s => rfl, fun dt o s ho => exec_tierAccessTimeout_of_object ho s dt, ?fault, ?viral,
    fun dt h s x c hitems hx hop hst hlate hwaits => congrArg Host.Outcome.next (t1Stall_of_revive hx hitems hop hst hlate hwaits),
    fun dt h s x w hx hmem hlate hop => congrArg Host.Outcome.next (t1Stall_of_item hx hmem hlate hop)⟩
  case pressure =>
    intro tier r s
    have hexec {u : State} (e : demotionStart tier r s = u) : exec (.demotionStart tier r) s = .next (u.winch s) :=
      congrArg (fun u : State => Host.Outcome.next (u.winch s)) e
    refine ⟨fun htier hquota hover => ?_, fun hq hhigh => hexec (demotionStart_of_highUse hq hhigh),
      fun htier hquota hlow hlend hwant hfull => ?_⟩
    · subst htier
      exact hexec (demotionStart_of_overQuota hquota hover)
    · subst htier
      exact hexec (demotionStart_of_t1Full hquota hlow hlend hwant hfull)
  case written =>
    intro ref s x pl hx hst hwriting hsink
    have hexec {u : State} (e : demotionWriteDone ref s = u) : exec (.demotionWriteDone ref) s = .next (u.winch s).afterWrite :=
      congrArg (fun u : State => Host.Outcome.next (u.winch s).afterWrite) e
    exact ⟨fun hagain => hexec (demotionWriteDone_of_once hx hst hwriting hsink hagain),
      fun hagain => hexec (demotionWriteDone_of_again hx hst hwriting hsink hagain)⟩
  case read =>
    intro ref s x hx hreading
    refine ⟨fun hup => ⟨exec_promotionReadDone_of_reading hx hreading hup false, exec_promotionReadDone_of_reading hx hreading hup true⟩,
      fun hup => ⟨?_, ?_⟩⟩
    · rw [exec_readThroughDone_of_through hx hup, readThroughDone_of_poison hx hreading]
    · rw [exec_readThroughDone_of_through hx hup, readThroughDone_of_good hx hreading]
  case fault =>
    intro o up s ho hquiet
    rw [exec_tierObjectFault_of_object ho, hquiet]
    rfl
  case viral =>
    intro o s ho hpresent
    rw [exec_tierObjectFault_of_object (by omega), decide_eq_true ho, hpresent]
    rfl

end Sys2Proof.Machine
end

section
/-! SUPPORT. Controls of the tiers (R142, R144, R168 to R170, R175, R176): wear budgets, drives that come back, TIER_POLICY, TIER_FLUSH and writes
of TIER_OBJ_A. -/

namespace Sys2Proof.Machine

/-! ### Wear (R169, R170) -/

/-- A second of HTI_TIME gives each drive its share of the day's cap and carries the remainder; the budget is an integer that may be negative. -/
theorem wearTick_eq (s : State) : wearTick s = s.tier.wear.foldl (fun s p => s.setWear p.1 { p.2 with
    budget := min (p.2.budget + (p.2.acc + s.rd .TIER_DRV_CAP_GIB_DAY p.1 * 1024 * 65536) / 86400) (s.rd .TIER_DRV_CAP_GIB_DAY p.1 * 1024 * 65536)
    acc := (p.2.acc + s.rd .TIER_DRV_CAP_GIB_DAY p.1 * 1024 * 65536) % 86400 }) s := by
  simp only [wearTick, State.capUnits, Int.natCast_ediv, Int.natCast_add, Int.natCast_mul, Int.cast_ofNat_Int]

section
variable {s : State} {port : Nat}

theorem exec_flashControllerEnumerated_of_up (hport : port < 8) (hup : s.driveUp port = true) (ident : Nat) (spaces : List NameSpace) :
    exec (.flashControllerEnumerated port ident spaces) s = .next (flashEnumerated port ident spaces s) :=
  congrArg Host.Outcome.next (if_pos (by simp [hport, hup]))

/-- A known drive comes back with its saved wear; without a usable namespace its four objects are gone. -/
theorem flashEnumerated_of_known {ident : Nat} (hhas : Map.has s.tier.wear port = true) (hident : (s.wear port).sIdent = ident) :
    flashEnumerated port ident [] s =
      (([0, 1, 2, 3].foldl (fun s n => s.loseObject (32 + 4 * port + n)) (s.setWear port { s.wear port with
        ident := ident, budget := (s.wear port).sBudget, acc := (s.wear port).sAcc, written := (s.wear port).sWritten })).refreshCaps.unadmit
          .flash port) := by
  have hknown : (Map.has s.tier.wear port && decide ((s.wear port).sIdent = ident)) = true := by simp [hhas, hident]
  have hnone : ((sortBy (fun (a b : NameSpace) => decide (a.nsid ≤ b.nsid)) (List.filter NameSpace.usable [])).take 4) = [] := rfl
  have hall : (List.range 4).drop 0 = [0, 1, 2, 3] := rfl
  simp only [flashEnumerated, hknown, hnone, hall, List.length_nil, List.zipIdx_nil, List.foldl_nil, if_true]

end

/-! ### TIER_POLICY and TIER_FLUSH (R175, R176) -/

section
variable {s : State} {k : Nat} {c : Cmd}

theorem exec_tierPolicy_of_mayRun (h : s.mayRun k 0x53 c) (hlive : s.tierLive c = true) :
    exec (.tierPolicy k) s = .next (tierPolicy c (s.setPhase k .running)) :=
  congrArg Host.Outcome.next (begin_of_mayRun h tierPolicy rfl rfl hlive)

theorem exec_tierFlush_of_mayRun (h : s.mayRun k 0x54 c) (hready : s.flushReady c = true) (hlive : s.tierLive c = true) :
    exec (.tierFlush k) s = .next (tierFlush c (s.setPhase k .running)) :=
  congrArg Host.Outcome.next (begin_of_mayRun h tierFlush rfl hready hlive)

/-- Starting a command changes no session's owner. -/
theorem tierOwner_setPhase (s : State) (k : Nat) (p : CmdPhase) (c : Cmd) : (s.setPhase k p).tierOwner c = s.tierOwner c := rfl

section
variable (howner : s.tierOwner c = none)
include howner

/-- With scope 0, TIER_POLICY sets the context's region and its defaults. -/
theorem tierPolicy_of_region (hscope : Desc.byte c.desc 16 = 0) :
    let t := s.setRegion c.ctx (regionWith (s.region c.ctx) c.desc)
    let u := t.setDflt c.ctx { t.dflt c.ctx with
      pin := Desc.byte c.desc 18, neverT3 := bitAt (Desc.byte c.desc 19) 0, demoteAfter := Desc.num c.desc 20 4 }
    let os := t.ownersOf c.ctx
    tierPolicy c s = (u.finish c.id .ok 0 (u.pagesIn os 1) (u.pagesIn os 2) (min (u.pagesIn os 3) 0xFFFFFFFF)).winch s := by
  simp only [tierPolicy, howner, hscope]

/-- With scope 2, TIER_POLICY sets the settings of the session that it names. -/
theorem tierPolicy_of_session (hscope : Desc.byte c.desc 16 = 2) :
    let u := s.updSess (Desc.handle c.desc) fun x =>
      { x with pin := Desc.byte c.desc 18, neverT3 := bitAt (Desc.byte c.desc 19) 0, demoteAfter := Desc.num c.desc 20 4 }
    let os := [(false, Desc.handle c.desc)]
    tierPolicy c s = (u.finish c.id .ok 0 (u.pagesIn os 1) (u.pagesIn os 2) (min (u.pagesIn os 3) 0xFFFFFFFF)).winch s := by
  simp only [tierPolicy, howner, hscope]

/-- TIER_FLUSH starts the writes of the pages that it covers, and completes at once where none waits. -/
theorem tierFlush_of_owned :
    let f : FlushRun := ⟨c.id, Desc.flag c.desc 9, (s.flushOwners c).map fun o => ownerCode o.1 o.2, [], 0, 0, 0, 0⟩
    let a := (s.flushOwners c).foldl (fun a o => a.1.flushOwner a.2 (Desc.byte c.desc 17) o.1 o.2) (s, f)
    let u := { a.1 with tier := { a.1.tier with flushes := a.1.tier.flushes ++ [a.2] } }
    tierFlush c s = if a.2.wait.isEmpty then u.endFlush a.2 else u := by
  simp only [tierFlush, howner]

end
end

/-! ### TIER_OBJ_A (R168) -/

/-- The state once FAILED of a written TIER_OBJ_A has had its W1C effect. -/
def State.objCleared (o v : Nat) (s : State) : State :=
  if bitAt v 3 && s.on .TIER_OBJ_A_FAILED o then
    (if o ≥ 32 then s.emit (.deallocAll o) else s).wr .TIER_OBJ_A_FAILED o 0 0
  else s

/-- What a write of TIER_OBJ_A leaves in EN: bit 2, but 0 for a T2 object that is a window. -/
def State.objEn (o v : Nat) (s : State) : Bool := bitAt v 2 && !(o < 32 && s.on .POOL_OBJ_WINDOW o)

/-- The state once EN of a written TIER_OBJ_A is stored too. -/
def State.objStored (o v : Nat) (s : State) : State := (s.objCleared o v).wr .TIER_OBJ_A_EN o 0 (b2n ((s.objCleared o v).objEn o v))

section
variable (o v : Nat) (s : State)

/-- After its fields are stored, a write of TIER_OBJ_A starts or stops vacating and brings the readiness bits up to date. -/
theorem keeps_objStored : Keeps [.ses, .tier, .TIER_DRV, .TIER_CNT, .CTL_READY] (s.objStored o v) (objWrite o v s) := by
  unfold objWrite
  extract_lets s1 en was s2 tables s3
  have hvacating : Keeps [.ses, .tier, .TIER_DRV, .TIER_CNT, .CTL_READY] s2 s3 := (Keeps.refl _ s2).other (htier := .inr (by decide))
  exact keeps_refreshTierReady (by decide) (keeps_ite (fun _ => keeps_vacate (by decide) hvacating) fun _ => hvacating)

theorem rd_objCleared_field {f : Fld} (hf : f ≠ .TIER_OBJ_A_FAILED) (i j : Nat) : (s.objCleared o v).rd f i j = s.rd f i j := by
  unfold State.objCleared
  split
  · rw [rd_wr_field _ _ _ _ _ _ hf.symm]
    split <;> rfl
  · rfl

/-- A 1 written to FAILED clears it. -/
theorem rd_objCleared_failed (hv : bitAt v 3 = true) : (s.objCleared o v).rd .TIER_OBJ_A_FAILED o = 0 := by
  unfold State.objCleared
  split
  · exact rd_wr_same ..
  · next hoff => simpa [hv, State.on] using hoff

theorem objCleared_of_zero (hv : bitAt v 3 = false) : s.objCleared o v = s := if_neg (by simp [hv])

theorem objEn_objCleared : (s.objCleared o v).objEn o v = s.objEn o v := by
  unfold State.objEn State.on
  rw [rd_objCleared_field o v s (by decide)]

/-- A write of TIER_OBJ_A leaves EN as the word and the window say, and FAILED as its W1C effect does. -/
theorem rd_objWrite_en : (objWrite o v s).rd .TIER_OBJ_A_EN o = b2n (s.objEn o v) := by
  rw [(keeps_objStored o v s).rd .TIER_OBJ_A_EN (by decide), State.objStored, rd_wr_same, objEn_objCleared]
  cases s.objEn o v <;> rfl

theorem rd_objWrite_failed : (objWrite o v s).rd .TIER_OBJ_A_FAILED o = (s.objCleared o v).rd .TIER_OBJ_A_FAILED o := by
  rw [(keeps_objStored o v s).rd .TIER_OBJ_A_FAILED (by decide), State.objStored, rd_wr_field _ _ _ _ _ _ (by decide)]

variable {o v s} (ho : o < 64) (hon : s.blkOn .TIER = true)
include ho hon

theorem exec_tierObjFailedClear_of_on (hv : bitAt v 3 = true) :
    exec (.tierObjFailedClear o v) s = .next (objWrite o v (s.latched (Fld.bar0 .TIER_OBJ_A_PRESENT o 0) v)) :=
  congrArg Host.Outcome.next ((if_pos (by simp [ho, hv])).trans (hostWrite64_of_on (r := .TIER_OBJ_A_PRESENT) o v (objWrite o v) hon))

theorem exec_tierObjEnWrite_of_on (hv : bitAt v 3 = false) :
    exec (.tierObjEnWrite o v) s = .next (objWrite o v (s.latched (Fld.bar0 .TIER_OBJ_A_PRESENT o 0) v)) :=
  congrArg Host.Outcome.next ((if_pos (by simp [ho, hv])).trans (hostWrite64_of_on (r := .TIER_OBJ_A_PRESENT) o v (objWrite o v) hon))

end

/-! ### The statement -/

/-- Settles O32: each control by the lemma on its meaning. -/
theorem tierControls : Obligations.TierControls := by
  unfold Obligations.TierControls
  refine ⟨fun dt s => congrArg Host.Outcome.next (wearTick_eq (s.pass dt)), fun dt s => rfl, fun port ident s hport hup =>
    ⟨exec_flashControllerEnumerated_of_up hport hup ident, fun hhas hident => ?drive⟩, fun k c s h hlive howner => ?policy,
    fun k c s h hready hlive howner => ?flush, fun o v s ho hon => ?object⟩
  case drive => rw [exec_flashControllerEnumerated_of_up hport hup, flashEnumerated_of_known hhas hident]
  case policy =>
    obtain rfl := cmd_id h.1
    rw [exec_tierPolicy_of_mayRun h hlive]
    rw [← tierOwner_setPhase s c.id .running c] at howner
    exact ⟨fun hscope => congrArg Host.Outcome.next (tierPolicy_of_region howner hscope),
      fun hscope => congrArg Host.Outcome.next (tierPolicy_of_session howner hscope)⟩
  case flush =>
    obtain rfl := cmd_id h.1
    rw [exec_tierFlush_of_mayRun h hready hlive]
    rw [← tierOwner_setPhase s c.id .running c] at howner
    exact congrArg Host.Outcome.next (tierFlush_of_owned howner)
  case object =>
    refine ⟨fun hv => ⟨_, exec_tierObjFailedClear_of_on ho hon hv, ?_, rd_objWrite_en o v _⟩,
      fun hv => ⟨_, exec_tierObjEnWrite_of_on ho hon hv, ?_, rd_objWrite_en o v _⟩⟩
    · rw [rd_objWrite_failed, rd_objCleared_failed o v _ hv]
    · rw [rd_objWrite_failed, objCleared_of_zero o v _ hv, rd_latched]

end Sys2Proof.Machine
end

section
/-! SUPPORT. The mix of the MIXED role (R200): a write of GORE_ROLE_MIX whose three fields sum to 100 stores all of them, any other write is
counted in CFG_REJECTED and stores none. -/

namespace Sys2Proof.Machine

/-- The fields of GORE_ROLE_MIX. -/
def mixFields : List Fld := [.GORE_ROLE_MIX_ATTN, .GORE_ROLE_MIX_ASSIST, .GORE_ROLE_MIX_RECALL]

/-- What R200 asks of a word written to GORE_ROLE_MIX. -/
def MixWhole (v : Nat) : Prop := bitsOf v 6 0 + bitsOf v 14 8 + bitsOf v 22 16 = 100

section
variable {v : Nat} {s : State}

theorem exec_goreRoleMixWrite_of_on (h : s.blkOn .GORE = true) : exec (.goreRoleMixWrite v) s = .next (goreRoleMix v s) :=
  congrArg Host.Outcome.next (hostWrite_of_on h (goreRoleMix v))

theorem goreRoleMix_of_whole (h : MixWhole v) : goreRoleMix v s = (s.putWord mixFields 0 0 v).refreshFloors := if_pos h

theorem goreRoleMix_of_unequal (h : ¬MixWhole v) : goreRoleMix v s = s.bump .GORE_CNT_COUNT 13 0 1 := if_neg h

/-- No part of a mix that sums to 100 exceeds 100, so that R22 drops none of the three fields. -/
theorem legal_of_mixWhole (h : MixWhole v) {f : Fld} (hf : f ∈ mixFields) : f.legal (fieldOf f v) = true := by
  have hattn : fieldOf .GORE_ROLE_MIX_ATTN v = bitsOf v 6 0 := rfl
  have hassist : fieldOf .GORE_ROLE_MIX_ASSIST v = bitsOf v 14 8 := rfl
  have hrecall : fieldOf .GORE_ROLE_MIX_RECALL v = bitsOf v 22 16 := rfl
  unfold MixWhole at h
  simp only [mixFields, List.mem_cons, List.not_mem_nil, or_false] at hf
  rcases hf with rfl | rfl | rfl <;> exact decide_eq_true (by omega)

/-- The floors that follow from a mix are shown in CTL_ADM_STS; the mix itself reads as written. -/
theorem rd_goreRoleMix (h : MixWhole v) {f : Fld} (hf : f ∈ mixFields) : (goreRoleMix v s).rd f = fieldOf f v := by
  have hkept : f.piece ∉ [Piece.fleet, .CTL_ADM] := by
    simp only [mixFields, List.mem_cons, List.not_mem_nil, or_false] at hf
    rcases hf with rfl | rfl | rfl <;> decide
  rw [goreRoleMix_of_whole h, (keeps_refreshFloors (List.Subset.refl _) (.refl _ _)).rd f hkept]
  exact rd_putWord s mixFields 0 0 v (by decide) hf (legal_of_mixWhole h hf)

end

/-- Settles O11: a mix that sums to 100 is stored whole, each part being one that its field lists; any other is counted and dropped. -/
theorem roleMixWrites : Obligations.RoleMixWrites := by
  unfold Obligations.RoleMixWrites
  refine fun v s hon => ⟨fun hsum => ?_, fun hsum => ⟨goreRoleMix v s, exec_goreRoleMixWrite_of_on hon, rd_goreRoleMix hsum (by decide),
    rd_goreRoleMix hsum (by decide), rd_goreRoleMix hsum (by decide)⟩⟩
  rw [exec_goreRoleMixWrite_of_on hon, goreRoleMix_of_unequal hsum]

end Sys2Proof.Machine
end

section
/-! SUPPORT. Gores at work (R182 to R189, R195, R196): tile boundaries, yields and ends of items, pre-emption for a starved class, panels that are
gated and woken, gores and panels that fail. -/

namespace Sys2Proof.Machine

/-! ### Items on a gore (R186, R188, R189) -/

/-- What the end of an item of a kind does to the items, before the winch gives out the gores again. -/
def State.endItem (s : State) (i : Item) : IKind → State
  | .append => appendEnd i s
  | .attnSeg => segEnd i s
  | .seal => sealEnd i s
  | .unseal => unsealEnd i s
  | .scan => s.scanEnd i
  | .helperLayer => s.helperEnd i
  | .attnMerge => s.dropItem i

section
variable {g : Nat} {s : State} {i : Item} (hi : s.itemOn g = some i)
include hi

/-- A tile boundary counts a tile and starts the item's next one. -/
theorem workTileEnd_of_goesOn (hpre : i.preempt = false) :
    let u := s.bump .GORE_CNT_COUNT 3 0 1
    workTileEnd g none s = u.mapItems (fun j => decide (j.id = i.id)) fun j => { j with tileAt := u.now } := by
  simp only [workTileEnd, hi, hpre, Bool.false_eq_true, if_false]

/-- A pre-empted item is saved at its tile boundary. -/
theorem workTileEnd_of_preempted (hpre : i.preempt = true) :
    workTileEnd g none s = ((s.bump .GORE_CNT_COUNT 3 0 1).saveItem i).winch s := by
  simp only [workTileEnd, hi, hpre, if_true]

/-- An uncorrectable error on a tile that attention reads, or a seal, ends the item; the record's POINT is 0. -/
theorem workTileEnd_of_torn {t : TornFound} (ht : t.kind = 2) (hkind : i.kind = .attnSeg ∨ i.kind = .seal) :
    workTileEnd g (some t) s = ((s.bump .GORE_CNT_COUNT 3 0 1).tornItem i t.column i.layer i.head 2 t.half 0).winch s := by
  rcases hkind with hkind | hkind <;> simp [workTileEnd, hi, ht, hkind]

/-- An item whose next tile's inputs have not come for longer than YIELD_US leaves its gore. -/
theorem itemYield_of_late (hlate : i.tileAt + 100 * s.rd .GORE_CFG_YIELD_US < s.now) :
    itemYield g s =
      ((s.release i fun j => some { j with st := .waiting, preempt := false, readyAt := s.now, saved := true, staged := [] }).bump
        .GORE_CNT_COUNT 5 0 1).winch s := by
  simp only [itemYield, hi, hlate, if_true]

/-- An item that may end counts its last tile and ends by its kind. -/
theorem itemEnd_of_mayEnd (hend : s.mayEnd i = true) {k : IKind} (hkind : i.kind = k) :
    itemEnd g s = ((s.bump .GORE_CNT_COUNT 3 0 1).endItem i k).winch s := by
  simp only [itemEnd, hi, hend, Bool.not_true, Bool.false_eq_true, if_false, hkind]
  cases k <;> rfl

end

/-- An item whose pages have come may be given a gore, a saved one with its state. -/
theorem itemInputsArrive_of_here {n : Nat} {s : State} {i : Item} (hi : s.gore.items.find? (fun i => decide (i.id = n)) = some i)
    (hwaits : i.st = .waiting) (hhere : i.pages.all (s.pageHere i) = true) :
    itemInputsArrive n s = (s.mapItems (fun j => decide (j.id = n)) fun j =>
      { j with st := if j.saved then .saved else .ready, readyAt := s.now }).winch s := by
  simp only [itemInputsArrive, hi, hwaits, hhere, decide_true, Bool.and_self, if_true]

/-! ### Pre-emption (R196) -/

/-- An item of a class has been dispatchable for longer than PREEMPT_US, with its context below its CAP. -/
def State.waitedLong (s : State) (k : WClass) : Bool :=
  s.gore.items.any fun i => decide (i.cls = k) && i.dispatchable && s.capOk i.ctx &&
    decide (i.readyAt + 100 * s.rd .GORE_CFG_PREEMPT_US < s.now)

/-- Pre-empted gores that have not been given up yet. -/
def State.preempting (s : State) : Nat := (s.gore.items.filter fun i => decide (i.st = .running) && i.preempt).length

/-- A starved class that waited asks for the first gore, in item order, of the most over-served class (log 22). -/
theorem preemptTimeout_of_starved {n : Nat} {s : State} {k v : WClass} {i : Item} (hk : classes[n]? = some k) (hstarved : s.starved k = true)
    (hwaited : s.waitedLong k = true) (hturn : (Map.find s.gore.preAt k.idx).all (fun t => decide (t + 100 ≤ s.now)) = true)
    (hlacks : s.held k + s.preempting < s.avail * s.floor k / 100) (hover : s.overServed = some v) (hother : v ≠ k)
    (hi : s.gore.items.find? (fun i => decide (i.st = .running) && decide (i.cls = v) && !i.preempt) = some i) :
    let u := s.mapItems (fun j => decide (j.id = i.id)) fun j => { j with preempt := true }
    preemptTimeout n s = { u with gore := { u.gore with preAt := Map.put u.gore.preAt k.idx u.now } } := by
  unfold State.waitedLong at hwaited
  unfold State.preempting at hlacks
  cases hlast : Map.find s.gore.preAt k.idx with
  | none => simp only [preemptTimeout, hk, hstarved, hwaited, hlast, hlacks, hover, hother, hi, decide_true, Bool.and_self, if_true, if_false]
  | some t =>
    rw [hlast] at hturn
    have hturn : t + 100 ≤ s.now := of_decide_eq_true hturn
    simp only [preemptTimeout, hk, hstarved, hwaited, hlast, hturn, hlacks, hover, hother, hi, decide_true, Bool.and_self, if_true, if_false]

/-! ### Panels (R182) -/

/-- The state once a panel is gated: its gores' stores are lost, and the gating is counted. -/
def State.gated (s : State) (p : Nat) : State :=
  let u := s.wr .GORE_PANEL_GATED p 0 1
  ({ u with gore := { u.gore with lastCtx := u.gore.lastCtx.filter fun q => panelOf q.1 != p } } : State).bump .GORE_CNT_COUNT 9 0 1

section
variable {p : Nat} {s : State}

/-- A ready panel without an item is gated once it has been idle for IDLE_US and no class waits for a gore. -/
theorem panelIdleGate_of_idle (hp : p < 30) (hen : s.on .GORE_GATE_EN = true) (hready : s.bit .CTL_READY_GORES p = true)
    (hopen : s.on .GORE_PANEL_GATED p = false) (hfree : (s.gore.items.any fun i => i.onPanel p) = false)
    (hidle : (Map.find s.gore.busyAt p).getD 0 + 100 * s.rd .GORE_GATE_IDLE_US ≤ s.now) (hnone : s.pickClass = none) :
    panelIdleGate p s = (s.gated p).refreshPm := by
  have hp : p < Config.panels := hp
  simp only [panelIdleGate, hp, hen, hready, hopen, hfree, hidle.not_gt, hnone, decide_true, decide_false, Bool.or_self, Bool.not_false,
    Option.isNone_none, Bool.and_self, if_true, State.gated]

theorem rd_gated (p : Nat) (s : State) : (s.gated p).refreshPm.rd .GORE_PANEL_GATED p = 1 := by
  rw [(keeps_refreshPm (List.Subset.refl _) (.refl _ _)).rd .GORE_PANEL_GATED (by decide)]
  exact (rd_bump_field _ _ _ _ _ _ (by decide)).trans (rd_wr_same s .GORE_PANEL_GATED p 0 1)

theorem items_gated (p : Nat) (s : State) : (s.gated p).refreshPm.gore.items = s.gore.items := by
  rw [(keeps_refreshPm (List.Subset.refl _) (.refl _ _)).gore (by decide)]
  rfl

/-- A panel that the drogue has admitted takes items again. -/
theorem panelReady_of_admitted (hadm : s.isAdmitted .panel p = true) (hready : s.bit .CTL_READY_GORES p = true) :
    let u := s.unadmit .panel p
    panelReady p s = ((({ u with gore := { u.gore with
      waking := setBitN u.gore.waking p false, busyAt := Map.put u.gore.busyAt p u.now } } : State).wr .GORE_PANEL_GATED p 0 0).refreshPm.winch s) :=
  if_pos (by rw [hadm, hready]; rfl)

end

/-! ### Gores and panels that fail (R184, R185) -/

/-- The state once a gore is marked as fenced and counted. -/
def State.fenced (s : State) (g : Nat) : State :=
  (s.wr .GORE_PANEL_FENCED (g / 40) 0 (setBitN (s.rd .GORE_PANEL_FENCED (g / 40)) (g % 40) true)).bump .GORE_CNT_COUNT 10 0 1

section
variable {g : Nat} {s : State} (hunf : bitAt (s.rd .GORE_PANEL_FENCED (g / 40)) (g % 40) = false)
include hunf

theorem goreFence_of_free (hfree : s.itemOn g = none) (c : Nat) :
    goreFence g c s = (((s.fenced g).refreshPanel (g / 40)).winch s).checkPanels := by
  simp only [goreFence, panelOf, goreX, hunf, hfree, Bool.false_eq_true, if_false, State.fenced]

/-- The item that a fenced gore held is recorded as a fault and rerun. -/
theorem goreFence_of_held {i : Item} (hi : s.itemOn g = some i) (c : Nat) :
    goreFence g c s = (((((s.fenced g).goreFault i g c).rerunItem i).refreshPanel (g / 40)).winch s).checkPanels := by
  simp only [goreFence, panelOf, goreX, hunf, hi, Bool.false_eq_true, if_false, State.fenced]

end

theorem exec_goreFence_of_gore {g c : Nat} {s : State} (hg : g < 1200) (hc : c < 3) (hconf : s.boot.stage = .configured) :
    exec (.goreFence g c) s = .next (goreFence g c s) :=
  congrArg Host.Outcome.next (if_pos (by rw [hconf, decide_eq_true (show g < Config.gores from hg), decide_eq_true hc]; rfl))

theorem exec_panelPowerFault_of_panel {p : Nat} {s : State} (hp : p < 30) (hconf : s.boot.stage = .configured) :
    exec (.panelPowerFault p) s = .next (panelPowerFault p s) :=
  congrArg Host.Outcome.next (if_pos (by rw [hconf, decide_eq_true (show p < Config.panels from hp)]; rfl))

/-- A panel that loses power is marked, and the items that its gores held are recorded as faults and rerun. -/
theorem panelPowerFault_of_powered {p : Nat} {s : State} (hpow : s.on .GORE_PANEL_FAULT p = false) : panelPowerFault p s =
    (((s.gore.items.filter fun i => decide (i.st = .running) && decide (panelOf i.gore = p)).foldl (fun s i => (s.goreFault i i.gore 3).rerunItem i)
      (((s.wr .GORE_PANEL_FAULT p 0 1).wr .RING_LED_FAULT 0 0 3).refreshPanel p)).winch s).checkPanels := by
  simp only [panelPowerFault, hpow, Bool.false_eq_true, if_false]

/-! ### The statement -/

/-- Settles O30: each event by the lemma on its meaning. -/
theorem winchEvents : Obligations.WinchEvents := by
  unfold Obligations.WinchEvents
  refine ⟨?onGore, fun n s i hi hwaits hhere => congrArg Host.Outcome.next (itemInputsArrive_of_here hi hwaits hhere),
    fun dt n s k v i hk hstarved hwaited hturn hlacks hover hother hi =>
      congrArg Host.Outcome.next (preemptTimeout_of_starved hk hstarved hwaited hturn hlacks hover hother hi),
    fun dt p s hp hen hready hopen hfree hidle hnone =>
      ⟨_, congrArg Host.Outcome.next (panelIdleGate_of_idle hp hen hready hopen hfree hidle hnone), rd_gated p _, items_gated p _⟩,
    fun p s hadm hready => congrArg Host.Outcome.next (panelReady_of_admitted hadm hready), ?fence,
    fun p s hp hconf hpow => (exec_panelPowerFault_of_panel hp hconf).trans (congrArg Host.Outcome.next (panelPowerFault_of_powered hpow))⟩
  case onGore =>
    intro dt g s i hi p u
    refine ⟨fun hpre => congrArg Host.Outcome.next (workTileEnd_of_goesOn hi hpre),
      fun hpre => congrArg Host.Outcome.next (workTileEnd_of_preempted hi hpre),
      fun t ht hkind => congrArg Host.Outcome.next (workTileEnd_of_torn hi ht hkind),
      fun hlate => congrArg Host.Outcome.next (itemYield_of_late hi hlate), fun hend => ?_⟩
    have hdone {k : IKind} (hkind : i.kind = k) : exec (.itemEnd dt g) s = .next ((u.endItem i k).winch p) :=
      congrArg Host.Outcome.next (itemEnd_of_mayEnd hi hend hkind)
    exact ⟨hdone, hdone, hdone, hdone, hdone, hdone, hdone⟩
  case fence =>
    intro g c s hg hc hconf hunf u
    rw [exec_goreFence_of_gore hg hc hconf]
    exact ⟨fun hfree => congrArg Host.Outcome.next (goreFence_of_free hunf hfree c),
      fun i hi => congrArg Host.Outcome.next (goreFence_of_held hunf hi c)⟩

end Sys2Proof.Machine
end

section
/-! SUPPORT. Batch steps (R190 to R192, R223 to R232): their admission, kicks, layers, the ends of their items and their own. -/

namespace Sys2Proof.Machine

/-! ### STEP_SUBMIT (R190, R223 to R226) -/

/-- The entries that STEP_SUBMIT makes of the handles in its list. -/
def State.entriesOf (s : State) (c : Cmd) (l : List Nat) : List SEntry :=
  s.makeEntries c.ctx (Desc.byte c.desc 18) (Desc.byte c.desc 19) s.hti.nextCmd [] ((List.range (Desc.num c.desc 20 2)).map fun i => l.getD i 0)

/-- The step that STEP_SUBMIT forms on a shape: its grades are those of the command's acceptance (R119). -/
def State.stepOf (s : State) (c : Cmd) (g : Shape) (l : List Nat) : Step :=
  ⟨s.attn.nextStep, s.hti.nextCmd, c.ctx, Desc.num c.desc 16 2, c.id, c.pair, Desc.byte c.desc 18,
    { g with grades := match c.shape with | some a => a.grades | none => g.grades }, s.rd .GORE_CFG_SEG_TILES,
    Desc.byte c.desc 19, Desc.byte c.desc 22, Desc.num c.desc 32 8, Desc.num c.desc 40 4, Desc.num c.desc 48 8, Desc.num c.desc 56 8,
    Desc.flag c.desc 8, s.now, 0, 0, s.now, false, s.entriesOf c l, [], none⟩

/-- The state once a step is in flight and counted. -/
def State.inFlight (s : State) (t : Step) : State :=
  ({ s with attn := { s.attn with steps := s.attn.steps ++ [t], nextStep := t.id + 1 } } : State).bump .GORE_CNT_COUNT 0 0 1

section
variable {s : State} {k : Nat} {c : Cmd}

theorem exec_stepSubmit_of_mayRun (h : s.mayRun k 0x30 c) (list : Option (List Nat)) :
    exec (.stepSubmit k list) s = .next (stepSubmit list c (s.setPhase k .running)) :=
  congrArg Host.Outcome.next (begin_of_mayRun h (stepSubmit list) rfl rfl rfl)

theorem exec_attend_of_mayRun (h : s.mayRun k 0x31 c) : exec (.attend k) s = .next (attendBody c (s.setPhase k .running)) :=
  congrArg Host.Outcome.next (begin_of_mayRun h attendBody rfl rfl rfl)

/-- With a new STEP_ID, a shape, its input slots backed and room for one more step, STEP_SUBMIT is decided by its entries. -/
theorem stepSubmit_of_room {g : Shape} {l : List Nat} (hnew : s.step? c.ctx (Desc.num c.desc 16 2) = none)
    (hshape : Map.find s.attn.shapes (Desc.byte c.desc 18) = some g)
    (hback : Desc.num c.desc 40 4 + Desc.byte c.desc 22 * islotOf g (Desc.num c.desc 20 2 * Desc.byte c.desc 19) ≤ s.backed c.ctx)
    (hsteps : s.attn.steps.length < 64) (hlim : s.stepsOf c.ctx < s.rd .GORE_STEP_LIM_PER_CTX) :
    stepSubmit (some l) c s =
      if ((s.entriesOf c l).all fun e => !e.admitted) = true then
        (s.writeAdmission (s.stepOf c g l)).finish c.id .partialDone 0 0 (Desc.num c.desc 20 2)
      else ((s.entriesOf c l).foldl (fun u e => if e.admitted && !e.waiting then u.formLayer (s.stepOf c g l) e 0 else u)
        (((s.inFlight (s.stepOf c g l)).writeAdmission (s.stepOf c g l)).writeFlag (s.stepOf c g l) 0 false)).winch s := by
  have hroom : (decide (s.attn.steps.length ≥ 64) || decide (s.stepsOf c.ctx ≥ s.rd .GORE_STEP_LIM_PER_CTX)) = false := by
    simp [hsteps, hlim]
  simp only [stepSubmit, hnew, hshape, hback.not_gt, hroom, Option.isSome_none, Bool.false_eq_true, if_false]
  rfl

end

/-! ### Kicks (R228) -/

section
variable {s : State} {t : Step}

/-- ATTEND in turn is counted, waits for its layer and kicks it. -/
theorem attendBody_of_inTurn {c : Cmd} (ht : s.step? c.ctx (Desc.num c.desc 16 2) = some t) (hturn : Desc.num c.desc 18 2 = t.kicked)
    (hlayer : Desc.num c.desc 18 2 < t.geo.layers) : attendBody c s =
      ((s.bump .GORE_ATTN_CNT_COUNT 1 0 1).updStep t.id fun t => { t with attends := t.attends ++ [(Desc.num c.desc 18 2, c.id)] }).kick t
        (Desc.num c.desc 18 2) := by
  have hgood : (Desc.num c.desc 18 2 != t.kicked || decide (Desc.num c.desc 18 2 ≥ t.geo.layers)) = false := by simp [← hturn, hlayer]
  simp only [attendBody, ht, hgood, Bool.false_eq_true, if_false]

/-- ATTEND out of turn is counted and refused. -/
theorem attendBody_of_outOfTurn {c : Cmd} (ht : s.step? c.ctx (Desc.num c.desc 16 2) = some t) (hturn : Desc.num c.desc 18 2 ≠ t.kicked) :
    attendBody c s = (s.bump .GORE_ATTN_CNT_COUNT 3 0 1).finish c.id .reservedNonzero 18 := by
  simp [attendBody, ht, hturn]

section
variable {ctx v : Nat} (hmbz : bitsOf v 31 25 = 0) (ht : s.step? ctx (bitsOf v 15 0) = some t)
include hmbz ht

/-- A kick in turn by the register is counted and kicks the layer. -/
theorem regKick_of_inTurn (hturn : bitsOf v 24 16 = t.kicked) (hlayer : bitsOf v 24 16 < t.geo.layers) :
    regKick ctx v s = (s.bump .GORE_ATTN_CNT_COUNT 2 0 1).kick t (bitsOf v 24 16) := by
  have hgood : (bitsOf v 24 16 != t.kicked || decide (bitsOf v 24 16 ≥ t.geo.layers)) = false := by simp [← hturn, hlayer]
  simp only [regKick, hmbz, ht, hgood, bne_self_eq_false, Bool.false_eq_true, if_false]

/-- A kick out of turn by the register is shown in HTI_W_BRSTS with reason 2. -/
theorem regKick_of_outOfTurn (hturn : bitsOf v 24 16 ≠ t.kicked) :
    regKick ctx v s = s.badKick ctx (bitsOf v 15 0) (bitsOf v 24 16) 2 := by
  simp [regKick, hmbz, ht, hturn]

end

theorem exec_htiWBrkickWrite_of_open {port ctx : Nat} (hctx : ctx < 64) (hopen : s.windowOpen port ctx = true) (v : Nat) :
    exec (.htiWBrkickWrite port ctx v) s = .next (regKick ctx v s) :=
  congrArg Host.Outcome.next ((if_pos hctx).trans (window_of_open hopen 0x4000 (regKick ctx v)))

end

/-! ### Layers and ends (R191, R192, R226 to R232) -/

section
variable {ctx sid : Nat} {s : State} {t : Step} (ht : s.step? ctx sid = some t)
include ht

/-- A kicked layer that is ready reads its input slots (as one moment, log 28), writes its outputs and its flag, and ends its ATTENDs. -/
theorem layerComplete_of_ready (hkicked : t.done < t.kicked) (hready : s.layerReady t t.done = true) :
    let u := (t.entries.zipIdx.foldl (fun s p => s.layerEntry t t.done p.2 p.1 (s.slotInput t t.done p.2)) s).writeFlag t (t.done + 1) false
    let w := if t.mute then u else u.bump .GORE_ATTN_CNT_COUNT 0 0 1
    layerComplete ctx sid s = (w.updStep t.id fun q => { q with done := t.done + 1, lastFlag := w.now }).endAttends t t.done := by
  simp only [layerComplete, ht, hkicked, hready, decide_true, Bool.and_self, if_true]

theorem stepOutFail_of_inFlight :
    stepOutFail ctx sid s = ((s.bump .GORE_ATTN_CNT_COUNT 11 0 1).emit (.aer (s.port ctx) 1)).abandon t := by
  simp only [stepOutFail, ht]

/-- Of a step without SAMPLE whose layers are all done, an entry still in it ends: cancelled, or with its rows once T1 has room for them. -/
theorem stepItemEnd_of_layersDone {i : Nat} {e : SEntry} (he : t.entries[i]? = some e) (hin : e.inStep = true) (hwait : e.waiting = false)
    (hseal : e.sealing = false) (hdone : t.done = t.geo.layers) (hsample : t.sample = false) (read : Option Nat) :
    stepItemEnd ctx sid i read s =
      if e.cancel then (s.endCancelled t e).winch s else if s.entryRoom t e then (s.itemDone t e read).winch s else s := by
  simp only [stepItemEnd, ht, he, hin, hwait, hseal, hdone, hsample, decide_true, Bool.not_false, Bool.true_or, Bool.or_true, Bool.and_self, if_true]

theorem stepEnd_of_allLeft (hleft : t.entries.any SEntry.inStep = false) : stepEnd ctx sid s = s.endStep t := by
  simp only [stepEnd, ht, hleft, Bool.false_eq_true, if_false]

/-- A step whose next layer has not been kicked for KICK_LIMIT is counted and abandoned. -/
theorem kickLimit_of_late (hlate : t.lastFlag + 100000 * s.rd .GORE_ATTN_CFG_KICK_LIMIT_MS ≤ s.now) (hkicked : t.kicked ≤ t.done)
    (hdone : t.done < t.geo.layers) (hin : t.entries.any SEntry.inStep = true) :
    kickLimit ctx sid s = (s.bump .GORE_ATTN_CNT_COUNT 4 0 1).abandon t := by
  simp only [kickLimit, ht, hlate, hkicked, hdone, hin, decide_true, Bool.and_self, Bool.true_or, if_true]

end

/-! ### The statement -/

/-- Settles O34: each command and event by the lemma on its meaning. -/
theorem stepEvents : Obligations.StepEvents := by
  unfold Obligations.StepEvents
  refine ⟨?submit, ?attend, ?register, fun ctx sid s t ht => ⟨fun hkicked hready =>
    congrArg Host.Outcome.next (layerComplete_of_ready ht hkicked hready), congrArg Host.Outcome.next (stepOutFail_of_inFlight ht), ?item⟩,
    fun dt ctx sid s t ht => ⟨fun hleft => next_pump_congr (stepEnd_of_allLeft ht hleft), fun hlate hkicked hdone hin =>
      congrArg Host.Outcome.next (kickLimit_of_late ht hlate hkicked hdone hin)⟩⟩
  case submit =>
    intro k c s l g h hnew hshape hback hsteps hlim
    obtain rfl := cmd_id h.1
    rw [← backed_setPhase s c.id .running] at hback
    have hsubmit := stepSubmit_of_room (s := s.setPhase c.id .running) (l := l) hnew hshape hback hsteps hlim
    rw [exec_stepSubmit_of_mayRun h]
    exact ⟨fun hany => congrArg Host.Outcome.next (hsubmit.trans (if_neg (Bool.eq_false_iff.mp hany))),
      fun hnone => congrArg Host.Outcome.next (hsubmit.trans (if_pos hnone))⟩
  case attend =>
    intro k c s t h ht
    obtain rfl := cmd_id h.1
    rw [exec_attend_of_mayRun h]
    exact ⟨fun hturn hlayer => congrArg Host.Outcome.next (attendBody_of_inTurn ht hturn hlayer),
      fun hturn => congrArg Host.Outcome.next (attendBody_of_outOfTurn ht hturn)⟩
  case register =>
    intro port ctx v s t hctx hopen hmbz ht
    rw [exec_htiWBrkickWrite_of_open hctx hopen]
    exact ⟨fun hturn hlayer => congrArg Host.Outcome.next (regKick_of_inTurn hmbz ht hturn hlayer),
      fun hturn => congrArg Host.Outcome.next (regKick_of_outOfTurn hmbz ht hturn)⟩
  case item =>
    intro i e read he hin hwait hseal hdone hsample
    have hend := stepItemEnd_of_layersDone ht he hin hwait hseal hdone hsample read
    refine ⟨fun hcancel => next_pump_congr (hend.trans (if_pos hcancel)), fun hcancel hroom => next_pump_congr (hend.trans ?_)⟩
    rw [hcancel, hroom]
    rfl

end Sys2Proof.Machine
end

section
/-! SUPPORT. The bridle pages (R217 to R219): an access through BAR4 that meets backed bytes and one that does not, and a write of
GORE_BRIDLE that is taken. -/

namespace Sys2Proof.Machine

/-! ### Backed bytes of an area -/

section
variable {s : State} {c off n : Nat} (h : off + n ≤ s.backed c)
include h

/-- A read of bytes that are all backed reads each of them. -/
theorem bridleGet_of_backed : s.bridleGet c off n = s.attn.bridle.read (bridleAddr c off) n := by
  rw [State.bridleGet, Nat.min_eq_left (by omega)]

/-- A write of bytes that are all backed stores each of them. -/
theorem bridlePut_of_backed (v : Nat) :
    s.bridlePut c off n v = { s with attn := { s.attn with bridle := s.attn.bridle.write (bridleAddr c off) n v } } := by
  rw [State.bridlePut, Nat.min_eq_left (by omega)]

end

/-! ### Accesses through BAR4 (R217, R218) -/

/-- An access through a port reaches the area of context `c`: the context is bound to the port, and a virtual function is its own. -/
def State.reachesArea (s : State) (port : Nat) (vf : Option Nat) (c : Nat) : Bool :=
  decide (c < 64) && decide (s.port c = port % 2) && vf.all (fun w => decide (w = c))

section
variable {s : State} {port off area c : Nat} {vf : Option Nat} (harea : area = areaMib (s.b4 (port % 2)) * 2 ^ 20) (hc : c = off / area)
  (hne : area ≠ 0) (len v : Nat) (isWrite : Bool)
include harea hc hne

/-- Where TDISP lets it pass, an access in a window is one of backed bytes, or it is counted. -/
theorem bar4Access_of_passed (htdi : s.reachesArea port vf c = false ∨ s.rd .SEC_CTX_TDI c ≠ 3) :
    bar4Access port vf off len v isWrite s =
      if (s.reachesArea port vf c && decide (off % area < s.backed c)) = true then
        if isWrite then s.bridlePut c (off % area) len v else s.emit (.busRead (s.bridleGet c (off % area) len))
      else if isWrite then s.bump .GORE_ATTN_CNT_COUNT 10 0 1 else (s.bump .GORE_ATTN_CNT_COUNT 10 0 1).emit (.busRead 0) := by
  have hrun : (s.reachesArea port vf c && decide (s.rd .SEC_CTX_TDI c = 3)) = false := by
    rcases htdi with h | h <;> simp [h]
  subst hc
  unfold State.reachesArea at hrun ⊢
  cases vf <;> simp only [Option.all] at hrun ⊢ <;>
    simp only [bar4Access, ← harea, hne, hrun, Bool.false_and, Bool.false_eq_true, if_false]

theorem exec_bar4UnbackedAccess_of_backed (hreach : s.reachesArea port vf c = true) (htdi : s.rd .SEC_CTX_TDI c ≠ 3)
    (hback : off % area < s.backed c) :
    exec (.bar4UnbackedAccess port vf off len v isWrite) s =
      .next (if isWrite then s.bridlePut c (off % area) len v else s.emit (.busRead (s.bridleGet c (off % area) len))) :=
  congrArg Host.Outcome.next ((bar4Access_of_passed harea hc hne len v isWrite (.inr htdi)).trans (if_pos (by simp [hreach, hback])))

theorem exec_bar4UnbackedAccess_of_unbacked (hback : s.reachesArea port vf c = false ∨ s.backed c ≤ off % area)
    (htdi : s.reachesArea port vf c = false ∨ s.rd .SEC_CTX_TDI c ≠ 3) :
    exec (.bar4UnbackedAccess port vf off len v isWrite) s =
      .next (if isWrite then s.bump .GORE_ATTN_CNT_COUNT 10 0 1 else (s.bump .GORE_ATTN_CNT_COUNT 10 0 1).emit (.busRead 0)) := by
  refine congrArg Host.Outcome.next ((bar4Access_of_passed harea hc hne len v isWrite htdi).trans (if_neg ?_))
  rcases hback with h | h <;> simp [h]

end

/-! ### GORE_BRIDLE (R217, R219) -/

/-- The MiB asked for over all contexts once context `c` asks for `m`. -/
def State.bridleSum (s : State) (c m : Nat) : Nat := (List.range 64).foldl (fun a d => a + if d = c then m else s.rd .GORE_BRIDLE_MIB d) 0

/-- The state once a taken write of GORE_BRIDLE has stored MIB; a change zero-fills the area. -/
def State.mibStored (s : State) (c m : Nat) : State :=
  (if m = s.rd .GORE_BRIDLE_MIB c then s else s.bridleZero c).put .GORE_BRIDLE_MIB c 0 m

section
variable {s : State} {c v : Nat}

/-- With no step of the context in flight, the sum within 8,192 and room in the reserve, a write of GORE_BRIDLE is taken. -/
theorem bridleWrite_of_room (hsteps : s.stepsOf c = 0) (hsum : s.bridleSum c (fieldOf .GORE_BRIDLE_MIB v) ≤ 8192)
    (hfits : s.rsvFits (s.backed c) (s.effMib c (fieldOf .GORE_BRIDLE_MIB v) * 2 ^ 20) = true) :
    bridleWrite c v s = (s.mibStored c (fieldOf .GORE_BRIDLE_MIB v)).refreshBridle c := by
  have htaken : (s.stepsOf c != 0 || decide (s.bridleSum c (fieldOf .GORE_BRIDLE_MIB v) > 8192)) = false := by simp [hsteps, hsum]
  unfold State.bridleSum at htaken
  simp only [bridleWrite, htaken, hfits, Bool.not_true, Bool.false_eq_true, if_false]
  rfl

theorem exec_goreBridleWrite_of_room (hc : c < 64) (hon : s.blkOn .GORE = true) (hlock : s.locked c = false) (hsteps : s.stepsOf c = 0)
    (hsum : s.bridleSum c (fieldOf .GORE_BRIDLE_MIB v) ≤ 8192)
    (hfits : s.rsvFits (s.backed c) (s.effMib c (fieldOf .GORE_BRIDLE_MIB v) * 2 ^ 20) = true) :
    exec (.goreBridleWrite c v) s = .next ((s.mibStored c (fieldOf .GORE_BRIDLE_MIB v)).refreshBridle c) := by
  rw [exec_goreBridleWrite_of_on hc v hon, lockWrite_of_unlocked hlock, bridleWrite_of_room hsteps hsum hfits]

end

@[simp] theorem put_attn (s : State) (f : Fld) (i j v : Nat) : (s.put f i j v).attn = s.attn := by
  unfold State.put
  split <;> rfl

@[simp] theorem rsvSwap_attn (s : State) (old n : Nat) : (s.rsvSwap old n).attn = s.attn :=
  (keeps_rsvSwap (List.Subset.refl _) (.refl _ _)).attn (by decide)

theorem mibStored_bridle_of_ne {s : State} {c m : Nat} (h : m ≠ s.rd .GORE_BRIDLE_MIB c) :
    (s.mibStored c m).attn.bridle = s.attn.bridle.clear (bridleAddr c 0) (bridleAddr (c + 1) 0) := by
  rw [State.mibStored, if_neg h, put_attn, bridleZero_attn]

/-- The state once an area is zero-filled where its EFF_MIB is out of date. -/
def State.effCleared (s : State) (c : Nat) : State :=
  if s.effMib c (s.rd .GORE_BRIDLE_MIB c) = s.rd .GORE_BRIDLE_EFF_MIB c then s else s.bridleZero c

theorem refreshBridle_attn (s : State) (c : Nat) : (s.refreshBridle c).attn = (s.effCleared c).attn :=
  (wr_attn _ .GORE_BRIDLE_EFF_MIB c 0 _).trans (rsvSwap_attn (s.effCleared c) _ _)

/-- EFF_MIB brought up to date clears the area where it changes, and no other byte. -/
theorem refreshBridle_bridle (s : State) (c : Nat) : (s.refreshBridle c).attn.bridle = s.attn.bridle ∨
    (s.refreshBridle c).attn.bridle = s.attn.bridle.clear (bridleAddr c 0) (bridleAddr (c + 1) 0) := by
  rw [refreshBridle_attn, State.effCleared]
  split
  · exact .inl rfl
  · exact .inr rfl

theorem refreshBridle_wf {s : State} (c : Nat) (h : s.attn.bridle.wf = true) : (s.refreshBridle c).attn.bridle.wf = true := by
  rcases refreshBridle_bridle s c with e | e <;> rw [e]
  · exact h
  · exact Memory.clear_wf _ _ h

/-- EFF_MIB brought up to date leaves every byte of an area that reads zero. -/
theorem get_refreshBridle {s : State} {c : Nat} {m : Memory} (h : s.attn.bridle = m.clear (bridleAddr c 0) (bridleAddr (c + 1) 0)) (a : Nat) :
    (s.refreshBridle c).attn.bridle.get a = if bridleAddr c 0 ≤ a ∧ a < bridleAddr (c + 1) 0 then 0 else m.get a := by
  rcases refreshBridle_bridle s c with e | e <;> rw [e, h]
  · exact Memory.get_clear ..
  · rw [Memory.get_clear, Memory.get_clear]
    split <;> rfl

theorem rd_refreshBridle_mib (s : State) (c : Nat) : (s.refreshBridle c).rd .GORE_BRIDLE_MIB c = s.rd .GORE_BRIDLE_MIB c := by
  refine (rd_wr_field _ _ _ _ _ _ (by decide)).trans
    (((keeps_rsvSwap (List.Subset.refl _) (.refl _ _)).rd .GORE_BRIDLE_MIB (by decide) c 0).trans ?_)
  split <;> rfl

theorem rd_mibStored {s : State} {c v : Nat} (h : (Fld.GORE_BRIDLE_MIB).legal (fieldOf .GORE_BRIDLE_MIB v) = true) :
    (s.mibStored c (fieldOf .GORE_BRIDLE_MIB v)).rd .GORE_BRIDLE_MIB c = fieldOf .GORE_BRIDLE_MIB v := rd_put_same _ _ _ _ _ h

/-- Settles O25: the bytes that a write of backed bytes and a change of MIB leave are those of the memory's own write and clear. -/
theorem bridleBytes : Obligations.BridleBytes := by
  unfold Obligations.BridleBytes
  refine fun s hwf => ⟨fun port vf off len v area c harea hc hne h64 hport hvf htdi hlen hback => ?access,
    fun c v h64 hon hlock hsteps hsum hfits hmib => ⟨_, exec_goreBridleWrite_of_room h64 hon hlock hsteps hsum hfits, ?form,
      get_refreshBridle (mibStored_bridle_of_ne hmib)⟩⟩
  case access =>
    have hreach : s.reachesArea port vf c = true := by simp [State.reachesArea, h64, hport, hvf]
    have hexec (isWrite : Bool) := exec_bar4UnbackedAccess_of_backed harea hc hne len v isWrite hreach htdi
      (Nat.lt_of_lt_of_le (Nat.lt_add_of_pos_right hlen) hback)
    exact ⟨⟨_, (hexec true).trans (congrArg Host.Outcome.next (bridlePut_of_backed hback v)), Memory.write_wf _ _ _ hwf,
      Memory.get_write hwf _ _ _⟩, (hexec false).trans (by rw [bridleGet_of_backed hback]; rfl)⟩
  case form =>
    refine refreshBridle_wf c ?_
    rw [mibStored_bridle_of_ne hmib]
    exact Memory.clear_wf _ _ hwf

end Sys2Proof.Machine
end

section
/-! SUPPORT. Model shapes and KV_APPEND (R213 to R215, R234 to R238): MODEL_SHAPE_SET by its operation, the runs that APPEND and STREAM
start. -/

namespace Sys2Proof.Machine

/-! ### MODEL_SHAPE_SET (R213 to R215) -/

section
variable {s : State} {k : Nat} {c : Cmd}

theorem exec_modelShapeDeclare_of_mayRun (h : s.mayRun k 0x36 c) (hop : opOf 9 8 0 c.desc = true) (table : Option (List Nat)) :
    exec (.modelShapeDeclare k table) s = .next (shapeSet false table c (s.setPhase k .running)) :=
  congrArg Host.Outcome.next (begin_of_mayRun h (shapeSet false table) hop rfl rfl)

theorem exec_modelShapeUpdate_of_mayRun (h : s.mayRun k 0x36 c) (hop : opOf 9 8 1 c.desc = true) (table : Option (List Nat)) :
    exec (.modelShapeUpdate k table) s = .next (shapeSet true table c (s.setPhase k .running)) :=
  congrArg Host.Outcome.next (begin_of_mayRun h (shapeSet true table) hop rfl rfl)

theorem exec_modelShapeRemove_of_mayRun (h : s.mayRun k 0x36 c) (hop : opOf 9 8 2 c.desc = true) :
    exec (.modelShapeRemove k) s = .next (shapeRemove c (s.setPhase k .running)) :=
  congrArg Host.Outcome.next (begin_of_mayRun h shapeRemove hop rfl rfl)

/-- DECLARE of a free slot, with a good layer table, fills it where the reserve takes the descriptor. -/
theorem shapeSet_of_free {l : List Nat} (hfree : Map.find s.attn.shapes (slotOf c.desc) = none)
    (htable : l.all (layerOk (shapeOf c.ctx c.desc l).latent) = true) :
    let g := shapeOf c.ctx c.desc l
    shapeSet false (some l) c s = if s.rsvFits 0 (Config.shapeBytes g.layers) then
      ((s.rsvSwap 0 (Config.shapeBytes g.layers)).setShape (slotOf c.desc) (some g)).finish c.id .ok 0 g.kvBytes (s.shapeUsers (slotOf c.desc))
      else s.rsvFull.finish c.id .retryLater (hintMs 1) := by
  cases hfits : s.rsvFits 0 (Config.shapeBytes (shapeOf c.ctx c.desc l).layers) <;>
    simp only [shapeSet, hfree, htable, hfits, Bool.not_true, Bool.not_false, Bool.false_eq_true, if_false, if_true]

section
variable {o : Shape} (hold : Map.find s.attn.shapes (slotOf c.desc) = some o) (hown : s.shapeForeign c o = false)
include hold hown

/-- A declared slot takes the settings of a command with the same geometry and a good layer table, and keeps its owner. -/
theorem shapeSet_of_declared {l : List Nat} (hgeo : geoDiff o (shapeOf c.ctx c.desc []) = none) (htable : l.all (layerOk o.latent) = true)
    (update : Bool) :
    let g := { shapeOf c.ctx c.desc l with owner := o.owner }
    shapeSet update (some l) c s =
      (s.setShape (slotOf c.desc) (some g)).finish c.id .ok 0 g.kvBytes (s.shapeUsers (slotOf c.desc)) := by
  simp only [shapeSet, hold, hown, hgeo, htable, Bool.not_true, Bool.false_eq_true, if_false]

/-- REMOVE frees a slot that no session uses. -/
theorem shapeRemove_of_declared : shapeRemove c s =
    if s.shapeUsers (slotOf c.desc) = 0 then
      ((s.rsvSwap (Config.shapeBytes o.layers) 0).setShape (slotOf c.desc) none).finish c.id .ok 0 o.kvBytes
    else s.finish c.id .reservedNonzero 2 0 (s.shapeUsers (slotOf c.desc)) := by
  simp only [shapeRemove, hold, hown, Bool.false_eq_true, if_false, bne_iff_ne, ne_eq, ite_not]

end
end

/-! ### APPEND (R234, R235) -/

/-- The run of an APPEND in ALOFT, with its rows by head-layer and position. -/
def appendRun (c : Cmd) (g : Shape) (row : Nat → Nat → Nat) : KvRun :=
  ⟨c.id, Desc.handle c.desc, Desc.num c.desc 16 4, Desc.num c.desc 20 4, g,
    (List.range g.headLayers).map fun hl => (hl, (List.range (Desc.num c.desc 20 4)).map fun p => row hl p), false, false, 0, false⟩

/-- The state once a KV_APPEND's run is under way. -/
def State.withKvRun (s : State) (q : KvRun) : State := { s with attn := { s.attn with kvRuns := s.attn.kvRuns ++ [q] } }

/-- The state once an APPEND has started its run, with one item for each head-layer. -/
def State.appendStarted (s : State) (c : Cmd) (g : Shape) (row : Nat → Nat → Nat) : State :=
  ((List.range g.headLayers).foldl (fun (s : State) hl =>
    s.addItem (Item.new .append .assist c.ctx c.id (Desc.handle c.desc) (hl / g.hkv) (hl % g.hkv) 0 .ready))
    (s.withKvRun (appendRun c g row))).winch s

section
variable {s : State} {k : Nat} {c : Cmd}

theorem exec_kvAppendAppend_of_mayRun (h : s.mayRun k 0x32 c) (hready : s.kvReady c = true) (hlive : s.sessLive c = true)
    (hop : opOf 8 8 0 c.desc = true) (rows : Option (List Nat)) :
    exec (.kvAppendAppend k rows) s = .next (kvAppend rows c (s.setPhase k .running)) :=
  congrArg Host.Outcome.next (begin_of_mayRun h (kvAppend rows) hop hready hlive)

theorem exec_kvAppendStream_of_mayRun (h : s.mayRun k 0x32 c) (hready : s.kvReady c = true) (hlive : s.sessLive c = true)
    (hop : opOf 8 8 1 c.desc = true) : exec (.kvAppendStream k) s = .next (kvStream c (s.setPhase k .running)) :=
  congrArg Host.Outcome.next (begin_of_mayRun h kvStream hop hready hlive)

/-- The rows of a source at ADDR are those of the read. -/
theorem kvSource_of_read (hflag : Desc.flag c.desc 10 = false) (g : Shape) (count : Nat) (l : List Nat) :
    s.kvSource c g count (some l) = some fun hl p => l.getD (hl * count + p) 0 := by
  rw [State.kvSource, hflag]
  rfl

/-- With BRIDLE, the rows of a source are those of the context's area (log 28). -/
theorem kvSource_of_bridle (hflag : Desc.flag c.desc 10 = true) (g : Shape) (count : Nat) (rows : Option (List Nat)) :
    s.kvSource c g count rows =
      some fun hl p => s.bridleGet c.ctx (Desc.num c.desc 32 8 + (hl * count + p) * g.rowBytes) g.rowBytes := by
  rw [State.kvSource, hflag]
  rfl

variable {x : Session} (hx : s.sess (Desc.handle c.desc) = some x)
include hx

/-- An APPEND to an ALOFT session starts where its source is long enough and is read, FIRST is KV_LEN, and its last position is in the spool
and below the limit. -/
theorem kvAppend_of_aloft (hlet : s.kvRefuse x false = none) (haloft : x.st = .aloft)
    (hlen : Desc.num c.desc 20 4 * (c.shape.getD (s.shape x.shape)).kvBytes ≤ Desc.num c.desc 40 8) (hfirst : Desc.num c.desc 16 4 = x.kvLen)
    (hspool : Desc.num c.desc 16 4 + Desc.num c.desc 20 4 ≤ x.spool.length)
    (hmax : Desc.num c.desc 16 4 + Desc.num c.desc 20 4 ≤ Config.maxTokens) {rows : Option (List Nat)} {row : Nat → Nat → Nat}
    (hsource : s.kvSource c (c.shape.getD (s.shape x.shape)) (Desc.num c.desc 20 4) rows = some row) :
    kvAppend rows c s = s.appendStarted c (c.shape.getD (s.shape x.shape)) row := by
  have hstart : (Desc.num c.desc 16 4 != x.kvLen) = false := by simp [hfirst]
  have hend : ¬((decide (Desc.num c.desc 16 4 + Desc.num c.desc 20 4 > x.spool.length) ||
      decide (Desc.num c.desc 16 4 + Desc.num c.desc 20 4 > Config.maxTokens)) = true) := by simp [hspool, hmax]
  simp only [kvAppend, hx, hlet, haloft, hlen.not_gt, hstart, hend, hsource, reduceCtorEq, decide_false, Bool.false_eq_true, if_false]
  rfl

end

/-! ### STREAM (R236, R237) -/

/-- The run of a STREAM. -/
def streamRun (c : Cmd) (g : Shape) : KvRun :=
  ⟨c.id, Desc.handle c.desc, Desc.num c.desc 16 4, Desc.num c.desc 20 4, g, [], false, false, 0, true⟩

/-- The UNSEAL item of a head-layer that a STREAM asks for: it reads the pages of the tiles of the columns that hold the range. -/
def streamItem (c : Cmd) (x : Session) (g : Shape) (layer head : Nat) : Item :=
  { Item.new .unseal .assist c.ctx c.id (Desc.handle c.desc) layer head 0 .held with
    pages := ((streamCols (Desc.num c.desc 16 4) (Desc.num c.desc 20 4)).flatMap fun col => x.tilePages g (tileKey g col layer head)).eraseDups }

/-- The state once a STREAM has started its run: all its items are formed at once, and the first of the session in turn goes on (log 161). -/
def State.streamStarted (s : State) (c : Cmd) (x : Session) (g : Shape) : State :=
  (((List.range (Desc.num c.desc 26 2)).foldl (fun s l => (List.range g.hkv).foldl (fun (s : State) hd =>
    (s.addItem (streamItem c x g (Desc.num c.desc 24 2 + l) hd)).request (streamItem c x g (Desc.num c.desc 24 2 + l) hd)) s)
    (s.withKvRun (streamRun c g))).turn (kvItem c.id (Desc.handle c.desc))).winch s

/-- A STREAM whose layers are those of the shape, whose positions are below KV_LEN and off the pending rebuild, and whose output fits, starts. -/
theorem kvStream_of_inRange {s : State} {c : Cmd} {x : Session} (hx : s.sess (Desc.handle c.desc) = some x) (hlet : s.kvRefuse x true = none)
    (hlayer : Desc.num c.desc 24 2 < (s.shape x.shape).layers)
    (hlayers : Desc.num c.desc 24 2 + Desc.num c.desc 26 2 ≤ (s.shape x.shape).layers)
    (hrange : Desc.num c.desc 16 4 + Desc.num c.desc 20 4 ≤ x.kvLen)
    (hpend : ((decide (x.st = .rebuilding) || x.rbPending) && decide (Desc.num c.desc 16 4 < x.rbEnd) &&
      decide (x.rbStart < Desc.num c.desc 16 4 + Desc.num c.desc 20 4)) = false)
    (hfits : (streamRecords x (s.shape x.shape) c.desc).foldl (fun a p => a + p.1) 0 ≤ Desc.num c.desc 40 8) :
    kvStream c s = s.streamStarted c x (s.shape x.shape) := by
  simp only [kvStream, hx, hlet, hlayer.not_ge, hlayers.not_gt, hrange.not_gt, hpend, hfits.not_gt, decide_false, Bool.or_self,
    Bool.false_eq_true, if_false]
  rfl

/-! ### The statement -/

/-- Settles O33: MODEL_SHAPE_SET, APPEND and STREAM by the lemmas on their meanings, the bridle pages by those on them. -/
theorem shapesAndKv : Obligations.ShapesAndKv := by
  unfold Obligations.ShapesAndKv
  refine ⟨fun k c s l h => ?shapes, fun k c s x l h hready hlive hx hop hlet haloft hlen hfirst hspool hmax => ?append,
    fun k c s x h hready hlive hx hop hlet => ?stream, fun c v s h64 hon hlock hsteps hsum hfits hlegal => ?mib,
    fun port vf off len v s area c harea hc hne hback htdi => ?unbacked⟩
  case shapes =>
    obtain rfl := cmd_id h.1
    refine ⟨fun hop hfree htable hfits => ?declare, fun hop hfree htable hfull => ?full, fun o hold hown =>
      ⟨fun hop hgeo htable => ?update, fun hop hnone => ?remove, fun hop hsome => ?used⟩⟩
    case declare =>
      rw [exec_modelShapeDeclare_of_mayRun h hop]
      exact congrArg Host.Outcome.next ((shapeSet_of_free (s := s.setPhase c.id .running) hfree htable).trans (if_pos hfits))
    case full =>
      rw [exec_modelShapeDeclare_of_mayRun h hop]
      exact congrArg Host.Outcome.next
        ((shapeSet_of_free (s := s.setPhase c.id .running) hfree htable).trans (if_neg (Bool.eq_false_iff.mp hfull)))
    case update =>
      rw [exec_modelShapeUpdate_of_mayRun h hop]
      exact congrArg Host.Outcome.next (shapeSet_of_declared (s := s.setPhase c.id .running) hold hown hgeo htable true)
    case remove =>
      rw [exec_modelShapeRemove_of_mayRun h hop]
      exact congrArg Host.Outcome.next ((shapeRemove_of_declared (s := s.setPhase c.id .running) hold hown).trans (if_pos hnone))
    case used =>
      rw [exec_modelShapeRemove_of_mayRun h hop]
      exact congrArg Host.Outcome.next ((shapeRemove_of_declared (s := s.setPhase c.id .running) hold hown).trans (if_neg hsome))
  case append =>
    obtain rfl := cmd_id h.1
    have hstart {rows : Option (List Nat)} {row : Nat → Nat → Nat} :=
      kvAppend_of_aloft (s := s.setPhase c.id .running) (rows := rows) (row := row) hx hlet haloft hlen hfirst hspool hmax
    refine ⟨fun hflag => ?_, fun hflag => ?_⟩ <;> rw [exec_kvAppendAppend_of_mayRun h hready hlive hop]
    · exact congrArg Host.Outcome.next (hstart (kvSource_of_read hflag _ _ l))
    · exact congrArg Host.Outcome.next (hstart (kvSource_of_bridle hflag _ _ none))
  case stream =>
    intro r g first count lf lc need hlayer hlayers hrange hpend hfits
    obtain rfl := cmd_id h.1
    rw [exec_kvAppendStream_of_mayRun h hready hlive hop]
    exact congrArg Host.Outcome.next (kvStream_of_inRange (s := s.setPhase c.id .running) hx hlet hlayer hlayers hrange hpend hfits)
  case mib =>
    exact ⟨_, exec_goreBridleWrite_of_room h64 hon hlock hsteps hsum hfits, (rd_refreshBridle_mib _ c).trans (rd_mibStored hlegal), rfl⟩
  case unbacked =>
    have hexec (isWrite : Bool) := exec_bar4UnbackedAccess_of_unbacked harea hc hne len v isWrite hback htdi
    exact ⟨hexec false, hexec true⟩

end Sys2Proof.Machine
end

section
/-! SUPPORT. Text intake (R251, R254 to R259): TEXT_APPEND and TEXT_TOKENIZE of an input that is read, TABLE_LOAD by its checks, a lane's
fault. A request or a load is one step (log 37). -/

namespace Sys2Proof.Machine

/-- A request within MAX_MIB is not turned away for its bytes, its own phase not counting (TXT_CTX). -/
theorem overMib_setPhase_of_within {s : State} {c : Cmd}
    (h : s.bytesInFlight c + Desc.num c.desc 32 4 ≤ s.rd .TXT_CTX_MAX_MIB c.ctx * 2 ^ 20) (p : CmdPhase) :
    (s.setPhase c.id p).overMib c = false := by
  rw [State.overMib, bytesInFlight_setPhase rfl]
  exact decide_eq_false h.not_gt

/-! ### TEXT_APPEND (R254, R255) -/

theorem exec_textAppend_of_mayRun {s : State} {k : Nat} {c : Cmd} (h : s.mayRun k 0x20 c) (hready : s.appendReady c = true)
    (hlive : s.sessLive c = true) (busy : Nat) (input : Option (List Nat)) :
    exec (.textAppend k busy input) s = .next (textAppend busy input c (s.setPhase k .running)).sweepImages :=
  congrArg (Host.Outcome.next ∘ State.sweepImages) (begin_of_mayRun h (textAppend busy input) rfl hready hlive)

/-- Tokens that the spool has room for are counted and enter it as intake entries, with the visible-text offset of the entry before. -/
theorem appendTokens_of_room {s : State} {h : Nat} {x : Session} {ids : List Nat} (hx : s.sess h = some x)
    (hroom : x.spool.length + ids.length ≤ Config.maxTokens) (c : Cmd) (n : Nat) (count : State → State) :
    s.appendTokens c h ids n count =
      ((count s).spoolAppend h (ids.map fun t => ⟨t, false, (x.spool.getLast?.map SpoolEntry.visible).getD 0⟩)).finishSpool h c.id ids.length
        (x.spool.length + ids.length) n := by
  simp only [State.appendTokens, hx, hroom.not_gt, if_false]
  cases x.spool.getLast? <;> rfl

section
variable {s : State} {c : Cmd} {m : Img} {x : Session} {l : List Nat} (himg : s.imageFor (Desc.byte c.desc 16) c.id = some m)
  (hx : s.sess (Desc.handle c.desc) = some x) (hlet : s.appendRefuse x = none) (hmib : s.overMib c = false) (busy : Nat)
include himg hx hlet hmib

/-- RAW_IDS that are all below the image's TOKENS go to the spool as they stand, and only the request is counted (log 38). -/
theorem textAppend_of_ids (hraw : Desc.flag c.desc 8 = true)
    (hbelow : (l.takeD (Desc.num c.desc 32 4 / 4) 0).findIdx? (fun t => decide (t ≥ Img.tokens m)) = none) :
    textAppend busy (some l) c s = s.appendTokens c (Desc.handle c.desc) (l.takeD (Desc.num c.desc 32 4 / 4) 0) 0
      fun s => s.bump .TXT_CNT_COUNT 0 0 1 := by
  simp only [textAppend, himg, hx, hlet, hmib, hraw, hbelow, Bool.false_eq_true, if_false, if_true]

/-- Text is tokenised on the image in force for the command, and the run and its tokens are counted. -/
theorem textAppend_of_text (hraw : Desc.flag c.desc 8 = false) :
    let b := l.takeD (Desc.num c.desc 32 4) 0
    textAppend busy (some l) c s = s.appendTokens c (Desc.handle c.desc) ((Img.run m b).toks.map Tok.id) (Img.run m b).invalid
      fun s => (s.countRun m b (Img.run m b) busy).bump .TXT_CNT_COUNT 2 0 (Img.run m b).toks.length := by
  simp only [textAppend, himg, hx, hlet, hmib, hraw, Bool.false_eq_true, if_false]

end

/-! ### TEXT_TOKENIZE (R256) -/

theorem exec_textTokenize_of_mayRun {s : State} {k : Nat} {c : Cmd} (h : s.mayRun k 0x21 c) (hready : s.txtReady c = true) (busy : Nat)
    (input : Option (List Nat)) (wrote : Bool) :
    exec (.textTokenize k busy input wrote) s = .next (textTokenize busy input wrote c (s.setPhase k .running)).sweepImages :=
  congrArg (Host.Outcome.next ∘ State.sweepImages) (begin_of_mayRun h (textTokenize busy input wrote) rfl hready rfl)

/-- The state once TEXT_TOKENIZE has counted its run and written the entries of `out`. -/
def State.tokenized (s : State) (c : Cmd) (m : Img) (b : List Nat) (busy : Nat) (out : List Tok) : State :=
  let w := if Desc.flag c.desc 8 then 8 else 4
  ((s.countRun m b (Img.run m b) busy).emit
    (.write c.ctx (Desc.num c.desc 40 8) (w * out.length) (packWords w (out.map (tokEntry (Desc.flag c.desc 8)))))).bump
      .TXT_CNT_COUNT 2 0 out.length

/-- A text whose tokens all fit in CAP is written whole and completes with OK. -/
theorem textTokenize_of_fits {s : State} {c : Cmd} {m : Img} {l : List Nat} (himg : s.imageFor (Desc.byte c.desc 16) c.id = some m)
    (hmib : s.overMib c = false)
    (hfits : (Img.run m (l.takeD (Desc.num c.desc 32 4) 0)).toks.length ≤ Desc.num c.desc 36 4) (busy : Nat) :
    let b := l.takeD (Desc.num c.desc 32 4) 0
    let out := (Img.run m b).toks.take (Desc.num c.desc 36 4)
    textTokenize busy (some l) true c s =
      (s.tokenized c m b busy out).finish c.id .ok 0 out.length out.length (Desc.num c.desc 32 4) := by
  have hall := List.drop_eq_nil_of_le hfits
  simp only [textTokenize, himg, hmib, hall, List.head?_nil, Bool.not_true, Bool.false_eq_true, if_false]
  rfl

/-! ### TABLE_LOAD (R251, R257, R258) -/

/-- The slot that a TABLE_LOAD names. -/
def tableOf (d : Desc) : Nat := Desc.num d 8 8 % 32

section
variable {s : State} {k : Nat} {c : Cmd}

theorem exec_tableLoadLoad_of_mayRun (h : s.mayRun k 0x22 c) (hop : opOf 8 8 0 c.desc = true) (src : SrcRead) :
    exec (.tableLoadLoad k src) s = .next (tableLoad src c (s.setPhase k .running)) :=
  congrArg Host.Outcome.next (begin_of_mayRun h (tableLoad src) hop rfl rfl)

theorem exec_tableLoadRemove_of_mayRun (h : s.mayRun k 0x22 c) (hop : opOf 8 8 1 c.desc = true) :
    exec (.tableLoadRemove k) s = .next (tableRemove c (s.setPhase k .running)) :=
  congrArg Host.Outcome.next (begin_of_mayRun h tableRemove hop rfl rfl)

/-- The images of a slot put aside once a load takes effect: a replaced one stays for the commands accepted before (R258). -/
def State.oldsAfter (s : State) : Option TableSlot → List OldImage
  | some t => t.olds ++ [⟨s.hti.nextCmd, t.data, t.bytes⟩]
  | none => []

/-- The state once an image of `z` bytes stands in slot `n`, whose slot was `old`, and is counted. -/
def State.tableLoaded (s : State) (c : Cmd) (n : Nat) (m : Img) (z : Nat) (old : Option TableSlot) : State :=
  ((((s.rsvSwap 0 z).setTable n (some ⟨c.ctx, m, z, s.oldsAfter old⟩)).sweepImages).showTable n).bump .TXT_CNT_COUNT 11 0 1

/-- The check of an image of `len` bytes, which has to fit the table space beside those that stand there (R251, R258). -/
def State.tableCheck (s : State) (m : Img) (len : Nat) : Option Nat :=
  Img.check m len (decide (s.tableBytes + Config.imageBytes 0 len ≤ s.rd .TXT_CFG_T1_MIB * 2 ^ 20))

section
variable {n len : Nat} {m : Img} {src : SrcRead}
  (hread : s.readImage c.ctx (Desc.flag c.desc 9) (Desc.num c.desc 16 8) (Desc.num c.desc 24 8) len src = .inl m)
include hread

/-- An image that passes its checks goes into its slot where the reserve takes it. -/
theorem tableLoad_go_of_passed (hpass : s.tableCheck m len = none) (hfits : s.rsvFits 0 (Config.imageBytes 0 len) = true)
    (old : Option TableSlot) :
    let v := s.tableLoaded c n m (Config.imageBytes 0 len) old
    tableLoad.go src c s c.desc n len old = v.finish c.id .ok 0 (Config.imageBytes 0 len) 0 (v.tableUsers n) := by
  unfold State.tableCheck at hpass
  simp only [tableLoad.go, hread, hpass, hfits, Bool.not_true, Bool.false_eq_true, if_false]
  cases old <;> rfl

/-- An image that fails a check is counted and leaves its slot. -/
theorem tableLoad_go_of_failed {e : Nat} (hfail : s.tableCheck m len = some e) (old : Option TableSlot) :
    tableLoad.go src c s c.desc n len old = (s.bump .TXT_CNT_COUNT 12 0 1).finish c.id .reservedNonzero 32 0 e := by
  unfold State.tableCheck at hfail
  simp only [tableLoad.go, hread, hfail]

end

/-- A LOAD of a slot that is free, or that the context may change, goes on once the images that no command uses any more are freed. -/
theorem tableLoad_of_own (hown : ∀ t, Map.find s.sweepImages.dec.tables (tableOf c.desc) = some t → s.sweepImages.foreign c t.owner = false)
    (src : SrcRead) : tableLoad src c s = tableLoad.go src c s.sweepImages c.desc (tableOf c.desc) (Desc.num c.desc 32 4)
      (Map.find s.sweepImages.dec.tables (tableOf c.desc)) := by
  unfold tableOf at hown ⊢
  cases hold : Map.find s.sweepImages.dec.tables (Desc.num c.desc 8 8 % 32) with
  | none => simp only [tableLoad, hold]
  | some t => simp only [tableLoad, hold, hown t hold, Bool.false_eq_true, if_false]

/-- REMOVE frees a slot that nothing uses, for a context that may change it. -/
theorem tableRemove_of_loaded {t : TableSlot} (ht : Map.find s.dec.tables (tableOf c.desc) = some t) (hown : s.foreign c t.owner = false) :
    tableRemove c s =
      if s.tableUsers (tableOf c.desc) = 0 then
        (((s.rsvSwap t.allBytes 0).setTable (tableOf c.desc) none).showTable (tableOf c.desc)).finish c.id .ok
      else s.finish c.id .reservedNonzero 8 0 0 (s.tableUsers (tableOf c.desc)) := by
  unfold tableOf at ht ⊢
  simp only [tableRemove, ht, hown, Bool.false_eq_true, if_false, bne_iff_ne, ne_eq, ite_not]

end

/-! ### Lanes (R259) -/

/-- A fault of a tokeniser lane is counted, and the lane is fenced. -/
theorem exec_tokeniserLaneFault_of_lane {lane : Nat} (hlane : lane < 16) (ctx h : Nat) (s : State) :
    exec (.tokeniserLaneFault lane ctx h) s = .next ((s.bump .TXT_CNT_COUNT 14 0 1).fenceLane .TXT_LANES_FENCED 16 0 lane ctx h) :=
  congrArg Host.Outcome.next (if_pos hlane)

/-! ### The statement -/

/-- Settles O35: TEXT_APPEND, TEXT_TOKENIZE and TABLE_LOAD by the lemmas on their meanings, a faulty lane by its row. -/
theorem textIntake : Obligations.TextIntake := by
  unfold Obligations.TextIntake
  refine ⟨fun k busy l c s x m h hready hlive himg hx hlet hmib => ?append,
    fun c s h ids n count x hx hroom => appendTokens_of_room hx hroom c n count,
    fun k busy l c s m h hready himg hmib => ?tokenize, fun k src c s m h hop => ?load,
    fun k c s t h hop ht hown => ?remove, fun lane ctx h s hlane => exec_tokeniserLaneFault_of_lane hlane ctx h s⟩
  case append =>
    obtain rfl := cmd_id h.1
    have hwithin := overMib_setPhase_of_within hmib .running
    refine ⟨fun hraw hbelow => ?_, fun hraw => ?_⟩ <;> rw [exec_textAppend_of_mayRun h hready hlive]
    · exact congrArg (Host.Outcome.next ∘ State.sweepImages)
        (textAppend_of_ids (s := s.setPhase c.id .running) himg hx hlet hwithin busy hraw hbelow)
    · exact congrArg (Host.Outcome.next ∘ State.sweepImages)
        (textAppend_of_text (s := s.setPhase c.id .running) himg hx hlet hwithin busy hraw)
  case tokenize =>
    intro r b out w hfits
    obtain rfl := cmd_id h.1
    rw [exec_textTokenize_of_mayRun h hready]
    exact congrArg (Host.Outcome.next ∘ State.sweepImages)
      (textTokenize_of_fits (s := s.setPhase c.id .running) himg (overMib_setPhase_of_within hmib .running) hfits busy)
  case load =>
    intro r n len z hfree hread
    obtain rfl := cmd_id h.1
    have hload := tableLoad_of_own (s := s.setPhase c.id .running) (c := c) (fun t ht => absurd (hfree.symm.trans ht) (by simp)) src
    rw [exec_tableLoadLoad_of_mayRun h hop, hload, tableOf, hfree]
    exact ⟨fun hpass hfits => congrArg Host.Outcome.next (tableLoad_go_of_passed hread hpass hfits none),
      fun e hfail => congrArg Host.Outcome.next (tableLoad_go_of_failed hread hfail none)⟩
  case remove =>
    obtain rfl := cmd_id h.1
    have hremove := tableRemove_of_loaded (s := s.setPhase c.id .running) ht hown
    rw [exec_tableLoadRemove_of_mayRun h hop]
    exact ⟨fun hnone => congrArg Host.Outcome.next (hremove.trans (if_pos hnone)),
      fun hsome => congrArg Host.Outcome.next (hremove.trans (if_neg hsome))⟩

end Sys2Proof.Machine
end

section
/-! SUPPORT. Constrained sampling and streamed output (R260 to R262, R265, R270, R276 to R278, R285 to R288): STREAM_CONF by its operation,
SAMPLE of a list and of a step, the backlog, GRAMMAR_LOAD and GRAMMAR_BIND, a lane's fault. A STREAM_CONF or a SAMPLE is one step (log 37). -/

namespace Sys2Proof.Machine

/-! ### STREAM_CONF (R260 to R262) -/

section
variable {s : State} {k : Nat} {c : Cmd} (h : s.mayRun k 0x23 c) (hready : s.streamReady c = true) (hlive : s.sessLive c = true)
include h hready hlive

theorem exec_streamConfOpen_of_mayRun (hop : opOf 10 8 0 c.desc = true) (block : Option Nat) :
    exec (.streamConfOpen k block) s = .next (streamOpen block c (s.setPhase k .running)).sweepImages :=
  congrArg (Host.Outcome.next ∘ State.sweepImages) (begin_of_mayRun h (streamOpen block) hop hready hlive)

theorem exec_streamConfUpdate_of_mayRun (hop : opOf 10 8 1 c.desc = true) (block : Option Nat) :
    exec (.streamConfUpdate k block) s = .next (streamUpdate block c (s.setPhase k .running)).sweepImages :=
  congrArg (Host.Outcome.next ∘ State.sweepImages) (begin_of_mayRun h (streamUpdate block) hop hready hlive)

theorem exec_streamConfRestart_of_mayRun (hop : opOf 10 8 2 c.desc = true) (block read : Option Nat) :
    exec (.streamConfRestart k block read) s = .next (streamRestart block read c (s.setPhase k .running)).sweepImages :=
  congrArg (Host.Outcome.next ∘ State.sweepImages) (begin_of_mayRun h (streamRestart block read) hop hready hlive)

theorem exec_streamConfClose_of_mayRun (hop : opOf 10 8 3 c.desc = true) (read : Option Nat) :
    exec (.streamConfClose k read) s = .next (streamClose read c (s.setPhase k .running)).sweepImages :=
  congrArg (Host.Outcome.next ∘ State.sweepImages) (begin_of_mayRun h (streamClose read) hop hready hlive)

end

/-- The context may take the table image that a block names: a locked context only its own (R437). -/
def State.mayTakeTable (s : State) (c : Cmd) (b : Nat) : Prop :=
  s.locked c.ctx = false ∨ ∀ t, Map.find s.dec.tables (confOf b).table = some t → t.owner = c.ctx

section
variable {s : State} {c : Cmd} {x : Session} (hx : s.sess (Desc.handle c.desc) = some x) (hserved : s.refusal x = none)
include hx hserved

/-- A form without a block, of a session that is served, runs and completes with OK. -/
theorem streamOp_of_noBlock {okState : Option Stream → Bool} (hstate : okState (s.stream (Desc.handle c.desc)) = true)
    (block : Option Nat) (body : Option StreamConf → State → State) :
    streamOp false block okState c s body = (body none s).finishConf c := by
  simp only [streamOp, hx, hserved, hstate, Bool.not_true, Bool.not_false, Bool.false_eq_true, if_false, if_true]

/-- CLOSE ends the stream and frees it. -/
theorem streamClose_of_stream {y : Stream} (hy : s.stream (Desc.handle c.desc) = some y) (read : Option Nat) :
    streamClose read c s = ((s.endOpen (Desc.handle c.desc) 6 read).freeStream (Desc.handle c.desc)).finishConf c := by
  unfold streamClose
  exact streamOp_of_noBlock hx hserved (okState := Option.isSome) (by rw [hy]; rfl) none _

section
variable {b : Nat} (hblock : firstFault (s.confFaults c.id b) = none) (htable : s.mayTakeTable c b)
include hblock htable

/-- A form with a good block, of a session that is served, runs on the block's configuration and completes with OK. -/
theorem streamOp_of_block {okState : Option Stream → Bool} (hstate : okState (s.stream (Desc.handle c.desc)) = true)
    (body : Option StreamConf → State → State) :
    streamOp true (some b) okState c s body = (body (some (confOf b)) s).finishConf c := by
  have htakes : (s.locked c.ctx && match Map.find s.dec.tables (confOf b).table with | some t => t.owner != c.ctx | none => false) = false := by
    obtain hopen | hown := htable
    · rw [hopen, Bool.false_and]
    · cases ht : Map.find s.dec.tables (confOf b).table with
      | none => exact Bool.and_false _
      | some t => simp only [hown t ht, bne_self_eq_false, Bool.and_false]
  simp only [streamOp, hx, hserved, hstate, hblock, Bool.not_true, Bool.false_eq_true, if_false]
  exact if_neg (Bool.eq_false_iff.mp htakes)

/-- OPEN adds a stream where the session has none and both limits leave room. -/
theorem streamOpen_of_room (hnone : s.stream (Desc.handle c.desc) = none) (hall : s.streamsLive < 65536)
    (hctx : s.streamsOf c.ctx < s.rd .DEC_CTX_MAX_STREAMS c.ctx) :
    streamOpen (some b) c s =
      ((s.setStreams (s.dec.streams ++ [Stream.new (Desc.handle c.desc) (confOf b)])).refreshStreams).finishConf c := by
  simp only [streamOpen, hnone, ge_iff_le, hall.not_ge, hctx.not_ge, decide_false, Bool.or_false, Bool.and_false, Bool.false_eq_true, if_false]
  exact streamOp_of_block hx hserved hblock htable (by rw [hnone]; rfl) _

section
variable {y : Stream} (hy : s.stream (Desc.handle c.desc) = some y)
include hy

/-- UPDATE replaces the stream's configuration and nothing else of it. -/
theorem streamUpdate_of_stream : streamUpdate (some b) c s =
    ((s.updStream (Desc.handle c.desc) fun x => { x with conf := confOf b }).refreshStreams).finishConf c :=
  streamOp_of_block hx hserved hblock htable (by rw [hy]; rfl) _

/-- RESTART with a block reopens the stream on it, and drops the grammar of one that was open. -/
theorem streamRestart_of_stream (haddr : Desc.num c.desc 16 8 ≠ 0) (read : Option Nat) : streamRestart (some b) read c s =
    (((s.endOpen (Desc.handle c.desc) 7 read).updStream (Desc.handle c.desc) fun x => { x with
      conf := confOf b, ended := false, held := [], draws := 0, lastPos := none
      gram := if !y.ended then none else x.gram }).refreshStreams).finishConf c := by
  unfold streamRestart
  rw [bne_iff_ne.mpr haddr, streamOp_of_block hx hserved hblock htable (okState := Option.isSome) (by rw [hy]; rfl)]
  simp only [hy, Option.getD_some]

end
end
end

/-! ### SAMPLE (R270, R276 to R278) -/

theorem exec_sample_of_mayRun {s : State} {k : Nat} {c : Cmd} {list : Option (List Nat)} (h : s.mayRun k 0x33 c)
    (hready : s.sampleReady list c = true) (rows : List (List Nat)) (reads : List (Option Nat)) :
    exec (.sample k list rows reads) s = .next (sampleBody list rows reads c (s.setPhase k .running)) :=
  congrArg Host.Outcome.next (begin_of_mayRun h (sampleBody list rows reads) rfl hready rfl)

/-- Row `n` of a SAMPLE: of the bridle area where the command says so, of the command otherwise (R270, log 40). -/
def State.sampleRowOf (s : State) (c : Cmd) (rows : List (List Nat)) (n : Nat) : List (Nat × Nat) :=
  rowOf (bitsOf (Desc.flags c.desc) 10 9) (if Desc.flag c.desc 11 then s.bridleRow c n else rows.getD n [])

/-- The rows and the results that a SAMPLE keeps in the bridle area lie in its backed bytes (R270, R277). -/
def State.sampleBacked (s : State) (c : Cmd) : Prop :=
  (Desc.flag c.desc 11 = true →
    Desc.num c.desc 32 8 + (Desc.num c.desc 20 2 - 1) * Desc.num c.desc 28 4 + rowBytes c.desc ≤ s.backed c.ctx) ∧
  (Desc.flag c.desc 12 = true → Desc.num c.desc 48 8 + 4 * Desc.num c.desc 20 2 ≤ s.backed c.ctx)

/-- A flag whose bytes are backed does not turn a command away. -/
theorem flag_and_beyond_eq_false {flag : Bool} {need backed : Nat} (h : flag = true → need ≤ backed) :
    (flag && decide (need > backed)) = false := by
  cases flag with
  | false => rfl
  | true => exact decide_eq_false (h rfl).not_gt

section
variable {s : State} {c : Cmd} (hbacked : s.sampleBacked c) (rows : List (List Nat)) (reads : List (Option Nat))
include hbacked

/-- In LIST mode a SAMPLE draws the entries of its list in order, each with its own row. -/
theorem sampleBody_of_list (hflag : Desc.flag c.desc 8 = true) (l : List Nat) :
    let p := (List.range (Desc.num c.desc 20 2)).foldl
      (fun p i => sampleList c (l.getD i 0) (s.sampleRowOf c rows i) (reads.getD i none) i p) (s, SampRun.empty)
    sampleBody (some l) rows reads c s = p.1.endSample c p.2 := by
  obtain ⟨hrows, hresults⟩ := hbacked
  simp only [sampleBody, hflag, flag_and_beyond_eq_false hrows, flag_and_beyond_eq_false hresults, Bool.false_eq_true, if_true, if_false]
  rfl

/-- In step mode a SAMPLE draws entries of a step that waits for it, in order, each with its own row. -/
theorem sampleBody_of_step {t : Step} (hflag : Desc.flag c.desc 8 = false) (ht : s.step? c.ctx (Desc.num c.desc 16 2) = some t)
    (hsample : t.sample = true) (hwithin : Desc.num c.desc 18 2 + Desc.num c.desc 20 2 ≤ t.entries.length) (list : Option (List Nat)) :
    let p := (List.range (Desc.num c.desc 20 2)).foldl
      (fun p i => sampleStep c t.id (Desc.num c.desc 18 2 + i) (s.sampleRowOf c rows i) i p) (s, SampRun.empty)
    sampleBody list rows reads c s = p.1.endSample c p.2 := by
  obtain ⟨hrows, hresults⟩ := hbacked
  simp only [sampleBody, hflag, ht, hsample, hwithin.not_gt, flag_and_beyond_eq_false hrows, flag_and_beyond_eq_false hresults,
    Bool.not_true, Bool.false_eq_true, if_false]
  rfl

end

/-! ### The backlog (R265) -/

/-- A poll of a stream with a backlog writes its records, and takes a freed stream with none left off the table. -/
theorem backlogPoll_of_backlog {s : State} {h : Nat} {x : Stream}
    (hx : s.dec.streams.find? (fun x => decide (x.handle = h) && !x.backlog.isEmpty) = some x) (hon : s.on .CTL_READY_DEC = true)
    (read : Option Nat) :
    let a := s.ringDrain x read (2 * x.backlog.length + 2)
    let n := s.dec.streams.findIdx fun y => decide (y.handle = h) && !y.backlog.isEmpty
    backlogPoll h read s = (a.1.setStreams (if a.2.freed && a.2.backlog.isEmpty then s.dec.streams.eraseIdx n
      else s.dec.streams.set n a.2)).refreshStreams := by
  simp only [backlogPoll, hx, hon, Bool.not_true, Bool.false_eq_true, if_false]

/-! ### GRAMMAR_LOAD (R285, R286) -/

/-- The slot that a GRAMMAR_LOAD names. -/
def gramOf (d : Desc) : Nat := Desc.num d 8 8 % 64

/-- The check of a grammar image of `len` bytes for a free slot: against the table image that the command names, and against the grammar
space beside the images that stand there. -/
def State.gramCheck (s : State) (c : Cmd) (m : Gram) (len : Nat) : Option Nat :=
  Gram.check m len ((s.imageFor (Desc.byte c.desc 36) c.id).map Img.tokens)
    (decide (s.gramBytes + Config.imageBytes 1 len ≤ s.rd .DEC_CFG_GRAM_MIB * 2 ^ 20))

section
variable {s : State} {k : Nat} {c : Cmd}

theorem exec_grammarLoadLoad_of_mayRun (h : s.mayRun k 0x34 c) (hop : opOf 8 8 0 c.desc = true) (src : SrcRead) :
    exec (.grammarLoadLoad k src) s = .next (gramLoad src c (s.setPhase k .running)).sweepImages :=
  congrArg (Host.Outcome.next ∘ State.sweepImages) (begin_of_mayRun h (gramLoad src) hop rfl rfl)

theorem exec_grammarLoadRemove_of_mayRun (h : s.mayRun k 0x34 c) (hop : opOf 8 8 1 c.desc = true) :
    exec (.grammarLoadRemove k) s = .next (gramRemove c (s.setPhase k .running)) :=
  congrArg Host.Outcome.next (begin_of_mayRun h gramRemove hop rfl rfl)

section
variable {m : Gram} {src : SrcRead} (hfree : Map.find s.dec.grams (gramOf c.desc) = none) (hunused : s.gramUsers (gramOf c.desc) = 0)
  (hread : s.readImage c.ctx (Desc.flag c.desc 9) (Desc.num c.desc 16 8) (Desc.num c.desc 24 8) (Desc.num c.desc 32 4) src = .inl m)
include hfree hunused hread

/-- LOAD puts an image that passes its checks into its free slot, where the reserve takes it. -/
theorem gramLoad_of_passed (hpass : s.gramCheck c m (Desc.num c.desc 32 4) = none)
    (hfits : s.rsvFits 0 (Config.imageBytes 1 (Desc.num c.desc 32 4)) = true) :
    let z := Config.imageBytes 1 (Desc.num c.desc 32 4)
    gramLoad src c s = (((s.rsvSwap 0 z).setGram (gramOf c.desc) (some ⟨c.ctx, Desc.byte c.desc 36, m, z⟩)).showGram (gramOf c.desc)).finish
      c.id .ok 0 z := by
  unfold State.gramCheck at hpass
  unfold gramOf at hfree hunused ⊢
  simp only [gramLoad, hfree, hunused, hread, Nat.sub_zero, hpass, hfits, bne_self_eq_false, Bool.not_true, Bool.false_eq_true, if_false]

/-- An image that fails a check is counted and its slot stays free. -/
theorem gramLoad_of_failed {e : Nat} (hfail : s.gramCheck c m (Desc.num c.desc 32 4) = some e) :
    gramLoad src c s = (s.bump .DEC_CNT_COUNT 18 0 1).finish c.id .reservedNonzero 32 0 e := by
  unfold State.gramCheck at hfail
  unfold gramOf at hfree hunused
  simp only [gramLoad, hfree, hunused, hread, Nat.sub_zero, hfail, bne_self_eq_false, Bool.false_eq_true, if_false]

end

/-- REMOVE frees a slot that no stream is bound to, for a context that may change it. -/
theorem gramRemove_of_unused {g : GramSlot} (hg : Map.find s.dec.grams (gramOf c.desc) = some g) (hown : s.foreign c g.owner = false)
    (hunused : s.gramUsers (gramOf c.desc) = 0) : gramRemove c s =
      (((s.rsvSwap g.bytes 0).setGram (gramOf c.desc) none).showGram (gramOf c.desc)).finish c.id .ok := by
  unfold gramOf at hg hunused ⊢
  simp only [gramRemove, hg, hown, hunused, bne_self_eq_false, Bool.false_eq_true, if_false]

end

/-! ### GRAMMAR_BIND (R287) -/

section
variable {s : State} {k : Nat} {c : Cmd}

theorem exec_grammarBindBind_of_mayRun (h : s.mayRun k 0x35 c) (hop : opOf 8 8 0 c.desc = true) (hready : s.streamReady c = true)
    (hspool : s.spoolHere (Desc.handle c.desc) = true) (hlive : s.sessLive c = true) :
    exec (.grammarBindBind k) s = .next (gramBind c (s.setPhase k .running)).sweepImages :=
  have hbind : s.bindReady c = true := by rw [State.bindReady, hready, hspool]; rfl
  congrArg (Host.Outcome.next ∘ State.sweepImages) (begin_of_mayRun h gramBind hop hbind hlive)

theorem exec_grammarBindUnbind_of_mayRun (h : s.mayRun k 0x35 c) (hop : opOf 8 8 1 c.desc = true) (hready : s.streamReady c = true)
    (hlive : s.sessLive c = true) :
    exec (.grammarBindUnbind k) s = .next (gramUnbind c (s.setPhase k .running)) :=
  congrArg Host.Outcome.next (begin_of_mayRun h gramUnbind hop hready hlive)

/-- The state once the stream of `h` is bound to the grammar in slot `n` in configuration `f`. -/
def State.gramBound (s : State) (h n : Nat) (f : GConf) : State :=
  (s.updStream h fun x => { x with gram := some ⟨n, f.1, f.2⟩ }).refreshStreams

section
variable {x : Stream} {y : Session} (hy : s.sess (Desc.handle c.desc) = some y) (hserved : s.ownerRefuse y = none)
  (hx : s.stream (Desc.handle c.desc) = some x)
include hy hserved hx

/-- UNBIND drops the stream's binding. -/
theorem gramUnbind_of_stream : gramUnbind c s =
    ((s.updStream (Desc.handle c.desc) fun x => { x with gram := none }).refreshStreams).finish c.id .ok := by
  simp only [gramUnbind, hy, hserved, hx, Option.isNone_some, Bool.false_eq_true, if_false]

/-- BIND binds the configuration that the replay of the spool reaches, and shows it. -/
theorem gramBind_of_replayed {g : GramSlot} {m : Img} {f : GConf} {n : Nat} {cnt : GCnt}
    (hg : Map.find s.dec.grams (Desc.byte c.desc 16) = some g) (hm : s.imageFor x.conf.table c.id = some m)
    (htokens : Gram.tokens g.data = Img.tokens m) (hfrom : Desc.num c.desc 20 4 ≤ y.spool.length)
    (hreplay : replay g.data m (Desc.num c.desc 20 4) ((y.spool.drop (Desc.num c.desc 20 4)).map SpoolEntry.token)
      (Gram.start g.data, []) GCnt.zero 0 = (.inl (f, n), cnt)) :
    gramBind c s = (((s.bump .DEC_CNT_COUNT 16 0 cnt.stack).bump .DEC_CNT_COUNT 17 0 cnt.limit).gramBound (Desc.handle c.desc)
      (Desc.byte c.desc 16) f).finish c.id .ok 0 (confWord g.data f) n := by
  simp only [gramBind, hy, hserved, hx, hg, hm, htokens, hfrom.not_gt, hreplay, bne_self_eq_false, Bool.false_eq_true, if_false]
  rfl

end
end

/-! ### Lanes (R288) -/

/-- A fault of a mask lane is counted, and the lane is fenced. -/
theorem exec_maskLaneFault_of_lane {lane : Nat} (hlane : lane < 32) (ctx h : Nat) (s : State) :
    exec (.maskLaneFault lane ctx h) s = .next ((s.bump .DEC_CNT_COUNT 19 0 1).fenceLane .DEC_LANES_FENCED 32 1 lane ctx h) :=
  congrArg Host.Outcome.next (if_pos hlane)

/-! ### The statement -/

/-- Settles O36: each form of STREAM_CONF, GRAMMAR_LOAD and GRAMMAR_BIND, SAMPLE in both modes and the poll by the lemmas on their meanings,
a faulty lane by its row. -/
theorem streamsAndGrammars : Obligations.StreamsAndGrammars := by
  unfold Obligations.StreamsAndGrammars
  refine ⟨fun k c s x b hrun hready hlive hx hserved hblock htable => ?stream, fun k list rows reads c s hrun hready hrows hresults => ?sample,
    fun dt h read s x hx hon => congrArg Host.Outcome.next (backlogPoll_of_backlog hx hon read), fun k src c s m hrun hop => ?load,
    fun k c s g hrun hop hg hown hunused => ?remove, fun k c s x y hrun hready hlive hy hserved hx => ?bind,
    fun lane ctx h s hlane => exec_maskLaneFault_of_lane hlane ctx h s⟩
  case stream =>
    obtain rfl := cmd_id hrun.1
    refine ⟨fun hop hnone hall hctx => ?_, fun y hy => ⟨fun hop => ?_, fun read hop haddr => ?_, fun read hop => ?_⟩⟩
    · rw [exec_streamConfOpen_of_mayRun hrun hready hlive hop]
      exact congrArg (Host.Outcome.next ∘ State.sweepImages)
        (streamOpen_of_room (s := s.setPhase c.id .running) hx hserved hblock htable hnone hall hctx)
    · rw [exec_streamConfUpdate_of_mayRun hrun hready hlive hop]
      exact congrArg (Host.Outcome.next ∘ State.sweepImages)
        (streamUpdate_of_stream (s := s.setPhase c.id .running) hx hserved hblock htable hy)
    · rw [exec_streamConfRestart_of_mayRun hrun hready hlive hop]
      exact congrArg (Host.Outcome.next ∘ State.sweepImages)
        (streamRestart_of_stream (s := s.setPhase c.id .running) hx hserved hblock htable hy haddr read)
    · rw [exec_streamConfClose_of_mayRun hrun hready hlive hop]
      exact congrArg (Host.Outcome.next ∘ State.sweepImages)
        (streamClose_of_stream (s := s.setPhase c.id .running) hx hserved hy read)
  case sample =>
    obtain rfl := cmd_id hrun.1
    have hbacked : (s.setPhase c.id .running).sampleBacked c := by
      simpa only [State.sampleBacked, backed_setPhase] using And.intro hrows hresults
    rw [exec_sample_of_mayRun hrun hready]
    refine ⟨fun l hflag hlist => ?_, fun t hflag ht hsample hwithin => ?_⟩
    · subst hlist
      exact congrArg Host.Outcome.next (sampleBody_of_list hbacked rows reads hflag l)
    · exact congrArg Host.Outcome.next (sampleBody_of_step hbacked rows reads hflag ht hsample hwithin list)
  case load =>
    intro r n len z tokens hfree hunused hread
    obtain rfl := cmd_id hrun.1
    rw [exec_grammarLoadLoad_of_mayRun hrun hop]
    exact ⟨fun hpass hfits => congrArg (Host.Outcome.next ∘ State.sweepImages)
        (gramLoad_of_passed (s := s.setPhase c.id .running) hfree hunused hread hpass hfits),
      fun e hfail => congrArg (Host.Outcome.next ∘ State.sweepImages)
        (gramLoad_of_failed (s := s.setPhase c.id .running) hfree hunused hread hfail)⟩
  case remove =>
    obtain rfl := cmd_id hrun.1
    rw [exec_grammarLoadRemove_of_mayRun hrun hop]
    exact congrArg Host.Outcome.next (gramRemove_of_unused (s := s.setPhase c.id .running) hg hown hunused)
  case bind =>
    obtain rfl := cmd_id hrun.1
    refine ⟨fun hop => ?_, fun g m f n cnt hop hspool hg hm htokens hfrom hreplay => ?_⟩
    · rw [exec_grammarBindUnbind_of_mayRun hrun hop hready hlive]
      exact congrArg Host.Outcome.next (gramUnbind_of_stream (s := s.setPhase c.id .running) hy hserved hx)
    · rw [exec_grammarBindBind_of_mayRun hrun hop hready hspool hlive]
      exact congrArg (Host.Outcome.next ∘ State.sweepImages)
        (gramBind_of_replayed (s := s.setPhase c.id .running) hy hserved hx hg hm htokens hfrom hreplay)

end Sys2Proof.Machine
end

section
/-! SUPPORT. The recall engine (R290 to R318): INDEX_CREATE by its operation, CODEBOOK_LOAD, INDEX_INSERT, INDEX_DELETE and their commits,
the rounds of a RECALL_QUERY, compaction, HELPER_LOAD by its operation, ENCODER_RUN. -/

namespace Sys2Proof.Machine

/-! ### INDEX_CREATE (R290, R291, R318) -/

/-- While no evacuation runs, a command's body runs. -/
theorem notEvacuating_of_staying {s : State} (hstay : s.evacuating = false) (body : Cmd → State → State) (c : Cmd) :
    notEvacuating body c s = body c s := by
  simp only [notEvacuating, hstay, Bool.false_eq_true, if_false]

theorem exec_indexCreateCreate_of_mayRun {s : State} {k : Nat} {c : Cmd} (h : s.mayRun k 0x40 c) (hop : opOf 8 8 0 c.desc = true)
    (hstay : s.evacuating = false) : exec (.indexCreateCreate k) s = .next (indexCreate c (s.setPhase k .running)) :=
  congrArg Host.Outcome.next ((begin_of_mayRun h (notEvacuating indexCreate) hop rfl rfl).trans
    (notEvacuating_of_staying (s := s.setPhase k .running) hstay indexCreate c))

theorem exec_indexCreateDestroy_of_mayRun {s : State} {k : Nat} {c : Cmd} (h : s.mayRun k 0x40 c) (hop : opOf 8 8 1 c.desc = true)
    (hstay : s.evacuating = false) (hidle : s.indexIdle c = true) (hlive : s.idxLive (fun c => Desc.handle c.desc) c = true) :
    exec (.indexCreateDestroy k) s = .next (indexDestroy c (s.setPhase k .running)) :=
  congrArg Host.Outcome.next ((begin_of_mayRun h (notEvacuating indexDestroy) hop hidle hlive).trans
    (notEvacuating_of_staying (s := s.setPhase k .running) hstay indexDestroy c))

/-- The empty index that a CREATE without refinement vectors makes in slot `n`, under the slot's next ID. -/
def State.emptyIndex (s : State) (c : Cmd) (n : Nat) : RIndex :=
  ⟨mkIndexId s.myId c.ctx n s.bootgen ((Map.find s.rcl.reuse n).getD 0), Desc.num c.desc 16 2, Desc.byte c.desc 18,
    decide (Desc.byte c.desc 19 = 1), Desc.num c.desc 20 4, Desc.byte c.desc 24, false, none, none, [], [], 0, 0, [], 0, 0, none⟩

/-- The state once slot `n` has an empty page table and no region. -/
def State.indexPagesOpened (s : State) (n : Nat) : State :=
  { s with tier := { s.tier with idxPages := Map.put s.tier.idxPages n [], regions := Map.del s.tier.regions (64 + n) } }

/-- CREATE puts an empty index into the lowest free slot (log 48). -/
theorem indexCreate_of_freeSlot {s : State} {c : Cmd} {n : Nat} (hslot : s.newIndexSlot = some n)
    (hplain : bitAt (Desc.byte c.desc 25) 0 = false) :
    indexCreate c s = ((s.indexPagesOpened n).setIndex n (s.emptyIndex c n)).finish c.id .ok 0 (s.emptyIndex c n).id
      (s.emptyIndex c n).cap := by
  unfold indexCreate State.emptyIndex State.indexPagesOpened
  simp only [hslot, hplain, Bool.false_and, Bool.false_eq_true, if_false]

/-- The state once slot `n`, which held `ix`, is free: items, pages, holds and the table entry are gone, and REUSE has gone up. -/
def State.indexSlotFreed (s : State) (n : Nat) (ix : RIndex) : State :=
  let u := ((s.killItems fun i => decide (i.ix = some n)).emptyAll true n).dropParts n ix
  let v : State := { u with tier := { u.tier with idxPages := Map.del u.tier.idxPages n, regions := Map.del u.tier.regions (64 + n) } }
  v.setRcl { v.rcl with indexes := Map.del v.rcl.indexes n, reuse := Map.put v.rcl.reuse n ((Map.find v.rcl.reuse n).getD 0 + 1) }

/-- DESTROY frees the index's slot and answers with the number of its pages. -/
theorem indexDestroy_of_index {s : State} {c : Cmd} {ix : RIndex} (hix : s.index (xSlot (Desc.handle c.desc)) = some ix) :
    let n := xSlot (Desc.handle c.desc)
    indexDestroy c s = ((s.indexSlotFreed n ix).showIndex n).finish c.id .ok 0 (s.ownerPages true n).length := by
  simp only [indexDestroy, hix]
  rfl

/-! ### CODEBOOK_LOAD (R293, R318) -/

theorem exec_codebookLoad_of_mayRun {s : State} {k : Nat} {c : Cmd} (h : s.mayRun k 0x44 c)
    (hlive : s.idxLive (fun c => Desc.handle c.desc) c = true) (src : SrcRead) :
    exec (.codebookLoad k src) s = .next (codebookLoad src c (s.setPhase k .running)) :=
  congrArg Host.Outcome.next (begin_of_mayRun h (codebookLoad src) rfl rfl hlive)

/-- The index with one of its two codebook parts loaded. -/
def RIndex.withPart (ix : RIndex) (part : Nat) (p : RPart) : RIndex :=
  if part = 0 then { ix with cen := some p } else { ix with prod := some p }

section
variable {s : State} {c : Cmd} {ix : RIndex} {m : Nat} {src : SrcRead} (hix : s.index (xSlot (Desc.handle c.desc)) = some ix)
  (hempty : ix.held = 0) (hlen : Desc.num c.desc 40 8 = ix.partBytes (Desc.byte c.desc 16))
  (hread : s.readImage c.ctx (Desc.flag c.desc 8) (Desc.num c.desc 24 8) (Desc.num c.desc 32 8) (Desc.num c.desc 40 8) src = .inl m)
include hix hempty hlen hread

/-- A part with an element that is not finite is turned away with the element's number. -/
theorem codebookLoad_of_badElement {e : Nat} (hbad : badElement (Desc.byte c.desc 16) (Desc.num c.desc 40 8) m = some e) :
    codebookLoad src c s = s.finish c.id .reservedNonzero 32 0 e := by
  rw [hlen] at hread hbad
  simp only [codebookLoad, hix, hempty, hlen, hread, hbad, bne_self_eq_false, Bool.false_eq_true, if_false]

/-- A part of finite elements that the reserve takes is copied into an index that has none yet. -/
theorem codebookLoad_of_copied (hcopy : Desc.flag c.desc 9 = false) (hcen : ix.cen = none) (hprod : ix.prod = none)
    (hgood : badElement (Desc.byte c.desc 16) (Desc.num c.desc 40 8) m = none) (hfits : s.rsvFits 0 (Desc.num c.desc 40 8) = true) :
    codebookLoad src c s = ((s.rsvSwap 0 (Desc.num c.desc 40 8)).setIndex (xSlot (Desc.handle c.desc))
      (ix.withPart (Desc.byte c.desc 16) ⟨m, Desc.num c.desc 40 8, none⟩)).finish c.id .ok 0 (Desc.num c.desc 40 8) := by
  have hold : (if Desc.byte c.desc 16 = 0 then ix.cen else ix.prod) = none := by rw [hcen, hprod, ite_self]
  rw [hlen] at hread hgood hfits ⊢
  simp only [codebookLoad, hix, hempty, hlen, hread, hgood, hcopy, hold, hfits, bne_self_eq_false, Bool.not_true, Bool.not_false,
    Bool.false_eq_true, if_false, if_true]
  rfl

end

/-! ### INDEX_INSERT (R294, R296, R303, R305, R318) -/

theorem exec_indexInsert_of_mayRun {s : State} {k : Nat} {c : Cmd} (h : s.mayRun k 0x41 c) (hlive : s.idxLive idxField c = true)
    (src : Option (List (List Nat))) (metas : List (List Nat)) :
    exec (.indexInsert k src metas) s = .next (indexInsert src metas c (s.setPhase k .running)) :=
  congrArg Host.Outcome.next (begin_of_mayRun h (indexInsert src metas) rfl rfl hlive)

/-- The forms of an insert's source: items that are coded already, and vectors in BF16. -/
def insertCoded (c : Cmd) : Bool := decide (Desc.byte c.desc 28 = 1)
def insertBf16 (c : Cmd) : Bool := decide (Desc.byte c.desc 29 = 1)
/-- As many of an insert's rows as its COUNT says: of its source, and of its metadata with the item IDs first. -/
def insertRows (c : Cmd) (l : List (List Nat)) : List (List Nat) := l.takeD (Desc.num c.desc 24 4) []
def insertIds (c : Cmd) (metas : List (List Nat)) : List Nat := (insertRows c metas).map fun m => m.headD 0
/-- The entry that an insert's sequence has until its commit. -/
def insertPend (c : Cmd) (metas : List (List Nat)) (void : Option (Status × Nat × Nat)) (err q : Nat) : RPend :=
  ⟨q, c.id, c.ctx, false, void, insertIds c metas, err⟩

/-- The first item of an insert that a check refuses. -/
def RIndex.badInsert (ix : RIndex) (c : Cmd) (l metas : List (List Nat)) : Option (Nat × Nat) :=
  ix.badItem (insertCoded c) (insertBf16 c) (insertRows c l) (insertIds c metas) (insertRows c metas)
/-- The items of an insert, assigned to their lists and encoded. -/
def RIndex.newItems (ix : RIndex) (c : Cmd) (l : List (List Nat)) : List NewItem :=
  (insertRows c l).map (ix.item (insertCoded c) (insertBf16 c))
/-- The index with the entries of an insert under its next sequence. -/
def RIndex.inserted (ix : RIndex) (c : Cmd) (l metas : List (List Nat)) : RIndex :=
  ((ix.newItems c l).zip (insertRows c metas)).foldl (fun i (p : NewItem × List Nat) => i.insert (ix.nextSeq + 1) p.1 p.2) ix
/-- Pages of the blocks that hold entries of the sequence `q` in the lists of `ix2` that differ from those of `ix`. -/
def RIndex.insertedPages (ix ix2 : RIndex) (q : Nat) : List Nat :=
  (ix2.lists.filterMap fun (p : Nat × List RBlock) =>
    if ix.chain p.1 = p.2 then none else some ((p.2.filter fun b => b.entries.any fun e => decide (e.seq = q)).map RBlock.page)).flatten
/-- The largest code error of some items. -/
def largestErr (items : List NewItem) : Nat := items.foldl (fun a x => if f32Lt a x.err then x.err else a) 0
/-- The state once an insert's blocks are written and its sequence waits for its commit. -/
def State.insertWritten (s : State) (c : Cmd) (n : Nat) (ix : RIndex) (l metas : List (List Nat)) : State :=
  let ix2 := ix.inserted c l metas
  ((((s.setIndex n ix2).takeSeq n ix2 (insertPend c metas none (largestErr (ix.newItems c l)))).writePages true n .index
    (ix.insertedPages ix2 (ix.nextSeq + 1))).sinkIndex n)

section
variable {s : State} {c : Cmd} {ix : RIndex} (hix : s.index (xSlot (idxField c)) = some ix) (hlet : ix.refuse = none)
  (hform : (insertCoded c && ix.refine) = false) (metas : List (List Nat))
include hix hlet hform

/-- An insert whose input cannot be read takes the next sequence, void. -/
theorem indexInsert_of_unread :
    indexInsert none metas c s = s.takeSeq (xSlot (idxField c)) ix (insertPend c metas (some (.retryLater, hintMs 1, 0)) 0) := by
  unfold insertCoded at hform
  simp only [indexInsert, hix, hlet, hform, Bool.false_eq_true, if_false]
  rfl

/-- An insert with an item that a check refuses takes the next sequence, void, with the item's number. -/
theorem indexInsert_of_badItem {l : List (List Nat)} {b : Nat × Nat} (hbad : ix.badInsert c l metas = some b) :
    indexInsert (some l) metas c s =
      s.takeSeq (xSlot (idxField c)) ix (insertPend c metas (some (.reservedNonzero, b.1, b.2)) 0) := by
  unfold insertCoded at hform
  unfold RIndex.badInsert insertCoded insertBf16 insertIds insertRows at hbad
  simp only [indexInsert, hix, hlet, hform, hbad, Bool.false_eq_true, if_false]
  rfl

omit hform in
/-- An insert of good items for which the context's entries and T1 have room writes its blocks and forms its SCAN item (log 58). -/
theorem indexInsert_of_room {l : List (List Nat)} (hgood : ix.badInsert c l metas = none) (hplain : ix.refine = false)
    (hentries : Desc.num c.desc 24 4 ≤ min (s.rd .RCL_CTX_MAX_ENTRIES c.ctx - s.heldBy c.ctx) (2 ^ 32 - s.heldAll))
    (hpages : s.t1Used + ((ix.inserted c l metas).nextPage - ix.nextPage) ≤ s.t1Cap) :
    let n := xSlot (idxField c)
    indexInsert (some l) metas c s = (((s.insertWritten c n ix l metas).addItem
      { Item.new .scan .recall c.ctx c.id 0 0 0 0 .ready with ix := some n }).winch s) := by
  unfold RIndex.badInsert insertCoded insertBf16 insertIds insertRows at hgood
  unfold RIndex.inserted RIndex.newItems insertCoded insertBf16 insertRows at hpages
  simp only [indexInsert, hix, hlet, hgood, hplain, hentries.not_gt, hpages.not_gt, Bool.and_false, Bool.false_eq_true, if_false,
    List.eraseDups_nil, State.writeVecs]
  rfl

end

/-! ### INDEX_DELETE and commits (R303, R305) -/

theorem exec_indexDelete_of_mayRun {s : State} {k : Nat} {c : Cmd} (h : s.mayRun k 0x42 c) (hlive : s.idxLive idxField c = true)
    (ids : Option (List Nat)) : exec (.indexDelete k ids) s = .next (indexDelete ids c (s.setPhase k .running)) :=
  congrArg Host.Outcome.next (begin_of_mayRun h (indexDelete ids) rfl rfl hlive)

section
variable {s : State} {c : Cmd} {ix : RIndex} (hix : s.index (xSlot (idxField c)) = some ix) (hlet : ix.refuse = none)
include hix hlet

/-- A delete whose IDs cannot be read takes the next sequence, void. -/
theorem indexDelete_of_unread : indexDelete none c s =
    s.takeSeq (xSlot (idxField c)) ix fun q => ⟨q, c.id, c.ctx, true, some (.retryLater, hintMs 1, 0), [], 0⟩ := by
  simp only [indexDelete, hix, hlet]

/-- A delete takes the next sequence, with its IDs. -/
theorem indexDelete_of_ids (l : List Nat) : indexDelete (some l) c s =
    s.takeSeq (xSlot (idxField c)) ix fun q => ⟨q, c.id, c.ctx, true, none, l.takeD (Desc.num c.desc 24 4) 0, 0⟩ := by
  simp only [indexDelete, hix, hlet]

end

/-- A commit of the index that stands in its slot commits the next sequence; one of an ID that is not there does nothing. -/
theorem exec_indexCommit_of_index {x : Nat} {s : State} {ix : RIndex} (hix : s.index (xSlot x) = some ix) :
    exec (.indexCommit x) s = .next (if ix.id = x then s.commitNext (xSlot x) else s) := by
  refine congrArg Host.Outcome.next ?_
  rw [hix]

/-! ### RECALL_QUERY and its rounds (R293, R304, R307) -/

theorem exec_recallQuery_of_mayRun {s : State} {k : Nat} {c : Cmd} (h : s.mayRun k 0x43 c) (hlive : s.idxLive idxField c = true)
    (queries : Option (List (List Nat))) (filters : List Nat) :
    exec (.recallQuery k queries filters) s = .next (recallQuery queries filters c (s.setPhase k .running)) :=
  congrArg Host.Outcome.next (begin_of_mayRun h (recallQuery queries filters) rfl rfl hlive)

/-- The run of a RECALL_QUERY: its snapshot is the index's CSEQ, and each query starts with its filter. -/
def RIndex.newRun (ix : RIndex) (c : Cmd) (l : List (List Nat)) (filters : List Nat) : RRun :=
  ⟨c.id, c.ctx, xSlot (idxField c), ix.cseq, Desc.num c.desc 26 2, Desc.num c.desc 28 2, Desc.num c.desc 32 4, Desc.num c.desc 30 2,
    Desc.num c.desc 56 8, 1, 0, ((l.takeD (Desc.num c.desc 24 2) []).zip (filters.takeD (Desc.num c.desc 24 2) 0)).map
      fun (p : List Nat × Nat) =>
        ix.query (Desc.flag c.desc 8) (Desc.num c.desc 28 2) (Desc.num c.desc 32 4) (Desc.num c.desc 36 4) p.1 p.2⟩

/-- A run whose queries are all closed ends; another one forms its round, and the winch gives out the gores. -/
def State.endOrForm (s : State) (r : RRun) (ix : RIndex) : State :=
  if r.queries.all RQuery.closed then s.endRun r else (s.formRound r ix).winch s

section
variable {s : State} {c : Cmd} {ix : RIndex} (hix : s.index (xSlot (idxField c)) = some ix) (hready : ix.ready = true)
  (hprobe : Desc.num c.desc 28 2 ≤ ix.nlist) (hwiden : Desc.num c.desc 32 4 ≤ ix.nlist) (filters : List Nat)
include hix hready hprobe hwiden

/-- A query whose vectors cannot be read is to be tried again. -/
theorem recallQuery_of_unread : recallQuery none filters c s = s.finish c.id .retryLater (hintMs 1) := by
  simp only [recallQuery, hix, hready, hprobe.not_gt, hwiden.not_gt, Bool.not_true, Bool.false_eq_true, if_false]

/-- The invalid queries of a run are closed, and it ends or forms its first round. -/
theorem recallQuery_of_read (hwell : ix.failed = none) (l : List (List Nat)) :
    let a := ((s.bump .RCL_CNT_COUNT 0 0 (Desc.num c.desc 24 2)).bump .RCL_CTX_CNT_COUNT c.ctx 1 (Desc.num c.desc 24 2)).closeBad
      (ix.newRun c l filters)
    recallQuery (some l) filters c s = (a.1.setRcl { a.1.rcl with runs := a.1.rcl.runs ++ [a.2] }).endOrForm a.2 ix := by
  simp only [recallQuery, hix, hready, hprobe.not_gt, hwiden.not_gt, hwell, Option.isSome_none, Bool.not_true, Bool.false_eq_true, if_false]
  rfl

end

/-- Every query of a run at the end of a round, in order, with the refinement pages that are lost. -/
def State.roundQueries (s : State) (ix : RIndex) (r : RRun) (lost : List Nat) : State × List RQuery :=
  r.queries.foldl (fun (a : State × List RQuery) q =>
    let b := a.1.roundQuery ix r lost a.2.length q
    (b.1, a.2 ++ [b.2])) (s, [])

/-- A round whose items have all ended takes the run's queries on, and the run ends or forms its next round. -/
theorem queryRoundEnd_of_scanned {s : State} {k : Nat} {r : RRun} {ix : RIndex} (hr : s.run? k = some r)
    (hscanned : s.gore.items.any (runItem k) = false) (hix : s.index r.slot = some ix) (unread : List (Nat × Nat)) :
    let u := s.loseVecs r.slot (unread.map Prod.fst)
    let a := u.roundQueries ix r (u.lostVecs r.slot)
    let r2 := { r with queries := a.2, round := r.round + 1 }
    queryRoundEnd k unread s = (a.1.setRun r2).endOrForm r2 ix := by
  simp only [queryRoundEnd, hr, hscanned, hix, Bool.false_eq_true, if_false]
  rfl

/-! ### Compaction (R306) -/

/-- The entries of a list that no snapshot sees any more. -/
def State.deadEntries (s : State) (n : Nat) (ix : RIndex) (l : Nat) : List REntry :=
  (chainEntries (ix.chain l)).filter fun e => e.reclaimable (s.floorSeq n ix)
/-- The SCAN item of a compaction (log 58): it stands for no command, and its owner is the context of the index. -/
def compactionItem (n : Nat) (ix : RIndex) (l : Nat) : Item :=
  { Item.new .scan .recall (hCtx ix.id) (2 ^ 60 + l) 0 0 0 0 .ready with ix := some n }

/-- An old chain of the list that no run of a query reads any more. -/
def State.oldDone (s : State) (l : Nat) (o : ROld) : Bool :=
  decide (o.list = l) && !(o.readers.any fun k => s.rcl.runs.any fun r => decide (r.cmd = k))
/-- The entries that a compaction keeps: those that are not reclaimable at its end (log 189). -/
def State.keptEntries (s : State) (n : Nat) (ix : RIndex) (l : Nat) : List REntry :=
  (chainEntries (ix.chain l)).filter fun e => !e.reclaimable (s.floorSeq n ix)
/-- The blocks into which a compaction packs what it keeps. -/
def State.packedBlocks (s : State) (n : Nat) (ix : RIndex) (l : Nat) : List RBlock :=
  packBlocks ix.cap ((s.keptEntries n ix l).length + 1) ix.nextPage (s.keptEntries n ix l)
/-- The index with the packed blocks in place of a list, whose old chain stays for the queries in flight. -/
def State.packedIndex (s : State) (n : Nat) (ix : RIndex) (l : Nat) : RIndex :=
  { ix with
    lists := if (s.packedBlocks n ix l).isEmpty then Map.del ix.lists l else Map.put ix.lists l (s.packedBlocks n ix l)
    nextPage := ix.nextPage + (s.packedBlocks n ix l).length
    olds := ix.olds ++ [⟨l, ix.chain l, (s.rcl.runs.filter fun r => decide (r.slot = n)).map RRun.cmd⟩] }

section
variable {s : State} {n l : Nat} {ix : RIndex} (hix : s.index n = some ix)
include hix

/-- A list whose dead entries reach COMPACT_PCT, and whose compaction is not under way, gets an item. -/
theorem compactionStart_of_due (hwell : ix.failed = none) (hsome : (s.deadEntries n ix l).length ≠ 0)
    (hdue : s.rd .RCL_CFG_COMPACT_PCT * (chainEntries (ix.chain l)).length ≤ (s.deadEntries n ix l).length * 100)
    (hnew : (s.gore.items.any fun i => runItem (2 ^ 60 + l) i && decide (i.ix = some n)) = false) :
    compactionStart n l s = (s.addItem (compactionItem n ix l)).winch s := by
  unfold State.deadEntries at hsome hdue
  simp only [compactionStart, hix, hsome, hdue.not_gt, hwell, hnew, Option.isSome_none, decide_false, Bool.or_self, Bool.false_eq_true,
    if_false]
  rfl

/-- A list whose dead entries do not reach COMPACT_PCT is left. -/
theorem compactionStart_of_notDue
    (hfew : (s.deadEntries n ix l).length * 100 < s.rd .RCL_CFG_COMPACT_PCT * (chainEntries (ix.chain l)).length) :
    compactionStart n l s = s := by
  unfold State.deadEntries at hfew
  simp only [compactionStart, hix, hfew, decide_true, Bool.or_true, Bool.true_or, if_true]

/-- The old chains of a list that nobody reads are dropped, their pages released, and the refinement pages with them. -/
theorem freeOld_of_index : s.freeOld n l =
    (((ix.olds.filter (s.oldDone l)).flatMap fun o => o.blocks.map RBlock.page).foldl
      (fun s p => s.emptyPage ⟨true, n, pageKey .index p⟩)
      (s.setIndex n { ix with olds := ix.olds.filter fun o => !s.oldDone l o })).sweepVecs n := by
  simp only [State.freeOld, hix]
  rfl

/-- The swap of a list writes the packed blocks and the ID map, and is counted. -/
theorem swapList_of_index : s.swapList n l =
    ((((s.setIndex n (s.packedIndex n ix l)).writePages true n .index ((s.packedBlocks n ix l).map RBlock.page)).mapWritten n).bump
      .RCL_CNT_COUNT 13 0 1).bump .RCL_CNT_COUNT 14 0 ((chainEntries (ix.chain l)).length - (s.keptEntries n ix l).length) := by
  simp only [State.swapList, hix]
  rfl

end

/-- The end of a compaction's item swaps its list. -/
theorem scanEnd_of_compaction {i : Item} {n l : Nat} (hstep : i.step = 2 ^ 60 + l) (hown : i.ix = some n) (s : State) :
    s.scanEnd i = (s.dropItem i).swapList n l := by
  simp only [State.scanEnd, hstep, hown, Nat.le_add_right, if_true, Nat.add_sub_cancel_left]

/-! ### HELPER_LOAD (R202, R313 to R315, R318) -/

theorem exec_helperLoadLoad_of_mayRun {s : State} {k : Nat} {c : Cmd} (h : s.mayRun k 0x46 c) (hop : opOf 8 8 0 c.desc = true)
    (hidle : s.encIdle c = true) (src : SrcRead) :
    exec (.helperLoadLoad k src) s = .next (helperLoad src c (s.setPhase k .running)) :=
  congrArg Host.Outcome.next (begin_of_mayRun h (helperLoad src) hop hidle rfl)

theorem exec_helperLoadRemove_of_mayRun {s : State} {k : Nat} {c : Cmd} (h : s.mayRun k 0x46 c) (hop : opOf 8 8 1 c.desc = true)
    (hidle : s.encIdle c = true) : exec (.helperLoadRemove k) s = .next (helperRemove c (s.setPhase k .running)) :=
  congrArg Host.Outcome.next (begin_of_mayRun h helperRemove hop hidle rfl)

/-- The slot that a HELPER_LOAD names. -/
def helperOf (d : Desc) : Nat := Desc.handle d % 16

section
variable {s : State} {c : Cmd}

section
variable {m : Nat} {src : SrcRead} (hfree : Map.find s.rcl.helpers (helperOf c.desc) = none)
  (hread : s.readImage c.ctx (Desc.flag c.desc 9) (Desc.num c.desc 16 8) (Desc.num c.desc 24 8) (Desc.num c.desc 32 8) src = .inl m)
include hfree hread

/-- An image that fails a check leaves its slot free. -/
theorem helperLoad_of_failed {e : Nat} (hfail : helperCheck m (Desc.num c.desc 32 8) = some e) :
    helperLoad src c s = s.finish c.id .reservedNonzero 32 0 e := by
  unfold helperOf at hfree
  simp only [helperLoad, hfree, hread, hfail, Bool.false_eq_true, if_false]

/-- An image that passes its checks goes into its free slot, in the reserve, where both limits leave room. -/
theorem helperLoad_of_room (hpass : helperCheck m (Desc.num c.desc 32 8) = none)
    (hlimit : s.helperBytes + Config.imageBytes 2 (Desc.num c.desc 32 8) ≤ s.rd .GORE_HELPER_T1_GIB * 2 ^ 30)
    (hfits : s.rsvFits 0 (Config.imageBytes 2 (Desc.num c.desc 32 8)) = true) :
    let z := Config.imageBytes 2 (Desc.num c.desc 32 8)
    helperLoad src c s =
      (((s.rsvSwap 0 z).lendPages [] false).setHelper (helperOf c.desc) (some ⟨c.ctx, m, z, [], []⟩)).finish c.id .ok 0 z 0 0 := by
  unfold helperOf at hfree ⊢
  simp only [helperLoad, hfree, hread, hpass, Nat.sub_zero, hlimit, hfits, decide_true, Bool.not_true, Bool.and_false, Bool.and_self,
    Bool.false_eq_true, if_false, if_true]
  rfl

end

section
variable {h : HelperSlot} (hslot : Map.find s.rcl.helpers (helperOf c.desc) = some h)
include hslot

/-- REMOVE of another context's slot needs MGMT. -/
theorem helperRemove_of_foreign (hown : s.foreign c h.owner = true) : helperRemove c s = s.finish c.id .authFail 3 := by
  unfold helperOf at hslot
  simp only [helperRemove, hslot, hown, if_true]

/-- REMOVE frees the slot, with what it holds of the reserve and of T2. -/
theorem helperRemove_of_own (hown : s.foreign c h.owner = false) :
    helperRemove c s = (((s.rsvSwap h.bytes 0).lendPages h.t2 true).setHelper (helperOf c.desc) none).finish c.id .ok := by
  unfold helperOf at hslot ⊢
  simp only [helperRemove, hslot, hown, Bool.false_eq_true, if_false]

end
end

/-! ### ENCODER_RUN (R316 to R318) -/

theorem exec_encoderRun_of_mayRun {s : State} {k : Nat} {c : Cmd} (h : s.mayRun k 0x45 c) (tokens : Option (List Nat)) (offs : List Nat) :
    exec (.encoderRun k tokens offs) s = .next (encoderRun tokens offs c (s.setPhase k .running)) :=
  congrArg Host.Outcome.next (begin_of_mayRun h (encoderRun tokens offs) rfl rfl rfl)

/-- The offsets of a run's sequences, one more than there are sequences. -/
def encOffs (c : Cmd) (offs : List Nat) : List Nat := offs.takeD (Desc.num c.desc 18 2 + 1) 0
/-- The tokens of all its sequences. -/
def encTokens (c : Cmd) (l offs : List Nat) : List Nat := l.takeD ((encOffs c offs).getD (Desc.num c.desc 18 2) 0) 0
/-- The length of sequence `i`; the first one has none where the offsets do not start at 0. -/
def encLen (c : Cmd) (offs : List Nat) (i : Nat) : Nat :=
  if decide (i = 0) && (encOffs c offs).getD 0 0 != 0 then 0 else (encOffs c offs).getD (i + 1) 0 - (encOffs c offs).getD i 0
/-- The first sequence that is empty, longer than the image allows, or beyond the tokens of one run. -/
def badSeq (c : Cmd) (m : Img) (offs : List Nat) : Option Nat :=
  (List.range (Desc.num c.desc 18 2)).find? fun i => decide (encLen c offs i = 0) || decide (Img.u16 m 20 < encLen c offs i) ||
    decide (262144 < (encOffs c offs).getD (i + 1) 0)
/-- The run of an ENCODER_RUN, before its first layer. -/
def newEncRun (c : Cmd) (m : Img) (l offs : List Nat) : EncRun :=
  ⟨c.id, Desc.byte c.desc 16, m, 0, (List.range (Desc.num c.desc 18 2)).map fun i =>
    ((encTokens c l offs).drop ((encOffs c offs).getD i 0)).take (encLen c offs i)⟩

section
variable {s : State} {c : Cmd} {m : Img} (hm : s.helperFor (Desc.byte c.desc 16) c.id = some m) (offs : List Nat)
include hm

/-- A run whose tokens cannot be read is to be tried again. -/
theorem encoderRun_of_unread : encoderRun none offs c s = s.finish c.id .retryLater (hintMs 1) := by
  simp only [encoderRun, hm]

/-- A run of good sequences of the image's tokens starts with the item of its first layer. -/
theorem encoderRun_of_good {l : List Nat} (hseqs : badSeq c m offs = none)
    (htokens : (encTokens c l offs).findIdx? (fun t => decide (Img.u32 m 16 ≤ t)) = none) :
    let e := newEncRun c m l offs
    let u := s.setRcl { s.rcl with encs := s.rcl.encs ++ [e] }
    encoderRun (some l) offs c s = (u.layerItem c.ctx e).winch u := by
  unfold badSeq encLen encOffs at hseqs
  unfold encTokens encOffs at htokens
  simp only [encoderRun, hm, hseqs, htokens]
  rfl

end

/-! ### The statement -/

/-- Settles O37: each command, event and item by the lemmas on its meaning. -/
theorem recallCommands : Obligations.RecallCommands := by
  unfold Obligations.RecallCommands
  refine ⟨fun k c s n h hop hstay hslot hplain => ?create, fun k c s ix h hop hstay hidle hlive hix => ?destroy,
    fun k src c s ix m h hlive hix hempty hlen hcopy hcen hprod => ?codebook, fun k c s ix h hlive hix hlet hform => ?insert,
    fun k c s ix h hlive hix hlet => ?delete, fun x s ix hix => ?commit,
    fun k fl c s ix h hlive hix hready hprobe hwiden hwell => ?query,
    fun dt k unread s r ix hr hscanned hix => congrArg Host.Outcome.next (queryRoundEnd_of_scanned hr hscanned hix unread),
    fun n l s ix hix hwell => ?compaction, fun dt g n l s i ix hi hkind hstep hown hend => ?swap,
    fun k src c s m h hop hidle => ?load, fun k c s slot h hop hidle hslot => ?remove, fun k c s m h hm => ?encode⟩
  case create =>
    obtain rfl := cmd_id h.1
    rw [exec_indexCreateCreate_of_mayRun h hop hstay]
    exact congrArg Host.Outcome.next (indexCreate_of_freeSlot (s := s.setPhase c.id .running) hslot hplain)
  case destroy =>
    obtain rfl := cmd_id h.1
    rw [exec_indexCreateDestroy_of_mayRun h hop hstay hidle hlive]
    exact congrArg Host.Outcome.next (indexDestroy_of_index (s := s.setPhase c.id .running) hix)
  case codebook =>
    intro r n len hread
    obtain rfl := cmd_id h.1
    rw [exec_codebookLoad_of_mayRun h hlive]
    exact ⟨fun e hbad => congrArg Host.Outcome.next (codebookLoad_of_badElement (s := r) hix hempty hlen hread hbad),
      fun hgood hfits => congrArg Host.Outcome.next
        (codebookLoad_of_copied (s := r) hix hempty hlen hread hcopy hcen hprod hgood hfits)⟩
  case insert =>
    obtain rfl := cmd_id h.1
    refine ⟨fun metas => ?_, fun l metas b hbad => ?_, fun l metas hgood hplain hentries => ?_⟩
    · rw [exec_indexInsert_of_mayRun h hlive]
      exact congrArg Host.Outcome.next (indexInsert_of_unread (s := s.setPhase c.id .running) hix hlet hform metas)
    · rw [exec_indexInsert_of_mayRun h hlive]
      exact congrArg Host.Outcome.next (indexInsert_of_badItem (s := s.setPhase c.id .running) hix hlet hform metas hbad)
    · intro items q ix2 hpages
      rw [exec_indexInsert_of_mayRun h hlive]
      exact congrArg Host.Outcome.next
        (indexInsert_of_room (s := s.setPhase c.id .running) hix hlet metas hgood hplain hentries hpages)
  case delete =>
    obtain rfl := cmd_id h.1
    refine ⟨?_, fun l => ?_⟩ <;> rw [exec_indexDelete_of_mayRun h hlive]
    · exact congrArg Host.Outcome.next (indexDelete_of_unread (s := s.setPhase c.id .running) hix hlet)
    · exact congrArg Host.Outcome.next (indexDelete_of_ids (s := s.setPhase c.id .running) hix hlet l)
  case commit =>
    rw [exec_indexCommit_of_index hix]
    exact ⟨fun hsame => congrArg Host.Outcome.next (if_pos hsame), fun hother => congrArg Host.Outcome.next (if_neg hother)⟩
  case query =>
    obtain rfl := cmd_id h.1
    refine ⟨?_, fun l => ?_⟩ <;> rw [exec_recallQuery_of_mayRun h hlive]
    · exact congrArg Host.Outcome.next (recallQuery_of_unread (s := s.setPhase c.id .running) hix hready hprobe hwiden fl)
    · exact congrArg Host.Outcome.next (recallQuery_of_read (s := s.setPhase c.id .running) hix hready hprobe hwiden fl hwell l)
  case compaction =>
    exact ⟨fun hsome hdue hnew => congrArg Host.Outcome.next (compactionStart_of_due hix hwell hsome hdue hnew),
      fun hfew => congrArg Host.Outcome.next (compactionStart_of_notDue hix hfew), congrArg Host.Outcome.next (freeOld_of_index hix)⟩
  case swap =>
    intro u hix
    have hitem := itemEnd_of_mayEnd hi hend hkind
    have hswap := (scanEnd_of_compaction hstep hown _).trans (swapList_of_index (l := l) hix)
    exact congrArg Host.Outcome.next (hitem.trans (congrArg (fun t : State => t.winch (s.pass dt)) hswap))
  case load =>
    intro r n len z hfree hread
    obtain rfl := cmd_id h.1
    rw [exec_helperLoadLoad_of_mayRun h hop hidle]
    exact ⟨fun e hfail => congrArg Host.Outcome.next (helperLoad_of_failed (s := r) hfree hread hfail),
      fun hpass hlimit hfits => congrArg Host.Outcome.next (helperLoad_of_room (s := r) hfree hread hpass hlimit hfits)⟩
  case remove =>
    obtain rfl := cmd_id h.1
    rw [exec_helperLoadRemove_of_mayRun h hop hidle]
    exact ⟨fun hown => congrArg Host.Outcome.next (helperRemove_of_foreign (s := s.setPhase c.id .running) hslot hown),
      fun hown => congrArg Host.Outcome.next (helperRemove_of_own (s := s.setPhase c.id .running) hslot hown)⟩
  case encode =>
    obtain rfl := cmd_id h.1
    refine ⟨fun offs => ?_, fun l offs => ?_⟩
    · rw [exec_encoderRun_of_mayRun h]
      exact congrArg Host.Outcome.next (encoderRun_of_unread (s := s.setPhase c.id .running) hm offs)
    · intro o l' len hseqs htokens
      rw [exec_encoderRun_of_mayRun h]
      exact congrArg Host.Outcome.next (encoderRun_of_good (s := s.setPhase c.id .running) hm offs hseqs htokens)

end Sys2Proof.Machine
end

section
/-! SUPPORT. The pool's lending (R323 to R329): LEND_SET and its reclaim limit, extents granted and released, ranges that appear and objects
that leave, CXL.mem requests. -/

namespace Sys2Proof.Machine

/-! ### LEND_SET (R326, R328) -/

theorem exec_lendSet_of_mayRun {s : State} {k : Nat} {c : Cmd} (h : s.mayRun k 0x55 c) (hidle : s.pool.lend = none) :
    exec (.lendSet k) s = .next (lendSet c (s.setPhase k .running)) :=
  congrArg Host.Outcome.next (begin_of_mayRun h lendSet rfl (Option.isNone_iff_eq_none.mpr hidle) rfl)

/-- The figures of a LEND_SET in GiB: of T1, of T2, of the region store. -/
def lendT1 (c : Cmd) : Nat := Desc.num c.desc 16 4
def lendT2 (c : Cmd) : Nat := Desc.num c.desc 20 4
def lendRegion (c : Cmd) : Nat := Desc.num c.desc 24 4
/-- The state once the run of a LEND_SET stands in the pool. -/
def State.lendStarted (s : State) (c : Cmd) (room : Bool) : State :=
  s.setPool { s.pool with
    lend := some ⟨c.id, Desc.flag c.desc 8, lendT1 c, lendT2 c, lendRegion c, s.now + 100000 * Desc.num c.desc 28 4, room⟩
    t2Allow := Desc.num c.desc 32 8 }

section
variable {s : State} {c : Cmd}

/-- A region store that holds more than its new figure is turned away. -/
theorem lendSet_of_storeOver (hover : 16384 * lendRegion c < s.storePages) : lendSet c s = s.finish c.id .reservedNonzero 24 :=
  if_pos hover

/-- Figures for which T1 has the room are in effect at once, and what is granted beyond them is asked back. -/
theorem lendSet_of_room (hstore : s.storePages ≤ 16384 * lendRegion c) (hroom : s.lendRoom (lendT1 c) (lendRegion c) = true) :
    lendSet c s = ((((s.lendStarted c true).putLend (lendT1 c) (lendT2 c) (lendRegion c)).askBack false (lendT1 c)).askBack true
      (lendT2 c)).checkLend := by
  unfold State.lendStarted lendT1 lendT2 lendRegion at *
  simp only [lendSet, hstore.not_gt, hroom, if_false, if_true]

/-- Figures for which T1 lacks the room press pages out of it first. -/
theorem lendSet_of_noRoom (hstore : s.storePages ≤ 16384 * lendRegion c) (hfull : s.lendRoom (lendT1 c) (lendRegion c) = false) :
    lendSet c s = ((((s.lendStarted c false).press 1 none State.lendFits ((s.lendStarted c false).allPages.length + 1) [] []).askBack false
      (lendT1 c)).askBack true (lendT2 c)).checkLend := by
  unfold State.lendStarted lendT1 lendT2 lendRegion at *
  simp only [lendSet, hstore.not_gt, hfull, Bool.false_eq_true, if_false]

end

/-! ### The reclaim limit (R326, R328) -/

/-- The state at the reclaim limit and the number of extents that it revokes: with FORCE those that were asked back and have not come. -/
def State.atLimit (s : State) (r : LendRun) : State × Nat := if r.force then s.revokeAsked else (s, 0)
/-- The end of a LEND_SET whose room is made: its figures are in effect, and what stands beyond them makes it PARTIAL. -/
def State.endRoomy (s : State) (r : LendRun) (revoked : Nat) : State :=
  let v := s.putLend r.t1 r.t2 r.region
  if v.excess r = 0 then v.endLend r .ok 0 revoked else v.endLend r .partialDone 2 0
/-- The end of a LEND_SET whose room was not made: the figures reached (log 47). -/
def State.endReached (s : State) (r : LendRun) (revoked : Nat) : State :=
  (s.putLend (s.reached r).1 r.t2 (s.reached r).2).endLend r .partialDone 1 revoked

theorem atLimit_of_force (s : State) {r : LendRun} (hforce : r.force = true) : s.atLimit r = s.revokeAsked := if_pos hforce

theorem atLimit_of_noForce (s : State) {r : LendRun} (hforce : r.force = false) : s.atLimit r = (s, 0) := by
  simp only [State.atLimit, hforce, Bool.false_eq_true, if_false]

section
variable {s : State} {r : LendRun} (hr : s.pool.lend = some r)
include hr

theorem lendTimeout_of_early (hearly : s.now < r.due) : lendTimeout s = s := by
  simp only [lendTimeout, hr, hearly, if_true]

section
variable {u : State} {n : Nat} (hu : s.atLimit r = (u, n)) (hdue : r.due ≤ s.now)
include hu hdue

theorem lendTimeout_of_room (hroom : r.room = true ∨ u.lendRoom r.t1 r.region = true) : lendTimeout s = u.endRoomy r n := by
  have hmade : (!r.room && !u.lendRoom r.t1 r.region) = false := by
    rcases hroom with h | h <;> simp [h]
  unfold State.atLimit at hu
  simp only [lendTimeout, hr, hdue.not_gt, hu, hmade, Bool.false_eq_true, if_false]
  rfl

theorem lendTimeout_of_noRoom (hopen : r.room = false) (hfull : u.lendRoom r.t1 r.region = false) : lendTimeout s = u.endReached r n := by
  unfold State.atLimit at hu
  simp only [lendTimeout, hr, hdue.not_gt, hu, hopen, hfull, Bool.not_false, Bool.and_self, if_false, if_true]
  rfl

end
end

/-! ### Extents (R326 to R328) -/

/-- The extent that a logical device gets next: it follows the device's last one (log 48). -/
def State.nextExtent (s : State) (port ld gib : Nat) (t2 : Bool) (parts : List (Nat × Nat)) : Extent :=
  ⟨port, ld, (s.pool.extents.filter fun e => decide (e.port = port) && decide (e.ld = ld)).foldl (fun a e => max a (e.base + e.gib)) 0, gib, t2,
    false, false, s.pool.nextExt, parts⟩
/-- The state once an extent is granted: zero-filled, counted and announced. -/
def State.grantExtent (s : State) (e : Extent) : State :=
  let u := s.setPool { s.pool with extents := s.pool.extents ++ [e], nextExt := s.pool.nextExt + 1 }
  ((((u.lendPages e.parts false).zeroExtent e).refreshLend).bump .POOL_CNT_COUNT 6 0 1).emit (.fm e.port e.ld 0 e.base)
/-- The state once an extent is refused. -/
def State.refuseExtent (s : State) (port ld : Nat) : State := (s.bump .POOL_CNT_COUNT 9 0 1).emit (.fm port ld 1 0)

section
variable {s : State} {port ld : Nat} (hport : port < 4) (hup : s.on .POOL_PORT_STS_UP port = true)
  (hmode : s.rd .POOL_PORT_STS_MODE port = 2) (hld : ld < s.lds port) {gib : Nat}
include hport hup hmode hld

/-- An extent comes from T1 while its figure has the room. -/
theorem extentAdd_of_t1 (ht1 : s.granted false + gib ≤ s.rd .POOL_LEND_T1_GIB) :
    extentAdd port ld gib s = s.grantExtent (s.nextExtent port ld gib false []) := by
  simp only [extentAdd, hport, hup, hmode, hld, ht1, decide_true, Bool.and_self, if_true]
  rfl

section
variable (ht1 : s.rd .POOL_LEND_T1_GIB < s.granted false + gib)
include ht1

/-- Past the figure of T1, an extent comes from the objects of T2 that have the pages. -/
theorem extentAdd_of_t2 (ht2 : s.granted true + gib ≤ s.rd .POOL_LEND_T2_GIB) {parts : List (Nat × Nat)} (hparts : s.takeT2 gib = some parts) :
    extentAdd port ld gib s = s.grantExtent (s.nextExtent port ld gib true parts) := by
  simp only [extentAdd, hport, hup, hmode, hld, ht1.not_ge, ht2, hparts, decide_true, Bool.and_self, if_false, if_true]
  rfl

theorem extentAdd_of_noPages (ht2 : s.granted true + gib ≤ s.rd .POOL_LEND_T2_GIB) (hparts : s.takeT2 gib = none) :
    extentAdd port ld gib s = s.refuseExtent port ld := by
  simp only [extentAdd, hport, hup, hmode, hld, ht1.not_ge, ht2, hparts, decide_true, Bool.and_self, if_false, if_true]
  rfl

theorem extentAdd_of_noFigure (ht2 : s.rd .POOL_LEND_T2_GIB < s.granted true + gib) : extentAdd port ld gib s = s.refuseExtent port ld := by
  simp only [extentAdd, hport, hup, hmode, hld, ht1.not_ge, ht2.not_ge, decide_true, Bool.and_self, if_false, if_true]
  rfl

end
end

theorem extentReleased_of_extent {s : State} {port ld base : Nat} {e : Extent}
    (he : s.pool.extents.find? (fun e => decide (e.port = port) && decide (e.ld = ld) && decide (e.base = base)) = some e) :
    extentReleased port ld base s = s.freeExtent e := by
  simp only [extentReleased, he]

/-! ### Borrowing (R323 to R325) -/

/-- The state once a leaving object is told to go: its pages are on their way out, and its CLEAN ones are down. -/
def State.leaveObject (s : State) (o : Nat) : State :=
  ((s.setPool { s.pool with leaving := setBitN s.pool.leaving o true }).vacate o).dropCleanIn o
/-- A page still lies in the object with no write under way. -/
def State.waitsIn (s : State) (o : Nat) : Bool :=
  s.allPages.any fun e => e.2.2.2.writing.isNone && e.2.2.2.places.any fun p => match p with | .obj o2 _ => decide (o2 = o) | .t1 => false

/-- An object that is asked back is vacated; pages that wait for room are counted. -/
theorem exec_extentReleaseRequest_of_present {s : State} {o : Nat} (ho : o < 32) (hpresent : s.on .TIER_OBJ_A_PRESENT o = true)
    (hstays : bitAt s.pool.leaving o = false) :
    exec (.extentReleaseRequest o) s = .next
      (if (s.leaveObject o).waitsIn o then (s.leaveObject o).bump .POOL_CNT_COUNT 10 0 1 else s.leaveObject o).checkLeaving := by
  refine congrArg Host.Outcome.next ?_
  simp only [extentReleaseRequest, ho, hpresent, hstays, decide_true, Bool.not_false, Bool.and_self, if_true]
  rfl

/-- The state once a range has become object `o`: a window to its home where it is a region store, else memory, lent or plain. -/
def State.rangeFound (s : State) (o port bytes kind lender : Nat) : State :=
  let u := s.findObject o port 0 (if kind = 2 then 0 else bytes / 65536)
  let v := (u.wr .POOL_OBJ_WINDOW o 0 (b2n (decide (kind = 2)))).wr .POOL_OBJ_HOME o 0 (if kind = 2 then lender else 0)
  let w := (v.wr .POOL_OBJ_LENDER o 0 (b2n (decide (kind = 1)))).wr .POOL_OBJ_LENDER_ID o 0 (if kind = 1 then lender else 0)
  (w.wr .TIER_OBJ_A_EN o 0 (b2n (kind != 2))).refreshCaps

section
variable {s : State} {port : Nat} (hport : port < 4) (hup : s.on .POOL_PORT_STS_UP port = true) (hmode : s.rd .POOL_PORT_STS_MODE port = 1)
  {dpa bytes : Nat} (kind lender : Nat)
include hport hup hmode

/-- A range that appears while every object is taken is counted and dropped. -/
theorem rangeAppears_of_full (hfull : (List.range 32).find? (fun o => !s.on .TIER_OBJ_A_PRESENT o) = none) :
    rangeAppears port dpa bytes kind lender s = s.bump .POOL_CNT_COUNT 5 0 1 := by
  simp only [rangeAppears, hport, hup, hmode, hfull, decide_true, Bool.and_self, if_true]

section
variable {o : Nat} (hfree : (List.range 32).find? (fun o => !s.on .TIER_OBJ_A_PRESENT o) = some o)
include hfree

/-- A range below 1 GiB, or off the 256 MiB grid, is counted and dropped. -/
theorem rangeAppears_of_odd (hodd : bytes < 2 ^ 30 ∨ dpa % 2 ^ 28 ≠ 0 ∨ bytes % 2 ^ 28 ≠ 0) :
    rangeAppears port dpa bytes kind lender s = s.bump .POOL_CNT_COUNT 5 0 1 := by
  have hodd : (decide (bytes < 2 ^ 30) || dpa % 2 ^ 28 != 0 || bytes % 2 ^ 28 != 0) = true := by
    simpa only [Bool.or_eq_true, decide_eq_true_eq, bne_iff_ne, or_assoc] using hodd
  simp only [rangeAppears, hport, hup, hmode, hfree, hodd, decide_true, Bool.and_self, if_true]

/-- Any other range becomes the lowest free object. -/
theorem rangeAppears_of_even (hlarge : 2 ^ 30 ≤ bytes) (hdpa : dpa % 2 ^ 28 = 0) (hbytes : bytes % 2 ^ 28 = 0) :
    rangeAppears port dpa bytes kind lender s = s.rangeFound o port bytes kind lender := by
  simp only [rangeAppears, hport, hup, hmode, hfree, hlarge.not_gt, hdpa, hbytes, decide_true, decide_false, bne_self_eq_false, Bool.or_self,
    Bool.and_self, Bool.false_eq_true, if_false, if_true]
  rfl

end
end

/-! ### CXL.mem (R327 to R329) -/

/-- The extent in which an address of a logical device lies. -/
def State.extentAt (s : State) (port ld addr : Nat) : Option Extent :=
  s.pool.extents.find? fun e =>
    decide (e.port = port) && decide (e.ld = ld) && decide (e.base * 2 ^ 30 ≤ addr) && decide (addr < (e.base + e.gib) * 2 ^ 30)
/-- An object that an extent takes pages of has failed. -/
def State.partFailed (s : State) (e : Extent) : Bool := e.parts.any fun p => s.on .TIER_OBJ_A_FAILED p.1
/-- A request without its line: a read is answered poisoned, a write is dropped. -/
def State.withoutLine (s : State) (port : Nat) (write : Option Nat) : State :=
  match write with
  | none => s.emit (.cxl port true 0)
  | some _ => s

section
variable {s : State} {port : Nat} (hport : port < 4) (hup : s.on .POOL_PORT_STS_UP port = true) (hmode : s.rd .POOL_PORT_STS_MODE port = 2)
  {ld addr : Nat} (ecc bad : Bool)
include hport hup hmode

/-- A port that sends viral gives no line; a read counts as poison sent. -/
theorem cxlMem_of_viral (hviral : s.on .POOL_PORT_STS_VIRAL_OUT port = true) (store : Bool) (write : Option Nat) :
    cxlMem port ld addr store ecc bad write s = (s.bump .POOL_CNT_COUNT 11 0 (b2n write.isNone)).withoutLine port write := by
  simp only [cxlMem, hport, hup, hmode, hviral, decide_true, Bool.and_self, if_true]
  rfl

section
variable (hcalm : s.on .POOL_PORT_STS_VIRAL_OUT port = false)
include hcalm

/-- A read of the region store, whose layout is open (log 49), is answered. -/
theorem cxlMem_store_read : cxlMem port ld addr true ecc bad none s =
    ((s.emit (.cxl port false (s.free % 2 ^ 512))).tickFree).bump .POOL_CNT_COUNT 13 0 64 := by
  simp only [cxlMem, hport, hup, hmode, hcalm, decide_true, Bool.and_self, Bool.false_eq_true, if_false, if_true]

/-- A write to the region store is dropped. -/
theorem cxlMem_store_write (v : Nat) : cxlMem port ld addr true ecc bad (some v) s = s.bump .POOL_CNT_COUNT 12 0 1 := by
  simp only [cxlMem, hport, hup, hmode, hcalm, decide_true, Bool.and_self, Bool.false_eq_true, if_false, if_true]

theorem cxlMem_of_noExtent (hnone : s.extentAt port ld addr = none) (write : Option Nat) :
    cxlMem port ld addr false ecc bad write s = (s.bump .POOL_CNT_COUNT 12 0 1).withoutLine port write := by
  unfold State.extentAt at hnone
  simp only [cxlMem, hport, hup, hmode, hcalm, hnone, decide_true, Bool.and_self, Bool.false_eq_true, if_false, if_true]
  rfl

section
variable {e : Extent} (he : s.extentAt port ld addr = some e)
include he

theorem cxlMem_of_revoked (hrevoked : e.revoked = true) (write : Option Nat) :
    cxlMem port ld addr false ecc bad write s = s.withoutLine port write := by
  unfold State.extentAt at he
  simp only [cxlMem, hport, hup, hmode, hcalm, he, hrevoked, decide_true, Bool.and_self, Bool.false_eq_true, if_false, if_true]
  rfl

section
variable (hheld : e.revoked = false)
include hheld

/-- An extent of T2 whose object answers with poison or has failed gives no line; a read counts as poison sent. -/
theorem cxlMem_of_badObject (ht2 : e.t2 = true) (hbad : bad = true ∨ s.partFailed e = true) (write : Option Nat) :
    cxlMem port ld addr false ecc bad write s = (s.bump .POOL_CNT_COUNT 11 0 (b2n write.isNone)).withoutLine port write := by
  have hbad : (bad || s.partFailed e) = true := by rwa [Bool.or_eq_true]
  unfold State.partFailed at hbad
  unfold State.extentAt at he
  simp only [cxlMem, hport, hup, hmode, hcalm, he, hheld, ht2, hbad, decide_true, Bool.and_self, Bool.false_eq_true, if_false, if_true]
  rfl

section
variable (hgood : e.t2 = false ∨ (bad = false ∧ s.partFailed e = false))
include hgood

omit hport hup hmode hcalm he hheld in
theorem not_badObject : (e.t2 && (bad || s.partFailed e)) = false := by
  rcases hgood with h | ⟨h, hparts⟩
  · rw [h, Bool.false_and]
  · rw [h, hparts, Bool.or_self, Bool.and_false]

/-- A line that was never written reads 0. -/
theorem cxlMem_read : cxlMem port ld addr false false bad none s =
    (s.emit (.cxl port false ((Map.find s.pool.lines (lineKey port ld (addr / 64))).getD 0))).bump .POOL_CNT_COUNT 13 0 64 := by
  have hbad := not_badObject bad hgood
  unfold State.partFailed at hbad
  unfold State.extentAt at he
  simp only [cxlMem, hport, hup, hmode, hcalm, he, hheld, hbad, decide_true, Bool.and_self, Bool.false_eq_true, if_false, if_true]

/-- A read that meets an ECC error is an event, and is answered poisoned. -/
theorem cxlMem_read_ecc : cxlMem port ld addr false true bad none s =
    ((s.emit (.fm port ld 3 addr)).bump .POOL_CNT_COUNT 11 0 1).emit (.cxl port true 0) := by
  have hbad := not_badObject bad hgood
  unfold State.partFailed at hbad
  unfold State.extentAt at he
  simp only [cxlMem, hport, hup, hmode, hcalm, he, hheld, hbad, decide_true, Bool.and_self, Bool.false_eq_true, if_false, if_true]
  rfl

/-- A write of a line that is not all zero is kept. -/
theorem cxlMem_write {v : Nat} (hv : v % 2 ^ 512 ≠ 0) : cxlMem port ld addr false ecc bad (some v) s =
    (s.setPool { s.pool with lines := Map.put s.pool.lines (lineKey port ld (addr / 64)) (v % 2 ^ 512) }).bump .POOL_CNT_COUNT 13 0 64 := by
  have hbad := not_badObject bad hgood
  unfold State.partFailed at hbad
  unfold State.extentAt at he
  simp only [cxlMem, hport, hup, hmode, hcalm, he, hheld, hbad, hv, decide_true, Bool.and_self, Bool.false_eq_true, if_false, if_true]

end
end
end
end
end

/-! ### The statement -/

/-- Settles O38: each command, limit and request by the lemmas on its meaning. -/
theorem lendingAndExtents : Obligations.LendingAndExtents := by
  unfold Obligations.LendingAndExtents
  refine ⟨fun k c s h hidle => ?lend, fun dt s r hr => ?limit, fun port ld gib s hport hup hmode hld => ?add, fun port ld base s e he => ?released,
    fun o s ho hpresent hstays => ?leave, fun port dpa bytes kind lender s hport hup hmode => ?range,
    fun port ld addr s ecc bad hport hup hmode => ?line⟩
  case lend =>
    obtain rfl := cmd_id h.1
    rw [exec_lendSet_of_mayRun h hidle]
    exact ⟨fun hover => congrArg Host.Outcome.next (lendSet_of_storeOver (s := s.setPhase c.id .running) hover),
      fun hstore => ⟨fun hroom => congrArg Host.Outcome.next (lendSet_of_room (s := s.setPhase c.id .running) hstore hroom),
        fun hfull => congrArg Host.Outcome.next (lendSet_of_noRoom (s := s.setPhase c.id .running) hstore hfull)⟩⟩
  case limit =>
    intro p after late forced
    have hforced (hf : r.force = true) : p.atLimit r = (forced, late.length) := atLimit_of_force p hf
    exact ⟨fun hearly => congrArg Host.Outcome.next (lendTimeout_of_early hr hearly),
      fun hdue hf => ⟨fun hroom => congrArg Host.Outcome.next (lendTimeout_of_room hr (atLimit_of_noForce p hf) hdue hroom),
        fun hopen hfull => congrArg Host.Outcome.next (lendTimeout_of_noRoom hr (atLimit_of_noForce p hf) hdue hopen hfull)⟩,
      fun hdue hf => ⟨fun hroom => congrArg Host.Outcome.next (lendTimeout_of_room hr (hforced hf) hdue hroom),
        fun hopen hfull => congrArg Host.Outcome.next (lendTimeout_of_noRoom hr (hforced hf) hdue hopen hfull)⟩⟩
  case add =>
    exact ⟨fun ht1 => congrArg Host.Outcome.next (extentAdd_of_t1 hport hup hmode hld ht1),
      fun ht1 ht2 => ⟨fun parts hparts => congrArg Host.Outcome.next (extentAdd_of_t2 hport hup hmode hld ht1 ht2 hparts),
        fun hparts => congrArg Host.Outcome.next (extentAdd_of_noPages hport hup hmode hld ht1 ht2 hparts)⟩,
      fun ht1 ht2 => congrArg Host.Outcome.next (extentAdd_of_noFigure hport hup hmode hld ht1 ht2)⟩
  case released => exact congrArg Host.Outcome.next (extentReleased_of_extent he)
  case leave =>
    rw [exec_extentReleaseRequest_of_present ho hpresent hstays]
    cases (s.leaveObject o).waitsIn o with
    | false => exact ⟨_, .inl rfl, rfl⟩
    | true => exact ⟨_, .inr rfl, rfl⟩
  case range =>
    refine ⟨fun hall => ?_, fun o hfree => ⟨fun hodd => congrArg Host.Outcome.next (rangeAppears_of_odd hport hup hmode kind lender hfree hodd),
      fun hlarge hdpa hbytes => congrArg Host.Outcome.next (rangeAppears_of_even hport hup hmode kind lender hfree hlarge hdpa hbytes)⟩⟩
    have hfull : (List.range 32).find? (fun o => !s.on .TIER_OBJ_A_PRESENT o) = none :=
      List.find?_eq_none.mpr fun o ho => by simp [hall o (List.mem_range.mp ho)]
    exact congrArg Host.Outcome.next (rangeAppears_of_full hport hup hmode kind lender hfull)
  case line =>
    intro here key reads writes
    refine ⟨fun hviral store => ?viral, fun hcalm => ⟨?store, fun hnone => ?nowhere, fun e he => ⟨fun hrevoked => ?revoked,
      fun hheld ht2 hbad => ?badObject, fun hheld hgood => ?good⟩⟩⟩
    case viral =>
      exact ⟨congrArg Host.Outcome.next (cxlMem_of_viral hport hup hmode ecc bad hviral store none),
        fun v => congrArg Host.Outcome.next (cxlMem_of_viral hport hup hmode ecc bad hviral store (some v))⟩
    case store =>
      exact ⟨congrArg Host.Outcome.next (cxlMem_store_read hport hup hmode ecc bad hcalm),
        fun v => congrArg Host.Outcome.next (cxlMem_store_write hport hup hmode ecc bad hcalm v)⟩
    case nowhere =>
      exact ⟨congrArg Host.Outcome.next (cxlMem_of_noExtent hport hup hmode ecc bad hcalm hnone none),
        fun v => congrArg Host.Outcome.next (cxlMem_of_noExtent hport hup hmode ecc bad hcalm hnone (some v))⟩
    case revoked =>
      exact ⟨congrArg Host.Outcome.next (cxlMem_of_revoked hport hup hmode ecc bad hcalm he hrevoked none),
        fun v => congrArg Host.Outcome.next (cxlMem_of_revoked hport hup hmode ecc bad hcalm he hrevoked (some v))⟩
    case badObject =>
      exact ⟨congrArg Host.Outcome.next (cxlMem_of_badObject hport hup hmode ecc bad hcalm he hheld ht2 hbad none),
        fun v => congrArg Host.Outcome.next (cxlMem_of_badObject hport hup hmode ecc bad hcalm he hheld ht2 hbad (some v))⟩
    case good =>
      refine ⟨?_, ?_, fun v hv => congrArg Host.Outcome.next (cxlMem_write hport hup hmode ecc bad hcalm he hheld hgood hv)⟩
      · rintro rfl
        exact congrArg Host.Outcome.next (cxlMem_read hport hup hmode bad hcalm he hheld hgood)
      · rintro rfl
        exact congrArg Host.Outcome.next (cxlMem_read_ecc hport hup hmode bad hcalm he hheld hgood)

end Sys2Proof.Machine
end

section
/-! SUPPORT. Published regions (R331 to R339): REGION_MAP by its operation, a publish from its opening to its answer, its resends and the limit
of its staging, REGION_ATTACH by its operation, and the messages about holds. -/

namespace Sys2Proof.Machine

/-! ### REGION_MAP (R331, R332, R339) -/

theorem exec_regionMapCreate_of_mayRun {s : State} {k : Nat} {c : Cmd} (h : s.mayRun k 0x50 c) (hop : opOf 8 8 0 c.desc = true)
    (hstay : s.evacuating = false) : exec (.regionMapCreate k) s = .next (regionCreate c (s.setPhase k .running)) :=
  congrArg Host.Outcome.next ((begin_of_mayRun h (notEvacuating regionCreate) hop rfl rfl).trans
    (notEvacuating_of_staying (s := s.setPhase k .running) hstay regionCreate c))

theorem exec_regionMapDestroy_of_mayRun {s : State} {k : Nat} {c : Cmd} (h : s.mayRun k 0x50 c) (hop : opOf 8 8 1 c.desc = true)
    (hstay : s.evacuating = false) : exec (.regionMapDestroy k) s = .next (regionDestroy c (s.setPhase k .running)) :=
  congrArg Host.Outcome.next ((begin_of_mayRun h (notEvacuating regionDestroy) hop rfl rfl).trans
    (notEvacuating_of_staying (s := s.setPhase k .running) hstay regionDestroy c))

/-- The ID of the region that a CREATE makes in slot `n`, with the slot's next REUSE. -/
def State.newRegionId (s : State) (c : Cmd) (n : Nat) : Nat :=
  2 ^ 60 + s.myId * 2 ^ 50 + c.ctx * 2 ^ 44 + n * 2 ^ 32 + s.bootgen * 2 ^ 26 + (Map.find s.pool.reuse n).getD 0 % 2 ^ 26
/-- The region that a CREATE makes in slot `n`: it has no generation and no hold. -/
def State.newRegion (s : State) (c : Cmd) (n : Nat) : PRegion :=
  ⟨s.newRegionId c n, c.ctx, Desc.num c.desc 16 8, Desc.num c.desc 24 8, 0, [], [], [], (0, 0)⟩

/-- CREATE puts an empty region into the lowest free slot (log 48). -/
theorem regionCreate_of_freeSlot {s : State} {c : Cmd} {n : Nat}
    (hslot : (List.range 4096).find? (fun n => !Map.has s.pool.regions n) = some n) :
    regionCreate c s = (s.putRegion (s.newRegion c n)).finish c.id .ok 0 (s.newRegionId c n) := by
  unfold regionCreate State.newRegion State.newRegionId
  simp only [hslot]

/-- The state once a region's slot is free, its REUSE gone up. -/
def State.regionFreed (s : State) (n : Nat) : State :=
  (s.setPool { s.pool with
    regions := Map.del s.pool.regions n
    reuse := Map.put s.pool.reuse n ((Map.find s.pool.reuse n).getD 0 + 1) }).showRegion n

/-- A region that is held is not destroyed; the answer counts its holds. -/
theorem destroyRegion_of_held {s : State} {x : PRegion} (hheld : x.holds ≠ []) : s.destroyRegion x = (s, 4, x.holds.length) := by
  have hheld : (!x.holds.isEmpty) = true := by simpa using hheld
  simp only [State.destroyRegion, hheld, if_true]

/-- A region with no hold and no publish under way is destroyed; the answer counts the pages of its generations. -/
theorem destroyRegion_of_free {s : State} {x : PRegion} (hfree : x.holds = []) (hstaged : x.staged = []) :
    s.destroyRegion x = (s.regionFreed (rSlot x.id), 0, x.gens.foldl (fun a g => a + pages64k g.bytes) 0) := by
  simp only [State.destroyRegion, hfree, hstaged, List.isEmpty_nil, Bool.not_true, Bool.false_eq_true, if_false, List.foldl_nil]
  rfl

/-- DESTROY of a region whose home is here ends with the home's answer at once. -/
theorem regionDestroy_of_here {s : State} {c : Cmd} {x : PRegion} (hlet : s.regionRefuse c (Desc.handle c.desc) true = none)
    (hhome : rHome (Desc.handle c.desc) = s.myId) (hx : s.regionHere (Desc.handle c.desc) = some x) :
    regionDestroy c s = (s.destroyRegion x).1.finishDestroy c.id (s.destroyRegion x).2.1 (s.destroyRegion x).2.2 := by
  simp only [regionDestroy, hlet, hhome, hx, if_true]

/-! ### REGION_PUBLISH (R334) -/

theorem exec_regionPublish_of_mayRun {s : State} {k : Nat} {c : Cmd} (h : s.mayRun k 0x51 c) :
    exec (.regionPublish k) s = .next (regionPublish c (s.setPhase k .running)) :=
  congrArg Host.Outcome.next (begin_of_mayRun h regionPublish rfl rfl rfl)

/-- The generation that a publish expects, and the bytes of the one that it makes. -/
def pubExpect (c : Cmd) : Nat := Desc.num c.desc 16 4
def pubBytes (c : Cmd) : Nat := Desc.num c.desc 32 8
/-- The state once a publish stands in the pool, at its opening. -/
def State.pubStarted (s : State) (c : Cmd) : State :=
  s.setPool { s.pool with pubs := s.pool.pubs ++ [⟨c.id, Desc.handle c.desc, pubExpect c, pubBytes c, .opening, s.now⟩] }

section
variable {s : State} {c : Cmd} (hlet : s.regionRefuse c (Desc.handle c.desc) true = none)
include hlet

theorem regionPublish_of_lastGeneration (hlast : pubExpect c = 0xFFFFFFFF) : regionPublish c s = s.finish c.id .reservedNonzero 16 := by
  unfold pubExpect at hlast
  simp only [regionPublish, hlet, hlast, if_true]

theorem regionPublish_of_noBytes (hexpect : pubExpect c ≠ 0xFFFFFFFF) (hbytes : pubBytes c = 0) :
    regionPublish c s = s.finish c.id .reservedNonzero 32 := by
  unfold pubExpect pubBytes at *
  simp only [regionPublish, hlet, hexpect, hbytes, if_false, if_true]

/-- Any other publish opens at its home: by message, or within this Flewick. -/
theorem regionPublish_opens (hexpect : pubExpect c ≠ 0xFFFFFFFF) (hbytes : pubBytes c ≠ 0) :
    let rid := Desc.handle c.desc
    let u := s.pubStarted c
    regionPublish c s =
      if rHome rid = s.myId then u else u.send (rHome rid) 4 .publishOpen rid 0 c.id s.myId [pubExpect c, pubBytes c] := by
  unfold State.pubStarted pubExpect pubBytes at *
  simp only [regionPublish, hlet, hexpect, hbytes, if_false]
  rfl

end

/-! ### The opening at the home (R334, R336) -/

/-- The state once the home stages a publish. -/
def State.pubStaged (s : State) (r : PRegion) (src tok e b : Nat) : State :=
  s.putRegion { r with staged := r.staged ++ [⟨src, tok, e, b, none, s.now⟩] }

section
variable {src tok rid e b : Nat} {s : State} {r : PRegion} (hself : s.selfOk src tok rid .opening = true) (hr : s.regionHere rid = some r)
include hself hr

/-- An opening that expects another generation is a conflict. -/
theorem publishOpenReceived_of_otherGeneration (hgen : r.gen ≠ e) :
    publishOpenReceived src tok rid e b s = (s.bump .POOL_CNT_COUNT 1 0 1).pubReply src tok rid 1 r.gen := by
  simp only [publishOpenReceived, hself, hr, bne_iff_ne.mpr hgen, Bool.not_true, Bool.false_eq_true, if_false, if_true]

section
variable (hgen : r.gen = e)
include hgen

theorem publishOpenReceived_of_badSize (hsize : b = 0 ∨ r.maxBytes < b) :
    publishOpenReceived src tok rid e b s = s.pubReply src tok rid 5 r.gen := by
  have hsize : (decide (b = 0) || decide (r.maxBytes < b)) = true := by simpa using hsize
  simp only [publishOpenReceived, hself, hr, hgen, hsize, bne_self_eq_false, Bool.not_true, Bool.false_eq_true, if_false, if_true]

/-- A publish for which the region and the region store have room is staged, and its publisher told to send. -/
theorem publishOpenReceived_of_room (hsome : b ≠ 0) (hmax : b ≤ r.maxBytes) (hgens : r.gens.length < 8)
    (hstore : s.storePages + pages64k b ≤ 16384 * s.rd .POOL_LEND_REGION_GIB) :
    let u := s.pubStaged r src tok e b
    publishOpenReceived src tok rid e b s =
      if src = u.myId then u.updPub tok fun p => { p with phase := .sending } else u.send src 4 .publishReady rid 0 tok 0 [] := by
  subst hgen
  simp only [publishOpenReceived, hself, hr, hsome, hmax.not_gt, hgens.not_ge, hstore.not_gt, bne_self_eq_false, decide_false,
    Bool.or_self, Bool.not_true, Bool.false_eq_true, if_false]
  rfl

end
end

/-! ### The content and the commit (R334 to R336) -/

section
variable {tok : Nat} {s : State} {p : PubRun} (hp : s.pub tok = some p)
include hp

section
variable (hphase : p.phase = .sending)
include hphase

/-- A publish whose content cannot be read is to be tried again. -/
theorem publishReadyReceived_of_unread : publishReadyReceived tok none s = s.endPub p .retryLater (hintMs 1) 0 0 := by
  simp only [publishReadyReceived, hp, hphase, reduceCtorEq, decide_false, Bool.false_and, Bool.or_self, Bool.false_eq_true, if_false]

/-- The content goes to a home elsewhere, and the commit after it. -/
theorem publishReadyReceived_of_read (haway : rHome p.region ≠ s.myId) (n : Nat) :
    let u := s.updPub tok fun q => { q with phase := .committing, sent := s.now }
    publishReadyReceived tok (some n) s =
      (u.send (rHome p.region) 4 .publishContent p.region 0 tok s.myId [n % 2 ^ (8 * p.bytes)]).send (rHome p.region) 4 .publishCommit
        p.region 0 tok s.myId [p.expect] := by
  have haway' : ¬rHome p.region = (s.updPub tok fun q => { q with phase := .committing, sent := s.now }).myId := haway
  simp only [publishReadyReceived, hp, hphase, haway', reduceCtorEq, decide_false, Bool.false_and, Bool.or_self, Bool.false_eq_true, if_false]
  rfl

end

/-- The answers of a home to a publish; 5 is the one to a size that the region does not take. -/
theorem pubAnswer_of_pub (gen : Nat) :
    s.pubAnswer tok 0 gen = s.endPub p .ok 0 gen 0 ∧ s.pubAnswer tok 1 gen = s.endPub p .regionConflict 1 0 gen ∧
    s.pubAnswer tok 2 gen = s.endPub p .regionConflict 2 0 gen ∧ s.pubAnswer tok 3 gen = s.endPub p .retryLater (hintMs 1) 0 0 ∧
    s.pubAnswer tok 4 gen = s.endPub p .badHandle 0 0 0 ∧ s.pubAnswer tok 5 gen = s.endPub p .reservedNonzero 32 0 0 := by
  simp only [State.pubAnswer, hp, and_self]

/-- A commit that is not answered within 1 ms is sent again. -/
theorem publishResend_of_due (hphase : p.phase = .committing) (haway : rHome p.region ≠ s.myId) (hdue : p.sent + 100000 ≤ s.now) :
    publishResend tok s =
      (s.updPub tok fun q => { q with sent := s.now }).send (rHome p.region) 4 .publishCommit p.region 0 tok s.myId [p.expect] := by
  simp only [publishResend, hp, hphase, bne_iff_ne.mpr haway, hdue, decide_true, Bool.and_self, if_true]

theorem publishResend_of_early (hearly : s.now < p.sent + 100000) : publishResend tok s = s := by
  simp only [publishResend, hp, hearly.not_ge, decide_false, Bool.and_false, Bool.false_eq_true, if_false]

end

/-- A region without the staging of a publish. -/
def PRegion.unstaged (r : PRegion) (src tok : Nat) : PRegion :=
  { r with staged := r.staged.filter fun x => !(decide (x.flewick = src) && decide (x.token = tok)) }
/-- A region once the staged generation of a publish is its current one. -/
def PRegion.committed (r : PRegion) (src tok e d : Nat) (g : Staging) : PRegion :=
  { r.unstaged src tok with
    gen := e + 1
    gens := r.gens ++ [⟨e + 1, g.bytes, g.data.getD d % 2 ^ (8 * g.bytes)⟩]
    last := (src + 1, tok) }

section
variable {src tok rid e d : Nat} {s : State} {r : PRegion} (hself : s.selfOk src tok rid .committing = true) (hr : s.regionHere rid = some r)
  (hnew : r.last ≠ (src + 1, tok))
include hself hr hnew

/-- A commit whose staging is gone is a conflict (log 50). -/
theorem publishCommitReceived_of_unstaged (hnone : r.staged.find? (fun g => decide (g.flewick = src) && decide (g.token = tok)) = none) :
    publishCommitReceived src tok rid e d s = (s.bump .POOL_CNT_COUNT 1 0 1).pubReply src tok rid 2 r.gen := by
  simp only [publishCommitReceived, hself, hr, hnew, hnone, Bool.not_true, Bool.false_eq_true, if_false]

section
variable {g : Staging} (hg : r.staged.find? (fun g => decide (g.flewick = src) && decide (g.token = tok)) = some g)
include hg

/-- A commit that meets another generation is a conflict, and its staging is freed. -/
theorem publishCommitReceived_of_otherGeneration (hgen : r.gen ≠ e) : publishCommitReceived src tok rid e d s =
    ((s.putRegion (r.unstaged src tok)).bump .POOL_CNT_COUNT 1 0 1).pubReply src tok rid 2 r.gen := by
  simp only [publishCommitReceived, hself, hr, hnew, hg, hgen, Bool.not_true, Bool.false_eq_true, if_false]
  rfl

/-- A commit that meets the generation it expects makes the next one current. -/
theorem publishCommitReceived_of_sameGeneration (hgen : r.gen = e) : publishCommitReceived src tok rid e d s =
    ((s.freeGens (r.committed src tok e d g)).bump .POOL_CNT_COUNT 0 0 1).pubReply src tok rid 0 (e + 1) := by
  simp only [publishCommitReceived, hself, hr, hnew, hg, hgen, Bool.not_true, Bool.false_eq_true, if_false, if_true]
  rfl

end
end

/-- A staging of the publish has stood past STAGE_LIMIT_MS. -/
def State.stagedLate (s : State) (r : PRegion) (src tok : Nat) : Bool :=
  r.staged.any fun g =>
    decide (g.flewick = src) && decide (g.token = tok) && decide (g.since + 100000 * s.rd .POOL_CFG_STAGE_LIMIT_MS ≤ s.now)

/-- A staging that has stood past its limit is freed and counted; another one stays. -/
theorem stageExpiry_of_region {slot src tok : Nat} {s : State} {r : PRegion} (hr : Map.find s.pool.regions slot = some r) :
    stageExpiry slot src tok s = if s.stagedLate r src tok then (s.dropStaging r src tok).bump .POOL_CNT_COUNT 4 0 1 else s := by
  simp only [stageExpiry, hr]
  rfl

/-! ### REGION_ATTACH (R337) -/

theorem exec_regionAttachAttach_of_mayRun {s : State} {k : Nat} {c : Cmd} (h : s.mayRun k 0x52 c) (hop : opOf 8 8 0 c.desc = true) :
    exec (.regionAttachAttach k) s = .next (regionAttach c (s.setPhase k .running)) :=
  congrArg Host.Outcome.next (begin_of_mayRun h regionAttach hop rfl rfl)

theorem exec_regionAttachDetach_of_mayRun {s : State} {k : Nat} {c : Cmd} (h : s.mayRun k 0x52 c) (hop : opOf 8 8 1 c.desc = true) :
    exec (.regionAttachDetach k) s = .next (regionDetach c (s.setPhase k .running)) :=
  congrArg Host.Outcome.next (begin_of_mayRun h regionDetach hop rfl rfl)

/-- The state once a context's attachment to a region is the one to its current generation, read here without a window. -/
def State.attachedTo (s : State) (c : Cmd) (x : PRegion) : State :=
  s.setPool { s.pool with
    attached := (s.pool.attached.filter fun a => !(decide (a.ctx = c.ctx) && decide (a.region = Desc.handle c.desc))) ++
      [⟨c.ctx, Desc.handle c.desc, x.gen, x.genBytes x.gen, none⟩] }

section
variable {s : State} {c : Cmd} (hlet : s.regionRefuse c (Desc.handle c.desc) false = none)
include hlet

section
variable {x : PRegion} (hhome : rHome (Desc.handle c.desc) = s.myId) (hx : s.regionHere (Desc.handle c.desc) = some x)
include hhome hx

/-- An attach at the home ends with the home's answer, and takes a hold where the answer allows it. -/
theorem regionAttach_of_here : regionAttach c s =
    (if x.attachCode c.ctx (s.on .HTI_CTX_MGMT c.ctx) = 0 then s.takeHold x s.myId c.ctx else s).finishAttach c none
      (x.attachCode c.ctx (s.on .HTI_CTX_MGMT c.ctx)) x.gen (x.genBytes x.gen) := by
  simp only [regionAttach, hlet, hhome, hx, if_true]

/-- A context that may not read the region. -/
theorem regionAttach_of_forbidden (hcode : x.attachCode c.ctx (s.on .HTI_CTX_MGMT c.ctx) = 2) : regionAttach c s = s.finish c.id .authFail 3 := by
  rw [regionAttach_of_here hlet hhome hx, hcode]
  rfl

/-- A region that has no generation yet. -/
theorem regionAttach_of_empty (hcode : x.attachCode c.ctx (s.on .HTI_CTX_MGMT c.ctx) = 3) :
    regionAttach c s = s.finish c.id .reservedNonzero 8 0 1 := by
  rw [regionAttach_of_here hlet hhome hx, hcode]
  rfl

/-- An attach that is allowed stands in the pool, with the region's current generation. -/
theorem regionAttach_of_allowed (hcode : x.attachCode c.ctx (s.on .HTI_CTX_MGMT c.ctx) = 0) : regionAttach c s =
    (((s.takeHold x s.myId c.ctx).attachedTo c x).bump .POOL_CNT_COUNT 2 0 1).finish c.id .ok 0
      (x.gen + (x.genBytes x.gen + 1023) / 1024 * 2 ^ 32) 0xFFFFFFFF := by
  rw [regionAttach_of_here hlet hhome hx, hcode, if_pos rfl]
  rfl

end

/-- A detach lets the context's holds on the region go. -/
theorem regionDetach_of_let : regionDetach c s =
    (s.detachAll fun a => decide (a.ctx = c.ctx) && decide (a.region = Desc.handle c.desc)).finish c.id .ok := by
  simp only [regionDetach, hlet]

end

/-! ### Messages about holds (R333, R337, R339) -/

section
variable {src tok rid : Nat} {s : State} {r : PRegion} (hr : s.regionHere rid = some r)
include hr

/-- The home answers a hold that is asked for, and takes it where the holder may have it. -/
theorem holdMessage_take (holder ctx : Nat) (mgmt : Bool) : holdMessage src tok rid (.take holder ctx mgmt none) s =
    (if r.attachCode ctx mgmt = 0 then s.takeHold r src holder else s).send src 4 .holdAnswer rid 0 tok 0
      [r.attachCode ctx mgmt, r.gen, r.genBytes r.gen] := by
  simp only [holdMessage, hr]

theorem holdMessage_release (holder : Nat) : holdMessage src tok rid (.release holder) s = s.dropHold r src holder := by
  simp only [holdMessage, hr]

/-- A DESTROY from elsewhere has the home's answer sent. -/
theorem holdMessage_destroy : holdMessage src tok rid .destroy s =
    (s.destroyRegion r).1.send src 4 .regionAnswer rid 0 tok 0 [(s.destroyRegion r).2.1, (s.destroyRegion r).2.2] := by
  simp only [holdMessage, hr]

end

/-! ### The statement -/

/-- Settles O39: each command, message and limit by the lemmas on its meaning. -/
theorem regions : Obligations.Regions := by
  unfold Obligations.Regions
  refine ⟨fun k c s n h hop hstay hslot => ?create, fun k c s x h hop hstay hlet hhome hx => ?destroy, fun k c s h hlet => ?publish,
    fun src tok rid e b s r hself hr => ?opening, fun tok s p hp hphase => ?ready, fun src tok rid e d s r hself hr hnew => ?commit,
    fun tok gen s p hp => ?answer, fun dt tok s p hp hphase haway => ?resend, fun dt slot src tok s r hr => ?expiry,
    fun k c s x h hop hlet hhome hx => ?attach, fun k c s h hop hlet => ?detach, fun src tok rid s r hr => ?hold⟩
  case create =>
    obtain rfl := cmd_id h.1
    rw [exec_regionMapCreate_of_mayRun h hop hstay]
    exact congrArg Host.Outcome.next (regionCreate_of_freeSlot (s := s.setPhase c.id .running) hslot)
  case destroy =>
    obtain rfl := cmd_id h.1
    rw [exec_regionMapDestroy_of_mayRun h hop hstay, regionDestroy_of_here (s := s.setPhase c.id .running) hlet hhome hx]
    refine ⟨fun hheld => ?_, fun hfree hstaged => ?_⟩
    · rw [destroyRegion_of_held hheld]
      rfl
    · rw [destroyRegion_of_free hfree hstaged]
      rfl
  case publish =>
    obtain rfl := cmd_id h.1
    rw [exec_regionPublish_of_mayRun h]
    exact ⟨fun hlast => congrArg Host.Outcome.next (regionPublish_of_lastGeneration (s := s.setPhase c.id .running) hlet hlast),
      fun hexpect hbytes => congrArg Host.Outcome.next (regionPublish_of_noBytes (s := s.setPhase c.id .running) hlet hexpect hbytes),
      fun hexpect hbytes => congrArg Host.Outcome.next (regionPublish_opens (s := s.setPhase c.id .running) hlet hexpect hbytes)⟩
  case opening =>
    exact ⟨fun hgen => congrArg Host.Outcome.next (publishOpenReceived_of_otherGeneration hself hr hgen),
      fun hgen hsize => congrArg Host.Outcome.next (publishOpenReceived_of_badSize hself hr hgen hsize),
      fun hgen hsome hmax hgens hstore =>
        congrArg Host.Outcome.next (publishOpenReceived_of_room hself hr hgen hsome hmax hgens hstore)⟩
  case ready =>
    exact ⟨congrArg Host.Outcome.next (publishReadyReceived_of_unread hp hphase),
      fun n haway => congrArg Host.Outcome.next (publishReadyReceived_of_read hp hphase haway n)⟩
  case commit =>
    exact ⟨fun hnone => congrArg Host.Outcome.next (publishCommitReceived_of_unstaged hself hr hnew hnone), fun g hg =>
      ⟨fun hgen => congrArg Host.Outcome.next (publishCommitReceived_of_otherGeneration hself hr hnew hg hgen),
        fun hgen => congrArg Host.Outcome.next (publishCommitReceived_of_sameGeneration hself hr hnew hg hgen)⟩⟩
  case answer =>
    obtain ⟨hack, hopen, hcommit, hroom, hgone, -⟩ := pubAnswer_of_pub hp gen
    exact ⟨congrArg Host.Outcome.next hack, congrArg Host.Outcome.next hopen, congrArg Host.Outcome.next hcommit,
      congrArg Host.Outcome.next hroom, congrArg Host.Outcome.next hgone⟩
  case resend =>
    exact ⟨fun hdue => congrArg Host.Outcome.next (publishResend_of_due hp hphase haway hdue),
      fun hearly => congrArg Host.Outcome.next (publishResend_of_early hp hearly)⟩
  case expiry =>
    have hexec := congrArg (Host.Outcome.next (φ := Fault) (ρ := Refusal)) (stageExpiry_of_region (src := src) (tok := tok) hr)
    exact ⟨fun hlate => hexec.trans (congrArg Host.Outcome.next (if_pos hlate)),
      fun hkept => hexec.trans (congrArg Host.Outcome.next (if_neg (Bool.eq_false_iff.mp hkept)))⟩
  case attach =>
    obtain rfl := cmd_id h.1
    rw [exec_regionAttachAttach_of_mayRun h hop]
    exact ⟨fun hcode => congrArg Host.Outcome.next (regionAttach_of_forbidden (s := s.setPhase c.id .running) hlet hhome hx hcode),
      fun hcode => congrArg Host.Outcome.next (regionAttach_of_empty (s := s.setPhase c.id .running) hlet hhome hx hcode),
      fun hcode => congrArg Host.Outcome.next (regionAttach_of_allowed (s := s.setPhase c.id .running) hlet hhome hx hcode)⟩
  case detach =>
    obtain rfl := cmd_id h.1
    rw [exec_regionAttachDetach_of_mayRun h hop]
    exact congrArg Host.Outcome.next (regionDetach_of_let (s := s.setPhase c.id .running) hlet)
  case hold =>
    refine ⟨fun holder ctx mgmt hcode => congrArg Host.Outcome.next ((holdMessage_take hr holder ctx mgmt).trans ?_),
      fun holder ctx mgmt hcode => congrArg Host.Outcome.next ((holdMessage_take hr holder ctx mgmt).trans ?_),
      fun holder => congrArg Host.Outcome.next (holdMessage_release hr holder),
      fun hheld => congrArg Host.Outcome.next ((holdMessage_destroy hr).trans ?_)⟩
    · rw [if_pos hcode, hcode]
    · rw [if_neg hcode]
    · rw [destroyRegion_of_held hheld]

end Sys2Proof.Machine
end

section
/-! SUPPORT. Whole steps: what every command keeps, by the lemma of its meaning, and what a step does with the queue (log 1). -/

namespace Sys2Proof.Machine

variable {s t : State}

/-- Every command changes at most the pieces that `mayChange` names for it. -/
theorem keeps_exec {F : List Piece} {a s : State} (hs : Keeps F a s) (i : Instr) : mayChange i ⊆ F → KeepsO F a (exec i s) :=
  match i with
  | .registerWrite .. => fun hF => keeps_execRegisterWrite hF hs
  | .htiWSqdbWrite .. => fun hF => keeps_execHtiWSqdbWrite hF hs
  | .htiWCqdbWrite .. => fun hF => keeps_execHtiWCqdbWrite hF hs
  | .pair0Open .. => fun hF => keeps_execPair0Open hF hs
  | .pair0Close .. => fun hF => keeps_execPair0Close hF hs
  | .contextPairsClosed .. => fun hF => keeps_execContextPairsClosed hF hs
  | .submissionFetchFail .. => fun hF => keeps_execSubmissionFetchFail hF hs
  | .completionPostFail .. => fun hF => keeps_execCompletionPostFail hF hs
  | .coalescingTimeExpiry .. => fun hF => keeps_execCoalescingTimeExpiry hF hs
  | .queueOpen .. => fun hF => keeps_execQueueOpen hF hs
  | .queueClose .. => fun hF => keeps_execQueueClose hF hs
  | .capsGet .. => fun hF => keeps_execCapsGet hF hs
  | .ctxFence .. => fun hF => keeps_execCtxFence hF hs
  | .noop .. => fun hF => keeps_execNoop hF hs
  | .statsGet .. => fun hF => keeps_execStatsGet hF hs
  | .htiErrlogClr .. => fun hF => keeps_execHtiErrlogClr hF hs
  | .htiCntClr .. => fun hF => keeps_execHtiCntClr hF hs
  | .htiCtxWrite .. => fun hF => keeps_execHtiCtxWrite hF hs
  | .functionLevelReset .. => fun hF => keeps_execFunctionLevelReset hF hs
  | .sessCreate .. => fun hF => keeps_execSessCreate hF hs
  | .sessDestroy .. => fun hF => keeps_execSessDestroy hF hs
  | .sessPark .. => fun hF => keeps_execSessPark hF hs
  | .sessRevive .. => fun hF => keeps_execSessRevive hF hs
  | .reviveDone .. => fun hF => keeps_execReviveDone hF hs
  | .sessDeflate .. => fun hF => keeps_execSessDeflate hF hs
  | .sessRebuild .. => fun hF => keeps_execSessRebuild hF hs
  | .sessQuery .. => fun hF => keeps_execSessQuery hF hs
  | .sessShip .. => fun hF => keeps_execSessShip hF hs
  | .sessTetherQuery .. => fun hF => keeps_execSessTetherQuery hF hs
  | .sessTetherResolve .. => fun hF => keeps_execSessTetherResolve hF hs
  | .sessCancel .. => fun hF => keeps_execSessCancel hF hs
  | .sessPolicy .. => fun hF => keeps_execSessPolicy hF hs
  | .idleParkExpiry .. => fun hF => keeps_execIdleParkExpiry hF hs
  | .shipOfferReceived .. => fun hF => keeps_execShipOfferReceived hF hs
  | .shipAcceptReceived .. => fun hF => keeps_execShipAcceptReceived hF hs
  | .shipRefuseReceived .. => fun hF => keeps_execShipRefuseReceived hF hs
  | .shipFrameReceived .. => fun hF => keeps_execShipFrameReceived hF hs
  | .shipResendReceived .. => fun hF => keeps_execShipResendReceived hF hs
  | .shipAbortReceived .. => fun hF => keeps_execShipAbortReceived hF hs
  | .commitReqReceived .. => fun hF => keeps_execCommitReqReceived hF hs
  | .replicateReceived .. => fun hF => keeps_execReplicateReceived hF hs
  | .replicateAckReceived .. => fun hF => keeps_execReplicateAckReceived hF hs
  | .commitAckReceived .. => fun hF => keeps_execCommitAckReceived hF hs
  | .commitNakReceived .. => fun hF => keeps_execCommitNakReceived hF hs
  | .tetherQueryReceived .. => fun hF => keeps_execTetherQueryReceived hF hs
  | .tetherRecordReceived .. => fun hF => keeps_execTetherRecordReceived hF hs
  | .tetherMsgTimeout .. => fun hF => keeps_execTetherMsgTimeout hF hs
  | .shipResolveTimeout .. => fun hF => keeps_execShipResolveTimeout hF hs
  | .spoolEntriesReceived .. => fun hF => keeps_execSpoolEntriesReceived hF hs
  | .spoolAckReceived .. => fun hF => keeps_execSpoolAckReceived hF hs
  | .mirrorAckTimeout .. => fun hF => keeps_execMirrorAckTimeout hF hs
  | .mirrorResendPeriod dt h => fun hF =>
    have k : KeepsO F a (execMirrorResendPeriod dt h s) := keeps_execMirrorResendPeriod hF hs
    k
  | .spoolGatherDone .. => fun hF => keeps_execSpoolGatherDone hF hs
  | .workTileEnd .. => fun hF => keeps_execWorkTileEnd hF hs
  | .itemEnd .. => fun hF => keeps_execItemEnd hF hs
  | .itemYield .. => fun hF => keeps_execItemYield hF hs
  | .itemInputsArrive .. => fun hF => keeps_execItemInputsArrive hF hs
  | .preemptTimeout .. => fun hF => keeps_execPreemptTimeout hF hs
  | .panelIdleGate .. => fun hF => keeps_execPanelIdleGate hF hs
  | .panelReady .. => fun hF => keeps_execPanelReady hF hs
  | .goreFence .. => fun hF => keeps_execGoreFence hF hs
  | .panelPowerFault .. => fun hF => keeps_execPanelPowerFault hF hs
  | .goreTileCntClr .. => fun hF => keeps_execGoreTileCntClr hF hs
  | .goreTileInjArm .. => fun hF => keeps_execGoreTileInjArm hF hs
  | .goreShareWrite .. => fun hF => keeps_execGoreShareWrite hF hs
  | .goreRoleMixWrite .. => fun hF => keeps_execGoreRoleMixWrite hF hs
  | .goreCntClr .. => fun hF => keeps_execGoreCntClr hF hs
  | .goreCtxCntClr .. => fun hF => keeps_execGoreCtxCntClr hF hs
  | .demotionStart .. => fun hF => keeps_execDemotionStart hF hs
  | .demoteAfterExpiry .. => fun hF => keeps_execDemoteAfterExpiry hF hs
  | .demotionWriteDone .. => fun hF => keeps_execDemotionWriteDone hF hs
  | .promotionReadDone .. => fun hF => keeps_execPromotionReadDone hF hs
  | .readThroughDone .. => fun hF => keeps_execReadThroughDone hF hs
  | .heatDecayTick .. => fun hF => keeps_execHeatDecayTick hF hs
  | .tierAccessTimeout .. => fun hF => keeps_execTierAccessTimeout hF hs
  | .tierObjectFault .. => fun hF => keeps_execTierObjectFault hF hs
  | .t1StallTimeout .. => fun hF => keeps_execT1StallTimeout hF hs
  | .wearBudgetTick .. => fun hF => keeps_execWearBudgetTick hF hs
  | .wearBudgetSave .. => fun hF => keeps_execWearBudgetSave hF hs
  | .flashControllerEnumerated .. => fun hF => keeps_execFlashControllerEnumerated hF hs
  | .tierPolicy .. => fun hF => keeps_execTierPolicy hF hs
  | .tierFlush .. => fun hF => keeps_execTierFlush hF hs
  | .tierObjFailedClear .. => fun hF => keeps_execTierObjFailedClear hF hs
  | .tierObjEnWrite .. => fun hF => keeps_execTierObjEnWrite hF hs
  | .tierWmWrite .. => fun hF => keeps_execTierWmWrite hF hs
  | .tierCntClr .. => fun hF => keeps_execTierCntClr hF hs
  | .tierStallClr .. => fun hF => keeps_execTierStallClr hF hs
  | .modelShapeDeclare .. => fun hF => keeps_execModelShapeDeclare hF hs
  | .modelShapeUpdate .. => fun hF => keeps_execModelShapeUpdate hF hs
  | .modelShapeRemove .. => fun hF => keeps_execModelShapeRemove hF hs
  | .stepSubmit .. => fun hF => keeps_execStepSubmit hF hs
  | .attend .. => fun hF => keeps_execAttend hF hs
  | .htiWBrkickWrite .. => fun hF => keeps_execHtiWBrkickWrite hF hs
  | .layerComplete .. => fun hF => keeps_execLayerComplete hF hs
  | .stepItemEnd .. => fun hF => keeps_execStepItemEnd hF hs
  | .stepEnd .. => fun hF => keeps_execStepEnd hF hs
  | .kickLimitTimeout .. => fun hF => keeps_execKickLimitTimeout hF hs
  | .stepOutputWriteFail .. => fun hF => keeps_execStepOutputWriteFail hF hs
  | .kvAppendAppend .. => fun hF => keeps_execKvAppendAppend hF hs
  | .kvAppendStream .. => fun hF => keeps_execKvAppendStream hF hs
  | .goreBridleWrite .. => fun hF => keeps_execGoreBridleWrite hF hs
  | .bar4UnbackedAccess .. => fun hF => keeps_execBar4UnbackedAccess hF hs
  | .goreAttnCntClr .. => fun hF => keeps_execGoreAttnCntClr hF hs
  | .textAppend .. => fun hF => keeps_execTextAppend hF hs
  | .textTokenize .. => fun hF => keeps_execTextTokenize hF hs
  | .tableLoadLoad .. => fun hF => keeps_execTableLoadLoad hF hs
  | .tableLoadRemove .. => fun hF => keeps_execTableLoadRemove hF hs
  | .tokeniserLaneFault .. => fun hF => keeps_execTokeniserLaneFault hF hs
  | .txtCntClr .. => fun hF => keeps_execTxtCntClr hF hs
  | .streamConfOpen .. => fun hF => keeps_execStreamConfOpen hF hs
  | .streamConfUpdate .. => fun hF => keeps_execStreamConfUpdate hF hs
  | .streamConfRestart .. => fun hF => keeps_execStreamConfRestart hF hs
  | .streamConfClose .. => fun hF => keeps_execStreamConfClose hF hs
  | .sample .. => fun hF => keeps_execSample hF hs
  | .outputRingBacklogPoll .. => fun hF => keeps_execOutputRingBacklogPoll hF hs
  | .grammarLoadLoad .. => fun hF => keeps_execGrammarLoadLoad hF hs
  | .grammarLoadRemove .. => fun hF => keeps_execGrammarLoadRemove hF hs
  | .grammarBindBind .. => fun hF => keeps_execGrammarBindBind hF hs
  | .grammarBindUnbind .. => fun hF => keeps_execGrammarBindUnbind hF hs
  | .maskLaneFault .. => fun hF => keeps_execMaskLaneFault hF hs
  | .decCntClr .. => fun hF => keeps_execDecCntClr hF hs
  | .indexCreateCreate .. => fun hF => keeps_execIndexCreateCreate hF hs
  | .indexCreateDestroy .. => fun hF => keeps_execIndexCreateDestroy hF hs
  | .codebookLoad .. => fun hF => keeps_execCodebookLoad hF hs
  | .indexInsert .. => fun hF => keeps_execIndexInsert hF hs
  | .indexDelete .. => fun hF => keeps_execIndexDelete hF hs
  | .indexCommit .. => fun hF => keeps_execIndexCommit hF hs
  | .recallQuery .. => fun hF => keeps_execRecallQuery hF hs
  | .queryRoundEnd .. => fun hF => keeps_execQueryRoundEnd hF hs
  | .compactionStart .. => fun hF => keeps_execCompactionStart hF hs
  | .compactionOldChainFree .. => fun hF => keeps_execCompactionOldChainFree hF hs
  | .helperLoadLoad .. => fun hF => keeps_execHelperLoadLoad hF hs
  | .helperLoadRemove .. => fun hF => keeps_execHelperLoadRemove hF hs
  | .encoderRun .. => fun hF => keeps_execEncoderRun hF hs
  | .rclCntClr .. => fun hF => keeps_execRclCntClr hF hs
  | .rclCtxCntClr .. => fun hF => keeps_execRclCtxCntClr hF hs
  | .lendSet .. => fun hF => keeps_execLendSet hF hs
  | .lendReclaimTimeout .. => fun hF => keeps_execLendReclaimTimeout hF hs
  | .extentAddRequest .. => fun hF => keeps_execExtentAddRequest hF hs
  | .extentReleasedByBorrower .. => fun hF => keeps_execExtentReleasedByBorrower hF hs
  | .extentReleaseRequest .. => fun hF => keeps_execExtentReleaseRequest hF hs
  | .poolRangeAppears .. => fun hF => keeps_execPoolRangeAppears hF hs
  | .cxlMemRequest .. => fun hF => keeps_execCxlMemRequest hF hs
  | .regionMapCreate .. => fun hF => keeps_execRegionMapCreate hF hs
  | .regionMapDestroy .. => fun hF => keeps_execRegionMapDestroy hF hs
  | .regionPublish .. => fun hF => keeps_execRegionPublish hF hs
  | .publishOpenReceived .. => fun hF => keeps_execPublishOpenReceived hF hs
  | .publishReadyReceived .. => fun hF => keeps_execPublishReadyReceived hF hs
  | .publishCommitReceived .. => fun hF => keeps_execPublishCommitReceived hF hs
  | .publishAnswerReceived .. => fun hF => keeps_execPublishAnswerReceived hF hs
  | .publishCommitResend .. => fun hF => keeps_execPublishCommitResend hF hs
  | .stageLimitExpiry .. => fun hF => keeps_execStageLimitExpiry hF hs
  | .regionAttachAttach .. => fun hF => keeps_execRegionAttachAttach hF hs
  | .regionAttachDetach .. => fun hF => keeps_execRegionAttachDetach hF hs
  | .poolCntClr .. => fun hF => keeps_execPoolCntClr hF hs
  | .ringFrameReceived .. => fun hF => keeps_execRingFrameReceived hF hs
  | .ringFrameForward .. => fun hF => keeps_execRingFrameForward hF hs
  | .linkFrameError .. => fun hF => keeps_execLinkFrameError hF hs
  | .ringLinkRetrain .. => fun hF => keeps_execRingLinkRetrain hF hs
  | .ringLinkDown .. => fun hF => keeps_execRingLinkDown hF hs
  | .ringCablePlug .. => fun hF => keeps_execRingCablePlug hF hs
  | .reorderGapTimeout .. => fun hF => keeps_execReorderGapTimeout hF hs
  | .routeHoldTimeout .. => fun hF => keeps_execRouteHoldTimeout hF hs
  | .helloReceived .. => fun hF => keeps_execHelloReceived hF hs
  | .mapFormTimeout .. => fun hF => keeps_execMapFormTimeout hF hs
  | .joinReceived .. => fun hF => keeps_execJoinReceived hF hs
  | .mapChangeAckReceived .. => fun hF => keeps_execMapChangeAckReceived hF hs
  | .mapCommitReceived .. => fun hF => keeps_execMapCommitReceived hF hs
  | .mapBeatPeriod .. => fun hF => keeps_execMapBeatPeriod hF hs
  | .mapBeatReceived .. => fun hF => keeps_execMapBeatReceived hF hs
  | .heartbeatReceived .. => fun hF => keeps_execHeartbeatReceived hF hs
  | .memberLossTimeout .. => fun hF => keeps_execMemberLossTimeout hF hs
  | .leaderCandidacyTimeout .. => fun hF => keeps_execLeaderCandidacyTimeout hF hs
  | .leaderProposalReceived .. => fun hF => keeps_execLeaderProposalReceived hF hs
  | .isolateTimeout .. => fun hF => keeps_execIsolateTimeout hF hs
  | .expelledReceived .. => fun hF => keeps_execExpelledReceived hF hs
  | .bypassLoopbackTrained .. => fun hF => keeps_execBypassLoopbackTrained hF hs
  | .pauseReceived .. => fun hF => keeps_execPauseReceived hF hs
  | .pauseAckReceived .. => fun hF => keeps_execPauseAckReceived hF hs
  | .bypassOpeningTimeout .. => fun hF => keeps_execBypassOpeningTimeout hF hs
  | .bypassOpenTrainTimeout .. => fun hF => keeps_execBypassOpenTrainTimeout hF hs
  | .bypassRetryTimeout .. => fun hF => keeps_execBypassRetryTimeout hF hs
  | .ringBypForceClose .. => fun hF => keeps_execRingBypForceClose hF hs
  | .retentionHeartbeatLoss .. => fun hF => keeps_execRetentionHeartbeatLoss hF hs
  | .evacuate .. => fun hF => keeps_execEvacuate hF hs
  | .evacuationTransfersDone .. => fun hF => keeps_execEvacuationTransfersDone hF hs
  | .evacuationLimitExpiry .. => fun hF => keeps_execEvacuationLimitExpiry hF hs
  | .ringVcWrite .. => fun hF => keeps_execRingVcWrite hF hs
  | .ringMapCfgWrite .. => fun hF => keeps_execRingMapCfgWrite hF hs
  | .ringCntClr .. => fun hF => keeps_execRingCntClr hF hs
  | .refillInstant .. => fun hF => keeps_execRefillInstant hF hs
  | .portFrameStart .. => fun hF => keeps_execPortFrameStart hF hs
  | .deferTimeout .. => fun hF => keeps_execDeferTimeout hF hs
  | .policeNackReceived .. => fun hF => keeps_execPoliceNackReceived hF hs
  | .queueSampleTick .. => fun hF => keeps_execQueueSampleTick hF hs
  | .shaperSet .. => fun hF => keeps_execShaperSet hF hs
  | .policerSet .. => fun hF => keeps_execPolicerSet hF hs
  | .shpHistClr .. => fun hF => keeps_execShpHistClr hF hs
  | .shpCntClr .. => fun hF => keeps_execShpCntClr hF hs
  | .shpCtxCntClr .. => fun hF => keeps_execShpCtxCntClr hF hs
  | .roleSet .. => fun hF => keeps_execRoleSet hF hs
  | .admissionEvaluation .. => fun hF => keeps_execAdmissionEvaluation hF hs
  | .storageMeterTick .. => fun hF => keeps_execStorageMeterTick hF hs
  | .meterCheckpoint .. => fun hF => keeps_execMeterCheckpoint hF hs
  | .meterReadLive .. => fun hF => keeps_execMeterReadLive hF hs
  | .meterReadFetch .. => fun hF => keeps_execMeterReadFetch hF hs
  | .meterReadAck .. => fun hF => keeps_execMeterReadAck hF hs
  | .remoteMeterRequest .. => fun hF => keeps_execRemoteMeterRequest hF hs
  | .remoteMeterTimeout .. => fun hF => keeps_execRemoteMeterTimeout hF hs
  | .mtrCompTagWrite .. => fun hF => keeps_execMtrCompTagWrite hF hs
  | .ctlAdmCntClr .. => fun hF => keeps_execCtlAdmCntClr hF hs
  | .mtrCntClr .. => fun hF => keeps_execMtrCntClr hF hs
  | .ctlSesCntClr .. => fun hF => keeps_execCtlSesCntClr hF hs
  | .jobKeySet .. => fun hF => keeps_execJobKeySet hF hs
  | .jobKeyRetire .. => fun hF => keeps_execJobKeyRetire hF hs
  | .keySlotEmptied .. => fun hF => keeps_execKeySlotEmptied hF hs
  | .secFabricTxSlotWrite .. => fun hF => keeps_execSecFabricTxSlotWrite hF hs
  | .secCntClr .. => fun hF => keeps_execSecCntClr hF hs
  | .spdmRequest .. => fun hF => keeps_execSpdmRequest hF hs
  | .ideKmRequest .. => fun hF => keeps_execIdeKmRequest hF hs
  | .ideStreamFailure .. => fun hF => keeps_execIdeStreamFailure hF hs
  | .lockInterfaceRequest .. => fun hF => keeps_execLockInterfaceRequest hF hs
  | .startInterfaceRequest .. => fun hF => keeps_execStartInterfaceRequest hF hs
  | .stopInterfaceRequest .. => fun hF => keeps_execStopInterfaceRequest hF hs
  | .tdispGetRequest .. => fun hF => keeps_execTdispGetRequest hF hs
  | .svnCommit .. => fun hF => keeps_execSvnCommit hF hs
  | .fwStage .. => fun hF => keeps_execFwStage hF hs
  | .importKeySet .. => fun hF => keeps_execImportKeySet hF hs
  | .fabricKeySet .. => fun hF => keeps_execFabricKeySet hF hs
  | .ownerTransfer .. => fun hF => keeps_execOwnerTransfer hF hs
  | .debugUnlock .. => fun hF => keeps_execDebugUnlock hF hs
  | .zeroize .. => fun hF => keeps_execZeroize hF hs
  | .mbInfo .. => fun hF => keeps_execMbInfo hF hs
  | .mbEcho .. => fun hF => keeps_execMbEcho hF hs
  | .faultArchiveRead .. => fun hF => keeps_execFaultArchiveRead hF hs
  | .resetCause .. => fun hF => keeps_execResetCause hF hs
  | .htiWMbreqSeal .. => fun hF => keeps_execHtiWMbreqSeal hF hs
  | .mailboxResponseReady .. => fun hF => keeps_execMailboxResponseReady hF hs
  | .htiWMbrspRead .. => fun hF => keeps_execHtiWMbrspRead hF hs
  | .mctpSecureMessage .. => fun hF => keeps_execMctpSecureMessage hF hs
  | .mbxSumAck .. => fun hF => keeps_execMbxSumAck hF hs
  | .doorbellWordWriteDone .. => fun hF => keeps_execDoorbellWordWriteDone hF hs
  | .doorbellWordWriteFail .. => fun hF => keeps_execDoorbellWordWriteFail hF hs
  | .htiWEvtEnable .. => fun hF => keeps_execHtiWEvtEnable hF hs
  | .htiWEvtDisable .. => fun hF => keeps_execHtiWEvtDisable hF hs
  | .htiWEvtHeadWrite .. => fun hF => keeps_execHtiWEvtHeadWrite hF hs
  | .eventRecordWriteFail .. => fun hF => keeps_execEventRecordWriteFail hF hs
  | .htiWFltHeadWrite .. => fun hF => keeps_execHtiWFltHeadWrite hF hs
  | .mbxCntClr .. => fun hF => keeps_execMbxCntClr hF hs
  | .powerUp .. => fun hF => keeps_execPowerUp hF hs
  | .porRelease .. => fun hF => keeps_execPorRelease hF hs
  | .bootRomVerify .. => fun hF => keeps_execBootRomVerify hF hs
  | .perstNDeassert .. => fun hF => keeps_execPerstNDeassert hF hs
  | .hbmStackTrained .. => fun hF => keeps_execHbmStackTrained hF hs
  | .panelTestDone .. => fun hF => keeps_execPanelTestDone hF hs
  | .t1TrainingLimitExpiry .. => fun hF => keeps_execT1TrainingLimitExpiry hF hs
  | .nvmStoreStore .. => fun hF => keeps_execNvmStoreStore hF hs
  | .nvmStoreClear .. => fun hF => keeps_execNvmStoreClear hF hs
  | .nvmCntClr .. => fun hF => keeps_execNvmCntClr hF hs
  | .ctlFnDisableStop .. => fun hF => keeps_execCtlFnDisableStop hF hs
  | .ctlFnDisableDrain .. => fun hF => keeps_execCtlFnDisableDrain hF hs
  | .ctlFnEnable .. => fun hF => keeps_execCtlFnEnable hF hs
  | .fnAcceptedWorkDone .. => fun hF => keeps_execFnAcceptedWorkDone hF hs
  | .fnDisableTimeout .. => fun hF => keeps_execFnDisableTimeout hF hs
  | .ctlResetSoft .. => fun hF => keeps_execCtlResetSoft hF hs
  | .softResetEnd .. => fun hF => keeps_execSoftResetEnd hF hs
  | .ctlResetWarm .. => fun hF => keeps_execCtlResetWarm hF hs
  | .ctlFnRst .. => fun hF => keeps_execCtlFnRst hF hs
  | .fnResetEnd .. => fun hF => keeps_execFnResetEnd hF hs
  | .ctlCtxRst .. => fun hF => keeps_execCtlCtxRst hF hs
  | .ctxResetEnd .. => fun hF => keeps_execCtxResetEnd hF hs
  | .ctlRstCntClr .. => fun hF => keeps_execCtlRstCntClr hF hs
  | .p2IdleEntry .. => fun hF => keeps_execP2IdleEntry hF hs
  | .p2Exit .. => fun hF => keeps_execP2Exit hF hs
  | .p3Req .. => fun hF => keeps_execP3Req hF hs
  | .p3EntryComplete .. => fun hF => keeps_execP3EntryComplete hF hs
  | .p3LimitExpiry .. => fun hF => keeps_execP3LimitExpiry hF hs
  | .pmWakeNAssert .. => fun hF => keeps_execPmWakeNAssert hF hs
  | .perstNAssert .. => fun hF => keeps_execPerstNAssert hF hs
  | .wholeFlewickFailure .. => fun hF => keeps_execWholeFlewickFailure hF hs
  | .refclkLoss .. => fun hF => keeps_execRefclkLoss hF hs
  | .inputLowVin .. => fun hF => keeps_execInputLowVin hF hs
  | .lowVinClear .. => fun hF => keeps_execLowVinClear hF hs
  | .inputUndervoltage .. => fun hF => keeps_execInputUndervoltage hF hs
  | .inputOvervoltage .. => fun hF => keeps_execInputOvervoltage hF hs
  | .drogueAdmit .. => fun hF => keeps_execDrogueAdmit hF hs
  | .limiterTick .. => fun hF => keeps_execLimiterTick hF hs
  | .thermalTick .. => fun hF => keeps_execThermalTick hF hs
  | .thermalTrip .. => fun hF => keeps_execThermalTrip hF hs
  | .tripLockoutEnd .. => fun hF => keeps_execTripLockoutEnd hF hs
  | .pwrStepWrite .. => fun hF => keeps_execPwrStepWrite hF hs
  | .pwrClkMaxWrite .. => fun hF => keeps_execPwrClkMaxWrite hF hs
  | .pwrCntClr .. => fun hF => keeps_execPwrCntClr hF hs
  | .flashPrsntChange .. => fun hF => keeps_execFlashPrsntChange hF hs
  | .flashPerstRelease .. => fun hF => keeps_execFlashPerstRelease hF hs
  | .flashBringupRetry .. => fun hF => keeps_execFlashBringupRetry hF hs
  | .poolPerstNInput .. => fun hF => keeps_execPoolPerstNInput hF hs
  | .spiReqAssert .. => fun hF => keeps_execSpiReqAssert hF hs
  | .spiReqDeassert .. => fun hF => keeps_execSpiReqDeassert hF hs
  | .svcAttnPress .. => fun hF => keeps_execSvcAttnPress hF hs
  | .i3cEntdaa .. => fun hF => keeps_execI3cEntdaa hF hs
  | .ctlPinCntClr .. => fun hF => keeps_execCtlPinCntClr hF hs
  | .hostPortLinkChange .. => fun hF => keeps_execHostPortLinkChange hF hs
  | .poolPortLinkChange .. => fun hF => keeps_execPoolPortLinkChange hF hs
  | .ringPortTrained .. => fun hF => keeps_execRingPortTrained hF hs
  | .logicalDeviceBind .. => fun hF => keeps_execLogicalDeviceBind hF hs
  | .engineLaneTestDone .. => fun hF => keeps_execEngineLaneTestDone hF hs
  | .vinHighRideThrough .. => fun hF => keeps_execVinHighRideThrough hF hs
  | .jtagTapOperation .. => fun _ => keeps_execJtagTapOperation hs
  | .registerReadLogged .. => fun hF => keeps_execRegisterReadLogged hF hs
  | .regionHoldMessageReceived .. => fun hF => keeps_execRegionHoldMessageReceived hF hs
  | .mapRequestReceived .. => fun _ => keeps_execMapRequestReceived hs
  | .spoolGatherRequestReceived .. => fun hF => keeps_execSpoolGatherRequestReceived hF hs
  | .sessionRoleNoticeReceived .. => fun hF => keeps_execSessionRoleNoticeReceived hF hs
  | .serviceLedBlinkEnd .. => fun hF => keeps_execServiceLedBlinkEnd hF hs

theorem keeps_of_exec {i : Instr} (h : exec i s = .next t) : Keeps (mayChange i) s t :=
  KeepsO.get h (keeps_exec (.refl _ s) i (List.Subset.refl _))

theorem step_of_empty (h : s.pending = []) : step s = .next s := by
  unfold step
  rw [h]

theorem step_of_cons {c : Instr} {rest : List Instr} (h : s.pending = c :: rest) : step s = exec c { s with pending := rest } := by
  unfold step
  rw [h]

/-- What a step that answers a next state has done: nothing with an empty queue, and else the first command's effect. -/
theorem step_cases (h : step s = .next t) :
    (s.pending = [] ∧ t = s) ∨ ∃ c rest, s.pending = c :: rest ∧ Keeps (mayChange c) { s with pending := rest } t := by
  cases hp : s.pending with
  | nil =>
    rw [step_of_empty hp, Host.Outcome.next.injEq] at h
    exact .inl ⟨rfl, h.symm⟩
  | cons c rest =>
    rw [step_of_cons hp] at h
    exact .inr ⟨c, rest, rfl, keeps_of_exec h⟩

/-- Settles O1: the queue of the state with a command put in front is that command and the old queue. -/
theorem stepRunsTheFront : Obligations.StepRunsTheFront := fun _ _ => step_of_cons rfl

/-- Settles O2. -/
theorem idleStep : Obligations.IdleStep := fun _ => step_of_empty

/-- Settles O4: a step either leaves the register file or writes it by operations that each keep its form. -/
theorem registersStayCanonical : Obligations.RegistersStayCanonical := by
  unfold Obligations.RegistersStayCanonical
  intro s t hs h
  rcases step_cases h with ⟨-, rfl⟩ | ⟨c, rest, -, k⟩
  · exact hs
  · exact k.regs hs

/-- Settles O5: no operation writes the identity register, and no reset takes its fields to other values than those that they hold. -/
theorem identityStays : Obligations.IdentityStays := by
  unfold Obligations.IdentityStays
  rintro s t ⟨hdevice, hrev⟩ h
  rcases step_cases h with ⟨-, rfl⟩ | ⟨c, rest, -, k⟩
  · exact ⟨hdevice, hrev⟩
  · exact ⟨k.device hdevice, k.rev hrev⟩

/-- Settles O6: the queue loses its first command before the command runs, and no operation touches the queue, goes back in the free
values or takes back output. -/
theorem oneCommandPerStep : Obligations.OneCommandPerStep := by
  unfold Obligations.OneCommandPerStep
  intro s t h
  rcases step_cases h with ⟨hp, rfl⟩ | ⟨c, rest, hp, k⟩
  · exact ⟨by rw [hp]; rfl, le_rfl, List.prefix_rfl⟩
  · exact ⟨by rw [hp]; exact k.pending, k.fresh, k.out⟩

/-- Settles O7: the frame of each command's meaning. -/
theorem commandsChangeOnlyTheirPieces : Obligations.CommandsChangeOnlyTheirPieces := fun _ _ _ h => (keeps_of_exec h).sameBut

end Sys2Proof.Machine
end

section
/-! SUPPORT. Reset, and writes to settings: what reset leaves, the clears of the error log and of the queue histograms, the ring's shares and
map settings (R368), and the settings that have commands of their own (R400, R419, R504). -/

namespace Sys2Proof.Machine

/-! ### Reset -/

/-- The empty register file reads as every field's Reset value. -/
theorem rd_reset (f : Fld) {i : Nat} (j : Nat) (hi : i < 65536) : State.reset.rd f i j = f.dflt i := by
  have h : State.reset.rd f i j = regDefault (f.key i j) := rfl
  rw [h, regDefault_key, Nat.mod_eq_of_lt hi]

/-- Settles O3: a register file without entries reads as its defaults; the tables are written out in the definition of reset. -/
theorem resetLeaves : Obligations.ResetLeaves :=
  ⟨fun f _ j hi => rd_reset f j hi, regsWf_reset, rd_reset _ _ (by decide), rd_reset _ _ (by decide), rd_reset _ _ (by decide), rfl, rfl, rfl, rfl⟩

/-! ### The error log -/

/-- Fields of one row each, all their rows written with zero. -/
def State.zeroRows16 (s : State) (l : List Fld) : State := l.foldl (fun s f => s.wrAll f (instances 16 1) 0) s

theorem rd_zeroRows16 {l : List Fld} {f : Fld} (hf : f ∈ l) {i : Nat} (hi : i < 16) (s : State) : (s.zeroRows16 l).rd f i = 0 := by
  suffices H : ∀ (l : List Fld) (s : State), (s.rd f i = 0 ∨ f ∈ l) → (s.zeroRows16 l).rd f i = 0 from H l s (.inr hf)
  intro l
  induction l with
  | nil => exact fun s h => h.resolve_right List.not_mem_nil
  | cons g t ih =>
    refine fun s h => ih (s.wrAll g (instances 16 1) 0) ?_
    by_cases e : g = f
    · subst e
      exact .inl ((rd_wrAll_mem s g _ 0 i 0 (mem_instances hi one_pos)).trans (Nat.zero_mod _))
    · rw [rd_wrAll_field s _ _ _ _ e]
      exact h.imp_right fun h => (List.mem_cons.mp h).resolve_left (Ne.symm e)

theorem onlyRegs_zeroRows16 (l : List Fld) (s : State) : OnlyRegs l s (s.zeroRows16 l) := by
  suffices H : ∀ (m : List Fld), m ⊆ l → ∀ s : State, OnlyRegs l s (s.zeroRows16 m) from H l (List.Subset.refl l) s
  intro m
  induction m with
  | nil => exact fun _ s => .refl l s
  | cons g t ih =>
    exact fun h s => (onlyRegs_wrAll s _ 0 (h List.mem_cons_self)).trans (ih (fun _ hx => h (List.mem_cons_of_mem _ hx)) _)

/-- OVF, which is W1C in the word that clears the log. -/
def State.clearOvf (s : State) (v : Nat) : State := if bitAt v 9 then s.wr .HTI_ERRLOG_CTL_OVF 0 0 0 else s

theorem clearErrlog_eq (v : Nat) (s : State) : clearErrlog v s =
    (((s.clearOvf v).zeroRows16 errlogFields).wr .HTI_ERRLOG_CTL_NEXT 0 0 0).wr .HTI_ERRLOG_CTL_COUNT 0 0 0 := by
  simp only [clearErrlog, State.clearOvf, State.zeroRows16, errlogFields, List.foldl_cons, List.foldl_nil]

theorem rd_clearOvf (s : State) (v : Nat) :
    (s.clearOvf v).rd .HTI_ERRLOG_CTL_OVF = if bitAt v 9 then 0 else s.rd .HTI_ERRLOG_CTL_OVF := by
  unfold State.clearOvf
  split
  · rw [rd_wr_same, Nat.zero_mod]
  · rfl

/-- The fields that a clear of the error log writes. -/
def errlogClearFields : List Fld := [.HTI_ERRLOG_CTL_NEXT, .HTI_ERRLOG_CTL_COUNT, .HTI_ERRLOG_CTL_OVF] ++ errlogFields

theorem onlyRegs_clearErrlog (v : Nat) (s : State) : OnlyRegs errlogClearFields s (clearErrlog v s) := by
  have hovf : OnlyRegs errlogClearFields s (s.clearOvf v) := by
    unfold State.clearOvf
    split
    · exact onlyRegs_wr s _ _ _ (by decide)
    · exact .refl _ s
  rw [clearErrlog_eq]
  exact ((hovf.trans ((onlyRegs_zeroRows16 errlogFields _).mono (List.subset_append_right _ _))).trans
    (onlyRegs_wr _ _ _ _ (by decide))).trans (onlyRegs_wr _ _ _ _ (by decide))

theorem rd_clearErrlog_entry (v : Nat) (s : State) {f : Fld} (hf : f ∈ errlogFields) {i : Nat} (hi : i < 16) : (clearErrlog v s).rd f i = 0 := by
  have hnext : Fld.HTI_ERRLOG_CTL_NEXT ≠ f := by rintro rfl; exact absurd hf (by decide)
  have hcount : Fld.HTI_ERRLOG_CTL_COUNT ≠ f := by rintro rfl; exact absurd hf (by decide)
  rw [clearErrlog_eq, rd_wr_field _ _ _ _ _ _ hcount, rd_wr_field _ _ _ _ _ _ hnext, rd_zeroRows16 hf hi]

theorem rd_clearErrlog_next (v : Nat) (s : State) : (clearErrlog v s).rd .HTI_ERRLOG_CTL_NEXT = 0 := by
  rw [clearErrlog_eq, rd_wr_field _ _ _ _ _ _ (by decide), rd_wr_same, Nat.zero_mod]

theorem rd_clearErrlog_count (v : Nat) (s : State) : (clearErrlog v s).rd .HTI_ERRLOG_CTL_COUNT = 0 := by
  rw [clearErrlog_eq, rd_wr_same, Nat.zero_mod]

theorem rd_clearErrlog_ovf (v : Nat) (s : State) :
    (clearErrlog v s).rd .HTI_ERRLOG_CTL_OVF = if bitAt v 9 then 0 else s.rd .HTI_ERRLOG_CTL_OVF := by
  rw [clearErrlog_eq, rd_wr_field _ _ _ _ _ _ (by decide), rd_wr_field _ _ _ _ _ _ (by decide),
    (onlyRegs_zeroRows16 errlogFields _).2 _ (by decide), rd_clearOvf]

/-! ### The queue histograms -/

/-- The keys of the histograms' bins and maxima. -/
def histKey (k : Nat) : Bool := histFields.any fun f => k / 4294967296 = f.num

theorem histKey_key (f : Fld) (i j : Nat) : histKey (f.key i j) = decide (f ∈ histFields) := by
  have hnum : f.key i j / 4294967296 = f.num := by unfold Fld.key; omega
  have hinj (g : Fld) : f.num = g.num ↔ f = g := ⟨fun h => by
    have := ofNum_num g
    rw [← h, ofNum_num, Option.some.injEq] at this
    exact this, congrArg _⟩
  simp only [histKey, hnum, hinj, histFields, List.any_cons, List.any_nil, Bool.or_false, List.mem_cons, List.not_mem_nil, or_false,
    Bool.decide_or]

/-- The state whose histograms are cleared: their entries are gone from the register file. -/
def State.clearHist (s : State) : State := { s with regs := s.regs.filter fun p => !histKey p.1 }

theorem rd_clearHist (s : State) (f : Fld) (i j : Nat) :
    s.clearHist.rd f i j = if f ∈ histFields then f.dflt (i % 65536) else s.rd f i j := by
  unfold State.clearHist State.rd regGet
  rw [Map.find_filter s.regs (fun k => !histKey k), histKey_key, regDefault_key]
  by_cases h : f ∈ histFields
  · rw [if_pos h, decide_eq_true h]; rfl
  · rw [if_neg h, decide_eq_false h]; rfl

theorem rd_clearHist_hist (s : State) {f : Fld} (hf : f ∈ histFields) (i j : Nat) : s.clearHist.rd f i j = 0 := by
  rw [rd_clearHist, if_pos hf]
  simp only [histFields, List.mem_cons, List.not_mem_nil, or_false] at hf
  rcases hf with rfl | rfl | rfl | rfl <;> rfl

theorem onlyRegs_clearHist (s : State) : OnlyRegs histFields s s.clearHist :=
  ⟨⟨_, rfl⟩, fun f hf i j => by rw [rd_clearHist, if_neg hf]⟩

/-- Settles O10: each clear by the lemmas on what it reads and leaves. -/
theorem logAndHistogramClear : Obligations.LogAndHistogramClear := by
  unfold Obligations.LogAndHistogramClear
  refine ⟨fun v s hon hclr => ⟨clearErrlog v s, ?log, rd_clearErrlog_next v s, rd_clearErrlog_count v s, rd_clearErrlog_ovf v s,
    fun f hf i hi => rd_clearErrlog_entry v s hf hi, onlyRegs_clearErrlog v s⟩,
    fun v s hon hclr => ⟨s.clearHist, ?hist, fun f hf i j => rd_clearHist_hist s hf i j, onlyRegs_clearHist s⟩⟩
  case log => exact congrArg Host.Outcome.next ((hostWrite_of_on hon _).trans (if_pos hclr))
  case hist => exact congrArg Host.Outcome.next ((hostWrite_of_on hon _).trans (if_pos hclr))

/-! ### The ring's settings (R368) -/

/-- The sum of the shares where VC `vc` holds `k`. -/
def State.shareSum (s : State) (vc k : Nat) : Nat := (List.range 8).foldl (fun a n => a + if n = vc then k else s.rd .RING_VC_BUF_KIB n) 0

/-- What R368 forbids of the shares. -/
def State.SharesBreak (s : State) (vc k : Nat) : Prop :=
  1024 < s.shareSum vc k ∨ (vc = 0 ∧ k < 16) ∨ (vc ≠ 0 ∧ s.rd .RING_VC_BUF_KIB 0 < 16)

section
variable {vc v : Nat} {s : State} (hvc : vc < 8)
include hvc

/-- After a share is written, each VC's share reads as the written one or as before. -/
theorem rd_share_wr {k n : Nat} (hk : k < 2 ^ 11) (hn : n < 8) :
    (s.wr .RING_VC_BUF_KIB vc 0 k).rd .RING_VC_BUF_KIB n = if n = vc then k else s.rd .RING_VC_BUF_KIB n := by
  by_cases e : n = vc
  · subst e
    rw [if_pos rfl, rd_wr_same]
    exact Nat.mod_eq_of_lt hk
  · rw [if_neg e]
    refine rd_wr_ne s k fun h => e ?_
    have hrow := (key_inj h).2.1
    omega

theorem ringVcWrite_eq (hlegal : fieldOf .RING_VC_BUF_KIB v ≤ 1024) : ringVcWrite vc v s =
    if s.shareSum vc (fieldOf .RING_VC_BUF_KIB v) ≤ 1024 ∧ 16 ≤ (if 0 = vc then fieldOf .RING_VC_BUF_KIB v else s.rd .RING_VC_BUF_KIB 0)
      then s.wr .RING_VC_BUF_KIB vc 0 (fieldOf .RING_VC_BUF_KIB v) else s.bump .RING_CNT_COUNT 15 0 1 := by
  have hk : fieldOf .RING_VC_BUF_KIB v < 2 ^ 11 := fieldOf_lt _ v
  have hput : s.put .RING_VC_BUF_KIB vc 0 (fieldOf .RING_VC_BUF_KIB v) = s.wr .RING_VC_BUF_KIB vc 0 (fieldOf .RING_VC_BUF_KIB v) :=
    if_pos (decide_eq_true hlegal)
  have hsum : (List.range 8).foldl (fun a n => a + (s.wr .RING_VC_BUF_KIB vc 0 (fieldOf .RING_VC_BUF_KIB v)).rd .RING_VC_BUF_KIB n) 0 =
      s.shareSum vc (fieldOf .RING_VC_BUF_KIB v) :=
    List.foldl_ext _ _ _ fun a n hn => by rw [rd_share_wr hvc hk (List.mem_range.mp hn)]
  simp only [ringVcWrite, hput, hsum, rd_share_wr hvc hk (Nat.zero_lt_succ 7)]

theorem exec_ringVcWrite_of_on (hon : s.blkOn .RING = true) : exec (.ringVcWrite vc v) s = .next (ringVcWrite vc v s) :=
  congrArg Host.Outcome.next ((hostWrite_of_on hon _).trans (if_pos hvc))

variable (hlegal : fieldOf .RING_VC_BUF_KIB v ≤ 1024)
include hlegal

theorem ringVcWrite_of_break (h : s.SharesBreak vc (fieldOf .RING_VC_BUF_KIB v)) : ringVcWrite vc v s = s.bump .RING_CNT_COUNT 15 0 1 := by
  rw [ringVcWrite_eq hvc hlegal, if_neg]
  unfold State.SharesBreak at h
  rintro ⟨hsum, hfirst⟩
  split at hfirst <;> omega

theorem ringVcWrite_of_keep (h : ¬s.SharesBreak vc (fieldOf .RING_VC_BUF_KIB v)) :
    ringVcWrite vc v s = s.wr .RING_VC_BUF_KIB vc 0 (fieldOf .RING_VC_BUF_KIB v) := by
  rw [ringVcWrite_eq hvc hlegal, if_pos]
  unfold State.SharesBreak at h
  refine ⟨by omega, ?_⟩
  split <;> omega

end

/-- The fields of RING_MAP_CFG. -/
def mapCfgFields : List Fld :=
  [.RING_MAP_CFG_HB_MS, .RING_MAP_CFG_ISOLATE_MS, .RING_MAP_CFG_LOSS_MS, .RING_MAP_CFG_FORM_S, .RING_MAP_CFG_EXPECT]

/-- The values of a word written to RING_MAP_CFG that the fields list. -/
structure MapCfgLegal (v : Nat) : Prop where
  hb : 1 ≤ fieldOf .RING_MAP_CFG_HB_MS v
  loss : 25 ≤ fieldOf .RING_MAP_CFG_LOSS_MS v
  form : 1 ≤ fieldOf .RING_MAP_CFG_FORM_S v
  expect : 1 ≤ fieldOf .RING_MAP_CFG_EXPECT v ∧ fieldOf .RING_MAP_CFG_EXPECT v ≤ 1024

/-- What R368 asks of the times in RING_MAP_CFG. -/
def TimesFit (v : Nat) : Prop :=
  2 * fieldOf .RING_MAP_CFG_HB_MS v ≤ fieldOf .RING_MAP_CFG_ISOLATE_MS v ∧
    fieldOf .RING_MAP_CFG_ISOLATE_MS v + 2 * fieldOf .RING_MAP_CFG_HB_MS v ≤ fieldOf .RING_MAP_CFG_LOSS_MS v

section
variable {v : Nat} {s : State}

theorem MapCfgLegal.legal (h : MapCfgLegal v) {f : Fld} (hf : f ∈ mapCfgFields) : f.legal (fieldOf f v) = true := by
  have hhb : fieldOf .RING_MAP_CFG_HB_MS v < 2 ^ 8 := fieldOf_lt _ v
  have hloss : fieldOf .RING_MAP_CFG_LOSS_MS v < 2 ^ 8 := fieldOf_lt _ v
  have hform : fieldOf .RING_MAP_CFG_FORM_S v < 2 ^ 4 := fieldOf_lt _ v
  obtain ⟨h1, h2, h3, h4⟩ := h
  simp only [mapCfgFields, List.mem_cons, List.not_mem_nil, or_false] at hf
  rcases hf with rfl | rfl | rfl | rfl | rfl
  · exact decide_eq_true ⟨h1, by omega⟩
  · rfl
  · exact decide_eq_true ⟨h2, by omega⟩
  · exact decide_eq_true ⟨h3, by omega⟩
  · exact decide_eq_true h4

/-- Every field of a legal word reads as written. -/
theorem rd_mapCfg_putWord (h : MapCfgLegal v) {f : Fld} (hf : f ∈ mapCfgFields) : (s.putWord mapCfgFields 0 0 v).rd f = fieldOf f v :=
  rd_putWord s mapCfgFields 0 0 v (by decide) hf (h.legal hf)

section
variable (h : MapCfgLegal v)
include h

/-- The times that the registers would hold are those of a legal word. -/
theorem timesFit_putWord : TimesFit v ↔
    2 * (s.putWord mapCfgFields 0 0 v).rd .RING_MAP_CFG_HB_MS ≤ (s.putWord mapCfgFields 0 0 v).rd .RING_MAP_CFG_ISOLATE_MS ∧
      (s.putWord mapCfgFields 0 0 v).rd .RING_MAP_CFG_ISOLATE_MS + 2 * (s.putWord mapCfgFields 0 0 v).rd .RING_MAP_CFG_HB_MS ≤
        (s.putWord mapCfgFields 0 0 v).rd .RING_MAP_CFG_LOSS_MS := by
  rw [rd_mapCfg_putWord h (f := .RING_MAP_CFG_HB_MS) (by decide), rd_mapCfg_putWord h (f := .RING_MAP_CFG_ISOLATE_MS) (by decide),
    rd_mapCfg_putWord h (f := .RING_MAP_CFG_LOSS_MS) (by decide), TimesFit]

theorem ringMapCfg_of_fit (hfit : TimesFit v) : ringMapCfg v s = s.putWord mapCfgFields 0 0 v := if_pos ((timesFit_putWord h).mp hfit)

theorem ringMapCfg_of_unfit (hfit : ¬TimesFit v) : ringMapCfg v s = s.bump .RING_CNT_COUNT 15 0 1 := if_neg (mt (timesFit_putWord h).mpr hfit)

end

theorem exec_ringMapCfgWrite_of_on (hon : s.blkOn .RING = true) :
    exec (.ringMapCfgWrite v) s = .next (ringMapCfg v (s.latched (Fld.bar0 .RING_MAP_CFG_HB_MS 0 0) v)) :=
  congrArg Host.Outcome.next (hostWrite64_of_on (r := .RING_MAP_CFG_HB_MS) 0 v _ hon)

end

/-- Settles O13: the shares as they would stand, and the times of a legal word, decide. -/
theorem ringConfigWrites : Obligations.RingConfigWrites := by
  unfold Obligations.RingConfigWrites
  refine ⟨fun vc v s hvc hon hlegal => ⟨fun hbreak => ?_, fun hkeep => ?_⟩, fun v s hon => ?_⟩
  · rw [exec_ringVcWrite_of_on hvc hon, ringVcWrite_of_break hvc hlegal hbreak]
  · rw [exec_ringVcWrite_of_on hvc hon, ringVcWrite_of_keep hvc hlegal hkeep]
  · intro hb iso loss form count u hhb hloss hform hcount
    have hlegal : MapCfgLegal v := ⟨hhb, hloss, hform, hcount⟩
    have hrd {f : Fld} (hf : f ∈ mapCfgFields) := rd_mapCfg_putWord (s := u) hlegal hf
    rw [exec_ringMapCfgWrite_of_on hon]
    refine ⟨fun hnot => congrArg Host.Outcome.next (ringMapCfg_of_unfit hlegal hnot),
      fun hfit => ⟨_, congrArg Host.Outcome.next (ringMapCfg_of_fit hlegal hfit), ?_⟩⟩
    exact ⟨hrd (by decide), hrd (by decide), hrd (by decide), hrd (by decide), hrd (by decide), onlyRegs_putWord u _ 0 0 v (List.Subset.refl _)⟩

/-! ### Settings with commands of their own -/

section
variable {v : Nat} {s : State}

theorem exec_pwrClkMaxWrite_of_on (hon : s.blkOn .PWR = true) :
    exec (.pwrClkMaxWrite v) s = .next (s.put .PWR_CLK_MAX_MHZ 0 0 (fieldOf .PWR_CLK_MAX_MHZ v)) :=
  congrArg Host.Outcome.next (hostWrite_of_on hon _)

/-- The fields of PWR_STEP. -/
def pwrStepFields : List Fld := [.PWR_STEP_WATTS, .PWR_STEP_WINDOW_US]

theorem exec_pwrStepWrite_of_on (hon : s.blkOn .PWR = true) : exec (.pwrStepWrite v) s = .next (s.payDebt.putWord pwrStepFields 0 0 v) :=
  congrArg Host.Outcome.next (hostWrite_of_on hon _)

theorem pwrStep_legal (hwatts : 40 ≤ fieldOf .PWR_STEP_WATTS v) (hwindow : 1 ≤ fieldOf .PWR_STEP_WINDOW_US v) {f : Fld}
    (hf : f ∈ pwrStepFields) : f.legal (fieldOf f v) = true := by
  have hw : fieldOf .PWR_STEP_WATTS v < 2 ^ 10 := fieldOf_lt _ v
  have hu : fieldOf .PWR_STEP_WINDOW_US v < 2 ^ 10 := fieldOf_lt _ v
  simp only [pwrStepFields, List.mem_cons, List.not_mem_nil, or_false] at hf
  rcases hf with rfl | rfl
  · exact decide_eq_true ⟨hwatts, by omega⟩
  · exact decide_eq_true ⟨hwindow, by omega⟩

/-- A word written to fields of a register leaves the tables. -/
theorem putWord_pwr (s : State) (fs : List Fld) (i j word : Nat) : (s.putWord fs i j word).pwr = s.pwr := by
  obtain ⟨r, hr⟩ := (onlyRegs_putWord s fs i j word (List.Subset.refl fs)).1
  rw [hr]

/-- GORE_TILE_INJ: MODE and CTX read as written, and ARM is set by its bit and not cleared (W1S). -/
theorem rd_goreTileInj (hmode : fieldOf .GORE_TILE_INJ_MODE v ≤ 2) {f : Fld} (hf : f ∈ [Fld.GORE_TILE_INJ_MODE, .GORE_TILE_INJ_CTX]) :
    (goreTileInj v s).rd f = fieldOf f v := by
  have harm : Fld.GORE_TILE_INJ_ARM ≠ f := by rintro rfl; exact absurd hf (by decide)
  have hlegal : f.legal (fieldOf f v) = true := by
    simp only [List.mem_cons, List.not_mem_nil, or_false] at hf
    rcases hf with rfl | rfl
    · exact decide_eq_true hmode
    · rfl
  have hput := rd_putWord s [.GORE_TILE_INJ_MODE, .GORE_TILE_INJ_CTX] 0 0 v (by decide) hf hlegal
  unfold goreTileInj
  split
  · exact (rd_wr_field _ _ _ _ _ _ harm).trans hput
  · exact hput

theorem rd_goreTileInj_arm : (goreTileInj v s).rd .GORE_TILE_INJ_ARM = if bitAt v 0 then 1 else s.rd .GORE_TILE_INJ_ARM := by
  unfold goreTileInj
  split
  · exact rd_wr_same _ _ _ _ _
  · exact (onlyRegs_putWord s [.GORE_TILE_INJ_MODE, .GORE_TILE_INJ_CTX] 0 0 v (List.Subset.refl _)).2 _ (by decide) _ _

theorem onlyRegs_goreTileInj : OnlyRegs [.GORE_TILE_INJ_MODE, .GORE_TILE_INJ_CTX, .GORE_TILE_INJ_ARM] s (goreTileInj v s) := by
  have hput : OnlyRegs [.GORE_TILE_INJ_MODE, .GORE_TILE_INJ_CTX, .GORE_TILE_INJ_ARM] s
      (s.putWord [.GORE_TILE_INJ_MODE, .GORE_TILE_INJ_CTX] 0 0 v) := onlyRegs_putWord s _ 0 0 v (by decide)
  unfold goreTileInj
  split
  · exact hput.trans (onlyRegs_wr _ _ _ _ (by decide))
  · exact hput

/-- A 64-bit field takes the whole word. -/
theorem wr_compTag (s : State) (c v : Nat) : s.put .MTR_COMP_TAG c 0 v = s.wr .MTR_COMP_TAG c 0 v := if_pos rfl

/-- TX_SLOT reads as written: what follows from it shows the slots' other fields and greets the neighbours. -/
theorem rd_keyedFabric_txSlot (s : State) : s.keyedFabric.rd .SEC_FABRIC_TX_SLOT = s.rd .SEC_FABRIC_TX_SLOT := by
  have hshow : s.showFabric.rd .SEC_FABRIC_TX_SLOT = s.rd .SEC_FABRIC_TX_SLOT := by
    unfold State.showFabric
    simp only [rd_wr_field _ _ _ _ _ _ (show Fld.SEC_FABRIC_NO_KEY ≠ .SEC_FABRIC_TX_SLOT by decide),
      rd_wr_field _ _ _ _ _ _ (show Fld.SEC_FABRIC_LEFT0 ≠ .SEC_FABRIC_TX_SLOT by decide),
      rd_wr_field _ _ _ _ _ _ (show Fld.SEC_FABRIC_LEFT1 ≠ .SEC_FABRIC_TX_SLOT by decide),
      rd_wr_field _ _ _ _ _ _ (show Fld.SEC_FABRIC_PERSIST0 ≠ .SEC_FABRIC_TX_SLOT by decide),
      rd_wr_field _ _ _ _ _ _ (show Fld.SEC_FABRIC_PERSIST1 ≠ .SEC_FABRIC_TX_SLOT by decide),
      rd_wr_field _ _ _ _ _ _ (show Fld.SEC_FABRIC_VALID0 ≠ .SEC_FABRIC_TX_SLOT by decide),
      rd_wr_field _ _ _ _ _ _ (show Fld.SEC_FABRIC_VALID1 ≠ .SEC_FABRIC_TX_SLOT by decide)]
  unfold State.keyedFabric
  refine Eq.trans ?_ hshow
  dsimp only
  split
  · exact (keeps_helloAll (F := []) (.refl _ _)).rd _ (List.not_mem_nil) _ _
  · rfl

theorem exec_secFabricTxSlotWrite_of_on (hon : s.blkOn .SEC = true) : exec (.secFabricTxSlotWrite v) s = .next (txSlotWrite v s) :=
  congrArg Host.Outcome.next (hostWrite_of_on hon _)

/-- The share of a context reads as written; the pre-emption of its excess items touches no field of it. -/
theorem rd_goreShare {c : Nat} (hcap : fieldOf .GORE_SHARE_CAP v ≤ 1200) {f : Fld} (hf : f ∈ [Fld.GORE_SHARE_WEIGHT, .GORE_SHARE_CAP]) :
    (goreShare c v s).rd f c = fieldOf f v := by
  have hlegal : f.legal (fieldOf f v) = true := by
    simp only [List.mem_cons, List.not_mem_nil, or_false] at hf
    rcases hf with rfl | rfl
    · rfl
    · exact decide_eq_true hcap
  have hpiece : f.piece = .GORE_SHARE := by
    simp only [List.mem_cons, List.not_mem_nil, or_false] at hf
    rcases hf with rfl | rfl <;> rfl
  unfold goreShare
  exact ((keeps_winch (List.Subset.refl _) (keeps_mapItems (by decide) (.refl _ _))).rd f (by rw [hpiece]; decide) _ _).trans
    (rd_putWord s _ c 0 v (by decide) hf hlegal)

end

/-- Settles O14: each setting by the lemmas on its write. -/
theorem settingsTakeEffect : Obligations.SettingsTakeEffect := by
  unfold Obligations.SettingsTakeEffect
  refine ⟨fun v s hon => ?clock, fun v s hon hwatts hwindow => ?step, fun v s hon hmode => ?inject, fun c v s hc hon hlock => ?tag,
    fun v s hon => ?slot, fun c v s hc hon hlock hcap => ?share⟩
  case clock =>
    rw [exec_pwrClkMaxWrite_of_on hon]
    exact ⟨fun h => congrArg Host.Outcome.next (if_pos (decide_eq_true h)),
      fun h => congrArg Host.Outcome.next (if_neg (mt of_decide_eq_true h))⟩
  case step =>
    have hrd {f : Fld} (hf : f ∈ pwrStepFields) := rd_putWord s.payDebt pwrStepFields 0 0 v (by decide) hf (pwrStep_legal hwatts hwindow hf)
    refine ⟨_, exec_pwrStepWrite_of_on hon, hrd (by decide), hrd (by decide), (congrArg Pwr.wakes (putWord_pwr _ _ _ _ _)).trans rfl, ?_⟩
    exact (keeps_putWord (keeps_payDebt (by decide) (.refl _ s)) (Piece.fields (List.Subset.refl _) (by decide))).sameBut
  case inject =>
    exact ⟨_, congrArg Host.Outcome.next (hostWrite_of_on hon (goreTileInj v)), rd_goreTileInj hmode (by decide), rd_goreTileInj hmode (by decide),
      rd_goreTileInj_arm, onlyRegs_goreTileInj⟩
  case tag =>
    intro u
    have hexec : exec (.mtrCompTagWrite c v) s = .next (compTag c v u) := by
      rw [exec_mtrCompTagWrite_of_on hc v hon, lockWrite_of_unlocked (s := s.latched _ v) hlock]
    rw [hexec]
    refine ⟨fun hen => congrArg Host.Outcome.next (if_pos hen), fun hen => congrArg Host.Outcome.next ?_⟩
    exact (if_neg (ne_true_of_eq_false hen)).trans (wr_compTag u c v)
  case slot =>
    rw [exec_secFabricTxSlotWrite_of_on hon]
    refine ⟨fun h => congrArg Host.Outcome.next (if_neg (ne_true_of_eq_false h)), fun h => ⟨_, congrArg Host.Outcome.next (if_pos h), ?_, ?_⟩⟩
    · rw [rd_keyedFabric_txSlot, rd_wr_same, Nat.mod_eq_of_lt (fieldOf_lt _ v)]
    · exact (keeps_keyedFabric (List.Subset.refl _) (keeps_wr (.refl _ s) ⟨rfl, by decide⟩)).sameBut
  case share =>
    refine ⟨goreShare c v s, ?_, rd_goreShare hcap (by decide), rd_goreShare hcap (by decide)⟩
    rw [exec_goreShareWrite_of_on hc v hon, lockWrite_of_unlocked hlock]

end Sys2Proof.Machine
end

section
/-! SUPPORT. The bytes of ring frames (R345 to R348): fields one after the other are read back at their places, a sealed payload opens under
its key, and a frame goes out with its header, payload and trailer. -/

namespace Sys2Proof.Machine

/-! ### Fields one after the other -/

/-- The bytes that a list of fields takes. -/
def fieldsLen : List (Nat × Nat) → Nat
  | [] => 0
  | p :: t => p.2 + fieldsLen t

/-- Each value fits the bytes of its field. -/
def FieldsFit (l : List (Nat × Nat)) : Prop := ∀ p ∈ l, p.1 < 2 ^ (8 * p.2)

theorem fieldsLen_cons (p : Nat × Nat) (l : List (Nat × Nat)) : fieldsLen (p :: l) = p.2 + fieldsLen l := rfl

theorem fieldsLen_eq_sum (l : List (Nat × Nat)) : fieldsLen l = (l.map Prod.snd).sum := by
  induction l with
  | nil => rfl
  | cons p t ih => rw [fieldsLen_cons, ih, List.map_cons, List.sum_cons]

theorem joinFields_append (l m : List (Nat × Nat)) : joinFields (l ++ m) = joinFields l + 2 ^ (8 * fieldsLen l) * joinFields m := by
  induction l with
  | nil => simp [joinFields, fieldsLen]
  | cons p t ih =>
    rw [List.cons_append, joinFields, joinFields, ih, fieldsLen_cons]
    ring

theorem joinFields_lt {l : List (Nat × Nat)} (h : FieldsFit l) : joinFields l < 2 ^ (8 * fieldsLen l) := by
  induction l with
  | nil => simp [joinFields, fieldsLen]
  | cons p t ih =>
    have hp : p.1 < 2 ^ (8 * p.2) := h p List.mem_cons_self
    have ht : joinFields t + 1 ≤ 2 ^ (8 * fieldsLen t) := ih fun q hq => h q (List.mem_cons_of_mem _ hq)
    rw [joinFields, fieldsLen_cons, Nat.mul_add, pow_add]
    calc p.1 + 2 ^ (8 * p.2) * joinFields t
      _ < 2 ^ (8 * p.2) + 2 ^ (8 * p.2) * joinFields t := Nat.add_lt_add_right hp _
      _ = 2 ^ (8 * p.2) * (joinFields t + 1) := by ring
      _ ≤ 2 ^ (8 * p.2) * 2 ^ (8 * fieldsLen t) := Nat.mul_le_mul_left _ ht

theorem add_two_pow_mul_div {a k : Nat} (b : Nat) (h : a < 2 ^ k) : (a + 2 ^ k * b) / 2 ^ k = b := by
  rw [Nat.add_mul_div_left _ _ (Nat.two_pow_pos k), Nat.div_eq_of_lt h, Nat.zero_add]

theorem add_two_pow_mul_mod {a k : Nat} (b : Nat) (h : a < 2 ^ k) : (a + 2 ^ k * b) % 2 ^ k = a := by
  rw [Nat.add_mul_mod_self_left, Nat.mod_eq_of_lt h]

/-- The first bytes of two runs of fields are the first run. -/
theorem tileField_joinFields_prefix {l : List (Nat × Nat)} (m : List (Nat × Nat)) (h : FieldsFit l) :
    tileField (joinFields (l ++ m)) 0 (fieldsLen l) = joinFields l := by
  rw [tileField, Nat.mul_zero, pow_zero, Nat.div_one, joinFields_append, add_two_pow_mul_mod _ (joinFields_lt h)]

/-- A field stands after the bytes of the fields before it. -/
theorem tileField_joinFields {l m : List (Nat × Nat)} {p : Nat × Nat} (h : FieldsFit (l ++ p :: m)) :
    tileField (joinFields (l ++ p :: m)) (fieldsLen l) p.2 = p.1 := by
  have hl : FieldsFit l := fun q hq => h q (List.mem_append_left _ hq)
  rw [tileField, joinFields_append, add_two_pow_mul_div _ (joinFields_lt hl), joinFields,
    add_two_pow_mul_mod _ (h p (List.mem_append_right _ List.mem_cons_self))]

/-! ### Sealed payloads (R347, R348) -/

theorem flipBytes_lt (n x : Nat) : flipBytes n x < 2 ^ (8 * n) := by
  induction n generalizing x with
  | zero => exact Nat.one_pos
  | succ n ih =>
    have hbyte : x % 256 + 1 ≤ 256 := Nat.mod_lt x (by decide)
    calc flipBytes (n + 1) x
      _ = x % 256 * 2 ^ (8 * n) + flipBytes n (x / 256) := rfl
      _ < x % 256 * 2 ^ (8 * n) + 2 ^ (8 * n) := Nat.add_lt_add_left (ih _) _
      _ = (x % 256 + 1) * 2 ^ (8 * n) := by ring
      _ ≤ 256 * 2 ^ (8 * n) := Nat.mul_le_mul_right _ hbyte
      _ = 2 ^ (8 * (n + 1)) := by rw [Nat.mul_succ, pow_add]; ring

theorem gcmTag_lt (key iv m aad n x : Nat) : gcmTag key iv m aad n x < 2 ^ (8 * 16) := flipBytes_lt 16 _

/-- The key stream is added twice. -/
theorem gcmCrypt_gcmCrypt (key iv n x : Nat) : gcmCrypt key iv n (gcmCrypt key iv n x) = x := Nat.xor_xor_cancel_right x _

theorem gcmCrypt_lt (key iv : Nat) {n x : Nat} (h : x < 2 ^ (8 * n)) : gcmCrypt key iv n x < 2 ^ (8 * n) :=
  Nat.xor_lt_two_pow h (Nat.mod_lt _ (Nat.two_pow_pos _))

/-- What is sealed under a key, an IV and additional data opens under them to the bytes that were sealed. -/
theorem gcmOpen_gcmSeal (key iv m aad : Nat) {n x : Nat} (h : x < 2 ^ (8 * n)) : gcmOpen key iv m aad n (gcmSeal key iv m aad n x) = some x := by
  have hc := gcmCrypt_lt key iv h
  have hbytes : gcmSeal key iv m aad n x % 2 ^ (8 * n) = gcmCrypt key iv n x := by
    rw [gcmSeal, Nat.mod_eq_of_lt h, Nat.mul_comm]
    exact add_two_pow_mul_mod _ hc
  have htag : tileField (gcmSeal key iv m aad n x) n 16 = gcmTag key iv m aad n (gcmCrypt key iv n x) := by
    rw [gcmSeal, Nat.mod_eq_of_lt h, Nat.mul_comm, tileField, add_two_pow_mul_div _ hc, Nat.mod_eq_of_lt (gcmTag_lt _ _ _ _ _ _)]
  rw [gcmOpen, hbytes, htag, if_pos rfl, gcmCrypt_gcmCrypt]

/-- What may change on the way (R347), and the payload, count neither in the IV, the additional data nor the key of a frame. -/
def RFrame.arrives (f : RFrame) (colour hops : Nat) (dateline : Bool) (data : Nat) : RFrame :=
  { f with colour := colour, hops := hops, dateline := dateline, data := data }

theorem sealed_of_key {s : State} {f : RFrame} {k : Nat} (henc : f.enc = true) (hk : s.frameKey f = some k) :
    s.sealed f = gcmSeal k (frameIv f) 32 (frameAad f) f.len f.data := by
  simp only [State.sealed, henc, hk, if_true]

/-- A frame whose sealed bytes open passes. -/
theorem tagGood_of_open {t : State} {f : RFrame} {k x : Nat} (hk : t.frameKey f = some k) (hhere : t.keyHere f = true)
    (hopen : gcmOpen k (frameIv f) 32 (frameAad f) f.len f.data = some x) : t.tagGood f = true := by
  simp only [State.tagGood, hk, hhere, hopen, Option.isSome_some, Bool.and_self, Bool.or_true]

/-- Settles O56: what arrives has the IV, the additional data and the key of what left, so that it opens. -/
theorem sealedFramesOpen : Obligations.SealedFramesOpen := by
  unfold Obligations.SealedFramesOpen
  intro s t f k colour hops dateline henc hdata hs ht hhere g
  have hopen : gcmOpen k (frameIv g) 32 (frameAad g) g.len g.data = some f.data := by
    have hsame : gcmOpen k (frameIv g) 32 (frameAad g) g.len g.data = gcmOpen k (frameIv f) 32 (frameAad f) f.len (s.sealed f) := rfl
    rw [hsame, sealed_of_key henc hs, gcmOpen_gcmSeal k _ 32 _ hdata]
  exact ⟨tagGood_of_open (f := g) ht hhere hopen, hopen⟩

/-! ### A frame on a link (R345, R346) -/

theorem crcBit_lt {c : Nat} (h : c < 2 ^ 32) : crcBit c < 2 ^ 32 := by
  have hhalf : c / 2 < 2 ^ 32 := by omega
  unfold crcBit
  split
  · exact Nat.xor_lt_two_pow hhalf (by decide)
  · exact hhalf

theorem crcByte_lt {c b : Nat} (hc : c < 2 ^ 32) (hb : b < 2 ^ 32) : crcByte c b < 2 ^ 32 :=
  crcBit_lt (crcBit_lt (crcBit_lt (crcBit_lt (crcBit_lt (crcBit_lt (crcBit_lt (crcBit_lt (Nat.xor_lt_two_pow hc hb))))))))

theorem crcGo_lt (n x : Nat) {c : Nat} (h : c < 2 ^ 32) : crcGo n x c < 2 ^ 32 := by
  induction n generalizing x c with
  | zero => exact h
  | succ n ih => exact ih _ (crcByte_lt h (by omega))

theorem crc32c_lt (n x : Nat) : crc32c n x < 2 ^ 32 := Nat.xor_lt_two_pow (crcGo_lt n x (by decide)) (by decide)

theorem b2n_le (b : Bool) : b2n b ≤ 1 := by cases b <;> decide

/-- Each bit of ROUTE is its flag. -/
theorem frameRoute_bit (f : RFrame) {i : Nat} {v : Bool}
    (h : [f.set, f.xneg, f.yneg, f.dateline, f.fabric, f.first, f.last, f.yfirst][i]? = some v) : frameRoute f / 2 ^ i % 2 = b2n v := by
  have h0 := b2n_le f.set
  have h1 := b2n_le f.xneg
  have h2 := b2n_le f.yneg
  have h3 := b2n_le f.dateline
  have h4 := b2n_le f.fabric
  have h5 := b2n_le f.first
  have h6 := b2n_le f.last
  have h7 := b2n_le f.yfirst
  unfold frameRoute
  match i, h with
  | 0, h | 1, h | 2, h | 3, h | 4, h | 5, h | 6, h | 7, h => cases h; omega

theorem frameRoute_lt (f : RFrame) : frameRoute f < 2 ^ 8 := by
  have h0 := b2n_le f.set
  have h1 := b2n_le f.xneg
  have h2 := b2n_le f.yneg
  have h3 := b2n_le f.dateline
  have h4 := b2n_le f.fabric
  have h5 := b2n_le f.first
  have h6 := b2n_le f.last
  have h7 := b2n_le f.yfirst
  unfold frameRoute
  omega

/-- The fields of a header, in order (R346). -/
def headerFields (f : RFrame) : List (Nat × Nat) :=
  [(1, 1), (f.vc + 8 * b2n f.enc + 16 * f.key, 1), (f.colour + 4 * f.hops, 1), (frameRoute f, 1), (f.dst, 2), (f.src + f.boot * 2 ^ 10, 2),
    (f.ctx, 1), (f.kind, 1), (f.len, 2), (f.seq % 2 ^ 32, 4), (f.ivc % 2 ^ 64, 8), (f.msg % 2 ^ 32, 4), (f.offset % 2 ^ 32, 4)]

/-- The bytes of each field of a header. -/
def headerSizes : List Nat := [1, 1, 1, 1, 2, 2, 1, 1, 2, 4, 8, 4, 4]

theorem headerFields_sizes (f : RFrame) : (headerFields f).map Prod.snd = headerSizes := rfl

/-- Header and payload. -/
def bodyFields (f : RFrame) : List (Nat × Nat) := headerFields f ++ [(f.data, frameBytes f - 32)]

/-- The trailer for the link sequence number `q`. -/
def trailerFields (f : RFrame) (q : Nat) : List (Nat × Nat) :=
  [(crc32c (frameBytes f) (joinFields (bodyFields f)), 4), (q % 4096, 2), (0, 2)]

theorem fieldsLen_body (f : RFrame) : fieldsLen (bodyFields f) = frameBytes f := by
  have hheader : headerSizes.sum = 32 := rfl
  rw [fieldsLen_eq_sum, bodyFields, List.map_append, List.sum_append, headerFields_sizes, hheader, List.map_singleton, List.sum_singleton]
  unfold frameBytes
  omega

theorem joinFields_body (f : RFrame) : joinFields (bodyFields f) = frameHeader f + 2 ^ 256 * f.data := by
  rw [bodyFields, joinFields_append, joinFields, joinFields, Nat.mul_zero, Nat.add_zero]
  rfl

section
variable {f : RFrame} (hf : RFrame.wf f = true)
include hf

/-- The header fields of a well-formed frame and its payload fit their bytes. -/
theorem fieldsFit_body : FieldsFit (bodyFields f) := by
  simp only [RFrame.wf, isVc, isContext, isFlewick, isWord32, isWord64, Bool.and_eq_true, decide_eq_true_eq] at hf
  obtain ⟨⟨⟨⟨⟨⟨⟨⟨hvc, hctx⟩, hdst⟩, hsrc⟩, hboot, hkey, hcolour, hhops, hkind, hlen, hdata⟩, hseq⟩, hivc⟩, hmsg⟩, hoffset⟩ := hf
  have henc := b2n_le f.enc
  have hroute := frameRoute_lt f
  have hbytes : 8 * f.len + (if f.enc then 128 else 0) = 8 * (frameBytes f - 32) := by
    unfold frameBytes b2n
    split <;> omega
  rw [hbytes] at hdata
  simp only [FieldsFit, bodyFields, headerFields, List.cons_append, List.nil_append, List.forall_mem_cons, List.not_mem_nil, false_implies,
    implies_true, and_true]
  refine ⟨?_, ?_, ?_, ?_, ?_, ?_, ?_, ?_, ?_, ?_, ?_, ?_, ?_, hdata⟩ <;> omega

theorem fieldsFit_frame (q : Nat) : FieldsFit (bodyFields f ++ trailerFields f q) := by
  refine List.forall_mem_append.mpr ⟨fieldsFit_body hf, ?_⟩
  simp only [trailerFields, List.forall_mem_cons, List.not_mem_nil, false_implies, implies_true, and_true]
  exact ⟨crc32c_lt _ _, by omega, by decide⟩

end

/-- The bytes that go out for a frame, with the link sequence number `q`. -/
def linkBytes (f : RFrame) (q : Nat) : Nat := joinFields (bodyFields f ++ trailerFields f q)

theorem putFrame_eq (s : State) (p : Nat) (f : RFrame) : s.putFrame p f =
    (s.setRing { s.ring with lseq := Map.put s.ring.lseq p (((Map.find s.ring.lseq p).getD 0 + 1) % 4096) }).emit
      (.frame p (linkBytes f ((Map.find s.ring.lseq p).getD 0))) := by
  rw [linkBytes, joinFields_append, fieldsLen_body, trailerFields, joinFields_body]
  rfl

section
variable {f : RFrame} (hf : RFrame.wf f = true) (q : Nat)
include hf

/-- Each field of a frame stands after the bytes of the fields before it. -/
theorem tileField_linkBytes {k v n : Nat} (h : (bodyFields f ++ trailerFields f q)[k]? = some (v, n)) :
    tileField (linkBytes f q) (fieldsLen ((bodyFields f ++ trailerFields f q).take k)) n = v := by
  obtain ⟨hk, hget⟩ := List.getElem?_eq_some_iff.mp h
  have hsplit : bodyFields f ++ trailerFields f q =
      (bodyFields f ++ trailerFields f q).take k ++ (v, n) :: (bodyFields f ++ trailerFields f q).drop (k + 1) := by
    rw [← hget, ← List.drop_eq_getElem_cons hk, List.take_append_drop]
  have hfit := fieldsFit_frame hf q
  rw [hsplit] at hfit
  have := tileField_joinFields hfit
  rwa [← hsplit] at this

/-- A header field stands after the bytes of the fields before it. -/
theorem tileField_linkBytes_header (k : Nat) {v n o : Nat} (h : (headerFields f)[k]? = some (v, n)) (ho : (headerSizes.take k).sum = o) :
    tileField (linkBytes f q) o n = v := by
  obtain ⟨hk, -⟩ := List.getElem?_eq_some_iff.mp h
  have hget : (bodyFields f ++ trailerFields f q)[k]? = some (v, n) := by
    rw [bodyFields, List.append_assoc, List.getElem?_append_left hk, h]
  have htake : fieldsLen ((bodyFields f ++ trailerFields f q).take k) = o := by
    rw [bodyFields, List.append_assoc, List.take_append_of_le_length hk.le, fieldsLen_eq_sum, List.map_take, headerFields_sizes, ho]
  exact htake ▸ tileField_linkBytes hf q hget

/-- The payload stands after the header. -/
theorem tileField_linkBytes_data : tileField (linkBytes f q) 32 (frameBytes f - 32) = f.data := by
  have htake : fieldsLen (headerFields f) = 32 := by rw [fieldsLen_eq_sum, headerFields_sizes]; rfl
  have hfit := fieldsFit_frame hf q
  rw [bodyFields, List.append_assoc] at hfit
  rw [linkBytes, bodyFields, List.append_assoc]
  exact htake ▸ tileField_joinFields hfit

theorem tileField_linkBytes_body : tileField (linkBytes f q) 0 (frameBytes f) = joinFields (bodyFields f) := by
  rw [← fieldsLen_body f]
  exact tileField_joinFields_prefix _ (fieldsFit_body hf)

/-- The trailer stands after the body. -/
theorem linkBytes_div : linkBytes f q / 2 ^ (8 * frameBytes f) = joinFields (trailerFields f q) := by
  rw [linkBytes, joinFields_append, ← fieldsLen_body f, add_two_pow_mul_div _ (joinFields_lt (fieldsFit_body hf))]

theorem tileField_linkBytes_crc : tileField (linkBytes f q) (frameBytes f) 4 = crc32c (frameBytes f) (joinFields (bodyFields f)) := by
  have hcrc := crc32c_lt (frameBytes f) (joinFields (bodyFields f))
  rw [tileField, linkBytes_div hf, trailerFields, joinFields]
  exact add_two_pow_mul_mod (k := 8 * 4) _ hcrc

/-- After the CRC stand the link sequence number and two zero bytes. -/
theorem linkBytes_div_crc : linkBytes f q / 2 ^ (8 * (frameBytes f + 4)) = q % 4096 := by
  have hcrc := crc32c_lt (frameBytes f) (joinFields (bodyFields f))
  rw [Nat.mul_add, pow_add, ← Nat.div_div_eq_div_mul, linkBytes_div hf, trailerFields, joinFields]
  exact (add_two_pow_mul_div (k := 8 * 4) _ hcrc).trans (by simp [joinFields])

end

/-- Settles O57: each field by its place in the list of fields. -/
theorem framesOnTheLink : Obligations.FramesOnTheLink := by
  unfold Obligations.FramesOnTheLink
  intro s p f hf q n
  have hwf := hf
  simp only [RFrame.wf, isVc, isContext, isFlewick, isWord32, isWord64, Bool.and_eq_true, decide_eq_true_eq] at hwf
  obtain ⟨⟨⟨⟨⟨⟨⟨⟨hvc, -⟩, -⟩, hsrc⟩, -, hkey, hcolour, -, -, -, -⟩, hseq⟩, hivc⟩, hmsg⟩, hoffset⟩ := hwf
  have henc := b2n_le f.enc
  have field (k : Nat) {v n o : Nat} (h : (headerFields f)[k]? = some (v, n)) (ho : (headerSizes.take k).sum = o) :=
    tileField_linkBytes_header hf q k h ho
  have hone : tileField (linkBytes f q) 1 1 = f.vc + 8 * b2n f.enc + 16 * f.key := field 1 rfl rfl
  have htwo : tileField (linkBytes f q) 2 1 = f.colour + 4 * f.hops := field 2 rfl rfl
  have hroute : tileField (linkBytes f q) 3 1 = frameRoute f := field 3 rfl rfl
  have hsix : tileField (linkBytes f q) 6 2 = f.src + f.boot * 2 ^ 10 := field 5 rfl rfl
  have hlseq : Map.find (s.putFrame p f).ring.lseq p = some ((q + 1) % 4096) := by
    rw [putFrame_eq]
    exact Map.find_put_same _ _ _
  have hcrc : tileField (linkBytes f q) n 4 = crc32c n (tileField (linkBytes f q) 0 n) := by
    rw [tileField_linkBytes_crc hf, tileField_linkBytes_body hf]
  have hnum : tileField (linkBytes f q) (n + 4) 2 = q % 4096 := by
    rw [tileField, linkBytes_div_crc hf]
    omega
  have hend : linkBytes f q / 2 ^ (8 * (n + 6)) = 0 := by
    have hsplit : 8 * (n + 6) = 8 * (n + 4) + 16 := by ring
    rw [hsplit, pow_add, ← Nat.div_div_eq_div_mul, linkBytes_div_crc hf]
    omega
  refine ⟨linkBytes f q, by rw [putFrame_eq]; rfl, hlseq, field 0 rfl rfl, ?_, ?_, ?_, ?_, ?_, fun i v h => ?_, field 4 rfl rfl, ?_, ?_,
    field 6 rfl rfl, field 7 rfl rfl, field 8 rfl rfl, (field 9 rfl rfl).trans (Nat.mod_eq_of_lt hseq),
    (field 10 rfl rfl).trans (Nat.mod_eq_of_lt hivc), (field 11 rfl rfl).trans (Nat.mod_eq_of_lt hmsg),
    (field 12 rfl rfl).trans (Nat.mod_eq_of_lt hoffset), tileField_linkBytes_data hf q, hcrc, hnum, hend⟩
  · rw [hone]; omega
  · rw [hone]; omega
  · rw [hone]; omega
  · rw [htwo]; omega
  · rw [htwo]; omega
  · rw [hroute, frameRoute_bit f h]
  · rw [hsix]; omega
  · rw [hsix]; omega

end Sys2Proof.Machine
end

section
/-! SUPPORT. Ring frames and links (R342, R344, R345, R348, R350, R352 to R355, R364, R367, R380): a frame that arrives, a frame in transit,
errors of a link, cables, the training of a port, gaps and holds that last too long. -/

namespace Sys2Proof.Machine

/-! ### Frames that arrive (R348, R350, R353) -/

/-- The bytes of an arrived frame, counted at its port. -/
def State.countFrame (s : State) (p : Nat) (f : RFrame) : State := s.bump .RING_PORT_CNT_COUNT p 7 (frameBytes f)

section
variable {p : Nat} {f : RFrame} {s : State}

theorem exec_ringFrameReceived_of_up (hp : p < 8) (hup : s.on .RING_PORT_STS_UP p = true) (hdst : f.dst = s.myId) :
    exec (.ringFrameReceived p f) s = .next (frameReceived p f s) :=
  congrArg Host.Outcome.next (if_pos (by simp [hp, hup, hdst]))

/-- A VC without ring frames is counted and no more. -/
theorem frameReceived_of_vc (hvc : f.vc = 3 ∨ 7 ≤ f.vc) : frameReceived p f s = (s.countFrame p f).bump .RING_CNT_COUNT 8 0 1 :=
  if_pos (by simpa using hvc)

section
variable (hvc : f.vc < 7) (hthree : f.vc ≠ 3)
include hvc hthree

theorem frameReceived_of_bad (htag : (s.countFrame p f).tagGood f = false) :
    frameReceived p f s = ((s.countFrame p f).bump .RING_CNT_COUNT 4 0 1).loseFrame f := by
  unfold State.countFrame at *
  simp only [frameReceived, hthree, Nat.not_le.mpr hvc, htag, decide_false, Bool.or_self, Bool.false_eq_true, if_false, Bool.not_false,
    if_true]

variable (htag : (s.countFrame p f).tagGood f = true)
include htag

/-- During a reset of its context a frame is lost (R367). -/
theorem frameReceived_of_reset (hrst : (s.countFrame p f).bit .CTL_CTX_RST_CTX f.ctx = true) :
    frameReceived p f s = (s.countFrame p f).loseFrame f := by
  unfold State.countFrame at *
  simp only [frameReceived, hthree, Nat.not_le.mpr hvc, htag, hrst, decide_false, Bool.or_self, Bool.false_eq_true, if_false,
    Bool.not_true, if_true]

theorem frameReceived_of_good (hrst : (s.countFrame p f).bit .CTL_CTX_RST_CTX f.ctx = false) :
    frameReceived p f s = (s.countFrame p f).policeFrame f (chargedLen f ((s.countFrame p f).inForce .SHP_PORT_OVH p)) := by
  unfold State.countFrame at *
  simp only [frameReceived, hthree, Nat.not_le.mpr hvc, htag, hrst, decide_false, Bool.or_self, Bool.false_eq_true, if_false,
    Bool.not_true]

end

/-- A frame that no policer meters and that comes in its turn, with nothing held before it, is delivered. -/
theorem policeFrame_in_turn (hfree : f.vc = 0 ∨ (s.ringCfg f.vc f.ctx).mode = 0) (hheld : (s.flow (flowOf f) f.boot).held = [])
    (hturn : f.seq = (s.flow (flowOf f) f.boot).next) (l : Nat) : s.policeFrame f l =
      ((s.deliver f 3).setFlow (flowOf f) { s.flow (flowOf f) f.boot with next := f.seq + 1 }).drainFlow (flowOf f) 1 := by
  have hfree' : (decide (f.vc = 0) || decide ((s.ringCfg f.vc f.ctx).mode = 0)) = true := by simpa using hfree
  simp only [State.policeFrame, hfree', hheld, List.any_nil, Bool.false_eq_true, if_true, if_false, State.acceptFrame, hturn, List.length_nil]

/-! ### Frames in transit (R350, R352) -/

theorem exec_ringFrameForward_of_up (hp : p < 8) (hup : s.on .RING_PORT_STS_UP p = true) (hdst : f.dst ≠ s.myId) :
    exec (.ringFrameForward p f) s = .next (frameForward p f s) :=
  congrArg Host.Outcome.next (if_pos (by simp [hp, hup, hdst]))

theorem frameForward_of_discard (h : f.vc = 3 ∨ 7 ≤ f.vc ∨ 63 ≤ f.hops) :
    frameForward p f s = (s.countFrame p f).bump .RING_CNT_COUNT 8 0 1 :=
  if_pos (by simpa [or_assoc] using h)

/-! ### Errors, retraining and loss of a link (R344, R345, R364) -/

theorem exec_linkFrameError_of_up (hp : p < 8) (hup : s.on .RING_PORT_STS_UP p = true) (fec sent : Bool) :
    exec (.linkFrameError p fec sent) s = .next (linkError p fec sent s) :=
  congrArg Host.Outcome.next (if_pos (by simp [hp, hup]))

theorem exec_ringLinkRetrain_of_up (hp : p < 8) (hup : s.on .RING_PORT_STS_UP p = true) (lanes fails : Nat) :
    exec (.ringLinkRetrain p lanes fails) s = .next (linkRetrain p lanes fails s) :=
  congrArg Host.Outcome.next (if_pos (by simp [hp, hup]))

theorem linkRetrain_of_lanes {lanes : Nat} (h : lanes = 8 ∨ lanes = 4) (fails : Nat) : linkRetrain p lanes fails s =
    (let v := (s.bump .RING_PORT_CNT_COUNT p 3 1).wr .RING_PORT_STS_LANE_FAIL p 0 fails
     (v.setRing { v.ring with replays := Map.del v.ring.replays p }).wr .RING_PORT_STS_WIDTH p 0 lanes) :=
  if_pos (by simpa using h)

theorem linkRetrain_of_failure {lanes : Nat} (h8 : lanes ≠ 8) (h4 : lanes ≠ 4) (fails : Nat) : linkRetrain p lanes fails s =
    (let v := (s.bump .RING_PORT_CNT_COUNT p 3 1).wr .RING_PORT_STS_LANE_FAIL p 0 fails
     (v.setRing { v.ring with replays := Map.del v.ring.replays p }).linkDown p) :=
  if_neg (by simp [h8, h4])

theorem linkDown_of_up (hup : s.on .RING_PORT_STS_UP p = true) : s.linkDown p =
    (let v := (((s.wr .RING_PORT_STS_UP p 0 0).wr .RING_PORT_STS_WIDTH p 0 0).bump .RING_PORT_CNT_COUNT p 4 1).wrBit .CTL_READY_RING 0 p false
     let mine := v.ring.locals.filter fun (q : Nat × List QFrame) => decide (q.1 / 512 = p)
     let w := v.setRing { v.ring with
       locals := v.ring.locals.filter fun (q : Nat × List QFrame) => q.1 / 512 != p, short := setBitN v.ring.short p false,
       replays := Map.del v.ring.replays p }
     mine.foldl (fun s (q : Nat × List QFrame) => q.2.foldl (fun s x => s.routeFrame x.f) s) w) :=
  if_neg (by simp [hup])

/-! ### Cables (R364) -/

theorem exec_ringCablePlug_of_port (hp : p < 8) (b : Bool) : exec (.ringCablePlug p b) s = .next (cablePlug p b s) :=
  congrArg Host.Outcome.next (if_pos hp)

/-- A change of presence is shown and counted; a pull takes the pair or the port down. -/
theorem cablePlug_of_change {b : Bool} (hstage : s.boot.stage ≠ .off) (h : s.present? p ≠ b) : cablePlug p b s =
    (let u := (s.wr .RING_PORT_STS_PRESENT p 0 (b2n b)).bump .CTL_PIN_CNT_COUNT 3 0 1
     if b then u else if u.bypass (pairOf p) = 1 then u.setBypass (pairOf p) 0 else u.linkDown p) :=
  if_neg (by simp [hstage, h])

end

/-! ### The training of a port (R342) -/

/-- The peer is in the port's row or column. -/
def State.Lined (s : State) (p peer : Nat) : Prop := if portY p then peer % 32 = s.myId % 32 else peer / 32 = s.myId / 32
/-- The peer's port is the opposite one of the pair. -/
def Opposite (p q : Nat) : Prop := q = p + 1 ∧ p % 2 = 0 ∨ q + 1 = p ∧ p % 2 = 1

/-- A trained port with its peer, no longer quiet. -/
def State.showPeer (s : State) (p peer fails : Nat) : State :=
  (({ s with fab := { s.fab with quiet := setBitN s.fab.quiet p false } } : State).wr .RING_PORT_STS_PEER p 0 peer).wr .RING_PORT_STS_LANE_FAIL p 0 fails

section
variable {p peer q lanes fails : Nat} {s : State}

theorem miscabled_iff : (!(decide (if portY p then peer % 32 = s.myId % 32 else peer / 32 = s.myId / 32) &&
    (decide (q = p + 1) && decide (p % 2 = 0) || decide (q + 1 = p) && decide (p % 2 = 1)))) = true ↔ ¬(s.Lined p peer ∧ Opposite p q) := by
  simp only [State.Lined, Opposite, Bool.not_eq_true', Bool.and_eq_false_iff, decide_eq_false_iff_not, not_and_or, Bool.or_eq_false_iff, not_or]

theorem portTrained_of_miscabled (h : ¬(s.Lined p peer ∧ Opposite p q)) :
    portTrained p peer q lanes fails s = (s.showPeer p peer fails).wr .RING_PORT_STS_MISCABLED p 0 1 :=
  if_pos (miscabled_iff.mpr h)

section
variable (hlined : s.Lined p peer) (hopp : Opposite p q)
include hlined hopp

theorem portTrained_of_failure (h8 : lanes ≠ 8) (h4 : lanes ≠ 4) :
    portTrained p peer q lanes fails s = (s.showPeer p peer fails).linkDown p :=
  (if_neg (mt miscabled_iff.mp (not_not_intro ⟨hlined, hopp⟩))).trans (if_pos (by simp [h8, h4]))

/-- A port that has trained with 8 or 4 lanes is up: its wake is over, its neighbour is greeted and frames without a route try again. -/
theorem portTrained_of_lanes (h : lanes = 8 ∨ lanes = 4) : portTrained p peer q lanes fails s =
    (let v := (((s.showPeer p peer fails).wr .RING_PORT_STS_MISCABLED p 0 0).wr .RING_PORT_STS_UP p 0 1).wr .RING_PORT_STS_WIDTH p 0 lanes
     (((v.wrBit .CTL_READY_RING 0 p true).unadmit .ring p).sendHello peer).reroute) := by
  refine (if_neg (mt miscabled_iff.mp (not_not_intro ⟨hlined, hopp⟩))).trans (if_neg ?_)
  rcases h with h | h <;> simp [h]

end

/-- A port trains only where its pair is open and its cable, its setting and its ring let it. -/
theorem exec_ringPortTrained_of_ready (hp : p < 8) (hbad : s.on .RING_STS_CFG_BAD = false) (hpair : s.bypass (pairOf p) = 2)
    (hen : s.on .RING_PORT_CTL_EN p = true) (hcable : s.present? p = true) (hy : portY p = true → s.dimY ≠ 1) (hx : portY p = false → s.dimX ≠ 1) :
    exec (.ringPortTrained p peer q lanes fails) s = .next (portTrained p peer q lanes fails s) := by
  refine congrArg Host.Outcome.next (if_pos ?_)
  cases hdim : portY p <;> simp [hp, hbad, hpair, hen, hcable, hy, hx, hdim]

end

/-! ### Gaps, holds and refusals (R353 to R355, R380) -/

section
variable {src c v : Nat} {s : State} {f : RxFlow} {h : HeldFrame} {t : List HeldFrame}
  (hf : Map.find s.ring.rx (flowKey src c v) = some f) (hheld : f.held = h :: t)
include hf hheld

/-- The frames missing before the first held one are lost, and the flow goes on. -/
theorem gapTimeout_of_due (hgap : f.next < h.f.seq) (hdue : h.at_ + 100 * s.inForce .RING_CFG_GAP_US ≤ s.now) : gapTimeout src c v s =
    (((s.bump .RING_CNT_COUNT 5 0 (h.f.seq - f.next)).setFlow (flowKey src c v) { f with next := h.f.seq }).drainFlow (flowKey src c v)
      (f.held.length + 1)) := by
  simp only [gapTimeout, hf, hheld, hgap, hdue, decide_true, Bool.and_self, if_true]

theorem gapTimeout_of_early (hdue : s.now < h.at_ + 100 * s.inForce .RING_CFG_GAP_US) : gapTimeout src c v s = s := by
  simp only [gapTimeout, hf, hheld, Nat.not_le.mpr hdue, decide_false, Bool.and_false, Bool.false_eq_true, if_false]

end

/-- Settles O40: each event by the lemma on its meaning. -/
theorem framesAndLinks : Obligations.FramesAndLinks := by
  unfold Obligations.FramesAndLinks
  refine ⟨fun p f s hp hup hdst => ?received, fun p f s hp hup hdst => ?forward, fun p s hp hup => ?link, fun p b s hp hstage hchange => ?cable,
    fun p peer q lanes fails s hp hbad hpair hen hcable hy hx => ?trained, fun dt src c v s f h t hf hheld => ?gap, fun dt s => rfl,
    fun src c v seq hint s => ?nack⟩
  case received =>
    rw [exec_ringFrameReceived_of_up hp hup hdst]
    refine ⟨fun hvc => congrArg Host.Outcome.next (frameReceived_of_vc hvc),
      fun hvc hthree htag => congrArg Host.Outcome.next (frameReceived_of_bad hvc hthree htag),
      fun hvc hthree htag hrst => congrArg Host.Outcome.next (frameReceived_of_reset hvc hthree htag hrst),
      fun hvc hthree htag hrst hfree hheld hturn => ?_⟩
    rw [frameReceived_of_good hvc hthree htag hrst]
    exact congrArg Host.Outcome.next (policeFrame_in_turn hfree hheld hturn _)
  case forward =>
    rw [exec_ringFrameForward_of_up hp hup hdst]
    refine ⟨fun h => congrArg Host.Outcome.next (frameForward_of_discard h), fun hthree hvc hhops => congrArg Host.Outcome.next (if_neg ?_)⟩
    simp [hthree, hvc, hhops]
  case link =>
    intro u
    refine ⟨exec_linkFrameError_of_up hp hup true false, exec_linkFrameError_of_up hp hup true true, fun lanes fails => ?_, ?_⟩
    · rw [exec_ringLinkRetrain_of_up hp hup]
      exact ⟨fun h => congrArg Host.Outcome.next (linkRetrain_of_lanes h fails),
        fun h8 h4 => congrArg Host.Outcome.next (linkRetrain_of_failure h8 h4 fails)⟩
    · exact congrArg Host.Outcome.next ((if_pos hp).trans (linkDown_of_up hup))
  case cable =>
    rw [exec_ringCablePlug_of_port hp, cablePlug_of_change hstage hchange]
    intro u
    refine ⟨fun hb => congrArg Host.Outcome.next (if_pos hb), fun hb hopening => congrArg Host.Outcome.next ?_,
      fun hb hopening => congrArg Host.Outcome.next ?_⟩
    · exact (if_neg (ne_true_of_eq_false hb)).trans (if_pos hopening)
    · exact (if_neg (ne_true_of_eq_false hb)).trans (if_neg hopening)
  case trained =>
    rw [exec_ringPortTrained_of_ready hp hbad hpair hen hcable hy hx]
    exact ⟨fun h => congrArg Host.Outcome.next (portTrained_of_miscabled h),
      fun hlined hopp h8 h4 => congrArg Host.Outcome.next (portTrained_of_failure hlined hopp h8 h4),
      fun hlined hopp h => congrArg Host.Outcome.next (portTrained_of_lanes hlined hopp h)⟩
  case gap =>
    exact ⟨fun hgap hdue => congrArg Host.Outcome.next (gapTimeout_of_due hf hheld hgap hdue),
      fun hdue => congrArg Host.Outcome.next (gapTimeout_of_early hf hheld hdue)⟩
  case nack =>
    refine ⟨fun hv => congrArg Host.Outcome.next (if_neg ?_), fun hv hhint => ?_⟩
    · simp [hv]
    · subst hv
      exact congrArg Host.Outcome.next (if_pos (by rw [decide_eq_true hhint]; rfl))

end Sys2Proof.Machine
end

section
/-! SUPPORT. Bypass pairs and evacuation (R362 to R365, R367): pairs that open, wait and close, EVACUATE, and the end of an evacuation's
transfers. -/

namespace Sys2Proof.Machine

/-! ### Pairs that open (R362, R364) -/

/-- A neighbour's answer, noted. -/
def State.notePaused (s : State) (k side : Nat) : State :=
  s.setFab { s.fab with paused := (s.fab.paused.filter fun n => n != 2 * k + side) ++ [2 * k + side] }

section
variable {k : Nat} {s : State}

theorem exec_bypassLoopbackTrained_of_ready (hk : k < 4) (hopen : s.mayOpen? k = true) (hctl : s.on .CTL_READY_CONTROL = true) :
    exec (.bypassLoopbackTrained k) s = .next (s.startOpen k) :=
  congrArg Host.Outcome.next (if_pos (by simp [hk, hopen, hctl]))

theorem exec_pauseAckReceived_of_pair {side : Nat} (hk : k < 4) (hside : side < 2) : exec (.pauseAckReceived k side) s = .next (pauseAck k side s) :=
  congrArg Host.Outcome.next (if_pos (by simp [hk, hside]))

/-- An OPENING pair whose neighbours have all answered is OPEN. -/
theorem pauseAck_of_opening {side : Nat} (hbyp : s.bypass k = 1) : pauseAck k side s =
    if (s.notePaused k side).allPaused k then (s.notePaused k side).setBypass k 2 else s.notePaused k side :=
  if_pos hbyp

theorem openingTimeout_of_due (hbyp : s.bypass k = 1) (hdue : (Map.find s.fab.since k).getD 0 + 10000000 ≤ s.now) :
    openingTimeout k s = s.setBypass k 0 :=
  if_pos (by simp only [hbyp, hdue, decide_true, Bool.and_self])

theorem openingTimeout_of_early (hdue : s.now < (Map.find s.fab.since k).getD 0 + 10000000) : openingTimeout k s = s :=
  if_neg (by simp only [Nat.not_le.mpr hdue, decide_false, Bool.and_false, Bool.false_eq_true, not_false_eq_true])

theorem openingTimeout_evac : (openingTimeout k s).fab.evac = s.fab.evac := by
  unfold openingTimeout
  split <;> rfl

theorem closingTimeout_of_none (hevac : s.fab.evac = none) : closingTimeout s = s := by
  simp only [closingTimeout, hevac]

theorem exec_bypassOpeningTimeout_of_noEvac {dt : Nat} (hk : k < 4) (hevac : (s.pass dt).fab.evac = none) :
    exec (.bypassOpeningTimeout dt k) s = .next (openingTimeout k (s.pass dt)) := by
  change Host.Outcome.next (closingTimeout (if k < 4 then openingTimeout k (s.pass dt) else s.pass dt)) = _
  rw [if_pos hk, closingTimeout_of_none (openingTimeout_evac.trans hevac)]

/-- A cable whose port has not trained. -/
def State.untrained (s : State) (p : Nat) : Bool := s.present? p && !s.on .RING_PORT_STS_UP p

theorem closePair_of_open (hbyp : s.bypass k ≠ 0) :
    s.closePair k = (((s.setBypass k 0).bump .RING_CNT_COUNT 13 0 1).linkDown (pairPorts k).1).linkDown (pairPorts k).2 :=
  if_neg hbyp

theorem openTrainTimeout_of_due (hbyp : s.bypass k = 2) (hbad : s.untrained (pairPorts k).1 = true ∨ s.untrained (pairPorts k).2 = true)
    (hdue : (Map.find s.fab.since k).getD 0 + 2000000 ≤ s.now) : openTrainTimeout k s = s.closePair k := by
  have hbad' : (s.untrained (pairPorts k).1 || s.untrained (pairPorts k).2) = true := by simpa using hbad
  unfold State.untrained at hbad'
  exact if_pos (by simp only [hbyp, hdue, hbad', decide_true, Bool.and_self])

theorem openTrainTimeout_of_trained (h1 : s.untrained (pairPorts k).1 = false) (h2 : s.untrained (pairPorts k).2 = false) :
    openTrainTimeout k s = s := by
  unfold State.untrained at h1 h2
  exact if_neg (by simp only [h1, h2, Bool.or_self, Bool.and_false, Bool.false_eq_true, not_false_eq_true])

theorem retryTimeout_of_due (hopen : s.mayOpen? k = true) (hctl : s.on .CTL_READY_CONTROL = true)
    (hdue : (Map.find s.fab.since k).getD 0 + 100000000 ≤ s.now) : retryTimeout k s = s.startOpen k :=
  if_pos (by simp only [hopen, hctl, hdue, decide_true, Bool.and_self])

theorem retryTimeout_of_early (hdue : s.now < (Map.find s.fab.since k).getD 0 + 100000000) : retryTimeout k s = s :=
  if_neg (by simp only [Nat.not_le.mpr hdue, decide_false, Bool.and_false, Bool.false_eq_true, not_false_eq_true])

end

/-! ### Evacuation (R365, R367) -/

section
variable {s : State}

theorem exec_evacuate_of_mayRun {k : Nat} {c : Cmd} (h : s.mayRun k 0x73 c) : exec (.evacuate k) s = .next (evacuate c (s.setPhase k .running)) :=
  congrArg Host.Outcome.next (begin_of_mayRun h evacuate rfl rfl rfl)

/-- A second EVACUATE joins the evacuation that runs. -/
theorem evacuate_of_running {c : Cmd} {e : EvacRun} (h : s.fab.evac = some e) :
    evacuate c s = s.updEvac fun e => { e with cmd := e.cmd ++ [c.id] } := by
  simp only [evacuate, h]

theorem evacuate_of_gone {c : Cmd} (h : s.fab.evac = none) (hgone : s.fab.gone = true) : evacuate c s = s.finish c.id .ok := by
  simp only [evacuate, h, hgone, if_true]

theorem evacuate_starts {c : Cmd} (h : s.fab.evac = none) (hgone : s.fab.gone = false) : evacuate c s =
    s.startEvac 1 [c.id] (decide (Desc.byte c.desc 20 = 1)) (if Desc.num c.desc 16 4 = 0 then s.rd .RING_EVAC_LIMIT_S else Desc.num c.desc 16 4) := by
  simp only [evacuate, h, hgone, Bool.false_eq_true, if_false]

/-- A committed evacuation that has not yet asked for LEFT. -/
structure State.Leaving (s : State) (e : EvacRun) : Prop where
  evac : s.fab.evac = some e
  committed : e.committed = true
  asked : e.asked = false

variable {e : EvacRun} (h : s.Leaving e)
include h

theorem transfersDone_eq : transfersDone s = if s.evacDone then s.askLeft else s := by
  obtain ⟨hevac, hcom, hask⟩ := h
  simp only [transfersDone, hevac, hcom, hask, Bool.not_false, Bool.and_self, Bool.true_and]

theorem evacLimit_of_early (hdue : s.now < e.due) : evacLimit s = s := by
  simp only [evacLimit, h.evac, Nat.not_le.mpr hdue, decide_false, Bool.and_false, Bool.false_eq_true, if_false]

/-- At the limit every extent that is still lent is revoked and zeroed, and LEFT is asked for. -/
theorem evacLimit_of_due (hdue : e.due ≤ s.now) : evacLimit s =
    (let late := s.pool.extents.filter fun x => !x.revoked
     let v := late.foldl State.zeroExtent (s.setPool { s.pool with extents := s.pool.extents.map fun x => { x with revoked := true } })
     ((v.bump .POOL_CNT_COUNT 8 0 late.length).refreshLend).askLeft) := by
  obtain ⟨hevac, hcom, hask⟩ := h
  simp only [evacLimit, hevac, hcom, hask, hdue, decide_true, Bool.not_false, Bool.and_self, if_true]

end

/-- Settles O42: each event of a pair and of an evacuation by the lemma on its meaning. -/
theorem bypassesAndEvacuation : Obligations.BypassesAndEvacuation := by
  unfold Obligations.BypassesAndEvacuation
  refine ⟨fun k s hk hopen hctl => exec_bypassLoopbackTrained_of_ready hk hopen hctl, fun p s hp => congrArg Host.Outcome.next (if_pos hp),
    fun k side s hk hside hbyp => ?acknowledged, fun dt k s hk hevac => ?opening, fun dt k s hk hbyp => ?training, fun dt k s hk hopen hctl => ?retry,
    fun v s hon => congrArg Host.Outcome.next (hostWrite_of_on hon _), fun dt s => rfl, fun k c s h => ?evacuate, fun s e hevac hcom hask => ?done,
    fun dt s e hevac hcom hask => ?limit⟩
  case acknowledged =>
    rw [exec_pauseAckReceived_of_pair hk hside, pauseAck_of_opening hbyp]
    exact ⟨fun hall => congrArg Host.Outcome.next (if_pos hall), fun hall => congrArg Host.Outcome.next (if_neg (ne_true_of_eq_false hall))⟩
  case opening =>
    rw [exec_bypassOpeningTimeout_of_noEvac hk hevac]
    exact ⟨fun hbyp hdue => congrArg Host.Outcome.next (openingTimeout_of_due hbyp hdue),
      fun hdue => congrArg Host.Outcome.next (openingTimeout_of_early hdue)⟩
  case training =>
    have hexec : exec (.bypassOpenTrainTimeout dt k) s = .next (openTrainTimeout k (s.pass dt)) := congrArg Host.Outcome.next (if_pos hk)
    rw [hexec]
    refine ⟨fun hbad hdue => ?_, fun h1 h2 => congrArg Host.Outcome.next (openTrainTimeout_of_trained h1 h2)⟩
    rw [openTrainTimeout_of_due hbyp hbad hdue, closePair_of_open (by rw [hbyp]; decide)]
  case retry =>
    have hexec : exec (.bypassRetryTimeout dt k) s = .next (retryTimeout k (s.pass dt)) := congrArg Host.Outcome.next (if_pos hk)
    rw [hexec]
    exact ⟨fun hdue => congrArg Host.Outcome.next (retryTimeout_of_due hopen hctl hdue),
      fun hdue => congrArg Host.Outcome.next (retryTimeout_of_early hdue)⟩
  case evacuate =>
    obtain rfl := cmd_id h.1
    rw [exec_evacuate_of_mayRun h]
    exact ⟨fun e hevac => congrArg Host.Outcome.next (evacuate_of_running (s := s.setPhase c.id .running) hevac),
      fun hevac hgone => congrArg Host.Outcome.next (evacuate_of_gone (s := s.setPhase c.id .running) hevac hgone),
      fun hevac hgone => congrArg Host.Outcome.next (evacuate_starts (s := s.setPhase c.id .running) hevac hgone)⟩
  case done =>
    have hexec : exec .evacuationTransfersDone s = .next (transfersDone s) := rfl
    rw [hexec, transfersDone_eq ⟨hevac, hcom, hask⟩]
    exact ⟨fun hdone => congrArg Host.Outcome.next (if_pos hdone), fun hdone => congrArg Host.Outcome.next (if_neg (ne_true_of_eq_false hdone))⟩
  case limit =>
    exact ⟨fun hdue => congrArg Host.Outcome.next (evacLimit_of_early ⟨hevac, hcom, hask⟩ hdue),
      fun hdue => congrArg Host.Outcome.next (evacLimit_of_due ⟨hevac, hcom, hask⟩ hdue)⟩

end Sys2Proof.Machine
end

section
/-! SUPPORT. The fabric map (R356 to R360): HELLO and the first map, joining, changes and their commits, beats, losses, candidacy, isolation and
expulsion. -/

namespace Sys2Proof.Machine

/-! ### HELLO, the first map, JOIN (R357) -/

section
variable {s : State} {ids : List (Nat × Nat × Nat)}

/-- What a Flewick has heard after a HELLO. -/
def State.hear (s : State) (ids : List (Nat × Nat × Nat)) : Map Nat :=
  ids.foldl (fun (m : Map Nat) (e : Nat × Nat × Nat) => if e.1 = s.myId then m else Map.put m e.1 (e.2.1 % 64 + 64 * e.2.2)) s.fab.heard

/-- The state that has heard a HELLO: what is new is passed on. -/
def State.afterHello (s : State) (ids : List (Nat × Nat × Nat)) : State :=
  let u := s.setFab { s.fab with heard := s.hear ids }
  if s.hear ids = s.fab.heard then u else u.helloAll

theorem helloReceived_of_outside (hstage : s.boot.stage = .configured) (hbad : s.on .RING_STS_CFG_BAD = false) (hgone : s.fab.gone = false)
    (hout : s.isMember s.myId = false) (member : Bool) (leader : Nat) : helloReceived member leader ids s =
      if member then (s.afterHello ids).sendLink leader .join 0 (s.afterHello ids).myId (s.afterHello ids).bootgen [(s.afterHello ids).linkBits]
      else s.afterHello ids :=
  (if_neg (by simp [hstage, hbad, hgone])).trans (if_neg (ne_true_of_eq_false hout))

/-- The first map of every ID heard, this Flewick's own before the others. -/
def State.firstMap (s : State) : List MapEdit :=
  MapEdit.joined s.myId s.bootgen s.linkBits :: s.fab.heard.map fun (e : Nat × Nat) => MapEdit.joined e.1 (e.2 % 64) (e.2 / 64)

theorem mapForm_of_lowest (hfab : s.inFabric = true) (hempty : s.fab.members = []) (hchange : s.fab.change = none) (hkey : s.noKey = false)
    (hdue : s.fab.controlAt + 100000000 * s.rd .RING_MAP_CFG_FORM_S ≤ s.now)
    (hhalf : s.rd .RING_MAP_CFG_EXPECT < 2 * (s.fab.heard.length + 1)) (hlowest : ∀ e ∈ s.fab.heard, s.myId < e.1) :
    mapForm s = (s.startChange s.firstMap true false).checkChange 1 := by
  have hall : s.fab.heard.all (fun (e : Nat × Nat) => decide (s.myId < e.1)) = true :=
    List.all_eq_true.mpr fun e he => decide_eq_true (hlowest e he)
  exact if_pos (by rw [hfab, hempty, hchange, hkey, decide_eq_true hdue, decide_eq_true hhalf, hall]; rfl)

theorem mapForm_of_early (hdue : s.now < s.fab.controlAt + 100000000 * s.rd .RING_MAP_CFG_FORM_S) : mapForm s = s :=
  if_neg (by simp only [Nat.not_le.mpr hdue, decide_false, Bool.and_false, Bool.false_and, Bool.false_eq_true, not_false_eq_true])

end

/-- A leader hears another Flewick of the fabric. -/
theorem leader_hears {s : State} {src : Nat} (hlead : s.leads = true) (hother : src ≠ s.myId) (hsrc : src < 1024) :
    (!s.leads || decide (src = s.myId) || decide (src ≥ 1024)) = false := by
  simp [hlead, hother, hsrc]

section
variable {s : State} {src boot links : Nat} (hlead : s.leads = true) (hother : src ≠ s.myId) (hsrc : src < 1024)
include hlead hother hsrc

theorem joinReceived_of_outcast (hcast : s.outcast src boot = true) : joinReceived src boot links s = s.expel src :=
  (if_neg (ne_true_of_eq_false (leader_hears hlead hother hsrc))).trans (if_pos hcast)

theorem joinReceived_of_stranger (hcast : s.outcast src boot = false) (hnew : s.isMember src = false) :
    joinReceived src boot links s = s.askChange (.joined src (boot % 64) links) :=
  ((if_neg (ne_true_of_eq_false (leader_hears hlead hother hsrc))).trans (if_neg (ne_true_of_eq_false hcast))).trans
    (if_neg (ne_true_of_eq_false hnew))

theorem joinReceived_of_member (hcast : s.outcast src boot = false) (hmem : s.isMember src = true) : joinReceived src boot links s =
    if s.rd .RING_MAP_BOOTGEN src = boot % 64 then s.sendWhole src
    else (s.askChange (.lost src)).askChange (.joined src (boot % 64) links) :=
  ((if_neg (ne_true_of_eq_false (leader_hears hlead hother hsrc))).trans (if_neg (ne_true_of_eq_false hcast))).trans (if_pos hmem)

theorem exec_mapRequestReceived_of_leader : exec (.mapRequestReceived src) s = .next (s.sendWhole src) :=
  congrArg Host.Outcome.next (if_pos (by simp [hlead, hother, hsrc]))

/-! ### HEARTBEAT (R356) -/

theorem heartbeat_of_outcast (hcast : s.outcast src boot = true) (want : Nat) : heartbeat src boot links want s = s.expel src :=
  (if_neg (ne_true_of_eq_false (leader_hears hlead hother hsrc))).trans (if_pos hcast)

/-- The state that a member's HEARTBEAT leaves. -/
def State.afterBeat (s : State) (src links : Nat) : State :=
  (s.setFab { s.fab with beats := Map.put s.fab.beats src s.now }).wr .RING_MAP_LINKS src 0 links

theorem heartbeat_of_member (hcast : s.outcast src boot = false) (hmem : s.isMember src = true) (hboot : s.rd .RING_MAP_BOOTGEN src = boot % 64)
    (want : Nat) : heartbeat src boot links want s =
      if want = 1 && (s.afterBeat src links).rd .RING_MAP_STATE src = 1 then (s.afterBeat src links).askChange (.leaving src)
      else if want = 2 && (s.afterBeat src links).rd .RING_MAP_STATE src = 2 then (s.afterBeat src links).askChange (.left src)
      else s.afterBeat src links :=
  ((if_neg (ne_true_of_eq_false (leader_hears hlead hother hsrc))).trans (if_neg (ne_true_of_eq_false hcast))).trans
    (if_neg (by simp [hmem, hboot]))

end

/-! ### Changes and commits (R356, R357) -/

theorem changeAck_of_known {s : State} {src : Nat} {c : Change} (hc : s.fab.change = some c) (hack : c.acks.contains src = true) :
    changeAck src s = s := by
  simp only [changeAck, hc, hack, if_true]

theorem changeAck_of_new {s : State} {src : Nat} {c : Change} (hc : s.fab.change = some c) (hack : c.acks.contains src = false) :
    changeAck src s = (s.setFab { s.fab with change := some { c with acks := c.acks ++ [src] } }).checkChange (s.fab.todo.length + 1) := by
  simp only [changeAck, hc, hack, Bool.false_eq_true, if_false]

section
variable {s : State} {src epoch : Nat} {m : MapMsg} (hfab : s.inFabric = true)

/-- A committed change ends the proposals that this Flewick knows. -/
def State.freshFrom (s : State) (src : Nat) : State :=
  s.setFab { s.fab with change := none, todo := [], acked := none, isolated := s.fab.isolated && s.fab.acked != some src }

theorem mapCommit_of_stale (hold : epoch ≤ s.rd .RING_MAP_EPOCH_EPOCH) : mapCommit src epoch m s = s :=
  if_pos (by simp [hold])

include hfab

theorem mapCommit_guard (hnew : s.rd .RING_MAP_EPOCH_EPOCH < epoch) :
    ¬((!s.inFabric || decide (epoch ≤ s.rd .RING_MAP_EPOCH_EPOCH)) = true) := by
  simp [hfab, hnew]

theorem mapCommit_of_next {l : List MapEdit} (hnext : epoch = s.rd .RING_MAP_EPOCH_EPOCH + 1) (hmem : s.isMember s.myId = true) :
    mapCommit src epoch (.change l) s = (s.freshFrom src).applyEdits epoch l :=
  (if_neg (mapCommit_guard hfab (by omega))).trans (if_pos (by simp [hnext, hmem]))

theorem mapCommit_of_gap {l : List MapEdit} (hgap : s.rd .RING_MAP_EPOCH_EPOCH + 1 < epoch) :
    mapCommit src epoch (.change l) s = s.sendMap src .mapRequest (s.rd .RING_MAP_EPOCH_EPOCH) s.myId 0 [] := by
  refine (if_neg (mapCommit_guard hfab (by omega))).trans (if_neg ?_)
  simp [hgap.ne']

theorem mapCommit_of_whole {es : List MapEntry} {inh : List (Nat × Nat × Nat)} {leader : Nat} (hnew : s.rd .RING_MAP_EPOCH_EPOCH < epoch) :
    mapCommit src epoch (.whole es inh leader) s =
      (let u := (s.freshFrom src).applyEdits epoch (s.wholeEdits es leader)
       let v := if u.fab.gone then u else u.takeWhole es inh
       if s.isMember s.myId then v else v.helloAll) :=
  if_neg (mapCommit_guard hfab hnew)

end

/-! ### Beats (R356) -/

/-- The beats of a leader to every other member. -/
def State.beatAll (s : State) : State :=
  (s.fab.members.filter fun n => n != s.myId).foldl (fun t (n : Nat) =>
    t.send n 0 .mapBeat 0 (t.rd .RING_MAP_EPOCH_EPOCH) t.myId 0 (s.fab.members.flatMap fun (n : Nat) => [n, s.rd .RING_MAP_LINKS n])) s

/-- This Flewick's own port bits, written into the map. -/
def State.ownLinks (s : State) : State := s.wr .RING_MAP_LINKS s.myId 0 s.linkBits

/-- What goes out in a period: the leader's beats, unless it is isolated, or this Flewick's HEARTBEAT. -/
def State.beatOut (s : State) : State :=
  let v := if s.leads && !s.fab.isolated then s.beatAll else s
  if v.leads then v else v.sendBeat

theorem beatOut_of_follower {u : State} (hlead : u.leads = false) : u.beatOut = u.sendBeat := by
  simp [State.beatOut, hlead]

theorem beatOut_of_isolated {u : State} (hlead : u.leads = true) (hiso : u.fab.isolated = true) : u.beatOut = u := by
  simp [State.beatOut, hlead, hiso]

theorem beatOut_of_leader {u : State} (hlead : u.leads = true) (hiso : u.fab.isolated = false) (hlead' : u.beatAll.leads = true) :
    u.beatOut = u.beatAll := by
  simp [State.beatOut, hlead, hiso, hlead']

theorem sendBeat_fab (u : State) : u.sendBeat.fab = u.fab :=
  (keeps_sendBeat (List.Subset.refl _) (.refl _ u)).fab (by decide)

section
variable {s : State} (hmem : s.isMember s.myId = true) (hgone : s.fab.gone = false)
include hmem hgone

/-- A period in which no change waits for answers. -/
theorem beatPeriod_of_steady (hchange : s.ownLinks.beatOut.fab.change = none) : beatPeriod s = s.ownLinks.beatOut := by
  refine (if_neg (by simp [hmem, hgone])).trans ?_
  change (match s.ownLinks.beatOut.fab.change with
    | some c => (s.ownLinks.beatOut.sendChange c).checkChange (s.ownLinks.beatOut.fab.todo.length + 1)
    | none => s.ownLinks.beatOut) = s.ownLinks.beatOut
  rw [hchange]

/-- The port bits that a beat of the leader gives for the members. -/
def State.takeLinks (s : State) (links : List (Nat × Nat)) : State :=
  links.foldl (fun s (e : Nat × Nat) => if s.isMember e.1 then s.wr .RING_MAP_LINKS e.1 0 e.2 else s) s

theorem mapBeat_of_leader {src epoch : Nat} {links : List (Nat × Nat)} (hother : src ≠ s.myId) (hsrc : src = s.leader) :
    mapBeat src epoch links s =
      (let u := (s.setFab { s.fab with beat := s.now, isolated := false }).showMember
       if u.rd .RING_MAP_EPOCH_EPOCH < epoch then u.sendMap src .mapRequest (u.rd .RING_MAP_EPOCH_EPOCH) u.myId 0 []
       else if src = u.leader then (u.takeLinks links).reroute else u) := by
  refine (if_neg (by simp [hmem, hgone, hother])).trans ?_
  rw [if_pos hsrc]
  rfl

end

/-! ### Losses, candidacy and isolation (R357, R360) -/

theorem memberLoss_of_due {s : State} {m : Nat} (hlead : s.leads = true) (hiso : s.fab.isolated = false) (hother : m ≠ s.myId)
    (hmem : s.isMember m = true) (hdue : (Map.find s.fab.beats m).getD 0 + 100000 * s.rd .RING_MAP_CFG_LOSS_MS ≤ s.now) :
    memberLoss m s = s.askChange (.lost m) :=
  if_pos (by simp only [hlead, hiso, bne_iff_ne.mpr hother, hmem, hdue, Bool.not_false, Bool.and_self, decide_true])

theorem memberLoss_of_early {s : State} {m : Nat} (hdue : s.now < (Map.find s.fab.beats m).getD 0 + 100000 * s.rd .RING_MAP_CFG_LOSS_MS) :
    memberLoss m s = s :=
  if_neg (by simp only [Nat.not_le.mpr hdue, decide_false, Bool.and_false, Bool.false_eq_true, not_false_eq_true])

/-- The time at which this Flewick stands as a candidate: after one LOSS_MS more than there are joined members with a lower ID. -/
def State.standsAt (s : State) : Nat :=
  s.fab.beat + 100000 * (((s.joinedIds.filter fun n => decide (n < s.myId)).length + 1) * s.rd .RING_MAP_CFG_LOSS_MS)

theorem candidacy_of_due {s : State} (hjoined : s.joined s.myId = true) (hgone : s.fab.gone = false) (hlead : s.leads = false)
    (hchange : s.fab.change = none) (hdue : s.standsAt ≤ s.now) :
    candidacy s = (s.startChange [.leader s.myId] false true).checkChange 1 := by
  unfold State.standsAt at hdue
  refine if_pos ?_
  simp only [hjoined, hgone, hlead, hchange, hdue, Bool.not_false, Bool.and_self, decide_true]

theorem candidacy_of_early {s : State} (hdue : s.now < s.standsAt) : candidacy s = s := by
  unfold State.standsAt at hdue
  exact if_neg (by simp only [Nat.not_le.mpr hdue, decide_false, Bool.and_false, Bool.false_eq_true, not_false_eq_true])

section
variable {s : State} {src : Nat} (hfab : s.inFabric = true) (hother : src ≠ s.myId) (hself : s.isMember s.myId = true)
include hfab hother hself

theorem leaderProposal_of_candidate (hmem : s.isMember src = true) (hchange : s.fab.change = none) : leaderProposal src true s =
    (s.setFab { s.fab with acked := some src }).send src 0 .leaderAck 0
      ((s.setFab { s.fab with acked := some src }).rd .RING_MAP_EPOCH_EPOCH + 1) (s.setFab { s.fab with acked := some src }).myId 0 [] := by
  have hguard : ¬((!s.inFabric || decide (src = s.myId)) = true) := by simp [hfab, hother]
  have hboth : ¬((!s.isMember s.myId || !s.isMember src) = true) := by simp [hself, hmem]
  simp only [leaderProposal, hguard, hboth, hchange, if_true]
  rfl

theorem leaderProposal_of_change : leaderProposal src false s =
    if src = s.leader then
      (s.setFab { s.fab with acked := some src }).sendMap src .mapChangeAck
        ((s.setFab { s.fab with acked := some src }).rd .RING_MAP_EPOCH_EPOCH + 1) (s.setFab { s.fab with acked := some src }).myId 0 []
    else s := by
  have hguard : ¬((!s.inFabric || decide (src = s.myId)) = true) := by simp [hfab, hother]
  simp only [leaderProposal, hguard, hself, Bool.false_eq_true, if_true, if_false]
  rfl

end

/-- The joined members that a leader has heard within `iso`, itself among them. -/
def State.heardWithin (s : State) (iso : Nat) : Nat :=
  (s.joinedIds.filter fun n => decide (n = s.myId) || decide (s.now < (Map.find s.fab.beats n).getD 0 + iso)).length

theorem isolateTimeout_of_member {s : State} (hmem : s.isMember s.myId = true) (hgone : s.fab.gone = false) (hiso : s.fab.isolated = false) :
    isolateTimeout s =
      if (if s.leads then decide (2 * s.heardWithin (100000 * s.rd .RING_MAP_CFG_ISOLATE_MS) ≤ s.joinedIds.length)
        else decide (s.fab.beat + 100000 * s.rd .RING_MAP_CFG_ISOLATE_MS ≤ s.now)) then s.isolate else s :=
  if_neg (by simp [hmem, hgone, hiso])

theorem expelled_of_noEvac {s : State} (hstage : s.boot.stage = .configured) (hgone : s.fab.gone = false) (hevac : s.fab.evac = none) :
    expelled s =
      (let u := s.dropAll.closeAll.forgetMap
       let v := ((u.setFab { u.fab with evac := none }).wr .RING_STS_MEMBER 0 0 5).wr .RING_LED_FAULT 0 0 3
       (v.mgmtEvent 0x13 (packBytes [(0, s.rd .RING_MAP_EPOCH_EPOCH), (8, s.leader)])).winch s) := by
  have hguard : ¬((s.boot.stage != .configured || s.fab.gone) = true) := by simp [hstage, hgone]
  refine (if_neg hguard).trans ?_
  rw [hevac]

/-- Settles O43: each event by the lemma on its meaning. -/
theorem fabricMap : Obligations.FabricMap := by
  unfold Obligations.FabricMap
  refine ⟨fun member leader ids s hstage hbad hgone hout => ?hello, fun dt s hfab hempty hchange hkey => ?form,
    fun src boot links s hlead hother hsrc => ?join, fun src s c hc => ?ack, fun src epoch m s hfab => ?commit,
    fun dt s hmem hgone => ?period, fun src epoch links s hmem hgone hother hsrc => ?beat, fun src boot links want s hlead hother hsrc => ?heartbeat,
    fun dt m s hlead hiso hother hmem => ?loss, fun dt s hjoined hgone hlead hchange => ?candidacy, fun src s hfab hother hself => ?proposal,
    fun dt s hmem hgone hiso => ?isolate, fun s hstage hgone hevac => congrArg Host.Outcome.next (expelled_of_noEvac hstage hgone hevac)⟩
  case hello =>
    have hhear := helloReceived_of_outside (ids := ids) hstage hbad hgone hout member leader
    exact ⟨fun h => congrArg Host.Outcome.next (hhear.trans (if_pos h)),
      fun h => congrArg Host.Outcome.next (hhear.trans (if_neg (ne_true_of_eq_false h)))⟩
  case form =>
    exact ⟨fun hdue hhalf hlowest => congrArg Host.Outcome.next (mapForm_of_lowest hfab hempty hchange hkey hdue hhalf hlowest),
      fun hdue => congrArg Host.Outcome.next (mapForm_of_early hdue)⟩
  case join =>
    refine ⟨fun hcast => congrArg Host.Outcome.next (joinReceived_of_outcast hlead hother hsrc hcast),
      fun hcast hnew => congrArg Host.Outcome.next (joinReceived_of_stranger hlead hother hsrc hcast hnew), fun hcast hmem hboot => ?_,
      fun hcast hmem hboot => ?_, exec_mapRequestReceived_of_leader hlead hother hsrc⟩
    · exact congrArg Host.Outcome.next ((joinReceived_of_member hlead hother hsrc hcast hmem).trans (if_pos hboot))
    · exact congrArg Host.Outcome.next ((joinReceived_of_member hlead hother hsrc hcast hmem).trans (if_neg hboot))
  case ack =>
    exact ⟨fun hack => congrArg Host.Outcome.next (changeAck_of_known hc hack), fun hack => congrArg Host.Outcome.next (changeAck_of_new hc hack)⟩
  case commit =>
    refine ⟨fun hold => congrArg Host.Outcome.next (mapCommit_of_stale hold), fun l hl hnext hmem => ?_, fun l hl hgap => ?_,
      fun es inh leader hl hnew => ?_⟩ <;> subst hl
    · exact congrArg Host.Outcome.next (mapCommit_of_next hfab hnext hmem)
    · exact congrArg Host.Outcome.next (mapCommit_of_gap hfab hgap)
    · exact congrArg Host.Outcome.next (mapCommit_of_whole hfab hnew)
  case period =>
    intro u hchange
    have hperiod {v : State} (hout : u.beatOut = v) (hv : v.fab.change = none) : exec (.mapBeatPeriod dt) s = .next v := by
      subst hout
      exact congrArg Host.Outcome.next (beatPeriod_of_steady hmem hgone hv)
    refine ⟨fun hlead => hperiod (beatOut_of_follower hlead) ((congrArg _ (sendBeat_fab u)).trans hchange),
      fun hlead hiso => hperiod (beatOut_of_isolated hlead hiso) hchange, fun hlead hiso => ?_⟩
    intro links v hlead' hchange'
    exact hperiod (beatOut_of_leader hlead hiso hlead') hchange'
  case beat =>
    intro u
    have hbeat := mapBeat_of_leader (epoch := epoch) (links := links) hmem hgone hother hsrc
    exact ⟨fun hnew => congrArg Host.Outcome.next (hbeat.trans (if_pos hnew)),
      fun hold hlead => congrArg Host.Outcome.next (hbeat.trans ((if_neg (Nat.not_lt.mpr hold)).trans (if_pos hlead)))⟩
  case heartbeat =>
    refine ⟨fun hcast => congrArg Host.Outcome.next (heartbeat_of_outcast hlead hother hsrc hcast want), fun hcast hmem hboot => ?_⟩
    have hbeat := heartbeat_of_member (links := links) hlead hother hsrc hcast hmem hboot want
    refine ⟨fun hwant => ?_, fun hwant hst => ?_, fun hwant hst => ?_⟩ <;> subst hwant <;> refine congrArg Host.Outcome.next (hbeat.trans ?_)
    · rfl
    · exact if_pos (decide_eq_true hst)
    · exact (if_neg (by simp)).trans (if_pos (decide_eq_true hst))
  case loss =>
    exact ⟨fun hdue => congrArg Host.Outcome.next (memberLoss_of_due hlead hiso hother hmem hdue),
      fun hdue => congrArg Host.Outcome.next (memberLoss_of_early hdue)⟩
  case candidacy =>
    exact ⟨fun hdue => congrArg Host.Outcome.next (candidacy_of_due hjoined hgone hlead hchange hdue),
      fun hdue => congrArg Host.Outcome.next (candidacy_of_early hdue)⟩
  case proposal =>
    have hprop := leaderProposal_of_change hfab hother hself
    exact ⟨fun hmem hchange => congrArg Host.Outcome.next (leaderProposal_of_candidate hfab hother hself hmem hchange),
      fun hsrc => congrArg Host.Outcome.next (hprop.trans (if_pos hsrc)),
      fun hsrc => congrArg Host.Outcome.next (hprop.trans (if_neg hsrc))⟩
  case isolate =>
    have hiso' := isolateTimeout_of_member hmem hgone hiso
    refine ⟨fun hlead hdue => ?_, fun hlead hdue => ?_, fun hlead hfew => ?_⟩ <;> refine congrArg Host.Outcome.next (hiso'.trans ?_)
    · exact if_pos ((if_neg (ne_true_of_eq_false hlead)).trans (decide_eq_true hdue))
    · exact if_neg (ne_true_of_eq_false ((if_neg (ne_true_of_eq_false hlead)).trans (decide_eq_false (Nat.not_le.mpr hdue))))
    · exact if_pos ((if_pos hlead).trans (decide_eq_true hfew))

end Sys2Proof.Machine
end

section
/-! SUPPORT. Shaping (R369, R371 to R374, R380 to R385): refill instants, frame starts, deferred frames, samples and the shaper's commands. -/

namespace Sys2Proof.Machine

/-! ### Refill instants (R369, R371) -/

theorem exec_refillInstant_of_refill {dt : Nat} {s : State} (h : (s.pass dt).atRefill = true) :
    exec (.refillInstant dt) s = .next (refill (s.pass dt)) :=
  congrArg Host.Outcome.next (if_pos h)

theorem exec_refillInstant_of_other {dt : Nat} {s : State} (h : (s.pass dt).atRefill = false) : exec (.refillInstant dt) s = .next s :=
  congrArg Host.Outcome.next (if_neg (ne_true_of_eq_false h))

/-! ### Frame starts (R373, R374) -/

/-- The first frame of a queue lacks credit at port `p`. -/
def State.headLacks (s : State) (p : Nat) (credit : List Nat) (l : List QFrame) : Bool :=
  match l with
  | h :: _ => !s.hasCredit p credit h
  | [] => false

theorem headLacks_eq (s : State) (p : Nat) (credit : List Nat) (l : List QFrame) :
    s.headLacks p credit l = l.head?.elim false fun h => !s.hasCredit p credit h := by
  cases l <;> rfl

/-- A frame that waits at port `p` lacks credit. -/
def State.lacksCredit (s : State) (p : Nat) (credit : List Nat) : Bool :=
  (s.ring.locals.any fun (q : Nat × List QFrame) => decide (q.1 / 512 = p) && s.headLacks p credit q.2) ||
    s.ring.transit.any fun (q : Nat × List QFrame) => decide (q.1 / 8 = p) && s.headLacks p credit q.2

/-- The state in which port `p` shows whether it is short of credit. -/
def State.noteShort (s : State) (p : Nat) (credit : List Nat) : State :=
  s.setRing { s.ring with short := setBitN s.ring.short p (s.lacksCredit p credit) }

/-- The frames that may go out at port `p`: one of each VC that has one. -/
def State.picksAt (s : State) (p : Nat) (credit : List Nat) : List (Nat × Bool × Nat × QFrame) :=
  (List.range 8).filterMap fun v => (s.pickVc p v credit).map fun c => (v, c)

/-- A VC of port `p` without a frame keeps no deficit. -/
def State.keepDeficit (s : State) (p : Nat) (picks : List (Nat × Bool × Nat × QFrame)) : State :=
  s.setRing { s.ring with deficit := s.ring.deficit.filter fun (d : Nat × Nat) =>
    !(decide (d.1 / 8 = p)) || picks.any fun (x : Nat × Bool × Nat × QFrame) => decide (x.1 = d.1 % 8) }

/-- The deficit round of a class over `l`. -/
def State.roundOf (s : State) (p cls : Nat) (l : List (Nat × Bool × Nat × QFrame)) : State × Option Nat :=
  s.drr p cls (l.map fun (x : Nat × Bool × Nat × QFrame) => (x.1, x.2.2.2.l)) 64 ((Map.find s.ring.turn (p * 2 + cls)).getD 7)

/-- What a frame that goes out costs its port: privileged capacity, or a count where ordinary frames overtake privileged ones. -/
def State.chargeStart (s : State) (p len : Nat) (usePriv noPriv noOrd : Bool) : State :=
  if usePriv then s.setPcap p (if noOrd then max (s.pcap p - (len : Int) * 1000) 0 else s.pcap p - (len : Int) * 1000)
  else if !noPriv then s.bump .SHP_CNT_COUNT 1 0 1 else s

/-- The frame start among the candidates `l`. -/
def State.sendOneOf (s : State) (p : Nat) (l : List (Nat × Bool × Nat × QFrame)) (usePriv noPriv noOrd : Bool) : State :=
  if l.isEmpty then s
  else match (s.roundOf p (b2n (!usePriv)) l).2 with
    | none => (s.roundOf p (b2n (!usePriv)) l).1
    | some v =>
      match l.find? fun (x : Nat × Bool × Nat × QFrame) => decide (x.1 = v) with
      | none => (s.roundOf p (b2n (!usePriv)) l).1
      | some x => (((s.roundOf p (b2n (!usePriv)) l).1.chargeStart p x.2.2.2.l usePriv noPriv noOrd).depart p v x.2).unblock

/-- The frame start among `picks`, privileged or ordinary. -/
def State.sendPick (s : State) (p : Nat) (picks : List (Nat × Bool × Nat × QFrame)) : State :=
  let pr := picks.filter fun (x : Nat × Bool × Nat × QFrame) => s.isPriv x.1
  let ord := picks.filter fun (x : Nat × Bool × Nat × QFrame) => !s.isPriv x.1
  let usePriv := !pr.isEmpty && (decide (0 < s.pcap p) || ord.isEmpty)
  s.sendOneOf p (if usePriv then pr else ord) usePriv pr.isEmpty ord.isEmpty

theorem frameStart_eq (p : Nat) (credit : List Nat) (s : State) : frameStart p credit s =
    ((s.noteShort p credit).keepDeficit p ((s.noteShort p credit).picksAt p credit)).sendPick p ((s.noteShort p credit).picksAt p credit) :=
  rfl

section
variable {s : State} {p : Nat} {picks : List (Nat × Bool × Nat × QFrame)}

theorem sendOneOf_of_round {l : List (Nat × Bool × Nat × QFrame)} {usePriv noPriv noOrd : Bool} {z : State} {v : Nat}
    {x : Nat × Bool × Nat × QFrame} (hl : l ≠ []) (hround : s.roundOf p (b2n (!usePriv)) l = (z, some v))
    (hx : l.find? (fun (x : Nat × Bool × Nat × QFrame) => decide (x.1 = v)) = some x) : s.sendOneOf p l usePriv noPriv noOrd =
      ((z.chargeStart p x.2.2.2.l usePriv noPriv noOrd).depart p v x.2).unblock := by
  simp only [State.sendOneOf, List.isEmpty_eq_false_iff.mpr hl, hround, hx, Bool.false_eq_true, if_false]

theorem sendPick_nil : s.sendPick p [] = s := rfl

section
variable {z : State} {v : Nat} {x : Nat × Bool × Nat × QFrame} (hne : picks ≠ [])
  (hx : picks.find? (fun (x : Nat × Bool × Nat × QFrame) => decide (x.1 = v)) = some x)
include hne hx

/-- Among ordinary VCs alone the round of class 1 decides, and nothing else is charged. -/
theorem sendPick_of_ordinary (hord : ∀ y ∈ picks, s.isPriv y.1 = false) (hround : s.roundOf p 1 picks = (z, some v)) :
    s.sendPick p picks = (z.depart p v x.2).unblock := by
  have hpr : picks.filter (fun (x : Nat × Bool × Nat × QFrame) => s.isPriv x.1) = [] :=
    List.filter_eq_nil_iff.mpr fun y hy => ne_true_of_eq_false (hord y hy)
  have hall : picks.filter (fun (x : Nat × Bool × Nat × QFrame) => !s.isPriv x.1) = picks :=
    List.filter_eq_self.mpr fun y hy => by simp [hord y hy]
  unfold State.sendPick
  rw [hpr, hall]
  exact sendOneOf_of_round hne hround hx

/-- Among privileged VCs alone the round of class 0 decides, and the privileged capacity pays, down to 0. -/
theorem sendPick_of_privileged (hpriv : ∀ y ∈ picks, s.isPriv y.1 = true) (hround : s.roundOf p 0 picks = (z, some v)) :
    s.sendPick p picks = ((z.setPcap p (max (z.pcap p - (x.2.2.2.l : Int) * 1000) 0)).depart p v x.2).unblock := by
  have hall : picks.filter (fun (x : Nat × Bool × Nat × QFrame) => s.isPriv x.1) = picks :=
    List.filter_eq_self.mpr hpriv
  have hord : picks.filter (fun (x : Nat × Bool × Nat × QFrame) => !s.isPriv x.1) = [] :=
    List.filter_eq_nil_iff.mpr fun y hy => by simp [hpriv y hy]
  have huse : (!picks.isEmpty && (decide (0 < s.pcap p) || ([] : List (Nat × Bool × Nat × QFrame)).isEmpty)) = true := by simp [hne]
  unfold State.sendPick
  rw [hall, hord]
  simp only [huse, if_true]
  exact sendOneOf_of_round hne hround hx

end

theorem exec_portFrameStart_of_up {dt : Nat} {credit : List Nat} (hp : p < 8) (hup : (s.pass dt).on .RING_PORT_STS_UP p = true)
    (hloud : bitAt (s.pass dt).fab.quiet p = false) : exec (.portFrameStart dt p credit) s = .next (frameStart p credit (s.pass dt)) :=
  congrArg Host.Outcome.next (if_pos (by simp [hp, hup, hloud]))

end

/-! ### Deferred frames and samples (R380 to R382) -/

section
variable {s : State} {src ctx vc : Nat} {f : RxFlow} (hf : Map.find s.ring.rx (flowKey src ctx vc) = some f)

/-- A deferred frame whose time is over. -/
def State.undeferDue (s : State) (vc : Nat) (h : HeldFrame) : Bool :=
  decide (h.mode = 1) && decide (h.at_ + 100 * s.inForce .SHP_VC_DEFER_US vc ≤ s.now)

include hf

theorem deferTimeout_of_due {h : HeldFrame} (hdue : f.held.find? (s.undeferDue vc) = some h) :
    deferTimeout src ctx vc s = (s.bump .SHP_CNT_COUNT 4 0 1).undefer (flowKey src ctx vc) h.f.seq 2 := by
  unfold State.undeferDue at hdue
  simp only [deferTimeout, hf, hdue]

theorem deferTimeout_of_early (hdue : f.held.find? (s.undeferDue vc) = none) : deferTimeout src ctx vc s = s := by
  unfold State.undeferDue at hdue
  simp only [deferTimeout, hf, hdue]

end

section
variable {s : State}

theorem sampleTick_of_early (h : s.ring.ticks < s.inForce .SHP_SAMPLE_TICKS) : sampleTick s = s :=
  if_pos (by simp [h])

theorem sampleTick_of_due (hrefill : s.atRefill = true) (hen : s.inForce .SHP_SAMPLE_EN ≠ 0) (h : s.inForce .SHP_SAMPLE_TICKS ≤ s.ring.ticks) :
    sampleTick s =
      (let a := (List.range 4096).foldl (fun s q => s.sampleQueue q (s.localQ q)) s
       let b := (List.range 64).foldl (fun s q => s.sampleQueue (4096 + q) (s.transitQ q)) a
       (b.setRing { b.ring with ticks := 0 }).bump .SHP_CNT_COUNT 9 0 1) := by
  unfold sampleTick
  rw [if_neg (by simp [hrefill, hen, h])]

/-! ### SHAPER_SET and POLICER_SET (R371, R383) -/

/-- A setter that waits for the refill. -/
def State.awaitRefill (s : State) (k : Nat) : State := s.setRing { s.ring with setters := s.ring.setters ++ [k] }

theorem exec_shaperSet_of_mayRun {k : Nat} {c : Cmd} (h : s.mayRun k 0x62 c) : exec (.shaperSet k) s = .next (shaperSet c (s.setPhase k .running)) :=
  congrArg Host.Outcome.next (begin_of_mayRun h shaperSet rfl rfl rfl)

theorem exec_policerSet_of_mayRun {k : Nat} {c : Cmd} (h : s.mayRun k 0x63 c) :
    exec (.policerSet k) s = .next (policerSet c (s.setPhase k .running)) :=
  congrArg Host.Outcome.next (begin_of_mayRun h policerSet rfl rfl rfl)

theorem shaperSet_of_ctx {c : Cmd} (h : bitsOf (Desc.flags c.desc) 9 8 = 0) : shaperSet c s =
    (((s.shpPut .SHP_CTXQ_RATE (Desc.byte c.desc 16) (Desc.byte c.desc 17) (Desc.num c.desc 20 4)).shpPut .SHP_CTXQ_BURST_KIB
      (Desc.byte c.desc 16) (Desc.byte c.desc 17) (Desc.num c.desc 24 4)).shpPut .SHP_CTXQ_WEIGHT (Desc.byte c.desc 16) (Desc.byte c.desc 17)
      (Desc.byte c.desc 28)).awaitRefill c.id := by
  simp only [shaperSet, State.awaitRefill, h]

theorem shaperSet_of_vc {c : Cmd} (h : bitsOf (Desc.flags c.desc) 9 8 = 1) : shaperSet c s =
    (s.shpWord [.SHP_VC_PRIV, .SHP_VC_WEIGHT, .SHP_VC_RED_ACT, .SHP_VC_DEFER_US] (Desc.byte c.desc 17) 0
      (Desc.num c.desc 20 4)).awaitRefill c.id := by
  simp only [shaperSet, State.awaitRefill, h]

theorem shaperSet_of_port {c : Cmd} (h : bitsOf (Desc.flags c.desc) 9 8 = 2) : shaperSet c s =
    (s.shpWord [.SHP_PORT_OVH, .SHP_PORT_PRIV_PCT, .SHP_PORT_PRIV_BURST_KIB] (Desc.byte c.desc 18) 0
      (Desc.num c.desc 20 4)).awaitRefill c.id := by
  simp only [shaperSet, State.awaitRefill, h]

/-- A ring policer's fields; one that is off keeps the others. -/
theorem policerSet_of_ring {c : Cmd} (h : Desc.flag c.desc 8 = true) : policerSet c s =
    (let u := s.shpPut .SHP_RPOL_MODE (Desc.byte c.desc 17) (Desc.byte c.desc 16) (Desc.byte c.desc 18)
     let w := if Desc.byte c.desc 18 = 0 then u else
       (((u.shpPut .SHP_RPOL_CIR (Desc.byte c.desc 17) (Desc.byte c.desc 16) (Desc.num c.desc 20 4)).shpPut
         .SHP_RPOL_CBS (Desc.byte c.desc 17) (Desc.byte c.desc 16) (Desc.num c.desc 24 4)).shpPut
         .SHP_RPOL_RATE2 (Desc.byte c.desc 17) (Desc.byte c.desc 16) (Desc.num c.desc 28 4)).shpPut
         .SHP_RPOL_BURST2 (Desc.byte c.desc 17) (Desc.byte c.desc 16) (Desc.num c.desc 32 4)
     w.awaitRefill c.id) := by
  simp only [policerSet, State.awaitRefill, h, if_true]

theorem policerSet_of_host {c : Cmd} (h : Desc.flag c.desc 8 = false) : policerSet c s =
    (let u := s.shpPut .SHP_HPOL_A_MODE (Desc.byte c.desc 16) 0 (Desc.byte c.desc 18)
     let w := if Desc.byte c.desc 18 = 0 then u else
       (((u.shpPut .SHP_HPOL_A_CIR (Desc.byte c.desc 16) 0 (Desc.num c.desc 20 4)).shpPut
         .SHP_HPOL_A_CBS (Desc.byte c.desc 16) 0 (Desc.num c.desc 24 4)).shpPut
         .SHP_HPOL_B_RATE2 (Desc.byte c.desc 16) 0 (Desc.num c.desc 28 4)).shpPut
         .SHP_HPOL_B_BURST2 (Desc.byte c.desc 16) 0 (Desc.num c.desc 32 4)
     w.awaitRefill c.id) := by
  simp only [policerSet, State.awaitRefill, h, Bool.false_eq_true, if_false]

end

/-- Settles O41: each instant, frame start and command by the lemma on its meaning. -/
theorem shaping : Obligations.Shaping := by
  unfold Obligations.Shaping
  refine ⟨fun dt s => ⟨exec_refillInstant_of_refill, exec_refillInstant_of_other⟩, fun dt port credit s hp hup hloud => ?start,
    fun dt src ctx vc s f hf => ?defer, fun dt s hrefill hen => ?sample, fun k c s h => ?shaper, fun k c s h => ?policer⟩
  case start =>
    intro t w a picks u
    have ha : t.noteShort port credit = a := by
      simp only [State.noteShort, State.lacksCredit, headLacks_eq]
      rfl
    have hexec : exec (.portFrameStart dt port credit) s = .next (u.sendPick port picks) := by
      rw [exec_portFrameStart_of_up hp hup hloud, frameStart_eq, ha]
      rfl
    rw [hexec]
    refine ⟨fun hnil => ?_, fun z v x hne hord hround hx => ?_, fun z v x hne hpriv hround hx => ?_⟩ <;> refine congrArg Host.Outcome.next ?_
    · rw [hnil]
      exact sendPick_nil
    · exact sendPick_of_ordinary hne hx hord hround
    · exact sendPick_of_privileged hne hx hpriv hround
  case defer =>
    exact ⟨fun h hdue => congrArg Host.Outcome.next (deferTimeout_of_due hf hdue),
      fun hdue => congrArg Host.Outcome.next (deferTimeout_of_early hf hdue)⟩
  case sample =>
    exact ⟨fun h => congrArg Host.Outcome.next (sampleTick_of_early h),
      fun h => congrArg Host.Outcome.next (sampleTick_of_due (s := s.pass dt) hrefill hen h)⟩
  case shaper =>
    rw [exec_shaperSet_of_mayRun h]
    obtain rfl := cmd_id h.1
    exact ⟨fun hctx => congrArg Host.Outcome.next (shaperSet_of_ctx hctx), fun hvc => congrArg Host.Outcome.next (shaperSet_of_vc hvc),
      fun hport => congrArg Host.Outcome.next (shaperSet_of_port hport)⟩
  case policer =>
    rw [exec_policerSet_of_mayRun h]
    obtain rfl := cmd_id h.1
    exact ⟨fun hring => congrArg Host.Outcome.next (policerSet_of_ring hring), fun hhost => congrArg Host.Outcome.next (policerSet_of_host hhost)⟩

end Sys2Proof.Machine
end

section
/-! SUPPORT. Roles, admission and metering (R387, R388, R392, R395, R396, R401, R402, R406, R407): ROLE_SET, the evaluation of the gauges, and
METER_READ here and at another Flewick. -/

namespace Sys2Proof.Machine

section
variable {s : State} {k : Nat} {c : Cmd}

/-! ### ROLE_SET (R387, R388) -/

theorem exec_roleSet_of_mayRun (h : s.mayRun k 0x71 c) : exec (.roleSet k) s = .next (roleSet c (s.setPhase k .running)) :=
  congrArg Host.Outcome.next (begin_of_mayRun h roleSet rfl rfl rfl)

theorem roleSet_of_badMix {m : Nat × Nat × Nat} (hmix : mixOf c.desc = some m) (hsum : m.1 + m.2.1 + m.2.2 ≠ 100) :
    roleSet c s = s.finish c.id .reservedNonzero 17 := by
  simp only [roleSet, hmix, bne_iff_ne.mpr hsum, if_true]

/-- A ROLE_SET without a mix asks for its role alone. -/
theorem roleSet_of_noMix (hmix : mixOf c.desc = none) :
    roleSet c s = roleSet.roleAsk c (Desc.byte c.desc 16) (s.rd .GORE_ROLE_ROLE = Desc.byte c.desc 16) s := by
  simp only [roleSet, hmix]

theorem roleSet_of_change (hmix : ∀ m, mixOf c.desc = some m → m.1 + m.2.1 + m.2.2 = 100) (hrole : s.rd .GORE_ROLE_ROLE ≠ Desc.byte c.desc 16) :
    roleSet c s = roleSet.roleAsk c (Desc.byte c.desc 16) false s := by
  cases h : mixOf c.desc with
  | none => rw [roleSet_of_noMix h, decide_eq_false hrole]
  | some m =>
    have hsum : (m.1 + m.2.1 + m.2.2 != 100) = false := by simp [hmix m h]
    simp only [roleSet, h, hsum, hrole, decide_false, Bool.false_and, Bool.false_eq_true, if_false]

/-- The state in which a ROLE_SET waits for a step boundary. -/
def State.awaitRole (s : State) (k role : Nat) : State :=
  let u := (s.bump .CTL_ADM_CNT_COUNT 9 0 1).supersede
  let v := (u.wr .GORE_ROLE_PENDING 0 0 role).wr .GORE_ROLE_PENDING_VALID 0 0 1
  v.setFleet { v.fleet with roleSet := some k }

theorem roleAsk_of_change (role : Nat) : roleSet.roleAsk c role false s =
    if (s.awaitRole c.id role).attn.steps.isEmpty then (s.awaitRole c.id role).roleNow.winch (s.awaitRole c.id role) else s.awaitRole c.id role :=
  rfl

/-! ### The evaluation of the gauges (R392, R395, R396) -/

/-- An idle attention block lets the role shift at the evaluation. -/
def State.shiftIdle (s : State) : State := if s.attn.steps.isEmpty then s.autoShift else s

/-- The gauges written into CTL_ADM_STS. -/
def State.showGauges (s : State) : State := s.wr .CTL_ADM_STS_CAUSE 0 0 s.gauges

/-- An evaluation with a short resource. -/
def State.showShort (s : State) : State := (s.showGauges.wr .CTL_ADM_STS_SHORT 0 0 1).bump .CTL_ADM_CNT_COUNT 1 0 1

/-- The first evaluation with a short resource notes the counts from which a shift is weighed. -/
def State.startShort (s : State) : State :=
  let e := s.bump .CTL_ADM_CNT_COUNT 0 0 1
  let f := e.setFleet { e.fleet with shortInt := e.rd .CTL_ADM_CNT_COUNT 5, shortBatch := e.batchSum }
  if f.interAloft then f.askShift else f

/-- The evaluation before an idle block's role shift. -/
theorem admissionEval_eq : admissionEval s = State.shiftIdle
    (if s.gauges != 0 then if s.isShort then s.showShort else s.showShort.startShort
     else if s.isShort then (s.showGauges.wr .CTL_ADM_STS_SHORT 0 0 0).setFleet { s.showGauges.fleet with clearAt := s.showGauges.now }
     else s.showGauges) :=
  rfl

theorem admissionEval_of_clear (hg : s.gauges = 0) (hshort : s.isShort = false) : admissionEval s = s.showGauges.shiftIdle := by
  rw [admissionEval_eq, hg, hshort]
  rfl

theorem admissionEval_of_cleared (hg : s.gauges = 0) (hshort : s.isShort = true) : admissionEval s =
    ((s.showGauges.wr .CTL_ADM_STS_SHORT 0 0 0).setFleet { s.showGauges.fleet with clearAt := s.showGauges.now }).shiftIdle := by
  rw [admissionEval_eq, hg, hshort]
  rfl

theorem admissionEval_of_short (hg : s.gauges ≠ 0) (hshort : s.isShort = true) : admissionEval s = s.showShort.shiftIdle := by
  rw [admissionEval_eq, bne_iff_ne.mpr hg, hshort]
  rfl

theorem admissionEval_of_newShort (hg : s.gauges ≠ 0) (hshort : s.isShort = false) : admissionEval s = s.showShort.startShort.shiftIdle := by
  rw [admissionEval_eq, bne_iff_ne.mpr hg, hshort]
  rfl

theorem exec_admissionEvaluation_of_ready {dt : Nat} (h : (s.pass dt).on .CTL_READY_CONTROL = true) :
    exec (.admissionEvaluation dt) s = .next (admissionEval (s.pass dt)) :=
  congrArg Host.Outcome.next (if_pos h)

/-! ### METER_READ (R406, R407) -/

section
variable (h : s.mayRun k 0x72 c)
include h

theorem exec_meterReadLive_of_mayRun (hop : bitsOf (Desc.flags c.desc) 9 8 = 0) (wrote : Bool) :
    exec (.meterReadLive k wrote) s = .next (meterRead wrote c (s.setPhase k .running)) :=
  congrArg Host.Outcome.next (begin_of_mayRun h (meterRead wrote) (decide_eq_true hop) rfl rfl)

theorem exec_meterReadFetch_of_mayRun (hop : bitsOf (Desc.flags c.desc) 9 8 = 1) (wrote : Bool) :
    exec (.meterReadFetch k wrote) s = .next (meterRead wrote c (s.setPhase k .running)) :=
  congrArg Host.Outcome.next (begin_of_mayRun h (meterRead wrote) (decide_eq_true hop) rfl rfl)

theorem exec_meterReadAck_of_mayRun (hop : bitsOf (Desc.flags c.desc) 9 8 = 2) :
    exec (.meterReadAck k) s = .next (meterRead true c (s.setPhase k .running)) :=
  congrArg Host.Outcome.next (begin_of_mayRun h (meterRead true) (decide_eq_true hop) rfl rfl)

end

/-- The right to METER_READ (R406): MGMT, or this Flewick's meters of the requester's own context, which no ACK needs. -/
def State.meterRight (s : State) (c : Cmd) : Bool :=
  s.on .HTI_CTX_MGMT c.ctx ||
    (decide (Desc.num c.desc 18 2 = s.myId) && decide (Desc.byte c.desc 16 = c.ctx) && bitsOf (Desc.flags c.desc) 9 8 != 2)

theorem meterRead_of_noRight {wrote : Bool} (h : s.meterRight c = false) : meterRead wrote c s = s.finish c.id .authFail 4 := by
  unfold State.meterRight at h
  exact if_pos (by rw [h]; rfl)

section
variable {wrote : Bool} (h : s.meterRight c = true)
include h

theorem meterRead_of_here (hsrc : Desc.num c.desc 18 2 = s.myId) : meterRead wrote c s =
    (let r := s.meterOp (bitsOf (Desc.flags c.desc) 9 8) (Desc.byte c.desc 16) (Desc.num c.desc 20 4) (Desc.num c.desc 32 8) true
     r.1.meterDone c r.2 wrote) := by
  unfold State.meterRight at h
  exact (if_neg (by rw [h]; decide)).trans (if_pos hsrc)

theorem meterRead_of_there (hsrc : Desc.num c.desc 18 2 ≠ s.myId) : meterRead wrote c s =
    if !s.joined (Desc.num c.desc 18 2) then s.finish c.id .reservedNonzero 18
    else (s.setFleet { s.fleet with remote := s.fleet.remote ++ [⟨c.id, s.now, 1⟩] }).askMeter c := by
  unfold State.meterRight at h
  exact (if_neg (by rw [h]; decide)).trans (if_neg hsrc)

end

/-- The requester's own context at its own Flewick. -/
theorem meterRight_of_own (hsrc : Desc.num c.desc 18 2 = s.myId) (hctx : Desc.byte c.desc 16 = c.ctx)
    (hop : bitsOf (Desc.flags c.desc) 9 8 ≠ 2) : s.meterRight c = true := by
  simp [State.meterRight, hsrc, hctx, hop]

theorem meterRight_of_mgmt (h : s.on .HTI_CTX_MGMT c.ctx = true) : s.meterRight c = true := by
  simp [State.meterRight, h]

theorem meterRight_of_other (hmgmt : s.on .HTI_CTX_MGMT c.ctx = false) (h : Desc.num c.desc 18 2 ≠ s.myId ∨ Desc.byte c.desc 16 ≠ c.ctx) :
    s.meterRight c = false := by
  rcases h with h | h <;> simp [State.meterRight, hmgmt, h]

/-- Records that reach the buffer. -/
theorem meterDone_of_records {r0 r1 r2 : Nat} {l : List Nat} (hl : l ≠ []) : s.meterDone c ⟨.ok, 0, r0, r1, r2, l⟩ true =
    (s.emit (.write c.ctx (Desc.num c.desc 24 8) (288 * l.length) (packWords 288 l))).finish c.id .ok 0 r0 r1 r2 := by
  cases l with
  | nil => exact absurd rfl hl
  | cons x t => rfl

theorem meterDone_of_full {r0 r1 r2 : Nat} {l : List Nat} (hl : l ≠ []) :
    s.meterDone c ⟨.ok, 0, r0, r1, r2, l⟩ false = s.finish c.id .retryLater (hintMs 1) := by
  cases l with
  | nil => exact absurd rfl hl
  | cons x t => rfl

theorem meterDone_of_empty {r0 r1 r2 : Nat} (wrote : Bool) : s.meterDone c ⟨.ok, 0, r0, r1, r2, []⟩ wrote = s.finish c.id .ok 0 r0 r1 r2 := rfl

theorem remoteMeter_of_answer {cmd cause r0 r1 r2 : Nat} {wrote : Bool} {q : RemRun}
    (hrun : (s.fleet.remote.find? fun (r : RemRun) => decide (r.cmd = cmd)) = some q) (hcmd : s.cmd cmd = some c) :
    remoteMeter (.answer cmd 0 cause r0 r1 r2 [] wrote) s =
      (s.setFleet { s.fleet with remote := s.fleet.remote.filter fun (r : RemRun) => r.cmd != cmd }).finish c.id .ok 0 r0 r1 r2 := by
  simp only [remoteMeter, hrun, hcmd]
  rfl

section
variable {q : RemRun} (hrun : (s.fleet.remote.find? fun (r : RemRun) => decide (r.cmd = k)) = some q) (hcmd : s.cmd k = some c)
include hrun hcmd

theorem remoteTimeout_of_early (hdue : s.now < q.at_ + 1000000) : remoteTimeout k s = s := by
  simp only [remoteTimeout, hrun, hcmd, Nat.not_le.mpr hdue, if_false]

theorem remoteTimeout_of_retry (hdue : q.at_ + 1000000 ≤ s.now) (hsends : q.sends < 2) : remoteTimeout k s =
    (s.setFleet { s.fleet with
      remote := s.fleet.remote.map fun (p : RemRun) => if p.cmd = k then ⟨k, s.now, p.sends + 1⟩ else p }).askMeter c := by
  simp only [remoteTimeout, hrun, hcmd, hdue, hsends, if_true]

theorem remoteTimeout_of_silence (hdue : q.at_ + 1000000 ≤ s.now) (hsends : 2 ≤ q.sends) : remoteTimeout k s =
    (s.setFleet { s.fleet with remote := s.fleet.remote.filter fun (p : RemRun) => p.cmd != k }).finish k .retryLater (hintMs 10) := by
  simp only [remoteTimeout, hrun, hcmd, hdue, Nat.not_lt.mpr hsends, if_true, if_false]

end

end

/-- Settles O44: each command, tick and message by the lemma on its meaning. -/
theorem rolesAndMeters : Obligations.RolesAndMeters := by
  unfold Obligations.RolesAndMeters
  refine ⟨fun k c s h => ?role, fun dt s hready => ?admission, fun dt s => ⟨rfl, rfl⟩, fun k c s h => ?meter,
    fun src cmd op ctx count seq wr s => ⟨rfl, rfl⟩,
    fun cmd cause r0 r1 r2 wrote s q c hrun hcmd => congrArg Host.Outcome.next (remoteMeter_of_answer hrun hcmd),
    fun dt k s q c hrun hcmd => ?timeout⟩
  case role =>
    rw [exec_roleSet_of_mayRun h]
    obtain rfl := cmd_id h.1
    intro r role u v w
    refine ⟨fun m hmix hsum => congrArg Host.Outcome.next (roleSet_of_badMix hmix hsum), fun hmix hrole => congrArg Host.Outcome.next ?_,
      fun hmix hrole => ?_⟩
    · rw [roleSet_of_noMix hmix, decide_eq_true hrole]
      rfl
    · rw [roleSet_of_change hmix hrole, roleAsk_of_change]
      exact ⟨fun hsteps => congrArg Host.Outcome.next (if_neg (by rw [List.isEmpty_iff]; exact hsteps)),
        fun hsteps => congrArg Host.Outcome.next (if_pos (List.isEmpty_iff.mpr hsteps))⟩
  case admission =>
    rw [exec_admissionEvaluation_of_ready hready]
    intro u v fin b
    refine ⟨fun hg hshort => congrArg Host.Outcome.next (admissionEval_of_clear hg hshort),
      fun hg hshort => congrArg Host.Outcome.next (admissionEval_of_cleared hg hshort),
      fun hg hshort => congrArg Host.Outcome.next (admissionEval_of_short hg hshort), fun hg hshort => ?_⟩
    intro e f
    have hstart : u.showShort.startShort = if f.interAloft then f.askShift else f := rfl
    rw [admissionEval_of_newShort hg hshort, hstart]
    rfl
  case meter =>
    obtain rfl := cmd_id h.1
    intro r src ctx at_ lost
    refine ⟨fun hop hmgmt hother w => ?_, fun hop hsrc hctx => ?_, fun hop hsrc hctx => ?_, fun hop hmgmt hsrc => ?_, fun hop hmgmt hsrc => ?_⟩
    · rw [exec_meterReadLive_of_mayRun h hop]
      exact congrArg Host.Outcome.next (meterRead_of_noRight (meterRight_of_other hmgmt hother))
    · have hright : r.meterRight c = true := meterRight_of_own hsrc hctx (by omega)
      intro rec_ u
      rw [exec_meterReadLive_of_mayRun h hop, exec_meterReadLive_of_mayRun h hop, meterRead_of_here hright hsrc, meterRead_of_here hright hsrc, hop]
      exact ⟨rfl, rfl⟩
    · have hright : r.meterRight c = true := meterRight_of_own hsrc hctx (by omega)
      intro l
      have hread (w : Bool) : exec (.meterReadFetch c.id w) s =
          .next (r.meterDone c ⟨.ok, 0, l.length, r.unacked, lost r, l.map MRec.data⟩ w) := by
        rw [exec_meterReadFetch_of_mayRun h hop, meterRead_of_here hright hsrc, hop]
        rfl
      refine ⟨fun w hl => ?_, fun hl => ?_, fun hl => ?_⟩ <;> rw [hread]
      · rw [hl]
        rfl
      · rw [meterDone_of_records (mt List.map_eq_nil_iff.mp hl), List.length_map]
      · rw [meterDone_of_full (mt List.map_eq_nil_iff.mp hl)]
    · rw [exec_meterReadAck_of_mayRun h hop, meterRead_of_here (meterRight_of_mgmt hmgmt) hsrc, hop]
      rfl
    · rw [exec_meterReadAck_of_mayRun h hop, meterRead_of_there (meterRight_of_mgmt hmgmt) hsrc]
      exact ⟨fun hjoin => congrArg Host.Outcome.next (if_pos (by rw [hjoin]; rfl)),
        fun hjoin => congrArg Host.Outcome.next (if_neg (by rw [hjoin]; decide))⟩
  case timeout =>
    exact ⟨fun hdue => congrArg Host.Outcome.next (remoteTimeout_of_early hrun hcmd hdue),
      fun hdue hsends => congrArg Host.Outcome.next (remoteTimeout_of_retry hrun hcmd hdue hsends),
      fun hdue hsends => congrArg Host.Outcome.next (remoteTimeout_of_silence hrun hcmd hdue hsends)⟩

end Sys2Proof.Machine
end

section
/-! SUPPORT. JOB_KEY_SET and JOB_KEY_RETIRE (R413 to R418, R421): the checks of a key in their order, and the slots that empty. -/

namespace Sys2Proof.Machine

section
variable {s : State} {k : Nat} {c : Cmd}

theorem exec_jobKeySet_of_mayRun (h : s.mayRun k 0x60 c) : exec (.jobKeySet k) s = .next (jobKeySet c (s.setPhase k .running)) :=
  congrArg Host.Outcome.next (begin_of_mayRun h jobKeySet rfl rfl rfl)

theorem exec_jobKeyRetire_of_mayRun (h : s.mayRun k 0x61 c) : exec (.jobKeyRetire k) s = .next (jobKeyRetire c (s.setPhase k .running)) :=
  congrArg Host.Outcome.next (begin_of_mayRun h jobKeyRetire rfl rfl rfl)

/-! ### JOB_KEY_SET of a job key (R413 to R416) -/

/-- The key of the command's slot is refused for the reason `n`. -/
def State.failKey (s : State) (c : Cmd) (fab : Bool) (n : Nat) : State := s.finish c.id .keyFail (keyCause (Desc.byte c.desc 16) fab n)

/-- The key enters the command's slot of its context. -/
def State.putKey (s : State) (c : Cmd) (key : Nat) : State :=
  ((s.setJobKey c.ctx (Desc.byte c.desc 16) key (Desc.num c.desc 20 4)).bump .SEC_CNT_COUNT 0 0 1).finish c.id .ok 0 (Desc.byte c.desc 16)
    (Desc.num c.desc 20 4)

section
variable (hjob : Desc.flag c.desc 8 = false)
include hjob

theorem jobKeySet_of_retiring (hret : s.bit .SEC_CTX_RETIRING (Desc.byte c.desc 16) c.ctx = true) : jobKeySet c s = s.failKey c false 2 := by
  simp only [jobKeySet, hjob, hret, Bool.false_and, Bool.or_true, Bool.not_false, Bool.and_self, Bool.false_eq_true, if_true, if_false,
    State.failKey]

variable (hret : s.bit .SEC_CTX_RETIRING (Desc.byte c.desc 16) c.ctx = false)
include hret

theorem jobKeySet_of_active (hact : s.bit .SEC_CTX_ACTIVE (Desc.byte c.desc 16) c.ctx = true) : jobKeySet c s = s.failKey c false 1 := by
  simp only [jobKeySet, hjob, hret, hact, Bool.false_and, Bool.or_false, Bool.and_false, Bool.false_eq_true, if_true, if_false, State.failKey]

/-- Into an empty slot goes a plain key where plain keys are allowed, and else a key that unwraps under the import key. -/
theorem jobKeySet_of_empty (hact : s.bit .SEC_CTX_ACTIVE (Desc.byte c.desc 16) c.ctx = false) : jobKeySet c s =
    if Desc.byte c.desc 17 = 0 then
      if !s.on .SEC_CFG_PLAIN_KEYS && s.rd .SEC_CTX_TDI c.ctx != 3 then s.failKey c false 5 else s.putKey c (Desc.num c.desc 24 32)
    else match (Map.find s.sec.imports c.ctx).map fun k => keyUnwrap k (Desc.num c.desc 24 40) with
      | none => s.failKey c false 4
      | some none => (s.bump .SEC_CNT_COUNT 3 0 1).failKey c false 3
      | some (some key) => s.putKey c (key % 2 ^ 256) := by
  simp only [jobKeySet, hjob, hret, hact, Bool.false_and, Bool.or_self, Bool.false_eq_true, if_false, State.failKey, State.putKey]
  rfl

end

/-! ### JOB_KEY_SET of a fabric key (R421) -/

section
variable (hfab : Desc.flag c.desc 8 = true)
include hfab

theorem jobKeySet_of_noMgmt (hmgmt : s.on .HTI_CTX_MGMT c.ctx = false) : jobKeySet c s = s.finish c.id .authFail 1 :=
  if_pos (by rw [hfab, hmgmt]; rfl)

variable (hmgmt : s.on .HTI_CTX_MGMT c.ctx = true)
include hmgmt

theorem jobKeySet_of_locked (hlock : s.locked c.ctx = true) : jobKeySet c s = s.finish c.id .authFail 5 :=
  (if_neg (by simp [hmgmt])).trans (if_pos (by simp [hfab, hlock]))

variable (hlock : s.locked c.ctx = false)
include hlock

theorem jobKeySet_of_full (hfull : Map.has s.sec.fabric (Desc.byte c.desc 16) = true) : jobKeySet c s = s.failKey c true 1 := by
  simp only [jobKeySet, hfab, hmgmt, hlock, hfull, Bool.not_true, Bool.and_false, Bool.false_and, Bool.false_eq_true, if_true, if_false,
    State.failKey]

theorem jobKeySet_of_plainFabric (hempty : Map.has s.sec.fabric (Desc.byte c.desc 16) = false) (hkind : Desc.byte c.desc 17 = 0)
    (hplain : s.on .SEC_CFG_PLAIN_KEYS = true) : jobKeySet c s =
      ((s.setFabric (Desc.byte c.desc 16) (Desc.num c.desc 24 32) (Desc.num c.desc 20 4) (Desc.flag c.desc 9)).bump .SEC_CNT_COUNT 0 0 1).finish
        c.id .ok 0 (Desc.byte c.desc 16 + 16) (Desc.num c.desc 20 4) := by
  simp only [jobKeySet, hfab, hmgmt, hlock, hempty, hkind, hplain, Bool.not_true, Bool.and_false, Bool.false_and, Bool.false_eq_true, if_true,
    if_false]
  rfl

end

/-! ### JOB_KEY_RETIRE (R417, R418) -/

section
variable (hfab : Desc.flag c.desc 9 = true)
include hfab

theorem jobKeyRetire_of_noMgmt (hmgmt : s.on .HTI_CTX_MGMT c.ctx = false) : jobKeyRetire c s = s.finish c.id .authFail 1 :=
  (if_pos hfab).trans (if_pos (by rw [hmgmt]; rfl))

variable (hmgmt : s.on .HTI_CTX_MGMT c.ctx = true)
include hmgmt

theorem jobKeyRetire_of_inUse (huse : s.rd .SEC_FABRIC_TX_SLOT = Desc.byte c.desc 16) : jobKeyRetire c s = s.failKey c true 6 :=
  ((if_pos hfab).trans (if_neg (by rw [hmgmt]; decide))).trans (if_pos huse)

theorem jobKeyRetire_of_fabric (huse : s.rd .SEC_FABRIC_TX_SLOT ≠ Desc.byte c.desc 16) : jobKeyRetire c s =
    (if Map.has s.sec.fabric (Desc.byte c.desc 16) then (s.dropFabric (Desc.byte c.desc 16)).bump .SEC_CNT_COUNT 1 0 1 else s).finish c.id .ok :=
  ((if_pos hfab).trans (if_neg (by rw [hmgmt]; decide))).trans (if_neg huse)

end

/-- The slot is RETIRING, and the command waits for the transfers that hold it. -/
def State.startRetire (s : State) (k c i : Nat) : State :=
  let l := s.keyHolders c i
  let u := (s.wrBit .SEC_CTX_ACTIVE c i false).wrBit .SEC_CTX_RETIRING c i true
  let v := u.setSec { u.sec with retires := u.sec.retires ++ [⟨k, c, i, l, l.length, 0⟩] }
  v.setSec { v.sec with retires := v.sec.retires.map fun (q : Retire) => if q.cmd = k then { q with waited := l.length, aborted := 0 } else q }

section
variable (hjob : Desc.flag c.desc 9 = false)
include hjob

theorem jobKeyRetire_of_empty (hact : s.bit .SEC_CTX_ACTIVE (Desc.byte c.desc 16) c.ctx = false)
    (hret : s.bit .SEC_CTX_RETIRING (Desc.byte c.desc 16) c.ctx = false) : jobKeyRetire c s = s.finish c.id .ok :=
  (if_neg (by rw [hjob]; decide)).trans (if_pos (by rw [hact, hret]; rfl))

theorem jobKeyRetire_of_held (hheld : s.bit .SEC_CTX_ACTIVE (Desc.byte c.desc 16) c.ctx = true ∨
    s.bit .SEC_CTX_RETIRING (Desc.byte c.desc 16) c.ctx = true) (habort : Desc.flag c.desc 8 = false) : jobKeyRetire c s =
      (if (s.startRetire c.id c.ctx (Desc.byte c.desc 16)).keyFree c.ctx (Desc.byte c.desc 16) then
        (s.startRetire c.id c.ctx (Desc.byte c.desc 16)).retired c.ctx (Desc.byte c.desc 16)
      else s.startRetire c.id c.ctx (Desc.byte c.desc 16)).winch s := by
  have hslot : ¬((!s.bit .SEC_CTX_ACTIVE (Desc.byte c.desc 16) c.ctx && !s.bit .SEC_CTX_RETIRING (Desc.byte c.desc 16) c.ctx) = true) := by
    rcases hheld with h | h <;> simp [h]
  refine ((if_neg (by rw [hjob]; decide)).trans (if_neg hslot)).trans ?_
  rw [habort]
  rfl

end

theorem exec_keySlotEmptied_of_retiring {x i : Nat} (hx : x < 64) (hi : i < 16) (hret : s.bit .SEC_CTX_RETIRING i x = true) :
    exec (.keySlotEmptied x i) s = .next (if s.keyFree x i then s.retired x i else s) := by
  refine congrArg Host.Outcome.next (if_congr ?_ rfl rfl)
  simp [hx, hi, hret]

end

/-- Settles O45: each check of JOB_KEY_SET and JOB_KEY_RETIRE by the lemma on its outcome. -/
theorem jobKeys : Obligations.JobKeys := by
  unfold Obligations.JobKeys
  refine ⟨fun k c s h => ?set, fun k c s h => ?retire, fun x i s hx hi hret => ?emptied⟩
  case set =>
    rw [exec_jobKeySet_of_mayRun h]
    obtain rfl := cmd_id h.1
    intro r i id plain fail
    refine ⟨fun hjob => ⟨fun hret => congrArg Host.Outcome.next (jobKeySet_of_retiring hjob hret),
      fun hret hact => congrArg Host.Outcome.next (jobKeySet_of_active hjob hret hact), fun hret hact => ?empty⟩,
      fun hfab => ⟨fun hmgmt => congrArg Host.Outcome.next (jobKeySet_of_noMgmt hfab hmgmt),
        fun hmgmt hlock => congrArg Host.Outcome.next (jobKeySet_of_locked hfab hmgmt hlock),
        fun hmgmt hlock hfull => congrArg Host.Outcome.next (jobKeySet_of_full hfab hmgmt hlock hfull),
        fun hmgmt hlock hempty hkind hplain => congrArg Host.Outcome.next (jobKeySet_of_plainFabric hfab hmgmt hlock hempty hkind hplain)⟩⟩
    intro put
    have hset := jobKeySet_of_empty hjob hret hact
    refine ⟨fun hkind hplain => congrArg Host.Outcome.next ?_, fun hkind hplain htdi => congrArg Host.Outcome.next ?_,
      fun hkind himp => congrArg Host.Outcome.next ?_,
      fun m hkind himp => ⟨fun hkey => congrArg Host.Outcome.next ?_, fun key hkey => congrArg Host.Outcome.next ?_⟩⟩
    · exact hset.trans ((if_pos hkind).trans (if_neg (by rcases hplain with h | h <;> simp [h])))
    · exact hset.trans ((if_pos hkind).trans (if_pos (by simp [hplain, htdi])))
    · rw [hset, if_neg hkind, himp]
      rfl
    · rw [hset, if_neg hkind, himp, Option.map_some, hkey]
      rfl
    · rw [hset, if_neg hkind, himp, Option.map_some, hkey]
      rfl
  case retire =>
    rw [exec_jobKeyRetire_of_mayRun h]
    obtain rfl := cmd_id h.1
    refine ⟨fun hfab => ⟨fun hmgmt => congrArg Host.Outcome.next (jobKeyRetire_of_noMgmt hfab hmgmt),
      fun hmgmt huse => congrArg Host.Outcome.next (jobKeyRetire_of_inUse hfab hmgmt huse),
      fun hmgmt huse hhas => ?full, fun hmgmt huse hhas => ?none⟩,
      fun hjob => ⟨fun hact hret => congrArg Host.Outcome.next (jobKeyRetire_of_empty hjob hact hret),
        fun hheld habort => congrArg Host.Outcome.next (jobKeyRetire_of_held hjob hheld habort)⟩⟩
    case full => rw [jobKeyRetire_of_fabric hfab hmgmt huse, if_pos hhas]
    case none => rw [jobKeyRetire_of_fabric hfab hmgmt huse, if_neg (ne_true_of_eq_false hhas)]
  case emptied =>
    rw [exec_keySlotEmptied_of_retiring hx hi hret]
    exact ⟨fun hfree => congrArg Host.Outcome.next (if_pos hfree),
      fun hfree => congrArg Host.Outcome.next (if_neg (ne_true_of_eq_false hfree))⟩

end Sys2Proof.Machine
end

section
/-! SUPPORT. Procedures of the mailbox channels (R425 to R429, R440, R445, R457, R493, R525). -/

namespace Sys2Proof.Machine

section
variable {s : State} {ch p : Nat}

/-! ### Requests that R445 accepts -/

theorem procedure_of_asked (h : s.asked ch p = true) (f : Chan → State → State) : s.procedure ch p f = f (s.chan ch) s := if_pos h

theorem procedure_of_unasked (h : s.asked ch p = false) (f : Chan → State → State) : s.procedure ch p f = s := if_neg (ne_true_of_eq_false h)

/-- A procedure of a context's channel. -/
theorem context_procedure (hch : ch < 64) (h : s.asked ch p = true) (f : Chan → State → State) :
    (if ch < 64 then s.procedure ch p f else s) = f (s.chan ch) s :=
  (if_pos hch).trans (procedure_of_asked h f)

theorem context_unasked (h : s.asked ch p = false) (f : Chan → State → State) : (if ch < 64 then s.procedure ch p f else s) = s := by
  rw [procedure_of_unasked h, ite_self]

/-- A procedure of a secure channel. -/
theorem secure_procedure (hch : 64 ≤ ch) (h : s.asked ch p = true) (f : Chan → State → State) :
    (if 64 ≤ ch then s.procedure ch p f else s) = f (s.chan ch) s :=
  (if_pos hch).trans (procedure_of_asked h f)

/-! ### Procedures of the contexts' channels (R493) -/

theorem resetCause_of_working (h : s.on .CTL_RST_CAUSE_FAILED = false) : resetCause ch s = s.reply ch .ok 0 44
    (packBytes [(0, s.rd .CTL_RST_CAUSE_LAST), (1, 0), (4, s.rd .CTL_RST_CAUSE_WARMS), (8, s.rd .CTL_RST_CAUSE_SOFTS),
      (12, s.boot.resetAt % 2 ^ 64)]) := by
  simp only [resetCause, h, Bool.false_eq_true, if_false]
  rfl

/-! ### FW_STAGE (R429, R445, R525) -/

/-- The bytes that the stage holds of the copy that the chunk names. -/
def State.staged (s : State) (c : Chan) : Nat :=
  match s.sec.stage with
  | some g => if g.copy = c.byte 4 && g.total = c.num 12 4 then g.len else 0
  | none => 0

/-- The state that has written the chunk to its copy. -/
def State.writeChunk (s : State) (c : Chan) : State := s.emit (.nor (c.byte 4) (c.num 8 4) (c.len - 16) (tileField c.req 16 (c.len - 16)))

section
variable {c : Chan} {good : Bool} (hcopy : s.on .SEC_BOOT_STS_RECOVERY = true ∨ c.byte 4 ≠ s.rd .SEC_BOOT_STS_COPY)
  (hspi : s.on .CTL_PIN_STS_SPI_GNT = false)
include hcopy hspi

theorem fwStage_of_free : fwStage ch good c s =
    if c.num 8 4 != s.staged c || decide (c.num 8 4 + (c.len - 16) > c.num 12 4) then
      (s.setSec { s.sec with stage := none }).reply ch .reservedNonzero 8 0 0
    else
      let u := s.writeChunk c
      if bitAt (c.byte 5) 0 then
        let v := u.setSec { u.sec with stage := none }
        if good && decide (c.num 8 4 + (c.len - 16) = c.num 12 4) then v.reply ch .ok 0 0 0
        else (v.emit (.nor (c.byte 4) 0 0 0)).reply ch .authFail 2 0 0
      else (u.setSec { u.sec with stage := some ⟨c.byte 4, c.num 12 4, c.num 8 4 + (c.len - 16)⟩ }).reply ch .ok 0 0 0 := by
  have hown : ¬((!s.on .SEC_BOOT_STS_RECOVERY && decide (c.byte 4 = s.rd .SEC_BOOT_STS_COPY)) = true) := by
    rcases hcopy with h | h <;> simp [h]
  exact (if_neg hown).trans (if_neg (ne_true_of_eq_false hspi))

theorem fwStage_of_gap (hoff : c.num 8 4 ≠ s.staged c) :
    fwStage ch good c s = (s.setSec { s.sec with stage := none }).reply ch .reservedNonzero 8 0 0 :=
  (fwStage_of_free hcopy hspi).trans (if_pos (by simp [hoff]))

variable (hoff : c.num 8 4 = s.staged c) (hfits : c.num 8 4 + (c.len - 16) ≤ c.num 12 4)
include hoff hfits

theorem fwStage_in_order : fwStage ch good c s =
    (let u := s.writeChunk c
     if bitAt (c.byte 5) 0 then
       let v := u.setSec { u.sec with stage := none }
       if good && decide (c.num 8 4 + (c.len - 16) = c.num 12 4) then v.reply ch .ok 0 0 0
       else (v.emit (.nor (c.byte 4) 0 0 0)).reply ch .authFail 2 0 0
     else (u.setSec { u.sec with stage := some ⟨c.byte 4, c.num 12 4, c.num 8 4 + (c.len - 16)⟩ }).reply ch .ok 0 0 0) := by
  have hnext : ¬((c.num 8 4 != s.staged c || decide (c.num 8 4 + (c.len - 16) > c.num 12 4)) = true) := by
    rw [← hoff]
    simp [hfits]
  exact (fwStage_of_free hcopy hspi).trans (if_neg hnext)

theorem fwStage_of_chunk (hlast : bitAt (c.byte 5) 0 = false) : fwStage ch good c s =
    ((s.writeChunk c).setSec { (s.writeChunk c).sec with stage := some ⟨c.byte 4, c.num 12 4, c.num 8 4 + (c.len - 16)⟩ }).reply ch .ok 0 0 0 :=
  (fwStage_in_order hcopy hspi hoff hfits).trans (if_neg (ne_true_of_eq_false hlast))

theorem fwStage_of_good (hlast : bitAt (c.byte 5) 0 = true) (hgood : good = true) (hwhole : c.num 8 4 + (c.len - 16) = c.num 12 4) :
    fwStage ch good c s = ((s.writeChunk c).setSec { (s.writeChunk c).sec with stage := none }).reply ch .ok 0 0 0 :=
  ((fwStage_in_order hcopy hspi hoff hfits).trans (if_pos hlast)).trans (if_pos (by rw [hgood, decide_eq_true hwhole]; rfl))

theorem fwStage_of_bad (hlast : bitAt (c.byte 5) 0 = true) (hbad : good = false) : fwStage ch good c s =
    (((s.writeChunk c).setSec { (s.writeChunk c).sec with stage := none }).emit (.nor (c.byte 4) 0 0 0)).reply ch .authFail 2 0 0 :=
  ((fwStage_in_order hcopy hspi hoff hfits).trans (if_pos hlast)).trans (if_neg (by simp [hbad]))

end

/-! ### DEBUG_UNLOCK (R440) -/

section
variable {c : Chan}

theorem debugUnlock_of_nonce {good : Bool} (h : c.byte 4 = 0) : debugUnlock ch good c s =
    ((s.setSec { s.sec with nonce := some (s.free % 2 ^ 384) }).tickFree).reply ch .ok 0 48 (s.free % 2 ^ 384) :=
  if_pos h

theorem debugUnlock_of_token (h : c.byte 4 ≠ 0) (hnonce : s.sec.nonce.isSome = true) :
    debugUnlock ch true c s = (s.unlockDebug.winch s).reply ch .ok 0 0 0 :=
  (if_neg h).trans (if_pos (by rw [hnonce]; rfl))

theorem debugUnlock_of_badToken (h : c.byte 4 ≠ 0) : debugUnlock ch false c s = (s.setSec { s.sec with nonce := none }).refuseProc ch :=
  (if_neg h).trans (if_neg (by simp))

end

end

/-- Settles O47: each procedure that R445 accepts by the lemma on its answer. -/
theorem procedures : Obligations.Procedures := by
  unfold Obligations.Procedures
  refine ⟨fun ch s hch => ?context, fun ch s hch => ?secure⟩
  case context =>
    refine ⟨fun hask => congrArg Host.Outcome.next (context_procedure hch hask _), fun hask => congrArg Host.Outcome.next (context_procedure hch hask _),
      fun hask => congrArg Host.Outcome.next (context_procedure hch hask _), fun hask hok => congrArg Host.Outcome.next ?_,
      fun hinfo hecho => ⟨congrArg Host.Outcome.next (context_unasked hinfo _), congrArg Host.Outcome.next (context_unasked hecho _)⟩⟩
    exact (context_procedure hch hask _).trans (resetCause_of_working hok)
  case secure =>
    intro c refuse
    refine ⟨fun hask => ?svn, fun hask good hcopy hspi => ?stage, fun hask => ?importKey, fun hask => ?fabricKey, fun hask => ?owner, fun hask => ?unlock,
      fun hask => congrArg Host.Outcome.next (secure_procedure hch hask _)⟩
    case svn =>
      have hproc := secure_procedure hch hask
      exact ⟨fun h => congrArg Host.Outcome.next ((hproc _).trans (if_pos h)),
        fun h => congrArg Host.Outcome.next ((hproc _).trans (if_neg (ne_true_of_eq_false h)))⟩
    case stage =>
      have hproc := secure_procedure hch hask
      exact ⟨fun hoff => congrArg Host.Outcome.next ((hproc _).trans (fwStage_of_gap hcopy hspi hoff)),
        fun hoff hfits hlast => congrArg Host.Outcome.next ((hproc _).trans (fwStage_of_chunk hcopy hspi hoff hfits hlast)),
        fun hoff hfits hlast hgood hwhole => congrArg Host.Outcome.next ((hproc _).trans (fwStage_of_good hcopy hspi hoff hfits hlast hgood hwhole)),
        fun hoff hfits hlast hbad => congrArg Host.Outcome.next ((hproc _).trans (fwStage_of_bad hcopy hspi hoff hfits hlast hbad))⟩
    case importKey =>
      have hproc := secure_procedure hch hask
      exact ⟨fun h => congrArg Host.Outcome.next ((hproc _).trans (if_pos h)),
        fun h => congrArg Host.Outcome.next ((hproc _).trans (if_neg (ne_true_of_eq_false h)))⟩
    case fabricKey =>
      have hproc := secure_procedure hch hask
      exact ⟨fun h => congrArg Host.Outcome.next ((hproc _).trans (if_pos h)),
        fun h => congrArg Host.Outcome.next ((hproc _).trans (if_neg (ne_true_of_eq_false h)))⟩
    case owner =>
      have hproc := secure_procedure hch hask
      exact ⟨fun h => congrArg Host.Outcome.next ((hproc _).trans (if_pos (by rw [h]; rfl))),
        congrArg Host.Outcome.next ((hproc _).trans (if_neg (by simp)))⟩
    case unlock =>
      have hproc := secure_procedure hch hask
      exact ⟨fun good h => congrArg Host.Outcome.next ((hproc _).trans (debugUnlock_of_nonce h)),
        fun h hnonce => congrArg Host.Outcome.next ((hproc _).trans (debugUnlock_of_token h hnonce)),
        fun h => congrArg Host.Outcome.next ((hproc _).trans (debugUnlock_of_badToken h))⟩

end Sys2Proof.Machine
end

section
/-! SUPPORT. Mailbox conversations and doorbell words (R428, R438, R441 to R446, R449 to R451), event rings and fault rings (R448, R452, R454,
R455, R541). -/

namespace Sys2Proof.Machine

/-! ### Seals (R441, R442, R446) -/

section
variable {s : State} {port ch v : Nat}

theorem seal_of_free {path : Nat} (hbusy : s.chanBusy ch = false) (hfull : s.chanFull ch = false) (hlen : bitsOf v 11 0 ≠ 0)
    (hmax : bitsOf v 11 0 ≤ 1024) : s.seal ch path v =
      (let u := s.setChan ch { s.chan ch with len := bitsOf v 11 0, token := bitsOf v 23 16, path := path, ans := none }
       ((if ch < 64 then u else u.wr .MBX_S_STS_PATH (ch - 64) 0 path).setBusy ch true).bump .MBX_CNT_COUNT 0 0 1) :=
  if_neg (by simp [hbusy, hfull, hlen, hmax])

theorem seal_of_held {path : Nat} (h : s.chanBusy ch = true ∨ s.chanFull ch = true ∨ bitsOf v 11 0 = 0 ∨ 1024 < bitsOf v 11 0) :
    s.seal ch path v = (s.setReject ch).bump .MBX_CNT_COUNT 1 0 1 :=
  if_pos (by simpa [or_assoc] using h)

theorem exec_htiWMbreqSeal_of_context (hport : port < 4) (hch : ch < 64) (hopen : s.windowOpen port ch = true) :
    exec (.htiWMbreqSeal port ch v) s = .next (s.seal ch 0 v) := by
  have hrow : (decide (port < 4) && decide (ch < 72)) = true := by simp [hport, hch.trans (by decide : 64 < 72)]
  exact congrArg Host.Outcome.next ((if_pos hrow).trans ((if_pos hch).trans (window_of_open hopen 0x2000 _)))

/-- The seal of a secure channel, on a path of R428 or on another. -/
theorem exec_htiWMbreqSeal_of_secure (hport : port < 4) (hsec : 64 ≤ ch) (hch : ch < 72) (hon : s.blkOn .MBX = true) :
    exec (.htiWMbreqSeal port ch v) s = .next
      (if s.secureOk port ((s.chan ch).byte 0) then s.seal ch 0 v else s.refusePath port (0x510000 + 0x2000 * (ch - 64))) := by
  have hrow : (decide (port < 4) && decide (ch < 72)) = true := by simp [hport, hch]
  exact congrArg Host.Outcome.next ((if_pos hrow).trans ((if_neg (Nat.not_lt.mpr hsec)).trans (hostWrite_of_on hon _)))

end

section
variable {k v data : Nat} {s : State}

theorem exec_mctpSecureMessage_of_on (hk : k < 8) (hon : s.spdmOn 2 = true) : exec (.mctpSecureMessage k v data) s = .next
    (if !s.secureOk 4 (data % 256) then s.bump .SEC_CNT_COUNT 11 0 1
     else if s.chanBusy (64 + k) || s.chanFull (64 + k) || decide (bitsOf v 11 0 = 0) || decide (bitsOf v 11 0 > 1024) then s.seal (64 + k) 1 v
     else (s.setChan (64 + k) { s.chan (64 + k) with
       req := data % 2 ^ (8 * bitsOf v 11 0) + (s.chan (64 + k)).req / 2 ^ (8 * bitsOf v 11 0) * 2 ^ (8 * bitsOf v 11 0) }).seal (64 + k) 1 v) := by
  have hspdm : ¬((!s.spdmOn 2) = true) := by simp [hon]
  exact congrArg Host.Outcome.next ((if_pos hk).trans (if_neg hspdm))

end

/-! ### Answers (R443 to R445) -/

theorem chan_setChan_same (s : State) (ch : Nat) (c : Chan) : (s.setChan ch c).chan ch = c := by
  simp only [State.chan, State.setChan, State.setMbx, Map.find_put_same, Option.getD_some]

/-- The channel `c` without its request, and the answer in its response buffer. -/
def State.storeAnswer (s : State) (ch : Nat) (c : Chan) (n d : Nat) : State :=
  s.setChan ch { c with len := 0, ans := none, rsp := d % 2 ^ (8 * n) + c.rsp / 2 ^ (8 * n) * 2 ^ (8 * n) }

/-- The answer goes to the channel, with FULL set, or out over MCTP. -/
def State.sendAnswer (s : State) (ch : Nat) (c : Chan) (n d : Nat) : State :=
  let mctp := decide (c.path = 1) && decide (64 ≤ ch)
  let u := ((s.storeAnswer ch c n d).setRsp ch (!mctp) n c.token).setBusy ch false
  let v := if mctp then u.emit (.answer 4 (ch - 64) n d) else if ch < 64 then u.signal ch 0 else u
  if decide (64 ≤ ch) && decide (c.byte 0 = 7) && decide (d % 2 ^ 16 = 0) then v.warm 4 else v

section
variable {s : State} {ch n d : Nat} {c : Chan}

theorem sendAnswer_of_context (hch : ch < 64) :
    s.sendAnswer ch c n d = (((s.storeAnswer ch c n d).setRsp ch true n c.token).setBusy ch false).signal ch 0 := by
  simp only [State.sendAnswer, Nat.not_le.mpr hch, hch, decide_false, Bool.and_false, Bool.false_and, Bool.not_false, Bool.false_eq_true, if_false,
    if_true]

theorem sendAnswer_of_bus (hsec : 64 ≤ ch) (hpath : c.path ≠ 1) (hproc : c.byte 0 ≠ 7) :
    s.sendAnswer ch c n d = ((s.storeAnswer ch c n d).setRsp ch true n c.token).setBusy ch false := by
  simp only [State.sendAnswer, Nat.not_lt.mpr hsec, hpath, hproc, decide_false, Bool.and_false, Bool.false_and, Bool.not_false, Bool.false_eq_true,
    if_false]

/-- The answer of a secure channel over MCTP, before the WARM of ZEROIZE. -/
def State.mctpAnswer (s : State) (ch : Nat) (c : Chan) (n d : Nat) : State :=
  (((s.storeAnswer ch c n d).setRsp ch false n c.token).setBusy ch false).emit (.answer 4 (ch - 64) n d)

theorem sendAnswer_of_mctp (hsec : 64 ≤ ch) (hpath : c.path = 1) :
    s.sendAnswer ch c n d = if decide (c.byte 0 = 7) && decide (d % 2 ^ 16 = 0) then (s.mctpAnswer ch c n d).warm 4 else s.mctpAnswer ch c n d := by
  simp only [State.sendAnswer, State.mctpAnswer, hsec, hpath, decide_true, Bool.true_and, Bool.not_true, if_true]

theorem responseReady_of_answer (h : (s.chan ch).ans = some (n, d)) : responseReady ch s = s.sendAnswer ch (s.chan ch) n d := by
  simp only [responseReady, h, Option.isNone_some, Bool.false_eq_true, if_false]
  rfl

theorem responseReady_of_waiting (h : (s.chan ch).ans = none) (hok : s.reqFault ch = none) : responseReady ch s = s := by
  simp only [responseReady, h, hok, Option.isNone_none, if_true]

/-- A request that R445 turns away is answered by its status alone. -/
theorem responseReady_of_fault {st : Status} {cause : Nat} (h : (s.chan ch).ans = none) (hbad : s.reqFault ch = some (st, cause)) :
    responseReady ch s = (s.reply ch st cause 0 0).sendAnswer ch (s.chan ch) (4 + 0)
      (st.code + cause % 2 ^ 16 * 2 ^ 16 + 0 % 2 ^ (8 * 0) * 2 ^ 32) := by
  have hans : ((s.reply ch st cause 0 0).chan ch).ans = some (4 + 0, st.code + cause % 2 ^ 16 * 2 ^ 16 + 0 % 2 ^ (8 * 0) * 2 ^ 32) :=
    congrArg Chan.ans (chan_setChan_same s ch _)
  simp only [responseReady, h, hbad, hans, Option.isNone_none, if_true]
  rfl

theorem exec_mailboxResponseReady_of_sealed (hch : ch < 72) (hlen : (s.chan ch).len ≠ 0) :
    exec (.mailboxResponseReady ch) s = .next (responseReady ch s) :=
  congrArg Host.Outcome.next (if_pos (by simp [hch, hlen]))

end

/-! ### Reads of the response seal (R443) -/

section
variable {s : State} {port ch : Nat}

theorem exec_htiWMbrspRead_of_context (hport : port < 4) (hch : ch < 64) :
    exec (.htiWMbrspRead port ch) s = .next (s.windowRead port ch 0x2008 4 fun s => s.readSeal ch) := by
  have hrow : (decide (port < 4) && decide (ch < 72)) = true := by simp [hport, hch.trans (by decide : 64 < 72)]
  exact congrArg Host.Outcome.next ((if_pos hrow).trans (if_pos hch))

theorem windowRead_of_open {off bytes : Nat} {f : State → State × Nat} (hon : s.blkOn .HTIW = true) (hport : s.port ch = port % 2)
    (htdi : s.rd .SEC_CTX_TDI ch ≠ 3) : s.windowRead port ch off bytes f = (f s).1.emit (.busRead (f s).2) :=
  ((if_neg (by simp [hon])).trans (if_neg (by simp [hport]))).trans (if_neg (by simp [htdi]))

theorem windowRead_of_other {off bytes : Nat} {f : State → State × Nat} (hon : s.blkOn .HTIW = true) (hport : s.port ch ≠ port % 2) :
    s.windowRead port ch off bytes f = (s.errlog kWrongPort ch (port % 2) 2 off).emit (.busRead (2 ^ (8 * bytes) - 1)) :=
  (if_neg (by simp [hon])).trans (if_pos (by simp [hport]))

theorem readSeal_of_context (hch : ch < 64) : s.readSeal ch = (s.wr .HTI_W_MBRSP_FULL ch 0 0, s.rspWord ch) := by
  simp only [State.readSeal, hch, if_true]

theorem readSeal_of_secure (hsec : 64 ≤ ch) : s.readSeal ch = (s.wr .MBX_S_RSP_FULL (ch - 64) 0 0, s.rspWord ch) := by
  simp only [State.readSeal, Nat.not_lt.mpr hsec, if_false]

theorem exec_htiWMbrspRead_of_secure (hport : port < 4) (hsec : 64 ≤ ch) (hch : ch < 72) (hon : s.blkOn .MBX = true) :
    exec (.htiWMbrspRead port ch) s = .next
      (if s.securePath port then (s.readSeal ch).1.emit (.busRead (s.readSeal ch).2) else (s.bump .SEC_CNT_COUNT 11 0 1).emit (.busRead 0)) := by
  have hrow : (decide (port < 4) && decide (ch < 72)) = true := by simp [hport, hch]
  have hblk : ¬((!s.blkOn .MBX) = true) := by simp [hon]
  exact congrArg Host.Outcome.next ((if_pos hrow).trans ((if_neg (Nat.not_lt.mpr hsec)).trans (if_neg hblk)))

/-! ### Doorbell words (R449 to R451) -/

theorem exec_mbxSumAck_of_on {p v : Nat} (hp : p < 2) (hon : s.blkOn .MBX = true) :
    exec (.mbxSumAck p v) s = .next (sumAck p v (s.latched (Fld.bar0 .MBX_SUM_BITS p 0) v)) :=
  congrArg Host.Outcome.next ((if_pos hp).trans (hostWrite64_of_on (r := .MBX_SUM_BITS) p v _ hon))

/-- The doorbell word of port `p` was written: its interrupt goes out. -/
def State.wordWritten (s : State) (p : Nat) : State :=
  let u := s.setMbx { s.mbx with sumBusy := setBitN s.mbx.sumBusy p false, sumPend := setBitN s.mbx.sumPend p false }
  (u.bump .MBX_CNT_COUNT 2 0 1).emit (.irq p none (u.rd .MBX_PORT_CFG_SUM_VEC p))

theorem wordDone_of_idle {p : Nat} (h : bitAt s.mbx.sumBusy p = false) : wordDone p s = s := if_pos (by rw [h]; rfl)

theorem wordFail_of_idle {p : Nat} (h : bitAt s.mbx.sumBusy p = false) : wordFail p s = s := if_pos (by rw [h]; rfl)

theorem wordDone_of_busy {p : Nat} (h : bitAt s.mbx.sumBusy p = true) :
    wordDone p s = if bitAt s.mbx.sumPend p then (s.wordWritten p).sumWrite p else s.wordWritten p :=
  if_neg (by rw [h]; decide)

theorem wordFail_of_busy {p : Nat} (h : bitAt s.mbx.sumBusy p = true) : wordFail p s =
    ((s.setMbx { s.mbx with sumBusy := setBitN s.mbx.sumBusy p false }).wr (if p = 0 then .MBX_MODE_SUM_FAIL0 else .MBX_MODE_SUM_FAIL1) 0 0 1).refreshMode
      p :=
  if_neg (by rw [h]; decide)

end

/-- Settles O48: each message, answer, read and doorbell word by the lemma on its meaning. -/
theorem conversations : Obligations.Conversations := by
  unfold Obligations.Conversations
  refine ⟨fun port ch v s hport hch hopen => ?context, fun port ch v s hport hsec hch hon => ?secure, fun ch s hch hlen => ?answer,
    fun port ch s hport hch hon => ?read, fun port ch s hport hsec hch hon => ?secureRead, fun k v data s hk hon => ?mctp,
    fun p v s hp hon => exec_mbxSumAck_of_on hp hon, fun p s hp => ?word⟩
  case context =>
    rw [exec_htiWMbreqSeal_of_context hport hch hopen]
    refine ⟨fun hbusy hfull hlen hmax => congrArg Host.Outcome.next ((seal_of_free hbusy hfull hlen hmax).trans ?_),
      fun h => congrArg Host.Outcome.next (seal_of_held h)⟩
    simp only [hch, if_true]
  case secure =>
    rw [exec_htiWMbreqSeal_of_secure hport hsec hch hon]
    exact ⟨fun h => congrArg Host.Outcome.next (if_pos h), fun h => congrArg Host.Outcome.next (if_neg (ne_true_of_eq_false h))⟩
  case answer =>
    rw [exec_mailboxResponseReady_of_sealed hch hlen]
    refine ⟨fun hans hok => congrArg Host.Outcome.next (responseReady_of_waiting hans hok), fun n d hans => ?_, fun st cause hans hbad hctx => ?_⟩
    · rw [responseReady_of_answer hans]
      refine ⟨fun hctx => congrArg Host.Outcome.next (sendAnswer_of_context hctx),
        fun hsec hpath hproc => congrArg Host.Outcome.next (sendAnswer_of_bus hsec hpath hproc),
        fun hsec hpath hproc => congrArg Host.Outcome.next ((sendAnswer_of_mctp hsec hpath).trans (if_neg ?_)),
        fun hsec hpath hproc hst => congrArg Host.Outcome.next ((sendAnswer_of_mctp hsec hpath).trans (if_pos ?_))⟩
      · simp [hproc]
      · rw [decide_eq_true hproc, decide_eq_true hst]
        rfl
    · rw [responseReady_of_fault hans hbad]
      exact congrArg Host.Outcome.next (sendAnswer_of_context hctx)
  case read =>
    rw [exec_htiWMbrspRead_of_context hport hch]
    refine ⟨fun hown htdi => congrArg Host.Outcome.next ?_, fun hother => congrArg Host.Outcome.next (windowRead_of_other hon hother)⟩
    rw [windowRead_of_open hon hown htdi, readSeal_of_context hch]
  case secureRead =>
    rw [exec_htiWMbrspRead_of_secure hport hsec hch hon, readSeal_of_secure hsec]
    exact ⟨fun h => congrArg Host.Outcome.next (if_pos h), fun h => congrArg Host.Outcome.next (if_neg (ne_true_of_eq_false h))⟩
  case mctp =>
    rw [exec_mctpSecureMessage_of_on hk hon]
    refine ⟨fun hpath => congrArg Host.Outcome.next (if_pos (by rw [hpath]; rfl)), fun hpath hbusy => congrArg Host.Outcome.next ?_,
      fun hpath hbusy hfull hlen hmax => congrArg Host.Outcome.next ?_⟩
    · exact (if_neg (by rw [hpath]; decide)).trans (if_pos (by rw [hbusy]; rfl))
    · exact (if_neg (by rw [hpath]; decide)).trans (if_neg (by simp [hbusy, hfull, hlen, hmax]))
  case word =>
    have hdone : exec (.doorbellWordWriteDone p) s = .next (wordDone p s) := congrArg Host.Outcome.next (if_pos hp)
    have hfail : exec (.doorbellWordWriteFail p) s = .next (wordFail p s) := congrArg Host.Outcome.next (if_pos hp)
    rw [hdone, hfail]
    exact ⟨fun h => ⟨congrArg Host.Outcome.next (wordDone_of_idle h), congrArg Host.Outcome.next (wordFail_of_idle h)⟩,
      fun h => ⟨fun hpend => congrArg Host.Outcome.next ((wordDone_of_busy h).trans (if_neg (ne_true_of_eq_false hpend))),
        fun hpend => congrArg Host.Outcome.next ((wordDone_of_busy h).trans (if_pos hpend)), congrArg Host.Outcome.next (wordFail_of_busy h)⟩⟩

/-! ### Event rings (R452, R454, R541) -/

section
variable {port c v : Nat} {s : State}

/-- A register of an open window of its context. -/
theorem window_row {off : Nat} {f : State → State} (hc : c < 64) (hopen : s.windowOpen port c = true) :
    (if c < 64 then s.window port c off f else s) = f s :=
  (if_pos hc).trans (window_of_open hopen off f)

theorem exec_htiWEvtEnable_of_open (hc : c < 64) (hopen : s.windowOpen port c = true) (hen : bitAt v 4 = true) :
    exec (.htiWEvtEnable port c v) s = .next (evtEnable c v s) :=
  congrArg Host.Outcome.next ((if_pos (by simp [hc, hen])).trans (window_of_open hopen 0x2028 _))

theorem exec_htiWEvtDisable_of_open (hc : c < 64) (hopen : s.windowOpen port c = true) (hen : bitAt v 4 = false) :
    exec (.htiWEvtDisable port c v) s = .next (evtDisable c v s) :=
  congrArg Host.Outcome.next ((if_pos (by simp [hc, hen])).trans (window_of_open hopen 0x2028 _))

theorem evtEnable_of_on (h : s.on .HTI_W_EVT_CFG_EN c = true) : evtEnable c v s =
    if fieldOf .HTI_W_EVT_CFG_LOG v != s.rd .HTI_W_EVT_CFG_LOG c then s.errlog kQueueBusy c (s.port c) 2 0x2028 else s :=
  if_pos h

section
variable (h : s.on .HTI_W_EVT_CFG_EN c = false)
include h

/-- The ring's depth and EN, as written. -/
def State.writeEvtCfg (s : State) (c v : Nat) : State :=
  (s.wr .HTI_W_EVT_CFG_LOG c 0 (fieldOf .HTI_W_EVT_CFG_LOG v)).wr .HTI_W_EVT_CFG_EN c 0 1

theorem evtEnable_of_badDepth (hlog : fieldOf .HTI_W_EVT_CFG_LOG v < 4 ∨ 12 < fieldOf .HTI_W_EVT_CFG_LOG v) :
    evtEnable c v s = (s.writeEvtCfg c v).wr .HTI_W_EVT_CFG_FAULT c 0 1 :=
  (if_neg (ne_true_of_eq_false h)).trans (if_pos (by simpa using hlog))

theorem evtEnable_of_depth (hlow : 4 ≤ fieldOf .HTI_W_EVT_CFG_LOG v) (hhigh : fieldOf .HTI_W_EVT_CFG_LOG v ≤ 12) : evtEnable c v s =
    (let u := s.writeEvtCfg c v
     let e := u.setEvt c { u.evt c with
       on := true, log := fieldOf .HTI_W_EVT_CFG_LOG v, base := u.rd .HTI_W_EVT_BASE_BASE c * 4096, phase := true, last := none }
     ((e.wr .HTI_W_EVT_IDX_HEAD c 0 0).wr .HTI_W_EVT_IDX_TAIL c 0 0).drainAll c) :=
  (if_neg (ne_true_of_eq_false h)).trans (if_neg (by simp [hlow, hhigh]))

end

/-- A HEAD write that is dropped: logged and counted. -/
def State.dropEvtHead (s : State) (c kind : Nat) : State := (s.errlog kind c (s.port c) 2 0x2030).bump .HTI_CNT_COUNT c 5 1

theorem evtHead_of_off (h : (s.evt c).on = false) : evtHead c v s = s.dropEvtHead c kDbClosed := if_pos (by rw [h]; rfl)

section
variable (h : (s.evt c).on = true)
include h

/-- The distance of an index of the ring behind HEAD. -/
def State.afterHead (s : State) (c i : Nat) : Nat := (i + 2 ^ (s.evt c).log - s.rd .HTI_W_EVT_IDX_HEAD c) % 2 ^ (s.evt c).log

theorem evtHead_of_range (hbad : 2 ^ (s.evt c).log ≤ fieldOf .HTI_W_EVT_IDX_HEAD v ∨
    s.afterHead c (s.rd .HTI_W_EVT_IDX_TAIL c) < s.afterHead c (fieldOf .HTI_W_EVT_IDX_HEAD v)) : evtHead c v s = s.dropEvtHead c kDbRange := by
  refine (if_neg (by simp [h])).trans (if_pos ?_)
  simpa [State.afterHead] using hbad

theorem evtHead_of_taken (hin : fieldOf .HTI_W_EVT_IDX_HEAD v < 2 ^ (s.evt c).log)
    (hbehind : s.afterHead c (fieldOf .HTI_W_EVT_IDX_HEAD v) ≤ s.afterHead c (s.rd .HTI_W_EVT_IDX_TAIL c)) : evtHead c v s =
      (let u := s.wr .HTI_W_EVT_IDX_HEAD c 0 (fieldOf .HTI_W_EVT_IDX_HEAD v)
       (if fieldOf .HTI_W_EVT_IDX_HEAD v = s.rd .HTI_W_EVT_IDX_TAIL c then u else u.signal c 1).drainAll c) := by
  refine (if_neg (by simp [h])).trans (if_neg ?_)
  simpa [State.afterHead, hin] using hbehind

end

theorem evtFail_of_none (h : (s.evt c).last = none) : evtFail c s = s := by
  simp only [evtFail, h]

theorem evtFail_of_last {r : EvtRec} {d : Nat} (h : (s.evt c).last = some (r, d)) (hon : (s.evt c).on = true) : evtFail c s =
    (let n := 2 ^ (s.evt c).log
     let u := s.wr .HTI_W_EVT_IDX_TAIL c 0 ((s.rd .HTI_W_EVT_IDX_TAIL c + n - 1) % n)
     let v := u.setEvt c { s.evt c with backlog := r :: (s.evt c).backlog, dropped := (s.evt c).dropped + d }
     (v.evtOff c).wr .HTI_W_EVT_CFG_FAULT c 0 1) := by
  simp only [evtFail, h, hon, Bool.not_true, Bool.false_eq_true, if_false]

end

/-- Settles O49: each write of a ring's registers, and a record that could not be written, by the lemma on its meaning. -/
theorem eventRings : Obligations.EventRings := by
  unfold Obligations.EventRings
  refine ⟨fun port c v s hc hopen hen => ?enable, fun port c v s hc hopen hen => exec_htiWEvtDisable_of_open hc hopen hen,
    fun port c v s hc hopen => ?head, fun c s hc => ?failed, fun port c v s hc hopen => ?fault⟩
  case enable =>
    rw [exec_htiWEvtEnable_of_open hc hopen hen]
    intro log u
    exact ⟨fun hon hlog => congrArg Host.Outcome.next ((evtEnable_of_on hon).trans (if_neg (by simpa using hlog))),
      fun hon hlog => congrArg Host.Outcome.next ((evtEnable_of_on hon).trans (if_pos (bne_iff_ne.mpr hlog))),
      fun hoff hlog => congrArg Host.Outcome.next (evtEnable_of_badDepth hoff hlog),
      fun hoff hlow hhigh => congrArg Host.Outcome.next (evtEnable_of_depth hoff hlow hhigh)⟩
  case head =>
    have hexec : exec (.htiWEvtHeadWrite port c v) s = .next (evtHead c v s) := congrArg Host.Outcome.next (window_row hc hopen)
    rw [hexec]
    refine ⟨fun hoff => congrArg Host.Outcome.next (evtHead_of_off hoff), fun hon hbad => congrArg Host.Outcome.next (evtHead_of_range hon hbad),
      fun hon hin hbehind => ?_⟩
    rw [evtHead_of_taken hon hin hbehind]
    exact ⟨fun hlast => congrArg (fun x : State => Host.Outcome.next (x.drainAll c)) (if_pos hlast),
      fun hmore => congrArg (fun x : State => Host.Outcome.next (x.drainAll c)) (if_neg hmore)⟩
  case failed =>
    have hexec : exec (.eventRecordWriteFail c) s = .next (evtFail c s) := congrArg Host.Outcome.next (if_pos hc)
    rw [hexec]
    exact ⟨fun hnone => congrArg Host.Outcome.next (evtFail_of_none hnone),
      fun r d hlast hon => congrArg Host.Outcome.next (evtFail_of_last hlast hon)⟩
  case fault =>
    have hexec : exec (.htiWFltHeadWrite port c v) s = .next (fltHead c v s) := congrArg Host.Outcome.next (window_row hc hopen)
    rw [hexec]
    exact ⟨fun hlast => congrArg Host.Outcome.next (if_pos hlast), fun hmore => congrArg Host.Outcome.next (if_neg hmore)⟩

end Sys2Proof.Machine
end

section
/-! SUPPORT. From 50 V to ready, and the settings store (R424 to R427, R460 to R464, R468, R470, R471). -/

namespace Sys2Proof.Machine

section
variable {s : State}

/-! ### Power, POR and the boot ROM (R462 steps 1 to 4) -/

theorem powerUp_of_off (h : s.boot.stage = .off) : powerUp s = s.setBoot { s.boot with stage := .rails } := if_pos h

theorem powerUp_of_other (h : s.boot.stage ≠ .off) : powerUp s = s := if_neg h

/-- The release of POR: time starts at 0, the boot ROM runs, and the pins are shown as they stand. -/
def State.startRom (s : State) (cables flash : Nat) (perst spi : Bool) : State :=
  let a := (s.wr .HTI_TIME_COUNT 0 0 0).wr .CTL_RT_TIME_COUNT 0 0 0
  let b := ((a.setBoot { a.boot with stage := .rom, resetAt := 0 }).nextBootgen []).fabricBoot
  let d := (List.range 8).foldl (fun s n => s.wr .RING_PORT_STS_PRESENT n 0 (b2n (bitAt cables n))) b
  let e := ((d.wr .CTL_PIN_STS_PERST 0 0 (b2n perst)).wr .CTL_PIN_STS_SPI_REQ 0 0 (b2n spi)).wr .CTL_PIN_STS_FLASH_PRSNT 0 0 flash
  (e.wr .CTL_PIN_STS_FLASH_PERST 0 0 255).wr .CTL_PIN_STS_POOL_PERST 0 0 15

theorem porRelease_of_rails {cables flash : Nat} {perst spi : Bool} (h : s.boot.stage = .rails) :
    porRelease cables flash perst spi s = s.startRom cables flash perst spi :=
  if_neg (by simp [h])

theorem porRelease_of_other {cables flash : Nat} {perst spi : Bool} (h : s.boot.stage ≠ .rails) : porRelease cables flash perst spi s = s :=
  if_pos (by simp [h])

/-- The boot ROM's two results. -/
def State.showBoot (s : State) (ra rb : Nat) : State :=
  ((s.wr .SEC_ID_SERIAL 0 0 Config.serial).wr .SEC_BOOT_STS_A_RESULT 0 0 ra).wr .SEC_BOOT_STS_B_RESULT 0 0 rb

/-- The boot ROM has ended: NVM and SEC are ready, and the SPI bus may go to the board. -/
def State.romDone (s : State) : State :=
  let w := (s.wr .CTL_READY_NVM 0 0 1).wr .CTL_READY_SEC 0 0 1
  (w.setBoot { w.boot with stage := .waitPerst }).grantSpi

section
variable {a b : BootCopy} {patch : Option (Nat × Nat)} (hrom : s.boot.stage = .rom) (hspi : s.on .CTL_PIN_STS_SPI_GNT = false)
include hrom hspi

theorem bootRomVerify_of_rom : bootRomVerify a b patch s =
    (let ra := bootVerdict a (s.rd .SEC_SVN_COUNTER)
     let rb := if ra = 0 then 0 else bootVerdict b (s.rd .SEC_SVN_COUNTER)
     let v := s.showBoot ra rb
     (if ra = 0 then v.runCopy 0 a patch
      else if rb = 0 then v.runCopy 1 b patch
      else (v.wr .SEC_BOOT_STS_RECOVERY 0 0 1).setSec { v.sec with meas := Map.put v.sec.meas 1 Config.romHash }).romDone) :=
  if_neg (by simp [hrom, hspi])

theorem bootRomVerify_of_a (ha : bootVerdict a (s.rd .SEC_SVN_COUNTER) = 0) :
    bootRomVerify a b patch s = ((s.showBoot 0 0).runCopy 0 a patch).romDone := by
  rw [bootRomVerify_of_rom hrom hspi, ha]
  rfl

theorem bootRomVerify_of_b (ha : bootVerdict a (s.rd .SEC_SVN_COUNTER) ≠ 0) (hb : bootVerdict b (s.rd .SEC_SVN_COUNTER) = 0) :
    bootRomVerify a b patch s = ((s.showBoot (bootVerdict a (s.rd .SEC_SVN_COUNTER)) 0).runCopy 1 b patch).romDone := by
  rw [bootRomVerify_of_rom hrom hspi]
  simp only [ha, hb, if_false, if_true]

/-- With neither copy good the Flewick enters RECOVERY. -/
theorem bootRomVerify_of_none (ha : bootVerdict a (s.rd .SEC_SVN_COUNTER) ≠ 0) (hb : bootVerdict b (s.rd .SEC_SVN_COUNTER) ≠ 0) :
    bootRomVerify a b patch s =
      (let v := s.showBoot (bootVerdict a (s.rd .SEC_SVN_COUNTER)) (bootVerdict b (s.rd .SEC_SVN_COUNTER))
       State.romDone ((v.wr .SEC_BOOT_STS_RECOVERY 0 0 1).setSec { v.sec with meas := Map.put v.sec.meas 1 Config.romHash })) := by
  rw [bootRomVerify_of_rom hrom hspi]
  simp only [ha, hb, if_false]

end

/-! ### Step 5 (R462) -/

theorem perstDeassert_of_waiting {image : Nat} {b0 b1 : Bool} (hstage : (s.wr .CTL_PIN_STS_PERST 0 0 0).boot.stage = .waitPerst)
    (hspi : (s.wr .CTL_PIN_STS_PERST 0 0 0).on .CTL_PIN_STS_SPI_GNT = false) :
    perstDeassert image b0 b1 s = (s.wr .CTL_PIN_STS_PERST 0 0 0).stepFive image b0 b1 :=
  if_pos (by rw [decide_eq_true hstage, hspi]; rfl)

theorem perstDeassert_of_other {image : Nat} {b0 b1 : Bool} (h : (s.wr .CTL_PIN_STS_PERST 0 0 0).boot.stage ≠ .waitPerst ∨
    (s.wr .CTL_PIN_STS_PERST 0 0 0).on .CTL_PIN_STS_SPI_GNT = true) : perstDeassert image b0 b1 s = s.wr .CTL_PIN_STS_PERST 0 0 0 := by
  refine if_neg ?_
  rcases h with h | h
  · rw [decide_eq_false h]
    exact Bool.false_ne_true
  · rw [h, Bool.not_true, Bool.and_false]
    exact Bool.false_ne_true

/-! ### Steps 7 to 9 -/

section
variable {n : Nat} (hadm : s.isAdmitted .stack n = true) (hstage : s.boot.stage = .configured)
include hadm hstage

theorem stackTrained_of_failed (hfail : (s.unadmit .stack n).on .CTL_BOOT_STS_T1_FAIL = true) : stackTrained n s = s.unadmit .stack n :=
  (if_neg (by simp [hadm, hstage])).trans (if_pos hfail)

variable (hfail : (s.unadmit .stack n).on .CTL_BOOT_STS_T1_FAIL = false)
include hfail

/-- The state in which the stack has set its bit. -/
def State.stackReady (s : State) (n : Nat) : State := (s.unadmit .stack n).wrBit .CTL_READY_T1 0 n true

theorem stackTrained_of_good : stackTrained n s =
    if (s.stackReady n).rd .CTL_READY_T1 != 255 then s.stackReady n
    else State.exitDone (if (s.stackReady n).on .CTL_READY_CONTROL then s.stackReady n
      else (({ s.stackReady n with fab := { (s.stackReady n).fab with controlAt := (s.stackReady n).now } } : State).wr
        .CTL_READY_CONTROL 0 0 1).readyEngines) :=
  (if_neg (by simp [hadm, hstage])).trans (if_neg (ne_true_of_eq_false hfail))

theorem stackTrained_of_more (hmore : (s.stackReady n).rd .CTL_READY_T1 ≠ 255) : stackTrained n s = s.stackReady n :=
  (stackTrained_of_good hadm hstage hfail).trans (if_pos (bne_iff_ne.mpr hmore))

/-- The last stack makes CONTROL ready, unless it is so already (an exit from P3). -/
theorem stackTrained_of_last (hlast : (s.stackReady n).rd .CTL_READY_T1 = 255) : stackTrained n s =
    State.exitDone (if (s.stackReady n).on .CTL_READY_CONTROL then s.stackReady n
      else (({ s.stackReady n with fab := { (s.stackReady n).fab with controlAt := (s.stackReady n).now } } : State).wr
        .CTL_READY_CONTROL 0 0 1).readyEngines) :=
  (stackTrained_of_good hadm hstage hfail).trans (if_neg (by simp [hlast]))

end

theorem exec_panelTestDone_of_admitted {p : Nat} (hp : p < Config.panels) (hadm : s.isAdmitted .panel p = true)
    (hready : s.bit .CTL_READY_GORES p = false) (hstage : s.boot.stage = .configured) (pass : Bool) :
    exec (.panelTestDone p pass) s = .next
      (let u := s.unadmit .panel p
       let x := if pass then (u.wrBit .CTL_READY_GORES 0 p true).wr .GORE_PANEL_GATED p 0 0
         else (u.wr .GORE_PANEL_FAULT p 0 1).wr .RING_LED_FAULT 0 0 3
       (((x.refreshPanel p).refreshPm).winch s).checkPanels) :=
  congrArg Host.Outcome.next ((if_pos hp).trans (if_neg (by simp [hadm, hready, hstage])))

theorem t1Limit_of_ready (h : s.on .CTL_READY_CONTROL = true) : t1Limit s = s := if_pos (by simp [h])

theorem t1Limit_of_untrained (hstage : s.boot.stage = .configured) (hctl : s.on .CTL_READY_CONTROL = false) (hstacks : s.rd .CTL_READY_T1 ≠ 255)
    (hfail : s.on .CTL_BOOT_STS_T1_FAIL = false) : t1Limit s =
      (((s.wr .CTL_BOOT_STS_T1_FAIL 0 0 1).wr .CTL_BOOT_STS_T1_STACK 0 0 (((List.range 8).find? fun n => !s.bit .CTL_READY_T1 n).getD 0)).wr
        .RING_LED_FAULT 0 0 3).closeAll :=
  if_neg (by simp [hstage, hctl, hstacks, hfail])

/-! ### NVM_STORE (R470, R471) -/

/-- The other bank takes the next store and is in force. -/
theorem nvmStore_of_written {clear : Bool} {c : Cmd} : nvmStore clear true c s =
    (let commit := (if s.bank.valid then s.bank.commit else 0) + 1
     let q := s.nextStore clear c.desc
     let u := ((s.setBank (1 - s.rd .NVM_SS_STS_BANK) ⟨true, commit, q.1⟩).wr .NVM_SS_STS_BANK 0 0 (1 - s.rd .NVM_SS_STS_BANK)).showBank
     (u.bump .NVM_CNT_COUNT (b2n clear) 0 1).finish c.id .ok 0 q.2 q.1.length (commit % 2 ^ 32)) :=
  rfl

section
variable {k : Nat} {c : Cmd} (h : s.mayRun k 0x70 c) (hturn : s.nvmTurn c = true)
include h hturn

theorem exec_nvmStoreStore_of_mayRun (hop : bitsOf (Desc.flags c.desc) 9 8 = 0) (wrote : Bool) :
    exec (.nvmStoreStore k wrote) s = .next (nvmStore false wrote c (s.setPhase k .running)) :=
  congrArg Host.Outcome.next (begin_of_mayRun h (nvmStore false wrote) (decide_eq_true hop) hturn rfl)

theorem exec_nvmStoreClear_of_mayRun (hop : bitsOf (Desc.flags c.desc) 9 8 = 1) (wrote : Bool) :
    exec (.nvmStoreClear k wrote) s = .next (nvmStore true wrote c (s.setPhase k .running)) :=
  congrArg Host.Outcome.next (begin_of_mayRun h (nvmStore true wrote) (decide_eq_true hop) hturn rfl)

end

end

/-- Settles O50: each event of bring-up and NVM_STORE by the lemma on its meaning. -/
theorem bringUp : Obligations.BringUp := by
  unfold Obligations.BringUp
  refine ⟨fun dt s => ⟨fun h => congrArg Host.Outcome.next (powerUp_of_off h), fun h => congrArg Host.Outcome.next (powerUp_of_other h)⟩,
    fun dt cables flash perst spi s => ⟨fun h => congrArg Host.Outcome.next (porRelease_of_rails h),
      fun h => congrArg Host.Outcome.next (porRelease_of_other h)⟩,
    fun dt a b patch s hrom hspi => ?rom, fun dt image b0 b1 s => ?perst, fun n s hn hadm hstage => ?stack,
    fun p s hp hadm hready hstage => ⟨exec_panelTestDone_of_admitted hp hadm hready hstage true,
      exec_panelTestDone_of_admitted hp hadm hready hstage false⟩,
    fun dt s => ?limit, fun txt dec s hstage => congrArg Host.Outcome.next (if_neg (by simp [hstage])), fun k c s h hturn => ?store⟩
  case rom =>
    exact ⟨fun ha => congrArg Host.Outcome.next (bootRomVerify_of_a hrom hspi ha),
      fun ha hb => congrArg Host.Outcome.next (bootRomVerify_of_b hrom hspi ha hb),
      fun ha hb => congrArg Host.Outcome.next (bootRomVerify_of_none hrom hspi ha hb)⟩
  case perst =>
    exact ⟨fun h => congrArg Host.Outcome.next (perstDeassert_of_other h),
      fun hstage hspi => congrArg Host.Outcome.next (perstDeassert_of_waiting hstage hspi)⟩
  case stack =>
    have hexec : exec (.hbmStackTrained n) s = .next (stackTrained n s) := congrArg Host.Outcome.next (if_pos hn)
    rw [hexec]
    refine ⟨fun hfail => congrArg Host.Outcome.next (stackTrained_of_failed hadm hstage hfail),
      fun hfail hmore => congrArg Host.Outcome.next (stackTrained_of_more hadm hstage hfail hmore),
      fun hfail hlast hctl => congrArg Host.Outcome.next ((stackTrained_of_last hadm hstage hfail hlast).trans ?_),
      fun hfail hlast hctl => congrArg Host.Outcome.next ((stackTrained_of_last hadm hstage hfail hlast).trans ?_)⟩
    · exact congrArg State.exitDone (if_pos hctl)
    · exact congrArg State.exitDone (if_neg (ne_true_of_eq_false hctl))
  case limit =>
    exact ⟨fun h => congrArg Host.Outcome.next (t1Limit_of_ready h),
      fun hstage hctl hstacks hfail => congrArg Host.Outcome.next (t1Limit_of_untrained hstage hctl hstacks hfail)⟩
  case store =>
    obtain rfl := cmd_id h.1
    intro r commit fin
    exact ⟨fun hop => ⟨(exec_nvmStoreStore_of_mayRun h hturn hop true).trans (congrArg Host.Outcome.next nvmStore_of_written),
        exec_nvmStoreStore_of_mayRun h hturn hop false⟩,
      fun hop => ⟨(exec_nvmStoreClear_of_mayRun h hturn hop true).trans (congrArg Host.Outcome.next nvmStore_of_written),
        exec_nvmStoreClear_of_mayRun h hturn hop false⟩⟩

end Sys2Proof.Machine
end

section
/-! SUPPORT. Functions and resets (R474 to R478, R481 to R483, R485, R487). -/

namespace Sys2Proof.Machine

section
variable {s : State} {f v : Nat}

/-! ### CTL_FN (R474, R475) -/

/-- A write of CTL_FN[f] with EN = 0: the function does not open again. -/
def State.writeFnOff (s : State) (f v : Nat) : State :=
  let u := s.putFn f v
  u.setBoot { u.boot with fnAgain := setBitN u.boot.fnAgain f false }

section
variable (hf : f < 8) (hon : s.blkOn .CTL = true)
include hf hon

theorem exec_ctlFnDisableStop_of_on (hv : bitsOf v 1 0 = 0) : exec (.ctlFnDisableStop f v) s = .next (fnDisableStop f v s) :=
  congrArg Host.Outcome.next ((if_pos (by simp [hf, hv])).trans (hostWrite_of_on hon _))

theorem exec_ctlFnDisableDrain_of_on (hv : bitsOf v 1 0 = 2) : exec (.ctlFnDisableDrain f v) s = .next (fnDisableDrain f v s) :=
  congrArg Host.Outcome.next ((if_pos (by simp [hf, hv])).trans (hostWrite_of_on hon _))

theorem exec_ctlFnEnable_of_on (hv : bitAt v 0 = true) : exec (.ctlFnEnable f v) s = .next ((fnEnable f v s).winch s) :=
  congrArg Host.Outcome.next ((if_pos (by simp [hf, hv])).trans (hostWrite_of_on hon _))

end

theorem fnDisableStop_of_enabled (h : (s.writeFnOff f v).rd .CTL_FN_STATE f = 0) :
    fnDisableStop f v s = (((s.writeFnOff f v).fnStop f 1).fnEnd f).fnCheck f := by
  simp only [State.writeFnOff] at h
  simp only [fnDisableStop, h, State.writeFnOff]

theorem fnDisableStop_of_draining (h : (s.writeFnOff f v).rd .CTL_FN_STATE f = 2) :
    fnDisableStop f v s = (((s.writeFnOff f v).wr .CTL_FN_STATE f 0 1).fnEnd f).fnCheck f := by
  simp only [State.writeFnOff] at h
  simp only [fnDisableStop, h, State.writeFnOff]

theorem fnDisableStop_of_disabled (h : (s.writeFnOff f v).rd .CTL_FN_STATE f = 4) : fnDisableStop f v s = s.writeFnOff f v := by
  simp only [State.writeFnOff] at h
  simp only [fnDisableStop, h, State.writeFnOff]

theorem fnEnable_of_enabled (h : (s.putFn f v).rd .CTL_FN_STATE f = 0) : fnEnable f v s = s.putFn f v := by
  simp only [fnEnable, h]

theorem fnEnable_of_disabled (h : (s.putFn f v).rd .CTL_FN_STATE f = 4) : fnEnable f v s = (s.putFn f v).wr .CTL_FN_STATE f 0 0 := by
  simp only [fnEnable, h]

/-- During a disable the function opens again after it. -/
theorem fnEnable_of_stopping (h : (s.putFn f v).rd .CTL_FN_STATE f = 1) : fnEnable f v s =
    (s.putFn f v).setBoot { (s.putFn f v).boot with fnAgain := setBitN (s.putFn f v).boot.fnAgain f true } := by
  simp only [fnEnable, h]

/-- STOPPING or DRAINING. -/
theorem closing_of_state {t : Nat} (h : t = 1 ∨ t = 2) : (decide (t = 1) || decide (t = 2)) = true := by
  simpa using h

theorem fnCheck_of_idle (h : s.rd .CTL_FN_STATE f = 1 ∨ s.rd .CTL_FN_STATE f = 2) (hcmds : s.fnCmds f = [])
    (hrst : s.bit .CTL_FN_RST_FN f = false) : s.fnCheck f = (s.fnDone f).winch s :=
  if_pos (by rw [closing_of_state h, hcmds, hrst]; rfl)

theorem fnCheck_of_busy (hcmds : s.fnCmds f ≠ []) : s.fnCheck f = s :=
  if_neg (by simp [hcmds])

theorem fnTimeout_of_due {due : Nat} (htimer : Map.find s.boot.fnTimer f = some due) (hdue : due ≤ s.now) (hdeep : s.deeper = false)
    (h : s.rd .CTL_FN_STATE f = 1 ∨ s.rd .CTL_FN_STATE f = 2) : fnTimeout f s = (s.fnReset f).wr .CTL_FN_STATE f 0 3 := by
  simp only [fnTimeout, htimer, closing_of_state h, hdue, hdeep, decide_true, Bool.not_false, Bool.and_self, if_true]

theorem fnTimeout_of_none (htimer : Map.find s.boot.fnTimer f = none) : fnTimeout f s = s := by
  simp only [fnTimeout, htimer]

/-! ### CTL_RESET, CTL_FN_RST and CTL_CTX_RST (R477, R478, R482, R483, R485) -/

section
variable (hlock : s.pwr.lockout = false)
include hlock

theorem resetWrite_of_noKey (hkey : bitsOf v 15 8 ≠ 0x5A) : s.resetWrite v = s.bump .CTL_RST_CNT_COUNT 7 0 1 :=
  (if_neg (ne_true_of_eq_false hlock)).trans (if_pos (bne_iff_ne.mpr hkey))

theorem resetWrite_of_key (hkey : bitsOf v 15 8 = 0x5A) :
    s.resetWrite v = if bitAt v 1 then s.warm 3 else if bitAt v 0 && !s.deeper then s.soft else s :=
  (if_neg (ne_true_of_eq_false hlock)).trans (if_neg (by rw [hkey]; decide))

end

theorem exec_ctlResetSoft_of_on (hon : s.blkOn .CTL = true) : exec (.ctlResetSoft v) s = .next (s.resetWrite v) :=
  congrArg Host.Outcome.next (hostWrite_of_on hon _)

theorem exec_ctlResetWarm_of_on (hon : s.blkOn .CTL = true) : exec (.ctlResetWarm v) s = .next (s.resetWrite v) :=
  congrArg Host.Outcome.next (hostWrite_of_on hon _)

theorem softEnd_of_none (h : s.on .CTL_RESET_SOFT = false) : softEnd s = s := if_neg (by simp [h])

theorem softEnd_of_ready (h : s.on .CTL_RESET_SOFT = true) (hready : s.rd .CTL_READY_T1 = 255 ∨ s.boot.stage ≠ .configured) : softEnd s =
    (List.range 8).foldl (fun (s : State) f =>
        if s.rd .CTL_FN_STATE f = 1 || s.rd .CTL_FN_STATE f = 2 || s.rd .CTL_FN_STATE f = 3 then s.fnDone f else s)
      (s.wr .CTL_RESET_SOFT 0 0 0) :=
  if_pos (by rw [h]; simpa using hready)

theorem exec_ctlFnRst_of_on (hon : s.blkOn .CTL = true) : exec (.ctlFnRst v) s = .next (fnRst v s) :=
  congrArg Host.Outcome.next (hostWrite_of_on hon _)

theorem exec_ctlCtxRst_of_on (hon : s.blkOn .CTL = true) :
    exec (.ctlCtxRst v) s = .next (ctxRst v (s.latched (Fld.CTL_CTX_RST_CTX.bar0 0 0) v)) :=
  congrArg Host.Outcome.next (hostWrite64_of_on (r := .CTL_CTX_RST_CTX) 0 v _ hon)

theorem fnRst_of_deeper (h : s.deeper = true) : fnRst v s = s := if_pos h

theorem fnRst_of_shallow (h : s.deeper = false) : fnRst v s =
    (List.range 8).foldl (fun (s : State) f => if bitAt v f && !s.bit .CTL_FN_RST_FN f then s.fnReset f else s) s :=
  if_neg (ne_true_of_eq_false h)

theorem ctxRst_of_deeper (h : s.deeper = true) : ctxRst v s = s := if_pos h

theorem ctxRst_of_shallow (h : s.deeper = false) : ctxRst v s =
    (List.range 64).foldl (fun (s : State) c => if bitAt v c && !s.bit .CTL_CTX_RST_CTX c then s.ctxReset c else s) s :=
  if_neg (ne_true_of_eq_false h)

/-! ### The end of a reset (R476, R482) -/

theorem fnResetEnd_of_none (h : s.bit .CTL_FN_RST_FN f = false) : fnResetEnd f s = s := if_pos (by rw [h]; rfl)

/-- The reset bit cleared, and the engine ready where its lanes are. -/
def State.endFnReset (s : State) (f : Nat) : State := (s.wrBit .CTL_FN_RST_FN 0 f false).readyEngine f

theorem fnResetEnd_of_reset (h : s.bit .CTL_FN_RST_FN f = true) (hgore : f ≠ 6) : fnResetEnd f s =
    (let u := s.endFnReset f
     (if u.rd .CTL_FN_STATE f = 1 || u.rd .CTL_FN_STATE f = 2 || u.rd .CTL_FN_STATE f = 3 then u.fnDone f else u).winch s) :=
  if_neg (by simp [h, hgore])

end

/-- Settles O51: each write, timeout and end of a reset by the lemma on its meaning. -/
theorem functionsAndResets : Obligations.FunctionsAndResets := by
  unfold Obligations.FunctionsAndResets
  refine ⟨fun f v s hf hon => ?fn, fun f s hf => ?done, fun dt f s hf => ?timeout, fun v s hon hlock => ?reset,
    fun s => ⟨fun h => congrArg Host.Outcome.next (softEnd_of_none h), fun h hready => congrArg Host.Outcome.next (softEnd_of_ready h hready)⟩,
    fun v s hon => ?bits, fun f s hf => ?fnEnd, fun c s hc => congrArg Host.Outcome.next (if_pos hc)⟩
  case fn =>
    intro u w
    refine ⟨fun hv => ?_, fun hv => ?_, fun hv => ?_⟩
    · rw [exec_ctlFnDisableStop_of_on hf hon hv]
      exact ⟨fun h => congrArg Host.Outcome.next (fnDisableStop_of_enabled h), fun h => congrArg Host.Outcome.next (fnDisableStop_of_draining h),
        fun h => congrArg Host.Outcome.next (fnDisableStop_of_disabled h)⟩
    · rw [exec_ctlFnDisableDrain_of_on hf hon hv]
      exact ⟨fun h => congrArg Host.Outcome.next (if_pos h), fun h => congrArg Host.Outcome.next (if_neg h)⟩
    · rw [exec_ctlFnEnable_of_on hf hon hv]
      exact ⟨fun h => congrArg (fun x : State => Host.Outcome.next (x.winch s)) (fnEnable_of_enabled h),
        fun h => congrArg (fun x : State => Host.Outcome.next (x.winch s)) (fnEnable_of_disabled h),
        fun h => congrArg (fun x : State => Host.Outcome.next (x.winch s)) (fnEnable_of_stopping h)⟩
  case done =>
    have hexec : exec (.fnAcceptedWorkDone f) s = .next (s.fnCheck f) := congrArg Host.Outcome.next (if_pos hf)
    rw [hexec]
    exact ⟨fun h hcmds hrst => congrArg Host.Outcome.next (fnCheck_of_idle h hcmds hrst),
      fun hcmds => congrArg Host.Outcome.next (fnCheck_of_busy hcmds)⟩
  case timeout =>
    have hexec : exec (.fnDisableTimeout dt f) s = .next (fnTimeout f (s.pass dt)) := congrArg Host.Outcome.next (if_pos hf)
    rw [hexec]
    exact ⟨fun due htimer hdue hdeep h => congrArg Host.Outcome.next (fnTimeout_of_due htimer hdue hdeep h),
      fun htimer => congrArg Host.Outcome.next (fnTimeout_of_none htimer)⟩
  case reset =>
    rw [exec_ctlResetSoft_of_on hon, exec_ctlResetWarm_of_on hon]
    refine ⟨fun hkey => ⟨congrArg Host.Outcome.next (resetWrite_of_noKey hlock hkey), congrArg Host.Outcome.next (resetWrite_of_noKey hlock hkey)⟩,
      fun hkey hwarm => congrArg Host.Outcome.next ((resetWrite_of_key hlock hkey).trans (if_pos hwarm)), fun hkey hwarm hsoft => ?_⟩
    rw [resetWrite_of_key hlock hkey, if_neg (ne_true_of_eq_false hwarm)]
    exact ⟨fun hdeep => congrArg Host.Outcome.next (if_pos (by rw [hsoft, hdeep]; rfl)),
      fun hdeep => congrArg Host.Outcome.next (if_neg (by simp [hdeep]))⟩
  case bits =>
    intro l
    rw [exec_ctlFnRst_of_on hon, exec_ctlCtxRst_of_on hon]
    exact ⟨fun h => ⟨congrArg Host.Outcome.next (fnRst_of_deeper h), congrArg Host.Outcome.next (ctxRst_of_deeper h)⟩,
      fun h => ⟨congrArg Host.Outcome.next (fnRst_of_shallow h), congrArg Host.Outcome.next (ctxRst_of_shallow h)⟩⟩
  case fnEnd =>
    have hexec : exec (.fnResetEnd f) s = .next (fnResetEnd f s) := congrArg Host.Outcome.next (if_pos hf)
    rw [hexec]
    refine ⟨fun h => congrArg Host.Outcome.next (fnResetEnd_of_none h), fun h hgore => ?_⟩
    rw [fnResetEnd_of_reset h hgore]
    refine ⟨fun hst => congrArg (fun x : State => Host.Outcome.next (x.winch s)) (if_neg ?_),
      fun hst => congrArg (fun x : State => Host.Outcome.next (x.winch s)) (if_pos ?_)⟩ <;>
    · change (s.endFnReset f).rd .CTL_FN_STATE f = _ at hst
      rw [hst]
      decide

end Sys2Proof.Machine
end

section
/-! SUPPORT. Input power, the drogue, the limiter and temperature (R500, R502 to R506, R508, R510, R529). -/

namespace Sys2Proof.Machine

section
variable {s : State}

/-! ### The input rail (R500, R529) -/

section
variable {dt : Nat} (hpow : (s.pass dt).powered = true)
include hpow

theorem exec_inputLowVin_of_powered : exec (.inputLowVin dt) s = .next
    (((((s.pass dt).setCause cLowVin true).wr .CTL_PIN_STS_PWR_ALERT 0 0 1).bump .PWR_CNT_COUNT 7 0 1).withdrawClock) :=
  congrArg Host.Outcome.next (if_pos hpow)

theorem exec_lowVinClear_of_powered : exec (.lowVinClear dt) s = .next (((s.pass dt).setCause cLowVin false).wr .CTL_PIN_STS_PWR_ALERT 0 0 0) :=
  congrArg Host.Outcome.next (if_pos hpow)

theorem exec_vinHighRideThrough_of_powered (high : Bool) : exec (.vinHighRideThrough dt high) s = .next
    ((s.pass dt).wr .CTL_PIN_STS_PWR_ALERT 0 0 (b2n (high || (s.pass dt).bit .PWR_STS_CAUSE cLowVin))) :=
  congrArg Host.Outcome.next (if_pos hpow)

theorem exec_drogueAdmit_of_powered : exec (.drogueAdmit dt) s = .next (drogueAdmit (s.pass dt)) :=
  congrArg Host.Outcome.next (if_pos hpow)

end

/-! ### The drogue (R502 to R504) -/

theorem drogueAdmit_of_debt (h : s.payDebt.pwr.debt ≠ 0) : drogueAdmit s = s.payDebt := if_pos (by simp [h])

theorem drogueAdmit_of_hold (h : s.payDebt.wakeHold = true) : drogueAdmit s = s.payDebt := if_pos (by simp [h])

section
variable (hdebt : s.payDebt.pwr.debt = 0) (hhold : s.payDebt.wakeHold = false)
include hdebt hhold

theorem drogue_open : ¬((s.payDebt.pwr.debt != 0 || s.payDebt.wakeHold) = true) := by
  simp [hdebt, hhold]

theorem drogueAdmit_of_none (h : s.payDebt.pwr.wakes = []) : drogueAdmit s = s.payDebt := by
  refine (if_neg (drogue_open hdebt hhold)).trans ?_
  rw [h]

/-- The state that has admitted the wake `w`: its power is owed, and its wait counts. -/
def State.admitWake (s : State) (w : Wake) (t : List Wake) : State :=
  let deci := s.pwr.deciRem + w.deci
  let wait := s.now - w.at_
  let a := (s.setPwr { s.pwr with wakes := t, debt := (w.deci : Rat) / 10, deciRem := deci % 10 }).refreshDrogue
  let b := (a.bump .PWR_CNT_COUNT 1 0 (deci / 10)).bump .PWR_CNT_COUNT 2 0 wait
  (b.wr .PWR_DROGUE_MAX_WAIT 0 0 (max (b.rd .PWR_DROGUE_MAX_WAIT) (min wait (2 ^ 32 - 1)))).startLoad w

theorem drogueAdmit_of_wake {w : Wake} {t : List Wake} (h : s.payDebt.pwr.wakes = w :: t) : drogueAdmit s = s.payDebt.admitWake w t := by
  refine (if_neg (drogue_open hdebt hhold)).trans ?_
  rw [h]
  rfl

end

/-! ### The limiter (R505, R506) -/

/-- The readings of a limiter tick, whether the TDP is passed, and the driver's cause. -/
def State.takeReadings (s : State) (i10 p1 vin : Nat) : State :=
  let a := ((s.wr .PWR_STS_VIN_MV 0 0 vin).wr .PWR_STS_IIN_MA 0 0 i10).wr .PWR_STS_PIN_W 0 0 p1
  a.setPwr { a.pwr with overs := (a.pwr.overs * 2 + b2n (decide (a.rd .PWR_LIMIT_TDP_W < p1))) % 2 ^ 1000 }
def State.showDriver (s : State) : State := s.setCause cDriver (decide (s.rd .PWR_CLK_MAX_MHZ < 4800))

/-- A peak drops the clock at once. -/
def State.dropRoot (s : State) (root : Nat) : State :=
  let d := (s.setRoot (max (root - 400) 2400)).bump .PWR_CNT_COUNT 6 0 1
  (d.setPwr { d.pwr with dropAt := some d.now }).setCause cPeak true

/-- What a limiter tick does with the clock: drop, lower, follow the ceiling, ask for more, or nothing. -/
def State.moveRoot (s : State) (root p100 i10 p1 : Nat) : State :=
  if decide (s.rd .PWR_LIMIT_PEAK_W < p100) || decide (25000 < i10) then s.dropRoot root
  else if popcount 1000 s.pwr.overs ≥ 500 then
    (if 2400 < root then s.setRoot (root - 100) else s.shedPanel).setCause cAverage true
  else if s.rootCeiling < root then s.setRoot (max (root - 100) s.rootCeiling)
  else if s.mayStepUp p1 && !s.clockAsked then s.askWake .clock 0 240
  else s

/-- The end of a limiter tick: requests and causes that hold no more are taken back. -/
def State.settleLimit (s : State) (p1 tdp : Nat) : State :=
  let y := if s.clockAsked && !s.mayStepUp p1 then s.withdrawClock else s
  let z := if y.noDrop then y.setCause cPeak false else y
  if p1 + 25 ≤ tdp then (z.setCause cAverage false).unshed else z

section
variable {p100 i10 p1 vin : Nat}

theorem limiterTick_eq : limiterTick p100 i10 p1 vin s =
    ((s.takeReadings i10 p1 vin).showDriver.moveRoot ((s.takeReadings i10 p1 vin).rd .PWR_CLK_ROOT_MHZ) p100 i10 p1).settleLimit p1
      ((((s.wr .PWR_STS_VIN_MV 0 0 vin).wr .PWR_STS_IIN_MA 0 0 i10).wr .PWR_STS_PIN_W 0 0 p1).rd .PWR_LIMIT_TDP_W) := by
  unfold limiterTick State.settleLimit State.moveRoot State.dropRoot State.showDriver State.takeReadings
  with_reducible rfl

theorem moveRoot_of_peak {root : Nat} (h : s.rd .PWR_LIMIT_PEAK_W < p100 ∨ 25000 < i10) : s.moveRoot root p100 i10 p1 = s.dropRoot root :=
  if_pos (by simpa using h)

theorem moveRoot_of_rest {root : Nat} (hpeak : p100 ≤ s.rd .PWR_LIMIT_PEAK_W) (hin : i10 ≤ 25000) (hover : popcount 1000 s.pwr.overs < 500)
    (hroot : root ≤ s.rootCeiling) (hstep : s.mayStepUp p1 = false) : s.moveRoot root p100 i10 p1 = s := by
  have hdrop : ¬((decide (s.rd .PWR_LIMIT_PEAK_W < p100) || decide (25000 < i10)) = true) := by simp [hpeak, hin]
  exact (if_neg hdrop).trans ((if_neg (Nat.not_le.mpr hover)).trans ((if_neg (Nat.not_lt.mpr hroot)).trans (if_neg (by simp [hstep]))))

theorem exec_limiterTick_of_powered {dt : Nat} (hpow : (s.pass dt).powered = true) (hdies : (s.pass dt).boot.diesOff = false) :
    exec (.limiterTick dt p100 i10 p1 vin) s = .next (limiterTick p100 i10 p1 vin (s.pass dt)) :=
  congrArg Host.Outcome.next (if_pos (by simp [hpow, hdies]))

end

/-! ### Temperature (R508, R510) -/

/-- The temperatures of a tick, sensor by sensor. -/
def State.takeTemps (s : State) (temps : List (Option Nat)) : State :=
  (temps.take 52).zipIdx.foldl (fun (s : State) (p : Option Nat × Nat) => p.1.elim s fun c => s.putTemp p.2 c) s

def State.hotJunction (s : State) : Bool := (List.range 44).any s.hotAt
def State.hotHbm (s : State) : Bool := (List.range 8).any fun n => s.hotAt (44 + n)

section
variable {temps : List (Option Nat)}

theorem thermalTick_eq : thermalTick temps s =
    (let u := s.takeTemps temps
     if u.hotJunction || u.hotHbm then ((u.setTceil (max (u.pwr.tceil - 100) 2400)).heat cJunction u.hotJunction).heat cHbm u.hotHbm
     else if (List.range 52).all u.coolAt && decide (u.pwr.tceilAt + 1000000 ≤ u.now) then
       let w := u.setTceil (min (u.pwr.tceil + 100) 4800)
       if w.pwr.tceil = 4800 then (w.setCause cJunction false).setCause cHbm false else w
     else u) := by
  have hread : (fun (s : State) (p : Option Nat × Nat) => p.1.elim s fun c => s.putTemp p.2 c) =
      fun s p => match p.1 with | some c => s.putTemp p.2 c | none => s := by
    funext s p
    cases p.1 <;> rfl
  unfold State.takeTemps
  rw [hread]
  rfl

theorem thermalTick_of_hot (h : (s.takeTemps temps).hotJunction = true ∨ (s.takeTemps temps).hotHbm = true) : thermalTick temps s =
    (let u := s.takeTemps temps
     ((u.setTceil (max (u.pwr.tceil - 100) 2400)).heat cJunction u.hotJunction).heat cHbm u.hotHbm) :=
  thermalTick_eq.trans (if_pos (Bool.or_eq_true _ _ ▸ h))

theorem thermalTick_of_rest (hj : (s.takeTemps temps).hotJunction = false) (hh : (s.takeTemps temps).hotHbm = false)
    (hcool : (List.range 52).all (s.takeTemps temps).coolAt = false) : thermalTick temps s = s.takeTemps temps := by
  refine thermalTick_eq.trans ((if_neg ?_).trans (if_neg ?_))
  · rw [hj, hh]
    decide
  · rw [hcool, Bool.false_and]
    decide

theorem exec_thermalTick_of_powered {dt : Nat} (hpow : (s.pass dt).powered = true) (hdies : (s.pass dt).boot.diesOff = false) :
    exec (.thermalTick dt temps) s = .next (thermalTick temps (s.pass dt)) :=
  congrArg Host.Outcome.next (if_pos (by simp [hpow, hdies]))

theorem exec_thermalTrip_of_powered {dt n : Nat} (hn : n < 52) (hpow : (s.pass dt).powered = true) (hdies : (s.pass dt).boot.diesOff = false) :
    exec (.thermalTrip dt n) s = .next (thermalTrip n (s.pass dt)) :=
  congrArg Host.Outcome.next (if_pos (by simp [hpow, hdies, hn]))

end

end

/-- Settles O53: each event of the input rail, the drogue, the limiter and the sensors by the lemma on its meaning. -/
theorem powerAndHeat : Obligations.PowerAndHeat := by
  unfold Obligations.PowerAndHeat
  refine ⟨fun dt s hpow => ⟨exec_inputLowVin_of_powered hpow, exec_lowVinClear_of_powered hpow, exec_vinHighRideThrough_of_powered hpow true,
      exec_vinHighRideThrough_of_powered hpow false⟩, fun dt s hpow => ?drogue, fun dt p100 i10 p1 vin s hpow hdies => ?limiter,
    fun dt temps s hpow hdies => ?thermal, fun dt n s hn hpow hdies => exec_thermalTrip_of_powered hn hpow hdies, fun dt s => rfl⟩
  case drogue =>
    rw [exec_drogueAdmit_of_powered hpow]
    exact ⟨fun h => congrArg Host.Outcome.next (drogueAdmit_of_debt h), fun h => congrArg Host.Outcome.next (drogueAdmit_of_hold h),
      fun hdebt hhold h => congrArg Host.Outcome.next (drogueAdmit_of_none hdebt hhold h),
      fun w t hdebt hhold h => congrArg Host.Outcome.next (drogueAdmit_of_wake hdebt hhold h)⟩
  case limiter =>
    intro u a b c fin
    have hb : u.takeReadings i10 p1 vin = b := by
      unfold State.takeReadings
      with_reducible rfl
    have hc : b.showDriver = c := rfl
    have hfin (x : State) : Host.Outcome.next (x.settleLimit p1 (a.rd .PWR_LIMIT_TDP_W)) = fin x := rfl
    have hexec : exec (.limiterTick dt p100 i10 p1 vin) s = fin (c.moveRoot (b.rd .PWR_CLK_ROOT_MHZ) p100 i10 p1) := by
      rw [exec_limiterTick_of_powered hpow hdies, limiterTick_eq, hb, hc]
      exact hfin _
    refine ⟨fun hpeak => hexec.trans (congrArg fin ?_), fun hpeak hin hover hroot hstep => hexec.trans (congrArg fin ?_)⟩
    · exact moveRoot_of_peak hpeak
    · exact moveRoot_of_rest hpeak hin hover hroot hstep
  case thermal =>
    rw [exec_thermalTick_of_powered hpow hdies]
    exact ⟨fun h => congrArg Host.Outcome.next (thermalTick_of_hot h),
      fun hj hh hcool => congrArg Host.Outcome.next (thermalTick_of_rest hj hh hcool)⟩

end Sys2Proof.Machine
end

section
/-! SUPPORT. TDISP: an interface is locked, started, stopped and reported (R435 to R437, R439). -/

namespace Sys2Proof.Machine

/-- A request inside an open session of its port. -/
theorem inSession_of_open {s : State} {port sid : Nat} {x : SpdmSess} (hport : port < 2) (hon : s.spdmOn port = true)
    (hsess : s.spdmSess port sid = some x) (hopen : x.open_ = true) (f : SpdmSess → State) : s.inSession port sid f = f x := by
  have hrow : (decide (port < 2) && s.spdmOn port) = true := by simp [hport, hon]
  simp only [State.inSession, hrow, hsess, hopen, if_true]

section
variable {s : State} {port c : Nat}

/-! ### LOCK_INTERFACE_REQUEST (R436) -/

theorem lockInterface_of_missing (h : s.rd .SEC_CTX_TDI c = 0 ∨ s.port c ≠ port) (stream : Nat) :
    lockInterface port c stream s = s.tdiMissing port :=
  if_pos (by simpa using h)

section
variable (htdi : s.rd .SEC_CTX_TDI c ≠ 0) (hown : s.port c = port)
include htdi hown

theorem lockInterface_of_state (h : s.rd .SEC_CTX_TDI c ≠ 1) (stream : Nat) : lockInterface port c stream s = s.tdiState port :=
  (if_neg (by simp [htdi, hown])).trans (if_pos (bne_iff_ne.mpr h))

/-- An interface in CONFIG_UNLOCKED is locked unless its context has pairs, holds something, or debug is open. -/
theorem lockInterface_of_unlocked (h : s.rd .SEC_CTX_TDI c = 1) (stream : Nat) : lockInterface port c stream s =
    if s.on .HTI_W_AQCFG_EN c || s.holdsAny c || s.on .SEC_DEBUG_STATE then s.tdispError port 0x104
    else
      let v := ((s.bridleZero c).eraseKeys c).newStorage c
      let w := v.setSec { v.sec with tdiStream := Map.put v.sec.tdiStream c stream }
      let t := (w.wr .SEC_CTX_TDI c 0 2).bump .SEC_CNT_COUNT 7 0 1
      (t.tdisp port 3 32 (t.free / 2 ^ 32)).tickFree :=
  (if_neg (by simp [htdi, hown])).trans (if_neg (by rw [h]; decide))

end

/-! ### The other requests of a TDI (R435, R439) -/

/-- The context is a TDI of the port. -/
def State.isTdi (s : State) (port c : Nat) : Bool := decide (c < 64) && decide (s.port c = port) && s.rd .SEC_CTX_TDI c != 0

theorem isTdi_of_missing (h : s.rd .SEC_CTX_TDI c = 0 ∨ s.port c ≠ port) : s.isTdi port c = false := by
  rcases h with h | h <;> simp [State.isTdi, h]

theorem isTdi_of_own (hc : c < 64) (htdi : s.rd .SEC_CTX_TDI c ≠ 0) (hown : s.port c = port) : s.isTdi port c = true := by
  simp [State.isTdi, hc, htdi, hown]

section
variable {sid : Nat} {x : SpdmSess} (hport : port < 2) (hon : s.spdmOn port = true) (hsess : s.spdmSess port sid = some x) (hopen : x.open_ = true)
include hport hon hsess hopen

theorem exec_lockInterfaceRequest_in_session (hc : c < 64) (stream : Nat) :
    exec (.lockInterfaceRequest port sid c stream) s = .next (lockInterface port c stream s) :=
  congrArg Host.Outcome.next ((inSession_of_open hport hon hsess hopen _).trans (if_pos hc))

theorem exec_startInterfaceRequest_in_session : exec (.startInterfaceRequest port sid c) s = .next
    (if s.isTdi port c then
      if s.rd .SEC_CTX_TDI c = 2 then (s.wr .SEC_CTX_TDI c 0 3).tdisp port 6 0 0 else s.tdiState port
    else s.tdiMissing port) :=
  congrArg Host.Outcome.next (inSession_of_open hport hon hsess hopen _)

theorem exec_stopInterfaceRequest_in_session (reads : List (Option Nat)) : exec (.stopInterfaceRequest port sid c reads) s = .next
    (if s.isTdi port c then if s.locked c then stopInterface port c reads s else s.tdiState port else s.tdiMissing port) :=
  congrArg Host.Outcome.next (inSession_of_open hport hon hsess hopen _)

theorem exec_tdispGetRequest_in_session (kind : Nat) : exec (.tdispGetRequest port sid c kind) s = .next
    (if s.isTdi port c then tdispGet port c kind s else s.tdiMissing port) :=
  congrArg Host.Outcome.next (inSession_of_open hport hon hsess hopen _)

end

theorem tdispGet_of_other {kind : Nat} (h : 3 < kind) : tdispGet port c kind s = s.tdispError port 7 := by
  obtain ⟨n, rfl⟩ := Nat.exists_eq_add_of_lt h
  rw [show 3 + n + 1 = n + 4 by omega]
  rfl

end

/-- Settles O55: each request inside an open session by the lemma on its meaning. -/
theorem interfaceStates : Obligations.InterfaceStates := by
  unfold Obligations.InterfaceStates
  intro port sid x s c hport hon hsess hopen hc missing wrong reserved
  have hlock (stream : Nat) := exec_lockInterfaceRequest_in_session hport hon hsess hopen hc stream
  have hstart := exec_startInterfaceRequest_in_session (c := c) hport hon hsess hopen
  have hstop (reads : List (Option Nat)) := exec_stopInterfaceRequest_in_session (c := c) hport hon hsess hopen reads
  have hget (kind : Nat) := exec_tdispGetRequest_in_session (c := c) hport hon hsess hopen kind
  refine ⟨fun h stream reads kind => ?missing, fun htdi hown => ?tdi⟩
  case missing =>
    rw [hlock, hstart, hstop, hget, lockInterface_of_missing h, isTdi_of_missing h]
    exact ⟨rfl, rfl, rfl, rfl⟩
  case tdi =>
    simp only [isTdi_of_own hc htdi hown, if_true] at hstart hstop hget
    refine ⟨fun stream h => ?_, fun stream h => (hlock stream).trans (congrArg Host.Outcome.next (lockInterface_of_state htdi hown h stream)),
      fun h => hstart.trans (congrArg Host.Outcome.next (if_pos h)), fun h => hstart.trans (congrArg Host.Outcome.next (if_neg h)),
      fun reads h => (hstop reads).trans (congrArg Host.Outcome.next (if_pos h)),
      fun reads h => (hstop reads).trans (congrArg Host.Outcome.next (if_neg (ne_true_of_eq_false h))), hget 0, hget 3,
      fun h => (hget 2).trans (congrArg Host.Outcome.next (if_neg (ne_true_of_eq_false h))),
      fun h => (hget 2).trans (congrArg Host.Outcome.next (if_pos h)),
      fun kind h => (hget kind).trans (congrArg Host.Outcome.next (tdispGet_of_other h))⟩
    rw [hlock, lockInterface_of_unlocked htdi hown h]
    exact ⟨fun hfree => congrArg Host.Outcome.next (if_neg (ne_true_of_eq_false hfree)), fun hheld => congrArg Host.Outcome.next (if_pos hheld)⟩

end Sys2Proof.Machine
end
